-- ==== Sys2Proof/Word.lean ====
section
/-! DEFINITION. The plainest types of the model: bytes, 64-bit words and tables sorted by key. -/

namespace Sys2Proof

/-- One byte (R7: multi-byte fields are lists of these, lowest address first). -/
abbrev Byte := BitVec 8

/-- A string of bytes in address order. -/
abbrev Bytes := List Byte

/-- One 64-bit word of a host-visible structure. -/
abbrev Word := BitVec 64

/-- A table from a number to a value: pairs with keys strictly rising (`Machine.Tbl.wf`). -/
abbrev Tbl (α : Type) := List (Nat × α)

end Sys2Proof
end

