-- ==== Sys2Proof/Syntax.lean ====
section
/-! DEFINITION. The commands of the block: every row of the table of operations and events, as one inductive type, and the plain types of their operands. -/

namespace Sys2Proof

/-- A 64-byte submission entry as eight little-endian words (R273). -/
structure SqEntry where
  w0 : Word
  w1 : Word
  w2 : Word
  w3 : Word
  w4 : Word
  w5 : Word
  w6 : Word
  w7 : Word
deriving DecidableEq, Repr

/-- An event's identity: the chapter that raises it (the high byte of CODE), the rule, and a number among that rule's events. -/
structure EvId where
  chapter : Nat
  rule    : Nat
  nth     : Nat
deriving DecidableEq, Repr

/-- A coalescing key: CODE, SOURCE_KIND and SOURCE_INSTANCE (R579). -/
structure EvKey where
  id   : EvId
  kind : Nat
  inst : Nat
deriving DecidableEq, Repr

/-- What makes a masked vector sendable again (R351). -/
inductive Unmask
  | vector (v : Nat)
  | function
  | enable
deriving DecidableEq, Repr

/-- A configuration-space bit of a function without behaviour of its own. -/
inductive CfgBit
  | memorySpace | pmeEnable | msixEnable | functionMask
deriving DecidableEq, Repr

/-- One entry of a change set that an EPOCH message carries (R84): an object's address and its value. -/
structure ChangeItem where
  index : Nat
  inst  : Nat
  sub   : Nat
  value : Int
deriving DecidableEq, Repr

/-- The target of a REGISTER_WRITE: a dictionary object, a location of a BAR, or a configuration-space bit. -/
inductive RegTarget
  | object (index inst sub : Nat) (value : Int)
  | blob (index inst sub : Nat) (value : Bytes)
  | mmio (fn bar off : Nat) (data : Bytes)
  /-- A memory read of a BAR. -/
  | mmioRead (fn bar off len : Nat)
  | cfg (fn : Nat) (bit : CfgBit) (value : Bool)
deriving DecidableEq, Repr

/-- The body of an intent-log record (Table 05-4). -/
inductive RecBody
  | stripe (id seg first height cls flags fws lws : Nat)
  | atomic (vol first count : Nat)
  | dealloc (vol lba count wseq qp tag : Nat)
  | checkpoint (number : Nat) (page : Bytes)
  | segReset (slot seq : Nat)
  | segFreed (slot : Nat)
  | volume (vol cap st : Nat)
  | lost (vol lba count : Nat) (entered : Bool)
  | reshape (cursor : Nat)
  | member (slot st : Nat)
  | progress (kind vol step pos : Nat)
  | floor (kind bound : Nat)
deriving DecidableEq, Repr

/-- What a memory or cipher check finds while a sector is moved: nothing, a cipher fault (R445), or poison in one of its 32-byte words (R220). -/
inductive SecFault
  | none
  | cipher
  | poison (word : Nat)
deriving DecidableEq, Repr

/-- The fault is a poisoned word. -/
def SecFault.isPoison : SecFault → Bool
  | .poison _ => true
  | _ => false

/-- A write of part of a memory word that meets an error in the word (R218, R219): in a slice of the on-die cache or a stack of HBM, whether the error can be corrected, and whether the same transfer later writes the word whole. -/
structure PartWrite where
  sram          : Bool
  unit          : Nat
  word          : Nat
  uncorrectable : Bool
  rewritten     : Bool
deriving DecidableEq, Repr

/-- A poisoned word that a command meets, by the places of Table 05-8 that the data moved by the command does not name. -/
inductive Poison
  /-- In a slot of the protected region: its number and the 32-byte word. -/
  | slot (n word : Nat)
  /-- In copies of a slot's descriptor: 0, 1, or both. -/
  | descriptor (n : Nat) (copies : List Nat)
  /-- In the parity accumulators of the engine that owns a stripe. -/
  | accumulator (pool stripe : Nat)
  /-- In a leaf of the map. -/
  | leaf (vol leaf : Nat)
  /-- In a directory or segment directory page, by its page address. -/
  | page (pool addr : Nat)
deriving DecidableEq, Repr

/-- What a READ meets: the fault of each sector on its way, by the sector's place in the range, and the poisoned words met elsewhere (R221). -/
structure ReadMet where
  faults : List SecFault
  mems   : List Poison
deriving DecidableEq, Repr

/-- What a landing sector of a write meets: its own fault, the partial writes of memory words that meet an error (R218, R219), and the poisoned words met elsewhere (R221). -/
structure WriteMet where
  flt   : SecFault
  parts : List PartWrite
  mems  : List Poison
deriving DecidableEq, Repr

/-- A stripe whose age limit expires (R143), and the poisoned words met as it closes (R221). -/
structure AgedStripe where
  stripe : Nat
  mems   : List Poison
deriving DecidableEq, Repr

/-- How the read-back of a record's word went: how often it failed before it matched, and whether ECC corrected it (R191, R198). -/
structure ReadBack where
  fails     : Nat
  corrected : Bool
deriving DecidableEq, Repr

/-- What Identify Controller says (Table 10-2). -/
structure CtrlInfo where
  /-- Version 2.0 or later, and no fatal status. -/
  versionOk : Bool
  model     : Bytes
  serial    : Bytes
  firmware  : Bytes
  /-- Maximum Data Transfer Size in bytes; 0 is unlimited. -/
  mdts      : Nat
  /-- MQES + 1. -/
  queueDepth : Nat
  volatileCache : Bool
deriving DecidableEq, Repr

/-- What the Identify data of an active namespace says (Table 10-2). -/
structure NsInfo where
  nsid      : Nat
  /-- 0 the NVM command set, 1 the Zoned Namespace command set, others neither. -/
  set       : Nat
  /-- The 4096+64 extended format with protection off is offered, and is in force. -/
  offered   : Bool
  inForce   : Bool
  nguid     : Bytes
  eui       : Nat
  sectors   : Nat
  reservations : Bool
  deallocate : Bool
  writeZeroes : Bool
  /-- Zone capacity equal for every zone, the capacity in sectors, and the number of zones. -/
  zonesEqual : Bool
  zoneCap   : Nat
  zones     : Nat
  maxActive : Nat
  shared    : Bool
deriving DecidableEq, Repr

/-- The data of an admission command that has completed (R380). -/
inductive AdmData
  | controller (c : CtrlInfo)
  | namespaces (l : List NsInfo)
  /-- The key that holds a reservation on the namespace, if any. -/
  | reservation (holder : Option Nat)
  /-- The newest valid superblock copy of zone 0, or nothing valid. -/
  | superblock (b : Bytes)
  /-- A set-up command without data. -/
  | done
  | failed
deriving DecidableEq, Repr

/-- What a member answers when recovery reads one of its zone sectors (R98, R163, R164): member slot, zone, zone sector, and the 4,160 bytes of payload and metadata. A sector that no item names cannot be read. -/
structure MediaItem where
  member : Nat
  zone   : Nat
  zs     : Nat
  data   : Bytes
deriving DecidableEq, Repr

/-- A record as a RECORD message carries it: its record sequence and body; a CHECKPOINT record also says the sequence of its cut. -/
structure RecItem where
  seq  : Nat
  body : RecBody
  cut  : Nat
deriving DecidableEq, Repr

/-- What a drive's completion entry and its data say about a member command (R384). `status` holds the NVMe status code in bits 7–0 and its type in bits 10–8; `retry` is set while Do Not Retry is clear. -/
structure DrvStatus where
  status  : Nat
  retry   : Bool
  /-- The device had sent poisoned data (R385). -/
  poisoned : Bool
  /-- The controller reports Controller Fatal Status (Table 06-1). -/
  fatal    : Bool
  /-- Zone Management Receive: the zone's write pointer. -/
  wp      : Nat
  /-- The health log: byte 0, and the percentage used. -/
  warning : Nat
  used    : Nat
  /-- Reservation Report: the key that holds the reservation. -/
  holder  : Option Nat
deriving DecidableEq, Repr

/-- What the boot ROM finds as it checks a firmware image (R554): the SHA-384 of its public key, whether the signature verifies under that key, whether the body digest matches, and whether the header can be read. -/
structure FwAuth where
  keyHash : Bytes
  signed  : Bool
  digest  : Bool
  formed  : Bool
deriving DecidableEq, Repr, Inhabited

/-- A firmware image: what its check finds, and what its header carries. -/
structure FwImage extends FwAuth where
  version : Bytes
  compat  : Nat
  svn     : Nat
deriving DecidableEq, Repr, Inhabited

/-- What a start-up step finds (Tables 16-1 and 16-4). Each step reads only its own fields. -/
structure StartItem where
  /-- Step 2: the state block can be read, and the record sequences of ring words that cannot be read or whose CRC fails. -/
  block   : Bool
  words   : List Nat
  /-- Step 5: the images of firmware slots 0 and 1, and the outcome of the configuration replay (CONFIG_AREA_STATE). -/
  images  : List FwImage
  config  : Nat
  /-- Step 7: failed engines by 16 * cluster + engine, failed ways by 16 * slice + way, failed pipelines, and whether the wrapped store passes its check. -/
  engines : List Nat
  ways    : List Nat
  pipes   : List Nat
  wrapOk  : Bool
  /-- Step 8: usable dies, and the frames whose CRC fails, of the newest image and of the other one. -/
  dies    : Nat
  bad     : List Nat
  badOld  : List Nat
deriving DecidableEq, Repr

/-- What the checkers of an on-demand test have counted (R570); a Cistern self-test also says how many dies are usable. -/
structure TestItem where
  bits   : Nat
  errors : Nat
  lanes  : List Nat
  dies   : Nat
deriving DecidableEq, Repr

/-- JTAG instructions (R571); any other code acts as BYPASS. -/
inductive JtagOp
  | bypass | idcode | samplePreload | extest | clamp | highz
deriving DecidableEq, Repr

/-- An MCTP packet: source endpoint, packet sequence and tag (with the tag owner as bit 3), start and end of message, the PEC check on SMBus (none on I3C), and the message bytes (R63). -/
structure McPacket where
  src  : Nat
  seq  : Nat
  tag  : Nat
  som  : Bool
  eom  : Bool
  pec  : Option Bool
  data : Bytes
deriving DecidableEq, Repr

/-- A frame of the management port (R66): an ARP request, an ICMP or ICMPv6 echo request, a neighbour solicitation, or a DHCPv4 acknowledgement. -/
inductive EthFrame
  | arp (target : Nat)
  | echo4 (dst : Nat) (data : Bytes)
  | echo6 (dst data : Bytes)
  | neighbour (target : Bytes)
  | dhcp (addr : Nat)
deriving DecidableEq, Repr

/-- The commands and events of the block: one constructor per row of the table, with what the sender supplies. -/
inductive Instr where
  /-- PUSH_SLOT_WRITE (R286): A push slot of a doorbell page becomes complete and is evaluated; the entry is taken, dropped or discarded with a ring fetch. -/
  | pushSlotWrite (qp off : Nat) (data : Bytes)
  /-- PUSH_SLOT_TIMEOUT (R286): A push slot stays incomplete for 2 µs, is discarded, counted in PUSH_DROPPED and followed by a ring fetch. -/
  | pushSlotTimeout (qp slot : Nat)
  /-- SR_NOTIFY (R287): A write to SR_NOTIFY records a known-owned sequence and starts a ring fetch, or is ignored. -/
  | srNotify (qp : Nat) (v : BitVec 32)
  /-- CR_RELEASE (R281): A write to CR_RELEASE frees completion ring slots up to the given CR_SEQ, or is ignored and counted. -/
  | crRelease (qp : Nat) (v : BitVec 32)
  /-- RING_FETCH_COMPLETE (R288): The data of a submission ring read returns and each fetched entry is taken, dropped or discarded. -/
  | ringFetchComplete (qp : Nat) (entries : List SqEntry) (err : Bool)
  /-- QP_POLL (R290): QP_POLL_INTERVAL expires on a QP in POLL state and the device reads QP_POLL_BATCH entries and CR slot OWN bits. -/
  | qpPoll (qp : Nat) (entries : List SqEntry) (owns : List (Nat × Bool)) (err : Bool)
  /-- CR_SLOT_POLL (R279): While the CR is full by the CR_RELEASE count, a slot read once per QP_POLL_INTERVAL finds OWN 1 and frees the slot. -/
  | crSlotPoll (qp : Nat) (own err : Bool)
  /-- ADMIT_COMMAND (R294): The Sluice admits a QP's oldest decoded command once every admission condition holds, assigning write sequences to a WRITE. -/
  | admitCommand
  /-- COMPLETION_WRITE (R279): A built completion entry is written to a free CR slot once one is free. -/
  | completionWrite (qp : Nat)
  /-- MSIX_COALESCE_TIMEOUT (R298): CR_COALESCE_TIME passes since the first unsignalled entry and the MSI-X message is sent. -/
  | msixCoalesceTimeout (qp : Nat)
  /-- ADMIN_CTRL_ENABLE (R284): ADMIN_CTRL ENABLE creates the admin QP from its registers under the checks of R302. -/
  | adminCtrlEnable (pf : Nat) (push : Bool)
  /-- ADMIN_CTRL_RESET (R284): ADMIN_CTRL RESET performs a QUEUE_RESET of the admin QP. -/
  | adminCtrlReset (pf : Nat)
  /-- ADMIN_CTRL_MODE (R284): ADMIN_CTRL MODE written while enabled changes the admin QP between POLL and PUSH. -/
  | adminCtrlMode (pf : Nat) (push : Bool)
  /-- QP_MODE_WRITE (R301): A write of QP_MODE moves the QP between PUSH and POLL within 10 µs, or is refused. -/
  | qpModeWrite (qp mode : Nat)
  /-- QP_HALT (R299): A write of QP_HALT stops the QP's intake with HALT_CAUSE OPERATOR. -/
  | qpHalt (qp : Nat)
  /-- QUEUE_RESET_TIMEOUT (R303): The reset time limit expires and every tag still outstanding ends with ABORTED_BY_RESET. -/
  | queueResetTimeout (qp : Nat)
  /-- READ (R314): A READ command resolves each sector to its newest version and delivers it from Flume, HBM or member. -/
  | read (qp tag : Nat) (met : ReadMet)
  /-- WRITE (R317): A WRITE command is placed in an open stripe, slots are allocated and its DMA read from host memory starts. -/
  | write (qp tag : Nat)
  /-- FLUSH (R322): A FLUSH forces closed the stripes holding earlier writes of its volumes and waits for them to commit. -/
  | flush (qp tag : Nat)
  /-- FLUSH_COMPLETION (R322): Every write and deallocate admitted before the FLUSH has committed and the FLUSH completes. -/
  | flushCompletion (qp tag : Nat)
  /-- DEALLOCATE (R323): A DEALLOCATE waits for overlapping earlier writes and writes its deallocate record. -/
  | deallocate (qp tag : Nat)
  /-- DEALLOCATE_COMPLETION (R157): Overlapping earlier writes have committed and the deallocate record is durable; grains become UNMAPPED and the command completes. -/
  | deallocateCompletion (qp tag : Nat)
  /-- VERIFY (R316): A VERIFY reads every ARRAY sector of its range from the members and checks and repairs it. -/
  | verify (qp tag : Nat)
  /-- DICT_READ (R332): A DICT_READ command fetches a dictionary request from DESC_0 and returns the response in DESC_1. -/
  | dictRead (qp tag : Nat) (req : Bytes)
  /-- DICT_WRITE (R332): A DICT_WRITE command fetches a dictionary request from DESC_0 and returns the response in DESC_1. -/
  | dictWrite (qp tag : Nat) (req : Bytes)
  /-- QUEUE_CREATE (R329): QUEUE_CREATE creates the named QP from its configuration objects. -/
  | queueCreate (qp tag : Nat)
  /-- QUEUE_RESET (R330): QUEUE_RESET stops the named QP's intake and ends its outstanding tags. -/
  | queueReset (qp tag : Nat)
  /-- SANITIZE (R333): SANITIZE starts, joins or queries an operation that empties a volume and sweeps the pool's segments below a boundary. -/
  | sanitize (qp tag : Nat)
  /-- FORMAT (R334): FORMAT starts, joins or queries an operation that empties a volume logically. -/
  | format (qp tag : Nat)
  /-- FORMAT_PHASE1_DRAINED (R334): The volume's admitted commands have completed and the FORMAT or SANITIZE phase 1 unmaps the volume and reopens admission. -/
  | formatPhase1Drained (vol : Nat)
  /-- SANITIZE_CISTERN_WAIT_END (R335): No Cistern image area holds an image from before the SANITIZE and the sweep completes. -/
  | sanitizeCisternWaitEnd (vol : Nat)
  /-- WRITE_DMA_LANDED (R179): The last byte of a write sector lands in its protected-region slot; guard, metadata and inflow parity follow and the map points at the slot. -/
  | writeDmaLanded (qp tag sector : Nat) (data : Bytes) (met : WriteMet)
  /-- WRITE_COMPLETION (R39): All acknowledgement conditions of a WRITE without FUA hold and its completion is built. -/
  | writeCompletion (qp tag : Nat)
  /-- READ_OVERLAP_RESOLVE (R324): An earlier overlapping write of the same QP passes step 7 and the waiting read resolves the shared sectors. -/
  | readOverlapResolve (qp tag : Nat)
  /-- WRITE_STEP7_RELEASE (R325): An earlier overlapping read has resolved the shared sectors and the held write reaches step 7. -/
  | writeStep7Release (qp tag : Nat)
  /-- STRIPE_AGE_TIMER (R143): A stripe's STRIPE_AGE_LIMIT expires and the stripe closes. -/
  | stripeAgeTimer (pool : Nat) (aged : AgedStripe)
  /-- LANE_WAIT_END (R139): Active-zone resources become available and a waiting ZNS lane opens its new segment. -/
  | laneWaitEnd (pool cls lane : Nat)
  /-- COLUMN_WRITE_COMPLETE (R145): A column write completes; when the stripe's last one does, its STRIPE record is written. -/
  | columnWriteComplete (id : Nat)
  /-- ILOG_RECORD_DURABLE (R191): An intent-log record's read-back matches and the actions depending on it proceed. -/
  | ilogRecordDurable (seq : Nat) (back : ReadBack)
  /-- SLOT_RELEASE (R41): A committed slot's last reader finishes and the slot is returned, with the partner told to release its mirror. -/
  | slotRelease (slot : Nat)
  /-- ILOG_WEAR_ROTATE (R197): After 64 record writes the spare block moves one place through the intent log array. -/
  | ilogWearRotate
  /-- CHECKPOINT_START (R160): A checkpoint of a pool starts and its cut is noted. -/
  | checkpointStart (pool : Nat)
  /-- CHECKPOINT_STEP_DONE (R161): A step of a checkpoint finishes; after step 6 the checkpoint is complete and earlier records can be discarded. -/
  | checkpointStepDone (pool : Nat)
  /-- MAP_CHECKPOINT_NOW (R160): A write of MAP_CHECKPOINT_NOW requests a checkpoint of the pool. -/
  | mapCheckpointNow (pool : Nat)
  /-- MAP_LEAF_READ_COMPLETE (R152): A leaf read on a map miss returns and is checked; failing copies lead to the next copy or pool failure. -/
  | mapLeafReadComplete (id : Nat) (data : Bytes) (ok : Bool)
  /-- DREDGE_SELECT (R167): The Dredger selects a sealed segment by priority and starts copying its live sectors. -/
  | dredgeSelect (pool : Nat)
  /-- SEGMENT_RESET_START (R172): A COPIED segment has passed a checkpoint and has no readers; the reset record is written and zone resets issued. -/
  | segmentResetStart (pool slot : Nat)
  /-- ZONE_RESET_COMPLETE (R172): A column's zone reset or deallocate completes; after the last, the segment-freed record is written. -/
  | zoneResetComplete (id : Nat) (ok : Bool)
  /-- POOL_ACTION_CREATE (R97): POOL_ACTION CREATE checks and creates a pool from its staged settings. -/
  | poolActionCreate (pool : Nat)
  /-- POOL_ACTION_ONLINE (R97): POOL_ACTION ONLINE assembles the pool, takes reservations, recovers its map and begins serving. -/
  | poolActionOnline (pool : Nat)
  /-- POOL_ACTION_OFFLINE (R97): POOL_ACTION OFFLINE stops admission, finishes commands, commits open stripes and releases reservations. -/
  | poolActionOffline (pool : Nat)
  /-- POOL_ACTION_DESTROY (R97): POOL_ACTION DESTROY removes the pool and returns its members to CANDIDATE. -/
  | poolActionDestroy (pool : Nat)
  /-- POOL_ACTION_STEP_DONE (R96): A member command of a running pool action completes and the action proceeds, finishes or fails. -/
  | poolActionStepDone (pool id status : Nat) (data : Bytes) (heads media : List MediaItem)
  /-- CODE_TABLE_DATA_WRITE (R119): A write of CODE_TABLE_DATA loads a custom code table and returns the slot to LOADED. -/
  | codeTableDataWrite (slot : Nat) (data : Bytes)
  /-- CODE_CHECK_START (R117): CODE_CHECK_START begins checking a loaded custom table. -/
  | codeCheckStart (slot : Nat)
  /-- CODE_CHECK_DONE (R117): The code table check finishes with VERIFIED or REFUSED. -/
  | codeCheckDone (slot : Nat)
  /-- VOLUME_CREATE (R125): VOLUME_ACTION CREATE creates a volume if its conditions hold. -/
  | volumeCreate (vol : Nat)
  /-- VOLUME_DELETE (R126): VOLUME_ACTION DELETE stops admission to a volume and waits for its commands. -/
  | volumeDelete (vol : Nat)
  /-- VOLUME_DELETE_DRAINED (R126): The deleted volume's commands have completed; its map and lost ranges are discarded and the id is held. -/
  | volumeDeleteDrained (vol : Nat)
  /-- VOLUME_CAPACITY_WRITE (R125): A write of VOLUME_CAPACITY grows a volume or is refused. -/
  | volumeCapacityWrite (vol cap : Nat)
  /-- MEMBER_ADD (R257): MEMBER_ACTION ADD joins a candidate to a serving pool and starts a rebalance. -/
  | memberAdd (pool slot : Nat)
  /-- MEMBER_REMOVE (R257): MEMBER_ACTION REMOVE starts a reshape of kind REMOVE that drains a member. -/
  | memberRemove (pool slot : Nat)
  /-- MEMBER_ACTION_FAIL (R223): MEMBER_ACTION FAIL forces a member to FAILED with cause OPERATOR. -/
  | memberActionFail (pool slot : Nat)
  /-- REBUILD_START (R241): A write of REBUILD_START starts rebuild as soon as its conditions hold. -/
  | rebuildStart (pool : Nat)
  /-- REBUILD_AUTO_START (R241): Enough free zones and members become available and a waiting rebuild starts. -/
  | rebuildAutoStart (pool : Nat)
  /-- REBUILD_NEXT_SEGMENT (R237): Rebuild takes the next segment in its order and decodes its lost live sectors. -/
  | rebuildNextSegment (pool : Nat)
  /-- MEMBER_READ_COMPLETE (R35): A member read lands in cluster scratch and its sectors are checked before use. -/
  | memberReadComplete (id : Nat) (data : Bytes) (flt : SecFault)
  /-- DEGRADED_DECODE_DONE (R231): The sources of a decode have landed and the erased sector is decoded and checked. -/
  | degradedDecodeDone (job : Nat)
  /-- PATROL_STRIPE (R255): The Ditch Rider reads and checks the next committed stripe and acts on findings. -/
  | patrolStripe (pool : Nat) (cols : List (Option Bytes))
  /-- PATROL_RESTART (R255): A write of PATROL_RESTART starts a new pass at slot 0. -/
  | patrolRestart (pool : Nat)
  /-- RESYNC_STRIPE_CHECK (R215): A stripe's parity is recomputed and compared during RESYNC and repaired by relocation. -/
  | resyncStripeCheck (pool : Nat) (cols : List (Option Bytes))
  /-- RESHAPE_CURSOR_ADVANCE (R261): A migrated segment's copies have passed a checkpoint; a RESHAPE record advances the cursor. -/
  | reshapeCursorAdvance (pool : Nat)
  /-- DRIVE_GROUP_ENABLE (R374): DRIVE_GROUP_ENABLE releases or holds a lane group and its ports. -/
  | driveGroupEnable (group : Nat) (on : Bool)
  /-- DRIVE_LINK_UP (R380): A drive port's link comes up and admission starts. -/
  | driveLinkUp (port speed width : Nat)
  /-- ADMISSION_COMMAND_COMPLETE (R380): An admission command completes and admission proceeds, admits or refuses the drive. -/
  | admissionCommandComplete (id : Nat) (data : AdmData)
  /-- DRIVE_COMMAND_COMPLETE (R384): A member command completes and is retried, handled or counted by its status. -/
  | driveCommandComplete (id : Nat) (res : DrvStatus) (data : Bytes)
  /-- COMMAND_RETRY_DELAY (R384): The drive's Command Retry Delay passes and the failed command is reissued. -/
  | commandRetryDelay (id : Nat)
  /-- DRIVE_COMMAND_TIMEOUT (R386): A member command exceeds its timeout and enters timeout recovery or containment. -/
  | driveCommandTimeout (id : Nat) (begun : Bool)
  /-- ABORT_TIME_LIMIT (R386): An Abort has not ended the command within 1 s and the drive controller is reset. -/
  | abortTimeLimit (id : Nat)
  /-- CONTROLLER_RESET_DONE (R386): A drive controller reset completes or fails; outstanding commands are reissued or the member fails. -/
  | controllerResetDone (port : Nat) (ok : Bool) (begun : List Nat) (ns : List NsInfo)
  /-- RECOVERY_TIME_LIMIT (R386): A reissued command times out within 60 s of recovery start and the member fails with TIMEOUT. -/
  | recoveryTimeLimit (id : Nat)
  /-- PRESENCE_DEBOUNCED (R392): PRSNT_N has read low for HOTPLUG_DEBOUNCE and drive bring-up starts. -/
  | presenceDebounced (port : Nat)
  /-- PRESENCE_LOST (R387): PRSNT_N reads high in a sideband frame and the drive is treated as gone. -/
  | presenceLost (port : Nat)
  /-- DATA_LINK_DOWN (R387): Data Link Layer goes down on a drive port; the member fails or the port freezes. -/
  | dataLinkDown (port : Nat)
  /-- PORT_RELEASE_RETRY (R390): PORT_RELEASE RETRY retrains, resets and re-identifies the drive and reissues held commands. -/
  | portReleaseRetry (port : Nat)
  /-- PORT_RELEASE_FAIL (R390): PORT_RELEASE FAIL discards held commands and fails the member. -/
  | portReleaseFail (port : Nat)
  /-- PORT_RELEASE_LINK_TIMEOUT (R390): The link does not train within 1 s of a RETRY and the release is refused. -/
  | portReleaseLinkTimeout (port : Nat)
  /-- SIDEBAND_FRAME (R394): A sideband frame latches the bay outputs and samples every bay's PRSNT_N. -/
  | sidebandFrame (inputs : Nat)
  /-- DRIVE_HEALTH_POLL (R380): DRIVE_HEALTH_POLL expires and the health log of each drive is read. -/
  | driveHealthPoll
  /-- DRIVE_GATE_CLOSE (R416): PAIR_FENCE_REQ_I_N falls, the drive write gate closes and PAIR_FENCE_ACK_O_N goes low. -/
  | driveGateClose
  /-- DRIVE_GATE_OPEN (R398): REQ_I_N has been high for 10 µs; the gate opens and held commands are issued or discarded. -/
  | driveGateOpen
  /-- CULVERT_FLIT_RECEIVED (R405): A Culvert flit arrives and is accepted, discarded or NAKed, with ACKs and credits taken. -/
  | culvertFlitReceived (flit : Bytes)
  /-- CULVERT_REPLAY_TIMEOUT (R407): No acknowledgement has advanced for 5 µs and held flits are resent. -/
  | culvertReplayTimeout
  /-- CULVERT_DOWN (R409): No flit has passed its CRC for CULVERT_DOWN_TIMEOUT and the Culvert is declared down. -/
  | culvertDown
  /-- BUNDLE_TRAINED (R403): A Culvert bundle finishes training and joins the link. -/
  | bundleTrained (bundle : Nat)
  /-- BUNDLE_FAILED (R403): A Culvert bundle fails or retrains and drops out of the link. -/
  | bundleFailed (bundle : Nat)
  /-- MIRROR_DATA (R410): A MIRROR_DATA message is received and the sector is stored in a mirror slot after a guard check. -/
  | mirrorData (id pool slot flags atomicRef : Nat) (md data : Bytes)
  /-- MIRROR_ACK (R410): A MIRROR_ACK is received, meeting the mirror condition or causing resends. -/
  | mirrorAck (accepted rejected : List Nat)
  /-- MIRROR_RELEASE (R412): A MIRROR_RELEASE is received and the named mirror slots are freed. -/
  | mirrorRelease (slots : List Nat)
  /-- ATOMIC_MARK (R413): An ATOMIC_MARK is received and recorded for an atomic write. -/
  | atomicMark (pool vol first count : Nat)
  /-- RECORD (R411): A RECORD message is received and its intent records kept in the mirrored-record area. -/
  | record (id pool : Nat) (recs : List RecItem)
  /-- RECORD_ACK (R195): A RECORD_ACK is received, allowing release of committed slots. -/
  | recordAck (id : Nat)
  /-- HEARTBEAT (R419): A HEARTBEAT message is received and the partner's state and fault counts are taken. -/
  | heartbeat (serial : Bytes) (side level epoch evSeq reserve faultsA faultsB : Nat)
  /-- EPOCH_PREPARE (R84): A PREPARE is received and the partner drains for the initiator's change set. -/
  | epochPrepare (epoch : Nat) (change : List ChangeItem)
  /-- EPOCH_PREPARED (R84): A PREPARED is received as unit 70 and the initiator writes the record and sends COMMIT. -/
  | epochPrepared (epoch : Nat)
  /-- EPOCH_COMMIT_MESSAGE (R84): A COMMIT is received in PREPARED and the configuration record is written. -/
  | epochCommitMessage (epoch : Nat)
  /-- EPOCH_ABORT (R84): An ABORT is received and the pair epoch reverts. -/
  | epochAbort (epoch : Nat)
  /-- DIGEST (R430): A DIGEST is received and the partner answers with its digest or NO_COPY. -/
  | digest (pool stripe first height : Nat) (slots : List Nat) (value : Nat)
  /-- DIGEST_REPLY (R431): A DIGEST_REPLY is received; matching digests allow release, differing ones start a read-back. -/
  | digestReply (pool stripe : Nat) (value : Option Nat)
  /-- SYNC (R414): A SYNC start or end of a pool's catch-up is received. -/
  | sync (pool : Nat) (start : Bool)
  /-- DUMPING (R419): A DUMPING message is received and takeover starts at once. -/
  | dumping
  /-- HANDOVER_REQUEST (R429): A HANDOVER request is received and the partner acquires and assembles the pool. -/
  | handoverRequest (pool ckpt : Nat)
  /-- HANDOVER_DONE (R429): A HANDOVER done is received and the old owner becomes PARTNER with catch-up. -/
  | handoverDone (pool ckpt : Nat)
  /-- CONFIG (R415): A CONFIG message carrying part of a superblock generation is received and kept. -/
  | config (pool gen off : Nat) (data : Bytes) (state : Nat)
  /-- SETTLED (R428): A SETTLED is received and the returning controller offers its slots as catch-up. -/
  | settled (pool : Nat)
  /-- PAIR_JOIN (R402): All join conditions hold and the two controllers join as a pair. -/
  | pairJoin
  /-- PAIR_ALIVE_TIMEOUT (R418): PAIR_ALIVE_I shows no edge for PAIR_ALIVE_TIMEOUT and the heartbeat counts as absent. -/
  | pairAliveTimeout
  /-- PAIR_HEARTBEAT_TIMEOUT (R419): No HEARTBEAT has passed its CRC for PAIR_HEARTBEAT_TIMEOUT and the partner is classified. -/
  | pairHeartbeatTimeout
  /-- PAIR_TAKEOVER (R422): A write of PAIR_TAKEOVER starts a takeover of the partner's pools. -/
  | pairTakeover
  /-- FENCE_ACK_RECEIVED (R423): PAIR_FENCE_ACK_I_N falls and the takeover proceeds to reservations. -/
  | fenceAckReceived
  /-- FENCE_WAIT_TIMEOUT (R423): 10 ms pass without ACK; the takeover proceeds if the heartbeat stayed absent, else raises an ALARM. -/
  | fenceWaitTimeout
  /-- RESERVATION_RETRY (R424): Every 1 s unanswered members are retried; after 60 s undecided ownership yields. -/
  | reservationRetry
  /-- TAKEOVER_STEP_DONE (R422): A takeover step finishes and the next runs, up to serving in role SOLO. -/
  | takeoverStepDone (id : Nat) (res : DrvStatus) (data : Bytes) (heads media : List MediaItem)
  /-- PAIR_POOL_HANDOVER (R429): A write of PAIR_POOL_HANDOVER moves an owned pool to the partner. -/
  | pairPoolHandover (pool : Nat)
  /-- PAIR_FAULT_CLEAR (R432): A write of PAIR_FAULT_CLEAR resets both fault counts and lets the pair join again. -/
  | pairFaultClear
  /-- EPOCH_COMMIT (R79): A write of EPOCH_COMMIT commits the staged set as a local epoch or is refused. -/
  | epochCommit (value : Nat)
  /-- EPOCH_COMMIT_PAIR (R84): A write of EPOCH_COMMIT_PAIR starts a pair-wide epoch or is refused. -/
  | epochCommitPair (value : Nat)
  /-- EPOCH_DISCARD (R78): A write of EPOCH_DISCARD clears the staged set. -/
  | epochDiscard
  /-- UNIT_ACKNOWLEDGE (R81): A unit finishes its epoch-N work, applies the change and acknowledges. -/
  | unitAcknowledge (unit : Nat)
  /-- EPOCH_TIMEOUT (R82): EPOCH_TIMEOUT expires with laggards and every applied unit reverts. -/
  | epochTimeout
  /-- EPOCH_RECORD_WRITTEN (R81): The epoch's configuration record is written; the epoch number advances and dispatch resumes. -/
  | epochRecordWritten
  /-- EPOCH_REVERT_DONE (R82): All units are back at epoch N and dispatch resumes in N. -/
  | epochRevertDone
  /-- EPOCH_COMMIT_ACK_TIMEOUT (R86): The initiator's COMMIT flit is not acknowledged within the timer and the epoch reverts for reconciliation. -/
  | epochCommitAckTimeout
  /-- MCTP_MESSAGE (R63): An MCTP message is assembled from its packets and dispatched, or discarded on a sequence gap. -/
  | mctpMessage (pkt : McPacket) (clear : Option Bytes)
  /-- SET_ENDPOINT_ID (R63): The bus owner's Set Endpoint ID assigns the device's endpoint ID. -/
  | setEndpointId (src inst op eid : Nat)
  /-- GET_ENDPOINT_ID (R63): Get Endpoint ID returns the device's endpoint ID. -/
  | getEndpointId (src inst : Nat)
  /-- GET_MCTP_VERSION_SUPPORT (R63): Get MCTP Version Support returns the supported versions. -/
  | getMctpVersionSupport (src inst ty : Nat)
  /-- GET_MESSAGE_TYPE_SUPPORT (R63): Get Message Type Support returns the supported message types. -/
  | getMessageTypeSupport (src inst : Nat)
  /-- GET_VENDOR_DEFINED_MESSAGE_SUPPORT (R64): Get Vendor Defined Message Support returns the vendor message support. -/
  | getVendorDefinedMessageSupport (src inst sel : Nat)
  /-- UDP_DATAGRAM (R66): A management UDP datagram is received and dispatched by PAYLOAD_KIND, or discarded. -/
  | udpDatagram (peer port : Nat) (payload : Bytes) (clear : Option (Nat × Bytes))
  /-- KEY_EXCHANGE (R67): An SPDM KEY_EXCHANGE with mutual authentication is processed. -/
  | keyExchange (udp : Bool) (peer : Nat) (ok : Bool)
  /-- FINISH (R72): An SPDM FINISH opens a secured session with its sequences. -/
  | finish (session : Nat) (ok : Bool)
  /-- END_SESSION (R68): An SPDM END_SESSION ends the session and discards its open writes and cached response. -/
  | endSession (session : Nat)
  /-- GET_MEASUREMENTS (R558): SPDM GET_MEASUREMENTS returns the measurement blocks. -/
  | getMeasurements (udp : Bool) (peer index : Nat)
  /-- SPDM_MESSAGE (R67): Another SPDM request of the supported capabilities is answered as responder. -/
  | spdmMessage (udp : Bool) (peer code : Nat) (session : Option Nat)
  /-- SESSION_HEARTBEAT_TIMEOUT (R68): No message arrives for two heartbeat periods and the secured session ends. -/
  | sessionHeartbeatTimeout (session : Nat)
  /-- DICTIONARY_READ (R49): The dictionary engine checks and executes a READ request, caching its response. -/
  | dictionaryRead (session : Option Nat) (req : Bytes)
  /-- DICTIONARY_WRITE (R49): The dictionary engine checks a WRITE request whole and applies its entries in order. -/
  | dictionaryWrite (session : Option Nat) (req : Bytes)
  /-- DICTIONARY_NOP (R73): The dictionary engine handles a NOP request under the session sequence rules. -/
  | dictionaryNop (session : Option Nat) (req : Bytes)
  /-- REGISTER_WRITE (R50): A write to an object or MMIO register without behaviour of its own stores its value. -/
  | registerWrite (target : RegTarget)
  /-- PERSISTENT_WRITE_PACED (R56): A persistent-write request held by the 1,000 per second ceiling executes after its wait. -/
  | persistentWritePaced
  /-- MULTIPART_TIMEOUT (R61): No part of an open multi-part write arrives for 10 s and it is discarded. -/
  | multipartTimeout (session key : Nat)
  /-- MGMT_OOB_EN_CHANGE (R71): A debounced change of MGMT_OOB_EN applies to requests executed after it. -/
  | mgmtOobEnChange (level : Bool)
  /-- FACTORY_DEFAULTS (R90): A write of FACTORY_DEFAULTS schedules restoration of every persistent object at the next reset. -/
  | factoryDefaults (value : Nat)
  /-- WEIR_RECOMPUTE (R185): An input of the Weir changes and the Weir is recomputed. -/
  | weirRecompute
  /-- WEIR_WAIT_WARN (R186): A WRITE has waited 100 ms at the Sluice and a WARN event is raised. -/
  | weirWaitWarn (qp tag : Nat)
  /-- DUMP_END (R204): The dump's TRAILER is read back, DUMP_END written and the rails go off. -/
  | dumpEnd
  /-- CISTERN_SELFTEST_TIMER (R201): The 24 h Cistern self-test falls due and runs. -/
  | cisternSelftestTimer (dies : Nat)
  /-- CISTERN_ERASE_DONE (R201): Erasure of the next image area completes and the Cistern may become ARMED. -/
  | cisternEraseDone (bytes : Nat)
  /-- CISTERN_IMAGE_RELEASE (R210): Every restored slot is settled and the held image area is erased. -/
  | cisternImageRelease
  /-- CISTERN_RESTORE_LOSS_ACK (R211): A write of CISTERN_RESTORE_LOSS_ACK lets pools come online after an unknown loss. -/
  | cisternRestoreLossAck
  /-- LOAD (R450): KEY_CONTROL LOAD installs a new current generation in a key slot. -/
  | load (pf confirm gen slot : Nat)
  /-- INSTALL_CURRENT (R465): KEY_CONTROL INSTALL_CURRENT installs the current generation, matching its record when ZEROIZED. -/
  | installCurrent (pf confirm gen slot : Nat)
  /-- INSTALL_PREVIOUS (R465): KEY_CONTROL INSTALL_PREVIOUS installs the previous generation. -/
  | installPrevious (pf confirm gen slot : Nat)
  /-- RETIRE (R453): KEY_CONTROL RETIRE zeroizes the previous generation when no sector needs it. -/
  | retire (pf confirm gen slot : Nat)
  /-- DESTROY (R460): KEY_CONTROL DESTROY zeroizes the slot and locks its volumes. -/
  | destroy (pf confirm gen slot : Nat)
  /-- CLEAR_STAGING (R459): KEY_CONTROL CLEAR_STAGING zeroizes the PF's staging bytes. -/
  | clearStaging (pf confirm : Nat)
  /-- KEY_STAGING_WRITE (R458): A write to XTS_KEY or GMAC_KEY stages key bytes, or is dropped. -/
  | keyStagingWrite (pf off : Nat) (data : Bytes)
  /-- KEY_PERSIST_WRITE (R457): A write of KEY_PERSIST selects VOLATILE or WRAPPED, erasing the wrapped store when VOLATILE. -/
  | keyPersistWrite (mode : Nat)
  /-- TAMPER_ENCLOSURE_ASSERT (R461): TAMPER_A_N stays low for 1 µs; keys are zeroized and encrypted pools lock. -/
  | tamperEnclosureAssert
  /-- TAMPER_MESH_BREAK (R461): The on-module mesh breaks; keys are zeroized and encrypted pools lock. -/
  | tamperMeshBreak
  /-- TAMPER_CLEAR (R464): A write of TAMPER_CLEAR clears the tamper latch when the inputs are inactive. -/
  | tamperClear (value : Nat) (quiet : Bool)
  /-- PIPE_CLEAR (R447): PIPE_CLEAR retests a quarantined pipeline and returns it to service if it passes. -/
  | pipeClear (quadrant : Nat) (pass : Bool)
  /-- INVALIDATE_RANGE (R492): Maintenance operation invalidating unlocked frames of a volume range. -/
  | invalidateRange
  /-- INVALIDATE_VOLUME (R492): Maintenance operation invalidating unlocked frames of a volume. -/
  | invalidateVolume
  /-- INVALIDATE_ALL (R492): Maintenance operation invalidating every unlocked frame. -/
  | invalidateAll
  /-- CLEAN_LINES (R491): Maintenance operation writing back every dirty line. -/
  | cleanLines
  /-- PRELOAD (R487): LOCK_ACTION PRELOAD fills a lock range's frames as locked. -/
  | preload (range : Nat)
  /-- UNLOCK (R489): LOCK_ACTION UNLOCK ends a lock range and invalidates its frames. -/
  | unlock (range : Nat)
  /-- CACHE_MAINT_STEP (R493): The maintenance engine finishes one step and continues, or pauses for an epoch. -/
  | cacheMaintStep
  /-- CACHE_WAYS_ENABLED (R494): A write of CACHE_WAYS_ENABLED takes ways out of service or powers up and tests new ones. -/
  | cacheWaysEnabled (n : Nat)
  /-- CACHE_FRAME_WAYS (R474): A write of CACHE_FRAME_WAYS reassigns ways between frame and line use. -/
  | cacheFrameWays (n : Nat)
  /-- SLICE_WAY_REENABLE (R496): SLICE_WAY_REENABLE march-tests disabled ways and returns those that pass. -/
  | sliceWayReenable (slice mask : Nat)
  /-- WAY_MARCH_TEST_DONE (R495): A way's march test finishes and the way is used or disabled. -/
  | wayMarchTestDone (slice way : Nat) (pass : Bool)
  /-- WAY_DISABLE (R496): A way that reached its error limits is taken out of service after the current step. -/
  | wayDisable (slice way : Nat)
  /-- FRAME_FILL_COMPLETE (R480): A frame fill lands and becomes VALID if the map still names the same version. -/
  | frameFillComplete (frame : Nat)
  /-- HBM_STACK_FAILED (R499): An HBM stack fails in service and its quadrant's data is handled as poison. -/
  | hbmStackFailed (stack : Nat)
  /-- PACK_ENABLE (R517): A write of PACK_ENABLE enables or disables the pack estimator. -/
  | packEnable (on : Bool)
  /-- PACK_RESET_LEARNING (R519): PACK_RESET_LEARNING discards learned values and enters LEARNING. -/
  | packResetLearning
  /-- PACK_ESR_MEASURE_NOW (R514): A write of PACK_ESR_MEASURE_NOW starts an impedance measurement. -/
  | packEsrMeasureNow
  /-- PACK_ESR_INTERVAL (R514): PACK_ESR_INTERVAL expires and an impedance measurement falls due. -/
  | packEsrInterval
  /-- IMPEDANCE_DEFERRED_RUN (R515): The deferring conditions clear and a deferred impedance measurement starts. -/
  | impedanceDeferredRun
  /-- IMPEDANCE_SETTLE_DONE (R514): The 5 ms settle ends, reference values are taken and the test load switches on. -/
  | impedanceSettleDone (v i : Int)
  /-- IMPEDANCE_LOAD_OFF (R514): The 10 ms load step ends, ESR is computed and checked against its limits. -/
  | impedanceLoadOff (v i : Int)
  /-- ESTIMATOR_UPDATE (R505): Every 100 ms the estimator recomputes usable energy and learning from the samples. -/
  | estimatorUpdate
  /-- PACK_OVERVOLTAGE (R507): PACK_VSNS exceeds PACK_VMAX + 200 mV for 100 ms and the pack faults. -/
  | packOvervoltage
  /-- PACK_CHARGER_FAULT (R507): PACK_VSNS stays below PACK_VMIN for 60 s while charging and the pack faults. -/
  | packChargerFault
  /-- PACK_ABSENT (R517): PACK_VSNS below 1.0 V or the thermistor open for 10 ms makes the pack ABSENT. -/
  | packAbsent
  /-- PACK_PRESENT (R517): The pack is seen for 1 s and enters LEARNING. -/
  | packPresent
  /-- PACK_RESTED (R510): Current stays below PACK_REST_CURRENT for PACK_REST_TIME and SoC is reset from the OCV table. -/
  | packRested
  /-- PACK_STALE (R517): The last ESR measurement ages past 3 intervals or samples stop and the estimate becomes STALE. -/
  | packStale
  /-- P3V3_AUX_RISE (R526): P3V3_AUX rises; the always-on domain starts and PAIR_SIDE is sampled. -/
  | p3v3AuxRise (side : Nat)
  /-- P3V3_AUX_LOSS (R532): P3V3_AUX falls below 3.0 V and the module dumps with cause AUX_LOSS or goes OFF. -/
  | p3v3AuxLoss
  /-- P12V_IN_RANGE (R530): P12V is in range with AUX present and the regulators are sequenced. -/
  | p12vInRange
  /-- P12V_SAG (R533): P12V stays below 10.8 V for 10 µs and ride-through begins. -/
  | p12vSag
  /-- P12V_RETURNED (R533): P12V stays at or above 11.2 V for 1 ms and ride-through ends. -/
  | p12vReturned
  /-- RIDE_THROUGH_CLEAR (R534): The input has stayed returned for 1 s and accumulated ride-through time is cleared. -/
  | rideThroughClear
  /-- RIDE_THROUGH_EXPIRY (R535): Accumulated ride-through reaches PS_RIDE_THROUGH_WINDOW and a dump starts. -/
  | rideThroughExpiry
  /-- ACFAIL_EXPIRY (R535): ACFAIL_N stays asserted for more than 2 ms and a dump starts. -/
  | acfailExpiry
  /-- ACFAIL_RELEASE (R535): ACFAIL_N releases after 2 ms or less and the assertion is counted. -/
  | acfailRelease
  /-- INPUT_COLLAPSE (R535): The module input rail falls below 5.0 V and a dump starts. -/
  | inputCollapse (written : Nat)
  /-- RAIL_FAULT (R548): A rail leaves regulation; a stop mark is written and the rails go off without a dump. -/
  | railFault (written : Nat)
  /-- THERMAL_TRIP (R546): A sensor reaches THERM_TRIP_TEMP; a stop mark is written and rails go off without a dump. -/
  | thermalTrip (temp : Int) (written : Nat)
  /-- THERMAL_DUMP (R546): A sensor stays at THERM_DUMP_TEMP for 10 ms and a dump with cause THERMAL_DUMP starts. -/
  | thermalDump (temp : Int)
  /-- THERM_ALERT (R547): A sensor reaches THERM_ALERT_TEMP and THERM_ALERT_N is driven low. -/
  | thermAlert (temp : Int)
  /-- THERM_ALERT_RELEASE (R547): Every sensor has been 5 °C below THERM_ALERT_TEMP for 1 s and THERM_ALERT_N is released. -/
  | thermAlertRelease (temp : Int)
  /-- QUADRANT_STEP_DOWN (R543): A thermal or gradient limit is crossed and a thermal epoch steps the quadrant down. -/
  | quadrantStepDown (q : Nat) (temp : Int)
  /-- THERMAL_EPOCH_RETRY (R543): A reverted thermal epoch is retried after 1 ms while the quadrant is gated. -/
  | thermalEpochRetry
  /-- QUADRANT_RETURN (R544): Cool conditions hold for 10 s and the quadrant steps one point back by thermal epoch. -/
  | quadrantReturn (q : Nat) (temp : Int)
  /-- PLL_LOCK_LOSS (R538): PLL_MAIN loses lock and derived clocks are gated with state held. -/
  | pllLockLoss
  /-- PLL_RELOCK (R538): PLL_MAIN relocks and work resumes where it stopped. -/
  | pllRelock
  /-- PLL_FALLBACK (R538): PLL_MAIN has not relocked in 200 µs, restarts at half rate and a dump starts. -/
  | pllFallback
  /-- RAILS_OFF_TIMEOUT (R559): The 10 ms rails-off period after a dump with power present ends and start-up runs. -/
  | railsOffTimeout
  /-- RESET_N_ASSERT (R560): RESET_N is low for 1 µs and a module reset with dump begins. -/
  | resetNAssert (cool : Bool)
  /-- RESET_N_RELEASE (R560): RESET_N is released and start-up step 3 begins or the trip latch clears. -/
  | resetNRelease (cool : Bool)
  /-- STARTUP_STEP_DONE (R551): A start-up step completes or fails and the next step begins. -/
  | startupStepDone (ok : Bool) (x : StartItem)
  /-- START_MEMBER_WAIT_EXPIRY (R553): START_MEMBER_WAIT ends and AUTO_ONLINE pools assemble with the members present. -/
  | startMemberWaitExpiry
  /-- WATCHDOG_EXPIRY (R562): The firmware watchdog expires and a module reset follows. -/
  | watchdogExpiry
  /-- DEVICE_RESET (R559): A write of DEVICE_RESET causes a module reset. -/
  | deviceReset (value : Nat)
  /-- FW_UPDATE_SLOT (R556): A write of FW_UPDATE_SLOT selects the slot to update, refused for the running slot. -/
  | fwUpdateSlot (v : Nat)
  /-- FW_SLOT_ERASE (R556): FW_SLOT_ERASE erases a firmware slot that is not running. -/
  | fwSlotErase (slot : Nat)
  /-- FW_SLOT_DATA (R556): A write of FW_SLOT_DATA stores a 64 KiB chunk of the update image. -/
  | fwSlotData (chunk : Nat) (data : Bytes)
  /-- FW_SLOT_VERIFY (R554): FW_SLOT_VERIFY runs the boot acceptance checks on a slot. -/
  | fwSlotVerify (slot : Nat) (auth : FwAuth) (version : Bytes) (compat svn : Nat)
  /-- BOOT_SLOT_PREFERRED (R556): A write of BOOT_SLOT_PREFERRED selects a VERIFIED slot for the next boot. -/
  | bootSlotPreferred (v : Nat)
  /-- FW_SVN_COMMIT (R557): FW_SVN_COMMIT burns fuses raising FW_SVN_FLOOR. -/
  | fwSvnCommit (v : Nat)
  /-- HOST_PRBS (R569): TEST_OP HOST_PRBS runs PRBS on a host port's lanes. -/
  | hostPrbs
  /-- DRIVE_PRBS (R569): TEST_OP DRIVE_PRBS runs PRBS on a held drive lane group. -/
  | drivePrbs
  /-- CULVERT_PRBS (R569): TEST_OP CULVERT_PRBS runs PRBS across a Culvert bundle. -/
  | culvertPrbs
  /-- CULVERT_LOOPBACK (R569): TEST_OP CULVERT_LOOPBACK runs near-end loopback on a bundle. -/
  | culvertLoopback
  /-- HBM_PATTERN (R569): TEST_OP HBM_PATTERN tests a stack's read cache region. -/
  | hbmPattern
  /-- CISTERN_SELFTEST (R569): TEST_OP CISTERN_SELFTEST runs the periodic Cistern test on demand. -/
  | cisternSelftest
  /-- TEST_STOP (R570): A write of TEST_STOP ends the running test as DONE. -/
  | testStop (x : TestItem)
  /-- TEST_DURATION_EXPIRY (R569): TEST_DURATION elapses and the test ends as DONE. -/
  | testDurationExpiry (x : TestItem)
  /-- TEST_CONDITION_LOST (R570): A running test loses its condition and ends as ABORTED. -/
  | testConditionLost (x : TestItem)
  /-- JTAG_INSTRUCTION (R571): A JTAG instruction is loaded and the boundary-scan logic acts on it. -/
  | jtagInstruction (op : JtagOp)
  /-- BUS_MASTER_DISABLE (R356): Bus Master Enable is cleared and the function stops memory requests within 1 µs. -/
  | busMasterDisable (fn : Nat)
  /-- BUS_MASTER_ENABLE (R358): Bus Master Enable is set and held completions, messages and transfers resume. -/
  | busMasterEnable (fn : Nat)
  /-- HOST_READ_ERROR_COMPLETION (R359): A data or list-page read completes with an error and the command ends with DMA_HALTED. -/
  | hostReadErrorCompletion (qp tag : Nat)
  /-- FLR (R360): Initiate FLR starts a Function Level Reset of the function. -/
  | flr (fn : Nat)
  /-- FLR_COMPLETE (R360): The FLR's steps finish and the function is ready. -/
  | flrComplete (fn : Nat)
  /-- D3HOT_ENTRY (R364): A function enters D3hot and its memory space and intake stop. -/
  | d3hotEntry (fn : Nat)
  /-- D0_RETURN (R364): A function returns to D0 and held work resumes. -/
  | d0Return (fn : Nat)
  /-- VF_ENABLE (R343): VF Enable is set or cleared and the PF's VFs come into or out of existence. -/
  | vfEnable (port : Nat) (on : Bool) (numVfs : Nat)
  /-- MSIX_VECTOR_UNMASK (R351): A masked MSI-X vector becomes sendable and its pending message is sent once. -/
  | msixVectorUnmask (fn : Nat) (what : Unmask)
  /-- PERST_ASSERT (R362): A host port's PERST_N is asserted and all its functions reset. -/
  | perstAssert (port : Nat)
  /-- PERST_RELEASE (R363): A host port's PERST_N is released and the port trains and becomes ready. -/
  | perstRelease (port speed width : Nat)
  /-- HOT_RESET (R362): A Hot Reset or Link Disable is received and the port's functions reset. -/
  | hotReset (port : Nat)
  /-- HOST_LINK_DOWN (R370): A host link goes down without PERST_N and the port's functions reset. -/
  | hostLinkDown (port : Nat)
  /-- MODULE_IDLE_ENTRY (R365): The idle conditions hold and the device enters module idle. -/
  | moduleIdleEntry
  /-- MODULE_IDLE_EXIT (R366): A wake event occurs and quadrants and HBM return to service. -/
  | moduleIdleExit
  /-- COALESCE_WINDOW_CLOSE (R579): An event key's 1 ms window closes, creating a coalesced record or ending the window. -/
  | coalesceWindowClose (key : EvKey)
  /-- STORM_QUIET (R584): PATH_STORM_QUIET passes with nothing shed and a storm-summary record is created. -/
  | stormQuiet (path : Nat)
  /-- EVENT_RING_ENABLE (R585): A write of EVENT_RING_ENABLE checks and enables or disables a PF event ring. -/
  | eventRingEnable (pf : Nat) (on : Bool)
  /-- EVENT_RING_COALESCE_TIMEOUT (R589): EVENT_RING_COALESCE_TIME passes after an unsignalled delivery and the ring's vector is sent. -/
  | eventRingCoalesceTimeout (pf : Nat)
  /-- SUBSCRIBE (R590): A write of PATH_MIN_SEVERITY on a session path starts, changes or stops a subscription. -/
  | subscribe (session severity : Nat)
  /-- EVENT_SUB_FETCH (R590): A read of EVENT_SUB_FETCH returns and removes the oldest queued records. -/
  | eventSubFetch (session len : Nat)
  /-- EVENT_STORE_READ (R592): A read of EVENT_STORE_READ returns records from EVENT_STORE_FROM and advances it. -/
  | eventStoreRead (session len : Nat)
  /-- ALARM_STORE_READ (R592): A read of ALARM_STORE_READ returns records from ALARM_STORE_FROM and advances it. -/
  | alarmStoreRead (session len : Nat)
  /-- COUNTER_CLEAR (R598): A write of COUNTER_CLEAR clears the counters of the named levels. -/
  | counterClear (mask : Nat)
  /-- ADMISSION_TIMEOUT (R380): An admission command or the controller-ready wait during admission exceeds DRIVE_ADMIN_TIMEOUT or CAP.TO and the drive is refused with CONTROLLER. -/
  | admissionTimeout (port : Nat)
  /-- DRIVE_CONTROLLER_READY (R380): The enabled drive controller reports CSTS.RDY and admission proceeds to Identify. -/
  | driveControllerReady (port : Nat)
  /-- DRIVE_AER_UNCORRECTABLE (R388): A drive port receives an uncorrectable error report through AER and, in CONTAINMENT mode, the port freezes. -/
  | driveAerUncorrectable (port : Nat)
  /-- HBM_REFRESH_THRESHOLD (R499): An HBM stack's temperature crosses 85 °C and the controller doubles or restores the refresh rate. -/
  | hbmRefreshThreshold (stack : Nat) (temp : Int)
  /-- P12V_TRANSIENT (R533): P12V dips below 10.8 V and recovers within 10 µs, and the dip is counted in PS_TRANSIENTS. -/
  | p12vTransient
  /-- ETHERNET_FRAME (R66): A management Ethernet frame for ARP, ICMP or ICMPv6 echo, neighbour discovery or DHCPv4 is received and answered or applied. -/
  | ethernetFrame (frame : EthFrame)
  /-- I3C_DYNAMIC_ADDRESS (R63): An I3C ENTDAA or SETDASA bus command assigns the device's dynamic address. -/
  | i3cDynamicAddress (setdasa : Bool) (static addr : Nat)
  /-- HEARTBEAT_INTERVAL (R408): Every 10 µs the controller sends a HEARTBEAT message with its state and fault counts over the Culvert. -/
  | heartbeatInterval
  /-- PAIR_ALIVE_RETURN (R418): An edge appears on PAIR_ALIVE_I after the heartbeat was absent and the partner's classification is re-evaluated. -/
  | pairAliveReturn
  /-- LIST_PAGE_READ_COMPLETE (R311): A host read of a descriptor list page returns and the command's descriptor walk and checks continue. -/
  | listPageReadComplete (qp tag : Nat) (page : Bytes) (err : Bool)
  /-- PME_STATUS_CLEAR (R368): Software clears PME_Status in a PF's configuration space and WAKE_N is released. -/
  | pmeStatusClear (pf : Nat)
  /-- PACK_SAMPLE (R505): The always-on domain samples pack voltage, current and temperature at 1 kHz, advances the coulomb counter and drives PACK_CHG_EN by R506. -/
  | packSample (v : Nat) (i temp : Int) (ntc : Nat)
  /-- ZEROING_COMPLETE (R470): The zeroing engine finishes zeroing a unit and an allocation waiting on an empty reserve proceeds. -/
  | zeroingComplete (kind : Nat)
deriving DecidableEq, Repr

end Sys2Proof
end

