-- ==== Sys2Proof/Decode.lean ====
section
/-! DEFINITION. The command that a word spells: the table of operations and events gives no row bits, so no word spells one. -/

namespace Sys2Proof

/-- The command that a word spells by the table's bits. Every row's "fields" is empty and no row has bits, so the answer is always none. -/
def decodeTableWord (nbits w : Nat) : Option Instr :=
  match nbits, w with
  | _, _ => none

end Sys2Proof
end

