-- ==== Sys2Proof/Config.lean ====
section
/-! DEFINITION. What the spec leaves to the module, the board or the firmware (constants) and the values it leaves open (free values): every one an opaque constant, which no proof can evaluate. -/

namespace Sys2Proof

/-- Pelzanto's PCI-SIG vendor identifier, readable at 0x1000.0A. -/
opaque Config.pciVendorId : Nat
/-- JTAG_IDCODE (R571). -/
opaque Config.jtagIdcode : Nat
/-- SERIAL_NUMBER, ORDERING_CODE, SILICON_STEPPING and ETH_MAC_ADDR of the module (Table 02-13, 0x1100.07). -/
opaque Config.serialNumber : Bytes
opaque Config.orderingCode : Bytes
opaque Config.siliconStepping : Bytes
opaque Config.ethMac : Bytes
/-- The PAIR_SIDE strap: 0 side A, 1 side B (Table 11-1). -/
opaque Config.pairSide : Nat
/-- FW_COMPAT_LEVEL of the running image (R3). -/
opaque Config.fwCompatLevel : Nat
/-- FW_SVN_FLOOR as the fuses hold it when the module is delivered (R557). -/
opaque Config.svnFuses : Nat
/-- POOL_UUID of a pool that is created (16 bytes, generated at CREATE): by pool and free-value number. -/
opaque Config.poolUuid : Nat → Nat → Bytes
/-- The low byte of an event's CODE: the firmware's catalogue gives it (R578). -/
opaque Config.eventCodeLow : Nat → Nat → BitVec 8
/-- DETAIL of an event whose content no rule of the spec names: by rule, instance and time (R577, Table 17-4). -/
opaque Config.eventDetail : Nat → Nat → Nat → BitVec 64
/-- Which of the engines that may take a stripe owns it (step 3 of Table 01-5 fixes that one does, not which): by pool and stripe id. -/
opaque Config.stripeEngine : Nat → Nat → Nat
/-- PACK_ESR and PACK_ESR_RATIO of a measurement whose formula gives no value of the object's format (R514, R516): by measurement number. -/
opaque Config.packEsr : Nat → BitVec 32
opaque Config.packRatio : Nat → BitVec 16
/-- The open-circuit voltage, in mV, at a temperature outside −10 to 45 °C (R511 gives no column there): by row and temperature. -/
opaque Config.ocvOutside : Nat → Int → BitVec 16
/-- State of charge of a rested pack, in millionths, where its voltage lies outside its OCV curve (R510): by voltage and temperature. -/
opaque Config.socOutside : Nat → Int → Fin 1000001
/-- What a sensor or a count of corrected hardware errors reads, which no command carries: by object key and free-value number. -/
opaque Config.measured : Nat → Nat → Nat
/-- VALUE of a level-2 counter that no command carries (Table 17-9): by index and free-value number. -/
opaque Config.freeCounter : Nat → Nat → Nat
/-- EVENT_CATALOGUE and DEVICE_COUNTER_NAMES as the firmware holds them (R578, R599). -/
opaque Config.eventCatalogue : Bytes
opaque Config.counterNames : Bytes
/-- What a dictionary write meets outside the device: TAMPER_CLEAR with both tamper inputs inactive for 1 s (R463), PIPE_CLEAR with its known-answer tests passed (R447), by free-value number. -/
opaque Config.tamperQuiet : Nat → Bool
opaque Config.pipePass : Nat → Bool
/-- The image that a dictionary write of FW_SLOT_VERIFY meets (R554), by free-value number. -/
opaque Config.fwImage : Nat → FwImage
/-- The SHA-384 of Pelzanto's engineering and release signing keys: the boot fuses of an NRB-9640-CE hold the first, those of an NRB-9640-CT the second (R3). -/
opaque Config.engineeringHash : Bytes
opaque Config.releaseHash : Bytes
/-- What an image frame holds whose byte layout the spec does not give (R200): by dump number, section and frame number. -/
opaque Config.frameBytes : Nat → Nat → Nat → Bytes
/-- What the checkers of a test stopped by a write of TEST_STOP have counted (R570). -/
opaque Config.testCounts : Nat → Nat × Nat × List Nat × Nat
/-- RSP_SEQ and NEXT_REQ_SEQ of a response outside any session (Table 02-4 defines both for a session). -/
opaque Config.sessionless : Nat → BitVec 16 × BitVec 16
/-- SHA-384 digest of a measured image: by measurement block and version (R558). -/
opaque Config.measurement : Nat → Bytes → Bytes
/-- The body of an SPDM response, past its version and code (R67): by code and free-value number. -/
opaque Config.spdmBody : Nat → Nat → Bytes
/-- The version entry that Get MCTP Version Support gives for a message type other than control (R63). -/
opaque Config.mctpVersion : Nat → BitVec 32
end Sys2Proof
end

