-- ==== Sys2Proof/Machine/State.lean ====
section
/-! DEFINITION. The state of the block: every register, FIFO, buffer, counter, mode and pin the spec gives it, as plain data, and the queue of waiting commands. -/

namespace Sys2Proof.Machine

/-! ## The object dictionary (R14 to R17) -/

/-- Object types (Table 00-4). -/
inductive OTy
  | u8 | u16 | u32 | u64 | i32 | bool | str | blob | tab
deriving DecidableEq, Repr

/-- Access codes (Table 00-5). -/
inductive Acc
  | ro | rw | wo | rwo | const
deriving DecidableEq, Repr

/-- What an object's Units/range column admits. -/
inductive Rng
  /-- Every value of the type's width. -/
  | any
  /-- From `lo` to `hi`. -/
  | btw (lo hi : Int)
  /-- From `lo` to `hi`, or the one further value. -/
  | btwOr (lo hi extra : Int)
  /-- A power of two from `lo` to `hi`. -/
  | pow2 (lo hi : Int)
  /-- A multiple of `m` from `lo` to `hi`. -/
  | mult (lo hi m : Int)
  /-- One of the values listed. -/
  | oneOf (l : List Int)
  /-- One of the encodings listed; any other is a reserved encoding (R9). -/
  | enum (l : List Int)
  /-- Bits of the mask; the others are reserved. -/
  | bits (mask : Nat)
  /-- A byte string of exactly this length. -/
  | lenEq (n : Nat)
  /-- A byte string of at most this length. -/
  | lenMax (n : Nat)
  /-- A table of `lo` to `hi` rows of `w` bytes. -/
  | rows (lo hi w : Nat)
deriving DecidableEq, Repr

/-- One row of an object table: address, type, access, default, range and directory flags (Table 02-12). -/
structure ObjDesc where
  index      : Nat
  sub        : Nat
  lo         : Nat
  hi         : Nat
  ty         : OTy
  acc        : Acc
  dflt       : Int
  rng        : Rng
  persistent : Bool
  staged     : Bool
  pairScope  : Bool
  health     : Bool
  tenant     : Bool
  tenantRead : Bool
  inband     : Bool
deriving DecidableEq, Repr

/-- A value of an object: a number for the fixed-width types, bytes for STR, BLOB and TAB. -/
inductive Val
  | num (n : Int)
  | bytes (b : Bytes)
deriving DecidableEq, Repr

/-- An open multi-part write (R59): the object, the bytes received and when the last part came. -/
structure Multipart where
  key  : Nat
  data : Bytes
  last : Nat
deriving DecidableEq, Repr

/-- A dictionary session beyond its objects of 0x1110 (R72, R73): `fresh` until the first request, the cached response and the open multi-part writes. -/
structure Session where
  fresh  : Bool
  cached : Option Bytes
  /-- RSP_SEQ of the next new response (R72). -/
  rsp    : Nat
  parts  : List Multipart
  /-- For an SPDM session, when its last message came (R68). -/
  last   : Nat
deriving DecidableEq, Repr

/-- Where a dictionary request came from, and so where its response goes: handed to the engine for a session (none: out of band without one), a command of a QP, an MCTP endpoint or a UDP peer with its session, if any. -/
inductive ReqSrc
  | engine (session : Option Nat)
  | cmd (qp tag : Nat)
  | mctp (eid : Nat) (session : Option Nat)
  | udp (peer : Nat) (session : Option Nat)
deriving DecidableEq, Repr

/-- A request held by the 1,000 per second ceiling of R56. -/
structure Paced where
  src : ReqSrc
  req : Bytes
deriving DecidableEq, Repr

/-- A token bucket: level in millionths of a token, and the time it was last brought up to date (R296, R582). -/
structure Bucket where
  level : Int
  last  : Nat
deriving DecidableEq, Repr

/-- The dictionary engine (R48 to R61). -/
structure Dict where
  /-- Every numeric object that does not read its default, by key. -/
  regs     : Tbl Int
  /-- Every STR, BLOB or TAB object that has been written, by key. -/
  blobs    : Tbl Bytes
  sessions : Tbl Session
  paced    : List Paced
  pace     : Bucket
  /-- FACTORY_DEFAULTS was written (R90). -/
  factory  : Bool
deriving DecidableEq, Repr

/-! ## Epochs (R76 to R87) -/

/-- One entry of the staged set (Table 02-11, EPOCH_STAGED). -/
structure Staged where
  key  : Nat
  val  : Val
  pair : Bool
deriving DecidableEq, Repr

/-- The epoch controller beyond the objects of 0x1F00 and 0x1F01. -/
structure Epoch where
  staged    : List Staged
  /-- The change set of the running epoch. -/
  change    : List Staged
  isPair    : Bool
  initiator : Bool
  /-- Units that have acknowledged, and those that have applied the change. -/
  acked     : List Nat
  started   : Nat
  /-- A thermal epoch's quadrant and divider (R543, R544). -/
  thermal   : Option (Nat × Nat)
  /-- The result to report when a revert ends. -/
  revertAs  : Nat
  /-- The pair epoch is marked for reconciliation (Table 02-9). -/
  reconcile : Bool
  /-- A COMMIT flit was sent and is not yet acknowledged (R86). -/
  commitSent : Bool
  /-- The running epoch reconciles this side to the partner's pair epoch (R87). -/
  reconciling : Bool
  /-- In COMMITTING: the configuration record has been written. -/
  recorded  : Bool
  /-- The change set of the last pair epoch completed here, for a partner that is behind (R87). -/
  lastPair  : List Staged
deriving DecidableEq, Repr

/-! ## Events (R577 to R593) -/

/-- Severities of Table 17-1. -/
inductive Sev
  | alarm | error | warn | info | trace
deriving DecidableEq, Repr

/-- An open coalescing window and its folded occurrences (R579). -/
structure EvWindow where
  key     : EvKey
  sev     : Sev
  closes  : Nat
  folded  : Nat
  detail  : Nat
  ts      : Nat
deriving DecidableEq, Repr

/-- A created record (Tables 17-1 and 17-2) before a path fills its own fields. -/
structure EvRec where
  seq       : Nat
  sev       : Sev
  coalesced : Bool
  bootTag   : Nat
  ts        : Nat
  key       : EvKey
  count     : Nat
  detail    : Nat
  /-- PATH_SHED of a queued or stored copy. -/
  shed      : Nat
deriving DecidableEq, Repr

/-- A path's bucket and storm episode (R582, R584). -/
structure EvPath where
  bucket    : Bucket
  shedSince : Nat
  stormFrom : Nat
  stormLast : Nat
  epWarn    : Nat
  epInfo    : Nat
  epTrace   : Nat
deriving DecidableEq, Repr

/-- A PF event ring's deliveries (R585, R589). -/
structure EvRing where
  deliveries : Nat
  unsignalled : Nat
  firstAt    : Nat
deriving DecidableEq, Repr

/-- The event engine. -/
structure Events where
  seq        : Nat
  /-- Sequence values below this are reserved durably (R581). -/
  reserved   : Nat
  windows    : List EvWindow
  alarms     : List EvRec
  store      : List EvRec
  /-- Records held on-die before start-up step 7 (R593). -/
  held       : List EvRec
  paths      : Tbl EvPath
  rings      : Tbl EvRing
  subs       : Tbl (List EvRec)
  /-- The 1,024 level-2 counters (R599), and the histogram bins keyed by object key * 32 + bin. -/
  device     : Tbl Nat
  hist       : Tbl Nat
deriving DecidableEq, Repr

/-! ## Codes and sectors (R91 to R136) -/

/-- A code table (Table 03-5): global rows and local groups as mask and coefficients. -/
structure CodeTbl where
  k    : Nat
  m    : Nat
  l    : Nat
  f    : Nat
  name : Bytes
  glob : List Bytes
  loc  : List (Nat × Bytes)
deriving DecidableEq, Repr

/-- A sector's metadata (Tables 03-9 to 03-11). -/
structure Meta where
  tag       : Bytes
  guard     : Nat
  atomic    : Bool
  badData   : Bool
  encrypted : Bool
  tagged    : Bool
  vol       : Nat
  lba       : Nat
  wseq      : Nat
  stripeLow : Nat
  keySlot   : Nat
  keyGen    : Nat
  relocated : Bool
  cls       : Nat
  kind      : Nat
deriving DecidableEq, Repr

/-! ## Queue pairs, commands and the Sluice (R267 to R339) -/

/-- A data descriptor (Table 07-4). -/
structure Desc where
  addr : Nat
  len  : Nat
  kind : Nat
  resv : Nat
deriving DecidableEq, Repr

/-- Where a sector of a READ stands. -/
inductive RdSec
  /-- Not resolved: an earlier write of the QP overlaps it (R324). -/
  | waiting
  /-- Its leaf is being read (R152). -/
  | leaf
  /-- A member read or a decode is under way. -/
  | fetching
  /-- Delivered to host memory from this level (0 Flume, 1 HBM, 2 member, 3 none), and the slot or frame that holds its bytes. -/
  | delivered (level : Nat) (decoded : Bool) (slot frame : Option Nat)
  /-- Gathered and checked, and waiting until the function may write host memory (Table 09-6): as `delivered`, with the plain bytes. -/
  | gathered (level : Nat) (decoded : Bool) (slot frame : Option Nat) (plain : Bytes)
  /-- Failed with this status (R315). -/
  | failed (status : Nat)
deriving DecidableEq, Repr

/-- Where a sector of a WRITE stands (Table 01-5). -/
inductive WrSec
  /-- Its DMA read is outstanding; the slot is FILLING. -/
  | filling (slot : Nat)
  /-- Landed and guarded (steps 5 and 6), step 7 not reached. -/
  | landed (slot : Nat)
  /-- Step 7 passed: the map points at the slot. -/
  | mapped (slot : Nat)
  /-- Its stripe has committed. -/
  | committed
  /-- Its slot was discarded before landing. -/
  | discarded
deriving DecidableEq, Repr

/-- The state of an admitted or waiting command. -/
inductive Phase
  /-- At decode, with list pages still to be read (R311). -/
  | decode
  /-- At the Sluice. -/
  | waiting
  /-- Admitted, its execution not begun. -/
  | admitted
  /-- Executing. -/
  | running
deriving DecidableEq, Repr

/-- A command taken from a submission ring. -/
structure Cmd where
  tag     : Nat
  srSeq   : Nat
  opcode  : Nat
  flags   : Nat
  volume  : Nat
  slba    : Nat
  nlb     : Nat
  /-- QP_NUMBER of a queue command. -/
  target  : Nat
  descs   : List Desc
  /-- The list page next to be read, if its descriptor walk has not ended. -/
  page    : Option Desc
  phase   : Phase
  takenAt : Nat
  /-- Position in the device's admission order (R37). -/
  admitNo : Nat
  /-- WRITE_SEQ of its first sector. -/
  wseq    : Nat
  /-- Completes after commit (R40). -/
  commitWait : Bool
  rd      : List RdSec
  wr      : List WrSec
  /-- First sector placed: SLBA, or the start of its grain where R142 widens the write. -/
  wFirst  : Nat
  /-- The sectors it places, and the host lane that takes them (R140, R142). -/
  wTotal  : Nat
  lane    : Nat
  /-- Its transfer was cut off (Table 09-6). -/
  cut     : Bool
  /-- A streaming READ (R485). -/
  stream  : Bool
  /-- The sectors of a running VERIFY: repaired and lost. -/
  repaired : Nat
  lost    : Nat
  /-- A WARN for waiting at the Weir has been raised (R186). -/
  warned  : Bool
  /-- Why it waits at the Sluice, by the causes of Table 17-9, and since when. -/
  wait    : Option (Nat × Nat)
deriving DecidableEq, Repr

/-- A completion entry that has been built (R276). -/
structure Cpl where
  order     : Nat
  tag       : Nat
  opcode    : Nat
  srSeq     : Nat
  status    : Nat
  result    : Nat
  degraded  : Bool
  committed : Bool
  nextSr    : Nat
  served    : Nat
  time      : Nat
  /-- The entry occupies its tag (false for CHAIN_MALFORMED and TAG_COLLISION, R292, R293). -/
  holdsTag  : Bool
  /-- The command was admitted and holds a global-pool operation (R294). -/
  holdsPool : Bool
  /-- Its volume and transfer length, for the counters. -/
  volume    : Nat
  bytes     : Nat
  /-- The protected-region slots that become ACKED when the entry is written (R178). -/
  slots     : List Nat
deriving DecidableEq, Repr

/-- A QP beyond the objects of 0x2110 and 0x2120. -/
structure Qp where
  /-- Highest sequence known owned by the device. -/
  known    : Option Nat
  /-- End (exclusive) of the ring fetch that is running. -/
  fetch    : Option Nat
  /-- Sequences whose slot was fetched with OWN 0 and not retained (R289). -/
  spec     : List Nat
  /-- Entries of a chain taken so far. -/
  chain    : List SqEntry
  chainAt  : Nat
  /-- Decoded commands, oldest first. -/
  queue    : List Cmd
  /-- Admitted commands. -/
  cmds     : List Cmd
  /-- Completions built and not written, in order. -/
  cpl      : List Cpl
  /-- CR sequences written and not known free. -/
  crBusy   : List Nat
  /-- Entries written since the last MSI-X message, and when the first was. -/
  coal     : Nat
  coalAt   : Nat
  coalErr  : Bool
  /-- Bytes of the push area written since the last evaluation, by offset. -/
  push     : Tbl Byte
  /-- Row t of TAG_OUTCOME: SR_SEQ and STATUS (R304). -/
  outcomes : Tbl (Nat × Nat)
  /-- The admin QP and tag that wait for a QUEUE_RESET of this QP, and the tags ended. -/
  resetBy  : Option (Nat × Nat)
  ended    : Nat
  /-- Outcomes recorded in TAG_OUTCOME since the reset began. -/
  recorded : Nat
  /-- The FLR or port reset in whose course this QP resets. -/
  byFlr    : Bool
deriving DecidableEq, Repr

/-- The Sluice and the device-global sequences (R37, R294 to R296). -/
structure Sluice where
  /-- Buckets by 4 * instance + kind: kinds 0 and 1 for a function's operations and bytes, 2 and 3 for a volume's. -/
  buckets  : Tbl Bucket
  wseq     : Nat
  admits   : Nat
  builds   : Nat
  /-- The round of R297: the I/O QP being visited and the admissions left to it. -/
  rrQp     : Nat
  rrLeft   : Nat
deriving DecidableEq, Repr

/-! ## Host functions (R340 to R371) -/

/-- A function beyond the objects of 0x2010: its configuration-space bits, its MSI-X masks and its reset. -/
structure Fn where
  mse      : Bool
  pmeEn    : Bool
  pmeStatus : Bool
  msixEn   : Bool
  fnMask   : Bool
  /-- Vectors whose mask bit software has cleared; out of reset every vector is masked. -/
  unmasked : List Nat
  /-- Message address and data of the MSI-X table: double words 0 to 2 of vector v at 4 * v. -/
  table    : Tbl Nat
  pend     : List Nat
deriving DecidableEq, Repr

/-- The running SANITIZE or FORMAT of a volume (R333 to R336). -/
structure VolOp where
  kind     : Nat
  pool     : Nat
  /-- OP_STATE of Table 08-8. -/
  state    : Nat
  /-- The sweep boundary B. -/
  boundary : Nat
  /-- Segments below the boundary when the sweep began. -/
  total    : Nat
  /-- QP and tag of the commands that wait for it. -/
  waiters  : List (Nat × Nat)
  /-- When it started, for the Cistern image test of step 8. -/
  started  : Nat
  /-- The deallocate record's WRITE_SEQ (step 3). -/
  wseq     : Nat
  /-- The checkpoint that must complete before the sweep (step 6 of Table 08-10). -/
  ckpt     : Nat
  /-- The step of Tables 08-9 and 08-10 whose record is being written: 1 none, 2, 3, 4, 5 and 9. -/
  step     : Nat
deriving DecidableEq, Repr

/-- A volume beyond the objects of 0x2900. -/
structure Vol where
  deleting : Bool
  op       : Option VolOp
  /-- While ID_HELD: the record sequence that a complete checkpoint's cut must reach, one past the deletion's VOLUME record (R126). -/
  heldFor  : Nat
deriving DecidableEq, Repr

/-- One host port: PERST_N and VF Enable. -/
structure HostPort where
  perst    : Bool
  vfEnable : Bool
  /-- Out of reset, and start-up has let the port answer. -/
  ready    : Bool
  /-- PORT_CLOCK_MODE, PCI_SUBSYSTEM_VENDOR and PCI_SUBSYSTEM_ID as the last assertion of PERST_N took them (R342, Table 09-8). -/
  clock    : Nat
  vendor   : Nat
  device   : Nat
deriving DecidableEq, Repr

/-- The host endpoint. -/
structure HostSt where
  fns   : Tbl Fn
  ports : Tbl HostPort
deriving DecidableEq, Repr
/-! ## The forward map (R147 to R157) -/

/-- A map entry (Table 04-2). -/
inductive Entry
  | unmapped
  | array (slot zs col : Nat)
  /-- The newest copy is in this protected-region slot. -/
  | prot (slot : Nat)
  | lost
deriving DecidableEq, Repr

/-- What the device knows of the version that an entry locates. -/
structure Ver where
  wseq      : Nat
  relocated : Bool
  stripe    : Nat
  encrypted : Bool
  keySlot   : Nat
  keyGen    : Nat
  bad       : Bool
deriving DecidableEq, Repr

/-- A leaf of the map: its place in the map cache and on the members (R151 to R153). -/
structure Leaf where
  resident : Bool
  dirty    : Bool
  /-- The clock sweep's reference bit. -/
  ref      : Bool
  /-- Segment slot and zone sector of its M3 copies; none while the directory entry is UNMAPPED. -/
  loc      : Option (Nat × Nat)
deriving DecidableEq, Repr

/-- The forward map: entries by VOLUME_ID * 2^40 + grain, versions by VOLUME_ID * 2^40 + LBA, leaves by VOLUME_ID * 2^31 + leaf number. -/
structure MapSt where
  entries : Tbl Entry
  vers    : Tbl Ver
  leaves  : Tbl Leaf
  /-- Where the clock sweep over the leaves stands (R152). -/
  hand    : Nat
  /-- Leaves restored from the Cistern's image, by leaf key, until their pool is assembled (R207). -/
  image   : Tbl (List Entry)
deriving DecidableEq, Repr

/-! ## The protected region (R175 to R183) -/

/-- Slot states other than FREE (Table 05-2). -/
inductive SlotState
  | filling | dirty | committed | parity | mirror
deriving DecidableEq, Repr

/-- A slot and its descriptor (R178). -/
structure Slot where
  st        : SlotState
  md        : Meta
  data      : Bytes
  pool      : Nat
  stripe    : Nat
  row       : Nat
  col       : Nat
  /-- The entry the grain held before the write took the slot (R154). -/
  prev      : Entry
  /-- The version that entry located, where it was known. -/
  prevVer   : Option Ver
  acked     : Bool
  atomicRef : Nat
  /-- A restored slot not yet settled (R209). -/
  restored  : Bool
  /-- The partner holds its copy, or none is needed (R39). -/
  mirrored  : Bool
  /-- The partner has acknowledged the STRIPE record, or none is needed (R195). -/
  recAcked  : Bool
  /-- The command and sector whose data it receives. -/
  qp        : Nat
  tag       : Nat
  sector    : Nat
  /-- The admission order at its step 7: READs with a lower number were admitted before it (R43). -/
  mappedAt  : Option Nat
  /-- 32-byte words of the sector that read as poisoned (R219, R220). -/
  poison    : List Nat
deriving DecidableEq, Repr

/-! ## Stripes, segments and pools (R91 to R172) -/

/-- One stream position of an open stripe (R105). -/
structure Pos where
  fill   : Bool
  landed : Bool
  /-- The slot of a host-class sector. -/
  slot   : Option Nat
  md     : Meta
  /-- The staged payload of the other classes (R146). -/
  data   : Bytes
  /-- A relocation: the entry of the source (R169). -/
  src    : Option Entry
  /-- A map page: its leaf key. -/
  page   : Option Nat
deriving DecidableEq, Repr

/-- A stripe that has not committed. -/
structure Stripe where
  id        : Nat
  cls       : Nat
  lane      : Nat
  seg       : Nat
  first     : Nat
  cap       : Nat
  /-- The cap is the POOL_STRIPE_HEIGHT in force at opening (R108). -/
  fullCap   : Bool
  pos       : List Pos
  /-- CLOSE_REASON, once no further sector is placed in it. -/
  closing   : Option Nat
  issued    : Bool
  height    : Nat
  colsLeft  : List Nat
  /-- Its STRIPE record has been appended. -/
  logged    : Bool
  reissue   : Bool
  atomic    : Bool
  openedAt  : Nat
  /-- STRIPE_AGE_LIMIT when it was opened (R143). -/
  ageLimit  : Nat
  /-- The engine that owns it (R26), by 16 * cluster + engine, and its cluster's unit number. -/
  engine    : Nat
  cluster   : Nat
  /-- The engine's row accumulators (R26, R110): the row under accumulation, and for each parity 4,096 payload bytes and the 35 coded metadata bytes. -/
  row       : Nat
  acc       : List Bytes
  /-- The parities of its complete rows, where its sectors are staged (R146): row by row, as in `acc`. -/
  par       : List Bytes
  /-- Abandoned, or to move, with its segment: it is written again once the segment has sealed (R229). -/
  gone      : Bool
deriving DecidableEq, Repr

/-- A stripe header (Table 03-16). -/
structure StripeHdr where
  id     : Nat
  first  : Nat
  height : Nat
  reason : Nat
  flags  : Nat
  fws    : Nat
  lws    : Nat
  count  : Nat
deriving DecidableEq, Repr

/-- A segment slot that is not FREE (Tables 03-15, 04-4, 04-9). -/
structure Seg where
  /-- SLOT_STATE: 1 OPEN, 2 SEALED, 3 COPIED, 4 RESETTING. -/
  st       : Nat
  seq      : Nat
  cls      : Nat
  table    : Nat
  k        : Nat
  m        : Nat
  l        : Nat
  f        : Nat
  height   : Nat
  sectors  : Nat
  /-- Member slot and zone of each column. -/
  cols     : List (Nat × Nat)
  /-- The zone sector that follows the last stripe. -/
  next     : Nat
  hdrs     : List StripeHdr
  /-- It seals as soon as its stripes have ended (R138, R228, R229, R260). -/
  sealing  : Bool
  /-- Chosen by the Dredger, and the copies of it that have not committed (R172). -/
  chosen   : Bool
  copies   : Nat
  /-- The number of the first checkpoint whose cut follows the last copy's commit. -/
  passBy   : Nat
  /-- Columns whose reset has not completed. -/
  resets   : List Nat
  /-- LIVE_SECTORS as its directory entry last gave it (R168). -/
  hint     : Nat
  /-- The write pointers of a ZNS segment with an abandoned stripe stand at the same zone sector (R229 step 2). -/
  aligned  : Bool
deriving DecidableEq, Repr

/-- A lane (R138). -/
structure Lane where
  cls     : Nat
  idx     : Nat
  seg     : Option Nat
  stripe  : Option Nat
  /-- Held for active-zone resources (R139) or for free zones (R165). -/
  waiting : Bool
  /-- DREDGE_SEGMENTS_FREED when it last opened a segment (Table 04-8). -/
  freedAt : Nat
deriving DecidableEq, Repr

/-- An atomic write whose ATOMIC record is not durable (R158). -/
structure Atomic where
  vol     : Nat
  first   : Nat
  count   : Nat
  qp      : Nat
  tag     : Nat
  slots   : List Nat
  logged  : Bool
deriving DecidableEq, Repr

/-- A running pool action (R96, R97): its code, its step and the member commands it waits for. -/
structure PoolAct where
  code : Nat
  step : Nat
  left : Nat
  /-- Member slots whose reservation it has taken. -/
  held : List Nat
  /-- The result that a failed command has set; zero while none has (R96). The action ends once nothing of its step is outstanding. -/
  result : Nat
deriving DecidableEq, Repr

/-- A running checkpoint (Table 04-7). -/
structure Ckpt where
  number    : Nat
  step      : Nat
  /-- The record sequence of the cut, CUT_STRIPE_ID and CKPT_SEQ_HIGH. -/
  cutRec    : Nat
  cutStripe : Nat
  seqHigh   : Nat
  /-- Leaves to write. -/
  leaves    : List Nat
  /-- Root pages still to write, last first. -/
  roots     : List Nat
  /-- RESHAPE_CURSOR as held at the cut (Table 04-6). -/
  cursor    : Nat
deriving DecidableEq, Repr

/-- A range of the lost list (R252). -/
structure LostRange where
  vol    : Nat
  reason : Nat
  lba    : Nat
  count  : Nat
deriving DecidableEq, Repr

/-- A running reshape (R259 to R263). -/
structure Reshape where
  kind    : Nat
  /-- The leaving member slot of kind REMOVE. -/
  leaving : Nat
  /-- A segment that has been migrated and waits for a checkpoint: its slot. -/
  moving  : Option Nat
  /-- CODE_TABLE and K before a code reshape, for the superblock's table copy (R260). -/
  oldTable : Option CodeTbl
deriving DecidableEq, Repr

/-- A walk over the committed stripes of a pool: the segment slot and the index of the next stripe (R215, R255). -/
structure WalkAt where
  slot    : Nat
  idx     : Nat
  started : Nat
deriving DecidableEq, Repr

/-- A grain under copy (R168): its key, the class it goes to, the entry of its source, and the sectors that have come. -/
structure GrainCopy where
  key : Nat
  cls : Nat
  src : Entry
  n   : Nat
  got : Tbl (Bytes × Meta)
deriving DecidableEq, Repr

/-- A pool beyond the objects of 0x2800 to 0x2A80. -/
structure Pool where
  /-- CREATOR_SERIAL of the superblock. -/
  creator    : Bytes
  /-- Z_m and S (R93). -/
  zm         : Nat
  sectors    : Nat
  /-- The superblock's copy of a custom table (R120). -/
  custom     : Option CodeTbl
  /-- The id of the code table in force (R119). -/
  table      : Option Nat
  /-- A setting that the superblock holds was written while the pool was OFFLINE (R131, R259). -/
  edited     : Bool
  /-- A leaving member: excluded from new segments (Table 06-2). -/
  draining   : List Nat
  nextSeg    : Nat
  nextStripe : Nat
  /-- Segment slots that are not FREE. -/
  segs       : Tbl Seg
  /-- Stripes that have not committed, by STRIPE_ID. -/
  stripes    : Tbl Stripe
  lanes      : List Lane
  /-- Zones in use, by member slot. -/
  zones      : Tbl (List Nat)
  /-- JOIN_SEG_SEQ, by member slot (R124). -/
  joined     : Tbl Nat
  atomics    : List Atomic
  action     : Option PoolAct
  ckpt       : Option Ckpt
  /-- A further checkpoint has been requested (R160). -/
  ckptAgain  : Bool
  /-- Data committed since the cut of the last complete checkpoint, in bytes. -/
  since      : Nat
  /-- Record sequence of the last complete checkpoint's cut. -/
  cutRec     : Nat
  /-- The holds of R162, R153 and R196. -/
  mapHold    : Bool
  leafHold   : Bool
  logHold    : Bool
  lost       : List LostRange
  /-- Stripes with at least one lost sector (R249). -/
  lostStripes : List Nat
  reshape    : Option Reshape
  patrol     : WalkAt
  resync     : Option WalkAt
  /-- SANITIZE sweep boundary: segments below it are to be freed (R335). -/
  sweep      : Option Nat
  /-- Media errors in the sliding window: member slot and time (R223). -/
  mediaErrs  : List (Nat × Nat)
  /-- Superblock write: members whose copies are outstanding. -/
  sbLeft     : Nat
  /-- The own log does not hold the records that the map needs: another controller has served the pool, or it was recovered by another path, and no checkpoint has completed since. -/
  logless    : Bool
  /-- Positions that wait for a lane of their class, oldest first. -/
  staged     : List (Nat × Pos)
  /-- Members whose reservation the pool takes at assembly, and catch-up of a mirrored pool (R414). -/
  catchUp    : Bool
  /-- Grains under copy, oldest first. -/
  grains     : List GrainCopy
  /-- Segment slot and zone sector of the directory, segment directory and root pages, by page address (Table 04-3). -/
  pages      : Tbl (Nat × Nat)
  /-- Directory pages changed since they were last written. -/
  dirtyPages : List Nat
  /-- The next pair of superblock slots in zone 0, and the members whose zone 0 waits for its reset, by member slot (R131). -/
  sbNext     : Tbl Nat
  /-- Zones on each member's namespace, by member slot (Table 03-13). -/
  zonesOf    : Tbl Nat
  sbWait     : List Nat
deriving DecidableEq, Repr

/-! ## The intent log (R190 to R198) -/

/-- An intent-log record. -/
structure LogRec where
  seq     : Nat
  pool    : Nat
  body    : RecBody
  durable : Bool
  /-- Copied forward to the head: what depended on the record has already proceeded (R196). -/
  copy    : Bool
deriving DecidableEq, Repr

/-- The intent log beyond its objects. -/
structure Ilog where
  recs    : List LogRec
  nextSeq : Nat
  /-- Wear rotation (R197): record writes into the block ahead of the spare block since it last moved, the physical place of the spare block among 32,769, and the turns it has made. -/
  ahead   : Nat
  spare   : Nat
  turns   : Nat
  /-- The state block's sequence floors (R190, R194): durable upper bounds of write sequences (key 0), and of the stripe ids and segment sequences of a pool (keys 2p + 1 and 2p + 2). -/
  floors  : Tbl Nat
  /-- Record sequences of words that cannot be read, or whose CRC fails (R192, R198). -/
  bad     : List Nat
  /-- Pools whose cut position the state block does not give, because it cannot be read (R190, R214). -/
  unread  : List Nat
deriving DecidableEq, Repr

/-! ## Member commands (R377 to R398) -/

/-- What a fetched sector is for. -/
inductive Want
  | read (qp tag sector : Nat)
  | verify (qp tag sector : Nat)
  /-- A sector of a grain that a partial write is widened to (R142). -/
  | widen (qp tag sector : Nat)
  /-- A Dredger copy of the segment in this slot (R169). -/
  | dredge (slot : Nat)
  /-- A map page of a metadata segment under copy: its page address (R169, R238). -/
  | page (slot addr : Nat)
  /-- A rebuilt sector (R238). -/
  | rebuild
  | prefetch
  | preload (range : Nat)
  /-- The owner's read-back of a digest (R431). -/
  | digest (seq : Nat)
deriving DecidableEq, Repr

/-- Operations of Table 10-3, with zone and zone sector where they take them. -/
inductive MOp
  | read (zone zs n : Nat)
  /-- With `poison` the data meets a poisoned word and goes out in a poisoned TLP (R220). -/
  | write (zone zs : Nat) (data : Bytes) (fua poison : Bool)
  | writeZeroes (zone zs n : Nat)
  | flush
  | deallocate (zone : Nat)
  | deallocateAll
  | zoneReset (zone : Nat)
  | zoneResetAll
  | zoneReport (zone : Nat)
  | format
  | resRegister
  /-- Acquire Write Exclusive; with Preempt, and with Preempt and Abort. -/
  | resAcquire (preempt : Nat)
  | resRelease
  | resReport
  | identify (nsid : Nat)
  | getLog (page : Nat)
  | setFeatures (fid : Nat)
  | createQueues
  | abort (cmd : Nat)
  | asyncEvent
deriving DecidableEq, Repr

/-- Why a member command was issued. -/
inductive Purp
  /-- A read of one data sector at a location of a pool. -/
  | sector (w : Want) (pool vol lba slot zs col : Nat)
  /-- A source column of a decode. -/
  | source (job col : Nat)
  /-- A copy of a map leaf. -/
  | leaf (pool key copy : Nat)
  /-- A column write of a stripe. -/
  | column (pool stripe col : Nat)
  /-- Headers, stripe tables, gap sectors and trailers of a segment. -/
  | segment (pool slot : Nat)
  /-- The release of a zone. -/
  | zone (pool slot col : Nat)
  | superblock (pool mslot : Nat)
  /-- A step of a pool action. -/
  | action (pool mslot : Nat)
  /-- A step of MEMBER_ACTION ADD. -/
  | add (pool mslot : Nat)
  /-- Reservation work of a takeover or a handover. -/
  | takeover (pool mslot : Nat)
  | admission
  | health
  | recovery (cmd : Nat)
deriving DecidableEq, Repr

/-- Where a member command stands. -/
inductive MState
  /-- In the drive's submission queue. -/
  | placed
  /-- Waiting for queue depth, or for the write before it in its zone (R145, R383). -/
  | waiting
  /-- Held at the drive write gate (R397). -/
  | gated
  /-- Held on a frozen port (R388). -/
  | held
  /-- Waiting for the Command Retry Delay (R384). -/
  | delayed
  /-- Timed out; its Abort is outstanding (Table 10-6). -/
  | aborting
deriving DecidableEq, Repr

/-- A member command. -/
structure MCmd where
  port    : Nat
  op      : MOp
  purp    : Purp
  st      : MState
  issued  : Nat
  retries : Nat
  /-- It has been reissued by the recovery sequence, which began at this time. -/
  recFrom : Option Nat
  /-- A Write whose data phase has begun. -/
  begun   : Bool
deriving DecidableEq, Repr

/-- A drive port beyond the objects of 0x2410. -/
structure DPort where
  /-- PRSNT_N as last sampled: low is true. -/
  seated   : Bool
  /-- PRSNT_N has read low for HOTPLUG_DEBOUNCE. -/
  debounced : Bool
  linkUp   : Bool
  /-- PERST_N of the bay is released. -/
  released : Bool
  /-- The step of R380 that is running. -/
  admStep  : Nat
  /-- A controller reset is running (Table 10-6 step 3), or the RETRY of a release. -/
  resetting : Bool
  retrying : Bool
  ready    : Bool
  /-- Identify Controller and the Identify data of the namespaces, as admission read them. -/
  ctrl     : Option CtrlInfo
  ns       : List NsInfo
  /-- The namespace chosen: its 4096+64 format is in force, and its zones. -/
  formatted : Bool
  zones    : Nat
  eui      : Nat
  /-- The newest valid superblock found in zone 0, or nothing, and the slot of zone 0 that holds it (R98, R131). -/
  sb       : Bytes
  sbSlot   : Nat
deriving DecidableEq, Repr

/-- A decode that waits for its sources (R231, R235). -/
structure Job where
  want    : Want
  pool    : Nat
  vol     : Nat
  lba     : Nat
  slot    : Nat
  zs      : Nat
  col     : Nat
  /-- Columns erased for this decode, the sources, and what has landed: 4,160 bytes by column. -/
  erased  : List Nat
  sources : List Nat
  got     : Tbl Bytes
  /-- The search of R235: the first decode's erased columns and sources, and the sets still to try. -/
  first   : List Nat
  used    : List Nat
  tried   : List (List Nat)
  /-- Sources that failed their checks during the search. -/
  bad     : List Nat
  /-- The direct read failed its checks, or with a media status, so the sector is repaired (R234, R384). -/
  repair  : Bool
  /-- It waits for a CONTAINED column (R389). -/
  waits   : Bool
deriving DecidableEq, Repr

/-- The drive IO die. -/
structure Drv where
  cmds    : Tbl MCmd
  nextCmd : Nat
  ports   : Tbl DPort
  jobs    : Tbl Job
  nextJob : Nat
  /-- The 192 output bits shifted in during the previous frame, as PERST_N, FAULT_LED and LOCATE_LED of each bay (R393). -/
  shift   : Nat
deriving DecidableEq, Repr

/-! ## Keys, tamper and zeroing (R436 to R470) -/

/-- The cipher and key part beyond the objects of 0x3000 to 0x6010. -/
structure KeySt where
  /-- Installed generations, 96 bytes each, by 2 * slot for the current and 2 * slot + 1 for the previous (R449). -/
  keys    : Tbl Bytes
  /-- The wrapped store of WRAPPED mode, by the same numbers (R456); it is readable while `salt` is. -/
  wrapped : Tbl Bytes
  salt    : Bool
  /-- Staging bytes of each PF that have been written, by 128 * PF + offset (R458). -/
  staging : Tbl Byte
  /-- Slots whose current generation has raised its usage warning (R452). -/
  warned  : List Nat
  /-- TAMPER_A_N is low, the mesh is broken, and since when both have been inactive (R464). -/
  enclosure : Bool
  mesh    : Bool
  quiet   : Nat
  /-- The last owner of each unit, by kind * 2^32 + unit (Table 12-8). -/
  owners  : Tbl Nat
  /-- Zeroed units taken from the reserve of each kind and not yet replaced (R470). -/
  taken   : Tbl Nat
deriving DecidableEq, Repr

/-! ## On-die cache and read cache (R473 to R500) -/

/-- A sector frame that is not INVALID, or is locked (Table 13-2). -/
structure Frame where
  /-- FRAME_STATE: 0 INVALID, 1 FILLING, 2 VALID, 3 STALE. -/
  st     : Nat
  age    : Nat
  locked : Bool
  prefetched : Bool
  vol    : Nat
  lba    : Nat
  md     : Meta
  data   : Bytes
  /-- The lock range it belongs to. -/
  range  : Option Nat
deriving DecidableEq, Repr

/-- A unit of the HBM read cache (R498). -/
structure RcLine where
  md   : Meta
  data : Bytes
  ref  : Bool
deriving DecidableEq, Repr

/-- A running maintenance operation (Table 13-4). -/
structure Maint where
  op    : Nat
  vol   : Nat
  slba  : Nat
  nlb   : Nat
  range : Nat
  /-- The next unit of work: a frame set, a line set or a preload sector. -/
  next  : Nat
  total : Nat
  /-- The ways of each slice that are leaving, and those to be tested, by 16 * slice + way. -/
  ways  : List Nat
  tests : List Nat
  /-- Paused for an epoch (R493). -/
  paused : Bool
deriving DecidableEq, Repr

/-- A fill under way: the frame's sector and how it is filled (R480). -/
structure Fill where
  vol    : Nat
  lba    : Nat
  kind   : Nat
  frame  : Nat
  md     : Meta
  data   : Bytes
deriving DecidableEq, Repr

/-- What a line of a line way holds (R477): 128 bytes of a map leaf, of a directory page, or a copy of a slot's descriptor. -/
inductive LineOf
  | leaf (key line : Nat)
  | dir (page line : Nat)
  | desc (slot copy : Nat)
deriving DecidableEq, Repr

/-- A line of HBM held in a line way. Its bytes are those that the model holds once, in the map or in the protected region; dirty: HBM does not hold them yet. -/
structure Line where
  what  : LineOf
  age   : Nat
  dirty : Bool
deriving DecidableEq, Repr

/-- The slices and the read cache. Frames are keyed (512 * slice + set) * 16 + way. -/
structure CacheSt where
  frames : Tbl Frame
  rc     : Tbl RcLine
  fills  : List Fill
  maint  : Option Maint
  /-- Ways waiting to be disabled when the current step ends (R491, R496), by 16 * slice + way. -/
  failing : List Nat
  /-- The run of consecutive READs of a QP and volume: next LBA and length, by 4096 * qp + volume (R485). -/
  runs   : Tbl (Nat × Nat)
  /-- Lock ranges that are to be preloaded again (R490, R494). -/
  reload : List Nat
deriving DecidableEq, Repr


/-! ## The backup pack (R502 to R521) -/

/-- The pack estimator beyond the objects of 0x1900 to 0x1930. -/
structure PackSt where
  /-- Charge drawn since the origin, in µC (positive on discharge), and the time of the last valid sample. -/
  charge   : Int
  sampleAt : Nat
  /-- Thermistor of the last sample: 0 in range, 1 open, 2 short. -/
  ntc      : Nat
  /-- The impedance measurement that runs: 0 none, 1 settling, 2 load on; and one that is due but deferred. -/
  step     : Nat
  due      : Bool
  /-- Reference voltage (mV) and current (mA) of the running measurement. -/
  v0       : Int
  i0       : Int
  /-- When ESR was last measured. -/
  esrAt    : Nat
  /-- A charge curve under way: V_oc in µV and the charge when it began (R509). -/
  curve    : Option (Int × Int)
  /-- State of charge in millionths, and the charge for which it stands (R510). -/
  soc      : Int
  socAt    : Int
  /-- The last rested point: its state of charge and charge. -/
  rest     : Option (Int × Int)
  /-- After a loss of P3V3_AUX a lithium-ion pack waits for its first rest (Table 14-6). -/
  needRest : Bool
  /-- ESR has been measured since LEARNING was entered. -/
  measured : Bool
  /-- PACK_AGEING has been raised for the ratio, and for the capacity. -/
  agedEsr  : Bool
  agedCap  : Bool
deriving DecidableEq, Repr

/-! ## Power Sentry, clocks, the Cistern's images, start-up, tests and firmware (R199 to R212, R526 to R576) -/

/-- States of Table 15-8. -/
inductive PsMode
  | off | standby | running | rideThrough | dumping | halted
deriving DecidableEq, Repr

/-- An image area of the Cistern (R199, Table 05-5). -/
structure OpenStripe where
  pool  : Nat
  id    : Nat
  seg   : Nat
  first : Nat
  /-- Rows filled. -/
  rows  : Nat
deriving DecidableEq, Repr

/-- An image of the Cistern (R200). -/
structure Image where
  num     : Nat
  cause   : Nat
  /-- Own DIRTY and MIRROR slots, by number, as their descriptors and data record them. -/
  slots   : Tbl Slot
  /-- HEADER: module serial, epoch numbers (device and pair), intent log head, and the planned byte counts of sections 2 to 8. -/
  serial  : Bytes
  epochs  : Nat × Nat
  head    : Nat
  planned : List Nat
  /-- OPEN_STRIPES: every host-class stripe that was open or destaging. -/
  stripes : List OpenStripe
  /-- The partner's mirrored records. -/
  recs    : List LogRec
  /-- Dirty leaves within the leaf budget (R205), by leaf key in the order written, with their entries. -/
  leaves  : List (Nat × List Entry)
  /-- Frames written, in the order of Table 05-5, each section's data frames before its section-end frame. -/
  written : Nat
deriving DecidableEq, Repr

/-- A running on-demand test (Table 16-5). -/
structure TestRun where
  op      : Nat
  target  : Nat
  started : Nat
deriving DecidableEq, Repr

/-- Power Sentry, the state block's marks, the image areas and start-up. -/
structure PowerSt where
  mode     : PsMode
  /-- P3V3_AUX and P12V are in range. -/
  aux      : Bool
  p12v     : Bool
  /-- RESET_N is held low. -/
  resetN   : Bool
  tripped  : Bool
  /-- When the present sag began, and ride-through time accumulated before it, in µs (R534). -/
  sagAt    : Nat
  ride     : Nat
  /-- PLL_MAIN has lost lock: derived clocks are gated (R538). -/
  gated    : Bool
  /-- Thermal steps that wait for IDLE: quadrant and divider. -/
  thermal  : List (Nat × Nat)
  /-- Thermal steps whose epoch has reverted. -/
  retry    : List (Nat × Nat)
  /-- When each quadrant last stepped down (R543). -/
  stepped  : Tbl Nat
  /-- DUMP_START and DUMP_END of the last stop, and the stop mark: cause and ACKED_DIRTY (R211, R212). -/
  started  : Bool
  ended    : Bool
  mark     : Option (Nat × Bool)
  /-- The running dump: when it was triggered, and the reset kind that follows it. -/
  dumpAt   : Nat
  kind     : Nat
  /-- The step in STARTUP_STEP has finished and the next one waits for its condition. -/
  stepDone : Bool
  /-- When P3V3_AUX came into range, and the event sequence at the last reset. -/
  auxAt    : Nat
  evFrom   : Nat
  /-- The image areas A and B, the area that the next dump writes, and the last dump number issued. -/
  imgA     : Option Image
  imgB     : Option Image
  next     : Bool
  dumps    : Nat
  /-- The last stop found every pool OFFLINE or dumped nothing; a loss of unknown extent waits for CISTERN_RESTORE_LOSS_ACK (R211, R572). -/
  clean    : Bool
  lossHeld : Bool
  /-- The last dump was empty (R203), and the number of the last image that a start-up has consumed (Table 05-6). -/
  empty    : Bool
  consumed : Nat
  /-- Pools whose ONLINE action was written before step 11 (R566). -/
  online   : List Nat
  /-- Consecutive failed start-ups of the slot in use, and the slot (R554). -/
  attempts : Nat
  bootSlot : Nat
  test     : Option TestRun
  /-- 64 KiB chunks of the firmware store, by 512 * slot + chunk (R556). -/
  nor      : Tbl Bytes
  /-- The JTAG instruction in force (R571). -/
  jtag     : JtagOp
  /-- HBM stacks that refresh at the doubled rate, and those that have failed (R499). -/
  refresh  : List Nat
  hbmDead  : List Nat
deriving DecidableEq, Repr

/-! ## Management transports (R62 to R71) -/

/-- An MCTP message under assembly: its type, the next packet sequence number and the bytes so far (R63). -/
structure McAsm where
  ty   : Nat
  seq  : Nat
  data : Bytes
deriving DecidableEq, Repr

/-- The management transports beyond the objects of 0x1100 and 0x1110. -/
structure MgmtSt where
  /-- The endpoint ID and the I3C dynamic address; 0 is none. -/
  eid     : Nat
  dynAddr : Nat
  /-- The static I3C and SMBus address in use: I3C_STATIC_ADDR as the last reset took it (0x1100.0A). -/
  static  : Nat
  /-- Messages under assembly, by 16 * source + tag. -/
  asm     : Tbl McAsm
  /-- The source endpoint of an MCTP session, or the peer of a UDP session, by session number. -/
  peer    : Tbl Nat
  /-- Sessions for which KEY_EXCHANGE has been answered and FINISH has not. -/
  shaking : List Nat
  /-- The IPv4 address in use. -/
  ipv4    : Nat
deriving DecidableEq, Repr

/-! ## The pair and the Culvert (R399 to R435) -/

/-- Messages of Table 11-6. -/
inductive Msg
  | mirrorData (pool slot flags atomicRef : Nat) (md : Bytes) (data : Bytes)
  | mirrorAck (accepted rejected : List Nat)
  | mirrorRelease (slots : List Nat)
  | atomicMark (pool vol first count : Nat)
  | record (pool : Nat) (recs : List LogRec)
  | recordAck (id : Nat)
  | heartbeat (serial : Bytes) (side level epoch evSeq reserve faultsA faultsB : Nat)
  | epochPrepare (epoch : Nat) (change : List Staged)
  | epochPrepared (epoch : Nat)
  | epochCommit (epoch : Nat)
  | epochAbort (epoch : Nat)
  | digest (pool stripe first height : Nat) (slots : List Nat) (value : Nat)
  | digestReply (pool stripe : Nat) (value : Option Nat)
  | sync (pool : Nat) (start : Bool)
  | dumping
  | handover (pool ckpt : Nat) (done : Bool)
  | config (pool gen off : Nat) (data : Bytes)
  | settled (pool : Nat)
deriving DecidableEq, Repr

/-- A message under transmission or waiting for credit. -/
structure OutMsg where
  chan : Nat
  id   : Nat
  msg  : Msg
  /-- When it was handed over for transmission. -/
  since : Nat
deriving DecidableEq, Repr

/-- A MESSAGE flit held in the replay buffer (R406). -/
structure Flit where
  seq   : Nat
  chan  : Nat
  id    : Nat
  index : Nat
  count : Nat
deriving DecidableEq, Repr

/-- The Culvert link layer (R403 to R409). -/
structure Link where
  /-- The next SEQ to send, and the expected sequence E. -/
  txSeq   : Nat
  expect  : Nat
  /-- E for which a NAK has been sent. -/
  naked   : Option Nat
  /-- An acknowledgement is due: SEQ values accepted since the last one was sent. -/
  held    : List Flit
  /-- Messages whose flits wait for credit, oldest first. -/
  queue   : List OutMsg
  /-- Messages sent and not wholly acknowledged. -/
  sent    : List OutMsg
  /-- Credits used of each channel. -/
  used    : Tbl Nat
  /-- The next MSG_ID of each channel. -/
  nextId  : Tbl Nat
  /-- Payload bytes of partly received messages, by channel. -/
  partials : Tbl Bytes
  /-- When a flit last passed its CRC, and when an acknowledgement last advanced. -/
  heard   : Nat
  acked   : Nat
deriving DecidableEq, Repr

/-- A running takeover (Table 11-9). -/
structure Takeover where
  pools   : List Nat
  step    : Nat
  cause   : Nat
  started : Nat
  /-- Member instances (R123) won, lost, and not yet answered. -/
  won     : List Nat
  lost    : List Nat
  open_   : List Nat
  /-- The heartbeat has been absent throughout step 2. -/
  silent  : Bool
  /-- The ALARM of R423 has been raised. -/
  alarmed : Bool
deriving DecidableEq, Repr

/-- A stripe under compared destage (R430, R431): the owner's digest, and the partner's once it has answered. -/
structure DigestRec where
  owner   : Nat
  slots   : List Nat
  partner : Option Nat
  done    : Bool
  /-- Its place, FIRST_SECTOR and HEIGHT, as the digest carries it. -/
  first   : Nat
  height  : Nat
  /-- The partner's copies of the sectors, returned after a mismatch, by owner slot, and whether they have been asked for. -/
  copies  : Tbl Bytes
  asked   : Bool
  /-- Read-back sectors that have arrived, by position. -/
  back    : Tbl Bytes
deriving DecidableEq, Repr

/-- An atomic mark held for the partner's writes, or an atomic write of this controller that has been marked (R413). -/
structure Mark where
  pool  : Nat
  vol   : Nat
  first : Nat
  count : Nat
deriving DecidableEq, Repr

/-- A Reservation Report on every member after a conflict (R425): member slots not yet answered, and those whose reservation the partner holds. -/
structure Contest where
  left   : List Nat
  theirs : List Nat
deriving DecidableEq, Repr

/-- The pair beyond the objects of 0x3400 to 0x3421. -/
structure PairSt where
  link     : Link
  /-- PAIR_ENABLE as the last reset took it (R400). -/
  enabled  : Bool
  joined   : Bool
  /-- A HEARTBEAT has come and has not gone missing since; what it said. -/
  heard    : Bool
  peerSide : Nat
  peerEpoch : Nat
  peerSeq  : Nat
  /-- Since when the pair epochs of the joined pair have been unequal, and when the change set of R87 was last sent. -/
  unequal  : Option Nat
  reconAt  : Option Nat
  takeover : Option Takeover
  /-- Steps of running handovers, by pool (R429). -/
  handover : Tbl Nat
  /-- MIRROR_DATA not yet acknowledged: owner slot by MSG_ID. -/
  mirWait  : Tbl Nat
  /-- RECORD messages not yet acknowledged: the record by MSG_ID. -/
  recWait  : Tbl LogRec
  /-- The mirrored-record area, and the partner's atomic marks. -/
  recs     : List LogRec
  marks    : List Mark
  /-- Stripes under compared destage, by pool * 2^48 + STRIPE_ID. -/
  digests  : Tbl DigestRec
  /-- Pools for which the partner's SETTLED has arrived, and those this controller has settled and not yet announced. -/
  settled  : List Nat
  toSettle : List Nat
  /-- The partner has said that it dumps. -/
  dumping  : Bool
  /-- Mirroring faults in the window: side and time (R432). -/
  faults   : List (Nat × Nat)
  /-- The counts of sides A and B in the partner's last HEARTBEAT. -/
  peerFaults : Nat × Nat
  /-- Superblock copies under reception, by pool: generation and parts. -/
  config   : Tbl (Nat × Tbl Bytes)
  /-- Catch-ups of this side as owner: SYNC end has been sent. -/
  synced   : List Nat
  /-- Ownership contests under way, by pool. -/
  contest  : Tbl Contest
deriving DecidableEq, Repr

/-! ## What the block drives -/

/-- Output pins and lines. -/
inductive Pin
  | wake | thermAlert | pairAlive | fenceReq | fenceAck | packCharge | packTest | powerGood
  | drivePerst (port : Nat)
  | faultLed (port : Nat)
  | locateLed (port : Nat)
  | driveClock (group : Nat)
deriving DecidableEq, Repr

/-- Something the block drives, in the order in which it drives it. -/
inductive Out
  | pin (p : Pin) (level : Bool)
  /-- A posted write to host memory under a function's requester ID. -/
  | hostWrite (fn addr : Nat) (data : Bytes)
  /-- A read request to host memory. -/
  | hostRead (fn addr len : Nat)
  /-- An MSI-X message: the vector, and the address and data that its table entry holds. -/
  | msix (fn vec addr data : Nat)
  /-- An Unsupported Request reported through AER. -/
  | unsupported (fn bar off : Nat)
  /-- The value returned by a memory read. -/
  | mmioData (fn : Nat) (data : Bytes)
  | pme (fn : Nat)
  /-- The value a read of an object produces. -/
  | objRead (index inst : Nat) (data : Bytes)
  /-- A command placed in the submission queue of a drive. -/
  | member (id port : Nat) (op : MOp)
  /-- A message sent over the Culvert: its channel and MSG_ID. -/
  | msg (chan id : Nat) (m : Msg)
  /-- A flit sent again (R407). -/
  | flit (f : Flit)
  /-- An acknowledgement: ACK_SEQ, and whether it is a NAK. -/
  | ack (seq : Nat) (nak : Bool)
  /-- Receive credits returned to the sender: channel and flits. -/
  | credit (chan n : Nat)
  /-- A packet of an MCTP message sent to an endpoint: packet sequence, start and end of message, and up to 64 bytes of the message body (R63). -/
  | mctp (eid seq : Nat) (som eom : Bool) (data : Bytes)
  /-- A dictionary response handed to the transport that carried its request: the session, if any. -/
  | dict (session : Option Nat) (data : Bytes)
  /-- A management datagram sent to a peer: PAYLOAD_KIND and payload. -/
  | udp (peer kind : Nat) (data : Bytes)
  /-- A management Ethernet frame: 0 ARP, 1 ICMP echo, 2 ICMPv6 echo, 3 neighbour discovery, 4 DHCPv4, and its content. -/
  | frame (kind : Nat) (data : Bytes)
  /-- The partner is asked for the mirror copy of an owner slot, or to send again what a mirror slot held (Table 05-8). -/
  | wantMirror (slot : Nat)
  | wantAgain (slot : Nat)
deriving DecidableEq, Repr

/-- The whole machine. -/
structure State where
  /-- Microseconds since the model's origin. -/
  now     : Nat
  /-- The time of the last power-on reset, the origin of UPTIME. -/
  bootAt  : Nat
  dict    : Dict
  ep      : Epoch
  ev      : Events
  qps     : Tbl Qp
  sluice  : Sluice
  host    : HostSt
  vols    : Tbl Vol
  map     : MapSt
  prot    : Tbl Slot
  pools   : Tbl Pool
  ilog    : Ilog
  drv     : Drv
  key     : KeySt
  cache   : CacheSt
  /-- Lines of the line ways (R473, R477), keyed (16384 * slice + set) * 16 + way. -/
  lines   : Tbl Line
  pair    : PairSt
  pack    : PackSt
  power   : PowerSt
  mgmt    : MgmtSt
  pins    : Tbl Nat
  /-- Everything the block has driven, oldest first. -/
  out     : List Out
  /-- The model's own counter of free values (no register of the spec). -/
  freeCtr : Nat
  /-- Commands that are waiting, first in, first out. -/
  pending : List Instr
deriving DecidableEq, Repr

/-- Why a command faults. No command of this block does: where the spec gives an effect it is modelled. -/
inductive Fault
  /-- Raised by nothing; kept so that the outcome type has its three cases. Safe. -/
  | unreachable
deriving DecidableEq, Repr

/-- Why a command is refused. -/
inductive Refusal
  /-- Raised by a dispatch arm whose command has no meaning yet. Safe. -/
  | notModelled (mnemonic : String)
deriving DecidableEq, Repr

/-! ## Reset -/

/-- Pin levels while the on-module rails are off: WAKE_N and THERM_ALERT_N stand in the AUX domain; the outputs of the MAIN domain are high impedance, which is 2 (R524, R525). -/
def darkPins (wake therm : Nat) : Tbl Nat :=
  [(0, wake), (1, therm), (2, 2), (3, 2), (4, 2)] ++ (List.range 16).map (fun g => (200 + g, 2))

/-- The machine right after a power-on reset: every object at the value its table gives (R17: an unlisted register reads its Default), no command, no queue, no memory content, and no time passed. -/
def State.reset : State :=
  { now := 0, bootAt := 0
    dict := { regs := [], blobs := [], sessions := [], paced := [], pace := { level := 1000000, last := 0 }, factory := false }
    ep := { staged := [], change := [], isPair := false, initiator := false, acked := [], started := 0, thermal := none, revertAs := 0
            reconcile := false, commitSent := false, reconciling := false, recorded := false, lastPair := [] }
    ev := { seq := 0, reserved := 0, windows := [], alarms := [], store := [], held := [], paths := [], rings := [], subs := [], device := [], hist := [] }
    qps := []
    sluice := { buckets := [], wseq := 0, admits := 0, builds := 0, rrQp := 0, rrLeft := 0 }
    host := { fns := [], ports := [] }
    vols := []
    map := { entries := [], vers := [], leaves := [], hand := 0, image := [] }
    prot := []
    pools := []
    ilog := { recs := [], nextSeq := 0, ahead := 0, spare := 32768, turns := 0, floors := [], bad := [], unread := [] }
    drv := { cmds := [], nextCmd := 0, ports := [], jobs := [], nextJob := 0, shift := 0 }
    key := { keys := [], wrapped := [], salt := false, staging := [], warned := [], enclosure := false, mesh := false, quiet := 0, owners := [], taken := [] }
    cache := { frames := [], rc := [], fills := [], maint := none, failing := [], runs := [], reload := [] }
    lines := []
    pair := { link := { txSeq := 0, expect := 0, naked := none, held := [], queue := [], sent := [], used := [], nextId := [], partials := [], heard := 0, acked := 0 }
              enabled := false, joined := false, heard := false, peerSide := 0, peerEpoch := 0, peerSeq := 0, unequal := none, reconAt := none, takeover := none, handover := [], mirWait := [], recWait := [], recs := [], marks := []
              digests := [], settled := [], toSettle := [], dumping := false, faults := [], peerFaults := (0, 0), config := [], synced := [], contest := [] }
    pack := { charge := 0, sampleAt := 0, ntc := 0, step := 0, due := false, v0 := 0, i0 := 0, esrAt := 0, curve := none, soc := 0, socAt := 0, rest := none, needRest := true, measured := false
              agedEsr := false, agedCap := false }
    power := { mode := .standby, aux := true, p12v := false, resetN := false, tripped := false, sagAt := 0, ride := 0, gated := false, thermal := [], retry := [], stepped := []
               started := false, ended := false, mark := none, dumpAt := 0, kind := 0, stepDone := false, auxAt := 0, evFrom := 0, imgA := none, imgB := none, next := false, dumps := 0
               clean := true, lossHeld := false, empty := false, consumed := 0, online := [], attempts := 0, bootSlot := 0, test := none, nor := [], jtag := .bypass, refresh := [], hbmDead := [] }
    mgmt := { eid := 0, dynAddr := 0, static := 0x52, asm := [], peer := [], shaking := [], ipv4 := 0 }
    pins := darkPins 1 1
    out := []
    freeCtr := 0
    pending := [] }

end Sys2Proof.Machine
end

