-- ==== Sys2Proof/Machine/Tbl.lean ====
section
/-! DEFINITION. Tables sorted by key, the one form in which the state holds sparse data, and byte-order helpers (R7). -/

namespace Sys2Proof.Machine

/-- The value at a key. -/
def Tbl.get {α : Type} (t : Tbl α) (k : Nat) : Option α :=
  match t with
  | [] => none
  | (j, v) :: r => if j = k then some v else Tbl.get r k

/-- The value at a key, or `d`. -/
def Tbl.getD {α : Type} (t : Tbl α) (k : Nat) (d : α) : α :=
  (Tbl.get t k).getD d

/-- Set the value at a key, keeping the keys rising. -/
def Tbl.set {α : Type} (t : Tbl α) (k : Nat) (v : α) : Tbl α :=
  match t with
  | [] => [(k, v)]
  | (j, w) :: r => if k < j then (k, v) :: (j, w) :: r else if k = j then (k, v) :: r else (j, w) :: Tbl.set r k v

/-- Remove a key. -/
def Tbl.erase {α : Type} (t : Tbl α) (k : Nat) : Tbl α :=
  match t with
  | [] => []
  | (j, w) :: r => if j = k then Tbl.erase r k else (j, w) :: Tbl.erase r k

/-- Change the value at a key, if there is one. -/
def Tbl.modify {α : Type} (t : Tbl α) (k : Nat) (f : α → α) : Tbl α :=
  match Tbl.get t k with
  | some v => Tbl.set t k (f v)
  | none => t

/-- Change the value at a key, starting from `d`. -/
def Tbl.update {α : Type} (t : Tbl α) (k : Nat) (d : α) (f : α → α) : Tbl α :=
  Tbl.set t k (f (Tbl.getD t k d))

/-- Change every value. -/
def Tbl.mapV {α : Type} (t : Tbl α) (f : Nat → α → α) : Tbl α :=
  t.map (fun p => (p.1, f p.1 p.2))

/-- Keep the entries whose key passes. -/
def Tbl.filterK {α : Type} (t : Tbl α) (p : Nat → Bool) : Tbl α :=
  t.filter (fun e => p e.1)

/-- The canonical form of a table: keys strictly rising. -/
def Tbl.wf {α : Type} : Tbl α → Bool
  | [] => true
  | [_] => true
  | (j, _) :: (k, w) :: r => decide (j < k) && Tbl.wf ((k, w) :: r)

/-- Set the value at a key of a table whose unlisted keys read `d`, keeping out entries equal to `d`. -/
def Tbl.put {α : Type} [DecidableEq α] (t : Tbl α) (d : α) (k : Nat) (v : α) : Tbl α :=
  if v = d then Tbl.erase t k else Tbl.set t k v

/-- The lowest natural number from `k` on, within `fuel`, that is no key. -/
def Tbl.firstFree {α : Type} (t : Tbl α) (k : Nat) : Nat → Nat
  | 0 => k
  | n + 1 => match Tbl.get t k with
    | some _ => Tbl.firstFree t (k + 1) n
    | none => k

/-- `n` bytes of a number, lowest first (R7). -/
def leBytes (n v : Nat) : Bytes :=
  (List.range n).map (fun i => BitVec.ofNat 8 (v / 256 ^ i))

/-- The number that bytes spell, lowest first (R7). -/
def leNat : Bytes → Nat
  | [] => 0
  | b :: r => b.toNat + 256 * leNat r

/-- `n` bytes of a string from offset `o`. -/
def slice (b : Bytes) (o n : Nat) : Bytes :=
  (b.drop o).take n

/-- The unsigned field of `n` bytes at offset `o`. -/
def fieldAt (b : Bytes) (o n : Nat) : Nat :=
  leNat (slice b o n)

/-- Bits `[lo + len - 1 : lo]` of a number. -/
def bitsAt (v lo len : Nat) : Nat :=
  v / 2 ^ lo % 2 ^ len

/-- Bit `i` of a number. -/
def bitAt (v i : Nat) : Bool :=
  v / 2 ^ i % 2 == 1

/-- One bit as a number. -/
def b2n (b : Bool) : Nat :=
  if b then 1 else 0

/-- A string of zero bytes. -/
def zeros (n : Nat) : Bytes :=
  List.replicate n 0

/-- Replace the bytes from offset `o` on by `d`. -/
def patch (b : Bytes) (o : Nat) (d : Bytes) : Bytes :=
  b.take o ++ d ++ b.drop (o + d.length)

/-- Bytewise exclusive or. -/
def xorBytes (a b : Bytes) : Bytes :=
  List.zipWith (fun x y => x ^^^ y) a b

/-- Saturate at `m`. -/
def sat (m v : Nat) : Nat :=
  if v > m then m else v

/-- Add an element to a list without repeats. -/
def addOnce (l : List Nat) (x : Nat) : List Nat :=
  if l.contains x then l else l ++ [x]

/-- Sort a list of numbers, keyed by `f`, by insertion. -/
def insertBy {α : Type} (f : α → Nat) (x : α) : List α → List α
  | [] => [x]
  | y :: r => if f x < f y then x :: y :: r else y :: insertBy f x r

/-- Sort by key, keeping the order of equal keys. -/
def sortBy {α : Type} (f : α → Nat) (l : List α) : List α :=
  l.foldl (fun acc x => insertBy f x acc) []

/-- A number is a power of two. -/
def isPow2 (n : Nat) : Bool :=
  (List.range 64).any (fun i => n == 2 ^ i)

end Sys2Proof.Machine
end

