-- ==== Sys2Proof/Machine/Code.lean ====
section
/-! DEFINITION. Code arithmetic in GF(2^8), the built-in and custom code tables, their check, and decoding (R110 to R119), and CRC-64 (R128). -/

namespace Sys2Proof.Machine

/-! ## GF(2^8) with polynomial 0x11D -/

/-- Multiply by 0x02. -/
def gfDouble (a : Byte) : Byte :=
  if a.msb then (a <<< 1) ^^^ 0x1D#8 else a <<< 1

/-- Multiplication by the low `n` bits of `b`. -/
def gfMulN (a b : Byte) : Nat → Byte
  | 0 => 0
  | n + 1 => (if b.getLsbD 0 then a else 0) ^^^ gfMulN (gfDouble a) (b >>> 1) n

/-- Multiplication. -/
def gfMul (a b : Byte) : Byte :=
  gfMulN a b 8

/-- A power. -/
def gfPow (a : Byte) : Nat → Byte
  | 0 => 1
  | n + 1 => gfMul a (gfPow a n)

/-- The multiplicative inverse: a^254 (0 for 0). -/
def gfInv (a : Byte) : Byte :=
  gfPow a 254

/-- Multiply every byte of a string. -/
def gfScale (c : Byte) (b : Bytes) : Bytes :=
  b.map (gfMul c)

/-- The sum of coefficient times string, over strings of `n` bytes. -/
def gfDot (n : Nat) : Bytes → List Bytes → Bytes
  | c :: cs, d :: ds => xorBytes (gfScale c d) (gfDot n cs ds)
  | _, _ => zeros n

/-! ## CRC-64 (R128) -/

/-- One bit step of the CRC. -/
def crcBit (c : BitVec 64) : BitVec 64 :=
  if c.msb then (c <<< 1) ^^^ 0x42F0E1EBA9EA3693#64 else c <<< 1

/-- `n` bit steps. -/
def crcBits (c : BitVec 64) : Nat → BitVec 64
  | 0 => c
  | n + 1 => crcBits (crcBit c) n

/-- CRC-64 of a string, initial value zero, no reflection, no final exclusive OR. -/
def crc64 (b : Bytes) : Nat :=
  (b.foldl (fun (c : BitVec 64) (x : Byte) => crcBits (c ^^^ ((x.setWidth 64 : BitVec 64) <<< (56 : Nat))) 8) 0#64).toNat

/-! ## Tables -/

/-- Coefficients of a global row of a Cauchy table: inv(x ⊕ y_j), y_j = y0 + j (Table 03-4). -/
def cauchyRow (i y0 k : Nat) : Bytes :=
  (List.range k).map (fun j => gfInv (BitVec.ofNat 8 i ^^^ BitVec.ofNat 8 (y0 + j)))

/-- A local group of data columns `a` to `b - 1` with every coefficient 0x01. -/
def xorGroup (a b k : Nat) : Nat × Bytes :=
  (2 ^ b - 2 ^ a, (List.range k).map (fun j => if a ≤ j ∧ j < b then 1 else 0))

/-- A row of ones. -/
def onesRow (k : Nat) : Bytes :=
  List.replicate k 1

/-- An ASCII name of a table. -/
def ascii (l : List Nat) : Bytes :=
  l.map (BitVec.ofNat 8)

/-- The built-in tables of Table 03-4, with the data columns that `k` gives P1, P2 and P3. -/
def builtin (id k : Nat) : Option CodeTbl :=
  match id with
  | 1 => some { k := k, m := 1, l := 0, f := 1, name := ascii [0x50, 0x31], glob := [onesRow k], loc := [] }
  | 2 => some { k := k, m := 2, l := 0, f := 2, name := ascii [0x50, 0x32], glob := [onesRow k, (List.range k).map (fun j => gfPow 2 j)], loc := [] }
  | 3 => some { k := k, m := 3, l := 0, f := 3, name := ascii [0x50, 0x33], glob := [cauchyRow 0 3 k, cauchyRow 1 3 k, cauchyRow 2 3 k], loc := [] }
  | 4 => some { k := 1, m := 1, l := 0, f := 1, name := ascii [0x4D, 0x32], glob := [onesRow 1], loc := [] }
  | 5 => some { k := 1, m := 2, l := 0, f := 2, name := ascii [0x4D, 0x33], glob := [onesRow 1, onesRow 1], loc := [] }
  | 6 => some { k := 12, m := 2, l := 2, f := 3, name := ascii [0x4C, 0x31, 0x32, 0x2D, 0x32, 0x2D, 0x32], glob := [cauchyRow 0 2 12, cauchyRow 1 2 12],
                loc := [xorGroup 0 6 12, xorGroup 6 12 12] }
  | 7 => some { k := 16, m := 3, l := 4, f := 4, name := ascii [0x4C, 0x31, 0x36, 0x2D, 0x33, 0x2D, 0x34],
                glob := [cauchyRow 0 3 16, cauchyRow 1 3 16, cauchyRow 2 3 16], loc := [xorGroup 0 4 16, xorGroup 4 8 16, xorGroup 8 12 16, xorGroup 12 16 16] }
  | _ => none

/-- M3, the code of every metadata segment (R115). -/
def codeM3 : CodeTbl :=
  { k := 1, m := 2, l := 0, f := 2, name := ascii [0x4D, 0x33], glob := [onesRow 1, onesRow 1], loc := [] }

/-- The width w = k + m + L. -/
def CodeTbl.width (c : CodeTbl) : Nat :=
  c.k + c.m + c.l

/-- Pad a string with zeros to `n` bytes. -/
def padTo (n : Nat) (b : Bytes) : Bytes :=
  b.take n ++ zeros (n - b.length)

/-- The 768-byte layout of a table (Table 03-5). -/
def CodeTbl.bytes (c : CodeTbl) : Bytes :=
  leBytes 1 c.k ++ leBytes 1 c.m ++ leBytes 1 c.l ++ leBytes 1 c.f ++ zeros 4 ++ padTo 8 c.name ++
    padTo 288 (c.glob.flatMap (padTo 48)) ++ padTo 448 (c.loc.flatMap (fun g => leBytes 8 g.1 ++ padTo 48 g.2)) ++ zeros 16

/-- The table that 768 bytes spell. -/
def parseTable (b : Bytes) : CodeTbl :=
  let k := fieldAt b 0 1
  let m := fieldAt b 1 1
  let l := fieldAt b 2 1
  { k := k, m := m, l := l, f := fieldAt b 3 1, name := slice b 8 8
    glob := (List.range (min m 6)).map (fun i => slice b (16 + 48 * i) (min k 48))
    loc := (List.range (min l 8)).map (fun t => (fieldAt b (304 + 56 * t) 8, slice b (312 + 56 * t) (min k 48))) }

/-- Every byte of a string is zero. -/
def allZero (b : Bytes) : Bool :=
  b.all (fun x => x == 0)

/-- The data columns of a local group. -/
def groupCols (mask k : Nat) : List Nat :=
  (List.range k).filter (fun j => bitAt mask j)

/-- The reserved bytes of a table are zero (R9). -/
def tableReservedZero (b : Bytes) : Bool :=
  allZero (slice b 4 4) && allZero (slice b 752 16)

/-- The ranges of k, m and L (R112, GEOMETRY). -/
def tableGeometry (b : Bytes) : Bool :=
  let k := fieldAt b 0 1
  let m := fieldAt b 1 1
  let l := fieldAt b 2 1
  decide (1 ≤ k ∧ k ≤ 48 ∧ 1 ≤ m ∧ m ≤ 6 ∧ l ≤ 8 ∧ k + m + l ≤ 64)

/-- The group rules (R112, GROUPS). -/
def tableGroups (b : Bytes) : Bool :=
  let k := fieldAt b 0 1
  let l := fieldAt b 2 1
  let masks := (List.range l).map (fun t => fieldAt b (304 + 56 * t) 8)
  masks.all (fun x => decide (2 ≤ (groupCols x k).length)) &&
    (List.range k).all (fun j => decide ((masks.filter (fun x => bitAt x j)).length ≤ 1)) &&
    allZero (slice b (304 + 56 * l) (448 - 56 * l))

/-- Coefficients only where the table has columns and rows (R112, COEFFICIENTS). -/
def tableCoefficients (b : Bytes) : Bool :=
  let k := fieldAt b 0 1
  let m := fieldAt b 1 1
  let l := fieldAt b 2 1
  (List.range 6).all (fun i => if i < m then allZero (slice b (16 + 48 * i + k) (48 - k)) else allZero (slice b (16 + 48 * i) 48)) &&
    (List.range l).all (fun t =>
      let mask := fieldAt b (304 + 56 * t) 8
      (List.range 48).all (fun j => (decide (j < k) && bitAt mask j) || fieldAt b (312 + 56 * t + j) 1 == 0))

/-- CODE_CHECK_REASON of R112: 0 when every condition holds, else the first in its list that fails. -/
def tableReason (b : Bytes) : Nat :=
  let f := fieldAt b 3 1
  if !tableGeometry b then 1
  else if !tableGroups b then 2
  else if !tableCoefficients b then 3
  else if !decide (1 ≤ f ∧ f ≤ fieldAt b 1 1 + fieldAt b 2 1) then 4
  else 0

/-! ## Rank, decodability and decoding (R113) -/

/-- The coefficients of each parity column, over the data columns. -/
def CodeTbl.parityRows (c : CodeTbl) : List Bytes :=
  c.glob ++ c.loc.map Prod.snd

/-- Coefficient `j` of a row. -/
def coef (r : Bytes) (j : Nat) : Byte :=
  r.getD j 0

/-- Split off the first row with a nonzero coefficient at column `j`. -/
def takePivot {α : Type} (f : α → Bytes) (j : Nat) : List α → Option (α × List α)
  | [] => none
  | r :: t => if coef (f r) j != 0 then some (r, t) else (takePivot f j t).map (fun p => (p.1, r :: p.2))

/-- The rank of the rows over columns `j` to `j + n - 1`, by elimination. -/
def rankFrom (j : Nat) : Nat → List Bytes → Nat
  | 0, _ => 0
  | n + 1, rows =>
    match takePivot id j rows with
    | none => rankFrom (j + 1) n rows
    | some (p, rest) =>
      1 + rankFrom (j + 1) n (rest.map (fun r => xorBytes r (gfScale (gfMul (coef r j) (gfInv (coef p j))) p)))

/-- The data columns among erased columns. -/
def erasedData (c : CodeTbl) (e : List Nat) : List Nat :=
  e.filter (fun j => decide (j < c.k))

/-- The surviving parity rows restricted to the erased data columns (R117). -/
def restricted (c : CodeTbl) (e : List Nat) : List Bytes :=
  let rows := c.parityRows
  ((List.range rows.length).filter (fun i => !e.contains (c.k + i))).map (fun i => (erasedData c e).map (fun j => coef (rows.getD i []) j))

/-- A set of erased columns is decodable (R113). -/
def decodable (c : CodeTbl) (e : List Nat) : Bool :=
  let d := erasedData c e
  rankFrom 0 d.length (restricted c e) == d.length

/-- Solve rows of coefficients and right-hand strings for the unknowns from column `j` on; `used` holds the pivots found. -/
def solveFrom (j : Nat) : Nat → List (Bytes × Bytes) → List (Bytes × Bytes) → Option (List Bytes)
  | 0, used, _ => some (used.map Prod.snd)
  | n + 1, used, rows =>
    match takePivot Prod.fst j rows with
    | none => none
    | some (p, rest) =>
      let v := gfInv (coef p.1 j)
      let q : Bytes × Bytes := (gfScale v p.1, gfScale v p.2)
      let elim (r : Bytes × Bytes) : Bytes × Bytes := (xorBytes r.1 (gfScale (coef r.1 j) q.1), xorBytes r.2 (gfScale (coef r.1 j) q.2))
      solveFrom (j + 1) n (used.map elim ++ [q]) (rest.map elim)

/-- Rebuild the erased data columns of a row from what the surviving columns hold (strings of `n` bytes, erased ones ignored): the erased data, in column order. -/
def decodeRow (c : CodeTbl) (n : Nat) (cols : List Bytes) (e : List Nat) : Option (List Bytes) :=
  let d := erasedData c e
  let rows := c.parityRows
  let data := (List.range c.k).map (fun j => if e.contains j then zeros n else cols.getD j (zeros n))
  let eqs := ((List.range rows.length).filter (fun i => !e.contains (c.k + i))).map (fun i =>
    (d.map (fun j => coef (rows.getD i []) j), xorBytes (cols.getD (c.k + i) (zeros n)) (gfDot n (rows.getD i []) data)))
  solveFrom 0 d.length [] eqs

/-- The parity columns of a row of data columns (R110). -/
def encodeRow (c : CodeTbl) (n : Nat) (data : List Bytes) : List Bytes :=
  c.parityRows.map (fun r => gfDot n r data)

/-! ## The check of a custom table (R117, R118) -/

/-- Sets of `e` columns from `j` to `j + n - 1`, in ascending lexicographic order. -/
def combos (j : Nat) : Nat → Nat → List (List Nat)
  | 0, 0 => [[]]
  | 0, _ + 1 => []
  | _ + 1, 0 => [[]]
  | n + 1, e + 1 => (combos (j + 1) n e).map (fun t => j :: t) ++ combos (j + 1) n (e + 1)

/-- The first undecodable set of size 1 to `f`, in order of size and then lexicographic order. -/
def firstUndecodable (c : CodeTbl) : Nat → Option (List Nat)
  | 0 => none
  | f + 1 => match firstUndecodable c f with
    | some e => some e
    | none => (combos 0 c.width (f + 1)).find? (fun e => !decodable c e)

/-- C(n, e). -/
def choose : Nat → Nat → Nat
  | _, 0 => 1
  | 0, _ + 1 => 0
  | n + 1, e + 1 => choose n e + choose n (e + 1)

/-- CODE_CHECK_TOTAL: the sum of C(w, e) for e from 1 to f (R118). -/
def checkTotal (w f : Nat) : Nat :=
  ((List.range f).map (fun e => choose w (e + 1))).sum

/-- The bit mask of a set of columns. -/
def colMask (e : List Nat) : Nat :=
  (e.map (fun j => 2 ^ j)).sum

/-- The number of sets examined when the check stops at `e`: all before it in the enumeration, and itself. -/
def setsExamined (c : CodeTbl) (e : List Nat) : Nat :=
  checkTotal c.width (e.length - 1) + ((combos 0 c.width e.length).takeWhile (fun x => x != e)).length + 1

end Sys2Proof.Machine
end

