-- ==== Sys2Proof/Machine/Objects.lean ====
section
/-! DEFINITION. The object dictionary as the register map of the NRB-9640 (R14 to R17, R88 to R90 and each chapter's object table): one descriptor per index and sub-index, with its type, access code, privilege, default, range and directory flags. -/

namespace Sys2Proof.Machine

/-- 0x1F00.01 (Table 02-11). -/
def Obj.EPOCH_CURRENT : ObjDesc :=
  ⟨0x1F00, 1, 0, 0, .u64, .ro, 0, .any, true, false, false, false, false, false, false⟩
/-- 0x1F00.02 (Table 02-11). -/
def Obj.EPOCH_COMMIT : ObjDesc :=
  ⟨0x1F00, 2, 0, 0, .u64, .wo, 0, .any, false, false, false, false, false, false, false⟩
/-- 0x1F00.03 (Table 02-11). -/
def Obj.EPOCH_COMMIT_PAIR : ObjDesc :=
  ⟨0x1F00, 3, 0, 0, .u64, .wo, 0, .any, false, false, false, false, false, false, false⟩
/-- 0x1F00.04 (Table 02-11). -/
def Obj.EPOCH_STATE : ObjDesc :=
  ⟨0x1F00, 4, 0, 0, .u8, .ro, 0, .any, false, false, false, false, false, false, false⟩
/-- 0x1F00.05 (Table 02-11). -/
def Obj.EPOCH_RESULT : ObjDesc :=
  ⟨0x1F00, 5, 0, 0, .u8, .ro, 0, .any, false, false, false, false, false, false, false⟩
/-- 0x1F00.06 (Table 02-11). -/
def Obj.EPOCH_TIMEOUT : ObjDesc :=
  ⟨0x1F00, 6, 0, 0, .u16, .rw, 10, .btw 1 100, true, false, false, false, false, false, false⟩
/-- 0x1F00.07 (Table 02-11). -/
def Obj.EPOCH_LAGGARDS : ObjDesc :=
  ⟨0x1F00, 7, 0, 0, .blob, .ro, 0, .any, false, false, false, false, false, false, false⟩
/-- 0x1F00.08 (Table 02-11). -/
def Obj.EPOCH_DISCARD : ObjDesc :=
  ⟨0x1F00, 8, 0, 0, .bool, .wo, 0, .oneOf [1], false, false, false, false, false, false, false⟩
/-- 0x1F00.09 (Table 02-11). -/
def Obj.EPOCH_PAIR_CURRENT : ObjDesc :=
  ⟨0x1F00, 9, 0, 0, .u64, .ro, 0, .any, true, false, false, false, false, false, false⟩
/-- 0x1F00.0A (Table 02-11). -/
def Obj.EPOCH_LAST_DURATION : ObjDesc :=
  ⟨0x1F00, 10, 0, 0, .u32, .ro, 0, .any, false, false, false, false, false, false, false⟩
/-- 0x1F01[0–70].01 (Table 02-11). -/
def Obj.UNIT_APPLIED_EPOCH : ObjDesc :=
  ⟨0x1F01, 1, 0, 70, .u64, .ro, 0, .any, false, false, false, false, false, false, false⟩
/-- 0x1F01[0–70].02 (Table 02-11). -/
def Obj.UNIT_ACK : ObjDesc :=
  ⟨0x1F01, 2, 0, 70, .bool, .ro, 0, .any, false, false, false, false, false, false, false⟩
/-- 0x1F02 (Table 02-11). -/
def Obj.EPOCH_STAGED : ObjDesc :=
  ⟨0x1F02, 1, 0, 0, .tab, .ro, 0, .any, false, false, false, false, false, false, false⟩
/-- 0x1000.01 (Table 02-13). -/
def Obj.VENDOR_NAME : ObjDesc :=
  ⟨0x1000, 1, 0, 0, .str, .const, 0, .any, false, false, false, true, true, false, false⟩
/-- 0x1000.02 (Table 02-13). -/
def Obj.PART_NAME : ObjDesc :=
  ⟨0x1000, 2, 0, 0, .str, .const, 0, .any, false, false, false, true, true, false, false⟩
/-- 0x1000.03 (Table 02-13). -/
def Obj.ORDERING_CODE : ObjDesc :=
  ⟨0x1000, 3, 0, 0, .str, .const, 0, .any, false, false, false, true, true, false, false⟩
/-- 0x1000.04 (Table 02-13). -/
def Obj.SERIAL_NUMBER : ObjDesc :=
  ⟨0x1000, 4, 0, 0, .str, .const, 0, .any, false, false, false, true, false, false, false⟩
/-- 0x1000.05 (Table 02-13). -/
def Obj.SILICON_STEPPING : ObjDesc :=
  ⟨0x1000, 5, 0, 0, .str, .const, 0, .any, false, false, false, true, false, false, false⟩
/-- 0x1000.06 (Table 02-13). -/
def Obj.FIRMWARE_VERSION : ObjDesc :=
  ⟨0x1000, 6, 0, 0, .str, .ro, 0, .any, false, false, false, true, false, false, false⟩
/-- 0x1000.07 (Table 02-13). -/
def Obj.FW_COMPAT_LEVEL : ObjDesc :=
  ⟨0x1000, 7, 0, 0, .u16, .ro, 0, .any, false, false, false, true, false, false, false⟩
/-- 0x1000.08 (Table 02-13). -/
def Obj.PAIR_SIDE : ObjDesc :=
  ⟨0x1000, 8, 0, 0, .u8, .ro, 0, .any, false, false, false, true, false, false, false⟩
/-- 0x1000.09 (Table 02-13). -/
def Obj.OOB_WRITE_ENABLED : ObjDesc :=
  ⟨0x1000, 9, 0, 0, .bool, .ro, 0, .any, false, false, false, true, false, false, false⟩
/-- 0x1000.0A (Table 02-13). -/
def Obj.PCI_VENDOR_ID : ObjDesc :=
  ⟨0x1000, 10, 0, 0, .u16, .const, 0, .any, false, false, false, true, true, false, false⟩
/-- 0x1000.0B (Table 02-13). -/
def Obj.PCI_DEVICE_IDS : ObjDesc :=
  ⟨0x1000, 11, 0, 0, .u32, .const, 2520880704, .any, false, false, false, true, true, false, false⟩
/-- 0x1001.01 (Table 02-13). -/
def Obj.HEALTH_SUMMARY : ObjDesc :=
  ⟨0x1001, 1, 0, 0, .u8, .ro, 0, .any, false, false, false, true, false, false, false⟩
/-- 0x1001.02 (Table 02-13). -/
def Obj.POOLS_NOT_ONLINE : ObjDesc :=
  ⟨0x1001, 2, 0, 0, .u8, .ro, 0, .any, false, false, false, true, false, false, false⟩
/-- 0x1001.03 (Table 02-13). -/
def Obj.MEMBERS_FAILED : ObjDesc :=
  ⟨0x1001, 3, 0, 0, .u8, .ro, 0, .any, false, false, false, true, false, false, false⟩
/-- 0x1001.04 (Table 02-13). -/
def Obj.EVENT_SEQ : ObjDesc :=
  ⟨0x1001, 4, 0, 0, .u64, .ro, 0, .any, true, false, false, true, false, false, false⟩
/-- 0x1001.05 (Table 02-13). -/
def Obj.UPTIME : ObjDesc :=
  ⟨0x1001, 5, 0, 0, .u64, .ro, 0, .any, false, false, false, true, false, false, false⟩
/-- 0x1001.06 (Table 02-13). -/
def Obj.STARTUP_STEP : ObjDesc :=
  ⟨0x1001, 6, 0, 0, .u8, .ro, 1, .any, false, false, false, true, false, false, false⟩
/-- 0x1001.07 (Table 02-13). -/
def Obj.DEVICE_LOCKED : ObjDesc :=
  ⟨0x1001, 7, 0, 0, .bool, .ro, 0, .any, false, false, false, true, false, false, false⟩
/-- 0x1002 (Table 02-13). -/
def Obj.OBJECT_DIRECTORY : ObjDesc :=
  ⟨0x1002, 1, 0, 0, .tab, .ro, 0, .any, false, false, false, false, true, false, false⟩
/-- 0x1003.01 (Table 02-13). -/
def Obj.MAX_QUEUE_PAIRS : ObjDesc :=
  ⟨0x1003, 1, 0, 0, .u16, .const, 8192, .any, false, false, false, false, false, false, false⟩
/-- 0x1003.02 (Table 02-13). -/
def Obj.MAX_VOLUMES : ObjDesc :=
  ⟨0x1003, 2, 0, 0, .u16, .const, 4096, .any, false, false, false, false, false, false, false⟩
/-- 0x1003.03 (Table 02-13). -/
def Obj.MAX_POOLS : ObjDesc :=
  ⟨0x1003, 3, 0, 0, .u8, .const, 8, .any, false, false, false, false, false, false, false⟩
/-- 0x1003.04 (Table 02-13). -/
def Obj.MAX_KEY_SLOTS : ObjDesc :=
  ⟨0x1003, 4, 0, 0, .u16, .const, 4096, .any, false, false, false, false, false, false, false⟩
/-- 0x1003.05 (Table 02-13). -/
def Obj.ENGINES_ENABLED : ObjDesc :=
  ⟨0x1003, 5, 0, 0, .u16, .ro, 1024, .any, false, false, false, true, false, false, false⟩
/-- 0x10F0.01 (Table 02-13). -/
def Obj.CONFIG_AREA_STATE : ObjDesc :=
  ⟨0x10F0, 1, 0, 0, .u8, .ro, 0, .any, false, false, false, true, false, false, false⟩
/-- 0x10F0.02 (Table 02-13). -/
def Obj.CONFIG_RECORDS : ObjDesc :=
  ⟨0x10F0, 2, 0, 0, .u64, .ro, 0, .any, true, false, false, false, false, false, false⟩
/-- 0x10F0.03 (Table 02-13). -/
def Obj.FACTORY_DEFAULTS : ObjDesc :=
  ⟨0x10F0, 3, 0, 0, .u32, .wo, 0, .oneOf [0x9640DEF0], false, false, false, false, false, false, false⟩
/-- 0x1100.01 (Table 02-13). -/
def Obj.I3C_ENABLE : ObjDesc :=
  ⟨0x1100, 1, 0, 0, .bool, .rw, 1, .any, true, false, false, false, false, false, false⟩
/-- 0x1100.02 (Table 02-13). -/
def Obj.ETH_ENABLE : ObjDesc :=
  ⟨0x1100, 2, 0, 0, .bool, .rw, 0, .any, true, false, false, false, false, false, false⟩
/-- 0x1100.03 (Table 02-13). -/
def Obj.ETH_IPV4_ADDR : ObjDesc :=
  ⟨0x1100, 3, 0, 0, .u32, .rw, 0, .any, true, false, false, false, false, false, false⟩
/-- 0x1100.04 (Table 02-13). -/
def Obj.ETH_IPV4_PREFIX : ObjDesc :=
  ⟨0x1100, 4, 0, 0, .u8, .rw, 24, .btw 1 30, true, false, false, false, false, false, false⟩
/-- 0x1100.05 (Table 02-13). -/
def Obj.ETH_IPV4_GATEWAY : ObjDesc :=
  ⟨0x1100, 5, 0, 0, .u32, .rw, 0, .any, true, false, false, false, false, false, false⟩
/-- 0x1100.06 (Table 02-13). -/
def Obj.ETH_DHCP : ObjDesc :=
  ⟨0x1100, 6, 0, 0, .bool, .rw, 0, .any, true, false, false, false, false, false, false⟩
/-- 0x1100.07 (Table 02-13). -/
def Obj.ETH_MAC_ADDR : ObjDesc :=
  ⟨0x1100, 7, 0, 0, .blob, .const, 0, .any, false, false, false, false, false, false, false⟩
/-- 0x1100.08 (Table 02-13). -/
def Obj.ETH_IPV6_ADDR : ObjDesc :=
  ⟨0x1100, 8, 0, 0, .blob, .rw, 0, .lenEq 16, true, false, false, false, false, false, false⟩
/-- 0x1100.09 (Table 02-13). -/
def Obj.UDP_PORT : ObjDesc :=
  ⟨0x1100, 9, 0, 0, .u16, .rw, 9640, .btw 1024 65535, true, false, false, false, false, false, false⟩
/-- 0x1100.0A (Table 02-13). -/
def Obj.I3C_STATIC_ADDR : ObjDesc :=
  ⟨0x1100, 10, 0, 0, .u8, .rw, 82, .btw 8 119, true, false, false, false, false, false, false⟩
/-- 0x1101.01 (Table 02-13). -/
def Obj.SPDM_REQUESTER_ANCHOR : ObjDesc :=
  ⟨0x1101, 1, 0, 0, .blob, .rw, 0, .lenMax 4096, true, false, false, false, false, false, true⟩
/-- 0x1101.02 (Table 02-13). -/
def Obj.SPDM_HEARTBEAT : ObjDesc :=
  ⟨0x1101, 2, 0, 0, .u8, .rw, 60, .btw 10 255, true, false, false, false, false, false, false⟩
/-- 0x1110[0–1039].01 (Table 02-13). -/
def Obj.SESSION_OPEN : ObjDesc :=
  ⟨0x1110, 1, 0, 1039, .bool, .ro, 0, .any, false, false, false, false, true, false, false⟩
/-- 0x1110[0–1039].02 (Table 02-13). -/
def Obj.SESSION_PRIVILEGE : ObjDesc :=
  ⟨0x1110, 2, 0, 1039, .u8, .ro, 0, .any, false, false, false, false, true, false, false⟩
/-- 0x1110[0–1039].03 (Table 02-13). -/
def Obj.NEXT_REQ_SEQ : ObjDesc :=
  ⟨0x1110, 3, 0, 1039, .u16, .ro, 0, .any, false, false, false, false, true, false, false⟩
/-- 0x1110[0–1039].04 (Table 02-13). -/
def Obj.LAST_RSP_SEQ : ObjDesc :=
  ⟨0x1110, 4, 0, 1039, .u16, .ro, 0, .any, false, false, false, false, true, false, false⟩
/-- 0x2820[0–15].01 (Table 03-6). -/
def Obj.CODE_TABLE_DATA : ObjDesc :=
  ⟨0x2820, 1, 0, 15, .blob, .rw, 0, .lenEq 768, true, false, false, false, false, false, false⟩
/-- 0x2820[0–15].02 (Table 03-6). -/
def Obj.CODE_CHECK_START : ObjDesc :=
  ⟨0x2820, 2, 0, 15, .bool, .wo, 0, .oneOf [1], false, false, false, false, false, false, false⟩
/-- 0x2820[0–15].03 (Table 03-6). -/
def Obj.CODE_CHECK_STATE : ObjDesc :=
  ⟨0x2820, 3, 0, 15, .u8, .ro, 0, .any, true, false, false, false, false, false, false⟩
/-- 0x2820[0–15].04 (Table 03-6). -/
def Obj.CODE_CHECK_REASON : ObjDesc :=
  ⟨0x2820, 4, 0, 15, .u8, .ro, 0, .any, true, false, false, false, false, false, false⟩
/-- 0x2820[0–15].05 (Table 03-6). -/
def Obj.CODE_CHECK_PATTERN : ObjDesc :=
  ⟨0x2820, 5, 0, 15, .u64, .ro, 0, .any, false, false, false, false, false, false, false⟩
/-- 0x2820[0–15].06 (Table 03-6). -/
def Obj.CODE_CHECK_DONE : ObjDesc :=
  ⟨0x2820, 6, 0, 15, .u32, .ro, 0, .any, false, false, false, false, false, false, false⟩
/-- 0x2820[0–15].07 (Table 03-6). -/
def Obj.CODE_CHECK_TOTAL : ObjDesc :=
  ⟨0x2820, 7, 0, 15, .u32, .ro, 0, .any, false, false, false, false, false, false, false⟩
/-- 0x2820[0–15].08 (Table 03-6). -/
def Obj.CODE_TABLE_USERS : ObjDesc :=
  ⟨0x2820, 8, 0, 15, .u8, .ro, 0, .any, false, false, false, false, false, false, false⟩
/-- 0x2830[1–7].01 (Table 03-6). -/
def Obj.BUILTIN_TABLE : ObjDesc :=
  ⟨0x2830, 1, 1, 7, .blob, .const, 0, .any, false, false, false, false, false, false, false⟩
/-- 0x2800[0–7].01 (Table 03-7). -/
def Obj.POOL_STATE : ObjDesc :=
  ⟨0x2800, 1, 0, 7, .u8, .ro, 255, .any, false, false, false, false, false, false, false⟩
/-- 0x2800[0–7].02 (Table 03-7). -/
def Obj.POOL_CONDITIONS : ObjDesc :=
  ⟨0x2800, 2, 0, 7, .u16, .ro, 0, .any, false, false, false, false, false, false, false⟩
/-- 0x2800[0–7].03 (Table 03-7). -/
def Obj.POOL_CODE_TABLE : ObjDesc :=
  ⟨0x2800, 3, 0, 7, .u8, .rwo, 2, .oneOf [1,2,3,4,5,6,7,0x10,0x11,0x12,0x13,0x14,0x15,0x16,0x17,0x18,0x19,0x1A,0x1B,0x1C,0x1D,0x1E,0x1F], true, false, false, false, false, false, false⟩
/-- 0x2800[0–7].04 (Table 03-7). -/
def Obj.POOL_K : ObjDesc :=
  ⟨0x2800, 4, 0, 7, .u8, .rwo, 10, .btw 1 48, true, false, false, false, false, false, false⟩
/-- 0x2800[0–7].05 (Table 03-7). -/
def Obj.POOL_STRIPE_HEIGHT : ObjDesc :=
  ⟨0x2800, 5, 0, 7, .u16, .rw, 64, .btw 1 256, true, true, false, false, false, false, false⟩
/-- 0x2800[0–7].06 (Table 03-7). -/
def Obj.POOL_ZONE_SIZE : ObjDesc :=
  ⟨0x2800, 6, 0, 7, .u16, .rwo, 256, .pow2 64 2048, true, false, false, false, false, false, false⟩
/-- 0x2800[0–7].07 (Table 03-7). -/
def Obj.POOL_REBUILD_RESERVE : ObjDesc :=
  ⟨0x2800, 7, 0, 7, .u8, .rwo, 1, .btw 0 4, true, false, false, false, false, false, false⟩
/-- 0x2800[0–7].08 (Table 03-7). -/
def Obj.POOL_OVERPROVISION : ObjDesc :=
  ⟨0x2800, 8, 0, 7, .u8, .rwo, 10, .btw 5 50, true, false, false, false, false, false, false⟩
/-- 0x2800[0–7].09 (Table 03-7). -/
def Obj.POOL_AUTO_SPARE : ObjDesc :=
  ⟨0x2800, 9, 0, 7, .bool, .rw, 0, .any, true, false, false, false, false, false, false⟩
/-- 0x2800[0–7].0A (Table 03-7). -/
def Obj.AUTO_ONLINE : ObjDesc :=
  ⟨0x2800, 10, 0, 7, .bool, .rw, 0, .any, true, false, false, false, false, false, false⟩
/-- 0x2800[0–7].0B (Table 03-7). -/
def Obj.POOL_ACTION : ObjDesc :=
  ⟨0x2800, 11, 0, 7, .u8, .wo, 0, .enum [1, 2, 3, 4], false, false, false, false, false, false, false⟩
/-- 0x2800[0–7].0C (Table 03-7). -/
def Obj.POOL_ACTION_RESULT : ObjDesc :=
  ⟨0x2800, 12, 0, 7, .u8, .ro, 0, .any, false, false, false, false, false, false, false⟩
/-- 0x2800[0–7].0D (Table 03-7). -/
def Obj.POOL_UUID : ObjDesc :=
  ⟨0x2800, 13, 0, 7, .blob, .ro, 0, .any, false, false, false, false, false, false, false⟩
/-- 0x2800[0–7].0E (Table 03-7). -/
def Obj.POOL_SB_GENERATION : ObjDesc :=
  ⟨0x2800, 14, 0, 7, .u64, .ro, 0, .any, false, false, false, false, false, false, false⟩
/-- 0x2800[0–7].0F (Table 03-7). -/
def Obj.POOL_WIDTH : ObjDesc :=
  ⟨0x2800, 15, 0, 7, .u8, .ro, 0, .any, false, false, false, false, false, false, false⟩
/-- 0x2800[0–7].10 (Table 03-7). -/
def Obj.POOL_TOLERANCE : ObjDesc :=
  ⟨0x2800, 16, 0, 7, .u8, .ro, 0, .any, false, false, false, false, false, false, false⟩
/-- 0x2800[0–7].11 (Table 03-7). -/
def Obj.POOL_CAPACITY : ObjDesc :=
  ⟨0x2800, 17, 0, 7, .u64, .ro, 0, .any, false, false, false, false, false, false, false⟩
/-- 0x2800[0–7].12 (Table 03-7). -/
def Obj.POOL_ALLOCATED : ObjDesc :=
  ⟨0x2800, 18, 0, 7, .u64, .ro, 0, .any, false, false, false, false, false, false, false⟩
/-- 0x2800[0–7].13 (Table 03-7). -/
def Obj.POOL_LIVE_SECTORS : ObjDesc :=
  ⟨0x2800, 19, 0, 7, .u64, .ro, 0, .any, false, false, false, false, false, false, false⟩
/-- 0x2800[0–7].14 (Table 03-7). -/
def Obj.POOL_NAME : ObjDesc :=
  ⟨0x2800, 20, 0, 7, .str, .rw, 0, .lenMax 64, true, false, false, false, false, false, false⟩
/-- 0x2800[0–7].15 (Table 03-7). -/
def Obj.POOL_MEMBER_KIND : ObjDesc :=
  ⟨0x2800, 21, 0, 7, .u8, .ro, 255, .any, false, false, false, false, false, false, false⟩
/-- 0x2810[0–511].01 (Table 03-8). -/
def Obj.MEMBER_PORT : ObjDesc :=
  ⟨0x2810, 1, 0, 511, .u8, .rw, 255, .btwOr 0 63 0xFF, true, false, false, false, false, false, false⟩
/-- 0x2810[0–511].02 (Table 03-8). -/
def Obj.MEMBER_NSID : ObjDesc :=
  ⟨0x2810, 2, 0, 511, .u32, .rw, 1, .btw 1 0xFFFFFFFE, true, false, false, false, false, false, false⟩
/-- 0x2810[0–511].03 (Table 03-8). -/
def Obj.MEMBER_STATE : ObjDesc :=
  ⟨0x2810, 3, 0, 511, .u8, .ro, 255, .any, false, false, false, false, false, false, false⟩
/-- 0x2810[0–511].04 (Table 03-8). -/
def Obj.MEMBER_NGUID : ObjDesc :=
  ⟨0x2810, 4, 0, 511, .blob, .ro, 0, .any, false, false, false, false, false, false, false⟩
/-- 0x2810[0–511].05 (Table 03-8). -/
def Obj.MEMBER_ZONES : ObjDesc :=
  ⟨0x2810, 5, 0, 511, .u32, .ro, 0, .any, false, false, false, false, false, false, false⟩
/-- 0x2810[0–511].06 (Table 03-8). -/
def Obj.MEMBER_ZONES_FREE : ObjDesc :=
  ⟨0x2810, 6, 0, 511, .u32, .ro, 0, .any, false, false, false, false, false, false, false⟩
/-- 0x2810[0–511].07 (Table 03-8). -/
def Obj.MEMBER_ACTION : ObjDesc :=
  ⟨0x2810, 7, 0, 511, .u8, .wo, 0, .enum [1, 2, 3], false, false, false, false, false, false, false⟩
/-- 0x2900[0–4095].01 (Table 03-9a). -/
def Obj.VOLUME_STATE : ObjDesc :=
  ⟨0x2900, 1, 0, 4095, .u8, .ro, 0, .any, false, false, false, false, true, false, false⟩
/-- 0x2900[0–4095].02 (Table 03-9a). -/
def Obj.VOLUME_POOL : ObjDesc :=
  ⟨0x2900, 2, 0, 4095, .u8, .rw, 255, .btwOr 0 7 0xFF, true, false, false, false, false, false, false⟩
/-- 0x2900[0–4095].03 (Table 03-9a). -/
def Obj.VOLUME_CAPACITY : ObjDesc :=
  ⟨0x2900, 3, 0, 4095, .u64, .rw, 0, .btw 1 0x10000000000, true, false, false, false, false, true, false⟩
/-- 0x2900[0–4095].04 (Table 03-9a). -/
def Obj.VOLUME_GRAIN : ObjDesc :=
  ⟨0x2900, 4, 0, 4095, .u8, .rw, 0, .enum [0, 1], true, false, false, false, false, false, false⟩
/-- 0x2900[0–4095].05 (Table 03-9a). -/
def Obj.VOLUME_KEY_SLOT : ObjDesc :=
  ⟨0x2900, 5, 0, 4095, .u16, .rw, 65535, .btwOr 0 4095 0xFFFF, true, false, false, false, false, false, false⟩
/-- 0x2900[0–4095].06 (Table 03-9a). -/
def Obj.VOLUME_TAGGED : ObjDesc :=
  ⟨0x2900, 6, 0, 4095, .bool, .rw, 0, .any, true, false, false, false, false, false, false⟩
/-- 0x2900[0–4095].07 (Table 03-9a). -/
def Obj.VOLUME_ACTION : ObjDesc :=
  ⟨0x2900, 7, 0, 4095, .u8, .wo, 0, .enum [1, 2], false, false, false, false, false, false, false⟩
/-- 0x2900[0–4095].08 (Table 03-9a). -/
def Obj.VOLUME_ACTION_RESULT : ObjDesc :=
  ⟨0x2900, 8, 0, 4095, .u8, .ro, 0, .any, false, false, false, false, false, false, false⟩
/-- 0x2900[0–4095].09 (Table 03-9a). -/
def Obj.VOLUME_USED : ObjDesc :=
  ⟨0x2900, 9, 0, 4095, .u64, .ro, 0, .any, false, false, false, false, true, false, false⟩
/-- 0x2900[0–4095].0A (Table 03-9a). -/
def Obj.VOLUME_NAME : ObjDesc :=
  ⟨0x2900, 10, 0, 4095, .str, .rw, 0, .lenMax 64, true, false, false, false, false, false, false⟩
/-- 0x2A00[0–7].01 (Table 04-10). -/
def Obj.PLACE_HOST_LANES : ObjDesc :=
  ⟨0x2A00, 1, 0, 7, .u8, .rw, 16, .btw 1 64, true, false, false, false, false, false, false⟩
/-- 0x2A00[0–7].02 (Table 04-10). -/
def Obj.PLACE_DREDGE_LANES : ObjDesc :=
  ⟨0x2A00, 2, 0, 7, .u8, .rw, 4, .btw 1 16, true, false, false, false, false, false, false⟩
/-- 0x2A00[0–7].03 (Table 04-10). -/
def Obj.STRIPE_AGE_LIMIT : ObjDesc :=
  ⟨0x2A00, 3, 0, 7, .u32, .rw, 2000, .btw 100 100000, true, false, false, false, false, false, false⟩
/-- 0x2A00[0–7].04 (Table 04-10). -/
def Obj.OPEN_STRIPES : ObjDesc :=
  ⟨0x2A00, 4, 0, 7, .u16, .ro, 0, .any, false, false, false, false, false, false, false⟩
/-- 0x2A00[0–7].05 (Table 04-10). -/
def Obj.OPEN_SEGMENTS : ObjDesc :=
  ⟨0x2A00, 5, 0, 7, .u16, .ro, 0, .any, false, false, false, false, false, false, false⟩
/-- 0x2A00[0–7].06 (Table 04-10). -/
def Obj.SHORT_STRIPES : ObjDesc :=
  ⟨0x2A00, 6, 0, 7, .u64, .ro, 0, .any, false, false, false, false, false, false, false⟩
/-- 0x2A00[0–7].07 (Table 04-10). -/
def Obj.SEGMENT_SLOTS_USED : ObjDesc :=
  ⟨0x2A00, 7, 0, 7, .u32, .ro, 0, .any, false, false, false, false, false, false, false⟩
/-- 0x2A00[0–7].08 (Table 04-10). -/
def Obj.LANES_WAITING : ObjDesc :=
  ⟨0x2A00, 8, 0, 7, .u8, .ro, 0, .any, false, false, false, false, false, false, false⟩
/-- 0x2A10[0–7].01 (Table 04-10). -/
def Obj.MAP_RECOVERY_WINDOW : ObjDesc :=
  ⟨0x2A10, 1, 0, 7, .u8, .rw, 8, .btw 1 64, true, false, false, false, false, false, false⟩
/-- 0x2A10[0–7].02 (Table 04-10). -/
def Obj.MAP_CHECKPOINT_NUMBER : ObjDesc :=
  ⟨0x2A10, 2, 0, 7, .u64, .ro, 0, .any, false, false, false, false, false, false, false⟩
/-- 0x2A10[0–7].03 (Table 04-10). -/
def Obj.MAP_CUT_STRIPE_ID : ObjDesc :=
  ⟨0x2A10, 3, 0, 7, .u64, .ro, 0, .any, false, false, false, false, false, false, false⟩
/-- 0x2A10[0–7].04 (Table 04-10). -/
def Obj.MAP_REPLAY_BYTES : ObjDesc :=
  ⟨0x2A10, 4, 0, 7, .u64, .ro, 0, .any, false, false, false, false, false, false, false⟩
/-- 0x2A10[0–7].05 (Table 04-10). -/
def Obj.MAP_DIRTY_LEAVES : ObjDesc :=
  ⟨0x2A10, 5, 0, 7, .u32, .ro, 0, .any, false, false, false, false, false, false, false⟩
/-- 0x2A10[0–7].06 (Table 04-10). -/
def Obj.MAP_LEAF_MISSES : ObjDesc :=
  ⟨0x2A10, 6, 0, 7, .u64, .ro, 0, .any, false, false, false, false, false, false, false⟩
/-- 0x2A10[0–7].07 (Table 04-10). -/
def Obj.MAP_CHECKPOINT_NOW : ObjDesc :=
  ⟨0x2A10, 7, 0, 7, .bool, .wo, 0, .oneOf [1], false, false, false, false, false, false, false⟩
/-- 0x2A10[0–7].08 (Table 04-10). -/
def Obj.MAP_WRITE_HOLDS : ObjDesc :=
  ⟨0x2A10, 8, 0, 7, .u64, .ro, 0, .any, false, false, false, false, false, false, false⟩
/-- 0x2A10[0–7].09 (Table 04-10). -/
def Obj.ATOMIC_UNRECORDED : ObjDesc :=
  ⟨0x2A10, 9, 0, 7, .u32, .ro, 0, .any, false, false, false, false, false, false, false⟩
/-- 0x2A10[0–7].0A (Table 04-10). -/
def Obj.MAP_LAST_RECOVERY : ObjDesc :=
  ⟨0x2A10, 10, 0, 7, .u8, .ro, 0, .any, false, false, false, false, false, false, false⟩
/-- 0x2A20.01 (Table 04-10). -/
def Obj.MAP_DIR_BYTES : ObjDesc :=
  ⟨0x2A20, 1, 0, 0, .u64, .ro, 0, .any, false, false, false, false, false, false, false⟩
/-- 0x2A20.02 (Table 04-10). -/
def Obj.MAP_DIR_LIMIT : ObjDesc :=
  ⟨0x2A20, 2, 0, 0, .u64, .ro, 25769803776, .any, false, false, false, false, false, false, false⟩
/-- 0x2A20.03 (Table 04-10). -/
def Obj.MAP_LEAVES_RESIDENT : ObjDesc :=
  ⟨0x2A20, 3, 0, 0, .u32, .ro, 0, .any, false, false, false, false, false, false, false⟩
/-- 0x2A20.04 (Table 04-10). -/
def Obj.MAP_LEAVES_DIRTY_PCT : ObjDesc :=
  ⟨0x2A20, 4, 0, 0, .u8, .ro, 0, .any, false, false, false, false, false, false, false⟩
/-- 0x2A40[0–7].01 (Table 04-10). -/
def Obj.DREDGE_ENABLE : ObjDesc :=
  ⟨0x2A40, 1, 0, 7, .bool, .rw, 1, .any, true, false, false, false, false, false, false⟩
/-- 0x2A40[0–7].02 (Table 04-10). -/
def Obj.DREDGE_START : ObjDesc :=
  ⟨0x2A40, 2, 0, 7, .u8, .rw, 15, .btw 3 50, true, false, false, false, false, false, false⟩
/-- 0x2A40[0–7].03 (Table 04-10). -/
def Obj.DREDGE_FLOOR : ObjDesc :=
  ⟨0x2A40, 3, 0, 7, .u8, .rw, 5, .btw 1 20, true, false, false, false, false, false, false⟩
/-- 0x2A40[0–7].04 (Table 04-10). -/
def Obj.DREDGE_RATE_LIMIT : ObjDesc :=
  ⟨0x2A40, 4, 0, 7, .u32, .rw, 0, .any, true, false, false, false, false, false, false⟩
/-- 0x2A40[0–7].05 (Table 04-10). -/
def Obj.DREDGE_STATE : ObjDesc :=
  ⟨0x2A40, 5, 0, 7, .u8, .ro, 0, .any, false, false, false, false, false, false, false⟩
/-- 0x2A40[0–7].06 (Table 04-10). -/
def Obj.FREE_ZONE_PERCENT : ObjDesc :=
  ⟨0x2A40, 6, 0, 7, .u8, .ro, 0, .any, false, false, false, false, false, false, false⟩
/-- 0x2A40[0–7].07 (Table 04-10). -/
def Obj.DREDGE_SEGMENTS_FREED : ObjDesc :=
  ⟨0x2A40, 7, 0, 7, .u64, .ro, 0, .any, false, false, false, false, false, false, false⟩
/-- 0x2A40[0–7].08 (Table 04-10). -/
def Obj.DREDGE_SECTORS_COPIED : ObjDesc :=
  ⟨0x2A40, 8, 0, 7, .u64, .ro, 0, .any, false, false, false, false, false, false, false⟩
/-- 0x2A40[0–7].09 (Table 04-10). -/
def Obj.DREDGE_DEAD_COPIES : ObjDesc :=
  ⟨0x2A40, 9, 0, 7, .u64, .ro, 0, .any, false, false, false, false, false, false, false⟩
/-- 0x2A40[0–7].0A (Table 04-10). -/
def Obj.DREDGE_REKEY_PENDING : ObjDesc :=
  ⟨0x2A40, 10, 0, 7, .u64, .ro, 0, .any, false, false, false, false, false, false, false⟩
/-- 0x2A40[0–7].0B (Table 04-10). -/
def Obj.DREDGE_PACING : ObjDesc :=
  ⟨0x2A40, 11, 0, 7, .bool, .ro, 0, .any, false, false, false, false, false, false, false⟩
/-- 0x2E00.01 (Table 05-9). -/
def Obj.HBM_PROTECTED_SIZE : ObjDesc :=
  ⟨0x2E00, 1, 0, 0, .u64, .const, 17179869184, .any, false, false, false, false, false, false, false⟩
/-- 0x2E00.02 (Table 05-9). -/
def Obj.HBM_MAP_CACHE_SIZE : ObjDesc :=
  ⟨0x2E00, 2, 0, 0, .u8, .rw, 48, .btw 16 72, true, false, false, false, false, false, false⟩
/-- 0x2E00.03 (Table 05-9). -/
def Obj.HBM_READ_CACHE_SIZE : ObjDesc :=
  ⟨0x2E00, 3, 0, 0, .u8, .ro, 28, .any, false, false, false, false, false, false, false⟩
/-- 0x2E00.04 (Table 05-9). -/
def Obj.HBM_SYSTEM_SIZE : ObjDesc :=
  ⟨0x2E00, 4, 0, 0, .u64, .const, 4294967296, .any, false, false, false, false, false, false, false⟩
/-- 0x2E10.01 (Table 05-9). -/
def Obj.OWN_DIRTY_BYTES : ObjDesc :=
  ⟨0x2E10, 1, 0, 0, .u64, .ro, 0, .any, false, false, false, false, false, false, false⟩
/-- 0x2E10.02 (Table 05-9). -/
def Obj.OWN_PARITY_BYTES : ObjDesc :=
  ⟨0x2E10, 2, 0, 0, .u64, .ro, 0, .any, false, false, false, false, false, false, false⟩
/-- 0x2E10.03 (Table 05-9). -/
def Obj.MIRROR_HELD_BYTES : ObjDesc :=
  ⟨0x2E10, 3, 0, 0, .u64, .ro, 0, .any, false, false, false, false, false, false, false⟩
/-- 0x2E10.04 (Table 05-9). -/
def Obj.MIRROR_RESERVE : ObjDesc :=
  ⟨0x2E10, 4, 0, 0, .u64, .rw, 8589934592, .mult 0 0x200000000 4096, true, true, true, false, false, false, false⟩
/-- 0x2E10.05 (Table 05-9). -/
def Obj.MIRROR_RESERVE_IN_EFFECT : ObjDesc :=
  ⟨0x2E10, 5, 0, 0, .u64, .ro, 0, .any, false, false, false, false, false, false, false⟩
/-- 0x2E10.06 (Table 05-9). -/
def Obj.PARTNER_RESERVE_IN_EFFECT : ObjDesc :=
  ⟨0x2E10, 6, 0, 0, .u64, .ro, 0, .any, false, false, false, false, false, false, false⟩
/-- 0x2E20.01 (Table 05-9). -/
def Obj.WEIR_LIMIT : ObjDesc :=
  ⟨0x2E20, 1, 0, 0, .u64, .rw, 8589934592, .mult 0 0x200000000 4096, true, false, false, false, false, false, false⟩
/-- 0x2E20.02 (Table 05-9). -/
def Obj.WEIR_CURRENT : ObjDesc :=
  ⟨0x2E20, 2, 0, 0, .u64, .ro, 0, .any, false, false, false, false, false, false, false⟩
/-- 0x2E20.03 (Table 05-9). -/
def Obj.WEIR_ENERGY_BYTES : ObjDesc :=
  ⟨0x2E20, 3, 0, 0, .u64, .ro, 0, .any, false, false, false, false, false, false, false⟩
/-- 0x2E20.04 (Table 05-9). -/
def Obj.WEIR_BINDING : ObjDesc :=
  ⟨0x2E20, 4, 0, 0, .u8, .ro, 4, .any, false, false, false, true, false, false, false⟩
/-- 0x2E20.05 (Table 05-9). -/
def Obj.WEIR_MARGIN : ObjDesc :=
  ⟨0x2E20, 5, 0, 0, .u16, .rw, 150, .btw 120 300, true, false, false, false, false, false, false⟩
/-- 0x2E20.06 (Table 05-9). -/
def Obj.DUMP_POWER : ObjDesc :=
  ⟨0x2E20, 6, 0, 0, .u16, .const, 100, .any, false, false, false, false, false, false, false⟩
/-- 0x2E20.07 (Table 05-9). -/
def Obj.DUMP_T_FIXED : ObjDesc :=
  ⟨0x2E20, 7, 0, 0, .u16, .const, 350, .any, false, false, false, false, false, false, false⟩
/-- 0x2E20.08 (Table 05-9). -/
def Obj.WEIR_ENERGY_INPUT : ObjDesc :=
  ⟨0x2E20, 8, 0, 0, .u32, .ro, 0, .any, false, false, false, false, false, false, false⟩
/-- 0x2E20.09 (Table 05-9). -/
def Obj.WEIR_FORCE_WRITE_THROUGH : ObjDesc :=
  ⟨0x2E20, 9, 0, 0, .bool, .rw, 0, .any, true, false, false, false, false, false, false⟩
/-- 0x2E20.0A (Table 05-9). -/
def Obj.WRITE_THROUGH : ObjDesc :=
  ⟨0x2E20, 10, 0, 0, .bool, .ro, 1, .any, false, false, false, true, false, false, false⟩
/-- 0x2E20.0B (Table 05-9). -/
def Obj.WEIR_WAITS : ObjDesc :=
  ⟨0x2E20, 11, 0, 0, .u64, .ro, 0, .any, false, false, false, false, false, false, false⟩
/-- 0x2E30.01 (Table 05-9). -/
def Obj.ILOG_STATE : ObjDesc :=
  ⟨0x2E30, 1, 0, 0, .u8, .ro, 0, .any, false, false, false, true, false, false, false⟩
/-- 0x2E30.02 (Table 05-9). -/
def Obj.ILOG_RING_FREE : ObjDesc :=
  ⟨0x2E30, 2, 0, 0, .u8, .ro, 100, .any, false, false, false, false, false, false, false⟩
/-- 0x2E30.03 (Table 05-9). -/
def Obj.ILOG_LIFE_USED : ObjDesc :=
  ⟨0x2E30, 3, 0, 0, .u8, .ro, 0, .any, false, false, false, true, false, false, false⟩
/-- 0x2E30.04 (Table 05-9). -/
def Obj.ILOG_RETIRED_WORDS : ObjDesc :=
  ⟨0x2E30, 4, 0, 0, .u16, .ro, 0, .any, false, false, false, false, false, false, false⟩
/-- 0x2E30.05 (Table 05-9). -/
def Obj.ILOG_RECORDS_WRITTEN : ObjDesc :=
  ⟨0x2E30, 5, 0, 0, .u64, .ro, 0, .any, true, false, false, false, false, false, false⟩
/-- 0x2E30.06 (Table 05-9). -/
def Obj.ILOG_PRESSURE_HOLDS : ObjDesc :=
  ⟨0x2E30, 6, 0, 0, .u64, .ro, 0, .any, false, false, false, false, false, false, false⟩
/-- 0x2E30.07 (Table 05-9). -/
def Obj.ILOG_ECC_CORRECTED : ObjDesc :=
  ⟨0x2E30, 7, 0, 0, .u64, .ro, 0, .any, false, false, false, false, false, false, false⟩
/-- 0x2E40.01 (Table 05-9). -/
def Obj.CISTERN_STATE : ObjDesc :=
  ⟨0x2E40, 1, 0, 0, .u8, .ro, 0, .any, false, false, false, true, false, false, false⟩
/-- 0x2E40.02 (Table 05-9). -/
def Obj.CISTERN_DIES_USABLE : ObjDesc :=
  ⟨0x2E40, 2, 0, 0, .u8, .ro, 16, .any, false, false, false, false, false, false, false⟩
/-- 0x2E40.03 (Table 05-9). -/
def Obj.CISTERN_DUMP_RATE : ObjDesc :=
  ⟨0x2E40, 3, 0, 0, .u32, .ro, 8000, .any, false, false, false, false, false, false, false⟩
/-- 0x2E40.04 (Table 05-9). -/
def Obj.CISTERN_ERASED_BYTES : ObjDesc :=
  ⟨0x2E40, 4, 0, 0, .u64, .ro, 0, .any, false, false, false, false, false, false, false⟩
/-- 0x2E40.05 (Table 05-9). -/
def Obj.CISTERN_IMAGE_HELD : ObjDesc :=
  ⟨0x2E40, 5, 0, 0, .bool, .ro, 0, .any, false, false, false, false, false, false, false⟩
/-- 0x2E40.06 (Table 05-9). -/
def Obj.CISTERN_LEAF_TAIL_MAX : ObjDesc :=
  ⟨0x2E40, 6, 0, 0, .u8, .rw, 16, .btw 0 32, true, false, false, false, false, false, false⟩
/-- 0x2E40.07 (Table 05-9). -/
def Obj.CISTERN_DUMPS : ObjDesc :=
  ⟨0x2E40, 7, 0, 0, .u32, .ro, 0, .any, true, false, false, false, false, false, false⟩
/-- 0x2E40.08 (Table 05-9). -/
def Obj.CISTERN_LAST_DUMP_MS : ObjDesc :=
  ⟨0x2E40, 8, 0, 0, .u32, .ro, 0, .any, false, false, false, false, false, false, false⟩
/-- 0x2E40.09 (Table 05-9). -/
def Obj.CISTERN_LAST_DUMP_BYTES : ObjDesc :=
  ⟨0x2E40, 9, 0, 0, .u64, .ro, 0, .any, false, false, false, false, false, false, false⟩
/-- 0x2E40.0A (Table 05-9). -/
def Obj.CISTERN_RESTORE_RESULT : ObjDesc :=
  ⟨0x2E40, 10, 0, 0, .u8, .ro, 0, .any, false, false, false, true, false, false, false⟩
/-- 0x2E40.0B (Table 05-9). -/
def Obj.CISTERN_SLOTS_LOST : ObjDesc :=
  ⟨0x2E40, 11, 0, 0, .u64, .ro, 0, .any, false, false, false, false, false, false, false⟩
/-- 0x2E40.0C (Table 05-9). -/
def Obj.CISTERN_RESTORE_LOSS_ACK : ObjDesc :=
  ⟨0x2E40, 12, 0, 0, .bool, .wo, 0, .oneOf [1], false, false, false, false, false, false, false⟩
/-- 0x2E50[0–7].01 (Table 05-9). -/
def Obj.RESYNC_STRIPES_TOTAL : ObjDesc :=
  ⟨0x2E50, 1, 0, 7, .u64, .ro, 0, .any, false, false, false, false, false, false, false⟩
/-- 0x2E50[0–7].02 (Table 05-9). -/
def Obj.RESYNC_STRIPES_DONE : ObjDesc :=
  ⟨0x2E50, 2, 0, 7, .u64, .ro, 0, .any, false, false, false, false, false, false, false⟩
/-- 0x2E50[0–7].03 (Table 05-9). -/
def Obj.RESYNC_REPAIRED : ObjDesc :=
  ⟨0x2E50, 3, 0, 7, .u64, .ro, 0, .any, false, false, false, false, false, false, false⟩
/-- 0x2E50[0–7].04 (Table 05-9). -/
def Obj.RESYNC_RATE_SHARE : ObjDesc :=
  ⟨0x2E50, 4, 0, 7, .u8, .rw, 25, .btw 5 75, true, false, false, false, false, false, false⟩
/-- 0x2E50[0–7].05 (Table 05-9). -/
def Obj.RESTORED_PENDING_BYTES : ObjDesc :=
  ⟨0x2E50, 5, 0, 7, .u64, .ro, 0, .any, false, false, false, false, false, false, false⟩
/-- 0x2E60.01 (Table 05-9). -/
def Obj.HBM_PARTIAL_CORRECTED : ObjDesc :=
  ⟨0x2E60, 1, 0, 0, .u64, .ro, 0, .any, false, false, false, false, false, false, false⟩
/-- 0x2E60.02 (Table 05-9). -/
def Obj.HBM_POISON_WRITES : ObjDesc :=
  ⟨0x2E60, 2, 0, 0, .u64, .ro, 0, .any, false, false, false, false, false, false, false⟩
/-- 0x2E60.03 (Table 05-9). -/
def Obj.SRAM_PARTIAL_CORRECTED : ObjDesc :=
  ⟨0x2E60, 3, 0, 0, .u64, .ro, 0, .any, false, false, false, false, false, false, false⟩
/-- 0x2E60.04 (Table 05-9). -/
def Obj.SRAM_POISON_WRITES : ObjDesc :=
  ⟨0x2E60, 4, 0, 0, .u64, .ro, 0, .any, false, false, false, false, false, false, false⟩
/-- 0x2E60.05 (Table 05-9). -/
def Obj.DIRTY_POISON_FROM_MIRROR : ObjDesc :=
  ⟨0x2E60, 5, 0, 0, .u64, .ro, 0, .any, false, false, false, false, false, false, false⟩
/-- 0x2E60.06 (Table 05-9). -/
def Obj.DIRTY_POISON_BAD_DATA : ObjDesc :=
  ⟨0x2E60, 6, 0, 0, .u64, .ro, 0, .any, false, false, false, false, false, false, false⟩
/-- 0x2880[0–7].01 (Table 06-8). -/
def Obj.REBUILD_STATE : ObjDesc :=
  ⟨0x2880, 1, 0, 7, .u8, .ro, 0, .any, false, false, false, false, false, false, false⟩
/-- 0x2880[0–7].02 (Table 06-8). -/
def Obj.REBUILD_PRIORITY : ObjDesc :=
  ⟨0x2880, 2, 0, 7, .u8, .rw, 1, .enum [0x00, 0x01, 0x02], true, false, false, false, false, false, false⟩
/-- 0x2880[0–7].03 (Table 06-8). -/
def Obj.REBUILD_START : ObjDesc :=
  ⟨0x2880, 3, 0, 7, .bool, .wo, 0, .oneOf [1], false, false, false, false, false, false, false⟩
/-- 0x2880[0–7].04 (Table 06-8). -/
def Obj.REBUILD_HOST_FLOOR : ObjDesc :=
  ⟨0x2880, 4, 0, 7, .u8, .rw, 50, .btw 10 90, true, false, false, false, false, false, false⟩
/-- 0x2880[0–7].05 (Table 06-8). -/
def Obj.REBUILD_SECTORS_TOTAL : ObjDesc :=
  ⟨0x2880, 5, 0, 7, .u64, .ro, 0, .any, false, false, false, false, false, false, false⟩
/-- 0x2880[0–7].06 (Table 06-8). -/
def Obj.REBUILD_SECTORS_DONE : ObjDesc :=
  ⟨0x2880, 6, 0, 7, .u64, .ro, 0, .any, false, false, false, false, false, false, false⟩
/-- 0x2880[0–7].07 (Table 06-8). -/
def Obj.REBUILD_AT_RISK_SEGMENTS : ObjDesc :=
  ⟨0x2880, 7, 0, 7, .u32, .ro, 0, .any, false, false, false, true, false, false, false⟩
/-- 0x2880[0–7].08 (Table 06-8). -/
def Obj.REBUILD_DEAD_COPIES : ObjDesc :=
  ⟨0x2880, 8, 0, 7, .u64, .ro, 0, .any, false, false, false, false, false, false, false⟩
/-- 0x2880[0–7].09 (Table 06-8). -/
def Obj.REDUCED_SEGMENTS : ObjDesc :=
  ⟨0x2880, 9, 0, 7, .u32, .ro, 0, .any, false, false, false, false, false, false, false⟩
/-- 0x2880[0–7].0A (Table 06-8). -/
def Obj.REDUCED_MIN_TOLERANCE : ObjDesc :=
  ⟨0x2880, 10, 0, 7, .u8, .ro, 0, .any, false, false, false, false, false, false, false⟩
/-- 0x2881.01 (Table 06-8). -/
def Obj.MEMBER_MEDIA_ERROR_LIMIT : ObjDesc :=
  ⟨0x2881, 1, 0, 0, .u16, .rw, 32, .btw 1 10000, true, false, false, false, false, false, false⟩
/-- 0x2881.02 (Table 06-8). -/
def Obj.MEMBER_MEDIA_ERROR_WINDOW : ObjDesc :=
  ⟨0x2881, 2, 0, 0, .u16, .rw, 24, .btw 1 720, true, false, false, false, false, false, false⟩
/-- 0x2890[0–511].01 (Table 06-8). -/
def Obj.MEMBER_FAIL_CAUSE : ObjDesc :=
  ⟨0x2890, 1, 0, 511, .u8, .ro, 0, .any, false, false, false, false, false, false, false⟩
/-- 0x2890[0–511].02 (Table 06-8). -/
def Obj.MEMBER_MEDIA_ERRORS : ObjDesc :=
  ⟨0x2890, 2, 0, 511, .u32, .ro, 0, .any, false, false, false, false, false, false, false⟩
/-- 0x2890[0–511].03 (Table 06-8). -/
def Obj.MEMBER_ACTION_RESULT : ObjDesc :=
  ⟨0x2890, 3, 0, 511, .u8, .ro, 0, .any, false, false, false, false, false, false, false⟩
/-- 0x28A0[0–7].01 (Table 06-8). -/
def Obj.RESHAPE_TARGET_TABLE : ObjDesc :=
  ⟨0x28A0, 1, 0, 7, .u8, .rw, 2, .oneOf [1,2,3,4,5,6,7,0x10,0x11,0x12,0x13,0x14,0x15,0x16,0x17,0x18,0x19,0x1A,0x1B,0x1C,0x1D,0x1E,0x1F], true, true, false, false, false, false, false⟩
/-- 0x28A0[0–7].02 (Table 06-8). -/
def Obj.RESHAPE_TARGET_K : ObjDesc :=
  ⟨0x28A0, 2, 0, 7, .u8, .rw, 10, .btw 1 48, true, true, false, false, false, false, false⟩
/-- 0x28A0[0–7].03 (Table 06-8). -/
def Obj.RESHAPE_KIND : ObjDesc :=
  ⟨0x28A0, 3, 0, 7, .u8, .ro, 0, .any, false, false, false, false, false, false, false⟩
/-- 0x28A0[0–7].04 (Table 06-8). -/
def Obj.RESHAPE_CURSOR : ObjDesc :=
  ⟨0x28A0, 4, 0, 7, .u64, .ro, 0, .any, false, false, false, false, false, false, false⟩
/-- 0x28A0[0–7].05 (Table 06-8). -/
def Obj.RESHAPE_SEGMENTS_LEFT : ObjDesc :=
  ⟨0x28A0, 5, 0, 7, .u32, .ro, 0, .any, false, false, false, false, false, false, false⟩
/-- 0x28A0[0–7].06 (Table 06-8). -/
def Obj.RESHAPE_RESULT : ObjDesc :=
  ⟨0x28A0, 6, 0, 7, .u8, .ro, 0, .any, false, false, false, false, false, false, false⟩
/-- 0x28A0[0–7].07 (Table 06-8). -/
def Obj.RESHAPE_RATE_LIMIT : ObjDesc :=
  ⟨0x28A0, 7, 0, 7, .u32, .rw, 0, .any, true, false, false, false, false, false, false⟩
/-- 0x28A0[0–7].08 (Table 06-8). -/
def Obj.REBALANCE_TOLERANCE : ObjDesc :=
  ⟨0x28A0, 8, 0, 7, .u8, .rw, 5, .btw 1 50, true, false, false, false, false, false, false⟩
/-- 0x28C0[0–7].01 (Table 06-8). -/
def Obj.LOST_SECTORS : ObjDesc :=
  ⟨0x28C0, 1, 0, 7, .u64, .ro, 0, .any, false, false, false, true, false, false, false⟩
/-- 0x28C0[0–7].02 (Table 06-8). -/
def Obj.LOST_STRIPES : ObjDesc :=
  ⟨0x28C0, 2, 0, 7, .u64, .ro, 0, .any, false, false, false, false, false, false, false⟩
/-- 0x28C0[0–7].03 (Table 06-8). -/
def Obj.LOST_LIST : ObjDesc :=
  ⟨0x28C0, 3, 0, 7, .tab, .ro, 0, .any, false, false, false, false, false, false, false⟩
/-- 0x28C0[0–7].04 (Table 06-8). -/
def Obj.LOST_LIST_TRUNCATED : ObjDesc :=
  ⟨0x28C0, 4, 0, 7, .bool, .ro, 0, .any, false, false, false, false, false, false, false⟩
/-- 0x28D0[0–7].01 (Table 06-8). -/
def Obj.DEGRADED_READS : ObjDesc :=
  ⟨0x28D0, 1, 0, 7, .u64, .ro, 0, .any, false, false, false, false, false, false, false⟩
/-- 0x28D0[0–7].02 (Table 06-8). -/
def Obj.INTEGRITY_GUARD_FAILS : ObjDesc :=
  ⟨0x28D0, 2, 0, 7, .u64, .ro, 0, .any, false, false, false, false, false, false, false⟩
/-- 0x28D0[0–7].03 (Table 06-8). -/
def Obj.INTEGRITY_ADDRESS_FAILS : ObjDesc :=
  ⟨0x28D0, 3, 0, 7, .u64, .ro, 0, .any, false, false, false, false, false, false, false⟩
/-- 0x28D0[0–7].04 (Table 06-8). -/
def Obj.INTEGRITY_REPAIRED : ObjDesc :=
  ⟨0x28D0, 4, 0, 7, .u64, .ro, 0, .any, false, false, false, false, false, false, false⟩
/-- 0x28D0[0–7].05 (Table 06-8). -/
def Obj.INTEGRITY_UNRECOVERED : ObjDesc :=
  ⟨0x28D0, 5, 0, 7, .u64, .ro, 0, .any, false, false, false, false, false, false, false⟩
/-- 0x2A80[0–7].01 (Table 06-9). -/
def Obj.PATROL_ENABLE : ObjDesc :=
  ⟨0x2A80, 1, 0, 7, .bool, .rw, 1, .any, true, false, false, false, false, false, false⟩
/-- 0x2A80[0–7].02 (Table 06-9). -/
def Obj.PATROL_PERIOD : ObjDesc :=
  ⟨0x2A80, 2, 0, 7, .u16, .rw, 14, .btw 1 365, true, false, false, false, false, false, false⟩
/-- 0x2A80[0–7].03 (Table 06-9). -/
def Obj.PATROL_RATE_LIMIT : ObjDesc :=
  ⟨0x2A80, 3, 0, 7, .u32, .rw, 0, .any, true, false, false, false, false, false, false⟩
/-- 0x2A80[0–7].04 (Table 06-9). -/
def Obj.PATROL_STATE : ObjDesc :=
  ⟨0x2A80, 4, 0, 7, .u8, .ro, 0, .any, false, false, false, false, false, false, false⟩
/-- 0x2A80[0–7].05 (Table 06-9). -/
def Obj.PATROL_PROGRESS : ObjDesc :=
  ⟨0x2A80, 5, 0, 7, .u8, .ro, 0, .any, false, false, false, false, false, false, false⟩
/-- 0x2A80[0–7].06 (Table 06-9). -/
def Obj.PATROL_PASSES : ObjDesc :=
  ⟨0x2A80, 6, 0, 7, .u32, .ro, 0, .any, true, false, false, false, false, false, false⟩
/-- 0x2A80[0–7].07 (Table 06-9). -/
def Obj.PATROL_LAST_PASS_SECONDS : ObjDesc :=
  ⟨0x2A80, 7, 0, 7, .u32, .ro, 0, .any, false, false, false, false, false, false, false⟩
/-- 0x2A80[0–7].08 (Table 06-9). -/
def Obj.PATROL_STRIPES_CHECKED : ObjDesc :=
  ⟨0x2A80, 8, 0, 7, .u64, .ro, 0, .any, false, false, false, false, false, false, false⟩
/-- 0x2A80[0–7].09 (Table 06-9). -/
def Obj.PATROL_PARITY_MISMATCH : ObjDesc :=
  ⟨0x2A80, 9, 0, 7, .u64, .ro, 0, .any, false, false, false, false, false, false, false⟩
/-- 0x2A80[0–7].0A (Table 06-9). -/
def Obj.PATROL_REPAIRED : ObjDesc :=
  ⟨0x2A80, 10, 0, 7, .u64, .ro, 0, .any, false, false, false, false, false, false, false⟩
/-- 0x2A80[0–7].0B (Table 06-9). -/
def Obj.PATROL_RESTART : ObjDesc :=
  ⟨0x2A80, 11, 0, 7, .bool, .wo, 0, .oneOf [1], false, false, false, false, false, false, false⟩
/-- 0x2100.01 (Table 07-15). -/
def Obj.GLOBAL_POOL_SIZE : ObjDesc :=
  ⟨0x2100, 1, 0, 0, .u32, .const, 65536, .any, false, false, false, false, false, false, false⟩
/-- 0x2100.02 (Table 07-15). -/
def Obj.GLOBAL_POOL_IN_USE : ObjDesc :=
  ⟨0x2100, 2, 0, 0, .u32, .ro, 0, .any, false, false, false, false, false, false, false⟩
/-- 0x2100.03 (Table 07-15). -/
def Obj.ADMIN_POOL_RESERVE : ObjDesc :=
  ⟨0x2100, 3, 0, 0, .u8, .const, 64, .any, false, false, false, false, false, false, false⟩
/-- 0x2100.04 (Table 07-15). -/
def Obj.SLUICE_WAITING : ObjDesc :=
  ⟨0x2100, 4, 0, 0, .u32, .ro, 0, .any, false, false, false, false, false, false, false⟩
/-- 0x2100.05 (Table 07-15). -/
def Obj.QPS_ENABLED : ObjDesc :=
  ⟨0x2100, 5, 0, 0, .u16, .ro, 0, .any, false, false, false, false, false, false, false⟩
/-- 0x2180[0–1025].01 (Table 07-15). -/
def Obj.FUNC_OPS_RATE : ObjDesc :=
  ⟨0x2180, 1, 0, 1025, .u32, .rw, 0, .any, true, false, false, false, false, false, false⟩
/-- 0x2180[0–1025].02 (Table 07-15). -/
def Obj.FUNC_OPS_BURST : ObjDesc :=
  ⟨0x2180, 2, 0, 1025, .u32, .rw, 1024, .btw 1 1048576, true, false, false, false, false, false, false⟩
/-- 0x2180[0–1025].03 (Table 07-15). -/
def Obj.FUNC_BYTES_RATE : ObjDesc :=
  ⟨0x2180, 3, 0, 1025, .u32, .rw, 0, .any, true, false, false, false, false, false, false⟩
/-- 0x2180[0–1025].04 (Table 07-15). -/
def Obj.FUNC_BYTES_BURST : ObjDesc :=
  ⟨0x2180, 4, 0, 1025, .u32, .rw, 1024, .btw 4 1048576, true, false, false, false, false, false, false⟩
/-- 0x2180[0–1025].05 (Table 07-15). -/
def Obj.FUNC_MAX_INFLIGHT : ObjDesc :=
  ⟨0x2180, 5, 0, 1025, .u32, .rw, 65536, .btw 1 65536, true, false, false, false, false, false, false⟩
/-- 0x2180[0–1025].06 (Table 07-15). -/
def Obj.FUNC_THROTTLE_WAITS : ObjDesc :=
  ⟨0x2180, 6, 0, 1025, .u64, .ro, 0, .any, false, false, false, false, true, false, false⟩
/-- 0x2190[0–4095].01 (Table 07-15). -/
def Obj.VOL_OPS_RATE : ObjDesc :=
  ⟨0x2190, 1, 0, 4095, .u32, .rw, 0, .any, true, false, false, false, false, false, false⟩
/-- 0x2190[0–4095].02 (Table 07-15). -/
def Obj.VOL_OPS_BURST : ObjDesc :=
  ⟨0x2190, 2, 0, 4095, .u32, .rw, 1024, .btw 1 1048576, true, false, false, false, false, false, false⟩
/-- 0x2190[0–4095].03 (Table 07-15). -/
def Obj.VOL_BYTES_RATE : ObjDesc :=
  ⟨0x2190, 3, 0, 4095, .u32, .rw, 0, .any, true, false, false, false, false, false, false⟩
/-- 0x2190[0–4095].04 (Table 07-15). -/
def Obj.VOL_BYTES_BURST : ObjDesc :=
  ⟨0x2190, 4, 0, 4095, .u32, .rw, 1024, .btw 4 1048576, true, false, false, false, false, false, false⟩
/-- 0x2190[0–4095].06 (Table 07-15). -/
def Obj.VOL_THROTTLE_WAITS : ObjDesc :=
  ⟨0x2190, 6, 0, 4095, .u64, .ro, 0, .any, false, false, false, false, true, false, false⟩
/-- 0x2110[0–8191].01 (Table 07-16). -/
def Obj.QP_STATE : ObjDesc :=
  ⟨0x2110, 1, 0, 8191, .u8, .ro, 0, .any, false, false, false, false, true, false, false⟩
/-- 0x2110[0–8191].02 (Table 07-16). -/
def Obj.QP_FUNCTION : ObjDesc :=
  ⟨0x2110, 2, 0, 8191, .u16, .rwo, 65535, .btwOr 0 1025 0xFFFF, false, false, false, false, false, false, false⟩
/-- 0x2110[0–8191].03 (Table 07-16). -/
def Obj.QP_LOCAL_INDEX : ObjDesc :=
  ⟨0x2110, 3, 0, 8191, .u16, .rwo, 0, .any, false, false, false, false, false, false, false⟩
/-- 0x2110[0–8191].04 (Table 07-16). -/
def Obj.SR_BASE : ObjDesc :=
  ⟨0x2110, 4, 0, 8191, .u64, .rwo, 0, .any, false, false, false, false, false, false, false⟩
/-- 0x2110[0–8191].05 (Table 07-16). -/
def Obj.SR_SIZE : ObjDesc :=
  ⟨0x2110, 5, 0, 8191, .u16, .rwo, 256, .any, false, false, false, false, false, false, false⟩
/-- 0x2110[0–8191].06 (Table 07-16). -/
def Obj.CR_BASE : ObjDesc :=
  ⟨0x2110, 6, 0, 8191, .u64, .rwo, 0, .any, false, false, false, false, false, false, false⟩
/-- 0x2110[0–8191].07 (Table 07-16). -/
def Obj.CR_SIZE : ObjDesc :=
  ⟨0x2110, 7, 0, 8191, .u16, .rwo, 256, .any, false, false, false, false, false, false, false⟩
/-- 0x2110[0–8191].08 (Table 07-16). -/
def Obj.SR_SEQ_START : ObjDesc :=
  ⟨0x2110, 8, 0, 8191, .u16, .rwo, 0, .any, false, false, false, false, false, false, false⟩
/-- 0x2110[0–8191].09 (Table 07-16). -/
def Obj.CR_SEQ_START : ObjDesc :=
  ⟨0x2110, 9, 0, 8191, .u16, .rwo, 0, .any, false, false, false, false, false, false, false⟩
/-- 0x2110[0–8191].0A (Table 07-16). -/
def Obj.QP_MODE : ObjDesc :=
  ⟨0x2110, 10, 0, 8191, .u8, .rw, 2, .enum [1, 2], false, false, false, false, false, false, false⟩
/-- 0x2110[0–8191].0B (Table 07-16). -/
def Obj.QP_POLL_INTERVAL : ObjDesc :=
  ⟨0x2110, 11, 0, 8191, .u16, .rw, 10, .btw 1 10000, false, false, false, false, false, false, false⟩
/-- 0x2110[0–8191].0C (Table 07-16). -/
def Obj.QP_POLL_BATCH : ObjDesc :=
  ⟨0x2110, 12, 0, 8191, .u8, .rw, 1, .btw 1 8, false, false, false, false, false, false, false⟩
/-- 0x2110[0–8191].0D (Table 07-16). -/
def Obj.QP_WRR_WEIGHT : ObjDesc :=
  ⟨0x2110, 13, 0, 8191, .u8, .rw, 8, .btw 1 64, false, false, false, false, false, false, false⟩
/-- 0x2110[0–8191].0E (Table 07-16). -/
def Obj.NEXT_SR_SEQ : ObjDesc :=
  ⟨0x2110, 14, 0, 8191, .u16, .ro, 0, .any, false, false, false, false, true, false, false⟩
/-- 0x2110[0–8191].0F (Table 07-16). -/
def Obj.LAST_CR_SEQ : ObjDesc :=
  ⟨0x2110, 15, 0, 8191, .u16, .ro, 0, .any, false, false, false, false, true, false, false⟩
/-- 0x2110[0–8191].10 (Table 07-16). -/
def Obj.CR_RELEASED_SEQ : ObjDesc :=
  ⟨0x2110, 16, 0, 8191, .u16, .ro, 0, .any, false, false, false, false, true, false, false⟩
/-- 0x2110[0–8191].11 (Table 07-16). -/
def Obj.TAGS_OUTSTANDING : ObjDesc :=
  ⟨0x2110, 17, 0, 8191, .u32, .ro, 0, .any, false, false, false, false, true, false, false⟩
/-- 0x2110[0–8191].12 (Table 07-16). -/
def Obj.HALT_CAUSE : ObjDesc :=
  ⟨0x2110, 18, 0, 8191, .u8, .ro, 0, .any, false, false, false, false, true, false, false⟩
/-- 0x2110[0–8191].13 (Table 07-16). -/
def Obj.QP_HALT : ObjDesc :=
  ⟨0x2110, 19, 0, 8191, .bool, .wo, 0, .oneOf [1], false, false, false, false, false, false, false⟩
/-- 0x2110[0–8191].14 (Table 07-16). -/
def Obj.QP_CREATE_RESULT : ObjDesc :=
  ⟨0x2110, 20, 0, 8191, .u8, .ro, 0, .any, false, false, false, false, false, false, false⟩
/-- 0x2110[0–8191].15 (Table 07-16). -/
def Obj.TAG_OUTCOME : ObjDesc :=
  ⟨0x2110, 21, 0, 8191, .tab, .ro, 0, .any, false, false, false, false, true, false, false⟩
/-- 0x2110[0–8191].16 (Table 07-16). -/
def Obj.LOST_COMPLETIONS : ObjDesc :=
  ⟨0x2110, 22, 0, 8191, .u32, .ro, 0, .any, false, false, false, false, true, false, false⟩
/-- 0x2110[0–8191].17 (Table 07-16). -/
def Obj.PUSH_TAKEN : ObjDesc :=
  ⟨0x2110, 23, 0, 8191, .u64, .ro, 0, .any, false, false, false, false, true, false, false⟩
/-- 0x2110[0–8191].18 (Table 07-16). -/
def Obj.PUSH_MISMATCH : ObjDesc :=
  ⟨0x2110, 24, 0, 8191, .u64, .ro, 0, .any, false, false, false, false, true, false, false⟩
/-- 0x2110[0–8191].19 (Table 07-16). -/
def Obj.PUSH_STALE : ObjDesc :=
  ⟨0x2110, 25, 0, 8191, .u64, .ro, 0, .any, false, false, false, false, true, false, false⟩
/-- 0x2110[0–8191].1A (Table 07-16). -/
def Obj.PUSH_DROPPED : ObjDesc :=
  ⟨0x2110, 26, 0, 8191, .u64, .ro, 0, .any, false, false, false, false, true, false, false⟩
/-- 0x2110[0–8191].1B (Table 07-16). -/
def Obj.RING_REFETCHES : ObjDesc :=
  ⟨0x2110, 27, 0, 8191, .u64, .ro, 0, .any, false, false, false, false, true, false, false⟩
/-- 0x2110[0–8191].1C (Table 07-16). -/
def Obj.CR_RELEASE_IGNORED : ObjDesc :=
  ⟨0x2110, 28, 0, 8191, .u32, .ro, 0, .any, false, false, false, false, true, false, false⟩
/-- 0x2110[0–8191].20 (Table 07-16). -/
def Obj.CR_MSIX_VECTOR : ObjDesc :=
  ⟨0x2110, 32, 0, 8191, .u16, .rw, 0, .any, false, false, false, false, false, false, false⟩
/-- 0x2110[0–8191].21 (Table 07-16). -/
def Obj.CR_INT_ENABLE : ObjDesc :=
  ⟨0x2110, 33, 0, 8191, .bool, .rw, 1, .any, false, false, false, false, false, false, false⟩
/-- 0x2110[0–8191].22 (Table 07-16). -/
def Obj.CR_COALESCE_COUNT : ObjDesc :=
  ⟨0x2110, 34, 0, 8191, .u8, .rw, 1, .btw 1 255, false, false, false, false, false, false, false⟩
/-- 0x2110[0–8191].23 (Table 07-16). -/
def Obj.CR_COALESCE_TIME : ObjDesc :=
  ⟨0x2110, 35, 0, 8191, .u16, .rw, 0, .btw 0 1000, false, false, false, false, false, false, false⟩
/-- 0x2110[0–8191].24 (Table 07-16). -/
def Obj.CR_URGENT_ON_ERROR : ObjDesc :=
  ⟨0x2110, 36, 0, 8191, .bool, .rw, 1, .any, false, false, false, false, false, false, false⟩
/-- 0x2110[0–8191].25 (Table 07-16). -/
def Obj.CR_SPLIT_WRITE : ObjDesc :=
  ⟨0x2110, 37, 0, 8191, .bool, .rwo, 1, .any, false, false, false, false, false, false, false⟩
/-- 0x2120[0–8191].01, .03, … .1F (Table 07-16). -/
def Obj.WINDOW_BASE : ObjDesc :=
  ⟨0x2120, 1, 0, 8191, .u64, .rwo, 0, .any, false, false, false, false, false, false, false⟩
/-- 0x2120[0–8191].01, .03, … .1F (Table 07-16). -/
def Obj.WINDOW_BASE_1 : ObjDesc :=
  ⟨0x2120, 3, 0, 8191, .u64, .rwo, 0, .any, false, false, false, false, false, false, false⟩
/-- 0x2120[0–8191].01, .03, … .1F (Table 07-16). -/
def Obj.WINDOW_BASE_2 : ObjDesc :=
  ⟨0x2120, 5, 0, 8191, .u64, .rwo, 0, .any, false, false, false, false, false, false, false⟩
/-- 0x2120[0–8191].01, .03, … .1F (Table 07-16). -/
def Obj.WINDOW_BASE_3 : ObjDesc :=
  ⟨0x2120, 7, 0, 8191, .u64, .rwo, 0, .any, false, false, false, false, false, false, false⟩
/-- 0x2120[0–8191].01, .03, … .1F (Table 07-16). -/
def Obj.WINDOW_BASE_4 : ObjDesc :=
  ⟨0x2120, 9, 0, 8191, .u64, .rwo, 0, .any, false, false, false, false, false, false, false⟩
/-- 0x2120[0–8191].01, .03, … .1F (Table 07-16). -/
def Obj.WINDOW_BASE_5 : ObjDesc :=
  ⟨0x2120, 11, 0, 8191, .u64, .rwo, 0, .any, false, false, false, false, false, false, false⟩
/-- 0x2120[0–8191].01, .03, … .1F (Table 07-16). -/
def Obj.WINDOW_BASE_6 : ObjDesc :=
  ⟨0x2120, 13, 0, 8191, .u64, .rwo, 0, .any, false, false, false, false, false, false, false⟩
/-- 0x2120[0–8191].01, .03, … .1F (Table 07-16). -/
def Obj.WINDOW_BASE_7 : ObjDesc :=
  ⟨0x2120, 15, 0, 8191, .u64, .rwo, 0, .any, false, false, false, false, false, false, false⟩
/-- 0x2120[0–8191].01, .03, … .1F (Table 07-16). -/
def Obj.WINDOW_BASE_8 : ObjDesc :=
  ⟨0x2120, 17, 0, 8191, .u64, .rwo, 0, .any, false, false, false, false, false, false, false⟩
/-- 0x2120[0–8191].01, .03, … .1F (Table 07-16). -/
def Obj.WINDOW_BASE_9 : ObjDesc :=
  ⟨0x2120, 19, 0, 8191, .u64, .rwo, 0, .any, false, false, false, false, false, false, false⟩
/-- 0x2120[0–8191].01, .03, … .1F (Table 07-16). -/
def Obj.WINDOW_BASE_10 : ObjDesc :=
  ⟨0x2120, 21, 0, 8191, .u64, .rwo, 0, .any, false, false, false, false, false, false, false⟩
/-- 0x2120[0–8191].01, .03, … .1F (Table 07-16). -/
def Obj.WINDOW_BASE_11 : ObjDesc :=
  ⟨0x2120, 23, 0, 8191, .u64, .rwo, 0, .any, false, false, false, false, false, false, false⟩
/-- 0x2120[0–8191].01, .03, … .1F (Table 07-16). -/
def Obj.WINDOW_BASE_12 : ObjDesc :=
  ⟨0x2120, 25, 0, 8191, .u64, .rwo, 0, .any, false, false, false, false, false, false, false⟩
/-- 0x2120[0–8191].01, .03, … .1F (Table 07-16). -/
def Obj.WINDOW_BASE_13 : ObjDesc :=
  ⟨0x2120, 27, 0, 8191, .u64, .rwo, 0, .any, false, false, false, false, false, false, false⟩
/-- 0x2120[0–8191].01, .03, … .1F (Table 07-16). -/
def Obj.WINDOW_BASE_14 : ObjDesc :=
  ⟨0x2120, 29, 0, 8191, .u64, .rwo, 0, .any, false, false, false, false, false, false, false⟩
/-- 0x2120[0–8191].01, .03, … .1F (Table 07-16). -/
def Obj.WINDOW_BASE_15 : ObjDesc :=
  ⟨0x2120, 31, 0, 8191, .u64, .rwo, 0, .any, false, false, false, false, false, false, false⟩
/-- 0x2120[0–8191].02, .04, … .20 (Table 07-16). -/
def Obj.WINDOW_LENGTH : ObjDesc :=
  ⟨0x2120, 2, 0, 8191, .u64, .rwo, 0, .any, false, false, false, false, false, false, false⟩
/-- 0x2120[0–8191].02, .04, … .20 (Table 07-16). -/
def Obj.WINDOW_LENGTH_1 : ObjDesc :=
  ⟨0x2120, 4, 0, 8191, .u64, .rwo, 0, .any, false, false, false, false, false, false, false⟩
/-- 0x2120[0–8191].02, .04, … .20 (Table 07-16). -/
def Obj.WINDOW_LENGTH_2 : ObjDesc :=
  ⟨0x2120, 6, 0, 8191, .u64, .rwo, 0, .any, false, false, false, false, false, false, false⟩
/-- 0x2120[0–8191].02, .04, … .20 (Table 07-16). -/
def Obj.WINDOW_LENGTH_3 : ObjDesc :=
  ⟨0x2120, 8, 0, 8191, .u64, .rwo, 0, .any, false, false, false, false, false, false, false⟩
/-- 0x2120[0–8191].02, .04, … .20 (Table 07-16). -/
def Obj.WINDOW_LENGTH_4 : ObjDesc :=
  ⟨0x2120, 10, 0, 8191, .u64, .rwo, 0, .any, false, false, false, false, false, false, false⟩
/-- 0x2120[0–8191].02, .04, … .20 (Table 07-16). -/
def Obj.WINDOW_LENGTH_5 : ObjDesc :=
  ⟨0x2120, 12, 0, 8191, .u64, .rwo, 0, .any, false, false, false, false, false, false, false⟩
/-- 0x2120[0–8191].02, .04, … .20 (Table 07-16). -/
def Obj.WINDOW_LENGTH_6 : ObjDesc :=
  ⟨0x2120, 14, 0, 8191, .u64, .rwo, 0, .any, false, false, false, false, false, false, false⟩
/-- 0x2120[0–8191].02, .04, … .20 (Table 07-16). -/
def Obj.WINDOW_LENGTH_7 : ObjDesc :=
  ⟨0x2120, 16, 0, 8191, .u64, .rwo, 0, .any, false, false, false, false, false, false, false⟩
/-- 0x2120[0–8191].02, .04, … .20 (Table 07-16). -/
def Obj.WINDOW_LENGTH_8 : ObjDesc :=
  ⟨0x2120, 18, 0, 8191, .u64, .rwo, 0, .any, false, false, false, false, false, false, false⟩
/-- 0x2120[0–8191].02, .04, … .20 (Table 07-16). -/
def Obj.WINDOW_LENGTH_9 : ObjDesc :=
  ⟨0x2120, 20, 0, 8191, .u64, .rwo, 0, .any, false, false, false, false, false, false, false⟩
/-- 0x2120[0–8191].02, .04, … .20 (Table 07-16). -/
def Obj.WINDOW_LENGTH_10 : ObjDesc :=
  ⟨0x2120, 22, 0, 8191, .u64, .rwo, 0, .any, false, false, false, false, false, false, false⟩
/-- 0x2120[0–8191].02, .04, … .20 (Table 07-16). -/
def Obj.WINDOW_LENGTH_11 : ObjDesc :=
  ⟨0x2120, 24, 0, 8191, .u64, .rwo, 0, .any, false, false, false, false, false, false, false⟩
/-- 0x2120[0–8191].02, .04, … .20 (Table 07-16). -/
def Obj.WINDOW_LENGTH_12 : ObjDesc :=
  ⟨0x2120, 26, 0, 8191, .u64, .rwo, 0, .any, false, false, false, false, false, false, false⟩
/-- 0x2120[0–8191].02, .04, … .20 (Table 07-16). -/
def Obj.WINDOW_LENGTH_13 : ObjDesc :=
  ⟨0x2120, 28, 0, 8191, .u64, .rwo, 0, .any, false, false, false, false, false, false, false⟩
/-- 0x2120[0–8191].02, .04, … .20 (Table 07-16). -/
def Obj.WINDOW_LENGTH_14 : ObjDesc :=
  ⟨0x2120, 30, 0, 8191, .u64, .rwo, 0, .any, false, false, false, false, false, false, false⟩
/-- 0x2120[0–8191].02, .04, … .20 (Table 07-16). -/
def Obj.WINDOW_LENGTH_15 : ObjDesc :=
  ⟨0x2120, 32, 0, 8191, .u64, .rwo, 0, .any, false, false, false, false, false, false, false⟩
/-- 0x2000[0–1].01 (Table 09-8). -/
def Obj.PORT_LINK_UP : ObjDesc :=
  ⟨0x2000, 1, 0, 1, .bool, .ro, 0, .any, false, false, false, true, false, false, false⟩
/-- 0x2000[0–1].02 (Table 09-8). -/
def Obj.PORT_LINK_SPEED : ObjDesc :=
  ⟨0x2000, 2, 0, 1, .u8, .ro, 0, .any, false, false, false, false, false, false, false⟩
/-- 0x2000[0–1].03 (Table 09-8). -/
def Obj.PORT_LINK_WIDTH : ObjDesc :=
  ⟨0x2000, 3, 0, 1, .u8, .ro, 0, .any, false, false, false, false, false, false, false⟩
/-- 0x2000[0–1].04 (Table 09-8). -/
def Obj.PORT_FLIT_MODE : ObjDesc :=
  ⟨0x2000, 4, 0, 1, .bool, .ro, 0, .any, false, false, false, false, false, false, false⟩
/-- 0x2000[0–1].05 (Table 09-8). -/
def Obj.PORT_CLOCK_MODE : ObjDesc :=
  ⟨0x2000, 5, 0, 1, .u8, .rw, 0, .enum [0x00, 0x01], true, false, false, false, false, false, false⟩
/-- 0x2000[0–1].06 (Table 09-8). -/
def Obj.PORT_MAX_SPEED : ObjDesc :=
  ⟨0x2000, 6, 0, 1, .u8, .rw, 6, .btw 3 6, true, false, false, false, false, false, false⟩
/-- 0x2000[0–1].07 (Table 09-8). -/
def Obj.PORT_RESETS : ObjDesc :=
  ⟨0x2000, 7, 0, 1, .u32, .ro, 0, .any, false, false, false, false, false, false, false⟩
/-- 0x2000[0–1].08 (Table 09-8). -/
def Obj.PORT_LINK_DOWNS : ObjDesc :=
  ⟨0x2000, 8, 0, 1, .u32, .ro, 0, .any, false, false, false, false, false, false, false⟩
/-- 0x2000[0–1].09 (Table 09-8). -/
def Obj.PORT_NUM_VFS : ObjDesc :=
  ⟨0x2000, 9, 0, 1, .u16, .ro, 0, .any, false, false, false, false, false, false, false⟩
/-- 0x2000[0–1].0A (Table 09-8). -/
def Obj.VF_QP_PAGES : ObjDesc :=
  ⟨0x2000, 10, 0, 1, .u8, .rw, 16, .pow2 1 64, true, false, false, false, false, false, false⟩
/-- 0x2000[0–1].0B (Table 09-8). -/
def Obj.PORT_CORRECTED_ERRORS : ObjDesc :=
  ⟨0x2000, 11, 0, 1, .u64, .ro, 0, .any, false, false, false, false, false, false, false⟩
/-- 0x2000[0–1].0C (Table 09-8). -/
def Obj.MMIO_STRADDLES : ObjDesc :=
  ⟨0x2000, 12, 0, 1, .u32, .ro, 0, .any, false, false, false, false, false, false, false⟩
/-- 0x2010[0–1025].01 (Table 09-8). -/
def Obj.FUNC_PRESENT : ObjDesc :=
  ⟨0x2010, 1, 0, 1025, .bool, .ro, 0, .any, false, false, false, false, true, false, false⟩
/-- 0x2010[0–1025].02 (Table 09-8). -/
def Obj.FUNC_PORT : ObjDesc :=
  ⟨0x2010, 2, 0, 1025, .u8, .const, 0, .any, false, false, false, false, true, false, false⟩
/-- 0x2010[0–1025].03 (Table 09-8). -/
def Obj.FUNC_DSTATE : ObjDesc :=
  ⟨0x2010, 3, 0, 1025, .u8, .ro, 0, .any, false, false, false, false, true, false, false⟩
/-- 0x2010[0–1025].04 (Table 09-8). -/
def Obj.FUNC_BUS_MASTER : ObjDesc :=
  ⟨0x2010, 4, 0, 1025, .bool, .ro, 0, .any, false, false, false, false, true, false, false⟩
/-- 0x2010[0–1025].05 (Table 09-8). -/
def Obj.FUNC_IN_RESET : ObjDesc :=
  ⟨0x2010, 5, 0, 1025, .bool, .ro, 0, .any, false, false, false, false, false, false, false⟩
/-- 0x2010[0–1025].06 (Table 09-8). -/
def Obj.FUNC_FLRS : ObjDesc :=
  ⟨0x2010, 6, 0, 1025, .u32, .ro, 0, .any, false, false, false, false, false, false, false⟩
/-- 0x2010[0–1025].07 (Table 09-8). -/
def Obj.FUNC_HELD_COMPLETIONS : ObjDesc :=
  ⟨0x2010, 7, 0, 1025, .u32, .ro, 0, .any, false, false, false, false, true, false, false⟩
/-- 0x2010[0–1025].08 (Table 09-8). -/
def Obj.FUNC_DMA_HALTED : ObjDesc :=
  ⟨0x2010, 8, 0, 1025, .u64, .ro, 0, .any, false, false, false, false, true, false, false⟩
/-- 0x2020.01 (Table 09-8). -/
def Obj.PCI_CLASS_CODE : ObjDesc :=
  ⟨0x2020, 1, 0, 0, .u32, .const, 66560, .any, false, false, false, false, false, false, false⟩
/-- 0x2020.02 (Table 09-8). -/
def Obj.PCI_SUBSYSTEM_VENDOR : ObjDesc :=
  ⟨0x2020, 2, 0, 0, .u16, .rw, 0, .any, true, false, false, false, false, false, false⟩
/-- 0x2020.03 (Table 09-8). -/
def Obj.PCI_SUBSYSTEM_ID : ObjDesc :=
  ⟨0x2020, 3, 0, 0, .u16, .rw, 38464, .any, true, false, false, false, false, false, false⟩
/-- 0x2030.01 (Table 09-8). -/
def Obj.MODULE_IDLE : ObjDesc :=
  ⟨0x2030, 1, 0, 0, .bool, .ro, 0, .any, false, false, false, true, false, false, false⟩
/-- 0x2030.02 (Table 09-8). -/
def Obj.MODULE_IDLE_ENTRIES : ObjDesc :=
  ⟨0x2030, 2, 0, 0, .u32, .ro, 0, .any, false, false, false, false, false, false, false⟩
/-- 0x2030.03 (Table 09-8). -/
def Obj.PME_SOURCES : ObjDesc :=
  ⟨0x2030, 3, 0, 0, .u8, .rw, 7, .bits 7, true, false, false, false, false, false, false⟩
/-- 0x2040[0–4095].01 (Table 09-8). -/
def Obj.VOLUME_FUNCTION_A : ObjDesc :=
  ⟨0x2040, 1, 0, 4095, .u16, .rw, 65535, .btwOr 0 1025 0xFFFF, true, false, false, false, false, false, false⟩
/-- 0x2040[0–4095].02 (Table 09-8). -/
def Obj.VOLUME_FUNCTION_B : ObjDesc :=
  ⟨0x2040, 2, 0, 4095, .u16, .rw, 65535, .btwOr 0 1025 0xFFFF, true, false, false, false, false, false, false⟩
/-- 0x2400[0–15].01 (Table 10-7). -/
def Obj.DRIVE_GROUP_ENABLE : ObjDesc :=
  ⟨0x2400, 1, 0, 15, .bool, .rw, 0, .any, true, false, false, false, false, false, false⟩
/-- 0x2400[0–15].02 (Table 10-7). -/
def Obj.DRIVE_GROUP_WIDTH : ObjDesc :=
  ⟨0x2400, 2, 0, 15, .u8, .rw, 4, .enum [2, 4], true, false, false, false, false, false, false⟩
/-- 0x2400[0–15].03 (Table 10-7). -/
def Obj.DRIVE_CLOCK_MODE : ObjDesc :=
  ⟨0x2400, 3, 0, 15, .u8, .rw, 0, .enum [0x00, 0x01], true, false, false, false, false, false, false⟩
/-- 0x2400[0–15].04 (Table 10-7). -/
def Obj.DRIVE_GROUP_STATE : ObjDesc :=
  ⟨0x2400, 4, 0, 15, .u8, .ro, 0, .any, false, false, false, false, false, false, false⟩
/-- 0x2410[0–63].01 (Table 10-7). -/
def Obj.DPORT_STATE : ObjDesc :=
  ⟨0x2410, 1, 0, 63, .u8, .ro, 6, .any, false, false, false, true, false, false, false⟩
/-- 0x2410[0–63].02 (Table 10-7). -/
def Obj.DPORT_MODE : ObjDesc :=
  ⟨0x2410, 2, 0, 63, .u8, .rw, 0, .enum [0x00, 0x01], true, false, false, false, false, false, false⟩
/-- 0x2410[0–63].03 (Table 10-7). -/
def Obj.PORT_RELEASE : ObjDesc :=
  ⟨0x2410, 3, 0, 63, .u8, .wo, 0, .enum [0x01, 0x02], false, false, false, false, false, false, false⟩
/-- 0x2410[0–63].04 (Table 10-7). -/
def Obj.PORT_RELEASE_RESULT : ObjDesc :=
  ⟨0x2410, 4, 0, 63, .u8, .ro, 0, .any, false, false, false, false, false, false, false⟩
/-- 0x2410[0–63].05 (Table 10-7). -/
def Obj.DPORT_CONTAIN_CAUSE : ObjDesc :=
  ⟨0x2410, 5, 0, 63, .u8, .ro, 0, .any, false, false, false, false, false, false, false⟩
/-- 0x2410[0–63].06 (Table 10-7). -/
def Obj.DPORT_HELD_COMMANDS : ObjDesc :=
  ⟨0x2410, 6, 0, 63, .u16, .ro, 0, .any, false, false, false, false, false, false, false⟩
/-- 0x2410[0–63].07 (Table 10-7). -/
def Obj.DRIVE_QUEUE_DEPTH : ObjDesc :=
  ⟨0x2410, 7, 0, 63, .u16, .rw, 1024, .btw 16 4096, true, false, false, false, false, false, false⟩
/-- 0x2410[0–63].08 (Table 10-7). -/
def Obj.DRIVE_IO_TIMEOUT : ObjDesc :=
  ⟨0x2410, 8, 0, 63, .u16, .rw, 2000, .btw 100 60000, true, false, false, false, false, false, false⟩
/-- 0x2410[0–63].09 (Table 10-7). -/
def Obj.DRIVE_ADMIN_TIMEOUT : ObjDesc :=
  ⟨0x2410, 9, 0, 63, .u16, .rw, 10000, .btw 1000 60000, true, false, false, false, false, false, false⟩
/-- 0x2410[0–63].0A (Table 10-7). -/
def Obj.DRIVE_RETRY_LIMIT : ObjDesc :=
  ⟨0x2410, 10, 0, 63, .u8, .rw, 3, .btw 0 7, true, false, false, false, false, false, false⟩
/-- 0x2410[0–63].0B (Table 10-7). -/
def Obj.DPORT_MAX_SPEED : ObjDesc :=
  ⟨0x2410, 11, 0, 63, .u8, .rw, 5, .btw 1 5, true, false, false, false, false, false, false⟩
/-- 0x2410[0–63].0C (Table 10-7). -/
def Obj.DPORT_LINK_SPEED : ObjDesc :=
  ⟨0x2410, 12, 0, 63, .u8, .ro, 0, .any, false, false, false, false, false, false, false⟩
/-- 0x2410[0–63].0D (Table 10-7). -/
def Obj.DPORT_LINK_WIDTH : ObjDesc :=
  ⟨0x2410, 13, 0, 63, .u8, .ro, 0, .any, false, false, false, false, false, false, false⟩
/-- 0x2410[0–63].0E (Table 10-7). -/
def Obj.DRIVE_ADMISSION : ObjDesc :=
  ⟨0x2410, 14, 0, 63, .u8, .ro, 255, .any, false, false, false, false, false, false, false⟩
/-- 0x2410[0–63].0F (Table 10-7). -/
def Obj.DRIVE_NGUID : ObjDesc :=
  ⟨0x2410, 15, 0, 63, .blob, .ro, 0, .any, false, false, false, false, false, false, false⟩
/-- 0x2410[0–63].10 (Table 10-7). -/
def Obj.DRIVE_NSID : ObjDesc :=
  ⟨0x2410, 16, 0, 63, .u32, .ro, 0, .any, false, false, false, false, false, false, false⟩
/-- 0x2410[0–63].11 (Table 10-7). -/
def Obj.DRIVE_MEMBER_OF : ObjDesc :=
  ⟨0x2410, 17, 0, 63, .u16, .ro, 65535, .any, false, false, false, false, false, false, false⟩
/-- 0x2410[0–63].12 (Table 10-7). -/
def Obj.DRIVE_MODEL : ObjDesc :=
  ⟨0x2410, 18, 0, 63, .str, .ro, 0, .any, false, false, false, false, false, false, false⟩
/-- 0x2410[0–63].13 (Table 10-7). -/
def Obj.DRIVE_SERIAL : ObjDesc :=
  ⟨0x2410, 19, 0, 63, .str, .ro, 0, .any, false, false, false, false, false, false, false⟩
/-- 0x2410[0–63].14 (Table 10-7). -/
def Obj.DRIVE_FIRMWARE : ObjDesc :=
  ⟨0x2410, 20, 0, 63, .str, .ro, 0, .any, false, false, false, false, false, false, false⟩
/-- 0x2410[0–63].15 (Table 10-7). -/
def Obj.DRIVE_CAPACITY : ObjDesc :=
  ⟨0x2410, 21, 0, 63, .u64, .ro, 0, .any, false, false, false, false, false, false, false⟩
/-- 0x2410[0–63].16 (Table 10-7). -/
def Obj.DRIVE_KIND : ObjDesc :=
  ⟨0x2410, 22, 0, 63, .u8, .ro, 255, .any, false, false, false, false, false, false, false⟩
/-- 0x2410[0–63].17 (Table 10-7). -/
def Obj.DRIVE_ZONE_SECTORS : ObjDesc :=
  ⟨0x2410, 23, 0, 63, .u32, .ro, 0, .any, false, false, false, false, false, false, false⟩
/-- 0x2410[0–63].18 (Table 10-7). -/
def Obj.DRIVE_MAX_ACTIVE : ObjDesc :=
  ⟨0x2410, 24, 0, 63, .u32, .ro, 0, .any, false, false, false, false, false, false, false⟩
/-- 0x2410[0–63].19 (Table 10-7). -/
def Obj.DRIVE_VOLATILE_CACHE : ObjDesc :=
  ⟨0x2410, 25, 0, 63, .bool, .ro, 0, .any, false, false, false, false, false, false, false⟩
/-- 0x2410[0–63].1A (Table 10-7). -/
def Obj.DRIVE_LOCATE : ObjDesc :=
  ⟨0x2410, 26, 0, 63, .bool, .rw, 0, .any, false, false, false, false, false, false, false⟩
/-- 0x2410[0–63].1B (Table 10-7). -/
def Obj.DRIVE_CRITICAL_WARNING : ObjDesc :=
  ⟨0x2410, 27, 0, 63, .u8, .ro, 0, .any, false, false, false, true, false, false, false⟩
/-- 0x2410[0–63].1C (Table 10-7). -/
def Obj.DRIVE_PERCENT_USED : ObjDesc :=
  ⟨0x2410, 28, 0, 63, .u8, .ro, 0, .any, false, false, false, false, false, false, false⟩
/-- 0x2410[0–63].1D (Table 10-7). -/
def Obj.DPORT_INFLIGHT : ObjDesc :=
  ⟨0x2410, 29, 0, 63, .u16, .ro, 0, .any, false, false, false, false, false, false, false⟩
/-- 0x2410[0–63].1E (Table 10-7). -/
def Obj.DPORT_TIMEOUTS : ObjDesc :=
  ⟨0x2410, 30, 0, 63, .u32, .ro, 0, .any, false, false, false, false, false, false, false⟩
/-- 0x2410[0–63].1F (Table 10-7). -/
def Obj.DPORT_RETRIES : ObjDesc :=
  ⟨0x2410, 31, 0, 63, .u64, .ro, 0, .any, false, false, false, false, false, false, false⟩
/-- 0x2410[0–63].20 (Table 10-7). -/
def Obj.DPORT_CORRECTED_ERRORS : ObjDesc :=
  ⟨0x2410, 32, 0, 63, .u64, .ro, 0, .any, false, false, false, false, false, false, false⟩
/-- 0x2420.01 (Table 10-7). -/
def Obj.SB_CLK_RATE : ObjDesc :=
  ⟨0x2420, 1, 0, 0, .u8, .rw, 0, .enum [0, 1], true, false, false, false, false, false, false⟩
/-- 0x2420.02 (Table 10-7). -/
def Obj.HOTPLUG_DEBOUNCE : ObjDesc :=
  ⟨0x2420, 2, 0, 0, .u16, .rw, 100, .btw 10 1000, true, false, false, false, false, false, false⟩
/-- 0x2420.03 (Table 10-7). -/
def Obj.DRIVE_HEALTH_POLL : ObjDesc :=
  ⟨0x2420, 3, 0, 0, .u16, .rw, 60, .btw 10 3600, true, false, false, false, false, false, false⟩
/-- 0x2420.04 (Table 10-7). -/
def Obj.DRIVE_INFLIGHT_TOTAL : ObjDesc :=
  ⟨0x2420, 4, 0, 0, .u32, .ro, 0, .any, false, false, false, false, false, false, false⟩
/-- 0x2420.05 (Table 10-7). -/
def Obj.DRIVE_GATE_STATE : ObjDesc :=
  ⟨0x2420, 5, 0, 0, .u8, .ro, 0, .any, false, false, false, true, false, false, false⟩
/-- 0x2420.06 (Table 10-7). -/
def Obj.DRIVE_GATE_HELD : ObjDesc :=
  ⟨0x2420, 6, 0, 0, .u32, .ro, 0, .any, false, false, false, false, false, false, false⟩
/-- 0x2420.07 (Table 10-7). -/
def Obj.DRIVE_GATE_INFLIGHT_AT_CLOSE : ObjDesc :=
  ⟨0x2420, 7, 0, 0, .u32, .ro, 0, .any, false, false, false, false, false, false, false⟩
/-- 0x2420.08 (Table 10-7). -/
def Obj.DRIVE_GATE_CLOSES : ObjDesc :=
  ⟨0x2420, 8, 0, 0, .u32, .ro, 0, .any, false, false, false, false, false, false, false⟩
/-- 0x2420.09 (Table 10-7). -/
def Obj.RESERVATION_KEY : ObjDesc :=
  ⟨0x2420, 9, 0, 0, .u64, .const, 0, .any, false, false, false, false, false, false, false⟩
/-- 0x2420.0A (Table 10-7). -/
def Obj.HOST_IDENTIFIER : ObjDesc :=
  ⟨0x2420, 10, 0, 0, .blob, .const, 0, .any, false, false, false, false, false, false, false⟩
/-- 0x3400.01 (Table 11-14). -/
def Obj.PAIR_ENABLE : ObjDesc :=
  ⟨0x3400, 1, 0, 0, .bool, .rw, 0, .any, true, false, false, false, false, false, false⟩
/-- 0x3400.02 (Table 11-14). -/
def Obj.PAIR_STATE : ObjDesc :=
  ⟨0x3400, 2, 0, 0, .u8, .ro, 0, .any, false, false, false, true, false, false, false⟩
/-- 0x3400.03 (Table 11-14). -/
def Obj.PAIR_PEER_SERIAL : ObjDesc :=
  ⟨0x3400, 3, 0, 0, .str, .ro, 0, .any, false, false, false, false, false, false, false⟩
/-- 0x3400.04 (Table 11-14). -/
def Obj.PAIR_PEER_COMPAT_LEVEL : ObjDesc :=
  ⟨0x3400, 4, 0, 0, .u16, .ro, 0, .any, false, false, false, false, false, false, false⟩
/-- 0x3400.05 (Table 11-14). -/
def Obj.PAIR_ALIVE_PRESENT : ObjDesc :=
  ⟨0x3400, 5, 0, 0, .bool, .ro, 0, .any, false, false, false, true, false, false, false⟩
/-- 0x3400.06 (Table 11-14). -/
def Obj.PAIR_ALIVE_TIMEOUT : ObjDesc :=
  ⟨0x3400, 6, 0, 0, .u16, .rw, 50, .btw 10 1000, true, false, false, false, false, false, false⟩
/-- 0x3400.07 (Table 11-14). -/
def Obj.PAIR_HEARTBEAT_TIMEOUT : ObjDesc :=
  ⟨0x3400, 7, 0, 0, .u16, .rw, 100, .btw 20 10000, true, false, false, false, false, false, false⟩
/-- 0x3400.08 (Table 11-14). -/
def Obj.PAIR_CULVERT_DOWN_POLICY : ObjDesc :=
  ⟨0x3400, 8, 0, 0, .u8, .rw, 0, .enum [0x00, 0x01], true, false, false, false, false, false, false⟩
/-- 0x3400.09 (Table 11-14). -/
def Obj.PAIR_FENCE_STATE : ObjDesc :=
  ⟨0x3400, 9, 0, 0, .u8, .ro, 0, .any, false, false, false, true, false, false, false⟩
/-- 0x3400.0A (Table 11-14). -/
def Obj.PAIR_TAKEOVER : ObjDesc :=
  ⟨0x3400, 10, 0, 0, .bool, .wo, 0, .oneOf [1], false, false, false, false, false, false, false⟩
/-- 0x3400.0B (Table 11-14). -/
def Obj.PAIR_TAKEOVER_STEP : ObjDesc :=
  ⟨0x3400, 11, 0, 0, .u8, .ro, 0, .any, false, false, false, false, false, false, false⟩
/-- 0x3400.0C (Table 11-14). -/
def Obj.PAIR_TAKEOVER_CAUSE : ObjDesc :=
  ⟨0x3400, 12, 0, 0, .u8, .ro, 0, .any, false, false, false, false, false, false, false⟩
/-- 0x3400.0D (Table 11-14). -/
def Obj.PAIR_LAST_TAKEOVER_MS : ObjDesc :=
  ⟨0x3400, 13, 0, 0, .u32, .ro, 0, .any, false, false, false, false, false, false, false⟩
/-- 0x3400.0E (Table 11-14). -/
def Obj.PAIR_FAULT_THRESHOLD : ObjDesc :=
  ⟨0x3400, 14, 0, 0, .u8, .rw, 3, .btw 1 100, true, false, false, false, false, false, false⟩
/-- 0x3400.0F (Table 11-14). -/
def Obj.PAIR_FAULT_WINDOW : ObjDesc :=
  ⟨0x3400, 15, 0, 0, .u16, .rw, 24, .btw 1 720, true, false, false, false, false, false, false⟩
/-- 0x3400.10 (Table 11-14). -/
def Obj.PAIR_FAULTS_A : ObjDesc :=
  ⟨0x3400, 16, 0, 0, .u8, .ro, 0, .any, false, false, false, false, false, false, false⟩
/-- 0x3400.11 (Table 11-14). -/
def Obj.PAIR_FAULTS_B : ObjDesc :=
  ⟨0x3400, 17, 0, 0, .u8, .ro, 0, .any, false, false, false, false, false, false, false⟩
/-- 0x3400.12 (Table 11-14). -/
def Obj.PAIR_FAULT_CLEAR : ObjDesc :=
  ⟨0x3400, 18, 0, 0, .bool, .wo, 0, .oneOf [1], false, false, false, false, false, false, false⟩
/-- 0x3400.13 (Table 11-14). -/
def Obj.PAIR_CONTESTED : ObjDesc :=
  ⟨0x3400, 19, 0, 0, .u32, .ro, 0, .any, false, false, false, false, false, false, false⟩
/-- 0x3410[0–7].01 (Table 11-14). -/
def Obj.PAIR_POOL_ROLE : ObjDesc :=
  ⟨0x3410, 1, 0, 7, .u8, .ro, 0, .any, false, false, false, true, false, false, false⟩
/-- 0x3410[0–7].02 (Table 11-14). -/
def Obj.PAIR_POOL_MIRROR : ObjDesc :=
  ⟨0x3410, 2, 0, 7, .bool, .rw, 1, .any, true, true, true, false, false, false, false⟩
/-- 0x3410[0–7].03 (Table 11-14). -/
def Obj.PAIR_POOL_COMPARED : ObjDesc :=
  ⟨0x3410, 3, 0, 7, .bool, .rw, 0, .any, true, true, true, false, false, false, false⟩
/-- 0x3410[0–7].04 (Table 11-14). -/
def Obj.PAIR_POOL_UNMIRRORED : ObjDesc :=
  ⟨0x3410, 4, 0, 7, .bool, .ro, 0, .any, false, false, false, true, false, false, false⟩
/-- 0x3410[0–7].05 (Table 11-14). -/
def Obj.PAIR_POOL_HANDOVER : ObjDesc :=
  ⟨0x3410, 5, 0, 7, .bool, .wo, 0, .oneOf [1], false, false, false, false, false, false, false⟩
/-- 0x3410[0–7].06 (Table 11-14). -/
def Obj.PAIR_HANDOVER_RESULT : ObjDesc :=
  ⟨0x3410, 6, 0, 7, .u8, .ro, 0, .any, false, false, false, false, false, false, false⟩
/-- 0x3410[0–7].07 (Table 11-14). -/
def Obj.PAIR_CATCHUP_BYTES : ObjDesc :=
  ⟨0x3410, 7, 0, 7, .u64, .ro, 0, .any, false, false, false, false, false, false, false⟩
/-- 0x3410[0–7].08 (Table 11-14). -/
def Obj.PAIR_DIGESTS_COMPARED : ObjDesc :=
  ⟨0x3410, 8, 0, 7, .u64, .ro, 0, .any, false, false, false, false, false, false, false⟩
/-- 0x3410[0–7].09 (Table 11-14). -/
def Obj.PAIR_DIGEST_MISMATCHES : ObjDesc :=
  ⟨0x3410, 9, 0, 7, .u64, .ro, 0, .any, false, false, false, false, false, false, false⟩
/-- 0x3420.01 (Table 11-14). -/
def Obj.CULVERT_STATE : ObjDesc :=
  ⟨0x3420, 1, 0, 0, .u8, .ro, 0, .any, false, false, false, true, false, false, false⟩
/-- 0x3420.02 (Table 11-14). -/
def Obj.CULVERT_BUNDLES_UP : ObjDesc :=
  ⟨0x3420, 2, 0, 0, .u8, .ro, 0, .any, false, false, false, false, false, false, false⟩
/-- 0x3420.03 (Table 11-14). -/
def Obj.CULVERT_DOWN_TIMEOUT : ObjDesc :=
  ⟨0x3420, 3, 0, 0, .u16, .rw, 2000, .btw 100 50000, true, false, false, false, false, false, false⟩
/-- 0x3420.04 (Table 11-14). -/
def Obj.CULVERT_TX_FLITS : ObjDesc :=
  ⟨0x3420, 4, 0, 0, .u64, .ro, 0, .any, false, false, false, false, false, false, false⟩
/-- 0x3420.05 (Table 11-14). -/
def Obj.CULVERT_CRC_ERRORS : ObjDesc :=
  ⟨0x3420, 5, 0, 0, .u64, .ro, 0, .any, false, false, false, false, false, false, false⟩
/-- 0x3420.06 (Table 11-14). -/
def Obj.CULVERT_REPLAYS : ObjDesc :=
  ⟨0x3420, 6, 0, 0, .u64, .ro, 0, .any, false, false, false, false, false, false, false⟩
/-- 0x3420.07 (Table 11-14). -/
def Obj.CULVERT_CREDIT_WAITS : ObjDesc :=
  ⟨0x3420, 7, 0, 0, .u64, .ro, 0, .any, false, false, false, false, false, false, false⟩
/-- 0x3420.08 (Table 11-14). -/
def Obj.CULVERT_UNACKED_PEAK : ObjDesc :=
  ⟨0x3420, 8, 0, 0, .u16, .ro, 0, .any, false, false, false, false, false, false, false⟩
/-- 0x3420.09 (Table 11-14). -/
def Obj.CULVERT_DOWNS : ObjDesc :=
  ⟨0x3420, 9, 0, 0, .u32, .ro, 0, .any, false, false, false, false, false, false, false⟩
/-- 0x3420.0A (Table 11-14). -/
def Obj.MIRROR_RESENDS : ObjDesc :=
  ⟨0x3420, 10, 0, 0, .u64, .ro, 0, .any, false, false, false, false, false, false, false⟩
/-- 0x3421[0–2].01 (Table 11-14). -/
def Obj.BUNDLE_STATE : ObjDesc :=
  ⟨0x3421, 1, 0, 2, .u8, .ro, 0, .any, false, false, false, false, false, false, false⟩
/-- 0x3421[0–2].02 (Table 11-14). -/
def Obj.BUNDLE_RETRAINS : ObjDesc :=
  ⟨0x3421, 2, 0, 2, .u32, .ro, 0, .any, false, false, false, false, false, false, false⟩
/-- 0x3000.01 (Table 12-9). -/
def Obj.CIPHER_POLICY : ObjDesc :=
  ⟨0x3000, 1, 0, 0, .u8, .rw, 0, .bits 3, true, true, false, false, false, false, false⟩
/-- 0x3000.02 (Table 12-9). -/
def Obj.KEY_PERSIST : ObjDesc :=
  ⟨0x3000, 2, 0, 0, .u8, .rw, 0, .enum [0x00, 0x01], true, false, false, false, false, false, false⟩
/-- 0x3000.03 (Table 12-9). -/
def Obj.KEY_USAGE_WARN : ObjDesc :=
  ⟨0x3000, 3, 0, 0, .u8, .rw, 75, .btw 50 99, true, false, false, false, false, false, false⟩
/-- 0x3000.04 (Table 12-9). -/
def Obj.KEY_SLOTS_IN_USE : ObjDesc :=
  ⟨0x3000, 4, 0, 0, .u16, .ro, 0, .any, false, false, false, false, false, false, false⟩
/-- 0x3010[0–3].01 (Table 12-9). -/
def Obj.PIPE_STATE : ObjDesc :=
  ⟨0x3010, 1, 0, 3, .u8, .ro, 0, .any, false, false, false, true, false, false, false⟩
/-- 0x3010[0–3].02 (Table 12-9). -/
def Obj.PIPE_FAULTS : ObjDesc :=
  ⟨0x3010, 2, 0, 3, .u8, .ro, 0, .any, false, false, false, false, false, false, false⟩
/-- 0x3010[0–3].03 (Table 12-9). -/
def Obj.PIPE_CLEAR : ObjDesc :=
  ⟨0x3010, 3, 0, 3, .bool, .wo, 0, .oneOf [1], false, false, false, false, false, false, false⟩
/-- 0x3010[0–3].04 (Table 12-9). -/
def Obj.PIPE_SERVED_BY : ObjDesc :=
  ⟨0x3010, 4, 0, 3, .u8, .ro, 0, .any, false, false, false, false, false, false, false⟩
/-- 0x3010[0–3].05 (Table 12-9). -/
def Obj.PIPE_BYTES : ObjDesc :=
  ⟨0x3010, 5, 0, 3, .u64, .ro, 0, .any, false, false, false, false, false, false, false⟩
/-- 0x3020[0–4095].01 (Table 12-9). -/
def Obj.KEY_STATE : ObjDesc :=
  ⟨0x3020, 1, 0, 4095, .u8, .ro, 0, .any, false, false, false, false, false, false, false⟩
/-- 0x3020[0–4095].02 (Table 12-9). -/
def Obj.KEY_GEN_CURRENT : ObjDesc :=
  ⟨0x3020, 2, 0, 4095, .u8, .ro, 0, .any, false, false, false, false, false, false, false⟩
/-- 0x3020[0–4095].03 (Table 12-9). -/
def Obj.KEY_GEN_PREVIOUS : ObjDesc :=
  ⟨0x3020, 3, 0, 4095, .u8, .ro, 0, .any, false, false, false, false, false, false, false⟩
/-- 0x3020[0–4095].04 (Table 12-9). -/
def Obj.KEY_KCV_XTS_CURRENT : ObjDesc :=
  ⟨0x3020, 4, 0, 4095, .u32, .ro, 0, .any, false, false, false, false, false, false, false⟩
/-- 0x3020[0–4095].05 (Table 12-9). -/
def Obj.KEY_KCV_GMAC_CURRENT : ObjDesc :=
  ⟨0x3020, 5, 0, 4095, .u32, .ro, 0, .any, false, false, false, false, false, false, false⟩
/-- 0x3020[0–4095].06 (Table 12-9). -/
def Obj.KEY_KCV_XTS_PREVIOUS : ObjDesc :=
  ⟨0x3020, 6, 0, 4095, .u32, .ro, 0, .any, false, false, false, false, false, false, false⟩
/-- 0x3020[0–4095].07 (Table 12-9). -/
def Obj.KEY_KCV_GMAC_PREVIOUS : ObjDesc :=
  ⟨0x3020, 7, 0, 4095, .u32, .ro, 0, .any, false, false, false, false, false, false, false⟩
/-- 0x3020[0–4095].08 (Table 12-9). -/
def Obj.KEY_PRESENT : ObjDesc :=
  ⟨0x3020, 8, 0, 4095, .u8, .ro, 0, .any, false, false, false, false, false, false, false⟩
/-- 0x3020[0–4095].09 (Table 12-9). -/
def Obj.KEY_USAGE_CURRENT : ObjDesc :=
  ⟨0x3020, 9, 0, 4095, .u64, .ro, 0, .any, false, false, false, false, false, false, false⟩
/-- 0x3020[0–4095].0A (Table 12-9). -/
def Obj.KEY_USAGE_LIMIT : ObjDesc :=
  ⟨0x3020, 10, 0, 4095, .u64, .rw, 4294967296, .btw 0x100000 0x1000000000, true, false, false, false, false, false, false⟩
/-- 0x3020[0–4095].0B (Table 12-9). -/
def Obj.KEY_PREV_SECTORS : ObjDesc :=
  ⟨0x3020, 11, 0, 4095, .u64, .ro, 0, .any, false, false, false, false, false, false, false⟩
/-- 0x3020[0–4095].0C (Table 12-9). -/
def Obj.KEY_VOLUMES : ObjDesc :=
  ⟨0x3020, 12, 0, 4095, .u16, .ro, 0, .any, false, false, false, false, false, false, false⟩
/-- 0x3030[0–1].01 (Table 12-9). -/
def Obj.KEY_LOAD_RESULT : ObjDesc :=
  ⟨0x3030, 1, 0, 1, .u8, .ro, 0, .any, false, false, false, false, false, false, false⟩
/-- 0x3030[0–1].02 (Table 12-9). -/
def Obj.KEY_LOAD_COUNT : ObjDesc :=
  ⟨0x3030, 2, 0, 1, .u32, .ro, 0, .any, false, false, false, false, false, false, false⟩
/-- 0x3030[0–1].03 (Table 12-9). -/
def Obj.KEY_LOAD_SLOT : ObjDesc :=
  ⟨0x3030, 3, 0, 1, .u16, .ro, 0, .any, false, false, false, false, false, false, false⟩
/-- 0x3030[0–1].04 (Table 12-9). -/
def Obj.KEY_WINDOW_DROPPED : ObjDesc :=
  ⟨0x3030, 4, 0, 1, .u32, .ro, 0, .any, false, false, false, false, false, false, false⟩
/-- 0x3040[0–4095].01 (Table 12-9). -/
def Obj.VOLUME_LOCK_CAUSE : ObjDesc :=
  ⟨0x3040, 1, 0, 4095, .u8, .ro, 0, .any, false, false, false, false, true, false, false⟩
/-- 0x3050[0–7].01 (Table 12-9). -/
def Obj.TAG_FAILS : ObjDesc :=
  ⟨0x3050, 1, 0, 7, .u64, .ro, 0, .any, false, false, false, false, false, false, false⟩
/-- 0x6000.01 (Table 12-9). -/
def Obj.TAMPER_LATCH : ObjDesc :=
  ⟨0x6000, 1, 0, 0, .u8, .ro, 0, .any, false, false, false, true, false, false, false⟩
/-- 0x6000.02 (Table 12-9). -/
def Obj.TAMPER_INPUTS : ObjDesc :=
  ⟨0x6000, 2, 0, 0, .u8, .ro, 0, .any, false, false, false, false, false, false, false⟩
/-- 0x6000.03 (Table 12-9). -/
def Obj.TAMPER_CLEAR : ObjDesc :=
  ⟨0x6000, 3, 0, 0, .u32, .wo, 0, .oneOf [0x9640C1EA], false, false, false, false, false, false, true⟩
/-- 0x6000.04 (Table 12-9). -/
def Obj.TAMPER_EVENTS : ObjDesc :=
  ⟨0x6000, 4, 0, 0, .u32, .ro, 0, .any, true, false, false, false, false, false, false⟩
/-- 0x6000.05 (Table 12-9). -/
def Obj.TAMPER_LAST_PHASE : ObjDesc :=
  ⟨0x6000, 5, 0, 0, .u8, .ro, 0, .any, false, false, false, false, false, false, false⟩
/-- 0x6000.06 (Table 12-9). -/
def Obj.TAMPER_ENCLOSURE_ENABLE : ObjDesc :=
  ⟨0x6000, 6, 0, 0, .bool, .rw, 1, .any, true, false, false, false, false, false, true⟩
/-- 0x6000.07 (Table 12-9). -/
def Obj.LOCKED_BOOT : ObjDesc :=
  ⟨0x6000, 7, 0, 0, .bool, .ro, 0, .any, false, false, false, true, false, false, false⟩
/-- 0x6010.01 (Table 12-9). -/
def Obj.ZERO_BYTES : ObjDesc :=
  ⟨0x6010, 1, 0, 0, .u64, .ro, 0, .any, false, false, false, false, false, false, false⟩
/-- 0x6010.02 (Table 12-9). -/
def Obj.ZERO_ALLOC_WAITS : ObjDesc :=
  ⟨0x6010, 2, 0, 0, .u64, .ro, 0, .any, false, false, false, false, false, false, false⟩
/-- 0x6010.03 (Table 12-9). -/
def Obj.ZERO_RESERVE_PCT : ObjDesc :=
  ⟨0x6010, 3, 0, 0, .u8, .ro, 100, .any, false, false, false, false, false, false, false⟩
/-- 0x2C00.01 (Table 13-7). -/
def Obj.CACHE_WAYS_ENABLED : ObjDesc :=
  ⟨0x2C00, 1, 0, 0, .u8, .rw, 16, .btw 0 16, true, false, false, false, false, false, false⟩
/-- 0x2C00.02 (Table 13-7). -/
def Obj.CACHE_FRAME_WAYS : ObjDesc :=
  ⟨0x2C00, 2, 0, 0, .u8, .rw, 12, .btw 0 16, true, false, false, false, false, false, false⟩
/-- 0x2C00.03 (Table 13-7). -/
def Obj.CACHE_LOCK_WAYS_MAX : ObjDesc :=
  ⟨0x2C00, 3, 0, 0, .u8, .rw, 4, .btw 0 14, true, false, false, false, false, false, false⟩
/-- 0x2C00.04 (Table 13-7). -/
def Obj.CACHE_PREFETCH : ObjDesc :=
  ⟨0x2C00, 4, 0, 0, .u8, .rw, 1, .enum [0x00, 0x01, 0x02], true, false, false, false, false, false, false⟩
/-- 0x2C00.05 (Table 13-7). -/
def Obj.CACHE_STREAM_THRESHOLD : ObjDesc :=
  ⟨0x2C00, 5, 0, 0, .u16, .rw, 64, .btw 8 4096, true, false, false, false, false, false, false⟩
/-- 0x2C00.06 (Table 13-7). -/
def Obj.CACHE_WAY_CE_LIMIT : ObjDesc :=
  ⟨0x2C00, 6, 0, 0, .u16, .rw, 64, .btw 1 10000, true, false, false, false, false, false, false⟩
/-- 0x2C00.07 (Table 13-7). -/
def Obj.CACHE_FRAMES_TOTAL : ObjDesc :=
  ⟨0x2C00, 7, 0, 0, .u32, .ro, 24576, .any, false, false, false, false, false, false, false⟩
/-- 0x2C00.08 (Table 13-7). -/
def Obj.CACHE_FRAMES_LOCKED : ObjDesc :=
  ⟨0x2C00, 8, 0, 0, .u32, .ro, 0, .any, false, false, false, false, false, false, false⟩
/-- 0x2C10[0–3].01 (Table 13-7). -/
def Obj.SLICE_STATE : ObjDesc :=
  ⟨0x2C10, 1, 0, 3, .u8, .ro, 0, .any, false, false, false, true, false, false, false⟩
/-- 0x2C10[0–3].02 (Table 13-7). -/
def Obj.SLICE_WAYS_USABLE : ObjDesc :=
  ⟨0x2C10, 2, 0, 3, .u16, .ro, 65535, .any, false, false, false, false, false, false, false⟩
/-- 0x2C10[0–3].03 (Table 13-7). -/
def Obj.SLICE_WAYS_DISABLED : ObjDesc :=
  ⟨0x2C10, 3, 0, 3, .u16, .ro, 0, .any, false, false, false, false, false, false, false⟩
/-- 0x2C10[0–3].04 (Table 13-7). -/
def Obj.SLICE_FRAME_WAYS : ObjDesc :=
  ⟨0x2C10, 4, 0, 3, .u8, .ro, 12, .any, false, false, false, false, false, false, false⟩
/-- 0x2C10[0–3].05 (Table 13-7). -/
def Obj.SLICE_WAY_REENABLE : ObjDesc :=
  ⟨0x2C10, 5, 0, 3, .u16, .wo, 0, .any, false, false, false, false, false, false, false⟩
/-- 0x2C10[0–3].06 (Table 13-7). -/
def Obj.SLICE_HITS : ObjDesc :=
  ⟨0x2C10, 6, 0, 3, .u64, .ro, 0, .any, false, false, false, false, false, false, false⟩
/-- 0x2C10[0–3].07 (Table 13-7). -/
def Obj.SLICE_MISSES : ObjDesc :=
  ⟨0x2C10, 7, 0, 3, .u64, .ro, 0, .any, false, false, false, false, false, false, false⟩
/-- 0x2C10[0–3].08 (Table 13-7). -/
def Obj.SLICE_STREAM_FILLS : ObjDesc :=
  ⟨0x2C10, 8, 0, 3, .u64, .ro, 0, .any, false, false, false, false, false, false, false⟩
/-- 0x2C10[0–3].09 (Table 13-7). -/
def Obj.SLICE_PREFETCHES : ObjDesc :=
  ⟨0x2C10, 9, 0, 3, .u64, .ro, 0, .any, false, false, false, false, false, false, false⟩
/-- 0x2C10[0–3].0A (Table 13-7). -/
def Obj.SLICE_PREFETCH_USED : ObjDesc :=
  ⟨0x2C10, 10, 0, 3, .u64, .ro, 0, .any, false, false, false, false, false, false, false⟩
/-- 0x2C10[0–3].0B (Table 13-7). -/
def Obj.SLICE_DIRTY_LINES : ObjDesc :=
  ⟨0x2C10, 11, 0, 3, .u32, .ro, 0, .any, false, false, false, false, false, false, false⟩
/-- 0x2C10[0–3].0C (Table 13-7). -/
def Obj.SLICE_CE : ObjDesc :=
  ⟨0x2C10, 12, 0, 3, .u64, .ro, 0, .any, false, false, false, false, false, false, false⟩
/-- 0x2C10[0–3].0D (Table 13-7). -/
def Obj.SLICE_UE : ObjDesc :=
  ⟨0x2C10, 13, 0, 3, .u64, .ro, 0, .any, false, false, false, false, false, false, false⟩
/-- 0x2C20.01 (Table 13-7). -/
def Obj.CACHE_MAINT_OP : ObjDesc :=
  ⟨0x2C20, 1, 0, 0, .u8, .wo, 0, .enum [1, 2, 3, 4], false, false, false, false, false, false, false⟩
/-- 0x2C20.02 (Table 13-7). -/
def Obj.CACHE_MAINT_VOLUME : ObjDesc :=
  ⟨0x2C20, 2, 0, 0, .u16, .rw, 0, .btw 0 4095, false, false, false, false, false, false, false⟩
/-- 0x2C20.03 (Table 13-7). -/
def Obj.CACHE_MAINT_SLBA : ObjDesc :=
  ⟨0x2C20, 3, 0, 0, .u64, .rw, 0, .any, false, false, false, false, false, false, false⟩
/-- 0x2C20.04 (Table 13-7). -/
def Obj.CACHE_MAINT_NLB : ObjDesc :=
  ⟨0x2C20, 4, 0, 0, .u64, .rw, 1, .btw 1 0x10000000000, false, false, false, false, false, false, false⟩
/-- 0x2C20.05 (Table 13-7). -/
def Obj.CACHE_MAINT_BUSY : ObjDesc :=
  ⟨0x2C20, 5, 0, 0, .bool, .ro, 0, .any, false, false, false, false, false, false, false⟩
/-- 0x2C20.06 (Table 13-7). -/
def Obj.CACHE_MAINT_RUNNING : ObjDesc :=
  ⟨0x2C20, 6, 0, 0, .u8, .ro, 0, .any, false, false, false, false, false, false, false⟩
/-- 0x2C20.07 (Table 13-7). -/
def Obj.CACHE_MAINT_RESULT : ObjDesc :=
  ⟨0x2C20, 7, 0, 0, .u8, .ro, 0, .any, false, false, false, false, false, false, false⟩
/-- 0x2C20.08 (Table 13-7). -/
def Obj.CACHE_MAINT_PROGRESS : ObjDesc :=
  ⟨0x2C20, 8, 0, 0, .u8, .ro, 0, .any, false, false, false, false, false, false, false⟩
/-- 0x2C30[0–63].01 (Table 13-7). -/
def Obj.LOCK_VOLUME : ObjDesc :=
  ⟨0x2C30, 1, 0, 63, .u16, .rw, 0, .btw 0 4095, true, false, false, false, false, false, false⟩
/-- 0x2C30[0–63].02 (Table 13-7). -/
def Obj.LOCK_SLBA : ObjDesc :=
  ⟨0x2C30, 2, 0, 63, .u64, .rw, 0, .any, true, false, false, false, false, false, false⟩
/-- 0x2C30[0–63].03 (Table 13-7). -/
def Obj.LOCK_NLB : ObjDesc :=
  ⟨0x2C30, 3, 0, 63, .u32, .rw, 0, .btw 0 8192, true, false, false, false, false, false, false⟩
/-- 0x2C30[0–63].04 (Table 13-7). -/
def Obj.LOCK_ACTION : ObjDesc :=
  ⟨0x2C30, 4, 0, 63, .u8, .wo, 0, .enum [0x01, 0x02], false, false, false, false, false, false, false⟩
/-- 0x2C30[0–63].05 (Table 13-7). -/
def Obj.LOCK_STATE : ObjDesc :=
  ⟨0x2C30, 5, 0, 63, .u8, .ro, 0, .any, true, false, false, false, false, false, false⟩
/-- 0x2C30[0–63].06 (Table 13-7). -/
def Obj.LOCK_SECTORS_HELD : ObjDesc :=
  ⟨0x2C30, 6, 0, 63, .u32, .ro, 0, .any, false, false, false, false, false, false, false⟩
/-- 0x2C30[0–63].07 (Table 13-7). -/
def Obj.LOCK_SECTORS_SKIPPED : ObjDesc :=
  ⟨0x2C30, 7, 0, 63, .u32, .ro, 0, .any, false, false, false, false, false, false, false⟩
/-- 0x2C38.01 (Table 13-7). -/
def Obj.FLUME_ENTRIES : ObjDesc :=
  ⟨0x2C38, 1, 0, 0, .u32, .ro, 0, .any, false, false, false, false, false, false, false⟩
/-- 0x2C38.02 (Table 13-7). -/
def Obj.FLUME_LOOKUPS : ObjDesc :=
  ⟨0x2C38, 2, 0, 0, .u64, .ro, 0, .any, false, false, false, false, false, false, false⟩
/-- 0x2C38.03 (Table 13-7). -/
def Obj.FLUME_PUSH_HITS : ObjDesc :=
  ⟨0x2C38, 3, 0, 0, .u64, .ro, 0, .any, false, false, false, false, false, false, false⟩
/-- 0x2C40[0–3].01 (Table 13-7). -/
def Obj.HBM_STACK_STATE : ObjDesc :=
  ⟨0x2C40, 1, 0, 3, .u8, .ro, 0, .any, false, false, false, true, false, false, false⟩
/-- 0x2C40[0–3].02 (Table 13-7). -/
def Obj.HBM_STACK_CAPACITY : ObjDesc :=
  ⟨0x2C40, 2, 0, 3, .u64, .const, 25769803776, .any, false, false, false, false, false, false, false⟩
/-- 0x2C40[0–3].03 (Table 13-7). -/
def Obj.HBM_TEMPERATURE : ObjDesc :=
  ⟨0x2C40, 3, 0, 3, .i32, .ro, 0, .any, false, false, false, true, false, false, false⟩
/-- 0x2C40[0–3].04 (Table 13-7). -/
def Obj.HBM_REFRESH_MODE : ObjDesc :=
  ⟨0x2C40, 4, 0, 3, .u8, .ro, 0, .any, false, false, false, false, false, false, false⟩
/-- 0x2C40[0–3].05 (Table 13-7). -/
def Obj.HBM_CE : ObjDesc :=
  ⟨0x2C40, 5, 0, 3, .u64, .ro, 0, .any, false, false, false, false, false, false, false⟩
/-- 0x2C40[0–3].06 (Table 13-7). -/
def Obj.HBM_UE : ObjDesc :=
  ⟨0x2C40, 6, 0, 3, .u64, .ro, 0, .any, false, false, false, false, false, false, false⟩
/-- 0x2C40[0–3].07 (Table 13-7). -/
def Obj.HBM_ROWS_REPAIRED : ObjDesc :=
  ⟨0x2C40, 7, 0, 3, .u16, .ro, 0, .any, true, false, false, false, false, false, false⟩
/-- 0x2C40[0–3].08 (Table 13-7). -/
def Obj.HBM_BYTES_READ : ObjDesc :=
  ⟨0x2C40, 8, 0, 3, .u64, .ro, 0, .any, false, false, false, false, false, false, false⟩
/-- 0x2C40[0–3].09 (Table 13-7). -/
def Obj.HBM_BYTES_WRITTEN : ObjDesc :=
  ⟨0x2C40, 9, 0, 3, .u64, .ro, 0, .any, false, false, false, false, false, false, false⟩
/-- 0x1900.01 (Table 14-7). -/
def Obj.PACK_ENABLE : ObjDesc :=
  ⟨0x1900, 1, 0, 0, .bool, .rw, 0, .any, true, false, false, false, false, false, false⟩
/-- 0x1900.02 (Table 14-7). -/
def Obj.PACK_CHEMISTRY : ObjDesc :=
  ⟨0x1900, 2, 0, 0, .u8, .rw, 0, .enum [0x00, 0x01, 0x02], true, false, false, false, false, false, false⟩
/-- 0x1900.03 (Table 14-7). -/
def Obj.PACK_VMAX : ObjDesc :=
  ⟨0x1900, 3, 0, 0, .u16, .rw, 10800, .btw 7000 11000, true, false, false, false, false, false, false⟩
/-- 0x1900.04 (Table 14-7). -/
def Obj.PACK_VMIN : ObjDesc :=
  ⟨0x1900, 4, 0, 0, .u16, .rw, 6000, .btw 5000 9000, true, false, false, false, false, false, false⟩
/-- 0x1900.05 (Table 14-7). -/
def Obj.PACK_NOMINAL_CAPACITANCE : ObjDesc :=
  ⟨0x1900, 5, 0, 0, .u32, .rw, 0, .btw 100 1000000, true, false, false, false, false, false, false⟩
/-- 0x1900.06 (Table 14-7). -/
def Obj.PACK_NOMINAL_CAPACITY : ObjDesc :=
  ⟨0x1900, 6, 0, 0, .u32, .rw, 0, .btw 100 100000, true, false, false, false, false, false, false⟩
/-- 0x1900.07 (Table 14-7). -/
def Obj.PACK_SHUNT : ObjDesc :=
  ⟨0x1900, 7, 0, 0, .u16, .rw, 2000, .btw 500 10000, true, false, false, false, false, false, false⟩
/-- 0x1900.08 (Table 14-7). -/
def Obj.PACK_TEMP_MIN : ObjDesc :=
  ⟨0x1900, 8, 0, 0, .i32, .rw, (-20), .btw (-40) 20, true, false, false, false, false, false, false⟩
/-- 0x1900.09 (Table 14-7). -/
def Obj.PACK_TEMP_MAX : ObjDesc :=
  ⟨0x1900, 9, 0, 0, .i32, .rw, 65, .btw 30 85, true, false, false, false, false, false, false⟩
/-- 0x1900.0A (Table 14-7). -/
def Obj.PACK_CHARGE_TEMP_MIN : ObjDesc :=
  ⟨0x1900, 10, 0, 0, .i32, .rw, 0, .btw (-20) 20, true, false, false, false, false, false, false⟩
/-- 0x1900.0B (Table 14-7). -/
def Obj.PACK_CHARGE_TEMP_MAX : ObjDesc :=
  ⟨0x1900, 11, 0, 0, .i32, .rw, 45, .btw 30 70, true, false, false, false, false, false, false⟩
/-- 0x1900.0C (Table 14-7). -/
def Obj.PACK_UNLEARNED_DERATE : ObjDesc :=
  ⟨0x1900, 12, 0, 0, .u8, .rw, 80, .btw 50 100, true, false, false, false, false, false, false⟩
/-- 0x1900.0D (Table 14-7). -/
def Obj.PACK_REST_CURRENT : ObjDesc :=
  ⟨0x1900, 13, 0, 0, .u16, .rw, 50, .btw 10 1000, true, false, false, false, false, false, false⟩
/-- 0x1900.0E (Table 14-7). -/
def Obj.PACK_REST_TIME : ObjDesc :=
  ⟨0x1900, 14, 0, 0, .u16, .rw, 30, .btw 5 240, true, false, false, false, false, false, false⟩
/-- 0x1900.0F (Table 14-7). -/
def Obj.PACK_RESET_LEARNING : ObjDesc :=
  ⟨0x1900, 15, 0, 0, .bool, .wo, 0, .oneOf [1], false, false, false, false, false, false, false⟩
/-- 0x1910.01 (Table 14-7). -/
def Obj.PACK_DERATE_TABLE : ObjDesc :=
  ⟨0x1910, 1, 0, 0, .tab, .rw, 0, .rows 2 16 10, true, false, false, false, false, false, false⟩
/-- 0x1910.02 (Table 14-7). -/
def Obj.PACK_OCV_TABLE : ObjDesc :=
  ⟨0x1910, 2, 0, 0, .tab, .rw, 0, .rows 21 21 10, true, false, false, false, false, false, false⟩
/-- 0x1920.01 (Table 14-7). -/
def Obj.PACK_STATE : ObjDesc :=
  ⟨0x1920, 1, 0, 0, .u8, .ro, 0, .any, false, false, false, true, false, false, false⟩
/-- 0x1920.02 (Table 14-7). -/
def Obj.PACK_FAULT_CAUSE : ObjDesc :=
  ⟨0x1920, 2, 0, 0, .u8, .ro, 0, .any, false, false, false, true, false, false, false⟩
/-- 0x1920.03 (Table 14-7). -/
def Obj.PACK_VOLTAGE : ObjDesc :=
  ⟨0x1920, 3, 0, 0, .u16, .ro, 0, .any, false, false, false, false, false, false, false⟩
/-- 0x1920.04 (Table 14-7). -/
def Obj.PACK_CURRENT : ObjDesc :=
  ⟨0x1920, 4, 0, 0, .i32, .ro, 0, .any, false, false, false, false, false, false, false⟩
/-- 0x1920.05 (Table 14-7). -/
def Obj.PACK_TEMPERATURE : ObjDesc :=
  ⟨0x1920, 5, 0, 0, .i32, .ro, 0, .any, false, false, false, true, false, false, false⟩
/-- 0x1920.06 (Table 14-7). -/
def Obj.PACK_SOC : ObjDesc :=
  ⟨0x1920, 6, 0, 0, .u16, .ro, 0, .any, false, false, false, false, false, false, false⟩
/-- 0x1920.07 (Table 14-7). -/
def Obj.PACK_CAPACITANCE_LEARNED : ObjDesc :=
  ⟨0x1920, 7, 0, 0, .u32, .ro, 0, .any, true, false, false, false, false, false, false⟩
/-- 0x1920.08 (Table 14-7). -/
def Obj.PACK_CAPACITY_LEARNED : ObjDesc :=
  ⟨0x1920, 8, 0, 0, .u32, .ro, 0, .any, true, false, false, false, false, false, false⟩
/-- 0x1920.09 (Table 14-7). -/
def Obj.PACK_ENERGY_RAW : ObjDesc :=
  ⟨0x1920, 9, 0, 0, .u32, .ro, 0, .any, false, false, false, false, false, false, false⟩
/-- 0x1920.0A (Table 14-7). -/
def Obj.PACK_DERATE_FACTOR : ObjDesc :=
  ⟨0x1920, 10, 0, 0, .u16, .ro, 0, .any, false, false, false, false, false, false, false⟩
/-- 0x1920.0B (Table 14-7). -/
def Obj.PACK_RIDE_RESERVE : ObjDesc :=
  ⟨0x1920, 11, 0, 0, .u32, .ro, 6800, .any, false, false, false, false, false, false, false⟩
/-- 0x1920.0C (Table 14-7). -/
def Obj.PACK_USABLE_ENERGY : ObjDesc :=
  ⟨0x1920, 12, 0, 0, .u32, .ro, 0, .any, false, false, false, true, false, false, false⟩
/-- 0x1920.0D (Table 14-7). -/
def Obj.PACK_CHARGING : ObjDesc :=
  ⟨0x1920, 13, 0, 0, .bool, .ro, 0, .any, false, false, false, false, false, false, false⟩
/-- 0x1920.0E (Table 14-7). -/
def Obj.PACK_LEARN_REJECTS : ObjDesc :=
  ⟨0x1920, 14, 0, 0, .u32, .ro, 0, .any, false, false, false, false, false, false, false⟩
/-- 0x1930.01 (Table 14-7). -/
def Obj.PACK_ESR_INTERVAL : ObjDesc :=
  ⟨0x1930, 1, 0, 0, .u16, .rw, 240, .btw 10 1440, true, false, false, false, false, false, false⟩
/-- 0x1930.02 (Table 14-7). -/
def Obj.PACK_TEST_CURRENT : ObjDesc :=
  ⟨0x1930, 2, 0, 0, .u16, .rw, 10000, .btw 5000 20000, true, false, false, false, false, false, false⟩
/-- 0x1930.03 (Table 14-7). -/
def Obj.PACK_ESR_MEASURE_NOW : ObjDesc :=
  ⟨0x1930, 3, 0, 0, .bool, .wo, 0, .oneOf [1], false, false, false, false, false, false, false⟩
/-- 0x1930.04 (Table 14-7). -/
def Obj.PACK_ESR : ObjDesc :=
  ⟨0x1930, 4, 0, 0, .u32, .ro, 0, .any, false, false, false, false, false, false, false⟩
/-- 0x1930.05 (Table 14-7). -/
def Obj.PACK_ESR_BASELINE : ObjDesc :=
  ⟨0x1930, 5, 0, 0, .u32, .ro, 0, .any, true, false, false, false, false, false, false⟩
/-- 0x1930.06 (Table 14-7). -/
def Obj.PACK_ESR_RATIO : ObjDesc :=
  ⟨0x1930, 6, 0, 0, .u16, .ro, 0, .any, false, false, false, true, false, false, false⟩
/-- 0x1930.07 (Table 14-7). -/
def Obj.PACK_ESR_WARN : ObjDesc :=
  ⟨0x1930, 7, 0, 0, .u16, .rw, 150, .btw 110 400, true, false, false, false, false, false, false⟩
/-- 0x1930.08 (Table 14-7). -/
def Obj.PACK_ESR_FAULT : ObjDesc :=
  ⟨0x1930, 8, 0, 0, .u16, .rw, 250, .btw 120 500, true, false, false, false, false, false, false⟩
/-- 0x1930.09 (Table 14-7). -/
def Obj.PACK_CAPACITY_WARN : ObjDesc :=
  ⟨0x1930, 9, 0, 0, .u8, .rw, 80, .btw 50 95, true, false, false, false, false, false, false⟩
/-- 0x1930.0A (Table 14-7). -/
def Obj.PACK_ESR_MEASUREMENTS : ObjDesc :=
  ⟨0x1930, 10, 0, 0, .u32, .ro, 0, .any, false, false, false, false, false, false, false⟩
/-- 0x1930.0B (Table 14-7). -/
def Obj.PACK_ESR_DEFERRED : ObjDesc :=
  ⟨0x1930, 11, 0, 0, .u32, .ro, 0, .any, false, false, false, false, false, false, false⟩
/-- 0x1930.0C (Table 14-7). -/
def Obj.PACK_ESR_LAST_AGE : ObjDesc :=
  ⟨0x1930, 12, 0, 0, .u32, .ro, 0, .any, false, false, false, false, false, false, false⟩
/-- 0x1800.01 (Table 15-18). -/
def Obj.PS_STATE : ObjDesc :=
  ⟨0x1800, 1, 0, 0, .u8, .ro, 0, .any, false, false, false, true, false, false, false⟩
/-- 0x1800.02 (Table 15-18). -/
def Obj.PS_RIDE_THROUGH_WINDOW : ObjDesc :=
  ⟨0x1800, 2, 0, 0, .u16, .rw, 20, .btw 5 200, true, false, false, false, false, false, false⟩
/-- 0x1800.03 (Table 15-18). -/
def Obj.PS_SAG_EVENTS : ObjDesc :=
  ⟨0x1800, 3, 0, 0, .u32, .ro, 0, .any, true, false, false, false, false, false, false⟩
/-- 0x1800.04 (Table 15-18). -/
def Obj.PS_TRANSIENTS : ObjDesc :=
  ⟨0x1800, 4, 0, 0, .u64, .ro, 0, .any, false, false, false, false, false, false, false⟩
/-- 0x1800.05 (Table 15-18). -/
def Obj.PS_ACFAIL_EVENTS : ObjDesc :=
  ⟨0x1800, 5, 0, 0, .u32, .ro, 0, .any, true, false, false, false, false, false, false⟩
/-- 0x1800.06 (Table 15-18). -/
def Obj.PS_LAST_STOP_CAUSE : ObjDesc :=
  ⟨0x1800, 6, 0, 0, .u8, .ro, 0, .any, true, false, false, true, false, false, false⟩
/-- 0x1800.07 (Table 15-18). -/
def Obj.PS_LONGEST_RIDE : ObjDesc :=
  ⟨0x1800, 7, 0, 0, .u32, .ro, 0, .any, false, false, false, false, false, false, false⟩
/-- 0x1810.01 (Table 15-18). -/
def Obj.P12V_VOLTAGE : ObjDesc :=
  ⟨0x1810, 1, 0, 0, .u16, .ro, 0, .any, false, false, false, true, false, false, false⟩
/-- 0x1810.02 (Table 15-18). -/
def Obj.P12V_CURRENT : ObjDesc :=
  ⟨0x1810, 2, 0, 0, .u32, .ro, 0, .any, false, false, false, false, false, false, false⟩
/-- 0x1810.03 (Table 15-18). -/
def Obj.P3V3_AUX_VOLTAGE : ObjDesc :=
  ⟨0x1810, 3, 0, 0, .u16, .ro, 0, .any, false, false, false, true, false, false, false⟩
/-- 0x1810.04 (Table 15-18). -/
def Obj.MODULE_INPUT_POWER : ObjDesc :=
  ⟨0x1810, 4, 0, 0, .u32, .ro, 0, .any, false, false, false, false, false, false, false⟩
/-- 0x1810.05 (Table 15-18). -/
def Obj.RAIL_STATUS : ObjDesc :=
  ⟨0x1810, 5, 0, 0, .u16, .ro, 0, .any, false, false, false, true, false, false, false⟩
/-- 0x1820.01 (Table 15-18). -/
def Obj.PLL_MAIN_LOCKED : ObjDesc :=
  ⟨0x1820, 1, 0, 0, .bool, .ro, 1, .any, false, false, false, true, false, false, false⟩
/-- 0x1820.02 (Table 15-18). -/
def Obj.PLL_LOCK_LOSSES : ObjDesc :=
  ⟨0x1820, 2, 0, 0, .u32, .ro, 0, .any, false, false, false, false, false, false, false⟩
/-- 0x1820.03 (Table 15-18). -/
def Obj.PLL_FALLBACK : ObjDesc :=
  ⟨0x1820, 3, 0, 0, .bool, .ro, 0, .any, false, false, false, false, false, false, false⟩
/-- 0x1830[0–3].01 (Table 15-18). -/
def Obj.QUADRANT_DIVIDER : ObjDesc :=
  ⟨0x1830, 1, 0, 3, .u8, .rw, 1, .enum [1, 2, 4], true, true, false, false, false, false, false⟩
/-- 0x1830[0–3].02 (Table 15-18). -/
def Obj.QUADRANT_DIVIDER_IN_EFFECT : ObjDesc :=
  ⟨0x1830, 2, 0, 3, .u8, .ro, 1, .any, false, false, false, false, false, false, false⟩
/-- 0x1830[0–3].03 (Table 15-18). -/
def Obj.VDD_Q_MEASURED : ObjDesc :=
  ⟨0x1830, 3, 0, 3, .u16, .ro, 0, .any, false, false, false, false, false, false, false⟩
/-- 0x1830[0–3].04 (Table 15-18). -/
def Obj.QUADRANT_TEMPERATURE : ObjDesc :=
  ⟨0x1830, 4, 0, 3, .i32, .ro, 0, .any, false, false, false, true, false, false, false⟩
/-- 0x1830[0–3].05 (Table 15-18). -/
def Obj.QUADRANT_POWER : ObjDesc :=
  ⟨0x1830, 5, 0, 3, .u32, .ro, 0, .any, false, false, false, false, false, false, false⟩
/-- 0x1830[0–3].06 (Table 15-18). -/
def Obj.QUADRANT_THERMAL_STEPS : ObjDesc :=
  ⟨0x1830, 6, 0, 3, .u32, .ro, 0, .any, false, false, false, false, false, false, false⟩
/-- 0x1830[0–3].07 (Table 15-18). -/
def Obj.QUADRANT_GATED : ObjDesc :=
  ⟨0x1830, 7, 0, 3, .bool, .ro, 0, .any, false, false, false, false, false, false, false⟩
/-- 0x1840.01 (Table 15-18). -/
def Obj.THERM_STEP_TEMP : ObjDesc :=
  ⟨0x1840, 1, 0, 0, .u8, .rw, 95, .btw 85 100, true, false, false, false, false, false, false⟩
/-- 0x1840.02 (Table 15-18). -/
def Obj.THERM_ALERT_TEMP : ObjDesc :=
  ⟨0x1840, 2, 0, 0, .u8, .rw, 100, .btw 90 103, true, false, false, false, false, false, false⟩
/-- 0x1840.03 (Table 15-18). -/
def Obj.THERM_DUMP_TEMP : ObjDesc :=
  ⟨0x1840, 3, 0, 0, .u8, .const, 105, .any, false, false, false, false, false, false, false⟩
/-- 0x1840.04 (Table 15-18). -/
def Obj.THERM_TRIP_TEMP : ObjDesc :=
  ⟨0x1840, 4, 0, 0, .u8, .const, 115, .any, false, false, false, false, false, false, false⟩
/-- 0x1840.05 (Table 15-18). -/
def Obj.THERM_GRADIENT_LIMIT : ObjDesc :=
  ⟨0x1840, 5, 0, 0, .u8, .const, 30, .any, false, false, false, false, false, false, false⟩
/-- 0x1840.06 (Table 15-18). -/
def Obj.JUNCTION_TEMP : ObjDesc :=
  ⟨0x1840, 6, 0, 0, .i32, .ro, 0, .any, false, false, false, true, false, false, false⟩
/-- 0x1840.07 (Table 15-18). -/
def Obj.JUNCTION_TEMP_PEAK : ObjDesc :=
  ⟨0x1840, 7, 0, 0, .i32, .ro, 0, .any, true, false, false, false, false, false, false⟩
/-- 0x1840.08 (Table 15-18). -/
def Obj.THERM_ALERT_ACTIVE : ObjDesc :=
  ⟨0x1840, 8, 0, 0, .bool, .ro, 0, .any, false, false, false, true, false, false, false⟩
/-- 0x1840.09 (Table 15-18). -/
def Obj.THERM_TRIPS : ObjDesc :=
  ⟨0x1840, 9, 0, 0, .u16, .ro, 0, .any, true, false, false, false, false, false, false⟩
/-- 0x1850.01 (Table 15-18). -/
def Obj.INPUT_LEVELS : ObjDesc :=
  ⟨0x1850, 1, 0, 0, .u16, .ro, 0, .any, false, false, false, false, false, false, false⟩
/-- 0x5000.01 (Table 16-9). -/
def Obj.BOOT_COUNT : ObjDesc :=
  ⟨0x5000, 1, 0, 0, .u32, .ro, 0, .any, true, false, false, true, true, false, false⟩
/-- 0x5000.02 (Table 16-9). -/
def Obj.BOOT_LAST_RESET_KIND : ObjDesc :=
  ⟨0x5000, 2, 0, 0, .u8, .ro, 0, .any, false, false, false, false, false, false, false⟩
/-- 0x5000.03 (Table 16-9). -/
def Obj.BOOT_LAST_STOP : ObjDesc :=
  ⟨0x5000, 3, 0, 0, .u8, .ro, 0, .any, false, false, false, true, false, false, false⟩
/-- 0x5000.04 (Table 16-9). -/
def Obj.STARTUP_FAULT : ObjDesc :=
  ⟨0x5000, 4, 0, 0, .u8, .ro, 0, .any, false, false, false, true, false, false, false⟩
/-- 0x5000.05 (Table 16-9). -/
def Obj.STARTUP_TIMES : ObjDesc :=
  ⟨0x5000, 5, 0, 0, .blob, .ro, 0, .any, false, false, false, false, false, false, false⟩
/-- 0x5000.06 (Table 16-9). -/
def Obj.DEVICE_RESET : ObjDesc :=
  ⟨0x5000, 6, 0, 0, .u32, .wo, 0, .oneOf [0x9640B007], false, false, false, false, false, false, false⟩
/-- 0x5000.07 (Table 16-9). -/
def Obj.WATCHDOG_TIMEOUT : ObjDesc :=
  ⟨0x5000, 7, 0, 0, .u16, .rw, 1000, .btw 100 10000, true, false, false, false, false, false, false⟩
/-- 0x5000.08 (Table 16-9). -/
def Obj.START_MEMBER_WAIT : ObjDesc :=
  ⟨0x5000, 8, 0, 0, .u16, .rw, 30, .btw 1 600, true, false, false, false, false, false, false⟩
/-- 0x5010.01 (Table 16-9). -/
def Obj.BOOT_SLOT_PREFERRED : ObjDesc :=
  ⟨0x5010, 1, 0, 0, .u8, .rw, 0, .oneOf [0,1], true, false, false, false, false, false, false⟩
/-- 0x5010.02 (Table 16-9). -/
def Obj.BOOT_SLOT_RUNNING : ObjDesc :=
  ⟨0x5010, 2, 0, 0, .u8, .ro, 0, .any, false, false, false, true, false, false, false⟩
/-- 0x5010.03 (Table 16-9). -/
def Obj.BOOT_FALLBACK : ObjDesc :=
  ⟨0x5010, 3, 0, 0, .bool, .ro, 0, .any, false, false, false, true, false, false, false⟩
/-- 0x5010.04 (Table 16-9). -/
def Obj.FW_SVN_FLOOR : ObjDesc :=
  ⟨0x5010, 4, 0, 0, .u8, .ro, 0, .any, false, false, false, false, false, false, false⟩
/-- 0x5010.05 (Table 16-9). -/
def Obj.FW_SVN_COMMIT : ObjDesc :=
  ⟨0x5010, 5, 0, 0, .u32, .wo, 0, .oneOf [0x9640F0F0], false, false, false, false, false, false, false⟩
/-- 0x5010.06 (Table 16-9). -/
def Obj.FW_UPDATE_SLOT : ObjDesc :=
  ⟨0x5010, 6, 0, 0, .u8, .rw, 255, .oneOf [0,1,0xFF], false, false, false, false, false, false, false⟩
/-- 0x5011[0–1].01 (Table 16-9). -/
def Obj.FW_SLOT_STATE : ObjDesc :=
  ⟨0x5011, 1, 0, 1, .u8, .ro, 0, .any, false, false, false, false, false, false, false⟩
/-- 0x5011[0–1].02 (Table 16-9). -/
def Obj.FW_SLOT_VERSION : ObjDesc :=
  ⟨0x5011, 2, 0, 1, .str, .ro, 0, .any, false, false, false, false, false, false, false⟩
/-- 0x5011[0–1].03 (Table 16-9). -/
def Obj.FW_SLOT_COMPAT_LEVEL : ObjDesc :=
  ⟨0x5011, 3, 0, 1, .u16, .ro, 0, .any, false, false, false, false, false, false, false⟩
/-- 0x5011[0–1].04 (Table 16-9). -/
def Obj.FW_SLOT_SVN : ObjDesc :=
  ⟨0x5011, 4, 0, 1, .u8, .ro, 0, .any, false, false, false, false, false, false, false⟩
/-- 0x5011[0–1].05 (Table 16-9). -/
def Obj.FW_SLOT_ERASE : ObjDesc :=
  ⟨0x5011, 5, 0, 1, .bool, .wo, 0, .oneOf [1], false, false, false, false, false, false, false⟩
/-- 0x5011[0–1].06 (Table 16-9). -/
def Obj.FW_SLOT_VERIFY : ObjDesc :=
  ⟨0x5011, 6, 0, 1, .bool, .wo, 0, .oneOf [1], false, false, false, false, false, false, false⟩
/-- 0x5011[0–1].07 (Table 16-9). -/
def Obj.FW_SLOT_RESULT : ObjDesc :=
  ⟨0x5011, 7, 0, 1, .u8, .ro, 0, .any, false, false, false, false, false, false, false⟩
/-- 0x5012[0–511].01 (Table 16-9). -/
def Obj.FW_SLOT_DATA : ObjDesc :=
  ⟨0x5012, 1, 0, 511, .blob, .wo, 0, .lenEq 65536, false, false, false, false, false, false, false⟩
/-- 0x5020.01 (Table 16-9). -/
def Obj.BIST_ENGINES_FAILED : ObjDesc :=
  ⟨0x5020, 1, 0, 0, .blob, .ro, 0, .any, false, false, false, false, false, false, false⟩
/-- 0x5020.02 (Table 16-9). -/
def Obj.BIST_CLUSTERS_DISABLED : ObjDesc :=
  ⟨0x5020, 2, 0, 0, .u64, .ro, 0, .any, false, false, false, false, false, false, false⟩
/-- 0x5020.03 (Table 16-9). -/
def Obj.BIST_SUMMARY : ObjDesc :=
  ⟨0x5020, 3, 0, 0, .u16, .ro, 0, .any, false, false, false, true, false, false, false⟩
/-- 0x5030.01 (Table 16-9). -/
def Obj.TEST_OP : ObjDesc :=
  ⟨0x5030, 1, 0, 0, .u8, .wo, 0, .enum [1, 2, 3, 4, 5, 6], false, false, false, false, false, false, false⟩
/-- 0x5030.02 (Table 16-9). -/
def Obj.TEST_TARGET : ObjDesc :=
  ⟨0x5030, 2, 0, 0, .u8, .rw, 0, .any, false, false, false, false, false, false, false⟩
/-- 0x5030.03 (Table 16-9). -/
def Obj.TEST_PATTERN : ObjDesc :=
  ⟨0x5030, 3, 0, 0, .u8, .rw, 3, .enum [0x01, 0x02, 0x03, 0x04, 0x05, 0x06], false, false, false, false, false, false, false⟩
/-- 0x5030.04 (Table 16-9). -/
def Obj.TEST_DURATION : ObjDesc :=
  ⟨0x5030, 4, 0, 0, .u32, .rw, 1000, .btw 1 3600000, false, false, false, false, false, false, false⟩
/-- 0x5030.05 (Table 16-9). -/
def Obj.TEST_STATE : ObjDesc :=
  ⟨0x5030, 5, 0, 0, .u8, .ro, 0, .any, false, false, false, false, false, false, false⟩
/-- 0x5030.06 (Table 16-9). -/
def Obj.TEST_BITS : ObjDesc :=
  ⟨0x5030, 6, 0, 0, .u64, .ro, 0, .any, false, false, false, false, false, false, false⟩
/-- 0x5030.07 (Table 16-9). -/
def Obj.TEST_ERRORS : ObjDesc :=
  ⟨0x5030, 7, 0, 0, .u64, .ro, 0, .any, false, false, false, false, false, false, false⟩
/-- 0x5030.08 (Table 16-9). -/
def Obj.TEST_LANE_ERRORS : ObjDesc :=
  ⟨0x5030, 8, 0, 0, .tab, .ro, 0, .any, false, false, false, false, false, false, false⟩
/-- 0x5030.09 (Table 16-9). -/
def Obj.TEST_STOP : ObjDesc :=
  ⟨0x5030, 9, 0, 0, .bool, .wo, 0, .oneOf [1], false, false, false, false, false, false, false⟩
/-- 0x5040.01 (Table 16-9). -/
def Obj.JTAG_IDCODE : ObjDesc :=
  ⟨0x5040, 1, 0, 0, .u32, .const, 0, .any, false, false, false, false, false, false, false⟩
/-- 0x4000.01 (Table 17-14). -/
def Obj.EVENTS_CREATED : ObjDesc :=
  ⟨0x4000, 1, 0, 0, .u64, .ro, 0, .any, false, false, false, false, false, false, false⟩
/-- 0x4000.02 (Table 17-14). -/
def Obj.EVENTS_COALESCED : ObjDesc :=
  ⟨0x4000, 2, 0, 0, .u64, .ro, 0, .any, false, false, false, false, false, false, false⟩
/-- 0x4000.03 (Table 17-14). -/
def Obj.EVENT_WINDOWS_OPEN : ObjDesc :=
  ⟨0x4000, 3, 0, 0, .u16, .ro, 0, .any, false, false, false, false, false, false, false⟩
/-- 0x4000.04 (Table 17-14). -/
def Obj.PATH_STORM_QUIET : ObjDesc :=
  ⟨0x4000, 4, 0, 0, .u16, .rw, 100, .btw 10 10000, true, false, false, false, false, false, false⟩
/-- 0x4001 (Table 17-14). -/
def Obj.EVENT_CATALOGUE : ObjDesc :=
  ⟨0x4001, 1, 0, 0, .tab, .ro, 0, .any, false, false, false, false, false, false, false⟩
/-- 0x4010[0–17].01 (Table 17-14). -/
def Obj.PATH_MIN_SEVERITY : ObjDesc :=
  ⟨0x4010, 1, 0, 17, .u8, .rw, 0, .enum [0, 1, 2, 3, 4, 0xFF], true, false, false, false, false, false, false⟩
/-- 0x4010[0–17].02 (Table 17-14). -/
def Obj.PATH_RATE : ObjDesc :=
  ⟨0x4010, 2, 0, 17, .u32, .rw, 0, .btw 1 10000000, true, false, false, false, false, false, false⟩
/-- 0x4010[0–17].03 (Table 17-14). -/
def Obj.PATH_BURST : ObjDesc :=
  ⟨0x4010, 3, 0, 17, .u32, .rw, 0, .btw 4 1048576, true, false, false, false, false, false, false⟩
/-- 0x4010[0–17].04 (Table 17-14). -/
def Obj.PATH_SHEDDING : ObjDesc :=
  ⟨0x4010, 4, 0, 17, .bool, .ro, 0, .any, false, false, false, true, false, false, false⟩
/-- 0x4010[0–17].05 (Table 17-14). -/
def Obj.PATH_DELIVERED : ObjDesc :=
  ⟨0x4010, 5, 0, 17, .u64, .ro, 0, .any, false, false, false, false, false, false, false⟩
/-- 0x4010[0–17].06 (Table 17-14). -/
def Obj.PATH_SHED_WARN : ObjDesc :=
  ⟨0x4010, 6, 0, 17, .u64, .ro, 0, .any, false, false, false, false, false, false, false⟩
/-- 0x4010[0–17].07 (Table 17-14). -/
def Obj.PATH_SHED_INFO : ObjDesc :=
  ⟨0x4010, 7, 0, 17, .u64, .ro, 0, .any, false, false, false, false, false, false, false⟩
/-- 0x4010[0–17].08 (Table 17-14). -/
def Obj.PATH_SHED_TRACE : ObjDesc :=
  ⟨0x4010, 8, 0, 17, .u64, .ro, 0, .any, false, false, false, false, false, false, false⟩
/-- 0x4010[0–17].09 (Table 17-14). -/
def Obj.PATH_STORMS : ObjDesc :=
  ⟨0x4010, 9, 0, 17, .u32, .ro, 0, .any, false, false, false, false, false, false, false⟩
/-- 0x4010[0–17].0A (Table 17-14). -/
def Obj.PATH_OVERRUNS : ObjDesc :=
  ⟨0x4010, 10, 0, 17, .u64, .ro, 0, .any, false, false, false, false, false, false, false⟩
/-- 0x4020[0–1].01 (Table 17-14). -/
def Obj.EVENT_RING_BASE : ObjDesc :=
  ⟨0x4020, 1, 0, 1, .u64, .rw, 0, .any, false, false, false, false, false, false, false⟩
/-- 0x4020[0–1].02 (Table 17-14). -/
def Obj.EVENT_RING_SIZE : ObjDesc :=
  ⟨0x4020, 2, 0, 1, .u16, .rw, 1024, .any, false, false, false, false, false, false, false⟩
/-- 0x4020[0–1].03 (Table 17-14). -/
def Obj.EVENT_RING_ENABLE : ObjDesc :=
  ⟨0x4020, 3, 0, 1, .bool, .rw, 0, .any, false, false, false, false, false, false, false⟩
/-- 0x4020[0–1].04 (Table 17-14). -/
def Obj.EVENT_RING_MSIX : ObjDesc :=
  ⟨0x4020, 4, 0, 1, .u16, .rw, 0, .btw 0 2047, false, false, false, false, false, false, false⟩
/-- 0x4020[0–1].05 (Table 17-14). -/
def Obj.EVENT_RING_COALESCE_COUNT : ObjDesc :=
  ⟨0x4020, 5, 0, 1, .u8, .rw, 16, .btw 1 255, false, false, false, false, false, false, false⟩
/-- 0x4020[0–1].06 (Table 17-14). -/
def Obj.EVENT_RING_COALESCE_TIME : ObjDesc :=
  ⟨0x4020, 6, 0, 1, .u16, .rw, 100, .btw 1 10000, false, false, false, false, false, false, false⟩
/-- 0x4020[0–1].07 (Table 17-14). -/
def Obj.EVENT_RING_NEXT_DELIVERY : ObjDesc :=
  ⟨0x4020, 7, 0, 1, .u16, .ro, 0, .any, false, false, false, false, false, false, false⟩
/-- 0x4030[0–13].01 (Table 17-14). -/
def Obj.EVENT_SUB_FETCH : ObjDesc :=
  ⟨0x4030, 1, 0, 13, .blob, .ro, 0, .any, false, false, false, false, false, false, false⟩
/-- 0x4030[0–13].02 (Table 17-14). -/
def Obj.EVENT_SUB_QUEUED : ObjDesc :=
  ⟨0x4030, 2, 0, 13, .u16, .ro, 0, .any, false, false, false, false, false, false, false⟩
/-- 0x4030[0–13].03 (Table 17-14). -/
def Obj.EVENT_STORE_FROM : ObjDesc :=
  ⟨0x4030, 3, 0, 13, .u64, .rw, 0, .btw 0 0xFFFFFFFFFFFF, false, false, false, false, false, false, false⟩
/-- 0x4030[0–13].04 (Table 17-14). -/
def Obj.EVENT_STORE_READ : ObjDesc :=
  ⟨0x4030, 4, 0, 13, .blob, .ro, 0, .any, false, false, false, false, false, false, false⟩
/-- 0x4030[0–13].05 (Table 17-14). -/
def Obj.ALARM_STORE_FROM : ObjDesc :=
  ⟨0x4030, 5, 0, 13, .u64, .rw, 0, .btw 0 0xFFFFFFFFFFFF, false, false, false, false, false, false, false⟩
/-- 0x4030[0–13].06 (Table 17-14). -/
def Obj.ALARM_STORE_READ : ObjDesc :=
  ⟨0x4030, 6, 0, 13, .blob, .ro, 0, .any, false, false, false, true, false, false, false⟩
/-- 0x4040.01 (Table 17-14). -/
def Obj.EVENT_STORE_OLDEST : ObjDesc :=
  ⟨0x4040, 1, 0, 0, .u64, .ro, 0, .any, false, false, false, false, false, false, false⟩
/-- 0x4040.02 (Table 17-14). -/
def Obj.EVENT_STORE_COUNT : ObjDesc :=
  ⟨0x4040, 2, 0, 0, .u32, .ro, 0, .any, false, false, false, false, false, false, false⟩
/-- 0x4040.03 (Table 17-14). -/
def Obj.ALARM_STORE_OLDEST : ObjDesc :=
  ⟨0x4040, 3, 0, 0, .u64, .ro, 0, .any, true, false, false, false, false, false, false⟩
/-- 0x4040.04 (Table 17-14). -/
def Obj.ALARM_STORE_COUNT : ObjDesc :=
  ⟨0x4040, 4, 0, 0, .u16, .ro, 0, .any, true, false, false, false, false, false, false⟩
/-- 0x4800[0–1025].01 (Table 17-15). -/
def Obj.LEVEL0_TENANT_ACCESS : ObjDesc :=
  ⟨0x4800, 1, 0, 1025, .bool, .rw, 0, .any, true, false, false, false, false, false, false⟩
/-- 0x4810[0–8191].01–.08 (Table 17-15). -/
def Obj.QP_READ_CMDS : ObjDesc :=
  ⟨0x4810, 1, 0, 8191, .u64, .ro, 0, .any, false, false, false, false, true, false, false⟩
/-- 0x4810[0–8191].01–.08 (Table 17-15). -/
def Obj.QP_WRITE_CMDS : ObjDesc :=
  ⟨0x4810, 2, 0, 8191, .u64, .ro, 0, .any, false, false, false, false, true, false, false⟩
/-- 0x4810[0–8191].01–.08 (Table 17-15). -/
def Obj.QP_OTHER_CMDS : ObjDesc :=
  ⟨0x4810, 3, 0, 8191, .u64, .ro, 0, .any, false, false, false, false, true, false, false⟩
/-- 0x4810[0–8191].01–.08 (Table 17-15). -/
def Obj.QP_READ_BYTES : ObjDesc :=
  ⟨0x4810, 4, 0, 8191, .u64, .ro, 0, .any, false, false, false, false, true, false, false⟩
/-- 0x4810[0–8191].01–.08 (Table 17-15). -/
def Obj.QP_WRITE_BYTES : ObjDesc :=
  ⟨0x4810, 5, 0, 8191, .u64, .ro, 0, .any, false, false, false, false, true, false, false⟩
/-- 0x4810[0–8191].01–.08 (Table 17-15). -/
def Obj.QP_ERRORS : ObjDesc :=
  ⟨0x4810, 6, 0, 8191, .u64, .ro, 0, .any, false, false, false, false, true, false, false⟩
/-- 0x4810[0–8191].01–.08 (Table 17-15). -/
def Obj.QP_DEGRADED : ObjDesc :=
  ⟨0x4810, 7, 0, 8191, .u64, .ro, 0, .any, false, false, false, false, true, false, false⟩
/-- 0x4810[0–8191].01–.08 (Table 17-15). -/
def Obj.QP_SERVICE_TIME_SUM : ObjDesc :=
  ⟨0x4810, 8, 0, 8191, .u64, .ro, 0, .any, false, false, false, false, true, false, false⟩
/-- 0x4810[0–8191].09 (Table 17-15). -/
def Obj.QP_READ_HISTOGRAM : ObjDesc :=
  ⟨0x4810, 9, 0, 8191, .tab, .ro, 0, .any, false, false, false, false, true, false, false⟩
/-- 0x4810[0–8191].0A (Table 17-15). -/
def Obj.QP_WRITE_HISTOGRAM : ObjDesc :=
  ⟨0x4810, 10, 0, 8191, .tab, .ro, 0, .any, false, false, false, false, true, false, false⟩
/-- 0x4818[0–4095].01–.08 (Table 17-15). -/
def Obj.VOL_READ_CMDS : ObjDesc :=
  ⟨0x4818, 1, 0, 4095, .u64, .ro, 0, .any, false, false, false, false, true, false, false⟩
/-- 0x4818[0–4095].01–.08 (Table 17-15). -/
def Obj.VOL_WRITE_CMDS : ObjDesc :=
  ⟨0x4818, 2, 0, 4095, .u64, .ro, 0, .any, false, false, false, false, true, false, false⟩
/-- 0x4818[0–4095].01–.08 (Table 17-15). -/
def Obj.VOL_OTHER_CMDS : ObjDesc :=
  ⟨0x4818, 3, 0, 4095, .u64, .ro, 0, .any, false, false, false, false, true, false, false⟩
/-- 0x4818[0–4095].01–.08 (Table 17-15). -/
def Obj.VOL_READ_BYTES : ObjDesc :=
  ⟨0x4818, 4, 0, 4095, .u64, .ro, 0, .any, false, false, false, false, true, false, false⟩
/-- 0x4818[0–4095].01–.08 (Table 17-15). -/
def Obj.VOL_WRITE_BYTES : ObjDesc :=
  ⟨0x4818, 5, 0, 4095, .u64, .ro, 0, .any, false, false, false, false, true, false, false⟩
/-- 0x4818[0–4095].01–.08 (Table 17-15). -/
def Obj.VOL_ERRORS : ObjDesc :=
  ⟨0x4818, 6, 0, 4095, .u64, .ro, 0, .any, false, false, false, false, true, false, false⟩
/-- 0x4818[0–4095].01–.08 (Table 17-15). -/
def Obj.VOL_DEGRADED : ObjDesc :=
  ⟨0x4818, 7, 0, 4095, .u64, .ro, 0, .any, false, false, false, false, true, false, false⟩
/-- 0x4818[0–4095].01–.08 (Table 17-15). -/
def Obj.VOL_SERVICE_TIME_SUM : ObjDesc :=
  ⟨0x4818, 8, 0, 4095, .u64, .ro, 0, .any, false, false, false, false, true, false, false⟩
/-- 0x4818[0–4095].09 (Table 17-15). -/
def Obj.VOL_READ_HISTOGRAM : ObjDesc :=
  ⟨0x4818, 9, 0, 4095, .tab, .ro, 0, .any, false, false, false, false, true, false, false⟩
/-- 0x4818[0–4095].0A (Table 17-15). -/
def Obj.VOL_WRITE_HISTOGRAM : ObjDesc :=
  ⟨0x4818, 10, 0, 4095, .tab, .ro, 0, .any, false, false, false, false, true, false, false⟩
/-- 0x4820[0–1025].01 (Table 17-15). -/
def Obj.FN_CMDS : ObjDesc :=
  ⟨0x4820, 1, 0, 1025, .u64, .ro, 0, .any, false, false, false, false, false, false, false⟩
/-- 0x4820[0–1025].02 (Table 17-15). -/
def Obj.FN_READ_BYTES : ObjDesc :=
  ⟨0x4820, 2, 0, 1025, .u64, .ro, 0, .any, false, false, false, false, false, false, false⟩
/-- 0x4820[0–1025].03 (Table 17-15). -/
def Obj.FN_WRITE_BYTES : ObjDesc :=
  ⟨0x4820, 3, 0, 1025, .u64, .ro, 0, .any, false, false, false, false, false, false, false⟩
/-- 0x4820[0–1025].04 (Table 17-15). -/
def Obj.FN_ERRORS : ObjDesc :=
  ⟨0x4820, 4, 0, 1025, .u64, .ro, 0, .any, false, false, false, false, false, false, false⟩
/-- 0x4820[0–1025].05 (Table 17-15). -/
def Obj.FN_SLUICE_WAIT_TIME : ObjDesc :=
  ⟨0x4820, 5, 0, 1025, .u64, .ro, 0, .any, false, false, false, false, false, false, false⟩
/-- 0x4820[0–1025].06 (Table 17-15). -/
def Obj.FN_ADMITTED : ObjDesc :=
  ⟨0x4820, 6, 0, 1025, .u64, .ro, 0, .any, false, false, false, false, false, false, false⟩
/-- 0x4840.01 (Table 17-15). -/
def Obj.DEVICE_COUNTERS : ObjDesc :=
  ⟨0x4840, 1, 0, 0, .tab, .ro, 0, .any, false, false, false, false, false, false, false⟩
/-- 0x4840.02 (Table 17-15). -/
def Obj.DEVICE_COUNTER_NAMES : ObjDesc :=
  ⟨0x4840, 2, 0, 0, .tab, .ro, 0, .any, false, false, false, false, false, false, false⟩
/-- 0x4850.01 (Table 17-15). -/
def Obj.COUNTER_CLEAR : ObjDesc :=
  ⟨0x4850, 1, 0, 0, .u8, .wo, 0, .bits 7, false, false, false, false, false, false, false⟩
/-- 0x4850.02 (Table 17-15). -/
def Obj.COUNTER_CLEARS : ObjDesc :=
  ⟨0x4850, 2, 0, 0, .u32, .ro, 0, .any, false, false, false, false, false, false, false⟩

/-- Part 0 of the object directory, in ascending order. -/
def objTable0 : List ObjDesc :=
  [Obj.VENDOR_NAME, Obj.PART_NAME, Obj.ORDERING_CODE, Obj.SERIAL_NUMBER, Obj.SILICON_STEPPING, Obj.FIRMWARE_VERSION, Obj.FW_COMPAT_LEVEL, Obj.PAIR_SIDE, Obj.OOB_WRITE_ENABLED, Obj.PCI_VENDOR_ID, Obj.PCI_DEVICE_IDS, Obj.HEALTH_SUMMARY, Obj.POOLS_NOT_ONLINE, Obj.MEMBERS_FAILED, Obj.EVENT_SEQ, Obj.UPTIME, Obj.STARTUP_STEP, Obj.DEVICE_LOCKED, Obj.OBJECT_DIRECTORY, Obj.MAX_QUEUE_PAIRS, Obj.MAX_VOLUMES, Obj.MAX_POOLS, Obj.MAX_KEY_SLOTS, Obj.ENGINES_ENABLED, Obj.CONFIG_AREA_STATE, Obj.CONFIG_RECORDS, Obj.FACTORY_DEFAULTS, Obj.I3C_ENABLE, Obj.ETH_ENABLE, Obj.ETH_IPV4_ADDR, Obj.ETH_IPV4_PREFIX, Obj.ETH_IPV4_GATEWAY, Obj.ETH_DHCP, Obj.ETH_MAC_ADDR, Obj.ETH_IPV6_ADDR, Obj.UDP_PORT, Obj.I3C_STATIC_ADDR, Obj.SPDM_REQUESTER_ANCHOR, Obj.SPDM_HEARTBEAT, Obj.SESSION_OPEN]
/-- Part 1 of the object directory, in ascending order. -/
def objTable1 : List ObjDesc :=
  [Obj.SESSION_PRIVILEGE, Obj.NEXT_REQ_SEQ, Obj.LAST_RSP_SEQ, Obj.PS_STATE, Obj.PS_RIDE_THROUGH_WINDOW, Obj.PS_SAG_EVENTS, Obj.PS_TRANSIENTS, Obj.PS_ACFAIL_EVENTS, Obj.PS_LAST_STOP_CAUSE, Obj.PS_LONGEST_RIDE, Obj.P12V_VOLTAGE, Obj.P12V_CURRENT, Obj.P3V3_AUX_VOLTAGE, Obj.MODULE_INPUT_POWER, Obj.RAIL_STATUS, Obj.PLL_MAIN_LOCKED, Obj.PLL_LOCK_LOSSES, Obj.PLL_FALLBACK, Obj.QUADRANT_DIVIDER, Obj.QUADRANT_DIVIDER_IN_EFFECT, Obj.VDD_Q_MEASURED, Obj.QUADRANT_TEMPERATURE, Obj.QUADRANT_POWER, Obj.QUADRANT_THERMAL_STEPS, Obj.QUADRANT_GATED, Obj.THERM_STEP_TEMP, Obj.THERM_ALERT_TEMP, Obj.THERM_DUMP_TEMP, Obj.THERM_TRIP_TEMP, Obj.THERM_GRADIENT_LIMIT, Obj.JUNCTION_TEMP, Obj.JUNCTION_TEMP_PEAK, Obj.THERM_ALERT_ACTIVE, Obj.THERM_TRIPS, Obj.INPUT_LEVELS, Obj.PACK_ENABLE, Obj.PACK_CHEMISTRY, Obj.PACK_VMAX, Obj.PACK_VMIN, Obj.PACK_NOMINAL_CAPACITANCE]
/-- Part 2 of the object directory, in ascending order. -/
def objTable2 : List ObjDesc :=
  [Obj.PACK_NOMINAL_CAPACITY, Obj.PACK_SHUNT, Obj.PACK_TEMP_MIN, Obj.PACK_TEMP_MAX, Obj.PACK_CHARGE_TEMP_MIN, Obj.PACK_CHARGE_TEMP_MAX, Obj.PACK_UNLEARNED_DERATE, Obj.PACK_REST_CURRENT, Obj.PACK_REST_TIME, Obj.PACK_RESET_LEARNING, Obj.PACK_DERATE_TABLE, Obj.PACK_OCV_TABLE, Obj.PACK_STATE, Obj.PACK_FAULT_CAUSE, Obj.PACK_VOLTAGE, Obj.PACK_CURRENT, Obj.PACK_TEMPERATURE, Obj.PACK_SOC, Obj.PACK_CAPACITANCE_LEARNED, Obj.PACK_CAPACITY_LEARNED, Obj.PACK_ENERGY_RAW, Obj.PACK_DERATE_FACTOR, Obj.PACK_RIDE_RESERVE, Obj.PACK_USABLE_ENERGY, Obj.PACK_CHARGING, Obj.PACK_LEARN_REJECTS, Obj.PACK_ESR_INTERVAL, Obj.PACK_TEST_CURRENT, Obj.PACK_ESR_MEASURE_NOW, Obj.PACK_ESR, Obj.PACK_ESR_BASELINE, Obj.PACK_ESR_RATIO, Obj.PACK_ESR_WARN, Obj.PACK_ESR_FAULT, Obj.PACK_CAPACITY_WARN, Obj.PACK_ESR_MEASUREMENTS, Obj.PACK_ESR_DEFERRED, Obj.PACK_ESR_LAST_AGE, Obj.EPOCH_CURRENT, Obj.EPOCH_COMMIT]
/-- Part 3 of the object directory, in ascending order. -/
def objTable3 : List ObjDesc :=
  [Obj.EPOCH_COMMIT_PAIR, Obj.EPOCH_STATE, Obj.EPOCH_RESULT, Obj.EPOCH_TIMEOUT, Obj.EPOCH_LAGGARDS, Obj.EPOCH_DISCARD, Obj.EPOCH_PAIR_CURRENT, Obj.EPOCH_LAST_DURATION, Obj.UNIT_APPLIED_EPOCH, Obj.UNIT_ACK, Obj.EPOCH_STAGED, Obj.PORT_LINK_UP, Obj.PORT_LINK_SPEED, Obj.PORT_LINK_WIDTH, Obj.PORT_FLIT_MODE, Obj.PORT_CLOCK_MODE, Obj.PORT_MAX_SPEED, Obj.PORT_RESETS, Obj.PORT_LINK_DOWNS, Obj.PORT_NUM_VFS, Obj.VF_QP_PAGES, Obj.PORT_CORRECTED_ERRORS, Obj.MMIO_STRADDLES, Obj.FUNC_PRESENT, Obj.FUNC_PORT, Obj.FUNC_DSTATE, Obj.FUNC_BUS_MASTER, Obj.FUNC_IN_RESET, Obj.FUNC_FLRS, Obj.FUNC_HELD_COMPLETIONS, Obj.FUNC_DMA_HALTED, Obj.PCI_CLASS_CODE, Obj.PCI_SUBSYSTEM_VENDOR, Obj.PCI_SUBSYSTEM_ID, Obj.MODULE_IDLE, Obj.MODULE_IDLE_ENTRIES, Obj.PME_SOURCES, Obj.VOLUME_FUNCTION_A, Obj.VOLUME_FUNCTION_B, Obj.GLOBAL_POOL_SIZE]
/-- Part 4 of the object directory, in ascending order. -/
def objTable4 : List ObjDesc :=
  [Obj.GLOBAL_POOL_IN_USE, Obj.ADMIN_POOL_RESERVE, Obj.SLUICE_WAITING, Obj.QPS_ENABLED, Obj.QP_STATE, Obj.QP_FUNCTION, Obj.QP_LOCAL_INDEX, Obj.SR_BASE, Obj.SR_SIZE, Obj.CR_BASE, Obj.CR_SIZE, Obj.SR_SEQ_START, Obj.CR_SEQ_START, Obj.QP_MODE, Obj.QP_POLL_INTERVAL, Obj.QP_POLL_BATCH, Obj.QP_WRR_WEIGHT, Obj.NEXT_SR_SEQ, Obj.LAST_CR_SEQ, Obj.CR_RELEASED_SEQ, Obj.TAGS_OUTSTANDING, Obj.HALT_CAUSE, Obj.QP_HALT, Obj.QP_CREATE_RESULT, Obj.TAG_OUTCOME, Obj.LOST_COMPLETIONS, Obj.PUSH_TAKEN, Obj.PUSH_MISMATCH, Obj.PUSH_STALE, Obj.PUSH_DROPPED, Obj.RING_REFETCHES, Obj.CR_RELEASE_IGNORED, Obj.CR_MSIX_VECTOR, Obj.CR_INT_ENABLE, Obj.CR_COALESCE_COUNT, Obj.CR_COALESCE_TIME, Obj.CR_URGENT_ON_ERROR, Obj.CR_SPLIT_WRITE, Obj.WINDOW_BASE, Obj.WINDOW_LENGTH]
/-- Part 5 of the object directory, in ascending order. -/
def objTable5 : List ObjDesc :=
  [Obj.WINDOW_BASE_1, Obj.WINDOW_LENGTH_1, Obj.WINDOW_BASE_2, Obj.WINDOW_LENGTH_2, Obj.WINDOW_BASE_3, Obj.WINDOW_LENGTH_3, Obj.WINDOW_BASE_4, Obj.WINDOW_LENGTH_4, Obj.WINDOW_BASE_5, Obj.WINDOW_LENGTH_5, Obj.WINDOW_BASE_6, Obj.WINDOW_LENGTH_6, Obj.WINDOW_BASE_7, Obj.WINDOW_LENGTH_7, Obj.WINDOW_BASE_8, Obj.WINDOW_LENGTH_8, Obj.WINDOW_BASE_9, Obj.WINDOW_LENGTH_9, Obj.WINDOW_BASE_10, Obj.WINDOW_LENGTH_10, Obj.WINDOW_BASE_11, Obj.WINDOW_LENGTH_11, Obj.WINDOW_BASE_12, Obj.WINDOW_LENGTH_12, Obj.WINDOW_BASE_13, Obj.WINDOW_LENGTH_13, Obj.WINDOW_BASE_14, Obj.WINDOW_LENGTH_14, Obj.WINDOW_BASE_15, Obj.WINDOW_LENGTH_15, Obj.FUNC_OPS_RATE, Obj.FUNC_OPS_BURST, Obj.FUNC_BYTES_RATE, Obj.FUNC_BYTES_BURST, Obj.FUNC_MAX_INFLIGHT, Obj.FUNC_THROTTLE_WAITS, Obj.VOL_OPS_RATE, Obj.VOL_OPS_BURST, Obj.VOL_BYTES_RATE, Obj.VOL_BYTES_BURST]
/-- Part 6 of the object directory, in ascending order. -/
def objTable6 : List ObjDesc :=
  [Obj.VOL_THROTTLE_WAITS, Obj.DRIVE_GROUP_ENABLE, Obj.DRIVE_GROUP_WIDTH, Obj.DRIVE_CLOCK_MODE, Obj.DRIVE_GROUP_STATE, Obj.DPORT_STATE, Obj.DPORT_MODE, Obj.PORT_RELEASE, Obj.PORT_RELEASE_RESULT, Obj.DPORT_CONTAIN_CAUSE, Obj.DPORT_HELD_COMMANDS, Obj.DRIVE_QUEUE_DEPTH, Obj.DRIVE_IO_TIMEOUT, Obj.DRIVE_ADMIN_TIMEOUT, Obj.DRIVE_RETRY_LIMIT, Obj.DPORT_MAX_SPEED, Obj.DPORT_LINK_SPEED, Obj.DPORT_LINK_WIDTH, Obj.DRIVE_ADMISSION, Obj.DRIVE_NGUID, Obj.DRIVE_NSID, Obj.DRIVE_MEMBER_OF, Obj.DRIVE_MODEL, Obj.DRIVE_SERIAL, Obj.DRIVE_FIRMWARE, Obj.DRIVE_CAPACITY, Obj.DRIVE_KIND, Obj.DRIVE_ZONE_SECTORS, Obj.DRIVE_MAX_ACTIVE, Obj.DRIVE_VOLATILE_CACHE, Obj.DRIVE_LOCATE, Obj.DRIVE_CRITICAL_WARNING, Obj.DRIVE_PERCENT_USED, Obj.DPORT_INFLIGHT, Obj.DPORT_TIMEOUTS, Obj.DPORT_RETRIES, Obj.DPORT_CORRECTED_ERRORS, Obj.SB_CLK_RATE, Obj.HOTPLUG_DEBOUNCE, Obj.DRIVE_HEALTH_POLL]
/-- Part 7 of the object directory, in ascending order. -/
def objTable7 : List ObjDesc :=
  [Obj.DRIVE_INFLIGHT_TOTAL, Obj.DRIVE_GATE_STATE, Obj.DRIVE_GATE_HELD, Obj.DRIVE_GATE_INFLIGHT_AT_CLOSE, Obj.DRIVE_GATE_CLOSES, Obj.RESERVATION_KEY, Obj.HOST_IDENTIFIER, Obj.POOL_STATE, Obj.POOL_CONDITIONS, Obj.POOL_CODE_TABLE, Obj.POOL_K, Obj.POOL_STRIPE_HEIGHT, Obj.POOL_ZONE_SIZE, Obj.POOL_REBUILD_RESERVE, Obj.POOL_OVERPROVISION, Obj.POOL_AUTO_SPARE, Obj.AUTO_ONLINE, Obj.POOL_ACTION, Obj.POOL_ACTION_RESULT, Obj.POOL_UUID, Obj.POOL_SB_GENERATION, Obj.POOL_WIDTH, Obj.POOL_TOLERANCE, Obj.POOL_CAPACITY, Obj.POOL_ALLOCATED, Obj.POOL_LIVE_SECTORS, Obj.POOL_NAME, Obj.POOL_MEMBER_KIND, Obj.MEMBER_PORT, Obj.MEMBER_NSID, Obj.MEMBER_STATE, Obj.MEMBER_NGUID, Obj.MEMBER_ZONES, Obj.MEMBER_ZONES_FREE, Obj.MEMBER_ACTION, Obj.CODE_TABLE_DATA, Obj.CODE_CHECK_START, Obj.CODE_CHECK_STATE, Obj.CODE_CHECK_REASON, Obj.CODE_CHECK_PATTERN]
/-- Part 8 of the object directory, in ascending order. -/
def objTable8 : List ObjDesc :=
  [Obj.CODE_CHECK_DONE, Obj.CODE_CHECK_TOTAL, Obj.CODE_TABLE_USERS, Obj.BUILTIN_TABLE, Obj.REBUILD_STATE, Obj.REBUILD_PRIORITY, Obj.REBUILD_START, Obj.REBUILD_HOST_FLOOR, Obj.REBUILD_SECTORS_TOTAL, Obj.REBUILD_SECTORS_DONE, Obj.REBUILD_AT_RISK_SEGMENTS, Obj.REBUILD_DEAD_COPIES, Obj.REDUCED_SEGMENTS, Obj.REDUCED_MIN_TOLERANCE, Obj.MEMBER_MEDIA_ERROR_LIMIT, Obj.MEMBER_MEDIA_ERROR_WINDOW, Obj.MEMBER_FAIL_CAUSE, Obj.MEMBER_MEDIA_ERRORS, Obj.MEMBER_ACTION_RESULT, Obj.RESHAPE_TARGET_TABLE, Obj.RESHAPE_TARGET_K, Obj.RESHAPE_KIND, Obj.RESHAPE_CURSOR, Obj.RESHAPE_SEGMENTS_LEFT, Obj.RESHAPE_RESULT, Obj.RESHAPE_RATE_LIMIT, Obj.REBALANCE_TOLERANCE, Obj.LOST_SECTORS, Obj.LOST_STRIPES, Obj.LOST_LIST, Obj.LOST_LIST_TRUNCATED, Obj.DEGRADED_READS, Obj.INTEGRITY_GUARD_FAILS, Obj.INTEGRITY_ADDRESS_FAILS, Obj.INTEGRITY_REPAIRED, Obj.INTEGRITY_UNRECOVERED, Obj.VOLUME_STATE, Obj.VOLUME_POOL, Obj.VOLUME_CAPACITY, Obj.VOLUME_GRAIN]
/-- Part 9 of the object directory, in ascending order. -/
def objTable9 : List ObjDesc :=
  [Obj.VOLUME_KEY_SLOT, Obj.VOLUME_TAGGED, Obj.VOLUME_ACTION, Obj.VOLUME_ACTION_RESULT, Obj.VOLUME_USED, Obj.VOLUME_NAME, Obj.PLACE_HOST_LANES, Obj.PLACE_DREDGE_LANES, Obj.STRIPE_AGE_LIMIT, Obj.OPEN_STRIPES, Obj.OPEN_SEGMENTS, Obj.SHORT_STRIPES, Obj.SEGMENT_SLOTS_USED, Obj.LANES_WAITING, Obj.MAP_RECOVERY_WINDOW, Obj.MAP_CHECKPOINT_NUMBER, Obj.MAP_CUT_STRIPE_ID, Obj.MAP_REPLAY_BYTES, Obj.MAP_DIRTY_LEAVES, Obj.MAP_LEAF_MISSES, Obj.MAP_CHECKPOINT_NOW, Obj.MAP_WRITE_HOLDS, Obj.ATOMIC_UNRECORDED, Obj.MAP_LAST_RECOVERY, Obj.MAP_DIR_BYTES, Obj.MAP_DIR_LIMIT, Obj.MAP_LEAVES_RESIDENT, Obj.MAP_LEAVES_DIRTY_PCT, Obj.DREDGE_ENABLE, Obj.DREDGE_START, Obj.DREDGE_FLOOR, Obj.DREDGE_RATE_LIMIT, Obj.DREDGE_STATE, Obj.FREE_ZONE_PERCENT, Obj.DREDGE_SEGMENTS_FREED, Obj.DREDGE_SECTORS_COPIED, Obj.DREDGE_DEAD_COPIES, Obj.DREDGE_REKEY_PENDING, Obj.DREDGE_PACING, Obj.PATROL_ENABLE]
/-- Part 10 of the object directory, in ascending order. -/
def objTable10 : List ObjDesc :=
  [Obj.PATROL_PERIOD, Obj.PATROL_RATE_LIMIT, Obj.PATROL_STATE, Obj.PATROL_PROGRESS, Obj.PATROL_PASSES, Obj.PATROL_LAST_PASS_SECONDS, Obj.PATROL_STRIPES_CHECKED, Obj.PATROL_PARITY_MISMATCH, Obj.PATROL_REPAIRED, Obj.PATROL_RESTART, Obj.CACHE_WAYS_ENABLED, Obj.CACHE_FRAME_WAYS, Obj.CACHE_LOCK_WAYS_MAX, Obj.CACHE_PREFETCH, Obj.CACHE_STREAM_THRESHOLD, Obj.CACHE_WAY_CE_LIMIT, Obj.CACHE_FRAMES_TOTAL, Obj.CACHE_FRAMES_LOCKED, Obj.SLICE_STATE, Obj.SLICE_WAYS_USABLE, Obj.SLICE_WAYS_DISABLED, Obj.SLICE_FRAME_WAYS, Obj.SLICE_WAY_REENABLE, Obj.SLICE_HITS, Obj.SLICE_MISSES, Obj.SLICE_STREAM_FILLS, Obj.SLICE_PREFETCHES, Obj.SLICE_PREFETCH_USED, Obj.SLICE_DIRTY_LINES, Obj.SLICE_CE, Obj.SLICE_UE, Obj.CACHE_MAINT_OP, Obj.CACHE_MAINT_VOLUME, Obj.CACHE_MAINT_SLBA, Obj.CACHE_MAINT_NLB, Obj.CACHE_MAINT_BUSY, Obj.CACHE_MAINT_RUNNING, Obj.CACHE_MAINT_RESULT, Obj.CACHE_MAINT_PROGRESS, Obj.LOCK_VOLUME]
/-- Part 11 of the object directory, in ascending order. -/
def objTable11 : List ObjDesc :=
  [Obj.LOCK_SLBA, Obj.LOCK_NLB, Obj.LOCK_ACTION, Obj.LOCK_STATE, Obj.LOCK_SECTORS_HELD, Obj.LOCK_SECTORS_SKIPPED, Obj.FLUME_ENTRIES, Obj.FLUME_LOOKUPS, Obj.FLUME_PUSH_HITS, Obj.HBM_STACK_STATE, Obj.HBM_STACK_CAPACITY, Obj.HBM_TEMPERATURE, Obj.HBM_REFRESH_MODE, Obj.HBM_CE, Obj.HBM_UE, Obj.HBM_ROWS_REPAIRED, Obj.HBM_BYTES_READ, Obj.HBM_BYTES_WRITTEN, Obj.HBM_PROTECTED_SIZE, Obj.HBM_MAP_CACHE_SIZE, Obj.HBM_READ_CACHE_SIZE, Obj.HBM_SYSTEM_SIZE, Obj.OWN_DIRTY_BYTES, Obj.OWN_PARITY_BYTES, Obj.MIRROR_HELD_BYTES, Obj.MIRROR_RESERVE, Obj.MIRROR_RESERVE_IN_EFFECT, Obj.PARTNER_RESERVE_IN_EFFECT, Obj.WEIR_LIMIT, Obj.WEIR_CURRENT, Obj.WEIR_ENERGY_BYTES, Obj.WEIR_BINDING, Obj.WEIR_MARGIN, Obj.DUMP_POWER, Obj.DUMP_T_FIXED, Obj.WEIR_ENERGY_INPUT, Obj.WEIR_FORCE_WRITE_THROUGH, Obj.WRITE_THROUGH, Obj.WEIR_WAITS, Obj.ILOG_STATE]
/-- Part 12 of the object directory, in ascending order. -/
def objTable12 : List ObjDesc :=
  [Obj.ILOG_RING_FREE, Obj.ILOG_LIFE_USED, Obj.ILOG_RETIRED_WORDS, Obj.ILOG_RECORDS_WRITTEN, Obj.ILOG_PRESSURE_HOLDS, Obj.ILOG_ECC_CORRECTED, Obj.CISTERN_STATE, Obj.CISTERN_DIES_USABLE, Obj.CISTERN_DUMP_RATE, Obj.CISTERN_ERASED_BYTES, Obj.CISTERN_IMAGE_HELD, Obj.CISTERN_LEAF_TAIL_MAX, Obj.CISTERN_DUMPS, Obj.CISTERN_LAST_DUMP_MS, Obj.CISTERN_LAST_DUMP_BYTES, Obj.CISTERN_RESTORE_RESULT, Obj.CISTERN_SLOTS_LOST, Obj.CISTERN_RESTORE_LOSS_ACK, Obj.RESYNC_STRIPES_TOTAL, Obj.RESYNC_STRIPES_DONE, Obj.RESYNC_REPAIRED, Obj.RESYNC_RATE_SHARE, Obj.RESTORED_PENDING_BYTES, Obj.HBM_PARTIAL_CORRECTED, Obj.HBM_POISON_WRITES, Obj.SRAM_PARTIAL_CORRECTED, Obj.SRAM_POISON_WRITES, Obj.DIRTY_POISON_FROM_MIRROR, Obj.DIRTY_POISON_BAD_DATA, Obj.CIPHER_POLICY, Obj.KEY_PERSIST, Obj.KEY_USAGE_WARN, Obj.KEY_SLOTS_IN_USE, Obj.PIPE_STATE, Obj.PIPE_FAULTS, Obj.PIPE_CLEAR, Obj.PIPE_SERVED_BY, Obj.PIPE_BYTES, Obj.KEY_STATE, Obj.KEY_GEN_CURRENT]
/-- Part 13 of the object directory, in ascending order. -/
def objTable13 : List ObjDesc :=
  [Obj.KEY_GEN_PREVIOUS, Obj.KEY_KCV_XTS_CURRENT, Obj.KEY_KCV_GMAC_CURRENT, Obj.KEY_KCV_XTS_PREVIOUS, Obj.KEY_KCV_GMAC_PREVIOUS, Obj.KEY_PRESENT, Obj.KEY_USAGE_CURRENT, Obj.KEY_USAGE_LIMIT, Obj.KEY_PREV_SECTORS, Obj.KEY_VOLUMES, Obj.KEY_LOAD_RESULT, Obj.KEY_LOAD_COUNT, Obj.KEY_LOAD_SLOT, Obj.KEY_WINDOW_DROPPED, Obj.VOLUME_LOCK_CAUSE, Obj.TAG_FAILS, Obj.PAIR_ENABLE, Obj.PAIR_STATE, Obj.PAIR_PEER_SERIAL, Obj.PAIR_PEER_COMPAT_LEVEL, Obj.PAIR_ALIVE_PRESENT, Obj.PAIR_ALIVE_TIMEOUT, Obj.PAIR_HEARTBEAT_TIMEOUT, Obj.PAIR_CULVERT_DOWN_POLICY, Obj.PAIR_FENCE_STATE, Obj.PAIR_TAKEOVER, Obj.PAIR_TAKEOVER_STEP, Obj.PAIR_TAKEOVER_CAUSE, Obj.PAIR_LAST_TAKEOVER_MS, Obj.PAIR_FAULT_THRESHOLD, Obj.PAIR_FAULT_WINDOW, Obj.PAIR_FAULTS_A, Obj.PAIR_FAULTS_B, Obj.PAIR_FAULT_CLEAR, Obj.PAIR_CONTESTED, Obj.PAIR_POOL_ROLE, Obj.PAIR_POOL_MIRROR, Obj.PAIR_POOL_COMPARED, Obj.PAIR_POOL_UNMIRRORED, Obj.PAIR_POOL_HANDOVER]
/-- Part 14 of the object directory, in ascending order. -/
def objTable14 : List ObjDesc :=
  [Obj.PAIR_HANDOVER_RESULT, Obj.PAIR_CATCHUP_BYTES, Obj.PAIR_DIGESTS_COMPARED, Obj.PAIR_DIGEST_MISMATCHES, Obj.CULVERT_STATE, Obj.CULVERT_BUNDLES_UP, Obj.CULVERT_DOWN_TIMEOUT, Obj.CULVERT_TX_FLITS, Obj.CULVERT_CRC_ERRORS, Obj.CULVERT_REPLAYS, Obj.CULVERT_CREDIT_WAITS, Obj.CULVERT_UNACKED_PEAK, Obj.CULVERT_DOWNS, Obj.MIRROR_RESENDS, Obj.BUNDLE_STATE, Obj.BUNDLE_RETRAINS, Obj.EVENTS_CREATED, Obj.EVENTS_COALESCED, Obj.EVENT_WINDOWS_OPEN, Obj.PATH_STORM_QUIET, Obj.EVENT_CATALOGUE, Obj.PATH_MIN_SEVERITY, Obj.PATH_RATE, Obj.PATH_BURST, Obj.PATH_SHEDDING, Obj.PATH_DELIVERED, Obj.PATH_SHED_WARN, Obj.PATH_SHED_INFO, Obj.PATH_SHED_TRACE, Obj.PATH_STORMS, Obj.PATH_OVERRUNS, Obj.EVENT_RING_BASE, Obj.EVENT_RING_SIZE, Obj.EVENT_RING_ENABLE, Obj.EVENT_RING_MSIX, Obj.EVENT_RING_COALESCE_COUNT, Obj.EVENT_RING_COALESCE_TIME, Obj.EVENT_RING_NEXT_DELIVERY, Obj.EVENT_SUB_FETCH, Obj.EVENT_SUB_QUEUED]
/-- Part 15 of the object directory, in ascending order. -/
def objTable15 : List ObjDesc :=
  [Obj.EVENT_STORE_FROM, Obj.EVENT_STORE_READ, Obj.ALARM_STORE_FROM, Obj.ALARM_STORE_READ, Obj.EVENT_STORE_OLDEST, Obj.EVENT_STORE_COUNT, Obj.ALARM_STORE_OLDEST, Obj.ALARM_STORE_COUNT, Obj.LEVEL0_TENANT_ACCESS, Obj.QP_READ_CMDS, Obj.QP_WRITE_CMDS, Obj.QP_OTHER_CMDS, Obj.QP_READ_BYTES, Obj.QP_WRITE_BYTES, Obj.QP_ERRORS, Obj.QP_DEGRADED, Obj.QP_SERVICE_TIME_SUM, Obj.QP_READ_HISTOGRAM, Obj.QP_WRITE_HISTOGRAM, Obj.VOL_READ_CMDS, Obj.VOL_WRITE_CMDS, Obj.VOL_OTHER_CMDS, Obj.VOL_READ_BYTES, Obj.VOL_WRITE_BYTES, Obj.VOL_ERRORS, Obj.VOL_DEGRADED, Obj.VOL_SERVICE_TIME_SUM, Obj.VOL_READ_HISTOGRAM, Obj.VOL_WRITE_HISTOGRAM, Obj.FN_CMDS, Obj.FN_READ_BYTES, Obj.FN_WRITE_BYTES, Obj.FN_ERRORS, Obj.FN_SLUICE_WAIT_TIME, Obj.FN_ADMITTED, Obj.DEVICE_COUNTERS, Obj.DEVICE_COUNTER_NAMES, Obj.COUNTER_CLEAR, Obj.COUNTER_CLEARS, Obj.BOOT_COUNT]
/-- Part 16 of the object directory, in ascending order. -/
def objTable16 : List ObjDesc :=
  [Obj.BOOT_LAST_RESET_KIND, Obj.BOOT_LAST_STOP, Obj.STARTUP_FAULT, Obj.STARTUP_TIMES, Obj.DEVICE_RESET, Obj.WATCHDOG_TIMEOUT, Obj.START_MEMBER_WAIT, Obj.BOOT_SLOT_PREFERRED, Obj.BOOT_SLOT_RUNNING, Obj.BOOT_FALLBACK, Obj.FW_SVN_FLOOR, Obj.FW_SVN_COMMIT, Obj.FW_UPDATE_SLOT, Obj.FW_SLOT_STATE, Obj.FW_SLOT_VERSION, Obj.FW_SLOT_COMPAT_LEVEL, Obj.FW_SLOT_SVN, Obj.FW_SLOT_ERASE, Obj.FW_SLOT_VERIFY, Obj.FW_SLOT_RESULT, Obj.FW_SLOT_DATA, Obj.BIST_ENGINES_FAILED, Obj.BIST_CLUSTERS_DISABLED, Obj.BIST_SUMMARY, Obj.TEST_OP, Obj.TEST_TARGET, Obj.TEST_PATTERN, Obj.TEST_DURATION, Obj.TEST_STATE, Obj.TEST_BITS, Obj.TEST_ERRORS, Obj.TEST_LANE_ERRORS, Obj.TEST_STOP, Obj.JTAG_IDCODE, Obj.TAMPER_LATCH, Obj.TAMPER_INPUTS, Obj.TAMPER_CLEAR, Obj.TAMPER_EVENTS, Obj.TAMPER_LAST_PHASE, Obj.TAMPER_ENCLOSURE_ENABLE]
/-- Part 17 of the object directory, in ascending order. -/
def objTable17 : List ObjDesc :=
  [Obj.LOCKED_BOOT, Obj.ZERO_BYTES, Obj.ZERO_ALLOC_WAITS, Obj.ZERO_RESERVE_PCT]
/-- Every object the firmware implements (R89). -/
def objTable : List ObjDesc :=
  objTable0 ++ objTable1 ++ objTable2 ++ objTable3 ++ objTable4 ++ objTable5 ++ objTable6 ++ objTable7 ++ objTable8 ++ objTable9 ++ objTable10 ++ objTable11 ++ objTable12 ++ objTable13 ++ objTable14 ++ objTable15 ++ objTable16 ++ objTable17

end Sys2Proof.Machine
end

