-- ==== Sys2Proof/Machine/Ops.lean ====
section
/-! DEFINITION. The named operations over the state: reading and writing dictionary registers, counters, outputs and free values. -/

namespace Sys2Proof.Machine

/-! ## Dictionary registers -/

/-- The key of an object: instance, index and sub-index (R14). The instance stands on top, so that keys of different objects differ whatever the instance. -/
def objKey (index inst sub : Nat) : Nat :=
  (inst * 65536 + index) * 256 + sub

/-- Index, instance and sub-index of a key. -/
def keyIndex (k : Nat) : Nat :=
  k / 256 % 65536

def keyInst (k : Nat) : Nat :=
  k / 16777216

def keySub (k : Nat) : Nat :=
  k % 256

/-- The key of an instance of an object. -/
def ObjDesc.key (o : ObjDesc) (i : Nat) : Nat :=
  objKey o.index i o.sub

/-- SERIAL_NUMBER: 16 characters. -/
def serialNumber : Bytes :=
  padTo 16 (Config.serialNumber.take 16)

/-- The reservation key of a side of this module (R379). -/
def reservationKeyOf (side : Nat) : Nat :=
  0x9640 * 2 ^ 48 + side % 256 * 2 ^ 40 + crc64 serialNumber % 2 ^ 40

/-- The default derating table (Table 14-3): a temperature in °C and four factors a row. -/
def defaultDerate : Bytes :=
  [(65516, 600, 560, 480, 350), (65526, 740, 700, 640, 520), (0, 840, 820, 790, 720), (10, 900, 890, 870, 830), (25, 960, 950, 940, 910), (40, 950, 940, 930, 900),
   (55, 920, 910, 900, 870), (65, 880, 870, 860, 830)].flatMap (fun (t, a, b, c, d) => leBytes 2 t ++ leBytes 2 a ++ leBytes 2 b ++ leBytes 2 c ++ leBytes 2 d)

/-- What a STR, BLOB or TAB object reads before anything is written. -/
def dfltBytes (o : ObjDesc) (i : Nat) : Bytes :=
  if o.index = 0x1000 ∧ o.sub = 0x01 then ascii [0x50, 0x65, 0x6C, 0x7A, 0x61, 0x6E, 0x74, 0x6F]
  else if o.index = 0x1000 ∧ o.sub = 0x02 then ascii [0x4E, 0x52, 0x42, 0x2D, 0x39, 0x36, 0x34, 0x30]
  else if o.index = 0x1000 ∧ o.sub = 0x03 then Config.orderingCode
  else if o.index = 0x1000 ∧ o.sub = 0x04 then serialNumber
  else if o.index = 0x1000 ∧ o.sub = 0x05 then Config.siliconStepping
  else if o.index = 0x2420 ∧ o.sub = 0x0A then serialNumber
  else if o.index = 0x1100 ∧ o.sub = 0x07 then padTo 6 (Config.ethMac.take 6)
  else if o.index = 0x1910 ∧ o.sub = 0x01 then defaultDerate
  else if o.index = 0x2830 then ((builtin i 48).getD codeM3).bytes
  else []

/-- What an object reads before anything is written: its Default column, with the defaults that depend on the instance (Tables 07-16, 09-8, 12-9 and 17-5). -/
def dfltAt (o : ObjDesc) (i : Nat) : Int :=
  if o.index = 0x2110 ∧ o.sub = 0x0A ∧ i < 2 then 1
  else if o.index = 0x2110 ∧ o.sub = 0x02 ∧ i < 2 then i
  else if o.index = 0x2010 ∧ o.sub = 0x02 then (if i = 1 ∨ i ≥ 514 then 1 else 0)
  else if o.index = 0x3010 ∧ o.sub = 0x04 then i
  else if o.index = 0x4010 ∧ o.sub = 0x01 then
    (if i = 0 then 1 else if i = 1 then 4 else if i ≤ 3 then 2 else 0xFF)
  else if o.index = 0x4010 ∧ o.sub = 0x02 then
    (if i ≤ 1 then 1000000 else if i ≤ 3 then 100000 else 1000)
  else if o.index = 0x4010 ∧ o.sub = 0x03 then
    (if i ≤ 1 then 65536 else if i ≤ 3 then 4096 else 256)
  else if o.index = 0x2020 ∧ o.sub = 0x02 then Config.pciVendorId
  else if o.index = 0x1000 ∧ o.sub = 0x0A then Config.pciVendorId
  else if o.index = 0x5040 ∧ o.sub = 0x01 then Config.jtagIdcode
  else if o.index = 0x1000 ∧ o.sub = 0x08 then Config.pairSide
  else if o.index = 0x1000 ∧ o.sub = 0x07 then Config.fwCompatLevel
  else if o.index = 0x5010 ∧ o.sub = 0x04 then Config.svnFuses
  else if o.index = 0x2420 ∧ o.sub = 0x09 then reservationKeyOf Config.pairSide
  else o.dflt

/-- Read a numeric object. -/
def rd (s : State) (o : ObjDesc) (i : Nat) : Int :=
  (Tbl.get s.dict.regs (o.key i)).getD (dfltAt o i)

/-- Read a numeric object as a natural number. -/
def rdN (s : State) (o : ObjDesc) (i : Nat) : Nat :=
  (rd s o i).toNat

/-- Read a BOOL object. -/
def rdB (s : State) (o : ObjDesc) (i : Nat) : Bool :=
  rd s o i != 0

/-- Write a numeric object. -/
def wr (s : State) (o : ObjDesc) (i : Nat) (v : Int) : State :=
  { s with dict := { s.dict with regs := Tbl.put s.dict.regs (dfltAt o i) (o.key i) v } }

/-- Write a BOOL object. -/
def wrB (s : State) (o : ObjDesc) (i : Nat) (b : Bool) : State :=
  wr s o i (if b then 1 else 0)

/-- Read the bytes of a STR, BLOB or TAB object. -/
def rdBytes (s : State) (o : ObjDesc) (i : Nat) : Bytes :=
  (Tbl.get s.dict.blobs (o.key i)).getD (dfltBytes o i)

/-- Write the bytes of a STR, BLOB or TAB object. -/
def wrBytes (s : State) (o : ObjDesc) (i : Nat) (b : Bytes) : State :=
  { s with dict := { s.dict with blobs := Tbl.put s.dict.blobs (dfltBytes o i) (o.key i) b } }

/-- Raise a count held in an object, modulo 2^64. -/
def bump (s : State) (o : ObjDesc) (i n : Nat) : State :=
  wr s o i ((rdN s o i + n) % 2 ^ 64 : Nat)

/-- Lower a count held in an object, stopping at zero. -/
def drop (s : State) (o : ObjDesc) (i n : Nat) : State :=
  wr s o i ((rdN s o i - n : Nat) : Int)

/-- Return an object to its default. -/
def clr (s : State) (o : ObjDesc) (i : Nat) : State :=
  wr s o i (dfltAt o i)

/-- Several objects of an instance read their defaults again. -/
def clrAll (s : State) (l : List ObjDesc) (i : Nat) : State :=
  l.foldl (fun t o => clr t o i) s

/-- The same for STR, BLOB and TAB objects. -/
def clrBytesAll (s : State) (l : List ObjDesc) (i : Nat) : State :=
  l.foldl (fun t o => wrBytes t o i (dfltBytes o i)) s

/-! ## Performance counters (R594) -/

/-- Add to a counter word: VALUE modulo 2^48, with OVERFLOW sticky at bit 63. -/
def ctrAdd (w n : Nat) : Nat :=
  let v := w % 2 ^ 48 + n
  v % 2 ^ 48 + (if v ≥ 2 ^ 48 ∨ w ≥ 2 ^ 63 then 2 ^ 63 else 0)

/-- Add to a counter held in an object. -/
def count (s : State) (o : ObjDesc) (i n : Nat) : State :=
  wr s o i (ctrAdd (rdN s o i) n : Nat)

/-! First indices of the level-2 counters that are counted here (Table 17-9). -/

def Dc.stripesCommitted : Nat := 64
def Dc.portCommands : Nat := 128
def Dc.portRead : Nat := 192
def Dc.portWritten : Nat := 256
def Dc.portWait : Nat := 320
def Dc.frameHits : Nat := 384
def Dc.frameMisses : Nat := 388
def Dc.aesBytes : Nat := 404
def Dc.sluiceWaits : Nat := 408
def Dc.sluiceTime : Nat := 416
def Dc.culvertFlits : Nat := 424
def Dc.creditWait : Nat := 427
def Dc.placements : Nat := 428
def Dc.resolutions : Nat := 432
def Dc.toHost : Nat := 436
def Dc.fromHost : Nat := 438
def Dc.records : Nat := 440

/-- Counters of engine and memory cycles and of HBM traffic: CLUSTER_BUSY, HBM_BYTES_READ, HBM_BYTES_WRITTEN and HBM_BANK_CONFLICT_STALLS. No command carries them, and they read free values. -/
def freeCounter (i : Nat) : Bool :=
  decide (i < 64) || decide (392 ≤ i ∧ i < 404)

/-- Add to level-2 counter `i` (Table 17-9). -/
def countDev (s : State) (i n : Nat) : State :=
  { s with ev := { s.ev with device := Tbl.put s.ev.device 0 i (ctrAdd (Tbl.getD s.ev.device i 0) n) } }

/-- Add to bin `b` of the histogram with object key `k` (R597). -/
def countHist (s : State) (k b : Nat) : State :=
  let i := k * 32 + b
  { s with ev := { s.ev with hist := Tbl.put s.ev.hist 0 i (ctrAdd (Tbl.getD s.ev.hist i 0) 1) } }

/-! ## Outputs and free values -/

/-- Record something the block drives. -/
def emit (s : State) (o : Out) : State :=
  { s with out := s.out ++ [o] }

/-- The next free value's index; the counter advances. -/
def takeFree (s : State) : State :=
  { s with freeCtr := s.freeCtr + 1 }

/-- A number for each output pin, the key under which its level is held. -/
def Pin.num : Pin → Nat
  | .wake => 0
  | .thermAlert => 1
  | .pairAlive => 2
  | .fenceReq => 3
  | .fenceAck => 4
  | .packCharge => 5
  | .packTest => 6
  | .powerGood => 7
  | .drivePerst p => 100 + p
  | .driveClock g => 200 + g
  | .faultLed p => 300 + p
  | .locateLed p => 400 + p

/-- Drive an output pin. -/
def drive (s : State) (p : Pin) (level : Bool) : State :=
  emit { s with pins := Tbl.set s.pins p.num (if level then 1 else 0) } (.pin p level)

/-- One microsecond passes. -/
def tick (s : State) : State :=
  { s with now := s.now + 1 }

/-- Apply `f` to the state once for each number below `n`, in rising order. -/
def forRange (n : Nat) (f : Nat → State → State) (s : State) : State :=
  (List.range n).foldl (fun t i => f i t) s

/-- Apply `f` for each element of a list, in order. -/
def forEach {α : Type} (l : List α) (f : α → State → State) (s : State) : State :=
  l.foldl (fun t x => f x t) s

end Sys2Proof.Machine
end

