-- ==== Sys2Proof/Machine/Msix.lean ====
section
/-! DEFINITION. Host memory requests and messages of a function: posted writes, MSI-X (R351), PME (R368). -/

namespace Sys2Proof.Machine

/-- A function's configuration-space bits at their reset values. -/
def Fn.default : Fn :=
  { mse := false, pmeEn := false, pmeStatus := false, msixEn := false, fnMask := false, unmasked := [], table := [], pend := [] }

/-- The function of an index. -/
def fnOf (s : State) (f : Nat) : Fn :=
  Tbl.getD s.host.fns f Fn.default

/-- Change a function. -/
def modFn (s : State) (f : Nat) (g : Fn → Fn) : State :=
  { s with host := { s.host with fns := Tbl.set s.host.fns f (g (fnOf s f)) } }

/-- The host port of a function index (R343). -/
def fnPort (f : Nat) : Nat :=
  if f = 1 ∨ f ≥ 514 then 1 else 0

/-- The physical functions are indices 0 and 1. -/
def isPf (f : Nat) : Bool :=
  decide (f < 2)

/-- The function may issue memory requests: Bus Master Enable set, in D0 and not in reset (R356, R360, R364). -/
def canMaster (s : State) (f : Nat) : Bool :=
  rdB s Obj.FUNC_BUS_MASTER f && (rdN s Obj.FUNC_DSTATE f == 0) && !rdB s Obj.FUNC_IN_RESET f

/-- A vector can be sent (R351). -/
def vectorOpen (s : State) (f v : Nat) : Bool :=
  (fnOf s f).msixEn && !(fnOf s f).fnMask && (fnOf s f).unmasked.contains v && canMaster s f

/-- The message of a vector, as its table entry gives it. -/
def emitMsix (s : State) (f v : Nat) : State :=
  let t := (fnOf s f).table
  emit s (.msix f v (Tbl.getD t (4 * v) 0 + 2 ^ 32 * Tbl.getD t (4 * v + 1) 0) (Tbl.getD t (4 * v + 2) 0))

/-- Send a vector, or set its Pending bit while it cannot be sent (R351). -/
def sendMsix (s : State) (f v : Nat) : State :=
  if vectorOpen s f v then emitMsix s f v else modFn s f (fun x => { x with pend := addOnce x.pend v })

/-- Send, once each, the pending vectors of a function that can now be sent (R351). -/
def flushMsix (s : State) (f : Nat) : State :=
  let go := (fnOf s f).pend.filter (fun v => vectorOpen s f v)
  forEach go (fun v t => emitMsix t f v)
    (modFn s f (fun x => { x with pend := x.pend.filter (fun v => !go.contains v) }))

/-- Number of MSI-X vectors of a function (R351). -/
def vectorCount (f : Nat) : Nat :=
  if isPf f then 2048 else 64

/-- A PF whose PME_En is set signals PME for the causes selected in PME_SOURCES; bit `b` is the cause's bit (R368). -/
def signalPme (s : State) (b : Nat) : State :=
  if bitAt (rdN s Obj.PME_SOURCES 0) b then
    forEach [0, 1] (fun f t =>
      if (fnOf t f).pmeEn then
        let u := modFn t f (fun x => { x with pmeStatus := true })
        if rdN t Obj.FUNC_DSTATE f = 3 then emit u (.pme f) else u
      else t) s
  else s

/-- The device leaves module idle (R366). Clusters that were gated are enabled again and apply the epoch in force (R47). -/
def leaveIdle (s : State) : State :=
  if rdB s Obj.MODULE_IDLE 0 then
    forRange 64 (fun u t => if bitAt (rdN t Obj.BIST_CLUSTERS_DISABLED 0) u then t else wr t Obj.UNIT_APPLIED_EPOCH u (rd t Obj.EPOCH_CURRENT 0)) (wrB s Obj.MODULE_IDLE 0 false)
  else s

end Sys2Proof.Machine
end

