-- ==== Sys2Proof/Machine/Events.lean ====
section
/-! DEFINITION. Events: coalescing, the event sequence, paths with their filters and buckets, rings, subscriptions and stores (R577 to R593), and counters (R594 to R598). -/

namespace Sys2Proof.Machine

/-- SEVERITY (Table 17-1). -/
def sevNum : Sev → Nat
  | .alarm => 0
  | .error => 1
  | .warn => 2
  | .info => 3
  | .trace => 4

/-- CODE: the chapter in the high byte (R578); the low byte is fixed by the spec only for PRIVILEGE_REFUSED (R18) and STORM_SUMMARY (R584) and is otherwise the firmware's catalogue. -/
def eventCode (e : EvId) : Nat :=
  if e.chapter = 0 ∧ e.rule = 18 then 0x0001
  else if e.chapter = 0x10 ∧ e.rule = 584 then 0x1001
  else e.chapter * 256 + (Config.eventCodeLow e.rule e.nth).toNat

/-- Word 0 of a record (Table 17-1). -/
def evWord0 (r : EvRec) (valid : Bool) : Nat :=
  b2n valid * 2 ^ 63 + sevNum r.sev * 2 ^ 60 + b2n r.coalesced * 2 ^ 59 + r.bootTag % 2048 * 2 ^ 48 + r.seq % 2 ^ 48

/-- Bytes 8 to 31 of a record (Table 17-2). -/
def evTail (r : EvRec) (delivery : Nat) : Bytes :=
  leBytes 6 r.ts ++ leBytes 2 (eventCode r.key.id) ++ leBytes 1 r.key.kind ++ leBytes 1 (sat 255 r.shed) ++
    leBytes 2 r.key.inst ++ leBytes 2 (sat 65535 r.count) ++ leBytes 2 delivery ++ leBytes 8 r.detail

/-- The 32 bytes of a record outside PF event rings. -/
def evBytes (r : EvRec) : Bytes :=
  leBytes 8 (evWord0 r true) ++ evTail r 0

/-- Microseconds since the last power-on reset, the origin of UPTIME and TIMESTAMP. -/
def uptime (s : State) : Nat :=
  s.now - s.bootAt

/-- A setting of a path: its default until start-up step 5 has replayed the configuration area (R593). -/
def pathSetting (s : State) (o : ObjDesc) (p : Nat) : Int :=
  if rdN s Obj.STARTUP_STEP 0 < 6 then dfltAt o p else rd s o p

/-- A path that has carried nothing: its bucket is full (R593). -/
def freshPath (s : State) (p : Nat) : EvPath :=
  { bucket := { level := pathSetting s Obj.PATH_BURST p * 1000000, last := s.now }, shedSince := 0, stormFrom := 0, stormLast := 0, epWarn := 0, epInfo := 0, epTrace := 0 }

/-- A path as it stands. -/
def pathOf (s : State) (p : Nat) : EvPath :=
  Tbl.getD s.ev.paths p (freshPath s p)

/-- Change a path. -/
def modPath (s : State) (p : Nat) (f : EvPath → EvPath) : State :=
  { s with ev := { s.ev with paths := Tbl.set s.ev.paths p (f (pathOf s p)) } }

/-- A bucket's level brought up to `now` at `rate` tokens per second, never above `burst` tokens. -/
def refill (b : Bucket) (rate burst : Int) (now : Nat) : Int :=
  min (burst * 1000000) (b.level + rate * ((now - b.last : Nat) : Int))

/-- Whether a path's bucket at this level admits the severity (R582). -/
def bucketAdmits (sev : Sev) (level burst : Int) : Bool :=
  match sev with
  | .alarm => true
  | .error => true
  | .warn => decide (level ≥ 1000000)
  | .info => decide (2 * level ≥ burst * 1000000)
  | .trace => decide (4 * level ≥ 3 * burst * 1000000)

/-- Whether a path's filter admits the severity; paths 0 and 1 never exclude ALARM or ERROR (R583). -/
def filterAdmits (s : State) (p : Nat) (sev : Sev) : Bool :=
  if p = 0 then decide (sevNum sev ≤ 1)
  else if rdN s Obj.PATH_MIN_SEVERITY p = 0xFF then (p == 1 && decide (sevNum sev ≤ 1))
  else decide (sevNum sev ≤ rdN s Obj.PATH_MIN_SEVERITY p) || (p == 1 && decide (sevNum sev ≤ 1))

/-- The event ring of PF `f` takes deliveries: enabled and not suspended (R588). -/
def ringLive (s : State) (f : Nat) : Bool :=
  rdB s Obj.EVENT_RING_ENABLE f && canMaster s f

/-- Write a record to a ring slot in three posted writes and signal under R589 (R585, R586). -/
def ringDeliver (s : State) (f : Nat) (r : EvRec) : State :=
  let g := Tbl.getD s.ev.rings f { deliveries := 0, unsignalled := 0, firstAt := 0 }
  let a := rdN s Obj.EVENT_RING_BASE f + 32 * (g.deliveries % rdN s Obj.EVENT_RING_SIZE f)
  let w := emit (emit (emit s (.hostWrite f a (leBytes 8 (evWord0 r false))))
    (.hostWrite f (a + 8) (evTail r (g.deliveries % 65536)))) (.hostWrite f a (leBytes 8 (evWord0 r true)))
  let n := g.unsignalled + 1
  let fire := decide (sevNum r.sev ≤ 1) || decide (n ≥ rdN s Obj.EVENT_RING_COALESCE_COUNT f)
  let g' : EvRing := { deliveries := g.deliveries + 1, unsignalled := if fire then 0 else n,
                       firstAt := if g.unsignalled = 0 then s.now else g.firstAt }
  let t := wr { w with ev := { w.ev with rings := Tbl.set w.ev.rings f g' } } Obj.EVENT_RING_NEXT_DELIVERY f ((g.deliveries + 1) % 65536 : Nat)
  if fire then sendMsix t f (rdN s Obj.EVENT_RING_MSIX f) else t

/-- Remove the oldest record of the given severity. -/
def dropOldest (sev : Sev) : List EvRec → List EvRec
  | [] => []
  | r :: t => if r.sev = sev then t else r :: dropOldest sev t

/-- The severity a full subscription queue displaces for an arriving record, if any (R591). -/
def displaced (q : List EvRec) (sev : Sev) : Option Sev :=
  let has (x : Sev) := q.any (fun r => r.sev == x)
  if has .trace && decide (sevNum sev < 4) then some .trace
  else if has .info && decide (sevNum sev < 3) then some .info
  else if has .warn && decide (sevNum sev < 2) then some .warn
  else if decide (sevNum sev ≤ 1) then (q.head?.map EvRec.sev) else none

/-- Queue a record on the subscription of a session (R590, R591). -/
def subDeliver (s : State) (n : Nat) (r : EvRec) : State :=
  let q := Tbl.getD s.ev.subs n []
  let put (q' : List EvRec) (t : State) : State := { t with ev := { t.ev with subs := Tbl.set t.ev.subs n q' } }
  if q.length < 1024 then put (q ++ [r]) s
  else match displaced q r.sev with
    | some x => bump (put (dropOldest x q ++ [r]) s) Obj.PATH_OVERRUNS (4 + n) 1
    | none => bump s Obj.PATH_OVERRUNS (4 + n) 1

/-- Keep the newest `n` elements. -/
def keepLast {α : Type} (n : Nat) (l : List α) : List α :=
  l.drop (l.length - n)

/-- Hand an admitted record to its path's consumer. -/
def pathConsume (s : State) (p : Nat) (r : EvRec) : State :=
  if p = 0 then { s with ev := { s.ev with alarms := keepLast 4096 (s.ev.alarms ++ [r]) } }
  else if p = 1 then { s with ev := { s.ev with store := keepLast 524288 (s.ev.store ++ [r]) } }
  else if p ≤ 3 then ringDeliver s (p - 2) r
  else subDeliver s (p - 4) r

/-- Count a shed record and start or extend the storm episode (R584). -/
def pathShed (s : State) (p : Nat) (r : EvRec) : State :=
  let fresh := !rdB s Obj.PATH_SHEDDING p
  let t := modPath (wrB s Obj.PATH_SHEDDING p true) p (fun x =>
    { x with shedSince := x.shedSince + 1, stormFrom := if fresh then s.now else x.stormFrom, stormLast := s.now
             epWarn := (if fresh then 0 else x.epWarn) + (if r.sev = .warn then 1 else 0)
             epInfo := (if fresh then 0 else x.epInfo) + (if r.sev = .info then 1 else 0)
             epTrace := (if fresh then 0 else x.epTrace) + (if r.sev = .trace then 1 else 0) })
  match r.sev with
  | .warn => bump t Obj.PATH_SHED_WARN p 1
  | .info => bump t Obj.PATH_SHED_INFO p 1
  | _ => bump t Obj.PATH_SHED_TRACE p 1

/-- Offer a record to a path: filter, then bucket, then consumer (R582 to R584). `force` is the storm summary's. -/
def offer (s : State) (p : Nat) (r : EvRec) (force : Bool) : State :=
  if !force && !filterAdmits s p r.sev then s
  else if (p == 2 || p == 3) && !ringLive s (p - 2) then s
  else if p = 0 then bump (pathConsume s 0 r) Obj.PATH_DELIVERED 0 1
  else
    let burst := rd s Obj.PATH_BURST p
    let x := pathOf s p
    let l := refill x.bucket (rd s Obj.PATH_RATE p) burst s.now
    if force || bucketAdmits r.sev l burst then
      let t := modPath s p (fun y => { y with bucket := { level := max (-(burst * 1000000)) (l - 1000000), last := s.now }, shedSince := 0 })
      bump (pathConsume t p { r with shed := x.shedSince }) Obj.PATH_DELIVERED p 1
    else
      pathShed (modPath s p (fun y => { y with bucket := { level := l, last := s.now } })) p r

/-- A dump runs: only path 0 operates (R593). -/
def dumping (s : State) : Bool :=
  rdN s Obj.PS_STATE 0 == 2

/-- Admit a record created before start-up step 7 to path 0 or to the on-die hold (R593). -/
def offerEarly (s : State) (r : EvRec) : State :=
  if sevNum r.sev ≤ 1 then (if rdN s Obj.STARTUP_STEP 0 ≥ 2 then offer s 0 r false else s)
  else
    let burst := pathSetting s Obj.PATH_BURST 1
    let x := pathOf s 1
    let l := refill x.bucket (pathSetting s Obj.PATH_RATE 1) burst s.now
    if bucketAdmits r.sev l burst && decide (s.ev.held.length < 1024) then
      let t := modPath s 1 (fun y => { y with bucket := { level := l - 1000000, last := s.now }, shedSince := 0 })
      { t with ev := { t.ev with held := t.ev.held ++ [{ r with shed := x.shedSince }] } }
    else pathShed (modPath s 1 (fun y => { y with bucket := { level := l, last := s.now } })) 1 r

/-- Offer a created record to every path of Table 17-5. -/
def offerAll (s : State) (r : EvRec) : State :=
  if dumping s then offer s 0 r false
  else if rdN s Obj.STARTUP_STEP 0 < 7 then offerEarly s r
  else forRange 18 (fun p t => offer t p r false) s

/-- Take the next EVENT_SEQ, reserving a further block of 65,536 when the last is used up (R581). -/
def takeSeq (s : State) : State :=
  let n := s.ev.seq + 1
  bump { s with ev := { s.ev with seq := n, reserved := if n ≥ s.ev.reserved then n + 65536 else s.ev.reserved } } Obj.EVENTS_CREATED 0 1

/-- Create a record and offer it (R579, R581). An ALARM is a PME cause (R368). -/
def createRec (s : State) (k : EvKey) (sev : Sev) (coalesced : Bool) (n detail ts : Nat) : State :=
  let t := takeSeq s
  let r : EvRec := { seq := t.ev.seq, sev := sev, coalesced := coalesced, bootTag := rdN s Obj.BOOT_COUNT 0 % 2048, ts := ts,
                     key := k, count := n, detail := detail, shed := 0 }
  let u := offerAll t r
  if sev = .alarm then signalPme u 0 else u

/-- Close one window: create the coalesced record and reopen, or end it (R579 steps 3 and 4). -/
def closeWindow (s : State) (w : EvWindow) (reopen : Bool) : State :=
  let rest := s.ev.windows.filter (fun x => x.key != w.key)
  if w.folded = 0 then { s with ev := { s.ev with windows := rest } }
  else
    let t := { s with ev := { s.ev with windows := if reopen then rest ++ [{ w with folded := 0, closes := s.now + 1000 }] else rest } }
    createRec t w.key w.sev true w.folded w.detail w.ts

/-- The open window of a key. -/
def windowOf (s : State) (k : EvKey) : Option EvWindow :=
  s.ev.windows.find? (fun w => w.key == k)

/-- An event occurrence: folded into its key's open window, or a record at once (R579, R580). -/
def raise (s : State) (id : EvId) (sev : Sev) (kind inst detail : Nat) : State :=
  let k : EvKey := { id := id, kind := kind, inst := inst }
  match windowOf s k with
  | some _ =>
    bump { s with ev := { s.ev with windows := s.ev.windows.map (fun x =>
        if x.key = k then { x with folded := x.folded + 1, detail := detail, ts := uptime s } else x) } } Obj.EVENTS_COALESCED 0 1
  | none =>
    let t := match s.ev.windows with
      | w :: _ => if s.ev.windows.length ≥ 4096 then closeWindow s w false else s
      | [] => s
    let u := { t with ev := { t.ev with windows := t.ev.windows ++ [{ key := k, sev := sev, closes := s.now + 1000, folded := 0, detail := detail, ts := uptime s }] } }
    createRec u k sev false 1 detail (uptime s)

/-- An event of a chapter's rule. `c` is the chapter's high byte. -/
def ev (c rule : Nat) : EvId :=
  { chapter := c, rule := rule, nth := 0 }

/-- An event occurrence whose DETAIL no rule names: the content is the catalogue's, a free value. -/
def raiseOpen (s : State) (id : EvId) (sev : Sev) (kind inst : Nat) : State :=
  raise s id sev kind inst (Config.eventDetail id.rule inst s.now).toNat

/-! Values of SOURCE_KIND (Table 17-3). -/

def Src.device : Nat := 0x00
def Src.pool : Nat := 0x01
def Src.member : Nat := 0x02
def Src.drivePort : Nat := 0x03
def Src.volume : Nat := 0x04
def Src.qp : Nat := 0x05
def Src.function : Nat := 0x06
def Src.session : Nat := 0x07
def Src.quadrant : Nat := 0x08
def Src.epochUnit : Nat := 0x09
def Src.slice : Nat := 0x0A
def Src.hbm : Nat := 0x0B
def Src.pipeline : Nat := 0x0C
def Src.keySlot : Nat := 0x0D
def Src.pack : Nat := 0x0E
def Src.pair : Nat := 0x0F
def Src.bundle : Nat := 0x10
def Src.hostPort : Nat := 0x11
def Src.cistern : Nat := 0x12
def Src.intentLog : Nat := 0x13

/-- DETAIL layout 0x01: a volume and an LBA (Table 17-4). -/
def detailLba (vol lba : Nat) : Nat :=
  vol % 4096 * 2 ^ 40 + lba % 2 ^ 40

/-- DETAIL layout 0x04: two U32 values (Table 17-4). -/
def detailPair (a b : Nat) : Nat :=
  b % 2 ^ 32 * 2 ^ 32 + a % 2 ^ 32

/-! ## The event commands -/

/-- COALESCE_WINDOW_CLOSE: the key's 1 ms window closes (R579). A key with no open window is ignored. -/
def execCoalesceWindowClose (k : EvKey) (s : State) : Host.Outcome State Fault Refusal :=
  .next (match windowOf s k with
    | some w => closeWindow s w true
    | none => s)

/-- DETAIL of STORM_SUMMARY (Table 17-6). -/
def stormDetail (x : EvPath) : Nat :=
  sat 65535 x.epWarn * 2 ^ 48 + sat 65535 x.epInfo * 2 ^ 32 + sat 65535 x.epTrace * 2 ^ 16 + sat 65535 ((x.stormLast - x.stormFrom) / 1000)

/-- STORM_QUIET: the path has shed nothing for PATH_STORM_QUIET; its summary goes to the path and to path 1 (R584). -/
def execStormQuiet (p : Nat) (s : State) : Host.Outcome State Fault Refusal :=
  .next (if rdB s Obj.PATH_SHEDDING p then
    let t := takeSeq (bump (wrB s Obj.PATH_SHEDDING p false) Obj.PATH_STORMS p 1)
    let r : EvRec := { seq := t.ev.seq, sev := .warn, coalesced := false, bootTag := rdN s Obj.BOOT_COUNT 0 % 2048, ts := uptime s,
                       key := { id := { chapter := 0x10, rule := 584, nth := 0 }, kind := 0x14, inst := p }, count := 1,
                       detail := stormDetail (pathOf s p), shed := 0 }
    let u := offer t p r true
    if p = 1 then u else offer u 1 r true
  else s)

/-- The ring objects of a PF pass the checks of R585. -/
def ringChecks (s : State) (f : Nat) : Bool :=
  let b := rdN s Obj.EVENT_RING_BASE f
  let z := rdN s Obj.EVENT_RING_SIZE f
  b != 0 && b % 4096 == 0 && isPow2 z && decide (64 ≤ z ∧ z ≤ 32768) && decide (rdN s Obj.EVENT_RING_MSIX f < 2048)

/-- Enable or disable the event ring of a PF; an enable that fails its checks changes nothing (R585). -/
def enableRing (f : Nat) (on : Bool) (s : State) : State :=
  if on then
    (if ringChecks s f then
      let t := wr (wrB s Obj.EVENT_RING_ENABLE f true) Obj.EVENT_RING_NEXT_DELIVERY f 0
      { t with ev := { t.ev with rings := Tbl.set t.ev.rings f { deliveries := 0, unsignalled := 0, firstAt := 0 } } }
    else s)
  else wrB s Obj.EVENT_RING_ENABLE f false

/-- EVENT_RING_ENABLE: a write of the object (R585). A PF index other than 0 and 1 is ignored. -/
def execEventRingEnable (f : Nat) (on : Bool) (s : State) : Host.Outcome State Fault Refusal :=
  .next (if f < 2 then enableRing f on s else s)

/-- EVENT_RING_COALESCE_TIMEOUT: the first unsignalled delivery has waited EVENT_RING_COALESCE_TIME (R589). -/
def execEventRingCoalesceTimeout (f : Nat) (s : State) : Host.Outcome State Fault Refusal :=
  .next (match Tbl.get s.ev.rings f with
    | some g =>
      if g.unsignalled = 0 || !ringLive s f then s
      else sendMsix { s with ev := { s.ev with rings := Tbl.set s.ev.rings f { g with unsignalled := 0 } } } f (rdN s Obj.EVENT_RING_MSIX f)
    | none => s)

/-- Set the filter of a session's path; OFF discards the queue (R590). -/
def subscribe (n v : Nat) (s : State) : State :=
  let t := wr s Obj.PATH_MIN_SEVERITY (4 + n) v
  if v = 0xFF then { t with ev := { t.ev with subs := Tbl.erase t.ev.subs n } } else t

/-- SUBSCRIBE: a write of PATH_MIN_SEVERITY on the path of session `n` (R590). -/
def execSubscribe (n v : Nat) (s : State) : Host.Outcome State Fault Refusal :=
  .next (if n < 14 && (v ≤ 4 || v = 0xFF) then subscribe n v s else s)

/-- Most records one response carries: 31 over MCTP or UDP, 2,047 in-band (R590, Table 02-6). -/
def recordLimit (n : Nat) : Nat :=
  if n < 2 then 2047 else 31

/-- Fetch from a subscription queue: the bytes returned and the state after (R590). -/
def subFetch (s : State) (n len : Nat) : Bytes × State :=
  let q := Tbl.getD s.ev.subs n []
  let k := min (min q.length (len / 32)) (recordLimit n)
  ((q.take k).flatMap evBytes, { s with ev := { s.ev with subs := Tbl.set s.ev.subs n (q.drop k) } })

/-- EVENT_SUB_FETCH: a read removes the oldest queued records (R590). -/
def execEventSubFetch (n len : Nat) (s : State) : Host.Outcome State Fault Refusal :=
  .next (let r := subFetch s n len; emit r.2 (.objRead Obj.EVENT_SUB_FETCH.index n r.1))

/-- Read a store from FROM on: the bytes returned and the new FROM (R592). -/
def storeRead (l : List EvRec) (from_ k : Nat) : Bytes × Nat :=
  let r := (l.filter (fun x => decide (x.seq ≥ from_))).take k
  (r.flatMap evBytes, match r.getLast? with
    | some x => x.seq + 1
    | none => from_)

/-- Read the event store for a session (R592). -/
def eventStoreRead (s : State) (n len : Nat) : Bytes × State :=
  let r := storeRead s.ev.store (rdN s Obj.EVENT_STORE_FROM n) (min (len / 32) (recordLimit n))
  (r.1, wr s Obj.EVENT_STORE_FROM n (r.2 : Nat))

/-- Read the alarm store for a session (R592). -/
def alarmStoreRead (s : State) (n len : Nat) : Bytes × State :=
  let r := storeRead s.ev.alarms (rdN s Obj.ALARM_STORE_FROM n) (min (len / 32) (recordLimit n))
  (r.1, wr s Obj.ALARM_STORE_FROM n (r.2 : Nat))

/-- EVENT_STORE_READ: records from EVENT_STORE_FROM, which advances (R592). -/
def execEventStoreRead (n len : Nat) (s : State) : Host.Outcome State Fault Refusal :=
  .next (let r := eventStoreRead s n len; emit r.2 (.objRead Obj.EVENT_STORE_READ.index n r.1))

/-- ALARM_STORE_READ: records from ALARM_STORE_FROM, which advances (R592). -/
def execAlarmStoreRead (n len : Nat) (s : State) : Host.Outcome State Fault Refusal :=
  .next (let r := alarmStoreRead s n len; emit r.2 (.objRead Obj.ALARM_STORE_READ.index n r.1))

/-! ## Counters -/

/-- Clear every register of an object index. -/
def clrIndex (s : State) (i : Nat) : State :=
  { s with dict := { s.dict with regs := Tbl.filterK s.dict.regs (fun k => keyIndex k != i) } }

/-- Clear the registers of one instance of an object index. -/
def clrInst (s : State) (i n : Nat) : State :=
  { s with dict := { s.dict with regs := Tbl.filterK s.dict.regs (fun k => k / 256 != objKey i n 0 / 256) } }

/-- Clear the histogram bins of the objects named. -/
def clrHist (s : State) (p : Nat → Bool) : State :=
  { s with ev := { s.ev with hist := Tbl.filterK s.ev.hist (fun k => !p (k / 32)) } }

/-- Clear the counters of the levels named: bits 0, 1 and 2 (R598). -/
def clearCounters (m : Nat) (s : State) : State :=
  let a := if bitAt m 0 then clrHist (clrIndex (clrIndex s 0x4810) 0x4818) (fun k => decide (0x4810 ≤ keyIndex k ∧ keyIndex k ≤ 0x4818)) else s
  let b := if bitAt m 1 then clrIndex a 0x4820 else a
  let c := if bitAt m 2 then { b with ev := { b.ev with device := [] } } else b
  bump c Obj.COUNTER_CLEARS 0 1

/-- COUNTER_CLEAR: a write names the levels to clear; a reserved bit refuses it (R598, R9). -/
def execCounterClear (m : Nat) (s : State) : Host.Outcome State Fault Refusal :=
  .next (if m < 8 then clearCounters m s else s)

/-- The histogram bin of a SERVICE_TIME in 10 ns units (R597). -/
def histBin (t : Nat) : Nat :=
  if t < 2 then 0 else if t ≥ 2 ^ 31 then 31 else Nat.log2 t

end Sys2Proof.Machine
end

