-- ==== Sys2Proof/Machine/Operands.lean ====
section
/-! DEFINITION. Operand forms: the fields of submission entries, descriptors and messages (Tables 07-1 to 07-4, 08-2, 08-3). -/

namespace Sys2Proof

open Sys2Proof.Machine

/-- A bit field of a word. -/
def fld (w : Word) (lo len : Nat) : Nat :=
  bitsAt w.toNat lo len

/-- OWN (Table 07-1). -/
def SqEntry.own (e : SqEntry) : Bool := bitAt e.w0.toNat 63
/-- FIRST. -/
def SqEntry.first (e : SqEntry) : Bool := bitAt e.w0.toNat 62
/-- LAST. -/
def SqEntry.last (e : SqEntry) : Bool := bitAt e.w0.toNat 61
/-- TAG. -/
def SqEntry.tag (e : SqEntry) : Nat := fld e.w0 56 5
/-- OPCODE. -/
def SqEntry.opcode (e : SqEntry) : Nat := fld e.w0 48 8
/-- SR_SEQ. -/
def SqEntry.srSeq (e : SqEntry) : Nat := fld e.w0 32 16
/-- CHAIN_ENTRIES: entries minus one. -/
def SqEntry.chainEntries (e : SqEntry) : Nat := fld e.w0 28 4
/-- CHAIN_INDEX. -/
def SqEntry.chainIndex (e : SqEntry) : Nat := fld e.w0 24 4
/-- CMD_FLAGS. -/
def SqEntry.flags (e : SqEntry) : Nat := fld e.w0 16 8
/-- Reserved bits [15:12] of word 0. -/
def SqEntry.resv (e : SqEntry) : Nat := fld e.w0 12 4
/-- VOLUME_ID. -/
def SqEntry.volume (e : SqEntry) : Nat := fld e.w0 0 12
/-- SLBA (Table 08-3). -/
def SqEntry.slba (e : SqEntry) : Nat := e.w1.toNat

/-- The descriptor held in two words (Table 07-4). -/
def descOf (a b : Word) : Desc :=
  { addr := a.toNat, len := fld b 0 32, kind := fld b 32 8, resv := fld b 40 24 }

/-- The inline descriptors of a first entry (Table 07-2). -/
def SqEntry.descsFirst (e : SqEntry) : List Desc :=
  [descOf e.w4 e.w5, descOf e.w6 e.w7]

/-- The descriptors of a continuation entry (Table 07-3). -/
def SqEntry.descsCont (e : SqEntry) : List Desc :=
  [descOf e.w2 e.w3, descOf e.w4 e.w5, descOf e.w6 e.w7]

end Sys2Proof

namespace Sys2Proof.Machine

open Sys2Proof

/-- The descriptors of a command's entries in the order of R275. -/
def chainDescs : List SqEntry → List Desc
  | [] => []
  | f :: r => f.descsFirst ++ r.flatMap SqEntry.descsCont

/-- The entry that 64 bytes spell. -/
def entryOf (b : Bytes) : SqEntry :=
  { w0 := BitVec.ofNat 64 (fieldAt b 0 8), w1 := BitVec.ofNat 64 (fieldAt b 8 8), w2 := BitVec.ofNat 64 (fieldAt b 16 8), w3 := BitVec.ofNat 64 (fieldAt b 24 8)
    w4 := BitVec.ofNat 64 (fieldAt b 32 8), w5 := BitVec.ofNat 64 (fieldAt b 40 8), w6 := BitVec.ofNat 64 (fieldAt b 48 8), w7 := BitVec.ofNat 64 (fieldAt b 56 8) }

/-- The descriptors that a list page spells, 16 bytes each. -/
def pageDescs (n : Nat) (b : Bytes) : List Desc :=
  (List.range n).map (fun i => descOf (BitVec.ofNat 64 (fieldAt b (16 * i) 8)) (BitVec.ofNat 64 (fieldAt b (16 * i + 8) 8)))

/-- NLB of the opcode (Table 08-3): 64 bits for DEALLOCATE, 32 bits for READ, WRITE and VERIFY. -/
def nlbOf (op : Nat) (e : SqEntry) : Nat :=
  if op = 4 then e.w2.toNat else if op = 1 ∨ op = 2 ∨ op = 5 then fld e.w2 0 32 else 0

/-- COMMAND_FIELDS bytes that Table 08-3 does not name are zero. -/
def fieldsReservedZero (op : Nat) (e : SqEntry) : Bool :=
  if op = 1 ∨ op = 2 ∨ op = 5 then fld e.w2 32 32 == 0 && e.w3 == 0
  else if op = 4 then e.w3 == 0
  else if op = 0x80 ∨ op = 0x81 then fld e.w1 16 48 == 0 && e.w2 == 0 && e.w3 == 0
  else e.w1 == 0 && e.w2 == 0 && e.w3 == 0

/-- The CMD_FLAGS bits an opcode defines (Table 08-2). -/
def flagMask (op : Nat) : Nat :=
  if op = 2 then 3 else if op = 3 ∨ op = 0x82 ∨ op = 0x83 then 1 else 0

/-- Sequence `a` is ahead of `b` (R271). -/
def ahead (a b : Nat) : Bool :=
  let d := (a + 65536 - b % 65536) % 65536
  decide (1 ≤ d ∧ d ≤ 32767)

/-- Sequence `a` is behind `b` (R271). -/
def behind (a b : Nat) : Bool :=
  decide ((a + 65536 - b % 65536) % 65536 ≥ 32768)

/-- The sequence after `a`. -/
def seqNext (a : Nat) : Nat :=
  (a + 1) % 65536

/-- Split the bytes of a transfer, from byte offset `o` of the buffer on, over the DATA descriptors: address and length of each part. -/
def scatter : List Desc → Nat → Nat → List (Nat × Nat)
  | [], _, _ => []
  | d :: r, o, n =>
    if n = 0 then []
    else if o ≥ d.len then scatter r (o - d.len) n
    else
      let k := min n (d.len - o)
      (d.addr + o, k) :: scatter r 0 (n - k)

/-- Write bytes into a command's host buffer at byte offset `o`. -/
def hostScatter (s : State) (f : Nat) (descs : List Desc) (o : Nat) (b : Bytes) : State :=
  ((scatter descs o b.length).foldl (fun (p : State × Bytes) x => (emit p.1 (.hostWrite f x.1 (p.2.take x.2)), p.2.drop x.2)) (s, b)).1

/-- Request `n` bytes of a command's host buffer from byte offset `o`. -/
def hostGather (s : State) (f : Nat) (descs : List Desc) (o n : Nat) : State :=
  forEach (scatter descs o n) (fun x t => emit t (.hostRead f x.1 x.2)) s

end Sys2Proof.Machine
end

