-- ==== Sys2Proof/Machine/Flags.lean ====
section
/-! DEFINITION. Status words and codes the block computes: completion entries (Tables 07-5 and 07-6), QP_STATUS and QP_STATE_REG (Tables 07-7 and 07-8), ADMIN_CTRL (Table 07-9), status codes (Table 08-11) and dictionary results (Table 02-5). -/

namespace Sys2Proof.Machine

/-! Status codes (Table 08-11). -/

def St.success : Nat := 0x0000
def St.invalidOpcode : Nat := 0x0101
def St.invalidField : Nat := 0x0102
def St.tagCollision : Nat := 0x0103
def St.chainMalformed : Nat := 0x0104
def St.lbaRange : Nat := 0x0105
def St.dmaWindow : Nat := 0x0106
def St.integrityFail : Nat := 0x0201
def St.guardUnrecovered : Nat := 0x0202
def St.mediaLost : Nat := 0x0203
def St.cipherFault : Nat := 0x0204
def St.keyExhausted : Nat := 0x0205
def St.volumeLocked : Nat := 0x0206
def St.abortedByReset : Nat := 0x0301
def St.dmaHalted : Nat := 0x0302
def St.poolOffline : Nat := 0x0303
def St.fenced : Nat := 0x0304
def St.volumeBusy : Nat := 0x0305

/-! Dictionary results (Table 02-5). -/

def Rs.ok : Nat := 0
def Rs.unknownObject : Nat := 1
def Rs.access : Nat := 2
def Rs.privilege : Nat := 3
def Rs.range : Nat := 4
def Rs.malformed : Nat := 5
def Rs.tooLarge : Nat := 6
def Rs.oobDisabled : Nat := 7
def Rs.noSession : Nat := 8
def Rs.busy : Nat := 9
def Rs.sequence : Nat := 10
def Rs.partOrder : Nat := 11
def Rs.scope : Nat := 12

/-! QP states (Table 07-16). -/

def Qs.disabled : Nat := 0
def Qs.poll : Nat := 1
def Qs.push : Nat := 2
def Qs.resetting : Nat := 3
def Qs.halted : Nat := 4

/-- Word 0 of a completion entry, OWN 0 (Table 07-5). -/
def cplWord0 (c : Cpl) (crSeq : Nat) : Nat :=
  b2n c.degraded * 2 ^ 62 + b2n c.committed * 2 ^ 61 + c.tag % 32 * 2 ^ 56 + c.opcode % 256 * 2 ^ 48 + crSeq % 65536 * 2 ^ 32 +
    c.srSeq % 65536 * 2 ^ 16 + c.status % 65536

/-- Bytes 8 to 31 of a completion entry (Table 07-6). -/
def cplTail (c : Cpl) : Bytes :=
  leBytes 8 c.result ++ leBytes 8 (c.nextSr % 65536 * 2 ^ 48 + c.served % 4 * 2 ^ 32 + sat 0xFFFFFFFF c.time) ++ zeros 8

/-- A command's tag mask bit. -/
def tagBit (t : Nat) : Nat :=
  2 ^ (t % 32)

/-- The tags outstanding on a QP: decoded, admitted, or built and not written (R293). -/
def tagsOf (q : Qp) : List Nat :=
  q.queue.map Cmd.tag ++ q.cmds.map Cmd.tag ++ (q.cpl.filter Cpl.holdsTag).map Cpl.tag

/-- TAGS_OUTSTANDING (Table 07-8). -/
def tagMask (q : Qp) : Nat :=
  (List.range 32).foldl (fun m t => if (tagsOf q).contains t then m + tagBit t else m) 0

/-- QP_STATE_REG (Table 07-7). -/
def qpStateReg (state cause : Nat) : Nat :=
  0x9640 * 2 ^ 16 + cause % 256 * 2 ^ 8 + state % 8

/-- QP_STATUS (Table 07-8). -/
def qpStatus (next last mask : Nat) : Nat :=
  next % 65536 * 2 ^ 48 + last % 65536 * 2 ^ 32 + mask % 2 ^ 32

/-- RESULT of a READ (Table 08-5). -/
def readResult (firstBad decoded : Nat) : Nat :=
  firstBad % 2 ^ 32 * 2 ^ 32 + decoded % 2 ^ 32

/-- RESULT of a QUEUE_RESET (Table 08-5). -/
def resetResult (recorded ended : Nat) : Nat :=
  recorded % 65536 * 2 ^ 16 + ended % 65536

/-- OPERATION (Table 08-8). -/
def operationResult (state kind percent left : Nat) : Nat :=
  state % 256 * 2 ^ 56 + kind % 256 * 2 ^ 48 + percent % 256 * 2 ^ 40 + left % 2 ^ 40

end Sys2Proof.Machine
end

