-- ==== Sys2Proof/Machine/Lines.lean ====
section
/-! DEFINITION. The ways of the on-die cache (R473, R474) and its line ways, which hold lines of the map cache and of the slot descriptors (R477, R478). -/

namespace Sys2Proof.Machine

open Sys2Proof

/-! ## Ways (R474) -/

/-- Usable ways of a slice, ascending. -/
def usableWays (s : State) (sl : Nat) : List Nat :=
  (List.range 16).filter (fun w => bitAt (rdN s Obj.SLICE_WAYS_USABLE sl) w)

/-- A way that a running WAY_CHANGE is taking out or turning over; nothing is allocated in it (Table 13-5). -/
def wayLeaving (s : State) (sl w : Nat) : Bool :=
  match s.cache.maint with
  | some m => m.ways.contains (16 * sl + w)
  | none => false

/-- The ways of a slice assigned to frames: the first CACHE_FRAME_WAYS of its usable ways. -/
def frameShare (s : State) (sl : Nat) : List Nat :=
  if rdN s Obj.SLICE_STATE sl = 1 then [] else (usableWays s sl).take (rdN s Obj.CACHE_FRAME_WAYS 0)

/-- Frame ways of a slice that take sectors. -/
def frameWays (s : State) (sl : Nat) : List Nat :=
  (frameShare s sl).filter (fun w => !wayLeaving s sl w)

/-- Line ways of a slice. -/
def lineWays (s : State) (sl : Nat) : List Nat :=
  if rdN s Obj.SLICE_STATE sl = 1 then [] else (usableWays s sl).drop (rdN s Obj.CACHE_FRAME_WAYS 0)

/-! ## Lines (R477) -/

/-- The HBM stack that holds copy `c` of a slot's descriptor: two different ones, neither the stack of the slot itself (R178). -/
def descStack (n c : Nat) : Nat :=
  (n + 1 + c) % 4

/-- The line set of a line over all slices, 16384 * slice + set: the slice is that of its stack, the set its stack-local address bits [20:7]. Pages of the map cache lie at their number, modulo 4 over the stacks, and descriptors at their slot's number (DESIGN CHOICE, log 161). -/
def lineSet : LineOf → Nat
  | .leaf key n => 16384 * (key % 4) + (32 * (key / 4) + n) % 16384
  | .dir page n => 16384 * (page % 4) + (32 * (page / 4) + n) % 16384
  | .desc slot c => 16384 * descStack slot c + slot / 4 % 16384

/-- The age of the line at a key, 4 where there is none. -/
def lineAge (t : Tbl Line) (k : Nat) : Nat :=
  match Tbl.get t k with
  | some l => l.age
  | none => 4

/-- The victim of a line fill, by the steps of R484: an empty way, else one of age 3, else every line of the set ages. -/
def lineVictim (t : Tbl Line) (set : Nat) (ways : List Nat) : Nat → Option (Nat × Tbl Line)
  | 0 => none
  | n + 1 =>
    match ways.find? (fun w => lineAge t (16 * set + w) == 4), ways.find? (fun w => lineAge t (16 * set + w) == 3) with
    | some w, _ => some (w, t)
    | none, some w => some (w, t)
    | none, none =>
      if ways.isEmpty then none
      else lineVictim (Tbl.mapV t (fun k l => if k / 16 = set ∧ l.age < 3 then { l with age := l.age + 1 } else l)) set ways n

/-- The lines after an access to one: a hit takes age 0; a miss fills it at age 1 over the victim, which is written back first where it is dirty. A write makes the line dirty. A slice without line ways holds none (R497). -/
def touched (s : State) (x : LineOf) (write : Bool) : Tbl Line :=
  let set := lineSet x
  let ways := (lineWays s (set / 16384)).filter (fun w => !wayLeaving s (set / 16384) w)
  match ways.find? (fun w => (Tbl.get s.lines (16 * set + w)).map Line.what == some x) with
  | some w => Tbl.modify s.lines (16 * set + w) (fun l => { l with age := 0, dirty := l.dirty || write })
  | none => match lineVictim s.lines set ways 5 with
    | some (w, t) => Tbl.set t (16 * set + w) { what := x, age := 1, dirty := write }
    | none => s.lines

/-- An access to a line of HBM. -/
def touchLine (s : State) (x : LineOf) (write : Bool) : State :=
  { s with lines := touched s x write }

/-- An access to a grain's entry in the map cache: 16 entries to a line. -/
def touchMap (s : State) (key : Nat) (write : Bool) : State :=
  touchLine s (.leaf (key / 2 ^ 40 * 2 ^ 31 + key % 2 ^ 40 / 512) (key % 512 / 16)) write

/-- An access to the directory entry of a leaf: 16 entries to a line. -/
def touchDir (s : State) (leaf : Nat) (write : Bool) : State :=
  touchLine s (.dir (leaf / 512) (leaf % 512 / 16)) write

/-- A write of a slot's descriptor, both copies (R178). -/
def touchDesc (s : State) (n : Nat) : State :=
  touchLine (touchLine s (.desc n 0) true) (.desc n 1) true

/-- Lines that satisfy a condition are written back and stay valid. -/
def cleanLines (s : State) (f : Nat → Bool) : State :=
  { s with lines := Tbl.mapV s.lines (fun k l => if f k then { l with dirty := false } else l) }

/-- Lines that satisfy a condition are written back and leave their ways. -/
def dropLines (s : State) (f : Nat → Bool) : State :=
  { s with lines := Tbl.filterK s.lines (fun k => !f k) }

/-- The slice of a line's key. -/
def lineSlice (k : Nat) : Nat :=
  k / 16 / 16384

/-- SLICE_DIRTY_LINES. -/
def dirtyLines (s : State) (sl : Nat) : Nat :=
  (s.lines.filter (fun e => lineSlice e.1 == sl && e.2.dirty)).length

/-- Lines whose way is no line way of its slice any more leave it (R494, R497). -/
def settleLines (s : State) : State :=
  dropLines s (fun k => !(lineWays s (lineSlice k)).contains (k % 16))

end Sys2Proof.Machine
end

