-- ==== Sys2Proof/Machine/Queue.lean ====
section
/-! DEFINITION. Queue pairs: their records, building and writing completion entries, completion slots and MSI-X coalescing (R276 to R282, R298). -/

namespace Sys2Proof.Machine

open Sys2Proof

/-- A QP that holds nothing. -/
def Qp.empty : Qp :=
  { known := none, fetch := none, spec := [], chain := [], chainAt := 0, queue := [], cmds := [], cpl := [], crBusy := [], coal := 0, coalAt := 0,
    coalErr := false, push := [], outcomes := [], resetBy := none, ended := 0, recorded := 0, byFlr := false }

/-- The QP of a number. -/
def qpOf (s : State) (q : Nat) : Qp :=
  Tbl.getD s.qps q Qp.empty

/-- Replace a QP. -/
def setQp (s : State) (q : Nat) (x : Qp) : State :=
  { s with qps := Tbl.set s.qps q x }

/-- Change a QP. -/
def modQp (s : State) (q : Nat) (f : Qp → Qp) : State :=
  setQp s q (f (qpOf s q))

/-- The QP's state (Table 07-13). -/
def qpState (s : State) (q : Nat) : Nat :=
  rdN s Obj.QP_STATE q

/-- The QP is in PUSH or POLL. -/
def qpServing (s : State) (q : Nat) : Bool :=
  qpState s q == Qs.push || qpState s q == Qs.poll

/-- The function a QP is assigned to (R268). -/
def qpFn (s : State) (q : Nat) : Nat :=
  if q < 2 then q else rdN s Obj.QP_FUNCTION q

/-- The QPs of a function among those the device holds records of, in rising order. -/
def fnQps (s : State) (f : Nat) : List Nat :=
  (s.qps.map Prod.fst).filter (fun q => qpFn s q == f)

/-- The intake takes no entry while the function cannot master the bus (R356, R360, R364). -/
def intakeOpen (s : State) (q : Nat) : Bool :=
  qpServing s q && canMaster s (qpFn s q)

/-- A memory request reaches the function (R355). -/
def memOpen (s : State) (f : Nat) : Bool :=
  rdB s Obj.FUNC_PRESENT f && (fnOf s f).mse && (rdN s Obj.FUNC_DSTATE f == 0) && !rdB s Obj.FUNC_IN_RESET f

/-- SERVICE_TIME in 10 ns units (Table 07-6). -/
def serviceTime (s : State) (takenAt : Nat) : Nat :=
  (s.now - takenAt) * 100

/-- Bytes of a command's transfer, for the counters (Table 17-8). -/
def transferBytes (c : Cmd) : Nat :=
  if c.opcode = 1 ∨ c.opcode = 2 then c.nlb * 4096 else 0

/-- Build a completion entry and queue it behind those of its QP (R276). -/
def buildCpl (s : State) (q : Nat) (c : Cpl) : State :=
  let x : Cpl := { c with order := s.sluice.builds, nextSr := rdN s Obj.NEXT_SR_SEQ q }
  let t := modQp s q (fun y => { y with cpl := y.cpl ++ [x] })
  { t with sluice := { t.sluice with builds := t.sluice.builds + 1 } }

/-- A completion with only a status. -/
def plainCpl (tag op sr status : Nat) (holds : Bool) (time : Nat) : Cpl :=
  { order := 0, tag := tag, opcode := op, srSeq := sr, status := status, result := 0, degraded := false, committed := false, nextSr := 0, served := 3,
    time := time, holdsTag := holds, holdsPool := false, volume := 0, bytes := 0, slots := [] }

/-- The completion of a decoded command. -/
def cmdCpl (s : State) (c : Cmd) (status result : Nat) : Cpl :=
  { order := 0, tag := c.tag, opcode := c.opcode, srSeq := c.srSeq, status := status, result := result, degraded := false, committed := false, nextSr := 0,
    served := 3, time := serviceTime s c.takenAt, holdsTag := true, holdsPool := (c.phase == .admitted || c.phase == .running), volume := c.volume,
    bytes := transferBytes c, slots := [] }

/-- Remove a command from the QP's lists. -/
def dropCmd (s : State) (q tag : Nat) : State :=
  modQp s q (fun x => { x with queue := x.queue.filter (fun c => c.tag != tag), cmds := x.cmds.filter (fun c => c.tag != tag) })

/-- End a command with this completion. -/
def finishWith (s : State) (q : Nat) (c : Cmd) (e : Cpl) : State :=
  buildCpl (dropCmd s q c.tag) q e

/-- End a command with a status and a RESULT. -/
def finish (s : State) (q : Nat) (c : Cmd) (status result : Nat) : State :=
  finishWith s q c (cmdCpl s c status result)

/-- An admitted command of a QP by tag. -/
def findCmd (s : State) (q tag : Nat) : Option Cmd :=
  (qpOf s q).cmds.find? (fun c => c.tag == tag)

/-- Change an admitted command. -/
def modCmd (s : State) (q tag : Nat) (f : Cmd → Cmd) : State :=
  modQp s q (fun x => { x with cmds := x.cmds.map (fun c => if c.tag = tag then f c else c) })

/-- An admitted command of this opcode that has not begun to execute. -/
def startable (s : State) (q tag op : Nat) : Option Cmd :=
  (qpOf s q).cmds.find? (fun c => c.tag == tag && c.opcode == op && c.phase == .admitted)

/-! ## Completion slots -/

/-- A CR slot is free when no sequence written to it is unreleased (R279). -/
def crFree (x : Qp) (size seq : Nat) : Bool :=
  x.crBusy.all (fun b => b % size != seq % size)

/-- Every slot of the CR is taken by the CR_RELEASE count. -/
def crFull (s : State) (q : Nat) : Bool :=
  decide ((qpOf s q).crBusy.length ≥ rdN s Obj.CR_SIZE q)

/-- The CR can carry entries: not halted on a CR read error, not in a function's reset (R300, R360). -/
def crUsable (s : State) (q : Nat) : Bool :=
  (qpState s q != Qs.disabled) && !(rdN s Obj.HALT_CAUSE q == 2) && !(qpOf s q).byFlr

/-- Count a completion in the counters of levels 0 and 1 (Table 17-8, R597). -/
def countCpl (s : State) (q : Nat) (c : Cpl) : State :=
  let f := qpFn s q
  let ok := c.status == 0
  let a := if c.opcode = 1 then count s Obj.QP_READ_CMDS q 1 else if c.opcode = 2 then count s Obj.QP_WRITE_CMDS q 1 else count s Obj.QP_OTHER_CMDS q 1
  let b := if c.opcode = 1 && ok then count a Obj.QP_READ_BYTES q c.bytes else if c.opcode = 2 && ok then count a Obj.QP_WRITE_BYTES q c.bytes else a
  let d := if ok then b else count b Obj.QP_ERRORS q 1
  let e := count (if c.degraded then count d Obj.QP_DEGRADED q 1 else d) Obj.QP_SERVICE_TIME_SUM q (sat 0xFFFFFFFF c.time)
  let g := if c.opcode = 1 then countHist e (Obj.QP_READ_HISTOGRAM.key q) (histBin (sat 0xFFFFFFFF c.time))
           else if c.opcode = 2 then countHist e (Obj.QP_WRITE_HISTOGRAM.key q) (histBin (sat 0xFFFFFFFF c.time)) else e
  let v := c.volume
  let h := if 1 ≤ c.opcode ∧ c.opcode ≤ 5 then
      let a := if c.opcode = 1 then count g Obj.VOL_READ_CMDS v 1 else if c.opcode = 2 then count g Obj.VOL_WRITE_CMDS v 1 else count g Obj.VOL_OTHER_CMDS v 1
      let b := if c.opcode = 1 && ok then count a Obj.VOL_READ_BYTES v c.bytes else if c.opcode = 2 && ok then count a Obj.VOL_WRITE_BYTES v c.bytes else a
      let d := if ok then b else count b Obj.VOL_ERRORS v 1
      let e := count (if c.degraded then count d Obj.VOL_DEGRADED v 1 else d) Obj.VOL_SERVICE_TIME_SUM v (sat 0xFFFFFFFF c.time)
      if c.opcode = 1 then countHist e (Obj.VOL_READ_HISTOGRAM.key v) (histBin (sat 0xFFFFFFFF c.time))
      else if c.opcode = 2 then countHist e (Obj.VOL_WRITE_HISTOGRAM.key v) (histBin (sat 0xFFFFFFFF c.time)) else e
    else g
  let i := count h Obj.FN_CMDS f 1
  let j := if c.opcode = 1 && ok then count i Obj.FN_READ_BYTES f c.bytes else if c.opcode = 2 && ok then count i Obj.FN_WRITE_BYTES f c.bytes else i
  let k := if ok then j else count j Obj.FN_ERRORS f 1
  if c.status = St.dmaHalted then bump k Obj.FUNC_DMA_HALTED f 1 else k

/-- Send the CR's vector and reset its count and timer (R298). -/
def signalCr (s : State) (q : Nat) : State :=
  sendMsix (modQp s q (fun x => { x with coal := 0, coalAt := 0, coalErr := false })) (qpFn s q) (rdN s Obj.CR_MSIX_VECTOR q)

/-- The conditions of R298 that hold when entries are written. -/
def crSignals (s : State) (q : Nat) : Bool :=
  let x := qpOf s q
  rdB s Obj.CR_INT_ENABLE q && decide (x.coal > 0) &&
    (decide (x.coal ≥ rdN s Obj.CR_COALESCE_COUNT q) || (rdB s Obj.CR_URGENT_ON_ERROR q && x.coalErr) || (tagsOf x).isEmpty)

/-- The host writes of one completion entry (R280). -/
def cplWrites (s : State) (q seq : Nat) (c : Cpl) : State :=
  let f := qpFn s q
  let a := rdN s Obj.CR_BASE q + 32 * (seq % rdN s Obj.CR_SIZE q)
  if rdB s Obj.CR_SPLIT_WRITE q then emit (emit s (.hostWrite f (a + 8) (cplTail c))) (.hostWrite f a (leBytes 8 (cplWord0 c seq)))
  else emit s (.hostWrite f a (leBytes 8 (cplWord0 c seq) ++ cplTail c))

/-- Record an outcome that cannot reach the CR (R304). -/
def recordOutcome (s : State) (q : Nat) (c : Cpl) : State :=
  bump (modQp s q (fun x => { x with outcomes := Tbl.set x.outcomes (c.tag % 32) (c.srSeq, c.status), recorded := x.recorded + 1 })) Obj.LOST_COMPLETIONS q 1

/-- Record every built completion of a QP and forget it (R300, R304). -/
def recordAll (s : State) (q : Nat) : State :=
  let l := (qpOf s q).cpl
  forEach l (fun c t => recordOutcome t q c) (modQp s q (fun x => { x with cpl := [] }))

/-- Set ACKED on the slots of a write whose completion entry has been written (R178). -/
def ackSlots (s : State) (l : List Nat) : State :=
  forEach l (fun n t => touchDesc t n) { s with prot := l.foldl (fun t n => Tbl.modify t n (fun x => { x with acked := true })) s.prot }

/-- A QP in RESETTING none of whose tags is outstanding becomes DISABLED, and the QUEUE_RESET that asked for it completes (Table 07-13, R330). -/
def settleReset (s : State) (q : Nat) : State :=
  let x := qpOf s q
  if qpState s q = Qs.resetting ∧ (tagsOf x).isEmpty then
    let t := wr (setQp s q { Qp.empty with outcomes := x.outcomes }) Obj.QP_STATE q (Qs.disabled : Nat)
    match x.resetBy with
    | some (a, tag) => match findCmd t a tag with
      | some c => finish t a c St.success (resetResult x.recorded x.ended)
      | none => t
    | none => t
  else s

/-- Write the oldest built entry of a QP if a slot is free and the function may write (R279, R357); a QP halted on a CR read error has its outcomes recorded instead (R300). -/
def writeHead (s : State) (q : Nat) : State :=
  match (qpOf s q).cpl with
  | [] => s
  | c :: rest =>
    let seq := seqNext (rdN s Obj.LAST_CR_SEQ q)
    if crUsable s q && canMaster s (qpFn s q) && crFree (qpOf s q) (rdN s Obj.CR_SIZE q) seq then
      let t := ackSlots (wr (countCpl (cplWrites s q seq c) q c) Obj.LAST_CR_SEQ q (seq : Nat)) c.slots
      let u := modQp t q (fun x => { x with cpl := rest, crBusy := x.crBusy ++ [seq], coal := x.coal + 1,
                                            coalAt := if x.coal = 0 then s.now else x.coalAt, coalErr := x.coalErr || c.status != 0 })
      settleReset (if crSignals u q then signalCr u q else u) q
    else if crUsable s q then s
    else settleReset (recordAll s q) q

/-- COMPLETION_WRITE: a built completion entry is written to a free CR slot (R279). With none built, or no slot free, it waits. -/
def execCompletionWrite (q : Nat) (s : State) : Host.Outcome State Fault Refusal :=
  .next (writeHead s q)

/-- MSIX_COALESCE_TIMEOUT: CR_COALESCE_TIME has passed since the first unsignalled entry (R298). -/
def execMsixCoalesceTimeout (q : Nat) (s : State) : Host.Outcome State Fault Refusal :=
  .next (if rdB s Obj.CR_INT_ENABLE q && rdN s Obj.CR_COALESCE_TIME q != 0 && (qpOf s q).coal != 0 then signalCr s q else s)

/-- CR_RELEASE: free the CR slots up to the given CR_SEQ, or ignore and count the write (R281). Nonzero reserved bits drop it (R9). -/
def execCrRelease (q : Nat) (v : BitVec 32) (s : State) : Host.Outcome State Fault Refusal :=
  .next (
    let n := v.toNat % 65536
    if !memOpen s (qpFn s q) || v.toNat ≥ 65536 then s
    else if ahead n (rdN s Obj.LAST_CR_SEQ q) || behind n (rdN s Obj.CR_RELEASED_SEQ q) then bump s Obj.CR_RELEASE_IGNORED q 1
    else modQp (wr s Obj.CR_RELEASED_SEQ q (n : Nat)) q (fun x => { x with crBusy := x.crBusy.filter (fun b => ahead b n) }))

/-- Free the CR slot that the next entry would take. -/
def freeNextSlot (s : State) (q : Nat) : State :=
  let n := seqNext (rdN s Obj.LAST_CR_SEQ q) % rdN s Obj.CR_SIZE q
  modQp s q (fun x => { x with crBusy := x.crBusy.filter (fun b => b % rdN s Obj.CR_SIZE q != n) })

/-- A ring or CR read fails with Unsupported Request, Completer Abort or poison: the QP enters HALTED (Table 07-13). -/
def haltQp (s : State) (q cause : Nat) : State :=
  let t := modQp (wr (wr s Obj.QP_STATE q (Qs.halted : Nat)) Obj.HALT_CAUSE q cause) q (fun x => { x with fetch := none, push := [] })
  if cause = 3 then t else raiseOpen t (ev 0x06 299) .error Src.qp q

/-- CR_SLOT_POLL: while the CR is full by the CR_RELEASE count, the next slot is read and found with this OWN (R279). Entries are still written in HALTED and RESETTING (R299, R300), so slots are freed there too; a QP that has ended its intake does not halt for a failing read. -/
def execCrSlotPoll (q : Nat) (own err : Bool) (s : State) : Host.Outcome State Fault Refusal :=
  .next (
    if !(crUsable s q && canMaster s (qpFn s q) && crFull s q) then s
    else if err then (if qpServing s q then haltQp s q 2 else s)
    else if own then freeNextSlot s q else s)

/-- QP_HALT: the intake stops with HALT_CAUSE OPERATOR (Table 07-13). -/
def execQpHalt (q : Nat) (s : State) : Host.Outcome State Fault Refusal :=
  .next (if qpServing s q then haltQp s q 3 else s)

end Sys2Proof.Machine
end

