-- ==== Sys2Proof/Machine/Checks.lean ====
section
/-! DEFINITION. Decoding a command and its checks 1 to 8 (R306 to R313), and the descriptor walk (R275, R311). -/

namespace Sys2Proof.Machine

open Sys2Proof

/-- I/O opcodes: those whose first entry names a volume (Table 08-1, R333). -/
def namesVolume (op : Nat) : Bool :=
  decide (1 ≤ op ∧ op ≤ 5) || op == 0x82 || op == 0x83

/-- The five commands that read, write or empty a volume on an I/O QP. -/
def dataOp (op : Nat) : Bool :=
  decide (1 ≤ op ∧ op ≤ 5)

/-- The QP carries a dictionary session: QPs 0 and 1, and local index 0 of a VF (R268). -/
def carriesSession (s : State) (q : Nat) : Bool :=
  decide (q < 2) || (decide (2 ≤ qpFn s q ∧ qpFn s q ≤ 1025) && rdN s Obj.QP_LOCAL_INDEX q == 0)

/-- Check 1: OPCODE defined and accepted on this QP (R306). -/
def opcodeAccepted (s : State) (q op : Nat) : Bool :=
  if 1 ≤ op ∧ op ≤ 5 then decide (q ≥ 2)
  else if op = 0x40 ∨ op = 0x41 then carriesSession s q
  else if op = 0x80 ∨ op = 0x81 ∨ op = 0x82 ∨ op = 0x83 then decide (q < 2)
  else false

/-- A descriptor without a reserved encoding or a nonzero reserved byte (Table 07-4). -/
def descFormed (d : Desc) : Bool :=
  decide (d.kind ≤ 2) && d.resv == 0

/-- Descriptor use by opcode (R307). -/
def descUse (op : Nat) (l : List Desc) : Bool :=
  if op = 1 ∨ op = 2 then true
  else if op = 0x40 ∨ op = 0x41 then (match l with
    | [a, b] => a.kind == 1 && b.kind == 1
    | _ => false)
  else l.all (fun d => d.kind == 0)

/-- The reserved parts of a continuation entry are zero (Tables 07-1 and 07-3). -/
def contReservedZero (e : SqEntry) : Bool :=
  e.flags == 0 && e.resv == 0 && e.volume == 0 && e.w1 == 0 && e.descsCont.all descFormed

/-- Check 2: reserved fields, reserved encodings, entry count and descriptor use (R307 to R309, R9). -/
def formOk (op : Nat) (chain : List SqEntry) : Bool :=
  match chain with
  | [] => false
  | f :: r =>
    f.resv == 0 && (namesVolume op || f.volume == 0) && fieldsReservedZero op f && f.descsFirst.all descFormed && r.all contReservedZero &&
      decide (f.flags &&& flagMask op = f.flags) && (r.isEmpty || op == 1 || op == 2) && descUse op (chainDescs chain)

/-- The volume is assigned to the function (R345). -/
def volAssigned (s : State) (v f : Nat) : Bool :=
  rdN s Obj.VOLUME_FUNCTION_A v == f || rdN s Obj.VOLUME_FUNCTION_B v == f

/-- A volume that holds nothing beyond its objects. -/
def Vol.empty : Vol :=
  { deleting := false, op := none, heldFor := 0 }

/-- The record of a volume. -/
def volOf (s : State) (v : Nat) : Vol :=
  Tbl.getD s.vols v Vol.empty

/-- Change the record of a volume. -/
def modVol (s : State) (v : Nat) (f : Vol → Vol) : State :=
  { s with vols := Tbl.set s.vols v (f (volOf s v)) }

/-- Check 3: the volume (Table 08-4). -/
def volumeOk (s : State) (q : Nat) (e : SqEntry) : Bool :=
  if e.opcode = 3 ∧ e.flags % 2 = 1 then e.volume == 0
  else
    let st := rdN s Obj.VOLUME_STATE e.volume
    (st == 1 || st == 2) && !(volOf s e.volume).deleting && volAssigned s e.volume (qpFn s q)

/-- Check 4: field ranges, the limits of ATOMIC and QP_NUMBER (Table 08-3, R319, R328). -/
def fieldsOk (s : State) (e : SqEntry) : Bool :=
  let op := e.opcode
  let n := nlbOf op e
  if op = 1 ∨ op = 2 then
    decide (1 ≤ n ∧ n ≤ 4096) &&
      (!(op == 2 && bitAt e.flags 1) ||
        (decide (n ≤ 256) && (rdN s Obj.VOLUME_GRAIN e.volume == 0 || (e.slba % 4 == 0 && n % 4 == 0))))
  else if op = 5 then decide (1 ≤ n ∧ n ≤ 65536)
  else if op = 4 then decide (1 ≤ n ∧ n ≤ 2 ^ 40)
  else if op = 0x80 ∨ op = 0x81 then decide (2 ≤ fld e.w1 0 16 ∧ fld e.w1 0 16 ≤ 8191)
  else true

/-- Check 5: the LBA range lies within the volume (R312). -/
def rangeOk (s : State) (e : SqEntry) : Bool :=
  if e.opcode = 1 ∨ e.opcode = 2 ∨ e.opcode = 4 ∨ e.opcode = 5 then decide (e.slba + nlbOf e.opcode e ≤ rdN s Obj.VOLUME_CAPACITY e.volume)
  else true

/-! ## DMA windows and the descriptor walk -/

/-- The windows of a QP that are in use: base and length (R311). -/
def windowsOf (s : State) (q : Nat) : List (Nat × Nat) :=
  ((List.range 16).map (fun w =>
    ((Tbl.getD s.dict.regs (objKey 0x2120 q (2 * w + 1)) 0).toNat, (Tbl.getD s.dict.regs (objKey 0x2120 q (2 * w + 2)) 0).toNat))).filter (fun p => p.2 != 0)

/-- Every byte from `a` up to `b` lies inside at least one window; `fuel` bounds the windows crossed. -/
def covered (ws : List (Nat × Nat)) (a b : Nat) : Nat → Bool
  | 0 => decide (b ≤ a)
  | n + 1 =>
    if b ≤ a then true
    else
      let e := (ws.filter (fun p => decide (p.1 ≤ a ∧ a < p.1 + p.2))).foldl (fun m p => max m (p.1 + p.2)) a
      if e ≤ a then false else covered ws e b n

/-- Check 7 for one buffer; QPs 0 and 1 carry no window check (R311). -/
def inWindows (s : State) (q a n : Nat) : Bool :=
  decide (q < 2) || covered (windowsOf s q) a (a + n) 16

/-- How far a descriptor walk has come. -/
structure Walk where
  data   : List Desc
  /-- A descriptor read so far breaks R275. -/
  broken : Bool
  /-- A DATA buffer lies outside the windows. -/
  outside : Bool
  /-- The list page to be read next. -/
  page   : Option Desc
deriving DecidableEq, Repr

/-- A LIST descriptor is well formed (R275). -/
def listFormed (d : Desc) : Bool :=
  decide (1 ≤ d.len ∧ d.len ≤ 256) && d.addr % 16 == 0 && decide (d.addr / 4096 = (d.addr + 16 * d.len - 1) / 4096)

/-- Walk descriptors in order, stopping at the first UNUSED one and at a LIST, which must be the last used (R275). -/
def walk (s : State) (q : Nat) : List Desc → Walk → Walk
  | [], w => w
  | d :: r, w =>
    if !descFormed d then { w with broken := true }
    else if d.kind = 0 then w
    else if d.kind = 1 then
      walk s q r { w with data := w.data ++ [d], broken := w.broken || !decide (1 ≤ d.len ∧ d.len ≤ 16777216) || decide (w.data.length ≥ 4096)
                          outside := w.outside || !inWindows s q d.addr d.len }
    else if !listFormed d || r.any (fun x => x.kind != 0) then { w with broken := true }
    else { w with page := some d }

/-- What a walk decides: a status, a further page to fetch, or the DATA descriptors (checks 6 and 7 as R311 orders them). -/
inductive WalkEnd
  | fail (status : Nat)
  | fetch (page : Desc)
  | done (data : List Desc)
deriving DecidableEq, Repr

/-- Decide a walk for a transfer of `n` bytes. -/
def walkEnd (s : State) (q n : Nat) (w : Walk) : WalkEnd :=
  if w.broken then .fail St.invalidField
  else match w.page with
    | some p => if inWindows s q p.addr (16 * p.len) then .fetch p else .fail St.dmaWindow
    | none =>
      if (w.data.map Desc.len).sum != n then .fail St.invalidField
      else if w.outside then .fail St.dmaWindow
      else .done w.data

/-- Check 8: the buffer lengths of a dictionary command (R332). -/
def dictLengths (l : List Desc) : Bool :=
  match l with
  | [a, b] => decide (16 ≤ a.len ∧ a.len ≤ 69632) && decide (24 ≤ b.len ∧ b.len ≤ 69632)
  | _ => false

/-- The command that a complete chain spells. -/
def cmdOf (e : SqEntry) (chain : List SqEntry) (takenAt : Nat) : Cmd :=
  { tag := e.tag, srSeq := e.srSeq, opcode := e.opcode, flags := e.flags, volume := e.volume, slba := e.slba, nlb := nlbOf e.opcode e, target := fld e.w1 0 16
    descs := chainDescs chain, page := none, phase := .waiting, takenAt := takenAt, admitNo := 0, wseq := 0, commitWait := false, rd := [], wr := [], wTotal := 0, lane := 0, wFirst := e.slba, cut := false, stream := false
    repaired := 0, lost := 0, warned := false, wait := none }

/-- Checks 1 to 5, in order: the first failing status (Table 08-4). -/
def earlyChecks (s : State) (q : Nat) (e : SqEntry) (chain : List SqEntry) : Option Nat :=
  if !opcodeAccepted s q e.opcode then some St.invalidOpcode
  else if !formOk e.opcode chain then some St.invalidField
  else if namesVolume e.opcode && !volumeOk s q e then some St.invalidField
  else if !fieldsOk s e then some St.invalidField
  else if !rangeOk s e then some St.lbaRange
  else none

/-- Put a command that has passed check 8 at the Sluice. -/
def enqueue (s : State) (q : Nat) (c : Cmd) : State :=
  modQp s q (fun x => { x with queue := x.queue ++ [c] })

/-- The address and length of a list page read. -/
def fetchPage (s : State) (q : Nat) (d : Desc) : State :=
  emit s (.hostRead (qpFn s q) d.addr (16 * d.len))

/-- Decode a complete chain: checks 1 to 8, then the Sluice (R310). -/
def decodeCmd (s : State) (q : Nat) (e : SqEntry) (chain : List SqEntry) (takenAt : Nat) : State :=
  let c := cmdOf e chain takenAt
  match earlyChecks s q e chain with
  | some st => buildCpl s q (cmdCpl s c st 0)
  | none =>
    if e.opcode = 1 ∨ e.opcode = 2 then
      match walkEnd s q (c.nlb * 4096) (walk s q c.descs { data := [], broken := false, outside := false, page := none }) with
      | .fail st => buildCpl s q (cmdCpl s c st 0)
      | .fetch p => fetchPage (enqueue s q { c with descs := (walk s q c.descs { data := [], broken := false, outside := false, page := none }).data, page := some p, phase := .decode }) q p
      | .done l => enqueue s q { c with descs := l }
    else if e.opcode = 0x40 ∨ e.opcode = 0x41 then
      (if c.descs.any (fun d => !decide (1 ≤ d.len ∧ d.len ≤ 16777216)) then buildCpl s q (cmdCpl s c St.invalidField 0)
      else if c.descs.any (fun d => !inWindows s q d.addr d.len) then buildCpl s q (cmdCpl s c St.dmaWindow 0)
      else if !dictLengths c.descs then buildCpl s q (cmdCpl s c St.invalidField 0)
      else enqueue s q c)
    else enqueue s q { c with descs := [] }

/-- The command of a QP at decode, by tag. -/
def decoding (s : State) (q tag : Nat) : Option Cmd :=
  (qpOf s q).queue.find? (fun c => c.tag == tag && c.phase == .decode)

/-- Change a decoded command. -/
def modQueued (s : State) (q tag : Nat) (f : Cmd → Cmd) : State :=
  modQp s q (fun x => { x with queue := x.queue.map (fun c => if c.tag = tag then f c else c) })

/-- LIST_PAGE_READ_COMPLETE: a list page returns and the walk goes on; an error ends the command (R311, R359). -/
def execListPageReadComplete (q tag : Nat) (page : Bytes) (err : Bool) (s : State) : Host.Outcome State Fault Refusal :=
  .next (match decoding s q tag with
    | none => s
    | some c =>
      match c.page with
      | none => s
      | some p =>
        if !canMaster s (qpFn s q) then s
        else if err then finish s q c St.dmaHalted 0
        else
          let w := walk s q (pageDescs p.len page) { data := c.descs, broken := false, outside := c.descs.any (fun d => !inWindows s q d.addr d.len), page := none }
          match walkEnd s q (c.nlb * 4096) w with
          | .fail st => finish s q c st 0
          | .fetch p' => fetchPage (modQueued s q tag (fun x => { x with descs := w.data, page := some p' })) q p'
          | .done l => modQueued s q tag (fun x => { x with descs := l, page := none, phase := .waiting }))

end Sys2Proof.Machine
end

