-- ==== Sys2Proof/Machine/Aes.lean ====
section
/-! DEFINITION. AES-256 (PRESUMED from FIPS 197), XTS-AES-256 (IEEE Std 1619-2018, R438), GMAC (NIST SP 800-38D, R439) and key check values (R455). -/

namespace Sys2Proof.Machine

/-! ## The block cipher -/

/-- Multiply by 0x02 in the AES field. -/
def aesDouble (a : Byte) : Byte :=
  if a.msb then (a <<< 1) ^^^ 0x1B#8 else a <<< 1

/-- Multiplication in the AES field by the low `n` bits of `b`. -/
def aesMulN (a b : Byte) : Nat → Byte
  | 0 => 0
  | n + 1 => (if b.getLsbD 0 then a else 0) ^^^ aesMulN (aesDouble a) (b >>> 1) n

/-- A power in the AES field. -/
def aesPow (a : Byte) : Nat → Byte
  | 0 => 1
  | n + 1 => aesMulN a (aesPow a n) 8

/-- The S-box of one byte: the affine map of its inverse. -/
def sboxOf (x : Byte) : Byte :=
  let b := aesPow x 254
  b ^^^ b.rotateLeft 1 ^^^ b.rotateLeft 2 ^^^ b.rotateLeft 3 ^^^ b.rotateLeft 4 ^^^ 0x63#8

/-- The S-box as a table. -/
def sbox : Array Byte :=
  ((List.range 256).map (fun i => sboxOf (BitVec.ofNat 8 i))).toArray

/-- The inverse S-box as a table. -/
def sboxInv : Array Byte :=
  ((List.range 256).map (fun i => BitVec.ofNat 8 ((sbox.toList.findIdx? (fun b => b == BitVec.ofNat 8 i)).getD 0))).toArray

/-- Substitute each byte. -/
def subBytes (t : Array Byte) (b : Bytes) : Bytes :=
  b.map (fun x => t.getD x.toNat 0)

/-- The byte permutation of ShiftRows, on a column-major block. -/
def shiftRows (b : Bytes) : Bytes :=
  (List.range 16).map (fun i => b.getD ((i + 4 * (i % 4)) % 16) 0)

/-- Its inverse. -/
def shiftRowsInv (b : Bytes) : Bytes :=
  (List.range 16).map (fun i => b.getD ((i + 16 - 4 * (i % 4)) % 16) 0)

/-- Multiply each column by a circulant matrix whose first row is `m`. -/
def mixColumns (m : Bytes) (b : Bytes) : Bytes :=
  (List.range 16).map (fun i =>
    (List.range 4).foldl (fun z j => z ^^^ aesMulN (b.getD (4 * (i / 4) + j) 0) (m.getD ((j + 4 - i % 4) % 4) 0) 4) 0)

/-- Word `i` of the expanded key, given the words before it. -/
def keyWord (w : List Bytes) (i : Nat) : Bytes :=
  let prev := w.getD (i - 1) (zeros 4)
  let t :=
    if i % 8 = 0 then xorBytes (subBytes sbox (prev.drop 1 ++ prev.take 1)) [aesPow 2 (i / 8 - 1), 0, 0, 0]
    else if i % 8 = 4 then subBytes sbox prev else prev
  xorBytes (w.getD (i - 8) (zeros 4)) t

/-- The 15 round keys of a 256-bit key. -/
def roundKeys (k : Bytes) : List Bytes :=
  let w0 := (List.range 8).map (fun i => slice k (4 * i) 4)
  let w := (List.range 52).foldl (fun w i => w ++ [keyWord w (i + 8)]) w0
  (List.range 15).map (fun r => (slice' w (4 * r) 4).flatten)
where
  /-- Words `o` to `o + n - 1`. -/
  slice' (w : List Bytes) (o n : Nat) : List Bytes := (w.drop o).take n

/-- Encrypt a block under round keys. -/
def aesEnc (rk : List Bytes) (b : Bytes) : Bytes :=
  let s := (List.range 13).foldl (fun x r => xorBytes (mixColumns [2, 3, 1, 1] (shiftRows (subBytes sbox x))) (rk.getD (r + 1) [])) (xorBytes b (rk.getD 0 []))
  xorBytes (shiftRows (subBytes sbox s)) (rk.getD 14 [])

/-- Decrypt a block under round keys. -/
def aesDec (rk : List Bytes) (b : Bytes) : Bytes :=
  let s := (List.range 13).foldl (fun x r => mixColumns [14, 11, 13, 9] (xorBytes (subBytes sboxInv (shiftRowsInv x)) (rk.getD (13 - r) []))) (xorBytes b (rk.getD 14 []))
  xorBytes (subBytes sboxInv (shiftRowsInv s)) (rk.getD 0 [])

/-! ## XTS (R438) -/

/-- Multiply the tweak by x: a little-endian shift with feedback 0x87. -/
def tweakNext (t : Bytes) : Bytes :=
  leBytes 16 ((2 * leNat t) % 2 ^ 128 ^^^ (if leNat t ≥ 2 ^ 127 then 0x87 else 0))

/-- Transform `n` blocks from the tweak `t` on. -/
def xtsBlocks (f : Bytes → Bytes) : Nat → Bytes → Bytes → Bytes
  | 0, _, _ => []
  | n + 1, t, b => xorBytes (f (xorBytes (b.take 16) t)) t ++ xtsBlocks f n (tweakNext t) (b.drop 16)

/-- The tweak: VOLUME_ID * 2^40 + LBA, little-endian. -/
def xtsTweak (vol lba : Nat) : Bytes :=
  leBytes 16 (vol * 2 ^ 40 + lba)

/-- Encrypt a sector under the 64-byte key. -/
def xtsEncrypt (key : Bytes) (vol lba : Nat) (b : Bytes) : Bytes :=
  xtsBlocks (aesEnc (roundKeys (key.take 32))) (b.length / 16) (aesEnc (roundKeys (slice key 32 32)) (xtsTweak vol lba)) b

/-- Decrypt a sector under the 64-byte key. -/
def xtsDecrypt (key : Bytes) (vol lba : Nat) (b : Bytes) : Bytes :=
  xtsBlocks (aesDec (roundKeys (key.take 32))) (b.length / 16) (aesEnc (roundKeys (slice key 32 32)) (xtsTweak vol lba)) b

/-! ## GMAC (R439) -/

/-- The 128-bit number of 16 bytes, first byte most significant. -/
def beNat (b : Bytes) : Nat :=
  b.foldl (fun a x => a * 256 + x.toNat) 0

/-- 16 bytes, most significant first. -/
def beBytes (n v : Nat) : Bytes :=
  (leBytes n v).reverse

/-- Multiplication in the GHASH field, from bit `n - 1` of `x` down. -/
def ghashMul (x : Nat) : Nat → Nat → Nat → Nat
  | 0, _, z => z
  | n + 1, v, z =>
    ghashMul x n (v / 2 ^^^ (if v % 2 = 1 then 0xE1 * 2 ^ 120 else 0)) (if bitAt x n then z ^^^ v else z)

/-- GHASH of whole blocks. -/
def ghash (h : Nat) : Nat → Nat → Bytes → Nat
  | 0, y, _ => y
  | n + 1, y, b => ghash h n (ghashMul (y ^^^ beNat (b.take 16)) 128 h 0) (b.drop 16)

/-- GMAC: GCM with an empty plaintext, a 96-bit IV and a 128-bit tag. -/
def gmac (key iv aad : Bytes) : Bytes :=
  let rk := roundKeys key
  let h := beNat (aesEnc rk (zeros 16))
  let padded := aad ++ zeros ((16 - aad.length % 16) % 16) ++ beBytes 8 (8 * aad.length) ++ zeros 8
  beBytes 16 (ghash h (padded.length / 16) 0 padded ^^^ beNat (aesEnc rk (iv ++ [0, 0, 0, 1])))

/-- The IV of a sector: WRITE_SEQ, VOLUME_ID, KEY_GEN and a zero byte. -/
def gmacIv (wseq vol gen : Nat) : Bytes :=
  leBytes 8 wseq ++ leBytes 2 vol ++ leBytes 1 gen ++ [0]

/-! ## Key check values (R455) -/

/-- The XTS check value: bytes 0 to 2 of AES under Key1 of AES under Key2 of zero. -/
def kcvXts (key : Bytes) : Nat :=
  beNat ((aesEnc (roundKeys (key.take 32)) (aesEnc (roundKeys (slice key 32 32)) (zeros 16))).take 3)

/-- The GMAC check value: bytes 0 to 2 of AES under the GMAC key of sixteen 0xFF bytes. -/
def kcvGmac (key : Bytes) : Nat :=
  beNat ((aesEnc (roundKeys key) (List.replicate 16 0xFF)).take 3)

end Sys2Proof.Machine
end

