-- ==== Sys2Proof/Machine/Media.lean ====
section
/-! DEFINITION. On-media formats: sector metadata, map entries and pages, superblocks, segment headers, stripe tables and trailers (Tables 03-9 to 03-17 and 04-2 to 04-6). -/

namespace Sys2Proof.Machine

/-! Values of KIND (Table 03-11). -/

def Kind.data : Nat := 0
def Kind.globalParity : Nat := 1
def Kind.localParity : Nat := 2
def Kind.fill : Nat := 3
def Kind.mapPage : Nat := 4
def Kind.superblock : Nat := 5
def Kind.header : Nat := 6
def Kind.table : Nat := 7
def Kind.trailer : Nat := 8

/-! Placement classes (Table 04-1). -/

def Cls.host : Nat := 0
def Cls.dredge : Nat := 1
def Cls.rebuild : Nat := 2
def Cls.metadata : Nat := 3

/-! ## Sector metadata -/

/-- Metadata with every field zero. -/
def Meta.zero : Meta :=
  { tag := zeros 16, guard := 0, atomic := false, badData := false, encrypted := false, tagged := false, vol := 0, lba := 0, wseq := 0, stripeLow := 0,
    keySlot := 0, keyGen := 0, relocated := false, cls := 0, kind := 0 }

/-- LOGICAL_ADDRESS of a sector (Table 03-10). -/
def Meta.address (m : Meta) : Nat :=
  b2n m.atomic * 2 ^ 63 + b2n m.badData * 2 ^ 62 + b2n m.encrypted * 2 ^ 61 + b2n m.tagged * 2 ^ 60 + m.vol % 4096 * 2 ^ 40 + m.lba % 2 ^ 40

/-- SECTOR_CLASS (Table 03-11). -/
def Meta.sectorClass (m : Meta) : Nat :=
  b2n m.relocated * 128 + m.cls % 8 * 16 + m.kind % 16

/-- The 64 metadata bytes (Table 03-9). -/
def Meta.bytes (m : Meta) : Bytes :=
  padTo 16 m.tag ++ leBytes 8 m.guard ++ leBytes 8 m.address ++ leBytes 8 m.wseq ++ leBytes 4 m.stripeLow ++ leBytes 2 m.keySlot ++ leBytes 1 m.keyGen ++
    leBytes 1 m.sectorClass ++ zeros 16

/-- The metadata that 64 bytes spell; reserved bits are ignored (R11). -/
def parseMeta (b : Bytes) : Meta :=
  let a := fieldAt b 24 8
  let c := fieldAt b 47 1
  { tag := slice b 0 16, guard := fieldAt b 16 8, atomic := bitAt a 63, badData := bitAt a 62, encrypted := bitAt a 61, tagged := bitAt a 60
    vol := bitsAt a 40 12, lba := bitsAt a 0 40, wseq := fieldAt b 32 8, stripeLow := fieldAt b 40 4, keySlot := fieldAt b 44 2, keyGen := fieldAt b 46 1
    relocated := bitAt c 7, cls := bitsAt c 4 3, kind := bitsAt c 0 4 }

/-- The parity-covered bytes of the metadata: 0–15, 24–39 and 44–46 (R111). -/
def coveredBytes (b : Bytes) : Bytes :=
  slice b 0 16 ++ slice b 24 16 ++ slice b 44 3

/-- The parity-covered fields of `m` replaced by what 35 coded bytes spell. -/
def withCovered (m : Meta) (c : Bytes) : Meta :=
  { parseMeta (slice c 0 16 ++ zeros 8 ++ slice c 16 16 ++ zeros 4 ++ slice c 32 3 ++ zeros 17) with
    guard := m.guard, stripeLow := m.stripeLow, relocated := m.relocated, cls := m.cls, kind := m.kind }

/-- The metadata bytes of a parity sector whose covered bytes are `c`; reserved bits of a coded field may be nonzero, so they are kept as bytes (R130). -/
def parityMeta (c : Bytes) (guard stripeLow cls kind : Nat) (relocated : Bool) : Bytes :=
  slice c 0 16 ++ leBytes 8 guard ++ slice c 16 16 ++ leBytes 4 stripeLow ++ slice c 32 3 ++ leBytes 1 (b2n relocated * 128 + cls % 8 * 16 + kind % 16) ++ zeros 16

/-- The metadata of a fill sector of a stripe (R109). -/
def fillMeta (stripe cls : Nat) (relocated : Bool) : Meta :=
  { Meta.zero with stripeLow := stripe % 2 ^ 32, cls := cls, kind := Kind.fill, relocated := relocated }

/-- Metadata of superblock, header, table and trailer sectors: GUARD, KIND and CLASS 0b011. -/
def structMeta (kind : Nat) (payload : Bytes) : Meta :=
  { Meta.zero with guard := crc64 payload, cls := Cls.metadata, kind := kind }

/-- A sector as written to a member: payload and metadata inline (Table 10-2). -/
def sectorBytes (payload : Bytes) (m : Meta) : Bytes :=
  payload ++ m.bytes

/-- The payload of 4,160 bytes. -/
def payloadOf (b : Bytes) : Bytes :=
  b.take 4096

/-- The metadata of 4,160 bytes. -/
def metaOf (b : Bytes) : Meta :=
  parseMeta (slice b 4096 64)

/-! ## Map entries and pages -/

/-- The 64 bits of a map entry (Table 04-2). -/
def Entry.bits : Entry → Nat
  | .unmapped => 0
  | .array slot zs col => 2 ^ 62 + slot % 2 ^ 30 * 2 ^ 26 + zs % 2 ^ 20 * 2 ^ 6 + col % 2 ^ 6
  | .prot slot => 2 ^ 63 + slot % 2 ^ 56
  | .lost => 3 * 2 ^ 62

/-- The map entry that 64 bits spell. -/
def parseEntry (v : Nat) : Entry :=
  if bitsAt v 62 2 = 0 then .unmapped
  else if bitsAt v 62 2 = 1 then .array (bitsAt v 26 30) (bitsAt v 6 20) (bitsAt v 0 6)
  else if bitsAt v 62 2 = 2 then .prot (bitsAt v 0 56)
  else .lost

/-- PAGE_TYPE values (Table 04-3). -/
def Page.leaf : Nat := 1
def Page.directory : Nat := 2
def Page.segDir : Nat := 3
def Page.root : Nat := 4
def Page.checkpoint : Nat := 5

/-- LOGICAL_ADDRESS of a map page (Table 04-3). -/
def pageAddress (type vol number : Nat) : Nat :=
  type % 16 * 2 ^ 56 + vol % 4096 * 2 ^ 40 + number % 2 ^ 40

/-- The metadata bytes of a map page: the page's address in place of Table 03-10 (R150). -/
def pageMeta (type vol number wseq stripeLow guard : Nat) (relocated : Bool) : Bytes :=
  zeros 16 ++ leBytes 8 guard ++ leBytes 8 (pageAddress type vol number) ++ leBytes 8 wseq ++ leBytes 4 stripeLow ++ zeros 3 ++
    leBytes 1 (b2n relocated * 128 + Cls.metadata * 16 + Kind.mapPage) ++ zeros 16

/-- A leaf page: 512 entries (R150). -/
def leafBytes (es : List Entry) : Bytes :=
  es.flatMap (fun e => leBytes 8 e.bits)

/-- The 512 entries of a leaf page. -/
def parseLeaf (b : Bytes) : List Entry :=
  (List.range 512).map (fun i => parseEntry (fieldAt b (8 * i) 8))

/-- A column locator: member slot and zone. -/
def locator (c : Nat × Nat) : Nat :=
  c.1 % 64 * 2 ^ 26 + c.2 % 2 ^ 26

/-- A segment directory entry (Table 04-4). -/
def segDirBytes (g : Option Seg) (live : Nat) : Bytes :=
  match g with
  | none => zeros 512
  | some x =>
    leBytes 8 x.seq ++ leBytes 1 x.st ++ leBytes 1 x.cls ++ leBytes 1 x.cols.length ++ leBytes 1 x.table ++ leBytes 1 x.k ++ leBytes 1 x.m ++ leBytes 1 x.l ++
      leBytes 1 x.f ++ leBytes 4 live ++ zeros 4 ++ padTo 256 (x.cols.flatMap (fun c => leBytes 4 (locator c))) ++ zeros 232

/-- Triple pointer (Table 04-5): the locators of three M3 columns and the zone sector. -/
def triple (cols : List (Nat × Nat)) (zs : Nat) : Bytes :=
  padTo 12 ((cols.take 3).flatMap (fun c => leBytes 4 (locator c))) ++ leBytes 4 zs

/-- ASCII "NRBCHKPT", "NRBSUPER", "NRBSEGMT" and "NRBSEGTR". -/
def Sig.checkpoint : Bytes := ascii [0x4E, 0x52, 0x42, 0x43, 0x48, 0x4B, 0x50, 0x54]
def Sig.super : Bytes := ascii [0x4E, 0x52, 0x42, 0x53, 0x55, 0x50, 0x45, 0x52]
def Sig.segment : Bytes := ascii [0x4E, 0x52, 0x42, 0x53, 0x45, 0x47, 0x4D, 0x54]
def Sig.trailer : Bytes := ascii [0x4E, 0x52, 0x42, 0x53, 0x45, 0x47, 0x54, 0x52]

/-- A checkpoint page (Table 04-6). -/
def checkpointBytes (uuid : Bytes) (number cutStripe seqHigh cursor : Nat) (root : Bytes) (pages : Nat) : Bytes :=
  let b := Sig.checkpoint ++ leBytes 2 1 ++ zeros 6 ++ padTo 16 uuid ++ leBytes 8 number ++ leBytes 8 cutStripe ++ leBytes 8 seqHigh ++ leBytes 8 cursor ++
    padTo 16 root ++ leBytes 4 pages ++ zeros 4004
  b ++ leBytes 8 (crc64 b)

/-- A structure is valid: its SIGNATURE and FORMAT_VERSION (R607). -/
def formatOk (sig b : Bytes) : Bool :=
  b.take 8 == sig && fieldAt b 8 2 == 1

/-- A checkpoint page is valid: R607 and CHECKPOINT_CRC. -/
def checkpointOk (b : Bytes) : Bool :=
  formatOk Sig.checkpoint b && fieldAt b 4088 8 == crc64 (b.take 4088)

/-! ## Superblock -/

/-- A member table entry (Table 03-13). -/
structure SbMember where
  st    : Nat
  nsid  : Nat
  nguid : Bytes
  eui   : Nat
  zones : Nat
  join  : Nat
deriving DecidableEq, Repr

/-- A volume record (Table 03-14). -/
structure SbVolume where
  keySlot : Nat
  tagged  : Bool
  grain16 : Bool
  held    : Bool
  present : Bool
  cap     : Nat
deriving DecidableEq, Repr

/-- The fields of a superblock (Table 03-12). -/
structure Super where
  uuid    : Bytes
  gen     : Nat
  creator : Bytes
  pool    : Nat
  table   : Nat
  k       : Nat
  m       : Nat
  l       : Nat
  f       : Nat
  width   : Nat
  slots   : Nat
  height  : Nat
  reserve : Nat
  overProv : Nat
  sectors : Nat
  zones   : Nat
  kind    : Nat
  reshape : Bool
  segFloor : Nat
  strFloor : Nat
  seqFloor : Nat
  cursor  : Nat
  code    : CodeTbl
  members : List SbMember
  /-- Present volumes, by id. -/
  volumes : Tbl SbVolume
deriving DecidableEq, Repr

/-- A member table entry as bytes. -/
def SbMember.bytes (x : SbMember) : Bytes :=
  leBytes 1 x.st ++ zeros 3 ++ leBytes 4 x.nsid ++ padTo 16 x.nguid ++ leBytes 8 x.eui ++ leBytes 4 x.zones ++ zeros 4 ++ leBytes 8 x.join ++ zeros 16

/-- The member table entry that 64 bytes spell. -/
def parseMember (b : Bytes) : SbMember :=
  { st := fieldAt b 0 1, nsid := fieldAt b 4 4, nguid := slice b 8 16, eui := fieldAt b 24 8, zones := fieldAt b 32 4, join := fieldAt b 40 8 }

/-- A volume record as a number. -/
def SbVolume.bits (x : SbVolume) : Nat :=
  x.keySlot % 65536 * 2 ^ 48 + b2n x.tagged * 2 ^ 43 + b2n x.grain16 * 2 ^ 42 + b2n x.held * 2 ^ 41 + b2n x.present * 2 ^ 40 + x.cap % 2 ^ 40

/-- The volume record that a number spells. -/
def parseVolume (v : Nat) : SbVolume :=
  { keySlot := bitsAt v 48 16, tagged := bitAt v 43, grain16 := bitAt v 42, held := bitAt v 41, present := bitAt v 40, cap := bitsAt v 0 40 }

/-- The record of a volume that is not of this pool: KEY_SLOT 0xFFFF, all else zero. -/
def SbVolume.absent : SbVolume :=
  { keySlot := 0xFFFF, tagged := false, grain16 := false, held := false, present := false, cap := 0 }

/-- The 65,536 bytes of a superblock, with SB_CRC (Table 03-12). -/
def Super.bytes (x : Super) : Bytes :=
  let head := Sig.super ++ leBytes 2 1 ++ leBytes 2 16 ++ zeros 4 ++ padTo 16 x.uuid ++ leBytes 8 x.gen ++ padTo 16 x.creator ++ leBytes 1 x.pool ++ leBytes 1 x.table ++
    leBytes 1 x.k ++ leBytes 1 x.m ++ leBytes 1 x.l ++ leBytes 1 x.f ++ leBytes 1 x.width ++ leBytes 1 x.slots ++ leBytes 2 x.height ++ leBytes 1 x.reserve ++
    leBytes 1 x.overProv ++ leBytes 4 x.sectors ++ leBytes 4 x.zones ++ leBytes 1 x.kind ++ leBytes 1 (b2n x.reshape) ++ zeros 2 ++ leBytes 8 x.segFloor ++
    leBytes 8 x.strFloor ++ leBytes 8 x.seqFloor ++ leBytes 8 x.cursor ++ zeros 392
  let tail := x.code.bytes ++ zeros 2816 ++ padTo 4096 (x.members.flatMap SbMember.bytes) ++ zeros 24576 ++
    (List.range 4096).flatMap (fun v => leBytes 8 (Tbl.getD x.volumes v SbVolume.absent).bits)
  head ++ leBytes 8 (crc64 (head ++ zeros 8 ++ tail)) ++ tail

/-- A superblock copy is valid (R607, R98). -/
def superOk (b : Bytes) : Bool :=
  decide (b.length = 65536) && formatOk Sig.super b && fieldAt b 504 8 == crc64 (b.take 504 ++ zeros 8 ++ b.drop 512)

/-- The superblock that 65,536 bytes spell. -/
def parseSuper (b : Bytes) : Super :=
  { uuid := slice b 16 16, gen := fieldAt b 32 8, creator := slice b 40 16, pool := fieldAt b 56 1, table := fieldAt b 57 1, k := fieldAt b 58 1
    m := fieldAt b 59 1, l := fieldAt b 60 1, f := fieldAt b 61 1, width := fieldAt b 62 1, slots := fieldAt b 63 1, height := fieldAt b 64 2
    reserve := fieldAt b 66 1, overProv := fieldAt b 67 1, sectors := fieldAt b 68 4, zones := fieldAt b 72 4, kind := fieldAt b 76 1, reshape := bitAt (fieldAt b 77 1) 0
    segFloor := fieldAt b 80 8, strFloor := fieldAt b 88 8, seqFloor := fieldAt b 96 8, cursor := fieldAt b 104 8, code := parseTable (slice b 512 768)
    members := (List.range 64).map (fun i => parseMember (slice b (4096 + 64 * i) 64))
    volumes := ((List.range 4096).map (fun v => (v, parseVolume (fieldAt b (32768 + 8 * v) 8)))).filter (fun p => p.2.present) }

/-! ## Segments -/

/-- T(x): stripe-table sectors for x stripes (R107). -/
def tableSectors (n : Nat) : Nat :=
  (n + 63) / 64

/-- A segment header (Table 03-15). -/
def headerBytes (uuid : Bytes) (sbGen : Nat) (g : Seg) (column : Nat) : Bytes :=
  let b := Sig.segment ++ leBytes 2 1 ++ leBytes 1 column ++ leBytes 1 (g.cls % 8) ++ zeros 4 ++ padTo 16 uuid ++ leBytes 8 g.seq ++ leBytes 8 sbGen ++
    leBytes 1 g.table ++ leBytes 1 g.k ++ leBytes 1 g.m ++ leBytes 1 g.l ++ leBytes 1 g.cols.length ++ leBytes 1 g.f ++ leBytes 2 g.height ++ leBytes 4 g.sectors ++
    zeros 4 ++ (g.cols.flatMap (fun c => leBytes 1 c.1) ++ List.replicate (64 - g.cols.length) 0xFF) ++
    padTo 256 (g.cols.flatMap (fun c => leBytes 4 c.2)) ++ zeros 3704
  b ++ leBytes 8 (crc64 b)

/-- A stripe header (Table 03-16). -/
def StripeHdr.bytes (h : StripeHdr) : Bytes :=
  let b := leBytes 8 h.id ++ leBytes 4 h.first ++ leBytes 2 h.height ++ leBytes 1 h.reason ++ leBytes 1 h.flags ++ leBytes 8 h.fws ++ leBytes 8 h.lws ++
    leBytes 2 h.count ++ zeros 22
  b ++ leBytes 8 (crc64 b)

/-- The stripe-table sectors of a segment, one payload (R135). -/
def stripeTable (g : Seg) : Bytes :=
  padTo (4096 * tableSectors g.hdrs.length) (g.hdrs.flatMap StripeHdr.bytes)

/-- GAP_SECTORS of a sealed segment (R134). -/
def gapSectors (g : Seg) : Nat :=
  g.sectors - 1 - g.next - tableSectors g.hdrs.length

/-- A segment trailer (Table 03-17). -/
def trailerBytes (uuid : Bytes) (g : Seg) (column : Nat) : Bytes :=
  let b := Sig.trailer ++ leBytes 2 1 ++ leBytes 1 column ++ zeros 1 ++ leBytes 4 g.hdrs.length ++ leBytes 8 g.seq ++ leBytes 4 g.next ++
    leBytes 4 (tableSectors g.hdrs.length) ++ padTo 16 uuid ++ leBytes 4 (gapSectors g) ++ zeros 4036
  b ++ leBytes 8 (crc64 (stripeTable g ++ b))

/-- A segment header is valid (R607). -/
def headerOk (b : Bytes) : Bool :=
  formatOk Sig.segment b && fieldAt b 4088 8 == crc64 (b.take 4088)

/-- A trailer is valid against the stripe-table payloads (R607). -/
def trailerOk (tbl b : Bytes) : Bool :=
  formatOk Sig.trailer b && fieldAt b 4088 8 == crc64 (tbl ++ b.take 4088)

end Sys2Proof.Machine
end

