-- ==== Sys2Proof/Machine/Members.lean ====
section
/-! DEFINITION. Pools and their members: records, conditions and the issue of member commands (R100, R101, R145, R383, R388, R396, R397). -/

namespace Sys2Proof.Machine

open Sys2Proof

/-! ## Records -/

/-- A pool that holds nothing. -/
def Pool.empty : Pool :=
  { creator := [], zm := 0, sectors := 0, custom := none, table := none, edited := false, draining := [], nextSeg := 1, nextStripe := 1, segs := [], stripes := [], lanes := [], zones := [], joined := [], atomics := [],
    action := none, ckpt := none, ckptAgain := false, since := 0, cutRec := 0, mapHold := false, leafHold := false, logHold := false, lost := [], lostStripes := [], reshape := none,
    patrol := { slot := 0, idx := 0, started := 0 }, resync := none, sweep := none, mediaErrs := [], sbLeft := 0, staged := [], catchUp := false, grains := [], pages := [], dirtyPages := [], sbNext := [], zonesOf := [], sbWait := [], logless := false }

/-- The record of a pool. -/
def poolOf (s : State) (p : Nat) : Pool :=
  Tbl.getD s.pools p Pool.empty

/-- Replace the record of a pool. -/
def setPool (s : State) (p : Nat) (x : Pool) : State :=
  { s with pools := Tbl.set s.pools p x }

/-- Change the record of a pool. -/
def modPool (s : State) (p : Nat) (f : Pool → Pool) : State :=
  setPool s p (f (poolOf s p))

/-- The instance of a member slot (R123). -/
def mInst (p slot : Nat) : Nat :=
  64 * p + slot

/-- MEMBER_STATE of a member slot. -/
def mState (s : State) (p slot : Nat) : Nat :=
  rdN s Obj.MEMBER_STATE (mInst p slot)

/-! Member states (Table 03-8). -/

def Ms.active : Nat := 1
def Ms.failed : Nat := 2
def Ms.removed : Nat := 3
def Ms.contained : Nat := 4
def Ms.none : Nat := 0xFF

/-- The drive port of a member slot. -/
def mPort (s : State) (p slot : Nat) : Nat :=
  rdN s Obj.MEMBER_PORT (mInst p slot)

/-- Member slots of a pool in a given state, in slot order. -/
def slotsIn (s : State) (p st : Nat) : List Nat :=
  (List.range 64).filter (fun i => mState s p i == st)

/-- Member slots of a pool that name a port. -/
def slotsUsed (s : State) (p : Nat) : List Nat :=
  (List.range 64).filter (fun i => mPort s p i != 0xFF)

/-- N: the members of a pool that are ACTIVE, FAILED or CONTAINED (R94). -/
def memberCount (s : State) (p : Nat) : Nat :=
  ((List.range 64).filter (fun i => let m := mState s p i; m == Ms.active || m == Ms.failed || m == Ms.contained)).length

/-! ## Pool conditions (R100, R101) -/

/-! Bits of POOL_CONDITIONS. -/

def Pc.online : Nat := 0
def Pc.degraded : Nat := 1
def Pc.rebuilding : Nat := 2
def Pc.reshaping : Nat := 3
def Pc.resync : Nat := 4
def Pc.locked : Nat := 5
def Pc.failed : Nat := 6

/-! Values of POOL_STATE. -/

def Ps.offline : Nat := 0
def Ps.failed : Nat := 6
def Ps.notConfigured : Nat := 0xFF

/-- POOL_STATE by the first condition that holds (R101). -/
def reportedState (c : Nat) : Nat :=
  if bitAt c Pc.failed then 6 else if bitAt c Pc.locked then 7 else if bitAt c Pc.resync then 5 else if bitAt c Pc.rebuilding then 3
  else if bitAt c Pc.degraded then 2 else if bitAt c Pc.reshaping then 4 else 1

/-- A condition bit of a pool. -/
def poolCond (s : State) (p b : Nat) : Bool :=
  bitAt (rdN s Obj.POOL_CONDITIONS p) b

/-- POOL_STATE. -/
def poolState (s : State) (p : Nat) : Nat :=
  rdN s Obj.POOL_STATE p

/-- The pool's state lets it serve: not NOT_CONFIGURED, OFFLINE or FAILED (check 9 of Table 08-4). For a PARTNER the state is its owner's (R415). -/
def poolUp (s : State) (p : Nat) : Bool :=
  let x := poolState s p
  x != Ps.notConfigured && x != Ps.offline && x != Ps.failed

/-- This controller serves the pool, or is about to: the state lets it, and the pool is not the partner's (roles 3 PARTNER and 4 FENCED). -/
def poolServes (s : State) (p : Nat) : Bool :=
  poolUp s p && decide (rdN s Obj.PAIR_POOL_ROLE p < 3)

/-- A bit set or cleared in a number. -/
def withBit (c b : Nat) (on : Bool) : Nat :=
  if bitAt c b = on then c else if on then c + 2 ^ b else c - 2 ^ b

/-- Set or clear a condition; a serving pool's reported state follows (R101). -/
def setCond (s : State) (p b : Nat) (on : Bool) : State :=
  let c := withBit (rdN s Obj.POOL_CONDITIONS p) b on
  let t := wr s Obj.POOL_CONDITIONS p c
  if poolState s p = Ps.offline ∨ poolState s p = Ps.notConfigured then t
  else
    let u := wr t Obj.POOL_STATE p (reportedState c : Nat)
    if reportedState c = Ps.failed ∧ poolState s p ≠ Ps.failed then signalPme u 2 else u

/-! ## Issuing member commands -/

/-- A drive port that has seen nothing. -/
def DPort.empty : DPort :=
  { seated := false, debounced := false, linkUp := false, released := false, admStep := 0, resetting := false, retrying := false, ready := false, ctrl := none, ns := [], formatted := false, zones := 0, eui := 0, sb := [], sbSlot := 0 }

/-- The record of a drive port. -/
def dportOf (s : State) (n : Nat) : DPort :=
  Tbl.getD s.drv.ports n DPort.empty

/-- Change the record of a drive port. -/
def modDPort (s : State) (n : Nat) (f : DPort → DPort) : State :=
  { s with drv := { s.drv with ports := Tbl.set s.drv.ports n (f (dportOf s n)) } }

/-! Values of DPORT_STATE (Table 10-7). -/

def Dp.noLanes : Nat := 0
def Dp.empty : Nat := 1
def Dp.training : Nat := 2
def Dp.admitting : Nat := 3
def Dp.ready : Nat := 4
def Dp.refused : Nat := 5
def Dp.held : Nat := 6
def Dp.contained : Nat := 7

/-- The opcodes that pass the drive write gate (R396). -/
def gatedOp : MOp → Bool
  | .write .. => true
  | .writeZeroes .. => true
  | .flush => true
  | .deallocate _ => true
  | .deallocateAll => true
  | .zoneReset _ => true
  | .zoneResetAll => true
  | .format => true
  | .resRegister => true
  | .resAcquire _ => true
  | .resRelease => true
  | _ => false

/-- The zone a write goes to. -/
def writeZone : MOp → Option Nat
  | .write z _ _ _ _ => some z
  | .writeZeroes z _ _ => some z
  | _ => none

/-- A command that occupies the drive's queue. -/
def occupies (c : MCmd) : Bool :=
  c.st == .placed || c.st == .aborting

/-- Commands outstanding to a drive. -/
def inflight (s : State) (port : Nat) : Nat :=
  (s.drv.cmds.filter (fun e => e.2.port == port && occupies e.2)).length

/-- On ZNS members a write waits for the earlier writes of its zone (R145). -/
def zoneBusy (s : State) (id : Nat) (c : MCmd) : Bool :=
  match writeZone c.op with
  | none => false
  | some z => (rdN s Obj.DRIVE_KIND c.port == 1) && s.drv.cmds.any (fun e => e.1 < id && e.2.port == c.port && writeZone e.2.op == some z)

/-- The drive write gate is not open (R397). -/
def gateShut (s : State) : Bool :=
  rdN s Obj.DRIVE_GATE_STATE 0 != 0

/-- The pool that a member command serves. -/
def purpPool : Purp → Option Nat
  | .sector _ p .. => some p
  | .source .. => none
  | .leaf p .. => some p
  | .column p .. => some p
  | .segment p _ => some p
  | .zone p .. => some p
  | .superblock p _ => some p
  | .action p _ => some p
  | .add p _ => some p
  | .takeover p _ => some p
  | _ => none

/-- Replace a member command. -/
def setMCmd (s : State) (id : Nat) (c : MCmd) : State :=
  { s with drv := { s.drv with cmds := Tbl.set s.drv.cmds id c } }

/-! ### Shares of a drive's queue (R240, R383) -/

/-- The order in Table 06-4 of work on a segment of a pool: rebuild of a segment whose erased columns reach its tolerance, or of another; a sweep, reshape or rebalance; the Dredger's own, URGENT or not. Zero: no background work. -/
def workOn (s : State) (p slot : Nat) (rebuild : Bool) : Nat :=
  let gone (g : Seg) : Nat := (g.cols.filter (fun c => let m := mState s p c.1; m == Ms.failed || m == Ms.removed)).length
  let x := poolOf s p
  if rebuild then (match Tbl.get x.segs slot with
    | some g => if g.f ≤ gone g then 1 else 2
    | none => 2)
  else if rdN s Obj.DREDGE_STATE p = 2 then 3
  else if x.reshape.isSome ∨ x.sweep.isSome then 5 else 6

/-- The order in Table 06-4 of what a sector is read for. -/
def wantWork (s : State) (p slot : Nat) : Want → Nat
  | .rebuild => workOn s p slot true
  | .dredge _ => workOn s p slot false
  | .page .. => workOn s p slot (match Tbl.get (poolOf s p).segs slot with
    | some g => g.cols.any (fun c => mState s p c.1 == Ms.failed)
    | none => false)
  | _ => 0

/-- The order in Table 06-4 of a member command, with its pool. -/
def workOf (s : State) (c : MCmd) : Nat × Nat :=
  match c.purp with
  | .sector w p _ _ slot _ _ => (wantWork s p slot w, p)
  | .source job _ => (match Tbl.get s.drv.jobs job with
    | some j => (wantWork s j.pool j.slot j.want, j.pool)
    | none => (0, 0))
  | .column p id _ => (match Tbl.get (poolOf s p).stripes id with
    | some x => if x.cls = Cls.rebuild then 2 else if x.cls = Cls.dredge then workOn s p x.seg false else 0
    | none => 0, p)
  | _ => (0, 0)

/-- What background work of an order may hold of `d` places: all above the host's floor, which order 1 may take down to 10%; ordinary rebuild by REBUILD_PRIORITY. Shares are rounded down, with a minimum of one. -/
def shareOf (s : State) (p d work : Nat) : Nat :=
  let floor := rdN s Obj.REBUILD_HOST_FLOOR p
  max 1 (
    if work = 1 then d * (100 - min floor 10) / 100
    else if work = 2 then
      (if rdN s Obj.REBUILD_PRIORITY p = 0 then d * 10 / 100 else if rdN s Obj.REBUILD_PRIORITY p = 1 then d * 30 / 100 else d * (100 - floor) / 100)
    else d * (100 - floor) / 100)

/-- A background command finds its share of a drive's queue taken: by work of its own order, or by all background work down to the host's floor. -/
def shareTaken (s : State) (c : MCmd) : Bool :=
  let w := workOf s c
  if w.1 = 0 then false
  else
    let d := rdN s Obj.DRIVE_QUEUE_DEPTH c.port
    let l := (s.drv.cmds.filter (fun e => e.2.port == c.port && occupies e.2)).map (fun e => (workOf s e.2).1)
    decide (shareOf s w.2 d w.1 ≤ (l.filter (fun n => n == w.1)).length) ||
      decide (shareOf s w.2 d (if w.1 = 1 then 1 else 3) ≤ (l.filter (fun n => n != 0)).length)

/-- Put a command where it may stand now: on a frozen port, at the gate, waiting, or in the drive's queue. -/
def place (s : State) (id : Nat) (c : MCmd) : State :=
  if rdN s Obj.DPORT_STATE c.port = Dp.contained then bump (setMCmd s id { c with st := .held }) Obj.DPORT_HELD_COMMANDS c.port 1
  else if gatedOp c.op && gateShut s then bump (setMCmd s id { c with st := .gated }) Obj.DRIVE_GATE_HELD 0 1
  else if decide (inflight s c.port ≥ rdN s Obj.DRIVE_QUEUE_DEPTH c.port) || (dportOf s c.port).resetting || zoneBusy s id c || shareTaken s c then setMCmd s id { c with st := .waiting, issued := if c.st = .waiting then c.issued else s.now }
  else
    let w := if c.st = .waiting then countDev s (Dc.portWait + c.port) ((s.now - c.issued) * 100) else s
    let t := countDev (setMCmd w id { c with st := .placed, issued := s.now }) (Dc.portCommands + c.port) 1
    emit (bump (bump t Obj.DPORT_INFLIGHT c.port 1) Obj.DRIVE_INFLIGHT_TOTAL 0 1) (.member id c.port c.op)

/-- Issue a command to a drive; its id is `s.drv.nextCmd`. -/
def issue (s : State) (port : Nat) (op : MOp) (purp : Purp) : State :=
  let id := s.drv.nextCmd
  place { s with drv := { s.drv with nextCmd := id + 1 } } id
    { port := port, op := op, purp := purp, st := .waiting, issued := s.now, retries := 0, recFrom := none, begun := false }

/-- Issue a command to the member in a slot of a pool. -/
def issueTo (s : State) (p slot : Nat) (op : MOp) (purp : Purp) : State :=
  issue s (mPort s p slot) op purp

/-- Place the commands of a port that wait for depth, for their share or for their zone: by the order of Table 06-4, host commands first, and the oldest first. -/
def pump (s : State) (port : Nat) : State :=
  forEach (sortBy (fun e => (workOf s e.2).1) (s.drv.cmds.filter (fun e => e.2.port == port && e.2.st == .waiting))) (fun e t => place t e.1 e.2) s

/-- Forget a command that has ended; the next waiting ones are placed. -/
def endCmd (s : State) (id : Nat) : State :=
  match Tbl.get s.drv.cmds id with
  | none => s
  | some c =>
    let t := { s with drv := { s.drv with cmds := Tbl.erase s.drv.cmds id } }
    let u := if occupies c then drop (drop t Obj.DPORT_INFLIGHT c.port 1) Obj.DRIVE_INFLIGHT_TOTAL 0 1
             else if c.st = .held then drop t Obj.DPORT_HELD_COMMANDS c.port 1
             else if c.st = .gated then drop t Obj.DRIVE_GATE_HELD 0 1 else t
    pump u c.port

/-- A command that the drive holds, with its port. -/
def outstanding (s : State) (id : Nat) : Option MCmd :=
  match Tbl.get s.drv.cmds id with
  | some c => if occupies c then some c else none
  | none => none

/-- A member can be read: ACTIVE, with its port not CONTAINED (R230). -/
def readable (s : State) (p slot : Nat) : Bool :=
  mState s p slot == Ms.active

/-- The member of a column has been in its slot since before the segment was opened; a column on a former member of the slot is not in the member set (R124, R230). -/
def onMember (s : State) (p : Nat) (g : Seg) (j : Nat) : Bool :=
  decide (Tbl.getD (poolOf s p).joined (g.cols.getD j (64, 0)).1 0 ≤ g.seq)

/-- A column of a segment can be read. -/
def colReadable (s : State) (p : Nat) (g : Seg) (j : Nat) : Bool :=
  readable s p (g.cols.getD j (64, 0)).1 && onMember s p g j

/-- Columns of a segment that are erased: their member is FAILED, REMOVED, CONTAINED or not in the set (R230). -/
def erasedCols (s : State) (p : Nat) (g : Seg) : List Nat :=
  (List.range g.cols.length).filter (fun j => !colReadable s p g j)

/-- The code of a segment's stripes: its header's geometry, M3 for metadata (R103, R115). -/
def segCode (s : State) (p : Nat) (g : Seg) : CodeTbl :=
  if g.cls = Cls.metadata then codeM3
  else match builtin g.table g.k with
    | some c => c
    | none => ((poolOf s p).custom).getD codeM3

/-- The code table of an id, with k data columns for P1 to P3: built-in, or a custom slot's. -/
def tableOf (s : State) (id k : Nat) : Option CodeTbl :=
  if id ≥ 0x10 then some (parseTable (rdBytes s Obj.CODE_TABLE_DATA (id - 0x10))) else builtin id k

/-- Sectors of a full data zone as bytes of free space. -/
def freeZonesOf (s : State) (p slot : Nat) : Nat :=
  (poolOf s p).zm - (Tbl.getD (poolOf s p).zones slot []).length

/-- Free zones of the ACTIVE members of a pool. -/
def freeZones (s : State) (p : Nat) : Nat :=
  ((slotsIn s p Ms.active).map (freeZonesOf s p)).sum

/-- FREE_ZONE_PERCENT (R165). -/
def freePercent (s : State) (p : Nat) : Nat :=
  let r := rdN s Obj.POOL_REBUILD_RESERVE p
  let zm := (poolOf s p).zm
  100 * (freeZones s p - r * zm) / ((memberCount s p - r) * zm)

/-- The Dredger is URGENT while FREE_ZONE_PERCENT is below DREDGE_FLOOR: pacing starts and ends with a WARN event (Table 04-8). -/
def noteUrgent (s : State) (p : Nat) : State :=
  let low := decide (rdN s Obj.FREE_ZONE_PERCENT p < rdN s Obj.DREDGE_FLOOR p)
  if low == rdB s Obj.DREDGE_PACING p then s
  else raiseOpen (wr (wrB s Obj.DREDGE_PACING p low) Obj.DREDGE_STATE p (if low then 2 else if !rdB s Obj.DREDGE_ENABLE p then 3 else if rdN s Obj.FREE_ZONE_PERCENT p < rdN s Obj.DREDGE_START p then 1 else 0)) (ev 0x03 166) .warn Src.pool p

/-- Recompute FREE_ZONE_PERCENT and a member's MEMBER_ZONES_FREE. -/
def noteZones (s : State) (p slot : Nat) : State :=
  noteUrgent (wr (wr s Obj.MEMBER_ZONES_FREE (mInst p slot) (freeZonesOf s p slot : Nat)) Obj.FREE_ZONE_PERCENT p (freePercent s p : Nat)) p

/-- Take a zone of a member into use. -/
def useZone (s : State) (p slot z : Nat) : State :=
  noteZones (modPool s p (fun x => { x with zones := Tbl.update x.zones slot [] (fun l => l ++ [z]) })) p slot

/-- Return a zone of a member as free. -/
def freeZone (s : State) (p slot z : Nat) : State :=
  noteZones (modPool s p (fun x => { x with zones := Tbl.update x.zones slot [] (fun l => l.filter (fun y => y != z)) })) p slot

/-- The lowest-numbered free zone of a member, from 1. -/
def lowestZone (s : State) (p slot : Nat) : Nat :=
  let l := Tbl.getD (poolOf s p).zones slot []
  ((List.range (l.length + 1)).map (fun i => i + 1)).find? (fun z => !l.contains z) |>.getD 1

end Sys2Proof.Machine
end

