-- ==== Sys2Proof/Machine/Link.lean ====
section
/-! DEFINITION. Sending over the Culvert: channels, flits, credits and the replay buffer (R404 to R408), and the mirror condition of a pool (R410, R414, R420). -/

namespace Sys2Proof.Machine

open Sys2Proof

/-! ## Roles and mirroring -/

/-! Values of PAIR_POOL_ROLE. -/

def Role.none : Nat := 0
def Role.solo : Nat := 1
def Role.owner : Nat := 2
def Role.partner : Nat := 3
def Role.fenced : Nat := 4

/-- This controller's role for a pool. -/
def roleOf (s : State) (p : Nat) : Nat :=
  rdN s Obj.PAIR_POOL_ROLE p

/-- This controller serves the pool in role SOLO or OWNER. -/
def servesPool (s : State) (p : Nat) : Bool :=
  roleOf s p == Role.solo || roleOf s p == Role.owner

/-- The pool's sectors and records go to the partner: a mirrored pool of a joined pair, owned or in catch-up (R410, R411, R414). -/
def mirrors (s : State) (p : Nat) : Bool :=
  rdB s Obj.PAIR_POOL_MIRROR p && s.pair.joined && (roleOf s p == Role.owner || (roleOf s p == Role.solo && (poolOf s p).catchUp))

/-- Flag of a mirrored pool served unmirrored (R420). -/
def unmirrored (s : State) (p : Nat) : Bool :=
  rdB s Obj.PAIR_POOL_UNMIRRORED p

/-- Completions of the pool's writes need the partner's acknowledgement (R39): role OWNER, or catch-up under WAIT, and not served unmirrored (R414, R420). -/
def needsMirror (s : State) (p : Nat) : Bool :=
  rdB s Obj.PAIR_POOL_MIRROR p && !unmirrored s p && (roleOf s p == Role.owner || (roleOf s p == Role.solo && (poolOf s p).catchUp))

/-- Writes to the pool wait at the Sluice until catch-up ends: a mirrored pool under WAIT whose Culvert is lost, or in catch-up (R414, R420). -/
def mirrorHolds (s : State) (p : Nat) : Bool :=
  needsMirror s p && (!s.pair.joined || roleOf s p == Role.solo)

/-! ## Messages -/

/-- The channel of a message (Table 11-6): 0 CONTROL, 1 MIRROR, 2 RECORD, 3 DIGEST. -/
def Msg.chan : Msg → Nat
  | .mirrorData .. => 1
  | .atomicMark .. => 1
  | .record .. => 2
  | .digest .. => 3
  | .digestReply .. => 3
  | _ => 0

/-- Receive credits of a channel (R408). -/
def creditsOf (c : Nat) : Nat :=
  if c = 0 then 64 else if c = 1 then 1024 else if c = 2 then 256 else 64

/-- Flits of `n` message bytes. -/
def flitsFor (n : Nat) : Nat :=
  max 1 ((n + 231) / 232)

/-- Flits of a message (Table 11-6): 18 for MIRROR_DATA; contents without a byte count in the table are counted at their widths. -/
def Msg.flits : Msg → Nat
  | .mirrorData .. => 18
  | .mirrorAck a r => flitsFor (4 * (a.length + r.length))
  | .mirrorRelease l => flitsFor (4 * l.length)
  | .record _ l => flitsFor (64 * l.length)
  | .epochPrepare _ l => flitsFor (16 + 16 * l.length)
  | .digest _ _ _ _ l _ => flitsFor (34 + 4 * l.length)
  | .config .. => flitsFor 4112
  | _ => 1

/-- Change the link. -/
def modLink (s : State) (f : Link → Link) : State :=
  { s with pair := { s.pair with link := f s.pair.link } }

/-- Change the pair. -/
def modPair (s : State) (f : PairSt → PairSt) : State :=
  { s with pair := f s.pair }

/-- The Culvert is up: it has trained since it was last declared down (R403, R409). With every bundle retraining its state is TRAINING, and replay recovers what is sent. -/
def culvertUp (s : State) : Bool :=
  rdN s Obj.CULVERT_STATE 0 != 0

/-- The bundles that are trained. -/
def trainedBundles (s : State) : List Nat :=
  (List.range 3).filter (fun b => bitAt (rdN s Obj.CULVERT_BUNDLES_UP 0) b)

/-- `n` MESSAGE flits go out across the trained bundles in turn (R403), and count there (Table 17-9). -/
def countFlits (s : State) (n : Nat) : State :=
  let l := trainedBundles s
  let turn (i : Nat) : Nat := l.getD ((rdN s Obj.CULVERT_TX_FLITS 0 + i) % l.length) 3
  forEach l (fun b t => countDev t (Dc.culvertFlits + b) ((List.range n).filter (fun i => turn i == b)).length) s

/-- The flits of a message take their SEQ and go out (R405, R406). -/
def transmit (s : State) (m : OutMsg) : State :=
  let l := s.pair.link
  let n := m.msg.flits
  let fs := (List.range n).map (fun i => { seq := (l.txSeq + i) % 4096, chan := m.chan, id := m.id, index := i, count := n : Flit })
  let t := modLink s (fun x => { x with txSeq := (x.txSeq + n) % 4096, held := x.held ++ fs, sent := x.sent ++ [m], used := Tbl.update x.used m.chan 0 (fun u => u + n) })
  let u := bump (countFlits t n) Obj.CULVERT_TX_FLITS 0 n
  let v := wr u Obj.CULVERT_UNACKED_PEAK 0 (max (rdN u Obj.CULVERT_UNACKED_PEAK 0) u.pair.link.held.length : Nat)
  emit v (.msg m.chan m.id m.msg)

/-- A message can be sent now: credit for all of its flits, and room in the replay buffer (R406, R408). -/
def canTransmit (s : State) (m : OutMsg) : Bool :=
  let l := s.pair.link
  decide (Tbl.getD l.used m.chan 0 + m.msg.flits ≤ creditsOf m.chan) && decide (l.held.length + m.msg.flits ≤ 2048)

/-- Until the pair joins, the Culvert carries only HEARTBEAT and CONFIG messages (R402), and the change set that reconciles unequal pair epochs (R87). -/
def carries (s : State) (m : Msg) : Bool :=
  culvertUp s && (s.pair.joined || (match m with
    | .heartbeat .. => true
    | .config .. => true
    | .epochPrepare .. => rdN s Obj.EPOCH_PAIR_CURRENT 0 != s.pair.peerEpoch
    | _ => false))

/-- The MSG_ID the next message of a channel takes. -/
def nextMsgId (s : State) (m : Msg) : Nat :=
  Tbl.getD s.pair.link.nextId m.chan 0

/-- A queued message of one channel goes before a later one of another: of the same channel, and a record never overtakes the mirror data before it (R411). -/
def goesFirst (q m : Nat) : Bool :=
  q == m || (q == 1 && m == 2)

/-- Send a message, or queue it behind others of its channel for want of credit (R408). With the link down it is lost; mirroring resumes by catch-up (R409). -/
def sendMsg (s : State) (m : Msg) : State :=
  if !carries s m then s
  else
    let o : OutMsg := { chan := m.chan, id := nextMsgId s m, msg := m, since := s.now }
    let t := modLink s (fun x => { x with nextId := Tbl.set x.nextId m.chan ((o.id + 1) % 2 ^ 32) })
    if t.pair.link.queue.any (fun q => goesFirst q.chan m.chan) || !canTransmit t o then
      bump (modLink t (fun x => { x with queue := x.queue ++ [o] })) Obj.CULVERT_CREDIT_WAITS 0 1
    else transmit t o

/-- Send the queued messages that credit and the replay buffer now allow; one that waits holds back its own channel, and mirror data the records after it. -/
def drainQueue (s : State) : State :=
  forEach s.pair.link.queue (fun o t =>
    let before := (t.pair.link.queue.takeWhile (fun q => !(q.chan == o.chan && q.id == o.id))).any (fun q => goesFirst q.chan o.chan)
    if before || !canTransmit t o then t
    else transmit (countDev (modLink t (fun x => { x with queue := x.queue.filter (fun q => !(q.chan == o.chan && q.id == o.id)) })) Dc.creditWait ((t.now - o.since) * 100)) o) s

end Sys2Proof.Machine
end

