-- ==== Sys2Proof/Machine/Stripes.lean ====
section
/-! DEFINITION. Segments, lanes and open stripes: declustered placement, height caps, closing, column writes, sealing and abandoning (R102 to R111, R133 to R145, R226 to R229). -/

namespace Sys2Proof.Machine

open Sys2Proof

/-! ## Intent-log records -/

/-- 64-byte words of the record ring: 125.75 MiB (Table 05-3). -/
def ringWords : Nat := 2060288

/-- The 4 KiB block that holds a record's word, counted over the whole memory: the ring lies behind 2 MiB and twice 128 KiB (Table 05-3). -/
def recBlock (seq : Nat) : Nat :=
  576 + seq % ringWords / 64

/-- The physical block of a logical one: each turn of the spare block shifts all by one place (R197). -/
def physBlock (g : Ilog) (b : Nat) : Nat :=
  let q := (b + g.turns) % 32768
  if g.spare ≤ q then q + 1 else q

/-- The physical block ahead of the spare block. -/
def aheadBlock (g : Ilog) : Nat :=
  if g.spare = 0 then 32768 else g.spare - 1

/-- The place of a record's kind in Table 05-4. -/
def recKind : RecBody → Nat
  | .stripe .. => 0
  | .atomic .. => 1
  | .dealloc .. => 2
  | .checkpoint .. => 3
  | .segReset .. => 4
  | .segFreed _ => 5
  | .volume .. => 6
  | .lost .. => 7
  | .reshape _ => 8
  | .member .. => 9
  | .progress .. => 10
  | .floor .. => 11

/-- Append a record, or the copy of one, at the head of the ring; it is not durable yet (R191, R192, R196). -/
def appendRec (s : State) (p : Nat) (b : RecBody) (copy : Bool) : State :=
  let g := s.ilog
  bump (countDev { s with ilog := { g with recs := g.recs ++ [{ seq := g.nextSeq, pool := p, body := b, durable := false, copy := copy }], nextSeq := g.nextSeq + 1, ahead := if physBlock g (recBlock g.nextSeq) = aheadBlock g then g.ahead + 1 else g.ahead } } (Dc.records + recKind b) 1) Obj.ILOG_RECORDS_WRITTEN 0 1

/-- Append a record at the head of the ring. -/
def logRec (s : State) (p : Nat) (b : RecBody) : State :=
  appendRec s p b false

/-! ## Sequence floors (R194) -/

/-! Kinds of FLOOR record. -/

def Fl.wseq : Nat := 0
def Fl.stripe : Nat := 1
def Fl.segment : Nat := 2

/-- A FLOOR record. -/
def isFloor (r : LogRec) : Bool :=
  match r.body with
  | .floor .. => true
  | _ => false

/-- The state block's place of a floor. -/
def floorKey (kind p : Nat) : Nat :=
  if kind = Fl.wseq then 0 else 2 * p + kind

/-- The durable upper bound of a sequence: values below it may be used. -/
def floorOf (s : State) (kind p : Nat) : Nat :=
  Tbl.getD s.ilog.floors (floorKey kind p) 0

/-- The upper bound once the FLOOR records that are being written are durable. -/
def floorAsked (s : State) (kind p : Nat) : Nat :=
  (s.ilog.recs.map (fun r => match r.body with
    | .floor k b => if !r.durable && floorKey k r.pool == floorKey kind p then b else 0
    | _ => 0)).foldl max (floorOf s kind p)

/-- Reserve the next block of 2^20 values, half a block ahead of its use. -/
def reserveSeqs (s : State) (kind p next : Nat) : State :=
  let top := floorAsked s kind p
  if next + 524288 > top then logRec s p (.floor kind (max top next + 1048576)) else s

/-- A FLOOR record is durable: the state block takes its bound. -/
def noteFloor (s : State) (kind p bound : Nat) : State :=
  { s with ilog := { s.ilog with floors := Tbl.update s.ilog.floors (floorKey kind p) 0 (fun b => max b bound) } }

/-- A pool that begins to serve has blocks of all three sequences reserved. -/
def reserveAll (s : State) (p : Nat) : State :=
  reserveSeqs (reserveSeqs (reserveSeqs s Fl.wseq p s.sluice.wseq) Fl.stripe p (poolOf s p).nextStripe) Fl.segment p (poolOf s p).nextSeg

/-! ## Opening a segment (R102) -/

/-- Zone-active resources a member has left: DRIVE_MAX_ACTIVE less its zones in OPEN segments (R139). -/
def activeLeft (s : State) (p slot : Nat) : Nat :=
  rdN s Obj.DRIVE_MAX_ACTIVE (mPort s p slot) -
    ((poolOf s p).segs.filter (fun e => e.2.st == 1 && e.2.cols.any (fun c => c.1 == slot))).length

/-- A: the members a new segment may use, in slot order. -/
def candidates (s : State) (p : Nat) : List Nat :=
  let x := poolOf s p
  (slotsIn s p Ms.active).filter (fun i => decide (freeZonesOf s p i > 0) && !x.draining.contains i && decide (Tbl.getD x.joined i 0 ≤ x.nextSeg))

/-- The stride of segment sequence `q` over `n` members. -/
def strideOf (q n : Nat) : Nat :=
  let l := ((List.range n).filter (fun x => decide (1 ≤ x) && Nat.gcd x n == 1))
  l.getD (q / n % l.length) 1

/-- The member slots of columns 0 to w − 1. -/
def columnsFor (a : List Nat) (q w : Nat) : List Nat :=
  (List.range w).map (fun j => a.getD ((q + j * strideOf q a.length) % a.length) 0)

/-- The geometry of new stripes of a class: table id and code. -/
def classCode (s : State) (p cls : Nat) : Nat × CodeTbl :=
  if cls = Cls.metadata then (5, codeM3)
  else
    let id := rdN s Obj.POOL_CODE_TABLE p
    (id, match builtin id (rdN s Obj.POOL_K p) with
      | some c => c
      | none => ((poolOf s p).custom).getD codeM3)

/-- A class finds free zones for a segment of `w` columns (R165): above the reserve and one width of the pool's code for host and metadata, down to the reserve for dredge, all of them for rebuild. -/
def zonesAllow (s : State) (p cls w : Nat) : Bool :=
  let r := rdN s Obj.POOL_REBUILD_RESERVE p * (poolOf s p).zm
  let free := freeZones s p
  if cls = Cls.host ∨ cls = Cls.metadata then decide (free > r + (classCode s p Cls.host).2.width)
  else if cls = Cls.dredge then decide (free ≥ r + w)
  else decide (free ≥ w)

/-- A lane's segment can be opened: a sequence number that a durable FLOOR covers (R194), enough members (R102), active resources (R139), free zones (R165) and, in URGENT, a segment freed since the lane last opened one (Table 04-8). -/
def canOpenSeg (s : State) (p : Nat) (ln : Lane) : Bool :=
  let w := (classCode s p ln.cls).2.width
  let a := candidates s p
  decide ((poolOf s p).nextSeg < floorOf s Fl.segment p) && decide (w ≤ a.length) &&
    (rdN s Obj.POOL_MEMBER_KIND p != 1 || (columnsFor a (poolOf s p).nextSeg w).all (fun i => decide (2 ≤ activeLeft s p i))) &&
    zonesAllow s p ln.cls w &&
    !(ln.cls == Cls.host && rdN s Obj.DREDGE_STATE p == 2 && decide (rdN s Obj.DREDGE_SEGMENTS_FREED p ≤ ln.freedAt))

/-- Change a lane of a pool. -/
def modLane (s : State) (p cls idx : Nat) (f : Lane → Lane) : State :=
  modPool s p (fun x => { x with lanes := x.lanes.map (fun l => if l.cls = cls ∧ l.idx = idx then f l else l) })

/-- Change a segment. -/
def modSeg (s : State) (p slot : Nat) (f : Seg → Seg) : State :=
  modPool s p (fun x => { x with segs := Tbl.modify x.segs slot f })

/-- LANES_WAITING and OPEN_SEGMENTS follow the lanes and segments. -/
def noteLanes (s : State) (p : Nat) : State :=
  let x := poolOf s p
  wr (wr (wr s Obj.LANES_WAITING p ((x.lanes.filter Lane.waiting).length : Nat)) Obj.OPEN_SEGMENTS p ((x.segs.filter (fun e => e.2.st == 1)).length : Nat))
    Obj.SEGMENT_SLOTS_USED p (x.segs.length : Nat)

/-- Open a segment on a lane: columns by R102, the lowest free slot, headers on every column (R133). -/
def openSeg (s : State) (p : Nat) (ln : Lane) : State :=
  let x := poolOf s p
  let c := classCode s p ln.cls
  let q := x.nextSeg
  let ms := columnsFor (candidates s p) q c.2.width
  let cols := ms.map (fun i => (i, lowestZone s p i))
  let slot := Tbl.firstFree x.segs 0 4194304
  let g : Seg := { st := 1, seq := q, cls := ln.cls, table := c.1, k := c.2.k, m := c.2.m, l := c.2.l, f := c.2.f, height := rdN s Obj.POOL_STRIPE_HEIGHT p
                   sectors := x.sectors, cols := cols, next := 1, hdrs := [], sealing := false, chosen := false, copies := 0, passBy := 0, resets := [], hint := 0, aligned := false }
  let t := reserveSeqs (modPool s p (fun y => { y with nextSeg := q + 1, segs := Tbl.set y.segs slot g })) Fl.segment p (q + 1)
  let u := forEach cols (fun e v => useZone v p e.1 e.2) t
  let h := forEach (List.range cols.length) (fun j v =>
    let e := cols.getD j (0, 0)
    let b := headerBytes (rdBytes s Obj.POOL_UUID p) (rdN s Obj.POOL_SB_GENERATION p) g j
    issueTo v p e.1 (.write e.2 0 (sectorBytes b (structMeta Kind.header b)) (rdB s Obj.DRIVE_VOLATILE_CACHE (mPort s p e.1)) false) (.segment p slot)) u
  noteLanes (modLane h p ln.cls ln.idx (fun l => { l with seg := some slot, waiting := false, freedAt := rdN s Obj.DREDGE_SEGMENTS_FREED p })) p

/-! ## Sealing (R134, R135) -/

/-- The stripes of a segment that have not ended. -/
def stripesOfSeg (x : Pool) (slot : Nat) : List (Nat × Stripe) :=
  x.stripes.filter (fun e => e.2.seg == slot)

/-- Write the stripe table, gap sectors and trailer on every column that may be written, and seal (R134). -/
def writeTable (s : State) (p slot : Nat) (g : Seg) : State :=
  let tbl := stripeTable g
  let n := tableSectors g.hdrs.length
  let gap := gapSectors g
  let zns := rdN s Obj.POOL_MEMBER_KIND p == 1
  let t := forEach (List.range g.cols.length) (fun j v =>
    let e := g.cols.getD j (0, 0)
    if mState s p e.1 != Ms.active then v
    else
      let fua := rdB s Obj.DRIVE_VOLATILE_CACHE (mPort s p e.1)
      let body := (List.range n).flatMap (fun i => let b := slice tbl (4096 * i) 4096; sectorBytes b (structMeta Kind.table b))
      let a := if n = 0 then v else issueTo v p e.1 (.write e.2 g.next body fua false) (.segment p slot)
      let b := if zns && gap != 0 then issueTo a p e.1 (.writeZeroes e.2 (g.next + n) gap) (.segment p slot) else a
      let tr := trailerBytes (rdBytes s Obj.POOL_UUID p) g j
      issueTo b p e.1 (.write e.2 (g.sectors - 1) (sectorBytes tr (structMeta Kind.trailer tr)) fua false) (.segment p slot)) s
  noteLanes (modSeg t p slot (fun x => { x with st := 2, sealing := false })) p

/-- The rows of a segment that stay: behind the last stripe that was issued or has ended. -/
def lastRow (s : State) (p slot : Nat) (g : Seg) : Nat :=
  (((stripesOfSeg (poolOf s p) slot).filter (fun e => e.2.issued)).map (fun e => e.2.first + e.2.height) ++ g.hdrs.map (fun h => h.first + h.height)).foldl max 1

/-- Query the write pointers of a ZNS segment's reachable columns before it seals behind an abandoned stripe (R229 step 2); the columns asked wait in `resets`. -/
def queryPointers (s : State) (p slot : Nat) (g : Seg) : State :=
  let l := (List.range g.cols.length).filter (fun j => mState s p (g.cols.getD j (64, 0)).1 == Ms.active)
  if l.isEmpty then writeTable s p slot g
  else forEach l (fun j t => let c := g.cols.getD j (0, 0); issueTo t p c.1 (.zoneReport c.2) (.segment p slot)) (modSeg s p slot (fun x => { x with resets := l }))

/-- Seal a segment that is to seal once all its stripes have ended (R229 step 1). A ZNS segment with an abandoned stripe first has its write pointers brought to one zone sector. -/
def trySeal (s : State) (p slot : Nat) : State :=
  match Tbl.get (poolOf s p).segs slot with
  | some g =>
    if g.st = 1 ∧ g.sealing ∧ (stripesOfSeg (poolOf s p) slot).isEmpty then
      (if rdN s Obj.POOL_MEMBER_KIND p = 1 ∧ g.hdrs.any (fun h => h.flags % 2 == 1) ∧ !g.aligned then (if g.resets.isEmpty then queryPointers s p slot g else s)
      else writeTable s p slot g)
    else s
  | none => s

/-- A column's write pointer is known: Write Zeroes covers the rows it lacks up to the end of the last stripe. -/
def pointerKnown (s : State) (p slot member zone wp : Nat) : State :=
  match Tbl.get (poolOf s p).segs slot with
  | some g =>
    if g.st ≠ 1 ∨ !g.sealing then s
    else
      let n := lastRow s p slot g
      let t := if wp < n then issueTo s p member (.writeZeroes zone wp (n - wp)) (.segment p slot) else s
      let left := g.resets.filter (fun j => g.cols.getD j (64, 0) != (member, zone))
      modSeg t p slot (fun x => { x with resets := left, aligned := left.isEmpty })
  | none => s

/-- A lane leaves its segment, which seals as soon as its stripes have ended (R138). -/
def leaveSeg (s : State) (p slot : Nat) : State :=
  trySeal (modSeg (modPool s p (fun x => { x with lanes := x.lanes.map (fun l => if l.seg = some slot then { l with seg := none, stripe := none } else l) })) p slot
    (fun g => { g with sealing := true })) p slot

/-! ## Stripes -/

/-- A stripe of a pool that has not committed. -/
def stripeOf (s : State) (p id : Nat) : Option Stripe :=
  Tbl.get (poolOf s p).stripes id

/-- Change a stripe. -/
def modStripe (s : State) (p id : Nat) (f : Stripe → Stripe) : State :=
  modPool s p (fun x => { x with stripes := Tbl.modify x.stripes id f })

/-- OPEN_STRIPES counts the stripes whose columns have not been issued. -/
def noteStripes (s : State) (p : Nat) : State :=
  wr s Obj.OPEN_STRIPES p (((poolOf s p).stripes.filter (fun e => !e.2.issued)).length : Nat)

/-- The height cap of a stripe opened now in a segment that has `n` stripes already (R107). -/
def heightCap (h : Nat) (g : Seg) (n : Nat) : Nat :=
  min h (g.sectors - g.next - tableSectors (n + 1) - 1)

/-! ### Engines (R24, R26) -/

/-- Accumulator bytes of a stripe of a segment: 4,160 for each parity. -/
def accBytes (g : Seg) : Nat :=
  (g.m + g.l) * 4160

/-- The open stripes that engines own, over all pools: engine and accumulator bytes. -/
def engineUse (s : State) : List (Nat × Nat) :=
  (List.range 8).flatMap (fun p => let x := poolOf s p
    (x.stripes.filter (fun e => !e.2.issued && !e.2.gone)).map (fun e => (e.2.engine, match Tbl.get x.segs e.2.seg with
      | some g => accBytes g
      | none => 0)))

/-- The engines that may take a stripe of `n` accumulator bytes: they passed their self-test, their cluster works, and they own at most one stripe whose accumulators leave room within 80 KiB. -/
def enginesFor (s : State) (n : Nat) : List Nat :=
  let use := engineUse s
  let failed := leNat (rdBytes s Obj.BIST_ENGINES_FAILED 0)
  let off := rdN s Obj.BIST_CLUSTERS_DISABLED 0
  (List.range 1024).filter (fun e => !bitAt failed e && !bitAt off (e / 16) &&
    (let l := use.filter (fun x => x.1 == e)
     decide (l.length < 2 ∧ (l.map Prod.snd).sum + n ≤ 81920)))

/-- A stripe can be opened in a segment: an engine takes it, and a durable FLOOR covers its id (R26, R194). -/
def canOpenStripe (s : State) (p : Nat) (g : Seg) : Bool :=
  decide ((poolOf s p).nextStripe < floorOf s Fl.stripe p) && !(enginesFor s (accBytes g)).isEmpty

/-- Open a stripe on a lane whose segment has room, on one of the engines that may take it. -/
def openStripe (s : State) (p : Nat) (ln : Lane) (slot : Nat) (g : Seg) : State :=
  let x := poolOf s p
  let h := rdN s Obj.POOL_STRIPE_HEIGHT p
  let cap := heightCap h g (g.hdrs.length + (stripesOfSeg x slot).length)
  let es := enginesFor s (accBytes g)
  let e := es.getD (Config.stripeEngine p x.nextStripe % es.length) 0
  let st : Stripe := { id := x.nextStripe, cls := ln.cls, lane := ln.idx, seg := slot, first := g.next, cap := cap, fullCap := decide (cap = h), pos := [], closing := none, issued := false
                       height := 0, colsLeft := [], logged := false, reissue := false, atomic := false, openedAt := s.now, ageLimit := rdN s Obj.STRIPE_AGE_LIMIT p
                       engine := e, cluster := e / 16, row := 0, acc := List.replicate (g.m + g.l) (zeros 4131), par := [], gone := false }
  noteStripes (modLane (reserveSeqs (modPool s p (fun y => { y with nextStripe := x.nextStripe + 1, stripes := Tbl.set y.stripes x.nextStripe st })) Fl.stripe p (x.nextStripe + 1)) p ln.cls ln.idx
    (fun l => { l with stripe := some x.nextStripe })) p

/-- The room left in a segment for one more stripe. -/
def segRoom (s : State) (p slot : Nat) (g : Seg) : Nat :=
  g.sectors - g.next - tableSectors (g.hdrs.length + (stripesOfSeg (poolOf s p) slot).length + 1) - 1

/-- The lane of a class and index. -/
def laneOf (s : State) (p cls idx : Nat) : Lane :=
  ((poolOf s p).lanes.find? (fun l => l.cls == cls && l.idx == idx)).getD { cls := cls, idx := idx, seg := none, stripe := none, waiting := false, freedAt := 0 }

/-- A lane whose segment has no room for another stripe leaves it (R107, R138). -/
def leaveFull (s : State) (p cls idx : Nat) : State :=
  let ln := laneOf s p cls idx
  match ln.stripe, ln.seg with
  | none, some slot => (match Tbl.get (poolOf s p).segs slot with
    | some g => if segRoom s p slot g < 1 then leaveSeg s p slot else s
    | none => s)
  | _, _ => s

/-- Make sure that a lane has an open stripe, opening a segment where it needs one; `none` when no segment or no stripe can be opened, and the lane waits. -/
def ready (s : State) (p cls idx : Nat) : Option State :=
  let s0 := if (poolOf s p).lanes.any (fun l => l.cls == cls && l.idx == idx) then s
            else modPool s p (fun x => { x with lanes := x.lanes ++ [{ cls := cls, idx := idx, seg := none, stripe := none, waiting := false, freedAt := 0 }] })
  let ln := laneOf s0 p cls idx
  if ln.stripe.isSome then some s0
  else
    let s1 := leaveFull s0 p cls idx
    let l1 := laneOf s1 p cls idx
    let s2 := if l1.seg.isSome then some s1 else if canOpenSeg s1 p l1 then some (openSeg s1 p l1) else none
    match s2 with
    | none => none
    | some t =>
      let l2 := laneOf t p cls idx
      match l2.seg with
      | none => none
      | some slot => match Tbl.get (poolOf t p).segs slot with
        | some g => if canOpenStripe t p g then some (openStripe t p l2 slot g) else none
        | none => none

/-- Mark a lane as waiting for resources (R26, R139, R165, R194); it has left a segment that is full. -/
def laneWaits (s : State) (p cls idx : Nat) : State :=
  let s0 := if (poolOf s p).lanes.any (fun l => l.cls == cls && l.idx == idx) then s
            else modPool s p (fun x => { x with lanes := x.lanes ++ [{ cls := cls, idx := idx, seg := none, stripe := none, waiting := true, freedAt := 0 }] })
  noteLanes (modLane (leaveFull s0 p cls idx) p cls idx (fun l => { l with waiting := true })) p

/-- A waiting lane can go on: its segment, or a new one, takes a stripe. -/
def laneCan (s : State) (p : Nat) (l : Lane) : Bool :=
  l.stripe.isSome || (match l.seg with
    | some slot => (match Tbl.get (poolOf s p).segs slot with
      | some g => canOpenStripe s p g
      | none => false)
    | none => canOpenSeg s p l)

/-- Data columns of a stripe. -/
def stripeK (s : State) (p : Nat) (x : Stripe) : Nat :=
  match Tbl.get (poolOf s p).segs x.seg with
  | some g => g.k
  | none => 1

/-- Stream positions under the cap. -/
def capacityOf (s : State) (p : Nat) (x : Stripe) : Nat :=
  x.cap * stripeK s p x

/-- RELOCATED of a stripe's sectors, the same for all (R129): set for every class but host, and for map pages in the lane of copies only. -/
def stripeCopies (x : Stripe) : Bool :=
  if x.cls = Cls.metadata then x.lane == 1 else x.cls != Cls.host

/-- A fill position (R109). -/
def Pos.filler (x : Stripe) : Pos :=
  { fill := true, landed := true, slot := none, md := fillMeta x.id x.cls (stripeCopies x), data := zeros 4096, src := none, page := none }

/-- Rows that hold `n` positions of `k` columns, at least one. -/
def rowsFor (n k : Nat) : Nat :=
  max 1 ((n + k - 1) / k)

/-! ## Slots and rows (R110, R178 to R180) -/

/-- Slots of the own half. -/
def ownSlots : Nat := 2097152

/-- A PARITY slot of a row: parity `i` of a stripe whose data columns are `k` (R180). -/
def paritySlot (p stripe row col : Nat) : Slot :=
  { st := .parity, md := Meta.zero, data := [], pool := p, stripe := stripe, row := row, col := col, prev := .unmapped, prevVer := none, acked := false, atomicRef := 0, restored := false
    mirrored := true, recAcked := true, qp := 0, tag := 0, sector := 0, mappedAt := none, poison := [] }

/-- Reserve one own slot per parity of a row that opens, as long as there are any (Table 05-2). -/
def reserveParity (s : State) (p stripe row k n : Nat) : State :=
  forRange n (fun i t =>
    let m := Tbl.firstFree t.prot 0 ownSlots
    if m < ownSlots then touchDesc { t with prot := Tbl.set t.prot m (paritySlot p stripe row (k + i)) } m else t) s

/-- The metadata of a position as it goes to the members, with the stripe's own bytes. -/
def posMeta (x : Stripe) (m : Meta) : Meta :=
  { m with stripeLow := x.id % 2 ^ 32, cls := x.cls, relocated := stripeCopies x }

/-- The payload and metadata of a stream position. -/
def posContent (s : State) (x : Stripe) (e : Pos) : Bytes × Meta :=
  match e.slot with
  | some n => match Tbl.get s.prot n with
    | some sl => (sl.data, posMeta x sl.md)
    | none => (zeros 4096, fillMeta x.id x.cls (stripeCopies x))
  | none => (e.data, posMeta x e.md)

/-- The metadata bytes of a position: a map page carries its own address (R150). -/
def posMetaBytes (x : Stripe) (e : Pos) (payload : Bytes) (m : Meta) : Bytes :=
  match e.page with
  | some a => pageMeta (a / 2 ^ 56) (bitsAt a 40 12) (bitsAt a 0 40) m.wseq (x.id % 2 ^ 32) (crc64 payload) (stripeCopies x)
  | none => (if e.fill then { m with guard := crc64 payload } else m).bytes

/-- Payload and metadata bytes of a stream position. -/
def posCell (s : State) (x : Stripe) (e : Pos) : Bytes × Bytes :=
  let y := posContent s x e
  (y.1, posMetaBytes x e y.1 y.2)

/-- The stream positions of row `r`, as far as they are placed. -/
def rowPos (x : Stripe) (k r : Nat) : List Pos :=
  (x.pos.drop (r * k)).take k

/-- The accumulators of a row: for each parity, the code applied to the payloads and the covered metadata bytes of the sectors that have landed (R110, R111). -/
def rowAcc (s : State) (p : Nat) (x : Stripe) (g : Seg) (r : Nat) : List Bytes :=
  let c := segCode s p g
  let cells := (List.range g.k).map (fun j => match (rowPos x g.k r)[j]? with
    | some e => if e.landed then let y := posCell s x e; (y.1, coveredBytes y.2) else (zeros 4096, zeros 35)
    | none => (zeros 4096, zeros 35))
  List.zipWith (fun a b => a ++ b) (encodeRow c 4096 (cells.map Prod.fst)) (encodeRow c 35 (cells.map Prod.snd))

/-- The parities of a complete row leave the accumulators: to the row's PARITY slots for the host class, to staging for the others (R110, R146). -/
def moveParity (s : State) (p id : Nat) (x : Stripe) (k r : Nat) (acc : List Bytes) : State :=
  if x.cls = Cls.host then
    { s with prot := Tbl.mapV s.prot (fun _ y => if y.st = .parity ∧ y.pool = p ∧ y.stripe = id ∧ y.row = r then { y with data := acc.getD (y.col - k) [], poison := [] } else y) }
  else modStripe s p id (fun y => { y with par := y.par ++ acc })

/-- Bring a stripe's accumulators up to date after sectors have landed; each row that is complete hands its parities on and clears them for the next (R110). -/
def landRows (s : State) (p id : Nat) : Nat → State
  | 0 => s
  | n + 1 => match stripeOf s p id with
    | none => s
    | some x => match Tbl.get (poolOf s p).segs x.seg with
      | none => s
      | some g =>
        let acc := rowAcc s p x g x.row
        let l := rowPos x g.k x.row
        if l.length = g.k ∧ g.k ≠ 0 ∧ l.all Pos.landed then
          landRows (modStripe (moveParity s p id x g.k x.row acc) p id (fun y => { y with row := y.row + 1, acc := List.replicate acc.length (zeros 4131) })) p id n
        else modStripe s p id (fun y => { y with acc := acc })

/-- A lane above the lane count of its class (R174). -/
def surplus (s : State) (p : Nat) (l : Lane) : Bool :=
  (l.cls == Cls.host && decide (l.idx ≥ rdN s Obj.PLACE_HOST_LANES p)) || (l.cls == Cls.dredge && decide (l.idx ≥ rdN s Obj.PLACE_DREDGE_LANES p))

/-- Surplus lanes whose stripe has closed seal their segment (Table 04-10). -/
def sealSurplus (s : State) (p : Nat) : State :=
  forEach (((poolOf s p).lanes.filter (fun l => surplus s p l && l.stripe.isNone)).filterMap Lane.seg) (fun slot t => leaveSeg t p slot) s

/-- No further sector is placed in a stripe: the last row is filled up, the height is fixed, and the segment's next stripe starts behind it (R106, R109). -/
def endPlacement (s : State) (p id : Nat) (reason : Option Nat) : State :=
  match stripeOf s p id with
  | none => s
  | some x =>
    let k := stripeK s p x
    let h := rowsFor x.pos.length k
    let t := modStripe s p id (fun y => { y with pos := y.pos ++ List.replicate (h * k - y.pos.length) (Pos.filler x), height := h
                                                 closing := match y.closing with | some r => some r | none => reason })
    sealSurplus (landRows (modSeg (modPool t p (fun y => { y with lanes := y.lanes.map (fun l => if l.stripe = some id then { l with stripe := none } else l) })) p x.seg
      (fun g => { g with next := max g.next (x.first + h) })) p id 257) p

/-- The slot of a position follows its place. -/
def moveSlot (s : State) (e : Pos) (stripe row col : Nat) : State :=
  match e.slot with
  | some n => { s with prot := Tbl.modify s.prot n (fun x => { x with stripe := stripe, row := row, col := col }) }
  | none => s

/-- Place one sector at the next stream position of a lane's open stripe (R105): its slot notes the place, a row of the host class that opens has its PARITY slots reserved, and a stripe whose positions are all taken makes room for the lane's next. -/
def placePos (s : State) (p cls idx : Nat) (e : Pos) (flags : Bool × Bool) : Option State :=
  match ready s p cls idx with
  | none => none
  | some t =>
    match (laneOf t p cls idx).stripe with
    | none => none
    | some id =>
      match stripeOf t p id with
      | none => none
      | some x =>
        let i := x.pos.length
        let k := stripeK t p x
        let u := modStripe t p id (fun y => { y with pos := y.pos ++ [e], reissue := y.reissue || flags.1, atomic := y.atomic || flags.2 })
        let v := moveSlot u e id (i / k) (i % k)
        let w := if cls = Cls.host ∧ i % k = 0 then reserveParity v p id (i / k) k x.acc.length else v
        let z := if e.landed then landRows w p id 257 else w
        some (if i + 1 ≥ capacityOf z p x then endPlacement z p id none else z)

/-! ## Parity and column writes -/

/-- A parity of a row as the row left it: in its PARITY slot, or in staging; computed again from the row's sectors where it is lost or poisoned (R180, Table 05-8). -/
def parityAt (s : State) (p : Nat) (x : Stripe) (g : Seg) (r i : Nat) : Bytes :=
  let kept := if x.cls = Cls.host then
      (match s.prot.find? (fun e => e.2.st == .parity && e.2.pool == p && e.2.stripe == x.id && e.2.row == r && e.2.col == g.k + i) with
      | some e => if e.2.poison.isEmpty then e.2.data else []
      | none => [])
    else x.par.getD (r * (g.m + g.l) + i) []
  if kept.length = 4131 then kept else (rowAcc s p x g r).getD i []

/-- Row `r` of a stripe on every column: 4,160 bytes each, data and parity (R110, R111). The copies of a map page are map pages themselves (R130). -/
def rowColumns (s : State) (p : Nat) (x : Stripe) (g : Seg) (r : Nat) : List Bytes :=
  let cells := (List.range g.k).map (fun j => posCell s x ((rowPos x g.k r).getD j (Pos.filler x)))
  let par := (List.range (g.m + g.l)).map (fun i =>
    let a := parityAt s p x g r i
    let d := a.take 4096
    d ++ parityMeta (a.drop 4096) (crc64 d) (x.id % 2 ^ 32) x.cls (if g.cls = Cls.metadata then Kind.mapPage else if i < g.m then Kind.globalParity else Kind.localParity) (stripeCopies x))
  cells.map (fun y => y.1 ++ y.2) ++ par

/-- A digest over the data sectors of a stripe, stored payloads and metadata bytes in stream order, with the stripe's place (R430). -/
def digestOf (id first height : Nat) (l : List (Bytes × Bytes)) : Nat :=
  crc64 (l.flatMap Prod.fst) * 2 ^ 64 + crc64 ((l.flatMap (fun e => slice e.2 0 16 ++ slice e.2 24 16 ++ slice e.2 44 3)) ++ leBytes 8 id ++ leBytes 4 first ++ leBytes 2 height)

/-- The key of a stripe's digest. -/
def digestKey (p id : Nat) : Nat :=
  p * 2 ^ 48 + id

/-- On a compared pool with a partner, the owner's digest goes out as the stripe closes (R430). -/
def sendDigest (s : State) (p id : Nat) (x : Stripe) : State :=
  let data := x.pos.filter (fun e => !e.fill)
  if rdB s Obj.PAIR_POOL_COMPARED p && mirrors s p && roleOf s p == Role.owner && x.cls == Cls.host && !data.isEmpty then
    let slots := data.filterMap Pos.slot
    let v := digestOf id x.first x.height (data.map (fun e => let c := posContent s x e; (c.1, c.2.bytes)))
    sendMsg (modPair s (fun q => { q with digests := Tbl.set q.digests (digestKey p id) { owner := v, slots := slots, partner := none, done := false, first := x.first, height := x.height, copies := [], asked := false, back := [] } })) (.digest p id x.first x.height slots v)
  else s

/-- A column write of a stripe meets a poisoned word: a data sector's slot that holds one goes out in a poisoned TLP (R220). -/
def columnPoisoned (s : State) (x : Stripe) (k j : Nat) : Bool :=
  decide (j < k) && (x.pos.zip (List.range x.pos.length)).any (fun e => e.2 % k == j && (match e.1.slot with
    | some n => (match Tbl.get s.prot n with
      | some y => !y.poison.isEmpty
      | none => false)
    | none => false))

/-- Issue every column write of a closed stripe at once (step 13 of Table 01-6). -/
def issueColumns (s : State) (p id : Nat) (x : Stripe) (g : Seg) : State :=
  let rows := (List.range x.height).map (rowColumns s p x g)
  let t := modStripe (sendDigest s p id x) p id (fun y => { y with issued := true, colsLeft := List.range g.cols.length })
  let u := if x.height < x.cap then bump t Obj.SHORT_STRIPES p 1 else t
  noteStripes (forEach (List.range g.cols.length) (fun j v =>
    let e := g.cols.getD j (0, 0)
    issueTo v p e.1 (.write e.2 x.first (rows.flatMap (fun r => r.getD j [])) (rdB s Obj.DRIVE_VOLATILE_CACHE (mPort s p e.1)) (columnPoisoned s x g.k j)) (.column p id j)) u) p

/-- The close event of a stripe whose positions have all landed: full at its cap, or the close that was forced (R108). -/
def closeReason (s : State) (p : Nat) (x : Stripe) : Option Nat :=
  match x.closing with
  | some r => some r
  | none => if x.pos.length ≥ capacityOf s p x ∧ x.height > 0 then some (if x.fullCap then 0 else 4) else none

/-- On ZNS members the column writes of a zone go out in ascending order, so an earlier stripe of the segment goes first (R145). -/
def zoneWaits (s : State) (p : Nat) (x : Stripe) : Bool :=
  rdN s Obj.POOL_MEMBER_KIND p == 1 && (stripesOfSeg (poolOf s p) x.seg).any (fun e => !e.2.issued && !e.2.gone && decide (e.2.first < x.first))

/-- Column writes of one stripe go out once it has closed and every placed sector has landed or been discarded. -/
def issueOne (s : State) (p id : Nat) : State :=
  match stripeOf s p id with
  | none => s
  | some x =>
    match closeReason s p x, Tbl.get (poolOf s p).segs x.seg with
    | some r, some g =>
      if x.issued || x.gone || x.pos.any (fun e => !e.landed) || zoneWaits s p x then s
      else issueColumns (modStripe s p id (fun y => { y with closing := some r })) p id { x with closing := some r } g
    | _, _ => s

/-- Issue a stripe that can go out, and on ZNS members those of its segment that waited for it. -/
def tryIssue (s : State) (p id : Nat) : State :=
  match stripeOf s p id with
  | none => s
  | some x =>
    let t := issueOne s p id
    if rdN s Obj.POOL_MEMBER_KIND p = 1 then forEach (stripesOfSeg (poolOf t p) x.seg) (fun e u => issueOne u p e.1) t else t

/-- Force a stripe closed (R108). -/
def forceClose (reason : Nat) (s : State) (p id : Nat) : State :=
  match stripeOf s p id with
  | none => s
  | some x =>
    if x.issued ∨ x.closing.isSome ∨ x.gone then s
    else if x.height > 0 then tryIssue (modStripe s p id (fun y => { y with closing := some reason })) p id
    else tryIssue (endPlacement s p id (some reason)) p id

/-- Force closed every stripe of a pool that satisfies a condition, in order of STRIPE_ID. -/
def forceWhere (reason : Nat) (s : State) (p : Nat) (f : Stripe → Bool) : State :=
  forEach ((poolOf s p).stripes.filter (fun e => f e.2)) (fun e t => forceClose reason t p e.1) s

/-- Every lane of a pool seals its segment, closing its stripe (R260, R335). -/
def sealLanes (s : State) (p : Nat) : State :=
  let t := forceWhere 1 s p (fun _ => true)
  forEach ((poolOf t p).lanes.filterMap Lane.seg) (fun slot u => leaveSeg u p slot) t

/-! ## Stripe headers and the end of a stripe -/

/-- The WRITE_SEQ values of a stripe's data sectors. -/
def stripeSeqs (s : State) (x : Stripe) : List Nat :=
  (x.pos.filter (fun e => !e.fill)).map (fun e => (posContent s x e).2.wseq)

/-- STRIPE_FLAGS (Table 03-16). -/
def stripeFlags (x : Stripe) (abandoned : Bool) : Nat :=
  b2n abandoned + 2 * b2n x.reissue + 4 * b2n x.atomic

/-- The stripe header of a stripe (Table 03-16). -/
def hdrOf (s : State) (x : Stripe) (abandoned : Bool) : StripeHdr :=
  let q := stripeSeqs s x
  { id := x.id, first := x.first, height := x.height, reason := if abandoned then 5 else x.closing.getD 0, flags := stripeFlags x abandoned
    fws := q.foldl min (q.headD 0), lws := q.foldl max 0, count := (x.pos.filter (fun e => !e.fill)).length }

/-- A stripe leaves the open set with its header in the segment's table, in order of FIRST_SECTOR. -/
def endStripe (s : State) (p id : Nat) (x : Stripe) (abandoned : Bool) : State :=
  let h := hdrOf s x abandoned
  let t := modSeg s p x.seg (fun g => { g with hdrs := insertBy StripeHdr.first h g.hdrs })
  trySeal (noteStripes (modPool t p (fun y => { y with stripes := Tbl.erase y.stripes id })) p) p x.seg

/-- Every stripe of a pool that can go out is issued. -/
def issueAll (s : State) (p : Nat) : State :=
  forEach (poolOf s p).stripes (fun e t => tryIssue t p e.1) s

/-- A stripe none of whose rows was issued leaves its segment: its rows return when no stripe lies behind it; otherwise they stay described, as those of an abandoned stripe (R135, R228). -/
def dropStripe (s : State) (p id : Nat) (x : Stripe) : State :=
  let t := modPool s p (fun y => { y with stripes := Tbl.erase y.stripes id, lanes := y.lanes.map (fun l => if l.stripe = some id then { l with stripe := none } else l) })
  noteStripes (modSeg t p x.seg (fun g =>
    if x.height = 0 then g else if g.next = x.first + x.height then { g with next := x.first } else { g with hdrs := insertBy StripeHdr.first (hdrOf s x true) g.hdrs })) p

/-- Drop stripes, the last of their segment first. -/
def dropStripes (s : State) (p : Nat) (l : List (Nat × Stripe)) : State :=
  forEach l.reverse (fun e t => dropStripe t p e.1 e.2) s

/-- Erase the PARITY slots of a stripe (Table 05-2). -/
def freeParity (s : State) (p id : Nat) : State :=
  let gone := s.prot.filter (fun e => e.2.st == .parity && e.2.pool == p && e.2.stripe == id)
  drop { s with prot := s.prot.filter (fun e => !(e.2.st == .parity && e.2.pool == p && e.2.stripe == id)) } Obj.OWN_PARITY_BYTES 0 (4096 * gone.length)

/-! ## Grains in a stripe (R141) -/

/-- Close the open stripe of a lane as GRAIN_FIT until the next four positions lie in one stripe; the last row of what it closes is filled up. Where no stripe of the pool can hold four, nothing is closed. -/
def fitGrain (s : State) (p cls idx : Nat) : Nat → State
  | 0 => s
  | n + 1 =>
    if rdN s Obj.POOL_STRIPE_HEIGHT p * (classCode s p cls).2.k < 4 then s
    else match ready s p cls idx with
      | none => s
      | some t => match (laneOf t p cls idx).stripe with
        | none => s
        | some id => match stripeOf t p id with
          | none => s
          | some x => if x.pos.length + 4 > capacityOf t p x then fitGrain (forceClose 6 t p id) p cls idx n else t

/-- Place positions that stay together: one sector, or the four of a grain. -/
def placeGroup (s : State) (p cls idx : Nat) (l : List Pos) (flags : Bool × Bool) : Option State :=
  l.foldl (fun o e => match o with
    | none => none
    | some t => placePos t p cls idx e flags) (some (if l.length = 4 then fitGrain s p cls idx 8 else s))

/-- The volume and LBA that a position carries. -/
def posKey (s : State) (e : Pos) : Nat × Nat :=
  match e.slot with
  | some n => (match Tbl.get s.prot n with
    | some x => (x.md.vol, x.md.lba)
    | none => (0, 0))
  | none => (e.md.vol, e.md.lba)

/-- Cut a run of positions into whole grains of four and single sectors. -/
def groupPos (s : State) : Nat → List Pos → List (List Pos)
  | 0, _ => []
  | n + 1, l => match l with
    | [] => []
    | e :: r =>
      let a := posKey s e
      let four := (e :: r).take 4
      if e.page.isNone && rdN s Obj.VOLUME_GRAIN a.1 == 1 && a.2 % 4 == 0 && four.length == 4 &&
          (List.range 4).all (fun i => (four[i]?.map (posKey s)) == some (a.1, a.2 + i)) then four :: groupPos s n (r.drop 3)
      else [e] :: groupPos s n r

/-- Place positions again in a lane, grain by grain; what finds no lane is staged (R227 to R229). -/
def placeAgain (s : State) (p cls idx : Nat) (l : List Pos) (flags : Bool × Bool) : State :=
  forEach (groupPos s l.length l) (fun es t => match placeGroup t p cls idx es flags with
    | some u => u
    | none => modPool (laneWaits t p cls idx) p (fun x => { x with staged := x.staged ++ es.map (fun e => (cls, e)) })) s

/-- Move the sectors of stripes to their lanes' next stripes; a stripe of which rows were written is reissued with the flag REISSUE (R227 to R229). -/
def reissueAll (s : State) (p : Nat) (l : List (Nat × Stripe)) : State :=
  forEach l (fun e t => placeAgain t p e.2.cls e.2.lane (e.2.pos.filter (fun x => !x.fill)) (e.2.issued || e.2.reissue, e.2.atomic)) s

/-! ## Abandoning (R227 to R229) -/

/-- Mark stripes of a segment as gone with it: the lane leaves it, their PARITY slots are FREE, and unissued rows at its end return to it. -/
def markGone (s : State) (p slot : Nat) (f : Stripe → Bool) : State :=
  let t := modPool (modSeg s p slot (fun g => { g with sealing := true })) p (fun x => { x with lanes := x.lanes.map (fun l => if l.seg = some slot then { l with seg := none, stripe := none } else l) })
  let l := (stripesOfSeg (poolOf t p) slot).filter (fun e => f e.2 || !e.2.issued)
  noteStripes (forEach l (fun e u => freeParity (modStripe u p e.1 (fun x => { x with gone := true })) p e.1) t) p

/-- The stripes of a segment that are gone. -/
def goneOf (s : State) (p slot : Nat) : List (Nat × Stripe) :=
  (stripesOfSeg (poolOf s p) slot).filter (fun e => e.2.gone)

/-- What is left of the stripes that are gone: headers marked ABANDONED for those whose rows were issued, nothing for the others (R135, R228). -/
def clearGone (s : State) (p slot : Nat) : State :=
  let l := goneOf s p slot
  let t := dropStripes s p (l.filter (fun e => !e.2.issued))
  forEach (l.filter (fun e => e.2.issued)) (fun e u =>
    modPool (modSeg u p slot (fun g => { g with hdrs := insertBy StripeHdr.first (hdrOf s e.2 true) g.hdrs })) p (fun y => { y with stripes := Tbl.erase y.stripes e.1 })) t

/-- The column writes of a segment have completed or ended, those held on a column that cannot be reached aside (R229 step 1). -/
def writesEnded (s : State) (p slot : Nat) (g : Seg) : Bool :=
  (stripesOfSeg (poolOf s p) slot).all (fun e => e.2.gone && e.2.colsLeft.all (fun j => mState s p (g.cols.getD j (64, 0)).1 != Ms.active))

/-- Seal a segment that holds abandoned stripes, in the order of R229: every other column write has ended; the write pointers of ZNS columns are brought to one zone sector; table and trailer are written; then the stripes are issued again, and rows not yet issued move on. -/
def sealGone (s : State) (p slot : Nat) : State :=
  match Tbl.get (poolOf s p).segs slot with
  | some g =>
    let l := goneOf s p slot
    if g.st ≠ 1 ∨ !g.sealing ∨ l.isEmpty ∨ !writesEnded s p slot g then s
    else if rdN s Obj.POOL_MEMBER_KIND p = 1 ∧ l.any (fun e => e.2.issued) ∧ !g.aligned then
      (if g.resets.isEmpty then queryPointers s p slot g else s)
    else
      let t := clearGone s p slot
      let u := match Tbl.get (poolOf t p).segs slot with
        | some h => writeTable t p slot h
        | none => t
      issueAll (reissueAll (noteStripes u p) p l) p
  | none => s

/-- A stripe is abandoned while its member stays in the pool: its segment seals under R229. -/
def abandonStripe (s : State) (p id : Nat) : State :=
  match stripeOf s p id with
  | none => s
  | some x => sealGone (markGone s p x.seg (fun y => y.id == id)) p x.seg

/-- A segment that is to seal does so as soon as it can. -/
def sealOn (s : State) (p slot : Nat) : State :=
  if (goneOf s p slot).isEmpty then trySeal s p slot else sealGone s p slot

/-- The stripes of a segment that are gone are issued again at once, and the segment seals behind them (R227, R228). -/
def reissueNow (s : State) (p slot : Nat) : State :=
  let l := goneOf s p slot
  issueAll (trySeal (reissueAll (noteStripes (clearGone s p slot) p) p l) p slot) p

end Sys2Proof.Machine
end

