-- ==== Sys2Proof/Machine/Hygiene.lean ====
section
/-! DEFINITION. Owner tags and the zeroing engine (R469, R470), and the protected region's slots (R177 to R181). -/

namespace Sys2Proof.Machine

open Sys2Proof

/-! ## Owned units (Table 12-8) -/

/-! Kinds of owned units whose allocation the model follows. -/

def Unit.slot : Nat := 0
def Unit.readLine : Nat := 1
def Unit.frame : Nat := 2

/-- The reserve of zeroed units of a kind: 1% of its region (R470). -/
def reserveSize (s : State) (kind : Nat) : Nat :=
  if kind = Unit.slot then 41943
  else if kind = Unit.readLine then rdN s Obj.HBM_READ_CACHE_SIZE 0 * 262144 / 100
  else 327

/-- Zeroed units of a kind that are ready. -/
def reserveLeft (s : State) (kind : Nat) : Nat :=
  reserveSize s kind - Tbl.getD s.key.taken kind 0

/-- ZERO_RESERVE_PCT: the fill of the emptiest reserve. -/
def noteReserve (s : State) : State :=
  wr s Obj.ZERO_RESERVE_PCT 0 (([0, 1, 2].foldl (fun m k => min m (100 * reserveLeft s k / reserveSize s k)) 100 : Nat) : Int)

/-- The last owner of a unit; 0 is none. -/
def ownerOf (s : State) (kind unit : Nat) : Nat :=
  Tbl.getD s.key.owners (kind * 2 ^ 32 + unit) 0

/-- Give a unit to an owner. A change of owner takes a zeroed unit of the reserve; `none` when the reserve is empty (R469, R470). -/
def takeUnit (s : State) (kind unit owner : Nat) : Option State :=
  if ownerOf s kind unit = owner + 1 then some s
  else if reserveLeft s kind = 0 then none
  else some (noteReserve { s with key := { s.key with owners := Tbl.set s.key.owners (kind * 2 ^ 32 + unit) (owner + 1), taken := Tbl.update s.key.taken kind 0 (fun n => n + 1) } })

/-- Clear the owner tag of every unit of a kind held by an owner, so that it is zeroed before its next use (R470). -/
def disown (s : State) (kind owner : Nat) : State :=
  { s with key := { s.key with owners := s.key.owners.filter (fun e => !(e.1 / 2 ^ 32 == kind && e.2 == owner + 1)) } }

/-- Clear the owner tags of a volume's units. -/
def disownVolume (s : State) (v : Nat) : State :=
  disown (disown (disown s Unit.slot v) Unit.readLine v) Unit.frame v

/-- ZEROING_COMPLETE: the zeroing engine adds a zeroed unit to the reserve of a kind (R470). A full reserve is left as it is. -/
def execZeroingComplete (kind : Nat) (s : State) : Host.Outcome State Fault Refusal :=
  .next (
    if kind < 3 ∧ Tbl.getD s.key.taken kind 0 ≠ 0 then
      noteReserve (bump { s with key := { s.key with taken := Tbl.update s.key.taken kind 0 (fun n => n - 1) } } Obj.ZERO_BYTES 0 4096)
    else s)

/-! ## Slots -/

/-- The slot of a number, when it is not FREE. -/
def slotOf (s : State) (n : Nat) : Option Slot :=
  Tbl.get s.prot n

/-- Change a slot. -/
def modSlot (s : State) (n : Nat) (f : Slot → Slot) : State :=
  { s with prot := Tbl.modify s.prot n f }

/-- Own slots that are FREE. -/
def ownFree (s : State) : Nat :=
  ownSlots - (s.prot.filter (fun e => decide (e.1 < ownSlots))).length

/-- A slot counted in OWN_DIRTY_BYTES (R181). -/
def countsDirty (x : Slot) : Bool :=
  x.st == .filling || x.st == .dirty

/-- Recompute OWN_DIRTY_BYTES, OWN_PARITY_BYTES and MIRROR_HELD_BYTES (R181). -/
def noteSlots (s : State) : State :=
  let n (f : Slot → Bool) : Nat := 4096 * (s.prot.filter (fun e => f e.2)).length
  wr (wr (wr s Obj.OWN_DIRTY_BYTES 0 (n countsDirty : Nat)) Obj.OWN_PARITY_BYTES 0 (n (fun x => x.st == .parity) : Nat)) Obj.MIRROR_HELD_BYTES 0 (n (fun x => x.st == .mirror) : Nat)

/-- The ACKED_DIRTY latch of the always-on domain (R212); R203 keeps the same account. -/
def ackedDirty (s : State) : Bool :=
  s.prot.any (fun e => (e.2.st == .dirty && e.2.acked) || e.2.st == .mirror || e.2.restored)

/-- The grain of an LBA: its key, and the sector's place in it. -/
def grainKey (s : State) (v lba : Nat) : Nat :=
  v * 2 ^ 40 + (if rdN s Obj.VOLUME_GRAIN v = 1 then lba / 4 else lba)

/-- The place of a sector in its grain. -/
def grainAt (s : State) (v lba : Nat) : Nat :=
  if rdN s Obj.VOLUME_GRAIN v = 1 then lba % 4 else 0

/-- Sectors of a grain. -/
def grainSize (s : State) (v : Nat) : Nat :=
  if rdN s Obj.VOLUME_GRAIN v = 1 then 4 else 1

/-- The map entry of a grain. -/
def entryOfGrain (s : State) (key : Nat) : Entry :=
  Tbl.getD s.map.entries key .unmapped

/-- Set a map entry. -/
def setEntry (s : State) (key : Nat) (e : Entry) : State :=
  touchMap { s with map := { s.map with entries := Tbl.put s.map.entries .unmapped key e } } key true

/-- The leaf of a grain. -/
def leafKey (key : Nat) : Nat :=
  key / 2 ^ 40 * 2 ^ 31 + key % 2 ^ 40 / 512

/-- A leaf that nothing has touched: UNMAPPED in its directory, so it needs no read. -/
def Leaf.fresh : Leaf :=
  { resident := true, dirty := false, ref := false, loc := none }

/-- Dirty leaves of a pool. -/
def dirtyLeaves (s : State) (p : Nat) : List Nat :=
  (s.map.leaves.filter (fun e => e.2.dirty && rdN s Obj.VOLUME_POOL (e.1 / 2 ^ 31) == p)).map Prod.fst

/-- Leaves that the map cache has room for beside the resident directories (R151, R153). -/
def leafSpace (s : State) : Nat :=
  ((76 - rdN s Obj.HBM_READ_CACHE_SIZE 0) * 2 ^ 30 - rdN s Obj.MAP_DIR_BYTES 0) / 4096

/-- Recompute the counts of leaves (R153). -/
def noteLeaves (s : State) : State :=
  let res := (s.map.leaves.filter (fun e => e.2.resident)).length
  let dirty := (s.map.leaves.filter (fun e => e.2.dirty)).length
  let t := wr (wr s Obj.MAP_LEAVES_RESIDENT 0 (res : Nat)) Obj.MAP_LEAVES_DIRTY_PCT 0 (100 * dirty / leafSpace s : Nat)
  forRange 8 (fun p u => wr u Obj.MAP_DIRTY_LEAVES p ((dirtyLeaves u p).length : Nat)) t

/-- Mark the leaf of a grain dirty. -/
def dirtyLeaf (s : State) (key : Nat) : State :=
  noteLeaves { s with map := { s.map with leaves := Tbl.update s.map.leaves (leafKey key) Leaf.fresh (fun l => { l with resident := true, dirty := true, ref := true }) } }

/-- The version that a sector key locates. -/
def verOf (s : State) (v lba : Nat) : Option Ver :=
  Tbl.get s.map.vers (v * 2 ^ 40 + lba)

/-- The location of sector `n` of a grain whose sector 0 lies at a location (R149). -/
def stepLoc (k zs col n : Nat) : Nat × Nat :=
  (zs + (col + n) / k, (col + n) % k)

/-- Where a committed slot's sector lies on the members. -/
def slotHome (s : State) (x : Slot) : Option Entry :=
  match (poolOf s x.pool).segs.find? (fun e => e.2.hdrs.any (fun h => h.id == x.stripe)) with
  | some (slot, g) => (g.hdrs.find? (fun h => h.id == x.stripe)).map (fun h => .array slot (h.first + x.row) x.col)
  | none => none

/-- Return a slot: entries recorded behind it follow what it held (R154), and its number is FREE. -/
def releaseSlot (s : State) (n : Nat) : State :=
  match slotOf s n with
  | none => s
  | some x =>
    let e := if x.st = .committed then (slotHome s x).getD x.prev else x.prev
    noteSlots { touchDesc s n with prot := (Tbl.erase s.prot n).map (fun y =>
      let z := if y.2.prev = .prot n then { y.2 with prev := e } else y.2
      (y.1, if x.st ≠ .committed ∧ z.md.vol = x.md.vol ∧ z.md.lba = x.md.lba ∧ z.prevVer.map Ver.wseq = some x.md.wseq then { z with prevVer := x.prevVer } else z)) }

/-- READs that resolved to a slot and have not finished (R41). -/
def slotReaders (s : State) (n : Nat) : Bool :=
  s.qps.any (fun q => q.2.cmds.any (fun c => c.rd.any (fun r => match r with
    | .delivered _ _ (some m) _ => m == n
    | .gathered _ _ (some m) _ _ => m == n
    | _ => false)))

end Sys2Proof.Machine
end

