-- ==== Sys2Proof/Machine/Frames.lean ====
section
/-! DEFINITION. Sector frames, the Flume directory and the HBM read cache (R473 to R488, R498). -/

namespace Sys2Proof.Machine

open Sys2Proof

/-! ## Frames (R475, R476) -/

/-- The frame set of a sector over all slices: 512 * slice + f (R475). -/
def frameSet (vol lba : Nat) : Nat :=
  let h := crc64 (leBytes 8 (vol * 2 ^ 40 + lba))
  512 * (h % 4) + h / 4 % 512

/-- The slice of a sector. -/
def sliceOf (vol lba : Nat) : Nat :=
  frameSet vol lba / 512

/-- The key of a frame. -/
def frameKey (set way : Nat) : Nat :=
  set * 16 + way

/-- An INVALID frame. -/
def Frame.invalid : Frame :=
  { st := 0, age := 0, locked := false, prefetched := false, vol := 0, lba := 0, md := Meta.zero, data := [], range := none }

/-- The frame at a key. -/
def frameAt (s : State) (k : Nat) : Frame :=
  Tbl.getD s.cache.frames k Frame.invalid

/-- Replace a frame. -/
def setFrame (s : State) (k : Nat) (f : Frame) : State :=
  { s with cache := { s.cache with frames := Tbl.put s.cache.frames Frame.invalid k f } }

/-- The frame that holds or reserves a sector, whatever its state. -/
def frameFor (s : State) (vol lba : Nat) : Option (Nat × Frame) :=
  (s.cache.frames.filter (fun e => decide (e.1 / 16 = frameSet vol lba))).find? (fun e => e.2.vol == vol && e.2.lba == lba && (e.2.st != 0 || e.2.locked))

/-- The Flume directory: a sector's VALID frame (R479). -/
def flumeLookup (s : State) (vol lba : Nat) : Option (Nat × Frame) :=
  (s.cache.frames.filter (fun e => decide (e.1 / 16 = frameSet vol lba))).find? (fun e => e.2.vol == vol && e.2.lba == lba && e.2.st == 2)

/-- Recompute FLUME_ENTRIES and CACHE_FRAMES_LOCKED. -/
def noteFrames (s : State) : State :=
  wr (wr s Obj.FLUME_ENTRIES 0 ((s.cache.frames.filter (fun e => e.2.st == 2)).length : Nat)) Obj.CACHE_FRAMES_LOCKED 0
    ((s.cache.frames.filter (fun e => e.2.locked)).length : Nat)

/-- READs that resolved to a frame and have not finished (R482). -/
def frameReaders (s : State) (k : Nat) : Bool :=
  s.qps.any (fun q => q.2.cmds.any (fun c => c.rd.any (fun r => match r with
    | .delivered _ _ _ (some m) => m == k
    | .gathered _ _ _ (some m) _ => m == k
    | _ => false)))

/-- Mark a sector's frame STALE and discard its read-cache copy (R481, R498). A STALE frame that is not locked is INVALID once it has no readers. -/
def staleSector (s : State) (vol lba : Nat) : State :=
  let t := match frameFor s vol lba with
    | some (k, f) => if f.locked ∨ frameReaders s k then setFrame s k { f with st := 3 } else setFrame s k Frame.invalid
    | none => s
  noteFrames { t with cache := { t.cache with rc := Tbl.erase t.cache.rc (vol * 2 ^ 40 + lba)
                                              fills := t.cache.fills.filter (fun x => !(x.vol == vol && x.lba == lba)) } }

/-- Discard every frame and read-cache line of a volume that passes a test of the LBA; locked frames stay reserved and INVALID (R488, R489). -/
def discardFrames (s : State) (vol : Nat) (f : Nat → Bool) : State :=
  let hit (v l : Nat) : Bool := v == vol && f l
  noteFrames { s with cache := { s.cache with
    frames := s.cache.frames.filterMap (fun e =>
      if hit e.2.vol e.2.lba then (if e.2.locked then some (e.1, { e.2 with st := 0, data := [] }) else if frameReaders s e.1 then some (e.1, { e.2 with st := 3 }) else none) else some e)
    rc := s.cache.rc.filter (fun e => !(hit (e.1 / 2 ^ 40) (e.1 % 2 ^ 40)))
    fills := s.cache.fills.filter (fun x => !hit x.vol x.lba) } }

/-! ## Lock ranges (R487 to R489) -/

/-- LOCK_SECTORS_HELD of a range. -/
def noteRange (s : State) (r : Nat) : State :=
  wr s Obj.LOCK_SECTORS_HELD r ((s.cache.frames.filter (fun e => e.2.locked && e.2.range == some r && decide (e.2.st ≥ 2))).length : Nat)

/-- A range ends: its frames lose LOCKED and become INVALID (R489). -/
def endRange (s : State) (r : Nat) : State :=
  let t := noteFrames { s with cache := { s.cache with
    frames := s.cache.frames.filterMap (fun e =>
      if e.2.range = some r then (if frameReaders s e.1 then some (e.1, { e.2 with st := 3, locked := false, range := none }) else none) else some e)
    reload := s.cache.reload.filter (fun x => x != r) } }
  noteRange (wr t Obj.LOCK_STATE r 0) r

/-- The ranges of a volume end: it is deleted or formatted, or its key slot destroyed (R489). -/
def endRanges (s : State) (v : Nat) : State :=
  forRange 64 (fun r t => if rdN t Obj.LOCK_STATE r ≠ 0 ∧ rdN t Obj.LOCK_VOLUME r = v then endRange t r else t) s

/-- Ranges of a pool's volumes that are to be preloaded again (R490). -/
def reloadRanges (s : State) (p : Nat) : State :=
  let l := (List.range 64).filter (fun r => decide (rdN s Obj.LOCK_STATE r ≥ 2) && rdN s Obj.VOLUME_POOL (rdN s Obj.LOCK_VOLUME r) == p)
  { s with cache := { s.cache with reload := l.foldl addOnce s.cache.reload } }

/-! ## Replacement (R484) -/

/-- An unlocked VALID frame of this age. -/
def victimAt (s : State) (set age : Nat) (w : Nat) : Bool :=
  let f := frameAt s (frameKey set w)
  f.st == 2 && !f.locked && f.age == age

/-- Age every unlocked VALID frame of a set once. -/
def ageSet (s : State) (set : Nat) (ways : List Nat) : State :=
  forEach ways (fun w t =>
    let k := frameKey set w
    let f := frameAt t k
    if f.st = 2 ∧ !f.locked ∧ f.age < 3 then setFrame t k { f with age := f.age + 1 } else t) s

/-- Steps 1 to 3 of R484: an INVALID frame, an AGE 3 frame, or age and repeat. -/
def victim (s : State) (set : Nat) (ways : List Nat) : Nat → Option (Nat × State)
  | 0 => none
  | n + 1 =>
    match ways.find? (fun w => let f := frameAt s (frameKey set w); f.st == 0 && !f.locked) with
    | some w => some (w, s)
    | none =>
      match ways.find? (victimAt s set 3) with
      | some w => some (w, s)
      | none => if ways.any (fun w => let f := frameAt s (frameKey set w); f.st == 2 && !f.locked) then victim (ageSet s set ways) set ways n else none

/-! Kinds of fill (R480). -/

def FillKind.read : Nat := 0
def FillKind.prefetch : Nat := 1
def FillKind.streaming : Nat := 2
def FillKind.preload : Nat := 3

/-- The victim of a fill: a prefetch takes only an INVALID or AGE 3 frame and ages nothing (R486). -/
def fillVictim (s : State) (kind set : Nat) : Option (Nat × State) :=
  let ways := frameWays s (set / 512)
  if kind = FillKind.prefetch then
    match ways.find? (fun w => let f := frameAt s (frameKey set w); f.st == 0 && !f.locked) with
    | some w => some (w, s)
    | none => (ways.find? (victimAt s set 3)).map (fun w => (w, s))
  else victim s set ways 5

/-- Insertion age (Table 13-3). -/
def insertAge (kind : Nat) : Nat :=
  if kind = FillKind.prefetch then 2 else if kind = FillKind.streaming then 3 else if kind = FillKind.preload then 0 else 1

/-- Start a fill: a victim is taken and FILLING; a frame that passes to another volume is zeroed first (R469, R480, R482). Without a victim the sector is not cached. -/
def startFill (s : State) (kind vol lba : Nat) (md : Meta) (data : Bytes) : State :=
  if md.badData || md.kind != Kind.data || (frameFor s vol lba).isSome then s
  else match fillVictim s kind (frameSet vol lba) with
    | none => s
    | some (w, t) =>
      let k := frameKey (frameSet vol lba) w
      match takeUnit t Unit.frame k vol with
      | none => bump t Obj.ZERO_ALLOC_WAITS 0 1
      | some u =>
        let sl := sliceOf vol lba
        let c := if kind = FillKind.streaming then bump u Obj.SLICE_STREAM_FILLS sl 1 else if kind = FillKind.prefetch then bump u Obj.SLICE_PREFETCHES sl 1 else u
        let v := setFrame c k { st := 1, age := insertAge kind, locked := false, prefetched := decide (kind = FillKind.prefetch), vol := vol, lba := lba, md := md, data := [], range := none }
        noteFrames { v with cache := { v.cache with fills := v.cache.fills ++ [{ vol := vol, lba := lba, kind := kind, frame := k, md := md, data := data }] } }

/-- A preload sector has landed: its frame is locked for the range, unless the operation is paused (R487, R493). -/
def lockFill (s : State) (r vol lba : Nat) (md : Meta) (data : Bytes) : State :=
  let on := match s.cache.maint with
    | some m => m.op == 5 && m.range == r && !m.paused
    | none => false
  if !on then s
  else
    let t := startFill s FillKind.preload vol lba md data
    match frameFor t vol lba with
    | some (k, f) => noteRange (noteFrames (setFrame t k { f with locked := true, range := some r, age := 0 })) r
    | none => t

/-- A hit on a frame sets AGE to 0 and clears PREFETCHED (R484). -/
def hitFrame (s : State) (k : Nat) (f : Frame) : State :=
  let t := bump (countDev (setFrame s k { f with age := 0, prefetched := false }) (Dc.frameHits + k / 16 / 512) 1) Obj.SLICE_HITS (k / 16 / 512) 1
  if f.prefetched then bump t Obj.SLICE_PREFETCH_USED (k / 16 / 512) 1 else t

/-! ## The HBM read cache (R498) -/

/-- Units of the read cache. -/
def rcCapacity (s : State) : Nat :=
  rdN s Obj.HBM_READ_CACHE_SIZE 0 * 262144

/-- One turn of the clock sweep: the first unit without its reference bit leaves; those passed lose theirs. -/
def sweepRc : Tbl RcLine → Tbl RcLine
  | [] => []
  | (k, l) :: r => if l.ref then (k, { l with ref := false }) :: sweepRc r else r

/-- Free a unit: a turn in which every unit had its reference bit is followed by another. -/
def makeRoomRc (l : Tbl RcLine) : Tbl RcLine :=
  if (sweepRc l).length < l.length then sweepRc l else sweepRc (sweepRc l)

/-- A stack's read cache is under test: it refills only afterwards (Table 16-5). -/
def stackTested (s : State) (n : Nat) : Bool :=
  match s.power.test with
  | some t => t.op == 5 && t.target == n
  | none => false

/-- Put a member sector into the read cache. -/
def putRc (s : State) (vol lba : Nat) (md : Meta) (data : Bytes) : State :=
  if md.badData || md.kind != Kind.data || stackTested s (sliceOf vol lba) then s
  else
    let key := vol * 2 ^ 40 + lba
    let rc := if s.cache.rc.length ≥ rcCapacity s then makeRoomRc s.cache.rc else s.cache.rc
    { s with cache := { s.cache with rc := Tbl.set rc key { md := md, data := data, ref := true } } }

/-- Look a sector up in the read cache; the lookup sets its reference bit. -/
def lookRc (s : State) (vol lba : Nat) : Option (RcLine × State) :=
  match Tbl.get s.cache.rc (vol * 2 ^ 40 + lba) with
  | some l => some (l, { s with cache := { s.cache with rc := Tbl.set s.cache.rc (vol * 2 ^ 40 + lba) { l with ref := true } } })
  | none => none

/-- The map still locates the version that was read (R480). -/
def sameVersion (s : State) (vol lba : Nat) (md : Meta) : Bool :=
  (match entryOfGrain s (grainKey s vol lba) with
    | .array .. => true
    | _ => false) &&
  (match verOf s vol lba with
    | some v => v.wseq == md.wseq && v.keyGen == md.keyGen
    | none => true)

/-- FRAME_FILL_COMPLETE: a fill lands; the frame becomes VALID if the map still names the same version, else INVALID (R480). An invalidation in its scope keeps it from becoming VALID (R492). -/
def finishFill (s : State) (x : Fill) : State :=
  let t := { s with cache := { s.cache with fills := s.cache.fills.filter (fun y => y.frame != x.frame) } }
  let blocked := match s.cache.maint with
    | some m => (m.op == 3) || (m.op == 2 && m.vol == x.vol) || (m.op == 1 && m.vol == x.vol && decide (m.slba ≤ x.lba ∧ x.lba < m.slba + m.nlb))
    | none => false
  let f := frameAt t x.frame
  noteFrames (if sameVersion t x.vol x.lba x.md && (!blocked || f.locked) then setFrame t x.frame { f with st := 2, data := x.data }
    else setFrame t x.frame (if f.locked then { f with st := 3 } else Frame.invalid))

/-- FRAME_FILL_COMPLETE for the frame of a slice, set and way. A frame that is not being filled is left alone. -/
def execFrameFillComplete (frame : Nat) (s : State) : Host.Outcome State Fault Refusal :=
  .next (match s.cache.fills.find? (fun x => x.frame == frame) with
    | some x => finishFill s x
    | none => s)

/-- The committed content of a slot is copied into the sector's reserved locked frame (R488). -/
def fillLocked (s : State) (vol lba : Nat) (md : Meta) (data : Bytes) : State :=
  match frameFor s vol lba with
  | some (k, f) => if f.locked ∧ f.st ≠ 2 then noteFrames (setFrame s k { f with st := 2, md := md, data := data }) else s
  | none => s

end Sys2Proof.Machine
end

