-- ==== Sys2Proof/Machine/Mirror.lean ====
section
/-! DEFINITION. Mirroring what lands and what commits: MIRROR_DATA and RECORD messages of a mirrored pool (R195, R410, R411). -/

namespace Sys2Proof.Machine

open Sys2Proof

/-- Mirror an own slot's sector to the partner; the acknowledgement is awaited under its MSG_ID (R410). -/
def sendMirror (s : State) (p slot flags : Nat) : State :=
  match slotOf s slot with
  | none => s
  | some x =>
    let m : Msg := .mirrorData p slot flags x.atomicRef x.md.bytes x.data
    if carries s m then sendMsg (modPair s (fun q => { q with mirWait := Tbl.set q.mirWait (nextMsgId s m) slot })) m else s

/-- Send a durable intent record of a mirrored pool, and await its acknowledgement (R195, R411). -/
def sendRecord (s : State) (r : LogRec) : State :=
  let m : Msg := .record r.pool [r]
  if mirrors s r.pool && carries s m then
    sendMsg (modPair s (fun q => { q with recWait := Tbl.set q.recWait (nextMsgId s m) r })) m
  else s

/-- Mirrored dirty bytes that the partner holds for this controller. -/
def mirroredBytes (s : State) : Nat :=
  4096 * (s.prot.filter (fun e => decide (e.1 < ownSlots) && (e.2.st == .dirty || e.2.st == .committed || e.2.st == .filling) && mirrors s e.2.pool)).length

end Sys2Proof.Machine
end

