-- ==== Sys2Proof/Machine/Cipher.lean ====
section
/-! DEFINITION. Cipher work: pipelines and their faults (R34, R443 to R448), keys of a sector (R449, R451), encryption and decryption with the integrity tag (R438 to R442). -/

namespace Sys2Proof.Machine

open Sys2Proof

/-! ## Pipelines -/

/-- A pipeline is in service. -/
def pipeOk (s : State) (q : Nat) : Bool :=
  rdN s Obj.PIPE_STATE q == 0

/-- The neighbours of a quadrant, the fixed one first (R22, R34). -/
def neighbours (q : Nat) : List Nat :=
  if q = 0 then [1, 2] else if q = 1 then [0, 3] else if q = 2 then [3, 0] else [2, 1]

/-- The pipeline that does a quadrant's work: its own, the fixed neighbour, the other neighbour, or the last one left; 0xFF none. -/
def servedBy (s : State) (q : Nat) : Nat :=
  ((q :: neighbours q ++ [3 - q]).find? (pipeOk s)).getD 0xFF

/-- Recompute PIPE_SERVED_BY. -/
def notePipes (s : State) : State :=
  forRange 4 (fun q t => wr t Obj.PIPE_SERVED_BY q (servedBy s q : Nat)) s

/-- Count bytes of cipher work against the pipeline that does it. -/
def pipeWork (s : State) (q n : Nat) : State :=
  let p := servedBy s q
  if p = 0xFF then s else bump (countDev s (Dc.aesBytes + p) n) Obj.PIPE_BYTES p n

/-! ## Keys -/

/-- The volume is encrypted. -/
def encrypted (s : State) (v : Nat) : Bool :=
  rdN s Obj.VOLUME_KEY_SLOT v != 0xFFFF

/-- The 96 key bytes of a slot's generation, if that generation is installed (R449). -/
def keyBytes (s : State) (slot gen : Nat) : Option Bytes :=
  if gen = 0 then none
  else if rdN s Obj.KEY_GEN_CURRENT slot = gen ∧ bitAt (rdN s Obj.KEY_PRESENT slot) 0 then Tbl.get s.key.keys (2 * slot)
  else if rdN s Obj.KEY_GEN_PREVIOUS slot = gen ∧ bitAt (rdN s Obj.KEY_PRESENT slot) 1 then Tbl.get s.key.keys (2 * slot + 1)
  else none

/-- Charge sectors to the current generation's usage counter, with the warning of R452. -/
def chargeKey (s : State) (slot n : Nat) : State :=
  let t := bump s Obj.KEY_USAGE_CURRENT slot n
  if decide (100 * rdN t Obj.KEY_USAGE_CURRENT slot ≥ rdN t Obj.KEY_USAGE_WARN 0 * rdN t Obj.KEY_USAGE_LIMIT slot) && !t.key.warned.contains slot then
    raiseOpen { t with key := { t.key with warned := addOnce t.key.warned slot } } (ev 0x0B 452) .warn Src.keySlot slot
  else t

/-! ## Sectors -/

/-- The integrity tag of a stored sector (R439). -/
def tagOf (key : Bytes) (m : Meta) (cipher : Bytes) : Bytes :=
  gmac (slice key 64 32) (gmacIv m.wseq m.vol m.keyGen) (cipher ++ leBytes 8 m.address ++ leBytes 8 m.wseq)

/-- The stored form of a plain sector of a volume: payload and metadata with tag and guard (steps 5 and 6 of Table 01-5). With the key gone there is none. -/
def sealSector (s : State) (v lba wseq : Nat) (atomic : Bool) (plain : Bytes) : Option (Bytes × Meta) :=
  let m : Meta := { Meta.zero with vol := v, lba := lba, wseq := wseq, atomic := atomic, kind := Kind.data }
  if encrypted s v then
    let k := rdN s Obj.VOLUME_KEY_SLOT v
    let g := rdN s Obj.KEY_GEN_CURRENT k
    match keyBytes s k g with
    | none => none
    | some key =>
      let c := xtsEncrypt key v lba plain
      let m1 := { m with encrypted := true, keySlot := k, keyGen := g, tagged := rdB s Obj.VOLUME_TAGGED v }
      let m2 := if m1.tagged then { m1 with tag := tagOf key m1 c } else m1
      some (c, { m2 with guard := crc64 c })
  else some (plain, { m with guard := crc64 plain })

/-- The plain form of a stored sector, and whether its tag verified (R441); `none` when its generation is not held. -/
def openSector (s : State) (m : Meta) (stored : Bytes) : Option (Bytes × Bool) :=
  if m.encrypted then
    match keyBytes s m.keySlot m.keyGen with
    | none => none
    | some key => some (xtsDecrypt key m.vol m.lba stored, !m.tagged || tagOf key m stored == m.tag)
  else some (stored, true)

/-- A BAD_DATA sector: GUARD over zeros, ENCRYPTED and TAGGED clear (R440). -/
def badSector (v lba wseq : Nat) : Bytes × Meta :=
  (zeros 4096, { Meta.zero with vol := v, lba := lba, wseq := wseq, badData := true, kind := Kind.data, guard := crc64 (zeros 4096) })

/-- Sectors under a slot's previous generation that may still have to be decrypted: located by the map on the array, or held in a slot (R453). -/
def prevSectors (s : State) (slot : Nat) : Nat :=
  let g := rdN s Obj.KEY_GEN_PREVIOUS slot
  if g = 0 then 0
  else
    (s.map.vers.filter (fun e => e.2.encrypted && e.2.keySlot == slot && e.2.keyGen == g && (match entryOfGrain s (grainKey s (e.1 / 2 ^ 40) (e.1 % 2 ^ 40)) with
      | .array .. => true
      | _ => false))).length +
    (s.prot.filter (fun e => e.2.md.encrypted && e.2.md.keySlot == slot && e.2.md.keyGen == g)).length

/-! ## Locked volumes (R454) -/

/-- VOLUME_LOCK_CAUSE of a volume: the first condition that holds. -/
def lockCause (s : State) (v : Nat) : Nat :=
  if !encrypted s v then 0
  else
    let st := rdN s Obj.KEY_STATE (rdN s Obj.VOLUME_KEY_SLOT v)
    if st = 0 then 1 else if st = 3 then 2
    else if !(List.range 4).any (pipeOk s) then 3
    else if poolCond s (rdN s Obj.VOLUME_POOL v) Pc.locked then 4 else 0

/-- VOLUME_STATE is LOCKED: nothing of the volume is encrypted or decrypted any more (R454, R466). -/
def volLocked (s : State) (v : Nat) : Bool :=
  rdN s Obj.VOLUME_STATE v == 2

/-- Volumes that are ACTIVE or LOCKED. -/
def liveVolumes (s : State) : List Nat :=
  (s.vols.map Prod.fst).filter (fun v => let x := rdN s Obj.VOLUME_STATE v; x == 1 || x == 2)

/-- Set VOLUME_LOCK_CAUSE and VOLUME_STATE of every volume; the volumes that have just become LOCKED are those whose state was ACTIVE. -/
def noteLocks (s : State) : State :=
  forEach (liveVolumes s) (fun v t =>
    let c := lockCause t v
    wr (wr t Obj.VOLUME_LOCK_CAUSE v (c : Nat)) Obj.VOLUME_STATE v (if c = 0 then 1 else 2)) s

/-- Quarantine a pipeline (R446). -/
def quarantine (s : State) (q : Nat) : State :=
  noteLocks (notePipes (wr s Obj.PIPE_STATE q 1))

/-- A cipher fault in the work of a quadrant: counted against the pipeline that did it, an ERROR event, quarantine at the third (R445, R446). -/
def pipeFault (s : State) (q : Nat) : State :=
  let p := servedBy s q
  if p = 0xFF then s
  else
    let n := sat 255 (rdN s Obj.PIPE_FAULTS p + 1)
    let t := raiseOpen (wr s Obj.PIPE_FAULTS p (n : Nat)) (ev 0x0B 445) .error Src.pipeline p
    if n ≥ 3 ∧ pipeOk t p then quarantine t p else t

end Sys2Proof.Machine
end

