-- ==== Sys2Proof/Machine/Fetch.lean ====
section
/-! DEFINITION. Fetching a sector from the members: leaf misses (R152), member reads, source sets and decodes (R230, R231, R235), and the checks of a read or decoded sector (R233). -/

namespace Sys2Proof.Machine

open Sys2Proof

/-! ## Recovering one column (R113, R231) -/

/-- The generator row of a column of a code. -/
def genRow (c : CodeTbl) (t : Nat) : Bytes :=
  if t < c.k then (List.range c.k).map (fun j => if j = t then 1 else 0) else c.parityRows.getD (t - c.k) []

/-- Eliminate the columns listed; the rows left are zero there. -/
def isolate : List Nat → List (Bytes × Bytes) → List (Bytes × Bytes)
  | [], rows => rows
  | j :: r, rows =>
    match takePivot Prod.fst j rows with
    | none => isolate r rows
    | some (p, rest) =>
      isolate r (rest.map (fun q =>
        let f := gfMul (coef q.1 j) (gfInv (coef p.1 j))
        (xorBytes q.1 (gfScale f p.1), xorBytes q.2 (gfScale f p.2))))

/-- Data column `j` from what the columns of `src` hold; `none` when they do not determine it. -/
def recoverCol (c : CodeTbl) (j : Nat) (src : List (Nat × Bytes)) : Option Bytes :=
  let rows := src.map (fun e => (genRow c e.1, e.2))
  match takePivot Prod.fst j (isolate ((List.range c.k).filter (fun x => x != j)) rows) with
  | none => none
  | some (p, _) => some (gfScale (gfInv (coef p.1 j)) p.2)

/-- The columns of `src` determine data column `j`. -/
def recovers (c : CodeTbl) (j : Nat) (src : List Nat) : Bool :=
  (recoverCol c j (src.map (fun t => (t, [])))).isSome

/-- Sets of `n` of the columns listed, in ascending lexicographic order. -/
def subsets (l : List Nat) (n : Nat) : List (List Nat) :=
  (combos 0 l.length n).map (fun x => x.map (fun i => l.getD i 0))

/-- The first element of least weight. -/
def leastBy {α : Type} (f : α → Nat) : List α → Option α
  | [] => none
  | x :: r => match leastBy f r with
    | none => some x
    | some y => if f y < f x then some y else some x

/-- The smallest source sets of sizes `n`, `n + 1`, … , up to `fuel` sizes. -/
def smallest (c : CodeTbl) (j : Nat) (live : List Nat) (n : Nat) : Nat → List (List Nat)
  | 0 => []
  | f + 1 => match (subsets live n).filter (recovers c j) with
    | [] => smallest c j live (n + 1) f
    | l => l

/-- Outstanding commands on the members of a set of columns. -/
def loadOf (s : State) (p : Nat) (g : Seg) (t : List Nat) : Nat :=
  (t.map (fun i => rdN s Obj.DPORT_INFLIGHT (mPort s p (g.cols.getD i (0, 0)).1))).sum

/-- The source set of R231 for data column `j` with the columns `e` erased: fewest columns, then least load, then lowest numbers. -/
def sourceSet (s : State) (p : Nat) (g : Seg) (j : Nat) (e : List Nat) : Option (List Nat) :=
  let live := (List.range g.cols.length).filter (fun i => !e.contains i)
  leastBy (loadOf s p g) (smallest (segCode s p g) j live 1 live.length)

/-! ## Decodes -/

/-- Issue the source reads of a decode. -/
def readSources (s : State) (job : Nat) (x : Job) (g : Seg) : State :=
  forEach x.sources (fun i t =>
    let c := g.cols.getD i (0, 0)
    issueTo t x.pool c.1 (.read c.2 x.zs 1) (.source job i)) s

/-- Start a decode of a data sector at a location with these columns erased; `none` when no source set recovers it. -/
def startJob (s : State) (w : Want) (p v lba slot zs col : Nat) (erased : List Nat) (repair : Bool) : Option State :=
  match Tbl.get (poolOf s p).segs slot with
  | none => none
  | some g =>
    match sourceSet s p g col erased with
    | none => none
    | some src =>
      let id := s.drv.nextJob
      let x : Job := { want := w, pool := p, vol := v, lba := lba, slot := slot, zs := zs, col := col, erased := erased, sources := src, got := [], first := erased, used := src, tried := [src], bad := [], repair := repair, waits := false }
      some (readSources { s with drv := { s.drv with nextJob := id + 1, jobs := Tbl.set s.drv.jobs id x } } id x g)

/-- The column is erased only because its port is CONTAINED: a read that cannot be decoded without it waits (R389). -/
def containedCols (s : State) (p : Nat) (g : Seg) : List Nat :=
  (List.range g.cols.length).filter (fun j => mState s p (g.cols.getD j (64, 0)).1 == Ms.contained)

/-- How a fetch begins: a member read or a decode, a wait for a contained member, or nothing that could recover the sector (R248). -/
inductive FetchStart
  | started (s : State)
  | lost
deriving DecidableEq, Repr

/-- Fetch the sector at a location: read its column, or decode it while the column is erased (R230). A read that only a CONTAINED column stops is issued and held (R389). -/
def fetchAt (s : State) (w : Want) (p v lba slot zs col : Nat) : FetchStart :=
  match Tbl.get (poolOf s p).segs slot with
  | none => .lost
  | some g =>
    let e := erasedCols s p g
    let c := g.cols.getD col (0, 0)
    if !e.contains col then .started (issueTo s p c.1 (.read c.2 zs 1) (.sector w p v lba slot zs col))
    else match startJob s w p v lba slot zs col e false with
      | some t => .started t
      | none =>
        if (sourceSet s p g col (e.filter (fun j => !(containedCols s p g).contains j))).isSome then
          .started (issueTo s p c.1 (.read c.2 zs 1) (.sector w p v lba slot zs col))
        else .lost

/-! ## Locating a sector -/

/-- The location of a sector whose grain has this entry, where that is ARRAY (R149). -/
def locateAt (s : State) (v lba : Nat) (e : Entry) : Option (Nat × Nat × Nat) :=
  match e with
  | .array slot zs col =>
    let k := match Tbl.get (poolOf s (rdN s Obj.VOLUME_POOL v)).segs slot with
      | some g => g.k
      | none => 1
    let a := stepLoc k zs col (grainAt s v lba)
    some (slot, a.1, a.2)
  | _ => none

/-- The location of a sector whose grain's entry is ARRAY. -/
def locate (s : State) (v lba : Nat) : Option (Nat × Nat × Nat) :=
  locateAt s v lba (entryOfGrain s (grainKey s v lba))

/-- The protected-region slot that holds a sector whose grain's entry names `n`: the slot of the grain's sector 0, or that of a later sector of the same command (R149, R177). -/
def grainSlot (s : State) (n j : Nat) : Option (Nat × Slot) :=
  match slotOf s n with
  | none => none
  | some x =>
    if j = 0 then some (n, x)
    else s.prot.find? (fun e => decide (e.1 < ownSlots) && e.2.st != .parity && e.2.st != .filling && e.2.md.vol == x.md.vol && e.2.md.lba == x.md.lba + j && e.2.md.wseq == x.md.wseq + j)

/-! ## The map cache (R151 to R153) -/

/-- The leaf of a grain is in the map cache, or its directory entry is UNMAPPED. -/
def leafResident (s : State) (key : Nat) : Bool :=
  match Tbl.get s.map.leaves (leafKey key) with
  | some l => l.resident
  | none => true

/-- A lookup sets the leaf's reference bit. -/
def touchLeaf (s : State) (key : Nat) : State :=
  touchMap { s with map := { s.map with leaves := Tbl.modify s.map.leaves (leafKey key) (fun l => { l with ref := true }) } } key false

/-- The copies of a leaf not yet tried, in column order. -/
def leafCopies (s : State) (p : Nat) (loc : Nat × Nat) (tried : List Nat) : List Nat :=
  match Tbl.get (poolOf s p).segs loc.1 with
  | some g => (List.range g.cols.length).filter (fun j => !tried.contains j && colReadable s p g j)
  | none => []

/-- Issue the read of one copy of a leaf; the low bits of `mask` are the copies already tried. -/
def readLeaf (s : State) (p key mask copy : Nat) : State :=
  match Tbl.get s.map.leaves key with
  | some l => match l.loc with
    | some (slot, zs) => match Tbl.get (poolOf s p).segs slot with
      | some g => let c := g.cols.getD copy (0, 0); issueTo s p c.1 (.read c.2 zs 1) (.leaf p key (mask * 64 + copy))
      | none => s
    | none => s
  | none => s

/-- A map miss: read one copy of the leaf, from the member with the fewest outstanding commands, unless a read of it is under way; with no copy that can be read the pool is FAILED (R152). -/
def missLeaf (s : State) (p key : Nat) : State :=
  if s.drv.cmds.any (fun e => match e.2.purp with
      | .leaf q k _ => q == p && k == key
      | _ => false) then s
  else match Tbl.get s.map.leaves key with
    | some l => match l.loc with
      | some loc =>
        match Tbl.get (poolOf s p).segs loc.1 with
        | some g => match leastBy (fun j => loadOf s p g [j]) (leafCopies s p loc []) with
          | some j => readLeaf (bump (touchDir s key false) Obj.MAP_LEAF_MISSES p 1) p key 0 j
          | none => setCond s p Pc.failed true
        | none => setCond s p Pc.failed true
      | none => s
    | none => s

/-- The clock sweep over clean resident leaves (R152): from the hand on, leaves with their reference bit set lose it, and the first without it leaves the cache; a turn that finds none takes the first it met. The leaves after, and the hand. -/
def sweepLeaves (leaves : Tbl Leaf) (hand : Nat) : Tbl Leaf × Nat :=
  let clean := leaves.filter (fun e => e.2.resident && !e.2.dirty)
  let order := clean.filter (fun e => decide (hand ≤ e.1)) ++ clean.filter (fun e => decide (e.1 < hand))
  let passed := order.takeWhile (fun e => e.2.ref)
  match (order.drop passed.length ++ order).head? with
  | none => (leaves, hand)
  | some (k, _) => (Tbl.mapV leaves (fun i l => if i = k then { l with resident := false } else if passed.any (fun e => e.1 == i) then { l with ref := false } else l), k + 1)

/-- Make a leaf resident, replacing a clean one when the leaf space is full. -/
def bringLeaf (s : State) (key : Nat) : State :=
  let l := if (s.map.leaves.filter (fun e => e.2.resident)).length ≥ leafSpace s then sweepLeaves s.map.leaves s.map.hand else (s.map.leaves, s.map.hand)
  noteLeaves { s with map := { s.map with leaves := Tbl.modify l.1 key (fun x => { x with resident := true, ref := true }), hand := l.2 } }

/-! ## Checks of a sector (R233) -/

/-- What a check of a sector finds. -/
inductive Check
  | pass | guard | address
deriving DecidableEq, Repr

/-- The identity and cipher fields of a data sector agree with what is wanted. -/
def identityOk (s : State) (v lba : Nat) (m : Meta) : Bool :=
  m.kind == Kind.data && m.vol == v && m.lba == lba &&
    (m.badData || (m.encrypted == encrypted s v && m.tagged == rdB s Obj.VOLUME_TAGGED v &&
      (!m.encrypted || (m.keySlot == rdN s Obj.VOLUME_KEY_SLOT v &&
        (m.keyGen == rdN s Obj.KEY_GEN_CURRENT m.keySlot || m.keyGen == rdN s Obj.KEY_GEN_PREVIOUS m.keySlot)))))

/-- The checks of a sector read from a member. -/
def checkRead (s : State) (v lba : Nat) (b : Bytes) : Check :=
  if (metaOf b).guard != crc64 (payloadOf b) then .guard else if identityOk s v lba (metaOf b) then .pass else .address

/-- The stripe that holds a zone sector of a segment, if its header is known. -/
def stripeAt (g : Seg) (zs : Nat) : Option StripeHdr :=
  g.hdrs.find? (fun h => decide (h.first ≤ zs ∧ zs < h.first + h.height))

/-- WRITE_SEQ lies within the stripe's range, where its header is known. -/
def seqOk (g : Seg) (zs : Nat) (m : Meta) : Bool :=
  match stripeAt g zs with
  | some h => decide (h.fws ≤ m.wseq ∧ m.wseq ≤ h.lws)
  | none => true

/-- The checks of a decoded sector. -/
def checkDecoded (s : State) (v lba zs : Nat) (g : Seg) (m : Meta) : Bool :=
  identityOk s v lba m && seqOk g zs m

/-- Decode a job's sector from its sources: payload and metadata, its guard recomputed and its stripe bytes taken from the stripe (R111). -/
def decodeJob (s : State) (x : Job) (g : Seg) : Option (Bytes × Meta) :=
  let c := segCode s x.pool g
  let src := x.sources.map (fun i => (i, Tbl.getD x.got i []))
  let low := (src.map (fun e => (metaOf e.2).stripeLow))
  if low.any (fun y => y != low.headD 0) then none
  else match recoverCol c x.col (src.map (fun e => (e.1, payloadOf e.2))), recoverCol c x.col (src.map (fun e => (e.1, coveredBytes (slice e.2 4096 64)))) with
    | some d, some v => some (d, withCovered { Meta.zero with guard := crc64 d, stripeLow := low.headD 0, relocated := g.cls != Cls.host, cls := g.cls, kind := Kind.data } v)
    | _, _ => none

/-- The checks that apply to a source whatever it holds: its guard, and KIND by its column (R130, R233). -/
def sourceCheck (c : CodeTbl) (i : Nat) (b : Bytes) : Check :=
  let m := metaOf b
  if m.guard != crc64 (payloadOf b) then .guard
  else if (if i < c.k then m.kind == Kind.data || m.kind == Kind.fill else if i < c.k + c.m then m.kind == Kind.globalParity else m.kind == Kind.localParity) then .pass
  else .address

/-! ## Media errors and repairs -/

/-- Count a media error of a member within the window (R223, R224); the member fails at the limit, which the caller acts on. -/
def mediaError (s : State) (p m : Nat) : State :=
  let w := rdN s Obj.MEMBER_MEDIA_ERROR_WINDOW 0 * 3600000000
  let l := ((poolOf s p).mediaErrs.filter (fun e => decide (s.now - e.2 < w))) ++ [(m, s.now)]
  wr (modPool s p (fun x => { x with mediaErrs := l })) Obj.MEMBER_MEDIA_ERRORS (mInst p m) ((l.filter (fun e => e.1 == m)).length : Nat)

/-- The member has reached MEMBER_MEDIA_ERROR_LIMIT. -/
def mediaLimit (s : State) (p m : Nat) : Bool :=
  decide (rdN s Obj.MEMBER_MEDIA_ERRORS (mInst p m) ≥ rdN s Obj.MEMBER_MEDIA_ERROR_LIMIT 0)

end Sys2Proof.Machine
end

