-- ==== Sys2Proof/Machine/WritePath.lean ====
section
/-! DEFINITION. The acknowledged half of a write (Table 01-5, R37 to R40, R140 to R144, R317 to R327): placement, landing, step 7 and completion; FLUSH and DEALLOCATE. -/

namespace Sys2Proof.Machine

open Sys2Proof

/-! ## Ranges -/

/-- The pool of a command's volume. -/
def cmdPool (s : State) (c : Cmd) : Nat :=
  rdN s Obj.VOLUME_POOL c.volume

/-- The sectors a WRITE places: its range, widened to whole grains on a 16 KiB-grain volume (R142): first sector and count. -/
def placedRange (s : State) (v slba nlb : Nat) : Nat × Nat :=
  if rdN s Obj.VOLUME_GRAIN v = 1 then (slba / 4 * 4, (slba + nlb + 3) / 4 * 4 - slba / 4 * 4) else (slba, nlb)

/-- Sector `lba` belongs to a command's own range. -/
def inRange (c : Cmd) (lba : Nat) : Bool :=
  decide (c.slba ≤ lba ∧ lba < c.slba + c.nlb)

/-- The command covers the grain of a sector: the overlap of R324 to R326. -/
def touchesGrain (s : State) (c : Cmd) (v lba : Nat) : Bool :=
  let r := placedRange s v c.slba c.nlb
  c.volume == v && decide (r.1 ≤ lba ∧ lba < r.1 + r.2)

/-- Two commands overlap (R324). -/
def overlaps (s : State) (a b : Cmd) : Bool :=
  let x := placedRange s a.volume a.slba a.nlb
  let y := placedRange s b.volume b.slba b.nlb
  a.volume == b.volume && decide (x.1 < y.1 + y.2 ∧ y.1 < x.1 + x.2)

/-- The DMA offset of a placed sector in the host buffer. -/
def bufferAt (c : Cmd) (lba : Nat) : Nat :=
  (lba - c.slba) * 4096

/-! ## Placement (step 3) -/

/-- Sectors that wait in a host lane: placed in it and not committed (R140). -/
def laneLoad (s : State) (p lane : Nat) : Nat :=
  (((poolOf s p).stripes.filter (fun e => e.2.cls == Cls.host && e.2.lane == lane)).map (fun e => (e.2.pos.filter (fun x => !x.fill)).length)).sum

/-- The host lane of a write: fewest sectors waiting, lowest number first, among the lanes that are not held (R139, R140). -/
def hostLane (s : State) (p : Nat) : Option Nat :=
  leastBy (laneLoad s p) ((List.range (rdN s Obj.PLACE_HOST_LANES p)).filter (fun i => !(laneOf s p Cls.host i).waiting))

/-- The stripe and stream position of a slot. -/
def posOfSlot (s : State) (p n : Nat) : Option (Nat × Nat) :=
  match (poolOf s p).stripes.find? (fun e => e.2.pos.any (fun x => x.slot == some n)) with
  | some (id, x) => some (id, x.pos.findIdx (fun e => e.slot == some n))
  | none => none

/-- The slot of a write's sector as it enters FILLING: its identity and its command. -/
def fillingSlot (s : State) (p q : Nat) (c : Cmd) (i : Nat) : Slot :=
  let lba := c.wFirst + i
  { st := .filling, md := { Meta.zero with vol := c.volume, lba := lba, wseq := c.wseq + i, atomic := bitAt c.flags 1 }, data := [], pool := p, stripe := 0, row := 0, col := 0
    prev := entryOfGrain s (grainKey s c.volume lba), prevVer := none, acked := false, atomicRef := if bitAt c.flags 1 then c.wseq else 0, restored := false, mirrored := !mirrors s p, recAcked := !mirrors s p
    qp := q, tag := c.tag, sector := i, mappedAt := none, poison := [] }

/-- Slots and stream positions for sectors `i` to `i + n − 1` of a write; `none` without a free slot or a zeroed unit (R470). -/
def takeSlots (s : State) (p q : Nat) (c : Cmd) (i n : Nat) : Option (List (Nat × Pos) × State) :=
  (List.range n).foldl (fun o j => match o with
    | none => none
    | some (l, t) =>
      let m := Tbl.firstFree t.prot 0 ownSlots
      if m ≥ ownSlots then none
      else match takeUnit t Unit.slot m c.volume with
        | none => none
        | some u =>
          let x := fillingSlot u p q c (i + j)
          some (l ++ [(m, { fill := false, landed := false, slot := some m, md := x.md, data := [], src := none, page := none })], touchDesc { u with prot := Tbl.set u.prot m x } m)) (some ([], s))

/-- Place one grain of a write in its lane (R140, R141). -/
def placeGrainOf (s : State) (p q : Nat) (c : Cmd) (i : Nat) : Option State :=
  match takeSlots s p q c i (grainSize s c.volume) with
  | none => none
  | some (l, t) => (placeGroup t p Cls.host c.lane (l.map Prod.snd) (false, bitAt c.flags 1)).map
      (fun u => modCmd u q c.tag (fun y => { y with wr := y.wr ++ l.map (fun e => .filling e.1) }))

/-- Every sector of a write has its place. -/
def placedWhole (c : Cmd) : Bool :=
  decide (c.wTotal ≤ c.wr.length)

/-- Place what is left of a write on its lane, in ascending LBA order, as far as slots and segments allow (R140). -/
def placeRest (s : State) (p q : Nat) (c : Cmd) : State :=
  let g := grainSize s c.volume
  let l := (List.range (c.wTotal / g)).filter (fun j => decide (c.wr.length ≤ j * g))
  (l.foldl (fun (a : State × Bool) j => if a.2 then a else match placeGrainOf a.1 p q c (j * g) with
    | some t => (t, false)
    | none => (a.1, true)) (s, false)).1

/-! ## Landing (steps 5 and 6) -/

/-- Change the stream position that holds a slot. -/
def modPosOf (s : State) (p n : Nat) (f : Pos → Pos) : State :=
  match posOfSlot s p n with
  | none => s
  | some (id, i) => modStripe s p id (fun x => { x with pos := x.pos.set i (f (x.pos.getD i (Pos.filler x))) })

/-- Change where a sector of a write stands. -/
def setWr (s : State) (q tag i : Nat) (w : WrSec) : State :=
  modCmd s q tag (fun c => { c with wr := c.wr.set i w })

/-- A slot is discarded before landing: it is FREE, its position becomes a fill sector, the map is unchanged (Table 05-2, R109). -/
def discardSlot (s : State) (n : Nat) : State :=
  match slotOf s n with
  | none => s
  | some x =>
    match posOfSlot s x.pool n with
    | none => noteSlots (touchDesc { s with prot := Tbl.erase s.prot n } n)
    | some (id, i) =>
      let t := modStripe s x.pool id (fun y => { y with pos := y.pos.set i (Pos.filler y) })
      tryIssue (noteSlots (landRows (touchDesc { t with prot := Tbl.erase t.prot n } n) x.pool id 257)) x.pool id

/-- Discard every slot of a write that has not landed. -/
def discardFilling (s : State) (q tag : Nat) : State :=
  match findCmd s q tag with
  | none => s
  | some c => forEach (c.wr.zip (List.range c.wr.length)) (fun e t => match e.1 with
    | .filling n => setWr (discardSlot t n) q tag e.2 .discarded
    | _ => t) s

/-- End an admitted WRITE with a status other than SUCCESS (R320): what has not landed is discarded, what has landed stays until its stripe commits. -/
def failWrite (s : State) (q tag status : Nat) : State :=
  let t := discardFilling s q tag
  match findCmd t q tag with
  | none => t
  | some c => finish t q c status 0

/-- The accumulators of the stripe that holds a slot follow its landing (R110). -/
def accumulate (s : State) (p n : Nat) : State :=
  match posOfSlot s p n with
  | some (id, _) => landRows s p id 257
  | none => s

/-- A sector lands: its slot is DIRTY, its stored form and metadata stand in it, its position is filled and enters the row's accumulators, and a mirrored pool's copy goes to the partner (R110, R178, R410). -/
def landSlot (s : State) (q tag i n : Nat) (data : Bytes) (m : Meta) : State :=
  match slotOf s n with
  | none => s
  | some x =>
    let t := touchDesc (modSlot s n (fun y => { y with st := .dirty, md := m, data := data })) n
    let u := setWr (accumulate (modPosOf t x.pool n (fun y => { y with landed := true, md := m })) x.pool n) q tag i (.landed n)
    noteSlots (if mirrors u x.pool then sendMirror u x.pool n 0 else u)

/-! ## Step 7 (R43, R325, R326) -/

/-- An earlier read of the QP has not yet resolved this sector's grain (R325). -/
def readHolds (s : State) (q : Nat) (c : Cmd) (lba : Nat) : Bool :=
  (qpOf s q).cmds.any (fun r => r.opcode == 1 && decide (r.admitNo < c.admitNo) && r.volume == c.volume &&
    (r.rd.zip (List.range r.rd.length)).any (fun e => (e.1 == .waiting || e.1 == .leaf) && grainKey s r.volume (r.slba + e.2) == grainKey s c.volume lba) ||
    (r.opcode == 1 && decide (r.admitNo < c.admitNo) && r.rd.isEmpty && touchesGrain s r c.volume lba))

/-- The slot numbers of a write's sectors that have landed and not reached step 7, with their places. -/
def landedOf (c : Cmd) : List (Nat × Nat) :=
  (c.wr.zip (List.range c.wr.length)).filterMap (fun e => match e.1 with
    | .landed n => some (e.2, n)
    | _ => none)

/-- The version that a sector's metadata describes, in its stripe. -/
def verOfMeta (m : Meta) (stripe : Nat) : Ver :=
  { wseq := m.wseq, relocated := m.relocated, stripe := stripe, encrypted := m.encrypted, keySlot := m.keySlot, keyGen := m.keyGen, bad := m.badData }

/-- Set the version of a sector. -/
def setVer (s : State) (v lba : Nat) (x : Ver) : State :=
  { s with map := { s.map with vers := Tbl.set s.map.vers (v * 2 ^ 40 + lba) x } }

/-- Forget the version of a sector. -/
def dropVer (s : State) (v lba : Nat) : State :=
  { s with map := { s.map with vers := Tbl.erase s.map.vers (v * 2 ^ 40 + lba) } }

/-- The WRITE_SEQ of the version a grain's entry locates: that of its sector 0 (R155). -/
def grainSeq (s : State) (v lba : Nat) : Nat :=
  match verOf s v (lba - grainAt s v lba) with
  | some x => x.wseq
  | none => 0

/-- Point a grain's entry at the slot of its sector 0, unless a version with a higher WRITE_SEQ holds it (R155, R326); its sectors' frames go stale (R481). -/
def mapGrain (s : State) (v lba n : Nat) (slots : List (Nat × Nat)) : State :=
  match slotOf s n with
  | none => s
  | some x =>
    let key := grainKey s v lba
    let e := entryOfGrain s key
    if e ≠ .unmapped ∧ grainSeq s v lba > x.md.wseq then s
    else
      let t := setEntry s key (.prot n)
      forEach slots (fun y u => match slotOf u y.2 with
        | some z => staleSector (modSlot (setVer u z.md.vol z.md.lba (verOfMeta z.md z.stripe)) y.2 (fun w => { w with prev := e, prevVer := verOf u z.md.vol z.md.lba, mappedAt := some s.sluice.admits })) z.md.vol z.md.lba
        | none => u) t

/-! ### The lost list (R252, R253) -/

/-! Reasons (R252), as LOST_LIST codes them. -/

def Lr.erasures : Nat := 1
def Lr.unrecovered : Nat := 2
def Lr.cistern : Nat := 3

/-- A sector is on the lost list. -/
def onLost (s : State) (p v lba : Nat) : Bool :=
  (poolOf s p).lost.any (fun r => r.vol == v && decide (r.lba ≤ lba ∧ lba < r.lba + r.count))

/-- A range joined with those of the same reason that it adjoins. -/
def joinLost (r : LostRange) (l : List LostRange) : List LostRange :=
  let near (x : LostRange) : Bool := x.vol == r.vol && x.reason == r.reason && (x.lba + x.count == r.lba || r.lba + r.count == x.lba)
  let first := ((l.filter near).map LostRange.lba).foldl min r.lba
  let n := ((l.filter near).map LostRange.count).foldl (· + ·) r.count
  l.filter (fun x => !near x) ++ [{ r with lba := first, count := n }]

/-- Add a sector, joining adjacent ranges of the same reason; beyond 65,536 ranges only the count goes on (R252). -/
def addLost (s : State) (p v lba reason : Nat) : State :=
  if onLost s p v lba then s
  else
    let l := joinLost { vol := v, reason := reason, lba := lba, count := 1 } (poolOf s p).lost
    let t := bump s Obj.LOST_SECTORS p 1
    if l.length ≤ 65536 then modPool t p (fun x => { x with lost := l }) else wrB t Obj.LOST_LIST_TRUNCATED p true

/-- Remove sectors from a pool's lost list, with a LOST record for each range touched (R253). -/
def healLost (s : State) (p v lba n : Nat) : State :=
  let hit (r : LostRange) : Bool := r.vol == v && decide (r.lba < lba + n ∧ lba < r.lba + r.count)
  if (poolOf s p).lost.any hit then
    let l := (poolOf s p).lost.flatMap (fun r =>
      if hit r then
        ([{ r with count := lba - r.lba }, { r with lba := lba + n, count := r.lba + r.count - (lba + n) }] : List LostRange).filter (fun x => x.count != 0)
      else [r])
    let gone := (((poolOf s p).lost.filter hit).map (fun r => min (r.lba + r.count) (lba + n) - max r.lba lba)).sum
    logRec (drop (modPool s p (fun x => { x with lost := l })) Obj.LOST_SECTORS p gone) p (.lost v lba n false)
  else s

/-- The committed sectors of a grain leave the lost list, but those written as BAD_DATA stay on it, or enter it with reason UNRECOVERED (R252, R253). -/
def healGrain (s : State) (n : Nat) (x : Slot) : State :=
  let g := grainSize s x.md.vol
  let bad (j : Nat) : Bool := match grainSlot s n j with
    | some (_, y) => y.md.badData
    | none => false
  if (List.range g).any bad then
    forRange g (fun j t => if bad j then addLost t x.pool x.md.vol (x.md.lba + j) Lr.unrecovered else healLost t x.pool x.md.vol (x.md.lba + j) 1) s
  else healLost s x.pool x.md.vol x.md.lba g

/-- Where a slot's stripe has already committed, the entry goes on to the stripe's location (step 15). -/
def switchSlot (s : State) (n : Nat) : State :=
  match slotOf s n with
  | none => s
  | some x =>
    let key := grainKey s x.md.vol x.md.lba
    match slotHome s x with
    | some home => if entryOfGrain s key = .prot n then dirtyLeaf (healGrain (setEntry s key home) n x) key else s
    | none => s

/-- Step 7 for the landed sectors of one grain. -/
def mapSectors (s : State) (q : Nat) (c : Cmd) (l : List (Nat × Nat)) : State :=
  match l with
  | [] => s
  | (i, n) :: _ =>
    let t := forEach l (fun e t => setWr t q c.tag e.1 (.mapped e.2)) (mapGrain s c.volume (c.wFirst + i) n l)
    if l.all (fun e => match slotOf s e.2 with
        | some x => x.st == .committed
        | none => false) then forEach l (fun e u => setWr u q c.tag e.1 .committed) (if bitAt c.flags 1 then t else switchSlot t n) else t

/-- The grains of a write: lists of places and slots of its landed sectors, grain by grain; a grain counts when all its sectors have landed. -/
def landedGrains (s : State) (c : Cmd) : List (List (Nat × Nat)) :=
  let g := grainSize s c.volume
  ((List.range (c.wr.length / g)).map (fun j => (landedOf c).filter (fun e => e.1 / g == j))).filter (fun l => l.length == g)

/-- Step 7 of a WRITE: each whole landed grain not held by an earlier read is mapped; an atomic write is mapped in one step once all has landed and nothing holds it (R158, R325). -/
def step7 (s : State) (q tag : Nat) : State :=
  match findCmd s q tag with
  | none => s
  | some c =>
    if bitAt c.flags 1 then
      (if placedWhole c ∧ (landedOf c).length = c.wr.length ∧ !(landedOf c).isEmpty ∧ !(landedOf c).any (fun e => readHolds s q c (c.wFirst + e.1)) then
        let t := forEach (landedGrains s c) (fun l u => mapSectors u q c l) s
        modPool t (cmdPool s c) (fun x => { x with atomics := x.atomics ++ [{ vol := c.volume, first := c.wseq, count := c.nlb, qp := q, tag := tag, slots := (landedOf c).map Prod.snd, logged := false }] })
      else s)
    else forEach ((landedGrains s c).filter (fun l => !l.any (fun e => readHolds s q c (c.wFirst + e.1)))) (fun l t => mapSectors t q c l) s

/-- A write with FUA forces closed the stripes that hold its sectors once its last sector has landed (R144). -/
def forceFua (s : State) (q tag : Nat) : State :=
  match findCmd s q tag with
  | none => s
  | some c =>
    if bitAt c.flags 0 ∧ placedWhole c ∧ !c.wr.any (fun w => match w with
        | .filling _ => true
        | _ => false) then
      forceWhere 1 s (cmdPool s c) (fun x => x.pos.any (fun e => match e.slot with
        | some n => (match slotOf s n with
          | some y => y.qp == q && y.tag == tag && y.md.vol == c.volume && decide (c.wseq ≤ y.md.wseq ∧ y.md.wseq < c.wseq + c.wr.length)
          | none => false)
        | none => false))
    else s

/-- What follows a landing: step 7 where it can be reached, FUA, and the column writes of a stripe whose last sector this was. -/
def afterLanding (s : State) (q tag p n : Nat) : State :=
  let t := forceFua (step7 s q tag) q tag
  match posOfSlot t p n with
  | some (id, _) => tryIssue t p id
  | none => t

/-- A sector with its plain content lands, encrypted and tagged as the volume requires; with the volume LOCKED the write ends with CIPHER_FAULT (R445, R466). -/
def landPlain (s : State) (q : Nat) (c : Cmd) (i n : Nat) (plain : Bytes) : State :=
  match (if volLocked s c.volume then none else sealSector s c.volume (c.wFirst + i) (c.wseq + i) (bitAt c.flags 1) plain) with
  | none => failWrite s q c.tag St.cipherFault
  | some (d, m) =>
    let t := if m.encrypted then pipeWork s (n % 4) 4096 else s
    afterLanding (landSlot t q c.tag i n d m) q c.tag (cmdPool s c) n

/-- A sector lands as BAD_DATA (Table 05-8, R253). -/
def landBad (s : State) (q : Nat) (c : Cmd) (i n : Nat) : State :=
  let b := badSector c.volume (c.wFirst + i) (c.wseq + i)
  afterLanding (landSlot s q c.tag i n b.1 { b.2 with atomic := bitAt c.flags 1 }) q c.tag (cmdPool s c) n

/-! ## Partial writes and poison (R218 to R221) -/

/-- The counts of a write of part of a word that holds an error: corrected, or written poisoned. -/
def countPart (s : State) (x : PartWrite) : State :=
  match x.sram, x.uncorrectable with
  | false, false => bump s Obj.HBM_PARTIAL_CORRECTED 0 1
  | false, true => bump s Obj.HBM_POISON_WRITES 0 1
  | true, false => bump s Obj.SRAM_PARTIAL_CORRECTED 0 1
  | true, true => bump s Obj.SRAM_POISON_WRITES 0 1

/-- The words of a landing sector that stay poisoned: those written in part over an uncorrectable error and not whole afterwards (R219). -/
def poisonedWords (l : List PartWrite) : List Nat :=
  (l.filter (fun x => !x.sram && x.uncorrectable && !x.rewritten)).map PartWrite.word

/-- A sector of a slot becomes BAD_DATA in its original WRITE_SEQ, with an ERROR event (Table 05-8). -/
def spoilSlot (s : State) (n : Nat) (x : Slot) : State :=
  let b := badSector x.md.vol x.md.lba x.md.wseq
  let m : Meta := { b.2 with atomic := x.md.atomic }
  let t := accumulate (modPosOf (modSlot s n (fun y => { y with md := m, data := b.1, poison := [] })) x.pool n (fun y => { y with md := m })) x.pool n
  raise (bump t Obj.DIRTY_POISON_BAD_DATA 0 1) (ev 0x04 221) .error Src.volume x.md.vol (detailLba x.md.vol x.md.lba)

/-- A poisoned word in a slot (Table 05-8): an own DIRTY slot is asked back from the partner where it holds a copy, and else committed as BAD_DATA; the partner sends a MIRROR slot again; a PARITY slot is computed again from its row. -/
def poisonSlot (s : State) (n w : Nat) : State :=
  match slotOf s n with
  | none => s
  | some x =>
    let t := modSlot s n (fun y => { y with poison := addOnce y.poison w })
    match x.st with
    | .dirty => if mirrors s x.pool ∧ x.mirrored then emit t (.wantMirror n) else spoilSlot t n x
    | .mirror => emit t (.wantAgain (n - ownSlots))
    | .parity => (match stripeOf s x.pool x.stripe with
      | some y => (match Tbl.get (poolOf s x.pool).segs y.seg with
        | some g => modSlot s n (fun z => { z with data := (rowAcc s x.pool y g x.row).getD (x.col - g.k) [], poison := [] })
        | none => s)
      | none => s)
    | _ => t

/-- Poisoned copies of a slot's descriptor, beside those that lie in a failed stack: one is rewritten from the other; with both gone a DIRTY slot's sector is taken by the identity of the leaf that names it, as one without a mirror copy. -/
def poisonDescriptor (s : State) (n : Nat) (copies : List Nat) : State :=
  match slotOf s n with
  | none => s
  | some x =>
    let lost := [0, 1].filter (fun c => copies.contains c || s.power.hbmDead.contains (descStack n c))
    if lost.length < 2 ∨ x.st ≠ .dirty then s else spoilSlot s n x

/-- A poisoned leaf: a clean one is read again when it is next wanted; a dirty one is rebuilt from its last written copy and the records that touch it, and lookups wait for that. -/
def poisonLeaf (s : State) (v leaf : Nat) : State :=
  let key := v * 2 ^ 31 + leaf
  match Tbl.get s.map.leaves key with
  | some l =>
    if l.loc.isNone then s
    else
      let t := noteLeaves { s with map := { s.map with leaves := Tbl.set s.map.leaves key { l with resident := false } } }
      if l.dirty then missLeaf t (rdN s Obj.VOLUME_POOL v) key else t
  | none => s

/-- What a poisoned word costs, by its place (R221, Table 05-8). Accumulators are computed again from the row's sectors; a directory page's content follows from its last copy and the records. -/
def meetPoison (x : Poison) (s : State) : State :=
  match x with
  | .slot n w => poisonSlot (bump s Obj.HBM_UE (n % 4) 1) n w
  | .descriptor n c => poisonDescriptor (bump s Obj.HBM_UE (n % 4) 1) n c
  | .accumulator p id => landRows s p id 257
  | .leaf v l => poisonLeaf s v l
  | .page _ _ => s

/-- WRITE_DMA_LANDED: the last byte of a sector lands in its slot (R179). A cipher fault keeps the sector out and ends the command (Table 12-2); a poisoned word, met or left by a partial write, commits it as BAD_DATA (R219, Table 05-8). A sector that is not awaited is ignored. -/
def execWriteDmaLanded (q tag i : Nat) (data : Bytes) (met : WriteMet) (s0 : State) : Host.Outcome State Fault Refusal :=
  .next (
    let s1 := forEach met.mems meetPoison (forEach met.parts (fun x t => countPart t x) s0)
    match findCmd s1 q tag with
    | none => s1
    | some c =>
      match c.wr[i]? with
      | some (.filling n) =>
        if c.opcode ≠ 2 ∨ !inRange c (c.wFirst + i) ∨ data.length ≠ 4096 then s1
        else
        let s := countDev s1 (Dc.fromHost + fnPort (qpFn s1 q)) 4096
        if met.flt = .cipher then (if encrypted s c.volume then failWrite (pipeFault s (n % 4)) q tag St.cipherFault else s)
        else if met.flt.isPoison ∨ !(poisonedWords met.parts).isEmpty then
          raise (landBad (bump s Obj.DIRTY_POISON_BAD_DATA 0 1) q c i n) (ev 0x04 221) .error Src.volume c.volume (detailLba c.volume (c.wFirst + i))
        else landPlain s q c i n data
      | _ => s1)

/-! ## Widened sectors (R142) -/

/-- Bring in the newest copy of a sector that the write is widened to. -/
def widenSector (s : State) (q tag i n : Nat) : State :=
  match findCmd s q tag with
  | none => s
  | some c =>
    let lba := c.wFirst + i
    let t := if encrypted s c.volume then chargeKey s (rdN s Obj.VOLUME_KEY_SLOT c.volume) 1 else s
    match entryOfGrain t (grainKey t c.volume lba) with
    | .unmapped => landPlain t q c i n (zeros 4096)
    | .lost => landBad t q c i n
    | .prot m => match grainSlot t m (grainAt t c.volume lba) with
      | some (_, x) =>
        if x.md.badData then landBad t q c i n
        else match openSector t x.md x.data with
          | some (b, _) => landPlain t q c i n b
          | none => failWrite t q tag St.cipherFault
      | none => landPlain t q c i n (zeros 4096)
    | .array .. => match locate t c.volume lba with
      | some (slot, zs, col) => match fetchAt t (.widen q tag i) (cmdPool t c) c.volume lba slot zs col with
        | .started u => u
        | .lost => landBad t q c i n
      | none => t

/-- A WRITE counts with the dispatcher of the quadrant whose engine took its first sector: one placement, and one more for each further 16 KiB (Table 17-11). -/
def countPlaced (s : State) (c : Cmd) : State :=
  let x := match c.wr.head? with
    | some (.filling n) => (slotOf s n).bind (fun y => stripeOf s y.pool y.stripe)
    | _ => none
  match x with
  | some y => countDev s (Dc.placements + y.cluster / 16) (1 + (c.nlb - 1) / 4)
  | none => s

/-- Request what a placed write still needs, from its sector `i` on: host data for its own sectors, the newest copies for those it is widened to. -/
def startTransfers (s : State) (q : Nat) (c : Cmd) (i : Nat) : State :=
  let t := if i = 0 then hostGather (countPlaced s c) (qpFn s q) c.descs 0 (c.nlb * 4096) else s
  match findCmd t q c.tag with
  | none => t
  | some d => forEach ((d.wr.zip (List.range d.wr.length)).filter (fun e => decide (i ≤ e.2) && !inRange d (d.wFirst + e.2))) (fun e u => match e.1 with
    | .filling n => widenSector u q c.tag e.2 n
    | _ => u) t

/-- Place what is left of a write, or hold its lane, which then takes no other write until it can go on (R139, R140). -/
def continueWrite (s : State) (q tag : Nat) : State :=
  match findCmd s q tag with
  | none => s
  | some c =>
    let p := cmdPool s c
    let t := placeRest s p q c
    match findCmd t q tag with
    | none => t
    | some d =>
      let u := if placedWhole d then t
               else if reserveLeft t Unit.slot = 0 then bump t Obj.ZERO_ALLOC_WAITS 0 1
               else if Tbl.firstFree t.prot 0 ownSlots ≥ ownSlots then t
               else laneWaits t p Cls.host d.lane
      if d.wr.isEmpty then u else startTransfers (noteSlots u) q d c.wr.length

/-- The writes of a lane that wait for the rest of their places, in admission order. -/
def waitingWrites (s : State) (p lane : Nat) : List (Nat × Cmd) :=
  (s.qps.flatMap (fun q => (q.2.cmds.filter (fun c => c.opcode == 2 && c.phase == .running && !placedWhole c && c.lane == lane && cmdPool s c == p)).map (fun c => (q.1, c)))).foldl
    (fun l e => insertBy (fun (x : Nat × Cmd) => x.2.admitNo) e l) []

/-- WRITE: the command is placed in an open stripe of the least loaded host lane, its slots are allocated and its DMA read starts (steps 3 and 4). A write that finds no slot, zeroed unit or segment waits with what is left of it (R139, R165, R470). -/
def execWrite (q tag : Nat) (s : State) : Host.Outcome State Fault Refusal :=
  .next (match startable s q tag 2 with
    | none => (match findCmd s q tag with
      | some c => if c.opcode = 2 ∧ c.phase = .running ∧ !placedWhole c ∧ !(laneOf s (cmdPool s c) Cls.host c.lane).waiting then continueWrite s q tag else s
      | none => s)
    | some c =>
      let p := cmdPool s c
      if !canMaster s (qpFn s q) || rdN s Obj.EPOCH_STATE 0 != 0 then s
      else match hostLane s p with
      | none => s
      | some lane =>
        let r := placedRange s c.volume c.slba c.nlb
        continueWrite (modCmd s q tag (fun x => { x with phase := .running, wr := [], wFirst := r.1, wTotal := r.2, lane := lane })) q tag)

/-! ## Completion (R39, R40) -/

/-- Every sector of a write has passed step 7. -/
def allMapped (c : Cmd) : Bool :=
  !c.wr.isEmpty && placedWhole c && c.wr.all (fun w => match w with
    | .mapped _ => true
    | .committed => true
    | _ => false)

/-- Every stripe that holds a write's sectors has committed. -/
def allCommitted (c : Cmd) : Bool :=
  !c.wr.isEmpty && placedWhole c && c.wr.all (fun w => w == .committed)

/-- The slots of a write's mapped sectors. -/
def mappedSlots (c : Cmd) : List Nat :=
  c.wr.filterMap (fun w => match w with
    | .mapped n => some n
    | _ => none)

/-- The partner has acknowledged every mirror copy, where the pool is mirrored (R39). -/
def mirrorMet (s : State) (c : Cmd) : Bool :=
  !needsMirror s (cmdPool s c) || (mappedSlots c).all (fun n => match slotOf s n with
    | some x => x.mirrored
    | none => true)

/-- Complete a WRITE with SUCCESS; COMMITTED is set exactly when all its stripes have committed (R317). An atomic write of a mirrored pool is marked first (R413). -/
def completeWrite (s : State) (q : Nat) (c : Cmd) : State :=
  let t := if bitAt c.flags 1 ∧ mirrors s (cmdPool s c) then sendMsg s (.atomicMark (cmdPool s c) c.volume c.wseq c.nlb) else s
  finishWith t q c { cmdCpl t c St.success 0 with committed := allCommitted c, slots := mappedSlots c }

/-- A WRITE completes only after commit: FUA, a Weir of zero at its admission, or a Weir that is zero now (R40, R188). -/
def needsCommit (s : State) (c : Cmd) : Bool :=
  c.commitWait || rdN s Obj.WEIR_CURRENT 0 == 0

/-- WRITE_COMPLETION: the conditions of R39 hold for a write not due under R40, and its completion is built. -/
def execWriteCompletion (q tag : Nat) (s : State) : Host.Outcome State Fault Refusal :=
  .next (match findCmd s q tag with
    | none => s
    | some c => if c.opcode = 2 ∧ c.phase = .running ∧ !needsCommit s c ∧ allMapped c ∧ mirrorMet s c then completeWrite s q c else s)

/-- WRITE_STEP7_RELEASE: an earlier read has resolved the shared sectors and the held write reaches step 7 (R325). -/
def execWriteStep7Release (q tag : Nat) (s : State) : Host.Outcome State Fault Refusal :=
  .next (match findCmd s q tag with
    | none => s
    | some c => if c.opcode = 2 then step7 s q tag else s)

/-! ## Stripe timers and lanes -/

/-- STRIPE_AGE_TIMER: the age limit of a stripe that holds a landed sector expires (R143). -/
def execStripeAgeTimer (p : Nat) (aged : AgedStripe) (s0 : State) : Host.Outcome State Fault Refusal :=
  .next (
    let s := forEach aged.mems meetPoison s0
    match stripeOf s p aged.stripe with
    | none => s
    | some x => if x.pos.any (fun e => e.landed && !e.fill) then forceClose 2 s p aged.stripe else s)

/-- Place again the positions of a class that wait for a lane; of map pages, copies and new ones go to lanes of their own (R129). -/
def placeStaged (s : State) (p cls lane : Nat) : State :=
  let mine (e : Nat × Pos) : Bool := e.1 == cls && (cls != Cls.metadata || e.2.src.isSome == (lane == 1))
  let l := ((poolOf s p).staged.filter mine).map Prod.snd
  issueAll (placeAgain (modPool s p (fun x => { x with staged := x.staged.filter (fun e => !mine e) })) p cls lane l (cls == Cls.host, cls == Cls.host && l.any (fun e => e.md.atomic))) p

/-- LANE_WAIT_END: what a waiting lane needs is there; it opens its segment or its next stripe, and what waited for it is placed (R26, R139, R165, R194). New stripes wait for the end of an epoch (R83). -/
def execLaneWaitEnd (p cls lane : Nat) (s : State) : Host.Outcome State Fault Refusal :=
  .next (
    let l := laneOf s p cls lane
    if l.waiting ∧ laneCan s p l ∧ rdN s Obj.EPOCH_STATE 0 = 0 then
      let t := if l.seg.isNone then openSeg s p l else noteLanes (modLane s p cls lane (fun x => { x with waiting := false })) p
      let u := placeStaged t p cls lane
      if cls = Cls.host then forEach (waitingWrites u p lane) (fun e v => if (laneOf v p cls lane).waiting then v else continueWrite v e.1 e.2.tag) u else u
    else s)

/-! ## FLUSH (R322) -/

/-- The volumes a FLUSH concerns: its own, or with ALL_VOLUMES every volume assigned to the QP's function whose pool is served here. -/
def flushVolumes (s : State) (q : Nat) (c : Cmd) : List Nat :=
  if bitAt c.flags 0 then (liveVolumes s).filter (fun v => volAssigned s v (qpFn s q) && servesPool s (rdN s Obj.VOLUME_POOL v)) else [c.volume]

/-- FLUSH: force closed every open host-class stripe that holds a sector of its volumes from a write admitted before it (R144). -/
def execFlush (q tag : Nat) (s : State) : Host.Outcome State Fault Refusal :=
  .next (match startable s q tag 3 with
    | none => s
    | some c =>
      let vs := flushVolumes s q c
      let t := modCmd s q tag (fun x => { x with phase := .running })
      forRange 8 (fun p u => forceWhere 1 u p (fun x => x.cls == Cls.host && x.pos.any (fun e => !e.fill && vs.contains e.md.vol && decide (e.md.wseq < c.wseq)))) t)

/-- A WRITE or DEALLOCATE admitted before a FLUSH on one of its volumes has not committed (R322). -/
def flushWaits (s : State) (vs : List Nat) (c : Cmd) : Bool :=
  s.prot.any (fun e => decide (e.1 < ownSlots) && (e.2.st == .filling || e.2.st == .dirty) && vs.contains e.2.md.vol && decide (e.2.md.wseq < c.wseq)) ||
  s.qps.any (fun q => q.2.cmds.any (fun x => vs.contains x.volume && decide (x.admitNo < c.admitNo) && ((x.opcode == 2 && !allCommitted x) || x.opcode == 4)))

/-- FLUSH_COMPLETION: everything admitted before the FLUSH has committed, or a pool it waits on has become FAILED (R322). -/
def execFlushCompletion (q tag : Nat) (s : State) : Host.Outcome State Fault Refusal :=
  .next (match findCmd s q tag with
    | none => s
    | some c =>
      if c.opcode ≠ 3 ∨ c.phase ≠ .running then s
      else
        let vs := flushVolumes s q c
        if vs.any (fun v => poolState s (rdN s Obj.VOLUME_POOL v) == Ps.failed) then finish s q c St.poolOffline 0
        else if flushWaits s vs c then s
        else finish s q c St.success 0)

/-! ## DEALLOCATE (R157, R323) -/

/-- A write admitted before a DEALLOCATE that overlaps its range has not committed (R157). -/
def deallocWaits (s : State) (c : Cmd) : Bool :=
  let r := placedRange s c.volume c.slba c.nlb
  s.prot.any (fun e => decide (e.1 < ownSlots) && (e.2.st == .filling || e.2.st == .dirty) && e.2.md.vol == c.volume && decide (e.2.md.wseq < c.wseq) && decide (r.1 ≤ e.2.md.lba ∧ e.2.md.lba < r.1 + r.2)) ||
  s.qps.any (fun q => q.2.cmds.any (fun x => x.opcode == 2 && decide (x.admitNo < c.admitNo) && overlaps s x c && !allCommitted x))

/-- The deallocate record of a command. -/
def deallocRec (s : State) (q tag : Nat) : Option LogRec :=
  s.ilog.recs.find? (fun r => match r.body with
    | .dealloc _ _ _ _ a b => a == q + 1 && b == tag
    | _ => false)

/-- Write the deallocate record once its conditions hold. -/
def tryDealloc (s : State) (q tag : Nat) : State :=
  match findCmd s q tag with
  | none => s
  | some c =>
    if c.opcode = 4 ∧ c.phase = .running ∧ (deallocRec s q tag).isNone ∧ !deallocWaits s c then
      logRec s (cmdPool s c) (.dealloc c.volume c.slba c.nlb c.wseq (q + 1) tag)
    else s

/-- DEALLOCATE: wait for overlapping earlier writes, then write the deallocate record (R157). -/
def execDeallocate (q tag : Nat) (s : State) : Host.Outcome State Fault Refusal :=
  .next (match startable s q tag 4 with
    | none => s
    | some _ => tryDealloc (modCmd s q tag (fun x => { x with phase := .running })) q tag)

/-- Every DEALLOCATE that waited is looked at again. -/
def tryDeallocs (s : State) : State :=
  forEach s.qps (fun q t => forEach (q.2.cmds.filter (fun c => c.opcode == 4)) (fun c u => tryDealloc u q.1 c.tag) t) s

/-- Set one grain to UNMAPPED if its current version carries a lower WRITE_SEQ (R157, R323). A LOST grain leaves the lost list; frames go stale. -/
def unmapGrain (s : State) (p v key wseq : Nat) : State :=
  let g := grainSize s v
  let lba := key % 2 ^ 40 * g
  match entryOfGrain s key with
  | .unmapped => s
  | e =>
    if e ≠ .lost ∧ grainSeq s v lba ≥ wseq then s
    else
      forRange g (fun j t => staleSector (dropVer t v (lba + j)) v (lba + j)) (dirtyLeaf (healLost (setEntry s key .unmapped) p v lba g) key)

/-- The whole grains of a range: the mapped ones of the volume, which are the only ones that change. -/
def grainsIn (s : State) (v lba n : Nat) : List Nat :=
  let g := grainSize s v
  (s.map.entries.map Prod.fst).filter (fun k => k / 2 ^ 40 == v && decide (lba ≤ k % 2 ^ 40 * g ∧ k % 2 ^ 40 * g + g ≤ lba + n))

/-- Apply a deallocate record. -/
def applyDealloc (s : State) (p v lba n wseq : Nat) : State :=
  forEach (grainsIn s v lba n) (fun k t => unmapGrain t p v k wseq) s

end Sys2Proof.Machine
end

