-- ==== Sys2Proof/Machine/Relocate.lean ====
section
/-! DEFINITION. Copies: the lost list (R248 to R253), whole-grain copies and their placement (R168 to R171, R234, R251), map pages as they are written (R150, R154). -/

namespace Sys2Proof.Machine

open Sys2Proof

/-! ## Lost grains -/

/-- The grain becomes LOST: entry, LOST record, frames (R250). -/
def loseGrain (s : State) (p v key : Nat) : State :=
  let g := grainSize s v
  let lba := key % 2 ^ 40 * g
  forRange g (fun j t => staleSector (dropVer t v (lba + j)) v (lba + j)) (dirtyLeaf (logRec (setEntry s key .lost) p (.lost v lba g true)) key)

/-- The stripe of a lost sector counts once, with an ERROR event, whatever the reason (R249). -/
def loseStripe (s : State) (p v lba : Nat) : State :=
  match locate s v lba with
  | some (slot, zs, _) => match Tbl.get (poolOf s p).segs slot with
    | some g => match stripeAt g zs with
      | some h => if (poolOf s p).lostStripes.contains h.id then s
                  else raiseOpen (bump (modPool s p (fun x => { x with lostStripes := x.lostStripes ++ [h.id] })) Obj.LOST_STRIPES p 1) (ev 0x05 249) .error Src.pool p
      | none => s
    | none => s
  | none => s

/-- A sector cannot be recovered: its 4 KiB grain becomes LOST; in a 16 KiB grain it is marked BAD, and the grain is LOST once all four are (R250, R251). -/
def loseSector (s : State) (p v lba reason : Nat) : State :=
  match entryOfGrain s (grainKey s v lba) with
  | .array .. =>
    let t := addLost (loseStripe s p v lba) p v lba reason
    if grainSize s v = 1 then loseGrain t p v (grainKey s v lba)
    else
      let u := match verOf t v lba with
        | some x => setVer t v lba { x with bad := true }
        | none => t
      let f := lba - grainAt s v lba
      if (List.range 4).all (fun j => match verOf u v (f + j) with
          | some x => x.bad
          | none => false) then loseGrain u p v (grainKey s v lba)
      else logRec u p (.lost v lba 1 true)
  | _ => s

/-! ## The write sequence (R37, R194) -/

/-- Take `n` write sequences; the value taken first is `s.sluice.wseq`. -/
def takeWseq (s : State) (p n : Nat) : State :=
  reserveSeqs { s with sluice := { s.sluice with wseq := s.sluice.wseq + n } } Fl.wseq p (s.sluice.wseq + n)

/-- The next `n` write sequences lie below a durable floor (R194). -/
def wseqReady (s : State) (n : Nat) : Bool :=
  n == 0 || decide (s.sluice.wseq + n ≤ floorOf s Fl.wseq 0)

/-! ## Placing copies -/

/-- The lane that copies go to: the least loaded dredge lane, the one rebuild lane, and of the metadata lanes one for new pages and one for copies of pages, since the sectors of a stripe agree in RELOCATED (R129). -/
def copyLane (s : State) (p cls : Nat) (l : List Pos) : Nat :=
  if cls = Cls.dredge then
    let load (i : Nat) : Nat := (((poolOf s p).stripes.filter (fun e => e.2.cls == cls && e.2.lane == i)).map (fun e => e.2.pos.length)).sum
    (leastBy load (List.range (rdN s Obj.PLACE_DREDGE_LANES p))).getD 0
  else if cls = Cls.metadata ∧ l.any (fun e => e.src.isSome) then 1
  else 0

/-- Place staged positions of one class on its lane, keeping the four sectors of a grain in one stripe; what finds no lane, or comes while an epoch holds new stripes (R83), is staged. -/
def placeCopies (s : State) (p cls : Nat) (l : List Pos) : State :=
  let lane := copyLane s p cls l
  let stage (t : State) : State := modPool (laneWaits t p cls lane) p (fun x => { x with staged := x.staged ++ l.map (fun e => (cls, e)) })
  if rdN s Obj.EPOCH_STATE 0 ≠ 0 ∨ (poolOf s p).staged.any (fun e => e.1 == cls && (cls != Cls.metadata || e.2.src.isSome == (lane == 1))) then stage s
  else match placeGroup s p cls lane l (false, false) with
    | some t => issueAll t p
    | none => stage s

/-! ## Re-encryption (R171) -/

/-- A copied sector that is re-encrypted under the current generation: decrypted with its tag checked, encrypted under the same tweak, tagged and guarded anew; unchanged when it needs none, when a tag fails, or while keys or the usage counter do not allow it. -/
def rekey (s : State) (p : Nat) (d : Bytes) (m : Meta) : State × Bytes × Meta :=
  let k := m.keySlot
  let g := rdN s Obj.KEY_GEN_CURRENT k
  if !m.encrypted || m.keyGen == g || poolCond s p Pc.locked || decide (rdN s Obj.KEY_USAGE_CURRENT k ≥ rdN s Obj.KEY_USAGE_LIMIT k) then (s, d, m)
  else match keyBytes s k g, openSector s m d with
    | some key, some (b, tagOk) =>
      if !tagOk then (bump s Obj.TAG_FAILS p 1, d, m)
      else
        let c := xtsEncrypt key m.vol m.lba b
        let m1 := { m with keyGen := g }
        let m2 := if m1.tagged then { m1 with tag := tagOf key m1 c } else m1
        (chargeKey s k 1, c, { m2 with guard := crc64 c })
    | _, _ => (s, d, m)

/-! ## Grain copies -/

/-- A segment chosen by the Dredger has one copy fewer to wait for; with none left it is COPIED, passed by the first checkpoint whose cut comes after now (Table 04-9). -/
def copyEnded (s : State) (p slot : Nat) : State :=
  match Tbl.get (poolOf s p).segs slot with
  | none => s
  | some g =>
    if !g.chosen ∨ g.copies = 0 then s
    else
      let next := rdN s Obj.MAP_CHECKPOINT_NUMBER p + (if (poolOf s p).ckpt.isSome then 2 else 1)
      modSeg s p slot (fun x => if x.copies = 1 ∧ x.st = 2 then { x with copies := 0, st := 3, passBy := next } else { x with copies := x.copies - 1 })

/-- The source segment of an entry. -/
def srcSlot : Entry → Nat
  | .array slot _ _ => slot
  | _ => 0

/-- The copy of a grain is given up. -/
def dropCopy (s : State) (p key : Nat) : State :=
  match (poolOf s p).grains.find? (fun x => x.key == key) with
  | none => s
  | some x => copyEnded (modPool s p (fun y => { y with grains := y.grains.filter (fun z => z.key != key) })) p (srcSlot x.src)

/-- All sectors of a grain have come: they are placed together in the copy's class. -/
def placeGrain (s : State) (p : Nat) (x : GrainCopy) : State :=
  let t := modPool s p (fun y => { y with grains := y.grains.filter (fun z => z.key != x.key) })
  let r := (List.range x.n).foldl (fun (a : State × List Pos) j =>
    let c := Tbl.getD x.got j (zeros 4096, Meta.zero)
    let e := if x.cls = Cls.dredge ∧ !c.2.badData then rekey a.1 p c.1 c.2 else (a.1, c.1, c.2)
    (e.1, a.2 ++ [{ fill := false, landed := true, slot := none, md := { e.2.2 with relocated := true }, data := e.2.1, src := some x.src, page := none }])) (t, [])
  placeCopies r.1 p x.cls r.2

/-- A sector of a grain under copy has come. -/
def addCopy (s : State) (p key j : Nat) (d : Bytes) (m : Meta) : State :=
  match (poolOf s p).grains.find? (fun x => x.key == key) with
  | none => s
  | some x =>
    let y := { x with got := Tbl.set x.got j (d, m) }
    if y.got.length = y.n then placeGrain s p y
    else modPool s p (fun z => { z with grains := z.grains.map (fun w => if w.key = key then y else w) })

/-- A sector of a grain under copy cannot be had: a 4 KiB grain is not copied; in a 16 KiB grain its place is taken by a BAD_DATA sector with its WRITE_SEQ (R170, R251). -/
def missCopy (s : State) (p v lba : Nat) : State :=
  let key := grainKey s v lba
  if grainSize s v = 1 then dropCopy s p key
  else match entryOfGrain s key with
    | .array .. =>
      let b := badSector v lba (match verOf s v lba with
        | some x => x.wseq
        | none => 0)
      addCopy s p key (grainAt s v lba) b.1 b.2
    | _ => dropCopy s p key

/-- Fetch sector `j` of a grain under copy, or find that it cannot be had. -/
def fetchCopy (u : State) (p key : Nat) (w : Want) (v f j : Nat) : State :=
  if (match verOf u v (f + j) with
      | some x => x.bad && grainSize u v == 4
      | none => false) then missCopy u p v (f + j)
  else match locate u v (f + j) with
    | some (slot, zs, col) => match fetchAt u w p v (f + j) slot zs col with
      | .started x => x
      | .lost => missCopy (loseSector u p v (f + j) Lr.erasures) p v (f + j)
    | none => dropCopy u p key

/-- Copy a whole grain (R168, R251): its sectors are fetched, those already BAD taken as they are; `have_` is a sector already at hand. -/
def startCopy (s : State) (p key cls : Nat) (w : Want) (have_ : Option (Nat × Bytes × Meta)) : State :=
  let v := key / 2 ^ 40
  let g := grainSize s v
  let f := key % 2 ^ 40 * g
  if (poolOf s p).grains.any (fun x => x.key == key) then s
  else
    let t := modPool s p (fun x => { x with grains := x.grains ++ [{ key := key, cls := cls, src := entryOfGrain s key, n := g, got := [] }] })
    forRange g (fun j u =>
      match have_ with
      | some (i, d, m) => if i = j then addCopy u p key j d m else fetchCopy u p key w v f j
      | none => fetchCopy u p key w v f j) t

/-- Relocate a repaired sector: it is counted with a WARN event and its grain is copied into a dredge-class stripe (R234 steps 4 and 5). -/
def repairSector (s : State) (p v lba slot col : Nat) (d : Bytes) (m : Meta) : State :=
  let mem := match Tbl.get (poolOf s p).segs slot with
    | some g => (g.cols.getD col (0, 0)).1
    | none => 0
  let t := raise (bump s Obj.INTEGRITY_REPAIRED p 1) (ev 0x05 234) .warn Src.member (mInst p mem) (detailLba v lba)
  startCopy t p (grainKey s v lba) Cls.dredge (.dredge slot) (some (grainAt s v lba, d, m))

/-- A sector is lost; of a 16 KiB grain that keeps readable sectors the whole grain is relocated, the lost ones as BAD_DATA (R251). -/
def loseAndMove (s : State) (p v lba reason : Nat) : State :=
  let t := loseSector s p v lba reason
  match entryOfGrain t (grainKey t v lba) with
  | .array slot _ _ => if grainSize t v = 4 then startCopy t p (grainKey t v lba) Cls.dredge (.dredge slot) none else t
  | _ => t

/-! ## Map pages -/

/-- What a leaf write puts in place of an entry: a PROTECTED entry gives way to the one its slot recorded (R154). -/
def mediaEntry (s : State) (e : Entry) : Nat → Entry
  | 0 => .unmapped
  | n + 1 => match e with
    | .prot m => match slotOf s m with
      | some x => mediaEntry s x.prev n
      | none => .unmapped
    | x => x

/-- The bytes of a leaf page as it goes to the members. -/
def leafPage (s : State) (key : Nat) : Bytes :=
  let base := key / 2 ^ 31 * 2 ^ 40 + key % 2 ^ 31 * 512
  leafBytes ((List.range 512).map (fun i => mediaEntry s (entryOfGrain s (base + i)) (s.prot.length + 2)))

/-- The page address of a leaf. -/
def leafAddr (key : Nat) : Nat :=
  pageAddress Page.leaf (key / 2 ^ 31) (key % 2 ^ 31)

/-- Write a map page to a metadata stripe, under a fresh write sequence (R150). -/
def writePage (s : State) (p addr : Nat) (d : Bytes) : State :=
  let m : Meta := { Meta.zero with wseq := s.sluice.wseq, kind := Kind.mapPage, cls := Cls.metadata }
  placeCopies (takeWseq s p 1) p Cls.metadata [{ fill := false, landed := true, slot := none, md := m, data := d, src := none, page := some addr }]

end Sys2Proof.Machine
end

