-- ==== Sys2Proof/Machine/ReadPath.lean ====
section
/-! DEFINITION. Reads: resolving a sector to its newest version (R31, R314, R324), delivery with its cipher and tag checks (R36, R441 to R445), fills and prefetch (R480, R485, R486), completion (R315), VERIFY (R316), and what becomes of a fetched sector. -/

namespace Sys2Proof.Machine

open Sys2Proof

/-! ## Sectors of a read -/

/-- Change where a sector of a read stands. -/
def setRd (s : State) (q tag i : Nat) (r : RdSec) : State :=
  modCmd s q tag (fun c => { c with rd := c.rd.set i r })

/-- Rank of a status among those R315 orders. -/
def readRank (st : Nat) : Nat :=
  if st = St.cipherFault then 0 else if st = St.integrityFail then 1 else if st = St.guardUnrecovered then 2 else 3

/-- The failed statuses of a read's sectors. -/
def failures (c : Cmd) : List Nat :=
  c.rd.filterMap (fun r => match r with
    | .failed st => some st
    | _ => none)

/-- The index of the earliest failed sector. -/
def firstBad (c : Cmd) : Nat :=
  if (failures c).isEmpty then 0xFFFFFFFF else c.rd.findIdx (fun r => match r with
    | .failed _ => true
    | _ => false)

/-- Sectors served by decoding. -/
def decodedCount (c : Cmd) : Nat :=
  (c.rd.filter (fun r => match r with
    | .delivered _ true _ _ => true
    | _ => false)).length

/-- SERVED_FROM: the deepest level that served a sector, 3 when none did (Table 07-6). -/
def servedFrom (c : Cmd) : Nat :=
  (c.rd.filterMap (fun r => match r with
    | .delivered l _ _ _ => if l < 3 then some l else none
    | _ => none)).foldl (fun m l => if m = 3 then l else max m l) 3

/-- Every sector of a read has been delivered or has failed. -/
def readDone (c : Cmd) : Bool :=
  !c.rd.isEmpty && c.rd.all (fun r => match r with
    | .delivered .. => true
    | .failed _ => true
    | _ => false)

/-- Complete a READ with the first status of R315 that applies, and a VERIFY under R316. -/
def tryFinishRead (s : State) (q tag : Nat) : State :=
  match findCmd s q tag with
  | none => s
  | some c =>
    if !readDone c then s
    else if c.opcode = 1 then
      let st := (leastBy readRank (failures c)).getD St.success
      finishWith s q c { cmdCpl s c st (readResult (firstBad c) (decodedCount c)) with degraded := decide (decodedCount c > 0), served := servedFrom c }
    else
      let st := if c.lost = 0 then St.success else if (failures c).contains St.guardUnrecovered then St.guardUnrecovered else St.mediaLost
      finishWith s q c { cmdCpl s c st (c.lost % 2 ^ 32 * 2 ^ 32 + c.repaired % 2 ^ 32) with degraded := decide (decodedCount c > 0) }

/-- A sector of a read fails with a status. -/
def failSector (s : State) (q tag i st : Nat) : State :=
  setRd s q tag i (.failed st)

/-! ## Delivery -/

/-- Write a sector's plaintext into the host buffer, while the function may write (R356). -/
def toHost (s : State) (q : Nat) (c : Cmd) (i : Nat) (b : Bytes) : State :=
  if canMaster s (qpFn s q) then countDev (hostScatter s (qpFn s q) c.descs (i * 4096) b) (Dc.toHost + fnPort (qpFn s q)) b.length else s

/-- Where a sector's bytes stand when it is delivered: its level, whether it was decoded, the slot or frame, and the quadrant of its cipher work (R443). -/
structure Source where
  level   : Nat
  decoded : Bool
  slot    : Option Nat
  frame   : Option Nat
  quad    : Nat
deriving DecidableEq, Repr

/-- Transfer a gathered sector, or hold it until the function may write (Table 09-6). -/
def sendSector (s : State) (q : Nat) (c : Cmd) (i : Nat) (x : Source) (b : Bytes) : State :=
  if canMaster s (qpFn s q) then setRd (toHost s q c i b) q c.tag i (.delivered x.level x.decoded x.slot x.frame)
  else setRd s q c.tag i (.gathered x.level x.decoded x.slot x.frame b)

/-- The source of a sector that no level holds: zeros. -/
def Source.none : Source :=
  { level := 3, decoded := false, slot := Option.none, frame := Option.none, quad := 0 }

/-- Deliver a checked sector: decrypted with its tag verified, to host memory; BAD_DATA is not delivered (R36, R441, R442, R445). -/
def deliver (s : State) (q : Nat) (c : Cmd) (i : Nat) (x : Source) (m : Meta) (stored : Bytes) (flt : SecFault) : State :=
  if m.badData then failSector s q c.tag i St.mediaLost
  else match (if m.encrypted ∧ volLocked s c.volume then none else openSector s m stored) with
    | none => failSector s q c.tag i St.cipherFault
    | some (b, tagOk) =>
      let t := if m.encrypted then pipeWork s x.quad 4096 else s
      if m.encrypted ∧ flt = .cipher then failSector (pipeFault (toHost t q c i b) x.quad) q c.tag i St.cipherFault
      else if !tagOk then
        failSector (raise (bump (toHost t q c i b) Obj.TAG_FAILS (cmdPool s c) 1) (ev 0x0B 442) .error Src.volume c.volume (detailLba c.volume (c.slba + i))) q c.tag i St.integrityFail
      else
        let u := if x.decoded then bump t Obj.DEGRADED_READS (cmdPool s c) 1 else t
        sendSector u q c i x b

/-- Bytes with zeros in the 32-byte words listed (R220). -/
def zeroWords (l : List Nat) (b : Bytes) : Bytes :=
  l.foldl (fun a w => (patch a (32 * w) (zeros 32)).take 4096) b

/-- Serve a sector from a slot; a poisoned word goes out as zeros, and the sector is MEDIA_LOST (R220). -/
def serveSlot (s : State) (q : Nat) (c : Cmd) (i n : Nat) (x : Slot) (flt : SecFault) : State :=
  let bad := match flt with
    | .poison w => addOnce x.poison w
    | _ => x.poison
  if bad.isEmpty then deliver s q c i { level := 1, decoded := false, slot := some n, frame := none, quad := n % 4 } x.md x.data flt
  else
    let t := match flt with
      | .poison w => poisonSlot (bump s Obj.HBM_UE (n % 4) 1) n w
      | _ => s
    let u := match (if x.md.encrypted ∧ volLocked t c.volume then none else openSector t x.md x.data) with
      | some (b, _) => toHost t q c i (zeroWords bad b)
      | none => t
    failSector u q c.tag i St.mediaLost

/-! ## Resolution -/

/-- An earlier write of the QP that covers the sector has not passed step 7 for it, or an earlier DEALLOCATE has not been applied (R324). -/
def writeHolds (s : State) (q : Nat) (c : Cmd) (lba : Nat) : Bool :=
  (qpOf s q).cmds.any (fun w => decide (w.admitNo < c.admitNo) && touchesGrain s w c.volume lba &&
    (w.opcode == 4 || (w.opcode == 2 && (match w.wr[lba - w.wFirst]? with
      | some (.mapped _) => false
      | some .committed => false
      | some .discarded => false
      | _ => true))))

/-- The entry that a READ sees: a write whose completion is not written and whose step 7 came after the READ's admission is passed over for what its slot recorded (R43). Within one QP R324 and R325 order them, so there the newest counts. -/
def seenEntry (s : State) (q : Nat) (c : Cmd) (e : Entry) : Nat → Entry
  | 0 => e
  | n + 1 => match e with
    | .prot m => (match slotOf s m with
      | some x => if !x.acked && x.qp != q && (match x.mappedAt with
          | some a => decide (c.admitNo < a)
          | none => false) then seenEntry s q c x.prev n else e
      | none => e)
    | _ => e

/-- A READ's sector that only members can serve, at the location an entry gives: member read or decode, or lost; a sector already found lost is not fetched again (R230, R235, R248). -/
def fetchSector (s : State) (q : Nat) (c : Cmd) (i : Nat) (e : Entry) : State :=
  let lba := c.slba + i
  match locateAt s c.volume lba e with
  | none => setRd s q c.tag i (.delivered 3 false none none)
  | some (slot, zs, col) =>
    if e = entryOfGrain s (grainKey s c.volume lba) ∧ onLost s (cmdPool s c) c.volume lba then failSector s q c.tag i St.mediaLost
    else match fetchAt s (.read q c.tag i) (cmdPool s c) c.volume lba slot zs col with
    | .started t => setRd t q c.tag i .fetching
    | .lost => failSector (loseAndMove s (cmdPool s c) c.volume lba Lr.erasures) q c.tag i St.mediaLost

/-- The kind of fill a READ makes (Table 13-3). -/
def fillKind (c : Cmd) : Nat :=
  if c.stream then FillKind.streaming else FillKind.read

/-- Resolve one sector of a READ below the Flume, in the dispatcher of the quadrant that holds the sector's HBM stack: protected region, read cache, map, member. -/
def resolveBelow (s0 : State) (q : Nat) (c : Cmd) (i : Nat) (flt : SecFault) : State :=
  let v := c.volume
  let lba := c.slba + i
  let s := countDev s0 (Dc.resolutions + sliceOf v lba) 1
  let key := grainKey s v lba
  let cur := entryOfGrain s key
  let seen := seenEntry s q c cur (s.prot.length + 1)
  match seen with
  | .prot n => match grainSlot s n (grainAt s v lba) with
    | some (m, x) => serveSlot s q c i m x flt
    | none => sendSector s q c i Source.none (zeros 4096)
  | e =>
    if !leafResident s key then setRd (missLeaf s (cmdPool s c) (leafKey key)) q c.tag i .leaf
    else
      let t := touchLeaf s key
      match e with
      | .unmapped => sendSector t q c i Source.none (zeros 4096)
      | .lost => failSector t q c.tag i St.mediaLost
      | _ =>
        if seen ≠ cur then fetchSector t q c i seen
        else match lookRc t v lba with
        | some (l, u) =>
          if flt.isPoison then fetchSector (bump { u with cache := { u.cache with rc := Tbl.erase u.cache.rc (v * 2 ^ 40 + lba) } } Obj.HBM_UE (sliceOf v lba) 1) q c i seen
          else startFill (deliver u q c i { level := 1, decoded := false, slot := none, frame := none, quad := sliceOf v lba } l.md l.data flt) (fillKind c) v lba l.md l.data
        | none => fetchSector t q c i seen

/-- A Flume hit that meets the budget of R32: one sector of an unencrypted volume, its descriptor pushed, every quadrant at ÷1. That nothing else contended is taken for granted. -/
def inBudget (s : State) (q : Nat) (c : Cmd) (m : Meta) : Bool :=
  qpState s q == Qs.push && c.nlb == 1 && !m.encrypted && (List.range 4).all (fun n => rdN s Obj.QUADRANT_DIVIDER_IN_EFFECT n == 1)

/-- Resolve one sector of a READ: the Flume first; a poisoned line discards its frame and the sector is served below (R479, R483). -/
def resolveSector (s0 : State) (q : Nat) (c : Cmd) (i : Nat) (flt : SecFault) : State :=
  let lba := c.slba + i
  if writeHolds s0 q c lba then setRd s0 q c.tag i .waiting
  else
    let s := bump s0 Obj.FLUME_LOOKUPS 0 1
    let n := sliceOf c.volume lba
    match flumeLookup s c.volume lba with
    | some (k, f) =>
      if flt.isPoison then resolveBelow (bump (noteFrames (setFrame s k Frame.invalid)) Obj.SLICE_UE n 1) q c i .none
      else
        let t := if inBudget s q c f.md then bump s Obj.FLUME_PUSH_HITS 0 1 else s
        deliver (hitFrame t k f) q c i { level := 0, decoded := false, slot := none, frame := some k, quad := n } f.md f.data flt
    | none => resolveBelow (bump (countDev s (Dc.frameMisses + n) 1) Obj.SLICE_MISSES n 1) q c i flt

/-- Resolve one sector of a VERIFY: only an ARRAY sector is read; LOST counts (R316). -/
def resolveVerify (s : State) (q : Nat) (c : Cmd) (i : Nat) : State :=
  let lba := c.slba + i
  let key := grainKey s c.volume lba
  if writeHolds s q c lba then setRd s q c.tag i .waiting
  else match entryOfGrain s key with
    | .prot _ => setRd s q c.tag i (.delivered 3 false none none)
    | .unmapped => setRd s q c.tag i (.delivered 3 false none none)
    | .lost => modCmd (setRd s q c.tag i (.delivered 3 false none none)) q c.tag (fun x => { x with lost := x.lost + 1 })
    | .array .. =>
      if !leafResident s key then setRd (missLeaf s (cmdPool s c) (leafKey key)) q c.tag i .leaf
      else match locate s c.volume lba with
        | none => setRd s q c.tag i (.delivered 3 false none none)
        | some (slot, zs, col) => match fetchAt s (.verify q c.tag i) (cmdPool s c) c.volume lba slot zs col with
          | .started t => setRd t q c.tag i .fetching
          | .lost => modCmd (failSector (loseAndMove s (cmdPool s c) c.volume lba Lr.erasures) q c.tag i St.mediaLost) q c.tag (fun x => { x with lost := x.lost + 1 })

/-- Resolve a sector of a read command that now can. -/
def resolveOne (s : State) (q : Nat) (c : Cmd) (i : Nat) (flt : SecFault) : State :=
  if c.opcode = 1 then resolveSector s q c i flt else resolveVerify s q c i

/-- Resolve again the sectors of a read that satisfy a condition. -/
def resolveWhere (s : State) (q tag : Nat) (f : RdSec → Nat → Bool) : State :=
  match findCmd s q tag with
  | none => s
  | some c => tryFinishRead (forEach ((c.rd.zip (List.range c.rd.length)).filter (fun e => f e.1 e.2)) (fun e t => resolveOne t q c e.2 .none) s) q tag

/-! ## Streaming and prefetch (R485, R486) -/

/-- The run of consecutive READs that this one continues or starts. -/
def noteRun (s : State) (q : Nat) (c : Cmd) : State × Bool :=
  let key := 4096 * q + c.volume
  let thr := rdN s Obj.CACHE_STREAM_THRESHOLD 0
  let r := match Tbl.get s.cache.runs key with
    | some (next, n) => if next = c.slba then (n + c.nlb, true) else (c.nlb, false)
    | none => (c.nlb, false)
  ({ s with cache := { s.cache with runs := Tbl.set s.cache.runs key (c.slba + c.nlb, r.1) } }, decide (c.nlb ≥ thr) || (r.2 && decide (r.1 ≥ thr)))

/-- The member of a column may take a prefetch read: fewer than half its queue depth outstanding. -/
def prefetchRoom (s : State) (p slot col : Nat) : Bool :=
  match Tbl.get (poolOf s p).segs slot with
  | some g =>
    let port := mPort s p (g.cols.getD col (0, 0)).1
    !(erasedCols s p g).contains col && decide (2 * rdN s Obj.DPORT_INFLIGHT port < rdN s Obj.DRIVE_QUEUE_DEPTH port)
  | none => false

/-- Prefetch the sector after a READ whose last sector missed the Flume. -/
def prefetch (s : State) (c : Cmd) : State :=
  let mode := rdN s Obj.CACHE_PREFETCH 0
  let v := c.volume
  let lba := c.slba + c.nlb
  if mode = 0 ∨ c.stream ∨ lba ≥ rdN s Obj.VOLUME_CAPACITY v ∨ (frameFor s v lba).isSome then s
  else match locate s v lba with
    | none => s
    | some (slot, zs, col) => match lookRc s v lba with
      | some (l, t) => startFill t FillKind.prefetch v lba l.md l.data
      | none =>
        if mode = 2 ∧ leafResident s (grainKey s v lba) ∧ prefetchRoom s (cmdPool s c) slot col then
          match fetchAt s .prefetch (cmdPool s c) v lba slot zs col with
          | .started t => t
          | .lost => s
        else s

/-- A READ or VERIFY may begin: new work waits for the end of an epoch (R83). -/
def mayBegin (s : State) : Bool :=
  rdN s Obj.EPOCH_STATE 0 == 0

/-- The running epoch holds the Flume hits of a quadrant: it changes the cipher policy, or the quadrant's divider (R47). -/
def epochHoldsHits (s : State) (quad : Nat) : Bool :=
  s.ep.change.any (fun e => [Obj.CIPHER_POLICY, Obj.QUADRANT_DIVIDER, Obj.QUADRANT_DIVIDER_IN_EFFECT].any (fun o =>
    o.index == keyIndex e.key && o.sub == keySub e.key && (o.index == Obj.CIPHER_POLICY.index || keyInst e.key == quad)))

/-- A READ that the Flume serves whole, and that no running epoch holds (R47). -/
def flumeServes (s : State) (c : Cmd) : Bool :=
  c.opcode == 1 && (List.range c.nlb).all (fun i => (flumeLookup s c.volume (c.slba + i)).isSome && !epochHoldsHits s (sliceOf c.volume (c.slba + i)))

/-- READ: every sector resolves to its newest version and is delivered, or waits (R314, R324). `met` is what it meets on the way. -/
def execRead (q tag : Nat) (met : ReadMet) (s0 : State) : Host.Outcome State Fault Refusal :=
  .next (
    let s := forEach met.mems meetPoison s0
    match startable s q tag 1 with
    | none => s
    | some c0 =>
      if !mayBegin s && !flumeServes s c0 then s
      else
      let r := noteRun s q c0
      let c := { c0 with phase := .running, stream := r.2, rd := List.replicate c0.nlb .waiting }
      let missed := (flumeLookup s c.volume (c.slba + c.nlb - 1)).isNone
      let t := modCmd r.1 q tag (fun _ => c)
      let u := forRange c.nlb (fun i x => resolveOne x q c i (met.faults.getD i .none)) t
      tryFinishRead (if missed then prefetch u c else u) q tag)

/-- VERIFY: every ARRAY sector of the range is read from its member and checked (R316). -/
def execVerify (q tag : Nat) (s : State) : Host.Outcome State Fault Refusal :=
  .next (match startable s q tag 5 with
    | none => s
    | some c0 =>
      if !mayBegin s then s
      else
      let c := { c0 with phase := .running, rd := List.replicate c0.nlb .waiting }
      tryFinishRead (forRange c.nlb (fun i x => resolveOne x q c i .none) (modCmd s q tag (fun _ => c))) q tag)

/-- READ_OVERLAP_RESOLVE: an earlier overlapping write has passed step 7 and the waiting sectors resolve (R324). -/
def execReadOverlapResolve (q tag : Nat) (s : State) : Host.Outcome State Fault Refusal :=
  .next (resolveWhere s q tag (fun r _ => r == .waiting))

/-! ## What becomes of a fetched sector -/

/-- End an admitted READ or VERIFY with a status of its own. -/
def failRead (s : State) (q tag status : Nat) : State :=
  match findCmd s q tag with
  | none => s
  | some c => finish s q c status (if c.opcode = 1 then readResult (firstBad c) (decodedCount c) else 0)

/-- A checked sector reaches what it was fetched for. -/
def gotSector (s : State) (w : Want) (p v lba slot zs col : Nat) (m : Meta) (d : Bytes) (decoded : Bool) (flt : SecFault) : State :=
  match w with
  | .read q tag i => match findCmd s q tag with
    | some c =>
      if c.rd[i]? = some .fetching then
        let t := deliver s q c i { level := 2, decoded := decoded, slot := none, frame := none, quad := sliceOf v lba } m d flt
        tryFinishRead (if sameVersion t v lba m then startFill (putRc t v lba m d) (fillKind c) v lba m d else t) q tag
      else s
    | none => s
  | .verify q tag i => tryFinishRead (setRd s q tag i (.delivered 2 decoded none none)) q tag
  | .widen q tag i => match findCmd s q tag with
    | some c => match c.wr[i]? with
      | some (.filling n) =>
        if m.badData then landBad s q c i n
        else match openSector s m d with
          | some (b, _) => landPlain s q c i n b
          | none => failWrite s q tag St.cipherFault
      | _ => s
    | none => s
  | .dredge _ => addCopy s p (grainKey s v lba) (grainAt s v lba) d m
  | .rebuild => addCopy (if decoded then bump s Obj.REBUILD_SECTORS_DONE p 1 else s) p (grainKey s v lba) (grainAt s v lba) d m
  | .page slot' addr =>
    placeCopies s p Cls.metadata [{ fill := false, landed := true, slot := none, md := { m with relocated := true }, data := d, src := some (.array slot' zs 0), page := some addr }]
  | .prefetch => startFill s FillKind.prefetch v lba m d
  | .preload r => lockFill s r v lba m d
  | .digest seq => { s with pair := { s.pair with digests := Tbl.modify s.pair.digests seq (fun x => { x with back := Tbl.set x.back (slot * 2 ^ 32 + zs * 64 + col) (sectorBytes d m) }) } }

/-- A sector cannot be had: no source set recovers it (`Lr.erasures`, R248), or every decode failed its checks (`Lr.unrecovered`, R235). The grain goes on the lost list and what wanted it goes on without it. -/
def lostFetch (s : State) (w : Want) (p v lba reason : Nat) : State :=
  let st := if reason = Lr.unrecovered then St.guardUnrecovered else St.mediaLost
  let t := match w with
    | .page .. => setCond s p Pc.failed true
    | .digest _ => s
    | _ =>
      let t := (match w with
        | .dredge _ => loseSector s p v lba reason
        | .rebuild => loseSector s p v lba reason
        | _ => loseAndMove s p v lba reason)
      if reason = Lr.unrecovered then raise (bump t Obj.INTEGRITY_UNRECOVERED p 1) (ev 0x05 235) .error Src.volume v (detailLba v lba) else t
  match w with
  | .read q tag i => tryFinishRead (failSector t q tag i st) q tag
  | .verify q tag i => tryFinishRead (modCmd (failSector t q tag i st) q tag (fun c => { c with lost := c.lost + 1 })) q tag
  | .widen q tag i => match findCmd t q tag with
    | some c => match c.wr[i]? with
      | some (.filling n) => landBad t q c i n
      | _ => t
    | none => t
  | .dredge _ => missCopy t p v lba
  | .rebuild => missCopy t p v lba
  | _ => t

/-- Count a decode's repair for the command that wanted it (R316). -/
def noteRepair (s : State) (w : Want) : State :=
  match w with
  | .verify q tag _ => modCmd s q tag (fun c => { c with repaired := c.repaired + 1 })
  | _ => s

/-- Forget a decode job and its source reads. -/
def endJob (s : State) (id : Nat) : State :=
  { s with drv := { s.drv with jobs := Tbl.erase s.drv.jobs id } }

/-- Fetch again by decoding, with the columns given erased; without a source set the sector is lost. -/
def decodeInstead (s : State) (w : Want) (p v lba slot zs col : Nat) (erased : List Nat) (repair : Bool) : State :=
  match startJob s w p v lba slot zs col erased repair with
  | some t => t
  | none => lostFetch s w p v lba (if repair then Lr.unrecovered else Lr.erasures)

/-- The erased columns of a location's segment. -/
def erasedAt (s : State) (p slot : Nat) : List Nat :=
  match Tbl.get (poolOf s p).segs slot with
  | some g => erasedCols s p g
  | none => []

/-- A direct read is served by decoding with its column erased (R234, R384, R386). -/
def servedByDecode (s : State) (w : Want) (p v lba slot zs col : Nat) (repair : Bool) : State :=
  decodeInstead s w p v lba slot zs col (addOnce (erasedAt s p slot) col) repair

end Sys2Proof.Machine
end

