-- ==== Sys2Proof/Machine/Failure.lean ====
section
/-! DEFINITION. Superblock generations (R131, R132, R415), a member's failure and what it does to outstanding work (R223 to R229, R242), and rebuild conditions (R241, R243). -/

namespace Sys2Proof.Machine

open Sys2Proof

/-! ## Superblocks -/

/-- The volumes recorded in a pool's superblock. -/
def sbVolumes (s : State) (p : Nat) : Tbl SbVolume :=
  (s.vols.map Prod.fst).filterMap (fun v =>
    let st := rdN s Obj.VOLUME_STATE v
    if rdN s Obj.VOLUME_POOL v = p ∧ st ≠ 0 then
      some (v, { keySlot := rdN s Obj.VOLUME_KEY_SLOT v, tagged := rdB s Obj.VOLUME_TAGGED v, grain16 := rdN s Obj.VOLUME_GRAIN v == 1, held := st == 3, present := true,
                 cap := rdN s Obj.VOLUME_CAPACITY v })
    else none)

/-- Member states as the superblock holds them: a CONTAINED member is recorded as ACTIVE (Table 03-13). -/
def sbState (m : Nat) : Nat :=
  if m = Ms.active ∨ m = Ms.contained then 1 else if m = Ms.failed then 2 else if m = Ms.removed then 3 else 0

/-- The superblock of a pool at generation `gen`; its floors lie 2^32 ahead (R132). -/
def superOf (s : State) (p gen : Nat) : Super :=
  let x := poolOf s p
  let c := (classCode s p Cls.host).2
  { uuid := rdBytes s Obj.POOL_UUID p, gen := gen, creator := x.creator, pool := p, table := rdN s Obj.POOL_CODE_TABLE p, k := c.k, m := c.m, l := c.l, f := c.f
    width := c.width, slots := ((slotsUsed s p).foldl (fun m i => max m (i + 1)) 0), height := rdN s Obj.POOL_STRIPE_HEIGHT p, reserve := rdN s Obj.POOL_REBUILD_RESERVE p
    overProv := rdN s Obj.POOL_OVERPROVISION p, sectors := x.sectors, zones := x.zm, kind := rdN s Obj.POOL_MEMBER_KIND p, reshape := x.reshape.isSome
    segFloor := x.nextSeg + 2 ^ 32, strFloor := x.nextStripe + 2 ^ 32, seqFloor := s.sluice.wseq + 2 ^ 32, cursor := if x.reshape.isSome then rdN s Obj.RESHAPE_CURSOR p else 0
    code := if x.reshape.isSome then x.custom.getD c else c
    members := (List.range 64).map (fun i => let j := mInst p i
      { st := sbState (mState s p i), nsid := rdN s Obj.MEMBER_NSID j, nguid := rdBytes s Obj.MEMBER_NGUID j, eui := if allZero (rdBytes s Obj.MEMBER_NGUID j) then (dportOf s (mPort s p i)).eui else 0, zones := Tbl.getD x.zonesOf i 0, join := Tbl.getD x.joined i 0 })
    volumes := sbVolumes s p }

/-- A superblock as the 16 sectors written to zone 0. -/
def superSectors (b : Bytes) : Bytes :=
  (List.range 16).flatMap (fun i => let d := slice b (4096 * i) 4096; sectorBytes d (structMeta Kind.superblock d))

/-- The bytes of the pool's current generation. -/
def superNow (s : State) (p : Nat) : Bytes :=
  (superOf s p (rdN s Obj.POOL_SB_GENERATION p)).bytes

/-- Write copy A or B of a generation to a member at its slot pair. -/
def superCopy (s : State) (p m i copy : Nat) (data : Bytes) : State :=
  issueTo s p m (.write 0 (32 * i + 16 * copy) data (rdB s Obj.DRIVE_VOLATILE_CACHE (mPort s p m)) false) (.superblock p m)

/-- Write the current generation to one member: copy A at its next slot pair. A full zone 0 is reused as a ring on a conventional member, and reset first on a ZNS member, one member at a time (R131). -/
def superMember (s : State) (p m : Nat) : State :=
  let x := poolOf s p
  let i := Tbl.getD x.sbNext m 0
  if 32 * (i + 1) ≤ x.sectors then superCopy (modPool s p (fun y => { y with sbNext := Tbl.set y.sbNext m (i + 1) })) p m i 0 (superSectors (superNow s p))
  else if rdN s Obj.POOL_MEMBER_KIND p = 0 then superCopy (modPool s p (fun y => { y with sbNext := Tbl.set y.sbNext m 1 })) p m 0 0 (superSectors (superNow s p))
  else if s.drv.cmds.any (fun e => e.2.op == .zoneReset 0 && (match e.2.purp with
      | .superblock q _ => q == p
      | _ => false)) then modPool s p (fun y => { y with sbWait := addOnce y.sbWait m })
  else issueTo (modPool s p (fun y => { y with sbNext := Tbl.set y.sbNext m 1 })) p m (.zoneReset 0) (.superblock p m)

/-- The 16 CONFIG messages of a generation (R415). -/
def sendConfig (s : State) (p : Nat) : State :=
  let b := superNow s p
  let g := rdN s Obj.POOL_SB_GENERATION p
  if culvertUp s then forRange 16 (fun i t => sendMsg t (.config p g (4096 * i) (slice b (4096 * i) 4096))) s else s

/-- Write a new superblock generation on every ACTIVE and CONTAINED member (R131); those of a CONTAINED one are held on its port. -/
def writeSuper (s : State) (p : Nat) : State :=
  let t := bump s Obj.POOL_SB_GENERATION p 1
  let l := slotsIn t p Ms.active ++ slotsIn t p Ms.contained
  sendConfig (forEach l (fun m u => superMember u p m) (modPool t p (fun x => { x with sbLeft := l.length }))) p

/-- A superblock command of a member has completed: after zone 0's reset, copy A; after copy A, copy B; then the member is done, and the next full zone 0 is reset. -/
def superDone (s : State) (p m : Nat) (op : MOp) : State :=
  match op with
  | .zoneReset _ =>
    let t := superCopy s p m 0 0 (superSectors (superNow s p))
    match (poolOf t p).sbWait with
    | [] => t
    | n :: r => superMember (modPool t p (fun y => { y with sbWait := r })) p n
  | .write _ zs data _ _ =>
    if zs / 16 % 2 = 0 then superCopy s p m (zs / 32) 1 data
    else modDPort (modPool s p (fun y => { y with sbLeft := y.sbLeft - 1 })) (mPort s p m) (fun d => { d with sb := superNow s p })
  | _ => s

/-! ## Rebuild conditions -/

/-- Grains of a pool whose sectors lie in a segment slot. -/
def liveGrains (s : State) (p slot : Nat) : List Nat :=
  (s.map.entries.filter (fun e => match e.2 with
    | .array x _ _ => x == slot && rdN s Obj.VOLUME_POOL (e.1 / 2 ^ 40) == p
    | _ => false)).map Prod.fst

/-- The columns on which a grain's sectors lie: sector, column. -/
def grainCols (s : State) (k key : Nat) : List (Nat × Nat) :=
  match entryOfGrain s key with
  | .array _ zs col => (List.range (grainSize s (key / 2 ^ 40))).map (fun j => (j, (stepLoc k zs col j).2))
  | _ => []

/-- Columns of a segment on FAILED or REMOVED members, or on a member that has left its slot. -/
def failedCols (s : State) (p : Nat) (g : Seg) : List Nat :=
  (List.range g.cols.length).filter (fun j => let m := mState s p (g.cols.getD j (64, 0)).1; m == Ms.failed || m == Ms.removed || m == Ms.none || !onMember s p g j)

/-- The leaves and pages whose M3 copies lie in a segment slot: page addresses. -/
def livePages (s : State) (p slot : Nat) : List (Nat × Nat) :=
  ((s.map.leaves.filter (fun e => rdN s Obj.VOLUME_POOL (e.1 / 2 ^ 31) == p)).filterMap (fun e => match e.2.loc with
    | some (x, zs) => if x = slot then some (leafAddr e.1, zs) else none
    | none => none)) ++
  (((poolOf s p).pages.filter (fun e => e.2.1 == slot)).map (fun e => (e.1, e.2.2)))

/-- Grains of a segment with a sector on a FAILED column: the data work of rebuild (R236, R238). -/
def rebuildGrains (s : State) (p slot : Nat) (g : Seg) : List Nat :=
  (liveGrains s p slot).filter (fun key => (grainCols s g.k key).any (fun c => (failedCols s p g).contains c.2))

/-- Live sectors on FAILED members (R241). -/
def lostLive (s : State) (p : Nat) : Nat :=
  ((poolOf s p).segs.map (fun e =>
    if e.2.cls = Cls.metadata then (livePages s p e.1).length * (failedCols s p e.2).length
    else ((liveGrains s p e.1).map (fun key => ((grainCols s e.2.k key).filter (fun c => (failedCols s p e.2).contains c.2)).length)).sum)).sum

/-- need_zones of R241. -/
def needZones (s : State) (p : Nat) : Nat :=
  let c := (classCode s p Cls.rebuild).2
  let d := c.k * ((poolOf s p).sectors - 2)
  (lostLive s p * c.width + d - 1) / d + c.width

/-- Rebuild may start: free zones and ACTIVE members (R241). -/
def rebuildCan (s : State) (p : Nat) : Bool :=
  decide (freeZones s p ≥ needZones s p) && decide ((slotsIn s p Ms.active).length ≥ (classCode s p Cls.rebuild).2.width)

/-- A pool has FAILED members. -/
def anyFailed (s : State) (p : Nat) : Bool :=
  !(slotsIn s p Ms.failed).isEmpty

/-- While rebuild runs, a further failure adds its sectors, and the total is counted afresh (R242, R243). -/
def recountRebuild (s : State) (p : Nat) : State :=
  if rdN s Obj.REBUILD_STATE p = 2 then wr (wr s Obj.REBUILD_SECTORS_TOTAL p (lostLive s p : Nat)) Obj.REBUILD_SECTORS_DONE p 0 else s

/-- Start rebuild, or wait for zones and members; a rebuild that runs goes on with the work counted afresh (R241 to R243). -/
def considerRebuild (s : State) (p : Nat) : State :=
  if !anyFailed s p then s
  else
    let t := setCond s p Pc.degraded true
    if rdN t Obj.REBUILD_STATE p = 2 then setCond (recountRebuild t p) p Pc.rebuilding true
    else
      let u := wr (wr t Obj.REBUILD_SECTORS_TOTAL p (lostLive t p : Nat)) Obj.REBUILD_SECTORS_DONE p 0
      if rebuildCan u p then setCond (wr u Obj.REBUILD_STATE p 2) p Pc.rebuilding true
      else setCond (wr u Obj.REBUILD_STATE p 1) p Pc.rebuilding false

/-! ## Lanes that lose a column -/

/-- Seal every open segment that has a column on a member. Stripes with a column write outstanding on it are abandoned, and those not yet issued go with them: when the member has failed they are issued again at once (R227, R228), and when it stays in the pool after the segment has sealed (R229). -/
def sealFor (s : State) (p m : Nat) (failed : Bool) : State :=
  let open_ := (poolOf s p).segs.filter (fun e => e.2.st == 1 && e.2.cols.any (fun c => c.1 == m))
  forEach open_ (fun e t =>
    let u := markGone t p e.1 (fun x => x.issued && x.colsLeft.any (fun j => (e.2.cols.getD j (64, 0)).1 == m))
    if failed then reissueNow u p e.1 else sealOn u p e.1) s

/-- Column zones on a member count as reset (R172). -/
def resetsCounted (s : State) (p m : Nat) : State :=
  modPool s p (fun x => { x with segs := Tbl.mapV x.segs (fun _ g => if g.st = 4 then { g with resets := g.resets.filter (fun j => (g.cols.getD j (64, 0)).1 != m) } else g) })

/-- A segment whose resets have all completed: the segment-freed record is written (Table 04-9). -/
def freedRecord (s : State) (p slot : Nat) : State :=
  match Tbl.get (poolOf s p).segs slot with
  | some g =>
    if g.st = 4 ∧ g.resets.isEmpty ∧ !s.ilog.recs.any (fun r => r.pool == p && r.body == .segFreed slot && !r.durable) then logRec s p (.segFreed slot) else s
  | none => s

/-! ## Failure of a member (Table 06-2) -/

/-- A command of a pool's running action has ended without an answer: a CREATE fails with it (R96), and so does any action that needed more than a superblock read or a release. -/
def actLoses (s : State) (p : Nat) (op : MOp) (counted : Bool) : State :=
  let need : Bool := match op with
    | .read .. => false
    | .resRelease => false
    | _ => true
  modPool s p (fun x => { x with action := x.action.map (fun a =>
    { a with left := if counted then a.left - 1 else a.left, result := if a.result = 0 ∧ (a.code = 1 ∨ counted ∧ need) then 9 else a.result }) })

/-- An ADD ends without a member: the drive stays a candidate (R257), and rebuild is considered without it (R242). -/
def addEnds (s : State) (p m port result : Nat) : State :=
  considerRebuild (wr (wr s Obj.MEMBER_ACTION_RESULT (mInst p m) result) Obj.DRIVE_MEMBER_OF port 0xFFFF) p

/-- What becomes of one outstanding command of a member that has gone. -/
def reroute (s : State) (id : Nat) (c : MCmd) : State :=
  let t := endCmd s id
  match c.purp with
  | .sector w p v lba slot zs col => servedByDecode t w p v lba slot zs col false
  | .source job col => match Tbl.get t.drv.jobs job with
    | none => t
    | some x => decodeInstead (endJob t job) x.want x.pool x.vol x.lba x.slot x.zs x.col (addOnce x.erased col) x.repair
  | .leaf p key mc => match Tbl.get t.map.leaves key with
    | none => t
    | some l => match l.loc with
      | none => t
      | some loc =>
        let tried := (List.range 3).filter (fun j => bitAt (mc / 64) j || j == mc % 64)
        match leafCopies t p loc tried with
        | [] => setCond t p Pc.failed true
        | j :: _ => readLeaf t p key ((tried.map (fun i => 2 ^ i)).sum) j
  | .zone p slot _ => freedRecord t p slot
  | .column p .. => actLoses t p c.op false
  | .segment p _ => actLoses t p c.op false
  | .superblock p _ => modPool (actLoses t p c.op false) p (fun x => { x with sbLeft := x.sbLeft - 1 })
  | .action p _ => actLoses t p c.op true
  | .add p m => addEnds t p m c.port 7
  | _ => t

/-- The outstanding commands of a drive port. -/
def portCmds (s : State) (port : Nat) : List (Nat × MCmd) :=
  s.drv.cmds.filter (fun e => e.2.port == port)

/-- Every outstanding command of a failed member ends: reads are reissued as degraded reads, a leaf goes to its next copy, resets count as done, the rest ends without effect (R387). -/
def rerouteAll (s : State) (port : Nat) : State :=
  forEach (portCmds s port) (fun e t => match Tbl.get t.drv.cmds e.1 with
    | some c => reroute t e.1 c
    | none => t) s

/-! ## Joining a member (R124, R242, R257) -/

/-! Values of MEMBER_ACTION_RESULT. -/

def Mr.inProgress : Nat := 1
def Mr.done : Nat := 2
def Mr.refusedState : Nat := 3
def Mr.refusedWidth : Nat := 4
def Mr.refusedSpace : Nat := 5
def Mr.refusedGeometry : Nat := 6
def Mr.ioError : Nat := 7
def Mr.refusedReservation : Nat := 8

/-- A port holds a drive that admission has passed and no member slot uses. -/
def candidate (s : State) (port : Nat) : Bool :=
  rdN s Obj.DPORT_STATE port == Dp.ready && rdN s Obj.DRIVE_ADMISSION port == 0 && rdN s Obj.DRIVE_MEMBER_OF port == 0xFFFF

/-- Zones of a drive at a zone size in sectors. -/
def zonesAt (s : State) (port sectors : Nat) : Nat :=
  if rdN s Obj.DRIVE_KIND port = 1 then (dportOf s port).zones else rdN s Obj.DRIVE_CAPACITY port / sectors

/-- The pool stays within the slot limit of R148 with `n` members of `zm` zones and width `w`. -/
def slotLimit (n zm w : Nat) : Bool :=
  decide (n * zm / min w 3 ≤ 4194304)

/-- A candidate fits a pool: its kind, its zone size and enough zones (Table 06-6). -/
def fitsPool (s : State) (p port : Nat) : Bool :=
  let x := poolOf s p
  rdN s Obj.DRIVE_KIND port == rdN s Obj.POOL_MEMBER_KIND p && decide (zonesAt s port x.sectors ≥ x.zm + 1) &&
    (rdN s Obj.DRIVE_KIND port != 1 || rdN s Obj.DRIVE_ZONE_SECTORS port == x.sectors) &&
    slotLimit (memberCount s p + 1) x.zm (classCode s p Cls.host).2.width

/-- The command that erases a candidate's content: every zone reset, or the whole namespace deallocated. -/
def eraseOp (s : State) (port : Nat) : MOp :=
  if rdN s Obj.DRIVE_KIND port = 1 then .zoneResetAll else .deallocateAll

/-- Start joining the candidate of a member slot: its content is erased, after a format where the 4096+64 format is not in force. -/
def startAdd (s : State) (p m : Nat) : State :=
  let port := mPort s p m
  let t := wr (wr s Obj.MEMBER_ACTION_RESULT (mInst p m) (Mr.inProgress : Nat)) Obj.DRIVE_MEMBER_OF port (mInst p m : Nat)
  issueTo t p m (if (dportOf s port).formatted then eraseOp s port else .format) (.add p m)

/-- A candidate that may join on its own, and the free member slot it takes (POOL_AUTO_SPARE, R242). -/
def spareFor (s : State) (p : Nat) : Option (Nat × Nat) :=
  if !rdB s Obj.POOL_AUTO_SPARE p then none
  else match (List.range 64).find? (fun port => candidate s port && fitsPool s p port && (List.range 512).all (fun i => rdN s Obj.MEMBER_PORT i != port)),
      (List.range 64).find? (fun m => mPort s p m == 0xFF && mState s p m == Ms.none) with
    | some port, some m => some (port, m)
    | _, _ => none

/-- A member leaves the pool: it is REMOVED, and its reservation is released if it answers (Table 06-2). -/
def releaseMember (s : State) (p m : Nat) : State :=
  let t := logRec (wr s Obj.MEMBER_STATE (mInst p m) (Ms.removed : Nat)) p (.member m Ms.removed)
  let u := wr t Obj.DRIVE_MEMBER_OF (mPort t p m) 0xFFFF
  if rdN u Obj.DPORT_STATE (mPort u p m) = Dp.ready then issueTo u p m .resRelease (.takeover p m) else u

/-- Let a spare join if the pool may have one and there is one; else consider rebuild at once (R242). -/
def afterFailure (s : State) (p : Nat) : State :=
  match spareFor s p with
  | some (port, m) =>
    setCond (startAdd (wr (wr (recountRebuild s p) Obj.MEMBER_PORT (mInst p m) port) Obj.MEMBER_NSID (mInst p m) (rdN s Obj.DRIVE_NSID port : Nat)) p m) p Pc.degraded true
  | none => considerRebuild s p

/-! ## Failure -/

/-- A pool with fewer than w members reachable stops serving (Table 03-3). -/
def checkWidth (s : State) (p : Nat) : State :=
  if poolServes s p && decide ((slotsIn s p Ms.active).length < (classCode s p Cls.host).2.width) then setCond s p Pc.failed true else s

/-- A serving member becomes FAILED (Table 06-2): record, superblock, ERROR event, lanes sealed, reads degraded, stripes with a column write on it abandoned, rebuild considered. -/
def failMember (s : State) (p m cause : Nat) : State :=
  if mState s p m ≠ Ms.active ∧ mState s p m ≠ Ms.contained then s
  else
    let port := mPort s p m
    let a := wr (wr s Obj.MEMBER_STATE (mInst p m) (Ms.failed : Nat)) Obj.MEMBER_FAIL_CAUSE (mInst p m) cause
    let b := raiseOpen (logRec a p (.member m Ms.failed)) (ev 0x05 226) .error Src.member (mInst p m)
    let c := sealFor (resetsCounted (leaveIdle (signalPme b 1)) p m) p m true
    let d := rerouteAll c port
    let e := forEach ((poolOf d p).segs.filter (fun x => x.2.st == 4)) (fun x t => freedRecord t p x.1) d
    checkWidth (afterFailure (writeSuper e p) p) p

/-! ## Containment (R388, R389) -/

/-- A held read of a frozen port is served by decoding where that is possible without the contained column; otherwise it waits (R389). -/
def decodeHeld (s : State) (id : Nat) (c : MCmd) : State :=
  match c.purp with
  | .sector w p v lba slot zs col => match startJob s w p v lba slot zs col (addOnce (erasedAt s p slot) col) false with
    | some t => { t with drv := { t.drv with cmds := Tbl.erase t.drv.cmds id } }
    | none => s
  | .source job col => match Tbl.get s.drv.jobs job with
    | none => s
    | some x => match startJob (endJob s job) x.want x.pool x.vol x.lba x.slot x.zs x.col (addOnce (erasedAt s x.pool x.slot) col) x.repair with
      | some t => { t with drv := { t.drv with cmds := Tbl.erase t.drv.cmds id } }
      | none => s
  | .leaf .. => reroute s id c
  | _ => s

/-- The member slot of a port: pool and slot. -/
def memberOf (s : State) (port : Nat) : Option (Nat × Nat) :=
  let i := rdN s Obj.DRIVE_MEMBER_OF port
  if i < 512 then some (i / 64, i % 64) else none

/-- The commands a frozen port holds. -/
def noteHeld (s : State) (port : Nat) : State :=
  wr s Obj.DPORT_HELD_COMMANDS port (((portCmds s port).filter (fun e => e.2.st == .held)).length : Nat)

/-- A port in CONTAINMENT mode freezes: its commands are held, its member is CONTAINED, stripes with a column on it are reissued elsewhere and reads are decoded (R388, R389). -/
def freezePort (s : State) (port cause : Nat) : State :=
  if rdN s Obj.DPORT_STATE port = Dp.contained then s
  else
    let held : Tbl MCmd := Tbl.mapV s.drv.cmds (fun _ c => if c.port = port then { c with st := .held } else c)
    let n := inflight s port
    let a := drop (wr { s with drv := { s.drv with cmds := held } } Obj.DPORT_INFLIGHT port 0) Obj.DRIVE_INFLIGHT_TOTAL 0 n
    let b := raiseOpen (wr (wr a Obj.DPORT_STATE port (Dp.contained : Nat)) Obj.DPORT_CONTAIN_CAUSE port cause) (ev 0x09 388) .error Src.drivePort port
    let c := match memberOf b port with
      | none => b
      | some (p, m) =>
        if mState b p m ≠ Ms.active then b
        else
          let d := setCond (logRec (wr b Obj.MEMBER_STATE (mInst p m) (Ms.contained : Nat)) p (.member m Ms.contained)) p Pc.degraded true
          checkWidth (forEach (portCmds d port) (fun e t => match Tbl.get t.drv.cmds e.1 with
            | some x => decodeHeld t e.1 x
            | none => t) (sealFor d p m false)) p
    noteHeld c port

/-- A failure condition of a member: it fails on a port in NATIVE mode, and freezes a port in CONTAINMENT mode (R223, R225). -/
def memberFault (s : State) (p m cause : Nat) : State :=
  let port := mPort s p m
  if rdN s Obj.DPORT_MODE port = 1 ∧ port < 64 then freezePort s port cause else failMember s p m cause

end Sys2Proof.Machine
end

