-- ==== Sys2Proof/Machine/Sweep.lean ====
section
/-! DEFINITION. SANITIZE and FORMAT operations as they stand (Table 08-8), and the progress of a sweep (R335). -/

namespace Sys2Proof.Machine

open Sys2Proof

/-! Values of OP_STATE (Table 08-8). -/

def Op.phase1 : Nat := 1
def Op.sweep : Nat := 2
def Op.waitCistern : Nat := 3
def Op.done : Nat := 4

/-- The operation of a volume. -/
def opOf (s : State) (v : Nat) : Option VolOp :=
  match Tbl.get s.vols v with
  | some x => x.op
  | none => none

/-- Change the operation of a volume. -/
def modOp (s : State) (v : Nat) (f : VolOp → VolOp) : State :=
  { s with vols := Tbl.modify s.vols v (fun x => { x with op := x.op.map f }) }

/-- Segments of a pool below a boundary that are not FREE, by their SEG_SEQ. -/
def segsBelow (s : State) (p b : Nat) : List Nat :=
  ((poolOf s p).segs.map (fun e => e.2.seq)).filter (fun q => decide (q < b))

/-- OPERATION (Table 08-8). PERCENT and SEGMENTS_LEFT are of the sweep. -/
def opWord (s : State) (v : Nat) : Nat :=
  match opOf s v with
  | none => 0
  | some x =>
    let left := if x.state = Op.sweep then (segsBelow s x.pool x.boundary).length else 0
    let pct := if x.state < Op.sweep ∨ x.kind = 1 then 0 else if x.total = 0 then 100 else 100 * (x.total - left) / x.total
    x.state % 256 * 2 ^ 56 + x.kind % 256 * 2 ^ 48 + sat 100 pct * 2 ^ 40 + left % 2 ^ 40

/-- Complete the SANITIZE and FORMAT commands that wait for a volume's operation (R333). A command whose tag a reset has ended is no longer there (R336). -/
def finishWaiters (s : State) (v : Nat) (l : List (Nat × Nat)) : State :=
  forEach l (fun w u => match findCmd u w.1 w.2 with
    | some c => if (c.opcode = 0x82 ∨ c.opcode = 0x83) ∧ c.volume = v ∧ c.phase = .running then finish u w.1 c St.success (opWord u v) else u
    | none => u) s

/-- An operation is done: the commands that wait for it complete (R333). -/
def finishOp (s : State) (v : Nat) (x : VolOp) : State :=
  finishWaiters (modOp s v (fun y => { y with state := Op.done, waiters := [] })) v x.waiters

/-- The newest durable PROGRESS record of a volume: kind and step. -/
def lastStep (recs : List LogRec) (v : Nat) : Option (Nat × Nat) :=
  (recs.filterMap (fun r => match r.body with
    | .progress k w n _ => if r.durable ∧ w = v then some (k, n) else none
    | _ => none)).getLast?

/-- A checkpoint number that none reaches: the one to wait for is not known yet. -/
def noCkpt : Nat := 2 ^ 64

/-- What a stop leaves of an operation, by its newest durable PROGRESS record: none or a last one, and it is forgotten (Table 08-8); phase 1 begins again, or has ended without a boundary; a sweep goes on. Its commands are gone (R336). -/
def resumedOp (recs : List LogRec) (v : Nat) (o : Option VolOp) : Option VolOp :=
  match o, lastStep recs v with
  | some x, some (k, n) =>
    if k ≠ x.kind ∨ n = 9 ∨ (n = 4 ∧ k = 1) then none
    else if n = 2 then some { x with state := Op.phase1, step := 1, waiters := [] }
    else if n = 4 then some { x with state := Op.sweep, step := 4, boundary := 0, ckpt := noCkpt, waiters := [] }
    else if x.state = Op.waitCistern then some { x with step := 5, waiters := [] }
    else some { x with state := Op.sweep, step := 5, waiters := [] }
  | _, _ => none

/-- Operations of a pool whose sweep runs. -/
def sweeping (s : State) (p : Nat) : List (Nat × VolOp) :=
  s.vols.filterMap (fun e => match e.2.op with
    | some x => if x.pool = p ∧ x.state = Op.sweep ∧ x.ckpt ≤ rdN s Obj.MAP_CHECKPOINT_NUMBER p then some (e.1, x) else none
    | none => none)

/-- The sweep goes on: each operation with nothing left below its boundary waits for the Cistern; the pool's boundary is the highest of the rest (steps 6 to 8 of Table 08-10). -/
def noteSweep (s : State) (p : Nat) : State :=
  let t := forEach (sweeping s p) (fun e u => if (segsBelow u p e.2.boundary).isEmpty then modOp u e.1 (fun y => { y with state := Op.waitCistern }) else u) s
  let l := sweeping t p
  modPool t p (fun x => { x with sweep := if l.isEmpty then none else some ((l.map (fun e => e.2.boundary)).foldl max 0) })

/-- At pool assembly the running sweeps resume: a checkpoint that has not completed is requested again (R336). -/
def sweepsPending (s : State) (p : Nat) : Bool :=
  s.vols.any (fun e => match e.2.op with
    | some x => x.pool == p && x.state == Op.sweep && decide (x.ckpt > rdN s Obj.MAP_CHECKPOINT_NUMBER p)
    | none => false)

/-- After a segment below the boundary has been freed, a PROGRESS record names the lowest one left (step 7 of Table 08-10). -/
def sweptOne (s : State) (p seq : Nat) : State :=
  noteSweep (forEach ((sweeping s p).filter (fun e => decide (seq < e.2.boundary))) (fun e u =>
    logRec u p (.progress 2 e.1 7 ((segsBelow u p e.2.boundary).foldl min e.2.boundary))) s) p

end Sys2Proof.Machine
end

