-- ==== Sys2Proof/Machine/Commit.lean ====
section
/-! DEFINITION. The commit of a stripe and what follows its STRIPE record (R40, R41, R145, R156, R158, R169, R238, R247), the record ring with its holds and wear (R153, R160, R162, R191 to R198), checkpoints (R160, R161), and the freeing of segments (R172). -/

namespace Sys2Proof.Machine

open Sys2Proof

/-! ## Data committed since a cut (R160, R162) -/

/-- Bytes of data that a durable STRIPE record commits: host, dredge and rebuild classes are replayed, metadata is not. -/
def recordData (s : State) (r : LogRec) : Nat :=
  match r.body with
  | .stripe id seg _ _ cls _ _ _ =>
    if !r.durable || cls == Cls.metadata then 0
    else match Tbl.get (poolOf s r.pool).segs seg with
      | some g => match g.hdrs.find? (fun h => h.id == id) with
        | some h => 4096 * h.count
        | none => 0
      | none => 0
  | _ => 0

/-- Data of a pool committed at or after a position of the ring. -/
def dataSince (s : State) (p cut : Nat) : Nat :=
  ((s.ilog.recs.filter (fun r => r.pool == p && decide (cut ≤ r.seq))).map (recordData s)).sum

/-- MAP_RECOVERY_WINDOW in bytes. -/
def windowBytes (s : State) (p : Nat) : Nat :=
  rdN s Obj.MAP_RECOVERY_WINDOW p * 2 ^ 30

/-- A checkpoint of a pool is requested (R160). -/
def requestCkpt (s : State) (p : Nat) : State :=
  modPool s p (fun x => { x with ckptAgain := true })

/-- Free ring space in percent, and its object. -/
def ringFree (s : State) : Nat :=
  100 * (ringWords - s.ilog.recs.length) / ringWords

/-- The position of a pool's oldest record still needed: the cut of its last complete checkpoint. -/
def oldestCut (s : State) : Option Nat :=
  leastBy (fun p => (poolOf s p).cutRec) ((List.range 8).filter (fun p => s.ilog.recs.any (fun r => r.pool == p)))

/-- Checkpoint requests and holds follow from the data since the cuts, the dirty leaves and the ring's free space (R153, R160, R162, R196). -/
def noteHolds (s : State) : State :=
  let a := forRange 8 (fun p t =>
    if !poolServes t p then t
    else
      let n := dataSince t p (poolOf t p).cutRec
      let u := wr t Obj.MAP_REPLAY_BYTES p (n : Nat)
      let v := if (poolOf u p).ckpt.isNone ∧ 2 * n ≥ windowBytes u p then requestCkpt u p else u
      if (poolOf v p).ckpt.isSome ∧ n ≥ windowBytes v p ∧ !(poolOf v p).mapHold then
        raiseOpen (bump (modPool v p (fun x => { x with mapHold := true })) Obj.MAP_WRITE_HOLDS p 1) (ev 0x03 162) .warn Src.pool p
      else v) s
  let pct := rdN a Obj.MAP_LEAVES_DIRTY_PCT 0
  let b := forRange 8 (fun p t =>
    let dirty := !(dirtyLeaves t p).isEmpty
    let u := if pct ≥ 75 ∧ dirty ∧ (poolOf t p).ckpt.isNone then requestCkpt t p else t
    if pct ≥ 90 ∧ dirty then modPool u p (fun x => { x with leafHold := true })
    else if pct < 75 then (if (poolOf u p).leafHold then modPool u p (fun x => { x with leafHold := false }) else u) else u) a
  let free := ringFree b
  let c := wr b Obj.ILOG_RING_FREE 0 (free : Nat)
  match oldestCut c with
  | none => c
  | some p =>
    let d := if free < 25 ∧ (poolOf c p).ckpt.isNone then requestCkpt c p else c
    if free < 10 ∧ !(poolOf d p).logHold then bump (modPool d p (fun x => { x with logHold := true })) Obj.ILOG_PRESSURE_HOLDS 0 1
    else if free > 25 then forRange 8 (fun q t => if (poolOf t q).logHold then modPool t q (fun x => { x with logHold := false }) else t) d
    else d

/-! ## Commit (step 15 of Table 01-6) -/

/-- A host-class sector's slot is COMMITTED, its command notes it, and its version names the stripe. -/
def commitSlot (s : State) (p id n : Nat) : State :=
  match slotOf s n with
  | none => s
  | some x =>
    let t := touchDesc (modSlot s n (fun y => { y with st := .committed, recAcked := !mirrors s p, restored := false })) n
    let u := match findCmd t x.qp x.tag with
      | some c => match c.wr[x.sector]? with
        | some (.mapped m) => if m = n then setWr t x.qp x.tag x.sector .committed else t
        | _ => t
      | none => t
    match verOf u x.md.vol x.md.lba with
    | some v => if v.wseq = x.md.wseq then setVer u x.md.vol x.md.lba { v with stripe := id } else u
    | none => u

/-- The ATOMIC record that covers a slot is durable (R159). -/
def atomicDurable (s : State) (x : Slot) : Bool :=
  s.ilog.recs.any (fun r => r.durable && r.pool == x.pool && (match r.body with
    | .atomic _ first _ => first == x.atomicRef
    | _ => false))

/-- Step 15 for one committed slot: the entry goes to the array if it still names the slot, and a reserved locked frame of a current sector is filled from it (R44, R156, R488). -/
def switchEntry (s : State) (n : Nat) : State :=
  match slotOf s n with
  | none => s
  | some x =>
    let t := switchSlot s n
    match verOf t x.md.vol x.md.lba with
    | some v => if v.wseq = x.md.wseq ∧ !x.md.badData then fillLocked t x.md.vol x.md.lba { x.md with stripeLow := x.stripe % 2 ^ 32 } x.data else t
    | none => t

/-- Step 15 as a stripe commits: the slots of an atomic write wait for its record (R158). -/
def commitEntry (s : State) (n : Nat) : State :=
  match slotOf s n with
  | none => s
  | some x => if x.atomicRef = 0 then switchEntry s n else s

/-- An atomic write whose stripes have all committed has its ATOMIC record written (R158). -/
def logAtomics (s : State) (p : Nat) : State :=
  forEach (poolOf s p).atomics (fun a t =>
    if a.logged ∨ !a.slots.all (fun n => match slotOf t n with
        | some x => x.st == .committed
        | none => true) then t
    else logRec (modPool t p (fun x => { x with atomics := x.atomics.map (fun b => if b.vol = a.vol ∧ b.first = a.first then { b with logged := true } else b) })) p (.atomic a.vol a.first a.count)) s

/-- Complete every WRITE that waits for commit and has nothing left to wait for (R40); an atomic one waits for its record too. -/
def completeCommitted (s : State) : State :=
  forEach s.qps (fun q t => forEach q.2.cmds (fun c u =>
    match findCmd u q.1 c.tag with
    | some d => if d.opcode = 2 ∧ d.phase = .running ∧ needsCommit u d ∧ allCommitted d ∧ !(poolOf u (cmdPool u d)).atomics.any (fun a => a.qp == q.1 && a.tag == d.tag && a.first == d.wseq)
                then completeWrite u q.1 d else u
    | none => u) t) s

/-- The sectors of one relocated grain as their stripe holds them: stream index and position. -/
def copySwitch (s : State) (p : Nat) (x : Stripe) (first : Nat) (l : List (Nat × Pos)) : State :=
  match l with
  | [] => s
  | (i, e) :: _ =>
    match e.src with
    | none => s
    | some src =>
      let key := grainKey s e.md.vol e.md.lba
      let k := (match Tbl.get (poolOf s p).segs x.seg with
        | some g => g.k
        | none => 1)
      let t := if entryOfGrain s key = src then
          let a := dirtyLeaf (setEntry s key (.array x.seg (first + i / k) (i % k))) key
          let b := forEach l (fun y u =>
            let m := y.2.md
            let old := verOf u m.vol m.lba
            let v := setVer u m.vol m.lba { verOfMeta m x.id with relocated := true }
            match old with
            | some o => if o.keyGen ≠ m.keyGen then staleSector v m.vol m.lba else v
            | none => v) a
          if x.cls = Cls.dredge then bump b Obj.DREDGE_SECTORS_COPIED p l.length else b
        else bump s (if x.cls = Cls.rebuild then Obj.REBUILD_DEAD_COPIES else Obj.DREDGE_DEAD_COPIES) p l.length
      copyEnded t p (srcSlot src)

/-- Relocated sectors of a stripe, grain by grain. -/
def copySwitches (s : State) (p : Nat) (x : Stripe) : State :=
  let l := ((List.range x.pos.length).zip x.pos).filter (fun e => e.2.src.isSome && e.2.page.isNone)
  forEach (l.filter (fun e => grainAt s e.2.md.vol e.2.md.lba == 0)) (fun e t =>
    copySwitch t p x x.first ((l.filter (fun y => decide (e.1 ≤ y.1 ∧ y.1 < e.1 + grainSize s e.2.md.vol))))) s

/-- The leaf key of a leaf page's address. -/
def leafOfAddr (a : Nat) : Nat :=
  bitsAt a 40 12 * 2 ^ 31 + a % 2 ^ 40

/-- The directory page that holds a leaf's entry. -/
def dirPageOf (key : Nat) : Nat :=
  pageAddress Page.directory (key / 2 ^ 31) (key % 2 ^ 31 / 512)

/-- A map page of a committed metadata stripe: a newly written page takes its place, a copied one only where the pointer still locates its source (R161, R169). -/
def pageSwitch (s : State) (p : Nat) (x : Stripe) (i : Nat) (e : Pos) : State :=
  match e.page with
  | none => s
  | some a =>
    let here := (x.seg, x.first + i)
    let moved (cur : Option (Nat × Nat)) : Bool := match e.src with
      | some (.array slot zs _) => cur != some (slot, zs)
      | _ => false
    let dredged (t : State) (src : Entry) : Bool := match Tbl.get (poolOf t p).segs (srcSlot src) with
      | some g => g.chosen
      | none => false
    let dead (t : State) : State := match e.src with
      | some src => copyEnded (bump t (if dredged t src then Obj.DREDGE_DEAD_COPIES else Obj.REBUILD_DEAD_COPIES) p 1) p (srcSlot src)
      | none => t
    let done (t : State) : State := match e.src with
      | some src => copyEnded (if dredged t src then bump t Obj.DREDGE_SECTORS_COPIED p 1 else t) p (srcSlot src)
      | none => t
    if a / 2 ^ 56 = Page.leaf then
      let key := leafOfAddr a
      let l := Tbl.getD s.map.leaves key Leaf.fresh
      if moved l.loc then dead s
      else
        let clean := e.src.isNone && e.data == leafPage s key
        let t := touchDir { s with map := { s.map with leaves := Tbl.set s.map.leaves key { l with loc := some here, dirty := l.dirty && !clean } } } key true
        noteLeaves (modPool (done t) p (fun y => { y with dirtyPages := addOnce y.dirtyPages (dirPageOf key) }))
    else if moved (Tbl.get (poolOf s p).pages a) then dead s
    else done (modPool s p (fun y => { y with pages := Tbl.set y.pages a here }))

/-- The map pages of a stripe. -/
def pageSwitches (s : State) (p : Nat) (x : Stripe) : State :=
  forEach ((List.range x.pos.length).zip x.pos) (fun e t => pageSwitch t p x e.1 e.2) s

/-- RESTORED_PENDING_BYTES of a pool. -/
def noteRestored (s : State) (p : Nat) : State :=
  wr s Obj.RESTORED_PENDING_BYTES p ((4096 * (s.prot.filter (fun e => e.2.restored && e.2.pool == p)).length : Nat) : Int)

/-- Release a FAILED member that holds no live sector any more: it becomes REMOVED, and with the last one REBUILDING ends (R247). -/
def checkRebuilt (s : State) (p : Nat) : State :=
  if rdN s Obj.REBUILD_STATE p ≠ 2 ∨ lostLive s p ≠ 0 then s
  else
    let l := slotsIn s p Ms.failed
    let t := forEach l (fun m u => releaseMember u p m) s
    let u := setCond (setCond (wr t Obj.REBUILD_STATE p 0) p Pc.rebuilding false) p Pc.degraded false
    if l.isEmpty then u else writeSuper u p

/-- The slots of a stripe's host-class sectors. -/
def stripeSlots (x : Stripe) : List Nat :=
  x.pos.filterMap Pos.slot

/-- A stripe's record is durable: it commits, and the map switches to it (steps 14 and 15). -/
def commitStripe (s : State) (p id : Nat) (x : Stripe) : State :=
  let a := countDev (endStripe s p id x false) (Dc.stripesCommitted + x.cluster) 1
  let b := forEach (stripeSlots x) (fun n t => commitSlot t p id n) a
  let c := forEach (stripeSlots x) (fun n t => commitEntry t n) b
  let d := pageSwitches (copySwitches c p x) p x
  let e := logAtomics (noteRestored (noteSlots (freeParity d p id)) p) p
  sealOn (checkRebuilt (tryDeallocs (completeCommitted e)) p) p x.seg

/-- An ATOMIC record is durable: the write's entries switch to the array in one step (R158). -/
def commitAtomic (s : State) (p vol first : Nat) : State :=
  match (poolOf s p).atomics.find? (fun a => a.vol == vol && a.first == first) with
  | none => s
  | some a =>
    let t := modPool s p (fun x => { x with atomics := x.atomics.filter (fun b => !(b.vol == vol && b.first == first)) })
    completeCommitted (forEach a.slots (fun n u => switchEntry u n) t)

/-! ## Freeing a segment (R172) -/

/-- The reset commands of a segment's columns: Zone Management Send reset on ZNS members, Deallocate on conventional ones; a member the pool no longer uses counts as reset. -/
def issueResets (s : State) (p slot : Nat) : State :=
  match Tbl.get (poolOf s p).segs slot with
  | none => s
  | some g =>
    if g.st ≠ 4 then s
    else
      let live := (List.range g.cols.length).filter (fun j => let m := mState s p (g.cols.getD j (64, 0)).1; onMember s p g j && (m == Ms.active || m == Ms.contained))
      let t := modSeg s p slot (fun x => { x with resets := live })
      freedRecord (forEach live (fun j u =>
        let e := g.cols.getD j (64, 0)
        issueTo u p e.1 (if rdN u Obj.DRIVE_KIND (mPort u p e.1) = 1 then .zoneReset e.2 else .deallocate e.2) (.zone p slot j)) t) p slot

/-- The segment-freed record is durable: the slot is FREE and its zones are free. -/
def freeSegment (s : State) (p slot : Nat) : State :=
  match Tbl.get (poolOf s p).segs slot with
  | none => s
  | some g =>
    if g.st ≠ 4 then s
    else sweptOne (noteLanes (bump (forEach (List.range g.cols.length) (fun j t => let e := g.cols.getD j (64, 0); if onMember s p g j then freeZone t p e.1 e.2 else t) (modPool s p (fun x => { x with segs := Tbl.erase x.segs slot }))) Obj.DREDGE_SEGMENTS_FREED p 1) p) p g.seq

/-- A READ resolved to the segment is still transferring from it (Table 04-9). -/
def segmentReaders (s : State) (p slot : Nat) : Bool :=
  s.drv.cmds.any (fun e => match e.2.purp with
    | .sector (.read ..) q _ _ sl _ _ => q == p && sl == slot
    | .sector (.verify ..) q _ _ sl _ _ => q == p && sl == slot
    | .sector (.widen ..) q _ _ sl _ _ => q == p && sl == slot
    | _ => false) || s.drv.jobs.any (fun e => e.2.pool == p && e.2.slot == slot)

/-- Live data sectors or pages of a segment slot (R168). -/
def liveCount (s : State) (p slot : Nat) : Nat :=
  match Tbl.get (poolOf s p).segs slot with
  | none => 0
  | some g =>
    if g.cls = Cls.metadata then (livePages s p slot).length else ((liveGrains s p slot).map (fun key => grainSize s (key / 2 ^ 40))).sum

/-- SEGMENT_RESET_START: a COPIED segment has been passed by a checkpoint and has no readers; its reset record is written (Table 04-9). -/
def execSegmentResetStart (p slot : Nat) (s : State) : Host.Outcome State Fault Refusal :=
  .next (match Tbl.get (poolOf s p).segs slot with
    | none => s
    | some g =>
      if g.st = 3 ∧ g.passBy ≤ rdN s Obj.MAP_CHECKPOINT_NUMBER p ∧ !segmentReaders s p slot ∧ liveCount s p slot = 0 ∧
          !(match (poolOf s p).reshape with
            | some r => r.moving == some slot
            | none => false) then
        logRec (modSeg s p slot (fun x => { x with st := 4, resets := List.range x.cols.length })) p (.segReset slot g.seq)
      else s)

/-- A column's reset has ended, well or not. -/
def zoneResetDone (s : State) (id : Nat) (ok : Bool) : State :=
  match outstanding s id with
  | none => s
  | some c => match c.purp with
    | .zone p slot j =>
      let t := modSeg (endCmd s id) p slot (fun x => { x with resets := x.resets.filter (fun i => i != j) })
      let m := match Tbl.get (poolOf s p).segs slot with
        | some g => (g.cols.getD j (64, 0)).1
        | none => 64
      freedRecord (if ok then t else memberFault t p m 7) p slot
    | _ => s

/-- ZONE_RESET_COMPLETE: a column's reset ends; a media or link error fails its member and counts as reset; after the last the segment-freed record is written (R172). -/
def execZoneResetComplete (id : Nat) (ok : Bool) (s : State) : Host.Outcome State Fault Refusal :=
  .next (zoneResetDone s id ok)

/-! ## Records -/

/-- A pool's replay range, from its last cut to the head, includes an unreadable word, or its cut cannot be read from the state block (R214). -/
def replayUnread (s : State) (p : Nat) : Bool :=
  s.ilog.unread.contains p || s.ilog.bad.any (fun q => decide ((poolOf s p).cutRec ≤ q))

/-- The spare words have run out (R198). -/
def sparesOut (s : State) : Bool :=
  decide (rdN s Obj.ILOG_RETIRED_WORDS 0 ≥ 2048)

/-- ILOG_STATE (R198). -/
def noteIlog (s : State) : State :=
  let lost := (List.range 8).any (fun p => poolState s p != 0 && replayUnread s p)
  wr s Obj.ILOG_STATE 0 (if lost || sparesOut s then 3 else if rdN s Obj.ILOG_LIFE_USED 0 ≥ 100 then 2 else if rdN s Obj.ILOG_RETIRED_WORDS 0 ≥ 1024 then 1 else 0)

/-- Retire a word whose read-back has failed twice (R198). -/
def retireWord (s : State) : State :=
  noteIlog (bump s Obj.ILOG_RETIRED_WORDS 0 1)

/-- The actions that a record's durability lets proceed (R191). -/
def onDurable (s : State) (r : LogRec) : State :=
  if r.copy then s
  else match r.body with
  | .stripe id .. => match stripeOf s r.pool id with
    | some x => if x.logged then commitStripe s r.pool id x else s
    | none => s
  | .atomic vol first _ => commitAtomic s r.pool vol first
  | .segReset slot _ => issueResets s r.pool slot
  | .segFreed slot => freeSegment s r.pool slot
  | .floor k b => noteFloor s k r.pool b
  | _ => s

/-- A record stands in the log: its word's ECC corrections and retirement are counted, and a mirrored pool's record goes to the partner (R191, R195, R198). -/
def recordKept (s : State) (r : LogRec) (fails : Nat) (corrected : Bool) : State :=
  let t0 := if corrected then bump s Obj.ILOG_ECC_CORRECTED 0 1 else s
  let t := if fails ≥ 2 then retireWord t0 else t0
  let u := { t with ilog := { t.ilog with recs := t.ilog.recs.map (fun x => if x.seq = r.seq then { x with durable := true } else x) } }
  if r.pool < 8 then sendRecord u { r with durable := true } else u

/-- A column write has completed; after the stripe's last one its STRIPE record is written (R145). -/
def columnDone (s : State) (id : Nat) : State :=
  match outstanding s id with
  | none => s
  | some c => match c.purp with
    | .column p st j =>
      let t := modStripe (endCmd s id) p st (fun x => { x with colsLeft := x.colsLeft.filter (fun i => i != j) })
      match stripeOf t p st with
      | some x =>
        if x.gone then sealGone t p x.seg
        else if x.issued ∧ x.colsLeft.isEmpty ∧ !x.logged then
          let h := hdrOf t x false
          logRec (modStripe t p st (fun y => { y with logged := true })) p (.stripe st x.seg x.first x.height x.cls h.flags h.fws h.lws)
        else t
      | none => t
    | _ => s

/-- COLUMN_WRITE_COMPLETE: a column write completes (R145). -/
def execColumnWriteComplete (id : Nat) (s : State) : Host.Outcome State Fault Refusal :=
  .next (columnDone s id)

/-- The map, or a write that has not reached step 7, still needs a slot. -/
def slotNamed (s : State) (n : Nat) (x : Slot) : Bool :=
  (match entryOfGrain s (grainKey s x.md.vol x.md.lba) with
    | .prot m => (match grainSlot s m (grainAt s x.md.vol x.md.lba) with
      | some (i, _) => i == n
      | none => m == n)
    | _ => false) ||
  s.qps.any (fun q => q.2.cmds.any (fun c => c.wr.any (fun w => w == .landed n)))

/-- A stripe's digest, where one was sent, is resolved (R412, R430). -/
def digestSettled (s : State) (x : Slot) : Bool :=
  match Tbl.get s.pair.digests (digestKey x.pool x.stripe) with
  | some d => d.done
  | none => true

/-- SLOT_RELEASE: a COMMITTED slot that the map no longer names, with no reader, its record acknowledged and its digest resolved, is returned, and the partner releases its copy (R41, R195, R412). -/
def execSlotRelease (n : Nat) (s : State) : Host.Outcome State Fault Refusal :=
  .next (match slotOf s n with
    | none => s
    | some x =>
      if n < ownSlots ∧ x.st = .committed ∧ !slotNamed s n x ∧ !slotReaders s n ∧ x.recAcked ∧ digestSettled s x ∧ (x.atomicRef = 0 ∨ atomicDurable s x) then
        let t := releaseSlot s n
        if mirrors s x.pool then sendMsg t (.mirrorRelease [n]) else t
      else s)

/-- ILOG_WEAR_ROTATE: after 64 record writes into the block ahead of the spare block, that block's content moves into the spare block and its place is the spare one; after a turn through the memory the mapping has shifted by one block (R197). The wear and, at 100%, WORN follow (R198). -/
def execIlogWearRotate (s : State) : Host.Outcome State Fault Refusal :=
  .next (
    if s.ilog.ahead < 64 then s
    else
      let g := s.ilog
      let t := { s with ilog := { g with ahead := 0, spare := aheadBlock g, turns := if g.spare = 0 then (g.turns + 1) % 32768 else g.turns } }
      let life := sat 255 (100 * rdN t Obj.ILOG_RECORDS_WRITTEN 0 / (2097152 * 1000000000))
      let u := wr t Obj.ILOG_LIFE_USED 0 (life : Nat)
      let v := noteIlog u
      if life ≥ 100 ∧ rdN s Obj.ILOG_LIFE_USED 0 < 100 then raiseOpen v (ev 0x04 198) .alarm Src.intentLog 0 else v)

/-! ## Checkpoints (R160, R161) -/

/-- A record that keeps the cut before it: one that is not durable, or whose effect on the map has not been made, as with a DEALLOCATE, and the STRIPE record of a stripe that holds sectors of an atomic write whose ATOMIC record is not durable (R161). -/
def holdsCut (waiting : List Nat) (r : LogRec) : Bool :=
  !r.durable || (match r.body with
    | .stripe id .. => waiting.contains id
    | .dealloc _ _ _ _ a _ => a != 0
    | _ => false)

/-- The cut: the position of the first record that holds it, else the head of the ring (R161). Every record before it has dirtied its leaves. -/
def cutPosition (s : State) (p : Nat) : Nat :=
  let waiting := (s.prot.filter (fun e => decide (e.1 < ownSlots) && e.2.pool == p && e.2.atomicRef != 0 && (e.2.st == .committed || e.2.st == .dirty) && !atomicDurable s e.2)).map (fun e => e.2.stripe)
  ((s.ilog.recs.filter (fun r => r.pool == p && holdsCut waiting r)).map LogRec.seq).foldl min s.ilog.nextSeq

/-- CUT_STRIPE_ID: the lowest STRIPE_ID not committed at the cut, or the next to be assigned. -/
def cutStripe (s : State) (p cut : Nat) : Nat :=
  let after := s.ilog.recs.filterMap (fun r => if r.pool = p ∧ cut ≤ r.seq then (match r.body with
    | .stripe id .. => some id
    | _ => none) else none)
  (((poolOf s p).stripes.map Prod.fst) ++ after).foldl min (poolOf s p).nextStripe

/-- Step 1: the cut. -/
def startCkpt (s : State) (p : Nat) : State :=
  let cut := cutPosition s p
  modPool s p (fun x => { x with ckptAgain := false, ckpt := some { number := rdN s Obj.MAP_CHECKPOINT_NUMBER p + 1, step := 1, cutRec := cut, cutStripe := cutStripe s p cut
                                                                    seqHigh := s.sluice.wseq - 1, leaves := dirtyLeaves s p, roots := []
                                                                    cursor := if (poolOf s p).reshape.isSome then rdN s Obj.RESHAPE_CURSOR p else 0 } })

/-- Metadata stripes of a pool that have not committed, or metadata pages that wait for a lane. -/
def metaBusy (s : State) (p : Nat) : Bool :=
  (poolOf s p).stripes.any (fun e => e.2.cls == Cls.metadata) || (poolOf s p).staged.any (fun e => e.1 == Cls.metadata)

/-- The columns of a segment slot. -/
def segCols (s : State) (p slot : Nat) : List (Nat × Nat) :=
  match Tbl.get (poolOf s p).segs slot with
  | some g => g.cols
  | none => []

/-- A directory page: 512 entries that locate leaves (R150). -/
def dirPage (s : State) (a : Nat) : Bytes :=
  let base := bitsAt a 40 12 * 2 ^ 31 + a % 2 ^ 40 * 512
  leafBytes ((List.range 512).map (fun i => match Tbl.get s.map.leaves (base + i) with
    | some l => (match l.loc with
      | some (slot, zs) => .array slot zs 0
      | none => .unmapped)
    | none => .unmapped))

/-- A segment directory page: eight slots. -/
def segDirPage (s : State) (p a : Nat) : Bytes :=
  (List.range 8).flatMap (fun i => let slot := a % 2 ^ 40 * 8 + i; segDirBytes (Tbl.get (poolOf s p).segs slot) (liveCount s p slot))

/-- The segment directory pages of a pool: those of slots in use, and those written before. -/
def segDirPages (s : State) (p : Nat) : List Nat :=
  let used := (poolOf s p).segs.map (fun e => pageAddress Page.segDir 0 (e.1 / 8))
  let old := ((poolOf s p).pages.map Prod.fst).filter (fun a => a / 2 ^ 56 == Page.segDir)
  (used ++ old).foldl addOnce []

/-- The pages that the root chain lists. -/
def listed (s : State) (p : Nat) : List (Nat × (Nat × Nat)) :=
  (poolOf s p).pages.filter (fun e => e.1 / 2 ^ 56 == Page.directory || e.1 / 2 ^ 56 == Page.segDir)

/-- Root page `n`: 255 triple pointers and the pointer to the next page. -/
def rootPage (s : State) (p n : Nat) : Bytes :=
  let l := (listed s p).drop (255 * n) |>.take 255
  let next := match Tbl.get (poolOf s p).pages (pageAddress Page.root 0 (n + 1)) with
    | some (slot, zs) => if (listed s p).length > 255 * (n + 1) then triple (segCols s p slot) zs else zeros 16
    | none => zeros 16
  padTo 4080 (l.flatMap (fun e => triple (segCols s p e.2.1) e.2.2)) ++ next

/-- Pages of the root chain. -/
def rootCount (s : State) (p : Nat) : Nat :=
  max 1 (((listed s p).length + 254) / 255)

/-- Write the last root page not yet written; each names the one after it. -/
def writeRoot (s : State) (p : Nat) (k : Ckpt) : State :=
  match k.roots.getLast? with
  | none => s
  | some n => writePage (modPool s p (fun x => { x with ckpt := some { k with roots := k.roots.dropLast } })) p (pageAddress Page.root 0 n) (rootPage s p n)

/-- The checkpoint page's triple pointer. -/
def ckptPtr (s : State) (p : Nat) : Bytes :=
  match Tbl.get (poolOf s p).pages (pageAddress Page.checkpoint 0 0) with
  | some (slot, zs) => triple (segCols s p slot) zs
  | none => zeros 16

/-- The checkpoint page (Table 04-6). -/
def ckptPage (s : State) (p : Nat) (k : Ckpt) : Bytes :=
  let root := match Tbl.get (poolOf s p).pages (pageAddress Page.root 0 0) with
    | some (slot, zs) => triple (segCols s p slot) zs
    | none => zeros 16
  checkpointBytes (rdBytes s Obj.POOL_UUID p) k.number k.cutStripe k.seqHigh k.cursor root (rootCount s p)

/-- Write the leaves of step 2, as many as have write sequences below a durable floor (R194). -/
def writeLeaves (s : State) (p : Nat) (k : Ckpt) : State :=
  let n := floorOf s Fl.wseq 0 - s.sluice.wseq
  forEach (k.leaves.take n) (fun key u => writePage u p (leafAddr key) (leafPage u key)) (modPool s p (fun x => { x with ckpt := some { k with leaves := k.leaves.drop n } }))

/-- The pages of step 3. -/
def stepPages (s : State) (p : Nat) : Nat :=
  (poolOf s p).dirtyPages.length + (segDirPages s p).length

/-- Begin a step of a checkpoint. -/
def beginStep (s : State) (p : Nat) (k : Ckpt) (n : Nat) : State :=
  let t := modPool s p (fun x => { x with ckpt := some { k with step := n } })
  if n = 2 then writeLeaves t p { k with step := n }
  else if n = 3 then
    let l := (poolOf t p).dirtyPages
    let u := forEach l (fun a v => writePage v p a (dirPage v a)) (modPool t p (fun x => { x with dirtyPages := [] }))
    forEach (segDirPages u p) (fun a v => writePage v p a (segDirPage v p a)) u
  else if n = 4 then writeRoot t p { k with step := n, roots := List.range (rootCount t p) }
  else if n = 5 then writePage t p (pageAddress Page.checkpoint 0 0) (ckptPage t p k)
  else logRec t p (.checkpoint k.number (ckptPtr t p))

/-- A later durable record supersedes this one, or is its copy, so that it need not stay in force (R196). -/
def superseded (l : List LogRec) (r : LogRec) : Bool :=
  l.any (fun x => decide (r.seq < x.seq) && x.durable && x.pool == r.pool && (x.body == r.body || match r.body, x.body with
    | .floor k _, .floor j _ => k == j
    | .reshape _, .reshape _ => true
    | .member a _, .member b _ => a == b
    | .progress _ v _ _, .progress _ w _ _ => v == w
    | .segReset a _, .segFreed b => a == b
    | .lost v a n true, .lost w b m false => v == w && decide (b ≤ a ∧ a + n ≤ b + m)
    | _, _ => false))

/-- A record of before the cut that is kept (R196). -/
def stays (l : List LogRec) (r : LogRec) : Bool :=
  (match r.body with
    | .reshape _ => true
    | .lost _ _ _ e => e
    | .member .. => true
    | .progress .. => true
    | .floor .. => true
    | .segReset .. => true
    | _ => false) && !superseded l r

/-- Discard a pool's records from before a cut. Those in force are copied forward to the head, and each stays until its copy is durable (R196). -/
def discardRecords (s : State) (p cut : Nat) : State :=
  let old (r : LogRec) : Bool := r.pool == p && decide (r.seq < cut) && r.durable
  let kept := s.ilog.recs.filter (fun r => old r && stays s.ilog.recs r)
  let fresh := kept.filter (fun r => !s.ilog.recs.any (fun x => decide (r.seq < x.seq) && !x.durable && x.copy && x.pool == p && x.body == r.body))
  forEach fresh (fun r t => appendRec t p r.body true) { s with ilog := { s.ilog with recs := s.ilog.recs.filter (fun r => !old r || kept.contains r) } }

/-- Release the ids of deleted volumes: a superblock generation with their records cleared, and VOLUME_STATE ABSENT (R126). -/
def releaseVols (s : State) (p : Nat) (l : List Nat) : State :=
  if l.isEmpty then s
  else writeSuper (forEach l (fun v t =>
    let u := clrAll t [Obj.VOLUME_STATE, Obj.VOLUME_POOL, Obj.VOLUME_CAPACITY, Obj.VOLUME_GRAIN, Obj.VOLUME_KEY_SLOT, Obj.VOLUME_TAGGED] v
    if (opOf u v).isSome then { u with vols := Tbl.modify u.vols v (fun x => { x with heldFor := 0, deleting := false }) } else { u with vols := Tbl.erase u.vols v }) s) p

/-- Release the ids of a pool's deleted volumes whose VOLUME record lies before a cut (R126). -/
def releaseIds (s : State) (p cut : Nat) : State :=
  releaseVols s p ((s.vols.filter (fun e => rdN s Obj.VOLUME_STATE e.1 == 3 && rdN s Obj.VOLUME_POOL e.1 == p && decide (e.2.heldFor ≤ cut))).map Prod.fst)

/-- A checkpoint is complete: its cut is in force and in the state block, earlier records go, ids are released, holds end, and a requested one follows (R160 to R162, R190, R196). -/
def endCkpt (s : State) (p : Nat) (k : Ckpt) : State :=
  let a := wr (wr s Obj.MAP_CHECKPOINT_NUMBER p (k.number : Nat)) Obj.MAP_CUT_STRIPE_ID p (k.cutStripe : Nat)
  let n := rootCount a p
  let b := modPool a p (fun x => { x with ckpt := none, cutRec := k.cutRec, mapHold := false, logless := false
                                          pages := x.pages.filter (fun e => e.1 / 2 ^ 56 != Page.root || decide (e.1 % 2 ^ 40 < n)) })
  let d := { b with ilog := { b.ilog with unread := b.ilog.unread.filter (fun q => q != p), bad := b.ilog.bad.filter (fun q => (List.range 8).any (fun i => poolState b i != 0 && decide ((poolOf b i).cutRec ≤ q))) } }
  let c := noteHolds (noteSweep (releaseIds (discardRecords (noteIlog d) p k.cutRec) p k.cutRec) p)
  if (poolOf s p).ckptAgain then startCkpt c p else c

/-- The number of the first checkpoint that starts from now on. -/
def nextCkpt (s : State) (p : Nat) : Nat :=
  rdN s Obj.MAP_CHECKPOINT_NUMBER p + (if (poolOf s p).ckpt.isSome then 2 else 1)

/-- CHECKPOINT_START: a requested checkpoint starts and notes its cut (R160, R161). One runs at a time. -/
def execCheckpointStart (p : Nat) (s : State) : Host.Outcome State Fault Refusal :=
  .next (if p < 8 ∧ poolServes s p ∧ (poolOf s p).ckptAgain ∧ (poolOf s p).ckpt.isNone then startCkpt s p else s)

/-- The CHECKPOINT record of a pool's checkpoint. -/
def ckptRecord (p number : Nat) (r : LogRec) : Bool :=
  r.pool == p && (match r.body with
    | .checkpoint n _ => n == number
    | _ => false)

/-- CHECKPOINT_STEP_DONE: the running step's pages have committed, or its record is durable and mirrored, and the next step begins (Table 04-7). Pages wait for their write sequences (R194). -/
def execCheckpointStepDone (p : Nat) (s : State) : Host.Outcome State Fault Refusal :=
  .next (match (poolOf s p).ckpt with
    | none => s
    | some k =>
      if k.step = 6 then
        (if s.ilog.recs.any (fun r => r.durable && ckptRecord p k.number r) && !s.pair.recWait.any (fun e => ckptRecord p k.number e.2) then endCkpt s p k else s)
      else if metaBusy s p ∨ !wseqReady s (if k.step = 2 then min 524288 (stepPages s p) else 1) then s
      else if k.step = 2 ∧ !k.leaves.isEmpty then writeLeaves s p k
      else if k.step = 4 ∧ !k.roots.isEmpty then writeRoot s p k
      else beginStep s p k (k.step + 1))

/-- MAP_CHECKPOINT_NOW: a write of the object requests a checkpoint (R160). -/
def execMapCheckpointNow (p : Nat) (s : State) : Host.Outcome State Fault Refusal :=
  .next (if p < 8 ∧ poolServes s p then requestCkpt s p else s)

/-- DEALLOCATE_COMPLETION: the deallocate record is durable; its grains become UNMAPPED and the command completes (R157, R323); a checkpoint or hold that its dirty leaves call for begins (R153). -/
def execDeallocateCompletion (q tag : Nat) (s : State) : Host.Outcome State Fault Refusal :=
  .next (match findCmd s q tag, deallocRec s q tag with
    | some c, some r =>
      if c.opcode = 4 ∧ c.phase = .running ∧ r.durable then
        noteHolds (finish (applyDealloc { s with ilog := { s.ilog with recs := s.ilog.recs.map (fun x => if x.seq = r.seq then { x with body := .dealloc c.volume c.slba c.nlb c.wseq 0 0 } else x) } }
          (cmdPool s c) c.volume c.slba c.nlb c.wseq) q c St.success 0)
      else s
    | _, _ => s)

end Sys2Proof.Machine
end

