-- ==== Sys2Proof/Machine/Dredge.lean ====
section
/-! DEFINITION. The Dredger's choice of a segment and its copies (R166 to R169, R245, R246, R258, R264), and the advance and end of a reshape (R261, R263). -/

namespace Sys2Proof.Machine

open Sys2Proof

/-! ## Erasures and reduced segments (R237, R245) -/

/-- Columns of a segment on FAILED and REMOVED members. -/
def goneCount (s : State) (p : Nat) (g : Seg) : Nat :=
  (failedCols s p g).length

/-- A segment keeps a column on a REMOVED member, or on one whose slot another drive has taken since (R245). -/
def isReduced (s : State) (p : Nat) (g : Seg) : Bool :=
  (List.range g.cols.length).any (fun j => let m := mState s p (g.cols.getD j (64, 0)).1; m == Ms.removed || m == Ms.none || !onMember s p g j)

/-- Erasures that the segment's remaining sectors still tolerate. -/
def tolerance (s : State) (p : Nat) (g : Seg) : Nat :=
  g.f - goneCount s p g

/-- Segments of a pool whose erased-column count is at or above their tolerance and that rebuild has work in (Table 06-4, row 1). -/
def atRisk (s : State) (p : Nat) : List Nat :=
  ((poolOf s p).segs.filter (fun e => !(failedCols s p e.2).isEmpty && decide (goneCount s p e.2 ≥ e.2.f))).map Prod.fst

/-- The reduced segments of a pool. -/
def reducedSegs (s : State) (p : Nat) : List (Nat × Seg) :=
  (poolOf s p).segs.filter (fun e => isReduced s p e.2)

/-! ## Reshape migration (R258, R261) -/

/-- Zones in use on a member. -/
def usedZones (s : State) (p m : Nat) : Nat :=
  (Tbl.getD (poolOf s p).zones m []).length

/-- Some ACTIVE member's share of used zones differs from the pool average by more than REBALANCE_TOLERANCE percentage points. -/
def unbalanced (s : State) (p : Nat) : Bool :=
  let l := slotsIn s p Ms.active
  let total := (l.map (usedZones s p)).sum
  let n := l.length
  l.any (fun m => decide (100 * (n * usedZones s p m - total) > rdN s Obj.REBALANCE_TOLERANCE p * (poolOf s p).zm * n) ||
    decide (100 * (total - n * usedZones s p m) > rdN s Obj.REBALANCE_TOLERANCE p * (poolOf s p).zm * n))

/-- Columns of a segment on members that use more zones than the pool average. -/
def fullCols (s : State) (p : Nat) (g : Seg) : Nat :=
  let l := slotsIn s p Ms.active
  let total := (l.map (usedZones s p)).sum
  (g.cols.filter (fun c => decide (l.length * usedZones s p c.1 > total))).length

/-- Segments below the reshape cursor. -/
def oldSegs (s : State) (p : Nat) : List (Nat × Seg) :=
  (poolOf s p).segs.filter (fun e => decide (e.2.seq < rdN s Obj.RESHAPE_CURSOR p))

/-- Old segments that the reshape has to migrate: those with live data for CODE, those with a column on the leaving member for REMOVE, and for ADD every old one while some member is out of tolerance. -/
def toMigrate (s : State) (p : Nat) (r : Reshape) : List (Nat × Seg) :=
  let l := (oldSegs s p).filter (fun e => decide (e.2.st ≤ 2))
  if r.kind = 1 then l.filter (fun e => e.2.cls != Cls.metadata && !(liveGrains s p e.1).isEmpty)
  else if r.kind = 2 then l.filter (fun e => e.2.cols.any (fun c => c.1 == r.leaving))
  else if unbalanced s p then l else []

/-- A segment the Dredger may choose: SEALED and not chosen. -/
def selectable (g : Seg) : Bool :=
  g.st == 2 && !g.chosen

/-- The segment a reshape moves next: the highest for CODE and REMOVE, the one with most columns on the most-used members for ADD; none while one is moving, while rebuild of segments at zero tolerance runs (R264), or while that segment is not yet SEALED. -/
def reshapeNext (s : State) (p : Nat) : Option Nat :=
  match (poolOf s p).reshape with
  | none => none
  | some r =>
    if r.moving.isSome || (rdN s Obj.REBUILD_STATE p == 2 && !(atRisk s p).isEmpty) then none
    else
      let l := toMigrate s p r
      let pick := if r.kind = 3 then leastBy (fun e => 64 - fullCols s p e.2) (l.filter (fun e => selectable e.2))
                  else leastBy (fun e => rdN s Obj.RESHAPE_CURSOR p - e.2.seq) l
      match pick with
      | some e => if selectable e.2 then some e.1 else none
      | none => none

/-! ## Selection (R167) -/

/-- A segment holds a live sector under a generation that is not its key slot's current one. -/
def staleKeys (s : State) (p slot : Nat) : Bool :=
  (liveGrains s p slot).any (fun key =>
    let v := key / 2 ^ 40
    let f := key % 2 ^ 40 * grainSize s v
    (List.range (grainSize s v)).any (fun j => match verOf s v (f + j) with
      | some x => x.encrypted && x.keyGen != rdN s Obj.KEY_GEN_CURRENT x.keySlot
      | none => false))

/-- Pages that the stripes of a segment hold. -/
def pagesIn (g : Seg) : Nat :=
  (g.hdrs.map StripeHdr.count).sum

/-- Items 1 of R167: reshape and rebalance, the segments below a SANITIZE boundary, then reduced segments in ascending order of remaining tolerance. -/
def selectFirst (s : State) (p : Nat) : Option Nat :=
  match reshapeNext s p with
  | some x => some x
  | none =>
    let l := (poolOf s p).segs.filter (fun e => selectable e.2)
    let swept := match (poolOf s p).sweep with
      | some b => leastBy (fun (e : Nat × Seg) => e.2.seq) (l.filter (fun e => decide (e.2.seq < b)))
      | none => none
    match swept with
    | some e => some e.1
    | none => (leastBy (fun (e : Nat × Seg) => tolerance s p e.2 * 2 ^ 64 + e.2.seq) (l.filter (fun e => isReduced s p e.2))).map Prod.fst

/-- Items 2 and 3 of R167. -/
def selectNext (s : State) (p : Nat) : Option Nat :=
  let l := (poolOf s p).segs.filter (fun e => selectable e.2)
  let stale := if rdN s Obj.FREE_ZONE_PERCENT p ≥ rdN s Obj.DREDGE_FLOOR p ∧ !poolCond s p Pc.locked then l.find? (fun e => staleKeys s p e.1) else none
  match stale with
  | some e => some e.1
  | none => (l.find? (fun e => e.2.cls == Cls.metadata && decide (2 * (livePages s p e.1).length < pagesIn e.2))).map Prod.fst

/-- Item 4 of R167: the lowest ratio of live sectors to data capacity, then the lowest SEG_SEQ. -/
def selectLast (s : State) (p : Nat) : Option Nat :=
  (leastBy (fun e => liveCount s p e.1 * 2 ^ 40 / (e.2.k * (e.2.sectors - 2)) * 2 ^ 64 + e.2.seq) ((poolOf s p).segs.filter (fun e => selectable e.2))).map Prod.fst

/-- The Dredger's state and what it chooses (Table 04-8). -/
def dredgeChoice (s : State) (p : Nat) : Nat × Option Nat :=
  let free := rdN s Obj.FREE_ZONE_PERCENT p
  let urgent := decide (free < rdN s Obj.DREDGE_FLOOR p)
  let first := match selectFirst s p with
    | some x => some x
    | none => selectNext s p
  if !urgent && !rdB s Obj.DREDGE_ENABLE p then (3, none)
  else if urgent then (2, match first with
    | some x => some x
    | none => selectLast s p)
  else if first.isSome then (1, first)
  else if free < rdN s Obj.DREDGE_START p then (1, selectLast s p)
  else (0, none)

/-- Read a live map page from the first readable copy after column `j`, for a copy of it; with none left the pool has FAILED (R254). -/
def fetchPageCopy (s : State) (p slot addr zs j : Nat) : State :=
  match Tbl.get (poolOf s p).segs slot with
  | none => s
  | some g => match ((List.range g.cols.length).filter (fun i => decide (j ≤ i) && !(erasedCols s p g).contains i)).head? with
    | some i => let c := g.cols.getD i (0, 0); issueTo s p c.1 (.read c.2 zs 1) (.sector (.page slot addr) p 0 addr slot zs i)
    | none => setCond s p Pc.failed true

/-- Start copying a chosen segment's live sectors; with none live it is COPIED at once. -/
def dredgeSegment (s : State) (p slot : Nat) : State :=
  match Tbl.get (poolOf s p).segs slot with
  | none => s
  | some g =>
    let grains := if g.cls = Cls.metadata then [] else liveGrains s p slot
    let pages := if g.cls = Cls.metadata then livePages s p slot else []
    let n := grains.length + pages.length
    let t := modSeg s p slot (fun x => { x with chosen := true, copies := max 1 n })
    if n = 0 then copyEnded t p slot
    else forEach pages (fun e u => fetchPageCopy u p slot e.1 e.2 0) (forEach grains (fun key u => startCopy u p key Cls.dredge (.dredge slot) none) t)

/-- Bring the Dredger's state up to date; URGENT begins and ends with DREDGE_PACING and a WARN event (Table 04-8). -/
def noteDredger (s : State) (p : Nat) : State :=
  let t := noteUrgent s p
  wr t Obj.DREDGE_STATE p ((dredgeChoice t p).1 : Nat)

/-- DREDGE_SELECT: the Dredger's state is brought up to date, and it chooses a segment and starts copying (R166, R167). -/
def execDredgeSelect (p : Nat) (s : State) : Host.Outcome State Fault Refusal :=
  .next (
    if p < 8 ∧ poolServes s p ∧ !rdB s Obj.MODULE_IDLE 0 ∧ rdN s Obj.EPOCH_STATE 0 = 0 then
      let t := noteDredger s p
      let c := dredgeChoice s p
      match c.2 with
      | none => t
      | some slot =>
        let u := if reshapeNext s p = some slot then modPool t p (fun x => { x with reshape := x.reshape.map (fun r => { r with moving := some slot }) }) else t
        dredgeSegment u p slot
    else s)

/-! ## The cursor (R261, R263) -/

/-- A leaving member is drained and leaves the pool. -/
def removeMember (s : State) (p m : Nat) : State :=
  releaseMember (modPool s p (fun x => { x with draining := x.draining.filter (fun y => y != m) })) p m

/-- The reshape ends: superblock with RESHAPE_ACTIVE clear and cursor zero; a leaving member becomes REMOVED. -/
def endReshape (s : State) (p : Nat) (r : Reshape) : State :=
  let a := wr (wr (wr s Obj.RESHAPE_KIND p 0) Obj.RESHAPE_CURSOR p 0) Obj.RESHAPE_RESULT p 2
  let b := setCond (modPool a p (fun x => { x with reshape := none, custom := if rdN a Obj.POOL_CODE_TABLE p ≥ 0x10 then x.custom else none })) p Pc.reshaping false
  let c := if r.kind = 2 then wr (removeMember b p r.leaving) Obj.MEMBER_ACTION_RESULT (mInst p r.leaving) (Mr.done : Nat) else b
  writeSuper (logRec c p (.reshape 0)) p

/-- The cursor after a segment has been migrated: its SEG_SEQ; under kind ADD, which migrates out of order, one above the highest old segment left. -/
def cursorAfter (s : State) (p : Nat) (r : Reshape) (g : Seg) : Nat :=
  if r.kind = 3 then ((((oldSegs s p).filter (fun e => e.2.seq != g.seq && decide (e.2.st ≤ 2))).map (fun e => e.2.seq + 1)).foldl max 0) else g.seq

/-- RESHAPE_CURSOR_ADVANCE: the migrated segment's copies have been passed by a checkpoint; a RESHAPE record advances the cursor, and with nothing left to migrate the reshape ends. -/
def execReshapeCursorAdvance (p : Nat) (s : State) : Host.Outcome State Fault Refusal :=
  .next (match (poolOf s p).reshape with
    | none => s
    | some r =>
      let finish (t : State) (x : Reshape) : State := if (toMigrate t p x).isEmpty then endReshape t p x else t
      match r.moving with
      | none => finish s r
      | some slot =>
        match Tbl.get (poolOf s p).segs slot with
        | none => finish (modPool s p (fun x => { x with reshape := some { r with moving := none } })) r
        | some g =>
          if g.st = 3 ∧ g.passBy ≤ rdN s Obj.MAP_CHECKPOINT_NUMBER p then
            let c := cursorAfter s p r g
            finish (modPool (wr (logRec s p (.reshape c)) Obj.RESHAPE_CURSOR p (c : Nat)) p (fun x => { x with reshape := some { r with moving := none } })) { r with moving := none }
          else s)

end Sys2Proof.Machine
end

