-- ==== Sys2Proof/Machine/MemberReads.lean ====
section
/-! DEFINITION. What becomes of a member read: the checks of R233, repair (R234), decodes and their search (R231, R235), and leaf reads (R152). -/

namespace Sys2Proof.Machine

open Sys2Proof

/-- The member slot of a column of a segment slot. -/
def colMember (s : State) (p slot col : Nat) : Nat :=
  match Tbl.get (poolOf s p).segs slot with
  | some g => (g.cols.getD col (64, 0)).1
  | none => 64

/-- A member has returned a media error: it is counted, and at the limit the member fails (R223, R224). -/
def mediaFault (s : State) (p m : Nat) : State :=
  let t := mediaError s p m
  if mediaLimit t p m then memberFault t p m 4 else t

/-- The checks of a copy of a map page: guard, kind and page identity; reserved bits of LOGICAL_ADDRESS are ignored (R11, R233, Table 04-3). -/
def pageCheck (addr : Nat) (b : Bytes) : Check :=
  let m := slice b 4096 64
  let a := fieldAt m 24 8
  if fieldAt m 16 8 != crc64 (payloadOf b) then .guard
  else if bitsAt a 56 4 == bitsAt addr 56 4 && bitsAt a 0 52 == bitsAt addr 0 52 && (metaOf b).kind == Kind.mapPage then .pass
  else .address

/-- A copy of a map page passes its checks. -/
def pageOk (addr : Nat) (b : Bytes) : Bool :=
  pageCheck addr b == .pass

/-- Count a sector that fails R233 (step 1 of R234). -/
def countFail (s : State) (p : Nat) (x : Check) : State :=
  bump s (if x = .address then Obj.INTEGRITY_ADDRESS_FAILS else Obj.INTEGRITY_GUARD_FAILS) p 1

/-- A map page copy that failed is made good: counted with a WARN event as the good copy is relocated (steps 4 and 5 of R234). -/
def pageRepaired (s : State) (p slot col : Nat) : State :=
  raise (bump s Obj.INTEGRITY_REPAIRED p 1) (ev 0x05 234) .warn Src.member (mInst p (colMember s p slot col)) 0

/-- A read that returns a poisoned completion: on a port in CONTAINMENT mode the port freezes (R388); the sector is treated as failing its checks. -/
def poisoned (s : State) (p m : Nat) : State :=
  if rdN s Obj.DPORT_MODE (mPort s p m) = 1 then freezePort s (mPort s p m) 0x11 else mediaFault s p m

/-- The live data sector at a place: volume and LBA. -/
def sectorAt (s : State) (p slot zs col : Nat) : Option (Nat × Nat) :=
  match Tbl.get (poolOf s p).segs slot with
  | none => none
  | some g => ((liveGrains s p slot).flatMap (fun key =>
      let v := key / 2 ^ 40
      (List.range (grainSize s v)).map (fun j => (v, key % 2 ^ 40 * grainSize s v + j)))).find? (fun e => locate s e.1 e.2 == some (slot, zs, col) && g.k != 0)

/-- A direct read of one sector lands (R35, R234). -/
def sectorLands (s : State) (w : Want) (p v lba slot zs col : Nat) (b : Bytes) (flt : SecFault) : State :=
  let m := colMember s p slot col
  let fault (t : State) : State := if flt.isPoison then poisoned t p m else mediaFault t p m
  match w with
  | .page sl addr =>
    let c := if flt.isPoison then Check.guard else pageCheck addr b
    if c = .pass then gotSector s w p v lba slot zs col { metaOf b with wseq := fieldAt (slice b 4096 64) 32 8 } (payloadOf b) false flt
    else fetchPageCopy (fault (countFail s p c)) p sl addr zs (col + 1)
  | _ =>
    let c := if flt.isPoison then Check.guard else checkRead s v lba b
    if c = .pass then gotSector s w p v lba slot zs col (metaOf b) (payloadOf b) false flt
    else servedByDecode (fault (countFail s p c)) w p v lba slot zs col true

/-! ## Decodes and their search -/

/-- The sets S of R235 in order: by size from one to `n`, then lexicographically. -/
def searchSets (used : List Nat) (n : Nat) : List (List Nat) :=
  (List.range n).flatMap (fun i => subsets used (i + 1))

/-- The first source set of the search that has not been tried, with the columns it takes as erased; a source that has failed its checks is one more erased column. -/
def nextSet (s : State) (x : Job) (g : Seg) : List (List Nat) → Option (List Nat × List Nat)
  | [] => none
  | e :: r => match sourceSet s x.pool g x.col (x.first ++ e ++ x.bad) with
    | some t => if x.tried.contains t then nextSet s x g r else some (x.first ++ e ++ x.bad, t)
    | none => nextSet s x g r

/-- A decode that fails its checks goes on with the next source set; with none left the sector is unrecovered (R235). -/
def searchOn (s : State) (job : Nat) (x : Job) (g : Seg) : State :=
  match nextSet s x g (searchSets x.used (g.f - x.first.length)) with
  | none => lostFetch (endJob s job) x.want x.pool x.vol x.lba Lr.unrecovered
  | some (e, t) =>
    let y := { x with erased := e, sources := t, tried := x.tried ++ [t], repair := true }
    readSources { s with drv := { s.drv with jobs := Tbl.set s.drv.jobs job y } } job { y with sources := t.filter (fun i => (Tbl.get x.got i).isNone) } g

/-- A live data sector that failed as a source of another's decode is decoded and relocated itself (R234). -/
def repairSource (s : State) (p slot zs col : Nat) : State :=
  match sectorAt s p slot zs col with
  | some (v, lba) => servedByDecode s (.dredge slot) p v lba slot zs col true
  | none => s

/-- A source of a decode lands: kept when it passes its checks, else one more erased column, for the search where one runs; it is counted, and repaired where it is live data (R233 to R235). -/
def sourceLands (s : State) (job col : Nat) (b : Bytes) (flt : SecFault) : State :=
  match Tbl.get s.drv.jobs job with
  | none => s
  | some x => match Tbl.get (poolOf s x.pool).segs x.slot with
    | none => endJob s job
    | some g =>
      let c := if flt.isPoison then Check.guard else (match x.want with
        | .page _ addr => pageCheck addr b
        | _ => sourceCheck (segCode s x.pool g) col b)
      if c = .pass then { s with drv := { s.drv with jobs := Tbl.set s.drv.jobs job { x with got := Tbl.set x.got col b } } }
      else
        let m := (g.cols.getD col (64, 0)).1
        let t := countFail s x.pool c
        let u := if flt.isPoison then poisoned t x.pool m else mediaFault t x.pool m
        let v := if x.tried.length > 1 then searchOn u job { x with bad := addOnce x.bad col } g
                 else decodeInstead (endJob u job) x.want x.pool x.vol x.lba x.slot x.zs x.col (addOnce x.erased col) x.repair
        if col < g.k ∧ g.cls ≠ Cls.metadata then repairSource v x.pool x.slot x.zs col else v

/-- MEMBER_READ_COMPLETE: a member read lands in cluster scratch and is checked before use (R35). -/
def execMemberReadComplete (id : Nat) (data : Bytes) (flt : SecFault) (s : State) : Host.Outcome State Fault Refusal :=
  .next (match outstanding s id with
    | none => s
    | some c => match c.purp with
      | .sector w p v lba slot zs col => sectorLands (endCmd s id) w p v lba slot zs col data flt
      | .source job col => sourceLands (endCmd s id) job col data flt
      | .recovery _ => endCmd s id
      | _ => s)

/-- A decoded sector that passes its checks: repaired where a read failed, and handed on (R231, R234). -/
def decodedOk (s : State) (job : Nat) (x : Job) (d : Bytes) (m : Meta) : State :=
  let t := noteRepair (endJob s job) x.want
  let u := if x.repair then repairSector t x.pool x.vol x.lba x.slot x.col d m else t
  gotSector u x.want x.pool x.vol x.lba x.slot x.zs x.col m d true .none

/-- DEGRADED_DECODE_DONE: the sources have landed and the erased sector is decoded and checked (R231, R235). -/
def execDegradedDecodeDone (job : Nat) (s : State) : Host.Outcome State Fault Refusal :=
  .next (match Tbl.get s.drv.jobs job with
    | none => s
    | some x =>
      if !x.sources.all (fun i => (Tbl.get x.got i).isSome) then s
      else match Tbl.get (poolOf s x.pool).segs x.slot with
        | none => endJob s job
        | some g => match x.want with
          | .page _ _ =>
            let b := Tbl.getD x.got (x.sources.headD 0) []
            gotSector (endJob s job) x.want x.pool x.vol x.lba x.slot x.zs x.col { metaOf b with wseq := fieldAt (slice b 4096 64) 32 8 } (payloadOf b) true .none
          | _ => match decodeJob s x g with
            | some (d, m) => if checkDecoded s x.vol x.lba x.zs g m then decodedOk s job x d m else searchOn s job x g
            | none => searchOn s job x g)

/-! ## Leaf reads (R152) -/

/-- The checks of a leaf: guard, identity, and no entry in the PROTECTED form, which counts as a wrong address (R154). -/
def leafCheck (key : Nat) (b : Bytes) : Check :=
  match pageCheck (leafAddr key) b with
  | .pass => if (parseLeaf (payloadOf b)).all (fun e => match e with
      | .prot _ => false
      | _ => true) then .pass else .address
  | c => c

/-- A leaf passes its checks. -/
def leafOk (key : Nat) (b : Bytes) : Bool :=
  leafCheck key b == .pass

/-- Entries of a leaf as they were read; where the map holds another, it takes what was read, but for a grain whose newest copy a slot holds (R156). -/
def installLeaf (s : State) (key : Nat) (es : List Entry) : State :=
  let base := key / 2 ^ 31 * 2 ^ 40 + key % 2 ^ 31 * 512
  forEach (es.zip (List.range es.length)) (fun e t =>
    if entryOfGrain t (base + e.2) == e.1 || (match entryOfGrain t (base + e.2) with
        | .prot _ => true
        | _ => false) then t
    else
      let k := base + e.2
      let g := grainSize t (k / 2 ^ 40)
      forRange g (fun j u => dropVer u (k / 2 ^ 40) (k % 2 ^ 40 * g + j)) (setEntry t k e.1)) s

/-- Sectors of admitted commands that waited for a leaf resolve. -/
def resumeLeaf (s : State) (key : Nat) : State :=
  forEach s.qps (fun q t => forEach q.2.cmds (fun c u => resolveWhere u q.1 c.tag (fun r i => r == .leaf && leafKey (grainKey u c.volume (c.slba + i)) == key)) t) s

/-- A leaf has been read and checked: it is resident, and lookups that waited go on. -/
def leafArrived (s : State) (key : Nat) (b : Bytes) : State :=
  let clean := match Tbl.get s.map.leaves key with
    | some l => !l.resident && !l.dirty
    | none => false
  resumeLeaf (bringLeaf (if clean then installLeaf s key (parseLeaf (payloadOf b)) else s) key) key

/-- MAP_LEAF_READ_COMPLETE: a leaf read returns; a copy that fails leads to the next in column order, and after the last the pool is FAILED (R152). -/
def execMapLeafReadComplete (id : Nat) (data : Bytes) (ok : Bool) (s : State) : Host.Outcome State Fault Refusal :=
  .next (match outstanding s id with
    | none => s
    | some c => match c.purp with
      | .leaf p key mc =>
        let t := endCmd s id
        if ok && leafOk key data then leafArrived t key data
        else match Tbl.get t.map.leaves key with
          | some l => match l.loc with
            | some loc =>
              let tried := (List.range 3).filter (fun j => bitAt (mc / 64) j || j == mc % 64)
              let u := mediaFault (countFail t p (if ok then leafCheck key data else .guard)) p (colMember t p loc.1 (mc % 64))
              match leafCopies u p loc tried with
              | [] => setCond u p Pc.failed true
              | j :: _ => readLeaf u p key ((tried.map (fun i => 2 ^ i)).sum) j
            | none => t
          | none => t
      | _ => s)

end Sys2Proof.Machine
end

