-- ==== Sys2Proof/Machine/Patrol.lean ====
section
/-! DEFINITION. The Ditch Rider and the stripe checks of RESYNC (R215 to R217, R255, R256), and rebuild segment by segment (R236 to R243). -/

namespace Sys2Proof.Machine

open Sys2Proof

/-! ## Checking a stripe's columns -/

/-- The sector of row `r` that a column's data holds. -/
def rowSector (b : Bytes) (r : Nat) : Bytes :=
  slice b (4160 * r) 4160

/-- The checks of a sector of a committed stripe: guard, KIND and STRIPE_ID_LOW, and for live sectors the identity and cipher fields that the map expects (R233). -/
def stripeCheck (s : State) (p slot : Nat) (g : Seg) (h : StripeHdr) (j r : Nat) (b : Bytes) : Check :=
  let zs := h.first + r
  let c := if g.cls = Cls.metadata then (match (livePages s p slot).find? (fun e => e.2 == zs) with
      | some e => pageCheck e.1 b
      | none => if (metaOf b).guard != crc64 (payloadOf b) then .guard else if (metaOf b).kind == Kind.mapPage || (metaOf b).kind == Kind.fill then .pass else .address)
    else (match (if j < g.k then sectorAt s p slot zs j else none) with
      | some (v, lba) => checkRead s v lba b
      | none => sourceCheck (segCode s p g) j b)
  if c = .pass ∧ (metaOf b).stripeLow ≠ h.id % 2 ^ 32 then .address else c

/-- The live grains of a stripe. -/
def stripeGrains (s : State) (p slot : Nat) (h : StripeHdr) : List Nat :=
  (liveGrains s p slot).filter (fun key => match entryOfGrain s key with
    | .array _ zs _ => decide (h.first ≤ zs ∧ zs < h.first + h.height)
    | _ => false)

/-- The live sectors of a stripe are copied into dredge-class stripes. -/
def relocateStripe (s : State) (p slot : Nat) (h : StripeHdr) : State :=
  forEach (stripeGrains s p slot h) (fun key t => startCopy t p key Cls.dredge (.dredge slot) none) s

/-- A finding is counted and raises a WARN event (R256). -/
def finding (s : State) (p : Nat) (o : ObjDesc) : State :=
  raiseOpen (bump s o p 1) (ev 0x05 256) .warn Src.pool p

/-- Payload and coded metadata bytes of a column in a row. -/
def rowPart (b : Bytes) (r : Nat) : Bytes × Bytes :=
  let x := rowSector b r
  (payloadOf x, coveredBytes (slice x 4096 64))

/-- The parity columns of a row agree with its data columns. -/
def rowAgrees (c : CodeTbl) (l : List (Bytes × Bytes)) : Bool :=
  encodeRow c 4096 ((l.take c.k).map Prod.fst) == (l.drop c.k).map Prod.fst && encodeRow c 35 ((l.take c.k).map Prod.snd) == (l.drop c.k).map Prod.snd

/-- The columns of a row that could be read agree: data columns that were not are decoded from them first, and a row that cannot be decoded is not compared. -/
def rowConsistent (c : CodeTbl) (l : List (Option (Bytes × Bytes))) : Bool :=
  let have_ := (List.range l.length).filterMap (fun i => match l.getD i none with
    | some e => some (i, e)
    | none => none)
  let data := (List.range c.k).map (fun j => match l.getD j none with
    | some e => some e
    | none => match recoverCol c j (have_.map (fun e => (e.1, e.2.1))), recoverCol c j (have_.map (fun e => (e.1, e.2.2))) with
      | some a, some b => some (a, b)
      | _, _ => none)
  if data.any Option.isNone then true
  else
    let d := data.filterMap id
    let pa := encodeRow c 4096 (d.map Prod.fst)
    let pb := encodeRow c 35 (d.map Prod.snd)
    have_.all (fun e => decide (e.1 < c.k) || (pa.getD (e.1 - c.k) [] == e.2.1 && pb.getD (e.1 - c.k) [] == e.2.2))

/-- With column `j` erased the rest of a row is consistent. -/
def rowAgreesWithout (c : CodeTbl) (l : List (Bytes × Bytes)) (j : Nat) : Bool :=
  if j < c.k then
    let src := (List.range l.length).filter (fun i => i != j)
    match recoverCol c j (src.map (fun i => (i, (l.getD i ([], [])).1))), recoverCol c j (src.map (fun i => (i, (l.getD i ([], [])).2))) with
    | some a, some b => rowAgrees c (l.set j (a, b))
    | _, _ => false
  else
    let d := l.take c.k
    let pa := encodeRow c 4096 (d.map Prod.fst)
    let pb := encodeRow c 35 (d.map Prod.snd)
    (List.range (l.length - c.k)).all (fun i => i + c.k == j || (pa.getD i [] == (l.getD (i + c.k) ([], [])).1 && pb.getD i [] == (l.getD (i + c.k) ([], [])).2))

/-- The one column whose erasure makes every row of a stripe consistent. -/
def oddColumn (c : CodeTbl) (rows : List (List (Bytes × Bytes))) : Option Nat :=
  (List.range c.width).find? (fun j => rows.all (fun l => rowAgreesWithout c l j))

/-- A data column of a stripe is relocated sector by sector from what the other columns give (R234). -/
def relocateColumn (s : State) (p slot : Nat) (h : StripeHdr) (j : Nat) : State :=
  forRange h.height (fun r t => match sectorAt t p slot (h.first + r) j with
    | some (v, lba) => servedByDecode t (.dredge slot) p v lba slot (h.first + r) j true
    | none => t) s

/-- Sectors of a stripe that fail their checks: each is counted and charged to its member, a live data sector is decoded and relocated, and for a parity sector the stripe's live sectors are relocated (R234). -/
def repairBad (s : State) (p slot : Nat) (h : StripeHdr) (bad : List (Nat × Nat × Check)) : State :=
  forEach bad (fun e t =>
    let u := mediaFault (countFail t p e.2.2) p (colMember t p slot e.1)
    match Tbl.get (poolOf u p).segs slot with
    | none => u
    | some g => if e.1 < g.k then repairSource u p slot (h.first + e.2.1) e.1 else relocateStripe u p slot h) s

/-- The copies of a metadata stripe's pages: those that fail are counted and charged to their members (R234); where copies fail or differ, the passing one with the highest WRITE_SEQ is relocated if its page is live. The state, and how many rows failed a check and how many only differed. -/
def repairPages (s : State) (p slot : Nat) (g : Seg) (h : StripeHdr) (cols : List (Option Bytes)) : State × Nat × Nat :=
  (List.range h.height).foldl (fun (a : State × Nat × Nat) r =>
    let l := (List.range cols.length).filterMap (fun j => (cols.getD j none).map (fun b => (j, rowSector b r, stripeCheck s p slot g h j r (rowSector b r))))
    let bad := l.filter (fun e => e.2.2 != .pass)
    let good := l.filter (fun e => e.2.2 == .pass)
    let seq (b : Bytes) : Nat := fieldAt (slice b 4096 64) 32 8
    if bad.isEmpty ∧ good.all (fun e => e.2.1 == (good.headD (0, [], .pass)).2.1) then a
    else
      let u := forEach bad (fun e t => mediaFault (countFail t p e.2.2) p (colMember t p slot e.1)) a.1
      let v := match leastBy (fun (e : Nat × Bytes × Check) => 2 ^ 64 - seq e.2.1) good with
        | none => u
        | some e =>
          let addr := fieldAt (slice e.2.1 4096 64) 24 8
          if (livePages u p slot).contains (addr, h.first + r) then
            let w := gotSector u (.page slot addr) p 0 addr slot (h.first + r) 0 { metaOf e.2.1 with wseq := seq e.2.1 } (payloadOf e.2.1) false .none
            forEach bad (fun x t => pageRepaired t p slot x.1) w
          else u
      if bad.isEmpty then (v, a.2.1, a.2.2 + 1) else (v, a.2.1 + 1, a.2.2)) (s, 0, 0)

/-- What the columns of a stripe show: the sectors that fail their checks, and whether the parity of the others disagrees. -/
def examine (s : State) (p slot : Nat) (g : Seg) (h : StripeHdr) (cols : List (Option Bytes)) : List (Nat × Nat × Check) × Bool :=
  let c := segCode s p g
  let checks := (List.range g.cols.length).flatMap (fun j => match cols.getD j none with
    | none => []
    | some b => (List.range h.height).map (fun r => (j, r, stripeCheck s p slot g h j r (rowSector b r))))
  let bad := checks.filter (fun e => e.2.2 != .pass)
  let row (r : Nat) : List (Option (Bytes × Bytes)) := (List.range g.cols.length).map (fun j =>
    if bad.any (fun e => e.1 == j && e.2.1 == r) then none else (cols.getD j none).map (fun b => rowPart b r))
  (bad, !(List.range h.height).all (fun r => rowConsistent c (row r)))

/-- The Ditch Rider's handling of one stripe from the data of its columns, where a column that could not be read is erased (Table 06-5). -/
def patrolStripe (s : State) (p slot : Nat) (h : StripeHdr) (cols : List (Option Bytes)) : State :=
  match Tbl.get (poolOf s p).segs slot with
  | none => s
  | some g =>
    if g.cls = Cls.metadata then
      let r := repairPages s p slot g h cols
      forRange r.2.2 (fun _ t => finding t p Obj.PATROL_PARITY_MISMATCH) (forRange r.2.1 (fun _ t => finding t p Obj.PATROL_REPAIRED) r.1)
    else
      let c := segCode s p g
      let e := examine s p slot g h cols
      let t := forRange e.1.length (fun _ t => finding t p Obj.PATROL_REPAIRED) (repairBad s p slot h e.1)
      if !e.2 then t
      else
        let u := finding t p Obj.PATROL_PARITY_MISMATCH
        let whole := cols.length = g.cols.length ∧ !cols.any Option.isNone ∧ e.1.isEmpty
        let rows := (List.range h.height).map (fun r => (cols.filterMap id).map (fun b => rowPart b r))
        match (if c.m + c.l ≥ 2 ∧ whole then oddColumn c rows else none) with
        | some j => if j < c.k then relocateColumn u p slot h j else relocateStripe u p slot h
        | none => relocateStripe u p slot h

/-- RESYNC's handling of one stripe: failing sectors are repaired under R234, and a stripe whose parity disagrees has its live sectors relocated (R215). The state, and whether the stripe was repaired. -/
def resyncStripe (s : State) (p slot : Nat) (h : StripeHdr) (cols : List (Option Bytes)) : State × Bool :=
  match Tbl.get (poolOf s p).segs slot with
  | none => (s, false)
  | some g =>
    if g.cls = Cls.metadata then let r := repairPages s p slot g h cols; (r.1, decide (r.2.1 + r.2.2 > 0))
    else
      let e := examine s p slot g h cols
      let t := repairBad s p slot h e.1
      (if e.2 then relocateStripe t p slot h else t, e.2 || !e.1.isEmpty)

/-! ## The Ditch Rider -/

/-- The stripes of a pool in walking order: SEALED segments by slot, then the committed stripes of OPEN ones; each with its place in the order. -/
def walkOrder (s : State) (p : Nat) : List (Nat × Nat × Nat × StripeHdr) :=
  let part (st off : Nat) : List (Nat × Nat × Nat × StripeHdr) := ((poolOf s p).segs.filter (fun e => e.2.st == st)).flatMap (fun e =>
    ((List.range e.2.hdrs.length).zip e.2.hdrs).filterMap (fun y => if y.2.flags % 2 = 1 then none else some (off + e.1, y.1, e.1, y.2)))
  part 2 0 ++ part 1 (2 ^ 32)

/-- The Ditch Rider may walk the pool. -/
def mayPatrol (s : State) (p : Nat) : Bool :=
  let x := poolState s p
  rdB s Obj.PATROL_ENABLE p && (x == 1 || x == 2 || x == 3 || x == 4)

/-- PATROL_STRIPE: the next committed stripe is read and checked; at the end of the walk the pass is complete and a new one begins (R255, R256). `cols` holds what each column's read returned, nothing where it could not be read. -/
def execPatrolStripe (p : Nat) (cols : List (Option Bytes)) (s : State) : Host.Outcome State Fault Refusal :=
  .next (
    if p < 8 ∧ mayPatrol s p ∧ !rdB s Obj.MODULE_IDLE 0 ∧ rdN s Obj.EPOCH_STATE 0 = 0 then
      let w := (poolOf s p).patrol
      let all := walkOrder s p
      let rest := all.filter (fun e => decide (w.slot < e.1 ∨ (w.slot = e.1 ∧ w.idx ≤ e.2.1)))
      match rest with
      | [] =>
        let t := wr (bump s Obj.PATROL_PASSES p 1) Obj.PATROL_LAST_PASS_SECONDS p (((s.now - w.started) / 1000000 : Nat) : Int)
        wr (modPool t p (fun x => { x with patrol := { slot := 0, idx := 0, started := s.now } })) Obj.PATROL_PROGRESS p 0
      | e :: _ =>
        let t := patrolStripe s p e.2.2.1 e.2.2.2 cols
        let u := bump (modPool t p (fun x => { x with patrol := { x.patrol with slot := e.1, idx := e.2.1 + 1 } })) Obj.PATROL_STRIPES_CHECKED p 1
        wr (wr u Obj.PATROL_PROGRESS p ((100 * (all.length - rest.length + 1) / all.length : Nat) : Int)) Obj.PATROL_STATE p 1
    else if p < 8 then wr s Obj.PATROL_STATE p 0 else s)

/-- PATROL_RESTART: a new pass at slot 0 (R255). -/
def execPatrolRestart (p : Nat) (s : State) : Host.Outcome State Fault Refusal :=
  .next (if p < 8 then wr (modPool s p (fun x => { x with patrol := { slot := 0, idx := 0, started := s.now } })) Obj.PATROL_PROGRESS p 0 else s)

/-! ## RESYNC -/

/-- The stripes that RESYNC has still to check, by ascending SEG_SEQ: those with a STRIPE_ID below the walk's bound. -/
def resyncLeft (s : State) (p : Nat) (w : WalkAt) : List (Nat × Nat × Nat × StripeHdr) :=
  let l := sortBy (fun e => e.2.seq) (poolOf s p).segs
  (l.flatMap (fun e => ((List.range e.2.hdrs.length).zip e.2.hdrs).map (fun y => (e.2.seq, y.1, e.1, y.2)))).filter (fun e =>
    decide (e.2.2.2.id < w.started) && decide (w.slot < e.1 ∨ (w.slot = e.1 ∧ w.idx ≤ e.2.1)))

/-- RESYNC_STRIPE_CHECK: the next stripe's parity is recomputed and compared, and a stripe that disagrees is relocated; after the last the pool leaves RESYNC (R215, R217). -/
def execResyncStripeCheck (p : Nat) (cols : List (Option Bytes)) (s : State) : Host.Outcome State Fault Refusal :=
  .next (match (poolOf s p).resync with
    | none => s
    | some w =>
      if !poolCond s p Pc.resync ∨ rdN s Obj.EPOCH_STATE 0 ≠ 0 then s
      else
        let leave (t : State) : State := setCond (modPool (wr t Obj.RESYNC_STRIPES_DONE p (rd t Obj.RESYNC_STRIPES_TOTAL p)) p (fun x => { x with resync := none })) p Pc.resync false
        match resyncLeft s p w with
        | [] => leave s
        | e :: r =>
          let c := resyncStripe s p e.2.2.1 e.2.2.2 cols
          let t := if c.2 then bump c.1 Obj.RESYNC_REPAIRED p 1 else c.1
          let u := bump (modPool t p (fun x => { x with resync := some { w with slot := e.1, idx := e.2.1 + 1 } })) Obj.RESYNC_STRIPES_DONE p 1
          if r.isEmpty ∨ rdN u Obj.RESYNC_STRIPES_DONE p ≥ rdN u Obj.RESYNC_STRIPES_TOTAL p then leave u else u)

/-! ## Rebuild -/

/-- A grain has a copy under way: being fetched, or placed in a stripe that has not committed. -/
def copying (s : State) (p key : Nat) : Bool :=
  (poolOf s p).grains.any (fun x => x.key == key) ||
  (poolOf s p).stripes.any (fun e => e.2.pos.any (fun y => y.src == some (entryOfGrain s key) && y.page.isNone && grainKey s y.md.vol y.md.lba == key))

/-- A map page has a copy under way. -/
def copyingPage (s : State) (p slot addr : Nat) : Bool :=
  s.drv.cmds.any (fun e => match e.2.purp with
    | .sector (.page x a) q .. => x == slot && a == addr && q == p
    | _ => false) ||
  (poolOf s p).stripes.any (fun e => e.2.pos.any (fun y => y.page == some addr && y.src.isSome))

/-- The work that rebuild has in a segment: grains and pages with no copy under way. -/
def rebuildWork (s : State) (p slot : Nat) (g : Seg) : List Nat × List (Nat × Nat) :=
  if (failedCols s p g).isEmpty then ([], [])
  else if g.cls = Cls.metadata then ([], (livePages s p slot).filter (fun e => !copyingPage s p slot e.1))
  else ((rebuildGrains s p slot g).filter (fun key => !copying s p key), [])

/-- The rank of a segment in rebuild's order (R237): metadata; at or above tolerance, highest count first; the others; by SEG_SEQ. -/
def rebuildRank (s : State) (p : Nat) (g : Seg) : Nat :=
  let n := goneCount s p g
  (if g.cls = Cls.metadata then 0 else if n ≥ g.f then 100 - n else 200) * 2 ^ 64 + g.seq

/-- REBUILD_NEXT_SEGMENT: rebuild takes the next segment in its order and decodes its live sectors on FAILED columns (R237, R238). -/
def execRebuildNextSegment (p : Nat) (s : State) : Host.Outcome State Fault Refusal :=
  .next (
    if p < 8 ∧ rdN s Obj.REBUILD_STATE p = 2 ∧ !rdB s Obj.MODULE_IDLE 0 ∧ rdN s Obj.EPOCH_STATE 0 = 0 then
      let l := (poolOf s p).segs.filter (fun e => let w := rebuildWork s p e.1 e.2; !w.1.isEmpty || !w.2.isEmpty)
      match leastBy (fun (e : Nat × Seg) => rebuildRank s p e.2) l with
      | none => checkRebuilt s p
      | some (slot, g) =>
        let w := rebuildWork s p slot g
        forEach w.2 (fun e t => fetchPageCopy t p slot e.1 e.2 0) (forEach w.1 (fun key t => startCopy t p key Cls.rebuild .rebuild none) s)
    else s)

/-- Start a rebuild that waits, as soon as its conditions hold. -/
def resumeRebuild (s : State) (p : Nat) : State :=
  if rdN s Obj.REBUILD_STATE p = 1 ∧ rebuildCan s p then considerRebuild s p else s

/-- REBUILD_START: a write starts rebuild as soon as its conditions hold (R241). -/
def execRebuildStart (p : Nat) (s : State) : Host.Outcome State Fault Refusal :=
  .next (if p < 8 then resumeRebuild s p else s)

/-- REBUILD_AUTO_START: enough zones and members have become available (R241). -/
def execRebuildAutoStart (p : Nat) (s : State) : Host.Outcome State Fault Refusal :=
  .next (if p < 8 then resumeRebuild s p else s)

end Sys2Proof.Machine
end

