-- ==== Sys2Proof/Machine/Volumes.lean ====
section
/-! DEFINITION. Volumes (R95, R125, R126, R151) and custom code tables (R117 to R119). -/

namespace Sys2Proof.Machine

open Sys2Proof

/-! ## Capacity and directories -/

/-- Volumes that exist: ACTIVE, LOCKED or ID_HELD (R125). -/
def existing (s : State) : List Nat :=
  (s.vols.map Prod.fst).filter (fun v => rdN s Obj.VOLUME_STATE v != 0)

/-- POOL_ALLOCATED: the sum of the capacities of the pool's ACTIVE and LOCKED volumes. -/
def allocated (s : State) (p : Nat) : Nat :=
  (((liveVolumes s).filter (fun v => rdN s Obj.VOLUME_POOL v == p)).map (fun v => rdN s Obj.VOLUME_CAPACITY v)).sum

/-- Directory bytes of a capacity: one 4 KiB page for each 512 leaves of 512 grains (R150, R151). -/
def dirBytes (cap grain : Nat) : Nat :=
  ((cap / grain + 511) / 512 + 511) / 512 * 4096

/-- Directory bytes of every existing volume. -/
def dirTotal (s : State) : Nat :=
  ((existing s).map (fun v => dirBytes (rdN s Obj.VOLUME_CAPACITY v) (grainSize s v))).sum

/-- Half the map cache (R151). -/
def dirLimit (s : State) : Nat :=
  (76 - rdN s Obj.HBM_READ_CACHE_SIZE 0) * 2 ^ 29

/-- MAP_DIR_BYTES, and the leaf space that follows from it. -/
def noteDirs (s : State) : State :=
  noteLeaves (wr s Obj.MAP_DIR_BYTES 0 (dirTotal s : Nat))

/-- `more` further sectors fit the pool and the directory limit (R95, R151). -/
def spaceFor (s : State) (p more old cap grain : Nat) : Bool :=
  decide (allocated s p + more ≤ rdN s Obj.POOL_CAPACITY p) && decide (dirTotal s + dirBytes cap grain ≤ dirLimit s + dirBytes old grain)

/-! ## Creation and deletion -/

/-! Values of VOLUME_ACTION_RESULT. -/

def Vr.done : Nat := 1
def Vr.space : Nat := 2
def Vr.state : Nat := 3
def Vr.key : Nat := 4
def Vr.geometry : Nat := 5
def Vr.inProgress : Nat := 6

/-- A volume's key settings satisfy the key slot and CIPHER_POLICY (R125, R454). -/
def keyOk (s : State) (v : Nat) : Bool :=
  let k := rdN s Obj.VOLUME_KEY_SLOT v
  let st := rdN s Obj.KEY_STATE k
  let pol := rdN s Obj.CIPHER_POLICY 0
  (if k = 0xFFFF then !rdB s Obj.VOLUME_TAGGED v && !bitAt pol 0 else st == 1 || st == 2) && (!bitAt pol 1 || rdB s Obj.VOLUME_TAGGED v)

/-- The result of VOLUME_ACTION CREATE: the first condition of R125 that fails, or DONE. Space is tested before the key: where both fail R125 names no order (DESIGN CHOICE). -/
def volCreateResult (s : State) (v : Nat) : Nat :=
  let p := rdN s Obj.VOLUME_POOL v
  let cap := rdN s Obj.VOLUME_CAPACITY v
  let g := grainSize s v
  if rdN s Obj.VOLUME_STATE v ≠ 0 ∨ p ≥ 8 ∨ poolState s p = Ps.notConfigured ∨ poolState s p = Ps.failed then Vr.state
  else if cap = 0 ∨ cap > 2 ^ 40 ∨ cap % g ≠ 0 then Vr.geometry
  else if !spaceFor s p cap 0 cap g then Vr.space
  else if !keyOk s v then Vr.key
  else Vr.done

/-- Create a volume that R125 allows. -/
def createVol (s : State) (v : Nat) : State :=
  let p := rdN s Obj.VOLUME_POOL v
  let t := modVol (wr s Obj.VOLUME_STATE v 1) v (fun x => { x with deleting := false, heldFor := 0 })
  writeSuper (noteDirs (noteLocks (logRec t p (.volume v (rdN s Obj.VOLUME_CAPACITY v) 1)))) p

/-- VOLUME_CREATE: VOLUME_ACTION CREATE (R125). -/
def execVolumeCreate (v : Nat) (s : State) : Host.Outcome State Fault Refusal :=
  .next (if v < 4096 then
    let r := volCreateResult s v
    let t := wr s Obj.VOLUME_ACTION_RESULT v (r : Nat)
    if r = Vr.done then createVol t v else t
  else s)

/-- VOLUME_DELETE: admission to the volume stops at once (R126 step 1). -/
def execVolumeDelete (v : Nat) (s : State) : Host.Outcome State Fault Refusal :=
  .next (if v < 4096 then
    (if (rdN s Obj.VOLUME_STATE v = 1 ∨ rdN s Obj.VOLUME_STATE v = 2) ∧ !(volOf s v).deleting then
      wr (modVol s v (fun x => { x with deleting := true })) Obj.VOLUME_ACTION_RESULT v (Vr.inProgress : Nat)
    else wr s Obj.VOLUME_ACTION_RESULT v (Vr.state : Nat))
  else s)

/-- An admitted command reads, writes or empties the volume; SANITIZE and FORMAT live in PROGRESS records and not in the command (R336). -/
def volBusy (s : State) (v : Nat) : Bool :=
  s.qps.any (fun q => q.2.cmds.any (fun c => c.volume == v && dataOp c.opcode))

/-- Remove every lost-list range of a volume, with a LOST record for each (R126, R333). -/
def dropLost (s : State) (p v : Nat) : State :=
  forEach ((poolOf s p).lost.filter (fun r => r.vol == v)) (fun r t =>
    drop (logRec (modPool t p (fun x => { x with lost := x.lost.filter (fun y => !(y == r)) })) p (.lost v r.lba r.count false)) Obj.LOST_SECTORS p r.count) s

/-- Keys of a table keyed by volume and position that belong to a volume. -/
def ofVol (v shift k : Nat) : Bool :=
  k / 2 ^ shift == v

/-- Discard the map of a volume: entries, versions and leaves; its frames and cached copies go with it, and its units are zeroed before reuse. -/
def dropMap (s : State) (v : Nat) : State :=
  let m : MapSt := { entries := Tbl.filterK s.map.entries (fun k => !ofVol v 40 k), vers := Tbl.filterK s.map.vers (fun k => !ofVol v 40 k), leaves := Tbl.filterK s.map.leaves (fun k => !ofVol v 31 k), hand := s.map.hand, image := Tbl.filterK s.map.image (fun k => !ofVol v 31 k) }
  noteLeaves (disownVolume (endRanges (discardFrames { s with map := m } v (fun _ => true)) v) v)

/-- Copies of a volume's grains are given up. -/
def dropCopies (s : State) (p v : Nat) : State :=
  forEach ((poolOf s p).grains.filter (fun x => ofVol v 40 x.key)) (fun x t => dropCopy t p x.key) s

/-- VOLUME_DELETE_DRAINED: the volume's commands have completed; its map, with its directory pages, and its lost ranges are discarded and its id is held (R126 steps 3 to 5). -/
def execVolumeDeleteDrained (v : Nat) (s : State) : Host.Outcome State Fault Refusal :=
  .next (if (volOf s v).deleting ∧ !volBusy s v ∧ (rdN s Obj.VOLUME_STATE v = 1 ∨ rdN s Obj.VOLUME_STATE v = 2) then
    let p := rdN s Obj.VOLUME_POOL v
    let gone (k : Nat) : Bool := (k / 2 ^ 56 == Page.directory || k / 2 ^ 56 == Page.leaf) && bitsAt k 40 12 == v
    let a := modPool (dropLost (dropMap (dropCopies s p v) v) p v) p (fun x => { x with pages := Tbl.filterK x.pages (fun k => !gone k), dirtyPages := x.dirtyPages.filter (fun k => !gone k) })
    let b := wr (wr (logRec a p (.volume v (rdN a Obj.VOLUME_CAPACITY v) 3)) Obj.VOLUME_STATE v 3) Obj.VOLUME_ACTION_RESULT v (Vr.done : Nat)
    writeSuper (noteDirs (modVol b v (fun x => { x with heldFor := b.ilog.nextSeq }))) p
  else s)

/-- What a write of VOLUME_CAPACITY meets: OK, RANGE or ACCESS (R125). A growth to a value that is no multiple of the grain is refused with RANGE: R125 names no refusal for it (DESIGN CHOICE). -/
def capacityResult (s : State) (v cap : Nat) : Nat :=
  let st := rdN s Obj.VOLUME_STATE v
  let p := rdN s Obj.VOLUME_POOL v
  let old := rdN s Obj.VOLUME_CAPACITY v
  let g := grainSize s v
  if st = 3 then Rs.access
  else if cap = 0 ∨ cap > 2 ^ 40 then Rs.range
  else if st = 0 then Rs.ok
  else if cap < old ∨ cap % g ≠ 0 ∨ !spaceFor s p (cap - old) old cap g then Rs.range
  else Rs.ok

/-- Set a volume's capacity; a growth is recorded. -/
def growVol (s : State) (v cap : Nat) : State :=
  let t := wr s Obj.VOLUME_CAPACITY v cap
  if rdN s Obj.VOLUME_STATE v = 0 ∨ cap = rdN s Obj.VOLUME_CAPACITY v then t
  else let p := rdN s Obj.VOLUME_POOL v; writeSuper (noteDirs (logRec t p (.volume v cap (rdN t Obj.VOLUME_STATE v)))) p

/-- VOLUME_CAPACITY_WRITE: the capacity of an ABSENT volume is set, an ACTIVE or LOCKED one grows, or the write is refused (R125). -/
def execVolumeCapacityWrite (v cap : Nat) (s : State) : Host.Outcome State Fault Refusal :=
  .next (if v < 4096 ∧ capacityResult s v cap = Rs.ok then growVol s v cap else s)

/-! ## Custom code tables (R117 to R119) -/

/-! Values of CODE_CHECK_STATE. -/

def Ct.empty : Nat := 0
def Ct.loaded : Nat := 1
def Ct.checking : Nat := 2
def Ct.verified : Nat := 3
def Ct.refused : Nat := 4

/-- A pool uses a code table: it is in force, or a segment that a reshape has not yet migrated is of it. A table id written while the pool is OFFLINE is a reshape's target and no table in force (R119, R120, R259). -/
def usesTable (s : State) (p id : Nat) : Bool :=
  let x := poolOf s p
  poolState s p != Ps.notConfigured && (x.table.getD (rdN s Obj.POOL_CODE_TABLE p) == id || x.segs.any (fun e => e.2.table == id))

/-- CODE_TABLE_USERS: the configured pools that use a slot. -/
def tableUsers (s : State) (i : Nat) : Nat :=
  ((List.range 8).filter (fun p => usesTable s p (0x10 + i))).map (fun p => 2 ^ p) |>.sum

/-- What a write of CODE_TABLE_DATA meets: RANGE for another length, MALFORMED for a nonzero reserved byte (R9), ACCESS while the slot is CHECKING or used. -/
def tableWriteResult (s : State) (i : Nat) (b : Bytes) : Nat :=
  if b.length ≠ 768 then Rs.range
  else if !tableReservedZero b then Rs.malformed
  else if rdN s Obj.CODE_CHECK_STATE i = Ct.checking ∨ tableUsers s i ≠ 0 then Rs.access else Rs.ok

/-- Load a table into a slot, which is LOADED. -/
def loadTable (s : State) (i : Nat) (b : Bytes) : State :=
  wr (wr (wr (wr (wr (wrBytes s Obj.CODE_TABLE_DATA i b) Obj.CODE_CHECK_STATE i (Ct.loaded : Nat)) Obj.CODE_CHECK_REASON i 0) Obj.CODE_CHECK_PATTERN i 0) Obj.CODE_CHECK_DONE i 0) Obj.CODE_CHECK_TOTAL i 0

/-- CODE_TABLE_DATA_WRITE: a custom table is loaded and its slot is LOADED (R119). -/
def execCodeTableDataWrite (i : Nat) (b : Bytes) (s : State) : Host.Outcome State Fault Refusal :=
  .next (if i < 16 ∧ tableWriteResult s i b = Rs.ok then loadTable s i b else s)

/-- Start the check of a LOADED slot: a table that fails R112 is REFUSED at once with its reason (R117). -/
def startCheck (s : State) (i : Nat) : State :=
  let b := rdBytes s Obj.CODE_TABLE_DATA i
  let r := tableReason b
  let c := parseTable b
  if r ≠ 0 then wr (wr s Obj.CODE_CHECK_STATE i (Ct.refused : Nat)) Obj.CODE_CHECK_REASON i (r : Nat)
  else wr (wr (wr (wr s Obj.CODE_CHECK_STATE i (Ct.checking : Nat)) Obj.CODE_CHECK_TOTAL i (checkTotal c.width c.f : Nat)) Obj.CODE_CHECK_DONE i 0) Obj.CODE_CHECK_PATTERN i 0

/-- CODE_CHECK_START: a LOADED slot is checked; any other refuses the write. -/
def execCodeCheckStart (i : Nat) (s : State) : Host.Outcome State Fault Refusal :=
  .next (if i < 16 ∧ rdN s Obj.CODE_CHECK_STATE i = Ct.loaded then startCheck s i else s)

/-- CODE_CHECK_DONE: the enumeration ends VERIFIED, or REFUSED at the first undecodable set (R117). -/
def execCodeCheckDone (i : Nat) (s : State) : Host.Outcome State Fault Refusal :=
  .next (if i < 16 ∧ rdN s Obj.CODE_CHECK_STATE i = Ct.checking then
    let c := parseTable (rdBytes s Obj.CODE_TABLE_DATA i)
    match firstUndecodable c c.f with
    | some e => wr (wr (wr (wr s Obj.CODE_CHECK_STATE i (Ct.refused : Nat)) Obj.CODE_CHECK_REASON i 5) Obj.CODE_CHECK_PATTERN i (colMask e : Nat)) Obj.CODE_CHECK_DONE i (setsExamined c e : Nat)
    | none => wr (wr s Obj.CODE_CHECK_STATE i (Ct.verified : Nat)) Obj.CODE_CHECK_DONE i (rd s Obj.CODE_CHECK_TOTAL i)
  else s)

end Sys2Proof.Machine
end

