-- ==== Sys2Proof/Machine/Reshape.lean ====
section
/-! DEFINITION. The start of a reshape (R259, R260), and membership of a serving pool: ADD and REMOVE (R124, R257, R258). -/

namespace Sys2Proof.Machine

open Sys2Proof

/-- The capacity of R94: `n` members, reserve `r`, `zm` zones of `ss` sectors, code `k` of `w`, over-provision `op`. -/
def capacityFor (n r zm ss k w op : Nat) : Nat :=
  (n - r) * zm * (ss - 2) * k * (98 - op) / (w * 100)

/-- A code table that may be used with `k` data columns: built-in in its range of k, or a custom slot that is VERIFIED with this CT_K (R119, Table 03-7). -/
def usableTable (s : State) (id k : Nat) : Option CodeTbl :=
  if id ≥ 0x10 then
    (if id < 0x20 ∧ rdN s Obj.CODE_CHECK_STATE (id - 0x10) = Ct.verified then
      let c := parseTable (rdBytes s Obj.CODE_TABLE_DATA (id - 0x10))
      if c.k = k then some c else none
    else none)
  else builtin id k

/-- Report a pool's geometry (R260). -/
def reportShape (s : State) (p id : Nat) (c : CodeTbl) : State :=
  let x := poolOf s p
  let cap := capacityFor (memberCount s p) (rdN s Obj.POOL_REBUILD_RESERVE p) x.zm x.sectors c.k c.width (rdN s Obj.POOL_OVERPROVISION p)
  let t := wr (wr (modPool s p (fun y => { y with table := some id })) Obj.POOL_CODE_TABLE p id) Obj.POOL_K p (c.k : Nat)
  wr (wr (wr t Obj.POOL_WIDTH p (c.width : Nat)) Obj.POOL_TOLERANCE p (c.f : Nat)) Obj.POOL_CAPACITY p (cap : Nat)

/-- Start a reshape: lanes seal, the cursor is set with its RESHAPE record, and a superblock generation is written (R260). -/
def startReshape (s : State) (p kind leaving : Nat) (shape : Nat × CodeTbl) : State :=
  let old := classCode s p Cls.host
  let a := sealLanes s p
  let c := (poolOf a p).nextSeg
  let b := logRec (wr a Obj.RESHAPE_CURSOR p (c : Nat)) p (.reshape c)
  let custom := if shape.1 ≥ 0x10 then some shape.2 else if old.1 ≥ 0x10 then some old.2 else none
  let d := modPool b p (fun x => { x with custom := custom, reshape := some { kind := kind, leaving := leaving, moving := none, oldTable := some old.2 } })
  writeSuper (setCond (wr (wr (reportShape d p shape.1 shape.2) Obj.RESHAPE_KIND p kind) Obj.RESHAPE_RESULT p 1) p Pc.reshaping true) p

/-- The conditions of R259 for a code reshape: 0, or the RESHAPE_RESULT of the first that fails. -/
def reshapeRefusal (s : State) (p id k : Nat) : Nat :=
  let old := rdN s Obj.POOL_CODE_TABLE p
  let x := poolOf s p
  let n := memberCount s p
  let r := rdN s Obj.POOL_REBUILD_RESERVE p
  match usableTable s id k with
  | none => 3
  | some c =>
    if id ≥ 0x10 ∧ old ≥ 0x10 then 3
    else if n < c.width + r then 4
    else if allocated s p > capacityFor n r x.zm x.sectors c.k c.width (rdN s Obj.POOL_OVERPROVISION p) then 5
    else if !slotLimit n x.zm c.width then 5
    else if x.reshape.isSome then 6 else 0

/-- Start a code reshape to the target table and k, or record why not; the targets then return to the current shape (R259). -/
def codeReshape (s : State) (p id k : Nat) : State :=
  let back (t : State) : State := wr (wr t Obj.RESHAPE_TARGET_TABLE p (rd t Obj.POOL_CODE_TABLE p)) Obj.RESHAPE_TARGET_K p (rd t Obj.POOL_K p)
  match usableTable s id k with
  | none => back (wr s Obj.RESHAPE_RESULT p 3)
  | some c =>
    let r := reshapeRefusal s p id k
    if r ≠ 0 then back (wr s Obj.RESHAPE_RESULT p (r : Nat)) else back (startReshape s p 1 0 (id, c))

/-! ## Adding a member (R124, R257, R258) -/

/-- What a member command's status means for a step that takes a drive into a pool: 0 success, 0x83 Reservation Conflict, others failure. -/
def statusConflict : Nat := 0x83

/-- An ADD ends without a member: what was registered is released, and the drive stays a candidate (R257). -/
def addFails (s : State) (p m : Nat) (registered : Bool) (result : Nat) : State :=
  let port := mPort s p m
  addEnds (if registered then issue s port .resRelease (.takeover p m) else s) p m port result

/-- A drive's identity and zones as its member slot shows them. -/
def adoptDrive (s : State) (p m zones : Nat) : State :=
  let port := mPort s p m
  let i := mInst p m
  wr (wr (wr (wrBytes s Obj.MEMBER_NGUID i (rdBytes s Obj.DRIVE_NGUID port)) Obj.MEMBER_NSID i (rd s Obj.DRIVE_NSID port)) Obj.MEMBER_ZONES i zones) Obj.DRIVE_MEMBER_OF port (i : Nat)

/-- The candidate is a member: ACTIVE from the next segment on; superblock, waiting rebuild, and a rebalance (R124, R242, R258). -/
def joinMember (s : State) (p m : Nat) : State :=
  let a := adoptDrive s p m ((poolOf s p).zm + 1)
  let b := logRec (wr (wr a Obj.MEMBER_STATE (mInst p m) (Ms.active : Nat)) Obj.MEMBER_FAIL_CAUSE (mInst p m) 0) p (.member m Ms.active)
  let c := modPool b p (fun x => { x with joined := Tbl.set x.joined m x.nextSeg, zones := Tbl.erase x.zones m, sbNext := Tbl.erase x.sbNext m })
  let d := wr (noteZones c p m) Obj.MEMBER_ACTION_RESULT (mInst p m) (Mr.done : Nat)
  let e := considerRebuild (reportShape (writeSuper d p) p (classCode d p Cls.host).1 (classCode d p Cls.host).2) p
  if (poolOf e p).reshape.isNone then startReshape e p 3 0 (classCode e p Cls.host) else e

/-- A command of an ADD has ended: format, erase, register, acquire, join (Table 06-6). -/
def addStep (s : State) (p m : Nat) (op : MOp) (status : Nat) : State :=
  if rdN s Obj.MEMBER_ACTION_RESULT (mInst p m) ≠ Mr.inProgress then s
  else if status ≠ 0 then
    match op with
    | .resAcquire _ => addFails s p m true (if status = statusConflict then Mr.refusedReservation else Mr.ioError)
    | _ => addFails s p m false Mr.ioError
  else match op with
    | .format => issueTo (modDPort s (mPort s p m) (fun d => { d with formatted := true })) p m (eraseOp s (mPort s p m)) (.add p m)
    | .zoneResetAll => issueTo s p m .resRegister (.add p m)
    | .deallocateAll => issueTo s p m .resRegister (.add p m)
    | .resRegister => issueTo s p m (.resAcquire 0) (.add p m)
    | .resAcquire _ => joinMember s p m
    | _ => s

/-- The first condition of Table 06-6 that an ADD breaks, or IN_PROGRESS. -/
def addResult (s : State) (p m : Nat) : Nat :=
  let port := mPort s p m
  let st := mState s p m
  if !poolServes s p ∨ poolCond s p Pc.locked ∨ (st ≠ Ms.none ∧ st ≠ Ms.removed) ∨ port ≥ 64 ∨ !candidate s port ∨ rdN s Obj.DRIVE_NSID port ≠ rdN s Obj.MEMBER_NSID (mInst p m) ∨
      rdN s Obj.MEMBER_ACTION_RESULT (mInst p m) = Mr.inProgress then Mr.refusedState
  else if !fitsPool s p port then Mr.refusedGeometry
  else Mr.inProgress

/-- MEMBER_ADD: MEMBER_ACTION ADD joins a candidate to a serving pool (R257). -/
def execMemberAdd (p m : Nat) (s : State) : Host.Outcome State Fault Refusal :=
  .next (if p < 8 ∧ m < 64 then
    let r := addResult s p m
    if r = Mr.inProgress then startAdd s p m else if rdN s Obj.MEMBER_ACTION_RESULT (mInst p m) = Mr.inProgress then s else wr s Obj.MEMBER_ACTION_RESULT (mInst p m) (r : Nat)
  else s)

/-! ## Removing a member -/

/-- Zones that migrating every segment with a column on a member needs: as need_zones of R241 over their live sectors. -/
def drainZones (s : State) (p m : Nat) : Nat :=
  let c := (classCode s p Cls.host).2
  let live := (((poolOf s p).segs.filter (fun e => e.2.cols.any (fun x => x.1 == m))).map (fun e => liveCount s p e.1)).sum
  let d := c.k * ((poolOf s p).sectors - 2)
  (live * c.width + d - 1) / d + c.width

/-- The first condition of Table 06-6 that a REMOVE breaks, or IN_PROGRESS. -/
def removeResult (s : State) (p m : Nat) : Nat :=
  let c := (classCode s p Cls.host).2
  if !poolServes s p ∨ mState s p m ≠ Ms.active ∨ (poolOf s p).reshape.isSome then Mr.refusedState
  else if memberCount s p < c.width + rdN s Obj.POOL_REBUILD_RESERVE p + 1 then Mr.refusedWidth
  else if freeZones s p < drainZones s p m + freeZonesOf s p m then Mr.refusedSpace
  else Mr.inProgress

/-- MEMBER_REMOVE: a reshape of kind REMOVE drains the member (R257, R260). -/
def execMemberRemove (p m : Nat) (s : State) : Host.Outcome State Fault Refusal :=
  .next (if p < 8 ∧ m < 64 then
    let r := removeResult s p m
    let t := wr s Obj.MEMBER_ACTION_RESULT (mInst p m) (r : Nat)
    if r = Mr.inProgress then startReshape (modPool t p (fun x => { x with draining := addOnce x.draining m })) p 2 m (classCode t p Cls.host) else t
  else s)

end Sys2Proof.Machine
end

