-- ==== Sys2Proof/Machine/Recover.lean ====
section
/-! DEFINITION. Recovery of a pool's segments and map from what its members hold: the checkpoint, the directories and the leaves, the loop of R163, and the scan of R164 (R98, R136, R155, R163, R164, R173, R607). -/

namespace Sys2Proof.Machine

open Sys2Proof

/-! ## What the members answer -/

/-- The 4,160 bytes that a member answers for a zone sector; `none` where the read fails. -/
def mediaAt (ms : List MediaItem) (c : Nat × Nat) (zs : Nat) : Option Bytes :=
  (ms.find? (fun x => x.member == c.1 && x.zone == c.2 && x.zs == zs && x.data.length == 4160)).map MediaItem.data

/-- What a column of a segment answers. -/
def colAt (s : State) (p : Nat) (ms : List MediaItem) (g : Seg) (j zs : Nat) : Option Bytes :=
  if colReadable s p g j then mediaAt ms (g.cols.getD j (64, 0)) zs else none

/-! ## The superblock copies of one member (R98, R131) -/

/-- The superblock slots of zone 0, 16 sectors each. -/
def sbSlots (b : Bytes) : List Bytes :=
  (List.range (b.length / 65536)).map (fun i => slice b (65536 * i) 65536)

/-- The valid copy with the highest SB_GENERATION, and its slot; an invalid one gives way to the next older generation (R98, R607). -/
def newestCopy (b : Bytes) : Option (Nat × Bytes) :=
  leastBy (fun e => 2 ^ 64 - (parseSuper e.2).gen) (((List.range (sbSlots b).length).zip (sbSlots b)).filter (fun e => superOk e.2))

/-- A drive port as the superblock slots of its zone 0 leave it. -/
def DPort.takeSlots (d : DPort) (b : Bytes) : DPort :=
  match newestCopy b with
  | some (i, x) => { d with sb := x, sbSlot := i }
  | none => { d with sb := [], sbSlot := 0 }

/-! ## Segments (R133 to R136) -/

/-- The segment that a header describes: unsealed, until its trailer says otherwise. -/
def parseHeader (b : Bytes) : Seg :=
  let w := fieldAt b 52 1
  { st := 1, seq := fieldAt b 32 8, cls := fieldAt b 11 1 % 8, table := fieldAt b 48 1, k := fieldAt b 49 1, m := fieldAt b 50 1, l := fieldAt b 51 1, f := fieldAt b 53 1
    height := fieldAt b 54 2, sectors := fieldAt b 56 4, cols := (List.range w).map (fun j => (fieldAt b (64 + j) 1, fieldAt b (128 + 4 * j) 4)), next := 1, hdrs := []
    sealing := false, chosen := false, copies := 0, passBy := 0, resets := [], hint := 0, aligned := false }

/-- A stripe header that 64 bytes spell (Table 03-16). -/
def parseHdr (b : Bytes) : StripeHdr :=
  { id := fieldAt b 0 8, first := fieldAt b 8 4, height := fieldAt b 12 2, reason := fieldAt b 14 1, flags := fieldAt b 15 1, fws := fieldAt b 16 8, lws := fieldAt b 24 8
    count := fieldAt b 32 2 }

/-- The segments whose header some column holds, by SEG_SEQ: a valid header of this pool, read from a zone that it names (R133, R607). -/
def headersOn (s : State) (p : Nat) (ms : List MediaItem) : Tbl Seg :=
  ms.foldl (fun t x =>
    let b := payloadOf x.data
    let g := parseHeader b
    if x.zs = 0 ∧ x.zone ≠ 0 ∧ mState s p x.member = Ms.active ∧ x.data.length = 4160 ∧ headerOk b ∧ slice b 16 16 = padTo 16 (rdBytes s Obj.POOL_UUID p) ∧ g.cols.contains (x.member, x.zone) ∧
        (Tbl.get t g.seq).isNone then Tbl.set t g.seq g else t) []

/-- The segment as column `j`'s trailer and stripe table describe it: valid under R607, of this segment and this pool. -/
def sealedBy (s : State) (p : Nat) (ms : List MediaItem) (g : Seg) (j : Nat) : Option Seg :=
  match colAt s p ms g j (g.sectors - 1) with
  | none => none
  | some b =>
    let t := payloadOf b
    let n := fieldAt t 12 4
    let first := fieldAt t 24 4
    let tbl := (List.range (if fieldAt t 28 4 < g.sectors then fieldAt t 28 4 else 0)).map (fun i => colAt s p ms g j (first + i))
    let l := tbl.flatMap (fun x => match x with
      | some y => payloadOf y
      | none => [])
    if tbl.all Option.isSome && decide (tbl.length = tableSectors n) && trailerOk l t && fieldAt t 16 8 == g.seq && slice t 32 16 == padTo 16 (rdBytes s Obj.POOL_UUID p)
    then some { g with st := max g.st 2, next := first, hdrs := (List.range n).map (fun i => parseHdr (slice l (64 * i) 64)) }
    else none

/-- A sector belongs to a stripe: its guard holds, and it is no segment structure. -/
def inStripe (b : Bytes) : Bool :=
  (metaOf b).guard == crc64 (payloadOf b) && decide ((metaOf b).kind < 5)

/-- The STRIPE_ID_LOW of a row: what any column that can be read says. -/
def rowLow (s : State) (p : Nat) (ms : List MediaItem) (g : Seg) (zs : Nat) : Option Nat :=
  (List.range g.cols.length).findSome? (fun j => match colAt s p ms g j zs with
    | some b => if inStripe b then some (metaOf b).stripeLow else none
    | none => none)

/-- The stripes of an unsealed segment from zone sector `zs` on: runs of rows with one STRIPE_ID_LOW, as that value, first sector and height (R136). -/
def rowRuns (s : State) (p : Nat) (ms : List MediaItem) (g : Seg) : Nat → Nat → List (Nat × Nat × Nat)
  | 0, _ => []
  | n + 1, zs => match rowLow s p ms g zs with
    | none => []
    | some low => match rowRuns s p ms g n (zs + 1) with
      | (l, f, h) :: r => if l = low then (low, zs, h + 1) :: r else (low, zs, 1) :: (l, f, h) :: r
      | [] => [(low, zs, 1)]

/-- The STRIPE_ID nearest to a known one whose low 32 bits are `low`. -/
def nearId (known low : Nat) : Nat :=
  let base := known / 2 ^ 32 * 2 ^ 32 + low
  if base > known + 2 ^ 31 ∧ base ≥ 2 ^ 32 then base - 2 ^ 32 else if base + 2 ^ 31 < known then base + 2 ^ 32 else base

/-! ## Sectors of a stripe -/

/-- A sector carries a stripe's STRIPE_ID_LOW, and its guard holds (R233). -/
def ofStripe (low : Nat) (b : Bytes) : Bool :=
  inStripe b && (metaOf b).stripeLow == low

/-- The metadata of a data column's sector, decoded from the stripe's other columns (R231): its coded bytes, all zero for a fill sector. -/
def decodedMeta (s : State) (p : Nat) (ms : List MediaItem) (g : Seg) (low col zs : Nat) : Option Meta :=
  let src := ((List.range g.cols.length).filter (fun j => j != col)).filterMap (fun j => match colAt s p ms g j zs with
    | some b => if ofStripe low b then some (j, coveredBytes (slice b 4096 64)) else none
    | none => none)
  (recoverCol (segCode s p g) col src).map (fun v =>
    withCovered { Meta.zero with stripeLow := low, relocated := g.cls != Cls.host, cls := g.cls, kind := if allZero v then Kind.fill else Kind.data } v)

/-- The metadata of a data column's sector, read or else decoded; `none` when it can be neither. -/
def cellMeta (s : State) (p : Nat) (ms : List MediaItem) (g : Seg) (low col zs : Nat) : Option Meta :=
  match colAt s p ms g col zs with
  | some b => if ofStripe low b && ((metaOf b).kind == Kind.data || (metaOf b).kind == Kind.fill) then some (metaOf b) else decodedMeta s p ms g low col zs
  | none => decodedMeta s p ms g low col zs

/-- The metadata of every data sector of a stripe that can be known, without fill. -/
def cellMetas (s : State) (p : Nat) (ms : List MediaItem) (g : Seg) (low first height : Nat) : List Meta :=
  ((List.range (height * g.k)).filterMap (fun i => cellMeta s p ms g low (i % g.k) (first + i / g.k))).filter (fun m => m.kind != Kind.fill)

/-! ## Records -/

/-- The durable records of a pool that replay runs over, from the last cut on: those of its own intent log, or the partner's mirror of them (R163). -/
def replayRecs (s : State) (p : Nat) (mirror : Bool) : List LogRec :=
  if mirror then s.pair.recs.filter (fun r => r.pool == p)
  else s.ilog.recs.filter (fun r => r.pool == p && r.durable && decide ((poolOf s p).cutRec ≤ r.seq))

/-- The header that a STRIPE record of a segment slot gives to a stripe at `first`: the record has no CLOSE_REASON and no count. -/
def recordedHdr (recs : List LogRec) (slot low first : Nat) : Option StripeHdr :=
  recs.findSome? (fun r => match r.body with
    | .stripe id g f h _ fl fws lws => if g = slot ∧ f = first ∧ id % 2 ^ 32 = low then some { id := id, first := f, height := h, reason := 0, flags := fl, fws := fws, lws := lws, count := 0 } else none
    | _ => none)

/-- The header of a stripe of an unsealed segment: its height and the rest from its STRIPE record where there is one, else from its sectors. Without a record it never committed when it opened after the cut (R135, R173). -/
def runHdr (s : State) (p : Nat) (ms : List MediaItem) (g : Seg) (recs : List LogRec) (slot cut : Nat) (scan : Bool) (x : Nat × Nat × Nat) : StripeHdr :=
  let l := cellMetas s p ms g x.1 x.2.1 x.2.2
  let seqs := l.map Meta.wseq
  match recordedHdr recs slot x.1 x.2.1 with
  | some h => { h with count := l.length }
  | none =>
    let id := nearId cut x.1
    let gone := !scan && decide (cut ≤ id)
    { id := id, first := x.2.1, height := x.2.2, reason := if gone then 5 else 0, flags := (if gone then 1 else 0) + (if l.any Meta.atomic then 4 else 0)
      fws := seqs.foldl min (seqs.headD 0), lws := seqs.foldl max 0, count := l.length }

/-- A segment with its stripes: sealed where some column holds a valid trailer, else delimited by STRIPE_ID_LOW (R136). -/
def withStripes (s : State) (p : Nat) (ms : List MediaItem) (recs : List LogRec) (slot cut : Nat) (scan : Bool) (g : Seg) : Seg :=
  match (List.range g.cols.length).findSome? (fun j => sealedBy s p ms g j) with
  | some x => x
  | none =>
    let l := rowRuns s p ms g (g.sectors - 2) 1
    { g with hdrs := l.map (runHdr s p ms g recs slot cut scan), next := (l.map (fun x => x.2.1 + x.2.2)).foldl max 1 }

/-! ## The checkpoint and its directories (R150, R163) -/

/-- A map page at a triple pointer: the first of its three copies that passes its checks (Table 04-5). -/
def pageAt (s : State) (p : Nat) (ms : List MediaItem) (ptr : Bytes) (ok : Bytes → Bool) : Option Bytes :=
  (List.range 3).findSome? (fun i =>
    let v := fieldAt ptr (4 * i) 4
    if mState s p (v / 2 ^ 26) = Ms.active then
      match mediaAt ms (v / 2 ^ 26, v % 2 ^ 26) (fieldAt ptr 12 4) with
      | some b => if ok b then some b else none
      | none => none
    else none)

/-- The page address that a map page carries, reserved bits ignored (Table 04-3). -/
def carriedAddr (b : Bytes) : Nat :=
  let a := fieldAt b (4096 + 24) 8
  pageAddress (bitsAt a 56 4) (bitsAt a 40 12) (bitsAt a 0 40)

/-- What recovery has read of a checkpoint. -/
structure Found where
  number  : Nat
  cut     : Nat
  seqHigh : Nat
  cursor  : Nat
  root    : Bytes
  pages   : Nat

/-- The fields of a checkpoint page. -/
def parseCkpt (b : Bytes) : Found :=
  { number := fieldAt b 32 8, cut := fieldAt b 40 8, seqHigh := fieldAt b 48 8, cursor := fieldAt b 56 8, root := slice b 64 16, pages := fieldAt b 80 4 }

/-- No checkpoint has completed: no directory, and every stripe counts. -/
def Found.none : Found :=
  { number := 0, cut := 0, seqHigh := 0, cursor := 0, root := zeros 16, pages := 0 }

/-- A copy of the pool's checkpoint page is valid: its page checks, R607 and CHECKPOINT_CRC. -/
def ckptCopyOk (s : State) (p : Nat) (b : Bytes) : Bool :=
  pageOk (pageAddress Page.checkpoint 0 0) b && checkpointOk (payloadOf b) && slice b 16 16 == padTo 16 (rdBytes s Obj.POOL_UUID p)

/-- The checkpoint that the newest CHECKPOINT record names; `none` when its page has no valid copy. -/
def recordedCkpt (s : State) (p : Nat) (ms : List MediaItem) (recs : List LogRec) : Option Found :=
  match leastBy (fun e => 2 ^ 64 - e.1) (recs.filterMap (fun r => match r.body with
    | .checkpoint n ptr => some (n, ptr)
    | _ => none)) with
  | none => some Found.none
  | some e => (pageAt s p ms e.2 (ckptCopyOk s p)).map (fun b => parseCkpt (payloadOf b))

/-- The checkpoint that a scan takes: the highest CKPT_NUMBER among the valid pages (R164 step 3); an invalid page is passed over (R607). -/
def scannedCkpt (s : State) (p : Nat) (ms : List MediaItem) : Found :=
  (leastBy (fun (e : Found) => 2 ^ 64 - e.number) ((ms.filter (fun x => x.data.length == 4160 && x.zone != 0 && mState s p x.member == Ms.active && ckptCopyOk s p x.data)).map
    (fun x => parseCkpt (payloadOf x.data)))).getD Found.none

/-- The pages that the root chain lists from a page on, as pointer and content; `none` where a page has no readable copy. -/
def rootChain (s : State) (p : Nat) (ms : List MediaItem) : Nat → Nat → Bytes → Option (List (Bytes × Bytes) × List (Nat × Bytes))
  | 0, _, _ => some ([], [])
  | n + 1, i, ptr =>
    if allZero ptr then some ([], [])
    else match pageAt s p ms ptr (pageOk (pageAddress Page.root 0 i)) with
      | none => none
      | some b =>
        let l := ((List.range 255).map (fun e => slice b (16 * e) 16)).filter (fun x => !allZero x)
        let read := l.map (fun x => (x, pageAt s p ms x (fun y => pageOk (carriedAddr y) y)))
        if read.any (fun x => x.2.isNone) then none
        else (rootChain s p ms n (i + 1) (slice b 4080 16)).map (fun r => (read.filterMap (fun x => x.2.map (fun y => (x.1, y))) ++ r.1, (i, ptr) :: r.2))

/-- The segment slots that a segment directory page describes, those that are not FREE (Table 04-4). -/
def parseSegDir (s : State) (p : Nat) (b : Bytes) : List (Nat × Seg) :=
  (List.range 8).filterMap (fun i =>
    let e := slice b (512 * i) 512
    let w := fieldAt e 10 1
    if fieldAt e 8 1 = 0 ∨ fieldAt e 8 1 > 4 then none
    else some (carriedAddr b % 2 ^ 40 * 8 + i,
      { st := fieldAt e 8 1, seq := fieldAt e 0 8, cls := fieldAt e 9 1 % 8, table := fieldAt e 11 1, k := fieldAt e 12 1, m := fieldAt e 13 1, l := fieldAt e 14 1, f := fieldAt e 15 1
        height := rdN s Obj.POOL_STRIPE_HEIGHT p, sectors := (poolOf s p).sectors, next := 1, hdrs := []
        cols := (List.range w).map (fun j => (fieldAt e (24 + 4 * j) 4 / 2 ^ 26, fieldAt e (24 + 4 * j) 4 % 2 ^ 26))
        sealing := false, chosen := false, copies := 0, passBy := 0, resets := [], hint := fieldAt e 16 4, aligned := false }))

/-- A segment is the one that a STRIPE record names: the row at FIRST_SECTOR carries the record's STRIPE_ID_LOW. -/
def namedBy (s : State) (p : Nat) (ms : List MediaItem) (g : Seg) (recs : List LogRec) (slot : Nat) : Bool :=
  recs.any (fun r => match r.body with
    | .stripe id x f .. => x == slot && rowLow s p ms g f == some (id % 2 ^ 32)
    | _ => false)

/-- Place a segment that no directory describes: in the slot that a STRIPE record gives it, else in the lowest free one (R172). -/
def placeSeg (s : State) (p : Nat) (ms : List MediaItem) (recs : List LogRec) (t : Tbl Seg) (g : Seg) : Tbl Seg :=
  let slots := recs.filterMap (fun r => match r.body with
    | .stripe _ x .. => some x
    | _ => none)
  let free (x : Nat) : Bool := (Tbl.get t x).isNone
  match slots.find? (fun x => free x && namedBy s p ms g recs x) with
  | some x => Tbl.set t x g
  | none => Tbl.set t (Tbl.firstFree t 0 (t.length + 1)) g

/-- The segment slots of the pool: the checkpoint's, without those freed since, with those that a SEGMENT_RESET names and those opened since. The headers fill in what a directory entry does not hold. -/
def recoverSegs (s : State) (p : Nat) (ms : List MediaItem) (recs : List LogRec) (dirs : List (Nat × Seg)) (cut : Nat) (scan : Bool) : Tbl Seg :=
  let hs := headersOn s p ms
  let freed (slot : Nat) : Bool := recs.any (fun r => r.body == .segFreed slot)
  let newer (g : Seg) : Bool := hs.any (fun h => decide (g.seq < h.1) && h.2.cols.any (fun c => g.cols.contains c))
  let known := (dirs.filter (fun e => !freed e.1 && !newer e.2)).foldl (fun t e =>
    let g := match Tbl.get hs e.2.seq with
      | some h => { e.2 with height := h.height, sectors := h.sectors }
      | none => e.2
    Tbl.set t e.1 { g with st := if recs.any (fun r => r.body == .segReset e.1 g.seq) then 4 else g.st }) []
  let all := (hs.filter (fun h => !dirs.any (fun e => e.2.seq == h.1))).foldl (fun t h => placeSeg s p ms recs t h.2) known
  Tbl.mapV all (fun slot g => withStripes s p ms recs slot cut scan g)

/-! ## Leaves -/

/-- Where a triple pointer's page lies: the segment slot whose first column its first locator names, and the zone sector. -/
def ptrPlace (segs : Tbl Seg) (ptr : Bytes) : Option (Nat × Nat) :=
  let v := fieldAt ptr 0 4
  (segs.find? (fun e => e.2.cols.headD (64, 0) == (v / 2 ^ 26, v % 2 ^ 26))).map (fun e => (e.1, fieldAt ptr 12 4))

/-- A volume of the pool whose record is PRESENT and not ID_HELD (R163). -/
def replayable (s : State) (p v : Nat) : Bool :=
  (rdN s Obj.VOLUME_STATE v == 1 || rdN s Obj.VOLUME_STATE v == 2) && rdN s Obj.VOLUME_POOL v == p

/-- The entries of a leaf: from the image in place of its array copy (R207), else from the first copy that passes its checks. -/
def leafEntriesOf (s : State) (p : Nat) (ms : List MediaItem) (key slot zs : Nat) : Option (List Entry) :=
  match Tbl.get s.map.image key with
  | some l => some l
  | none => match Tbl.get (poolOf s p).segs slot with
    | none => none
    | some g => ((List.range 3).findSome? (fun j => match colAt s p ms g j zs with
      | some b => if leafOk key b then some b else none
      | none => none)).map (fun b => parseLeaf (payloadOf b))

/-- What the device can know of the version at a place: the sector's metadata, read or decoded, and its stripe. -/
def verAt (s : State) (p : Nat) (ms : List MediaItem) (slot zs col v lba : Nat) : Option Ver :=
  match Tbl.get (poolOf s p).segs slot with
  | none => none
  | some g => match stripeAt g zs with
    | none => none
    | some h => match cellMeta s p ms g (h.id % 2 ^ 32) col zs with
      | some m => if m.vol = v ∧ m.lba = lba then some (verOfMeta m h.id) else none
      | none => none

/-- The versions of a grain's sectors follow the location of its entry. -/
def loadVers (s : State) (p : Nat) (ms : List MediaItem) (key : Nat) (e : Entry) : State :=
  let v := key / 2 ^ 40
  forRange (grainSize s v) (fun j t =>
    let lba := key % 2 ^ 40 * grainSize s v + j
    match locateAt t v lba e with
    | none => dropVer t v lba
    | some (slot, zs, col) => match verAt t p ms slot zs col v lba with
      | some x => setVer t v lba x
      | none => dropVer t v lba) s

/-- Set a grain's entry and what is known of its sectors. -/
def loadEntry (s : State) (p : Nat) (ms : List MediaItem) (key : Nat) (e : Entry) : State :=
  loadVers (setEntry s key e) p ms key e

/-- Take a leaf into the map: its entries, and its place on the members. An image leaf differs from the array, so it stays resident and dirty. -/
def loadLeaf (s : State) (p : Nat) (ms : List MediaItem) (key : Nat) (loc : Option (Nat × Nat)) : State :=
  let image := (Tbl.get s.map.image key).isSome
  let t := { s with map := { s.map with leaves := Tbl.set s.map.leaves key { resident := image, dirty := image, ref := false, loc := loc } } }
  let base := key / 2 ^ 31 * 2 ^ 40 + key % 2 ^ 31 * 512
  match leafEntriesOf s p ms key (loc.getD (0, 0)).1 (loc.getD (0, 0)).2 with
  | none => t
  | some l => forEach (l.zip (List.range 512)) (fun e u => if e.1 = .unmapped then u else loadEntry u p ms (base + e.2) e.1) t

/-- The leaves that a directory page locates. -/
def dirLeaves (b : Bytes) : List (Nat × (Nat × Nat)) :=
  let a := carriedAddr b
  let base := bitsAt a 40 12 * 2 ^ 31 + a % 2 ^ 40 * 512
  ((parseLeaf (payloadOf b)).zip (List.range 512)).filterMap (fun e => match e.1 with
    | .array slot zs _ => some (base + e.2, (slot, zs))
    | _ => none)

/-- The map of a pool's volumes, empty. -/
def clearMap (s : State) (p : Nat) : State :=
  let mine (shift k : Nat) : Bool := rdN s Obj.VOLUME_POOL (k / 2 ^ shift) == p
  { s with map := { s.map with entries := Tbl.filterK s.map.entries (fun k => !mine 40 k), vers := Tbl.filterK s.map.vers (fun k => !mine 40 k), leaves := Tbl.filterK s.map.leaves (fun k => !mine 31 k) } }

/-- The checkpoint is loaded: segment slots, pages, directories and leaves. Zones, segment sequence and stripe id follow the segments found (R132). -/
def loadCheckpoint (s : State) (p : Nat) (ms : List MediaItem) (recs : List LogRec) (c : Found) (pages : List (Bytes × Bytes)) (roots : List (Nat × Bytes)) (scan : Bool) : State :=
  let typed (n : Nat) : List (Bytes × Bytes) := pages.filter (fun e => carriedAddr e.2 / 2 ^ 56 == n)
  let segs := recoverSegs s p ms recs ((typed Page.segDir).flatMap (fun e => parseSegDir s p e.2)) c.cut scan
  let place (l : List (Nat × Bytes)) : List (Nat × (Nat × Nat)) := l.filterMap (fun e => (ptrPlace segs e.2).map (fun x => (e.1, x)))
  let kept := pages.filter (fun e => let a := carriedAddr e.2; a / 2 ^ 56 != Page.directory || replayable s p (bitsAt a 40 12))
  let t := modPool (clearMap s p) p (fun y => { y with
    segs := segs
    zones := segs.foldl (fun a e => e.2.cols.foldl (fun b c => Tbl.update b c.1 [] (fun l => l ++ [c.2])) a) []
    pages := (place (kept.map (fun e => (carriedAddr e.2, e.1)) ++ roots.map (fun e => (pageAddress Page.root 0 e.1, e.2)))).foldl (fun a e => Tbl.set a e.1 e.2) []
    dirtyPages := []
    nextSeg := (segs.map (fun e => e.2.seq + 1)).foldl max y.nextSeg
    nextStripe := (segs.flatMap (fun e => e.2.hdrs.map (fun h => h.id + 1))).foldl max y.nextStripe })
  let dirs := (kept.filter (fun e => carriedAddr e.2 / 2 ^ 56 == Page.directory)).flatMap (fun e => dirLeaves e.2)
  let u := forEach dirs (fun e a => loadLeaf a p ms e.1 (some e.2)) t
  let more := (u.map.image.map Prod.fst).filter (fun k => replayable u p (k / 2 ^ 31) && (Tbl.get u.map.leaves k).isNone)
  let v := forEach more (fun k a => loadLeaf a p ms k none) u
  wr (wr v Obj.MAP_CHECKPOINT_NUMBER p (c.number : Nat)) Obj.MAP_CUT_STRIPE_ID p (c.cut : Nat)

/-! ## The loop of R163 -/

/-- The version an entry locates wins over a copy under R155: by WRITE_SEQ, then RELOCATED, then STRIPE_ID. -/
def verWins (t x : Ver) : Bool :=
  decide (t.wseq > x.wseq) || (t.wseq == x.wseq && ((t.relocated && !x.relocated) || (t.relocated == x.relocated && decide (t.stripe > x.stripe))))

/-- An ATOMIC record of the pool covers a WRITE_SEQ of a volume. -/
def coveredBy (recs : List LogRec) (v wseq : Nat) : Bool :=
  recs.any (fun r => match r.body with
    | .atomic x first n => x == v && decide (first ≤ wseq ∧ wseq < first + n)
    | _ => false)

/-- A copy of a grain takes its entry: it revives no grain when it is relocated, and a target that can be neither read nor decoded loses to it. -/
def takesEntry (s : State) (key lba : Nat) (x : Ver) : Bool :=
  match entryOfGrain s key with
  | .unmapped => !x.relocated
  | .lost => !x.relocated
  | _ => match verOf s (key / 2 ^ 40) lba with
    | some t => !verWins t x
    | none => true

/-- One data sector of a replayed stripe; `none` when its metadata can be neither read nor decoded. Counts sectors of atomic writes that a scan applies without a record. -/
def replayCell (s : State) (p : Nat) (ms : List MediaItem) (recs : List LogRec) (scan : Bool) (slot : Nat) (g : Seg) (h : StripeHdr) (i : Nat) : Option State :=
  let zs := h.first + i / g.k
  let col := i % g.k
  match cellMeta s p ms g (h.id % 2 ^ 32) col zs with
  | none => none
  | some m =>
    let key := grainKey s m.vol m.lba
    let e : Entry := .array slot zs col
    if m.kind = Kind.fill ∨ !replayable s p m.vol ∨ (m.atomic ∧ !scan ∧ !coveredBy recs m.vol m.wseq) then some s
    else
      let t := if m.atomic ∧ scan then bump s Obj.ATOMIC_UNRECORDED p 1 else s
      if grainAt s m.vol m.lba ≠ 0 ∨ !takesEntry s key m.lba (verOfMeta m h.id) then some t
      else some (loadEntry (dirtyLeaf t key) p ms key e)

/-- The data sectors of one stripe in stream order. Replay stops for the pool at a sector that cannot be known: an ERROR event names the pool and the STRIPE_ID. -/
def replayStripe (s : State × Bool) (p : Nat) (ms : List MediaItem) (recs : List LogRec) (scan : Bool) (slot : Nat) (h : StripeHdr) : State × Bool :=
  match s.2, Tbl.get (poolOf s.1 p).segs slot with
  | true, some g => match (List.range (h.height * g.k)).foldl (fun a i => a.bind (fun t => replayCell t p ms recs scan slot g h i)) (some s.1) with
    | some t => (t, true)
    | none => (raise s.1 (ev 0x03 163) .error Src.pool p h.id, false)
  | _, _ => s

/-- A DEALLOCATE record: whole grains of its range that an older version holds become UNMAPPED (R157, R163). -/
def replayDealloc (s : State) (v lba n wseq : Nat) : State :=
  let g := grainSize s v
  forRange (n / g + 1) (fun i t =>
    let first := (lba + g - 1) / g + i
    let key := v * 2 ^ 40 + first
    let old : Bool := match entryOfGrain t key with
      | .lost => true
      | .array .. => (match verOf t v (first * g) with
        | some x => decide (x.wseq < wseq)
        | none => true)
      | _ => false
    if first * g + g ≤ lba + n ∧ old then forRange g (fun j u => dropVer u v (first * g + j)) (setEntry (dirtyLeaf t key) key .unmapped) else t) s

/-- One record of the loop: host-, dredge- and rebuild-class stripes and deallocates; metadata-class stripes are not replayed. -/
def replayRec (s : State × Bool) (p : Nat) (ms : List MediaItem) (recs : List LogRec) (r : LogRec) : State × Bool :=
  match r.body with
  | .stripe id slot f h cls fl fws lws => if cls ≤ Cls.rebuild then replayStripe s p ms recs false slot { id := id, first := f, height := h, reason := 0, flags := fl, fws := fws, lws := lws, count := 0 } else s
  | .dealloc v lba n wseq _ _ => if s.2 ∧ replayable s.1 p v then (replayDealloc s.1 v lba n wseq, true) else s
  | _ => s

/-- The stripes of a scan: host, dredge and rebuild class, at or above CUT_STRIPE_ID, in ascending STRIPE_ID; ABANDONED ones never committed (R164 step 4). -/
def scanStripes (s : State) (p cut : Nat) : List (Nat × StripeHdr) :=
  sortBy (fun e => e.2.id) ((poolOf s p).segs.flatMap (fun e => if e.2.cls ≤ Cls.rebuild then ((e.2.hdrs.filter (fun h => decide (cut ≤ h.id) && h.flags % 2 == 0)).map (fun h => (e.1, h))) else []))

/-- Recover a pool's map from what the members answer: by replay of records (R163), or by scan (R164). `false`: a map page or a replayed sector has no readable copy, and the pool is FAILED. -/
def recoverMap (s : State) (p : Nat) (ms : List MediaItem) (recs : List LogRec) (scan : Bool) : State × Bool :=
  match (if scan then some (scannedCkpt s p ms) else recordedCkpt s p ms recs) with
  | none => (s, false)
  | some c => match rootChain s p ms c.pages 0 c.root with
    | none => (s, false)
    | some (pages, roots) =>
      let t := loadCheckpoint s p ms recs c pages roots scan
      let r := if scan then (scanStripes t p c.cut).foldl (fun a e => replayStripe a p ms recs true e.1 e.2) (wr t Obj.ATOMIC_UNRECORDED p 0, true)
        else recs.foldl (fun a x => replayRec a p ms recs x) (t, true)
      let u := wr r.1 Obj.MAP_LAST_RECOVERY p (if scan then 2 else 1)
      let v := if scan ∧ rdN u Obj.ATOMIC_UNRECORDED p ≠ 0 then raiseOpen u (ev 0x03 164) .error Src.pool p else u
      (noteLanes (forRange 64 (fun i a => noteZones a p i) v) p, r.2)

end Sys2Proof.Machine
end

