-- ==== Sys2Proof/Machine/Assemble.lean ====
section
/-! DEFINITION. Assembly of a pool: the superblock adopted (R98, R132), segment and protected-region slots settled once the map has been recovered (R173, R209), and catch-up of a mirrored pool (R414). -/

namespace Sys2Proof.Machine

open Sys2Proof

/-! ## The superblock -/

/-- Ports whose drives an assembly of the pool looks at: READY, and a candidate or a member of this pool. -/
def assemblyPorts (s : State) (p : Nat) : List Nat :=
  (List.range 64).filter (fun port => rdN s Obj.DPORT_STATE port == Dp.ready && (candidate s port || decide (rdN s Obj.DRIVE_MEMBER_OF port / 64 = p)))

/-- The superblock that a port's drive holds for this pool: valid, and of its POOL_UUID or, where none is known, of its number. -/
def sbAt (s : State) (p port : Nat) : Option Super :=
  let b := (dportOf s port).sb
  if !superOk b then none
  else
    let x := parseSuper b
    let u := rdBytes s Obj.POOL_UUID p
    if (if allZero u then x.pool == p else x.uuid == u) then some x else none

/-- The superblock that is adopted: the highest SB_GENERATION (R98). -/
def adopted (s : State) (p : Nat) : Option Super :=
  leastBy (fun x => 2 ^ 64 - x.gen) ((assemblyPorts s p).filterMap (sbAt s p))

/-- The port of a member table entry: the drive with its NGUID, or its EUI64 where that is zero, whose own superblock does not name another pool. -/
def portOf (s : State) (p : Nat) (x : Super) (e : SbMember) : Option Nat :=
  (assemblyPorts s p).find? (fun port =>
    (if allZero e.nguid then (dportOf s port).eui == e.eui else rdBytes s Obj.DRIVE_NGUID port == e.nguid) &&
    (!superOk (dportOf s port).sb || (parseSuper (dportOf s port).sb).uuid == x.uuid))

/-- Take one entry of the adopted member table: an ACTIVE member that is not reachable is FAILED with cause ABSENT (Table 06-1). Its next superblock slots follow those of its newest copy (R131). -/
def adoptMember (s : State) (p : Nat) (x : Super) (i : Nat) : State :=
  let e := x.members.getD i { st := 0, nsid := 0, nguid := zeros 16, eui := 0, zones := 0, join := 0 }
  let j := mInst p i
  if e.st = 0 then wr s Obj.MEMBER_STATE j (Ms.none : Nat)
  else
    let a := wr (wr (wrBytes (modPool s p (fun y => { y with joined := Tbl.set y.joined i e.join, zonesOf := Tbl.set y.zonesOf i e.zones })) Obj.MEMBER_NGUID j e.nguid) Obj.MEMBER_NSID j (e.nsid : Nat))
      Obj.MEMBER_ZONES j ((x.zones + 1 : Nat) : Int)
    match portOf s p x e with
    | some port =>
      let b := wr (modPool a p (fun y => { y with sbNext := Tbl.set y.sbNext i ((dportOf s port).sbSlot / 2 + 1) })) Obj.MEMBER_PORT j port
      if e.st = 1 then wr (wr b Obj.MEMBER_STATE j (Ms.active : Nat)) Obj.DRIVE_MEMBER_OF port (j : Nat) else wr b Obj.MEMBER_STATE j (if e.st = 2 then (Ms.failed : Nat) else Ms.removed)
    | none =>
      if e.st = 1 then raiseOpen (wr (wr a Obj.MEMBER_STATE j (Ms.failed : Nat)) Obj.MEMBER_FAIL_CAUSE j 8) (ev 0x05 226) .error Src.member j
      else wr a Obj.MEMBER_STATE j (if e.st = 2 then (Ms.failed : Nat) else Ms.removed)

/-- Take one record of the adopted volume table (Table 03-14). -/
def adoptVolume (s : State) (p v : Nat) (x : SbVolume) : State :=
  let a := wr (wr (wr (wr (wr s Obj.VOLUME_POOL v p) Obj.VOLUME_CAPACITY v (x.cap : Nat)) Obj.VOLUME_GRAIN v (if x.grain16 then 1 else 0)) Obj.VOLUME_KEY_SLOT v (x.keySlot : Nat)) Obj.VOLUME_STATE v (if x.held then 3 else 1)
  let b := wrB a Obj.VOLUME_TAGGED v x.tagged
  modVol b v (fun y => { y with deleting := x.held, heldFor := 0 })

/-- The floor that the intent log and the partner's mirrored records hold for a kind of value: their highest bound (R132, R194). -/
def heldFloor (s : State) (kind p : Nat) : Nat :=
  (s.pair.recs.map (fun r => match r.body with
    | .floor k b => if k = kind ∧ (kind = Fl.wseq ∨ r.pool = p) then b else 0
    | .stripe id _ _ _ _ _ _ lws => if r.pool ≠ p then 0 else if kind = Fl.stripe then id + 1 else if kind = Fl.wseq then lws + 1 else 0
    | _ => 0)).foldl max (floorOf s kind p)

/-- Where a reshape goes on: the cursor of the pool's last RESHAPE record, in its own log or in the partner's mirror of it, else of the superblock (R262). -/
def lastCursor (s : State) (p : Nat) (n : Nat) : Nat :=
  ((if (poolOf s p).logless then [] else s.ilog.recs) ++ s.pair.recs).foldl (fun n r => match r.body with
    | .reshape k => if r.pool = p then k else n
    | _ => n) n

/-- Adopt a superblock: settings, geometry, floors, members and volumes. A code table, k, rebuild reserve or over-provision written while the pool was OFFLINE stays: the first two as the target of a reshape (R259), the others in the next generation (R131). -/
def adoptSuper (s : State) (p : Nat) (x : Super) : State :=
  let want := (rdN s Obj.POOL_CODE_TABLE p, rdN s Obj.POOL_K p)
  let mine := (poolOf s p).edited
  let a := wr (wr (wr (wrBytes s Obj.POOL_UUID p x.uuid) Obj.POOL_SB_GENERATION p (x.gen : Nat)) Obj.POOL_CODE_TABLE p (x.table : Nat)) Obj.POOL_K p (x.k : Nat)
  let b := wr (wr (wr (wr a Obj.POOL_STRIPE_HEIGHT p (x.height : Nat)) Obj.POOL_REBUILD_RESERVE p (if mine then rd a Obj.POOL_REBUILD_RESERVE p else (x.reserve : Nat))) Obj.POOL_OVERPROVISION p
    (if mine then rd a Obj.POOL_OVERPROVISION p else (x.overProv : Nat))) Obj.POOL_MEMBER_KIND p (x.kind : Nat)
  let c := modPool (wr b Obj.POOL_ZONE_SIZE p ((x.sectors / 256 : Nat) : Int)) p (fun y =>
    { y with edited := false, creator := x.creator, zm := x.zones, sectors := x.sectors, custom := if x.code.glob.isEmpty ∨ x.table < 0x10 ∧ !x.reshape then none else some x.code,
             nextSeg := max (max y.nextSeg x.segFloor) (heldFloor s Fl.segment p), nextStripe := max (max y.nextStripe x.strFloor) (heldFloor s Fl.stripe p), table := some x.table,
             reshape := if x.reshape then some (y.reshape.getD { kind := 1, leaving := 0, moving := none, oldTable := none }) else none })
  let d := { c with sluice := { c.sluice with wseq := max (max c.sluice.wseq x.seqFloor) (heldFloor c Fl.wseq 0) } }
  let e := forRange 64 (fun i t => adoptMember t p x i) d
  let f := forEach x.volumes (fun v t => if v.2.present then adoptVolume t p v.1 v.2 else t) e
  let g := if x.reshape then wr (wr f Obj.RESHAPE_CURSOR p (lastCursor f p x.cursor : Nat)) Obj.RESHAPE_KIND p ((((poolOf f p).reshape.map Reshape.kind).getD 0 : Nat) : Int)
    else wr (wr f Obj.RESHAPE_CURSOR p 0) Obj.RESHAPE_KIND p 0
  let h := reportShape g p x.table (classCode g p Cls.host).2
  if mine ∧ want ≠ (x.table, x.k) then wr (wr h Obj.RESHAPE_TARGET_TABLE p (want.1 : Nat)) Obj.RESHAPE_TARGET_K p (want.2 : Nat)
  else wr (wr h Obj.RESHAPE_TARGET_TABLE p (x.table : Nat)) Obj.RESHAPE_TARGET_K p (x.k : Nat)

/-! ## The map -/

/-- The pool's own records are there to replay: none of its replay range is unreadable (R163, R214). -/
def ownRecords (s : State) (p : Nat) : Bool :=
  !replayUnread s p && !(poolOf s p).logless && s.ilog.recs.any (fun r => r.pool == p && !isFloor r)

/-- The partner's mirror of the pool's records is there to replay (R163, R195). -/
def mirrorRecords (s : State) (p : Nat) : Bool :=
  s.pair.recs.any (fun r => r.pool == p)

/-- The grains of a pool that the lost list holds whole, whose copies are not themselves written as BAD_DATA, are LOST: the list was kept in LOST records, and a leaf from before one does not show it (R250, R252). -/
def applyLost (s : State) (p : Nat) : State :=
  forEach (poolOf s p).lost (fun r t =>
    let g := grainSize t r.vol
    forRange (r.count / g + 1) (fun i u =>
      let first := r.lba / g + i
      let key := r.vol * 2 ^ 40 + first
      let whole := (List.range g).all (fun j => onLost u p r.vol (first * g + j))
      let bad := (List.range g).any (fun j => match verOf u r.vol (first * g + j) with
        | some x => x.bad
        | none => false)
      if whole && !bad then forRange g (fun j w => dropVer w r.vol (first * g + j)) (setEntry (dirtyLeaf u key) key .lost) else u) t) s

/-- Recover the map and the segment slots: by replay of the own log's records or of the partner's mirror of them (R163), else by scan (R164). Image leaves have been used. -/
def recoverPool (s : State) (p : Nat) (ms : List MediaItem) (mirror scan : Bool) : State × Bool :=
  let r := recoverMap s p ms (replayRecs s p mirror) scan
  let t := applyLost r.1 p
  let u := modPool t p (fun x => { x with logless := x.logless || mirror || scan })
  ({ u with map := { u.map with image := Tbl.filterK u.map.image (fun k => rdN u Obj.VOLUME_POOL (k / 2 ^ 31) != p) } }, r.2)

/-! ## Settling (R173, R209) -/

/-- Settle the segment slots after the map has been recovered (R173). -/
def settleSegs (s : State) (p : Nat) : State :=
  forEach (poolOf s p).segs (fun e t =>
    let g := e.2
    if g.st = 1 then leaveSeg t p e.1
    else if g.st = 4 then
      (if t.ilog.recs.any (fun r => r.pool == p && r.body == .segFreed e.1 && r.durable) then freeSegment t p e.1
      else
        let live := (List.range g.cols.length).filter (fun j => mState t p (g.cols.getD j (64, 0)).1 == Ms.active)
        freedRecord (forEach live (fun j u => let c := g.cols.getD j (0, 0)
          issueTo u p c.1 (if rdN u Obj.DRIVE_KIND (mPort u p c.1) = 1 then .zoneReport c.2 else .deallocate c.2) (.zone p e.1 j)) (modSeg t p e.1 (fun x => { x with resets := live }))) p e.1)
    else t) s

/-- A durable STRIPE record names a slot's stripe, and for a sector of an atomic write an ATOMIC record covers it: the committed copy is in the map (R159, R209). -/
def slotRecorded (s : State) (p : Nat) (x : Slot) : Bool :=
  let l := (s.ilog.recs ++ s.pair.recs).filter (fun r => r.durable && r.pool == p)
  l.any (fun r => match r.body with
    | .stripe i .. => i == x.stripe
    | _ => false) && (x.atomicRef == 0 || coveredBy l x.md.vol x.md.wseq)

/-- A restored slot loses to the version that the map locates (R155); an equal version is its own copy, already committed. -/
def slotLoses (s : State) (x : Slot) : Bool :=
  match verOf s x.md.vol x.md.lba with
  | some v => v.wseq == x.md.wseq || verWins v (verOfMeta x.md x.stripe)
  | none => false

/-- Write kept slots of one write again: the map points at them, and they go into new host-class stripes with REISSUE, grain by grain; an atomic write gets a new ATOMIC record. -/
def reissueSlots (s : State) (p : Nat) (l : List (Nat × Slot)) : State :=
  match l with
  | [] => s
  | (_, x0) :: _ =>
    let t := forEach l (fun e u =>
      let x := e.2
      let v := x.md.vol
      let key := grainKey u v x.md.lba
      let a := modSlot u e.1 (fun y => { y with st := .dirty, prev := if entryOfGrain u key = .prot e.1 then y.prev else entryOfGrain u key, prevVer := verOf u v x.md.lba })
      let b := if grainAt a v x.md.lba = 0 then setEntry (dirtyLeaf a key) key (.prot e.1) else a
      staleSector (setVer b v x.md.lba (verOfMeta x.md x.stripe)) v x.md.lba) s
    let u := if x0.atomicRef = 0 then t else
      modPool t p (fun y => { y with atomics := y.atomics ++ [{ vol := x0.md.vol, first := x0.atomicRef, count := l.length, qp := 8192, tag := 0, slots := l.map Prod.fst, logged := false }] })
    let lane := (hostLane u p).getD 0
    issueAll (placeAgain u p Cls.host lane (l.map (fun e => { fill := false, landed := true, slot := some e.1, md := e.2.md, data := [], src := none, page := none })) (true, x0.atomicRef != 0)) p

/-- Slots grouped by write, in order of the lowest WRITE_SEQ of each: an atomic write's slots together, the slots of a grain together, any other alone. -/
def slotGroups (s : State) (l : List (Nat × Slot)) : List (List (Nat × Slot)) :=
  let m := sortBy (fun e => e.2.md.wseq) l
  let same (a b : Slot) : Bool :=
    if a.atomicRef ≠ 0 ∨ b.atomicRef ≠ 0 then a.atomicRef == b.atomicRef
    else a.md.vol == b.md.vol && a.md.lba == b.md.lba && a.md.wseq == b.md.wseq ||
      (grainKey s a.md.vol a.md.lba == grainKey s b.md.vol b.md.lba && a.md.wseq + grainAt s b.md.vol b.md.lba == b.md.wseq + grainAt s a.md.vol a.md.lba)
  m.foldl (fun gs e => match gs.findIdx? (fun g => g.any (fun x => same x.2 e.2)) with
    | some i => gs.modify i (fun g => g ++ [e])
    | none => gs ++ [[e]]) []

/-- Settle the restored own slots of a pool (R209). -/
def settleSlots (s : State) (p : Nat) : State :=
  let l := s.prot.filter (fun e => e.2.restored && e.2.pool == p && decide (e.1 < ownSlots))
  let gone (e : Nat × Slot) : Bool := slotRecorded s p e.2 || slotLoses s e.2 || (e.2.atomicRef != 0 && !e.2.acked)
  let t := forEach (l.filter gone) (fun e u => releaseSlot u e.1) s
  noteRestored (forEach (slotGroups s (l.filter (fun e => !gone e))) (fun g u => reissueSlots u p g) t) p

/-! ## Catch-up (R414) -/

/-- The owner's catch-up of a mirrored pool: SYNC start; every slot that is DIRTY or not yet released, marks of completed atomic writes, records after the last cut; SYNC end. -/
def startCatchUp (s : State) (p : Nat) : State :=
  if !(s.pair.joined && rdB s Obj.PAIR_POOL_MIRROR p) then s
  else
    let a := sendMsg (modPair (modPool (wr s Obj.PAIR_POOL_ROLE p (Role.solo : Nat)) p (fun x => { x with catchUp := true })) (fun q => { q with synced := q.synced.filter (fun y => y != p) })) (.sync p true)
    let a := if rdN s Obj.PAIR_CULVERT_DOWN_POLICY 0 = 1 then wrB a Obj.PAIR_POOL_UNMIRRORED p true else a
    let own := a.prot.filter (fun e => decide (e.1 < ownSlots) && e.2.pool == p && (e.2.st == .dirty || e.2.st == .committed))
    let b := forEach own (fun e t => sendMirror t p e.1 0) a
    let c := forEach (slotGroups a (own.filter (fun e => e.2.atomicRef != 0 && e.2.acked))) (fun g t => match g with
      | [] => t
      | (_, x) :: _ => sendMsg t (.atomicMark p x.md.vol x.atomicRef g.length)) b
    let d := forEach (c.ilog.recs.filter (fun r => r.pool == p && r.durable && decide ((poolOf c p).cutRec ≤ r.seq))) (fun r t => sendRecord t r) c
    modPair (sendMsg d (.sync p false)) (fun q => { q with synced := addOnce q.synced p })

/-- Catch-up has ended once the partner has acknowledged everything: the owner is OWNER, and its holds end. -/
def endCatchUp (s : State) (p : Nat) : State :=
  if (poolOf s p).catchUp ∧ s.pair.synced.contains p ∧ !(s.pair.mirWait.any (fun e => match slotOf s e.2 with
      | some x => x.pool == p
      | none => false)) ∧ !(s.pair.recWait.any (fun e => e.2.pool == p)) then
    wrB (wr (modPool s p (fun x => { x with catchUp := false })) Obj.PAIR_POOL_ROLE p (Role.owner : Nat)) Obj.PAIR_POOL_UNMIRRORED p false
  else s

/-- The role of a pool whose reservations this controller has taken (Table 11-12). -/
def takeRole (s : State) (p : Nat) : State :=
  if s.pair.joined then (if rdB s Obj.PAIR_POOL_MIRROR p then startCatchUp s p else wr s Obj.PAIR_POOL_ROLE p (Role.owner : Nat))
  else wr s Obj.PAIR_POOL_ROLE p (Role.solo : Nat)

/-! ## Serving -/

/-- An encrypted volume of the pool while keys are withheld (Table 03-3). -/
def poolLocked (s : State) (p : Nat) : Bool :=
  rdB s Obj.DEVICE_LOCKED 0 && (liveVolumes s).any (fun v => rdN s Obj.VOLUME_POOL v == p && encrypted s v)

/-- Begin to serve: conditions from what assembly found, and the state R101 gives. -/
def serve (s : State) (p : Nat) (scanned : Bool) : State :=
  let resync := scanned && replayUnread s p
  let bad := anyFailed s p || !(slotsIn s p Ms.contained).isEmpty
  let c := 1 + (if bad then 2 else 0) + (if (poolOf s p).reshape.isSome then 8 else 0) + (if resync then 16 else 0) + (if poolLocked s p then 32 else 0)
  let t := wr (wr s Obj.POOL_CONDITIONS p (c : Nat)) Obj.POOL_STATE p (reportedState c : Nat)
  let n := ((poolOf t p).segs.map (fun e => e.2.hdrs.length)).sum
  let u := if resync then wr (wr (modPool t p (fun x => { x with resync := some { slot := 0, idx := 0, started := x.nextStripe } })) Obj.RESYNC_STRIPES_TOTAL p (n : Nat)) Obj.RESYNC_STRIPES_DONE p 0 else t
  considerRebuild (noteDirs (noteLocks (modPool u p (fun x => { x with patrol := { slot := 0, idx := 0, started := s.now } })))) p

/-- After the map: segments and slots settled, ids released where replay allows (R126), a superblock with raised floors (R132), service. -/
def finishAssembly (s : State) (p : Nat) (scanned : Bool) : State :=
  let a := settleSlots (settleSegs (serve s p scanned) p) p
  let held := (a.vols.filter (fun e => rdN a Obj.VOLUME_STATE e.1 == 3 && rdN a Obj.VOLUME_POOL e.1 == p)).map Prod.fst
  let early (v : Nat) : Bool := !scanned && !(a.ilog.recs ++ a.pair.recs).any (fun r => r.pool == p && decide ((poolOf a p).cutRec ≤ r.seq) && (match r.body with
    | .volume w _ 3 => w == v
    | _ => false))
  let c := releaseVols a p (held.filter early)
  let d := reloadRanges (writeSuper (noteHolds (reserveAll c p)) p) p
  if (poolOf d p).logless then requestCkpt d p else d

/-- The operations of an assembled pool resume (R336): a sweep at the lowest segment not yet FREE, with the same boundary, or with a new one where none was recorded; an unfinished phase 1 from step 1. -/
def resumeSweeps (s : State) (p : Nat) : State :=
  let ops := (s.vols.filterMap (fun e => e.2.op.map (fun x => (e.1, x)))).filter (fun e => e.2.pool == p)
  let a := forEach ops (fun e t =>
    if e.2.state = Op.phase1 then modOp t e.1 (fun x => { x with step := 1 })
    else if e.2.state = Op.sweep ∧ e.2.step = 4 then logRec t p (.progress 2 e.1 4 0) else t) s
  let ready (t : State) : State := forEach ops (fun e u => if e.2.state = Op.sweep ∧ e.2.step = 5 ∧ e.2.ckpt = noCkpt then modOp u e.1 (fun x => { x with ckpt := nextCkpt u p }) else u) t
  noteSweep (if sweepsPending (ready a) p then requestCkpt (ready a) p else ready a) p

end Sys2Proof.Machine
end

