-- ==== Sys2Proof/Machine/Pools.lean ====
section
/-! DEFINITION. Pool actions: CREATE, ONLINE, OFFLINE and DESTROY, and their steps (R91 to R99, Tables 03-1 and 03-2). -/

namespace Sys2Proof.Machine

open Sys2Proof

/-! Values of POOL_ACTION_RESULT. -/

def Pr.inProgress : Nat := 1
def Pr.done : Nat := 2
def Pr.members : Nat := 3
def Pr.code : Nat := 4
def Pr.geometry : Nat := 5
def Pr.reservation : Nat := 6
def Pr.state : Nat := 7
def Pr.volumes : Nat := 8
def Pr.ioError : Nat := 9

/-! Codes of POOL_ACTION (Table 03-2). -/

def Pa.create : Nat := 1
def Pa.online : Nat := 2
def Pa.offline : Nat := 3
def Pa.destroy : Nat := 4

/-- Change the running action of a pool. -/
def modAct (s : State) (p : Nat) (f : PoolAct → PoolAct) : State :=
  modPool s p (fun x => { x with action := x.action.map f })

/-- End an action with its result. -/
def endAct (s : State) (p result : Nat) : State :=
  wr (modPool s p (fun x => { x with action := none })) Obj.POOL_ACTION_RESULT p result

/-- Start an action at a step. -/
def startAct (s : State) (p code step : Nat) : State :=
  wr (modPool s p (fun x => { x with action := some { code := code, step := step, left := 0, held := [], result := 0 } })) Obj.POOL_ACTION_RESULT p (Pr.inProgress : Nat)

/-- Go to a step and issue one command to each of its member slots; the step waits for them. -/
def actStep (s : State) (p step : Nat) (l : List Nat) (op : Nat → MOp) : State :=
  forEach l (fun m t => issueTo t p m (op m) (.action p m)) (modAct s p (fun a => { a with step := step, left := l.length }))

/-- Release the reservations that a failed action has taken. -/
def releaseHeld (s : State) (p : Nat) (l : List Nat) : State :=
  forEach l (fun m t => issueTo t p m .resRelease (.takeover p m)) s

/-! ## CREATE (Table 03-1) -/

/-- Sectors per zone of a pool about to be created: the drive's zone on ZNS, POOL_ZONE_SIZE on conventional members (R92). -/
def zoneSectors (s : State) (p port : Nat) : Nat :=
  if rdN s Obj.DRIVE_KIND port = 1 then rdN s Obj.DRIVE_ZONE_SECTORS port else rdN s Obj.POOL_ZONE_SIZE p * 256

/-- Z_m of a set of ports (R93). -/
def zonesMin (s : State) (ports : List Nat) (sectors : Nat) : Nat :=
  (match ports.map (fun q => zonesAt s q sectors) with
    | [] => 0
    | x :: r => r.foldl min x) - 1

/-- The members' kinds and zone sizes agree, and the limits of R148 hold. -/
def geometryOk (s : State) (p : Nat) (ports : List Nat) (w : Nat) : Bool :=
  let q := ports.headD 0
  let ss := zoneSectors s p q
  let zm := zonesMin s ports ss
  ports.all (fun x => rdN s Obj.DRIVE_KIND x == rdN s Obj.DRIVE_KIND q && zoneSectors s p x == ss) && decide (ss ≤ 2 ^ 20) && decide (1 ≤ zm) && decide (zm < 2 ^ 26) && slotLimit ports.length zm w

/-- Step 1 of CREATE: the first check that fails, or IN_PROGRESS. -/
def createCheck (s : State) (p : Nat) : Nat :=
  match usableTable s (rdN s Obj.POOL_CODE_TABLE p) (rdN s Obj.POOL_K p) with
  | none => Pr.code
  | some c =>
    let l := slotsUsed s p
    let ports := l.map (mPort s p)
    if l.length < c.width + rdN s Obj.POOL_REBUILD_RESERVE p then Pr.members
    else if !l.all (fun m => ((List.range 512).filter (fun i => rdN s Obj.MEMBER_PORT i == mPort s p m)).length == 1) then Pr.members
    else if !l.all (fun m => decide (mPort s p m < 64) && candidate s (mPort s p m) && rdN s Obj.DRIVE_NSID (mPort s p m) == rdN s Obj.MEMBER_NSID (mInst p m)) then Pr.members
    else if !geometryOk s p ports c.width then Pr.geometry
    else Pr.inProgress

/-- POOL_ACTION_CREATE: the checks of Table 03-1, then reservations on every member. -/
def execPoolActionCreate (p : Nat) (s : State) : Host.Outcome State Fault Refusal :=
  .next (
    if p ≥ 8 ∨ (poolOf s p).action.isSome then s
    else if poolState s p ≠ Ps.notConfigured then wr s Obj.POOL_ACTION_RESULT p (Pr.state : Nat)
    else
      let r := createCheck s p
      if r = Pr.inProgress then actStep (startAct s p Pa.create 2) p 2 (slotsUsed s p) (fun _ => .resRegister)
      else wr s Obj.POOL_ACTION_RESULT p (r : Nat))

/-- The geometry of a new pool: UUID, Z_m and S, kind, width, tolerance and capacity; its members are ACTIVE. -/
def configurePool (s : State) (p : Nat) : State :=
  let l := slotsUsed s p
  let ports := l.map (mPort s p)
  let ss := zoneSectors s p (ports.headD 0)
  let id := rdN s Obj.POOL_CODE_TABLE p
  let c := (usableTable s id (rdN s Obj.POOL_K p)).getD codeM3
  let a := takeFree (wrBytes s Obj.POOL_UUID p (padTo 16 ((Config.poolUuid p s.freeCtr).take 16)))
  let b := modPool a p (fun x => { x with creator := rdBytes a Obj.SERIAL_NUMBER 0, zm := zonesMin a ports ss, sectors := ss, custom := if id ≥ 0x10 then some c else none })
  let d := wr (wr (wr b Obj.POOL_MEMBER_KIND p (rd b Obj.DRIVE_KIND (ports.headD 0))) Obj.POOL_ZONE_SIZE p ((ss / 256 : Nat) : Int)) Obj.POOL_SB_GENERATION p 0
  let e := forEach l (fun m t => wr (wr (adoptDrive t p m ((poolOf t p).zm + 1)) Obj.MEMBER_STATE (mInst p m) (Ms.active : Nat)) Obj.MEMBER_FAIL_CAUSE (mInst p m) 0) d
  let f := forEach l (fun m t => noteZones t p m) (reportShape e p id c)
  wr (wr f Obj.RESHAPE_TARGET_TABLE p id) Obj.RESHAPE_TARGET_K p (c.k : Nat)

/-- A pool that is not configured: its record, its geometry and its members' states as before CREATE; nothing of it stays in the intent log or in the protected region. -/
def unconfigure (s : State) (p : Nat) : State :=
  let s := noteRestored (forEach (s.prot.filter (fun e => e.2.pool == p && decide (e.1 < ownSlots))) (fun e t => releaseSlot t e.1)
    { s with ilog := { s.ilog with recs := s.ilog.recs.filter (fun r => r.pool != p || isFloor r) } }) p
  let a := forRange 64 (fun m t =>
    let i := mInst p m
    let u := if mState t p m = Ms.none then t else wr (if rdN t Obj.DRIVE_MEMBER_OF (mPort t p m) = i then wr t Obj.DRIVE_MEMBER_OF (mPort t p m) 0xFFFF else t) Obj.MEMBER_STATE i (Ms.none : Nat)
    clr (clr (wrBytes u Obj.MEMBER_NGUID i []) Obj.MEMBER_ZONES i) Obj.MEMBER_ZONES_FREE i) s
  let b := clrAll a [Obj.POOL_SB_GENERATION, Obj.POOL_WIDTH, Obj.POOL_TOLERANCE, Obj.POOL_CAPACITY, Obj.POOL_MEMBER_KIND, Obj.POOL_CONDITIONS, Obj.FREE_ZONE_PERCENT, Obj.PAIR_POOL_ROLE] p
  wr (wrBytes { b with pools := Tbl.erase b.pools p } Obj.POOL_UUID p []) Obj.POOL_STATE p (Ps.notConfigured : Nat)

/-! ## ONLINE -/

/-- The superblock slots of every reachable member are read (R98). -/
def readSupers (s : State) (p : Nat) : State :=
  let l := assemblyPorts s p
  forEach l (fun port t => issue t port (.read 0 0 (zoneSectors t p port)) (.action p (64 + port))) (modAct s p (fun a => { a with step := 1, left := l.length }))

/-- ONLINE begins with the superblocks. -/
def startOnline (s : State) (p : Nat) : State :=
  readSupers (startAct s p Pa.online 1) p

/-- A loss of unknown extent has not been acknowledged: every pool stays OFFLINE until it is (R211). -/
def lossUnknown (s : State) : Bool :=
  s.power.lossHeld

/-- POOL_ACTION_ONLINE: accepted in OFFLINE (Table 03-2); before start-up step 11 it waits for the end of step 10 (R566). -/
def execPoolActionOnline (p : Nat) (s : State) : Host.Outcome State Fault Refusal :=
  .next (
    if p ≥ 8 ∨ (poolOf s p).action.isSome then s
    else if poolState s p ≠ Ps.offline ∨ lossUnknown s then wr s Obj.POOL_ACTION_RESULT p (Pr.state : Nat)
    else if rdN s Obj.STARTUP_STEP 0 < 11 then { s with power := { s.power with online := addOnce s.power.online p } }
    else startOnline s p)

/-- Assembly fails: the pool is FAILED and the reservations taken are released (Table 03-3). -/
def onlineFails (s : State) (p result : Nat) (held : List Nat) : State :=
  let c := withBit (rdN s Obj.POOL_CONDITIONS p) Pc.failed true
  endAct (wr (wr (releaseHeld s p held) Obj.POOL_CONDITIONS p c) Obj.POOL_STATE p (Ps.failed : Nat)) p result

/-- The superblocks have been read: adopt the newest, and take reservations on every reachable member. -/
def onlineAdopt (s : State) (p : Nat) : State :=
  match adopted s p with
  | none => onlineFails s p Pr.members []
  | some x =>
    let t := adoptSuper s p x
    let l := slotsIn t p Ms.active
    if l.length < (classCode t p Cls.host).2.width then onlineFails t p Pr.members []
    else actStep t p 2 l (fun _ => .resRegister)

/-- The members have been read: recover the map by replay or scan, settle, and serve (R163, R164). A map page with no readable copy, or a replayed sector that cannot be known, leaves the pool FAILED with MEMBER_IO_ERROR. -/
def onlineRecover (s : State) (p : Nat) (held : List Nat) (media : List MediaItem) : State :=
  let scan := !ownRecords s p && !mirrorRecords s p
  let r := recoverPool s p media (!ownRecords s p) scan
  if !r.2 then onlineFails r.1 p Pr.ioError held
  else
    let u := endAct (finishAssembly r.1 p scan) p Pr.done
    let w := resumeSweeps (takeRole u p) p
    if rdN w Obj.RESHAPE_TARGET_TABLE p ≠ rdN w Obj.POOL_CODE_TABLE p ∨ rdN w Obj.RESHAPE_TARGET_K p ≠ rdN w Obj.POOL_K p
    then codeReshape w p (rdN w Obj.RESHAPE_TARGET_TABLE p) (rdN w Obj.RESHAPE_TARGET_K p) else w

/-! ## OFFLINE -/

/-- An admitted command names a volume of the pool. -/
def poolBusy (s : State) (p : Nat) : Bool :=
  s.qps.any (fun q => q.2.cmds.any (fun c => dataOp c.opcode && cmdPool s c == p))

/-- POOL_ACTION_OFFLINE: admission to the pool's volumes stops (Table 03-2, R99). -/
def execPoolActionOffline (p : Nat) (s : State) : Host.Outcome State Fault Refusal :=
  .next (
    if p ≥ 8 ∨ (poolOf s p).action.isSome then s
    else if poolState s p = Ps.offline ∨ poolState s p = Ps.notConfigured then wr s Obj.POOL_ACTION_RESULT p (Pr.state : Nat)
    else startAct s p Pa.offline 1)

/-- Stripes, staged positions and map-dirtying work of a pool have ended. -/
def poolQuiet (s : State) (p : Nat) : Bool :=
  (poolOf s p).stripes.isEmpty && (poolOf s p).staged.isEmpty

/-- What stays of a pool's record once it serves no more: its geometry, its members' places, its sequences, its cut and its lost list. -/
def Pool.atRest (x : Pool) : Pool :=
  { Pool.empty with creator := x.creator, zm := x.zm, sectors := x.sectors, custom := x.custom, table := x.table, edited := x.edited, draining := x.draining, nextSeg := x.nextSeg
                    nextStripe := x.nextStripe, joined := x.joined, zonesOf := x.zonesOf, sbNext := x.sbNext, action := x.action, since := x.since, cutRec := x.cutRec, lost := x.lost
                    lostStripes := x.lostStripes, reshape := x.reshape.map (fun r => { r with moving := none }), sweep := x.sweep, mediaErrs := x.mediaErrs, logless := x.logless }

/-- The pool's segments, stripes and map leave memory; what it still holds DIRTY is settled when it next comes online (R209). -/
def restPool (s : State) (p : Nat) : State :=
  let a := modPool (clearMap s p) p Pool.atRest
  let b := { a with prot := Tbl.mapV a.prot (fun n x => if x.pool = p ∧ x.st = .dirty ∧ n < ownSlots then { x with restored := true, qp := 8192, tag := 0, sector := 0, mappedAt := none } else x) }
  noteLeaves (noteStripes (noteLanes (noteRestored b p) p) p)

/-- The pool is OFFLINE: no conditions, no role. -/
def goOffline (s : State) (p : Nat) : State :=
  let a := wr (wr (wr s Obj.POOL_STATE p (Ps.offline : Nat)) Obj.POOL_CONDITIONS p 0) Obj.PAIR_POOL_ROLE p (Role.none : Nat)
  let b := wr (wr (wr (wrB a Obj.DREDGE_PACING p false) Obj.DREDGE_STATE p 0) Obj.PATROL_STATE p 0) Obj.REBUILD_STATE p 0
  let c := forEach ((existing b).filter (fun v => rdN b Obj.VOLUME_POOL v == p)) (fun v t => discardFrames t v (fun _ => true)) b
  endAct (restPool (wrB c Obj.PAIR_POOL_UNMIRRORED p false) p) p Pr.done

/-! ## DESTROY -/

/-- A volume of the pool is ACTIVE or LOCKED. -/
def hasLive (s : State) (p : Nat) : Bool :=
  (liveVolumes s).any (fun v => rdN s Obj.VOLUME_POOL v == p)

/-- POOL_ACTION_DESTROY: accepted OFFLINE with no ACTIVE or LOCKED volume; its members are reserved first, so that they can be written. Where a reset has left the members unknown, their superblocks are read before that. -/
def execPoolActionDestroy (p : Nat) (s : State) : Host.Outcome State Fault Refusal :=
  .next (
    if p ≥ 8 ∨ (poolOf s p).action.isSome then s
    else if poolState s p ≠ Ps.offline then wr s Obj.POOL_ACTION_RESULT p (Pr.state : Nat)
    else if hasLive s p then wr s Obj.POOL_ACTION_RESULT p (Pr.volumes : Nat)
    else if (slotsIn s p Ms.active).isEmpty then readSupers (startAct s p Pa.destroy 1) p
    else actStep (startAct s p Pa.destroy 2) p 2 (slotsIn s p Ms.active) (fun _ => .resRegister))

/-- The last superblock of a pool that is destroyed: no member slot in use, no volume. -/
def emptySuper (s : State) (p : Nat) : Bytes :=
  let x := superOf s p (rdN s Obj.POOL_SB_GENERATION p + 1)
  ({ x with slots := 0, volumes := [], members := x.members.map (fun _ => { st := 0, nsid := 0, nguid := zeros 16, eui := 0, zones := 0, join := 0 }) }).bytes

/-- Ids held by the pool's deleted volumes are released (Table 03-2). -/
def dropHeld (s : State) (p : Nat) : State :=
  forEach ((s.vols.map Prod.fst).filter (fun v => rdN s Obj.VOLUME_STATE v == 3 && rdN s Obj.VOLUME_POOL v == p)) (fun v t =>
    clrAll { t with vols := Tbl.erase t.vols v } [Obj.VOLUME_STATE, Obj.VOLUME_POOL, Obj.VOLUME_CAPACITY, Obj.VOLUME_GRAIN, Obj.VOLUME_KEY_SLOT, Obj.VOLUME_TAGGED] v) s

/-! ## Steps -/

/-- Blocks of all three sequences lie below durable floors, and no epoch holds new stripes: a metadata page can be written (R83, R194). -/
def pageReady (s : State) (p : Nat) : Bool :=
  wseqReady s 1 && decide ((poolOf s p).nextSeg < floorOf s Fl.segment p) && decide ((poolOf s p).nextStripe < floorOf s Fl.stripe p) && rdN s Obj.EPOCH_STATE 0 == 0

/-- Step 5 of CREATE: the first M3 metadata segment is opened and an empty root page written to it; a new pool's directories have no page else. -/
def writeEmpty (s : State) (p : Nat) : State :=
  let u := modPool s p (fun x => { x with lanes := x.lanes ++ [{ cls := Cls.metadata, idx := 0, seg := none, stripe := none, waiting := false, freedAt := 0 }] })
  let v := openSeg u p (laneOf u p Cls.metadata 0)
  forceWhere 1 (writePage v p (pageAddress Page.root 0 0) (rootPage v p 0)) p (fun x => x.cls == Cls.metadata)

/-- A command of the pool has not ended. -/
def hasCmds (s : State) (p : Nat) : Bool :=
  s.drv.cmds.any (fun e => purpPool e.2.purp == some p)

/-- The steps of CREATE (Table 03-1). -/
def createAdvance (s : State) (p step : Nat) : State :=
  if step = 2 then actStep s p 3 (slotsUsed s p) (fun m => if (dportOf s (mPort s p m)).formatted then eraseOp s (mPort s p m) else .format)
  else if step = 3 then writeSuper (reserveAll (modAct (configurePool s p) p (fun x => { x with step := 4 })) p) p
  else if step = 4 then (if (poolOf s p).sbLeft ≠ 0 ∨ !pageReady s p then s else writeEmpty (modAct s p (fun x => { x with step := 5 })) p)
  else if metaBusy s p ∨ hasCmds s p then s
  else endAct (wr (restPool s p) Obj.POOL_STATE p (Ps.offline : Nat)) p Pr.done

/-- The steps of OFFLINE: admitted commands finish, stripes close and commit, a checkpoint writes the leaves, reservations are released. A FAILED pool only releases. -/
def offlineAdvance (s : State) (p step : Nat) : State :=
  let mem := slotsIn s p Ms.active
  if step = 1 then
    (if poolState s p = Ps.failed then actStep s p 4 mem (fun _ => .resRelease)
    else if poolBusy s p then s
    else modAct (forceWhere 1 s p (fun _ => true)) p (fun x => { x with step := 2 }))
  else if step = 2 then (if poolQuiet s p ∧ (poolOf s p).ckpt.isNone then startCkpt (modAct s p (fun x => { x with step := 3 })) p else s)
  else if step = 3 then (if (poolOf s p).ckpt.isNone then actStep s p 4 mem (fun _ => .resRelease) else s)
  else goOffline s p

/-- The place of the next copy pair of a member: its next slot pair, or the first once zone 0 is full (R131). -/
def nextPair (s : State) (p m : Nat) : Nat :=
  let i := Tbl.getD (poolOf s p).sbNext m 0
  if 32 * (i + 1) ≤ (poolOf s p).sectors then i else 0

/-- A copy of the last superblock of a pool that is destroyed. -/
def emptyCopy (s : State) (p m zs : Nat) : MOp :=
  .write 0 zs (superSectors (emptySuper s p)) (rdB s Obj.DRIVE_VOLATILE_CACHE (mPort s p m)) false

/-- The steps of DESTROY. -/
def destroyAdvance (s : State) (p step : Nat) : State :=
  let mem := slotsIn s p Ms.active
  let zns (m : Nat) : Bool := rdN s Obj.DRIVE_KIND (mPort s p m) == 1
  if step = 1 then
    (match adopted s p with
    | none => endAct (unconfigure (dropHeld s p) p) p Pr.done
    | some x =>
      let t := adoptSuper s p x
      if hasLive t p then endAct t p Pr.volumes else actStep t p 2 (slotsIn t p Ms.active) (fun _ => .resRegister))
  else if step = 2 then actStep s p 3 mem (fun m => if zns m && nextPair s p m == 0 then .zoneReset 0 else emptyCopy s p m (32 * nextPair s p m))
  else if step = 3 then actStep (dropHeld s p) p 4 mem (fun m => if zns m then .zoneReset 0 else .deallocate 0)
  else if step = 4 then actStep s p 5 mem (fun _ => .resRelease)
  else endAct (unconfigure (forEach mem (fun m t => modDPort t (mPort t p m) (fun d => { d with sb := [] })) s) p) p Pr.done

/-- The end of an action that a command has failed: the reservations taken are released, and CREATE leaves the pool NOT_CONFIGURED once its commands have ended (R96, Tables 03-2 and 03-3). -/
def actStops (s : State) (p : Nat) (a : PoolAct) : State :=
  if a.code = Pa.create then (if hasCmds s p then s else endAct (unconfigure (releaseHeld s p a.held) p) p a.result)
  else if a.code = Pa.online then
    (if a.result = Pr.reservation then endAct (wr (releaseHeld s p a.held) Obj.PAIR_POOL_ROLE p (if s.pair.enabled then (Role.partner : Nat) else Role.none)) p a.result
    else onlineFails s p a.result a.held)
  else endAct (releaseHeld s p a.held) p a.result

/-- The step that follows once nothing of the present one is outstanding. -/
def actAdvance (s : State) (p : Nat) (a : PoolAct) (media : List MediaItem) : State :=
  if a.result ≠ 0 then actStops s p a
  else if a.code = Pa.create then createAdvance s p a.step
  else if a.code = Pa.online then
    (if a.step = 1 then onlineAdopt s p
    else if a.step = 2 then modAct s p (fun x => { x with step := 3 })
    else onlineRecover s p a.held media)
  else if a.code = Pa.offline then offlineAdvance s p a.step
  else destroyAdvance s p a.step

/-- A command of an action has ended well. -/
def actOk (s : State) (p m : Nat) (a : PoolAct) (op : MOp) (data : Bytes) : State :=
  let done (t : State) : State := modAct t p (fun x => { x with left := x.left - 1 })
  let go (t : State) (o : MOp) : State := if a.result = 0 then issueTo t p m o (.action p m) else done t
  match op with
  | .resRegister => go s (.resAcquire 0)
  | .resAcquire _ => done (modAct s p (fun x => { x with held := x.held ++ [m] }))
  | .format => go (modDPort s (mPort s p m) (fun d => { d with formatted := true })) (eraseOp s (mPort s p m))
  | .read .. => done (modDPort s (m - 64) (fun d => d.takeSlots data))
  | .zoneReset _ => if a.code = Pa.destroy ∧ a.step = 3 then go s (emptyCopy s p m 0) else done s
  | .write _ zs .. => if zs / 16 % 2 = 0 then go s (emptyCopy s p m (zs + 16)) else done s
  | _ => done s

/-- A command of an action has failed (R96, Table 03-2). A superblock that cannot be read counts as none; a release that fails holds nothing up. -/
def actFails (s : State) (p m : Nat) (op : MOp) (status : Nat) : State :=
  let done (t : State) (r : Nat) : State := modAct t p (fun x => { x with left := x.left - 1, result := if x.result = 0 then r else x.result })
  match op with
  | .read .. => done (modDPort s (m - 64) (fun d => d.takeSlots [])) 0
  | .resRelease => done s 0
  | .resRegister => done s (if status = statusConflict then Pr.reservation else Pr.ioError)
  | .resAcquire _ => done s (if status = statusConflict then Pr.reservation else Pr.ioError)
  | _ => done s Pr.ioError

/-- A command of a running action has ended with an NVMe status, and for a read with the newest valid superblock it found. Once none is left the next step begins. -/
def actionEnded (s : State) (p m : Nat) (op : MOp) (status : Nat) (data : Bytes) : State :=
  match (poolOf s p).action with
  | none => s
  | some a => if status = 0 then actOk s p m a op data else actFails s p m op status

/-- Begin the next step where nothing of the present one is outstanding. -/
def actionNext (s : State) (p : Nat) (status : Nat) (media : List MediaItem) : State :=
  match (poolOf s p).action with
  | none => s
  | some a =>
    if a.left ≠ 0 then s
    else if a.code = Pa.online ∧ a.step = 3 ∧ a.result = 0 ∧ status ≠ 0 then onlineFails s p Pr.ioError a.held
    else actAdvance s p a media

/-- POOL_ACTION_STEP_DONE: a member command of the running action ends with this status and data, or what its step waited for has come about, and the action goes on, ends or fails (R96). `heads` is what the members answer for zone sector 0 of their zones (R164), `media` for the other reads of recovery; `data` holds the superblock slots that a read of zone 0 returns. -/
def execPoolActionStepDone (p id status : Nat) (data : Bytes) (heads media : List MediaItem) (s : State) : Host.Outcome State Fault Refusal :=
  .next (match outstanding s id with
    | some c => match c.purp with
      | .action q m => if q = p then actionNext (actionEnded (endCmd s id) p m c.op status data) p 0 (heads ++ media) else s
      | _ => s
    | none => actionNext s p status (heads ++ media))

/-- The pool whose CREATE a member command belongs to. -/
def creating (s : State) (c : MCmd) : Option Nat :=
  (purpPool c.purp).filter (fun p => ((poolOf s p).action.map PoolAct.code) == some Pa.create)

/-- A member command has failed for good in a way that fails its member. In a CREATE it fails the action (R96), and a drive that is no member yet fails only what it was asked for. -/
def cmdFault (s : State) (id : Nat) (c : MCmd) (cause : Nat) : State :=
  match creating s c, c.purp with
  | some p, .action _ m => actionNext (actionEnded (endCmd s id) p m c.op 1 []) p 0 []
  | some p, .superblock .. => actionNext (modPool (actLoses (endCmd s id) p c.op false) p (fun x => { x with sbLeft := x.sbLeft - 1 })) p 0 []
  | some p, _ => actionNext (actLoses (endCmd s id) p c.op false) p 0 []
  | none, .action p m => actionNext (actionEnded (endCmd s id) p m c.op 1 []) p 0 []
  | none, .add p m => addStep (endCmd s id) p m c.op 1
  | none, _ => match memberOf s c.port with
    | some (p, m) => if mState s p m = Ms.active ∨ mState s p m = Ms.contained then memberFault s p m cause else endCmd s id
    | none => endCmd s id

end Sys2Proof.Machine
end

