-- ==== Sys2Proof/Machine/Rings.lean ====
section
/-! DEFINITION. Ring intake: push slots, SR_NOTIFY, ring fetches, polling, chains and tags (R283 to R293), and QP modes (R299 to R302). -/

namespace Sys2Proof.Machine

open Sys2Proof

/-! ## Taking entries -/

/-- Clear OWN of a taken entry in ring memory: byte 7 alone, its other bits unchanged (R278). -/
def clearOwn (s : State) (q : Nat) (e : SqEntry) : State :=
  emit s (.hostWrite (qpFn s q) (rdN s Obj.SR_BASE q + 64 * (e.srSeq % rdN s Obj.SR_SIZE q) + 7) [BitVec.ofNat 8 (fld e.w0 56 7)])

/-- A complete chain: the tag check, then decode (R293). -/
def chainTaken (s : State) (q : Nat) (chain : List SqEntry) (takenAt : Nat) : State :=
  match chain with
  | [] => s
  | f :: _ =>
    if (tagsOf (qpOf s q)).contains f.tag then buildCpl s q (plainCpl f.tag f.opcode f.srSeq St.tagCollision false (serviceTime s takenAt))
    else decodeCmd s q f chain takenAt

/-- An entry that can start a command: FIRST, CHAIN_INDEX 0, and LAST exactly when it is the only one (R291). -/
def startsChain (e : SqEntry) : Bool :=
  e.first && e.chainIndex == 0 && (e.last == (e.chainEntries == 0))

/-- An entry that continues a chain at position `i` (R291). -/
def continuesChain (f e : SqEntry) (i : Nat) : Bool :=
  !e.first && e.chainIndex == i && e.chainEntries == f.chainEntries && e.tag == f.tag && e.opcode == f.opcode && (e.last == (i == f.chainEntries))

/-- Complete a malformed command with the TAG and SR_SEQ of its first entry (R292). -/
def malformed (s : State) (q : Nat) (f : SqEntry) (takenAt : Nat) : State :=
  buildCpl (modQp s q (fun x => { x with chain := [] })) q (plainCpl f.tag f.opcode f.srSeq St.chainMalformed false (serviceTime s takenAt))

/-- An entry where a command should start (R291, R292). -/
def startCommand (s : State) (q : Nat) (e : SqEntry) : State :=
  if !startsChain e then malformed s q e s.now
  else if e.last then chainTaken s q [e] s.now
  else modQp s q (fun x => { x with chain := [e], chainAt := s.now })

/-- An entry that the intake has taken joins the chain, completes it, or breaks it (R291, R292). -/
def chainStep (s : State) (q : Nat) (e : SqEntry) : State :=
  let x := qpOf s q
  match x.chain with
  | [] => startCommand s q e
  | f :: _ =>
    if continuesChain f e x.chain.length then
      (if e.last then chainTaken (modQp s q (fun y => { y with chain := [] })) q (x.chain ++ [e]) x.chainAt
      else modQp s q (fun y => { y with chain := y.chain ++ [e] }))
    else if e.first then startCommand (malformed s q f x.chainAt) q e
    else malformed s q f x.chainAt

/-- Take the entry with the expected sequence: NEXT_SR_SEQ advances, OWN is cleared, the chain goes on (R278, R286). -/
def takeEntry (s : State) (q : Nat) (e : SqEntry) : State :=
  chainStep (clearOwn (wr s Obj.NEXT_SR_SEQ q (seqNext e.srSeq : Nat)) q e) q e

/-- Record a sequence as known owned. -/
def noteOwned (s : State) (q v : Nat) : State :=
  modQp s q (fun x => { x with known := match x.known with
    | some k => if ahead v k then some v else some k
    | none => some v })

/-- The sequences a ring fetch reads: from NEXT_SR_SEQ to 8 beyond the highest known owned, within the ring (R288). -/
def fetchCount (s : State) (q : Nat) : Nat :=
  let n := rdN s Obj.NEXT_SR_SEQ q
  let k := match (qpOf s q).known with
    | some k => if behind k n then 0 else (k + 65536 - n) % 65536 + 1
    | none => 0
  min (k + 8) (rdN s Obj.SR_SIZE q)

/-- Read the slots of `n` sequences from `a`, one request per contiguous run, counting slots read again (R288, R289). -/
def readSlots (s : State) (q a n : Nat) : State :=
  let z := rdN s Obj.SR_SIZE q
  let i := a % z
  let b := rdN s Obj.SR_BASE q
  let k := min n (z - i)
  let t := emit s (.hostRead (qpFn s q) (b + 64 * i) (64 * k))
  let u := if k < n then emit t (.hostRead (qpFn s q) b (64 * (n - k))) else t
  let x := qpOf s q
  let again := x.spec.filter (fun v => decide ((v + 65536 - a) % 65536 < n))
  bump (modQp u q (fun y => { y with spec := y.spec.filter (fun v => !again.contains v) })) Obj.RING_REFETCHES q again.length

/-- Start a ring fetch from NEXT_SR_SEQ unless one is running (R288). -/
def startFetch (s : State) (q : Nat) : State :=
  if (qpOf s q).fetch.isSome || !intakeOpen s q then s
  else
    let a := rdN s Obj.NEXT_SR_SEQ q
    let n := fetchCount s q
    readSlots (modQp s q (fun x => { x with fetch := some ((a + n) % 65536) })) q a n

/-- Evaluate one complete push slot (Table 07-10). -/
def evalPush (s : State) (q : Nat) (e : SqEntry) : State :=
  let n := rdN s Obj.NEXT_SR_SEQ q
  if qpState s q != Qs.push || !canMaster s (qpFn s q) then bump s Obj.PUSH_DROPPED q 1
  else if behind e.srSeq n then bump s Obj.PUSH_STALE q 1
  else if e.own && e.srSeq == n then takeEntry (bump (noteOwned s q e.srSeq) Obj.PUSH_TAKEN q 1) q e
  else startFetch (bump (if e.own then noteOwned s q e.srSeq else s) Obj.PUSH_MISMATCH q 1) q

/-- The offsets of the push area that a push slot's 64 bytes occupy are all written. -/
def slotFull (x : Qp) (j : Nat) : Bool :=
  (List.range 64).all (fun i => (Tbl.get x.push (64 * j + i)).isSome)

/-- The 64 bytes of a push slot. -/
def slotBytes (x : Qp) (j : Nat) : Bytes :=
  (List.range 64).map (fun i => Tbl.getD x.push (64 * j + i) 0)

/-- Forget a push slot's bytes. -/
def forgetSlot (s : State) (q j : Nat) : State :=
  modQp s q (fun x => { x with push := Tbl.filterK x.push (fun k => k / 64 != j) })

/-- Order two ring sequences from NEXT_SR_SEQ − 32,768 on, so that older ones come first. -/
def seqRank (n v : Nat) : Nat :=
  (v + 98304 - n) % 65536

/-- Evaluate every complete push slot, in ascending SR_SEQ order (R286). -/
def evalFull (s : State) (q : Nat) : State :=
  let x := qpOf s q
  let full := (List.range 4).filter (slotFull x)
  let es := sortBy (fun e => seqRank (rdN s Obj.NEXT_SR_SEQ q) e.srSeq) (full.map (fun j => entryOf (slotBytes x j)))
  forEach es (fun e t => evalPush t q e) (forEach full (fun j t => forgetSlot t q j) s)

/-- Lay the bytes of a write down in the push area from its offset on. -/
def layPush (p : Tbl Byte) (off : Nat) (data : Bytes) : Tbl Byte :=
  (data.zip (List.range data.length)).foldl (fun t b => Tbl.set t (off + b.2) b.1) p

/-- PUSH_SLOT_WRITE: bytes written at an offset of the push area; slots they complete are evaluated (R286). A QP not in PUSH drops them and counts each slot touched (Table 07-10, R301). -/
def execPushSlotWrite (q off : Nat) (data : Bytes) (s : State) : Host.Outcome State Fault Refusal :=
  .next (
    if !memOpen s (qpFn s q) || data.isEmpty || off + data.length > 256 then s
    else if qpState s q != Qs.push || !canMaster s (qpFn s q) then
      bump s Obj.PUSH_DROPPED q ((off + data.length - 1) / 64 - off / 64 + 1)
    else evalFull (modQp s q (fun x => { x with push := layPush x.push off data })) q)

/-- PUSH_SLOT_TIMEOUT: an incomplete slot is discarded after 2 µs, counted, and a ring fetch follows (R286). -/
def execPushSlotTimeout (q j : Nat) (s : State) : Host.Outcome State Fault Refusal :=
  .next (
    if (qpOf s q).push.any (fun p => p.1 / 64 == j) then startFetch (bump (forgetSlot s q j) Obj.PUSH_DROPPED q 1) q else s)

/-- SR_NOTIFY: record a known-owned sequence and start a ring fetch, or ignore it (R287, R301). -/
def execSrNotify (q : Nat) (v : BitVec 32) (s : State) : Host.Outcome State Fault Refusal :=
  .next (
    let n := v.toNat % 65536
    if !memOpen s (qpFn s q) || v.toNat ≥ 65536 then s
    else if !qpServing s q || !canMaster s (qpFn s q) then bump s Obj.PUSH_DROPPED q 1
    else if behind n (rdN s Obj.NEXT_SR_SEQ q) then s
    else startFetch (noteOwned s q n) q)

/-- Handle one fetched entry: taken, dropped as behind, or discarded (R288, R289). -/
def evalFetched (s : State) (q : Nat) (e : SqEntry) : State :=
  let n := rdN s Obj.NEXT_SR_SEQ q
  if !intakeOpen s q then s
  else if !e.own then s
  else if behind e.srSeq n then s
  else if e.srSeq == n then takeEntry (noteOwned s q e.srSeq) q e
  else noteOwned s q e.srSeq

/-- The slots of a read that held OWN 0 are not retained (R289). -/
def noteSpec (s : State) (q a : Nat) (es : List SqEntry) : State :=
  let vs := ((es.zip (List.range es.length)).filter (fun p => !p.1.own)).map (fun p => (a + p.2) % 65536)
  modQp s q (fun x => { x with spec := vs.foldl addOnce x.spec })

/-- Fetched entries are taken in order, and the fetch goes on while known-owned entries lie beyond what was read (R288). -/
def fetchDone (s : State) (q : Nat) (es : List SqEntry) : State :=
  let a := rdN s Obj.NEXT_SR_SEQ q
  let fin := (qpOf s q).fetch
  let t := forEach es (fun e u => evalFetched u q e) (noteSpec (modQp s q (fun x => { x with fetch := none })) q a es)
  match fin, (qpOf t q).known with
  | some e, some k => if ahead ((k + 9) % 65536) e && !behind k (rdN t Obj.NEXT_SR_SEQ q) then startFetch t q else t
  | _, _ => t

/-- RING_FETCH_COMPLETE: the data of a submission ring read returns, or the read fails and the QP halts (R288, R299). -/
def execRingFetchComplete (q : Nat) (es : List SqEntry) (err : Bool) (s : State) : Host.Outcome State Fault Refusal :=
  .next (
    if !(qpOf s q).fetch.isSome || !intakeOpen s q then s
    else if err then haltQp s q 1
    else fetchDone s q es)

/-- Free each CR slot that a poll read with OWN 1 (R290). -/
def freeOwned (s : State) (q : Nat) (owns : List (Nat × Bool)) : State :=
  modQp s q (fun x => { x with crBusy := x.crBusy.filter (fun b => !owns.any (fun p => p.1 == b && p.2)) })

/-- QP_POLL: QP_POLL_BATCH entries and CR slot OWN bits are read on a QP in POLL (R290). -/
def execQpPoll (q : Nat) (es : List SqEntry) (owns : List (Nat × Bool)) (err : Bool) (s : State) : Host.Outcome State Fault Refusal :=
  .next (
    if qpState s q != Qs.poll || !canMaster s (qpFn s q) then s
    else
      let a := rdN s Obj.NEXT_SR_SEQ q
      let b := es.take (rdN s Obj.QP_POLL_BATCH q)
      let t := readSlots s q a (rdN s Obj.QP_POLL_BATCH q)
      if err then haltQp t q 1
      else freeOwned (forEach b (fun e u => evalFetched u q e) (noteSpec t q a b)) q owns)

/-! ## Modes and creation -/

/-- Change a QP between PUSH and POLL (Table 07-13, R301). Slots already complete have been evaluated; incomplete ones are dropped. -/
def setMode (q mode : Nat) (s : State) : State :=
  let t := wr s Obj.QP_MODE q mode
  if qpServing s q then modQp (wr t Obj.QP_STATE q mode) q (fun x => { x with push := if mode = Qs.poll then [] else x.push }) else t

/-- QP_MODE_WRITE: a QP that is RESETTING or HALTED refuses it (R301). -/
def execQpModeWrite (q mode : Nat) (s : State) : Host.Outcome State Fault Refusal :=
  .next (if (mode = 1 ∨ mode = 2) ∧ qpState s q ≠ Qs.resetting ∧ qpState s q ≠ Qs.halted then setMode q mode s else s)

/-- ADMIN_CTRL_MODE: MODE written while the admin QP is enabled (R284). -/
def execAdminCtrlMode (pf : Nat) (push : Bool) (s : State) : Host.Outcome State Fault Refusal :=
  .next (if pf < 2 ∧ qpServing s pf then setMode pf (if push then Qs.push else Qs.poll) s else s)

/-- QP_FUNCTION names an enabled function (R302 item 1). -/
def functionEnabled (s : State) (f : Nat) : Bool :=
  decide (f ≤ 1025) && rdB s Obj.FUNC_PRESENT f && !rdB s Obj.FUNC_IN_RESET f

/-- The local index is in range and used by no other created QP of the function (R269, R302 item 2). -/
def localIndexOk (s : State) (q : Nat) : Bool :=
  let f := qpFn s q
  let i := rdN s Obj.QP_LOCAL_INDEX q
  decide (i < (if isPf f then 8192 else rdN s Obj.VF_QP_PAGES (fnPort f))) && !(isPf f && i == 0 && decide (q ≥ 2)) &&
    (s.qps.map Prod.fst).all (fun p => p == q || qpFn s p != f || rdN s Obj.QP_LOCAL_INDEX p != i || qpState s p == Qs.disabled)

/-- A ring's base and size satisfy R270. -/
def ringOk (base size : Nat) : Bool :=
  base != 0 && base % 4096 == 0 && isPow2 size && decide (64 ≤ size ∧ size ≤ 4096)

/-- Every window in use is aligned and does not wrap (R302 item 5). -/
def windowsOk (s : State) (q : Nat) : Bool :=
  (windowsOf s q).all (fun p => p.1 % 4096 == 0 && p.2 % 4096 == 0 && decide (p.1 + p.2 ≤ 2 ^ 64))

/-- The first check of R302 that fails, as QP_CREATE_RESULT; 1 when all pass. -/
def createResult (s : State) (q : Nat) : Nat :=
  if !functionEnabled s (qpFn s q) then 2
  else if !localIndexOk s q then 3
  else if !(ringOk (rdN s Obj.SR_BASE q) (rdN s Obj.SR_SIZE q) && ringOk (rdN s Obj.CR_BASE q) (rdN s Obj.CR_SIZE q)) then 4
  else if rdN s Obj.CR_MSIX_VECTOR q ≥ vectorCount (qpFn s q) then 5
  else if !windowsOk s q then 6
  else 1

/-- The dictionary session that a QP carries: 0 and 1 for the admin QPs, 16 + n for VF n (R72). -/
def sessionOf (s : State) (q : Nat) : Nat :=
  if q < 2 then q else 14 + qpFn s q

/-- Open an in-band session: the first REQ_SEQ is accepted whatever its value, RSP_SEQ starts at 0 (R72). -/
def openSession (n priv : Nat) (s : State) : State :=
  let t := wr (wr (wr (wrB s Obj.SESSION_OPEN n true) Obj.SESSION_PRIVILEGE n priv) Obj.NEXT_REQ_SEQ n 0) Obj.LAST_RSP_SEQ n 0
  { t with dict := { t.dict with sessions := Tbl.set t.dict.sessions n { fresh := true, cached := none, rsp := 0, parts := [], last := s.now } } }

/-- Clear the level-0 counters of a QP (R598). -/
def clearQpCounters (s : State) (q : Nat) : State :=
  clrHist (clrInst s 0x4810 q) (fun k => k / 256 == objKey 0x4810 q 0 / 256)

/-- Create a QP that has passed R302 (Table 07-13). -/
def createQp (s : State) (q : Nat) : State :=
  let a := wr (wr s Obj.QP_CREATE_RESULT q 1) Obj.QP_STATE q (rdN s Obj.QP_MODE q : Nat)
  let b := wr (wr a Obj.NEXT_SR_SEQ q (rdN s Obj.SR_SEQ_START q : Nat)) Obj.LAST_CR_SEQ q ((rdN s Obj.CR_SEQ_START q + 65535) % 65536 : Nat)
  let c := wr b Obj.CR_RELEASED_SEQ q ((rdN s Obj.CR_SEQ_START q + 65535) % 65536 : Nat)
  let d := clr (clr (clr c Obj.HALT_CAUSE q) Obj.LOST_COMPLETIONS q) Obj.CR_RELEASE_IGNORED q
  let e := clearQpCounters (setQp d q Qp.empty) q
  if carriesSession s q then openSession (sessionOf s q) (if q < 2 then 2 else 1) e else e

/-- Create the QP, or name the failing check and leave it DISABLED (R302). -/
def tryCreate (q : Nat) (s : State) : State :=
  if createResult s q = 1 then createQp s q else wr s Obj.QP_CREATE_RESULT q (createResult s q : Nat)

/-- ADMIN_CTRL_ENABLE: ENABLE written while the admin QP is DISABLED creates it in the mode written (R284). -/
def execAdminCtrlEnable (pf : Nat) (push : Bool) (s : State) : Host.Outcome State Fault Refusal :=
  .next (if pf < 2 ∧ memOpen s pf ∧ qpState s pf = Qs.disabled then
      tryCreate pf (wr s Obj.QP_MODE pf (if push then 2 else 1)) else s)

/-- QUEUE_CREATE: create the named QP from its configuration objects (R329). -/
def execQueueCreate (q tag : Nat) (s : State) : Host.Outcome State Fault Refusal :=
  .next (match startable s q tag 0x80 with
    | none => s
    | some c =>
      if qpState s c.target != Qs.disabled then finish s q c St.invalidField 0
      else finish (tryCreate c.target s) q c (if createResult s c.target = 1 then St.success else St.invalidField) 0)

end Sys2Proof.Machine
end

