-- ==== Sys2Proof/Machine/Ending.lean ====
section
/-! DEFINITION. Ending commands before their time: a queue pair's reset (R303, R330, R331), a cut-off transfer (R357, R359), and the loss of a pool (R426, Table 08-11). -/

namespace Sys2Proof.Machine

open Sys2Proof

/-! ## One command -/

/-- A deallocate record that is not durable is given up with its command, so that no grain changes (Table 08-7). -/
def dropDeallocRec (s : State) (q tag : Nat) : State :=
  match deallocRec s q tag with
  | some r => if r.durable then s else { s with ilog := { s.ilog with recs := s.ilog.recs.filter (fun x => x.seq != r.seq) } }
  | none => s

/-- A SANITIZE or FORMAT stops waiting for its operation, which goes on (R336). -/
def leaveOp (s : State) (q tag v : Nat) : State :=
  modOp s v (fun x => { x with waiters := x.waiters.filter (fun w => w != (q, tag)) })

/-- End a command with a status other than SUCCESS (Table 08-11). -/
def endWith (s : State) (q : Nat) (c : Cmd) (status : Nat) : State :=
  if c.phase = .decode ∨ c.phase = .waiting then finish s q c status 0
  else if c.opcode = 1 ∨ c.opcode = 5 then failRead s q c.tag status
  else if c.opcode = 2 then failWrite s q c.tag status
  else if c.opcode = 4 then finish (dropDeallocRec s q c.tag) q c status 0
  else if c.opcode = 0x82 ∨ c.opcode = 0x83 then finish (leaveOp s q c.tag c.volume) q c status 0
  else finish s q c status 0

/-- The record of a DEALLOCATE is durable. -/
def deallocDurable (s : State) (q tag : Nat) : Bool :=
  match deallocRec s q tag with
  | some r => r.durable
  | none => false

/-- The session of a request. -/
def srcSession (s : State) : ReqSrc → Option Nat
  | .engine n => n
  | .cmd q _ => some (sessionOf s q)
  | .mctp _ n => n
  | .udp _ n => n

/-- A dictionary command whose request has reached the engine (R48, R56). -/
def atEngine (s : State) (c : Cmd) (q : Nat) : Bool :=
  s.dict.paced.any (fun x => x.src == .cmd q c.tag)

/-- What a reset does at once with one command of Table 08-7; commands that may still reach an outcome of their own go on. -/
def resetCmd (s : State) (q : Nat) (c : Cmd) : State :=
  let abort := endWith s q c St.abortedByReset
  if c.phase = .decode ∨ c.phase = .waiting then abort
  else if c.opcode = 2 then
    (if !allMapped c then abort
    else if needsCommit s c then
      forceWhere 1 s (cmdPool s c) (fun x => x.pos.any (fun e => match e.slot with
        | some n => (mappedSlots c).contains n
        | none => false))
    else if mirrorMet s c then completeWrite s q c else s)
  else if c.opcode = 4 then (if deallocDurable s q c.tag then s else abort)
  else if c.opcode = 0x40 ∨ c.opcode = 0x41 then (if atEngine s c q then s else abort)
  else if c.opcode = 0x81 then (if c.phase = .running then s else abort)
  else abort

/-- A session ends: its cached response, open multi-part writes and paced requests go, and of its subscription all but the filter (R68, R72, R590, R605). -/
def endSession (s : State) (n : Nat) : State :=
  let t := { s with dict := { s.dict with sessions := Tbl.erase s.dict.sessions n, paced := s.dict.paced.filter (fun x => srcSession s x.src != some n) } }
  let u := clrInst t 0x1110 n
  if n > 13 then u
  else
    let v := { u with ev := { u.ev with subs := Tbl.erase u.ev.subs n, paths := Tbl.erase u.ev.paths (4 + n) } }
    wrB (clr (clr (clrInst v 0x4030 n) Obj.PATH_RATE (4 + n)) Obj.PATH_BURST (4 + n)) Obj.PATH_SHEDDING (4 + n) false

/-! ## A queue pair -/

/-- Enter RESETTING: intake stops, and every command of the QP ends or goes on as Table 08-7 says (Table 07-13, R303). -/
def startReset (s : State) (q : Nat) (by_ : Option (Nat × Nat)) (byFlr : Bool) : State :=
  let x := qpOf s q
  let l := x.queue ++ x.cmds
  let t := modQp (wr s Obj.QP_STATE q (Qs.resetting : Nat)) q (fun y =>
    { y with fetch := none, chain := [], push := [], spec := [], resetBy := by_, ended := l.length, recorded := 0, byFlr := byFlr })
  let u := forEach l (fun c v => resetCmd v q c) t
  settleReset (if byFlr then recordAll u q else u) q

/-- The end of a reset's time limit: every tag left ends with ABORTED_BY_RESET, and what the CR cannot take is recorded (R303, R304). -/
def limitReset (s : State) (q : Nat) : State :=
  if qpState s q ≠ Qs.resetting then s
  else
    let t := forEach ((qpOf s q).queue ++ (qpOf s q).cmds) (fun c v => endWith v q c St.abortedByReset) s
    let n := (qpOf t q).cpl.length
    let u := forRange n (fun _ v => writeHead v q) t
    settleReset (recordAll u q) q

/-! ## Resets of queue pairs (R284, R330, R303) -/

/-- QUEUE_RESET: stop the named QP and end its tags; a QP that is DISABLED or RESETTING already completes with SUCCESS and nothing else (Table 07-13). -/
def execQueueReset (q tag : Nat) (s : State) : Host.Outcome State Fault Refusal :=
  .next (match startable s q tag 0x81 with
    | none => s
    | some c =>
      if qpServing s c.target ∨ qpState s c.target = Qs.halted then
        startReset (modCmd s q tag (fun x => { x with phase := .running })) c.target (some (q, tag)) false
      else finish s q c St.success (resetResult 0 0))

/-- ADMIN_CTRL_RESET: RESET written to the admin QP's control register (R284, Table 07-9). -/
def execAdminCtrlReset (pf : Nat) (s : State) : Host.Outcome State Fault Refusal :=
  .next (if pf < 2 ∧ memOpen s pf ∧ (qpServing s pf ∨ qpState s pf = Qs.halted) then startReset s pf none false else s)

/-- QUEUE_RESET_TIMEOUT: the reset's time limit expires (R303). -/
def execQueueResetTimeout (q : Nat) (s : State) : Host.Outcome State Fault Refusal :=
  .next (if (qpOf s q).byFlr then s else limitReset s q)

/-! ## Cut-off transfers -/

/-- A WRITE still waits for host data. -/
def fetchingHost (c : Cmd) : Bool :=
  (c.wr.zip (List.range c.wr.length)).any (fun e => inRange c (c.wFirst + e.2) && (match e.1 with
    | .filling _ => true
    | _ => false))

/-- The transfer of a READ to host memory has begun. -/
def readBegun (c : Cmd) : Bool :=
  c.rd.any (fun r => match r with
    | .delivered .. => true
    | _ => false)

/-- What stopping a function's memory requests does to one of its commands (Table 09-6). -/
def cutCmd (s : State) (q : Nat) (c : Cmd) : State :=
  if c.phase ≠ .running then s
  else if (c.opcode = 2 ∧ fetchingHost c) ∨ (c.opcode = 1 ∧ readBegun c) then endWith s q c St.dmaHalted
  else s

/-- A function's memory requests stop (R356, R357): ring fetches end, cut-off transfers end with DMA_HALTED. -/
def stopMaster (s : State) (f : Nat) : State :=
  forEach (fnQps s f) (fun q t =>
    let u := modQp t q (fun x => { x with fetch := none })
    forEach (qpOf u q).cmds (fun c v => cutCmd v q c) u) s

/-- The READ transfers that waited run (R358). -/
def sendGathered (s : State) (q : Nat) (c : Cmd) : State :=
  tryFinishRead (forEach (c.rd.zip (List.range c.rd.length)) (fun e t => match e.1 with
    | .gathered l d sl fr b => sendSector t q c e.2 { level := l, decoded := d, slot := sl, frame := fr, quad := 0 } b
    | _ => t) s) q c.tag

/-- The commands of a QP whose descriptor walk stopped read their list page again (R358). -/
def rereadPages (s : State) (q : Nat) : State :=
  forEach ((qpOf s q).queue.filter (fun c => c.phase == .decode)) (fun c t => match c.page with
    | some d => fetchPage t q d
    | none => t) s

/-- The built completions of a function's QPs in the order in which they were built: QP of each. -/
def builtOrder (s : State) (f : Nat) : List Nat :=
  (sortBy Prod.fst ((fnQps s f).flatMap (fun q => (qpOf s q).cpl.map (fun c => (c.order, q))))).map Prod.snd

/-- A function's memory requests resume (R358). -/
def resumeMaster (s : State) (f : Nat) : State :=
  if !canMaster s f then s
  else
    let a := forEach (builtOrder s f) (fun q t => writeHead t q) s
    let b := flushMsix a f
    let c := forEach (fnQps b f) (fun q t => forEach ((qpOf t q).cmds.filter (fun c => c.opcode == 1)) (fun c u => sendGathered u q c) t) b
    forEach (fnQps c f) (fun q t => rereadPages (if qpServing t q then startFetch t q else t) q) c

/-! ## Losing a pool -/

/-- The commands of every QP that name a volume of a pool. -/
def poolCmds (s : State) (p : Nat) : List (Nat × Cmd) :=
  s.qps.flatMap (fun e => (e.2.cmds.filter (fun c => namesVolume c.opcode && (c.opcode != 3 || !bitAt c.flags 0) && cmdPool s c == p)).map (fun c => (e.1, c)))

/-- End the admitted commands of a pool that this controller has lost: with FENCED, but for a write whose completion was due under R39 with its mirror condition met (R426). -/
def fenceCmds (s : State) (p : Nat) : State :=
  forEach (poolCmds s p) (fun e t =>
    if e.2.opcode = 2 ∧ e.2.phase = .running ∧ !needsCommit t e.2 ∧ allMapped e.2 ∧ mirrorMet t e.2 then completeWrite t e.1 e.2
    else endWith t e.1 e.2 St.fenced) s

/-- End the admitted commands of a pool that has become FAILED (Table 08-11). -/
def offlineCmds (s : State) (p : Nat) : State :=
  forEach (poolCmds s p) (fun e t => endWith t e.1 e.2 St.poolOffline) s

end Sys2Proof.Machine
end

