-- ==== Sys2Proof/Machine/HostFns.lean ====
section
/-! DEFINITION. Host functions and ports: Bus Master Enable, Function Level Reset, PERST_N, power states, VF Enable, MSI-X and module idle (R340 to R371). -/

namespace Sys2Proof.Machine

open Sys2Proof

/-- A host port as it stands after a power-on reset. -/
def HostPort.empty : HostPort :=
  { perst := false, vfEnable := false, ready := false, clock := 0, vendor := 0, device := 0 }

/-- The record of a host port. -/
def hostPort (s : State) (n : Nat) : HostPort :=
  Tbl.getD s.host.ports n HostPort.empty

/-- Change the record of a host port. -/
def modHostPort (s : State) (n : Nat) (f : HostPort → HostPort) : State :=
  { s with host := { s.host with ports := Tbl.set s.host.ports n (f (hostPort s n)) } }

/-- Function index of VF `v` (from 1) of a host port (R343). -/
def vfIndex (port v : Nat) : Nat :=
  2 + (if port = 0 then v - 1 else 511 + v)

/-- The VFs of a host port that exist. -/
def portVfs (s : State) (port : Nat) : List Nat :=
  ((List.range (rdN s Obj.PORT_NUM_VFS port)).map (fun i => vfIndex port (i + 1))).filter (fun f => rdB s Obj.FUNC_PRESENT f)

/-- A function that exists on a port that answers. -/
def fnLives (s : State) (f : Nat) : Bool :=
  decide (f < 1026) && rdB s Obj.FUNC_PRESENT f && !rdB s Obj.FUNC_IN_RESET f

/-! ## Bus Master Enable (R356 to R359) -/

/-- BUS_MASTER_DISABLE: Bus Master Enable is cleared; requests stop and cut-off transfers end (R356, R357). -/
def execBusMasterDisable (f : Nat) (s : State) : Host.Outcome State Fault Refusal :=
  .next (if fnLives s f ∧ rdB s Obj.FUNC_BUS_MASTER f then
      (if rdN s Obj.FUNC_DSTATE f = 0 then stopMaster (wrB s Obj.FUNC_BUS_MASTER f false) f else wrB s Obj.FUNC_BUS_MASTER f false)
    else s)

/-- BUS_MASTER_ENABLE: Bus Master Enable is set; held completions, messages and transfers resume (R358). -/
def execBusMasterEnable (f : Nat) (s : State) : Host.Outcome State Fault Refusal :=
  .next (if fnLives s f ∧ !rdB s Obj.FUNC_BUS_MASTER f then resumeMaster (wrB s Obj.FUNC_BUS_MASTER f true) f else s)

/-- HOST_READ_ERROR_COMPLETION: a data read of a WRITE, or a list-page read, fails; the command ends with DMA_HALTED (R359). -/
def execHostReadErrorCompletion (q tag : Nat) (s : State) : Host.Outcome State Fault Refusal :=
  .next (match findCmd s q tag with
    | some c => if c.opcode = 2 ∧ c.phase = .running ∧ fetchingHost c then endWith s q c St.dmaHalted else s
    | none => match decoding s q tag with
      | some c => if c.phase = .decode then finish s q c St.dmaHalted 0 else s
      | none => s)

/-! ## Function Level Reset (R360, R361) -/

/-- Steps 1 to 3 of Table 09-7 for one function: requests stop, its QPs reset, and what has ended is recorded. -/
def startFlr (s : State) (f : Nat) : State :=
  if !fnLives s f then s
  else
    let l := (fnQps s f).filter (fun q => qpState s q != Qs.disabled)
    let t := wrB s Obj.FUNC_IN_RESET f true
    forEach l (fun q u => if qpState u q = Qs.resetting then modQp (recordAll u q) q (fun x => { x with byFlr := true }) else startReset u q none true) t

/-- The session number of a function (R72). -/
def fnSession (f : Nat) : Nat :=
  if f < 2 then f else 14 + f

/-- The queue-pair and window objects of a QP take their defaults, but for the outcomes of R304 (R305). -/
def resetQpObjects (s : State) (q : Nat) : State :=
  let n := rdN s Obj.LOST_COMPLETIONS q
  wr (clrInst (clrInst s 0x2110 q) 0x2120 q) Obj.LOST_COMPLETIONS q (n : Nat)

/-- Steps 3 to 5 of Table 09-7 at their limit: the tags left end, the session ends, the objects reset and the function is ready. -/
def endFlr (s : State) (f : Nat) : State :=
  if !rdB s Obj.FUNC_IN_RESET f then s
  else
    let a := forEach (fnQps s f) (fun q t => limitReset t q) s
    let mine := (List.range 8192).filter (fun q => (if q < 2 then q == f else rdN a Obj.QP_FUNCTION q == f))
    let b := endSession (forEach mine (fun q t => resetQpObjects t q) a) (fnSession f)
    let c := clrInst b 0x4820 f
    let d := { c with host := { c.host with fns := Tbl.erase c.host.fns f } }
    let e := wrB (wr (wrB d Obj.FUNC_BUS_MASTER f false) Obj.FUNC_DSTATE f 0) Obj.FUNC_IN_RESET f false
    if isPf f then clrInst { e with ev := { e.ev with rings := Tbl.erase e.ev.rings f } } 0x4020 f else e

/-- The VFs of a port cease to exist: VF Enable is clear. -/
def dropVfs (s : State) (port : Nat) : State :=
  let l := portVfs s port
  modHostPort (wr (forEach l (fun f t => wrB t Obj.FUNC_PRESENT f false) s) Obj.PORT_NUM_VFS port 0) port (fun x => { x with vfEnable := false })

/-- FLR: Initiate FLR starts a Function Level Reset; that of a PF resets every VF of it too (R360). -/
def execFlr (f : Nat) (s : State) : Host.Outcome State Fault Refusal :=
  .next (if !fnLives s f then s
    else
      let t := forEach (if isPf f then portVfs s (fnPort f) else []) (fun v u => startFlr u v) s
      startFlr (bump t Obj.FUNC_FLRS f 1) f)

/-- Level-1 counters survive a host port's reset (R598). -/
def keepFnCounters (s t : State) (f : Nat) : State :=
  { t with dict := { t.dict with regs := (s.dict.regs.filter (fun e => e.1 / 256 == objKey 0x4820 f 0 / 256)).foldl (fun r e => Tbl.set r e.1 e.2) t.dict.regs } }

/-- The end of a function's reset, and of its VFs' for a PF. -/
def completeFlr (s : State) (f : Nat) : State :=
  let t := forEach (if isPf f then portVfs s (fnPort f) else []) (fun v u => endFlr u v) s
  let u := endFlr t f
  if isPf f then dropVfs u (fnPort f) else u

/-- FLR_COMPLETE: the FLR's steps finish and the function is ready (R360, R361). In a port's reset the counters of the function stay. -/
def execFlrComplete (f : Nat) (s : State) : Host.Outcome State Fault Refusal :=
  .next (if f < 1026 ∧ rdB s Obj.FUNC_IN_RESET f then
      (if (hostPort s (fnPort f)).ready then completeFlr s f else keepFnCounters s (completeFlr s f) f)
    else s)

/-! ## Host ports (R362, R363) -/

/-- The functions of a host port that exist. -/
def portFns (s : State) (port : Nat) : List Nat :=
  (if rdB s Obj.FUNC_PRESENT port then [port] else []) ++ portVfs s port

/-- Every function of a port resets as in a PF FLR, and the link is reinitialised (R362). -/
def resetPort (s : State) (port : Nat) : State :=
  let t := forEach (portFns s port).reverse (fun f u => startFlr u f) s
  modHostPort (bump t Obj.PORT_RESETS port 1) port (fun x => { x with ready := false })

/-- The link of a port is down. -/
def linkDown (s : State) (port : Nat) : State :=
  wrB (wr (wr (wrB s Obj.PORT_LINK_UP port false) Obj.PORT_LINK_SPEED port 0) Obj.PORT_LINK_WIDTH port 0) Obj.PORT_FLIT_MODE port false

/-- What a port takes over at an assertion of PERST_N (R342, Table 09-8). -/
def latchPerst (s : State) (port : Nat) : State :=
  modHostPort s port (fun x => { x with perst := true, clock := rdN s Obj.PORT_CLOCK_MODE port, vendor := rdN s Obj.PCI_SUBSYSTEM_VENDOR 0, device := rdN s Obj.PCI_SUBSYSTEM_ID 0 })

/-- PERST_ASSERT: a port's PERST_N is asserted: its functions reset and its link goes down (R362). -/
def execPerstAssert (port : Nat) (s : State) : Host.Outcome State Fault Refusal :=
  .next (if port < 2 ∧ !(hostPort s port).perst then latchPerst (linkDown (resetPort s port) port) port else s)

/-- The device has finished start-up: the host ports may answer from step 6 on (R363, R350). -/
def portsAnswer (s : State) : Bool :=
  decide (rdN s Obj.STARTUP_STEP 0 > 6) || rdN s Obj.STARTUP_STEP 0 == 0xFF

/-- A link trains: the highest rate and width both ends support, not above PORT_MAX_SPEED; training below it raises a WARN event (R341). -/
def trainLink (s : State) (port speed width : Nat) : State :=
  let v := min speed (rdN s Obj.PORT_MAX_SPEED port)
  let t := wr (wr (wrB s Obj.PORT_LINK_UP port true) Obj.PORT_LINK_SPEED port (v : Nat)) Obj.PORT_LINK_WIDTH port (width : Nat)
  let u := wrB t Obj.PORT_FLIT_MODE port (decide (v = 6))
  if v < rdN s Obj.PORT_MAX_SPEED port then raiseOpen u (ev 0x08 341) .warn Src.hostPort port else u

/-- A port is ready: its PF exists. -/
def readyPort (s : State) (port : Nat) : State :=
  let t := wrB (modHostPort s port (fun x => { x with ready := true })) Obj.FUNC_PRESENT port true
  if rdB t Obj.FUNC_IN_RESET port then keepFnCounters t (completeFlr t port) port else t

/-- PERST_RELEASE: PERST_N is released, or a link that had gone down is back; the port trains at this speed and width and becomes ready (R363). Before the end of start-up step 6 it only trains. -/
def execPerstRelease (port speed width : Nat) (s : State) : Host.Outcome State Fault Refusal :=
  .next (if port < 2 ∧ 1 ≤ speed ∧ speed ≤ 6 ∧ ((hostPort s port).perst ∨ !rdB s Obj.PORT_LINK_UP port) then
      let t := trainLink (modHostPort (leaveIdle s) port (fun x => { x with perst := false })) port speed width
      if portsAnswer t then readyPort t port else t
    else s)

/-- HOT_RESET: a Hot Reset or Link Disable resets the port's functions; the link is reinitialised (R362). -/
def execHotReset (port : Nat) (s : State) : Host.Outcome State Fault Refusal :=
  .next (if port < 2 ∧ rdB s Obj.PORT_LINK_UP port then linkDown (resetPort s port) port else s)

/-- HOST_LINK_DOWN: a link goes down without PERST_N and its functions reset (R362, R370). -/
def execHostLinkDown (port : Nat) (s : State) : Host.Outcome State Fault Refusal :=
  .next (if port < 2 ∧ rdB s Obj.PORT_LINK_UP port then bump (linkDown (resetPort s port) port) Obj.PORT_LINK_DOWNS port 1 else s)

/-! ## Power states (R364 to R368) -/

/-- D3HOT_ENTRY: memory space and intake stop, and commands proceed as for a Bus Master Enable clear (R364). -/
def execD3hotEntry (f : Nat) (s : State) : Host.Outcome State Fault Refusal :=
  .next (if fnLives s f ∧ rdN s Obj.FUNC_DSTATE f = 0 then stopMaster (wr s Obj.FUNC_DSTATE f 3) f else s)

/-- D0_RETURN: held work resumes, and the device leaves module idle (R364, R366). -/
def execD0Return (f : Nat) (s : State) : Host.Outcome State Fault Refusal :=
  .next (if fnLives s f ∧ rdN s Obj.FUNC_DSTATE f = 3 then resumeMaster (leaveIdle (wr s Obj.FUNC_DSTATE f 0)) f else s)

/-- VF_ENABLE: VF Enable is set with NumVFs, or cleared (R343). It needs the port's PF. -/
def execVfEnable (port : Nat) (on : Bool) (n : Nat) (s : State) : Host.Outcome State Fault Refusal :=
  .next (if port ≥ 2 ∨ !fnLives s port then s
    else if on then
      (if (hostPort s port).vfEnable ∨ n > 512 then s
      else forRange n (fun i t => wrB t Obj.FUNC_PRESENT (vfIndex port (i + 1)) true) (modHostPort (wr s Obj.PORT_NUM_VFS port (n : Nat)) port (fun x => { x with vfEnable := true })))
    else if (hostPort s port).vfEnable then
      let l := portVfs s port
      dropVfs (forEach l (fun f t => endFlr t f) (forEach l (fun f t => startFlr t f) s)) port
    else s)

/-- MSIX_VECTOR_UNMASK: a vector's mask, the Function Mask or MSI-X Enable changes so that pending messages can be sent, once each (R351). -/
def execMsixVectorUnmask (f : Nat) (what : Unmask) (s : State) : Host.Outcome State Fault Refusal :=
  .next (if !fnLives s f then s
    else flushMsix (modFn s f (fun x => match what with
      | .vector v => { x with unmasked := addOnce x.unmasked v }
      | .function => { x with fnMask := false }
      | .enable => { x with msixEn := true })) f)

/-- PME_STATUS_CLEAR: software clears PME_Status, and WAKE_N is released (R368). -/
def execPmeStatusClear (f : Nat) (s : State) : Host.Outcome State Fault Refusal :=
  .next (if f < 2 ∧ (fnOf s f).pmeStatus then drive (modFn s f (fun x => { x with pmeStatus := false })) .wake true else s)

/-- The conditions of module idle (R365). -/
def idleConditions (s : State) : Bool :=
  [0, 1].all (fun port => (hostPort s port).perst || (portFns s port).all (fun f => rdN s Obj.FUNC_DSTATE f == 3)) &&
    (List.range 8).all (fun p => roleOf s p != Role.partner) && rdN s Obj.EPOCH_STATE 0 == 0

/-- MODULE_IDLE_ENTRY: host-class stripes close, a checkpoint of every ONLINE pool is asked for, drives are flushed, background work pauses, every slice writes its dirty lines back (R478), and the quadrants and HBM rest (R365). -/
def execModuleIdleEntry (s : State) : Host.Outcome State Fault Refusal :=
  .next (if rdB s Obj.MODULE_IDLE 0 ∨ !idleConditions s then s
    else
      let t := forRange 8 (fun p u =>
        if poolServes u p then
          let a := forceWhere 2 u p (fun x => x.cls == Cls.host)
          let b := requestCkpt a p
          forEach (slotsIn b p Ms.active) (fun m v => issueTo v p m .flush .health) b
        else u) s
      bump (wrB (cleanLines t (fun _ => true)) Obj.MODULE_IDLE 0 true) Obj.MODULE_IDLE_ENTRIES 0 1)

/-- MODULE_IDLE_EXIT: a wake event occurs, and quadrants, HBM and paused work resume (R366). -/
def execModuleIdleExit (s : State) : Host.Outcome State Fault Refusal :=
  .next (leaveIdle s)

end Sys2Proof.Machine
end

