-- ==== Sys2Proof/Machine/Epoch.lean ====
section
/-! DEFINITION. The epoch controller: staging, commit, acknowledgement, timeout, revert, and the pair-wide form (R45 to R47, R76 to R88). -/

namespace Sys2Proof.Machine

open Sys2Proof

/-! Values of EPOCH_STATE and EPOCH_RESULT (Table 02-11). -/

def Es.idle : Nat := 0
def Es.draining : Nat := 1
def Es.committing : Nat := 2
def Es.reverting : Nat := 3
def Es.prepared : Nat := 4

def Er.completed : Nat := 1
def Er.aborted : Nat := 2
def Er.dump : Nat := 3
def Er.conflict : Nat := 4
def Er.reconciled : Nat := 5

/-- EPOCH_STATE. -/
def epochState (s : State) : Nat :=
  rdN s Obj.EPOCH_STATE 0

/-- Change the epoch controller. -/
def modEp (s : State) (f : Epoch → Epoch) : State :=
  { s with ep := f s.ep }

/-! ## Applying a change set -/

/-- The objects an epoch applies: those marked epoch-staged, and the divider that a thermal epoch carries. -/
def epochObjs : List ObjDesc :=
  [Obj.POOL_STRIPE_HEIGHT, Obj.MIRROR_RESERVE, Obj.RESHAPE_TARGET_TABLE, Obj.RESHAPE_TARGET_K, Obj.PAIR_POOL_MIRROR, Obj.PAIR_POOL_COMPARED, Obj.CIPHER_POLICY,
   Obj.QUADRANT_DIVIDER, Obj.QUADRANT_DIVIDER_IN_EFFECT]

/-- The number that a staged value holds. -/
def Val.number : Val → Int
  | .num n => n
  | .bytes b => (leNat b : Nat)

/-- Apply one entry: the object takes the value. A configured divider is also in effect at once (R540); a stripe height goes into a new superblock generation (R131); mirroring that is switched on catches up (R410, R414). -/
def applyEntry (s : State) (e : Staged) : State :=
  match epochObjs.find? (fun o => o.index == keyIndex e.key && o.sub == keySub e.key) with
  | none => s
  | some o =>
    let i := keyInst e.key
    let t := wr s o i e.val.number
    if o.index = Obj.QUADRANT_DIVIDER.index ∧ o.sub = Obj.QUADRANT_DIVIDER.sub then wr t Obj.QUADRANT_DIVIDER_IN_EFFECT i e.val.number
    else if o.index = Obj.POOL_STRIPE_HEIGHT.index ∧ o.sub = Obj.POOL_STRIPE_HEIGHT.sub ∧ poolServes s i then writeSuper t i
    else if o.index = Obj.PAIR_POOL_MIRROR.index ∧ o.sub = Obj.PAIR_POOL_MIRROR.sub ∧ e.val.number ≠ 0 ∧ rd s o i = 0 ∧ servesPool s i then startCatchUp t i
    else t

/-- The pools whose reshape target a change set names. -/
def targetPools (l : List Staged) : List Nat :=
  (l.filter (fun e => keyIndex e.key == Obj.RESHAPE_TARGET_TABLE.index)).foldl (fun a e => addOnce a (keyInst e.key)) []

/-- Apply a change set; a changed reshape target of an ONLINE or DEGRADED pool starts a code reshape (R259). -/
def applyChange (s : State) (l : List Staged) : State :=
  let t := forEach l (fun e u => applyEntry u e) s
  forEach (targetPools l) (fun p u =>
    if (poolState u p = 1 ∨ poolState u p = 2) ∧ poolServes u p ∧ (rd u Obj.RESHAPE_TARGET_TABLE p ≠ rd u Obj.POOL_CODE_TABLE p ∨ rd u Obj.RESHAPE_TARGET_K p ≠ rd u Obj.POOL_K p)
    then codeReshape u p (rdN u Obj.RESHAPE_TARGET_TABLE p) (rdN u Obj.RESHAPE_TARGET_K p) else u) t

/-! ## Units (R45 to R47) -/

/-- A cluster acknowledges at once: it is disabled whole, or its quadrant is clock-gated (R24, R47). -/
def clusterOff (s : State) (u : Nat) : Bool :=
  decide (u < 64) && (bitAt (rdN s Obj.BIST_CLUSTERS_DISABLED 0) u || rdB s Obj.MODULE_IDLE 0)

/-- Stripes that a cluster's engines own and that have not ended. -/
def clusterStripes (s : State) (u : Nat) : List (Nat × Nat) :=
  s.pools.flatMap (fun e => (e.2.stripes.filter (fun x => x.2.cluster == u)).map (fun x => (e.1, x.1)))

/-- A unit forces its open stripes closed as short stripes (R46). -/
def closeFor (s : State) (u : Nat) : State :=
  forEach (clusterStripes s u) (fun x t => forceClose 3 t x.1 x.2) s

/-- An admitted command's transfer step is under way: a WRITE still fetches, or a READ whose sectors are all there still sends them. -/
def transferring (c : Cmd) : Bool :=
  (c.opcode == 2 && fetchingHost c) || (c.rd.any (fun x => match x with
    | .gathered .. => true
    | _ => false) && c.rd.all (fun x => match x with
    | .gathered .. => true
    | .delivered .. => true
    | .failed _ => true
    | _ => false))

/-- A unit has finished its epoch-N work (Table 01-7). Which cluster runs a decode is not given: every cluster waits for the decodes under way. -/
def unitFinished (s : State) (u : Nat) : Bool :=
  if u < 64 then clusterOff s u || ((clusterStripes s u).isEmpty && s.drv.jobs.isEmpty)
  else if u < 68 then !s.cache.fills.any (fun x => x.frame / 16 / 512 == u - 64) && (match s.cache.maint with
    | some m => m.paused
    | none => true)
  else if u = 68 then !s.qps.any (fun q => q.2.cmds.any transferring) && (s.pair.link.held.isEmpty || !culvertUp s)
  else !s.drv.cmds.any (fun e => e.2.st == .waiting)

/-- UNIT_ACK of a unit. -/
def setAck (s : State) (u : Nat) : State :=
  wrB (modEp s (fun x => { x with acked := addOnce x.acked u })) Obj.UNIT_ACK u true

/-- All 70 units of this controller have acknowledged. -/
def allAcked (s : State) : Bool :=
  (List.range 70).all (fun u => s.ep.acked.contains u)

/-! ## Running -/

/-- The messages of a change set's PREPARE. -/
def sendPrepare (s : State) (p : Nat) (l : List Staged) : State :=
  sendMsg s (.epochPrepare p l)

/-- The configuration record of an epoch is written; the initiator of a pair epoch sends COMMIT (Table 02-9). -/
def toCommitting (s : State) : State :=
  let t := modEp (wr s Obj.EPOCH_STATE 0 (Es.committing : Nat)) (fun x => { x with recorded := false })
  if s.ep.isPair ∧ s.ep.initiator then modEp (sendMsg t (.epochCommit (rdN s Obj.EPOCH_PAIR_CURRENT 0))) (fun x => { x with commitSent := true }) else t

/-- What follows an acknowledgement (Table 02-9). -/
def afterAck (s : State) : State :=
  if epochState s ≠ Es.draining ∨ !allAcked s then s
  else if !s.ep.isPair then toCommitting s
  else if s.ep.initiator then (if s.ep.acked.contains 70 then toCommitting s else s)
  else sendMsg (wr s Obj.EPOCH_STATE 0 (Es.prepared : Nat)) (.epochPrepared (rdN s Obj.EPOCH_PAIR_CURRENT 0))

/-- An epoch starts: the change set is frozen, dispatch stops, stripes are forced closed, disabled clusters acknowledge (R79, R81, R46, R47). -/
def startEpoch (s : State) (change : List Staged) (isPair initiator : Bool) : State :=
  let a := modEp s (fun x => { x with change := change, isPair := isPair, initiator := initiator, acked := [], started := s.now, revertAs := 0, commitSent := false, reconciling := false, recorded := false })
  let b := wrBytes (wr a Obj.EPOCH_STATE 0 (Es.draining : Nat)) Obj.EPOCH_LAGGARDS 0 (zeros 16)
  let c := { forRange 71 (fun u t => clr t Obj.UNIT_ACK u) b with cache := { b.cache with maint := b.cache.maint.map (fun m => { m with paused := true }) } }
  let d := forRange 8 (fun p t => forceWhere 3 t p (fun _ => true)) c
  let e := if isPair ∧ initiator then sendPrepare d (rdN d Obj.EPOCH_PAIR_CURRENT 0) change else d
  afterAck (forRange 64 (fun u t => if clusterOff t u then setAck t u else t) e)

/-- The epoch reaches IDLE: acknowledgements clear, work resumes, the duration is known. -/
def toIdle (s : State) (result : Nat) : State :=
  let a := forRange 71 (fun u t => clr t Obj.UNIT_ACK u) s
  let b := wr (wr (wr a Obj.EPOCH_STATE 0 (Es.idle : Nat)) Obj.EPOCH_RESULT 0 result) Obj.EPOCH_LAST_DURATION 0 ((s.now - s.ep.started : Nat) : Int)
  let c := { b with cache := { b.cache with maint := b.cache.maint.map (fun m => { m with paused := false }) } }
  modEp c (fun x => { x with change := [], isPair := false, initiator := false, acked := [], thermal := none, commitSent := false, reconciling := false, recorded := false })

/-- A thermal step that has been applied ends its quadrant's gating, and a step down counts (R543). -/
def thermalDone (before s : State) : State :=
  match before.ep.thermal with
  | some (q, d) =>
    let t := wrB s Obj.QUADRANT_GATED q false
    if d > rdN before Obj.QUADRANT_DIVIDER_IN_EFFECT q then bump t Obj.QUADRANT_THERMAL_STEPS q 1 else t
  | none => s

/-- An epoch completes: the values are applied, the epoch advances, every unit that is enabled holds it, dispatch resumes (R47, R81, R84, R87). -/
def completeEpoch (s : State) : State :=
  let n := rdN s Obj.EPOCH_CURRENT 0 + 1
  let a := bump (wr (applyChange s s.ep.change) Obj.EPOCH_CURRENT 0 (n : Nat)) Obj.CONFIG_RECORDS 0 1
  let b := forRange 70 (fun u t => if clusterOff s u then t else wr t Obj.UNIT_APPLIED_EPOCH u (n : Nat)) a
  let p := rdN s Obj.EPOCH_PAIR_CURRENT 0
  let c := if s.ep.reconciling then wr b Obj.EPOCH_PAIR_CURRENT 0 (s.pair.peerEpoch : Nat) else if s.ep.isPair then wr b Obj.EPOCH_PAIR_CURRENT 0 ((p + 1 : Nat) : Int) else b
  let d := if s.ep.isPair then modEp (wr c Obj.UNIT_APPLIED_EPOCH 70 ((p + 1 : Nat) : Int)) (fun x => { x with lastPair := s.ep.change }) else c
  let e := if (s.ep.initiator ∨ !s.ep.isPair) ∧ s.ep.thermal.isNone ∧ !s.ep.reconciling then modEp d (fun x => { x with staged := [] }) else d
  toIdle (thermalDone s e) (if s.ep.reconciling then Er.reconciled else Er.completed)

/-- The conditions of COMMITTING hold: the record is written, and an initiator's COMMIT is acknowledged at link level. -/
def tryComplete (s : State) : State :=
  if epochState s = Es.committing ∧ s.ep.recorded ∧ !s.ep.commitSent then completeEpoch s else s

/-- The running epoch reverts. -/
def orderRevert (s : State) (result : Nat) : State :=
  modEp (wr s Obj.EPOCH_STATE 0 (Es.reverting : Nat)) (fun x => { x with revertAs := result, commitSent := false })

/-! ## Staging and commit (R76 to R80, R84) -/

/-- Bytes of a staged value. -/
def Val.size : Val → Nat
  | .num _ => 8
  | .bytes b => b.length

/-- A write to an epoch-staged object: what it meets, and the staged set after it (R76, R77, R80). -/
def stageWrite (s : State) (e : Staged) : Nat × State :=
  if epochState s ≠ Es.idle then (Rs.busy, s)
  else
    let l := s.ep.staged.filter (fun x => x.key != e.key) ++ [e]
    if l.length > 256 ∨ ((l.map (fun x => x.val.size)).sum) > 4194304 then (Rs.tooLarge, s) else (Rs.ok, modEp s (fun x => { x with staged := l }))

/-- What a write of EPOCH_COMMIT, or of EPOCH_COMMIT_PAIR, meets: BUSY, RANGE or SCOPE in this order (R79, R84). A pair epoch needs a joined pair. -/
def commitResult (s : State) (v : Nat) (pair : Bool) : Nat :=
  if epochState s ≠ Es.idle ∨ rdN s Obj.STARTUP_STEP 0 < 11 then Rs.busy
  else if v ≠ rdN s (if pair then Obj.EPOCH_PAIR_CURRENT else Obj.EPOCH_CURRENT) 0 then Rs.range
  else if s.ep.staged.any (fun e => e.pair != pair) ∨ (pair ∧ !s.pair.joined) then Rs.scope
  else Rs.ok

/-- Commit the staged set as a local or a pair epoch, unless it is refused. -/
def commitEpoch (s : State) (v : Nat) (pair : Bool) : State :=
  if commitResult s v pair = Rs.ok then startEpoch s s.ep.staged pair pair else s

/-- EPOCH_COMMIT: a write of the object commits the staged set as a local epoch, or is refused (R79). -/
def execEpochCommit (v : Nat) (s : State) : Host.Outcome State Fault Refusal :=
  .next (commitEpoch s v false)

/-- EPOCH_COMMIT_PAIR: a write of the object starts a pair-wide epoch, or is refused (R84). -/
def execEpochCommitPair (v : Nat) (s : State) : Host.Outcome State Fault Refusal :=
  .next (commitEpoch s v true)

/-- Clear the staged set. -/
def discardStaged (s : State) : State :=
  modEp s (fun x => { x with staged := [] })

/-- EPOCH_DISCARD: a write of true clears the staged set; refused while an epoch runs (R78). -/
def execEpochDiscard (s : State) : Host.Outcome State Fault Refusal :=
  .next (if epochState s = Es.idle then discardStaged s else s)

/-! ## Acknowledgement, timeout, revert -/

/-- UNIT_ACKNOWLEDGE: a unit closes what it has open; once its epoch-N work is finished it applies the change and acknowledges (R46, R81). Unit 70 is the partner's PREPARED. -/
def execUnitAcknowledge (u : Nat) (s : State) : Host.Outcome State Fault Refusal :=
  .next (if epochState s = Es.draining ∧ u < 70 ∧ !s.ep.acked.contains u then
      let t := if u < 64 then closeFor s u else s
      if unitFinished t u then afterAck (wr (setAck t u) Obj.UNIT_APPLIED_EPOCH u ((rdN t Obj.EPOCH_CURRENT 0 + 1 : Nat) : Int)) else t
    else s)

/-- The laggards' bits (Table 02-11). -/
def laggardBytes (s : State) : Bytes :=
  leBytes 16 (((List.range (if s.ep.isPair ∧ s.ep.initiator then 71 else 70)).filter (fun u => !s.ep.acked.contains u)).map (fun u => 2 ^ u)).sum

/-- EPOCH_TIMEOUT: the timer expires. In DRAINING the laggards are named and every unit reverts; in PREPARED with the Culvert up and no word, the units revert; with it down they hold (R82, R86). -/
def execEpochTimeout (s : State) : Host.Outcome State Fault Refusal :=
  .next (if epochState s = Es.draining then
      let t := orderRevert (wrBytes s Obj.EPOCH_LAGGARDS 0 (laggardBytes s)) Er.aborted
      if s.ep.isPair then sendMsg t (.epochAbort (rdN s Obj.EPOCH_PAIR_CURRENT 0)) else t
    else if epochState s = Es.prepared ∧ culvertUp s then orderRevert s Er.aborted
    else s)

/-- EPOCH_RECORD_WRITTEN: the configuration record is written; the epoch completes, once an initiator's COMMIT is acknowledged too (R81). -/
def execEpochRecordWritten (s : State) : Host.Outcome State Fault Refusal :=
  .next (if epochState s = Es.committing then tryComplete (modEp s (fun x => { x with recorded := true })) else s)

/-- EPOCH_REVERT_DONE: all units are back at epoch N and dispatch resumes; the staged set stays (R82). A cluster that is off shows its epoch when it is next enabled (R47). A thermal step waits for its retry with the quadrant gated (R543). -/
def execEpochRevertDone (s : State) : Host.Outcome State Fault Refusal :=
  .next (if epochState s = Es.reverting then
      let n := rdN s Obj.EPOCH_CURRENT 0
      let t := toIdle (forRange 70 (fun u t => if clusterOff s u then t else wr t Obj.UNIT_APPLIED_EPOCH u (n : Nat)) s) s.ep.revertAs
      match s.ep.thermal with
      | some x => wrB { t with power := { t.power with retry := t.power.retry ++ [x] } } Obj.QUADRANT_GATED x.1 true
      | none => t
    else s)

/-- EPOCH_COMMIT_ACK_TIMEOUT: the initiator's COMMIT is not acknowledged within the timer: revert, and mark the pair epoch for reconciliation (Table 02-9). -/
def execEpochCommitAckTimeout (s : State) : Host.Outcome State Fault Refusal :=
  .next (if epochState s = Es.committing ∧ s.ep.initiator ∧ s.ep.commitSent then modEp (orderRevert s Er.aborted) (fun x => { x with reconcile := true }) else s)

/-! ## Pair messages (R84 to R87) -/

/-- A change set as a message carries it. -/
def changeOf (l : List ChangeItem) : List Staged :=
  l.map (fun c => { key := objKey c.index c.inst c.sub, val := .num c.value, pair := true })

/-- EPOCH_PREPARE: the partner's PREPARE for pair epoch `p`. An idle controller drains for it; of two initiators side B gives way with PAIR_CONFLICT; a controller behind by an epoch runs it to reconcile (R84, R85, R87). -/
def execEpochPrepare (p : Nat) (change : List ChangeItem) (s : State) : Host.Outcome State Fault Refusal :=
  .next (
    let mine := rdN s Obj.EPOCH_PAIR_CURRENT 0
    if epochState s = Es.idle ∧ p = mine ∧ s.pair.joined then startEpoch (leaveIdle s) (changeOf change) true false
    else if epochState s = Es.idle ∧ !s.pair.joined ∧ mine < p then
      modEp (startEpoch { leaveIdle s with pair := { s.pair with peerEpoch := p } } (changeOf change) false false) (fun x => { x with reconciling := true })
    else if epochState s = Es.draining ∧ s.ep.isPair ∧ s.ep.initiator ∧ p = mine ∧ rdN s Obj.PAIR_SIDE 0 = 1 then
      startEpoch (wr s Obj.EPOCH_RESULT 0 (Er.conflict : Nat)) (changeOf change) true false
    else s)

/-- EPOCH_PREPARED: the partner's acknowledgement, as unit 70 (R84). -/
def execEpochPrepared (p : Nat) (s : State) : Host.Outcome State Fault Refusal :=
  .next (if epochState s = Es.draining ∧ s.ep.isPair ∧ s.ep.initiator ∧ p = rdN s Obj.EPOCH_PAIR_CURRENT 0 then afterAck (setAck s 70) else s)

/-- EPOCH_COMMIT_MESSAGE: COMMIT in PREPARED; the configuration record is written (Table 02-9). -/
def execEpochCommitMessage (p : Nat) (s : State) : Host.Outcome State Fault Refusal :=
  .next (if epochState s = Es.prepared ∧ p = rdN s Obj.EPOCH_PAIR_CURRENT 0 then toCommitting s else s)

/-- EPOCH_ABORT: ABORT of the running pair epoch; the units revert (Table 02-9). -/
def execEpochAbort (p : Nat) (s : State) : Host.Outcome State Fault Refusal :=
  .next (if (epochState s = Es.prepared ∨ epochState s = Es.draining) ∧ s.ep.isPair ∧ p = rdN s Obj.EPOCH_PAIR_CURRENT 0 then orderRevert s Er.aborted else s)

/-- A partner in PREPARED whose initiator is taken over completes the epoch from its own copy of the change set (R86). -/
def completeOrphan (s : State) : State :=
  if epochState s = Es.prepared then toCommitting s else s

end Sys2Proof.Machine
end

