-- ==== Sys2Proof/Machine/Fence.lean ====
section
/-! DEFINITION. Ownership between the two controllers of a pair: the partner's classification, fencing and yielding, takeover, contested members and handover (R416 to R429, R432, R433). -/

namespace Sys2Proof.Machine

open Sys2Proof

/-! ## What a pool's commands are -/

/-- A member command of a takeover, a contest or a handover of a pool is outstanding. -/
def takeoverBusy (s : State) (p : Nat) : Bool :=
  s.drv.cmds.any (fun e => match e.2.purp with
    | .takeover q _ => q == p
    | _ => false)

/-- Pools in a role. -/
def poolsIn (s : State) (r : Nat) : List Nat :=
  (List.range 8).filter (fun p => roleOf s p == r)

/-! ## State of the pair -/

/-- Bits of PAIR_FENCE_STATE: 0 REQ_OUT, 1 REQ_IN, 2 ACK_OUT, 3 ACK_IN. -/
def fenceBit (s : State) (b : Nat) : Bool :=
  bitAt (rdN s Obj.PAIR_FENCE_STATE 0) b

/-- Set a bit of PAIR_FENCE_STATE. -/
def setFence (s : State) (b : Nat) (on : Bool) : State :=
  wr s Obj.PAIR_FENCE_STATE 0 (withBit (rdN s Obj.PAIR_FENCE_STATE 0) b on : Nat)

/-- The partner is lost: no heartbeat on PAIR_ALIVE_I, and none in messages. -/
def partnerLost (s : State) : Bool :=
  !rdB s Obj.PAIR_ALIVE_PRESENT 0 && !s.pair.heard

/-- PAIR_STATE: the missing condition of R402, or where the pair stands. -/
def pairState (s : State) : Nat :=
  if !s.pair.enabled then 0
  else if !(poolsIn s Role.fenced).isEmpty then 8
  else if s.pair.joined then (if s.pools.any (fun e => e.2.catchUp) then 5 else 6)
  else if s.pair.takeover.isSome then 7
  else if !culvertUp s ∨ !s.pair.heard then 1
  else if s.pair.peerSide = rdN s Obj.PAIR_SIDE 0 then 2
  else if rdN s Obj.PAIR_PEER_COMPAT_LEVEL 0 ≠ rdN s Obj.FW_COMPAT_LEVEL 0 then 3
  else if s.pair.peerEpoch ≠ rdN s Obj.EPOCH_PAIR_CURRENT 0 then 4
  else 1

/-- PAIR_STATE follows. -/
def notePair (s : State) : State :=
  wr s Obj.PAIR_STATE 0 (pairState s : Nat)

/-- The pair leaves the joined state: mirroring stops, catch-ups are discarded, messages not yet acknowledged are forgotten (R409, R434). -/
def leavePair (s : State) : State :=
  let t := modPair s (fun x => { x with joined := false, mirWait := [], recWait := [], synced := [] })
  let u := { t with pools := Tbl.mapV t.pools (fun _ x => { x with catchUp := false }) }
  let v := { u with prot := Tbl.mapV u.prot (fun _ x => { x with recAcked := true }) }
  notePair v

/-! ## Yielding (R426) -/

/-- Forget a member command without an outcome. -/
def discardCmd (s : State) (id : Nat) : State :=
  endCmd s id

/-- Discard the commands of a pool that no drive holds: gated, held, waiting or delayed ones (R398). -/
def discardQueued (s : State) (p : Nat) : State :=
  forEach (s.drv.cmds.filter (fun e => purpPool e.2.purp == some p && !occupies e.2)) (fun e t => discardCmd t e.1) s

/-- The pool's work on this controller stops: its open stripes are left behind, its own data slots stay for the partner (R426, R428). -/
def haltPool (s : State) (p : Nat) : State :=
  let t := forEach (poolOf s p).stripes (fun e u => freeParity u p e.1) s
  noteStripes (modPool t p (fun x => { x with stripes := [], lanes := x.lanes.map (fun l => { l with seg := none, stripe := none, waiting := false }), grains := [], staged := [], ckpt := none
                                              ckptAgain := false, action := none, atomics := [], catchUp := false, mapHold := false, leafHold := false, logHold := false, resync := none, logless := true })) p

/-- A pool becomes FENCED here: its admitted commands end, its gated commands are discarded, and no reservation command follows until it rejoins (R426). -/
def yieldPool (s : State) (p : Nat) : State :=
  let a := if servesPool s p then fenceCmds s p else s
  let b := discardQueued (haltPool a p) p
  let c := modPair b (fun x => { x with contest := Tbl.erase x.contest p, handover := Tbl.erase x.handover p, settled := x.settled.filter (fun y => y != p) })
  notePair (wrB (wr c Obj.PAIR_POOL_ROLE p (Role.fenced : Nat)) Obj.PAIR_POOL_UNMIRRORED p false)

/-! ## Takeover (R422 to R424) -/

/-- Change the running takeover. -/
def modTk (s : State) (f : Takeover → Takeover) : State :=
  modPair s (fun x => { x with takeover := x.takeover.map f })

/-- Go to a step of Table 11-9. -/
def tkStep (s : State) (n : Nat) : State :=
  wr (modTk s (fun x => { x with step := n })) Obj.PAIR_TAKEOVER_STEP 0 n

/-- Drive PAIR_FENCE_REQ_O_N: asserted is low. -/
def driveReq (s : State) (on : Bool) : State :=
  drive (setFence s 0 on) .fenceReq (!on)

/-- The ACTIVE members of a pool, as the adopted superblock lists them. -/
def tkMembers (s : State) (p : Nat) : List Nat :=
  slotsIn s p Ms.active

/-- The port of a member slot holds a drive that can answer. -/
def answers (s : State) (p m : Nat) : Bool :=
  decide (mPort s p m < 64) && rdN s Obj.DPORT_STATE (mPort s p m) == Dp.ready

/-- Register and acquire on the members listed that can answer (step 3 of Table 11-9). -/
def reserveOn (s : State) (p : Nat) (l : List Nat) : State :=
  forEach (l.filter (fun m => answers s p m)) (fun m t => issueTo t p m .resRegister (.takeover p m)) s

/-- Step 3: reservations on every member of each pool at once. -/
def tkReserve (s : State) : State :=
  match s.pair.takeover with
  | none => s
  | some k =>
    let t := modTk (tkStep s 3) (fun x => { x with open_ := k.pools.flatMap (fun p => (tkMembers s p).map (mInst p)) })
    forEach k.pools (fun p u => reserveOn u p (tkMembers u p)) t

/-- A takeover starts (step 1 of Table 11-9). -/
def startTakeover (s : State) (cause : Nat) : State :=
  let l := poolsIn s Role.partner
  if s.pair.takeover.isSome ∨ l.isEmpty ∨ !s.pair.enabled then s
  else
    let a := modPair (driveReq (wr s Obj.PAIR_TAKEOVER_CAUSE 0 cause) true) (fun x =>
      { x with takeover := some { pools := l, step := 2, cause := cause, started := s.now, won := [], lost := [], open_ := [], silent := !rdB s Obj.PAIR_ALIVE_PRESENT 0, alarmed := false } })
    let b := notePair (tkStep (leavePair a) 2)
    if fenceBit b 3 then tkReserve b else b

/-- REQ is released. -/
def releaseReq (s : State) : State :=
  driveReq s false

/-- The takeover is abandoned in step 2 (R423). -/
def abandonTakeover (s : State) : State :=
  notePair (wr (modPair (releaseReq s) (fun x => { x with takeover := none })) Obj.PAIR_TAKEOVER_STEP 0 0)

/-- The members of a pool in a list of member instances. -/
def ofPool (p : Nat) (l : List Nat) : List Nat :=
  l.filter (fun i => i / 64 == p)

/-- R424 for one pool: this controller owns it, yields it, or neither yet. -/
inductive Verdict
  | own | yields | undecided
deriving DecidableEq, Repr

/-- The outcome of R424 from the members won and lost. -/
def verdict (s : State) (k : Takeover) (p : Nat) : Verdict :=
  let n := (tkMembers s p).length
  let w := (ofPool p k.won).length
  let l := (ofPool p k.lost).length
  let a := rdN s Obj.PAIR_SIDE 0 == 0
  if 2 * w > n ∨ (2 * w = n ∧ a) then .own
  else if 2 * l > n ∨ (2 * l = n ∧ !a) then .yields
  else .undecided

/-- A pool leaves the takeover: this controller yields it and stays PARTNER (Table 11-12). -/
def tkYield (s : State) (p : Nat) : State :=
  modTk s (fun x => { x with pools := x.pools.filter (fun q => q != p), won := x.won.filter (fun i => i / 64 != p), lost := x.lost.filter (fun i => i / 64 != p), open_ := x.open_.filter (fun i => i / 64 != p) })

/-- The takeover ends; REQ stays low until the pair has joined again (R417). -/
def endTakeover (s : State) : State :=
  notePair (wr (modPair s (fun x => { x with takeover := none })) Obj.PAIR_TAKEOVER_STEP 0 0)

/-- Step 4: ownership is decided pool by pool; with every pool decided the takeover goes on, and preempts again on the members it lost (R424). `last` gives up what is undecided. -/
def settleOwnership (s : State) (last : Bool) : State :=
  match s.pair.takeover with
  | none => s
  | some k =>
    if k.step ≠ 3 then s
    else
      let v (p : Nat) : Verdict := verdict s k p
      let gone := k.pools.filter (fun p => v p == .yields || (last && v p == .undecided))
      let contested := (k.pools.filter (fun p => (v p != .undecided || last) && !(ofPool p k.lost).isEmpty)).length
      if !last ∧ k.pools.any (fun p => v p == .undecided) then forEach gone (fun p t => tkYield t p) s
      else
        let a := bump (forEach gone (fun p t => tkYield t p) s) Obj.PAIR_CONTESTED 0 contested
        let b := if k.pools.any (fun p => v p == .undecided) then raiseOpen a (ev 0x0A 424) .alarm Src.pair 0 else a
        match b.pair.takeover with
        | none => b
        | some k2 =>
          if k2.pools.isEmpty then endTakeover b
          else tkStep (forEach k2.pools (fun p t => reserveOn t p ((ofPool p k2.lost).map (fun i => i % 64))) b) 5

/-! ## The later steps -/

/-- Read the superblock slots of every member of a pool (R98). -/
def tkSupers (s : State) (p : Nat) : State :=
  forEach (assemblyPorts s p) (fun port t => issue t port (.read 0 0 (zoneSectors t p port)) (.takeover p (64 + port))) s

/-- Adopt the newest superblock and write a generation with raised floors (step 6 of Table 11-9, R132). -/
def tkAdopt (s : State) (p : Nat) : State :=
  match adopted s p with
  | none => s
  | some x => writeSuper (adoptSuper s p x) p

/-- The map of an adopted pool: its checkpoint and the mirrored records, or the scan where none are held (R163, R164). A pool whose map cannot be recovered is FAILED. -/
def tkRecover (s : State) (p : Nat) (media : List MediaItem) : State :=
  let r := recoverPool s p media true (!mirrorRecords s p)
  if r.2 then r.1 else setCond r.1 p Pc.failed true

/-- Move a mirror slot that is kept into the own half. -/
def adoptSlot (s : State) (n : Nat) : State :=
  match slotOf s n with
  | none => s
  | some x =>
    let m := Tbl.firstFree s.prot 0 ownSlots
    if m ≥ ownSlots then s
    else { s with prot := Tbl.set (Tbl.erase s.prot n) m { x with st := .dirty, restored := true, acked := true, mirrored := true, recAcked := true, atomicRef := x.atomicRef } }

/-- Settle the mirror slots of a taken pool (R427): an atomic write's slots by its mark, the others under R209. -/
def settleMirror (s : State) (p : Nat) : State :=
  let l := s.prot.filter (fun e => e.2.st == .mirror && e.2.pool == p)
  let marked (x : Slot) : Bool := s.pair.marks.any (fun m => m.pool == p && m.first == x.atomicRef)
  let gone (x : Slot) : Bool := slotRecorded s p x || slotLoses s x || (x.atomicRef != 0 && !marked x)
  let a := forEach (l.filter (fun e => gone e.2)) (fun e t => { t with prot := Tbl.erase t.prot e.1 }) s
  let b := noteSlots (forEach (l.filter (fun e => !gone e.2)) (fun e t => adoptSlot t e.1) a)
  modPair (settleSlots b p) (fun x => { x with marks := x.marks.filter (fun m => m.pool != p), toSettle := addOnce x.toSettle p })

/-- Step 9: the pool serves in role SOLO. -/
def tkServe (s : State) (p : Nat) : State :=
  wr s Obj.PAIR_POOL_ROLE p (Role.solo : Nat)

/-- The steps after the decision, in order: epoch idle, assembly, map, mirror slots, service (Table 11-9). -/
def tkAdvance (s : State) (media : List MediaItem) : State :=
  match s.pair.takeover with
  | none => s
  | some k =>
    if k.pools.any (takeoverBusy s) then s
    else if k.step = 5 then
      (if epochState s = Es.idle then tkStep (forEach k.pools (fun p t => tkSupers t p) s) 6 else completeOrphan s)
    else if k.step = 6 then tkStep (forEach k.pools (fun p t => tkAdopt t p) s) 7
    else if k.step = 7 then tkStep (forEach k.pools (fun p t => tkRecover t p media) s) 8
    else if k.step = 8 then tkStep (forEach k.pools (fun p t => if poolCond t p Pc.failed then t else settleMirror (reserveAll (settleSlots (settleSegs (serve t p false) p) p) p) p) s) 9
    else if k.step = 9 then
      let t := forEach k.pools (fun p u => noteHolds (tkServe u p)) s
      endTakeover (wr t Obj.PAIR_LAST_TAKEOVER_MS 0 (((s.now - k.started) / 1000 : Nat) : Int))
    else s

/-! ## Contested members (R425) -/

/-- An owner that meets Reservation Conflict asks every member who holds it (R425). -/
def startContest (s : State) (p : Nat) : State :=
  if (Tbl.get s.pair.contest p).isSome ∨ !servesPool s p then s
  else
    let l := (slotsIn s p Ms.active).filter (fun m => answers s p m)
    forEach l (fun m t => issueTo t p m .resReport (.takeover p m)) (modPair s (fun x => { x with contest := Tbl.set x.contest p { left := l, theirs := [] } }))

/-- The commands of a pool that met the conflict go out again. -/
def resumeDelayed (s : State) (p : Nat) : State :=
  forEach (s.drv.cmds.filter (fun e => purpPool e.2.purp == some p && e.2.st == .delayed)) (fun e t => place t e.1 e.2) s

/-- Every member has answered: yield to a partner that holds enough members, else preempt back (R425). -/
def endContest (s : State) (p : Nat) (x : Contest) : State :=
  let n := (slotsIn s p Ms.active).length
  let l := x.theirs.length
  let t := modPair s (fun y => { y with contest := Tbl.erase y.contest p })
  if 2 * l > n ∨ (2 * l = n ∧ rdN s Obj.PAIR_SIDE 0 = 1) then yieldPool (if l = 0 then t else bump t Obj.PAIR_CONTESTED 0 1) p
  else if l = 0 then resumeDelayed t p
  else reserveOn (bump t Obj.PAIR_CONTESTED 0 1) p x.theirs

/-- A Reservation Report has answered, or failed. -/
def reportAnswer (s : State) (p m : Nat) (holder : Option Nat) : State :=
  match Tbl.get s.pair.contest p with
  | none => s
  | some x =>
    let other := match holder with
      | some k => k != rdN s Obj.RESERVATION_KEY 0
      | none => false
    let y : Contest := { left := x.left.filter (fun i => i != m), theirs := if other then addOnce x.theirs m else x.theirs }
    if y.left.isEmpty then endContest s p y else modPair s (fun z => { z with contest := Tbl.set z.contest p y })

/-! ## Handover (R429) -/

/-- The step of a handover of a pool: 1 to 5 on the owner, 11 to 14 on the partner. -/
def hvStep (s : State) (p : Nat) : Nat :=
  Tbl.getD s.pair.handover p 0

/-- Go to a step of a handover. -/
def setHv (s : State) (p n : Nat) : State :=
  modPair s (fun x => { x with handover := Tbl.set x.handover p n })

/-- A handover ends with a result. -/
def endHv (s : State) (p result : Nat) : State :=
  wr (modPair s (fun x => { x with handover := Tbl.erase x.handover p })) Obj.PAIR_HANDOVER_RESULT p result

/-- What a write of PAIR_POOL_HANDOVER starts (R429). -/
def startHandover (s : State) (p : Nat) : State :=
  if roleOf s p = Role.owner ∧ s.pair.joined ∧ (poolState s p = 1 ∨ poolState s p = 2) ∧ hvStep s p = 0 then
    wr (setHv s p 1) Obj.PAIR_HANDOVER_RESULT p 1
  else wr s Obj.PAIR_HANDOVER_RESULT p 3

/-- One step of the old owner: drain, checkpoint, release, request. -/
def hvOwner (s : State) (p : Nat) : State :=
  let n := hvStep s p
  if n = 1 then (if poolBusy s p then s else setHv (forceWhere 1 s p (fun _ => true)) p 2)
  else if n = 2 then (if poolQuiet s p ∧ (poolOf s p).ckpt.isNone then setHv (startCkpt s p) p 3 else s)
  else if n = 3 then
    (if (poolOf s p).ckpt.isSome then s
    else forEach (slotsIn s p Ms.active) (fun m t => issueTo t p m .resRelease (.takeover p m)) (setHv s p 4))
  else if n = 4 ∧ !takeoverBusy s p then sendMsg (setHv s p 5) (.handover p (rdN s Obj.MAP_CHECKPOINT_NUMBER p) false)
  else s

/-- One step of the partner that takes the pool: acquire, assemble, serve. -/
def hvPartner (s : State) (p : Nat) (media : List MediaItem) : State :=
  let n := hvStep s p
  if n < 11 ∨ takeoverBusy s p then s
  else if n = 11 then tkSupers (setHv s p 12) p
  else if n = 12 then setHv (tkAdopt s p) p 13
  else if n = 13 then setHv (tkRecover s p media) p 14
  else
    let t := noteHolds (settleSlots (settleSegs (serve s p false) p) p)
    let u := sendMsg (modPair t (fun x => { x with handover := Tbl.erase x.handover p })) (.handover p (rdN s Obj.MAP_CHECKPOINT_NUMBER p) true)
    notePair (takeRole u p)

/-- The partner could not acquire a member: it gives back what it has, and the old owner keeps the pool. A done message with checkpoint 0 says so. -/
def hvFails (s : State) (p : Nat) : State :=
  let t := forEach (slotsIn s p Ms.active) (fun m u => if answers u p m then issueTo u p m .resRelease (.takeover p m) else u) s
  sendMsg (modPair t (fun x => { x with handover := Tbl.erase x.handover p })) (.handover p 0 true)

/-- Every handover under way goes on where it can. -/
def hvAdvance (s : State) (media : List MediaItem) : State :=
  forEach s.pair.handover (fun e t => if e.2 < 11 then hvOwner t e.1 else hvPartner t e.1 media) s

/-! ## Commands of ownership -/

/-- A reservation command, or a superblock read, of a takeover, contest or handover has ended (R424, R425, R429). -/
def reservationEnded (s : State) (p m : Nat) (op : MOp) (x : DrvStatus) (data : Bytes) : State :=
  let conflict := x.status == statusConflict
  let i := mInst p m
  match op with
  | .read .. => modDPort s (m - 64) (fun d => d.takeSlots (if x.status = 0 then data else []))
  | .resReport => reportAnswer s p m (if x.status = 0 then x.holder else none)
  | .resRegister =>
    if x.status = 0 then issueTo s p m (.resAcquire (if hvStep s p = 11 then 0 else 2)) (.takeover p m)
    else if hvStep s p = 11 then hvFails s p else s
  | .resAcquire _ =>
    (match s.pair.takeover with
    | some k =>
      if k.pools.contains p ∧ k.step = 3 then
        let out (l : List Nat) : List Nat := l.filter (fun j => j != i)
        let t := modTk s (fun y => if x.status = 0 then { y with won := addOnce y.won i, lost := out y.lost, open_ := out y.open_ }
          else if conflict then { y with lost := addOnce y.lost i, open_ := out y.open_ } else y)
        settleOwnership t false
      else s
    | none =>
      if hvStep s p = 11 then (if x.status = 0 then s else hvFails s p)
      else if hvStep s p ≠ 0 ∨ !servesPool s p then s
      else if x.status = 0 then resumeDelayed s p
      else if conflict then startContest s p else s)
  | _ => s

/-- TAKEOVER_STEP_DONE: a member command of a takeover, contest or handover ends with this status and data, or what its step waited for has come about, and the next step begins; `heads` is what the members answer for zone sector 0 of their zones (R164), `media` for the other reads of recovery (R422, R424, R425, R429). -/
def execTakeoverStepDone (id : Nat) (x : DrvStatus) (data : Bytes) (heads media : List MediaItem) (s : State) : Host.Outcome State Fault Refusal :=
  .next (match outstanding s id with
    | some c => match c.purp with
      | .takeover p m => reservationEnded (endCmd s id) p m c.op x data
      | _ => s
    | none => hvAdvance (tkAdvance s (heads ++ media)) (heads ++ media))

/-- PAIR_TAKEOVER: a write of the object takes over every pool this controller is PARTNER for (R422). -/
def execPairTakeover (s : State) : Host.Outcome State Fault Refusal :=
  .next (startTakeover s 5)

/-- FENCE_ACK_RECEIVED: PAIR_FENCE_ACK_I_N falls and the takeover goes on to reservations (R423). -/
def execFenceAckReceived (s : State) : Host.Outcome State Fault Refusal :=
  .next (
    let t := setFence s 3 true
    match t.pair.takeover with
    | some k => if k.step = 2 then tkReserve t else t
    | none => t)

/-- FENCE_WAIT_TIMEOUT: 10 ms pass without ACK. With the heartbeat absent throughout the takeover goes on; else an ALARM is raised once and REQ stays low (R423). -/
def execFenceWaitTimeout (s : State) : Host.Outcome State Fault Refusal :=
  .next (match s.pair.takeover with
    | some k =>
      if k.step ≠ 2 then s
      else if k.silent then tkReserve s
      else
        let t := modTk s (fun x => { x with alarmed := true, silent := !rdB s Obj.PAIR_ALIVE_PRESENT 0 })
        if k.alarmed then t else raiseOpen t (ev 0x0A 423) .alarm Src.pair 0
    | none => s)

/-- RESERVATION_RETRY: a second has passed with members unanswered; they are tried again, and after 60 s an undecided pool is yielded (R424). -/
def execReservationRetry (s : State) : Host.Outcome State Fault Refusal :=
  .next (match s.pair.takeover with
    | some k =>
      if k.step ≠ 3 then s
      else if s.now - k.started ≥ 60000000 then settleOwnership s true
      else forEach k.pools (fun p t => reserveOn t p (((ofPool p k.open_).map (fun i => i % 64)).filter (fun m => !t.drv.cmds.any (fun e => e.2.purp == .takeover p m)))) s
    | none => s)

/-- PAIR_POOL_HANDOVER: a write of the object moves an owned pool to the partner (R429). -/
def execPairPoolHandover (p : Nat) (s : State) : Host.Outcome State Fault Refusal :=
  .next (if p < 8 then startHandover s p else s)

/-- HANDOVER_REQUEST: the owner has released the pool; the partner acquires every member (R429). -/
def execHandoverRequest (p ckpt : Nat) (s : State) : Host.Outcome State Fault Refusal :=
  .next (if p < 8 ∧ roleOf s p = Role.partner ∧ s.pair.joined ∧ hvStep s p = 0 ∧ s.pair.takeover.isNone then
      reserveOn (wr (setHv s p 11) Obj.MAP_CHECKPOINT_NUMBER p ckpt) p (slotsIn s p Ms.active)
    else s)

/-- HANDOVER_DONE: the partner owns the pool and this controller is PARTNER; with checkpoint 0 an Acquire failed there, and this controller acquires again and stays owner (R429). -/
def execHandoverDone (p ckpt : Nat) (s : State) : Host.Outcome State Fault Refusal :=
  .next (if p < 8 ∧ hvStep s p = 5 then
      (if ckpt = 0 then
        let t := endHv s p 4
        forEach (slotsIn t p Ms.active) (fun m u => issueTo u p m (.resAcquire 0) (.takeover p m)) t
      else
        let t := haltPool (endHv s p 2) p
        notePair (wr t Obj.PAIR_POOL_ROLE p (Role.partner : Nat)))
    else s)

end Sys2Proof.Machine
end

