-- ==== Sys2Proof/Machine/Drives.lean ====
section
/-! DEFINITION. The drive ports: lane groups, admission, the completion and recovery of member commands, removal, containment, the sideband bus and the drive write gate (R372 to R398). -/

namespace Sys2Proof.Machine

open Sys2Proof

/-! ## Ports and groups (R372 to R376, R392) -/

/-- The ports of a lane group. -/
def groupPorts (g : Nat) : List Nat :=
  (List.range 4).map (fun j => 4 * g + j)

/-- The port has lanes at the width its group is set to (Table 10-1). -/
def portExists (s : State) (port : Nat) : Bool :=
  rdN s Obj.DRIVE_GROUP_WIDTH (port / 4) == 2 || port % 2 == 0

/-- A drive is on the port, or is being admitted there. -/
def driveThere (s : State) (port : Nat) : Bool :=
  let x := rdN s Obj.DPORT_STATE port
  x == Dp.admitting || x == Dp.ready || x == Dp.refused || x == Dp.contained

/-- Bring-up from step 2: PERST_N is released at the next frame latch and the link trains. -/
def bringUp (s : State) (port : Nat) : State :=
  wr (modDPort s port (fun d => { d with released := true })) Obj.DPORT_STATE port (Dp.training : Nat)

/-- What a port without a drive reads: TRAINING while a bay is occupied, else EMPTY. -/
def portAwaits (s : State) (port : Nat) : State :=
  if (dportOf s port).debounced then bringUp s port else wr (modDPort s port (fun d => { d with released := false })) Obj.DPORT_STATE port (Dp.empty : Nat)

/-- Forget what is known of a drive that has gone. -/
def forgetDrive (s : State) (port : Nat) : State :=
  let a := modDPort s port (fun d => { d with admStep := 0, resetting := false, retrying := false, ready := false, ctrl := none, ns := [], formatted := false, zones := 0, eui := 0, sb := [], sbSlot := 0 })
  let b := clrAll a [Obj.DRIVE_ADMISSION, Obj.DRIVE_NSID, Obj.DRIVE_MEMBER_OF, Obj.DRIVE_CAPACITY, Obj.DRIVE_KIND, Obj.DRIVE_ZONE_SECTORS, Obj.DRIVE_MAX_ACTIVE, Obj.DRIVE_VOLATILE_CACHE,
    Obj.DRIVE_CRITICAL_WARNING, Obj.DRIVE_PERCENT_USED] port
  clrBytesAll b [Obj.DRIVE_NGUID, Obj.DRIVE_MODEL, Obj.DRIVE_SERIAL, Obj.DRIVE_FIRMWARE] port

/-! ## Loss of a drive (R387) -/

/-- The link of a port is down: its speed and width read zero. -/
def linkGone (s : State) (port : Nat) : State :=
  wr (wr (modDPort s port (fun d => { d with linkUp := false })) Obj.DPORT_LINK_SPEED port 0) Obj.DPORT_LINK_WIDTH port 0

/-- End every command of a port: a member's reads are served by decoding, resets count as done, the rest has no effect. -/
def endPort (s : State) (port : Nat) : State :=
  rerouteAll s port

/-- A drive has gone from a port in NATIVE mode: a member of a served pool fails, and the port waits for a drive. -/
def driveGone (s : State) (port : Nat) : State :=
  let t := match memberOf s port with
    | some (p, m) => if poolServes s p then failMember s p m 1 else s
    | none => s
  portAwaits (forgetDrive (endPort t port) port) port

/-- Link or presence is lost on a port: in CONTAINMENT mode an admitted or refused drive freezes, in NATIVE mode it has gone. A port already CONTAINED stays so. -/
def lost (s : State) (port : Nat) : State :=
  let t := linkGone s port
  if !driveThere s port ∨ rdN s Obj.DPORT_STATE port = Dp.contained then t
  else if rdN s Obj.DPORT_MODE port = 1 ∧ rdN s Obj.DPORT_STATE port ≠ Dp.admitting then freezePort t port 1
  else driveGone t port

/-- DATA_LINK_DOWN: the Data Link Layer goes down on a drive port (R387). -/
def execDataLinkDown (port : Nat) (s : State) : Host.Outcome State Fault Refusal :=
  .next (if port < 64 then lost s port else s)

/-- PRSNT_N of a bay reads high. -/
def presenceLost (s : State) (port : Nat) : State :=
  let t := modDPort (lost s port) port (fun d => { d with seated := false, debounced := false })
  let x := rdN t Obj.DPORT_STATE port
  if x = Dp.training ∨ x = Dp.empty then portAwaits t port else t

/-- PRESENCE_LOST: PRSNT_N reads high in a sideband frame (R387, R392). -/
def execPresenceLost (port : Nat) (s : State) : Host.Outcome State Fault Refusal :=
  .next (if port < 64 then presenceLost s port else s)

/-- PRESENCE_DEBOUNCED: PRSNT_N has read low for HOTPLUG_DEBOUNCE; in an enabled group bring-up starts (R392). -/
def execPresenceDebounced (port : Nat) (s : State) : Host.Outcome State Fault Refusal :=
  .next (
    if port < 64 then
      let t := modDPort s port (fun d => { d with seated := true, debounced := true })
      if rdN s Obj.DPORT_STATE port = Dp.empty then bringUp t port else t
    else s)

/-- A group is enabled: its clock runs in COMMON mode, its ports exist as its width gives them, and occupied bays start bring-up (R372, R374, R376, R392). -/
def enableGroup (s : State) (g : Nat) : State :=
  let t := wr s Obj.DRIVE_GROUP_STATE g 1
  let u := if rdN s Obj.DRIVE_CLOCK_MODE g = 0 then drive t (.driveClock g) true else t
  forEach (groupPorts g) (fun p v =>
    if !portExists v p then wr (modDPort v p (fun d => { d with released := false })) Obj.DPORT_STATE p (Dp.noLanes : Nat)
    else if rdN v Obj.DPORT_STATE p = Dp.contained then v else portAwaits v p) u

/-- A group is held: PERST_N asserted, lanes idle, clock off (R374). -/
def holdGroup (s : State) (g : Nat) : State :=
  let t := forEach (groupPorts g) (fun p v =>
    let w := modDPort (lost v p) p (fun d => { d with released := false })
    if rdN w Obj.DPORT_STATE p = Dp.contained then w else wr w Obj.DPORT_STATE p (Dp.held : Nat)) s
  drive (wr t Obj.DRIVE_GROUP_STATE g 0) (.driveClock g) false

/-- DRIVE_GROUP_ENABLE: the object is written, and the group released or held (R374). -/
def execDriveGroupEnable (g : Nat) (on : Bool) (s : State) : Host.Outcome State Fault Refusal :=
  .next (
    if g < 16 then
      let t := wrB s Obj.DRIVE_GROUP_ENABLE g on
      if on && rdN s Obj.DRIVE_GROUP_STATE g == 0 then enableGroup t g
      else if !on && rdN s Obj.DRIVE_GROUP_STATE g == 1 then holdGroup t g else t
    else s)

/-! ## Admission (R380, Tables 10-2 and 10-4) -/

/-! Values of DRIVE_ADMISSION. -/

def Ad.controller : Nat := 1
def Ad.commandSet : Nat := 2
def Ad.lbaFormat : Nat := 3
def Ad.identity : Nat := 4
def Ad.reservations : Nat := 5
def Ad.deallocate : Nat := 6
def Ad.zones : Nat := 7
def Ad.transfer : Nat := 8
def Ad.capacity : Nat := 9
def Ad.sharing : Nat := 10
def Ad.foreign : Nat := 11
def Ad.elsewhere : Nat := 12

/-- The zoned namespace meets its rows of Table 10-2: equal zone capacity from 64 MiB to 4 GiB, three active zones or unlimited, Write Zeroes. -/
def zonesOk (n : NsInfo) : Bool :=
  n.set != 1 || (n.zonesEqual && decide (16384 ≤ n.zoneCap) && decide (n.zoneCap ≤ 1048576) && decide (3 ≤ n.maxActive) && n.writeZeroes)

/-- Capacity: 32 GiB or more, and zones within R148 at some permitted zone size. The most zones a member may bring are 4,194,304, in a pool no wider than three. -/
def capacityOk (n : NsInfo) : Bool :=
  decide (n.sectors ≥ 8388608) && (if n.set = 1 then decide (n.zones ≤ 4194305) else decide (n.sectors / 524288 ≤ 4194305))

/-- The checks of a namespace in the order of Table 10-4, each with its result. -/
def nsChecks (paired : Bool) : List (Nat × (NsInfo → Bool)) :=
  [(Ad.commandSet, fun n => decide (n.set ≤ 1)), (Ad.lbaFormat, fun n => n.offered), (Ad.identity, fun n => !allZero n.nguid || n.eui != 0), (Ad.reservations, fun n => n.reservations),
   (Ad.deallocate, fun n => n.set != 0 || n.deallocate), (Ad.zones, zonesOk), (Ad.capacity, capacityOk), (Ad.sharing, fun n => !paired || n.shared)]

/-- Go through the checks: the first that leaves no namespace refuses the drive. -/
def filterNs (mdts : Nat) : List (Nat × (NsInfo → Bool)) → List NsInfo → Nat × List NsInfo
  | [], l => (0, l)
  | (r, f) :: rest, l =>
    if r = Ad.capacity ∧ mdts ≠ 0 ∧ mdts < 131072 then (Ad.transfer, [])
    else
      let k := l.filter f
      if k.isEmpty then (r, []) else filterNs mdts rest k

/-- The namespace that admission takes, or the reason of refusal. -/
def chooseNs (s : State) (c : CtrlInfo) (l : List NsInfo) : Nat × Option NsInfo :=
  match filterNs c.mdts (nsChecks (s.pair.enabled)) l with
  | (r, k) => if r ≠ 0 then (r, none) else (0, leastBy (fun n : NsInfo => n.nsid) k)

/-- The drive is refused. -/
def refuseDrive (s : State) (port reason : Nat) : State :=
  let t := forEach ((portCmds s port).filter (fun e => e.2.purp == .admission)) (fun e u => endCmd u e.1) s
  wr (wr (modDPort t port (fun d => { d with admStep := 0 })) Obj.DRIVE_ADMISSION port reason) Obj.DPORT_STATE port (Dp.refused : Nat)

/-- A drive's identity is that of a member slot: its NGUID, or its EUI64 as its superblock lists it when NGUID is zero. -/
def isMember (s : State) (i port : Nat) : Bool :=
  let g := rdBytes s Obj.DRIVE_NGUID port
  if allZero g then
    let x := parseSuper (dportOf s port).sb
    superOk (dportOf s port).sb && x.uuid == rdBytes s Obj.POOL_UUID (i / 64) && decide ((dportOf s port).eui ≠ 0) && (match x.members[i % 64]? with
      | some e => e.eui == (dportOf s port).eui
      | none => false)
  else rdBytes s Obj.MEMBER_NGUID i == g

/-- Member slots in use (not none, not REMOVED) that a drive's identity names. -/
def identitySlots (s : State) (port : Nat) : List Nat :=
  (List.range 512).filter (fun i => let x := rdN s Obj.MEMBER_STATE i; (x == Ms.active || x == Ms.failed || x == Ms.contained) && isMember s i port)

/-- MEMBER_ELSEWHERE: a FAILED member, or a slot that another port holds. -/
def elsewhere (s : State) (port i : Nat) : Bool :=
  rdN s Obj.MEMBER_STATE i == Ms.failed || (rdN s Obj.MEMBER_PORT i != port && rdN s Obj.DRIVE_MEMBER_OF (rdN s Obj.MEMBER_PORT i) == i)

/-- A pool that waits with FAILED members and may take a spare takes it now (R242). -/
def offerSpare (s : State) : State :=
  match (List.range 8).find? (fun p => poolServes s p && rdN s Obj.REBUILD_STATE p == 1 && anyFailed s p && (spareFor s p).isSome) with
  | some p => afterFailure s p
  | none => s

/-- Every check has passed: the drive follows its member slot, or is offered as a candidate (Table 10-5). -/
def admitDrive (s : State) (port : Nat) : State :=
  let l := identitySlots s port
  if l.any (fun i => elsewhere s port i) then refuseDrive s port Ad.elsewhere
  else
    let t := wr (wr (modDPort s port (fun d => { d with admStep := 0 })) Obj.DRIVE_ADMISSION port 0) Obj.DPORT_STATE port (Dp.ready : Nat)
    match l with
    | i :: _ => wr (wr t Obj.MEMBER_PORT i port) Obj.DRIVE_MEMBER_OF port i
    | [] => offerSpare (raiseOpen t (ev 0x09 381) .info Src.drivePort port)

/-- Begin an admission step with its commands. -/
def admStep (s : State) (port n : Nat) (ops : List MOp) : State :=
  forEach ops (fun o t => issue t port o .admission) (modDPort s port (fun d => { d with admStep := n }))

/-- Features of step 4: number of queues, interrupt coalescing, Host Identifier, reservation persistence, the four queue pairs, and an Asynchronous Event Request (Table 10-3, R383). -/
def setUpOps : List MOp :=
  [.setFeatures 0x07, .setFeatures 0x08, .setFeatures 0x81, .setFeatures 0x83, .createQueues, .asyncEvent]

/-- Start admission: the controller is enabled. -/
def startAdmission (s : State) (port : Nat) : State :=
  wr (modDPort (clr s Obj.DRIVE_ADMISSION port) port (fun d => { d with admStep := 1, ready := false })) Obj.DPORT_STATE port (Dp.admitting : Nat)

/-- DRIVE_LINK_UP: a drive port's link has trained at this speed and width. Admission starts; on a CONTAINED port a RETRY goes on to the controller reset (R375, R380, R390). -/
def execDriveLinkUp (port speed width : Nat) (s : State) : Host.Outcome State Fault Refusal :=
  .next (
    if port ≥ 64 ∨ !(dportOf s port).released then s
    else
      let t := wr (wr (modDPort s port (fun d => { d with linkUp := true })) Obj.DPORT_LINK_SPEED port (min speed (rdN s Obj.DPORT_MAX_SPEED port) : Nat)) Obj.DPORT_LINK_WIDTH port width
      if rdN s Obj.DPORT_STATE port = Dp.training then startAdmission t port
      else if rdN s Obj.DPORT_STATE port = Dp.contained ∧ (dportOf s port).retrying then modDPort t port (fun d => { d with resetting := true })
      else t)

/-- DRIVE_CONTROLLER_READY: the enabled controller reports CSTS.RDY, and Identify Controller is read (R380). -/
def execDriveControllerReady (port : Nat) (s : State) : Host.Outcome State Fault Refusal :=
  .next (
    if port < 64 ∧ rdN s Obj.DPORT_STATE port = Dp.admitting ∧ (dportOf s port).admStep = 1
    then admStep (modDPort s port (fun d => { d with ready := true })) port 2 [.identify 0] else s)

/-- What Identify Controller says is recorded. -/
def noteController (s : State) (port : Nat) (c : CtrlInfo) : State :=
  let t := modDPort s port (fun d => { d with ctrl := some c })
  wrB (wrBytes (wrBytes (wrBytes t Obj.DRIVE_MODEL port c.model) Obj.DRIVE_SERIAL port c.serial) Obj.DRIVE_FIRMWARE port c.firmware) Obj.DRIVE_VOLATILE_CACHE port c.volatileCache

/-- What the chosen namespace says is recorded. -/
def noteNs (s : State) (port : Nat) (l : List NsInfo) (n : NsInfo) : State :=
  let t := modDPort s port (fun d => { d with ns := l, formatted := n.inForce, zones := n.zones, eui := n.eui })
  let u := wr (wr (wr (wrBytes t Obj.DRIVE_NGUID port n.nguid) Obj.DRIVE_NSID port n.nsid) Obj.DRIVE_CAPACITY port n.sectors) Obj.DRIVE_KIND port n.set
  wr (wr u Obj.DRIVE_ZONE_SECTORS port (if n.set = 1 then (n.zoneCap : Int) else 0)) Obj.DRIVE_MAX_ACTIVE port n.maxActive

/-- An admission command of the running step has ended with this data. -/
def admNext (s : State) (port : Nat) (d : AdmData) : State :=
  match d with
  | .failed => refuseDrive s port Ad.controller
  | .controller c => if !c.versionOk then refuseDrive (noteController s port c) port Ad.controller else admStep (noteController s port c) port 3 [.identify 1]
  | .namespaces l => match (dportOf s port).ctrl with
    | none => s
    | some c => match chooseNs s c l with
      | (_, some n) => admStep (noteNs s port l n) port 4 setUpOps
      | (r, none) => refuseDrive s port r
  | .done => if (portCmds s port).any (fun e => e.2.purp == .admission && e.2.op != .asyncEvent) then s else admStep s port 5 [.resReport]
  | .reservation h => match h with
    | some k => if k / 2 ^ 48 ≠ 0x9640 then refuseDrive s port Ad.foreign else admStep s port 6 [.read 0 0 16]
    | none => admStep s port 6 [.read 0 0 16]
  | .superblock b => admitDrive (modDPort s port (fun x => x.takeSlots b)) port

/-- The data that the running step asks for. -/
def admFits (n : Nat) : AdmData → Bool
  | .failed => true
  | .controller _ => n == 2
  | .namespaces _ => n == 3
  | .done => n == 4
  | .reservation _ => n == 5
  | .superblock _ => n == 6

/-- ADMISSION_COMMAND_COMPLETE: an admission command ends, and admission goes on, admits or refuses the drive in the order of Table 10-4 (R380). -/
def execAdmissionCommandComplete (id : Nat) (d : AdmData) (s : State) : Host.Outcome State Fault Refusal :=
  .next (match outstanding s id with
    | none => s
    | some c =>
      if c.purp = .admission ∧ rdN s Obj.DPORT_STATE c.port = Dp.admitting ∧ admFits (dportOf s c.port).admStep d then admNext (endCmd s id) c.port d else s)

/-- ADMISSION_TIMEOUT: the wait for CSTS.RDY or an admission command has lasted too long, and the drive is refused with CONTROLLER (R380). -/
def execAdmissionTimeout (port : Nat) (s : State) : Host.Outcome State Fault Refusal :=
  .next (if port < 64 ∧ rdN s Obj.DPORT_STATE port = Dp.admitting then refuseDrive s port Ad.controller else s)

/-! ## Completion of member commands (R378, R384, R385) -/

/-- Take a command out of the drive's queue and let it stand otherwise. -/
def suspend (s : State) (id : Nat) (c : MCmd) (st : MState) : State :=
  let t := setMCmd s id { c with st := st }
  if occupies c then pump (drop (drop t Obj.DPORT_INFLIGHT c.port 1) Obj.DRIVE_INFLIGHT_TOTAL 0 1) c.port else t

/-- The status fails the member with FATAL_STATUS when a write or a Zone Management Send completes with it (Table 06-1). -/
def fatalStatus (x : DrvStatus) : Bool :=
  [0x280, 0x20, 0x81, 0x1BA, 0x1BB].contains x.status || (x.status == 0x82 && !x.retry)

/-- Writes and Zone Management Send. -/
def writesOrResets : MOp → Bool
  | .write .. => true
  | .writeZeroes .. => true
  | .zoneReset _ => true
  | .zoneResetAll => true
  | _ => false

/-- The status is of the Media and Data Integrity Errors group. -/
def mediaStatus (x : DrvStatus) : Bool :=
  x.status / 256 == 2

/-- A read for a data sector, a decode source or a leaf has failed for good: it is served by decoding, or from the next copy; a media status counts as a media error, and poison fails the checks of R233 (R384, R385). -/
def readFails (s : State) (id : Nat) (c : MCmd) (x : DrvStatus) : State :=
  let t := endCmd s id
  match c.purp with
  | .sector w p v lba slot zs col =>
    let m := colMember s p slot col
    let u := if x.poisoned then poisoned (countFail t p .guard) p m else if mediaStatus x then mediaFault t p m else t
    (match w with
    | .page sl a => fetchPageCopy u p sl a zs (col + 1)
    | _ => servedByDecode u w p v lba slot zs col (x.poisoned || mediaStatus x))
  | .source job col => match Tbl.get t.drv.jobs job with
    | none => t
    | some j =>
      let m := colMember s j.pool j.slot col
      let u := if x.poisoned then poisoned (countFail t j.pool .guard) j.pool m else if mediaStatus x then mediaFault t j.pool m else t
      decodeInstead (endJob u job) j.want j.pool j.vol j.lba j.slot j.zs j.col (addOnce j.erased col) j.repair
  | .leaf p key mc => match Tbl.get s.map.leaves key with
    | some l => match l.loc with
      | some loc =>
        let m := colMember s p loc.1 (mc % 64)
        let u := if x.poisoned then poisoned (countFail s p .guard) p m else if mediaStatus x then mediaFault s p m else s
        (match Tbl.get u.drv.cmds id with
        | some d => reroute u id d
        | none => u)
      | none => t
    | none => t
  | _ => t

/-- A status that neither retry nor a member failure of its own rule covers: the outcome of the write cannot be known. -/
def writeFails (s : State) (id : Nat) (c : MCmd) (x : DrvStatus) (p m : Nat) : State :=
  if (creating s c).isSome then cmdFault s id c 5
  else if fatalStatus x ∧ writesOrResets c.op then memberFault s p m 2
  else match c.purp with
    | .column q st j => if x.poisoned then abandonStripe (modStripe (endCmd s id) q st (fun y => { y with colsLeft := y.colsLeft.filter (fun i => i != j) })) q st else memberFault s p m 5
    | .segment .. => if x.poisoned then place (suspend s id c .delayed) id c else memberFault s p m 5
    | _ => memberFault s p m 5

/-- A member command has failed for good. -/
def commandFails (s : State) (id : Nat) (c : MCmd) (x : DrvStatus) (data : Bytes) : State :=
  let m := match memberOf s c.port with
    | some e => e.2
    | none => 64
  match c.purp with
  | .sector .. => readFails s id c x
  | .source .. => readFails s id c x
  | .leaf .. => readFails s id c x
  | .column p _ _ => writeFails s id c x p m
  | .segment p slot => (match c.op with
    | .zoneReport z => (match Tbl.get (poolOf s p).segs slot with
      | some g => sealOn (pointerKnown (endCmd s id) p slot m z (lastRow s p slot g)) p slot
      | none => endCmd s id)
    | _ => writeFails s id c x p m)
  | .zone p slot j =>
    if fatalStatus x ∧ writesOrResets c.op then freedRecord (memberFault s p m 2) p slot
    else
      let t := modSeg (endCmd s id) p slot (fun g => { g with resets := g.resets.filter (fun i => i != j) })
      freedRecord (memberFault t p m 7) p slot
  | .superblock p k => writeFails s id c x p k
  | .action p k => actionNext (actionEnded (endCmd s id) p k c.op x.status data) p 0 []
  | .add p k => addStep (endCmd s id) p k c.op x.status
  | .takeover p k => reservationEnded (endCmd s id) p k c.op x data
  | .admission => if rdN s Obj.DPORT_STATE c.port = Dp.admitting then refuseDrive (endCmd s id) c.port Ad.controller else endCmd s id
  | _ => endCmd s id

/-- Identify Controller keeps DRIVE_SERIAL and DRIVE_MODEL of a refused drive current (R380). -/
def noteIdentity (s : State) (port : Nat) (data : Bytes) : State :=
  if data.length = 4096 then wrBytes (wrBytes s Obj.DRIVE_SERIAL port (slice data 4 20)) Obj.DRIVE_MODEL port (slice data 24 40) else s

/-- The health log of a drive: a critical warning raises a WARN event (Table 10-7). -/
def noteHealth (s : State) (port : Nat) (x : DrvStatus) : State :=
  let t := wr (wr s Obj.DRIVE_CRITICAL_WARNING port (x.warning % 256 : Nat)) Obj.DRIVE_PERCENT_USED port (x.used % 256 : Nat)
  if x.warning % 256 ≠ 0 ∧ rdN s Obj.DRIVE_CRITICAL_WARNING port = 0 then raiseOpen t (ev 0x09 399) .warn Src.drivePort port else t

/-- An aborted or reset command as step 2 of Table 10-6 treats it. -/
def recovered (s : State) (id : Nat) (c : MCmd) (begun : Bool) : State :=
  let again := place (suspend s id c .delayed) id { c with recFrom := some (c.recFrom.getD s.now) }
  match c.op with
  | .write .. => if c.begun || begun then cmdFault s id c 5 else again
  | .writeZeroes .. => cmdFault s id c 5
  | .abort _ => endCmd s id
  | _ => again

/-- The controller of a drive is reset (step 3 of Table 10-6): nothing is placed until that has ended. -/
def resetDrive (s : State) (port : Nat) : State :=
  modDPort s port (fun d => { d with resetting := true })

/-- A member command has completed with SUCCESS. A read's sectors come with their own events. -/
def commandDone (s : State) (id : Nat) (c : MCmd) (x : DrvStatus) (data : Bytes) : State :=
  match c.purp with
  | .column .. => columnDone s id
  | .segment p slot => (match c.op with
    | .zoneReport z => (match memberOf s c.port with
      | some (_, m) => sealOn (pointerKnown (endCmd s id) p slot m z x.wp) p slot
      | none => endCmd s id)
    | _ => endCmd s id)
  | .zone p slot j => (match c.op with
    | .zoneReport z => if x.wp = 0 then zoneResetDone s id true else issue (endCmd s id) c.port (.zoneReset z) (.zone p slot j)
    | _ => zoneResetDone s id true)
  | .superblock p m => superDone (endCmd s id) p m c.op
  | .action p m => actionNext (actionEnded (endCmd s id) p m c.op 0 data) p 0 []
  | .add p m => addStep (endCmd s id) p m c.op 0
  | .takeover p m => reservationEnded (endCmd s id) p m c.op x data
  | .health => (match c.op with
    | .getLog _ => noteHealth (endCmd s id) c.port x
    | .identify _ => noteIdentity (endCmd s id) c.port data
    | _ => endCmd s id)
  | .recovery n => (match c.op, Tbl.get s.drv.cmds n with
    | .abort _, some d => if d.st = .aborting then recovered (endCmd s id) n d d.begun else endCmd s id
    | _, _ => endCmd s id)
  | .admission => if rdN s Obj.DPORT_STATE c.port = Dp.admitting then s else endCmd s id
  | _ => s

/-- Reservation Conflict on a gated command of a pool that this controller serves: the command waits, and the members are asked who holds them (R225, R425). -/
def conflictPool (s : State) (c : MCmd) (x : DrvStatus) : Option Nat :=
  match c.purp with
  | .takeover .. => none
  | .action .. => none
  | .add .. => none
  | _ => if x.status = statusConflict ∧ gatedOp c.op then (purpPool c.purp).filter (fun p => servesPool s p) else none

/-- The sectors that a command has moved count as bytes of its port (Table 17-9). -/
def countMoved (s : State) (c : MCmd) : State :=
  match c.op with
  | .read _ _ n => countDev s (Dc.portRead + c.port) (4096 * n)
  | .write _ _ d _ _ => countDev s (Dc.portWritten + c.port) (d.length / 4160 * 4096)
  | _ => s

/-- DRIVE_COMMAND_COMPLETE: a member command completes with this status, and for a superblock read with the newest valid copy found. It is done, retried while Do Not Retry is clear and the limit allows, or handled by its status (R384). An Abort counts as successful when its status is zero. -/
def execDriveCommandComplete (id : Nat) (x : DrvStatus) (data : Bytes) (s : State) : Host.Outcome State Fault Refusal :=
  .next (match outstanding s id with
    | none => s
    | some c =>
      if x.fatal ∧ ((memberOf s c.port).isSome ∨ (creating s c).isSome) then cmdFault s id c 2
      else if x.status = 0 ∧ !x.poisoned then commandDone (countMoved s c) id c x data
      else match c.op, c.purp with
        | .abort _, .recovery _ => resetDrive (endCmd s id) c.port
        | _, _ => match conflictPool s c x with
          | some p => startContest (suspend s id c .delayed) p
          | none =>
            if x.retry && !x.poisoned && decide (c.retries < rdN s Obj.DRIVE_RETRY_LIMIT c.port) then
              bump (suspend s id { c with retries := c.retries + 1 } .delayed) Obj.DPORT_RETRIES c.port 1
            else commandFails s id c x data)

/-- COMMAND_RETRY_DELAY: the drive's Command Retry Delay has passed and the command is issued again (R384). -/
def execCommandRetryDelay (id : Nat) (s : State) : Host.Outcome State Fault Refusal :=
  .next (match Tbl.get s.drv.cmds id with
    | some c =>
      let contested := match purpPool c.purp with
        | some p => (Tbl.get s.pair.contest p).isSome
        | none => false
      if c.st = .delayed ∧ !contested then place s id c else s
    | none => s)

/-! ## Timeouts (R386, Table 10-6) -/

/-- A read that has timed out is decoded at once, if it can be, and a leaf is read from its next copy; the command itself goes on through recovery without a want. -/
def decodeTimedOut (s : State) (id : Nat) (c : MCmd) : State :=
  let bare (t : State) : State := setMCmd t id { c with purp := .recovery id }
  match c.purp with
  | .sector w p v lba slot zs col => (match startJob s w p v lba slot zs col (addOnce (erasedAt s p slot) col) false with
    | some t => bare t
    | none => s)
  | .source job col => (match Tbl.get s.drv.jobs job with
    | none => s
    | some x => match startJob (endJob s job) x.want x.pool x.vol x.lba x.slot x.zs x.col (addOnce x.erased col) x.repair with
      | some t => bare t
      | none => s)
  | .leaf p key mc => (match Tbl.get s.map.leaves key with
    | none => s
    | some l => match l.loc with
      | none => s
      | some loc =>
        let tried := (List.range 3).filter (fun j => bitAt (mc / 64) j || j == mc % 64)
        match leafCopies s p loc tried with
        | [] => s
        | j :: _ => readLeaf (bare s) p key ((tried.map (fun i => 2 ^ i)).sum) j)
  | _ => s

/-- DRIVE_COMMAND_TIMEOUT: a member command exceeds its timeout; `begun` says whether the data phase of a Write had begun. In CONTAINMENT mode the port freezes; in NATIVE mode an Abort is issued, or for a reissued command within 60 s its member fails (R386, R388). -/
def execDriveCommandTimeout (id : Nat) (begun : Bool) (s : State) : Host.Outcome State Fault Refusal :=
  .next (match outstanding s id with
    | none => s
    | some c =>
      let late := match c.recFrom with
        | some t => decide (s.now ≤ t + 60000000)
        | none => false
      if c.purp = .admission ∧ rdN s Obj.DPORT_STATE c.port = Dp.admitting then refuseDrive s c.port Ad.controller
      else if rdN s Obj.DPORT_MODE c.port = 1 then freezePort s c.port 3
      else if c.st = .aborting then s
      else if late then cmdFault s id c 3
      else
        let d := { c with st := .aborting, begun := begun, recFrom := some s.now }
        let t := bump (setMCmd s id d) Obj.DPORT_TIMEOUTS c.port 1
        issue (decodeTimedOut t id d) c.port (.abort id) (.recovery id))

/-- ABORT_TIME_LIMIT: the Abort has not ended the command within 1 s, and the drive's controller is reset (Table 10-6). -/
def execAbortTimeLimit (id : Nat) (s : State) : Host.Outcome State Fault Refusal :=
  .next (match outstanding s id with
    | some c => if c.st = .aborting then resetDrive s c.port else s
    | none => s)

/-- RECOVERY_TIME_LIMIT: a reissued command times out within 60 s of step 1, and the member fails with TIMEOUT (Table 10-6). -/
def execRecoveryTimeLimit (id : Nat) (s : State) : Host.Outcome State Fault Refusal :=
  .next (match outstanding s id with
    | some c => if c.recFrom.isSome then cmdFault s id c 3 else s
    | none => s)

/-! ## Release of a CONTAINED port (R390) -/

/-- No member of the pool is FAILED or CONTAINED any more, and DEGRADED ends (R382). -/
def noteWhole (s : State) (p : Nat) : State :=
  if anyFailed s p ∨ !(slotsIn s p Ms.contained).isEmpty then s else setCond s p Pc.degraded false

/-- A held command has become obsolete: a column write of a stripe that was abandoned. -/
def obsolete (s : State) (c : MCmd) : Bool :=
  match c.purp with
  | .column p st j => (match stripeOf s p st with
    | some x => !x.issued || !x.colsLeft.contains j
    | none => true)
  | _ => false

/-- The port's state once it is not CONTAINED: READY or REFUSED with a drive, else waiting for one. -/
def unfreeze (s : State) (port : Nat) : State :=
  let t := modDPort s port (fun d => { d with resetting := false, retrying := false })
  if (dportOf s port).linkUp then wr t Obj.DPORT_STATE port (if rdN s Obj.DRIVE_ADMISSION port = 0 then (Dp.ready : Nat) else Dp.refused)
  else if rdN s Obj.DRIVE_GROUP_STATE (port / 4) = 0 then wr t Obj.DPORT_STATE port (Dp.held : Nat)
  else portAwaits t port

/-- Discard the obsolete held commands of a port and issue the others from the start. -/
def reissueHeld (s : State) (port : Nat) : State :=
  forEach ((portCmds s port).filter (fun e => e.2.st == .held)) (fun e t =>
    let u := drop t Obj.DPORT_HELD_COMMANDS port 1
    if obsolete t e.2 then { u with drv := { u.drv with cmds := Tbl.erase u.drv.cmds e.1 } } else place u e.1 e.2) s

/-- A RETRY has succeeded: the member is ACTIVE again. -/
def retryDone (s : State) (port : Nat) : State :=
  let a := unfreeze (wr s Obj.PORT_RELEASE_RESULT port 2) port
  let b := match memberOf a port with
    | some (p, m) => if mState a p m = Ms.contained then noteWhole (logRec (wr a Obj.MEMBER_STATE (mInst p m) (Ms.active : Nat)) p (.member m Ms.active)) p else a
    | none => a
  reissueHeld b port

/-- A RETRY is refused and the port stays CONTAINED. -/
def retryRefused (s : State) (port result : Nat) : State :=
  modDPort (wr s Obj.PORT_RELEASE_RESULT port result) port (fun d => { d with resetting := false, retrying := false })

/-- The drive on a CONTAINED port is still the one the port held. -/
def sameDrive (s : State) (port : Nat) (l : List NsInfo) : Bool :=
  l.any (fun n => n.nsid == rdN s Obj.DRIVE_NSID port && (if allZero (rdBytes s Obj.DRIVE_NGUID port) then n.eui == (dportOf s port).eui else n.nguid == rdBytes s Obj.DRIVE_NGUID port))

/-- PORT_RELEASE_RETRY: the link is trained if it is down, and the controller reset (R390). -/
def execPortReleaseRetry (port : Nat) (s : State) : Host.Outcome State Fault Refusal :=
  .next (
    if port ≥ 64 ∨ rdN s Obj.DPORT_STATE port ≠ Dp.contained ∨ (dportOf s port).retrying then s
    else if !(dportOf s port).seated then wr s Obj.PORT_RELEASE_RESULT port 3
    else modDPort (wr s Obj.PORT_RELEASE_RESULT port 1) port (fun d => { d with retrying := true, released := true, resetting := d.linkUp }))

/-- PORT_RELEASE_LINK_TIMEOUT: the link has not trained within 1 s of a RETRY (R390). -/
def execPortReleaseLinkTimeout (port : Nat) (s : State) : Host.Outcome State Fault Refusal :=
  .next (if port < 64 ∧ (dportOf s port).retrying ∧ !(dportOf s port).linkUp then retryRefused s port 3 else s)

/-- A CONTAINED port is released with FAIL, its member failing with this cause (R390, Table 10-5). -/
def releaseFail (s : State) (port cause : Nat) : State :=
  match memberOf s port with
  | some (p, m) =>
    let t := failMember s p m cause
    let u := unfreeze (endPort t port) port
    if (dportOf s port).linkUp then u else forgetDrive u port
  | none =>
    let t := forgetDrive (endPort s port) port
    let u := unfreeze t port
    if (dportOf s port).linkUp then startAdmission u port else u

/-- PORT_RELEASE_FAIL: every held command is discarded and the member becomes FAILED with the cause recorded; without a member the port is released and admission runs again (R390). -/
def execPortReleaseFail (port : Nat) (s : State) : Host.Outcome State Fault Refusal :=
  .next (
    if port < 64 ∧ rdN s Obj.DPORT_STATE port = Dp.contained then wr (releaseFail s port (rdN s Obj.DPORT_CONTAIN_CAUSE port)) Obj.PORT_RELEASE_RESULT port 2 else s)

/-- MEMBER_ACTION_FAIL: an ACTIVE or CONTAINED member becomes FAILED with cause OPERATOR; any other is refused (R223, R257). -/
def execMemberActionFail (p m : Nat) (s : State) : Host.Outcome State Fault Refusal :=
  .next (
    if p ≥ 8 ∨ m ≥ 64 then s
    else
      let res (t : State) (r : Nat) : State := wr t Obj.MEMBER_ACTION_RESULT (mInst p m) r
      if mState s p m = Ms.active then res (failMember s p m 6) Mr.done
      else if mState s p m = Ms.contained then res (releaseFail s (mPort s p m) 6) Mr.done
      else res s Mr.refusedState)

/-- CONTROLLER_RESET_DONE: a controller reset ends; `begun` names the Writes whose data phase had begun and `l` what the drive then says of its namespaces. After a RETRY the identity is checked; in recovery every outstanding command is treated as aborted, or the member fails (R386, R390). -/
def execControllerResetDone (port : Nat) (ok : Bool) (begun : List Nat) (l : List NsInfo) (s : State) : Host.Outcome State Fault Refusal :=
  .next (
    if port ≥ 64 ∨ !(dportOf s port).resetting then s
    else if (dportOf s port).retrying then (if !ok then retryRefused s port 3 else if sameDrive s port l then retryDone s port else retryRefused s port 4)
    else
      let t := modDPort s port (fun d => { d with resetting := false })
      if ok then
        pump (forEach ((portCmds s port).filter (fun e => occupies e.2)) (fun e u => match Tbl.get u.drv.cmds e.1 with
          | some c => if occupies c then recovered u e.1 c (begun.contains e.1) else u
          | none => u) t) port
      else match memberOf t port with
        | some (p, m) => memberFault t p m 2
        | none => refuseDrive (endPort t port) port Ad.controller)

/-- DRIVE_AER_UNCORRECTABLE: an uncorrectable error is reported through AER; in CONTAINMENT mode the port freezes (R388). -/
def execDriveAerUncorrectable (port : Nat) (s : State) : Host.Outcome State Fault Refusal :=
  .next (if port < 64 ∧ rdN s Obj.DPORT_MODE port = 1 ∧ (rdN s Obj.DPORT_STATE port = Dp.ready ∨ rdN s Obj.DPORT_STATE port = Dp.refused) then freezePort s port 0x10 else s)

/-- DRIVE_HEALTH_POLL: the health log of each drive that may be asked is read; a refused drive is identified as well (R380). -/
def execDriveHealthPoll (s : State) : Host.Outcome State Fault Refusal :=
  .next (forRange 64 (fun port t =>
    let x := rdN t Obj.DPORT_STATE port
    if x = Dp.ready then issue t port (.getLog 2) .health
    else if x = Dp.refused ∧ rdN t Obj.DRIVE_ADMISSION port ≠ Ad.controller then issue (issue t port (.identify 0) .health) port (.getLog 2) .health
    else t) s)

/-! ## The sideband bus (R393, R394) -/

/-- The drive of a bay lights FAULT_LED: its member is FAILED or CONTAINED, or it is refused. -/
def faultLed (s : State) (port : Nat) : Bool :=
  rdN s Obj.DPORT_STATE port == Dp.refused || rdN s Obj.DPORT_STATE port == Dp.contained ||
    (List.range 512).any (fun i => rdN s Obj.MEMBER_PORT i == port && (rdN s Obj.MEMBER_STATE i == Ms.failed || rdN s Obj.MEMBER_STATE i == Ms.contained))

/-- The three output bits of a bay: PERST_N, FAULT_LED, LOCATE_LED. -/
def bayBits (s : State) (port : Nat) : Nat :=
  b2n (dportOf s port).released + 2 * b2n (faultLed s port) + 4 * b2n (rdB s Obj.DRIVE_LOCATE port)

/-- The 192 output bits of a frame. -/
def frameBits (s : State) : Nat :=
  ((List.range 64).map (fun p => bayBits s p * 2 ^ (3 * p))).sum

/-- Drive a bay pin whose level changes. -/
def bayPin (s : State) (p : Pin) (level : Bool) : State :=
  if Tbl.getD s.pins p.num 0 = b2n level then s else drive s p level

/-- SIDEBAND_FRAME: the bits shifted in during the previous frame are latched, this frame's are shifted in, and PRSNT_N of every bay is sampled; bit p of `inputs` is bay p (R394). -/
def execSidebandFrame (inputs : Nat) (s : State) : Host.Outcome State Fault Refusal :=
  .next (
    let v := s.drv.shift
    let a := forRange 64 (fun p t => bayPin (bayPin (bayPin t (.drivePerst p) (bitAt v (3 * p))) (.faultLed p) (bitAt v (3 * p + 1))) (.locateLed p) (bitAt v (3 * p + 2))) s
    let b := forRange 64 (fun p t =>
      if bitAt inputs p then (if (dportOf t p).seated then presenceLost t p else t)
      else if (dportOf t p).seated then t else modDPort t p (fun d => { d with seated := true })) a
    { b with drv := { b.drv with shift := frameBits s } })

/-! ## The drive write gate (R396 to R398, R416, R417) -/

/-- DRIVE_GATE_CLOSE: PAIR_FENCE_REQ_I_N falls. The gate closes and ACK goes low, except on side A while its own REQ is low. The pools of this controller become FENCED, and side B releases its own REQ. -/
def execDriveGateClose (s : State) : Host.Outcome State Fault Refusal :=
  .next (
    let t := setFence s 1 true
    if rdN s Obj.PAIR_SIDE 0 = 0 ∧ fenceBit s 0 then t
    else if rdN s Obj.DRIVE_GATE_STATE 0 = 2 then t
    else
      let n := (s.drv.cmds.filter (fun e => gatedOp e.2.op && occupies e.2)).length
      let a := bump (wr (wr t Obj.DRIVE_GATE_STATE 0 2) Obj.DRIVE_GATE_INFLIGHT_AT_CLOSE 0 n) Obj.DRIVE_GATE_CLOSES 0 1
      let b := drive (setFence a 2 true) .fenceAck false
      let c := if s.pair.takeover.isSome then abandonTakeover b else if fenceBit b 0 then releaseReq b else b
      forRange 8 (fun p u => if roleOf u p = Role.none ∨ roleOf u p = Role.fenced then u else yieldPool u p) c)

/-- A held command when the gate opens: issued while this controller serves the pool, else discarded with its stripe abandoned (R398). -/
def ungate (s : State) (id : Nat) (c : MCmd) : State :=
  let t := drop s Obj.DRIVE_GATE_HELD 0 1
  let mine := match purpPool c.purp with
    | some p => servesPool s p || poolState s p == Ps.notConfigured || (poolOf s p).action.isSome
    | none => true
  if mine then place t id c
  else
    let u := { t with drv := { t.drv with cmds := Tbl.erase t.drv.cmds id } }
    match c.purp with
    | .column p st _ => abandonStripe u p st
    | _ => u

/-- A FENCED pool follows its owner again once the pair has joined and this side's fault count is below the threshold: the key is registered and the role is PARTNER (Table 11-12). -/
def rejoinFenced (s : State) : State :=
  if !s.pair.joined ∨ rdN s Obj.DRIVE_GATE_STATE 0 ≠ 0 ∨ decide (rdN s (if rdN s Obj.PAIR_SIDE 0 = 0 then Obj.PAIR_FAULTS_A else Obj.PAIR_FAULTS_B) 0 ≥ rdN s Obj.PAIR_FAULT_THRESHOLD 0) then s
  else notePair (forEach (poolsIn s Role.fenced) (fun p t =>
    forEach (slotsIn t p Ms.active) (fun m u => issueTo u p m .resRegister (.takeover p m)) (wr t Obj.PAIR_POOL_ROLE p (Role.partner : Nat))) s)

/-- DRIVE_GATE_OPEN: PAIR_FENCE_REQ_I_N has been high for 10 µs. The gate opens, ACK goes high, and held commands are issued or discarded (R398, R416). -/
def execDriveGateOpen (s : State) : Host.Outcome State Fault Refusal :=
  .next (
    let t := setFence s 1 false
    if rdN s Obj.DRIVE_GATE_STATE 0 = 0 then t
    else
      let a := drive (setFence (wr t Obj.DRIVE_GATE_STATE 0 0) 2 false) .fenceAck true
      let b := forEach (a.drv.cmds.filter (fun e => e.2.st == .gated)) (fun e u => match Tbl.get u.drv.cmds e.1 with
        | some c => if c.st = .gated then ungate u e.1 c else u
        | none => u) a
      rejoinFenced b)

end Sys2Proof.Machine
end

