-- ==== Sys2Proof/Machine/Culvert.lean ====
section
/-! DEFINITION. The Culvert link and the classification of the partner: bundles, flits, acknowledgement and replay, link down (R403 to R409, R418 to R420). -/

namespace Sys2Proof.Machine

open Sys2Proof

/-! ## Flits (Tables 11-2 to 11-4) -/

/-- Fields of HEADER_0 and HEADER_1. -/
structure FlitHdr where
  seq    : Nat
  ackSeq : Nat
  ackValid : Bool
  nak    : Bool
  chan   : Nat
  kind   : Nat
  credits : List Nat
  bytes  : Nat
  type   : Nat
  index  : Nat
  count  : Nat
  pool   : Nat
  id     : Nat
deriving DecidableEq, Repr

/-- The header that a flit's first 16 bytes spell. -/
def flitHdr (b : Bytes) : FlitHdr :=
  let h := fieldAt b 0 8
  let g := fieldAt b 8 8
  { seq := bitsAt h 52 12, ackSeq := bitsAt h 40 12, ackValid := bitAt h 39, nak := bitAt h 38, chan := bitsAt h 36 2, kind := bitsAt h 32 4
    credits := [bitsAt h 28 4, bitsAt h 24 4, bitsAt h 20 4, bitsAt h 16 4], bytes := bitsAt h 8 8
    type := bitsAt g 56 8, index := bitsAt g 48 8, count := bitsAt g 40 8 + 1, pool := bitsAt g 36 4, id := bitsAt g 0 32 }

/-- A flit passes: 256 bytes, its CRC, no reserved field set and no reserved encoding (R404). -/
def flitOk (b : Bytes) : Bool :=
  let h := flitHdr b
  b.length == 256 && fieldAt b 248 8 == crc64 (b.take 248) && fieldAt b 0 1 == 0 && decide (h.kind ≤ 1) && decide (h.bytes ≤ 232) &&
    (if h.kind = 1 then bitsAt (fieldAt b 8 8) 32 4 == 0 && decide (1 ≤ h.type ∧ h.type ≤ 0x0F) && (decide (h.pool < 8) || h.pool == 0xF) else fieldAt b 8 8 == 0 && h.seq == 0)

/-- Acknowledge up to E − 1. -/
def sendAck (s : State) : State :=
  emit s (.ack ((s.pair.link.expect + 4095) % 4096) false)

/-- Ask for replay from E, once for each value of E (R405). -/
def sendNak (s : State) : State :=
  if s.pair.link.naked = some s.pair.link.expect then s
  else emit (modLink s (fun x => { x with naked := some x.expect })) (.ack ((s.pair.link.expect + 4095) % 4096) true)

/-- Send held flits again, oldest first; each counts (R407). -/
def resend (s : State) : State :=
  forEach s.pair.link.held (fun f t => emit (bump t Obj.CULVERT_REPLAYS 0 1) (.flit f)) s

/-- The flits up to a sequence are acknowledged: they leave the replay buffer, and a COMMIT that was sent counts as acknowledged (R86, R406). -/
def takeAck (s : State) (seq : Nat) : State :=
  let l := s.pair.link
  match l.held.findIdx? (fun f => f.seq == seq) with
  | none => s
  | some i =>
    let rest := l.held.drop (i + 1)
    let still (m : OutMsg) : Bool := rest.any (fun f => f.chan == m.chan && f.id == m.id)
    let commit := l.sent.any (fun m => !still m && (match m.msg with
      | .epochCommit _ => true
      | _ => false))
    let t := modLink s (fun x => { x with held := rest, sent := x.sent.filter still, acked := s.now })
    drainQueue (if commit then tryComplete (modEp t (fun e => { e with commitSent := false })) else t)

/-- Credits that the receiver returns (R408). -/
def takeCredits (s : State) (l : List Nat) : State :=
  drainQueue (modLink s (fun x => { x with used := Tbl.mapV x.used (fun c u => u - l.getD c 0) }))

/-- A flit of a message is accepted in order: its payload joins the message; with the last one the message is complete, and its credits are returned. -/
def acceptFlit (s : State) (h : FlitHdr) (b : Bytes) : State :=
  let t := modLink s (fun x => { x with expect := (x.expect + 1) % 4096, naked := none })
  let u := if h.index + 1 = h.count then emit (modLink t (fun x => { x with partials := Tbl.erase x.partials h.chan })) (.credit h.chan h.count)
    else modLink t (fun x => { x with partials := Tbl.update x.partials h.chan [] (fun p => p ++ slice b 16 h.bytes) })
  sendAck u

/-- CULVERT_FLIT_RECEIVED: a flit is accepted, discarded or NAKed, and its acknowledgement and credits are taken (Table 11-5). What a complete message says comes as its own event. -/
def execCulvertFlitReceived (b : Bytes) (s : State) : Host.Outcome State Fault Refusal :=
  .next (
    if !flitOk b then sendNak (bump s Obj.CULVERT_CRC_ERRORS 0 1)
    else
      let h := flitHdr b
      let a := modLink s (fun x => { x with heard := s.now })
      let c := if h.ackValid then takeAck a h.ackSeq else a
      let d := takeCredits (if h.nak then resend c else c) h.credits
      if h.kind = 0 then d
      else
        let e := d.pair.link.expect
        if h.seq = e then acceptFlit d h b
        else if (e + 4096 - h.seq) % 4096 ≤ 2048 then sendAck d
        else sendNak d)

/-- CULVERT_REPLAY_TIMEOUT: flits are held and no acknowledgement has advanced for 5 µs (R407). -/
def execCulvertReplayTimeout (s : State) : Host.Outcome State Fault Refusal :=
  .next (resend (modLink s (fun x => { x with acked := s.now })))

/-! ## The partner's classification (R418 to R420, Table 11-8) -/

/-- The owner serves a mirrored pool unmirrored: entering, it writes a superblock generation (R420). -/
def goUnmirrored (s : State) (p : Nat) : State :=
  if roleOf s p = Role.owner ∧ rdB s Obj.PAIR_POOL_MIRROR p ∧ !unmirrored s p then writeSuper (wrB s Obj.PAIR_POOL_UNMIRRORED p true) p else s

/-- Mirroring stops while the partner is alive: the pair leaves the joined state, and PAIR_CULVERT_DOWN_POLICY rules the owned pools (R420). -/
def mirrorStops (s : State) : State :=
  let t := if s.pair.joined then leavePair s else notePair s
  if rdN t Obj.PAIR_CULVERT_DOWN_POLICY 0 = 1 then forRange 8 (fun p u => goUnmirrored u p) t else t

/-- The partner is lost: mirroring stops, owned pools are SOLO, and its pools are taken over (Tables 11-8 and 11-12). -/
def partnerGone (s : State) (cause : Nat) : State :=
  let t := leavePair s
  startTakeover (forEach (poolsIn t Role.owner) (fun p u => wr u Obj.PAIR_POOL_ROLE p (Role.solo : Nat)) t) cause

/-- Act on the partner's classification after one of its inputs has changed. -/
def classify (s : State) : State :=
  if !s.pair.enabled then s
  else
    let alive := rdB s Obj.PAIR_ALIVE_PRESENT 0
    match alive, culvertUp s, s.pair.heard with
    | true, true, true => notePair s
    | true, true, false => raiseOpen (mirrorStops s) (ev 0x0A 419) .warn Src.pair 0
    | true, false, _ => mirrorStops s
    | false, true, true => raiseOpen (notePair s) (ev 0x0A 419) .warn Src.pair 0
    | false, true, false => partnerGone s 2
    | false, false, _ => partnerGone s 1

/-- PAIR_ALIVE_TIMEOUT: PAIR_ALIVE_I has shown no edge for PAIR_ALIVE_TIMEOUT (R418, R419). -/
def execPairAliveTimeout (s : State) : Host.Outcome State Fault Refusal :=
  .next (if rdB s Obj.PAIR_ALIVE_PRESENT 0 then classify (wrB s Obj.PAIR_ALIVE_PRESENT 0 false) else s)

/-- PAIR_ALIVE_RETURN: an edge appears on PAIR_ALIVE_I after the heartbeat was absent; a takeover in step 2 no longer counts it as absent throughout (R418, R423). -/
def execPairAliveReturn (s : State) : Host.Outcome State Fault Refusal :=
  .next (
    if rdB s Obj.PAIR_ALIVE_PRESENT 0 then s
    else
      let t := modPair (wrB s Obj.PAIR_ALIVE_PRESENT 0 true) (fun x => { x with takeover := x.takeover.map (fun k => { k with silent := false }) })
      if t.pair.enabled then notePair t else t)

/-- PAIR_HEARTBEAT_TIMEOUT: no HEARTBEAT has passed its CRC for PAIR_HEARTBEAT_TIMEOUT (R419). -/
def execPairHeartbeatTimeout (s : State) : Host.Outcome State Fault Refusal :=
  .next (if s.pair.heard then classify (modPair s (fun x => { x with heard := false })) else s)

/-! ## Bundles and link down (R403, R409) -/

/-- SEQ, E, credits and messages of a link that starts afresh (R409). -/
def Link.fresh (now : Nat) : Link :=
  { txSeq := 0, expect := 0, naked := none, held := [], queue := [], sent := [], used := [], nextId := [], partials := [], heard := now, acked := now }

/-- Bundle bits. -/
def setBundle (s : State) (b st : Nat) : State :=
  wr (wr s Obj.BUNDLE_STATE b st) Obj.CULVERT_BUNDLES_UP 0 (withBit (rdN s Obj.CULVERT_BUNDLES_UP 0) b (st == 2) : Nat)

/-- BUNDLE_TRAINED: a bundle joins the link; the first one brings it up with SEQ, E and credits afresh (R403, R409). -/
def execBundleTrained (b : Nat) (s : State) : Host.Outcome State Fault Refusal :=
  .next (
    if b ≥ 3 then s
    else
      let t := setBundle s b 2
      let u := if rdN s Obj.CULVERT_STATE 0 = 0 then modPair t (fun x => { x with link := Link.fresh s.now, heard := false }) else t
      notePair (wr u Obj.CULVERT_STATE 0 2))

/-- BUNDLE_FAILED: a bundle drops out of the link and retrains; what it carried is recovered by replay (R403). -/
def execBundleFailed (b : Nat) (s : State) : Host.Outcome State Fault Refusal :=
  .next (
    if b ≥ 3 ∨ rdN s Obj.BUNDLE_STATE b ≠ 2 then s
    else
      let t := bump (setBundle s b 1) Obj.BUNDLE_RETRAINS b 1
      if rdN t Obj.CULVERT_BUNDLES_UP 0 = 0 then wr t Obj.CULVERT_STATE 0 1 else t)

/-- A catch-up under way is discarded with the link (Table 11-13). -/
def dropLink (s : State) : State :=
  let t := forRange 3 (fun b u => if rdN u Obj.BUNDLE_STATE b = 2 then bump (setBundle u b 1) Obj.BUNDLE_RETRAINS b 1 else u) s
  modPair (bump (wr t Obj.CULVERT_STATE 0 0) Obj.CULVERT_DOWNS 0 1) (fun x => { x with link := Link.fresh s.now, heard := false, peerEpoch := 0 })

/-- CULVERT_DOWN: no flit has passed its CRC for CULVERT_DOWN_TIMEOUT; held and partly received messages are discarded, and the pair leaves the joined state (R409, R420). -/
def execCulvertDown (s : State) : Host.Outcome State Fault Refusal :=
  .next (if culvertUp s then classify (dropLink s) else s)

end Sys2Proof.Machine
end

