-- ==== Sys2Proof/Machine/Pair.lean ====
section
/-! DEFINITION. What the partner's messages do: mirroring, records, heartbeat and joining, compared destage, configuration copies and returned slots (R402, R410 to R415, R427 to R432). -/

namespace Sys2Proof.Machine

open Sys2Proof

/-! ## Mirror slots (R410, R412 to R414, R428) -/

/-- Flags of MIRROR_DATA: CATCH_UP and RETURN (Table 11-6). -/
def Mf.catchUp : Nat := 0
def Mf.returned : Nat := 1

/-- The mirror slot of an owner slot. -/
def mirrorSlot (n : Nat) : Nat :=
  ownSlots + n

/-- A mirror slot as MIRROR_DATA fills it. -/
def mirrorOf (p ref : Nat) (m : Meta) (data : Bytes) : Slot :=
  { st := .mirror, md := m, data := data, pool := p, stripe := 0, row := 0, col := 0, prev := .unmapped, prevVer := none, acked := false, atomicRef := ref, restored := false, mirrored := true, recAcked := true, qp := 0, tag := 0, sector := 0, mappedAt := none, poison := [] }

/-- Mirror data is accepted within the reserve in effect (R182, R410). -/
def mirrorRoom (s : State) (n : Nat) : Bool :=
  (slotOf s (mirrorSlot n)).isSome || decide (rdN s Obj.MIRROR_HELD_BYTES 0 + 4096 ≤ rdN s Obj.MIRROR_RESERVE_IN_EFFECT 0)

/-- Keep a copy in the mirror half. -/
def keepMirror (s : State) (n : Nat) (x : Slot) : State :=
  noteSlots (touchDesc { s with prot := Tbl.set s.prot (mirrorSlot n) x } (mirrorSlot n))

/-- Free mirror slots that satisfy a condition. -/
def freeMirror (s : State) (f : Nat → Slot → Bool) : State :=
  noteSlots { s with prot := s.prot.filter (fun e => !(e.2.st == .mirror && f e.1 e.2)) }

/-- Apply slots that a returning controller offered: they become own slots, written in new host-class stripes (R428). -/
def applyOffered (s : State) (p : Nat) (l : List Nat) : State :=
  settleSlots (noteSlots (forEach l (fun n t => adoptSlot t n) s)) p

/-- A catch-up sector offered to the owner: it wins only over an older version; one of an atomic write waits for its mark (R428). -/
def offerSlot (s : State) (p n : Nat) (x : Slot) : State :=
  if x.atomicRef ≠ 0 then keepMirror s n x
  else if slotLoses s x then s
  else applyOffered (keepMirror s n x) p [mirrorSlot n]

/-- The mark of an offered atomic write has come: it is applied whole if none of its sectors loses, else not at all (R428). -/
def offerMarked (s : State) (p first : Nat) : State :=
  let l := s.prot.filter (fun e => e.2.st == .mirror && e.2.pool == p && e.2.atomicRef == first)
  if l.any (fun e => slotLoses s e.2) then freeMirror s (fun _ x => x.pool == p && x.atomicRef == first)
  else applyOffered s p (l.map Prod.fst)

/-- The partner's copy of a sector of a compared stripe has been returned (Table 11-11). -/
def keepReturned (s : State) (p n : Nat) (md data : Bytes) : State :=
  modPair s (fun q => { q with digests := Tbl.mapV q.digests (fun k d => if k / 2 ^ 48 = p ∧ d.slots.contains n then { d with copies := Tbl.set d.copies n (data ++ md) } else d) })

/-- An own DIRTY slot that holds a poisoned word takes the partner's copy of the same version whole, and the word is healed (Table 05-8). -/
def healSlot (s : State) (p n : Nat) (m : Meta) (data : Bytes) : State :=
  match slotOf s n with
  | some x =>
    if x.st = .dirty ∧ x.pool = p ∧ x.poison ≠ [] ∧ x.md.vol = m.vol ∧ x.md.lba = m.lba ∧ x.md.wseq = m.wseq then
      bump (modSlot s n (fun y => { y with data := data, poison := [] })) Obj.DIRTY_POISON_FROM_MIRROR 0 1
    else s
  | none => s

/-- MIRROR_DATA: a copy whose guard matches and for which there is room is kept in mirror slot 2,097,152 + owner slot, and answered; the owner takes it as an offer of a returning controller or as a returned copy (R410, R428, R431). -/
def execMirrorData (id p n flags ref : Nat) (md data : Bytes) (s : State) : Host.Outcome State Fault Refusal :=
  .next (
    if p ≥ 8 ∨ n ≥ ownSlots then s
    else
      let m := parseMeta (padTo 64 md)
      let ok := fieldAt md 16 8 == crc64 data && data.length == 4096
      if servesPool s p then
        (if !ok then sendMsg s (.mirrorAck [] [id])
        else
          let t := if bitAt flags Mf.returned then healSlot (keepReturned s p n (padTo 64 md) data) p n m data else offerSlot s p n (mirrorOf p ref m data)
          sendMsg t (.mirrorAck [id] []))
      else if !ok ∨ !mirrorRoom s n then sendMsg s (.mirrorAck [] [id])
      else sendMsg (keepMirror s n (mirrorOf p ref m data)) (.mirrorAck [id] []))

/-- A returning controller's slots of a pool go once the owner has acknowledged every one of them (R428). -/
def releaseReturned (s : State) (p : Nat) : State :=
  if servesPool s p ∨ !s.pair.settled.contains p ∨ s.pair.mirWait.any (fun e => match slotOf s e.2 with
      | some x => x.pool == p
      | none => false) then s
  else
    let l := s.prot.filter (fun e => decide (e.1 < ownSlots) && e.2.pool == p && (e.2.st == .dirty || e.2.st == .committed))
    noteSlots { s with prot := s.prot.filter (fun e => !l.any (fun x => x.1 == e.1)) }

/-- One acknowledged copy. -/
def ackMirror (s : State) (id : Nat) : State :=
  match Tbl.get s.pair.mirWait id with
  | none => s
  | some n => modSlot (modPair s (fun q => { q with mirWait := Tbl.erase q.mirWait id })) n (fun x => { x with mirrored := true })

/-- One rejected copy: it is sent again from its slot, and counted. -/
def resendMirror (s : State) (id : Nat) : State :=
  match Tbl.get s.pair.mirWait id with
  | none => s
  | some n =>
    let t := bump (modPair s (fun q => { q with mirWait := Tbl.erase q.mirWait id })) Obj.MIRROR_RESENDS 0 1
    match slotOf t n with
    | some x => sendMirror t x.pool n (if servesPool t x.pool then 0 else 1)
    | none => t

/-- MIRROR_ACK: accepted copies meet the mirror condition of R39, rejected ones are sent again; a catch-up may end (R410, R414, R428). -/
def execMirrorAck (acc rej : List Nat) (s : State) : Host.Outcome State Fault Refusal :=
  .next (
    let t := forEach rej (fun i u => resendMirror u i) (forEach acc (fun i u => ackMirror u i) s)
    forRange 8 (fun p u => releaseReturned (endCatchUp u p) p) t)

/-- MIRROR_RELEASE: the matching mirror slots are freed (R412). -/
def execMirrorRelease (l : List Nat) (s : State) : Host.Outcome State Fault Refusal :=
  .next (freeMirror s (fun n _ => l.contains (n - ownSlots)))

/-- ATOMIC_MARK: the mark of an acknowledged atomic write is held; at the owner it completes an offer (R413, R428). -/
def execAtomicMark (p vol first n : Nat) (s : State) : Host.Outcome State Fault Refusal :=
  .next (
    if p ≥ 8 then s
    else if servesPool s p then offerMarked s p first
    else modPair s (fun q => { q with marks := q.marks ++ [{ pool := p, vol := vol, first := first, count := n }] }))

/-! ## Records (R195, R411) -/

/-- Keep mirrored records; a CHECKPOINT record discards the pool's records from before its cut, but for those that stay in force. -/
def keepRecord (s : State) (p : Nat) (r : RecItem) : State :=
  let x : LogRec := { seq := r.seq, pool := p, body := r.body, durable := true, copy := false }
  let l := s.pair.recs ++ [x]
  let m := match r.body with
    | .checkpoint .. => l.filter (fun y => y.pool != p || decide (r.cut ≤ y.seq) || stays l y)
    | _ => l
  modPair s (fun q => { q with recs := m })

/-- The mirrored-record area is 128 MiB of 64-byte records (Table 05-1). -/
def recordRoom (s : State) (n : Nat) : Bool :=
  decide (s.pair.recs.length + n ≤ 2097152)

/-- RECORD: intent records of a mirrored pool are kept in the mirrored-record area and acknowledged (R411); records that find no room there are not. -/
def execRecord (id p : Nat) (l : List RecItem) (s : State) : Host.Outcome State Fault Refusal :=
  .next (if p < 8 ∧ recordRoom s l.length then sendMsg (forEach l (fun r t => keepRecord t p r) s) (.recordAck id) else s)

/-- Pass the records held for a pool back to a controller that has joined without serving it: it may have lost its own (R214). -/
def passRecords (s : State) (p : Nat) : State :=
  forEach (s.pair.recs.filter (fun r => r.pool == p)) (fun r t => sendMsg t (.record p [r])) s

/-- The partner holds a record: the slots of a stripe whose STRIPE record it is may be released. -/
def recordAcked (s : State) (r : LogRec) : State :=
  match r.body with
  | .stripe id .. => { s with prot := Tbl.mapV s.prot (fun n x => if n < ownSlots ∧ x.pool = r.pool ∧ x.stripe = id then { x with recAcked := true } else x) }
  | _ => s

/-- RECORD_ACK: the partner holds every record up to this MSG_ID (R195). -/
def execRecordAck (id : Nat) (s : State) : Host.Outcome State Fault Refusal :=
  .next (
    let l := s.pair.recWait.filter (fun e => decide ((id + 2 ^ 32 - e.1) % 2 ^ 32 < 2 ^ 31))
    let t := forEach l (fun e u => recordAcked u e.2) (modPair s (fun q => { q with recWait := q.recWait.filter (fun e => !l.any (fun x => x.1 == e.1)) }))
    forRange 8 (fun p u => endCatchUp u p) t)

/-! ## Catch-up, SETTLED and CONFIG (R414, R415, R428) -/

/-- SYNC: at the start of a pool's catch-up the partner frees every mirror slot of the pool, with its marks and records (R414). -/
def execSync (p : Nat) (start : Bool) (s : State) : Host.Outcome State Fault Refusal :=
  .next (
    if p < 8 ∧ start then
      modPair (freeMirror s (fun _ x => x.pool == p)) (fun q => { q with marks := q.marks.filter (fun m => m.pool != p), recs := q.recs.filter (fun r => r.pool != p) })
    else s)

/-- The own slots of a pool that the partner now owns are offered as catch-up, each atomic write followed by its mark where its completion had been written (R428). -/
def offerSlots (s : State) (p : Nat) : State :=
  let own := s.prot.filter (fun e => decide (e.1 < ownSlots) && e.2.pool == p && (e.2.st == .dirty || e.2.st == .committed))
  let a := forEach own (fun e t => sendMirror t p e.1 1) s
  forEach (slotGroups s (own.filter (fun e => e.2.atomicRef != 0 && e.2.acked))) (fun g t => match g with
    | [] => t
    | (_, x) :: _ => sendMsg t (.atomicMark p x.md.vol x.atomicRef g.length)) a

/-- SETTLED: the partner has settled every slot it adopted, and the returning controller offers its own (R428). -/
def execSettled (p : Nat) (s : State) : Host.Outcome State Fault Refusal :=
  .next (
    if p ≥ 8 ∨ servesPool s p then s
    else releaseReturned (offerSlots (modPair s (fun q => { q with settled := addOnce q.settled p })) p) p)

/-- A complete superblock copy from the owner: a PARTNER takes it and reports the owner's state; with the pool OFFLINE at the owner it has no role any more (R415, Table 11-12). -/
def takeConfig (s : State) (p st : Nat) (b : Bytes) : State :=
  if roleOf s p = Role.partner ∧ superOk b then
    let t := wr (adoptSuper s p (parseSuper b)) Obj.POOL_STATE p st
    if st = Ps.offline then wr t Obj.PAIR_POOL_ROLE p (Role.none : Nat) else t
  else s

/-- CONFIG: a part of a superblock generation is kept; 16 parts make it complete, and the newest complete copy is kept (R415). The row also carries the owner's POOL_STATE, which this side reports. -/
def execConfig (p gen off : Nat) (data : Bytes) (st : Nat) (s : State) : Host.Outcome State Fault Refusal :=
  .next (
    if p ≥ 8 then s
    else
      let cur := Tbl.getD s.pair.config p (gen, [])
      if gen < cur.1 then s
      else
        let parts := Tbl.set (if cur.1 = gen then cur.2 else []) off data
        let t := modPair s (fun q => { q with config := Tbl.set q.config p (gen, parts) })
        if parts.length = 16 then takeConfig t p st (parts.flatMap Prod.snd) else t)

/-! ## Heartbeat and joining (R402, R419, R423, R432) -/

/-- HEARTBEAT_INTERVAL: a HEARTBEAT with this controller's state and fault counts goes out every 10 µs (Table 11-6). -/
def execHeartbeatInterval (s : State) : Host.Outcome State Fault Refusal :=
  .next (
    if s.pair.enabled then
      sendMsg s (.heartbeat serialNumber (rdN s Obj.PAIR_SIDE 0) (rdN s Obj.FW_COMPAT_LEVEL 0) (rdN s Obj.EPOCH_PAIR_CURRENT 0) s.ev.seq (rdN s Obj.MIRROR_RESERVE_IN_EFFECT 0)
        (rdN s Obj.PAIR_FAULTS_A 0) (rdN s Obj.PAIR_FAULTS_B 0))
    else s)

/-- A Weir that falls below OWN_DIRTY_BYTES closes every open host-class stripe and raises a WARN event (R189). -/
def weirFell (s : State) : State :=
  raiseOpen (forRange 8 (fun p t => forceWhere 2 t p (fun x => x.cls == Cls.host)) s) (ev 0x04 189) .warn Src.device 0

/-- The fault-count object of a side. -/
def faultsOf (side : Nat) : ObjDesc :=
  if side = 0 then Obj.PAIR_FAULTS_A else Obj.PAIR_FAULTS_B

/-- This side's strap and the other's. -/
def mySide (s : State) : Nat :=
  rdN s Obj.PAIR_SIDE 0

def otherSide (s : State) : Nat :=
  1 - min 1 (mySide s)

/-- A side's count has reached the threshold. -/
def sideFailed (s : State) (side : Nat) : Bool :=
  decide (rdN s (faultsOf side) 0 ≥ rdN s Obj.PAIR_FAULT_THRESHOLD 0)

/-- Take the counts of a HEARTBEAT: a count that has risen there raises the one here, and counts that have been cleared there are cleared here. -/
def takeFaults (s : State) (fa fb : Nat) : State :=
  let (was, wbs) := s.pair.peerFaults
  let t := modPair s (fun x => { x with peerFaults := (fa, fb) })
  if fa = 0 ∧ fb = 0 ∧ (was, wbs) ≠ (0, 0) then wr (wr (modPair t (fun x => { x with faults := [] })) Obj.PAIR_FAULTS_A 0 0) Obj.PAIR_FAULTS_B 0 0
  else
    let a := if fa > was then max (rdN s Obj.PAIR_FAULTS_A 0) fa else rdN s Obj.PAIR_FAULTS_A 0
    let b := if fb > wbs then max (rdN s Obj.PAIR_FAULTS_B 0) fb else rdN s Obj.PAIR_FAULTS_B 0
    wr (wr t Obj.PAIR_FAULTS_A 0 (a : Nat)) Obj.PAIR_FAULTS_B 0 (b : Nat)

/-- With the partner's count at the threshold its pools are taken over (R432). -/
def checkFaults (s : State) : State :=
  if sideFailed s (otherSide s) ∧ s.pair.joined then startTakeover s 4 else s

/-- Count a mirroring fault of a side within the window (R432). -/
def noteFault (s : State) (side : Nat) : State :=
  let w := rdN s Obj.PAIR_FAULT_WINDOW 0 * 3600000000
  let l := (s.pair.faults ++ [(side, s.now)]).filter (fun f => decide (s.now ≤ f.2 + w))
  let t := modPair s (fun q => { q with faults := l })
  checkFaults (wr t (faultsOf side) 0 (sat 255 (l.filter (fun f => f.1 == side)).length : Nat))

/-- The higher side of unequal pair epochs sends the change set that the other lacks, again after each EPOCH_TIMEOUT until they are equal (R87). -/
def sendReconcile (s : State) : State :=
  let due : Bool := match s.pair.reconAt with
    | some q => decide (s.now ≥ q + 1000 * rdN s Obj.EPOCH_TIMEOUT 0)
    | none => true
  if !s.pair.joined ∧ due ∧ s.pair.peerEpoch < rdN s Obj.EPOCH_PAIR_CURRENT 0 ∧ s.pair.peerSide ≠ mySide s ∧ rdN s Obj.PAIR_PEER_COMPAT_LEVEL 0 = rdN s Obj.FW_COMPAT_LEVEL 0 then
    sendMsg (modPair s (fun x => { x with reconAt := some s.now })) (.epochPrepare (rdN s Obj.EPOCH_PAIR_CURRENT 0) s.ep.lastPair)
  else s

/-- The pair epochs of a joined pair are compared outside an epoch: once they have been unequal for EPOCH_TIMEOUT, or at once after a COMMIT without an acknowledgement, mirroring stops and the reconciliation of R87 runs before the pair joins again. -/
def compareEpochs (s : State) : State :=
  if s.pair.peerEpoch = rdN s Obj.EPOCH_PAIR_CURRENT 0 then modPair (modEp s (fun x => { x with reconcile := false })) (fun x => { x with unequal := none, reconAt := none })
  else if !s.pair.joined ∨ epochState s ≠ Es.idle then s
  else match s.pair.unequal with
    | none => if s.ep.reconcile then leavePair s else modPair s (fun x => { x with unequal := some s.now })
    | some q => if s.ep.reconcile ∨ s.now ≥ q + 1000 * rdN s Obj.EPOCH_TIMEOUT 0 then leavePair s else s

/-- A mirror reserve of the partner that falls below what it holds of this side's is treated as a lowered Weir (R183, R189). -/
def reserveFell (s : State) (old : Nat) : State :=
  let held := mirroredBytes s
  if rdN s Obj.PARTNER_RESERVE_IN_EFFECT 0 < held ∧ held ≤ old then weirFell s else s

/-- HEARTBEAT: the partner's state and fault counts are taken; equal straps raise an ALARM; a takeover from Table 11-8 in step 2 is abandoned unless the fence has been acknowledged; unequal pair epochs are reconciled (R87, R183, R402, R419, R423, R432). -/
def execHeartbeat (serial : Bytes) (side level epoch evSeq reserve fa fb : Nat) (s : State) : Host.Outcome State Fault Refusal :=
  .next (
    if !s.pair.enabled ∨ !culvertUp s then s
    else
      let a := modPair s (fun x => { x with heard := true, peerSide := side, peerEpoch := epoch, peerSeq := evSeq })
      let b := wr (wr (wr (wrBytes a Obj.PAIR_PEER_SERIAL 0 serial) Obj.PAIR_PEER_COMPAT_LEVEL 0 level) Obj.PARTNER_RESERVE_IN_EFFECT 0 reserve) Obj.UNIT_APPLIED_EPOCH 70 epoch
      let c := takeFaults b fa fb
      let d := if side = mySide s ∧ (!s.pair.heard ∨ s.pair.peerSide ≠ side) then raiseOpen c (ev 0x0A 402) .alarm Src.pair 0 else c
      let e := match d.pair.takeover with
        | some k => if k.step = 2 ∧ 1 ≤ k.cause ∧ k.cause ≤ 3 ∧ !fenceBit d 3 then abandonTakeover d else d
        | none => d
      notePair (checkFaults (sendReconcile (compareEpochs (reserveFell e (rdN s Obj.PARTNER_RESERVE_IN_EFFECT 0))))))

/-- The conditions of R402; a side failed for mirroring does not join until its count is cleared (R432). -/
def mayJoin (s : State) : Bool :=
  s.pair.enabled && culvertUp s && s.pair.heard && s.pair.peerSide != mySide s && rdN s Obj.PAIR_PEER_COMPAT_LEVEL 0 == rdN s Obj.FW_COMPAT_LEVEL 0 &&
    s.pair.peerEpoch == rdN s Obj.EPOCH_PAIR_CURRENT 0 && !sideFailed s 0 && !sideFailed s 1

/-- PAIR_JOIN: all conditions of R402 hold and the pair joins: REQ is released, FENCED pools follow their owner, SETTLED goes out for adopted pools, catch-up runs for each mirrored pool served here, and records held for the partner's pools are passed to it (R214, R402, R414, R417, R427). -/
def execPairJoin (s : State) : Host.Outcome State Fault Refusal :=
  .next (
    if !mayJoin s ∨ s.pair.joined ∨ s.pair.takeover.isSome then s
    else
      let a := modPair s (fun x => { x with joined := true, dumping := false })
      let b := rejoinFenced (if fenceBit a 0 then releaseReq a else a)
      let c := forEach b.pair.toSettle (fun p t => sendMsg t (.settled p)) b
      let d := modPair c (fun x => { x with toSettle := [] })
      let e := forRange 8 (fun p t => if !servesPool t p then (if roleOf t p = Role.partner then passRecords t p else t) else if rdB t Obj.PAIR_POOL_MIRROR p then startCatchUp t p else wr t Obj.PAIR_POOL_ROLE p (Role.owner : Nat)) d
      notePair e)

/-- DUMPING: the partner dumps, and takeover starts at once (Table 11-8). -/
def execDumping (s : State) : Host.Outcome State Fault Refusal :=
  .next (if s.pair.enabled then partnerGone (modPair s (fun x => { x with dumping := true })) 3 else s)

/-- PAIR_FAULT_CLEAR: both counts are reset, and the pair may join again (R432). -/
def execPairFaultClear (s : State) : Host.Outcome State Fault Refusal :=
  .next (notePair (wr (wr (modPair s (fun x => { x with faults := [] })) Obj.PAIR_FAULTS_A 0 0) Obj.PAIR_FAULTS_B 0 0))

/-! ## Compared destage (R430, R431) -/

/-- DIGEST: the partner computes the digest from its mirror slots, or answers NO_COPY. A second DIGEST for a stripe whose digests differed asks for its copies, which go back with RETURN set. -/
def execDigest (p id first height : Nat) (slots : List Nat) (v : Nat) (s : State) : Host.Outcome State Fault Refusal :=
  .next (
    if p ≥ 8 then s
    else
      let k := digestKey p id
      let l := slots.map (fun n => slotOf s (mirrorSlot n))
      if !l.all Option.isSome then sendMsg s (.digestReply p id none)
      else
        let x := l.filterMap (fun e => e)
        let mine := digestOf id first height (x.map (fun e => (e.data, e.md.bytes)))
        match Tbl.get s.pair.digests k with
        | some d =>
          if d.partner ≠ some d.owner then
            forEach slots (fun n t => match slotOf t (mirrorSlot n) with
              | some e => sendMsg t (.mirrorData p n 2 e.atomicRef e.md.bytes e.data)
              | none => t) s
          else sendMsg s (.digestReply p id (some mine))
        | none =>
          sendMsg (modPair s (fun q => { q with digests := Tbl.set q.digests k { owner := v, slots := slots, partner := some mine, done := mine == v, first := first, height := height, copies := [], asked := false, back := [] } }))
            (.digestReply p id (some mine)))

/-- Change the digest record of a stripe. -/
def modDigest (s : State) (k : Nat) (f : DigestRec → DigestRec) : State :=
  modPair s (fun q => { q with digests := Tbl.modify q.digests k f })

/-- DIGEST_REPLY: NO_COPY compares nothing; equal digests let release proceed; differing ones start a read-back once the stripe has committed (R430, R431). -/
def execDigestReply (p id : Nat) (v : Option Nat) (s : State) : Host.Outcome State Fault Refusal :=
  .next (match Tbl.get s.pair.digests (digestKey p id) with
    | none => s
    | some d =>
      if p ≥ 8 ∨ d.done ∨ d.partner.isSome ∨ !servesPool s p then s
      else match v with
        | none => modDigest s (digestKey p id) (fun x => { x with done := true })
        | some w =>
          let t := bump s Obj.PAIR_DIGESTS_COMPARED p 1
          if w = d.owner then modDigest t (digestKey p id) (fun x => { x with partner := some w, done := true })
          else modDigest (bump t Obj.PAIR_DIGEST_MISMATCHES p 1) (digestKey p id) (fun x => { x with partner := some w }))

/-- Segment slot and zone sector of a committed stripe's first row. -/
def stripePlace (s : State) (p id : Nat) : Option (Nat × Nat) :=
  ((poolOf s p).segs.find? (fun e => e.2.hdrs.any (fun h => h.id == id && h.flags % 2 == 0))).bind (fun e => (e.2.hdrs.find? (fun h => h.id == id)).map (fun h => (e.1, h.first)))

/-- The key under which a read-back sector arrives. -/
def backKey (seg first : Nat) (x : Slot) : Nat :=
  seg * 2 ^ 32 + (first + x.row) * 64 + x.col

/-- Read the stripe's data sectors back from the members. -/
def readBack (s : State) (p id : Nat) (d : DigestRec) (seg first : Nat) : State :=
  forEach d.slots (fun n t => match slotOf t n with
    | some x => if (Tbl.get d.back (backKey seg first x)).isSome then t
      else match fetchAt t (.digest (digestKey p id)) p x.md.vol x.md.lba seg (first + x.row) x.col with
        | .started u => u
        | .lost => t
    | none => t) s

/-- A read-back of the stripe is under way. -/
def readingBack (s : State) (k : Nat) : Bool :=
  s.drv.cmds.any (fun e => match e.2.purp with
    | .sector (.digest j) .. => j == k
    | _ => false) || s.drv.jobs.any (fun e => e.2.want == .digest k)

/-- Write a sector anew in a dredge-class stripe, keeping WRITE_SEQ and setting RELOCATED. -/
def rewriteCopy (s : State) (p : Nat) (x : Slot) (b : Bytes) : State :=
  startCopy s p (grainKey s x.md.vol x.md.lba) Cls.dredge (.dredge 0) (some (grainAt s x.md.vol x.md.lba, payloadOf b, { metaOf b with relocated := true }))

/-- The value on which two of three copies agree: own slot, read-back, partner. -/
def majority (a b c : Bytes) : Option Bytes :=
  if a = b ∨ a = c then some a else if b = c then some b else none

/-- Resolve a mismatch whose read-back is complete (Table 11-11). -/
def resolveDigest (s : State) (p id : Nat) (d : DigestRec) (seg first : Nat) : State :=
  let k := digestKey p id
  let xs := d.slots.filterMap (fun n => (slotOf s n).map (fun x => (n, x)))
  let back (x : Slot) : Bytes := Tbl.getD d.back (backKey seg first x) []
  let third := digestOf id d.first d.height (xs.map (fun e => (payloadOf (back e.2), slice (back e.2) 4096 64)))
  let close (t : State) : State := modDigest t k (fun x => { x with done := true })
  if third = d.owner then close (forEach d.slots (fun n t => sendMirror t p n 0) (noteFault s (otherSide s)))
  else if !d.slots.all (fun n => (Tbl.get d.copies n).isSome) then
    (if d.asked then s else sendMsg (modDigest s k (fun x => { x with asked := true })) (.digest p id d.first d.height d.slots third))
  else if some third = d.partner then
    close (forEach xs (fun e t => rewriteCopy t p e.2 (Tbl.getD d.copies e.1 [])) (noteFault s (mySide s)))
  else
    let t := raiseOpen (noteFault (noteFault s (mySide s)) (otherSide s)) (ev 0x0A 431) .error Src.pool p
    close (forEach xs (fun e u => match majority (sectorBytes e.2.data e.2.md) (back e.2) (Tbl.getD d.copies e.1 []) with
      | some b => rewriteCopy u p e.2 b
      | none => loseSector u p e.2.md.vol e.2.md.lba Lr.unrecovered) t)

/-- Digests that differ, of committed stripes: their read-backs start and are resolved. -/
def digestWork (s : State) : State :=
  forEach s.pair.digests (fun e t =>
    let p := e.1 / 2 ^ 48
    let id := e.1 % 2 ^ 48
    if e.2.done ∨ e.2.partner.isNone ∨ !servesPool t p then t
    else match stripePlace t p id with
      | none => t
      | some (seg, first) =>
        if readingBack t e.1 then t
        else if e.2.slots.all (fun n => match slotOf t n with
            | some x => (Tbl.get e.2.back (backKey seg first x)).isSome
            | none => true) then resolveDigest t p id e.2 seg first
        else readBack t p id e.2 seg first) s

end Sys2Proof.Machine
end

