-- ==== Sys2Proof/Machine/Keys.lean ====
section
/-! DEFINITION. Key slots, the key window, tamper and the pipelines' known-answer tests (R447, R449 to R466). -/

namespace Sys2Proof.Machine

open Sys2Proof

/-! Values of KEY_STATE (Table 12-3) and KEY_LOAD_RESULT (Table 12-9). -/

def Ks.empty : Nat := 0
def Ks.current : Nat := 1
def Ks.both : Nat := 2
def Ks.zeroized : Nat := 3

def Kr.done : Nat := 1
def Kr.incomplete : Nat := 2
def Kr.weakKey : Nat := 3
def Kr.wrongState : Nat := 4
def Kr.staleGeneration : Nat := 5
def Kr.previousHeld : Nat := 6
def Kr.previousInUse : Nat := 7
def Kr.kcvMismatch : Nat := 8
def Kr.badConfirm : Nat := 9
def Kr.tamperAborted : Nat := 10

/-! ## Slots and staging -/

/-- The generation after `g` and the one before it, in the cycle 1 to 255 (R450). -/
def genNext (g : Nat) : Nat :=
  if g ≥ 255 then 1 else g + 1

def genPrev (g : Nat) : Nat :=
  if g ≤ 1 then 255 else g - 1

/-- KEY_STATE of a slot. -/
def keyState (s : State) (k : Nat) : Nat :=
  rdN s Obj.KEY_STATE k

/-- The 96 staging bytes of a PF, if every one has been written since the last clear (R459). -/
def staged (s : State) (pf : Nat) : Option Bytes :=
  let l := (List.range 96).map (fun i => Tbl.get s.key.staging (128 * pf + i))
  if l.all Option.isSome then some (l.filterMap (fun x => x)) else none

/-- Zeroize the staging bytes of a PF. -/
def clearStaging (s : State) (pf : Nat) : State :=
  { s with key := { s.key with staging := Tbl.filterK s.key.staging (fun k => k / 128 != pf) } }

/-- A weak key: Key1 equal to Key2, or one of the three keys all zero (R459). -/
def weakKey (b : Bytes) : Bool :=
  slice b 0 32 == slice b 32 32 || allZero (slice b 0 32) || allZero (slice b 32 32) || allZero (slice b 64 32)

/-- In WRAPPED mode the wrapped store follows the keys (R456). -/
def syncWrapped (s : State) : State :=
  if rdN s Obj.KEY_PERSIST 0 = 1 ∧ s.key.salt then { s with key := { s.key with wrapped := s.key.keys } } else s

/-- KEY_SLOTS_IN_USE follows a slot's change of state. -/
def setKeyState (s : State) (k st : Nat) : State :=
  let t := wr s Obj.KEY_STATE k st
  if keyState s k = Ks.empty ∧ st ≠ Ks.empty then bump t Obj.KEY_SLOTS_IN_USE 0 1
  else if keyState s k ≠ Ks.empty ∧ st = Ks.empty then drop t Obj.KEY_SLOTS_IN_USE 0 1 else t

/-- Put keys into a generation of a slot: 0 the current one, 1 the previous one. -/
def putKeys (s : State) (k which gen : Nat) (b : Bytes) : State :=
  let t := { s with key := { s.key with keys := Tbl.set s.key.keys (2 * k + which) b } }
  let u := wr t Obj.KEY_PRESENT k (withBit (rdN s Obj.KEY_PRESENT k) which true : Nat)
  if which = 0 then wr (wr (wr u Obj.KEY_GEN_CURRENT k gen) Obj.KEY_KCV_XTS_CURRENT k (kcvXts (slice b 0 64) : Nat)) Obj.KEY_KCV_GMAC_CURRENT k (kcvGmac (slice b 64 32) : Nat)
  else wr (wr (wr u Obj.KEY_GEN_PREVIOUS k gen) Obj.KEY_KCV_XTS_PREVIOUS k (kcvXts (slice b 0 64) : Nat)) Obj.KEY_KCV_GMAC_PREVIOUS k (kcvGmac (slice b 64 32) : Nat)

/-- Zeroize the previous generation of a slot and clear its records. -/
def dropPrevious (s : State) (k : Nat) : State :=
  let t := { s with key := { s.key with keys := Tbl.erase s.key.keys (2 * k + 1) } }
  let u := clrAll t [Obj.KEY_GEN_PREVIOUS, Obj.KEY_KCV_XTS_PREVIOUS, Obj.KEY_KCV_GMAC_PREVIOUS] k
  wr u Obj.KEY_PRESENT k (withBit (rdN s Obj.KEY_PRESENT k) 1 false : Nat)

/-- A ZEROIZED slot with every recorded generation installed is CURRENT or CURRENT_PREVIOUS again (Table 12-3). -/
def settleSlot (s : State) (k : Nat) : State :=
  if keyState s k ≠ Ks.zeroized then s
  else
    let p := rdN s Obj.KEY_PRESENT k
    let prev := rdN s Obj.KEY_GEN_PREVIOUS k ≠ 0
    if bitAt p 0 ∧ (!prev ∨ bitAt p 1) then setKeyState s k (if prev then Ks.both else Ks.current) else s

/-! ## Locking -/

/-- A slot is ZEROIZED. -/
def anyZeroized (s : State) : Bool :=
  (List.range 4096).any (fun k => keyState s k == Ks.zeroized)

/-- A pool holds an encrypted volume that has not left KEY_ZEROIZED. -/
def poolWithheld (s : State) (p : Nat) : Bool :=
  (liveVolumes s).any (fun v => rdN s Obj.VOLUME_POOL v == p && encrypted s v && keyState s (rdN s Obj.VOLUME_KEY_SLOT v) == Ks.zeroized)

/-- After a slot has changed: pools leave LOCKED, and volumes lock and unlock (R454, R465). -/
def noteKeys (s : State) : State :=
  let t := forRange 8 (fun p u => if poolCond u p Pc.locked ∧ !poolWithheld u p then setCond u p Pc.locked false else u) s
  let u := if rdB t Obj.DEVICE_LOCKED 0 ∧ !anyZeroized t then wrB t Obj.DEVICE_LOCKED 0 false else t
  noteLocks (syncWrapped u)

/-! ## The key window (R458, R459) -/

/-- A write of the key window that is dropped whole. -/
def dropWindow (s : State) (pf : Nat) : State :=
  bump s Obj.KEY_WINDOW_DROPPED pf 1

/-- Every KEY_CONTROL write that is accepted: its result, the count and slot, and the staging cleared; while the tamper latch is set it is dropped (R458, R459). -/
def keyAction (s : State) (pf k : Nat) (f : State → Nat × State) : State :=
  if rdN s Obj.TAMPER_LATCH 0 ≠ 0 then dropWindow s pf
  else
    let r := f s
    clearStaging (wr (bump (wr r.2 Obj.KEY_LOAD_RESULT pf r.1) Obj.KEY_LOAD_COUNT pf 1) Obj.KEY_LOAD_SLOT pf k) pf

/-- The conditions that LOAD and INSTALL share: CONFIRM, staging complete, key not weak (Table 12-6). -/
def withKeys (s : State) (pf confirm : Nat) (f : Bytes → Nat × State) : Nat × State :=
  if confirm ≠ 0x9640 then (Kr.badConfirm, s)
  else match staged s pf with
    | none => (Kr.incomplete, s)
    | some b => if weakKey b then (Kr.weakKey, s) else f b

/-- LOAD: a new current generation; the current one becomes previous (Table 12-3). -/
def loadKey (s : State) (k gen : Nat) (b : Bytes) : Nat × State :=
  let st := keyState s k
  let fresh (t : State) : State := { wr t Obj.KEY_USAGE_CURRENT k 0 with key := { t.key with warned := t.key.warned.filter (fun x => x != k) } }
  if st = Ks.both then (Kr.previousHeld, s)
  else if st = Ks.zeroized then (Kr.wrongState, s)
  else if st = Ks.empty then
    (if gen = 1 then (Kr.done, noteKeys (setKeyState (fresh (putKeys s k 0 1 b)) k Ks.current)) else (Kr.staleGeneration, s))
  else if gen ≠ genNext (rdN s Obj.KEY_GEN_CURRENT k) then (Kr.staleGeneration, s)
  else
    let t := putKeys s k 1 (rdN s Obj.KEY_GEN_CURRENT k) (Tbl.getD s.key.keys (2 * k) [])
    (Kr.done, noteKeys (setKeyState (fresh (putKeys t k 0 gen b)) k Ks.both))

/-- LOAD (R450): operands are the writing PF and the fields of KEY_CONTROL. -/
def execLoad (pf confirm gen k : Nat) (s : State) : Host.Outcome State Fault Refusal :=
  .next (if pf < 2 ∧ k < 4096 then keyAction s pf k (fun t => withKeys t pf confirm (fun b => loadKey t k gen b)) else s)

/-- INSTALL_CURRENT into an EMPTY slot, or a ZEROIZED one whose record it matches. -/
def installCurrent (s : State) (k gen : Nat) (b : Bytes) : Nat × State :=
  let st := keyState s k
  if st = Ks.empty then
    (if 1 ≤ gen ∧ gen ≤ 255 then (Kr.done, noteKeys (setKeyState (wr (putKeys s k 0 gen b) Obj.KEY_USAGE_CURRENT k 0) k Ks.current)) else (Kr.staleGeneration, s))
  else if st ≠ Ks.zeroized then (Kr.wrongState, s)
  else if gen ≠ rdN s Obj.KEY_GEN_CURRENT k then (Kr.staleGeneration, s)
  else if kcvXts (slice b 0 64) ≠ rdN s Obj.KEY_KCV_XTS_CURRENT k ∨ kcvGmac (slice b 64 32) ≠ rdN s Obj.KEY_KCV_GMAC_CURRENT k then (Kr.kcvMismatch, s)
  else (Kr.done, noteKeys (settleSlot (putKeys s k 0 gen b) k))

/-- INSTALL_CURRENT (R465). -/
def execInstallCurrent (pf confirm gen k : Nat) (s : State) : Host.Outcome State Fault Refusal :=
  .next (if pf < 2 ∧ k < 4096 then keyAction s pf k (fun t => withKeys t pf confirm (fun b => installCurrent t k gen b)) else s)

/-- INSTALL_PREVIOUS under a current generation; into a ZEROIZED slot it must match the record. -/
def installPrevious (s : State) (k gen : Nat) (b : Bytes) : Nat × State :=
  let st := keyState s k
  if st = Ks.both then (Kr.previousHeld, s)
  else if st = Ks.empty then (Kr.wrongState, s)
  else if gen ≠ genPrev (rdN s Obj.KEY_GEN_CURRENT k) then (Kr.staleGeneration, s)
  else if st = Ks.current then (Kr.done, noteKeys (setKeyState (putKeys s k 1 gen b) k Ks.both))
  else if gen ≠ rdN s Obj.KEY_GEN_PREVIOUS k then (Kr.staleGeneration, s)
  else if kcvXts (slice b 0 64) ≠ rdN s Obj.KEY_KCV_XTS_PREVIOUS k ∨ kcvGmac (slice b 64 32) ≠ rdN s Obj.KEY_KCV_GMAC_PREVIOUS k then (Kr.kcvMismatch, s)
  else (Kr.done, noteKeys (settleSlot (putKeys s k 1 gen b) k))

/-- INSTALL_PREVIOUS (R465). -/
def execInstallPrevious (pf confirm gen k : Nat) (s : State) : Host.Outcome State Fault Refusal :=
  .next (if pf < 2 ∧ k < 4096 then keyAction s pf k (fun t => withKeys t pf confirm (fun b => installPrevious t k gen b)) else s)

/-- RETIRE: the previous generation goes once no sector needs it (R453). -/
def retireKey (s : State) (confirm gen k : Nat) : Nat × State :=
  if confirm ≠ 0x9640 then (Kr.badConfirm, s)
  else if keyState s k ≠ Ks.both then (Kr.wrongState, s)
  else if gen ≠ rdN s Obj.KEY_GEN_PREVIOUS k then (Kr.staleGeneration, s)
  else if prevSectors s k ≠ 0 then (Kr.previousInUse, s)
  else (Kr.done, noteKeys (setKeyState (dropPrevious s k) k Ks.current))

/-- RETIRE (R453). -/
def execRetire (pf confirm gen k : Nat) (s : State) : Host.Outcome State Fault Refusal :=
  .next (if pf < 2 ∧ k < 4096 then keyAction s pf k (fun t => retireKey t confirm gen k) else s)

/-- What volumes of a destroyed slot hold in the caches is discarded, and their units are zeroed before their next use (R460, R470). -/
def purgeSlot (s : State) (k : Nat) : State :=
  forEach ((liveVolumes s).filter (fun v => rdN s Obj.VOLUME_KEY_SLOT v == k)) (fun v t => disownVolume (endRanges (discardFrames t v (fun _ => true)) v) v) s

/-- DESTROY: keys and records go, and the slot's volumes lock with NO_KEY (R460). -/
def destroyKey (s : State) (confirm gen k : Nat) : Nat × State :=
  if confirm ≠ 0x9640 then (Kr.badConfirm, s)
  else if keyState s k = Ks.empty then (Kr.wrongState, s)
  else if gen ≠ rdN s Obj.KEY_GEN_CURRENT k then (Kr.staleGeneration, s)
  else
    let a := dropPrevious s k
    let b := { a with key := { a.key with keys := Tbl.erase a.key.keys (2 * k), warned := a.key.warned.filter (fun x => x != k) } }
    let c := clrAll b [Obj.KEY_GEN_CURRENT, Obj.KEY_KCV_XTS_CURRENT, Obj.KEY_KCV_GMAC_CURRENT, Obj.KEY_PRESENT, Obj.KEY_USAGE_CURRENT] k
    (Kr.done, purgeSlot (noteKeys (setKeyState c k Ks.empty)) k)

/-- DESTROY (R460). -/
def execDestroy (pf confirm gen k : Nat) (s : State) : Host.Outcome State Fault Refusal :=
  .next (if pf < 2 ∧ k < 4096 then keyAction s pf k (fun t => destroyKey t confirm gen k) else s)

/-- CLEAR_STAGING: the staging bytes are zeroized, as after every action (R459). -/
def execClearStaging (pf confirm : Nat) (s : State) : Host.Outcome State Fault Refusal :=
  .next (if pf < 2 then keyAction s pf 0 (fun t => (if confirm = 0x9640 then Kr.done else Kr.badConfirm, t)) else s)

/-- A write to XTS_KEY or GMAC_KEY, or elsewhere in the window. -/
def stageKey (s : State) (pf off : Nat) (b : Bytes) : State :=
  if rdN s Obj.TAMPER_LATCH 0 ≠ 0 ∨ off % 4 ≠ 0 ∨ b.length % 4 ≠ 0 ∨ b = [] ∨ off + b.length > 96 then dropWindow s pf
  else { s with key := { s.key with staging := (List.range b.length).foldl (fun t i => Tbl.set t (128 * pf + off + i) (b.getD i 0)) s.key.staging } }

/-- KEY_STAGING_WRITE: key bytes are staged when start and length are multiples of 4 within the two keys; any other write is dropped and counted (R458). -/
def execKeyStagingWrite (pf off : Nat) (b : Bytes) (s : State) : Host.Outcome State Fault Refusal :=
  .next (if pf < 2 then stageKey s pf off b else s)

/-- Select VOLATILE or WRAPPED: VOLATILE overwrites the salt and erases the store; WRAPPED draws a salt and wraps every generation (R456, R457). -/
def setPersist (s : State) (mode : Nat) : State :=
  let t := wr s Obj.KEY_PERSIST 0 mode
  if mode = 0 then { t with key := { t.key with salt := false, wrapped := [] } }
  else if rdN s Obj.KEY_PERSIST 0 = 1 ∧ s.key.salt then t
  else { t with key := { t.key with salt := true, wrapped := t.key.keys } }

/-- KEY_PERSIST_WRITE (R457). -/
def execKeyPersistWrite (mode : Nat) (s : State) : Host.Outcome State Fault Refusal :=
  .next (if mode ≤ 1 then setPersist s mode else s)

/-! ## Tamper (R461 to R464) -/

/-- Values of TAMPER_LAST_PHASE. -/
def Tp.startUp : Nat := 1
def Tp.operating : Nat := 2
def Tp.idle : Nat := 3
def Tp.auxOnly : Nat := 4
def Tp.keyLoad : Nat := 5

/-- P12V is off while P3V3_AUX is on. -/
def auxOnly (s : State) : Bool :=
  !s.power.p12v

/-- The phase of Table 12-7 in which a tamper input is asserted. -/
def tamperPhase (s : State) : Nat :=
  if auxOnly s then Tp.auxOnly
  else if rdN s Obj.STARTUP_STEP 0 ≤ 7 then Tp.startUp
  else if !s.key.staging.isEmpty then Tp.keyLoad
  else if rdB s Obj.MODULE_IDLE 0 then Tp.idle else Tp.operating

/-- Zeroize every slot that holds keys, staging and round keys, and the salt: numbers and check values stay (Tables 12-3 and 12-7). -/
def zeroizeAll (s : State) : State :=
  let t := { s with key := { s.key with keys := [], staging := [], salt := false } }
  forRange 4096 (fun k u => if keyState u k = Ks.current ∨ keyState u k = Ks.both then wr (setKeyState u k Ks.zeroized) Obj.KEY_PRESENT k 0
    else if keyState u k = Ks.zeroized then wr u Obj.KEY_PRESENT k 0 else u) t

/-- Pools that hold an encrypted volume enter LOCKED; their volumes lock. -/
def lockPools (s : State) : State :=
  noteLocks (forRange 8 (fun p t => if poolUp t p ∧ (liveVolumes t).any (fun v => rdN t Obj.VOLUME_POOL v == p && encrypted t v) then setCond t p Pc.locked true else t) s)

/-- A tamper input is asserted; `b` is its bit. -/
def tamper (s : State) (b : Nat) : State :=
  let ph := tamperPhase s
  let a := wr (wr s Obj.TAMPER_LATCH 0 (withBit (rdN s Obj.TAMPER_LATCH 0) b true : Nat)) Obj.TAMPER_INPUTS 0 (withBit (rdN s Obj.TAMPER_INPUTS 0) b true : Nat)
  let c := wr (bump a Obj.TAMPER_EVENTS 0 1) Obj.TAMPER_LAST_PHASE 0 ph
  let d := forRange 2 (fun pf t => if (c.key.staging.any (fun e => e.1 / 128 == pf)) then wr t Obj.KEY_LOAD_RESULT pf (Kr.tamperAborted : Nat) else t) c
  let e := wrB (zeroizeAll d) Obj.DEVICE_LOCKED 0 true
  let f := if ph = Tp.startUp then wrB e Obj.LOCKED_BOOT 0 true else e
  let g := lockPools f
  let h := if ph = Tp.auxOnly then drive g .wake false else g
  raiseOpen h (ev 0x0B 461) .alarm Src.device 0

/-- TAMPER_ENCLOSURE_ASSERT: TAMPER_A_N stays low for 1 µs while it is watched (R461). -/
def execTamperEnclosureAssert (s : State) : Host.Outcome State Fault Refusal :=
  .next (
    let t := { s with key := { s.key with enclosure := true } }
    if rdB s Obj.TAMPER_ENCLOSURE_ENABLE 0 then tamper t 0 else wr t Obj.TAMPER_INPUTS 0 (withBit (rdN s Obj.TAMPER_INPUTS 0) 0 true : Nat))

/-- TAMPER_MESH_BREAK: the on-module mesh breaks (R461). -/
def execTamperMeshBreak (s : State) : Host.Outcome State Fault Refusal :=
  .next (tamper { s with key := { s.key with mesh := true } } 1)

/-- A write of TAMPER_CLEAR, which `quiet` says comes with both inputs inactive for 1 s and the mesh intact. -/
def tamperClear (s : State) (value : Nat) (quiet : Bool) : Nat × State :=
  if value ≠ 0x9640C1EA then (Rs.range, s)
  else if !quiet then (Rs.access, s)
  else
    let t := { s with key := { s.key with enclosure := false, mesh := false, salt := rdN s Obj.KEY_PERSIST 0 == 1, wrapped := s.key.keys, quiet := s.now } }
    (Rs.ok, wr (wr t Obj.TAMPER_LATCH 0 0) Obj.TAMPER_INPUTS 0 0)

/-- TAMPER_CLEAR: the latch is cleared with the right value while the inputs have been inactive for 1 s; else it is refused (R464). -/
def execTamperClear (value : Nat) (quiet : Bool) (s : State) : Host.Outcome State Fault Refusal :=
  .next (tamperClear s value quiet).2

/-! ## Pipelines (R446, R447) -/

/-- PIPE_CLEAR: a quarantined pipeline repeats its known-answer tests, and returns to service with PIPE_FAULTS zero if they pass (R447, R448). -/
def execPipeClear (q : Nat) (pass : Bool) (s : State) : Host.Outcome State Fault Refusal :=
  .next (
    if q < 4 ∧ rdN s Obj.PIPE_STATE q = 1 ∧ pass then noteLocks (notePipes (wr (wr s Obj.PIPE_STATE q 0) Obj.PIPE_FAULTS q 0)) else s)

end Sys2Proof.Machine
end

