-- ==== Sys2Proof/Machine/Weir.lean ====
section
/-! DEFINITION. The Weir and the readiness of the Cistern (R182 to R189, R201, R210, R211, R609). -/

namespace Sys2Proof.Machine

open Sys2Proof

/-! ## The Weir -/

/-- 8 GiB in bytes. -/
def gib8 : Nat :=
  8589934592

/-- Values of CISTERN_STATE (Table 05-6). -/
def Cs.notReady : Nat := 0
def Cs.armed : Nat := 1
def Cs.dumping : Nat := 2
def Cs.restoring : Nat := 3
def Cs.fault : Nat := 4

/-- The pack's estimate is current (R518). -/
def packCurrent (s : State) : Bool :=
  rdB s Obj.PACK_ENABLE 0 && rdN s Obj.PACK_STATE 0 == 3

/-- The energy inputs fail (R184). -/
def energyFails (s : State) : Bool :=
  !packCurrent s || rdN s Obj.CISTERN_STATE 0 != Cs.armed || rdN s Obj.ILOG_STATE 0 == 3

/-- energy_bytes of R184: the energy input in mJ, less the fixed budget in ms at DUMP_POWER and WEIR_MARGIN (hundredths), at CISTERN_DUMP_RATE in MB/s. -/
def energyBytes (s : State) : Nat :=
  if energyFails s then 0
  else
    let pm := rdN s Obj.DUMP_POWER 0 * rdN s Obj.WEIR_MARGIN 0
    (100 * rdN s Obj.WEIR_ENERGY_INPUT 0 - rdN s Obj.DUMP_T_FIXED 0 * pm) * rdN s Obj.CISTERN_DUMP_RATE 0 * 1000 / pm

/-- The mirror reserve in effect: zero while this controller is SOLO or its energy inputs fail, else the lesser of MIRROR_RESERVE and the energy bytes (R182). -/
def reserveInEffect (s : State) : Nat :=
  if !s.pair.joined ∨ energyFails s then 0 else min (rdN s Obj.MIRROR_RESERVE 0) (energyBytes s)

/-- WEIR_BINDING (R609). -/
def weirBinding (s : State) (we : Nat) : Nat :=
  if rdB s Obj.WEIR_FORCE_WRITE_THROUGH 0 then 3
  else if !packCurrent s then 4
  else if rdN s Obj.CISTERN_STATE 0 ≠ Cs.armed then 5
  else if rdN s Obj.ILOG_STATE 0 = 3 then 6
  else
    let l := rdN s Obj.WEIR_LIMIT 0
    let m := min l (min gib8 we)
    if m = gib8 then 1 else if m = l then 0 else 2

/-- The Weir of R184. -/
def weirOf (s : State) (we : Nat) : Nat :=
  if rdB s Obj.WEIR_FORCE_WRITE_THROUGH 0 then 0 else min (rdN s Obj.WEIR_LIMIT 0) (min gib8 we) / 4096 * 4096

/-- Recompute the Weir from its inputs (R184, R185, R609). -/
def recomputeWeir (s : State) : State :=
  let a := wr s Obj.WEIR_ENERGY_INPUT 0 (if packCurrent s then (rdN s Obj.PACK_USABLE_ENERGY 0 : Int) else 0)
  let r := reserveInEffect a
  let we := energyBytes a - r
  let w := weirOf a we
  let b := wr (wr (wr a Obj.MIRROR_RESERVE_IN_EFFECT 0 r) Obj.WEIR_ENERGY_BYTES 0 we) Obj.WEIR_BINDING 0 (weirBinding a we)
  let c := wrB (wr b Obj.WEIR_CURRENT 0 w) Obj.WRITE_THROUGH 0 (w == 0)
  if w < rdN s Obj.OWN_DIRTY_BYTES 0 ∧ rdN s Obj.OWN_DIRTY_BYTES 0 ≤ rdN s Obj.WEIR_CURRENT 0 then weirFell c else c

/-- WEIR_WAIT_WARN: a WRITE has waited 100 ms at the Sluice; a WARN event names its QP and volume, once, and the wait is counted (R186). -/
def execWeirWaitWarn (q tag : Nat) (s : State) : Host.Outcome State Fault Refusal :=
  .next (match (qpOf s q).queue.find? (fun c => c.tag == tag) with
    | some c =>
      if c.opcode = 2 ∧ c.phase = .waiting ∧ !c.warned then
        raise (bump (modQueued s q tag (fun x => { x with warned := true })) Obj.WEIR_WAITS 0 1) (ev 0x04 186) .warn Src.qp q (detailLba c.volume 0)
      else s
    | none => s)

/-! ## The Cistern's readiness (R201) -/

/-- Bytes that the next image area must have erased: 8 GiB, the mirror reserve, 0.7 GiB and the leaf tail. -/
def cisternNeed (s : State) : Nat :=
  gib8 + rdN s Obj.MIRROR_RESERVE 0 + 751619276 + rdN s Obj.CISTERN_LEAF_TAIL_MAX 0 * 1073741824

/-- The Cistern is ARMED exactly while R201 holds; fewer than 8 dies is a FAULT with an ALARM event (Table 05-6). The Weir follows. -/
def noteCistern (s : State) : State :=
  let st := rdN s Obj.CISTERN_STATE 0
  if st = Cs.dumping ∨ st = Cs.restoring then s
  else if rdN s Obj.CISTERN_DIES_USABLE 0 < 8 then
    (if st = Cs.fault then s else recomputeWeir (raiseOpen (wr s Obj.CISTERN_STATE 0 (Cs.fault : Nat)) (ev 0x04 201) .alarm Src.cistern 0))
  else recomputeWeir (wr s Obj.CISTERN_STATE 0 (if rdN s Obj.CISTERN_ERASED_BYTES 0 ≥ cisternNeed s then (Cs.armed : Nat) else Cs.notReady))

/-- WEIR_RECOMPUTE: an input of the Weir has changed (R185); MIRROR_RESERVE is one of the Cistern's readiness too (R201). -/
def execWeirRecompute (s : State) : Host.Outcome State Fault Refusal :=
  .next (recomputeWeir (noteCistern s))

/-- The dies that pass the self-test set the dump rate, 500 MB/s each (R201). -/
def setDies (s : State) (n : Nat) : State :=
  noteCistern (wr (wr s Obj.CISTERN_DIES_USABLE 0 (min 16 n : Nat)) Obj.CISTERN_DUMP_RATE 0 (500 * min 16 n : Nat))

/-- CISTERN_SELFTEST_TIMER: the 24 h self-test runs and finds this many dies usable (R201). -/
def execCisternSelftestTimer (dies : Nat) (s : State) : Host.Outcome State Fault Refusal :=
  .next (if rdN s Obj.CISTERN_STATE 0 = Cs.dumping then s else setDies s dies)

/-- The area that the next dump writes holds no image any more. -/
def eraseNext (s : State) : State :=
  { s with power := if s.power.next then { s.power with imgB := none } else { s.power with imgA := none } }

/-- CISTERN_ERASE_DONE: the next image area stands erased to this many bytes (R201). -/
def execCisternEraseDone (bytes : Nat) (s : State) : Host.Outcome State Fault Refusal :=
  .next (if rdN s Obj.CISTERN_STATE 0 = Cs.dumping then s else noteCistern (wr (eraseNext s) Obj.CISTERN_ERASED_BYTES 0 bytes))

/-- CISTERN_IMAGE_RELEASE: with every restored slot settled the held image is released, and its area erased in the background (R210). -/
def execCisternImageRelease (s : State) : Host.Outcome State Fault Refusal :=
  .next (
    if rdB s Obj.CISTERN_IMAGE_HELD 0 ∧ !s.prot.any (fun e => e.2.restored) then
      wrB { s with power := { s.power with imgA := none, imgB := none } } Obj.CISTERN_IMAGE_HELD 0 false else s)

end Sys2Proof.Machine
end

