-- ==== Sys2Proof/Machine/Pack.lean ====
section
/-! DEFINITION. The backup pack: sampling, charging, usable energy, learning, impedance and the estimator's states (R502 to R521). -/

namespace Sys2Proof.Machine

open Sys2Proof

/-! Values of PACK_STATE and PACK_FAULT_CAUSE (Table 14-7). -/

def Pk.disabled : Nat := 0
def Pk.absent : Nat := 1
def Pk.learning : Nat := 2
def Pk.current : Nat := 3
def Pk.stale : Nat := 4
def Pk.fault : Nat := 5
def Pf.overvoltage : Nat := 1
def Pf.charger : Nat := 2
def Pf.temperature : Nat := 3
def Pf.ntcShort : Nat := 4
def Pf.esrLimit : Nat := 5

/-- PACK_STATE. -/
def packState (s : State) : Nat :=
  rdN s Obj.PACK_STATE 0

/-- LEARNING, CURRENT or STALE. -/
def packLive (s : State) : Bool :=
  packState s == Pk.learning || packState s == Pk.current || packState s == Pk.stale

/-- Change the estimator's own state. -/
def modPack (s : State) (f : PackSt → PackSt) : State :=
  { s with pack := f s.pack }

/-- PACK_CHEMISTRY is SUPERCAP. -/
def supercap (s : State) : Bool :=
  rdN s Obj.PACK_CHEMISTRY 0 == 1

/-- Power Sentry runs on P12V: neither in ride-through nor in a dump. -/
def onMains (s : State) : Bool :=
  s.power.p12v && s.power.mode == .running

/-- The pack temperature lies within two limits, in °C, narrowed by a margin. -/
def tempWithin (s : State) (lo hi margin : Int) : Bool :=
  decide ((lo + margin) * 10 ≤ rd s Obj.PACK_TEMPERATURE 0 ∧ rd s Obj.PACK_TEMPERATURE 0 ≤ (hi - margin) * 10)

/-! ## Charging (R506) -/

/-- Every condition of R506 holds. -/
def mayCharge (s : State) : Bool :=
  rdB s Obj.PACK_ENABLE 0 && packLive s && onMains s && tempWithin s (rd s Obj.PACK_CHARGE_TEMP_MIN 0) (rd s Obj.PACK_CHARGE_TEMP_MAX 0) 0 &&
  decide (rdN s Obj.PACK_VOLTAGE 0 < rdN s Obj.PACK_VMAX 0) && s.pack.step == 0

/-- PACK_CHG_EN follows R506. -/
def noteCharge (s : State) : State :=
  if mayCharge s = rdB s Obj.PACK_CHARGING 0 then s
  else wrB (drive s .packCharge (mayCharge s)) Obj.PACK_CHARGING 0 (mayCharge s)

/-! ## Usable energy (R508 to R513) -/

/-- The value in use: the learned one, or the nominal one at PACK_UNLEARNED_DERATE percent. -/
def inUse (s : State) (learned nominal : ObjDesc) : Rat :=
  if rdN s learned 0 ≠ 0 then (rdN s learned 0 : Rat) else (rdN s nominal 0 : Rat) * (rdN s Obj.PACK_UNLEARNED_DERATE 0 : Rat) / 100

/-- C in mF (R508). -/
def capacitance (s : State) : Rat :=
  inUse s Obj.PACK_CAPACITANCE_LEARNED Obj.PACK_NOMINAL_CAPACITANCE

/-- Q in mAh (R510). -/
def capacity (s : State) : Rat :=
  inUse s Obj.PACK_CAPACITY_LEARNED Obj.PACK_NOMINAL_CAPACITY

/-- Open-circuit voltage of a supercapacitor pack, in mV (R508). -/
def vOc (s : State) : Rat :=
  (rdN s Obj.PACK_VOLTAGE 0 : Rat) + (rd s Obj.PACK_CURRENT 0 : Rat) * (rdN s Obj.PACK_ESR 0 : Rat) / 1000000

/-- i_end × PACK_ESR in mV (R512). -/
def endDrop (s : State) : Rat :=
  (rdN s Obj.DUMP_POWER 0 : Rat) * (rdN s Obj.PACK_ESR 0 : Rat) / (rdN s Obj.PACK_VMIN 0 : Rat)

/-- Linear interpolation between two points. -/
def lerp (x0 y0 x1 y1 x : Rat) : Rat :=
  if x1 = x0 then y0 else y0 + (y1 - y0) * (x - x0) / (x1 - x0)

/-- Interpolate along points in ascending order, clamped to the edge values. -/
def along (l : List (Rat × Rat)) (x : Rat) : Rat :=
  match l with
  | [] => 0
  | [(_, y)] => y
  | (x0, y0) :: (x1, y1) :: r => if x ≤ x0 then y0 else if x ≤ x1 then lerp x0 y0 x1 y1 x else along ((x1, y1) :: r) x

/-- A 16-bit two's-complement field. -/
def signed16 (n : Nat) : Int :=
  if n % 65536 ≥ 32768 then (n % 65536 : Nat) - 65536 else (n % 65536 : Nat)

/-- The 10-byte rows of a table. -/
def rows10 (b : Bytes) : List Bytes :=
  (List.range (b.length / 10)).map (fun i => slice b (10 * i) 10)

/-- The derating factor, in thousandths: linear in temperature, then in current (R513). -/
def derate (tbl : Bytes) (temp amps : Rat) : Rat :=
  let r := rows10 tbl
  let col (j : Nat) : Rat := along (r.map (fun x => ((signed16 (fieldAt x 0 2) : Rat), (fieldAt x (2 + 2 * j) 2 : Rat)))) temp
  along [(5, col 0), (10, col 1), (20, col 2), (40, col 3)] amps

/-- The OCV curve at a temperature in tenths of a degree: state of charge from 0 to 1, and mV (R511). Outside −10 to 45 °C the table gives no value, and each point is a free value. -/
def ocvCurve (tbl : Bytes) (t10 : Int) : List (Rat × Rat) :=
  let r := rows10 tbl
  (List.range r.length).map (fun i =>
    let x := r.getD i []
    let v (j : Nat) : Rat := (fieldAt x (2 + 2 * j) 2 : Rat)
    ((fieldAt x 0 2 : Rat) / 1000,
     if t10 < -100 ∨ t10 > 450 then ((Config.ocvOutside i t10).toNat : Rat) else along [(-100, v 0), (0, v 1), (250, v 2), (450, v 3)] (t10 : Rat)))

/-- The lowest state of charge from which the curve reaches a voltage. -/
def socFloor (l : List (Rat × Rat)) (v : Rat) : Option Rat :=
  match l with
  | [] => none
  | [(s, y)] => if y ≥ v then some s else none
  | (s0, y0) :: (s1, y1) :: r => if y0 ≥ v then some s0 else if y1 ≥ v then some (lerp y0 s0 y1 s1 v) else socFloor ((s1, y1) :: r) v

/-- The integral of a piecewise linear curve from `a` to `b`. -/
def area (l : List (Rat × Rat)) (a b : Rat) : Rat :=
  match l with
  | (s0, y0) :: (s1, y1) :: r =>
    let lo := max a s0
    let hi := min b s1
    (if lo < hi then (hi - lo) * (lerp s0 y0 s1 y1 lo + lerp s0 y0 s1 y1 hi) / 2 else 0) + area ((s1, y1) :: r) a b
  | _ => 0

/-- State of charge as it stands, in millionths: V_oc / PACK_VMAX, or the coulomb count from the last reference point. -/
def socNow (s : State) : Rat :=
  let x := if supercap s then 1000000 * vOc s / (rdN s Obj.PACK_VMAX 0 : Rat)
           else (s.pack.soc : Rat) - 1000000 * ((s.pack.charge - s.pack.socAt : Int) : Rat) / (3600000 * capacity s)
  max 0 (min 1000000 x)

/-- e_raw in mJ (R512). -/
def energyRaw (s : State) : Rat :=
  if supercap s then
    let f := (rdN s Obj.PACK_VMIN 0 : Rat) + endDrop s
    max 0 (capacitance s * (vOc s * vOc s - f * f) / 2000000)
  else
    let c := ocvCurve (rdBytes s Obj.PACK_OCV_TABLE 0) (rd s Obj.PACK_TEMPERATURE 0)
    match socFloor c ((rdN s Obj.PACK_VMIN 0 : Rat) + endDrop s) with
    | some f => capacity s * 36 / 10 * area c f (socNow s / 1000000)
    | none => 0

/-- The derating factor at the pack's temperature and i_end. -/
def factorNow (s : State) : Rat :=
  derate (rdBytes s Obj.PACK_DERATE_TABLE 0) ((rd s Obj.PACK_TEMPERATURE 0 : Rat) / 10) (1000 * (rdN s Obj.DUMP_POWER 0 : Rat) / (rdN s Obj.PACK_VMIN 0 : Rat))

/-- The whole part of a nonnegative number. -/
def whole (x : Rat) : Nat :=
  x.floor.toNat

/-- Recompute the estimate (R512); the Weir follows (R185). -/
def estimate (s : State) : State :=
  let e := energyRaw s
  let f := factorNow s
  let reserve := 340 * rdN s Obj.PS_RIDE_THROUGH_WINDOW 0
  let a := wr (wr (wr s Obj.PACK_SOC 0 (whole (socNow s / 1000) : Nat)) Obj.PACK_ENERGY_RAW 0 (whole e : Nat)) Obj.PACK_DERATE_FACTOR 0 (whole f : Nat)
  let b := wr (wr a Obj.PACK_RIDE_RESERVE 0 (reserve : Nat)) Obj.PACK_USABLE_ENERGY 0 (whole (e * f / 1000 - (reserve : Rat)) : Nat)
  recomputeWeir b

/-! ## Learning (R509, R510) -/

/-- Take a sample of the capacitance or capacity: the first becomes the learned value, a later one moves it by a quarter; one outside 50 % to 150 % of nominal is rejected. -/
def learn (s : State) (learned nominal : ObjDesc) (x : Nat) : State :=
  let n := rdN s nominal 0
  if 100 * x < 50 * n ∨ 100 * x > 150 * n then bump s Obj.PACK_LEARN_REJECTS 0 1
  else if rdN s learned 0 = 0 then wr s learned 0 (x : Nat)
  else wr s learned 0 (rd s learned 0 + ((x : Int) - rd s learned 0).tdiv 4)

/-- V_oc in whole microvolts. -/
def vOcMicro (s : State) : Int :=
  (1000 * vOc s).floor

/-- The charge curve goes on: it begins with a charge current of 100 mA, and a rise of 1.0 V gives a sample (R509). -/
def followCurve (s : State) : State :=
  if !supercap s ∨ rd s Obj.PACK_CURRENT 0 > -100 then modPack s (fun x => { x with curve := none })
  else match s.pack.curve with
    | none => modPack s (fun x => { x with curve := some (vOcMicro s, x.charge) })
    | some (v, q) =>
      if vOcMicro s - v < 1000000 then s
      else
        let c := 1000 * (q - s.pack.charge) / (vOcMicro s - v)
        modPack (learn s Obj.PACK_CAPACITANCE_LEARNED Obj.PACK_NOMINAL_CAPACITANCE c.toNat) (fun x => { x with curve := some (vOcMicro s, x.charge) })

/-! ## States (Table 14-5) -/

/-- Change PACK_STATE; charging and the Weir follow (R506, R518). -/
def setPackState (s : State) (st : Nat) : State :=
  recomputeWeir (noteCharge (wr s Obj.PACK_STATE 0 st))

/-- A measurement that runs ends without a result: the load is off. -/
def endMeasure (s : State) : State :=
  let t := if s.pack.step = 2 then drive s .packTest false else s
  modPack t (fun x => { x with step := 0 })

/-- A measurement is deferred under these conditions (R515). -/
def deferring (s : State) : Bool :=
  !onMains s || !tempWithin s (rd s Obj.PACK_TEMP_MIN 0) (rd s Obj.PACK_TEMP_MAX 0) 0 || decide (rdN s Obj.PACK_VOLTAGE 0 < rdN s Obj.PACK_VMIN 0 + 1000)

/-- A measurement falls due: it starts, or is deferred and counted (R514, R515). -/
def measureDue (s : State) : State :=
  if s.pack.step ≠ 0 then s
  else if deferring s then bump (modPack s (fun x => { x with due := true })) Obj.PACK_ESR_DEFERRED 0 1
  else noteCharge (modPack s (fun x => { x with due := false, step := 1 }))

/-- Enter LEARNING, with a measurement scheduled. -/
def enterLearning (s : State) : State :=
  measureDue (setPackState (wr (modPack s (fun x => { x with measured := false })) Obj.PACK_FAULT_CAUSE 0 0) Pk.learning)

/-- The pack faults (Table 14-5). -/
def packFault (s : State) (cause : Nat) : State :=
  if packLive s then raiseOpen (setPackState (wr (modPack (endMeasure s) (fun x => { x with due := false })) Obj.PACK_FAULT_CAUSE 0 cause) Pk.fault) (ev 0x0D 517) .error Src.pack 0 else s

/-- A pack is seen: 1.0 V or more, and a thermistor. -/
def packSeen (s : State) : Bool :=
  decide (rdN s Obj.PACK_VOLTAGE 0 ≥ 1000) && s.pack.ntc != 1

/-- LEARNING ends with its first measurement, and for lithium-ion after a loss of P3V3_AUX with the first rest (Table 14-6). -/
def endLearning (s : State) : State :=
  if packState s = Pk.learning ∧ s.pack.measured ∧ (supercap s ∨ !s.pack.needRest) then setPackState s Pk.current else s

/-- The estimator starts with PACK_ENABLE true (Table 14-5). -/
def startPack (s : State) : State :=
  if packState s ≠ Pk.disabled then s else if packSeen s then enterLearning s else setPackState s Pk.absent

/-- The estimator stops. -/
def stopPack (s : State) : State :=
  setPackState (wr (modPack (endMeasure s) (fun x => { x with due := false })) Obj.PACK_FAULT_CAUSE 0 0) Pk.disabled

/-- The configuration that PACK_ENABLE needs: a chemistry with its nominal value, and for lithium-ion an OCV table (R511). -/
def packValid (s : State) : Bool :=
  match rdN s Obj.PACK_CHEMISTRY 0 with
  | 1 => rdN s Obj.PACK_NOMINAL_CAPACITANCE 0 != 0
  | 2 => rdN s Obj.PACK_NOMINAL_CAPACITY 0 != 0 && !(rdBytes s Obj.PACK_OCV_TABLE 0).isEmpty
  | _ => false

/-- A write of PACK_ENABLE: its result, and the state after. -/
def packEnable (s : State) (on : Bool) : Nat × State :=
  if on then
    (if !packValid s then (Rs.range, s)
    else if rdB s Obj.PACK_ENABLE 0 then (Rs.ok, s)
    else (Rs.ok, startPack (wr (wrB s Obj.PACK_ENABLE 0 true) Obj.PACK_ESR_BASELINE 0 0)))
  else (Rs.ok, stopPack (wrB s Obj.PACK_ENABLE 0 false))

/-- PACK_ENABLE: a write of the object (R517). -/
def execPackEnable (on : Bool) (s : State) : Host.Outcome State Fault Refusal :=
  .next (packEnable s on).2

/-- What PACK_RESET_LEARNING does (R519). -/
def resetLearning (s : State) : State :=
  let a := wr (wr (wr s Obj.PACK_CAPACITANCE_LEARNED 0 0) Obj.PACK_CAPACITY_LEARNED 0 0) Obj.PACK_ESR_BASELINE 0 0
  let b := modPack (endMeasure a) (fun x => { x with charge := 0, curve := none, soc := 0, socAt := 0, rest := none, needRest := true, due := false, agedEsr := false, agedCap := false })
  if packLive b ∨ (packState b = Pk.fault ∧ rdN b Obj.PACK_FAULT_CAUSE 0 ≠ Pf.temperature) then enterLearning b else b

/-- PACK_RESET_LEARNING (R519). -/
def execPackResetLearning (s : State) : Host.Outcome State Fault Refusal :=
  .next (resetLearning s)

/-! ## Impedance (R514 to R516) -/

/-- A write of PACK_ESR_MEASURE_NOW: BUSY during a measurement. -/
def measureNow (s : State) : Nat × State :=
  if s.pack.step ≠ 0 then (Rs.busy, s) else (Rs.ok, if packLive s then measureDue s else s)

/-- PACK_ESR_MEASURE_NOW (R514). -/
def execPackEsrMeasureNow (s : State) : Host.Outcome State Fault Refusal :=
  .next (measureNow s).2

/-- PACK_ESR_INTERVAL: the interval expires and a measurement falls due (R514). -/
def execPackEsrInterval (s : State) : Host.Outcome State Fault Refusal :=
  .next (if packLive s then measureDue s else s)

/-- IMPEDANCE_DEFERRED_RUN: a deferred measurement starts once nothing defers it (R515). -/
def execImpedanceDeferredRun (s : State) : Host.Outcome State Fault Refusal :=
  .next (if s.pack.due ∧ packLive s ∧ !deferring s then measureDue s else s)

/-- IMPEDANCE_SETTLE_DONE: V_0 (mV) and I_0 (mA) are taken and the test load switches on (Table 14-4). -/
def execImpedanceSettleDone (v i : Int) (s : State) : Host.Outcome State Fault Refusal :=
  .next (if s.pack.step = 1 then drive (modPack s (fun x => { x with step := 2, v0 := v, i0 := i })) .packTest true else s)

/-- ESR in µΩ from the two points (R514); none where the formula gives no value that PACK_ESR can hold. -/
def esrOf (s : State) (v1 i1 : Int) : Option Nat :=
  let di := i1 - s.pack.i0
  let x : Rat := 1000000 * ((s.pack.v0 - v1 : Int) : Rat) / (di : Rat) - (if supercap s then 10000000 / capacitance s else 0)
  if di = 0 ∨ x < 0 ∨ x ≥ 4294967296 then none else some (whole x)

/-- The ratio and the learned value are checked after a measurement (R516). -/
def checkAgeing (s : State) : State :=
  let ratio := rdN s Obj.PACK_ESR_RATIO 0
  let hot := decide (ratio ≥ rdN s Obj.PACK_ESR_WARN 0)
  let (l, n) := if supercap s then (rdN s Obj.PACK_CAPACITANCE_LEARNED 0, rdN s Obj.PACK_NOMINAL_CAPACITANCE 0) else (rdN s Obj.PACK_CAPACITY_LEARNED 0, rdN s Obj.PACK_NOMINAL_CAPACITY 0)
  let low := decide (l ≠ 0 ∧ 100 * l < rdN s Obj.PACK_CAPACITY_WARN 0 * n)
  let a := if hot ∧ !s.pack.agedEsr then raiseOpen s (ev 0x0D 516) .warn Src.pack 0 else s
  let b := if low ∧ !s.pack.agedCap then raiseOpen a (ev 0x0D 516) .warn Src.pack 0 else a
  let c := modPack b (fun x => { x with agedEsr := hot, agedCap := low })
  if ratio ≥ rdN s Obj.PACK_ESR_FAULT 0 then packFault c Pf.esrLimit else c

/-- Samples have come within the last second. -/
def samplesValid (s : State) : Bool :=
  s.pack.ntc == 0 && decide (s.now < s.pack.sampleAt + 1000000)

/-- A measurement has its result: ESR, baseline, ratio, checks, state (R514, R516, Table 14-5). -/
def measured (s : State) (v1 i1 : Int) : State :=
  let n := rdN s Obj.PACK_ESR_MEASUREMENTS 0
  let esr := (esrOf s v1 i1).getD (Config.packEsr n).toNat
  let a := bump (wr (modPack (endMeasure s) (fun x => { x with esrAt := s.now, measured := true })) Obj.PACK_ESR 0 (esr : Nat)) Obj.PACK_ESR_MEASUREMENTS 0 1
  let b := wr (if rdN a Obj.PACK_ESR_BASELINE 0 = 0 then wr a Obj.PACK_ESR_BASELINE 0 (esr : Nat) else a) Obj.PACK_ESR_LAST_AGE 0 0
  let base := rdN b Obj.PACK_ESR_BASELINE 0
  let r := 100 * esr / base
  let c := checkAgeing (wr b Obj.PACK_ESR_RATIO 0 ((if base = 0 ∨ r ≥ 65536 then (Config.packRatio n).toNat else r : Nat) : Int))
  let d := if packState c = Pk.stale ∧ samplesValid c then setPackState c Pk.current else endLearning c
  noteCharge d

/-- IMPEDANCE_LOAD_OFF: V_1 and I_1 are taken, the load is off, ESR is computed and checked (R514, R516). -/
def execImpedanceLoadOff (v i : Int) (s : State) : Host.Outcome State Fault Refusal :=
  .next (if s.pack.step = 2 then measured s v i else s)

/-- A sag: a measurement that runs is discarded and deferred, with the load off (R515); charging stops (R506). -/
def packSag (s : State) : State :=
  noteCharge (if s.pack.step = 0 then s else bump (modPack (endMeasure s) (fun x => { x with due := true })) Obj.PACK_ESR_DEFERRED 0 1)

/-! ## Events -/

/-- The thermistor and the temperature limits (Table 14-5). -/
def checkTemp (s : State) : State :=
  let lo := rd s Obj.PACK_TEMP_MIN 0
  let hi := rd s Obj.PACK_TEMP_MAX 0
  if s.pack.ntc = 2 then packFault s Pf.ntcShort
  else if s.pack.ntc = 1 then s
  else if !tempWithin s lo hi 0 then packFault s Pf.temperature
  else if packState s = Pk.fault ∧ rdN s Obj.PACK_FAULT_CAUSE 0 = Pf.temperature ∧ tempWithin s lo hi 2 then enterLearning s
  else s

/-- The last measurement is no older than 3 × PACK_ESR_INTERVAL (Table 14-5). -/
def esrFresh (s : State) : Bool :=
  decide (s.now ≤ s.pack.esrAt + 180000000 * rdN s Obj.PACK_ESR_INTERVAL 0)

/-- PACK_SAMPLE: voltage in mV, current in mA and temperature in tenths of a degree at 1 kHz; the coulomb counter advances and PACK_CHG_EN follows (R505, R506). `ntc` is 0 in range, 1 open, 2 short. -/
def execPackSample (v : Nat) (i temp : Int) (ntc : Nat) (s : State) : Host.Outcome State Fault Refusal :=
  .next (
    let a := wr (wr s Obj.PACK_VOLTAGE 0 v) Obj.PACK_CURRENT 0 i
    let b := if ntc = 0 then wr a Obj.PACK_TEMPERATURE 0 temp else a
    let c := modPack b (fun x => { x with charge := x.charge + i, sampleAt := if ntc = 0 then s.now else x.sampleAt, ntc := ntc, curve := if i > -100 then none else x.curve })
    let d := checkTemp c
    noteCharge (if packState d = Pk.stale ∧ samplesValid d ∧ esrFresh d then setPackState d Pk.current else d))

/-- ESTIMATOR_UPDATE: every 100 ms usable energy and learning are recomputed (R505, R509, R512). -/
def execEstimatorUpdate (s : State) : Host.Outcome State Fault Refusal :=
  .next (
    if packState s = Pk.disabled then s
    else estimate (wr (followCurve s) Obj.PACK_ESR_LAST_AGE 0 (((s.now - s.pack.esrAt) / 1000000 : Nat) : Int)))

/-- PACK_OVERVOLTAGE (R507). -/
def execPackOvervoltage (s : State) : Host.Outcome State Fault Refusal :=
  .next (packFault s Pf.overvoltage)

/-- PACK_CHARGER_FAULT (R507). -/
def execPackChargerFault (s : State) : Host.Outcome State Fault Refusal :=
  .next (if rdB s Obj.PACK_CHARGING 0 then packFault s Pf.charger else s)

/-- PACK_ABSENT (R517). -/
def execPackAbsent (s : State) : Host.Outcome State Fault Refusal :=
  .next (if packLive s then raiseOpen (setPackState (modPack (endMeasure s) (fun x => { x with due := false })) Pk.absent) (ev 0x0D 517) .error Src.pack 0 else s)

/-- PACK_PRESENT (R517). -/
def execPackPresent (s : State) : Host.Outcome State Fault Refusal :=
  .next (if packState s = Pk.absent then enterLearning s else s)

/-- State of charge of a rested pack from its voltage and temperature, in millionths (R510). -/
def restSoc (s : State) : Int :=
  let c := ocvCurve (rdBytes s Obj.PACK_OCV_TABLE 0) (rd s Obj.PACK_TEMPERATURE 0)
  let v : Rat := (rdN s Obj.PACK_VOLTAGE 0 : Rat)
  match c.head?, socFloor c v with
  | some x, some f => if v < x.2 then ((Config.socOutside (rdN s Obj.PACK_VOLTAGE 0) (rd s Obj.PACK_TEMPERATURE 0)).val : Int) else (1000000 * f).floor
  | _, _ => ((Config.socOutside (rdN s Obj.PACK_VOLTAGE 0) (rd s Obj.PACK_TEMPERATURE 0)).val : Int)

/-- The pack is rested: SoC is taken from the OCV table, and Q is learned between points at least 30 % apart (R510). -/
def rested (s : State) : State :=
  let soc := restSoc s
  let q := s.pack.charge
  let a := modPack s (fun x => { x with soc := soc, socAt := q, needRest := false })
  match s.pack.rest with
  | none => modPack a (fun x => { x with rest := some (soc, q) })
  | some (s0, q0) =>
    let d := (soc - s0).natAbs
    if d < 300000 then a
    else modPack (learn a Obj.PACK_CAPACITY_LEARNED Obj.PACK_NOMINAL_CAPACITY ((q - q0).natAbs * 1000000 / (3600000 * d))) (fun x => { x with rest := some (soc, q) })

/-- PACK_RESTED: a lithium-ion pack has rested (R510). -/
def execPackRested (s : State) : Host.Outcome State Fault Refusal :=
  .next (if rdN s Obj.PACK_CHEMISTRY 0 = 2 ∧ packLive s then endLearning (rested s) else s)

/-- PACK_STALE (R517). -/
def execPackStale (s : State) : Host.Outcome State Fault Refusal :=
  .next (if packState s = Pk.current then raiseOpen (setPackState s Pk.stale) (ev 0x0D 517) .warn Src.pack 0 else s)

end Sys2Proof.Machine
end

