-- ==== Sys2Proof/Machine/Reset.lean ====
section
/-! DEFINITION. What a power-on reset and a module reset reach and what they leave (R57, R194, R206 to R212, R559, R563). -/

namespace Sys2Proof.Machine

open Sys2Proof

/-! ## The dictionary -/

/-- The object of an index and sub-index. -/
def findObj (index sub : Nat) : Option ObjDesc :=
  objTable.find? (fun o => o.index == index && o.sub == sub)

/-- Object indexes that a main reset leaves: identity, key slots, tamper, the pack estimator, supplies, sensors, pin levels and the intent log. -/
def keptIndexes : List Nat :=
  [0x1000, 0x3020, 0x6000, 0x1920, 0x1930, 0x1810, 0x1840, 0x1850, 0x2E30]

/-- Further objects that a main reset leaves: what superblocks, intent log, Cistern, SPI NOR and fuses hold. -/
def keptObjs : List ObjDesc :=
  [Obj.FW_SLOT_STATE, Obj.FW_SLOT_VERSION, Obj.FW_SLOT_COMPAT_LEVEL, Obj.FW_SLOT_SVN, Obj.KEY_SLOTS_IN_USE, Obj.DEVICE_LOCKED, Obj.FW_SVN_FLOOR, Obj.POOL_STATE, Obj.POOL_UUID, Obj.POOL_SB_GENERATION, Obj.POOL_WIDTH, Obj.POOL_TOLERANCE, Obj.POOL_CAPACITY,
   Obj.POOL_MEMBER_KIND, Obj.VOLUME_STATE, Obj.MAP_CHECKPOINT_NUMBER, Obj.MAP_CUT_STRIPE_ID, Obj.SEGMENT_SLOTS_USED, Obj.RESHAPE_KIND, Obj.RESHAPE_CURSOR, Obj.LOST_SECTORS, Obj.LOST_STRIPES,
   Obj.LOST_LIST_TRUNCATED, Obj.MEMBER_FAIL_CAUSE, Obj.CISTERN_DIES_USABLE, Obj.CISTERN_DUMP_RATE, Obj.CISTERN_ERASED_BYTES, Obj.CISTERN_IMAGE_HELD, Obj.CISTERN_LAST_DUMP_MS,
   Obj.CISTERN_LAST_DUMP_BYTES]

/-- A main reset leaves the object (R57, R559). -/
def survives (k : Nat) : Bool :=
  keptIndexes.contains (keyIndex k) || keptObjs.any (fun o => o.index == keyIndex k && o.sub == keySub k) ||
  (match findObj (keyIndex k) (keySub k) with
    | some o => o.persistent
    | none => false)

/-- Read-only objects that FACTORY_DEFAULTS restores with the settings: those whose table states a default. -/
def factoryObjs : List ObjDesc :=
  [Obj.PACK_CAPACITANCE_LEARNED, Obj.PACK_CAPACITY_LEARNED, Obj.PACK_ESR_BASELINE, Obj.CODE_CHECK_STATE, Obj.CODE_CHECK_REASON, Obj.LOCK_STATE, Obj.PATROL_PASSES]

/-- FACTORY_DEFAULTS restores the object at the next reset (Table 02-13). -/
def factoryClears (k : Nat) : Bool :=
  match findObj (keyIndex k) (keySub k) with
  | some o => o.persistent && (o.acc != .ro || factoryObjs.any (fun x => x.index == o.index && x.sub == o.sub))
  | none => false

/-- The registers that a main reset leaves. -/
def keepRegs {α : Type} (s : State) (t : Tbl α) : Tbl α :=
  Tbl.filterK t (fun k => survives k && !(s.dict.factory && factoryClears k))

/-- The dictionary after a main reset: sessions end, and what does not survive reads its default (R57, R68). -/
def resetDict (s : State) : Dict :=
  { regs := keepRegs s s.dict.regs, blobs := keepRegs s s.dict.blobs, sessions := [], paced := [], pace := { level := 1000000, last := s.now }, factory := s.dict.factory }

/-! ## Pools -/

/-- A pool after a stop: what its members and the intent log hold. HBM is lost with its segments, stripes and map; the cut position, the lost list and the reshape come from the log, the table copy from the superblock. -/
def resetPoolSt (s : State) (p : Nat) : State :=
  modPool s p (fun x => { Pool.empty with cutRec := x.cutRec, since := x.since, lost := x.lost, lostStripes := x.lostStripes, table := x.table, custom := x.custom, edited := x.edited, sweep := x.sweep, logless := x.logless
                                          draining := x.draining, reshape := x.reshape.map (fun r => { r with moving := none }) })

/-! ## Parts that lose everything -/

def resetHost (h : HostSt) : HostSt :=
  { fns := [], ports := Tbl.mapV h.ports (fun _ x => { x with vfEnable := false, ready := false }) }

def resetPair (s : State) : PairSt :=
  { link := Link.fresh s.now, enabled := rdB { s with dict := resetDict s } Obj.PAIR_ENABLE 0, joined := false, heard := false, peerSide := 0, peerEpoch := 0, peerSeq := 0, unequal := none, reconAt := none, takeover := none, handover := [], mirWait := [], recWait := [], recs := [], marks := []
    digests := [], settled := [], toSettle := [], dumping := false, faults := [], peerFaults := (0, 0), config := [], synced := [], contest := [] }

/-- Events: sequence values resume above every one issued, the alarm store stays (R581, R190). -/
def resetEvents (e : Events) : Events :=
  { seq := e.reserved, reserved := e.reserved, windows := [], alarms := e.alarms, store := [], held := [], paths := [], rings := [], subs := [], device := [], hist := [] }

/-- Epochs: the staged set is lost (R78). -/
def resetEpoch (e : Epoch) : Epoch :=
  { e with staged := [], change := [], isPair := false, initiator := false, acked := [], thermal := none, revertAs := 0, commitSent := false, reconciling := false, recorded := false }

/-- Pin levels once the rails are off: the outputs of the MAIN domain are high impedance, those of the AUX domain stay (R524, R525). -/
def resetPins (t : Tbl Nat) : Tbl Nat :=
  darkPins (Tbl.getD t 0 1) (Tbl.getD t 1 1)

/-- Pin levels when the MAIN domain rises: its outputs take their values after reset (Table 15-3). -/
def risenPins (t : Tbl Nat) : Tbl Nat :=
  [(0, Tbl.getD t 0 1), (1, Tbl.getD t 1 1), (3, 1), (4, 1)]

/-- Main power-on reset and module reset: everything that Table 16-3 reaches. Start-up goes on from step 3. -/
def mainReset (s : State) : State :=
  let a := forRange 8 (fun p t => resetPoolSt t p) s
  let b := { a with
    bootAt := s.now
    dict := resetDict a
    ep := resetEpoch a.ep
    ev := resetEvents a.ev
    qps := []
    sluice := { buckets := [], wseq := floorOf a Fl.wseq 0, admits := 0, builds := 0, rrQp := 0, rrLeft := 0 }
    host := resetHost a.host
    map := { entries := [], vers := [], leaves := [], hand := 0, image := [] }
    prot := []
    vols := Tbl.mapV a.vols (fun n v => { v with op := resumedOp a.ilog.recs n v.op })
    ilog := { a.ilog with recs := a.ilog.recs.filter LogRec.durable }
    drv := { cmds := [], nextCmd := a.drv.nextCmd, ports := [], jobs := [], nextJob := a.drv.nextJob, shift := 0 }
    key := { a.key with staging := [], owners := [], taken := [] }
    cache := { frames := [], rc := [], fills := [], maint := none, failing := [], runs := [], reload := [] }
    lines := []
    pair := resetPair a
    pack := { a.pack with step := 0, curve := none }
    power := { a.power with gated := false, thermal := [], retry := [], stepped := [], ride := 0, stepDone := true, evFrom := a.ev.reserved, online := [], test := none, refresh := [], hbmDead := [] }
    mgmt := { eid := 0, dynAddr := 0, static := rdN { a with dict := resetDict a } Obj.I3C_STATIC_ADDR 0, asm := [], peer := [], shaking := [], ipv4 := 0 }
    pins := resetPins a.pins }
  let c := forRange 8 (fun p t => if rdN t Obj.POOL_STATE p = Ps.notConfigured then t else wr t Obj.POOL_STATE p (Ps.offline : Nat)) b
  let d := forRange 4 (fun q t => wr t Obj.QUADRANT_DIVIDER_IN_EFFECT q (rd t Obj.QUADRANT_DIVIDER q)) c
  let e := forRange 70 (fun u t => wr t Obj.UNIT_APPLIED_EPOCH u (rd t Obj.EPOCH_CURRENT 0)) d
  let f := forRange 16 (fun i t => if rdN t Obj.CODE_CHECK_STATE i = Ct.checking then wr t Obj.CODE_CHECK_STATE i (Ct.loaded : Nat) else t) e
  noteSlots (wr (wr (wrB (wrB f Obj.PACK_CHARGING 0 false) Obj.LOCKED_BOOT 0 false) Obj.PACK_STATE 0 (Pk.disabled : Nat)) Obj.STARTUP_STEP 0 2)

/-! ## The Cistern's images (R199 to R210) -/

/-- The slots that an image saves: own DIRTY slots, restored ones among them, own COMMITTED slots of an acknowledged atomic write whose ATOMIC record is not durable, and MIRROR slots (R159, R213, Table 05-5). -/
def savedSlots (s : State) : Tbl Slot :=
  s.prot.filter (fun e => e.2.st == .dirty || e.2.st == .mirror || (e.2.st == .committed && e.2.acked && e.2.atomicRef != 0 && !atomicDurable s e.2))

/-- Own slots of an image. -/
def Image.own (x : Image) : Tbl Slot :=
  x.slots.filter (fun e => decide (e.1 < ownSlots))

/-- Mirror slots of an image. -/
def Image.mirror (x : Image) : Tbl Slot :=
  x.slots.filter (fun e => decide (e.1 ≥ ownSlots))

/-- Frames of 64 KiB that hold `n` items, `per` to a frame. -/
def framesFor (n per : Nat) : Nat :=
  (n + per - 1) / per

/-- Data frames of the nine sections of Table 05-5: 512 descriptors, 16 slots or leaves, or 1,024 records to a frame. -/
def Image.counts (x : Image) : List Nat :=
  [1, 1, framesFor x.own.length 512, framesFor x.own.length 16, framesFor x.mirror.length 512, framesFor x.mirror.length 16, framesFor x.recs.length 1024, framesFor x.leaves.length 16, 1]

/-- The first frame of a section, counted from 1: every section before it has its data frames and a section-end frame (R200). -/
def Image.start (x : Image) (sec : Nat) : Nat :=
  ((x.counts.take (sec - 1)).map (fun n => n + 1)).sum

/-- Frames of a complete image. -/
def Image.frames (x : Image) : Nat :=
  x.start 10

/-- The section of a frame, and its number within the section; the number that follows the data frames is the section-end frame. -/
def Image.place (x : Image) (i : Nat) : Nat × Nat :=
  let sec := ((List.range 9).filter (fun n => decide (x.start (n + 1) ≤ i))).length
  (sec, i - x.start sec)

/-- Section `sec` has been written whole, its section-end frame with it, and none of its frames fails its CRC. -/
def Image.sectionOk (x : Image) (bad : List Nat) (sec : Nat) : Bool :=
  decide (x.start (sec + 1) ≤ x.written) && !bad.any (fun i => decide (x.start sec ≤ i ∧ i < x.start (sec + 1)))

/-- A frame was written and its CRC holds. -/
def Image.frameOk (x : Image) (bad : List Nat) (i : Nat) : Bool :=
  decide (i < x.written) && !bad.contains i

/-- The header in a frame's spare area (R199); `crc` covers the frame. -/
structure FrameHdr where
  dump  : Nat
  area  : Nat
  sec   : Nat
  num   : Nat
  crc   : Nat

/-- The 64 KiB of a frame: slots and leaves as they are, 16 to a frame; the spec gives the other sections no byte layout. -/
def Image.frameBytes (x : Image) (i : Nat) : Bytes :=
  let (sec, n) := x.place i
  let part (l : List Bytes) : Bytes := padTo 65536 ((l.drop (16 * n)).take 16).flatten
  if x.counts.getD (sec - 1) 0 = n then padTo 65536 (Config.frameBytes x.num sec n)
  else if sec = 4 then part (x.own.map (fun e => padTo 4096 e.2.data))
  else if sec = 6 then part (x.mirror.map (fun e => padTo 4096 e.2.data))
  else if sec = 8 then part (x.leaves.map (fun e => leafBytes e.2))
  else padTo 65536 (Config.frameBytes x.num sec n)

/-- The header of frame `i` of the image in an area (R199). -/
def Image.frameHdr (x : Image) (area i : Nat) : FrameHdr :=
  { dump := x.num, area := area, sec := (x.place i).1, num := (x.place i).2, crc := crc64 (x.frameBytes i) }

/-- The die that takes frame `i`: the usable dies in rotation (R199). -/
def frameDie (dies i : Nat) : Nat :=
  i % dies

/-- A slot's descriptor and data frames, own or mirror, by its place among them. -/
def Image.slotOk (x : Image) (bad : List Nat) (n : Nat) : Bool :=
  if n < ownSlots then (match x.own.findIdx? (fun e => e.1 == n) with
    | some j => x.frameOk bad (x.start 4 + j / 16)
    | none => false)
  else match x.mirror.findIdx? (fun e => e.1 == n) with
    | some j => x.frameOk bad (x.start 5 + j / 512) && x.frameOk bad (x.start 6 + j / 16)
    | none => false

/-- The items of a section whose frame was written and holds. -/
def Image.kept {α : Type} (x : Image) (bad : List Nat) (sec per : Nat) (l : List α) : List α :=
  ((List.range l.length).zip l |>.filter (fun e => x.frameOk bad (x.start sec + e.1 / per))).map Prod.snd

/-- The leaf budget in bytes (R205). -/
def leafBudget (s : State) : Nat :=
  min (1073741824 * rdN s Obj.CISTERN_LEAF_TAIL_MAX 0) (energyBytes s - rdN s Obj.OWN_DIRTY_BYTES 0 - rdN s Obj.MIRROR_HELD_BYTES 0)

/-- An entry as an image's leaf carries it: PROTECTED while the image holds the slot, else what the slot recorded (R154). -/
def imageEntry (s : State) (e : Entry) : Entry :=
  match e with
  | .prot m => if (Tbl.get (savedSlots s) m).isSome then e else mediaEntry s e (s.prot.length + 2)
  | _ => e

/-- The dirty leaves written: the lowest pages, within pools in pool order, until the budget is used (R205). -/
def savedLeaves (s : State) : List (Nat × List Entry) :=
  (((List.range 8).flatMap (fun p => dirtyLeaves s p)).take (leafBudget s / 4096)).map (fun k =>
    (k, (List.range 512).map (fun i => imageEntry s (entryOfGrain s (k / 2 ^ 31 * 2 ^ 40 + k % 2 ^ 31 * 512 + i)))))

/-- Every host-class stripe that is open or destaging (Table 05-5). -/
def savedStripes (s : State) : List OpenStripe :=
  (List.range 8).flatMap (fun p => ((poolOf s p).stripes.filter (fun e => e.2.cls == Cls.host)).map (fun e =>
    { pool := p, id := e.1, seg := e.2.seg, first := e.2.first, rows := e.2.pos.length / (match Tbl.get (poolOf s p).segs e.2.seg with
        | some g => max 1 g.k
        | none => 1) }))

/-- The image that a dump begins to write. -/
def newImage (s : State) (cause : Nat) : Image :=
  let x : Image :=
    { num := s.power.dumps + 1, cause := cause, slots := savedSlots s, serial := serialNumber, epochs := (rdN s Obj.EPOCH_CURRENT 0, rdN s Obj.EPOCH_PAIR_CURRENT 0), head := s.ilog.nextSeq, planned := [], stripes := savedStripes s
      recs := s.pair.recs, leaves := savedLeaves s, written := 0 }
  { x with planned := (x.counts.drop 1 |>.take 7).map (fun n => 65536 * n) }

/-- The image area that the next dump writes. -/
def nextArea (s : State) : Option Image :=
  if s.power.next then s.power.imgB else s.power.imgA

/-- Change Power Sentry's state. -/
def modPower (s : State) (f : PowerSt → PowerSt) : State :=
  { s with power := f s.power }

/-- Change the image under way. -/
def setArea (s : State) (x : Option Image) : State :=
  modPower s (fun y => if y.next then { y with imgB := x } else { y with imgA := x })

/-- The images held in the two areas. -/
def images (s : State) : List Image :=
  [s.power.imgA, s.power.imgB].filterMap (fun x => x)

/-- The image to restore: newer than the last consumed one, its HEADER valid, of this module's serial, with the highest dump number (R207, Table 05-6). Bad frames are those of the newest image written, and of the other one. -/
def newestImage (s : State) (bad badOld : List Nat) : Option Image :=
  let last := ((images s).map Image.num).foldl max 0
  leastBy (fun (x : Image) => 2 ^ 64 - x.num) ((images s).filter (fun x =>
    decide (s.power.consumed < x.num) && x.frameOk (if x.num = last then bad else badOld) 0 && x.serial == serialNumber))

/-- The other held image beside one (R208). -/
def olderImage (s : State) (n : Nat) : Option Image :=
  (images s).find? (fun x => x.num != n)

/-- A slot from an image, as it goes back to the protected region (R209). -/
def restoredSlot (x : Slot) : Slot :=
  { x with st := if x.st = .committed then .dirty else x.st, restored := true, qp := 8192, tag := 0, sector := 0, mirrored := true, recAcked := true, mappedAt := none }

/-- An acknowledged own slot of an image that cannot be restored is lost (R208). -/
def lostSlot (n : Nat) (x : Slot) (s : State) : State :=
  if n < ownSlots ∧ x.acked then bump (addLost (loseGrain s x.pool x.md.vol (grainKey s x.md.vol x.md.lba)) x.pool x.md.vol x.md.lba Lr.cistern) Obj.CISTERN_SLOTS_LOST 0 1 else s

/-- Place a slot of an image back; one whose data frame is missing or bad comes from the other held image if that has the same sector with the same WRITE_SEQ, else an acknowledged own one is lost (R208). -/
def restoreSlot (img : Image) (old : Option Image) (bad badOld : List Nat) (n : Nat) (x : Slot) (s : State) : State :=
  if img.slotOk bad n then { s with prot := Tbl.set s.prot n (restoredSlot x) }
  else match old.bind (fun y => if y.slotOk badOld n then Tbl.get y.slots n else none) with
    | some z =>
      if z.md.vol = x.md.vol ∧ z.md.lba = x.md.lba ∧ z.md.wseq = x.md.wseq then { s with prot := Tbl.set s.prot n (restoredSlot { x with data := z.data, md := z.md }) }
      else lostSlot n x s
    | none => lostSlot n x s

/-- What an image leaf's entry says before use: a PROTECTED one gives way to the entry that its slot's descriptor recorded (R154, R207). -/
def leafEntry (slots : Tbl Slot) (e : Entry) : Nat → Entry
  | 0 => .unmapped
  | n + 1 => match e with
    | .prot m => match Tbl.get slots m with
      | some x => leafEntry slots x.prev n
      | none => .unmapped
    | x => x

/-- Restore from an image whose OWN_DESCRIPTORS is usable: own slots, mirror slots, mirrored records and leaves, as far as their frames go (R207). -/
def restoreImage (s : State) (img : Image) (bad badOld : List Nat) : State :=
  let old := if rdB s Obj.CISTERN_IMAGE_HELD 0 then olderImage s img.num else none
  let a := forEach img.slots (fun e t => restoreSlot img old bad badOld e.1 e.2 t) s
  let b := { a with pair := { a.pair with recs := img.kept bad 7 1024 img.recs }
                    map := { a.map with image := (img.kept bad 8 16 img.leaves).foldl (fun t e => Tbl.set t e.1 (e.2.map (fun x => leafEntry img.slots x (img.slots.length + 1)))) [] } }
  noteSlots (forRange 8 (fun p t => noteRestored t p) b)

/-- Every frame of an image was written and none is bad. -/
def imageWhole (x : Image) (bad : List Nat) : Bool :=
  decide (x.written ≥ x.frames) && !bad.any (fun i => decide (i < x.frames))

end Sys2Proof.Machine
end

