-- ==== Sys2Proof/Machine/Power.lean ====
section
/-! DEFINITION. Power Sentry, dumps, stops without a dump, clocks and thermal limits (R202 to R212, R526 to R549). -/

namespace Sys2Proof.Machine

open Sys2Proof

/-! Values of PS_LAST_STOP_CAUSE (Table 15-18) and BOOT_LAST_RESET_KIND (Table 16-9). -/

def Sc.rideThroughExpired : Nat := 1
def Sc.acfail : Nat := 2
def Sc.inputCollapse : Nat := 3
def Sc.auxLoss : Nat := 4
def Sc.thermalDump : Nat := 5
def Sc.thermalTrip : Nat := 6
def Sc.railFault : Nat := 7
def Sc.pll : Nat := 8
def Sc.other : Nat := 9
def Rk.auxPowerOn : Nat := 0
def Rk.mainPowerOn : Nat := 1
def Rk.resetPin : Nat := 2
def Rk.deviceReset : Nat := 3
def Rk.watchdog : Nat := 4
def Rk.pllFallback : Nat := 5

/-- Go to a state of Table 15-8; PS_STATE reports it. -/
def setPs (s : State) (m : PsMode) : State :=
  wr (modPower s (fun x => { x with mode := m })) Obj.PS_STATE 0 (match m with
    | .rideThrough => 1
    | .dumping => 2
    | _ => 0)

/-- The module runs: RUNNING or RIDE_THROUGH. -/
def running (s : State) : Bool :=
  s.power.mode == .running || s.power.mode == .rideThrough

/-- A bit of INPUT_LEVELS (Table 15-18). -/
def setLevel (s : State) (bit : Nat) (high : Bool) : State :=
  wr s Obj.INPUT_LEVELS 0 (withBit (rdN s Obj.INPUT_LEVELS 0) bit high : Nat)

/-! ## Starting and stopping the rails -/

/-- Start-up step 3 begins once P12V is in range with AUX up for 10 ms, step 2 is done, RESET_N is released and no trip is latched (R530, R560). -/
def tryStart (s : State) : State :=
  if s.power.mode = .standby ∧ s.power.p12v ∧ s.power.aux ∧ !s.power.resetN ∧ !s.power.tripped ∧ s.power.stepDone ∧ rdN s Obj.STARTUP_STEP 0 = 2 then
    wr (modPower s (fun x => { x with stepDone := false })) Obj.STARTUP_STEP 0 3
  else s

/-- SRAM key slots are lost with P3V3_AUX: a slot that held keys is ZEROIZED (R456). -/
def loseKeys (s : State) : State :=
  forRange 4096 (fun k t => if keyState t k = Ks.empty then t else wr (wr t Obj.KEY_STATE k (Ks.zeroized : Nat)) Obj.KEY_PRESENT k 0) { s with key := { s.key with keys := [] } }

/-- Objects of the always-on domain and counts of the intent log that are not persistent: they take their defaults with P3V3_AUX (R57, Table 16-3). -/
def auxClears (k : Nat) : Bool :=
  [Obj.ILOG_PRESSURE_HOLDS, Obj.ILOG_ECC_CORRECTED].any (fun o => o.index == keyIndex k && o.sub == keySub k) ||
  ([0x1810, 0x1840, 0x1920, 0x1930].contains (keyIndex k) && (match findObj (keyIndex k) (keySub k) with
    | some o => !o.persistent
    | none => false))

/-- The always-on domain's dictionary objects lose their values. -/
def auxDict (s : State) : State :=
  { s with dict := { s.dict with regs := Tbl.filterK s.dict.regs (fun k => !auxClears k), blobs := Tbl.filterK s.dict.blobs (fun k => !auxClears k) } }

/-- P3V3_AUX is gone with the rails off: the always-on domain loses its state (Table 16-3). -/
def auxOff (s : State) : State :=
  setPs (modPower (auxDict (loseKeys s)) (fun x => { x with aux := false, tripped := false, stepDone := false })) .off

/-- The rails go off: PWR_GOOD_O falls and everything of the main domain is lost (Table 16-3). -/
def railsOff (s : State) (kind : Nat) (m : PsMode) : State :=
  let t := modPower (mainReset (drive s .powerGood false)) (fun x => { x with kind := kind })
  if t.power.aux then setPs t m else auxOff t

/-- THERM_ALERT_N. -/
def thermAlert (s : State) (on : Bool) : State :=
  wrB (drive s .thermAlert (!on)) Obj.THERM_ALERT_ACTIVE 0 on

/-! ## Dumps (R202 to R206) -/

/-- An epoch that a dump meets: one whose record is written stands in epoch N + 1, any other reverts at once (Table 02-10). -/
def dumpEpoch (s : State) : State :=
  if epochState s = Es.idle then s
  else if epochState s = Es.committing ∧ s.ep.recorded then completeEpoch s
  else toIdle s Er.dump

/-- Quiesce: the partner is told and the Culvert goes idle, PAIR_ALIVE_O stops, epochs end, host links drop, the Sluice closes, member writes are abandoned, every slice writes its dirty lines back (R478), and every quadrant runs at ÷4 (R418, R536, Table 05-5). -/
def quiesce (s : State) : State :=
  let a := dumpEpoch s
  let b := if a.pair.enabled ∧ culvertUp a then sendMsg a .dumping else a
  let c := drive b .pairAlive false
  let d := { cleanLines c (fun _ => true) with qps := [], host := resetHost c.host, drv := { c.drv with cmds := [], ports := [], jobs := [] }, cache := { c.cache with maint := none, fills := [] }, pair := { c.pair with enabled := false, joined := false, heard := false, takeover := none, link := Link.fresh s.now } }
  forRange 4 (fun q t => wr t Obj.QUADRANT_DIVIDER_IN_EFFECT q 4) (packSag (wr (wr d Obj.CULVERT_STATE 0 0) Obj.CULVERT_BUNDLES_UP 0 0))

/-- A dump has ended: the rails go off; a thermal dump leaves the module HALTED with THERM_ALERT_N low (Table 15-8, R547). -/
def dumpOver (s : State) : State :=
  let k := s.power.kind
  if rdN s Obj.PS_LAST_STOP_CAUSE 0 = Sc.thermalDump then thermAlert (railsOff s k .halted) true else railsOff s k .standby

/-- Every pool is OFFLINE or not configured (R572). -/
def poolsOff (s : State) : Bool :=
  (List.range 8).all (fun p => rdN s Obj.POOL_STATE p == Ps.offline || rdN s Obj.POOL_STATE p == Ps.notConfigured)

/-- A dump begins with a cause; the reset kind is what follows it. With nothing to save it is empty and over at once (R203). Before step 8 has completed no dump runs, and the stop mark of the stop before is kept (R561). -/
def startDump (s : State) (cause kind : Nat) : State :=
  if !running s then s
  else
    let a := modPower (wr s Obj.PS_LAST_STOP_CAUSE 0 cause) (fun x => { x with kind := kind, dumpAt := s.now, mark := if rdN s Obj.STARTUP_STEP 0 ≤ 8 then x.mark else none })
    if rdN a Obj.STARTUP_STEP 0 ≤ 8 then railsOff a kind .standby
    else if !ackedDirty a then dumpOver (quiesce (modPower a (fun x => { x with started := true, ended := true, clean := true, empty := true })))
    else
      let st := rdN a Obj.CISTERN_STATE 0
      let b := quiesce (setPs (modPower a (fun x => { x with started := true, ended := false, clean := poolsOff s, empty := false })) .dumping)
      if st = Cs.armed ∨ st = Cs.notReady then
        bump (wr (wr (setArea (modPower b (fun x => { x with dumps := x.dumps + 1 })) (some (newImage a cause))) Obj.CISTERN_STATE 0 (Cs.dumping : Nat)) Obj.CISTERN_ERASED_BYTES 0 0) Obj.CISTERN_DUMPS 0 1
      else setArea b none

/-- The image under way stands at so many frames; the next dump then writes the other area if it is complete (R199). -/
def leaveImage (s : State) (frames : Nat) : State :=
  match nextArea s with
  | none => s
  | some x =>
    let y := { x with written := min frames x.frames }
    modPower (setArea s (some y)) (fun z => { z with next := if y.written = y.frames then !z.next else z.next })

/-- Bytes of an image's data sections. -/
def imageBytes (x : Image) : Nat :=
  4096 * (x.slots.length + x.leaves.length)

/-- DUMP_END: the TRAILER has been read back; DUMP_END is written if P3V3_AUX is present, and the rails go off (R204, R532). -/
def execDumpEnd (s : State) : Host.Outcome State Fault Refusal :=
  .next (
    if s.power.mode = .dumping then
      match nextArea s with
      | some x =>
        let a := wr (wr s Obj.CISTERN_LAST_DUMP_MS 0 (((s.now - s.power.dumpAt) / 1000 : Nat) : Int)) Obj.CISTERN_LAST_DUMP_BYTES 0 (imageBytes x : Nat)
        dumpOver (modPower (leaveImage a x.frames) (fun y => { y with ended := y.aux }))
      | none => dumpOver s
    else s)

/-! ## The input (R533 to R535) -/

/-- Ride-through time so far, in µs. -/
def rideTime (s : State) : Nat :=
  s.power.ride + (if s.power.mode = .rideThrough then s.now - s.power.sagAt else 0)

/-- PS_LONGEST_RIDE follows. -/
def noteRide (s : State) : State :=
  wr s Obj.PS_LONGEST_RIDE 0 ((max (rdN s Obj.PS_LONGEST_RIDE 0) (rideTime s) : Nat) : Int)

/-- P12V_SAG: a sag begins ride-through; charging and impedance measurement stop (R533, R534). During a dump it changes nothing but the input. -/
def execP12vSag (s : State) : Host.Outcome State Fault Refusal :=
  .next (
    let a := modPower s (fun x => { x with p12v := false })
    if s.power.mode = .running then packSag (bump (setPs (modPower a (fun x => { x with sagAt := s.now })) .rideThrough) Obj.PS_SAG_EVENTS 0 1) else a)

/-- P12V_RETURNED: the input has returned; the accumulated time is held (R534). -/
def execP12vReturned (s : State) : Host.Outcome State Fault Refusal :=
  .next (
    if s.power.mode = .rideThrough then
      noteCharge (setPs (modPower (noteRide s) (fun x => { x with p12v := true, ride := rideTime s })) .running)
    else modPower s (fun x => { x with p12v := true }))

/-- P12V_TRANSIENT: a dip that recovers within 10 µs is counted (R533). -/
def execP12vTransient (s : State) : Host.Outcome State Fault Refusal :=
  .next (bump s Obj.PS_TRANSIENTS 0 1)

/-- RIDE_THROUGH_CLEAR: the input has stayed returned for 1 s (R534). -/
def execRideThroughClear (s : State) : Host.Outcome State Fault Refusal :=
  .next (if s.power.mode = .running then modPower s (fun x => { x with ride := 0 }) else s)

/-- RIDE_THROUGH_EXPIRY: the accumulated time reaches PS_RIDE_THROUGH_WINDOW and a dump starts (R535). -/
def execRideThroughExpiry (s : State) : Host.Outcome State Fault Refusal :=
  .next (if s.power.mode = .rideThrough then startDump (noteRide s) Sc.rideThroughExpired Rk.mainPowerOn else s)

/-- ACFAIL_EXPIRY: ACFAIL_N has been asserted for more than 2 ms and a dump starts (R535). -/
def execAcfailExpiry (s : State) : Host.Outcome State Fault Refusal :=
  .next (startDump (setLevel s 1 false) Sc.acfail Rk.mainPowerOn)

/-- ACFAIL_RELEASE: an assertion of 2 ms or less is counted; the end of a longer one is not (R535). -/
def execAcfailRelease (s : State) : Host.Outcome State Fault Refusal :=
  .next (
    let a := setLevel s 1 true
    if s.power.mode = .dumping ∨ !bitAt (rdN s Obj.INPUT_LEVELS 0) 1 then a else bump a Obj.PS_ACFAIL_EVENTS 0 1)

/-- INPUT_COLLAPSE: the module's input rail falls below 5.0 V and a dump starts (R535). During a dump it is the end of energy: the image stays partial, with `written` frames (R206). -/
def execInputCollapse (written : Nat) (s : State) : Host.Outcome State Fault Refusal :=
  .next (
    let a := modPower s (fun x => { x with p12v := false })
    if s.power.mode = .dumping then dumpOver (leaveImage a written)
    else startDump a Sc.inputCollapse Rk.mainPowerOn)

/-- P12V_IN_RANGE: P12V is in range; with AUX up the regulators are sequenced (R530). -/
def execP12vInRange (s : State) : Host.Outcome State Fault Refusal :=
  .next (tryStart (modPower s (fun x => { x with p12v := true, kind := if x.mode = .standby ∧ x.kind ≠ Rk.auxPowerOn ∧ !x.p12v then Rk.mainPowerOn else x.kind })))

/-- RAILS_OFF_TIMEOUT: the rails have been off for 10 ms after a dump with power present; start-up runs (R204, R559). -/
def execRailsOffTimeout (s : State) : Host.Outcome State Fault Refusal :=
  .next (tryStart s)

/-- P3V3_AUX_RISE: P3V3_AUX rises above 3.0 V: the always-on domain starts and PAIR_SIDE is sampled; the tamper latch starts from its inputs, and the pack's coulomb history is gone (R526, R463, R520, Table 16-3). -/
def execP3v3AuxRise (side : Nat) (s : State) : Host.Outcome State Fault Refusal :=
  .next (
    if s.power.mode = .off then
      let a := setPs (modPower s (fun x => { x with aux := true, kind := Rk.auxPowerOn, stepDone := false, auxAt := s.now })) .standby
      let latch := (if s.key.enclosure ∧ rdB s Obj.TAMPER_ENCLOSURE_ENABLE 0 then 1 else 0) + (if s.key.mesh then 2 else 0)
      let b := wr (wr (wr (setLevel a 4 (side != 0)) Obj.PAIR_SIDE 0 ((if side = 0 then 0 else 1 : Nat) : Int)) Obj.TAMPER_LATCH 0 (latch : Nat)) Obj.TAMPER_LAST_PHASE 0 0
      let c := modPack b (fun x => { x with charge := 0, curve := none, soc := 0, socAt := 0, rest := none, needRest := true, sampleAt := s.now, ntc := 0 })
      wr { c with bootAt := s.now, pins := darkPins 1 1 } Obj.STARTUP_STEP 0 1
    else s)

/-- P3V3_AUX_LOSS: with the rails up a dump starts with cause AUX_LOSS, and DUMP_END cannot be written; with the rails off the module is OFF (R532, Table 15-8). -/
def execP3v3AuxLoss (s : State) : Host.Outcome State Fault Refusal :=
  .next (
    let a := modPower s (fun x => { x with aux := false })
    if running s then startDump a Sc.auxLoss Rk.auxPowerOn
    else if s.power.mode = .dumping ∨ s.power.mode = .off then a
    else auxOff (if rdN s Obj.STARTUP_STEP 0 ≥ 3 then mainReset a else a))

/-! ## Stops without a dump (R212, R548) -/

/-- The stop mark says that acknowledged dirty data existed (R212). -/
def markedLost (s : State) : Bool :=
  match s.power.mark with
  | some (_, d) => d
  | none => false

/-- The rails go off within 10 µs: the stop mark records the cause and ACKED_DIRTY, the trip is latched, the module is HALTED. A dump under way leaves its image with `written` frames, and is no stop without a dump. Before step 8 has completed the last stop is not settled yet, and what its mark says stays (R561). -/
def tripStop (s : State) (cause written : Nat) : State :=
  let a := if s.power.mode = .dumping then leaveImage s written else s
  let early := decide (rdN s Obj.STARTUP_STEP 0 ≤ 8)
  let lost := ackedDirty s || (early && markedLost s)
  let b := modPower (wr a Obj.PS_LAST_STOP_CAUSE 0 cause) (fun x => { x with mark := if s.power.mode = .dumping then none else some (cause, lost), tripped := true, clean := if early then x.clean else poolsOff s || !ackedDirty s })
  railsOff (raiseOpen b (ev 0x0E 548) .alarm Src.device 0) Rk.resetPin .halted

/-- The rails are up. -/
def railsUp (s : State) : Bool :=
  running s || s.power.mode == .dumping

/-- RAIL_FAULT (R548). -/
def execRailFault (written : Nat) (s : State) : Host.Outcome State Fault Refusal :=
  .next (if railsUp s then tripStop s Sc.railFault written else s)

/-- JUNCTION_TEMP and its peak. -/
def noteJunction (s : State) (temp : Int) : State :=
  wr (wr s Obj.JUNCTION_TEMP 0 temp) Obj.JUNCTION_TEMP_PEAK 0 (max temp (rd s Obj.JUNCTION_TEMP_PEAK 0))

/-- THERMAL_TRIP: a sensor reaches THERM_TRIP_TEMP (R546). -/
def execThermalTrip (temp : Int) (written : Nat) (s : State) : Host.Outcome State Fault Refusal :=
  .next (
    let a := noteJunction s temp
    if railsUp s then thermAlert (tripStop (bump a Obj.THERM_TRIPS 0 1) Sc.thermalTrip written) true else a)

/-- THERMAL_DUMP: a sensor has stood at THERM_DUMP_TEMP for 10 ms (R546). -/
def execThermalDump (temp : Int) (s : State) : Host.Outcome State Fault Refusal :=
  .next (startDump (noteJunction s temp) Sc.thermalDump Rk.mainPowerOn)

/-- THERM_ALERT: a sensor reaches THERM_ALERT_TEMP; THERM_ALERT_N is low, with an ERROR event (R547). -/
def execThermAlert (temp : Int) (s : State) : Host.Outcome State Fault Refusal :=
  .next (
    let a := noteJunction s temp
    if running s ∧ !rdB s Obj.THERM_ALERT_ACTIVE 0 then raiseOpen (thermAlert a true) (ev 0x0E 546) .error Src.device 0 else a)

/-- THERM_ALERT_RELEASE: every sensor has been 5 °C below THERM_ALERT_TEMP for 1 s; in HALTED the line is held (R547). -/
def execThermAlertRelease (temp : Int) (s : State) : Host.Outcome State Fault Refusal :=
  .next (
    let a := noteJunction s temp
    if s.power.mode = .halted ∨ !rdB s Obj.THERM_ALERT_ACTIVE 0 then a else thermAlert a false)

/-! ## Thermal epochs (R543, R544) -/

/-- Begin the first waiting thermal epoch once no epoch runs and start-up is complete; it carries the quadrant's divider in effect only. -/
def tryThermal (s : State) : State :=
  match s.power.thermal with
  | [] => s
  | (q, d) :: r =>
    if epochState s = Es.idle ∧ rdN s Obj.STARTUP_STEP 0 ≥ 11 ∧ running s then
      let t := startEpoch (modPower s (fun x => { x with thermal := r })) [{ key := objKey Obj.QUADRANT_DIVIDER_IN_EFFECT.index q Obj.QUADRANT_DIVIDER_IN_EFFECT.sub, val := .num d, pair := false }] false true
      modEp t (fun x => { x with thermal := some (q, d) })
    else s

/-- A thermal step of a quadrant waits, runs, or waits for its retry. -/
def stepPending (s : State) (q : Nat) : Bool :=
  (s.power.thermal ++ s.power.retry).any (fun x => x.1 == q) || (match s.ep.thermal with
    | some x => x.1 == q
    | none => false)

/-- QUADRANT_STEP_DOWN: a limit is crossed; the quadrant steps one point by a thermal epoch, at most once per 100 ms, and at ÷4 it is gated instead (R543). -/
def execQuadrantStepDown (q : Nat) (temp : Int) (s : State) : Host.Outcome State Fault Refusal :=
  .next (
    if q ≥ 4 then s
    else
      let a := wr s Obj.QUADRANT_TEMPERATURE q temp
      let d := rdN s Obj.QUADRANT_DIVIDER_IN_EFFECT q
      let early : Bool := match Tbl.get s.power.stepped q with
        | some t => decide (s.now < t + 100000)
        | none => false
      if !running s ∨ stepPending s q ∨ early then a
      else if d ≥ 4 then wrB a Obj.QUADRANT_GATED q true
      else tryThermal (modPower a (fun x => { x with thermal := x.thermal ++ [(q, 2 * d)], stepped := Tbl.set x.stepped q s.now })))

/-- THERMAL_EPOCH_RETRY: 1 ms after it reverted a thermal epoch is tried again (R543). -/
def execThermalEpochRetry (s : State) : Host.Outcome State Fault Refusal :=
  .next (tryThermal (modPower s (fun x => { x with thermal := x.thermal ++ x.retry, retry := [] })))

/-- QUADRANT_RETURN: cool conditions have held for 10 s; gating ends, or the quadrant goes one point back towards its configured divider by thermal epoch (R544). -/
def execQuadrantReturn (q : Nat) (temp : Int) (s : State) : Host.Outcome State Fault Refusal :=
  .next (
    if q ≥ 4 then s
    else
      let a := wr s Obj.QUADRANT_TEMPERATURE q temp
      let d := rdN s Obj.QUADRANT_DIVIDER_IN_EFFECT q
      if !running s ∨ stepPending s q then a
      else if rdB s Obj.QUADRANT_GATED q then wrB a Obj.QUADRANT_GATED q false
      else if d > rdN s Obj.QUADRANT_DIVIDER q then tryThermal (modPower a (fun x => { x with thermal := x.thermal ++ [(q, d / 2)] }))
      else a)

/-! ## PLL_MAIN (R538) -/

/-- PLL_LOCK_LOSS: derived clocks are gated with all state held (R538). -/
def execPllLockLoss (s : State) : Host.Outcome State Fault Refusal :=
  .next (if rdB s Obj.PLL_MAIN_LOCKED 0 then bump (wrB (modPower s (fun x => { x with gated := true })) Obj.PLL_MAIN_LOCKED 0 false) Obj.PLL_LOCK_LOSSES 0 1 else s)

/-- PLL_RELOCK: work resumes where it stopped (R538). -/
def execPllRelock (s : State) : Host.Outcome State Fault Refusal :=
  .next (if rdB s Obj.PLL_MAIN_LOCKED 0 then s else wrB (modPower s (fun x => { x with gated := false })) Obj.PLL_MAIN_LOCKED 0 true)

/-- PLL_FALLBACK: no relock within 200 µs; PLL_MAIN restarts at half rate and a dump starts with cause PLL (R538). -/
def execPllFallback (s : State) : Host.Outcome State Fault Refusal :=
  .next (
    if rdB s Obj.PLL_MAIN_LOCKED 0 then s
    else startDump (wrB (wrB (modPower s (fun x => { x with gated := false })) Obj.PLL_MAIN_LOCKED 0 true) Obj.PLL_FALLBACK 0 true) Sc.pll Rk.pllFallback)

/-! ## Resets (R559 to R562) -/

/-- A module reset: a dump first, once step 8 has completed; in start-up before that the rails go off at once (R559, R561). During a dump it changes nothing. -/
def moduleReset (s : State) (kind : Nat) : State :=
  if running s then startDump s Sc.other kind
  else if s.power.mode = .standby ∧ rdN s Obj.STARTUP_STEP 0 ≥ 3 then railsOff s kind .standby
  else s

/-- RESET_N while HALTED and cool clears the latch (Table 15-8). -/
def clearTrip (s : State) (cool : Bool) : State :=
  if s.power.mode = .halted ∧ cool then
    thermAlert (setPs (modPower s (fun x => { x with tripped := false })) .standby) false
  else s

/-- RESET_N_ASSERT: a module reset with its dump; in HALTED below 85 °C (`cool`) it clears the latch (R559, R560). -/
def execResetNAssert (cool : Bool) (s : State) : Host.Outcome State Fault Refusal :=
  .next (
    let a := setLevel (modPower s (fun x => { x with resetN := true })) 0 false
    if s.power.mode = .halted then clearTrip a cool else moduleReset a Rk.resetPin)

/-- EXTEST, CLAMP and HIGHZ act as BYPASS once RESET_N is released (R571). -/
def boundaryOff (j : JtagOp) : JtagOp :=
  match j with
  | .extest => .bypass
  | .clamp => .bypass
  | .highz => .bypass
  | x => x

/-- RESET_N_RELEASE: start-up step 3 begins (R560). -/
def execResetNRelease (cool : Bool) (s : State) : Host.Outcome State Fault Refusal :=
  .next (tryStart (setLevel (modPower (if s.power.resetN then clearTrip s cool else s) (fun x => { x with resetN := false, jtag := boundaryOff x.jtag })) 0 true))

/-- WATCHDOG_EXPIRY: a module reset; in start-up steps 5 to 7 it counts against the firmware slot (R562, R554). -/
def execWatchdogExpiry (s : State) : Host.Outcome State Fault Refusal :=
  .next (
    let n := rdN s Obj.STARTUP_STEP 0
    moduleReset (if 5 ≤ n ∧ n ≤ 7 then modPower s (fun x => { x with attempts := x.attempts + 1 }) else s) Rk.watchdog)

/-- A write of DEVICE_RESET: its result, and the state after. -/
def deviceReset (s : State) (v : Nat) : Nat × State :=
  if v = 0x9640B007 then (Rs.ok, moduleReset s Rk.deviceReset) else (Rs.range, s)

/-- DEVICE_RESET (R559). -/
def execDeviceReset (v : Nat) (s : State) : Host.Outcome State Fault Refusal :=
  .next (deviceReset s v).2

end Sys2Proof.Machine
end

