-- ==== Sys2Proof/Machine/Maint.lean ====
section
/-! DEFINITION. The cache maintenance engine, lock ranges, ways and HBM stacks (R473, R474, R487 to R499). -/

namespace Sys2Proof.Machine

open Sys2Proof

/-! Values of CACHE_MAINT_OP (Table 13-4). -/

def Mo.invalidateRange : Nat := 1
def Mo.invalidateVolume : Nat := 2
def Mo.invalidateAll : Nat := 3
def Mo.cleanLines : Nat := 4
def Mo.preload : Nat := 5
def Mo.unlock : Nat := 6
def Mo.wayChange : Nat := 7

/-- Change the maintenance operation that runs. -/
def modMaint (s : State) (f : Maint → Maint) : State :=
  { s with cache := { s.cache with maint := s.cache.maint.map f } }

/-- An operation starts (R491). -/
def startMaint (s : State) (m : Maint) : State :=
  wr (wr (wrB { s with cache := { s.cache with maint := some { m with paused := epochState s != Es.idle } } } Obj.CACHE_MAINT_BUSY 0 true) Obj.CACHE_MAINT_RUNNING 0 (m.op : Nat)) Obj.CACHE_MAINT_PROGRESS 0 0

/-- An operation without a scope. -/
def Maint.ofOp (op total : Nat) : Maint :=
  { op := op, vol := 0, slba := 0, nlb := 0, range := 0, next := 0, total := total, ways := [], tests := [], paused := false }

/-- Begin PRELOAD on a range (R487). -/
def startPreload (s : State) (r : Nat) : State :=
  let n := rdN s Obj.LOCK_NLB r
  let t := wr (wr s Obj.LOCK_STATE r 1) Obj.LOCK_SECTORS_SKIPPED r 0
  startMaint { t with cache := { t.cache with reload := t.cache.reload.filter (fun x => x != r) } }
    { Maint.ofOp Mo.preload n with vol := rdN s Obj.LOCK_VOLUME r, slba := rdN s Obj.LOCK_SLBA r, nlb := n, range := r }

/-- The next range that is to be preloaded again starts once the engine is free (R490, R494). -/
def startReload (s : State) : State :=
  match s.cache.maint, s.cache.reload with
  | none, r :: _ => startPreload s r
  | _, _ => s

/-- An operation ends with its result. -/
def endMaint (s : State) (result : Nat) : State :=
  startReload (wr (wr (wr (wrB { s with cache := { s.cache with maint := none } } Obj.CACHE_MAINT_BUSY 0 false) Obj.CACHE_MAINT_RUNNING 0 0) Obj.CACHE_MAINT_RESULT 0 result) Obj.CACHE_MAINT_PROGRESS 0 100)

/-! ## Invalidation and cleaning (R491, R492) -/

/-- A volume exists. -/
def volumeThere (s : State) (v : Nat) : Bool :=
  (existing s).contains v

/-- What a write of CACHE_MAINT_OP meets and does: BUSY while an operation runs, REFUSED_VOLUME as its result where the volume does not exist. -/
def maintOp (s : State) (op : Nat) : Nat × State :=
  let v := rdN s Obj.CACHE_MAINT_VOLUME 0
  if s.cache.maint.isSome then (Rs.busy, s)
  else if (op = Mo.invalidateRange ∨ op = Mo.invalidateVolume) ∧ !volumeThere s v then (Rs.ok, wr s Obj.CACHE_MAINT_RESULT 0 2)
  else (Rs.ok, startMaint s { Maint.ofOp op (if op = Mo.cleanLines then 16384 else 512) with vol := v, slba := rdN s Obj.CACHE_MAINT_SLBA 0, nlb := rdN s Obj.CACHE_MAINT_NLB 0 })

/-- INVALIDATE_RANGE (R492). -/
def execInvalidateRange (s : State) : Host.Outcome State Fault Refusal :=
  .next (maintOp s Mo.invalidateRange).2

/-- INVALIDATE_VOLUME (R492). -/
def execInvalidateVolume (s : State) : Host.Outcome State Fault Refusal :=
  .next (maintOp s Mo.invalidateVolume).2

/-- INVALIDATE_ALL (R492). -/
def execInvalidateAll (s : State) : Host.Outcome State Fault Refusal :=
  .next (maintOp s Mo.invalidateAll).2

/-- CLEAN_LINES (R491). -/
def execCleanLines (s : State) : Host.Outcome State Fault Refusal :=
  .next (maintOp s Mo.cleanLines).2

/-- A frame lies in the scope of an invalidation. -/
def inScope (m : Maint) (f : Frame) : Bool :=
  if m.op = Mo.invalidateAll then true
  else m.vol == f.vol && (m.op == Mo.invalidateVolume || decide (m.slba ≤ f.lba ∧ f.lba < m.slba + m.nlb))

/-- Invalidate the unlocked frames in scope of frame set `i` of every slice; one with readers goes once they have finished (R482, R492). -/
def invalidateSet (s : State) (m : Maint) (i : Nat) : State :=
  noteFrames { s with cache := { s.cache with frames := s.cache.frames.filterMap (fun e =>
    if e.1 / 16 % 512 = i ∧ !e.2.locked ∧ e.2.st ≠ 1 ∧ inScope m e.2 then (if frameReaders s e.1 then some (e.1, { e.2 with st := 3 }) else none) else some e) } }

/-! ## Lock ranges (R487) -/

/-- Locked frames of a set, and the most it may hold: CACHE_LOCK_WAYS_MAX, and two fewer than its frame ways. -/
def lockedIn (s : State) (set : Nat) : Nat :=
  (s.cache.frames.filter (fun e => decide (e.1 / 16 = set) && e.2.locked)).length

def lockMost (s : State) (sl : Nat) : Nat :=
  min (rdN s Obj.CACHE_LOCK_WAYS_MAX 0) ((frameWays s sl).length - 2)

/-- A preload sector's read or decode is outstanding. -/
def preloading (s : State) (r : Nat) : Bool :=
  s.drv.cmds.any (fun e => match e.2.purp with
    | .sector (.preload x) .. => x == r
    | _ => false) || s.drv.jobs.any (fun e => e.2.want == .preload r) || s.cache.fills.any (fun x => x.kind == FillKind.preload)

/-- A sector is skipped and counted. -/
def skipSector (s : State) (r : Nat) : State :=
  bump (modMaint s (fun m => { m with next := m.next + 1 })) Obj.LOCK_SECTORS_SKIPPED r 1

/-- The next sector of a range: it is skipped, reserved, locked where it stands, or read (R487). -/
def preloadSector (s : State) (m : Maint) : State :=
  let lba := m.slba + m.next
  let go (t : State) : State := modMaint t (fun x => { x with next := x.next + 1 })
  match frameFor s m.vol lba with
  | some (k, f) =>
    if f.locked then go (if f.range = some m.range then s else noteRange (setFrame s k { f with range := some m.range }) m.range)
    else if lockedIn s (frameSet m.vol lba) ≥ lockMost s (sliceOf m.vol lba) then skipSector s m.range
    else go (noteRange (noteFrames (setFrame s k { f with locked := true, range := some m.range, age := 0 })) m.range)
  | none =>
    if lockedIn s (frameSet m.vol lba) ≥ lockMost s (sliceOf m.vol lba) then skipSector s m.range
    else match entryOfGrain s (grainKey s m.vol lba) with
      | .unmapped => skipSector s m.range
      | .lost => skipSector s m.range
      | .prot _ =>
        match fillVictim s FillKind.preload (frameSet m.vol lba) with
        | some (w, t) => go (noteRange (noteFrames (setFrame t (frameKey (frameSet m.vol lba) w)
            { st := 3, age := 0, locked := true, prefetched := false, vol := m.vol, lba := lba, md := Meta.zero, data := [], range := some m.range })) m.range)
        | none => s
      | .array .. =>
        if (match verOf s m.vol lba with
            | some v => v.bad
            | none => false) then skipSector s m.range
        else if preloading s m.range then s
        else match locate s m.vol lba with
          | some (slot, zs, col) => match fetchAt s (.preload m.range) (rdN s Obj.VOLUME_POOL m.vol) m.vol lba slot zs col with
            | .started t => t
            | .lost => skipSector s m.range
          | none => skipSector s m.range

/-- The state of a range whose preload has ended. -/
def endPreload (s : State) (r : Nat) : State :=
  endMaint (noteRange (wr s Obj.LOCK_STATE r (if rdN s Obj.LOCK_SECTORS_SKIPPED r = 0 then 2 else 3)) r) 1

/-- A write of LOCK_ACTION PRELOAD. -/
def lockPreload (s : State) (r : Nat) : Nat × State :=
  if s.cache.maint.isSome then (Rs.busy, s)
  else if !volumeThere s (rdN s Obj.LOCK_VOLUME r) then (Rs.ok, wr s Obj.CACHE_MAINT_RESULT 0 2)
  else (Rs.ok, startPreload s r)

/-- PRELOAD (R487). -/
def execPreload (range : Nat) (s : State) : Host.Outcome State Fault Refusal :=
  .next (if range < 64 then (lockPreload s range).2 else s)

/-- A write of LOCK_ACTION UNLOCK. -/
def lockUnlock (s : State) (r : Nat) : Nat × State :=
  if s.cache.maint.isSome then (Rs.busy, s) else (Rs.ok, startMaint s { Maint.ofOp Mo.unlock 1 with range := r })

/-- UNLOCK (R489). -/
def execUnlock (range : Nat) (s : State) : Host.Outcome State Fault Refusal :=
  .next (if range < 64 then (lockUnlock s range).2 else s)

/-! ## Ways (R474, R494 to R497) -/

/-- Ways that wait for a march test. -/
def inTest (s : State) (sl w : Nat) : Bool :=
  match s.cache.maint with
  | some m => m.tests.contains (16 * sl + w)
  | none => false

/-- SLICE_WAYS_USABLE: enabled ways that are neither disabled for errors nor untested; fewer than two take the slice out of service (R474, R497). -/
def noteWays (s : State) (sl : Nat) : State :=
  let l := (List.range (min 16 (rdN s Obj.CACHE_WAYS_ENABLED 0))).filter (fun w => !bitAt (rdN s Obj.SLICE_WAYS_DISABLED sl) w && !inTest s sl w)
  let a := wr s Obj.SLICE_WAYS_USABLE sl ((l.map (fun w => 2 ^ w)).sum : Nat)
  let out := decide (l.length < 2)
  let b := if out ∧ rdN s Obj.SLICE_STATE sl = 0 then raiseOpen (wr a Obj.SLICE_STATE sl 1) (ev 0x0C 497) .error Src.slice sl
           else if out then a else wr a Obj.SLICE_STATE sl 0
  wr b Obj.SLICE_FRAME_WAYS sl ((frameShare b sl).length : Nat)

/-- Empty a way that leaves frame use: its frames go, and lock ranges that lose frames are to be placed again (Table 13-5, R494). -/
def emptyWay (s : State) (sl w : Nat) : State :=
  let mine (k : Nat) : Bool := k % 16 == w && k / 16 / 512 == sl
  let lost := (s.cache.frames.filter (fun e => mine e.1 && e.2.locked)).filterMap (fun e => e.2.range)
  { s with cache := { s.cache with
      frames := s.cache.frames.filterMap (fun e => if mine e.1 then (if frameReaders s e.1 then some (e.1, { e.2 with st := 3, locked := false, range := none }) else none) else some e)
      fills := s.cache.fills.filter (fun x => !mine x.frame)
      reload := lost.foldl addOnce s.cache.reload } }

/-- Change the ways in use and empty those that leave frame use on each slice; answers the ways that change kind or leave, by 16 * slice + way. -/
def changeWays (s : State) (f : State → State) : List Nat × State :=
  let before (sl : Nat) : List Nat := frameShare s sl
  let usable (sl : Nat) : List Nat := usableWays s sl
  let t := forRange 4 (fun sl u => noteWays u sl) (f s)
  let left := (List.range 4).flatMap (fun sl => ((before sl).filter (fun w => !(frameShare t sl).contains w)).map (fun w => 16 * sl + w))
  let all := (List.range 4).flatMap (fun sl =>
    ((usable sl).filter (fun w => (before sl).contains w != (frameShare t sl).contains w || !(usableWays t sl).contains w)).map (fun w => 16 * sl + w))
  let u := settleLines (forEach left (fun x v => emptyWay v (x / 16) (x % 16)) t)
  (all, noteFrames (wr u Obj.CACHE_FRAMES_TOTAL 0 ((512 * ((List.range 4).map (fun sl => (frameShare u sl).length)).sum : Nat) : Int)))

/-- Begin a WAY_CHANGE with the ways that a change moves and those to be tested. -/
def wayChange (s : State) (tests : List Nat) (f : State → State) : State :=
  let t := startMaint s { Maint.ofOp Mo.wayChange 1 with tests := tests }
  let r := changeWays t f
  modMaint r.2 (fun m => { m with ways := r.1, total := r.1.length + tests.length })

/-- A write of CACHE_WAYS_ENABLED (R494, R495). -/
def setWaysEnabled (s : State) (n : Nat) : Nat × State :=
  if s.cache.maint.isSome then (Rs.busy, s)
  else
    let old := rdN s Obj.CACHE_WAYS_ENABLED 0
    if n = old then (Rs.ok, s)
    else
      let tests := (List.range 4).flatMap (fun sl => ((List.range 16).filter (fun w => decide (old ≤ w ∧ w < n) && !bitAt (rdN s Obj.SLICE_WAYS_DISABLED sl) w)).map (fun w => 16 * sl + w))
      (Rs.ok, wayChange s tests (fun t => wr t Obj.CACHE_WAYS_ENABLED 0 n))

/-- CACHE_WAYS_ENABLED: a write of the object, 0 to 16 ways. -/
def execCacheWaysEnabled (n : Nat) (s : State) : Host.Outcome State Fault Refusal :=
  .next (if n ≤ 16 then (setWaysEnabled s n).2 else s)

/-- A write of CACHE_FRAME_WAYS (R474). -/
def setFrameWays (s : State) (n : Nat) : Nat × State :=
  if s.cache.maint.isSome then (Rs.busy, s)
  else if n = rdN s Obj.CACHE_FRAME_WAYS 0 then (Rs.ok, s)
  else (Rs.ok, wayChange s [] (fun t => wr t Obj.CACHE_FRAME_WAYS 0 n))

/-- CACHE_FRAME_WAYS: a write of the object, 0 to 16 ways. -/
def execCacheFrameWays (n : Nat) (s : State) : Host.Outcome State Fault Refusal :=
  .next (if n ≤ 16 then (setFrameWays s n).2 else s)

/-- A write of SLICE_WAY_REENABLE: the disabled ways named are tested (R496). -/
def reenableWays (s : State) (sl mask : Nat) : Nat × State :=
  if s.cache.maint.isSome then (Rs.busy, s)
  else (Rs.ok, wayChange s (((List.range 16).filter (fun w => bitAt mask w && bitAt (rdN s Obj.SLICE_WAYS_DISABLED sl) w)).map (fun w => 16 * sl + w)) (fun t => t))

/-- SLICE_WAY_REENABLE (R496). -/
def execSliceWayReenable (slice mask : Nat) (s : State) : Host.Outcome State Fault Refusal :=
  .next (if slice < 4 ∧ mask < 65536 then (reenableWays s slice mask).2 else s)

/-- A way is disabled for errors: its bit, a WARN event, and what it held goes (R496). -/
def disableWay (s : State) (x : Nat) : State :=
  let sl := x / 16
  if bitAt (rdN s Obj.SLICE_WAYS_DISABLED sl) (x % 16) then s
  else raise (changeWays s (fun t => wr t Obj.SLICE_WAYS_DISABLED sl (withBit (rdN t Obj.SLICE_WAYS_DISABLED sl) (x % 16) true : Nat))).2 (ev 0x0C 496) .warn Src.slice sl (x % 16)

/-- Ways that failed during a step leave as it ends (R491). -/
def takeFailing (s : State) : State :=
  forEach s.cache.failing (fun x t => disableWay t x) { s with cache := { s.cache with failing := [] } }

/-- A WAY_CHANGE ends once no leaving frame has readers and no way waits for its test. -/
def endWayChange (s : State) (m : Maint) : State :=
  if m.tests.isEmpty ∧ !s.cache.frames.any (fun e => m.ways.contains (16 * (e.1 / 16 / 512) + e.1 % 16) && e.2.st == 3) then endMaint s 1 else s

/-- WAY_MARCH_TEST_DONE: a way's march test ends; it is used, or disabled (R495, R496). -/
def execWayMarchTestDone (slice way : Nat) (pass : Bool) (s : State) : Host.Outcome State Fault Refusal :=
  .next (
    match s.cache.maint with
    | some m =>
      let x := 16 * slice + way
      if m.op = Mo.wayChange ∧ way < 16 ∧ m.tests.contains x then
        let clear (t : State) : State := modMaint t (fun y => { y with tests := y.tests.filter (fun z => z != x), next := y.next + 1 })
        let t := if pass then (changeWays s (fun u => clear (wr u Obj.SLICE_WAYS_DISABLED slice (withBit (rdN u Obj.SLICE_WAYS_DISABLED slice) way false : Nat)))).2 else disableWay (clear s) x
        match t.cache.maint with
        | some y => endWayChange t y
        | none => t
      else s
    | none => s)

/-- WAY_DISABLE: a way has reached its error limits; it leaves at once, or as soon as the current step ends (R491, R496). -/
def execWayDisable (slice way : Nat) (s : State) : Host.Outcome State Fault Refusal :=
  .next (
    if slice ≥ 4 ∨ way ≥ 16 then s
    else if s.cache.maint.isSome then { s with cache := { s.cache with failing := addOnce s.cache.failing (16 * slice + way) } }
    else startReload (disableWay s (16 * slice + way)))

/-! ## Steps (R493) -/

/-- One step of the operation that runs. -/
def maintStep (s : State) (m : Maint) : State :=
  let count (t : State) : State := wr t Obj.CACHE_MAINT_PROGRESS 0 ((match t.cache.maint with
    | some x => if x.total = 0 then 0 else min 100 (100 * x.next / x.total)
    | none => 100 : Nat) : Int)
  if m.op = Mo.preload then
    (if m.next ≥ m.total then endPreload s m.range else
      let t := preloadSector s m
      match t.cache.maint with
      | some y => if y.next ≥ y.total then endPreload t m.range else count t
      | none => t)
  else if m.op = Mo.unlock then endMaint (endRange s m.range) 1
  else if m.op = Mo.wayChange then endWayChange s m
  else
    let a := if m.op = Mo.cleanLines then cleanLines s (fun k => k / 16 % 16384 == m.next) else invalidateSet s m m.next
    let b := modMaint a (fun x => { x with next := x.next + 1 })
    if m.next + 1 < m.total then count b
    else endMaint b 1

/-- CACHE_MAINT_STEP: the engine finishes a step; failing ways leave first, and an epoch pauses it (R491, R493). -/
def execCacheMaintStep (s : State) : Host.Outcome State Fault Refusal :=
  .next (
    let t := takeFailing s
    match t.cache.maint with
    | some m => if m.paused then t else maintStep t m
    | none => startReload t)

/-! ## HBM stacks (R499) -/

/-- HBM_STACK_FAILED: a stack fails in service; what lies in it is handled as poison (R499, Table 05-8). The stack of a slot is its number modulo 4 (R29). -/
def execHbmStackFailed (stack : Nat) (s : State) : Host.Outcome State Fault Refusal :=
  .next (
    if stack ≥ 4 ∨ rdN s Obj.HBM_STACK_STATE stack = 3 then s
    else
      let a := raiseOpen (wr (modPower s (fun x => { x with hbmDead := addOnce x.hbmDead stack })) Obj.HBM_STACK_STATE stack 3) (ev 0x0C 499) .alarm Src.hbm stack
      let b := forEach (a.prot.filter (fun e => e.1 % 4 == stack)) (fun e t => poisonSlot (modSlot t e.1 (fun x => { x with poison := List.range 128 })) e.1 0) a
      let c := forEach b.prot (fun e t => if [0, 1].any (fun i => descStack e.1 i == stack) then poisonDescriptor t e.1 [] else t) b
      let d := forEach (c.map.leaves.filter (fun e => e.2.dirty && e.1 % 4 == stack)) (fun e t => poisonLeaf t (e.1 / 2 ^ 31) (e.1 % 2 ^ 31)) c
      noteLeaves { dropLines d (fun k => lineSlice k == stack) with cache := { d.cache with rc := [] }, map := { d.map with leaves := Tbl.mapV d.map.leaves (fun _ l => { l with resident := l.resident && l.dirty }) } })

/-- HBM_REFRESH_THRESHOLD: above 85 °C the refresh rate is doubled (R499). -/
def execHbmRefreshThreshold (stack : Nat) (temp : Int) (s : State) : Host.Outcome State Fault Refusal :=
  .next (
    if stack ≥ 4 then s
    else
      let hot := decide (temp > 85)
      wr (wr (modPower s (fun x => { x with refresh := if hot then addOnce x.refresh stack else x.refresh.filter (fun y => y != stack) })) Obj.HBM_TEMPERATURE stack temp)
        Obj.HBM_REFRESH_MODE stack (if hot then 1 else 0))

end Sys2Proof.Machine
end

