-- ==== Sys2Proof/Machine/Format.lean ====
section
/-! DEFINITION. SANITIZE and FORMAT (R333 to R336, Tables 08-8 to 08-10). -/

namespace Sys2Proof.Machine

open Sys2Proof

/-- An operation runs on a volume: started and not done. -/
def opRuns (s : State) (v : Nat) : Option VolOp :=
  match opOf s v with
  | some x => if x.state = Op.done then none else some x
  | none => none

/-- Start an operation of a kind on a volume: step 1, in which new commands to the volume complete with VOLUME_BUSY (Table 08-9). -/
def startOp (s : State) (v p kind q tag : Nat) : State :=
  modVol s v (fun x => { x with op := some { kind := kind, pool := p, state := Op.phase1, boundary := 0, total := 0, waiters := [(q, tag)], started := s.power.dumps, wseq := 0, ckpt := noCkpt, step := 1 } })

/-- A SANITIZE (kind 2) or FORMAT (kind 1) command: QUERY completes at once; else it starts the operation, joins one of its kind, or completes with VOLUME_BUSY (R333); while an epoch runs it waits (R83). -/
def volCommand (s : State) (q : Nat) (c : Cmd) (kind : Nat) : State :=
  if bitAt c.flags 0 then finish s q c St.success (opWord s c.volume)
  else if epochState s ≠ Es.idle then s
  else match opRuns s c.volume with
  | none => startOp (modCmd s q c.tag (fun x => { x with phase := .running })) c.volume (cmdPool s c) kind q c.tag
  | some x =>
    if x.kind = kind then modOp (modCmd s q c.tag (fun y => { y with phase := .running })) c.volume (fun y => { y with waiters := y.waiters ++ [(q, c.tag)] })
    else finish s q c St.volumeBusy 0

/-- SANITIZE (R333, R335). -/
def execSanitize (q tag : Nat) (s : State) : Host.Outcome State Fault Refusal :=
  .next (match startable s q tag 0x82 with
    | none => s
    | some c => volCommand s q c 2)

/-- FORMAT (R333, R334). -/
def execFormat (q tag : Nat) (s : State) : Host.Outcome State Fault Refusal :=
  .next (match startable s q tag 0x83 with
    | none => s
    | some c => volCommand s q c 1)

/-- Step 2 of Table 08-9 has been recorded: the deallocate record over the volume's whole capacity (step 3). -/
def emptyStart (s : State) (v : Nat) (x : VolOp) : State :=
  logRec (modOp s v (fun y => { y with step := 3 })) x.pool (.dealloc v 0 (rdN s Obj.VOLUME_CAPACITY v) x.wseq 0 0)

/-- The deallocate record is durable: the volume is empty, its lost ranges removed, its frames, read-cache lines and lock ranges discarded and zeroed (step 3); phase 1 is recorded as done (step 4). -/
def emptyEnd (s : State) (v : Nat) (x : VolOp) : State :=
  let a := applyDealloc (dropCopies s x.pool v) x.pool v 0 (rdN s Obj.VOLUME_CAPACITY v) x.wseq
  let b := disownVolume (endRanges (discardFrames (dropLost a x.pool v) v (fun _ => true)) v) v
  logRec (modOp b v (fun y => { y with step := 4 })) x.pool (.progress x.kind v 4 0)

/-- Begin the sweep: every lane seals its segment, and the boundary, the next segment sequence number, goes into a PROGRESS record (step 5 of Table 08-10). -/
def beginSweep (s : State) (v p : Nat) : State :=
  let a := sealLanes s p
  let b := (poolOf a p).nextSeg
  logRec (modOp a v (fun x => { x with state := Op.sweep, step := 5, boundary := b, total := (segsBelow a p b).length, ckpt := noCkpt })) p (.progress 2 v 5 b)

/-- The step of an operation whose PROGRESS or deallocate record has become durable (R191, R334, R335). -/
def opDurable (s : State) (r : LogRec) : State :=
  if r.copy then s
  else match r.body with
  | .progress k v n _ => (match opRuns s v with
    | none => s
    | some x =>
      if x.kind ≠ k ∨ x.step ≠ n then s
      else if n = 2 then emptyStart s v x
      else if n = 4 then (if k = 1 then finishOp s v x else beginSweep s v x.pool)
      else if n = 5 then requestCkpt (modOp s v (fun y => { y with ckpt := nextCkpt s x.pool })) x.pool
      else if n = 9 then finishOp s v x
      else s)
  | .dealloc v _ _ w _ _ => (match opRuns s v with
    | none => s
    | some x => if x.step = 3 ∧ x.wseq = w then emptyEnd s v x else s)
  | _ => s

/-- ILOG_RECORD_DURABLE: a record's read-back matches and what depends on it proceeds; `back` says how the read-back went (R191, R198). With no spare word left a word that failed twice never holds its record. A mirrored pool's record goes to the partner (R195). -/
def execIlogRecordDurable (seq : Nat) (back : ReadBack) (s : State) : Host.Outcome State Fault Refusal :=
  .next (match s.ilog.recs.find? (fun r => r.seq == seq && !r.durable) with
    | none => s
    | some r =>
      if back.fails ≥ 2 ∧ sparesOut s then s
      else
        let v := recordKept s r back.fails back.corrected
        noteHolds (opDurable (onDurable v { r with durable := true }) { r with durable := true }))

/-- FORMAT_PHASE1_DRAINED: the volume's admitted commands have completed, no epoch runs (R83) and a write sequence is there (R194); the PROGRESS record of step 2 is written. Steps 3 and 4 follow as their records become durable; then admission to the volume reopens, a FORMAT is done and a SANITIZE begins its sweep. -/
def execFormatPhase1Drained (v : Nat) (s : State) : Host.Outcome State Fault Refusal :=
  .next (match opRuns s v with
    | none => s
    | some x =>
      if x.state ≠ Op.phase1 ∨ x.step ≠ 1 ∨ volBusy s v ∨ !poolUp s x.pool ∨ epochState s ≠ Es.idle ∨ !wseqReady s 1 then s
      else logRec (modOp (takeWseq s x.pool 1) v (fun y => { y with step := 2, wseq := s.sluice.wseq })) x.pool (.progress x.kind v 2 0))

/-- An image area after step 8: one that has been consumed is erased when it holds an image written before step 1. -/
def erasedArea (s : State) (since : Nat) (i : Option Image) : Option Image :=
  match i with
  | none => none
  | some x => if x.num ≤ since ∧ !rdB s Obj.CISTERN_IMAGE_HELD 0 then none else some x

/-- An image area holds an image written before step 1. -/
def oldArea (since : Nat) (i : Option Image) : Bool :=
  match i with
  | none => false
  | some x => decide (x.num ≤ since)

/-- SANITIZE_CISTERN_WAIT_END: no image area holds an image written before step 1, consumed ones having been erased; the PROGRESS record of step 9 is written, and the SANITIZE is done once it is durable (steps 8 and 9). -/
def execSanitizeCisternWaitEnd (v : Nat) (s : State) : Host.Outcome State Fault Refusal :=
  .next (match opRuns s v with
    | none => s
    | some x =>
      if x.state ≠ Op.waitCistern ∨ x.step = 9 then s
      else
        let t := { s with power := { s.power with imgA := erasedArea s x.started s.power.imgA, imgB := erasedArea s x.started s.power.imgB } }
        if oldArea x.started t.power.imgA || oldArea x.started t.power.imgB then t else logRec (modOp t v (fun y => { y with step := 9 })) x.pool (.progress x.kind v 9 0))

end Sys2Proof.Machine
end

