-- ==== Sys2Proof/Machine/Sluice.lean ====
section
/-! DEFINITION. The Sluice: checks 9 to 13, admission conditions, token buckets and the order of service (R37, R38, R186 to R188, R294 to R297, R310). -/

namespace Sys2Proof.Machine

open Sys2Proof

/-! ## Checks 9 to 13 (Table 08-4) -/

/-- The command names one volume: every I/O command, SANITIZE and FORMAT, but FLUSH with ALL_VOLUMES. -/
def namesOne (c : Cmd) : Bool :=
  namesVolume c.opcode && !(c.opcode == 3 && bitAt c.flags 0)

/-- A running OFFLINE action has stopped admission to the pool (R99). -/
def goingOffline (s : State) (p : Nat) : Bool :=
  match (poolOf s p).action with
  | some a => a.code == Pa.offline
  | none => false

/-- The first of checks 9 to 13 that fails (R310). A command that waits when its volume is deleted meets check 3 again (R126). -/
def lateCheck (s : State) (c : Cmd) : Option Nat :=
  let p := cmdPool s c
  let k := rdN s Obj.VOLUME_KEY_SLOT c.volume
  let first : Bool := match opRuns s c.volume with
    | some x => x.state == Op.phase1
    | none => false
  if !namesOne c then none
  else if (volOf s c.volume).deleting then some St.invalidField
  else if !poolUp s p || goingOffline s p then some St.poolOffline
  else if !servesPool s p || Tbl.getD s.pair.handover p 0 != 0 then some St.fenced
  else if rdN s Obj.VOLUME_STATE c.volume = 2 ∨ poolCond s p Pc.locked then some St.volumeLocked
  else if dataOp c.opcode && first then some St.volumeBusy
  else if c.opcode = 2 ∧ encrypted s c.volume ∧ rdN s Obj.KEY_USAGE_CURRENT k + c.nlb > rdN s Obj.KEY_USAGE_LIMIT k then some St.keyExhausted
  else none

/-! ## The global pool and the buckets (R294 to R296) -/

/-- Operations of the global pool that a QP holds: admitted commands until their tags stop being outstanding. -/
def qpOps (x : Qp) : Nat :=
  x.cmds.length + (x.cpl.filter Cpl.holdsPool).length

/-- GLOBAL_POOL_IN_USE. -/
def poolInUse (s : State) : Nat :=
  (s.qps.map (fun e => qpOps e.2)).sum

/-- Commands of a function admitted and not completed. -/
def fnInUse (s : State) (f : Nat) : Nat :=
  ((fnQps s f).map (fun q => qpOps (qpOf s q))).sum

/-- Rate, in tokens per second, and burst of a bucket: kinds 0 and 1 of a function, 2 and 3 of a volume. -/
def bucketRate (s : State) (kind i : Nat) : Nat × Nat :=
  if kind = 0 then (rdN s Obj.FUNC_OPS_RATE i, rdN s Obj.FUNC_OPS_BURST i)
  else if kind = 1 then (rdN s Obj.FUNC_BYTES_RATE i * 1000000, rdN s Obj.FUNC_BYTES_BURST i * 1024)
  else if kind = 2 then (rdN s Obj.VOL_OPS_RATE i, rdN s Obj.VOL_OPS_BURST i)
  else (rdN s Obj.VOL_BYTES_RATE i * 1000000, rdN s Obj.VOL_BYTES_BURST i * 1024)

/-- The level of a bucket now, in millionths of a token. One that has not been charged stands at its burst. -/
def bucketLevel (s : State) (kind i : Nat) : Int :=
  let r := bucketRate s kind i
  refill (Tbl.getD s.sluice.buckets (4 * i + kind) { level := (r.2 * 1000000 : Nat), last := s.now }) r.1 r.2 s.now

/-- A bucket lets commands pass: its rate is zero, which disables it, or its level is above zero. -/
def bucketOpen (s : State) (kind i : Nat) : Bool :=
  (bucketRate s kind i).1 == 0 || decide (bucketLevel s kind i > 0)

/-- Subtract a cost from a bucket; a disabled one is not charged and starts full when it is enabled. -/
def chargeBucket (kind i cost : Nat) (s : State) : State :=
  let b := s.sluice.buckets
  let n := if (bucketRate s kind i).1 = 0 then Tbl.erase b (4 * i + kind)
           else Tbl.set b (4 * i + kind) { level := bucketLevel s kind i - ((cost * 1000000 : Nat) : Int), last := s.now }
  { s with sluice := { s.sluice with buckets := n } }

/-- Admission cost in operations and bytes (Table 07-12). -/
def costOf (c : Cmd) : Nat × Nat :=
  if c.opcode = 1 ∨ c.opcode = 2 ∨ c.opcode = 5 then (1, c.nlb * 4096) else if c.opcode = 3 ∨ c.opcode = 4 then (1, 0) else (0, 0)

/-- Charge a command to the buckets of its function and of its volume. -/
def chargeAll (s : State) (f : Nat) (c : Cmd) : State :=
  if !dataOp c.opcode then s
  else
    let k := costOf c
    let a := chargeBucket 1 f k.2 (chargeBucket 0 f k.1 s)
    if namesOne c then chargeBucket 3 c.volume k.2 (chargeBucket 2 c.volume k.1 a) else a

/-! ## The Weir and the other holds -/

/-- Sectors that a WRITE places. -/
def placedCount (s : State) (c : Cmd) : Nat :=
  (placedRange s c.volume c.slba c.nlb).2

/-- The WRITE is admitted as if the Weir were zero: it is, or the write is larger than it (R187, R188). -/
def throughWeir (s : State) (c : Cmd) : Bool :=
  rdN s Obj.WEIR_CURRENT 0 == 0 || decide (4096 * placedCount s c > rdN s Obj.WEIR_CURRENT 0)

/-- The own half has free slots for the sectors beyond the parity slots of the rows they open. -/
def slotsFor (s : State) (c : Cmd) : Bool :=
  let k := (classCode s (cmdPool s c) Cls.host).2
  let n := placedCount s c
  decide (n + rowsFor n k.k * (k.width - k.k) ≤ ownFree s)

/-- The Weir makes a WRITE wait (R186 to R188), or a mirrored pool's missing partner does (R420). -/
def weirWaits (s : State) (c : Cmd) : Bool :=
  let n := 4096 * placedCount s c
  mirrorHolds s (cmdPool s c) || !slotsFor s c ||
  (!throughWeir s c && (decide (rdN s Obj.OWN_DIRTY_BYTES 0 + n > rdN s Obj.WEIR_CURRENT 0) ||
    (mirrors s (cmdPool s c) && decide (mirroredBytes s + n > rdN s Obj.PARTNER_RESERVE_IN_EFFECT 0))))

/-- A widened write that touches the same grain has not passed step 7 (R142). -/
def grainWaits (s : State) (c : Cmd) : Bool :=
  s.qps.any (fun e => e.2.cmds.any (fun d => d.opcode == 2 && placedCount s d != d.nlb && !allMapped d && overlaps s d c))

/-- The write sequences that an admitted command takes: one for each sector it places, one for a DEALLOCATE (R37, R157). -/
def seqsTaken (s : State) (c : Cmd) : Nat :=
  if c.opcode = 2 then placedCount s c else if c.opcode = 4 then 1 else 0

/-- Why an admissible-looking command waits, by the causes of Table 17-9: 1 global pool, 2 function in-flight, 3 token bucket, 4 Weir, 5 map hold, 6 intent-log hold, 7 epoch; 8 is the wait of R142. -/
def waitCause (s : State) (q : Nat) (c : Cmd) : Option Nat :=
  let f := qpFn s q
  let p := poolOf s (cmdPool s c)
  if poolInUse s + (if q < 2 then 0 else 64) ≥ 65536 then some 1
  else if fnInUse s f ≥ rdN s Obj.FUNC_MAX_INFLIGHT f then some 2
  else if q ≥ 2 ∧ !(bucketOpen s 0 f && bucketOpen s 1 f && (!namesOne c || (bucketOpen s 2 c.volume && bucketOpen s 3 c.volume))) then some 3
  else if c.opcode = 2 ∧ weirWaits s c then some 4
  else if c.opcode = 2 ∧ (p.mapHold ∨ p.leafHold) then some 5
  else if (c.opcode = 2 ∧ p.logHold) ∨ !wseqReady s (seqsTaken s c) then some 6
  else if q ≥ 2 ∧ dataOp c.opcode ∧ epochState s ≠ Es.idle ∧ !flumeServes s c then some 7
  else if c.opcode = 2 ∧ grainWaits s c then some 8
  else none

/-! ## Waiting -/

/-- The oldest command of a QP that is not admitted, once it is at the Sluice. -/
def headOf (s : State) (q : Nat) : Option Cmd :=
  match (qpOf s q).queue with
  | c :: _ => if c.phase = .waiting then some c else none
  | [] => none

/-- The wait that a command has had ends: its time goes to SLUICE_WAIT_TIME of its cause. -/
def endWait (s : State) (c : Cmd) : State :=
  match c.wait with
  | some (k, t) => if k < 8 then countDev s (Dc.sluiceTime + k) ((s.now - t) * 100) else s
  | none => s

/-- Count a command that begins to wait for a cause, and note it. -/
def beginWait (s : State) (q : Nat) (c : Cmd) (k : Nat) : State :=
  let f := qpFn s q
  let a := modQueued (endWait s c) q c.tag (fun x => { x with wait := some (k, s.now) })
  let b := if k < 8 then countDev a (Dc.sluiceWaits + k) 1 else a
  let d := if k = 2 ∨ k = 3 then bump b Obj.FUNC_THROTTLE_WAITS f 1 else b
  if k = 3 ∧ namesOne c ∧ !(bucketOpen s 2 c.volume && bucketOpen s 3 c.volume) then bump d Obj.VOL_THROTTLE_WAITS c.volume 1 else d

/-- Note what the oldest command of a QP waits for. -/
def noteWait (s : State) (q : Nat) : State :=
  match headOf s q with
  | none => s
  | some c =>
    if (lateCheck s c).isSome then s
    else match waitCause s q c with
    | none => s
    | some k => if c.wait.map Prod.fst = some k then s else beginWait s q c k

/-! ## Admission -/

/-- A command's turn at the Sluice does something: it fails a check, or every admission condition holds. -/
def servable (s : State) (q : Nat) : Bool :=
  match headOf s q with
  | none => false
  | some c => (lateCheck s c).isSome || (waitCause s q c).isNone

/-- In an unmirrored pool a superblock generation follows every 2^31 write sequences (R420). -/
def floorWrite (s : State) (p a n : Nat) : State :=
  if unmirrored s p ∧ a / 2 ^ 31 ≠ (a + n) / 2 ^ 31 then writeSuper s p else s

/-- Admit the oldest command of a QP: its position and write sequences, the buckets, the key's usage and the counters (R37, R296, R321). -/
def admitCmd (s : State) (q : Nat) (c : Cmd) : State :=
  let f := qpFn s q
  let n := seqsTaken s c
  let x : Cmd := { c with phase := .admitted, admitNo := s.sluice.admits, wseq := s.sluice.wseq, wait := none, commitWait := c.opcode == 2 && (bitAt c.flags 0 || throughWeir s c) }
  let a := modQp (endWait s c) q (fun y => { y with queue := y.queue.drop 1, cmds := y.cmds ++ [x] })
  let b := count (count { a with sluice := { a.sluice with admits := a.sluice.admits + 1 } } Obj.FN_ADMITTED f 1) Obj.FN_SLUICE_WAIT_TIME f ((s.now - c.takenAt) * 100)
  let d := if q ≥ 2 then chargeAll b f c else b
  let e := if n = 0 then d else floorWrite (takeWseq d (cmdPool s c) n) (cmdPool s c) s.sluice.wseq n
  if c.opcode = 2 ∧ encrypted s c.volume then chargeKey e (rdN s Obj.VOLUME_KEY_SLOT c.volume) c.nlb else e

/-- Serve the oldest command of a QP: complete it with the status of a failed check, or admit it. -/
def serveQp (s : State) (q : Nat) : State :=
  match headOf s q with
  | none => s
  | some c => match lateCheck s c with
    | some st => finish (endWait s c) q c st 0
    | none => admitCmd s q c

/-- The I/O QP to serve next and the admissions left to it in its visit (R297). -/
def nextIo (s : State) : Option (Nat × Nat) :=
  let l := (s.qps.map Prod.fst).filter (fun q => decide (q ≥ 2) && servable s q)
  if s.sluice.rrLeft > 0 ∧ l.contains s.sluice.rrQp then some (s.sluice.rrQp, s.sluice.rrLeft - 1)
  else match l.find? (fun q => decide (q > s.sluice.rrQp)) with
    | some q => some (q, rdN s Obj.QP_WRR_WEIGHT q - 1)
    | none => match l with
      | q :: _ => some (q, rdN s Obj.QP_WRR_WEIGHT q - 1)
      | [] => none

/-- One turn of the Sluice: admin QPs 0 and 1 first, then the round over I/O QPs (R297). -/
def sluiceTurn (s : State) : State :=
  if servable s 0 then serveQp s 0
  else if servable s 1 then serveQp s 1
  else match nextIo s with
    | some (q, left) => serveQp { s with sluice := { s.sluice with rrQp := q, rrLeft := left } } q
    | none => s

/-- ADMIT_COMMAND: at most one command is admitted; what the others wait for is noted (R294 to R297). No command is admitted while the module does not run. -/
def execAdmitCommand (s : State) : Host.Outcome State Fault Refusal :=
  .next (if running s then sluiceTurn (forEach (s.qps.map Prod.fst) (fun q t => noteWait t q) s) else s)

end Sys2Proof.Machine
end

