-- ==== Sys2Proof/Machine/Startup.lean ====
section
/-! DEFINITION. Start-up steps 1 to 10, the firmware store and the classification of the last stop (R551 to R558, R561 to R568, R572 to R574). -/

namespace Sys2Proof.Machine

open Sys2Proof

/-! Values of STARTUP_FAULT, BOOT_LAST_STOP and CISTERN_RESTORE_RESULT. -/

def Sf.bootImage : Nat := 5
def Ls.clean : Nat := 0
def Ls.dumped : Nat := 1
def Ls.partial_ : Nat := 2
def Ls.lossUnknown : Nat := 3
def Ls.noImage : Nat := 4

/-- The fault code of a step that fails (Table 16-9); steps 6 and 10 have none. -/
def stepFault (n : Nat) : Nat :=
  match n with
  | 1 => 1
  | 2 => 2
  | 3 => 3
  | 4 => 4
  | 5 => Sf.bootImage
  | 7 => 6
  | 8 => 7
  | 9 => 8
  | _ => 0

/-- A step fails: start-up stops there, with an ALARM record; in steps 5 to 7 it counts against the firmware slot (R551, R554). -/
def failStep (s : State) (n : Nat) : State :=
  let a := raiseOpen (wr s Obj.STARTUP_FAULT 0 (stepFault n : Nat)) (ev 0x0F 551) .alarm Src.device 0
  if 5 ≤ n ∧ n ≤ 7 then modPower a (fun x => { x with attempts := x.attempts + 1 }) else a

/-- A bit of BIST_SUMMARY. -/
def setBist (s : State) (b : Nat) (on : Bool) : State :=
  if on then wr s Obj.BIST_SUMMARY 0 (withBit (rdN s Obj.BIST_SUMMARY 0) b true : Nat) else s

/-- STARTUP_TIMES: the time of a step in ms from AUX in range. -/
def noteTime (s : State) (n : Nat) : State :=
  let b := rdBytes s Obj.STARTUP_TIMES 0
  wrBytes s Obj.STARTUP_TIMES 0 (patch (if b.length = 40 then b else zeros 40) (4 * (n - 1)) (leBytes 4 ((s.now - s.power.auxAt) / 1000)))

/-! ## Step 5: secure boot (R554) -/

/-- The slot that an attempt starts from first: the preferred one, or after three consecutive failures the other one. -/
def firstSlot (s : State) : Nat :=
  if s.power.attempts ≥ 3 then 1 - s.power.bootSlot else if s.power.attempts > 0 then s.power.bootSlot else rdN s Obj.BOOT_SLOT_PREFERRED 0

/-- An NRB-9640-CE, by its ordering code (Table 00-1). -/
def engineeringSample : Bool :=
  Config.orderingCode == ascii [0x4E, 0x52, 0x42, 0x2D, 0x39, 0x36, 0x34, 0x30, 0x2D, 0x43, 0x45]

/-- The secure-boot hash that the fuses hold (R3). -/
def signingHash : Bytes :=
  if engineeringSample then Config.engineeringHash else Config.releaseHash

/-- What R554 makes of an image, as FW_SLOT_RESULT gives it: header, key, signature, digest and security version, in this order. -/
def verifyResult (s : State) (x : FwImage) : Nat :=
  if !x.formed then 6 else if x.keyHash ≠ signingHash then 2 else if !x.signed then 3 else if !x.digest then 4 else if x.svn < rdN s Obj.FW_SVN_FLOOR 0 then 5 else 1

/-- What the image's header says of a slot (Table 16-9). -/
def slotHeader (s : State) (slot : Nat) (x : FwImage) : State :=
  wr (wr (wrBytes (wr s Obj.FW_SLOT_STATE slot 2) Obj.FW_SLOT_VERSION slot x.version) Obj.FW_SLOT_COMPAT_LEVEL slot (x.compat : Nat)) Obj.FW_SLOT_SVN slot (x.svn : Nat)

/-- The slot that is started and its image, if one is accepted. -/
def bootChoice (s : State) (images : List FwImage) : Option (Nat × FwImage) :=
  [firstSlot s, 1 - firstSlot s].findSome? (fun n => match images[n]? with
    | some x => if verifyResult s x = 1 then some (n, x) else none
    | none => none)

/-- The image of a slot runs: what its header says, and an ERROR event for the other slot than the preferred one. -/
def bootFrom (s : State) (slot : Nat) (x : FwImage) : State :=
  let a := wr (modPower s (fun y => { y with bootSlot := slot, attempts := if y.attempts ≥ 3 then 0 else y.attempts })) Obj.BOOT_SLOT_RUNNING 0 slot
  let c := wr (slotHeader a slot x) Obj.FW_COMPAT_LEVEL 0 (x.compat : Nat)
  let d := wrBytes c Obj.FIRMWARE_VERSION 0 x.version
  if slot = rdN s Obj.BOOT_SLOT_PREFERRED 0 then wrB d Obj.BOOT_FALLBACK 0 false
  else raiseOpen (wrB d Obj.BOOT_FALLBACK 0 true) (ev 0x0F 554) .error Src.device 0

/-- The configuration area is replayed: CONFIG_AREA_STATE, and the defaults where neither ring nor snapshot can be read (R54, Table 02-13). -/
def replayConfig (s : State) (config : Nat) : State :=
  let st := if s.dict.factory then 2 else config
  let a := if config = 2 ∧ !s.dict.factory then
      { s with dict := { s.dict with regs := Tbl.filterK s.dict.regs (fun k => !factoryClears k), blobs := Tbl.filterK s.dict.blobs (fun k => !factoryClears k) } } else s
  wr { a with dict := { a.dict with factory := false } } Obj.CONFIG_AREA_STATE 0 st

/-! ## Steps 6 and 7 -/

/-- Records held since the reset reach paths 1 to 17 in sequence order (R593). -/
def deliverHeld (s : State) : State :=
  let early := s.ev.alarms.filter (fun r => decide (r.seq > s.power.evFrom))
  let l := sortBy (fun e : EvRec × Bool => e.1.seq) (early.map (fun r => (r, true)) ++ s.ev.held.map (fun r => (r, false)))
  let t := { s with ev := { s.ev with held := [] } }
  forEach l (fun e u =>
    let v := if e.2 then offer u 1 e.1 false else bump (pathConsume u 1 e.1) Obj.PATH_DELIVERED 1 1
    forRange 16 (fun p w => offer w (p + 2) e.1 false) v) t

/-- Step 6 has completed: host ports, the pack estimator (R551). -/
def endStep6 (s : State) : State :=
  let a := wr s Obj.STARTUP_STEP 0 7
  let b := forRange 2 (fun p t => if rdB t Obj.PORT_LINK_UP p then readyPort t p else t) a
  let c := if rdB b Obj.PACK_ENABLE 0 then startPack b else b
  deliverHeld (if c.pair.enabled then notePair c else c)

/-- Engines that failed their test: disabled engines, clusters with fewer than 8 left, and an ERROR event for each (R24). -/
def bistEngines (s : State) (l : List Nat) : State :=
  let f := (l.filter (fun e => decide (e < 1024))).foldl addOnce []
  let n (c : Nat) : Nat := (f.filter (fun e => decide (e / 16 = c))).length
  let off := (List.range 64).filter (fun c => decide (16 - n c < 8))
  let a := wrBytes s Obj.BIST_ENGINES_FAILED 0 (leBytes 128 ((f.map (fun e => 2 ^ e)).sum))
  let b := wr a Obj.BIST_CLUSTERS_DISABLED 0 (((off.map (fun c => 2 ^ c)).sum : Nat) : Int)
  let c := wr b Obj.ENGINES_ENABLED 0 ((((List.range 64).filter (fun c => !off.contains c)).map (fun c => 16 - n c)).sum : Nat)
  forEach f (fun e t => raise t (ev 0x01 24) .error Src.device e e) (setBist c 0 (!f.isEmpty))

/-- A LOCKED boot (R462): every slot that held keys is ZEROIZED. -/
def lockedBoot (s : State) : State :=
  let t := zeroizeAll (wrB s Obj.LOCKED_BOOT 0 true)
  wrB t Obj.DEVICE_LOCKED 0 (rdB t Obj.DEVICE_LOCKED 0 || anyZeroized t)

/-- After step 7 in WRAPPED mode the keys are unwrapped, unless tamper is latched or asserted or the store fails its check (R457, R462). -/
def unwrapKeys (s : State) (ok : Bool) : State :=
  if rdN s Obj.TAMPER_LATCH 0 ≠ 0 then lockedBoot s
  else if rdN s Obj.KEY_PERSIST 0 ≠ 1 ∨ !s.key.salt ∨ !s.key.keys.isEmpty then noteKeys s
  else if !ok then lockedBoot s
  else
    let t := { s with key := { s.key with keys := s.key.wrapped } }
    noteKeys (forRange 4096 (fun k u =>
      if keyState u k = Ks.zeroized then
        settleSlot (wr u Obj.KEY_PRESENT k ((if (Tbl.get u.key.keys (2 * k)).isSome then 1 else 0) + (if (Tbl.get u.key.keys (2 * k + 1)).isSome then 2 else 0) : Nat)) k
      else u) t)

/-- Step 7 has completed: self-tests, HBM partition, keys (R176, R568). -/
def endStep7 (s : State) (x : StartItem) : State :=
  let a := modPower (bistEngines s x.engines) (fun y => { y with attempts := 0 })
  let b := forEach x.ways (fun w t => if w < 64 then disableWay t w else t) (setBist a 1 (!x.ways.isEmpty))
  let c := forEach x.pipes (fun q t => if q < 4 then quarantine t q else t) (setBist b 2 (!x.pipes.isEmpty))
  let d := forRange 4 (fun q t => wr t Obj.HBM_STACK_STATE q 1) (wr c Obj.HBM_READ_CACHE_SIZE 0 (76 - rd c Obj.HBM_MAP_CACHE_SIZE 0))
  unwrapKeys d x.wrapOk

/-! ## Step 8: the image (R207, R208, R211, R572) -/

/-- A loss of unknown extent (R211). -/
def lossOf (s : State) (stop : Nat) : State :=
  raiseOpen (wr (wr (modPower s (fun y => { y with lossHeld := true })) Obj.CISTERN_RESTORE_RESULT 0 3) Obj.BOOT_LAST_STOP 0 stop) (ev 0x04 211) .alarm Src.cistern 0

/-- A restored image is held: the next dump writes the other area, and the Cistern is NOT_READY until that one is erased (R210, Table 05-6). -/
def holdImage (s : State) (img : Image) : State :=
  let inA : Bool := match s.power.imgA with
    | some y => y.num == img.num
    | none => false
  noteCistern (wr (wr (wrB (modPower s (fun y => { y with next := inA })) Obj.CISTERN_IMAGE_HELD 0 true) Obj.CISTERN_ERASED_BYTES 0 0) Obj.CISTERN_STATE 0 (Cs.notReady : Nat))

/-- The newest image that no start-up has consumed is restored if its OWN_DESCRIPTORS is usable (R207, Table 05-6); a DUMP_START with no such image, or a stop mark with ACKED_DIRTY, is a loss of unknown extent (R211). The stop is classified (R572). -/
def restore (s : State) (x : StartItem) : State :=
  let dumped := s.power.started && !s.power.empty
  let a := match newestImage s x.bad x.badOld with
    | some img =>
      let (bad, old) := if ((images s).any (fun y => decide (img.num < y.num))) then (x.badOld, x.bad) else (x.bad, x.badOld)
      if !img.sectionOk bad 3 then lossOf s (if img.written < img.start 4 then Ls.noImage else Ls.lossUnknown)
      else
        let t := holdImage (restoreImage (wr s Obj.CISTERN_STATE 0 (Cs.restoring : Nat)) img bad old) img
        if imageWhole img bad then wr (wr t Obj.CISTERN_RESTORE_RESULT 0 1) Obj.BOOT_LAST_STOP 0 (Ls.dumped : Nat)
        else wr (wr t Obj.CISTERN_RESTORE_RESULT 0 2) Obj.BOOT_LAST_STOP 0 (Ls.partial_ : Nat)
    | none =>
      if dumped then lossOf s (if s.power.ended then Ls.lossUnknown else Ls.noImage) else wr (wr s Obj.CISTERN_RESTORE_RESULT 0 0) Obj.BOOT_LAST_STOP 0 (Ls.clean : Nat)
  let b := match s.power.mark with
    | some (_, true) => lossOf a Ls.noImage
    | _ => a
  let c := if s.power.clean ∧ rdN b Obj.CISTERN_RESTORE_RESULT 0 ≠ 3 then wr b Obj.BOOT_LAST_STOP 0 (Ls.clean : Nat) else b
  let d := if s.power.lossHeld then wr c Obj.CISTERN_RESTORE_RESULT 0 3 else c
  modPower d (fun y => { y with started := false, ended := false, empty := false, mark := none, consumed := y.dumps })

/-! ## Steps 9 and 10 (R553, R564 to R566) -/

/-- Step 9 begins: drive groups are enabled and drives admitted (R374, R380). -/
def beginStep9 (s : State) : State :=
  forRange 16 (fun g t => if rdB t Obj.DRIVE_GROUP_ENABLE g then enableGroup t g else t) (wr s Obj.STARTUP_STEP 0 9)

/-- The ONLINE action of every pool with AUTO_ONLINE that is OFFLINE, unless a loss of unknown extent waits for its acknowledgement (R564). -/
def autoOnline (s : State) : State :=
  if lossUnknown s then s
  else forRange 8 (fun p t => if rdB t Obj.AUTO_ONLINE p ∧ poolState t p = Ps.offline ∧ (poolOf t p).action.isNone then startOnline t p else t) s

/-- Step 9 ends: the pools assemble with the members present. -/
def beginStep10 (s : State) : State :=
  autoOnline (wr s Obj.STARTUP_STEP 0 10)

/-- Step 10 has ended: ONLINE actions written before it run, and locked ranges are preloaded (R566, R490). -/
def endStep10 (s : State) : State :=
  let a := modPower (wr s Obj.STARTUP_STEP 0 11) (fun x => { x with online := [] })
  startReload (forEach s.power.online (fun p t => if poolState t p = Ps.offline ∧ (poolOf t p).action.isNone ∧ !lossUnknown t then startOnline t p else t) a)

/-- CISTERN_RESTORE_LOSS_ACK: an operator lets pools come online after a loss of unknown extent; AUTO_ONLINE is heeded again (R211). -/
def lossAck (s : State) : State :=
  if lossUnknown s then
    let t := modPower s (fun x => { x with lossHeld := false })
    if rdN s Obj.STARTUP_STEP 0 ≥ 11 then autoOnline t else t
  else s

/-- CISTERN_RESTORE_LOSS_ACK (R211). -/
def execCisternRestoreLossAck (s : State) : Host.Outcome State Fault Refusal :=
  .next (lossAck s)

/-! ## Steps -/

/-- The module is in start-up, at step `n`, and that step runs. -/
def inStep (s : State) (n : Nat) : Bool :=
  rdN s Obj.STARTUP_FAULT 0 == 0 && !s.power.stepDone && decide (n ≤ 10) &&
  (if n ≤ 3 then s.power.mode == .standby else running s)

/-- Step 6 is reached: BOOT_COUNT rises (R551, R574). -/
def reachStep6 (s : State) : State :=
  wr (wr s Obj.BOOT_COUNT 0 (((rdN s Obj.BOOT_COUNT 0 + 1) % 2 ^ 32 : Nat) : Int)) Obj.STARTUP_STEP 0 6

/-- Step 2: what can be read of the intent log. With the state block unreadable no pool's cut and no floor is known (R190, R198, R214). -/
def readIlog (s : State) (x : StartItem) : State :=
  let a := { s with ilog := { s.ilog with unread := if x.block then [] else List.range 8, bad := x.words.foldl addOnce [], floors := if x.block then s.ilog.floors else [] } }
  noteIlog (setBist a 5 (!x.block || !x.words.isEmpty))

/-- What follows a step that has succeeded. -/
def nextStep (s : State) (n : Nat) (x : StartItem) : State :=
  match n with
  | 1 => wr s Obj.STARTUP_STEP 0 2
  | 2 => tryStart (modPower (readIlog s x) (fun y => { y with stepDone := true }))
  | 3 => wr (wr (wr (setPs (drive { s with pins := risenPins s.pins } .powerGood true) .running) Obj.RAIL_STATUS 0 0x1FF) Obj.BOOT_LAST_RESET_KIND 0 (s.power.kind : Nat)) Obj.STARTUP_STEP 0 4
  | 4 => wr (wrB s Obj.PLL_MAIN_LOCKED 0 true) Obj.STARTUP_STEP 0 5
  | 5 => match bootChoice s x.images with
    | some (slot, img) =>
      let t := reachStep6 (bootFrom (replayConfig s x.config) slot img)
      if t.pair.enabled then drive t .pairAlive true else t
    | none => failStep s 5
  | 6 => endStep6 s
  | 7 => wr (endStep7 s x) Obj.STARTUP_STEP 0 8
  | 8 => beginStep9 (restore (setBist (setDies s x.dies) 4 (decide (x.dies < 8))) x)
  | 9 => beginStep10 s
  | 10 => endStep10 s
  | _ => s

/-- STARTUP_STEP_DONE: the step in STARTUP_STEP completes, or fails, and the next one begins (R551). -/
def execStartupStepDone (ok : Bool) (x : StartItem) (s : State) : Host.Outcome State Fault Refusal :=
  .next (
    let n := rdN s Obj.STARTUP_STEP 0
    if !inStep s n then s
    else if !ok ∧ stepFault n ≠ 0 then failStep (setBist s 3 (n == 7)) n
    else nextStep (noteTime s n) n x)

/-- START_MEMBER_WAIT_EXPIRY: the wait of step 9 ends; pools assemble with the members present (R553). -/
def execStartMemberWaitExpiry (s : State) : Host.Outcome State Fault Refusal :=
  .next (if inStep s 9 ∧ rdN s Obj.STARTUP_STEP 0 = 9 then beginStep10 (noteTime s 9) else s)

/-! ## The firmware store (R554 to R557) -/

/-- The slot whose image runs, if one does. -/
def runningSlot (s : State) : Option Nat :=
  if rdN s Obj.STARTUP_STEP 0 > 5 then some (rdN s Obj.BOOT_SLOT_RUNNING 0) else none

/-- A write of FW_UPDATE_SLOT. -/
def fwUpdateSlot (s : State) (v : Nat) : Nat × State :=
  if v > 1 ∧ v ≠ 0xFF then (Rs.range, s)
  else if runningSlot s = some v then (Rs.access, s)
  else (Rs.ok, wr s Obj.FW_UPDATE_SLOT 0 v)

/-- FW_UPDATE_SLOT (R556). -/
def execFwUpdateSlot (v : Nat) (s : State) : Host.Outcome State Fault Refusal :=
  .next (fwUpdateSlot s v).2

/-- A write of FW_SLOT_ERASE. -/
def fwErase (s : State) (slot : Nat) : Nat × State :=
  if runningSlot s = some slot then (Rs.access, s)
  else
    let a := modPower s (fun x => { x with nor := Tbl.filterK x.nor (fun k => k / 512 != slot) })
    (Rs.ok, wr (wr (wrBytes (wr a Obj.FW_SLOT_STATE slot 0) Obj.FW_SLOT_VERSION slot []) Obj.FW_SLOT_COMPAT_LEVEL slot 0) Obj.FW_SLOT_SVN slot 0)

/-- FW_SLOT_ERASE (R556). -/
def execFwSlotErase (slot : Nat) (s : State) : Host.Outcome State Fault Refusal :=
  .next (if slot < 2 then (fwErase s slot).2 else s)

/-- A write of FW_SLOT_DATA: chunk `i` lands in the slot of FW_UPDATE_SLOT. -/
def fwData (s : State) (i : Nat) (data : Bytes) : Nat × State :=
  let slot := rdN s Obj.FW_UPDATE_SLOT 0
  if slot > 1 ∨ runningSlot s = some slot then (Rs.access, s)
  else if data.length ≠ 65536 then (Rs.range, s)
  else (Rs.ok, wr (modPower s (fun x => { x with nor := Tbl.set x.nor (512 * slot + i) data })) Obj.FW_SLOT_STATE slot 1)

/-- FW_SLOT_DATA (R556). -/
def execFwSlotData (i : Nat) (data : Bytes) (s : State) : Host.Outcome State Fault Refusal :=
  .next (if i < 512 then (fwData s i data).2 else s)

/-- A write of FW_SLOT_VERIFY: R554 on the slot's image. With no image running, a slot that verifies is made preferred and start-up goes on from step 5 (R555). -/
def fwVerify (s : State) (slot : Nat) (x : FwImage) : Nat × State :=
  if runningSlot s = some slot then (Rs.access, s)
  else
    let r := verifyResult s x
    let a := wr s Obj.FW_SLOT_RESULT slot r
    if r ≠ 1 then (Rs.ok, wr a Obj.FW_SLOT_STATE slot 3)
    else
      let b := slotHeader a slot x
      (Rs.ok, if rdN b Obj.STARTUP_FAULT 0 = Sf.bootImage then wr (wr b Obj.STARTUP_FAULT 0 0) Obj.BOOT_SLOT_PREFERRED 0 slot else b)

/-- FW_SLOT_VERIFY: what the check of the image in the slot finds, and what its header carries (R554). -/
def execFwSlotVerify (slot : Nat) (auth : FwAuth) (version : Bytes) (compat svn : Nat) (s : State) : Host.Outcome State Fault Refusal :=
  .next (if slot < 2 then (fwVerify s slot { auth with version := version, compat := compat, svn := svn }).2 else s)

/-- A write of BOOT_SLOT_PREFERRED. -/
def preferSlot (s : State) (v : Nat) : Nat × State :=
  if v > 1 then (Rs.range, s) else if rdN s Obj.FW_SLOT_STATE v ≠ 2 then (Rs.access, s) else (Rs.ok, wr s Obj.BOOT_SLOT_PREFERRED 0 v)

/-- BOOT_SLOT_PREFERRED (R556). -/
def execBootSlotPreferred (v : Nat) (s : State) : Host.Outcome State Fault Refusal :=
  .next (preferSlot s v).2

/-- A write of FW_SVN_COMMIT: fuses raise the floor to the running image's security version; it never falls. -/
def svnCommit (s : State) (v : Nat) : Nat × State :=
  if v ≠ 0x9640F0F0 then (Rs.range, s)
  else (Rs.ok, wr s Obj.FW_SVN_FLOOR 0 (max (rd s Obj.FW_SVN_FLOOR 0) (rd s Obj.FW_SLOT_SVN (rdN s Obj.BOOT_SLOT_RUNNING 0))))

/-- FW_SVN_COMMIT (R557). -/
def execFwSvnCommit (v : Nat) (s : State) : Host.Outcome State Fault Refusal :=
  .next (svnCommit s v).2

end Sys2Proof.Machine
end

