-- ==== Sys2Proof/Machine/TestOps.lean ====
section
/-! DEFINITION. On-demand tests and the JTAG port (R569 to R571). -/

namespace Sys2Proof.Machine

open Sys2Proof

/-! Values of TEST_STATE (Table 16-9). -/

def Ts.running : Nat := 1
def Ts.done : Nat := 2
def Ts.refused : Nat := 3
def Ts.aborted : Nat := 4

/-- The pattern is allowed for the test (Table 16-5). A host port takes the PAM4 patterns where its highest speed is 64 GT/s. -/
def patternOk (s : State) (op target : Nat) : Bool :=
  let p := rdN s Obj.TEST_PATTERN 0
  match op with
  | 1 => if rdN s Obj.PORT_MAX_SPEED target = 6 then p == 4 || p == 5 else p == 1 || p == 2 || p == 3
  | 2 => p == 1 || p == 2 || p == 3
  | 3 => p == 4 || p == 5
  | 4 => p == 4 || p == 5
  | 5 => p == 6 || p == 3
  | _ => true

/-- The target exists and is in the condition that the test requires (Table 16-5). -/
def conditionOk (s : State) (op target : Nat) : Bool :=
  match op with
  | 1 => decide (target < 2) && (hostPort s target).perst
  | 2 => decide (target < 16) && rdN s Obj.DRIVE_GROUP_STATE target == 0
  | 3 => decide (target < 3) && !s.pair.joined
  | 4 => decide (target < 3) && !s.pair.joined
  | 5 => decide (target < 4)
  | 6 => target == 0 && (rdN s Obj.CISTERN_STATE 0 == Cs.armed || rdN s Obj.CISTERN_STATE 0 == Cs.notReady)
  | _ => false

/-- A write of TEST_OP: BUSY while a test runs; REFUSED at once where the condition or pattern does not fit; else the test runs (R569). -/
def testOp (s : State) (op : Nat) : Nat × State :=
  let target := rdN s Obj.TEST_TARGET 0
  if s.power.test.isSome then (Rs.busy, s)
  else if !conditionOk s op target ∨ !patternOk s op target then (Rs.ok, wr s Obj.TEST_STATE 0 (Ts.refused : Nat))
  else
    let a := wr (wr (wrBytes (wr s Obj.TEST_STATE 0 (Ts.running : Nat)) Obj.TEST_LANE_ERRORS 0 []) Obj.TEST_BITS 0 0) Obj.TEST_ERRORS 0 0
    let b := if op = 5 then { a with cache := { a.cache with rc := a.cache.rc.filter (fun e => sliceOf (e.1 / 2 ^ 40) (e.1 % 2 ^ 40) != target) } } else a
    (Rs.ok, modPower b (fun x => { x with test := some { op := op, target := target, started := s.now } }))

/-- HOST_PRBS (R569). -/
def execHostPrbs (s : State) : Host.Outcome State Fault Refusal :=
  .next (testOp s 1).2

/-- DRIVE_PRBS (R569). -/
def execDrivePrbs (s : State) : Host.Outcome State Fault Refusal :=
  .next (testOp s 2).2

/-- CULVERT_PRBS (R569). -/
def execCulvertPrbs (s : State) : Host.Outcome State Fault Refusal :=
  .next (testOp s 3).2

/-- CULVERT_LOOPBACK (R569). -/
def execCulvertLoopback (s : State) : Host.Outcome State Fault Refusal :=
  .next (testOp s 4).2

/-- HBM_PATTERN: the stack's read cache is emptied first (R569). -/
def execHbmPattern (s : State) : Host.Outcome State Fault Refusal :=
  .next (testOp s 5).2

/-- CISTERN_SELFTEST (R569, R201). -/
def execCisternSelftest (s : State) : Host.Outcome State Fault Refusal :=
  .next (testOp s 6).2

/-- The running test ends: TEST_STATE, and what the checkers counted (R570); a Cistern self-test sets the usable dies. -/
def endTest (s : State) (st : Nat) (x : TestItem) : State :=
  match s.power.test with
  | none => s
  | some t =>
    let a := wrBytes (wr (wr (wr s Obj.TEST_STATE 0 st) Obj.TEST_BITS 0 x.bits) Obj.TEST_ERRORS 0 x.errors) Obj.TEST_LANE_ERRORS 0 ((x.lanes.take 16).flatMap (leBytes 8))
    let b := modPower a (fun y => { y with test := none })
    if t.op = 6 ∧ st = Ts.done then setDies b x.dies else b

/-- TEST_STOP: a write of the object ends the test as DONE. -/
def execTestStop (x : TestItem) (s : State) : Host.Outcome State Fault Refusal :=
  .next (endTest s Ts.done x)

/-- TEST_DURATION_EXPIRY: TEST_DURATION has elapsed (R569). -/
def execTestDurationExpiry (x : TestItem) (s : State) : Host.Outcome State Fault Refusal :=
  .next (endTest s Ts.done x)

/-- TEST_CONDITION_LOST: the test loses its condition and ends as ABORTED (R570). -/
def execTestConditionLost (x : TestItem) (s : State) : Host.Outcome State Fault Refusal :=
  .next (endTest s Ts.aborted x)

/-- JTAG_INSTRUCTION: EXTEST, CLAMP and HIGHZ take effect only while RESET_N is asserted, and otherwise act as BYPASS (R571). -/
def execJtagInstruction (op : JtagOp) (s : State) : Host.Outcome State Fault Refusal :=
  .next (modPower s (fun x => { x with jtag := if x.resetN then op else boundaryOff op }))

end Sys2Proof.Machine
end

