-- ==== Sys2Proof/Machine/Objval.lean ====
section
/-! DEFINITION. What a read of an object gives (R14 to R16, R51, R89 and the object tables): scalar registers, and the objects whose value follows from the rest of the state. -/

namespace Sys2Proof.Machine

open Sys2Proof

/-! ## Objects and widths -/

/-- An object is this one. -/
def isObj (o x : ObjDesc) : Bool :=
  o.index == x.index && o.sub == x.sub

/-- An object is one of these. -/
def oneOfObjs (o : ObjDesc) (l : List ObjDesc) : Bool :=
  l.any (isObj o)

/-- Width in bytes of a fixed-width type; 0 for STR, BLOB and TAB (Table 00-4). -/
def OTy.width : OTy → Nat
  | .u8 => 1
  | .bool => 1
  | .u16 => 2
  | .u32 => 4
  | .i32 => 4
  | .u64 => 8
  | .str => 0
  | .blob => 0
  | .tab => 0

/-- Most bytes of a value of a type (Table 00-4). -/
def OTy.most : OTy → Nat
  | .str => 64
  | .blob => 65536
  | .tab => 1048576
  | t => t.width

/-- TYPE of a directory row (Table 02-12). -/
def OTy.code : OTy → Nat
  | .u8 => 1
  | .u16 => 2
  | .u32 => 3
  | .u64 => 4
  | .i32 => 5
  | .bool => 6
  | .str => 7
  | .blob => 8
  | .tab => 9

/-- ACCESS of a directory row (Table 02-12). -/
def Acc.code : Acc → Nat
  | .ro => 1
  | .rw => 2
  | .wo => 3
  | .rwo => 4
  | .const => 5

/-- A TENANT may read the object (Table 02-12, FLAGS bit 4). -/
def ObjDesc.tenantMay (o : ObjDesc) : Bool :=
  o.tenant || o.tenantRead

/-- FLAGS of a directory row (Table 02-12). -/
def ObjDesc.flags (o : ObjDesc) : Nat :=
  b2n o.persistent + 2 * b2n o.staged + 4 * b2n o.pairScope + 8 * b2n o.health + 16 * b2n o.tenantMay + 32 * b2n o.inband

/-- Instances 14 and 15 of 0x1110 are not implemented (Table 02-13). -/
def ObjDesc.instanceOk (o : ObjDesc) (i : Nat) : Bool :=
  decide (o.lo ≤ i ∧ i ≤ o.hi) && !(o.index == 0x1110 && (i == 14 || i == 15))

/-- INSTANCE_COUNT (Table 02-12). -/
def ObjDesc.instances (o : ObjDesc) : Nat :=
  o.hi + 1 - o.lo - (if o.index = 0x1110 then 2 else 0)

/-- A directory row (Table 02-12). -/
def dirRow (o : ObjDesc) : Bytes :=
  leBytes 2 o.index ++ leBytes 2 o.instances ++ leBytes 1 o.sub ++ leBytes 1 o.ty.code ++ leBytes 1 o.acc.code ++ leBytes 1 o.flags ++ zeros 8

/-- The objects of an index. -/
def objsOf (index : Nat) : List ObjDesc :=
  objTable.filter (fun o => o.index == index)

/-- Sub-index 0x00 of the index of an object: a read-only U8, with the lowest privilege and the HEALTH flag of any sub-index (R51). -/
def zeroObj (o : ObjDesc) : ObjDesc :=
  let l := objsOf o.index
  { o with sub := 0, ty := .u8, acc := .ro, persistent := false, staged := false, pairScope := false, inband := false, health := l.any ObjDesc.health, tenant := l.any ObjDesc.tenantMay, tenantRead := false }

/-- The objects with their sub-index 0x00, each index's in ascending order: what Table 02-12 lists. -/
def directoryObjs : List ObjDesc :=
  objTable.flatMap (fun o => if (objsOf o.index).head?.any (fun x => x.sub == o.sub) then [zeroObj o, o] else [o])

/-- OBJECT_DIRECTORY: every object and its sub-index 0x00, for a TENANT those with the TENANT flag (R89). -/
def directory (tenant : Bool) : Bytes :=
  (directoryObjs.filter (fun o => !tenant || o.tenantMay)).flatMap dirRow

/-- Sub-index 0x00 of an index: the highest sub-index it implements (R51). -/
def highestSub (index : Nat) : Nat :=
  ((objsOf index).map ObjDesc.sub).foldl max 0

/-! ## Values that follow from the state -/

/-- Sectors that a map entry points at. -/
def entrySectors (s : State) (key : Nat) : Entry → Nat
  | .array .. => grainSize s (key / 2 ^ 40)
  | .prot _ => grainSize s (key / 2 ^ 40)
  | .unmapped => 0
  | .lost => 0

/-- VOLUME_USED: sectors of a volume that the map points at. -/
def volUsed (s : State) (v : Nat) : Nat :=
  ((s.map.entries.filter (fun e => e.1 / 2 ^ 40 == v)).map (fun e => entrySectors s e.1 e.2)).sum

/-- POOL_LIVE_SECTORS: the same for a pool. -/
def poolLive (s : State) (p : Nat) : Nat :=
  ((s.map.entries.filter (fun e => rdN s Obj.VOLUME_POOL (e.1 / 2 ^ 40) == p)).map (fun e => entrySectors s e.1 e.2)).sum

/-- DREDGE_REKEY_PENDING: live sectors of a pool under a generation that is not their slot's current one (R171). -/
def rekeyPending (s : State) (p : Nat) : Nat :=
  (s.map.vers.filter (fun e => e.2.encrypted && rdN s Obj.VOLUME_POOL (e.1 / 2 ^ 40) == p && e.2.keyGen != rdN s Obj.KEY_GEN_CURRENT e.2.keySlot &&
    (match entryOfGrain s (grainKey s (e.1 / 2 ^ 40) (e.1 % 2 ^ 40)) with
      | .array .. => true
      | .prot _ => true
      | _ => false))).length

/-- REDUCED_MIN_TOLERANCE: the lowest tolerance of a reduced segment, POOL_TOLERANCE without one (R245). -/
def reducedMin (s : State) (p : Nat) : Nat :=
  ((reducedSegs s p).map (fun e => tolerance s p e.2)).foldl min (rdN s Obj.POOL_TOLERANCE p)

/-- PAIR_CATCHUP_BYTES: catch-up copies of a pool that wait to be sent (R414). -/
def catchUpBytes (s : State) (p : Nat) : Nat :=
  4096 * (s.pair.link.queue.filter (fun x => match x.msg with
    | .mirrorData q _ fl .. => q == p && bitAt fl Mf.catchUp
    | _ => false)).length

/-- FUNC_HELD_COMPLETIONS: completions built that the function may not write (R357). -/
def heldCompletions (s : State) (f : Nat) : Nat :=
  if canMaster s f then 0 else ((fnQps s f).map (fun q => (qpOf s q).cpl.length)).sum

/-- KEY_VOLUMES: existing volumes that name a key slot. -/
def keyVolumes (s : State) (k : Nat) : Nat :=
  ((existing s).filter (fun v => rdN s Obj.VOLUME_KEY_SLOT v == k)).length

/-- POOLS_NOT_ONLINE: configured pools that are not ONLINE. -/
def poolsNotOnline (s : State) : Nat :=
  ((List.range 8).filter (fun p => poolState s p != Ps.notConfigured && poolState s p != 1)).length

/-- MEMBERS_FAILED. -/
def membersFailed (s : State) : Nat :=
  ((List.range 512).filter (fun i => rdN s Obj.MEMBER_STATE i == Ms.failed)).length

/-- The oldest record of a store. -/
def oldestSeq (l : List EvRec) : Nat :=
  match l with
  | [] => 0
  | r :: _ => r.seq

/-- PATROL_STATE: YIELDING while a rebuild of the pool takes its share (Table 06-4). -/
def patrolState (s : State) (p : Nat) : Nat :=
  if !mayPatrol s p then 0 else if rdN s Obj.REBUILD_STATE p = 1 then 2 else 1

/-- Sensors, and counts of corrected errors that no rule relates to a command, and of HBM traffic, whose values no command carries: free values. -/
def measuredObjs : List ObjDesc :=
  [Obj.P12V_VOLTAGE, Obj.P12V_CURRENT, Obj.P3V3_AUX_VOLTAGE, Obj.MODULE_INPUT_POWER, Obj.QUADRANT_POWER, Obj.HBM_CE, Obj.HBM_ROWS_REPAIRED, Obj.HBM_BYTES_READ, Obj.HBM_BYTES_WRITTEN, Obj.SLICE_CE, Obj.PORT_CORRECTED_ERRORS, Obj.DPORT_CORRECTED_ERRORS]

/-! ### HEALTH_SUMMARY (Table 02-13): a condition is active while the state stands whose start the spec reports with an event, and has that event's severity. -/

/-- Conditions that begin with an ALARM event. -/
def alarmActive (s : State) : Bool :=
  rdN s Obj.STARTUP_FAULT 0 != 0 || s.power.tripped || s.power.lossHeld || rdN s Obj.CISTERN_STATE 0 == Cs.fault || decide (rdN s Obj.ILOG_STATE 0 ≥ 2) ||
  rdN s Obj.TAMPER_LATCH 0 != 0 || (List.range 4).any (fun q => rdN s Obj.HBM_STACK_STATE q == 3)

/-- Conditions that begin with an ERROR event. -/
def errorActive (s : State) : Bool :=
  decide (membersFailed s > 0) || rdB s Obj.THERM_ALERT_ACTIVE 0 || rdB s Obj.BOOT_FALLBACK 0 || rdN s Obj.PACK_STATE 0 == Pk.absent || rdN s Obj.PACK_STATE 0 == Pk.fault ||
  !allZero (rdBytes s Obj.BIST_ENGINES_FAILED 0) || (List.range 4).any (fun q => rdN s Obj.PIPE_STATE q == 1) || (List.range 8).any (fun p => rdN s Obj.LOST_STRIPES p != 0)

/-- Conditions that begin with a WARN event. -/
def warnActive (s : State) : Bool :=
  rdN s Obj.PACK_STATE 0 == Pk.stale || s.pack.agedEsr || s.pack.agedCap || decide (rdN s Obj.WEIR_CURRENT 0 < rdN s Obj.OWN_DIRTY_BYTES 0) ||
  (List.range 8).any (fun p => (poolOf s p).mapHold || rdB s Obj.DREDGE_PACING p)

/-- HEALTH_SUMMARY: the highest severity among active conditions. -/
def healthSummary (s : State) : Nat :=
  if alarmActive s then 3 else if errorActive s then 2 else if warnActive s then 1 else 0

/-- INPUT_LEVELS: RESET_N, ACFAIL_N and PAIR_SIDE as held, the other inputs by what the state holds of them. The fence inputs read high while the partner does not drive them low, by their pull-ups (Table 15-3, R525). -/
def inputLevels (s : State) : Nat :=
  [(2, !s.key.enclosure), (3, rdB s Obj.OOB_WRITE_ENABLED 0), (5, !(hostPort s 0).perst), (6, !(hostPort s 1).perst),
   (7, !bitAt (rdN s Obj.PAIR_FENCE_STATE 0) 1), (8, !bitAt (rdN s Obj.PAIR_FENCE_STATE 0) 3)].foldl (fun n e => withBit n e.1 e.2) (rdN s Obj.INPUT_LEVELS 0)

/-- VDD_Qn in mV for a divider: the limits of Table 15-11. -/
def vddLimits (d : Nat) : Nat × Nat :=
  if d = 1 then (830, 850) else if d = 2 then (720, 760) else (650, 670)

/-- VDD_Q_MEASURED: a free value within the limits of the divider in effect, and while an epoch may move it within all that the regulator ever sets (R539, R540). -/
def vddMeasured (s : State) (q : Nat) : Nat :=
  let (lo, hi) := if rdN s Obj.EPOCH_STATE 0 = 0 then vddLimits (rdN s Obj.QUADRANT_DIVIDER_IN_EFFECT q) else (650, 850)
  lo + Config.measured (Obj.VDD_Q_MEASURED.key q) s.freeCtr % (hi - lo + 1)

/-- Device-wide objects whose value follows from the state. -/
def derivedDevice (s : State) (o : ObjDesc) : Option Nat :=
  if isObj o Obj.POOLS_NOT_ONLINE then some (poolsNotOnline s)
  else if isObj o Obj.MEMBERS_FAILED then some (membersFailed s)
  else if isObj o Obj.EVENT_SEQ then some s.ev.seq
  else if isObj o Obj.INPUT_LEVELS then some (inputLevels s)
  else if isObj o Obj.UPTIME then some (uptime s / 1000000)
  else if isObj o Obj.HEALTH_SUMMARY then some (healthSummary s)
  else if isObj o Obj.MAP_DIR_LIMIT then some (dirLimit s)
  else if isObj o Obj.GLOBAL_POOL_IN_USE then some (poolInUse s)
  else if isObj o Obj.SLUICE_WAITING then some ((s.qps.map (fun e => e.2.queue.length)).sum)
  else if isObj o Obj.QPS_ENABLED then some ((s.qps.filter (fun e => qpState s e.1 != Qs.disabled)).length)
  else if isObj o Obj.EVENT_WINDOWS_OPEN then some s.ev.windows.length
  else if isObj o Obj.EVENT_STORE_OLDEST then some (oldestSeq s.ev.store)
  else if isObj o Obj.EVENT_STORE_COUNT then some s.ev.store.length
  else if isObj o Obj.ALARM_STORE_OLDEST then some (oldestSeq s.ev.alarms)
  else if isObj o Obj.ALARM_STORE_COUNT then some s.ev.alarms.length
  else none

/-- Objects of an instance whose value follows from the state. -/
def derivedInstance (s : State) (o : ObjDesc) (i : Nat) : Option Nat :=
  if isObj o Obj.CODE_TABLE_USERS then some (tableUsers s i)
  else if isObj o Obj.POOL_ALLOCATED then some (allocated s i)
  else if isObj o Obj.POOL_LIVE_SECTORS then some (poolLive s i)
  else if isObj o Obj.VOLUME_USED then some (volUsed s i)
  else if isObj o Obj.SEGMENT_SLOTS_USED then some (poolOf s i).segs.length
  else if isObj o Obj.DREDGE_REKEY_PENDING then some (rekeyPending s i)
  else if isObj o Obj.REBUILD_AT_RISK_SEGMENTS then some (atRisk s i).length
  else if isObj o Obj.REDUCED_SEGMENTS then some (reducedSegs s i).length
  else if isObj o Obj.REDUCED_MIN_TOLERANCE then some (reducedMin s i)
  else if isObj o Obj.RESHAPE_SEGMENTS_LEFT then
    some (match (poolOf s i).reshape with
      | some r => (toMigrate s i r).length
      | none => 0)
  else if isObj o Obj.SLICE_DIRTY_LINES then some (dirtyLines s i)
  else if isObj o Obj.VDD_Q_MEASURED then some (vddMeasured s i)
  else if isObj o Obj.PATROL_STATE then some (patrolState s i)
  else if isObj o Obj.TAGS_OUTSTANDING then some (tagMask (qpOf s i))
  else if isObj o Obj.FUNC_PORT then some (fnPort i)
  else if isObj o Obj.FUNC_HELD_COMPLETIONS then some (heldCompletions s i)
  else if isObj o Obj.PAIR_CATCHUP_BYTES then some (catchUpBytes s i)
  else if isObj o Obj.KEY_PREV_SECTORS then some (prevSectors s i)
  else if isObj o Obj.KEY_VOLUMES then some (keyVolumes s i)
  else if isObj o Obj.EVENT_SUB_QUEUED then some (Tbl.getD s.ev.subs i []).length
  else if measuredObjs.any (isObj o) then some (Config.measured (o.key i) s.freeCtr)
  else none

/-- What a numeric object reads. -/
def readNum (s : State) (o : ObjDesc) (i : Nat) : Int :=
  if o.acc = .wo then 0
  else match derivedDevice s o with
    | some n => n
    | none => match derivedInstance s o i with
      | some n => n
      | none => rd s o i

/-! ## STR, BLOB and TAB objects -/

/-- A row of EPOCH_STAGED (Table 02-11). -/
def stagedRow (e : Staged) : Bytes :=
  leBytes 2 (keyIndex e.key) ++ leBytes 2 (keyInst e.key) ++ leBytes 1 (keySub e.key) ++ leBytes 1 (b2n e.pair) ++ zeros 2 ++ leBytes 4 e.val.size ++ zeros 4

/-- A row of LOST_LIST (R252). -/
def lostRow (r : LostRange) : Bytes :=
  leBytes 2 r.vol ++ leBytes 1 r.reason ++ zeros 1 ++ leBytes 5 r.lba ++ zeros 3 ++ leBytes 4 r.count

/-- A row of TAG_OUTCOME (R304). -/
def outcomeRow (x : Qp) (t : Nat) : Bytes :=
  match Tbl.get x.outcomes t with
  | some (sr, st) => leBytes 2 sr ++ leBytes 2 st ++ leBytes 1 1 ++ zeros 3
  | none => zeros 8

/-- The 32 bins of a histogram (R597). -/
def histRows (s : State) (key : Nat) : Bytes :=
  (List.range 32).flatMap (fun b => leBytes 8 (Tbl.getD s.ev.hist (key * 32 + b) 0))

/-- A level-2 counter word. -/
def deviceCounter (s : State) (n : Nat) : Nat :=
  if freeCounter n then Config.freeCounter n s.freeCtr % 2 ^ 48 else Tbl.getD s.ev.device n 0

/-- A histogram object. -/
def isHist (o : ObjDesc) : Bool :=
  [Obj.QP_READ_HISTOGRAM, Obj.QP_WRITE_HISTOGRAM, Obj.VOL_READ_HISTOGRAM, Obj.VOL_WRITE_HISTOGRAM].any (isObj o)

/-- Length of the objects whose default is all zero and whose length is fixed. -/
def fixedLength (o : ObjDesc) : Nat :=
  if isObj o Obj.CODE_TABLE_DATA then 768
  else if isObj o Obj.STARTUP_TIMES then 40
  else if isObj o Obj.BIST_ENGINES_FAILED then 128
  else if [Obj.ETH_IPV6_ADDR, Obj.POOL_UUID, Obj.MEMBER_NGUID, Obj.DRIVE_NGUID, Obj.EPOCH_LAGGARDS].any (isObj o) then 16
  else 0

/-- What a STR, BLOB or TAB object holds. The reads of R590 and R592 produce their value themselves. -/
def readBytes (s : State) (o : ObjDesc) (i : Nat) (tenant : Bool) : Bytes :=
  if o.acc = .wo then []
  else if isObj o Obj.OBJECT_DIRECTORY then directory tenant
  else if isObj o Obj.EPOCH_STAGED then s.ep.staged.flatMap stagedRow
  else if isObj o Obj.LOST_LIST then (poolOf s i).lost.flatMap lostRow
  else if isObj o Obj.TAG_OUTCOME then (List.range 32).flatMap (outcomeRow (qpOf s i))
  else if isObj o Obj.DEVICE_COUNTERS then (List.range 1024).flatMap (fun n => leBytes 8 (deviceCounter s n))
  else if isObj o Obj.DEVICE_COUNTER_NAMES then padTo 32768 (Config.counterNames.take 32768)
  else if isObj o Obj.EVENT_CATALOGUE then Config.eventCatalogue
  else if isHist o then histRows s (o.key i)
  else
    let b := rdBytes s o i
    if b.isEmpty then zeros (fixedLength o) else b

/-- The bytes of a number of a type, lowest first, two's complement (R7, Table 00-4). -/
def encodeNum (t : OTy) (v : Int) : Bytes :=
  leBytes t.width (v % (2 ^ (8 * t.width) : Nat)).toNat

/-- What an object holds, as bytes. -/
def readObj (s : State) (o : ObjDesc) (i : Nat) (tenant : Bool) : Bytes :=
  if o.ty.width = 0 then readBytes s o i tenant else encodeNum o.ty (readNum s o i)

/-- What a read with STAGED_VIEW gives: the staged value of an epoch-staged object, else the applied one (R76). -/
def readStaged (s : State) (o : ObjDesc) (i : Nat) (tenant : Bool) : Bytes :=
  match s.ep.staged.find? (fun e => e.key == o.key i) with
  | some e => (match e.val with
    | .num n => encodeNum o.ty n
    | .bytes b => b)
  | none => readObj s o i tenant

end Sys2Proof.Machine
end

