-- ==== Sys2Proof/Machine/Hooks.lean ====
section
/-! DEFINITION. What a write to an object meets and does: the access, range and encoding checks of R49 with the refusals that each chapter's object table adds, and the effect of the write (R50, R52). -/

namespace Sys2Proof.Machine

open Sys2Proof

/-- The state after an outcome; a meaning that stops leaves `s`. -/
def took (s : State) : Host.Outcome State Fault Refusal → State
  | .next t => t
  | .fault _ => s
  | .refused _ => s

/-! ## Access (R16, R52) -/

/-- The owner of an RWO object is out of service: its pool NOT_CONFIGURED or OFFLINE, its QP DISABLED (R52). -/
def ownerIdle (s : State) (o : ObjDesc) (i : Nat) : Bool :=
  if o.index = 0x2800 then poolState s i == Ps.notConfigured || poolState s i == Ps.offline
  else qpState s i == Qs.disabled

/-- A lane group has a port that holds a member of a configured pool (R376). -/
def groupHeld (s : State) (g : Nat) : Bool :=
  (groupPorts g).any (fun port => match memberOf s port with
    | some (p, _) => poolState s p != Ps.notConfigured
    | none => false)

/-- The volume exists (R125). -/
def volExists (s : State) (v : Nat) : Bool :=
  (existing s).contains v

/-- Objects that a pack in use keeps fixed (R519). -/
def packFixed : List ObjDesc :=
  [Obj.PACK_CHEMISTRY, Obj.PACK_NOMINAL_CAPACITANCE, Obj.PACK_NOMINAL_CAPACITY, Obj.PACK_SHUNT]

/-- Volume settings fixed once the volume exists (R125). -/
def volFixed : List ObjDesc :=
  [Obj.VOLUME_POOL, Obj.VOLUME_GRAIN, Obj.VOLUME_KEY_SLOT, Obj.VOLUME_TAGGED]

/-- A write of a firmware object meets the running slot, no chosen slot, or a slot without a verified image (R556). -/
def fwRefused (s : State) (o : ObjDesc) (i : Nat) (n : Nat) : Bool :=
  if isObj o Obj.FW_UPDATE_SLOT then (fwUpdateSlot s n).1 == Rs.access
  else if isObj o Obj.FW_SLOT_ERASE ∨ isObj o Obj.FW_SLOT_VERIFY then runningSlot s == some i
  else if isObj o Obj.FW_SLOT_DATA then (fwData s i (zeros 65536)).1 == Rs.access
  else if isObj o Obj.BOOT_SLOT_PREFERRED then (preferSlot s n).1 == Rs.access
  else false

/-- The states in which an object's table refuses a write with ACCESS. -/
def stateRefuses (s : State) (o : ObjDesc) (i : Nat) (v : Val) : Bool :=
  let n := v.number.toNat
  if isObj o Obj.FACTORY_DEFAULTS then (List.range 8).any (fun p => poolState s p != Ps.notConfigured && poolState s p != Ps.offline)
  else if isObj o Obj.CODE_TABLE_DATA then rdN s Obj.CODE_CHECK_STATE i == Ct.checking || tableUsers s i != 0
  else if isObj o Obj.CODE_CHECK_START then rdN s Obj.CODE_CHECK_STATE i != Ct.checking && rdN s Obj.CODE_CHECK_STATE i != Ct.loaded
  else if isObj o Obj.MEMBER_PORT ∨ isObj o Obj.MEMBER_NSID then rdN s Obj.MEMBER_STATE i != Ms.none && poolState s (i / 64) != Ps.notConfigured
  else if oneOfObjs o volFixed then volExists s i
  else if isObj o Obj.VOLUME_CAPACITY then capacityResult s i n == Rs.access
  else if isObj o Obj.QP_MODE then qpState s i == Qs.resetting || qpState s i == Qs.halted
  else if isObj o Obj.QP_FUNCTION ∨ isObj o Obj.QP_LOCAL_INDEX then decide (i < 2)
  else if isObj o Obj.VF_QP_PAGES then (hostPort s i).vfEnable
  else if isObj o Obj.DRIVE_GROUP_WIDTH ∨ isObj o Obj.DRIVE_CLOCK_MODE then groupHeld s i
  else if isObj o Obj.PORT_RELEASE then rdN s Obj.DPORT_STATE i != Dp.contained
  else if isObj o Obj.PAIR_TAKEOVER then (poolsIn s Role.partner).isEmpty
  else if isObj o Obj.TAMPER_CLEAR then !Config.tamperQuiet s.freeCtr
  else if oneOfObjs o packFixed then rdB s Obj.PACK_ENABLE 0
  else fwRefused s o i n

/-- A write to the object is refused with ACCESS (R16, R49, R52). -/
def accessRefuses (s : State) (o : ObjDesc) (i : Nat) (v : Val) : Bool :=
  match o.acc with
  | .ro => true
  | .const => true
  | .rwo => !ownerIdle s o i || stateRefuses s o i v
  | .rw => stateRefuses s o i v
  | .wo => stateRefuses s o i v

/-! ## Range and encodings -/

/-- A number lies in a range; reserved encodings are not judged here. -/
def Rng.holds (r : Rng) (n : Int) : Bool :=
  match r with
  | .any => true
  | .btw lo hi => decide (lo ≤ n ∧ n ≤ hi)
  | .btwOr lo hi e => decide (lo ≤ n ∧ n ≤ hi) || n == e
  | .pow2 lo hi => decide (lo ≤ n ∧ n ≤ hi) && isPow2 n.toNat
  | .mult lo hi m => decide (lo ≤ n ∧ n ≤ hi) && n % m == 0
  | .oneOf l => l.contains n
  | .enum _ => true
  | .bits _ => true
  | .lenEq _ => true
  | .lenMax _ => true
  | .rows .. => true

/-- A byte string lies in a range of lengths. -/
def Rng.holdsBytes (r : Rng) (b : Bytes) : Bool :=
  match r with
  | .lenEq k => b.length == k
  | .lenMax k => decide (b.length ≤ k)
  | .rows lo hi w => decide (lo * w ≤ b.length ∧ b.length ≤ hi * w)
  | _ => true

/-- A value carries a reserved encoding: a BOOL other than 0 and 1, an enumeration or a bit that its table does not list (R9, Table 00-4). -/
def reservedValue (o : ObjDesc) (v : Val) : Bool :=
  match v with
  | .bytes b => isObj o Obj.CODE_TABLE_DATA && !tableReservedZero b
  | .num n => (o.ty == .bool && n != 0 && n != 1) || (match o.rng with
    | .enum l => !l.contains n
    | .bits m => n.toNat &&& m != n.toNat
    | _ => false)

/-- Width of a row of a TAB whose object is writable. -/
def Rng.rowWidth : Rng → Nat
  | .rows _ _ w => w
  | _ => 1

/-- Numbers strictly ascend. -/
def ascending : List Int → Bool
  | [] => true
  | [_] => true
  | a :: b :: l => decide (a < b) && ascending (b :: l)

/-- PACK_DERATE_TABLE: rows in ascending temperature, factors of at most 1,000 (R513). -/
def derateOk (b : Bytes) : Bool :=
  ascending ((rows10 b).map (fun r => signed16 (fieldAt r 0 2))) && (rows10 b).all (fun r => [2, 4, 6, 8].all (fun x => decide (fieldAt r x 2 ≤ 1000)))

/-- PACK_OCV_TABLE: rows in ascending state of charge (R511). -/
def ocvOk (b : Bytes) : Bool :=
  ascending ((rows10 b).map (fun r => (fieldAt r 0 2 : Int)))

/-- The sum of DRIVE_QUEUE_DEPTH over existing ports, with port `i` at `n`, exceeds 65,536 (R383). -/
def depthTooLarge (s : State) (i n : Nat) : Bool :=
  decide ((((List.range 64).filter (portExists s)).map (fun p => if p = i then n else rdN s Obj.DRIVE_QUEUE_DEPTH p)).sum > 65536)

/-- Ranges that depend on other objects. -/
def stateRange (s : State) (o : ObjDesc) (i : Nat) (v : Val) : Bool :=
  let n := v.number.toNat
  if isObj o Obj.VOLUME_CAPACITY then capacityResult s i n != Rs.range
  else if isObj o Obj.VOLUME_FUNCTION_A then n == 0xFFFF || n != rdN s Obj.VOLUME_FUNCTION_B i
  else if isObj o Obj.VOLUME_FUNCTION_B then n == 0xFFFF || n != rdN s Obj.VOLUME_FUNCTION_A i
  else if isObj o Obj.DRIVE_QUEUE_DEPTH then !depthTooLarge s i n
  else if isObj o Obj.PACK_ENABLE then n != 1 || packValid s
  else if isObj o Obj.DREDGE_START then decide (n ≥ rdN s Obj.DREDGE_FLOOR i + 2)
  else if isObj o Obj.PACK_ESR_FAULT then decide (n > rdN s Obj.PACK_ESR_WARN 0)
  else if isObj o Obj.THERM_ALERT_TEMP then decide (n > rdN s Obj.THERM_STEP_TEMP 0)
  else if isObj o Obj.EVENT_RING_ENABLE then n != 1 || ringChecks s i
  else if isObj o Obj.PATH_MIN_SEVERITY then i != 0 || n == 1
  else match v with
    | .num _ => true
    | .bytes b => if isObj o Obj.PACK_DERATE_TABLE then derateOk b else if isObj o Obj.PACK_OCV_TABLE then ocvOk b else true

/-- The value lies within the object's range. -/
def valueInRange (s : State) (o : ObjDesc) (i : Nat) (v : Val) : Bool :=
  (match v with
    | .num n => o.rng.holds n
    | .bytes b => o.rng.holdsBytes b) && stateRange s o i v

/-! ## What else a write meets -/

/-- The entry that a write puts into the staged set. -/
def stagedOf (o : ObjDesc) (i : Nat) (v : Val) : Staged :=
  { key := o.key i, val := v, pair := o.pairScope }

/-- Starts that a running maintenance operation refuses (R491). -/
def maintStarts : List ObjDesc :=
  [Obj.CACHE_MAINT_OP, Obj.LOCK_ACTION, Obj.CACHE_WAYS_ENABLED, Obj.CACHE_FRAME_WAYS, Obj.SLICE_WAY_REENABLE]

/-- BUSY, SCOPE, TOO_LARGE and the ordered refusals of a commit. -/
def busyCode (s : State) (o : ObjDesc) (i : Nat) (v : Val) : Nat :=
  let n := v.number.toNat
  if o.staged then (stageWrite s (stagedOf o i v)).1
  else if isObj o Obj.EPOCH_COMMIT then commitResult s n false
  else if isObj o Obj.EPOCH_COMMIT_PAIR then commitResult s n true
  else if isObj o Obj.EPOCH_DISCARD then (if epochState s = Es.idle then Rs.ok else Rs.busy)
  else if isObj o Obj.CODE_CHECK_START then (if rdN s Obj.CODE_CHECK_STATE i = Ct.checking then Rs.busy else Rs.ok)
  else if isObj o Obj.POOL_ACTION then (if (poolOf s i).action.isSome then Rs.busy else Rs.ok)
  else if oneOfObjs o maintStarts then (if s.cache.maint.isSome then Rs.busy else Rs.ok)
  else if isObj o Obj.PACK_ESR_MEASURE_NOW then (measureNow s).1
  else if isObj o Obj.TEST_OP then (if s.power.test.isSome then Rs.busy else Rs.ok)
  else Rs.ok

/-- The checks of one write from the access code on, in the order of R49. -/
def checkWrite (s : State) (o : ObjDesc) (i : Nat) (v : Val) : Nat :=
  if accessRefuses s o i v then Rs.access
  else if !valueInRange s o i v then Rs.range
  else if reservedValue o v then Rs.malformed
  else busyCode s o i v

/-! ## The effect of a write -/

/-- POOL_ACTION (R97 to R100). -/
def poolAction (s : State) (p n : Nat) : State :=
  took s (if n = 1 then execPoolActionCreate p s else if n = 2 then execPoolActionOnline p s else if n = 3 then execPoolActionOffline p s else execPoolActionDestroy p s)

/-- MEMBER_ACTION (R257). -/
def memberAction (s : State) (i n : Nat) : State :=
  took s (if n = 1 then execMemberAdd (i / 64) (i % 64) s else if n = 2 then execMemberRemove (i / 64) (i % 64) s else execMemberActionFail (i / 64) (i % 64) s)

/-- FACTORY_DEFAULTS: every persistent object takes its default at the next reset (R90). -/
def markFactory (s : State) : State :=
  { s with dict := { s.dict with factory := true } }

/-- A verification of a firmware slot, whose checks of the image find what they find. -/
def verifySlot (s : State) (slot : Nat) : State :=
  (fwVerify (takeFree s) slot (Config.fwImage s.freeCtr)).2

/-- TEST_STOP with what the checkers have counted. -/
def stopTest (s : State) : State :=
  let x := Config.testCounts s.freeCtr
  endTest (takeFree s) Ts.done { bits := x.1, errors := x.2.1, lanes := x.2.2.1, dies := x.2.2.2 }

/-- Writes of the object that start something: WO objects of pools, volumes, members and codes. -/
def poolWrite (s : State) (o : ObjDesc) (i n : Nat) : State :=
  if isObj o Obj.POOL_ACTION then poolAction s i n
  else if isObj o Obj.MEMBER_ACTION then memberAction s i n
  else if isObj o Obj.VOLUME_ACTION then took s (if n = 1 then execVolumeCreate i s else execVolumeDelete i s)
  else if isObj o Obj.CODE_CHECK_START then startCheck s i
  else if isObj o Obj.MAP_CHECKPOINT_NOW then took s (execMapCheckpointNow i s)
  else if isObj o Obj.REBUILD_START then took s (execRebuildStart i s)
  else if isObj o Obj.PATROL_RESTART then took s (execPatrolRestart i s)
  else if isObj o Obj.CISTERN_RESTORE_LOSS_ACK then lossAck s
  else s

/-- The same of rings, ports, the pair, epochs and events. -/
def linkWrite (s : State) (o : ObjDesc) (i n : Nat) : State :=
  if isObj o Obj.EPOCH_COMMIT then commitEpoch s n false
  else if isObj o Obj.EPOCH_COMMIT_PAIR then commitEpoch s n true
  else if isObj o Obj.EPOCH_DISCARD then discardStaged s
  else if isObj o Obj.QP_HALT then took s (execQpHalt i s)
  else if isObj o Obj.PORT_RELEASE then took s (if n = 1 then execPortReleaseRetry i s else execPortReleaseFail i s)
  else if isObj o Obj.PAIR_TAKEOVER then took s (execPairTakeover s)
  else if isObj o Obj.PAIR_FAULT_CLEAR then took s (execPairFaultClear s)
  else if isObj o Obj.PAIR_POOL_HANDOVER then took s (execPairPoolHandover i s)
  else if isObj o Obj.COUNTER_CLEAR then clearCounters n s
  else if isObj o Obj.FACTORY_DEFAULTS then markFactory s
  else s

/-- The same of keys, caches, pack, reset, firmware and tests. -/
def unitWrite (s : State) (o : ObjDesc) (i n : Nat) : State :=
  if isObj o Obj.PIPE_CLEAR then took s (execPipeClear i (Config.pipePass s.freeCtr) (takeFree s))
  else if isObj o Obj.TAMPER_CLEAR then (tamperClear (takeFree s) n (Config.tamperQuiet s.freeCtr)).2
  else if isObj o Obj.SLICE_WAY_REENABLE then (reenableWays s i n).2
  else if isObj o Obj.CACHE_MAINT_OP then (maintOp s n).2
  else if isObj o Obj.LOCK_ACTION then (if n = 1 then lockPreload s i else lockUnlock s i).2
  else if isObj o Obj.PACK_RESET_LEARNING then resetLearning s
  else if isObj o Obj.PACK_ESR_MEASURE_NOW then (measureNow s).2
  else if isObj o Obj.DEVICE_RESET then (deviceReset s n).2
  else if isObj o Obj.FW_SVN_COMMIT then (svnCommit s n).2
  else if isObj o Obj.FW_SLOT_ERASE then (fwErase s i).2
  else if isObj o Obj.FW_SLOT_VERIFY then verifySlot s i
  else if isObj o Obj.TEST_OP then (testOp s n).2
  else if isObj o Obj.TEST_STOP then stopTest s
  else s

/-- A write to a WO object. -/
def actionWrite (s : State) (o : ObjDesc) (i n : Nat) : State :=
  unitWrite (linkWrite (poolWrite s o i n) o i n) o i n

/-- Inputs of the Weir and of the Cistern's readiness (R185, R201). -/
def weirInputs : List ObjDesc :=
  [Obj.WEIR_LIMIT, Obj.WEIR_MARGIN, Obj.WEIR_FORCE_WRITE_THROUGH, Obj.PS_RIDE_THROUGH_WINDOW, Obj.CISTERN_LEAF_TAIL_MAX]

/-- What follows a stored setting: the Weir and the Cistern are computed anew, charging follows its limits, a spare that may now be taken is, surplus lanes seal (R174), the Dredger follows its thresholds (R166), and a superblock takes new settings (R131). -/
def afterSetting (s : State) (o : ObjDesc) (i : Nat) : State :=
  if isObj o Obj.PS_RIDE_THROUGH_WINDOW then recomputeWeir (wr s Obj.PACK_RIDE_RESERVE 0 (340 * rdN s Obj.PS_RIDE_THROUGH_WINDOW 0 : Nat))
  else if isObj o Obj.CISTERN_LEAF_TAIL_MAX then noteCistern s
  else if oneOfObjs o weirInputs then recomputeWeir s
  else if isObj o Obj.POOL_AUTO_SPARE then offerSpare s
  else if isObj o Obj.PLACE_HOST_LANES || isObj o Obj.PLACE_DREDGE_LANES then sealSurplus s i
  else if isObj o Obj.DREDGE_ENABLE || isObj o Obj.DREDGE_START || isObj o Obj.DREDGE_FLOOR then noteDredger s i
  else if isObj o Obj.POOL_CODE_TABLE || isObj o Obj.POOL_K then modPool s i (fun x => { x with edited := true })
  else if isObj o Obj.POOL_REBUILD_RESERVE || isObj o Obj.POOL_OVERPROVISION then (if poolServes s i then writeSuper s i else modPool s i (fun x => { x with edited := true }))
  else if o.index = 0x1900 then noteCharge s
  else s

/-- A write to an RW or RWO object of a numeric type: most store the value, some have behaviour of their own. -/
def settingWrite (s : State) (o : ObjDesc) (i : Nat) (v : Int) : State :=
  let n := v.toNat
  if isObj o Obj.VOLUME_CAPACITY then growVol s i n
  else if isObj o Obj.QP_MODE then setMode i n s
  else if isObj o Obj.DRIVE_GROUP_ENABLE then took s (execDriveGroupEnable i (n == 1) s)
  else if isObj o Obj.KEY_PERSIST then setPersist s n
  else if isObj o Obj.CACHE_WAYS_ENABLED then (setWaysEnabled s n).2
  else if isObj o Obj.CACHE_FRAME_WAYS then (setFrameWays s n).2
  else if isObj o Obj.PACK_ENABLE then (packEnable s (n == 1)).2
  else if isObj o Obj.FW_UPDATE_SLOT then (fwUpdateSlot s n).2
  else if isObj o Obj.BOOT_SLOT_PREFERRED then (preferSlot s n).2
  else if isObj o Obj.EVENT_RING_ENABLE then enableRing i (n == 1) s
  else if isObj o Obj.PATH_MIN_SEVERITY ∧ i ≥ 4 then subscribe (i - 4) n s
  else afterSetting (wr s o i v) o i

/-- A write to an object of a byte type. -/
def bytesWrite (s : State) (o : ObjDesc) (i : Nat) (b : Bytes) : State :=
  if isObj o Obj.CODE_TABLE_DATA then loadTable s i b
  else if isObj o Obj.FW_SLOT_DATA then (fwData s i b).2
  else wrBytes s o i b

/-- The effect of a write that has passed its checks; an operator's write ends module idle (R366). -/
def applyWrite (s : State) (o : ObjDesc) (i : Nat) (v : Val) : State :=
  let t := leaveIdle s
  if o.staged then (stageWrite t (stagedOf o i v)).2
  else match v with
    | .num n => if o.acc = .wo then actionWrite t o i n.toNat else settingWrite t o i n
    | .bytes b => bytesWrite t o i b

/-- A write of one object by an operator, outside a dictionary request: checked, and applied where nothing refuses it. -/
def writeObj (s : State) (o : ObjDesc) (i : Nat) (v : Val) : State :=
  if checkWrite s o i v = Rs.ok then applyWrite s o i v else s

end Sys2Proof.Machine
end

