-- ==== Sys2Proof/Machine/Dictionary.lean ====
section
/-! DEFINITION. The dictionary engine (R48 to R61, R69 to R75, R332, R608): the message format, the checks of a request in order, multi-part writes, session sequences, responses and the ceiling on persistent writes. -/

namespace Sys2Proof.Machine

open Sys2Proof

/-! ## The message (Tables 02-1 to 02-4) -/

/-- OPCODE values. -/
def Dq.read : Nat := 1
def Dq.write : Nat := 2
def Dq.nop : Nat := 3

/-- The header of a request (Table 02-1). -/
structure ReqHead where
  ver      : Nat
  op       : Nat
  seq      : Nat
  count    : Nat
  dlen     : Nat
  resvZero : Bool
deriving DecidableEq, Repr

/-- The header that a request's first 16 bytes spell. -/
def reqHead (b : Bytes) : ReqHead :=
  { ver := fieldAt b 0 1, op := fieldAt b 1 1, seq := fieldAt b 2 2, count := fieldAt b 4 1, dlen := fieldAt b 8 4
    resvZero := allZero (slice b 5 3) && allZero (slice b 12 4) }

/-- An entry of a request with its write data (Tables 02-2 and 02-3). -/
structure ReqEntry where
  index    : Nat
  inst     : Nat
  sub      : Nat
  part     : Nat
  staged   : Bool
  off      : Nat
  len      : Nat
  /-- Bits 7 to 3 of ENTRY_FLAGS, bytes 6 and 7, and the padding after its data are zero. -/
  resvZero : Bool
  data     : Bytes
deriving DecidableEq, Repr

/-- A length rounded up to a multiple of 8. -/
def pad8 (n : Nat) : Nat :=
  (n + 7) / 8 * 8

/-- Length of data whose items start on 8-byte boundaries, without padding after the last one (Table 02-1). -/
def dataLength : List Nat → Nat
  | [] => 0
  | [n] => n
  | n :: l => pad8 n + dataLength l

/-- LENGTH of each of `n` entries. -/
def entryLengths (b : Bytes) (n : Nat) : List Nat :=
  (List.range n).map (fun i => fieldAt b (16 + 16 * i + 12) 4)

/-- Entry `i` of a request; the data of a WRITE starts at byte `pos`, and padding follows it unless it is the last. -/
def entryAt (b : Bytes) (i pos : Nat) (last : Bool) : ReqEntry :=
  let o := 16 + 16 * i
  let fl := fieldAt b (o + 5) 1
  let n := fieldAt b (o + 12) 4
  { index := fieldAt b o 2, inst := fieldAt b (o + 2) 2, sub := fieldAt b (o + 4) 1, part := fl % 4, staged := bitAt fl 2, off := fieldAt b (o + 8) 4, len := n
    resvZero := decide (fl < 8) && allZero (slice b (o + 6) 2) && (last || allZero (slice b (pos + n) (pad8 n - n))), data := slice b pos n }

/-- The entries of a request from entry `i` on. -/
def entriesFrom (b : Bytes) (write : Bool) (i pos : Nat) : Nat → List ReqEntry
  | 0 => []
  | k + 1 =>
    let e := entryAt b i pos (k == 0 || !write)
    (if write then e else { e with data := [] }) :: entriesFrom b write (i + 1) (if write then pos + pad8 e.len else pos) k

/-- The entries of a request. -/
def entriesOf (b : Bytes) : List ReqEntry :=
  let h := reqHead b
  entriesFrom b (h.op == Dq.write) 0 (16 + 16 * h.count) h.count

/-- The header's checks: MALFORMED, then the transport's limit on request data (R49 item 1). -/
def headCode (b : Bytes) (limit : Nat) : Nat :=
  let h := reqHead b
  if b.length < 16 ∨ h.ver ≠ 1 ∨ h.op = 0 ∨ h.op > 3 ∨ !h.resvZero then Rs.malformed
  else if h.op = Dq.nop then (if h.count = 0 ∧ h.dlen = 0 then Rs.ok else Rs.malformed)
  else if h.count = 0 ∨ h.count > 32 ∨ b.length < 16 + 16 * h.count + h.dlen then Rs.malformed
  else if h.dlen ≠ (if h.op = Dq.write then dataLength (entryLengths b h.count) else 0) then Rs.malformed
  else if h.dlen > limit then Rs.tooLarge
  else Rs.ok

/-- A response: its header (Table 02-4) and data. -/
def response (op seq rspSeq result failing evSeq next : Nat) (data : Bytes) : Bytes :=
  leBytes 1 1 ++ leBytes 1 (op % 128 + 128) ++ leBytes 2 seq ++ leBytes 2 rspSeq ++ leBytes 1 result ++ leBytes 1 failing ++ leBytes 6 evSeq ++ leBytes 2 next ++
    leBytes 4 data.length ++ zeros 4 ++ data

/-! ## The requester (R17, R346, Table 02-6) -/

/-- The VF whose session this is. -/
def tenantOf : Option Nat → Option Nat
  | some n => if n ≥ 16 then some (n - 14) else none
  | none => none

/-- The request came over MCTP or UDP. -/
def outOfBand : Option Nat → Bool
  | some n => decide (2 ≤ n ∧ n < 14)
  | none => true

/-- Largest data per request and response (Table 02-6). -/
def dataLimit (sess : Option Nat) : Nat :=
  if outOfBand sess then 1024 else 65536

/-- The instance of an object index is assigned to a VF (R346). -/
def assigned (s : State) (f index inst : Nat) : Bool :=
  if (objsOf index).all (fun o => o.hi == 0) then inst == 0
  else if index = 0x2010 ∨ index = 0x2180 ∨ index = 0x4800 ∨ index = 0x4820 then inst == f
  else if index = 0x2110 ∨ index = 0x2120 ∨ index = 0x4810 then qpFn s inst == f
  else if index = 0x2900 ∨ index = 0x2190 ∨ index = 0x3040 ∨ index = 0x4818 then volAssigned s inst f
  else index == 0x1110 && inst == f + 14

/-- What an entry addresses: an object, or sub-index 0x00 of an index. -/
inductive Target
  | obj (o : ObjDesc)
  | zero (index : Nat)
deriving DecidableEq, Repr

/-- The target of an entry, if it is implemented. -/
def targetOf (e : ReqEntry) : Option Target :=
  if e.sub = 0 then (if (objsOf e.index).any (fun o => o.instanceOk e.inst) then some (.zero e.index) else none)
  else match findObj e.index e.sub with
    | some o => if o.instanceOk e.inst then some (.obj o) else none
    | none => none

/-- The target carries the HEALTH flag (R51). -/
def Target.health : Target → Bool
  | .obj o => o.health
  | .zero index => (objsOf index).any (fun o => o.health)

/-- A TENANT's minimum privilege reaches the target; a write needs it for writing. -/
def Target.tenantMay (write : Bool) : Target → Bool
  | .obj o => if write then o.tenant else o.tenantMay
  | .zero index => (objsOf index).any ObjDesc.tenantMay

/-- Privilege and instance assignment (R17, R346, R596). -/
def privileged (s : State) (sess : Option Nat) (e : ReqEntry) (t : Target) (write : Bool) : Bool :=
  match tenantOf sess with
  | none => true
  | some f => t.tenantMay write && assigned s f e.index e.inst && (!(e.index == 0x4810 || e.index == 0x4818) || rdB s Obj.LEVEL0_TENANT_ACCESS f)

/-! ## Multi-part writes (R59 to R61) -/

/-- The session record of a session. -/
def sessOf (s : State) (n : Nat) : Option Session :=
  Tbl.get s.dict.sessions n

/-- Change a session's record. -/
def modSess (s : State) (n : Nat) (f : Session → Session) : State :=
  { s with dict := { s.dict with sessions := Tbl.modify s.dict.sessions n f } }

/-- The open multi-part write of a session to an object. -/
def openPart (s : State) (sess : Option Nat) (key : Nat) : Option Multipart :=
  match sess with
  | some n => (match sessOf s n with
    | some x => x.parts.find? (fun y => y.key == key)
    | none => none)
  | none => none

/-- Another session holds the object with an open multi-part write (R60). -/
def heldByOther (s : State) (sess : Option Nat) (key : Nat) : Bool :=
  s.dict.sessions.any (fun e => some e.1 != sess && e.2.parts.any (fun y => y.key == key))

/-- Discard a session's open multi-part write of an object. -/
def dropPart (s : State) (sess : Option Nat) (key : Nat) : State :=
  match sess with
  | some n => modSess s n (fun x => { x with parts := x.parts.filter (fun y => y.key != key) })
  | none => s

/-- The bytes that a write carries so far: those of earlier parts and its own. -/
def partBytes (s : State) (sess : Option Nat) (key : Nat) (e : ReqEntry) : Bytes :=
  if e.part = 0 ∨ e.part = 1 then e.data
  else match openPart s sess key with
    | some y => y.data ++ e.data
    | none => e.data

/-- A part comes in order: the first at OFFSET 0, a later one at the number of bytes received (R59). -/
def partInOrder (s : State) (sess : Option Nat) (key : Nat) (e : ReqEntry) : Bool :=
  if e.part = 1 then e.off == 0
  else match openPart s sess key with
    | some y => e.off == y.data.length
    | none => false

/-- Keep a first or middle part. -/
def keepPart (s : State) (sess : Option Nat) (key : Nat) (e : ReqEntry) : State :=
  let b := partBytes s sess key e
  match sess with
  | some n => modSess s n (fun x => { x with parts := x.parts.filter (fun y => y.key != key) ++ [{ key := key, data := b, last := s.now }] })
  | none => s

/-! ## The checks of an entry (R49 item 3) -/

/-- The value that a write entry spells for an object of a fixed-width type. -/
def numOf (t : OTy) (b : Bytes) : Int :=
  let n := leNat (b.take t.width)
  if t = .i32 ∧ n ≥ 2 ^ 31 then (n : Int) - 2 ^ 32 else n

/-- The value that a write gives its object once it is complete. -/
def valueOf (s : State) (sess : Option Nat) (o : ObjDesc) (e : ReqEntry) : Val :=
  if o.ty.width = 0 then .bytes (partBytes s sess (o.key e.inst) e) else .num (numOf o.ty e.data)

/-- Width and type of a write: LENGTH, PART, STAGED_VIEW and OFFSET (Tables 02-2, 02-3 and 02-5, R608). -/
def writeForm (s : State) (sess : Option Nat) (o : ObjDesc) (e : ReqEntry) : Nat :=
  let key := o.key e.inst
  if e.staged then Rs.malformed
  else if o.ty.width ≠ 0 then (if e.len = o.ty.width ∧ e.part = 0 ∧ e.off = 0 then Rs.ok else Rs.malformed)
  else if e.part ≠ 0 ∧ o.ty = .str then Rs.malformed
  else if e.part = 0 ∧ e.off ≠ 0 then Rs.malformed
  else if e.part ≠ 0 ∧ !partInOrder s sess key e then Rs.partOrder
  else
    let n := (partBytes s sess key e).length
    if n > o.ty.most ∨ ((e.part = 0 ∨ e.part = 3) ∧ o.ty = .tab ∧ n % o.rng.rowWidth ≠ 0) then Rs.malformed else Rs.ok

/-- The write completes a value. -/
def ReqEntry.completes (e : ReqEntry) : Bool :=
  e.part == 0 || e.part == 3

/-- The checks of a write entry on an object, after existence and privilege. -/
def writeCode (s : State) (sess : Option Nat) (o : ObjDesc) (e : ReqEntry) : Nat :=
  let v := valueOf s sess o e
  let form := writeForm s sess o e
  if accessRefuses s o e.inst v || (o.inband && outOfBand sess) then Rs.access
  else if form ≠ Rs.ok then form
  else if e.completes && !valueInRange s o e.inst v then Rs.range
  else if !e.resvZero || (e.completes && reservedValue o v) then Rs.malformed
  else if heldByOther s sess (o.key e.inst) then Rs.busy
  else if e.completes then busyCode s o e.inst v
  else Rs.ok

/-- The reads that produce their value themselves (R590, R592). -/
def isFetch (o : ObjDesc) : Bool :=
  isObj o Obj.EVENT_SUB_FETCH || isObj o Obj.EVENT_STORE_READ || isObj o Obj.ALARM_STORE_READ

/-- What a target holds, for a read. -/
def targetBytes (s : State) (sess : Option Nat) (e : ReqEntry) : Target → Bytes
  | .zero index => leBytes 1 (highestSub index)
  | .obj o => if e.staged then readStaged s o e.inst (tenantOf sess).isSome else readObj s o e.inst (tenantOf sess).isSome

/-- Width of a target's type; 0 for STR, BLOB and TAB. -/
def Target.width : Target → Nat
  | .zero _ => 1
  | .obj o => o.ty.width

/-- The checks of a read entry after existence and privilege: LENGTH, PART, OFFSET (R608), reserved fields. -/
def readCode (s : State) (sess : Option Nat) (e : ReqEntry) (t : Target) : Nat :=
  let w := t.width
  let offOk : Bool := match t with
    | .zero _ => e.off == 0
    | .obj o => if w ≠ 0 then e.off == 0 else if isFetch o then e.off == 0 else if o.acc = .wo then true else decide (e.off ≤ (targetBytes s sess e t).length)
  if e.part ≠ 0 ∨ (w ≠ 0 ∧ e.len ≠ w) ∨ !offOk ∨ !e.resvZero then Rs.malformed else Rs.ok

/-- What an accepted write leaves for the checks of the entries after it: the staged set, open parts, and an epoch that runs from a commit on, so that a later write of a staged object, commit or discard is refused with BUSY before anything is applied (R50, R80). -/
def accept (s : State) (sess : Option Nat) (o : ObjDesc) (e : ReqEntry) : State :=
  if !e.completes then keepPart s sess (o.key e.inst) e
  else
    let t := dropPart s sess (o.key e.inst)
    if o.staged then (stageWrite t (stagedOf o e.inst (valueOf s sess o e))).2
    else if isObj o Obj.EPOCH_COMMIT || isObj o Obj.EPOCH_COMMIT_PAIR then wr t Obj.EPOCH_STATE 0 (Es.draining : Nat)
    else if isObj o Obj.EPOCH_DISCARD then discardStaged t
    else t

/-- Check one entry. -/
def checkEntry (s : State) (sess : Option Nat) (write : Bool) (e : ReqEntry) : Nat × State :=
  match targetOf e with
  | none => (Rs.unknownObject, s)
  | some t =>
    if !privileged s sess e t write then (Rs.privilege, s)
    else if write then
      (match t with
        | .zero _ => (Rs.access, s)
        | .obj o => let c := writeCode s sess o e; (c, if c = Rs.ok then accept s sess o e else s))
    else (readCode s sess e t, s)

/-- Check entries from position `i` on: the first failure and its position. -/
def checkEntries (sess : Option Nat) (write : Bool) (i : Nat) : List ReqEntry → State → Nat × Nat
  | [], _ => (Rs.ok, 0xFF)
  | e :: l, s =>
    let r := checkEntry s sess write e
    if r.1 = Rs.ok then checkEntries sess write (i + 1) l r.2 else (r.1, i)

/-- The out-of-band rules, which judge the request as a whole (R69, R70). -/
def oobCode (s : State) (sess : Option Nat) (op : Nat) (l : List ReqEntry) : Nat × Nat :=
  if !outOfBand sess then (Rs.ok, 0xFF)
  else if op = Dq.write then
    (if sess.isNone then (Rs.noSession, 0xFF) else if !rdB s Obj.OOB_WRITE_ENABLED 0 then (Rs.oobDisabled, 0xFF) else (Rs.ok, 0xFF))
  else if op = Dq.read ∧ sess.isNone then
    (match l.findIdx? (fun e => match targetOf e with
        | some t => !t.health
        | none => true) with
      | some i => (Rs.noSession, i)
      | none => (Rs.ok, 0xFF))
  else (Rs.ok, 0xFF)

/-- Every check of a request in the order of R49; `allowed` says which OPCODE values its carrier takes (R332). -/
def checkReq (s : State) (sess : Option Nat) (allowed : Nat → Bool) (b : Bytes) : Nat × Nat :=
  let h := reqHead b
  let c := headCode b (dataLimit sess)
  if c = Rs.malformed ∨ !allowed h.op then (Rs.malformed, 0xFF)
  else if c ≠ Rs.ok then (c, 0xFF)
  else
    let l := entriesOf b
    let o := oobCode s sess h.op l
    if o.1 ≠ Rs.ok then o
    else if h.op = Dq.nop then (Rs.ok, 0xFF)
    else checkEntries sess (h.op == Dq.write) 0 l s

/-! ## Execution -/

/-- Write entries that change the state of a pool or QP take effect after the request's other entries (R52). -/
def changesOwner (o : ObjDesc) : Bool :=
  isObj o Obj.POOL_ACTION || isObj o Obj.QP_HALT || isObj o Obj.QP_MODE

/-- Apply one write entry. -/
def applyEntryW (s : State) (sess : Option Nat) (o : ObjDesc) (e : ReqEntry) : State :=
  if !e.completes then keepPart s sess (o.key e.inst) e
  else
    let v := valueOf s sess o e
    applyWrite (dropPart s sess (o.key e.inst)) o e.inst v

/-- The objects that the entries of a request write. -/
def written (l : List ReqEntry) : List (ObjDesc × ReqEntry) :=
  l.filterMap (fun e => match targetOf e with
    | some (.obj o) => some (o, e)
    | _ => none)

/-- Apply the entries of an accepted WRITE in order (R50). -/
def applyAll (s : State) (sess : Option Nat) (l : List ReqEntry) : State :=
  let w := written l
  let go (x : ObjDesc × ReqEntry) (t : State) : State := applyEntryW t sess x.1 x.2
  forEach (w.filter (fun x => changesOwner x.1)) go (forEach (w.filter (fun x => !changesOwner x.1)) go s)

/-- The request changes persistent objects (R54, R56); a staged one changes when its epoch completes. -/
def changesPersistent (b : Bytes) : Bool :=
  (reqHead b).op == Dq.write && (written (entriesOf b)).any (fun x => x.1.persistent && !x.1.staged && x.2.completes)

/-- Read one entry: its bytes and the state after. -/
def readEntry (s : State) (sess : Option Nat) (e : ReqEntry) : Bytes × State :=
  match targetOf e with
  | none => ([], s)
  | some t =>
    let plain : Bytes × State := (((targetBytes s sess e t).drop e.off).take e.len, s)
    match t with
    | .zero _ => plain
    | .obj o =>
      if o.acc = .wo then (zeros e.len, s)
      else if isObj o Obj.EVENT_SUB_FETCH then subFetch s e.inst e.len
      else if isObj o Obj.EVENT_STORE_READ then eventStoreRead s e.inst e.len
      else if isObj o Obj.ALARM_STORE_READ then alarmStoreRead s e.inst e.len
      else plain

/-- The items of a READ in entry order: U32 length, four reserved bytes, the value; each starts on an 8-byte boundary. -/
def readAll (sess : Option Nat) : List ReqEntry → State → Bytes × State
  | [], s => ([], s)
  | e :: l, s =>
    let r := readEntry s sess e
    let item := leBytes 4 r.1.length ++ zeros 4 ++ r.1
    let t := readAll sess l (takeFree r.2)
    (if l.isEmpty then item else padTo (pad8 item.length) item ++ t.1, t.2)

/-- PRIVILEGE_REFUSED names the session, the object and the result (R18). -/
def privilegeEvent (s : State) (n result : Nat) (e : ReqEntry) : State :=
  raise s (ev 0 18) .warn Src.session n (e.index + e.inst * 2 ^ 16 + e.sub * 2 ^ 32 + result * 2 ^ 40)

/-- A refused request: PRIVILEGE raises its event, and a part that fails its check discards its multi-part write (R18, R61). -/
def refuse (s : State) (sess : Option Nat) (b : Bytes) (result failing : Nat) : State :=
  match (entriesOf b)[failing]? with
  | none => s
  | some e =>
    let t := match sess with
      | some n => if result = Rs.privilege then privilegeEvent s n result e else s
      | none => s
    if (reqHead b).op = Dq.write ∧ e.part ≠ 0 then dropPart t sess (objKey e.index e.inst e.sub) else t

/-- The response to a request, and the state after it: RSP_SEQ advances, and an executed request's response is cached (R72, R73). -/
def respond (s : State) (sess : Option Nat) (op seq result failing : Nat) (data : Bytes) (cache : Bool) : Bytes × State :=
  match sess with
  | none =>
    let f := Config.sessionless s.freeCtr
    (response op seq f.1.toNat result failing s.ev.seq f.2.toNat data, takeFree s)
  | some n =>
    let k := match sessOf s n with
      | some x => x.rsp
      | none => 0
    let b := response op seq k result failing s.ev.seq (rdN s Obj.NEXT_REQ_SEQ n) data
    let t := modSess s n (fun x => { x with rsp := (k + 1) % 65536, cached := if cache then some b else x.cached })
    (b, if cache then wr t Obj.LAST_RSP_SEQ n (k : Nat) else t)

/-- Execute a request whose sequence is expected (R49 to R55). `room` bounds the response's data. -/
def execReq (s : State) (sess : Option Nat) (allowed : Nat → Bool) (room : Nat) (b : Bytes) : Bytes × State :=
  let h := reqHead b
  let a := match sess with
    | some n => modSess (wr s Obj.NEXT_REQ_SEQ n ((h.seq + 1) % 65536 : Nat)) n (fun x => { x with fresh := false })
    | none => s
  let c := checkReq a sess allowed b
  if c.1 ≠ Rs.ok then respond (refuse a sess b c.1 c.2) sess h.op h.seq c.1 c.2 [] true
  else if h.op = Dq.read then
    let r := readAll sess (entriesOf b) a
    if r.1.length > min room (dataLimit sess) then respond a sess h.op h.seq Rs.tooLarge 0xFF [] true
    else respond r.2 sess h.op h.seq Rs.ok 0xFF r.1 true
  else if h.op = Dq.write then
    let t := applyAll a sess (entriesOf b)
    let u := if changesPersistent b then bump t Obj.CONFIG_RECORDS 0 1 else t
    respond u sess h.op h.seq Rs.ok 0xFF [] true
  else respond a sess h.op h.seq Rs.ok 0xFF [] true

/-- Handle a request by its REQ_SEQ: executed, answered again from the cache, or refused with SEQUENCE (R72, R73). -/
def handleReq (s : State) (sess : Option Nat) (allowed : Nat → Bool) (room : Nat) (b : Bytes) : Bytes × State :=
  let h := reqHead b
  match sess with
  | none => execReq s none allowed room b
  | some n =>
    let x := (sessOf s n).getD { fresh := true, cached := none, rsp := 0, parts := [], last := s.now }
    let exp := rdN s Obj.NEXT_REQ_SEQ n
    if x.fresh ∨ h.seq = exp then execReq s sess allowed room b
    else if h.seq = (exp + 65535) % 65536 then
      (match x.cached with
        | some r => (r, s)
        | none => respond s sess h.op h.seq Rs.sequence 0xFF [] false)
    else respond s sess h.op h.seq Rs.sequence 0xFF [] false

/-! ## Carriers -/

/-- The OPCODE values that a carrier takes: a DICT_READ command READ and NOP, a DICT_WRITE command WRITE and NOP (R332). -/
def carrierTakes (s : State) (src : ReqSrc) (op : Nat) : Bool :=
  match src with
  | .cmd q tag => (match findCmd s q tag with
    | some c => op == Dq.nop || op == (if c.opcode = 0x40 then Dq.read else Dq.write)
    | none => true)
  | _ => true

/-- Room for response data: what DESC_1 holds beyond the header (R332). -/
def carrierRoom (s : State) (src : ReqSrc) : Nat :=
  match src with
  | .cmd q tag => (match findCmd s q tag with
    | some c => (match c.descs[1]? with
      | some d => d.len - 24
      | none => 0)
    | none => 0)
  | _ => 1048576

/-- An MCTP message body, cut into packets of 64 bytes with sequence numbers from 0 (R63). -/
def sendMctpFrom (eid seq : Nat) (first : Bool) (b : Bytes) : Nat → State → State
  | 0, s => s
  | n + 1, s =>
    let rest := b.drop 64
    let t := emit s (.mctp eid (seq % 4) first rest.isEmpty (b.take 64))
    if rest.isEmpty then t else sendMctpFrom eid (seq + 1) false rest n t

/-- Send an MCTP message: its type byte and body. -/
def sendMctp (s : State) (eid ty : Nat) (b : Bytes) : State :=
  sendMctpFrom eid 0 true (leBytes 1 ty ++ b) (b.length + 1) s

/-- The head of a vendor-defined message: Pelzanto's identifier and the vendor message code 0x96 (R64). -/
def vendorHead : Bytes :=
  leBytes 1 (Config.pciVendorId / 256) ++ leBytes 1 Config.pciVendorId ++ leBytes 1 0x96

/-- The response goes back over the carrier of its request; a command completes (R62, R64 to R66, Table 02-7). -/
def deliverRsp (s : State) (src : ReqSrc) (b : Bytes) : State :=
  match src with
  | .engine n => emit s (.dict n b)
  | .cmd q tag => (match findCmd s q tag with
    | some c =>
      let t := match c.descs[1]? with
        | some d => hostScatter s (qpFn s q) [d] 0 b
        | none => s
      finish t q c (if fieldAt b 6 1 = Rs.ok then St.success else St.invalidField) b.length
    | none => s)
  | .mctp eid n => if n.isSome then sendMctp s eid 6 b else sendMctp s eid 0x7E (vendorHead ++ b)
  | .udp peer n => emit s (.udp peer (if n.isSome then 2 else 3) b)

/-- The request still has a taker: its command is there, or its session is open. -/
def carrierLive (s : State) (src : ReqSrc) : Bool :=
  (match src with
    | .cmd q tag => (findCmd s q tag).isSome
    | _ => true) && (match srcSession s src with
    | some n => (sessOf s n).isSome
    | none => true)

/-- Run one request at the engine (R48). -/
def runReq (s : State) (x : Paced) : State :=
  if carrierLive s x.src then
    let r := handleReq s (srcSession s x.src) (carrierTakes s x.src) (carrierRoom s x.src) x.req
    deliverRsp r.2 x.src r.1
  else s

/-- The request will execute now, and changes persistent objects. -/
def willPersist (s : State) (x : Paced) : Bool :=
  let sess := srcSession s x.src
  let inSeq : Bool := match sess with
    | some n => ((sessOf s n).map Session.fresh).getD true || (reqHead x.req).seq == rdN s Obj.NEXT_REQ_SEQ n
    | none => true
  carrierLive s x.src && inSeq && changesPersistent x.req && (checkReq s sess (carrierTakes s x.src) x.req).1 == Rs.ok

/-- Tokens of the persistent-write ceiling, in millionths (R56). -/
def paceLevel (s : State) : Int :=
  refill s.dict.pace 1000 1 s.now

/-- Run a request, charging the ceiling where it changes persistent objects. -/
def runCharged (s : State) (x : Paced) : State :=
  if willPersist s x then runReq { s with dict := { s.dict with pace := { level := paceLevel s - 1000000, last := s.now } } } x else runReq s x

/-- The request has to wait for the ceiling. -/
def mustPace (s : State) (x : Paced) : Bool :=
  willPersist s x && decide (paceLevel s < 1000000)

/-- A request arrives: it runs, waits for the ceiling, or waits behind one that does (R48, R56). -/
def submitReq (s : State) (src : ReqSrc) (req : Bytes) : State :=
  let x : Paced := { src := src, req := req }
  let t := match srcSession s src with
    | some n => modSess s n (fun y => { y with last := s.now })
    | none => s
  if !t.dict.paced.isEmpty || mustPace t x then { t with dict := { t.dict with paced := t.dict.paced ++ [x] } } else runCharged t x

/-- Run waiting requests in order until one has to wait for the ceiling. -/
def drainPaced : Nat → State → State
  | 0, s => s
  | n + 1, s => match s.dict.paced with
    | [] => s
    | x :: l => if mustPace s x then s else drainPaced n (runCharged { s with dict := { s.dict with paced := l } } x)

/-- PERSISTENT_WRITE_PACED: the wait of the first held request is over; it executes, and those behind it go on (R56). -/
def execPersistentWritePaced (s : State) : Host.Outcome State Fault Refusal :=
  .next (
    match s.dict.paced with
    | [] => s
    | x :: l =>
      let t := runReq { s with dict := { s.dict with paced := l, pace := { level := 0, last := s.now } } } x
      drainPaced t.dict.paced.length t)

/-- MULTIPART_TIMEOUT: no part has arrived for 10 s (R61). -/
def execMultipartTimeout (session key : Nat) (s : State) : Host.Outcome State Fault Refusal :=
  .next (dropPart s (some session) key)

/-- A request handed to the engine for a session: it needs the session to be open. -/
def engineReq (s : State) (sess : Option Nat) (op : Nat) (req : Bytes) : State :=
  if (reqHead req).op = op ∧ carrierLive s (.engine sess) then submitReq s (.engine sess) req else s

/-- DICTIONARY_READ: a READ request reaches the engine (R49, R70 to R73). -/
def execDictionaryRead (sess : Option Nat) (req : Bytes) (s : State) : Host.Outcome State Fault Refusal :=
  .next (engineReq s sess Dq.read req)

/-- DICTIONARY_WRITE: a WRITE request reaches the engine (R49, R50, R69). -/
def execDictionaryWrite (sess : Option Nat) (req : Bytes) (s : State) : Host.Outcome State Fault Refusal :=
  .next (engineReq s sess Dq.write req)

/-- DICTIONARY_NOP: a NOP request reaches the engine (R73). -/
def execDictionaryNop (sess : Option Nat) (req : Bytes) (s : State) : Host.Outcome State Fault Refusal :=
  .next (engineReq s sess Dq.nop req)

/-- A dictionary command begins: its request is fetched from DESC_0 and reaches the engine (R332). -/
def dictCommand (s : State) (q tag op : Nat) (req : Bytes) : State :=
  match startable s q tag op with
  | none => s
  | some c =>
    let t := match c.descs[0]? with
      | some d => emit s (.hostRead (qpFn s q) d.addr d.len)
      | none => s
    submitReq (modCmd t q tag (fun x => { x with phase := .running })) (.cmd q tag) req

/-- DICT_READ (R332): `req` is what DESC_0 holds. -/
def execDictRead (q tag : Nat) (req : Bytes) (s : State) : Host.Outcome State Fault Refusal :=
  .next (dictCommand s q tag 0x40 req)

/-- DICT_WRITE (R332). -/
def execDictWrite (q tag : Nat) (req : Bytes) (s : State) : Host.Outcome State Fault Refusal :=
  .next (dictCommand s q tag 0x41 req)

/-- FACTORY_DEFAULTS: a write of the object, refused while a pool is in use (R90). -/
def execFactoryDefaults (value : Nat) (s : State) : Host.Outcome State Fault Refusal :=
  .next (writeObj s Obj.FACTORY_DEFAULTS 0 (.num value))

/-- MGMT_OOB_EN_CHANGE: a debounced level applies to requests executed after it (R71). -/
def execMgmtOobEnChange (level : Bool) (s : State) : Host.Outcome State Fault Refusal :=
  .next (wrB s Obj.OOB_WRITE_ENABLED 0 level)

end Sys2Proof.Machine
end

