-- ==== Sys2Proof/Machine/Mgmt.lean ====
section
/-! DEFINITION. The management transports (R63 to R70, R558): MCTP control and messages, SPDM sessions, management datagrams and frames. The layouts of MCTP control and SPDM messages are those of the DMTF specifications the manual names (PRESUMED; log). -/

namespace Sys2Proof.Machine

open Sys2Proof

/-- Change the transports' state. -/
def modMgmt (s : State) (f : MgmtSt → MgmtSt) : State :=
  { s with mgmt := f s.mgmt }

/-- The MCTP endpoint answers: I3C_ENABLE, from the end of start-up step 5 (Table 16-2). -/
def mctpUp (s : State) : Bool :=
  rdB s Obj.I3C_ENABLE 0 && decide (rdN s Obj.STARTUP_STEP 0 > 5)

/-- The management port answers: ETH_ENABLE, from the end of start-up step 6 (Table 16-2). -/
def ethUp (s : State) : Bool :=
  rdB s Obj.ETH_ENABLE 0 && decide (rdN s Obj.STARTUP_STEP 0 > 6)

/-- The transport of a session or message answers. -/
def transportUp (s : State) (udp : Bool) : Bool :=
  if udp then ethUp s else mctpUp s

/-! ## MCTP control messages -/

/-- Completion codes of DSP0236. -/
def Mc.success : Nat := 0
def Mc.invalidData : Nat := 2
def Mc.unsupported : Nat := 5
def Mc.typeUnsupported : Nat := 0x80

/-- A control response: instance, command, completion code and data. -/
def controlRsp (s : State) (src inst cmd code : Nat) (b : Bytes) : State :=
  if mctpUp s then sendMctp s src 0 (leBytes 1 (inst % 32) ++ leBytes 1 cmd ++ leBytes 1 code ++ b) else s

/-- Set Endpoint ID: operations 0 and 1 assign an endpoint ID other than the reserved ones; the others are refused. -/
def setEid (s : State) (src inst op eid : Nat) : State :=
  if !mctpUp s then s
  else if op % 4 ≥ 2 ∨ eid < 8 ∨ eid ≥ 255 then controlRsp s src inst 1 Mc.invalidData []
  else controlRsp (modMgmt s (fun x => { x with eid := eid })) src inst 1 Mc.success (leBytes 1 0 ++ leBytes 1 eid ++ leBytes 1 0)

/-- SET_ENDPOINT_ID (R63). -/
def execSetEndpointId (src inst op eid : Nat) (s : State) : Host.Outcome State Fault Refusal :=
  .next (setEid s src inst op eid)

/-- Get Endpoint ID: the endpoint ID, a simple endpoint with a dynamic ID. -/
def getEid (s : State) (src inst : Nat) : State :=
  controlRsp s src inst 2 Mc.success (leBytes 1 s.mgmt.eid ++ leBytes 1 0 ++ leBytes 1 0)

/-- GET_ENDPOINT_ID (R63). -/
def execGetEndpointId (src inst : Nat) (s : State) : Host.Outcome State Fault Refusal :=
  .next (getEid s src inst)

/-- Get MCTP Version Support: DSP0236 1.3.1 for the base and control messages; the version of another supported type is a free value. -/
def getVersion (s : State) (src inst ty : Nat) : State :=
  if ty = 0xFF ∨ ty = 0 then controlRsp s src inst 4 Mc.success (leBytes 1 1 ++ leBytes 1 0xF1 ++ leBytes 1 0xF3 ++ leBytes 1 0xF1 ++ leBytes 1 0)
  else if ty = 5 ∨ ty = 6 ∨ ty = 0x7E then controlRsp s src inst 4 Mc.success (leBytes 1 1 ++ leBytes 4 (Config.mctpVersion ty).toNat)
  else controlRsp s src inst 4 Mc.typeUnsupported []

/-- GET_MCTP_VERSION_SUPPORT (R63). -/
def execGetMctpVersionSupport (src inst ty : Nat) (s : State) : Host.Outcome State Fault Refusal :=
  .next (getVersion s src inst ty)

/-- Get Message Type Support: SPDM, secured messages and vendor-defined PCI (R64, R65). -/
def getTypes (s : State) (src inst : Nat) : State :=
  controlRsp s src inst 5 Mc.success (leBytes 1 3 ++ leBytes 1 5 ++ leBytes 1 6 ++ leBytes 1 0x7E)

/-- GET_MESSAGE_TYPE_SUPPORT (R63, R65). -/
def execGetMessageTypeSupport (src inst : Nat) (s : State) : Host.Outcome State Fault Refusal :=
  .next (getTypes s src inst)

/-- Get Vendor Defined Message Support: the one set, Pelzanto's identifier with message code 0x96 (R64). -/
def getVendor (s : State) (src inst sel : Nat) : State :=
  if sel = 0 then
    controlRsp s src inst 6 Mc.success (leBytes 1 0xFF ++ leBytes 1 0 ++ leBytes 1 (Config.pciVendorId / 256) ++ leBytes 1 Config.pciVendorId ++ leBytes 1 0 ++ leBytes 1 0x96)
  else controlRsp s src inst 6 Mc.invalidData []

/-- GET_VENDOR_DEFINED_MESSAGE_SUPPORT (R64). -/
def execGetVendorDefinedMessageSupport (src inst sel : Nat) (s : State) : Host.Outcome State Fault Refusal :=
  .next (getVendor s src inst sel)

/-- A control message: requests of the five supported commands are answered; another command is refused as unsupported. -/
def controlMsg (s : State) (src : Nat) (b : Bytes) : State :=
  let h := fieldAt b 0 1
  let inst := h % 32
  let c := fieldAt b 1 1
  let a := fieldAt b 2 1
  if h < 128 then s
  else if c = 1 then setEid s src inst a (fieldAt b 3 1)
  else if c = 2 then getEid s src inst
  else if c = 4 then getVersion s src inst a
  else if c = 5 then getTypes s src inst
  else if c = 6 then getVendor s src inst a
  else controlRsp s src inst c Mc.unsupported []

/-! ## SPDM (R67, R68, R72) -/

/-- An SPDM message to a peer, in clear or within a session (R65, Table 02-7). -/
def sendSpdm (s : State) (udp : Bool) (peer : Nat) (sess : Option Nat) (code p1 : Nat) (b : Bytes) : State :=
  let m := leBytes 1 0x12 ++ leBytes 1 code ++ leBytes 1 p1 ++ leBytes 1 0 ++ b
  if udp then emit s (.udp peer (if sess.isSome then 2 else 1) m) else sendMctp s peer (if sess.isSome then 6 else 5) m

/-- An SPDM ERROR response. -/
def spdmError (s : State) (udp : Bool) (peer : Nat) (sess : Option Nat) (e : Nat) : State :=
  sendSpdm s udp peer sess 0x7F e []

/-- A response whose body is a free value. -/
def spdmFree (s : State) (udp : Bool) (peer : Nat) (sess : Option Nat) (code p1 : Nat) : State :=
  sendSpdm (takeFree s) udp peer sess code p1 (Config.spdmBody code s.freeCtr)

/-- A session is open. -/
def sessionOpen (s : State) (n : Nat) : Bool :=
  (sessOf s n).isSome

/-- The session number is in use: open, or between KEY_EXCHANGE and FINISH. -/
def sessionTaken (s : State) (n : Nat) : Bool :=
  sessionOpen s n || s.mgmt.shaking.contains n

/-- Session numbers of a transport (0x1110): 2 to 5 MCTP, 6 to 13 UDP. -/
def sessionRange (udp : Bool) : List Nat :=
  if udp then (List.range 8).map (fun i => i + 6) else (List.range 4).map (fun i => i + 2)

/-- The session number a KEY_EXCHANGE takes: a free one; an MCTP source has one session (Table 02-6). -/
def newSession (s : State) (udp : Bool) (peer : Nat) : Option Nat :=
  if !udp ∧ (sessionRange udp).any (fun n => sessionTaken s n && Tbl.getD s.mgmt.peer n 0 == peer) then none
  else (sessionRange udp).find? (fun n => !sessionTaken s n)

/-- KEY_EXCHANGE: with a trust anchor loaded and the requester's chain accepted (`ok`), a session number is taken and the heartbeat period offered (R67). -/
def execKeyExchange (udp : Bool) (peer : Nat) (ok : Bool) (s : State) : Host.Outcome State Fault Refusal :=
  .next (
    if !transportUp s udp then s
    else if (rdBytes s Obj.SPDM_REQUESTER_ANCHOR 0).isEmpty ∨ !ok then spdmError s udp peer none 1
    else match newSession s udp peer with
      | none => spdmError s udp peer none 0x0A
      | some n =>
        spdmFree (modMgmt s (fun x => { x with shaking := addOnce x.shaking n, peer := Tbl.set x.peer n peer })) udp peer none 0x64 (rdN s Obj.SPDM_HEARTBEAT 0))

/-- A session that is being set up is given up. -/
def forgetShake (s : State) (n : Nat) : State :=
  modMgmt s (fun x => { x with shaking := x.shaking.filter (fun y => y != n), peer := Tbl.erase x.peer n })

/-- FINISH: the session opens with its sequences (R72); a FINISH that fails its checks (`ok` false) gives it up. -/
def execFinish (session : Nat) (ok : Bool) (s : State) : Host.Outcome State Fault Refusal :=
  .next (
    let peer := Tbl.getD s.mgmt.peer session 0
    let udp := decide (session ≥ 6)
    if !s.mgmt.shaking.contains session ∨ !transportUp s udp then s
    else if !ok then spdmError (forgetShake s session) udp peer none 6
    else
      let t := openSession session 2 (modMgmt s (fun x => { x with shaking := x.shaking.filter (fun y => y != session) }))
      spdmFree t udp peer (some session) 0x65 0)

/-- A secured session ends, with its open multi-part writes and cached response (R68). -/
def closeSpdm (s : State) (n : Nat) : State :=
  forgetShake (endSession s n) n

/-- END_SESSION (R68). -/
def execEndSession (session : Nat) (s : State) : Host.Outcome State Fault Refusal :=
  .next (
    let udp := decide (session ≥ 6)
    if 2 ≤ session ∧ session < 14 ∧ sessionOpen s session ∧ transportUp s udp then
      closeSpdm (sendSpdm s udp (Tbl.getD s.mgmt.peer session 0) (some session) 0x6C 0 []) session
    else s)

/-- SESSION_HEARTBEAT_TIMEOUT: no message has arrived for two heartbeat periods (R68). -/
def execSessionHeartbeatTimeout (session : Nat) (s : State) : Host.Outcome State Fault Refusal :=
  .next (if 2 ≤ session ∧ session < 14 ∧ sessionTaken s session then closeSpdm s session else s)

/-- The chunks of a firmware slot, in order. -/
def slotImage (s : State) (slot : Nat) : Bytes :=
  (s.power.nor.filter (fun e => e.1 / 512 == slot)).flatMap (fun e => e.2)

/-- A measurement digest: a SHA-384 value, 48 zero bytes for an empty slot (R558). -/
def measuredDigest (s : State) (index : Nat) : Bytes :=
  if (index = 2 ∨ index = 3) ∧ rdN s Obj.FW_SLOT_STATE (index - 2) = 0 then zeros 48
  else padTo 48 ((Config.measurement index (if index = 2 ∨ index = 3 then slotImage s (index - 2) else [])).take 48)

/-- A measurement block: index, digest form, and the digest. -/
def measurementBlock (s : State) (index : Nat) : Bytes :=
  leBytes 1 index ++ leBytes 1 1 ++ leBytes 2 51 ++ leBytes 1 0 ++ leBytes 2 48 ++ measuredDigest s index

/-- GET_MEASUREMENTS: index 0 asks for their number, 1 to 4 for one block, 0xFF for all (R558). -/
def measurements (s : State) (udp : Bool) (peer index : Nat) : State :=
  if !transportUp s udp then s
  else if index = 0 then sendSpdm (takeFree s) udp peer none 0x60 4 (leBytes 4 0 ++ Config.spdmBody 0x60 s.freeCtr)
  else if 5 ≤ index ∧ index ≠ 0xFF then spdmError s udp peer none 1
  else
    let l := if index = 0xFF then [1, 2, 3, 4] else [index]
    let r := l.flatMap (measurementBlock s)
    sendSpdm (takeFree s) udp peer none 0x60 0 (leBytes 1 l.length ++ leBytes 3 r.length ++ r ++ Config.spdmBody 0x60 s.freeCtr)

/-- GET_MEASUREMENTS (R67, R558). -/
def execGetMeasurements (udp : Bool) (peer index : Nat) (s : State) : Host.Outcome State Fault Refusal :=
  .next (measurements s udp peer index)

/-- Requests of the capabilities in R67 beside those with commands of their own: GET_DIGESTS, GET_CERTIFICATE, CHALLENGE, GET_VERSION, GET_CAPABILITIES, NEGOTIATE_ALGORITHMS, and the encapsulated requests of mutual authentication. -/
def spdmCodes : List Nat :=
  [0x81, 0x82, 0x83, 0x84, 0xE1, 0xE3, 0xEA, 0xEB]

/-- Requests that only a session carries: HEARTBEAT and KEY_UPDATE. -/
def spdmSessionCodes : List Nat :=
  [0xE8, 0xE9]

/-- Requests that are commands of their own. -/
def spdmOwn : List Nat :=
  [0xE0, 0xE4, 0xE5, 0xEC]

/-! ### Capabilities and algorithms (R67), in the fields of SPDM 1.2 (PRESUMED) -/

/-- The capabilities of R67: CERT, CHAL, MEAS with signature, ENCRYPT, MAC, MUT_AUTH, KEY_EX, HBEAT and KEY_UPD, by their Flags bits. -/
def spdmCapabilities : Nat :=
  [1, 2, 4, 6, 7, 8, 9, 13, 14].foldl (fun n b => n + 2 ^ b) 0

/-- ECDSA on NIST P-384, SHA-384, ECDHE on secp384r1 and AES-256-GCM, by their selection values. -/
def spdmAsym : Nat := 0x80
def spdmHash : Nat := 0x02
def spdmDhe : Nat := 0x10
def spdmAead : Nat := 0x02

/-- CAPABILITIES: the flags; the timing exponent and transfer sizes beside them are free values. -/
def capabilitiesBody (free : Bytes) : Bytes :=
  padTo 4 (free.take 4) ++ leBytes 4 spdmCapabilities ++ padTo 8 ((free.drop 4).take 8)

/-- ALGORITHMS: one algorithm of each kind is selected, whatever the requester offers beside it. -/
def algorithmsBody : Bytes :=
  leBytes 2 52 ++ leBytes 1 1 ++ leBytes 1 2 ++ leBytes 4 4 ++ leBytes 4 spdmAsym ++ leBytes 4 spdmHash ++ zeros 16 ++
  [(2, spdmDhe), (3, spdmAead), (4, spdmAsym), (5, 1)].flatMap (fun e => leBytes 1 e.1 ++ leBytes 1 0x20 ++ leBytes 2 e.2)

/-- Another SPDM request is answered, or refused as unsupported; one within a session counts as its message (R67, R68). -/
def spdmOther (s : State) (udp : Bool) (peer code : Nat) (sess : Option Nat) : State :=
  let live : Bool := match sess with
    | some n => sessionOpen s n && (sessionRange udp).contains n && Tbl.getD s.mgmt.peer n 0 == peer
    | none => true
  if !transportUp s udp ∨ !live ∨ spdmOwn.contains code then s
  else
    let t := match sess with
      | some n => modSess s n (fun y => { y with last := s.now })
      | none => s
    if code = 0xE1 then sendSpdm (takeFree t) udp peer sess 0x61 0 (capabilitiesBody (Config.spdmBody 0x61 t.freeCtr))
    else if code = 0xE3 then sendSpdm t udp peer sess 0x63 4 algorithmsBody
    else if spdmCodes.contains code || (spdmSessionCodes.contains code && sess.isSome) then spdmFree t udp peer sess (code - 0x80) 0
    else spdmError t udp peer sess 7

/-- SPDM_MESSAGE (R67). -/
def execSpdmMessage (udp : Bool) (peer code : Nat) (sess : Option Nat) (s : State) : Host.Outcome State Fault Refusal :=
  .next (spdmOther s udp peer code sess)

/-- An SPDM message in clear: GET_MEASUREMENTS and the requests without secrets are answered here; KEY_EXCHANGE and FINISH, whose outcome depends on signatures, are commands of their own. -/
def spdmClear (s : State) (udp : Bool) (peer : Nat) (b : Bytes) : State :=
  let c := fieldAt b 1 1
  if c = 0xE0 then measurements s udp peer (fieldAt b 3 1) else spdmOther s udp peer c none

/-! ## Messages and datagrams -/

/-- The open session of an MCTP source. -/
def mctpSession (s : State) (src : Nat) : Option Nat :=
  (sessionRange false).find? (fun n => sessionOpen s n && Tbl.getD s.mgmt.peer n 0 == src)

/-- A complete message is dispatched by its type; `clear` is what a secured message decrypts to, none where it fails authentication (R64, R65). -/
def dispatchMsg (s : State) (src ty : Nat) (b : Bytes) (clear : Option Bytes) : State :=
  if ty = 0 then controlMsg s src b
  else if ty = 5 then spdmClear s false src b
  else if ty = 0x7E then (if b.take 3 = vendorHead then submitReq s (.mctp src none) (b.drop 3) else s)
  else if ty = 6 then
    (match clear, mctpSession s src with
      | some m, some n => submitReq s (.mctp src (some n)) m
      | _, _ => s)
  else s

/-- A packet joins the message of its source and tag; a gap in the packet sequence discards the message whole (R63). -/
def mctpPacket (s : State) (p : McPacket) (clear : Option Bytes) : State :=
  let key := 16 * p.src + p.tag % 16
  let add (x : McAsm) : State :=
    if p.eom then dispatchMsg (modMgmt s (fun y => { y with asm := Tbl.erase y.asm key })) p.src x.ty x.data clear
    else modMgmt s (fun y => { y with asm := Tbl.set y.asm key x })
  if p.data.length > 64 ∨ p.pec = some false ∨ !mctpUp s then s
  else if p.som then
    (if p.data.isEmpty then s else add { ty := fieldAt p.data 0 1 % 128, seq := (p.seq + 1) % 4, data := p.data.drop 1 })
  else match Tbl.get s.mgmt.asm key with
    | none => s
    | some x =>
      if p.seq % 4 = x.seq then add { x with seq := (x.seq + 1) % 4, data := x.data ++ p.data }
      else modMgmt s (fun y => { y with asm := Tbl.erase y.asm key })

/-- MCTP_MESSAGE: a packet arrives; with its last packet the message is dispatched (R63 to R65). -/
def execMctpMessage (pkt : McPacket) (clear : Option Bytes) (s : State) : Host.Outcome State Fault Refusal :=
  .next (mctpPacket s pkt clear)

/-- A datagram on UDP_PORT is dispatched by PAYLOAD_KIND; one with a reserved kind, a nonzero reserved field or more than 1,472 bytes is discarded (R66). `clear` is the session and what a secured message decrypts to. -/
def udpDatagram (s : State) (peer port : Nat) (b : Bytes) (clear : Option (Nat × Bytes)) : State :=
  let kind := fieldAt b 1 1
  if !ethUp s ∨ port ≠ rdN s Obj.UDP_PORT 0 ∨ b.length < 4 ∨ b.length > 1472 ∨ fieldAt b 0 1 ≠ 1 ∨ fieldAt b 2 2 ≠ 0 then s
  else if kind = 1 then spdmClear s true peer (b.drop 4)
  else if kind = 3 then submitReq s (.udp peer none) (b.drop 4)
  else if kind = 2 then
    (match clear with
      | some (n, m) => if (sessionRange true).contains n && sessionOpen s n && Tbl.getD s.mgmt.peer n 0 == peer then submitReq s (.udp peer (some n)) m else s
      | none => s)
  else s

/-- UDP_DATAGRAM (R66). -/
def execUdpDatagram (peer port : Nat) (payload : Bytes) (clear : Option (Nat × Bytes)) (s : State) : Host.Outcome State Fault Refusal :=
  .next (udpDatagram s peer port payload clear)

/-! ## Frames and addresses -/

/-- The IPv4 address in use: from DHCPv4, or ETH_IPV4_ADDR. -/
def ipv4 (s : State) : Nat :=
  if rdB s Obj.ETH_DHCP 0 then s.mgmt.ipv4 else rdN s Obj.ETH_IPV4_ADDR 0

/-- The static IPv6 address; zero disables IPv6. -/
def ipv6 (s : State) : Bytes :=
  readBytes s Obj.ETH_IPV6_ADDR 0 false

/-- ETH_MAC_ADDR. -/
def macAddr (s : State) : Bytes :=
  readBytes s Obj.ETH_MAC_ADDR 0 false

/-- What the management port does with a frame. -/
def ethFrame (s : State) (x : EthFrame) : State :=
  match x with
  | .arp t => if t = ipv4 s ∧ t ≠ 0 then emit s (.frame 0 (macAddr s ++ leBytes 4 t)) else s
  | .echo4 d b => if d = ipv4 s ∧ d ≠ 0 then emit s (.frame 1 b) else s
  | .echo6 d b => if d = ipv6 s ∧ !allZero d then emit s (.frame 2 b) else s
  | .neighbour t => if t = ipv6 s ∧ !allZero t then emit s (.frame 3 (macAddr s ++ t)) else s
  | .dhcp a => if rdB s Obj.ETH_DHCP 0 then modMgmt s (fun y => { y with ipv4 := a }) else s

/-- ETHERNET_FRAME: ARP, echo and neighbour requests for the device's addresses are answered, and a DHCPv4 acknowledgement sets the address (R66). -/
def execEthernetFrame (frame : EthFrame) (s : State) : Host.Outcome State Fault Refusal :=
  .next (if ethUp s then ethFrame s frame else s)

/-- I3C_DYNAMIC_ADDRESS: ENTDAA assigns an address, or SETDASA assigns it to the device with this static address. -/
def execI3cDynamicAddress (setdasa : Bool) (static addr : Nat) (s : State) : Host.Outcome State Fault Refusal :=
  .next (if mctpUp s ∧ 8 ≤ addr ∧ addr ≤ 0x77 ∧ (!setdasa ∨ static = s.mgmt.static) then modMgmt s (fun x => { x with dynAddr := addr }) else s)

end Sys2Proof.Machine
end

