-- ==== Sys2Proof/Machine/Mmio.lean ====
section
/-! DEFINITION. Memory requests to the BARs (R283, R284, R347 to R355, R458) and REGISTER_WRITE. -/

namespace Sys2Proof.Machine

open Sys2Proof

/-! ## Regions (R352, R353) -/

/-- The 256-byte region of an offset is of class OPERATOR: all of a PF's BAR4, and 0x200 to 0x2FF of the doorbell page of a PF's local index 0. -/
def operatorRegion (f bar off : Nat) : Bool :=
  isPf f && (bar == 4 || (bar == 2 && off / 256 == 2))

/-- A request's bytes fall in regions of two classes. -/
def straddles (f bar off len : Nat) : Bool :=
  operatorRegion f bar off != operatorRegion f bar (off + len - 1)

/-- A straddle is counted and raises a WARN event naming the function, the BAR and the first offset (R353). -/
def noteStraddle (s : State) (f bar off : Nat) : State :=
  raise (bump s Obj.MMIO_STRADDLES (fnPort f) 1) (ev 0x08 353) .warn Src.function f (bar + off * 2 ^ 32)

/-- The QP that a doorbell page serves: the function's admin QP, or the QP with that local index, a created one first (R268). -/
def pageQp (s : State) (f page : Nat) : Option Nat :=
  if isPf f ∧ page = 0 then some f
  else
    let l := (List.range 8192).filter (fun q => decide (q ≥ 2) && qpFn s q == f && rdN s Obj.QP_LOCAL_INDEX q == page)
    match l.find? (fun q => qpState s q != Qs.disabled) with
    | some q => some q
    | none => l.head?

/-- Doorbell pages of a function (Table 09-3). -/
def pageCount (s : State) (f : Nat) : Nat :=
  if isPf f then 8192 else rdN s Obj.VF_QP_PAGES (fnPort f)

/-! ## Writes -/

/-- ADMIN_CTRL (Table 07-9): STATE is read only; a nonzero reserved bit drops the write. -/
def adminCtrl (s : State) (f v : Nat) : State :=
  let push := bitAt v 1
  if v ≥ 2 ^ 11 ∨ bitsAt v 3 5 ≠ 0 then s
  else if bitAt v 2 then took s (execAdminCtrlReset f s)
  else if qpState s f ≠ Qs.disabled then took s (execAdminCtrlMode f push s)
  else if bitAt v 0 then took s (execAdminCtrlEnable f push s)
  else wr s Obj.QP_MODE f (if push then 2 else 1)

/-- A write of an admin register: dropped unless the admin QP is DISABLED, save ADMIN_CTRL; only whole aligned registers are accepted, and nonzero reserved bits drop the write (R283, R284). -/
def adminWrite (s : State) (f off : Nat) (b : Bytes) : State :=
  let v := leNat b
  let n := b.length
  if off = 0x218 ∧ n = 4 then adminCtrl s f v
  else if qpState s f ≠ Qs.disabled then s
  else if off = 0x200 ∧ n = 8 then wr s Obj.SR_BASE f (v : Nat)
  else if off = 0x208 ∧ n = 8 then wr s Obj.CR_BASE f (v : Nat)
  else if off = 0x210 ∧ n = 4 then
    (if v ≥ 2 ^ 29 ∨ bitsAt v 13 3 ≠ 0 then s else wr (wr s Obj.SR_SIZE f (bitsAt v 0 13 : Nat)) Obj.CR_SIZE f (bitsAt v 16 13 : Nat))
  else if off = 0x214 ∧ n = 4 then wr (wr s Obj.SR_SEQ_START f (bitsAt v 0 16 : Nat)) Obj.CR_SEQ_START f (bitsAt v 16 16 : Nat)
  else if off = 0x21C ∧ n = 4 then
    (if v ≥ 2 ^ 17 ∨ bitsAt v 11 5 ≠ 0 then s else wrB (wr s Obj.CR_MSIX_VECTOR f (bitsAt v 0 11 : Nat)) Obj.CR_INT_ENABLE f (bitAt v 16))
  else s

/-- A write to a doorbell page, within one 256-byte region (R283, Table 07-7). -/
def doorbellWrite (s : State) (f off : Nat) (b : Bytes) : State :=
  let r := off % 4096
  if off / 4096 ≥ pageCount s f then s
  else if r / 256 = 2 then (if isPf f ∧ off / 4096 = 0 then adminWrite s f r b else s)
  else match pageQp s f (off / 4096) with
    | none => s
    | some q =>
      if r < 256 then took s (execPushSlotWrite q r b s)
      else if r = 0x100 ∧ b.length = 4 then took s (execSrNotify q (BitVec.ofNat 32 (leNat b)) s)
      else if r = 0x104 ∧ b.length = 4 then took s (execCrRelease q (BitVec.ofNat 32 (leNat b)) s)
      else s

/-- One double word of the MSI-X table: address, data, or the mask bit of vector `v` (R351). -/
def msixWrite (s : State) (f v dw val : Nat) : State :=
  if dw < 3 then modFn s f (fun x => { x with table := Tbl.put x.table 0 (4 * v + dw) val })
  else if bitAt val 0 then modFn s f (fun x => { x with unmasked := x.unmasked.filter (fun y => y != v) })
  else flushMsix (modFn s f (fun x => { x with unmasked := addOnce x.unmasked v })) f

/-- First byte of the MSI-X table in BAR0 (Table 09-4). -/
def msixBase (f : Nat) : Nat :=
  if isPf f then 0x8000 else 0x400

/-- Offset of the Pending Bit Array (Table 09-4). -/
def pbaBase (f : Nat) : Nat :=
  if isPf f then 0x1000 else 0x800

/-- A write to BAR0: whole aligned double words of the MSI-X table; everything else is read-only or reserved (Table 09-4). -/
def bar0Write (s : State) (f off : Nat) (b : Bytes) : State :=
  if off % 4 ≠ 0 ∨ b.length % 4 ≠ 0 ∨ off < msixBase f ∨ off + b.length > msixBase f + 16 * vectorCount f then s
  else forRange (b.length / 4) (fun i t =>
    let o := off - msixBase f + 4 * i
    msixWrite t f (o / 16) (o / 4 % 4) (fieldAt b (4 * i) 4)) s

/-- KEY_CONTROL (Tables 12-5 and 12-6): a nonzero reserved field or a reserved ACTION drops the write. -/
def keyControl (s : State) (pf v : Nat) : State :=
  let c := bitsAt v 48 16
  let g := bitsAt v 32 8
  let a := bitsAt v 16 8
  let k := bitsAt v 0 12
  if bitsAt v 40 8 ≠ 0 ∨ bitsAt v 24 8 ≠ 0 ∨ bitsAt v 12 4 ≠ 0 ∨ a = 0 ∨ a > 6 then dropWindow s pf
  else if a = 1 then took s (execLoad pf c g k s)
  else if a = 2 then took s (execInstallCurrent pf c g k s)
  else if a = 3 then took s (execInstallPrevious pf c g k s)
  else if a = 4 then took s (execRetire pf c g k s)
  else if a = 5 then took s (execDestroy pf c g k s)
  else took s (execClearStaging pf c s)

/-- A write to the key window (R458). -/
def bar4Write (s : State) (f off : Nat) (b : Bytes) : State :=
  if off = 0x100 ∧ b.length = 8 then keyControl s f (leNat b) else took s (execKeyStagingWrite f off b s)

/-- A write within one region of a BAR. -/
def barWrite (s : State) (f bar off : Nat) (b : Bytes) : State :=
  if b.isEmpty then s
  else if bar = 0 then bar0Write s f off b
  else if bar = 2 then doorbellWrite s f off b
  else if bar = 4 ∧ isPf f then bar4Write s f off b
  else s

/-- A memory write to a BAR: Unsupported Request, dropped across classes, split at the region boundary between PUBLIC regions (R353 to R355). The key window takes a write whole (R458). -/
def mmioWrite (s : State) (f bar off : Nat) (b : Bytes) : State :=
  if f > 1025 ∨ b = [] then s
  else if !memOpen s f then emit s (.unsupported f bar off)
  else if straddles f bar off b.length then noteStraddle s f bar off
  else if bar = 4 then barWrite s f bar off b
  else
    let k := 256 - off % 256
    barWrite (barWrite s f bar off (b.take k)) f bar (off + k) (b.drop k)

/-! ## Reads -/

/-- The discovery table of a function (Table 09-5). -/
def discovery (s : State) (f : Nat) : Bytes :=
  leBytes 4 0x5442524E ++ leBytes 2 1 ++ leBytes 2 0x80 ++ leBytes 2 f ++ leBytes 1 (b2n (!isPf f)) ++ leBytes 1 (fnPort f) ++ leBytes 2 (rdN s Obj.FW_COMPAT_LEVEL 0) ++
    leBytes 2 (pageCount s f) ++ leBytes 2 (vectorCount f) ++ leBytes 1 2 ++ leBytes 1 (if isPf f then 4 else 0xFF) ++ leBytes 4 (b2n (rdB s Obj.LEVEL0_TENANT_ACCESS f)) ++
    (if isPf f then serialNumber else zeros 16) ++ zeros 24 ++ leBytes 4 0x9640 ++ zeros 60

/-- Byte `o` of BAR0 (Table 09-4). -/
def bar0Byte (s : State) (f o : Nat) : Byte :=
  if o < 0x80 then (discovery s f).getD o 0
  else if pbaBase f ≤ o ∧ o < pbaBase f + vectorCount f / 8 then
    BitVec.ofNat 8 ((List.range 8).foldl (fun n i => if (fnOf s f).pend.contains (8 * (o - pbaBase f) + i) then n + 2 ^ i else n) 0)
  else if msixBase f ≤ o ∧ o < msixBase f + 16 * vectorCount f then
    let k := o - msixBase f
    let v := if k / 4 % 4 = 3 then b2n (!(fnOf s f).unmasked.contains (k / 16)) else Tbl.getD (fnOf s f).table (4 * (k / 16) + k / 4 % 4) 0
    (leBytes 4 v).getD (k % 4) 0
  else 0

/-- Bytes of an object's value from offset `o`. -/
def regByte (s : State) (ob : ObjDesc) (i o : Nat) : Byte :=
  (readObj s ob i false).getD o 0

/-- The level-0 counter window of a QP (Table 17-8). -/
def counterByte (s : State) (q o : Nat) : Byte :=
  if o < 0x840 then
    (match [Obj.QP_READ_CMDS, Obj.QP_WRITE_CMDS, Obj.QP_OTHER_CMDS, Obj.QP_READ_BYTES, Obj.QP_WRITE_BYTES, Obj.QP_ERRORS, Obj.QP_DEGRADED, Obj.QP_SERVICE_TIME_SUM][(o - 0x800) / 8]? with
      | some ob => regByte s ob q (o % 8)
      | none => 0)
  else if 0x900 ≤ o ∧ o < 0xA00 then regByte s Obj.QP_READ_HISTOGRAM q (o - 0x900)
  else if 0xA00 ≤ o ∧ o < 0xB00 then regByte s Obj.QP_WRITE_HISTOGRAM q (o - 0xA00)
  else 0

/-- ADMIN_CTRL as it reads (Table 07-9). -/
def adminCtrlRead (s : State) (f : Nat) : Nat :=
  qpState s f % 8 * 2 ^ 8 + 2 * b2n (rdN s Obj.QP_MODE f == Qs.push) + b2n (qpState s f != Qs.disabled)

/-- Byte `o` of the admin registers of a PF (Table 07-7). -/
def adminByte (s : State) (f o : Nat) : Byte :=
  if o < 0x208 then (leBytes 8 (rdN s Obj.SR_BASE f)).getD (o - 0x200) 0
  else if o < 0x210 then (leBytes 8 (rdN s Obj.CR_BASE f)).getD (o - 0x208) 0
  else if o < 0x214 then (leBytes 4 (rdN s Obj.CR_SIZE f % 2 ^ 13 * 2 ^ 16 + rdN s Obj.SR_SIZE f % 2 ^ 13)).getD (o - 0x210) 0
  else if o < 0x218 then (leBytes 4 (rdN s Obj.CR_SEQ_START f * 2 ^ 16 + rdN s Obj.SR_SEQ_START f)).getD (o - 0x214) 0
  else if o < 0x21C then (leBytes 4 (adminCtrlRead s f)).getD (o - 0x218) 0
  else if o < 0x220 then (leBytes 4 (b2n (rdB s Obj.CR_INT_ENABLE f) * 2 ^ 16 + rdN s Obj.CR_MSIX_VECTOR f % 2 ^ 11)).getD (o - 0x21C) 0
  else 0

/-- Byte `o` of the doorbell page of a QP: write-only and reserved locations read zero (R283). -/
def qpByte (s : State) (f q o : Nat) : Byte :=
  if 0x110 ≤ o ∧ o < 0x118 then (leBytes 8 (qpStatus (rdN s Obj.NEXT_SR_SEQ q) (rdN s Obj.LAST_CR_SEQ q) (tagMask (qpOf s q)))).getD (o - 0x110) 0
  else if 0x118 ≤ o ∧ o < 0x11C then (leBytes 4 (qpStateReg (qpState s q) (rdN s Obj.HALT_CAUSE q))).getD (o - 0x118) 0
  else if o ≥ 0x800 ∧ rdB s Obj.LEVEL0_TENANT_ACCESS f then counterByte s q o
  else 0

/-- Byte `o` of BAR2: the doorbell pages. -/
def bar2Byte (s : State) (f o : Nat) : Byte :=
  if o / 4096 ≥ pageCount s f then 0
  else if isPf f ∧ o / 256 = 2 then adminByte s f o
  else match pageQp s f (o / 4096) with
    | some q => qpByte s f q (o % 4096)
    | none => 0

/-- A byte of a BAR; the key window reads zero. -/
def barByte (s : State) (f bar o : Nat) : Byte :=
  if bar = 0 then bar0Byte s f o else if bar = 2 then bar2Byte s f o else 0

/-- A memory read of a BAR (R350, R353, R355). -/
def mmioRead (s : State) (f bar off len : Nat) : State :=
  if f > 1025 ∨ len = 0 then s
  else if !memOpen s f then emit s (.unsupported f bar off)
  else if straddles f bar off len then emit (noteStraddle s f bar off) (.unsupported f bar off)
  else emit s (.mmioData f ((List.range len).map (fun k => barByte s f bar (off + k))))

/-! ## Configuration space and objects -/

/-- A configuration-space bit of a function is written; a function in reset takes no configuration request (R360). -/
def cfgWrite (s : State) (f : Nat) (bit : CfgBit) (v : Bool) : State :=
  if !rdB s Obj.FUNC_PRESENT f ∨ rdB s Obj.FUNC_IN_RESET f then s
  else match bit with
    | .memorySpace => modFn s f (fun x => { x with mse := v })
    | .pmeEnable => modFn s f (fun x => { x with pmeEn := v })
    | .msixEnable => flushMsix (modFn s f (fun x => { x with msixEn := v })) f
    | .functionMask => flushMsix (modFn s f (fun x => { x with fnMask := v })) f

/-- A number fits an object's type. -/
def fitsType (t : OTy) (v : Int) : Bool :=
  if t = .i32 then decide (-(2 ^ 31) ≤ v ∧ v < 2 ^ 31) else decide (0 ≤ v ∧ v < (2 ^ (8 * t.width) : Nat))

/-- One object is written by an operator: checked, applied, and recorded where it is persistent (R49, R50, R54). -/
def objectWrite (s : State) (index inst sub : Nat) (v : Val) : State :=
  match findObj index sub with
  | none => s
  | some o =>
    let fits : Bool := match v with
      | .num n => decide (o.ty.width ≠ 0) && fitsType o.ty n
      | .bytes b => decide (o.ty.width = 0 ∧ b.length ≤ o.ty.most ∧ b.length % o.rng.rowWidth = 0)
    if !o.instanceOk inst ∨ !fits ∨ checkWrite s o inst v ≠ Rs.ok then s
    else
      let t := applyWrite s o inst v
      if o.persistent && !o.staged then bump t Obj.CONFIG_RECORDS 0 1 else t

/-- REGISTER_WRITE: a write of an object by an operator, a memory write or read of a BAR, or a write of a configuration-space bit (R50, R283, R347 to R355). -/
def execRegisterWrite (t : RegTarget) (s : State) : Host.Outcome State Fault Refusal :=
  .next (match t with
    | .object index inst sub value => objectWrite s index inst sub (.num value)
    | .blob index inst sub value => objectWrite s index inst sub (.bytes value)
    | .mmio f bar off data => mmioWrite s f bar off data
    | .mmioRead f bar off len => mmioRead s f bar off len
    | .cfg f bit value => cfgWrite s f bit value)

end Sys2Proof.Machine
end

