-- ==== Sys2Proof/Machine/Dispatch.lean ====
section
/-! DEFINITION. The meaning of each command: one direct call per constructor. -/

namespace Sys2Proof.Machine

open Sys2Proof

/-- What a command does to everything but the queue. -/
def exec (i : Instr) (s : State) : Host.Outcome State Fault Refusal :=
  match i with
  | .pushSlotWrite qp off data => Sys2Proof.Machine.execPushSlotWrite qp off data s
  | .pushSlotTimeout qp slot => Sys2Proof.Machine.execPushSlotTimeout qp slot s
  | .srNotify qp v => Sys2Proof.Machine.execSrNotify qp v s
  | .crRelease qp v => Sys2Proof.Machine.execCrRelease qp v s
  | .ringFetchComplete qp entries err => Sys2Proof.Machine.execRingFetchComplete qp entries err s
  | .qpPoll qp entries owns err => Sys2Proof.Machine.execQpPoll qp entries owns err s
  | .crSlotPoll qp own err => Sys2Proof.Machine.execCrSlotPoll qp own err s
  | .admitCommand => Sys2Proof.Machine.execAdmitCommand s
  | .completionWrite qp => Sys2Proof.Machine.execCompletionWrite qp s
  | .msixCoalesceTimeout qp => Sys2Proof.Machine.execMsixCoalesceTimeout qp s
  | .adminCtrlEnable pf push => Sys2Proof.Machine.execAdminCtrlEnable pf push s
  | .adminCtrlReset pf => Sys2Proof.Machine.execAdminCtrlReset pf s
  | .adminCtrlMode pf push => Sys2Proof.Machine.execAdminCtrlMode pf push s
  | .qpModeWrite qp mode => Sys2Proof.Machine.execQpModeWrite qp mode s
  | .qpHalt qp => Sys2Proof.Machine.execQpHalt qp s
  | .queueResetTimeout qp => Sys2Proof.Machine.execQueueResetTimeout qp s
  | .read qp tag met => Sys2Proof.Machine.execRead qp tag met s
  | .write qp tag => Sys2Proof.Machine.execWrite qp tag s
  | .flush qp tag => Sys2Proof.Machine.execFlush qp tag s
  | .flushCompletion qp tag => Sys2Proof.Machine.execFlushCompletion qp tag s
  | .deallocate qp tag => Sys2Proof.Machine.execDeallocate qp tag s
  | .deallocateCompletion qp tag => Sys2Proof.Machine.execDeallocateCompletion qp tag s
  | .verify qp tag => Sys2Proof.Machine.execVerify qp tag s
  | .dictRead qp tag req => Sys2Proof.Machine.execDictRead qp tag req s
  | .dictWrite qp tag req => Sys2Proof.Machine.execDictWrite qp tag req s
  | .queueCreate qp tag => Sys2Proof.Machine.execQueueCreate qp tag s
  | .queueReset qp tag => Sys2Proof.Machine.execQueueReset qp tag s
  | .sanitize qp tag => Sys2Proof.Machine.execSanitize qp tag s
  | .format qp tag => Sys2Proof.Machine.execFormat qp tag s
  | .formatPhase1Drained vol => Sys2Proof.Machine.execFormatPhase1Drained vol s
  | .sanitizeCisternWaitEnd vol => Sys2Proof.Machine.execSanitizeCisternWaitEnd vol s
  | .writeDmaLanded qp tag sector data met => Sys2Proof.Machine.execWriteDmaLanded qp tag sector data met s
  | .writeCompletion qp tag => Sys2Proof.Machine.execWriteCompletion qp tag s
  | .readOverlapResolve qp tag => Sys2Proof.Machine.execReadOverlapResolve qp tag s
  | .writeStep7Release qp tag => Sys2Proof.Machine.execWriteStep7Release qp tag s
  | .stripeAgeTimer pool aged => Sys2Proof.Machine.execStripeAgeTimer pool aged s
  | .laneWaitEnd pool cls lane => Sys2Proof.Machine.execLaneWaitEnd pool cls lane s
  | .columnWriteComplete id => Sys2Proof.Machine.execColumnWriteComplete id s
  | .ilogRecordDurable seq back => Sys2Proof.Machine.execIlogRecordDurable seq back s
  | .slotRelease slot => Sys2Proof.Machine.execSlotRelease slot s
  | .ilogWearRotate => Sys2Proof.Machine.execIlogWearRotate s
  | .checkpointStart pool => Sys2Proof.Machine.execCheckpointStart pool s
  | .checkpointStepDone pool => Sys2Proof.Machine.execCheckpointStepDone pool s
  | .mapCheckpointNow pool => Sys2Proof.Machine.execMapCheckpointNow pool s
  | .mapLeafReadComplete id data ok => Sys2Proof.Machine.execMapLeafReadComplete id data ok s
  | .dredgeSelect pool => Sys2Proof.Machine.execDredgeSelect pool s
  | .segmentResetStart pool slot => Sys2Proof.Machine.execSegmentResetStart pool slot s
  | .zoneResetComplete id ok => Sys2Proof.Machine.execZoneResetComplete id ok s
  | .poolActionCreate pool => Sys2Proof.Machine.execPoolActionCreate pool s
  | .poolActionOnline pool => Sys2Proof.Machine.execPoolActionOnline pool s
  | .poolActionOffline pool => Sys2Proof.Machine.execPoolActionOffline pool s
  | .poolActionDestroy pool => Sys2Proof.Machine.execPoolActionDestroy pool s
  | .poolActionStepDone pool id status data heads media => Sys2Proof.Machine.execPoolActionStepDone pool id status data heads media s
  | .codeTableDataWrite slot data => Sys2Proof.Machine.execCodeTableDataWrite slot data s
  | .codeCheckStart slot => Sys2Proof.Machine.execCodeCheckStart slot s
  | .codeCheckDone slot => Sys2Proof.Machine.execCodeCheckDone slot s
  | .volumeCreate vol => Sys2Proof.Machine.execVolumeCreate vol s
  | .volumeDelete vol => Sys2Proof.Machine.execVolumeDelete vol s
  | .volumeDeleteDrained vol => Sys2Proof.Machine.execVolumeDeleteDrained vol s
  | .volumeCapacityWrite vol cap => Sys2Proof.Machine.execVolumeCapacityWrite vol cap s
  | .memberAdd pool slot => Sys2Proof.Machine.execMemberAdd pool slot s
  | .memberRemove pool slot => Sys2Proof.Machine.execMemberRemove pool slot s
  | .memberActionFail pool slot => Sys2Proof.Machine.execMemberActionFail pool slot s
  | .rebuildStart pool => Sys2Proof.Machine.execRebuildStart pool s
  | .rebuildAutoStart pool => Sys2Proof.Machine.execRebuildAutoStart pool s
  | .rebuildNextSegment pool => Sys2Proof.Machine.execRebuildNextSegment pool s
  | .memberReadComplete id data flt => Sys2Proof.Machine.execMemberReadComplete id data flt s
  | .degradedDecodeDone job => Sys2Proof.Machine.execDegradedDecodeDone job s
  | .patrolStripe pool cols => Sys2Proof.Machine.execPatrolStripe pool cols s
  | .patrolRestart pool => Sys2Proof.Machine.execPatrolRestart pool s
  | .resyncStripeCheck pool cols => Sys2Proof.Machine.execResyncStripeCheck pool cols s
  | .reshapeCursorAdvance pool => Sys2Proof.Machine.execReshapeCursorAdvance pool s
  | .driveGroupEnable group on => Sys2Proof.Machine.execDriveGroupEnable group on s
  | .driveLinkUp port speed width => Sys2Proof.Machine.execDriveLinkUp port speed width s
  | .admissionCommandComplete id data => Sys2Proof.Machine.execAdmissionCommandComplete id data s
  | .driveCommandComplete id res data => Sys2Proof.Machine.execDriveCommandComplete id res data s
  | .commandRetryDelay id => Sys2Proof.Machine.execCommandRetryDelay id s
  | .driveCommandTimeout id begun => Sys2Proof.Machine.execDriveCommandTimeout id begun s
  | .abortTimeLimit id => Sys2Proof.Machine.execAbortTimeLimit id s
  | .controllerResetDone port ok begun ns => Sys2Proof.Machine.execControllerResetDone port ok begun ns s
  | .recoveryTimeLimit id => Sys2Proof.Machine.execRecoveryTimeLimit id s
  | .presenceDebounced port => Sys2Proof.Machine.execPresenceDebounced port s
  | .presenceLost port => Sys2Proof.Machine.execPresenceLost port s
  | .dataLinkDown port => Sys2Proof.Machine.execDataLinkDown port s
  | .portReleaseRetry port => Sys2Proof.Machine.execPortReleaseRetry port s
  | .portReleaseFail port => Sys2Proof.Machine.execPortReleaseFail port s
  | .portReleaseLinkTimeout port => Sys2Proof.Machine.execPortReleaseLinkTimeout port s
  | .sidebandFrame inputs => Sys2Proof.Machine.execSidebandFrame inputs s
  | .driveHealthPoll => Sys2Proof.Machine.execDriveHealthPoll s
  | .driveGateClose => Sys2Proof.Machine.execDriveGateClose s
  | .driveGateOpen => Sys2Proof.Machine.execDriveGateOpen s
  | .culvertFlitReceived flit => Sys2Proof.Machine.execCulvertFlitReceived flit s
  | .culvertReplayTimeout => Sys2Proof.Machine.execCulvertReplayTimeout s
  | .culvertDown => Sys2Proof.Machine.execCulvertDown s
  | .bundleTrained bundle => Sys2Proof.Machine.execBundleTrained bundle s
  | .bundleFailed bundle => Sys2Proof.Machine.execBundleFailed bundle s
  | .mirrorData id pool slot flags atomicRef md data => Sys2Proof.Machine.execMirrorData id pool slot flags atomicRef md data s
  | .mirrorAck accepted rejected => Sys2Proof.Machine.execMirrorAck accepted rejected s
  | .mirrorRelease slots => Sys2Proof.Machine.execMirrorRelease slots s
  | .atomicMark pool vol first count => Sys2Proof.Machine.execAtomicMark pool vol first count s
  | .record id pool recs => Sys2Proof.Machine.execRecord id pool recs s
  | .recordAck id => Sys2Proof.Machine.execRecordAck id s
  | .heartbeat serial side level epoch evSeq reserve faultsA faultsB => Sys2Proof.Machine.execHeartbeat serial side level epoch evSeq reserve faultsA faultsB s
  | .epochPrepare epoch change => Sys2Proof.Machine.execEpochPrepare epoch change s
  | .epochPrepared epoch => Sys2Proof.Machine.execEpochPrepared epoch s
  | .epochCommitMessage epoch => Sys2Proof.Machine.execEpochCommitMessage epoch s
  | .epochAbort epoch => Sys2Proof.Machine.execEpochAbort epoch s
  | .digest pool stripe first height slots value => Sys2Proof.Machine.execDigest pool stripe first height slots value s
  | .digestReply pool stripe value => Sys2Proof.Machine.execDigestReply pool stripe value s
  | .sync pool start => Sys2Proof.Machine.execSync pool start s
  | .dumping => Sys2Proof.Machine.execDumping s
  | .handoverRequest pool ckpt => Sys2Proof.Machine.execHandoverRequest pool ckpt s
  | .handoverDone pool ckpt => Sys2Proof.Machine.execHandoverDone pool ckpt s
  | .config pool gen off data state => Sys2Proof.Machine.execConfig pool gen off data state s
  | .settled pool => Sys2Proof.Machine.execSettled pool s
  | .pairJoin => Sys2Proof.Machine.execPairJoin s
  | .pairAliveTimeout => Sys2Proof.Machine.execPairAliveTimeout s
  | .pairHeartbeatTimeout => Sys2Proof.Machine.execPairHeartbeatTimeout s
  | .pairTakeover => Sys2Proof.Machine.execPairTakeover s
  | .fenceAckReceived => Sys2Proof.Machine.execFenceAckReceived s
  | .fenceWaitTimeout => Sys2Proof.Machine.execFenceWaitTimeout s
  | .reservationRetry => Sys2Proof.Machine.execReservationRetry s
  | .takeoverStepDone id res data heads media => Sys2Proof.Machine.execTakeoverStepDone id res data heads media s
  | .pairPoolHandover pool => Sys2Proof.Machine.execPairPoolHandover pool s
  | .pairFaultClear => Sys2Proof.Machine.execPairFaultClear s
  | .epochCommit value => Sys2Proof.Machine.execEpochCommit value s
  | .epochCommitPair value => Sys2Proof.Machine.execEpochCommitPair value s
  | .epochDiscard => Sys2Proof.Machine.execEpochDiscard s
  | .unitAcknowledge unit => Sys2Proof.Machine.execUnitAcknowledge unit s
  | .epochTimeout => Sys2Proof.Machine.execEpochTimeout s
  | .epochRecordWritten => Sys2Proof.Machine.execEpochRecordWritten s
  | .epochRevertDone => Sys2Proof.Machine.execEpochRevertDone s
  | .epochCommitAckTimeout => Sys2Proof.Machine.execEpochCommitAckTimeout s
  | .mctpMessage pkt clear => Sys2Proof.Machine.execMctpMessage pkt clear s
  | .setEndpointId src inst op eid => Sys2Proof.Machine.execSetEndpointId src inst op eid s
  | .getEndpointId src inst => Sys2Proof.Machine.execGetEndpointId src inst s
  | .getMctpVersionSupport src inst ty => Sys2Proof.Machine.execGetMctpVersionSupport src inst ty s
  | .getMessageTypeSupport src inst => Sys2Proof.Machine.execGetMessageTypeSupport src inst s
  | .getVendorDefinedMessageSupport src inst sel => Sys2Proof.Machine.execGetVendorDefinedMessageSupport src inst sel s
  | .udpDatagram peer port payload clear => Sys2Proof.Machine.execUdpDatagram peer port payload clear s
  | .keyExchange udp peer ok => Sys2Proof.Machine.execKeyExchange udp peer ok s
  | .finish session ok => Sys2Proof.Machine.execFinish session ok s
  | .endSession session => Sys2Proof.Machine.execEndSession session s
  | .getMeasurements udp peer index => Sys2Proof.Machine.execGetMeasurements udp peer index s
  | .spdmMessage udp peer code session => Sys2Proof.Machine.execSpdmMessage udp peer code session s
  | .sessionHeartbeatTimeout session => Sys2Proof.Machine.execSessionHeartbeatTimeout session s
  | .dictionaryRead session req => Sys2Proof.Machine.execDictionaryRead session req s
  | .dictionaryWrite session req => Sys2Proof.Machine.execDictionaryWrite session req s
  | .dictionaryNop session req => Sys2Proof.Machine.execDictionaryNop session req s
  | .registerWrite target => Sys2Proof.Machine.execRegisterWrite target s
  | .persistentWritePaced => Sys2Proof.Machine.execPersistentWritePaced s
  | .multipartTimeout session key => Sys2Proof.Machine.execMultipartTimeout session key s
  | .mgmtOobEnChange level => Sys2Proof.Machine.execMgmtOobEnChange level s
  | .factoryDefaults value => Sys2Proof.Machine.execFactoryDefaults value s
  | .weirRecompute => Sys2Proof.Machine.execWeirRecompute s
  | .weirWaitWarn qp tag => Sys2Proof.Machine.execWeirWaitWarn qp tag s
  | .dumpEnd => Sys2Proof.Machine.execDumpEnd s
  | .cisternSelftestTimer dies => Sys2Proof.Machine.execCisternSelftestTimer dies s
  | .cisternEraseDone bytes => Sys2Proof.Machine.execCisternEraseDone bytes s
  | .cisternImageRelease => Sys2Proof.Machine.execCisternImageRelease s
  | .cisternRestoreLossAck => Sys2Proof.Machine.execCisternRestoreLossAck s
  | .load pf confirm gen slot => Sys2Proof.Machine.execLoad pf confirm gen slot s
  | .installCurrent pf confirm gen slot => Sys2Proof.Machine.execInstallCurrent pf confirm gen slot s
  | .installPrevious pf confirm gen slot => Sys2Proof.Machine.execInstallPrevious pf confirm gen slot s
  | .retire pf confirm gen slot => Sys2Proof.Machine.execRetire pf confirm gen slot s
  | .destroy pf confirm gen slot => Sys2Proof.Machine.execDestroy pf confirm gen slot s
  | .clearStaging pf confirm => Sys2Proof.Machine.execClearStaging pf confirm s
  | .keyStagingWrite pf off data => Sys2Proof.Machine.execKeyStagingWrite pf off data s
  | .keyPersistWrite mode => Sys2Proof.Machine.execKeyPersistWrite mode s
  | .tamperEnclosureAssert => Sys2Proof.Machine.execTamperEnclosureAssert s
  | .tamperMeshBreak => Sys2Proof.Machine.execTamperMeshBreak s
  | .tamperClear value quiet => Sys2Proof.Machine.execTamperClear value quiet s
  | .pipeClear quadrant pass => Sys2Proof.Machine.execPipeClear quadrant pass s
  | .invalidateRange => Sys2Proof.Machine.execInvalidateRange s
  | .invalidateVolume => Sys2Proof.Machine.execInvalidateVolume s
  | .invalidateAll => Sys2Proof.Machine.execInvalidateAll s
  | .cleanLines => Sys2Proof.Machine.execCleanLines s
  | .preload range => Sys2Proof.Machine.execPreload range s
  | .unlock range => Sys2Proof.Machine.execUnlock range s
  | .cacheMaintStep => Sys2Proof.Machine.execCacheMaintStep s
  | .cacheWaysEnabled n => Sys2Proof.Machine.execCacheWaysEnabled n s
  | .cacheFrameWays n => Sys2Proof.Machine.execCacheFrameWays n s
  | .sliceWayReenable slice mask => Sys2Proof.Machine.execSliceWayReenable slice mask s
  | .wayMarchTestDone slice way pass => Sys2Proof.Machine.execWayMarchTestDone slice way pass s
  | .wayDisable slice way => Sys2Proof.Machine.execWayDisable slice way s
  | .frameFillComplete frame => Sys2Proof.Machine.execFrameFillComplete frame s
  | .hbmStackFailed stack => Sys2Proof.Machine.execHbmStackFailed stack s
  | .packEnable on => Sys2Proof.Machine.execPackEnable on s
  | .packResetLearning => Sys2Proof.Machine.execPackResetLearning s
  | .packEsrMeasureNow => Sys2Proof.Machine.execPackEsrMeasureNow s
  | .packEsrInterval => Sys2Proof.Machine.execPackEsrInterval s
  | .impedanceDeferredRun => Sys2Proof.Machine.execImpedanceDeferredRun s
  | .impedanceSettleDone v amp => Sys2Proof.Machine.execImpedanceSettleDone v amp s
  | .impedanceLoadOff v amp => Sys2Proof.Machine.execImpedanceLoadOff v amp s
  | .estimatorUpdate => Sys2Proof.Machine.execEstimatorUpdate s
  | .packOvervoltage => Sys2Proof.Machine.execPackOvervoltage s
  | .packChargerFault => Sys2Proof.Machine.execPackChargerFault s
  | .packAbsent => Sys2Proof.Machine.execPackAbsent s
  | .packPresent => Sys2Proof.Machine.execPackPresent s
  | .packRested => Sys2Proof.Machine.execPackRested s
  | .packStale => Sys2Proof.Machine.execPackStale s
  | .p3v3AuxRise side => Sys2Proof.Machine.execP3v3AuxRise side s
  | .p3v3AuxLoss => Sys2Proof.Machine.execP3v3AuxLoss s
  | .p12vInRange => Sys2Proof.Machine.execP12vInRange s
  | .p12vSag => Sys2Proof.Machine.execP12vSag s
  | .p12vReturned => Sys2Proof.Machine.execP12vReturned s
  | .rideThroughClear => Sys2Proof.Machine.execRideThroughClear s
  | .rideThroughExpiry => Sys2Proof.Machine.execRideThroughExpiry s
  | .acfailExpiry => Sys2Proof.Machine.execAcfailExpiry s
  | .acfailRelease => Sys2Proof.Machine.execAcfailRelease s
  | .inputCollapse written => Sys2Proof.Machine.execInputCollapse written s
  | .railFault written => Sys2Proof.Machine.execRailFault written s
  | .thermalTrip temp written => Sys2Proof.Machine.execThermalTrip temp written s
  | .thermalDump temp => Sys2Proof.Machine.execThermalDump temp s
  | .thermAlert temp => Sys2Proof.Machine.execThermAlert temp s
  | .thermAlertRelease temp => Sys2Proof.Machine.execThermAlertRelease temp s
  | .quadrantStepDown q temp => Sys2Proof.Machine.execQuadrantStepDown q temp s
  | .thermalEpochRetry => Sys2Proof.Machine.execThermalEpochRetry s
  | .quadrantReturn q temp => Sys2Proof.Machine.execQuadrantReturn q temp s
  | .pllLockLoss => Sys2Proof.Machine.execPllLockLoss s
  | .pllRelock => Sys2Proof.Machine.execPllRelock s
  | .pllFallback => Sys2Proof.Machine.execPllFallback s
  | .railsOffTimeout => Sys2Proof.Machine.execRailsOffTimeout s
  | .resetNAssert cool => Sys2Proof.Machine.execResetNAssert cool s
  | .resetNRelease cool => Sys2Proof.Machine.execResetNRelease cool s
  | .startupStepDone ok x => Sys2Proof.Machine.execStartupStepDone ok x s
  | .startMemberWaitExpiry => Sys2Proof.Machine.execStartMemberWaitExpiry s
  | .watchdogExpiry => Sys2Proof.Machine.execWatchdogExpiry s
  | .deviceReset value => Sys2Proof.Machine.execDeviceReset value s
  | .fwUpdateSlot v => Sys2Proof.Machine.execFwUpdateSlot v s
  | .fwSlotErase slot => Sys2Proof.Machine.execFwSlotErase slot s
  | .fwSlotData chunk data => Sys2Proof.Machine.execFwSlotData chunk data s
  | .fwSlotVerify slot auth version compat svn => Sys2Proof.Machine.execFwSlotVerify slot auth version compat svn s
  | .bootSlotPreferred v => Sys2Proof.Machine.execBootSlotPreferred v s
  | .fwSvnCommit v => Sys2Proof.Machine.execFwSvnCommit v s
  | .hostPrbs => Sys2Proof.Machine.execHostPrbs s
  | .drivePrbs => Sys2Proof.Machine.execDrivePrbs s
  | .culvertPrbs => Sys2Proof.Machine.execCulvertPrbs s
  | .culvertLoopback => Sys2Proof.Machine.execCulvertLoopback s
  | .hbmPattern => Sys2Proof.Machine.execHbmPattern s
  | .cisternSelftest => Sys2Proof.Machine.execCisternSelftest s
  | .testStop x => Sys2Proof.Machine.execTestStop x s
  | .testDurationExpiry x => Sys2Proof.Machine.execTestDurationExpiry x s
  | .testConditionLost x => Sys2Proof.Machine.execTestConditionLost x s
  | .jtagInstruction op => Sys2Proof.Machine.execJtagInstruction op s
  | .busMasterDisable fn => Sys2Proof.Machine.execBusMasterDisable fn s
  | .busMasterEnable fn => Sys2Proof.Machine.execBusMasterEnable fn s
  | .hostReadErrorCompletion qp tag => Sys2Proof.Machine.execHostReadErrorCompletion qp tag s
  | .flr fn => Sys2Proof.Machine.execFlr fn s
  | .flrComplete fn => Sys2Proof.Machine.execFlrComplete fn s
  | .d3hotEntry fn => Sys2Proof.Machine.execD3hotEntry fn s
  | .d0Return fn => Sys2Proof.Machine.execD0Return fn s
  | .vfEnable port on numVfs => Sys2Proof.Machine.execVfEnable port on numVfs s
  | .msixVectorUnmask fn what => Sys2Proof.Machine.execMsixVectorUnmask fn what s
  | .perstAssert port => Sys2Proof.Machine.execPerstAssert port s
  | .perstRelease port speed width => Sys2Proof.Machine.execPerstRelease port speed width s
  | .hotReset port => Sys2Proof.Machine.execHotReset port s
  | .hostLinkDown port => Sys2Proof.Machine.execHostLinkDown port s
  | .moduleIdleEntry => Sys2Proof.Machine.execModuleIdleEntry s
  | .moduleIdleExit => Sys2Proof.Machine.execModuleIdleExit s
  | .coalesceWindowClose key => Sys2Proof.Machine.execCoalesceWindowClose key s
  | .stormQuiet path => Sys2Proof.Machine.execStormQuiet path s
  | .eventRingEnable pf on => Sys2Proof.Machine.execEventRingEnable pf on s
  | .eventRingCoalesceTimeout pf => Sys2Proof.Machine.execEventRingCoalesceTimeout pf s
  | .subscribe session severity => Sys2Proof.Machine.execSubscribe session severity s
  | .eventSubFetch session len => Sys2Proof.Machine.execEventSubFetch session len s
  | .eventStoreRead session len => Sys2Proof.Machine.execEventStoreRead session len s
  | .alarmStoreRead session len => Sys2Proof.Machine.execAlarmStoreRead session len s
  | .counterClear mask => Sys2Proof.Machine.execCounterClear mask s
  | .admissionTimeout port => Sys2Proof.Machine.execAdmissionTimeout port s
  | .driveControllerReady port => Sys2Proof.Machine.execDriveControllerReady port s
  | .driveAerUncorrectable port => Sys2Proof.Machine.execDriveAerUncorrectable port s
  | .hbmRefreshThreshold stack temp => Sys2Proof.Machine.execHbmRefreshThreshold stack temp s
  | .p12vTransient => Sys2Proof.Machine.execP12vTransient s
  | .ethernetFrame frame => Sys2Proof.Machine.execEthernetFrame frame s
  | .i3cDynamicAddress setdasa static addr => Sys2Proof.Machine.execI3cDynamicAddress setdasa static addr s
  | .heartbeatInterval => Sys2Proof.Machine.execHeartbeatInterval s
  | .pairAliveReturn => Sys2Proof.Machine.execPairAliveReturn s
  | .listPageReadComplete qp tag page err => Sys2Proof.Machine.execListPageReadComplete qp tag page err s
  | .pmeStatusClear pf => Sys2Proof.Machine.execPmeStatusClear pf s
  | .packSample v amp temp ntc => Sys2Proof.Machine.execPackSample v amp temp ntc s
  | .zeroingComplete kind => Sys2Proof.Machine.execZeroingComplete kind s

end Sys2Proof.Machine
end

