-- ==== Sys2Proof/Machine/Idle.lean ====
section
/-! DEFINITION. The microsecond that passes when no command waits, and the work the hardware does then of its own accord. -/

namespace Sys2Proof.Machine

open Sys2Proof

/-- Work that needs no further event: commands of a pool that is FAILED end with POOL_OFFLINE (Table 08-11), differing stripe digests are read back and resolved (R431), a waiting thermal epoch starts (R543), and a lock range waiting for its preload starts (R490). -/
def background (s : State) : State :=
  if running s then
    startReload (tryThermal (digestWork (forRange 8 (fun p t => if poolState t p = Ps.failed then offlineCmds t p else t) s)))
  else s

/-- One idle microsecond. -/
def idle (s : State) : State :=
  background (tick s)

end Sys2Proof.Machine
end

