-- ==== Sys2Proof/Safety.lean ====
section
/-! DEFINITION. What a safe state is, and what each command may change, in the terms the statements use. -/

namespace Sys2Proof.Machine

open Sys2Proof

/-- The dictionary's registers and byte strings are in their canonical form: keys strictly rising, so that equal contents are equal data. -/
def Canon (s : State) : Prop :=
  Tbl.wf s.dict.regs = true ∧ Tbl.wf s.dict.blobs = true

/-! ## Frames -/

/-- The parts of the state beside the time, the queue of commands and the objects of the dictionary. `sess` is the dictionary engine's own state: sessions, requests held for the write ceiling, the ceiling and the factory mark. -/
inductive Part
  | bootAt
  | sess
  | ep
  | ev
  | qps
  | sluice
  | host
  | vols
  | map
  | prot
  | pools
  | ilog
  | drv
  | key
  | cache
  | lines
  | pair
  | pack
  | power
  | mgmt
  | pins
  | out
  | freeCtr
deriving DecidableEq, Repr

/-- The part is the same in the two states. -/
def Part.same (p : Part) (s t : State) : Prop :=
  match p with
  | .bootAt => t.bootAt = s.bootAt
  | .sess => t.dict.sessions = s.dict.sessions ∧ t.dict.paced = s.dict.paced ∧ t.dict.pace = s.dict.pace ∧ t.dict.factory = s.dict.factory
  | .ep => t.ep = s.ep
  | .ev => t.ev = s.ev
  | .qps => t.qps = s.qps
  | .sluice => t.sluice = s.sluice
  | .host => t.host = s.host
  | .vols => t.vols = s.vols
  | .map => t.map = s.map
  | .prot => t.prot = s.prot
  | .pools => t.pools = s.pools
  | .ilog => t.ilog = s.ilog
  | .drv => t.drv = s.drv
  | .key => t.key = s.key
  | .cache => t.cache = s.cache
  | .lines => t.lines = s.lines
  | .pair => t.pair = s.pair
  | .pack => t.pack = s.pack
  | .power => t.power = s.power
  | .mgmt => t.mgmt = s.mgmt
  | .pins => t.pins = s.pins
  | .out => t.out = s.out
  | .freeCtr => t.freeCtr = s.freeCtr

/-- What a command may change: parts of the state, and objects of the dictionary (none: any object). -/
structure Foot where
  parts : List Part
  objs  : Option (List ObjDesc)

/-- Two states differ at most where the footprint allows it: every other part is the same, and every other object of the object table reads the same at every instance. -/
def Foot.Kept (f : Foot) (s t : State) : Prop :=
  (∀ p : Part, p ∉ f.parts → p.same s t) ∧
  (∀ l, f.objs = some l → ∀ o ∈ objTable, (∀ x ∈ l, ¬(x.index = o.index ∧ x.sub = o.sub)) → ∀ i, rd t o i = rd s o i ∧ rdBytes t o i = rdBytes s o i)

/-! ## Objects that shared operations may write -/

/-- Raising an event may write these objects. -/
def evObjs : List ObjDesc :=
  [Obj.EVENTS_CREATED, Obj.EVENTS_COALESCED, Obj.PATH_SHEDDING, Obj.PATH_DELIVERED, Obj.PATH_SHED_WARN, Obj.PATH_SHED_INFO, Obj.PATH_SHED_TRACE, Obj.PATH_OVERRUNS, Obj.EVENT_RING_NEXT_DELIVERY]

/-- Sending a command to a member drive may write these objects. -/
def cmdObjs : List ObjDesc :=
  [Obj.DPORT_HELD_COMMANDS, Obj.DPORT_INFLIGHT, Obj.DRIVE_INFLIGHT_TOTAL, Obj.DRIVE_GATE_HELD]

/-- Sending a message to the partner may write these objects. -/
def linkObjs : List ObjDesc :=
  [Obj.CULVERT_TX_FLITS, Obj.CULVERT_CREDIT_WAITS, Obj.CULVERT_UNACKED_PEAK]

/-- Changing map entries may write these objects. -/
def mapObjs : List ObjDesc :=
  [Obj.LOST_SECTORS, Obj.LOST_LIST_TRUNCATED, Obj.MAP_DIRTY_LEAVES, Obj.MAP_LEAVES_RESIDENT, Obj.MAP_LEAVES_DIRTY_PCT, Obj.CACHE_FRAMES_LOCKED, Obj.FLUME_ENTRIES, Obj.ILOG_RECORDS_WRITTEN]

/-- Starting an on-demand test may write these objects. -/
def testObjs : List ObjDesc :=
  [Obj.TEST_STATE, Obj.TEST_BITS, Obj.TEST_ERRORS, Obj.TEST_LANE_ERRORS]

/-- Starting cache maintenance may write these objects. -/
def maintObjs : List ObjDesc :=
  [Obj.CACHE_MAINT_BUSY, Obj.CACHE_MAINT_RUNNING, Obj.CACHE_MAINT_RESULT, Obj.CACHE_MAINT_PROGRESS]

/-- Ending a session may write these objects. -/
def sessObjs : List ObjDesc :=
  [Obj.SESSION_OPEN, Obj.SESSION_PRIVILEGE, Obj.NEXT_REQ_SEQ, Obj.LAST_RSP_SEQ, Obj.PATH_RATE, Obj.PATH_BURST, Obj.PATH_SHEDDING, Obj.EVENT_SUB_FETCH, Obj.EVENT_SUB_QUEUED, Obj.EVENT_STORE_FROM, Obj.EVENT_STORE_READ, Obj.ALARM_STORE_FROM, Obj.ALARM_STORE_READ]

/-- Starting a takeover may write these objects. -/
def fenceObjs : List ObjDesc :=
  cmdObjs ++ [Obj.PAIR_STATE, Obj.PAIR_FENCE_STATE, Obj.PAIR_TAKEOVER_STEP, Obj.PAIR_TAKEOVER_CAUSE]

/-- Closing open stripes may write these objects. -/
def stripeObjs : List ObjDesc :=
  [Obj.OPEN_STRIPES, Obj.OPEN_SEGMENTS, Obj.SHORT_STRIPES, Obj.SEGMENT_SLOTS_USED, Obj.LANES_WAITING]

/-- Discarding a protected-cache slot may write these objects. -/
def slotObjs : List ObjDesc :=
  cmdObjs ++ linkObjs ++ [Obj.OPEN_STRIPES, Obj.SHORT_STRIPES, Obj.OWN_DIRTY_BYTES, Obj.OWN_PARITY_BYTES, Obj.MIRROR_HELD_BYTES]

/-- Starting an epoch may write these objects. -/
def epochRunObjs : List ObjDesc :=
  stripeObjs ++ cmdObjs ++ linkObjs ++ [Obj.EPOCH_STATE, Obj.EPOCH_LAGGARDS, Obj.UNIT_ACK]

/-- Recomputing the Weir may write these objects. -/
def weirObjs : List ObjDesc :=
  evObjs ++ stripeObjs ++ cmdObjs ++ linkObjs ++ [Obj.MIRROR_RESERVE_IN_EFFECT, Obj.WEIR_CURRENT, Obj.WEIR_ENERGY_BYTES, Obj.WEIR_BINDING, Obj.WEIR_ENERGY_INPUT, Obj.WRITE_THROUGH]

/-- A key-window action may write these objects. -/
def keyObjs : List ObjDesc :=
  [Obj.DEVICE_LOCKED, Obj.POOL_STATE, Obj.POOL_CONDITIONS, Obj.VOLUME_STATE, Obj.KEY_SLOTS_IN_USE, Obj.KEY_STATE, Obj.KEY_GEN_PREVIOUS, Obj.KEY_KCV_XTS_PREVIOUS, Obj.KEY_KCV_GMAC_PREVIOUS, Obj.KEY_PRESENT, Obj.KEY_LOAD_RESULT, Obj.KEY_LOAD_COUNT, Obj.KEY_LOAD_SLOT, Obj.KEY_WINDOW_DROPPED, Obj.VOLUME_LOCK_CAUSE]

/-- A change of usable ways may write these objects. -/
def wayObjs : List ObjDesc :=
  evObjs ++ [Obj.CACHE_FRAMES_TOTAL, Obj.CACHE_FRAMES_LOCKED, Obj.SLICE_STATE, Obj.SLICE_WAYS_USABLE, Obj.SLICE_FRAME_WAYS, Obj.CACHE_MAINT_BUSY, Obj.CACHE_MAINT_RUNNING, Obj.CACHE_MAINT_PROGRESS, Obj.FLUME_ENTRIES]

/-- Writing a completion entry may write these objects. -/
def cplObjs : List ObjDesc :=
  [Obj.FUNC_DMA_HALTED, Obj.QP_STATE, Obj.LAST_CR_SEQ, Obj.LOST_COMPLETIONS, Obj.QP_READ_CMDS, Obj.QP_WRITE_CMDS, Obj.QP_OTHER_CMDS, Obj.QP_READ_BYTES, Obj.QP_WRITE_BYTES, Obj.QP_ERRORS, Obj.QP_DEGRADED, Obj.QP_SERVICE_TIME_SUM, Obj.VOL_READ_CMDS, Obj.VOL_WRITE_CMDS, Obj.VOL_OTHER_CMDS, Obj.VOL_READ_BYTES, Obj.VOL_WRITE_BYTES, Obj.VOL_ERRORS, Obj.VOL_DEGRADED, Obj.VOL_SERVICE_TIME_SUM, Obj.FN_CMDS, Obj.FN_READ_BYTES, Obj.FN_WRITE_BYTES, Obj.FN_ERRORS]

/-- Placing sectors anew may write these objects. -/
def segObjs : List ObjDesc :=
  evObjs ++ stripeObjs ++ cmdObjs ++ linkObjs ++ [Obj.MEMBER_ZONES_FREE, Obj.MAP_DIRTY_LEAVES, Obj.MAP_LEAVES_RESIDENT, Obj.MAP_LEAVES_DIRTY_PCT, Obj.DREDGE_STATE, Obj.FREE_ZONE_PERCENT, Obj.DREDGE_PACING, Obj.CACHE_FRAMES_LOCKED, Obj.FLUME_ENTRIES, Obj.ILOG_RECORDS_WRITTEN]

/-- Resolving a sector of a read may write these objects. -/
def readObjs : List ObjDesc :=
  segObjs ++ mapObjs ++ [Obj.POOL_STATE, Obj.POOL_CONDITIONS, Obj.LOST_STRIPES, Obj.DEGRADED_READS, Obj.VOLUME_STATE, Obj.MAP_LEAF_MISSES, Obj.SLICE_HITS, Obj.SLICE_MISSES, Obj.SLICE_STREAM_FILLS, Obj.SLICE_PREFETCHES, Obj.SLICE_PREFETCH_USED, Obj.SLICE_UE, Obj.FLUME_LOOKUPS, Obj.FLUME_PUSH_HITS, Obj.HBM_UE, Obj.DIRTY_POISON_BAD_DATA, Obj.PIPE_STATE, Obj.PIPE_FAULTS, Obj.PIPE_SERVED_BY, Obj.PIPE_BYTES, Obj.KEY_USAGE_CURRENT, Obj.VOLUME_LOCK_CAUSE, Obj.TAG_FAILS, Obj.ZERO_ALLOC_WAITS, Obj.ZERO_RESERVE_PCT]

/-- A sector read for the device lands may write these objects. -/
def sectorObjs : List ObjDesc :=
  segObjs ++ slotObjs ++ mapObjs ++ [Obj.REBUILD_SECTORS_DONE, Obj.DEGRADED_READS, Obj.VOLUME_STATE, Obj.SLICE_STREAM_FILLS, Obj.SLICE_PREFETCHES, Obj.LOCK_SECTORS_HELD, Obj.PIPE_STATE, Obj.PIPE_FAULTS, Obj.PIPE_SERVED_BY, Obj.PIPE_BYTES, Obj.KEY_USAGE_CURRENT, Obj.VOLUME_LOCK_CAUSE, Obj.TAG_FAILS, Obj.ZERO_ALLOC_WAITS, Obj.ZERO_RESERVE_PCT]

/-- Dredging a segment may write these objects. -/
def dredgeObjs : List ObjDesc :=
  segObjs ++ mapObjs ++ [Obj.POOL_STATE, Obj.POOL_CONDITIONS, Obj.LOST_STRIPES, Obj.KEY_USAGE_CURRENT, Obj.TAG_FAILS]

/-- Starting a reshape may write these objects. -/
def reshapeObjs : List ObjDesc :=
  stripeObjs ++ cmdObjs ++ linkObjs ++ [Obj.POOL_STATE, Obj.POOL_CONDITIONS, Obj.POOL_CODE_TABLE, Obj.POOL_K, Obj.POOL_SB_GENERATION, Obj.POOL_WIDTH, Obj.POOL_TOLERANCE, Obj.POOL_CAPACITY, Obj.RESHAPE_KIND, Obj.RESHAPE_CURSOR, Obj.RESHAPE_RESULT, Obj.ILOG_RECORDS_WRITTEN]

/-- A step of drive admission may write these objects. -/
def admObjs : List ObjDesc :=
  evObjs ++ cmdObjs ++ [Obj.DPORT_STATE, Obj.DRIVE_ADMISSION, Obj.DRIVE_NGUID, Obj.DRIVE_NSID, Obj.DRIVE_MEMBER_OF, Obj.DRIVE_MODEL, Obj.DRIVE_SERIAL, Obj.DRIVE_FIRMWARE, Obj.DRIVE_CAPACITY, Obj.DRIVE_KIND, Obj.DRIVE_ZONE_SECTORS, Obj.DRIVE_MAX_ACTIVE, Obj.DRIVE_VOLATILE_CACHE, Obj.POOL_STATE, Obj.POOL_CONDITIONS, Obj.MEMBER_PORT, Obj.MEMBER_NSID, Obj.REBUILD_STATE, Obj.REBUILD_SECTORS_TOTAL, Obj.REBUILD_SECTORS_DONE, Obj.MEMBER_ACTION_RESULT]

/-- A member fails may write these objects. -/
def failObjs : List ObjDesc :=
  dredgeObjs ++ slotObjs ++ [Obj.UNIT_APPLIED_EPOCH, Obj.MODULE_IDLE, Obj.DRIVE_MEMBER_OF, Obj.POOL_SB_GENERATION, Obj.MEMBER_PORT, Obj.MEMBER_NSID, Obj.MEMBER_STATE, Obj.REBUILD_STATE, Obj.REBUILD_SECTORS_TOTAL, Obj.REBUILD_SECTORS_DONE, Obj.MEMBER_FAIL_CAUSE, Obj.MEMBER_ACTION_RESULT, Obj.INTEGRITY_UNRECOVERED]

/-- A column read lands may write these objects. -/
def srcObjs : List ObjDesc :=
  failObjs ++ [Obj.DPORT_STATE, Obj.DPORT_CONTAIN_CAUSE, Obj.MEMBER_MEDIA_ERRORS, Obj.INTEGRITY_GUARD_FAILS, Obj.INTEGRITY_ADDRESS_FAILS]

/-- Taking a configuration may write these objects. -/
def cfgObjs : List ObjDesc :=
  evObjs ++ [Obj.DRIVE_MEMBER_OF, Obj.POOL_STATE, Obj.POOL_CODE_TABLE, Obj.POOL_K, Obj.POOL_STRIPE_HEIGHT, Obj.POOL_ZONE_SIZE, Obj.POOL_REBUILD_RESERVE, Obj.POOL_OVERPROVISION, Obj.POOL_UUID, Obj.POOL_SB_GENERATION, Obj.POOL_WIDTH, Obj.POOL_TOLERANCE, Obj.POOL_CAPACITY, Obj.POOL_MEMBER_KIND, Obj.MEMBER_PORT, Obj.MEMBER_NSID, Obj.MEMBER_STATE, Obj.MEMBER_NGUID, Obj.MEMBER_ZONES, Obj.MEMBER_FAIL_CAUSE, Obj.RESHAPE_TARGET_TABLE, Obj.RESHAPE_TARGET_K, Obj.RESHAPE_KIND, Obj.RESHAPE_CURSOR, Obj.VOLUME_STATE, Obj.VOLUME_POOL, Obj.VOLUME_CAPACITY, Obj.VOLUME_GRAIN, Obj.VOLUME_KEY_SLOT, Obj.VOLUME_TAGGED, Obj.PAIR_POOL_ROLE]

/-- The end of a pool assembly may write these objects. -/
def asmObjs : List ObjDesc :=
  segObjs ++ slotObjs ++ [Obj.POOL_STATE, Obj.POOL_CONDITIONS, Obj.POOL_SB_GENERATION, Obj.REBUILD_STATE, Obj.REBUILD_SECTORS_TOTAL, Obj.REBUILD_SECTORS_DONE, Obj.VOLUME_STATE, Obj.VOLUME_POOL, Obj.VOLUME_CAPACITY, Obj.VOLUME_GRAIN, Obj.VOLUME_KEY_SLOT, Obj.VOLUME_TAGGED, Obj.MAP_REPLAY_BYTES, Obj.MAP_WRITE_HOLDS, Obj.MAP_DIR_BYTES, Obj.DREDGE_SEGMENTS_FREED, Obj.ILOG_RING_FREE, Obj.ILOG_PRESSURE_HOLDS, Obj.RESYNC_STRIPES_TOTAL, Obj.RESYNC_STRIPES_DONE, Obj.RESTORED_PENDING_BYTES, Obj.VOLUME_LOCK_CAUSE]

/-- The loss of a drive may write these objects. -/
def lostObjs : List ObjDesc :=
  failObjs ++ admObjs ++ [Obj.DPORT_CONTAIN_CAUSE, Obj.DPORT_LINK_SPEED, Obj.DPORT_LINK_WIDTH, Obj.DRIVE_CRITICAL_WARNING, Obj.DRIVE_PERCENT_USED]

/-- The end of a function reset may write these objects. -/
def flrObjs : List ObjDesc :=
  cplObjs ++ sessObjs ++ slotObjs ++ [Obj.PORT_NUM_VFS, Obj.FUNC_PRESENT, Obj.FUNC_DSTATE, Obj.FUNC_BUS_MASTER, Obj.FUNC_IN_RESET, Obj.QP_FUNCTION, Obj.QP_LOCAL_INDEX, Obj.SR_BASE, Obj.SR_SIZE, Obj.CR_BASE, Obj.CR_SIZE, Obj.SR_SEQ_START, Obj.CR_SEQ_START, Obj.QP_MODE, Obj.QP_POLL_INTERVAL, Obj.QP_POLL_BATCH, Obj.QP_WRR_WEIGHT, Obj.NEXT_SR_SEQ, Obj.CR_RELEASED_SEQ, Obj.TAGS_OUTSTANDING, Obj.HALT_CAUSE, Obj.QP_HALT, Obj.QP_CREATE_RESULT, Obj.TAG_OUTCOME, Obj.PUSH_TAKEN, Obj.PUSH_MISMATCH, Obj.PUSH_STALE, Obj.PUSH_DROPPED, Obj.RING_REFETCHES, Obj.CR_RELEASE_IGNORED, Obj.CR_MSIX_VECTOR, Obj.CR_INT_ENABLE, Obj.CR_COALESCE_COUNT, Obj.CR_COALESCE_TIME, Obj.CR_URGENT_ON_ERROR, Obj.CR_SPLIT_WRITE, Obj.WINDOW_BASE, Obj.WINDOW_LENGTH, Obj.WINDOW_BASE_1, Obj.WINDOW_LENGTH_1, Obj.WINDOW_BASE_2, Obj.WINDOW_LENGTH_2, Obj.WINDOW_BASE_3, Obj.WINDOW_LENGTH_3, Obj.WINDOW_BASE_4, Obj.WINDOW_LENGTH_4, Obj.WINDOW_BASE_5, Obj.WINDOW_LENGTH_5, Obj.WINDOW_BASE_6, Obj.WINDOW_LENGTH_6, Obj.WINDOW_BASE_7, Obj.WINDOW_LENGTH_7, Obj.WINDOW_BASE_8, Obj.WINDOW_LENGTH_8, Obj.WINDOW_BASE_9, Obj.WINDOW_LENGTH_9, Obj.WINDOW_BASE_10, Obj.WINDOW_LENGTH_10, Obj.WINDOW_BASE_11, Obj.WINDOW_LENGTH_11, Obj.WINDOW_BASE_12, Obj.WINDOW_LENGTH_12, Obj.WINDOW_BASE_13, Obj.WINDOW_LENGTH_13, Obj.WINDOW_BASE_14, Obj.WINDOW_LENGTH_14, Obj.WINDOW_BASE_15, Obj.WINDOW_LENGTH_15, Obj.EVENT_RING_BASE, Obj.EVENT_RING_SIZE, Obj.EVENT_RING_ENABLE, Obj.EVENT_RING_MSIX, Obj.EVENT_RING_COALESCE_COUNT, Obj.EVENT_RING_COALESCE_TIME, Obj.EVENT_RING_NEXT_DELIVERY, Obj.FN_SLUICE_WAIT_TIME, Obj.FN_ADMITTED]

/-! ## The footprint of each command -/

/-- What each command may change beside what it drives: the registers and the state that its rules name, and those of the work that follows from it at once (an event raised, a stripe closed, a member command sent). -/
def footOf (c : Instr) : Foot :=
  match c with
  | .pushSlotWrite _ _ _ => ⟨[.qps, .sluice, .out], some [Obj.NEXT_SR_SEQ, Obj.PUSH_TAKEN, Obj.PUSH_MISMATCH, Obj.PUSH_STALE, Obj.PUSH_DROPPED, Obj.RING_REFETCHES]⟩
  | .pushSlotTimeout _ _ => ⟨[.qps, .out], some [Obj.PUSH_DROPPED, Obj.RING_REFETCHES]⟩
  | .srNotify _ _ => ⟨[.qps, .out], some [Obj.PUSH_DROPPED, Obj.RING_REFETCHES]⟩
  | .crRelease _ _ => ⟨[.qps], some [Obj.CR_RELEASED_SEQ, Obj.CR_RELEASE_IGNORED]⟩
  | .ringFetchComplete _ _ _ => ⟨[.ev, .qps, .sluice, .host, .out], some (evObjs ++ [Obj.QP_STATE, Obj.NEXT_SR_SEQ, Obj.HALT_CAUSE, Obj.RING_REFETCHES])⟩
  | .qpPoll _ _ _ _ => ⟨[.ev, .qps, .sluice, .host, .out], some (evObjs ++ [Obj.QP_STATE, Obj.NEXT_SR_SEQ, Obj.HALT_CAUSE, Obj.RING_REFETCHES])⟩
  | .crSlotPoll _ _ _ => ⟨[.ev, .qps, .host, .out], some (evObjs ++ [Obj.QP_STATE, Obj.HALT_CAUSE])⟩
  | .admitCommand => ⟨[.ev, .qps, .sluice, .host, .pools, .ilog, .drv, .key, .pair, .out], some (evObjs ++ cmdObjs ++ linkObjs ++ [Obj.FUNC_THROTTLE_WAITS, Obj.VOL_THROTTLE_WAITS, Obj.POOL_SB_GENERATION, Obj.ILOG_RECORDS_WRITTEN, Obj.KEY_USAGE_CURRENT, Obj.FN_SLUICE_WAIT_TIME, Obj.FN_ADMITTED])⟩
  | .completionWrite _ => ⟨[.ev, .qps, .sluice, .host, .prot, .lines, .out], some cplObjs⟩
  | .msixCoalesceTimeout _ => ⟨[.qps, .host, .out], some []⟩
  | .adminCtrlEnable _ _ => ⟨[.sess, .ev, .qps], some [Obj.SESSION_OPEN, Obj.SESSION_PRIVILEGE, Obj.NEXT_REQ_SEQ, Obj.LAST_RSP_SEQ, Obj.QP_STATE, Obj.QP_MODE, Obj.NEXT_SR_SEQ, Obj.LAST_CR_SEQ, Obj.CR_RELEASED_SEQ, Obj.HALT_CAUSE, Obj.QP_CREATE_RESULT, Obj.LOST_COMPLETIONS, Obj.CR_RELEASE_IGNORED, Obj.QP_READ_CMDS, Obj.QP_WRITE_CMDS, Obj.QP_OTHER_CMDS, Obj.QP_READ_BYTES, Obj.QP_WRITE_BYTES, Obj.QP_ERRORS, Obj.QP_DEGRADED, Obj.QP_SERVICE_TIME_SUM, Obj.QP_READ_HISTOGRAM, Obj.QP_WRITE_HISTOGRAM]⟩
  | .adminCtrlReset _ => ⟨[.ev, .qps, .sluice, .vols, .prot, .pools, .ilog, .drv, .lines, .pair, .out], some (slotObjs ++ stripeObjs ++ [Obj.QP_STATE, Obj.LOST_COMPLETIONS])⟩
  | .adminCtrlMode _ _ => ⟨[.qps], some [Obj.QP_STATE, Obj.QP_MODE]⟩
  | .qpModeWrite _ _ => ⟨[.qps], some [Obj.QP_STATE, Obj.QP_MODE]⟩
  | .qpHalt _ => ⟨[.ev, .qps, .host, .out], some (evObjs ++ [Obj.QP_STATE, Obj.HALT_CAUSE])⟩
  | .queueResetTimeout _ => ⟨[.ev, .qps, .sluice, .host, .vols, .prot, .pools, .ilog, .drv, .lines, .pair, .out], some (cplObjs ++ slotObjs)⟩
  | .read _ _ _ => ⟨[.ev, .qps, .sluice, .host, .map, .prot, .pools, .ilog, .drv, .key, .cache, .lines, .pair, .out], some readObjs⟩
  | .write _ _ => ⟨[.ev, .qps, .sluice, .host, .map, .prot, .pools, .ilog, .drv, .key, .cache, .lines, .pair, .out], some (segObjs ++ slotObjs ++ mapObjs ++ [Obj.PIPE_BYTES, Obj.KEY_USAGE_CURRENT, Obj.ZERO_ALLOC_WAITS, Obj.ZERO_RESERVE_PCT])⟩
  | .flush _ _ => ⟨[.ev, .qps, .prot, .pools, .drv, .pair, .out], some (stripeObjs ++ cmdObjs ++ linkObjs)⟩
  | .flushCompletion _ _ => ⟨[.qps, .sluice], some []⟩
  | .deallocate _ _ => ⟨[.ev, .qps, .ilog], some [Obj.ILOG_RECORDS_WRITTEN]⟩
  | .deallocateCompletion _ _ => ⟨[.ev, .qps, .sluice, .host, .map, .pools, .ilog, .cache, .lines, .out], some (evObjs ++ [Obj.LOST_SECTORS, Obj.MAP_REPLAY_BYTES, Obj.MAP_DIRTY_LEAVES, Obj.MAP_WRITE_HOLDS, Obj.MAP_LEAVES_RESIDENT, Obj.MAP_LEAVES_DIRTY_PCT, Obj.CACHE_FRAMES_LOCKED, Obj.FLUME_ENTRIES, Obj.ILOG_RING_FREE, Obj.ILOG_RECORDS_WRITTEN, Obj.ILOG_PRESSURE_HOLDS])⟩
  | .verify _ _ => ⟨[.ev, .qps, .sluice, .host, .map, .prot, .pools, .ilog, .drv, .key, .cache, .lines, .pair, .out], some readObjs⟩
  | .dictRead _ _ _ => ⟨[.bootAt, .sess, .ep, .ev, .qps, .sluice, .host, .vols, .map, .prot, .pools, .ilog, .drv, .key, .cache, .lines, .pair, .pack, .power, .mgmt, .pins, .out, .freeCtr], none⟩
  | .dictWrite _ _ _ => ⟨[.bootAt, .sess, .ep, .ev, .qps, .sluice, .host, .vols, .map, .prot, .pools, .ilog, .drv, .key, .cache, .lines, .pair, .pack, .power, .mgmt, .pins, .out, .freeCtr], none⟩
  | .queueCreate _ _ => ⟨[.sess, .ev, .qps, .sluice], some [Obj.SESSION_OPEN, Obj.SESSION_PRIVILEGE, Obj.NEXT_REQ_SEQ, Obj.LAST_RSP_SEQ, Obj.QP_STATE, Obj.NEXT_SR_SEQ, Obj.LAST_CR_SEQ, Obj.CR_RELEASED_SEQ, Obj.HALT_CAUSE, Obj.QP_CREATE_RESULT, Obj.LOST_COMPLETIONS, Obj.CR_RELEASE_IGNORED, Obj.QP_READ_CMDS, Obj.QP_WRITE_CMDS, Obj.QP_OTHER_CMDS, Obj.QP_READ_BYTES, Obj.QP_WRITE_BYTES, Obj.QP_ERRORS, Obj.QP_DEGRADED, Obj.QP_SERVICE_TIME_SUM, Obj.QP_READ_HISTOGRAM, Obj.QP_WRITE_HISTOGRAM]⟩
  | .queueReset _ _ => ⟨[.ev, .qps, .sluice, .vols, .prot, .pools, .ilog, .drv, .lines, .pair, .out], some (slotObjs ++ stripeObjs ++ [Obj.QP_STATE, Obj.LOST_COMPLETIONS])⟩
  | .sanitize _ _ => ⟨[.qps, .sluice, .vols], some []⟩
  | .format _ _ => ⟨[.qps, .sluice, .vols], some []⟩
  | .formatPhase1Drained _ => ⟨[.ev, .sluice, .vols, .ilog], some [Obj.ILOG_RECORDS_WRITTEN]⟩
  | .sanitizeCisternWaitEnd _ => ⟨[.ev, .vols, .ilog, .power], some [Obj.ILOG_RECORDS_WRITTEN]⟩
  | .writeDmaLanded _ _ _ _ _ => ⟨[.ev, .qps, .sluice, .host, .map, .prot, .pools, .ilog, .drv, .cache, .lines, .pair, .out], some (slotObjs ++ evObjs ++ mapObjs ++ stripeObjs ++ [Obj.POOL_STATE, Obj.POOL_CONDITIONS, Obj.VOLUME_STATE, Obj.MAP_LEAF_MISSES, Obj.HBM_UE, Obj.HBM_PARTIAL_CORRECTED, Obj.HBM_POISON_WRITES, Obj.SRAM_PARTIAL_CORRECTED, Obj.SRAM_POISON_WRITES, Obj.DIRTY_POISON_BAD_DATA, Obj.PIPE_STATE, Obj.PIPE_FAULTS, Obj.PIPE_SERVED_BY, Obj.PIPE_BYTES, Obj.VOLUME_LOCK_CAUSE])⟩
  | .writeCompletion _ _ => ⟨[.ev, .qps, .sluice, .pair, .out], some linkObjs⟩
  | .readOverlapResolve _ _ => ⟨[.ev, .qps, .sluice, .host, .map, .prot, .pools, .ilog, .drv, .key, .cache, .lines, .pair, .out], some readObjs⟩
  | .writeStep7Release _ _ => ⟨[.ev, .qps, .map, .prot, .pools, .ilog, .cache, .lines], some mapObjs⟩
  | .stripeAgeTimer _ _ => ⟨[.ev, .host, .map, .prot, .pools, .drv, .lines, .pair, .out], some (evObjs ++ stripeObjs ++ cmdObjs ++ linkObjs ++ [Obj.POOL_STATE, Obj.POOL_CONDITIONS, Obj.MAP_DIRTY_LEAVES, Obj.MAP_LEAF_MISSES, Obj.MAP_LEAVES_RESIDENT, Obj.MAP_LEAVES_DIRTY_PCT, Obj.HBM_UE, Obj.DIRTY_POISON_BAD_DATA])⟩
  | .laneWaitEnd _ _ _ => ⟨[.ev, .qps, .sluice, .host, .map, .prot, .pools, .ilog, .drv, .key, .cache, .lines, .pair, .out], some (segObjs ++ slotObjs ++ mapObjs ++ [Obj.PIPE_BYTES, Obj.KEY_USAGE_CURRENT, Obj.ZERO_ALLOC_WAITS, Obj.ZERO_RESERVE_PCT])⟩
  | .columnWriteComplete _ => ⟨[.ev, .host, .prot, .pools, .ilog, .drv, .lines, .pair, .out], some (evObjs ++ stripeObjs ++ cmdObjs ++ linkObjs ++ [Obj.MEMBER_ZONES_FREE, Obj.DREDGE_STATE, Obj.FREE_ZONE_PERCENT, Obj.DREDGE_PACING, Obj.ILOG_RECORDS_WRITTEN])⟩
  | .ilogRecordDurable _ _ => ⟨[.ev, .qps, .sluice, .host, .vols, .map, .prot, .pools, .ilog, .drv, .key, .cache, .lines, .pair, .out], some (segObjs ++ slotObjs ++ mapObjs ++ [Obj.DRIVE_MEMBER_OF, Obj.POOL_STATE, Obj.POOL_CONDITIONS, Obj.POOL_SB_GENERATION, Obj.MEMBER_STATE, Obj.REBUILD_STATE, Obj.REBUILD_DEAD_COPIES, Obj.MAP_REPLAY_BYTES, Obj.MAP_WRITE_HOLDS, Obj.DREDGE_SEGMENTS_FREED, Obj.DREDGE_SECTORS_COPIED, Obj.DREDGE_DEAD_COPIES, Obj.LOCK_STATE, Obj.LOCK_SECTORS_HELD, Obj.ILOG_STATE, Obj.ILOG_RING_FREE, Obj.ILOG_RETIRED_WORDS, Obj.ILOG_PRESSURE_HOLDS, Obj.ILOG_ECC_CORRECTED, Obj.RESTORED_PENDING_BYTES])⟩
  | .slotRelease _ => ⟨[.ev, .prot, .lines, .pair, .out], some (linkObjs ++ [Obj.OWN_DIRTY_BYTES, Obj.OWN_PARITY_BYTES, Obj.MIRROR_HELD_BYTES])⟩
  | .ilogWearRotate => ⟨[.ev, .host, .ilog, .out], some (evObjs ++ [Obj.ILOG_STATE, Obj.ILOG_LIFE_USED])⟩
  | .checkpointStart _ => ⟨[.pools], some []⟩
  | .checkpointStepDone _ => ⟨[.ev, .sluice, .host, .vols, .prot, .pools, .ilog, .drv, .lines, .pair, .out], some (evObjs ++ stripeObjs ++ cmdObjs ++ linkObjs ++ [Obj.POOL_SB_GENERATION, Obj.MEMBER_ZONES_FREE, Obj.VOLUME_STATE, Obj.VOLUME_POOL, Obj.VOLUME_CAPACITY, Obj.VOLUME_GRAIN, Obj.VOLUME_KEY_SLOT, Obj.VOLUME_TAGGED, Obj.MAP_CHECKPOINT_NUMBER, Obj.MAP_CUT_STRIPE_ID, Obj.MAP_REPLAY_BYTES, Obj.MAP_WRITE_HOLDS, Obj.DREDGE_STATE, Obj.FREE_ZONE_PERCENT, Obj.DREDGE_PACING, Obj.ILOG_STATE, Obj.ILOG_RING_FREE, Obj.ILOG_RECORDS_WRITTEN, Obj.ILOG_PRESSURE_HOLDS])⟩
  | .mapCheckpointNow _ => ⟨[.pools], some []⟩
  | .mapLeafReadComplete _ _ _ => ⟨[.ev, .qps, .sluice, .host, .map, .prot, .pools, .ilog, .drv, .key, .cache, .lines, .pair, .out], some (srcObjs ++ readObjs)⟩
  | .dredgeSelect _ => ⟨[.ev, .host, .map, .prot, .pools, .ilog, .drv, .key, .cache, .lines, .pair, .out], some dredgeObjs⟩
  | .segmentResetStart _ _ => ⟨[.ev, .pools, .ilog], some [Obj.ILOG_RECORDS_WRITTEN]⟩
  | .zoneResetComplete _ _ => ⟨[.ev, .qps, .sluice, .host, .map, .prot, .pools, .ilog, .drv, .key, .cache, .lines, .pair, .out], some (failObjs ++ [Obj.DPORT_STATE, Obj.DPORT_CONTAIN_CAUSE])⟩
  | .poolActionCreate _ => ⟨[.ev, .pools, .drv, .out], some (cmdObjs ++ [Obj.POOL_ACTION_RESULT])⟩
  | .poolActionOnline _ => ⟨[.ev, .pools, .drv, .power, .out], some (cmdObjs ++ [Obj.POOL_ACTION_RESULT])⟩
  | .poolActionOffline _ => ⟨[.pools], some [Obj.POOL_ACTION_RESULT]⟩
  | .poolActionDestroy _ => ⟨[.ev, .pools, .drv, .out], some (cmdObjs ++ [Obj.POOL_ACTION_RESULT])⟩
  | .poolActionStepDone _ _ _ _ _ _ => ⟨[.ev, .sluice, .host, .vols, .map, .prot, .pools, .ilog, .drv, .cache, .lines, .pair, .out, .freeCtr], some (asmObjs ++ cfgObjs ++ [Obj.POOL_ACTION_RESULT, Obj.RESHAPE_RESULT, Obj.MAP_CHECKPOINT_NUMBER, Obj.MAP_CUT_STRIPE_ID, Obj.ATOMIC_UNRECORDED, Obj.MAP_LAST_RECOVERY, Obj.PATROL_STATE, Obj.PAIR_POOL_UNMIRRORED])⟩
  | .codeTableDataWrite _ _ => ⟨[], some [Obj.CODE_TABLE_DATA, Obj.CODE_CHECK_STATE, Obj.CODE_CHECK_REASON, Obj.CODE_CHECK_PATTERN, Obj.CODE_CHECK_DONE, Obj.CODE_CHECK_TOTAL]⟩
  | .codeCheckStart _ => ⟨[], some [Obj.CODE_CHECK_STATE, Obj.CODE_CHECK_REASON, Obj.CODE_CHECK_PATTERN, Obj.CODE_CHECK_DONE, Obj.CODE_CHECK_TOTAL]⟩
  | .codeCheckDone _ => ⟨[], some [Obj.CODE_CHECK_STATE, Obj.CODE_CHECK_REASON, Obj.CODE_CHECK_PATTERN, Obj.CODE_CHECK_DONE]⟩
  | .volumeCreate _ => ⟨[.ev, .vols, .pools, .ilog, .drv, .pair, .out], some (cmdObjs ++ linkObjs ++ [Obj.POOL_SB_GENERATION, Obj.VOLUME_STATE, Obj.VOLUME_ACTION_RESULT, Obj.MAP_DIRTY_LEAVES, Obj.MAP_DIR_BYTES, Obj.MAP_LEAVES_RESIDENT, Obj.MAP_LEAVES_DIRTY_PCT, Obj.ILOG_RECORDS_WRITTEN, Obj.VOLUME_LOCK_CAUSE])⟩
  | .volumeDelete _ => ⟨[.vols], some [Obj.VOLUME_ACTION_RESULT]⟩
  | .volumeDeleteDrained _ => ⟨[.ev, .vols, .map, .pools, .ilog, .drv, .key, .cache, .pair, .out], some (cmdObjs ++ linkObjs ++ [Obj.POOL_SB_GENERATION, Obj.LOST_SECTORS, Obj.VOLUME_STATE, Obj.VOLUME_ACTION_RESULT, Obj.MAP_DIRTY_LEAVES, Obj.MAP_DIR_BYTES, Obj.MAP_LEAVES_RESIDENT, Obj.MAP_LEAVES_DIRTY_PCT, Obj.CACHE_FRAMES_LOCKED, Obj.LOCK_STATE, Obj.LOCK_SECTORS_HELD, Obj.FLUME_ENTRIES, Obj.ILOG_RECORDS_WRITTEN])⟩
  | .volumeCapacityWrite _ _ => ⟨[.ev, .pools, .ilog, .drv, .pair, .out], some (cmdObjs ++ linkObjs ++ [Obj.POOL_SB_GENERATION, Obj.VOLUME_CAPACITY, Obj.MAP_DIRTY_LEAVES, Obj.MAP_DIR_BYTES, Obj.MAP_LEAVES_RESIDENT, Obj.MAP_LEAVES_DIRTY_PCT, Obj.ILOG_RECORDS_WRITTEN])⟩
  | .memberAdd _ _ => ⟨[.ev, .drv, .out], some (cmdObjs ++ [Obj.DRIVE_MEMBER_OF, Obj.MEMBER_ACTION_RESULT])⟩
  | .memberRemove _ _ => ⟨[.ev, .host, .prot, .pools, .ilog, .drv, .pair, .out], some (reshapeObjs ++ [Obj.MEMBER_ACTION_RESULT])⟩
  | .memberActionFail _ _ => ⟨[.ev, .qps, .sluice, .host, .map, .prot, .pools, .ilog, .drv, .key, .cache, .lines, .pair, .out], some (failObjs ++ admObjs ++ [Obj.DRIVE_CRITICAL_WARNING, Obj.DRIVE_PERCENT_USED])⟩
  | .rebuildStart _ => ⟨[.host, .out], some [Obj.POOL_STATE, Obj.POOL_CONDITIONS, Obj.REBUILD_STATE, Obj.REBUILD_SECTORS_TOTAL, Obj.REBUILD_SECTORS_DONE]⟩
  | .rebuildAutoStart _ => ⟨[.host, .out], some [Obj.POOL_STATE, Obj.POOL_CONDITIONS, Obj.REBUILD_STATE, Obj.REBUILD_SECTORS_TOTAL, Obj.REBUILD_SECTORS_DONE]⟩
  | .rebuildNextSegment _ => ⟨[.ev, .host, .map, .prot, .pools, .ilog, .drv, .key, .cache, .lines, .pair, .out], some (dredgeObjs ++ [Obj.DRIVE_MEMBER_OF, Obj.POOL_SB_GENERATION, Obj.MEMBER_STATE, Obj.REBUILD_STATE])⟩
  | .memberReadComplete _ _ _ => ⟨[.ev, .qps, .sluice, .host, .map, .prot, .pools, .ilog, .drv, .key, .cache, .lines, .pair, .out], some (srcObjs ++ sectorObjs)⟩
  | .degradedDecodeDone _ => ⟨[.ev, .qps, .sluice, .host, .map, .prot, .pools, .ilog, .drv, .key, .cache, .lines, .pair, .out], some (sectorObjs ++ dredgeObjs ++ [Obj.INTEGRITY_REPAIRED, Obj.INTEGRITY_UNRECOVERED])⟩
  | .patrolStripe _ _ => ⟨[.ev, .qps, .sluice, .host, .map, .prot, .pools, .ilog, .drv, .key, .cache, .lines, .pair, .out], some (srcObjs ++ sectorObjs ++ [Obj.INTEGRITY_REPAIRED, Obj.PATROL_STATE, Obj.PATROL_PROGRESS, Obj.PATROL_PASSES, Obj.PATROL_LAST_PASS_SECONDS, Obj.PATROL_STRIPES_CHECKED, Obj.PATROL_PARITY_MISMATCH, Obj.PATROL_REPAIRED])⟩
  | .patrolRestart _ => ⟨[.pools], some [Obj.PATROL_PROGRESS]⟩
  | .resyncStripeCheck _ _ => ⟨[.ev, .qps, .sluice, .host, .map, .prot, .pools, .ilog, .drv, .key, .cache, .lines, .pair, .out], some (srcObjs ++ sectorObjs ++ [Obj.INTEGRITY_REPAIRED, Obj.RESYNC_STRIPES_DONE, Obj.RESYNC_REPAIRED])⟩
  | .reshapeCursorAdvance _ => ⟨[.ev, .host, .pools, .ilog, .drv, .pair, .out], some (cmdObjs ++ linkObjs ++ [Obj.DRIVE_MEMBER_OF, Obj.POOL_STATE, Obj.POOL_CONDITIONS, Obj.POOL_SB_GENERATION, Obj.MEMBER_STATE, Obj.MEMBER_ACTION_RESULT, Obj.RESHAPE_KIND, Obj.RESHAPE_CURSOR, Obj.RESHAPE_RESULT, Obj.ILOG_RECORDS_WRITTEN])⟩
  | .driveGroupEnable _ _ => ⟨[.ev, .qps, .sluice, .host, .map, .prot, .pools, .ilog, .drv, .key, .cache, .lines, .pair, .pins, .out], some (lostObjs ++ [Obj.DRIVE_GROUP_ENABLE, Obj.DRIVE_GROUP_STATE])⟩
  | .driveLinkUp _ _ _ => ⟨[.drv], some [Obj.DPORT_STATE, Obj.DPORT_LINK_SPEED, Obj.DPORT_LINK_WIDTH, Obj.DRIVE_ADMISSION]⟩
  | .admissionCommandComplete _ _ => ⟨[.ev, .host, .drv, .out], some admObjs⟩
  | .driveCommandComplete _ _ _ => ⟨[.ev, .qps, .sluice, .host, .vols, .map, .prot, .pools, .ilog, .drv, .key, .cache, .lines, .pair, .out, .freeCtr], some (srcObjs ++ asmObjs ++ cfgObjs ++ [Obj.DRIVE_ADMISSION, Obj.DRIVE_MODEL, Obj.DRIVE_SERIAL, Obj.DRIVE_CRITICAL_WARNING, Obj.DRIVE_PERCENT_USED, Obj.DPORT_RETRIES, Obj.POOL_ACTION_RESULT, Obj.RESHAPE_RESULT, Obj.MAP_CHECKPOINT_NUMBER, Obj.MAP_CUT_STRIPE_ID, Obj.ATOMIC_UNRECORDED, Obj.MAP_LAST_RECOVERY, Obj.PATROL_STATE, Obj.PAIR_STATE, Obj.PAIR_TAKEOVER_STEP, Obj.PAIR_CONTESTED, Obj.PAIR_POOL_UNMIRRORED])⟩
  | .commandRetryDelay _ => ⟨[.ev, .drv, .out], some cmdObjs⟩
  | .driveCommandTimeout _ _ => ⟨[.ev, .qps, .sluice, .host, .vols, .map, .prot, .pools, .ilog, .drv, .key, .cache, .lines, .pair, .out, .freeCtr], some (asmObjs ++ failObjs ++ cfgObjs ++ [Obj.DPORT_STATE, Obj.DPORT_CONTAIN_CAUSE, Obj.DRIVE_ADMISSION, Obj.DPORT_TIMEOUTS, Obj.POOL_ACTION_RESULT, Obj.RESHAPE_RESULT, Obj.MAP_CHECKPOINT_NUMBER, Obj.MAP_CUT_STRIPE_ID, Obj.ATOMIC_UNRECORDED, Obj.MAP_LAST_RECOVERY, Obj.PATROL_STATE, Obj.PAIR_POOL_UNMIRRORED])⟩
  | .abortTimeLimit _ => ⟨[.drv], some []⟩
  | .controllerResetDone _ _ _ _ => ⟨[.ev, .qps, .sluice, .host, .vols, .map, .prot, .pools, .ilog, .drv, .key, .cache, .lines, .pair, .out, .freeCtr], some (asmObjs ++ failObjs ++ cfgObjs ++ [Obj.DPORT_STATE, Obj.PORT_RELEASE_RESULT, Obj.DPORT_CONTAIN_CAUSE, Obj.DRIVE_ADMISSION, Obj.POOL_ACTION_RESULT, Obj.RESHAPE_RESULT, Obj.MAP_CHECKPOINT_NUMBER, Obj.MAP_CUT_STRIPE_ID, Obj.ATOMIC_UNRECORDED, Obj.MAP_LAST_RECOVERY, Obj.PATROL_STATE, Obj.PAIR_POOL_UNMIRRORED])⟩
  | .recoveryTimeLimit _ => ⟨[.ev, .qps, .sluice, .host, .vols, .map, .prot, .pools, .ilog, .drv, .key, .cache, .lines, .pair, .out, .freeCtr], some (asmObjs ++ failObjs ++ cfgObjs ++ [Obj.DPORT_STATE, Obj.DPORT_CONTAIN_CAUSE, Obj.POOL_ACTION_RESULT, Obj.RESHAPE_RESULT, Obj.MAP_CHECKPOINT_NUMBER, Obj.MAP_CUT_STRIPE_ID, Obj.ATOMIC_UNRECORDED, Obj.MAP_LAST_RECOVERY, Obj.PATROL_STATE, Obj.PAIR_POOL_UNMIRRORED])⟩
  | .presenceDebounced _ => ⟨[.drv], some [Obj.DPORT_STATE]⟩
  | .presenceLost _ => ⟨[.ev, .qps, .sluice, .host, .map, .prot, .pools, .ilog, .drv, .key, .cache, .lines, .pair, .out], some lostObjs⟩
  | .dataLinkDown _ => ⟨[.ev, .qps, .sluice, .host, .map, .prot, .pools, .ilog, .drv, .key, .cache, .lines, .pair, .out], some lostObjs⟩
  | .portReleaseRetry _ => ⟨[.drv], some [Obj.PORT_RELEASE_RESULT]⟩
  | .portReleaseFail _ => ⟨[.ev, .qps, .sluice, .host, .map, .prot, .pools, .ilog, .drv, .key, .cache, .lines, .pair, .out], some (failObjs ++ admObjs ++ [Obj.PORT_RELEASE_RESULT, Obj.DRIVE_CRITICAL_WARNING, Obj.DRIVE_PERCENT_USED])⟩
  | .portReleaseLinkTimeout _ => ⟨[.drv], some [Obj.PORT_RELEASE_RESULT]⟩
  | .sidebandFrame _ => ⟨[.ev, .qps, .sluice, .host, .map, .prot, .pools, .ilog, .drv, .key, .cache, .lines, .pair, .pins, .out], some lostObjs⟩
  | .driveHealthPoll => ⟨[.ev, .drv, .out], some cmdObjs⟩
  | .driveGateClose => ⟨[.ev, .qps, .sluice, .vols, .prot, .pools, .ilog, .drv, .lines, .pair, .pins, .out], some (slotObjs ++ [Obj.DRIVE_GATE_STATE, Obj.DRIVE_GATE_INFLIGHT_AT_CLOSE, Obj.DRIVE_GATE_CLOSES, Obj.PAIR_STATE, Obj.PAIR_FENCE_STATE, Obj.PAIR_TAKEOVER_STEP, Obj.PAIR_POOL_ROLE, Obj.PAIR_POOL_UNMIRRORED])⟩
  | .driveGateOpen => ⟨[.ev, .host, .prot, .pools, .ilog, .drv, .lines, .pair, .pins, .out], some (evObjs ++ stripeObjs ++ cmdObjs ++ linkObjs ++ [Obj.DRIVE_GATE_STATE, Obj.MEMBER_ZONES_FREE, Obj.DREDGE_STATE, Obj.FREE_ZONE_PERCENT, Obj.DREDGE_PACING, Obj.OWN_PARITY_BYTES, Obj.ILOG_RECORDS_WRITTEN, Obj.PAIR_STATE, Obj.PAIR_FENCE_STATE, Obj.PAIR_POOL_ROLE])⟩
  | .culvertFlitReceived _ => ⟨[.ep, .ev, .host, .prot, .pools, .ilog, .drv, .cache, .pair, .out], none⟩
  | .culvertReplayTimeout => ⟨[.pair, .out], some [Obj.CULVERT_REPLAYS]⟩
  | .culvertDown => ⟨[.ev, .host, .prot, .pools, .drv, .pair, .pins, .out], some (evObjs ++ fenceObjs ++ linkObjs ++ [Obj.POOL_SB_GENERATION, Obj.PAIR_POOL_ROLE, Obj.PAIR_POOL_UNMIRRORED, Obj.CULVERT_STATE, Obj.CULVERT_BUNDLES_UP, Obj.CULVERT_DOWNS, Obj.BUNDLE_STATE, Obj.BUNDLE_RETRAINS])⟩
  | .bundleTrained _ => ⟨[.pair], some [Obj.PAIR_STATE, Obj.CULVERT_STATE, Obj.CULVERT_BUNDLES_UP, Obj.BUNDLE_STATE]⟩
  | .bundleFailed _ => ⟨[], some [Obj.CULVERT_STATE, Obj.CULVERT_BUNDLES_UP, Obj.BUNDLE_STATE, Obj.BUNDLE_RETRAINS]⟩
  | .mirrorData _ _ _ _ _ _ _ => ⟨[.ev, .host, .map, .prot, .pools, .ilog, .drv, .cache, .lines, .pair, .out], some (segObjs ++ slotObjs ++ [Obj.RESTORED_PENDING_BYTES, Obj.DIRTY_POISON_FROM_MIRROR])⟩
  | .mirrorAck _ _ => ⟨[.ev, .prot, .pools, .pair, .out], some (linkObjs ++ [Obj.OWN_DIRTY_BYTES, Obj.OWN_PARITY_BYTES, Obj.MIRROR_HELD_BYTES, Obj.PAIR_POOL_ROLE, Obj.PAIR_POOL_UNMIRRORED, Obj.MIRROR_RESENDS])⟩
  | .mirrorRelease _ => ⟨[.prot], some [Obj.OWN_DIRTY_BYTES, Obj.OWN_PARITY_BYTES, Obj.MIRROR_HELD_BYTES]⟩
  | .atomicMark _ _ _ _ => ⟨[.ev, .host, .map, .prot, .pools, .ilog, .drv, .cache, .lines, .pair, .out], some (segObjs ++ slotObjs ++ [Obj.RESTORED_PENDING_BYTES])⟩
  | .record _ _ _ => ⟨[.ev, .pair, .out], some linkObjs⟩
  | .recordAck _ => ⟨[.prot, .pools, .pair], some [Obj.PAIR_POOL_ROLE, Obj.PAIR_POOL_UNMIRRORED]⟩
  | .heartbeat _ _ _ _ _ _ _ _ => ⟨[.ep, .ev, .host, .prot, .pools, .drv, .pair, .pins, .out], some (evObjs ++ fenceObjs ++ stripeObjs ++ linkObjs ++ [Obj.UNIT_APPLIED_EPOCH, Obj.PARTNER_RESERVE_IN_EFFECT, Obj.PAIR_PEER_SERIAL, Obj.PAIR_PEER_COMPAT_LEVEL, Obj.PAIR_FAULTS_A, Obj.PAIR_FAULTS_B])⟩
  | .epochPrepare _ _ => ⟨[.ep, .ev, .prot, .pools, .drv, .cache, .pair, .out], some (epochRunObjs ++ [Obj.EPOCH_RESULT, Obj.UNIT_APPLIED_EPOCH, Obj.MODULE_IDLE])⟩
  | .epochPrepared _ => ⟨[.ep, .ev, .pair, .out], some (linkObjs ++ [Obj.EPOCH_STATE, Obj.UNIT_ACK])⟩
  | .epochCommitMessage _ => ⟨[.ep, .ev, .pair, .out], some (linkObjs ++ [Obj.EPOCH_STATE])⟩
  | .epochAbort _ => ⟨[.ep], some [Obj.EPOCH_STATE]⟩
  | .digest _ _ _ _ _ _ => ⟨[.ev, .pair, .out], some linkObjs⟩
  | .digestReply _ _ _ => ⟨[.pair], some [Obj.PAIR_DIGESTS_COMPARED, Obj.PAIR_DIGEST_MISMATCHES]⟩
  | .sync _ _ => ⟨[.prot, .pair], some [Obj.OWN_DIRTY_BYTES, Obj.OWN_PARITY_BYTES, Obj.MIRROR_HELD_BYTES]⟩
  | .dumping => ⟨[.ev, .prot, .pools, .drv, .pair, .pins, .out], some (fenceObjs ++ [Obj.PAIR_POOL_ROLE])⟩
  | .handoverRequest _ _ => ⟨[.ev, .drv, .pair, .out], some (cmdObjs ++ [Obj.MAP_CHECKPOINT_NUMBER])⟩
  | .handoverDone _ _ => ⟨[.ev, .prot, .pools, .drv, .pair, .out], some (cmdObjs ++ [Obj.OPEN_STRIPES, Obj.OWN_PARITY_BYTES, Obj.PAIR_STATE, Obj.PAIR_POOL_ROLE, Obj.PAIR_HANDOVER_RESULT])⟩
  | .config _ _ _ _ _ => ⟨[.ev, .sluice, .host, .vols, .pools, .pair, .out], some cfgObjs⟩
  | .settled _ => ⟨[.ev, .prot, .pair, .out], some (linkObjs ++ [Obj.OWN_DIRTY_BYTES, Obj.OWN_PARITY_BYTES, Obj.MIRROR_HELD_BYTES])⟩
  | .pairJoin => ⟨[.ev, .pools, .drv, .pair, .pins, .out], some (cmdObjs ++ linkObjs ++ [Obj.PAIR_STATE, Obj.PAIR_FENCE_STATE, Obj.PAIR_POOL_ROLE, Obj.PAIR_POOL_UNMIRRORED])⟩
  | .pairAliveTimeout => ⟨[.ev, .host, .prot, .pools, .drv, .pair, .pins, .out], some (evObjs ++ fenceObjs ++ linkObjs ++ [Obj.POOL_SB_GENERATION, Obj.PAIR_ALIVE_PRESENT, Obj.PAIR_POOL_ROLE, Obj.PAIR_POOL_UNMIRRORED])⟩
  | .pairHeartbeatTimeout => ⟨[.ev, .host, .prot, .pools, .drv, .pair, .pins, .out], some (evObjs ++ fenceObjs ++ linkObjs ++ [Obj.POOL_SB_GENERATION, Obj.PAIR_POOL_ROLE, Obj.PAIR_POOL_UNMIRRORED])⟩
  | .pairTakeover => ⟨[.ev, .prot, .pools, .drv, .pair, .pins, .out], some fenceObjs⟩
  | .fenceAckReceived => ⟨[.ev, .drv, .pair, .out], some (cmdObjs ++ [Obj.PAIR_FENCE_STATE, Obj.PAIR_TAKEOVER_STEP])⟩
  | .fenceWaitTimeout => ⟨[.ev, .host, .drv, .pair, .out], some (evObjs ++ cmdObjs ++ [Obj.PAIR_TAKEOVER_STEP])⟩
  | .reservationRetry => ⟨[.ev, .host, .drv, .pair, .out], some (evObjs ++ cmdObjs ++ [Obj.PAIR_STATE, Obj.PAIR_TAKEOVER_STEP, Obj.PAIR_CONTESTED])⟩
  | .takeoverStepDone _ _ _ _ _ => ⟨[.ep, .ev, .qps, .sluice, .host, .vols, .map, .prot, .pools, .ilog, .drv, .cache, .lines, .pair, .out], some (asmObjs ++ cfgObjs ++ [Obj.EPOCH_STATE, Obj.MAP_CHECKPOINT_NUMBER, Obj.MAP_CUT_STRIPE_ID, Obj.ATOMIC_UNRECORDED, Obj.MAP_LAST_RECOVERY, Obj.PAIR_STATE, Obj.PAIR_TAKEOVER_STEP, Obj.PAIR_LAST_TAKEOVER_MS, Obj.PAIR_CONTESTED, Obj.PAIR_POOL_UNMIRRORED])⟩
  | .pairPoolHandover _ => ⟨[.pair], some [Obj.PAIR_HANDOVER_RESULT]⟩
  | .pairFaultClear => ⟨[.pair], some [Obj.PAIR_STATE, Obj.PAIR_FAULTS_A, Obj.PAIR_FAULTS_B]⟩
  | .epochCommit _ => ⟨[.ep, .ev, .prot, .pools, .drv, .cache, .pair, .out], some epochRunObjs⟩
  | .epochCommitPair _ => ⟨[.ep, .ev, .prot, .pools, .drv, .cache, .pair, .out], some epochRunObjs⟩
  | .epochDiscard => ⟨[.ep], some []⟩
  | .unitAcknowledge _ => ⟨[.ep, .ev, .prot, .pools, .drv, .pair, .out], some (stripeObjs ++ cmdObjs ++ linkObjs ++ [Obj.EPOCH_STATE, Obj.UNIT_APPLIED_EPOCH, Obj.UNIT_ACK])⟩
  | .epochTimeout => ⟨[.ep, .ev, .pair, .out], some (linkObjs ++ [Obj.EPOCH_STATE, Obj.EPOCH_LAGGARDS])⟩
  | .epochRecordWritten => ⟨[.ep, .ev, .host, .prot, .pools, .ilog, .drv, .cache, .pair, .out], none⟩
  | .epochRevertDone => ⟨[.ep, .cache, .power], some [Obj.QUADRANT_GATED, Obj.EPOCH_STATE, Obj.EPOCH_RESULT, Obj.EPOCH_LAST_DURATION, Obj.UNIT_APPLIED_EPOCH, Obj.UNIT_ACK]⟩
  | .epochCommitAckTimeout => ⟨[.ep], some [Obj.EPOCH_STATE]⟩
  | .mctpMessage _ _ => ⟨[.bootAt, .sess, .ep, .ev, .qps, .sluice, .host, .vols, .map, .prot, .pools, .ilog, .drv, .key, .cache, .lines, .pair, .pack, .power, .mgmt, .pins, .out, .freeCtr], none⟩
  | .setEndpointId _ _ _ _ => ⟨[.mgmt, .out], some []⟩
  | .getEndpointId _ _ => ⟨[.out], some []⟩
  | .getMctpVersionSupport _ _ _ => ⟨[.out], some []⟩
  | .getMessageTypeSupport _ _ => ⟨[.out], some []⟩
  | .getVendorDefinedMessageSupport _ _ _ => ⟨[.out], some []⟩
  | .udpDatagram _ _ _ _ => ⟨[.bootAt, .sess, .ep, .ev, .qps, .sluice, .host, .vols, .map, .prot, .pools, .ilog, .drv, .key, .cache, .lines, .pair, .pack, .power, .mgmt, .pins, .out, .freeCtr], none⟩
  | .keyExchange _ _ _ => ⟨[.mgmt, .out, .freeCtr], some []⟩
  | .finish _ _ => ⟨[.sess, .mgmt, .out, .freeCtr], some [Obj.SESSION_OPEN, Obj.SESSION_PRIVILEGE, Obj.NEXT_REQ_SEQ, Obj.LAST_RSP_SEQ]⟩
  | .endSession _ => ⟨[.sess, .ev, .mgmt, .out], some sessObjs⟩
  | .getMeasurements _ _ _ => ⟨[.out, .freeCtr], some []⟩
  | .spdmMessage _ _ _ _ => ⟨[.sess, .out, .freeCtr], some []⟩
  | .sessionHeartbeatTimeout _ => ⟨[.sess, .ev, .mgmt], some sessObjs⟩
  | .dictionaryRead _ _ => ⟨[.bootAt, .sess, .ep, .ev, .qps, .sluice, .host, .vols, .map, .prot, .pools, .ilog, .drv, .key, .cache, .lines, .pair, .pack, .power, .mgmt, .pins, .out, .freeCtr], none⟩
  | .dictionaryWrite _ _ => ⟨[.bootAt, .sess, .ep, .ev, .qps, .sluice, .host, .vols, .map, .prot, .pools, .ilog, .drv, .key, .cache, .lines, .pair, .pack, .power, .mgmt, .pins, .out, .freeCtr], none⟩
  | .dictionaryNop _ _ => ⟨[.bootAt, .sess, .ep, .ev, .qps, .sluice, .host, .vols, .map, .prot, .pools, .ilog, .drv, .key, .cache, .lines, .pair, .pack, .power, .mgmt, .pins, .out, .freeCtr], none⟩
  | .registerWrite _ => ⟨[.bootAt, .sess, .ep, .ev, .qps, .sluice, .host, .vols, .map, .prot, .pools, .ilog, .drv, .key, .cache, .lines, .pair, .pack, .power, .mgmt, .pins, .out, .freeCtr], none⟩
  | .persistentWritePaced => ⟨[.bootAt, .sess, .ep, .ev, .qps, .sluice, .host, .vols, .map, .prot, .pools, .ilog, .drv, .key, .cache, .lines, .pair, .pack, .power, .mgmt, .pins, .out, .freeCtr], none⟩
  | .multipartTimeout _ _ => ⟨[.sess], some []⟩
  | .mgmtOobEnChange _ => ⟨[], some [Obj.OOB_WRITE_ENABLED]⟩
  | .factoryDefaults _ => ⟨[.bootAt, .sess, .ep, .ev, .qps, .sluice, .host, .vols, .map, .prot, .pools, .ilog, .drv, .key, .cache, .lines, .pair, .pack, .power, .mgmt, .pins, .out, .freeCtr], none⟩
  | .weirRecompute => ⟨[.ev, .host, .prot, .pools, .drv, .pair, .out], some (weirObjs ++ [Obj.CISTERN_STATE])⟩
  | .weirWaitWarn _ _ => ⟨[.ev, .qps, .host, .out], some (evObjs ++ [Obj.WEIR_WAITS])⟩
  | .dumpEnd => ⟨[.bootAt, .sess, .ep, .ev, .qps, .sluice, .host, .vols, .map, .prot, .pools, .ilog, .drv, .key, .cache, .lines, .pair, .pack, .power, .mgmt, .pins, .out], none⟩
  | .cisternSelftestTimer _ => ⟨[.ev, .host, .prot, .pools, .drv, .pair, .out], some (weirObjs ++ [Obj.CISTERN_STATE, Obj.CISTERN_DIES_USABLE, Obj.CISTERN_DUMP_RATE])⟩
  | .cisternEraseDone _ => ⟨[.ev, .host, .prot, .pools, .drv, .pair, .power, .out], some (weirObjs ++ [Obj.CISTERN_STATE, Obj.CISTERN_ERASED_BYTES])⟩
  | .cisternImageRelease => ⟨[.power], some [Obj.CISTERN_IMAGE_HELD]⟩
  | .cisternRestoreLossAck => ⟨[.ev, .pools, .drv, .power, .out], some (cmdObjs ++ [Obj.POOL_ACTION_RESULT])⟩
  | .load _ _ _ _ => ⟨[.host, .key, .out], some (keyObjs ++ [Obj.KEY_GEN_CURRENT, Obj.KEY_KCV_XTS_CURRENT, Obj.KEY_KCV_GMAC_CURRENT, Obj.KEY_USAGE_CURRENT])⟩
  | .installCurrent _ _ _ _ => ⟨[.host, .key, .out], some (keyObjs ++ [Obj.KEY_GEN_CURRENT, Obj.KEY_KCV_XTS_CURRENT, Obj.KEY_KCV_GMAC_CURRENT, Obj.KEY_USAGE_CURRENT])⟩
  | .installPrevious _ _ _ _ => ⟨[.host, .key, .out], some (keyObjs ++ [Obj.KEY_GEN_CURRENT, Obj.KEY_KCV_XTS_CURRENT, Obj.KEY_KCV_GMAC_CURRENT])⟩
  | .retire _ _ _ _ => ⟨[.host, .key, .out], some keyObjs⟩
  | .destroy _ _ _ _ => ⟨[.host, .key, .cache, .out], some (keyObjs ++ [Obj.CACHE_FRAMES_LOCKED, Obj.LOCK_STATE, Obj.LOCK_SECTORS_HELD, Obj.FLUME_ENTRIES, Obj.KEY_GEN_CURRENT, Obj.KEY_KCV_XTS_CURRENT, Obj.KEY_KCV_GMAC_CURRENT, Obj.KEY_USAGE_CURRENT])⟩
  | .clearStaging _ _ => ⟨[.key], some [Obj.KEY_LOAD_RESULT, Obj.KEY_LOAD_COUNT, Obj.KEY_LOAD_SLOT, Obj.KEY_WINDOW_DROPPED]⟩
  | .keyStagingWrite _ _ _ => ⟨[.key], some [Obj.KEY_WINDOW_DROPPED]⟩
  | .keyPersistWrite _ => ⟨[.key], some [Obj.KEY_PERSIST]⟩
  | .tamperEnclosureAssert => ⟨[.ev, .host, .key, .pins, .out], some (evObjs ++ [Obj.DEVICE_LOCKED, Obj.POOL_STATE, Obj.POOL_CONDITIONS, Obj.VOLUME_STATE, Obj.KEY_SLOTS_IN_USE, Obj.KEY_STATE, Obj.KEY_PRESENT, Obj.KEY_LOAD_RESULT, Obj.VOLUME_LOCK_CAUSE, Obj.TAMPER_LATCH, Obj.TAMPER_INPUTS, Obj.TAMPER_EVENTS, Obj.TAMPER_LAST_PHASE, Obj.LOCKED_BOOT])⟩
  | .tamperMeshBreak => ⟨[.ev, .host, .key, .pins, .out], some (evObjs ++ [Obj.DEVICE_LOCKED, Obj.POOL_STATE, Obj.POOL_CONDITIONS, Obj.VOLUME_STATE, Obj.KEY_SLOTS_IN_USE, Obj.KEY_STATE, Obj.KEY_PRESENT, Obj.KEY_LOAD_RESULT, Obj.VOLUME_LOCK_CAUSE, Obj.TAMPER_LATCH, Obj.TAMPER_INPUTS, Obj.TAMPER_EVENTS, Obj.TAMPER_LAST_PHASE, Obj.LOCKED_BOOT])⟩
  | .tamperClear _ _ => ⟨[.key], some [Obj.TAMPER_LATCH, Obj.TAMPER_INPUTS]⟩
  | .pipeClear _ _ => ⟨[], some [Obj.VOLUME_STATE, Obj.PIPE_STATE, Obj.PIPE_FAULTS, Obj.PIPE_SERVED_BY, Obj.VOLUME_LOCK_CAUSE]⟩
  | .invalidateRange => ⟨[.cache], some maintObjs⟩
  | .invalidateVolume => ⟨[.cache], some maintObjs⟩
  | .invalidateAll => ⟨[.cache], some maintObjs⟩
  | .cleanLines => ⟨[.cache], some maintObjs⟩
  | .preload _ => ⟨[.cache], some (maintObjs ++ [Obj.LOCK_STATE, Obj.LOCK_SECTORS_SKIPPED])⟩
  | .unlock _ => ⟨[.cache], some [Obj.CACHE_MAINT_BUSY, Obj.CACHE_MAINT_RUNNING, Obj.CACHE_MAINT_PROGRESS]⟩
  | .cacheMaintStep => ⟨[.ev, .host, .drv, .cache, .lines, .out], some (wayObjs ++ cmdObjs ++ [Obj.SLICE_WAYS_DISABLED, Obj.CACHE_MAINT_RESULT, Obj.LOCK_STATE, Obj.LOCK_SECTORS_HELD, Obj.LOCK_SECTORS_SKIPPED])⟩
  | .cacheWaysEnabled _ => ⟨[.ev, .host, .cache, .lines, .out], some (wayObjs ++ [Obj.CACHE_WAYS_ENABLED])⟩
  | .cacheFrameWays _ => ⟨[.ev, .host, .cache, .lines, .out], some (wayObjs ++ [Obj.CACHE_FRAME_WAYS])⟩
  | .sliceWayReenable _ _ => ⟨[.ev, .host, .cache, .lines, .out], some wayObjs⟩
  | .wayMarchTestDone _ _ _ => ⟨[.ev, .host, .cache, .lines, .out], some (wayObjs ++ [Obj.SLICE_WAYS_DISABLED, Obj.CACHE_MAINT_RESULT, Obj.LOCK_STATE, Obj.LOCK_SECTORS_SKIPPED])⟩
  | .wayDisable _ _ => ⟨[.ev, .host, .cache, .lines, .out], some (wayObjs ++ [Obj.SLICE_WAYS_DISABLED, Obj.LOCK_STATE, Obj.LOCK_SECTORS_SKIPPED])⟩
  | .frameFillComplete _ => ⟨[.cache], some [Obj.CACHE_FRAMES_LOCKED, Obj.FLUME_ENTRIES]⟩
  | .hbmStackFailed _ => ⟨[.ev, .host, .map, .prot, .pools, .drv, .cache, .lines, .power, .out], some (evObjs ++ cmdObjs ++ [Obj.POOL_STATE, Obj.POOL_CONDITIONS, Obj.MAP_DIRTY_LEAVES, Obj.MAP_LEAF_MISSES, Obj.MAP_LEAVES_RESIDENT, Obj.MAP_LEAVES_DIRTY_PCT, Obj.HBM_STACK_STATE, Obj.DIRTY_POISON_BAD_DATA])⟩
  | .packEnable _ => ⟨[.ev, .host, .prot, .pools, .drv, .pair, .pack, .pins, .out], some (weirObjs ++ [Obj.PACK_ENABLE, Obj.PACK_STATE, Obj.PACK_FAULT_CAUSE, Obj.PACK_CHARGING, Obj.PACK_ESR_BASELINE, Obj.PACK_ESR_DEFERRED])⟩
  | .packResetLearning => ⟨[.ev, .host, .prot, .pools, .drv, .pair, .pack, .pins, .out], some (weirObjs ++ [Obj.PACK_STATE, Obj.PACK_FAULT_CAUSE, Obj.PACK_CAPACITANCE_LEARNED, Obj.PACK_CAPACITY_LEARNED, Obj.PACK_CHARGING, Obj.PACK_ESR_BASELINE, Obj.PACK_ESR_DEFERRED])⟩
  | .packEsrMeasureNow => ⟨[.pack, .pins, .out], some [Obj.PACK_CHARGING, Obj.PACK_ESR_DEFERRED]⟩
  | .packEsrInterval => ⟨[.pack, .pins, .out], some [Obj.PACK_CHARGING, Obj.PACK_ESR_DEFERRED]⟩
  | .impedanceDeferredRun => ⟨[.pack, .pins, .out], some [Obj.PACK_CHARGING, Obj.PACK_ESR_DEFERRED]⟩
  | .impedanceSettleDone _ _ => ⟨[.pack, .pins, .out], some []⟩
  | .impedanceLoadOff _ _ => ⟨[.ev, .host, .prot, .pools, .drv, .pair, .pack, .pins, .out], some (weirObjs ++ [Obj.PACK_STATE, Obj.PACK_FAULT_CAUSE, Obj.PACK_CHARGING, Obj.PACK_ESR, Obj.PACK_ESR_BASELINE, Obj.PACK_ESR_RATIO, Obj.PACK_ESR_MEASUREMENTS, Obj.PACK_ESR_LAST_AGE])⟩
  | .estimatorUpdate => ⟨[.ev, .host, .prot, .pools, .drv, .pair, .pack, .out], some (weirObjs ++ [Obj.PACK_SOC, Obj.PACK_CAPACITANCE_LEARNED, Obj.PACK_ENERGY_RAW, Obj.PACK_DERATE_FACTOR, Obj.PACK_RIDE_RESERVE, Obj.PACK_USABLE_ENERGY, Obj.PACK_LEARN_REJECTS, Obj.PACK_ESR_LAST_AGE])⟩
  | .packOvervoltage => ⟨[.ev, .host, .prot, .pools, .drv, .pair, .pack, .pins, .out], some (weirObjs ++ [Obj.PACK_STATE, Obj.PACK_FAULT_CAUSE, Obj.PACK_CHARGING])⟩
  | .packChargerFault => ⟨[.ev, .host, .prot, .pools, .drv, .pair, .pack, .pins, .out], some (weirObjs ++ [Obj.PACK_STATE, Obj.PACK_FAULT_CAUSE, Obj.PACK_CHARGING])⟩
  | .packAbsent => ⟨[.ev, .host, .prot, .pools, .drv, .pair, .pack, .pins, .out], some (weirObjs ++ [Obj.PACK_STATE, Obj.PACK_CHARGING])⟩
  | .packPresent => ⟨[.ev, .host, .prot, .pools, .drv, .pair, .pack, .pins, .out], some (weirObjs ++ [Obj.PACK_STATE, Obj.PACK_FAULT_CAUSE, Obj.PACK_CHARGING, Obj.PACK_ESR_DEFERRED])⟩
  | .packRested => ⟨[.ev, .host, .prot, .pools, .drv, .pair, .pack, .pins, .out], some (weirObjs ++ [Obj.PACK_STATE, Obj.PACK_CAPACITY_LEARNED, Obj.PACK_CHARGING, Obj.PACK_LEARN_REJECTS])⟩
  | .packStale => ⟨[.ev, .host, .prot, .pools, .drv, .pair, .pins, .out], some (weirObjs ++ [Obj.PACK_STATE, Obj.PACK_CHARGING])⟩
  | .p3v3AuxRise _ => ⟨[.bootAt, .pack, .power, .pins], some [Obj.PAIR_SIDE, Obj.STARTUP_STEP, Obj.PS_STATE, Obj.INPUT_LEVELS, Obj.TAMPER_LATCH, Obj.TAMPER_LAST_PHASE]⟩
  | .p3v3AuxLoss => ⟨[.bootAt, .sess, .ep, .ev, .qps, .sluice, .host, .vols, .map, .prot, .pools, .ilog, .drv, .key, .cache, .lines, .pair, .pack, .power, .mgmt, .pins, .out], none⟩
  | .p12vInRange => ⟨[.power], some [Obj.STARTUP_STEP]⟩
  | .p12vSag => ⟨[.pack, .power, .pins, .out], some [Obj.PS_STATE, Obj.PS_SAG_EVENTS, Obj.PACK_CHARGING, Obj.PACK_ESR_DEFERRED]⟩
  | .p12vReturned => ⟨[.power, .pins, .out], some [Obj.PS_STATE, Obj.PS_LONGEST_RIDE, Obj.PACK_CHARGING]⟩
  | .rideThroughClear => ⟨[.power], some []⟩
  | .rideThroughExpiry => ⟨[.bootAt, .sess, .ep, .ev, .qps, .sluice, .host, .vols, .map, .prot, .pools, .ilog, .drv, .key, .cache, .lines, .pair, .pack, .power, .mgmt, .pins, .out], none⟩
  | .acfailExpiry => ⟨[.bootAt, .sess, .ep, .ev, .qps, .sluice, .host, .vols, .map, .prot, .pools, .ilog, .drv, .key, .cache, .lines, .pair, .pack, .power, .mgmt, .pins, .out], none⟩
  | .acfailRelease => ⟨[], some [Obj.PS_ACFAIL_EVENTS, Obj.INPUT_LEVELS]⟩
  | .inputCollapse _ => ⟨[.bootAt, .sess, .ep, .ev, .qps, .sluice, .host, .vols, .map, .prot, .pools, .ilog, .drv, .key, .cache, .lines, .pair, .pack, .power, .mgmt, .pins, .out], none⟩
  | .railFault _ => ⟨[.bootAt, .sess, .ep, .ev, .qps, .sluice, .host, .vols, .map, .prot, .pools, .ilog, .drv, .key, .cache, .lines, .pair, .pack, .power, .mgmt, .pins, .out], none⟩
  | .thermalTrip _ _ => ⟨[.bootAt, .sess, .ep, .ev, .qps, .sluice, .host, .vols, .map, .prot, .pools, .ilog, .drv, .key, .cache, .lines, .pair, .pack, .power, .mgmt, .pins, .out], none⟩
  | .thermalDump _ => ⟨[.bootAt, .sess, .ep, .ev, .qps, .sluice, .host, .vols, .map, .prot, .pools, .ilog, .drv, .key, .cache, .lines, .pair, .pack, .power, .mgmt, .pins, .out], none⟩
  | .thermAlert _ => ⟨[.ev, .host, .pins, .out], some (evObjs ++ [Obj.JUNCTION_TEMP, Obj.JUNCTION_TEMP_PEAK, Obj.THERM_ALERT_ACTIVE])⟩
  | .thermAlertRelease _ => ⟨[.pins, .out], some [Obj.JUNCTION_TEMP, Obj.JUNCTION_TEMP_PEAK, Obj.THERM_ALERT_ACTIVE]⟩
  | .quadrantStepDown _ _ => ⟨[.ep, .ev, .prot, .pools, .drv, .cache, .pair, .power, .out], some (epochRunObjs ++ [Obj.QUADRANT_TEMPERATURE, Obj.QUADRANT_GATED])⟩
  | .thermalEpochRetry => ⟨[.ep, .ev, .prot, .pools, .drv, .cache, .pair, .power, .out], some epochRunObjs⟩
  | .quadrantReturn _ _ => ⟨[.ep, .ev, .prot, .pools, .drv, .cache, .pair, .power, .out], some (epochRunObjs ++ [Obj.QUADRANT_TEMPERATURE, Obj.QUADRANT_GATED])⟩
  | .pllLockLoss => ⟨[.power], some [Obj.PLL_MAIN_LOCKED, Obj.PLL_LOCK_LOSSES]⟩
  | .pllRelock => ⟨[.power], some [Obj.PLL_MAIN_LOCKED]⟩
  | .pllFallback => ⟨[.bootAt, .sess, .ep, .ev, .qps, .sluice, .host, .vols, .map, .prot, .pools, .ilog, .drv, .key, .cache, .lines, .pair, .pack, .power, .mgmt, .pins, .out], none⟩
  | .railsOffTimeout => ⟨[.power], some [Obj.STARTUP_STEP]⟩
  | .resetNAssert _ => ⟨[.bootAt, .sess, .ep, .ev, .qps, .sluice, .host, .vols, .map, .prot, .pools, .ilog, .drv, .key, .cache, .lines, .pair, .pack, .power, .mgmt, .pins, .out], none⟩
  | .resetNRelease _ => ⟨[.power, .pins, .out], some [Obj.STARTUP_STEP, Obj.PS_STATE, Obj.THERM_ALERT_ACTIVE, Obj.INPUT_LEVELS]⟩
  | .startupStepDone _ _ => ⟨[.sess, .ev, .qps, .sluice, .host, .vols, .map, .prot, .pools, .ilog, .drv, .key, .cache, .lines, .pair, .pack, .power, .pins, .out], none⟩
  | .startMemberWaitExpiry => ⟨[.ev, .pools, .drv, .out], some (cmdObjs ++ [Obj.STARTUP_STEP, Obj.POOL_ACTION_RESULT, Obj.STARTUP_TIMES])⟩
  | .watchdogExpiry => ⟨[.bootAt, .sess, .ep, .ev, .qps, .sluice, .host, .vols, .map, .prot, .pools, .ilog, .drv, .key, .cache, .lines, .pair, .pack, .power, .mgmt, .pins, .out], none⟩
  | .deviceReset _ => ⟨[.bootAt, .sess, .ep, .ev, .qps, .sluice, .host, .vols, .map, .prot, .pools, .ilog, .drv, .key, .cache, .lines, .pair, .pack, .power, .mgmt, .pins, .out], none⟩
  | .fwUpdateSlot _ => ⟨[], some [Obj.FW_UPDATE_SLOT]⟩
  | .fwSlotErase _ => ⟨[.power], some [Obj.FW_SLOT_STATE, Obj.FW_SLOT_VERSION, Obj.FW_SLOT_COMPAT_LEVEL, Obj.FW_SLOT_SVN]⟩
  | .fwSlotData _ _ => ⟨[.power], some [Obj.FW_SLOT_STATE]⟩
  | .fwSlotVerify _ _ _ _ _ => ⟨[], some [Obj.STARTUP_FAULT, Obj.BOOT_SLOT_PREFERRED, Obj.FW_SLOT_STATE, Obj.FW_SLOT_VERSION, Obj.FW_SLOT_COMPAT_LEVEL, Obj.FW_SLOT_SVN, Obj.FW_SLOT_RESULT]⟩
  | .bootSlotPreferred _ => ⟨[], some [Obj.BOOT_SLOT_PREFERRED]⟩
  | .fwSvnCommit _ => ⟨[], some [Obj.FW_SVN_FLOOR]⟩
  | .hostPrbs => ⟨[.cache, .power], some testObjs⟩
  | .drivePrbs => ⟨[.cache, .power], some testObjs⟩
  | .culvertPrbs => ⟨[.cache, .power], some testObjs⟩
  | .culvertLoopback => ⟨[.cache, .power], some testObjs⟩
  | .hbmPattern => ⟨[.cache, .power], some testObjs⟩
  | .cisternSelftest => ⟨[.cache, .power], some testObjs⟩
  | .testStop _ => ⟨[.ev, .host, .prot, .pools, .drv, .pair, .power, .out], some (weirObjs ++ testObjs ++ [Obj.CISTERN_STATE, Obj.CISTERN_DIES_USABLE, Obj.CISTERN_DUMP_RATE])⟩
  | .testDurationExpiry _ => ⟨[.ev, .host, .prot, .pools, .drv, .pair, .power, .out], some (weirObjs ++ testObjs ++ [Obj.CISTERN_STATE, Obj.CISTERN_DIES_USABLE, Obj.CISTERN_DUMP_RATE])⟩
  | .testConditionLost _ => ⟨[.ev, .host, .prot, .pools, .drv, .pair, .power, .out], some (weirObjs ++ testObjs ++ [Obj.CISTERN_STATE, Obj.CISTERN_DIES_USABLE, Obj.CISTERN_DUMP_RATE])⟩
  | .jtagInstruction _ => ⟨[.power], some []⟩
  | .busMasterDisable _ => ⟨[.ev, .qps, .sluice, .vols, .prot, .pools, .ilog, .drv, .lines, .pair, .out], some (slotObjs ++ [Obj.FUNC_BUS_MASTER])⟩
  | .busMasterEnable _ => ⟨[.ev, .qps, .sluice, .host, .prot, .lines, .out], some (cplObjs ++ [Obj.FUNC_BUS_MASTER, Obj.RING_REFETCHES])⟩
  | .hostReadErrorCompletion _ _ => ⟨[.ev, .qps, .sluice, .vols, .prot, .pools, .ilog, .drv, .lines, .pair, .out], some slotObjs⟩
  | .flr _ => ⟨[.ev, .qps, .sluice, .vols, .prot, .pools, .ilog, .drv, .lines, .pair, .out], some (slotObjs ++ stripeObjs ++ [Obj.FUNC_IN_RESET, Obj.FUNC_FLRS, Obj.QP_STATE, Obj.LOST_COMPLETIONS])⟩
  | .flrComplete _ => ⟨[.sess, .ev, .qps, .sluice, .host, .vols, .prot, .pools, .ilog, .drv, .lines, .pair, .out], some flrObjs⟩
  | .d3hotEntry _ => ⟨[.ev, .qps, .sluice, .vols, .prot, .pools, .ilog, .drv, .lines, .pair, .out], some (slotObjs ++ [Obj.FUNC_DSTATE])⟩
  | .d0Return _ => ⟨[.ev, .qps, .sluice, .host, .prot, .lines, .out], some (cplObjs ++ [Obj.UNIT_APPLIED_EPOCH, Obj.FUNC_DSTATE, Obj.MODULE_IDLE, Obj.RING_REFETCHES])⟩
  | .vfEnable _ _ _ => ⟨[.sess, .ev, .qps, .sluice, .host, .vols, .prot, .pools, .ilog, .drv, .lines, .pair, .out], some (flrObjs ++ stripeObjs)⟩
  | .msixVectorUnmask _ _ => ⟨[.host, .out], some []⟩
  | .perstAssert _ => ⟨[.ev, .qps, .sluice, .host, .vols, .prot, .pools, .ilog, .drv, .lines, .pair, .out], some (slotObjs ++ stripeObjs ++ [Obj.PORT_LINK_UP, Obj.PORT_LINK_SPEED, Obj.PORT_LINK_WIDTH, Obj.PORT_FLIT_MODE, Obj.PORT_RESETS, Obj.FUNC_IN_RESET, Obj.QP_STATE, Obj.LOST_COMPLETIONS])⟩
  | .perstRelease _ _ _ => ⟨[.sess, .ev, .qps, .sluice, .host, .vols, .prot, .pools, .ilog, .drv, .lines, .pair, .out], some (flrObjs ++ evObjs ++ [Obj.UNIT_APPLIED_EPOCH, Obj.PORT_LINK_UP, Obj.PORT_LINK_SPEED, Obj.PORT_LINK_WIDTH, Obj.PORT_FLIT_MODE, Obj.MODULE_IDLE])⟩
  | .hotReset _ => ⟨[.ev, .qps, .sluice, .host, .vols, .prot, .pools, .ilog, .drv, .lines, .pair, .out], some (slotObjs ++ stripeObjs ++ [Obj.PORT_LINK_UP, Obj.PORT_LINK_SPEED, Obj.PORT_LINK_WIDTH, Obj.PORT_FLIT_MODE, Obj.PORT_RESETS, Obj.FUNC_IN_RESET, Obj.QP_STATE, Obj.LOST_COMPLETIONS])⟩
  | .hostLinkDown _ => ⟨[.ev, .qps, .sluice, .host, .vols, .prot, .pools, .ilog, .drv, .lines, .pair, .out], some (slotObjs ++ stripeObjs ++ [Obj.PORT_LINK_UP, Obj.PORT_LINK_SPEED, Obj.PORT_LINK_WIDTH, Obj.PORT_FLIT_MODE, Obj.PORT_RESETS, Obj.PORT_LINK_DOWNS, Obj.FUNC_IN_RESET, Obj.QP_STATE, Obj.LOST_COMPLETIONS])⟩
  | .moduleIdleEntry => ⟨[.ev, .prot, .pools, .drv, .lines, .pair, .out], some (stripeObjs ++ cmdObjs ++ linkObjs ++ [Obj.MODULE_IDLE, Obj.MODULE_IDLE_ENTRIES])⟩
  | .moduleIdleExit => ⟨[], some [Obj.UNIT_APPLIED_EPOCH, Obj.MODULE_IDLE]⟩
  | .coalesceWindowClose _ => ⟨[.ev, .host, .out], some [Obj.EVENTS_CREATED, Obj.PATH_SHEDDING, Obj.PATH_DELIVERED, Obj.PATH_SHED_WARN, Obj.PATH_SHED_INFO, Obj.PATH_SHED_TRACE, Obj.PATH_OVERRUNS, Obj.EVENT_RING_NEXT_DELIVERY]⟩
  | .stormQuiet _ => ⟨[.ev, .host, .out], some [Obj.EVENTS_CREATED, Obj.PATH_SHEDDING, Obj.PATH_DELIVERED, Obj.PATH_SHED_WARN, Obj.PATH_SHED_INFO, Obj.PATH_SHED_TRACE, Obj.PATH_STORMS, Obj.PATH_OVERRUNS, Obj.EVENT_RING_NEXT_DELIVERY]⟩
  | .eventRingEnable _ _ => ⟨[.ev], some [Obj.EVENT_RING_ENABLE, Obj.EVENT_RING_NEXT_DELIVERY]⟩
  | .eventRingCoalesceTimeout _ => ⟨[.ev, .host, .out], some []⟩
  | .subscribe _ _ => ⟨[.ev], some [Obj.PATH_MIN_SEVERITY]⟩
  | .eventSubFetch _ _ => ⟨[.ev, .out], some []⟩
  | .eventStoreRead _ _ => ⟨[.out], some [Obj.EVENT_STORE_FROM]⟩
  | .alarmStoreRead _ _ => ⟨[.out], some [Obj.ALARM_STORE_FROM]⟩
  | .counterClear _ => ⟨[.ev], some [Obj.QP_READ_CMDS, Obj.QP_WRITE_CMDS, Obj.QP_OTHER_CMDS, Obj.QP_READ_BYTES, Obj.QP_WRITE_BYTES, Obj.QP_ERRORS, Obj.QP_DEGRADED, Obj.QP_SERVICE_TIME_SUM, Obj.QP_READ_HISTOGRAM, Obj.QP_WRITE_HISTOGRAM, Obj.VOL_READ_CMDS, Obj.VOL_WRITE_CMDS, Obj.VOL_OTHER_CMDS, Obj.VOL_READ_BYTES, Obj.VOL_WRITE_BYTES, Obj.VOL_ERRORS, Obj.VOL_DEGRADED, Obj.VOL_SERVICE_TIME_SUM, Obj.VOL_READ_HISTOGRAM, Obj.VOL_WRITE_HISTOGRAM, Obj.FN_CMDS, Obj.FN_READ_BYTES, Obj.FN_WRITE_BYTES, Obj.FN_ERRORS, Obj.FN_SLUICE_WAIT_TIME, Obj.FN_ADMITTED, Obj.COUNTER_CLEARS]⟩
  | .admissionTimeout _ => ⟨[.ev, .drv, .out], some (cmdObjs ++ [Obj.DPORT_STATE, Obj.DRIVE_ADMISSION])⟩
  | .driveControllerReady _ => ⟨[.ev, .drv, .out], some cmdObjs⟩
  | .driveAerUncorrectable _ => ⟨[.ev, .qps, .sluice, .host, .map, .prot, .pools, .ilog, .drv, .key, .cache, .lines, .pair, .out], some (dredgeObjs ++ slotObjs ++ [Obj.DPORT_STATE, Obj.DPORT_CONTAIN_CAUSE, Obj.DRIVE_MEMBER_OF, Obj.MEMBER_STATE, Obj.REBUILD_STATE, Obj.REBUILD_SECTORS_TOTAL, Obj.REBUILD_SECTORS_DONE, Obj.MEMBER_ACTION_RESULT, Obj.INTEGRITY_UNRECOVERED])⟩
  | .hbmRefreshThreshold _ _ => ⟨[.power], some [Obj.HBM_TEMPERATURE, Obj.HBM_REFRESH_MODE]⟩
  | .p12vTransient => ⟨[], some [Obj.PS_TRANSIENTS]⟩
  | .ethernetFrame _ => ⟨[.mgmt, .out], some []⟩
  | .i3cDynamicAddress _ _ _ => ⟨[.mgmt], some []⟩
  | .heartbeatInterval => ⟨[.ev, .pair, .out], some linkObjs⟩
  | .pairAliveReturn => ⟨[.pair], some [Obj.PAIR_STATE, Obj.PAIR_ALIVE_PRESENT]⟩
  | .listPageReadComplete _ _ _ _ => ⟨[.qps, .sluice, .out], some []⟩
  | .pmeStatusClear _ => ⟨[.host, .pins, .out], some []⟩
  | .packSample _ _ _ _ => ⟨[.ev, .host, .prot, .pools, .drv, .pair, .pack, .pins, .out], some (weirObjs ++ [Obj.PACK_STATE, Obj.PACK_FAULT_CAUSE, Obj.PACK_VOLTAGE, Obj.PACK_CURRENT, Obj.PACK_TEMPERATURE, Obj.PACK_CHARGING, Obj.PACK_ESR_DEFERRED])⟩
  | .zeroingComplete _ => ⟨[.key], some [Obj.ZERO_BYTES, Obj.ZERO_RESERVE_PCT]⟩

end Sys2Proof.Machine
end

