-- ==== Sys2Proof/Certificates/Slice0/Obligations.lean ====
section
/-! DEFINITION. The statements about this model, one definition each; OBLIGATIONS.json lists them with the rules or sections of
the manual they come from. They are stated here and proved elsewhere. -/

open Sys2Proof Sys2Proof.Machine

/-- For every command c and state s, step of s with c at the front of its queue is exec of c on s with the rest of the queue in
its place. (From 08_commands.md, Ordering; 95_what_each_step_holds.md, What each step holds.) -/
def Obligations.StepRunsFrontCommand : Prop :=
  ∀ (s : State) (c : Instr) (l : List Instr), step { s with pending := c :: l } = exec c { s with pending := l }

/-- With no command waiting, step answers a next state whose queue is empty, whose clock has moved one microsecond, and whose
outputs extend those before. That an idle step lets time pass is the model's choice (log entry 2). (From 00_scope.md,
Numbers, units and time; 01_architecture.md, Organisation and the Life of an I/O.) -/
def Obligations.EmptyQueueIdles : Prop :=
  ∀ (s : State), s.pending = [] → ∃ t, step s = .next t ∧ t.pending = [] ∧ t.now = s.now + 1 ∧ s.out <+: t.out

/-- If the registers and the byte objects of the dictionary are listed in s by strictly rising keys, then after any step, of any
command or of an empty queue, they are so in the next state: no object has two values, and equal contents are equal data.
(From 00_scope.md, Object addresses, types, access and privilege; 02_object_dictionary.md, Persistence and defaults.) -/
def Obligations.EveryStepKeepsTables : Prop :=
  ∀ (s t : State), Canon s → step s = .next t → Canon t

/-- State.reset satisfies the invariant that every step keeps. (From 16_startup_reset_test_recovery.md, The start-up sequence.) -/
def Obligations.ResetIsCanonical : Prop :=
  Canon State.reset

/-- For every command c and every state s, exec answers a next state; the commands that wait and the time are as before, and the
outputs of s are a prefix of those of the next state. That a command which names nothing under way completes too is the
model's choice (log entry 1). (From 01_architecture.md, Organisation and the Life of an I/O; 95_what_each_step_holds.md,
What each step holds.) -/
def Obligations.EveryCommandCompletes : Prop :=
  ∀ (c : Instr) (s : State), ∃ t, exec c s = .next t ∧ t.pending = s.pending ∧ t.now = s.now ∧ s.out <+: t.out

/-- After reset no command waits and nothing has been sent; the power state is STANDBY at start-up step 1; every queue pair is
DISABLED with rings of 256 entries; every pool is NOT_CONFIGURED with no rebuild and no members; every key slot is EMPTY;
the epoch state is IDLE with a timeout of 10 ms; the pack is DISABLED, the pair state 0, the test state idle, no event
created. That reset means P3V3_AUX just risen, and that read-only and persistent objects with no stated default (BOOT,
member and pool objects) read 0, are the model's choices (log entries 9, 10 and 11). (From 07_rings.md, Objects;
03_stripes_and_codes.md, Pool and member objects; 12_cipher_keys_tamper.md, Objects; 02_object_dictionary.md, Epoch objects;
14_backup_pack.md, Objects; 16_startup_reset_test_recovery.md, The start-up sequence.) -/
def Obligations.ResetValues : Prop :=
  State.reset.pending = [] ∧ State.reset.out = [] ∧ State.reset.power.mode = .standby ∧ rdN State.reset Obj.STARTUP_STEP 0 = 1 ∧
  (∀ q, qpState State.reset q = Qs.disabled ∧ rdN State.reset Obj.SR_SIZE q = 256 ∧ rdN State.reset Obj.CR_SIZE q = 256) ∧
  (∀ p, poolState State.reset p = Ps.notConfigured ∧ rdN State.reset Obj.REBUILD_STATE p = 0) ∧
  (∀ i, rdN State.reset Obj.MEMBER_STATE i = Ms.none) ∧ (∀ k, keyState State.reset k = Ks.empty) ∧
  epochState State.reset = Es.idle ∧ rdN State.reset Obj.EPOCH_TIMEOUT 0 = 10 ∧ packState State.reset = Pk.disabled ∧ rdN State.reset Obj.PAIR_STATE 0 = 0 ∧
  rdN State.reset Obj.TEST_STATE 0 = 0 ∧ rdN State.reset Obj.EVENTS_CREATED 0 = 0

/-- For every command c: if exec c on s answers t, then t agrees with s outside the footprint of c. The footprint names, for
each command, which registers and byte objects of the dictionary it may write and which parts of the state beside them
(queue pairs, pools, volumes, map, protected slots, intent log, drive ports, cache, keys, pair, pack, power, management,
pins, events and so on); every register, byte object and part outside it is unchanged. (From 07_rings.md, Objects;
13_on_die_cache.md, Objects; 11_pair_and_culvert.md, Objects; 15_power_clocks_package.md, Objects;
17_telemetry_counters_performance.md, Objects.) -/
def Obligations.CommandFrames : Prop :=
  ∀ (c : Instr) (s t : State), exec c s = .next t → (footOf c).Kept s t

/-- A live pack that meets PACK_OVERVOLTAGE (PACK_VSNS above PACK_VMAX + 200 mV for 100 ms, which the command stands for: log
entry 3) has PACK_CHG_EN low, PACK_CHARGING false, PACK_STATE FAULT and cause OVERVOLTAGE; a live pack that is charging when
PACK_CHARGER_FAULT comes is FAULT with cause CHARGER. (Rules R507.) -/
def Obligations.PackFaults : Prop :=
  (∀ (s : State), packLive s = true → Tbl.getD s.pins Pin.packCharge.num 0 = b2n (rdB s Obj.PACK_CHARGING 0) →
    ∃ t, exec .packOvervoltage s = .next t ∧ Tbl.getD t.pins Pin.packCharge.num 0 = 0 ∧ rdB t Obj.PACK_CHARGING 0 = false ∧ packState t = Pk.fault ∧ rdN t Obj.PACK_FAULT_CAUSE 0 = Pf.overvoltage) ∧
  (∀ (s : State), packLive s = true → rdB s Obj.PACK_CHARGING 0 = true →
    ∃ t, exec .packChargerFault s = .next t ∧ packState t = Pk.fault ∧ rdN t Obj.PACK_FAULT_CAUSE 0 = Pf.charger)

/-- When the response b of a DICT_READ or DICT_WRITE is delivered to a command that is under way, exactly one completion is
appended to its queue pair, with the command's tag and status SUCCESS (0x0000) if RESULT in b is OK and INVALID_FIELD
(0x0102) otherwise; and where the command has a second data descriptor the outputs are those of writing b there. (Rules
R62.) -/
def Obligations.DictionaryCompletions : Prop :=
  ∀ (s : State) (q tag : Nat) (c : Cmd) (b : Bytes), findCmd s q tag = some c →
    (∃ x, (qpOf (deliverRsp s (.cmd q tag) b) q).cpl = (qpOf s q).cpl ++ [x] ∧ x.tag = c.tag ∧ x.status = (if fieldAt b 6 1 = 0 then 0x0000 else 0x0102)) ∧
    (∀ d, c.descs[1]? = some d → (deliverRsp s (.cmd q tag) b).out = (hostScatter s (qpFn s q) [d] 0 b).out)

/-- A reset of the main logic leaves no staged entry. EPOCH_DISCARD in state IDLE clears the staged set and changes nothing in
the dictionary; in any other state it leaves the state as it is. (Rules R78.) -/
def Obligations.StagedSetIsLost : Prop :=
  (∀ (s : State), (mainReset s).ep.staged = []) ∧
  (∀ (s : State), epochState s = Es.idle → ∃ t, exec .epochDiscard s = .next t ∧ t.ep.staged = [] ∧ t.dict = s.dict) ∧
  (∀ (s : State), epochState s ≠ Es.idle → exec .epochDiscard s = .next s)

/-- WEIR_RECOMPUTE, after it has settled whether the Cistern is ARMED (noteCistern: MIRROR_RESERVE is one of the Cistern's
conditions too), answers a next state in which WEIR_ENERGY_BYTES is the bytes a dump on the pack could write (usable energy
less the fixed dump time at the margin-raised dump power, times the dump rate), none unless the pack is CURRENT, the Cistern
ARMED and the intent log readable, less the mirror reserve in effect; WEIR_CURRENT is the least of WEIR_LIMIT, 8 GiB and
that term, rounded down to 4,096 bytes, or 0 with WEIR_FORCE_WRITE_THROUGH; WEIR_BINDING is the first term of the list that
applies. (Rules R184; R609.) -/
def Obligations.WeirComputation : Prop :=
  ∀ (r s : State), noteCistern r = s → ∃ t, exec .weirRecompute r = .next t ∧
    (let current := rdB s Obj.PACK_ENABLE 0 = true ∧ rdN s Obj.PACK_STATE 0 = 3
     let armed := rdN s Obj.CISTERN_STATE 0 = 1
     let readable := rdN s Obj.ILOG_STATE 0 ≠ 3
     let load := rdN s Obj.DUMP_POWER 0 * rdN s Obj.WEIR_MARGIN 0
     let energy := if current ∧ armed ∧ readable then (100 * rdN s Obj.PACK_USABLE_ENERGY 0 - rdN s Obj.DUMP_T_FIXED 0 * load) * rdN s Obj.CISTERN_DUMP_RATE 0 * 1000 / load else 0
     let weirEnergy := energy - rdN t Obj.MIRROR_RESERVE_IN_EFFECT 0
     let limit := rdN s Obj.WEIR_LIMIT 0
     let least := min limit (min 8589934592 weirEnergy)
     rdN t Obj.WEIR_ENERGY_BYTES 0 = weirEnergy ∧
     rdN t Obj.WEIR_CURRENT 0 = (if rdB s Obj.WEIR_FORCE_WRITE_THROUGH 0 = true then 0 else least / 4096 * 4096) ∧
     rdN t Obj.WEIR_BINDING 0 =
       (if rdB s Obj.WEIR_FORCE_WRITE_THROUGH 0 = true then 3 else if ¬current then 4 else if ¬armed then 5 else if ¬readable then 6
        else if least = 8589934592 then 1 else if least = limit then 0 else 2))

/-- When a completion entry with service time t (in 10 ns units) is written, bin 0 is meant for t below 2, bin b for 2^b up to
below 2^(b+1), and bin 31 for 2^31 and above: a READ adds one to that bin of its queue pair's and its volume's read
histograms, a WRITE to that of the write histograms, and any other opcode leaves all histograms unchanged. (Rules R597.) -/
def Obligations.CompletionHistograms : Prop :=
  ∀ (s : State) (q b : Nat) (c : Cpl) (rest : List Cpl), (qpOf s q).cpl = c :: rest → crUsable s q = true → canMaster s (qpFn s q) = true →
    crFree (qpOf s q) (rdN s Obj.CR_SIZE q) (seqNext (rdN s Obj.LAST_CR_SEQ q)) = true →
    (b = 0 ∧ min 0xFFFFFFFF c.time < 2) ∨ (1 ≤ b ∧ b ≤ 30 ∧ 2 ^ b ≤ min 0xFFFFFFFF c.time ∧ min 0xFFFFFFFF c.time < 2 ^ (b + 1)) ∨ (b = 31 ∧ 2 ^ 31 ≤ min 0xFFFFFFFF c.time) →
    ∃ t, exec (.completionWrite q) s = .next t ∧
      (c.opcode = 1 →
        Tbl.getD t.ev.hist (Obj.QP_READ_HISTOGRAM.key q * 32 + b) 0 = ctrAdd (Tbl.getD s.ev.hist (Obj.QP_READ_HISTOGRAM.key q * 32 + b) 0) 1 ∧
        Tbl.getD t.ev.hist (Obj.VOL_READ_HISTOGRAM.key c.volume * 32 + b) 0 = ctrAdd (Tbl.getD s.ev.hist (Obj.VOL_READ_HISTOGRAM.key c.volume * 32 + b) 0) 1) ∧
      (c.opcode = 2 →
        Tbl.getD t.ev.hist (Obj.QP_WRITE_HISTOGRAM.key q * 32 + b) 0 = ctrAdd (Tbl.getD s.ev.hist (Obj.QP_WRITE_HISTOGRAM.key q * 32 + b) 0) 1 ∧
        Tbl.getD t.ev.hist (Obj.VOL_WRITE_HISTOGRAM.key c.volume * 32 + b) 0 = ctrAdd (Tbl.getD s.ev.hist (Obj.VOL_WRITE_HISTOGRAM.key c.volume * 32 + b) 0) 1) ∧
      (c.opcode ≠ 1 → c.opcode ≠ 2 → t.ev.hist = s.ev.hist)

/-- A write into the push window of a queue pair in PUSH state lays its bytes down, and with no slot full nothing else of the
dictionary changes; a push timeout drops the half-written slot and counts it in PUSH_DROPPED; SR_NOTIFY of an SR_SEQ not
behind the next one starts a ring fetch; CR_RELEASE within what was written sets CR_RELEASED_SEQ and frees exactly the
entries up to it. (From 07_rings.md, The doorbell page (Table 07-7); 07_rings.md, Push; 07_rings.md, Ring fetch and
prefetch.) -/
def Obligations.PushWindowWrites : Prop :=
  (∀ (s : State) (q off : Nat) (data : Bytes), memOpen s (qpFn s q) = true → data ≠ [] → off + data.length ≤ 256 → qpState s q = Qs.push →
    canMaster s (qpFn s q) = true → (∀ j < 4, slotFull { qpOf s q with push := layPush (qpOf s q).push off data } j = false) →
    ∃ t, exec (.pushSlotWrite q off data) s = .next t ∧ (qpOf t q).push = layPush (qpOf s q).push off data ∧ t.dict = s.dict) ∧
  (∀ (s : State) (q j : Nat), (qpOf s q).push.any (fun p => p.1 / 64 == j) = true →
    ∃ t, exec (.pushSlotTimeout q j) s = .next t ∧ (∀ p ∈ (qpOf t q).push, p.1 / 64 ≠ j) ∧ rdN t Obj.PUSH_DROPPED q = (rdN s Obj.PUSH_DROPPED q + 1) % 2 ^ 64) ∧
  (∀ (s : State) (q : Nat) (v : BitVec 32), memOpen s (qpFn s q) = true → v.toNat < 65536 → qpServing s q = true → canMaster s (qpFn s q) = true →
    behind v.toNat (rdN s Obj.NEXT_SR_SEQ q) = false →
    ∃ t, exec (.srNotify q v) s = .next t ∧ (qpOf t q).fetch.isSome = true ∧ rdN t Obj.NEXT_SR_SEQ q = rdN s Obj.NEXT_SR_SEQ q) ∧
  (∀ (s : State) (q : Nat) (v : BitVec 32), memOpen s (qpFn s q) = true → v.toNat < 65536 → ahead v.toNat (rdN s Obj.LAST_CR_SEQ q) = false →
    behind v.toNat (rdN s Obj.CR_RELEASED_SEQ q) = false →
    ∃ t, exec (.crRelease q v) s = .next t ∧ rdN t Obj.CR_RELEASED_SEQ q = v.toNat ∧ (∀ b, b ∈ (qpOf t q).crBusy ↔ b ∈ (qpOf s q).crBusy ∧ ahead b v.toNat = true))

/-- A fetched entry that the host has given, with the expected SR_SEQ, that starts a chain and is not its last stands as the
open chain and moves NEXT_SR_SEQ on; a fetch that ends in error halts the queue pair with cause 1; polling entries that are
not owned takes none and frees the CR slots the host gave back; a slot poll of a usable, full CR that finds the next slot
free frees it; a coalescing timeout sends the vector where it may be sent and sets its pending bit where it may not. (From
07_rings.md, Ring fetch and prefetch; 07_rings.md, Polling; 07_rings.md, Completion interrupts; 07_rings.md, Chains.) -/
def Obligations.RingReads : Prop :=
  (∀ (s : State) (q : Nat) (e : SqEntry), (qpOf s q).fetch.isSome = true → intakeOpen s q = true → e.own = true → e.srSeq = rdN s Obj.NEXT_SR_SEQ q →
    behind e.srSeq e.srSeq = false → (qpOf s q).chain = [] → startsChain e = true → e.last = false →
    ∃ t, exec (.ringFetchComplete q [e] false) s = .next t ∧ (qpOf t q).chain = [e] ∧ rdN t Obj.NEXT_SR_SEQ q = seqNext e.srSeq) ∧
  (∀ (s : State) (q : Nat) (es : List SqEntry), q < 65536 → (qpOf s q).fetch.isSome = true → intakeOpen s q = true →
    ∃ t, exec (.ringFetchComplete q es true) s = .next t ∧ rdN t Obj.QP_STATE q = Qs.halted ∧ rdN t Obj.HALT_CAUSE q = 1 ∧ (qpOf t q).fetch = none) ∧
  (∀ (s : State) (q : Nat) (es : List SqEntry) (owns : List (Nat × Bool)), q < 65536 → qpState s q = Qs.poll → canMaster s (qpFn s q) = true →
    rdN s Obj.QP_POLL_BATCH q = es.length → (∀ e ∈ es, e.own = false) →
    ∃ t, exec (.qpPoll q es owns false) s = .next t ∧ rdN t Obj.NEXT_SR_SEQ q = rdN s Obj.NEXT_SR_SEQ q ∧
      (∀ b, b ∈ (qpOf t q).crBusy ↔ b ∈ (qpOf s q).crBusy ∧ (b, true) ∉ owns)) ∧
  (∀ (s : State) (q : Nat), crUsable s q = true → canMaster s (qpFn s q) = true → crFull s q = true →
    ∃ t, exec (.crSlotPoll q true false) s = .next t ∧
      ∀ b, b ∈ (qpOf t q).crBusy ↔ b ∈ (qpOf s q).crBusy ∧ b % rdN s Obj.CR_SIZE q ≠ seqNext (rdN s Obj.LAST_CR_SEQ q) % rdN s Obj.CR_SIZE q) ∧
  (∀ (s : State) (q : Nat), rdB s Obj.CR_INT_ENABLE q = true → rdN s Obj.CR_COALESCE_TIME q ≠ 0 → (qpOf s q).coal ≠ 0 →
    ∃ t, exec (.msixCoalesceTimeout q) s = .next t ∧ (qpOf t q).coal = 0 ∧
      (vectorOpen s (qpFn s q) (rdN s Obj.CR_MSIX_VECTOR q) = true → ∃ a d, t.out = s.out ++ [.msix (qpFn s q) (rdN s Obj.CR_MSIX_VECTOR q) a d]) ∧
      (vectorOpen s (qpFn s q) (rdN s Obj.CR_MSIX_VECTOR q) = false → rdN s Obj.CR_MSIX_VECTOR q ∈ (fnOf t (qpFn s q)).pend))

/-- ADMIN_CTRL enables a DISABLED administrative pair whose rings pass the checks in the mode asked for, changes the mode of a
serving one, and resets a serving or halted one with nothing outstanding to DISABLED; QP_MODE 1 or 2 switches a serving pair
at once and is only noted for a DISABLED one; QP_HALT halts a serving pair with cause 3. (From 07_rings.md, QP states;
07_rings.md, The doorbell page (Table 07-9); 07_rings.md, Objects.) -/
def Obligations.QueuePairStates : Prop :=
  (∀ (s : State) (pf : Nat) (push : Bool), pf < 2 → memOpen s pf = true → qpState s pf = Qs.disabled → createResult (wr s Obj.QP_MODE pf (if push then 2 else 1)) pf = 1 →
    ∃ t, exec (.adminCtrlEnable pf push) s = .next t ∧ rdN t Obj.QP_STATE pf = (if push then Qs.push else Qs.poll) ∧ rdN t Obj.QP_CREATE_RESULT pf = 1) ∧
  (∀ (s : State) (pf : Nat) (push : Bool), pf < 2 → qpServing s pf = true →
    ∃ t, exec (.adminCtrlMode pf push) s = .next t ∧ rdN t Obj.QP_STATE pf = (if push then Qs.push else Qs.poll) ∧ rdN t Obj.QP_MODE pf = (if push then 2 else 1)) ∧
  (∀ (s : State) (q mode : Nat), mode = 1 ∨ mode = 2 → qpServing s q = true →
    ∃ t, exec (.qpModeWrite q mode) s = .next t ∧ rdN t Obj.QP_STATE q = mode ∧ rdN t Obj.QP_MODE q = mode) ∧
  (∀ (s : State) (q mode : Nat), mode = 1 ∨ mode = 2 → qpState s q = Qs.disabled →
    ∃ t, exec (.qpModeWrite q mode) s = .next t ∧ rdN t Obj.QP_MODE q = mode ∧ rdN t Obj.QP_STATE q = Qs.disabled) ∧
  (∀ (s : State) (pf : Nat), pf < 2 → memOpen s pf = true → qpServing s pf = true ∨ qpState s pf = Qs.halted →
    (qpOf s pf).queue = [] → (qpOf s pf).cmds = [] → (qpOf s pf).cpl = [] →
    ∃ t, exec (.adminCtrlReset pf) s = .next t ∧ rdN t Obj.QP_STATE pf = Qs.disabled) ∧
  (∀ (s : State) (q : Nat), qpServing s q = true →
    ∃ t, exec (.qpHalt q) s = .next t ∧ rdN t Obj.QP_STATE q = Qs.halted ∧ rdN t Obj.HALT_CAUSE q = 3)

/-- With the CR usable, the function mastering the bus and the next slot free, COMPLETION_WRITE writes the oldest waiting
completion, moves LAST_CR_SEQ to its sequence number and marks that slot busy; at a queue reset that times out with one
completion that cannot be written, the pair becomes DISABLED, LOST_COMPLETIONS rises by one, and the outcome table keeps the
SR_SEQ and status of the tag. (From 07_rings.md, Completion entries; 07_rings.md, QP states; 07_rings.md, Finding your place
after a crash.) -/
def Obligations.CompletionEntries : Prop :=
  (∀ (s : State) (q : Nat) (c : Cpl) (rest : List Cpl), (qpOf s q).cpl = c :: rest → crUsable s q = true → canMaster s (qpFn s q) = true →
    crFree (qpOf s q) (rdN s Obj.CR_SIZE q) (seqNext (rdN s Obj.LAST_CR_SEQ q)) = true → qpState s q ≠ Qs.resetting → q < 65536 → qpFn s q < 65536 → c.volume < 65536 →
    ∃ t, exec (.completionWrite q) s = .next t ∧ rdN t Obj.LAST_CR_SEQ q = seqNext (rdN s Obj.LAST_CR_SEQ q) ∧ (qpOf t q).cpl = rest ∧
      seqNext (rdN s Obj.LAST_CR_SEQ q) ∈ (qpOf t q).crBusy) ∧
  (∀ (s : State) (q : Nat) (c : Cpl), (qpOf s q).byFlr = false → qpState s q = Qs.resetting → (qpOf s q).queue = [] → (qpOf s q).cmds = [] → (qpOf s q).cpl = [c] →
    (qpOf s q).resetBy = none → crUsable s q = true → canMaster s (qpFn s q) = false → q < 65536 →
    ∃ t, exec (.queueResetTimeout q) s = .next t ∧ rdN t Obj.QP_STATE q = Qs.disabled ∧ rdN t Obj.LOST_COMPLETIONS q = (rdN s Obj.LOST_COMPLETIONS q + 1) % 2 ^ 64 ∧
      Tbl.get (qpOf t q).outcomes (c.tag % 32) = some (c.srSeq, c.status))

/-- When one administrative queue pair alone has a command at its head: if the late checks fail it completes with their status,
and if nothing makes it wait it is admitted; a list page that ends the walk leaves the command waiting with its descriptors,
and a list page that cannot be read completes it with DMA_HALTED; QUEUE_CREATE on a DISABLED pair creates it where the
checks pass, and completes with INVALID_FIELD and the result code where not; QUEUE_RESET of a pair with nothing outstanding
makes it DISABLED and completes with SUCCESS. (From 07_rings.md, Tags and admission; 08_commands.md, Checks before any
effect; 08_commands.md, Queue commands; 07_rings.md, Submission entries.) -/
def Obligations.CommandAdmission : Prop :=
  (∀ (s : State) (q : Nat) (c : Cmd), q < 2 → running s = true → q ∈ s.qps.map Prod.fst → headOf s q = some c → (∀ p, p ≠ q → headOf s p = none) →
    lateCheck s c = none → waitCause s q c = none → exec .admitCommand s = .next (admitCmd s q c)) ∧
  (∀ (s : State) (q : Nat) (c : Cmd) (st : Nat), q < 2 → running s = true → q ∈ s.qps.map Prod.fst → headOf s q = some c → (∀ p, p ≠ q → headOf s p = none) →
    lateCheck s c = some st → ∃ t, exec .admitCommand s = .next t ∧ ∃ e ∈ (qpOf t q).cpl, e.tag = c.tag ∧ e.status = st) ∧
  (∀ (s : State) (q tag : Nat) (page : Bytes) (c : Cmd) (p : Desc) (l : List Desc), decoding s q tag = some c → c.page = some p → canMaster s (qpFn s q) = true →
    walkEnd s q (c.nlb * 4096) (walk s q (pageDescs p.len page)
      { data := c.descs, broken := false, outside := c.descs.any (fun d => !inWindows s q d.addr d.len), page := none }) = .done l →
    ∃ t, exec (.listPageReadComplete q tag page false) s = .next t ∧
      ∀ x ∈ (qpOf t q).queue, x.tag = tag → x.phase = .waiting ∧ x.descs = l ∧ x.page = none) ∧
  (∀ (s : State) (q tag : Nat) (page : Bytes) (c : Cmd) (p : Desc), decoding s q tag = some c → c.page = some p → canMaster s (qpFn s q) = true →
    ∃ t, exec (.listPageReadComplete q tag page true) s = .next t ∧ ∃ e ∈ (qpOf t q).cpl, e.tag = c.tag ∧ e.status = St.dmaHalted) ∧
  (∀ (s : State) (q tag : Nat) (c : Cmd), startable s q tag 0x80 = some c → qpState s c.target = Qs.disabled → createResult s c.target = 1 → 2 ≤ c.target → c.target < 65536 →
    qpFn s c.target < 1026 →
    ∃ t, exec (.queueCreate q tag) s = .next t ∧ (∃ e ∈ (qpOf t q).cpl, e.tag = c.tag ∧ e.status = St.success) ∧
      rdN t Obj.QP_CREATE_RESULT c.target = 1 ∧ rdN t Obj.QP_STATE c.target = rdN s Obj.QP_MODE c.target) ∧
  (∀ (s : State) (q tag : Nat) (c : Cmd), startable s q tag 0x80 = some c → qpState s c.target = Qs.disabled → createResult s c.target ≠ 1 →
    ∃ t, exec (.queueCreate q tag) s = .next t ∧ (∃ e ∈ (qpOf t q).cpl, e.tag = c.tag ∧ e.status = St.invalidField) ∧
      rdN t Obj.QP_CREATE_RESULT c.target = createResult s c.target) ∧
  (∀ (s : State) (q tag : Nat) (c : Cmd), startable s q tag 0x81 = some c → c.target ≠ q → qpServing s c.target = true ∨ qpState s c.target = Qs.halted →
    (qpOf s c.target).queue = [] → (qpOf s c.target).cmds = [] → (qpOf s c.target).cpl = [] →
    ∃ t, exec (.queueReset q tag) s = .next t ∧ (∃ e ∈ (qpOf t q).cpl, e.tag = tag ∧ e.status = St.success ∧ e.result = 0) ∧ rdN t Obj.QP_STATE c.target = Qs.disabled)

/-- A WRITE that finds a lane and room, outside an epoch, places its sectors and, once all are placed, starts its transfers; a
sector that lands is counted as 4,096 bytes from its host port and taken into its slot, and one that a partial write leaves
with a poisoned word becomes a BAD_DATA sector, counted and reported; a sector that meets a cipher fault faults its pipeline
and fails the WRITE with CIPHER_FAULT; a WRITE whose sectors are all mapped and mirrored as its pool requires completes with
SUCCESS and says whether all is committed; its last step releases what it held. (From 08_commands.md, Writing;
01_architecture.md, The acknowledged half; 12_cipher_keys_tamper.md, Fault checks and quarantine.) -/
def Obligations.WriteCommands : Prop :=
  (∀ (s u : State) (q tag lane : Nat) (c d e : Cmd), startable s q tag 2 = some c → canMaster s (qpFn s q) = true → rdN s Obj.EPOCH_STATE 0 = 0 →
    hostLane s (cmdPool s c) = some lane →
    findCmd (modCmd s q tag (fun x => { x with phase := .running, wr := [], wFirst := (placedRange s c.volume c.slba c.nlb).1, wTotal := (placedRange s c.volume c.slba c.nlb).2, lane := lane })) q tag = some d →
    placeRest (modCmd s q tag (fun x => { x with phase := .running, wr := [], wFirst := (placedRange s c.volume c.slba c.nlb).1, wTotal := (placedRange s c.volume c.slba c.nlb).2, lane := lane }))
      (cmdPool s d) q d = u → findCmd u q tag = some e → placedWhole e = true → e.wr ≠ [] →
    exec (.write q tag) s = .next (startTransfers (noteSlots u) q e d.wr.length)) ∧
  (∀ (s r : State) (q tag i n : Nat) (c : Cmd) (data : Bytes) (parts : List PartWrite) (mems : List Poison), forEach mems meetPoison (forEach parts (fun x t => countPart t x) r) = s →
    findCmd s q tag = some c → c.opcode = 2 → c.wr[i]? = some (.filling n) → inRange c (c.wFirst + i) = true → data.length = 4096 → poisonedWords parts = [] →
    exec (.writeDmaLanded q tag i data ⟨.none, parts, mems⟩) r = .next (landPlain (countDev s (Dc.fromHost + fnPort (qpFn s q)) 4096) q c i n data)) ∧
  (∀ (s r : State) (q tag i n : Nat) (c : Cmd) (data : Bytes) (parts : List PartWrite) (mems : List Poison), forEach mems meetPoison (forEach parts (fun x t => countPart t x) r) = s →
    findCmd s q tag = some c → c.opcode = 2 → c.wr[i]? = some (.filling n) → inRange c (c.wFirst + i) = true → data.length = 4096 → poisonedWords parts ≠ [] →
    exec (.writeDmaLanded q tag i data ⟨.none, parts, mems⟩) r =
      .next (raise (landBad (bump (countDev s (Dc.fromHost + fnPort (qpFn s q)) 4096) Obj.DIRTY_POISON_BAD_DATA 0 1) q c i n) (ev 0x04 221) .error Src.volume c.volume (detailLba c.volume (c.wFirst + i)))) ∧
  (∀ (s r : State) (q tag i n : Nat) (c : Cmd) (data : Bytes) (parts : List PartWrite) (mems : List Poison), forEach mems meetPoison (forEach parts (fun x t => countPart t x) r) = s →
    findCmd s q tag = some c → c.opcode = 2 → c.wr[i]? = some (.filling n) → inRange c (c.wFirst + i) = true → data.length = 4096 → encrypted s c.volume = true →
    exec (.writeDmaLanded q tag i data ⟨.cipher, parts, mems⟩) r = .next (failWrite (pipeFault (countDev s (Dc.fromHost + fnPort (qpFn s q)) 4096) (n % 4)) q tag St.cipherFault)) ∧
  (∀ (s : State) (q tag : Nat) (c : Cmd), findCmd s q tag = some c → c.opcode = 2 → c.phase = .running → needsCommit s c = false → allMapped c = true → mirrorMet s c = true →
    ∃ t, exec (.writeCompletion q tag) s = .next t ∧
      ∃ e ∈ (qpOf t q).cpl, e.tag = c.tag ∧ e.status = St.success ∧ e.result = 0 ∧ e.committed = allCommitted c) ∧
  (∀ (s : State) (q tag : Nat) (c : Cmd), findCmd s q tag = some c → c.opcode = 2 → exec (.writeStep7Release q tag) s = .next (step7 s q tag))

/-- A FLUSH starts where no pool holds an open stripe; a running one completes with SUCCESS once nothing of its volumes is
waited for, and with POOL_OFFLINE where a pool of them has FAILED; a DEALLOCATE that waits for nothing appends its record to
the intent log, and completes with SUCCESS when that record is durable. (From 08_commands.md, Ordering; 08_commands.md,
Opcodes; 05_protected_cache.md, The intent log.) -/
def Obligations.FlushAndDeallocate : Prop :=
  (∀ (s : State) (q tag : Nat) (c : Cmd), startable s q tag 3 = some c → (∀ p < 8, (poolOf s p).stripes = []) →
    ∃ t, exec (.flush q tag) s = .next t ∧ ∀ x ∈ (qpOf t q).cmds, x.tag = tag → x.phase = .running) ∧
  (∀ (s : State) (q tag : Nat) (c : Cmd), findCmd s q tag = some c → c.opcode = 3 → c.phase = .running →
    (flushVolumes s q c).any (fun v => poolState s (rdN s Obj.VOLUME_POOL v) == Ps.failed) = false → flushWaits s (flushVolumes s q c) c = false →
    ∃ t, exec (.flushCompletion q tag) s = .next t ∧ ∃ e ∈ (qpOf t q).cpl, e.tag = c.tag ∧ e.status = St.success) ∧
  (∀ (s : State) (q tag : Nat) (c : Cmd), findCmd s q tag = some c → c.opcode = 3 → c.phase = .running →
    (flushVolumes s q c).any (fun v => poolState s (rdN s Obj.VOLUME_POOL v) == Ps.failed) = true →
    ∃ t, exec (.flushCompletion q tag) s = .next t ∧ ∃ e ∈ (qpOf t q).cpl, e.tag = c.tag ∧ e.status = St.poolOffline) ∧
  (∀ (s : State) (q tag : Nat) (c d : Cmd), startable s q tag 4 = some c → findCmd (modCmd s q tag (fun x => { x with phase := .running })) q tag = some d → d.opcode = 4 →
    d.phase = .running → deallocRec s q tag = none → deallocWaits (modCmd s q tag (fun x => { x with phase := .running })) d = false →
    ∃ t, exec (.deallocate q tag) s = .next t ∧ t.ilog.recs = s.ilog.recs ++
      [{ seq := s.ilog.nextSeq, pool := cmdPool s d, body := .dealloc d.volume d.slba d.nlb d.wseq (q + 1) tag, durable := false, copy := false }]) ∧
  (∀ (s : State) (q tag : Nat) (c : Cmd) (r : LogRec), findCmd s q tag = some c → c.opcode = 4 → c.phase = .running → deallocRec s q tag = some r → r.durable = true →
    ∃ t, exec (.deallocateCompletion q tag) s = .next t ∧ ∃ e ∈ (qpOf t q).cpl, e.tag = c.tag ∧ e.status = St.success)

/-- With no epoch in progress, a READ of one sector that is not in the Flume and whose map entry is lost completes with
MEDIA_LOST; one whose entry is unmapped completes with SUCCESS, not degraded, with result word 0xFFFFFFFF00000000; a VERIFY
of one unmapped sector completes with SUCCESS and result 0. (From 08_commands.md, Reading; 04_log_map_dredger.md, Entries;
06_failure_rebuild_reshape.md, Erasures beyond tolerance and the lost list.) -/
def Obligations.ReadOfOneSector : Prop :=
  (∀ (s r : State) (mems : List Poison) (q tag : Nat) (c : Cmd), forEach mems meetPoison r = s → rdN s Obj.EPOCH_STATE 0 = 0 → startable s q tag 1 = some c → (qpOf s q).cmds = [c] → c.nlb = 1 → c.volume < 65536 → rdN s Obj.CACHE_PREFETCH 0 = 0 →
    flumeLookup s c.volume c.slba = none → leafResident s (grainKey s c.volume c.slba) = true → entryOfGrain s (grainKey s c.volume c.slba) = .lost →
    ∃ t, exec (.read q tag ⟨[], mems⟩) r = .next t ∧ ∃ e ∈ (qpOf t q).cpl, e.tag = tag ∧ e.status = St.mediaLost ∧ e.result = 0) ∧
  (∀ (s r : State) (mems : List Poison) (q tag : Nat) (c : Cmd), forEach mems meetPoison r = s → rdN s Obj.EPOCH_STATE 0 = 0 → startable s q tag 1 = some c → (qpOf s q).cmds = [c] → c.nlb = 1 → c.volume < 65536 → rdN s Obj.CACHE_PREFETCH 0 = 0 →
    flumeLookup s c.volume c.slba = none → leafResident s (grainKey s c.volume c.slba) = true → entryOfGrain s (grainKey s c.volume c.slba) = .unmapped →
    canMaster s (qpFn s q) = true → qpFn s q < 65536 →
    ∃ t, exec (.read q tag ⟨[], mems⟩) r = .next t ∧ ∃ e ∈ (qpOf t q).cpl, e.tag = tag ∧ e.status = St.success ∧ e.result = 0xFFFFFFFF * 2 ^ 32 ∧ e.degraded = false) ∧
  (∀ (s : State) (q tag : Nat) (c : Cmd), rdN s Obj.EPOCH_STATE 0 = 0 → startable s q tag 5 = some c → (qpOf s q).cmds = [c] → c.nlb = 1 → c.lost = 0 → c.repaired = 0 →
    entryOfGrain s (grainKey s c.volume c.slba) = .unmapped →
    ∃ t, exec (.verify q tag) s = .next t ∧ ∃ e ∈ (qpOf t q).cpl, e.tag = tag ∧ e.status = St.success ∧ e.result = 0)

/-- A host read error completes a command whose list was being read with DMA_HALTED, and fails a WRITE whose data was being
fetched with it; the end of a member read goes where its purpose says: a sector of a read, a source of a decode, a leaf of
the map; a decode whose sources are all there, and whose result passes its checks, is served; sectors that waited for an
overlap are resolved. (From 06_failure_rebuild_reshape.md, Reading around a loss; 06_failure_rebuild_reshape.md, Checking
what is read; 08_commands.md, Reading; 04_log_map_dredger.md, The map cache.) -/
def Obligations.TransferErrorsAndMemberReads : Prop :=
  (∀ (s : State) (q tag : Nat), exec (.readOverlapResolve q tag) s = .next (resolveWhere s q tag (fun r _ => r == .waiting))) ∧
  (∀ (s : State) (q tag : Nat) (c : Cmd), findCmd s q tag = none → decoding s q tag = some c →
    ∃ t, exec (.hostReadErrorCompletion q tag) s = .next t ∧ ∃ e ∈ (qpOf t q).cpl, e.tag = c.tag ∧ e.status = St.dmaHalted) ∧
  (∀ (s : State) (q tag : Nat) (c : Cmd), findCmd s q tag = some c → c.opcode = 2 → c.phase = .running → fetchingHost c = true →
    exec (.hostReadErrorCompletion q tag) s = .next (failWrite s q c.tag St.dmaHalted)) ∧
  (∀ (s : State) (id p v lba slot zs col : Nat) (m : MCmd) (w : Want) (data : Bytes) (flt : SecFault), outstanding s id = some m → m.purp = .sector w p v lba slot zs col →
    exec (.memberReadComplete id data flt) s = .next (sectorLands (endCmd s id) w p v lba slot zs col data flt)) ∧
  (∀ (s : State) (id job col : Nat) (m : MCmd) (data : Bytes) (flt : SecFault), outstanding s id = some m → m.purp = .source job col →
    exec (.memberReadComplete id data flt) s = .next (sourceLands (endCmd s id) job col data flt)) ∧
  (∀ (s : State) (job : Nat) (x : Job) (g : Seg) (d : Bytes) (m : Meta), Tbl.get s.drv.jobs job = some x → x.sources.all (fun i => (Tbl.get x.got i).isSome) = true →
    Tbl.get (poolOf s x.pool).segs x.slot = some g → (∀ a b, x.want ≠ .page a b) → decodeJob s x g = some (d, m) → checkDecoded s x.vol x.lba x.zs g m = true →
    exec (.degradedDecodeDone job) s = .next (decodedOk s job x d m)) ∧
  (∀ (s : State) (id p key mc : Nat) (m : MCmd) (data : Bytes), outstanding s id = some m → m.purp = .leaf p key mc → leafOk key data = true →
    exec (.mapLeafReadComplete id data true) s = .next (leafArrived (endCmd s id) key data))

/-- The age of a stripe with data closes it; a lane that waited opens a segment, places what was staged and, a host lane, goes
on with the WRITEs that waited for it; the last column of a stripe logs its commit record; a record that became durable
takes its effects, after its word has been retired where two copies failed, and with no spare left it does not become
durable; a committed slot that nothing names or reads is freed; wear rotation after 64 record writes moves the block ahead
of the spare into it, so that block is the spare, counts a turn when the spare comes round, and keeps the records. (From
03_stripes_and_codes.md, Height and closing; 04_log_map_dredger.md, Closing, forcing and committing; 05_protected_cache.md,
The intent log; 05_protected_cache.md, Wear rotation; 05_protected_cache.md, Slots.) -/
def Obligations.StripesAndIntentRecords : Prop :=
  (∀ (s r : State) (p id : Nat) (x : Stripe) (mems : List Poison), forEach mems meetPoison r = s → stripeOf s p id = some x → x.pos.any (fun e => e.landed && !e.fill) = true →
    exec (.stripeAgeTimer p ⟨id, mems⟩) r = .next (forceClose 2 s p id)) ∧
  (∀ (s : State) (p cls lane : Nat), (laneOf s p cls lane).waiting = true → (laneOf s p cls lane).seg = none → canOpenSeg s p (laneOf s p cls lane) = true → rdN s Obj.EPOCH_STATE 0 = 0 →
    exec (.laneWaitEnd p cls lane) s = .next (if cls = Cls.host then forEach (waitingWrites (placeStaged (openSeg s p (laneOf s p cls lane)) p cls lane) p lane)
        (fun e v => if (laneOf v p cls lane).waiting then v else continueWrite v e.1 e.2.tag) (placeStaged (openSeg s p (laneOf s p cls lane)) p cls lane)
      else placeStaged (openSeg s p (laneOf s p cls lane)) p cls lane)) ∧
  (∀ (s : State) (id p st j : Nat) (c : MCmd) (x : Stripe), outstanding s id = some c → c.purp = .column p st j →
    stripeOf (modStripe (endCmd s id) p st (fun y => { y with colsLeft := y.colsLeft.filter (fun i => i != j) })) p st = some x → x.gone = false → x.issued = true → x.colsLeft = [] → x.logged = false →
    ∃ t, exec (.columnWriteComplete id) s = .next t ∧ ∃ r ∈ t.ilog.recs, r.pool = p ∧ r.durable = false ∧
      ∃ f a b, r.body = .stripe st x.seg x.first x.height x.cls f a b) ∧
  (∀ (s : State) (seq fails : Nat) (corrected : Bool) (r : LogRec), s.ilog.recs.find? (fun x => x.seq == seq && !x.durable) = some r → (2 ≤ fails → sparesOut s = false) →
    exec (.ilogRecordDurable seq ⟨fails, corrected⟩) s =
      .next (noteHolds (opDurable (onDurable (recordKept s r fails corrected) { r with durable := true }) { r with durable := true })) ∧
    (recordKept s r fails corrected).ilog.recs = s.ilog.recs.map (fun x => if x.seq = seq then { x with durable := true } else x)) ∧
  (∀ (s : State) (seq fails : Nat) (corrected : Bool), 2 ≤ fails → sparesOut s = true → exec (.ilogRecordDurable seq ⟨fails, corrected⟩) s = .next s) ∧
  (∀ (s : State) (n : Nat) (x : Slot), slotOf s n = some x → n < ownSlots → x.st = .committed → slotNamed s n x = false → slotReaders s n = false → x.recAcked = true →
    digestSettled s x = true → x.atomicRef = 0 → mirrors s x.pool = false →
    ∃ t, exec (.slotRelease n) s = .next t ∧ slotOf t n = none) ∧
  (∀ (s : State), 64 ≤ s.ilog.ahead →
    ∃ t, exec .ilogWearRotate s = .next t ∧ t.ilog.ahead = 0 ∧ t.ilog.spare = aheadBlock s.ilog ∧ t.ilog.turns = (if s.ilog.spare = 0 then (s.ilog.turns + 1) % 32768 else s.ilog.turns) ∧ t.ilog.recs = s.ilog.recs)

/-- A serving pool asked for a checkpoint starts number + 1 at step 1, and each step that has done its writes begins the next
once a write sequence may be taken, the sixth ending it when its record is durable; the Dredger reports its state and takes
the segment it chose; a segment that is read by none, holds nothing live and is passed by a checkpoint is reset column by
column; the reshape cursor moves when its segment is empty. (From 04_log_map_dredger.md, Checkpoints and the recovery
window; 04_log_map_dredger.md, Selecting a segment; 04_log_map_dredger.md, Freeing a segment; 06_failure_rebuild_reshape.md,
Reshape.) -/
def Obligations.CheckpointsAndSegments : Prop :=
  (∀ (s : State) (p : Nat), p < 8 → poolServes s p = true → (poolOf s p).ckptAgain = true → (poolOf s p).ckpt = none →
    ∃ t k, exec (.checkpointStart p) s = .next t ∧ (poolOf t p).ckpt = some k ∧ k.number = rdN s Obj.MAP_CHECKPOINT_NUMBER p + 1 ∧ k.step = 1 ∧ (poolOf t p).ckptAgain = false ∧ t.dict = s.dict) ∧
  (∀ (s : State) (p : Nat) (k : Ckpt), (poolOf s p).ckpt = some k → k.step ≠ 6 → metaBusy s p = false → wseqReady s (if k.step = 2 then min 524288 (stepPages s p) else 1) = true →
    ¬(k.step = 2 ∧ k.leaves ≠ []) → ¬(k.step = 4 ∧ k.roots ≠ []) →
    exec (.checkpointStepDone p) s = .next (beginStep s p k (k.step + 1))) ∧
  (∀ (s : State) (p : Nat) (k : Ckpt), (poolOf s p).ckpt = some k → k.step = 6 →
    (∃ r ∈ s.ilog.recs, r.pool = p ∧ r.durable = true ∧ ∃ g, r.body = .checkpoint k.number g) →
    (∀ e ∈ s.pair.recWait, ckptRecord p k.number e.2 = false) →
    exec (.checkpointStepDone p) s = .next (endCkpt s p k)) ∧
  (∀ (s : State) (p : Nat), p < 8 → poolServes s p = true → ∃ t, exec (.mapCheckpointNow p) s = .next t ∧ (poolOf t p).ckptAgain = true ∧ t.dict = s.dict) ∧
  (∀ (s : State) (p : Nat), p < 8 → poolServes s p = true → rdB s Obj.MODULE_IDLE 0 = false → rdN s Obj.EPOCH_STATE 0 = 0 → (dredgeChoice s p).2 = none →
    ∃ t, exec (.dredgeSelect p) s = .next t ∧ rdN t Obj.DREDGE_STATE p = (dredgeChoice (noteUrgent s p) p).1) ∧
  (∀ (s : State) (p slot : Nat), p < 8 → poolServes s p = true → rdB s Obj.MODULE_IDLE 0 = false → rdN s Obj.EPOCH_STATE 0 = 0 → (dredgeChoice s p).2 = some slot →
    reshapeNext s p ≠ some slot → exec (.dredgeSelect p) s = .next (dredgeSegment (noteDredger s p) p slot)) ∧
  (∀ (s : State) (p slot : Nat) (g : Seg), Tbl.get (poolOf s p).segs slot = some g → g.st = 3 → g.passBy ≤ rdN s Obj.MAP_CHECKPOINT_NUMBER p → segmentReaders s p slot = false →
    liveCount s p slot = 0 → (poolOf s p).reshape = none →
    ∃ t, exec (.segmentResetStart p slot) s = .next t ∧ (∃ r ∈ t.ilog.recs, r.pool = p ∧ r.body = .segReset slot g.seq) ∧
      ∃ h, Tbl.get (poolOf t p).segs slot = some h ∧ h.st = 4 ∧ h.resets = List.range g.cols.length) ∧
  (∀ (s : State) (id p slot j : Nat) (c : MCmd), outstanding s id = some c → c.purp = .zone p slot j →
    exec (.zoneResetComplete id true) s = .next (freedRecord (modSeg (endCmd s id) p slot (fun x => { x with resets := x.resets.filter (fun i => i != j) })) p slot)) ∧
  (∀ (s : State) (p slot : Nat) (r : Reshape) (g : Seg), p < 8 → (poolOf s p).reshape = some r → r.moving = some slot → Tbl.get (poolOf s p).segs slot = some g → g.st = 3 →
    g.passBy ≤ rdN s Obj.MAP_CHECKPOINT_NUMBER p →
    toMigrate (modPool (wr (logRec s p (.reshape (cursorAfter s p r g))) Obj.RESHAPE_CURSOR p (cursorAfter s p r g : Nat)) p (fun x => { x with reshape := some { r with moving := none } })) p { r with moving := none } ≠ [] →
    ∃ t, exec (.reshapeCursorAdvance p) s = .next t ∧ rdN t Obj.RESHAPE_CURSOR p = cursorAfter s p r g ∧ (poolOf t p).reshape = some { r with moving := none })

/-- The patrol examines the next stripe and reports its place in percent; at the end of its walk it counts a pass and begins
again, as PATROL_RESTART does at once; a resync with nothing left ends with all its stripes done; a rebuild that waits is
considered at REBUILD_START and when a member comes, and a running one takes its segments by rank and starts their copies; a
considered rebuild that can run reports state 2, no sectors done and the live sectors lost, one that cannot waits in state
1, and one that runs already goes on with its sectors counted afresh. (From 06_failure_rebuild_reshape.md, The Ditch Rider;
06_failure_rebuild_reshape.md, Rebuild; 05_protected_cache.md, Losing the intent log: RESYNC.) -/
def Obligations.PatrolResyncAndRebuild : Prop :=
  (∀ (s : State) (p : Nat) (cols : List (Option Bytes)), p < 8 → mayPatrol s p = true → rdB s Obj.MODULE_IDLE 0 = false → rdN s Obj.EPOCH_STATE 0 = 0 →
    (walkOrder s p).filter (fun e => decide ((poolOf s p).patrol.slot < e.1 ∨ ((poolOf s p).patrol.slot = e.1 ∧ (poolOf s p).patrol.idx ≤ e.2.1))) = [] →
    ∃ t, exec (.patrolStripe p cols) s = .next t ∧ rdN t Obj.PATROL_PASSES p = (rdN s Obj.PATROL_PASSES p + 1) % 2 ^ 64 ∧ rdN t Obj.PATROL_PROGRESS p = 0 ∧
      (poolOf t p).patrol = { slot := 0, idx := 0, started := s.now }) ∧
  (∀ (s : State) (p : Nat) (cols : List (Option Bytes)) (e : Nat × Nat × Nat × StripeHdr) (r : List (Nat × Nat × Nat × StripeHdr)), p < 8 → mayPatrol s p = true →
    rdB s Obj.MODULE_IDLE 0 = false → rdN s Obj.EPOCH_STATE 0 = 0 →
    (walkOrder s p).filter (fun e => decide ((poolOf s p).patrol.slot < e.1 ∨ ((poolOf s p).patrol.slot = e.1 ∧ (poolOf s p).patrol.idx ≤ e.2.1))) = e :: r →
    ∃ t, exec (.patrolStripe p cols) s = .next t ∧ rdN t Obj.PATROL_STATE p = 1 ∧ rdN t Obj.PATROL_PROGRESS p = 100 * ((walkOrder s p).length - (r.length + 1) + 1) / (walkOrder s p).length ∧
      (poolOf t p).patrol.slot = e.1 ∧ (poolOf t p).patrol.idx = e.2.1 + 1) ∧
  (∀ (s : State) (p : Nat), p < 8 → ∃ t, exec (.patrolRestart p) s = .next t ∧ rdN t Obj.PATROL_PROGRESS p = 0 ∧ (poolOf t p).patrol = { slot := 0, idx := 0, started := s.now }) ∧
  (∀ (s : State) (p : Nat) (cols : List (Option Bytes)) (w : WalkAt), p < 8 → (poolOf s p).resync = some w → poolCond s p Pc.resync = true → rdN s Obj.EPOCH_STATE 0 = 0 → resyncLeft s p w = [] →
    ∃ t, exec (.resyncStripeCheck p cols) s = .next t ∧ (poolOf t p).resync = none ∧ rdN t Obj.RESYNC_STRIPES_DONE p = rdN s Obj.RESYNC_STRIPES_TOTAL p) ∧
  (∀ (s : State) (p : Nat), p < 8 → rdN s Obj.REBUILD_STATE p = 1 → rebuildCan s p = true →
    exec (.rebuildStart p) s = .next (considerRebuild s p) ∧ exec (.rebuildAutoStart p) s = .next (considerRebuild s p)) ∧
  (∀ (s : State) (p slot : Nat) (g : Seg), p < 8 → rdN s Obj.REBUILD_STATE p = 2 → rdB s Obj.MODULE_IDLE 0 = false → rdN s Obj.EPOCH_STATE 0 = 0 →
    leastBy (fun (e : Nat × Seg) => rebuildRank s p e.2) ((poolOf s p).segs.filter (fun e => !(rebuildWork s p e.1 e.2).1.isEmpty || !(rebuildWork s p e.1 e.2).2.isEmpty)) = some (slot, g) →
    exec (.rebuildNextSegment p) s = .next (forEach (rebuildWork s p slot g).2 (fun e t => fetchPageCopy t p slot e.1 e.2 0)
      (forEach (rebuildWork s p slot g).1 (fun key t => startCopy t p key Cls.rebuild .rebuild none) s))) ∧
  (∀ (s : State) (p : Nat), p < 8 → anyFailed s p = true → rdN s Obj.REBUILD_STATE p ≠ 2 →
    rebuildCan (wr (wr (setCond s p Pc.degraded true) Obj.REBUILD_SECTORS_TOTAL p (lostLive (setCond s p Pc.degraded true) p : Nat)) Obj.REBUILD_SECTORS_DONE p 0) p = true →
    rdN (considerRebuild s p) Obj.REBUILD_STATE p = 2 ∧ rdN (considerRebuild s p) Obj.REBUILD_SECTORS_DONE p = 0 ∧
    rdN (considerRebuild s p) Obj.REBUILD_SECTORS_TOTAL p = lostLive (setCond s p Pc.degraded true) p) ∧
  (∀ (s : State) (p : Nat), p < 8 → anyFailed s p = true → rdN s Obj.REBUILD_STATE p = 2 →
    rdN (considerRebuild s p) Obj.REBUILD_STATE p = 2 ∧ rdN (considerRebuild s p) Obj.REBUILD_SECTORS_DONE p = 0 ∧
    rdN (considerRebuild s p) Obj.REBUILD_SECTORS_TOTAL p = lostLive (setCond s p Pc.degraded true) p) ∧
  (∀ (s : State) (p : Nat), p < 8 → anyFailed s p = true → rdN s Obj.REBUILD_STATE p ≠ 2 →
    rebuildCan (wr (wr (setCond s p Pc.degraded true) Obj.REBUILD_SECTORS_TOTAL p (lostLive (setCond s p Pc.degraded true) p : Nat)) Obj.REBUILD_SECTORS_DONE p 0) p = false →
    rdN (considerRebuild s p) Obj.REBUILD_STATE p = 1)

/-- CREATE of a volume that passes its checks creates it, and otherwise reports the result and changes no volume; DELETE of an
existing volume waits until nothing uses it and then drops its copies, map, lost entries and map pages under a record of the
log; VOLUME_CAPACITY is free before CREATE up to 2^40 sectors, and a write that would make an existing volume smaller
changes nothing. (From 03_stripes_and_codes.md, Volumes.) -/
def Obligations.VolumeActions : Prop :=
  (∀ (s : State) (v : Nat), v < 4096 → volCreateResult s v = Vr.done → exec (.volumeCreate v) s = .next (createVol (wr s Obj.VOLUME_ACTION_RESULT v 1) v)) ∧
  (∀ (s : State) (v : Nat), v < 4096 → volCreateResult s v ≠ Vr.done →
    ∃ t, exec (.volumeCreate v) s = .next t ∧ rdN t Obj.VOLUME_ACTION_RESULT v = volCreateResult s v ∧ rdN t Obj.VOLUME_STATE v = rdN s Obj.VOLUME_STATE v ∧ t.vols = s.vols) ∧
  (∀ (s : State) (v : Nat), v < 4096 → rdN s Obj.VOLUME_STATE v = 1 ∨ rdN s Obj.VOLUME_STATE v = 2 → (volOf s v).deleting = false →
    ∃ t, exec (.volumeDelete v) s = .next t ∧ (volOf t v).deleting = true ∧ rdN t Obj.VOLUME_ACTION_RESULT v = Vr.inProgress ∧ rdN t Obj.VOLUME_STATE v = rdN s Obj.VOLUME_STATE v) ∧
  (∀ (s : State) (v : Nat), v < 4096 → rdN s Obj.VOLUME_STATE v = 0 ∨ rdN s Obj.VOLUME_STATE v = 3 →
    ∃ t, exec (.volumeDelete v) s = .next t ∧ rdN t Obj.VOLUME_ACTION_RESULT v = Vr.state ∧ t.vols = s.vols) ∧
  (∀ (s : State) (v : Nat), (volOf s v).deleting = true → volBusy s v = false → rdN s Obj.VOLUME_STATE v = 1 ∨ rdN s Obj.VOLUME_STATE v = 2 →
    let p := rdN s Obj.VOLUME_POOL v
    let a := modPool (dropLost (dropMap (dropCopies s p v) v) p v) p (fun x => { x with
      pages := Tbl.filterK x.pages (fun k => !((k / 2 ^ 56 == Page.directory || k / 2 ^ 56 == Page.leaf) && bitsAt k 40 12 == v))
      dirtyPages := x.dirtyPages.filter (fun k => !((k / 2 ^ 56 == Page.directory || k / 2 ^ 56 == Page.leaf) && bitsAt k 40 12 == v)) })
    let b := wr (wr (logRec a p (.volume v (rdN a Obj.VOLUME_CAPACITY v) 3)) Obj.VOLUME_STATE v 3) Obj.VOLUME_ACTION_RESULT v (Vr.done : Nat)
    exec (.volumeDeleteDrained v) s = .next (writeSuper (noteDirs (modVol b v (fun x => { x with heldFor := b.ilog.nextSeq }))) p)) ∧
  (∀ (s : State) (v cap : Nat), v < 4096 → rdN s Obj.VOLUME_STATE v = 0 → 0 < cap → cap ≤ 2 ^ 40 →
    ∃ t, exec (.volumeCapacityWrite v cap) s = .next t ∧ rdN t Obj.VOLUME_CAPACITY v = cap ∧ t.vols = s.vols) ∧
  (∀ (s : State) (v cap : Nat), v < 4096 → rdN s Obj.VOLUME_STATE v ≠ 0 → cap < rdN s Obj.VOLUME_CAPACITY v → exec (.volumeCapacityWrite v cap) s = .next s)

/-- A table of 768 bytes whose reserved bytes are zero, written to a slot that no pool uses and no check runs in is LOADED; a
check of a loaded table refuses a malformed one with its reason and otherwise runs; a check that finds every pattern
decodable ends VERIFIED, and one that finds a pattern that is not ends REFUSED with reason 5 and that pattern. (From
03_stripes_and_codes.md, Loading and checking a custom table; 03_stripes_and_codes.md, Code table objects;
03_stripes_and_codes.md, Code table layout.) -/
def Obligations.CustomCodeTables : Prop :=
  (∀ (s : State) (i : Nat) (b : Bytes), i < 16 → b.length = 768 → tableReservedZero b = true → rdN s Obj.CODE_CHECK_STATE i ≠ Ct.checking → tableUsers s i = 0 →
    ∃ t, exec (.codeTableDataWrite i b) s = .next t ∧ rdBytes t Obj.CODE_TABLE_DATA i = b ∧ rdN t Obj.CODE_CHECK_STATE i = Ct.loaded ∧ rdN t Obj.CODE_CHECK_REASON i = 0) ∧
  (∀ (s : State) (i : Nat), i < 16 → rdN s Obj.CODE_CHECK_STATE i = Ct.loaded → tableReason (rdBytes s Obj.CODE_TABLE_DATA i) = 0 →
    ∃ t, exec (.codeCheckStart i) s = .next t ∧ rdN t Obj.CODE_CHECK_STATE i = Ct.checking ∧ rdN t Obj.CODE_CHECK_DONE i = 0) ∧
  (∀ (s : State) (i : Nat), i < 16 → rdN s Obj.CODE_CHECK_STATE i = Ct.loaded → tableReason (rdBytes s Obj.CODE_TABLE_DATA i) ≠ 0 →
    ∃ t, exec (.codeCheckStart i) s = .next t ∧ rdN t Obj.CODE_CHECK_STATE i = Ct.refused ∧ rdN t Obj.CODE_CHECK_REASON i = tableReason (rdBytes s Obj.CODE_TABLE_DATA i)) ∧
  (∀ (s : State) (i : Nat), i < 16 → rdN s Obj.CODE_CHECK_STATE i = Ct.checking →
    firstUndecodable (parseTable (rdBytes s Obj.CODE_TABLE_DATA i)) (parseTable (rdBytes s Obj.CODE_TABLE_DATA i)).f = none →
    ∃ t, exec (.codeCheckDone i) s = .next t ∧ rdN t Obj.CODE_CHECK_STATE i = Ct.verified ∧ rdN t Obj.CODE_CHECK_DONE i = rdN s Obj.CODE_CHECK_TOTAL i) ∧
  (∀ (s : State) (i : Nat) (e : List Nat), i < 16 → rdN s Obj.CODE_CHECK_STATE i = Ct.checking →
    firstUndecodable (parseTable (rdBytes s Obj.CODE_TABLE_DATA i)) (parseTable (rdBytes s Obj.CODE_TABLE_DATA i)).f = some e →
    ∃ t, exec (.codeCheckDone i) s = .next t ∧ rdN t Obj.CODE_CHECK_STATE i = Ct.refused ∧ rdN t Obj.CODE_CHECK_REASON i = 5 ∧ rdN t Obj.CODE_CHECK_PATTERN i = colMask e)

/-- CREATE of a pool that is not configured and passes its checks begins with the reservation of its members, and of one that is
configured is refused; ONLINE of an OFFLINE pool is noted before start-up ends and starts its assembly after; OFFLINE of a
serving pool begins to drain it; DESTROY of an OFFLINE pool begins with the reservation of its ACTIVE members where no
volume is left, goes on at once where it has none ACTIVE, and is refused where a volume is left; each ended member command
of an action moves it on. That DESTROY reserves first is a reading of R98 (log entry 78). (From 03_stripes_and_codes.md,
Creating, bringing online and destroying a pool; 03_stripes_and_codes.md, Pool states.) -/
def Obligations.PoolActions : Prop :=
  (∀ (s : State) (p : Nat), p < 8 → (poolOf s p).action = none → poolState s p = Ps.notConfigured → createCheck s p = Pr.inProgress →
    exec (.poolActionCreate p) s = .next (actStep (startAct s p Pa.create 2) p 2 (slotsUsed s p) (fun _ => .resRegister))) ∧
  (∀ (s : State) (p : Nat), p < 8 → (poolOf s p).action = none → poolState s p ≠ Ps.notConfigured →
    ∃ t, exec (.poolActionCreate p) s = .next t ∧ rdN t Obj.POOL_ACTION_RESULT p = Pr.state ∧ t.pools = s.pools) ∧
  (∀ (s : State) (p : Nat), p < 8 → (poolOf s p).action = none → poolState s p = Ps.offline → lossUnknown s = false → rdN s Obj.STARTUP_STEP 0 < 11 →
    ∃ t, exec (.poolActionOnline p) s = .next t ∧ p ∈ t.power.online ∧ t.pools = s.pools) ∧
  (∀ (s : State) (p : Nat), p < 8 → (poolOf s p).action = none → poolState s p = Ps.offline → lossUnknown s = false → 11 ≤ rdN s Obj.STARTUP_STEP 0 →
    exec (.poolActionOnline p) s = .next (startOnline s p)) ∧
  (∀ (s : State) (p : Nat), p < 8 → (poolOf s p).action = none → poolState s p ≠ Ps.offline → poolState s p ≠ Ps.notConfigured →
    ∃ t a, exec (.poolActionOffline p) s = .next t ∧ rdN t Obj.POOL_ACTION_RESULT p = Pr.inProgress ∧ (poolOf t p).action = some a ∧ a.code = Pa.offline ∧ goingOffline t p = true) ∧
  (∀ (s : State) (p : Nat), p < 8 → (poolOf s p).action = none → poolState s p = Ps.offline → hasLive s p = false → slotsIn s p Ms.active ≠ [] →
    exec (.poolActionDestroy p) s = .next (actStep (startAct s p Pa.destroy 2) p 2 (slotsIn s p Ms.active) (fun _ => .resRegister))) ∧
  (∀ (s : State) (p : Nat), p < 8 → (poolOf s p).action = none → poolState s p = Ps.offline → hasLive s p = false → slotsIn s p Ms.active = [] →
    exec (.poolActionDestroy p) s = .next (readSupers (startAct s p Pa.destroy 1) p)) ∧
  (∀ (s : State) (p : Nat), p < 8 → (poolOf s p).action = none → poolState s p = Ps.offline → hasLive s p = true →
    ∃ t, exec (.poolActionDestroy p) s = .next t ∧ rdN t Obj.POOL_ACTION_RESULT p = Pr.volumes ∧ t.pools = s.pools) ∧
  (∀ (s : State) (p id m status : Nat) (c : MCmd) (data : Bytes) (heads media : List MediaItem), outstanding s id = some c → c.purp = .action p m →
    exec (.poolActionStepDone p id status data heads media) s = .next (actionNext (actionEnded (endCmd s id) p m c.op status data) p 0 (heads ++ media)))

/-- ADD and REMOVE of a member report the result of their checks; where they may go on, ADD starts the member and REMOVE drains
it by a reshape; where they may not, no pool and no drive changes. (From 06_failure_rebuild_reshape.md, Membership: adding,
replacing, removing; 06_failure_rebuild_reshape.md, Reshape.) -/
def Obligations.MemberActions : Prop :=
  (∀ (s : State) (p m : Nat), p < 8 → m < 64 → addResult s p m = Mr.inProgress → exec (.memberAdd p m) s = .next (startAdd s p m)) ∧
  (∀ (s : State) (p m : Nat), p < 8 → m < 64 → addResult s p m ≠ Mr.inProgress → rdN s Obj.MEMBER_ACTION_RESULT (mInst p m) ≠ Mr.inProgress →
    ∃ t, exec (.memberAdd p m) s = .next t ∧ rdN t Obj.MEMBER_ACTION_RESULT (mInst p m) = addResult s p m ∧ t.pools = s.pools ∧ t.drv = s.drv) ∧
  (∀ (s : State) (p m : Nat), p < 8 → m < 64 → removeResult s p m = Mr.inProgress →
    exec (.memberRemove p m) s = .next (startReshape (modPool (wr s Obj.MEMBER_ACTION_RESULT (mInst p m) (Mr.inProgress : Nat)) p (fun x => { x with draining := addOnce x.draining m })) p 2 m
      (classCode (wr s Obj.MEMBER_ACTION_RESULT (mInst p m) (Mr.inProgress : Nat)) p Cls.host))) ∧
  (∀ (s : State) (p m : Nat), p < 8 → m < 64 → removeResult s p m ≠ Mr.inProgress →
    ∃ t, exec (.memberRemove p m) s = .next t ∧ rdN t Obj.MEMBER_ACTION_RESULT (mInst p m) = removeResult s p m ∧ t.pools = s.pools ∧ t.drv = s.drv)

/-- EPOCH_COMMIT starts an epoch of the staged set where its checks pass and changes nothing where not; EPOCH_DISCARD in IDLE
clears the staged set; a unit that has finished acknowledges and reports the epoch it applies; a timeout while draining
reverts with the laggards named and the set kept; a written record completes the epoch; a finished revert reports why and
keeps the set. (From 02_object_dictionary.md, Commit, acknowledgement and revert; 02_object_dictionary.md, Staging;
01_architecture.md, Units of an epoch.) -/
def Obligations.LocalEpochs : Prop :=
  (∀ (s : State) (v : Nat), commitResult s v false = Rs.ok → exec (.epochCommit v) s = .next (startEpoch s s.ep.staged false false)) ∧
  (∀ (s : State) (v : Nat), commitResult s v false ≠ Rs.ok → exec (.epochCommit v) s = .next s) ∧
  (∀ (s : State), epochState s = Es.idle → ∃ t, exec .epochDiscard s = .next t ∧ t.ep.staged = [] ∧ t.dict = s.dict) ∧
  (∀ (s : State), epochState s ≠ Es.idle → exec .epochDiscard s = .next s) ∧
  (∀ (s : State) (u : Nat), epochState s = Es.draining → 64 ≤ u → u < 70 → s.ep.acked.contains u = false → unitFinished s u = true →
    allAcked (wr (setAck s u) Obj.UNIT_APPLIED_EPOCH u ((rdN s Obj.EPOCH_CURRENT 0 + 1 : Nat) : Int)) = false →
    ∃ t, exec (.unitAcknowledge u) s = .next t ∧ rdB t Obj.UNIT_ACK u = true ∧ rdN t Obj.UNIT_APPLIED_EPOCH u = rdN s Obj.EPOCH_CURRENT 0 + 1 ∧ u ∈ t.ep.acked ∧
      epochState t = Es.draining) ∧
  (∀ (s : State), epochState s = Es.draining → s.ep.isPair = false →
    ∃ t, exec .epochTimeout s = .next t ∧ epochState t = Es.reverting ∧ rdBytes t Obj.EPOCH_LAGGARDS 0 = laggardBytes s ∧ t.ep.revertAs = Er.aborted ∧ t.ep.staged = s.ep.staged) ∧
  (∀ (s : State), epochState s = Es.committing → s.ep.commitSent = false → s.ep.reconciling = false →
    ∃ t, exec .epochRecordWritten s = .next t ∧ epochState t = Es.idle ∧ rdN t Obj.EPOCH_RESULT 0 = Er.completed ∧ t.ep.acked = []) ∧
  (∀ (s : State), epochState s = Es.reverting → s.ep.thermal = none →
    ∃ t, exec .epochRevertDone s = .next t ∧ epochState t = Es.idle ∧ rdN t Obj.EPOCH_RESULT 0 = s.ep.revertAs ∧ t.ep.staged = s.ep.staged)

/-- EPOCH_COMMIT_PAIR starts a pair epoch where its checks pass; EPOCH_PREPARE of the current pair epoch starts it at the other
side; EPOCH_PREPARED counts as the acknowledgement of unit 70; EPOCH_COMMIT commits a prepared epoch; EPOCH_ABORT reverts it
and keeps the set; a missing commit acknowledgement reverts the initiator and asks for reconciliation. (From
02_object_dictionary.md, Pair-wide epochs; 02_object_dictionary.md, Events that meet an epoch.) -/
def Obligations.PairEpochs : Prop :=
  (∀ (s : State) (v : Nat), commitResult s v true = Rs.ok → exec (.epochCommitPair v) s = .next (startEpoch s s.ep.staged true true)) ∧
  (∀ (s : State) (v : Nat), commitResult s v true ≠ Rs.ok → exec (.epochCommitPair v) s = .next s) ∧
  (∀ (s : State), epochState s = Es.committing → s.ep.initiator = true → s.ep.commitSent = true →
    ∃ t, exec .epochCommitAckTimeout s = .next t ∧ epochState t = Es.reverting ∧ t.ep.reconcile = true ∧ t.ep.revertAs = Er.aborted) ∧
  (∀ (s : State) (p : Nat) (l : List ChangeItem), epochState s = Es.idle → p = rdN s Obj.EPOCH_PAIR_CURRENT 0 → s.pair.joined = true →
    exec (.epochPrepare p l) s = .next (startEpoch (leaveIdle s) (changeOf l) true false)) ∧
  (∀ (s : State) (p : Nat), epochState s = Es.draining → s.ep.isPair = true → s.ep.initiator = true → p = rdN s Obj.EPOCH_PAIR_CURRENT 0 → allAcked (setAck s 70) = false →
    ∃ t, exec (.epochPrepared p) s = .next t ∧ rdB t Obj.UNIT_ACK 70 = true ∧ 70 ∈ t.ep.acked ∧ epochState t = Es.draining) ∧
  (∀ (s : State) (p : Nat), epochState s = Es.prepared → s.ep.initiator = false → p = rdN s Obj.EPOCH_PAIR_CURRENT 0 →
    ∃ t, exec (.epochCommitMessage p) s = .next t ∧ epochState t = Es.committing ∧ t.ep.recorded = false) ∧
  (∀ (s : State) (p : Nat), epochState s = Es.prepared ∨ epochState s = Es.draining → s.ep.isPair = true → p = rdN s Obj.EPOCH_PAIR_CURRENT 0 →
    ∃ t, exec (.epochAbort p) s = .next t ∧ epochState t = Es.reverting ∧ t.ep.revertAs = Er.aborted ∧ t.ep.staged = s.ep.staged)

/-- A group enabled starts and one disabled stops with its clock off; a debounced presence on an EMPTY port starts training and
on any other changes no register; a lost presence while training empties the port; a lost link freezes a CONTAINED-mode port
and loses the drive of a NATIVE one. A link that comes up begins admission with speed and width recorded; a ready controller
gets the first Identify; each admission command that fits leads to the next; an admission that takes too long refuses the
drive. (From 10_drive_ports.md, Lane groups and root ports; 10_drive_ports.md, Removal and containment; 10_drive_ports.md,
Hot insertion; 10_drive_ports.md, Admission; 10_drive_ports.md, What a member must offer.) -/
def Obligations.DriveGroupsAndPresence : Prop :=
  (∀ (s : State) (g : Nat), g < 16 → rdN s Obj.DRIVE_GROUP_STATE g = 0 →
    ∃ t, exec (.driveGroupEnable g true) s = .next t ∧ rdB t Obj.DRIVE_GROUP_ENABLE g = true ∧ rdN t Obj.DRIVE_GROUP_STATE g = 1) ∧
  (∀ (s : State) (g : Nat), g < 16 → rdN s Obj.DRIVE_GROUP_STATE g = 1 →
    ∃ t, exec (.driveGroupEnable g false) s = .next t ∧ rdN t Obj.DRIVE_GROUP_STATE g = 0 ∧ Tbl.get t.pins (Pin.driveClock g).num = some 0) ∧
  (∀ (s : State) (port : Nat), port < 64 → rdN s Obj.DPORT_STATE port = Dp.empty →
    ∃ t, exec (.presenceDebounced port) s = .next t ∧ rdN t Obj.DPORT_STATE port = Dp.training ∧ (dportOf t port).seated = true ∧ (dportOf t port).debounced = true ∧
      (dportOf t port).released = true) ∧
  (∀ (s : State) (port : Nat), port < 64 → rdN s Obj.DPORT_STATE port ≠ Dp.empty →
    ∃ t, exec (.presenceDebounced port) s = .next t ∧ t.dict = s.dict ∧ (dportOf t port).seated = true ∧ (dportOf t port).debounced = true) ∧
  (∀ (s : State) (port : Nat), port < 64 → rdN s Obj.DPORT_STATE port = Dp.training →
    ∃ t, exec (.presenceLost port) s = .next t ∧ rdN t Obj.DPORT_STATE port = Dp.empty ∧ rdN t Obj.DPORT_LINK_SPEED port = 0 ∧ rdN t Obj.DPORT_LINK_WIDTH port = 0 ∧
      (dportOf t port).linkUp = false ∧ (dportOf t port).debounced = false ∧ (dportOf t port).released = false) ∧
  (∀ (s : State) (port : Nat), port < 64 → rdN s Obj.DPORT_STATE port = Dp.ready → rdN s Obj.DPORT_MODE port = 1 →
    exec (.dataLinkDown port) s = .next (freezePort (linkGone s port) port 1)) ∧
  (∀ (s : State) (port : Nat), port < 64 → rdN s Obj.DPORT_STATE port = Dp.ready → rdN s Obj.DPORT_MODE port = 0 →
    exec (.dataLinkDown port) s = .next (driveGone (linkGone s port) port)) ∧
  (∀ (s : State) (port speed width : Nat), port < 64 → (dportOf s port).released = true → rdN s Obj.DPORT_STATE port = Dp.training →
    ∃ t, exec (.driveLinkUp port speed width) s = .next t ∧ rdN t Obj.DPORT_STATE port = Dp.admitting ∧ rdN t Obj.DRIVE_ADMISSION port = 0 ∧
      rdN t Obj.DPORT_LINK_SPEED port = min speed (rdN s Obj.DPORT_MAX_SPEED port) ∧ rdN t Obj.DPORT_LINK_WIDTH port = width ∧ (dportOf t port).admStep = 1 ∧ (dportOf t port).linkUp = true) ∧
  (∀ (s : State) (port : Nat), port < 64 → rdN s Obj.DPORT_STATE port = Dp.admitting → (dportOf s port).admStep = 1 →
    rdN s Obj.DRIVE_QUEUE_DEPTH port > inflight s port → (dportOf s port).resetting = false →
    ∃ t, exec (.driveControllerReady port) s = .next t ∧ (dportOf t port).admStep = 2 ∧ (dportOf t port).ready = true ∧
      t.out = s.out ++ [.member s.drv.nextCmd port (.identify 0)] ∧ rdN t Obj.DPORT_INFLIGHT port = (rdN s Obj.DPORT_INFLIGHT port + 1) % 2 ^ 64) ∧
  (∀ (s : State) (id : Nat) (c : MCmd) (d : AdmData), outstanding s id = some c → c.purp = .admission → rdN s Obj.DPORT_STATE c.port = Dp.admitting →
    admFits (dportOf s c.port).admStep d = true → exec (.admissionCommandComplete id d) s = .next (admNext (endCmd s id) c.port d)) ∧
  (∀ (s : State) (port : Nat), port < 64 → rdN s Obj.DPORT_STATE port = Dp.admitting →
    ∃ t, exec (.admissionTimeout port) s = .next t ∧ rdN t Obj.DPORT_STATE port = Dp.refused ∧ rdN t Obj.DRIVE_ADMISSION port = Ad.controller)

/-- A command that succeeds has its effect; one that fails with retry allowed and retries left is delayed and retried, else
fails for good; a delayed one is placed again; a timeout freezes a CONTAINED-mode port and otherwise starts an abort; an
abort out of time resets the controller; a recovery out of time, and a controller that reports a fatal status, fault the
member; an uncorrectable error freezes a CONTAINED-mode port; the health poll reads the log page of each READY or REFUSED
drive. (From 10_drive_ports.md, Queues, depths and timeouts; 10_drive_ports.md, Removal and containment;
06_failure_rebuild_reshape.md, Failure of a member.) -/
def Obligations.MemberCommandEndings : Prop :=
  (∀ (s : State) (id : Nat) (c : MCmd) (x : DrvStatus) (data : Bytes), outstanding s id = some c → x.fatal = false → x.status = 0 → x.poisoned = false →
    exec (.driveCommandComplete id x data) s = .next (commandDone s id c x data)) ∧
  (∀ (s : State) (id : Nat) (c : MCmd) (x : DrvStatus) (data : Bytes), outstanding s id = some c → x.fatal = false → x.status ≠ 0 → x.poisoned = false → (∀ n, c.op ≠ .abort n) →
    conflictPool s c x = none → x.retry = true → c.retries < rdN s Obj.DRIVE_RETRY_LIMIT c.port →
    exec (.driveCommandComplete id x data) s = .next (bump (suspend s id { c with retries := c.retries + 1 } .delayed) Obj.DPORT_RETRIES c.port 1)) ∧
  (∀ (s : State) (id : Nat) (c : MCmd) (x : DrvStatus) (data : Bytes), outstanding s id = some c → x.fatal = false → x.status ≠ 0 → x.poisoned = false → (∀ n, c.op ≠ .abort n) →
    conflictPool s c x = none → x.retry = false →
    exec (.driveCommandComplete id x data) s = .next (commandFails s id c x data)) ∧
  (∀ (s : State) (id : Nat) (c : MCmd), Tbl.get s.drv.cmds id = some c → c.st = .delayed → purpPool c.purp = none → exec (.commandRetryDelay id) s = .next (place s id c)) ∧
  (∀ (s : State) (id : Nat) (c : MCmd) (b : Bool), outstanding s id = some c → c.purp ≠ .admission → rdN s Obj.DPORT_MODE c.port = 1 →
    exec (.driveCommandTimeout id b) s = .next (freezePort s c.port 3)) ∧
  (∀ (s : State) (id : Nat) (c : MCmd) (b : Bool), outstanding s id = some c → c.purp ≠ .admission → rdN s Obj.DPORT_MODE c.port ≠ 1 → c.st = .placed → c.recFrom = none →
    let d : MCmd := { c with st := .aborting, begun := b, recFrom := some s.now }
    exec (.driveCommandTimeout id b) s = .next (issue (decodeTimedOut (bump (setMCmd s id d) Obj.DPORT_TIMEOUTS c.port 1) id d) c.port (.abort id) (.recovery id))) ∧
  (∀ (s : State) (id : Nat) (c : MCmd), outstanding s id = some c → c.st = .aborting →
    ∃ t, exec (.abortTimeLimit id) s = .next t ∧ (dportOf t c.port).resetting = true ∧ t.dict = s.dict ∧ t.drv.cmds = s.drv.cmds) ∧
  (∀ (s : State) (id : Nat) (c : MCmd) (p m : Nat), outstanding s id = some c → c.recFrom ≠ none → creating s c = none → (∀ q n, c.purp ≠ .action q n ∧ c.purp ≠ .add q n) → memberOf s c.port = some (p, m) → mState s p m = Ms.active →
   
    exec (.recoveryTimeLimit id) s = .next (memberFault s p m 3)) ∧
  (∀ (s : State) (id : Nat) (c : MCmd) (p m : Nat) (x : DrvStatus) (data : Bytes), outstanding s id = some c → x.fatal = true → creating s c = none → (∀ q n, c.purp ≠ .action q n ∧ c.purp ≠ .add q n) → memberOf s c.port = some (p, m) → mState s p m = Ms.active →
   
    exec (.driveCommandComplete id x data) s = .next (memberFault s p m 2)) ∧
  (∀ (s : State) (port : Nat), port < 64 → rdN s Obj.DPORT_MODE port = 1 → rdN s Obj.DPORT_STATE port = Dp.ready →
    exec (.driveAerUncorrectable port) s = .next (freezePort s port 0x10)) ∧
  (∀ (s : State), (∀ p, p < 64 → rdN s Obj.DPORT_STATE p ≠ Dp.ready ∧ rdN s Obj.DPORT_STATE p ≠ Dp.refused) → exec .driveHealthPoll s = .next s) ∧
  (∀ (s : State) (n : Nat), n < 64 → rdN s Obj.DPORT_STATE n = Dp.ready → (∀ p, p < 64 → p ≠ n → rdN s Obj.DPORT_STATE p ≠ Dp.ready ∧ rdN s Obj.DPORT_STATE p ≠ Dp.refused) →
    exec .driveHealthPoll s = .next (issue s n (.getLog 2) .health))

/-- RETRY on a CONTAINED port with its drive seated resets the drive; without one it is refused; a link that does not return and
a drive that is not the same are refused and leave the port as it is; the same drive carries on; a reset that fails outside
a RETRY faults the member; FAIL reports its result; MEMBER_ACTION FAIL fails an ACTIVE member and is refused for one neither
ACTIVE nor CONTAINED. (From 10_drive_ports.md, Removal and containment; 06_failure_rebuild_reshape.md, Failure of a member.) -/
def Obligations.ContainedPortRelease : Prop :=
  (∀ (s : State) (port : Nat), port < 64 → rdN s Obj.DPORT_STATE port = Dp.contained → (dportOf s port).retrying = false → (dportOf s port).seated = true →
    ∃ t, exec (.portReleaseRetry port) s = .next t ∧ rdN t Obj.PORT_RELEASE_RESULT port = 1 ∧ rdN t Obj.DPORT_STATE port = Dp.contained ∧ (dportOf t port).retrying = true ∧
      (dportOf t port).resetting = (dportOf s port).linkUp ∧ t.drv.cmds = s.drv.cmds) ∧
  (∀ (s : State) (port : Nat), port < 64 → rdN s Obj.DPORT_STATE port = Dp.contained → (dportOf s port).retrying = false → (dportOf s port).seated = false →
    ∃ t, exec (.portReleaseRetry port) s = .next t ∧ rdN t Obj.PORT_RELEASE_RESULT port = 3 ∧ t.drv = s.drv) ∧
  (∀ (s : State) (port : Nat), port < 64 → (dportOf s port).retrying = true → (dportOf s port).linkUp = false →
    ∃ t, exec (.portReleaseLinkTimeout port) s = .next t ∧ rdN t Obj.PORT_RELEASE_RESULT port = 3 ∧ rdN t Obj.DPORT_STATE port = rdN s Obj.DPORT_STATE port ∧ (dportOf t port).retrying = false ∧
      t.drv.cmds = s.drv.cmds) ∧
  (∀ (s : State) (port : Nat) (b : List Nat) (l : List NsInfo), port < 64 → (dportOf s port).resetting = true → (dportOf s port).retrying = true → sameDrive s port l = false →
    ∃ t, exec (.controllerResetDone port true b l) s = .next t ∧ rdN t Obj.PORT_RELEASE_RESULT port = 4 ∧ rdN t Obj.DPORT_STATE port = rdN s Obj.DPORT_STATE port ∧ (dportOf t port).resetting = false ∧
      (dportOf t port).retrying = false ∧ t.drv.cmds = s.drv.cmds) ∧
  (∀ (s : State) (port : Nat) (b : List Nat) (l : List NsInfo), port < 64 → (dportOf s port).resetting = true → (dportOf s port).retrying = true → sameDrive s port l = true →
    exec (.controllerResetDone port true b l) s = .next (retryDone s port)) ∧
  (∀ (s : State) (port p m : Nat) (b : List Nat) (l : List NsInfo), port < 64 → (dportOf s port).resetting = true → (dportOf s port).retrying = false → memberOf s port = some (p, m) →
    exec (.controllerResetDone port false b l) s = .next (memberFault (modDPort s port (fun d => { d with resetting := false })) p m 2)) ∧
  (∀ (s : State) (port : Nat), port < 64 → rdN s Obj.DPORT_STATE port = Dp.contained →
    ∃ t, exec (.portReleaseFail port) s = .next t ∧ rdN t Obj.PORT_RELEASE_RESULT port = 2) ∧
  (∀ (s : State) (p m : Nat), p < 8 → m < 64 → mState s p m = Ms.active →
    exec (.memberActionFail p m) s = .next (wr (failMember s p m 6) Obj.MEMBER_ACTION_RESULT (mInst p m) (Mr.done : Nat))) ∧
  (∀ (s : State) (p m : Nat), p < 8 → m < 64 → mState s p m ≠ Ms.active → mState s p m ≠ Ms.contained →
    ∃ t, exec (.memberActionFail p m) s = .next t ∧ rdN t Obj.MEMBER_ACTION_RESULT (mInst p m) = Mr.refusedState ∧ mState t p m = mState s p m ∧ t.drv = s.drv)

/-- A sideband frame latches the bits shifted before (reset, fault and locate of each port) onto the pins and shifts the present
ones; with every input low every drive is seated. Closing the gate with no takeover and no pool of its own to keep shuts
both fence bits, counts the gated commands in flight and drives FENCE_ACK_N low; opening it clears them. One frame per
command is the model's choice (log entry 95). (From 10_drive_ports.md, Drive sideband serial bus; 10_drive_ports.md, The
drive write gate; 11_pair_and_culvert.md, The interlock.) -/
def Obligations.SidebandAndWriteGate : Prop :=
  (∀ (s : State) (inputs : Nat), ∃ t, exec (.sidebandFrame inputs) s = .next t ∧ t.drv.shift = frameBits s) ∧
  (∀ (s : State), ∃ t, exec (.sidebandFrame 0) s = .next t ∧ t.dict = s.dict ∧ ∀ p, p < 64 → (dportOf t p).seated = true ∧
    Tbl.getD t.pins (Pin.drivePerst p).num 0 = b2n (bitAt s.drv.shift (3 * p)) ∧ Tbl.getD t.pins (Pin.faultLed p).num 0 = b2n (bitAt s.drv.shift (3 * p + 1)) ∧
    Tbl.getD t.pins (Pin.locateLed p).num 0 = b2n (bitAt s.drv.shift (3 * p + 2))) ∧
  (∀ (s : State), rdN s Obj.DRIVE_GATE_STATE 0 = 0 → fenceBit s 0 = false → s.pair.takeover = none → (∀ p, p < 8 → roleOf s p = Role.none ∨ roleOf s p = Role.fenced) →
    ∃ t, exec .driveGateClose s = .next t ∧ rdN t Obj.DRIVE_GATE_STATE 0 = 2 ∧ fenceBit t 1 = true ∧ fenceBit t 2 = true ∧
      rdN t Obj.DRIVE_GATE_INFLIGHT_AT_CLOSE 0 = (s.drv.cmds.filter (fun e => gatedOp e.2.op && occupies e.2)).length ∧ gateShut t = true ∧ Tbl.get t.pins Pin.fenceAck.num = some 0) ∧
  (∀ (s : State), rdN s Obj.PAIR_SIDE 0 = 0 → fenceBit s 0 = true →
    ∃ t, exec .driveGateClose s = .next t ∧ fenceBit t 1 = true ∧ rdN t Obj.DRIVE_GATE_STATE 0 = rdN s Obj.DRIVE_GATE_STATE 0 ∧ t.drv = s.drv ∧ t.pins = s.pins) ∧
  (∀ (s : State), rdN s Obj.DRIVE_GATE_STATE 0 = 2 → s.drv.cmds = [] → s.pair.joined = false →
    ∃ t, exec .driveGateOpen s = .next t ∧ rdN t Obj.DRIVE_GATE_STATE 0 = 0 ∧ fenceBit t 1 = false ∧ fenceBit t 2 = false ∧ gateShut t = false ∧ Tbl.get t.pins Pin.fenceAck.num = some 1)

/-- Clearing and setting Bus Master Enable stops and resumes the masters of a function in D0; D3hot stops them and D0 resumes;
an FLR of a virtual function starts and its completion leaves the function out of reset, not mastering, in D0, with its
MSI-X state fresh; enabling n virtual functions makes them present and disabling sets their number to 0; unmasking a vector,
the function or MSI-X sends what is pending; clearing PME status releases WAKE_N. (From 09_host_endpoint.md, Bus Master
Enable; 09_host_endpoint.md, Function Level Reset; 09_host_endpoint.md, Power states; 09_host_endpoint.md, MSI-X;
09_host_endpoint.md, Functions and identity.) -/
def Obligations.HostFunctions : Prop :=
  (∀ (s : State) (f : Nat), fnLives s f = true → rdB s Obj.FUNC_BUS_MASTER f = true → rdN s Obj.FUNC_DSTATE f ≠ 0 →
    ∃ t, exec (.busMasterDisable f) s = .next t ∧ rdB t Obj.FUNC_BUS_MASTER f = false ∧ t.qps = s.qps ∧ t.sluice = s.sluice) ∧
  (∀ (s : State) (f : Nat), fnLives s f = true → rdB s Obj.FUNC_BUS_MASTER f = true → rdN s Obj.FUNC_DSTATE f = 0 →
    exec (.busMasterDisable f) s = .next (stopMaster (wrB s Obj.FUNC_BUS_MASTER f false) f)) ∧
  (∀ (s : State) (f : Nat), fnLives s f = true → rdB s Obj.FUNC_BUS_MASTER f = false →
    exec (.busMasterEnable f) s = .next (resumeMaster (wrB s Obj.FUNC_BUS_MASTER f true) f)) ∧
  (∀ (s : State) (f : Nat), fnLives s f = true → rdN s Obj.FUNC_DSTATE f = 0 → exec (.d3hotEntry f) s = .next (stopMaster (wr s Obj.FUNC_DSTATE f 3) f)) ∧
  (∀ (s : State) (f : Nat), fnLives s f = true → rdN s Obj.FUNC_DSTATE f = 3 → exec (.d0Return f) s = .next (resumeMaster (leaveIdle (wr s Obj.FUNC_DSTATE f 0)) f)) ∧
  (∀ (s : State) (f : Nat), 2 ≤ f → fnLives s f = true → exec (.flr f) s = .next (startFlr (bump s Obj.FUNC_FLRS f 1) f)) ∧
  (∀ (s : State) (f : Nat), 2 ≤ f → f < 1026 → rdB s Obj.FUNC_IN_RESET f = true → (hostPort s (fnPort f)).ready = true →
    ∃ t, exec (.flrComplete f) s = .next t ∧ rdB t Obj.FUNC_IN_RESET f = false ∧ rdB t Obj.FUNC_BUS_MASTER f = false ∧ rdN t Obj.FUNC_DSTATE f = 0 ∧ Tbl.get t.host.fns f = none) ∧
  (∀ (s : State) (f : Nat), f < 1026 → rdB s Obj.FUNC_IN_RESET f = false → exec (.flrComplete f) s = .next s) ∧
  (∀ (s : State) (port n : Nat), port < 2 → fnLives s port = true → (hostPort s port).vfEnable = false → n ≤ 512 →
    ∃ t, exec (.vfEnable port true n) s = .next t ∧ rdN t Obj.PORT_NUM_VFS port = n ∧ (hostPort t port).vfEnable = true ∧ ∀ i, i < n → rdB t Obj.FUNC_PRESENT (vfIndex port (i + 1)) = true) ∧
  (∀ (s : State) (port n : Nat), port < 2 → fnLives s port = true → (hostPort s port).vfEnable = true →
    ∃ t, exec (.vfEnable port false n) s = .next t ∧ rdN t Obj.PORT_NUM_VFS port = 0 ∧ (hostPort t port).vfEnable = false) ∧
  (∀ (s : State) (f v : Nat), fnLives s f = true → exec (.msixVectorUnmask f (.vector v)) s = .next (flushMsix (modFn s f (fun x => { x with unmasked := addOnce x.unmasked v })) f)) ∧
  (∀ (s : State) (f : Nat), fnLives s f = true → exec (.msixVectorUnmask f .function) s = .next (flushMsix (modFn s f (fun x => { x with fnMask := false })) f)) ∧
  (∀ (s : State) (f : Nat), fnLives s f = true → exec (.msixVectorUnmask f .enable) s = .next (flushMsix (modFn s f (fun x => { x with msixEn := true })) f)) ∧
  (∀ (s : State) (f : Nat), f < 2 → (fnOf s f).pmeStatus = true →
    ∃ t, exec (.pmeStatusClear f) s = .next t ∧ (fnOf t f).pmeStatus = false ∧ Tbl.get t.pins Pin.wake.num = some 1 ∧ t.dict = s.dict)

/-- PERST_N, a hot reset and a loss of link take the link down with no speed, width or flit mode; releasing PERST_N trains the
link to the lesser of the speeds, ready only where the ports answer; module idle is entered and counted under its conditions
and not otherwise, and MODULE_IDLE_EXIT leaves it. (From 09_host_endpoint.md, PERST_N and loss of the link;
09_host_endpoint.md, Power states; 09_host_endpoint.md, Link and protocol features.) -/
def Obligations.HostPortsAndModuleIdle : Prop :=
  (∀ (s : State) (port : Nat), port < 2 → (hostPort s port).perst = false →
    ∃ t, exec (.perstAssert port) s = .next t ∧ rdB t Obj.PORT_LINK_UP port = false ∧ rdN t Obj.PORT_LINK_SPEED port = 0 ∧ rdN t Obj.PORT_LINK_WIDTH port = 0 ∧ rdB t Obj.PORT_FLIT_MODE port = false ∧
      (hostPort t port).perst = true ∧ (hostPort t port).ready = false) ∧
  (∀ (s : State) (port : Nat), port < 2 → rdB s Obj.PORT_LINK_UP port = true →
    ∃ t, exec (.hotReset port) s = .next t ∧ rdB t Obj.PORT_LINK_UP port = false ∧ rdN t Obj.PORT_LINK_SPEED port = 0 ∧ rdN t Obj.PORT_LINK_WIDTH port = 0 ∧ rdB t Obj.PORT_FLIT_MODE port = false ∧ (hostPort t port).ready = false) ∧
  (∀ (s : State) (port : Nat), port < 2 → rdB s Obj.PORT_LINK_UP port = true →
    exec (.hostLinkDown port) s = .next (bump (linkDown (resetPort s port) port) Obj.PORT_LINK_DOWNS port 1)) ∧
  (∀ (s : State) (port speed width : Nat), port < 2 → 1 ≤ speed → speed ≤ 6 → (hostPort s port).perst = true → portsAnswer s = false →
    ∃ t, exec (.perstRelease port speed width) s = .next t ∧ rdB t Obj.PORT_LINK_UP port = true ∧ rdN t Obj.PORT_LINK_SPEED port = min speed (rdN s Obj.PORT_MAX_SPEED port) ∧
      rdN t Obj.PORT_LINK_WIDTH port = width ∧ (hostPort t port).perst = false) ∧
  (∀ (s : State) (port speed width : Nat), port < 2 → 1 ≤ speed → speed ≤ 6 → (hostPort s port).perst = true → portsAnswer s = true →
    exec (.perstRelease port speed width) s = .next (readyPort (trainLink (modHostPort (leaveIdle s) port (fun x => { x with perst := false })) port speed width) port)) ∧
  (∀ (s : State), rdB s Obj.MODULE_IDLE 0 = false → idleConditions s = true → (∀ p, p < 8 → poolServes s p = false) →
    ∃ t, exec .moduleIdleEntry s = .next t ∧ rdB t Obj.MODULE_IDLE 0 = true ∧ rdN t Obj.MODULE_IDLE_ENTRIES 0 = (rdN s Obj.MODULE_IDLE_ENTRIES 0 + 1) % 2 ^ 64 ∧ t.pools = s.pools) ∧
  (∀ (s : State), rdB s Obj.MODULE_IDLE 0 = false → idleConditions s = false → exec .moduleIdleEntry s = .next s) ∧
  (∀ (s : State), rdB s Obj.MODULE_IDLE 0 = true → ∃ t, exec .moduleIdleExit s = .next t ∧ rdB t Obj.MODULE_IDLE 0 = false) ∧
  (∀ (s : State), rdB s Obj.MODULE_IDLE 0 = false → exec .moduleIdleExit s = .next s)

/-- Mirror data that checks and finds room is kept and acknowledged, else refused; an acknowledgement marks the slot mirrored; a
release drops the copies it names; atomic marks, and records for which there is room, are kept; SYNC drops all of a pool; a
record acknowledged marks the slots of its stripe; SETTLED offers and releases slots; CONFIG parts are kept until all
sixteen are there and then taken. (From 11_pair_and_culvert.md, Mirroring; 11_pair_and_culvert.md, Catch-up;
11_pair_and_culvert.md, Returning controller.) -/
def Obligations.MirrorMessages : Prop :=
  (∀ (s : State) (id p n flags ref : Nat) (md data : Bytes), p < 8 → n < ownSlots → servesPool s p = false → fieldAt md 16 8 = crc64 data → data.length = 4096 → mirrorRoom s n = true →
    exec (.mirrorData id p n flags ref md data) s = .next (sendMsg (keepMirror s n (mirrorOf p ref (parseMeta (padTo 64 md)) data)) (.mirrorAck [id] []))) ∧
  (∀ (s : State) (id p n flags ref : Nat) (md data : Bytes), p < 8 → n < ownSlots → servesPool s p = false → fieldAt md 16 8 ≠ crc64 data ∨ mirrorRoom s n = false →
    exec (.mirrorData id p n flags ref md data) s = .next (sendMsg s (.mirrorAck [] [id]))) ∧
  (∀ (s : State) (n : Nat) (x : Slot), n < ownSlots → slotOf (keepMirror s n x) (mirrorSlot n) = some x) ∧
  (∀ (s : State) (id n : Nat) (x : Slot), Tbl.get s.pair.mirWait id = some n → slotOf s n = some x → (∀ p, p < 8 → (poolOf s p).catchUp = false ∧ s.pair.settled.contains p = false) →
    ∃ t, exec (.mirrorAck [id] []) s = .next t ∧ slotOf t n = some { x with mirrored := true } ∧ Tbl.get t.pair.mirWait id = none) ∧
  (∀ (s : State) (l : List Nat), ∃ t, exec (.mirrorRelease l) s = .next t ∧ t.prot = s.prot.filter (fun e => !(e.2.st == .mirror && l.contains (e.1 - ownSlots)))) ∧
  (∀ (s : State) (p vol first n : Nat), p < 8 → servesPool s p = false →
    ∃ t, exec (.atomicMark p vol first n) s = .next t ∧ t.pair.marks = s.pair.marks ++ [{ pool := p, vol := vol, first := first, count := n }] ∧ t.dict = s.dict ∧ t.prot = s.prot) ∧
  (∀ (s : State) (p : Nat), p < 8 → ∃ t, exec (.sync p true) s = .next t ∧ t.prot = s.prot.filter (fun e => !(e.2.st == .mirror && e.2.pool == p)) ∧
    t.pair.marks = s.pair.marks.filter (fun m => m.pool != p) ∧ t.pair.recs = s.pair.recs.filter (fun r => r.pool != p)) ∧
  (∀ (s : State) (p : Nat), exec (.sync p false) s = .next s) ∧
  (∀ (s : State) (id p : Nat) (l : List RecItem), p < 8 → recordRoom s l.length = true → exec (.record id p l) s = .next (sendMsg (forEach l (fun r t => keepRecord t p r) s) (.recordAck id))) ∧
  (∀ (s : State) (id p : Nat) (l : List RecItem), recordRoom s l.length = false → exec (.record id p l) s = .next s) ∧
  (∀ (s : State) (id st slot first height cls flags a b n : Nat) (r : LogRec) (x : Slot), s.pair.recWait = [(id, r)] → r.body = .stripe st slot first height cls flags a b → id < 2 ^ 32 →
    slotOf s n = some x → n < ownSlots → x.pool = r.pool → x.stripe = st → (∀ q, q < 8 → (poolOf s q).catchUp = false) →
    ∃ t, exec (.recordAck id) s = .next t ∧ slotOf t n = some { x with recAcked := true } ∧ t.pair.recWait = []) ∧
  (∀ (s : State) (p : Nat), p < 8 → servesPool s p = false →
    exec (.settled p) s = .next (releaseReturned (offerSlots (modPair s (fun q => { q with settled := addOnce q.settled p })) p) p)) ∧
  (∀ (s : State) (p gen off st : Nat) (data : Bytes), p < 8 → Tbl.get s.pair.config p = none →
    ∃ t, exec (.config p gen off data st) s = .next t ∧ Tbl.get t.pair.config p = some (gen, [(off, data)]) ∧ t.dict = s.dict) ∧
  (∀ (s : State) (p gen off st : Nat) (data : Bytes) (parts : Tbl Bytes), p < 8 → Tbl.get s.pair.config p = some (gen, parts) → (Tbl.set parts off data).length = 16 →
    exec (.config p gen off data st) s = .next (takeConfig (modPair s (fun q => { q with config := Tbl.set q.config p (gen, Tbl.set parts off data) })) p st ((Tbl.set parts off data).flatMap Prod.snd)))

/-- A heartbeat is sent each interval by a paired side; one received records serial, level, epoch, reserve and the larger fault
counts; a side that may join joins and reports its state; a dump announced by the partner takes it as gone; PAIR_ALIVE lost
and a heartbeat timeout classify the loss, and PAIR_ALIVE returned is noted; faults are cleared by command. (From
11_pair_and_culvert.md, Roles; 11_pair_and_culvert.md, Detecting a failed partner; 11_pair_and_culvert.md, Ownership and
takeover.) -/
def Obligations.HeartbeatAndJoining : Prop :=
  (∀ (s : State), s.pair.enabled = true → exec .heartbeatInterval s = .next (sendMsg s (.heartbeat serialNumber (rdN s Obj.PAIR_SIDE 0) (rdN s Obj.FW_COMPAT_LEVEL 0) (rdN s Obj.EPOCH_PAIR_CURRENT 0) s.ev.seq
    (rdN s Obj.MIRROR_RESERVE_IN_EFFECT 0) (rdN s Obj.PAIR_FAULTS_A 0) (rdN s Obj.PAIR_FAULTS_B 0)))) ∧
  (∀ (s : State), s.pair.enabled = false → exec .heartbeatInterval s = .next s) ∧
  (∀ (s : State) (serial : Bytes) (level epoch sq reserve fa fb : Nat), s.pair.enabled = true → culvertUp s = true → s.pair.takeover = none → s.pair.joined = false → rdN s Obj.EPOCH_PAIR_CURRENT 0 ≤ epoch →
    ∃ t, exec (.heartbeat serial (otherSide s) level epoch sq reserve fa fb) s = .next t ∧ t.pair.heard = true ∧ t.pair.peerSide = otherSide s ∧ t.pair.peerEpoch = epoch ∧
      rdBytes t Obj.PAIR_PEER_SERIAL 0 = serial ∧ rdN t Obj.PAIR_PEER_COMPAT_LEVEL 0 = level ∧ rdN t Obj.PARTNER_RESERVE_IN_EFFECT 0 = reserve ∧
      rdN t Obj.PAIR_FAULTS_A 0 = max (rdN s Obj.PAIR_FAULTS_A 0) fa ∧ rdN t Obj.PAIR_FAULTS_B 0 = max (rdN s Obj.PAIR_FAULTS_B 0) fb) ∧
  (∀ (s : State), mayJoin s = true → s.pair.joined = false → s.pair.takeover = none → (∀ p, p < 8 → roleOf s p = Role.none) → fenceBit s 0 = false → s.pair.toSettle = [] →
    ∃ t, exec .pairJoin s = .next t ∧ t.pair.joined = true ∧ rdN t Obj.PAIR_STATE 0 = pairState t) ∧
  (∀ (s : State), mayJoin s = false → exec .pairJoin s = .next s) ∧
  (∀ (s : State), s.pair.enabled = true → exec .dumping s = .next (partnerGone (modPair s (fun x => { x with dumping := true })) 3)) ∧
  (∀ (s : State), ∃ t, exec .pairFaultClear s = .next t ∧ rdN t Obj.PAIR_FAULTS_A 0 = 0 ∧ rdN t Obj.PAIR_FAULTS_B 0 = 0 ∧ t.pair.faults = []) ∧
  (∀ (s : State), rdB s Obj.PAIR_ALIVE_PRESENT 0 = true → exec .pairAliveTimeout s = .next (classify (wrB s Obj.PAIR_ALIVE_PRESENT 0 false))) ∧
  (∀ (s : State), s.pair.heard = true → exec .pairHeartbeatTimeout s = .next (classify (modPair s (fun x => { x with heard := false })))) ∧
  (∀ (s : State), rdB s Obj.PAIR_ALIVE_PRESENT 0 = false → ∃ t, exec .pairAliveReturn s = .next t ∧ rdB t Obj.PAIR_ALIVE_PRESENT 0 = true ∧ ∀ k, t.pair.takeover = some k → k.silent = false)

/-- A takeover on command records its cause and step, raises its own fence and drives FENCE_REQ_N low; the fence
acknowledgement, or a silent partner at the timeout, leads to the reservations, and a partner that speaks holds it with an
alarm; a retry of the reservations after 60 s settles ownership and one before it with none open changes nothing; adopted
pools are served when nothing of them is busy; a handover starts for a pool it owns, joined and ONLINE, is refused
otherwise, and ends with the role PARTNER. (From 11_pair_and_culvert.md, Takeover; 11_pair_and_culvert.md, Preemption and
majority; 11_pair_and_culvert.md, Handover; 11_pair_and_culvert.md, The interlock.) -/
def Obligations.TakeoverAndHandover : Prop :=
  (∀ (s : State), s.pair.takeover = none → s.pair.enabled = true → poolsIn s Role.partner ≠ [] → fenceBit s 3 = false →
    ∃ t k, exec .pairTakeover s = .next t ∧ t.pair.takeover = some k ∧ k.step = 2 ∧ k.cause = 5 ∧ k.pools = poolsIn s Role.partner ∧ rdN t Obj.PAIR_TAKEOVER_CAUSE 0 = 5 ∧
      rdN t Obj.PAIR_TAKEOVER_STEP 0 = 2 ∧ t.pair.joined = false ∧ fenceBit t 0 = true ∧ Tbl.get t.pins Pin.fenceReq.num = some 0) ∧
  (∀ (s : State), s.pair.takeover ≠ none → exec .pairTakeover s = .next s) ∧
  (∀ (s : State) (k : Takeover), s.pair.takeover = some k → k.step = 2 → exec .fenceAckReceived s = .next (tkReserve (setFence s 3 true))) ∧
  (∀ (s : State), s.pair.takeover = none → exec .fenceAckReceived s = .next (setFence s 3 true)) ∧
  (∀ (s : State) (k : Takeover), s.pair.takeover = some k → k.step = 2 → k.silent = true → exec .fenceWaitTimeout s = .next (tkReserve s)) ∧
  (∀ (s : State) (k : Takeover), s.pair.takeover = some k → k.step = 2 → k.silent = false → k.alarmed = false →
    ∃ t k', exec .fenceWaitTimeout s = .next t ∧ t.pair.takeover = some k' ∧ k'.alarmed = true ∧ k'.step = 2 ∧ t.pins = s.pins ∧ t.drv = s.drv) ∧
  (∀ (s : State) (k : Takeover), s.pair.takeover = some k → k.step = 3 → 60000000 ≤ s.now - k.started → exec .reservationRetry s = .next (settleOwnership s true)) ∧
  (∀ (s : State) (k : Takeover), s.pair.takeover = some k → k.step = 3 → s.now - k.started < 60000000 → k.open_ = [] → exec .reservationRetry s = .next s) ∧
  (∀ (s : State) (id p m : Nat) (c : MCmd) (x : DrvStatus) (data : Bytes) (heads media : List MediaItem), outstanding s id = some c → c.purp = .takeover p m →
    exec (.takeoverStepDone id x data heads media) s = .next (reservationEnded (endCmd s id) p m c.op x data)) ∧
  (∀ (s : State) (id : Nat) (k : Takeover) (x : DrvStatus) (data : Bytes) (heads media : List MediaItem), outstanding s id = none → s.pair.takeover = some k → k.step = 6 →
    (∀ p ∈ k.pools, takeoverBusy s p = false) →
    exec (.takeoverStepDone id x data heads media) s = .next (hvAdvance (tkStep (forEach k.pools (fun p t => tkAdopt t p) s) 7) (heads ++ media))) ∧
  (∀ (s : State) (id : Nat) (k : Takeover) (x : DrvStatus) (data : Bytes) (heads media : List MediaItem), outstanding s id = none → s.pair.takeover = some k → k.step = 9 →
    (∀ p ∈ k.pools, takeoverBusy s p = false) →
    exec (.takeoverStepDone id x data heads media) s = .next (hvAdvance (endTakeover (wr (forEach k.pools (fun p u => noteHolds (tkServe u p)) s) Obj.PAIR_LAST_TAKEOVER_MS 0 (((s.now - k.started) / 1000 : Nat) : Int))) (heads ++ media))) ∧
  (∀ (s : State) (p : Nat), p < 8 → roleOf s p = Role.owner → s.pair.joined = true → poolState s p = 1 → hvStep s p = 0 →
    ∃ t, exec (.pairPoolHandover p) s = .next t ∧ hvStep t p = 1 ∧ rdN t Obj.PAIR_HANDOVER_RESULT p = 1 ∧ roleOf t p = Role.owner) ∧
  (∀ (s : State) (p : Nat), p < 8 → roleOf s p ≠ Role.owner →
    ∃ t, exec (.pairPoolHandover p) s = .next t ∧ rdN t Obj.PAIR_HANDOVER_RESULT p = 3 ∧ t.pair = s.pair ∧ roleOf t p = roleOf s p) ∧
  (∀ (s : State) (p ckpt : Nat), p < 8 → roleOf s p = Role.partner → s.pair.joined = true → hvStep s p = 0 → s.pair.takeover = none →
    exec (.handoverRequest p ckpt) s = .next (reserveOn (wr (setHv s p 11) Obj.MAP_CHECKPOINT_NUMBER p ckpt) p (slotsIn s p Ms.active))) ∧
  (∀ (s : State) (p ckpt : Nat), p < 8 → hvStep s p = 5 → ckpt ≠ 0 →
    exec (.handoverDone p ckpt) s = .next (notePair (wr (haltPool (endHv s p 2) p) Obj.PAIR_POOL_ROLE p (Role.partner : Nat))))

/-- A DIGEST over a sector the partner holds is answered with its digest and over one it does not hold with none; a reply that
agrees is counted and ends the comparison; one that differs is counted as a mismatch and kept open; a reply that holds none
ends it without a count. That DIGEST carries first sector and height is the model's choice (log entry 96). (From
11_pair_and_culvert.md, Compared destage.) -/
def Obligations.ComparedDestage : Prop :=
  (∀ (s : State) (p id first height n v : Nat), p < 8 → slotOf s (mirrorSlot n) = none → exec (.digest p id first height [n] v) s = .next (sendMsg s (.digestReply p id none))) ∧
  (∀ (s : State) (p id first height n v : Nat) (x : Slot), p < 8 → slotOf s (mirrorSlot n) = some x → Tbl.get s.pair.digests (digestKey p id) = none →
    ∃ a, exec (.digest p id first height [n] v) s = .next (sendMsg a (.digestReply p id (some (digestOf id first height [(x.data, x.md.bytes)])))) ∧ a.dict = s.dict ∧ a.prot = s.prot) ∧
  (∀ (s : State) (p id w : Nat) (d : DigestRec), p < 8 → Tbl.get s.pair.digests (digestKey p id) = some d → d.done = false → d.partner = none → servesPool s p = true → w = d.owner →
    ∃ t d', exec (.digestReply p id (some w)) s = .next t ∧ rdN t Obj.PAIR_DIGESTS_COMPARED p = (rdN s Obj.PAIR_DIGESTS_COMPARED p + 1) % 2 ^ 64 ∧
      rdN t Obj.PAIR_DIGEST_MISMATCHES p = rdN s Obj.PAIR_DIGEST_MISMATCHES p ∧ Tbl.get t.pair.digests (digestKey p id) = some d' ∧ d'.done = true) ∧
  (∀ (s : State) (p id w : Nat) (d : DigestRec), p < 8 → Tbl.get s.pair.digests (digestKey p id) = some d → d.done = false → d.partner = none → servesPool s p = true → w ≠ d.owner →
    ∃ t d', exec (.digestReply p id (some w)) s = .next t ∧ rdN t Obj.PAIR_DIGESTS_COMPARED p = (rdN s Obj.PAIR_DIGESTS_COMPARED p + 1) % 2 ^ 64 ∧
      rdN t Obj.PAIR_DIGEST_MISMATCHES p = (rdN s Obj.PAIR_DIGEST_MISMATCHES p + 1) % 2 ^ 64 ∧ Tbl.get t.pair.digests (digestKey p id) = some d' ∧ d'.done = false ∧ d'.partner = some w) ∧
  (∀ (s : State) (p id : Nat) (d : DigestRec), p < 8 → Tbl.get s.pair.digests (digestKey p id) = some d → d.done = false → d.partner = none → servesPool s p = true →
    ∃ t d', exec (.digestReply p id none) s = .next t ∧ t.dict = s.dict ∧ Tbl.get t.pair.digests (digestKey p id) = some d' ∧ d'.done = true)

/-- A flit that fails its CRC is counted and asked for again once; one in sequence is taken and its payload kept until its
message is whole; one out of sequence is not taken; a replay timeout sends all held flits again; a link that goes down is as
new and nobody has been heard; the first trained bundle brings the link up, a further one leaves it running; a failed bundle
trains again and is counted. (From 11_pair_and_culvert.md, Flits; 11_pair_and_culvert.md, Sequence, acknowledgement and
replay; 11_pair_and_culvert.md, Link down; 11_pair_and_culvert.md, Bundles and rate.) -/
def Obligations.CulvertLink : Prop :=
  (∀ (s : State) (b : Bytes), flitOk b = false → s.pair.link.naked ≠ some s.pair.link.expect →
    ∃ t, exec (.culvertFlitReceived b) s = .next t ∧ rdN t Obj.CULVERT_CRC_ERRORS 0 = (rdN s Obj.CULVERT_CRC_ERRORS 0 + 1) % 2 ^ 64 ∧ t.pair.link.expect = s.pair.link.expect ∧
      t.pair.link.naked = some s.pair.link.expect ∧ t.out = s.out ++ [.ack ((s.pair.link.expect + 4095) % 4096) true]) ∧
  (∀ (s : State) (b : Bytes), flitOk b = true → (flitHdr b).kind = 1 → (flitHdr b).ackValid = false → (flitHdr b).nak = false → s.pair.link.queue = [] → (flitHdr b).seq = s.pair.link.expect →
    (flitHdr b).index + 1 ≠ (flitHdr b).count →
    ∃ t, exec (.culvertFlitReceived b) s = .next t ∧ t.pair.link.expect = (s.pair.link.expect + 1) % 4096 ∧ t.pair.link.naked = none ∧ t.pair.link.heard = s.now ∧ t.dict = s.dict ∧
      Tbl.get t.pair.link.partials (flitHdr b).chan = some (Tbl.getD s.pair.link.partials (flitHdr b).chan [] ++ slice b 16 (flitHdr b).bytes)) ∧
  (∀ (s : State) (b : Bytes), flitOk b = true → (flitHdr b).kind = 1 → (flitHdr b).ackValid = false → (flitHdr b).nak = false → s.pair.link.queue = [] → (flitHdr b).seq ≠ s.pair.link.expect →
    ∃ t, exec (.culvertFlitReceived b) s = .next t ∧ t.pair.link.expect = s.pair.link.expect ∧ t.pair.link.partials = s.pair.link.partials) ∧
  (∀ (s : State), ∃ t, exec .culvertReplayTimeout s = .next t ∧ t.out = s.out ++ s.pair.link.held.map (fun f => Out.flit f) ∧ t.pair.link.held = s.pair.link.held ∧ t.pair.link.acked = s.now) ∧
  (∀ (s : State), culvertUp s = true → exec .culvertDown s = .next (classify (dropLink s))) ∧
  (∀ (s : State), rdN (dropLink s) Obj.CULVERT_STATE 0 = 0 ∧ (dropLink s).pair.link = Link.fresh s.now ∧ (dropLink s).pair.heard = false) ∧
  (∀ (s : State) (b : Nat), b < 3 → rdN s Obj.CULVERT_STATE 0 = 0 →
    ∃ t, exec (.bundleTrained b) s = .next t ∧ rdN t Obj.BUNDLE_STATE b = 2 ∧ rdN t Obj.CULVERT_STATE 0 = 2 ∧ t.pair.link = Link.fresh s.now) ∧
  (∀ (s : State) (b : Nat), b < 3 → rdN s Obj.CULVERT_STATE 0 ≠ 0 →
    ∃ t, exec (.bundleTrained b) s = .next t ∧ rdN t Obj.BUNDLE_STATE b = 2 ∧ rdN t Obj.CULVERT_STATE 0 = 2 ∧ t.pair.link = s.pair.link) ∧
  (∀ (s : State) (b : Nat), b < 3 → rdN s Obj.BUNDLE_STATE b = 2 →
    ∃ t, exec (.bundleFailed b) s = .next t ∧ rdN t Obj.BUNDLE_STATE b = 1 ∧ rdN t Obj.BUNDLE_RETRAINS b = (rdN s Obj.BUNDLE_RETRAINS b + 1) % 2 ^ 64 ∧ t.pair = s.pair)

/-- A NOP in sequence is answered OK and moves the sequence; one that repeats the last gets the cached answer; any other gets
SEQUENCE; out of band a WRITE without OOB_WRITE_ENABLED gets OOB_DISABLED and without a session NO_SESSION; a health object
reads without a session; a write of a read-only object gets ACCESS at its entry; a write that passes is applied and
answered; paced writes go on in order; a multi-part value out of time is dropped; MGMT_OOB_EN sets the flag. (From
02_object_dictionary.md, The dictionary message; 02_object_dictionary.md, Session sequences; 02_object_dictionary.md, The
out-of-band rule; 02_object_dictionary.md, Multi-part writes; 02_object_dictionary.md, How requests execute.) -/
def Obligations.DictionaryRequests : Prop :=
  (∀ (s : State) (n : Nat) (x : Session) (req : Bytes), n < 1040 → sessOf s n = some x → x.fresh = false → s.dict.paced = [] → (reqHead req).op = Dq.nop → headCode req 65536 = Rs.ok → (reqHead req).seq = rdN s Obj.NEXT_REQ_SEQ n →
    ∃ t b, exec (.dictionaryNop (some n) req) s = .next t ∧ t.out = s.out ++ [.dict (some n) b] ∧ fieldAt b 1 1 = 0x83 ∧ fieldAt b 2 2 = (reqHead req).seq ∧ fieldAt b 6 1 = Rs.ok ∧
      rdN t Obj.NEXT_REQ_SEQ n = ((reqHead req).seq + 1) % 65536 ∧ rdN t Obj.LAST_RSP_SEQ n = x.rsp) ∧
  (∀ (s : State) (n : Nat) (x : Session) (req r : Bytes), n < 1040 → sessOf s n = some x → x.fresh = false → s.dict.paced = [] → (reqHead req).op = Dq.nop → (reqHead req).seq ≠ rdN s Obj.NEXT_REQ_SEQ n →
    (reqHead req).seq = (rdN s Obj.NEXT_REQ_SEQ n + 65535) % 65536 → x.cached = some r →
    ∃ t, exec (.dictionaryNop (some n) req) s = .next t ∧ t.out = s.out ++ [.dict (some n) r] ∧ t.dict.regs = s.dict.regs ∧ t.dict.blobs = s.dict.blobs) ∧
  (∀ (s : State) (n : Nat) (x : Session) (req : Bytes), n < 1040 → sessOf s n = some x → x.fresh = false → s.dict.paced = [] → (reqHead req).op = Dq.nop → (reqHead req).seq ≠ rdN s Obj.NEXT_REQ_SEQ n →
    (reqHead req).seq ≠ (rdN s Obj.NEXT_REQ_SEQ n + 65535) % 65536 →
    ∃ t b, exec (.dictionaryNop (some n) req) s = .next t ∧ t.out = s.out ++ [.dict (some n) b] ∧ fieldAt b 6 1 = Rs.sequence ∧ t.dict.regs = s.dict.regs) ∧
  (∀ (s : State) (n : Nat) (x : Session) (req : Bytes), 2 ≤ n → n < 14 → sessOf s n = some x → x.fresh = false → s.dict.paced = [] → (reqHead req).op = Dq.write → headCode req 1024 = Rs.ok →
    (reqHead req).seq = rdN s Obj.NEXT_REQ_SEQ n → rdB s Obj.OOB_WRITE_ENABLED 0 = false →
    ∃ t b, exec (.dictionaryWrite (some n) req) s = .next t ∧ t.out = s.out ++ [.dict (some n) b] ∧ fieldAt b 6 1 = Rs.oobDisabled ∧ rdN t Obj.NEXT_REQ_SEQ n = ((reqHead req).seq + 1) % 65536 ∧
      t.dict.blobs = s.dict.blobs ∧ t.ep = s.ep) ∧
  (∀ (s : State) (req : Bytes), s.dict.paced = [] → (reqHead req).op = Dq.write → headCode req 1024 = Rs.ok →
    ∃ t b, exec (.dictionaryWrite none req) s = .next t ∧ t.out = s.out ++ [.dict none b] ∧ fieldAt b 6 1 = Rs.noSession ∧ t.dict = s.dict) ∧
  (∀ (s : State) (req : Bytes) (e : ReqEntry) (o : ObjDesc), s.dict.paced = [] → (reqHead req).op = Dq.read → headCode req 1024 = Rs.ok → entriesOf req = [e] → targetOf e = some (.obj o) → o.health = true → o.acc ≠ .wo → e.staged = false →
    isFetch o = false → readCode s none e (.obj o) = Rs.ok → e.len ≤ 1000 →
    ∃ t b, exec (.dictionaryRead none req) s = .next t ∧ t.out = s.out ++ [.dict none b] ∧ fieldAt b 6 1 = Rs.ok ∧ b.drop 32 = ((readObj s o e.inst false).drop e.off).take e.len ∧ t.dict = s.dict) ∧
  (∀ (s : State) (n : Nat) (x : Session) (req : Bytes) (e : ReqEntry) (o : ObjDesc), n < 2 → sessOf s n = some x → x.fresh = false → s.dict.paced = [] → (reqHead req).op = Dq.write → headCode req 65536 = Rs.ok →
    (reqHead req).seq = rdN s Obj.NEXT_REQ_SEQ n → entriesOf req = [e] → targetOf e = some (.obj o) → o.acc = .ro →
    ∃ t b, exec (.dictionaryWrite (some n) req) s = .next t ∧ t.out = s.out ++ [.dict (some n) b] ∧ fieldAt b 6 1 = Rs.access ∧ fieldAt b 7 1 = 0 ∧ t.dict.blobs = s.dict.blobs ∧ t.ep = s.ep) ∧
  (∀ (s : State) (n : Nat) (x : Session) (req : Bytes), n < 2 → sessOf s n = some x → x.fresh = false → s.dict.paced = [] → (reqHead req).op = Dq.write → (reqHead req).seq = rdN s Obj.NEXT_REQ_SEQ n →
    changesPersistent req = false →
    (let a := modSess (wr (modSess s n (fun y => { y with last := s.now })) Obj.NEXT_REQ_SEQ n (((reqHead req).seq + 1) % 65536 : Nat)) n (fun y => { y with fresh := false })
     (checkReq a (some n) (fun _ => true) req).1 = Rs.ok →
     let r := respond (applyAll a (some n) (entriesOf req)) (some n) Dq.write (reqHead req).seq Rs.ok 0xFF [] true
     exec (.dictionaryWrite (some n) req) s = .next (emit r.2 (.dict (some n) r.1)))) ∧
  (∀ (s : State), s.dict.paced = [] → exec .persistentWritePaced s = .next s) ∧
  (∀ (s : State) (x : Paced) (l : List Paced), s.dict.paced = x :: l →
    let t := runReq { s with dict := { s.dict with paced := l, pace := { level := 0, last := s.now } } } x
    exec .persistentWritePaced s = .next (drainPaced t.dict.paced.length t)) ∧
  (∀ (s : State) (n key : Nat) (x : Session), sessOf s n = some x →
    ∃ t, exec (.multipartTimeout n key) s = .next t ∧ sessOf t n = some { x with parts := x.parts.filter (fun y => y.key != key) } ∧ t.dict.regs = s.dict.regs ∧ t.dict.blobs = s.dict.blobs) ∧
  (∀ (s : State) (b : Bool), ∃ t, exec (.mgmtOobEnChange b) s = .next t ∧ rdB t Obj.OOB_WRITE_ENABLED 0 = b ∧ t.out = s.out)

/-- DICT_READ and DICT_WRITE read their request from host memory and submit it; FACTORY_DEFAULTS with its key is taken where
every pool is unconfigured or OFFLINE; a register write of an object is applied where its checks pass and changes nothing
where not; an access to a function that does not answer is unsupported; one that straddles is dropped and counted; one in a
doorbell page acts there; a read answers the bytes of the window; a configuration bit is written unless the function is in
reset. (From 02_object_dictionary.md, In-band; 02_object_dictionary.md, Persistence and defaults; 09_host_endpoint.md, MMIO
regions; 09_host_endpoint.md, Base address registers; 08_commands.md, Dictionary commands.) -/
def Obligations.DictionaryCommandsAndRegisterWrites : Prop :=
  (∀ (s : State) (q tag : Nat) (req : Bytes) (c : Cmd) (d : Desc), startable s q tag 0x40 = some c → c.descs[0]? = some d →
    exec (.dictRead q tag req) s = .next (submitReq (modCmd (emit s (.hostRead (qpFn s q) d.addr d.len)) q tag (fun x => { x with phase := .running })) (.cmd q tag) req)) ∧
  (∀ (s : State) (q tag : Nat) (req : Bytes) (c : Cmd) (d : Desc), startable s q tag 0x41 = some c → c.descs[0]? = some d →
    exec (.dictWrite q tag req) s = .next (submitReq (modCmd (emit s (.hostRead (qpFn s q) d.addr d.len)) q tag (fun x => { x with phase := .running })) (.cmd q tag) req)) ∧
  (∀ (s : State), (∀ p, p < 8 → poolState s p = Ps.notConfigured ∨ poolState s p = Ps.offline) →
    ∃ t, exec (.factoryDefaults 0x9640DEF0) s = .next t ∧ t.dict.factory = true) ∧
  (∀ (s : State) (v p : Nat), p < 8 → poolState s p ≠ Ps.notConfigured → poolState s p ≠ Ps.offline → exec (.factoryDefaults v) s = .next s) ∧
  (∀ (s : State) (index inst sub : Nat) (o : ObjDesc) (v : Int), findObj index sub = some o → o.instanceOk inst = true → o.ty.width ≠ 0 → fitsType o.ty v = true → checkWrite s o inst (.num v) = Rs.ok → o.persistent = false →
    exec (.registerWrite (.object index inst sub v)) s = .next (applyWrite s o inst (.num v))) ∧
  (∀ (s : State) (index inst sub : Nat) (o : ObjDesc) (v : Int), findObj index sub = some o → checkWrite s o inst (.num v) ≠ Rs.ok → exec (.registerWrite (.object index inst sub v)) s = .next s) ∧
  (∀ (s : State) (index inst sub : Nat) (o : ObjDesc) (b : Bytes), findObj index sub = some o → o.instanceOk inst = true → o.ty.width = 0 → b.length ≤ o.ty.most → b.length % o.rng.rowWidth = 0 → checkWrite s o inst (.bytes b) = Rs.ok →
    o.persistent = false → exec (.registerWrite (.blob index inst sub b)) s = .next (applyWrite s o inst (.bytes b))) ∧
  (∀ (s : State) (f bar off : Nat) (data : Bytes), f ≤ 1025 → data ≠ [] → memOpen s f = false → exec (.registerWrite (.mmio f bar off data)) s = .next (emit s (.unsupported f bar off))) ∧
  (∀ (s : State) (f bar off : Nat) (data : Bytes), f ≤ 1025 → data ≠ [] → memOpen s f = true → straddles f bar off data.length = true →
    ∃ t, exec (.registerWrite (.mmio f bar off data)) s = .next t ∧ rdN t Obj.MMIO_STRADDLES (fnPort f) = (rdN s Obj.MMIO_STRADDLES (fnPort f) + 1) % 2 ^ 64 ∧ t.qps = s.qps ∧ t.key = s.key) ∧
  (∀ (s : State) (f off : Nat) (data : Bytes), f ≤ 1025 → memOpen s f = true → straddles f 2 off data.length = false → data ≠ [] → off % 256 + data.length ≤ 256 →
    exec (.registerWrite (.mmio f 2 off data)) s = .next (doorbellWrite s f off data)) ∧
  (∀ (s : State) (f bar off len : Nat), f ≤ 1025 → 0 < len → memOpen s f = true → straddles f bar off len = false →
    ∃ t d, exec (.registerWrite (.mmioRead f bar off len)) s = .next t ∧ t.out = s.out ++ [.mmioData f d] ∧ d.length = len ∧ (∀ k, k < len → d[k]? = some (barByte s f bar (off + k))) ∧ t.dict = s.dict ∧ t.qps = s.qps) ∧
  (∀ (s : State) (f : Nat) (v : Bool), rdB s Obj.FUNC_PRESENT f = true → rdB s Obj.FUNC_IN_RESET f = false →
    ∃ t, exec (.registerWrite (.cfg f .memorySpace v)) s = .next t ∧ (fnOf t f).mse = v ∧ t.dict = s.dict) ∧
  (∀ (s : State) (f : Nat) (b : CfgBit) (v : Bool), rdB s Obj.FUNC_IN_RESET f = true → exec (.registerWrite (.cfg f b v)) s = .next s)

/-- Each MCTP control request is answered with its fields; a vendor message in one packet is a dictionary request; a packet that
is too long or damaged changes nothing and one out of sequence drops its assembly; a UDP datagram to the port with the right
head is a request and any other changes nothing; ARP and echo are answered, DHCP sets the address; a legal dynamic address
is taken. The layouts of MCTP control messages come from DSP0236 (log entry 31). (From 02_object_dictionary.md, MCTP over
I3C, with SMBus fallback; 02_object_dictionary.md, UDP over management Ethernet.) -/
def Obligations.ManagementTransports : Prop :=
  (∀ (s : State) (src inst op eid : Nat), mctpUp s = true → op < 2 → 8 ≤ eid → eid < 255 →
    ∃ t, exec (.setEndpointId src inst op eid) s = .next t ∧ t.mgmt.eid = eid ∧ t.dict = s.dict ∧
      t.out = s.out ++ [.mctp src 0 true true (leBytes 1 0 ++ (leBytes 1 (inst % 32) ++ leBytes 1 1 ++ leBytes 1 0 ++ (leBytes 1 0 ++ leBytes 1 eid ++ leBytes 1 0)))]) ∧
  (∀ (s : State) (src inst op eid : Nat), mctpUp s = true → op % 4 ≥ 2 ∨ eid < 8 ∨ 255 ≤ eid →
    ∃ t, exec (.setEndpointId src inst op eid) s = .next t ∧ t.mgmt = s.mgmt ∧ t.out = s.out ++ [.mctp src 0 true true (leBytes 1 0 ++ (leBytes 1 (inst % 32) ++ leBytes 1 1 ++ leBytes 1 2 ++ []))]) ∧
  (∀ (s : State) (src inst : Nat), mctpUp s = true →
    ∃ t, exec (.getEndpointId src inst) s = .next t ∧ t.dict = s.dict ∧ t.mgmt = s.mgmt ∧
      t.out = s.out ++ [.mctp src 0 true true (leBytes 1 0 ++ (leBytes 1 (inst % 32) ++ leBytes 1 2 ++ leBytes 1 0 ++ (leBytes 1 s.mgmt.eid ++ leBytes 1 0 ++ leBytes 1 0)))]) ∧
  (∀ (s : State) (src inst : Nat), mctpUp s = true →
    ∃ t, exec (.getMctpVersionSupport src inst 0xFF) s = .next t ∧ t.dict = s.dict ∧ t.mgmt = s.mgmt ∧
      t.out = s.out ++ [.mctp src 0 true true (leBytes 1 0 ++ (leBytes 1 (inst % 32) ++ leBytes 1 4 ++ leBytes 1 0 ++ (leBytes 1 1 ++ leBytes 1 0xF1 ++ leBytes 1 0xF3 ++ leBytes 1 0xF1 ++ leBytes 1 0)))]) ∧
  (∀ (s : State) (src inst : Nat), mctpUp s = true →
    ∃ t, exec (.getMessageTypeSupport src inst) s = .next t ∧ t.dict = s.dict ∧ t.mgmt = s.mgmt ∧
      t.out = s.out ++ [.mctp src 0 true true (leBytes 1 0 ++ (leBytes 1 (inst % 32) ++ leBytes 1 5 ++ leBytes 1 0 ++ (leBytes 1 3 ++ leBytes 1 5 ++ leBytes 1 6 ++ leBytes 1 0x7E)))]) ∧
  (∀ (s : State) (src inst : Nat), mctpUp s = true →
    ∃ t, exec (.getVendorDefinedMessageSupport src inst 0) s = .next t ∧ t.dict = s.dict ∧ t.mgmt = s.mgmt ∧
      t.out = s.out ++ [.mctp src 0 true true (leBytes 1 0 ++ (leBytes 1 (inst % 32) ++ leBytes 1 6 ++ leBytes 1 0 ++ (leBytes 1 0xFF ++ leBytes 1 0 ++ leBytes 1 (Config.pciVendorId / 256) ++ leBytes 1 Config.pciVendorId ++ leBytes 1 0 ++ leBytes 1 0x96)))]) ∧
  (∀ (s : State) (pkt : McPacket) (clear : Option Bytes) (body : Bytes), mctpUp s = true → pkt.som = true → pkt.eom = true → pkt.pec ≠ some false → pkt.data = leBytes 1 0x7E ++ vendorHead ++ body → pkt.data.length ≤ 64 →
    exec (.mctpMessage pkt clear) s = .next (submitReq (modMgmt s (fun y => { y with asm := Tbl.erase y.asm (16 * pkt.src + pkt.tag % 16) })) (.mctp pkt.src none) body)) ∧
  (∀ (s : State) (pkt : McPacket) (clear : Option Bytes), pkt.pec = some false ∨ 64 < pkt.data.length ∨ mctpUp s = false → exec (.mctpMessage pkt clear) s = .next s) ∧
  (∀ (s : State) (pkt : McPacket) (clear : Option Bytes) (x : McAsm), mctpUp s = true → pkt.som = false → pkt.pec ≠ some false → pkt.data.length ≤ 64 → Tbl.get s.mgmt.asm (16 * pkt.src + pkt.tag % 16) = some x → pkt.seq % 4 ≠ x.seq →
    ∃ t, exec (.mctpMessage pkt clear) s = .next t ∧ Tbl.get t.mgmt.asm (16 * pkt.src + pkt.tag % 16) = none ∧ t.dict = s.dict ∧ t.out = s.out) ∧
  (∀ (s : State) (peer : Nat) (b : Bytes) (clear : Option (Nat × Bytes)), ethUp s = true → b.length ≤ 1468 →
    exec (.udpDatagram peer (rdN s Obj.UDP_PORT 0) (leBytes 1 1 ++ leBytes 1 3 ++ leBytes 2 0 ++ b) clear) s = .next (submitReq s (.udp peer none) b)) ∧
  (∀ (s : State) (peer port : Nat) (b : Bytes) (clear : Option (Nat × Bytes)), ethUp s = false ∨ port ≠ rdN s Obj.UDP_PORT 0 ∨ 1472 < b.length → exec (.udpDatagram peer port b clear) s = .next s) ∧
  (∀ (s : State), ethUp s = true → ipv4 s ≠ 0 → exec (.ethernetFrame (.arp (ipv4 s))) s = .next (emit s (.frame 0 (macAddr s ++ leBytes 4 (ipv4 s))))) ∧
  (∀ (s : State) (b : Bytes), ethUp s = true → ipv4 s ≠ 0 → exec (.ethernetFrame (.echo4 (ipv4 s) b)) s = .next (emit s (.frame 1 b))) ∧
  (∀ (s : State) (a : Nat), ethUp s = true → rdB s Obj.ETH_DHCP 0 = true → ∃ t, exec (.ethernetFrame (.dhcp a)) s = .next t ∧ ipv4 t = a) ∧
  (∀ (s : State) (x : EthFrame), ethUp s = false → exec (.ethernetFrame x) s = .next s) ∧
  (∀ (s : State) (st addr : Nat), mctpUp s = true → 8 ≤ addr → addr ≤ 0x77 → ∃ t, exec (.i3cDynamicAddress false st addr) s = .next t ∧ t.mgmt.dynAddr = addr ∧ t.dict = s.dict)

/-- KEY_EXCHANGE with an anchor and a valid signature opens a handshake in a free session, and otherwise answers an error;
FINISH opens the session or forgets it; END_SESSION and a missed heartbeat close it; a measurement that exists is answered
and one that does not is an error; GET_CAPABILITIES and NEGOTIATE_ALGORITHMS are answered with the module's capabilities and
algorithms; other requests are answered or refused as unsupported. The layouts come from DSP0274 and the signature checks
are operands (log entries 31 and 33). (From 02_object_dictionary.md, Transports; 02_object_dictionary.md, Session
sequences.) -/
def Obligations.SpdmSessions : Prop :=
  (∀ (s : State) (udp : Bool) (peer n : Nat), transportUp s udp = true → rdBytes s Obj.SPDM_REQUESTER_ANCHOR 0 ≠ [] → newSession s udp peer = some n →
    ∃ t, exec (.keyExchange udp peer true) s = .next t ∧ t.mgmt.shaking.contains n = true ∧ Tbl.get t.mgmt.peer n = some peer ∧ t.dict = s.dict) ∧
  (∀ (s : State) (udp ok : Bool) (peer : Nat), transportUp s udp = true → rdBytes s Obj.SPDM_REQUESTER_ANCHOR 0 = [] ∨ ok = false → exec (.keyExchange udp peer ok) s = .next (spdmError s udp peer none 1)) ∧
  (∀ (s : State) (udp : Bool) (peer : Nat), transportUp s udp = true → rdBytes s Obj.SPDM_REQUESTER_ANCHOR 0 ≠ [] → newSession s udp peer = none → exec (.keyExchange udp peer true) s = .next (spdmError s udp peer none 0x0A)) ∧
  (∀ (s : State) (n : Nat), n < 14 → s.mgmt.shaking.contains n = true → transportUp s (decide (n ≥ 6)) = true →
    ∃ t, exec (.finish n true) s = .next t ∧ t.mgmt.shaking.contains n = false ∧ sessionOpen t n = true ∧ rdB t Obj.SESSION_OPEN n = true ∧ rdN t Obj.NEXT_REQ_SEQ n = 0) ∧
  (∀ (s : State) (n : Nat), s.mgmt.shaking.contains n = true → transportUp s (decide (n ≥ 6)) = true →
    exec (.finish n false) s = .next (spdmError (forgetShake s n) (decide (n ≥ 6)) (Tbl.getD s.mgmt.peer n 0) none 6)) ∧
  (∀ (s : State) (n : Nat), 2 ≤ n → n < 14 → sessionOpen s n = true → transportUp s (decide (n ≥ 6)) = true →
    ∃ t, exec (.endSession n) s = .next t ∧ sessionOpen t n = false ∧ rdB t Obj.SESSION_OPEN n = false ∧ Tbl.get t.mgmt.peer n = none) ∧
  (∀ (s : State) (n : Nat), 2 ≤ n → n < 14 → sessionTaken s n = true →
    ∃ t, exec (.sessionHeartbeatTimeout n) s = .next t ∧ sessionTaken t n = false ∧ rdB t Obj.SESSION_OPEN n = false ∧ Tbl.get t.mgmt.peer n = none) ∧
  (∀ (s : State) (udp : Bool) (peer i : Nat), transportUp s udp = true → 1 ≤ i → i ≤ 4 →
    exec (.getMeasurements udp peer i) s = .next (sendSpdm (takeFree s) udp peer none 0x60 0 (leBytes 1 1 ++ leBytes 3 (measurementBlock s i).length ++ measurementBlock s i ++ Config.spdmBody 0x60 s.freeCtr))) ∧
  (∀ (s : State) (udp : Bool) (peer i : Nat), transportUp s udp = true → 5 ≤ i → i < 255 → exec (.getMeasurements udp peer i) s = .next (spdmError s udp peer none 1)) ∧
  (∀ (s : State) (udp : Bool) (peer code : Nat), transportUp s udp = true → spdmCodes.contains code = true → code ≠ 0xE1 → code ≠ 0xE3 →
    exec (.spdmMessage udp peer code none) s = .next (spdmFree s udp peer none (code - 0x80) 0)) ∧
  (∀ (s : State) (udp : Bool) (peer : Nat), transportUp s udp = true →
    exec (.spdmMessage udp peer 0xE1 none) s = .next (sendSpdm (takeFree s) udp peer none 0x61 0 (capabilitiesBody (Config.spdmBody 0x61 s.freeCtr))) ∧
    exec (.spdmMessage udp peer 0xE3 none) s = .next (sendSpdm s udp peer none 0x63 4 algorithmsBody)) ∧
  (∀ (s : State) (udp : Bool) (peer code : Nat), transportUp s udp = true → spdmCodes.contains code = false → spdmOwn.contains code = false → exec (.spdmMessage udp peer code none) s = .next (spdmError s udp peer none 7))

/-- A closed window sends its summary; a quiet path ends shedding and counts the storm; an event ring whose checks pass starts
at delivery 0; a coalesced delivery sends its vector; a subscription sets its level and one removed drops its records;
fetches and reads of the stores answer whole records and move on; COUNTER_CLEAR counts itself, clears the counters whose bit
is set and leaves those whose bit is not. (From 17_telemetry_counters_performance.md, Paths;
17_telemetry_counters_performance.md, The PF event ring; 17_telemetry_counters_performance.md, Subscriptions and store
reads; 17_telemetry_counters_performance.md, Counters.) -/
def Obligations.EventsAndCounters : Prop :=
  (∀ (s : State) (k : EvKey) (w : EvWindow), windowOf s k = some w → exec (.coalesceWindowClose k) s = .next (closeWindow s w true)) ∧
  (∀ (s : State) (k : EvKey), windowOf s k = none → exec (.coalesceWindowClose k) s = .next s) ∧
  (∀ (s : State) (p : Nat), p < 18 → rdB s Obj.PATH_SHEDDING p = true →
    ∃ t, exec (.stormQuiet p) s = .next t ∧ rdB t Obj.PATH_SHEDDING p = false ∧ rdN t Obj.PATH_STORMS p = (rdN s Obj.PATH_STORMS p + 1) % 2 ^ 64) ∧
  (∀ (s : State) (p : Nat), rdB s Obj.PATH_SHEDDING p = false → exec (.stormQuiet p) s = .next s) ∧
  (∀ (s : State) (f : Nat), f < 2 → ringChecks s f = true →
    ∃ t, exec (.eventRingEnable f true) s = .next t ∧ rdB t Obj.EVENT_RING_ENABLE f = true ∧ rdN t Obj.EVENT_RING_NEXT_DELIVERY f = 0 ∧ Tbl.get t.ev.rings f = some { deliveries := 0, unsignalled := 0, firstAt := 0 }) ∧
  (∀ (s : State) (f : Nat), f < 2 → ringChecks s f = false → exec (.eventRingEnable f true) s = .next s) ∧
  (∀ (s : State) (f : Nat), f < 2 → ∃ t, exec (.eventRingEnable f false) s = .next t ∧ rdB t Obj.EVENT_RING_ENABLE f = false ∧ t.ev = s.ev) ∧
  (∀ (s : State) (f : Nat) (g : EvRing), Tbl.get s.ev.rings f = some g → g.unsignalled ≠ 0 → ringLive s f = true →
    exec (.eventRingCoalesceTimeout f) s = .next (sendMsix { s with ev := { s.ev with rings := Tbl.set s.ev.rings f { g with unsignalled := 0 } } } f (rdN s Obj.EVENT_RING_MSIX f))) ∧
  (∀ (s : State) (n v : Nat), n < 14 → v ≤ 4 → ∃ t, exec (.subscribe n v) s = .next t ∧ rdN t Obj.PATH_MIN_SEVERITY (4 + n) = v ∧ t.ev = s.ev) ∧
  (∀ (s : State) (n : Nat), n < 14 → ∃ t, exec (.subscribe n 0xFF) s = .next t ∧ rdN t Obj.PATH_MIN_SEVERITY (4 + n) = 0xFF ∧ Tbl.get t.ev.subs n = none) ∧
  (∀ (s : State) (n len : Nat) (q : List EvRec), Tbl.get s.ev.subs n = some q →
    ∃ t, exec (.eventSubFetch n len) s = .next t ∧ t.out = s.out ++ [.objRead Obj.EVENT_SUB_FETCH.index n ((q.take (min (min q.length (len / 32)) (recordLimit n))).flatMap evBytes)] ∧
      Tbl.get t.ev.subs n = some (q.drop (min (min q.length (len / 32)) (recordLimit n))) ∧ t.dict = s.dict) ∧
  (∀ (s : State) (n len : Nat), n < 14 →
    let l := (s.ev.store.filter (fun x => decide (x.seq ≥ rdN s Obj.EVENT_STORE_FROM n))).take (min (len / 32) (recordLimit n))
    ∃ t, exec (.eventStoreRead n len) s = .next t ∧ t.out = s.out ++ [.objRead Obj.EVENT_STORE_READ.index n (l.flatMap evBytes)] ∧ t.ev = s.ev ∧
      (∀ x, l.getLast? = some x → rdN t Obj.EVENT_STORE_FROM n = x.seq + 1) ∧ (l = [] → rdN t Obj.EVENT_STORE_FROM n = rdN s Obj.EVENT_STORE_FROM n)) ∧
  (∀ (s : State) (n len : Nat), n < 14 →
    let l := (s.ev.alarms.filter (fun x => decide (x.seq ≥ rdN s Obj.ALARM_STORE_FROM n))).take (min (len / 32) (recordLimit n))
    ∃ t, exec (.alarmStoreRead n len) s = .next t ∧ t.out = s.out ++ [.objRead Obj.ALARM_STORE_READ.index n (l.flatMap evBytes)] ∧ t.ev = s.ev ∧
      (∀ x, l.getLast? = some x → rdN t Obj.ALARM_STORE_FROM n = x.seq + 1) ∧ (l = [] → rdN t Obj.ALARM_STORE_FROM n = rdN s Obj.ALARM_STORE_FROM n)) ∧
  (∀ (s : State) (m : Nat), m < 8 → rdN s Obj.COUNTER_CLEARS 0 < 2 ^ 64 - 1 →
    ∃ t, exec (.counterClear m) s = .next t ∧ rdN t Obj.COUNTER_CLEARS 0 = rdN s Obj.COUNTER_CLEARS 0 + 1 ∧ (bitAt m 2 = true → t.ev.device = []) ∧ (bitAt m 2 = false → t.ev.device = s.ev.device) ∧
      (bitAt m 0 = true → ∀ q, q < 8192 → rdN t Obj.QP_READ_CMDS q = 0 ∧ rdN t Obj.QP_WRITE_BYTES q = 0) ∧ (bitAt m 0 = false → t.ev.hist = s.ev.hist) ∧
      (bitAt m 1 = false → ∀ f, f < 1026 → rdN t Obj.FUNC_FLRS f = rdN s Obj.FUNC_FLRS f)) ∧
  (∀ (s : State) (m : Nat), 8 ≤ m → exec (.counterClear m) s = .next s)

/-- SANITIZE and FORMAT with no query start an operation in its first step, or wait on one of the same kind; a query completes
with the operation's word; a different one running gives VOLUME_BUSY; once nothing uses the volume the first step takes a
write sequence and is recorded, and as each record becomes durable the operation goes on: the deallocation of the whole
volume, the volume empty, then FORMAT ends and SANITIZE begins its sweep; the wait for a Cistern image ends, with a record,
when no image is older than the operation, and that record ends the operation. (From 08_commands.md, SANITIZE and FORMAT.) -/
def Obligations.SanitizeAndFormat : Prop :=
  (∀ (s : State) (q tag : Nat) (c : Cmd), startable s q tag 0x82 = some c → exec (.sanitize q tag) s = .next (volCommand s q c 2)) ∧
  (∀ (s : State) (q tag : Nat) (c : Cmd), startable s q tag 0x83 = some c → exec (.format q tag) s = .next (volCommand s q c 1)) ∧
  (∀ (s : State) (q tag : Nat) (c : Cmd), startable s q tag 0x82 = some c → bitAt c.flags 0 = false → epochState s = Es.idle → opRuns s c.volume = none →
    ∃ t o, exec (.sanitize q tag) s = .next t ∧ opOf t c.volume = some o ∧ o.kind = 2 ∧ o.state = Op.phase1 ∧ o.waiters = [(q, c.tag)]) ∧
  (∀ (s : State) (q tag : Nat) (c : Cmd), startable s q tag 0x83 = some c → bitAt c.flags 0 = false → epochState s = Es.idle → opRuns s c.volume = none →
    ∃ t o, exec (.format q tag) s = .next t ∧ opOf t c.volume = some o ∧ o.kind = 1 ∧ o.state = Op.phase1 ∧ o.waiters = [(q, c.tag)]) ∧
  (∀ (s : State) (q tag : Nat) (c : Cmd), startable s q tag 0x82 = some c → bitAt c.flags 0 = true →
    ∃ t e, exec (.sanitize q tag) s = .next t ∧ e ∈ (qpOf t q).cpl ∧ e.tag = c.tag ∧ e.status = St.success ∧ e.result = opWord s c.volume ∧ t.vols = s.vols) ∧
  (∀ (s : State) (q tag : Nat) (c : Cmd) (o : VolOp), startable s q tag 0x83 = some c → bitAt c.flags 0 = false → epochState s = Es.idle → opRuns s c.volume = some o → o.kind ≠ 1 →
    ∃ t e, exec (.format q tag) s = .next t ∧ e ∈ (qpOf t q).cpl ∧ e.tag = c.tag ∧ e.status = St.volumeBusy ∧ t.vols = s.vols) ∧
  (∀ (s : State) (v : Nat) (o : VolOp), opRuns s v = some o → o.state = Op.phase1 → o.step = 1 → volBusy s v = false → poolUp s o.pool = true → epochState s = Es.idle → wseqReady s 1 = true →
    exec (.formatPhase1Drained v) s = .next (logRec (modOp (takeWseq s o.pool 1) v (fun y => { y with step := 2, wseq := s.sluice.wseq })) o.pool (.progress o.kind v 2 0))) ∧
  (∀ (s : State) (v : Nat) (o : VolOp) (r : LogRec), opRuns s v = some o → r.copy = false → r.body = .progress o.kind v 2 0 → o.step = 2 → opDurable s r = emptyStart s v o) ∧
  (∀ (s : State) (v : Nat) (o : VolOp) (r : LogRec) (l n q tag : Nat), opRuns s v = some o → r.copy = false → r.body = .dealloc v l n o.wseq q tag → o.step = 3 → opDurable s r = emptyEnd s v o) ∧
  (∀ (s : State) (v : Nat) (o : VolOp) (r : LogRec), opRuns s v = some o → r.copy = false → r.body = .progress o.kind v 4 0 → o.step = 4 →
    opDurable s r = if o.kind = 1 then finishOp s v o else beginSweep s v o.pool) ∧
  (∀ (s : State) (v : Nat) (o : VolOp) (r : LogRec), opRuns s v = some o → r.copy = false → r.body = .progress o.kind v 9 0 → o.step = 9 → opDurable s r = finishOp s v o) ∧
  (∀ (s : State) (v : Nat) (o : VolOp), opRuns s v = some o → o.state = Op.phase1 → volBusy s v = true → exec (.formatPhase1Drained v) s = .next s) ∧
  (∀ (s : State) (v : Nat) (o : VolOp), opRuns s v = some o → o.state = Op.waitCistern → o.step ≠ 9 → s.power.imgA = none → s.power.imgB = none →
    ∃ t r, exec (.sanitizeCisternWaitEnd v) s = .next t ∧ r ∈ t.ilog.recs ∧ r.pool = o.pool ∧ r.body = .progress o.kind v 9 0 ∧ r.durable = false) ∧
  (∀ (s : State) (v : Nat) (o : VolOp) (i : Image), opRuns s v = some o → o.state = Op.waitCistern → o.step ≠ 9 → s.power.imgA = some i → s.power.imgB = none → i.num ≤ o.started → rdB s Obj.CISTERN_IMAGE_HELD 0 = true →
    ∃ t, exec (.sanitizeCisternWaitEnd v) s = .next t ∧ t.vols = s.vols ∧ t.power.imgA = some i)

/-- LOAD and the two INSTALLs report their result in the window of their function and clear the staging; a new key fills an
EMPTY slot as the current one, INSTALL sets the generation asked for, a previous key stands beside the current one, and a
slot that holds both refuses another; RETIRE drops a previous key that no sector uses and refuses one in use; DESTROY
empties the slot; with the tamper latch set every action and every staging write is dropped. (From 12_cipher_keys_tamper.md,
The key window; 12_cipher_keys_tamper.md, Key slots and generations.) -/
def Obligations.KeyWindowActions : Prop :=
  (∀ (s : State) (pf c g k : Nat), pf < 2 → k < 4096 → rdN s Obj.TAMPER_LATCH 0 = 0 →
    ∃ t, exec (.load pf c g k) s = .next t ∧ rdN t Obj.KEY_LOAD_RESULT pf = (withKeys s pf c (fun b => loadKey s k g b)).1 ∧ rdN t Obj.KEY_LOAD_SLOT pf = k ∧ staged t pf = none) ∧
  (∀ (s : State) (pf c g k : Nat), pf < 2 → k < 4096 → rdN s Obj.TAMPER_LATCH 0 = 0 →
    ∃ t, exec (.installCurrent pf c g k) s = .next t ∧ rdN t Obj.KEY_LOAD_RESULT pf = (withKeys s pf c (fun b => installCurrent s k g b)).1 ∧ rdN t Obj.KEY_LOAD_SLOT pf = k ∧ staged t pf = none) ∧
  (∀ (s : State) (pf c g k : Nat), pf < 2 → k < 4096 → rdN s Obj.TAMPER_LATCH 0 = 0 →
    ∃ t, exec (.installPrevious pf c g k) s = .next t ∧ rdN t Obj.KEY_LOAD_RESULT pf = (withKeys s pf c (fun b => installPrevious s k g b)).1 ∧ rdN t Obj.KEY_LOAD_SLOT pf = k ∧ staged t pf = none) ∧
  (∀ (s : State) (pf c g k : Nat), pf < 2 → k < 4096 → rdN s Obj.TAMPER_LATCH 0 ≠ 0 →
    exec (.load pf c g k) s = .next (dropWindow s pf) ∧ exec (.installCurrent pf c g k) s = .next (dropWindow s pf) ∧ exec (.installPrevious pf c g k) s = .next (dropWindow s pf) ∧
    exec (.retire pf c g k) s = .next (dropWindow s pf) ∧ exec (.destroy pf c g k) s = .next (dropWindow s pf) ∧ exec (.clearStaging pf c) s = .next (dropWindow s pf)) ∧
  (∀ (s : State) (pf k : Nat) (b : Bytes), pf < 2 → k < 4096 → rdN s Obj.TAMPER_LATCH 0 = 0 → staged s pf = some b → weakKey b = false → keyState s k = Ks.empty →
    ∃ t, exec (.load pf 0x9640 1 k) s = .next t ∧ rdN t Obj.KEY_LOAD_RESULT pf = Kr.done ∧ keyState t k = Ks.current ∧ rdN t Obj.KEY_GEN_CURRENT k = 1 ∧ Tbl.get t.key.keys (2 * k) = some b) ∧
  (∀ (s : State) (pf g k : Nat) (b : Bytes), pf < 2 → k < 4096 → rdN s Obj.TAMPER_LATCH 0 = 0 → staged s pf = some b → weakKey b = false → keyState s k = Ks.empty → 1 ≤ g → g ≤ 255 →
    ∃ t, exec (.installCurrent pf 0x9640 g k) s = .next t ∧ rdN t Obj.KEY_LOAD_RESULT pf = Kr.done ∧ keyState t k = Ks.current ∧ rdN t Obj.KEY_GEN_CURRENT k = g ∧ Tbl.get t.key.keys (2 * k) = some b) ∧
  (∀ (s : State) (pf k : Nat) (b : Bytes), pf < 2 → k < 4096 → rdN s Obj.TAMPER_LATCH 0 = 0 → staged s pf = some b → weakKey b = false → keyState s k = Ks.current →
    ∃ t, exec (.installPrevious pf 0x9640 (genPrev (rdN s Obj.KEY_GEN_CURRENT k)) k) s = .next t ∧ rdN t Obj.KEY_LOAD_RESULT pf = Kr.done ∧ keyState t k = Ks.both ∧
      rdN t Obj.KEY_GEN_PREVIOUS k = genPrev (rdN s Obj.KEY_GEN_CURRENT k) ∧ Tbl.get t.key.keys (2 * k + 1) = some b) ∧
  (∀ (s : State) (pf k : Nat) (b : Bytes), pf < 2 → k < 4096 → rdN s Obj.TAMPER_LATCH 0 = 0 → staged s pf = some b → weakKey b = false → keyState s k = Ks.both → ∀ g,
    ∃ t, exec (.load pf 0x9640 g k) s = .next t ∧ rdN t Obj.KEY_LOAD_RESULT pf = Kr.previousHeld ∧ keyState t k = Ks.both ∧ t.key.keys = s.key.keys) ∧
  (∀ (s : State) (pf k : Nat), pf < 2 → k < 4096 → rdN s Obj.TAMPER_LATCH 0 = 0 → keyState s k = Ks.both → prevSectors s k = 0 →
    ∃ t, exec (.retire pf 0x9640 (rdN s Obj.KEY_GEN_PREVIOUS k) k) s = .next t ∧ rdN t Obj.KEY_LOAD_RESULT pf = Kr.done ∧ keyState t k = Ks.current ∧ rdN t Obj.KEY_GEN_PREVIOUS k = 0 ∧
      Tbl.get t.key.keys (2 * k + 1) = none) ∧
  (∀ (s : State) (pf k : Nat), pf < 2 → k < 4096 → rdN s Obj.TAMPER_LATCH 0 = 0 → keyState s k = Ks.both → prevSectors s k ≠ 0 →
    ∃ t, exec (.retire pf 0x9640 (rdN s Obj.KEY_GEN_PREVIOUS k) k) s = .next t ∧ rdN t Obj.KEY_LOAD_RESULT pf = Kr.previousInUse ∧ keyState t k = Ks.both ∧ t.key.keys = s.key.keys) ∧
  (∀ (s : State) (pf k : Nat), pf < 2 → k < 4096 → rdN s Obj.TAMPER_LATCH 0 = 0 → keyState s k ≠ Ks.empty →
    ∃ a, exec (.destroy pf 0x9640 (rdN s Obj.KEY_GEN_CURRENT k) k) s = .next (keyAction s pf k (fun _ => (Kr.done, purgeSlot a k))) ∧ keyState a k = Ks.empty ∧ rdN a Obj.KEY_GEN_CURRENT k = 0 ∧
      rdN a Obj.KEY_PRESENT k = 0 ∧ Tbl.get a.key.keys (2 * k) = none ∧ Tbl.get a.key.keys (2 * k + 1) = none) ∧
  (∀ (s : State) (pf : Nat), pf < 2 → rdN s Obj.TAMPER_LATCH 0 = 0 →
    ∃ t, exec (.clearStaging pf 0x9640) s = .next t ∧ rdN t Obj.KEY_LOAD_RESULT pf = Kr.done ∧ staged t pf = none ∧ t.key.keys = s.key.keys) ∧
  (∀ (s : State) (pf off : Nat) (b : Bytes), pf < 2 → rdN s Obj.TAMPER_LATCH 0 = 0 → off % 4 = 0 → b.length % 4 = 0 → b ≠ [] → off + b.length ≤ 96 →
    ∃ t, exec (.keyStagingWrite pf off b) s = .next t ∧ (∀ i, i < b.length → Tbl.get t.key.staging (128 * pf + off + i) = some (b.getD i 0)) ∧ t.dict = s.dict ∧ t.key.keys = s.key.keys) ∧
  (∀ (s : State) (pf off : Nat) (b : Bytes), pf < 2 → rdN s Obj.TAMPER_LATCH 0 ≠ 0 ∨ off % 4 ≠ 0 ∨ b.length % 4 ≠ 0 ∨ 96 < off + b.length →
    ∃ t, exec (.keyStagingWrite pf off b) s = .next t ∧ t.key = s.key ∧ rdN t Obj.KEY_WINDOW_DROPPED pf = (rdN s Obj.KEY_WINDOW_DROPPED pf + 1) % 2 ^ 64)

/-- KEY_PERSIST 0 drops the salt and the wrapped keys and 1 makes them; a broken mesh, and an enclosure input that is enabled,
latch, lock the device and zeroize the keys; an enclosure input that is not enabled only reads true; TAMPER_CLEAR with its
key and quiet inputs clears the latch; PIPE_CLEAR after a passed test returns a quarantined pipeline. (From
12_cipher_keys_tamper.md, Tamper; 12_cipher_keys_tamper.md, Fault checks and quarantine; 12_cipher_keys_tamper.md, Key slots
and generations.) -/
def Obligations.TamperAndPipelines : Prop :=
  (∀ (s : State), ∃ t, exec (.keyPersistWrite 0) s = .next t ∧ rdN t Obj.KEY_PERSIST 0 = 0 ∧ t.key.salt = false ∧ t.key.wrapped = [] ∧ t.key.keys = s.key.keys) ∧
  (∀ (s : State), rdN s Obj.KEY_PERSIST 0 = 0 → ∃ t, exec (.keyPersistWrite 1) s = .next t ∧ rdN t Obj.KEY_PERSIST 0 = 1 ∧ t.key.salt = true ∧ t.key.wrapped = s.key.keys) ∧
  (∀ (s : State), rdB s Obj.TAMPER_ENCLOSURE_ENABLE 0 = false →
    ∃ t, exec .tamperEnclosureAssert s = .next t ∧ bitAt (rdN t Obj.TAMPER_INPUTS 0) 0 = true ∧ rdN t Obj.TAMPER_LATCH 0 = rdN s Obj.TAMPER_LATCH 0 ∧ t.key.keys = s.key.keys) ∧
  (∀ (s : State), rdB s Obj.TAMPER_ENCLOSURE_ENABLE 0 = true →
    ∃ t, exec .tamperEnclosureAssert s = .next t ∧ bitAt (rdN t Obj.TAMPER_LATCH 0) 0 = true ∧ rdB t Obj.DEVICE_LOCKED 0 = true ∧ t.key.keys = [] ∧ t.key.staging = [] ∧ t.key.salt = false) ∧
  (∀ (s : State), ∃ t, exec .tamperMeshBreak s = .next t ∧ bitAt (rdN t Obj.TAMPER_LATCH 0) 1 = true ∧ rdB t Obj.DEVICE_LOCKED 0 = true ∧ t.key.keys = [] ∧ t.key.staging = [] ∧ t.key.salt = false) ∧
  (∀ (s : State), ∃ t, exec (.tamperClear 0x9640C1EA true) s = .next t ∧ rdN t Obj.TAMPER_LATCH 0 = 0 ∧ rdN t Obj.TAMPER_INPUTS 0 = 0 ∧ t.key.keys = s.key.keys) ∧
  (∀ (s : State) (v : Nat) (q : Bool), v ≠ 0x9640C1EA ∨ q = false → exec (.tamperClear v q) s = .next s) ∧
  (∀ (s : State) (q : Nat), q < 4 → rdN s Obj.PIPE_STATE q = 1 → ∃ t, exec (.pipeClear q true) s = .next t ∧ rdN t Obj.PIPE_STATE q = 0 ∧ rdN t Obj.PIPE_FAULTS q = 0 ∧ rdN t Obj.PIPE_SERVED_BY q = q) ∧
  (∀ (s : State) (q : Nat), exec (.pipeClear q false) s = .next s)

/-- With the engine free, invalidation by range, volume or whole, cleaning, preload, unlock, the two way counts and the
re-enabling of ways each start their operation with its scope and BUSY; a volume that does not exist gives REFUSED_VOLUME;
with the engine busy each of them leaves the state as it is (log entry 1). (From 13_on_die_cache.md, The maintenance engine;
13_on_die_cache.md, Preload and locking; 13_on_die_cache.md, Changing and losing ways.) -/
def Obligations.CacheMaintenanceStarts : Prop :=
  (∀ (s : State), s.cache.maint = none → volumeThere s (rdN s Obj.CACHE_MAINT_VOLUME 0) = true →
    ∃ t m, exec .invalidateRange s = .next t ∧ t.cache.maint = some m ∧ m.op = 1 ∧ m.vol = rdN s Obj.CACHE_MAINT_VOLUME 0 ∧ m.slba = rdN s Obj.CACHE_MAINT_SLBA 0 ∧ m.nlb = rdN s Obj.CACHE_MAINT_NLB 0 ∧ m.next = 0 ∧
      rdB t Obj.CACHE_MAINT_BUSY 0 = true ∧ rdN t Obj.CACHE_MAINT_RUNNING 0 = 1 ∧ rdN t Obj.CACHE_MAINT_PROGRESS 0 = 0 ∧ t.cache.frames = s.cache.frames) ∧
  (∀ (s : State), s.cache.maint = none → volumeThere s (rdN s Obj.CACHE_MAINT_VOLUME 0) = true →
    ∃ t m, exec .invalidateVolume s = .next t ∧ t.cache.maint = some m ∧ m.op = 2 ∧ m.vol = rdN s Obj.CACHE_MAINT_VOLUME 0 ∧ m.next = 0 ∧ rdB t Obj.CACHE_MAINT_BUSY 0 = true ∧ rdN t Obj.CACHE_MAINT_RUNNING 0 = 2) ∧
  (∀ (s : State), s.cache.maint = none → volumeThere s (rdN s Obj.CACHE_MAINT_VOLUME 0) = false →
    exec .invalidateRange s = .next (wr s Obj.CACHE_MAINT_RESULT 0 2) ∧ exec .invalidateVolume s = .next (wr s Obj.CACHE_MAINT_RESULT 0 2)) ∧
  (∀ (s : State), s.cache.maint = none →
    ∃ t m, exec .invalidateAll s = .next t ∧ t.cache.maint = some m ∧ m.op = 3 ∧ m.next = 0 ∧ m.total = 512 ∧ rdB t Obj.CACHE_MAINT_BUSY 0 = true ∧ rdN t Obj.CACHE_MAINT_RUNNING 0 = 3) ∧
  (∀ (s : State), s.cache.maint = none →
    ∃ t m, exec .cleanLines s = .next t ∧ t.cache.maint = some m ∧ m.op = 4 ∧ m.next = 0 ∧ rdB t Obj.CACHE_MAINT_BUSY 0 = true ∧ rdN t Obj.CACHE_MAINT_RUNNING 0 = 4) ∧
  (∀ (s : State) (r : Nat), r < 64 → s.cache.maint = none → volumeThere s (rdN s Obj.LOCK_VOLUME r) = true →
    ∃ t m, exec (.preload r) s = .next t ∧ t.cache.maint = some m ∧ m.op = 5 ∧ m.range = r ∧ m.vol = rdN s Obj.LOCK_VOLUME r ∧ m.slba = rdN s Obj.LOCK_SLBA r ∧ m.total = rdN s Obj.LOCK_NLB r ∧ m.next = 0 ∧
      rdN t Obj.LOCK_STATE r = 1 ∧ rdN t Obj.LOCK_SECTORS_SKIPPED r = 0 ∧ rdB t Obj.CACHE_MAINT_BUSY 0 = true) ∧
  (∀ (s : State) (r : Nat), r < 64 → s.cache.maint = none → volumeThere s (rdN s Obj.LOCK_VOLUME r) = false → exec (.preload r) s = .next (wr s Obj.CACHE_MAINT_RESULT 0 2)) ∧
  (∀ (s : State) (r : Nat), r < 64 → s.cache.maint = none → ∃ t m, exec (.unlock r) s = .next t ∧ t.cache.maint = some m ∧ m.op = 6 ∧ m.range = r ∧ rdB t Obj.CACHE_MAINT_BUSY 0 = true ∧ rdN t Obj.CACHE_MAINT_RUNNING 0 = 6) ∧
  (∀ (s : State) (n : Nat), n ≤ 16 → s.cache.maint = none → n ≠ rdN s Obj.CACHE_WAYS_ENABLED 0 →
    ∃ t m, exec (.cacheWaysEnabled n) s = .next t ∧ t.cache.maint = some m ∧ m.op = 7 ∧ rdN t Obj.CACHE_WAYS_ENABLED 0 = n ∧ rdB t Obj.CACHE_MAINT_BUSY 0 = true ∧ rdN t Obj.CACHE_MAINT_RUNNING 0 = 7) ∧
  (∀ (s : State) (n : Nat), n ≤ 16 → s.cache.maint = none → n ≠ rdN s Obj.CACHE_FRAME_WAYS 0 →
    ∃ t m, exec (.cacheFrameWays n) s = .next t ∧ t.cache.maint = some m ∧ m.op = 7 ∧ rdN t Obj.CACHE_FRAME_WAYS 0 = n ∧ rdB t Obj.CACHE_MAINT_BUSY 0 = true) ∧
  (∀ (s : State) (sl mask : Nat), sl < 4 → mask < 65536 → s.cache.maint = none →
    ∃ t m, exec (.sliceWayReenable sl mask) s = .next t ∧ t.cache.maint = some m ∧ m.op = 7 ∧
      m.tests = ((List.range 16).filter (fun w => bitAt mask w && bitAt (rdN s Obj.SLICE_WAYS_DISABLED sl) w)).map (fun w => 16 * sl + w) ∧ rdN t Obj.SLICE_WAYS_DISABLED sl = rdN s Obj.SLICE_WAYS_DISABLED sl) ∧
  (∀ (s : State) (r n sl mask : Nat), r < 64 → n ≤ 16 → sl < 4 → mask < 65536 → s.cache.maint ≠ none →
    exec .invalidateRange s = .next s ∧ exec .invalidateVolume s = .next s ∧ exec .invalidateAll s = .next s ∧ exec .cleanLines s = .next s ∧ exec (.preload r) s = .next s ∧ exec (.unlock r) s = .next s ∧
    exec (.cacheWaysEnabled n) s = .next s ∧ exec (.cacheFrameWays n) s = .next s ∧ exec (.sliceWayReenable sl mask) s = .next s)

/-- A step of an invalidation marks the unlocked frames of its set that lie in scope and moves its progress, and the last one
ends it with result DONE; cleaning writes back the lines of its set and ends with the last set; preload and unlock end
theirs; a paused operation stands still; a march test that passes enables its way and one that fails keeps it disabled; a
disabled way is taken at once or after the running operation; a fill of an unchanged sector makes its frame valid and one of
a changed sector makes it invalid. (From 13_on_die_cache.md, The maintenance engine; 13_on_die_cache.md, Changing and losing
ways; 13_on_die_cache.md, Sector frames; 13_on_die_cache.md, Preload and locking.) -/
def Obligations.CacheMaintenanceSteps : Prop :=
  (∀ (s : State) (m : Maint), s.cache.maint = some m → m.paused = false → s.cache.failing = [] → m.op = 1 ∨ m.op = 2 ∨ m.op = 3 → m.next + 1 < m.total →
    ∃ t m', exec .cacheMaintStep s = .next t ∧ t.cache.maint = some m' ∧ m'.next = m.next + 1 ∧ rdN t Obj.CACHE_MAINT_PROGRESS 0 = min 100 (100 * (m.next + 1) / m.total) ∧
      ∀ k f, (k, f) ∈ t.cache.frames → k / 16 % 512 = m.next → f.locked = false → f.st ≠ 1 → inScope m f = true → f.st = 3) ∧
  (∀ (s : State) (m : Maint), s.cache.maint = some m → m.paused = false → s.cache.failing = [] → s.cache.reload = [] → m.op = 1 ∨ m.op = 2 ∨ m.op = 3 → m.total ≤ m.next + 1 →
    ∃ t, exec .cacheMaintStep s = .next t ∧ t.cache.maint = none ∧ rdB t Obj.CACHE_MAINT_BUSY 0 = false ∧ rdN t Obj.CACHE_MAINT_RUNNING 0 = 0 ∧ rdN t Obj.CACHE_MAINT_RESULT 0 = 1 ∧ rdN t Obj.CACHE_MAINT_PROGRESS 0 = 100) ∧
  (∀ (s : State) (m : Maint), s.cache.maint = some m → m.paused = false → s.cache.failing = [] → s.cache.reload = [] → m.op = 4 → m.total ≤ m.next + 1 →
    ∃ t, exec .cacheMaintStep s = .next t ∧ t.cache.maint = none ∧ rdN t Obj.CACHE_MAINT_RESULT 0 = 1 ∧ t.cache.frames = s.cache.frames) ∧
  (∀ (s : State) (m : Maint), s.cache.maint = some m → m.paused = false → s.cache.failing = [] → m.op = 4 →
    ∃ t, exec .cacheMaintStep s = .next t ∧ t.lines = Tbl.mapV s.lines (fun k l => if k / 16 % 16384 = m.next then { l with dirty := false } else l)) ∧
  (∀ (s : State) (m : Maint), s.cache.maint = some m → m.paused = true → s.cache.failing = [] → exec .cacheMaintStep s = .next s) ∧
  (∀ (s : State) (m : Maint), s.cache.maint = some m → m.paused = false → s.cache.failing = [] → m.op = 5 → m.total ≤ m.next → exec .cacheMaintStep s = .next (endPreload s m.range)) ∧
  (∀ (s : State) (m : Maint), s.cache.maint = some m → m.paused = false → s.cache.failing = [] → m.op = 6 → exec .cacheMaintStep s = .next (endMaint (endRange s m.range) 1)) ∧
  (∀ (s : State) (m : Maint) (sl w : Nat), sl < 4 → w < 16 → s.cache.maint = some m → m.op = 7 → m.tests.contains (16 * sl + w) = true →
    ∃ t, exec (.wayMarchTestDone sl w true) s = .next t ∧ bitAt (rdN t Obj.SLICE_WAYS_DISABLED sl) w = false) ∧
  (∀ (s : State) (m : Maint) (sl w : Nat), sl < 4 → w < 16 → s.cache.maint = some m → m.op = 7 → m.tests.contains (16 * sl + w) = true →
    ∃ t, exec (.wayMarchTestDone sl w false) s = .next t ∧ bitAt (rdN t Obj.SLICE_WAYS_DISABLED sl) w = true) ∧
  (∀ (s : State) (sl w : Nat), sl < 4 → w < 16 → s.cache.maint = none → ∃ t, exec (.wayDisable sl w) s = .next t ∧ bitAt (rdN t Obj.SLICE_WAYS_DISABLED sl) w = true) ∧
  (∀ (s : State) (sl w : Nat), sl < 4 → w < 16 → s.cache.maint ≠ none → ∃ t, exec (.wayDisable sl w) s = .next t ∧ t.cache.failing.contains (16 * sl + w) = true ∧ t.dict = s.dict) ∧
  (∀ (s : State) (x : Fill), s.cache.fills.find? (fun y => y.frame == x.frame) = some x → s.cache.maint = none → sameVersion s x.vol x.lba x.md = true →
    ∃ t, exec (.frameFillComplete x.frame) s = .next t ∧ (frameAt t x.frame).st = 2 ∧ (frameAt t x.frame).data = x.data ∧ t.cache.fills = s.cache.fills.filter (fun y => y.frame != x.frame)) ∧
  (∀ (s : State) (x : Fill), s.cache.fills.find? (fun y => y.frame == x.frame) = some x → sameVersion s x.vol x.lba x.md = false → (frameAt s x.frame).locked = false →
    ∃ t, exec (.frameFillComplete x.frame) s = .next t ∧ frameAt t x.frame = Frame.invalid)

/-- A failed stack, with no slot held and no dirty leaf, is reported, empties the read cache, leaves no leaf resident and no
line of its slice; above 85 degrees a stack refreshes at the higher rate and at or below it at the normal one, with the
temperature recorded; a zeroing that ends counts 4,096 bytes. That the whole read cache is emptied and that what lies in
which stack are the model's choices (log entries 119 and 120). (From 13_on_die_cache.md, HBM read cache and controllers;
05_protected_cache.md, HBM partition; 12_cipher_keys_tamper.md, Zeroing on change of owner.) -/
def Obligations.HbmAndZeroing : Prop :=
  (∀ (s : State) (k : Nat), k < 4 → rdN s Obj.HBM_STACK_STATE k ≠ 3 → s.prot = [] → (∀ e ∈ s.map.leaves, e.2.dirty = false) →
    ∃ t, exec (.hbmStackFailed k) s = .next t ∧ rdN t Obj.HBM_STACK_STATE k = 3 ∧ t.cache.rc = [] ∧ k ∈ t.power.hbmDead ∧ (∀ e ∈ t.map.leaves, e.2.resident = false) ∧ ∀ e ∈ t.lines, lineSlice e.1 ≠ k) ∧
  (∀ (s : State) (k : Nat), rdN s Obj.HBM_STACK_STATE k = 3 → exec (.hbmStackFailed k) s = .next s) ∧
  (∀ (s : State) (k : Nat) (temp : Int), k < 4 → 85 < temp →
    ∃ t, exec (.hbmRefreshThreshold k temp) s = .next t ∧ rdN t Obj.HBM_REFRESH_MODE k = 1 ∧ rd t Obj.HBM_TEMPERATURE k = temp ∧ k ∈ t.power.refresh) ∧
  (∀ (s : State) (k : Nat) (temp : Int), k < 4 → temp ≤ 85 →
    ∃ t, exec (.hbmRefreshThreshold k temp) s = .next t ∧ rdN t Obj.HBM_REFRESH_MODE k = 0 ∧ rd t Obj.HBM_TEMPERATURE k = temp ∧ k ∉ t.power.refresh) ∧
  (∀ (s : State) (k : Nat), k < 3 → Tbl.getD s.key.taken k 0 ≠ 0 →
    ∃ t, exec (.zeroingComplete k) s = .next t ∧ Tbl.getD t.key.taken k 0 = Tbl.getD s.key.taken k 0 - 1 ∧ rdN t Obj.ZERO_BYTES 0 = (rdN s Obj.ZERO_BYTES 0 + 4096) % 2 ^ 64 ∧ t.key.owners = s.key.owners) ∧
  (∀ (s : State) (k : Nat), Tbl.getD s.key.taken k 0 = 0 → exec (.zeroingComplete k) s = .next s)

/-- The Weir recomputed is a multiple of 4,096 within its limits, 0 exactly in write-through; a Weir that falls below the dirty
bytes starts what R185 asks; a wait at the Weir is warned of and counted once; the self-test sets usable dies and dump rate;
an erase that is enough arms the Cistern and one that is not leaves it NOT_READY; a held image is released when nothing
restored is left; an unknown loss is acknowledged; the end of a dump leaves its image. (From 05_protected_cache.md, The
Weir; 05_protected_cache.md, The Cistern; 05_protected_cache.md, Restore.) -/
def Obligations.WeirAndCistern : Prop :=
  (∀ (r s : State), noteCistern r = s → rdN s Obj.OWN_DIRTY_BYTES 0 = 0 ∨ rdN s Obj.WEIR_CURRENT 0 < rdN s Obj.OWN_DIRTY_BYTES 0 →
    ∃ t, exec .weirRecompute r = .next t ∧ rdN t Obj.WEIR_CURRENT 0 % 4096 = 0 ∧ rdN t Obj.WEIR_CURRENT 0 ≤ 8589934592 ∧ rdN t Obj.WEIR_CURRENT 0 ≤ rdN s Obj.WEIR_LIMIT 0 ∧
      rdN t Obj.WEIR_CURRENT 0 ≤ rdN t Obj.WEIR_ENERGY_BYTES 0 ∧ (rdB t Obj.WRITE_THROUGH 0 = true ↔ rdN t Obj.WEIR_CURRENT 0 = 0) ∧
      (packCurrent s = false → rdN t Obj.WEIR_ENERGY_INPUT 0 = 0 ∧ rdN t Obj.WEIR_ENERGY_BYTES 0 = 0 ∧ rdN t Obj.MIRROR_RESERVE_IN_EFFECT 0 = 0) ∧
      (rdB s Obj.WEIR_FORCE_WRITE_THROUGH 0 = true → rdN t Obj.WEIR_CURRENT 0 = 0 ∧ rdN t Obj.WEIR_BINDING 0 = 3)) ∧
  (∀ (s : State), packCurrent s = false → 0 < rdN s Obj.OWN_DIRTY_BYTES 0 → rdN s Obj.OWN_DIRTY_BYTES 0 ≤ rdN s Obj.WEIR_CURRENT 0 →
    ∃ c, recomputeWeir s = weirFell c ∧ rdN c Obj.WEIR_CURRENT 0 = 0 ∧ rdB c Obj.WRITE_THROUGH 0 = true ∧ (∀ r, noteCistern r = s → exec .weirRecompute r = .next (weirFell c))) ∧
  (∀ (s : State) (q tag : Nat) (c : Cmd), (qpOf s q).queue.find? (fun x => x.tag == tag) = some c → c.opcode = 2 → c.phase = .waiting → c.warned = false →
    ∃ t, exec (.weirWaitWarn q tag) s = .next t ∧ rdN t Obj.WEIR_WAITS 0 = (rdN s Obj.WEIR_WAITS 0 + 1) % 2 ^ 64 ∧ (∀ x ∈ (qpOf t q).queue, x.tag = tag → x.warned = true)) ∧
  (∀ (s : State) (q tag : Nat) (c : Cmd), (qpOf s q).queue.find? (fun x => x.tag == tag) = some c → c.warned = true → exec (.weirWaitWarn q tag) s = .next s) ∧
  (∀ (s : State) (n : Nat), rdN s Obj.CISTERN_STATE 0 ≠ Cs.dumping → exec (.cisternSelftestTimer n) s = .next (noteCistern (wr (wr s Obj.CISTERN_DIES_USABLE 0 (min 16 n : Nat)) Obj.CISTERN_DUMP_RATE 0 (500 * min 16 n : Nat)))) ∧
  (∀ (s : State), rdN s Obj.CISTERN_STATE 0 = Cs.armed → rdN s Obj.CISTERN_DIES_USABLE 0 ≥ 8 → rdN s Obj.OWN_DIRTY_BYTES 0 = 0 → ∀ b, b < cisternNeed s →
    ∃ t, exec (.cisternEraseDone b) s = .next t ∧ rdN t Obj.CISTERN_ERASED_BYTES 0 = b ∧ rdN t Obj.CISTERN_STATE 0 = Cs.notReady) ∧
  (∀ (s : State), rdN s Obj.CISTERN_STATE 0 = Cs.notReady → rdN s Obj.CISTERN_DIES_USABLE 0 ≥ 8 → rdN s Obj.OWN_DIRTY_BYTES 0 = 0 → ∀ b, cisternNeed s ≤ b →
    ∃ t, exec (.cisternEraseDone b) s = .next t ∧ rdN t Obj.CISTERN_ERASED_BYTES 0 = b ∧ rdN t Obj.CISTERN_STATE 0 = Cs.armed) ∧
  (∀ (s : State), rdB s Obj.CISTERN_IMAGE_HELD 0 = true → (∀ e ∈ s.prot, e.2.restored = false) →
    ∃ t, exec .cisternImageRelease s = .next t ∧ rdB t Obj.CISTERN_IMAGE_HELD 0 = false ∧ t.power.imgA = none ∧ t.power.imgB = none) ∧
  (∀ (s : State) (e : Nat × Slot), e ∈ s.prot → e.2.restored = true → exec .cisternImageRelease s = .next s) ∧
  (∀ (s : State), lossUnknown s = true → rdN s Obj.STARTUP_STEP 0 < 11 → ∃ t, exec .cisternRestoreLossAck s = .next t ∧ t.power.lossHeld = false ∧ t.dict = s.dict) ∧
  (∀ (s : State), lossUnknown s = false → exec .cisternRestoreLossAck s = .next s) ∧
  (∀ (s : State), s.power.mode ≠ .dumping → exec .dumpEnd s = .next s) ∧
  (∀ (s : State) (x : Image), s.power.mode = .dumping → nextArea s = some x →
    exec .dumpEnd s = .next (dumpOver (modPower (leaveImage (wr (wr s Obj.CISTERN_LAST_DUMP_MS 0 (((s.now - s.power.dumpAt) / 1000 : Nat) : Int)) Obj.CISTERN_LAST_DUMP_BYTES 0 (imageBytes x : Nat)) x.frames) (fun y => { y with ended := y.aux }))))

/-- PACK_ENABLE with a valid configuration leads to ABSENT or LEARNING as the pack is seen, and with an invalid one changes
nothing; disabling leads to DISABLED and ends a measurement; RESET_LEARNING forgets what was learned; overvoltage and
charger faults lead to FAULT with their cause; a pack taken away is ABSENT and one that returns LEARNS; a CURRENT estimate
may go STALE; a rested lithium-ion pack takes its charge from its voltage. (From 14_backup_pack.md, Estimator states;
14_backup_pack.md, Charging; 14_backup_pack.md, Connection.) -/
def Obligations.PackStates : Prop :=
  (∀ (s : State), packValid s = false → exec (.packEnable true) s = .next s) ∧
  (∀ (s : State), packValid s = true → rdB s Obj.PACK_ENABLE 0 = false → packState s = Pk.disabled → packSeen s = false → rdN s Obj.OWN_DIRTY_BYTES 0 = 0 →
    ∃ t, exec (.packEnable true) s = .next t ∧ rdB t Obj.PACK_ENABLE 0 = true ∧ packState t = Pk.absent) ∧
  (∀ (s : State), packValid s = true → rdB s Obj.PACK_ENABLE 0 = false → packState s = Pk.disabled → packSeen s = true → rdN s Obj.OWN_DIRTY_BYTES 0 = 0 →
    ∃ t, exec (.packEnable true) s = .next t ∧ rdB t Obj.PACK_ENABLE 0 = true ∧ packState t = Pk.learning) ∧
  (∀ (s : State), rdN s Obj.OWN_DIRTY_BYTES 0 = 0 → ∃ t, exec (.packEnable false) s = .next t ∧ rdB t Obj.PACK_ENABLE 0 = false ∧ packState t = Pk.disabled ∧ t.pack.step = 0) ∧
  (∀ (s : State), packLive s = true → rdN s Obj.OWN_DIRTY_BYTES 0 = 0 →
    ∃ t, exec .packResetLearning s = .next t ∧ rdN t Obj.PACK_CAPACITANCE_LEARNED 0 = 0 ∧ rdN t Obj.PACK_CAPACITY_LEARNED 0 = 0 ∧ rdN t Obj.PACK_ESR_BASELINE 0 = 0 ∧ packState t = Pk.learning) ∧
  (∀ (s : State), packLive s = true → rdN s Obj.OWN_DIRTY_BYTES 0 = 0 →
    ∃ t, exec .packOvervoltage s = .next t ∧ packState t = Pk.fault ∧ rdN t Obj.PACK_FAULT_CAUSE 0 = Pf.overvoltage) ∧
  (∀ (s : State), packLive s = false → exec .packOvervoltage s = .next s ∧ exec .packAbsent s = .next s) ∧
  (∀ (s : State), packLive s = true → rdB s Obj.PACK_CHARGING 0 = true → rdN s Obj.OWN_DIRTY_BYTES 0 = 0 →
    ∃ t, exec .packChargerFault s = .next t ∧ packState t = Pk.fault ∧ rdN t Obj.PACK_FAULT_CAUSE 0 = Pf.charger) ∧
  (∀ (s : State), packLive s = true → rdN s Obj.OWN_DIRTY_BYTES 0 = 0 → ∃ t, exec .packAbsent s = .next t ∧ packState t = Pk.absent) ∧
  (∀ (s : State), packState s = Pk.absent → rdN s Obj.OWN_DIRTY_BYTES 0 = 0 → ∃ t, exec .packPresent s = .next t ∧ packState t = Pk.learning ∧ rdN t Obj.PACK_FAULT_CAUSE 0 = 0) ∧
  (∀ (s : State), packState s ≠ Pk.absent → exec .packPresent s = .next s) ∧
  (∀ (s : State), packState s = Pk.current → rdN s Obj.OWN_DIRTY_BYTES 0 = 0 → ∃ t, exec .packStale s = .next t ∧ packState t = Pk.stale) ∧
  (∀ (s : State), packState s ≠ Pk.current → exec .packStale s = .next s) ∧
  (∀ (s : State), rdN s Obj.PACK_CHEMISTRY 0 = 2 → packState s = Pk.current → ∃ t, exec .packRested s = .next t ∧ t.pack.soc = restSoc s ∧ t.pack.socAt = s.pack.charge ∧ t.pack.needRest = false)

/-- A sample records voltage, current, temperature and charge; a shorted thermistor faults the pack; the estimate sets raw
energy, derating, ride reserve and usable energy; a measurement of impedance is begun, deferred or run later as the module
allows, takes its first sample with the load on and its second with the load off, and records ESR. A value of ESR outside
its format is free (log entry 26). (From 14_backup_pack.md, From held energy to usable energy; 14_backup_pack.md, Impedance;
14_backup_pack.md, Energy the pack holds.) -/
def Obligations.PackMeasurements : Prop :=
  (∀ (s : State) (v ntc : Nat) (i temp : Int), packState s = Pk.disabled → ntc = 0 →
    ∃ t, exec (.packSample v i temp ntc) s = .next t ∧ rdN t Obj.PACK_VOLTAGE 0 = v ∧ rd t Obj.PACK_CURRENT 0 = i ∧ rd t Obj.PACK_TEMPERATURE 0 = temp ∧ t.pack.charge = s.pack.charge + i ∧ packState t = Pk.disabled) ∧
  (∀ (s : State) (v : Nat) (i temp : Int), packLive s = true → rdN s Obj.OWN_DIRTY_BYTES 0 = 0 →
    ∃ t, exec (.packSample v i temp 2) s = .next t ∧ packState t = Pk.fault ∧ rdN t Obj.PACK_FAULT_CAUSE 0 = Pf.ntcShort ∧ rd t Obj.PACK_TEMPERATURE 0 = rd s Obj.PACK_TEMPERATURE 0) ∧
  (∀ (s : State), packState s = Pk.disabled → exec .estimatorUpdate s = .next s) ∧
  (∀ (s : State), packState s ≠ Pk.disabled → exec .estimatorUpdate s = .next (estimate (wr (followCurve s) Obj.PACK_ESR_LAST_AGE 0 (((s.now - s.pack.esrAt) / 1000000 : Nat) : Int)))) ∧
  (∀ (s : State), rdN s Obj.OWN_DIRTY_BYTES 0 = 0 → rdN (estimate s) Obj.PACK_ENERGY_RAW 0 = whole (energyRaw s) ∧ rdN (estimate s) Obj.PACK_DERATE_FACTOR 0 = whole (factorNow s) ∧
    rdN (estimate s) Obj.PACK_RIDE_RESERVE 0 = 340 * rdN s Obj.PS_RIDE_THROUGH_WINDOW 0 ∧
    rdN (estimate s) Obj.PACK_USABLE_ENERGY 0 = whole (energyRaw s * factorNow s / 1000 - ((340 * rdN s Obj.PS_RIDE_THROUGH_WINDOW 0 : Nat) : Rat))) ∧
  (∀ (s : State), s.pack.step = 0 → packLive s = true → deferring s = false → ∃ t, exec .packEsrMeasureNow s = .next t ∧ t.pack.step = 1 ∧ t.pack.due = false) ∧
  (∀ (s : State), s.pack.step ≠ 0 → exec .packEsrMeasureNow s = .next s) ∧
  (∀ (s : State), s.pack.step = 0 → packLive s = true → deferring s = true →
    ∃ t, exec .packEsrInterval s = .next t ∧ t.pack.step = 0 ∧ t.pack.due = true ∧ rdN t Obj.PACK_ESR_DEFERRED 0 = (rdN s Obj.PACK_ESR_DEFERRED 0 + 1) % 2 ^ 64) ∧
  (∀ (s : State), s.pack.step = 0 → packLive s = true → deferring s = false → ∃ t, exec .packEsrInterval s = .next t ∧ t.pack.step = 1) ∧
  (∀ (s : State), s.pack.step = 0 → s.pack.due = true → packLive s = true → deferring s = false → ∃ t, exec .impedanceDeferredRun s = .next t ∧ t.pack.step = 1 ∧ t.pack.due = false) ∧
  (∀ (s : State), s.pack.due = false ∨ deferring s = true → exec .impedanceDeferredRun s = .next s) ∧
  (∀ (s : State) (v i : Int), s.pack.step = 1 → ∃ t, exec (.impedanceSettleDone v i) s = .next t ∧ t.pack.step = 2 ∧ t.pack.v0 = v ∧ t.pack.i0 = i ∧ Tbl.get t.pins Pin.packTest.num = some 1 ∧ t.dict = s.dict) ∧
  (∀ (s : State) (v i : Int), s.pack.step ≠ 1 → exec (.impedanceSettleDone v i) s = .next s) ∧
  (∀ (s : State) (v i : Int), s.pack.step = 2 → rdN s Obj.OWN_DIRTY_BYTES 0 = 0 →
    ∃ t, exec (.impedanceLoadOff v i) s = .next t ∧ rdN t Obj.PACK_ESR 0 = (esrOf s v i).getD (Config.packEsr (rdN s Obj.PACK_ESR_MEASUREMENTS 0)).toNat ∧
      rdN t Obj.PACK_ESR_MEASUREMENTS 0 = (rdN s Obj.PACK_ESR_MEASUREMENTS 0 + 1) % 2 ^ 64 ∧ t.pack.step = 0) ∧
  (∀ (s : State) (v i : Int), s.pack.step ≠ 2 → exec (.impedanceLoadOff v i) s = .next s)

/-- A sag begins the ride-through and is counted, its return ends it and records the longest, its expiry starts a dump; ACFAIL_N
held starts a dump; an input that collapses starts a dump and during one ends it; P12V in range with step 2 done begins step
3; P3V3_AUX that rises begins start-up at step 1 with the side strapped, and its loss leads to a dump or to OFF. (From
15_power_clocks_package.md, Power Sentry; 15_power_clocks_package.md, Supplies and sequencing;
16_startup_reset_test_recovery.md, The start-up sequence.) -/
def Obligations.PowerInput : Prop :=
  (∀ (s : State), s.power.mode = .running →
    ∃ t, exec .p12vSag s = .next t ∧ t.power.mode = .rideThrough ∧ t.power.p12v = false ∧ t.power.sagAt = s.now ∧ rdN t Obj.PS_STATE 0 = 1 ∧ rdN t Obj.PS_SAG_EVENTS 0 = (rdN s Obj.PS_SAG_EVENTS 0 + 1) % 2 ^ 64) ∧
  (∀ (s : State), s.power.mode = .dumping → ∃ t, exec .p12vSag s = .next t ∧ t.power.mode = .dumping ∧ t.power.p12v = false ∧ t.dict = s.dict) ∧
  (∀ (s : State), s.power.mode = .rideThrough →
    ∃ t, exec .p12vReturned s = .next t ∧ t.power.mode = .running ∧ t.power.p12v = true ∧ t.power.ride = s.power.ride + (s.now - s.power.sagAt) ∧ rdN t Obj.PS_STATE 0 = 0 ∧
      rdN t Obj.PS_LONGEST_RIDE 0 = max (rdN s Obj.PS_LONGEST_RIDE 0) (s.power.ride + (s.now - s.power.sagAt))) ∧
  (∀ (s : State), s.power.mode ≠ .rideThrough → ∃ t, exec .p12vReturned s = .next t ∧ t.power.p12v = true ∧ t.power.mode = s.power.mode ∧ t.dict = s.dict) ∧
  (∀ (s : State), ∃ t, exec .p12vTransient s = .next t ∧ rdN t Obj.PS_TRANSIENTS 0 = (rdN s Obj.PS_TRANSIENTS 0 + 1) % 2 ^ 64 ∧ t.power = s.power) ∧
  (∀ (s : State), s.power.mode = .running → ∃ t, exec .rideThroughClear s = .next t ∧ t.power.ride = 0 ∧ t.dict = s.dict) ∧
  (∀ (s : State), s.power.mode ≠ .running → exec .rideThroughClear s = .next s) ∧
  (∀ (s : State), s.power.mode = .rideThrough → exec .rideThroughExpiry s = .next (startDump (noteRide s) Sc.rideThroughExpired Rk.mainPowerOn)) ∧
  (∀ (s : State), s.power.mode ≠ .rideThrough → exec .rideThroughExpiry s = .next s) ∧
  (∀ (s : State), running s = true → exec .acfailExpiry s = .next (startDump (setLevel s 1 false) Sc.acfail Rk.mainPowerOn)) ∧
  (∀ (s : State), running s = false → exec .acfailExpiry s = .next (setLevel s 1 false)) ∧
  (∀ (s : State), s.power.mode ≠ .dumping →
    ∃ t, exec .acfailRelease s = .next t ∧ rdN t Obj.PS_ACFAIL_EVENTS 0 = (rdN s Obj.PS_ACFAIL_EVENTS 0 + 1) % 2 ^ 64 ∧ bitAt (rdN t Obj.INPUT_LEVELS 0) 1 = true) ∧
  (∀ (s : State) (n : Nat), s.power.mode ≠ .dumping → exec (.inputCollapse n) s = .next (startDump (modPower s (fun x => { x with p12v := false })) Sc.inputCollapse Rk.mainPowerOn)) ∧
  (∀ (s : State) (n : Nat), s.power.mode = .dumping → exec (.inputCollapse n) s = .next (dumpOver (leaveImage (modPower s (fun x => { x with p12v := false })) n))) ∧
  (∀ (s : State), s.power.mode = .standby → s.power.aux = true → s.power.resetN = false → s.power.tripped = false → s.power.stepDone = true → rdN s Obj.STARTUP_STEP 0 = 2 →
    ∃ t, exec .p12vInRange s = .next t ∧ t.power.p12v = true ∧ rdN t Obj.STARTUP_STEP 0 = 3 ∧ t.power.stepDone = false) ∧
  (∀ (s : State), s.power.mode = .standby → s.power.p12v = true → s.power.aux = true → s.power.resetN = false → s.power.tripped = false → s.power.stepDone = true → rdN s Obj.STARTUP_STEP 0 = 2 →
    ∃ t, exec .railsOffTimeout s = .next t ∧ rdN t Obj.STARTUP_STEP 0 = 3 ∧ t.power.stepDone = false) ∧
  (∀ (s : State), s.power.mode = .off → ∀ side,
    ∃ t, exec (.p3v3AuxRise side) s = .next t ∧ t.power.mode = .standby ∧ t.power.aux = true ∧ rdN t Obj.STARTUP_STEP 0 = 1 ∧ rdN t Obj.PAIR_SIDE 0 = (if side = 0 then 0 else 1) ∧ t.bootAt = s.now ∧ t.pack.charge = 0 ∧
      rdN t Obj.TAMPER_LATCH 0 = (if s.key.enclosure = true ∧ rdB s Obj.TAMPER_ENCLOSURE_ENABLE 0 = true then 1 else 0) + (if s.key.mesh = true then 2 else 0)) ∧
  (∀ (s : State) (side : Nat), s.power.mode ≠ .off → exec (.p3v3AuxRise side) s = .next s) ∧
  (∀ (s : State), running s = true → exec .p3v3AuxLoss s = .next (startDump (modPower s (fun x => { x with aux := false })) Sc.auxLoss Rk.auxPowerOn)) ∧
  (∀ (s : State), s.power.mode = .standby → rdN s Obj.STARTUP_STEP 0 < 3 → ∃ t, exec .p3v3AuxLoss s = .next t ∧ t.power.mode = .off ∧ t.power.aux = false ∧ t.key.keys = [])

/-- A stop before step 9 takes the rails down without a dump; one after it with acknowledged data and an armed Cistern dumps and
counts it; a rail fault and a thermal trip trip the module; alerts drive THERM_ALERT_N; quadrants step down, gate and return
by an epoch, retried until the epoch state is IDLE; a PLL that loses lock gates, relocks or falls back with a dump; RESET_N,
the watchdog and DEVICE_RESET with its key stop the module, and RESET_N clears a trip. (From 15_power_clocks_package.md,
Power Sentry; 15_power_clocks_package.md, Quadrant operating points; 15_power_clocks_package.md, Thermal limits;
15_power_clocks_package.md, Clocks; 16_startup_reset_test_recovery.md, Reset kinds; 05_protected_cache.md, The Cistern.) -/
def Obligations.DumpsAndStops : Prop :=
  (∀ (s : State) (cause kind : Nat), running s = false → startDump s cause kind = s) ∧
  (∀ (s : State) (cause kind : Nat), running s = true → rdN s Obj.STARTUP_STEP 0 ≤ 8 →
    startDump s cause kind = railsOff (modPower (wr s Obj.PS_LAST_STOP_CAUSE 0 cause) (fun x => { x with kind := kind, dumpAt := s.now, mark := none })) kind .standby) ∧
  (∀ (s : State) (cause kind : Nat), running s = true → 8 < rdN s Obj.STARTUP_STEP 0 → ackedDirty s = true → rdN s Obj.CISTERN_STATE 0 = Cs.armed → epochState s = Es.idle → s.pair.enabled = false →
    rdN (startDump s cause kind) Obj.CISTERN_STATE 0 = Cs.dumping ∧ (startDump s cause kind).power.mode = .dumping ∧ (startDump s cause kind).power.dumps = s.power.dumps + 1 ∧
      rdN (startDump s cause kind) Obj.PS_LAST_STOP_CAUSE 0 = cause ∧ rdN (startDump s cause kind) Obj.PS_STATE 0 = 2 ∧ rdN (startDump s cause kind) Obj.CISTERN_DUMPS 0 = (rdN s Obj.CISTERN_DUMPS 0 + 1) % 2 ^ 64 ∧
      (startDump s cause kind).drv.cmds = [] ∧ (startDump s cause kind).qps = []) ∧
  (∀ (s : State) (n : Nat), railsUp s = true → exec (.railFault n) s = .next (tripStop s Sc.railFault n)) ∧
  (∀ (s : State) (n : Nat), railsUp s = false → exec (.railFault n) s = .next s) ∧
  (∀ (s : State) (temp : Int) (n : Nat), railsUp s = true → exec (.thermalTrip temp n) s = .next (thermAlert (tripStop (bump (noteJunction s temp) Obj.THERM_TRIPS 0 1) Sc.thermalTrip n) true)) ∧
  (∀ (s : State) (temp : Int), running s = true → exec (.thermalDump temp) s = .next (startDump (noteJunction s temp) Sc.thermalDump Rk.mainPowerOn)) ∧
  (∀ (s : State) (temp : Int), running s = true → rdB s Obj.THERM_ALERT_ACTIVE 0 = false →
    ∃ t, exec (.thermAlert temp) s = .next t ∧ rdB t Obj.THERM_ALERT_ACTIVE 0 = true ∧ Tbl.get t.pins Pin.thermAlert.num = some 0 ∧ rd t Obj.JUNCTION_TEMP 0 = temp ∧
      rd t Obj.JUNCTION_TEMP_PEAK 0 = max temp (rd s Obj.JUNCTION_TEMP_PEAK 0)) ∧
  (∀ (s : State) (temp : Int), s.power.mode ≠ .halted → rdB s Obj.THERM_ALERT_ACTIVE 0 = true →
    ∃ t, exec (.thermAlertRelease temp) s = .next t ∧ rdB t Obj.THERM_ALERT_ACTIVE 0 = false ∧ Tbl.get t.pins Pin.thermAlert.num = some 1) ∧
  (∀ (s : State) (temp : Int), s.power.mode = .halted → rdB s Obj.THERM_ALERT_ACTIVE 0 = true → ∃ t, exec (.thermAlertRelease temp) s = .next t ∧ rdB t Obj.THERM_ALERT_ACTIVE 0 = true ∧ t.pins = s.pins) ∧
  (∀ (s : State) (q : Nat) (temp : Int), q < 4 → running s = true → stepPending s q = false → Tbl.get s.power.stepped q = none → 4 ≤ rdN s Obj.QUADRANT_DIVIDER_IN_EFFECT q →
    ∃ t, exec (.quadrantStepDown q temp) s = .next t ∧ rdB t Obj.QUADRANT_GATED q = true ∧ rd t Obj.QUADRANT_TEMPERATURE q = temp ∧ t.ep = s.ep) ∧
  (∀ (s : State) (q : Nat) (temp : Int), q < 4 → running s = true → stepPending s q = false → Tbl.get s.power.stepped q = none → rdN s Obj.QUADRANT_DIVIDER_IN_EFFECT q < 4 → epochState s ≠ Es.idle →
    ∃ t, exec (.quadrantStepDown q temp) s = .next t ∧ t.power.thermal = s.power.thermal ++ [(q, 2 * rdN s Obj.QUADRANT_DIVIDER_IN_EFFECT q)] ∧ Tbl.get t.power.stepped q = some s.now ∧ rd t Obj.QUADRANT_TEMPERATURE q = temp) ∧
  (∀ (s : State) (q : Nat) (temp : Int), q < 4 → running s = true → stepPending s q = false → rdB s Obj.QUADRANT_GATED q = true →
    ∃ t, exec (.quadrantReturn q temp) s = .next t ∧ rdB t Obj.QUADRANT_GATED q = false ∧ rdN t Obj.QUADRANT_DIVIDER_IN_EFFECT q = rdN s Obj.QUADRANT_DIVIDER_IN_EFFECT q) ∧
  (∀ (s : State) (q : Nat) (temp : Int), q < 4 → running s = true → stepPending s q = false → rdB s Obj.QUADRANT_GATED q = false → rdN s Obj.QUADRANT_DIVIDER q < rdN s Obj.QUADRANT_DIVIDER_IN_EFFECT q → epochState s ≠ Es.idle →
    ∃ t, exec (.quadrantReturn q temp) s = .next t ∧ t.power.thermal = s.power.thermal ++ [(q, rdN s Obj.QUADRANT_DIVIDER_IN_EFFECT q / 2)]) ∧
  (∀ (s : State), epochState s ≠ Es.idle → ∃ t, exec .thermalEpochRetry s = .next t ∧ t.power.retry = [] ∧ (s.power.thermal ++ s.power.retry = t.power.thermal) ∧ t.dict = s.dict) ∧
  (∀ (s : State) (q d : Nat) (l : List (Nat × Nat)), s.power.thermal = [] → s.power.retry = (q, d) :: l → epochState s = Es.idle → 11 ≤ rdN s Obj.STARTUP_STEP 0 → running s = true →
    exec .thermalEpochRetry s = .next (modEp (startEpoch (modPower s (fun x => { x with thermal := l, retry := [] }))
      [{ key := objKey Obj.QUADRANT_DIVIDER_IN_EFFECT.index q Obj.QUADRANT_DIVIDER_IN_EFFECT.sub, val := .num d, pair := false }] false true) (fun x => { x with thermal := some (q, d) }))) ∧
  (∀ (s : State), rdB s Obj.PLL_MAIN_LOCKED 0 = true →
    ∃ t, exec .pllLockLoss s = .next t ∧ rdB t Obj.PLL_MAIN_LOCKED 0 = false ∧ rdN t Obj.PLL_LOCK_LOSSES 0 = (rdN s Obj.PLL_LOCK_LOSSES 0 + 1) % 2 ^ 64 ∧ t.power.gated = true ∧ t.qps = s.qps ∧ t.pools = s.pools) ∧
  (∀ (s : State), rdB s Obj.PLL_MAIN_LOCKED 0 = false → ∃ t, exec .pllRelock s = .next t ∧ rdB t Obj.PLL_MAIN_LOCKED 0 = true ∧ t.power.gated = false) ∧
  (∀ (s : State), rdB s Obj.PLL_MAIN_LOCKED 0 = false →
    exec .pllFallback s = .next (startDump (wrB (wrB (modPower s (fun x => { x with gated := false })) Obj.PLL_MAIN_LOCKED 0 true) Obj.PLL_FALLBACK 0 true) Sc.pll Rk.pllFallback)) ∧
  (∀ (s : State), rdB s Obj.PLL_MAIN_LOCKED 0 = true → exec .pllFallback s = .next s ∧ exec .pllRelock s = .next s) ∧
  (∀ (s : State), running s = true → exec (.resetNAssert true) s = .next (startDump (setLevel (modPower s (fun x => { x with resetN := true })) 0 false) Sc.other Rk.resetPin)) ∧
  (∀ (s : State), s.power.mode = .halted → ∃ t, exec (.resetNAssert true) s = .next t ∧ t.power.tripped = false ∧ t.power.mode = .standby ∧ rdB t Obj.THERM_ALERT_ACTIVE 0 = false ∧ t.power.resetN = true) ∧
  (∀ (s : State), s.power.mode = .halted → ∃ t, exec (.resetNAssert false) s = .next t ∧ t.power.mode = .halted ∧ t.power.tripped = s.power.tripped ∧ t.power.resetN = true) ∧
  (∀ (s : State), s.power.mode = .standby → s.power.p12v = true → s.power.aux = true → s.power.tripped = false → s.power.stepDone = true → rdN s Obj.STARTUP_STEP 0 = 2 →
    ∃ t, exec (.resetNRelease true) s = .next t ∧ rdN t Obj.STARTUP_STEP 0 = 3 ∧ t.power.resetN = false ∧ bitAt (rdN t Obj.INPUT_LEVELS 0) 0 = true) ∧
  (∀ (s : State), running s = true → 8 ≤ rdN s Obj.STARTUP_STEP 0 → exec .watchdogExpiry s = .next (startDump s Sc.other Rk.watchdog)) ∧
  (∀ (s : State), running s = true → exec (.deviceReset 0x9640B007) s = .next (startDump s Sc.other Rk.deviceReset)) ∧
  (∀ (s : State) (v : Nat), v ≠ 0x9640B007 → exec (.deviceReset v) s = .next s)

/-- Steps 1, 3, 4 and 5 that succeed lead to the next with what each sets: rails and POWER_GOOD, the PLL, the slot that boots
and whether it is the fallback; no slot to boot faults step 5; a step that fails stays there with its fault; a module with a
fault does not move; step 9 ends when it is done or its wait is over, and step 10 brings pools online. The results of steps
come as operands (log entry 143). (From 16_startup_reset_test_recovery.md, The start-up sequence;
16_startup_reset_test_recovery.md, Secure boot and the firmware store; 16_startup_reset_test_recovery.md, Pools at step 10.) -/
def Obligations.StartUp : Prop :=
  (∀ (s : State) (x : StartItem), inStep s 1 = true → rdN s Obj.STARTUP_STEP 0 = 1 → ∃ t, exec (.startupStepDone true x) s = .next t ∧ rdN t Obj.STARTUP_STEP 0 = 2 ∧ t.power = s.power) ∧
  (∀ (s : State) (x : StartItem), inStep s 3 = true → rdN s Obj.STARTUP_STEP 0 = 3 →
    ∃ t, exec (.startupStepDone true x) s = .next t ∧ rdN t Obj.STARTUP_STEP 0 = 4 ∧ t.power.mode = .running ∧ rdN t Obj.RAIL_STATUS 0 = 0x1FF ∧ rdN t Obj.BOOT_LAST_RESET_KIND 0 = s.power.kind ∧
      Tbl.get t.pins Pin.powerGood.num = some 1) ∧
  (∀ (s : State) (x : StartItem), inStep s 4 = true → rdN s Obj.STARTUP_STEP 0 = 4 → ∃ t, exec (.startupStepDone true x) s = .next t ∧ rdN t Obj.STARTUP_STEP 0 = 5 ∧ rdB t Obj.PLL_MAIN_LOCKED 0 = true) ∧
  (∀ (s : State) (x : StartItem) (slot : Nat) (img : FwImage), inStep s 5 = true → rdN s Obj.STARTUP_STEP 0 = 5 → bootChoice (noteTime s 5) x.images = some (slot, img) →
    slot < 2 ∧ verifyResult s img = 1 ∧
    ∃ t, exec (.startupStepDone true x) s = .next t ∧ rdN t Obj.STARTUP_STEP 0 = 6 ∧ rdN t Obj.FW_COMPAT_LEVEL 0 = img.compat ∧ rdN t Obj.BOOT_SLOT_RUNNING 0 = slot ∧ (rdB t Obj.BOOT_FALLBACK 0 = true ↔ slot ≠ rdN (replayConfig (noteTime s 5) x.config) Obj.BOOT_SLOT_PREFERRED 0)) ∧
  (∀ (s : State) (x : StartItem), inStep s 5 = true → rdN s Obj.STARTUP_STEP 0 = 5 → bootChoice (noteTime s 5) x.images = none →
    ∃ t, exec (.startupStepDone true x) s = .next t ∧ rdN t Obj.STARTUP_STEP 0 = 5 ∧ rdN t Obj.STARTUP_FAULT 0 = 5 ∧ t.power.attempts = s.power.attempts + 1) ∧
  (∀ (s : State) (x : StartItem) (n : Nat), n = 1 ∨ n = 2 ∨ n = 3 ∨ n = 4 ∨ n = 8 ∨ n = 9 → inStep s n = true → rdN s Obj.STARTUP_STEP 0 = n →
    ∃ t, exec (.startupStepDone false x) s = .next t ∧ rdN t Obj.STARTUP_STEP 0 = n ∧ rdN t Obj.STARTUP_FAULT 0 = stepFault n ∧ t.power = s.power) ∧
  (∀ (s : State) (ok : Bool) (x : StartItem), rdN s Obj.STARTUP_FAULT 0 ≠ 0 → exec (.startupStepDone ok x) s = .next s) ∧
  (∀ (s : State) (x : StartItem), inStep s 9 = true → rdN s Obj.STARTUP_STEP 0 = 9 → exec (.startupStepDone true x) s = .next (autoOnline (wr (noteTime s 9) Obj.STARTUP_STEP 0 10))) ∧
  (∀ (s : State), inStep s 9 = true → rdN s Obj.STARTUP_STEP 0 = 9 → exec .startMemberWaitExpiry s = .next (autoOnline (wr (noteTime s 9) Obj.STARTUP_STEP 0 10))) ∧
  (∀ (s : State), rdN s Obj.STARTUP_STEP 0 ≠ 9 → exec .startMemberWaitExpiry s = .next s)

/-- A slot that does not run is selected, erased whole, written in units of 64 KiB and verified; one below the security floor or
with a failed check is REJECTED with its result; a verified one may be preferred, and is at once where start-up stopped for
want of an image; FW_SVN_COMMIT with its key raises the floor to the running slot's number; the running slot is left alone.
(From 16_startup_reset_test_recovery.md, Secure boot and the firmware store.) -/
def Obligations.FirmwareStore : Prop :=
  (∀ (s : State) (v : Nat), v ≤ 1 ∨ v = 0xFF → runningSlot s ≠ some v → ∃ t, exec (.fwUpdateSlot v) s = .next t ∧ rdN t Obj.FW_UPDATE_SLOT 0 = v) ∧
  (∀ (s : State) (v : Nat), runningSlot s = some v ∨ (1 < v ∧ v ≠ 0xFF) → exec (.fwUpdateSlot v) s = .next s) ∧
  (∀ (s : State) (k : Nat), k < 2 → runningSlot s ≠ some k →
    ∃ t, exec (.fwSlotErase k) s = .next t ∧ rdN t Obj.FW_SLOT_STATE k = 0 ∧ rdN t Obj.FW_SLOT_SVN k = 0 ∧ rdN t Obj.FW_SLOT_COMPAT_LEVEL k = 0 ∧ (∀ i, i < 512 → Tbl.get t.power.nor (512 * k + i) = none) ∧
      (∀ i, i < 512 → Tbl.get t.power.nor (512 * (1 - k) + i) = Tbl.get s.power.nor (512 * (1 - k) + i))) ∧
  (∀ (s : State) (k : Nat), runningSlot s = some k → exec (.fwSlotErase k) s = .next s) ∧
  (∀ (s : State) (i : Nat) (b : Bytes), i < 512 → b.length = 65536 → rdN s Obj.FW_UPDATE_SLOT 0 ≤ 1 → runningSlot s ≠ some (rdN s Obj.FW_UPDATE_SLOT 0) →
    ∃ t, exec (.fwSlotData i b) s = .next t ∧ Tbl.get t.power.nor (512 * rdN s Obj.FW_UPDATE_SLOT 0 + i) = some b ∧ rdN t Obj.FW_SLOT_STATE (rdN s Obj.FW_UPDATE_SLOT 0) = 1) ∧
  (∀ (s : State) (i : Nat) (b : Bytes), 1 < rdN s Obj.FW_UPDATE_SLOT 0 ∨ b.length ≠ 65536 → exec (.fwSlotData i b) s = .next s) ∧
  (∀ (s : State) (k : Nat) (x : FwImage), k < 2 → runningSlot s ≠ some k → x.formed = true → x.keyHash = signingHash → x.signed = true → x.digest = true → rdN s Obj.FW_SVN_FLOOR 0 ≤ x.svn → rdN s Obj.STARTUP_FAULT 0 ≠ Sf.bootImage →
    ∃ t, exec (.fwSlotVerify k x.toFwAuth x.version x.compat x.svn) s = .next t ∧ rdN t Obj.FW_SLOT_RESULT k = 1 ∧ rdN t Obj.FW_SLOT_STATE k = 2 ∧ rdN t Obj.FW_SLOT_COMPAT_LEVEL k = x.compat ∧ rdN t Obj.FW_SLOT_SVN k = x.svn ∧
      rdBytes t Obj.FW_SLOT_VERSION k = x.version ∧ rdN t Obj.BOOT_SLOT_PREFERRED 0 = rdN s Obj.BOOT_SLOT_PREFERRED 0) ∧
  (∀ (s : State) (k : Nat) (x : FwImage), k < 2 → runningSlot s ≠ some k → x.formed = true → x.keyHash = signingHash → x.signed = true → x.digest = true → rdN s Obj.FW_SVN_FLOOR 0 ≤ x.svn → rdN s Obj.STARTUP_FAULT 0 = Sf.bootImage →
    ∃ t, exec (.fwSlotVerify k x.toFwAuth x.version x.compat x.svn) s = .next t ∧ rdN t Obj.STARTUP_FAULT 0 = 0 ∧ rdN t Obj.BOOT_SLOT_PREFERRED 0 = k) ∧
  (∀ (s : State) (k r : Nat) (x : FwImage), k < 2 → runningSlot s ≠ some k →
    (x.formed = false ∧ r = 6) ∨ (x.formed = true ∧ x.keyHash ≠ signingHash ∧ r = 2) ∨ (x.formed = true ∧ x.keyHash = signingHash ∧ x.signed = false ∧ r = 3) ∨
      (x.formed = true ∧ x.keyHash = signingHash ∧ x.signed = true ∧ x.digest = false ∧ r = 4) ∨
      (x.formed = true ∧ x.keyHash = signingHash ∧ x.signed = true ∧ x.digest = true ∧ x.svn < rdN s Obj.FW_SVN_FLOOR 0 ∧ r = 5) →
    ∃ t, exec (.fwSlotVerify k x.toFwAuth x.version x.compat x.svn) s = .next t ∧ rdN t Obj.FW_SLOT_RESULT k = r ∧ rdN t Obj.FW_SLOT_STATE k = 3) ∧
  (∀ (s : State) (v : Nat), v ≤ 1 → rdN s Obj.FW_SLOT_STATE v = 2 → ∃ t, exec (.bootSlotPreferred v) s = .next t ∧ rdN t Obj.BOOT_SLOT_PREFERRED 0 = v) ∧
  (∀ (s : State) (v : Nat), rdN s Obj.FW_SLOT_STATE v ≠ 2 → exec (.bootSlotPreferred v) s = .next s) ∧
  (∀ (s : State), ∃ t, exec (.fwSvnCommit 0x9640F0F0) s = .next t ∧ rd t Obj.FW_SVN_FLOOR 0 = max (rd s Obj.FW_SVN_FLOOR 0) (rd s Obj.FW_SLOT_SVN (rdN s Obj.BOOT_SLOT_RUNNING 0))) ∧
  (∀ (s : State) (v : Nat), v ≠ 0x9640F0F0 → exec (.fwSvnCommit v) s = .next s)

/-- Each of the six tests whose conditions and pattern hold starts, RUNNING (HOST_PRBS shown with its counts cleared); HOST_PRBS
on a port not held in PERST_N is refused; with one running none starts; a link test ends DONE at its stop or its duration
and ABORTED when its condition is lost, with its counts; JTAG instructions are taken, those that drive pins only while
RESET_N is low, else BYPASS. (From 16_startup_reset_test_recovery.md, On demand; 16_startup_reset_test_recovery.md, Tests.) -/
def Obligations.TestsAndJtag : Prop :=
  (∀ (s : State), s.power.test = none → conditionOk s 1 (rdN s Obj.TEST_TARGET 0) = true → patternOk s 1 (rdN s Obj.TEST_TARGET 0) = true →
    ∃ t, exec .hostPrbs s = .next t ∧ rdN t Obj.TEST_STATE 0 = Ts.running ∧ t.power.test = some { op := 1, target := rdN s Obj.TEST_TARGET 0, started := s.now } ∧ rdN t Obj.TEST_BITS 0 = 0 ∧ rdN t Obj.TEST_ERRORS 0 = 0 ∧ rdBytes t Obj.TEST_LANE_ERRORS 0 = []) ∧
  (∀ (s : State), s.power.test = none → conditionOk s 2 (rdN s Obj.TEST_TARGET 0) = true → patternOk s 2 (rdN s Obj.TEST_TARGET 0) = true →
    ∃ t, exec .drivePrbs s = .next t ∧ rdN t Obj.TEST_STATE 0 = Ts.running ∧ t.power.test = some { op := 2, target := rdN s Obj.TEST_TARGET 0, started := s.now }) ∧
  (∀ (s : State), s.power.test = none → conditionOk s 3 (rdN s Obj.TEST_TARGET 0) = true → patternOk s 3 (rdN s Obj.TEST_TARGET 0) = true →
    ∃ t, exec .culvertPrbs s = .next t ∧ rdN t Obj.TEST_STATE 0 = Ts.running ∧ t.power.test = some { op := 3, target := rdN s Obj.TEST_TARGET 0, started := s.now }) ∧
  (∀ (s : State), s.power.test = none → conditionOk s 4 (rdN s Obj.TEST_TARGET 0) = true → patternOk s 4 (rdN s Obj.TEST_TARGET 0) = true →
    ∃ t, exec .culvertLoopback s = .next t ∧ rdN t Obj.TEST_STATE 0 = Ts.running ∧ t.power.test = some { op := 4, target := rdN s Obj.TEST_TARGET 0, started := s.now }) ∧
  (∀ (s : State), s.power.test = none → conditionOk s 5 (rdN s Obj.TEST_TARGET 0) = true → patternOk s 5 (rdN s Obj.TEST_TARGET 0) = true →
    ∃ t, exec .hbmPattern s = .next t ∧ rdN t Obj.TEST_STATE 0 = Ts.running ∧ t.power.test = some { op := 5, target := rdN s Obj.TEST_TARGET 0, started := s.now } ∧ t.cache.rc = []) ∧
  (∀ (s : State), s.power.test = none → conditionOk s 6 (rdN s Obj.TEST_TARGET 0) = true →
    ∃ t, exec .cisternSelftest s = .next t ∧ rdN t Obj.TEST_STATE 0 = Ts.running ∧ t.power.test = some { op := 6, target := rdN s Obj.TEST_TARGET 0, started := s.now }) ∧
  (∀ (s : State), s.power.test = none → rdN s Obj.TEST_TARGET 0 = 1 → (hostPort s 1).perst = false → ∃ t, exec .hostPrbs s = .next t ∧ rdN t Obj.TEST_STATE 0 = Ts.refused ∧ t.power = s.power) ∧
  (∀ (s : State), s.power.test ≠ none → exec .hostPrbs s = .next s ∧ exec .drivePrbs s = .next s ∧ exec .culvertPrbs s = .next s ∧ exec .culvertLoopback s = .next s ∧ exec .hbmPattern s = .next s ∧ exec .cisternSelftest s = .next s) ∧
  (∀ (s : State) (r : TestRun) (x : TestItem), s.power.test = some r → r.op ≠ 6 →
    ∃ t, exec (.testStop x) s = .next t ∧ rdN t Obj.TEST_STATE 0 = Ts.done ∧ rdN t Obj.TEST_BITS 0 = x.bits ∧ rdN t Obj.TEST_ERRORS 0 = x.errors ∧ t.power.test = none) ∧
  (∀ (s : State) (r : TestRun) (x : TestItem), s.power.test = some r → r.op ≠ 6 →
    ∃ t, exec (.testDurationExpiry x) s = .next t ∧ rdN t Obj.TEST_STATE 0 = Ts.done ∧ rdN t Obj.TEST_BITS 0 = x.bits ∧ rdN t Obj.TEST_ERRORS 0 = x.errors ∧ t.power.test = none) ∧
  (∀ (s : State) (r : TestRun) (x : TestItem), s.power.test = some r →
    ∃ t, exec (.testConditionLost x) s = .next t ∧ rdN t Obj.TEST_STATE 0 = Ts.aborted ∧ rdN t Obj.TEST_BITS 0 = x.bits ∧ rdN t Obj.TEST_ERRORS 0 = x.errors ∧ t.power.test = none) ∧
  (∀ (s : State) (x : TestItem), s.power.test = none → exec (.testStop x) s = .next s ∧ exec (.testDurationExpiry x) s = .next s ∧ exec (.testConditionLost x) s = .next s) ∧
  (∀ (s : State) (op : JtagOp), s.power.resetN = true → ∃ t, exec (.jtagInstruction op) s = .next t ∧ t.power.jtag = op ∧ t.dict = s.dict) ∧
  (∀ (s : State) (op : JtagOp), s.power.resetN = false → op = .extest ∨ op = .clamp ∨ op = .highz → ∃ t, exec (.jtagInstruction op) s = .next t ∧ t.power.jtag = .bypass ∧ t.dict = s.dict) ∧
  (∀ (s : State) (op : JtagOp), s.power.resetN = false → op ≠ .extest → op ≠ .clamp → op ≠ .highz → ∃ t, exec (.jtagInstruction op) s = .next t ∧ t.power.jtag = op ∧ t.dict = s.dict)
end

