-- ==== Sys2Proof/Laws/Tbl.lean ====
section
/-! SUPPORT. Laws of sorted tables: reading after writing, and the canonical form that every write keeps. -/

namespace Sys2Proof.Machine

open Sys2Proof

/-! ## Reading after writing -/

@[simp] theorem Tbl.get_nil {α : Type} (k : Nat) : Tbl.get ([] : Tbl α) k = none := rfl

@[simp] theorem Tbl.get_set_same {α : Type} (t : Tbl α) (k : Nat) (v : α) : Tbl.get (Tbl.set t k v) k = some v := by
  induction t with
  | nil => simp [Tbl.set, Tbl.get]
  | cons p r ih =>
    obtain ⟨j, w⟩ := p
    simp only [Tbl.set]
    split
    · simp [Tbl.get]
    · split
      · simp [Tbl.get]
      · rename_i h1 h2
        have hj : ¬ j = k := fun e => h2 e.symm
        simp [Tbl.get, hj, ih]

theorem Tbl.get_set_other {α : Type} (t : Tbl α) {k j : Nat} (v : α) (h : j ≠ k) : Tbl.get (Tbl.set t k v) j = Tbl.get t j := by
  induction t with
  | nil => simp [Tbl.set, Tbl.get, Ne.symm h]
  | cons p r ih =>
    obtain ⟨i, w⟩ := p
    simp only [Tbl.set]
    split
    · simp [Tbl.get, Ne.symm h]
    · split
      · rename_i h1 h2
        subst h2
        simp [Tbl.get, Ne.symm h]
      · simp [Tbl.get, ih]

@[simp] theorem Tbl.get_erase_same {α : Type} (t : Tbl α) (k : Nat) : Tbl.get (Tbl.erase t k) k = none := by
  induction t with
  | nil => rfl
  | cons p r ih =>
    obtain ⟨j, w⟩ := p
    simp only [Tbl.erase]
    split
    · exact ih
    · rename_i h
      simp [Tbl.get, h, ih]

theorem Tbl.get_erase_other {α : Type} (t : Tbl α) {k j : Nat} (h : j ≠ k) : Tbl.get (Tbl.erase t k) j = Tbl.get t j := by
  induction t with
  | nil => rfl
  | cons p r ih =>
    obtain ⟨i, w⟩ := p
    simp only [Tbl.erase]
    split
    · rename_i e
      subst e
      simp [Tbl.get, Ne.symm h, ih]
    · simp [Tbl.get, ih]

theorem Tbl.get_put_same {α : Type} [DecidableEq α] (t : Tbl α) (d : α) (k : Nat) (v : α) :
    (Tbl.get (Tbl.put t d k v) k).getD d = v := by
  unfold Tbl.put
  split
  · rename_i h
    simp [h]
  · simp

theorem Tbl.get_put_other {α : Type} [DecidableEq α] (t : Tbl α) (d : α) {k j : Nat} (v : α) (h : j ≠ k) :
    Tbl.get (Tbl.put t d k v) j = Tbl.get t j := by
  unfold Tbl.put
  split
  · exact Tbl.get_erase_other t h
  · exact Tbl.get_set_other t v h

@[simp] theorem Tbl.getD_set_same {α : Type} (t : Tbl α) (k : Nat) (v d : α) : Tbl.getD (Tbl.set t k v) k d = v := by
  simp [Tbl.getD]

theorem Tbl.getD_set_other {α : Type} (t : Tbl α) {k j : Nat} (v d : α) (h : j ≠ k) : Tbl.getD (Tbl.set t k v) j d = Tbl.getD t j d := by
  simp [Tbl.getD, Tbl.get_set_other t v h]

/-! ## The canonical form -/

/-- Every key of the table is above `n`. -/
def Tbl.above {α : Type} (n : Nat) (t : Tbl α) : Prop :=
  ∀ e ∈ t, n < e.1

theorem Tbl.wf_cons {α : Type} (j : Nat) (w : α) (r : Tbl α) : Tbl.wf ((j, w) :: r) = true ↔ Tbl.above j r ∧ Tbl.wf r = true := by
  induction r generalizing j w with
  | nil => simp [Tbl.wf, Tbl.above]
  | cons p q ih =>
    obtain ⟨k, x⟩ := p
    rw [Tbl.wf, Bool.and_eq_true, decide_eq_true_eq]
    constructor
    · rintro ⟨h, hw⟩
      refine ⟨?_, hw⟩
      intro e he
      rcases List.mem_cons.mp he with rfl | he
      · exact h
      · exact Nat.lt_trans h (((ih k x).mp hw).1 e he)
    · rintro ⟨h, hw⟩
      exact ⟨h (k, x) (List.mem_cons_self ..), hw⟩

theorem Tbl.above_set {α : Type} {n k : Nat} {t : Tbl α} (v : α) (hk : n < k) (h : Tbl.above n t) : Tbl.above n (Tbl.set t k v) := by
  induction t with
  | nil => intro e he; simp [Tbl.set] at he; subst he; exact hk
  | cons p r ih =>
    obtain ⟨j, w⟩ := p
    have hj : n < j := h (j, w) (List.mem_cons_self ..)
    have hr : Tbl.above n r := fun e he => h e (List.mem_cons_of_mem _ he)
    intro e he
    simp only [Tbl.set] at he
    split at he
    · rcases List.mem_cons.mp he with rfl | he
      · exact hk
      · exact h e he
    · split at he
      · rcases List.mem_cons.mp he with rfl | he
        · exact hk
        · exact hr e he
      · rcases List.mem_cons.mp he with rfl | he
        · exact hj
        · exact ih hr e he

theorem Tbl.wf_set {α : Type} {t : Tbl α} (k : Nat) (v : α) (h : Tbl.wf t = true) : Tbl.wf (Tbl.set t k v) = true := by
  induction t with
  | nil => rfl
  | cons p r ih =>
    obtain ⟨j, w⟩ := p
    have ⟨ha, hr⟩ := (Tbl.wf_cons j w r).mp h
    simp only [Tbl.set]
    split
    · rename_i hk
      refine (Tbl.wf_cons k v _).mpr ⟨?_, h⟩
      intro e he
      rcases List.mem_cons.mp he with rfl | he
      · exact hk
      · exact Nat.lt_trans hk (ha e he)
    · split
      · rename_i hk
        subst hk
        exact (Tbl.wf_cons k v r).mpr ⟨ha, hr⟩
      · rename_i h1 h2
        exact (Tbl.wf_cons j w _).mpr ⟨Tbl.above_set v (by omega) ha, ih hr⟩

theorem Tbl.mem_of_mem_erase {α : Type} {k : Nat} {t : Tbl α} {e : Nat × α} (h : e ∈ Tbl.erase t k) : e ∈ t := by
  induction t with
  | nil => exact h
  | cons p r ih =>
    obtain ⟨j, w⟩ := p
    simp only [Tbl.erase] at h
    split at h
    · exact List.mem_cons_of_mem _ (ih h)
    · rcases List.mem_cons.mp h with rfl | h
      · exact List.mem_cons_self ..
      · exact List.mem_cons_of_mem _ (ih h)

theorem Tbl.wf_erase {α : Type} {t : Tbl α} (k : Nat) (h : Tbl.wf t = true) : Tbl.wf (Tbl.erase t k) = true := by
  induction t with
  | nil => rfl
  | cons p r ih =>
    obtain ⟨j, w⟩ := p
    have ⟨ha, hr⟩ := (Tbl.wf_cons j w r).mp h
    simp only [Tbl.erase]
    split
    · exact ih hr
    · exact (Tbl.wf_cons j w _).mpr ⟨fun e he => ha e (Tbl.mem_of_mem_erase he), ih hr⟩

theorem Tbl.wf_put {α : Type} [DecidableEq α] {t : Tbl α} (d : α) (k : Nat) (v : α) (h : Tbl.wf t = true) : Tbl.wf (Tbl.put t d k v) = true := by
  unfold Tbl.put
  split
  · exact Tbl.wf_erase k h
  · exact Tbl.wf_set k v h

theorem Tbl.wf_filter {α : Type} {t : Tbl α} (p : Nat × α → Bool) (h : Tbl.wf t = true) : Tbl.wf (List.filter p t) = true := by
  induction t with
  | nil => rfl
  | cons q r ih =>
    obtain ⟨j, w⟩ := q
    have ⟨ha, hr⟩ := (Tbl.wf_cons j w r).mp h
    simp only [List.filter_cons]
    split
    · exact (Tbl.wf_cons j w _).mpr ⟨fun e he => ha e (List.mem_of_mem_filter he), ih hr⟩
    · exact ih hr

theorem Tbl.wf_filterK {α : Type} {t : Tbl α} (p : Nat → Bool) (h : Tbl.wf t = true) : Tbl.wf (Tbl.filterK t p) = true :=
  Tbl.wf_filter _ h

theorem Tbl.wf_modify {α : Type} {t : Tbl α} (k : Nat) (f : α → α) (h : Tbl.wf t = true) : Tbl.wf (Tbl.modify t k f) = true := by
  unfold Tbl.modify
  split
  · exact Tbl.wf_set _ _ h
  · exact h

theorem Tbl.wf_foldl_set {α : Type} (l : List (Nat × α)) {t : Tbl α} (h : Tbl.wf t = true) : Tbl.wf (l.foldl (fun r e => Tbl.set r e.1 e.2) t) = true := by
  induction l generalizing t with
  | nil => exact h
  | cons e l ih => exact ih (Tbl.wf_set _ _ h)

end Sys2Proof.Machine
end

