-- ==== Sys2Proof/Laws/State.lean ====
section
/-! SUPPORT. What each update of the state leaves alone: one lemma per field and update, true by definition. -/

namespace Sys2Proof.Machine

open Sys2Proof

variable (s : State)

@[simp] theorem wr_now (o : ObjDesc) (i : Nat) (v : Int) : (wr s o i v).now = s.now := rfl
@[simp] theorem wr_bootAt (o : ObjDesc) (i : Nat) (v : Int) : (wr s o i v).bootAt = s.bootAt := rfl
@[simp] theorem wr_ep (o : ObjDesc) (i : Nat) (v : Int) : (wr s o i v).ep = s.ep := rfl
@[simp] theorem wr_ev (o : ObjDesc) (i : Nat) (v : Int) : (wr s o i v).ev = s.ev := rfl
@[simp] theorem wr_qps (o : ObjDesc) (i : Nat) (v : Int) : (wr s o i v).qps = s.qps := rfl
@[simp] theorem wr_sluice (o : ObjDesc) (i : Nat) (v : Int) : (wr s o i v).sluice = s.sluice := rfl
@[simp] theorem wr_host (o : ObjDesc) (i : Nat) (v : Int) : (wr s o i v).host = s.host := rfl
@[simp] theorem wr_vols (o : ObjDesc) (i : Nat) (v : Int) : (wr s o i v).vols = s.vols := rfl
@[simp] theorem wr_map (o : ObjDesc) (i : Nat) (v : Int) : (wr s o i v).map = s.map := rfl
@[simp] theorem wr_prot (o : ObjDesc) (i : Nat) (v : Int) : (wr s o i v).prot = s.prot := rfl
@[simp] theorem wr_pools (o : ObjDesc) (i : Nat) (v : Int) : (wr s o i v).pools = s.pools := rfl
@[simp] theorem wr_ilog (o : ObjDesc) (i : Nat) (v : Int) : (wr s o i v).ilog = s.ilog := rfl
@[simp] theorem wr_drv (o : ObjDesc) (i : Nat) (v : Int) : (wr s o i v).drv = s.drv := rfl
@[simp] theorem wr_key (o : ObjDesc) (i : Nat) (v : Int) : (wr s o i v).key = s.key := rfl
@[simp] theorem wr_cache (o : ObjDesc) (i : Nat) (v : Int) : (wr s o i v).cache = s.cache := rfl
@[simp] theorem wr_lines (o : ObjDesc) (i : Nat) (v : Int) : (wr s o i v).lines = s.lines := rfl
@[simp] theorem wr_pair (o : ObjDesc) (i : Nat) (v : Int) : (wr s o i v).pair = s.pair := rfl
@[simp] theorem wr_pack (o : ObjDesc) (i : Nat) (v : Int) : (wr s o i v).pack = s.pack := rfl
@[simp] theorem wr_power (o : ObjDesc) (i : Nat) (v : Int) : (wr s o i v).power = s.power := rfl
@[simp] theorem wr_mgmt (o : ObjDesc) (i : Nat) (v : Int) : (wr s o i v).mgmt = s.mgmt := rfl
@[simp] theorem wr_pins (o : ObjDesc) (i : Nat) (v : Int) : (wr s o i v).pins = s.pins := rfl
@[simp] theorem wr_out (o : ObjDesc) (i : Nat) (v : Int) : (wr s o i v).out = s.out := rfl
@[simp] theorem wr_freeCtr (o : ObjDesc) (i : Nat) (v : Int) : (wr s o i v).freeCtr = s.freeCtr := rfl
@[simp] theorem wr_pending (o : ObjDesc) (i : Nat) (v : Int) : (wr s o i v).pending = s.pending := rfl

@[simp] theorem wrB_now (o : ObjDesc) (i : Nat) (b : Bool) : (wrB s o i b).now = s.now := rfl
@[simp] theorem wrB_bootAt (o : ObjDesc) (i : Nat) (b : Bool) : (wrB s o i b).bootAt = s.bootAt := rfl
@[simp] theorem wrB_ep (o : ObjDesc) (i : Nat) (b : Bool) : (wrB s o i b).ep = s.ep := rfl
@[simp] theorem wrB_ev (o : ObjDesc) (i : Nat) (b : Bool) : (wrB s o i b).ev = s.ev := rfl
@[simp] theorem wrB_qps (o : ObjDesc) (i : Nat) (b : Bool) : (wrB s o i b).qps = s.qps := rfl
@[simp] theorem wrB_sluice (o : ObjDesc) (i : Nat) (b : Bool) : (wrB s o i b).sluice = s.sluice := rfl
@[simp] theorem wrB_host (o : ObjDesc) (i : Nat) (b : Bool) : (wrB s o i b).host = s.host := rfl
@[simp] theorem wrB_vols (o : ObjDesc) (i : Nat) (b : Bool) : (wrB s o i b).vols = s.vols := rfl
@[simp] theorem wrB_map (o : ObjDesc) (i : Nat) (b : Bool) : (wrB s o i b).map = s.map := rfl
@[simp] theorem wrB_prot (o : ObjDesc) (i : Nat) (b : Bool) : (wrB s o i b).prot = s.prot := rfl
@[simp] theorem wrB_pools (o : ObjDesc) (i : Nat) (b : Bool) : (wrB s o i b).pools = s.pools := rfl
@[simp] theorem wrB_ilog (o : ObjDesc) (i : Nat) (b : Bool) : (wrB s o i b).ilog = s.ilog := rfl
@[simp] theorem wrB_drv (o : ObjDesc) (i : Nat) (b : Bool) : (wrB s o i b).drv = s.drv := rfl
@[simp] theorem wrB_key (o : ObjDesc) (i : Nat) (b : Bool) : (wrB s o i b).key = s.key := rfl
@[simp] theorem wrB_cache (o : ObjDesc) (i : Nat) (b : Bool) : (wrB s o i b).cache = s.cache := rfl
@[simp] theorem wrB_lines (o : ObjDesc) (i : Nat) (b : Bool) : (wrB s o i b).lines = s.lines := rfl
@[simp] theorem wrB_pair (o : ObjDesc) (i : Nat) (b : Bool) : (wrB s o i b).pair = s.pair := rfl
@[simp] theorem wrB_pack (o : ObjDesc) (i : Nat) (b : Bool) : (wrB s o i b).pack = s.pack := rfl
@[simp] theorem wrB_power (o : ObjDesc) (i : Nat) (b : Bool) : (wrB s o i b).power = s.power := rfl
@[simp] theorem wrB_mgmt (o : ObjDesc) (i : Nat) (b : Bool) : (wrB s o i b).mgmt = s.mgmt := rfl
@[simp] theorem wrB_pins (o : ObjDesc) (i : Nat) (b : Bool) : (wrB s o i b).pins = s.pins := rfl
@[simp] theorem wrB_out (o : ObjDesc) (i : Nat) (b : Bool) : (wrB s o i b).out = s.out := rfl
@[simp] theorem wrB_freeCtr (o : ObjDesc) (i : Nat) (b : Bool) : (wrB s o i b).freeCtr = s.freeCtr := rfl
@[simp] theorem wrB_pending (o : ObjDesc) (i : Nat) (b : Bool) : (wrB s o i b).pending = s.pending := rfl

@[simp] theorem wrBytes_now (o : ObjDesc) (i : Nat) (b : Bytes) : (wrBytes s o i b).now = s.now := rfl
@[simp] theorem wrBytes_bootAt (o : ObjDesc) (i : Nat) (b : Bytes) : (wrBytes s o i b).bootAt = s.bootAt := rfl
@[simp] theorem wrBytes_ep (o : ObjDesc) (i : Nat) (b : Bytes) : (wrBytes s o i b).ep = s.ep := rfl
@[simp] theorem wrBytes_ev (o : ObjDesc) (i : Nat) (b : Bytes) : (wrBytes s o i b).ev = s.ev := rfl
@[simp] theorem wrBytes_qps (o : ObjDesc) (i : Nat) (b : Bytes) : (wrBytes s o i b).qps = s.qps := rfl
@[simp] theorem wrBytes_sluice (o : ObjDesc) (i : Nat) (b : Bytes) : (wrBytes s o i b).sluice = s.sluice := rfl
@[simp] theorem wrBytes_host (o : ObjDesc) (i : Nat) (b : Bytes) : (wrBytes s o i b).host = s.host := rfl
@[simp] theorem wrBytes_vols (o : ObjDesc) (i : Nat) (b : Bytes) : (wrBytes s o i b).vols = s.vols := rfl
@[simp] theorem wrBytes_map (o : ObjDesc) (i : Nat) (b : Bytes) : (wrBytes s o i b).map = s.map := rfl
@[simp] theorem wrBytes_prot (o : ObjDesc) (i : Nat) (b : Bytes) : (wrBytes s o i b).prot = s.prot := rfl
@[simp] theorem wrBytes_pools (o : ObjDesc) (i : Nat) (b : Bytes) : (wrBytes s o i b).pools = s.pools := rfl
@[simp] theorem wrBytes_ilog (o : ObjDesc) (i : Nat) (b : Bytes) : (wrBytes s o i b).ilog = s.ilog := rfl
@[simp] theorem wrBytes_drv (o : ObjDesc) (i : Nat) (b : Bytes) : (wrBytes s o i b).drv = s.drv := rfl
@[simp] theorem wrBytes_key (o : ObjDesc) (i : Nat) (b : Bytes) : (wrBytes s o i b).key = s.key := rfl
@[simp] theorem wrBytes_cache (o : ObjDesc) (i : Nat) (b : Bytes) : (wrBytes s o i b).cache = s.cache := rfl
@[simp] theorem wrBytes_lines (o : ObjDesc) (i : Nat) (b : Bytes) : (wrBytes s o i b).lines = s.lines := rfl
@[simp] theorem wrBytes_pair (o : ObjDesc) (i : Nat) (b : Bytes) : (wrBytes s o i b).pair = s.pair := rfl
@[simp] theorem wrBytes_pack (o : ObjDesc) (i : Nat) (b : Bytes) : (wrBytes s o i b).pack = s.pack := rfl
@[simp] theorem wrBytes_power (o : ObjDesc) (i : Nat) (b : Bytes) : (wrBytes s o i b).power = s.power := rfl
@[simp] theorem wrBytes_mgmt (o : ObjDesc) (i : Nat) (b : Bytes) : (wrBytes s o i b).mgmt = s.mgmt := rfl
@[simp] theorem wrBytes_pins (o : ObjDesc) (i : Nat) (b : Bytes) : (wrBytes s o i b).pins = s.pins := rfl
@[simp] theorem wrBytes_out (o : ObjDesc) (i : Nat) (b : Bytes) : (wrBytes s o i b).out = s.out := rfl
@[simp] theorem wrBytes_freeCtr (o : ObjDesc) (i : Nat) (b : Bytes) : (wrBytes s o i b).freeCtr = s.freeCtr := rfl
@[simp] theorem wrBytes_pending (o : ObjDesc) (i : Nat) (b : Bytes) : (wrBytes s o i b).pending = s.pending := rfl

@[simp] theorem bump_now (o : ObjDesc) (i n : Nat) : (bump s o i n).now = s.now := rfl
@[simp] theorem bump_bootAt (o : ObjDesc) (i n : Nat) : (bump s o i n).bootAt = s.bootAt := rfl
@[simp] theorem bump_ep (o : ObjDesc) (i n : Nat) : (bump s o i n).ep = s.ep := rfl
@[simp] theorem bump_ev (o : ObjDesc) (i n : Nat) : (bump s o i n).ev = s.ev := rfl
@[simp] theorem bump_qps (o : ObjDesc) (i n : Nat) : (bump s o i n).qps = s.qps := rfl
@[simp] theorem bump_sluice (o : ObjDesc) (i n : Nat) : (bump s o i n).sluice = s.sluice := rfl
@[simp] theorem bump_host (o : ObjDesc) (i n : Nat) : (bump s o i n).host = s.host := rfl
@[simp] theorem bump_vols (o : ObjDesc) (i n : Nat) : (bump s o i n).vols = s.vols := rfl
@[simp] theorem bump_map (o : ObjDesc) (i n : Nat) : (bump s o i n).map = s.map := rfl
@[simp] theorem bump_prot (o : ObjDesc) (i n : Nat) : (bump s o i n).prot = s.prot := rfl
@[simp] theorem bump_pools (o : ObjDesc) (i n : Nat) : (bump s o i n).pools = s.pools := rfl
@[simp] theorem bump_ilog (o : ObjDesc) (i n : Nat) : (bump s o i n).ilog = s.ilog := rfl
@[simp] theorem bump_drv (o : ObjDesc) (i n : Nat) : (bump s o i n).drv = s.drv := rfl
@[simp] theorem bump_key (o : ObjDesc) (i n : Nat) : (bump s o i n).key = s.key := rfl
@[simp] theorem bump_cache (o : ObjDesc) (i n : Nat) : (bump s o i n).cache = s.cache := rfl
@[simp] theorem bump_lines (o : ObjDesc) (i n : Nat) : (bump s o i n).lines = s.lines := rfl
@[simp] theorem bump_pair (o : ObjDesc) (i n : Nat) : (bump s o i n).pair = s.pair := rfl
@[simp] theorem bump_pack (o : ObjDesc) (i n : Nat) : (bump s o i n).pack = s.pack := rfl
@[simp] theorem bump_power (o : ObjDesc) (i n : Nat) : (bump s o i n).power = s.power := rfl
@[simp] theorem bump_mgmt (o : ObjDesc) (i n : Nat) : (bump s o i n).mgmt = s.mgmt := rfl
@[simp] theorem bump_pins (o : ObjDesc) (i n : Nat) : (bump s o i n).pins = s.pins := rfl
@[simp] theorem bump_out (o : ObjDesc) (i n : Nat) : (bump s o i n).out = s.out := rfl
@[simp] theorem bump_freeCtr (o : ObjDesc) (i n : Nat) : (bump s o i n).freeCtr = s.freeCtr := rfl
@[simp] theorem bump_pending (o : ObjDesc) (i n : Nat) : (bump s o i n).pending = s.pending := rfl

@[simp] theorem drop_now (o : ObjDesc) (i n : Nat) : (drop s o i n).now = s.now := rfl
@[simp] theorem drop_bootAt (o : ObjDesc) (i n : Nat) : (drop s o i n).bootAt = s.bootAt := rfl
@[simp] theorem drop_ep (o : ObjDesc) (i n : Nat) : (drop s o i n).ep = s.ep := rfl
@[simp] theorem drop_ev (o : ObjDesc) (i n : Nat) : (drop s o i n).ev = s.ev := rfl
@[simp] theorem drop_qps (o : ObjDesc) (i n : Nat) : (drop s o i n).qps = s.qps := rfl
@[simp] theorem drop_sluice (o : ObjDesc) (i n : Nat) : (drop s o i n).sluice = s.sluice := rfl
@[simp] theorem drop_host (o : ObjDesc) (i n : Nat) : (drop s o i n).host = s.host := rfl
@[simp] theorem drop_vols (o : ObjDesc) (i n : Nat) : (drop s o i n).vols = s.vols := rfl
@[simp] theorem drop_map (o : ObjDesc) (i n : Nat) : (drop s o i n).map = s.map := rfl
@[simp] theorem drop_prot (o : ObjDesc) (i n : Nat) : (drop s o i n).prot = s.prot := rfl
@[simp] theorem drop_pools (o : ObjDesc) (i n : Nat) : (drop s o i n).pools = s.pools := rfl
@[simp] theorem drop_ilog (o : ObjDesc) (i n : Nat) : (drop s o i n).ilog = s.ilog := rfl
@[simp] theorem drop_drv (o : ObjDesc) (i n : Nat) : (drop s o i n).drv = s.drv := rfl
@[simp] theorem drop_key (o : ObjDesc) (i n : Nat) : (drop s o i n).key = s.key := rfl
@[simp] theorem drop_cache (o : ObjDesc) (i n : Nat) : (drop s o i n).cache = s.cache := rfl
@[simp] theorem drop_lines (o : ObjDesc) (i n : Nat) : (drop s o i n).lines = s.lines := rfl
@[simp] theorem drop_pair (o : ObjDesc) (i n : Nat) : (drop s o i n).pair = s.pair := rfl
@[simp] theorem drop_pack (o : ObjDesc) (i n : Nat) : (drop s o i n).pack = s.pack := rfl
@[simp] theorem drop_power (o : ObjDesc) (i n : Nat) : (drop s o i n).power = s.power := rfl
@[simp] theorem drop_mgmt (o : ObjDesc) (i n : Nat) : (drop s o i n).mgmt = s.mgmt := rfl
@[simp] theorem drop_pins (o : ObjDesc) (i n : Nat) : (drop s o i n).pins = s.pins := rfl
@[simp] theorem drop_out (o : ObjDesc) (i n : Nat) : (drop s o i n).out = s.out := rfl
@[simp] theorem drop_freeCtr (o : ObjDesc) (i n : Nat) : (drop s o i n).freeCtr = s.freeCtr := rfl
@[simp] theorem drop_pending (o : ObjDesc) (i n : Nat) : (drop s o i n).pending = s.pending := rfl

@[simp] theorem clr_now (o : ObjDesc) (i : Nat) : (clr s o i).now = s.now := rfl
@[simp] theorem clr_bootAt (o : ObjDesc) (i : Nat) : (clr s o i).bootAt = s.bootAt := rfl
@[simp] theorem clr_ep (o : ObjDesc) (i : Nat) : (clr s o i).ep = s.ep := rfl
@[simp] theorem clr_ev (o : ObjDesc) (i : Nat) : (clr s o i).ev = s.ev := rfl
@[simp] theorem clr_qps (o : ObjDesc) (i : Nat) : (clr s o i).qps = s.qps := rfl
@[simp] theorem clr_sluice (o : ObjDesc) (i : Nat) : (clr s o i).sluice = s.sluice := rfl
@[simp] theorem clr_host (o : ObjDesc) (i : Nat) : (clr s o i).host = s.host := rfl
@[simp] theorem clr_vols (o : ObjDesc) (i : Nat) : (clr s o i).vols = s.vols := rfl
@[simp] theorem clr_map (o : ObjDesc) (i : Nat) : (clr s o i).map = s.map := rfl
@[simp] theorem clr_prot (o : ObjDesc) (i : Nat) : (clr s o i).prot = s.prot := rfl
@[simp] theorem clr_pools (o : ObjDesc) (i : Nat) : (clr s o i).pools = s.pools := rfl
@[simp] theorem clr_ilog (o : ObjDesc) (i : Nat) : (clr s o i).ilog = s.ilog := rfl
@[simp] theorem clr_drv (o : ObjDesc) (i : Nat) : (clr s o i).drv = s.drv := rfl
@[simp] theorem clr_key (o : ObjDesc) (i : Nat) : (clr s o i).key = s.key := rfl
@[simp] theorem clr_cache (o : ObjDesc) (i : Nat) : (clr s o i).cache = s.cache := rfl
@[simp] theorem clr_lines (o : ObjDesc) (i : Nat) : (clr s o i).lines = s.lines := rfl
@[simp] theorem clr_pair (o : ObjDesc) (i : Nat) : (clr s o i).pair = s.pair := rfl
@[simp] theorem clr_pack (o : ObjDesc) (i : Nat) : (clr s o i).pack = s.pack := rfl
@[simp] theorem clr_power (o : ObjDesc) (i : Nat) : (clr s o i).power = s.power := rfl
@[simp] theorem clr_mgmt (o : ObjDesc) (i : Nat) : (clr s o i).mgmt = s.mgmt := rfl
@[simp] theorem clr_pins (o : ObjDesc) (i : Nat) : (clr s o i).pins = s.pins := rfl
@[simp] theorem clr_out (o : ObjDesc) (i : Nat) : (clr s o i).out = s.out := rfl
@[simp] theorem clr_freeCtr (o : ObjDesc) (i : Nat) : (clr s o i).freeCtr = s.freeCtr := rfl
@[simp] theorem clr_pending (o : ObjDesc) (i : Nat) : (clr s o i).pending = s.pending := rfl

@[simp] theorem count_now (o : ObjDesc) (i n : Nat) : (count s o i n).now = s.now := rfl
@[simp] theorem count_bootAt (o : ObjDesc) (i n : Nat) : (count s o i n).bootAt = s.bootAt := rfl
@[simp] theorem count_ep (o : ObjDesc) (i n : Nat) : (count s o i n).ep = s.ep := rfl
@[simp] theorem count_ev (o : ObjDesc) (i n : Nat) : (count s o i n).ev = s.ev := rfl
@[simp] theorem count_qps (o : ObjDesc) (i n : Nat) : (count s o i n).qps = s.qps := rfl
@[simp] theorem count_sluice (o : ObjDesc) (i n : Nat) : (count s o i n).sluice = s.sluice := rfl
@[simp] theorem count_host (o : ObjDesc) (i n : Nat) : (count s o i n).host = s.host := rfl
@[simp] theorem count_vols (o : ObjDesc) (i n : Nat) : (count s o i n).vols = s.vols := rfl
@[simp] theorem count_map (o : ObjDesc) (i n : Nat) : (count s o i n).map = s.map := rfl
@[simp] theorem count_prot (o : ObjDesc) (i n : Nat) : (count s o i n).prot = s.prot := rfl
@[simp] theorem count_pools (o : ObjDesc) (i n : Nat) : (count s o i n).pools = s.pools := rfl
@[simp] theorem count_ilog (o : ObjDesc) (i n : Nat) : (count s o i n).ilog = s.ilog := rfl
@[simp] theorem count_drv (o : ObjDesc) (i n : Nat) : (count s o i n).drv = s.drv := rfl
@[simp] theorem count_key (o : ObjDesc) (i n : Nat) : (count s o i n).key = s.key := rfl
@[simp] theorem count_cache (o : ObjDesc) (i n : Nat) : (count s o i n).cache = s.cache := rfl
@[simp] theorem count_lines (o : ObjDesc) (i n : Nat) : (count s o i n).lines = s.lines := rfl
@[simp] theorem count_pair (o : ObjDesc) (i n : Nat) : (count s o i n).pair = s.pair := rfl
@[simp] theorem count_pack (o : ObjDesc) (i n : Nat) : (count s o i n).pack = s.pack := rfl
@[simp] theorem count_power (o : ObjDesc) (i n : Nat) : (count s o i n).power = s.power := rfl
@[simp] theorem count_mgmt (o : ObjDesc) (i n : Nat) : (count s o i n).mgmt = s.mgmt := rfl
@[simp] theorem count_pins (o : ObjDesc) (i n : Nat) : (count s o i n).pins = s.pins := rfl
@[simp] theorem count_out (o : ObjDesc) (i n : Nat) : (count s o i n).out = s.out := rfl
@[simp] theorem count_freeCtr (o : ObjDesc) (i n : Nat) : (count s o i n).freeCtr = s.freeCtr := rfl
@[simp] theorem count_pending (o : ObjDesc) (i n : Nat) : (count s o i n).pending = s.pending := rfl

@[simp] theorem countDev_now (i n : Nat) : (countDev s i n).now = s.now := rfl
@[simp] theorem countDev_bootAt (i n : Nat) : (countDev s i n).bootAt = s.bootAt := rfl
@[simp] theorem countDev_dict (i n : Nat) : (countDev s i n).dict = s.dict := rfl
@[simp] theorem countDev_ep (i n : Nat) : (countDev s i n).ep = s.ep := rfl
@[simp] theorem countDev_qps (i n : Nat) : (countDev s i n).qps = s.qps := rfl
@[simp] theorem countDev_sluice (i n : Nat) : (countDev s i n).sluice = s.sluice := rfl
@[simp] theorem countDev_host (i n : Nat) : (countDev s i n).host = s.host := rfl
@[simp] theorem countDev_vols (i n : Nat) : (countDev s i n).vols = s.vols := rfl
@[simp] theorem countDev_map (i n : Nat) : (countDev s i n).map = s.map := rfl
@[simp] theorem countDev_prot (i n : Nat) : (countDev s i n).prot = s.prot := rfl
@[simp] theorem countDev_pools (i n : Nat) : (countDev s i n).pools = s.pools := rfl
@[simp] theorem countDev_ilog (i n : Nat) : (countDev s i n).ilog = s.ilog := rfl
@[simp] theorem countDev_drv (i n : Nat) : (countDev s i n).drv = s.drv := rfl
@[simp] theorem countDev_key (i n : Nat) : (countDev s i n).key = s.key := rfl
@[simp] theorem countDev_cache (i n : Nat) : (countDev s i n).cache = s.cache := rfl
@[simp] theorem countDev_lines (i n : Nat) : (countDev s i n).lines = s.lines := rfl
@[simp] theorem countDev_pair (i n : Nat) : (countDev s i n).pair = s.pair := rfl
@[simp] theorem countDev_pack (i n : Nat) : (countDev s i n).pack = s.pack := rfl
@[simp] theorem countDev_power (i n : Nat) : (countDev s i n).power = s.power := rfl
@[simp] theorem countDev_mgmt (i n : Nat) : (countDev s i n).mgmt = s.mgmt := rfl
@[simp] theorem countDev_pins (i n : Nat) : (countDev s i n).pins = s.pins := rfl
@[simp] theorem countDev_out (i n : Nat) : (countDev s i n).out = s.out := rfl
@[simp] theorem countDev_freeCtr (i n : Nat) : (countDev s i n).freeCtr = s.freeCtr := rfl
@[simp] theorem countDev_pending (i n : Nat) : (countDev s i n).pending = s.pending := rfl

@[simp] theorem countHist_now (k b : Nat) : (countHist s k b).now = s.now := rfl
@[simp] theorem countHist_bootAt (k b : Nat) : (countHist s k b).bootAt = s.bootAt := rfl
@[simp] theorem countHist_dict (k b : Nat) : (countHist s k b).dict = s.dict := rfl
@[simp] theorem countHist_ep (k b : Nat) : (countHist s k b).ep = s.ep := rfl
@[simp] theorem countHist_qps (k b : Nat) : (countHist s k b).qps = s.qps := rfl
@[simp] theorem countHist_sluice (k b : Nat) : (countHist s k b).sluice = s.sluice := rfl
@[simp] theorem countHist_host (k b : Nat) : (countHist s k b).host = s.host := rfl
@[simp] theorem countHist_vols (k b : Nat) : (countHist s k b).vols = s.vols := rfl
@[simp] theorem countHist_map (k b : Nat) : (countHist s k b).map = s.map := rfl
@[simp] theorem countHist_prot (k b : Nat) : (countHist s k b).prot = s.prot := rfl
@[simp] theorem countHist_pools (k b : Nat) : (countHist s k b).pools = s.pools := rfl
@[simp] theorem countHist_ilog (k b : Nat) : (countHist s k b).ilog = s.ilog := rfl
@[simp] theorem countHist_drv (k b : Nat) : (countHist s k b).drv = s.drv := rfl
@[simp] theorem countHist_key (k b : Nat) : (countHist s k b).key = s.key := rfl
@[simp] theorem countHist_cache (k b : Nat) : (countHist s k b).cache = s.cache := rfl
@[simp] theorem countHist_lines (k b : Nat) : (countHist s k b).lines = s.lines := rfl
@[simp] theorem countHist_pair (k b : Nat) : (countHist s k b).pair = s.pair := rfl
@[simp] theorem countHist_pack (k b : Nat) : (countHist s k b).pack = s.pack := rfl
@[simp] theorem countHist_power (k b : Nat) : (countHist s k b).power = s.power := rfl
@[simp] theorem countHist_mgmt (k b : Nat) : (countHist s k b).mgmt = s.mgmt := rfl
@[simp] theorem countHist_pins (k b : Nat) : (countHist s k b).pins = s.pins := rfl
@[simp] theorem countHist_out (k b : Nat) : (countHist s k b).out = s.out := rfl
@[simp] theorem countHist_freeCtr (k b : Nat) : (countHist s k b).freeCtr = s.freeCtr := rfl
@[simp] theorem countHist_pending (k b : Nat) : (countHist s k b).pending = s.pending := rfl

@[simp] theorem emit_now (x : Out) : (emit s x).now = s.now := rfl
@[simp] theorem emit_bootAt (x : Out) : (emit s x).bootAt = s.bootAt := rfl
@[simp] theorem emit_dict (x : Out) : (emit s x).dict = s.dict := rfl
@[simp] theorem emit_ep (x : Out) : (emit s x).ep = s.ep := rfl
@[simp] theorem emit_ev (x : Out) : (emit s x).ev = s.ev := rfl
@[simp] theorem emit_qps (x : Out) : (emit s x).qps = s.qps := rfl
@[simp] theorem emit_sluice (x : Out) : (emit s x).sluice = s.sluice := rfl
@[simp] theorem emit_host (x : Out) : (emit s x).host = s.host := rfl
@[simp] theorem emit_vols (x : Out) : (emit s x).vols = s.vols := rfl
@[simp] theorem emit_map (x : Out) : (emit s x).map = s.map := rfl
@[simp] theorem emit_prot (x : Out) : (emit s x).prot = s.prot := rfl
@[simp] theorem emit_pools (x : Out) : (emit s x).pools = s.pools := rfl
@[simp] theorem emit_ilog (x : Out) : (emit s x).ilog = s.ilog := rfl
@[simp] theorem emit_drv (x : Out) : (emit s x).drv = s.drv := rfl
@[simp] theorem emit_key (x : Out) : (emit s x).key = s.key := rfl
@[simp] theorem emit_cache (x : Out) : (emit s x).cache = s.cache := rfl
@[simp] theorem emit_lines (x : Out) : (emit s x).lines = s.lines := rfl
@[simp] theorem emit_pair (x : Out) : (emit s x).pair = s.pair := rfl
@[simp] theorem emit_pack (x : Out) : (emit s x).pack = s.pack := rfl
@[simp] theorem emit_power (x : Out) : (emit s x).power = s.power := rfl
@[simp] theorem emit_mgmt (x : Out) : (emit s x).mgmt = s.mgmt := rfl
@[simp] theorem emit_pins (x : Out) : (emit s x).pins = s.pins := rfl
@[simp] theorem emit_freeCtr (x : Out) : (emit s x).freeCtr = s.freeCtr := rfl
@[simp] theorem emit_pending (x : Out) : (emit s x).pending = s.pending := rfl

@[simp] theorem takeFree_now : (takeFree s).now = s.now := rfl
@[simp] theorem takeFree_bootAt : (takeFree s).bootAt = s.bootAt := rfl
@[simp] theorem takeFree_dict : (takeFree s).dict = s.dict := rfl
@[simp] theorem takeFree_ep : (takeFree s).ep = s.ep := rfl
@[simp] theorem takeFree_ev : (takeFree s).ev = s.ev := rfl
@[simp] theorem takeFree_qps : (takeFree s).qps = s.qps := rfl
@[simp] theorem takeFree_sluice : (takeFree s).sluice = s.sluice := rfl
@[simp] theorem takeFree_host : (takeFree s).host = s.host := rfl
@[simp] theorem takeFree_vols : (takeFree s).vols = s.vols := rfl
@[simp] theorem takeFree_map : (takeFree s).map = s.map := rfl
@[simp] theorem takeFree_prot : (takeFree s).prot = s.prot := rfl
@[simp] theorem takeFree_pools : (takeFree s).pools = s.pools := rfl
@[simp] theorem takeFree_ilog : (takeFree s).ilog = s.ilog := rfl
@[simp] theorem takeFree_drv : (takeFree s).drv = s.drv := rfl
@[simp] theorem takeFree_key : (takeFree s).key = s.key := rfl
@[simp] theorem takeFree_cache : (takeFree s).cache = s.cache := rfl
@[simp] theorem takeFree_lines : (takeFree s).lines = s.lines := rfl
@[simp] theorem takeFree_pair : (takeFree s).pair = s.pair := rfl
@[simp] theorem takeFree_pack : (takeFree s).pack = s.pack := rfl
@[simp] theorem takeFree_power : (takeFree s).power = s.power := rfl
@[simp] theorem takeFree_mgmt : (takeFree s).mgmt = s.mgmt := rfl
@[simp] theorem takeFree_pins : (takeFree s).pins = s.pins := rfl
@[simp] theorem takeFree_out : (takeFree s).out = s.out := rfl
@[simp] theorem takeFree_pending : (takeFree s).pending = s.pending := rfl

@[simp] theorem drive_now (p : Pin) (level : Bool) : (drive s p level).now = s.now := rfl
@[simp] theorem drive_bootAt (p : Pin) (level : Bool) : (drive s p level).bootAt = s.bootAt := rfl
@[simp] theorem drive_dict (p : Pin) (level : Bool) : (drive s p level).dict = s.dict := rfl
@[simp] theorem drive_ep (p : Pin) (level : Bool) : (drive s p level).ep = s.ep := rfl
@[simp] theorem drive_ev (p : Pin) (level : Bool) : (drive s p level).ev = s.ev := rfl
@[simp] theorem drive_qps (p : Pin) (level : Bool) : (drive s p level).qps = s.qps := rfl
@[simp] theorem drive_sluice (p : Pin) (level : Bool) : (drive s p level).sluice = s.sluice := rfl
@[simp] theorem drive_host (p : Pin) (level : Bool) : (drive s p level).host = s.host := rfl
@[simp] theorem drive_vols (p : Pin) (level : Bool) : (drive s p level).vols = s.vols := rfl
@[simp] theorem drive_map (p : Pin) (level : Bool) : (drive s p level).map = s.map := rfl
@[simp] theorem drive_prot (p : Pin) (level : Bool) : (drive s p level).prot = s.prot := rfl
@[simp] theorem drive_pools (p : Pin) (level : Bool) : (drive s p level).pools = s.pools := rfl
@[simp] theorem drive_ilog (p : Pin) (level : Bool) : (drive s p level).ilog = s.ilog := rfl
@[simp] theorem drive_drv (p : Pin) (level : Bool) : (drive s p level).drv = s.drv := rfl
@[simp] theorem drive_key (p : Pin) (level : Bool) : (drive s p level).key = s.key := rfl
@[simp] theorem drive_cache (p : Pin) (level : Bool) : (drive s p level).cache = s.cache := rfl
@[simp] theorem drive_lines (p : Pin) (level : Bool) : (drive s p level).lines = s.lines := rfl
@[simp] theorem drive_pair (p : Pin) (level : Bool) : (drive s p level).pair = s.pair := rfl
@[simp] theorem drive_pack (p : Pin) (level : Bool) : (drive s p level).pack = s.pack := rfl
@[simp] theorem drive_power (p : Pin) (level : Bool) : (drive s p level).power = s.power := rfl
@[simp] theorem drive_mgmt (p : Pin) (level : Bool) : (drive s p level).mgmt = s.mgmt := rfl
@[simp] theorem drive_freeCtr (p : Pin) (level : Bool) : (drive s p level).freeCtr = s.freeCtr := rfl
@[simp] theorem drive_pending (p : Pin) (level : Bool) : (drive s p level).pending = s.pending := rfl

@[simp] theorem tick_bootAt : (tick s).bootAt = s.bootAt := rfl
@[simp] theorem tick_dict : (tick s).dict = s.dict := rfl
@[simp] theorem tick_ep : (tick s).ep = s.ep := rfl
@[simp] theorem tick_ev : (tick s).ev = s.ev := rfl
@[simp] theorem tick_qps : (tick s).qps = s.qps := rfl
@[simp] theorem tick_sluice : (tick s).sluice = s.sluice := rfl
@[simp] theorem tick_host : (tick s).host = s.host := rfl
@[simp] theorem tick_vols : (tick s).vols = s.vols := rfl
@[simp] theorem tick_map : (tick s).map = s.map := rfl
@[simp] theorem tick_prot : (tick s).prot = s.prot := rfl
@[simp] theorem tick_pools : (tick s).pools = s.pools := rfl
@[simp] theorem tick_ilog : (tick s).ilog = s.ilog := rfl
@[simp] theorem tick_drv : (tick s).drv = s.drv := rfl
@[simp] theorem tick_key : (tick s).key = s.key := rfl
@[simp] theorem tick_cache : (tick s).cache = s.cache := rfl
@[simp] theorem tick_lines : (tick s).lines = s.lines := rfl
@[simp] theorem tick_pair : (tick s).pair = s.pair := rfl
@[simp] theorem tick_pack : (tick s).pack = s.pack := rfl
@[simp] theorem tick_power : (tick s).power = s.power := rfl
@[simp] theorem tick_mgmt : (tick s).mgmt = s.mgmt := rfl
@[simp] theorem tick_pins : (tick s).pins = s.pins := rfl
@[simp] theorem tick_out : (tick s).out = s.out := rfl
@[simp] theorem tick_freeCtr : (tick s).freeCtr = s.freeCtr := rfl
@[simp] theorem tick_pending : (tick s).pending = s.pending := rfl

@[simp] theorem modPath_now (p : Nat) (f : EvPath → EvPath) : (modPath s p f).now = s.now := rfl
@[simp] theorem modPath_bootAt (p : Nat) (f : EvPath → EvPath) : (modPath s p f).bootAt = s.bootAt := rfl
@[simp] theorem modPath_dict (p : Nat) (f : EvPath → EvPath) : (modPath s p f).dict = s.dict := rfl
@[simp] theorem modPath_ep (p : Nat) (f : EvPath → EvPath) : (modPath s p f).ep = s.ep := rfl
@[simp] theorem modPath_qps (p : Nat) (f : EvPath → EvPath) : (modPath s p f).qps = s.qps := rfl
@[simp] theorem modPath_sluice (p : Nat) (f : EvPath → EvPath) : (modPath s p f).sluice = s.sluice := rfl
@[simp] theorem modPath_host (p : Nat) (f : EvPath → EvPath) : (modPath s p f).host = s.host := rfl
@[simp] theorem modPath_vols (p : Nat) (f : EvPath → EvPath) : (modPath s p f).vols = s.vols := rfl
@[simp] theorem modPath_map (p : Nat) (f : EvPath → EvPath) : (modPath s p f).map = s.map := rfl
@[simp] theorem modPath_prot (p : Nat) (f : EvPath → EvPath) : (modPath s p f).prot = s.prot := rfl
@[simp] theorem modPath_pools (p : Nat) (f : EvPath → EvPath) : (modPath s p f).pools = s.pools := rfl
@[simp] theorem modPath_ilog (p : Nat) (f : EvPath → EvPath) : (modPath s p f).ilog = s.ilog := rfl
@[simp] theorem modPath_drv (p : Nat) (f : EvPath → EvPath) : (modPath s p f).drv = s.drv := rfl
@[simp] theorem modPath_key (p : Nat) (f : EvPath → EvPath) : (modPath s p f).key = s.key := rfl
@[simp] theorem modPath_cache (p : Nat) (f : EvPath → EvPath) : (modPath s p f).cache = s.cache := rfl
@[simp] theorem modPath_lines (p : Nat) (f : EvPath → EvPath) : (modPath s p f).lines = s.lines := rfl
@[simp] theorem modPath_pair (p : Nat) (f : EvPath → EvPath) : (modPath s p f).pair = s.pair := rfl
@[simp] theorem modPath_pack (p : Nat) (f : EvPath → EvPath) : (modPath s p f).pack = s.pack := rfl
@[simp] theorem modPath_power (p : Nat) (f : EvPath → EvPath) : (modPath s p f).power = s.power := rfl
@[simp] theorem modPath_mgmt (p : Nat) (f : EvPath → EvPath) : (modPath s p f).mgmt = s.mgmt := rfl
@[simp] theorem modPath_pins (p : Nat) (f : EvPath → EvPath) : (modPath s p f).pins = s.pins := rfl
@[simp] theorem modPath_out (p : Nat) (f : EvPath → EvPath) : (modPath s p f).out = s.out := rfl
@[simp] theorem modPath_freeCtr (p : Nat) (f : EvPath → EvPath) : (modPath s p f).freeCtr = s.freeCtr := rfl
@[simp] theorem modPath_pending (p : Nat) (f : EvPath → EvPath) : (modPath s p f).pending = s.pending := rfl

@[simp] theorem modEp_now (f : Epoch → Epoch) : (modEp s f).now = s.now := rfl
@[simp] theorem modEp_bootAt (f : Epoch → Epoch) : (modEp s f).bootAt = s.bootAt := rfl
@[simp] theorem modEp_dict (f : Epoch → Epoch) : (modEp s f).dict = s.dict := rfl
@[simp] theorem modEp_ev (f : Epoch → Epoch) : (modEp s f).ev = s.ev := rfl
@[simp] theorem modEp_qps (f : Epoch → Epoch) : (modEp s f).qps = s.qps := rfl
@[simp] theorem modEp_sluice (f : Epoch → Epoch) : (modEp s f).sluice = s.sluice := rfl
@[simp] theorem modEp_host (f : Epoch → Epoch) : (modEp s f).host = s.host := rfl
@[simp] theorem modEp_vols (f : Epoch → Epoch) : (modEp s f).vols = s.vols := rfl
@[simp] theorem modEp_map (f : Epoch → Epoch) : (modEp s f).map = s.map := rfl
@[simp] theorem modEp_prot (f : Epoch → Epoch) : (modEp s f).prot = s.prot := rfl
@[simp] theorem modEp_pools (f : Epoch → Epoch) : (modEp s f).pools = s.pools := rfl
@[simp] theorem modEp_ilog (f : Epoch → Epoch) : (modEp s f).ilog = s.ilog := rfl
@[simp] theorem modEp_drv (f : Epoch → Epoch) : (modEp s f).drv = s.drv := rfl
@[simp] theorem modEp_key (f : Epoch → Epoch) : (modEp s f).key = s.key := rfl
@[simp] theorem modEp_cache (f : Epoch → Epoch) : (modEp s f).cache = s.cache := rfl
@[simp] theorem modEp_lines (f : Epoch → Epoch) : (modEp s f).lines = s.lines := rfl
@[simp] theorem modEp_pair (f : Epoch → Epoch) : (modEp s f).pair = s.pair := rfl
@[simp] theorem modEp_pack (f : Epoch → Epoch) : (modEp s f).pack = s.pack := rfl
@[simp] theorem modEp_power (f : Epoch → Epoch) : (modEp s f).power = s.power := rfl
@[simp] theorem modEp_mgmt (f : Epoch → Epoch) : (modEp s f).mgmt = s.mgmt := rfl
@[simp] theorem modEp_pins (f : Epoch → Epoch) : (modEp s f).pins = s.pins := rfl
@[simp] theorem modEp_out (f : Epoch → Epoch) : (modEp s f).out = s.out := rfl
@[simp] theorem modEp_freeCtr (f : Epoch → Epoch) : (modEp s f).freeCtr = s.freeCtr := rfl
@[simp] theorem modEp_pending (f : Epoch → Epoch) : (modEp s f).pending = s.pending := rfl

@[simp] theorem modSess_now (n : Nat) (f : Session → Session) : (modSess s n f).now = s.now := rfl
@[simp] theorem modSess_bootAt (n : Nat) (f : Session → Session) : (modSess s n f).bootAt = s.bootAt := rfl
@[simp] theorem modSess_ep (n : Nat) (f : Session → Session) : (modSess s n f).ep = s.ep := rfl
@[simp] theorem modSess_ev (n : Nat) (f : Session → Session) : (modSess s n f).ev = s.ev := rfl
@[simp] theorem modSess_qps (n : Nat) (f : Session → Session) : (modSess s n f).qps = s.qps := rfl
@[simp] theorem modSess_sluice (n : Nat) (f : Session → Session) : (modSess s n f).sluice = s.sluice := rfl
@[simp] theorem modSess_host (n : Nat) (f : Session → Session) : (modSess s n f).host = s.host := rfl
@[simp] theorem modSess_vols (n : Nat) (f : Session → Session) : (modSess s n f).vols = s.vols := rfl
@[simp] theorem modSess_map (n : Nat) (f : Session → Session) : (modSess s n f).map = s.map := rfl
@[simp] theorem modSess_prot (n : Nat) (f : Session → Session) : (modSess s n f).prot = s.prot := rfl
@[simp] theorem modSess_pools (n : Nat) (f : Session → Session) : (modSess s n f).pools = s.pools := rfl
@[simp] theorem modSess_ilog (n : Nat) (f : Session → Session) : (modSess s n f).ilog = s.ilog := rfl
@[simp] theorem modSess_drv (n : Nat) (f : Session → Session) : (modSess s n f).drv = s.drv := rfl
@[simp] theorem modSess_key (n : Nat) (f : Session → Session) : (modSess s n f).key = s.key := rfl
@[simp] theorem modSess_cache (n : Nat) (f : Session → Session) : (modSess s n f).cache = s.cache := rfl
@[simp] theorem modSess_lines (n : Nat) (f : Session → Session) : (modSess s n f).lines = s.lines := rfl
@[simp] theorem modSess_pair (n : Nat) (f : Session → Session) : (modSess s n f).pair = s.pair := rfl
@[simp] theorem modSess_pack (n : Nat) (f : Session → Session) : (modSess s n f).pack = s.pack := rfl
@[simp] theorem modSess_power (n : Nat) (f : Session → Session) : (modSess s n f).power = s.power := rfl
@[simp] theorem modSess_mgmt (n : Nat) (f : Session → Session) : (modSess s n f).mgmt = s.mgmt := rfl
@[simp] theorem modSess_pins (n : Nat) (f : Session → Session) : (modSess s n f).pins = s.pins := rfl
@[simp] theorem modSess_out (n : Nat) (f : Session → Session) : (modSess s n f).out = s.out := rfl
@[simp] theorem modSess_freeCtr (n : Nat) (f : Session → Session) : (modSess s n f).freeCtr = s.freeCtr := rfl
@[simp] theorem modSess_pending (n : Nat) (f : Session → Session) : (modSess s n f).pending = s.pending := rfl

@[simp] theorem modVol_now (v : Nat) (f : Vol → Vol) : (modVol s v f).now = s.now := rfl
@[simp] theorem modVol_bootAt (v : Nat) (f : Vol → Vol) : (modVol s v f).bootAt = s.bootAt := rfl
@[simp] theorem modVol_dict (v : Nat) (f : Vol → Vol) : (modVol s v f).dict = s.dict := rfl
@[simp] theorem modVol_ep (v : Nat) (f : Vol → Vol) : (modVol s v f).ep = s.ep := rfl
@[simp] theorem modVol_ev (v : Nat) (f : Vol → Vol) : (modVol s v f).ev = s.ev := rfl
@[simp] theorem modVol_qps (v : Nat) (f : Vol → Vol) : (modVol s v f).qps = s.qps := rfl
@[simp] theorem modVol_sluice (v : Nat) (f : Vol → Vol) : (modVol s v f).sluice = s.sluice := rfl
@[simp] theorem modVol_host (v : Nat) (f : Vol → Vol) : (modVol s v f).host = s.host := rfl
@[simp] theorem modVol_map (v : Nat) (f : Vol → Vol) : (modVol s v f).map = s.map := rfl
@[simp] theorem modVol_prot (v : Nat) (f : Vol → Vol) : (modVol s v f).prot = s.prot := rfl
@[simp] theorem modVol_pools (v : Nat) (f : Vol → Vol) : (modVol s v f).pools = s.pools := rfl
@[simp] theorem modVol_ilog (v : Nat) (f : Vol → Vol) : (modVol s v f).ilog = s.ilog := rfl
@[simp] theorem modVol_drv (v : Nat) (f : Vol → Vol) : (modVol s v f).drv = s.drv := rfl
@[simp] theorem modVol_key (v : Nat) (f : Vol → Vol) : (modVol s v f).key = s.key := rfl
@[simp] theorem modVol_cache (v : Nat) (f : Vol → Vol) : (modVol s v f).cache = s.cache := rfl
@[simp] theorem modVol_lines (v : Nat) (f : Vol → Vol) : (modVol s v f).lines = s.lines := rfl
@[simp] theorem modVol_pair (v : Nat) (f : Vol → Vol) : (modVol s v f).pair = s.pair := rfl
@[simp] theorem modVol_pack (v : Nat) (f : Vol → Vol) : (modVol s v f).pack = s.pack := rfl
@[simp] theorem modVol_power (v : Nat) (f : Vol → Vol) : (modVol s v f).power = s.power := rfl
@[simp] theorem modVol_mgmt (v : Nat) (f : Vol → Vol) : (modVol s v f).mgmt = s.mgmt := rfl
@[simp] theorem modVol_pins (v : Nat) (f : Vol → Vol) : (modVol s v f).pins = s.pins := rfl
@[simp] theorem modVol_out (v : Nat) (f : Vol → Vol) : (modVol s v f).out = s.out := rfl
@[simp] theorem modVol_freeCtr (v : Nat) (f : Vol → Vol) : (modVol s v f).freeCtr = s.freeCtr := rfl
@[simp] theorem modVol_pending (v : Nat) (f : Vol → Vol) : (modVol s v f).pending = s.pending := rfl

@[simp] theorem setFrame_now (k : Nat) (f : Frame) : (setFrame s k f).now = s.now := rfl
@[simp] theorem setFrame_bootAt (k : Nat) (f : Frame) : (setFrame s k f).bootAt = s.bootAt := rfl
@[simp] theorem setFrame_dict (k : Nat) (f : Frame) : (setFrame s k f).dict = s.dict := rfl
@[simp] theorem setFrame_ep (k : Nat) (f : Frame) : (setFrame s k f).ep = s.ep := rfl
@[simp] theorem setFrame_ev (k : Nat) (f : Frame) : (setFrame s k f).ev = s.ev := rfl
@[simp] theorem setFrame_qps (k : Nat) (f : Frame) : (setFrame s k f).qps = s.qps := rfl
@[simp] theorem setFrame_sluice (k : Nat) (f : Frame) : (setFrame s k f).sluice = s.sluice := rfl
@[simp] theorem setFrame_host (k : Nat) (f : Frame) : (setFrame s k f).host = s.host := rfl
@[simp] theorem setFrame_vols (k : Nat) (f : Frame) : (setFrame s k f).vols = s.vols := rfl
@[simp] theorem setFrame_map (k : Nat) (f : Frame) : (setFrame s k f).map = s.map := rfl
@[simp] theorem setFrame_prot (k : Nat) (f : Frame) : (setFrame s k f).prot = s.prot := rfl
@[simp] theorem setFrame_pools (k : Nat) (f : Frame) : (setFrame s k f).pools = s.pools := rfl
@[simp] theorem setFrame_ilog (k : Nat) (f : Frame) : (setFrame s k f).ilog = s.ilog := rfl
@[simp] theorem setFrame_drv (k : Nat) (f : Frame) : (setFrame s k f).drv = s.drv := rfl
@[simp] theorem setFrame_key (k : Nat) (f : Frame) : (setFrame s k f).key = s.key := rfl
@[simp] theorem setFrame_lines (k : Nat) (f : Frame) : (setFrame s k f).lines = s.lines := rfl
@[simp] theorem setFrame_pair (k : Nat) (f : Frame) : (setFrame s k f).pair = s.pair := rfl
@[simp] theorem setFrame_pack (k : Nat) (f : Frame) : (setFrame s k f).pack = s.pack := rfl
@[simp] theorem setFrame_power (k : Nat) (f : Frame) : (setFrame s k f).power = s.power := rfl
@[simp] theorem setFrame_mgmt (k : Nat) (f : Frame) : (setFrame s k f).mgmt = s.mgmt := rfl
@[simp] theorem setFrame_pins (k : Nat) (f : Frame) : (setFrame s k f).pins = s.pins := rfl
@[simp] theorem setFrame_out (k : Nat) (f : Frame) : (setFrame s k f).out = s.out := rfl
@[simp] theorem setFrame_freeCtr (k : Nat) (f : Frame) : (setFrame s k f).freeCtr = s.freeCtr := rfl
@[simp] theorem setFrame_pending (k : Nat) (f : Frame) : (setFrame s k f).pending = s.pending := rfl

@[simp] theorem modHostPort_now (n : Nat) (f : HostPort → HostPort) : (modHostPort s n f).now = s.now := rfl
@[simp] theorem modHostPort_bootAt (n : Nat) (f : HostPort → HostPort) : (modHostPort s n f).bootAt = s.bootAt := rfl
@[simp] theorem modHostPort_dict (n : Nat) (f : HostPort → HostPort) : (modHostPort s n f).dict = s.dict := rfl
@[simp] theorem modHostPort_ep (n : Nat) (f : HostPort → HostPort) : (modHostPort s n f).ep = s.ep := rfl
@[simp] theorem modHostPort_ev (n : Nat) (f : HostPort → HostPort) : (modHostPort s n f).ev = s.ev := rfl
@[simp] theorem modHostPort_qps (n : Nat) (f : HostPort → HostPort) : (modHostPort s n f).qps = s.qps := rfl
@[simp] theorem modHostPort_sluice (n : Nat) (f : HostPort → HostPort) : (modHostPort s n f).sluice = s.sluice := rfl
@[simp] theorem modHostPort_vols (n : Nat) (f : HostPort → HostPort) : (modHostPort s n f).vols = s.vols := rfl
@[simp] theorem modHostPort_map (n : Nat) (f : HostPort → HostPort) : (modHostPort s n f).map = s.map := rfl
@[simp] theorem modHostPort_prot (n : Nat) (f : HostPort → HostPort) : (modHostPort s n f).prot = s.prot := rfl
@[simp] theorem modHostPort_pools (n : Nat) (f : HostPort → HostPort) : (modHostPort s n f).pools = s.pools := rfl
@[simp] theorem modHostPort_ilog (n : Nat) (f : HostPort → HostPort) : (modHostPort s n f).ilog = s.ilog := rfl
@[simp] theorem modHostPort_drv (n : Nat) (f : HostPort → HostPort) : (modHostPort s n f).drv = s.drv := rfl
@[simp] theorem modHostPort_key (n : Nat) (f : HostPort → HostPort) : (modHostPort s n f).key = s.key := rfl
@[simp] theorem modHostPort_cache (n : Nat) (f : HostPort → HostPort) : (modHostPort s n f).cache = s.cache := rfl
@[simp] theorem modHostPort_lines (n : Nat) (f : HostPort → HostPort) : (modHostPort s n f).lines = s.lines := rfl
@[simp] theorem modHostPort_pair (n : Nat) (f : HostPort → HostPort) : (modHostPort s n f).pair = s.pair := rfl
@[simp] theorem modHostPort_pack (n : Nat) (f : HostPort → HostPort) : (modHostPort s n f).pack = s.pack := rfl
@[simp] theorem modHostPort_power (n : Nat) (f : HostPort → HostPort) : (modHostPort s n f).power = s.power := rfl
@[simp] theorem modHostPort_mgmt (n : Nat) (f : HostPort → HostPort) : (modHostPort s n f).mgmt = s.mgmt := rfl
@[simp] theorem modHostPort_pins (n : Nat) (f : HostPort → HostPort) : (modHostPort s n f).pins = s.pins := rfl
@[simp] theorem modHostPort_out (n : Nat) (f : HostPort → HostPort) : (modHostPort s n f).out = s.out := rfl
@[simp] theorem modHostPort_freeCtr (n : Nat) (f : HostPort → HostPort) : (modHostPort s n f).freeCtr = s.freeCtr := rfl
@[simp] theorem modHostPort_pending (n : Nat) (f : HostPort → HostPort) : (modHostPort s n f).pending = s.pending := rfl

@[simp] theorem modFn_now (n : Nat) (f : Fn → Fn) : (modFn s n f).now = s.now := rfl
@[simp] theorem modFn_bootAt (n : Nat) (f : Fn → Fn) : (modFn s n f).bootAt = s.bootAt := rfl
@[simp] theorem modFn_dict (n : Nat) (f : Fn → Fn) : (modFn s n f).dict = s.dict := rfl
@[simp] theorem modFn_ep (n : Nat) (f : Fn → Fn) : (modFn s n f).ep = s.ep := rfl
@[simp] theorem modFn_ev (n : Nat) (f : Fn → Fn) : (modFn s n f).ev = s.ev := rfl
@[simp] theorem modFn_qps (n : Nat) (f : Fn → Fn) : (modFn s n f).qps = s.qps := rfl
@[simp] theorem modFn_sluice (n : Nat) (f : Fn → Fn) : (modFn s n f).sluice = s.sluice := rfl
@[simp] theorem modFn_vols (n : Nat) (f : Fn → Fn) : (modFn s n f).vols = s.vols := rfl
@[simp] theorem modFn_map (n : Nat) (f : Fn → Fn) : (modFn s n f).map = s.map := rfl
@[simp] theorem modFn_prot (n : Nat) (f : Fn → Fn) : (modFn s n f).prot = s.prot := rfl
@[simp] theorem modFn_pools (n : Nat) (f : Fn → Fn) : (modFn s n f).pools = s.pools := rfl
@[simp] theorem modFn_ilog (n : Nat) (f : Fn → Fn) : (modFn s n f).ilog = s.ilog := rfl
@[simp] theorem modFn_drv (n : Nat) (f : Fn → Fn) : (modFn s n f).drv = s.drv := rfl
@[simp] theorem modFn_key (n : Nat) (f : Fn → Fn) : (modFn s n f).key = s.key := rfl
@[simp] theorem modFn_cache (n : Nat) (f : Fn → Fn) : (modFn s n f).cache = s.cache := rfl
@[simp] theorem modFn_lines (n : Nat) (f : Fn → Fn) : (modFn s n f).lines = s.lines := rfl
@[simp] theorem modFn_pair (n : Nat) (f : Fn → Fn) : (modFn s n f).pair = s.pair := rfl
@[simp] theorem modFn_pack (n : Nat) (f : Fn → Fn) : (modFn s n f).pack = s.pack := rfl
@[simp] theorem modFn_power (n : Nat) (f : Fn → Fn) : (modFn s n f).power = s.power := rfl
@[simp] theorem modFn_mgmt (n : Nat) (f : Fn → Fn) : (modFn s n f).mgmt = s.mgmt := rfl
@[simp] theorem modFn_pins (n : Nat) (f : Fn → Fn) : (modFn s n f).pins = s.pins := rfl
@[simp] theorem modFn_out (n : Nat) (f : Fn → Fn) : (modFn s n f).out = s.out := rfl
@[simp] theorem modFn_freeCtr (n : Nat) (f : Fn → Fn) : (modFn s n f).freeCtr = s.freeCtr := rfl
@[simp] theorem modFn_pending (n : Nat) (f : Fn → Fn) : (modFn s n f).pending = s.pending := rfl

@[simp] theorem modSlot_now (n : Nat) (f : Slot → Slot) : (modSlot s n f).now = s.now := rfl
@[simp] theorem modSlot_bootAt (n : Nat) (f : Slot → Slot) : (modSlot s n f).bootAt = s.bootAt := rfl
@[simp] theorem modSlot_dict (n : Nat) (f : Slot → Slot) : (modSlot s n f).dict = s.dict := rfl
@[simp] theorem modSlot_ep (n : Nat) (f : Slot → Slot) : (modSlot s n f).ep = s.ep := rfl
@[simp] theorem modSlot_ev (n : Nat) (f : Slot → Slot) : (modSlot s n f).ev = s.ev := rfl
@[simp] theorem modSlot_qps (n : Nat) (f : Slot → Slot) : (modSlot s n f).qps = s.qps := rfl
@[simp] theorem modSlot_sluice (n : Nat) (f : Slot → Slot) : (modSlot s n f).sluice = s.sluice := rfl
@[simp] theorem modSlot_host (n : Nat) (f : Slot → Slot) : (modSlot s n f).host = s.host := rfl
@[simp] theorem modSlot_vols (n : Nat) (f : Slot → Slot) : (modSlot s n f).vols = s.vols := rfl
@[simp] theorem modSlot_map (n : Nat) (f : Slot → Slot) : (modSlot s n f).map = s.map := rfl
@[simp] theorem modSlot_pools (n : Nat) (f : Slot → Slot) : (modSlot s n f).pools = s.pools := rfl
@[simp] theorem modSlot_ilog (n : Nat) (f : Slot → Slot) : (modSlot s n f).ilog = s.ilog := rfl
@[simp] theorem modSlot_drv (n : Nat) (f : Slot → Slot) : (modSlot s n f).drv = s.drv := rfl
@[simp] theorem modSlot_key (n : Nat) (f : Slot → Slot) : (modSlot s n f).key = s.key := rfl
@[simp] theorem modSlot_cache (n : Nat) (f : Slot → Slot) : (modSlot s n f).cache = s.cache := rfl
@[simp] theorem modSlot_lines (n : Nat) (f : Slot → Slot) : (modSlot s n f).lines = s.lines := rfl
@[simp] theorem modSlot_pair (n : Nat) (f : Slot → Slot) : (modSlot s n f).pair = s.pair := rfl
@[simp] theorem modSlot_pack (n : Nat) (f : Slot → Slot) : (modSlot s n f).pack = s.pack := rfl
@[simp] theorem modSlot_power (n : Nat) (f : Slot → Slot) : (modSlot s n f).power = s.power := rfl
@[simp] theorem modSlot_mgmt (n : Nat) (f : Slot → Slot) : (modSlot s n f).mgmt = s.mgmt := rfl
@[simp] theorem modSlot_pins (n : Nat) (f : Slot → Slot) : (modSlot s n f).pins = s.pins := rfl
@[simp] theorem modSlot_out (n : Nat) (f : Slot → Slot) : (modSlot s n f).out = s.out := rfl
@[simp] theorem modSlot_freeCtr (n : Nat) (f : Slot → Slot) : (modSlot s n f).freeCtr = s.freeCtr := rfl
@[simp] theorem modSlot_pending (n : Nat) (f : Slot → Slot) : (modSlot s n f).pending = s.pending := rfl

@[simp] theorem setEntry_now (key : Nat) (e : Entry) : (setEntry s key e).now = s.now := rfl
@[simp] theorem setEntry_bootAt (key : Nat) (e : Entry) : (setEntry s key e).bootAt = s.bootAt := rfl
@[simp] theorem setEntry_dict (key : Nat) (e : Entry) : (setEntry s key e).dict = s.dict := rfl
@[simp] theorem setEntry_ep (key : Nat) (e : Entry) : (setEntry s key e).ep = s.ep := rfl
@[simp] theorem setEntry_ev (key : Nat) (e : Entry) : (setEntry s key e).ev = s.ev := rfl
@[simp] theorem setEntry_qps (key : Nat) (e : Entry) : (setEntry s key e).qps = s.qps := rfl
@[simp] theorem setEntry_sluice (key : Nat) (e : Entry) : (setEntry s key e).sluice = s.sluice := rfl
@[simp] theorem setEntry_host (key : Nat) (e : Entry) : (setEntry s key e).host = s.host := rfl
@[simp] theorem setEntry_vols (key : Nat) (e : Entry) : (setEntry s key e).vols = s.vols := rfl
@[simp] theorem setEntry_prot (key : Nat) (e : Entry) : (setEntry s key e).prot = s.prot := rfl
@[simp] theorem setEntry_pools (key : Nat) (e : Entry) : (setEntry s key e).pools = s.pools := rfl
@[simp] theorem setEntry_ilog (key : Nat) (e : Entry) : (setEntry s key e).ilog = s.ilog := rfl
@[simp] theorem setEntry_drv (key : Nat) (e : Entry) : (setEntry s key e).drv = s.drv := rfl
@[simp] theorem setEntry_key (key : Nat) (e : Entry) : (setEntry s key e).key = s.key := rfl
@[simp] theorem setEntry_cache (key : Nat) (e : Entry) : (setEntry s key e).cache = s.cache := rfl
@[simp] theorem setEntry_pair (key : Nat) (e : Entry) : (setEntry s key e).pair = s.pair := rfl
@[simp] theorem setEntry_pack (key : Nat) (e : Entry) : (setEntry s key e).pack = s.pack := rfl
@[simp] theorem setEntry_power (key : Nat) (e : Entry) : (setEntry s key e).power = s.power := rfl
@[simp] theorem setEntry_mgmt (key : Nat) (e : Entry) : (setEntry s key e).mgmt = s.mgmt := rfl
@[simp] theorem setEntry_pins (key : Nat) (e : Entry) : (setEntry s key e).pins = s.pins := rfl
@[simp] theorem setEntry_out (key : Nat) (e : Entry) : (setEntry s key e).out = s.out := rfl
@[simp] theorem setEntry_freeCtr (key : Nat) (e : Entry) : (setEntry s key e).freeCtr = s.freeCtr := rfl
@[simp] theorem setEntry_pending (key : Nat) (e : Entry) : (setEntry s key e).pending = s.pending := rfl

@[simp] theorem touchLine_now (x : LineOf) (write : Bool) : (touchLine s x write).now = s.now := rfl
@[simp] theorem touchLine_bootAt (x : LineOf) (write : Bool) : (touchLine s x write).bootAt = s.bootAt := rfl
@[simp] theorem touchLine_dict (x : LineOf) (write : Bool) : (touchLine s x write).dict = s.dict := rfl
@[simp] theorem touchLine_ep (x : LineOf) (write : Bool) : (touchLine s x write).ep = s.ep := rfl
@[simp] theorem touchLine_ev (x : LineOf) (write : Bool) : (touchLine s x write).ev = s.ev := rfl
@[simp] theorem touchLine_qps (x : LineOf) (write : Bool) : (touchLine s x write).qps = s.qps := rfl
@[simp] theorem touchLine_sluice (x : LineOf) (write : Bool) : (touchLine s x write).sluice = s.sluice := rfl
@[simp] theorem touchLine_host (x : LineOf) (write : Bool) : (touchLine s x write).host = s.host := rfl
@[simp] theorem touchLine_vols (x : LineOf) (write : Bool) : (touchLine s x write).vols = s.vols := rfl
@[simp] theorem touchLine_map (x : LineOf) (write : Bool) : (touchLine s x write).map = s.map := rfl
@[simp] theorem touchLine_prot (x : LineOf) (write : Bool) : (touchLine s x write).prot = s.prot := rfl
@[simp] theorem touchLine_pools (x : LineOf) (write : Bool) : (touchLine s x write).pools = s.pools := rfl
@[simp] theorem touchLine_ilog (x : LineOf) (write : Bool) : (touchLine s x write).ilog = s.ilog := rfl
@[simp] theorem touchLine_drv (x : LineOf) (write : Bool) : (touchLine s x write).drv = s.drv := rfl
@[simp] theorem touchLine_key (x : LineOf) (write : Bool) : (touchLine s x write).key = s.key := rfl
@[simp] theorem touchLine_cache (x : LineOf) (write : Bool) : (touchLine s x write).cache = s.cache := rfl
@[simp] theorem touchLine_pair (x : LineOf) (write : Bool) : (touchLine s x write).pair = s.pair := rfl
@[simp] theorem touchLine_pack (x : LineOf) (write : Bool) : (touchLine s x write).pack = s.pack := rfl
@[simp] theorem touchLine_power (x : LineOf) (write : Bool) : (touchLine s x write).power = s.power := rfl
@[simp] theorem touchLine_mgmt (x : LineOf) (write : Bool) : (touchLine s x write).mgmt = s.mgmt := rfl
@[simp] theorem touchLine_pins (x : LineOf) (write : Bool) : (touchLine s x write).pins = s.pins := rfl
@[simp] theorem touchLine_out (x : LineOf) (write : Bool) : (touchLine s x write).out = s.out := rfl
@[simp] theorem touchLine_freeCtr (x : LineOf) (write : Bool) : (touchLine s x write).freeCtr = s.freeCtr := rfl
@[simp] theorem touchLine_pending (x : LineOf) (write : Bool) : (touchLine s x write).pending = s.pending := rfl

@[simp] theorem touchMap_now (key : Nat) (write : Bool) : (touchMap s key write).now = s.now := rfl
@[simp] theorem touchMap_bootAt (key : Nat) (write : Bool) : (touchMap s key write).bootAt = s.bootAt := rfl
@[simp] theorem touchMap_dict (key : Nat) (write : Bool) : (touchMap s key write).dict = s.dict := rfl
@[simp] theorem touchMap_ep (key : Nat) (write : Bool) : (touchMap s key write).ep = s.ep := rfl
@[simp] theorem touchMap_ev (key : Nat) (write : Bool) : (touchMap s key write).ev = s.ev := rfl
@[simp] theorem touchMap_qps (key : Nat) (write : Bool) : (touchMap s key write).qps = s.qps := rfl
@[simp] theorem touchMap_sluice (key : Nat) (write : Bool) : (touchMap s key write).sluice = s.sluice := rfl
@[simp] theorem touchMap_host (key : Nat) (write : Bool) : (touchMap s key write).host = s.host := rfl
@[simp] theorem touchMap_vols (key : Nat) (write : Bool) : (touchMap s key write).vols = s.vols := rfl
@[simp] theorem touchMap_map (key : Nat) (write : Bool) : (touchMap s key write).map = s.map := rfl
@[simp] theorem touchMap_prot (key : Nat) (write : Bool) : (touchMap s key write).prot = s.prot := rfl
@[simp] theorem touchMap_pools (key : Nat) (write : Bool) : (touchMap s key write).pools = s.pools := rfl
@[simp] theorem touchMap_ilog (key : Nat) (write : Bool) : (touchMap s key write).ilog = s.ilog := rfl
@[simp] theorem touchMap_drv (key : Nat) (write : Bool) : (touchMap s key write).drv = s.drv := rfl
@[simp] theorem touchMap_key (key : Nat) (write : Bool) : (touchMap s key write).key = s.key := rfl
@[simp] theorem touchMap_cache (key : Nat) (write : Bool) : (touchMap s key write).cache = s.cache := rfl
@[simp] theorem touchMap_pair (key : Nat) (write : Bool) : (touchMap s key write).pair = s.pair := rfl
@[simp] theorem touchMap_pack (key : Nat) (write : Bool) : (touchMap s key write).pack = s.pack := rfl
@[simp] theorem touchMap_power (key : Nat) (write : Bool) : (touchMap s key write).power = s.power := rfl
@[simp] theorem touchMap_mgmt (key : Nat) (write : Bool) : (touchMap s key write).mgmt = s.mgmt := rfl
@[simp] theorem touchMap_pins (key : Nat) (write : Bool) : (touchMap s key write).pins = s.pins := rfl
@[simp] theorem touchMap_out (key : Nat) (write : Bool) : (touchMap s key write).out = s.out := rfl
@[simp] theorem touchMap_freeCtr (key : Nat) (write : Bool) : (touchMap s key write).freeCtr = s.freeCtr := rfl
@[simp] theorem touchMap_pending (key : Nat) (write : Bool) : (touchMap s key write).pending = s.pending := rfl

@[simp] theorem touchDir_now (leaf : Nat) (write : Bool) : (touchDir s leaf write).now = s.now := rfl
@[simp] theorem touchDir_bootAt (leaf : Nat) (write : Bool) : (touchDir s leaf write).bootAt = s.bootAt := rfl
@[simp] theorem touchDir_dict (leaf : Nat) (write : Bool) : (touchDir s leaf write).dict = s.dict := rfl
@[simp] theorem touchDir_ep (leaf : Nat) (write : Bool) : (touchDir s leaf write).ep = s.ep := rfl
@[simp] theorem touchDir_ev (leaf : Nat) (write : Bool) : (touchDir s leaf write).ev = s.ev := rfl
@[simp] theorem touchDir_qps (leaf : Nat) (write : Bool) : (touchDir s leaf write).qps = s.qps := rfl
@[simp] theorem touchDir_sluice (leaf : Nat) (write : Bool) : (touchDir s leaf write).sluice = s.sluice := rfl
@[simp] theorem touchDir_host (leaf : Nat) (write : Bool) : (touchDir s leaf write).host = s.host := rfl
@[simp] theorem touchDir_vols (leaf : Nat) (write : Bool) : (touchDir s leaf write).vols = s.vols := rfl
@[simp] theorem touchDir_map (leaf : Nat) (write : Bool) : (touchDir s leaf write).map = s.map := rfl
@[simp] theorem touchDir_prot (leaf : Nat) (write : Bool) : (touchDir s leaf write).prot = s.prot := rfl
@[simp] theorem touchDir_pools (leaf : Nat) (write : Bool) : (touchDir s leaf write).pools = s.pools := rfl
@[simp] theorem touchDir_ilog (leaf : Nat) (write : Bool) : (touchDir s leaf write).ilog = s.ilog := rfl
@[simp] theorem touchDir_drv (leaf : Nat) (write : Bool) : (touchDir s leaf write).drv = s.drv := rfl
@[simp] theorem touchDir_key (leaf : Nat) (write : Bool) : (touchDir s leaf write).key = s.key := rfl
@[simp] theorem touchDir_cache (leaf : Nat) (write : Bool) : (touchDir s leaf write).cache = s.cache := rfl
@[simp] theorem touchDir_pair (leaf : Nat) (write : Bool) : (touchDir s leaf write).pair = s.pair := rfl
@[simp] theorem touchDir_pack (leaf : Nat) (write : Bool) : (touchDir s leaf write).pack = s.pack := rfl
@[simp] theorem touchDir_power (leaf : Nat) (write : Bool) : (touchDir s leaf write).power = s.power := rfl
@[simp] theorem touchDir_mgmt (leaf : Nat) (write : Bool) : (touchDir s leaf write).mgmt = s.mgmt := rfl
@[simp] theorem touchDir_pins (leaf : Nat) (write : Bool) : (touchDir s leaf write).pins = s.pins := rfl
@[simp] theorem touchDir_out (leaf : Nat) (write : Bool) : (touchDir s leaf write).out = s.out := rfl
@[simp] theorem touchDir_freeCtr (leaf : Nat) (write : Bool) : (touchDir s leaf write).freeCtr = s.freeCtr := rfl
@[simp] theorem touchDir_pending (leaf : Nat) (write : Bool) : (touchDir s leaf write).pending = s.pending := rfl

@[simp] theorem touchDesc_now (n : Nat) : (touchDesc s n).now = s.now := rfl
@[simp] theorem touchDesc_bootAt (n : Nat) : (touchDesc s n).bootAt = s.bootAt := rfl
@[simp] theorem touchDesc_dict (n : Nat) : (touchDesc s n).dict = s.dict := rfl
@[simp] theorem touchDesc_ep (n : Nat) : (touchDesc s n).ep = s.ep := rfl
@[simp] theorem touchDesc_ev (n : Nat) : (touchDesc s n).ev = s.ev := rfl
@[simp] theorem touchDesc_qps (n : Nat) : (touchDesc s n).qps = s.qps := rfl
@[simp] theorem touchDesc_sluice (n : Nat) : (touchDesc s n).sluice = s.sluice := rfl
@[simp] theorem touchDesc_host (n : Nat) : (touchDesc s n).host = s.host := rfl
@[simp] theorem touchDesc_vols (n : Nat) : (touchDesc s n).vols = s.vols := rfl
@[simp] theorem touchDesc_map (n : Nat) : (touchDesc s n).map = s.map := rfl
@[simp] theorem touchDesc_prot (n : Nat) : (touchDesc s n).prot = s.prot := rfl
@[simp] theorem touchDesc_pools (n : Nat) : (touchDesc s n).pools = s.pools := rfl
@[simp] theorem touchDesc_ilog (n : Nat) : (touchDesc s n).ilog = s.ilog := rfl
@[simp] theorem touchDesc_drv (n : Nat) : (touchDesc s n).drv = s.drv := rfl
@[simp] theorem touchDesc_key (n : Nat) : (touchDesc s n).key = s.key := rfl
@[simp] theorem touchDesc_cache (n : Nat) : (touchDesc s n).cache = s.cache := rfl
@[simp] theorem touchDesc_pair (n : Nat) : (touchDesc s n).pair = s.pair := rfl
@[simp] theorem touchDesc_pack (n : Nat) : (touchDesc s n).pack = s.pack := rfl
@[simp] theorem touchDesc_power (n : Nat) : (touchDesc s n).power = s.power := rfl
@[simp] theorem touchDesc_mgmt (n : Nat) : (touchDesc s n).mgmt = s.mgmt := rfl
@[simp] theorem touchDesc_pins (n : Nat) : (touchDesc s n).pins = s.pins := rfl
@[simp] theorem touchDesc_out (n : Nat) : (touchDesc s n).out = s.out := rfl
@[simp] theorem touchDesc_freeCtr (n : Nat) : (touchDesc s n).freeCtr = s.freeCtr := rfl
@[simp] theorem touchDesc_pending (n : Nat) : (touchDesc s n).pending = s.pending := rfl

@[simp] theorem setVer_now (v lba : Nat) (x : Ver) : (setVer s v lba x).now = s.now := rfl
@[simp] theorem setVer_bootAt (v lba : Nat) (x : Ver) : (setVer s v lba x).bootAt = s.bootAt := rfl
@[simp] theorem setVer_dict (v lba : Nat) (x : Ver) : (setVer s v lba x).dict = s.dict := rfl
@[simp] theorem setVer_ep (v lba : Nat) (x : Ver) : (setVer s v lba x).ep = s.ep := rfl
@[simp] theorem setVer_ev (v lba : Nat) (x : Ver) : (setVer s v lba x).ev = s.ev := rfl
@[simp] theorem setVer_qps (v lba : Nat) (x : Ver) : (setVer s v lba x).qps = s.qps := rfl
@[simp] theorem setVer_sluice (v lba : Nat) (x : Ver) : (setVer s v lba x).sluice = s.sluice := rfl
@[simp] theorem setVer_host (v lba : Nat) (x : Ver) : (setVer s v lba x).host = s.host := rfl
@[simp] theorem setVer_vols (v lba : Nat) (x : Ver) : (setVer s v lba x).vols = s.vols := rfl
@[simp] theorem setVer_prot (v lba : Nat) (x : Ver) : (setVer s v lba x).prot = s.prot := rfl
@[simp] theorem setVer_pools (v lba : Nat) (x : Ver) : (setVer s v lba x).pools = s.pools := rfl
@[simp] theorem setVer_ilog (v lba : Nat) (x : Ver) : (setVer s v lba x).ilog = s.ilog := rfl
@[simp] theorem setVer_drv (v lba : Nat) (x : Ver) : (setVer s v lba x).drv = s.drv := rfl
@[simp] theorem setVer_key (v lba : Nat) (x : Ver) : (setVer s v lba x).key = s.key := rfl
@[simp] theorem setVer_cache (v lba : Nat) (x : Ver) : (setVer s v lba x).cache = s.cache := rfl
@[simp] theorem setVer_lines (v lba : Nat) (x : Ver) : (setVer s v lba x).lines = s.lines := rfl
@[simp] theorem setVer_pair (v lba : Nat) (x : Ver) : (setVer s v lba x).pair = s.pair := rfl
@[simp] theorem setVer_pack (v lba : Nat) (x : Ver) : (setVer s v lba x).pack = s.pack := rfl
@[simp] theorem setVer_power (v lba : Nat) (x : Ver) : (setVer s v lba x).power = s.power := rfl
@[simp] theorem setVer_mgmt (v lba : Nat) (x : Ver) : (setVer s v lba x).mgmt = s.mgmt := rfl
@[simp] theorem setVer_pins (v lba : Nat) (x : Ver) : (setVer s v lba x).pins = s.pins := rfl
@[simp] theorem setVer_out (v lba : Nat) (x : Ver) : (setVer s v lba x).out = s.out := rfl
@[simp] theorem setVer_freeCtr (v lba : Nat) (x : Ver) : (setVer s v lba x).freeCtr = s.freeCtr := rfl
@[simp] theorem setVer_pending (v lba : Nat) (x : Ver) : (setVer s v lba x).pending = s.pending := rfl

@[simp] theorem modPair_now (f : PairSt → PairSt) : (modPair s f).now = s.now := rfl
@[simp] theorem modPair_bootAt (f : PairSt → PairSt) : (modPair s f).bootAt = s.bootAt := rfl
@[simp] theorem modPair_dict (f : PairSt → PairSt) : (modPair s f).dict = s.dict := rfl
@[simp] theorem modPair_ep (f : PairSt → PairSt) : (modPair s f).ep = s.ep := rfl
@[simp] theorem modPair_ev (f : PairSt → PairSt) : (modPair s f).ev = s.ev := rfl
@[simp] theorem modPair_qps (f : PairSt → PairSt) : (modPair s f).qps = s.qps := rfl
@[simp] theorem modPair_sluice (f : PairSt → PairSt) : (modPair s f).sluice = s.sluice := rfl
@[simp] theorem modPair_host (f : PairSt → PairSt) : (modPair s f).host = s.host := rfl
@[simp] theorem modPair_vols (f : PairSt → PairSt) : (modPair s f).vols = s.vols := rfl
@[simp] theorem modPair_map (f : PairSt → PairSt) : (modPair s f).map = s.map := rfl
@[simp] theorem modPair_prot (f : PairSt → PairSt) : (modPair s f).prot = s.prot := rfl
@[simp] theorem modPair_pools (f : PairSt → PairSt) : (modPair s f).pools = s.pools := rfl
@[simp] theorem modPair_ilog (f : PairSt → PairSt) : (modPair s f).ilog = s.ilog := rfl
@[simp] theorem modPair_drv (f : PairSt → PairSt) : (modPair s f).drv = s.drv := rfl
@[simp] theorem modPair_key (f : PairSt → PairSt) : (modPair s f).key = s.key := rfl
@[simp] theorem modPair_cache (f : PairSt → PairSt) : (modPair s f).cache = s.cache := rfl
@[simp] theorem modPair_lines (f : PairSt → PairSt) : (modPair s f).lines = s.lines := rfl
@[simp] theorem modPair_pack (f : PairSt → PairSt) : (modPair s f).pack = s.pack := rfl
@[simp] theorem modPair_power (f : PairSt → PairSt) : (modPair s f).power = s.power := rfl
@[simp] theorem modPair_mgmt (f : PairSt → PairSt) : (modPair s f).mgmt = s.mgmt := rfl
@[simp] theorem modPair_pins (f : PairSt → PairSt) : (modPair s f).pins = s.pins := rfl
@[simp] theorem modPair_out (f : PairSt → PairSt) : (modPair s f).out = s.out := rfl
@[simp] theorem modPair_freeCtr (f : PairSt → PairSt) : (modPair s f).freeCtr = s.freeCtr := rfl
@[simp] theorem modPair_pending (f : PairSt → PairSt) : (modPair s f).pending = s.pending := rfl

@[simp] theorem modLink_now (f : Link → Link) : (modLink s f).now = s.now := rfl
@[simp] theorem modLink_bootAt (f : Link → Link) : (modLink s f).bootAt = s.bootAt := rfl
@[simp] theorem modLink_dict (f : Link → Link) : (modLink s f).dict = s.dict := rfl
@[simp] theorem modLink_ep (f : Link → Link) : (modLink s f).ep = s.ep := rfl
@[simp] theorem modLink_ev (f : Link → Link) : (modLink s f).ev = s.ev := rfl
@[simp] theorem modLink_qps (f : Link → Link) : (modLink s f).qps = s.qps := rfl
@[simp] theorem modLink_sluice (f : Link → Link) : (modLink s f).sluice = s.sluice := rfl
@[simp] theorem modLink_host (f : Link → Link) : (modLink s f).host = s.host := rfl
@[simp] theorem modLink_vols (f : Link → Link) : (modLink s f).vols = s.vols := rfl
@[simp] theorem modLink_map (f : Link → Link) : (modLink s f).map = s.map := rfl
@[simp] theorem modLink_prot (f : Link → Link) : (modLink s f).prot = s.prot := rfl
@[simp] theorem modLink_pools (f : Link → Link) : (modLink s f).pools = s.pools := rfl
@[simp] theorem modLink_ilog (f : Link → Link) : (modLink s f).ilog = s.ilog := rfl
@[simp] theorem modLink_drv (f : Link → Link) : (modLink s f).drv = s.drv := rfl
@[simp] theorem modLink_key (f : Link → Link) : (modLink s f).key = s.key := rfl
@[simp] theorem modLink_cache (f : Link → Link) : (modLink s f).cache = s.cache := rfl
@[simp] theorem modLink_lines (f : Link → Link) : (modLink s f).lines = s.lines := rfl
@[simp] theorem modLink_pack (f : Link → Link) : (modLink s f).pack = s.pack := rfl
@[simp] theorem modLink_power (f : Link → Link) : (modLink s f).power = s.power := rfl
@[simp] theorem modLink_mgmt (f : Link → Link) : (modLink s f).mgmt = s.mgmt := rfl
@[simp] theorem modLink_pins (f : Link → Link) : (modLink s f).pins = s.pins := rfl
@[simp] theorem modLink_out (f : Link → Link) : (modLink s f).out = s.out := rfl
@[simp] theorem modLink_freeCtr (f : Link → Link) : (modLink s f).freeCtr = s.freeCtr := rfl
@[simp] theorem modLink_pending (f : Link → Link) : (modLink s f).pending = s.pending := rfl

@[simp] theorem setPool_now (p : Nat) (x : Pool) : (setPool s p x).now = s.now := rfl
@[simp] theorem setPool_bootAt (p : Nat) (x : Pool) : (setPool s p x).bootAt = s.bootAt := rfl
@[simp] theorem setPool_dict (p : Nat) (x : Pool) : (setPool s p x).dict = s.dict := rfl
@[simp] theorem setPool_ep (p : Nat) (x : Pool) : (setPool s p x).ep = s.ep := rfl
@[simp] theorem setPool_ev (p : Nat) (x : Pool) : (setPool s p x).ev = s.ev := rfl
@[simp] theorem setPool_qps (p : Nat) (x : Pool) : (setPool s p x).qps = s.qps := rfl
@[simp] theorem setPool_sluice (p : Nat) (x : Pool) : (setPool s p x).sluice = s.sluice := rfl
@[simp] theorem setPool_host (p : Nat) (x : Pool) : (setPool s p x).host = s.host := rfl
@[simp] theorem setPool_vols (p : Nat) (x : Pool) : (setPool s p x).vols = s.vols := rfl
@[simp] theorem setPool_map (p : Nat) (x : Pool) : (setPool s p x).map = s.map := rfl
@[simp] theorem setPool_prot (p : Nat) (x : Pool) : (setPool s p x).prot = s.prot := rfl
@[simp] theorem setPool_ilog (p : Nat) (x : Pool) : (setPool s p x).ilog = s.ilog := rfl
@[simp] theorem setPool_drv (p : Nat) (x : Pool) : (setPool s p x).drv = s.drv := rfl
@[simp] theorem setPool_key (p : Nat) (x : Pool) : (setPool s p x).key = s.key := rfl
@[simp] theorem setPool_cache (p : Nat) (x : Pool) : (setPool s p x).cache = s.cache := rfl
@[simp] theorem setPool_lines (p : Nat) (x : Pool) : (setPool s p x).lines = s.lines := rfl
@[simp] theorem setPool_pair (p : Nat) (x : Pool) : (setPool s p x).pair = s.pair := rfl
@[simp] theorem setPool_pack (p : Nat) (x : Pool) : (setPool s p x).pack = s.pack := rfl
@[simp] theorem setPool_power (p : Nat) (x : Pool) : (setPool s p x).power = s.power := rfl
@[simp] theorem setPool_mgmt (p : Nat) (x : Pool) : (setPool s p x).mgmt = s.mgmt := rfl
@[simp] theorem setPool_pins (p : Nat) (x : Pool) : (setPool s p x).pins = s.pins := rfl
@[simp] theorem setPool_out (p : Nat) (x : Pool) : (setPool s p x).out = s.out := rfl
@[simp] theorem setPool_freeCtr (p : Nat) (x : Pool) : (setPool s p x).freeCtr = s.freeCtr := rfl
@[simp] theorem setPool_pending (p : Nat) (x : Pool) : (setPool s p x).pending = s.pending := rfl

@[simp] theorem modDPort_now (n : Nat) (f : DPort → DPort) : (modDPort s n f).now = s.now := rfl
@[simp] theorem modDPort_bootAt (n : Nat) (f : DPort → DPort) : (modDPort s n f).bootAt = s.bootAt := rfl
@[simp] theorem modDPort_dict (n : Nat) (f : DPort → DPort) : (modDPort s n f).dict = s.dict := rfl
@[simp] theorem modDPort_ep (n : Nat) (f : DPort → DPort) : (modDPort s n f).ep = s.ep := rfl
@[simp] theorem modDPort_ev (n : Nat) (f : DPort → DPort) : (modDPort s n f).ev = s.ev := rfl
@[simp] theorem modDPort_qps (n : Nat) (f : DPort → DPort) : (modDPort s n f).qps = s.qps := rfl
@[simp] theorem modDPort_sluice (n : Nat) (f : DPort → DPort) : (modDPort s n f).sluice = s.sluice := rfl
@[simp] theorem modDPort_host (n : Nat) (f : DPort → DPort) : (modDPort s n f).host = s.host := rfl
@[simp] theorem modDPort_vols (n : Nat) (f : DPort → DPort) : (modDPort s n f).vols = s.vols := rfl
@[simp] theorem modDPort_map (n : Nat) (f : DPort → DPort) : (modDPort s n f).map = s.map := rfl
@[simp] theorem modDPort_prot (n : Nat) (f : DPort → DPort) : (modDPort s n f).prot = s.prot := rfl
@[simp] theorem modDPort_pools (n : Nat) (f : DPort → DPort) : (modDPort s n f).pools = s.pools := rfl
@[simp] theorem modDPort_ilog (n : Nat) (f : DPort → DPort) : (modDPort s n f).ilog = s.ilog := rfl
@[simp] theorem modDPort_key (n : Nat) (f : DPort → DPort) : (modDPort s n f).key = s.key := rfl
@[simp] theorem modDPort_cache (n : Nat) (f : DPort → DPort) : (modDPort s n f).cache = s.cache := rfl
@[simp] theorem modDPort_lines (n : Nat) (f : DPort → DPort) : (modDPort s n f).lines = s.lines := rfl
@[simp] theorem modDPort_pair (n : Nat) (f : DPort → DPort) : (modDPort s n f).pair = s.pair := rfl
@[simp] theorem modDPort_pack (n : Nat) (f : DPort → DPort) : (modDPort s n f).pack = s.pack := rfl
@[simp] theorem modDPort_power (n : Nat) (f : DPort → DPort) : (modDPort s n f).power = s.power := rfl
@[simp] theorem modDPort_mgmt (n : Nat) (f : DPort → DPort) : (modDPort s n f).mgmt = s.mgmt := rfl
@[simp] theorem modDPort_pins (n : Nat) (f : DPort → DPort) : (modDPort s n f).pins = s.pins := rfl
@[simp] theorem modDPort_out (n : Nat) (f : DPort → DPort) : (modDPort s n f).out = s.out := rfl
@[simp] theorem modDPort_freeCtr (n : Nat) (f : DPort → DPort) : (modDPort s n f).freeCtr = s.freeCtr := rfl
@[simp] theorem modDPort_pending (n : Nat) (f : DPort → DPort) : (modDPort s n f).pending = s.pending := rfl

@[simp] theorem setMCmd_now (id : Nat) (c : MCmd) : (setMCmd s id c).now = s.now := rfl
@[simp] theorem setMCmd_bootAt (id : Nat) (c : MCmd) : (setMCmd s id c).bootAt = s.bootAt := rfl
@[simp] theorem setMCmd_dict (id : Nat) (c : MCmd) : (setMCmd s id c).dict = s.dict := rfl
@[simp] theorem setMCmd_ep (id : Nat) (c : MCmd) : (setMCmd s id c).ep = s.ep := rfl
@[simp] theorem setMCmd_ev (id : Nat) (c : MCmd) : (setMCmd s id c).ev = s.ev := rfl
@[simp] theorem setMCmd_qps (id : Nat) (c : MCmd) : (setMCmd s id c).qps = s.qps := rfl
@[simp] theorem setMCmd_sluice (id : Nat) (c : MCmd) : (setMCmd s id c).sluice = s.sluice := rfl
@[simp] theorem setMCmd_host (id : Nat) (c : MCmd) : (setMCmd s id c).host = s.host := rfl
@[simp] theorem setMCmd_vols (id : Nat) (c : MCmd) : (setMCmd s id c).vols = s.vols := rfl
@[simp] theorem setMCmd_map (id : Nat) (c : MCmd) : (setMCmd s id c).map = s.map := rfl
@[simp] theorem setMCmd_prot (id : Nat) (c : MCmd) : (setMCmd s id c).prot = s.prot := rfl
@[simp] theorem setMCmd_pools (id : Nat) (c : MCmd) : (setMCmd s id c).pools = s.pools := rfl
@[simp] theorem setMCmd_ilog (id : Nat) (c : MCmd) : (setMCmd s id c).ilog = s.ilog := rfl
@[simp] theorem setMCmd_key (id : Nat) (c : MCmd) : (setMCmd s id c).key = s.key := rfl
@[simp] theorem setMCmd_cache (id : Nat) (c : MCmd) : (setMCmd s id c).cache = s.cache := rfl
@[simp] theorem setMCmd_lines (id : Nat) (c : MCmd) : (setMCmd s id c).lines = s.lines := rfl
@[simp] theorem setMCmd_pair (id : Nat) (c : MCmd) : (setMCmd s id c).pair = s.pair := rfl
@[simp] theorem setMCmd_pack (id : Nat) (c : MCmd) : (setMCmd s id c).pack = s.pack := rfl
@[simp] theorem setMCmd_power (id : Nat) (c : MCmd) : (setMCmd s id c).power = s.power := rfl
@[simp] theorem setMCmd_mgmt (id : Nat) (c : MCmd) : (setMCmd s id c).mgmt = s.mgmt := rfl
@[simp] theorem setMCmd_pins (id : Nat) (c : MCmd) : (setMCmd s id c).pins = s.pins := rfl
@[simp] theorem setMCmd_out (id : Nat) (c : MCmd) : (setMCmd s id c).out = s.out := rfl
@[simp] theorem setMCmd_freeCtr (id : Nat) (c : MCmd) : (setMCmd s id c).freeCtr = s.freeCtr := rfl
@[simp] theorem setMCmd_pending (id : Nat) (c : MCmd) : (setMCmd s id c).pending = s.pending := rfl

@[simp] theorem modMgmt_now (f : MgmtSt → MgmtSt) : (modMgmt s f).now = s.now := rfl
@[simp] theorem modMgmt_bootAt (f : MgmtSt → MgmtSt) : (modMgmt s f).bootAt = s.bootAt := rfl
@[simp] theorem modMgmt_dict (f : MgmtSt → MgmtSt) : (modMgmt s f).dict = s.dict := rfl
@[simp] theorem modMgmt_ep (f : MgmtSt → MgmtSt) : (modMgmt s f).ep = s.ep := rfl
@[simp] theorem modMgmt_ev (f : MgmtSt → MgmtSt) : (modMgmt s f).ev = s.ev := rfl
@[simp] theorem modMgmt_qps (f : MgmtSt → MgmtSt) : (modMgmt s f).qps = s.qps := rfl
@[simp] theorem modMgmt_sluice (f : MgmtSt → MgmtSt) : (modMgmt s f).sluice = s.sluice := rfl
@[simp] theorem modMgmt_host (f : MgmtSt → MgmtSt) : (modMgmt s f).host = s.host := rfl
@[simp] theorem modMgmt_vols (f : MgmtSt → MgmtSt) : (modMgmt s f).vols = s.vols := rfl
@[simp] theorem modMgmt_map (f : MgmtSt → MgmtSt) : (modMgmt s f).map = s.map := rfl
@[simp] theorem modMgmt_prot (f : MgmtSt → MgmtSt) : (modMgmt s f).prot = s.prot := rfl
@[simp] theorem modMgmt_pools (f : MgmtSt → MgmtSt) : (modMgmt s f).pools = s.pools := rfl
@[simp] theorem modMgmt_ilog (f : MgmtSt → MgmtSt) : (modMgmt s f).ilog = s.ilog := rfl
@[simp] theorem modMgmt_drv (f : MgmtSt → MgmtSt) : (modMgmt s f).drv = s.drv := rfl
@[simp] theorem modMgmt_key (f : MgmtSt → MgmtSt) : (modMgmt s f).key = s.key := rfl
@[simp] theorem modMgmt_cache (f : MgmtSt → MgmtSt) : (modMgmt s f).cache = s.cache := rfl
@[simp] theorem modMgmt_lines (f : MgmtSt → MgmtSt) : (modMgmt s f).lines = s.lines := rfl
@[simp] theorem modMgmt_pair (f : MgmtSt → MgmtSt) : (modMgmt s f).pair = s.pair := rfl
@[simp] theorem modMgmt_pack (f : MgmtSt → MgmtSt) : (modMgmt s f).pack = s.pack := rfl
@[simp] theorem modMgmt_power (f : MgmtSt → MgmtSt) : (modMgmt s f).power = s.power := rfl
@[simp] theorem modMgmt_pins (f : MgmtSt → MgmtSt) : (modMgmt s f).pins = s.pins := rfl
@[simp] theorem modMgmt_out (f : MgmtSt → MgmtSt) : (modMgmt s f).out = s.out := rfl
@[simp] theorem modMgmt_freeCtr (f : MgmtSt → MgmtSt) : (modMgmt s f).freeCtr = s.freeCtr := rfl
@[simp] theorem modMgmt_pending (f : MgmtSt → MgmtSt) : (modMgmt s f).pending = s.pending := rfl

@[simp] theorem modPack_now (f : PackSt → PackSt) : (modPack s f).now = s.now := rfl
@[simp] theorem modPack_bootAt (f : PackSt → PackSt) : (modPack s f).bootAt = s.bootAt := rfl
@[simp] theorem modPack_dict (f : PackSt → PackSt) : (modPack s f).dict = s.dict := rfl
@[simp] theorem modPack_ep (f : PackSt → PackSt) : (modPack s f).ep = s.ep := rfl
@[simp] theorem modPack_ev (f : PackSt → PackSt) : (modPack s f).ev = s.ev := rfl
@[simp] theorem modPack_qps (f : PackSt → PackSt) : (modPack s f).qps = s.qps := rfl
@[simp] theorem modPack_sluice (f : PackSt → PackSt) : (modPack s f).sluice = s.sluice := rfl
@[simp] theorem modPack_host (f : PackSt → PackSt) : (modPack s f).host = s.host := rfl
@[simp] theorem modPack_vols (f : PackSt → PackSt) : (modPack s f).vols = s.vols := rfl
@[simp] theorem modPack_map (f : PackSt → PackSt) : (modPack s f).map = s.map := rfl
@[simp] theorem modPack_prot (f : PackSt → PackSt) : (modPack s f).prot = s.prot := rfl
@[simp] theorem modPack_pools (f : PackSt → PackSt) : (modPack s f).pools = s.pools := rfl
@[simp] theorem modPack_ilog (f : PackSt → PackSt) : (modPack s f).ilog = s.ilog := rfl
@[simp] theorem modPack_drv (f : PackSt → PackSt) : (modPack s f).drv = s.drv := rfl
@[simp] theorem modPack_key (f : PackSt → PackSt) : (modPack s f).key = s.key := rfl
@[simp] theorem modPack_cache (f : PackSt → PackSt) : (modPack s f).cache = s.cache := rfl
@[simp] theorem modPack_lines (f : PackSt → PackSt) : (modPack s f).lines = s.lines := rfl
@[simp] theorem modPack_pair (f : PackSt → PackSt) : (modPack s f).pair = s.pair := rfl
@[simp] theorem modPack_power (f : PackSt → PackSt) : (modPack s f).power = s.power := rfl
@[simp] theorem modPack_mgmt (f : PackSt → PackSt) : (modPack s f).mgmt = s.mgmt := rfl
@[simp] theorem modPack_pins (f : PackSt → PackSt) : (modPack s f).pins = s.pins := rfl
@[simp] theorem modPack_out (f : PackSt → PackSt) : (modPack s f).out = s.out := rfl
@[simp] theorem modPack_freeCtr (f : PackSt → PackSt) : (modPack s f).freeCtr = s.freeCtr := rfl
@[simp] theorem modPack_pending (f : PackSt → PackSt) : (modPack s f).pending = s.pending := rfl

@[simp] theorem modPower_now (f : PowerSt → PowerSt) : (modPower s f).now = s.now := rfl
@[simp] theorem modPower_bootAt (f : PowerSt → PowerSt) : (modPower s f).bootAt = s.bootAt := rfl
@[simp] theorem modPower_dict (f : PowerSt → PowerSt) : (modPower s f).dict = s.dict := rfl
@[simp] theorem modPower_ep (f : PowerSt → PowerSt) : (modPower s f).ep = s.ep := rfl
@[simp] theorem modPower_ev (f : PowerSt → PowerSt) : (modPower s f).ev = s.ev := rfl
@[simp] theorem modPower_qps (f : PowerSt → PowerSt) : (modPower s f).qps = s.qps := rfl
@[simp] theorem modPower_sluice (f : PowerSt → PowerSt) : (modPower s f).sluice = s.sluice := rfl
@[simp] theorem modPower_host (f : PowerSt → PowerSt) : (modPower s f).host = s.host := rfl
@[simp] theorem modPower_vols (f : PowerSt → PowerSt) : (modPower s f).vols = s.vols := rfl
@[simp] theorem modPower_map (f : PowerSt → PowerSt) : (modPower s f).map = s.map := rfl
@[simp] theorem modPower_prot (f : PowerSt → PowerSt) : (modPower s f).prot = s.prot := rfl
@[simp] theorem modPower_pools (f : PowerSt → PowerSt) : (modPower s f).pools = s.pools := rfl
@[simp] theorem modPower_ilog (f : PowerSt → PowerSt) : (modPower s f).ilog = s.ilog := rfl
@[simp] theorem modPower_drv (f : PowerSt → PowerSt) : (modPower s f).drv = s.drv := rfl
@[simp] theorem modPower_key (f : PowerSt → PowerSt) : (modPower s f).key = s.key := rfl
@[simp] theorem modPower_cache (f : PowerSt → PowerSt) : (modPower s f).cache = s.cache := rfl
@[simp] theorem modPower_lines (f : PowerSt → PowerSt) : (modPower s f).lines = s.lines := rfl
@[simp] theorem modPower_pair (f : PowerSt → PowerSt) : (modPower s f).pair = s.pair := rfl
@[simp] theorem modPower_pack (f : PowerSt → PowerSt) : (modPower s f).pack = s.pack := rfl
@[simp] theorem modPower_mgmt (f : PowerSt → PowerSt) : (modPower s f).mgmt = s.mgmt := rfl
@[simp] theorem modPower_pins (f : PowerSt → PowerSt) : (modPower s f).pins = s.pins := rfl
@[simp] theorem modPower_out (f : PowerSt → PowerSt) : (modPower s f).out = s.out := rfl
@[simp] theorem modPower_freeCtr (f : PowerSt → PowerSt) : (modPower s f).freeCtr = s.freeCtr := rfl
@[simp] theorem modPower_pending (f : PowerSt → PowerSt) : (modPower s f).pending = s.pending := rfl

@[simp] theorem setQp_now (q : Nat) (x : Qp) : (setQp s q x).now = s.now := rfl
@[simp] theorem setQp_bootAt (q : Nat) (x : Qp) : (setQp s q x).bootAt = s.bootAt := rfl
@[simp] theorem setQp_dict (q : Nat) (x : Qp) : (setQp s q x).dict = s.dict := rfl
@[simp] theorem setQp_ep (q : Nat) (x : Qp) : (setQp s q x).ep = s.ep := rfl
@[simp] theorem setQp_ev (q : Nat) (x : Qp) : (setQp s q x).ev = s.ev := rfl
@[simp] theorem setQp_sluice (q : Nat) (x : Qp) : (setQp s q x).sluice = s.sluice := rfl
@[simp] theorem setQp_host (q : Nat) (x : Qp) : (setQp s q x).host = s.host := rfl
@[simp] theorem setQp_vols (q : Nat) (x : Qp) : (setQp s q x).vols = s.vols := rfl
@[simp] theorem setQp_map (q : Nat) (x : Qp) : (setQp s q x).map = s.map := rfl
@[simp] theorem setQp_prot (q : Nat) (x : Qp) : (setQp s q x).prot = s.prot := rfl
@[simp] theorem setQp_pools (q : Nat) (x : Qp) : (setQp s q x).pools = s.pools := rfl
@[simp] theorem setQp_ilog (q : Nat) (x : Qp) : (setQp s q x).ilog = s.ilog := rfl
@[simp] theorem setQp_drv (q : Nat) (x : Qp) : (setQp s q x).drv = s.drv := rfl
@[simp] theorem setQp_key (q : Nat) (x : Qp) : (setQp s q x).key = s.key := rfl
@[simp] theorem setQp_cache (q : Nat) (x : Qp) : (setQp s q x).cache = s.cache := rfl
@[simp] theorem setQp_lines (q : Nat) (x : Qp) : (setQp s q x).lines = s.lines := rfl
@[simp] theorem setQp_pair (q : Nat) (x : Qp) : (setQp s q x).pair = s.pair := rfl
@[simp] theorem setQp_pack (q : Nat) (x : Qp) : (setQp s q x).pack = s.pack := rfl
@[simp] theorem setQp_power (q : Nat) (x : Qp) : (setQp s q x).power = s.power := rfl
@[simp] theorem setQp_mgmt (q : Nat) (x : Qp) : (setQp s q x).mgmt = s.mgmt := rfl
@[simp] theorem setQp_pins (q : Nat) (x : Qp) : (setQp s q x).pins = s.pins := rfl
@[simp] theorem setQp_out (q : Nat) (x : Qp) : (setQp s q x).out = s.out := rfl
@[simp] theorem setQp_freeCtr (q : Nat) (x : Qp) : (setQp s q x).freeCtr = s.freeCtr := rfl
@[simp] theorem setQp_pending (q : Nat) (x : Qp) : (setQp s q x).pending = s.pending := rfl

@[simp] theorem modQp_now (q : Nat) (f : Qp → Qp) : (modQp s q f).now = s.now := rfl
@[simp] theorem modQp_bootAt (q : Nat) (f : Qp → Qp) : (modQp s q f).bootAt = s.bootAt := rfl
@[simp] theorem modQp_dict (q : Nat) (f : Qp → Qp) : (modQp s q f).dict = s.dict := rfl
@[simp] theorem modQp_ep (q : Nat) (f : Qp → Qp) : (modQp s q f).ep = s.ep := rfl
@[simp] theorem modQp_ev (q : Nat) (f : Qp → Qp) : (modQp s q f).ev = s.ev := rfl
@[simp] theorem modQp_sluice (q : Nat) (f : Qp → Qp) : (modQp s q f).sluice = s.sluice := rfl
@[simp] theorem modQp_host (q : Nat) (f : Qp → Qp) : (modQp s q f).host = s.host := rfl
@[simp] theorem modQp_vols (q : Nat) (f : Qp → Qp) : (modQp s q f).vols = s.vols := rfl
@[simp] theorem modQp_map (q : Nat) (f : Qp → Qp) : (modQp s q f).map = s.map := rfl
@[simp] theorem modQp_prot (q : Nat) (f : Qp → Qp) : (modQp s q f).prot = s.prot := rfl
@[simp] theorem modQp_pools (q : Nat) (f : Qp → Qp) : (modQp s q f).pools = s.pools := rfl
@[simp] theorem modQp_ilog (q : Nat) (f : Qp → Qp) : (modQp s q f).ilog = s.ilog := rfl
@[simp] theorem modQp_drv (q : Nat) (f : Qp → Qp) : (modQp s q f).drv = s.drv := rfl
@[simp] theorem modQp_key (q : Nat) (f : Qp → Qp) : (modQp s q f).key = s.key := rfl
@[simp] theorem modQp_cache (q : Nat) (f : Qp → Qp) : (modQp s q f).cache = s.cache := rfl
@[simp] theorem modQp_lines (q : Nat) (f : Qp → Qp) : (modQp s q f).lines = s.lines := rfl
@[simp] theorem modQp_pair (q : Nat) (f : Qp → Qp) : (modQp s q f).pair = s.pair := rfl
@[simp] theorem modQp_pack (q : Nat) (f : Qp → Qp) : (modQp s q f).pack = s.pack := rfl
@[simp] theorem modQp_power (q : Nat) (f : Qp → Qp) : (modQp s q f).power = s.power := rfl
@[simp] theorem modQp_mgmt (q : Nat) (f : Qp → Qp) : (modQp s q f).mgmt = s.mgmt := rfl
@[simp] theorem modQp_pins (q : Nat) (f : Qp → Qp) : (modQp s q f).pins = s.pins := rfl
@[simp] theorem modQp_out (q : Nat) (f : Qp → Qp) : (modQp s q f).out = s.out := rfl
@[simp] theorem modQp_freeCtr (q : Nat) (f : Qp → Qp) : (modQp s q f).freeCtr = s.freeCtr := rfl
@[simp] theorem modQp_pending (q : Nat) (f : Qp → Qp) : (modQp s q f).pending = s.pending := rfl

@[simp] theorem wr_dict_blobs (o : ObjDesc) (i : Nat) (v : Int) : (wr s o i v).dict.blobs = s.dict.blobs := rfl
@[simp] theorem wr_dict_sessions (o : ObjDesc) (i : Nat) (v : Int) : (wr s o i v).dict.sessions = s.dict.sessions := rfl
@[simp] theorem wr_dict_paced (o : ObjDesc) (i : Nat) (v : Int) : (wr s o i v).dict.paced = s.dict.paced := rfl
@[simp] theorem wr_dict_pace (o : ObjDesc) (i : Nat) (v : Int) : (wr s o i v).dict.pace = s.dict.pace := rfl
@[simp] theorem wr_dict_factory (o : ObjDesc) (i : Nat) (v : Int) : (wr s o i v).dict.factory = s.dict.factory := rfl
@[simp] theorem wrB_dict_blobs (o : ObjDesc) (i : Nat) (b : Bool) : (wrB s o i b).dict.blobs = s.dict.blobs := rfl
@[simp] theorem wrB_dict_sessions (o : ObjDesc) (i : Nat) (b : Bool) : (wrB s o i b).dict.sessions = s.dict.sessions := rfl
@[simp] theorem wrB_dict_paced (o : ObjDesc) (i : Nat) (b : Bool) : (wrB s o i b).dict.paced = s.dict.paced := rfl
@[simp] theorem wrB_dict_pace (o : ObjDesc) (i : Nat) (b : Bool) : (wrB s o i b).dict.pace = s.dict.pace := rfl
@[simp] theorem wrB_dict_factory (o : ObjDesc) (i : Nat) (b : Bool) : (wrB s o i b).dict.factory = s.dict.factory := rfl
@[simp] theorem bump_dict_blobs (o : ObjDesc) (i n : Nat) : (bump s o i n).dict.blobs = s.dict.blobs := rfl
@[simp] theorem bump_dict_sessions (o : ObjDesc) (i n : Nat) : (bump s o i n).dict.sessions = s.dict.sessions := rfl
@[simp] theorem bump_dict_paced (o : ObjDesc) (i n : Nat) : (bump s o i n).dict.paced = s.dict.paced := rfl
@[simp] theorem bump_dict_pace (o : ObjDesc) (i n : Nat) : (bump s o i n).dict.pace = s.dict.pace := rfl
@[simp] theorem bump_dict_factory (o : ObjDesc) (i n : Nat) : (bump s o i n).dict.factory = s.dict.factory := rfl
@[simp] theorem drop_dict_blobs (o : ObjDesc) (i n : Nat) : (drop s o i n).dict.blobs = s.dict.blobs := rfl
@[simp] theorem drop_dict_sessions (o : ObjDesc) (i n : Nat) : (drop s o i n).dict.sessions = s.dict.sessions := rfl
@[simp] theorem drop_dict_paced (o : ObjDesc) (i n : Nat) : (drop s o i n).dict.paced = s.dict.paced := rfl
@[simp] theorem drop_dict_pace (o : ObjDesc) (i n : Nat) : (drop s o i n).dict.pace = s.dict.pace := rfl
@[simp] theorem drop_dict_factory (o : ObjDesc) (i n : Nat) : (drop s o i n).dict.factory = s.dict.factory := rfl
@[simp] theorem clr_dict_blobs (o : ObjDesc) (i : Nat) : (clr s o i).dict.blobs = s.dict.blobs := rfl
@[simp] theorem clr_dict_sessions (o : ObjDesc) (i : Nat) : (clr s o i).dict.sessions = s.dict.sessions := rfl
@[simp] theorem clr_dict_paced (o : ObjDesc) (i : Nat) : (clr s o i).dict.paced = s.dict.paced := rfl
@[simp] theorem clr_dict_pace (o : ObjDesc) (i : Nat) : (clr s o i).dict.pace = s.dict.pace := rfl
@[simp] theorem clr_dict_factory (o : ObjDesc) (i : Nat) : (clr s o i).dict.factory = s.dict.factory := rfl
@[simp] theorem count_dict_blobs (o : ObjDesc) (i n : Nat) : (count s o i n).dict.blobs = s.dict.blobs := rfl
@[simp] theorem count_dict_sessions (o : ObjDesc) (i n : Nat) : (count s o i n).dict.sessions = s.dict.sessions := rfl
@[simp] theorem count_dict_paced (o : ObjDesc) (i n : Nat) : (count s o i n).dict.paced = s.dict.paced := rfl
@[simp] theorem count_dict_pace (o : ObjDesc) (i n : Nat) : (count s o i n).dict.pace = s.dict.pace := rfl
@[simp] theorem count_dict_factory (o : ObjDesc) (i n : Nat) : (count s o i n).dict.factory = s.dict.factory := rfl
@[simp] theorem wrBytes_dict_regs (o : ObjDesc) (i : Nat) (b : Bytes) : (wrBytes s o i b).dict.regs = s.dict.regs := rfl
@[simp] theorem wrBytes_dict_sessions (o : ObjDesc) (i : Nat) (b : Bytes) : (wrBytes s o i b).dict.sessions = s.dict.sessions := rfl
@[simp] theorem wrBytes_dict_paced (o : ObjDesc) (i : Nat) (b : Bytes) : (wrBytes s o i b).dict.paced = s.dict.paced := rfl
@[simp] theorem wrBytes_dict_pace (o : ObjDesc) (i : Nat) (b : Bytes) : (wrBytes s o i b).dict.pace = s.dict.pace := rfl
@[simp] theorem wrBytes_dict_factory (o : ObjDesc) (i : Nat) (b : Bytes) : (wrBytes s o i b).dict.factory = s.dict.factory := rfl
@[simp] theorem emit_out_eq (x : Out) : (emit s x).out = s.out ++ [x] := rfl
@[simp] theorem tick_now_eq : (tick s).now = s.now + 1 := rfl
@[simp] theorem takeFree_freeCtr_eq : (takeFree s).freeCtr = s.freeCtr + 1 := rfl
@[simp] theorem modEp_ep_eq (f : Epoch → Epoch) : (modEp s f).ep = f s.ep := rfl
@[simp] theorem modPower_power_eq (f : PowerSt → PowerSt) : (modPower s f).power = f s.power := rfl
@[simp] theorem modPack_pack_eq (f : PackSt → PackSt) : (modPack s f).pack = f s.pack := rfl
@[simp] theorem modMgmt_mgmt_eq (f : MgmtSt → MgmtSt) : (modMgmt s f).mgmt = f s.mgmt := rfl
@[simp] theorem modPair_pair_eq (f : PairSt → PairSt) : (modPair s f).pair = f s.pair := rfl

end Sys2Proof.Machine
end

