-- ==== Sys2Proof/Laws/Ops.lean ====
section
/-! SUPPORT. Laws of the dictionary's registers: what a read gives after a write, and that no other update changes a register. -/

namespace Sys2Proof.Machine

open Sys2Proof

variable (s : State)

/-! ## Keys (R14) -/

theorem ObjDesc.key_ne_of_sub {o p : ObjDesc} (ho : o.sub < 256) (hp : p.sub < 256) (h : o.sub ≠ p.sub) (i j : Nat) : o.key i ≠ p.key j := by
  unfold ObjDesc.key objKey
  omega

theorem ObjDesc.key_ne_of_index {o p : ObjDesc} (ho : o.sub < 256) (hp : p.sub < 256) (h : o.index ≠ p.index) {i j : Nat} (hi : o.index < 65536) (hj : p.index < 65536) :
    o.key i ≠ p.key j := by
  unfold ObjDesc.key objKey
  omega

theorem ObjDesc.key_ne_of_inst (o : ObjDesc) {i j : Nat} (h : i ≠ j) : o.key i ≠ o.key j := by
  unfold ObjDesc.key objKey
  omega

/-! ## Reading after writing -/

@[simp] theorem rd_wr_same (o : ObjDesc) (i : Nat) (v : Int) : rd (wr s o i v) o i = v := by
  simp only [rd, wr]
  exact Tbl.get_put_same _ _ _ _

theorem rd_wr_other {o p : ObjDesc} {i j : Nat} (v : Int) (h : p.key j ≠ o.key i) : rd (wr s o i v) p j = rd s p j := by
  simp only [rd, wr]
  rw [Tbl.get_put_other _ _ _ h]

theorem rd_wr_inst (o : ObjDesc) {i j : Nat} (v : Int) (h : j ≠ i) : rd (wr s o i v) o j = rd s o j :=
  rd_wr_other s v (ObjDesc.key_ne_of_inst o h)

theorem rd_wr_sub {o p : ObjDesc} (i j : Nat) (v : Int) (ho : o.sub < 256) (hp : p.sub < 256) (h : p.sub ≠ o.sub) : rd (wr s o i v) p j = rd s p j :=
  rd_wr_other s v (ObjDesc.key_ne_of_sub hp ho h j i)

theorem rd_wr_index {o p : ObjDesc} {i j : Nat} (v : Int) (ho : o.sub < 256) (hp : p.sub < 256) (h : p.index ≠ o.index) (hi : o.index < 65536) (hj : p.index < 65536) :
    rd (wr s o i v) p j = rd s p j :=
  rd_wr_other s v (ObjDesc.key_ne_of_index hp ho h hj hi)

@[simp] theorem rdN_wr_same (o : ObjDesc) (i : Nat) (v : Nat) : rdN (wr s o i (v : Int)) o i = v := by
  simp [rdN]

theorem rdN_wr_other {o p : ObjDesc} {i j : Nat} (v : Int) (h : p.key j ≠ o.key i) : rdN (wr s o i v) p j = rdN s p j := by
  simp only [rdN, rd_wr_other s v h]

@[simp] theorem rdB_wrB_same (o : ObjDesc) (i : Nat) (b : Bool) : rdB (wrB s o i b) o i = b := by
  cases b <;> simp [rdB, wrB]

theorem rdB_wr_other {o p : ObjDesc} {i j : Nat} (v : Int) (h : p.key j ≠ o.key i) : rdB (wr s o i v) p j = rdB s p j := by
  simp only [rdB, rd_wr_other s v h]

@[simp] theorem rdBytes_wrBytes_same (o : ObjDesc) (i : Nat) (b : Bytes) : rdBytes (wrBytes s o i b) o i = b := by
  simp only [rdBytes, wrBytes]
  exact Tbl.get_put_same _ _ _ _

theorem rdBytes_wrBytes_other {o p : ObjDesc} {i j : Nat} (b : Bytes) (h : p.key j ≠ o.key i) : rdBytes (wrBytes s o i b) p j = rdBytes s p j := by
  simp only [rdBytes, wrBytes]
  rw [Tbl.get_put_other _ _ _ h]

@[simp] theorem rdN_bump_same (o : ObjDesc) (i n : Nat) : rdN (bump s o i n) o i = (rdN s o i + n) % 2 ^ 64 := by
  simp only [bump, rdN_wr_same]

@[simp] theorem rd_clr_same (o : ObjDesc) (i : Nat) : rd (clr s o i) o i = dfltAt o i := by
  simp [clr]

/-! ## Updates of other parts leave every register -/

@[simp] theorem rd_countDev (i n : Nat) (d : ObjDesc) (j : Nat) : rd (countDev s i n) d j = rd s d j := rfl
@[simp] theorem rdN_countDev (i n : Nat) (d : ObjDesc) (j : Nat) : rdN (countDev s i n) d j = rdN s d j := rfl
@[simp] theorem rdB_countDev (i n : Nat) (d : ObjDesc) (j : Nat) : rdB (countDev s i n) d j = rdB s d j := rfl
@[simp] theorem rdBytes_countDev (i n : Nat) (d : ObjDesc) (j : Nat) : rdBytes (countDev s i n) d j = rdBytes s d j := rfl
@[simp] theorem rd_countHist (k b : Nat) (d : ObjDesc) (j : Nat) : rd (countHist s k b) d j = rd s d j := rfl
@[simp] theorem rdN_countHist (k b : Nat) (d : ObjDesc) (j : Nat) : rdN (countHist s k b) d j = rdN s d j := rfl
@[simp] theorem rdB_countHist (k b : Nat) (d : ObjDesc) (j : Nat) : rdB (countHist s k b) d j = rdB s d j := rfl
@[simp] theorem rdBytes_countHist (k b : Nat) (d : ObjDesc) (j : Nat) : rdBytes (countHist s k b) d j = rdBytes s d j := rfl
@[simp] theorem rd_emit (x : Out) (d : ObjDesc) (j : Nat) : rd (emit s x) d j = rd s d j := rfl
@[simp] theorem rdN_emit (x : Out) (d : ObjDesc) (j : Nat) : rdN (emit s x) d j = rdN s d j := rfl
@[simp] theorem rdB_emit (x : Out) (d : ObjDesc) (j : Nat) : rdB (emit s x) d j = rdB s d j := rfl
@[simp] theorem rdBytes_emit (x : Out) (d : ObjDesc) (j : Nat) : rdBytes (emit s x) d j = rdBytes s d j := rfl
@[simp] theorem rd_takeFree (d : ObjDesc) (j : Nat) : rd (takeFree s) d j = rd s d j := rfl
@[simp] theorem rdN_takeFree (d : ObjDesc) (j : Nat) : rdN (takeFree s) d j = rdN s d j := rfl
@[simp] theorem rdB_takeFree (d : ObjDesc) (j : Nat) : rdB (takeFree s) d j = rdB s d j := rfl
@[simp] theorem rdBytes_takeFree (d : ObjDesc) (j : Nat) : rdBytes (takeFree s) d j = rdBytes s d j := rfl
@[simp] theorem rd_drive (p : Pin) (level : Bool) (d : ObjDesc) (j : Nat) : rd (drive s p level) d j = rd s d j := rfl
@[simp] theorem rdN_drive (p : Pin) (level : Bool) (d : ObjDesc) (j : Nat) : rdN (drive s p level) d j = rdN s d j := rfl
@[simp] theorem rdB_drive (p : Pin) (level : Bool) (d : ObjDesc) (j : Nat) : rdB (drive s p level) d j = rdB s d j := rfl
@[simp] theorem rdBytes_drive (p : Pin) (level : Bool) (d : ObjDesc) (j : Nat) : rdBytes (drive s p level) d j = rdBytes s d j := rfl
@[simp] theorem rd_tick (d : ObjDesc) (j : Nat) : rd (tick s) d j = rd s d j := rfl
@[simp] theorem rdN_tick (d : ObjDesc) (j : Nat) : rdN (tick s) d j = rdN s d j := rfl
@[simp] theorem rdB_tick (d : ObjDesc) (j : Nat) : rdB (tick s) d j = rdB s d j := rfl
@[simp] theorem rdBytes_tick (d : ObjDesc) (j : Nat) : rdBytes (tick s) d j = rdBytes s d j := rfl
@[simp] theorem rd_modPath (p : Nat) (f : EvPath → EvPath) (d : ObjDesc) (j : Nat) : rd (modPath s p f) d j = rd s d j := rfl
@[simp] theorem rdN_modPath (p : Nat) (f : EvPath → EvPath) (d : ObjDesc) (j : Nat) : rdN (modPath s p f) d j = rdN s d j := rfl
@[simp] theorem rdB_modPath (p : Nat) (f : EvPath → EvPath) (d : ObjDesc) (j : Nat) : rdB (modPath s p f) d j = rdB s d j := rfl
@[simp] theorem rdBytes_modPath (p : Nat) (f : EvPath → EvPath) (d : ObjDesc) (j : Nat) : rdBytes (modPath s p f) d j = rdBytes s d j := rfl
@[simp] theorem rd_modEp (f : Epoch → Epoch) (d : ObjDesc) (j : Nat) : rd (modEp s f) d j = rd s d j := rfl
@[simp] theorem rdN_modEp (f : Epoch → Epoch) (d : ObjDesc) (j : Nat) : rdN (modEp s f) d j = rdN s d j := rfl
@[simp] theorem rdB_modEp (f : Epoch → Epoch) (d : ObjDesc) (j : Nat) : rdB (modEp s f) d j = rdB s d j := rfl
@[simp] theorem rdBytes_modEp (f : Epoch → Epoch) (d : ObjDesc) (j : Nat) : rdBytes (modEp s f) d j = rdBytes s d j := rfl
@[simp] theorem rd_modVol (v : Nat) (f : Vol → Vol) (d : ObjDesc) (j : Nat) : rd (modVol s v f) d j = rd s d j := rfl
@[simp] theorem rdN_modVol (v : Nat) (f : Vol → Vol) (d : ObjDesc) (j : Nat) : rdN (modVol s v f) d j = rdN s d j := rfl
@[simp] theorem rdB_modVol (v : Nat) (f : Vol → Vol) (d : ObjDesc) (j : Nat) : rdB (modVol s v f) d j = rdB s d j := rfl
@[simp] theorem rdBytes_modVol (v : Nat) (f : Vol → Vol) (d : ObjDesc) (j : Nat) : rdBytes (modVol s v f) d j = rdBytes s d j := rfl
@[simp] theorem rd_setFrame (k : Nat) (f : Frame) (d : ObjDesc) (j : Nat) : rd (setFrame s k f) d j = rd s d j := rfl
@[simp] theorem rdN_setFrame (k : Nat) (f : Frame) (d : ObjDesc) (j : Nat) : rdN (setFrame s k f) d j = rdN s d j := rfl
@[simp] theorem rdB_setFrame (k : Nat) (f : Frame) (d : ObjDesc) (j : Nat) : rdB (setFrame s k f) d j = rdB s d j := rfl
@[simp] theorem rdBytes_setFrame (k : Nat) (f : Frame) (d : ObjDesc) (j : Nat) : rdBytes (setFrame s k f) d j = rdBytes s d j := rfl
@[simp] theorem rd_modHostPort (n : Nat) (f : HostPort → HostPort) (d : ObjDesc) (j : Nat) : rd (modHostPort s n f) d j = rd s d j := rfl
@[simp] theorem rdN_modHostPort (n : Nat) (f : HostPort → HostPort) (d : ObjDesc) (j : Nat) : rdN (modHostPort s n f) d j = rdN s d j := rfl
@[simp] theorem rdB_modHostPort (n : Nat) (f : HostPort → HostPort) (d : ObjDesc) (j : Nat) : rdB (modHostPort s n f) d j = rdB s d j := rfl
@[simp] theorem rdBytes_modHostPort (n : Nat) (f : HostPort → HostPort) (d : ObjDesc) (j : Nat) : rdBytes (modHostPort s n f) d j = rdBytes s d j := rfl
@[simp] theorem rd_modFn (n : Nat) (f : Fn → Fn) (d : ObjDesc) (j : Nat) : rd (modFn s n f) d j = rd s d j := rfl
@[simp] theorem rdN_modFn (n : Nat) (f : Fn → Fn) (d : ObjDesc) (j : Nat) : rdN (modFn s n f) d j = rdN s d j := rfl
@[simp] theorem rdB_modFn (n : Nat) (f : Fn → Fn) (d : ObjDesc) (j : Nat) : rdB (modFn s n f) d j = rdB s d j := rfl
@[simp] theorem rdBytes_modFn (n : Nat) (f : Fn → Fn) (d : ObjDesc) (j : Nat) : rdBytes (modFn s n f) d j = rdBytes s d j := rfl
@[simp] theorem rd_modSlot (n : Nat) (f : Slot → Slot) (d : ObjDesc) (j : Nat) : rd (modSlot s n f) d j = rd s d j := rfl
@[simp] theorem rdN_modSlot (n : Nat) (f : Slot → Slot) (d : ObjDesc) (j : Nat) : rdN (modSlot s n f) d j = rdN s d j := rfl
@[simp] theorem rdB_modSlot (n : Nat) (f : Slot → Slot) (d : ObjDesc) (j : Nat) : rdB (modSlot s n f) d j = rdB s d j := rfl
@[simp] theorem rdBytes_modSlot (n : Nat) (f : Slot → Slot) (d : ObjDesc) (j : Nat) : rdBytes (modSlot s n f) d j = rdBytes s d j := rfl
@[simp] theorem rd_setEntry (key : Nat) (e : Entry) (d : ObjDesc) (j : Nat) : rd (setEntry s key e) d j = rd s d j := rfl
@[simp] theorem rdN_setEntry (key : Nat) (e : Entry) (d : ObjDesc) (j : Nat) : rdN (setEntry s key e) d j = rdN s d j := rfl
@[simp] theorem rdB_setEntry (key : Nat) (e : Entry) (d : ObjDesc) (j : Nat) : rdB (setEntry s key e) d j = rdB s d j := rfl
@[simp] theorem rdBytes_setEntry (key : Nat) (e : Entry) (d : ObjDesc) (j : Nat) : rdBytes (setEntry s key e) d j = rdBytes s d j := rfl
@[simp] theorem rd_touchLine (x : LineOf) (write : Bool) (d : ObjDesc) (j : Nat) : rd (touchLine s x write) d j = rd s d j := rfl
@[simp] theorem rdN_touchLine (x : LineOf) (write : Bool) (d : ObjDesc) (j : Nat) : rdN (touchLine s x write) d j = rdN s d j := rfl
@[simp] theorem rdB_touchLine (x : LineOf) (write : Bool) (d : ObjDesc) (j : Nat) : rdB (touchLine s x write) d j = rdB s d j := rfl
@[simp] theorem rdBytes_touchLine (x : LineOf) (write : Bool) (d : ObjDesc) (j : Nat) : rdBytes (touchLine s x write) d j = rdBytes s d j := rfl
@[simp] theorem rd_touchMap (key : Nat) (write : Bool) (d : ObjDesc) (j : Nat) : rd (touchMap s key write) d j = rd s d j := rfl
@[simp] theorem rdN_touchMap (key : Nat) (write : Bool) (d : ObjDesc) (j : Nat) : rdN (touchMap s key write) d j = rdN s d j := rfl
@[simp] theorem rdB_touchMap (key : Nat) (write : Bool) (d : ObjDesc) (j : Nat) : rdB (touchMap s key write) d j = rdB s d j := rfl
@[simp] theorem rdBytes_touchMap (key : Nat) (write : Bool) (d : ObjDesc) (j : Nat) : rdBytes (touchMap s key write) d j = rdBytes s d j := rfl
@[simp] theorem rd_touchDir (leaf : Nat) (write : Bool) (d : ObjDesc) (j : Nat) : rd (touchDir s leaf write) d j = rd s d j := rfl
@[simp] theorem rdN_touchDir (leaf : Nat) (write : Bool) (d : ObjDesc) (j : Nat) : rdN (touchDir s leaf write) d j = rdN s d j := rfl
@[simp] theorem rdB_touchDir (leaf : Nat) (write : Bool) (d : ObjDesc) (j : Nat) : rdB (touchDir s leaf write) d j = rdB s d j := rfl
@[simp] theorem rdBytes_touchDir (leaf : Nat) (write : Bool) (d : ObjDesc) (j : Nat) : rdBytes (touchDir s leaf write) d j = rdBytes s d j := rfl
@[simp] theorem rd_touchDesc (n : Nat) (d : ObjDesc) (j : Nat) : rd (touchDesc s n) d j = rd s d j := rfl
@[simp] theorem rdN_touchDesc (n : Nat) (d : ObjDesc) (j : Nat) : rdN (touchDesc s n) d j = rdN s d j := rfl
@[simp] theorem rdB_touchDesc (n : Nat) (d : ObjDesc) (j : Nat) : rdB (touchDesc s n) d j = rdB s d j := rfl
@[simp] theorem rdBytes_touchDesc (n : Nat) (d : ObjDesc) (j : Nat) : rdBytes (touchDesc s n) d j = rdBytes s d j := rfl
@[simp] theorem rd_setVer (v lba : Nat) (x : Ver) (d : ObjDesc) (j : Nat) : rd (setVer s v lba x) d j = rd s d j := rfl
@[simp] theorem rdN_setVer (v lba : Nat) (x : Ver) (d : ObjDesc) (j : Nat) : rdN (setVer s v lba x) d j = rdN s d j := rfl
@[simp] theorem rdB_setVer (v lba : Nat) (x : Ver) (d : ObjDesc) (j : Nat) : rdB (setVer s v lba x) d j = rdB s d j := rfl
@[simp] theorem rdBytes_setVer (v lba : Nat) (x : Ver) (d : ObjDesc) (j : Nat) : rdBytes (setVer s v lba x) d j = rdBytes s d j := rfl
@[simp] theorem rd_modPair (f : PairSt → PairSt) (d : ObjDesc) (j : Nat) : rd (modPair s f) d j = rd s d j := rfl
@[simp] theorem rdN_modPair (f : PairSt → PairSt) (d : ObjDesc) (j : Nat) : rdN (modPair s f) d j = rdN s d j := rfl
@[simp] theorem rdB_modPair (f : PairSt → PairSt) (d : ObjDesc) (j : Nat) : rdB (modPair s f) d j = rdB s d j := rfl
@[simp] theorem rdBytes_modPair (f : PairSt → PairSt) (d : ObjDesc) (j : Nat) : rdBytes (modPair s f) d j = rdBytes s d j := rfl
@[simp] theorem rd_modLink (f : Link → Link) (d : ObjDesc) (j : Nat) : rd (modLink s f) d j = rd s d j := rfl
@[simp] theorem rdN_modLink (f : Link → Link) (d : ObjDesc) (j : Nat) : rdN (modLink s f) d j = rdN s d j := rfl
@[simp] theorem rdB_modLink (f : Link → Link) (d : ObjDesc) (j : Nat) : rdB (modLink s f) d j = rdB s d j := rfl
@[simp] theorem rdBytes_modLink (f : Link → Link) (d : ObjDesc) (j : Nat) : rdBytes (modLink s f) d j = rdBytes s d j := rfl
@[simp] theorem rd_setPool (p : Nat) (x : Pool) (d : ObjDesc) (j : Nat) : rd (setPool s p x) d j = rd s d j := rfl
@[simp] theorem rdN_setPool (p : Nat) (x : Pool) (d : ObjDesc) (j : Nat) : rdN (setPool s p x) d j = rdN s d j := rfl
@[simp] theorem rdB_setPool (p : Nat) (x : Pool) (d : ObjDesc) (j : Nat) : rdB (setPool s p x) d j = rdB s d j := rfl
@[simp] theorem rdBytes_setPool (p : Nat) (x : Pool) (d : ObjDesc) (j : Nat) : rdBytes (setPool s p x) d j = rdBytes s d j := rfl
@[simp] theorem rd_modDPort (n : Nat) (f : DPort → DPort) (d : ObjDesc) (j : Nat) : rd (modDPort s n f) d j = rd s d j := rfl
@[simp] theorem rdN_modDPort (n : Nat) (f : DPort → DPort) (d : ObjDesc) (j : Nat) : rdN (modDPort s n f) d j = rdN s d j := rfl
@[simp] theorem rdB_modDPort (n : Nat) (f : DPort → DPort) (d : ObjDesc) (j : Nat) : rdB (modDPort s n f) d j = rdB s d j := rfl
@[simp] theorem rdBytes_modDPort (n : Nat) (f : DPort → DPort) (d : ObjDesc) (j : Nat) : rdBytes (modDPort s n f) d j = rdBytes s d j := rfl
@[simp] theorem rd_setMCmd (id : Nat) (c : MCmd) (d : ObjDesc) (j : Nat) : rd (setMCmd s id c) d j = rd s d j := rfl
@[simp] theorem rdN_setMCmd (id : Nat) (c : MCmd) (d : ObjDesc) (j : Nat) : rdN (setMCmd s id c) d j = rdN s d j := rfl
@[simp] theorem rdB_setMCmd (id : Nat) (c : MCmd) (d : ObjDesc) (j : Nat) : rdB (setMCmd s id c) d j = rdB s d j := rfl
@[simp] theorem rdBytes_setMCmd (id : Nat) (c : MCmd) (d : ObjDesc) (j : Nat) : rdBytes (setMCmd s id c) d j = rdBytes s d j := rfl
@[simp] theorem rd_modMgmt (f : MgmtSt → MgmtSt) (d : ObjDesc) (j : Nat) : rd (modMgmt s f) d j = rd s d j := rfl
@[simp] theorem rdN_modMgmt (f : MgmtSt → MgmtSt) (d : ObjDesc) (j : Nat) : rdN (modMgmt s f) d j = rdN s d j := rfl
@[simp] theorem rdB_modMgmt (f : MgmtSt → MgmtSt) (d : ObjDesc) (j : Nat) : rdB (modMgmt s f) d j = rdB s d j := rfl
@[simp] theorem rdBytes_modMgmt (f : MgmtSt → MgmtSt) (d : ObjDesc) (j : Nat) : rdBytes (modMgmt s f) d j = rdBytes s d j := rfl
@[simp] theorem rd_modPack (f : PackSt → PackSt) (d : ObjDesc) (j : Nat) : rd (modPack s f) d j = rd s d j := rfl
@[simp] theorem rdN_modPack (f : PackSt → PackSt) (d : ObjDesc) (j : Nat) : rdN (modPack s f) d j = rdN s d j := rfl
@[simp] theorem rdB_modPack (f : PackSt → PackSt) (d : ObjDesc) (j : Nat) : rdB (modPack s f) d j = rdB s d j := rfl
@[simp] theorem rdBytes_modPack (f : PackSt → PackSt) (d : ObjDesc) (j : Nat) : rdBytes (modPack s f) d j = rdBytes s d j := rfl
@[simp] theorem rd_modPower (f : PowerSt → PowerSt) (d : ObjDesc) (j : Nat) : rd (modPower s f) d j = rd s d j := rfl
@[simp] theorem rdN_modPower (f : PowerSt → PowerSt) (d : ObjDesc) (j : Nat) : rdN (modPower s f) d j = rdN s d j := rfl
@[simp] theorem rdB_modPower (f : PowerSt → PowerSt) (d : ObjDesc) (j : Nat) : rdB (modPower s f) d j = rdB s d j := rfl
@[simp] theorem rdBytes_modPower (f : PowerSt → PowerSt) (d : ObjDesc) (j : Nat) : rdBytes (modPower s f) d j = rdBytes s d j := rfl
@[simp] theorem rd_setQp (q : Nat) (x : Qp) (d : ObjDesc) (j : Nat) : rd (setQp s q x) d j = rd s d j := rfl
@[simp] theorem rdN_setQp (q : Nat) (x : Qp) (d : ObjDesc) (j : Nat) : rdN (setQp s q x) d j = rdN s d j := rfl
@[simp] theorem rdB_setQp (q : Nat) (x : Qp) (d : ObjDesc) (j : Nat) : rdB (setQp s q x) d j = rdB s d j := rfl
@[simp] theorem rdBytes_setQp (q : Nat) (x : Qp) (d : ObjDesc) (j : Nat) : rdBytes (setQp s q x) d j = rdBytes s d j := rfl
@[simp] theorem rd_modQp (q : Nat) (f : Qp → Qp) (d : ObjDesc) (j : Nat) : rd (modQp s q f) d j = rd s d j := rfl
@[simp] theorem rdN_modQp (q : Nat) (f : Qp → Qp) (d : ObjDesc) (j : Nat) : rdN (modQp s q f) d j = rdN s d j := rfl
@[simp] theorem rdB_modQp (q : Nat) (f : Qp → Qp) (d : ObjDesc) (j : Nat) : rdB (modQp s q f) d j = rdB s d j := rfl
@[simp] theorem rdBytes_modQp (q : Nat) (f : Qp → Qp) (d : ObjDesc) (j : Nat) : rdBytes (modQp s q f) d j = rdBytes s d j := rfl
@[simp] theorem rdBytes_wr (o : ObjDesc) (i : Nat) (v : Int) (d : ObjDesc) (j : Nat) : rdBytes (wr s o i v) d j = rdBytes s d j := rfl
@[simp] theorem rdBytes_wrB (o : ObjDesc) (i : Nat) (b : Bool) (d : ObjDesc) (j : Nat) : rdBytes (wrB s o i b) d j = rdBytes s d j := rfl
@[simp] theorem rdBytes_bump (o : ObjDesc) (i n : Nat) (d : ObjDesc) (j : Nat) : rdBytes (bump s o i n) d j = rdBytes s d j := rfl
@[simp] theorem rdBytes_clr (o : ObjDesc) (i : Nat) (d : ObjDesc) (j : Nat) : rdBytes (clr s o i) d j = rdBytes s d j := rfl
@[simp] theorem rd_wrBytes (o : ObjDesc) (i : Nat) (b : Bytes) (d : ObjDesc) (j : Nat) : rd (wrBytes s o i b) d j = rd s d j := rfl
@[simp] theorem rdN_wrBytes (o : ObjDesc) (i : Nat) (b : Bytes) (d : ObjDesc) (j : Nat) : rdN (wrBytes s o i b) d j = rdN s d j := rfl
@[simp] theorem rdB_wrBytes (o : ObjDesc) (i : Nat) (b : Bytes) (d : ObjDesc) (j : Nat) : rdB (wrBytes s o i b) d j = rdB s d j := rfl

end Sys2Proof.Machine
end

