-- ==== Sys2Proof/Laws/Events.lean ====
section
/-! SUPPORT. What raising an event can change: the event chapter's own registers and state, the functions' pending vectors and PME bits, and what was driven; nothing else. -/

namespace Sys2Proof.Machine

open Sys2Proof

/-- The key of a register of the event chapter: indices 0x4000, 0x4010 and 0x4020. -/
def eventKey (k : Nat) : Prop :=
  keyIndex k = 0x4000 ∨ keyIndex k = 0x4010 ∨ keyIndex k = 0x4020

/-- Everything that raising an event may change between two states. -/
structure EventOnly (s t : State) : Prop where
  rest : t = { s with dict := { s.dict with regs := t.dict.regs }, ev := t.ev, host := { s.host with fns := t.host.fns }, out := t.out }
  regs : ∀ k, ¬eventKey k → Tbl.get t.dict.regs k = Tbl.get s.dict.regs k

theorem EventOnly.refl (s : State) : EventOnly s s :=
  ⟨rfl, fun _ _ => rfl⟩

theorem EventOnly.trans {r s t : State} (h : EventOnly r s) (k : EventOnly s t) : EventOnly r t := by
  refine ⟨?_, fun x hx => (k.regs x hx).trans (h.regs x hx)⟩
  rw [k.rest, h.rest]

theorem EventOnly.ite {r a b : State} {c : Prop} [Decidable c] (h : EventOnly r a) (k : EventOnly r b) : EventOnly r (if c then a else b) := by
  split
  · exact h
  · exact k

theorem EventOnly.forEach {α : Type} {r s : State} (l : List α) (f : α → State → State) (h : EventOnly r s)
    (hf : ∀ x ∈ l, ∀ t, EventOnly r t → EventOnly r (f x t)) : EventOnly r (forEach l f s) := by
  unfold Machine.forEach
  induction l generalizing s with
  | nil => exact h
  | cons x l ih => exact ih (hf x (by simp) s h) (fun y hy => hf y (by simp [hy]))

theorem EventOnly.emit {r s : State} (x : Out) (h : EventOnly r s) : EventOnly r (emit s x) :=
  h.trans ⟨rfl, fun _ _ => rfl⟩

theorem EventOnly.modFn {r s : State} (n : Nat) (f : Fn → Fn) (h : EventOnly r s) : EventOnly r (modFn s n f) :=
  h.trans ⟨rfl, fun _ _ => rfl⟩

theorem EventOnly.setEv {r s : State} (e : Events) (h : EventOnly r s) : EventOnly r { s with ev := e } :=
  h.trans ⟨rfl, fun _ _ => rfl⟩

theorem EventOnly.wr {r s : State} {o : ObjDesc} {i : Nat} (v : Int) (h : EventOnly r s) (hk : eventKey (o.key i)) : EventOnly r (wr s o i v) :=
  h.trans ⟨rfl, fun _ hx => Tbl.get_put_other _ _ _ (fun e => hx (e ▸ hk))⟩

theorem EventOnly.bump {r s : State} {o : ObjDesc} {i : Nat} (n : Nat) (h : EventOnly r s) (hk : eventKey (o.key i)) : EventOnly r (bump s o i n) :=
  h.wr _ hk

theorem EventOnly.sendMsix {r s : State} (f v : Nat) (h : EventOnly r s) : EventOnly r (sendMsix s f v) := by
  unfold Machine.sendMsix
  split
  · exact h.emit _
  · exact h.modFn _ _

theorem EventOnly.signalPme {r s : State} (b : Nat) (h : EventOnly r s) : EventOnly r (signalPme s b) := by
  unfold Machine.signalPme
  split
  · refine EventOnly.forEach _ _ h (fun f _ t ht => ?_)
    dsimp only
    split
    · split
      · exact (ht.modFn _ _).emit _
      · exact ht.modFn _ _
    · exact ht
  · exact h

theorem eventKey_path {o : ObjDesc} (ho : o.index = 0x4010) (hs : o.sub < 256) {p : Nat} : eventKey (o.key p) := by
  unfold eventKey keyIndex ObjDesc.key objKey
  omega

theorem eventKey_head {o : ObjDesc} (ho : o.index = 0x4000) (hs : o.sub < 256) : eventKey (o.key 0) := by
  unfold eventKey keyIndex ObjDesc.key objKey
  omega

theorem EventOnly.ringDeliver {r s : State} {f : Nat} (hf : f < 65536) (x : EvRec) (h : EventOnly r s) : EventOnly r (ringDeliver s f x) := by
  have hk : eventKey (Obj.EVENT_RING_NEXT_DELIVERY.key f) := by
    unfold eventKey keyIndex ObjDesc.key objKey Obj.EVENT_RING_NEXT_DELIVERY
    dsimp only
    omega
  unfold Machine.ringDeliver
  dsimp only
  split
  · exact EventOnly.sendMsix _ _ (EventOnly.wr _ (EventOnly.setEv _ (((h.emit _).emit _).emit _)) hk)
  · exact EventOnly.wr _ (EventOnly.setEv _ (((h.emit _).emit _).emit _)) hk

theorem EventOnly.subDeliver {r s : State} {n : Nat} (hn : n < 60000) (x : EvRec) (h : EventOnly r s) : EventOnly r (subDeliver s n x) := by
  have hk : eventKey (Obj.PATH_OVERRUNS.key (4 + n)) := eventKey_path rfl (by decide)
  unfold Machine.subDeliver
  dsimp only
  split
  · exact h.setEv _
  · split
    · exact (h.setEv _).bump _ hk
    · exact h.bump _ hk

theorem EventOnly.pathConsume {r s : State} {p : Nat} (hp : p < 60000) (x : EvRec) (h : EventOnly r s) : EventOnly r (pathConsume s p x) := by
  unfold Machine.pathConsume
  split
  · exact h.setEv _
  split
  · exact h.setEv _
  split
  · exact h.ringDeliver (by omega) _
  · exact h.subDeliver (by omega) _

theorem EventOnly.pathShed {r s : State} {p : Nat} (hp : p < 60000) (x : EvRec) (h : EventOnly r s) : EventOnly r (pathShed s p x) := by
  have hk (o : ObjDesc) (ho : o.index = 0x4010) (hs : o.sub < 256) : eventKey (o.key p) := eventKey_path ho hs
  unfold Machine.pathShed
  dsimp only
  have h1 : ∀ f, EventOnly r (modPath (wrB s Obj.PATH_SHEDDING p true) p f) :=
    fun f => (h.wr (o := Obj.PATH_SHEDDING) 1 (hk _ rfl (by decide))).setEv _
  split
  · exact (h1 _).bump _ (hk _ rfl (by decide))
  · exact (h1 _).bump _ (hk _ rfl (by decide))
  · exact (h1 _).bump _ (hk _ rfl (by decide))

theorem EventOnly.offer {r s : State} {p : Nat} (hp : p < 60000) (x : EvRec) (force : Bool) (h : EventOnly r s) : EventOnly r (offer s p x force) := by
  have hk (q : Nat) (hq : q < 60000) : eventKey (Obj.PATH_DELIVERED.key q) := eventKey_path rfl (by decide)
  unfold Machine.offer
  dsimp only
  split
  · exact h
  split
  · exact h
  split
  · exact (h.pathConsume (by omega) _).bump _ (hk 0 (by omega))
  split
  · exact ((h.setEv _).pathConsume hp _).bump _ (hk p hp)
  · exact (h.setEv _).pathShed hp _

theorem EventOnly.offerEarly {r s : State} (x : EvRec) (h : EventOnly r s) : EventOnly r (offerEarly s x) := by
  unfold Machine.offerEarly
  dsimp only
  split
  · split
    · exact h.offer (by omega) _ _
    · exact h
  · split
    · exact (h.setEv _).setEv _
    · exact (h.setEv _).pathShed (by omega) _

theorem EventOnly.offerAll {r s : State} (x : EvRec) (h : EventOnly r s) : EventOnly r (offerAll s x) := by
  unfold Machine.offerAll
  split
  · exact h.offer (by omega) _ _
  split
  · exact h.offerEarly _
  · refine EventOnly.forEach _ _ h (fun p hp t ht => ht.offer ?_ _ _)
    have := List.mem_range.1 hp
    omega

theorem EventOnly.takeSeq {r s : State} (h : EventOnly r s) : EventOnly r (takeSeq s) :=
  (h.setEv _).bump _ (eventKey_head rfl (by decide))

theorem EventOnly.createRec {r s : State} (k : EvKey) (sev : Sev) (c : Bool) (n d ts : Nat) (h : EventOnly r s) : EventOnly r (createRec s k sev c n d ts) := by
  unfold Machine.createRec
  dsimp only
  split
  · exact (h.takeSeq.offerAll _).signalPme _
  · exact h.takeSeq.offerAll _

theorem EventOnly.closeWindow {r s : State} (w : EvWindow) (re : Bool) (h : EventOnly r s) : EventOnly r (closeWindow s w re) := by
  unfold Machine.closeWindow
  dsimp only
  split
  · exact h.setEv _
  · exact (h.setEv _).createRec _ _ _ _ _ _

theorem EventOnly.raise {r s : State} (id : EvId) (sev : Sev) (kind inst d : Nat) (h : EventOnly r s) : EventOnly r (raise s id sev kind inst d) := by
  unfold Machine.raise
  dsimp only
  split
  · exact (h.setEv _).bump _ (eventKey_head rfl (by decide))
  · refine EventOnly.createRec _ _ _ _ _ _ (EventOnly.setEv _ ?_)
    split
    · exact EventOnly.ite (h.closeWindow _ _) h
    · exact h

theorem EventOnly.raiseOpen {r s : State} (id : EvId) (sev : Sev) (kind inst : Nat) (h : EventOnly r s) : EventOnly r (raiseOpen s id sev kind inst) :=
  h.raise _ _ _ _ _

theorem raise_only (s : State) (id : EvId) (sev : Sev) (kind inst d : Nat) : EventOnly s (raise s id sev kind inst d) :=
  (EventOnly.refl s).raise _ _ _ _ _

theorem raiseOpen_only (s : State) (id : EvId) (sev : Sev) (kind inst : Nat) : EventOnly s (raiseOpen s id sev kind inst) :=
  (EventOnly.refl s).raiseOpen _ _ _ _

/-! ## What follows for registers and for the other parts of the state -/

theorem ObjDesc.not_event {o : ObjDesc} {j : Nat} (hs : o.sub < 256) (hj : o.index < 65536) (h : o.index ≠ 0x4000 ∧ o.index ≠ 0x4010 ∧ o.index ≠ 0x4020) : ¬eventKey (o.key j) := by
  unfold eventKey keyIndex ObjDesc.key objKey
  omega

theorem EventOnly.rd {s t : State} (h : EventOnly s t) {o : ObjDesc} {j : Nat} (hk : ¬eventKey (o.key j)) : rd t o j = rd s o j := by
  simp only [Machine.rd, h.regs _ hk]

theorem EventOnly.rdN {s t : State} (h : EventOnly s t) {o : ObjDesc} {j : Nat} (hk : ¬eventKey (o.key j)) : rdN t o j = rdN s o j := by
  simp only [Machine.rdN, h.rd hk]

theorem EventOnly.rdB {s t : State} (h : EventOnly s t) {o : ObjDesc} {j : Nat} (hk : ¬eventKey (o.key j)) : rdB t o j = rdB s o j := by
  simp only [Machine.rdB, h.rd hk]

theorem EventOnly.now {s t : State} (h : EventOnly s t) : t.now = s.now := by
  rw [h.rest]

@[simp] theorem raise_now (s : State) (id : EvId) (sev : Sev) (kind inst d : Nat) : (raise s id sev kind inst d).now = s.now :=
  (raise_only s id sev kind inst d).now

@[simp] theorem raiseOpen_now (s : State) (id : EvId) (sev : Sev) (kind inst : Nat) : (raiseOpen s id sev kind inst).now = s.now :=
  (raiseOpen_only s id sev kind inst).now

theorem EventOnly.bootAt {s t : State} (h : EventOnly s t) : t.bootAt = s.bootAt := by
  rw [h.rest]

@[simp] theorem raise_bootAt (s : State) (id : EvId) (sev : Sev) (kind inst d : Nat) : (raise s id sev kind inst d).bootAt = s.bootAt :=
  (raise_only s id sev kind inst d).bootAt

@[simp] theorem raiseOpen_bootAt (s : State) (id : EvId) (sev : Sev) (kind inst : Nat) : (raiseOpen s id sev kind inst).bootAt = s.bootAt :=
  (raiseOpen_only s id sev kind inst).bootAt

theorem EventOnly.ep {s t : State} (h : EventOnly s t) : t.ep = s.ep := by
  rw [h.rest]

@[simp] theorem raise_ep (s : State) (id : EvId) (sev : Sev) (kind inst d : Nat) : (raise s id sev kind inst d).ep = s.ep :=
  (raise_only s id sev kind inst d).ep

@[simp] theorem raiseOpen_ep (s : State) (id : EvId) (sev : Sev) (kind inst : Nat) : (raiseOpen s id sev kind inst).ep = s.ep :=
  (raiseOpen_only s id sev kind inst).ep

theorem EventOnly.qps {s t : State} (h : EventOnly s t) : t.qps = s.qps := by
  rw [h.rest]

@[simp] theorem raise_qps (s : State) (id : EvId) (sev : Sev) (kind inst d : Nat) : (raise s id sev kind inst d).qps = s.qps :=
  (raise_only s id sev kind inst d).qps

@[simp] theorem raiseOpen_qps (s : State) (id : EvId) (sev : Sev) (kind inst : Nat) : (raiseOpen s id sev kind inst).qps = s.qps :=
  (raiseOpen_only s id sev kind inst).qps

theorem EventOnly.sluice {s t : State} (h : EventOnly s t) : t.sluice = s.sluice := by
  rw [h.rest]

@[simp] theorem raise_sluice (s : State) (id : EvId) (sev : Sev) (kind inst d : Nat) : (raise s id sev kind inst d).sluice = s.sluice :=
  (raise_only s id sev kind inst d).sluice

@[simp] theorem raiseOpen_sluice (s : State) (id : EvId) (sev : Sev) (kind inst : Nat) : (raiseOpen s id sev kind inst).sluice = s.sluice :=
  (raiseOpen_only s id sev kind inst).sluice

theorem EventOnly.vols {s t : State} (h : EventOnly s t) : t.vols = s.vols := by
  rw [h.rest]

@[simp] theorem raise_vols (s : State) (id : EvId) (sev : Sev) (kind inst d : Nat) : (raise s id sev kind inst d).vols = s.vols :=
  (raise_only s id sev kind inst d).vols

@[simp] theorem raiseOpen_vols (s : State) (id : EvId) (sev : Sev) (kind inst : Nat) : (raiseOpen s id sev kind inst).vols = s.vols :=
  (raiseOpen_only s id sev kind inst).vols

theorem EventOnly.map {s t : State} (h : EventOnly s t) : t.map = s.map := by
  rw [h.rest]

@[simp] theorem raise_map (s : State) (id : EvId) (sev : Sev) (kind inst d : Nat) : (raise s id sev kind inst d).map = s.map :=
  (raise_only s id sev kind inst d).map

@[simp] theorem raiseOpen_map (s : State) (id : EvId) (sev : Sev) (kind inst : Nat) : (raiseOpen s id sev kind inst).map = s.map :=
  (raiseOpen_only s id sev kind inst).map

theorem EventOnly.prot {s t : State} (h : EventOnly s t) : t.prot = s.prot := by
  rw [h.rest]

@[simp] theorem raise_prot (s : State) (id : EvId) (sev : Sev) (kind inst d : Nat) : (raise s id sev kind inst d).prot = s.prot :=
  (raise_only s id sev kind inst d).prot

@[simp] theorem raiseOpen_prot (s : State) (id : EvId) (sev : Sev) (kind inst : Nat) : (raiseOpen s id sev kind inst).prot = s.prot :=
  (raiseOpen_only s id sev kind inst).prot

theorem EventOnly.pools {s t : State} (h : EventOnly s t) : t.pools = s.pools := by
  rw [h.rest]

@[simp] theorem raise_pools (s : State) (id : EvId) (sev : Sev) (kind inst d : Nat) : (raise s id sev kind inst d).pools = s.pools :=
  (raise_only s id sev kind inst d).pools

@[simp] theorem raiseOpen_pools (s : State) (id : EvId) (sev : Sev) (kind inst : Nat) : (raiseOpen s id sev kind inst).pools = s.pools :=
  (raiseOpen_only s id sev kind inst).pools

theorem EventOnly.ilog {s t : State} (h : EventOnly s t) : t.ilog = s.ilog := by
  rw [h.rest]

@[simp] theorem raise_ilog (s : State) (id : EvId) (sev : Sev) (kind inst d : Nat) : (raise s id sev kind inst d).ilog = s.ilog :=
  (raise_only s id sev kind inst d).ilog

@[simp] theorem raiseOpen_ilog (s : State) (id : EvId) (sev : Sev) (kind inst : Nat) : (raiseOpen s id sev kind inst).ilog = s.ilog :=
  (raiseOpen_only s id sev kind inst).ilog

theorem EventOnly.drv {s t : State} (h : EventOnly s t) : t.drv = s.drv := by
  rw [h.rest]

@[simp] theorem raise_drv (s : State) (id : EvId) (sev : Sev) (kind inst d : Nat) : (raise s id sev kind inst d).drv = s.drv :=
  (raise_only s id sev kind inst d).drv

@[simp] theorem raiseOpen_drv (s : State) (id : EvId) (sev : Sev) (kind inst : Nat) : (raiseOpen s id sev kind inst).drv = s.drv :=
  (raiseOpen_only s id sev kind inst).drv

theorem EventOnly.key {s t : State} (h : EventOnly s t) : t.key = s.key := by
  rw [h.rest]

@[simp] theorem raise_key (s : State) (id : EvId) (sev : Sev) (kind inst d : Nat) : (raise s id sev kind inst d).key = s.key :=
  (raise_only s id sev kind inst d).key

@[simp] theorem raiseOpen_key (s : State) (id : EvId) (sev : Sev) (kind inst : Nat) : (raiseOpen s id sev kind inst).key = s.key :=
  (raiseOpen_only s id sev kind inst).key

theorem EventOnly.cache {s t : State} (h : EventOnly s t) : t.cache = s.cache := by
  rw [h.rest]

@[simp] theorem raise_cache (s : State) (id : EvId) (sev : Sev) (kind inst d : Nat) : (raise s id sev kind inst d).cache = s.cache :=
  (raise_only s id sev kind inst d).cache

@[simp] theorem raiseOpen_cache (s : State) (id : EvId) (sev : Sev) (kind inst : Nat) : (raiseOpen s id sev kind inst).cache = s.cache :=
  (raiseOpen_only s id sev kind inst).cache

theorem EventOnly.pair {s t : State} (h : EventOnly s t) : t.pair = s.pair := by
  rw [h.rest]

@[simp] theorem raise_pair (s : State) (id : EvId) (sev : Sev) (kind inst d : Nat) : (raise s id sev kind inst d).pair = s.pair :=
  (raise_only s id sev kind inst d).pair

@[simp] theorem raiseOpen_pair (s : State) (id : EvId) (sev : Sev) (kind inst : Nat) : (raiseOpen s id sev kind inst).pair = s.pair :=
  (raiseOpen_only s id sev kind inst).pair

theorem EventOnly.pack {s t : State} (h : EventOnly s t) : t.pack = s.pack := by
  rw [h.rest]

@[simp] theorem raise_pack (s : State) (id : EvId) (sev : Sev) (kind inst d : Nat) : (raise s id sev kind inst d).pack = s.pack :=
  (raise_only s id sev kind inst d).pack

@[simp] theorem raiseOpen_pack (s : State) (id : EvId) (sev : Sev) (kind inst : Nat) : (raiseOpen s id sev kind inst).pack = s.pack :=
  (raiseOpen_only s id sev kind inst).pack

theorem EventOnly.power {s t : State} (h : EventOnly s t) : t.power = s.power := by
  rw [h.rest]

@[simp] theorem raise_power (s : State) (id : EvId) (sev : Sev) (kind inst d : Nat) : (raise s id sev kind inst d).power = s.power :=
  (raise_only s id sev kind inst d).power

@[simp] theorem raiseOpen_power (s : State) (id : EvId) (sev : Sev) (kind inst : Nat) : (raiseOpen s id sev kind inst).power = s.power :=
  (raiseOpen_only s id sev kind inst).power

theorem EventOnly.mgmt {s t : State} (h : EventOnly s t) : t.mgmt = s.mgmt := by
  rw [h.rest]

@[simp] theorem raise_mgmt (s : State) (id : EvId) (sev : Sev) (kind inst d : Nat) : (raise s id sev kind inst d).mgmt = s.mgmt :=
  (raise_only s id sev kind inst d).mgmt

@[simp] theorem raiseOpen_mgmt (s : State) (id : EvId) (sev : Sev) (kind inst : Nat) : (raiseOpen s id sev kind inst).mgmt = s.mgmt :=
  (raiseOpen_only s id sev kind inst).mgmt

theorem EventOnly.pins {s t : State} (h : EventOnly s t) : t.pins = s.pins := by
  rw [h.rest]

@[simp] theorem raise_pins (s : State) (id : EvId) (sev : Sev) (kind inst d : Nat) : (raise s id sev kind inst d).pins = s.pins :=
  (raise_only s id sev kind inst d).pins

@[simp] theorem raiseOpen_pins (s : State) (id : EvId) (sev : Sev) (kind inst : Nat) : (raiseOpen s id sev kind inst).pins = s.pins :=
  (raiseOpen_only s id sev kind inst).pins

theorem EventOnly.freeCtr {s t : State} (h : EventOnly s t) : t.freeCtr = s.freeCtr := by
  rw [h.rest]

@[simp] theorem raise_freeCtr (s : State) (id : EvId) (sev : Sev) (kind inst d : Nat) : (raise s id sev kind inst d).freeCtr = s.freeCtr :=
  (raise_only s id sev kind inst d).freeCtr

@[simp] theorem raiseOpen_freeCtr (s : State) (id : EvId) (sev : Sev) (kind inst : Nat) : (raiseOpen s id sev kind inst).freeCtr = s.freeCtr :=
  (raiseOpen_only s id sev kind inst).freeCtr

theorem EventOnly.pending {s t : State} (h : EventOnly s t) : t.pending = s.pending := by
  rw [h.rest]

@[simp] theorem raise_pending (s : State) (id : EvId) (sev : Sev) (kind inst d : Nat) : (raise s id sev kind inst d).pending = s.pending :=
  (raise_only s id sev kind inst d).pending

@[simp] theorem raiseOpen_pending (s : State) (id : EvId) (sev : Sev) (kind inst : Nat) : (raiseOpen s id sev kind inst).pending = s.pending :=
  (raiseOpen_only s id sev kind inst).pending

end Sys2Proof.Machine
end

