-- ==== Sys2Proof/Laws/Keeps.lean ====
section
/-! SUPPORT. What every operation keeps: the queue, the time, what was driven, the canonical form of the dictionary, and every part and object outside the operation's mask. -/

namespace Sys2Proof.Machine

open Sys2Proof

/-! ## Masks -/

/-- The bit of a part in a mask. -/
def Part.bit : Part → Nat
  | .bootAt => 2
  | .sess => 3
  | .ep => 4
  | .ev => 5
  | .qps => 6
  | .sluice => 7
  | .host => 8
  | .vols => 9
  | .map => 10
  | .prot => 11
  | .pools => 12
  | .ilog => 13
  | .drv => 14
  | .key => 15
  | .cache => 16
  | .lines => 17
  | .pair => 18
  | .pack => 19
  | .power => 20
  | .mgmt => 21
  | .pins => 22
  | .out => 23
  | .freeCtr => 24

/-- The place of an object's code (index * 256 + sub-index) after the intervals of codes listed; 0 when it is in none. -/
def Mask.rankIn : List (Nat × Nat) → Nat → Nat → Nat
  | [], _, _ => 0
  | (lo, n) :: l, b, c => bif Nat.ble lo c && Nat.blt c (lo + n) then b + (c - lo) else Mask.rankIn l (b + n) c

/-- The object tables as intervals of codes: lowest code and size. -/
def Mask.tables : List (Nat × Nat) := [
  (0x241001, 32), (0x280001, 21), (0x211001, 28), (0x211020, 6), (0x290001, 10), (0x302001, 12), (0x281001, 7), (0x341001, 9), (0x192001, 14), (0x340001, 19), (0x2e4001, 12), (0x282001, 8),
  (0x28a001, 8), (0x1f0001, 10), (0x200001, 12), (0x201001, 8), (0x342001, 10), (0x401001, 10), (0x100101, 7), (0x289001, 3), (0x2a1001, 10), (0x2a4001, 11), (0x600001, 7), (0x242001, 10),
  (0x2c1001, 13), (0x501101, 7), (0x183001, 7), (0x193001, 12), (0x288001, 10), (0x2c2001, 8), (0x1f0101, 2), (0x2a8001, 11), (0x481001, 10), (0x481801, 10), (0x503001, 9), (0x180001, 7),
  (0x2c4001, 9), (0x2e3001, 7), (0x2e6001, 6), (0x500001, 8), (0x111001, 4), (0x182001, 3), (0x28d001, 5), (0x2c3001, 7), (0x2e1001, 6), (0x2e2001, 11), (0x301001, 5), (0x482001, 6),
  (0x501001, 6), (0x10f001, 3), (0x28c001, 4), (0x2a0001, 8), (0x2e5001, 5), (0x303001, 4), (0x100001, 11), (0x184001, 9), (0x2c0001, 8), (0x601001, 3), (0x203001, 3), (0x240001, 4),
  (0x2a2001, 4), (0x2c3801, 3), (0x342101, 2), (0x402001, 7), (0x502001, 3), (0x300001, 4), (0x305001, 1), (0x400001, 4), (0x403001, 6), (0x100301, 5), (0x181001, 5), (0x185001, 1),
  (0x190001, 15), (0x218001, 6), (0x219001, 4), (0x219006, 1), (0x2e0001, 4), (0x304001, 1), (0x485001, 2), (0x100201, 1), (0x110001, 10), (0x110101, 2), (0x191001, 2), (0x1f0201, 1),
  (0x202001, 3), (0x204001, 2), (0x210001, 5), (0x212001, 32), (0x283001, 1), (0x288101, 2), (0x400101, 1), (0x404001, 4), (0x480001, 1), (0x484001, 2), (0x501201, 1), (0x504001, 1)]

/-- The bit of an object's code in a mask. -/
def Mask.rank (c : Nat) : Nat :=
  Mask.rankIn Mask.tables 25 c

/-- Every bit of one mask is in the other. -/
def Mask.le (a b : Nat) : Bool :=
  Nat.beq (Nat.lor a b) b

/-- The object's code. -/
def ObjDesc.code (o : ObjDesc) : Nat :=
  (o.index * 256 + o.sub) % 16777216

/-- The mask allows the object to change: bit 1 allows every object. -/
def Mask.ok (m : Nat) (o : ObjDesc) : Bool :=
  Nat.testBit m 1 || (Nat.testBit m (Mask.rank o.code) || Nat.beq (Mask.rank o.code) 0)

/-- The mask allows every object of an index to change. -/
def Mask.okIx (m i : Nat) : Bool :=
  Nat.testBit m 1 || (List.range 256).all (fun n => Nat.testBit m (Mask.rank (i % 65536 * 256 + n)) || Nat.beq (Mask.rank (i % 65536 * 256 + n)) 0)

/-- The mask leaves the key alone. -/
def Mask.keeps (m k : Nat) : Bool :=
  !(Nat.testBit m 1 || (Nat.testBit m (Mask.rank (k % 16777216)) || Nat.beq (Mask.rank (k % 16777216)) 0))

theorem Mask.le_testBit {a b n : Nat} (h : Mask.le a b = true) (k : Nat.testBit a n = true) : Nat.testBit b n = true := by
  have e : a ||| b = b := Nat.eq_of_beq_eq_true h
  rw [← e, Nat.testBit_or, k, Bool.true_or]

theorem Mask.le_zero (m : Nat) : Mask.le 0x0 m = true := by
  simp [Mask.le]

theorem fle {a b c : Nat} (h : Mask.le a b = true) (k : Mask.le b c = true) : Mask.le a c = true := by
  have e : a ||| b = b := Nat.eq_of_beq_eq_true h
  have f : b ||| c = c := Nat.eq_of_beq_eq_true k
  have : a ||| c = c := by rw [← f, ← Nat.or_assoc, e]
  simp [Mask.le, this]

theorem fpart {a b n : Nat} (h : Nat.testBit a n = true) (k : Mask.le a b = true) : Nat.testBit b n = true :=
  Mask.le_testBit k h

theorem Mask.ok_all {m : Nat} {o : ObjDesc} (h : Nat.testBit m 1 = true) : Mask.ok m o = true := by
  simp [Mask.ok, h]

theorem fall {a b : Nat} {o : ObjDesc} (h : Nat.testBit a 1 = true) (k : Mask.le a b = true) : Mask.ok b o = true :=
  Mask.ok_all (fpart h k)

theorem fok {a b : Nat} {o : ObjDesc} (h : Mask.ok a o = true) (k : Mask.le a b = true) : Mask.ok b o = true := by
  simp only [Mask.ok, Bool.or_eq_true] at h ⊢
  rcases h with h | h | h
  · exact Or.inl (fpart h k)
  · exact Or.inr (Or.inl (fpart h k))
  · exact Or.inr (Or.inr h)

theorem fokIx {a b i : Nat} (h : Mask.okIx a i = true) (k : Mask.le a b = true) : Mask.okIx b i = true := by
  simp only [Mask.okIx, Bool.or_eq_true, List.all_eq_true] at h ⊢
  rcases h with h | h
  · exact Or.inl (fpart h k)
  · exact Or.inr (fun n hn => (h n hn).imp (fun x => fpart x k) id)

theorem fokAll {a b : Nat} {l : List ObjDesc} (h : l.all (Mask.ok a) = true) (k : Mask.le a b = true) : l.all (Mask.ok b) = true := by
  rw [List.all_eq_true] at h ⊢
  exact fun o ho => fok (h o ho) k

theorem Mask.ok_ite {m : Nat} {c : Prop} [Decidable c] {o p : ObjDesc} (h : Mask.ok m o = true) (k : Mask.ok m p = true) : Mask.ok m (if c then o else p) = true := by
  split
  · exact h
  · exact k

theorem faultsOf_ok {m side : Nat} (h : Mask.ok m Obj.PAIR_FAULTS_A = true) (k : Mask.ok m Obj.PAIR_FAULTS_B = true) : Mask.ok m (faultsOf side) = true :=
  Mask.ok_ite h k

theorem Mask.keeps_all {m k : Nat} (h : Nat.testBit m 1 = true) (hk : Mask.keeps m k = true) : False := by
  simp [Mask.keeps, h] at hk

theorem Mask.keeps_ne {m k i : Nat} {o : ObjDesc} (h : Mask.ok m o = true) (hk : Mask.keeps m k = true) : k ≠ o.key i := by
  rintro rfl
  have e : o.key i % 16777216 = o.code := by
    unfold ObjDesc.key objKey ObjDesc.code
    omega
  unfold Mask.keeps at hk
  unfold Mask.ok at h
  rw [e, h] at hk
  exact absurd hk (by decide)

theorem Mask.keeps_ix {m k i : Nat} (h : Mask.okIx m i = true) (hk : Mask.keeps m k = true) : keyIndex k ≠ i := by
  rintro rfl
  have e : k % 16777216 = keyIndex k % 65536 * 256 + k % 256 := by
    unfold keyIndex
    omega
  unfold Mask.keeps at hk
  rw [e] at hk
  simp only [Mask.okIx, Bool.or_eq_true, List.all_eq_true, List.mem_range] at h
  rcases h with h | h
  · simp [h] at hk
  · have := h (k % 256) (by omega)
    rcases this with h | h
    · simp [h] at hk
    · simp [h] at hk

theorem Mask.keeps_inst {m k i n : Nat} (h : Mask.okIx m i = true) (hk : Mask.keeps m k = true) : k / 256 ≠ objKey i n 0 / 256 := by
  intro e
  have ix : keyIndex k = i % 65536 := by
    unfold keyIndex objKey at *
    omega
  refine Mask.keeps_ix (i := i % 65536) ?_ hk ix
  simpa [Mask.okIx] using h

theorem Tbl.get_filterK {α : Type} (t : Tbl α) (p : Nat → Bool) {k : Nat} (h : p k = true) : Tbl.get (Tbl.filterK t p) k = Tbl.get t k := by
  induction t with
  | nil => rfl
  | cons e t ih =>
    obtain ⟨a, b⟩ := e
    simp only [Tbl.filterK] at ih ⊢
    by_cases hp : p a = true
    · rw [List.filter_cons_of_pos (by exact hp)]
      simp only [Tbl.get, ih]
    · rw [List.filter_cons_of_neg (by exact hp), ih]
      have : a ≠ k := fun x => hp (x ▸ h)
      simp [Tbl.get, this]

/-! ## The relation -/

theorem Part.same_refl (p : Part) (s : State) : p.same s s := by
  cases p <;> first | rfl | exact ⟨rfl, rfl, rfl, rfl⟩

theorem Part.same.trans {p : Part} {r s t : State} (h : p.same r s) (k : p.same s t) : p.same r t := by
  cases p <;> first | exact Eq.trans k h | exact ⟨k.1.trans h.1, k.2.1.trans h.2.1, k.2.2.1.trans h.2.2.1, k.2.2.2.trans h.2.2.2⟩

/-- What every operation of the block keeps between two states: the queue of commands and the time are as before, what was driven stays as a prefix, a canonical dictionary stays canonical, and the parts and objects outside the mask `fm` are unchanged. -/
structure Keeps (fm : Nat) (s t : State) : Prop where
  pending : t.pending = s.pending
  now     : t.now = s.now
  out     : s.out <+: t.out
  canon   : Canon s → Canon t
  parts   : ∀ p : Part, Nat.testBit fm p.bit = false → p.same s t
  regs    : ∀ k, Mask.keeps fm k = true → Tbl.get t.dict.regs k = Tbl.get s.dict.regs k
  blobs   : ∀ k, Mask.keeps fm k = true → Tbl.get t.dict.blobs k = Tbl.get s.dict.blobs k

variable {fm : Nat}

theorem Keeps.refl (s : State) : Keeps fm s s :=
  ⟨rfl, rfl, List.prefix_refl _, id, fun p _ => Part.same_refl p s, fun _ _ => rfl, fun _ _ => rfl⟩

theorem Keeps.trans {r s t : State} (h : Keeps fm r s) (k : Keeps fm s t) : Keeps fm r t :=
  ⟨k.pending.trans h.pending, k.now.trans h.now, h.out.trans k.out, fun c => k.canon (h.canon c), fun p hp => (h.parts p hp).trans (k.parts p hp),
    fun x hx => (k.regs x hx).trans (h.regs x hx), fun x hx => (k.blobs x hx).trans (h.blobs x hx)⟩

theorem Keeps.ite {r a b : State} {c : Prop} [Decidable c] (h : Keeps fm r a) (k : Keeps fm r b) : Keeps fm r (if c then a else b) := by
  split
  · exact h
  · exact k

theorem Keeps.forEach {α : Type} {r s : State} (l : List α) (f : α → State → State) (h : Keeps fm r s) (hf : ∀ x t, Keeps fm r t → Keeps fm r (f x t)) :
    Keeps fm r (forEach l f s) := by
  unfold Machine.forEach
  induction l generalizing s with
  | nil => exact h
  | cons x l ih => exact ih (hf x s h)

theorem Keeps.forRange {r s : State} (n : Nat) (f : Nat → State → State) (h : Keeps fm r s) (hf : ∀ x t, Keeps fm r t → Keeps fm r (f x t)) :
    Keeps fm r (forRange n f s) :=
  Keeps.forEach _ _ h hf

theorem Keeps.foldl {α : Type} {r s : State} (l : List α) (f : State → α → State) (h : Keeps fm r s) (hf : ∀ t x, Keeps fm r t → Keeps fm r (f t x)) :
    Keeps fm r (l.foldl f s) := by
  induction l generalizing s with
  | nil => exact h
  | cons x l ih => exact ih (hf s x h)

/-- A fold over a pair of a state and something else. -/
theorem Keeps.foldl_fst {α β : Type} {r : State} {p : State × β} (l : List α) (f : State × β → α → State × β) (h : Keeps fm r p.1)
    (hf : ∀ q x, Keeps fm r q.1 → Keeps fm r (f q x).1) : Keeps fm r (l.foldl f p).1 := by
  induction l generalizing p with
  | nil => exact h
  | cons x l ih => exact ih (hf p x h)

theorem Keeps.foldl_snd {α β : Type} {r : State} {p : β × State} (l : List α) (f : β × State → α → β × State) (h : Keeps fm r p.2)
    (hf : ∀ q x, Keeps fm r q.2 → Keeps fm r (f q x).2) : Keeps fm r (l.foldl f p).2 := by
  induction l generalizing p with
  | nil => exact h
  | cons x l ih => exact ih (hf p x h)

theorem Keeps.ite_fst {β : Type} {r : State} {a b : State × β} {c : Prop} [Decidable c] (h : Keeps fm r a.1) (k : Keeps fm r b.1) : Keeps fm r (if c then a else b).1 := by
  split
  · exact h
  · exact k

theorem Keeps.ite_snd {β : Type} {r : State} {a b : β × State} {c : Prop} [Decidable c] (h : Keeps fm r a.2) (k : Keeps fm r b.2) : Keeps fm r (if c then a else b).2 := by
  split
  · exact h
  · exact k

/-- The same for an operation that may give no state. -/
def KeepsO (fm : Nat) (r : State) (o : Option State) : Prop :=
  ∀ t, o = some t → Keeps fm r t

/-- The same for an operation that may give something and a state. -/
def KeepsP {β : Type} (fm : Nat) (r : State) (o : Option (β × State)) : Prop :=
  ∀ b t, o = some (b, t) → Keeps fm r t

theorem KeepsO.none {r : State} : KeepsO fm r none := by
  intro t e
  cases e

theorem KeepsO.some {r s : State} (h : Keeps fm r s) : KeepsO fm r (some s) := by
  intro t e
  cases e
  exact h

theorem KeepsO.ite {r : State} {a b : Option State} {c : Prop} [Decidable c] (h : KeepsO fm r a) (k : KeepsO fm r b) : KeepsO fm r (if c then a else b) := by
  split
  · exact h
  · exact k

theorem KeepsO.get {r t : State} {o : Option State} (e : o = Option.some t) (h : KeepsO fm r o) : Keeps fm r t :=
  h t e

theorem KeepsO.foldl {α : Type} {r : State} {o : Option State} (l : List α) (f : Option State → α → Option State) (h : KeepsO fm r o)
    (hf : ∀ o x, KeepsO fm r o → KeepsO fm r (f o x)) : KeepsO fm r (l.foldl f o) := by
  induction l generalizing o with
  | nil => exact h
  | cons x l ih => exact ih (hf o x h)

/-- The same for a read of a sector that starts or finds it lost. -/
def KeepsF (fm : Nat) (r : State) (x : FetchStart) : Prop :=
  ∀ t, x = .started t → Keeps fm r t

theorem KeepsF.started {r s : State} (h : Keeps fm r s) : KeepsF fm r (.started s) := by
  intro t e
  cases e
  exact h

theorem KeepsF.lost {r : State} : KeepsF fm r .lost := by
  intro t e
  cases e

theorem KeepsF.ite {r : State} {a b : FetchStart} {c : Prop} [Decidable c] (h : KeepsF fm r a) (k : KeepsF fm r b) : KeepsF fm r (if c then a else b) := by
  split
  · exact h
  · exact k

theorem KeepsF.get {r t : State} {x : FetchStart} (e : x = .started t) (h : KeepsF fm r x) : Keeps fm r t :=
  h t e

theorem KeepsP.none {β : Type} {r : State} : KeepsP (β := β) fm r none := by
  intro b t e
  cases e

theorem KeepsP.some {β : Type} {r s : State} {b : β} (h : Keeps fm r s) : KeepsP fm r (some (b, s)) := by
  intro c t e
  cases e
  exact h

theorem KeepsP.ite {β : Type} {r : State} {a b : Option (β × State)} {c : Prop} [Decidable c] (h : KeepsP fm r a) (k : KeepsP fm r b) : KeepsP fm r (if c then a else b) := by
  split
  · exact h
  · exact k

theorem KeepsP.get {β : Type} {b : β} {r t : State} {o : Option (β × State)} (e : o = Option.some (b, t)) (h : KeepsP fm r o) : Keeps fm r t :=
  h b t e

theorem Keeps.of_snd {β : Type} {r t : State} {x : β × State} {a : β} (e : x = (a, t)) (h : Keeps fm r x.2) : Keeps fm r t := by
  subst e
  exact h

theorem Keeps.of_fst {β : Type} {r t : State} {x : State × β} {a : β} (e : x = (t, a)) (h : Keeps fm r x.1) : Keeps fm r t := by
  subst e
  exact h


/-- An update of other parts, each unchanged or in the mask, keeps all of it. -/
theorem Keeps.upd {r s : State} {x_bootAt x_ep x_ev x_qps x_sluice x_host x_vols x_map x_prot x_pools x_ilog x_drv x_key x_cache x_lines x_pair x_pack x_power x_mgmt x_pins x_freeCtr} (h : Keeps fm r s)
    (h_bootAt : x_bootAt = s.bootAt ∨ Nat.testBit fm 2 = true)
    (h_ep : x_ep = s.ep ∨ Nat.testBit fm 4 = true)
    (h_ev : x_ev = s.ev ∨ Nat.testBit fm 5 = true)
    (h_qps : x_qps = s.qps ∨ Nat.testBit fm 6 = true)
    (h_sluice : x_sluice = s.sluice ∨ Nat.testBit fm 7 = true)
    (h_host : x_host = s.host ∨ Nat.testBit fm 8 = true)
    (h_vols : x_vols = s.vols ∨ Nat.testBit fm 9 = true)
    (h_map : x_map = s.map ∨ Nat.testBit fm 10 = true)
    (h_prot : x_prot = s.prot ∨ Nat.testBit fm 11 = true)
    (h_pools : x_pools = s.pools ∨ Nat.testBit fm 12 = true)
    (h_ilog : x_ilog = s.ilog ∨ Nat.testBit fm 13 = true)
    (h_drv : x_drv = s.drv ∨ Nat.testBit fm 14 = true)
    (h_key : x_key = s.key ∨ Nat.testBit fm 15 = true)
    (h_cache : x_cache = s.cache ∨ Nat.testBit fm 16 = true)
    (h_lines : x_lines = s.lines ∨ Nat.testBit fm 17 = true)
    (h_pair : x_pair = s.pair ∨ Nat.testBit fm 18 = true)
    (h_pack : x_pack = s.pack ∨ Nat.testBit fm 19 = true)
    (h_power : x_power = s.power ∨ Nat.testBit fm 20 = true)
    (h_mgmt : x_mgmt = s.mgmt ∨ Nat.testBit fm 21 = true)
    (h_pins : x_pins = s.pins ∨ Nat.testBit fm 22 = true)
    (h_freeCtr : x_freeCtr = s.freeCtr ∨ Nat.testBit fm 24 = true) :
    Keeps fm r { now := s.now, bootAt := x_bootAt, dict := s.dict, ep := x_ep, ev := x_ev, qps := x_qps, sluice := x_sluice, host := x_host, vols := x_vols, map := x_map, prot := x_prot, pools := x_pools, ilog := x_ilog, drv := x_drv, key := x_key, cache := x_cache, lines := x_lines, pair := x_pair, pack := x_pack, power := x_power, mgmt := x_mgmt, pins := x_pins, out := s.out, freeCtr := x_freeCtr, pending := s.pending } := by
  refine ⟨h.pending, h.now, h.out, h.canon, fun p hp => ?_, h.regs, h.blobs⟩
  cases p
  · exact (h.parts .bootAt hp).trans (h_bootAt.resolve_right (by rw [show Nat.testBit fm 2 = false from hp]; decide))
  · exact h.parts .sess hp
  · exact (h.parts .ep hp).trans (h_ep.resolve_right (by rw [show Nat.testBit fm 4 = false from hp]; decide))
  · exact (h.parts .ev hp).trans (h_ev.resolve_right (by rw [show Nat.testBit fm 5 = false from hp]; decide))
  · exact (h.parts .qps hp).trans (h_qps.resolve_right (by rw [show Nat.testBit fm 6 = false from hp]; decide))
  · exact (h.parts .sluice hp).trans (h_sluice.resolve_right (by rw [show Nat.testBit fm 7 = false from hp]; decide))
  · exact (h.parts .host hp).trans (h_host.resolve_right (by rw [show Nat.testBit fm 8 = false from hp]; decide))
  · exact (h.parts .vols hp).trans (h_vols.resolve_right (by rw [show Nat.testBit fm 9 = false from hp]; decide))
  · exact (h.parts .map hp).trans (h_map.resolve_right (by rw [show Nat.testBit fm 10 = false from hp]; decide))
  · exact (h.parts .prot hp).trans (h_prot.resolve_right (by rw [show Nat.testBit fm 11 = false from hp]; decide))
  · exact (h.parts .pools hp).trans (h_pools.resolve_right (by rw [show Nat.testBit fm 12 = false from hp]; decide))
  · exact (h.parts .ilog hp).trans (h_ilog.resolve_right (by rw [show Nat.testBit fm 13 = false from hp]; decide))
  · exact (h.parts .drv hp).trans (h_drv.resolve_right (by rw [show Nat.testBit fm 14 = false from hp]; decide))
  · exact (h.parts .key hp).trans (h_key.resolve_right (by rw [show Nat.testBit fm 15 = false from hp]; decide))
  · exact (h.parts .cache hp).trans (h_cache.resolve_right (by rw [show Nat.testBit fm 16 = false from hp]; decide))
  · exact (h.parts .lines hp).trans (h_lines.resolve_right (by rw [show Nat.testBit fm 17 = false from hp]; decide))
  · exact (h.parts .pair hp).trans (h_pair.resolve_right (by rw [show Nat.testBit fm 18 = false from hp]; decide))
  · exact (h.parts .pack hp).trans (h_pack.resolve_right (by rw [show Nat.testBit fm 19 = false from hp]; decide))
  · exact (h.parts .power hp).trans (h_power.resolve_right (by rw [show Nat.testBit fm 20 = false from hp]; decide))
  · exact (h.parts .mgmt hp).trans (h_mgmt.resolve_right (by rw [show Nat.testBit fm 21 = false from hp]; decide))
  · exact (h.parts .pins hp).trans (h_pins.resolve_right (by rw [show Nat.testBit fm 22 = false from hp]; decide))
  · exact h.parts .out hp
  · exact (h.parts .freeCtr hp).trans (h_freeCtr.resolve_right (by rw [show Nat.testBit fm 24 = false from hp]; decide))

/-- The dictionary's sessions and pacing are no registers. -/
theorem Keeps.updDict {r s : State} {y_sessions y_paced y_pace y_factory} (h : Keeps fm r s) (hs : (y_sessions = s.dict.sessions ∧ y_paced = s.dict.paced ∧ y_pace = s.dict.pace ∧ y_factory = s.dict.factory) ∨ Nat.testBit fm 3 = true) :
    Keeps fm r { s with dict := { regs := s.dict.regs, blobs := s.dict.blobs, sessions := y_sessions, paced := y_paced, pace := y_pace, factory := y_factory } } := by
  refine ⟨h.pending, h.now, h.out, h.canon, fun p hp => ?_, h.regs, h.blobs⟩
  cases p <;> first | exact h.parts _ hp | exact (h.parts .sess hp).trans (hs.resolve_right (by rw [show Nat.testBit fm 3 = false from hp]; decide))

/-- A change of registers and byte strings that keeps them canonical and leaves those outside the mask. -/
theorem Keeps.updRegs {r s : State} {rg bl y_sessions y_paced y_pace y_factory} (h : Keeps fm r s) (hr : Tbl.wf s.dict.regs = true → Tbl.wf rg = true)
    (hb : Tbl.wf s.dict.blobs = true → Tbl.wf bl = true) (kr : ∀ k, Mask.keeps fm k = true → Tbl.get rg k = Tbl.get s.dict.regs k)
    (kb : ∀ k, Mask.keeps fm k = true → Tbl.get bl k = Tbl.get s.dict.blobs k)
    (hs : (y_sessions = s.dict.sessions ∧ y_paced = s.dict.paced ∧ y_pace = s.dict.pace ∧ y_factory = s.dict.factory) ∨ Nat.testBit fm 3 = true) :
    Keeps fm r { s with dict := { regs := rg, blobs := bl, sessions := y_sessions, paced := y_paced, pace := y_pace, factory := y_factory } } := by
  refine ⟨h.pending, h.now, h.out, fun c => ⟨hr (h.canon c).1, hb (h.canon c).2⟩, fun p hp => ?_, fun k hk => (kr k hk).trans (h.regs k hk), fun k hk => (kb k hk).trans (h.blobs k hk)⟩
  cases p <;> first | exact h.parts _ hp | exact (h.parts .sess hp).trans (hs.resolve_right (by rw [show Nat.testBit fm 3 = false from hp]; decide))

/-- Another dictionary that is as canonical as the one before. -/
theorem Keeps.setDict {r s : State} {d : Dict} (h : Keeps fm r s) (hr : Tbl.wf s.dict.regs = true → Tbl.wf d.regs = true)
    (hb : Tbl.wf s.dict.blobs = true → Tbl.wf d.blobs = true) (kr : ∀ k, Mask.keeps fm k = true → Tbl.get d.regs k = Tbl.get s.dict.regs k)
    (kb : ∀ k, Mask.keeps fm k = true → Tbl.get d.blobs k = Tbl.get s.dict.blobs k)
    (hs : (d.sessions = s.dict.sessions ∧ d.paced = s.dict.paced ∧ d.pace = s.dict.pace ∧ d.factory = s.dict.factory) ∨ Nat.testBit fm 3 = true) :
    Keeps fm r { s with dict := d } := by
  refine ⟨h.pending, h.now, h.out, fun c => ⟨hr (h.canon c).1, hb (h.canon c).2⟩, fun p hp => ?_, fun k hk => (kr k hk).trans (h.regs k hk), fun k hk => (kb k hk).trans (h.blobs k hk)⟩
  cases p <;> first | exact h.parts _ hp | exact (h.parts .sess hp).trans (hs.resolve_right (by rw [show Nat.testBit fm 3 = false from hp]; decide))

theorem wr_keeps {r s : State} {o : ObjDesc} {i : Nat} {v : Int} (hm : Mask.ok fm o = true) (h : Keeps fm r s) : Keeps fm r (wr s o i v) :=
  Keeps.updRegs h (Tbl.wf_put _ _ _) id (fun _ hk => Tbl.get_put_other _ _ _ (Mask.keeps_ne hm hk)) (fun _ _ => rfl) (Or.inl ⟨rfl, rfl, rfl, rfl⟩)

theorem wrBytes_keeps {r s : State} {o : ObjDesc} {i : Nat} {b : Bytes} (hm : Mask.ok fm o = true) (h : Keeps fm r s) : Keeps fm r (wrBytes s o i b) :=
  Keeps.updRegs h id (Tbl.wf_put _ _ _) (fun _ _ => rfl) (fun _ hk => Tbl.get_put_other _ _ _ (Mask.keeps_ne hm hk)) (Or.inl ⟨rfl, rfl, rfl, rfl⟩)

theorem emit_keeps {r s : State} {x : Out} (hm : Nat.testBit fm 23 = true) (h : Keeps fm r s) : Keeps fm r (emit s x) := by
  refine ⟨h.pending, h.now, h.out.trans (List.prefix_append _ _), h.canon, fun p hp => ?_, h.regs, h.blobs⟩
  cases p <;> first | exact h.parts _ hp | exact absurd hm (by rw [show Nat.testBit fm 23 = false from hp]; decide)

end Sys2Proof.Machine
end

