-- ==== Sys2Proof/Laws/KeepsAll.lean ====
section
/-! SUPPORT. What each operation of the block keeps: one lemma for each function of the state, in the order of the machine's files. -/

namespace Sys2Proof.Machine

open Sys2Proof

set_option linter.unusedTactic false
set_option linter.unreachableTactic false
set_option linter.unusedVariables false
set_option Elab.async false

/-! ## Ops -/

theorem wrB_keeps {fm : Nat} {r0 : State}  {s : State} {o : ObjDesc} {i : Nat} {b : Bool} (hm_o : Mask.ok fm o = true) (h0 : Keeps fm r0 s)  : Keeps fm r0 (wrB s o i b) := by
  unfold wrB
  with_reducible repeat' first | assumption | apply wr_keeps

theorem bump_keeps {fm : Nat} {r0 : State}  {s : State} {o : ObjDesc} {i : Nat} {n : Nat} (hm_o : Mask.ok fm o = true) (h0 : Keeps fm r0 s)  : Keeps fm r0 (bump s o i n) := by
  unfold bump
  with_reducible repeat' first | assumption | apply wr_keeps

theorem drop_keeps {fm : Nat} {r0 : State}  {s : State} {o : ObjDesc} {i : Nat} {n : Nat} (hm_o : Mask.ok fm o = true) (h0 : Keeps fm r0 s)  : Keeps fm r0 (drop s o i n) := by
  unfold drop
  with_reducible repeat' first | assumption | apply wr_keeps

theorem clr_keeps {fm : Nat} {r0 : State}  {s : State} {o : ObjDesc} {i : Nat} (hm_o : Mask.ok fm o = true) (h0 : Keeps fm r0 s)  : Keeps fm r0 (clr s o i) := by
  unfold clr
  with_reducible repeat' first | assumption | apply wr_keeps

theorem clrAll_keeps {fm : Nat} {r0 s : State} {l : List ObjDesc} {i : Nat} (hm : l.all (Mask.ok fm) = true) (h0 : Keeps fm r0 s) : Keeps fm r0 (clrAll s l i) := by
  unfold clrAll
  rw [List.all_eq_true] at hm
  induction l generalizing s with
  | nil => exact h0
  | cons o l ih => exact ih (fun x hx => hm x (by simp [hx])) (clr_keeps (hm o (by simp)) h0)

theorem clrBytesAll_keeps {fm : Nat} {r0 s : State} {l : List ObjDesc} {i : Nat} (hm : l.all (Mask.ok fm) = true) (h0 : Keeps fm r0 s) : Keeps fm r0 (clrBytesAll s l i) := by
  unfold clrBytesAll
  rw [List.all_eq_true] at hm
  induction l generalizing s with
  | nil => exact h0
  | cons o l ih => exact ih (fun x hx => hm x (by simp [hx])) (wrBytes_keeps (hm o (by simp)) h0)

theorem count_keeps {fm : Nat} {r0 : State}  {s : State} {o : ObjDesc} {i : Nat} {n : Nat} (hm_o : Mask.ok fm o = true) (h0 : Keeps fm r0 s)  : Keeps fm r0 (count s o i n) := by
  unfold count
  with_reducible repeat' first | assumption | apply wr_keeps

theorem countDev_keeps {fm : Nat} {r0 : State}  {s : State} {i : Nat} {n : Nat} (hfm : Mask.le 0x20 fm = true) (h0 : Keeps fm r0 s)  : Keeps fm r0 (countDev s i n) := by
  unfold countDev
  with_reducible repeat' first | assumption | exact fpart (by decide +kernel) hfm | exact fle (by decide +kernel) hfm | exact fok (by decide +kernel) hfm | exact fall (by decide +kernel) hfm | exact fokIx (by decide +kernel) hfm | exact fokAll (by decide +kernel) hfm | refine Mask.ok_ite ?_ ?_ | refine faultsOf_ok ?_ ?_ | fail_if_no_progress (apply Keeps.upd <;> try first | exact Or.inr (fpart (by decide +kernel) hfm) | exact Or.inl rfl)

theorem countHist_keeps {fm : Nat} {r0 : State}  {s : State} {k : Nat} {b : Nat} (hfm : Mask.le 0x20 fm = true) (h0 : Keeps fm r0 s)  : Keeps fm r0 (countHist s k b) := by
  unfold countHist
  try lift_lets -underBinder
  with_reducible repeat' first | assumption | exact fpart (by decide +kernel) hfm | exact fle (by decide +kernel) hfm | exact fok (by decide +kernel) hfm | exact fall (by decide +kernel) hfm | exact fokIx (by decide +kernel) hfm | exact fokAll (by decide +kernel) hfm | refine Mask.ok_ite ?_ ?_ | refine faultsOf_ok ?_ ?_ | (intro a; clear_value a) | fail_if_no_progress (apply Keeps.upd <;> try first | exact Or.inr (fpart (by decide +kernel) hfm) | exact Or.inl rfl)

theorem takeFree_keeps {fm : Nat} {r0 : State}  {s : State} (hfm : Mask.le 0x1000000 fm = true) (h0 : Keeps fm r0 s)  : Keeps fm r0 (takeFree s) := by
  unfold takeFree
  with_reducible repeat' first | assumption | exact fpart (by decide +kernel) hfm | exact fle (by decide +kernel) hfm | exact fok (by decide +kernel) hfm | exact fall (by decide +kernel) hfm | exact fokIx (by decide +kernel) hfm | exact fokAll (by decide +kernel) hfm | refine Mask.ok_ite ?_ ?_ | refine faultsOf_ok ?_ ?_ | fail_if_no_progress (apply Keeps.upd <;> try first | exact Or.inr (fpart (by decide +kernel) hfm) | exact Or.inl rfl)

theorem drive_keeps {fm : Nat} {r0 : State}  {s : State} {p : Pin} {level : Bool} (hfm : Mask.le 0xc00000 fm = true) (h0 : Keeps fm r0 s)  : Keeps fm r0 (drive s p level) := by
  unfold drive
  with_reducible repeat' first | assumption | exact fpart (by decide +kernel) hfm | exact fle (by decide +kernel) hfm | exact fok (by decide +kernel) hfm | exact fall (by decide +kernel) hfm | exact fokIx (by decide +kernel) hfm | exact fokAll (by decide +kernel) hfm | refine Mask.ok_ite ?_ ?_ | refine faultsOf_ok ?_ ?_ | apply emit_keeps | fail_if_no_progress (apply Keeps.upd <;> try first | exact Or.inr (fpart (by decide +kernel) hfm) | exact Or.inl rfl)

/-! ## Msix -/

theorem modFn_keeps {fm : Nat} {r0 : State}  {s : State} {f : Nat} {g : Fn → Fn} (hfm : Mask.le 0x100 fm = true) (h0 : Keeps fm r0 s)  : Keeps fm r0 (modFn s f g) := by
  unfold modFn
  with_reducible repeat' first | assumption | exact fpart (by decide +kernel) hfm | exact fle (by decide +kernel) hfm | exact fok (by decide +kernel) hfm | exact fall (by decide +kernel) hfm | exact fokIx (by decide +kernel) hfm | exact fokAll (by decide +kernel) hfm | refine Mask.ok_ite ?_ ?_ | refine faultsOf_ok ?_ ?_ | fail_if_no_progress (apply Keeps.upd <;> try first | exact Or.inr (fpart (by decide +kernel) hfm) | exact Or.inl rfl)

theorem emitMsix_keeps {fm : Nat} {r0 : State}  {s : State} {f : Nat} {v : Nat} (hfm : Mask.le 0x800000 fm = true) (h0 : Keeps fm r0 s)  : Keeps fm r0 (emitMsix s f v) := by
  unfold emitMsix
  try lift_lets -underBinder
  with_reducible repeat' first | assumption | exact fpart (by decide +kernel) hfm | exact fle (by decide +kernel) hfm | exact fok (by decide +kernel) hfm | exact fall (by decide +kernel) hfm | exact fokIx (by decide +kernel) hfm | exact fokAll (by decide +kernel) hfm | refine Mask.ok_ite ?_ ?_ | refine faultsOf_ok ?_ ?_ | (intro a; clear_value a) | apply emit_keeps

theorem sendMsix_keeps {fm : Nat} {r0 : State}  {s : State} {f : Nat} {v : Nat} (hfm : Mask.le 0x800100 fm = true) (h0 : Keeps fm r0 s)  : Keeps fm r0 (sendMsix s f v) := by
  unfold sendMsix
  with_reducible repeat' first | assumption | exact fpart (by decide +kernel) hfm | exact fle (by decide +kernel) hfm | exact fok (by decide +kernel) hfm | exact fall (by decide +kernel) hfm | exact fokIx (by decide +kernel) hfm | exact fokAll (by decide +kernel) hfm | refine Mask.ok_ite ?_ ?_ | refine faultsOf_ok ?_ ?_ | apply Keeps.ite | apply emitMsix_keeps | apply modFn_keeps

theorem flushMsix_keeps {fm : Nat} {r0 : State}  {s : State} {f : Nat} (hfm : Mask.le 0x800100 fm = true) (h0 : Keeps fm r0 s)  : Keeps fm r0 (flushMsix s f) := by
  unfold flushMsix
  try lift_lets -underBinder
  with_reducible repeat' first | assumption | exact fpart (by decide +kernel) hfm | exact fle (by decide +kernel) hfm | exact fok (by decide +kernel) hfm | exact fall (by decide +kernel) hfm | exact fokIx (by decide +kernel) hfm | exact fokAll (by decide +kernel) hfm | refine Mask.ok_ite ?_ ?_ | refine faultsOf_ok ?_ ?_ | refine fun _ _ (_ : Keeps fm r0 _) => ?_ | (intro a; clear_value a) | lift_lets -underBinder | apply emitMsix_keeps | apply modFn_keeps | apply Keeps.forEach

theorem signalPme_keeps {fm : Nat} {r0 : State}  {s : State} {b : Nat} (hfm : Mask.le 0x800100 fm = true) (h0 : Keeps fm r0 s)  : Keeps fm r0 (signalPme s b) := by
  unfold signalPme
  try lift_lets -underBinder
  with_reducible repeat' first | assumption | exact fpart (by decide +kernel) hfm | exact fle (by decide +kernel) hfm | exact fok (by decide +kernel) hfm | exact fall (by decide +kernel) hfm | exact fokIx (by decide +kernel) hfm | exact fokAll (by decide +kernel) hfm | refine Mask.ok_ite ?_ ?_ | refine faultsOf_ok ?_ ?_ | refine fun _ _ (_ : Keeps fm r0 _) => ?_ | (intro a; refine (fun ha : Keeps fm r0 a => ?_) ?_; clear_value a; rotate_left; dsimp only [a]; rotate_right) | lift_lets -underBinder | apply Keeps.ite | apply modFn_keeps | apply emit_keeps | apply Keeps.forEach

theorem leaveIdle_keeps {fm : Nat} {r0 : State}  {s : State} (hfm : Mask.le 0x2000000000000000000000000000000000000000000000040000000000000000000000000000000000000000000000000000000000000000000000000000000000000000000 fm = true) (h0 : Keeps fm r0 s)  : Keeps fm r0 (leaveIdle s) := by
  unfold leaveIdle
  with_reducible repeat' first | assumption | exact fpart (by decide +kernel) hfm | exact fle (by decide +kernel) hfm | exact fok (by decide +kernel) hfm | exact fall (by decide +kernel) hfm | exact fokIx (by decide +kernel) hfm | exact fokAll (by decide +kernel) hfm | refine Mask.ok_ite ?_ ?_ | refine faultsOf_ok ?_ ?_ | refine fun _ _ (_ : Keeps fm r0 _) => ?_ | apply Keeps.ite | apply wr_keeps | apply wrB_keeps | apply Keeps.forRange

/-! ## Events -/

theorem modPath_keeps {fm : Nat} {r0 : State}  {s : State} {p : Nat} {f : EvPath → EvPath} (hfm : Mask.le 0x20 fm = true) (h0 : Keeps fm r0 s)  : Keeps fm r0 (modPath s p f) := by
  unfold modPath
  with_reducible repeat' first | assumption | exact fpart (by decide +kernel) hfm | exact fle (by decide +kernel) hfm | exact fok (by decide +kernel) hfm | exact fall (by decide +kernel) hfm | exact fokIx (by decide +kernel) hfm | exact fokAll (by decide +kernel) hfm | refine Mask.ok_ite ?_ ?_ | refine faultsOf_ok ?_ ?_ | fail_if_no_progress (apply Keeps.upd <;> try first | exact Or.inr (fpart (by decide +kernel) hfm) | exact Or.inl rfl)

theorem ringDeliver_keeps {fm : Nat} {r0 : State}  {s : State} {f : Nat} {r : EvRec} (hfm : Mask.le 0x800000000000000000000000000000000000000000000000000000000000000000000000000000000000000000000000000000000000000000000000000000000000000000800120 fm = true) (h0 : Keeps fm r0 s)  : Keeps fm r0 (ringDeliver s f r) := by
  unfold ringDeliver
  try lift_lets -underBinder
  with_reducible repeat' first | assumption | exact fpart (by decide +kernel) hfm | exact fle (by decide +kernel) hfm | exact fok (by decide +kernel) hfm | exact fall (by decide +kernel) hfm | exact fokIx (by decide +kernel) hfm | exact fokAll (by decide +kernel) hfm | refine Mask.ok_ite ?_ ?_ | refine faultsOf_ok ?_ ?_ | (intro a; refine (fun ha : Keeps fm r0 a => ?_) ?_; clear_value a; rotate_left; dsimp only [a]; rotate_right) | (intro a; clear_value a) | lift_lets -underBinder | apply Keeps.ite | apply emit_keeps | apply wr_keeps | apply sendMsix_keeps | fail_if_no_progress (apply Keeps.upd <;> try first | exact Or.inr (fpart (by decide +kernel) hfm) | exact Or.inl rfl)

theorem subDeliver_keeps {fm : Nat} {r0 : State}  {s : State} {n : Nat} {r : EvRec} (hfm : Mask.le 0x100000000000000000000000000000000000000000000000000000000000000020 fm = true) (h0 : Keeps fm r0 s)  : Keeps fm r0 (subDeliver s n r) := by
  unfold subDeliver
  try lift_lets -underBinder
  with_reducible repeat' first | assumption | exact fpart (by decide +kernel) hfm | exact fle (by decide +kernel) hfm | exact fok (by decide +kernel) hfm | exact fall (by decide +kernel) hfm | exact fokIx (by decide +kernel) hfm | exact fokAll (by decide +kernel) hfm | refine Mask.ok_ite ?_ ?_ | refine faultsOf_ok ?_ ?_ | refine fun _ _ (_ : Keeps fm r0 _) => ?_ | (intro a; refine (fun hga : ∀ x t, Keeps fm r0 t → Keeps fm r0 (a x t) => ?_) ?_; clear_value a; rotate_left; dsimp only [a]; rotate_right) | (intro a; clear_value a) | apply hga | lift_lets -underBinder | apply Keeps.ite | apply bump_keeps | fail_if_no_progress (apply Keeps.upd <;> try first | exact Or.inr (fpart (by decide +kernel) hfm) | exact Or.inl rfl) | split

theorem pathConsume_keeps {fm : Nat} {r0 : State}  {s : State} {p : Nat} {r : EvRec} (hfm : Mask.le 0x800000000000000000000000000000000000000000000000000000000000000000000000000000100000000000000000000000000000000000000000000000000000000000800120 fm = true) (h0 : Keeps fm r0 s)  : Keeps fm r0 (pathConsume s p r) := by
  unfold pathConsume
  with_reducible repeat' first | assumption | exact fpart (by decide +kernel) hfm | exact fle (by decide +kernel) hfm | exact fok (by decide +kernel) hfm | exact fall (by decide +kernel) hfm | exact fokIx (by decide +kernel) hfm | exact fokAll (by decide +kernel) hfm | refine Mask.ok_ite ?_ ?_ | refine faultsOf_ok ?_ ?_ | apply Keeps.ite | apply ringDeliver_keeps | apply subDeliver_keeps | fail_if_no_progress (apply Keeps.upd <;> try first | exact Or.inr (fpart (by decide +kernel) hfm) | exact Or.inl rfl)

theorem pathShed_keeps {fm : Nat} {r0 : State}  {s : State} {p : Nat} {r : EvRec} (hfm : Mask.le 0x74000000000000000000000000000000000000000000000000000000000000020 fm = true) (h0 : Keeps fm r0 s)  : Keeps fm r0 (pathShed s p r) := by
  unfold pathShed
  try lift_lets -underBinder
  with_reducible repeat' first | assumption | exact fpart (by decide +kernel) hfm | exact fle (by decide +kernel) hfm | exact fok (by decide +kernel) hfm | exact fall (by decide +kernel) hfm | exact fokIx (by decide +kernel) hfm | exact fokAll (by decide +kernel) hfm | refine Mask.ok_ite ?_ ?_ | refine faultsOf_ok ?_ ?_ | (intro a; refine (fun ha : Keeps fm r0 a => ?_) ?_; clear_value a; rotate_left; dsimp only [a]; rotate_right) | (intro a; clear_value a) | lift_lets -underBinder | apply modPath_keeps | apply wrB_keeps | apply bump_keeps | split

theorem offer_keeps {fm : Nat} {r0 : State}  {s : State} {p : Nat} {r : EvRec} {force : Bool} (hfm : Mask.le 0x80000000000000000000000000000000000000000000000000000000000000000000000000000017c000000000000000000000000000000000000000000000000000000000800120 fm = true) (h0 : Keeps fm r0 s)  : Keeps fm r0 (offer s p r force) := by
  unfold offer
  try lift_lets -underBinder
  with_reducible repeat' first | assumption | exact fpart (by decide +kernel) hfm | exact fle (by decide +kernel) hfm | exact fok (by decide +kernel) hfm | exact fall (by decide +kernel) hfm | exact fokIx (by decide +kernel) hfm | exact fokAll (by decide +kernel) hfm | refine Mask.ok_ite ?_ ?_ | refine faultsOf_ok ?_ ?_ | (intro a; refine (fun ha : Keeps fm r0 a => ?_) ?_; clear_value a; rotate_left; dsimp only [a]; rotate_right) | (intro a; clear_value a) | lift_lets -underBinder | apply Keeps.ite | apply bump_keeps | apply pathConsume_keeps | apply modPath_keeps | apply pathShed_keeps

theorem offerEarly_keeps {fm : Nat} {r0 : State}  {s : State} {r : EvRec} (hfm : Mask.le 0x80000000000000000000000000000000000000000000000000000000000000000000000000000017c000000000000000000000000000000000000000000000000000000000800120 fm = true) (h0 : Keeps fm r0 s)  : Keeps fm r0 (offerEarly s r) := by
  unfold offerEarly
  try lift_lets -underBinder
  with_reducible repeat' first | assumption | exact fpart (by decide +kernel) hfm | exact fle (by decide +kernel) hfm | exact fok (by decide +kernel) hfm | exact fall (by decide +kernel) hfm | exact fokIx (by decide +kernel) hfm | exact fokAll (by decide +kernel) hfm | refine Mask.ok_ite ?_ ?_ | refine faultsOf_ok ?_ ?_ | (intro a; refine (fun ha : Keeps fm r0 a => ?_) ?_; clear_value a; rotate_left; dsimp only [a]; rotate_right) | (intro a; clear_value a) | lift_lets -underBinder | apply Keeps.ite | apply offer_keeps | apply modPath_keeps | apply pathShed_keeps | fail_if_no_progress (apply Keeps.upd <;> try first | exact Or.inr (fpart (by decide +kernel) hfm) | exact Or.inl rfl)

theorem offerAll_keeps {fm : Nat} {r0 : State}  {s : State} {r : EvRec} (hfm : Mask.le 0x80000000000000000000000000000000000000000000000000000000000000000000000000000017c000000000000000000000000000000000000000000000000000000000800120 fm = true) (h0 : Keeps fm r0 s)  : Keeps fm r0 (offerAll s r) := by
  unfold offerAll
  with_reducible repeat' first | assumption | exact fpart (by decide +kernel) hfm | exact fle (by decide +kernel) hfm | exact fok (by decide +kernel) hfm | exact fall (by decide +kernel) hfm | exact fokIx (by decide +kernel) hfm | exact fokAll (by decide +kernel) hfm | refine Mask.ok_ite ?_ ?_ | refine faultsOf_ok ?_ ?_ | refine fun _ _ (_ : Keeps fm r0 _) => ?_ | apply Keeps.ite | apply offer_keeps | apply offerEarly_keeps | apply Keeps.forRange

theorem takeSeq_keeps {fm : Nat} {r0 : State}  {s : State} (hfm : Mask.le 0x100000000000000000000000000000000000000000000000000000000000000000000000000000000000000000000000000000000000000000000000000000000000000000000000020 fm = true) (h0 : Keeps fm r0 s)  : Keeps fm r0 (takeSeq s) := by
  unfold takeSeq
  try lift_lets -underBinder
  with_reducible repeat' first | assumption | exact fpart (by decide +kernel) hfm | exact fle (by decide +kernel) hfm | exact fok (by decide +kernel) hfm | exact fall (by decide +kernel) hfm | exact fokIx (by decide +kernel) hfm | exact fokAll (by decide +kernel) hfm | refine Mask.ok_ite ?_ ?_ | refine faultsOf_ok ?_ ?_ | (intro a; clear_value a) | lift_lets -underBinder | apply bump_keeps | fail_if_no_progress (apply Keeps.upd <;> try first | exact Or.inr (fpart (by decide +kernel) hfm) | exact Or.inl rfl)

theorem createRec_keeps {fm : Nat} {r0 : State}  {s : State} {k : EvKey} {sev : Sev} {coalesced : Bool} {n : Nat} {detail : Nat} {ts : Nat} (hfm : Mask.le 0x10080000000000000000000000000000000000000000000000000000000000000000000000000000017c000000000000000000000000000000000000000000000000000000000800120 fm = true) (h0 : Keeps fm r0 s)  : Keeps fm r0 (createRec s k sev coalesced n detail ts) := by
  unfold createRec
  try lift_lets -underBinder
  with_reducible repeat' first | assumption | exact fpart (by decide +kernel) hfm | exact fle (by decide +kernel) hfm | exact fok (by decide +kernel) hfm | exact fall (by decide +kernel) hfm | exact fokIx (by decide +kernel) hfm | exact fokAll (by decide +kernel) hfm | refine Mask.ok_ite ?_ ?_ | refine faultsOf_ok ?_ ?_ | (intro a; refine (fun ha : Keeps fm r0 a => ?_) ?_; clear_value a; rotate_left; dsimp only [a]; rotate_right) | (intro a; clear_value a) | lift_lets -underBinder | apply Keeps.ite | apply takeSeq_keeps | apply offerAll_keeps | apply signalPme_keeps

theorem closeWindow_keeps {fm : Nat} {r0 : State}  {s : State} {w : EvWindow} {reopen : Bool} (hfm : Mask.le 0x10080000000000000000000000000000000000000000000000000000000000000000000000000000017c000000000000000000000000000000000000000000000000000000000800120 fm = true) (h0 : Keeps fm r0 s)  : Keeps fm r0 (closeWindow s w reopen) := by
  unfold closeWindow
  try lift_lets -underBinder
  with_reducible repeat' first | assumption | exact fpart (by decide +kernel) hfm | exact fle (by decide +kernel) hfm | exact fok (by decide +kernel) hfm | exact fall (by decide +kernel) hfm | exact fokIx (by decide +kernel) hfm | exact fokAll (by decide +kernel) hfm | refine Mask.ok_ite ?_ ?_ | refine faultsOf_ok ?_ ?_ | (intro a; refine (fun ha : Keeps fm r0 a => ?_) ?_; clear_value a; rotate_left; dsimp only [a]; rotate_right) | (intro a; clear_value a) | lift_lets -underBinder | apply Keeps.ite | apply createRec_keeps | split | fail_if_no_progress (apply Keeps.upd <;> try first | exact Or.inr (fpart (by decide +kernel) hfm) | exact Or.inl rfl)

theorem raise_keeps {fm : Nat} {r0 : State}  {s : State} {id : EvId} {sev : Sev} {kind : Nat} {inst : Nat} {detail : Nat} (hfm : Mask.le 0x30080000000000000000000000000000000000000000000000000000000000000000000000000000017c000000000000000000000000000000000000000000000000000000000800120 fm = true) (h0 : Keeps fm r0 s)  : Keeps fm r0 (raise s id sev kind inst detail) := by
  unfold raise
  try lift_lets -underBinder
  with_reducible repeat' first | assumption | exact fpart (by decide +kernel) hfm | exact fle (by decide +kernel) hfm | exact fok (by decide +kernel) hfm | exact fall (by decide +kernel) hfm | exact fokIx (by decide +kernel) hfm | exact fokAll (by decide +kernel) hfm | refine Mask.ok_ite ?_ ?_ | refine faultsOf_ok ?_ ?_ | (intro a; refine (fun ha : Keeps fm r0 a => ?_) ?_; clear_value a; rotate_left; dsimp only [a]; rotate_right) | (intro a; clear_value a) | lift_lets -underBinder | apply Keeps.ite | apply bump_keeps | apply closeWindow_keeps | apply createRec_keeps | fail_if_no_progress (apply Keeps.upd <;> try first | exact Or.inr (fpart (by decide +kernel) hfm) | exact Or.inl rfl) | split

theorem raiseOpen_keeps {fm : Nat} {r0 : State}  {s : State} {id : EvId} {sev : Sev} {kind : Nat} {inst : Nat} (hfm : Mask.le 0x30080000000000000000000000000000000000000000000000000000000000000000000000000000017c000000000000000000000000000000000000000000000000000000000800120 fm = true) (h0 : Keeps fm r0 s)  : Keeps fm r0 (raiseOpen s id sev kind inst) := by
  unfold raiseOpen
  with_reducible repeat' first | assumption | exact fpart (by decide +kernel) hfm | exact fle (by decide +kernel) hfm | exact fok (by decide +kernel) hfm | exact fall (by decide +kernel) hfm | exact fokIx (by decide +kernel) hfm | exact fokAll (by decide +kernel) hfm | refine Mask.ok_ite ?_ ?_ | refine faultsOf_ok ?_ ?_ | apply raise_keeps

theorem execCoalesceWindowClose_keeps {fm : Nat} {r0 : State}  {k : EvKey} {s : State} (hfm : Mask.le 0x10080000000000000000000000000000000000000000000000000000000000000000000000000000017c000000000000000000000000000000000000000000000000000000000800120 fm = true) (h0 : Keeps fm r0 s)  : ∃ t1, (execCoalesceWindowClose k s) = .next t1 ∧ Keeps fm r0 t1 := by
  refine ⟨_, rfl, ?_⟩
  with_reducible repeat' first | assumption | exact fpart (by decide +kernel) hfm | exact fle (by decide +kernel) hfm | exact fok (by decide +kernel) hfm | exact fall (by decide +kernel) hfm | exact fokIx (by decide +kernel) hfm | exact fokAll (by decide +kernel) hfm | refine Mask.ok_ite ?_ ?_ | refine faultsOf_ok ?_ ?_ | apply closeWindow_keeps | split

theorem execStormQuiet_keeps {fm : Nat} {r0 : State}  {p : Nat} {s : State} (hfm : Mask.le 0x1008000000000000000000000000000000000000000000000000000000000000000000000000000001fc000000000000000000000000000000000000000000000000000000000800120 fm = true) (h0 : Keeps fm r0 s)  : ∃ t1, (execStormQuiet p s) = .next t1 ∧ Keeps fm r0 t1 := by
  refine ⟨_, rfl, ?_⟩
  try lift_lets -underBinder
  with_reducible repeat' first | assumption | exact fpart (by decide +kernel) hfm | exact fle (by decide +kernel) hfm | exact fok (by decide +kernel) hfm | exact fall (by decide +kernel) hfm | exact fokIx (by decide +kernel) hfm | exact fokAll (by decide +kernel) hfm | refine Mask.ok_ite ?_ ?_ | refine faultsOf_ok ?_ ?_ | (intro a; refine (fun ha : Keeps fm r0 a => ?_) ?_; clear_value a; rotate_left; dsimp only [a]; rotate_right) | (intro a; clear_value a) | lift_lets -underBinder | apply Keeps.ite | apply takeSeq_keeps | apply bump_keeps | apply wrB_keeps | apply offer_keeps

theorem enableRing_keeps {fm : Nat} {r0 : State}  {f : Nat} {on : Bool} {s : State} (hfm : Mask.le 0x880000000000000000000000000000000000000000000000000000000000000000000000000000000000000000000000000000000000000000000000000000000000000000000020 fm = true) (h0 : Keeps fm r0 s)  : Keeps fm r0 (enableRing f on s) := by
  unfold enableRing
  try lift_lets -underBinder
  with_reducible repeat' first | assumption | exact fpart (by decide +kernel) hfm | exact fle (by decide +kernel) hfm | exact fok (by decide +kernel) hfm | exact fall (by decide +kernel) hfm | exact fokIx (by decide +kernel) hfm | exact fokAll (by decide +kernel) hfm | refine Mask.ok_ite ?_ ?_ | refine faultsOf_ok ?_ ?_ | (intro a; refine (fun ha : Keeps fm r0 a => ?_) ?_; clear_value a; rotate_left; dsimp only [a]; rotate_right) | (intro a; clear_value a) | lift_lets -underBinder | apply Keeps.ite | apply wr_keeps | apply wrB_keeps | fail_if_no_progress (apply Keeps.upd <;> try first | exact Or.inr (fpart (by decide +kernel) hfm) | exact Or.inl rfl)

theorem execEventRingEnable_keeps {fm : Nat} {r0 : State}  {f : Nat} {on : Bool} {s : State} (hfm : Mask.le 0x880000000000000000000000000000000000000000000000000000000000000000000000000000000000000000000000000000000000000000000000000000000000000000000020 fm = true) (h0 : Keeps fm r0 s)  : ∃ t1, (execEventRingEnable f on s) = .next t1 ∧ Keeps fm r0 t1 := by
  refine ⟨_, rfl, ?_⟩
  with_reducible repeat' first | assumption | exact fpart (by decide +kernel) hfm | exact fle (by decide +kernel) hfm | exact fok (by decide +kernel) hfm | exact fall (by decide +kernel) hfm | exact fokIx (by decide +kernel) hfm | exact fokAll (by decide +kernel) hfm | refine Mask.ok_ite ?_ ?_ | refine faultsOf_ok ?_ ?_ | apply Keeps.ite | apply enableRing_keeps

theorem execEventRingCoalesceTimeout_keeps {fm : Nat} {r0 : State}  {f : Nat} {s : State} (hfm : Mask.le 0x800120 fm = true) (h0 : Keeps fm r0 s)  : ∃ t1, (execEventRingCoalesceTimeout f s) = .next t1 ∧ Keeps fm r0 t1 := by
  refine ⟨_, rfl, ?_⟩
  with_reducible repeat' first | assumption | exact fpart (by decide +kernel) hfm | exact fle (by decide +kernel) hfm | exact fok (by decide +kernel) hfm | exact fall (by decide +kernel) hfm | exact fokIx (by decide +kernel) hfm | exact fokAll (by decide +kernel) hfm | refine Mask.ok_ite ?_ ?_ | refine faultsOf_ok ?_ ?_ | apply Keeps.ite | apply sendMsix_keeps | fail_if_no_progress (apply Keeps.upd <;> try first | exact Or.inr (fpart (by decide +kernel) hfm) | exact Or.inl rfl) | split

theorem subscribe_keeps {fm : Nat} {r0 : State}  {n : Nat} {v : Nat} {s : State} (hfm : Mask.le 0x800000000000000000000000000000000000000000000000000000000000020 fm = true) (h0 : Keeps fm r0 s)  : Keeps fm r0 (subscribe n v s) := by
  unfold subscribe
  try lift_lets -underBinder
  with_reducible repeat' first | assumption | exact fpart (by decide +kernel) hfm | exact fle (by decide +kernel) hfm | exact fok (by decide +kernel) hfm | exact fall (by decide +kernel) hfm | exact fokIx (by decide +kernel) hfm | exact fokAll (by decide +kernel) hfm | refine Mask.ok_ite ?_ ?_ | refine faultsOf_ok ?_ ?_ | (intro a; refine (fun ha : Keeps fm r0 a => ?_) ?_; clear_value a; rotate_left; dsimp only [a]; rotate_right) | (intro a; clear_value a) | lift_lets -underBinder | apply Keeps.ite | apply wr_keeps | fail_if_no_progress (apply Keeps.upd <;> try first | exact Or.inr (fpart (by decide +kernel) hfm) | exact Or.inl rfl)

theorem execSubscribe_keeps {fm : Nat} {r0 : State}  {n : Nat} {v : Nat} {s : State} (hfm : Mask.le 0x800000000000000000000000000000000000000000000000000000000000020 fm = true) (h0 : Keeps fm r0 s)  : ∃ t1, (execSubscribe n v s) = .next t1 ∧ Keeps fm r0 t1 := by
  refine ⟨_, rfl, ?_⟩
  with_reducible repeat' first | assumption | exact fpart (by decide +kernel) hfm | exact fle (by decide +kernel) hfm | exact fok (by decide +kernel) hfm | exact fall (by decide +kernel) hfm | exact fokIx (by decide +kernel) hfm | exact fokAll (by decide +kernel) hfm | refine Mask.ok_ite ?_ ?_ | refine faultsOf_ok ?_ ?_ | apply Keeps.ite | apply subscribe_keeps

theorem subFetch_keeps {fm : Nat} {r0 : State}  {s : State} {n : Nat} {len : Nat} (hfm : Mask.le 0x20 fm = true) (h0 : Keeps fm r0 s)  : Keeps fm r0 (subFetch s n len).2 := by
  unfold subFetch
  try lift_lets -underBinder
  with_reducible repeat' first | assumption | exact fpart (by decide +kernel) hfm | exact fle (by decide +kernel) hfm | exact fok (by decide +kernel) hfm | exact fall (by decide +kernel) hfm | exact fokIx (by decide +kernel) hfm | exact fokAll (by decide +kernel) hfm | refine Mask.ok_ite ?_ ?_ | refine faultsOf_ok ?_ ?_ | (intro a; clear_value a) | fail_if_no_progress (apply Keeps.upd <;> try first | exact Or.inr (fpart (by decide +kernel) hfm) | exact Or.inl rfl)

theorem execEventSubFetch_keeps {fm : Nat} {r0 : State}  {n : Nat} {len : Nat} {s : State} (hfm : Mask.le 0x800020 fm = true) (h0 : Keeps fm r0 s)  : ∃ t1, (execEventSubFetch n len s) = .next t1 ∧ Keeps fm r0 t1 := by
  refine ⟨_, rfl, ?_⟩
  try lift_lets -underBinder
  with_reducible repeat' first | assumption | exact fpart (by decide +kernel) hfm | exact fle (by decide +kernel) hfm | exact fok (by decide +kernel) hfm | exact fall (by decide +kernel) hfm | exact fokIx (by decide +kernel) hfm | exact fokAll (by decide +kernel) hfm | refine Mask.ok_ite ?_ ?_ | refine faultsOf_ok ?_ ?_ | (intro a; refine (fun ha : Keeps fm r0 a.2 => ?_) ?_; clear_value a; rotate_left; dsimp only [a]; rotate_right) | apply subFetch_keeps | apply emit_keeps

theorem eventStoreRead_keeps {fm : Nat} {r0 : State}  {s : State} {n : Nat} {len : Nat} (hfm : Mask.le 0x4000000000000000000000000000000000000000000000000000000000000000000000000000000000000000000000000000000000000000000000000000000000000000000000000000 fm = true) (h0 : Keeps fm r0 s)  : Keeps fm r0 (eventStoreRead s n len).2 := by
  unfold eventStoreRead
  try lift_lets -underBinder
  with_reducible repeat' first | assumption | exact fpart (by decide +kernel) hfm | exact fle (by decide +kernel) hfm | exact fok (by decide +kernel) hfm | exact fall (by decide +kernel) hfm | exact fokIx (by decide +kernel) hfm | exact fokAll (by decide +kernel) hfm | refine Mask.ok_ite ?_ ?_ | refine faultsOf_ok ?_ ?_ | (intro a; clear_value a) | apply wr_keeps

theorem alarmStoreRead_keeps {fm : Nat} {r0 : State}  {s : State} {n : Nat} {len : Nat} (hfm : Mask.le 0x10000000000000000000000000000000000000000000000000000000000000000000000000000000000000000000000000000000000000000000000000000000000000000000000000000 fm = true) (h0 : Keeps fm r0 s)  : Keeps fm r0 (alarmStoreRead s n len).2 := by
  unfold alarmStoreRead
  try lift_lets -underBinder
  with_reducible repeat' first | assumption | exact fpart (by decide +kernel) hfm | exact fle (by decide +kernel) hfm | exact fok (by decide +kernel) hfm | exact fall (by decide +kernel) hfm | exact fokIx (by decide +kernel) hfm | exact fokAll (by decide +kernel) hfm | refine Mask.ok_ite ?_ ?_ | refine faultsOf_ok ?_ ?_ | (intro a; clear_value a) | apply wr_keeps

theorem execEventStoreRead_keeps {fm : Nat} {r0 : State}  {n : Nat} {len : Nat} {s : State} (hfm : Mask.le 0x4000000000000000000000000000000000000000000000000000000000000000000000000000000000000000000000000000000000000000000000000000000000000000000000800000 fm = true) (h0 : Keeps fm r0 s)  : ∃ t1, (execEventStoreRead n len s) = .next t1 ∧ Keeps fm r0 t1 := by
  refine ⟨_, rfl, ?_⟩
  try lift_lets -underBinder
  with_reducible repeat' first | assumption | exact fpart (by decide +kernel) hfm | exact fle (by decide +kernel) hfm | exact fok (by decide +kernel) hfm | exact fall (by decide +kernel) hfm | exact fokIx (by decide +kernel) hfm | exact fokAll (by decide +kernel) hfm | refine Mask.ok_ite ?_ ?_ | refine faultsOf_ok ?_ ?_ | (intro a; refine (fun ha : Keeps fm r0 a.2 => ?_) ?_; clear_value a; rotate_left; dsimp only [a]; rotate_right) | apply eventStoreRead_keeps | apply emit_keeps

theorem execAlarmStoreRead_keeps {fm : Nat} {r0 : State}  {n : Nat} {len : Nat} {s : State} (hfm : Mask.le 0x10000000000000000000000000000000000000000000000000000000000000000000000000000000000000000000000000000000000000000000000000000000000000000000000800000 fm = true) (h0 : Keeps fm r0 s)  : ∃ t1, (execAlarmStoreRead n len s) = .next t1 ∧ Keeps fm r0 t1 := by
  refine ⟨_, rfl, ?_⟩
  try lift_lets -underBinder
  with_reducible repeat' first | assumption | exact fpart (by decide +kernel) hfm | exact fle (by decide +kernel) hfm | exact fok (by decide +kernel) hfm | exact fall (by decide +kernel) hfm | exact fokIx (by decide +kernel) hfm | exact fokAll (by decide +kernel) hfm | refine Mask.ok_ite ?_ ?_ | refine faultsOf_ok ?_ ?_ | (intro a; refine (fun ha : Keeps fm r0 a.2 => ?_) ?_; clear_value a; rotate_left; dsimp only [a]; rotate_right) | apply alarmStoreRead_keeps | apply emit_keeps

theorem clrIndex_keeps {fm : Nat} {r0 s : State} {i : Nat} (hm : Mask.okIx fm i = true) (h0 : Keeps fm r0 s) : Keeps fm r0 (clrIndex s i) := by
  unfold clrIndex
  refine Keeps.updRegs (rg := Tbl.filterK _ _) h0 (Tbl.wf_filterK _) id (fun k hk => Tbl.get_filterK _ _ ?_) (fun _ _ => rfl) (Or.inl ⟨rfl, rfl, rfl, rfl⟩)
  simpa using Mask.keeps_ix hm hk

theorem clrInst_keeps {fm : Nat} {r0 s : State} {i n : Nat} (hm : Mask.okIx fm i = true) (h0 : Keeps fm r0 s) : Keeps fm r0 (clrInst s i n) := by
  unfold clrInst
  refine Keeps.updRegs (rg := Tbl.filterK _ _) h0 (Tbl.wf_filterK _) id (fun k hk => Tbl.get_filterK _ _ ?_) (fun _ _ => rfl) (Or.inl ⟨rfl, rfl, rfl, rfl⟩)
  simpa using Mask.keeps_inst hm hk

theorem clrHist_keeps {fm : Nat} {r0 : State}  {s : State} {p : Nat → Bool} (hfm : Mask.le 0x20 fm = true) (h0 : Keeps fm r0 s)  : Keeps fm r0 (clrHist s p) := by
  unfold clrHist
  with_reducible repeat' first | assumption | exact fpart (by decide +kernel) hfm | exact fle (by decide +kernel) hfm | exact fok (by decide +kernel) hfm | exact fall (by decide +kernel) hfm | exact fokIx (by decide +kernel) hfm | exact fokAll (by decide +kernel) hfm | refine Mask.ok_ite ?_ ?_ | refine faultsOf_ok ?_ ?_ | fail_if_no_progress (apply Keeps.upd <;> try first | exact Or.inr (fpart (by decide +kernel) hfm) | exact Or.inl rfl)

theorem clearCounters_keeps {fm : Nat} {r0 : State}  {m : Nat} {s : State} (hfm : Mask.le 0x2000000000000000000000000000000000000fc0000000000000000000007ffff80000000000000000000000000000000000000000000000000000000000000000000000000000000000000000000020 fm = true) (h0 : Keeps fm r0 s)  : Keeps fm r0 (clearCounters m s) := by
  unfold clearCounters
  try lift_lets -underBinder
  with_reducible repeat' first | assumption | exact fpart (by decide +kernel) hfm | exact fle (by decide +kernel) hfm | exact fok (by decide +kernel) hfm | exact fall (by decide +kernel) hfm | exact fokIx (by decide +kernel) hfm | exact fokAll (by decide +kernel) hfm | refine Mask.ok_ite ?_ ?_ | refine faultsOf_ok ?_ ?_ | (intro a; refine (fun ha : Keeps fm r0 a => ?_) ?_; clear_value a; rotate_left; dsimp only [a]; rotate_right) | (intro a; clear_value a) | lift_lets -underBinder | apply Keeps.ite | apply clrHist_keeps | apply clrIndex_keeps | apply bump_keeps | fail_if_no_progress (apply Keeps.upd <;> try first | exact Or.inr (fpart (by decide +kernel) hfm) | exact Or.inl rfl)

theorem execCounterClear_keeps {fm : Nat} {r0 : State}  {m : Nat} {s : State} (hfm : Mask.le 0x2000000000000000000000000000000000000fc0000000000000000000007ffff80000000000000000000000000000000000000000000000000000000000000000000000000000000000000000000020 fm = true) (h0 : Keeps fm r0 s)  : ∃ t1, (execCounterClear m s) = .next t1 ∧ Keeps fm r0 t1 := by
  refine ⟨_, rfl, ?_⟩
  with_reducible repeat' first | assumption | exact fpart (by decide +kernel) hfm | exact fle (by decide +kernel) hfm | exact fok (by decide +kernel) hfm | exact fall (by decide +kernel) hfm | exact fokIx (by decide +kernel) hfm | exact fokAll (by decide +kernel) hfm | refine Mask.ok_ite ?_ ?_ | refine faultsOf_ok ?_ ?_ | apply Keeps.ite | apply clearCounters_keeps

/-! ## Operands -/

theorem hostScatter_keeps {fm : Nat} {r0 : State}  {s : State} {f : Nat} {descs : List Desc} {o : Nat} {b : Bytes} (hfm : Mask.le 0x800000 fm = true) (h0 : Keeps fm r0 s)  : Keeps fm r0 (hostScatter s f descs o b) := by
  unfold hostScatter
  with_reducible repeat' first | assumption | exact fpart (by decide +kernel) hfm | exact fle (by decide +kernel) hfm | exact fok (by decide +kernel) hfm | exact fall (by decide +kernel) hfm | exact fokIx (by decide +kernel) hfm | exact fokAll (by decide +kernel) hfm | refine Mask.ok_ite ?_ ?_ | refine faultsOf_ok ?_ ?_ | refine fun _ _ (_ : Keeps fm r0 _) => ?_ | apply emit_keeps | apply Keeps.foldl_fst

theorem hostGather_keeps {fm : Nat} {r0 : State}  {s : State} {f : Nat} {descs : List Desc} {o : Nat} {n : Nat} (hfm : Mask.le 0x800000 fm = true) (h0 : Keeps fm r0 s)  : Keeps fm r0 (hostGather s f descs o n) := by
  unfold hostGather
  with_reducible repeat' first | assumption | exact fpart (by decide +kernel) hfm | exact fle (by decide +kernel) hfm | exact fok (by decide +kernel) hfm | exact fall (by decide +kernel) hfm | exact fokIx (by decide +kernel) hfm | exact fokAll (by decide +kernel) hfm | refine Mask.ok_ite ?_ ?_ | refine faultsOf_ok ?_ ?_ | refine fun _ _ (_ : Keeps fm r0 _) => ?_ | apply emit_keeps | apply Keeps.forEach

/-! ## Lines -/

theorem touchLine_keeps {fm : Nat} {r0 : State}  {s : State} {x : LineOf} {write : Bool} (hfm : Mask.le 0x20000 fm = true) (h0 : Keeps fm r0 s)  : Keeps fm r0 (touchLine s x write) := by
  unfold touchLine
  with_reducible repeat' first
    | assumption
    | exact fpart (by decide +kernel) hfm
    | exact fle (by decide +kernel) hfm
    | exact fok (by decide +kernel) hfm
    | exact fall (by decide +kernel) hfm
    | exact fokIx (by decide +kernel) hfm
    | exact fokAll (by decide +kernel) hfm
    | refine Mask.ok_ite ?_ ?_
    | refine faultsOf_ok ?_ ?_
    | refine fun _ (_ : Keeps fm r0 _) => ?_
    | refine fun _ _ (_ : Keeps fm r0 _) => ?_
    | refine fun _ _ _ (_ : Keeps fm r0 _) => ?_
    | exact KeepsO.get rfl (by assumption)
    | exact KeepsP.get rfl (by assumption)
    | apply Keeps.ite
    | apply Keeps.forEach
    | apply Keeps.forRange
    | apply Keeps.foldl
    | apply Keeps.foldl_fst
    | apply Keeps.foldl_snd
    | exact KeepsO.none
    | exact KeepsP.none
    | apply KeepsO.some
    | apply KeepsP.some
    | apply KeepsO.ite
    | apply KeepsP.ite
    | refine KeepsO.foldl _ _ ?_ (fun _ _ _ => ?_)
    | exact KeepsF.lost
    | apply KeepsF.started
    | apply KeepsF.ite
    | fail_if_no_progress (apply Keeps.upd <;> try first | exact Or.inr (fpart (by decide +kernel) hfm) | exact Or.inl rfl)
    | fail_if_no_progress (apply Keeps.updDict <;> try first | exact Or.inr (fpart (by decide +kernel) hfm) | exact Or.inl rfl)
    | refine Keeps.updRegs (rg := Tbl.filterK _ _) ?_ (Tbl.wf_filterK _) (Tbl.wf_filterK _)
    | refine Keeps.updRegs (rg := Tbl.filterK _ _) ?_ (Tbl.wf_filterK _) id
    | split
    | refine Keeps.of_snd (by assumption) ?_
    | refine Keeps.of_fst (by assumption) ?_
    | refine KeepsO.get (by assumption) ?_
    | refine KeepsP.get (by assumption) ?_
    | refine KeepsF.get (by assumption) ?_

theorem touchMap_keeps {fm : Nat} {r0 : State}  {s : State} {key : Nat} {write : Bool} (hfm : Mask.le 0x20000 fm = true) (h0 : Keeps fm r0 s)  : Keeps fm r0 (touchMap s key write) := by
  unfold touchMap
  with_reducible repeat' first
    | assumption
    | exact fpart (by decide +kernel) hfm
    | exact fle (by decide +kernel) hfm
    | exact fok (by decide +kernel) hfm
    | exact fall (by decide +kernel) hfm
    | exact fokIx (by decide +kernel) hfm
    | exact fokAll (by decide +kernel) hfm
    | refine Mask.ok_ite ?_ ?_
    | refine faultsOf_ok ?_ ?_
    | refine fun _ (_ : Keeps fm r0 _) => ?_
    | refine fun _ _ (_ : Keeps fm r0 _) => ?_
    | refine fun _ _ _ (_ : Keeps fm r0 _) => ?_
    | exact KeepsO.get rfl (by assumption)
    | exact KeepsP.get rfl (by assumption)
    | apply Keeps.ite
    | apply touchLine_keeps
    | apply Keeps.forEach
    | apply Keeps.forRange
    | apply Keeps.foldl
    | apply Keeps.foldl_fst
    | apply Keeps.foldl_snd
    | exact KeepsO.none
    | exact KeepsP.none
    | apply KeepsO.some
    | apply KeepsP.some
    | apply KeepsO.ite
    | apply KeepsP.ite
    | refine KeepsO.foldl _ _ ?_ (fun _ _ _ => ?_)
    | exact KeepsF.lost
    | apply KeepsF.started
    | apply KeepsF.ite
    | fail_if_no_progress (apply Keeps.upd <;> try first | exact Or.inr (fpart (by decide +kernel) hfm) | exact Or.inl rfl)
    | fail_if_no_progress (apply Keeps.updDict <;> try first | exact Or.inr (fpart (by decide +kernel) hfm) | exact Or.inl rfl)
    | refine Keeps.updRegs (rg := Tbl.filterK _ _) ?_ (Tbl.wf_filterK _) (Tbl.wf_filterK _)
    | refine Keeps.updRegs (rg := Tbl.filterK _ _) ?_ (Tbl.wf_filterK _) id
    | split
    | refine Keeps.of_snd (by assumption) ?_
    | refine Keeps.of_fst (by assumption) ?_
    | refine KeepsO.get (by assumption) ?_
    | refine KeepsP.get (by assumption) ?_
    | refine KeepsF.get (by assumption) ?_

theorem touchDir_keeps {fm : Nat} {r0 : State}  {s : State} {leaf : Nat} {write : Bool} (hfm : Mask.le 0x20000 fm = true) (h0 : Keeps fm r0 s)  : Keeps fm r0 (touchDir s leaf write) := by
  unfold touchDir
  with_reducible repeat' first
    | assumption
    | exact fpart (by decide +kernel) hfm
    | exact fle (by decide +kernel) hfm
    | exact fok (by decide +kernel) hfm
    | exact fall (by decide +kernel) hfm
    | exact fokIx (by decide +kernel) hfm
    | exact fokAll (by decide +kernel) hfm
    | refine Mask.ok_ite ?_ ?_
    | refine faultsOf_ok ?_ ?_
    | refine fun _ (_ : Keeps fm r0 _) => ?_
    | refine fun _ _ (_ : Keeps fm r0 _) => ?_
    | refine fun _ _ _ (_ : Keeps fm r0 _) => ?_
    | exact KeepsO.get rfl (by assumption)
    | exact KeepsP.get rfl (by assumption)
    | apply Keeps.ite
    | apply touchLine_keeps
    | apply Keeps.forEach
    | apply Keeps.forRange
    | apply Keeps.foldl
    | apply Keeps.foldl_fst
    | apply Keeps.foldl_snd
    | exact KeepsO.none
    | exact KeepsP.none
    | apply KeepsO.some
    | apply KeepsP.some
    | apply KeepsO.ite
    | apply KeepsP.ite
    | refine KeepsO.foldl _ _ ?_ (fun _ _ _ => ?_)
    | exact KeepsF.lost
    | apply KeepsF.started
    | apply KeepsF.ite
    | fail_if_no_progress (apply Keeps.upd <;> try first | exact Or.inr (fpart (by decide +kernel) hfm) | exact Or.inl rfl)
    | fail_if_no_progress (apply Keeps.updDict <;> try first | exact Or.inr (fpart (by decide +kernel) hfm) | exact Or.inl rfl)
    | refine Keeps.updRegs (rg := Tbl.filterK _ _) ?_ (Tbl.wf_filterK _) (Tbl.wf_filterK _)
    | refine Keeps.updRegs (rg := Tbl.filterK _ _) ?_ (Tbl.wf_filterK _) id
    | split
    | refine Keeps.of_snd (by assumption) ?_
    | refine Keeps.of_fst (by assumption) ?_
    | refine KeepsO.get (by assumption) ?_
    | refine KeepsP.get (by assumption) ?_
    | refine KeepsF.get (by assumption) ?_

theorem touchDesc_keeps {fm : Nat} {r0 : State}  {s : State} {n : Nat} (hfm : Mask.le 0x20000 fm = true) (h0 : Keeps fm r0 s)  : Keeps fm r0 (touchDesc s n) := by
  unfold touchDesc
  with_reducible repeat' first
    | assumption
    | exact fpart (by decide +kernel) hfm
    | exact fle (by decide +kernel) hfm
    | exact fok (by decide +kernel) hfm
    | exact fall (by decide +kernel) hfm
    | exact fokIx (by decide +kernel) hfm
    | exact fokAll (by decide +kernel) hfm
    | refine Mask.ok_ite ?_ ?_
    | refine faultsOf_ok ?_ ?_
    | refine fun _ (_ : Keeps fm r0 _) => ?_
    | refine fun _ _ (_ : Keeps fm r0 _) => ?_
    | refine fun _ _ _ (_ : Keeps fm r0 _) => ?_
    | exact KeepsO.get rfl (by assumption)
    | exact KeepsP.get rfl (by assumption)
    | apply Keeps.ite
    | apply touchLine_keeps
    | apply Keeps.forEach
    | apply Keeps.forRange
    | apply Keeps.foldl
    | apply Keeps.foldl_fst
    | apply Keeps.foldl_snd
    | exact KeepsO.none
    | exact KeepsP.none
    | apply KeepsO.some
    | apply KeepsP.some
    | apply KeepsO.ite
    | apply KeepsP.ite
    | refine KeepsO.foldl _ _ ?_ (fun _ _ _ => ?_)
    | exact KeepsF.lost
    | apply KeepsF.started
    | apply KeepsF.ite
    | fail_if_no_progress (apply Keeps.upd <;> try first | exact Or.inr (fpart (by decide +kernel) hfm) | exact Or.inl rfl)
    | fail_if_no_progress (apply Keeps.updDict <;> try first | exact Or.inr (fpart (by decide +kernel) hfm) | exact Or.inl rfl)
    | refine Keeps.updRegs (rg := Tbl.filterK _ _) ?_ (Tbl.wf_filterK _) (Tbl.wf_filterK _)
    | refine Keeps.updRegs (rg := Tbl.filterK _ _) ?_ (Tbl.wf_filterK _) id
    | split
    | refine Keeps.of_snd (by assumption) ?_
    | refine Keeps.of_fst (by assumption) ?_
    | refine KeepsO.get (by assumption) ?_
    | refine KeepsP.get (by assumption) ?_
    | refine KeepsF.get (by assumption) ?_

theorem cleanLines_keeps {fm : Nat} {r0 : State}  {s : State} {f : Nat → Bool} (hfm : Mask.le 0x20000 fm = true) (h0 : Keeps fm r0 s)  : Keeps fm r0 (cleanLines s f) := by
  unfold cleanLines
  with_reducible repeat' first
    | assumption
    | exact fpart (by decide +kernel) hfm
    | exact fle (by decide +kernel) hfm
    | exact fok (by decide +kernel) hfm
    | exact fall (by decide +kernel) hfm
    | exact fokIx (by decide +kernel) hfm
    | exact fokAll (by decide +kernel) hfm
    | refine Mask.ok_ite ?_ ?_
    | refine faultsOf_ok ?_ ?_
    | refine fun _ (_ : Keeps fm r0 _) => ?_
    | refine fun _ _ (_ : Keeps fm r0 _) => ?_
    | refine fun _ _ _ (_ : Keeps fm r0 _) => ?_
    | exact KeepsO.get rfl (by assumption)
    | exact KeepsP.get rfl (by assumption)
    | apply Keeps.ite
    | apply Keeps.forEach
    | apply Keeps.forRange
    | apply Keeps.foldl
    | apply Keeps.foldl_fst
    | apply Keeps.foldl_snd
    | exact KeepsO.none
    | exact KeepsP.none
    | apply KeepsO.some
    | apply KeepsP.some
    | apply KeepsO.ite
    | apply KeepsP.ite
    | refine KeepsO.foldl _ _ ?_ (fun _ _ _ => ?_)
    | exact KeepsF.lost
    | apply KeepsF.started
    | apply KeepsF.ite
    | fail_if_no_progress (apply Keeps.upd <;> try first | exact Or.inr (fpart (by decide +kernel) hfm) | exact Or.inl rfl)
    | fail_if_no_progress (apply Keeps.updDict <;> try first | exact Or.inr (fpart (by decide +kernel) hfm) | exact Or.inl rfl)
    | refine Keeps.updRegs (rg := Tbl.filterK _ _) ?_ (Tbl.wf_filterK _) (Tbl.wf_filterK _)
    | refine Keeps.updRegs (rg := Tbl.filterK _ _) ?_ (Tbl.wf_filterK _) id
    | split
    | refine Keeps.of_snd (by assumption) ?_
    | refine Keeps.of_fst (by assumption) ?_
    | refine KeepsO.get (by assumption) ?_
    | refine KeepsP.get (by assumption) ?_
    | refine KeepsF.get (by assumption) ?_

theorem dropLines_keeps {fm : Nat} {r0 : State}  {s : State} {f : Nat → Bool} (hfm : Mask.le 0x20000 fm = true) (h0 : Keeps fm r0 s)  : Keeps fm r0 (dropLines s f) := by
  unfold dropLines
  with_reducible repeat' first
    | assumption
    | exact fpart (by decide +kernel) hfm
    | exact fle (by decide +kernel) hfm
    | exact fok (by decide +kernel) hfm
    | exact fall (by decide +kernel) hfm
    | exact fokIx (by decide +kernel) hfm
    | exact fokAll (by decide +kernel) hfm
    | refine Mask.ok_ite ?_ ?_
    | refine faultsOf_ok ?_ ?_
    | refine fun _ (_ : Keeps fm r0 _) => ?_
    | refine fun _ _ (_ : Keeps fm r0 _) => ?_
    | refine fun _ _ _ (_ : Keeps fm r0 _) => ?_
    | exact KeepsO.get rfl (by assumption)
    | exact KeepsP.get rfl (by assumption)
    | apply Keeps.ite
    | apply Keeps.forEach
    | apply Keeps.forRange
    | apply Keeps.foldl
    | apply Keeps.foldl_fst
    | apply Keeps.foldl_snd
    | exact KeepsO.none
    | exact KeepsP.none
    | apply KeepsO.some
    | apply KeepsP.some
    | apply KeepsO.ite
    | apply KeepsP.ite
    | refine KeepsO.foldl _ _ ?_ (fun _ _ _ => ?_)
    | exact KeepsF.lost
    | apply KeepsF.started
    | apply KeepsF.ite
    | fail_if_no_progress (apply Keeps.upd <;> try first | exact Or.inr (fpart (by decide +kernel) hfm) | exact Or.inl rfl)
    | fail_if_no_progress (apply Keeps.updDict <;> try first | exact Or.inr (fpart (by decide +kernel) hfm) | exact Or.inl rfl)
    | refine Keeps.updRegs (rg := Tbl.filterK _ _) ?_ (Tbl.wf_filterK _) (Tbl.wf_filterK _)
    | refine Keeps.updRegs (rg := Tbl.filterK _ _) ?_ (Tbl.wf_filterK _) id
    | split
    | refine Keeps.of_snd (by assumption) ?_
    | refine Keeps.of_fst (by assumption) ?_
    | refine KeepsO.get (by assumption) ?_
    | refine KeepsP.get (by assumption) ?_
    | refine KeepsF.get (by assumption) ?_

theorem settleLines_keeps {fm : Nat} {r0 : State}  {s : State} (hfm : Mask.le 0x20000 fm = true) (h0 : Keeps fm r0 s)  : Keeps fm r0 (settleLines s) := by
  unfold settleLines
  with_reducible repeat' first
    | assumption
    | exact fpart (by decide +kernel) hfm
    | exact fle (by decide +kernel) hfm
    | exact fok (by decide +kernel) hfm
    | exact fall (by decide +kernel) hfm
    | exact fokIx (by decide +kernel) hfm
    | exact fokAll (by decide +kernel) hfm
    | refine Mask.ok_ite ?_ ?_
    | refine faultsOf_ok ?_ ?_
    | refine fun _ (_ : Keeps fm r0 _) => ?_
    | refine fun _ _ (_ : Keeps fm r0 _) => ?_
    | refine fun _ _ _ (_ : Keeps fm r0 _) => ?_
    | exact KeepsO.get rfl (by assumption)
    | exact KeepsP.get rfl (by assumption)
    | apply Keeps.ite
    | apply dropLines_keeps
    | apply Keeps.forEach
    | apply Keeps.forRange
    | apply Keeps.foldl
    | apply Keeps.foldl_fst
    | apply Keeps.foldl_snd
    | exact KeepsO.none
    | exact KeepsP.none
    | apply KeepsO.some
    | apply KeepsP.some
    | apply KeepsO.ite
    | apply KeepsP.ite
    | refine KeepsO.foldl _ _ ?_ (fun _ _ _ => ?_)
    | exact KeepsF.lost
    | apply KeepsF.started
    | apply KeepsF.ite
    | fail_if_no_progress (apply Keeps.upd <;> try first | exact Or.inr (fpart (by decide +kernel) hfm) | exact Or.inl rfl)
    | fail_if_no_progress (apply Keeps.updDict <;> try first | exact Or.inr (fpart (by decide +kernel) hfm) | exact Or.inl rfl)
    | refine Keeps.updRegs (rg := Tbl.filterK _ _) ?_ (Tbl.wf_filterK _) (Tbl.wf_filterK _)
    | refine Keeps.updRegs (rg := Tbl.filterK _ _) ?_ (Tbl.wf_filterK _) id
    | split
    | refine Keeps.of_snd (by assumption) ?_
    | refine Keeps.of_fst (by assumption) ?_
    | refine KeepsO.get (by assumption) ?_
    | refine KeepsP.get (by assumption) ?_
    | refine KeepsF.get (by assumption) ?_

/-! ## Queue -/

theorem setQp_keeps {fm : Nat} {r0 : State}  {s : State} {q : Nat} {x : Qp} (hfm : Mask.le 0x40 fm = true) (h0 : Keeps fm r0 s)  : Keeps fm r0 (setQp s q x) := by
  unfold setQp
  with_reducible repeat' first | assumption | exact fpart (by decide +kernel) hfm | exact fle (by decide +kernel) hfm | exact fok (by decide +kernel) hfm | exact fall (by decide +kernel) hfm | exact fokIx (by decide +kernel) hfm | exact fokAll (by decide +kernel) hfm | refine Mask.ok_ite ?_ ?_ | refine faultsOf_ok ?_ ?_ | fail_if_no_progress (apply Keeps.upd <;> try first | exact Or.inr (fpart (by decide +kernel) hfm) | exact Or.inl rfl)

theorem modQp_keeps {fm : Nat} {r0 : State}  {s : State} {q : Nat} {f : Qp → Qp} (hfm : Mask.le 0x40 fm = true) (h0 : Keeps fm r0 s)  : Keeps fm r0 (modQp s q f) := by
  unfold modQp
  with_reducible repeat' first | assumption | exact fpart (by decide +kernel) hfm | exact fle (by decide +kernel) hfm | exact fok (by decide +kernel) hfm | exact fall (by decide +kernel) hfm | exact fokIx (by decide +kernel) hfm | exact fokAll (by decide +kernel) hfm | refine Mask.ok_ite ?_ ?_ | refine faultsOf_ok ?_ ?_ | apply setQp_keeps

theorem buildCpl_keeps {fm : Nat} {r0 : State}  {s : State} {q : Nat} {c : Cpl} (hfm : Mask.le 0xc0 fm = true) (h0 : Keeps fm r0 s)  : Keeps fm r0 (buildCpl s q c) := by
  unfold buildCpl
  try lift_lets -underBinder
  with_reducible repeat' first | assumption | exact fpart (by decide +kernel) hfm | exact fle (by decide +kernel) hfm | exact fok (by decide +kernel) hfm | exact fall (by decide +kernel) hfm | exact fokIx (by decide +kernel) hfm | exact fokAll (by decide +kernel) hfm | refine Mask.ok_ite ?_ ?_ | refine faultsOf_ok ?_ ?_ | (intro a; refine (fun ha : Keeps fm r0 a => ?_) ?_; clear_value a; rotate_left; dsimp only [a]; rotate_right) | (intro a; clear_value a) | apply modQp_keeps | fail_if_no_progress (apply Keeps.upd <;> try first | exact Or.inr (fpart (by decide +kernel) hfm) | exact Or.inl rfl)

theorem dropCmd_keeps {fm : Nat} {r0 : State}  {s : State} {q : Nat} {tag : Nat} (hfm : Mask.le 0x40 fm = true) (h0 : Keeps fm r0 s)  : Keeps fm r0 (dropCmd s q tag) := by
  unfold dropCmd
  with_reducible repeat' first | assumption | exact fpart (by decide +kernel) hfm | exact fle (by decide +kernel) hfm | exact fok (by decide +kernel) hfm | exact fall (by decide +kernel) hfm | exact fokIx (by decide +kernel) hfm | exact fokAll (by decide +kernel) hfm | refine Mask.ok_ite ?_ ?_ | refine faultsOf_ok ?_ ?_ | apply modQp_keeps

theorem finishWith_keeps {fm : Nat} {r0 : State}  {s : State} {q : Nat} {c : Cmd} {e : Cpl} (hfm : Mask.le 0xc0 fm = true) (h0 : Keeps fm r0 s)  : Keeps fm r0 (finishWith s q c e) := by
  unfold finishWith
  with_reducible repeat' first | assumption | exact fpart (by decide +kernel) hfm | exact fle (by decide +kernel) hfm | exact fok (by decide +kernel) hfm | exact fall (by decide +kernel) hfm | exact fokIx (by decide +kernel) hfm | exact fokAll (by decide +kernel) hfm | refine Mask.ok_ite ?_ ?_ | refine faultsOf_ok ?_ ?_ | apply buildCpl_keeps | apply dropCmd_keeps

theorem finish_keeps {fm : Nat} {r0 : State}  {s : State} {q : Nat} {c : Cmd} {status : Nat} {result : Nat} (hfm : Mask.le 0xc0 fm = true) (h0 : Keeps fm r0 s)  : Keeps fm r0 (finish s q c status result) := by
  unfold finish
  with_reducible repeat' first | assumption | exact fpart (by decide +kernel) hfm | exact fle (by decide +kernel) hfm | exact fok (by decide +kernel) hfm | exact fall (by decide +kernel) hfm | exact fokIx (by decide +kernel) hfm | exact fokAll (by decide +kernel) hfm | refine Mask.ok_ite ?_ ?_ | refine faultsOf_ok ?_ ?_ | apply finishWith_keeps

theorem modCmd_keeps {fm : Nat} {r0 : State}  {s : State} {q : Nat} {tag : Nat} {f : Cmd → Cmd} (hfm : Mask.le 0x40 fm = true) (h0 : Keeps fm r0 s)  : Keeps fm r0 (modCmd s q tag f) := by
  unfold modCmd
  with_reducible repeat' first | assumption | exact fpart (by decide +kernel) hfm | exact fle (by decide +kernel) hfm | exact fok (by decide +kernel) hfm | exact fall (by decide +kernel) hfm | exact fokIx (by decide +kernel) hfm | exact fokAll (by decide +kernel) hfm | refine Mask.ok_ite ?_ ?_ | refine faultsOf_ok ?_ ?_ | apply modQp_keeps

theorem countCpl_keeps {fm : Nat} {r0 : State}  {s : State} {q : Nat} {c : Cpl} (hfm : Mask.le 0x3c0000000000000000000001fe7f80000000000000000000000000000000001000000000000000000000000000000000000000000000000000000000020 fm = true) (h0 : Keeps fm r0 s)  : Keeps fm r0 (countCpl s q c) := by
  unfold countCpl
  try lift_lets -underBinder
  with_reducible repeat' first | assumption | exact fpart (by decide +kernel) hfm | exact fle (by decide +kernel) hfm | exact fok (by decide +kernel) hfm | exact fall (by decide +kernel) hfm | exact fokIx (by decide +kernel) hfm | exact fokAll (by decide +kernel) hfm | refine Mask.ok_ite ?_ ?_ | refine faultsOf_ok ?_ ?_ | (intro a; refine (fun ha : Keeps fm r0 a => ?_) ?_; clear_value a; rotate_left; dsimp only [a]; rotate_right) | (intro a; clear_value a) | lift_lets -underBinder | apply Keeps.ite | apply count_keeps | apply countHist_keeps | apply bump_keeps

theorem signalCr_keeps {fm : Nat} {r0 : State}  {s : State} {q : Nat} (hfm : Mask.le 0x800140 fm = true) (h0 : Keeps fm r0 s)  : Keeps fm r0 (signalCr s q) := by
  unfold signalCr
  with_reducible repeat' first | assumption | exact fpart (by decide +kernel) hfm | exact fle (by decide +kernel) hfm | exact fok (by decide +kernel) hfm | exact fall (by decide +kernel) hfm | exact fokIx (by decide +kernel) hfm | exact fokAll (by decide +kernel) hfm | refine Mask.ok_ite ?_ ?_ | refine faultsOf_ok ?_ ?_ | apply sendMsix_keeps | apply modQp_keeps

theorem cplWrites_keeps {fm : Nat} {r0 : State}  {s : State} {q : Nat} {seq : Nat} {c : Cpl} (hfm : Mask.le 0x800000 fm = true) (h0 : Keeps fm r0 s)  : Keeps fm r0 (cplWrites s q seq c) := by
  unfold cplWrites
  try lift_lets -underBinder
  with_reducible repeat' first | assumption | exact fpart (by decide +kernel) hfm | exact fle (by decide +kernel) hfm | exact fok (by decide +kernel) hfm | exact fall (by decide +kernel) hfm | exact fokIx (by decide +kernel) hfm | exact fokAll (by decide +kernel) hfm | refine Mask.ok_ite ?_ ?_ | refine faultsOf_ok ?_ ?_ | (intro a; clear_value a) | lift_lets -underBinder | apply Keeps.ite | apply emit_keeps

theorem recordOutcome_keeps {fm : Nat} {r0 : State}  {s : State} {q : Nat} {c : Cpl} (hfm : Mask.le 0x8000000000000000000000040 fm = true) (h0 : Keeps fm r0 s)  : Keeps fm r0 (recordOutcome s q c) := by
  unfold recordOutcome
  with_reducible repeat' first | assumption | exact fpart (by decide +kernel) hfm | exact fle (by decide +kernel) hfm | exact fok (by decide +kernel) hfm | exact fall (by decide +kernel) hfm | exact fokIx (by decide +kernel) hfm | exact fokAll (by decide +kernel) hfm | refine Mask.ok_ite ?_ ?_ | refine faultsOf_ok ?_ ?_ | apply bump_keeps | apply modQp_keeps

theorem recordAll_keeps {fm : Nat} {r0 : State}  {s : State} {q : Nat} (hfm : Mask.le 0x8000000000000000000000040 fm = true) (h0 : Keeps fm r0 s)  : Keeps fm r0 (recordAll s q) := by
  unfold recordAll
  try lift_lets -underBinder
  with_reducible repeat' first | assumption | exact fpart (by decide +kernel) hfm | exact fle (by decide +kernel) hfm | exact fok (by decide +kernel) hfm | exact fall (by decide +kernel) hfm | exact fokIx (by decide +kernel) hfm | exact fokAll (by decide +kernel) hfm | refine Mask.ok_ite ?_ ?_ | refine faultsOf_ok ?_ ?_ | refine fun _ _ (_ : Keeps fm r0 _) => ?_ | (intro a; clear_value a) | lift_lets -underBinder | apply recordOutcome_keeps | apply modQp_keeps | apply Keeps.forEach

theorem ackSlots_keeps {fm : Nat} {r0 : State}  {s : State} {l : List Nat} (hfm : Mask.le 0x20800 fm = true) (h0 : Keeps fm r0 s)  : Keeps fm r0 (ackSlots s l) := by
  unfold ackSlots
  with_reducible repeat' first | assumption | exact fpart (by decide +kernel) hfm | exact fle (by decide +kernel) hfm | exact fok (by decide +kernel) hfm | exact fall (by decide +kernel) hfm | exact fokIx (by decide +kernel) hfm | exact fokAll (by decide +kernel) hfm | refine Mask.ok_ite ?_ ?_ | refine faultsOf_ok ?_ ?_ | refine fun _ _ (_ : Keeps fm r0 _) => ?_ | apply touchDesc_keeps | apply Keeps.forEach | fail_if_no_progress (apply Keeps.upd <;> try first | exact Or.inr (fpart (by decide +kernel) hfm) | exact Or.inl rfl)

theorem settleReset_keeps {fm : Nat} {r0 : State}  {s : State} {q : Nat} (hfm : Mask.le 0x400000000000000000c0 fm = true) (h0 : Keeps fm r0 s)  : Keeps fm r0 (settleReset s q) := by
  unfold settleReset
  try lift_lets -underBinder
  with_reducible repeat' first | assumption | exact fpart (by decide +kernel) hfm | exact fle (by decide +kernel) hfm | exact fok (by decide +kernel) hfm | exact fall (by decide +kernel) hfm | exact fokIx (by decide +kernel) hfm | exact fokAll (by decide +kernel) hfm | refine Mask.ok_ite ?_ ?_ | refine faultsOf_ok ?_ ?_ | (intro a; refine (fun ha : Keeps fm r0 a => ?_) ?_; clear_value a; rotate_left; dsimp only [a]; rotate_right) | (intro a; clear_value a) | lift_lets -underBinder | apply Keeps.ite | apply wr_keeps | apply setQp_keeps | apply finish_keeps | split

theorem writeHead_keeps {fm : Nat} {r0 : State}  {s : State} {q : Nat} (hfm : Mask.le 0x3c0000000000000000000001fe7f800000000000000000000000000000000010000000000000000000000000000000000081000400000000000008209e0 fm = true) (h0 : Keeps fm r0 s)  : Keeps fm r0 (writeHead s q) := by
  unfold writeHead
  try lift_lets -underBinder
  with_reducible repeat' first | assumption | exact fpart (by decide +kernel) hfm | exact fle (by decide +kernel) hfm | exact fok (by decide +kernel) hfm | exact fall (by decide +kernel) hfm | exact fokIx (by decide +kernel) hfm | exact fokAll (by decide +kernel) hfm | refine Mask.ok_ite ?_ ?_ | refine faultsOf_ok ?_ ?_ | (intro a; refine (fun ha : Keeps fm r0 a => ?_) ?_; clear_value a; rotate_left; dsimp only [a]; rotate_right) | (intro a; clear_value a) | lift_lets -underBinder | apply Keeps.ite | apply ackSlots_keeps | apply wr_keeps | apply countCpl_keeps | apply cplWrites_keeps | apply modQp_keeps | apply settleReset_keeps | apply signalCr_keeps | apply recordAll_keeps | split

theorem execCompletionWrite_keeps {fm : Nat} {r0 : State}  {q : Nat} {s : State} (hfm : Mask.le 0x3c0000000000000000000001fe7f800000000000000000000000000000000010000000000000000000000000000000000081000400000000000008209e0 fm = true) (h0 : Keeps fm r0 s)  : ∃ t1, (execCompletionWrite q s) = .next t1 ∧ Keeps fm r0 t1 := by
  refine ⟨_, rfl, ?_⟩
  with_reducible repeat' first | assumption | exact fpart (by decide +kernel) hfm | exact fle (by decide +kernel) hfm | exact fok (by decide +kernel) hfm | exact fall (by decide +kernel) hfm | exact fokIx (by decide +kernel) hfm | exact fokAll (by decide +kernel) hfm | refine Mask.ok_ite ?_ ?_ | refine faultsOf_ok ?_ ?_ | apply writeHead_keeps

theorem execMsixCoalesceTimeout_keeps {fm : Nat} {r0 : State}  {q : Nat} {s : State} (hfm : Mask.le 0x800140 fm = true) (h0 : Keeps fm r0 s)  : ∃ t1, (execMsixCoalesceTimeout q s) = .next t1 ∧ Keeps fm r0 t1 := by
  refine ⟨_, rfl, ?_⟩
  with_reducible repeat' first | assumption | exact fpart (by decide +kernel) hfm | exact fle (by decide +kernel) hfm | exact fok (by decide +kernel) hfm | exact fall (by decide +kernel) hfm | exact fokIx (by decide +kernel) hfm | exact fokAll (by decide +kernel) hfm | refine Mask.ok_ite ?_ ?_ | refine faultsOf_ok ?_ ?_ | apply Keeps.ite | apply signalCr_keeps

theorem execCrRelease_keeps {fm : Nat} {r0 : State}  {q : Nat} {v : BitVec 32} {s : State} (hfm : Mask.le 0x200200000000000000000000040 fm = true) (h0 : Keeps fm r0 s)  : ∃ t1, (execCrRelease q v s) = .next t1 ∧ Keeps fm r0 t1 := by
  refine ⟨_, rfl, ?_⟩
  try lift_lets -underBinder
  with_reducible repeat' first | assumption | exact fpart (by decide +kernel) hfm | exact fle (by decide +kernel) hfm | exact fok (by decide +kernel) hfm | exact fall (by decide +kernel) hfm | exact fokIx (by decide +kernel) hfm | exact fokAll (by decide +kernel) hfm | refine Mask.ok_ite ?_ ?_ | refine faultsOf_ok ?_ ?_ | (intro a; clear_value a) | lift_lets -underBinder | apply Keeps.ite | apply bump_keeps | apply modQp_keeps | apply wr_keeps

theorem freeNextSlot_keeps {fm : Nat} {r0 : State}  {s : State} {q : Nat} (hfm : Mask.le 0x40 fm = true) (h0 : Keeps fm r0 s)  : Keeps fm r0 (freeNextSlot s q) := by
  unfold freeNextSlot
  try lift_lets -underBinder
  with_reducible repeat' first | assumption | exact fpart (by decide +kernel) hfm | exact fle (by decide +kernel) hfm | exact fok (by decide +kernel) hfm | exact fall (by decide +kernel) hfm | exact fokIx (by decide +kernel) hfm | exact fokAll (by decide +kernel) hfm | refine Mask.ok_ite ?_ ?_ | refine faultsOf_ok ?_ ?_ | (intro a; clear_value a) | apply modQp_keeps

theorem haltQp_keeps {fm : Nat} {r0 : State}  {s : State} {q : Nat} {cause : Nat} (hfm : Mask.le 0x30080000000000000000000000000000000000000000000000000000000000000000000000000000017c000000000000000000000000000000000000000800040000000000000800160 fm = true) (h0 : Keeps fm r0 s)  : Keeps fm r0 (haltQp s q cause) := by
  unfold haltQp
  try lift_lets -underBinder
  with_reducible repeat' first | assumption | exact fpart (by decide +kernel) hfm | exact fle (by decide +kernel) hfm | exact fok (by decide +kernel) hfm | exact fall (by decide +kernel) hfm | exact fokIx (by decide +kernel) hfm | exact fokAll (by decide +kernel) hfm | refine Mask.ok_ite ?_ ?_ | refine faultsOf_ok ?_ ?_ | (intro a; refine (fun ha : Keeps fm r0 a => ?_) ?_; clear_value a; rotate_left; dsimp only [a]; rotate_right) | lift_lets -underBinder | apply Keeps.ite | apply modQp_keeps | apply wr_keeps | apply raiseOpen_keeps

theorem execCrSlotPoll_keeps {fm : Nat} {r0 : State}  {q : Nat} {own : Bool} {err : Bool} {s : State} (hfm : Mask.le 0x30080000000000000000000000000000000000000000000000000000000000000000000000000000017c000000000000000000000000000000000000000800040000000000000800160 fm = true) (h0 : Keeps fm r0 s)  : ∃ t1, (execCrSlotPoll q own err s) = .next t1 ∧ Keeps fm r0 t1 := by
  refine ⟨_, rfl, ?_⟩
  with_reducible repeat' first | assumption | exact fpart (by decide +kernel) hfm | exact fle (by decide +kernel) hfm | exact fok (by decide +kernel) hfm | exact fall (by decide +kernel) hfm | exact fokIx (by decide +kernel) hfm | exact fokAll (by decide +kernel) hfm | refine Mask.ok_ite ?_ ?_ | refine faultsOf_ok ?_ ?_ | apply Keeps.ite | apply haltQp_keeps | apply freeNextSlot_keeps

theorem execQpHalt_keeps {fm : Nat} {r0 : State}  {q : Nat} {s : State} (hfm : Mask.le 0x30080000000000000000000000000000000000000000000000000000000000000000000000000000017c000000000000000000000000000000000000000800040000000000000800160 fm = true) (h0 : Keeps fm r0 s)  : ∃ t1, (execQpHalt q s) = .next t1 ∧ Keeps fm r0 t1 := by
  refine ⟨_, rfl, ?_⟩
  with_reducible repeat' first | assumption | exact fpart (by decide +kernel) hfm | exact fle (by decide +kernel) hfm | exact fok (by decide +kernel) hfm | exact fall (by decide +kernel) hfm | exact fokIx (by decide +kernel) hfm | exact fokAll (by decide +kernel) hfm | refine Mask.ok_ite ?_ ?_ | refine faultsOf_ok ?_ ?_ | apply Keeps.ite | apply haltQp_keeps

/-! ## Checks -/

theorem modVol_keeps {fm : Nat} {r0 : State}  {s : State} {v : Nat} {f : Vol → Vol} (hfm : Mask.le 0x200 fm = true) (h0 : Keeps fm r0 s)  : Keeps fm r0 (modVol s v f) := by
  unfold modVol
  with_reducible repeat' first | assumption | exact fpart (by decide +kernel) hfm | exact fle (by decide +kernel) hfm | exact fok (by decide +kernel) hfm | exact fall (by decide +kernel) hfm | exact fokIx (by decide +kernel) hfm | exact fokAll (by decide +kernel) hfm | refine Mask.ok_ite ?_ ?_ | refine faultsOf_ok ?_ ?_ | fail_if_no_progress (apply Keeps.upd <;> try first | exact Or.inr (fpart (by decide +kernel) hfm) | exact Or.inl rfl)

theorem enqueue_keeps {fm : Nat} {r0 : State}  {s : State} {q : Nat} {c : Cmd} (hfm : Mask.le 0x40 fm = true) (h0 : Keeps fm r0 s)  : Keeps fm r0 (enqueue s q c) := by
  unfold enqueue
  with_reducible repeat' first | assumption | exact fpart (by decide +kernel) hfm | exact fle (by decide +kernel) hfm | exact fok (by decide +kernel) hfm | exact fall (by decide +kernel) hfm | exact fokIx (by decide +kernel) hfm | exact fokAll (by decide +kernel) hfm | refine Mask.ok_ite ?_ ?_ | refine faultsOf_ok ?_ ?_ | apply modQp_keeps

theorem fetchPage_keeps {fm : Nat} {r0 : State}  {s : State} {q : Nat} {d : Desc} (hfm : Mask.le 0x800000 fm = true) (h0 : Keeps fm r0 s)  : Keeps fm r0 (fetchPage s q d) := by
  unfold fetchPage
  with_reducible repeat' first | assumption | exact fpart (by decide +kernel) hfm | exact fle (by decide +kernel) hfm | exact fok (by decide +kernel) hfm | exact fall (by decide +kernel) hfm | exact fokIx (by decide +kernel) hfm | exact fokAll (by decide +kernel) hfm | refine Mask.ok_ite ?_ ?_ | refine faultsOf_ok ?_ ?_ | apply emit_keeps

theorem decodeCmd_keeps {fm : Nat} {r0 : State}  {s : State} {q : Nat} {e : SqEntry} {chain : List SqEntry} {takenAt : Nat} (hfm : Mask.le 0x8000c0 fm = true) (h0 : Keeps fm r0 s)  : Keeps fm r0 (decodeCmd s q e chain takenAt) := by
  unfold decodeCmd
  try lift_lets -underBinder
  with_reducible repeat' first | assumption | exact fpart (by decide +kernel) hfm | exact fle (by decide +kernel) hfm | exact fok (by decide +kernel) hfm | exact fall (by decide +kernel) hfm | exact fokIx (by decide +kernel) hfm | exact fokAll (by decide +kernel) hfm | refine Mask.ok_ite ?_ ?_ | refine faultsOf_ok ?_ ?_ | (intro a; clear_value a) | lift_lets -underBinder | apply Keeps.ite | apply buildCpl_keeps | apply fetchPage_keeps | apply enqueue_keeps | split

theorem modQueued_keeps {fm : Nat} {r0 : State}  {s : State} {q : Nat} {tag : Nat} {f : Cmd → Cmd} (hfm : Mask.le 0x40 fm = true) (h0 : Keeps fm r0 s)  : Keeps fm r0 (modQueued s q tag f) := by
  unfold modQueued
  with_reducible repeat' first | assumption | exact fpart (by decide +kernel) hfm | exact fle (by decide +kernel) hfm | exact fok (by decide +kernel) hfm | exact fall (by decide +kernel) hfm | exact fokIx (by decide +kernel) hfm | exact fokAll (by decide +kernel) hfm | refine Mask.ok_ite ?_ ?_ | refine faultsOf_ok ?_ ?_ | apply modQp_keeps

theorem execListPageReadComplete_keeps {fm : Nat} {r0 : State}  {q : Nat} {tag : Nat} {page : Bytes} {err : Bool} {s : State} (hfm : Mask.le 0x8000c0 fm = true) (h0 : Keeps fm r0 s)  : ∃ t1, (execListPageReadComplete q tag page err s) = .next t1 ∧ Keeps fm r0 t1 := by
  refine ⟨_, rfl, ?_⟩
  try lift_lets -underBinder
  with_reducible repeat' first | assumption | exact fpart (by decide +kernel) hfm | exact fle (by decide +kernel) hfm | exact fok (by decide +kernel) hfm | exact fall (by decide +kernel) hfm | exact fokIx (by decide +kernel) hfm | exact fokAll (by decide +kernel) hfm | refine Mask.ok_ite ?_ ?_ | refine faultsOf_ok ?_ ?_ | (intro a; clear_value a) | lift_lets -underBinder | apply Keeps.ite | apply finish_keeps | apply fetchPage_keeps | apply modQueued_keeps | split

/-! ## Rings -/

theorem clearOwn_keeps {fm : Nat} {r0 : State}  {s : State} {q : Nat} {e : SqEntry} (hfm : Mask.le 0x800000 fm = true) (h0 : Keeps fm r0 s)  : Keeps fm r0 (clearOwn s q e) := by
  unfold clearOwn
  with_reducible repeat' first | assumption | exact fpart (by decide +kernel) hfm | exact fle (by decide +kernel) hfm | exact fok (by decide +kernel) hfm | exact fall (by decide +kernel) hfm | exact fokIx (by decide +kernel) hfm | exact fokAll (by decide +kernel) hfm | refine Mask.ok_ite ?_ ?_ | refine faultsOf_ok ?_ ?_ | apply emit_keeps

theorem chainTaken_keeps {fm : Nat} {r0 : State}  {s : State} {q : Nat} {chain : List SqEntry} {takenAt : Nat} (hfm : Mask.le 0x8000c0 fm = true) (h0 : Keeps fm r0 s)  : Keeps fm r0 (chainTaken s q chain takenAt) := by
  unfold chainTaken
  with_reducible repeat' first | assumption | exact fpart (by decide +kernel) hfm | exact fle (by decide +kernel) hfm | exact fok (by decide +kernel) hfm | exact fall (by decide +kernel) hfm | exact fokIx (by decide +kernel) hfm | exact fokAll (by decide +kernel) hfm | refine Mask.ok_ite ?_ ?_ | refine faultsOf_ok ?_ ?_ | apply Keeps.ite | apply buildCpl_keeps | apply decodeCmd_keeps | split

theorem malformed_keeps {fm : Nat} {r0 : State}  {s : State} {q : Nat} {f : SqEntry} {takenAt : Nat} (hfm : Mask.le 0xc0 fm = true) (h0 : Keeps fm r0 s)  : Keeps fm r0 (malformed s q f takenAt) := by
  unfold malformed
  with_reducible repeat' first | assumption | exact fpart (by decide +kernel) hfm | exact fle (by decide +kernel) hfm | exact fok (by decide +kernel) hfm | exact fall (by decide +kernel) hfm | exact fokIx (by decide +kernel) hfm | exact fokAll (by decide +kernel) hfm | refine Mask.ok_ite ?_ ?_ | refine faultsOf_ok ?_ ?_ | apply buildCpl_keeps | apply modQp_keeps

theorem startCommand_keeps {fm : Nat} {r0 : State}  {s : State} {q : Nat} {e : SqEntry} (hfm : Mask.le 0x8000c0 fm = true) (h0 : Keeps fm r0 s)  : Keeps fm r0 (startCommand s q e) := by
  unfold startCommand
  with_reducible repeat' first | assumption | exact fpart (by decide +kernel) hfm | exact fle (by decide +kernel) hfm | exact fok (by decide +kernel) hfm | exact fall (by decide +kernel) hfm | exact fokIx (by decide +kernel) hfm | exact fokAll (by decide +kernel) hfm | refine Mask.ok_ite ?_ ?_ | refine faultsOf_ok ?_ ?_ | apply Keeps.ite | apply malformed_keeps | apply chainTaken_keeps | apply modQp_keeps

theorem chainStep_keeps {fm : Nat} {r0 : State}  {s : State} {q : Nat} {e : SqEntry} (hfm : Mask.le 0x8000c0 fm = true) (h0 : Keeps fm r0 s)  : Keeps fm r0 (chainStep s q e) := by
  unfold chainStep
  try lift_lets -underBinder
  with_reducible repeat' first | assumption | exact fpart (by decide +kernel) hfm | exact fle (by decide +kernel) hfm | exact fok (by decide +kernel) hfm | exact fall (by decide +kernel) hfm | exact fokIx (by decide +kernel) hfm | exact fokAll (by decide +kernel) hfm | refine Mask.ok_ite ?_ ?_ | refine faultsOf_ok ?_ ?_ | (intro a; clear_value a) | lift_lets -underBinder | apply Keeps.ite | apply startCommand_keeps | apply chainTaken_keeps | apply modQp_keeps | apply malformed_keeps | split

theorem takeEntry_keeps {fm : Nat} {r0 : State}  {s : State} {q : Nat} {e : SqEntry} (hfm : Mask.le 0x800000000000000008000c0 fm = true) (h0 : Keeps fm r0 s)  : Keeps fm r0 (takeEntry s q e) := by
  unfold takeEntry
  with_reducible repeat' first | assumption | exact fpart (by decide +kernel) hfm | exact fle (by decide +kernel) hfm | exact fok (by decide +kernel) hfm | exact fall (by decide +kernel) hfm | exact fokIx (by decide +kernel) hfm | exact fokAll (by decide +kernel) hfm | refine Mask.ok_ite ?_ ?_ | refine faultsOf_ok ?_ ?_ | apply chainStep_keeps | apply clearOwn_keeps | apply wr_keeps

theorem noteOwned_keeps {fm : Nat} {r0 : State}  {s : State} {q : Nat} {v : Nat} (hfm : Mask.le 0x40 fm = true) (h0 : Keeps fm r0 s)  : Keeps fm r0 (noteOwned s q v) := by
  unfold noteOwned
  with_reducible repeat' first | assumption | exact fpart (by decide +kernel) hfm | exact fle (by decide +kernel) hfm | exact fok (by decide +kernel) hfm | exact fall (by decide +kernel) hfm | exact fokIx (by decide +kernel) hfm | exact fokAll (by decide +kernel) hfm | refine Mask.ok_ite ?_ ?_ | refine faultsOf_ok ?_ ?_ | apply modQp_keeps

theorem readSlots_keeps {fm : Nat} {r0 : State}  {s : State} {q : Nat} {a : Nat} {n : Nat} (hfm : Mask.le 0x100000000000000000000800040 fm = true) (h0 : Keeps fm r0 s)  : Keeps fm r0 (readSlots s q a n) := by
  unfold readSlots
  try lift_lets -underBinder
  with_reducible repeat' first | assumption | exact fpart (by decide +kernel) hfm | exact fle (by decide +kernel) hfm | exact fok (by decide +kernel) hfm | exact fall (by decide +kernel) hfm | exact fokIx (by decide +kernel) hfm | exact fokAll (by decide +kernel) hfm | refine Mask.ok_ite ?_ ?_ | refine faultsOf_ok ?_ ?_ | (intro a; refine (fun ha : Keeps fm r0 a => ?_) ?_; clear_value a; rotate_left; dsimp only [a]; rotate_right) | (intro a; clear_value a) | lift_lets -underBinder | apply Keeps.ite | apply emit_keeps | apply bump_keeps | apply modQp_keeps

theorem startFetch_keeps {fm : Nat} {r0 : State}  {s : State} {q : Nat} (hfm : Mask.le 0x100000000000000000000800040 fm = true) (h0 : Keeps fm r0 s)  : Keeps fm r0 (startFetch s q) := by
  unfold startFetch
  try lift_lets -underBinder
  with_reducible repeat' first | assumption | exact fpart (by decide +kernel) hfm | exact fle (by decide +kernel) hfm | exact fok (by decide +kernel) hfm | exact fall (by decide +kernel) hfm | exact fokIx (by decide +kernel) hfm | exact fokAll (by decide +kernel) hfm | refine Mask.ok_ite ?_ ?_ | refine faultsOf_ok ?_ ?_ | (intro a; clear_value a) | lift_lets -underBinder | apply Keeps.ite | apply readSlots_keeps | apply modQp_keeps

theorem evalPush_keeps {fm : Nat} {r0 : State}  {s : State} {q : Nat} {e : SqEntry} (hfm : Mask.le 0x1f00800000000000000008000c0 fm = true) (h0 : Keeps fm r0 s)  : Keeps fm r0 (evalPush s q e) := by
  unfold evalPush
  try lift_lets -underBinder
  with_reducible repeat' first | assumption | exact fpart (by decide +kernel) hfm | exact fle (by decide +kernel) hfm | exact fok (by decide +kernel) hfm | exact fall (by decide +kernel) hfm | exact fokIx (by decide +kernel) hfm | exact fokAll (by decide +kernel) hfm | refine Mask.ok_ite ?_ ?_ | refine faultsOf_ok ?_ ?_ | (intro a; clear_value a) | lift_lets -underBinder | apply Keeps.ite | apply bump_keeps | apply takeEntry_keeps | apply noteOwned_keeps | apply startFetch_keeps

theorem forgetSlot_keeps {fm : Nat} {r0 : State}  {s : State} {q : Nat} {j : Nat} (hfm : Mask.le 0x40 fm = true) (h0 : Keeps fm r0 s)  : Keeps fm r0 (forgetSlot s q j) := by
  unfold forgetSlot
  with_reducible repeat' first | assumption | exact fpart (by decide +kernel) hfm | exact fle (by decide +kernel) hfm | exact fok (by decide +kernel) hfm | exact fall (by decide +kernel) hfm | exact fokIx (by decide +kernel) hfm | exact fokAll (by decide +kernel) hfm | refine Mask.ok_ite ?_ ?_ | refine faultsOf_ok ?_ ?_ | apply modQp_keeps

theorem evalFull_keeps {fm : Nat} {r0 : State}  {s : State} {q : Nat} (hfm : Mask.le 0x1f00800000000000000008000c0 fm = true) (h0 : Keeps fm r0 s)  : Keeps fm r0 (evalFull s q) := by
  unfold evalFull
  try lift_lets -underBinder
  with_reducible repeat' first | assumption | exact fpart (by decide +kernel) hfm | exact fle (by decide +kernel) hfm | exact fok (by decide +kernel) hfm | exact fall (by decide +kernel) hfm | exact fokIx (by decide +kernel) hfm | exact fokAll (by decide +kernel) hfm | refine Mask.ok_ite ?_ ?_ | refine faultsOf_ok ?_ ?_ | refine fun _ _ (_ : Keeps fm r0 _) => ?_ | (intro a; clear_value a) | lift_lets -underBinder | apply evalPush_keeps | apply forgetSlot_keeps | apply Keeps.forEach

theorem execPushSlotWrite_keeps {fm : Nat} {r0 : State}  {q : Nat} {off : Nat} {data : Bytes} {s : State} (hfm : Mask.le 0x1f00800000000000000008000c0 fm = true) (h0 : Keeps fm r0 s)  : ∃ t1, (execPushSlotWrite q off data s) = .next t1 ∧ Keeps fm r0 t1 := by
  refine ⟨_, rfl, ?_⟩
  with_reducible repeat' first | assumption | exact fpart (by decide +kernel) hfm | exact fle (by decide +kernel) hfm | exact fok (by decide +kernel) hfm | exact fall (by decide +kernel) hfm | exact fokIx (by decide +kernel) hfm | exact fokAll (by decide +kernel) hfm | refine Mask.ok_ite ?_ ?_ | refine faultsOf_ok ?_ ?_ | apply Keeps.ite | apply bump_keeps | apply evalFull_keeps | apply modQp_keeps

theorem execPushSlotTimeout_keeps {fm : Nat} {r0 : State}  {q : Nat} {j : Nat} {s : State} (hfm : Mask.le 0x180000000000000000000800040 fm = true) (h0 : Keeps fm r0 s)  : ∃ t1, (execPushSlotTimeout q j s) = .next t1 ∧ Keeps fm r0 t1 := by
  refine ⟨_, rfl, ?_⟩
  with_reducible repeat' first | assumption | exact fpart (by decide +kernel) hfm | exact fle (by decide +kernel) hfm | exact fok (by decide +kernel) hfm | exact fall (by decide +kernel) hfm | exact fokIx (by decide +kernel) hfm | exact fokAll (by decide +kernel) hfm | refine Mask.ok_ite ?_ ?_ | refine faultsOf_ok ?_ ?_ | apply Keeps.ite | apply startFetch_keeps | apply bump_keeps | apply forgetSlot_keeps

theorem execSrNotify_keeps {fm : Nat} {r0 : State}  {q : Nat} {v : BitVec 32} {s : State} (hfm : Mask.le 0x180000000000000000000800040 fm = true) (h0 : Keeps fm r0 s)  : ∃ t1, (execSrNotify q v s) = .next t1 ∧ Keeps fm r0 t1 := by
  refine ⟨_, rfl, ?_⟩
  try lift_lets -underBinder
  with_reducible repeat' first | assumption | exact fpart (by decide +kernel) hfm | exact fle (by decide +kernel) hfm | exact fok (by decide +kernel) hfm | exact fall (by decide +kernel) hfm | exact fokIx (by decide +kernel) hfm | exact fokAll (by decide +kernel) hfm | refine Mask.ok_ite ?_ ?_ | refine faultsOf_ok ?_ ?_ | (intro a; clear_value a) | lift_lets -underBinder | apply Keeps.ite | apply bump_keeps | apply startFetch_keeps | apply noteOwned_keeps

theorem evalFetched_keeps {fm : Nat} {r0 : State}  {s : State} {q : Nat} {e : SqEntry} (hfm : Mask.le 0x800000000000000008000c0 fm = true) (h0 : Keeps fm r0 s)  : Keeps fm r0 (evalFetched s q e) := by
  unfold evalFetched
  try lift_lets -underBinder
  with_reducible repeat' first | assumption | exact fpart (by decide +kernel) hfm | exact fle (by decide +kernel) hfm | exact fok (by decide +kernel) hfm | exact fall (by decide +kernel) hfm | exact fokIx (by decide +kernel) hfm | exact fokAll (by decide +kernel) hfm | refine Mask.ok_ite ?_ ?_ | refine faultsOf_ok ?_ ?_ | (intro a; clear_value a) | lift_lets -underBinder | apply Keeps.ite | apply takeEntry_keeps | apply noteOwned_keeps

theorem noteSpec_keeps {fm : Nat} {r0 : State}  {s : State} {q : Nat} {a : Nat} {es : List SqEntry} (hfm : Mask.le 0x40 fm = true) (h0 : Keeps fm r0 s)  : Keeps fm r0 (noteSpec s q a es) := by
  unfold noteSpec
  try lift_lets -underBinder
  with_reducible repeat' first | assumption | exact fpart (by decide +kernel) hfm | exact fle (by decide +kernel) hfm | exact fok (by decide +kernel) hfm | exact fall (by decide +kernel) hfm | exact fokIx (by decide +kernel) hfm | exact fokAll (by decide +kernel) hfm | refine Mask.ok_ite ?_ ?_ | refine faultsOf_ok ?_ ?_ | (intro a; clear_value a) | apply modQp_keeps

theorem fetchDone_keeps {fm : Nat} {r0 : State}  {s : State} {q : Nat} {es : List SqEntry} (hfm : Mask.le 0x1000800000000000000008000c0 fm = true) (h0 : Keeps fm r0 s)  : Keeps fm r0 (fetchDone s q es) := by
  unfold fetchDone
  try lift_lets -underBinder
  with_reducible repeat' first | assumption | exact fpart (by decide +kernel) hfm | exact fle (by decide +kernel) hfm | exact fok (by decide +kernel) hfm | exact fall (by decide +kernel) hfm | exact fokIx (by decide +kernel) hfm | exact fokAll (by decide +kernel) hfm | refine Mask.ok_ite ?_ ?_ | refine faultsOf_ok ?_ ?_ | refine fun _ _ (_ : Keeps fm r0 _) => ?_ | (intro a; refine (fun ha : Keeps fm r0 a => ?_) ?_; clear_value a; rotate_left; dsimp only [a]; rotate_right) | (intro a; clear_value a) | lift_lets -underBinder | apply Keeps.ite | apply evalFetched_keeps | apply noteSpec_keeps | apply modQp_keeps | apply startFetch_keeps | apply Keeps.forEach | split

theorem execRingFetchComplete_keeps {fm : Nat} {r0 : State}  {q : Nat} {es : List SqEntry} {err : Bool} {s : State} (hfm : Mask.le 0x30080000000000000000000000000000000000000000000000000000000000000000000000000000017c0000000000000000000000000000000000001008800400000000000008001e0 fm = true) (h0 : Keeps fm r0 s)  : ∃ t1, (execRingFetchComplete q es err s) = .next t1 ∧ Keeps fm r0 t1 := by
  refine ⟨_, rfl, ?_⟩
  with_reducible repeat' first | assumption | exact fpart (by decide +kernel) hfm | exact fle (by decide +kernel) hfm | exact fok (by decide +kernel) hfm | exact fall (by decide +kernel) hfm | exact fokIx (by decide +kernel) hfm | exact fokAll (by decide +kernel) hfm | refine Mask.ok_ite ?_ ?_ | refine faultsOf_ok ?_ ?_ | apply Keeps.ite | apply haltQp_keeps | apply fetchDone_keeps

theorem freeOwned_keeps {fm : Nat} {r0 : State}  {s : State} {q : Nat} {owns : List (Nat × Bool)} (hfm : Mask.le 0x40 fm = true) (h0 : Keeps fm r0 s)  : Keeps fm r0 (freeOwned s q owns) := by
  unfold freeOwned
  with_reducible repeat' first | assumption | exact fpart (by decide +kernel) hfm | exact fle (by decide +kernel) hfm | exact fok (by decide +kernel) hfm | exact fall (by decide +kernel) hfm | exact fokIx (by decide +kernel) hfm | exact fokAll (by decide +kernel) hfm | refine Mask.ok_ite ?_ ?_ | refine faultsOf_ok ?_ ?_ | apply modQp_keeps

theorem execQpPoll_keeps {fm : Nat} {r0 : State}  {q : Nat} {es : List SqEntry} {owns : List (Nat × Bool)} {err : Bool} {s : State} (hfm : Mask.le 0x30080000000000000000000000000000000000000000000000000000000000000000000000000000017c0000000000000000000000000000000000001008800400000000000008001e0 fm = true) (h0 : Keeps fm r0 s)  : ∃ t1, (execQpPoll q es owns err s) = .next t1 ∧ Keeps fm r0 t1 := by
  refine ⟨_, rfl, ?_⟩
  try lift_lets -underBinder
  with_reducible repeat' first | assumption | exact fpart (by decide +kernel) hfm | exact fle (by decide +kernel) hfm | exact fok (by decide +kernel) hfm | exact fall (by decide +kernel) hfm | exact fokIx (by decide +kernel) hfm | exact fokAll (by decide +kernel) hfm | refine Mask.ok_ite ?_ ?_ | refine faultsOf_ok ?_ ?_ | refine fun _ _ (_ : Keeps fm r0 _) => ?_ | (intro a; refine (fun ha : Keeps fm r0 a => ?_) ?_; clear_value a; rotate_left; dsimp only [a]; rotate_right) | (intro a; clear_value a) | lift_lets -underBinder | apply Keeps.ite | apply readSlots_keeps | apply haltQp_keeps | apply freeOwned_keeps | apply evalFetched_keeps | apply noteSpec_keeps | apply Keeps.forEach

theorem setMode_keeps {fm : Nat} {r0 : State}  {q : Nat} {mode : Nat} {s : State} (hfm : Mask.le 0x8040000000000000000040 fm = true) (h0 : Keeps fm r0 s)  : Keeps fm r0 (setMode q mode s) := by
  unfold setMode
  try lift_lets -underBinder
  with_reducible repeat' first | assumption | exact fpart (by decide +kernel) hfm | exact fle (by decide +kernel) hfm | exact fok (by decide +kernel) hfm | exact fall (by decide +kernel) hfm | exact fokIx (by decide +kernel) hfm | exact fokAll (by decide +kernel) hfm | refine Mask.ok_ite ?_ ?_ | refine faultsOf_ok ?_ ?_ | (intro a; refine (fun ha : Keeps fm r0 a => ?_) ?_; clear_value a; rotate_left; dsimp only [a]; rotate_right) | lift_lets -underBinder | apply Keeps.ite | apply wr_keeps | apply modQp_keeps

theorem execQpModeWrite_keeps {fm : Nat} {r0 : State}  {q : Nat} {mode : Nat} {s : State} (hfm : Mask.le 0x8040000000000000000040 fm = true) (h0 : Keeps fm r0 s)  : ∃ t1, (execQpModeWrite q mode s) = .next t1 ∧ Keeps fm r0 t1 := by
  refine ⟨_, rfl, ?_⟩
  with_reducible repeat' first | assumption | exact fpart (by decide +kernel) hfm | exact fle (by decide +kernel) hfm | exact fok (by decide +kernel) hfm | exact fall (by decide +kernel) hfm | exact fokIx (by decide +kernel) hfm | exact fokAll (by decide +kernel) hfm | refine Mask.ok_ite ?_ ?_ | refine faultsOf_ok ?_ ?_ | apply Keeps.ite | apply setMode_keeps

theorem execAdminCtrlMode_keeps {fm : Nat} {r0 : State}  {pf : Nat} {push : Bool} {s : State} (hfm : Mask.le 0x8040000000000000000040 fm = true) (h0 : Keeps fm r0 s)  : ∃ t1, (execAdminCtrlMode pf push s) = .next t1 ∧ Keeps fm r0 t1 := by
  refine ⟨_, rfl, ?_⟩
  with_reducible repeat' first | assumption | exact fpart (by decide +kernel) hfm | exact fle (by decide +kernel) hfm | exact fok (by decide +kernel) hfm | exact fall (by decide +kernel) hfm | exact fokIx (by decide +kernel) hfm | exact fokAll (by decide +kernel) hfm | refine Mask.ok_ite ?_ ?_ | refine faultsOf_ok ?_ ?_ | apply Keeps.ite | apply setMode_keeps

theorem openSession_keeps {fm : Nat} {r0 : State}  {n : Nat} {priv : Nat} {s : State} (hfm : Mask.le 0x1e000000000000000000000000000000000000000000000000000000000000000000000000000000000000000000000000000000000000008 fm = true) (h0 : Keeps fm r0 s)  : Keeps fm r0 (openSession n priv s) := by
  unfold openSession
  try lift_lets -underBinder
  with_reducible repeat' first | assumption | exact fpart (by decide +kernel) hfm | exact fle (by decide +kernel) hfm | exact fok (by decide +kernel) hfm | exact fall (by decide +kernel) hfm | exact fokIx (by decide +kernel) hfm | exact fokAll (by decide +kernel) hfm | refine Mask.ok_ite ?_ ?_ | refine faultsOf_ok ?_ ?_ | (intro a; refine (fun ha : Keeps fm r0 a => ?_) ?_; clear_value a; rotate_left; dsimp only [a]; rotate_right) | (intro a; refine (fun (_ : a = (a : Dict)) => ?_) rfl; dsimp only [a]) | lift_lets -underBinder | apply wr_keeps | apply wrB_keeps | fail_if_no_progress (apply Keeps.updDict <;> try first | exact Or.inr (fpart (by decide +kernel) hfm) | exact Or.inl rfl)

theorem clearQpCounters_keeps {fm : Nat} {r0 : State}  {s : State} {q : Nat} (hfm : Mask.le 0x1ff80000000000000000000000000000000000000000000000000000000000000000000000000000000000000000000020 fm = true) (h0 : Keeps fm r0 s)  : Keeps fm r0 (clearQpCounters s q) := by
  unfold clearQpCounters
  with_reducible repeat' first | assumption | exact fpart (by decide +kernel) hfm | exact fle (by decide +kernel) hfm | exact fok (by decide +kernel) hfm | exact fall (by decide +kernel) hfm | exact fokIx (by decide +kernel) hfm | exact fokAll (by decide +kernel) hfm | refine Mask.ok_ite ?_ ?_ | refine faultsOf_ok ?_ ?_ | apply clrHist_keeps | apply clrInst_keeps

theorem createQp_keeps {fm : Nat} {r0 : State}  {s : State} {q : Nat} (hfm : Mask.le 0x1e00000000000001ff8000000000000000000000000000000000000000000000000000000000000000000020ab80040000000000000000068 fm = true) (h0 : Keeps fm r0 s)  : Keeps fm r0 (createQp s q) := by
  unfold createQp
  try lift_lets -underBinder
  with_reducible repeat' first | assumption | exact fpart (by decide +kernel) hfm | exact fle (by decide +kernel) hfm | exact fok (by decide +kernel) hfm | exact fall (by decide +kernel) hfm | exact fokIx (by decide +kernel) hfm | exact fokAll (by decide +kernel) hfm | refine Mask.ok_ite ?_ ?_ | refine faultsOf_ok ?_ ?_ | (intro a; refine (fun ha : Keeps fm r0 a => ?_) ?_; clear_value a; rotate_left; dsimp only [a]; rotate_right) | lift_lets -underBinder | apply Keeps.ite | apply wr_keeps | apply clr_keeps | apply clearQpCounters_keeps | apply setQp_keeps | apply openSession_keeps

theorem tryCreate_keeps {fm : Nat} {r0 : State}  {q : Nat} {s : State} (hfm : Mask.le 0x1e00000000000001ff8000000000000000000000000000000000000000000000000000000000000000000020ab80040000000000000000068 fm = true) (h0 : Keeps fm r0 s)  : Keeps fm r0 (tryCreate q s) := by
  unfold tryCreate
  with_reducible repeat' first | assumption | exact fpart (by decide +kernel) hfm | exact fle (by decide +kernel) hfm | exact fok (by decide +kernel) hfm | exact fall (by decide +kernel) hfm | exact fokIx (by decide +kernel) hfm | exact fokAll (by decide +kernel) hfm | refine Mask.ok_ite ?_ ?_ | refine faultsOf_ok ?_ ?_ | apply Keeps.ite | apply createQp_keeps | apply wr_keeps

theorem execAdminCtrlEnable_keeps {fm : Nat} {r0 : State}  {pf : Nat} {push : Bool} {s : State} (hfm : Mask.le 0x1e00000000000001ff8000000000000000000000000000000000000000000000000000000000000000000020ab88040000000000000000068 fm = true) (h0 : Keeps fm r0 s)  : ∃ t1, (execAdminCtrlEnable pf push s) = .next t1 ∧ Keeps fm r0 t1 := by
  refine ⟨_, rfl, ?_⟩
  with_reducible repeat' first | assumption | exact fpart (by decide +kernel) hfm | exact fle (by decide +kernel) hfm | exact fok (by decide +kernel) hfm | exact fall (by decide +kernel) hfm | exact fokIx (by decide +kernel) hfm | exact fokAll (by decide +kernel) hfm | refine Mask.ok_ite ?_ ?_ | refine faultsOf_ok ?_ ?_ | apply Keeps.ite | apply tryCreate_keeps | apply wr_keeps

theorem execQueueCreate_keeps {fm : Nat} {r0 : State}  {q : Nat} {tag : Nat} {s : State} (hfm : Mask.le 0x1e00000000000001ff8000000000000000000000000000000000000000000000000000000000000000000020ab800400000000000000000e8 fm = true) (h0 : Keeps fm r0 s)  : ∃ t1, (execQueueCreate q tag s) = .next t1 ∧ Keeps fm r0 t1 := by
  refine ⟨_, rfl, ?_⟩
  with_reducible repeat' first | assumption | exact fpart (by decide +kernel) hfm | exact fle (by decide +kernel) hfm | exact fok (by decide +kernel) hfm | exact fall (by decide +kernel) hfm | exact fokIx (by decide +kernel) hfm | exact fokAll (by decide +kernel) hfm | refine Mask.ok_ite ?_ ?_ | refine faultsOf_ok ?_ ?_ | apply Keeps.ite | apply finish_keeps | apply tryCreate_keeps | split

/-! ## Members -/

theorem setPool_keeps {fm : Nat} {r0 : State}  {s : State} {p : Nat} {x : Pool} (hfm : Mask.le 0x1000 fm = true) (h0 : Keeps fm r0 s)  : Keeps fm r0 (setPool s p x) := by
  unfold setPool
  with_reducible repeat' first | assumption | exact fpart (by decide +kernel) hfm | exact fle (by decide +kernel) hfm | exact fok (by decide +kernel) hfm | exact fall (by decide +kernel) hfm | exact fokIx (by decide +kernel) hfm | exact fokAll (by decide +kernel) hfm | refine Mask.ok_ite ?_ ?_ | refine faultsOf_ok ?_ ?_ | fail_if_no_progress (apply Keeps.upd <;> try first | exact Or.inr (fpart (by decide +kernel) hfm) | exact Or.inl rfl)

theorem modPool_keeps {fm : Nat} {r0 : State}  {s : State} {p : Nat} {f : Pool → Pool} (hfm : Mask.le 0x1000 fm = true) (h0 : Keeps fm r0 s)  : Keeps fm r0 (modPool s p f) := by
  unfold modPool
  with_reducible repeat' first | assumption | exact fpart (by decide +kernel) hfm | exact fle (by decide +kernel) hfm | exact fok (by decide +kernel) hfm | exact fall (by decide +kernel) hfm | exact fokIx (by decide +kernel) hfm | exact fokAll (by decide +kernel) hfm | refine Mask.ok_ite ?_ ?_ | refine faultsOf_ok ?_ ?_ | apply setPool_keeps

theorem setCond_keeps {fm : Nat} {r0 : State}  {s : State} {p : Nat} {b : Nat} {on : Bool} (hfm : Mask.le 0x600000000800100 fm = true) (h0 : Keeps fm r0 s)  : Keeps fm r0 (setCond s p b on) := by
  unfold setCond
  try lift_lets -underBinder
  with_reducible repeat' first | assumption | exact fpart (by decide +kernel) hfm | exact fle (by decide +kernel) hfm | exact fok (by decide +kernel) hfm | exact fall (by decide +kernel) hfm | exact fokIx (by decide +kernel) hfm | exact fokAll (by decide +kernel) hfm | refine Mask.ok_ite ?_ ?_ | refine faultsOf_ok ?_ ?_ | (intro a; refine (fun ha : Keeps fm r0 a => ?_) ?_; clear_value a; rotate_left; dsimp only [a]; rotate_right) | (intro a; clear_value a) | lift_lets -underBinder | apply Keeps.ite | apply wr_keeps | apply signalPme_keeps

theorem modDPort_keeps {fm : Nat} {r0 : State}  {s : State} {n : Nat} {f : DPort → DPort} (hfm : Mask.le 0x4000 fm = true) (h0 : Keeps fm r0 s)  : Keeps fm r0 (modDPort s n f) := by
  unfold modDPort
  with_reducible repeat' first | assumption | exact fpart (by decide +kernel) hfm | exact fle (by decide +kernel) hfm | exact fok (by decide +kernel) hfm | exact fall (by decide +kernel) hfm | exact fokIx (by decide +kernel) hfm | exact fokAll (by decide +kernel) hfm | refine Mask.ok_ite ?_ ?_ | refine faultsOf_ok ?_ ?_ | fail_if_no_progress (apply Keeps.upd <;> try first | exact Or.inr (fpart (by decide +kernel) hfm) | exact Or.inl rfl)

theorem setMCmd_keeps {fm : Nat} {r0 : State}  {s : State} {id : Nat} {c : MCmd} (hfm : Mask.le 0x4000 fm = true) (h0 : Keeps fm r0 s)  : Keeps fm r0 (setMCmd s id c) := by
  unfold setMCmd
  with_reducible repeat' first | assumption | exact fpart (by decide +kernel) hfm | exact fle (by decide +kernel) hfm | exact fok (by decide +kernel) hfm | exact fall (by decide +kernel) hfm | exact fokIx (by decide +kernel) hfm | exact fokAll (by decide +kernel) hfm | refine Mask.ok_ite ?_ ?_ | refine faultsOf_ok ?_ ?_ | fail_if_no_progress (apply Keeps.upd <;> try first | exact Or.inr (fpart (by decide +kernel) hfm) | exact Or.inl rfl)

theorem place_keeps {fm : Nat} {r0 : State}  {s : State} {id : Nat} {c : MCmd} (hfm : Mask.le 0x14000000000000000000000000000000000000000000000000000000000000020000040804020 fm = true) (h0 : Keeps fm r0 s)  : Keeps fm r0 (place s id c) := by
  unfold place
  try lift_lets -underBinder
  with_reducible repeat' first | assumption | exact fpart (by decide +kernel) hfm | exact fle (by decide +kernel) hfm | exact fok (by decide +kernel) hfm | exact fall (by decide +kernel) hfm | exact fokIx (by decide +kernel) hfm | exact fokAll (by decide +kernel) hfm | refine Mask.ok_ite ?_ ?_ | refine faultsOf_ok ?_ ?_ | (intro a; refine (fun ha : Keeps fm r0 a => ?_) ?_; clear_value a; rotate_left; dsimp only [a]; rotate_right) | lift_lets -underBinder | apply Keeps.ite | apply bump_keeps | apply setMCmd_keeps | apply countDev_keeps | apply emit_keeps

theorem issue_keeps {fm : Nat} {r0 : State}  {s : State} {port : Nat} {op : MOp} {purp : Purp} (hfm : Mask.le 0x14000000000000000000000000000000000000000000000000000000000000020000040804020 fm = true) (h0 : Keeps fm r0 s)  : Keeps fm r0 (issue s port op purp) := by
  unfold issue
  try lift_lets -underBinder
  with_reducible repeat' first | assumption | exact fpart (by decide +kernel) hfm | exact fle (by decide +kernel) hfm | exact fok (by decide +kernel) hfm | exact fall (by decide +kernel) hfm | exact fokIx (by decide +kernel) hfm | exact fokAll (by decide +kernel) hfm | refine Mask.ok_ite ?_ ?_ | refine faultsOf_ok ?_ ?_ | (intro a; clear_value a) | lift_lets -underBinder | apply place_keeps | fail_if_no_progress (apply Keeps.upd <;> try first | exact Or.inr (fpart (by decide +kernel) hfm) | exact Or.inl rfl)

theorem issueTo_keeps {fm : Nat} {r0 : State}  {s : State} {p : Nat} {slot : Nat} {op : MOp} {purp : Purp} (hfm : Mask.le 0x14000000000000000000000000000000000000000000000000000000000000020000040804020 fm = true) (h0 : Keeps fm r0 s)  : Keeps fm r0 (issueTo s p slot op purp) := by
  unfold issueTo
  with_reducible repeat' first | assumption | exact fpart (by decide +kernel) hfm | exact fle (by decide +kernel) hfm | exact fok (by decide +kernel) hfm | exact fall (by decide +kernel) hfm | exact fokIx (by decide +kernel) hfm | exact fokAll (by decide +kernel) hfm | refine Mask.ok_ite ?_ ?_ | refine faultsOf_ok ?_ ?_ | apply issue_keeps

theorem pump_keeps {fm : Nat} {r0 : State}  {s : State} {port : Nat} (hfm : Mask.le 0x14000000000000000000000000000000000000000000000000000000000000020000040804020 fm = true) (h0 : Keeps fm r0 s)  : Keeps fm r0 (pump s port) := by
  unfold pump
  with_reducible repeat' first | assumption | exact fpart (by decide +kernel) hfm | exact fle (by decide +kernel) hfm | exact fok (by decide +kernel) hfm | exact fall (by decide +kernel) hfm | exact fokIx (by decide +kernel) hfm | exact fokAll (by decide +kernel) hfm | refine Mask.ok_ite ?_ ?_ | refine faultsOf_ok ?_ ?_ | refine fun _ _ (_ : Keeps fm r0 _) => ?_ | apply place_keeps | apply Keeps.forEach

theorem endCmd_keeps {fm : Nat} {r0 : State}  {s : State} {id : Nat} (hfm : Mask.le 0x14000000000000000000000000000000000000000000000000000000000000020000040804020 fm = true) (h0 : Keeps fm r0 s)  : Keeps fm r0 (endCmd s id) := by
  unfold endCmd
  try lift_lets -underBinder
  with_reducible repeat' first | assumption | exact fpart (by decide +kernel) hfm | exact fle (by decide +kernel) hfm | exact fok (by decide +kernel) hfm | exact fall (by decide +kernel) hfm | exact fokIx (by decide +kernel) hfm | exact fokAll (by decide +kernel) hfm | refine Mask.ok_ite ?_ ?_ | refine faultsOf_ok ?_ ?_ | (intro a; refine (fun ha : Keeps fm r0 a => ?_) ?_; clear_value a; rotate_left; dsimp only [a]; rotate_right) | (intro a; clear_value a) | lift_lets -underBinder | apply Keeps.ite | apply drop_keeps | apply pump_keeps | fail_if_no_progress (apply Keeps.upd <;> try first | exact Or.inr (fpart (by decide +kernel) hfm) | exact Or.inl rfl) | split

theorem noteUrgent_keeps {fm : Nat} {r0 : State}  {s : State} {p : Nat} (hfm : Mask.le 0x30080000000000000000000000000000000000000000000000000000000000000000000000820000017c000000000000000000000000000000000000000000000000000000000800120 fm = true) (h0 : Keeps fm r0 s)  : Keeps fm r0 (noteUrgent s p) := by
  unfold noteUrgent
  try lift_lets -underBinder
  with_reducible repeat' first | assumption | exact fpart (by decide +kernel) hfm | exact fle (by decide +kernel) hfm | exact fok (by decide +kernel) hfm | exact fall (by decide +kernel) hfm | exact fokIx (by decide +kernel) hfm | exact fokAll (by decide +kernel) hfm | refine Mask.ok_ite ?_ ?_ | refine faultsOf_ok ?_ ?_ | (intro a; clear_value a) | lift_lets -underBinder | apply Keeps.ite | apply raiseOpen_keeps | apply wr_keeps | apply wrB_keeps

theorem noteZones_keeps {fm : Nat} {r0 : State}  {s : State} {p : Nat} {slot : Nat} (hfm : Mask.le 0x30080000000000000000000000000000000000000000000000000000000000000000000000860000017c000000000000000000000000000080000000000000000000000000000800120 fm = true) (h0 : Keeps fm r0 s)  : Keeps fm r0 (noteZones s p slot) := by
  unfold noteZones
  with_reducible repeat' first | assumption | exact fpart (by decide +kernel) hfm | exact fle (by decide +kernel) hfm | exact fok (by decide +kernel) hfm | exact fall (by decide +kernel) hfm | exact fokIx (by decide +kernel) hfm | exact fokAll (by decide +kernel) hfm | refine Mask.ok_ite ?_ ?_ | refine faultsOf_ok ?_ ?_ | apply noteUrgent_keeps | apply wr_keeps

theorem useZone_keeps {fm : Nat} {r0 : State}  {s : State} {p : Nat} {slot : Nat} {z : Nat} (hfm : Mask.le 0x30080000000000000000000000000000000000000000000000000000000000000000000000860000017c000000000000000000000000000080000000000000000000000000000801120 fm = true) (h0 : Keeps fm r0 s)  : Keeps fm r0 (useZone s p slot z) := by
  unfold useZone
  with_reducible repeat' first | assumption | exact fpart (by decide +kernel) hfm | exact fle (by decide +kernel) hfm | exact fok (by decide +kernel) hfm | exact fall (by decide +kernel) hfm | exact fokIx (by decide +kernel) hfm | exact fokAll (by decide +kernel) hfm | refine Mask.ok_ite ?_ ?_ | refine faultsOf_ok ?_ ?_ | apply noteZones_keeps | apply modPool_keeps

theorem freeZone_keeps {fm : Nat} {r0 : State}  {s : State} {p : Nat} {slot : Nat} {z : Nat} (hfm : Mask.le 0x30080000000000000000000000000000000000000000000000000000000000000000000000860000017c000000000000000000000000000080000000000000000000000000000801120 fm = true) (h0 : Keeps fm r0 s)  : Keeps fm r0 (freeZone s p slot z) := by
  unfold freeZone
  with_reducible repeat' first | assumption | exact fpart (by decide +kernel) hfm | exact fle (by decide +kernel) hfm | exact fok (by decide +kernel) hfm | exact fall (by decide +kernel) hfm | exact fokIx (by decide +kernel) hfm | exact fokAll (by decide +kernel) hfm | refine Mask.ok_ite ?_ ?_ | refine faultsOf_ok ?_ ?_ | apply noteZones_keeps | apply modPool_keeps

/-! ## Link -/

theorem modLink_keeps {fm : Nat} {r0 : State}  {s : State} {f : Link → Link} (hfm : Mask.le 0x40000 fm = true) (h0 : Keeps fm r0 s)  : Keeps fm r0 (modLink s f) := by
  unfold modLink
  with_reducible repeat' first | assumption | exact fpart (by decide +kernel) hfm | exact fle (by decide +kernel) hfm | exact fok (by decide +kernel) hfm | exact fall (by decide +kernel) hfm | exact fokIx (by decide +kernel) hfm | exact fokAll (by decide +kernel) hfm | refine Mask.ok_ite ?_ ?_ | refine faultsOf_ok ?_ ?_ | fail_if_no_progress (apply Keeps.upd <;> try first | exact Or.inr (fpart (by decide +kernel) hfm) | exact Or.inl rfl)

theorem modPair_keeps {fm : Nat} {r0 : State}  {s : State} {f : PairSt → PairSt} (hfm : Mask.le 0x40000 fm = true) (h0 : Keeps fm r0 s)  : Keeps fm r0 (modPair s f) := by
  unfold modPair
  with_reducible repeat' first | assumption | exact fpart (by decide +kernel) hfm | exact fle (by decide +kernel) hfm | exact fok (by decide +kernel) hfm | exact fall (by decide +kernel) hfm | exact fokIx (by decide +kernel) hfm | exact fokAll (by decide +kernel) hfm | refine Mask.ok_ite ?_ ?_ | refine faultsOf_ok ?_ ?_ | fail_if_no_progress (apply Keeps.upd <;> try first | exact Or.inr (fpart (by decide +kernel) hfm) | exact Or.inl rfl)

theorem countFlits_keeps {fm : Nat} {r0 : State}  {s : State} {n : Nat} (hfm : Mask.le 0x20 fm = true) (h0 : Keeps fm r0 s)  : Keeps fm r0 (countFlits s n) := by
  unfold countFlits
  try lift_lets -underBinder
  with_reducible repeat' first
    | assumption
    | exact fpart (by decide +kernel) hfm
    | exact fle (by decide +kernel) hfm
    | exact fok (by decide +kernel) hfm
    | exact fall (by decide +kernel) hfm
    | exact fokIx (by decide +kernel) hfm
    | exact fokAll (by decide +kernel) hfm
    | refine Mask.ok_ite ?_ ?_
    | refine faultsOf_ok ?_ ?_
    | refine fun _ (_ : Keeps fm r0 _) => ?_
    | refine fun _ _ (_ : Keeps fm r0 _) => ?_
    | refine fun _ _ _ (_ : Keeps fm r0 _) => ?_
    | exact KeepsO.get rfl (by assumption)
    | exact KeepsP.get rfl (by assumption)
    | (intro a; refine (fun ha : Keeps fm r0 a => ?_) ?_; clear_value a; rotate_left; dsimp only [a]; rotate_right)
    | (intro a; refine (fun ha : Keeps fm r0 a.2 => ?_) ?_; clear_value a; rotate_left; dsimp only [a]; rotate_right)
    | (intro a; refine (fun ha : Keeps fm r0 a.1 => ?_) ?_; clear_value a; rotate_left; dsimp only [a]; rotate_right)
    | (intro a; refine (fun ha : KeepsO fm r0 a => ?_) ?_; clear_value a; rotate_left; dsimp only [a]; rotate_right)
    | (have _ := @hgb; intro a; refine (fun hgc : ∀ t, Keeps fm r0 t → Keeps fm r0 (a t) => ?_) ?_; clear_value a; rotate_left; dsimp only [a]; rotate_right)
    | (have _ := @hga; intro a; refine (fun hgb : ∀ t, Keeps fm r0 t → Keeps fm r0 (a t) => ?_) ?_; clear_value a; rotate_left; dsimp only [a]; rotate_right)
    | (intro a; refine (fun hga : ∀ t, Keeps fm r0 t → Keeps fm r0 (a t) => ?_) ?_; clear_value a; rotate_left; dsimp only [a]; rotate_right)
    | (have _ := @hgb; intro a; refine (fun hgc : ∀ x t, Keeps fm r0 t → Keeps fm r0 (a x t) => ?_) ?_; clear_value a; rotate_left; dsimp only [a]; rotate_right)
    | (have _ := @hga; intro a; refine (fun hgb : ∀ x t, Keeps fm r0 t → Keeps fm r0 (a x t) => ?_) ?_; clear_value a; rotate_left; dsimp only [a]; rotate_right)
    | (intro a; refine (fun hga : ∀ x t, Keeps fm r0 t → Keeps fm r0 (a x t) => ?_) ?_; clear_value a; rotate_left; dsimp only [a]; rotate_right)
    | (have _ := @hgb; intro a; refine (fun hgc : ∀ x y t, Keeps fm r0 t → Keeps fm r0 (a x y t) => ?_) ?_; clear_value a; rotate_left; dsimp only [a]; rotate_right)
    | (have _ := @hga; intro a; refine (fun hgb : ∀ x y t, Keeps fm r0 t → Keeps fm r0 (a x y t) => ?_) ?_; clear_value a; rotate_left; dsimp only [a]; rotate_right)
    | (intro a; refine (fun hga : ∀ x y t, Keeps fm r0 t → Keeps fm r0 (a x y t) => ?_) ?_; clear_value a; rotate_left; dsimp only [a]; rotate_right)
    | (have _ := @hgb; intro a; refine (fun hgc : ∀ t x, Keeps fm r0 t → Keeps fm r0 (a t x) => ?_) ?_; clear_value a; rotate_left; dsimp only [a]; rotate_right)
    | (have _ := @hga; intro a; refine (fun hgb : ∀ t x, Keeps fm r0 t → Keeps fm r0 (a t x) => ?_) ?_; clear_value a; rotate_left; dsimp only [a]; rotate_right)
    | (intro a; refine (fun hga : ∀ t x, Keeps fm r0 t → Keeps fm r0 (a t x) => ?_) ?_; clear_value a; rotate_left; dsimp only [a]; rotate_right)
    | (intro a; refine (fun (_ : a = (a : Dict)) => ?_) rfl; dsimp only [a])
    | (intro a; clear_value a)
    | apply hga
    | apply hgb
    | apply hgc
    | lift_lets -underBinder
    | apply Keeps.ite
    | apply countDev_keeps
    | apply Keeps.forEach
    | apply Keeps.forRange
    | apply Keeps.foldl
    | apply Keeps.foldl_fst
    | apply Keeps.foldl_snd
    | exact KeepsO.none
    | exact KeepsP.none
    | apply KeepsO.some
    | apply KeepsP.some
    | apply KeepsO.ite
    | apply KeepsP.ite
    | refine KeepsO.foldl _ _ ?_ (fun _ _ _ => ?_)
    | exact KeepsF.lost
    | apply KeepsF.started
    | apply KeepsF.ite
    | fail_if_no_progress (apply Keeps.upd <;> try first | exact Or.inr (fpart (by decide +kernel) hfm) | exact Or.inl rfl)
    | fail_if_no_progress (apply Keeps.updDict <;> try first | exact Or.inr (fpart (by decide +kernel) hfm) | exact Or.inl rfl)
    | refine Keeps.updRegs (rg := Tbl.filterK _ _) ?_ (Tbl.wf_filterK _) (Tbl.wf_filterK _)
    | refine Keeps.updRegs (rg := Tbl.filterK _ _) ?_ (Tbl.wf_filterK _) id
    | split
    | refine Keeps.of_snd (by assumption) ?_
    | refine Keeps.of_fst (by assumption) ?_
    | refine KeepsO.get (by assumption) ?_
    | refine KeepsP.get (by assumption) ?_
    | refine KeepsF.get (by assumption) ?_

theorem transmit_keeps {fm : Nat} {r0 : State}  {s : State} {m : OutMsg} (hfm : Mask.le 0x110000000000000000000000000000000000000000000000000000000840020 fm = true) (h0 : Keeps fm r0 s)  : Keeps fm r0 (transmit s m) := by
  unfold transmit
  try lift_lets -underBinder
  with_reducible repeat' first | assumption | exact fpart (by decide +kernel) hfm | exact fle (by decide +kernel) hfm | exact fok (by decide +kernel) hfm | exact fall (by decide +kernel) hfm | exact fokIx (by decide +kernel) hfm | exact fokAll (by decide +kernel) hfm | refine Mask.ok_ite ?_ ?_ | refine faultsOf_ok ?_ ?_ | (intro a; refine (fun ha : Keeps fm r0 a => ?_) ?_; clear_value a; rotate_left; dsimp only [a]; rotate_right) | (intro a; clear_value a) | lift_lets -underBinder | apply modLink_keeps | apply bump_keeps | apply countFlits_keeps | apply wr_keeps | apply emit_keeps

theorem sendMsg_keeps {fm : Nat} {r0 : State}  {s : State} {m : Msg} (hfm : Mask.le 0x190000000000000000000000000000000000000000000000000000000840020 fm = true) (h0 : Keeps fm r0 s)  : Keeps fm r0 (sendMsg s m) := by
  unfold sendMsg
  try lift_lets -underBinder
  with_reducible repeat' first | assumption | exact fpart (by decide +kernel) hfm | exact fle (by decide +kernel) hfm | exact fok (by decide +kernel) hfm | exact fall (by decide +kernel) hfm | exact fokIx (by decide +kernel) hfm | exact fokAll (by decide +kernel) hfm | refine Mask.ok_ite ?_ ?_ | refine faultsOf_ok ?_ ?_ | (intro a; refine (fun ha : Keeps fm r0 a => ?_) ?_; clear_value a; rotate_left; dsimp only [a]; rotate_right) | (intro a; clear_value a) | lift_lets -underBinder | apply Keeps.ite | apply modLink_keeps | apply bump_keeps | apply transmit_keeps

theorem drainQueue_keeps {fm : Nat} {r0 : State}  {s : State} (hfm : Mask.le 0x110000000000000000000000000000000000000000000000000000000840020 fm = true) (h0 : Keeps fm r0 s)  : Keeps fm r0 (drainQueue s) := by
  unfold drainQueue
  try lift_lets -underBinder
  with_reducible repeat' first | assumption | exact fpart (by decide +kernel) hfm | exact fle (by decide +kernel) hfm | exact fok (by decide +kernel) hfm | exact fall (by decide +kernel) hfm | exact fokIx (by decide +kernel) hfm | exact fokAll (by decide +kernel) hfm | refine Mask.ok_ite ?_ ?_ | refine faultsOf_ok ?_ ?_ | refine fun _ _ (_ : Keeps fm r0 _) => ?_ | (intro a; clear_value a) | lift_lets -underBinder | apply Keeps.ite | apply transmit_keeps | apply countDev_keeps | apply modLink_keeps | apply Keeps.forEach

/-! ## Stripes -/

theorem appendRec_keeps {fm : Nat} {r0 : State}  {s : State} {p : Nat} {b : RecBody} {copy : Bool} (hfm : Mask.le 0x100000000000000000000000000000000000000000000000000000000000000000000000000000000000000000000000000000002020 fm = true) (h0 : Keeps fm r0 s)  : Keeps fm r0 (appendRec s p b copy) := by
  unfold appendRec
  try lift_lets -underBinder
  with_reducible repeat' first
    | assumption
    | exact fpart (by decide +kernel) hfm
    | exact fle (by decide +kernel) hfm
    | exact fok (by decide +kernel) hfm
    | exact fall (by decide +kernel) hfm
    | exact fokIx (by decide +kernel) hfm
    | exact fokAll (by decide +kernel) hfm
    | refine Mask.ok_ite ?_ ?_
    | refine faultsOf_ok ?_ ?_
    | refine fun _ (_ : Keeps fm r0 _) => ?_
    | refine fun _ _ (_ : Keeps fm r0 _) => ?_
    | refine fun _ _ _ (_ : Keeps fm r0 _) => ?_
    | exact KeepsO.get rfl (by assumption)
    | exact KeepsP.get rfl (by assumption)
    | (intro a; refine (fun ha : Keeps fm r0 a => ?_) ?_; clear_value a; rotate_left; dsimp only [a]; rotate_right)
    | (intro a; refine (fun ha : Keeps fm r0 a.2 => ?_) ?_; clear_value a; rotate_left; dsimp only [a]; rotate_right)
    | (intro a; refine (fun ha : Keeps fm r0 a.1 => ?_) ?_; clear_value a; rotate_left; dsimp only [a]; rotate_right)
    | (intro a; refine (fun ha : KeepsO fm r0 a => ?_) ?_; clear_value a; rotate_left; dsimp only [a]; rotate_right)
    | (have _ := @hgb; intro a; refine (fun hgc : ∀ t, Keeps fm r0 t → Keeps fm r0 (a t) => ?_) ?_; clear_value a; rotate_left; dsimp only [a]; rotate_right)
    | (have _ := @hga; intro a; refine (fun hgb : ∀ t, Keeps fm r0 t → Keeps fm r0 (a t) => ?_) ?_; clear_value a; rotate_left; dsimp only [a]; rotate_right)
    | (intro a; refine (fun hga : ∀ t, Keeps fm r0 t → Keeps fm r0 (a t) => ?_) ?_; clear_value a; rotate_left; dsimp only [a]; rotate_right)
    | (have _ := @hgb; intro a; refine (fun hgc : ∀ x t, Keeps fm r0 t → Keeps fm r0 (a x t) => ?_) ?_; clear_value a; rotate_left; dsimp only [a]; rotate_right)
    | (have _ := @hga; intro a; refine (fun hgb : ∀ x t, Keeps fm r0 t → Keeps fm r0 (a x t) => ?_) ?_; clear_value a; rotate_left; dsimp only [a]; rotate_right)
    | (intro a; refine (fun hga : ∀ x t, Keeps fm r0 t → Keeps fm r0 (a x t) => ?_) ?_; clear_value a; rotate_left; dsimp only [a]; rotate_right)
    | (have _ := @hgb; intro a; refine (fun hgc : ∀ x y t, Keeps fm r0 t → Keeps fm r0 (a x y t) => ?_) ?_; clear_value a; rotate_left; dsimp only [a]; rotate_right)
    | (have _ := @hga; intro a; refine (fun hgb : ∀ x y t, Keeps fm r0 t → Keeps fm r0 (a x y t) => ?_) ?_; clear_value a; rotate_left; dsimp only [a]; rotate_right)
    | (intro a; refine (fun hga : ∀ x y t, Keeps fm r0 t → Keeps fm r0 (a x y t) => ?_) ?_; clear_value a; rotate_left; dsimp only [a]; rotate_right)
    | (have _ := @hgb; intro a; refine (fun hgc : ∀ t x, Keeps fm r0 t → Keeps fm r0 (a t x) => ?_) ?_; clear_value a; rotate_left; dsimp only [a]; rotate_right)
    | (have _ := @hga; intro a; refine (fun hgb : ∀ t x, Keeps fm r0 t → Keeps fm r0 (a t x) => ?_) ?_; clear_value a; rotate_left; dsimp only [a]; rotate_right)
    | (intro a; refine (fun hga : ∀ t x, Keeps fm r0 t → Keeps fm r0 (a t x) => ?_) ?_; clear_value a; rotate_left; dsimp only [a]; rotate_right)
    | (intro a; refine (fun (_ : a = (a : Dict)) => ?_) rfl; dsimp only [a])
    | (intro a; clear_value a)
    | apply hga
    | apply hgb
    | apply hgc
    | lift_lets -underBinder
    | apply Keeps.ite
    | apply bump_keeps
    | apply countDev_keeps
    | apply Keeps.forEach
    | apply Keeps.forRange
    | apply Keeps.foldl
    | apply Keeps.foldl_fst
    | apply Keeps.foldl_snd
    | exact KeepsO.none
    | exact KeepsP.none
    | apply KeepsO.some
    | apply KeepsP.some
    | apply KeepsO.ite
    | apply KeepsP.ite
    | refine KeepsO.foldl _ _ ?_ (fun _ _ _ => ?_)
    | exact KeepsF.lost
    | apply KeepsF.started
    | apply KeepsF.ite
    | fail_if_no_progress (apply Keeps.upd <;> try first | exact Or.inr (fpart (by decide +kernel) hfm) | exact Or.inl rfl)
    | fail_if_no_progress (apply Keeps.updDict <;> try first | exact Or.inr (fpart (by decide +kernel) hfm) | exact Or.inl rfl)
    | refine Keeps.updRegs (rg := Tbl.filterK _ _) ?_ (Tbl.wf_filterK _) (Tbl.wf_filterK _)
    | refine Keeps.updRegs (rg := Tbl.filterK _ _) ?_ (Tbl.wf_filterK _) id
    | split
    | refine Keeps.of_snd (by assumption) ?_
    | refine Keeps.of_fst (by assumption) ?_
    | refine KeepsO.get (by assumption) ?_
    | refine KeepsP.get (by assumption) ?_
    | refine KeepsF.get (by assumption) ?_

theorem logRec_keeps {fm : Nat} {r0 : State}  {s : State} {p : Nat} {b : RecBody} (hfm : Mask.le 0x100000000000000000000000000000000000000000000000000000000000000000000000000000000000000000000000000000002020 fm = true) (h0 : Keeps fm r0 s)  : Keeps fm r0 (logRec s p b) := by
  unfold logRec
  with_reducible repeat' first | assumption | exact fpart (by decide +kernel) hfm | exact fle (by decide +kernel) hfm | exact fok (by decide +kernel) hfm | exact fall (by decide +kernel) hfm | exact fokIx (by decide +kernel) hfm | exact fokAll (by decide +kernel) hfm | refine Mask.ok_ite ?_ ?_ | refine faultsOf_ok ?_ ?_ | apply appendRec_keeps | fail_if_no_progress (apply Keeps.upd <;> try first | exact Or.inr (fpart (by decide +kernel) hfm) | exact Or.inl rfl)

theorem reserveSeqs_keeps {fm : Nat} {r0 : State}  {s : State} {kind : Nat} {p : Nat} {next : Nat} (hfm : Mask.le 0x100000000000000000000000000000000000000000000000000000000000000000000000000000000000000000000000000000002020 fm = true) (h0 : Keeps fm r0 s)  : Keeps fm r0 (reserveSeqs s kind p next) := by
  unfold reserveSeqs
  try lift_lets -underBinder
  with_reducible repeat' first
    | assumption
    | exact fpart (by decide +kernel) hfm
    | exact fle (by decide +kernel) hfm
    | exact fok (by decide +kernel) hfm
    | exact fall (by decide +kernel) hfm
    | exact fokIx (by decide +kernel) hfm
    | exact fokAll (by decide +kernel) hfm
    | refine Mask.ok_ite ?_ ?_
    | refine faultsOf_ok ?_ ?_
    | refine fun _ (_ : Keeps fm r0 _) => ?_
    | refine fun _ _ (_ : Keeps fm r0 _) => ?_
    | refine fun _ _ _ (_ : Keeps fm r0 _) => ?_
    | exact KeepsO.get rfl (by assumption)
    | exact KeepsP.get rfl (by assumption)
    | (intro a; refine (fun ha : Keeps fm r0 a => ?_) ?_; clear_value a; rotate_left; dsimp only [a]; rotate_right)
    | (intro a; refine (fun ha : Keeps fm r0 a.2 => ?_) ?_; clear_value a; rotate_left; dsimp only [a]; rotate_right)
    | (intro a; refine (fun ha : Keeps fm r0 a.1 => ?_) ?_; clear_value a; rotate_left; dsimp only [a]; rotate_right)
    | (intro a; refine (fun ha : KeepsO fm r0 a => ?_) ?_; clear_value a; rotate_left; dsimp only [a]; rotate_right)
    | (have _ := @hgb; intro a; refine (fun hgc : ∀ t, Keeps fm r0 t → Keeps fm r0 (a t) => ?_) ?_; clear_value a; rotate_left; dsimp only [a]; rotate_right)
    | (have _ := @hga; intro a; refine (fun hgb : ∀ t, Keeps fm r0 t → Keeps fm r0 (a t) => ?_) ?_; clear_value a; rotate_left; dsimp only [a]; rotate_right)
    | (intro a; refine (fun hga : ∀ t, Keeps fm r0 t → Keeps fm r0 (a t) => ?_) ?_; clear_value a; rotate_left; dsimp only [a]; rotate_right)
    | (have _ := @hgb; intro a; refine (fun hgc : ∀ x t, Keeps fm r0 t → Keeps fm r0 (a x t) => ?_) ?_; clear_value a; rotate_left; dsimp only [a]; rotate_right)
    | (have _ := @hga; intro a; refine (fun hgb : ∀ x t, Keeps fm r0 t → Keeps fm r0 (a x t) => ?_) ?_; clear_value a; rotate_left; dsimp only [a]; rotate_right)
    | (intro a; refine (fun hga : ∀ x t, Keeps fm r0 t → Keeps fm r0 (a x t) => ?_) ?_; clear_value a; rotate_left; dsimp only [a]; rotate_right)
    | (have _ := @hgb; intro a; refine (fun hgc : ∀ x y t, Keeps fm r0 t → Keeps fm r0 (a x y t) => ?_) ?_; clear_value a; rotate_left; dsimp only [a]; rotate_right)
    | (have _ := @hga; intro a; refine (fun hgb : ∀ x y t, Keeps fm r0 t → Keeps fm r0 (a x y t) => ?_) ?_; clear_value a; rotate_left; dsimp only [a]; rotate_right)
    | (intro a; refine (fun hga : ∀ x y t, Keeps fm r0 t → Keeps fm r0 (a x y t) => ?_) ?_; clear_value a; rotate_left; dsimp only [a]; rotate_right)
    | (have _ := @hgb; intro a; refine (fun hgc : ∀ t x, Keeps fm r0 t → Keeps fm r0 (a t x) => ?_) ?_; clear_value a; rotate_left; dsimp only [a]; rotate_right)
    | (have _ := @hga; intro a; refine (fun hgb : ∀ t x, Keeps fm r0 t → Keeps fm r0 (a t x) => ?_) ?_; clear_value a; rotate_left; dsimp only [a]; rotate_right)
    | (intro a; refine (fun hga : ∀ t x, Keeps fm r0 t → Keeps fm r0 (a t x) => ?_) ?_; clear_value a; rotate_left; dsimp only [a]; rotate_right)
    | (intro a; refine (fun (_ : a = (a : Dict)) => ?_) rfl; dsimp only [a])
    | (intro a; clear_value a)
    | apply hga
    | apply hgb
    | apply hgc
    | lift_lets -underBinder
    | apply Keeps.ite
    | apply logRec_keeps
    | apply Keeps.forEach
    | apply Keeps.forRange
    | apply Keeps.foldl
    | apply Keeps.foldl_fst
    | apply Keeps.foldl_snd
    | exact KeepsO.none
    | exact KeepsP.none
    | apply KeepsO.some
    | apply KeepsP.some
    | apply KeepsO.ite
    | apply KeepsP.ite
    | refine KeepsO.foldl _ _ ?_ (fun _ _ _ => ?_)
    | exact KeepsF.lost
    | apply KeepsF.started
    | apply KeepsF.ite
    | fail_if_no_progress (apply Keeps.upd <;> try first | exact Or.inr (fpart (by decide +kernel) hfm) | exact Or.inl rfl)
    | fail_if_no_progress (apply Keeps.updDict <;> try first | exact Or.inr (fpart (by decide +kernel) hfm) | exact Or.inl rfl)
    | refine Keeps.updRegs (rg := Tbl.filterK _ _) ?_ (Tbl.wf_filterK _) (Tbl.wf_filterK _)
    | refine Keeps.updRegs (rg := Tbl.filterK _ _) ?_ (Tbl.wf_filterK _) id
    | split
    | refine Keeps.of_snd (by assumption) ?_
    | refine Keeps.of_fst (by assumption) ?_
    | refine KeepsO.get (by assumption) ?_
    | refine KeepsP.get (by assumption) ?_
    | refine KeepsF.get (by assumption) ?_

theorem noteFloor_keeps {fm : Nat} {r0 : State}  {s : State} {kind : Nat} {p : Nat} {bound : Nat} (hfm : Mask.le 0x2000 fm = true) (h0 : Keeps fm r0 s)  : Keeps fm r0 (noteFloor s kind p bound) := by
  unfold noteFloor
  with_reducible repeat' first
    | assumption
    | exact fpart (by decide +kernel) hfm
    | exact fle (by decide +kernel) hfm
    | exact fok (by decide +kernel) hfm
    | exact fall (by decide +kernel) hfm
    | exact fokIx (by decide +kernel) hfm
    | exact fokAll (by decide +kernel) hfm
    | refine Mask.ok_ite ?_ ?_
    | refine faultsOf_ok ?_ ?_
    | refine fun _ (_ : Keeps fm r0 _) => ?_
    | refine fun _ _ (_ : Keeps fm r0 _) => ?_
    | refine fun _ _ _ (_ : Keeps fm r0 _) => ?_
    | exact KeepsO.get rfl (by assumption)
    | exact KeepsP.get rfl (by assumption)
    | apply Keeps.ite
    | apply Keeps.forEach
    | apply Keeps.forRange
    | apply Keeps.foldl
    | apply Keeps.foldl_fst
    | apply Keeps.foldl_snd
    | exact KeepsO.none
    | exact KeepsP.none
    | apply KeepsO.some
    | apply KeepsP.some
    | apply KeepsO.ite
    | apply KeepsP.ite
    | refine KeepsO.foldl _ _ ?_ (fun _ _ _ => ?_)
    | exact KeepsF.lost
    | apply KeepsF.started
    | apply KeepsF.ite
    | fail_if_no_progress (apply Keeps.upd <;> try first | exact Or.inr (fpart (by decide +kernel) hfm) | exact Or.inl rfl)
    | fail_if_no_progress (apply Keeps.updDict <;> try first | exact Or.inr (fpart (by decide +kernel) hfm) | exact Or.inl rfl)
    | refine Keeps.updRegs (rg := Tbl.filterK _ _) ?_ (Tbl.wf_filterK _) (Tbl.wf_filterK _)
    | refine Keeps.updRegs (rg := Tbl.filterK _ _) ?_ (Tbl.wf_filterK _) id
    | split
    | refine Keeps.of_snd (by assumption) ?_
    | refine Keeps.of_fst (by assumption) ?_
    | refine KeepsO.get (by assumption) ?_
    | refine KeepsP.get (by assumption) ?_
    | refine KeepsF.get (by assumption) ?_

theorem reserveAll_keeps {fm : Nat} {r0 : State}  {s : State} {p : Nat} (hfm : Mask.le 0x100000000000000000000000000000000000000000000000000000000000000000000000000000000000000000000000000000002020 fm = true) (h0 : Keeps fm r0 s)  : Keeps fm r0 (reserveAll s p) := by
  unfold reserveAll
  with_reducible repeat' first
    | assumption
    | exact fpart (by decide +kernel) hfm
    | exact fle (by decide +kernel) hfm
    | exact fok (by decide +kernel) hfm
    | exact fall (by decide +kernel) hfm
    | exact fokIx (by decide +kernel) hfm
    | exact fokAll (by decide +kernel) hfm
    | refine Mask.ok_ite ?_ ?_
    | refine faultsOf_ok ?_ ?_
    | refine fun _ (_ : Keeps fm r0 _) => ?_
    | refine fun _ _ (_ : Keeps fm r0 _) => ?_
    | refine fun _ _ _ (_ : Keeps fm r0 _) => ?_
    | exact KeepsO.get rfl (by assumption)
    | exact KeepsP.get rfl (by assumption)
    | apply Keeps.ite
    | apply reserveSeqs_keeps
    | apply Keeps.forEach
    | apply Keeps.forRange
    | apply Keeps.foldl
    | apply Keeps.foldl_fst
    | apply Keeps.foldl_snd
    | exact KeepsO.none
    | exact KeepsP.none
    | apply KeepsO.some
    | apply KeepsP.some
    | apply KeepsO.ite
    | apply KeepsP.ite
    | refine KeepsO.foldl _ _ ?_ (fun _ _ _ => ?_)
    | exact KeepsF.lost
    | apply KeepsF.started
    | apply KeepsF.ite
    | fail_if_no_progress (apply Keeps.upd <;> try first | exact Or.inr (fpart (by decide +kernel) hfm) | exact Or.inl rfl)
    | fail_if_no_progress (apply Keeps.updDict <;> try first | exact Or.inr (fpart (by decide +kernel) hfm) | exact Or.inl rfl)
    | refine Keeps.updRegs (rg := Tbl.filterK _ _) ?_ (Tbl.wf_filterK _) (Tbl.wf_filterK _)
    | refine Keeps.updRegs (rg := Tbl.filterK _ _) ?_ (Tbl.wf_filterK _) id
    | split
    | refine Keeps.of_snd (by assumption) ?_
    | refine Keeps.of_fst (by assumption) ?_
    | refine KeepsO.get (by assumption) ?_
    | refine KeepsP.get (by assumption) ?_
    | refine KeepsF.get (by assumption) ?_

theorem modLane_keeps {fm : Nat} {r0 : State}  {s : State} {p : Nat} {cls : Nat} {idx : Nat} {f : Lane → Lane} (hfm : Mask.le 0x1000 fm = true) (h0 : Keeps fm r0 s)  : Keeps fm r0 (modLane s p cls idx f) := by
  unfold modLane
  with_reducible repeat' first | assumption | exact fpart (by decide +kernel) hfm | exact fle (by decide +kernel) hfm | exact fok (by decide +kernel) hfm | exact fall (by decide +kernel) hfm | exact fokIx (by decide +kernel) hfm | exact fokAll (by decide +kernel) hfm | refine Mask.ok_ite ?_ ?_ | refine faultsOf_ok ?_ ?_ | apply modPool_keeps

theorem modSeg_keeps {fm : Nat} {r0 : State}  {s : State} {p : Nat} {slot : Nat} {f : Seg → Seg} (hfm : Mask.le 0x1000 fm = true) (h0 : Keeps fm r0 s)  : Keeps fm r0 (modSeg s p slot f) := by
  unfold modSeg
  with_reducible repeat' first | assumption | exact fpart (by decide +kernel) hfm | exact fle (by decide +kernel) hfm | exact fok (by decide +kernel) hfm | exact fall (by decide +kernel) hfm | exact fokIx (by decide +kernel) hfm | exact fokAll (by decide +kernel) hfm | refine Mask.ok_ite ?_ ?_ | refine faultsOf_ok ?_ ?_ | apply modPool_keeps

theorem noteLanes_keeps {fm : Nat} {r0 : State}  {s : State} {p : Nat} (hfm : Mask.le 0x1a0000000000000000000000000000000000000000000000000000000000000000000000000000000000000000000000000000000000000000000000000000000 fm = true) (h0 : Keeps fm r0 s)  : Keeps fm r0 (noteLanes s p) := by
  unfold noteLanes
  try lift_lets -underBinder
  with_reducible repeat' first | assumption | exact fpart (by decide +kernel) hfm | exact fle (by decide +kernel) hfm | exact fok (by decide +kernel) hfm | exact fall (by decide +kernel) hfm | exact fokIx (by decide +kernel) hfm | exact fokAll (by decide +kernel) hfm | refine Mask.ok_ite ?_ ?_ | refine faultsOf_ok ?_ ?_ | (intro a; clear_value a) | lift_lets -underBinder | apply wr_keeps

theorem openSeg_keeps {fm : Nat} {r0 : State}  {s : State} {p : Nat} {ln : Lane} (hfm : Mask.le 0x3008000000000000001a000000000000000000010000000000000000000000000000001400860000017c000000000000000000000000000080000000000000000000020000040807120 fm = true) (h0 : Keeps fm r0 s)  : Keeps fm r0 (openSeg s p ln) := by
  unfold openSeg
  try lift_lets -underBinder
  with_reducible repeat' first | assumption | exact fpart (by decide +kernel) hfm | exact fle (by decide +kernel) hfm | exact fok (by decide +kernel) hfm | exact fall (by decide +kernel) hfm | exact fokIx (by decide +kernel) hfm | exact fokAll (by decide +kernel) hfm | refine Mask.ok_ite ?_ ?_ | refine faultsOf_ok ?_ ?_ | refine fun _ _ (_ : Keeps fm r0 _) => ?_ | (intro a; refine (fun ha : Keeps fm r0 a => ?_) ?_; clear_value a; rotate_left; dsimp only [a]; rotate_right) | (intro a; clear_value a) | lift_lets -underBinder | apply reserveSeqs_keeps | apply modPool_keeps | apply useZone_keeps | apply issueTo_keeps | apply noteLanes_keeps | apply modLane_keeps | apply Keeps.forEach

theorem writeTable_keeps {fm : Nat} {r0 : State}  {s : State} {p : Nat} {slot : Nat} {g : Seg} (hfm : Mask.le 0x1a0000000000000000000000000000000000000000000000000014000000000000000000000000000000000000000000000000000000000000020000040805020 fm = true) (h0 : Keeps fm r0 s)  : Keeps fm r0 (writeTable s p slot g) := by
  unfold writeTable
  try lift_lets -underBinder
  with_reducible repeat' first | assumption | exact fpart (by decide +kernel) hfm | exact fle (by decide +kernel) hfm | exact fok (by decide +kernel) hfm | exact fall (by decide +kernel) hfm | exact fokIx (by decide +kernel) hfm | exact fokAll (by decide +kernel) hfm | refine Mask.ok_ite ?_ ?_ | refine faultsOf_ok ?_ ?_ | refine fun _ _ (_ : Keeps fm r0 _) => ?_ | (intro a; refine (fun ha : Keeps fm r0 a => ?_) ?_; clear_value a; rotate_left; dsimp only [a]; rotate_right) | (intro a; clear_value a) | lift_lets -underBinder | apply Keeps.ite | apply issueTo_keeps | apply noteLanes_keeps | apply modSeg_keeps | apply Keeps.forEach

theorem queryPointers_keeps {fm : Nat} {r0 : State}  {s : State} {p : Nat} {slot : Nat} {g : Seg} (hfm : Mask.le 0x1a0000000000000000000000000000000000000000000000000014000000000000000000000000000000000000000000000000000000000000020000040805020 fm = true) (h0 : Keeps fm r0 s)  : Keeps fm r0 (queryPointers s p slot g) := by
  unfold queryPointers
  try lift_lets -underBinder
  with_reducible repeat' first | assumption | exact fpart (by decide +kernel) hfm | exact fle (by decide +kernel) hfm | exact fok (by decide +kernel) hfm | exact fall (by decide +kernel) hfm | exact fokIx (by decide +kernel) hfm | exact fokAll (by decide +kernel) hfm | refine Mask.ok_ite ?_ ?_ | refine faultsOf_ok ?_ ?_ | refine fun _ _ (_ : Keeps fm r0 _) => ?_ | (intro a; clear_value a) | lift_lets -underBinder | apply Keeps.ite | apply writeTable_keeps | apply issueTo_keeps | apply modSeg_keeps | apply Keeps.forEach

theorem trySeal_keeps {fm : Nat} {r0 : State}  {s : State} {p : Nat} {slot : Nat} (hfm : Mask.le 0x1a0000000000000000000000000000000000000000000000000014000000000000000000000000000000000000000000000000000000000000020000040805020 fm = true) (h0 : Keeps fm r0 s)  : Keeps fm r0 (trySeal s p slot) := by
  unfold trySeal
  with_reducible repeat' first | assumption | exact fpart (by decide +kernel) hfm | exact fle (by decide +kernel) hfm | exact fok (by decide +kernel) hfm | exact fall (by decide +kernel) hfm | exact fokIx (by decide +kernel) hfm | exact fokAll (by decide +kernel) hfm | refine Mask.ok_ite ?_ ?_ | refine faultsOf_ok ?_ ?_ | apply Keeps.ite | apply queryPointers_keeps | apply writeTable_keeps | split

theorem pointerKnown_keeps {fm : Nat} {r0 : State}  {s : State} {p : Nat} {slot : Nat} {member : Nat} {zone : Nat} {wp : Nat} (hfm : Mask.le 0x14000000000000000000000000000000000000000000000000000000000000020000040805020 fm = true) (h0 : Keeps fm r0 s)  : Keeps fm r0 (pointerKnown s p slot member zone wp) := by
  unfold pointerKnown
  try lift_lets -underBinder
  with_reducible repeat' first
    | assumption
    | exact fpart (by decide +kernel) hfm
    | exact fle (by decide +kernel) hfm
    | exact fok (by decide +kernel) hfm
    | exact fall (by decide +kernel) hfm
    | exact fokIx (by decide +kernel) hfm
    | exact fokAll (by decide +kernel) hfm
    | refine Mask.ok_ite ?_ ?_
    | refine faultsOf_ok ?_ ?_
    | refine fun _ (_ : Keeps fm r0 _) => ?_
    | refine fun _ _ (_ : Keeps fm r0 _) => ?_
    | refine fun _ _ _ (_ : Keeps fm r0 _) => ?_
    | exact KeepsO.get rfl (by assumption)
    | exact KeepsP.get rfl (by assumption)
    | (intro a; refine (fun ha : Keeps fm r0 a => ?_) ?_; clear_value a; rotate_left; dsimp only [a]; rotate_right)
    | (intro a; refine (fun ha : Keeps fm r0 a.2 => ?_) ?_; clear_value a; rotate_left; dsimp only [a]; rotate_right)
    | (intro a; refine (fun ha : Keeps fm r0 a.1 => ?_) ?_; clear_value a; rotate_left; dsimp only [a]; rotate_right)
    | (intro a; refine (fun ha : KeepsO fm r0 a => ?_) ?_; clear_value a; rotate_left; dsimp only [a]; rotate_right)
    | (have _ := @hgb; intro a; refine (fun hgc : ∀ t, Keeps fm r0 t → Keeps fm r0 (a t) => ?_) ?_; clear_value a; rotate_left; dsimp only [a]; rotate_right)
    | (have _ := @hga; intro a; refine (fun hgb : ∀ t, Keeps fm r0 t → Keeps fm r0 (a t) => ?_) ?_; clear_value a; rotate_left; dsimp only [a]; rotate_right)
    | (intro a; refine (fun hga : ∀ t, Keeps fm r0 t → Keeps fm r0 (a t) => ?_) ?_; clear_value a; rotate_left; dsimp only [a]; rotate_right)
    | (have _ := @hgb; intro a; refine (fun hgc : ∀ x t, Keeps fm r0 t → Keeps fm r0 (a x t) => ?_) ?_; clear_value a; rotate_left; dsimp only [a]; rotate_right)
    | (have _ := @hga; intro a; refine (fun hgb : ∀ x t, Keeps fm r0 t → Keeps fm r0 (a x t) => ?_) ?_; clear_value a; rotate_left; dsimp only [a]; rotate_right)
    | (intro a; refine (fun hga : ∀ x t, Keeps fm r0 t → Keeps fm r0 (a x t) => ?_) ?_; clear_value a; rotate_left; dsimp only [a]; rotate_right)
    | (have _ := @hgb; intro a; refine (fun hgc : ∀ x y t, Keeps fm r0 t → Keeps fm r0 (a x y t) => ?_) ?_; clear_value a; rotate_left; dsimp only [a]; rotate_right)
    | (have _ := @hga; intro a; refine (fun hgb : ∀ x y t, Keeps fm r0 t → Keeps fm r0 (a x y t) => ?_) ?_; clear_value a; rotate_left; dsimp only [a]; rotate_right)
    | (intro a; refine (fun hga : ∀ x y t, Keeps fm r0 t → Keeps fm r0 (a x y t) => ?_) ?_; clear_value a; rotate_left; dsimp only [a]; rotate_right)
    | (have _ := @hgb; intro a; refine (fun hgc : ∀ t x, Keeps fm r0 t → Keeps fm r0 (a t x) => ?_) ?_; clear_value a; rotate_left; dsimp only [a]; rotate_right)
    | (have _ := @hga; intro a; refine (fun hgb : ∀ t x, Keeps fm r0 t → Keeps fm r0 (a t x) => ?_) ?_; clear_value a; rotate_left; dsimp only [a]; rotate_right)
    | (intro a; refine (fun hga : ∀ t x, Keeps fm r0 t → Keeps fm r0 (a t x) => ?_) ?_; clear_value a; rotate_left; dsimp only [a]; rotate_right)
    | (intro a; refine (fun (_ : a = (a : Dict)) => ?_) rfl; dsimp only [a])
    | (intro a; clear_value a)
    | apply hga
    | apply hgb
    | apply hgc
    | lift_lets -underBinder
    | apply Keeps.ite
    | apply issueTo_keeps
    | apply modSeg_keeps
    | apply Keeps.forEach
    | apply Keeps.forRange
    | apply Keeps.foldl
    | apply Keeps.foldl_fst
    | apply Keeps.foldl_snd
    | exact KeepsO.none
    | exact KeepsP.none
    | apply KeepsO.some
    | apply KeepsP.some
    | apply KeepsO.ite
    | apply KeepsP.ite
    | refine KeepsO.foldl _ _ ?_ (fun _ _ _ => ?_)
    | exact KeepsF.lost
    | apply KeepsF.started
    | apply KeepsF.ite
    | refine Keeps.of_snd (by assumption) ?_
    | refine Keeps.of_fst (by assumption) ?_
    | refine KeepsO.get (by assumption) ?_
    | refine KeepsP.get (by assumption) ?_
    | refine KeepsF.get (by assumption) ?_
    | split
    | fail_if_no_progress (apply Keeps.upd <;> try first | exact Or.inr (fpart (by decide +kernel) hfm) | exact Or.inl rfl)
    | fail_if_no_progress (apply Keeps.updDict <;> try first | exact Or.inr (fpart (by decide +kernel) hfm) | exact Or.inl rfl)
    | refine Keeps.updRegs (rg := Tbl.filterK _ _) ?_ (Tbl.wf_filterK _) (Tbl.wf_filterK _)
    | refine Keeps.updRegs (rg := Tbl.filterK _ _) ?_ (Tbl.wf_filterK _) id

theorem leaveSeg_keeps {fm : Nat} {r0 : State}  {s : State} {p : Nat} {slot : Nat} (hfm : Mask.le 0x1a0000000000000000000000000000000000000000000000000014000000000000000000000000000000000000000000000000000000000000020000040805020 fm = true) (h0 : Keeps fm r0 s)  : Keeps fm r0 (leaveSeg s p slot) := by
  unfold leaveSeg
  with_reducible repeat' first | assumption | exact fpart (by decide +kernel) hfm | exact fle (by decide +kernel) hfm | exact fok (by decide +kernel) hfm | exact fall (by decide +kernel) hfm | exact fokIx (by decide +kernel) hfm | exact fokAll (by decide +kernel) hfm | refine Mask.ok_ite ?_ ?_ | refine faultsOf_ok ?_ ?_ | apply trySeal_keeps | apply modSeg_keeps | apply modPool_keeps

theorem modStripe_keeps {fm : Nat} {r0 : State}  {s : State} {p : Nat} {id : Nat} {f : Stripe → Stripe} (hfm : Mask.le 0x1000 fm = true) (h0 : Keeps fm r0 s)  : Keeps fm r0 (modStripe s p id f) := by
  unfold modStripe
  with_reducible repeat' first | assumption | exact fpart (by decide +kernel) hfm | exact fle (by decide +kernel) hfm | exact fok (by decide +kernel) hfm | exact fall (by decide +kernel) hfm | exact fokIx (by decide +kernel) hfm | exact fokAll (by decide +kernel) hfm | refine Mask.ok_ite ?_ ?_ | refine faultsOf_ok ?_ ?_ | apply modPool_keeps

theorem noteStripes_keeps {fm : Nat} {r0 : State}  {s : State} {p : Nat} (hfm : Mask.le 0x10000000000000000000000000000000000000000000000000000000000000000000000000000000000000000000000000000000000000000000000000000000 fm = true) (h0 : Keeps fm r0 s)  : Keeps fm r0 (noteStripes s p) := by
  unfold noteStripes
  with_reducible repeat' first | assumption | exact fpart (by decide +kernel) hfm | exact fle (by decide +kernel) hfm | exact fok (by decide +kernel) hfm | exact fall (by decide +kernel) hfm | exact fokIx (by decide +kernel) hfm | exact fokAll (by decide +kernel) hfm | refine Mask.ok_ite ?_ ?_ | refine faultsOf_ok ?_ ?_ | apply wr_keeps

theorem openStripe_keeps {fm : Nat} {r0 : State}  {s : State} {p : Nat} {ln : Lane} {slot : Nat} {g : Seg} (hfm : Mask.le 0x10000000000000000000100000000000000000000000000000000000000000000000000000000000000000000000000000000000000000000000000000003020 fm = true) (h0 : Keeps fm r0 s)  : Keeps fm r0 (openStripe s p ln slot g) := by
  unfold openStripe
  try lift_lets -underBinder
  with_reducible repeat' first | assumption | exact fpart (by decide +kernel) hfm | exact fle (by decide +kernel) hfm | exact fok (by decide +kernel) hfm | exact fall (by decide +kernel) hfm | exact fokIx (by decide +kernel) hfm | exact fokAll (by decide +kernel) hfm | refine Mask.ok_ite ?_ ?_ | refine faultsOf_ok ?_ ?_ | (intro a; clear_value a) | lift_lets -underBinder | apply noteStripes_keeps | apply modLane_keeps | apply reserveSeqs_keeps | apply modPool_keeps

theorem leaveFull_keeps {fm : Nat} {r0 : State}  {s : State} {p : Nat} {cls : Nat} {idx : Nat} (hfm : Mask.le 0x1a0000000000000000000000000000000000000000000000000014000000000000000000000000000000000000000000000000000000000000020000040805020 fm = true) (h0 : Keeps fm r0 s)  : Keeps fm r0 (leaveFull s p cls idx) := by
  unfold leaveFull
  try lift_lets -underBinder
  with_reducible repeat' first
    | assumption
    | exact fpart (by decide +kernel) hfm
    | exact fle (by decide +kernel) hfm
    | exact fok (by decide +kernel) hfm
    | exact fall (by decide +kernel) hfm
    | exact fokIx (by decide +kernel) hfm
    | exact fokAll (by decide +kernel) hfm
    | refine Mask.ok_ite ?_ ?_
    | refine faultsOf_ok ?_ ?_
    | refine fun _ (_ : Keeps fm r0 _) => ?_
    | refine fun _ _ (_ : Keeps fm r0 _) => ?_
    | refine fun _ _ _ (_ : Keeps fm r0 _) => ?_
    | exact KeepsO.get rfl (by assumption)
    | exact KeepsP.get rfl (by assumption)
    | (intro a; refine (fun ha : Keeps fm r0 a => ?_) ?_; clear_value a; rotate_left; dsimp only [a]; rotate_right)
    | (intro a; refine (fun ha : Keeps fm r0 a.2 => ?_) ?_; clear_value a; rotate_left; dsimp only [a]; rotate_right)
    | (intro a; refine (fun ha : Keeps fm r0 a.1 => ?_) ?_; clear_value a; rotate_left; dsimp only [a]; rotate_right)
    | (intro a; refine (fun ha : KeepsO fm r0 a => ?_) ?_; clear_value a; rotate_left; dsimp only [a]; rotate_right)
    | (have _ := @hgb; intro a; refine (fun hgc : ∀ t, Keeps fm r0 t → Keeps fm r0 (a t) => ?_) ?_; clear_value a; rotate_left; dsimp only [a]; rotate_right)
    | (have _ := @hga; intro a; refine (fun hgb : ∀ t, Keeps fm r0 t → Keeps fm r0 (a t) => ?_) ?_; clear_value a; rotate_left; dsimp only [a]; rotate_right)
    | (intro a; refine (fun hga : ∀ t, Keeps fm r0 t → Keeps fm r0 (a t) => ?_) ?_; clear_value a; rotate_left; dsimp only [a]; rotate_right)
    | (have _ := @hgb; intro a; refine (fun hgc : ∀ x t, Keeps fm r0 t → Keeps fm r0 (a x t) => ?_) ?_; clear_value a; rotate_left; dsimp only [a]; rotate_right)
    | (have _ := @hga; intro a; refine (fun hgb : ∀ x t, Keeps fm r0 t → Keeps fm r0 (a x t) => ?_) ?_; clear_value a; rotate_left; dsimp only [a]; rotate_right)
    | (intro a; refine (fun hga : ∀ x t, Keeps fm r0 t → Keeps fm r0 (a x t) => ?_) ?_; clear_value a; rotate_left; dsimp only [a]; rotate_right)
    | (have _ := @hgb; intro a; refine (fun hgc : ∀ x y t, Keeps fm r0 t → Keeps fm r0 (a x y t) => ?_) ?_; clear_value a; rotate_left; dsimp only [a]; rotate_right)
    | (have _ := @hga; intro a; refine (fun hgb : ∀ x y t, Keeps fm r0 t → Keeps fm r0 (a x y t) => ?_) ?_; clear_value a; rotate_left; dsimp only [a]; rotate_right)
    | (intro a; refine (fun hga : ∀ x y t, Keeps fm r0 t → Keeps fm r0 (a x y t) => ?_) ?_; clear_value a; rotate_left; dsimp only [a]; rotate_right)
    | (have _ := @hgb; intro a; refine (fun hgc : ∀ t x, Keeps fm r0 t → Keeps fm r0 (a t x) => ?_) ?_; clear_value a; rotate_left; dsimp only [a]; rotate_right)
    | (have _ := @hga; intro a; refine (fun hgb : ∀ t x, Keeps fm r0 t → Keeps fm r0 (a t x) => ?_) ?_; clear_value a; rotate_left; dsimp only [a]; rotate_right)
    | (intro a; refine (fun hga : ∀ t x, Keeps fm r0 t → Keeps fm r0 (a t x) => ?_) ?_; clear_value a; rotate_left; dsimp only [a]; rotate_right)
    | (intro a; refine (fun (_ : a = (a : Dict)) => ?_) rfl; dsimp only [a])
    | (intro a; clear_value a)
    | apply hga
    | apply hgb
    | apply hgc
    | lift_lets -underBinder
    | apply Keeps.ite
    | apply leaveSeg_keeps
    | apply Keeps.forEach
    | apply Keeps.forRange
    | apply Keeps.foldl
    | apply Keeps.foldl_fst
    | apply Keeps.foldl_snd
    | exact KeepsO.none
    | exact KeepsP.none
    | apply KeepsO.some
    | apply KeepsP.some
    | apply KeepsO.ite
    | apply KeepsP.ite
    | refine KeepsO.foldl _ _ ?_ (fun _ _ _ => ?_)
    | exact KeepsF.lost
    | apply KeepsF.started
    | apply KeepsF.ite
    | refine Keeps.of_snd (by assumption) ?_
    | refine Keeps.of_fst (by assumption) ?_
    | refine KeepsO.get (by assumption) ?_
    | refine KeepsP.get (by assumption) ?_
    | refine KeepsF.get (by assumption) ?_
    | split
    | fail_if_no_progress (apply Keeps.upd <;> try first | exact Or.inr (fpart (by decide +kernel) hfm) | exact Or.inl rfl)
    | fail_if_no_progress (apply Keeps.updDict <;> try first | exact Or.inr (fpart (by decide +kernel) hfm) | exact Or.inl rfl)
    | refine Keeps.updRegs (rg := Tbl.filterK _ _) ?_ (Tbl.wf_filterK _) (Tbl.wf_filterK _)
    | refine Keeps.updRegs (rg := Tbl.filterK _ _) ?_ (Tbl.wf_filterK _) id

theorem ready_keeps {fm : Nat} {r0 : State}  {s : State} {p : Nat} {cls : Nat} {idx : Nat} (hfm : Mask.le 0x3008000000000000001b000000000000000000010000000000000000000000000000001400860000017c000000000000000000000000000080000000000000000000020000040807120 fm = true) (h0 : Keeps fm r0 s)  : KeepsO fm r0 (ready s p cls idx) := by
  unfold ready
  try lift_lets -underBinder
  with_reducible repeat' first | assumption | exact fpart (by decide +kernel) hfm | exact fle (by decide +kernel) hfm | exact fok (by decide +kernel) hfm | exact fall (by decide +kernel) hfm | exact fokIx (by decide +kernel) hfm | exact fokAll (by decide +kernel) hfm | refine Mask.ok_ite ?_ ?_ | refine faultsOf_ok ?_ ?_ | exact KeepsO.get rfl (by assumption) | (intro a; refine (fun ha : Keeps fm r0 a => ?_) ?_; clear_value a; rotate_left; dsimp only [a]; rotate_right) | (intro a; refine (fun ha : KeepsO fm r0 a => ?_) ?_; clear_value a; rotate_left; dsimp only [a]; rotate_right) | (intro a; clear_value a) | lift_lets -underBinder | apply Keeps.ite | apply modPool_keeps | apply leaveFull_keeps | apply openSeg_keeps | apply openStripe_keeps | exact KeepsO.none | apply KeepsO.some | apply KeepsO.ite | split

theorem laneWaits_keeps {fm : Nat} {r0 : State}  {s : State} {p : Nat} {cls : Nat} {idx : Nat} (hfm : Mask.le 0x1a0000000000000000000000000000000000000000000000000014000000000000000000000000000000000000000000000000000000000000020000040805020 fm = true) (h0 : Keeps fm r0 s)  : Keeps fm r0 (laneWaits s p cls idx) := by
  unfold laneWaits
  try lift_lets -underBinder
  with_reducible repeat' first | assumption | exact fpart (by decide +kernel) hfm | exact fle (by decide +kernel) hfm | exact fok (by decide +kernel) hfm | exact fall (by decide +kernel) hfm | exact fokIx (by decide +kernel) hfm | exact fokAll (by decide +kernel) hfm | refine Mask.ok_ite ?_ ?_ | refine faultsOf_ok ?_ ?_ | (intro a; refine (fun ha : Keeps fm r0 a => ?_) ?_; clear_value a; rotate_left; dsimp only [a]; rotate_right) | lift_lets -underBinder | apply Keeps.ite | apply modPool_keeps | apply noteLanes_keeps | apply modLane_keeps | apply leaveFull_keeps

theorem reserveParity_keeps {fm : Nat} {r0 : State}  {s : State} {p : Nat} {stripe : Nat} {row : Nat} {k : Nat} {n : Nat} (hfm : Mask.le 0x20800 fm = true) (h0 : Keeps fm r0 s)  : Keeps fm r0 (reserveParity s p stripe row k n) := by
  unfold reserveParity
  try lift_lets -underBinder
  with_reducible repeat' first | assumption | exact fpart (by decide +kernel) hfm | exact fle (by decide +kernel) hfm | exact fok (by decide +kernel) hfm | exact fall (by decide +kernel) hfm | exact fokIx (by decide +kernel) hfm | exact fokAll (by decide +kernel) hfm | refine Mask.ok_ite ?_ ?_ | refine faultsOf_ok ?_ ?_ | refine fun _ _ (_ : Keeps fm r0 _) => ?_ | (intro a; clear_value a) | lift_lets -underBinder | apply Keeps.ite | apply touchDesc_keeps | apply Keeps.forRange | fail_if_no_progress (apply Keeps.upd <;> try first | exact Or.inr (fpart (by decide +kernel) hfm) | exact Or.inl rfl)

theorem moveParity_keeps {fm : Nat} {r0 : State}  {s : State} {p : Nat} {id : Nat} {x : Stripe} {k : Nat} {r : Nat} {acc : List Bytes} (hfm : Mask.le 0x1800 fm = true) (h0 : Keeps fm r0 s)  : Keeps fm r0 (moveParity s p id x k r acc) := by
  unfold moveParity
  with_reducible repeat' first
    | assumption
    | exact fpart (by decide +kernel) hfm
    | exact fle (by decide +kernel) hfm
    | exact fok (by decide +kernel) hfm
    | exact fall (by decide +kernel) hfm
    | exact fokIx (by decide +kernel) hfm
    | exact fokAll (by decide +kernel) hfm
    | refine Mask.ok_ite ?_ ?_
    | refine faultsOf_ok ?_ ?_
    | refine fun _ (_ : Keeps fm r0 _) => ?_
    | refine fun _ _ (_ : Keeps fm r0 _) => ?_
    | refine fun _ _ _ (_ : Keeps fm r0 _) => ?_
    | exact KeepsO.get rfl (by assumption)
    | exact KeepsP.get rfl (by assumption)
    | apply Keeps.ite
    | apply modStripe_keeps
    | apply Keeps.forEach
    | apply Keeps.forRange
    | apply Keeps.foldl
    | apply Keeps.foldl_fst
    | apply Keeps.foldl_snd
    | exact KeepsO.none
    | exact KeepsP.none
    | apply KeepsO.some
    | apply KeepsP.some
    | apply KeepsO.ite
    | apply KeepsP.ite
    | refine KeepsO.foldl _ _ ?_ (fun _ _ _ => ?_)
    | exact KeepsF.lost
    | apply KeepsF.started
    | apply KeepsF.ite
    | fail_if_no_progress (apply Keeps.upd <;> try first | exact Or.inr (fpart (by decide +kernel) hfm) | exact Or.inl rfl)
    | fail_if_no_progress (apply Keeps.updDict <;> try first | exact Or.inr (fpart (by decide +kernel) hfm) | exact Or.inl rfl)
    | refine Keeps.updRegs (rg := Tbl.filterK _ _) ?_ (Tbl.wf_filterK _) (Tbl.wf_filterK _)
    | refine Keeps.updRegs (rg := Tbl.filterK _ _) ?_ (Tbl.wf_filterK _) id
    | split
    | refine Keeps.of_snd (by assumption) ?_
    | refine Keeps.of_fst (by assumption) ?_
    | refine KeepsO.get (by assumption) ?_
    | refine KeepsP.get (by assumption) ?_
    | refine KeepsF.get (by assumption) ?_

theorem landRows_keeps {fm : Nat} {r0 s : State} {p id n : Nat} (hfm : Mask.le 0x1800 fm = true) (h0 : Keeps fm r0 s) : Keeps fm r0 (landRows s p id n) := by
  induction n generalizing s with
  | zero => exact h0
  | succ n ih =>
    unfold landRows
    split
    · exact h0
    · split
      · exact h0
      · exact Keeps.ite (ih (modStripe_keeps (fle (by decide +kernel) hfm) (moveParity_keeps (fle (by decide +kernel) hfm) h0))) (modStripe_keeps (fle (by decide +kernel) hfm) h0)

theorem sealSurplus_keeps {fm : Nat} {r0 : State}  {s : State} {p : Nat} (hfm : Mask.le 0x1a0000000000000000000000000000000000000000000000000014000000000000000000000000000000000000000000000000000000000000020000040805020 fm = true) (h0 : Keeps fm r0 s)  : Keeps fm r0 (sealSurplus s p) := by
  unfold sealSurplus
  with_reducible repeat' first
    | assumption
    | exact fpart (by decide +kernel) hfm
    | exact fle (by decide +kernel) hfm
    | exact fok (by decide +kernel) hfm
    | exact fall (by decide +kernel) hfm
    | exact fokIx (by decide +kernel) hfm
    | exact fokAll (by decide +kernel) hfm
    | refine Mask.ok_ite ?_ ?_
    | refine faultsOf_ok ?_ ?_
    | refine fun _ (_ : Keeps fm r0 _) => ?_
    | refine fun _ _ (_ : Keeps fm r0 _) => ?_
    | refine fun _ _ _ (_ : Keeps fm r0 _) => ?_
    | exact KeepsO.get rfl (by assumption)
    | exact KeepsP.get rfl (by assumption)
    | apply Keeps.ite
    | apply leaveSeg_keeps
    | apply Keeps.forEach
    | apply Keeps.forRange
    | apply Keeps.foldl
    | apply Keeps.foldl_fst
    | apply Keeps.foldl_snd
    | exact KeepsO.none
    | exact KeepsP.none
    | apply KeepsO.some
    | apply KeepsP.some
    | apply KeepsO.ite
    | apply KeepsP.ite
    | refine KeepsO.foldl _ _ ?_ (fun _ _ _ => ?_)
    | exact KeepsF.lost
    | apply KeepsF.started
    | apply KeepsF.ite
    | fail_if_no_progress (apply Keeps.upd <;> try first | exact Or.inr (fpart (by decide +kernel) hfm) | exact Or.inl rfl)
    | fail_if_no_progress (apply Keeps.updDict <;> try first | exact Or.inr (fpart (by decide +kernel) hfm) | exact Or.inl rfl)
    | refine Keeps.updRegs (rg := Tbl.filterK _ _) ?_ (Tbl.wf_filterK _) (Tbl.wf_filterK _)
    | refine Keeps.updRegs (rg := Tbl.filterK _ _) ?_ (Tbl.wf_filterK _) id
    | split
    | refine Keeps.of_snd (by assumption) ?_
    | refine Keeps.of_fst (by assumption) ?_
    | refine KeepsO.get (by assumption) ?_
    | refine KeepsP.get (by assumption) ?_
    | refine KeepsF.get (by assumption) ?_

theorem endPlacement_keeps {fm : Nat} {r0 s : State} {p id : Nat} {reason : Option Nat} (hfm : Mask.le 0x1a0000000000000000000000000000000000000000000000000014000000000000000000000000000000000000000000000000000000000000020000040805820 fm = true) (h0 : Keeps fm r0 s) : Keeps fm r0 (endPlacement s p id reason) := by
  unfold endPlacement
  split
  · exact h0
  · exact sealSurplus_keeps (fle (by decide +kernel) hfm) (landRows_keeps (fle (by decide +kernel) hfm) (modSeg_keeps (fle (by decide +kernel) hfm)
      (modPool_keeps (fle (by decide +kernel) hfm) (modStripe_keeps (fle (by decide +kernel) hfm) h0))))

theorem moveSlot_keeps {fm : Nat} {r0 : State}  {s : State} {e : Pos} {stripe : Nat} {row : Nat} {col : Nat} (hfm : Mask.le 0x800 fm = true) (h0 : Keeps fm r0 s)  : Keeps fm r0 (moveSlot s e stripe row col) := by
  unfold moveSlot
  with_reducible repeat' first | assumption | exact fpart (by decide +kernel) hfm | exact fle (by decide +kernel) hfm | exact fok (by decide +kernel) hfm | exact fall (by decide +kernel) hfm | exact fokIx (by decide +kernel) hfm | exact fokAll (by decide +kernel) hfm | refine Mask.ok_ite ?_ ?_ | refine faultsOf_ok ?_ ?_ | fail_if_no_progress (apply Keeps.upd <;> try first | exact Or.inr (fpart (by decide +kernel) hfm) | exact Or.inl rfl) | split

theorem placePos_keeps {fm : Nat} {r0 : State}  {s : State} {p : Nat} {cls : Nat} {idx : Nat} {e : Pos} {flags : Bool × Bool} (hfm : Mask.le 0x3008000000000000001b000000000000000000010000000000000000000000000000001400860000017c000000000000000000000000000080000000000000000000020000040827920 fm = true) (h0 : Keeps fm r0 s)  : KeepsO fm r0 (placePos s p cls idx e flags) := by
  unfold placePos
  try lift_lets -underBinder
  with_reducible repeat' first
    | assumption
    | exact fpart (by decide +kernel) hfm
    | exact fle (by decide +kernel) hfm
    | exact fok (by decide +kernel) hfm
    | exact fall (by decide +kernel) hfm
    | exact fokIx (by decide +kernel) hfm
    | exact fokAll (by decide +kernel) hfm
    | refine Mask.ok_ite ?_ ?_
    | refine faultsOf_ok ?_ ?_
    | refine fun _ (_ : Keeps fm r0 _) => ?_
    | refine fun _ _ (_ : Keeps fm r0 _) => ?_
    | refine fun _ _ _ (_ : Keeps fm r0 _) => ?_
    | exact KeepsO.get rfl (by assumption)
    | exact KeepsP.get rfl (by assumption)
    | (intro a; refine (fun ha : Keeps fm r0 a => ?_) ?_; clear_value a; rotate_left; dsimp only [a]; rotate_right)
    | (intro a; refine (fun ha : Keeps fm r0 a.2 => ?_) ?_; clear_value a; rotate_left; dsimp only [a]; rotate_right)
    | (intro a; refine (fun ha : Keeps fm r0 a.1 => ?_) ?_; clear_value a; rotate_left; dsimp only [a]; rotate_right)
    | (intro a; refine (fun ha : KeepsO fm r0 a => ?_) ?_; clear_value a; rotate_left; dsimp only [a]; rotate_right)
    | (have _ := @hgb; intro a; refine (fun hgc : ∀ t, Keeps fm r0 t → Keeps fm r0 (a t) => ?_) ?_; clear_value a; rotate_left; dsimp only [a]; rotate_right)
    | (have _ := @hga; intro a; refine (fun hgb : ∀ t, Keeps fm r0 t → Keeps fm r0 (a t) => ?_) ?_; clear_value a; rotate_left; dsimp only [a]; rotate_right)
    | (intro a; refine (fun hga : ∀ t, Keeps fm r0 t → Keeps fm r0 (a t) => ?_) ?_; clear_value a; rotate_left; dsimp only [a]; rotate_right)
    | (have _ := @hgb; intro a; refine (fun hgc : ∀ x t, Keeps fm r0 t → Keeps fm r0 (a x t) => ?_) ?_; clear_value a; rotate_left; dsimp only [a]; rotate_right)
    | (have _ := @hga; intro a; refine (fun hgb : ∀ x t, Keeps fm r0 t → Keeps fm r0 (a x t) => ?_) ?_; clear_value a; rotate_left; dsimp only [a]; rotate_right)
    | (intro a; refine (fun hga : ∀ x t, Keeps fm r0 t → Keeps fm r0 (a x t) => ?_) ?_; clear_value a; rotate_left; dsimp only [a]; rotate_right)
    | (have _ := @hgb; intro a; refine (fun hgc : ∀ x y t, Keeps fm r0 t → Keeps fm r0 (a x y t) => ?_) ?_; clear_value a; rotate_left; dsimp only [a]; rotate_right)
    | (have _ := @hga; intro a; refine (fun hgb : ∀ x y t, Keeps fm r0 t → Keeps fm r0 (a x y t) => ?_) ?_; clear_value a; rotate_left; dsimp only [a]; rotate_right)
    | (intro a; refine (fun hga : ∀ x y t, Keeps fm r0 t → Keeps fm r0 (a x y t) => ?_) ?_; clear_value a; rotate_left; dsimp only [a]; rotate_right)
    | (have _ := @hgb; intro a; refine (fun hgc : ∀ t x, Keeps fm r0 t → Keeps fm r0 (a t x) => ?_) ?_; clear_value a; rotate_left; dsimp only [a]; rotate_right)
    | (have _ := @hga; intro a; refine (fun hgb : ∀ t x, Keeps fm r0 t → Keeps fm r0 (a t x) => ?_) ?_; clear_value a; rotate_left; dsimp only [a]; rotate_right)
    | (intro a; refine (fun hga : ∀ t x, Keeps fm r0 t → Keeps fm r0 (a t x) => ?_) ?_; clear_value a; rotate_left; dsimp only [a]; rotate_right)
    | (intro a; refine (fun (_ : a = (a : Dict)) => ?_) rfl; dsimp only [a])
    | (intro a; clear_value a)
    | apply hga
    | apply hgb
    | apply hgc
    | lift_lets -underBinder
    | apply Keeps.ite
    | apply ready_keeps
    | apply modStripe_keeps
    | apply moveSlot_keeps
    | apply reserveParity_keeps
    | apply landRows_keeps
    | apply endPlacement_keeps
    | apply Keeps.forEach
    | apply Keeps.forRange
    | apply Keeps.foldl
    | apply Keeps.foldl_fst
    | apply Keeps.foldl_snd
    | exact KeepsO.none
    | exact KeepsP.none
    | apply KeepsO.some
    | apply KeepsP.some
    | apply KeepsO.ite
    | apply KeepsP.ite
    | refine KeepsO.foldl _ _ ?_ (fun _ _ _ => ?_)
    | exact KeepsF.lost
    | apply KeepsF.started
    | apply KeepsF.ite
    | refine Keeps.of_snd (by assumption) ?_
    | refine Keeps.of_fst (by assumption) ?_
    | refine KeepsO.get (by assumption) ?_
    | refine KeepsP.get (by assumption) ?_
    | refine KeepsF.get (by assumption) ?_
    | split
    | fail_if_no_progress (apply Keeps.upd <;> try first | exact Or.inr (fpart (by decide +kernel) hfm) | exact Or.inl rfl)
    | fail_if_no_progress (apply Keeps.updDict <;> try first | exact Or.inr (fpart (by decide +kernel) hfm) | exact Or.inl rfl)
    | refine Keeps.updRegs (rg := Tbl.filterK _ _) ?_ (Tbl.wf_filterK _) (Tbl.wf_filterK _)
    | refine Keeps.updRegs (rg := Tbl.filterK _ _) ?_ (Tbl.wf_filterK _) id

theorem sendDigest_keeps {fm : Nat} {r0 : State}  {s : State} {p : Nat} {id : Nat} {x : Stripe} (hfm : Mask.le 0x190000000000000000000000000000000000000000000000000000000840020 fm = true) (h0 : Keeps fm r0 s)  : Keeps fm r0 (sendDigest s p id x) := by
  unfold sendDigest
  try lift_lets -underBinder
  with_reducible repeat' first | assumption | exact fpart (by decide +kernel) hfm | exact fle (by decide +kernel) hfm | exact fok (by decide +kernel) hfm | exact fall (by decide +kernel) hfm | exact fokIx (by decide +kernel) hfm | exact fokAll (by decide +kernel) hfm | refine Mask.ok_ite ?_ ?_ | refine faultsOf_ok ?_ ?_ | (intro a; clear_value a) | lift_lets -underBinder | apply Keeps.ite | apply sendMsg_keeps | apply modPair_keeps

theorem issueColumns_keeps {fm : Nat} {r0 : State}  {s : State} {p : Nat} {id : Nat} {x : Stripe} {g : Seg} (hfm : Mask.le 0x50000000000000000000000000000000000000000000000000014000000000000190000000000000000000000000000000000000000000000020000040845020 fm = true) (h0 : Keeps fm r0 s)  : Keeps fm r0 (issueColumns s p id x g) := by
  unfold issueColumns
  try lift_lets -underBinder
  with_reducible repeat' first | assumption | exact fpart (by decide +kernel) hfm | exact fle (by decide +kernel) hfm | exact fok (by decide +kernel) hfm | exact fall (by decide +kernel) hfm | exact fokIx (by decide +kernel) hfm | exact fokAll (by decide +kernel) hfm | refine Mask.ok_ite ?_ ?_ | refine faultsOf_ok ?_ ?_ | refine fun _ _ (_ : Keeps fm r0 _) => ?_ | (intro a; refine (fun ha : Keeps fm r0 a => ?_) ?_; clear_value a; rotate_left; dsimp only [a]; rotate_right) | (intro a; clear_value a) | lift_lets -underBinder | apply Keeps.ite | apply modStripe_keeps | apply sendDigest_keeps | apply bump_keeps | apply noteStripes_keeps | apply issueTo_keeps | apply Keeps.forEach

theorem issueOne_keeps {fm : Nat} {r0 : State}  {s : State} {p : Nat} {id : Nat} (hfm : Mask.le 0x50000000000000000000000000000000000000000000000000014000000000000190000000000000000000000000000000000000000000000020000040845020 fm = true) (h0 : Keeps fm r0 s)  : Keeps fm r0 (issueOne s p id) := by
  unfold issueOne
  with_reducible repeat' first
    | assumption
    | exact fpart (by decide +kernel) hfm
    | exact fle (by decide +kernel) hfm
    | exact fok (by decide +kernel) hfm
    | exact fall (by decide +kernel) hfm
    | exact fokIx (by decide +kernel) hfm
    | exact fokAll (by decide +kernel) hfm
    | refine Mask.ok_ite ?_ ?_
    | refine faultsOf_ok ?_ ?_
    | refine fun _ (_ : Keeps fm r0 _) => ?_
    | refine fun _ _ (_ : Keeps fm r0 _) => ?_
    | refine fun _ _ _ (_ : Keeps fm r0 _) => ?_
    | exact KeepsO.get rfl (by assumption)
    | exact KeepsP.get rfl (by assumption)
    | apply Keeps.ite
    | apply issueColumns_keeps
    | apply modStripe_keeps
    | apply Keeps.forEach
    | apply Keeps.forRange
    | apply Keeps.foldl
    | apply Keeps.foldl_fst
    | apply Keeps.foldl_snd
    | exact KeepsO.none
    | exact KeepsP.none
    | apply KeepsO.some
    | apply KeepsP.some
    | apply KeepsO.ite
    | apply KeepsP.ite
    | refine KeepsO.foldl _ _ ?_ (fun _ _ _ => ?_)
    | exact KeepsF.lost
    | apply KeepsF.started
    | apply KeepsF.ite
    | refine Keeps.of_snd (by assumption) ?_
    | refine Keeps.of_fst (by assumption) ?_
    | refine KeepsO.get (by assumption) ?_
    | refine KeepsP.get (by assumption) ?_
    | refine KeepsF.get (by assumption) ?_
    | split
    | fail_if_no_progress (apply Keeps.upd <;> try first | exact Or.inr (fpart (by decide +kernel) hfm) | exact Or.inl rfl)
    | fail_if_no_progress (apply Keeps.updDict <;> try first | exact Or.inr (fpart (by decide +kernel) hfm) | exact Or.inl rfl)
    | refine Keeps.updRegs (rg := Tbl.filterK _ _) ?_ (Tbl.wf_filterK _) (Tbl.wf_filterK _)
    | refine Keeps.updRegs (rg := Tbl.filterK _ _) ?_ (Tbl.wf_filterK _) id

theorem tryIssue_keeps {fm : Nat} {r0 : State}  {s : State} {p : Nat} {id : Nat} (hfm : Mask.le 0x50000000000000000000000000000000000000000000000000014000000000000190000000000000000000000000000000000000000000000020000040845020 fm = true) (h0 : Keeps fm r0 s)  : Keeps fm r0 (tryIssue s p id) := by
  unfold tryIssue
  try lift_lets -underBinder
  with_reducible repeat' first
    | assumption
    | exact fpart (by decide +kernel) hfm
    | exact fle (by decide +kernel) hfm
    | exact fok (by decide +kernel) hfm
    | exact fall (by decide +kernel) hfm
    | exact fokIx (by decide +kernel) hfm
    | exact fokAll (by decide +kernel) hfm
    | refine Mask.ok_ite ?_ ?_
    | refine faultsOf_ok ?_ ?_
    | refine fun _ (_ : Keeps fm r0 _) => ?_
    | refine fun _ _ (_ : Keeps fm r0 _) => ?_
    | refine fun _ _ _ (_ : Keeps fm r0 _) => ?_
    | exact KeepsO.get rfl (by assumption)
    | exact KeepsP.get rfl (by assumption)
    | (intro a; refine (fun ha : Keeps fm r0 a => ?_) ?_; clear_value a; rotate_left; dsimp only [a]; rotate_right)
    | (intro a; refine (fun ha : Keeps fm r0 a.2 => ?_) ?_; clear_value a; rotate_left; dsimp only [a]; rotate_right)
    | (intro a; refine (fun ha : Keeps fm r0 a.1 => ?_) ?_; clear_value a; rotate_left; dsimp only [a]; rotate_right)
    | (intro a; refine (fun ha : KeepsO fm r0 a => ?_) ?_; clear_value a; rotate_left; dsimp only [a]; rotate_right)
    | (have _ := @hgb; intro a; refine (fun hgc : ∀ t, Keeps fm r0 t → Keeps fm r0 (a t) => ?_) ?_; clear_value a; rotate_left; dsimp only [a]; rotate_right)
    | (have _ := @hga; intro a; refine (fun hgb : ∀ t, Keeps fm r0 t → Keeps fm r0 (a t) => ?_) ?_; clear_value a; rotate_left; dsimp only [a]; rotate_right)
    | (intro a; refine (fun hga : ∀ t, Keeps fm r0 t → Keeps fm r0 (a t) => ?_) ?_; clear_value a; rotate_left; dsimp only [a]; rotate_right)
    | (have _ := @hgb; intro a; refine (fun hgc : ∀ x t, Keeps fm r0 t → Keeps fm r0 (a x t) => ?_) ?_; clear_value a; rotate_left; dsimp only [a]; rotate_right)
    | (have _ := @hga; intro a; refine (fun hgb : ∀ x t, Keeps fm r0 t → Keeps fm r0 (a x t) => ?_) ?_; clear_value a; rotate_left; dsimp only [a]; rotate_right)
    | (intro a; refine (fun hga : ∀ x t, Keeps fm r0 t → Keeps fm r0 (a x t) => ?_) ?_; clear_value a; rotate_left; dsimp only [a]; rotate_right)
    | (have _ := @hgb; intro a; refine (fun hgc : ∀ x y t, Keeps fm r0 t → Keeps fm r0 (a x y t) => ?_) ?_; clear_value a; rotate_left; dsimp only [a]; rotate_right)
    | (have _ := @hga; intro a; refine (fun hgb : ∀ x y t, Keeps fm r0 t → Keeps fm r0 (a x y t) => ?_) ?_; clear_value a; rotate_left; dsimp only [a]; rotate_right)
    | (intro a; refine (fun hga : ∀ x y t, Keeps fm r0 t → Keeps fm r0 (a x y t) => ?_) ?_; clear_value a; rotate_left; dsimp only [a]; rotate_right)
    | (have _ := @hgb; intro a; refine (fun hgc : ∀ t x, Keeps fm r0 t → Keeps fm r0 (a t x) => ?_) ?_; clear_value a; rotate_left; dsimp only [a]; rotate_right)
    | (have _ := @hga; intro a; refine (fun hgb : ∀ t x, Keeps fm r0 t → Keeps fm r0 (a t x) => ?_) ?_; clear_value a; rotate_left; dsimp only [a]; rotate_right)
    | (intro a; refine (fun hga : ∀ t x, Keeps fm r0 t → Keeps fm r0 (a t x) => ?_) ?_; clear_value a; rotate_left; dsimp only [a]; rotate_right)
    | (intro a; refine (fun (_ : a = (a : Dict)) => ?_) rfl; dsimp only [a])
    | (intro a; clear_value a)
    | apply hga
    | apply hgb
    | apply hgc
    | lift_lets -underBinder
    | apply Keeps.ite
    | apply issueOne_keeps
    | apply Keeps.forEach
    | apply Keeps.forRange
    | apply Keeps.foldl
    | apply Keeps.foldl_fst
    | apply Keeps.foldl_snd
    | exact KeepsO.none
    | exact KeepsP.none
    | apply KeepsO.some
    | apply KeepsP.some
    | apply KeepsO.ite
    | apply KeepsP.ite
    | refine KeepsO.foldl _ _ ?_ (fun _ _ _ => ?_)
    | exact KeepsF.lost
    | apply KeepsF.started
    | apply KeepsF.ite
    | refine Keeps.of_snd (by assumption) ?_
    | refine Keeps.of_fst (by assumption) ?_
    | refine KeepsO.get (by assumption) ?_
    | refine KeepsP.get (by assumption) ?_
    | refine KeepsF.get (by assumption) ?_
    | split
    | fail_if_no_progress (apply Keeps.upd <;> try first | exact Or.inr (fpart (by decide +kernel) hfm) | exact Or.inl rfl)
    | fail_if_no_progress (apply Keeps.updDict <;> try first | exact Or.inr (fpart (by decide +kernel) hfm) | exact Or.inl rfl)
    | refine Keeps.updRegs (rg := Tbl.filterK _ _) ?_ (Tbl.wf_filterK _) (Tbl.wf_filterK _)
    | refine Keeps.updRegs (rg := Tbl.filterK _ _) ?_ (Tbl.wf_filterK _) id

theorem forceClose_keeps {fm : Nat} {r0 : State}  {reason : Nat} {s : State} {p : Nat} {id : Nat} (hfm : Mask.le 0x1f0000000000000000000000000000000000000000000000000014000000000000190000000000000000000000000000000000000000000000020000040845820 fm = true) (h0 : Keeps fm r0 s)  : Keeps fm r0 (forceClose reason s p id) := by
  unfold forceClose
  with_reducible repeat' first | assumption | exact fpart (by decide +kernel) hfm | exact fle (by decide +kernel) hfm | exact fok (by decide +kernel) hfm | exact fall (by decide +kernel) hfm | exact fokIx (by decide +kernel) hfm | exact fokAll (by decide +kernel) hfm | refine Mask.ok_ite ?_ ?_ | refine faultsOf_ok ?_ ?_ | apply Keeps.ite | apply tryIssue_keeps | apply modStripe_keeps | apply endPlacement_keeps | split

theorem forceWhere_keeps {fm : Nat} {r0 : State}  {reason : Nat} {s : State} {p : Nat} {f : Stripe → Bool} (hfm : Mask.le 0x1f0000000000000000000000000000000000000000000000000014000000000000190000000000000000000000000000000000000000000000020000040845820 fm = true) (h0 : Keeps fm r0 s)  : Keeps fm r0 (forceWhere reason s p f) := by
  unfold forceWhere
  with_reducible repeat' first | assumption | exact fpart (by decide +kernel) hfm | exact fle (by decide +kernel) hfm | exact fok (by decide +kernel) hfm | exact fall (by decide +kernel) hfm | exact fokIx (by decide +kernel) hfm | exact fokAll (by decide +kernel) hfm | refine Mask.ok_ite ?_ ?_ | refine faultsOf_ok ?_ ?_ | refine fun _ _ (_ : Keeps fm r0 _) => ?_ | apply forceClose_keeps | apply Keeps.forEach

theorem sealLanes_keeps {fm : Nat} {r0 : State}  {s : State} {p : Nat} (hfm : Mask.le 0x1f0000000000000000000000000000000000000000000000000014000000000000190000000000000000000000000000000000000000000000020000040845820 fm = true) (h0 : Keeps fm r0 s)  : Keeps fm r0 (sealLanes s p) := by
  unfold sealLanes
  try lift_lets -underBinder
  with_reducible repeat' first | assumption | exact fpart (by decide +kernel) hfm | exact fle (by decide +kernel) hfm | exact fok (by decide +kernel) hfm | exact fall (by decide +kernel) hfm | exact fokIx (by decide +kernel) hfm | exact fokAll (by decide +kernel) hfm | refine Mask.ok_ite ?_ ?_ | refine faultsOf_ok ?_ ?_ | refine fun _ _ (_ : Keeps fm r0 _) => ?_ | (intro a; refine (fun ha : Keeps fm r0 a => ?_) ?_; clear_value a; rotate_left; dsimp only [a]; rotate_right) | apply forceWhere_keeps | apply leaveSeg_keeps | apply Keeps.forEach

theorem endStripe_keeps {fm : Nat} {r0 : State}  {s : State} {p : Nat} {id : Nat} {x : Stripe} {abandoned : Bool} (hfm : Mask.le 0x1b0000000000000000000000000000000000000000000000000014000000000000000000000000000000000000000000000000000000000000020000040805020 fm = true) (h0 : Keeps fm r0 s)  : Keeps fm r0 (endStripe s p id x abandoned) := by
  unfold endStripe
  try lift_lets -underBinder
  with_reducible repeat' first | assumption | exact fpart (by decide +kernel) hfm | exact fle (by decide +kernel) hfm | exact fok (by decide +kernel) hfm | exact fall (by decide +kernel) hfm | exact fokIx (by decide +kernel) hfm | exact fokAll (by decide +kernel) hfm | refine Mask.ok_ite ?_ ?_ | refine faultsOf_ok ?_ ?_ | (intro a; refine (fun ha : Keeps fm r0 a => ?_) ?_; clear_value a; rotate_left; dsimp only [a]; rotate_right) | (intro a; clear_value a) | lift_lets -underBinder | apply modSeg_keeps | apply trySeal_keeps | apply noteStripes_keeps | apply modPool_keeps

theorem issueAll_keeps {fm : Nat} {r0 : State}  {s : State} {p : Nat} (hfm : Mask.le 0x50000000000000000000000000000000000000000000000000014000000000000190000000000000000000000000000000000000000000000020000040845020 fm = true) (h0 : Keeps fm r0 s)  : Keeps fm r0 (issueAll s p) := by
  unfold issueAll
  with_reducible repeat' first | assumption | exact fpart (by decide +kernel) hfm | exact fle (by decide +kernel) hfm | exact fok (by decide +kernel) hfm | exact fall (by decide +kernel) hfm | exact fokIx (by decide +kernel) hfm | exact fokAll (by decide +kernel) hfm | refine Mask.ok_ite ?_ ?_ | refine faultsOf_ok ?_ ?_ | refine fun _ _ (_ : Keeps fm r0 _) => ?_ | apply tryIssue_keeps | apply Keeps.forEach

theorem dropStripe_keeps {fm : Nat} {r0 : State}  {s : State} {p : Nat} {id : Nat} {x : Stripe} (hfm : Mask.le 0x10000000000000000000000000000000000000000000000000000000000000000000000000000000000000000000000000000000000000000000000000001000 fm = true) (h0 : Keeps fm r0 s)  : Keeps fm r0 (dropStripe s p id x) := by
  unfold dropStripe
  try lift_lets -underBinder
  with_reducible repeat' first | assumption | exact fpart (by decide +kernel) hfm | exact fle (by decide +kernel) hfm | exact fok (by decide +kernel) hfm | exact fall (by decide +kernel) hfm | exact fokIx (by decide +kernel) hfm | exact fokAll (by decide +kernel) hfm | refine Mask.ok_ite ?_ ?_ | refine faultsOf_ok ?_ ?_ | (intro a; refine (fun ha : Keeps fm r0 a => ?_) ?_; clear_value a; rotate_left; dsimp only [a]; rotate_right) | lift_lets -underBinder | apply modPool_keeps | apply noteStripes_keeps | apply modSeg_keeps

theorem dropStripes_keeps {fm : Nat} {r0 : State}  {s : State} {p : Nat} {l : List (Nat × Stripe)} (hfm : Mask.le 0x10000000000000000000000000000000000000000000000000000000000000000000000000000000000000000000000000000000000000000000000000001000 fm = true) (h0 : Keeps fm r0 s)  : Keeps fm r0 (dropStripes s p l) := by
  unfold dropStripes
  with_reducible repeat' first
    | assumption
    | exact fpart (by decide +kernel) hfm
    | exact fle (by decide +kernel) hfm
    | exact fok (by decide +kernel) hfm
    | exact fall (by decide +kernel) hfm
    | exact fokIx (by decide +kernel) hfm
    | exact fokAll (by decide +kernel) hfm
    | refine Mask.ok_ite ?_ ?_
    | refine faultsOf_ok ?_ ?_
    | refine fun _ (_ : Keeps fm r0 _) => ?_
    | refine fun _ _ (_ : Keeps fm r0 _) => ?_
    | refine fun _ _ _ (_ : Keeps fm r0 _) => ?_
    | exact KeepsO.get rfl (by assumption)
    | exact KeepsP.get rfl (by assumption)
    | apply Keeps.ite
    | apply dropStripe_keeps
    | apply Keeps.forEach
    | apply Keeps.forRange
    | apply Keeps.foldl
    | apply Keeps.foldl_fst
    | apply Keeps.foldl_snd
    | exact KeepsO.none
    | exact KeepsP.none
    | apply KeepsO.some
    | apply KeepsP.some
    | apply KeepsO.ite
    | apply KeepsP.ite
    | refine KeepsO.foldl _ _ ?_ (fun _ _ _ => ?_)
    | exact KeepsF.lost
    | apply KeepsF.started
    | apply KeepsF.ite
    | fail_if_no_progress (apply Keeps.upd <;> try first | exact Or.inr (fpart (by decide +kernel) hfm) | exact Or.inl rfl)
    | fail_if_no_progress (apply Keeps.updDict <;> try first | exact Or.inr (fpart (by decide +kernel) hfm) | exact Or.inl rfl)
    | refine Keeps.updRegs (rg := Tbl.filterK _ _) ?_ (Tbl.wf_filterK _) (Tbl.wf_filterK _)
    | refine Keeps.updRegs (rg := Tbl.filterK _ _) ?_ (Tbl.wf_filterK _) id
    | split
    | refine Keeps.of_snd (by assumption) ?_
    | refine Keeps.of_fst (by assumption) ?_
    | refine KeepsO.get (by assumption) ?_
    | refine KeepsP.get (by assumption) ?_
    | refine KeepsF.get (by assumption) ?_

theorem freeParity_keeps {fm : Nat} {r0 : State}  {s : State} {p : Nat} {id : Nat} (hfm : Mask.le 0x200000000000000000000000000000000000000000000000000000000000000000000000000000000000000000000000000000000000000000800 fm = true) (h0 : Keeps fm r0 s)  : Keeps fm r0 (freeParity s p id) := by
  unfold freeParity
  try lift_lets -underBinder
  with_reducible repeat' first | assumption | exact fpart (by decide +kernel) hfm | exact fle (by decide +kernel) hfm | exact fok (by decide +kernel) hfm | exact fall (by decide +kernel) hfm | exact fokIx (by decide +kernel) hfm | exact fokAll (by decide +kernel) hfm | refine Mask.ok_ite ?_ ?_ | refine faultsOf_ok ?_ ?_ | (intro a; clear_value a) | lift_lets -underBinder | apply drop_keeps | fail_if_no_progress (apply Keeps.upd <;> try first | exact Or.inr (fpart (by decide +kernel) hfm) | exact Or.inl rfl)

theorem fitGrain_keeps {fm : Nat} {r0 s : State} {p cls idx n : Nat} (hfm : Mask.le 0x3008000000000000001f000000000000000000010000000000000000000000000000001400860000017c190000000000000000000000000080000000000000000000020000040847920 fm = true) (h0 : Keeps fm r0 s) : Keeps fm r0 (fitGrain s p cls idx n) := by
  induction n generalizing s with
  | zero => exact h0
  | succ n ih =>
    have hr : KeepsO fm r0 (ready s p cls idx) := ready_keeps (fle (by decide +kernel) hfm) h0
    unfold fitGrain
    refine Keeps.ite h0 ?_
    split
    · exact h0
    · rename_i t e
      have ht : Keeps fm r0 t := KeepsO.get e hr
      split
      · exact h0
      · split
        · exact h0
        · exact Keeps.ite (ih (forceClose_keeps (fle (by decide +kernel) hfm) ht)) ht

theorem placeGroup_keeps {fm : Nat} {r0 : State}  {s : State} {p : Nat} {cls : Nat} {idx : Nat} {l : List Pos} {flags : Bool × Bool} (hfm : Mask.le 0x3008000000000000001f000000000000000000010000000000000000000000000000001400860000017c190000000000000000000000000080000000000000000000020000040867920 fm = true) (h0 : Keeps fm r0 s)  : KeepsO fm r0 (placeGroup s p cls idx l flags) := by
  unfold placeGroup
  with_reducible repeat' first
    | assumption
    | exact fpart (by decide +kernel) hfm
    | exact fle (by decide +kernel) hfm
    | exact fok (by decide +kernel) hfm
    | exact fall (by decide +kernel) hfm
    | exact fokIx (by decide +kernel) hfm
    | exact fokAll (by decide +kernel) hfm
    | refine Mask.ok_ite ?_ ?_
    | refine faultsOf_ok ?_ ?_
    | refine fun _ (_ : Keeps fm r0 _) => ?_
    | refine fun _ _ (_ : Keeps fm r0 _) => ?_
    | refine fun _ _ _ (_ : Keeps fm r0 _) => ?_
    | exact KeepsO.get rfl (by assumption)
    | exact KeepsP.get rfl (by assumption)
    | apply Keeps.ite
    | apply placePos_keeps
    | apply fitGrain_keeps
    | apply Keeps.forEach
    | apply Keeps.forRange
    | apply Keeps.foldl
    | apply Keeps.foldl_fst
    | apply Keeps.foldl_snd
    | exact KeepsO.none
    | exact KeepsP.none
    | apply KeepsO.some
    | apply KeepsP.some
    | apply KeepsO.ite
    | apply KeepsP.ite
    | refine KeepsO.foldl _ _ ?_ (fun _ _ _ => ?_)
    | exact KeepsF.lost
    | apply KeepsF.started
    | apply KeepsF.ite
    | fail_if_no_progress (apply Keeps.upd <;> try first | exact Or.inr (fpart (by decide +kernel) hfm) | exact Or.inl rfl)
    | fail_if_no_progress (apply Keeps.updDict <;> try first | exact Or.inr (fpart (by decide +kernel) hfm) | exact Or.inl rfl)
    | refine Keeps.updRegs (rg := Tbl.filterK _ _) ?_ (Tbl.wf_filterK _) (Tbl.wf_filterK _)
    | refine Keeps.updRegs (rg := Tbl.filterK _ _) ?_ (Tbl.wf_filterK _) id
    | split
    | refine Keeps.of_snd (by assumption) ?_
    | refine Keeps.of_fst (by assumption) ?_
    | refine KeepsO.get (by assumption) ?_
    | refine KeepsP.get (by assumption) ?_
    | refine KeepsF.get (by assumption) ?_

theorem placeAgain_keeps {fm : Nat} {r0 s : State} {p cls idx : Nat} {l : List Pos} {flags : Bool × Bool} (hfm : Mask.le 0x3008000000000000001f000000000000000000010000000000000000000000000000001400860000017c190000000000000000000000000080000000000000000000020000040867920 fm = true) (h0 : Keeps fm r0 s) :
    Keeps fm r0 (placeAgain s p cls idx l flags) := by
  unfold placeAgain
  refine Keeps.forEach _ _ h0 (fun es t ht => ?_)
  have hg : KeepsO fm r0 (placeGroup t p cls idx es flags) := placeGroup_keeps (fle (by decide +kernel) hfm) ht
  split
  · rename_i e
    exact KeepsO.get e hg
  · exact modPool_keeps (fle (by decide +kernel) hfm) (laneWaits_keeps (fle (by decide +kernel) hfm) ht)

theorem reissueAll_keeps {fm : Nat} {r0 : State}  {s : State} {p : Nat} {l : List (Nat × Stripe)} (hfm : Mask.le 0x3008000000000000001f000000000000000000010000000000000000000000000000001400860000017c190000000000000000000000000080000000000000000000020000040867920 fm = true) (h0 : Keeps fm r0 s)  : Keeps fm r0 (reissueAll s p l) := by
  unfold reissueAll
  with_reducible repeat' first | assumption | exact fpart (by decide +kernel) hfm | exact fle (by decide +kernel) hfm | exact fok (by decide +kernel) hfm | exact fall (by decide +kernel) hfm | exact fokIx (by decide +kernel) hfm | exact fokAll (by decide +kernel) hfm | refine Mask.ok_ite ?_ ?_ | refine faultsOf_ok ?_ ?_ | refine fun _ _ (_ : Keeps fm r0 _) => ?_ | apply placeAgain_keeps | apply Keeps.forEach

theorem markGone_keeps {fm : Nat} {r0 : State}  {s : State} {p : Nat} {slot : Nat} {f : Stripe → Bool} (hfm : Mask.le 0x10000000000200000000000000000000000000000000000000000000000000000000000000000000000000000000000000000000000000000000000000001800 fm = true) (h0 : Keeps fm r0 s)  : Keeps fm r0 (markGone s p slot f) := by
  unfold markGone
  try lift_lets -underBinder
  with_reducible repeat' first
    | assumption
    | exact fpart (by decide +kernel) hfm
    | exact fle (by decide +kernel) hfm
    | exact fok (by decide +kernel) hfm
    | exact fall (by decide +kernel) hfm
    | exact fokIx (by decide +kernel) hfm
    | exact fokAll (by decide +kernel) hfm
    | refine Mask.ok_ite ?_ ?_
    | refine faultsOf_ok ?_ ?_
    | refine fun _ (_ : Keeps fm r0 _) => ?_
    | refine fun _ _ (_ : Keeps fm r0 _) => ?_
    | refine fun _ _ _ (_ : Keeps fm r0 _) => ?_
    | exact KeepsO.get rfl (by assumption)
    | exact KeepsP.get rfl (by assumption)
    | (intro a; refine (fun ha : Keeps fm r0 a => ?_) ?_; clear_value a; rotate_left; dsimp only [a]; rotate_right)
    | (intro a; refine (fun ha : Keeps fm r0 a.2 => ?_) ?_; clear_value a; rotate_left; dsimp only [a]; rotate_right)
    | (intro a; refine (fun ha : Keeps fm r0 a.1 => ?_) ?_; clear_value a; rotate_left; dsimp only [a]; rotate_right)
    | (intro a; refine (fun ha : KeepsO fm r0 a => ?_) ?_; clear_value a; rotate_left; dsimp only [a]; rotate_right)
    | (have _ := @hgb; intro a; refine (fun hgc : ∀ t, Keeps fm r0 t → Keeps fm r0 (a t) => ?_) ?_; clear_value a; rotate_left; dsimp only [a]; rotate_right)
    | (have _ := @hga; intro a; refine (fun hgb : ∀ t, Keeps fm r0 t → Keeps fm r0 (a t) => ?_) ?_; clear_value a; rotate_left; dsimp only [a]; rotate_right)
    | (intro a; refine (fun hga : ∀ t, Keeps fm r0 t → Keeps fm r0 (a t) => ?_) ?_; clear_value a; rotate_left; dsimp only [a]; rotate_right)
    | (have _ := @hgb; intro a; refine (fun hgc : ∀ x t, Keeps fm r0 t → Keeps fm r0 (a x t) => ?_) ?_; clear_value a; rotate_left; dsimp only [a]; rotate_right)
    | (have _ := @hga; intro a; refine (fun hgb : ∀ x t, Keeps fm r0 t → Keeps fm r0 (a x t) => ?_) ?_; clear_value a; rotate_left; dsimp only [a]; rotate_right)
    | (intro a; refine (fun hga : ∀ x t, Keeps fm r0 t → Keeps fm r0 (a x t) => ?_) ?_; clear_value a; rotate_left; dsimp only [a]; rotate_right)
    | (have _ := @hgb; intro a; refine (fun hgc : ∀ x y t, Keeps fm r0 t → Keeps fm r0 (a x y t) => ?_) ?_; clear_value a; rotate_left; dsimp only [a]; rotate_right)
    | (have _ := @hga; intro a; refine (fun hgb : ∀ x y t, Keeps fm r0 t → Keeps fm r0 (a x y t) => ?_) ?_; clear_value a; rotate_left; dsimp only [a]; rotate_right)
    | (intro a; refine (fun hga : ∀ x y t, Keeps fm r0 t → Keeps fm r0 (a x y t) => ?_) ?_; clear_value a; rotate_left; dsimp only [a]; rotate_right)
    | (have _ := @hgb; intro a; refine (fun hgc : ∀ t x, Keeps fm r0 t → Keeps fm r0 (a t x) => ?_) ?_; clear_value a; rotate_left; dsimp only [a]; rotate_right)
    | (have _ := @hga; intro a; refine (fun hgb : ∀ t x, Keeps fm r0 t → Keeps fm r0 (a t x) => ?_) ?_; clear_value a; rotate_left; dsimp only [a]; rotate_right)
    | (intro a; refine (fun hga : ∀ t x, Keeps fm r0 t → Keeps fm r0 (a t x) => ?_) ?_; clear_value a; rotate_left; dsimp only [a]; rotate_right)
    | (intro a; refine (fun (_ : a = (a : Dict)) => ?_) rfl; dsimp only [a])
    | (intro a; clear_value a)
    | apply hga
    | apply hgb
    | apply hgc
    | lift_lets -underBinder
    | apply Keeps.ite
    | apply modPool_keeps
    | apply modSeg_keeps
    | apply noteStripes_keeps
    | apply freeParity_keeps
    | apply modStripe_keeps
    | apply Keeps.forEach
    | apply Keeps.forRange
    | apply Keeps.foldl
    | apply Keeps.foldl_fst
    | apply Keeps.foldl_snd
    | exact KeepsO.none
    | exact KeepsP.none
    | apply KeepsO.some
    | apply KeepsP.some
    | apply KeepsO.ite
    | apply KeepsP.ite
    | refine KeepsO.foldl _ _ ?_ (fun _ _ _ => ?_)
    | exact KeepsF.lost
    | apply KeepsF.started
    | apply KeepsF.ite
    | fail_if_no_progress (apply Keeps.upd <;> try first | exact Or.inr (fpart (by decide +kernel) hfm) | exact Or.inl rfl)
    | fail_if_no_progress (apply Keeps.updDict <;> try first | exact Or.inr (fpart (by decide +kernel) hfm) | exact Or.inl rfl)
    | refine Keeps.updRegs (rg := Tbl.filterK _ _) ?_ (Tbl.wf_filterK _) (Tbl.wf_filterK _)
    | refine Keeps.updRegs (rg := Tbl.filterK _ _) ?_ (Tbl.wf_filterK _) id
    | split
    | refine Keeps.of_snd (by assumption) ?_
    | refine Keeps.of_fst (by assumption) ?_
    | refine KeepsO.get (by assumption) ?_
    | refine KeepsP.get (by assumption) ?_
    | refine KeepsF.get (by assumption) ?_

theorem clearGone_keeps {fm : Nat} {r0 : State}  {s : State} {p : Nat} {slot : Nat} (hfm : Mask.le 0x10000000000000000000000000000000000000000000000000000000000000000000000000000000000000000000000000000000000000000000000000001000 fm = true) (h0 : Keeps fm r0 s)  : Keeps fm r0 (clearGone s p slot) := by
  unfold clearGone
  try lift_lets -underBinder
  with_reducible repeat' first
    | assumption
    | exact fpart (by decide +kernel) hfm
    | exact fle (by decide +kernel) hfm
    | exact fok (by decide +kernel) hfm
    | exact fall (by decide +kernel) hfm
    | exact fokIx (by decide +kernel) hfm
    | exact fokAll (by decide +kernel) hfm
    | refine Mask.ok_ite ?_ ?_
    | refine faultsOf_ok ?_ ?_
    | refine fun _ (_ : Keeps fm r0 _) => ?_
    | refine fun _ _ (_ : Keeps fm r0 _) => ?_
    | refine fun _ _ _ (_ : Keeps fm r0 _) => ?_
    | exact KeepsO.get rfl (by assumption)
    | exact KeepsP.get rfl (by assumption)
    | (intro a; refine (fun ha : Keeps fm r0 a => ?_) ?_; clear_value a; rotate_left; dsimp only [a]; rotate_right)
    | (intro a; refine (fun ha : Keeps fm r0 a.2 => ?_) ?_; clear_value a; rotate_left; dsimp only [a]; rotate_right)
    | (intro a; refine (fun ha : Keeps fm r0 a.1 => ?_) ?_; clear_value a; rotate_left; dsimp only [a]; rotate_right)
    | (intro a; refine (fun ha : KeepsO fm r0 a => ?_) ?_; clear_value a; rotate_left; dsimp only [a]; rotate_right)
    | (have _ := @hgb; intro a; refine (fun hgc : ∀ t, Keeps fm r0 t → Keeps fm r0 (a t) => ?_) ?_; clear_value a; rotate_left; dsimp only [a]; rotate_right)
    | (have _ := @hga; intro a; refine (fun hgb : ∀ t, Keeps fm r0 t → Keeps fm r0 (a t) => ?_) ?_; clear_value a; rotate_left; dsimp only [a]; rotate_right)
    | (intro a; refine (fun hga : ∀ t, Keeps fm r0 t → Keeps fm r0 (a t) => ?_) ?_; clear_value a; rotate_left; dsimp only [a]; rotate_right)
    | (have _ := @hgb; intro a; refine (fun hgc : ∀ x t, Keeps fm r0 t → Keeps fm r0 (a x t) => ?_) ?_; clear_value a; rotate_left; dsimp only [a]; rotate_right)
    | (have _ := @hga; intro a; refine (fun hgb : ∀ x t, Keeps fm r0 t → Keeps fm r0 (a x t) => ?_) ?_; clear_value a; rotate_left; dsimp only [a]; rotate_right)
    | (intro a; refine (fun hga : ∀ x t, Keeps fm r0 t → Keeps fm r0 (a x t) => ?_) ?_; clear_value a; rotate_left; dsimp only [a]; rotate_right)
    | (have _ := @hgb; intro a; refine (fun hgc : ∀ x y t, Keeps fm r0 t → Keeps fm r0 (a x y t) => ?_) ?_; clear_value a; rotate_left; dsimp only [a]; rotate_right)
    | (have _ := @hga; intro a; refine (fun hgb : ∀ x y t, Keeps fm r0 t → Keeps fm r0 (a x y t) => ?_) ?_; clear_value a; rotate_left; dsimp only [a]; rotate_right)
    | (intro a; refine (fun hga : ∀ x y t, Keeps fm r0 t → Keeps fm r0 (a x y t) => ?_) ?_; clear_value a; rotate_left; dsimp only [a]; rotate_right)
    | (have _ := @hgb; intro a; refine (fun hgc : ∀ t x, Keeps fm r0 t → Keeps fm r0 (a t x) => ?_) ?_; clear_value a; rotate_left; dsimp only [a]; rotate_right)
    | (have _ := @hga; intro a; refine (fun hgb : ∀ t x, Keeps fm r0 t → Keeps fm r0 (a t x) => ?_) ?_; clear_value a; rotate_left; dsimp only [a]; rotate_right)
    | (intro a; refine (fun hga : ∀ t x, Keeps fm r0 t → Keeps fm r0 (a t x) => ?_) ?_; clear_value a; rotate_left; dsimp only [a]; rotate_right)
    | (intro a; refine (fun (_ : a = (a : Dict)) => ?_) rfl; dsimp only [a])
    | (intro a; clear_value a)
    | apply hga
    | apply hgb
    | apply hgc
    | lift_lets -underBinder
    | apply Keeps.ite
    | apply dropStripes_keeps
    | apply modPool_keeps
    | apply modSeg_keeps
    | apply Keeps.forEach
    | apply Keeps.forRange
    | apply Keeps.foldl
    | apply Keeps.foldl_fst
    | apply Keeps.foldl_snd
    | exact KeepsO.none
    | exact KeepsP.none
    | apply KeepsO.some
    | apply KeepsP.some
    | apply KeepsO.ite
    | apply KeepsP.ite
    | refine KeepsO.foldl _ _ ?_ (fun _ _ _ => ?_)
    | exact KeepsF.lost
    | apply KeepsF.started
    | apply KeepsF.ite
    | fail_if_no_progress (apply Keeps.upd <;> try first | exact Or.inr (fpart (by decide +kernel) hfm) | exact Or.inl rfl)
    | fail_if_no_progress (apply Keeps.updDict <;> try first | exact Or.inr (fpart (by decide +kernel) hfm) | exact Or.inl rfl)
    | refine Keeps.updRegs (rg := Tbl.filterK _ _) ?_ (Tbl.wf_filterK _) (Tbl.wf_filterK _)
    | refine Keeps.updRegs (rg := Tbl.filterK _ _) ?_ (Tbl.wf_filterK _) id
    | split
    | refine Keeps.of_snd (by assumption) ?_
    | refine Keeps.of_fst (by assumption) ?_
    | refine KeepsO.get (by assumption) ?_
    | refine KeepsP.get (by assumption) ?_
    | refine KeepsF.get (by assumption) ?_

theorem sealGone_keeps {fm : Nat} {r0 : State}  {s : State} {p : Nat} {slot : Nat} (hfm : Mask.le 0x3008000000000000001f000000000000000000010000000000000000000000000000001400860000017c190000000000000000000000000080000000000000000000020000040867920 fm = true) (h0 : Keeps fm r0 s)  : Keeps fm r0 (sealGone s p slot) := by
  unfold sealGone
  try lift_lets -underBinder
  with_reducible repeat' first
    | assumption
    | exact fpart (by decide +kernel) hfm
    | exact fle (by decide +kernel) hfm
    | exact fok (by decide +kernel) hfm
    | exact fall (by decide +kernel) hfm
    | exact fokIx (by decide +kernel) hfm
    | exact fokAll (by decide +kernel) hfm
    | refine Mask.ok_ite ?_ ?_
    | refine faultsOf_ok ?_ ?_
    | refine fun _ (_ : Keeps fm r0 _) => ?_
    | refine fun _ _ (_ : Keeps fm r0 _) => ?_
    | refine fun _ _ _ (_ : Keeps fm r0 _) => ?_
    | exact KeepsO.get rfl (by assumption)
    | exact KeepsP.get rfl (by assumption)
    | (intro a; refine (fun ha : Keeps fm r0 a => ?_) ?_; clear_value a; rotate_left; dsimp only [a]; rotate_right)
    | (intro a; refine (fun ha : Keeps fm r0 a.2 => ?_) ?_; clear_value a; rotate_left; dsimp only [a]; rotate_right)
    | (intro a; refine (fun ha : Keeps fm r0 a.1 => ?_) ?_; clear_value a; rotate_left; dsimp only [a]; rotate_right)
    | (intro a; refine (fun ha : KeepsO fm r0 a => ?_) ?_; clear_value a; rotate_left; dsimp only [a]; rotate_right)
    | (have _ := @hgb; intro a; refine (fun hgc : ∀ t, Keeps fm r0 t → Keeps fm r0 (a t) => ?_) ?_; clear_value a; rotate_left; dsimp only [a]; rotate_right)
    | (have _ := @hga; intro a; refine (fun hgb : ∀ t, Keeps fm r0 t → Keeps fm r0 (a t) => ?_) ?_; clear_value a; rotate_left; dsimp only [a]; rotate_right)
    | (intro a; refine (fun hga : ∀ t, Keeps fm r0 t → Keeps fm r0 (a t) => ?_) ?_; clear_value a; rotate_left; dsimp only [a]; rotate_right)
    | (have _ := @hgb; intro a; refine (fun hgc : ∀ x t, Keeps fm r0 t → Keeps fm r0 (a x t) => ?_) ?_; clear_value a; rotate_left; dsimp only [a]; rotate_right)
    | (have _ := @hga; intro a; refine (fun hgb : ∀ x t, Keeps fm r0 t → Keeps fm r0 (a x t) => ?_) ?_; clear_value a; rotate_left; dsimp only [a]; rotate_right)
    | (intro a; refine (fun hga : ∀ x t, Keeps fm r0 t → Keeps fm r0 (a x t) => ?_) ?_; clear_value a; rotate_left; dsimp only [a]; rotate_right)
    | (have _ := @hgb; intro a; refine (fun hgc : ∀ x y t, Keeps fm r0 t → Keeps fm r0 (a x y t) => ?_) ?_; clear_value a; rotate_left; dsimp only [a]; rotate_right)
    | (have _ := @hga; intro a; refine (fun hgb : ∀ x y t, Keeps fm r0 t → Keeps fm r0 (a x y t) => ?_) ?_; clear_value a; rotate_left; dsimp only [a]; rotate_right)
    | (intro a; refine (fun hga : ∀ x y t, Keeps fm r0 t → Keeps fm r0 (a x y t) => ?_) ?_; clear_value a; rotate_left; dsimp only [a]; rotate_right)
    | (have _ := @hgb; intro a; refine (fun hgc : ∀ t x, Keeps fm r0 t → Keeps fm r0 (a t x) => ?_) ?_; clear_value a; rotate_left; dsimp only [a]; rotate_right)
    | (have _ := @hga; intro a; refine (fun hgb : ∀ t x, Keeps fm r0 t → Keeps fm r0 (a t x) => ?_) ?_; clear_value a; rotate_left; dsimp only [a]; rotate_right)
    | (intro a; refine (fun hga : ∀ t x, Keeps fm r0 t → Keeps fm r0 (a t x) => ?_) ?_; clear_value a; rotate_left; dsimp only [a]; rotate_right)
    | (intro a; refine (fun (_ : a = (a : Dict)) => ?_) rfl; dsimp only [a])
    | (intro a; clear_value a)
    | apply hga
    | apply hgb
    | apply hgc
    | lift_lets -underBinder
    | apply Keeps.ite
    | apply queryPointers_keeps
    | apply clearGone_keeps
    | apply writeTable_keeps
    | apply issueAll_keeps
    | apply reissueAll_keeps
    | apply noteStripes_keeps
    | apply Keeps.forEach
    | apply Keeps.forRange
    | apply Keeps.foldl
    | apply Keeps.foldl_fst
    | apply Keeps.foldl_snd
    | exact KeepsO.none
    | exact KeepsP.none
    | apply KeepsO.some
    | apply KeepsP.some
    | apply KeepsO.ite
    | apply KeepsP.ite
    | refine KeepsO.foldl _ _ ?_ (fun _ _ _ => ?_)
    | exact KeepsF.lost
    | apply KeepsF.started
    | apply KeepsF.ite
    | refine Keeps.of_snd (by assumption) ?_
    | refine Keeps.of_fst (by assumption) ?_
    | refine KeepsO.get (by assumption) ?_
    | refine KeepsP.get (by assumption) ?_
    | refine KeepsF.get (by assumption) ?_
    | split
    | fail_if_no_progress (apply Keeps.upd <;> try first | exact Or.inr (fpart (by decide +kernel) hfm) | exact Or.inl rfl)
    | fail_if_no_progress (apply Keeps.updDict <;> try first | exact Or.inr (fpart (by decide +kernel) hfm) | exact Or.inl rfl)
    | refine Keeps.updRegs (rg := Tbl.filterK _ _) ?_ (Tbl.wf_filterK _) (Tbl.wf_filterK _)
    | refine Keeps.updRegs (rg := Tbl.filterK _ _) ?_ (Tbl.wf_filterK _) id

theorem abandonStripe_keeps {fm : Nat} {r0 : State}  {s : State} {p : Nat} {id : Nat} (hfm : Mask.le 0x3008000000000000001f000000000020000000010000000000000000000000000000001400860000017c190000000000000000000000000080000000000000000000020000040867920 fm = true) (h0 : Keeps fm r0 s)  : Keeps fm r0 (abandonStripe s p id) := by
  unfold abandonStripe
  with_reducible repeat' first
    | assumption
    | exact fpart (by decide +kernel) hfm
    | exact fle (by decide +kernel) hfm
    | exact fok (by decide +kernel) hfm
    | exact fall (by decide +kernel) hfm
    | exact fokIx (by decide +kernel) hfm
    | exact fokAll (by decide +kernel) hfm
    | refine Mask.ok_ite ?_ ?_
    | refine faultsOf_ok ?_ ?_
    | refine fun _ (_ : Keeps fm r0 _) => ?_
    | refine fun _ _ (_ : Keeps fm r0 _) => ?_
    | refine fun _ _ _ (_ : Keeps fm r0 _) => ?_
    | exact KeepsO.get rfl (by assumption)
    | exact KeepsP.get rfl (by assumption)
    | apply Keeps.ite
    | apply sealGone_keeps
    | apply markGone_keeps
    | apply Keeps.forEach
    | apply Keeps.forRange
    | apply Keeps.foldl
    | apply Keeps.foldl_fst
    | apply Keeps.foldl_snd
    | exact KeepsO.none
    | exact KeepsP.none
    | apply KeepsO.some
    | apply KeepsP.some
    | apply KeepsO.ite
    | apply KeepsP.ite
    | refine KeepsO.foldl _ _ ?_ (fun _ _ _ => ?_)
    | exact KeepsF.lost
    | apply KeepsF.started
    | apply KeepsF.ite
    | refine Keeps.of_snd (by assumption) ?_
    | refine Keeps.of_fst (by assumption) ?_
    | refine KeepsO.get (by assumption) ?_
    | refine KeepsP.get (by assumption) ?_
    | refine KeepsF.get (by assumption) ?_
    | split
    | fail_if_no_progress (apply Keeps.upd <;> try first | exact Or.inr (fpart (by decide +kernel) hfm) | exact Or.inl rfl)
    | fail_if_no_progress (apply Keeps.updDict <;> try first | exact Or.inr (fpart (by decide +kernel) hfm) | exact Or.inl rfl)
    | refine Keeps.updRegs (rg := Tbl.filterK _ _) ?_ (Tbl.wf_filterK _) (Tbl.wf_filterK _)
    | refine Keeps.updRegs (rg := Tbl.filterK _ _) ?_ (Tbl.wf_filterK _) id

theorem sealOn_keeps {fm : Nat} {r0 : State}  {s : State} {p : Nat} {slot : Nat} (hfm : Mask.le 0x3008000000000000001f000000000000000000010000000000000000000000000000001400860000017c190000000000000000000000000080000000000000000000020000040867920 fm = true) (h0 : Keeps fm r0 s)  : Keeps fm r0 (sealOn s p slot) := by
  unfold sealOn
  with_reducible repeat' first
    | assumption
    | exact fpart (by decide +kernel) hfm
    | exact fle (by decide +kernel) hfm
    | exact fok (by decide +kernel) hfm
    | exact fall (by decide +kernel) hfm
    | exact fokIx (by decide +kernel) hfm
    | exact fokAll (by decide +kernel) hfm
    | refine Mask.ok_ite ?_ ?_
    | refine faultsOf_ok ?_ ?_
    | refine fun _ (_ : Keeps fm r0 _) => ?_
    | refine fun _ _ (_ : Keeps fm r0 _) => ?_
    | refine fun _ _ _ (_ : Keeps fm r0 _) => ?_
    | exact KeepsO.get rfl (by assumption)
    | exact KeepsP.get rfl (by assumption)
    | apply Keeps.ite
    | apply trySeal_keeps
    | apply sealGone_keeps
    | apply Keeps.forEach
    | apply Keeps.forRange
    | apply Keeps.foldl
    | apply Keeps.foldl_fst
    | apply Keeps.foldl_snd
    | exact KeepsO.none
    | exact KeepsP.none
    | apply KeepsO.some
    | apply KeepsP.some
    | apply KeepsO.ite
    | apply KeepsP.ite
    | refine KeepsO.foldl _ _ ?_ (fun _ _ _ => ?_)
    | exact KeepsF.lost
    | apply KeepsF.started
    | apply KeepsF.ite
    | fail_if_no_progress (apply Keeps.upd <;> try first | exact Or.inr (fpart (by decide +kernel) hfm) | exact Or.inl rfl)
    | fail_if_no_progress (apply Keeps.updDict <;> try first | exact Or.inr (fpart (by decide +kernel) hfm) | exact Or.inl rfl)
    | refine Keeps.updRegs (rg := Tbl.filterK _ _) ?_ (Tbl.wf_filterK _) (Tbl.wf_filterK _)
    | refine Keeps.updRegs (rg := Tbl.filterK _ _) ?_ (Tbl.wf_filterK _) id
    | split
    | refine Keeps.of_snd (by assumption) ?_
    | refine Keeps.of_fst (by assumption) ?_
    | refine KeepsO.get (by assumption) ?_
    | refine KeepsP.get (by assumption) ?_
    | refine KeepsF.get (by assumption) ?_

theorem reissueNow_keeps {fm : Nat} {r0 : State}  {s : State} {p : Nat} {slot : Nat} (hfm : Mask.le 0x3008000000000000001f000000000000000000010000000000000000000000000000001400860000017c190000000000000000000000000080000000000000000000020000040867920 fm = true) (h0 : Keeps fm r0 s)  : Keeps fm r0 (reissueNow s p slot) := by
  unfold reissueNow
  try lift_lets -underBinder
  with_reducible repeat' first
    | assumption
    | exact fpart (by decide +kernel) hfm
    | exact fle (by decide +kernel) hfm
    | exact fok (by decide +kernel) hfm
    | exact fall (by decide +kernel) hfm
    | exact fokIx (by decide +kernel) hfm
    | exact fokAll (by decide +kernel) hfm
    | refine Mask.ok_ite ?_ ?_
    | refine faultsOf_ok ?_ ?_
    | refine fun _ (_ : Keeps fm r0 _) => ?_
    | refine fun _ _ (_ : Keeps fm r0 _) => ?_
    | refine fun _ _ _ (_ : Keeps fm r0 _) => ?_
    | exact KeepsO.get rfl (by assumption)
    | exact KeepsP.get rfl (by assumption)
    | (intro a; refine (fun ha : Keeps fm r0 a => ?_) ?_; clear_value a; rotate_left; dsimp only [a]; rotate_right)
    | (intro a; refine (fun ha : Keeps fm r0 a.2 => ?_) ?_; clear_value a; rotate_left; dsimp only [a]; rotate_right)
    | (intro a; refine (fun ha : Keeps fm r0 a.1 => ?_) ?_; clear_value a; rotate_left; dsimp only [a]; rotate_right)
    | (intro a; refine (fun ha : KeepsO fm r0 a => ?_) ?_; clear_value a; rotate_left; dsimp only [a]; rotate_right)
    | (have _ := @hgb; intro a; refine (fun hgc : ∀ t, Keeps fm r0 t → Keeps fm r0 (a t) => ?_) ?_; clear_value a; rotate_left; dsimp only [a]; rotate_right)
    | (have _ := @hga; intro a; refine (fun hgb : ∀ t, Keeps fm r0 t → Keeps fm r0 (a t) => ?_) ?_; clear_value a; rotate_left; dsimp only [a]; rotate_right)
    | (intro a; refine (fun hga : ∀ t, Keeps fm r0 t → Keeps fm r0 (a t) => ?_) ?_; clear_value a; rotate_left; dsimp only [a]; rotate_right)
    | (have _ := @hgb; intro a; refine (fun hgc : ∀ x t, Keeps fm r0 t → Keeps fm r0 (a x t) => ?_) ?_; clear_value a; rotate_left; dsimp only [a]; rotate_right)
    | (have _ := @hga; intro a; refine (fun hgb : ∀ x t, Keeps fm r0 t → Keeps fm r0 (a x t) => ?_) ?_; clear_value a; rotate_left; dsimp only [a]; rotate_right)
    | (intro a; refine (fun hga : ∀ x t, Keeps fm r0 t → Keeps fm r0 (a x t) => ?_) ?_; clear_value a; rotate_left; dsimp only [a]; rotate_right)
    | (have _ := @hgb; intro a; refine (fun hgc : ∀ x y t, Keeps fm r0 t → Keeps fm r0 (a x y t) => ?_) ?_; clear_value a; rotate_left; dsimp only [a]; rotate_right)
    | (have _ := @hga; intro a; refine (fun hgb : ∀ x y t, Keeps fm r0 t → Keeps fm r0 (a x y t) => ?_) ?_; clear_value a; rotate_left; dsimp only [a]; rotate_right)
    | (intro a; refine (fun hga : ∀ x y t, Keeps fm r0 t → Keeps fm r0 (a x y t) => ?_) ?_; clear_value a; rotate_left; dsimp only [a]; rotate_right)
    | (have _ := @hgb; intro a; refine (fun hgc : ∀ t x, Keeps fm r0 t → Keeps fm r0 (a t x) => ?_) ?_; clear_value a; rotate_left; dsimp only [a]; rotate_right)
    | (have _ := @hga; intro a; refine (fun hgb : ∀ t x, Keeps fm r0 t → Keeps fm r0 (a t x) => ?_) ?_; clear_value a; rotate_left; dsimp only [a]; rotate_right)
    | (intro a; refine (fun hga : ∀ t x, Keeps fm r0 t → Keeps fm r0 (a t x) => ?_) ?_; clear_value a; rotate_left; dsimp only [a]; rotate_right)
    | (intro a; refine (fun (_ : a = (a : Dict)) => ?_) rfl; dsimp only [a])
    | (intro a; clear_value a)
    | apply hga
    | apply hgb
    | apply hgc
    | lift_lets -underBinder
    | apply Keeps.ite
    | apply issueAll_keeps
    | apply trySeal_keeps
    | apply reissueAll_keeps
    | apply noteStripes_keeps
    | apply clearGone_keeps
    | apply Keeps.forEach
    | apply Keeps.forRange
    | apply Keeps.foldl
    | apply Keeps.foldl_fst
    | apply Keeps.foldl_snd
    | exact KeepsO.none
    | exact KeepsP.none
    | apply KeepsO.some
    | apply KeepsP.some
    | apply KeepsO.ite
    | apply KeepsP.ite
    | refine KeepsO.foldl _ _ ?_ (fun _ _ _ => ?_)
    | exact KeepsF.lost
    | apply KeepsF.started
    | apply KeepsF.ite
    | fail_if_no_progress (apply Keeps.upd <;> try first | exact Or.inr (fpart (by decide +kernel) hfm) | exact Or.inl rfl)
    | fail_if_no_progress (apply Keeps.updDict <;> try first | exact Or.inr (fpart (by decide +kernel) hfm) | exact Or.inl rfl)
    | refine Keeps.updRegs (rg := Tbl.filterK _ _) ?_ (Tbl.wf_filterK _) (Tbl.wf_filterK _)
    | refine Keeps.updRegs (rg := Tbl.filterK _ _) ?_ (Tbl.wf_filterK _) id
    | split
    | refine Keeps.of_snd (by assumption) ?_
    | refine Keeps.of_fst (by assumption) ?_
    | refine KeepsO.get (by assumption) ?_
    | refine KeepsP.get (by assumption) ?_
    | refine KeepsF.get (by assumption) ?_

/-! ## Hygiene -/

theorem noteReserve_keeps {fm : Nat} {r0 : State}  {s : State} (hfm : Mask.le 0x1000000000000000000000000000000000000000000000000000000000000000000000000000000000000000000000000000000000000000000000000000000000000000000 fm = true) (h0 : Keeps fm r0 s)  : Keeps fm r0 (noteReserve s) := by
  unfold noteReserve
  with_reducible repeat' first | assumption | exact fpart (by decide +kernel) hfm | exact fle (by decide +kernel) hfm | exact fok (by decide +kernel) hfm | exact fall (by decide +kernel) hfm | exact fokIx (by decide +kernel) hfm | exact fokAll (by decide +kernel) hfm | refine Mask.ok_ite ?_ ?_ | refine faultsOf_ok ?_ ?_ | apply wr_keeps

theorem takeUnit_keeps {fm : Nat} {r0 : State}  {s : State} {kind : Nat} {unit : Nat} {owner : Nat} (hfm : Mask.le 0x1000000000000000000000000000000000000000000000000000000000000000000000000000000000000000000000000000000000000000000000000000000000000008000 fm = true) (h0 : Keeps fm r0 s)  : KeepsO fm r0 (takeUnit s kind unit owner) := by
  unfold takeUnit
  with_reducible repeat' first | assumption | exact fpart (by decide +kernel) hfm | exact fle (by decide +kernel) hfm | exact fok (by decide +kernel) hfm | exact fall (by decide +kernel) hfm | exact fokIx (by decide +kernel) hfm | exact fokAll (by decide +kernel) hfm | refine Mask.ok_ite ?_ ?_ | refine faultsOf_ok ?_ ?_ | apply noteReserve_keeps | exact KeepsO.none | apply KeepsO.some | apply KeepsO.ite | fail_if_no_progress (apply Keeps.upd <;> try first | exact Or.inr (fpart (by decide +kernel) hfm) | exact Or.inl rfl)

theorem disown_keeps {fm : Nat} {r0 : State}  {s : State} {kind : Nat} {owner : Nat} (hfm : Mask.le 0x8000 fm = true) (h0 : Keeps fm r0 s)  : Keeps fm r0 (disown s kind owner) := by
  unfold disown
  with_reducible repeat' first | assumption | exact fpart (by decide +kernel) hfm | exact fle (by decide +kernel) hfm | exact fok (by decide +kernel) hfm | exact fall (by decide +kernel) hfm | exact fokIx (by decide +kernel) hfm | exact fokAll (by decide +kernel) hfm | refine Mask.ok_ite ?_ ?_ | refine faultsOf_ok ?_ ?_ | fail_if_no_progress (apply Keeps.upd <;> try first | exact Or.inr (fpart (by decide +kernel) hfm) | exact Or.inl rfl)

theorem disownVolume_keeps {fm : Nat} {r0 : State}  {s : State} {v : Nat} (hfm : Mask.le 0x8000 fm = true) (h0 : Keeps fm r0 s)  : Keeps fm r0 (disownVolume s v) := by
  unfold disownVolume
  with_reducible repeat' first | assumption | exact fpart (by decide +kernel) hfm | exact fle (by decide +kernel) hfm | exact fok (by decide +kernel) hfm | exact fall (by decide +kernel) hfm | exact fokIx (by decide +kernel) hfm | exact fokAll (by decide +kernel) hfm | refine Mask.ok_ite ?_ ?_ | refine faultsOf_ok ?_ ?_ | apply disown_keeps

theorem execZeroingComplete_keeps {fm : Nat} {r0 : State}  {kind : Nat} {s : State} (hfm : Mask.le 0x1400000000000000000000000000000000000000000000000000000000000000000000000000000000000000000000000000000000000000000000000000000000000008000 fm = true) (h0 : Keeps fm r0 s)  : ∃ t1, (execZeroingComplete kind s) = .next t1 ∧ Keeps fm r0 t1 := by
  refine ⟨_, rfl, ?_⟩
  with_reducible repeat' first | assumption | exact fpart (by decide +kernel) hfm | exact fle (by decide +kernel) hfm | exact fok (by decide +kernel) hfm | exact fall (by decide +kernel) hfm | exact fokIx (by decide +kernel) hfm | exact fokAll (by decide +kernel) hfm | refine Mask.ok_ite ?_ ?_ | refine faultsOf_ok ?_ ?_ | apply Keeps.ite | apply noteReserve_keeps | apply bump_keeps | fail_if_no_progress (apply Keeps.upd <;> try first | exact Or.inr (fpart (by decide +kernel) hfm) | exact Or.inl rfl)

theorem modSlot_keeps {fm : Nat} {r0 : State}  {s : State} {n : Nat} {f : Slot → Slot} (hfm : Mask.le 0x800 fm = true) (h0 : Keeps fm r0 s)  : Keeps fm r0 (modSlot s n f) := by
  unfold modSlot
  with_reducible repeat' first | assumption | exact fpart (by decide +kernel) hfm | exact fle (by decide +kernel) hfm | exact fok (by decide +kernel) hfm | exact fall (by decide +kernel) hfm | exact fokIx (by decide +kernel) hfm | exact fokAll (by decide +kernel) hfm | refine Mask.ok_ite ?_ ?_ | refine faultsOf_ok ?_ ?_ | fail_if_no_progress (apply Keeps.upd <;> try first | exact Or.inr (fpart (by decide +kernel) hfm) | exact Or.inl rfl)

theorem noteSlots_keeps {fm : Nat} {r0 : State}  {s : State} (hfm : Mask.le 0x700000000000000000000000000000000000000000000000000000000000000000000000000000000000000000000000000000000000000000000 fm = true) (h0 : Keeps fm r0 s)  : Keeps fm r0 (noteSlots s) := by
  unfold noteSlots
  try lift_lets -underBinder
  with_reducible repeat' first | assumption | exact fpart (by decide +kernel) hfm | exact fle (by decide +kernel) hfm | exact fok (by decide +kernel) hfm | exact fall (by decide +kernel) hfm | exact fokIx (by decide +kernel) hfm | exact fokAll (by decide +kernel) hfm | refine Mask.ok_ite ?_ ?_ | refine faultsOf_ok ?_ ?_ | (intro a; clear_value a) | lift_lets -underBinder | apply wr_keeps

theorem setEntry_keeps {fm : Nat} {r0 : State}  {s : State} {key : Nat} {e : Entry} (hfm : Mask.le 0x20400 fm = true) (h0 : Keeps fm r0 s)  : Keeps fm r0 (setEntry s key e) := by
  unfold setEntry
  with_reducible repeat' first | assumption | exact fpart (by decide +kernel) hfm | exact fle (by decide +kernel) hfm | exact fok (by decide +kernel) hfm | exact fall (by decide +kernel) hfm | exact fokIx (by decide +kernel) hfm | exact fokAll (by decide +kernel) hfm | refine Mask.ok_ite ?_ ?_ | refine faultsOf_ok ?_ ?_ | apply touchMap_keeps | fail_if_no_progress (apply Keeps.upd <;> try first | exact Or.inr (fpart (by decide +kernel) hfm) | exact Or.inl rfl)

theorem noteLeaves_keeps {fm : Nat} {r0 : State}  {s : State} (hfm : Mask.le 0xc00000000000000000000000000000000000000000000000000000000000000000000000800000000000000000000000000000000000000000000000000000000000000000000 fm = true) (h0 : Keeps fm r0 s)  : Keeps fm r0 (noteLeaves s) := by
  unfold noteLeaves
  try lift_lets -underBinder
  with_reducible repeat' first | assumption | exact fpart (by decide +kernel) hfm | exact fle (by decide +kernel) hfm | exact fok (by decide +kernel) hfm | exact fall (by decide +kernel) hfm | exact fokIx (by decide +kernel) hfm | exact fokAll (by decide +kernel) hfm | refine Mask.ok_ite ?_ ?_ | refine faultsOf_ok ?_ ?_ | refine fun _ _ (_ : Keeps fm r0 _) => ?_ | (intro a; refine (fun ha : Keeps fm r0 a => ?_) ?_; clear_value a; rotate_left; dsimp only [a]; rotate_right) | (intro a; clear_value a) | lift_lets -underBinder | apply wr_keeps | apply Keeps.forRange

theorem dirtyLeaf_keeps {fm : Nat} {r0 : State}  {s : State} {key : Nat} (hfm : Mask.le 0xc00000000000000000000000000000000000000000000000000000000000000000000000800000000000000000000000000000000000000000000000000000000000000000400 fm = true) (h0 : Keeps fm r0 s)  : Keeps fm r0 (dirtyLeaf s key) := by
  unfold dirtyLeaf
  with_reducible repeat' first | assumption | exact fpart (by decide +kernel) hfm | exact fle (by decide +kernel) hfm | exact fok (by decide +kernel) hfm | exact fall (by decide +kernel) hfm | exact fokIx (by decide +kernel) hfm | exact fokAll (by decide +kernel) hfm | refine Mask.ok_ite ?_ ?_ | refine faultsOf_ok ?_ ?_ | apply noteLeaves_keeps | fail_if_no_progress (apply Keeps.upd <;> try first | exact Or.inr (fpart (by decide +kernel) hfm) | exact Or.inl rfl)

theorem releaseSlot_keeps {fm : Nat} {r0 : State}  {s : State} {n : Nat} (hfm : Mask.le 0x700000000000000000000000000000000000000000000000000000000000000000000000000000000000000000000000000000000000000020800 fm = true) (h0 : Keeps fm r0 s)  : Keeps fm r0 (releaseSlot s n) := by
  unfold releaseSlot
  try lift_lets -underBinder
  with_reducible repeat' first | assumption | exact fpart (by decide +kernel) hfm | exact fle (by decide +kernel) hfm | exact fok (by decide +kernel) hfm | exact fall (by decide +kernel) hfm | exact fokIx (by decide +kernel) hfm | exact fokAll (by decide +kernel) hfm | refine Mask.ok_ite ?_ ?_ | refine faultsOf_ok ?_ ?_ | (intro a; refine (fun ha : Keeps fm r0 a => ?_) ?_; clear_value a; rotate_left; dsimp only [a]; rotate_right) | (intro a; clear_value a) | lift_lets -underBinder | apply noteSlots_keeps | apply touchDesc_keeps | split | fail_if_no_progress (apply Keeps.upd <;> try first | exact Or.inr (fpart (by decide +kernel) hfm) | exact Or.inl rfl)

/-! ## Frames -/

theorem setFrame_keeps {fm : Nat} {r0 : State}  {s : State} {k : Nat} {f : Frame} (hfm : Mask.le 0x10000 fm = true) (h0 : Keeps fm r0 s)  : Keeps fm r0 (setFrame s k f) := by
  unfold setFrame
  with_reducible repeat' first | assumption | exact fpart (by decide +kernel) hfm | exact fle (by decide +kernel) hfm | exact fok (by decide +kernel) hfm | exact fall (by decide +kernel) hfm | exact fokIx (by decide +kernel) hfm | exact fokAll (by decide +kernel) hfm | refine Mask.ok_ite ?_ ?_ | refine faultsOf_ok ?_ ?_ | fail_if_no_progress (apply Keeps.upd <;> try first | exact Or.inr (fpart (by decide +kernel) hfm) | exact Or.inl rfl)

theorem noteFrames_keeps {fm : Nat} {r0 : State}  {s : State} (hfm : Mask.le 0x1000200000000000000000000000000000000000000000000000000000000000000000000000000000000000000000000000000000000000000000000000000000000000000000 fm = true) (h0 : Keeps fm r0 s)  : Keeps fm r0 (noteFrames s) := by
  unfold noteFrames
  with_reducible repeat' first | assumption | exact fpart (by decide +kernel) hfm | exact fle (by decide +kernel) hfm | exact fok (by decide +kernel) hfm | exact fall (by decide +kernel) hfm | exact fokIx (by decide +kernel) hfm | exact fokAll (by decide +kernel) hfm | refine Mask.ok_ite ?_ ?_ | refine faultsOf_ok ?_ ?_ | apply wr_keeps

theorem staleSector_keeps {fm : Nat} {r0 : State}  {s : State} {vol : Nat} {lba : Nat} (hfm : Mask.le 0x1000200000000000000000000000000000000000000000000000000000000000000000000000000000000000000000000000000000000000000000000000000000000000010000 fm = true) (h0 : Keeps fm r0 s)  : Keeps fm r0 (staleSector s vol lba) := by
  unfold staleSector
  try lift_lets -underBinder
  with_reducible repeat' first | assumption | exact fpart (by decide +kernel) hfm | exact fle (by decide +kernel) hfm | exact fok (by decide +kernel) hfm | exact fall (by decide +kernel) hfm | exact fokIx (by decide +kernel) hfm | exact fokAll (by decide +kernel) hfm | refine Mask.ok_ite ?_ ?_ | refine faultsOf_ok ?_ ?_ | (intro a; refine (fun ha : Keeps fm r0 a => ?_) ?_; clear_value a; rotate_left; dsimp only [a]; rotate_right) | (intro a; clear_value a) | lift_lets -underBinder | apply Keeps.ite | apply setFrame_keeps | apply noteFrames_keeps | fail_if_no_progress (apply Keeps.upd <;> try first | exact Or.inr (fpart (by decide +kernel) hfm) | exact Or.inl rfl) | split

theorem discardFrames_keeps {fm : Nat} {r0 : State}  {s : State} {vol : Nat} {f : Nat → Bool} (hfm : Mask.le 0x1000200000000000000000000000000000000000000000000000000000000000000000000000000000000000000000000000000000000000000000000000000000000000010000 fm = true) (h0 : Keeps fm r0 s)  : Keeps fm r0 (discardFrames s vol f) := by
  unfold discardFrames
  try lift_lets -underBinder
  with_reducible repeat' first | assumption | exact fpart (by decide +kernel) hfm | exact fle (by decide +kernel) hfm | exact fok (by decide +kernel) hfm | exact fall (by decide +kernel) hfm | exact fokIx (by decide +kernel) hfm | exact fokAll (by decide +kernel) hfm | refine Mask.ok_ite ?_ ?_ | refine faultsOf_ok ?_ ?_ | (intro a; clear_value a) | lift_lets -underBinder | apply noteFrames_keeps | fail_if_no_progress (apply Keeps.upd <;> try first | exact Or.inr (fpart (by decide +kernel) hfm) | exact Or.inl rfl)

theorem noteRange_keeps {fm : Nat} {r0 : State}  {s : State} {r : Nat} (hfm : Mask.le 0x40000000000000000000000000000000000000000000000000000000000000000000000000000000000000000000000000000000000000000000 fm = true) (h0 : Keeps fm r0 s)  : Keeps fm r0 (noteRange s r) := by
  unfold noteRange
  with_reducible repeat' first | assumption | exact fpart (by decide +kernel) hfm | exact fle (by decide +kernel) hfm | exact fok (by decide +kernel) hfm | exact fall (by decide +kernel) hfm | exact fokIx (by decide +kernel) hfm | exact fokAll (by decide +kernel) hfm | refine Mask.ok_ite ?_ ?_ | refine faultsOf_ok ?_ ?_ | apply wr_keeps

theorem endRange_keeps {fm : Nat} {r0 : State}  {s : State} {r : Nat} (hfm : Mask.le 0x1000200000000000000000000060000000000000000000000000000000000000000000000000000000000000000000000000000000000000000000000000000000000000010000 fm = true) (h0 : Keeps fm r0 s)  : Keeps fm r0 (endRange s r) := by
  unfold endRange
  try lift_lets -underBinder
  with_reducible repeat' first | assumption | exact fpart (by decide +kernel) hfm | exact fle (by decide +kernel) hfm | exact fok (by decide +kernel) hfm | exact fall (by decide +kernel) hfm | exact fokIx (by decide +kernel) hfm | exact fokAll (by decide +kernel) hfm | refine Mask.ok_ite ?_ ?_ | refine faultsOf_ok ?_ ?_ | (intro a; refine (fun ha : Keeps fm r0 a => ?_) ?_; clear_value a; rotate_left; dsimp only [a]; rotate_right) | (intro a; clear_value a) | lift_lets -underBinder | apply noteFrames_keeps | apply noteRange_keeps | apply wr_keeps | fail_if_no_progress (apply Keeps.upd <;> try first | exact Or.inr (fpart (by decide +kernel) hfm) | exact Or.inl rfl)

theorem endRanges_keeps {fm : Nat} {r0 : State}  {s : State} {v : Nat} (hfm : Mask.le 0x1000200000000000000000000060000000000000000000000000000000000000000000000000000000000000000000000000000000000000000000000000000000000000010000 fm = true) (h0 : Keeps fm r0 s)  : Keeps fm r0 (endRanges s v) := by
  unfold endRanges
  with_reducible repeat' first | assumption | exact fpart (by decide +kernel) hfm | exact fle (by decide +kernel) hfm | exact fok (by decide +kernel) hfm | exact fall (by decide +kernel) hfm | exact fokIx (by decide +kernel) hfm | exact fokAll (by decide +kernel) hfm | refine Mask.ok_ite ?_ ?_ | refine faultsOf_ok ?_ ?_ | refine fun _ _ (_ : Keeps fm r0 _) => ?_ | apply Keeps.ite | apply endRange_keeps | apply Keeps.forRange

theorem reloadRanges_keeps {fm : Nat} {r0 : State}  {s : State} {p : Nat} (hfm : Mask.le 0x10000 fm = true) (h0 : Keeps fm r0 s)  : Keeps fm r0 (reloadRanges s p) := by
  unfold reloadRanges
  try lift_lets -underBinder
  with_reducible repeat' first | assumption | exact fpart (by decide +kernel) hfm | exact fle (by decide +kernel) hfm | exact fok (by decide +kernel) hfm | exact fall (by decide +kernel) hfm | exact fokIx (by decide +kernel) hfm | exact fokAll (by decide +kernel) hfm | refine Mask.ok_ite ?_ ?_ | refine faultsOf_ok ?_ ?_ | (intro a; clear_value a) | fail_if_no_progress (apply Keeps.upd <;> try first | exact Or.inr (fpart (by decide +kernel) hfm) | exact Or.inl rfl)

theorem ageSet_keeps {fm : Nat} {r0 : State}  {s : State} {set : Nat} {ways : List Nat} (hfm : Mask.le 0x10000 fm = true) (h0 : Keeps fm r0 s)  : Keeps fm r0 (ageSet s set ways) := by
  unfold ageSet
  try lift_lets -underBinder
  with_reducible repeat' first | assumption | exact fpart (by decide +kernel) hfm | exact fle (by decide +kernel) hfm | exact fok (by decide +kernel) hfm | exact fall (by decide +kernel) hfm | exact fokIx (by decide +kernel) hfm | exact fokAll (by decide +kernel) hfm | refine Mask.ok_ite ?_ ?_ | refine faultsOf_ok ?_ ?_ | refine fun _ _ (_ : Keeps fm r0 _) => ?_ | (intro a; clear_value a) | lift_lets -underBinder | apply Keeps.ite | apply setFrame_keeps | apply Keeps.forEach

theorem victim_keeps {fm : Nat} {r0 s : State} {set : Nat} {ways : List Nat} {n : Nat} (hfm : Mask.le 0x10000 fm = true) (h : Keeps fm r0 s) : KeepsP fm r0 (victim s set ways n) := by
  induction n generalizing s with
  | zero => exact KeepsP.none
  | succ n ih =>
    unfold victim
    split
    · exact KeepsP.some h
    · split
      · exact KeepsP.some h
      · exact KeepsP.ite (ih (ageSet_keeps (fle (by decide +kernel) hfm) h)) KeepsP.none

theorem fillVictim_keeps {fm : Nat} {r0 s : State} {kind set : Nat} (hfm : Mask.le 0x10000 fm = true) (h : Keeps fm r0 s) : KeepsP fm r0 (fillVictim s kind set) := by
  unfold fillVictim
  refine KeepsP.ite ?_ (victim_keeps (fle (by decide +kernel) hfm) h)
  split
  · exact KeepsP.some h
  · intro b t e
    obtain ⟨w, -, e⟩ := Option.map_eq_some_iff.mp e
    cases e
    exact h

theorem startFill_keeps {fm : Nat} {r0 : State}  {s : State} {kind : Nat} {vol : Nat} {lba : Nat} {md : Meta} {data : Bytes} (hfm : Mask.le 0x1001a00000000000000000000000000000000000000000000000000000000030000000000000000000000000000000000000000000000000000000000000000000000000018000 fm = true) (h0 : Keeps fm r0 s)  : Keeps fm r0 (startFill s kind vol lba md data) := by
  unfold startFill
  try lift_lets -underBinder
  with_reducible repeat' first | assumption | exact fpart (by decide +kernel) hfm | exact fle (by decide +kernel) hfm | exact fok (by decide +kernel) hfm | exact fall (by decide +kernel) hfm | exact fokIx (by decide +kernel) hfm | exact fokAll (by decide +kernel) hfm | refine Mask.ok_ite ?_ ?_ | refine faultsOf_ok ?_ ?_ | (intro a; refine (fun ha : Keeps fm r0 a => ?_) ?_; clear_value a; rotate_left; dsimp only [a]; rotate_right) | (intro a; clear_value a) | lift_lets -underBinder | apply Keeps.ite | apply fillVictim_keeps | apply takeUnit_keeps | apply bump_keeps | apply setFrame_keeps | apply noteFrames_keeps | fail_if_no_progress (apply Keeps.upd <;> try first | exact Or.inr (fpart (by decide +kernel) hfm) | exact Or.inl rfl) | split | refine KeepsO.get (by assumption) ?_ | refine KeepsP.get (by assumption) ?_

theorem lockFill_keeps {fm : Nat} {r0 : State}  {s : State} {r : Nat} {vol : Nat} {lba : Nat} {md : Meta} {data : Bytes} (hfm : Mask.le 0x1001a00000000000000000000040000000000000000000000000000000000030000000000000000000000000000000000000000000000000000000000000000000000000018000 fm = true) (h0 : Keeps fm r0 s)  : Keeps fm r0 (lockFill s r vol lba md data) := by
  unfold lockFill
  try lift_lets -underBinder
  with_reducible repeat' first | assumption | exact fpart (by decide +kernel) hfm | exact fle (by decide +kernel) hfm | exact fok (by decide +kernel) hfm | exact fall (by decide +kernel) hfm | exact fokIx (by decide +kernel) hfm | exact fokAll (by decide +kernel) hfm | refine Mask.ok_ite ?_ ?_ | refine faultsOf_ok ?_ ?_ | (intro a; refine (fun ha : Keeps fm r0 a => ?_) ?_; clear_value a; rotate_left; dsimp only [a]; rotate_right) | (intro a; clear_value a) | lift_lets -underBinder | apply Keeps.ite | apply startFill_keeps | apply noteRange_keeps | apply noteFrames_keeps | apply setFrame_keeps | split

theorem hitFrame_keeps {fm : Nat} {r0 : State}  {s : State} {k : Nat} {f : Frame} (hfm : Mask.le 0x44000000000000000000000000000000000000000000000000000000000000000000000000010020 fm = true) (h0 : Keeps fm r0 s)  : Keeps fm r0 (hitFrame s k f) := by
  unfold hitFrame
  try lift_lets -underBinder
  with_reducible repeat' first | assumption | exact fpart (by decide +kernel) hfm | exact fle (by decide +kernel) hfm | exact fok (by decide +kernel) hfm | exact fall (by decide +kernel) hfm | exact fokIx (by decide +kernel) hfm | exact fokAll (by decide +kernel) hfm | refine Mask.ok_ite ?_ ?_ | refine faultsOf_ok ?_ ?_ | (intro a; refine (fun ha : Keeps fm r0 a => ?_) ?_; clear_value a; rotate_left; dsimp only [a]; rotate_right) | lift_lets -underBinder | apply Keeps.ite | apply bump_keeps | apply countDev_keeps | apply setFrame_keeps

theorem putRc_keeps {fm : Nat} {r0 : State}  {s : State} {vol : Nat} {lba : Nat} {md : Meta} {data : Bytes} (hfm : Mask.le 0x10000 fm = true) (h0 : Keeps fm r0 s)  : Keeps fm r0 (putRc s vol lba md data) := by
  unfold putRc
  try lift_lets -underBinder
  with_reducible repeat' first | assumption | exact fpart (by decide +kernel) hfm | exact fle (by decide +kernel) hfm | exact fok (by decide +kernel) hfm | exact fall (by decide +kernel) hfm | exact fokIx (by decide +kernel) hfm | exact fokAll (by decide +kernel) hfm | refine Mask.ok_ite ?_ ?_ | refine faultsOf_ok ?_ ?_ | (intro a; clear_value a) | lift_lets -underBinder | apply Keeps.ite | fail_if_no_progress (apply Keeps.upd <;> try first | exact Or.inr (fpart (by decide +kernel) hfm) | exact Or.inl rfl)

theorem lookRc_keeps {fm : Nat} {r0 : State}  {s : State} {vol : Nat} {lba : Nat} (hfm : Mask.le 0x10000 fm = true) (h0 : Keeps fm r0 s)  : KeepsP fm r0 (lookRc s vol lba) := by
  unfold lookRc
  with_reducible repeat' first | assumption | exact fpart (by decide +kernel) hfm | exact fle (by decide +kernel) hfm | exact fok (by decide +kernel) hfm | exact fall (by decide +kernel) hfm | exact fokIx (by decide +kernel) hfm | exact fokAll (by decide +kernel) hfm | refine Mask.ok_ite ?_ ?_ | refine faultsOf_ok ?_ ?_ | exact KeepsP.none | apply KeepsP.some | fail_if_no_progress (apply Keeps.upd <;> try first | exact Or.inr (fpart (by decide +kernel) hfm) | exact Or.inl rfl) | split

theorem finishFill_keeps {fm : Nat} {r0 : State}  {s : State} {x : Fill} (hfm : Mask.le 0x1000200000000000000000000000000000000000000000000000000000000000000000000000000000000000000000000000000000000000000000000000000000000000010000 fm = true) (h0 : Keeps fm r0 s)  : Keeps fm r0 (finishFill s x) := by
  unfold finishFill
  try lift_lets -underBinder
  with_reducible repeat' first | assumption | exact fpart (by decide +kernel) hfm | exact fle (by decide +kernel) hfm | exact fok (by decide +kernel) hfm | exact fall (by decide +kernel) hfm | exact fokIx (by decide +kernel) hfm | exact fokAll (by decide +kernel) hfm | refine Mask.ok_ite ?_ ?_ | refine faultsOf_ok ?_ ?_ | (intro a; refine (fun ha : Keeps fm r0 a => ?_) ?_; clear_value a; rotate_left; dsimp only [a]; rotate_right) | (intro a; clear_value a) | lift_lets -underBinder | apply Keeps.ite | apply noteFrames_keeps | apply setFrame_keeps | fail_if_no_progress (apply Keeps.upd <;> try first | exact Or.inr (fpart (by decide +kernel) hfm) | exact Or.inl rfl)

theorem execFrameFillComplete_keeps {fm : Nat} {r0 : State}  {frame : Nat} {s : State} (hfm : Mask.le 0x1000200000000000000000000000000000000000000000000000000000000000000000000000000000000000000000000000000000000000000000000000000000000000010000 fm = true) (h0 : Keeps fm r0 s)  : ∃ t1, (execFrameFillComplete frame s) = .next t1 ∧ Keeps fm r0 t1 := by
  refine ⟨_, rfl, ?_⟩
  with_reducible repeat' first | assumption | exact fpart (by decide +kernel) hfm | exact fle (by decide +kernel) hfm | exact fok (by decide +kernel) hfm | exact fall (by decide +kernel) hfm | exact fokIx (by decide +kernel) hfm | exact fokAll (by decide +kernel) hfm | refine Mask.ok_ite ?_ ?_ | refine faultsOf_ok ?_ ?_ | apply finishFill_keeps | split

theorem fillLocked_keeps {fm : Nat} {r0 : State}  {s : State} {vol : Nat} {lba : Nat} {md : Meta} {data : Bytes} (hfm : Mask.le 0x1000200000000000000000000000000000000000000000000000000000000000000000000000000000000000000000000000000000000000000000000000000000000000010000 fm = true) (h0 : Keeps fm r0 s)  : Keeps fm r0 (fillLocked s vol lba md data) := by
  unfold fillLocked
  with_reducible repeat' first | assumption | exact fpart (by decide +kernel) hfm | exact fle (by decide +kernel) hfm | exact fok (by decide +kernel) hfm | exact fall (by decide +kernel) hfm | exact fokIx (by decide +kernel) hfm | exact fokAll (by decide +kernel) hfm | refine Mask.ok_ite ?_ ?_ | refine faultsOf_ok ?_ ?_ | apply Keeps.ite | apply noteFrames_keeps | apply setFrame_keeps | split

/-! ## Mirror -/

theorem sendMirror_keeps {fm : Nat} {r0 : State}  {s : State} {p : Nat} {slot : Nat} {flags : Nat} (hfm : Mask.le 0x190000000000000000000000000000000000000000000000000000000840020 fm = true) (h0 : Keeps fm r0 s)  : Keeps fm r0 (sendMirror s p slot flags) := by
  unfold sendMirror
  try lift_lets -underBinder
  with_reducible repeat' first | assumption | exact fpart (by decide +kernel) hfm | exact fle (by decide +kernel) hfm | exact fok (by decide +kernel) hfm | exact fall (by decide +kernel) hfm | exact fokIx (by decide +kernel) hfm | exact fokAll (by decide +kernel) hfm | refine Mask.ok_ite ?_ ?_ | refine faultsOf_ok ?_ ?_ | (intro a; clear_value a) | lift_lets -underBinder | apply Keeps.ite | apply sendMsg_keeps | apply modPair_keeps | split

theorem sendRecord_keeps {fm : Nat} {r0 : State}  {s : State} {r : LogRec} (hfm : Mask.le 0x190000000000000000000000000000000000000000000000000000000840020 fm = true) (h0 : Keeps fm r0 s)  : Keeps fm r0 (sendRecord s r) := by
  unfold sendRecord
  try lift_lets -underBinder
  with_reducible repeat' first | assumption | exact fpart (by decide +kernel) hfm | exact fle (by decide +kernel) hfm | exact fok (by decide +kernel) hfm | exact fall (by decide +kernel) hfm | exact fokIx (by decide +kernel) hfm | exact fokAll (by decide +kernel) hfm | refine Mask.ok_ite ?_ ?_ | refine faultsOf_ok ?_ ?_ | (intro a; clear_value a) | lift_lets -underBinder | apply Keeps.ite | apply sendMsg_keeps | apply modPair_keeps

/-! ## Cipher -/

theorem notePipes_keeps {fm : Nat} {r0 : State}  {s : State} (hfm : Mask.le 0x10000000000000000000000000000000000000000000000000000000000000000000000000000000000000000000000000000000000000000000000000 fm = true) (h0 : Keeps fm r0 s)  : Keeps fm r0 (notePipes s) := by
  unfold notePipes
  with_reducible repeat' first | assumption | exact fpart (by decide +kernel) hfm | exact fle (by decide +kernel) hfm | exact fok (by decide +kernel) hfm | exact fall (by decide +kernel) hfm | exact fokIx (by decide +kernel) hfm | exact fokAll (by decide +kernel) hfm | refine Mask.ok_ite ?_ ?_ | refine faultsOf_ok ?_ ?_ | refine fun _ _ (_ : Keeps fm r0 _) => ?_ | apply wr_keeps | apply Keeps.forRange

theorem pipeWork_keeps {fm : Nat} {r0 : State}  {s : State} {q : Nat} {n : Nat} (hfm : Mask.le 0x20000000000000000000000000000000000000000000000000000000000000000000000000000000000000000000000000000000000000000000000020 fm = true) (h0 : Keeps fm r0 s)  : Keeps fm r0 (pipeWork s q n) := by
  unfold pipeWork
  try lift_lets -underBinder
  with_reducible repeat' first | assumption | exact fpart (by decide +kernel) hfm | exact fle (by decide +kernel) hfm | exact fok (by decide +kernel) hfm | exact fall (by decide +kernel) hfm | exact fokIx (by decide +kernel) hfm | exact fokAll (by decide +kernel) hfm | refine Mask.ok_ite ?_ ?_ | refine faultsOf_ok ?_ ?_ | (intro a; clear_value a) | lift_lets -underBinder | apply Keeps.ite | apply bump_keeps | apply countDev_keeps

theorem chargeKey_keeps {fm : Nat} {r0 : State}  {s : State} {slot : Nat} {n : Nat} (hfm : Mask.le 0x30080000000000000000000000000000000000000000000000000000000000000000000000000000017c000000000000000000000000000000400000000000000000000000000808120 fm = true) (h0 : Keeps fm r0 s)  : Keeps fm r0 (chargeKey s slot n) := by
  unfold chargeKey
  try lift_lets -underBinder
  with_reducible repeat' first | assumption | exact fpart (by decide +kernel) hfm | exact fle (by decide +kernel) hfm | exact fok (by decide +kernel) hfm | exact fall (by decide +kernel) hfm | exact fokIx (by decide +kernel) hfm | exact fokAll (by decide +kernel) hfm | refine Mask.ok_ite ?_ ?_ | refine faultsOf_ok ?_ ?_ | (intro a; refine (fun ha : Keeps fm r0 a => ?_) ?_; clear_value a; rotate_left; dsimp only [a]; rotate_right) | (intro a; clear_value a) | lift_lets -underBinder | apply Keeps.ite | apply bump_keeps | apply raiseOpen_keeps | fail_if_no_progress (apply Keeps.upd <;> try first | exact Or.inr (fpart (by decide +kernel) hfm) | exact Or.inl rfl)

theorem noteLocks_keeps {fm : Nat} {r0 : State}  {s : State} (hfm : Mask.le 0x800000000000000000000000000000000000000000000000000000000000000000000000000000000000000000000000000000000000000000000000000000000010000000000000000000000000000 fm = true) (h0 : Keeps fm r0 s)  : Keeps fm r0 (noteLocks s) := by
  unfold noteLocks
  try lift_lets -underBinder
  with_reducible repeat' first | assumption | exact fpart (by decide +kernel) hfm | exact fle (by decide +kernel) hfm | exact fok (by decide +kernel) hfm | exact fall (by decide +kernel) hfm | exact fokIx (by decide +kernel) hfm | exact fokAll (by decide +kernel) hfm | refine Mask.ok_ite ?_ ?_ | refine faultsOf_ok ?_ ?_ | refine fun _ _ (_ : Keeps fm r0 _) => ?_ | (intro a; clear_value a) | lift_lets -underBinder | apply wr_keeps | apply Keeps.forEach

theorem quarantine_keeps {fm : Nat} {r0 : State}  {s : State} {q : Nat} (hfm : Mask.le 0x800000000000000000000000000000000000012000000000000000000000000000000000000000000000000000000000000000000000000000000000000000000010000000000000000000000000000 fm = true) (h0 : Keeps fm r0 s)  : Keeps fm r0 (quarantine s q) := by
  unfold quarantine
  with_reducible repeat' first | assumption | exact fpart (by decide +kernel) hfm | exact fle (by decide +kernel) hfm | exact fok (by decide +kernel) hfm | exact fall (by decide +kernel) hfm | exact fokIx (by decide +kernel) hfm | exact fokAll (by decide +kernel) hfm | refine Mask.ok_ite ?_ ?_ | refine faultsOf_ok ?_ ?_ | apply noteLocks_keeps | apply notePipes_keeps | apply wr_keeps

theorem pipeFault_keeps {fm : Nat} {r0 : State}  {s : State} {q : Nat} (hfm : Mask.le 0x80000000000030080000000000000000000001600000000000000000000000000000000000000000000000000000017c000000000000000000000000000000000010000000000000000000000800120 fm = true) (h0 : Keeps fm r0 s)  : Keeps fm r0 (pipeFault s q) := by
  unfold pipeFault
  try lift_lets -underBinder
  with_reducible repeat' first | assumption | exact fpart (by decide +kernel) hfm | exact fle (by decide +kernel) hfm | exact fok (by decide +kernel) hfm | exact fall (by decide +kernel) hfm | exact fokIx (by decide +kernel) hfm | exact fokAll (by decide +kernel) hfm | refine Mask.ok_ite ?_ ?_ | refine faultsOf_ok ?_ ?_ | (intro a; refine (fun ha : Keeps fm r0 a => ?_) ?_; clear_value a; rotate_left; dsimp only [a]; rotate_right) | (intro a; clear_value a) | lift_lets -underBinder | apply Keeps.ite | apply raiseOpen_keeps | apply wr_keeps | apply quarantine_keeps

/-! ## Fetch -/

theorem readSources_keeps {fm : Nat} {r0 : State}  {s : State} {job : Nat} {x : Job} {g : Seg} (hfm : Mask.le 0x14000000000000000000000000000000000000000000000000000000000000020000040804020 fm = true) (h0 : Keeps fm r0 s)  : Keeps fm r0 (readSources s job x g) := by
  unfold readSources
  try lift_lets -underBinder
  with_reducible repeat' first | assumption | exact fpart (by decide +kernel) hfm | exact fle (by decide +kernel) hfm | exact fok (by decide +kernel) hfm | exact fall (by decide +kernel) hfm | exact fokIx (by decide +kernel) hfm | exact fokAll (by decide +kernel) hfm | refine Mask.ok_ite ?_ ?_ | refine faultsOf_ok ?_ ?_ | refine fun _ _ (_ : Keeps fm r0 _) => ?_ | (intro a; clear_value a) | lift_lets -underBinder | apply issueTo_keeps | apply Keeps.forEach

theorem startJob_keeps {fm : Nat} {r0 : State}  {s : State} {w : Want} {p : Nat} {v : Nat} {lba : Nat} {slot : Nat} {zs : Nat} {col : Nat} {erased : List Nat} {repair : Bool} (hfm : Mask.le 0x14000000000000000000000000000000000000000000000000000000000000020000040804020 fm = true) (h0 : Keeps fm r0 s)  : KeepsO fm r0 (startJob s w p v lba slot zs col erased repair) := by
  unfold startJob
  try lift_lets -underBinder
  with_reducible repeat' first | assumption | exact fpart (by decide +kernel) hfm | exact fle (by decide +kernel) hfm | exact fok (by decide +kernel) hfm | exact fall (by decide +kernel) hfm | exact fokIx (by decide +kernel) hfm | exact fokAll (by decide +kernel) hfm | refine Mask.ok_ite ?_ ?_ | refine faultsOf_ok ?_ ?_ | (intro a; clear_value a) | lift_lets -underBinder | apply readSources_keeps | exact KeepsO.none | apply KeepsO.some | fail_if_no_progress (apply Keeps.upd <;> try first | exact Or.inr (fpart (by decide +kernel) hfm) | exact Or.inl rfl) | split

theorem fetchAt_keeps {fm : Nat} {r0 : State}  {s : State} {w : Want} {p : Nat} {v : Nat} {lba : Nat} {slot : Nat} {zs : Nat} {col : Nat} (hfm : Mask.le 0x14000000000000000000000000000000000000000000000000000000000000020000040804020 fm = true) (h0 : Keeps fm r0 s)  : KeepsF fm r0 (fetchAt s w p v lba slot zs col) := by
  unfold fetchAt
  try lift_lets -underBinder
  with_reducible repeat' first | assumption | exact fpart (by decide +kernel) hfm | exact fle (by decide +kernel) hfm | exact fok (by decide +kernel) hfm | exact fall (by decide +kernel) hfm | exact fokIx (by decide +kernel) hfm | exact fokAll (by decide +kernel) hfm | refine Mask.ok_ite ?_ ?_ | refine faultsOf_ok ?_ ?_ | (intro a; clear_value a) | lift_lets -underBinder | apply issueTo_keeps | apply startJob_keeps | exact KeepsF.lost | apply KeepsF.started | apply KeepsF.ite | split | refine KeepsO.get (by assumption) ?_

theorem touchLeaf_keeps {fm : Nat} {r0 : State}  {s : State} {key : Nat} (hfm : Mask.le 0x20400 fm = true) (h0 : Keeps fm r0 s)  : Keeps fm r0 (touchLeaf s key) := by
  unfold touchLeaf
  with_reducible repeat' first | assumption | exact fpart (by decide +kernel) hfm | exact fle (by decide +kernel) hfm | exact fok (by decide +kernel) hfm | exact fall (by decide +kernel) hfm | exact fokIx (by decide +kernel) hfm | exact fokAll (by decide +kernel) hfm | refine Mask.ok_ite ?_ ?_ | refine faultsOf_ok ?_ ?_ | apply touchMap_keeps | fail_if_no_progress (apply Keeps.upd <;> try first | exact Or.inr (fpart (by decide +kernel) hfm) | exact Or.inl rfl)

theorem readLeaf_keeps {fm : Nat} {r0 : State}  {s : State} {p : Nat} {key : Nat} {mask : Nat} {copy : Nat} (hfm : Mask.le 0x14000000000000000000000000000000000000000000000000000000000000020000040804020 fm = true) (h0 : Keeps fm r0 s)  : Keeps fm r0 (readLeaf s p key mask copy) := by
  unfold readLeaf
  try lift_lets -underBinder
  with_reducible repeat' first | assumption | exact fpart (by decide +kernel) hfm | exact fle (by decide +kernel) hfm | exact fok (by decide +kernel) hfm | exact fall (by decide +kernel) hfm | exact fokIx (by decide +kernel) hfm | exact fokAll (by decide +kernel) hfm | refine Mask.ok_ite ?_ ?_ | refine faultsOf_ok ?_ ?_ | (intro a; clear_value a) | lift_lets -underBinder | apply issueTo_keeps | split

theorem missLeaf_keeps {fm : Nat} {r0 : State}  {s : State} {p : Nat} {key : Nat} (hfm : Mask.le 0x14000001000000000000000000000000000000000000000000000000000000620000040824120 fm = true) (h0 : Keeps fm r0 s)  : Keeps fm r0 (missLeaf s p key) := by
  unfold missLeaf
  with_reducible repeat' first | assumption | exact fpart (by decide +kernel) hfm | exact fle (by decide +kernel) hfm | exact fok (by decide +kernel) hfm | exact fall (by decide +kernel) hfm | exact fokIx (by decide +kernel) hfm | exact fokAll (by decide +kernel) hfm | refine Mask.ok_ite ?_ ?_ | refine faultsOf_ok ?_ ?_ | apply Keeps.ite | apply readLeaf_keeps | apply bump_keeps | apply touchDir_keeps | apply setCond_keeps | split

theorem bringLeaf_keeps {fm : Nat} {r0 : State}  {s : State} {key : Nat} (hfm : Mask.le 0xc00000000000000000000000000000000000000000000000000000000000000000000000800000000000000000000000000000000000000000000000000000000000000000400 fm = true) (h0 : Keeps fm r0 s)  : Keeps fm r0 (bringLeaf s key) := by
  unfold bringLeaf
  try lift_lets -underBinder
  with_reducible repeat' first | assumption | exact fpart (by decide +kernel) hfm | exact fle (by decide +kernel) hfm | exact fok (by decide +kernel) hfm | exact fall (by decide +kernel) hfm | exact fokIx (by decide +kernel) hfm | exact fokAll (by decide +kernel) hfm | refine Mask.ok_ite ?_ ?_ | refine faultsOf_ok ?_ ?_ | (intro a; clear_value a) | lift_lets -underBinder | apply noteLeaves_keeps | fail_if_no_progress (apply Keeps.upd <;> try first | exact Or.inr (fpart (by decide +kernel) hfm) | exact Or.inl rfl)

theorem mediaError_keeps {fm : Nat} {r0 : State}  {s : State} {p : Nat} {m : Nat} (hfm : Mask.le 0x20000000000000000000000000000000000000000000000000000000000000001000 fm = true) (h0 : Keeps fm r0 s)  : Keeps fm r0 (mediaError s p m) := by
  unfold mediaError
  try lift_lets -underBinder
  with_reducible repeat' first | assumption | exact fpart (by decide +kernel) hfm | exact fle (by decide +kernel) hfm | exact fok (by decide +kernel) hfm | exact fall (by decide +kernel) hfm | exact fokIx (by decide +kernel) hfm | exact fokAll (by decide +kernel) hfm | refine Mask.ok_ite ?_ ?_ | refine faultsOf_ok ?_ ?_ | (intro a; clear_value a) | lift_lets -underBinder | apply wr_keeps | apply modPool_keeps

/-! ## WritePath -/

theorem KeepsP.foldl {fm : Nat} {r : State} {α β : Type} {o : Option (β × State)} (l : List α) (f : Option (β × State) → α → Option (β × State)) (h : KeepsP fm r o)
    (hf : ∀ o x, KeepsP fm r o → KeepsP fm r (f o x)) : KeepsP fm r (l.foldl f o) := by
  induction l generalizing o with
  | nil => exact h
  | cons x l ih => exact ih (hf o x h)

theorem takeSlots_keeps {fm : Nat} {r0 s : State} {p q : Nat} {c : Cmd} {i n : Nat} (hfm : Mask.le 0x1000000000000000000000000000000000000000000000000000000000000000000000000000000000000000000000000000000000000000000000000000000000000028800 fm = true) (h0 : Keeps fm r0 s) : KeepsP fm r0 (takeSlots s p q c i n) := by
  unfold takeSlots
  refine KeepsP.foldl _ _ (KeepsP.some h0) (fun o j ho => ?_)
  split
  · exact KeepsP.none
  · rename_i t
    have ht : Keeps fm r0 t := KeepsP.get rfl ho
    dsimp only
    refine KeepsP.ite KeepsP.none ?_
    split
    · exact KeepsP.none
    · rename_i e
      have hu := KeepsO.get e (takeUnit_keeps (fle (by decide +kernel) hfm) ht)
      exact KeepsP.some (touchDesc_keeps (fle (by decide +kernel) hfm) (Keeps.upd hu (Or.inl rfl) (Or.inl rfl) (Or.inl rfl) (Or.inl rfl) (Or.inl rfl) (Or.inl rfl) (Or.inl rfl) (Or.inl rfl)
        (Or.inr (fpart (by decide +kernel) hfm)) (Or.inl rfl) (Or.inl rfl) (Or.inl rfl) (Or.inl rfl) (Or.inl rfl) (Or.inl rfl) (Or.inl rfl) (Or.inl rfl) (Or.inl rfl) (Or.inl rfl) (Or.inl rfl) (Or.inl rfl)))

theorem placeGrainOf_keeps {fm : Nat} {r0 s : State} {p q : Nat} {c : Cmd} {i : Nat} (hfm : Mask.le 0x3008000010000000001f000000000000000000010000000000000000000000000000001400860000017c19000000000000000000000000008000000000000000000002000004086f960 fm = true) (h0 : Keeps fm r0 s) : KeepsO fm r0 (placeGrainOf s p q c i) := by
  unfold placeGrainOf
  have ht := takeSlots_keeps (p := p) (q := q) (c := c) (i := i) (n := grainSize s c.volume) (fle (by decide +kernel) hfm) h0
  split
  · exact KeepsO.none
  · rename_i e
    intro u h
    obtain ⟨v, hv, rfl⟩ := Option.map_eq_some_iff.mp h
    exact modCmd_keeps (fle (by decide +kernel) hfm) (placeGroup_keeps (fle (by decide +kernel) hfm) (KeepsP.get e ht) _ hv)

theorem placeRest_keeps {fm : Nat} {r0 : State}  {s : State} {p : Nat} {q : Nat} {c : Cmd} (hfm : Mask.le 0x3008000010000000001f000000000000000000010000000000000000000000000000001400860000017c19000000000000000000000000008000000000000000000002000004086f960 fm = true) (h0 : Keeps fm r0 s)  : Keeps fm r0 (placeRest s p q c) := by
  unfold placeRest
  try lift_lets -underBinder
  with_reducible repeat' first
    | assumption
    | exact fpart (by decide +kernel) hfm
    | exact fle (by decide +kernel) hfm
    | exact fok (by decide +kernel) hfm
    | exact fall (by decide +kernel) hfm
    | exact fokIx (by decide +kernel) hfm
    | exact fokAll (by decide +kernel) hfm
    | refine Mask.ok_ite ?_ ?_
    | refine faultsOf_ok ?_ ?_
    | refine fun _ (_ : Keeps fm r0 _) => ?_
    | refine fun _ _ (_ : Keeps fm r0 _) => ?_
    | refine fun _ _ _ (_ : Keeps fm r0 _) => ?_
    | exact KeepsO.get rfl (by assumption)
    | exact KeepsP.get rfl (by assumption)
    | (intro a; refine (fun ha : Keeps fm r0 a => ?_) ?_; clear_value a; rotate_left; dsimp only [a]; rotate_right)
    | (intro a; refine (fun ha : Keeps fm r0 a.2 => ?_) ?_; clear_value a; rotate_left; dsimp only [a]; rotate_right)
    | (intro a; refine (fun ha : Keeps fm r0 a.1 => ?_) ?_; clear_value a; rotate_left; dsimp only [a]; rotate_right)
    | (intro a; refine (fun ha : KeepsO fm r0 a => ?_) ?_; clear_value a; rotate_left; dsimp only [a]; rotate_right)
    | (have _ := @hgb; intro a; refine (fun hgc : ∀ t, Keeps fm r0 t → Keeps fm r0 (a t) => ?_) ?_; clear_value a; rotate_left; dsimp only [a]; rotate_right)
    | (have _ := @hga; intro a; refine (fun hgb : ∀ t, Keeps fm r0 t → Keeps fm r0 (a t) => ?_) ?_; clear_value a; rotate_left; dsimp only [a]; rotate_right)
    | (intro a; refine (fun hga : ∀ t, Keeps fm r0 t → Keeps fm r0 (a t) => ?_) ?_; clear_value a; rotate_left; dsimp only [a]; rotate_right)
    | (have _ := @hgb; intro a; refine (fun hgc : ∀ x t, Keeps fm r0 t → Keeps fm r0 (a x t) => ?_) ?_; clear_value a; rotate_left; dsimp only [a]; rotate_right)
    | (have _ := @hga; intro a; refine (fun hgb : ∀ x t, Keeps fm r0 t → Keeps fm r0 (a x t) => ?_) ?_; clear_value a; rotate_left; dsimp only [a]; rotate_right)
    | (intro a; refine (fun hga : ∀ x t, Keeps fm r0 t → Keeps fm r0 (a x t) => ?_) ?_; clear_value a; rotate_left; dsimp only [a]; rotate_right)
    | (have _ := @hgb; intro a; refine (fun hgc : ∀ x y t, Keeps fm r0 t → Keeps fm r0 (a x y t) => ?_) ?_; clear_value a; rotate_left; dsimp only [a]; rotate_right)
    | (have _ := @hga; intro a; refine (fun hgb : ∀ x y t, Keeps fm r0 t → Keeps fm r0 (a x y t) => ?_) ?_; clear_value a; rotate_left; dsimp only [a]; rotate_right)
    | (intro a; refine (fun hga : ∀ x y t, Keeps fm r0 t → Keeps fm r0 (a x y t) => ?_) ?_; clear_value a; rotate_left; dsimp only [a]; rotate_right)
    | (have _ := @hgb; intro a; refine (fun hgc : ∀ t x, Keeps fm r0 t → Keeps fm r0 (a t x) => ?_) ?_; clear_value a; rotate_left; dsimp only [a]; rotate_right)
    | (have _ := @hga; intro a; refine (fun hgb : ∀ t x, Keeps fm r0 t → Keeps fm r0 (a t x) => ?_) ?_; clear_value a; rotate_left; dsimp only [a]; rotate_right)
    | (intro a; refine (fun hga : ∀ t x, Keeps fm r0 t → Keeps fm r0 (a t x) => ?_) ?_; clear_value a; rotate_left; dsimp only [a]; rotate_right)
    | (intro a; refine (fun (_ : a = (a : Dict)) => ?_) rfl; dsimp only [a])
    | (intro a; clear_value a)
    | apply hga
    | apply hgb
    | apply hgc
    | lift_lets -underBinder
    | apply Keeps.ite
    | apply placeGrainOf_keeps
    | apply Keeps.forEach
    | apply Keeps.forRange
    | apply Keeps.foldl
    | apply Keeps.foldl_fst
    | apply Keeps.foldl_snd
    | exact KeepsO.none
    | exact KeepsP.none
    | apply KeepsO.some
    | apply KeepsP.some
    | apply KeepsO.ite
    | apply KeepsP.ite
    | refine KeepsO.foldl _ _ ?_ (fun _ _ _ => ?_)
    | exact KeepsF.lost
    | apply KeepsF.started
    | apply KeepsF.ite
    | refine Keeps.of_snd (by assumption) ?_
    | refine Keeps.of_fst (by assumption) ?_
    | refine KeepsO.get (by assumption) ?_
    | refine KeepsP.get (by assumption) ?_
    | refine KeepsF.get (by assumption) ?_
    | split
    | fail_if_no_progress (apply Keeps.upd <;> try first | exact Or.inr (fpart (by decide +kernel) hfm) | exact Or.inl rfl)
    | fail_if_no_progress (apply Keeps.updDict <;> try first | exact Or.inr (fpart (by decide +kernel) hfm) | exact Or.inl rfl)
    | refine Keeps.updRegs (rg := Tbl.filterK _ _) ?_ (Tbl.wf_filterK _) (Tbl.wf_filterK _)
    | refine Keeps.updRegs (rg := Tbl.filterK _ _) ?_ (Tbl.wf_filterK _) id

theorem modPosOf_keeps {fm : Nat} {r0 : State}  {s : State} {p : Nat} {n : Nat} {f : Pos → Pos} (hfm : Mask.le 0x1000 fm = true) (h0 : Keeps fm r0 s)  : Keeps fm r0 (modPosOf s p n f) := by
  unfold modPosOf
  with_reducible repeat' first | assumption | exact fpart (by decide +kernel) hfm | exact fle (by decide +kernel) hfm | exact fok (by decide +kernel) hfm | exact fall (by decide +kernel) hfm | exact fokIx (by decide +kernel) hfm | exact fokAll (by decide +kernel) hfm | refine Mask.ok_ite ?_ ?_ | refine faultsOf_ok ?_ ?_ | apply modStripe_keeps | split

theorem setWr_keeps {fm : Nat} {r0 : State}  {s : State} {q : Nat} {tag : Nat} {i : Nat} {w : WrSec} (hfm : Mask.le 0x40 fm = true) (h0 : Keeps fm r0 s)  : Keeps fm r0 (setWr s q tag i w) := by
  unfold setWr
  with_reducible repeat' first | assumption | exact fpart (by decide +kernel) hfm | exact fle (by decide +kernel) hfm | exact fok (by decide +kernel) hfm | exact fall (by decide +kernel) hfm | exact fokIx (by decide +kernel) hfm | exact fokAll (by decide +kernel) hfm | refine Mask.ok_ite ?_ ?_ | refine faultsOf_ok ?_ ?_ | apply modCmd_keeps

theorem discardSlot_keeps {fm : Nat} {r0 : State}  {s : State} {n : Nat} (hfm : Mask.le 0x50000000000700000000000000000000000000000000000000014000000000000190000000000000000000000000000000000000000000000020000040865820 fm = true) (h0 : Keeps fm r0 s)  : Keeps fm r0 (discardSlot s n) := by
  unfold discardSlot
  try lift_lets -underBinder
  with_reducible repeat' first | assumption | exact fpart (by decide +kernel) hfm | exact fle (by decide +kernel) hfm | exact fok (by decide +kernel) hfm | exact fall (by decide +kernel) hfm | exact fokIx (by decide +kernel) hfm | exact fokAll (by decide +kernel) hfm | refine Mask.ok_ite ?_ ?_ | refine faultsOf_ok ?_ ?_ | (intro a; refine (fun ha : Keeps fm r0 a => ?_) ?_; clear_value a; rotate_left; dsimp only [a]; rotate_right) | lift_lets -underBinder | apply noteSlots_keeps | apply touchDesc_keeps | apply modStripe_keeps | apply tryIssue_keeps | apply landRows_keeps | split | fail_if_no_progress (apply Keeps.upd <;> try first | exact Or.inr (fpart (by decide +kernel) hfm) | exact Or.inl rfl)

theorem discardFilling_keeps {fm : Nat} {r0 : State}  {s : State} {q : Nat} {tag : Nat} (hfm : Mask.le 0x50000000000700000000000000000000000000000000000000014000000000000190000000000000000000000000000000000000000000000020000040865860 fm = true) (h0 : Keeps fm r0 s)  : Keeps fm r0 (discardFilling s q tag) := by
  unfold discardFilling
  with_reducible repeat' first | assumption | exact fpart (by decide +kernel) hfm | exact fle (by decide +kernel) hfm | exact fok (by decide +kernel) hfm | exact fall (by decide +kernel) hfm | exact fokIx (by decide +kernel) hfm | exact fokAll (by decide +kernel) hfm | refine Mask.ok_ite ?_ ?_ | refine faultsOf_ok ?_ ?_ | refine fun _ _ (_ : Keeps fm r0 _) => ?_ | apply setWr_keeps | apply discardSlot_keeps | apply Keeps.forEach | split

theorem failWrite_keeps {fm : Nat} {r0 : State}  {s : State} {q : Nat} {tag : Nat} {status : Nat} (hfm : Mask.le 0x500000000007000000000000000000000000000000000000000140000000000001900000000000000000000000000000000000000000000000200000408658e0 fm = true) (h0 : Keeps fm r0 s)  : Keeps fm r0 (failWrite s q tag status) := by
  unfold failWrite
  try lift_lets -underBinder
  with_reducible repeat' first | assumption | exact fpart (by decide +kernel) hfm | exact fle (by decide +kernel) hfm | exact fok (by decide +kernel) hfm | exact fall (by decide +kernel) hfm | exact fokIx (by decide +kernel) hfm | exact fokAll (by decide +kernel) hfm | refine Mask.ok_ite ?_ ?_ | refine faultsOf_ok ?_ ?_ | (intro a; refine (fun ha : Keeps fm r0 a => ?_) ?_; clear_value a; rotate_left; dsimp only [a]; rotate_right) | apply discardFilling_keeps | apply finish_keeps | split

theorem accumulate_keeps {fm : Nat} {r0 : State}  {s : State} {p : Nat} {n : Nat} (hfm : Mask.le 0x1800 fm = true) (h0 : Keeps fm r0 s)  : Keeps fm r0 (accumulate s p n) := by
  unfold accumulate
  with_reducible repeat' first
    | assumption
    | exact fpart (by decide +kernel) hfm
    | exact fle (by decide +kernel) hfm
    | exact fok (by decide +kernel) hfm
    | exact fall (by decide +kernel) hfm
    | exact fokIx (by decide +kernel) hfm
    | exact fokAll (by decide +kernel) hfm
    | refine Mask.ok_ite ?_ ?_
    | refine faultsOf_ok ?_ ?_
    | refine fun _ (_ : Keeps fm r0 _) => ?_
    | refine fun _ _ (_ : Keeps fm r0 _) => ?_
    | refine fun _ _ _ (_ : Keeps fm r0 _) => ?_
    | exact KeepsO.get rfl (by assumption)
    | exact KeepsP.get rfl (by assumption)
    | apply Keeps.ite
    | apply landRows_keeps
    | apply Keeps.forEach
    | apply Keeps.forRange
    | apply Keeps.foldl
    | apply Keeps.foldl_fst
    | apply Keeps.foldl_snd
    | exact KeepsO.none
    | exact KeepsP.none
    | apply KeepsO.some
    | apply KeepsP.some
    | apply KeepsO.ite
    | apply KeepsP.ite
    | refine KeepsO.foldl _ _ ?_ (fun _ _ _ => ?_)
    | exact KeepsF.lost
    | apply KeepsF.started
    | apply KeepsF.ite
    | refine Keeps.of_snd (by assumption) ?_
    | refine Keeps.of_fst (by assumption) ?_
    | refine KeepsO.get (by assumption) ?_
    | refine KeepsP.get (by assumption) ?_
    | refine KeepsF.get (by assumption) ?_
    | split
    | fail_if_no_progress (apply Keeps.upd <;> try first | exact Or.inr (fpart (by decide +kernel) hfm) | exact Or.inl rfl)
    | fail_if_no_progress (apply Keeps.updDict <;> try first | exact Or.inr (fpart (by decide +kernel) hfm) | exact Or.inl rfl)
    | refine Keeps.updRegs (rg := Tbl.filterK _ _) ?_ (Tbl.wf_filterK _) (Tbl.wf_filterK _)
    | refine Keeps.updRegs (rg := Tbl.filterK _ _) ?_ (Tbl.wf_filterK _) id

theorem landSlot_keeps {fm : Nat} {r0 : State}  {s : State} {q : Nat} {tag : Nat} {i : Nat} {n : Nat} {data : Bytes} {m : Meta} (hfm : Mask.le 0x700000000000000000000000000000000000000000000000000000190000000000000000000000000000000000000000000000000000000861860 fm = true) (h0 : Keeps fm r0 s)  : Keeps fm r0 (landSlot s q tag i n data m) := by
  unfold landSlot
  try lift_lets -underBinder
  with_reducible repeat' first | assumption | exact fpart (by decide +kernel) hfm | exact fle (by decide +kernel) hfm | exact fok (by decide +kernel) hfm | exact fall (by decide +kernel) hfm | exact fokIx (by decide +kernel) hfm | exact fokAll (by decide +kernel) hfm | refine Mask.ok_ite ?_ ?_ | refine faultsOf_ok ?_ ?_ | (intro a; refine (fun ha : Keeps fm r0 a => ?_) ?_; clear_value a; rotate_left; dsimp only [a]; rotate_right) | lift_lets -underBinder | apply Keeps.ite | apply touchDesc_keeps | apply modSlot_keeps | apply setWr_keeps | apply accumulate_keeps | apply modPosOf_keeps | apply noteSlots_keeps | apply sendMirror_keeps | split

theorem setVer_keeps {fm : Nat} {r0 : State}  {s : State} {v : Nat} {lba : Nat} {x : Ver} (hfm : Mask.le 0x400 fm = true) (h0 : Keeps fm r0 s)  : Keeps fm r0 (setVer s v lba x) := by
  unfold setVer
  with_reducible repeat' first | assumption | exact fpart (by decide +kernel) hfm | exact fle (by decide +kernel) hfm | exact fok (by decide +kernel) hfm | exact fall (by decide +kernel) hfm | exact fokIx (by decide +kernel) hfm | exact fokAll (by decide +kernel) hfm | refine Mask.ok_ite ?_ ?_ | refine faultsOf_ok ?_ ?_ | fail_if_no_progress (apply Keeps.upd <;> try first | exact Or.inr (fpart (by decide +kernel) hfm) | exact Or.inl rfl)

theorem dropVer_keeps {fm : Nat} {r0 : State}  {s : State} {v : Nat} {lba : Nat} (hfm : Mask.le 0x400 fm = true) (h0 : Keeps fm r0 s)  : Keeps fm r0 (dropVer s v lba) := by
  unfold dropVer
  with_reducible repeat' first | assumption | exact fpart (by decide +kernel) hfm | exact fle (by decide +kernel) hfm | exact fok (by decide +kernel) hfm | exact fall (by decide +kernel) hfm | exact fokIx (by decide +kernel) hfm | exact fokAll (by decide +kernel) hfm | refine Mask.ok_ite ?_ ?_ | refine faultsOf_ok ?_ ?_ | fail_if_no_progress (apply Keeps.upd <;> try first | exact Or.inr (fpart (by decide +kernel) hfm) | exact Or.inl rfl)

theorem mapGrain_keeps {fm : Nat} {r0 : State}  {s : State} {v : Nat} {lba : Nat} {n : Nat} {slots : List (Nat × Nat)} (hfm : Mask.le 0x1000200000000000000000000000000000000000000000000000000000000000000000000000000000000000000000000000000000000000000000000000000000000000030c00 fm = true) (h0 : Keeps fm r0 s)  : Keeps fm r0 (mapGrain s v lba n slots) := by
  unfold mapGrain
  try lift_lets -underBinder
  with_reducible repeat' first | assumption | exact fpart (by decide +kernel) hfm | exact fle (by decide +kernel) hfm | exact fok (by decide +kernel) hfm | exact fall (by decide +kernel) hfm | exact fokIx (by decide +kernel) hfm | exact fokAll (by decide +kernel) hfm | refine Mask.ok_ite ?_ ?_ | refine faultsOf_ok ?_ ?_ | refine fun _ _ (_ : Keeps fm r0 _) => ?_ | (intro a; refine (fun ha : Keeps fm r0 a => ?_) ?_; clear_value a; rotate_left; dsimp only [a]; rotate_right) | (intro a; clear_value a) | lift_lets -underBinder | apply Keeps.ite | apply setEntry_keeps | apply staleSector_keeps | apply modSlot_keeps | apply setVer_keeps | apply Keeps.forEach | split

theorem addLost_keeps {fm : Nat} {r0 : State}  {s : State} {p : Nat} {v : Nat} {lba : Nat} {reason : Nat} (hfm : Mask.le 0x1200000000000000000000000000000000000000000000000000000000000000000000000000000000000000000000000000000000000000000000000001000 fm = true) (h0 : Keeps fm r0 s)  : Keeps fm r0 (addLost s p v lba reason) := by
  unfold addLost
  try lift_lets -underBinder
  with_reducible repeat' first | assumption | exact fpart (by decide +kernel) hfm | exact fle (by decide +kernel) hfm | exact fok (by decide +kernel) hfm | exact fall (by decide +kernel) hfm | exact fokIx (by decide +kernel) hfm | exact fokAll (by decide +kernel) hfm | refine Mask.ok_ite ?_ ?_ | refine faultsOf_ok ?_ ?_ | (intro a; refine (fun ha : Keeps fm r0 a => ?_) ?_; clear_value a; rotate_left; dsimp only [a]; rotate_right) | (intro a; clear_value a) | lift_lets -underBinder | apply Keeps.ite | apply bump_keeps | apply modPool_keeps | apply wrB_keeps

theorem healLost_keeps {fm : Nat} {r0 : State}  {s : State} {p : Nat} {v : Nat} {lba : Nat} {n : Nat} (hfm : Mask.le 0x200000000000000000100000000000000000000000000000000000000000000000000000000000000000000000000000000000000000000000000000003020 fm = true) (h0 : Keeps fm r0 s)  : Keeps fm r0 (healLost s p v lba n) := by
  unfold healLost
  try lift_lets -underBinder
  with_reducible repeat' first | assumption | exact fpart (by decide +kernel) hfm | exact fle (by decide +kernel) hfm | exact fok (by decide +kernel) hfm | exact fall (by decide +kernel) hfm | exact fokIx (by decide +kernel) hfm | exact fokAll (by decide +kernel) hfm | refine Mask.ok_ite ?_ ?_ | refine faultsOf_ok ?_ ?_ | (intro a; clear_value a) | lift_lets -underBinder | apply Keeps.ite | apply logRec_keeps | apply drop_keeps | apply modPool_keeps

theorem healGrain_keeps {fm : Nat} {r0 : State}  {s : State} {n : Nat} {x : Slot} (hfm : Mask.le 0x1200000000000000000100000000000000000000000000000000000000000000000000000000000000000000000000000000000000000000000000000003020 fm = true) (h0 : Keeps fm r0 s)  : Keeps fm r0 (healGrain s n x) := by
  unfold healGrain
  try lift_lets -underBinder
  with_reducible repeat' first
    | assumption
    | exact fpart (by decide +kernel) hfm
    | exact fle (by decide +kernel) hfm
    | exact fok (by decide +kernel) hfm
    | exact fall (by decide +kernel) hfm
    | exact fokIx (by decide +kernel) hfm
    | exact fokAll (by decide +kernel) hfm
    | refine Mask.ok_ite ?_ ?_
    | refine faultsOf_ok ?_ ?_
    | refine fun _ (_ : Keeps fm r0 _) => ?_
    | refine fun _ _ (_ : Keeps fm r0 _) => ?_
    | refine fun _ _ _ (_ : Keeps fm r0 _) => ?_
    | exact KeepsO.get rfl (by assumption)
    | exact KeepsP.get rfl (by assumption)
    | (intro a; refine (fun ha : Keeps fm r0 a => ?_) ?_; clear_value a; rotate_left; dsimp only [a]; rotate_right)
    | (intro a; refine (fun ha : Keeps fm r0 a.2 => ?_) ?_; clear_value a; rotate_left; dsimp only [a]; rotate_right)
    | (intro a; refine (fun ha : Keeps fm r0 a.1 => ?_) ?_; clear_value a; rotate_left; dsimp only [a]; rotate_right)
    | (intro a; refine (fun ha : KeepsO fm r0 a => ?_) ?_; clear_value a; rotate_left; dsimp only [a]; rotate_right)
    | (have _ := @hgb; intro a; refine (fun hgc : ∀ t, Keeps fm r0 t → Keeps fm r0 (a t) => ?_) ?_; clear_value a; rotate_left; dsimp only [a]; rotate_right)
    | (have _ := @hga; intro a; refine (fun hgb : ∀ t, Keeps fm r0 t → Keeps fm r0 (a t) => ?_) ?_; clear_value a; rotate_left; dsimp only [a]; rotate_right)
    | (intro a; refine (fun hga : ∀ t, Keeps fm r0 t → Keeps fm r0 (a t) => ?_) ?_; clear_value a; rotate_left; dsimp only [a]; rotate_right)
    | (have _ := @hgb; intro a; refine (fun hgc : ∀ x t, Keeps fm r0 t → Keeps fm r0 (a x t) => ?_) ?_; clear_value a; rotate_left; dsimp only [a]; rotate_right)
    | (have _ := @hga; intro a; refine (fun hgb : ∀ x t, Keeps fm r0 t → Keeps fm r0 (a x t) => ?_) ?_; clear_value a; rotate_left; dsimp only [a]; rotate_right)
    | (intro a; refine (fun hga : ∀ x t, Keeps fm r0 t → Keeps fm r0 (a x t) => ?_) ?_; clear_value a; rotate_left; dsimp only [a]; rotate_right)
    | (have _ := @hgb; intro a; refine (fun hgc : ∀ x y t, Keeps fm r0 t → Keeps fm r0 (a x y t) => ?_) ?_; clear_value a; rotate_left; dsimp only [a]; rotate_right)
    | (have _ := @hga; intro a; refine (fun hgb : ∀ x y t, Keeps fm r0 t → Keeps fm r0 (a x y t) => ?_) ?_; clear_value a; rotate_left; dsimp only [a]; rotate_right)
    | (intro a; refine (fun hga : ∀ x y t, Keeps fm r0 t → Keeps fm r0 (a x y t) => ?_) ?_; clear_value a; rotate_left; dsimp only [a]; rotate_right)
    | (have _ := @hgb; intro a; refine (fun hgc : ∀ t x, Keeps fm r0 t → Keeps fm r0 (a t x) => ?_) ?_; clear_value a; rotate_left; dsimp only [a]; rotate_right)
    | (have _ := @hga; intro a; refine (fun hgb : ∀ t x, Keeps fm r0 t → Keeps fm r0 (a t x) => ?_) ?_; clear_value a; rotate_left; dsimp only [a]; rotate_right)
    | (intro a; refine (fun hga : ∀ t x, Keeps fm r0 t → Keeps fm r0 (a t x) => ?_) ?_; clear_value a; rotate_left; dsimp only [a]; rotate_right)
    | (intro a; refine (fun (_ : a = (a : Dict)) => ?_) rfl; dsimp only [a])
    | (intro a; clear_value a)
    | apply hga
    | apply hgb
    | apply hgc
    | lift_lets -underBinder
    | apply Keeps.ite
    | apply addLost_keeps
    | apply healLost_keeps
    | apply Keeps.forEach
    | apply Keeps.forRange
    | apply Keeps.foldl
    | apply Keeps.foldl_fst
    | apply Keeps.foldl_snd
    | exact KeepsO.none
    | exact KeepsP.none
    | apply KeepsO.some
    | apply KeepsP.some
    | apply KeepsO.ite
    | apply KeepsP.ite
    | refine KeepsO.foldl _ _ ?_ (fun _ _ _ => ?_)
    | exact KeepsF.lost
    | apply KeepsF.started
    | apply KeepsF.ite
    | fail_if_no_progress (apply Keeps.upd <;> try first | exact Or.inr (fpart (by decide +kernel) hfm) | exact Or.inl rfl)
    | fail_if_no_progress (apply Keeps.updDict <;> try first | exact Or.inr (fpart (by decide +kernel) hfm) | exact Or.inl rfl)
    | refine Keeps.updRegs (rg := Tbl.filterK _ _) ?_ (Tbl.wf_filterK _) (Tbl.wf_filterK _)
    | refine Keeps.updRegs (rg := Tbl.filterK _ _) ?_ (Tbl.wf_filterK _) id
    | split
    | refine Keeps.of_snd (by assumption) ?_
    | refine Keeps.of_fst (by assumption) ?_
    | refine KeepsO.get (by assumption) ?_
    | refine KeepsP.get (by assumption) ?_
    | refine KeepsF.get (by assumption) ?_

theorem switchSlot_keeps {fm : Nat} {r0 : State}  {s : State} {n : Nat} (hfm : Mask.le 0xc00000000000001200000000000000000100000000000000000000000000000000000000800000000000000000000000000000000000000000000000000000000000000023420 fm = true) (h0 : Keeps fm r0 s)  : Keeps fm r0 (switchSlot s n) := by
  unfold switchSlot
  try lift_lets -underBinder
  with_reducible repeat' first | assumption | exact fpart (by decide +kernel) hfm | exact fle (by decide +kernel) hfm | exact fok (by decide +kernel) hfm | exact fall (by decide +kernel) hfm | exact fokIx (by decide +kernel) hfm | exact fokAll (by decide +kernel) hfm | refine Mask.ok_ite ?_ ?_ | refine faultsOf_ok ?_ ?_ | (intro a; clear_value a) | lift_lets -underBinder | apply Keeps.ite | apply dirtyLeaf_keeps | apply healGrain_keeps | apply setEntry_keeps | split

theorem mapSectors_keeps {fm : Nat} {r0 : State}  {s : State} {q : Nat} {c : Cmd} {l : List (Nat × Nat)} (hfm : Mask.le 0x1c00200000000001200000000000000000100000000000000000000000000000000000000800000000000000000000000000000000000000000000000000000000000000033c60 fm = true) (h0 : Keeps fm r0 s)  : Keeps fm r0 (mapSectors s q c l) := by
  unfold mapSectors
  try lift_lets -underBinder
  with_reducible repeat' first | assumption | exact fpart (by decide +kernel) hfm | exact fle (by decide +kernel) hfm | exact fok (by decide +kernel) hfm | exact fall (by decide +kernel) hfm | exact fokIx (by decide +kernel) hfm | exact fokAll (by decide +kernel) hfm | refine Mask.ok_ite ?_ ?_ | refine faultsOf_ok ?_ ?_ | refine fun _ _ (_ : Keeps fm r0 _) => ?_ | (intro a; refine (fun ha : Keeps fm r0 a => ?_) ?_; clear_value a; rotate_left; dsimp only [a]; rotate_right) | lift_lets -underBinder | apply Keeps.ite | apply setWr_keeps | apply mapGrain_keeps | apply switchSlot_keeps | apply Keeps.forEach | split

theorem step7_keeps {fm : Nat} {r0 : State}  {s : State} {q : Nat} {tag : Nat} (hfm : Mask.le 0x1c00200000000001200000000000000000100000000000000000000000000000000000000800000000000000000000000000000000000000000000000000000000000000033c60 fm = true) (h0 : Keeps fm r0 s)  : Keeps fm r0 (step7 s q tag) := by
  unfold step7
  try lift_lets -underBinder
  with_reducible repeat' first | assumption | exact fpart (by decide +kernel) hfm | exact fle (by decide +kernel) hfm | exact fok (by decide +kernel) hfm | exact fall (by decide +kernel) hfm | exact fokIx (by decide +kernel) hfm | exact fokAll (by decide +kernel) hfm | refine Mask.ok_ite ?_ ?_ | refine faultsOf_ok ?_ ?_ | refine fun _ _ (_ : Keeps fm r0 _) => ?_ | (intro a; refine (fun ha : Keeps fm r0 a => ?_) ?_; clear_value a; rotate_left; dsimp only [a]; rotate_right) | lift_lets -underBinder | apply Keeps.ite | apply mapSectors_keeps | apply modPool_keeps | apply Keeps.forEach | split

theorem forceFua_keeps {fm : Nat} {r0 : State}  {s : State} {q : Nat} {tag : Nat} (hfm : Mask.le 0x1f0000000000000000000000000000000000000000000000000014000000000000190000000000000000000000000000000000000000000000020000040845820 fm = true) (h0 : Keeps fm r0 s)  : Keeps fm r0 (forceFua s q tag) := by
  unfold forceFua
  with_reducible repeat' first | assumption | exact fpart (by decide +kernel) hfm | exact fle (by decide +kernel) hfm | exact fok (by decide +kernel) hfm | exact fall (by decide +kernel) hfm | exact fokIx (by decide +kernel) hfm | exact fokAll (by decide +kernel) hfm | refine Mask.ok_ite ?_ ?_ | refine faultsOf_ok ?_ ?_ | apply Keeps.ite | apply forceWhere_keeps | split

theorem afterLanding_keeps {fm : Nat} {r0 : State}  {s : State} {q : Nat} {tag : Nat} {p : Nat} {n : Nat} (hfm : Mask.le 0x1c002000000001f1200000000000000000100000000000000000000000000000014000000800000190000000000000000000000000000000000000000000000020000040877c60 fm = true) (h0 : Keeps fm r0 s)  : Keeps fm r0 (afterLanding s q tag p n) := by
  unfold afterLanding
  try lift_lets -underBinder
  with_reducible repeat' first | assumption | exact fpart (by decide +kernel) hfm | exact fle (by decide +kernel) hfm | exact fok (by decide +kernel) hfm | exact fall (by decide +kernel) hfm | exact fokIx (by decide +kernel) hfm | exact fokAll (by decide +kernel) hfm | refine Mask.ok_ite ?_ ?_ | refine faultsOf_ok ?_ ?_ | (intro a; refine (fun ha : Keeps fm r0 a => ?_) ?_; clear_value a; rotate_left; dsimp only [a]; rotate_right) | lift_lets -underBinder | apply forceFua_keeps | apply step7_keeps | apply tryIssue_keeps | split

theorem landPlain_keeps {fm : Nat} {r0 : State}  {s : State} {q : Nat} {c : Cmd} {i : Nat} {n : Nat} {plain : Bytes} (hfm : Mask.le 0x1c002000000001f1200020000700000000100000000000000000000000000000014000000800000190000000000000000000000000000000000000000000000020000040877ce0 fm = true) (h0 : Keeps fm r0 s)  : Keeps fm r0 (landPlain s q c i n plain) := by
  unfold landPlain
  try lift_lets -underBinder
  with_reducible repeat' first | assumption | exact fpart (by decide +kernel) hfm | exact fle (by decide +kernel) hfm | exact fok (by decide +kernel) hfm | exact fall (by decide +kernel) hfm | exact fokIx (by decide +kernel) hfm | exact fokAll (by decide +kernel) hfm | refine Mask.ok_ite ?_ ?_ | refine faultsOf_ok ?_ ?_ | (intro a; refine (fun ha : Keeps fm r0 a => ?_) ?_; clear_value a; rotate_left; dsimp only [a]; rotate_right) | lift_lets -underBinder | apply Keeps.ite | apply failWrite_keeps | apply pipeWork_keeps | apply afterLanding_keeps | apply landSlot_keeps | split

theorem landBad_keeps {fm : Nat} {r0 : State}  {s : State} {q : Nat} {c : Cmd} {i : Nat} {n : Nat} (hfm : Mask.le 0x1c002000000001f1200000000700000000100000000000000000000000000000014000000800000190000000000000000000000000000000000000000000000020000040877c60 fm = true) (h0 : Keeps fm r0 s)  : Keeps fm r0 (landBad s q c i n) := by
  unfold landBad
  try lift_lets -underBinder
  with_reducible repeat' first | assumption | exact fpart (by decide +kernel) hfm | exact fle (by decide +kernel) hfm | exact fok (by decide +kernel) hfm | exact fall (by decide +kernel) hfm | exact fokIx (by decide +kernel) hfm | exact fokAll (by decide +kernel) hfm | refine Mask.ok_ite ?_ ?_ | refine faultsOf_ok ?_ ?_ | (intro a; clear_value a) | lift_lets -underBinder | apply afterLanding_keeps | apply landSlot_keeps

theorem countPart_keeps {fm : Nat} {r0 : State}  {s : State} {x : PartWrite} (hfm : Mask.le 0x7800000000000000000000000000000000000000000000000000000000000000000000000000000000000000000000000000000000000 fm = true) (h0 : Keeps fm r0 s)  : Keeps fm r0 (countPart s x) := by
  unfold countPart
  with_reducible repeat' first
    | assumption
    | exact fpart (by decide +kernel) hfm
    | exact fle (by decide +kernel) hfm
    | exact fok (by decide +kernel) hfm
    | exact fall (by decide +kernel) hfm
    | exact fokIx (by decide +kernel) hfm
    | exact fokAll (by decide +kernel) hfm
    | refine Mask.ok_ite ?_ ?_
    | refine faultsOf_ok ?_ ?_
    | refine fun _ (_ : Keeps fm r0 _) => ?_
    | refine fun _ _ (_ : Keeps fm r0 _) => ?_
    | refine fun _ _ _ (_ : Keeps fm r0 _) => ?_
    | exact KeepsO.get rfl (by assumption)
    | exact KeepsP.get rfl (by assumption)
    | apply Keeps.ite
    | apply bump_keeps
    | apply Keeps.forEach
    | apply Keeps.forRange
    | apply Keeps.foldl
    | apply Keeps.foldl_fst
    | apply Keeps.foldl_snd
    | exact KeepsO.none
    | exact KeepsP.none
    | apply KeepsO.some
    | apply KeepsP.some
    | apply KeepsO.ite
    | apply KeepsP.ite
    | refine KeepsO.foldl _ _ ?_ (fun _ _ _ => ?_)
    | exact KeepsF.lost
    | apply KeepsF.started
    | apply KeepsF.ite
    | refine Keeps.of_snd (by assumption) ?_
    | refine Keeps.of_fst (by assumption) ?_
    | refine KeepsO.get (by assumption) ?_
    | refine KeepsP.get (by assumption) ?_
    | refine KeepsF.get (by assumption) ?_
    | split
    | fail_if_no_progress (apply Keeps.upd <;> try first | exact Or.inr (fpart (by decide +kernel) hfm) | exact Or.inl rfl)
    | fail_if_no_progress (apply Keeps.updDict <;> try first | exact Or.inr (fpart (by decide +kernel) hfm) | exact Or.inl rfl)
    | refine Keeps.updRegs (rg := Tbl.filterK _ _) ?_ (Tbl.wf_filterK _) (Tbl.wf_filterK _)
    | refine Keeps.updRegs (rg := Tbl.filterK _ _) ?_ (Tbl.wf_filterK _) id

theorem spoilSlot_keeps {fm : Nat} {r0 : State}  {s : State} {n : Nat} {x : Slot} (hfm : Mask.le 0x30080000000000000000000000000000000001000000000000000000000000000000000000000000017c000000000000000000000000000000000000000000000000000000000801920 fm = true) (h0 : Keeps fm r0 s)  : Keeps fm r0 (spoilSlot s n x) := by
  unfold spoilSlot
  try lift_lets -underBinder
  with_reducible repeat' first
    | assumption
    | exact fpart (by decide +kernel) hfm
    | exact fle (by decide +kernel) hfm
    | exact fok (by decide +kernel) hfm
    | exact fall (by decide +kernel) hfm
    | exact fokIx (by decide +kernel) hfm
    | exact fokAll (by decide +kernel) hfm
    | refine Mask.ok_ite ?_ ?_
    | refine faultsOf_ok ?_ ?_
    | refine fun _ (_ : Keeps fm r0 _) => ?_
    | refine fun _ _ (_ : Keeps fm r0 _) => ?_
    | refine fun _ _ _ (_ : Keeps fm r0 _) => ?_
    | exact KeepsO.get rfl (by assumption)
    | exact KeepsP.get rfl (by assumption)
    | (intro a; refine (fun ha : Keeps fm r0 a => ?_) ?_; clear_value a; rotate_left; dsimp only [a]; rotate_right)
    | (intro a; refine (fun ha : Keeps fm r0 a.2 => ?_) ?_; clear_value a; rotate_left; dsimp only [a]; rotate_right)
    | (intro a; refine (fun ha : Keeps fm r0 a.1 => ?_) ?_; clear_value a; rotate_left; dsimp only [a]; rotate_right)
    | (intro a; refine (fun ha : KeepsO fm r0 a => ?_) ?_; clear_value a; rotate_left; dsimp only [a]; rotate_right)
    | (have _ := @hgb; intro a; refine (fun hgc : ∀ t, Keeps fm r0 t → Keeps fm r0 (a t) => ?_) ?_; clear_value a; rotate_left; dsimp only [a]; rotate_right)
    | (have _ := @hga; intro a; refine (fun hgb : ∀ t, Keeps fm r0 t → Keeps fm r0 (a t) => ?_) ?_; clear_value a; rotate_left; dsimp only [a]; rotate_right)
    | (intro a; refine (fun hga : ∀ t, Keeps fm r0 t → Keeps fm r0 (a t) => ?_) ?_; clear_value a; rotate_left; dsimp only [a]; rotate_right)
    | (have _ := @hgb; intro a; refine (fun hgc : ∀ x t, Keeps fm r0 t → Keeps fm r0 (a x t) => ?_) ?_; clear_value a; rotate_left; dsimp only [a]; rotate_right)
    | (have _ := @hga; intro a; refine (fun hgb : ∀ x t, Keeps fm r0 t → Keeps fm r0 (a x t) => ?_) ?_; clear_value a; rotate_left; dsimp only [a]; rotate_right)
    | (intro a; refine (fun hga : ∀ x t, Keeps fm r0 t → Keeps fm r0 (a x t) => ?_) ?_; clear_value a; rotate_left; dsimp only [a]; rotate_right)
    | (have _ := @hgb; intro a; refine (fun hgc : ∀ x y t, Keeps fm r0 t → Keeps fm r0 (a x y t) => ?_) ?_; clear_value a; rotate_left; dsimp only [a]; rotate_right)
    | (have _ := @hga; intro a; refine (fun hgb : ∀ x y t, Keeps fm r0 t → Keeps fm r0 (a x y t) => ?_) ?_; clear_value a; rotate_left; dsimp only [a]; rotate_right)
    | (intro a; refine (fun hga : ∀ x y t, Keeps fm r0 t → Keeps fm r0 (a x y t) => ?_) ?_; clear_value a; rotate_left; dsimp only [a]; rotate_right)
    | (have _ := @hgb; intro a; refine (fun hgc : ∀ t x, Keeps fm r0 t → Keeps fm r0 (a t x) => ?_) ?_; clear_value a; rotate_left; dsimp only [a]; rotate_right)
    | (have _ := @hga; intro a; refine (fun hgb : ∀ t x, Keeps fm r0 t → Keeps fm r0 (a t x) => ?_) ?_; clear_value a; rotate_left; dsimp only [a]; rotate_right)
    | (intro a; refine (fun hga : ∀ t x, Keeps fm r0 t → Keeps fm r0 (a t x) => ?_) ?_; clear_value a; rotate_left; dsimp only [a]; rotate_right)
    | (intro a; refine (fun (_ : a = (a : Dict)) => ?_) rfl; dsimp only [a])
    | (intro a; clear_value a)
    | apply hga
    | apply hgb
    | apply hgc
    | lift_lets -underBinder
    | apply Keeps.ite
    | apply accumulate_keeps
    | apply modPosOf_keeps
    | apply modSlot_keeps
    | apply raise_keeps
    | apply bump_keeps
    | apply Keeps.forEach
    | apply Keeps.forRange
    | apply Keeps.foldl
    | apply Keeps.foldl_fst
    | apply Keeps.foldl_snd
    | exact KeepsO.none
    | exact KeepsP.none
    | apply KeepsO.some
    | apply KeepsP.some
    | apply KeepsO.ite
    | apply KeepsP.ite
    | refine KeepsO.foldl _ _ ?_ (fun _ _ _ => ?_)
    | exact KeepsF.lost
    | apply KeepsF.started
    | apply KeepsF.ite
    | fail_if_no_progress (apply Keeps.upd <;> try first | exact Or.inr (fpart (by decide +kernel) hfm) | exact Or.inl rfl)
    | fail_if_no_progress (apply Keeps.updDict <;> try first | exact Or.inr (fpart (by decide +kernel) hfm) | exact Or.inl rfl)
    | refine Keeps.updRegs (rg := Tbl.filterK _ _) ?_ (Tbl.wf_filterK _) (Tbl.wf_filterK _)
    | refine Keeps.updRegs (rg := Tbl.filterK _ _) ?_ (Tbl.wf_filterK _) id
    | split
    | refine Keeps.of_snd (by assumption) ?_
    | refine Keeps.of_fst (by assumption) ?_
    | refine KeepsO.get (by assumption) ?_
    | refine KeepsP.get (by assumption) ?_
    | refine KeepsF.get (by assumption) ?_

theorem poisonSlot_keeps {fm : Nat} {r0 : State}  {s : State} {n : Nat} {w : Nat} (hfm : Mask.le 0x30080000000000000000000000000000000001000000000000000000000000000000000000000000017c000000000000000000000000000000000000000000000000000000000801920 fm = true) (h0 : Keeps fm r0 s)  : Keeps fm r0 (poisonSlot s n w) := by
  unfold poisonSlot
  try lift_lets -underBinder
  with_reducible repeat' first | assumption | exact fpart (by decide +kernel) hfm | exact fle (by decide +kernel) hfm | exact fok (by decide +kernel) hfm | exact fall (by decide +kernel) hfm | exact fokIx (by decide +kernel) hfm | exact fokAll (by decide +kernel) hfm | refine Mask.ok_ite ?_ ?_ | refine faultsOf_ok ?_ ?_ | (intro a; refine (fun ha : Keeps fm r0 a => ?_) ?_; clear_value a; rotate_left; dsimp only [a]; rotate_right) | (intro a; clear_value a) | lift_lets -underBinder | apply Keeps.ite | apply modSlot_keeps | apply emit_keeps | apply spoilSlot_keeps | apply Keeps.forEach | split

theorem poisonDescriptor_keeps {fm : Nat} {r0 : State}  {s : State} {n : Nat} {copies : List Nat} (hfm : Mask.le 0x30080000000000000000000000000000000001000000000000000000000000000000000000000000017c000000000000000000000000000000000000000000000000000000000801920 fm = true) (h0 : Keeps fm r0 s)  : Keeps fm r0 (poisonDescriptor s n copies) := by
  unfold poisonDescriptor
  try lift_lets -underBinder
  with_reducible repeat' first
    | assumption
    | exact fpart (by decide +kernel) hfm
    | exact fle (by decide +kernel) hfm
    | exact fok (by decide +kernel) hfm
    | exact fall (by decide +kernel) hfm
    | exact fokIx (by decide +kernel) hfm
    | exact fokAll (by decide +kernel) hfm
    | refine Mask.ok_ite ?_ ?_
    | refine faultsOf_ok ?_ ?_
    | refine fun _ (_ : Keeps fm r0 _) => ?_
    | refine fun _ _ (_ : Keeps fm r0 _) => ?_
    | refine fun _ _ _ (_ : Keeps fm r0 _) => ?_
    | exact KeepsO.get rfl (by assumption)
    | exact KeepsP.get rfl (by assumption)
    | (intro a; refine (fun ha : Keeps fm r0 a => ?_) ?_; clear_value a; rotate_left; dsimp only [a]; rotate_right)
    | (intro a; refine (fun ha : Keeps fm r0 a.2 => ?_) ?_; clear_value a; rotate_left; dsimp only [a]; rotate_right)
    | (intro a; refine (fun ha : Keeps fm r0 a.1 => ?_) ?_; clear_value a; rotate_left; dsimp only [a]; rotate_right)
    | (intro a; refine (fun ha : KeepsO fm r0 a => ?_) ?_; clear_value a; rotate_left; dsimp only [a]; rotate_right)
    | (have _ := @hgb; intro a; refine (fun hgc : ∀ t, Keeps fm r0 t → Keeps fm r0 (a t) => ?_) ?_; clear_value a; rotate_left; dsimp only [a]; rotate_right)
    | (have _ := @hga; intro a; refine (fun hgb : ∀ t, Keeps fm r0 t → Keeps fm r0 (a t) => ?_) ?_; clear_value a; rotate_left; dsimp only [a]; rotate_right)
    | (intro a; refine (fun hga : ∀ t, Keeps fm r0 t → Keeps fm r0 (a t) => ?_) ?_; clear_value a; rotate_left; dsimp only [a]; rotate_right)
    | (have _ := @hgb; intro a; refine (fun hgc : ∀ x t, Keeps fm r0 t → Keeps fm r0 (a x t) => ?_) ?_; clear_value a; rotate_left; dsimp only [a]; rotate_right)
    | (have _ := @hga; intro a; refine (fun hgb : ∀ x t, Keeps fm r0 t → Keeps fm r0 (a x t) => ?_) ?_; clear_value a; rotate_left; dsimp only [a]; rotate_right)
    | (intro a; refine (fun hga : ∀ x t, Keeps fm r0 t → Keeps fm r0 (a x t) => ?_) ?_; clear_value a; rotate_left; dsimp only [a]; rotate_right)
    | (have _ := @hgb; intro a; refine (fun hgc : ∀ x y t, Keeps fm r0 t → Keeps fm r0 (a x y t) => ?_) ?_; clear_value a; rotate_left; dsimp only [a]; rotate_right)
    | (have _ := @hga; intro a; refine (fun hgb : ∀ x y t, Keeps fm r0 t → Keeps fm r0 (a x y t) => ?_) ?_; clear_value a; rotate_left; dsimp only [a]; rotate_right)
    | (intro a; refine (fun hga : ∀ x y t, Keeps fm r0 t → Keeps fm r0 (a x y t) => ?_) ?_; clear_value a; rotate_left; dsimp only [a]; rotate_right)
    | (have _ := @hgb; intro a; refine (fun hgc : ∀ t x, Keeps fm r0 t → Keeps fm r0 (a t x) => ?_) ?_; clear_value a; rotate_left; dsimp only [a]; rotate_right)
    | (have _ := @hga; intro a; refine (fun hgb : ∀ t x, Keeps fm r0 t → Keeps fm r0 (a t x) => ?_) ?_; clear_value a; rotate_left; dsimp only [a]; rotate_right)
    | (intro a; refine (fun hga : ∀ t x, Keeps fm r0 t → Keeps fm r0 (a t x) => ?_) ?_; clear_value a; rotate_left; dsimp only [a]; rotate_right)
    | (intro a; refine (fun (_ : a = (a : Dict)) => ?_) rfl; dsimp only [a])
    | (intro a; clear_value a)
    | apply hga
    | apply hgb
    | apply hgc
    | lift_lets -underBinder
    | apply Keeps.ite
    | apply lost_keeps
    | apply spoilSlot_keeps
    | apply Keeps.forEach
    | apply Keeps.forRange
    | apply Keeps.foldl
    | apply Keeps.foldl_fst
    | apply Keeps.foldl_snd
    | exact KeepsO.none
    | exact KeepsP.none
    | apply KeepsO.some
    | apply KeepsP.some
    | apply KeepsO.ite
    | apply KeepsP.ite
    | refine KeepsO.foldl _ _ ?_ (fun _ _ _ => ?_)
    | exact KeepsF.lost
    | apply KeepsF.started
    | apply KeepsF.ite
    | refine Keeps.of_snd (by assumption) ?_
    | refine Keeps.of_fst (by assumption) ?_
    | refine KeepsO.get (by assumption) ?_
    | refine KeepsP.get (by assumption) ?_
    | refine KeepsF.get (by assumption) ?_
    | split
    | fail_if_no_progress (apply Keeps.upd <;> try first | exact Or.inr (fpart (by decide +kernel) hfm) | exact Or.inl rfl)
    | fail_if_no_progress (apply Keeps.updDict <;> try first | exact Or.inr (fpart (by decide +kernel) hfm) | exact Or.inl rfl)
    | refine Keeps.updRegs (rg := Tbl.filterK _ _) ?_ (Tbl.wf_filterK _) (Tbl.wf_filterK _)
    | refine Keeps.updRegs (rg := Tbl.filterK _ _) ?_ (Tbl.wf_filterK _) id

theorem poisonLeaf_keeps {fm : Nat} {r0 : State}  {s : State} {v : Nat} {leaf : Nat} (hfm : Mask.le 0xc00000000000000000000000000000000000000000000000000000000000000014000001800000000000000000000000000000000000000000000000000000620000040824520 fm = true) (h0 : Keeps fm r0 s)  : Keeps fm r0 (poisonLeaf s v leaf) := by
  unfold poisonLeaf
  try lift_lets -underBinder
  with_reducible repeat' first
    | assumption
    | exact fpart (by decide +kernel) hfm
    | exact fle (by decide +kernel) hfm
    | exact fok (by decide +kernel) hfm
    | exact fall (by decide +kernel) hfm
    | exact fokIx (by decide +kernel) hfm
    | exact fokAll (by decide +kernel) hfm
    | refine Mask.ok_ite ?_ ?_
    | refine faultsOf_ok ?_ ?_
    | refine fun _ (_ : Keeps fm r0 _) => ?_
    | refine fun _ _ (_ : Keeps fm r0 _) => ?_
    | refine fun _ _ _ (_ : Keeps fm r0 _) => ?_
    | exact KeepsO.get rfl (by assumption)
    | exact KeepsP.get rfl (by assumption)
    | (intro a; refine (fun ha : Keeps fm r0 a => ?_) ?_; clear_value a; rotate_left; dsimp only [a]; rotate_right)
    | (intro a; refine (fun ha : Keeps fm r0 a.2 => ?_) ?_; clear_value a; rotate_left; dsimp only [a]; rotate_right)
    | (intro a; refine (fun ha : Keeps fm r0 a.1 => ?_) ?_; clear_value a; rotate_left; dsimp only [a]; rotate_right)
    | (intro a; refine (fun ha : KeepsO fm r0 a => ?_) ?_; clear_value a; rotate_left; dsimp only [a]; rotate_right)
    | (have _ := @hgb; intro a; refine (fun hgc : ∀ t, Keeps fm r0 t → Keeps fm r0 (a t) => ?_) ?_; clear_value a; rotate_left; dsimp only [a]; rotate_right)
    | (have _ := @hga; intro a; refine (fun hgb : ∀ t, Keeps fm r0 t → Keeps fm r0 (a t) => ?_) ?_; clear_value a; rotate_left; dsimp only [a]; rotate_right)
    | (intro a; refine (fun hga : ∀ t, Keeps fm r0 t → Keeps fm r0 (a t) => ?_) ?_; clear_value a; rotate_left; dsimp only [a]; rotate_right)
    | (have _ := @hgb; intro a; refine (fun hgc : ∀ x t, Keeps fm r0 t → Keeps fm r0 (a x t) => ?_) ?_; clear_value a; rotate_left; dsimp only [a]; rotate_right)
    | (have _ := @hga; intro a; refine (fun hgb : ∀ x t, Keeps fm r0 t → Keeps fm r0 (a x t) => ?_) ?_; clear_value a; rotate_left; dsimp only [a]; rotate_right)
    | (intro a; refine (fun hga : ∀ x t, Keeps fm r0 t → Keeps fm r0 (a x t) => ?_) ?_; clear_value a; rotate_left; dsimp only [a]; rotate_right)
    | (have _ := @hgb; intro a; refine (fun hgc : ∀ x y t, Keeps fm r0 t → Keeps fm r0 (a x y t) => ?_) ?_; clear_value a; rotate_left; dsimp only [a]; rotate_right)
    | (have _ := @hga; intro a; refine (fun hgb : ∀ x y t, Keeps fm r0 t → Keeps fm r0 (a x y t) => ?_) ?_; clear_value a; rotate_left; dsimp only [a]; rotate_right)
    | (intro a; refine (fun hga : ∀ x y t, Keeps fm r0 t → Keeps fm r0 (a x y t) => ?_) ?_; clear_value a; rotate_left; dsimp only [a]; rotate_right)
    | (have _ := @hgb; intro a; refine (fun hgc : ∀ t x, Keeps fm r0 t → Keeps fm r0 (a t x) => ?_) ?_; clear_value a; rotate_left; dsimp only [a]; rotate_right)
    | (have _ := @hga; intro a; refine (fun hgb : ∀ t x, Keeps fm r0 t → Keeps fm r0 (a t x) => ?_) ?_; clear_value a; rotate_left; dsimp only [a]; rotate_right)
    | (intro a; refine (fun hga : ∀ t x, Keeps fm r0 t → Keeps fm r0 (a t x) => ?_) ?_; clear_value a; rotate_left; dsimp only [a]; rotate_right)
    | (intro a; refine (fun (_ : a = (a : Dict)) => ?_) rfl; dsimp only [a])
    | (intro a; clear_value a)
    | apply hga
    | apply hgb
    | apply hgc
    | lift_lets -underBinder
    | apply Keeps.ite
    | apply noteLeaves_keeps
    | apply missLeaf_keeps
    | apply Keeps.forEach
    | apply Keeps.forRange
    | apply Keeps.foldl
    | apply Keeps.foldl_fst
    | apply Keeps.foldl_snd
    | exact KeepsO.none
    | exact KeepsP.none
    | apply KeepsO.some
    | apply KeepsP.some
    | apply KeepsO.ite
    | apply KeepsP.ite
    | refine KeepsO.foldl _ _ ?_ (fun _ _ _ => ?_)
    | exact KeepsF.lost
    | apply KeepsF.started
    | apply KeepsF.ite
    | refine Keeps.of_snd (by assumption) ?_
    | refine Keeps.of_fst (by assumption) ?_
    | refine KeepsO.get (by assumption) ?_
    | refine KeepsP.get (by assumption) ?_
    | refine KeepsF.get (by assumption) ?_
    | split
    | fail_if_no_progress (apply Keeps.upd <;> try first | exact Or.inr (fpart (by decide +kernel) hfm) | exact Or.inl rfl)
    | fail_if_no_progress (apply Keeps.updDict <;> try first | exact Or.inr (fpart (by decide +kernel) hfm) | exact Or.inl rfl)
    | refine Keeps.updRegs (rg := Tbl.filterK _ _) ?_ (Tbl.wf_filterK _) (Tbl.wf_filterK _)
    | refine Keeps.updRegs (rg := Tbl.filterK _ _) ?_ (Tbl.wf_filterK _) id

theorem meetPoison_keeps {fm : Nat} {r0 : State}  {x : Poison} {s : State} (hfm : Mask.le 0x300800c0000000000000000000000000000001000100000000000000000000000000001400000180017c000000000000000000000000000000000000000000000000620000040825d20 fm = true) (h0 : Keeps fm r0 s)  : Keeps fm r0 (meetPoison x s) := by
  unfold meetPoison
  with_reducible repeat' first
    | assumption
    | exact fpart (by decide +kernel) hfm
    | exact fle (by decide +kernel) hfm
    | exact fok (by decide +kernel) hfm
    | exact fall (by decide +kernel) hfm
    | exact fokIx (by decide +kernel) hfm
    | exact fokAll (by decide +kernel) hfm
    | refine Mask.ok_ite ?_ ?_
    | refine faultsOf_ok ?_ ?_
    | refine fun _ (_ : Keeps fm r0 _) => ?_
    | refine fun _ _ (_ : Keeps fm r0 _) => ?_
    | refine fun _ _ _ (_ : Keeps fm r0 _) => ?_
    | exact KeepsO.get rfl (by assumption)
    | exact KeepsP.get rfl (by assumption)
    | apply Keeps.ite
    | apply poisonSlot_keeps
    | apply bump_keeps
    | apply poisonDescriptor_keeps
    | apply landRows_keeps
    | apply poisonLeaf_keeps
    | apply Keeps.forEach
    | apply Keeps.forRange
    | apply Keeps.foldl
    | apply Keeps.foldl_fst
    | apply Keeps.foldl_snd
    | exact KeepsO.none
    | exact KeepsP.none
    | apply KeepsO.some
    | apply KeepsP.some
    | apply KeepsO.ite
    | apply KeepsP.ite
    | refine KeepsO.foldl _ _ ?_ (fun _ _ _ => ?_)
    | exact KeepsF.lost
    | apply KeepsF.started
    | apply KeepsF.ite
    | refine Keeps.of_snd (by assumption) ?_
    | refine Keeps.of_fst (by assumption) ?_
    | refine KeepsO.get (by assumption) ?_
    | refine KeepsP.get (by assumption) ?_
    | refine KeepsF.get (by assumption) ?_
    | split
    | fail_if_no_progress (apply Keeps.upd <;> try first | exact Or.inr (fpart (by decide +kernel) hfm) | exact Or.inl rfl)
    | fail_if_no_progress (apply Keeps.updDict <;> try first | exact Or.inr (fpart (by decide +kernel) hfm) | exact Or.inl rfl)
    | refine Keeps.updRegs (rg := Tbl.filterK _ _) ?_ (Tbl.wf_filterK _) (Tbl.wf_filterK _)
    | refine Keeps.updRegs (rg := Tbl.filterK _ _) ?_ (Tbl.wf_filterK _) id

theorem execWriteDmaLanded_keeps {fm : Nat} {r0 : State}  {q : Nat} {tag : Nat} {i : Nat} {data : Bytes} {met : WriteMet} {s0 : State} (hfm : Mask.le 0x800000000000300801c002000000001f120003600070000001790100000000000000000000000000001400000180017c190000000000000000000000000000000010000000000000620000040877de0 fm = true) (h0 : Keeps fm r0 s0)  : ∃ t1, (execWriteDmaLanded q tag i data met s0) = .next t1 ∧ Keeps fm r0 t1 := by
  refine ⟨_, rfl, ?_⟩
  try lift_lets -underBinder
  with_reducible repeat' first | assumption | exact fpart (by decide +kernel) hfm | exact fle (by decide +kernel) hfm | exact fok (by decide +kernel) hfm | exact fall (by decide +kernel) hfm | exact fokIx (by decide +kernel) hfm | exact fokAll (by decide +kernel) hfm | refine Mask.ok_ite ?_ ?_ | refine faultsOf_ok ?_ ?_ | refine fun _ _ (_ : Keeps fm r0 _) => ?_ | (intro a; refine (fun ha : Keeps fm r0 a => ?_) ?_; clear_value a; rotate_left; dsimp only [a]; rotate_right) | lift_lets -underBinder | apply Keeps.ite | apply meetPoison_keeps | apply countPart_keeps | apply countDev_keeps | apply failWrite_keeps | apply pipeFault_keeps | apply raise_keeps | apply landBad_keeps | apply bump_keeps | apply landPlain_keeps | apply Keeps.forEach | split

theorem widenSector_keeps {fm : Nat} {r0 : State}  {s : State} {q : Nat} {tag : Nat} {i : Nat} {n : Nat} (hfm : Mask.le 0x300801c002000000001f120002000070000000010000000000000000000000000000001400000080017c19000000000000000000000000000040000000000000000002000004087fde0 fm = true) (h0 : Keeps fm r0 s)  : Keeps fm r0 (widenSector s q tag i n) := by
  unfold widenSector
  try lift_lets -underBinder
  with_reducible repeat' first | assumption | exact fpart (by decide +kernel) hfm | exact fle (by decide +kernel) hfm | exact fok (by decide +kernel) hfm | exact fall (by decide +kernel) hfm | exact fokIx (by decide +kernel) hfm | exact fokAll (by decide +kernel) hfm | refine Mask.ok_ite ?_ ?_ | refine faultsOf_ok ?_ ?_ | (intro a; refine (fun ha : Keeps fm r0 a => ?_) ?_; clear_value a; rotate_left; dsimp only [a]; rotate_right) | (intro a; clear_value a) | lift_lets -underBinder | apply Keeps.ite | apply chargeKey_keeps | apply landPlain_keeps | apply landBad_keeps | apply failWrite_keeps | apply fetchAt_keeps | split | refine KeepsF.get (by assumption) ?_

theorem countPlaced_keeps {fm : Nat} {r0 : State}  {s : State} {c : Cmd} (hfm : Mask.le 0x20 fm = true) (h0 : Keeps fm r0 s)  : Keeps fm r0 (countPlaced s c) := by
  unfold countPlaced
  try lift_lets -underBinder
  with_reducible repeat' first | assumption | exact fpart (by decide +kernel) hfm | exact fle (by decide +kernel) hfm | exact fok (by decide +kernel) hfm | exact fall (by decide +kernel) hfm | exact fokIx (by decide +kernel) hfm | exact fokAll (by decide +kernel) hfm | refine Mask.ok_ite ?_ ?_ | refine faultsOf_ok ?_ ?_ | (intro a; clear_value a) | apply countDev_keeps | split

theorem startTransfers_keeps {fm : Nat} {r0 : State}  {s : State} {q : Nat} {c : Cmd} {i : Nat} (hfm : Mask.le 0x300801c002000000001f120002000070000000010000000000000000000000000000001400000080017c19000000000000000000000000000040000000000000000002000004087fde0 fm = true) (h0 : Keeps fm r0 s)  : Keeps fm r0 (startTransfers s q c i) := by
  unfold startTransfers
  try lift_lets -underBinder
  with_reducible repeat' first | assumption | exact fpart (by decide +kernel) hfm | exact fle (by decide +kernel) hfm | exact fok (by decide +kernel) hfm | exact fall (by decide +kernel) hfm | exact fokIx (by decide +kernel) hfm | exact fokAll (by decide +kernel) hfm | refine Mask.ok_ite ?_ ?_ | refine faultsOf_ok ?_ ?_ | refine fun _ _ (_ : Keeps fm r0 _) => ?_ | (intro a; refine (fun ha : Keeps fm r0 a => ?_) ?_; clear_value a; rotate_left; dsimp only [a]; rotate_right) | lift_lets -underBinder | apply Keeps.ite | apply hostGather_keeps | apply countPlaced_keeps | apply widenSector_keeps | apply Keeps.forEach | split

theorem continueWrite_keeps {fm : Nat} {r0 : State}  {s : State} {q : Nat} {tag : Nat} (hfm : Mask.le 0x300801c01a000000001f120002000070000000010000000000000000000000000000001400860080017c19000000000000000000000000008040000000000000000002000004087fde0 fm = true) (h0 : Keeps fm r0 s)  : Keeps fm r0 (continueWrite s q tag) := by
  unfold continueWrite
  try lift_lets -underBinder
  with_reducible repeat' first
    | assumption
    | exact fpart (by decide +kernel) hfm
    | exact fle (by decide +kernel) hfm
    | exact fok (by decide +kernel) hfm
    | exact fall (by decide +kernel) hfm
    | exact fokIx (by decide +kernel) hfm
    | exact fokAll (by decide +kernel) hfm
    | refine Mask.ok_ite ?_ ?_
    | refine faultsOf_ok ?_ ?_
    | refine fun _ (_ : Keeps fm r0 _) => ?_
    | refine fun _ _ (_ : Keeps fm r0 _) => ?_
    | refine fun _ _ _ (_ : Keeps fm r0 _) => ?_
    | exact KeepsO.get rfl (by assumption)
    | exact KeepsP.get rfl (by assumption)
    | (intro a; refine (fun ha : Keeps fm r0 a => ?_) ?_; clear_value a; rotate_left; dsimp only [a]; rotate_right)
    | (intro a; refine (fun ha : Keeps fm r0 a.2 => ?_) ?_; clear_value a; rotate_left; dsimp only [a]; rotate_right)
    | (intro a; refine (fun ha : Keeps fm r0 a.1 => ?_) ?_; clear_value a; rotate_left; dsimp only [a]; rotate_right)
    | (intro a; refine (fun ha : KeepsO fm r0 a => ?_) ?_; clear_value a; rotate_left; dsimp only [a]; rotate_right)
    | (have _ := @hgb; intro a; refine (fun hgc : ∀ t, Keeps fm r0 t → Keeps fm r0 (a t) => ?_) ?_; clear_value a; rotate_left; dsimp only [a]; rotate_right)
    | (have _ := @hga; intro a; refine (fun hgb : ∀ t, Keeps fm r0 t → Keeps fm r0 (a t) => ?_) ?_; clear_value a; rotate_left; dsimp only [a]; rotate_right)
    | (intro a; refine (fun hga : ∀ t, Keeps fm r0 t → Keeps fm r0 (a t) => ?_) ?_; clear_value a; rotate_left; dsimp only [a]; rotate_right)
    | (have _ := @hgb; intro a; refine (fun hgc : ∀ x t, Keeps fm r0 t → Keeps fm r0 (a x t) => ?_) ?_; clear_value a; rotate_left; dsimp only [a]; rotate_right)
    | (have _ := @hga; intro a; refine (fun hgb : ∀ x t, Keeps fm r0 t → Keeps fm r0 (a x t) => ?_) ?_; clear_value a; rotate_left; dsimp only [a]; rotate_right)
    | (intro a; refine (fun hga : ∀ x t, Keeps fm r0 t → Keeps fm r0 (a x t) => ?_) ?_; clear_value a; rotate_left; dsimp only [a]; rotate_right)
    | (have _ := @hgb; intro a; refine (fun hgc : ∀ x y t, Keeps fm r0 t → Keeps fm r0 (a x y t) => ?_) ?_; clear_value a; rotate_left; dsimp only [a]; rotate_right)
    | (have _ := @hga; intro a; refine (fun hgb : ∀ x y t, Keeps fm r0 t → Keeps fm r0 (a x y t) => ?_) ?_; clear_value a; rotate_left; dsimp only [a]; rotate_right)
    | (intro a; refine (fun hga : ∀ x y t, Keeps fm r0 t → Keeps fm r0 (a x y t) => ?_) ?_; clear_value a; rotate_left; dsimp only [a]; rotate_right)
    | (have _ := @hgb; intro a; refine (fun hgc : ∀ t x, Keeps fm r0 t → Keeps fm r0 (a t x) => ?_) ?_; clear_value a; rotate_left; dsimp only [a]; rotate_right)
    | (have _ := @hga; intro a; refine (fun hgb : ∀ t x, Keeps fm r0 t → Keeps fm r0 (a t x) => ?_) ?_; clear_value a; rotate_left; dsimp only [a]; rotate_right)
    | (intro a; refine (fun hga : ∀ t x, Keeps fm r0 t → Keeps fm r0 (a t x) => ?_) ?_; clear_value a; rotate_left; dsimp only [a]; rotate_right)
    | (intro a; refine (fun (_ : a = (a : Dict)) => ?_) rfl; dsimp only [a])
    | (intro a; clear_value a)
    | apply hga
    | apply hgb
    | apply hgc
    | lift_lets -underBinder
    | apply Keeps.ite
    | apply placeRest_keeps
    | apply bump_keeps
    | apply laneWaits_keeps
    | apply startTransfers_keeps
    | apply noteSlots_keeps
    | apply Keeps.forEach
    | apply Keeps.forRange
    | apply Keeps.foldl
    | apply Keeps.foldl_fst
    | apply Keeps.foldl_snd
    | exact KeepsO.none
    | exact KeepsP.none
    | apply KeepsO.some
    | apply KeepsP.some
    | apply KeepsO.ite
    | apply KeepsP.ite
    | refine KeepsO.foldl _ _ ?_ (fun _ _ _ => ?_)
    | exact KeepsF.lost
    | apply KeepsF.started
    | apply KeepsF.ite
    | refine Keeps.of_snd (by assumption) ?_
    | refine Keeps.of_fst (by assumption) ?_
    | refine KeepsO.get (by assumption) ?_
    | refine KeepsP.get (by assumption) ?_
    | refine KeepsF.get (by assumption) ?_
    | split
    | fail_if_no_progress (apply Keeps.upd <;> try first | exact Or.inr (fpart (by decide +kernel) hfm) | exact Or.inl rfl)
    | fail_if_no_progress (apply Keeps.updDict <;> try first | exact Or.inr (fpart (by decide +kernel) hfm) | exact Or.inl rfl)
    | refine Keeps.updRegs (rg := Tbl.filterK _ _) ?_ (Tbl.wf_filterK _) (Tbl.wf_filterK _)
    | refine Keeps.updRegs (rg := Tbl.filterK _ _) ?_ (Tbl.wf_filterK _) id

theorem execWrite_keeps {fm : Nat} {r0 : State}  {q : Nat} {tag : Nat} {s : State} (hfm : Mask.le 0x300801c01a000000001f120002000070000000010000000000000000000000000000001400860080017c19000000000000000000000000008040000000000000000002000004087fde0 fm = true) (h0 : Keeps fm r0 s)  : ∃ t1, (execWrite q tag s) = .next t1 ∧ Keeps fm r0 t1 := by
  refine ⟨_, rfl, ?_⟩
  try lift_lets -underBinder
  with_reducible repeat' first | assumption | exact fpart (by decide +kernel) hfm | exact fle (by decide +kernel) hfm | exact fok (by decide +kernel) hfm | exact fall (by decide +kernel) hfm | exact fokIx (by decide +kernel) hfm | exact fokAll (by decide +kernel) hfm | refine Mask.ok_ite ?_ ?_ | refine faultsOf_ok ?_ ?_ | (intro a; clear_value a) | lift_lets -underBinder | apply Keeps.ite | apply continueWrite_keeps | apply modCmd_keeps | split

theorem completeWrite_keeps {fm : Nat} {r0 : State}  {s : State} {q : Nat} {c : Cmd} (hfm : Mask.le 0x1900000000000000000000000000000000000000000000000000000008400e0 fm = true) (h0 : Keeps fm r0 s)  : Keeps fm r0 (completeWrite s q c) := by
  unfold completeWrite
  try lift_lets -underBinder
  with_reducible repeat' first | assumption | exact fpart (by decide +kernel) hfm | exact fle (by decide +kernel) hfm | exact fok (by decide +kernel) hfm | exact fall (by decide +kernel) hfm | exact fokIx (by decide +kernel) hfm | exact fokAll (by decide +kernel) hfm | refine Mask.ok_ite ?_ ?_ | refine faultsOf_ok ?_ ?_ | (intro a; refine (fun ha : Keeps fm r0 a => ?_) ?_; clear_value a; rotate_left; dsimp only [a]; rotate_right) | (intro a; clear_value a) | lift_lets -underBinder | apply Keeps.ite | apply sendMsg_keeps | apply finishWith_keeps

theorem execWriteCompletion_keeps {fm : Nat} {r0 : State}  {q : Nat} {tag : Nat} {s : State} (hfm : Mask.le 0x1900000000000000000000000000000000000000000000000000000008400e0 fm = true) (h0 : Keeps fm r0 s)  : ∃ t1, (execWriteCompletion q tag s) = .next t1 ∧ Keeps fm r0 t1 := by
  refine ⟨_, rfl, ?_⟩
  with_reducible repeat' first | assumption | exact fpart (by decide +kernel) hfm | exact fle (by decide +kernel) hfm | exact fok (by decide +kernel) hfm | exact fall (by decide +kernel) hfm | exact fokIx (by decide +kernel) hfm | exact fokAll (by decide +kernel) hfm | refine Mask.ok_ite ?_ ?_ | refine faultsOf_ok ?_ ?_ | apply Keeps.ite | apply completeWrite_keeps | split

theorem execWriteStep7Release_keeps {fm : Nat} {r0 : State}  {q : Nat} {tag : Nat} {s : State} (hfm : Mask.le 0x1c00200000000001200000000000000000100000000000000000000000000000000000000800000000000000000000000000000000000000000000000000000000000000033c60 fm = true) (h0 : Keeps fm r0 s)  : ∃ t1, (execWriteStep7Release q tag s) = .next t1 ∧ Keeps fm r0 t1 := by
  refine ⟨_, rfl, ?_⟩
  with_reducible repeat' first | assumption | exact fpart (by decide +kernel) hfm | exact fle (by decide +kernel) hfm | exact fok (by decide +kernel) hfm | exact fall (by decide +kernel) hfm | exact fokIx (by decide +kernel) hfm | exact fokAll (by decide +kernel) hfm | refine Mask.ok_ite ?_ ?_ | refine faultsOf_ok ?_ ?_ | apply Keeps.ite | apply step7_keeps | split

theorem execStripeAgeTimer_keeps {fm : Nat} {r0 : State}  {p : Nat} {aged : AgedStripe} {s0 : State} (hfm : Mask.le 0x300800c000000000001f000000000000000001000100000000000000000000000000001400000180017c190000000000000000000000000000000000000000000000620000040865d20 fm = true) (h0 : Keeps fm r0 s0)  : ∃ t1, (execStripeAgeTimer p aged s0) = .next t1 ∧ Keeps fm r0 t1 := by
  refine ⟨_, rfl, ?_⟩
  try lift_lets -underBinder
  with_reducible repeat' first | assumption | exact fpart (by decide +kernel) hfm | exact fle (by decide +kernel) hfm | exact fok (by decide +kernel) hfm | exact fall (by decide +kernel) hfm | exact fokIx (by decide +kernel) hfm | exact fokAll (by decide +kernel) hfm | refine Mask.ok_ite ?_ ?_ | refine faultsOf_ok ?_ ?_ | refine fun _ _ (_ : Keeps fm r0 _) => ?_ | (intro a; refine (fun ha : Keeps fm r0 a => ?_) ?_; clear_value a; rotate_left; dsimp only [a]; rotate_right) | lift_lets -underBinder | apply Keeps.ite | apply meetPoison_keeps | apply forceClose_keeps | apply Keeps.forEach | split

theorem placeStaged_keeps {fm : Nat} {r0 : State}  {s : State} {p : Nat} {cls : Nat} {lane : Nat} (hfm : Mask.le 0x3008000000000000001f000000000000000000010000000000000000000000000000001400860000017c190000000000000000000000000080000000000000000000020000040867920 fm = true) (h0 : Keeps fm r0 s)  : Keeps fm r0 (placeStaged s p cls lane) := by
  unfold placeStaged
  try lift_lets -underBinder
  with_reducible repeat' first | assumption | exact fpart (by decide +kernel) hfm | exact fle (by decide +kernel) hfm | exact fok (by decide +kernel) hfm | exact fall (by decide +kernel) hfm | exact fokIx (by decide +kernel) hfm | exact fokAll (by decide +kernel) hfm | refine Mask.ok_ite ?_ ?_ | refine faultsOf_ok ?_ ?_ | refine fun _ _ (_ : Keeps fm r0 _) => ?_ | (intro a; clear_value a) | lift_lets -underBinder | apply issueAll_keeps | apply placeAgain_keeps | apply modPool_keeps | apply Keeps.forEach

theorem execLaneWaitEnd_keeps {fm : Nat} {r0 : State}  {p : Nat} {cls : Nat} {lane : Nat} {s : State} (hfm : Mask.le 0x300801c01a000000001f120002000070000000010000000000000000000000000000001400860080017c19000000000000000000000000008040000000000000000002000004087fde0 fm = true) (h0 : Keeps fm r0 s)  : ∃ t1, (execLaneWaitEnd p cls lane s) = .next t1 ∧ Keeps fm r0 t1 := by
  refine ⟨_, rfl, ?_⟩
  try lift_lets -underBinder
  with_reducible repeat' first | assumption | exact fpart (by decide +kernel) hfm | exact fle (by decide +kernel) hfm | exact fok (by decide +kernel) hfm | exact fall (by decide +kernel) hfm | exact fokIx (by decide +kernel) hfm | exact fokAll (by decide +kernel) hfm | refine Mask.ok_ite ?_ ?_ | refine faultsOf_ok ?_ ?_ | refine fun _ _ (_ : Keeps fm r0 _) => ?_ | (intro a; refine (fun ha : Keeps fm r0 a => ?_) ?_; clear_value a; rotate_left; dsimp only [a]; rotate_right) | (intro a; clear_value a) | lift_lets -underBinder | apply Keeps.ite | apply openSeg_keeps | apply noteLanes_keeps | apply modLane_keeps | apply placeStaged_keeps | apply continueWrite_keeps | apply Keeps.forEach

theorem execFlush_keeps {fm : Nat} {r0 : State}  {q : Nat} {tag : Nat} {s : State} (hfm : Mask.le 0x1f0000000000000000000000000000000000000000000000000014000000000000190000000000000000000000000000000000000000000000020000040845860 fm = true) (h0 : Keeps fm r0 s)  : ∃ t1, (execFlush q tag s) = .next t1 ∧ Keeps fm r0 t1 := by
  refine ⟨_, rfl, ?_⟩
  try lift_lets -underBinder
  with_reducible repeat' first | assumption | exact fpart (by decide +kernel) hfm | exact fle (by decide +kernel) hfm | exact fok (by decide +kernel) hfm | exact fall (by decide +kernel) hfm | exact fokIx (by decide +kernel) hfm | exact fokAll (by decide +kernel) hfm | refine Mask.ok_ite ?_ ?_ | refine faultsOf_ok ?_ ?_ | refine fun _ _ (_ : Keeps fm r0 _) => ?_ | (intro a; refine (fun ha : Keeps fm r0 a => ?_) ?_; clear_value a; rotate_left; dsimp only [a]; rotate_right) | (intro a; clear_value a) | lift_lets -underBinder | apply modCmd_keeps | apply forceWhere_keeps | apply Keeps.forRange | split

theorem execFlushCompletion_keeps {fm : Nat} {r0 : State}  {q : Nat} {tag : Nat} {s : State} (hfm : Mask.le 0xc0 fm = true) (h0 : Keeps fm r0 s)  : ∃ t1, (execFlushCompletion q tag s) = .next t1 ∧ Keeps fm r0 t1 := by
  refine ⟨_, rfl, ?_⟩
  try lift_lets -underBinder
  with_reducible repeat' first | assumption | exact fpart (by decide +kernel) hfm | exact fle (by decide +kernel) hfm | exact fok (by decide +kernel) hfm | exact fall (by decide +kernel) hfm | exact fokIx (by decide +kernel) hfm | exact fokAll (by decide +kernel) hfm | refine Mask.ok_ite ?_ ?_ | refine faultsOf_ok ?_ ?_ | (intro a; clear_value a) | lift_lets -underBinder | apply Keeps.ite | apply finish_keeps | split

theorem tryDealloc_keeps {fm : Nat} {r0 : State}  {s : State} {q : Nat} {tag : Nat} (hfm : Mask.le 0x100000000000000000000000000000000000000000000000000000000000000000000000000000000000000000000000000000002020 fm = true) (h0 : Keeps fm r0 s)  : Keeps fm r0 (tryDealloc s q tag) := by
  unfold tryDealloc
  with_reducible repeat' first | assumption | exact fpart (by decide +kernel) hfm | exact fle (by decide +kernel) hfm | exact fok (by decide +kernel) hfm | exact fall (by decide +kernel) hfm | exact fokIx (by decide +kernel) hfm | exact fokAll (by decide +kernel) hfm | refine Mask.ok_ite ?_ ?_ | refine faultsOf_ok ?_ ?_ | apply Keeps.ite | apply logRec_keeps | split

theorem execDeallocate_keeps {fm : Nat} {r0 : State}  {q : Nat} {tag : Nat} {s : State} (hfm : Mask.le 0x100000000000000000000000000000000000000000000000000000000000000000000000000000000000000000000000000000002060 fm = true) (h0 : Keeps fm r0 s)  : ∃ t1, (execDeallocate q tag s) = .next t1 ∧ Keeps fm r0 t1 := by
  refine ⟨_, rfl, ?_⟩
  with_reducible repeat' first | assumption | exact fpart (by decide +kernel) hfm | exact fle (by decide +kernel) hfm | exact fok (by decide +kernel) hfm | exact fall (by decide +kernel) hfm | exact fokIx (by decide +kernel) hfm | exact fokAll (by decide +kernel) hfm | refine Mask.ok_ite ?_ ?_ | refine faultsOf_ok ?_ ?_ | apply tryDealloc_keeps | apply modCmd_keeps | split

theorem tryDeallocs_keeps {fm : Nat} {r0 : State}  {s : State} (hfm : Mask.le 0x100000000000000000000000000000000000000000000000000000000000000000000000000000000000000000000000000000002020 fm = true) (h0 : Keeps fm r0 s)  : Keeps fm r0 (tryDeallocs s) := by
  unfold tryDeallocs
  with_reducible repeat' first | assumption | exact fpart (by decide +kernel) hfm | exact fle (by decide +kernel) hfm | exact fok (by decide +kernel) hfm | exact fall (by decide +kernel) hfm | exact fokIx (by decide +kernel) hfm | exact fokAll (by decide +kernel) hfm | refine Mask.ok_ite ?_ ?_ | refine faultsOf_ok ?_ ?_ | refine fun _ _ (_ : Keeps fm r0 _) => ?_ | apply tryDealloc_keeps | apply Keeps.forEach

theorem unmapGrain_keeps {fm : Nat} {r0 : State}  {s : State} {p : Nat} {v : Nat} {key : Nat} {wseq : Nat} (hfm : Mask.le 0x1c00200000000000200000000000000000100000000000000000000000000000000000000800000000000000000000000000000000000000000000000000000000000000033420 fm = true) (h0 : Keeps fm r0 s)  : Keeps fm r0 (unmapGrain s p v key wseq) := by
  unfold unmapGrain
  try lift_lets -underBinder
  with_reducible repeat' first | assumption | exact fpart (by decide +kernel) hfm | exact fle (by decide +kernel) hfm | exact fok (by decide +kernel) hfm | exact fall (by decide +kernel) hfm | exact fokIx (by decide +kernel) hfm | exact fokAll (by decide +kernel) hfm | refine Mask.ok_ite ?_ ?_ | refine faultsOf_ok ?_ ?_ | refine fun _ _ (_ : Keeps fm r0 _) => ?_ | (intro a; clear_value a) | lift_lets -underBinder | apply Keeps.ite | apply staleSector_keeps | apply dropVer_keeps | apply dirtyLeaf_keeps | apply healLost_keeps | apply setEntry_keeps | apply Keeps.forRange | split

theorem applyDealloc_keeps {fm : Nat} {r0 : State}  {s : State} {p : Nat} {v : Nat} {lba : Nat} {n : Nat} {wseq : Nat} (hfm : Mask.le 0x1c00200000000000200000000000000000100000000000000000000000000000000000000800000000000000000000000000000000000000000000000000000000000000033420 fm = true) (h0 : Keeps fm r0 s)  : Keeps fm r0 (applyDealloc s p v lba n wseq) := by
  unfold applyDealloc
  with_reducible repeat' first | assumption | exact fpart (by decide +kernel) hfm | exact fle (by decide +kernel) hfm | exact fok (by decide +kernel) hfm | exact fall (by decide +kernel) hfm | exact fokIx (by decide +kernel) hfm | exact fokAll (by decide +kernel) hfm | refine Mask.ok_ite ?_ ?_ | refine faultsOf_ok ?_ ?_ | refine fun _ _ (_ : Keeps fm r0 _) => ?_ | apply unmapGrain_keeps | apply Keeps.forEach

/-! ## Relocate -/

theorem loseGrain_keeps {fm : Nat} {r0 : State}  {s : State} {p : Nat} {v : Nat} {key : Nat} (hfm : Mask.le 0x1c00200000000000000000000000000000100000000000000000000000000000000000000800000000000000000000000000000000000000000000000000000000000000032420 fm = true) (h0 : Keeps fm r0 s)  : Keeps fm r0 (loseGrain s p v key) := by
  unfold loseGrain
  try lift_lets -underBinder
  with_reducible repeat' first | assumption | exact fpart (by decide +kernel) hfm | exact fle (by decide +kernel) hfm | exact fok (by decide +kernel) hfm | exact fall (by decide +kernel) hfm | exact fokIx (by decide +kernel) hfm | exact fokAll (by decide +kernel) hfm | refine Mask.ok_ite ?_ ?_ | refine faultsOf_ok ?_ ?_ | refine fun _ _ (_ : Keeps fm r0 _) => ?_ | (intro a; clear_value a) | lift_lets -underBinder | apply staleSector_keeps | apply dropVer_keeps | apply dirtyLeaf_keeps | apply logRec_keeps | apply setEntry_keeps | apply Keeps.forRange

theorem loseStripe_keeps {fm : Nat} {r0 : State}  {s : State} {p : Nat} {v : Nat} {lba : Nat} (hfm : Mask.le 0x30080000000000000000040000000000000000000000000000000000000000000000000000000000017c000000000000000000000000000000000000000000000000000000000801120 fm = true) (h0 : Keeps fm r0 s)  : Keeps fm r0 (loseStripe s p v lba) := by
  unfold loseStripe
  with_reducible repeat' first | assumption | exact fpart (by decide +kernel) hfm | exact fle (by decide +kernel) hfm | exact fok (by decide +kernel) hfm | exact fall (by decide +kernel) hfm | exact fokIx (by decide +kernel) hfm | exact fokAll (by decide +kernel) hfm | refine Mask.ok_ite ?_ ?_ | refine faultsOf_ok ?_ ?_ | apply Keeps.ite | apply raiseOpen_keeps | apply bump_keeps | apply modPool_keeps | split

theorem loseSector_keeps {fm : Nat} {r0 : State}  {s : State} {p : Nat} {v : Nat} {lba : Nat} {reason : Nat} (hfm : Mask.le 0x300801c0020000000000160000000000000000010000000000000000000000000000000000000080017c000000000000000000000000000000000000000000000000000000000833520 fm = true) (h0 : Keeps fm r0 s)  : Keeps fm r0 (loseSector s p v lba reason) := by
  unfold loseSector
  try lift_lets -underBinder
  with_reducible repeat' first | assumption | exact fpart (by decide +kernel) hfm | exact fle (by decide +kernel) hfm | exact fok (by decide +kernel) hfm | exact fall (by decide +kernel) hfm | exact fokIx (by decide +kernel) hfm | exact fokAll (by decide +kernel) hfm | refine Mask.ok_ite ?_ ?_ | refine faultsOf_ok ?_ ?_ | (intro a; refine (fun ha : Keeps fm r0 a => ?_) ?_; clear_value a; rotate_left; dsimp only [a]; rotate_right) | (intro a; clear_value a) | lift_lets -underBinder | apply Keeps.ite | apply addLost_keeps | apply loseStripe_keeps | apply loseGrain_keeps | apply setVer_keeps | apply logRec_keeps | split

theorem takeWseq_keeps {fm : Nat} {r0 : State}  {s : State} {p : Nat} {n : Nat} (hfm : Mask.le 0x1000000000000000000000000000000000000000000000000000000000000000000000000000000000000000000000000000000020a0 fm = true) (h0 : Keeps fm r0 s)  : Keeps fm r0 (takeWseq s p n) := by
  unfold takeWseq
  with_reducible repeat' first | assumption | exact fpart (by decide +kernel) hfm | exact fle (by decide +kernel) hfm | exact fok (by decide +kernel) hfm | exact fall (by decide +kernel) hfm | exact fokIx (by decide +kernel) hfm | exact fokAll (by decide +kernel) hfm | refine Mask.ok_ite ?_ ?_ | refine faultsOf_ok ?_ ?_ | apply reserveSeqs_keeps | fail_if_no_progress (apply Keeps.upd <;> try first | exact Or.inr (fpart (by decide +kernel) hfm) | exact Or.inl rfl)

theorem placeCopies_keeps {fm : Nat} {r0 : State}  {s : State} {p : Nat} {cls : Nat} {l : List Pos} (hfm : Mask.le 0x3008000000000000001f000000000000000000010000000000000000000000000000001400860000017c190000000000000000000000000080000000000000000000020000040867920 fm = true) (h0 : Keeps fm r0 s)  : Keeps fm r0 (placeCopies s p cls l) := by
  unfold placeCopies
  try lift_lets -underBinder
  with_reducible repeat' first | assumption | exact fpart (by decide +kernel) hfm | exact fle (by decide +kernel) hfm | exact fok (by decide +kernel) hfm | exact fall (by decide +kernel) hfm | exact fokIx (by decide +kernel) hfm | exact fokAll (by decide +kernel) hfm | refine Mask.ok_ite ?_ ?_ | refine faultsOf_ok ?_ ?_ | refine fun _ (_ : Keeps fm r0 _) => ?_ | (intro a; refine (fun hga : ∀ t, Keeps fm r0 t → Keeps fm r0 (a t) => ?_) ?_; clear_value a; rotate_left; dsimp only [a]; rotate_right) | (intro a; clear_value a) | apply hga | lift_lets -underBinder | apply Keeps.ite | apply modPool_keeps | apply laneWaits_keeps | apply placeGroup_keeps | apply issueAll_keeps | refine KeepsO.get (by assumption) ?_ | split

theorem rekey_keeps {fm : Nat} {r0 : State}  {s : State} {p : Nat} {d : Bytes} {m : Meta} (hfm : Mask.le 0x38080000000000000000000000000000000000000000000000000000000000000000000000000000017c000000000000000000000000000000400000000000000000000000000808120 fm = true) (h0 : Keeps fm r0 s)  : Keeps fm r0 (rekey s p d m).1 := by
  unfold rekey
  try lift_lets -underBinder
  with_reducible repeat' first | assumption | exact fpart (by decide +kernel) hfm | exact fle (by decide +kernel) hfm | exact fok (by decide +kernel) hfm | exact fall (by decide +kernel) hfm | exact fokIx (by decide +kernel) hfm | exact fokAll (by decide +kernel) hfm | refine Mask.ok_ite ?_ ?_ | refine faultsOf_ok ?_ ?_ | (intro a; clear_value a) | lift_lets -underBinder | apply Keeps.ite_fst | apply bump_keeps | apply chargeKey_keeps | split

theorem copyEnded_keeps {fm : Nat} {r0 : State}  {s : State} {p : Nat} {slot : Nat} (hfm : Mask.le 0x1000 fm = true) (h0 : Keeps fm r0 s)  : Keeps fm r0 (copyEnded s p slot) := by
  unfold copyEnded
  try lift_lets -underBinder
  with_reducible repeat' first | assumption | exact fpart (by decide +kernel) hfm | exact fle (by decide +kernel) hfm | exact fok (by decide +kernel) hfm | exact fall (by decide +kernel) hfm | exact fokIx (by decide +kernel) hfm | exact fokAll (by decide +kernel) hfm | refine Mask.ok_ite ?_ ?_ | refine faultsOf_ok ?_ ?_ | (intro a; clear_value a) | lift_lets -underBinder | apply Keeps.ite | apply modSeg_keeps | split

theorem dropCopy_keeps {fm : Nat} {r0 : State}  {s : State} {p : Nat} {key : Nat} (hfm : Mask.le 0x1000 fm = true) (h0 : Keeps fm r0 s)  : Keeps fm r0 (dropCopy s p key) := by
  unfold dropCopy
  with_reducible repeat' first | assumption | exact fpart (by decide +kernel) hfm | exact fle (by decide +kernel) hfm | exact fok (by decide +kernel) hfm | exact fall (by decide +kernel) hfm | exact fokIx (by decide +kernel) hfm | exact fokAll (by decide +kernel) hfm | refine Mask.ok_ite ?_ ?_ | refine faultsOf_ok ?_ ?_ | apply copyEnded_keeps | apply modPool_keeps | split

theorem placeGrain_keeps {fm : Nat} {r0 : State}  {s : State} {p : Nat} {x : GrainCopy} (hfm : Mask.le 0x3808000000000000001f000000000000000000010000000000000000000000000000001400860000017c19000000000000000000000000008040000000000000000002000004086f920 fm = true) (h0 : Keeps fm r0 s)  : Keeps fm r0 (placeGrain s p x) := by
  unfold placeGrain
  try lift_lets -underBinder
  with_reducible repeat' first | assumption | exact fpart (by decide +kernel) hfm | exact fle (by decide +kernel) hfm | exact fok (by decide +kernel) hfm | exact fall (by decide +kernel) hfm | exact fokIx (by decide +kernel) hfm | exact fokAll (by decide +kernel) hfm | refine Mask.ok_ite ?_ ?_ | refine faultsOf_ok ?_ ?_ | refine fun _ _ (_ : Keeps fm r0 _) => ?_ | (intro a; refine (fun ha : Keeps fm r0 a => ?_) ?_; clear_value a; rotate_left; dsimp only [a]; rotate_right) | (intro a; refine (fun ha : Keeps fm r0 a.1 => ?_) ?_; clear_value a; rotate_left; dsimp only [a]; rotate_right) | apply modPool_keeps | apply rekey_keeps | apply placeCopies_keeps | apply Keeps.foldl_fst | split

theorem addCopy_keeps {fm : Nat} {r0 : State}  {s : State} {p : Nat} {key : Nat} {j : Nat} {d : Bytes} {m : Meta} (hfm : Mask.le 0x3808000000000000001f000000000000000000010000000000000000000000000000001400860000017c19000000000000000000000000008040000000000000000002000004086f920 fm = true) (h0 : Keeps fm r0 s)  : Keeps fm r0 (addCopy s p key j d m) := by
  unfold addCopy
  try lift_lets -underBinder
  with_reducible repeat' first | assumption | exact fpart (by decide +kernel) hfm | exact fle (by decide +kernel) hfm | exact fok (by decide +kernel) hfm | exact fall (by decide +kernel) hfm | exact fokIx (by decide +kernel) hfm | exact fokAll (by decide +kernel) hfm | refine Mask.ok_ite ?_ ?_ | refine faultsOf_ok ?_ ?_ | lift_lets -underBinder | apply Keeps.ite | apply placeGrain_keeps | apply modPool_keeps | split

theorem missCopy_keeps {fm : Nat} {r0 : State}  {s : State} {p : Nat} {v : Nat} {lba : Nat} (hfm : Mask.le 0x3808000000000000001f000000000000000000010000000000000000000000000000001400860000017c19000000000000000000000000008040000000000000000002000004086f920 fm = true) (h0 : Keeps fm r0 s)  : Keeps fm r0 (missCopy s p v lba) := by
  unfold missCopy
  try lift_lets -underBinder
  with_reducible repeat' first | assumption | exact fpart (by decide +kernel) hfm | exact fle (by decide +kernel) hfm | exact fok (by decide +kernel) hfm | exact fall (by decide +kernel) hfm | exact fokIx (by decide +kernel) hfm | exact fokAll (by decide +kernel) hfm | refine Mask.ok_ite ?_ ?_ | refine faultsOf_ok ?_ ?_ | (intro a; clear_value a) | lift_lets -underBinder | apply Keeps.ite | apply dropCopy_keeps | apply addCopy_keeps | split

theorem fetchCopy_keeps {fm : Nat} {r0 : State}  {u : State} {p : Nat} {key : Nat} {w : Want} {v : Nat} {f : Nat} {j : Nat} (hfm : Mask.le 0x380801c002000000001f160000000000000000010000000000000000000000000000001400860080017c19000000000000000000000000008040000000000000000002000004087fd20 fm = true) (h0 : Keeps fm r0 u)  : Keeps fm r0 (fetchCopy u p key w v f j) := by
  unfold fetchCopy
  with_reducible repeat' first | assumption | exact fpart (by decide +kernel) hfm | exact fle (by decide +kernel) hfm | exact fok (by decide +kernel) hfm | exact fall (by decide +kernel) hfm | exact fokIx (by decide +kernel) hfm | exact fokAll (by decide +kernel) hfm | refine Mask.ok_ite ?_ ?_ | refine faultsOf_ok ?_ ?_ | apply Keeps.ite | apply missCopy_keeps | apply fetchAt_keeps | apply loseSector_keeps | apply dropCopy_keeps | split | refine KeepsF.get (by assumption) ?_

theorem startCopy_keeps {fm : Nat} {r0 : State}  {s : State} {p : Nat} {key : Nat} {cls : Nat} {w : Want} {have_ : Option (Nat × Bytes × Meta)} (hfm : Mask.le 0x380801c002000000001f160000000000000000010000000000000000000000000000001400860080017c19000000000000000000000000008040000000000000000002000004087fd20 fm = true) (h0 : Keeps fm r0 s)  : Keeps fm r0 (startCopy s p key cls w have_) := by
  unfold startCopy
  try lift_lets -underBinder
  with_reducible repeat' first | assumption | exact fpart (by decide +kernel) hfm | exact fle (by decide +kernel) hfm | exact fok (by decide +kernel) hfm | exact fall (by decide +kernel) hfm | exact fokIx (by decide +kernel) hfm | exact fokAll (by decide +kernel) hfm | refine Mask.ok_ite ?_ ?_ | refine faultsOf_ok ?_ ?_ | refine fun _ _ (_ : Keeps fm r0 _) => ?_ | (intro a; refine (fun ha : Keeps fm r0 a => ?_) ?_; clear_value a; rotate_left; dsimp only [a]; rotate_right) | (intro a; clear_value a) | lift_lets -underBinder | apply Keeps.ite | apply modPool_keeps | apply addCopy_keeps | apply fetchCopy_keeps | apply Keeps.forRange | split

theorem repairSector_keeps {fm : Nat} {r0 : State}  {s : State} {p : Nat} {v : Nat} {lba : Nat} {slot : Nat} {col : Nat} {d : Bytes} {m : Meta} (hfm : Mask.le 0x380801c002000000001f160000000000080000010000000000000000000000000000001400860080017c19000000000000000000000000008040000000000000000002000004087fd20 fm = true) (h0 : Keeps fm r0 s)  : Keeps fm r0 (repairSector s p v lba slot col d m) := by
  unfold repairSector
  try lift_lets -underBinder
  with_reducible repeat' first | assumption | exact fpart (by decide +kernel) hfm | exact fle (by decide +kernel) hfm | exact fok (by decide +kernel) hfm | exact fall (by decide +kernel) hfm | exact fokIx (by decide +kernel) hfm | exact fokAll (by decide +kernel) hfm | refine Mask.ok_ite ?_ ?_ | refine faultsOf_ok ?_ ?_ | (intro a; refine (fun ha : Keeps fm r0 a => ?_) ?_; clear_value a; rotate_left; dsimp only [a]; rotate_right) | (intro a; clear_value a) | lift_lets -underBinder | apply raise_keeps | apply bump_keeps | apply startCopy_keeps

theorem loseAndMove_keeps {fm : Nat} {r0 : State}  {s : State} {p : Nat} {v : Nat} {lba : Nat} {reason : Nat} (hfm : Mask.le 0x380801c002000000001f160000000000000000010000000000000000000000000000001400860080017c19000000000000000000000000008040000000000000000002000004087fd20 fm = true) (h0 : Keeps fm r0 s)  : Keeps fm r0 (loseAndMove s p v lba reason) := by
  unfold loseAndMove
  try lift_lets -underBinder
  with_reducible repeat' first | assumption | exact fpart (by decide +kernel) hfm | exact fle (by decide +kernel) hfm | exact fok (by decide +kernel) hfm | exact fall (by decide +kernel) hfm | exact fokIx (by decide +kernel) hfm | exact fokAll (by decide +kernel) hfm | refine Mask.ok_ite ?_ ?_ | refine faultsOf_ok ?_ ?_ | (intro a; refine (fun ha : Keeps fm r0 a => ?_) ?_; clear_value a; rotate_left; dsimp only [a]; rotate_right) | lift_lets -underBinder | apply Keeps.ite | apply loseSector_keeps | apply startCopy_keeps | split

theorem writePage_keeps {fm : Nat} {r0 : State}  {s : State} {p : Nat} {addr : Nat} {d : Bytes} (hfm : Mask.le 0x3008000000000000001f000000000000000000010000000000000000000000000000001400860000017c1900000000000000000000000000800000000000000000000200000408679a0 fm = true) (h0 : Keeps fm r0 s)  : Keeps fm r0 (writePage s p addr d) := by
  unfold writePage
  try lift_lets -underBinder
  with_reducible repeat' first | assumption | exact fpart (by decide +kernel) hfm | exact fle (by decide +kernel) hfm | exact fok (by decide +kernel) hfm | exact fall (by decide +kernel) hfm | exact fokIx (by decide +kernel) hfm | exact fokAll (by decide +kernel) hfm | refine Mask.ok_ite ?_ ?_ | refine faultsOf_ok ?_ ?_ | (intro a; clear_value a) | lift_lets -underBinder | apply placeCopies_keeps | apply takeWseq_keeps

/-! ## ReadPath -/

theorem setRd_keeps {fm : Nat} {r0 : State}  {s : State} {q : Nat} {tag : Nat} {i : Nat} {r : RdSec} (hfm : Mask.le 0x40 fm = true) (h0 : Keeps fm r0 s)  : Keeps fm r0 (setRd s q tag i r) := by
  unfold setRd
  with_reducible repeat' first | assumption | exact fpart (by decide +kernel) hfm | exact fle (by decide +kernel) hfm | exact fok (by decide +kernel) hfm | exact fall (by decide +kernel) hfm | exact fokIx (by decide +kernel) hfm | exact fokAll (by decide +kernel) hfm | refine Mask.ok_ite ?_ ?_ | refine faultsOf_ok ?_ ?_ | apply modCmd_keeps

theorem tryFinishRead_keeps {fm : Nat} {r0 : State}  {s : State} {q : Nat} {tag : Nat} (hfm : Mask.le 0xc0 fm = true) (h0 : Keeps fm r0 s)  : Keeps fm r0 (tryFinishRead s q tag) := by
  unfold tryFinishRead
  try lift_lets -underBinder
  with_reducible repeat' first | assumption | exact fpart (by decide +kernel) hfm | exact fle (by decide +kernel) hfm | exact fok (by decide +kernel) hfm | exact fall (by decide +kernel) hfm | exact fokIx (by decide +kernel) hfm | exact fokAll (by decide +kernel) hfm | refine Mask.ok_ite ?_ ?_ | refine faultsOf_ok ?_ ?_ | (intro a; clear_value a) | lift_lets -underBinder | apply Keeps.ite | apply finishWith_keeps | split

theorem failSector_keeps {fm : Nat} {r0 : State}  {s : State} {q : Nat} {tag : Nat} {i : Nat} {st : Nat} (hfm : Mask.le 0x40 fm = true) (h0 : Keeps fm r0 s)  : Keeps fm r0 (failSector s q tag i st) := by
  unfold failSector
  with_reducible repeat' first | assumption | exact fpart (by decide +kernel) hfm | exact fle (by decide +kernel) hfm | exact fok (by decide +kernel) hfm | exact fall (by decide +kernel) hfm | exact fokIx (by decide +kernel) hfm | exact fokAll (by decide +kernel) hfm | refine Mask.ok_ite ?_ ?_ | refine faultsOf_ok ?_ ?_ | apply setRd_keeps

theorem toHost_keeps {fm : Nat} {r0 : State}  {s : State} {q : Nat} {c : Cmd} {i : Nat} {b : Bytes} (hfm : Mask.le 0x800020 fm = true) (h0 : Keeps fm r0 s)  : Keeps fm r0 (toHost s q c i b) := by
  unfold toHost
  with_reducible repeat' first | assumption | exact fpart (by decide +kernel) hfm | exact fle (by decide +kernel) hfm | exact fok (by decide +kernel) hfm | exact fall (by decide +kernel) hfm | exact fokIx (by decide +kernel) hfm | exact fokAll (by decide +kernel) hfm | refine Mask.ok_ite ?_ ?_ | refine faultsOf_ok ?_ ?_ | apply Keeps.ite | apply countDev_keeps | apply hostScatter_keeps

theorem sendSector_keeps {fm : Nat} {r0 : State}  {s : State} {q : Nat} {c : Cmd} {i : Nat} {x : Source} {b : Bytes} (hfm : Mask.le 0x800060 fm = true) (h0 : Keeps fm r0 s)  : Keeps fm r0 (sendSector s q c i x b) := by
  unfold sendSector
  with_reducible repeat' first | assumption | exact fpart (by decide +kernel) hfm | exact fle (by decide +kernel) hfm | exact fok (by decide +kernel) hfm | exact fall (by decide +kernel) hfm | exact fokIx (by decide +kernel) hfm | exact fokAll (by decide +kernel) hfm | refine Mask.ok_ite ?_ ?_ | refine faultsOf_ok ?_ ?_ | apply Keeps.ite | apply setRd_keeps | apply toHost_keeps

theorem deliver_keeps {fm : Nat} {r0 : State}  {s : State} {q : Nat} {c : Cmd} {i : Nat} {x : Source} {m : Meta} {stored : Bytes} {flt : SecFault} (hfm : Mask.le 0x80000000000038080000000000000000000003600000010000000000000000000000000000000000000000000000017c000000000000000000000000000000000010000000000000000000000800160 fm = true) (h0 : Keeps fm r0 s)  : Keeps fm r0 (deliver s q c i x m stored flt) := by
  unfold deliver
  try lift_lets -underBinder
  with_reducible repeat' first | assumption | exact fpart (by decide +kernel) hfm | exact fle (by decide +kernel) hfm | exact fok (by decide +kernel) hfm | exact fall (by decide +kernel) hfm | exact fokIx (by decide +kernel) hfm | exact fokAll (by decide +kernel) hfm | refine Mask.ok_ite ?_ ?_ | refine faultsOf_ok ?_ ?_ | (intro a; refine (fun ha : Keeps fm r0 a => ?_) ?_; clear_value a; rotate_left; dsimp only [a]; rotate_right) | lift_lets -underBinder | apply Keeps.ite | apply failSector_keeps | apply pipeWork_keeps | apply pipeFault_keeps | apply toHost_keeps | apply raise_keeps | apply bump_keeps | apply sendSector_keeps | split

theorem serveSlot_keeps {fm : Nat} {r0 : State}  {s : State} {q : Nat} {c : Cmd} {i : Nat} {n : Nat} {x : Slot} {flt : SecFault} (hfm : Mask.le 0x80000000000038080000000000000000000003600000010001000100000000000000000000000000000000000000017c000000000000000000000000000000000010000000000000000000000801960 fm = true) (h0 : Keeps fm r0 s)  : Keeps fm r0 (serveSlot s q c i n x flt) := by
  unfold serveSlot
  try lift_lets -underBinder
  with_reducible repeat' first | assumption | exact fpart (by decide +kernel) hfm | exact fle (by decide +kernel) hfm | exact fok (by decide +kernel) hfm | exact fall (by decide +kernel) hfm | exact fokIx (by decide +kernel) hfm | exact fokAll (by decide +kernel) hfm | refine Mask.ok_ite ?_ ?_ | refine faultsOf_ok ?_ ?_ | (intro a; refine (fun ha : Keeps fm r0 a => ?_) ?_; clear_value a; rotate_left; dsimp only [a]; rotate_right) | (intro a; clear_value a) | lift_lets -underBinder | apply Keeps.ite | apply deliver_keeps | apply poisonSlot_keeps | apply bump_keeps | apply toHost_keeps | apply failSector_keeps | split

theorem fetchSector_keeps {fm : Nat} {r0 : State}  {s : State} {q : Nat} {c : Cmd} {i : Nat} {e : Entry} (hfm : Mask.le 0x380801c002000000001f160000000000000000010000000000000000000000000000001400860080017c19000000000000000000000000008040000000000000000002000004087fd60 fm = true) (h0 : Keeps fm r0 s)  : Keeps fm r0 (fetchSector s q c i e) := by
  unfold fetchSector
  try lift_lets -underBinder
  with_reducible repeat' first | assumption | exact fpart (by decide +kernel) hfm | exact fle (by decide +kernel) hfm | exact fok (by decide +kernel) hfm | exact fall (by decide +kernel) hfm | exact fokIx (by decide +kernel) hfm | exact fokAll (by decide +kernel) hfm | refine Mask.ok_ite ?_ ?_ | refine faultsOf_ok ?_ ?_ | (intro a; clear_value a) | lift_lets -underBinder | apply Keeps.ite | apply setRd_keeps | apply failSector_keeps | apply fetchAt_keeps | apply loseAndMove_keeps | refine KeepsF.get (by assumption) ?_ | split

theorem resolveBelow_keeps {fm : Nat} {r0 : State}  {s0 : State} {q : Nat} {c : Cmd} {i : Nat} {flt : SecFault} (hfm : Mask.le 0x800000000000380801c01a000000001f160003600000010001010100000000000000000000000003001400860180017c19000000000000000000000000008040001000000000000062000004087fd60 fm = true) (h0 : Keeps fm r0 s0)  : Keeps fm r0 (resolveBelow s0 q c i flt) := by
  unfold resolveBelow
  try lift_lets -underBinder
  with_reducible repeat' first | assumption | exact fpart (by decide +kernel) hfm | exact fle (by decide +kernel) hfm | exact fok (by decide +kernel) hfm | exact fall (by decide +kernel) hfm | exact fokIx (by decide +kernel) hfm | exact fokAll (by decide +kernel) hfm | refine Mask.ok_ite ?_ ?_ | refine faultsOf_ok ?_ ?_ | (intro a; refine (fun ha : Keeps fm r0 a => ?_) ?_; clear_value a; rotate_left; dsimp only [a]; rotate_right) | (intro a; clear_value a) | lift_lets -underBinder | apply Keeps.ite | apply countDev_keeps | apply serveSlot_keeps | apply sendSector_keeps | apply setRd_keeps | apply missLeaf_keeps | apply touchLeaf_keeps | apply failSector_keeps | apply fetchSector_keeps | apply lookRc_keeps | apply bump_keeps | apply startFill_keeps | apply deliver_keeps | refine KeepsP.get (by assumption) ?_ | split | fail_if_no_progress (apply Keeps.upd <;> try first | exact Or.inr (fpart (by decide +kernel) hfm) | exact Or.inl rfl)

theorem resolveSector_keeps {fm : Nat} {r0 : State}  {s0 : State} {q : Nat} {c : Cmd} {i : Nat} {flt : SecFault} (hfm : Mask.le 0x800000000000380807c01a000000001f160003600000010001010100000000000000000000000027c01400860180017c19000000000000000000000000008040001000000000000062000004087fd60 fm = true) (h0 : Keeps fm r0 s0)  : Keeps fm r0 (resolveSector s0 q c i flt) := by
  unfold resolveSector
  try lift_lets -underBinder
  with_reducible repeat' first | assumption | exact fpart (by decide +kernel) hfm | exact fle (by decide +kernel) hfm | exact fok (by decide +kernel) hfm | exact fall (by decide +kernel) hfm | exact fokIx (by decide +kernel) hfm | exact fokAll (by decide +kernel) hfm | refine Mask.ok_ite ?_ ?_ | refine faultsOf_ok ?_ ?_ | (intro a; refine (fun ha : Keeps fm r0 a => ?_) ?_; clear_value a; rotate_left; dsimp only [a]; rotate_right) | (intro a; clear_value a) | lift_lets -underBinder | apply Keeps.ite | apply setRd_keeps | apply bump_keeps | apply resolveBelow_keeps | apply noteFrames_keeps | apply setFrame_keeps | apply deliver_keeps | apply hitFrame_keeps | apply countDev_keeps | split

theorem resolveVerify_keeps {fm : Nat} {r0 : State}  {s : State} {q : Nat} {c : Cmd} {i : Nat} (hfm : Mask.le 0x380801c002000000001f160000000000000000010000000000000000000000000000001400860180017c19000000000000000000000000008040000000000000000062000004087fd60 fm = true) (h0 : Keeps fm r0 s)  : Keeps fm r0 (resolveVerify s q c i) := by
  unfold resolveVerify
  try lift_lets -underBinder
  with_reducible repeat' first | assumption | exact fpart (by decide +kernel) hfm | exact fle (by decide +kernel) hfm | exact fok (by decide +kernel) hfm | exact fall (by decide +kernel) hfm | exact fokIx (by decide +kernel) hfm | exact fokAll (by decide +kernel) hfm | refine Mask.ok_ite ?_ ?_ | refine faultsOf_ok ?_ ?_ | (intro a; clear_value a) | lift_lets -underBinder | apply Keeps.ite | apply setRd_keeps | apply modCmd_keeps | apply missLeaf_keeps | apply fetchAt_keeps | apply failSector_keeps | apply loseAndMove_keeps | split | refine KeepsF.get (by assumption) ?_

theorem resolveOne_keeps {fm : Nat} {r0 : State}  {s : State} {q : Nat} {c : Cmd} {i : Nat} {flt : SecFault} (hfm : Mask.le 0x800000000000380807c01a000000001f160003600000010001010100000000000000000000000027c01400860180017c19000000000000000000000000008040001000000000000062000004087fd60 fm = true) (h0 : Keeps fm r0 s)  : Keeps fm r0 (resolveOne s q c i flt) := by
  unfold resolveOne
  with_reducible repeat' first | assumption | exact fpart (by decide +kernel) hfm | exact fle (by decide +kernel) hfm | exact fok (by decide +kernel) hfm | exact fall (by decide +kernel) hfm | exact fokIx (by decide +kernel) hfm | exact fokAll (by decide +kernel) hfm | refine Mask.ok_ite ?_ ?_ | refine faultsOf_ok ?_ ?_ | apply Keeps.ite | apply resolveSector_keeps | apply resolveVerify_keeps

theorem resolveWhere_keeps {fm : Nat} {r0 : State}  {s : State} {q : Nat} {tag : Nat} {f : RdSec → Nat → Bool} (hfm : Mask.le 0x800000000000380807c01a000000001f160003600000010001010100000000000000000000000027c01400860180017c19000000000000000000000000008040001000000000000062000004087fde0 fm = true) (h0 : Keeps fm r0 s)  : Keeps fm r0 (resolveWhere s q tag f) := by
  unfold resolveWhere
  with_reducible repeat' first | assumption | exact fpart (by decide +kernel) hfm | exact fle (by decide +kernel) hfm | exact fok (by decide +kernel) hfm | exact fall (by decide +kernel) hfm | exact fokIx (by decide +kernel) hfm | exact fokAll (by decide +kernel) hfm | refine Mask.ok_ite ?_ ?_ | refine faultsOf_ok ?_ ?_ | refine fun _ _ (_ : Keeps fm r0 _) => ?_ | apply tryFinishRead_keeps | apply resolveOne_keeps | apply Keeps.forEach | split

theorem noteRun_keeps {fm : Nat} {r0 : State}  {s : State} {q : Nat} {c : Cmd} (hfm : Mask.le 0x10000 fm = true) (h0 : Keeps fm r0 s)  : Keeps fm r0 (noteRun s q c).1 := by
  unfold noteRun
  try lift_lets -underBinder
  with_reducible repeat' first | assumption | exact fpart (by decide +kernel) hfm | exact fle (by decide +kernel) hfm | exact fok (by decide +kernel) hfm | exact fall (by decide +kernel) hfm | exact fokIx (by decide +kernel) hfm | exact fokAll (by decide +kernel) hfm | refine Mask.ok_ite ?_ ?_ | refine faultsOf_ok ?_ ?_ | (intro a; clear_value a) | fail_if_no_progress (apply Keeps.upd <;> try first | exact Or.inr (fpart (by decide +kernel) hfm) | exact Or.inl rfl)

theorem prefetch_keeps {fm : Nat} {r0 : State}  {s : State} {c : Cmd} (hfm : Mask.le 0x1001a0000000000000000000000000000000000000000000000000000000003001400000000000000000000000000000000000000000000000000000000000002000004081c020 fm = true) (h0 : Keeps fm r0 s)  : Keeps fm r0 (prefetch s c) := by
  unfold prefetch
  try lift_lets -underBinder
  with_reducible repeat' first | assumption | exact fpart (by decide +kernel) hfm | exact fle (by decide +kernel) hfm | exact fok (by decide +kernel) hfm | exact fall (by decide +kernel) hfm | exact fokIx (by decide +kernel) hfm | exact fokAll (by decide +kernel) hfm | refine Mask.ok_ite ?_ ?_ | refine faultsOf_ok ?_ ?_ | (intro a; clear_value a) | lift_lets -underBinder | apply Keeps.ite | apply lookRc_keeps | apply startFill_keeps | apply fetchAt_keeps | split | refine KeepsP.get (by assumption) ?_ | refine KeepsF.get (by assumption) ?_

theorem execRead_keeps {fm : Nat} {r0 : State}  {q : Nat} {tag : Nat} {met : ReadMet} {s0 : State} (hfm : Mask.le 0x800000000000380807c01a000000001f160003600000010001010100000000000000000000000027c01400860180017c19000000000000000000000000008040001000000000000062000004087fde0 fm = true) (h0 : Keeps fm r0 s0)  : ∃ t1, (execRead q tag met s0) = .next t1 ∧ Keeps fm r0 t1 := by
  refine ⟨_, rfl, ?_⟩
  try lift_lets -underBinder
  with_reducible repeat' first | assumption | exact fpart (by decide +kernel) hfm | exact fle (by decide +kernel) hfm | exact fok (by decide +kernel) hfm | exact fall (by decide +kernel) hfm | exact fokIx (by decide +kernel) hfm | exact fokAll (by decide +kernel) hfm | refine Mask.ok_ite ?_ ?_ | refine faultsOf_ok ?_ ?_ | refine fun _ _ (_ : Keeps fm r0 _) => ?_ | (intro a; refine (fun ha : Keeps fm r0 a => ?_) ?_; clear_value a; rotate_left; dsimp only [a]; rotate_right) | (intro a; refine (fun ha : Keeps fm r0 a.1 => ?_) ?_; clear_value a; rotate_left; dsimp only [a]; rotate_right) | (intro a; clear_value a) | lift_lets -underBinder | apply Keeps.ite | apply meetPoison_keeps | apply noteRun_keeps | apply modCmd_keeps | apply resolveOne_keeps | apply tryFinishRead_keeps | apply prefetch_keeps | apply Keeps.forEach | apply Keeps.forRange | split

theorem execVerify_keeps {fm : Nat} {r0 : State}  {q : Nat} {tag : Nat} {s : State} (hfm : Mask.le 0x800000000000380807c01a000000001f160003600000010001010100000000000000000000000027c01400860180017c19000000000000000000000000008040001000000000000062000004087fde0 fm = true) (h0 : Keeps fm r0 s)  : ∃ t1, (execVerify q tag s) = .next t1 ∧ Keeps fm r0 t1 := by
  refine ⟨_, rfl, ?_⟩
  try lift_lets -underBinder
  with_reducible repeat' first | assumption | exact fpart (by decide +kernel) hfm | exact fle (by decide +kernel) hfm | exact fok (by decide +kernel) hfm | exact fall (by decide +kernel) hfm | exact fokIx (by decide +kernel) hfm | exact fokAll (by decide +kernel) hfm | refine Mask.ok_ite ?_ ?_ | refine faultsOf_ok ?_ ?_ | refine fun _ _ (_ : Keeps fm r0 _) => ?_ | (intro a; clear_value a) | lift_lets -underBinder | apply tryFinishRead_keeps | apply resolveOne_keeps | apply modCmd_keeps | apply Keeps.forRange | split

theorem execReadOverlapResolve_keeps {fm : Nat} {r0 : State}  {q : Nat} {tag : Nat} {s : State} (hfm : Mask.le 0x800000000000380807c01a000000001f160003600000010001010100000000000000000000000027c01400860180017c19000000000000000000000000008040001000000000000062000004087fde0 fm = true) (h0 : Keeps fm r0 s)  : ∃ t1, (execReadOverlapResolve q tag s) = .next t1 ∧ Keeps fm r0 t1 := by
  refine ⟨_, rfl, ?_⟩
  with_reducible repeat' first | assumption | exact fpart (by decide +kernel) hfm | exact fle (by decide +kernel) hfm | exact fok (by decide +kernel) hfm | exact fall (by decide +kernel) hfm | exact fokIx (by decide +kernel) hfm | exact fokAll (by decide +kernel) hfm | refine Mask.ok_ite ?_ ?_ | refine faultsOf_ok ?_ ?_ | apply resolveWhere_keeps

theorem failRead_keeps {fm : Nat} {r0 : State}  {s : State} {q : Nat} {tag : Nat} {status : Nat} (hfm : Mask.le 0xc0 fm = true) (h0 : Keeps fm r0 s)  : Keeps fm r0 (failRead s q tag status) := by
  unfold failRead
  with_reducible repeat' first | assumption | exact fpart (by decide +kernel) hfm | exact fle (by decide +kernel) hfm | exact fok (by decide +kernel) hfm | exact fall (by decide +kernel) hfm | exact fokIx (by decide +kernel) hfm | exact fokAll (by decide +kernel) hfm | refine Mask.ok_ite ?_ ?_ | refine faultsOf_ok ?_ ?_ | apply finish_keeps | split

theorem gotSector_keeps {fm : Nat} {r0 : State}  {s : State} {w : Want} {p : Nat} {v : Nat} {lba : Nat} {slot : Nat} {zs : Nat} {col : Nat} {m : Meta} {d : Bytes} {decoded : Bool} {flt : SecFault} (hfm : Mask.le 0x800000000000380801c01a000000001f120003600074010000010000000000000000002000000003001400860080017c19000000000000000000000000008040001000000000000002000004087fde0 fm = true) (h0 : Keeps fm r0 s)  : Keeps fm r0 (gotSector s w p v lba slot zs col m d decoded flt) := by
  unfold gotSector
  try lift_lets -underBinder
  with_reducible repeat' first | assumption | exact fpart (by decide +kernel) hfm | exact fle (by decide +kernel) hfm | exact fok (by decide +kernel) hfm | exact fall (by decide +kernel) hfm | exact fokIx (by decide +kernel) hfm | exact fokAll (by decide +kernel) hfm | refine Mask.ok_ite ?_ ?_ | refine faultsOf_ok ?_ ?_ | (intro a; refine (fun ha : Keeps fm r0 a => ?_) ?_; clear_value a; rotate_left; dsimp only [a]; rotate_right) | (intro a; clear_value a) | lift_lets -underBinder | apply Keeps.ite | apply deliver_keeps | apply tryFinishRead_keeps | apply startFill_keeps | apply putRc_keeps | apply setRd_keeps | apply landBad_keeps | apply landPlain_keeps | apply failWrite_keeps | apply addCopy_keeps | apply bump_keeps | apply placeCopies_keeps | apply lockFill_keeps | fail_if_no_progress (apply Keeps.upd <;> try first | exact Or.inr (fpart (by decide +kernel) hfm) | exact Or.inl rfl) | split

theorem lostFetch_keeps {fm : Nat} {r0 : State}  {s : State} {w : Want} {p : Nat} {v : Nat} {lba : Nat} {reason : Nat} (hfm : Mask.le 0x380801c002000000001f160000000070100000010000000000000000000000000000001400860080017c19000000000000000000000000008040000000000000000062000004087fde0 fm = true) (h0 : Keeps fm r0 s)  : Keeps fm r0 (lostFetch s w p v lba reason) := by
  unfold lostFetch
  try lift_lets -underBinder
  with_reducible repeat' first | assumption | exact fpart (by decide +kernel) hfm | exact fle (by decide +kernel) hfm | exact fok (by decide +kernel) hfm | exact fall (by decide +kernel) hfm | exact fokIx (by decide +kernel) hfm | exact fokAll (by decide +kernel) hfm | refine Mask.ok_ite ?_ ?_ | refine faultsOf_ok ?_ ?_ | (intro a; refine (fun ha : Keeps fm r0 a => ?_) ?_; clear_value a; rotate_left; dsimp only [a]; rotate_right) | (intro a; clear_value a) | lift_lets -underBinder | apply Keeps.ite | apply setCond_keeps | apply loseSector_keeps | apply loseAndMove_keeps | apply raise_keeps | apply bump_keeps | apply tryFinishRead_keeps | apply failSector_keeps | apply modCmd_keeps | apply landBad_keeps | apply missCopy_keeps | split

theorem noteRepair_keeps {fm : Nat} {r0 : State}  {s : State} {w : Want} (hfm : Mask.le 0x40 fm = true) (h0 : Keeps fm r0 s)  : Keeps fm r0 (noteRepair s w) := by
  unfold noteRepair
  with_reducible repeat' first | assumption | exact fpart (by decide +kernel) hfm | exact fle (by decide +kernel) hfm | exact fok (by decide +kernel) hfm | exact fall (by decide +kernel) hfm | exact fokIx (by decide +kernel) hfm | exact fokAll (by decide +kernel) hfm | refine Mask.ok_ite ?_ ?_ | refine faultsOf_ok ?_ ?_ | apply modCmd_keeps | split

theorem endJob_keeps {fm : Nat} {r0 : State}  {s : State} {id : Nat} (hfm : Mask.le 0x4000 fm = true) (h0 : Keeps fm r0 s)  : Keeps fm r0 (endJob s id) := by
  unfold endJob
  with_reducible repeat' first | assumption | exact fpart (by decide +kernel) hfm | exact fle (by decide +kernel) hfm | exact fok (by decide +kernel) hfm | exact fall (by decide +kernel) hfm | exact fokIx (by decide +kernel) hfm | exact fokAll (by decide +kernel) hfm | refine Mask.ok_ite ?_ ?_ | refine faultsOf_ok ?_ ?_ | fail_if_no_progress (apply Keeps.upd <;> try first | exact Or.inr (fpart (by decide +kernel) hfm) | exact Or.inl rfl)

theorem decodeInstead_keeps {fm : Nat} {r0 : State}  {s : State} {w : Want} {p : Nat} {v : Nat} {lba : Nat} {slot : Nat} {zs : Nat} {col : Nat} {erased : List Nat} {repair : Bool} (hfm : Mask.le 0x380801c002000000001f160000000070100000010000000000000000000000000000001400860080017c19000000000000000000000000008040000000000000000062000004087fde0 fm = true) (h0 : Keeps fm r0 s)  : Keeps fm r0 (decodeInstead s w p v lba slot zs col erased repair) := by
  unfold decodeInstead
  with_reducible repeat' first | assumption | exact fpart (by decide +kernel) hfm | exact fle (by decide +kernel) hfm | exact fok (by decide +kernel) hfm | exact fall (by decide +kernel) hfm | exact fokIx (by decide +kernel) hfm | exact fokAll (by decide +kernel) hfm | refine Mask.ok_ite ?_ ?_ | refine faultsOf_ok ?_ ?_ | apply startJob_keeps | apply lostFetch_keeps | split | refine KeepsO.get (by assumption) ?_

theorem servedByDecode_keeps {fm : Nat} {r0 : State}  {s : State} {w : Want} {p : Nat} {v : Nat} {lba : Nat} {slot : Nat} {zs : Nat} {col : Nat} {repair : Bool} (hfm : Mask.le 0x380801c002000000001f160000000070100000010000000000000000000000000000001400860080017c19000000000000000000000000008040000000000000000062000004087fde0 fm = true) (h0 : Keeps fm r0 s)  : Keeps fm r0 (servedByDecode s w p v lba slot zs col repair) := by
  unfold servedByDecode
  with_reducible repeat' first | assumption | exact fpart (by decide +kernel) hfm | exact fle (by decide +kernel) hfm | exact fok (by decide +kernel) hfm | exact fall (by decide +kernel) hfm | exact fokIx (by decide +kernel) hfm | exact fokAll (by decide +kernel) hfm | refine Mask.ok_ite ?_ ?_ | refine faultsOf_ok ?_ ?_ | apply decodeInstead_keeps

/-! ## Failure -/

theorem superCopy_keeps {fm : Nat} {r0 : State}  {s : State} {p : Nat} {m : Nat} {i : Nat} {copy : Nat} {data : Bytes} (hfm : Mask.le 0x14000000000000000000000000000000000000000000000000000000000000020000040804020 fm = true) (h0 : Keeps fm r0 s)  : Keeps fm r0 (superCopy s p m i copy data) := by
  unfold superCopy
  with_reducible repeat' first | assumption | exact fpart (by decide +kernel) hfm | exact fle (by decide +kernel) hfm | exact fok (by decide +kernel) hfm | exact fall (by decide +kernel) hfm | exact fokIx (by decide +kernel) hfm | exact fokAll (by decide +kernel) hfm | refine Mask.ok_ite ?_ ?_ | refine faultsOf_ok ?_ ?_ | apply issueTo_keeps

theorem superMember_keeps {fm : Nat} {r0 : State}  {s : State} {p : Nat} {m : Nat} (hfm : Mask.le 0x14000000000000000000000000000000000000000000000000000000000000020000040805020 fm = true) (h0 : Keeps fm r0 s)  : Keeps fm r0 (superMember s p m) := by
  unfold superMember
  try lift_lets -underBinder
  with_reducible repeat' first | assumption | exact fpart (by decide +kernel) hfm | exact fle (by decide +kernel) hfm | exact fok (by decide +kernel) hfm | exact fall (by decide +kernel) hfm | exact fokIx (by decide +kernel) hfm | exact fokAll (by decide +kernel) hfm | refine Mask.ok_ite ?_ ?_ | refine faultsOf_ok ?_ ?_ | (intro a; clear_value a) | lift_lets -underBinder | apply Keeps.ite | apply superCopy_keeps | apply modPool_keeps | apply issueTo_keeps

theorem sendConfig_keeps {fm : Nat} {r0 : State}  {s : State} {p : Nat} (hfm : Mask.le 0x190000000000000000000000000000000000000000000000000000000840020 fm = true) (h0 : Keeps fm r0 s)  : Keeps fm r0 (sendConfig s p) := by
  unfold sendConfig
  try lift_lets -underBinder
  with_reducible repeat' first | assumption | exact fpart (by decide +kernel) hfm | exact fle (by decide +kernel) hfm | exact fok (by decide +kernel) hfm | exact fall (by decide +kernel) hfm | exact fokIx (by decide +kernel) hfm | exact fokAll (by decide +kernel) hfm | refine Mask.ok_ite ?_ ?_ | refine faultsOf_ok ?_ ?_ | refine fun _ _ (_ : Keeps fm r0 _) => ?_ | (intro a; clear_value a) | lift_lets -underBinder | apply Keeps.ite | apply sendMsg_keeps | apply Keeps.forRange

theorem writeSuper_keeps {fm : Nat} {r0 : State}  {s : State} {p : Nat} (hfm : Mask.le 0x14000000000000190000000000000000000000000000000000000000000400020000040845020 fm = true) (h0 : Keeps fm r0 s)  : Keeps fm r0 (writeSuper s p) := by
  unfold writeSuper
  try lift_lets -underBinder
  with_reducible repeat' first | assumption | exact fpart (by decide +kernel) hfm | exact fle (by decide +kernel) hfm | exact fok (by decide +kernel) hfm | exact fall (by decide +kernel) hfm | exact fokIx (by decide +kernel) hfm | exact fokAll (by decide +kernel) hfm | refine Mask.ok_ite ?_ ?_ | refine faultsOf_ok ?_ ?_ | refine fun _ _ (_ : Keeps fm r0 _) => ?_ | (intro a; refine (fun ha : Keeps fm r0 a => ?_) ?_; clear_value a; rotate_left; dsimp only [a]; rotate_right) | (intro a; clear_value a) | lift_lets -underBinder | apply bump_keeps | apply sendConfig_keeps | apply superMember_keeps | apply modPool_keeps | apply Keeps.forEach

theorem superDone_keeps {fm : Nat} {r0 : State}  {s : State} {p : Nat} {m : Nat} {op : MOp} (hfm : Mask.le 0x14000000000000000000000000000000000000000000000000000000000000020000040805020 fm = true) (h0 : Keeps fm r0 s)  : Keeps fm r0 (superDone s p m op) := by
  unfold superDone
  try lift_lets -underBinder
  with_reducible repeat' first | assumption | exact fpart (by decide +kernel) hfm | exact fle (by decide +kernel) hfm | exact fok (by decide +kernel) hfm | exact fall (by decide +kernel) hfm | exact fokIx (by decide +kernel) hfm | exact fokAll (by decide +kernel) hfm | refine Mask.ok_ite ?_ ?_ | refine faultsOf_ok ?_ ?_ | (intro a; refine (fun ha : Keeps fm r0 a => ?_) ?_; clear_value a; rotate_left; dsimp only [a]; rotate_right) | lift_lets -underBinder | apply Keeps.ite | apply superCopy_keeps | apply superMember_keeps | apply modPool_keeps | apply modDPort_keeps | split

theorem recountRebuild_keeps {fm : Nat} {r0 : State}  {s : State} {p : Nat} (hfm : Mask.le 0x30000000000000000000000000000000000000000000000000000000000000000000000000000000000000000 fm = true) (h0 : Keeps fm r0 s)  : Keeps fm r0 (recountRebuild s p) := by
  unfold recountRebuild
  with_reducible repeat' first
    | assumption
    | exact fpart (by decide +kernel) hfm
    | exact fle (by decide +kernel) hfm
    | exact fok (by decide +kernel) hfm
    | exact fall (by decide +kernel) hfm
    | exact fokIx (by decide +kernel) hfm
    | exact fokAll (by decide +kernel) hfm
    | refine Mask.ok_ite ?_ ?_
    | refine faultsOf_ok ?_ ?_
    | refine fun _ (_ : Keeps fm r0 _) => ?_
    | refine fun _ _ (_ : Keeps fm r0 _) => ?_
    | refine fun _ _ _ (_ : Keeps fm r0 _) => ?_
    | exact KeepsO.get rfl (by assumption)
    | exact KeepsP.get rfl (by assumption)
    | apply Keeps.ite
    | apply wr_keeps
    | apply Keeps.forEach
    | apply Keeps.forRange
    | apply Keeps.foldl
    | apply Keeps.foldl_fst
    | apply Keeps.foldl_snd
    | exact KeepsO.none
    | exact KeepsP.none
    | apply KeepsO.some
    | apply KeepsP.some
    | apply KeepsO.ite
    | apply KeepsP.ite
    | refine KeepsO.foldl _ _ ?_ (fun _ _ _ => ?_)
    | exact KeepsF.lost
    | apply KeepsF.started
    | apply KeepsF.ite
    | fail_if_no_progress (apply Keeps.upd <;> try first | exact Or.inr (fpart (by decide +kernel) hfm) | exact Or.inl rfl)
    | fail_if_no_progress (apply Keeps.updDict <;> try first | exact Or.inr (fpart (by decide +kernel) hfm) | exact Or.inl rfl)
    | refine Keeps.updRegs (rg := Tbl.filterK _ _) ?_ (Tbl.wf_filterK _) (Tbl.wf_filterK _)
    | refine Keeps.updRegs (rg := Tbl.filterK _ _) ?_ (Tbl.wf_filterK _) id
    | split
    | refine Keeps.of_snd (by assumption) ?_
    | refine Keeps.of_fst (by assumption) ?_
    | refine KeepsO.get (by assumption) ?_
    | refine KeepsP.get (by assumption) ?_
    | refine KeepsF.get (by assumption) ?_

theorem considerRebuild_keeps {fm : Nat} {r0 : State}  {s : State} {p : Nat} (hfm : Mask.le 0x31000000000000000000000000000000000000000000000000000000000000000000000000600000000800100 fm = true) (h0 : Keeps fm r0 s)  : Keeps fm r0 (considerRebuild s p) := by
  unfold considerRebuild
  try lift_lets -underBinder
  with_reducible repeat' first | assumption | exact fpart (by decide +kernel) hfm | exact fle (by decide +kernel) hfm | exact fok (by decide +kernel) hfm | exact fall (by decide +kernel) hfm | exact fokIx (by decide +kernel) hfm | exact fokAll (by decide +kernel) hfm | refine Mask.ok_ite ?_ ?_ | refine faultsOf_ok ?_ ?_ | (intro a; refine (fun ha : Keeps fm r0 a => ?_) ?_; clear_value a; rotate_left; dsimp only [a]; rotate_right) | lift_lets -underBinder | apply Keeps.ite | apply setCond_keeps | apply recountRebuild_keeps | apply wr_keeps

theorem sealFor_keeps {fm : Nat} {r0 : State}  {s : State} {p : Nat} {m : Nat} {failed : Bool} (hfm : Mask.le 0x3008000000000000001f000000000020000000010000000000000000000000000000001400860000017c190000000000000000000000000080000000000000000000020000040867920 fm = true) (h0 : Keeps fm r0 s)  : Keeps fm r0 (sealFor s p m failed) := by
  unfold sealFor
  try lift_lets -underBinder
  with_reducible repeat' first | assumption | exact fpart (by decide +kernel) hfm | exact fle (by decide +kernel) hfm | exact fok (by decide +kernel) hfm | exact fall (by decide +kernel) hfm | exact fokIx (by decide +kernel) hfm | exact fokAll (by decide +kernel) hfm | refine Mask.ok_ite ?_ ?_ | refine faultsOf_ok ?_ ?_ | refine fun _ _ (_ : Keeps fm r0 _) => ?_ | (intro a; refine (fun ha : Keeps fm r0 a => ?_) ?_; clear_value a; rotate_left; dsimp only [a]; rotate_right) | (intro a; clear_value a) | lift_lets -underBinder | apply Keeps.ite | apply markGone_keeps | apply reissueNow_keeps | apply sealOn_keeps | apply Keeps.forEach | apply Keeps.forRange | apply Keeps.foldl | apply Keeps.foldl_fst

theorem resetsCounted_keeps {fm : Nat} {r0 : State}  {s : State} {p : Nat} {m : Nat} (hfm : Mask.le 0x1000 fm = true) (h0 : Keeps fm r0 s)  : Keeps fm r0 (resetsCounted s p m) := by
  unfold resetsCounted
  with_reducible repeat' first | assumption | exact fpart (by decide +kernel) hfm | exact fle (by decide +kernel) hfm | exact fok (by decide +kernel) hfm | exact fall (by decide +kernel) hfm | exact fokIx (by decide +kernel) hfm | exact fokAll (by decide +kernel) hfm | refine Mask.ok_ite ?_ ?_ | refine faultsOf_ok ?_ ?_ | apply modPool_keeps

theorem freedRecord_keeps {fm : Nat} {r0 : State}  {s : State} {p : Nat} {slot : Nat} (hfm : Mask.le 0x100000000000000000000000000000000000000000000000000000000000000000000000000000000000000000000000000000002020 fm = true) (h0 : Keeps fm r0 s)  : Keeps fm r0 (freedRecord s p slot) := by
  unfold freedRecord
  with_reducible repeat' first | assumption | exact fpart (by decide +kernel) hfm | exact fle (by decide +kernel) hfm | exact fok (by decide +kernel) hfm | exact fall (by decide +kernel) hfm | exact fokIx (by decide +kernel) hfm | exact fokAll (by decide +kernel) hfm | refine Mask.ok_ite ?_ ?_ | refine faultsOf_ok ?_ ?_ | apply Keeps.ite | apply logRec_keeps | split

theorem actLoses_keeps {fm : Nat} {r0 : State}  {s : State} {p : Nat} {op : MOp} {counted : Bool} (hfm : Mask.le 0x1000 fm = true) (h0 : Keeps fm r0 s)  : Keeps fm r0 (actLoses s p op counted) := by
  unfold actLoses
  try lift_lets -underBinder
  with_reducible repeat' first
    | assumption
    | exact fpart (by decide +kernel) hfm
    | exact fle (by decide +kernel) hfm
    | exact fok (by decide +kernel) hfm
    | exact fall (by decide +kernel) hfm
    | exact fokIx (by decide +kernel) hfm
    | exact fokAll (by decide +kernel) hfm
    | refine Mask.ok_ite ?_ ?_
    | refine faultsOf_ok ?_ ?_
    | refine fun _ (_ : Keeps fm r0 _) => ?_
    | refine fun _ _ (_ : Keeps fm r0 _) => ?_
    | refine fun _ _ _ (_ : Keeps fm r0 _) => ?_
    | exact KeepsO.get rfl (by assumption)
    | exact KeepsP.get rfl (by assumption)
    | (intro a; refine (fun ha : Keeps fm r0 a => ?_) ?_; clear_value a; rotate_left; dsimp only [a]; rotate_right)
    | (intro a; refine (fun ha : Keeps fm r0 a.2 => ?_) ?_; clear_value a; rotate_left; dsimp only [a]; rotate_right)
    | (intro a; refine (fun ha : Keeps fm r0 a.1 => ?_) ?_; clear_value a; rotate_left; dsimp only [a]; rotate_right)
    | (intro a; refine (fun ha : KeepsO fm r0 a => ?_) ?_; clear_value a; rotate_left; dsimp only [a]; rotate_right)
    | (have _ := @hgb; intro a; refine (fun hgc : ∀ t, Keeps fm r0 t → Keeps fm r0 (a t) => ?_) ?_; clear_value a; rotate_left; dsimp only [a]; rotate_right)
    | (have _ := @hga; intro a; refine (fun hgb : ∀ t, Keeps fm r0 t → Keeps fm r0 (a t) => ?_) ?_; clear_value a; rotate_left; dsimp only [a]; rotate_right)
    | (intro a; refine (fun hga : ∀ t, Keeps fm r0 t → Keeps fm r0 (a t) => ?_) ?_; clear_value a; rotate_left; dsimp only [a]; rotate_right)
    | (have _ := @hgb; intro a; refine (fun hgc : ∀ x t, Keeps fm r0 t → Keeps fm r0 (a x t) => ?_) ?_; clear_value a; rotate_left; dsimp only [a]; rotate_right)
    | (have _ := @hga; intro a; refine (fun hgb : ∀ x t, Keeps fm r0 t → Keeps fm r0 (a x t) => ?_) ?_; clear_value a; rotate_left; dsimp only [a]; rotate_right)
    | (intro a; refine (fun hga : ∀ x t, Keeps fm r0 t → Keeps fm r0 (a x t) => ?_) ?_; clear_value a; rotate_left; dsimp only [a]; rotate_right)
    | (have _ := @hgb; intro a; refine (fun hgc : ∀ x y t, Keeps fm r0 t → Keeps fm r0 (a x y t) => ?_) ?_; clear_value a; rotate_left; dsimp only [a]; rotate_right)
    | (have _ := @hga; intro a; refine (fun hgb : ∀ x y t, Keeps fm r0 t → Keeps fm r0 (a x y t) => ?_) ?_; clear_value a; rotate_left; dsimp only [a]; rotate_right)
    | (intro a; refine (fun hga : ∀ x y t, Keeps fm r0 t → Keeps fm r0 (a x y t) => ?_) ?_; clear_value a; rotate_left; dsimp only [a]; rotate_right)
    | (have _ := @hgb; intro a; refine (fun hgc : ∀ t x, Keeps fm r0 t → Keeps fm r0 (a t x) => ?_) ?_; clear_value a; rotate_left; dsimp only [a]; rotate_right)
    | (have _ := @hga; intro a; refine (fun hgb : ∀ t x, Keeps fm r0 t → Keeps fm r0 (a t x) => ?_) ?_; clear_value a; rotate_left; dsimp only [a]; rotate_right)
    | (intro a; refine (fun hga : ∀ t x, Keeps fm r0 t → Keeps fm r0 (a t x) => ?_) ?_; clear_value a; rotate_left; dsimp only [a]; rotate_right)
    | (intro a; refine (fun (_ : a = (a : Dict)) => ?_) rfl; dsimp only [a])
    | (intro a; clear_value a)
    | apply hga
    | apply hgb
    | apply hgc
    | lift_lets -underBinder
    | apply Keeps.ite
    | apply modPool_keeps
    | apply Keeps.forEach
    | apply Keeps.forRange
    | apply Keeps.foldl
    | apply Keeps.foldl_fst
    | apply Keeps.foldl_snd
    | exact KeepsO.none
    | exact KeepsP.none
    | apply KeepsO.some
    | apply KeepsP.some
    | apply KeepsO.ite
    | apply KeepsP.ite
    | refine KeepsO.foldl _ _ ?_ (fun _ _ _ => ?_)
    | exact KeepsF.lost
    | apply KeepsF.started
    | apply KeepsF.ite
    | fail_if_no_progress (apply Keeps.upd <;> try first | exact Or.inr (fpart (by decide +kernel) hfm) | exact Or.inl rfl)
    | fail_if_no_progress (apply Keeps.updDict <;> try first | exact Or.inr (fpart (by decide +kernel) hfm) | exact Or.inl rfl)
    | refine Keeps.updRegs (rg := Tbl.filterK _ _) ?_ (Tbl.wf_filterK _) (Tbl.wf_filterK _)
    | refine Keeps.updRegs (rg := Tbl.filterK _ _) ?_ (Tbl.wf_filterK _) id
    | split
    | refine Keeps.of_snd (by assumption) ?_
    | refine Keeps.of_fst (by assumption) ?_
    | refine KeepsO.get (by assumption) ?_
    | refine KeepsP.get (by assumption) ?_
    | refine KeepsF.get (by assumption) ?_

theorem addEnds_keeps {fm : Nat} {r0 : State}  {s : State} {p : Nat} {m : Nat} {port : Nat} {result : Nat} (hfm : Mask.le 0x31000000000000000000040000000000000000000000000000000000000000000000000000600020000800100 fm = true) (h0 : Keeps fm r0 s)  : Keeps fm r0 (addEnds s p m port result) := by
  unfold addEnds
  with_reducible repeat' first
    | assumption
    | exact fpart (by decide +kernel) hfm
    | exact fle (by decide +kernel) hfm
    | exact fok (by decide +kernel) hfm
    | exact fall (by decide +kernel) hfm
    | exact fokIx (by decide +kernel) hfm
    | exact fokAll (by decide +kernel) hfm
    | refine Mask.ok_ite ?_ ?_
    | refine faultsOf_ok ?_ ?_
    | refine fun _ (_ : Keeps fm r0 _) => ?_
    | refine fun _ _ (_ : Keeps fm r0 _) => ?_
    | refine fun _ _ _ (_ : Keeps fm r0 _) => ?_
    | exact KeepsO.get rfl (by assumption)
    | exact KeepsP.get rfl (by assumption)
    | apply Keeps.ite
    | apply considerRebuild_keeps
    | apply wr_keeps
    | apply Keeps.forEach
    | apply Keeps.forRange
    | apply Keeps.foldl
    | apply Keeps.foldl_fst
    | apply Keeps.foldl_snd
    | exact KeepsO.none
    | exact KeepsP.none
    | apply KeepsO.some
    | apply KeepsP.some
    | apply KeepsO.ite
    | apply KeepsP.ite
    | refine KeepsO.foldl _ _ ?_ (fun _ _ _ => ?_)
    | exact KeepsF.lost
    | apply KeepsF.started
    | apply KeepsF.ite
    | fail_if_no_progress (apply Keeps.upd <;> try first | exact Or.inr (fpart (by decide +kernel) hfm) | exact Or.inl rfl)
    | fail_if_no_progress (apply Keeps.updDict <;> try first | exact Or.inr (fpart (by decide +kernel) hfm) | exact Or.inl rfl)
    | refine Keeps.updRegs (rg := Tbl.filterK _ _) ?_ (Tbl.wf_filterK _) (Tbl.wf_filterK _)
    | refine Keeps.updRegs (rg := Tbl.filterK _ _) ?_ (Tbl.wf_filterK _) id
    | split
    | refine Keeps.of_snd (by assumption) ?_
    | refine Keeps.of_fst (by assumption) ?_
    | refine KeepsO.get (by assumption) ?_
    | refine KeepsP.get (by assumption) ?_
    | refine KeepsF.get (by assumption) ?_

theorem reroute_keeps {fm : Nat} {r0 : State}  {s : State} {id : Nat} {c : MCmd} (hfm : Mask.le 0x380801c002000000001f160000000070100000010000000000000000003100000000001400860084017c19000000000000000000000000008040000000000000000062002004087fde0 fm = true) (h0 : Keeps fm r0 s)  : Keeps fm r0 (reroute s id c) := by
  unfold reroute
  try lift_lets -underBinder
  with_reducible repeat' first | assumption | exact fpart (by decide +kernel) hfm | exact fle (by decide +kernel) hfm | exact fok (by decide +kernel) hfm | exact fall (by decide +kernel) hfm | exact fokIx (by decide +kernel) hfm | exact fokAll (by decide +kernel) hfm | refine Mask.ok_ite ?_ ?_ | refine faultsOf_ok ?_ ?_ | (intro a; refine (fun ha : Keeps fm r0 a => ?_) ?_; clear_value a; rotate_left; dsimp only [a]; rotate_right) | (intro a; clear_value a) | lift_lets -underBinder | apply endCmd_keeps | apply servedByDecode_keeps | apply decodeInstead_keeps | apply endJob_keeps | apply setCond_keeps | apply readLeaf_keeps | apply freedRecord_keeps | apply actLoses_keeps | apply modPool_keeps | apply addEnds_keeps | split

theorem rerouteAll_keeps {fm : Nat} {r0 : State}  {s : State} {port : Nat} (hfm : Mask.le 0x380801c002000000001f160000000070100000010000000000000000003100000000001400860084017c19000000000000000000000000008040000000000000000062002004087fde0 fm = true) (h0 : Keeps fm r0 s)  : Keeps fm r0 (rerouteAll s port) := by
  unfold rerouteAll
  with_reducible repeat' first | assumption | exact fpart (by decide +kernel) hfm | exact fle (by decide +kernel) hfm | exact fok (by decide +kernel) hfm | exact fall (by decide +kernel) hfm | exact fokIx (by decide +kernel) hfm | exact fokAll (by decide +kernel) hfm | refine Mask.ok_ite ?_ ?_ | refine faultsOf_ok ?_ ?_ | refine fun _ _ (_ : Keeps fm r0 _) => ?_ | apply reroute_keeps | apply Keeps.forEach | split

theorem startAdd_keeps {fm : Nat} {r0 : State}  {s : State} {p : Nat} {m : Nat} (hfm : Mask.le 0x14000000040000000000000000000000000000000000000000000000000000020020040804020 fm = true) (h0 : Keeps fm r0 s)  : Keeps fm r0 (startAdd s p m) := by
  unfold startAdd
  try lift_lets -underBinder
  with_reducible repeat' first | assumption | exact fpart (by decide +kernel) hfm | exact fle (by decide +kernel) hfm | exact fok (by decide +kernel) hfm | exact fall (by decide +kernel) hfm | exact fokIx (by decide +kernel) hfm | exact fokAll (by decide +kernel) hfm | refine Mask.ok_ite ?_ ?_ | refine faultsOf_ok ?_ ?_ | (intro a; refine (fun ha : Keeps fm r0 a => ?_) ?_; clear_value a; rotate_left; dsimp only [a]; rotate_right) | (intro a; clear_value a) | lift_lets -underBinder | apply wr_keeps | apply issueTo_keeps

theorem releaseMember_keeps {fm : Nat} {r0 : State}  {s : State} {p : Nat} {m : Nat} (hfm : Mask.le 0x100000000000000000000000000000014000000000000000000000000000000000000000010000000000000000000020020040806020 fm = true) (h0 : Keeps fm r0 s)  : Keeps fm r0 (releaseMember s p m) := by
  unfold releaseMember
  try lift_lets -underBinder
  with_reducible repeat' first
    | assumption
    | exact fpart (by decide +kernel) hfm
    | exact fle (by decide +kernel) hfm
    | exact fok (by decide +kernel) hfm
    | exact fall (by decide +kernel) hfm
    | exact fokIx (by decide +kernel) hfm
    | exact fokAll (by decide +kernel) hfm
    | refine Mask.ok_ite ?_ ?_
    | refine faultsOf_ok ?_ ?_
    | refine fun _ (_ : Keeps fm r0 _) => ?_
    | refine fun _ _ (_ : Keeps fm r0 _) => ?_
    | refine fun _ _ _ (_ : Keeps fm r0 _) => ?_
    | exact KeepsO.get rfl (by assumption)
    | exact KeepsP.get rfl (by assumption)
    | (intro a; refine (fun ha : Keeps fm r0 a => ?_) ?_; clear_value a; rotate_left; dsimp only [a]; rotate_right)
    | (intro a; refine (fun ha : Keeps fm r0 a.2 => ?_) ?_; clear_value a; rotate_left; dsimp only [a]; rotate_right)
    | (intro a; refine (fun ha : Keeps fm r0 a.1 => ?_) ?_; clear_value a; rotate_left; dsimp only [a]; rotate_right)
    | (intro a; refine (fun ha : KeepsO fm r0 a => ?_) ?_; clear_value a; rotate_left; dsimp only [a]; rotate_right)
    | (have _ := @hgb; intro a; refine (fun hgc : ∀ t, Keeps fm r0 t → Keeps fm r0 (a t) => ?_) ?_; clear_value a; rotate_left; dsimp only [a]; rotate_right)
    | (have _ := @hga; intro a; refine (fun hgb : ∀ t, Keeps fm r0 t → Keeps fm r0 (a t) => ?_) ?_; clear_value a; rotate_left; dsimp only [a]; rotate_right)
    | (intro a; refine (fun hga : ∀ t, Keeps fm r0 t → Keeps fm r0 (a t) => ?_) ?_; clear_value a; rotate_left; dsimp only [a]; rotate_right)
    | (have _ := @hgb; intro a; refine (fun hgc : ∀ x t, Keeps fm r0 t → Keeps fm r0 (a x t) => ?_) ?_; clear_value a; rotate_left; dsimp only [a]; rotate_right)
    | (have _ := @hga; intro a; refine (fun hgb : ∀ x t, Keeps fm r0 t → Keeps fm r0 (a x t) => ?_) ?_; clear_value a; rotate_left; dsimp only [a]; rotate_right)
    | (intro a; refine (fun hga : ∀ x t, Keeps fm r0 t → Keeps fm r0 (a x t) => ?_) ?_; clear_value a; rotate_left; dsimp only [a]; rotate_right)
    | (have _ := @hgb; intro a; refine (fun hgc : ∀ x y t, Keeps fm r0 t → Keeps fm r0 (a x y t) => ?_) ?_; clear_value a; rotate_left; dsimp only [a]; rotate_right)
    | (have _ := @hga; intro a; refine (fun hgb : ∀ x y t, Keeps fm r0 t → Keeps fm r0 (a x y t) => ?_) ?_; clear_value a; rotate_left; dsimp only [a]; rotate_right)
    | (intro a; refine (fun hga : ∀ x y t, Keeps fm r0 t → Keeps fm r0 (a x y t) => ?_) ?_; clear_value a; rotate_left; dsimp only [a]; rotate_right)
    | (have _ := @hgb; intro a; refine (fun hgc : ∀ t x, Keeps fm r0 t → Keeps fm r0 (a t x) => ?_) ?_; clear_value a; rotate_left; dsimp only [a]; rotate_right)
    | (have _ := @hga; intro a; refine (fun hgb : ∀ t x, Keeps fm r0 t → Keeps fm r0 (a t x) => ?_) ?_; clear_value a; rotate_left; dsimp only [a]; rotate_right)
    | (intro a; refine (fun hga : ∀ t x, Keeps fm r0 t → Keeps fm r0 (a t x) => ?_) ?_; clear_value a; rotate_left; dsimp only [a]; rotate_right)
    | (intro a; refine (fun (_ : a = (a : Dict)) => ?_) rfl; dsimp only [a])
    | (intro a; clear_value a)
    | apply hga
    | apply hgb
    | apply hgc
    | lift_lets -underBinder
    | apply Keeps.ite
    | apply logRec_keeps
    | apply wr_keeps
    | apply issueTo_keeps
    | apply Keeps.forEach
    | apply Keeps.forRange
    | apply Keeps.foldl
    | apply Keeps.foldl_fst
    | apply Keeps.foldl_snd
    | exact KeepsO.none
    | exact KeepsP.none
    | apply KeepsO.some
    | apply KeepsP.some
    | apply KeepsO.ite
    | apply KeepsP.ite
    | refine KeepsO.foldl _ _ ?_ (fun _ _ _ => ?_)
    | exact KeepsF.lost
    | apply KeepsF.started
    | apply KeepsF.ite
    | fail_if_no_progress (apply Keeps.upd <;> try first | exact Or.inr (fpart (by decide +kernel) hfm) | exact Or.inl rfl)
    | fail_if_no_progress (apply Keeps.updDict <;> try first | exact Or.inr (fpart (by decide +kernel) hfm) | exact Or.inl rfl)
    | refine Keeps.updRegs (rg := Tbl.filterK _ _) ?_ (Tbl.wf_filterK _) (Tbl.wf_filterK _)
    | refine Keeps.updRegs (rg := Tbl.filterK _ _) ?_ (Tbl.wf_filterK _) id
    | split
    | refine Keeps.of_snd (by assumption) ?_
    | refine Keeps.of_fst (by assumption) ?_
    | refine KeepsO.get (by assumption) ?_
    | refine KeepsP.get (by assumption) ?_
    | refine KeepsF.get (by assumption) ?_

theorem afterFailure_keeps {fm : Nat} {r0 : State}  {s : State} {p : Nat} (hfm : Mask.le 0x3100000000001400000004000000000000000000000000000000000c000000000000000000620020040804120 fm = true) (h0 : Keeps fm r0 s)  : Keeps fm r0 (afterFailure s p) := by
  unfold afterFailure
  with_reducible repeat' first | assumption | exact fpart (by decide +kernel) hfm | exact fle (by decide +kernel) hfm | exact fok (by decide +kernel) hfm | exact fall (by decide +kernel) hfm | exact fokIx (by decide +kernel) hfm | exact fokAll (by decide +kernel) hfm | refine Mask.ok_ite ?_ ?_ | refine faultsOf_ok ?_ ?_ | apply setCond_keeps | apply startAdd_keeps | apply wr_keeps | apply recountRebuild_keeps | apply considerRebuild_keeps | split

theorem checkWidth_keeps {fm : Nat} {r0 : State}  {s : State} {p : Nat} (hfm : Mask.le 0x600000000800100 fm = true) (h0 : Keeps fm r0 s)  : Keeps fm r0 (checkWidth s p) := by
  unfold checkWidth
  with_reducible repeat' first | assumption | exact fpart (by decide +kernel) hfm | exact fle (by decide +kernel) hfm | exact fok (by decide +kernel) hfm | exact fall (by decide +kernel) hfm | exact fokIx (by decide +kernel) hfm | exact fokAll (by decide +kernel) hfm | refine Mask.ok_ite ?_ ?_ | refine faultsOf_ok ?_ ?_ | apply Keeps.ite | apply setCond_keeps

theorem failMember_keeps {fm : Nat} {r0 : State}  {s : State} {p : Nat} {m : Nat} {cause : Nat} (hfm : Mask.le 0x380801c022000000001f160000000070100000010000000000000004003100000000001400860085017c19000000000000000000000000009c40000000000000040062002004087fde0 fm = true) (h0 : Keeps fm r0 s)  : Keeps fm r0 (failMember s p m cause) := by
  unfold failMember
  try lift_lets -underBinder
  with_reducible repeat' first | assumption | exact fpart (by decide +kernel) hfm | exact fle (by decide +kernel) hfm | exact fok (by decide +kernel) hfm | exact fall (by decide +kernel) hfm | exact fokIx (by decide +kernel) hfm | exact fokAll (by decide +kernel) hfm | refine Mask.ok_ite ?_ ?_ | refine faultsOf_ok ?_ ?_ | refine fun _ _ (_ : Keeps fm r0 _) => ?_ | (intro a; refine (fun ha : Keeps fm r0 a => ?_) ?_; clear_value a; rotate_left; dsimp only [a]; rotate_right) | (intro a; clear_value a) | lift_lets -underBinder | apply Keeps.ite | apply wr_keeps | apply raiseOpen_keeps | apply logRec_keeps | apply sealFor_keeps | apply resetsCounted_keeps | apply leaveIdle_keeps | apply signalPme_keeps | apply rerouteAll_keeps | apply freedRecord_keeps | apply checkWidth_keeps | apply afterFailure_keeps | apply writeSuper_keeps | apply Keeps.forEach

theorem decodeHeld_keeps {fm : Nat} {r0 : State}  {s : State} {id : Nat} {c : MCmd} (hfm : Mask.le 0x380801c002000000001f160000000070100000010000000000000000003100000000001400860084017c19000000000000000000000000008040000000000000000062002004087fde0 fm = true) (h0 : Keeps fm r0 s)  : Keeps fm r0 (decodeHeld s id c) := by
  unfold decodeHeld
  with_reducible repeat' first | assumption | exact fpart (by decide +kernel) hfm | exact fle (by decide +kernel) hfm | exact fok (by decide +kernel) hfm | exact fall (by decide +kernel) hfm | exact fokIx (by decide +kernel) hfm | exact fokAll (by decide +kernel) hfm | refine Mask.ok_ite ?_ ?_ | refine faultsOf_ok ?_ ?_ | apply startJob_keeps | apply endJob_keeps | apply reroute_keeps | fail_if_no_progress (apply Keeps.upd <;> try first | exact Or.inr (fpart (by decide +kernel) hfm) | exact Or.inl rfl) | split | refine KeepsO.get (by assumption) ?_

theorem noteHeld_keeps {fm : Nat} {r0 : State}  {s : State} {port : Nat} (hfm : Mask.le 0x40000000 fm = true) (h0 : Keeps fm r0 s)  : Keeps fm r0 (noteHeld s port) := by
  unfold noteHeld
  with_reducible repeat' first | assumption | exact fpart (by decide +kernel) hfm | exact fle (by decide +kernel) hfm | exact fok (by decide +kernel) hfm | exact fall (by decide +kernel) hfm | exact fokIx (by decide +kernel) hfm | exact fokAll (by decide +kernel) hfm | refine Mask.ok_ite ?_ ?_ | refine faultsOf_ok ?_ ?_ | apply wr_keeps

theorem freezePort_keeps {fm : Nat} {r0 : State}  {s : State} {port : Nat} {cause : Nat} (hfm : Mask.le 0x380801c002000000001f160000000070100000010000000000000000003100000000001400860084017c19000000000000000000000000009040000000000000000062002006287fde0 fm = true) (h0 : Keeps fm r0 s)  : Keeps fm r0 (freezePort s port cause) := by
  unfold freezePort
  try lift_lets -underBinder
  with_reducible repeat' first | assumption | exact fpart (by decide +kernel) hfm | exact fle (by decide +kernel) hfm | exact fok (by decide +kernel) hfm | exact fall (by decide +kernel) hfm | exact fokIx (by decide +kernel) hfm | exact fokAll (by decide +kernel) hfm | refine Mask.ok_ite ?_ ?_ | refine faultsOf_ok ?_ ?_ | refine fun _ _ (_ : Keeps fm r0 _) => ?_ | (intro a; refine (fun ha : Keeps fm r0 a => ?_) ?_; clear_value a; rotate_left; dsimp only [a]; rotate_right) | (intro a; clear_value a) | lift_lets -underBinder | apply Keeps.ite | apply drop_keeps | apply wr_keeps | apply raiseOpen_keeps | apply setCond_keeps | apply logRec_keeps | apply checkWidth_keeps | apply decodeHeld_keeps | apply sealFor_keeps | apply noteHeld_keeps | apply Keeps.forEach | fail_if_no_progress (apply Keeps.upd <;> try first | exact Or.inr (fpart (by decide +kernel) hfm) | exact Or.inl rfl) | split

theorem memberFault_keeps {fm : Nat} {r0 : State}  {s : State} {p : Nat} {m : Nat} {cause : Nat} (hfm : Mask.le 0x380801c022000000001f160000000070100000010000000000000004003100000000001400860085017c19000000000000000000000000009c40000000000000040062002006287fde0 fm = true) (h0 : Keeps fm r0 s)  : Keeps fm r0 (memberFault s p m cause) := by
  unfold memberFault
  try lift_lets -underBinder
  with_reducible repeat' first | assumption | exact fpart (by decide +kernel) hfm | exact fle (by decide +kernel) hfm | exact fok (by decide +kernel) hfm | exact fall (by decide +kernel) hfm | exact fokIx (by decide +kernel) hfm | exact fokAll (by decide +kernel) hfm | refine Mask.ok_ite ?_ ?_ | refine faultsOf_ok ?_ ?_ | (intro a; clear_value a) | lift_lets -underBinder | apply Keeps.ite | apply freezePort_keeps | apply failMember_keeps

/-! ## Sweep -/

theorem modOp_keeps {fm : Nat} {r0 : State}  {s : State} {v : Nat} {f : VolOp → VolOp} (hfm : Mask.le 0x200 fm = true) (h0 : Keeps fm r0 s)  : Keeps fm r0 (modOp s v f) := by
  unfold modOp
  with_reducible repeat' first | assumption | exact fpart (by decide +kernel) hfm | exact fle (by decide +kernel) hfm | exact fok (by decide +kernel) hfm | exact fall (by decide +kernel) hfm | exact fokIx (by decide +kernel) hfm | exact fokAll (by decide +kernel) hfm | refine Mask.ok_ite ?_ ?_ | refine faultsOf_ok ?_ ?_ | fail_if_no_progress (apply Keeps.upd <;> try first | exact Or.inr (fpart (by decide +kernel) hfm) | exact Or.inl rfl)

theorem finishWaiters_keeps {fm : Nat} {r0 : State}  {s : State} {v : Nat} {l : List (Nat × Nat)} (hfm : Mask.le 0xc0 fm = true) (h0 : Keeps fm r0 s)  : Keeps fm r0 (finishWaiters s v l) := by
  unfold finishWaiters
  with_reducible repeat' first | assumption | exact fpart (by decide +kernel) hfm | exact fle (by decide +kernel) hfm | exact fok (by decide +kernel) hfm | exact fall (by decide +kernel) hfm | exact fokIx (by decide +kernel) hfm | exact fokAll (by decide +kernel) hfm | refine Mask.ok_ite ?_ ?_ | refine faultsOf_ok ?_ ?_ | refine fun _ _ (_ : Keeps fm r0 _) => ?_ | apply Keeps.ite | apply finish_keeps | apply Keeps.forEach | split

theorem finishOp_keeps {fm : Nat} {r0 : State}  {s : State} {v : Nat} {x : VolOp} (hfm : Mask.le 0x2c0 fm = true) (h0 : Keeps fm r0 s)  : Keeps fm r0 (finishOp s v x) := by
  unfold finishOp
  with_reducible repeat' first | assumption | exact fpart (by decide +kernel) hfm | exact fle (by decide +kernel) hfm | exact fok (by decide +kernel) hfm | exact fall (by decide +kernel) hfm | exact fokIx (by decide +kernel) hfm | exact fokAll (by decide +kernel) hfm | refine Mask.ok_ite ?_ ?_ | refine faultsOf_ok ?_ ?_ | apply finishWaiters_keeps | apply modOp_keeps | apply Keeps.forEach

theorem noteSweep_keeps {fm : Nat} {r0 : State}  {s : State} {p : Nat} (hfm : Mask.le 0x1200 fm = true) (h0 : Keeps fm r0 s)  : Keeps fm r0 (noteSweep s p) := by
  unfold noteSweep
  try lift_lets -underBinder
  with_reducible repeat' first | assumption | exact fpart (by decide +kernel) hfm | exact fle (by decide +kernel) hfm | exact fok (by decide +kernel) hfm | exact fall (by decide +kernel) hfm | exact fokIx (by decide +kernel) hfm | exact fokAll (by decide +kernel) hfm | refine Mask.ok_ite ?_ ?_ | refine faultsOf_ok ?_ ?_ | refine fun _ _ (_ : Keeps fm r0 _) => ?_ | (intro a; refine (fun ha : Keeps fm r0 a => ?_) ?_; clear_value a; rotate_left; dsimp only [a]; rotate_right) | (intro a; clear_value a) | lift_lets -underBinder | apply Keeps.ite | apply modOp_keeps | apply modPool_keeps | apply Keeps.forEach

theorem sweptOne_keeps {fm : Nat} {r0 : State}  {s : State} {p : Nat} {seq : Nat} (hfm : Mask.le 0x100000000000000000000000000000000000000000000000000000000000000000000000000000000000000000000000000000003220 fm = true) (h0 : Keeps fm r0 s)  : Keeps fm r0 (sweptOne s p seq) := by
  unfold sweptOne
  with_reducible repeat' first | assumption | exact fpart (by decide +kernel) hfm | exact fle (by decide +kernel) hfm | exact fok (by decide +kernel) hfm | exact fall (by decide +kernel) hfm | exact fokIx (by decide +kernel) hfm | exact fokAll (by decide +kernel) hfm | refine Mask.ok_ite ?_ ?_ | refine faultsOf_ok ?_ ?_ | refine fun _ _ (_ : Keeps fm r0 _) => ?_ | apply noteSweep_keeps | apply logRec_keeps | apply Keeps.forEach

/-! ## Commit -/

theorem requestCkpt_keeps {fm : Nat} {r0 : State}  {s : State} {p : Nat} (hfm : Mask.le 0x1000 fm = true) (h0 : Keeps fm r0 s)  : Keeps fm r0 (requestCkpt s p) := by
  unfold requestCkpt
  with_reducible repeat' first | assumption | exact fpart (by decide +kernel) hfm | exact fle (by decide +kernel) hfm | exact fok (by decide +kernel) hfm | exact fall (by decide +kernel) hfm | exact fokIx (by decide +kernel) hfm | exact fokAll (by decide +kernel) hfm | refine Mask.ok_ite ?_ ?_ | refine faultsOf_ok ?_ ?_ | apply modPool_keeps

theorem noteHolds_keeps {fm : Nat} {r0 : State}  {s : State} (hfm : Mask.le 0x30080000000000000000000000000000000000022000000000000000000000000000000000000440017c000000000000000000000000000000000000000000000000000000000801120 fm = true) (h0 : Keeps fm r0 s)  : Keeps fm r0 (noteHolds s) := by
  unfold noteHolds
  try lift_lets -underBinder
  with_reducible repeat' first | assumption | exact fpart (by decide +kernel) hfm | exact fle (by decide +kernel) hfm | exact fok (by decide +kernel) hfm | exact fall (by decide +kernel) hfm | exact fokIx (by decide +kernel) hfm | exact fokAll (by decide +kernel) hfm | refine Mask.ok_ite ?_ ?_ | refine faultsOf_ok ?_ ?_ | refine fun _ _ (_ : Keeps fm r0 _) => ?_ | (intro a; refine (fun ha : Keeps fm r0 a => ?_) ?_; clear_value a; rotate_left; dsimp only [a]; rotate_right) | (intro a; clear_value a) | lift_lets -underBinder | apply Keeps.ite | apply wr_keeps | apply requestCkpt_keeps | apply raiseOpen_keeps | apply bump_keeps | apply modPool_keeps | apply Keeps.forRange | split

theorem commitSlot_keeps {fm : Nat} {r0 : State}  {s : State} {p : Nat} {id : Nat} {n : Nat} (hfm : Mask.le 0x20c40 fm = true) (h0 : Keeps fm r0 s)  : Keeps fm r0 (commitSlot s p id n) := by
  unfold commitSlot
  try lift_lets -underBinder
  with_reducible repeat' first | assumption | exact fpart (by decide +kernel) hfm | exact fle (by decide +kernel) hfm | exact fok (by decide +kernel) hfm | exact fall (by decide +kernel) hfm | exact fokIx (by decide +kernel) hfm | exact fokAll (by decide +kernel) hfm | refine Mask.ok_ite ?_ ?_ | refine faultsOf_ok ?_ ?_ | (intro a; refine (fun ha : Keeps fm r0 a => ?_) ?_; clear_value a; rotate_left; dsimp only [a]; rotate_right) | lift_lets -underBinder | apply Keeps.ite | apply touchDesc_keeps | apply modSlot_keeps | apply setWr_keeps | apply setVer_keeps | split

theorem switchEntry_keeps {fm : Nat} {r0 : State}  {s : State} {n : Nat} (hfm : Mask.le 0x1c00200000000001200000000000000000100000000000000000000000000000000000000800000000000000000000000000000000000000000000000000000000000000033420 fm = true) (h0 : Keeps fm r0 s)  : Keeps fm r0 (switchEntry s n) := by
  unfold switchEntry
  try lift_lets -underBinder
  with_reducible repeat' first | assumption | exact fpart (by decide +kernel) hfm | exact fle (by decide +kernel) hfm | exact fok (by decide +kernel) hfm | exact fall (by decide +kernel) hfm | exact fokIx (by decide +kernel) hfm | exact fokAll (by decide +kernel) hfm | refine Mask.ok_ite ?_ ?_ | refine faultsOf_ok ?_ ?_ | (intro a; refine (fun ha : Keeps fm r0 a => ?_) ?_; clear_value a; rotate_left; dsimp only [a]; rotate_right) | (intro a; clear_value a) | lift_lets -underBinder | apply Keeps.ite | apply switchSlot_keeps | apply fillLocked_keeps | split

theorem commitEntry_keeps {fm : Nat} {r0 : State}  {s : State} {n : Nat} (hfm : Mask.le 0x1c00200000000001200000000000000000100000000000000000000000000000000000000800000000000000000000000000000000000000000000000000000000000000033420 fm = true) (h0 : Keeps fm r0 s)  : Keeps fm r0 (commitEntry s n) := by
  unfold commitEntry
  with_reducible repeat' first | assumption | exact fpart (by decide +kernel) hfm | exact fle (by decide +kernel) hfm | exact fok (by decide +kernel) hfm | exact fall (by decide +kernel) hfm | exact fokIx (by decide +kernel) hfm | exact fokAll (by decide +kernel) hfm | refine Mask.ok_ite ?_ ?_ | refine faultsOf_ok ?_ ?_ | apply Keeps.ite | apply switchEntry_keeps | split

theorem logAtomics_keeps {fm : Nat} {r0 : State}  {s : State} {p : Nat} (hfm : Mask.le 0x100000000000000000000000000000000000000000000000000000000000000000000000000000000000000000000000000000003020 fm = true) (h0 : Keeps fm r0 s)  : Keeps fm r0 (logAtomics s p) := by
  unfold logAtomics
  with_reducible repeat' first | assumption | exact fpart (by decide +kernel) hfm | exact fle (by decide +kernel) hfm | exact fok (by decide +kernel) hfm | exact fall (by decide +kernel) hfm | exact fokIx (by decide +kernel) hfm | exact fokAll (by decide +kernel) hfm | refine Mask.ok_ite ?_ ?_ | refine faultsOf_ok ?_ ?_ | refine fun _ _ (_ : Keeps fm r0 _) => ?_ | apply Keeps.ite | apply logRec_keeps | apply modPool_keeps | apply Keeps.forEach

theorem completeCommitted_keeps {fm : Nat} {r0 : State}  {s : State} (hfm : Mask.le 0x1900000000000000000000000000000000000000000000000000000008400e0 fm = true) (h0 : Keeps fm r0 s)  : Keeps fm r0 (completeCommitted s) := by
  unfold completeCommitted
  with_reducible repeat' first | assumption | exact fpart (by decide +kernel) hfm | exact fle (by decide +kernel) hfm | exact fok (by decide +kernel) hfm | exact fall (by decide +kernel) hfm | exact fokIx (by decide +kernel) hfm | exact fokAll (by decide +kernel) hfm | refine Mask.ok_ite ?_ ?_ | refine faultsOf_ok ?_ ?_ | refine fun _ _ (_ : Keeps fm r0 _) => ?_ | apply Keeps.ite | apply completeWrite_keeps | apply Keeps.forEach | split

theorem copySwitch_keeps {fm : Nat} {r0 : State}  {s : State} {p : Nat} {x : Stripe} {first : Nat} {l : List (Nat × Pos)} (hfm : Mask.le 0x1c00200000000000000000000000000000000000000000000000080000000000000003000800000000000000000000000000000000000000000000000000000000000000031400 fm = true) (h0 : Keeps fm r0 s)  : Keeps fm r0 (copySwitch s p x first l) := by
  unfold copySwitch
  try lift_lets -underBinder
  with_reducible repeat' first | assumption | exact fpart (by decide +kernel) hfm | exact fle (by decide +kernel) hfm | exact fok (by decide +kernel) hfm | exact fall (by decide +kernel) hfm | exact fokIx (by decide +kernel) hfm | exact fokAll (by decide +kernel) hfm | refine Mask.ok_ite ?_ ?_ | refine faultsOf_ok ?_ ?_ | refine fun _ _ (_ : Keeps fm r0 _) => ?_ | (intro a; refine (fun ha : Keeps fm r0 a => ?_) ?_; clear_value a; rotate_left; dsimp only [a]; rotate_right) | (intro a; clear_value a) | lift_lets -underBinder | apply Keeps.ite | apply dirtyLeaf_keeps | apply setEntry_keeps | apply setVer_keeps | apply staleSector_keeps | apply bump_keeps | apply copyEnded_keeps | apply Keeps.forEach | split

theorem copySwitches_keeps {fm : Nat} {r0 : State}  {s : State} {p : Nat} {x : Stripe} (hfm : Mask.le 0x1c00200000000000000000000000000000000000000000000000080000000000000003000800000000000000000000000000000000000000000000000000000000000000031400 fm = true) (h0 : Keeps fm r0 s)  : Keeps fm r0 (copySwitches s p x) := by
  unfold copySwitches
  try lift_lets -underBinder
  with_reducible repeat' first | assumption | exact fpart (by decide +kernel) hfm | exact fle (by decide +kernel) hfm | exact fok (by decide +kernel) hfm | exact fall (by decide +kernel) hfm | exact fokIx (by decide +kernel) hfm | exact fokAll (by decide +kernel) hfm | refine Mask.ok_ite ?_ ?_ | refine faultsOf_ok ?_ ?_ | refine fun _ _ (_ : Keeps fm r0 _) => ?_ | (intro a; clear_value a) | apply copySwitch_keeps | apply Keeps.forEach

theorem pageSwitch_keeps {fm : Nat} {r0 : State}  {s : State} {p : Nat} {x : Stripe} {i : Nat} {e : Pos} (hfm : Mask.le 0xc00000000000000000000000000000000000000000000000000080000000000000003000800000000000000000000000000000000000000000000000000000000000000021400 fm = true) (h0 : Keeps fm r0 s)  : Keeps fm r0 (pageSwitch s p x i e) := by
  unfold pageSwitch
  try lift_lets -underBinder
  with_reducible repeat' first | assumption | exact fpart (by decide +kernel) hfm | exact fle (by decide +kernel) hfm | exact fok (by decide +kernel) hfm | exact fall (by decide +kernel) hfm | exact fokIx (by decide +kernel) hfm | exact fokAll (by decide +kernel) hfm | refine Mask.ok_ite ?_ ?_ | refine faultsOf_ok ?_ ?_ | refine fun _ (_ : Keeps fm r0 _) => ?_ | (intro a; refine (fun ha : Keeps fm r0 a => ?_) ?_; clear_value a; rotate_left; dsimp only [a]; rotate_right) | (have _ := @hga; intro a; refine (fun hgb : ∀ t, Keeps fm r0 t → Keeps fm r0 (a t) => ?_) ?_; clear_value a; rotate_left; dsimp only [a]; rotate_right) | (intro a; refine (fun hga : ∀ t, Keeps fm r0 t → Keeps fm r0 (a t) => ?_) ?_; clear_value a; rotate_left; dsimp only [a]; rotate_right) | (intro a; clear_value a) | apply hga | apply hgb | lift_lets -underBinder | apply Keeps.ite | apply copyEnded_keeps | apply bump_keeps | apply touchDir_keeps | apply noteLeaves_keeps | apply modPool_keeps | split | fail_if_no_progress (apply Keeps.upd <;> try first | exact Or.inr (fpart (by decide +kernel) hfm) | exact Or.inl rfl)

theorem pageSwitches_keeps {fm : Nat} {r0 : State}  {s : State} {p : Nat} {x : Stripe} (hfm : Mask.le 0xc00000000000000000000000000000000000000000000000000080000000000000003000800000000000000000000000000000000000000000000000000000000000000021400 fm = true) (h0 : Keeps fm r0 s)  : Keeps fm r0 (pageSwitches s p x) := by
  unfold pageSwitches
  with_reducible repeat' first | assumption | exact fpart (by decide +kernel) hfm | exact fle (by decide +kernel) hfm | exact fok (by decide +kernel) hfm | exact fall (by decide +kernel) hfm | exact fokIx (by decide +kernel) hfm | exact fokAll (by decide +kernel) hfm | refine Mask.ok_ite ?_ ?_ | refine faultsOf_ok ?_ ?_ | refine fun _ _ (_ : Keeps fm r0 _) => ?_ | apply pageSwitch_keeps | apply Keeps.forEach

theorem noteRestored_keeps {fm : Nat} {r0 : State}  {s : State} {p : Nat} (hfm : Mask.le 0x2000000000000000000000000000000000000000000000000000000000000000000000000000000000000000000000000000000000000000000000000000000000 fm = true) (h0 : Keeps fm r0 s)  : Keeps fm r0 (noteRestored s p) := by
  unfold noteRestored
  with_reducible repeat' first | assumption | exact fpart (by decide +kernel) hfm | exact fle (by decide +kernel) hfm | exact fok (by decide +kernel) hfm | exact fall (by decide +kernel) hfm | exact fokIx (by decide +kernel) hfm | exact fokAll (by decide +kernel) hfm | refine Mask.ok_ite ?_ ?_ | refine faultsOf_ok ?_ ?_ | apply wr_keeps

theorem checkRebuilt_keeps {fm : Nat} {r0 : State}  {s : State} {p : Nat} (hfm : Mask.le 0x100000000000000000001000000000014000000000000190000000000000000000000000010000000000000000400620020040847120 fm = true) (h0 : Keeps fm r0 s)  : Keeps fm r0 (checkRebuilt s p) := by
  unfold checkRebuilt
  try lift_lets -underBinder
  with_reducible repeat' first | assumption | exact fpart (by decide +kernel) hfm | exact fle (by decide +kernel) hfm | exact fok (by decide +kernel) hfm | exact fall (by decide +kernel) hfm | exact fokIx (by decide +kernel) hfm | exact fokAll (by decide +kernel) hfm | refine Mask.ok_ite ?_ ?_ | refine faultsOf_ok ?_ ?_ | refine fun _ _ (_ : Keeps fm r0 _) => ?_ | (intro a; refine (fun ha : Keeps fm r0 a => ?_) ?_; clear_value a; rotate_left; dsimp only [a]; rotate_right) | (intro a; clear_value a) | lift_lets -underBinder | apply Keeps.ite | apply releaseMember_keeps | apply setCond_keeps | apply wr_keeps | apply writeSuper_keeps | apply Keeps.forEach

theorem commitStripe_keeps {fm : Nat} {r0 : State}  {s : State} {p : Nat} {id : Nat} {x : Stripe} (hfm : Mask.le 0x300801c002000000021f120000000070000000010000000000000000008100000000001400b60080017c190000000000000000000000000090000000000000000400620020040877de0 fm = true) (h0 : Keeps fm r0 s)  : Keeps fm r0 (commitStripe s p id x) := by
  unfold commitStripe
  try lift_lets -underBinder
  with_reducible repeat' first | assumption | exact fpart (by decide +kernel) hfm | exact fle (by decide +kernel) hfm | exact fok (by decide +kernel) hfm | exact fall (by decide +kernel) hfm | exact fokIx (by decide +kernel) hfm | exact fokAll (by decide +kernel) hfm | refine Mask.ok_ite ?_ ?_ | refine faultsOf_ok ?_ ?_ | refine fun _ _ (_ : Keeps fm r0 _) => ?_ | (intro a; refine (fun ha : Keeps fm r0 a => ?_) ?_; clear_value a; rotate_left; dsimp only [a]; rotate_right) | lift_lets -underBinder | apply countDev_keeps | apply endStripe_keeps | apply commitSlot_keeps | apply commitEntry_keeps | apply pageSwitches_keeps | apply copySwitches_keeps | apply logAtomics_keeps | apply noteRestored_keeps | apply noteSlots_keeps | apply freeParity_keeps | apply sealOn_keeps | apply checkRebuilt_keeps | apply tryDeallocs_keeps | apply completeCommitted_keeps | apply Keeps.forEach

theorem commitAtomic_keeps {fm : Nat} {r0 : State}  {s : State} {p : Nat} {vol : Nat} {first : Nat} (hfm : Mask.le 0x1c002000000000012000000000000000001000000000000000000000000000000000000008000001900000000000000000000000000000000000000000000000000000008734e0 fm = true) (h0 : Keeps fm r0 s)  : Keeps fm r0 (commitAtomic s p vol first) := by
  unfold commitAtomic
  try lift_lets -underBinder
  with_reducible repeat' first | assumption | exact fpart (by decide +kernel) hfm | exact fle (by decide +kernel) hfm | exact fok (by decide +kernel) hfm | exact fall (by decide +kernel) hfm | exact fokIx (by decide +kernel) hfm | exact fokAll (by decide +kernel) hfm | refine Mask.ok_ite ?_ ?_ | refine faultsOf_ok ?_ ?_ | refine fun _ _ (_ : Keeps fm r0 _) => ?_ | (intro a; refine (fun ha : Keeps fm r0 a => ?_) ?_; clear_value a; rotate_left; dsimp only [a]; rotate_right) | lift_lets -underBinder | apply modPool_keeps | apply completeCommitted_keeps | apply switchEntry_keeps | apply Keeps.forEach | split

theorem issueResets_keeps {fm : Nat} {r0 : State}  {s : State} {p : Nat} {slot : Nat} (hfm : Mask.le 0x100000000000000000000000000000014000000000000000000000000000000000000000000000000000000000000020000040807020 fm = true) (h0 : Keeps fm r0 s)  : Keeps fm r0 (issueResets s p slot) := by
  unfold issueResets
  try lift_lets -underBinder
  with_reducible repeat' first | assumption | exact fpart (by decide +kernel) hfm | exact fle (by decide +kernel) hfm | exact fok (by decide +kernel) hfm | exact fall (by decide +kernel) hfm | exact fokIx (by decide +kernel) hfm | exact fokAll (by decide +kernel) hfm | refine Mask.ok_ite ?_ ?_ | refine faultsOf_ok ?_ ?_ | refine fun _ _ (_ : Keeps fm r0 _) => ?_ | (intro a; refine (fun ha : Keeps fm r0 a => ?_) ?_; clear_value a; rotate_left; dsimp only [a]; rotate_right) | (intro a; clear_value a) | lift_lets -underBinder | apply Keeps.ite | apply modSeg_keeps | apply freedRecord_keeps | apply issueTo_keeps | apply Keeps.forEach | split

theorem freeSegment_keeps {fm : Nat} {r0 : State}  {s : State} {p : Nat} {slot : Nat} (hfm : Mask.le 0x3008000000000000001a0000000000000000000100000000000000000000000000000000008e0000017c000000000000000000000000000080000000000000000000000000000803320 fm = true) (h0 : Keeps fm r0 s)  : Keeps fm r0 (freeSegment s p slot) := by
  unfold freeSegment
  try lift_lets -underBinder
  with_reducible repeat' first | assumption | exact fpart (by decide +kernel) hfm | exact fle (by decide +kernel) hfm | exact fok (by decide +kernel) hfm | exact fall (by decide +kernel) hfm | exact fokIx (by decide +kernel) hfm | exact fokAll (by decide +kernel) hfm | refine Mask.ok_ite ?_ ?_ | refine faultsOf_ok ?_ ?_ | refine fun _ _ (_ : Keeps fm r0 _) => ?_ | (intro a; clear_value a) | lift_lets -underBinder | apply Keeps.ite | apply sweptOne_keeps | apply noteLanes_keeps | apply bump_keeps | apply freeZone_keeps | apply modPool_keeps | apply Keeps.forEach | split

theorem execSegmentResetStart_keeps {fm : Nat} {r0 : State}  {p : Nat} {slot : Nat} {s : State} (hfm : Mask.le 0x100000000000000000000000000000000000000000000000000000000000000000000000000000000000000000000000000000003020 fm = true) (h0 : Keeps fm r0 s)  : ∃ t1, (execSegmentResetStart p slot s) = .next t1 ∧ Keeps fm r0 t1 := by
  refine ⟨_, rfl, ?_⟩
  with_reducible repeat' first | assumption | exact fpart (by decide +kernel) hfm | exact fle (by decide +kernel) hfm | exact fok (by decide +kernel) hfm | exact fall (by decide +kernel) hfm | exact fokIx (by decide +kernel) hfm | exact fokAll (by decide +kernel) hfm | refine Mask.ok_ite ?_ ?_ | refine faultsOf_ok ?_ ?_ | apply Keeps.ite | apply logRec_keeps | apply modSeg_keeps | split

theorem zoneResetDone_keeps {fm : Nat} {r0 : State}  {s : State} {id : Nat} {ok : Bool} (hfm : Mask.le 0x380801c022000000001f160000000070100000010000000000000004003100000000001400860085017c19000000000000000000000000009c40000000000000040062002006287fde0 fm = true) (h0 : Keeps fm r0 s)  : Keeps fm r0 (zoneResetDone s id ok) := by
  unfold zoneResetDone
  try lift_lets -underBinder
  with_reducible repeat' first | assumption | exact fpart (by decide +kernel) hfm | exact fle (by decide +kernel) hfm | exact fok (by decide +kernel) hfm | exact fall (by decide +kernel) hfm | exact fokIx (by decide +kernel) hfm | exact fokAll (by decide +kernel) hfm | refine Mask.ok_ite ?_ ?_ | refine faultsOf_ok ?_ ?_ | (intro a; refine (fun ha : Keeps fm r0 a => ?_) ?_; clear_value a; rotate_left; dsimp only [a]; rotate_right) | (intro a; clear_value a) | lift_lets -underBinder | apply Keeps.ite | apply modSeg_keeps | apply endCmd_keeps | apply freedRecord_keeps | apply memberFault_keeps | split

theorem execZoneResetComplete_keeps {fm : Nat} {r0 : State}  {id : Nat} {ok : Bool} {s : State} (hfm : Mask.le 0x380801c022000000001f160000000070100000010000000000000004003100000000001400860085017c19000000000000000000000000009c40000000000000040062002006287fde0 fm = true) (h0 : Keeps fm r0 s)  : ∃ t1, (execZoneResetComplete id ok s) = .next t1 ∧ Keeps fm r0 t1 := by
  refine ⟨_, rfl, ?_⟩
  with_reducible repeat' first | assumption | exact fpart (by decide +kernel) hfm | exact fle (by decide +kernel) hfm | exact fok (by decide +kernel) hfm | exact fall (by decide +kernel) hfm | exact fokIx (by decide +kernel) hfm | exact fokAll (by decide +kernel) hfm | refine Mask.ok_ite ?_ ?_ | refine faultsOf_ok ?_ ?_ | apply zoneResetDone_keeps

theorem noteIlog_keeps {fm : Nat} {r0 : State}  {s : State} (hfm : Mask.le 0x10000000000000000000000000000000000000000000000000000000000000000000000000000000000000000000000000000000000 fm = true) (h0 : Keeps fm r0 s)  : Keeps fm r0 (noteIlog s) := by
  unfold noteIlog
  try lift_lets -underBinder
  with_reducible repeat' first
    | assumption
    | exact fpart (by decide +kernel) hfm
    | exact fle (by decide +kernel) hfm
    | exact fok (by decide +kernel) hfm
    | exact fall (by decide +kernel) hfm
    | exact fokIx (by decide +kernel) hfm
    | exact fokAll (by decide +kernel) hfm
    | refine Mask.ok_ite ?_ ?_
    | refine faultsOf_ok ?_ ?_
    | refine fun _ (_ : Keeps fm r0 _) => ?_
    | refine fun _ _ (_ : Keeps fm r0 _) => ?_
    | refine fun _ _ _ (_ : Keeps fm r0 _) => ?_
    | exact KeepsO.get rfl (by assumption)
    | exact KeepsP.get rfl (by assumption)
    | (intro a; refine (fun ha : Keeps fm r0 a => ?_) ?_; clear_value a; rotate_left; dsimp only [a]; rotate_right)
    | (intro a; refine (fun ha : Keeps fm r0 a.2 => ?_) ?_; clear_value a; rotate_left; dsimp only [a]; rotate_right)
    | (intro a; refine (fun ha : Keeps fm r0 a.1 => ?_) ?_; clear_value a; rotate_left; dsimp only [a]; rotate_right)
    | (intro a; refine (fun ha : KeepsO fm r0 a => ?_) ?_; clear_value a; rotate_left; dsimp only [a]; rotate_right)
    | (have _ := @hgb; intro a; refine (fun hgc : ∀ t, Keeps fm r0 t → Keeps fm r0 (a t) => ?_) ?_; clear_value a; rotate_left; dsimp only [a]; rotate_right)
    | (have _ := @hga; intro a; refine (fun hgb : ∀ t, Keeps fm r0 t → Keeps fm r0 (a t) => ?_) ?_; clear_value a; rotate_left; dsimp only [a]; rotate_right)
    | (intro a; refine (fun hga : ∀ t, Keeps fm r0 t → Keeps fm r0 (a t) => ?_) ?_; clear_value a; rotate_left; dsimp only [a]; rotate_right)
    | (have _ := @hgb; intro a; refine (fun hgc : ∀ x t, Keeps fm r0 t → Keeps fm r0 (a x t) => ?_) ?_; clear_value a; rotate_left; dsimp only [a]; rotate_right)
    | (have _ := @hga; intro a; refine (fun hgb : ∀ x t, Keeps fm r0 t → Keeps fm r0 (a x t) => ?_) ?_; clear_value a; rotate_left; dsimp only [a]; rotate_right)
    | (intro a; refine (fun hga : ∀ x t, Keeps fm r0 t → Keeps fm r0 (a x t) => ?_) ?_; clear_value a; rotate_left; dsimp only [a]; rotate_right)
    | (have _ := @hgb; intro a; refine (fun hgc : ∀ x y t, Keeps fm r0 t → Keeps fm r0 (a x y t) => ?_) ?_; clear_value a; rotate_left; dsimp only [a]; rotate_right)
    | (have _ := @hga; intro a; refine (fun hgb : ∀ x y t, Keeps fm r0 t → Keeps fm r0 (a x y t) => ?_) ?_; clear_value a; rotate_left; dsimp only [a]; rotate_right)
    | (intro a; refine (fun hga : ∀ x y t, Keeps fm r0 t → Keeps fm r0 (a x y t) => ?_) ?_; clear_value a; rotate_left; dsimp only [a]; rotate_right)
    | (have _ := @hgb; intro a; refine (fun hgc : ∀ t x, Keeps fm r0 t → Keeps fm r0 (a t x) => ?_) ?_; clear_value a; rotate_left; dsimp only [a]; rotate_right)
    | (have _ := @hga; intro a; refine (fun hgb : ∀ t x, Keeps fm r0 t → Keeps fm r0 (a t x) => ?_) ?_; clear_value a; rotate_left; dsimp only [a]; rotate_right)
    | (intro a; refine (fun hga : ∀ t x, Keeps fm r0 t → Keeps fm r0 (a t x) => ?_) ?_; clear_value a; rotate_left; dsimp only [a]; rotate_right)
    | (intro a; refine (fun (_ : a = (a : Dict)) => ?_) rfl; dsimp only [a])
    | (intro a; clear_value a)
    | apply hga
    | apply hgb
    | apply hgc
    | lift_lets -underBinder
    | apply Keeps.ite
    | apply lost_keeps
    | apply wr_keeps
    | apply Keeps.forEach
    | apply Keeps.forRange
    | apply Keeps.foldl
    | apply Keeps.foldl_fst
    | apply Keeps.foldl_snd
    | exact KeepsO.none
    | exact KeepsP.none
    | apply KeepsO.some
    | apply KeepsP.some
    | apply KeepsO.ite
    | apply KeepsP.ite
    | refine KeepsO.foldl _ _ ?_ (fun _ _ _ => ?_)
    | exact KeepsF.lost
    | apply KeepsF.started
    | apply KeepsF.ite
    | fail_if_no_progress (apply Keeps.upd <;> try first | exact Or.inr (fpart (by decide +kernel) hfm) | exact Or.inl rfl)
    | fail_if_no_progress (apply Keeps.updDict <;> try first | exact Or.inr (fpart (by decide +kernel) hfm) | exact Or.inl rfl)
    | refine Keeps.updRegs (rg := Tbl.filterK _ _) ?_ (Tbl.wf_filterK _) (Tbl.wf_filterK _)
    | refine Keeps.updRegs (rg := Tbl.filterK _ _) ?_ (Tbl.wf_filterK _) id
    | split
    | refine Keeps.of_snd (by assumption) ?_
    | refine Keeps.of_fst (by assumption) ?_
    | refine KeepsO.get (by assumption) ?_
    | refine KeepsP.get (by assumption) ?_
    | refine KeepsF.get (by assumption) ?_

theorem retireWord_keeps {fm : Nat} {r0 : State}  {s : State} (hfm : Mask.le 0x90000000000000000000000000000000000000000000000000000000000000000000000000000000000000000000000000000000000 fm = true) (h0 : Keeps fm r0 s)  : Keeps fm r0 (retireWord s) := by
  unfold retireWord
  with_reducible repeat' first | assumption | exact fpart (by decide +kernel) hfm | exact fle (by decide +kernel) hfm | exact fok (by decide +kernel) hfm | exact fall (by decide +kernel) hfm | exact fokIx (by decide +kernel) hfm | exact fokAll (by decide +kernel) hfm | refine Mask.ok_ite ?_ ?_ | refine faultsOf_ok ?_ ?_ | apply noteIlog_keeps | apply bump_keeps

theorem onDurable_keeps {fm : Nat} {r0 : State}  {s : State} {r : LogRec} (hfm : Mask.le 0x300801c002000000021f120000000070000000010000000000000000008100000000001400be0080017c190000000000000000000000000090000000000000000400620020040877fe0 fm = true) (h0 : Keeps fm r0 s)  : Keeps fm r0 (onDurable s r) := by
  unfold onDurable
  with_reducible repeat' first | assumption | exact fpart (by decide +kernel) hfm | exact fle (by decide +kernel) hfm | exact fok (by decide +kernel) hfm | exact fall (by decide +kernel) hfm | exact fokIx (by decide +kernel) hfm | exact fokAll (by decide +kernel) hfm | refine Mask.ok_ite ?_ ?_ | refine faultsOf_ok ?_ ?_ | apply Keeps.ite | apply commitStripe_keeps | apply commitAtomic_keeps | apply issueResets_keeps | apply freeSegment_keeps | apply noteFloor_keeps | split

theorem recordKept_keeps {fm : Nat} {r0 : State}  {s : State} {r : LogRec} {fails : Nat} {corrected : Bool} (hfm : Mask.le 0x490000000000000000000000000000000000000000000190000000000000000000000000000000000000000000000000000000842020 fm = true) (h0 : Keeps fm r0 s)  : Keeps fm r0 (recordKept s r fails corrected) := by
  unfold recordKept
  try lift_lets -underBinder
  with_reducible repeat' first
    | assumption
    | exact fpart (by decide +kernel) hfm
    | exact fle (by decide +kernel) hfm
    | exact fok (by decide +kernel) hfm
    | exact fall (by decide +kernel) hfm
    | exact fokIx (by decide +kernel) hfm
    | exact fokAll (by decide +kernel) hfm
    | refine Mask.ok_ite ?_ ?_
    | refine faultsOf_ok ?_ ?_
    | refine fun _ (_ : Keeps fm r0 _) => ?_
    | refine fun _ _ (_ : Keeps fm r0 _) => ?_
    | refine fun _ _ _ (_ : Keeps fm r0 _) => ?_
    | exact KeepsO.get rfl (by assumption)
    | exact KeepsP.get rfl (by assumption)
    | (intro a; refine (fun ha : Keeps fm r0 a => ?_) ?_; clear_value a; rotate_left; dsimp only [a]; rotate_right)
    | (intro a; refine (fun ha : Keeps fm r0 a.2 => ?_) ?_; clear_value a; rotate_left; dsimp only [a]; rotate_right)
    | (intro a; refine (fun ha : Keeps fm r0 a.1 => ?_) ?_; clear_value a; rotate_left; dsimp only [a]; rotate_right)
    | (intro a; refine (fun ha : KeepsO fm r0 a => ?_) ?_; clear_value a; rotate_left; dsimp only [a]; rotate_right)
    | (have _ := @hgb; intro a; refine (fun hgc : ∀ t, Keeps fm r0 t → Keeps fm r0 (a t) => ?_) ?_; clear_value a; rotate_left; dsimp only [a]; rotate_right)
    | (have _ := @hga; intro a; refine (fun hgb : ∀ t, Keeps fm r0 t → Keeps fm r0 (a t) => ?_) ?_; clear_value a; rotate_left; dsimp only [a]; rotate_right)
    | (intro a; refine (fun hga : ∀ t, Keeps fm r0 t → Keeps fm r0 (a t) => ?_) ?_; clear_value a; rotate_left; dsimp only [a]; rotate_right)
    | (have _ := @hgb; intro a; refine (fun hgc : ∀ x t, Keeps fm r0 t → Keeps fm r0 (a x t) => ?_) ?_; clear_value a; rotate_left; dsimp only [a]; rotate_right)
    | (have _ := @hga; intro a; refine (fun hgb : ∀ x t, Keeps fm r0 t → Keeps fm r0 (a x t) => ?_) ?_; clear_value a; rotate_left; dsimp only [a]; rotate_right)
    | (intro a; refine (fun hga : ∀ x t, Keeps fm r0 t → Keeps fm r0 (a x t) => ?_) ?_; clear_value a; rotate_left; dsimp only [a]; rotate_right)
    | (have _ := @hgb; intro a; refine (fun hgc : ∀ x y t, Keeps fm r0 t → Keeps fm r0 (a x y t) => ?_) ?_; clear_value a; rotate_left; dsimp only [a]; rotate_right)
    | (have _ := @hga; intro a; refine (fun hgb : ∀ x y t, Keeps fm r0 t → Keeps fm r0 (a x y t) => ?_) ?_; clear_value a; rotate_left; dsimp only [a]; rotate_right)
    | (intro a; refine (fun hga : ∀ x y t, Keeps fm r0 t → Keeps fm r0 (a x y t) => ?_) ?_; clear_value a; rotate_left; dsimp only [a]; rotate_right)
    | (have _ := @hgb; intro a; refine (fun hgc : ∀ t x, Keeps fm r0 t → Keeps fm r0 (a t x) => ?_) ?_; clear_value a; rotate_left; dsimp only [a]; rotate_right)
    | (have _ := @hga; intro a; refine (fun hgb : ∀ t x, Keeps fm r0 t → Keeps fm r0 (a t x) => ?_) ?_; clear_value a; rotate_left; dsimp only [a]; rotate_right)
    | (intro a; refine (fun hga : ∀ t x, Keeps fm r0 t → Keeps fm r0 (a t x) => ?_) ?_; clear_value a; rotate_left; dsimp only [a]; rotate_right)
    | (intro a; refine (fun (_ : a = (a : Dict)) => ?_) rfl; dsimp only [a])
    | (intro a; clear_value a)
    | apply hga
    | apply hgb
    | apply hgc
    | lift_lets -underBinder
    | apply Keeps.ite
    | apply bump_keeps
    | apply retireWord_keeps
    | apply sendRecord_keeps
    | apply Keeps.forEach
    | apply Keeps.forRange
    | apply Keeps.foldl
    | apply Keeps.foldl_fst
    | apply Keeps.foldl_snd
    | exact KeepsO.none
    | exact KeepsP.none
    | apply KeepsO.some
    | apply KeepsP.some
    | apply KeepsO.ite
    | apply KeepsP.ite
    | refine KeepsO.foldl _ _ ?_ (fun _ _ _ => ?_)
    | exact KeepsF.lost
    | apply KeepsF.started
    | apply KeepsF.ite
    | fail_if_no_progress (apply Keeps.upd <;> try first | exact Or.inr (fpart (by decide +kernel) hfm) | exact Or.inl rfl)
    | fail_if_no_progress (apply Keeps.updDict <;> try first | exact Or.inr (fpart (by decide +kernel) hfm) | exact Or.inl rfl)
    | refine Keeps.updRegs (rg := Tbl.filterK _ _) ?_ (Tbl.wf_filterK _) (Tbl.wf_filterK _)
    | refine Keeps.updRegs (rg := Tbl.filterK _ _) ?_ (Tbl.wf_filterK _) id
    | split
    | refine Keeps.of_snd (by assumption) ?_
    | refine Keeps.of_fst (by assumption) ?_
    | refine KeepsO.get (by assumption) ?_
    | refine KeepsP.get (by assumption) ?_
    | refine KeepsF.get (by assumption) ?_

theorem columnDone_keeps {fm : Nat} {r0 : State}  {s : State} {id : Nat} (hfm : Mask.le 0x3008000000000000001f000000000000000000010000000000000000000000000000001400860000017c190000000000000000000000000080000000000000000000020000040867920 fm = true) (h0 : Keeps fm r0 s)  : Keeps fm r0 (columnDone s id) := by
  unfold columnDone
  try lift_lets -underBinder
  with_reducible repeat' first | assumption | exact fpart (by decide +kernel) hfm | exact fle (by decide +kernel) hfm | exact fok (by decide +kernel) hfm | exact fall (by decide +kernel) hfm | exact fokIx (by decide +kernel) hfm | exact fokAll (by decide +kernel) hfm | refine Mask.ok_ite ?_ ?_ | refine faultsOf_ok ?_ ?_ | (intro a; refine (fun ha : Keeps fm r0 a => ?_) ?_; clear_value a; rotate_left; dsimp only [a]; rotate_right) | (intro a; clear_value a) | lift_lets -underBinder | apply Keeps.ite | apply modStripe_keeps | apply endCmd_keeps | apply sealGone_keeps | apply logRec_keeps | split

theorem execColumnWriteComplete_keeps {fm : Nat} {r0 : State}  {id : Nat} {s : State} (hfm : Mask.le 0x3008000000000000001f000000000000000000010000000000000000000000000000001400860000017c190000000000000000000000000080000000000000000000020000040867920 fm = true) (h0 : Keeps fm r0 s)  : ∃ t1, (execColumnWriteComplete id s) = .next t1 ∧ Keeps fm r0 t1 := by
  refine ⟨_, rfl, ?_⟩
  with_reducible repeat' first | assumption | exact fpart (by decide +kernel) hfm | exact fle (by decide +kernel) hfm | exact fok (by decide +kernel) hfm | exact fall (by decide +kernel) hfm | exact fokIx (by decide +kernel) hfm | exact fokAll (by decide +kernel) hfm | refine Mask.ok_ite ?_ ?_ | refine faultsOf_ok ?_ ?_ | apply columnDone_keeps

theorem execSlotRelease_keeps {fm : Nat} {r0 : State}  {n : Nat} {s : State} (hfm : Mask.le 0x700000000000000000000000000000000000000000000000000000190000000000000000000000000000000000000000000000000000000860820 fm = true) (h0 : Keeps fm r0 s)  : ∃ t1, (execSlotRelease n s) = .next t1 ∧ Keeps fm r0 t1 := by
  refine ⟨_, rfl, ?_⟩
  try lift_lets -underBinder
  with_reducible repeat' first | assumption | exact fpart (by decide +kernel) hfm | exact fle (by decide +kernel) hfm | exact fok (by decide +kernel) hfm | exact fall (by decide +kernel) hfm | exact fokIx (by decide +kernel) hfm | exact fokAll (by decide +kernel) hfm | refine Mask.ok_ite ?_ ?_ | refine faultsOf_ok ?_ ?_ | (intro a; refine (fun ha : Keeps fm r0 a => ?_) ?_; clear_value a; rotate_left; dsimp only [a]; rotate_right) | lift_lets -underBinder | apply Keeps.ite | apply releaseSlot_keeps | apply sendMsg_keeps | split

theorem execIlogWearRotate_keeps {fm : Nat} {r0 : State}  {s : State} (hfm : Mask.le 0x30080000000000000000000000000000000000005000000000000000000000000000000000000000017c000000000000000000000000000000000000000000000000000000000802120 fm = true) (h0 : Keeps fm r0 s)  : ∃ t1, (execIlogWearRotate s) = .next t1 ∧ Keeps fm r0 t1 := by
  refine ⟨_, rfl, ?_⟩
  try lift_lets -underBinder
  with_reducible repeat' first | assumption | exact fpart (by decide +kernel) hfm | exact fle (by decide +kernel) hfm | exact fok (by decide +kernel) hfm | exact fall (by decide +kernel) hfm | exact fokIx (by decide +kernel) hfm | exact fokAll (by decide +kernel) hfm | refine Mask.ok_ite ?_ ?_ | refine faultsOf_ok ?_ ?_ | (intro a; refine (fun ha : Keeps fm r0 a => ?_) ?_; clear_value a; rotate_left; dsimp only [a]; rotate_right) | (intro a; clear_value a) | lift_lets -underBinder | apply Keeps.ite | apply wr_keeps | apply noteIlog_keeps | apply raiseOpen_keeps | split | fail_if_no_progress (apply Keeps.upd <;> try first | exact Or.inr (fpart (by decide +kernel) hfm) | exact Or.inl rfl)

theorem startCkpt_keeps {fm : Nat} {r0 : State}  {s : State} {p : Nat} (hfm : Mask.le 0x1000 fm = true) (h0 : Keeps fm r0 s)  : Keeps fm r0 (startCkpt s p) := by
  unfold startCkpt
  try lift_lets -underBinder
  with_reducible repeat' first | assumption | exact fpart (by decide +kernel) hfm | exact fle (by decide +kernel) hfm | exact fok (by decide +kernel) hfm | exact fall (by decide +kernel) hfm | exact fokIx (by decide +kernel) hfm | exact fokAll (by decide +kernel) hfm | refine Mask.ok_ite ?_ ?_ | refine faultsOf_ok ?_ ?_ | (intro a; clear_value a) | apply modPool_keeps

theorem writeRoot_keeps {fm : Nat} {r0 : State}  {s : State} {p : Nat} {k : Ckpt} (hfm : Mask.le 0x3008000000000000001f000000000000000000010000000000000000000000000000001400860000017c1900000000000000000000000000800000000000000000000200000408679a0 fm = true) (h0 : Keeps fm r0 s)  : Keeps fm r0 (writeRoot s p k) := by
  unfold writeRoot
  with_reducible repeat' first | assumption | exact fpart (by decide +kernel) hfm | exact fle (by decide +kernel) hfm | exact fok (by decide +kernel) hfm | exact fall (by decide +kernel) hfm | exact fokIx (by decide +kernel) hfm | exact fokAll (by decide +kernel) hfm | refine Mask.ok_ite ?_ ?_ | refine faultsOf_ok ?_ ?_ | apply writePage_keeps | apply modPool_keeps | split

theorem writeLeaves_keeps {fm : Nat} {r0 : State}  {s : State} {p : Nat} {k : Ckpt} (hfm : Mask.le 0x3008000000000000001f000000000000000000010000000000000000000000000000001400860000017c1900000000000000000000000000800000000000000000000200000408679a0 fm = true) (h0 : Keeps fm r0 s)  : Keeps fm r0 (writeLeaves s p k) := by
  unfold writeLeaves
  try lift_lets -underBinder
  with_reducible repeat' first
    | assumption
    | exact fpart (by decide +kernel) hfm
    | exact fle (by decide +kernel) hfm
    | exact fok (by decide +kernel) hfm
    | exact fall (by decide +kernel) hfm
    | exact fokIx (by decide +kernel) hfm
    | exact fokAll (by decide +kernel) hfm
    | refine Mask.ok_ite ?_ ?_
    | refine faultsOf_ok ?_ ?_
    | refine fun _ (_ : Keeps fm r0 _) => ?_
    | refine fun _ _ (_ : Keeps fm r0 _) => ?_
    | refine fun _ _ _ (_ : Keeps fm r0 _) => ?_
    | exact KeepsO.get rfl (by assumption)
    | exact KeepsP.get rfl (by assumption)
    | (intro a; refine (fun ha : Keeps fm r0 a => ?_) ?_; clear_value a; rotate_left; dsimp only [a]; rotate_right)
    | (intro a; refine (fun ha : Keeps fm r0 a.2 => ?_) ?_; clear_value a; rotate_left; dsimp only [a]; rotate_right)
    | (intro a; refine (fun ha : Keeps fm r0 a.1 => ?_) ?_; clear_value a; rotate_left; dsimp only [a]; rotate_right)
    | (intro a; refine (fun ha : KeepsO fm r0 a => ?_) ?_; clear_value a; rotate_left; dsimp only [a]; rotate_right)
    | (have _ := @hgb; intro a; refine (fun hgc : ∀ t, Keeps fm r0 t → Keeps fm r0 (a t) => ?_) ?_; clear_value a; rotate_left; dsimp only [a]; rotate_right)
    | (have _ := @hga; intro a; refine (fun hgb : ∀ t, Keeps fm r0 t → Keeps fm r0 (a t) => ?_) ?_; clear_value a; rotate_left; dsimp only [a]; rotate_right)
    | (intro a; refine (fun hga : ∀ t, Keeps fm r0 t → Keeps fm r0 (a t) => ?_) ?_; clear_value a; rotate_left; dsimp only [a]; rotate_right)
    | (have _ := @hgb; intro a; refine (fun hgc : ∀ x t, Keeps fm r0 t → Keeps fm r0 (a x t) => ?_) ?_; clear_value a; rotate_left; dsimp only [a]; rotate_right)
    | (have _ := @hga; intro a; refine (fun hgb : ∀ x t, Keeps fm r0 t → Keeps fm r0 (a x t) => ?_) ?_; clear_value a; rotate_left; dsimp only [a]; rotate_right)
    | (intro a; refine (fun hga : ∀ x t, Keeps fm r0 t → Keeps fm r0 (a x t) => ?_) ?_; clear_value a; rotate_left; dsimp only [a]; rotate_right)
    | (have _ := @hgb; intro a; refine (fun hgc : ∀ x y t, Keeps fm r0 t → Keeps fm r0 (a x y t) => ?_) ?_; clear_value a; rotate_left; dsimp only [a]; rotate_right)
    | (have _ := @hga; intro a; refine (fun hgb : ∀ x y t, Keeps fm r0 t → Keeps fm r0 (a x y t) => ?_) ?_; clear_value a; rotate_left; dsimp only [a]; rotate_right)
    | (intro a; refine (fun hga : ∀ x y t, Keeps fm r0 t → Keeps fm r0 (a x y t) => ?_) ?_; clear_value a; rotate_left; dsimp only [a]; rotate_right)
    | (have _ := @hgb; intro a; refine (fun hgc : ∀ t x, Keeps fm r0 t → Keeps fm r0 (a t x) => ?_) ?_; clear_value a; rotate_left; dsimp only [a]; rotate_right)
    | (have _ := @hga; intro a; refine (fun hgb : ∀ t x, Keeps fm r0 t → Keeps fm r0 (a t x) => ?_) ?_; clear_value a; rotate_left; dsimp only [a]; rotate_right)
    | (intro a; refine (fun hga : ∀ t x, Keeps fm r0 t → Keeps fm r0 (a t x) => ?_) ?_; clear_value a; rotate_left; dsimp only [a]; rotate_right)
    | (intro a; refine (fun (_ : a = (a : Dict)) => ?_) rfl; dsimp only [a])
    | (intro a; clear_value a)
    | apply hga
    | apply hgb
    | apply hgc
    | lift_lets -underBinder
    | apply Keeps.ite
    | apply writePage_keeps
    | apply modPool_keeps
    | apply Keeps.forEach
    | apply Keeps.forRange
    | apply Keeps.foldl
    | apply Keeps.foldl_fst
    | apply Keeps.foldl_snd
    | exact KeepsO.none
    | exact KeepsP.none
    | apply KeepsO.some
    | apply KeepsP.some
    | apply KeepsO.ite
    | apply KeepsP.ite
    | refine KeepsO.foldl _ _ ?_ (fun _ _ _ => ?_)
    | exact KeepsF.lost
    | apply KeepsF.started
    | apply KeepsF.ite
    | fail_if_no_progress (apply Keeps.upd <;> try first | exact Or.inr (fpart (by decide +kernel) hfm) | exact Or.inl rfl)
    | fail_if_no_progress (apply Keeps.updDict <;> try first | exact Or.inr (fpart (by decide +kernel) hfm) | exact Or.inl rfl)
    | refine Keeps.updRegs (rg := Tbl.filterK _ _) ?_ (Tbl.wf_filterK _) (Tbl.wf_filterK _)
    | refine Keeps.updRegs (rg := Tbl.filterK _ _) ?_ (Tbl.wf_filterK _) id
    | split
    | refine Keeps.of_snd (by assumption) ?_
    | refine Keeps.of_fst (by assumption) ?_
    | refine KeepsO.get (by assumption) ?_
    | refine KeepsP.get (by assumption) ?_
    | refine KeepsF.get (by assumption) ?_

theorem beginStep_keeps {fm : Nat} {r0 : State}  {s : State} {p : Nat} {k : Ckpt} {n : Nat} (hfm : Mask.le 0x3008000000000000001f000000000000000000010000000000000000000000000000001400860000017c1900000000000000000000000000800000000000000000000200000408679a0 fm = true) (h0 : Keeps fm r0 s)  : Keeps fm r0 (beginStep s p k n) := by
  unfold beginStep
  try lift_lets -underBinder
  with_reducible repeat' first | assumption | exact fpart (by decide +kernel) hfm | exact fle (by decide +kernel) hfm | exact fok (by decide +kernel) hfm | exact fall (by decide +kernel) hfm | exact fokIx (by decide +kernel) hfm | exact fokAll (by decide +kernel) hfm | refine Mask.ok_ite ?_ ?_ | refine faultsOf_ok ?_ ?_ | refine fun _ _ (_ : Keeps fm r0 _) => ?_ | (intro a; refine (fun ha : Keeps fm r0 a => ?_) ?_; clear_value a; rotate_left; dsimp only [a]; rotate_right) | (intro a; clear_value a) | lift_lets -underBinder | apply Keeps.ite | apply modPool_keeps | apply writeLeaves_keeps | apply writePage_keeps | apply writeRoot_keeps | apply logRec_keeps | apply Keeps.forEach

theorem discardRecords_keeps {fm : Nat} {r0 : State}  {s : State} {p : Nat} {cut : Nat} (hfm : Mask.le 0x100000000000000000000000000000000000000000000000000000000000000000000000000000000000000000000000000000002020 fm = true) (h0 : Keeps fm r0 s)  : Keeps fm r0 (discardRecords s p cut) := by
  unfold discardRecords
  try lift_lets -underBinder
  with_reducible repeat' first | assumption | exact fpart (by decide +kernel) hfm | exact fle (by decide +kernel) hfm | exact fok (by decide +kernel) hfm | exact fall (by decide +kernel) hfm | exact fokIx (by decide +kernel) hfm | exact fokAll (by decide +kernel) hfm | refine Mask.ok_ite ?_ ?_ | refine faultsOf_ok ?_ ?_ | refine fun _ _ (_ : Keeps fm r0 _) => ?_ | (intro a; clear_value a) | lift_lets -underBinder | apply appendRec_keeps | apply Keeps.forEach | fail_if_no_progress (apply Keeps.upd <;> try first | exact Or.inr (fpart (by decide +kernel) hfm) | exact Or.inl rfl)

theorem releaseVols_keeps {fm : Nat} {r0 : State}  {s : State} {p : Nat} {l : List Nat} (hfm : Mask.le 0x140000000000001900000000000000000000000000000003f0000000000400020000040845220 fm = true) (h0 : Keeps fm r0 s)  : Keeps fm r0 (releaseVols s p l) := by
  unfold releaseVols
  try lift_lets -underBinder
  with_reducible repeat' first
    | assumption
    | exact fpart (by decide +kernel) hfm
    | exact fle (by decide +kernel) hfm
    | exact fok (by decide +kernel) hfm
    | exact fall (by decide +kernel) hfm
    | exact fokIx (by decide +kernel) hfm
    | exact fokAll (by decide +kernel) hfm
    | refine Mask.ok_ite ?_ ?_
    | refine faultsOf_ok ?_ ?_
    | refine fun _ (_ : Keeps fm r0 _) => ?_
    | refine fun _ _ (_ : Keeps fm r0 _) => ?_
    | refine fun _ _ _ (_ : Keeps fm r0 _) => ?_
    | exact KeepsO.get rfl (by assumption)
    | exact KeepsP.get rfl (by assumption)
    | (intro a; refine (fun ha : Keeps fm r0 a => ?_) ?_; clear_value a; rotate_left; dsimp only [a]; rotate_right)
    | (intro a; refine (fun ha : Keeps fm r0 a.2 => ?_) ?_; clear_value a; rotate_left; dsimp only [a]; rotate_right)
    | (intro a; refine (fun ha : Keeps fm r0 a.1 => ?_) ?_; clear_value a; rotate_left; dsimp only [a]; rotate_right)
    | (intro a; refine (fun ha : KeepsO fm r0 a => ?_) ?_; clear_value a; rotate_left; dsimp only [a]; rotate_right)
    | (have _ := @hgb; intro a; refine (fun hgc : ∀ t, Keeps fm r0 t → Keeps fm r0 (a t) => ?_) ?_; clear_value a; rotate_left; dsimp only [a]; rotate_right)
    | (have _ := @hga; intro a; refine (fun hgb : ∀ t, Keeps fm r0 t → Keeps fm r0 (a t) => ?_) ?_; clear_value a; rotate_left; dsimp only [a]; rotate_right)
    | (intro a; refine (fun hga : ∀ t, Keeps fm r0 t → Keeps fm r0 (a t) => ?_) ?_; clear_value a; rotate_left; dsimp only [a]; rotate_right)
    | (have _ := @hgb; intro a; refine (fun hgc : ∀ x t, Keeps fm r0 t → Keeps fm r0 (a x t) => ?_) ?_; clear_value a; rotate_left; dsimp only [a]; rotate_right)
    | (have _ := @hga; intro a; refine (fun hgb : ∀ x t, Keeps fm r0 t → Keeps fm r0 (a x t) => ?_) ?_; clear_value a; rotate_left; dsimp only [a]; rotate_right)
    | (intro a; refine (fun hga : ∀ x t, Keeps fm r0 t → Keeps fm r0 (a x t) => ?_) ?_; clear_value a; rotate_left; dsimp only [a]; rotate_right)
    | (have _ := @hgb; intro a; refine (fun hgc : ∀ x y t, Keeps fm r0 t → Keeps fm r0 (a x y t) => ?_) ?_; clear_value a; rotate_left; dsimp only [a]; rotate_right)
    | (have _ := @hga; intro a; refine (fun hgb : ∀ x y t, Keeps fm r0 t → Keeps fm r0 (a x y t) => ?_) ?_; clear_value a; rotate_left; dsimp only [a]; rotate_right)
    | (intro a; refine (fun hga : ∀ x y t, Keeps fm r0 t → Keeps fm r0 (a x y t) => ?_) ?_; clear_value a; rotate_left; dsimp only [a]; rotate_right)
    | (have _ := @hgb; intro a; refine (fun hgc : ∀ t x, Keeps fm r0 t → Keeps fm r0 (a t x) => ?_) ?_; clear_value a; rotate_left; dsimp only [a]; rotate_right)
    | (have _ := @hga; intro a; refine (fun hgb : ∀ t x, Keeps fm r0 t → Keeps fm r0 (a t x) => ?_) ?_; clear_value a; rotate_left; dsimp only [a]; rotate_right)
    | (intro a; refine (fun hga : ∀ t x, Keeps fm r0 t → Keeps fm r0 (a t x) => ?_) ?_; clear_value a; rotate_left; dsimp only [a]; rotate_right)
    | (intro a; refine (fun (_ : a = (a : Dict)) => ?_) rfl; dsimp only [a])
    | (intro a; clear_value a)
    | apply hga
    | apply hgb
    | apply hgc
    | lift_lets -underBinder
    | apply Keeps.ite
    | apply writeSuper_keeps
    | apply clrAll_keeps
    | apply Keeps.forEach
    | apply Keeps.forRange
    | apply Keeps.foldl
    | apply Keeps.foldl_fst
    | apply Keeps.foldl_snd
    | exact KeepsO.none
    | exact KeepsP.none
    | apply KeepsO.some
    | apply KeepsP.some
    | apply KeepsO.ite
    | apply KeepsP.ite
    | refine KeepsO.foldl _ _ ?_ (fun _ _ _ => ?_)
    | exact KeepsF.lost
    | apply KeepsF.started
    | apply KeepsF.ite
    | fail_if_no_progress (apply Keeps.upd <;> try first | exact Or.inr (fpart (by decide +kernel) hfm) | exact Or.inl rfl)
    | fail_if_no_progress (apply Keeps.updDict <;> try first | exact Or.inr (fpart (by decide +kernel) hfm) | exact Or.inl rfl)
    | refine Keeps.updRegs (rg := Tbl.filterK _ _) ?_ (Tbl.wf_filterK _) (Tbl.wf_filterK _)
    | refine Keeps.updRegs (rg := Tbl.filterK _ _) ?_ (Tbl.wf_filterK _) id
    | split
    | refine Keeps.of_snd (by assumption) ?_
    | refine Keeps.of_fst (by assumption) ?_
    | refine KeepsO.get (by assumption) ?_
    | refine KeepsP.get (by assumption) ?_
    | refine KeepsF.get (by assumption) ?_

theorem releaseIds_keeps {fm : Nat} {r0 : State}  {s : State} {p : Nat} {cut : Nat} (hfm : Mask.le 0x140000000000001900000000000000000000000000000003f0000000000400020000040845220 fm = true) (h0 : Keeps fm r0 s)  : Keeps fm r0 (releaseIds s p cut) := by
  unfold releaseIds
  with_reducible repeat' first | assumption | exact fpart (by decide +kernel) hfm | exact fle (by decide +kernel) hfm | exact fok (by decide +kernel) hfm | exact fall (by decide +kernel) hfm | exact fokIx (by decide +kernel) hfm | exact fokAll (by decide +kernel) hfm | refine Mask.ok_ite ?_ ?_ | refine faultsOf_ok ?_ ?_ | apply releaseVols_keeps

theorem endCkpt_keeps {fm : Nat} {r0 : State}  {s : State} {p : Nat} {k : Ckpt} (hfm : Mask.le 0x30080000000000000000000000000000000000033000000000000000000000000000001400000470017c1900000000000000000000000000000003f0000000000400020000040847320 fm = true) (h0 : Keeps fm r0 s)  : Keeps fm r0 (endCkpt s p k) := by
  unfold endCkpt
  try lift_lets -underBinder
  with_reducible repeat' first | assumption | exact fpart (by decide +kernel) hfm | exact fle (by decide +kernel) hfm | exact fok (by decide +kernel) hfm | exact fall (by decide +kernel) hfm | exact fokIx (by decide +kernel) hfm | exact fokAll (by decide +kernel) hfm | refine Mask.ok_ite ?_ ?_ | refine faultsOf_ok ?_ ?_ | (intro a; refine (fun ha : Keeps fm r0 a => ?_) ?_; clear_value a; rotate_left; dsimp only [a]; rotate_right) | (intro a; clear_value a) | lift_lets -underBinder | apply Keeps.ite | apply wr_keeps | apply modPool_keeps | apply noteHolds_keeps | apply noteSweep_keeps | apply releaseIds_keeps | apply discardRecords_keeps | apply noteIlog_keeps | apply startCkpt_keeps | fail_if_no_progress (apply Keeps.upd <;> try first | exact Or.inr (fpart (by decide +kernel) hfm) | exact Or.inl rfl)

theorem execCheckpointStart_keeps {fm : Nat} {r0 : State}  {p : Nat} {s : State} (hfm : Mask.le 0x1000 fm = true) (h0 : Keeps fm r0 s)  : ∃ t1, (execCheckpointStart p s) = .next t1 ∧ Keeps fm r0 t1 := by
  refine ⟨_, rfl, ?_⟩
  with_reducible repeat' first | assumption | exact fpart (by decide +kernel) hfm | exact fle (by decide +kernel) hfm | exact fok (by decide +kernel) hfm | exact fall (by decide +kernel) hfm | exact fokIx (by decide +kernel) hfm | exact fokAll (by decide +kernel) hfm | refine Mask.ok_ite ?_ ?_ | refine faultsOf_ok ?_ ?_ | apply Keeps.ite | apply startCkpt_keeps

theorem execCheckpointStepDone_keeps {fm : Nat} {r0 : State}  {p : Nat} {s : State} (hfm : Mask.le 0x3008000000000000001f000000000000000000033000000000000000000000000000001400860470017c1900000000000000000000000000800003f0000000000400020000040867ba0 fm = true) (h0 : Keeps fm r0 s)  : ∃ t1, (execCheckpointStepDone p s) = .next t1 ∧ Keeps fm r0 t1 := by
  refine ⟨_, rfl, ?_⟩
  with_reducible repeat' first | assumption | exact fpart (by decide +kernel) hfm | exact fle (by decide +kernel) hfm | exact fok (by decide +kernel) hfm | exact fall (by decide +kernel) hfm | exact fokIx (by decide +kernel) hfm | exact fokAll (by decide +kernel) hfm | refine Mask.ok_ite ?_ ?_ | refine faultsOf_ok ?_ ?_ | apply Keeps.ite | apply endCkpt_keeps | apply writeLeaves_keeps | apply writeRoot_keeps | apply beginStep_keeps | split

theorem execMapCheckpointNow_keeps {fm : Nat} {r0 : State}  {p : Nat} {s : State} (hfm : Mask.le 0x1000 fm = true) (h0 : Keeps fm r0 s)  : ∃ t1, (execMapCheckpointNow p s) = .next t1 ∧ Keeps fm r0 t1 := by
  refine ⟨_, rfl, ?_⟩
  with_reducible repeat' first | assumption | exact fpart (by decide +kernel) hfm | exact fle (by decide +kernel) hfm | exact fok (by decide +kernel) hfm | exact fall (by decide +kernel) hfm | exact fokIx (by decide +kernel) hfm | exact fokAll (by decide +kernel) hfm | refine Mask.ok_ite ?_ ?_ | refine faultsOf_ok ?_ ?_ | apply Keeps.ite | apply requestCkpt_keeps

theorem execDeallocateCompletion_keeps {fm : Nat} {r0 : State}  {q : Nat} {tag : Nat} {s : State} (hfm : Mask.le 0x300801c00200000000000200000000000000000320000000000000000000000000000000000004c0017c0000000000000000000000000000000000000000000000000000000008335e0 fm = true) (h0 : Keeps fm r0 s)  : ∃ t1, (execDeallocateCompletion q tag s) = .next t1 ∧ Keeps fm r0 t1 := by
  refine ⟨_, rfl, ?_⟩
  with_reducible repeat' first | assumption | exact fpart (by decide +kernel) hfm | exact fle (by decide +kernel) hfm | exact fok (by decide +kernel) hfm | exact fall (by decide +kernel) hfm | exact fokIx (by decide +kernel) hfm | exact fokAll (by decide +kernel) hfm | refine Mask.ok_ite ?_ ?_ | refine faultsOf_ok ?_ ?_ | apply Keeps.ite | apply noteHolds_keeps | apply finish_keeps | apply applyDealloc_keeps | split | fail_if_no_progress (apply Keeps.upd <;> try first | exact Or.inr (fpart (by decide +kernel) hfm) | exact Or.inl rfl)

/-! ## Dredge -/

theorem fetchPageCopy_keeps {fm : Nat} {r0 : State}  {s : State} {p : Nat} {slot : Nat} {addr : Nat} {zs : Nat} {j : Nat} (hfm : Mask.le 0x14000000000000000000000000000000000000000000000000000000000000620000040804120 fm = true) (h0 : Keeps fm r0 s)  : Keeps fm r0 (fetchPageCopy s p slot addr zs j) := by
  unfold fetchPageCopy
  try lift_lets -underBinder
  with_reducible repeat' first | assumption | exact fpart (by decide +kernel) hfm | exact fle (by decide +kernel) hfm | exact fok (by decide +kernel) hfm | exact fall (by decide +kernel) hfm | exact fokIx (by decide +kernel) hfm | exact fokAll (by decide +kernel) hfm | refine Mask.ok_ite ?_ ?_ | refine faultsOf_ok ?_ ?_ | (intro a; clear_value a) | lift_lets -underBinder | apply issueTo_keeps | apply setCond_keeps | split

theorem dredgeSegment_keeps {fm : Nat} {r0 : State}  {s : State} {p : Nat} {slot : Nat} (hfm : Mask.le 0x380801c002000000001f160000000000000000010000000000000000000000000000001400860080017c19000000000000000000000000008040000000000000000062000004087fd20 fm = true) (h0 : Keeps fm r0 s)  : Keeps fm r0 (dredgeSegment s p slot) := by
  unfold dredgeSegment
  try lift_lets -underBinder
  with_reducible repeat' first | assumption | exact fpart (by decide +kernel) hfm | exact fle (by decide +kernel) hfm | exact fok (by decide +kernel) hfm | exact fall (by decide +kernel) hfm | exact fokIx (by decide +kernel) hfm | exact fokAll (by decide +kernel) hfm | refine Mask.ok_ite ?_ ?_ | refine faultsOf_ok ?_ ?_ | refine fun _ _ (_ : Keeps fm r0 _) => ?_ | (intro a; refine (fun ha : Keeps fm r0 a => ?_) ?_; clear_value a; rotate_left; dsimp only [a]; rotate_right) | (intro a; clear_value a) | lift_lets -underBinder | apply Keeps.ite | apply modSeg_keeps | apply copyEnded_keeps | apply fetchPageCopy_keeps | apply startCopy_keeps | apply Keeps.forEach | split

theorem noteDredger_keeps {fm : Nat} {r0 : State}  {s : State} {p : Nat} (hfm : Mask.le 0x30080000000000000000000000000000000000000000000000000000000000000000000000820000017c000000000000000000000000000000000000000000000000000000000800120 fm = true) (h0 : Keeps fm r0 s)  : Keeps fm r0 (noteDredger s p) := by
  unfold noteDredger
  try lift_lets -underBinder
  with_reducible repeat' first
    | assumption
    | exact fpart (by decide +kernel) hfm
    | exact fle (by decide +kernel) hfm
    | exact fok (by decide +kernel) hfm
    | exact fall (by decide +kernel) hfm
    | exact fokIx (by decide +kernel) hfm
    | exact fokAll (by decide +kernel) hfm
    | refine Mask.ok_ite ?_ ?_
    | refine faultsOf_ok ?_ ?_
    | refine fun _ (_ : Keeps fm r0 _) => ?_
    | refine fun _ _ (_ : Keeps fm r0 _) => ?_
    | refine fun _ _ _ (_ : Keeps fm r0 _) => ?_
    | exact KeepsO.get rfl (by assumption)
    | exact KeepsP.get rfl (by assumption)
    | (intro a; refine (fun ha : Keeps fm r0 a => ?_) ?_; clear_value a; rotate_left; dsimp only [a]; rotate_right)
    | (intro a; refine (fun ha : Keeps fm r0 a.2 => ?_) ?_; clear_value a; rotate_left; dsimp only [a]; rotate_right)
    | (intro a; refine (fun ha : Keeps fm r0 a.1 => ?_) ?_; clear_value a; rotate_left; dsimp only [a]; rotate_right)
    | (intro a; refine (fun ha : KeepsO fm r0 a => ?_) ?_; clear_value a; rotate_left; dsimp only [a]; rotate_right)
    | (have _ := @hgb; intro a; refine (fun hgc : ∀ t, Keeps fm r0 t → Keeps fm r0 (a t) => ?_) ?_; clear_value a; rotate_left; dsimp only [a]; rotate_right)
    | (have _ := @hga; intro a; refine (fun hgb : ∀ t, Keeps fm r0 t → Keeps fm r0 (a t) => ?_) ?_; clear_value a; rotate_left; dsimp only [a]; rotate_right)
    | (intro a; refine (fun hga : ∀ t, Keeps fm r0 t → Keeps fm r0 (a t) => ?_) ?_; clear_value a; rotate_left; dsimp only [a]; rotate_right)
    | (have _ := @hgb; intro a; refine (fun hgc : ∀ x t, Keeps fm r0 t → Keeps fm r0 (a x t) => ?_) ?_; clear_value a; rotate_left; dsimp only [a]; rotate_right)
    | (have _ := @hga; intro a; refine (fun hgb : ∀ x t, Keeps fm r0 t → Keeps fm r0 (a x t) => ?_) ?_; clear_value a; rotate_left; dsimp only [a]; rotate_right)
    | (intro a; refine (fun hga : ∀ x t, Keeps fm r0 t → Keeps fm r0 (a x t) => ?_) ?_; clear_value a; rotate_left; dsimp only [a]; rotate_right)
    | (have _ := @hgb; intro a; refine (fun hgc : ∀ x y t, Keeps fm r0 t → Keeps fm r0 (a x y t) => ?_) ?_; clear_value a; rotate_left; dsimp only [a]; rotate_right)
    | (have _ := @hga; intro a; refine (fun hgb : ∀ x y t, Keeps fm r0 t → Keeps fm r0 (a x y t) => ?_) ?_; clear_value a; rotate_left; dsimp only [a]; rotate_right)
    | (intro a; refine (fun hga : ∀ x y t, Keeps fm r0 t → Keeps fm r0 (a x y t) => ?_) ?_; clear_value a; rotate_left; dsimp only [a]; rotate_right)
    | (have _ := @hgb; intro a; refine (fun hgc : ∀ t x, Keeps fm r0 t → Keeps fm r0 (a t x) => ?_) ?_; clear_value a; rotate_left; dsimp only [a]; rotate_right)
    | (have _ := @hga; intro a; refine (fun hgb : ∀ t x, Keeps fm r0 t → Keeps fm r0 (a t x) => ?_) ?_; clear_value a; rotate_left; dsimp only [a]; rotate_right)
    | (intro a; refine (fun hga : ∀ t x, Keeps fm r0 t → Keeps fm r0 (a t x) => ?_) ?_; clear_value a; rotate_left; dsimp only [a]; rotate_right)
    | (intro a; refine (fun (_ : a = (a : Dict)) => ?_) rfl; dsimp only [a])
    | (intro a; clear_value a)
    | apply hga
    | apply hgb
    | apply hgc
    | lift_lets -underBinder
    | apply Keeps.ite
    | apply noteUrgent_keeps
    | apply wr_keeps
    | apply Keeps.forEach
    | apply Keeps.forRange
    | apply Keeps.foldl
    | apply Keeps.foldl_fst
    | apply Keeps.foldl_snd
    | exact KeepsO.none
    | exact KeepsP.none
    | apply KeepsO.some
    | apply KeepsP.some
    | apply KeepsO.ite
    | apply KeepsP.ite
    | refine KeepsO.foldl _ _ ?_ (fun _ _ _ => ?_)
    | exact KeepsF.lost
    | apply KeepsF.started
    | apply KeepsF.ite
    | fail_if_no_progress (apply Keeps.upd <;> try first | exact Or.inr (fpart (by decide +kernel) hfm) | exact Or.inl rfl)
    | fail_if_no_progress (apply Keeps.updDict <;> try first | exact Or.inr (fpart (by decide +kernel) hfm) | exact Or.inl rfl)
    | refine Keeps.updRegs (rg := Tbl.filterK _ _) ?_ (Tbl.wf_filterK _) (Tbl.wf_filterK _)
    | refine Keeps.updRegs (rg := Tbl.filterK _ _) ?_ (Tbl.wf_filterK _) id
    | split
    | refine Keeps.of_snd (by assumption) ?_
    | refine Keeps.of_fst (by assumption) ?_
    | refine KeepsO.get (by assumption) ?_
    | refine KeepsP.get (by assumption) ?_
    | refine KeepsF.get (by assumption) ?_

theorem execDredgeSelect_keeps {fm : Nat} {r0 : State}  {p : Nat} {s : State} (hfm : Mask.le 0x380801c002000000001f160000000000000000010000000000000000000000000000001400860080017c19000000000000000000000000008040000000000000000062000004087fd20 fm = true) (h0 : Keeps fm r0 s)  : ∃ t1, (execDredgeSelect p s) = .next t1 ∧ Keeps fm r0 t1 := by
  refine ⟨_, rfl, ?_⟩
  try lift_lets -underBinder
  with_reducible repeat' first | assumption | exact fpart (by decide +kernel) hfm | exact fle (by decide +kernel) hfm | exact fok (by decide +kernel) hfm | exact fall (by decide +kernel) hfm | exact fokIx (by decide +kernel) hfm | exact fokAll (by decide +kernel) hfm | refine Mask.ok_ite ?_ ?_ | refine faultsOf_ok ?_ ?_ | (intro a; refine (fun ha : Keeps fm r0 a => ?_) ?_; clear_value a; rotate_left; dsimp only [a]; rotate_right) | (intro a; clear_value a) | lift_lets -underBinder | apply Keeps.ite | apply noteDredger_keeps | apply modPool_keeps | apply dredgeSegment_keeps | split

theorem removeMember_keeps {fm : Nat} {r0 : State}  {s : State} {p : Nat} {m : Nat} (hfm : Mask.le 0x100000000000000000000000000000014000000000000000000000000000000000000000010000000000000000000020020040807020 fm = true) (h0 : Keeps fm r0 s)  : Keeps fm r0 (removeMember s p m) := by
  unfold removeMember
  with_reducible repeat' first | assumption | exact fpart (by decide +kernel) hfm | exact fle (by decide +kernel) hfm | exact fok (by decide +kernel) hfm | exact fall (by decide +kernel) hfm | exact fokIx (by decide +kernel) hfm | exact fokAll (by decide +kernel) hfm | refine Mask.ok_ite ?_ ?_ | refine faultsOf_ok ?_ ?_ | apply releaseMember_keeps | apply modPool_keeps

theorem endReshape_keeps {fm : Nat} {r0 : State}  {s : State} {p : Nat} {r : Reshape} (hfm : Mask.le 0x100000000000000000000000000000014000000040000190000000016000000000000000010000000000000000400620020040847120 fm = true) (h0 : Keeps fm r0 s)  : Keeps fm r0 (endReshape s p r) := by
  unfold endReshape
  try lift_lets -underBinder
  with_reducible repeat' first | assumption | exact fpart (by decide +kernel) hfm | exact fle (by decide +kernel) hfm | exact fok (by decide +kernel) hfm | exact fall (by decide +kernel) hfm | exact fokIx (by decide +kernel) hfm | exact fokAll (by decide +kernel) hfm | refine Mask.ok_ite ?_ ?_ | refine faultsOf_ok ?_ ?_ | (intro a; refine (fun ha : Keeps fm r0 a => ?_) ?_; clear_value a; rotate_left; dsimp only [a]; rotate_right) | lift_lets -underBinder | apply Keeps.ite | apply wr_keeps | apply setCond_keeps | apply modPool_keeps | apply removeMember_keeps | apply writeSuper_keeps | apply logRec_keeps

theorem execReshapeCursorAdvance_keeps {fm : Nat} {r0 : State}  {p : Nat} {s : State} (hfm : Mask.le 0x100000000000000000000000000000014000000040000190000000016000000000000000010000000000000000400620020040847120 fm = true) (h0 : Keeps fm r0 s)  : ∃ t1, (execReshapeCursorAdvance p s) = .next t1 ∧ Keeps fm r0 t1 := by
  refine ⟨_, rfl, ?_⟩
  try lift_lets -underBinder
  with_reducible repeat' first | assumption | exact fpart (by decide +kernel) hfm | exact fle (by decide +kernel) hfm | exact fok (by decide +kernel) hfm | exact fall (by decide +kernel) hfm | exact fokIx (by decide +kernel) hfm | exact fokAll (by decide +kernel) hfm | refine Mask.ok_ite ?_ ?_ | refine faultsOf_ok ?_ ?_ | refine fun _ _ (_ : Keeps fm r0 _) => ?_ | (intro a; refine (fun hga : ∀ t x, Keeps fm r0 t → Keeps fm r0 (a t x) => ?_) ?_; clear_value a; rotate_left; dsimp only [a]; rotate_right) | (intro a; clear_value a) | apply hga | lift_lets -underBinder | apply Keeps.ite | apply endReshape_keeps | apply modPool_keeps | apply wr_keeps | apply logRec_keeps | split

/-! ## MemberReads -/

theorem mediaFault_keeps {fm : Nat} {r0 : State}  {s : State} {p : Nat} {m : Nat} (hfm : Mask.le 0x380801c022000000001f160000000070100000010000000000000004003100000000001400860087017c19000000000000000000000000009c40000000000000040062002006287fde0 fm = true) (h0 : Keeps fm r0 s)  : Keeps fm r0 (mediaFault s p m) := by
  unfold mediaFault
  try lift_lets -underBinder
  with_reducible repeat' first | assumption | exact fpart (by decide +kernel) hfm | exact fle (by decide +kernel) hfm | exact fok (by decide +kernel) hfm | exact fall (by decide +kernel) hfm | exact fokIx (by decide +kernel) hfm | exact fokAll (by decide +kernel) hfm | refine Mask.ok_ite ?_ ?_ | refine faultsOf_ok ?_ ?_ | (intro a; refine (fun ha : Keeps fm r0 a => ?_) ?_; clear_value a; rotate_left; dsimp only [a]; rotate_right) | lift_lets -underBinder | apply Keeps.ite | apply mediaError_keeps | apply memberFault_keeps

theorem countFail_keeps {fm : Nat} {r0 : State}  {s : State} {p : Nat} {x : Check} (hfm : Mask.le 0x600000000000000000000000000000000000000000000000000000000000000000000000000000000000000000000000000000000000000000 fm = true) (h0 : Keeps fm r0 s)  : Keeps fm r0 (countFail s p x) := by
  unfold countFail
  with_reducible repeat' first | assumption | exact fpart (by decide +kernel) hfm | exact fle (by decide +kernel) hfm | exact fok (by decide +kernel) hfm | exact fall (by decide +kernel) hfm | exact fokIx (by decide +kernel) hfm | exact fokAll (by decide +kernel) hfm | refine Mask.ok_ite ?_ ?_ | refine faultsOf_ok ?_ ?_ | apply bump_keeps

theorem pageRepaired_keeps {fm : Nat} {r0 : State}  {s : State} {p : Nat} {slot : Nat} {col : Nat} (hfm : Mask.le 0x30080000000000000000000000000000080000000000000000000000000000000000000000000000017c000000000000000000000000000000000000000000000000000000000800120 fm = true) (h0 : Keeps fm r0 s)  : Keeps fm r0 (pageRepaired s p slot col) := by
  unfold pageRepaired
  with_reducible repeat' first
    | assumption
    | exact fpart (by decide +kernel) hfm
    | exact fle (by decide +kernel) hfm
    | exact fok (by decide +kernel) hfm
    | exact fall (by decide +kernel) hfm
    | exact fokIx (by decide +kernel) hfm
    | exact fokAll (by decide +kernel) hfm
    | refine Mask.ok_ite ?_ ?_
    | refine faultsOf_ok ?_ ?_
    | refine fun _ (_ : Keeps fm r0 _) => ?_
    | refine fun _ _ (_ : Keeps fm r0 _) => ?_
    | refine fun _ _ _ (_ : Keeps fm r0 _) => ?_
    | exact KeepsO.get rfl (by assumption)
    | exact KeepsP.get rfl (by assumption)
    | apply Keeps.ite
    | apply raise_keeps
    | apply bump_keeps
    | apply Keeps.forEach
    | apply Keeps.forRange
    | apply Keeps.foldl
    | apply Keeps.foldl_fst
    | apply Keeps.foldl_snd
    | exact KeepsO.none
    | exact KeepsP.none
    | apply KeepsO.some
    | apply KeepsP.some
    | apply KeepsO.ite
    | apply KeepsP.ite
    | refine KeepsO.foldl _ _ ?_ (fun _ _ _ => ?_)
    | exact KeepsF.lost
    | apply KeepsF.started
    | apply KeepsF.ite
    | fail_if_no_progress (apply Keeps.upd <;> try first | exact Or.inr (fpart (by decide +kernel) hfm) | exact Or.inl rfl)
    | fail_if_no_progress (apply Keeps.updDict <;> try first | exact Or.inr (fpart (by decide +kernel) hfm) | exact Or.inl rfl)
    | refine Keeps.updRegs (rg := Tbl.filterK _ _) ?_ (Tbl.wf_filterK _) (Tbl.wf_filterK _)
    | refine Keeps.updRegs (rg := Tbl.filterK _ _) ?_ (Tbl.wf_filterK _) id
    | split
    | refine Keeps.of_snd (by assumption) ?_
    | refine Keeps.of_fst (by assumption) ?_
    | refine KeepsO.get (by assumption) ?_
    | refine KeepsP.get (by assumption) ?_
    | refine KeepsF.get (by assumption) ?_

theorem poisoned_keeps {fm : Nat} {r0 : State}  {s : State} {p : Nat} {m : Nat} (hfm : Mask.le 0x380801c022000000001f160000000070100000010000000000000004003100000000001400860087017c19000000000000000000000000009c40000000000000040062002006287fde0 fm = true) (h0 : Keeps fm r0 s)  : Keeps fm r0 (poisoned s p m) := by
  unfold poisoned
  with_reducible repeat' first | assumption | exact fpart (by decide +kernel) hfm | exact fle (by decide +kernel) hfm | exact fok (by decide +kernel) hfm | exact fall (by decide +kernel) hfm | exact fokIx (by decide +kernel) hfm | exact fokAll (by decide +kernel) hfm | refine Mask.ok_ite ?_ ?_ | refine faultsOf_ok ?_ ?_ | apply Keeps.ite | apply freezePort_keeps | apply mediaFault_keeps

theorem sectorLands_keeps {fm : Nat} {r0 : State}  {s : State} {w : Want} {p : Nat} {v : Nat} {lba : Nat} {slot : Nat} {zs : Nat} {col : Nat} {b : Bytes} {flt : SecFault} (hfm : Mask.le 0x800000000000380801c03a000000001f160003600074170000010000000000000004003100000003001400860087017c19000000000000000000000000009c40001000000000040062002006287fde0 fm = true) (h0 : Keeps fm r0 s)  : Keeps fm r0 (sectorLands s w p v lba slot zs col b flt) := by
  unfold sectorLands
  try lift_lets -underBinder
  with_reducible repeat' first | assumption | exact fpart (by decide +kernel) hfm | exact fle (by decide +kernel) hfm | exact fok (by decide +kernel) hfm | exact fall (by decide +kernel) hfm | exact fokIx (by decide +kernel) hfm | exact fokAll (by decide +kernel) hfm | refine Mask.ok_ite ?_ ?_ | refine faultsOf_ok ?_ ?_ | refine fun _ (_ : Keeps fm r0 _) => ?_ | (intro a; refine (fun hga : ∀ t, Keeps fm r0 t → Keeps fm r0 (a t) => ?_) ?_; clear_value a; rotate_left; dsimp only [a]; rotate_right) | (intro a; clear_value a) | apply hga | lift_lets -underBinder | apply Keeps.ite | apply poisoned_keeps | apply mediaFault_keeps | apply gotSector_keeps | apply fetchPageCopy_keeps | apply countFail_keeps | apply servedByDecode_keeps | split

theorem searchOn_keeps {fm : Nat} {r0 : State}  {s : State} {job : Nat} {x : Job} {g : Seg} (hfm : Mask.le 0x380801c002000000001f160000000070100000010000000000000000000000000000001400860080017c19000000000000000000000000008040000000000000000062000004087fde0 fm = true) (h0 : Keeps fm r0 s)  : Keeps fm r0 (searchOn s job x g) := by
  unfold searchOn
  try lift_lets -underBinder
  with_reducible repeat' first | assumption | exact fpart (by decide +kernel) hfm | exact fle (by decide +kernel) hfm | exact fok (by decide +kernel) hfm | exact fall (by decide +kernel) hfm | exact fokIx (by decide +kernel) hfm | exact fokAll (by decide +kernel) hfm | refine Mask.ok_ite ?_ ?_ | refine faultsOf_ok ?_ ?_ | (intro a; clear_value a) | lift_lets -underBinder | apply lostFetch_keeps | apply endJob_keeps | apply readSources_keeps | fail_if_no_progress (apply Keeps.upd <;> try first | exact Or.inr (fpart (by decide +kernel) hfm) | exact Or.inl rfl) | split

theorem repairSource_keeps {fm : Nat} {r0 : State}  {s : State} {p : Nat} {slot : Nat} {zs : Nat} {col : Nat} (hfm : Mask.le 0x380801c002000000001f160000000070100000010000000000000000000000000000001400860080017c19000000000000000000000000008040000000000000000062000004087fde0 fm = true) (h0 : Keeps fm r0 s)  : Keeps fm r0 (repairSource s p slot zs col) := by
  unfold repairSource
  with_reducible repeat' first | assumption | exact fpart (by decide +kernel) hfm | exact fle (by decide +kernel) hfm | exact fok (by decide +kernel) hfm | exact fall (by decide +kernel) hfm | exact fokIx (by decide +kernel) hfm | exact fokAll (by decide +kernel) hfm | refine Mask.ok_ite ?_ ?_ | refine faultsOf_ok ?_ ?_ | apply servedByDecode_keeps | split

theorem sourceLands_keeps {fm : Nat} {r0 : State}  {s : State} {job : Nat} {col : Nat} {b : Bytes} {flt : SecFault} (hfm : Mask.le 0x380801c022000000001f160000000070160000010000000000000004003100000000001400860087017c19000000000000000000000000009c40000000000000040062002006287fde0 fm = true) (h0 : Keeps fm r0 s)  : Keeps fm r0 (sourceLands s job col b flt) := by
  unfold sourceLands
  try lift_lets -underBinder
  with_reducible repeat' first | assumption | exact fpart (by decide +kernel) hfm | exact fle (by decide +kernel) hfm | exact fok (by decide +kernel) hfm | exact fall (by decide +kernel) hfm | exact fokIx (by decide +kernel) hfm | exact fokAll (by decide +kernel) hfm | refine Mask.ok_ite ?_ ?_ | refine faultsOf_ok ?_ ?_ | (intro a; refine (fun ha : Keeps fm r0 a => ?_) ?_; clear_value a; rotate_left; dsimp only [a]; rotate_right) | (intro a; clear_value a) | lift_lets -underBinder | apply Keeps.ite | apply endJob_keeps | apply countFail_keeps | apply poisoned_keeps | apply mediaFault_keeps | apply searchOn_keeps | apply decodeInstead_keeps | apply repairSource_keeps | split | fail_if_no_progress (apply Keeps.upd <;> try first | exact Or.inr (fpart (by decide +kernel) hfm) | exact Or.inl rfl)

theorem execMemberReadComplete_keeps {fm : Nat} {r0 : State}  {id : Nat} {data : Bytes} {flt : SecFault} {s : State} (hfm : Mask.le 0x800000000000380801c03a000000001f160003600074170000010000000000000004003100000003001400860087017c19000000000000000000000000009c40001000000000040062002006287fde0 fm = true) (h0 : Keeps fm r0 s)  : ∃ t1, (execMemberReadComplete id data flt s) = .next t1 ∧ Keeps fm r0 t1 := by
  refine ⟨_, rfl, ?_⟩
  with_reducible repeat' first | assumption | exact fpart (by decide +kernel) hfm | exact fle (by decide +kernel) hfm | exact fok (by decide +kernel) hfm | exact fall (by decide +kernel) hfm | exact fokIx (by decide +kernel) hfm | exact fokAll (by decide +kernel) hfm | refine Mask.ok_ite ?_ ?_ | refine faultsOf_ok ?_ ?_ | apply sectorLands_keeps | apply endCmd_keeps | apply sourceLands_keeps | split

theorem decodedOk_keeps {fm : Nat} {r0 : State}  {s : State} {job : Nat} {x : Job} {d : Bytes} {m : Meta} (hfm : Mask.le 0x800000000000380801c01a000000001f160003600074090000010000000000000000002000000003001400860080017c19000000000000000000000000008040001000000000000002000004087fde0 fm = true) (h0 : Keeps fm r0 s)  : Keeps fm r0 (decodedOk s job x d m) := by
  unfold decodedOk
  try lift_lets -underBinder
  with_reducible repeat' first | assumption | exact fpart (by decide +kernel) hfm | exact fle (by decide +kernel) hfm | exact fok (by decide +kernel) hfm | exact fall (by decide +kernel) hfm | exact fokIx (by decide +kernel) hfm | exact fokAll (by decide +kernel) hfm | refine Mask.ok_ite ?_ ?_ | refine faultsOf_ok ?_ ?_ | (intro a; refine (fun ha : Keeps fm r0 a => ?_) ?_; clear_value a; rotate_left; dsimp only [a]; rotate_right) | lift_lets -underBinder | apply Keeps.ite | apply noteRepair_keeps | apply endJob_keeps | apply repairSector_keeps | apply gotSector_keeps

theorem execDegradedDecodeDone_keeps {fm : Nat} {r0 : State}  {job : Nat} {s : State} (hfm : Mask.le 0x800000000000380801c01a000000001f160003600074190000010000000000000000002000000003001400860080017c19000000000000000000000000008040001000000000000062000004087fde0 fm = true) (h0 : Keeps fm r0 s)  : ∃ t1, (execDegradedDecodeDone job s) = .next t1 ∧ Keeps fm r0 t1 := by
  refine ⟨_, rfl, ?_⟩
  try lift_lets -underBinder
  with_reducible repeat' first | assumption | exact fpart (by decide +kernel) hfm | exact fle (by decide +kernel) hfm | exact fok (by decide +kernel) hfm | exact fall (by decide +kernel) hfm | exact fokIx (by decide +kernel) hfm | exact fokAll (by decide +kernel) hfm | refine Mask.ok_ite ?_ ?_ | refine faultsOf_ok ?_ ?_ | (intro a; clear_value a) | lift_lets -underBinder | apply Keeps.ite | apply endJob_keeps | apply gotSector_keeps | apply decodedOk_keeps | apply searchOn_keeps | split

theorem installLeaf_keeps {fm : Nat} {r0 : State}  {s : State} {key : Nat} {es : List Entry} (hfm : Mask.le 0x20400 fm = true) (h0 : Keeps fm r0 s)  : Keeps fm r0 (installLeaf s key es) := by
  unfold installLeaf
  try lift_lets -underBinder
  with_reducible repeat' first | assumption | exact fpart (by decide +kernel) hfm | exact fle (by decide +kernel) hfm | exact fok (by decide +kernel) hfm | exact fall (by decide +kernel) hfm | exact fokIx (by decide +kernel) hfm | exact fokAll (by decide +kernel) hfm | refine Mask.ok_ite ?_ ?_ | refine faultsOf_ok ?_ ?_ | refine fun _ _ (_ : Keeps fm r0 _) => ?_ | (intro a; clear_value a) | lift_lets -underBinder | apply Keeps.ite | apply dropVer_keeps | apply setEntry_keeps | apply Keeps.forEach | apply Keeps.forRange

theorem resumeLeaf_keeps {fm : Nat} {r0 : State}  {s : State} {key : Nat} (hfm : Mask.le 0x800000000000380807c01a000000001f160003600000010001010100000000000000000000000027c01400860180017c19000000000000000000000000008040001000000000000062000004087fde0 fm = true) (h0 : Keeps fm r0 s)  : Keeps fm r0 (resumeLeaf s key) := by
  unfold resumeLeaf
  with_reducible repeat' first | assumption | exact fpart (by decide +kernel) hfm | exact fle (by decide +kernel) hfm | exact fok (by decide +kernel) hfm | exact fall (by decide +kernel) hfm | exact fokIx (by decide +kernel) hfm | exact fokAll (by decide +kernel) hfm | refine Mask.ok_ite ?_ ?_ | refine faultsOf_ok ?_ ?_ | refine fun _ _ (_ : Keeps fm r0 _) => ?_ | apply resolveWhere_keeps | apply Keeps.forEach

theorem leafArrived_keeps {fm : Nat} {r0 : State}  {s : State} {key : Nat} {b : Bytes} (hfm : Mask.le 0x800000000000380807c01a000000001f160003600000010001010100000000000000000000000027c01400860180017c19000000000000000000000000008040001000000000000062000004087fde0 fm = true) (h0 : Keeps fm r0 s)  : Keeps fm r0 (leafArrived s key b) := by
  unfold leafArrived
  try lift_lets -underBinder
  with_reducible repeat' first | assumption | exact fpart (by decide +kernel) hfm | exact fle (by decide +kernel) hfm | exact fok (by decide +kernel) hfm | exact fall (by decide +kernel) hfm | exact fokIx (by decide +kernel) hfm | exact fokAll (by decide +kernel) hfm | refine Mask.ok_ite ?_ ?_ | refine faultsOf_ok ?_ ?_ | (intro a; clear_value a) | lift_lets -underBinder | apply Keeps.ite | apply resumeLeaf_keeps | apply bringLeaf_keeps | apply installLeaf_keeps

theorem execMapLeafReadComplete_keeps {fm : Nat} {r0 : State}  {id : Nat} {data : Bytes} {ok : Bool} {s : State} (hfm : Mask.le 0x800000000000380807c03a000000001f160003600070170001010100000000000004003100000027c01400860187017c19000000000000000000000000009c40001000000000040062002006287fde0 fm = true) (h0 : Keeps fm r0 s)  : ∃ t1, (execMapLeafReadComplete id data ok s) = .next t1 ∧ Keeps fm r0 t1 := by
  refine ⟨_, rfl, ?_⟩
  try lift_lets -underBinder
  with_reducible repeat' first | assumption | exact fpart (by decide +kernel) hfm | exact fle (by decide +kernel) hfm | exact fok (by decide +kernel) hfm | exact fall (by decide +kernel) hfm | exact fokIx (by decide +kernel) hfm | exact fokAll (by decide +kernel) hfm | refine Mask.ok_ite ?_ ?_ | refine faultsOf_ok ?_ ?_ | (intro a; refine (fun ha : Keeps fm r0 a => ?_) ?_; clear_value a; rotate_left; dsimp only [a]; rotate_right) | (intro a; clear_value a) | lift_lets -underBinder | apply Keeps.ite | apply endCmd_keeps | apply leafArrived_keeps | apply mediaFault_keeps | apply countFail_keeps | apply setCond_keeps | apply readLeaf_keeps | split

/-! ## Patrol -/

theorem relocateStripe_keeps {fm : Nat} {r0 : State}  {s : State} {p : Nat} {slot : Nat} {h : StripeHdr} (hfm : Mask.le 0x380801c002000000001f160000000000000000010000000000000000000000000000001400860080017c19000000000000000000000000008040000000000000000002000004087fd20 fm = true) (h0 : Keeps fm r0 s)  : Keeps fm r0 (relocateStripe s p slot h) := by
  unfold relocateStripe
  with_reducible repeat' first | assumption | exact fpart (by decide +kernel) hfm | exact fle (by decide +kernel) hfm | exact fok (by decide +kernel) hfm | exact fall (by decide +kernel) hfm | exact fokIx (by decide +kernel) hfm | exact fokAll (by decide +kernel) hfm | refine Mask.ok_ite ?_ ?_ | refine faultsOf_ok ?_ ?_ | refine fun _ _ (_ : Keeps fm r0 _) => ?_ | apply startCopy_keeps | apply Keeps.forEach

theorem finding_keeps {fm : Nat} {r0 : State}  {s : State} {p : Nat} {o : ObjDesc} (hfm : Mask.le 0x30080000000000000000000000000000000000000000000000000000000000000000000000000000017c000000000000000000000000000000000000000000000000000000000800120 fm = true) (hm_o : Mask.ok fm o = true) (h0 : Keeps fm r0 s)  : Keeps fm r0 (finding s p o) := by
  unfold finding
  with_reducible repeat' first | assumption | exact fpart (by decide +kernel) hfm | exact fle (by decide +kernel) hfm | exact fok (by decide +kernel) hfm | exact fall (by decide +kernel) hfm | exact fokIx (by decide +kernel) hfm | exact fokAll (by decide +kernel) hfm | refine Mask.ok_ite ?_ ?_ | refine faultsOf_ok ?_ ?_ | apply raiseOpen_keeps | apply bump_keeps

theorem relocateColumn_keeps {fm : Nat} {r0 : State}  {s : State} {p : Nat} {slot : Nat} {h : StripeHdr} {j : Nat} (hfm : Mask.le 0x380801c002000000001f160000000070100000010000000000000000000000000000001400860080017c19000000000000000000000000008040000000000000000062000004087fde0 fm = true) (h0 : Keeps fm r0 s)  : Keeps fm r0 (relocateColumn s p slot h j) := by
  unfold relocateColumn
  with_reducible repeat' first | assumption | exact fpart (by decide +kernel) hfm | exact fle (by decide +kernel) hfm | exact fok (by decide +kernel) hfm | exact fall (by decide +kernel) hfm | exact fokIx (by decide +kernel) hfm | exact fokAll (by decide +kernel) hfm | refine Mask.ok_ite ?_ ?_ | refine faultsOf_ok ?_ ?_ | refine fun _ _ (_ : Keeps fm r0 _) => ?_ | apply servedByDecode_keeps | apply Keeps.forRange | split

theorem repairBad_keeps {fm : Nat} {r0 : State}  {s : State} {p : Nat} {slot : Nat} {h : StripeHdr} {bad : List (Nat × Nat × Check)} (hfm : Mask.le 0x380801c022000000001f160000000070160000010000000000000004003100000000001400860087017c19000000000000000000000000009c40000000000000040062002006287fde0 fm = true) (h0 : Keeps fm r0 s)  : Keeps fm r0 (repairBad s p slot h bad) := by
  unfold repairBad
  try lift_lets -underBinder
  with_reducible repeat' first | assumption | exact fpart (by decide +kernel) hfm | exact fle (by decide +kernel) hfm | exact fok (by decide +kernel) hfm | exact fall (by decide +kernel) hfm | exact fokIx (by decide +kernel) hfm | exact fokAll (by decide +kernel) hfm | refine Mask.ok_ite ?_ ?_ | refine faultsOf_ok ?_ ?_ | refine fun _ _ (_ : Keeps fm r0 _) => ?_ | (intro a; refine (fun ha : Keeps fm r0 a => ?_) ?_; clear_value a; rotate_left; dsimp only [a]; rotate_right) | lift_lets -underBinder | apply Keeps.ite | apply mediaFault_keeps | apply countFail_keeps | apply repairSource_keeps | apply relocateStripe_keeps | apply Keeps.forEach | split

theorem repairPages_keeps {fm : Nat} {r0 : State}  {s : State} {p : Nat} {slot : Nat} {g : Seg} {h : StripeHdr} {cols : List (Option Bytes)} (hfm : Mask.le 0x800000000000380801c03a000000001f1600036000741f0000010000000000000004003100000003001400860087017c19000000000000000000000000009c40001000000000040062002006287fde0 fm = true) (h0 : Keeps fm r0 s)  : Keeps fm r0 (repairPages s p slot g h cols).1 := by
  unfold repairPages
  try lift_lets -underBinder
  with_reducible repeat' first | assumption | exact fpart (by decide +kernel) hfm | exact fle (by decide +kernel) hfm | exact fok (by decide +kernel) hfm | exact fall (by decide +kernel) hfm | exact fokIx (by decide +kernel) hfm | exact fokAll (by decide +kernel) hfm | refine Mask.ok_ite ?_ ?_ | refine faultsOf_ok ?_ ?_ | refine fun _ _ (_ : Keeps fm r0 _) => ?_ | (intro a; refine (fun ha : Keeps fm r0 a => ?_) ?_; clear_value a; rotate_left; dsimp only [a]; rotate_right) | (intro a; clear_value a) | lift_lets -underBinder | apply Keeps.ite | apply Keeps.ite_fst | apply mediaFault_keeps | apply countFail_keeps | apply gotSector_keeps | apply pageRepaired_keeps | apply Keeps.forEach | apply Keeps.foldl_fst | split

theorem patrolStripe_keeps {fm : Nat} {r0 : State}  {s : State} {p : Nat} {slot : Nat} {h : StripeHdr} {cols : List (Option Bytes)} (hfm : Mask.le 0x800000000000380801c03a000000001f1600036000741f0000010000000000003004003100000003001400860087017c19000000000000000000000000009c40001000000000040062002006287fde0 fm = true) (h0 : Keeps fm r0 s)  : Keeps fm r0 (patrolStripe s p slot h cols) := by
  unfold patrolStripe
  try lift_lets -underBinder
  with_reducible repeat' first | assumption | exact fpart (by decide +kernel) hfm | exact fle (by decide +kernel) hfm | exact fok (by decide +kernel) hfm | exact fall (by decide +kernel) hfm | exact fokIx (by decide +kernel) hfm | exact fokAll (by decide +kernel) hfm | refine Mask.ok_ite ?_ ?_ | refine faultsOf_ok ?_ ?_ | refine fun _ _ (_ : Keeps fm r0 _) => ?_ | (intro a; refine (fun ha : Keeps fm r0 a => ?_) ?_; clear_value a; rotate_left; dsimp only [a]; rotate_right) | (intro a; refine (fun ha : Keeps fm r0 a.1 => ?_) ?_; clear_value a; rotate_left; dsimp only [a]; rotate_right) | (intro a; clear_value a) | lift_lets -underBinder | apply Keeps.ite | apply repairPages_keeps | apply finding_keeps | apply repairBad_keeps | apply relocateColumn_keeps | apply relocateStripe_keeps | apply Keeps.forRange | split

theorem resyncStripe_keeps {fm : Nat} {r0 : State}  {s : State} {p : Nat} {slot : Nat} {h : StripeHdr} {cols : List (Option Bytes)} (hfm : Mask.le 0x800000000000380801c03a000000001f1600036000741f0000010000000000000004003100000003001400860087017c19000000000000000000000000009c40001000000000040062002006287fde0 fm = true) (h0 : Keeps fm r0 s)  : Keeps fm r0 (resyncStripe s p slot h cols).1 := by
  unfold resyncStripe
  try lift_lets -underBinder
  with_reducible repeat' first | assumption | exact fpart (by decide +kernel) hfm | exact fle (by decide +kernel) hfm | exact fok (by decide +kernel) hfm | exact fall (by decide +kernel) hfm | exact fokIx (by decide +kernel) hfm | exact fokAll (by decide +kernel) hfm | refine Mask.ok_ite ?_ ?_ | refine faultsOf_ok ?_ ?_ | (intro a; refine (fun ha : Keeps fm r0 a => ?_) ?_; clear_value a; rotate_left; dsimp only [a]; rotate_right) | (intro a; refine (fun ha : Keeps fm r0 a.1 => ?_) ?_; clear_value a; rotate_left; dsimp only [a]; rotate_right) | (intro a; clear_value a) | lift_lets -underBinder | apply Keeps.ite | apply Keeps.ite_fst | apply repairPages_keeps | apply repairBad_keeps | apply relocateStripe_keeps | split

theorem execPatrolStripe_keeps {fm : Nat} {r0 : State}  {p : Nat} {cols : List (Option Bytes)} {s : State} (hfm : Mask.le 0x800000000000380801c03a000000001f1600036000741f0000010000000000003f84003100000003001400860087017c19000000000000000000000000009c40001000000000040062002006287fde0 fm = true) (h0 : Keeps fm r0 s)  : ∃ t1, (execPatrolStripe p cols s) = .next t1 ∧ Keeps fm r0 t1 := by
  refine ⟨_, rfl, ?_⟩
  try lift_lets -underBinder
  with_reducible repeat' first | assumption | exact fpart (by decide +kernel) hfm | exact fle (by decide +kernel) hfm | exact fok (by decide +kernel) hfm | exact fall (by decide +kernel) hfm | exact fokIx (by decide +kernel) hfm | exact fokAll (by decide +kernel) hfm | refine Mask.ok_ite ?_ ?_ | refine faultsOf_ok ?_ ?_ | (intro a; refine (fun ha : Keeps fm r0 a => ?_) ?_; clear_value a; rotate_left; dsimp only [a]; rotate_right) | (intro a; clear_value a) | lift_lets -underBinder | apply Keeps.ite | apply wr_keeps | apply bump_keeps | apply modPool_keeps | apply patrolStripe_keeps | split

theorem execPatrolRestart_keeps {fm : Nat} {r0 : State}  {p : Nat} {s : State} (hfm : Mask.le 0x1000000000000000000000000000000000000000000000000000000000000000000000000000000000000000001000 fm = true) (h0 : Keeps fm r0 s)  : ∃ t1, (execPatrolRestart p s) = .next t1 ∧ Keeps fm r0 t1 := by
  refine ⟨_, rfl, ?_⟩
  with_reducible repeat' first | assumption | exact fpart (by decide +kernel) hfm | exact fle (by decide +kernel) hfm | exact fok (by decide +kernel) hfm | exact fall (by decide +kernel) hfm | exact fokIx (by decide +kernel) hfm | exact fokAll (by decide +kernel) hfm | refine Mask.ok_ite ?_ ?_ | refine faultsOf_ok ?_ ?_ | apply Keeps.ite | apply wr_keeps | apply modPool_keeps

theorem execResyncStripeCheck_keeps {fm : Nat} {r0 : State}  {p : Nat} {cols : List (Option Bytes)} {s : State} (hfm : Mask.le 0x800000000000380801c03a00000000df1600036000741f0000010000000000000004003100000003001400860087017c19000000000000000000000000009c40001000000000040062002006287fde0 fm = true) (h0 : Keeps fm r0 s)  : ∃ t1, (execResyncStripeCheck p cols s) = .next t1 ∧ Keeps fm r0 t1 := by
  refine ⟨_, rfl, ?_⟩
  try lift_lets -underBinder
  with_reducible repeat' first | assumption | exact fpart (by decide +kernel) hfm | exact fle (by decide +kernel) hfm | exact fok (by decide +kernel) hfm | exact fall (by decide +kernel) hfm | exact fokIx (by decide +kernel) hfm | exact fokAll (by decide +kernel) hfm | refine Mask.ok_ite ?_ ?_ | refine faultsOf_ok ?_ ?_ | refine fun _ (_ : Keeps fm r0 _) => ?_ | (intro a; refine (fun ha : Keeps fm r0 a => ?_) ?_; clear_value a; rotate_left; dsimp only [a]; rotate_right) | (intro a; refine (fun ha : Keeps fm r0 a.1 => ?_) ?_; clear_value a; rotate_left; dsimp only [a]; rotate_right) | (intro a; refine (fun hga : ∀ t, Keeps fm r0 t → Keeps fm r0 (a t) => ?_) ?_; clear_value a; rotate_left; dsimp only [a]; rotate_right) | apply hga | lift_lets -underBinder | apply Keeps.ite | apply setCond_keeps | apply modPool_keeps | apply wr_keeps | apply resyncStripe_keeps | apply bump_keeps | split

theorem execRebuildNextSegment_keeps {fm : Nat} {r0 : State}  {p : Nat} {s : State} (hfm : Mask.le 0x380801c002000000001f160000000000000000010000000000000000000100000000001400860080017c19000000000000000000000000009040000000000000040062002004087fd20 fm = true) (h0 : Keeps fm r0 s)  : ∃ t1, (execRebuildNextSegment p s) = .next t1 ∧ Keeps fm r0 t1 := by
  refine ⟨_, rfl, ?_⟩
  try lift_lets -underBinder
  with_reducible repeat' first | assumption | exact fpart (by decide +kernel) hfm | exact fle (by decide +kernel) hfm | exact fok (by decide +kernel) hfm | exact fall (by decide +kernel) hfm | exact fokIx (by decide +kernel) hfm | exact fokAll (by decide +kernel) hfm | refine Mask.ok_ite ?_ ?_ | refine faultsOf_ok ?_ ?_ | refine fun _ _ (_ : Keeps fm r0 _) => ?_ | (intro a; clear_value a) | lift_lets -underBinder | apply Keeps.ite | apply checkRebuilt_keeps | apply fetchPageCopy_keeps | apply startCopy_keeps | apply Keeps.forEach | split

theorem resumeRebuild_keeps {fm : Nat} {r0 : State}  {s : State} {p : Nat} (hfm : Mask.le 0x31000000000000000000000000000000000000000000000000000000000000000000000000600000000800100 fm = true) (h0 : Keeps fm r0 s)  : Keeps fm r0 (resumeRebuild s p) := by
  unfold resumeRebuild
  with_reducible repeat' first | assumption | exact fpart (by decide +kernel) hfm | exact fle (by decide +kernel) hfm | exact fok (by decide +kernel) hfm | exact fall (by decide +kernel) hfm | exact fokIx (by decide +kernel) hfm | exact fokAll (by decide +kernel) hfm | refine Mask.ok_ite ?_ ?_ | refine faultsOf_ok ?_ ?_ | apply Keeps.ite | apply considerRebuild_keeps

theorem execRebuildStart_keeps {fm : Nat} {r0 : State}  {p : Nat} {s : State} (hfm : Mask.le 0x31000000000000000000000000000000000000000000000000000000000000000000000000600000000800100 fm = true) (h0 : Keeps fm r0 s)  : ∃ t1, (execRebuildStart p s) = .next t1 ∧ Keeps fm r0 t1 := by
  refine ⟨_, rfl, ?_⟩
  with_reducible repeat' first | assumption | exact fpart (by decide +kernel) hfm | exact fle (by decide +kernel) hfm | exact fok (by decide +kernel) hfm | exact fall (by decide +kernel) hfm | exact fokIx (by decide +kernel) hfm | exact fokAll (by decide +kernel) hfm | refine Mask.ok_ite ?_ ?_ | refine faultsOf_ok ?_ ?_ | apply Keeps.ite | apply resumeRebuild_keeps

theorem execRebuildAutoStart_keeps {fm : Nat} {r0 : State}  {p : Nat} {s : State} (hfm : Mask.le 0x31000000000000000000000000000000000000000000000000000000000000000000000000600000000800100 fm = true) (h0 : Keeps fm r0 s)  : ∃ t1, (execRebuildAutoStart p s) = .next t1 ∧ Keeps fm r0 t1 := by
  refine ⟨_, rfl, ?_⟩
  with_reducible repeat' first | assumption | exact fpart (by decide +kernel) hfm | exact fle (by decide +kernel) hfm | exact fok (by decide +kernel) hfm | exact fall (by decide +kernel) hfm | exact fokIx (by decide +kernel) hfm | exact fokAll (by decide +kernel) hfm | refine Mask.ok_ite ?_ ?_ | refine faultsOf_ok ?_ ?_ | apply Keeps.ite | apply resumeRebuild_keeps

/-! ## Volumes -/

theorem noteDirs_keeps {fm : Nat} {r0 : State}  {s : State} (hfm : Mask.le 0xd00000000000000000000000000000000000000000000000000000000000000000000000800000000000000000000000000000000000000000000000000000000000000000000 fm = true) (h0 : Keeps fm r0 s)  : Keeps fm r0 (noteDirs s) := by
  unfold noteDirs
  with_reducible repeat' first | assumption | exact fpart (by decide +kernel) hfm | exact fle (by decide +kernel) hfm | exact fok (by decide +kernel) hfm | exact fall (by decide +kernel) hfm | exact fokIx (by decide +kernel) hfm | exact fokAll (by decide +kernel) hfm | refine Mask.ok_ite ?_ ?_ | refine faultsOf_ok ?_ ?_ | apply noteLeaves_keeps | apply wr_keeps

theorem createVol_keeps {fm : Nat} {r0 : State}  {s : State} {v : Nat} (hfm : Mask.le 0x800000000000000000d00000000000000000000000000000000100000000000000000000000000000014000000800000190000000000000000000000000000000010000000000400020000040847220 fm = true) (h0 : Keeps fm r0 s)  : Keeps fm r0 (createVol s v) := by
  unfold createVol
  try lift_lets -underBinder
  with_reducible repeat' first | assumption | exact fpart (by decide +kernel) hfm | exact fle (by decide +kernel) hfm | exact fok (by decide +kernel) hfm | exact fall (by decide +kernel) hfm | exact fokIx (by decide +kernel) hfm | exact fokAll (by decide +kernel) hfm | refine Mask.ok_ite ?_ ?_ | refine faultsOf_ok ?_ ?_ | (intro a; refine (fun ha : Keeps fm r0 a => ?_) ?_; clear_value a; rotate_left; dsimp only [a]; rotate_right) | (intro a; clear_value a) | lift_lets -underBinder | apply modVol_keeps | apply wr_keeps | apply writeSuper_keeps | apply noteDirs_keeps | apply noteLocks_keeps | apply logRec_keeps

theorem execVolumeCreate_keeps {fm : Nat} {r0 : State}  {v : Nat} {s : State} (hfm : Mask.le 0x800000000000000000d00000000000000000000000000000000100000000000000000000000000000014000000800000190000000000000000000000000000000810000000000400020000040847220 fm = true) (h0 : Keeps fm r0 s)  : ∃ t1, (execVolumeCreate v s) = .next t1 ∧ Keeps fm r0 t1 := by
  refine ⟨_, rfl, ?_⟩
  try lift_lets -underBinder
  with_reducible repeat' first | assumption | exact fpart (by decide +kernel) hfm | exact fle (by decide +kernel) hfm | exact fok (by decide +kernel) hfm | exact fall (by decide +kernel) hfm | exact fokIx (by decide +kernel) hfm | exact fokAll (by decide +kernel) hfm | refine Mask.ok_ite ?_ ?_ | refine faultsOf_ok ?_ ?_ | (intro a; refine (fun ha : Keeps fm r0 a => ?_) ?_; clear_value a; rotate_left; dsimp only [a]; rotate_right) | (intro a; clear_value a) | lift_lets -underBinder | apply Keeps.ite | apply wr_keeps | apply createVol_keeps

theorem execVolumeDelete_keeps {fm : Nat} {r0 : State}  {v : Nat} {s : State} (hfm : Mask.le 0x800000000000000000000000000200 fm = true) (h0 : Keeps fm r0 s)  : ∃ t1, (execVolumeDelete v s) = .next t1 ∧ Keeps fm r0 t1 := by
  refine ⟨_, rfl, ?_⟩
  with_reducible repeat' first | assumption | exact fpart (by decide +kernel) hfm | exact fle (by decide +kernel) hfm | exact fok (by decide +kernel) hfm | exact fall (by decide +kernel) hfm | exact fokIx (by decide +kernel) hfm | exact fokAll (by decide +kernel) hfm | refine Mask.ok_ite ?_ ?_ | refine faultsOf_ok ?_ ?_ | apply Keeps.ite | apply wr_keeps | apply modVol_keeps

theorem dropLost_keeps {fm : Nat} {r0 : State}  {s : State} {p : Nat} {v : Nat} (hfm : Mask.le 0x200000000000000000100000000000000000000000000000000000000000000000000000000000000000000000000000000000000000000000000000003020 fm = true) (h0 : Keeps fm r0 s)  : Keeps fm r0 (dropLost s p v) := by
  unfold dropLost
  with_reducible repeat' first | assumption | exact fpart (by decide +kernel) hfm | exact fle (by decide +kernel) hfm | exact fok (by decide +kernel) hfm | exact fall (by decide +kernel) hfm | exact fokIx (by decide +kernel) hfm | exact fokAll (by decide +kernel) hfm | refine Mask.ok_ite ?_ ?_ | refine faultsOf_ok ?_ ?_ | refine fun _ _ (_ : Keeps fm r0 _) => ?_ | apply drop_keeps | apply logRec_keeps | apply modPool_keeps | apply Keeps.forEach

theorem dropMap_keeps {fm : Nat} {r0 : State}  {s : State} {v : Nat} (hfm : Mask.le 0x1c00200000000000000000000060000000000000000000000000000000000000000000000800000000000000000000000000000000000000000000000000000000000000018400 fm = true) (h0 : Keeps fm r0 s)  : Keeps fm r0 (dropMap s v) := by
  unfold dropMap
  try lift_lets -underBinder
  with_reducible repeat' first | assumption | exact fpart (by decide +kernel) hfm | exact fle (by decide +kernel) hfm | exact fok (by decide +kernel) hfm | exact fall (by decide +kernel) hfm | exact fokIx (by decide +kernel) hfm | exact fokAll (by decide +kernel) hfm | refine Mask.ok_ite ?_ ?_ | refine faultsOf_ok ?_ ?_ | (intro a; clear_value a) | lift_lets -underBinder | apply noteLeaves_keeps | apply disownVolume_keeps | apply endRanges_keeps | apply discardFrames_keeps | fail_if_no_progress (apply Keeps.upd <;> try first | exact Or.inr (fpart (by decide +kernel) hfm) | exact Or.inl rfl)

theorem dropCopies_keeps {fm : Nat} {r0 : State}  {s : State} {p : Nat} {v : Nat} (hfm : Mask.le 0x1000 fm = true) (h0 : Keeps fm r0 s)  : Keeps fm r0 (dropCopies s p v) := by
  unfold dropCopies
  with_reducible repeat' first | assumption | exact fpart (by decide +kernel) hfm | exact fle (by decide +kernel) hfm | exact fok (by decide +kernel) hfm | exact fall (by decide +kernel) hfm | exact fokIx (by decide +kernel) hfm | exact fokAll (by decide +kernel) hfm | refine Mask.ok_ite ?_ ?_ | refine faultsOf_ok ?_ ?_ | refine fun _ _ (_ : Keeps fm r0 _) => ?_ | apply dropCopy_keeps | apply Keeps.forEach

theorem execVolumeDeleteDrained_keeps {fm : Nat} {r0 : State}  {v : Nat} {s : State} (hfm : Mask.le 0x1d0020000000000020000000006000000010000000000000000000000000000001400000080000019000000000000000000000000000000081000000000040002000004085f620 fm = true) (h0 : Keeps fm r0 s)  : ∃ t1, (execVolumeDeleteDrained v s) = .next t1 ∧ Keeps fm r0 t1 := by
  refine ⟨_, rfl, ?_⟩
  try lift_lets -underBinder
  with_reducible repeat' first | assumption | exact fpart (by decide +kernel) hfm | exact fle (by decide +kernel) hfm | exact fok (by decide +kernel) hfm | exact fall (by decide +kernel) hfm | exact fokIx (by decide +kernel) hfm | exact fokAll (by decide +kernel) hfm | refine Mask.ok_ite ?_ ?_ | refine faultsOf_ok ?_ ?_ | (intro a; refine (fun ha : Keeps fm r0 a => ?_) ?_; clear_value a; rotate_left; dsimp only [a]; rotate_right) | (intro a; clear_value a) | lift_lets -underBinder | apply Keeps.ite | apply modPool_keeps | apply dropLost_keeps | apply dropMap_keeps | apply dropCopies_keeps | apply wr_keeps | apply logRec_keeps | apply writeSuper_keeps | apply noteDirs_keeps | apply modVol_keeps

theorem growVol_keeps {fm : Nat} {r0 : State}  {s : State} {v : Nat} {cap : Nat} (hfm : Mask.le 0xd00000000000000000000000000000000100000000000000000000000000000014000000800000190000000000000000000000000000000040000000000400020000040847020 fm = true) (h0 : Keeps fm r0 s)  : Keeps fm r0 (growVol s v cap) := by
  unfold growVol
  try lift_lets -underBinder
  with_reducible repeat' first | assumption | exact fpart (by decide +kernel) hfm | exact fle (by decide +kernel) hfm | exact fok (by decide +kernel) hfm | exact fall (by decide +kernel) hfm | exact fokIx (by decide +kernel) hfm | exact fokAll (by decide +kernel) hfm | refine Mask.ok_ite ?_ ?_ | refine faultsOf_ok ?_ ?_ | (intro a; refine (fun ha : Keeps fm r0 a => ?_) ?_; clear_value a; rotate_left; dsimp only [a]; rotate_right) | (intro a; clear_value a) | lift_lets -underBinder | apply Keeps.ite | apply wr_keeps | apply writeSuper_keeps | apply noteDirs_keeps | apply logRec_keeps

theorem execVolumeCapacityWrite_keeps {fm : Nat} {r0 : State}  {v : Nat} {cap : Nat} {s : State} (hfm : Mask.le 0xd00000000000000000000000000000000100000000000000000000000000000014000000800000190000000000000000000000000000000040000000000400020000040847020 fm = true) (h0 : Keeps fm r0 s)  : ∃ t1, (execVolumeCapacityWrite v cap s) = .next t1 ∧ Keeps fm r0 t1 := by
  refine ⟨_, rfl, ?_⟩
  with_reducible repeat' first | assumption | exact fpart (by decide +kernel) hfm | exact fle (by decide +kernel) hfm | exact fok (by decide +kernel) hfm | exact fall (by decide +kernel) hfm | exact fokIx (by decide +kernel) hfm | exact fokAll (by decide +kernel) hfm | refine Mask.ok_ite ?_ ?_ | refine faultsOf_ok ?_ ?_ | apply Keeps.ite | apply growVol_keeps

theorem loadTable_keeps {fm : Nat} {r0 : State}  {s : State} {i : Nat} {b : Bytes} (hfm : Mask.le 0x3e8000000000000000000000000000000000000000000000000 fm = true) (h0 : Keeps fm r0 s)  : Keeps fm r0 (loadTable s i b) := by
  unfold loadTable
  with_reducible repeat' first | assumption | exact fpart (by decide +kernel) hfm | exact fle (by decide +kernel) hfm | exact fok (by decide +kernel) hfm | exact fall (by decide +kernel) hfm | exact fokIx (by decide +kernel) hfm | exact fokAll (by decide +kernel) hfm | refine Mask.ok_ite ?_ ?_ | refine faultsOf_ok ?_ ?_ | apply wr_keeps | apply wrBytes_keeps

theorem execCodeTableDataWrite_keeps {fm : Nat} {r0 : State}  {i : Nat} {b : Bytes} {s : State} (hfm : Mask.le 0x3e8000000000000000000000000000000000000000000000000 fm = true) (h0 : Keeps fm r0 s)  : ∃ t1, (execCodeTableDataWrite i b s) = .next t1 ∧ Keeps fm r0 t1 := by
  refine ⟨_, rfl, ?_⟩
  with_reducible repeat' first | assumption | exact fpart (by decide +kernel) hfm | exact fle (by decide +kernel) hfm | exact fok (by decide +kernel) hfm | exact fall (by decide +kernel) hfm | exact fokIx (by decide +kernel) hfm | exact fokAll (by decide +kernel) hfm | refine Mask.ok_ite ?_ ?_ | refine faultsOf_ok ?_ ?_ | apply Keeps.ite | apply loadTable_keeps

theorem startCheck_keeps {fm : Nat} {r0 : State}  {s : State} {i : Nat} (hfm : Mask.le 0x3e0000000000000000000000000000000000000000000000000 fm = true) (h0 : Keeps fm r0 s)  : Keeps fm r0 (startCheck s i) := by
  unfold startCheck
  try lift_lets -underBinder
  with_reducible repeat' first | assumption | exact fpart (by decide +kernel) hfm | exact fle (by decide +kernel) hfm | exact fok (by decide +kernel) hfm | exact fall (by decide +kernel) hfm | exact fokIx (by decide +kernel) hfm | exact fokAll (by decide +kernel) hfm | refine Mask.ok_ite ?_ ?_ | refine faultsOf_ok ?_ ?_ | (intro a; clear_value a) | lift_lets -underBinder | apply Keeps.ite | apply wr_keeps

theorem execCodeCheckStart_keeps {fm : Nat} {r0 : State}  {i : Nat} {s : State} (hfm : Mask.le 0x3e0000000000000000000000000000000000000000000000000 fm = true) (h0 : Keeps fm r0 s)  : ∃ t1, (execCodeCheckStart i s) = .next t1 ∧ Keeps fm r0 t1 := by
  refine ⟨_, rfl, ?_⟩
  with_reducible repeat' first | assumption | exact fpart (by decide +kernel) hfm | exact fle (by decide +kernel) hfm | exact fok (by decide +kernel) hfm | exact fall (by decide +kernel) hfm | exact fokIx (by decide +kernel) hfm | exact fokAll (by decide +kernel) hfm | refine Mask.ok_ite ?_ ?_ | refine faultsOf_ok ?_ ?_ | apply Keeps.ite | apply startCheck_keeps

theorem execCodeCheckDone_keeps {fm : Nat} {r0 : State}  {i : Nat} {s : State} (hfm : Mask.le 0x1e0000000000000000000000000000000000000000000000000 fm = true) (h0 : Keeps fm r0 s)  : ∃ t1, (execCodeCheckDone i s) = .next t1 ∧ Keeps fm r0 t1 := by
  refine ⟨_, rfl, ?_⟩
  try lift_lets -underBinder
  with_reducible repeat' first | assumption | exact fpart (by decide +kernel) hfm | exact fle (by decide +kernel) hfm | exact fok (by decide +kernel) hfm | exact fall (by decide +kernel) hfm | exact fokIx (by decide +kernel) hfm | exact fokAll (by decide +kernel) hfm | refine Mask.ok_ite ?_ ?_ | refine faultsOf_ok ?_ ?_ | (intro a; clear_value a) | lift_lets -underBinder | apply Keeps.ite | apply wr_keeps | split

/-! ## Reshape -/

theorem reportShape_keeps {fm : Nat} {r0 : State}  {s : State} {p : Nat} {id : Nat} {c : CodeTbl} (hfm : Mask.le 0x3801800000000001000 fm = true) (h0 : Keeps fm r0 s)  : Keeps fm r0 (reportShape s p id c) := by
  unfold reportShape
  try lift_lets -underBinder
  with_reducible repeat' first | assumption | exact fpart (by decide +kernel) hfm | exact fle (by decide +kernel) hfm | exact fok (by decide +kernel) hfm | exact fall (by decide +kernel) hfm | exact fokIx (by decide +kernel) hfm | exact fokAll (by decide +kernel) hfm | refine Mask.ok_ite ?_ ?_ | refine faultsOf_ok ?_ ?_ | (intro a; refine (fun ha : Keeps fm r0 a => ?_) ?_; clear_value a; rotate_left; dsimp only [a]; rotate_right) | (intro a; clear_value a) | lift_lets -underBinder | apply wr_keeps | apply modPool_keeps

theorem startReshape_keeps {fm : Nat} {r0 : State}  {s : State} {p : Nat} {kind : Nat} {leaving : Nat} {shape : Nat × CodeTbl} (hfm : Mask.le 0x1f0000000000000000000100000000000000000000000000000014000000000000190000000016000000000000000000000000000000003c01e20000040847920 fm = true) (h0 : Keeps fm r0 s)  : Keeps fm r0 (startReshape s p kind leaving shape) := by
  unfold startReshape
  try lift_lets -underBinder
  with_reducible repeat' first | assumption | exact fpart (by decide +kernel) hfm | exact fle (by decide +kernel) hfm | exact fok (by decide +kernel) hfm | exact fall (by decide +kernel) hfm | exact fokIx (by decide +kernel) hfm | exact fokAll (by decide +kernel) hfm | refine Mask.ok_ite ?_ ?_ | refine faultsOf_ok ?_ ?_ | (intro a; refine (fun ha : Keeps fm r0 a => ?_) ?_; clear_value a; rotate_left; dsimp only [a]; rotate_right) | (intro a; clear_value a) | lift_lets -underBinder | apply sealLanes_keeps | apply logRec_keeps | apply wr_keeps | apply modPool_keeps | apply writeSuper_keeps | apply setCond_keeps | apply reportShape_keeps

theorem codeReshape_keeps {fm : Nat} {r0 : State}  {s : State} {p : Nat} {id : Nat} {k : Nat} (hfm : Mask.le 0x1f0000000000000000000100000000000000000000000000000014000000000000190000000017800000000000000000000000000000003c01e20000040847920 fm = true) (h0 : Keeps fm r0 s)  : Keeps fm r0 (codeReshape s p id k) := by
  unfold codeReshape
  try lift_lets -underBinder
  with_reducible repeat' first | assumption | exact fpart (by decide +kernel) hfm | exact fle (by decide +kernel) hfm | exact fok (by decide +kernel) hfm | exact fall (by decide +kernel) hfm | exact fokIx (by decide +kernel) hfm | exact fokAll (by decide +kernel) hfm | refine Mask.ok_ite ?_ ?_ | refine faultsOf_ok ?_ ?_ | refine fun _ (_ : Keeps fm r0 _) => ?_ | (intro a; refine (fun hga : ∀ t, Keeps fm r0 t → Keeps fm r0 (a t) => ?_) ?_; clear_value a; rotate_left; dsimp only [a]; rotate_right) | (intro a; clear_value a) | apply hga | lift_lets -underBinder | apply Keeps.ite | apply wr_keeps | apply startReshape_keeps | split

theorem addFails_keeps {fm : Nat} {r0 : State}  {s : State} {p : Nat} {m : Nat} {registered : Bool} {result : Nat} (hfm : Mask.le 0x31000000000014000000040000000000000000000000000000000000000000000000000000620020040804120 fm = true) (h0 : Keeps fm r0 s)  : Keeps fm r0 (addFails s p m registered result) := by
  unfold addFails
  try lift_lets -underBinder
  with_reducible repeat' first | assumption | exact fpart (by decide +kernel) hfm | exact fle (by decide +kernel) hfm | exact fok (by decide +kernel) hfm | exact fall (by decide +kernel) hfm | exact fokIx (by decide +kernel) hfm | exact fokAll (by decide +kernel) hfm | refine Mask.ok_ite ?_ ?_ | refine faultsOf_ok ?_ ?_ | (intro a; clear_value a) | lift_lets -underBinder | apply Keeps.ite | apply addEnds_keeps | apply issue_keeps

theorem adoptDrive_keeps {fm : Nat} {r0 : State}  {s : State} {p : Nat} {m : Nat} {zones : Nat} (hfm : Mask.le 0x68000000000000000000000020000000000 fm = true) (h0 : Keeps fm r0 s)  : Keeps fm r0 (adoptDrive s p m zones) := by
  unfold adoptDrive
  try lift_lets -underBinder
  with_reducible repeat' first | assumption | exact fpart (by decide +kernel) hfm | exact fle (by decide +kernel) hfm | exact fok (by decide +kernel) hfm | exact fall (by decide +kernel) hfm | exact fokIx (by decide +kernel) hfm | exact fokAll (by decide +kernel) hfm | refine Mask.ok_ite ?_ ?_ | refine faultsOf_ok ?_ ?_ | (intro a; clear_value a) | lift_lets -underBinder | apply wr_keeps | apply wrBytes_keeps

theorem joinMember_keeps {fm : Nat} {r0 : State}  {s : State} {p : Nat} {m : Nat} (hfm : Mask.le 0x3008000000000000001f000000000000000000010000000000000000003100000000001400860005017c1900000000160000000000000000f8000000000000003c01e20020040847920 fm = true) (h0 : Keeps fm r0 s)  : Keeps fm r0 (joinMember s p m) := by
  unfold joinMember
  try lift_lets -underBinder
  with_reducible repeat' first | assumption | exact fpart (by decide +kernel) hfm | exact fle (by decide +kernel) hfm | exact fok (by decide +kernel) hfm | exact fall (by decide +kernel) hfm | exact fokIx (by decide +kernel) hfm | exact fokAll (by decide +kernel) hfm | refine Mask.ok_ite ?_ ?_ | refine faultsOf_ok ?_ ?_ | (intro a; refine (fun ha : Keeps fm r0 a => ?_) ?_; clear_value a; rotate_left; dsimp only [a]; rotate_right) | lift_lets -underBinder | apply Keeps.ite | apply adoptDrive_keeps | apply logRec_keeps | apply wr_keeps | apply modPool_keeps | apply noteZones_keeps | apply considerRebuild_keeps | apply reportShape_keeps | apply writeSuper_keeps | apply startReshape_keeps

theorem addStep_keeps {fm : Nat} {r0 : State}  {s : State} {p : Nat} {m : Nat} {op : MOp} {status : Nat} (hfm : Mask.le 0x3008000000000000001f000000000000000000010000000000000000003100000000001400860005017c1900000000160000000000000000f8000000000000003c01e20020040847920 fm = true) (h0 : Keeps fm r0 s)  : Keeps fm r0 (addStep s p m op status) := by
  unfold addStep
  with_reducible repeat' first | assumption | exact fpart (by decide +kernel) hfm | exact fle (by decide +kernel) hfm | exact fok (by decide +kernel) hfm | exact fall (by decide +kernel) hfm | exact fokIx (by decide +kernel) hfm | exact fokAll (by decide +kernel) hfm | refine Mask.ok_ite ?_ ?_ | refine faultsOf_ok ?_ ?_ | apply Keeps.ite | apply addFails_keeps | apply issueTo_keeps | apply modDPort_keeps | apply joinMember_keeps | split

theorem execMemberAdd_keeps {fm : Nat} {r0 : State}  {p : Nat} {m : Nat} {s : State} (hfm : Mask.le 0x14000000040000000000000000000000000000000000000000000000000000020020040804020 fm = true) (h0 : Keeps fm r0 s)  : ∃ t1, (execMemberAdd p m s) = .next t1 ∧ Keeps fm r0 t1 := by
  refine ⟨_, rfl, ?_⟩
  try lift_lets -underBinder
  with_reducible repeat' first | assumption | exact fpart (by decide +kernel) hfm | exact fle (by decide +kernel) hfm | exact fok (by decide +kernel) hfm | exact fall (by decide +kernel) hfm | exact fokIx (by decide +kernel) hfm | exact fokAll (by decide +kernel) hfm | refine Mask.ok_ite ?_ ?_ | refine faultsOf_ok ?_ ?_ | (intro a; clear_value a) | lift_lets -underBinder | apply Keeps.ite | apply startAdd_keeps | apply wr_keeps

theorem execMemberRemove_keeps {fm : Nat} {r0 : State}  {p : Nat} {m : Nat} {s : State} (hfm : Mask.le 0x1f0000000000000000000100000000000000000000000000000014000000040000190000000016000000000000000000000000000000003c01e20000040847920 fm = true) (h0 : Keeps fm r0 s)  : ∃ t1, (execMemberRemove p m s) = .next t1 ∧ Keeps fm r0 t1 := by
  refine ⟨_, rfl, ?_⟩
  try lift_lets -underBinder
  with_reducible repeat' first | assumption | exact fpart (by decide +kernel) hfm | exact fle (by decide +kernel) hfm | exact fok (by decide +kernel) hfm | exact fall (by decide +kernel) hfm | exact fokIx (by decide +kernel) hfm | exact fokAll (by decide +kernel) hfm | refine Mask.ok_ite ?_ ?_ | refine faultsOf_ok ?_ ?_ | (intro a; refine (fun ha : Keeps fm r0 a => ?_) ?_; clear_value a; rotate_left; dsimp only [a]; rotate_right) | (intro a; clear_value a) | lift_lets -underBinder | apply Keeps.ite | apply wr_keeps | apply startReshape_keeps | apply modPool_keeps

/-! ## Recover -/

theorem loadVers_keeps {fm : Nat} {r0 : State}  {s : State} {p : Nat} {ms : List MediaItem} {key : Nat} {e : Entry} (hfm : Mask.le 0x400 fm = true) (h0 : Keeps fm r0 s)  : Keeps fm r0 (loadVers s p ms key e) := by
  unfold loadVers
  try lift_lets -underBinder
  with_reducible repeat' first | assumption | exact fpart (by decide +kernel) hfm | exact fle (by decide +kernel) hfm | exact fok (by decide +kernel) hfm | exact fall (by decide +kernel) hfm | exact fokIx (by decide +kernel) hfm | exact fokAll (by decide +kernel) hfm | refine Mask.ok_ite ?_ ?_ | refine faultsOf_ok ?_ ?_ | refine fun _ _ (_ : Keeps fm r0 _) => ?_ | (intro a; clear_value a) | lift_lets -underBinder | apply dropVer_keeps | apply setVer_keeps | apply Keeps.forRange | split

theorem loadEntry_keeps {fm : Nat} {r0 : State}  {s : State} {p : Nat} {ms : List MediaItem} {key : Nat} {e : Entry} (hfm : Mask.le 0x20400 fm = true) (h0 : Keeps fm r0 s)  : Keeps fm r0 (loadEntry s p ms key e) := by
  unfold loadEntry
  with_reducible repeat' first
    | assumption
    | exact fpart (by decide +kernel) hfm
    | exact fle (by decide +kernel) hfm
    | exact fok (by decide +kernel) hfm
    | exact fall (by decide +kernel) hfm
    | exact fokIx (by decide +kernel) hfm
    | exact fokAll (by decide +kernel) hfm
    | refine Mask.ok_ite ?_ ?_
    | refine faultsOf_ok ?_ ?_
    | refine fun _ (_ : Keeps fm r0 _) => ?_
    | refine fun _ _ (_ : Keeps fm r0 _) => ?_
    | refine fun _ _ _ (_ : Keeps fm r0 _) => ?_
    | exact KeepsO.get rfl (by assumption)
    | exact KeepsP.get rfl (by assumption)
    | apply Keeps.ite
    | apply loadVers_keeps
    | apply setEntry_keeps
    | apply Keeps.forEach
    | apply Keeps.forRange
    | apply Keeps.foldl
    | apply Keeps.foldl_fst
    | apply Keeps.foldl_snd
    | exact KeepsO.none
    | exact KeepsP.none
    | apply KeepsO.some
    | apply KeepsP.some
    | apply KeepsO.ite
    | apply KeepsP.ite
    | refine KeepsO.foldl _ _ ?_ (fun _ _ _ => ?_)
    | exact KeepsF.lost
    | apply KeepsF.started
    | apply KeepsF.ite
    | fail_if_no_progress (apply Keeps.upd <;> try first | exact Or.inr (fpart (by decide +kernel) hfm) | exact Or.inl rfl)
    | fail_if_no_progress (apply Keeps.updDict <;> try first | exact Or.inr (fpart (by decide +kernel) hfm) | exact Or.inl rfl)
    | refine Keeps.updRegs (rg := Tbl.filterK _ _) ?_ (Tbl.wf_filterK _) (Tbl.wf_filterK _)
    | refine Keeps.updRegs (rg := Tbl.filterK _ _) ?_ (Tbl.wf_filterK _) id
    | split
    | refine Keeps.of_snd (by assumption) ?_
    | refine Keeps.of_fst (by assumption) ?_
    | refine KeepsO.get (by assumption) ?_
    | refine KeepsP.get (by assumption) ?_
    | refine KeepsF.get (by assumption) ?_

theorem loadLeaf_keeps {fm : Nat} {r0 : State}  {s : State} {p : Nat} {ms : List MediaItem} {key : Nat} {loc : Option (Nat × Nat)} (hfm : Mask.le 0x20400 fm = true) (h0 : Keeps fm r0 s)  : Keeps fm r0 (loadLeaf s p ms key loc) := by
  unfold loadLeaf
  try lift_lets -underBinder
  with_reducible repeat' first | assumption | exact fpart (by decide +kernel) hfm | exact fle (by decide +kernel) hfm | exact fok (by decide +kernel) hfm | exact fall (by decide +kernel) hfm | exact fokIx (by decide +kernel) hfm | exact fokAll (by decide +kernel) hfm | refine Mask.ok_ite ?_ ?_ | refine faultsOf_ok ?_ ?_ | refine fun _ _ (_ : Keeps fm r0 _) => ?_ | (intro a; refine (fun ha : Keeps fm r0 a => ?_) ?_; clear_value a; rotate_left; dsimp only [a]; rotate_right) | (intro a; clear_value a) | lift_lets -underBinder | apply Keeps.ite | apply loadEntry_keeps | apply Keeps.forEach | split | fail_if_no_progress (apply Keeps.upd <;> try first | exact Or.inr (fpart (by decide +kernel) hfm) | exact Or.inl rfl)

theorem clearMap_keeps {fm : Nat} {r0 : State}  {s : State} {p : Nat} (hfm : Mask.le 0x400 fm = true) (h0 : Keeps fm r0 s)  : Keeps fm r0 (clearMap s p) := by
  unfold clearMap
  try lift_lets -underBinder
  with_reducible repeat' first
    | assumption
    | exact fpart (by decide +kernel) hfm
    | exact fle (by decide +kernel) hfm
    | exact fok (by decide +kernel) hfm
    | exact fall (by decide +kernel) hfm
    | exact fokIx (by decide +kernel) hfm
    | exact fokAll (by decide +kernel) hfm
    | refine Mask.ok_ite ?_ ?_
    | refine faultsOf_ok ?_ ?_
    | refine fun _ (_ : Keeps fm r0 _) => ?_
    | refine fun _ _ (_ : Keeps fm r0 _) => ?_
    | refine fun _ _ _ (_ : Keeps fm r0 _) => ?_
    | exact KeepsO.get rfl (by assumption)
    | exact KeepsP.get rfl (by assumption)
    | (intro a; refine (fun ha : Keeps fm r0 a => ?_) ?_; clear_value a; rotate_left; dsimp only [a]; rotate_right)
    | (intro a; refine (fun ha : Keeps fm r0 a.2 => ?_) ?_; clear_value a; rotate_left; dsimp only [a]; rotate_right)
    | (intro a; refine (fun ha : Keeps fm r0 a.1 => ?_) ?_; clear_value a; rotate_left; dsimp only [a]; rotate_right)
    | (intro a; refine (fun ha : KeepsO fm r0 a => ?_) ?_; clear_value a; rotate_left; dsimp only [a]; rotate_right)
    | (have _ := @hgb; intro a; refine (fun hgc : ∀ t, Keeps fm r0 t → Keeps fm r0 (a t) => ?_) ?_; clear_value a; rotate_left; dsimp only [a]; rotate_right)
    | (have _ := @hga; intro a; refine (fun hgb : ∀ t, Keeps fm r0 t → Keeps fm r0 (a t) => ?_) ?_; clear_value a; rotate_left; dsimp only [a]; rotate_right)
    | (intro a; refine (fun hga : ∀ t, Keeps fm r0 t → Keeps fm r0 (a t) => ?_) ?_; clear_value a; rotate_left; dsimp only [a]; rotate_right)
    | (have _ := @hgb; intro a; refine (fun hgc : ∀ x t, Keeps fm r0 t → Keeps fm r0 (a x t) => ?_) ?_; clear_value a; rotate_left; dsimp only [a]; rotate_right)
    | (have _ := @hga; intro a; refine (fun hgb : ∀ x t, Keeps fm r0 t → Keeps fm r0 (a x t) => ?_) ?_; clear_value a; rotate_left; dsimp only [a]; rotate_right)
    | (intro a; refine (fun hga : ∀ x t, Keeps fm r0 t → Keeps fm r0 (a x t) => ?_) ?_; clear_value a; rotate_left; dsimp only [a]; rotate_right)
    | (have _ := @hgb; intro a; refine (fun hgc : ∀ x y t, Keeps fm r0 t → Keeps fm r0 (a x y t) => ?_) ?_; clear_value a; rotate_left; dsimp only [a]; rotate_right)
    | (have _ := @hga; intro a; refine (fun hgb : ∀ x y t, Keeps fm r0 t → Keeps fm r0 (a x y t) => ?_) ?_; clear_value a; rotate_left; dsimp only [a]; rotate_right)
    | (intro a; refine (fun hga : ∀ x y t, Keeps fm r0 t → Keeps fm r0 (a x y t) => ?_) ?_; clear_value a; rotate_left; dsimp only [a]; rotate_right)
    | (have _ := @hgb; intro a; refine (fun hgc : ∀ t x, Keeps fm r0 t → Keeps fm r0 (a t x) => ?_) ?_; clear_value a; rotate_left; dsimp only [a]; rotate_right)
    | (have _ := @hga; intro a; refine (fun hgb : ∀ t x, Keeps fm r0 t → Keeps fm r0 (a t x) => ?_) ?_; clear_value a; rotate_left; dsimp only [a]; rotate_right)
    | (intro a; refine (fun hga : ∀ t x, Keeps fm r0 t → Keeps fm r0 (a t x) => ?_) ?_; clear_value a; rotate_left; dsimp only [a]; rotate_right)
    | (intro a; refine (fun (_ : a = (a : Dict)) => ?_) rfl; dsimp only [a])
    | (intro a; clear_value a)
    | apply hga
    | apply hgb
    | apply hgc
    | lift_lets -underBinder
    | apply Keeps.ite
    | apply Keeps.forEach
    | apply Keeps.forRange
    | apply Keeps.foldl
    | apply Keeps.foldl_fst
    | apply Keeps.foldl_snd
    | exact KeepsO.none
    | exact KeepsP.none
    | apply KeepsO.some
    | apply KeepsP.some
    | apply KeepsO.ite
    | apply KeepsP.ite
    | refine KeepsO.foldl _ _ ?_ (fun _ _ _ => ?_)
    | exact KeepsF.lost
    | apply KeepsF.started
    | apply KeepsF.ite
    | fail_if_no_progress (apply Keeps.upd <;> try first | exact Or.inr (fpart (by decide +kernel) hfm) | exact Or.inl rfl)
    | fail_if_no_progress (apply Keeps.updDict <;> try first | exact Or.inr (fpart (by decide +kernel) hfm) | exact Or.inl rfl)
    | refine Keeps.updRegs (rg := Tbl.filterK _ _) ?_ (Tbl.wf_filterK _) (Tbl.wf_filterK _)
    | refine Keeps.updRegs (rg := Tbl.filterK _ _) ?_ (Tbl.wf_filterK _) id
    | split
    | refine Keeps.of_snd (by assumption) ?_
    | refine Keeps.of_fst (by assumption) ?_
    | refine KeepsO.get (by assumption) ?_
    | refine KeepsP.get (by assumption) ?_
    | refine KeepsF.get (by assumption) ?_

theorem loadCheckpoint_keeps {fm : Nat} {r0 : State}  {s : State} {p : Nat} {ms : List MediaItem} {recs : List LogRec} {c : Found} {pages : List (Bytes × Bytes)} {roots : List (Nat × Bytes)} {scan : Bool} (hfm : Mask.le 0x300000000000000000000000000000000000000000000000000000000000000021400 fm = true) (h0 : Keeps fm r0 s)  : Keeps fm r0 (loadCheckpoint s p ms recs c pages roots scan) := by
  unfold loadCheckpoint
  try lift_lets -underBinder
  with_reducible repeat' first
    | assumption
    | exact fpart (by decide +kernel) hfm
    | exact fle (by decide +kernel) hfm
    | exact fok (by decide +kernel) hfm
    | exact fall (by decide +kernel) hfm
    | exact fokIx (by decide +kernel) hfm
    | exact fokAll (by decide +kernel) hfm
    | refine Mask.ok_ite ?_ ?_
    | refine faultsOf_ok ?_ ?_
    | refine fun _ (_ : Keeps fm r0 _) => ?_
    | refine fun _ _ (_ : Keeps fm r0 _) => ?_
    | refine fun _ _ _ (_ : Keeps fm r0 _) => ?_
    | exact KeepsO.get rfl (by assumption)
    | exact KeepsP.get rfl (by assumption)
    | (intro a; refine (fun ha : Keeps fm r0 a => ?_) ?_; clear_value a; rotate_left; dsimp only [a]; rotate_right)
    | (intro a; refine (fun ha : Keeps fm r0 a.2 => ?_) ?_; clear_value a; rotate_left; dsimp only [a]; rotate_right)
    | (intro a; refine (fun ha : Keeps fm r0 a.1 => ?_) ?_; clear_value a; rotate_left; dsimp only [a]; rotate_right)
    | (intro a; refine (fun ha : KeepsO fm r0 a => ?_) ?_; clear_value a; rotate_left; dsimp only [a]; rotate_right)
    | (have _ := @hgb; intro a; refine (fun hgc : ∀ t, Keeps fm r0 t → Keeps fm r0 (a t) => ?_) ?_; clear_value a; rotate_left; dsimp only [a]; rotate_right)
    | (have _ := @hga; intro a; refine (fun hgb : ∀ t, Keeps fm r0 t → Keeps fm r0 (a t) => ?_) ?_; clear_value a; rotate_left; dsimp only [a]; rotate_right)
    | (intro a; refine (fun hga : ∀ t, Keeps fm r0 t → Keeps fm r0 (a t) => ?_) ?_; clear_value a; rotate_left; dsimp only [a]; rotate_right)
    | (have _ := @hgb; intro a; refine (fun hgc : ∀ x t, Keeps fm r0 t → Keeps fm r0 (a x t) => ?_) ?_; clear_value a; rotate_left; dsimp only [a]; rotate_right)
    | (have _ := @hga; intro a; refine (fun hgb : ∀ x t, Keeps fm r0 t → Keeps fm r0 (a x t) => ?_) ?_; clear_value a; rotate_left; dsimp only [a]; rotate_right)
    | (intro a; refine (fun hga : ∀ x t, Keeps fm r0 t → Keeps fm r0 (a x t) => ?_) ?_; clear_value a; rotate_left; dsimp only [a]; rotate_right)
    | (have _ := @hgb; intro a; refine (fun hgc : ∀ x y t, Keeps fm r0 t → Keeps fm r0 (a x y t) => ?_) ?_; clear_value a; rotate_left; dsimp only [a]; rotate_right)
    | (have _ := @hga; intro a; refine (fun hgb : ∀ x y t, Keeps fm r0 t → Keeps fm r0 (a x y t) => ?_) ?_; clear_value a; rotate_left; dsimp only [a]; rotate_right)
    | (intro a; refine (fun hga : ∀ x y t, Keeps fm r0 t → Keeps fm r0 (a x y t) => ?_) ?_; clear_value a; rotate_left; dsimp only [a]; rotate_right)
    | (have _ := @hgb; intro a; refine (fun hgc : ∀ t x, Keeps fm r0 t → Keeps fm r0 (a t x) => ?_) ?_; clear_value a; rotate_left; dsimp only [a]; rotate_right)
    | (have _ := @hga; intro a; refine (fun hgb : ∀ t x, Keeps fm r0 t → Keeps fm r0 (a t x) => ?_) ?_; clear_value a; rotate_left; dsimp only [a]; rotate_right)
    | (intro a; refine (fun hga : ∀ t x, Keeps fm r0 t → Keeps fm r0 (a t x) => ?_) ?_; clear_value a; rotate_left; dsimp only [a]; rotate_right)
    | (intro a; refine (fun (_ : a = (a : Dict)) => ?_) rfl; dsimp only [a])
    | (intro a; clear_value a)
    | apply hga
    | apply hgb
    | apply hgc
    | lift_lets -underBinder
    | apply Keeps.ite
    | apply place_keeps
    | apply modPool_keeps
    | apply clearMap_keeps
    | apply loadLeaf_keeps
    | apply wr_keeps
    | apply Keeps.forEach
    | apply Keeps.forRange
    | apply Keeps.foldl
    | apply Keeps.foldl_fst
    | apply Keeps.foldl_snd
    | exact KeepsO.none
    | exact KeepsP.none
    | apply KeepsO.some
    | apply KeepsP.some
    | apply KeepsO.ite
    | apply KeepsP.ite
    | refine KeepsO.foldl _ _ ?_ (fun _ _ _ => ?_)
    | exact KeepsF.lost
    | apply KeepsF.started
    | apply KeepsF.ite
    | fail_if_no_progress (apply Keeps.upd <;> try first | exact Or.inr (fpart (by decide +kernel) hfm) | exact Or.inl rfl)
    | fail_if_no_progress (apply Keeps.updDict <;> try first | exact Or.inr (fpart (by decide +kernel) hfm) | exact Or.inl rfl)
    | refine Keeps.updRegs (rg := Tbl.filterK _ _) ?_ (Tbl.wf_filterK _) (Tbl.wf_filterK _)
    | refine Keeps.updRegs (rg := Tbl.filterK _ _) ?_ (Tbl.wf_filterK _) id
    | split
    | refine Keeps.of_snd (by assumption) ?_
    | refine Keeps.of_fst (by assumption) ?_
    | refine KeepsO.get (by assumption) ?_
    | refine KeepsP.get (by assumption) ?_
    | refine KeepsF.get (by assumption) ?_

theorem replayCell_keeps {fm : Nat} {r0 : State}  {s : State} {p : Nat} {ms : List MediaItem} {recs : List LogRec} {scan : Bool} {slot : Nat} {g : Seg} {h : StripeHdr} {i : Nat} (hfm : Mask.le 0xc00000000000000000000000000000000000000000000000000000000000000000000008800000000000000000000000000000000000000000000000000000000000000020400 fm = true) (h0 : Keeps fm r0 s)  : KeepsO fm r0 (replayCell s p ms recs scan slot g h i) := by
  unfold replayCell
  try lift_lets -underBinder
  with_reducible repeat' first
    | assumption
    | exact fpart (by decide +kernel) hfm
    | exact fle (by decide +kernel) hfm
    | exact fok (by decide +kernel) hfm
    | exact fall (by decide +kernel) hfm
    | exact fokIx (by decide +kernel) hfm
    | exact fokAll (by decide +kernel) hfm
    | refine Mask.ok_ite ?_ ?_
    | refine faultsOf_ok ?_ ?_
    | refine fun _ (_ : Keeps fm r0 _) => ?_
    | refine fun _ _ (_ : Keeps fm r0 _) => ?_
    | refine fun _ _ _ (_ : Keeps fm r0 _) => ?_
    | exact KeepsO.get rfl (by assumption)
    | exact KeepsP.get rfl (by assumption)
    | (intro a; refine (fun ha : Keeps fm r0 a => ?_) ?_; clear_value a; rotate_left; dsimp only [a]; rotate_right)
    | (intro a; refine (fun ha : Keeps fm r0 a.2 => ?_) ?_; clear_value a; rotate_left; dsimp only [a]; rotate_right)
    | (intro a; refine (fun ha : Keeps fm r0 a.1 => ?_) ?_; clear_value a; rotate_left; dsimp only [a]; rotate_right)
    | (intro a; refine (fun ha : KeepsO fm r0 a => ?_) ?_; clear_value a; rotate_left; dsimp only [a]; rotate_right)
    | (have _ := @hgb; intro a; refine (fun hgc : ∀ t, Keeps fm r0 t → Keeps fm r0 (a t) => ?_) ?_; clear_value a; rotate_left; dsimp only [a]; rotate_right)
    | (have _ := @hga; intro a; refine (fun hgb : ∀ t, Keeps fm r0 t → Keeps fm r0 (a t) => ?_) ?_; clear_value a; rotate_left; dsimp only [a]; rotate_right)
    | (intro a; refine (fun hga : ∀ t, Keeps fm r0 t → Keeps fm r0 (a t) => ?_) ?_; clear_value a; rotate_left; dsimp only [a]; rotate_right)
    | (have _ := @hgb; intro a; refine (fun hgc : ∀ x t, Keeps fm r0 t → Keeps fm r0 (a x t) => ?_) ?_; clear_value a; rotate_left; dsimp only [a]; rotate_right)
    | (have _ := @hga; intro a; refine (fun hgb : ∀ x t, Keeps fm r0 t → Keeps fm r0 (a x t) => ?_) ?_; clear_value a; rotate_left; dsimp only [a]; rotate_right)
    | (intro a; refine (fun hga : ∀ x t, Keeps fm r0 t → Keeps fm r0 (a x t) => ?_) ?_; clear_value a; rotate_left; dsimp only [a]; rotate_right)
    | (have _ := @hgb; intro a; refine (fun hgc : ∀ x y t, Keeps fm r0 t → Keeps fm r0 (a x y t) => ?_) ?_; clear_value a; rotate_left; dsimp only [a]; rotate_right)
    | (have _ := @hga; intro a; refine (fun hgb : ∀ x y t, Keeps fm r0 t → Keeps fm r0 (a x y t) => ?_) ?_; clear_value a; rotate_left; dsimp only [a]; rotate_right)
    | (intro a; refine (fun hga : ∀ x y t, Keeps fm r0 t → Keeps fm r0 (a x y t) => ?_) ?_; clear_value a; rotate_left; dsimp only [a]; rotate_right)
    | (have _ := @hgb; intro a; refine (fun hgc : ∀ t x, Keeps fm r0 t → Keeps fm r0 (a t x) => ?_) ?_; clear_value a; rotate_left; dsimp only [a]; rotate_right)
    | (have _ := @hga; intro a; refine (fun hgb : ∀ t x, Keeps fm r0 t → Keeps fm r0 (a t x) => ?_) ?_; clear_value a; rotate_left; dsimp only [a]; rotate_right)
    | (intro a; refine (fun hga : ∀ t x, Keeps fm r0 t → Keeps fm r0 (a t x) => ?_) ?_; clear_value a; rotate_left; dsimp only [a]; rotate_right)
    | (intro a; refine (fun (_ : a = (a : Dict)) => ?_) rfl; dsimp only [a])
    | (intro a; clear_value a)
    | apply hga
    | apply hgb
    | apply hgc
    | lift_lets -underBinder
    | apply Keeps.ite
    | apply bump_keeps
    | apply loadEntry_keeps
    | apply dirtyLeaf_keeps
    | apply Keeps.forEach
    | apply Keeps.forRange
    | apply Keeps.foldl
    | apply Keeps.foldl_fst
    | apply Keeps.foldl_snd
    | exact KeepsO.none
    | exact KeepsP.none
    | apply KeepsO.some
    | apply KeepsP.some
    | apply KeepsO.ite
    | apply KeepsP.ite
    | refine KeepsO.foldl _ _ ?_ (fun _ _ _ => ?_)
    | exact KeepsF.lost
    | apply KeepsF.started
    | apply KeepsF.ite
    | fail_if_no_progress (apply Keeps.upd <;> try first | exact Or.inr (fpart (by decide +kernel) hfm) | exact Or.inl rfl)
    | fail_if_no_progress (apply Keeps.updDict <;> try first | exact Or.inr (fpart (by decide +kernel) hfm) | exact Or.inl rfl)
    | refine Keeps.updRegs (rg := Tbl.filterK _ _) ?_ (Tbl.wf_filterK _) (Tbl.wf_filterK _)
    | refine Keeps.updRegs (rg := Tbl.filterK _ _) ?_ (Tbl.wf_filterK _) id
    | split
    | refine Keeps.of_snd (by assumption) ?_
    | refine Keeps.of_fst (by assumption) ?_
    | refine KeepsO.get (by assumption) ?_
    | refine KeepsP.get (by assumption) ?_
    | refine KeepsF.get (by assumption) ?_

theorem replayStripe_keeps {fm : Nat} {r0 : State} {s : State × Bool} {p : Nat} {ms : List MediaItem} {recs : List LogRec} {scan : Bool} {slot : Nat} {h : StripeHdr} (hfm : Mask.le 0x300800c0000000000000000000000000000000000000000000000000000000000000000000000880017c000000000000000000000000000000000000000000000000000000000820520 fm = true)
    (h0 : Keeps fm r0 s.1) : Keeps fm r0 (replayStripe s p ms recs scan slot h).1 := by
  unfold replayStripe
  split
  · rename_i g _ _
    have hc : KeepsO fm r0 ((List.range (h.height * g.k)).foldl (fun a i => a.bind (fun t => replayCell t p ms recs scan slot g h i)) (some s.1)) := by
      refine KeepsO.foldl _ _ (KeepsO.some h0) (fun o i ho => ?_)
      cases o with
      | none => exact KeepsO.none
      | some t => exact replayCell_keeps (fle (by decide +kernel) hfm) (KeepsO.get rfl ho)
    split
    · rename_i e
      exact KeepsO.get e hc
    · exact raise_keeps (fle (by decide +kernel) hfm) h0
  · exact h0

theorem replayDealloc_keeps {fm : Nat} {r0 : State}  {s : State} {v : Nat} {lba : Nat} {n : Nat} {wseq : Nat} (hfm : Mask.le 0xc00000000000000000000000000000000000000000000000000000000000000000000000800000000000000000000000000000000000000000000000000000000000000020400 fm = true) (h0 : Keeps fm r0 s)  : Keeps fm r0 (replayDealloc s v lba n wseq) := by
  unfold replayDealloc
  try lift_lets -underBinder
  with_reducible repeat' first
    | assumption
    | exact fpart (by decide +kernel) hfm
    | exact fle (by decide +kernel) hfm
    | exact fok (by decide +kernel) hfm
    | exact fall (by decide +kernel) hfm
    | exact fokIx (by decide +kernel) hfm
    | exact fokAll (by decide +kernel) hfm
    | refine Mask.ok_ite ?_ ?_
    | refine faultsOf_ok ?_ ?_
    | refine fun _ (_ : Keeps fm r0 _) => ?_
    | refine fun _ _ (_ : Keeps fm r0 _) => ?_
    | refine fun _ _ _ (_ : Keeps fm r0 _) => ?_
    | exact KeepsO.get rfl (by assumption)
    | exact KeepsP.get rfl (by assumption)
    | (intro a; refine (fun ha : Keeps fm r0 a => ?_) ?_; clear_value a; rotate_left; dsimp only [a]; rotate_right)
    | (intro a; refine (fun ha : Keeps fm r0 a.2 => ?_) ?_; clear_value a; rotate_left; dsimp only [a]; rotate_right)
    | (intro a; refine (fun ha : Keeps fm r0 a.1 => ?_) ?_; clear_value a; rotate_left; dsimp only [a]; rotate_right)
    | (intro a; refine (fun ha : KeepsO fm r0 a => ?_) ?_; clear_value a; rotate_left; dsimp only [a]; rotate_right)
    | (have _ := @hgb; intro a; refine (fun hgc : ∀ t, Keeps fm r0 t → Keeps fm r0 (a t) => ?_) ?_; clear_value a; rotate_left; dsimp only [a]; rotate_right)
    | (have _ := @hga; intro a; refine (fun hgb : ∀ t, Keeps fm r0 t → Keeps fm r0 (a t) => ?_) ?_; clear_value a; rotate_left; dsimp only [a]; rotate_right)
    | (intro a; refine (fun hga : ∀ t, Keeps fm r0 t → Keeps fm r0 (a t) => ?_) ?_; clear_value a; rotate_left; dsimp only [a]; rotate_right)
    | (have _ := @hgb; intro a; refine (fun hgc : ∀ x t, Keeps fm r0 t → Keeps fm r0 (a x t) => ?_) ?_; clear_value a; rotate_left; dsimp only [a]; rotate_right)
    | (have _ := @hga; intro a; refine (fun hgb : ∀ x t, Keeps fm r0 t → Keeps fm r0 (a x t) => ?_) ?_; clear_value a; rotate_left; dsimp only [a]; rotate_right)
    | (intro a; refine (fun hga : ∀ x t, Keeps fm r0 t → Keeps fm r0 (a x t) => ?_) ?_; clear_value a; rotate_left; dsimp only [a]; rotate_right)
    | (have _ := @hgb; intro a; refine (fun hgc : ∀ x y t, Keeps fm r0 t → Keeps fm r0 (a x y t) => ?_) ?_; clear_value a; rotate_left; dsimp only [a]; rotate_right)
    | (have _ := @hga; intro a; refine (fun hgb : ∀ x y t, Keeps fm r0 t → Keeps fm r0 (a x y t) => ?_) ?_; clear_value a; rotate_left; dsimp only [a]; rotate_right)
    | (intro a; refine (fun hga : ∀ x y t, Keeps fm r0 t → Keeps fm r0 (a x y t) => ?_) ?_; clear_value a; rotate_left; dsimp only [a]; rotate_right)
    | (have _ := @hgb; intro a; refine (fun hgc : ∀ t x, Keeps fm r0 t → Keeps fm r0 (a t x) => ?_) ?_; clear_value a; rotate_left; dsimp only [a]; rotate_right)
    | (have _ := @hga; intro a; refine (fun hgb : ∀ t x, Keeps fm r0 t → Keeps fm r0 (a t x) => ?_) ?_; clear_value a; rotate_left; dsimp only [a]; rotate_right)
    | (intro a; refine (fun hga : ∀ t x, Keeps fm r0 t → Keeps fm r0 (a t x) => ?_) ?_; clear_value a; rotate_left; dsimp only [a]; rotate_right)
    | (intro a; refine (fun (_ : a = (a : Dict)) => ?_) rfl; dsimp only [a])
    | (intro a; clear_value a)
    | apply hga
    | apply hgb
    | apply hgc
    | lift_lets -underBinder
    | apply Keeps.ite
    | apply lost_keeps
    | apply dropVer_keeps
    | apply setEntry_keeps
    | apply dirtyLeaf_keeps
    | apply Keeps.forEach
    | apply Keeps.forRange
    | apply Keeps.foldl
    | apply Keeps.foldl_fst
    | apply Keeps.foldl_snd
    | exact KeepsO.none
    | exact KeepsP.none
    | apply KeepsO.some
    | apply KeepsP.some
    | apply KeepsO.ite
    | apply KeepsP.ite
    | refine KeepsO.foldl _ _ ?_ (fun _ _ _ => ?_)
    | exact KeepsF.lost
    | apply KeepsF.started
    | apply KeepsF.ite
    | fail_if_no_progress (apply Keeps.upd <;> try first | exact Or.inr (fpart (by decide +kernel) hfm) | exact Or.inl rfl)
    | fail_if_no_progress (apply Keeps.updDict <;> try first | exact Or.inr (fpart (by decide +kernel) hfm) | exact Or.inl rfl)
    | refine Keeps.updRegs (rg := Tbl.filterK _ _) ?_ (Tbl.wf_filterK _) (Tbl.wf_filterK _)
    | refine Keeps.updRegs (rg := Tbl.filterK _ _) ?_ (Tbl.wf_filterK _) id
    | split
    | refine Keeps.of_snd (by assumption) ?_
    | refine Keeps.of_fst (by assumption) ?_
    | refine KeepsO.get (by assumption) ?_
    | refine KeepsP.get (by assumption) ?_
    | refine KeepsF.get (by assumption) ?_

theorem replayRec_keeps {fm : Nat} {r0 : State} {s : State × Bool} {p : Nat} {ms : List MediaItem} {recs : List LogRec} {r : LogRec} (hfm : Mask.le 0x300800c0000000000000000000000000000000000000000000000000000000000000000000000880017c000000000000000000000000000000000000000000000000000000000820520 fm = true)
    (h0 : Keeps fm r0 s.1) : Keeps fm r0 (replayRec s p ms recs r).1 := by
  unfold replayRec
  split
  · exact Keeps.ite_fst (replayStripe_keeps (fle (by decide +kernel) hfm) h0) h0
  · exact Keeps.ite_fst (replayDealloc_keeps (fle (by decide +kernel) hfm) h0) h0
  · exact h0

theorem recoverMap_keeps {fm : Nat} {r0 : State}  {s : State} {p : Nat} {ms : List MediaItem} {recs : List LogRec} {scan : Bool} (hfm : Mask.le 0x300800c000000000001a0000000000000000000000000000000000000000000000000000008618b0017c000000000000000000000000000080000000000000000000000000000821520 fm = true) (h0 : Keeps fm r0 s)  : Keeps fm r0 (recoverMap s p ms recs scan).1 := by
  unfold recoverMap
  try lift_lets -underBinder
  with_reducible repeat' first | assumption | exact fpart (by decide +kernel) hfm | exact fle (by decide +kernel) hfm | exact fok (by decide +kernel) hfm | exact fall (by decide +kernel) hfm | exact fokIx (by decide +kernel) hfm | exact fokAll (by decide +kernel) hfm | refine Mask.ok_ite ?_ ?_ | refine faultsOf_ok ?_ ?_ | refine fun _ _ (_ : Keeps fm r0 _) => ?_ | (intro a; refine (fun ha : Keeps fm r0 a => ?_) ?_; clear_value a; rotate_left; dsimp only [a]; rotate_right) | (intro a; refine (fun ha : Keeps fm r0 a.1 => ?_) ?_; clear_value a; rotate_left; dsimp only [a]; rotate_right) | lift_lets -underBinder | apply Keeps.ite | apply Keeps.ite_fst | apply loadCheckpoint_keeps | apply replayStripe_keeps | apply wr_keeps | apply replayRec_keeps | apply raiseOpen_keeps | apply noteLanes_keeps | apply noteZones_keeps | apply Keeps.forRange | apply Keeps.foldl_fst | split

/-! ## Assemble -/

theorem adoptMember_keeps {fm : Nat} {r0 : State}  {s : State} {p : Nat} {x : Super} {i : Nat} (hfm : Mask.le 0x30080000000000000000000000000000000000000000000000000000000000000000000000000001017c00000000000000000000000000007c000000000000000000000020000801120 fm = true) (h0 : Keeps fm r0 s)  : Keeps fm r0 (adoptMember s p x i) := by
  unfold adoptMember
  try lift_lets -underBinder
  with_reducible repeat' first | assumption | exact fpart (by decide +kernel) hfm | exact fle (by decide +kernel) hfm | exact fok (by decide +kernel) hfm | exact fall (by decide +kernel) hfm | exact fokIx (by decide +kernel) hfm | exact fokAll (by decide +kernel) hfm | refine Mask.ok_ite ?_ ?_ | refine faultsOf_ok ?_ ?_ | (intro a; refine (fun ha : Keeps fm r0 a => ?_) ?_; clear_value a; rotate_left; dsimp only [a]; rotate_right) | (intro a; clear_value a) | lift_lets -underBinder | apply Keeps.ite | apply wr_keeps | apply wrBytes_keeps | apply modPool_keeps | apply raiseOpen_keeps | split

theorem adoptVolume_keeps {fm : Nat} {r0 : State}  {s : State} {p : Nat} {v : Nat} {x : SbVolume} (hfm : Mask.le 0x3f0000000000000000000000000200 fm = true) (h0 : Keeps fm r0 s)  : Keeps fm r0 (adoptVolume s p v x) := by
  unfold adoptVolume
  try lift_lets -underBinder
  with_reducible repeat' first | assumption | exact fpart (by decide +kernel) hfm | exact fle (by decide +kernel) hfm | exact fok (by decide +kernel) hfm | exact fall (by decide +kernel) hfm | exact fokIx (by decide +kernel) hfm | exact fokAll (by decide +kernel) hfm | refine Mask.ok_ite ?_ ?_ | refine faultsOf_ok ?_ ?_ | (intro a; refine (fun ha : Keeps fm r0 a => ?_) ?_; clear_value a; rotate_left; dsimp only [a]; rotate_right) | lift_lets -underBinder | apply wr_keeps | apply wrB_keeps | apply modVol_keeps

theorem adoptSuper_keeps {fm : Nat} {r0 : State}  {s : State} {p : Nat} {x : Super} (hfm : Mask.le 0x30080000000000000000000000000000000000000000000000000000000000000000000000000001017c00000000000780000000000000007c0003f0000000023e1f8000200008013a0 fm = true) (h0 : Keeps fm r0 s)  : Keeps fm r0 (adoptSuper s p x) := by
  unfold adoptSuper
  try lift_lets -underBinder
  with_reducible repeat' first | assumption | exact fpart (by decide +kernel) hfm | exact fle (by decide +kernel) hfm | exact fok (by decide +kernel) hfm | exact fall (by decide +kernel) hfm | exact fokIx (by decide +kernel) hfm | exact fokAll (by decide +kernel) hfm | refine Mask.ok_ite ?_ ?_ | refine faultsOf_ok ?_ ?_ | refine fun _ _ (_ : Keeps fm r0 _) => ?_ | (intro a; refine (fun ha : Keeps fm r0 a => ?_) ?_; clear_value a; rotate_left; dsimp only [a]; rotate_right) | (intro a; clear_value a) | lift_lets -underBinder | apply Keeps.ite | apply wr_keeps | apply wrBytes_keeps | apply modPool_keeps | apply adoptMember_keeps | apply adoptVolume_keeps | apply reportShape_keeps | apply Keeps.forEach | apply Keeps.forRange | fail_if_no_progress (apply Keeps.upd <;> try first | exact Or.inr (fpart (by decide +kernel) hfm) | exact Or.inl rfl)

theorem applyLost_keeps {fm : Nat} {r0 : State}  {s : State} {p : Nat} (hfm : Mask.le 0xc00000000000000000000000000000000000000000000000000000000000000000000000800000000000000000000000000000000000000000000000000000000000000020400 fm = true) (h0 : Keeps fm r0 s)  : Keeps fm r0 (applyLost s p) := by
  unfold applyLost
  try lift_lets -underBinder
  with_reducible repeat' first
    | assumption
    | exact fpart (by decide +kernel) hfm
    | exact fle (by decide +kernel) hfm
    | exact fok (by decide +kernel) hfm
    | exact fall (by decide +kernel) hfm
    | exact fokIx (by decide +kernel) hfm
    | exact fokAll (by decide +kernel) hfm
    | refine Mask.ok_ite ?_ ?_
    | refine faultsOf_ok ?_ ?_
    | refine fun _ (_ : Keeps fm r0 _) => ?_
    | refine fun _ _ (_ : Keeps fm r0 _) => ?_
    | refine fun _ _ _ (_ : Keeps fm r0 _) => ?_
    | exact KeepsO.get rfl (by assumption)
    | exact KeepsP.get rfl (by assumption)
    | (intro a; refine (fun ha : Keeps fm r0 a => ?_) ?_; clear_value a; rotate_left; dsimp only [a]; rotate_right)
    | (intro a; refine (fun ha : Keeps fm r0 a.2 => ?_) ?_; clear_value a; rotate_left; dsimp only [a]; rotate_right)
    | (intro a; refine (fun ha : Keeps fm r0 a.1 => ?_) ?_; clear_value a; rotate_left; dsimp only [a]; rotate_right)
    | (intro a; refine (fun ha : KeepsO fm r0 a => ?_) ?_; clear_value a; rotate_left; dsimp only [a]; rotate_right)
    | (have _ := @hgb; intro a; refine (fun hgc : ∀ t, Keeps fm r0 t → Keeps fm r0 (a t) => ?_) ?_; clear_value a; rotate_left; dsimp only [a]; rotate_right)
    | (have _ := @hga; intro a; refine (fun hgb : ∀ t, Keeps fm r0 t → Keeps fm r0 (a t) => ?_) ?_; clear_value a; rotate_left; dsimp only [a]; rotate_right)
    | (intro a; refine (fun hga : ∀ t, Keeps fm r0 t → Keeps fm r0 (a t) => ?_) ?_; clear_value a; rotate_left; dsimp only [a]; rotate_right)
    | (have _ := @hgb; intro a; refine (fun hgc : ∀ x t, Keeps fm r0 t → Keeps fm r0 (a x t) => ?_) ?_; clear_value a; rotate_left; dsimp only [a]; rotate_right)
    | (have _ := @hga; intro a; refine (fun hgb : ∀ x t, Keeps fm r0 t → Keeps fm r0 (a x t) => ?_) ?_; clear_value a; rotate_left; dsimp only [a]; rotate_right)
    | (intro a; refine (fun hga : ∀ x t, Keeps fm r0 t → Keeps fm r0 (a x t) => ?_) ?_; clear_value a; rotate_left; dsimp only [a]; rotate_right)
    | (have _ := @hgb; intro a; refine (fun hgc : ∀ x y t, Keeps fm r0 t → Keeps fm r0 (a x y t) => ?_) ?_; clear_value a; rotate_left; dsimp only [a]; rotate_right)
    | (have _ := @hga; intro a; refine (fun hgb : ∀ x y t, Keeps fm r0 t → Keeps fm r0 (a x y t) => ?_) ?_; clear_value a; rotate_left; dsimp only [a]; rotate_right)
    | (intro a; refine (fun hga : ∀ x y t, Keeps fm r0 t → Keeps fm r0 (a x y t) => ?_) ?_; clear_value a; rotate_left; dsimp only [a]; rotate_right)
    | (have _ := @hgb; intro a; refine (fun hgc : ∀ t x, Keeps fm r0 t → Keeps fm r0 (a t x) => ?_) ?_; clear_value a; rotate_left; dsimp only [a]; rotate_right)
    | (have _ := @hga; intro a; refine (fun hgb : ∀ t x, Keeps fm r0 t → Keeps fm r0 (a t x) => ?_) ?_; clear_value a; rotate_left; dsimp only [a]; rotate_right)
    | (intro a; refine (fun hga : ∀ t x, Keeps fm r0 t → Keeps fm r0 (a t x) => ?_) ?_; clear_value a; rotate_left; dsimp only [a]; rotate_right)
    | (intro a; refine (fun (_ : a = (a : Dict)) => ?_) rfl; dsimp only [a])
    | (intro a; clear_value a)
    | apply hga
    | apply hgb
    | apply hgc
    | lift_lets -underBinder
    | apply Keeps.ite
    | apply lost_keeps
    | apply dropVer_keeps
    | apply setEntry_keeps
    | apply dirtyLeaf_keeps
    | apply Keeps.forEach
    | apply Keeps.forRange
    | apply Keeps.foldl
    | apply Keeps.foldl_fst
    | apply Keeps.foldl_snd
    | exact KeepsO.none
    | exact KeepsP.none
    | apply KeepsO.some
    | apply KeepsP.some
    | apply KeepsO.ite
    | apply KeepsP.ite
    | refine KeepsO.foldl _ _ ?_ (fun _ _ _ => ?_)
    | exact KeepsF.lost
    | apply KeepsF.started
    | apply KeepsF.ite
    | fail_if_no_progress (apply Keeps.upd <;> try first | exact Or.inr (fpart (by decide +kernel) hfm) | exact Or.inl rfl)
    | fail_if_no_progress (apply Keeps.updDict <;> try first | exact Or.inr (fpart (by decide +kernel) hfm) | exact Or.inl rfl)
    | refine Keeps.updRegs (rg := Tbl.filterK _ _) ?_ (Tbl.wf_filterK _) (Tbl.wf_filterK _)
    | refine Keeps.updRegs (rg := Tbl.filterK _ _) ?_ (Tbl.wf_filterK _) id
    | split
    | refine Keeps.of_snd (by assumption) ?_
    | refine Keeps.of_fst (by assumption) ?_
    | refine KeepsO.get (by assumption) ?_
    | refine KeepsP.get (by assumption) ?_
    | refine KeepsF.get (by assumption) ?_

theorem recoverPool_keeps {fm : Nat} {r0 : State}  {s : State} {p : Nat} {ms : List MediaItem} {mirror : Bool} {scan : Bool} (hfm : Mask.le 0x300800c000000000001a0000000000000000000000000000000000000000000000000000008618b0017c000000000000000000000000000080000000000000000000000000000821520 fm = true) (h0 : Keeps fm r0 s)  : Keeps fm r0 (recoverPool s p ms mirror scan).1 := by
  unfold recoverPool
  try lift_lets -underBinder
  with_reducible repeat' first
    | assumption
    | exact fpart (by decide +kernel) hfm
    | exact fle (by decide +kernel) hfm
    | exact fok (by decide +kernel) hfm
    | exact fall (by decide +kernel) hfm
    | exact fokIx (by decide +kernel) hfm
    | exact fokAll (by decide +kernel) hfm
    | refine Mask.ok_ite ?_ ?_
    | refine faultsOf_ok ?_ ?_
    | refine fun _ (_ : Keeps fm r0 _) => ?_
    | refine fun _ _ (_ : Keeps fm r0 _) => ?_
    | refine fun _ _ _ (_ : Keeps fm r0 _) => ?_
    | exact KeepsO.get rfl (by assumption)
    | exact KeepsP.get rfl (by assumption)
    | (intro a; refine (fun ha : Keeps fm r0 a => ?_) ?_; clear_value a; rotate_left; dsimp only [a]; rotate_right)
    | (intro a; refine (fun ha : Keeps fm r0 a.2 => ?_) ?_; clear_value a; rotate_left; dsimp only [a]; rotate_right)
    | (intro a; refine (fun ha : Keeps fm r0 a.1 => ?_) ?_; clear_value a; rotate_left; dsimp only [a]; rotate_right)
    | (intro a; refine (fun ha : KeepsO fm r0 a => ?_) ?_; clear_value a; rotate_left; dsimp only [a]; rotate_right)
    | (have _ := @hgb; intro a; refine (fun hgc : ∀ t, Keeps fm r0 t → Keeps fm r0 (a t) => ?_) ?_; clear_value a; rotate_left; dsimp only [a]; rotate_right)
    | (have _ := @hga; intro a; refine (fun hgb : ∀ t, Keeps fm r0 t → Keeps fm r0 (a t) => ?_) ?_; clear_value a; rotate_left; dsimp only [a]; rotate_right)
    | (intro a; refine (fun hga : ∀ t, Keeps fm r0 t → Keeps fm r0 (a t) => ?_) ?_; clear_value a; rotate_left; dsimp only [a]; rotate_right)
    | (have _ := @hgb; intro a; refine (fun hgc : ∀ x t, Keeps fm r0 t → Keeps fm r0 (a x t) => ?_) ?_; clear_value a; rotate_left; dsimp only [a]; rotate_right)
    | (have _ := @hga; intro a; refine (fun hgb : ∀ x t, Keeps fm r0 t → Keeps fm r0 (a x t) => ?_) ?_; clear_value a; rotate_left; dsimp only [a]; rotate_right)
    | (intro a; refine (fun hga : ∀ x t, Keeps fm r0 t → Keeps fm r0 (a x t) => ?_) ?_; clear_value a; rotate_left; dsimp only [a]; rotate_right)
    | (have _ := @hgb; intro a; refine (fun hgc : ∀ x y t, Keeps fm r0 t → Keeps fm r0 (a x y t) => ?_) ?_; clear_value a; rotate_left; dsimp only [a]; rotate_right)
    | (have _ := @hga; intro a; refine (fun hgb : ∀ x y t, Keeps fm r0 t → Keeps fm r0 (a x y t) => ?_) ?_; clear_value a; rotate_left; dsimp only [a]; rotate_right)
    | (intro a; refine (fun hga : ∀ x y t, Keeps fm r0 t → Keeps fm r0 (a x y t) => ?_) ?_; clear_value a; rotate_left; dsimp only [a]; rotate_right)
    | (have _ := @hgb; intro a; refine (fun hgc : ∀ t x, Keeps fm r0 t → Keeps fm r0 (a t x) => ?_) ?_; clear_value a; rotate_left; dsimp only [a]; rotate_right)
    | (have _ := @hga; intro a; refine (fun hgb : ∀ t x, Keeps fm r0 t → Keeps fm r0 (a t x) => ?_) ?_; clear_value a; rotate_left; dsimp only [a]; rotate_right)
    | (intro a; refine (fun hga : ∀ t x, Keeps fm r0 t → Keeps fm r0 (a t x) => ?_) ?_; clear_value a; rotate_left; dsimp only [a]; rotate_right)
    | (intro a; refine (fun (_ : a = (a : Dict)) => ?_) rfl; dsimp only [a])
    | (intro a; clear_value a)
    | apply hga
    | apply hgb
    | apply hgc
    | lift_lets -underBinder
    | apply Keeps.ite
    | with_reducible apply Keeps.ite_fst
    | apply Keeps.ite_fst
    | apply recoverMap_keeps
    | apply applyLost_keeps
    | apply modPool_keeps
    | apply Keeps.forEach
    | apply Keeps.forRange
    | apply Keeps.foldl
    | apply Keeps.foldl_fst
    | apply Keeps.foldl_snd
    | exact KeepsO.none
    | exact KeepsP.none
    | apply KeepsO.some
    | apply KeepsP.some
    | apply KeepsO.ite
    | apply KeepsP.ite
    | refine KeepsO.foldl _ _ ?_ (fun _ _ _ => ?_)
    | exact KeepsF.lost
    | apply KeepsF.started
    | apply KeepsF.ite
    | fail_if_no_progress (apply Keeps.upd <;> try first | exact Or.inr (fpart (by decide +kernel) hfm) | exact Or.inl rfl)
    | fail_if_no_progress (apply Keeps.updDict <;> try first | exact Or.inr (fpart (by decide +kernel) hfm) | exact Or.inl rfl)
    | refine Keeps.updRegs (rg := Tbl.filterK _ _) ?_ (Tbl.wf_filterK _) (Tbl.wf_filterK _)
    | refine Keeps.updRegs (rg := Tbl.filterK _ _) ?_ (Tbl.wf_filterK _) id
    | split
    | refine Keeps.of_snd (by assumption) ?_
    | refine Keeps.of_fst (by assumption) ?_
    | refine KeepsO.get (by assumption) ?_
    | refine KeepsP.get (by assumption) ?_
    | refine KeepsF.get (by assumption) ?_

theorem settleSegs_keeps {fm : Nat} {r0 : State}  {s : State} {p : Nat} (hfm : Mask.le 0x3008000000000000001a0000000000000000000100000000000000000000000000000014008e0000017c000000000000000000000000000080000000000000000000020000040807320 fm = true) (h0 : Keeps fm r0 s)  : Keeps fm r0 (settleSegs s p) := by
  unfold settleSegs
  try lift_lets -underBinder
  with_reducible repeat' first | assumption | exact fpart (by decide +kernel) hfm | exact fle (by decide +kernel) hfm | exact fok (by decide +kernel) hfm | exact fall (by decide +kernel) hfm | exact fokIx (by decide +kernel) hfm | exact fokAll (by decide +kernel) hfm | refine Mask.ok_ite ?_ ?_ | refine faultsOf_ok ?_ ?_ | refine fun _ _ (_ : Keeps fm r0 _) => ?_ | (intro a; clear_value a) | lift_lets -underBinder | apply Keeps.ite | apply leaveSeg_keeps | apply freeSegment_keeps | apply freedRecord_keeps | apply issueTo_keeps | apply modSeg_keeps | apply Keeps.forEach

theorem reissueSlots_keeps {fm : Nat} {r0 : State}  {s : State} {p : Nat} {l : List (Nat × Slot)} (hfm : Mask.le 0x300801c002000000001f000000000000000000010000000000000000000000000000001400860080017c190000000000000000000000000080000000000000000000020000040877d20 fm = true) (h0 : Keeps fm r0 s)  : Keeps fm r0 (reissueSlots s p l) := by
  unfold reissueSlots
  try lift_lets -underBinder
  with_reducible repeat' first | assumption | exact fpart (by decide +kernel) hfm | exact fle (by decide +kernel) hfm | exact fok (by decide +kernel) hfm | exact fall (by decide +kernel) hfm | exact fokIx (by decide +kernel) hfm | exact fokAll (by decide +kernel) hfm | refine Mask.ok_ite ?_ ?_ | refine faultsOf_ok ?_ ?_ | refine fun _ _ (_ : Keeps fm r0 _) => ?_ | (intro a; refine (fun ha : Keeps fm r0 a => ?_) ?_; clear_value a; rotate_left; dsimp only [a]; rotate_right) | (intro a; clear_value a) | lift_lets -underBinder | apply Keeps.ite | apply modSlot_keeps | apply setEntry_keeps | apply dirtyLeaf_keeps | apply staleSector_keeps | apply setVer_keeps | apply modPool_keeps | apply issueAll_keeps | apply placeAgain_keeps | apply Keeps.forEach | split

theorem settleSlots_keeps {fm : Nat} {r0 : State}  {s : State} {p : Nat} (hfm : Mask.le 0x300801c002000000021f000000000070000000010000000000000000000000000000001400860080017c190000000000000000000000000080000000000000000000020000040877d20 fm = true) (h0 : Keeps fm r0 s)  : Keeps fm r0 (settleSlots s p) := by
  unfold settleSlots
  try lift_lets -underBinder
  with_reducible repeat' first | assumption | exact fpart (by decide +kernel) hfm | exact fle (by decide +kernel) hfm | exact fok (by decide +kernel) hfm | exact fall (by decide +kernel) hfm | exact fokIx (by decide +kernel) hfm | exact fokAll (by decide +kernel) hfm | refine Mask.ok_ite ?_ ?_ | refine faultsOf_ok ?_ ?_ | refine fun _ _ (_ : Keeps fm r0 _) => ?_ | (intro a; refine (fun ha : Keeps fm r0 a => ?_) ?_; clear_value a; rotate_left; dsimp only [a]; rotate_right) | (intro a; clear_value a) | lift_lets -underBinder | apply releaseSlot_keeps | apply noteRestored_keeps | apply reissueSlots_keeps | apply Keeps.forEach

theorem startCatchUp_keeps {fm : Nat} {r0 : State}  {s : State} {p : Nat} (hfm : Mask.le 0x190000000000000000000000001200000000000000000000000000000841020 fm = true) (h0 : Keeps fm r0 s)  : Keeps fm r0 (startCatchUp s p) := by
  unfold startCatchUp
  try lift_lets -underBinder
  with_reducible repeat' first | assumption | exact fpart (by decide +kernel) hfm | exact fle (by decide +kernel) hfm | exact fok (by decide +kernel) hfm | exact fall (by decide +kernel) hfm | exact fokIx (by decide +kernel) hfm | exact fokAll (by decide +kernel) hfm | refine Mask.ok_ite ?_ ?_ | refine faultsOf_ok ?_ ?_ | refine fun _ _ (_ : Keeps fm r0 _) => ?_ | (intro a; refine (fun ha : Keeps fm r0 a => ?_) ?_; clear_value a; rotate_left; dsimp only [a]; rotate_right) | (intro a; clear_value a) | lift_lets -underBinder | apply Keeps.ite | apply sendMsg_keeps | apply modPair_keeps | apply modPool_keeps | apply wr_keeps | apply wrB_keeps | apply sendMirror_keeps | apply sendRecord_keeps | apply Keeps.forEach | split

theorem endCatchUp_keeps {fm : Nat} {r0 : State}  {s : State} {p : Nat} (hfm : Mask.le 0x1200000000000000000000000000000001000 fm = true) (h0 : Keeps fm r0 s)  : Keeps fm r0 (endCatchUp s p) := by
  unfold endCatchUp
  with_reducible repeat' first | assumption | exact fpart (by decide +kernel) hfm | exact fle (by decide +kernel) hfm | exact fok (by decide +kernel) hfm | exact fall (by decide +kernel) hfm | exact fokIx (by decide +kernel) hfm | exact fokAll (by decide +kernel) hfm | refine Mask.ok_ite ?_ ?_ | refine faultsOf_ok ?_ ?_ | apply Keeps.ite | apply wrB_keeps | apply wr_keeps | apply modPool_keeps

theorem takeRole_keeps {fm : Nat} {r0 : State}  {s : State} {p : Nat} (hfm : Mask.le 0x190000000000000000000000001200000000000000000000000000000841020 fm = true) (h0 : Keeps fm r0 s)  : Keeps fm r0 (takeRole s p) := by
  unfold takeRole
  with_reducible repeat' first | assumption | exact fpart (by decide +kernel) hfm | exact fle (by decide +kernel) hfm | exact fok (by decide +kernel) hfm | exact fall (by decide +kernel) hfm | exact fokIx (by decide +kernel) hfm | exact fokAll (by decide +kernel) hfm | refine Mask.ok_ite ?_ ?_ | refine faultsOf_ok ?_ ?_ | apply Keeps.ite | apply startCatchUp_keeps | apply wr_keeps

theorem serve_keeps {fm : Nat} {r0 : State}  {s : State} {p : Nat} {scanned : Bool} (hfm : Mask.le 0x800000000000000000d00000000000600000000000000000000000000000000000000031000000000000000000800000000000000000000000000000000000000010000000000000600000000801100 fm = true) (h0 : Keeps fm r0 s)  : Keeps fm r0 (serve s p scanned) := by
  unfold serve
  try lift_lets -underBinder
  with_reducible repeat' first | assumption | exact fpart (by decide +kernel) hfm | exact fle (by decide +kernel) hfm | exact fok (by decide +kernel) hfm | exact fall (by decide +kernel) hfm | exact fokIx (by decide +kernel) hfm | exact fokAll (by decide +kernel) hfm | refine Mask.ok_ite ?_ ?_ | refine faultsOf_ok ?_ ?_ | (intro a; refine (fun ha : Keeps fm r0 a => ?_) ?_; clear_value a; rotate_left; dsimp only [a]; rotate_right) | (intro a; clear_value a) | lift_lets -underBinder | apply Keeps.ite | apply wr_keeps | apply modPool_keeps | apply considerRebuild_keeps | apply noteDirs_keeps | apply noteLocks_keeps

theorem finishAssembly_keeps {fm : Nat} {r0 : State}  {s : State} {p : Nat} {scanned : Bool} (hfm : Mask.le 0x800000000000300801d002000000027f0000000000700000000320000000000000000031000000000014008e04c0017c1900000000000000000000000000800003f0000000000400620000040877f20 fm = true) (h0 : Keeps fm r0 s)  : Keeps fm r0 (finishAssembly s p scanned) := by
  unfold finishAssembly
  try lift_lets -underBinder
  with_reducible repeat' first | assumption | exact fpart (by decide +kernel) hfm | exact fle (by decide +kernel) hfm | exact fok (by decide +kernel) hfm | exact fall (by decide +kernel) hfm | exact fokIx (by decide +kernel) hfm | exact fokAll (by decide +kernel) hfm | refine Mask.ok_ite ?_ ?_ | refine faultsOf_ok ?_ ?_ | (intro a; refine (fun ha : Keeps fm r0 a => ?_) ?_; clear_value a; rotate_left; dsimp only [a]; rotate_right) | (intro a; clear_value a) | lift_lets -underBinder | apply Keeps.ite | apply settleSlots_keeps | apply settleSegs_keeps | apply serve_keeps | apply releaseVols_keeps | apply reloadRanges_keeps | apply writeSuper_keeps | apply noteHolds_keeps | apply reserveAll_keeps | apply requestCkpt_keeps

theorem resumeSweeps_keeps {fm : Nat} {r0 : State}  {s : State} {p : Nat} (hfm : Mask.le 0x100000000000000000000000000000000000000000000000000000000000000000000000000000000000000000000000000000003220 fm = true) (h0 : Keeps fm r0 s)  : Keeps fm r0 (resumeSweeps s p) := by
  unfold resumeSweeps
  try lift_lets -underBinder
  with_reducible repeat' first | assumption | exact fpart (by decide +kernel) hfm | exact fle (by decide +kernel) hfm | exact fok (by decide +kernel) hfm | exact fall (by decide +kernel) hfm | exact fokIx (by decide +kernel) hfm | exact fokAll (by decide +kernel) hfm | refine Mask.ok_ite ?_ ?_ | refine faultsOf_ok ?_ ?_ | refine fun _ (_ : Keeps fm r0 _) => ?_ | refine fun _ _ (_ : Keeps fm r0 _) => ?_ | (intro a; refine (fun ha : Keeps fm r0 a => ?_) ?_; clear_value a; rotate_left; dsimp only [a]; rotate_right) | (intro a; refine (fun hga : ∀ t, Keeps fm r0 t → Keeps fm r0 (a t) => ?_) ?_; clear_value a; rotate_left; dsimp only [a]; rotate_right) | (intro a; clear_value a) | apply hga | lift_lets -underBinder | apply Keeps.ite | apply modOp_keeps | apply logRec_keeps | apply noteSweep_keeps | apply requestCkpt_keeps | apply Keeps.forEach

/-! ## Pools -/

theorem modAct_keeps {fm : Nat} {r0 : State}  {s : State} {p : Nat} {f : PoolAct → PoolAct} (hfm : Mask.le 0x1000 fm = true) (h0 : Keeps fm r0 s)  : Keeps fm r0 (modAct s p f) := by
  unfold modAct
  with_reducible repeat' first | assumption | exact fpart (by decide +kernel) hfm | exact fle (by decide +kernel) hfm | exact fok (by decide +kernel) hfm | exact fall (by decide +kernel) hfm | exact fokIx (by decide +kernel) hfm | exact fokAll (by decide +kernel) hfm | refine Mask.ok_ite ?_ ?_ | refine faultsOf_ok ?_ ?_ | apply modPool_keeps

theorem endAct_keeps {fm : Nat} {r0 : State}  {s : State} {p : Nat} {result : Nat} (hfm : Mask.le 0x100000000000001000 fm = true) (h0 : Keeps fm r0 s)  : Keeps fm r0 (endAct s p result) := by
  unfold endAct
  with_reducible repeat' first | assumption | exact fpart (by decide +kernel) hfm | exact fle (by decide +kernel) hfm | exact fok (by decide +kernel) hfm | exact fall (by decide +kernel) hfm | exact fokIx (by decide +kernel) hfm | exact fokAll (by decide +kernel) hfm | refine Mask.ok_ite ?_ ?_ | refine faultsOf_ok ?_ ?_ | apply wr_keeps | apply modPool_keeps

theorem startAct_keeps {fm : Nat} {r0 : State}  {s : State} {p : Nat} {code : Nat} {step : Nat} (hfm : Mask.le 0x100000000000001000 fm = true) (h0 : Keeps fm r0 s)  : Keeps fm r0 (startAct s p code step) := by
  unfold startAct
  with_reducible repeat' first | assumption | exact fpart (by decide +kernel) hfm | exact fle (by decide +kernel) hfm | exact fok (by decide +kernel) hfm | exact fall (by decide +kernel) hfm | exact fokIx (by decide +kernel) hfm | exact fokAll (by decide +kernel) hfm | refine Mask.ok_ite ?_ ?_ | refine faultsOf_ok ?_ ?_ | apply wr_keeps | apply modPool_keeps

theorem actStep_keeps {fm : Nat} {r0 : State}  {s : State} {p : Nat} {step : Nat} {l : List Nat} {op : Nat → MOp} (hfm : Mask.le 0x14000000000000000000000000000000000000000000000000000000000000020000040805020 fm = true) (h0 : Keeps fm r0 s)  : Keeps fm r0 (actStep s p step l op) := by
  unfold actStep
  with_reducible repeat' first | assumption | exact fpart (by decide +kernel) hfm | exact fle (by decide +kernel) hfm | exact fok (by decide +kernel) hfm | exact fall (by decide +kernel) hfm | exact fokIx (by decide +kernel) hfm | exact fokAll (by decide +kernel) hfm | refine Mask.ok_ite ?_ ?_ | refine faultsOf_ok ?_ ?_ | refine fun _ _ (_ : Keeps fm r0 _) => ?_ | apply issueTo_keeps | apply modAct_keeps | apply Keeps.forEach

theorem releaseHeld_keeps {fm : Nat} {r0 : State}  {s : State} {p : Nat} {l : List Nat} (hfm : Mask.le 0x14000000000000000000000000000000000000000000000000000000000000020000040804020 fm = true) (h0 : Keeps fm r0 s)  : Keeps fm r0 (releaseHeld s p l) := by
  unfold releaseHeld
  with_reducible repeat' first | assumption | exact fpart (by decide +kernel) hfm | exact fle (by decide +kernel) hfm | exact fok (by decide +kernel) hfm | exact fall (by decide +kernel) hfm | exact fokIx (by decide +kernel) hfm | exact fokAll (by decide +kernel) hfm | refine Mask.ok_ite ?_ ?_ | refine faultsOf_ok ?_ ?_ | refine fun _ _ (_ : Keeps fm r0 _) => ?_ | apply issueTo_keeps | apply Keeps.forEach

theorem execPoolActionCreate_keeps {fm : Nat} {r0 : State}  {p : Nat} {s : State} (hfm : Mask.le 0x14000000000000000000000000000000000000000000000000000000000100020000040805020 fm = true) (h0 : Keeps fm r0 s)  : ∃ t1, (execPoolActionCreate p s) = .next t1 ∧ Keeps fm r0 t1 := by
  refine ⟨_, rfl, ?_⟩
  try lift_lets -underBinder
  with_reducible repeat' first | assumption | exact fpart (by decide +kernel) hfm | exact fle (by decide +kernel) hfm | exact fok (by decide +kernel) hfm | exact fall (by decide +kernel) hfm | exact fokIx (by decide +kernel) hfm | exact fokAll (by decide +kernel) hfm | refine Mask.ok_ite ?_ ?_ | refine faultsOf_ok ?_ ?_ | (intro a; clear_value a) | lift_lets -underBinder | apply Keeps.ite | apply wr_keeps | apply actStep_keeps | apply startAct_keeps

theorem configurePool_keeps {fm : Nat} {r0 : State}  {s : State} {p : Nat} (hfm : Mask.le 0x30080000000000000000000000000000000000000000000000000000000000000000000000860001017c0000000000018000000000000000f8000000000000023e05800020001801120 fm = true) (h0 : Keeps fm r0 s)  : Keeps fm r0 (configurePool s p) := by
  unfold configurePool
  try lift_lets -underBinder
  with_reducible repeat' first | assumption | exact fpart (by decide +kernel) hfm | exact fle (by decide +kernel) hfm | exact fok (by decide +kernel) hfm | exact fall (by decide +kernel) hfm | exact fokIx (by decide +kernel) hfm | exact fokAll (by decide +kernel) hfm | refine Mask.ok_ite ?_ ?_ | refine faultsOf_ok ?_ ?_ | refine fun _ _ (_ : Keeps fm r0 _) => ?_ | (intro a; refine (fun ha : Keeps fm r0 a => ?_) ?_; clear_value a; rotate_left; dsimp only [a]; rotate_right) | (intro a; clear_value a) | lift_lets -underBinder | apply takeFree_keeps | apply wrBytes_keeps | apply modPool_keeps | apply wr_keeps | apply adoptDrive_keeps | apply noteZones_keeps | apply reportShape_keeps | apply Keeps.forEach

theorem unconfigure_keeps {fm : Nat} {r0 : State}  {s : State} {p : Nat} (hfm : Mask.le 0x20000000000007000000000000000000000000000000000000000000004000000000000000000000000000000000002f0000000000000023e00600020000023800 fm = true) (h0 : Keeps fm r0 s)  : Keeps fm r0 (unconfigure s p) := by
  unfold unconfigure
  try lift_lets -underBinder
  with_reducible repeat' first | assumption | exact fpart (by decide +kernel) hfm | exact fle (by decide +kernel) hfm | exact fok (by decide +kernel) hfm | exact fall (by decide +kernel) hfm | exact fokIx (by decide +kernel) hfm | exact fokAll (by decide +kernel) hfm | refine Mask.ok_ite ?_ ?_ | refine faultsOf_ok ?_ ?_ | refine fun _ _ (_ : Keeps fm r0 _) => ?_ | (intro a; refine (fun ha : Keeps fm r0 a => ?_) ?_; clear_value a; rotate_left; dsimp only [a]; rotate_right) | (intro a; clear_value a) | lift_lets -underBinder | apply Keeps.ite | apply noteRestored_keeps | apply releaseSlot_keeps | apply wr_keeps | apply clr_keeps | apply wrBytes_keeps | apply clrAll_keeps | apply Keeps.forEach | apply Keeps.forRange | fail_if_no_progress (apply Keeps.upd <;> try first | exact Or.inr (fpart (by decide +kernel) hfm) | exact Or.inl rfl)

theorem readSupers_keeps {fm : Nat} {r0 : State}  {s : State} {p : Nat} (hfm : Mask.le 0x14000000000000000000000000000000000000000000000000000000000000020000040805020 fm = true) (h0 : Keeps fm r0 s)  : Keeps fm r0 (readSupers s p) := by
  unfold readSupers
  try lift_lets -underBinder
  with_reducible repeat' first | assumption | exact fpart (by decide +kernel) hfm | exact fle (by decide +kernel) hfm | exact fok (by decide +kernel) hfm | exact fall (by decide +kernel) hfm | exact fokIx (by decide +kernel) hfm | exact fokAll (by decide +kernel) hfm | refine Mask.ok_ite ?_ ?_ | refine faultsOf_ok ?_ ?_ | refine fun _ _ (_ : Keeps fm r0 _) => ?_ | (intro a; clear_value a) | lift_lets -underBinder | apply issue_keeps | apply modAct_keeps | apply Keeps.forEach

theorem startOnline_keeps {fm : Nat} {r0 : State}  {s : State} {p : Nat} (hfm : Mask.le 0x14000000000000000000000000000000000000000000000000000000000100020000040805020 fm = true) (h0 : Keeps fm r0 s)  : Keeps fm r0 (startOnline s p) := by
  unfold startOnline
  with_reducible repeat' first | assumption | exact fpart (by decide +kernel) hfm | exact fle (by decide +kernel) hfm | exact fok (by decide +kernel) hfm | exact fall (by decide +kernel) hfm | exact fokIx (by decide +kernel) hfm | exact fokAll (by decide +kernel) hfm | refine Mask.ok_ite ?_ ?_ | refine faultsOf_ok ?_ ?_ | apply readSupers_keeps | apply startAct_keeps

theorem execPoolActionOnline_keeps {fm : Nat} {r0 : State}  {p : Nat} {s : State} (hfm : Mask.le 0x14000000000000000000000000000000000000000000000000000000000100020000040905020 fm = true) (h0 : Keeps fm r0 s)  : ∃ t1, (execPoolActionOnline p s) = .next t1 ∧ Keeps fm r0 t1 := by
  refine ⟨_, rfl, ?_⟩
  with_reducible repeat' first | assumption | exact fpart (by decide +kernel) hfm | exact fle (by decide +kernel) hfm | exact fok (by decide +kernel) hfm | exact fall (by decide +kernel) hfm | exact fokIx (by decide +kernel) hfm | exact fokAll (by decide +kernel) hfm | refine Mask.ok_ite ?_ ?_ | refine faultsOf_ok ?_ ?_ | apply Keeps.ite | apply wr_keeps | apply startOnline_keeps | fail_if_no_progress (apply Keeps.upd <;> try first | exact Or.inr (fpart (by decide +kernel) hfm) | exact Or.inl rfl)

theorem onlineFails_keeps {fm : Nat} {r0 : State}  {s : State} {p : Nat} {result : Nat} {held : List Nat} (hfm : Mask.le 0x14000000000000000000000000000000000000000000000000000000000100620000040805020 fm = true) (h0 : Keeps fm r0 s)  : Keeps fm r0 (onlineFails s p result held) := by
  unfold onlineFails
  try lift_lets -underBinder
  with_reducible repeat' first | assumption | exact fpart (by decide +kernel) hfm | exact fle (by decide +kernel) hfm | exact fok (by decide +kernel) hfm | exact fall (by decide +kernel) hfm | exact fokIx (by decide +kernel) hfm | exact fokAll (by decide +kernel) hfm | refine Mask.ok_ite ?_ ?_ | refine faultsOf_ok ?_ ?_ | (intro a; clear_value a) | lift_lets -underBinder | apply endAct_keeps | apply wr_keeps | apply releaseHeld_keeps

theorem onlineAdopt_keeps {fm : Nat} {r0 : State}  {s : State} {p : Nat} (hfm : Mask.le 0x30080000000000000000000000000000000000000000000000000000000000000000001400000001017c00000000000780000000000000007c0003f0000000023f1fe200200408053a0 fm = true) (h0 : Keeps fm r0 s)  : Keeps fm r0 (onlineAdopt s p) := by
  unfold onlineAdopt
  try lift_lets -underBinder
  with_reducible repeat' first | assumption | exact fpart (by decide +kernel) hfm | exact fle (by decide +kernel) hfm | exact fok (by decide +kernel) hfm | exact fall (by decide +kernel) hfm | exact fokIx (by decide +kernel) hfm | exact fokAll (by decide +kernel) hfm | refine Mask.ok_ite ?_ ?_ | refine faultsOf_ok ?_ ?_ | (intro a; refine (fun ha : Keeps fm r0 a => ?_) ?_; clear_value a; rotate_left; dsimp only [a]; rotate_right) | (intro a; clear_value a) | lift_lets -underBinder | apply Keeps.ite | apply onlineFails_keeps | apply adoptSuper_keeps | apply actStep_keeps | split

theorem onlineRecover_keeps {fm : Nat} {r0 : State}  {s : State} {p : Nat} {held : List Nat} {media : List MediaItem} (hfm : Mask.le 0x800000000000300801d002000000027f0000000000700000000320000000000000000031000000000014008e1cf0017c1900000000178000000000000012800003f0000000003d01e20000040877f20 fm = true) (h0 : Keeps fm r0 s)  : Keeps fm r0 (onlineRecover s p held media) := by
  unfold onlineRecover
  try lift_lets -underBinder
  with_reducible repeat' first | assumption | exact fpart (by decide +kernel) hfm | exact fle (by decide +kernel) hfm | exact fok (by decide +kernel) hfm | exact fall (by decide +kernel) hfm | exact fokIx (by decide +kernel) hfm | exact fokAll (by decide +kernel) hfm | refine Mask.ok_ite ?_ ?_ | refine faultsOf_ok ?_ ?_ | (intro a; refine (fun ha : Keeps fm r0 a => ?_) ?_; clear_value a; rotate_left; dsimp only [a]; rotate_right) | (intro a; refine (fun ha : Keeps fm r0 a.1 => ?_) ?_; clear_value a; rotate_left; dsimp only [a]; rotate_right) | (intro a; clear_value a) | lift_lets -underBinder | apply Keeps.ite | apply recoverPool_keeps | apply onlineFails_keeps | apply endAct_keeps | apply finishAssembly_keeps | apply resumeSweeps_keeps | apply takeRole_keeps | apply codeReshape_keeps

theorem execPoolActionOffline_keeps {fm : Nat} {r0 : State}  {p : Nat} {s : State} (hfm : Mask.le 0x100000000000001000 fm = true) (h0 : Keeps fm r0 s)  : ∃ t1, (execPoolActionOffline p s) = .next t1 ∧ Keeps fm r0 t1 := by
  refine ⟨_, rfl, ?_⟩
  with_reducible repeat' first | assumption | exact fpart (by decide +kernel) hfm | exact fle (by decide +kernel) hfm | exact fok (by decide +kernel) hfm | exact fall (by decide +kernel) hfm | exact fokIx (by decide +kernel) hfm | exact fokAll (by decide +kernel) hfm | refine Mask.ok_ite ?_ ?_ | refine faultsOf_ok ?_ ?_ | apply Keeps.ite | apply wr_keeps | apply startAct_keeps

theorem restPool_keeps {fm : Nat} {r0 : State}  {s : State} {p : Nat} (hfm : Mask.le 0xc000000000021b0000000000000000000000000000000000000000000000000000000000800000000000000000000000000000000000000000000000000000000000000001c00 fm = true) (h0 : Keeps fm r0 s)  : Keeps fm r0 (restPool s p) := by
  unfold restPool
  try lift_lets -underBinder
  with_reducible repeat' first
    | assumption
    | exact fpart (by decide +kernel) hfm
    | exact fle (by decide +kernel) hfm
    | exact fok (by decide +kernel) hfm
    | exact fall (by decide +kernel) hfm
    | exact fokIx (by decide +kernel) hfm
    | exact fokAll (by decide +kernel) hfm
    | refine Mask.ok_ite ?_ ?_
    | refine faultsOf_ok ?_ ?_
    | refine fun _ (_ : Keeps fm r0 _) => ?_
    | refine fun _ _ (_ : Keeps fm r0 _) => ?_
    | refine fun _ _ _ (_ : Keeps fm r0 _) => ?_
    | exact KeepsO.get rfl (by assumption)
    | exact KeepsP.get rfl (by assumption)
    | (intro a; refine (fun ha : Keeps fm r0 a => ?_) ?_; clear_value a; rotate_left; dsimp only [a]; rotate_right)
    | (intro a; refine (fun ha : Keeps fm r0 a.2 => ?_) ?_; clear_value a; rotate_left; dsimp only [a]; rotate_right)
    | (intro a; refine (fun ha : Keeps fm r0 a.1 => ?_) ?_; clear_value a; rotate_left; dsimp only [a]; rotate_right)
    | (intro a; refine (fun ha : KeepsO fm r0 a => ?_) ?_; clear_value a; rotate_left; dsimp only [a]; rotate_right)
    | (have _ := @hgb; intro a; refine (fun hgc : ∀ t, Keeps fm r0 t → Keeps fm r0 (a t) => ?_) ?_; clear_value a; rotate_left; dsimp only [a]; rotate_right)
    | (have _ := @hga; intro a; refine (fun hgb : ∀ t, Keeps fm r0 t → Keeps fm r0 (a t) => ?_) ?_; clear_value a; rotate_left; dsimp only [a]; rotate_right)
    | (intro a; refine (fun hga : ∀ t, Keeps fm r0 t → Keeps fm r0 (a t) => ?_) ?_; clear_value a; rotate_left; dsimp only [a]; rotate_right)
    | (have _ := @hgb; intro a; refine (fun hgc : ∀ x t, Keeps fm r0 t → Keeps fm r0 (a x t) => ?_) ?_; clear_value a; rotate_left; dsimp only [a]; rotate_right)
    | (have _ := @hga; intro a; refine (fun hgb : ∀ x t, Keeps fm r0 t → Keeps fm r0 (a x t) => ?_) ?_; clear_value a; rotate_left; dsimp only [a]; rotate_right)
    | (intro a; refine (fun hga : ∀ x t, Keeps fm r0 t → Keeps fm r0 (a x t) => ?_) ?_; clear_value a; rotate_left; dsimp only [a]; rotate_right)
    | (have _ := @hgb; intro a; refine (fun hgc : ∀ x y t, Keeps fm r0 t → Keeps fm r0 (a x y t) => ?_) ?_; clear_value a; rotate_left; dsimp only [a]; rotate_right)
    | (have _ := @hga; intro a; refine (fun hgb : ∀ x y t, Keeps fm r0 t → Keeps fm r0 (a x y t) => ?_) ?_; clear_value a; rotate_left; dsimp only [a]; rotate_right)
    | (intro a; refine (fun hga : ∀ x y t, Keeps fm r0 t → Keeps fm r0 (a x y t) => ?_) ?_; clear_value a; rotate_left; dsimp only [a]; rotate_right)
    | (have _ := @hgb; intro a; refine (fun hgc : ∀ t x, Keeps fm r0 t → Keeps fm r0 (a t x) => ?_) ?_; clear_value a; rotate_left; dsimp only [a]; rotate_right)
    | (have _ := @hga; intro a; refine (fun hgb : ∀ t x, Keeps fm r0 t → Keeps fm r0 (a t x) => ?_) ?_; clear_value a; rotate_left; dsimp only [a]; rotate_right)
    | (intro a; refine (fun hga : ∀ t x, Keeps fm r0 t → Keeps fm r0 (a t x) => ?_) ?_; clear_value a; rotate_left; dsimp only [a]; rotate_right)
    | (intro a; refine (fun (_ : a = (a : Dict)) => ?_) rfl; dsimp only [a])
    | (intro a; clear_value a)
    | apply hga
    | apply hgb
    | apply hgc
    | lift_lets -underBinder
    | apply Keeps.ite
    | apply modPool_keeps
    | apply clearMap_keeps
    | apply noteLeaves_keeps
    | apply noteStripes_keeps
    | apply noteLanes_keeps
    | apply noteRestored_keeps
    | apply Keeps.forEach
    | apply Keeps.forRange
    | apply Keeps.foldl
    | apply Keeps.foldl_fst
    | apply Keeps.foldl_snd
    | exact KeepsO.none
    | exact KeepsP.none
    | apply KeepsO.some
    | apply KeepsP.some
    | apply KeepsO.ite
    | apply KeepsP.ite
    | refine KeepsO.foldl _ _ ?_ (fun _ _ _ => ?_)
    | exact KeepsF.lost
    | apply KeepsF.started
    | apply KeepsF.ite
    | fail_if_no_progress (apply Keeps.upd <;> try first | exact Or.inr (fpart (by decide +kernel) hfm) | exact Or.inl rfl)
    | fail_if_no_progress (apply Keeps.updDict <;> try first | exact Or.inr (fpart (by decide +kernel) hfm) | exact Or.inl rfl)
    | refine Keeps.updRegs (rg := Tbl.filterK _ _) ?_ (Tbl.wf_filterK _) (Tbl.wf_filterK _)
    | refine Keeps.updRegs (rg := Tbl.filterK _ _) ?_ (Tbl.wf_filterK _) id
    | split
    | refine Keeps.of_snd (by assumption) ?_
    | refine Keeps.of_fst (by assumption) ?_
    | refine KeepsO.get (by assumption) ?_
    | refine KeepsP.get (by assumption) ?_
    | refine KeepsF.get (by assumption) ?_

theorem goOffline_keeps {fm : Nat} {r0 : State}  {s : State} {p : Nat} (hfm : Mask.le 0x1c002000000021b0000000000000000000000000000000000800001000000000000008200800000000000000000000000000000001200000000000000000100600000000011c00 fm = true) (h0 : Keeps fm r0 s)  : Keeps fm r0 (goOffline s p) := by
  unfold goOffline
  try lift_lets -underBinder
  with_reducible repeat' first | assumption | exact fpart (by decide +kernel) hfm | exact fle (by decide +kernel) hfm | exact fok (by decide +kernel) hfm | exact fall (by decide +kernel) hfm | exact fokIx (by decide +kernel) hfm | exact fokAll (by decide +kernel) hfm | refine Mask.ok_ite ?_ ?_ | refine faultsOf_ok ?_ ?_ | refine fun _ _ (_ : Keeps fm r0 _) => ?_ | (intro a; refine (fun ha : Keeps fm r0 a => ?_) ?_; clear_value a; rotate_left; dsimp only [a]; rotate_right) | lift_lets -underBinder | apply wr_keeps | apply wrB_keeps | apply discardFrames_keeps | apply endAct_keeps | apply restPool_keeps | apply Keeps.forEach

theorem execPoolActionDestroy_keeps {fm : Nat} {r0 : State}  {p : Nat} {s : State} (hfm : Mask.le 0x14000000000000000000000000000000000000000000000000000000000100020000040805020 fm = true) (h0 : Keeps fm r0 s)  : ∃ t1, (execPoolActionDestroy p s) = .next t1 ∧ Keeps fm r0 t1 := by
  refine ⟨_, rfl, ?_⟩
  with_reducible repeat' first | assumption | exact fpart (by decide +kernel) hfm | exact fle (by decide +kernel) hfm | exact fok (by decide +kernel) hfm | exact fall (by decide +kernel) hfm | exact fokIx (by decide +kernel) hfm | exact fokAll (by decide +kernel) hfm | refine Mask.ok_ite ?_ ?_ | refine faultsOf_ok ?_ ?_ | apply Keeps.ite | apply wr_keeps | apply readSupers_keeps | apply startAct_keeps | apply actStep_keeps

theorem dropHeld_keeps {fm : Nat} {r0 : State}  {s : State} {p : Nat} (hfm : Mask.le 0x3f0000000000000000000000000200 fm = true) (h0 : Keeps fm r0 s)  : Keeps fm r0 (dropHeld s p) := by
  unfold dropHeld
  with_reducible repeat' first | assumption | exact fpart (by decide +kernel) hfm | exact fle (by decide +kernel) hfm | exact fok (by decide +kernel) hfm | exact fall (by decide +kernel) hfm | exact fokIx (by decide +kernel) hfm | exact fokAll (by decide +kernel) hfm | refine Mask.ok_ite ?_ ?_ | refine faultsOf_ok ?_ ?_ | refine fun _ _ (_ : Keeps fm r0 _) => ?_ | apply clrAll_keeps | apply Keeps.forEach | apply Keeps.foldl | fail_if_no_progress (apply Keeps.upd <;> try first | exact Or.inr (fpart (by decide +kernel) hfm) | exact Or.inl rfl)

theorem writeEmpty_keeps {fm : Nat} {r0 : State}  {s : State} {p : Nat} (hfm : Mask.le 0x3008000000000000001f000000000000000000010000000000000000000000000000001400860000017c1900000000000000000000000000800000000000000000000200000408679a0 fm = true) (h0 : Keeps fm r0 s)  : Keeps fm r0 (writeEmpty s p) := by
  unfold writeEmpty
  try lift_lets -underBinder
  with_reducible repeat' first
    | assumption
    | exact fpart (by decide +kernel) hfm
    | exact fle (by decide +kernel) hfm
    | exact fok (by decide +kernel) hfm
    | exact fall (by decide +kernel) hfm
    | exact fokIx (by decide +kernel) hfm
    | exact fokAll (by decide +kernel) hfm
    | refine Mask.ok_ite ?_ ?_
    | refine faultsOf_ok ?_ ?_
    | refine fun _ (_ : Keeps fm r0 _) => ?_
    | refine fun _ _ (_ : Keeps fm r0 _) => ?_
    | refine fun _ _ _ (_ : Keeps fm r0 _) => ?_
    | exact KeepsO.get rfl (by assumption)
    | exact KeepsP.get rfl (by assumption)
    | (intro a; refine (fun ha : Keeps fm r0 a => ?_) ?_; clear_value a; rotate_left; dsimp only [a]; rotate_right)
    | (intro a; refine (fun ha : Keeps fm r0 a.2 => ?_) ?_; clear_value a; rotate_left; dsimp only [a]; rotate_right)
    | (intro a; refine (fun ha : Keeps fm r0 a.1 => ?_) ?_; clear_value a; rotate_left; dsimp only [a]; rotate_right)
    | (intro a; refine (fun ha : KeepsO fm r0 a => ?_) ?_; clear_value a; rotate_left; dsimp only [a]; rotate_right)
    | (have _ := @hgb; intro a; refine (fun hgc : ∀ t, Keeps fm r0 t → Keeps fm r0 (a t) => ?_) ?_; clear_value a; rotate_left; dsimp only [a]; rotate_right)
    | (have _ := @hga; intro a; refine (fun hgb : ∀ t, Keeps fm r0 t → Keeps fm r0 (a t) => ?_) ?_; clear_value a; rotate_left; dsimp only [a]; rotate_right)
    | (intro a; refine (fun hga : ∀ t, Keeps fm r0 t → Keeps fm r0 (a t) => ?_) ?_; clear_value a; rotate_left; dsimp only [a]; rotate_right)
    | (have _ := @hgb; intro a; refine (fun hgc : ∀ x t, Keeps fm r0 t → Keeps fm r0 (a x t) => ?_) ?_; clear_value a; rotate_left; dsimp only [a]; rotate_right)
    | (have _ := @hga; intro a; refine (fun hgb : ∀ x t, Keeps fm r0 t → Keeps fm r0 (a x t) => ?_) ?_; clear_value a; rotate_left; dsimp only [a]; rotate_right)
    | (intro a; refine (fun hga : ∀ x t, Keeps fm r0 t → Keeps fm r0 (a x t) => ?_) ?_; clear_value a; rotate_left; dsimp only [a]; rotate_right)
    | (have _ := @hgb; intro a; refine (fun hgc : ∀ x y t, Keeps fm r0 t → Keeps fm r0 (a x y t) => ?_) ?_; clear_value a; rotate_left; dsimp only [a]; rotate_right)
    | (have _ := @hga; intro a; refine (fun hgb : ∀ x y t, Keeps fm r0 t → Keeps fm r0 (a x y t) => ?_) ?_; clear_value a; rotate_left; dsimp only [a]; rotate_right)
    | (intro a; refine (fun hga : ∀ x y t, Keeps fm r0 t → Keeps fm r0 (a x y t) => ?_) ?_; clear_value a; rotate_left; dsimp only [a]; rotate_right)
    | (have _ := @hgb; intro a; refine (fun hgc : ∀ t x, Keeps fm r0 t → Keeps fm r0 (a t x) => ?_) ?_; clear_value a; rotate_left; dsimp only [a]; rotate_right)
    | (have _ := @hga; intro a; refine (fun hgb : ∀ t x, Keeps fm r0 t → Keeps fm r0 (a t x) => ?_) ?_; clear_value a; rotate_left; dsimp only [a]; rotate_right)
    | (intro a; refine (fun hga : ∀ t x, Keeps fm r0 t → Keeps fm r0 (a t x) => ?_) ?_; clear_value a; rotate_left; dsimp only [a]; rotate_right)
    | (intro a; refine (fun (_ : a = (a : Dict)) => ?_) rfl; dsimp only [a])
    | (intro a; clear_value a)
    | apply hga
    | apply hgb
    | apply hgc
    | lift_lets -underBinder
    | apply Keeps.ite
    | apply modPool_keeps
    | apply openSeg_keeps
    | apply forceWhere_keeps
    | apply writePage_keeps
    | apply Keeps.forEach
    | apply Keeps.forRange
    | apply Keeps.foldl
    | apply Keeps.foldl_fst
    | apply Keeps.foldl_snd
    | exact KeepsO.none
    | exact KeepsP.none
    | apply KeepsO.some
    | apply KeepsP.some
    | apply KeepsO.ite
    | apply KeepsP.ite
    | refine KeepsO.foldl _ _ ?_ (fun _ _ _ => ?_)
    | exact KeepsF.lost
    | apply KeepsF.started
    | apply KeepsF.ite
    | fail_if_no_progress (apply Keeps.upd <;> try first | exact Or.inr (fpart (by decide +kernel) hfm) | exact Or.inl rfl)
    | fail_if_no_progress (apply Keeps.updDict <;> try first | exact Or.inr (fpart (by decide +kernel) hfm) | exact Or.inl rfl)
    | refine Keeps.updRegs (rg := Tbl.filterK _ _) ?_ (Tbl.wf_filterK _) (Tbl.wf_filterK _)
    | refine Keeps.updRegs (rg := Tbl.filterK _ _) ?_ (Tbl.wf_filterK _) id
    | split
    | refine Keeps.of_snd (by assumption) ?_
    | refine Keeps.of_fst (by assumption) ?_
    | refine KeepsO.get (by assumption) ?_
    | refine KeepsP.get (by assumption) ?_
    | refine KeepsF.get (by assumption) ?_

theorem createAdvance_keeps {fm : Nat} {r0 : State}  {s : State} {p : Nat} {step : Nat} (hfm : Mask.le 0x300800c000000000021f000000000000000000010000000000000000000000000000001400860081017c1900000000018000000000000000f8000000000000023f05a20020041867da0 fm = true) (h0 : Keeps fm r0 s)  : Keeps fm r0 (createAdvance s p step) := by
  unfold createAdvance
  with_reducible repeat' first
    | assumption
    | exact fpart (by decide +kernel) hfm
    | exact fle (by decide +kernel) hfm
    | exact fok (by decide +kernel) hfm
    | exact fall (by decide +kernel) hfm
    | exact fokIx (by decide +kernel) hfm
    | exact fokAll (by decide +kernel) hfm
    | refine Mask.ok_ite ?_ ?_
    | refine faultsOf_ok ?_ ?_
    | refine fun _ (_ : Keeps fm r0 _) => ?_
    | refine fun _ _ (_ : Keeps fm r0 _) => ?_
    | refine fun _ _ _ (_ : Keeps fm r0 _) => ?_
    | exact KeepsO.get rfl (by assumption)
    | exact KeepsP.get rfl (by assumption)
    | apply Keeps.ite
    | apply step_keeps
    | apply actStep_keeps
    | apply writeSuper_keeps
    | apply reserveAll_keeps
    | apply modAct_keeps
    | apply configurePool_keeps
    | apply writeEmpty_keeps
    | apply endAct_keeps
    | apply wr_keeps
    | apply restPool_keeps
    | apply Keeps.forEach
    | apply Keeps.forRange
    | apply Keeps.foldl
    | apply Keeps.foldl_fst
    | apply Keeps.foldl_snd
    | exact KeepsO.none
    | exact KeepsP.none
    | apply KeepsO.some
    | apply KeepsP.some
    | apply KeepsO.ite
    | apply KeepsP.ite
    | refine KeepsO.foldl _ _ ?_ (fun _ _ _ => ?_)
    | exact KeepsF.lost
    | apply KeepsF.started
    | apply KeepsF.ite
    | fail_if_no_progress (apply Keeps.upd <;> try first | exact Or.inr (fpart (by decide +kernel) hfm) | exact Or.inl rfl)
    | fail_if_no_progress (apply Keeps.updDict <;> try first | exact Or.inr (fpart (by decide +kernel) hfm) | exact Or.inl rfl)
    | refine Keeps.updRegs (rg := Tbl.filterK _ _) ?_ (Tbl.wf_filterK _) (Tbl.wf_filterK _)
    | refine Keeps.updRegs (rg := Tbl.filterK _ _) ?_ (Tbl.wf_filterK _) id
    | split
    | refine Keeps.of_snd (by assumption) ?_
    | refine Keeps.of_fst (by assumption) ?_
    | refine KeepsO.get (by assumption) ?_
    | refine KeepsP.get (by assumption) ?_
    | refine KeepsF.get (by assumption) ?_

theorem offlineAdvance_keeps {fm : Nat} {r0 : State}  {s : State} {p : Nat} {step : Nat} (hfm : Mask.le 0x1c002000000021f0000000000000000000000000000000000800001000000000014008200800000190000000000000000000000001200000000000000000100620000040855c20 fm = true) (h0 : Keeps fm r0 s)  : Keeps fm r0 (offlineAdvance s p step) := by
  unfold offlineAdvance
  try lift_lets -underBinder
  with_reducible repeat' first
    | assumption
    | exact fpart (by decide +kernel) hfm
    | exact fle (by decide +kernel) hfm
    | exact fok (by decide +kernel) hfm
    | exact fall (by decide +kernel) hfm
    | exact fokIx (by decide +kernel) hfm
    | exact fokAll (by decide +kernel) hfm
    | refine Mask.ok_ite ?_ ?_
    | refine faultsOf_ok ?_ ?_
    | refine fun _ (_ : Keeps fm r0 _) => ?_
    | refine fun _ _ (_ : Keeps fm r0 _) => ?_
    | refine fun _ _ _ (_ : Keeps fm r0 _) => ?_
    | exact KeepsO.get rfl (by assumption)
    | exact KeepsP.get rfl (by assumption)
    | (intro a; refine (fun ha : Keeps fm r0 a => ?_) ?_; clear_value a; rotate_left; dsimp only [a]; rotate_right)
    | (intro a; refine (fun ha : Keeps fm r0 a.2 => ?_) ?_; clear_value a; rotate_left; dsimp only [a]; rotate_right)
    | (intro a; refine (fun ha : Keeps fm r0 a.1 => ?_) ?_; clear_value a; rotate_left; dsimp only [a]; rotate_right)
    | (intro a; refine (fun ha : KeepsO fm r0 a => ?_) ?_; clear_value a; rotate_left; dsimp only [a]; rotate_right)
    | (have _ := @hgb; intro a; refine (fun hgc : ∀ t, Keeps fm r0 t → Keeps fm r0 (a t) => ?_) ?_; clear_value a; rotate_left; dsimp only [a]; rotate_right)
    | (have _ := @hga; intro a; refine (fun hgb : ∀ t, Keeps fm r0 t → Keeps fm r0 (a t) => ?_) ?_; clear_value a; rotate_left; dsimp only [a]; rotate_right)
    | (intro a; refine (fun hga : ∀ t, Keeps fm r0 t → Keeps fm r0 (a t) => ?_) ?_; clear_value a; rotate_left; dsimp only [a]; rotate_right)
    | (have _ := @hgb; intro a; refine (fun hgc : ∀ x t, Keeps fm r0 t → Keeps fm r0 (a x t) => ?_) ?_; clear_value a; rotate_left; dsimp only [a]; rotate_right)
    | (have _ := @hga; intro a; refine (fun hgb : ∀ x t, Keeps fm r0 t → Keeps fm r0 (a x t) => ?_) ?_; clear_value a; rotate_left; dsimp only [a]; rotate_right)
    | (intro a; refine (fun hga : ∀ x t, Keeps fm r0 t → Keeps fm r0 (a x t) => ?_) ?_; clear_value a; rotate_left; dsimp only [a]; rotate_right)
    | (have _ := @hgb; intro a; refine (fun hgc : ∀ x y t, Keeps fm r0 t → Keeps fm r0 (a x y t) => ?_) ?_; clear_value a; rotate_left; dsimp only [a]; rotate_right)
    | (have _ := @hga; intro a; refine (fun hgb : ∀ x y t, Keeps fm r0 t → Keeps fm r0 (a x y t) => ?_) ?_; clear_value a; rotate_left; dsimp only [a]; rotate_right)
    | (intro a; refine (fun hga : ∀ x y t, Keeps fm r0 t → Keeps fm r0 (a x y t) => ?_) ?_; clear_value a; rotate_left; dsimp only [a]; rotate_right)
    | (have _ := @hgb; intro a; refine (fun hgc : ∀ t x, Keeps fm r0 t → Keeps fm r0 (a t x) => ?_) ?_; clear_value a; rotate_left; dsimp only [a]; rotate_right)
    | (have _ := @hga; intro a; refine (fun hgb : ∀ t x, Keeps fm r0 t → Keeps fm r0 (a t x) => ?_) ?_; clear_value a; rotate_left; dsimp only [a]; rotate_right)
    | (intro a; refine (fun hga : ∀ t x, Keeps fm r0 t → Keeps fm r0 (a t x) => ?_) ?_; clear_value a; rotate_left; dsimp only [a]; rotate_right)
    | (intro a; refine (fun (_ : a = (a : Dict)) => ?_) rfl; dsimp only [a])
    | (intro a; clear_value a)
    | apply hga
    | apply hgb
    | apply hgc
    | lift_lets -underBinder
    | apply Keeps.ite
    | apply step_keeps
    | apply actStep_keeps
    | apply modAct_keeps
    | apply forceWhere_keeps
    | apply startCkpt_keeps
    | apply goOffline_keeps
    | apply Keeps.forEach
    | apply Keeps.forRange
    | apply Keeps.foldl
    | apply Keeps.foldl_fst
    | apply Keeps.foldl_snd
    | exact KeepsO.none
    | exact KeepsP.none
    | apply KeepsO.some
    | apply KeepsP.some
    | apply KeepsO.ite
    | apply KeepsP.ite
    | refine KeepsO.foldl _ _ ?_ (fun _ _ _ => ?_)
    | exact KeepsF.lost
    | apply KeepsF.started
    | apply KeepsF.ite
    | fail_if_no_progress (apply Keeps.upd <;> try first | exact Or.inr (fpart (by decide +kernel) hfm) | exact Or.inl rfl)
    | fail_if_no_progress (apply Keeps.updDict <;> try first | exact Or.inr (fpart (by decide +kernel) hfm) | exact Or.inl rfl)
    | refine Keeps.updRegs (rg := Tbl.filterK _ _) ?_ (Tbl.wf_filterK _) (Tbl.wf_filterK _)
    | refine Keeps.updRegs (rg := Tbl.filterK _ _) ?_ (Tbl.wf_filterK _) id
    | split
    | refine Keeps.of_snd (by assumption) ?_
    | refine Keeps.of_fst (by assumption) ?_
    | refine KeepsO.get (by assumption) ?_
    | refine KeepsP.get (by assumption) ?_
    | refine KeepsF.get (by assumption) ?_

theorem destroyAdvance_keeps {fm : Nat} {r0 : State}  {s : State} {p : Nat} {step : Nat} (hfm : Mask.le 0x30080000000000000200000000000070000000000000000000000000000000000000001400040001017c0000000000078000000000000002fc0003f0000000023f1fe20020040827ba0 fm = true) (h0 : Keeps fm r0 s)  : Keeps fm r0 (destroyAdvance s p step) := by
  unfold destroyAdvance
  try lift_lets -underBinder
  with_reducible repeat' first | assumption | exact fpart (by decide +kernel) hfm | exact fle (by decide +kernel) hfm | exact fok (by decide +kernel) hfm | exact fall (by decide +kernel) hfm | exact fokIx (by decide +kernel) hfm | exact fokAll (by decide +kernel) hfm | refine Mask.ok_ite ?_ ?_ | refine faultsOf_ok ?_ ?_ | refine fun _ _ (_ : Keeps fm r0 _) => ?_ | (intro a; refine (fun ha : Keeps fm r0 a => ?_) ?_; clear_value a; rotate_left; dsimp only [a]; rotate_right) | (intro a; clear_value a) | lift_lets -underBinder | apply Keeps.ite | apply endAct_keeps | apply unconfigure_keeps | apply dropHeld_keeps | apply adoptSuper_keeps | apply actStep_keeps | apply modDPort_keeps | apply Keeps.forEach | split

theorem actStops_keeps {fm : Nat} {r0 : State}  {s : State} {p : Nat} {a : PoolAct} (hfm : Mask.le 0x20000000000007000000000000000000000000000000000000000140004000000000000000000000000000000000002f0000000000000023f00620020040827820 fm = true) (h0 : Keeps fm r0 s)  : Keeps fm r0 (actStops s p a) := by
  unfold actStops
  with_reducible repeat' first
    | assumption
    | exact fpart (by decide +kernel) hfm
    | exact fle (by decide +kernel) hfm
    | exact fok (by decide +kernel) hfm
    | exact fall (by decide +kernel) hfm
    | exact fokIx (by decide +kernel) hfm
    | exact fokAll (by decide +kernel) hfm
    | refine Mask.ok_ite ?_ ?_
    | refine faultsOf_ok ?_ ?_
    | refine fun _ (_ : Keeps fm r0 _) => ?_
    | refine fun _ _ (_ : Keeps fm r0 _) => ?_
    | refine fun _ _ _ (_ : Keeps fm r0 _) => ?_
    | exact KeepsO.get rfl (by assumption)
    | exact KeepsP.get rfl (by assumption)
    | apply Keeps.ite
    | apply endAct_keeps
    | apply unconfigure_keeps
    | apply releaseHeld_keeps
    | apply wr_keeps
    | apply onlineFails_keeps
    | apply Keeps.forEach
    | apply Keeps.forRange
    | apply Keeps.foldl
    | apply Keeps.foldl_fst
    | apply Keeps.foldl_snd
    | exact KeepsO.none
    | exact KeepsP.none
    | apply KeepsO.some
    | apply KeepsP.some
    | apply KeepsO.ite
    | apply KeepsP.ite
    | refine KeepsO.foldl _ _ ?_ (fun _ _ _ => ?_)
    | exact KeepsF.lost
    | apply KeepsF.started
    | apply KeepsF.ite
    | fail_if_no_progress (apply Keeps.upd <;> try first | exact Or.inr (fpart (by decide +kernel) hfm) | exact Or.inl rfl)
    | fail_if_no_progress (apply Keeps.updDict <;> try first | exact Or.inr (fpart (by decide +kernel) hfm) | exact Or.inl rfl)
    | refine Keeps.updRegs (rg := Tbl.filterK _ _) ?_ (Tbl.wf_filterK _) (Tbl.wf_filterK _)
    | refine Keeps.updRegs (rg := Tbl.filterK _ _) ?_ (Tbl.wf_filterK _) id
    | split
    | refine Keeps.of_snd (by assumption) ?_
    | refine Keeps.of_fst (by assumption) ?_
    | refine KeepsO.get (by assumption) ?_
    | refine KeepsP.get (by assumption) ?_
    | refine KeepsF.get (by assumption) ?_

theorem actAdvance_keeps {fm : Nat} {r0 : State}  {s : State} {p : Nat} {a : PoolAct} {media : List MediaItem} (hfm : Mask.le 0x800000000000300801d002000000027f0000000000700000000320000000000000800031000000000014008e1cf1017c1900000000178000000000000012fc0003f0000000023f1fe20020041877fa0 fm = true) (h0 : Keeps fm r0 s)  : Keeps fm r0 (actAdvance s p a media) := by
  unfold actAdvance
  with_reducible repeat' first | assumption | exact fpart (by decide +kernel) hfm | exact fle (by decide +kernel) hfm | exact fok (by decide +kernel) hfm | exact fall (by decide +kernel) hfm | exact fokIx (by decide +kernel) hfm | exact fokAll (by decide +kernel) hfm | refine Mask.ok_ite ?_ ?_ | refine faultsOf_ok ?_ ?_ | apply Keeps.ite | apply actStops_keeps | apply createAdvance_keeps | apply onlineAdopt_keeps | apply modAct_keeps | apply onlineRecover_keeps | apply offlineAdvance_keeps | apply destroyAdvance_keeps

theorem actOk_keeps {fm : Nat} {r0 : State}  {s : State} {p : Nat} {m : Nat} {a : PoolAct} {op : MOp} {data : Bytes} (hfm : Mask.le 0x14000000000000000000000000000000000000000000000000000000000000020000040805020 fm = true) (h0 : Keeps fm r0 s)  : Keeps fm r0 (actOk s p m a op data) := by
  unfold actOk
  try lift_lets -underBinder
  with_reducible repeat' first | assumption | exact fpart (by decide +kernel) hfm | exact fle (by decide +kernel) hfm | exact fok (by decide +kernel) hfm | exact fall (by decide +kernel) hfm | exact fokIx (by decide +kernel) hfm | exact fokAll (by decide +kernel) hfm | refine Mask.ok_ite ?_ ?_ | refine faultsOf_ok ?_ ?_ | refine fun _ (_ : Keeps fm r0 _) => ?_ | (intro a; refine (fun hga : ∀ t, Keeps fm r0 t → Keeps fm r0 (a t) => ?_) ?_; clear_value a; rotate_left; dsimp only [a]; rotate_right) | apply hga | lift_lets -underBinder | apply Keeps.ite | apply modAct_keeps | apply issueTo_keeps | apply modDPort_keeps | split

theorem actFails_keeps {fm : Nat} {r0 : State}  {s : State} {p : Nat} {m : Nat} {op : MOp} {status : Nat} (hfm : Mask.le 0x5000 fm = true) (h0 : Keeps fm r0 s)  : Keeps fm r0 (actFails s p m op status) := by
  unfold actFails
  try lift_lets -underBinder
  with_reducible repeat' first | assumption | exact fpart (by decide +kernel) hfm | exact fle (by decide +kernel) hfm | exact fok (by decide +kernel) hfm | exact fall (by decide +kernel) hfm | exact fokIx (by decide +kernel) hfm | exact fokAll (by decide +kernel) hfm | refine Mask.ok_ite ?_ ?_ | refine faultsOf_ok ?_ ?_ | refine fun _ _ (_ : Keeps fm r0 _) => ?_ | (intro a; refine (fun hga : ∀ t x, Keeps fm r0 t → Keeps fm r0 (a t x) => ?_) ?_; clear_value a; rotate_left; dsimp only [a]; rotate_right) | apply hga | lift_lets -underBinder | apply modAct_keeps | apply modDPort_keeps | split

theorem actionEnded_keeps {fm : Nat} {r0 : State}  {s : State} {p : Nat} {m : Nat} {op : MOp} {status : Nat} {data : Bytes} (hfm : Mask.le 0x14000000000000000000000000000000000000000000000000000000000000020000040805020 fm = true) (h0 : Keeps fm r0 s)  : Keeps fm r0 (actionEnded s p m op status data) := by
  unfold actionEnded
  with_reducible repeat' first | assumption | exact fpart (by decide +kernel) hfm | exact fle (by decide +kernel) hfm | exact fok (by decide +kernel) hfm | exact fall (by decide +kernel) hfm | exact fokIx (by decide +kernel) hfm | exact fokAll (by decide +kernel) hfm | refine Mask.ok_ite ?_ ?_ | refine faultsOf_ok ?_ ?_ | apply Keeps.ite | apply actOk_keeps | apply actFails_keeps | split

theorem actionNext_keeps {fm : Nat} {r0 : State}  {s : State} {p : Nat} {status : Nat} {media : List MediaItem} (hfm : Mask.le 0x800000000000300801d002000000027f0000000000700000000320000000000000800031000000000014008e1cf1017c1900000000178000000000000012fc0003f0000000023f1fe20020041877fa0 fm = true) (h0 : Keeps fm r0 s)  : Keeps fm r0 (actionNext s p status media) := by
  unfold actionNext
  with_reducible repeat' first | assumption | exact fpart (by decide +kernel) hfm | exact fle (by decide +kernel) hfm | exact fok (by decide +kernel) hfm | exact fall (by decide +kernel) hfm | exact fokIx (by decide +kernel) hfm | exact fokAll (by decide +kernel) hfm | refine Mask.ok_ite ?_ ?_ | refine faultsOf_ok ?_ ?_ | apply Keeps.ite | apply onlineFails_keeps | apply actAdvance_keeps | split

theorem execPoolActionStepDone_keeps {fm : Nat} {r0 : State}  {p : Nat} {id : Nat} {status : Nat} {data : Bytes} {heads : List MediaItem} {media : List MediaItem} {s : State} (hfm : Mask.le 0x800000000000300801d002000000027f0000000000700000000320000000000000800031000000000014008e1cf1017c1900000000178000000000000012fc0003f0000000023f1fe20020041877fa0 fm = true) (h0 : Keeps fm r0 s)  : ∃ t1, (execPoolActionStepDone p id status data heads media s) = .next t1 ∧ Keeps fm r0 t1 := by
  refine ⟨_, rfl, ?_⟩
  with_reducible repeat' first | assumption | exact fpart (by decide +kernel) hfm | exact fle (by decide +kernel) hfm | exact fok (by decide +kernel) hfm | exact fall (by decide +kernel) hfm | exact fokIx (by decide +kernel) hfm | exact fokAll (by decide +kernel) hfm | refine Mask.ok_ite ?_ ?_ | refine faultsOf_ok ?_ ?_ | apply Keeps.ite | apply actionNext_keeps | apply actionEnded_keeps | apply endCmd_keeps | split

theorem cmdFault_keeps {fm : Nat} {r0 : State}  {s : State} {id : Nat} {c : MCmd} {cause : Nat} (hfm : Mask.le 0x800000000000380801d022000000027f1600000000701000000320000000000000840031000000000014008e1cf5017c1900000000178000000000000012fc4003f0000000023f1fe2002006387ffe0 fm = true) (h0 : Keeps fm r0 s)  : Keeps fm r0 (cmdFault s id c cause) := by
  unfold cmdFault
  with_reducible repeat' first | assumption | exact fpart (by decide +kernel) hfm | exact fle (by decide +kernel) hfm | exact fok (by decide +kernel) hfm | exact fall (by decide +kernel) hfm | exact fokIx (by decide +kernel) hfm | exact fokAll (by decide +kernel) hfm | refine Mask.ok_ite ?_ ?_ | refine faultsOf_ok ?_ ?_ | apply Keeps.ite | apply actionNext_keeps | apply actionEnded_keeps | apply endCmd_keeps | apply modPool_keeps | apply actLoses_keeps | apply addStep_keeps | apply memberFault_keeps | split

/-! ## Ending -/

theorem dropDeallocRec_keeps {fm : Nat} {r0 : State}  {s : State} {q : Nat} {tag : Nat} (hfm : Mask.le 0x2000 fm = true) (h0 : Keeps fm r0 s)  : Keeps fm r0 (dropDeallocRec s q tag) := by
  unfold dropDeallocRec
  with_reducible repeat' first | assumption | exact fpart (by decide +kernel) hfm | exact fle (by decide +kernel) hfm | exact fok (by decide +kernel) hfm | exact fall (by decide +kernel) hfm | exact fokIx (by decide +kernel) hfm | exact fokAll (by decide +kernel) hfm | refine Mask.ok_ite ?_ ?_ | refine faultsOf_ok ?_ ?_ | apply Keeps.ite | fail_if_no_progress (apply Keeps.upd <;> try first | exact Or.inr (fpart (by decide +kernel) hfm) | exact Or.inl rfl) | split

theorem leaveOp_keeps {fm : Nat} {r0 : State}  {s : State} {q : Nat} {tag : Nat} {v : Nat} (hfm : Mask.le 0x200 fm = true) (h0 : Keeps fm r0 s)  : Keeps fm r0 (leaveOp s q tag v) := by
  unfold leaveOp
  with_reducible repeat' first | assumption | exact fpart (by decide +kernel) hfm | exact fle (by decide +kernel) hfm | exact fok (by decide +kernel) hfm | exact fall (by decide +kernel) hfm | exact fokIx (by decide +kernel) hfm | exact fokAll (by decide +kernel) hfm | refine Mask.ok_ite ?_ ?_ | refine faultsOf_ok ?_ ?_ | apply modOp_keeps

theorem endWith_keeps {fm : Nat} {r0 : State}  {s : State} {q : Nat} {c : Cmd} {status : Nat} (hfm : Mask.le 0x50000000000700000000000000000000000000000000000000014000000000000190000000000000000000000000000000000000000000000020000040867ae0 fm = true) (h0 : Keeps fm r0 s)  : Keeps fm r0 (endWith s q c status) := by
  unfold endWith
  with_reducible repeat' first | assumption | exact fpart (by decide +kernel) hfm | exact fle (by decide +kernel) hfm | exact fok (by decide +kernel) hfm | exact fall (by decide +kernel) hfm | exact fokIx (by decide +kernel) hfm | exact fokAll (by decide +kernel) hfm | refine Mask.ok_ite ?_ ?_ | refine faultsOf_ok ?_ ?_ | apply Keeps.ite | apply finish_keeps | apply failRead_keeps | apply failWrite_keeps | apply dropDeallocRec_keeps | apply leaveOp_keeps

theorem resetCmd_keeps {fm : Nat} {r0 : State}  {s : State} {q : Nat} {c : Cmd} (hfm : Mask.le 0x1f0000000000700000000000000000000000000000000000000014000000000000190000000000000000000000000000000000000000000000020000040867ae0 fm = true) (h0 : Keeps fm r0 s)  : Keeps fm r0 (resetCmd s q c) := by
  unfold resetCmd
  try lift_lets -underBinder
  with_reducible repeat' first | assumption | exact fpart (by decide +kernel) hfm | exact fle (by decide +kernel) hfm | exact fok (by decide +kernel) hfm | exact fall (by decide +kernel) hfm | exact fokIx (by decide +kernel) hfm | exact fokAll (by decide +kernel) hfm | refine Mask.ok_ite ?_ ?_ | refine faultsOf_ok ?_ ?_ | (intro a; refine (fun ha : Keeps fm r0 a => ?_) ?_; clear_value a; rotate_left; dsimp only [a]; rotate_right) | lift_lets -underBinder | apply Keeps.ite | apply endWith_keeps | apply forceWhere_keeps | apply completeWrite_keeps

theorem endSession_keeps {fm : Nat} {r0 : State}  {s : State} {n : Nat} (hfm : Mask.le 0x3f00000000000000000000000000000000001e000000000000000000000000000000000000000000000007000000000000000000000000000000000000000000000000000000000000028 fm = true) (h0 : Keeps fm r0 s)  : Keeps fm r0 (endSession s n) := by
  unfold endSession
  try lift_lets -underBinder
  with_reducible repeat' first | assumption | exact fpart (by decide +kernel) hfm | exact fle (by decide +kernel) hfm | exact fok (by decide +kernel) hfm | exact fall (by decide +kernel) hfm | exact fokIx (by decide +kernel) hfm | exact fokAll (by decide +kernel) hfm | refine Mask.ok_ite ?_ ?_ | refine faultsOf_ok ?_ ?_ | (intro a; refine (fun (_ : a = (a : Dict)) => ?_) rfl; dsimp only [a]) | lift_lets -underBinder | apply Keeps.ite | apply clrInst_keeps | apply wrB_keeps | apply clr_keeps | fail_if_no_progress (apply Keeps.upd <;> try first | exact Or.inr (fpart (by decide +kernel) hfm) | exact Or.inl rfl) | fail_if_no_progress (apply Keeps.updDict <;> try first | exact Or.inr (fpart (by decide +kernel) hfm) | exact Or.inl rfl)

theorem startReset_keeps {fm : Nat} {r0 : State}  {s : State} {q : Nat} {by_ : Option (Nat × Nat)} {byFlr : Bool} (hfm : Mask.le 0x1f0000000000700000000000000000000000000000000000000014000000000000190000000000000000000000000000000000008000040000020000040867ae0 fm = true) (h0 : Keeps fm r0 s)  : Keeps fm r0 (startReset s q by_ byFlr) := by
  unfold startReset
  try lift_lets -underBinder
  with_reducible repeat' first | assumption | exact fpart (by decide +kernel) hfm | exact fle (by decide +kernel) hfm | exact fok (by decide +kernel) hfm | exact fall (by decide +kernel) hfm | exact fokIx (by decide +kernel) hfm | exact fokAll (by decide +kernel) hfm | refine Mask.ok_ite ?_ ?_ | refine faultsOf_ok ?_ ?_ | refine fun _ _ (_ : Keeps fm r0 _) => ?_ | (intro a; refine (fun ha : Keeps fm r0 a => ?_) ?_; clear_value a; rotate_left; dsimp only [a]; rotate_right) | (intro a; clear_value a) | lift_lets -underBinder | apply Keeps.ite | apply modQp_keeps | apply wr_keeps | apply resetCmd_keeps | apply settleReset_keeps | apply recordAll_keeps | apply Keeps.forEach

theorem limitReset_keeps {fm : Nat} {r0 : State}  {s : State} {q : Nat} (hfm : Mask.le 0x500003c0000700000000000000001fe7f80000000000000000014000000000000191000000000000000000000000000000000008100040000020000040867be0 fm = true) (h0 : Keeps fm r0 s)  : Keeps fm r0 (limitReset s q) := by
  unfold limitReset
  try lift_lets -underBinder
  with_reducible repeat' first | assumption | exact fpart (by decide +kernel) hfm | exact fle (by decide +kernel) hfm | exact fok (by decide +kernel) hfm | exact fall (by decide +kernel) hfm | exact fokIx (by decide +kernel) hfm | exact fokAll (by decide +kernel) hfm | refine Mask.ok_ite ?_ ?_ | refine faultsOf_ok ?_ ?_ | refine fun _ _ (_ : Keeps fm r0 _) => ?_ | (intro a; refine (fun ha : Keeps fm r0 a => ?_) ?_; clear_value a; rotate_left; dsimp only [a]; rotate_right) | (intro a; clear_value a) | lift_lets -underBinder | apply Keeps.ite | apply endWith_keeps | apply writeHead_keeps | apply settleReset_keeps | apply recordAll_keeps | apply Keeps.forEach | apply Keeps.forRange

theorem execQueueReset_keeps {fm : Nat} {r0 : State}  {q : Nat} {tag : Nat} {s : State} (hfm : Mask.le 0x1f0000000000700000000000000000000000000000000000000014000000000000190000000000000000000000000000000000008000040000020000040867ae0 fm = true) (h0 : Keeps fm r0 s)  : ∃ t1, (execQueueReset q tag s) = .next t1 ∧ Keeps fm r0 t1 := by
  refine ⟨_, rfl, ?_⟩
  with_reducible repeat' first | assumption | exact fpart (by decide +kernel) hfm | exact fle (by decide +kernel) hfm | exact fok (by decide +kernel) hfm | exact fall (by decide +kernel) hfm | exact fokIx (by decide +kernel) hfm | exact fokAll (by decide +kernel) hfm | refine Mask.ok_ite ?_ ?_ | refine faultsOf_ok ?_ ?_ | apply Keeps.ite | apply startReset_keeps | apply modCmd_keeps | apply finish_keeps | split

theorem execAdminCtrlReset_keeps {fm : Nat} {r0 : State}  {pf : Nat} {s : State} (hfm : Mask.le 0x1f0000000000700000000000000000000000000000000000000014000000000000190000000000000000000000000000000000008000040000020000040867ae0 fm = true) (h0 : Keeps fm r0 s)  : ∃ t1, (execAdminCtrlReset pf s) = .next t1 ∧ Keeps fm r0 t1 := by
  refine ⟨_, rfl, ?_⟩
  with_reducible repeat' first | assumption | exact fpart (by decide +kernel) hfm | exact fle (by decide +kernel) hfm | exact fok (by decide +kernel) hfm | exact fall (by decide +kernel) hfm | exact fokIx (by decide +kernel) hfm | exact fokAll (by decide +kernel) hfm | refine Mask.ok_ite ?_ ?_ | refine faultsOf_ok ?_ ?_ | apply Keeps.ite | apply startReset_keeps

theorem execQueueResetTimeout_keeps {fm : Nat} {r0 : State}  {q : Nat} {s : State} (hfm : Mask.le 0x500003c0000700000000000000001fe7f80000000000000000014000000000000191000000000000000000000000000000000008100040000020000040867be0 fm = true) (h0 : Keeps fm r0 s)  : ∃ t1, (execQueueResetTimeout q s) = .next t1 ∧ Keeps fm r0 t1 := by
  refine ⟨_, rfl, ?_⟩
  with_reducible repeat' first | assumption | exact fpart (by decide +kernel) hfm | exact fle (by decide +kernel) hfm | exact fok (by decide +kernel) hfm | exact fall (by decide +kernel) hfm | exact fokIx (by decide +kernel) hfm | exact fokAll (by decide +kernel) hfm | refine Mask.ok_ite ?_ ?_ | refine faultsOf_ok ?_ ?_ | apply Keeps.ite | apply limitReset_keeps

theorem cutCmd_keeps {fm : Nat} {r0 : State}  {s : State} {q : Nat} {c : Cmd} (hfm : Mask.le 0x50000000000700000000000000000000000000000000000000014000000000000190000000000000000000000000000000000000000000000020000040867ae0 fm = true) (h0 : Keeps fm r0 s)  : Keeps fm r0 (cutCmd s q c) := by
  unfold cutCmd
  with_reducible repeat' first | assumption | exact fpart (by decide +kernel) hfm | exact fle (by decide +kernel) hfm | exact fok (by decide +kernel) hfm | exact fall (by decide +kernel) hfm | exact fokIx (by decide +kernel) hfm | exact fokAll (by decide +kernel) hfm | refine Mask.ok_ite ?_ ?_ | refine faultsOf_ok ?_ ?_ | apply Keeps.ite | apply endWith_keeps

theorem stopMaster_keeps {fm : Nat} {r0 : State}  {s : State} {f : Nat} (hfm : Mask.le 0x50000000000700000000000000000000000000000000000000014000000000000190000000000000000000000000000000000000000000000020000040867ae0 fm = true) (h0 : Keeps fm r0 s)  : Keeps fm r0 (stopMaster s f) := by
  unfold stopMaster
  try lift_lets -underBinder
  with_reducible repeat' first | assumption | exact fpart (by decide +kernel) hfm | exact fle (by decide +kernel) hfm | exact fok (by decide +kernel) hfm | exact fall (by decide +kernel) hfm | exact fokIx (by decide +kernel) hfm | exact fokAll (by decide +kernel) hfm | refine Mask.ok_ite ?_ ?_ | refine faultsOf_ok ?_ ?_ | refine fun _ _ (_ : Keeps fm r0 _) => ?_ | (intro a; refine (fun ha : Keeps fm r0 a => ?_) ?_; clear_value a; rotate_left; dsimp only [a]; rotate_right) | lift_lets -underBinder | apply modQp_keeps | apply cutCmd_keeps | apply Keeps.forEach

theorem sendGathered_keeps {fm : Nat} {r0 : State}  {s : State} {q : Nat} {c : Cmd} (hfm : Mask.le 0x8000e0 fm = true) (h0 : Keeps fm r0 s)  : Keeps fm r0 (sendGathered s q c) := by
  unfold sendGathered
  with_reducible repeat' first | assumption | exact fpart (by decide +kernel) hfm | exact fle (by decide +kernel) hfm | exact fok (by decide +kernel) hfm | exact fall (by decide +kernel) hfm | exact fokIx (by decide +kernel) hfm | exact fokAll (by decide +kernel) hfm | refine Mask.ok_ite ?_ ?_ | refine faultsOf_ok ?_ ?_ | refine fun _ _ (_ : Keeps fm r0 _) => ?_ | apply tryFinishRead_keeps | apply sendSector_keeps | apply Keeps.forEach | split

theorem rereadPages_keeps {fm : Nat} {r0 : State}  {s : State} {q : Nat} (hfm : Mask.le 0x800000 fm = true) (h0 : Keeps fm r0 s)  : Keeps fm r0 (rereadPages s q) := by
  unfold rereadPages
  with_reducible repeat' first | assumption | exact fpart (by decide +kernel) hfm | exact fle (by decide +kernel) hfm | exact fok (by decide +kernel) hfm | exact fall (by decide +kernel) hfm | exact fokIx (by decide +kernel) hfm | exact fokAll (by decide +kernel) hfm | refine Mask.ok_ite ?_ ?_ | refine faultsOf_ok ?_ ?_ | refine fun _ _ (_ : Keeps fm r0 _) => ?_ | apply fetchPage_keeps | apply Keeps.forEach | split

theorem resumeMaster_keeps {fm : Nat} {r0 : State}  {s : State} {f : Nat} (hfm : Mask.le 0x3c0000000000000000000001fe7f800000000000000000000000000000000010000000000000000000000000000000001081000400000000000008209e0 fm = true) (h0 : Keeps fm r0 s)  : Keeps fm r0 (resumeMaster s f) := by
  unfold resumeMaster
  try lift_lets -underBinder
  with_reducible repeat' first | assumption | exact fpart (by decide +kernel) hfm | exact fle (by decide +kernel) hfm | exact fok (by decide +kernel) hfm | exact fall (by decide +kernel) hfm | exact fokIx (by decide +kernel) hfm | exact fokAll (by decide +kernel) hfm | refine Mask.ok_ite ?_ ?_ | refine faultsOf_ok ?_ ?_ | refine fun _ _ (_ : Keeps fm r0 _) => ?_ | (intro a; refine (fun ha : Keeps fm r0 a => ?_) ?_; clear_value a; rotate_left; dsimp only [a]; rotate_right) | lift_lets -underBinder | apply Keeps.ite | apply writeHead_keeps | apply flushMsix_keeps | apply sendGathered_keeps | apply rereadPages_keeps | apply startFetch_keeps | apply Keeps.forEach

theorem fenceCmds_keeps {fm : Nat} {r0 : State}  {s : State} {p : Nat} (hfm : Mask.le 0x50000000000700000000000000000000000000000000000000014000000000000190000000000000000000000000000000000000000000000020000040867ae0 fm = true) (h0 : Keeps fm r0 s)  : Keeps fm r0 (fenceCmds s p) := by
  unfold fenceCmds
  with_reducible repeat' first | assumption | exact fpart (by decide +kernel) hfm | exact fle (by decide +kernel) hfm | exact fok (by decide +kernel) hfm | exact fall (by decide +kernel) hfm | exact fokIx (by decide +kernel) hfm | exact fokAll (by decide +kernel) hfm | refine Mask.ok_ite ?_ ?_ | refine faultsOf_ok ?_ ?_ | refine fun _ _ (_ : Keeps fm r0 _) => ?_ | apply Keeps.ite | apply completeWrite_keeps | apply endWith_keeps | apply Keeps.forEach

theorem offlineCmds_keeps {fm : Nat} {r0 : State}  {s : State} {p : Nat} (hfm : Mask.le 0x50000000000700000000000000000000000000000000000000014000000000000190000000000000000000000000000000000000000000000020000040867ae0 fm = true) (h0 : Keeps fm r0 s)  : Keeps fm r0 (offlineCmds s p) := by
  unfold offlineCmds
  with_reducible repeat' first | assumption | exact fpart (by decide +kernel) hfm | exact fle (by decide +kernel) hfm | exact fok (by decide +kernel) hfm | exact fall (by decide +kernel) hfm | exact fokIx (by decide +kernel) hfm | exact fokAll (by decide +kernel) hfm | refine Mask.ok_ite ?_ ?_ | refine faultsOf_ok ?_ ?_ | refine fun _ _ (_ : Keeps fm r0 _) => ?_ | apply endWith_keeps | apply Keeps.forEach

/-! ## HostFns -/

theorem modHostPort_keeps {fm : Nat} {r0 : State}  {s : State} {n : Nat} {f : HostPort → HostPort} (hfm : Mask.le 0x100 fm = true) (h0 : Keeps fm r0 s)  : Keeps fm r0 (modHostPort s n f) := by
  unfold modHostPort
  with_reducible repeat' first | assumption | exact fpart (by decide +kernel) hfm | exact fle (by decide +kernel) hfm | exact fok (by decide +kernel) hfm | exact fall (by decide +kernel) hfm | exact fokIx (by decide +kernel) hfm | exact fokAll (by decide +kernel) hfm | refine Mask.ok_ite ?_ ?_ | refine faultsOf_ok ?_ ?_ | fail_if_no_progress (apply Keeps.upd <;> try first | exact Or.inr (fpart (by decide +kernel) hfm) | exact Or.inl rfl)

theorem execBusMasterDisable_keeps {fm : Nat} {r0 : State}  {f : Nat} {s : State} (hfm : Mask.le 0x50000000000700000000000000000000000000000000000000014000000000000190100000000000000000000000000000000000000000000020000040867ae0 fm = true) (h0 : Keeps fm r0 s)  : ∃ t1, (execBusMasterDisable f s) = .next t1 ∧ Keeps fm r0 t1 := by
  refine ⟨_, rfl, ?_⟩
  with_reducible repeat' first | assumption | exact fpart (by decide +kernel) hfm | exact fle (by decide +kernel) hfm | exact fok (by decide +kernel) hfm | exact fall (by decide +kernel) hfm | exact fokIx (by decide +kernel) hfm | exact fokAll (by decide +kernel) hfm | refine Mask.ok_ite ?_ ?_ | refine faultsOf_ok ?_ ?_ | apply Keeps.ite | apply stopMaster_keeps | apply wrB_keeps

theorem execBusMasterEnable_keeps {fm : Nat} {r0 : State}  {f : Nat} {s : State} (hfm : Mask.le 0x3c0000000000000000000001fe7f800000000000000000000000000000000011000000000000000000000000000000001081000400000000000008209e0 fm = true) (h0 : Keeps fm r0 s)  : ∃ t1, (execBusMasterEnable f s) = .next t1 ∧ Keeps fm r0 t1 := by
  refine ⟨_, rfl, ?_⟩
  with_reducible repeat' first | assumption | exact fpart (by decide +kernel) hfm | exact fle (by decide +kernel) hfm | exact fok (by decide +kernel) hfm | exact fall (by decide +kernel) hfm | exact fokIx (by decide +kernel) hfm | exact fokAll (by decide +kernel) hfm | refine Mask.ok_ite ?_ ?_ | refine faultsOf_ok ?_ ?_ | apply Keeps.ite | apply resumeMaster_keeps | apply wrB_keeps

theorem execHostReadErrorCompletion_keeps {fm : Nat} {r0 : State}  {q : Nat} {tag : Nat} {s : State} (hfm : Mask.le 0x50000000000700000000000000000000000000000000000000014000000000000190000000000000000000000000000000000000000000000020000040867ae0 fm = true) (h0 : Keeps fm r0 s)  : ∃ t1, (execHostReadErrorCompletion q tag s) = .next t1 ∧ Keeps fm r0 t1 := by
  refine ⟨_, rfl, ?_⟩
  with_reducible repeat' first | assumption | exact fpart (by decide +kernel) hfm | exact fle (by decide +kernel) hfm | exact fok (by decide +kernel) hfm | exact fall (by decide +kernel) hfm | exact fokIx (by decide +kernel) hfm | exact fokAll (by decide +kernel) hfm | refine Mask.ok_ite ?_ ?_ | refine faultsOf_ok ?_ ?_ | apply Keeps.ite | apply endWith_keeps | apply finish_keeps | split

theorem startFlr_keeps {fm : Nat} {r0 : State}  {s : State} {f : Nat} (hfm : Mask.le 0x1f0000000000700000000000000000000000000000000000000014000000000000190200000000000000000000000000000000008000040000020000040867ae0 fm = true) (h0 : Keeps fm r0 s)  : Keeps fm r0 (startFlr s f) := by
  unfold startFlr
  try lift_lets -underBinder
  with_reducible repeat' first | assumption | exact fpart (by decide +kernel) hfm | exact fle (by decide +kernel) hfm | exact fok (by decide +kernel) hfm | exact fall (by decide +kernel) hfm | exact fokIx (by decide +kernel) hfm | exact fokAll (by decide +kernel) hfm | refine Mask.ok_ite ?_ ?_ | refine faultsOf_ok ?_ ?_ | refine fun _ _ (_ : Keeps fm r0 _) => ?_ | (intro a; refine (fun ha : Keeps fm r0 a => ?_) ?_; clear_value a; rotate_left; dsimp only [a]; rotate_right) | (intro a; clear_value a) | lift_lets -underBinder | apply Keeps.ite | apply wrB_keeps | apply modQp_keeps | apply recordAll_keeps | apply startReset_keeps | apply Keeps.forEach

theorem resetQpObjects_keeps {fm : Nat} {r0 : State}  {s : State} {q : Nat} (hfm : Mask.le 0xffffffff000000000000000000000000000000000000000000000000000000000000000000000000000000000000000000000000000000000000000000000000000000000000000000ffffffffc0000000000000000000 fm = true) (h0 : Keeps fm r0 s)  : Keeps fm r0 (resetQpObjects s q) := by
  unfold resetQpObjects
  try lift_lets -underBinder
  with_reducible repeat' first | assumption | exact fpart (by decide +kernel) hfm | exact fle (by decide +kernel) hfm | exact fok (by decide +kernel) hfm | exact fall (by decide +kernel) hfm | exact fokIx (by decide +kernel) hfm | exact fokAll (by decide +kernel) hfm | refine Mask.ok_ite ?_ ?_ | refine faultsOf_ok ?_ ?_ | (intro a; clear_value a) | lift_lets -underBinder | apply wr_keeps | apply clrInst_keeps

theorem endFlr_keeps {fm : Nat} {r0 : State}  {s : State} {f : Nat} (hfm : Mask.le 0xffffffff000000000000000003f000fe0000000000000050000fc000070001e000000000001fe7f8000000000000000001400000000000719138000000000000000000000000000000ffffffffc0000020000040867be8 fm = true) (h0 : Keeps fm r0 s)  : Keeps fm r0 (endFlr s f) := by
  unfold endFlr
  try lift_lets -underBinder
  with_reducible repeat' first | assumption | exact fpart (by decide +kernel) hfm | exact fle (by decide +kernel) hfm | exact fok (by decide +kernel) hfm | exact fall (by decide +kernel) hfm | exact fokIx (by decide +kernel) hfm | exact fokAll (by decide +kernel) hfm | refine Mask.ok_ite ?_ ?_ | refine faultsOf_ok ?_ ?_ | refine fun _ _ (_ : Keeps fm r0 _) => ?_ | (intro a; refine (fun ha : Keeps fm r0 a => ?_) ?_; clear_value a; rotate_left; dsimp only [a]; rotate_right) | (intro a; clear_value a) | lift_lets -underBinder | apply Keeps.ite | apply limitReset_keeps | apply endSession_keeps | apply resetQpObjects_keeps | apply clrInst_keeps | apply wrB_keeps | apply wr_keeps | apply Keeps.forEach | fail_if_no_progress (apply Keeps.upd <;> try first | exact Or.inr (fpart (by decide +kernel) hfm) | exact Or.inl rfl)

theorem dropVfs_keeps {fm : Nat} {r0 : State}  {s : State} {port : Nat} (hfm : Mask.le 0x22000000000000000000000000000000000000000000000000000000100 fm = true) (h0 : Keeps fm r0 s)  : Keeps fm r0 (dropVfs s port) := by
  unfold dropVfs
  try lift_lets -underBinder
  with_reducible repeat' first | assumption | exact fpart (by decide +kernel) hfm | exact fle (by decide +kernel) hfm | exact fok (by decide +kernel) hfm | exact fall (by decide +kernel) hfm | exact fokIx (by decide +kernel) hfm | exact fokAll (by decide +kernel) hfm | refine Mask.ok_ite ?_ ?_ | refine faultsOf_ok ?_ ?_ | refine fun _ _ (_ : Keeps fm r0 _) => ?_ | (intro a; clear_value a) | lift_lets -underBinder | apply modHostPort_keeps | apply wr_keeps | apply wrB_keeps | apply Keeps.forEach

theorem execFlr_keeps {fm : Nat} {r0 : State}  {f : Nat} {s : State} (hfm : Mask.le 0x1f0000000000700000000000000000000000000000000000000014000000000000190600000000000000000000000000000000008000040000020000040867ae0 fm = true) (h0 : Keeps fm r0 s)  : ∃ t1, (execFlr f s) = .next t1 ∧ Keeps fm r0 t1 := by
  refine ⟨_, rfl, ?_⟩
  try lift_lets -underBinder
  with_reducible repeat' first | assumption | exact fpart (by decide +kernel) hfm | exact fle (by decide +kernel) hfm | exact fok (by decide +kernel) hfm | exact fall (by decide +kernel) hfm | exact fokIx (by decide +kernel) hfm | exact fokAll (by decide +kernel) hfm | refine Mask.ok_ite ?_ ?_ | refine faultsOf_ok ?_ ?_ | refine fun _ _ (_ : Keeps fm r0 _) => ?_ | (intro a; refine (fun ha : Keeps fm r0 a => ?_) ?_; clear_value a; rotate_left; dsimp only [a]; rotate_right) | lift_lets -underBinder | apply Keeps.ite | apply startFlr_keeps | apply bump_keeps | apply Keeps.forEach

theorem get_foldl_set {α : Type} (l : List (Nat × α)) (t : Tbl α) (k : Nat) (h : ∀ e ∈ l, e.1 ≠ k) : Tbl.get (l.foldl (fun r e => Tbl.set r e.1 e.2) t) k = Tbl.get t k := by
  induction l generalizing t with
  | nil => rfl
  | cons e l ih =>
    rw [List.foldl_cons, ih _ (fun x hx => h x (by simp [hx]))]
    exact Tbl.get_set_other _ _ (fun x => h e (by simp) x.symm)

theorem keepFnCounters_keeps {fm : Nat} {r0 s t : State} {f : Nat} (hfm : Mask.le 0xfc0000000000000000000000000000000000000000000000000000000000000000000000000000000000000000000000000000000000000000000000000 fm = true) (h0 : Keeps fm r0 t) : Keeps fm r0 (keepFnCounters s t f) := by
  unfold keepFnCounters
  refine Keeps.updRegs h0 (Tbl.wf_foldl_set _) id (fun k hk => get_foldl_set _ _ _ (fun e he hek => ?_)) (fun _ _ => rfl) (Or.inl ⟨rfl, rfl, rfl, rfl⟩)
  have := Mask.keeps_inst (i := 0x4820) (n := f) (fokIx (by decide +kernel) hfm) hk
  simp only [List.mem_filter, hek, beq_iff_eq] at he
  exact this he.2

theorem completeFlr_keeps {fm : Nat} {r0 : State}  {s : State} {f : Nat} (hfm : Mask.le 0xffffffff000000000000000003f000fe0000000000000050000fc000070001e000000000001fe7f800000000000000000140000000000071913a200000000000000000000000000000ffffffffc0000020000040867be8 fm = true) (h0 : Keeps fm r0 s)  : Keeps fm r0 (completeFlr s f) := by
  unfold completeFlr
  try lift_lets -underBinder
  with_reducible repeat' first | assumption | exact fpart (by decide +kernel) hfm | exact fle (by decide +kernel) hfm | exact fok (by decide +kernel) hfm | exact fall (by decide +kernel) hfm | exact fokIx (by decide +kernel) hfm | exact fokAll (by decide +kernel) hfm | refine Mask.ok_ite ?_ ?_ | refine faultsOf_ok ?_ ?_ | refine fun _ _ (_ : Keeps fm r0 _) => ?_ | (intro a; refine (fun ha : Keeps fm r0 a => ?_) ?_; clear_value a; rotate_left; dsimp only [a]; rotate_right) | lift_lets -underBinder | apply Keeps.ite | apply endFlr_keeps | apply dropVfs_keeps | apply Keeps.forEach

theorem execFlrComplete_keeps {fm : Nat} {r0 : State}  {f : Nat} {s : State} (hfm : Mask.le 0xffffffff000000000000000003f000fe0000000000000050000fc000070001e000000000001fe7f800000000000000000140000000000071913a200000000000000000000000000000ffffffffc0000020000040867be8 fm = true) (h0 : Keeps fm r0 s)  : ∃ t1, (execFlrComplete f s) = .next t1 ∧ Keeps fm r0 t1 := by
  refine ⟨_, rfl, ?_⟩
  with_reducible repeat' first | assumption | exact fpart (by decide +kernel) hfm | exact fle (by decide +kernel) hfm | exact fok (by decide +kernel) hfm | exact fall (by decide +kernel) hfm | exact fokIx (by decide +kernel) hfm | exact fokAll (by decide +kernel) hfm | refine Mask.ok_ite ?_ ?_ | refine faultsOf_ok ?_ ?_ | apply Keeps.ite | apply completeFlr_keeps | apply keepFnCounters_keeps

theorem resetPort_keeps {fm : Nat} {r0 : State}  {s : State} {port : Nat} (hfm : Mask.le 0x1f0000000000700000000000000000000000000000000000000014000000000000190200800000000000000000000000000000008000040000020000040867be0 fm = true) (h0 : Keeps fm r0 s)  : Keeps fm r0 (resetPort s port) := by
  unfold resetPort
  try lift_lets -underBinder
  with_reducible repeat' first | assumption | exact fpart (by decide +kernel) hfm | exact fle (by decide +kernel) hfm | exact fok (by decide +kernel) hfm | exact fall (by decide +kernel) hfm | exact fokIx (by decide +kernel) hfm | exact fokAll (by decide +kernel) hfm | refine Mask.ok_ite ?_ ?_ | refine faultsOf_ok ?_ ?_ | refine fun _ _ (_ : Keeps fm r0 _) => ?_ | (intro a; refine (fun ha : Keeps fm r0 a => ?_) ?_; clear_value a; rotate_left; dsimp only [a]; rotate_right) | lift_lets -underBinder | apply startFlr_keeps | apply modHostPort_keeps | apply bump_keeps | apply Keeps.forEach

theorem linkDown_keeps {fm : Nat} {r0 : State}  {s : State} {port : Nat} (hfm : Mask.le 0x1e0000000000000000000000000000000000000000000000000000000 fm = true) (h0 : Keeps fm r0 s)  : Keeps fm r0 (linkDown s port) := by
  unfold linkDown
  with_reducible repeat' first | assumption | exact fpart (by decide +kernel) hfm | exact fle (by decide +kernel) hfm | exact fok (by decide +kernel) hfm | exact fall (by decide +kernel) hfm | exact fokIx (by decide +kernel) hfm | exact fokAll (by decide +kernel) hfm | refine Mask.ok_ite ?_ ?_ | refine faultsOf_ok ?_ ?_ | apply wrB_keeps | apply wr_keeps

theorem latchPerst_keeps {fm : Nat} {r0 : State}  {s : State} {port : Nat} (hfm : Mask.le 0x100 fm = true) (h0 : Keeps fm r0 s)  : Keeps fm r0 (latchPerst s port) := by
  unfold latchPerst
  with_reducible repeat' first | assumption | exact fpart (by decide +kernel) hfm | exact fle (by decide +kernel) hfm | exact fok (by decide +kernel) hfm | exact fall (by decide +kernel) hfm | exact fokIx (by decide +kernel) hfm | exact fokAll (by decide +kernel) hfm | refine Mask.ok_ite ?_ ?_ | refine faultsOf_ok ?_ ?_ | apply modHostPort_keeps

theorem execPerstAssert_keeps {fm : Nat} {r0 : State}  {port : Nat} {s : State} (hfm : Mask.le 0x1f00000000007000000000000000000000000000000000000000140000000000001902009e0000000000000000000000000000008000040000020000040867be0 fm = true) (h0 : Keeps fm r0 s)  : ∃ t1, (execPerstAssert port s) = .next t1 ∧ Keeps fm r0 t1 := by
  refine ⟨_, rfl, ?_⟩
  with_reducible repeat' first | assumption | exact fpart (by decide +kernel) hfm | exact fle (by decide +kernel) hfm | exact fok (by decide +kernel) hfm | exact fall (by decide +kernel) hfm | exact fokIx (by decide +kernel) hfm | exact fokAll (by decide +kernel) hfm | refine Mask.ok_ite ?_ ?_ | refine faultsOf_ok ?_ ?_ | apply Keeps.ite | apply latchPerst_keeps | apply linkDown_keeps | apply resetPort_keeps

theorem trainLink_keeps {fm : Nat} {r0 : State}  {s : State} {port : Nat} {speed : Nat} {width : Nat} (hfm : Mask.le 0x30080000000000000000000000000000000000000000000000000000000000000000000000000000017c0000001e0000000000000000000000000000000000000000000000000800120 fm = true) (h0 : Keeps fm r0 s)  : Keeps fm r0 (trainLink s port speed width) := by
  unfold trainLink
  try lift_lets -underBinder
  with_reducible repeat' first | assumption | exact fpart (by decide +kernel) hfm | exact fle (by decide +kernel) hfm | exact fok (by decide +kernel) hfm | exact fall (by decide +kernel) hfm | exact fokIx (by decide +kernel) hfm | exact fokAll (by decide +kernel) hfm | refine Mask.ok_ite ?_ ?_ | refine faultsOf_ok ?_ ?_ | (intro a; refine (fun ha : Keeps fm r0 a => ?_) ?_; clear_value a; rotate_left; dsimp only [a]; rotate_right) | (intro a; clear_value a) | lift_lets -underBinder | apply Keeps.ite | apply wr_keeps | apply wrB_keeps | apply raiseOpen_keeps

theorem readyPort_keeps {fm : Nat} {r0 : State}  {s : State} {port : Nat} (hfm : Mask.le 0xffffffff000000000000000003f000fe0000000000000050000fc000070001e000000000001fe7f800000000000000000140000000000071913a200000000000000000000000000000ffffffffc0000020000040867be8 fm = true) (h0 : Keeps fm r0 s)  : Keeps fm r0 (readyPort s port) := by
  unfold readyPort
  try lift_lets -underBinder
  with_reducible repeat' first | assumption | exact fpart (by decide +kernel) hfm | exact fle (by decide +kernel) hfm | exact fok (by decide +kernel) hfm | exact fall (by decide +kernel) hfm | exact fokIx (by decide +kernel) hfm | exact fokAll (by decide +kernel) hfm | refine Mask.ok_ite ?_ ?_ | refine faultsOf_ok ?_ ?_ | (intro a; refine (fun ha : Keeps fm r0 a => ?_) ?_; clear_value a; rotate_left; dsimp only [a]; rotate_right) | lift_lets -underBinder | apply Keeps.ite | apply wrB_keeps | apply modHostPort_keeps | apply keepFnCounters_keeps | apply completeFlr_keeps

theorem execPerstRelease_keeps {fm : Nat} {r0 : State}  {port : Nat} {speed : Nat} {width : Nat} {s : State} (hfm : Mask.le 0xffffffff000000000000000003f300fe0002000000000050000fc000070001e000000000001fe7f8004000000000000001400000000017f1913a21e000000000000000000000000000ffffffffc0000020000040867be8 fm = true) (h0 : Keeps fm r0 s)  : ∃ t1, (execPerstRelease port speed width s) = .next t1 ∧ Keeps fm r0 t1 := by
  refine ⟨_, rfl, ?_⟩
  try lift_lets -underBinder
  with_reducible repeat' first | assumption | exact fpart (by decide +kernel) hfm | exact fle (by decide +kernel) hfm | exact fok (by decide +kernel) hfm | exact fall (by decide +kernel) hfm | exact fokIx (by decide +kernel) hfm | exact fokAll (by decide +kernel) hfm | refine Mask.ok_ite ?_ ?_ | refine faultsOf_ok ?_ ?_ | (intro a; refine (fun ha : Keeps fm r0 a => ?_) ?_; clear_value a; rotate_left; dsimp only [a]; rotate_right) | lift_lets -underBinder | apply Keeps.ite | apply trainLink_keeps | apply modHostPort_keeps | apply leaveIdle_keeps | apply readyPort_keeps

theorem execHotReset_keeps {fm : Nat} {r0 : State}  {port : Nat} {s : State} (hfm : Mask.le 0x1f00000000007000000000000000000000000000000000000000140000000000001902009e0000000000000000000000000000008000040000020000040867be0 fm = true) (h0 : Keeps fm r0 s)  : ∃ t1, (execHotReset port s) = .next t1 ∧ Keeps fm r0 t1 := by
  refine ⟨_, rfl, ?_⟩
  with_reducible repeat' first | assumption | exact fpart (by decide +kernel) hfm | exact fle (by decide +kernel) hfm | exact fok (by decide +kernel) hfm | exact fall (by decide +kernel) hfm | exact fokIx (by decide +kernel) hfm | exact fokAll (by decide +kernel) hfm | refine Mask.ok_ite ?_ ?_ | refine faultsOf_ok ?_ ?_ | apply Keeps.ite | apply linkDown_keeps | apply resetPort_keeps

theorem execHostLinkDown_keeps {fm : Nat} {r0 : State}  {port : Nat} {s : State} (hfm : Mask.le 0x1f00000000007000000000000000000000000000000000000000140000000000001902019e0000000000000000000000000000008000040000020000040867be0 fm = true) (h0 : Keeps fm r0 s)  : ∃ t1, (execHostLinkDown port s) = .next t1 ∧ Keeps fm r0 t1 := by
  refine ⟨_, rfl, ?_⟩
  with_reducible repeat' first | assumption | exact fpart (by decide +kernel) hfm | exact fle (by decide +kernel) hfm | exact fok (by decide +kernel) hfm | exact fall (by decide +kernel) hfm | exact fokIx (by decide +kernel) hfm | exact fokAll (by decide +kernel) hfm | refine Mask.ok_ite ?_ ?_ | refine faultsOf_ok ?_ ?_ | apply Keeps.ite | apply bump_keeps | apply linkDown_keeps | apply resetPort_keeps

theorem execD3hotEntry_keeps {fm : Nat} {r0 : State}  {f : Nat} {s : State} (hfm : Mask.le 0x50000000000700000000000000000000000000000000000000014000000000000190080000000000000000000000000000000000000000000020000040867ae0 fm = true) (h0 : Keeps fm r0 s)  : ∃ t1, (execD3hotEntry f s) = .next t1 ∧ Keeps fm r0 t1 := by
  refine ⟨_, rfl, ?_⟩
  with_reducible repeat' first | assumption | exact fpart (by decide +kernel) hfm | exact fle (by decide +kernel) hfm | exact fok (by decide +kernel) hfm | exact fall (by decide +kernel) hfm | exact fokIx (by decide +kernel) hfm | exact fokAll (by decide +kernel) hfm | refine Mask.ok_ite ?_ ?_ | refine faultsOf_ok ?_ ?_ | apply Keeps.ite | apply stopMaster_keeps | apply wr_keeps

theorem execD0Return_keeps {fm : Nat} {r0 : State}  {f : Nat} {s : State} (hfm : Mask.le 0x20000000000000003c0000000000000000000001fe7f800400000000000000000000000000000010800000000000000000000000000000001081000400000000000008209e0 fm = true) (h0 : Keeps fm r0 s)  : ∃ t1, (execD0Return f s) = .next t1 ∧ Keeps fm r0 t1 := by
  refine ⟨_, rfl, ?_⟩
  with_reducible repeat' first | assumption | exact fpart (by decide +kernel) hfm | exact fle (by decide +kernel) hfm | exact fok (by decide +kernel) hfm | exact fall (by decide +kernel) hfm | exact fokIx (by decide +kernel) hfm | exact fokAll (by decide +kernel) hfm | refine Mask.ok_ite ?_ ?_ | refine faultsOf_ok ?_ ?_ | apply Keeps.ite | apply resumeMaster_keeps | apply leaveIdle_keeps | apply wr_keeps

theorem execVfEnable_keeps {fm : Nat} {r0 : State}  {port : Nat} {on : Bool} {n : Nat} {s : State} (hfm : Mask.le 0xffffffff000000000000000003f000fe00000000000001f0000fc000070001e000000000001fe7f800000000000000000140000000000071913a200000000000000000000000000000ffffffffc0000020000040867be8 fm = true) (h0 : Keeps fm r0 s)  : ∃ t1, (execVfEnable port on n s) = .next t1 ∧ Keeps fm r0 t1 := by
  refine ⟨_, rfl, ?_⟩
  try lift_lets -underBinder
  with_reducible repeat' first | assumption | exact fpart (by decide +kernel) hfm | exact fle (by decide +kernel) hfm | exact fok (by decide +kernel) hfm | exact fall (by decide +kernel) hfm | exact fokIx (by decide +kernel) hfm | exact fokAll (by decide +kernel) hfm | refine Mask.ok_ite ?_ ?_ | refine faultsOf_ok ?_ ?_ | refine fun _ _ (_ : Keeps fm r0 _) => ?_ | (intro a; clear_value a) | lift_lets -underBinder | apply Keeps.ite | apply wrB_keeps | apply modHostPort_keeps | apply wr_keeps | apply dropVfs_keeps | apply endFlr_keeps | apply startFlr_keeps | apply Keeps.forEach | apply Keeps.forRange

theorem execMsixVectorUnmask_keeps {fm : Nat} {r0 : State}  {f : Nat} {what : Unmask} {s : State} (hfm : Mask.le 0x800100 fm = true) (h0 : Keeps fm r0 s)  : ∃ t1, (execMsixVectorUnmask f what s) = .next t1 ∧ Keeps fm r0 t1 := by
  refine ⟨_, rfl, ?_⟩
  with_reducible repeat' first | assumption | exact fpart (by decide +kernel) hfm | exact fle (by decide +kernel) hfm | exact fok (by decide +kernel) hfm | exact fall (by decide +kernel) hfm | exact fokIx (by decide +kernel) hfm | exact fokAll (by decide +kernel) hfm | refine Mask.ok_ite ?_ ?_ | refine faultsOf_ok ?_ ?_ | apply Keeps.ite | apply flushMsix_keeps | apply modFn_keeps

theorem execPmeStatusClear_keeps {fm : Nat} {r0 : State}  {f : Nat} {s : State} (hfm : Mask.le 0xc00100 fm = true) (h0 : Keeps fm r0 s)  : ∃ t1, (execPmeStatusClear f s) = .next t1 ∧ Keeps fm r0 t1 := by
  refine ⟨_, rfl, ?_⟩
  with_reducible repeat' first | assumption | exact fpart (by decide +kernel) hfm | exact fle (by decide +kernel) hfm | exact fok (by decide +kernel) hfm | exact fall (by decide +kernel) hfm | exact fokIx (by decide +kernel) hfm | exact fokAll (by decide +kernel) hfm | refine Mask.ok_ite ?_ ?_ | refine faultsOf_ok ?_ ?_ | apply Keeps.ite | apply drive_keeps | apply modFn_keeps

theorem execModuleIdleEntry_keeps {fm : Nat} {r0 : State}  {s : State} (hfm : Mask.le 0x60000000001f0000000000000000000000000000000000000000000000000014000000000000190000000000000000000000000000000000000000000000020000040865820 fm = true) (h0 : Keeps fm r0 s)  : ∃ t1, (execModuleIdleEntry s) = .next t1 ∧ Keeps fm r0 t1 := by
  refine ⟨_, rfl, ?_⟩
  try lift_lets -underBinder
  with_reducible repeat' first | assumption | exact fpart (by decide +kernel) hfm | exact fle (by decide +kernel) hfm | exact fok (by decide +kernel) hfm | exact fall (by decide +kernel) hfm | exact fokIx (by decide +kernel) hfm | exact fokAll (by decide +kernel) hfm | refine Mask.ok_ite ?_ ?_ | refine faultsOf_ok ?_ ?_ | refine fun _ _ (_ : Keeps fm r0 _) => ?_ | (intro a; refine (fun ha : Keeps fm r0 a => ?_) ?_; clear_value a; rotate_left; dsimp only [a]; rotate_right) | lift_lets -underBinder | apply Keeps.ite | apply forceWhere_keeps | apply requestCkpt_keeps | apply issueTo_keeps | apply bump_keeps | apply wrB_keeps | apply cleanLines_keeps | apply Keeps.forEach | apply Keeps.forRange

theorem execModuleIdleExit_keeps {fm : Nat} {r0 : State}  {s : State} (hfm : Mask.le 0x2000000000000000000000000000000000000000000000040000000000000000000000000000000000000000000000000000000000000000000000000000000000000000000 fm = true) (h0 : Keeps fm r0 s)  : ∃ t1, (execModuleIdleExit s) = .next t1 ∧ Keeps fm r0 t1 := by
  refine ⟨_, rfl, ?_⟩
  with_reducible repeat' first | assumption | exact fpart (by decide +kernel) hfm | exact fle (by decide +kernel) hfm | exact fok (by decide +kernel) hfm | exact fall (by decide +kernel) hfm | exact fokIx (by decide +kernel) hfm | exact fokAll (by decide +kernel) hfm | refine Mask.ok_ite ?_ ?_ | refine faultsOf_ok ?_ ?_ | apply leaveIdle_keeps

/-! ## Epoch -/

theorem modEp_keeps {fm : Nat} {r0 : State}  {s : State} {f : Epoch → Epoch} (hfm : Mask.le 0x10 fm = true) (h0 : Keeps fm r0 s)  : Keeps fm r0 (modEp s f) := by
  unfold modEp
  with_reducible repeat' first | assumption | exact fpart (by decide +kernel) hfm | exact fle (by decide +kernel) hfm | exact fok (by decide +kernel) hfm | exact fall (by decide +kernel) hfm | exact fokIx (by decide +kernel) hfm | exact fokAll (by decide +kernel) hfm | refine Mask.ok_ite ?_ ?_ | refine faultsOf_ok ?_ ?_ | fail_if_no_progress (apply Keeps.upd <;> try first | exact Or.inr (fpart (by decide +kernel) hfm) | exact Or.inl rfl)

theorem applyEntry_keeps {fm : Nat} {r0 : State}  {s : State} {e : Staged} (hfm : Mask.le 0x1ffffffffffffffffffffffffffffffffffffffffffffffffffffffffffffffffffffffffffffffffffffffffffffffffffffffffffffffffffffffffffffffffffffffffffffffffffffffffffffffffffffffffffe845022 fm = true) (h0 : Keeps fm r0 s)  : Keeps fm r0 (applyEntry s e) := by
  unfold applyEntry
  try lift_lets -underBinder
  with_reducible repeat' first | assumption | exact fpart (by decide +kernel) hfm | exact fle (by decide +kernel) hfm | exact fok (by decide +kernel) hfm | exact fall (by decide +kernel) hfm | exact fokIx (by decide +kernel) hfm | exact fokAll (by decide +kernel) hfm | refine Mask.ok_ite ?_ ?_ | refine faultsOf_ok ?_ ?_ | (intro a; refine (fun ha : Keeps fm r0 a => ?_) ?_; clear_value a; rotate_left; dsimp only [a]; rotate_right) | (intro a; clear_value a) | lift_lets -underBinder | apply Keeps.ite | apply wr_keeps | apply writeSuper_keeps | apply startCatchUp_keeps | split

theorem applyChange_keeps {fm : Nat} {r0 : State}  {s : State} {l : List Staged} (hfm : Mask.le 0x1ffffffffffffffffffffffffffffffffffffffffffffffffffffffffffffffffffffffffffffffffffffffffffffffffffffffffffffffffffffffffffffffffffffffffffffffffffffffffffffffffffffffffffe847922 fm = true) (h0 : Keeps fm r0 s)  : Keeps fm r0 (applyChange s l) := by
  unfold applyChange
  try lift_lets -underBinder
  with_reducible repeat' first | assumption | exact fpart (by decide +kernel) hfm | exact fle (by decide +kernel) hfm | exact fok (by decide +kernel) hfm | exact fall (by decide +kernel) hfm | exact fokIx (by decide +kernel) hfm | exact fokAll (by decide +kernel) hfm | refine Mask.ok_ite ?_ ?_ | refine faultsOf_ok ?_ ?_ | refine fun _ _ (_ : Keeps fm r0 _) => ?_ | (intro a; refine (fun ha : Keeps fm r0 a => ?_) ?_; clear_value a; rotate_left; dsimp only [a]; rotate_right) | lift_lets -underBinder | apply Keeps.ite | apply applyEntry_keeps | apply codeReshape_keeps | apply Keeps.forEach

theorem closeFor_keeps {fm : Nat} {r0 : State}  {s : State} {u : Nat} (hfm : Mask.le 0x1f0000000000000000000000000000000000000000000000000014000000000000190000000000000000000000000000000000000000000000020000040845820 fm = true) (h0 : Keeps fm r0 s)  : Keeps fm r0 (closeFor s u) := by
  unfold closeFor
  with_reducible repeat' first | assumption | exact fpart (by decide +kernel) hfm | exact fle (by decide +kernel) hfm | exact fok (by decide +kernel) hfm | exact fall (by decide +kernel) hfm | exact fokIx (by decide +kernel) hfm | exact fokAll (by decide +kernel) hfm | refine Mask.ok_ite ?_ ?_ | refine faultsOf_ok ?_ ?_ | refine fun _ _ (_ : Keeps fm r0 _) => ?_ | apply forceClose_keeps | apply Keeps.forEach

theorem setAck_keeps {fm : Nat} {r0 : State}  {s : State} {u : Nat} (hfm : Mask.le 0x80000000000000000000000000000000000000000000000000000000000000000000000000000000000000000010 fm = true) (h0 : Keeps fm r0 s)  : Keeps fm r0 (setAck s u) := by
  unfold setAck
  with_reducible repeat' first | assumption | exact fpart (by decide +kernel) hfm | exact fle (by decide +kernel) hfm | exact fok (by decide +kernel) hfm | exact fall (by decide +kernel) hfm | exact fokIx (by decide +kernel) hfm | exact fokAll (by decide +kernel) hfm | refine Mask.ok_ite ?_ ?_ | refine faultsOf_ok ?_ ?_ | apply wrB_keeps | apply modEp_keeps

theorem sendPrepare_keeps {fm : Nat} {r0 : State}  {s : State} {p : Nat} {l : List Staged} (hfm : Mask.le 0x190000000000000000000000000000000000000000000000000000000840020 fm = true) (h0 : Keeps fm r0 s)  : Keeps fm r0 (sendPrepare s p l) := by
  unfold sendPrepare
  with_reducible repeat' first | assumption | exact fpart (by decide +kernel) hfm | exact fle (by decide +kernel) hfm | exact fok (by decide +kernel) hfm | exact fall (by decide +kernel) hfm | exact fokIx (by decide +kernel) hfm | exact fokAll (by decide +kernel) hfm | refine Mask.ok_ite ?_ ?_ | refine faultsOf_ok ?_ ?_ | apply sendMsg_keeps

theorem toCommitting_keeps {fm : Nat} {r0 : State}  {s : State} (hfm : Mask.le 0x190000000400000000000000000000000000000000000000000000000840030 fm = true) (h0 : Keeps fm r0 s)  : Keeps fm r0 (toCommitting s) := by
  unfold toCommitting
  try lift_lets -underBinder
  with_reducible repeat' first | assumption | exact fpart (by decide +kernel) hfm | exact fle (by decide +kernel) hfm | exact fok (by decide +kernel) hfm | exact fall (by decide +kernel) hfm | exact fokIx (by decide +kernel) hfm | exact fokAll (by decide +kernel) hfm | refine Mask.ok_ite ?_ ?_ | refine faultsOf_ok ?_ ?_ | (intro a; refine (fun ha : Keeps fm r0 a => ?_) ?_; clear_value a; rotate_left; dsimp only [a]; rotate_right) | lift_lets -underBinder | apply Keeps.ite | apply modEp_keeps | apply wr_keeps | apply sendMsg_keeps

theorem afterAck_keeps {fm : Nat} {r0 : State}  {s : State} (hfm : Mask.le 0x190000000400000000000000000000000000000000000000000000000840030 fm = true) (h0 : Keeps fm r0 s)  : Keeps fm r0 (afterAck s) := by
  unfold afterAck
  with_reducible repeat' first | assumption | exact fpart (by decide +kernel) hfm | exact fle (by decide +kernel) hfm | exact fok (by decide +kernel) hfm | exact fall (by decide +kernel) hfm | exact fokIx (by decide +kernel) hfm | exact fokAll (by decide +kernel) hfm | refine Mask.ok_ite ?_ ?_ | refine faultsOf_ok ?_ ?_ | apply Keeps.ite | apply toCommitting_keeps | apply sendMsg_keeps | apply wr_keeps

theorem startEpoch_keeps {fm : Nat} {r0 : State}  {s : State} {change : List Staged} {isPair : Bool} {initiator : Bool} (hfm : Mask.le 0x1f0000000000000000000000000000000000080000000000000014000000000000190000002400000000000000000000000000000000000000020000040855830 fm = true) (h0 : Keeps fm r0 s)  : Keeps fm r0 (startEpoch s change isPair initiator) := by
  unfold startEpoch
  try lift_lets -underBinder
  with_reducible repeat' first | assumption | exact fpart (by decide +kernel) hfm | exact fle (by decide +kernel) hfm | exact fok (by decide +kernel) hfm | exact fall (by decide +kernel) hfm | exact fokIx (by decide +kernel) hfm | exact fokAll (by decide +kernel) hfm | refine Mask.ok_ite ?_ ?_ | refine faultsOf_ok ?_ ?_ | refine fun _ _ (_ : Keeps fm r0 _) => ?_ | (intro a; refine (fun ha : Keeps fm r0 a => ?_) ?_; clear_value a; rotate_left; dsimp only [a]; rotate_right) | (intro a; clear_value a) | lift_lets -underBinder | apply Keeps.ite | apply modEp_keeps | apply wrBytes_keeps | apply wr_keeps | apply clr_keeps | apply forceWhere_keeps | apply sendPrepare_keeps | apply afterAck_keeps | apply setAck_keeps | apply Keeps.forRange | fail_if_no_progress (apply Keeps.upd <;> try first | exact Or.inr (fpart (by decide +kernel) hfm) | exact Or.inl rfl)

theorem toIdle_keeps {fm : Nat} {r0 : State}  {s : State} {result : Nat} (hfm : Mask.le 0x80000000000000000000000000000000000010c00000000000000000000000000000000000000000000000010010 fm = true) (h0 : Keeps fm r0 s)  : Keeps fm r0 (toIdle s result) := by
  unfold toIdle
  try lift_lets -underBinder
  with_reducible repeat' first | assumption | exact fpart (by decide +kernel) hfm | exact fle (by decide +kernel) hfm | exact fok (by decide +kernel) hfm | exact fall (by decide +kernel) hfm | exact fokIx (by decide +kernel) hfm | exact fokAll (by decide +kernel) hfm | refine Mask.ok_ite ?_ ?_ | refine faultsOf_ok ?_ ?_ | refine fun _ _ (_ : Keeps fm r0 _) => ?_ | (intro a; refine (fun ha : Keeps fm r0 a => ?_) ?_; clear_value a; rotate_left; dsimp only [a]; rotate_right) | (intro a; clear_value a) | lift_lets -underBinder | apply clr_keeps | apply wr_keeps | apply modEp_keeps | apply Keeps.forRange | fail_if_no_progress (apply Keeps.upd <;> try first | exact Or.inr (fpart (by decide +kernel) hfm) | exact Or.inl rfl)

theorem thermalDone_keeps {fm : Nat} {r0 : State}  {before : State} {s : State} (hfm : Mask.le 0xc00000000000000000000000000000000000000000000000000000000000000000000000000000000000 fm = true) (h0 : Keeps fm r0 s)  : Keeps fm r0 (thermalDone before s) := by
  unfold thermalDone
  try lift_lets -underBinder
  with_reducible repeat' first | assumption | exact fpart (by decide +kernel) hfm | exact fle (by decide +kernel) hfm | exact fok (by decide +kernel) hfm | exact fall (by decide +kernel) hfm | exact fokIx (by decide +kernel) hfm | exact fokAll (by decide +kernel) hfm | refine Mask.ok_ite ?_ ?_ | refine faultsOf_ok ?_ ?_ | (intro a; refine (fun ha : Keeps fm r0 a => ?_) ?_; clear_value a; rotate_left; dsimp only [a]; rotate_right) | lift_lets -underBinder | apply Keeps.ite | apply wrB_keeps | apply bump_keeps | split

theorem completeEpoch_keeps {fm : Nat} {r0 : State}  {s : State} (hfm : Mask.le 0x1ffffffffffffffffffffffffffffffffffffffffffffffffffffffffffffffffffffffffffffffffffffffffffffffffffffffffffffffffffffffffffffffffffffffffffffffffffffffffffffffffffffffffffe857932 fm = true) (h0 : Keeps fm r0 s)  : Keeps fm r0 (completeEpoch s) := by
  unfold completeEpoch
  try lift_lets -underBinder
  with_reducible repeat' first | assumption | exact fpart (by decide +kernel) hfm | exact fle (by decide +kernel) hfm | exact fok (by decide +kernel) hfm | exact fall (by decide +kernel) hfm | exact fokIx (by decide +kernel) hfm | exact fokAll (by decide +kernel) hfm | refine Mask.ok_ite ?_ ?_ | refine faultsOf_ok ?_ ?_ | refine fun _ _ (_ : Keeps fm r0 _) => ?_ | (intro a; refine (fun ha : Keeps fm r0 a => ?_) ?_; clear_value a; rotate_left; dsimp only [a]; rotate_right) | (intro a; clear_value a) | lift_lets -underBinder | apply Keeps.ite | apply bump_keeps | apply wr_keeps | apply applyChange_keeps | apply modEp_keeps | apply toIdle_keeps | apply thermalDone_keeps | apply Keeps.forRange

theorem tryComplete_keeps {fm : Nat} {r0 : State}  {s : State} (hfm : Mask.le 0x1ffffffffffffffffffffffffffffffffffffffffffffffffffffffffffffffffffffffffffffffffffffffffffffffffffffffffffffffffffffffffffffffffffffffffffffffffffffffffffffffffffffffffffe857932 fm = true) (h0 : Keeps fm r0 s)  : Keeps fm r0 (tryComplete s) := by
  unfold tryComplete
  with_reducible repeat' first | assumption | exact fpart (by decide +kernel) hfm | exact fle (by decide +kernel) hfm | exact fok (by decide +kernel) hfm | exact fall (by decide +kernel) hfm | exact fokIx (by decide +kernel) hfm | exact fokAll (by decide +kernel) hfm | refine Mask.ok_ite ?_ ?_ | refine faultsOf_ok ?_ ?_ | apply Keeps.ite | apply completeEpoch_keeps

theorem orderRevert_keeps {fm : Nat} {r0 : State}  {s : State} {result : Nat} (hfm : Mask.le 0x400000000000000000000000000000000000000000000000000010 fm = true) (h0 : Keeps fm r0 s)  : Keeps fm r0 (orderRevert s result) := by
  unfold orderRevert
  with_reducible repeat' first | assumption | exact fpart (by decide +kernel) hfm | exact fle (by decide +kernel) hfm | exact fok (by decide +kernel) hfm | exact fall (by decide +kernel) hfm | exact fokIx (by decide +kernel) hfm | exact fokAll (by decide +kernel) hfm | refine Mask.ok_ite ?_ ?_ | refine faultsOf_ok ?_ ?_ | apply modEp_keeps | apply wr_keeps

theorem stageWrite_keeps {fm : Nat} {r0 : State}  {s : State} {e : Staged} (hfm : Mask.le 0x10 fm = true) (h0 : Keeps fm r0 s)  : Keeps fm r0 (stageWrite s e).2 := by
  unfold stageWrite
  try lift_lets -underBinder
  with_reducible repeat' first | assumption | exact fpart (by decide +kernel) hfm | exact fle (by decide +kernel) hfm | exact fok (by decide +kernel) hfm | exact fall (by decide +kernel) hfm | exact fokIx (by decide +kernel) hfm | exact fokAll (by decide +kernel) hfm | refine Mask.ok_ite ?_ ?_ | refine faultsOf_ok ?_ ?_ | (intro a; clear_value a) | lift_lets -underBinder | apply Keeps.ite_snd | apply modEp_keeps

theorem commitEpoch_keeps {fm : Nat} {r0 : State}  {s : State} {v : Nat} {pair : Bool} (hfm : Mask.le 0x1f0000000000000000000000000000000000080000000000000014000000000000190000002400000000000000000000000000000000000000020000040855830 fm = true) (h0 : Keeps fm r0 s)  : Keeps fm r0 (commitEpoch s v pair) := by
  unfold commitEpoch
  with_reducible repeat' first | assumption | exact fpart (by decide +kernel) hfm | exact fle (by decide +kernel) hfm | exact fok (by decide +kernel) hfm | exact fall (by decide +kernel) hfm | exact fokIx (by decide +kernel) hfm | exact fokAll (by decide +kernel) hfm | refine Mask.ok_ite ?_ ?_ | refine faultsOf_ok ?_ ?_ | apply Keeps.ite | apply startEpoch_keeps

theorem execEpochCommit_keeps {fm : Nat} {r0 : State}  {v : Nat} {s : State} (hfm : Mask.le 0x1f0000000000000000000000000000000000080000000000000014000000000000190000002400000000000000000000000000000000000000020000040855830 fm = true) (h0 : Keeps fm r0 s)  : ∃ t1, (execEpochCommit v s) = .next t1 ∧ Keeps fm r0 t1 := by
  refine ⟨_, rfl, ?_⟩
  with_reducible repeat' first | assumption | exact fpart (by decide +kernel) hfm | exact fle (by decide +kernel) hfm | exact fok (by decide +kernel) hfm | exact fall (by decide +kernel) hfm | exact fokIx (by decide +kernel) hfm | exact fokAll (by decide +kernel) hfm | refine Mask.ok_ite ?_ ?_ | refine faultsOf_ok ?_ ?_ | apply commitEpoch_keeps

theorem execEpochCommitPair_keeps {fm : Nat} {r0 : State}  {v : Nat} {s : State} (hfm : Mask.le 0x1f0000000000000000000000000000000000080000000000000014000000000000190000002400000000000000000000000000000000000000020000040855830 fm = true) (h0 : Keeps fm r0 s)  : ∃ t1, (execEpochCommitPair v s) = .next t1 ∧ Keeps fm r0 t1 := by
  refine ⟨_, rfl, ?_⟩
  with_reducible repeat' first | assumption | exact fpart (by decide +kernel) hfm | exact fle (by decide +kernel) hfm | exact fok (by decide +kernel) hfm | exact fall (by decide +kernel) hfm | exact fokIx (by decide +kernel) hfm | exact fokAll (by decide +kernel) hfm | refine Mask.ok_ite ?_ ?_ | refine faultsOf_ok ?_ ?_ | apply commitEpoch_keeps

theorem discardStaged_keeps {fm : Nat} {r0 : State}  {s : State} (hfm : Mask.le 0x10 fm = true) (h0 : Keeps fm r0 s)  : Keeps fm r0 (discardStaged s) := by
  unfold discardStaged
  with_reducible repeat' first | assumption | exact fpart (by decide +kernel) hfm | exact fle (by decide +kernel) hfm | exact fok (by decide +kernel) hfm | exact fall (by decide +kernel) hfm | exact fokIx (by decide +kernel) hfm | exact fokAll (by decide +kernel) hfm | refine Mask.ok_ite ?_ ?_ | refine faultsOf_ok ?_ ?_ | apply modEp_keeps

theorem execEpochDiscard_keeps {fm : Nat} {r0 : State}  {s : State} (hfm : Mask.le 0x10 fm = true) (h0 : Keeps fm r0 s)  : ∃ t1, (execEpochDiscard s) = .next t1 ∧ Keeps fm r0 t1 := by
  refine ⟨_, rfl, ?_⟩
  with_reducible repeat' first | assumption | exact fpart (by decide +kernel) hfm | exact fle (by decide +kernel) hfm | exact fok (by decide +kernel) hfm | exact fall (by decide +kernel) hfm | exact fokIx (by decide +kernel) hfm | exact fokAll (by decide +kernel) hfm | refine Mask.ok_ite ?_ ?_ | refine faultsOf_ok ?_ ?_ | apply Keeps.ite | apply discardStaged_keeps

theorem execUnitAcknowledge_keeps {fm : Nat} {r0 : State}  {u : Nat} {s : State} (hfm : Mask.le 0x1f00000000000000000000000000000000000c0000000000000014000000000000190000000400000000000000000000000000000000000000020000040845830 fm = true) (h0 : Keeps fm r0 s)  : ∃ t1, (execUnitAcknowledge u s) = .next t1 ∧ Keeps fm r0 t1 := by
  refine ⟨_, rfl, ?_⟩
  try lift_lets -underBinder
  with_reducible repeat' first | assumption | exact fpart (by decide +kernel) hfm | exact fle (by decide +kernel) hfm | exact fok (by decide +kernel) hfm | exact fall (by decide +kernel) hfm | exact fokIx (by decide +kernel) hfm | exact fokAll (by decide +kernel) hfm | refine Mask.ok_ite ?_ ?_ | refine faultsOf_ok ?_ ?_ | (intro a; refine (fun ha : Keeps fm r0 a => ?_) ?_; clear_value a; rotate_left; dsimp only [a]; rotate_right) | lift_lets -underBinder | apply Keeps.ite | apply closeFor_keeps | apply afterAck_keeps | apply wr_keeps | apply setAck_keeps

theorem execEpochTimeout_keeps {fm : Nat} {r0 : State}  {s : State} (hfm : Mask.le 0x190000002400000000000000000000000000000000000000000000000840030 fm = true) (h0 : Keeps fm r0 s)  : ∃ t1, (execEpochTimeout s) = .next t1 ∧ Keeps fm r0 t1 := by
  refine ⟨_, rfl, ?_⟩
  try lift_lets -underBinder
  with_reducible repeat' first | assumption | exact fpart (by decide +kernel) hfm | exact fle (by decide +kernel) hfm | exact fok (by decide +kernel) hfm | exact fall (by decide +kernel) hfm | exact fokIx (by decide +kernel) hfm | exact fokAll (by decide +kernel) hfm | refine Mask.ok_ite ?_ ?_ | refine faultsOf_ok ?_ ?_ | (intro a; refine (fun ha : Keeps fm r0 a => ?_) ?_; clear_value a; rotate_left; dsimp only [a]; rotate_right) | lift_lets -underBinder | apply Keeps.ite | apply orderRevert_keeps | apply wrBytes_keeps | apply sendMsg_keeps

theorem execEpochRecordWritten_keeps {fm : Nat} {r0 : State}  {s : State} (hfm : Mask.le 0x1ffffffffffffffffffffffffffffffffffffffffffffffffffffffffffffffffffffffffffffffffffffffffffffffffffffffffffffffffffffffffffffffffffffffffffffffffffffffffffffffffffffffffffe857932 fm = true) (h0 : Keeps fm r0 s)  : ∃ t1, (execEpochRecordWritten s) = .next t1 ∧ Keeps fm r0 t1 := by
  refine ⟨_, rfl, ?_⟩
  with_reducible repeat' first | assumption | exact fpart (by decide +kernel) hfm | exact fle (by decide +kernel) hfm | exact fok (by decide +kernel) hfm | exact fall (by decide +kernel) hfm | exact fokIx (by decide +kernel) hfm | exact fokAll (by decide +kernel) hfm | refine Mask.ok_ite ?_ ?_ | refine faultsOf_ok ?_ ?_ | apply Keeps.ite | apply tryComplete_keeps | apply modEp_keeps

theorem execEpochRevertDone_keeps {fm : Nat} {r0 : State}  {s : State} (hfm : Mask.le 0xc0000000800000000000000000000000000010c00000000000000000000000000000000000000000000000110010 fm = true) (h0 : Keeps fm r0 s)  : ∃ t1, (execEpochRevertDone s) = .next t1 ∧ Keeps fm r0 t1 := by
  refine ⟨_, rfl, ?_⟩
  try lift_lets -underBinder
  with_reducible repeat' first | assumption | exact fpart (by decide +kernel) hfm | exact fle (by decide +kernel) hfm | exact fok (by decide +kernel) hfm | exact fall (by decide +kernel) hfm | exact fokIx (by decide +kernel) hfm | exact fokAll (by decide +kernel) hfm | refine Mask.ok_ite ?_ ?_ | refine faultsOf_ok ?_ ?_ | refine fun _ _ (_ : Keeps fm r0 _) => ?_ | (intro a; refine (fun ha : Keeps fm r0 a => ?_) ?_; clear_value a; rotate_left; dsimp only [a]; rotate_right) | (intro a; clear_value a) | lift_lets -underBinder | apply Keeps.ite | apply toIdle_keeps | apply wr_keeps | apply wrB_keeps | apply Keeps.forRange | fail_if_no_progress (apply Keeps.upd <;> try first | exact Or.inr (fpart (by decide +kernel) hfm) | exact Or.inl rfl) | split

theorem execEpochCommitAckTimeout_keeps {fm : Nat} {r0 : State}  {s : State} (hfm : Mask.le 0x400000000000000000000000000000000000000000000000000010 fm = true) (h0 : Keeps fm r0 s)  : ∃ t1, (execEpochCommitAckTimeout s) = .next t1 ∧ Keeps fm r0 t1 := by
  refine ⟨_, rfl, ?_⟩
  with_reducible repeat' first | assumption | exact fpart (by decide +kernel) hfm | exact fle (by decide +kernel) hfm | exact fok (by decide +kernel) hfm | exact fall (by decide +kernel) hfm | exact fokIx (by decide +kernel) hfm | exact fokAll (by decide +kernel) hfm | refine Mask.ok_ite ?_ ?_ | refine faultsOf_ok ?_ ?_ | apply Keeps.ite | apply modEp_keeps | apply orderRevert_keeps

theorem execEpochPrepare_keeps {fm : Nat} {r0 : State}  {p : Nat} {change : List ChangeItem} {s : State} (hfm : Mask.le 0x20000000001f00000000000000000000000000000000000c0000000000000014000000000000190000002c00000000000000000000000000000000000000020000040855830 fm = true) (h0 : Keeps fm r0 s)  : ∃ t1, (execEpochPrepare p change s) = .next t1 ∧ Keeps fm r0 t1 := by
  refine ⟨_, rfl, ?_⟩
  try lift_lets -underBinder
  with_reducible repeat' first | assumption | exact fpart (by decide +kernel) hfm | exact fle (by decide +kernel) hfm | exact fok (by decide +kernel) hfm | exact fall (by decide +kernel) hfm | exact fokIx (by decide +kernel) hfm | exact fokAll (by decide +kernel) hfm | refine Mask.ok_ite ?_ ?_ | refine faultsOf_ok ?_ ?_ | (intro a; refine (fun ha : Keeps fm r0 a => ?_) ?_; clear_value a; rotate_left; dsimp only [a]; rotate_right) | (intro a; clear_value a) | lift_lets -underBinder | apply Keeps.ite | apply startEpoch_keeps | apply leaveIdle_keeps | apply modEp_keeps | apply wr_keeps | fail_if_no_progress (apply Keeps.upd <;> try first | exact Or.inr (fpart (by decide +kernel) hfm) | exact Or.inl rfl)

theorem execEpochPrepared_keeps {fm : Nat} {r0 : State}  {p : Nat} {s : State} (hfm : Mask.le 0x80000000000000000000000000000190000000400000000000000000000000000000000000000000000000840030 fm = true) (h0 : Keeps fm r0 s)  : ∃ t1, (execEpochPrepared p s) = .next t1 ∧ Keeps fm r0 t1 := by
  refine ⟨_, rfl, ?_⟩
  with_reducible repeat' first | assumption | exact fpart (by decide +kernel) hfm | exact fle (by decide +kernel) hfm | exact fok (by decide +kernel) hfm | exact fall (by decide +kernel) hfm | exact fokIx (by decide +kernel) hfm | exact fokAll (by decide +kernel) hfm | refine Mask.ok_ite ?_ ?_ | refine faultsOf_ok ?_ ?_ | apply Keeps.ite | apply afterAck_keeps | apply setAck_keeps

theorem execEpochCommitMessage_keeps {fm : Nat} {r0 : State}  {p : Nat} {s : State} (hfm : Mask.le 0x190000000400000000000000000000000000000000000000000000000840030 fm = true) (h0 : Keeps fm r0 s)  : ∃ t1, (execEpochCommitMessage p s) = .next t1 ∧ Keeps fm r0 t1 := by
  refine ⟨_, rfl, ?_⟩
  with_reducible repeat' first | assumption | exact fpart (by decide +kernel) hfm | exact fle (by decide +kernel) hfm | exact fok (by decide +kernel) hfm | exact fall (by decide +kernel) hfm | exact fokIx (by decide +kernel) hfm | exact fokAll (by decide +kernel) hfm | refine Mask.ok_ite ?_ ?_ | refine faultsOf_ok ?_ ?_ | apply Keeps.ite | apply toCommitting_keeps

theorem execEpochAbort_keeps {fm : Nat} {r0 : State}  {p : Nat} {s : State} (hfm : Mask.le 0x400000000000000000000000000000000000000000000000000010 fm = true) (h0 : Keeps fm r0 s)  : ∃ t1, (execEpochAbort p s) = .next t1 ∧ Keeps fm r0 t1 := by
  refine ⟨_, rfl, ?_⟩
  with_reducible repeat' first | assumption | exact fpart (by decide +kernel) hfm | exact fle (by decide +kernel) hfm | exact fok (by decide +kernel) hfm | exact fall (by decide +kernel) hfm | exact fokIx (by decide +kernel) hfm | exact fokAll (by decide +kernel) hfm | refine Mask.ok_ite ?_ ?_ | refine faultsOf_ok ?_ ?_ | apply Keeps.ite | apply orderRevert_keeps

theorem completeOrphan_keeps {fm : Nat} {r0 : State}  {s : State} (hfm : Mask.le 0x190000000400000000000000000000000000000000000000000000000840030 fm = true) (h0 : Keeps fm r0 s)  : Keeps fm r0 (completeOrphan s) := by
  unfold completeOrphan
  with_reducible repeat' first | assumption | exact fpart (by decide +kernel) hfm | exact fle (by decide +kernel) hfm | exact fok (by decide +kernel) hfm | exact fall (by decide +kernel) hfm | exact fokIx (by decide +kernel) hfm | exact fokAll (by decide +kernel) hfm | refine Mask.ok_ite ?_ ?_ | refine faultsOf_ok ?_ ?_ | apply Keeps.ite | apply toCommitting_keeps

/-! ## Fence -/

theorem setFence_keeps {fm : Nat} {r0 : State}  {s : State} {b : Nat} {on : Bool} (hfm : Mask.le 0x10000000000000000000000000000000000000000000 fm = true) (h0 : Keeps fm r0 s)  : Keeps fm r0 (setFence s b on) := by
  unfold setFence
  with_reducible repeat' first | assumption | exact fpart (by decide +kernel) hfm | exact fle (by decide +kernel) hfm | exact fok (by decide +kernel) hfm | exact fall (by decide +kernel) hfm | exact fokIx (by decide +kernel) hfm | exact fokAll (by decide +kernel) hfm | refine Mask.ok_ite ?_ ?_ | refine faultsOf_ok ?_ ?_ | apply wr_keeps

theorem notePair_keeps {fm : Nat} {r0 : State}  {s : State} (hfm : Mask.le 0x200000000000000000000000000000000000000000 fm = true) (h0 : Keeps fm r0 s)  : Keeps fm r0 (notePair s) := by
  unfold notePair
  with_reducible repeat' first | assumption | exact fpart (by decide +kernel) hfm | exact fle (by decide +kernel) hfm | exact fok (by decide +kernel) hfm | exact fall (by decide +kernel) hfm | exact fokIx (by decide +kernel) hfm | exact fokAll (by decide +kernel) hfm | refine Mask.ok_ite ?_ ?_ | refine faultsOf_ok ?_ ?_ | apply wr_keeps

theorem leavePair_keeps {fm : Nat} {r0 : State}  {s : State} (hfm : Mask.le 0x200000000000000000000000000000000000041800 fm = true) (h0 : Keeps fm r0 s)  : Keeps fm r0 (leavePair s) := by
  unfold leavePair
  try lift_lets -underBinder
  with_reducible repeat' first | assumption | exact fpart (by decide +kernel) hfm | exact fle (by decide +kernel) hfm | exact fok (by decide +kernel) hfm | exact fall (by decide +kernel) hfm | exact fokIx (by decide +kernel) hfm | exact fokAll (by decide +kernel) hfm | refine Mask.ok_ite ?_ ?_ | refine faultsOf_ok ?_ ?_ | (intro a; refine (fun ha : Keeps fm r0 a => ?_) ?_; clear_value a; rotate_left; dsimp only [a]; rotate_right) | apply modPair_keeps | apply notePair_keeps | fail_if_no_progress (apply Keeps.upd <;> try first | exact Or.inr (fpart (by decide +kernel) hfm) | exact Or.inl rfl)

theorem discardCmd_keeps {fm : Nat} {r0 : State}  {s : State} {id : Nat} (hfm : Mask.le 0x14000000000000000000000000000000000000000000000000000000000000020000040804020 fm = true) (h0 : Keeps fm r0 s)  : Keeps fm r0 (discardCmd s id) := by
  unfold discardCmd
  with_reducible repeat' first | assumption | exact fpart (by decide +kernel) hfm | exact fle (by decide +kernel) hfm | exact fok (by decide +kernel) hfm | exact fall (by decide +kernel) hfm | exact fokIx (by decide +kernel) hfm | exact fokAll (by decide +kernel) hfm | refine Mask.ok_ite ?_ ?_ | refine faultsOf_ok ?_ ?_ | apply endCmd_keeps

theorem discardQueued_keeps {fm : Nat} {r0 : State}  {s : State} {p : Nat} (hfm : Mask.le 0x14000000000000000000000000000000000000000000000000000000000000020000040804020 fm = true) (h0 : Keeps fm r0 s)  : Keeps fm r0 (discardQueued s p) := by
  unfold discardQueued
  with_reducible repeat' first | assumption | exact fpart (by decide +kernel) hfm | exact fle (by decide +kernel) hfm | exact fok (by decide +kernel) hfm | exact fall (by decide +kernel) hfm | exact fokIx (by decide +kernel) hfm | exact fokAll (by decide +kernel) hfm | refine Mask.ok_ite ?_ ?_ | refine faultsOf_ok ?_ ?_ | refine fun _ _ (_ : Keeps fm r0 _) => ?_ | apply discardCmd_keeps | apply Keeps.forEach

theorem haltPool_keeps {fm : Nat} {r0 : State}  {s : State} {p : Nat} (hfm : Mask.le 0x10000000000200000000000000000000000000000000000000000000000000000000000000000000000000000000000000000000000000000000000000001800 fm = true) (h0 : Keeps fm r0 s)  : Keeps fm r0 (haltPool s p) := by
  unfold haltPool
  try lift_lets -underBinder
  with_reducible repeat' first | assumption | exact fpart (by decide +kernel) hfm | exact fle (by decide +kernel) hfm | exact fok (by decide +kernel) hfm | exact fall (by decide +kernel) hfm | exact fokIx (by decide +kernel) hfm | exact fokAll (by decide +kernel) hfm | refine Mask.ok_ite ?_ ?_ | refine faultsOf_ok ?_ ?_ | refine fun _ _ (_ : Keeps fm r0 _) => ?_ | (intro a; refine (fun ha : Keeps fm r0 a => ?_) ?_; clear_value a; rotate_left; dsimp only [a]; rotate_right) | lift_lets -underBinder | apply freeParity_keeps | apply noteStripes_keeps | apply modPool_keeps | apply Keeps.forEach

theorem yieldPool_keeps {fm : Nat} {r0 : State}  {s : State} {p : Nat} (hfm : Mask.le 0x50000000000700000000000000000000000000000000000000014000000000000190000000000000000000200001200000000000000000000020000040867ae0 fm = true) (h0 : Keeps fm r0 s)  : Keeps fm r0 (yieldPool s p) := by
  unfold yieldPool
  try lift_lets -underBinder
  with_reducible repeat' first | assumption | exact fpart (by decide +kernel) hfm | exact fle (by decide +kernel) hfm | exact fok (by decide +kernel) hfm | exact fall (by decide +kernel) hfm | exact fokIx (by decide +kernel) hfm | exact fokAll (by decide +kernel) hfm | refine Mask.ok_ite ?_ ?_ | refine faultsOf_ok ?_ ?_ | (intro a; refine (fun ha : Keeps fm r0 a => ?_) ?_; clear_value a; rotate_left; dsimp only [a]; rotate_right) | lift_lets -underBinder | apply Keeps.ite | apply fenceCmds_keeps | apply discardQueued_keeps | apply haltPool_keeps | apply modPair_keeps | apply notePair_keeps | apply wrB_keeps | apply wr_keeps

theorem modTk_keeps {fm : Nat} {r0 : State}  {s : State} {f : Takeover → Takeover} (hfm : Mask.le 0x40000 fm = true) (h0 : Keeps fm r0 s)  : Keeps fm r0 (modTk s f) := by
  unfold modTk
  with_reducible repeat' first | assumption | exact fpart (by decide +kernel) hfm | exact fle (by decide +kernel) hfm | exact fok (by decide +kernel) hfm | exact fall (by decide +kernel) hfm | exact fokIx (by decide +kernel) hfm | exact fokAll (by decide +kernel) hfm | refine Mask.ok_ite ?_ ?_ | refine faultsOf_ok ?_ ?_ | apply modPair_keeps

theorem tkStep_keeps {fm : Nat} {r0 : State}  {s : State} {n : Nat} (hfm : Mask.le 0x40000000000000000000000000000000000000040000 fm = true) (h0 : Keeps fm r0 s)  : Keeps fm r0 (tkStep s n) := by
  unfold tkStep
  with_reducible repeat' first | assumption | exact fpart (by decide +kernel) hfm | exact fle (by decide +kernel) hfm | exact fok (by decide +kernel) hfm | exact fall (by decide +kernel) hfm | exact fokIx (by decide +kernel) hfm | exact fokAll (by decide +kernel) hfm | refine Mask.ok_ite ?_ ?_ | refine faultsOf_ok ?_ ?_ | apply wr_keeps | apply modTk_keeps

theorem driveReq_keeps {fm : Nat} {r0 : State}  {s : State} {on : Bool} (hfm : Mask.le 0x10000000000000000000000000000000000000c00000 fm = true) (h0 : Keeps fm r0 s)  : Keeps fm r0 (driveReq s on) := by
  unfold driveReq
  with_reducible repeat' first | assumption | exact fpart (by decide +kernel) hfm | exact fle (by decide +kernel) hfm | exact fok (by decide +kernel) hfm | exact fall (by decide +kernel) hfm | exact fokIx (by decide +kernel) hfm | exact fokAll (by decide +kernel) hfm | refine Mask.ok_ite ?_ ?_ | refine faultsOf_ok ?_ ?_ | apply drive_keeps | apply setFence_keeps

theorem reserveOn_keeps {fm : Nat} {r0 : State}  {s : State} {p : Nat} {l : List Nat} (hfm : Mask.le 0x14000000000000000000000000000000000000000000000000000000000000020000040804020 fm = true) (h0 : Keeps fm r0 s)  : Keeps fm r0 (reserveOn s p l) := by
  unfold reserveOn
  with_reducible repeat' first | assumption | exact fpart (by decide +kernel) hfm | exact fle (by decide +kernel) hfm | exact fok (by decide +kernel) hfm | exact fall (by decide +kernel) hfm | exact fokIx (by decide +kernel) hfm | exact fokAll (by decide +kernel) hfm | refine Mask.ok_ite ?_ ?_ | refine faultsOf_ok ?_ ?_ | refine fun _ _ (_ : Keeps fm r0 _) => ?_ | apply issueTo_keeps | apply Keeps.forEach

theorem tkReserve_keeps {fm : Nat} {r0 : State}  {s : State} (hfm : Mask.le 0x14000000000000000000000000000000040000000000000000000000000000020000040844020 fm = true) (h0 : Keeps fm r0 s)  : Keeps fm r0 (tkReserve s) := by
  unfold tkReserve
  try lift_lets -underBinder
  with_reducible repeat' first | assumption | exact fpart (by decide +kernel) hfm | exact fle (by decide +kernel) hfm | exact fok (by decide +kernel) hfm | exact fall (by decide +kernel) hfm | exact fokIx (by decide +kernel) hfm | exact fokAll (by decide +kernel) hfm | refine Mask.ok_ite ?_ ?_ | refine faultsOf_ok ?_ ?_ | refine fun _ _ (_ : Keeps fm r0 _) => ?_ | (intro a; refine (fun ha : Keeps fm r0 a => ?_) ?_; clear_value a; rotate_left; dsimp only [a]; rotate_right) | lift_lets -underBinder | apply modTk_keeps | apply tkStep_keeps | apply reserveOn_keeps | apply Keeps.forEach | split

theorem startTakeover_keeps {fm : Nat} {r0 : State}  {s : State} {cause : Nat} (hfm : Mask.le 0x140000000000000000000000000000000d0200000000000000000000000000020000040c45820 fm = true) (h0 : Keeps fm r0 s)  : Keeps fm r0 (startTakeover s cause) := by
  unfold startTakeover
  try lift_lets -underBinder
  with_reducible repeat' first | assumption | exact fpart (by decide +kernel) hfm | exact fle (by decide +kernel) hfm | exact fok (by decide +kernel) hfm | exact fall (by decide +kernel) hfm | exact fokIx (by decide +kernel) hfm | exact fokAll (by decide +kernel) hfm | refine Mask.ok_ite ?_ ?_ | refine faultsOf_ok ?_ ?_ | (intro a; refine (fun ha : Keeps fm r0 a => ?_) ?_; clear_value a; rotate_left; dsimp only [a]; rotate_right) | (intro a; clear_value a) | lift_lets -underBinder | apply Keeps.ite | apply modPair_keeps | apply driveReq_keeps | apply wr_keeps | apply notePair_keeps | apply tkStep_keeps | apply leavePair_keeps | apply tkReserve_keeps

theorem releaseReq_keeps {fm : Nat} {r0 : State}  {s : State} (hfm : Mask.le 0x10000000000000000000000000000000000000c00000 fm = true) (h0 : Keeps fm r0 s)  : Keeps fm r0 (releaseReq s) := by
  unfold releaseReq
  with_reducible repeat' first | assumption | exact fpart (by decide +kernel) hfm | exact fle (by decide +kernel) hfm | exact fok (by decide +kernel) hfm | exact fall (by decide +kernel) hfm | exact fokIx (by decide +kernel) hfm | exact fokAll (by decide +kernel) hfm | refine Mask.ok_ite ?_ ?_ | refine faultsOf_ok ?_ ?_ | apply driveReq_keeps

theorem abandonTakeover_keeps {fm : Nat} {r0 : State}  {s : State} (hfm : Mask.le 0x50200000000000000000000000000000000000c40000 fm = true) (h0 : Keeps fm r0 s)  : Keeps fm r0 (abandonTakeover s) := by
  unfold abandonTakeover
  with_reducible repeat' first | assumption | exact fpart (by decide +kernel) hfm | exact fle (by decide +kernel) hfm | exact fok (by decide +kernel) hfm | exact fall (by decide +kernel) hfm | exact fokIx (by decide +kernel) hfm | exact fokAll (by decide +kernel) hfm | refine Mask.ok_ite ?_ ?_ | refine faultsOf_ok ?_ ?_ | apply notePair_keeps | apply wr_keeps | apply modPair_keeps | apply releaseReq_keeps

theorem tkYield_keeps {fm : Nat} {r0 : State}  {s : State} {p : Nat} (hfm : Mask.le 0x40000 fm = true) (h0 : Keeps fm r0 s)  : Keeps fm r0 (tkYield s p) := by
  unfold tkYield
  with_reducible repeat' first | assumption | exact fpart (by decide +kernel) hfm | exact fle (by decide +kernel) hfm | exact fok (by decide +kernel) hfm | exact fall (by decide +kernel) hfm | exact fokIx (by decide +kernel) hfm | exact fokAll (by decide +kernel) hfm | refine Mask.ok_ite ?_ ?_ | refine faultsOf_ok ?_ ?_ | apply modTk_keeps

theorem endTakeover_keeps {fm : Nat} {r0 : State}  {s : State} (hfm : Mask.le 0x40200000000000000000000000000000000000040000 fm = true) (h0 : Keeps fm r0 s)  : Keeps fm r0 (endTakeover s) := by
  unfold endTakeover
  with_reducible repeat' first | assumption | exact fpart (by decide +kernel) hfm | exact fle (by decide +kernel) hfm | exact fok (by decide +kernel) hfm | exact fall (by decide +kernel) hfm | exact fokIx (by decide +kernel) hfm | exact fokAll (by decide +kernel) hfm | refine Mask.ok_ite ?_ ?_ | refine faultsOf_ok ?_ ?_ | apply notePair_keeps | apply wr_keeps | apply modPair_keeps

theorem settleOwnership_keeps {fm : Nat} {r0 : State}  {s : State} {last : Bool} (hfm : Mask.le 0x30080000000000000000000000000000000000000000000000000000000000000000001400000000017c000000000000000004040200000000000000000000000000020000040844120 fm = true) (h0 : Keeps fm r0 s)  : Keeps fm r0 (settleOwnership s last) := by
  unfold settleOwnership
  try lift_lets -underBinder
  with_reducible repeat' first | assumption | exact fpart (by decide +kernel) hfm | exact fle (by decide +kernel) hfm | exact fok (by decide +kernel) hfm | exact fall (by decide +kernel) hfm | exact fokIx (by decide +kernel) hfm | exact fokAll (by decide +kernel) hfm | refine Mask.ok_ite ?_ ?_ | refine faultsOf_ok ?_ ?_ | refine fun _ _ (_ : Keeps fm r0 _) => ?_ | (intro a; refine (fun ha : Keeps fm r0 a => ?_) ?_; clear_value a; rotate_left; dsimp only [a]; rotate_right) | (intro a; clear_value a) | lift_lets -underBinder | apply Keeps.ite | apply tkYield_keeps | apply bump_keeps | apply raiseOpen_keeps | apply endTakeover_keeps | apply tkStep_keeps | apply reserveOn_keeps | apply Keeps.forEach | split

theorem tkSupers_keeps {fm : Nat} {r0 : State}  {s : State} {p : Nat} (hfm : Mask.le 0x14000000000000000000000000000000000000000000000000000000000000020000040804020 fm = true) (h0 : Keeps fm r0 s)  : Keeps fm r0 (tkSupers s p) := by
  unfold tkSupers
  with_reducible repeat' first
    | assumption
    | exact fpart (by decide +kernel) hfm
    | exact fle (by decide +kernel) hfm
    | exact fok (by decide +kernel) hfm
    | exact fall (by decide +kernel) hfm
    | exact fokIx (by decide +kernel) hfm
    | exact fokAll (by decide +kernel) hfm
    | refine Mask.ok_ite ?_ ?_
    | refine faultsOf_ok ?_ ?_
    | refine fun _ (_ : Keeps fm r0 _) => ?_
    | refine fun _ _ (_ : Keeps fm r0 _) => ?_
    | refine fun _ _ _ (_ : Keeps fm r0 _) => ?_
    | exact KeepsO.get rfl (by assumption)
    | exact KeepsP.get rfl (by assumption)
    | apply Keeps.ite
    | apply issue_keeps
    | apply Keeps.forEach
    | apply Keeps.forRange
    | apply Keeps.foldl
    | apply Keeps.foldl_fst
    | apply Keeps.foldl_snd
    | exact KeepsO.none
    | exact KeepsP.none
    | apply KeepsO.some
    | apply KeepsP.some
    | apply KeepsO.ite
    | apply KeepsP.ite
    | refine KeepsO.foldl _ _ ?_ (fun _ _ _ => ?_)
    | exact KeepsF.lost
    | apply KeepsF.started
    | apply KeepsF.ite
    | fail_if_no_progress (apply Keeps.upd <;> try first | exact Or.inr (fpart (by decide +kernel) hfm) | exact Or.inl rfl)
    | fail_if_no_progress (apply Keeps.updDict <;> try first | exact Or.inr (fpart (by decide +kernel) hfm) | exact Or.inl rfl)
    | refine Keeps.updRegs (rg := Tbl.filterK _ _) ?_ (Tbl.wf_filterK _) (Tbl.wf_filterK _)
    | refine Keeps.updRegs (rg := Tbl.filterK _ _) ?_ (Tbl.wf_filterK _) id
    | split
    | refine Keeps.of_snd (by assumption) ?_
    | refine Keeps.of_fst (by assumption) ?_
    | refine KeepsO.get (by assumption) ?_
    | refine KeepsP.get (by assumption) ?_
    | refine KeepsF.get (by assumption) ?_

theorem tkAdopt_keeps {fm : Nat} {r0 : State}  {s : State} {p : Nat} (hfm : Mask.le 0x30080000000000000000000000000000000000000000000000000000000000000000001400000001017c19000000000780000000000000007c0003f0000000023e1f8200200408453a0 fm = true) (h0 : Keeps fm r0 s)  : Keeps fm r0 (tkAdopt s p) := by
  unfold tkAdopt
  with_reducible repeat' first | assumption | exact fpart (by decide +kernel) hfm | exact fle (by decide +kernel) hfm | exact fok (by decide +kernel) hfm | exact fall (by decide +kernel) hfm | exact fokIx (by decide +kernel) hfm | exact fokAll (by decide +kernel) hfm | refine Mask.ok_ite ?_ ?_ | refine faultsOf_ok ?_ ?_ | apply writeSuper_keeps | apply adoptSuper_keeps | split

theorem tkRecover_keeps {fm : Nat} {r0 : State}  {s : State} {p : Nat} {media : List MediaItem} (hfm : Mask.le 0x300800c000000000001a0000000000000000000000000000000000000000000000000000008618b0017c000000000000000000000000000080000000000000000000600000000821520 fm = true) (h0 : Keeps fm r0 s)  : Keeps fm r0 (tkRecover s p media) := by
  unfold tkRecover
  try lift_lets -underBinder
  with_reducible repeat' first | assumption | exact fpart (by decide +kernel) hfm | exact fle (by decide +kernel) hfm | exact fok (by decide +kernel) hfm | exact fall (by decide +kernel) hfm | exact fokIx (by decide +kernel) hfm | exact fokAll (by decide +kernel) hfm | refine Mask.ok_ite ?_ ?_ | refine faultsOf_ok ?_ ?_ | (intro a; refine (fun ha : Keeps fm r0 a.1 => ?_) ?_; clear_value a; rotate_left; dsimp only [a]; rotate_right) | lift_lets -underBinder | apply Keeps.ite | apply recoverPool_keeps | apply setCond_keeps

theorem adoptSlot_keeps {fm : Nat} {r0 : State}  {s : State} {n : Nat} (hfm : Mask.le 0x800 fm = true) (h0 : Keeps fm r0 s)  : Keeps fm r0 (adoptSlot s n) := by
  unfold adoptSlot
  try lift_lets -underBinder
  with_reducible repeat' first | assumption | exact fpart (by decide +kernel) hfm | exact fle (by decide +kernel) hfm | exact fok (by decide +kernel) hfm | exact fall (by decide +kernel) hfm | exact fokIx (by decide +kernel) hfm | exact fokAll (by decide +kernel) hfm | refine Mask.ok_ite ?_ ?_ | refine faultsOf_ok ?_ ?_ | (intro a; clear_value a) | lift_lets -underBinder | apply Keeps.ite | fail_if_no_progress (apply Keeps.upd <;> try first | exact Or.inr (fpart (by decide +kernel) hfm) | exact Or.inl rfl) | split

theorem settleMirror_keeps {fm : Nat} {r0 : State}  {s : State} {p : Nat} (hfm : Mask.le 0x300801c002000000021f000000000070000000010000000000000000000000000000001400860080017c190000000000000000000000000080000000000000000000020000040877d20 fm = true) (h0 : Keeps fm r0 s)  : Keeps fm r0 (settleMirror s p) := by
  unfold settleMirror
  try lift_lets -underBinder
  with_reducible repeat' first | assumption | exact fpart (by decide +kernel) hfm | exact fle (by decide +kernel) hfm | exact fok (by decide +kernel) hfm | exact fall (by decide +kernel) hfm | exact fokIx (by decide +kernel) hfm | exact fokAll (by decide +kernel) hfm | refine Mask.ok_ite ?_ ?_ | refine faultsOf_ok ?_ ?_ | refine fun _ _ (_ : Keeps fm r0 _) => ?_ | (intro a; refine (fun ha : Keeps fm r0 a => ?_) ?_; clear_value a; rotate_left; dsimp only [a]; rotate_right) | (intro a; clear_value a) | lift_lets -underBinder | apply noteSlots_keeps | apply adoptSlot_keeps | apply modPair_keeps | apply settleSlots_keeps | apply Keeps.forEach | fail_if_no_progress (apply Keeps.upd <;> try first | exact Or.inr (fpart (by decide +kernel) hfm) | exact Or.inl rfl)

theorem tkServe_keeps {fm : Nat} {r0 : State}  {s : State} {p : Nat} (hfm : Mask.le 0x200000000000000000000000000000000000 fm = true) (h0 : Keeps fm r0 s)  : Keeps fm r0 (tkServe s p) := by
  unfold tkServe
  with_reducible repeat' first | assumption | exact fpart (by decide +kernel) hfm | exact fle (by decide +kernel) hfm | exact fok (by decide +kernel) hfm | exact fall (by decide +kernel) hfm | exact fokIx (by decide +kernel) hfm | exact fokAll (by decide +kernel) hfm | refine Mask.ok_ite ?_ ?_ | refine faultsOf_ok ?_ ?_ | apply wr_keeps

theorem tkAdvance_keeps {fm : Nat} {r0 : State}  {s : State} {media : List MediaItem} (hfm : Mask.le 0x800000000000300801d002000000027f0000000000700000000320000000000000000031000000000014008e1cf1017c1900000004078000001402000002fc0003f0000000023e1fe20020040877fb0 fm = true) (h0 : Keeps fm r0 s)  : Keeps fm r0 (tkAdvance s media) := by
  unfold tkAdvance
  try lift_lets -underBinder
  with_reducible repeat' first | assumption | exact fpart (by decide +kernel) hfm | exact fle (by decide +kernel) hfm | exact fok (by decide +kernel) hfm | exact fall (by decide +kernel) hfm | exact fokIx (by decide +kernel) hfm | exact fokAll (by decide +kernel) hfm | refine Mask.ok_ite ?_ ?_ | refine faultsOf_ok ?_ ?_ | refine fun _ _ (_ : Keeps fm r0 _) => ?_ | (intro a; refine (fun ha : Keeps fm r0 a => ?_) ?_; clear_value a; rotate_left; dsimp only [a]; rotate_right) | lift_lets -underBinder | apply Keeps.ite | apply tkStep_keeps | apply tkSupers_keeps | apply completeOrphan_keeps | apply tkAdopt_keeps | apply tkRecover_keeps | apply settleMirror_keeps | apply reserveAll_keeps | apply settleSlots_keeps | apply settleSegs_keeps | apply serve_keeps | apply noteHolds_keeps | apply tkServe_keeps | apply endTakeover_keeps | apply wr_keeps | apply Keeps.forEach | split

theorem startContest_keeps {fm : Nat} {r0 : State}  {s : State} {p : Nat} (hfm : Mask.le 0x14000000000000000000000000000000000000000000000000000000000000020000040844020 fm = true) (h0 : Keeps fm r0 s)  : Keeps fm r0 (startContest s p) := by
  unfold startContest
  try lift_lets -underBinder
  with_reducible repeat' first | assumption | exact fpart (by decide +kernel) hfm | exact fle (by decide +kernel) hfm | exact fok (by decide +kernel) hfm | exact fall (by decide +kernel) hfm | exact fokIx (by decide +kernel) hfm | exact fokAll (by decide +kernel) hfm | refine Mask.ok_ite ?_ ?_ | refine faultsOf_ok ?_ ?_ | refine fun _ _ (_ : Keeps fm r0 _) => ?_ | (intro a; clear_value a) | lift_lets -underBinder | apply Keeps.ite | apply issueTo_keeps | apply modPair_keeps | apply Keeps.forEach

theorem resumeDelayed_keeps {fm : Nat} {r0 : State}  {s : State} {p : Nat} (hfm : Mask.le 0x14000000000000000000000000000000000000000000000000000000000000020000040804020 fm = true) (h0 : Keeps fm r0 s)  : Keeps fm r0 (resumeDelayed s p) := by
  unfold resumeDelayed
  with_reducible repeat' first | assumption | exact fpart (by decide +kernel) hfm | exact fle (by decide +kernel) hfm | exact fok (by decide +kernel) hfm | exact fall (by decide +kernel) hfm | exact fokIx (by decide +kernel) hfm | exact fokAll (by decide +kernel) hfm | refine Mask.ok_ite ?_ ?_ | refine faultsOf_ok ?_ ?_ | refine fun _ _ (_ : Keeps fm r0 _) => ?_ | apply place_keeps | apply Keeps.forEach

theorem endContest_keeps {fm : Nat} {r0 : State}  {s : State} {p : Nat} {x : Contest} (hfm : Mask.le 0x50000000000700000000000000000000000000000000000000014000000000000190000000000000004000200001200000000000000000000020000040867ae0 fm = true) (h0 : Keeps fm r0 s)  : Keeps fm r0 (endContest s p x) := by
  unfold endContest
  try lift_lets -underBinder
  with_reducible repeat' first | assumption | exact fpart (by decide +kernel) hfm | exact fle (by decide +kernel) hfm | exact fok (by decide +kernel) hfm | exact fall (by decide +kernel) hfm | exact fokIx (by decide +kernel) hfm | exact fokAll (by decide +kernel) hfm | refine Mask.ok_ite ?_ ?_ | refine faultsOf_ok ?_ ?_ | (intro a; refine (fun ha : Keeps fm r0 a => ?_) ?_; clear_value a; rotate_left; dsimp only [a]; rotate_right) | (intro a; clear_value a) | lift_lets -underBinder | apply Keeps.ite | apply modPair_keeps | apply yieldPool_keeps | apply bump_keeps | apply resumeDelayed_keeps | apply reserveOn_keeps

theorem reportAnswer_keeps {fm : Nat} {r0 : State}  {s : State} {p : Nat} {m : Nat} {holder : Option Nat} (hfm : Mask.le 0x50000000000700000000000000000000000000000000000000014000000000000190000000000000004000200001200000000000000000000020000040867ae0 fm = true) (h0 : Keeps fm r0 s)  : Keeps fm r0 (reportAnswer s p m holder) := by
  unfold reportAnswer
  try lift_lets -underBinder
  with_reducible repeat' first | assumption | exact fpart (by decide +kernel) hfm | exact fle (by decide +kernel) hfm | exact fok (by decide +kernel) hfm | exact fall (by decide +kernel) hfm | exact fokIx (by decide +kernel) hfm | exact fokAll (by decide +kernel) hfm | refine Mask.ok_ite ?_ ?_ | refine faultsOf_ok ?_ ?_ | (intro a; clear_value a) | lift_lets -underBinder | apply Keeps.ite | apply endContest_keeps | apply modPair_keeps | split

theorem setHv_keeps {fm : Nat} {r0 : State}  {s : State} {p : Nat} {n : Nat} (hfm : Mask.le 0x40000 fm = true) (h0 : Keeps fm r0 s)  : Keeps fm r0 (setHv s p n) := by
  unfold setHv
  with_reducible repeat' first | assumption | exact fpart (by decide +kernel) hfm | exact fle (by decide +kernel) hfm | exact fok (by decide +kernel) hfm | exact fall (by decide +kernel) hfm | exact fokIx (by decide +kernel) hfm | exact fokAll (by decide +kernel) hfm | refine Mask.ok_ite ?_ ?_ | refine faultsOf_ok ?_ ?_ | apply modPair_keeps

theorem endHv_keeps {fm : Nat} {r0 : State}  {s : State} {p : Nat} {result : Nat} (hfm : Mask.le 0x4000000000000000000000000000000040000 fm = true) (h0 : Keeps fm r0 s)  : Keeps fm r0 (endHv s p result) := by
  unfold endHv
  with_reducible repeat' first | assumption | exact fpart (by decide +kernel) hfm | exact fle (by decide +kernel) hfm | exact fok (by decide +kernel) hfm | exact fall (by decide +kernel) hfm | exact fokIx (by decide +kernel) hfm | exact fokAll (by decide +kernel) hfm | refine Mask.ok_ite ?_ ?_ | refine faultsOf_ok ?_ ?_ | apply wr_keeps | apply modPair_keeps

theorem startHandover_keeps {fm : Nat} {r0 : State}  {s : State} {p : Nat} (hfm : Mask.le 0x4000000000000000000000000000000040000 fm = true) (h0 : Keeps fm r0 s)  : Keeps fm r0 (startHandover s p) := by
  unfold startHandover
  with_reducible repeat' first | assumption | exact fpart (by decide +kernel) hfm | exact fle (by decide +kernel) hfm | exact fok (by decide +kernel) hfm | exact fall (by decide +kernel) hfm | exact fokIx (by decide +kernel) hfm | exact fokAll (by decide +kernel) hfm | refine Mask.ok_ite ?_ ?_ | refine faultsOf_ok ?_ ?_ | apply Keeps.ite | apply wr_keeps | apply setHv_keeps

theorem hvOwner_keeps {fm : Nat} {r0 : State}  {s : State} {p : Nat} (hfm : Mask.le 0x1f0000000000000000000000000000000000000000000000000014000000000000190000000000000000000000000000000000000000000000020000040845820 fm = true) (h0 : Keeps fm r0 s)  : Keeps fm r0 (hvOwner s p) := by
  unfold hvOwner
  try lift_lets -underBinder
  with_reducible repeat' first | assumption | exact fpart (by decide +kernel) hfm | exact fle (by decide +kernel) hfm | exact fok (by decide +kernel) hfm | exact fall (by decide +kernel) hfm | exact fokIx (by decide +kernel) hfm | exact fokAll (by decide +kernel) hfm | refine Mask.ok_ite ?_ ?_ | refine faultsOf_ok ?_ ?_ | refine fun _ _ (_ : Keeps fm r0 _) => ?_ | (intro a; clear_value a) | lift_lets -underBinder | apply Keeps.ite | apply setHv_keeps | apply forceWhere_keeps | apply startCkpt_keeps | apply issueTo_keeps | apply sendMsg_keeps | apply Keeps.forEach

theorem hvPartner_keeps {fm : Nat} {r0 : State}  {s : State} {p : Nat} {media : List MediaItem} (hfm : Mask.le 0x800000000000300801d002000000027f0000000000700000000320000000000000000031000000000014008e1cf1017c1900000000078000000002000012fc0003f0000000023e1fe20020040877fa0 fm = true) (h0 : Keeps fm r0 s)  : Keeps fm r0 (hvPartner s p media) := by
  unfold hvPartner
  try lift_lets -underBinder
  with_reducible repeat' first | assumption | exact fpart (by decide +kernel) hfm | exact fle (by decide +kernel) hfm | exact fok (by decide +kernel) hfm | exact fall (by decide +kernel) hfm | exact fokIx (by decide +kernel) hfm | exact fokAll (by decide +kernel) hfm | refine Mask.ok_ite ?_ ?_ | refine faultsOf_ok ?_ ?_ | (intro a; refine (fun ha : Keeps fm r0 a => ?_) ?_; clear_value a; rotate_left; dsimp only [a]; rotate_right) | (intro a; clear_value a) | lift_lets -underBinder | apply Keeps.ite | apply tkSupers_keeps | apply setHv_keeps | apply tkAdopt_keeps | apply tkRecover_keeps | apply noteHolds_keeps | apply settleSlots_keeps | apply settleSegs_keeps | apply serve_keeps | apply sendMsg_keeps | apply modPair_keeps | apply notePair_keeps | apply takeRole_keeps

theorem hvFails_keeps {fm : Nat} {r0 : State}  {s : State} {p : Nat} (hfm : Mask.le 0x14000000000000190000000000000000000000000000000000000000000000020000040844020 fm = true) (h0 : Keeps fm r0 s)  : Keeps fm r0 (hvFails s p) := by
  unfold hvFails
  try lift_lets -underBinder
  with_reducible repeat' first | assumption | exact fpart (by decide +kernel) hfm | exact fle (by decide +kernel) hfm | exact fok (by decide +kernel) hfm | exact fall (by decide +kernel) hfm | exact fokIx (by decide +kernel) hfm | exact fokAll (by decide +kernel) hfm | refine Mask.ok_ite ?_ ?_ | refine faultsOf_ok ?_ ?_ | refine fun _ _ (_ : Keeps fm r0 _) => ?_ | (intro a; refine (fun ha : Keeps fm r0 a => ?_) ?_; clear_value a; rotate_left; dsimp only [a]; rotate_right) | lift_lets -underBinder | apply Keeps.ite | apply issueTo_keeps | apply sendMsg_keeps | apply modPair_keeps | apply Keeps.forEach

theorem hvAdvance_keeps {fm : Nat} {r0 : State}  {s : State} {media : List MediaItem} (hfm : Mask.le 0x800000000000300801d002000000027f0000000000700000000320000000000000000031000000000014008e1cf1017c1900000000078000000002000012fc0003f0000000023e1fe20020040877fa0 fm = true) (h0 : Keeps fm r0 s)  : Keeps fm r0 (hvAdvance s media) := by
  unfold hvAdvance
  with_reducible repeat' first | assumption | exact fpart (by decide +kernel) hfm | exact fle (by decide +kernel) hfm | exact fok (by decide +kernel) hfm | exact fall (by decide +kernel) hfm | exact fokIx (by decide +kernel) hfm | exact fokAll (by decide +kernel) hfm | refine Mask.ok_ite ?_ ?_ | refine faultsOf_ok ?_ ?_ | refine fun _ _ (_ : Keeps fm r0 _) => ?_ | apply Keeps.ite | apply hvOwner_keeps | apply hvPartner_keeps | apply Keeps.forEach

theorem reservationEnded_keeps {fm : Nat} {r0 : State}  {s : State} {p : Nat} {m : Nat} {op : MOp} {x : DrvStatus} {data : Bytes} (hfm : Mask.le 0x30080000000000000005000000000070000000000000000000000000000000000000001400000000017c190000000000000004040200001200000000000000000000020000040867be0 fm = true) (h0 : Keeps fm r0 s)  : Keeps fm r0 (reservationEnded s p m op x data) := by
  unfold reservationEnded
  try lift_lets -underBinder
  with_reducible repeat' first | assumption | exact fpart (by decide +kernel) hfm | exact fle (by decide +kernel) hfm | exact fok (by decide +kernel) hfm | exact fall (by decide +kernel) hfm | exact fokIx (by decide +kernel) hfm | exact fokAll (by decide +kernel) hfm | refine Mask.ok_ite ?_ ?_ | refine faultsOf_ok ?_ ?_ | (intro a; refine (fun ha : Keeps fm r0 a => ?_) ?_; clear_value a; rotate_left; dsimp only [a]; rotate_right) | (intro a; clear_value a) | lift_lets -underBinder | apply Keeps.ite | apply modDPort_keeps | apply reportAnswer_keeps | apply issueTo_keeps | apply hvFails_keeps | apply modTk_keeps | apply settleOwnership_keeps | apply resumeDelayed_keeps | apply startContest_keeps | split

theorem execTakeoverStepDone_keeps {fm : Nat} {r0 : State}  {id : Nat} {x : DrvStatus} {data : Bytes} {heads : List MediaItem} {media : List MediaItem} {s : State} (hfm : Mask.le 0x800000000000300801d002000000027f0000000000700000000320000000000000000031000000000014008e1cf1017c1900000004078000041402000012fc0003f0000000023e1fe20020040877ff0 fm = true) (h0 : Keeps fm r0 s)  : ∃ t1, (execTakeoverStepDone id x data heads media s) = .next t1 ∧ Keeps fm r0 t1 := by
  refine ⟨_, rfl, ?_⟩
  with_reducible repeat' first | assumption | exact fpart (by decide +kernel) hfm | exact fle (by decide +kernel) hfm | exact fok (by decide +kernel) hfm | exact fall (by decide +kernel) hfm | exact fokIx (by decide +kernel) hfm | exact fokAll (by decide +kernel) hfm | refine Mask.ok_ite ?_ ?_ | refine faultsOf_ok ?_ ?_ | apply reservationEnded_keeps | apply endCmd_keeps | apply hvAdvance_keeps | apply tkAdvance_keeps | split

theorem execPairTakeover_keeps {fm : Nat} {r0 : State}  {s : State} (hfm : Mask.le 0x140000000000000000000000000000000d0200000000000000000000000000020000040c45820 fm = true) (h0 : Keeps fm r0 s)  : ∃ t1, (execPairTakeover s) = .next t1 ∧ Keeps fm r0 t1 := by
  refine ⟨_, rfl, ?_⟩
  with_reducible repeat' first | assumption | exact fpart (by decide +kernel) hfm | exact fle (by decide +kernel) hfm | exact fok (by decide +kernel) hfm | exact fall (by decide +kernel) hfm | exact fokIx (by decide +kernel) hfm | exact fokAll (by decide +kernel) hfm | refine Mask.ok_ite ?_ ?_ | refine faultsOf_ok ?_ ?_ | apply startTakeover_keeps

theorem execFenceAckReceived_keeps {fm : Nat} {r0 : State}  {s : State} (hfm : Mask.le 0x14000000000000000000000000000000050000000000000000000000000000020000040844020 fm = true) (h0 : Keeps fm r0 s)  : ∃ t1, (execFenceAckReceived s) = .next t1 ∧ Keeps fm r0 t1 := by
  refine ⟨_, rfl, ?_⟩
  try lift_lets -underBinder
  with_reducible repeat' first | assumption | exact fpart (by decide +kernel) hfm | exact fle (by decide +kernel) hfm | exact fok (by decide +kernel) hfm | exact fall (by decide +kernel) hfm | exact fokIx (by decide +kernel) hfm | exact fokAll (by decide +kernel) hfm | refine Mask.ok_ite ?_ ?_ | refine faultsOf_ok ?_ ?_ | (intro a; refine (fun ha : Keeps fm r0 a => ?_) ?_; clear_value a; rotate_left; dsimp only [a]; rotate_right) | lift_lets -underBinder | apply Keeps.ite | apply setFence_keeps | apply tkReserve_keeps | split

theorem execFenceWaitTimeout_keeps {fm : Nat} {r0 : State}  {s : State} (hfm : Mask.le 0x30080000000000000000000000000000000000000000000000000000000000000000001400000000017c000000000000000000040000000000000000000000000000020000040844120 fm = true) (h0 : Keeps fm r0 s)  : ∃ t1, (execFenceWaitTimeout s) = .next t1 ∧ Keeps fm r0 t1 := by
  refine ⟨_, rfl, ?_⟩
  try lift_lets -underBinder
  with_reducible repeat' first | assumption | exact fpart (by decide +kernel) hfm | exact fle (by decide +kernel) hfm | exact fok (by decide +kernel) hfm | exact fall (by decide +kernel) hfm | exact fokIx (by decide +kernel) hfm | exact fokAll (by decide +kernel) hfm | refine Mask.ok_ite ?_ ?_ | refine faultsOf_ok ?_ ?_ | (intro a; refine (fun ha : Keeps fm r0 a => ?_) ?_; clear_value a; rotate_left; dsimp only [a]; rotate_right) | lift_lets -underBinder | apply Keeps.ite | apply tkReserve_keeps | apply modTk_keeps | apply raiseOpen_keeps | split

theorem execReservationRetry_keeps {fm : Nat} {r0 : State}  {s : State} (hfm : Mask.le 0x30080000000000000000000000000000000000000000000000000000000000000000001400000000017c000000000000000004040200000000000000000000000000020000040844120 fm = true) (h0 : Keeps fm r0 s)  : ∃ t1, (execReservationRetry s) = .next t1 ∧ Keeps fm r0 t1 := by
  refine ⟨_, rfl, ?_⟩
  with_reducible repeat' first | assumption | exact fpart (by decide +kernel) hfm | exact fle (by decide +kernel) hfm | exact fok (by decide +kernel) hfm | exact fall (by decide +kernel) hfm | exact fokIx (by decide +kernel) hfm | exact fokAll (by decide +kernel) hfm | refine Mask.ok_ite ?_ ?_ | refine faultsOf_ok ?_ ?_ | refine fun _ _ (_ : Keeps fm r0 _) => ?_ | apply Keeps.ite | apply settleOwnership_keeps | apply reserveOn_keeps | apply Keeps.forEach | split

theorem execPairPoolHandover_keeps {fm : Nat} {r0 : State}  {p : Nat} {s : State} (hfm : Mask.le 0x4000000000000000000000000000000040000 fm = true) (h0 : Keeps fm r0 s)  : ∃ t1, (execPairPoolHandover p s) = .next t1 ∧ Keeps fm r0 t1 := by
  refine ⟨_, rfl, ?_⟩
  with_reducible repeat' first | assumption | exact fpart (by decide +kernel) hfm | exact fle (by decide +kernel) hfm | exact fok (by decide +kernel) hfm | exact fall (by decide +kernel) hfm | exact fokIx (by decide +kernel) hfm | exact fokAll (by decide +kernel) hfm | refine Mask.ok_ite ?_ ?_ | refine faultsOf_ok ?_ ?_ | apply Keeps.ite | apply startHandover_keeps

theorem execHandoverRequest_keeps {fm : Nat} {r0 : State}  {p : Nat} {ckpt : Nat} {s : State} (hfm : Mask.le 0x14000000100000000000000000000000000000000000000000000000000000020000040844020 fm = true) (h0 : Keeps fm r0 s)  : ∃ t1, (execHandoverRequest p ckpt s) = .next t1 ∧ Keeps fm r0 t1 := by
  refine ⟨_, rfl, ?_⟩
  with_reducible repeat' first | assumption | exact fpart (by decide +kernel) hfm | exact fle (by decide +kernel) hfm | exact fok (by decide +kernel) hfm | exact fall (by decide +kernel) hfm | exact fokIx (by decide +kernel) hfm | exact fokAll (by decide +kernel) hfm | refine Mask.ok_ite ?_ ?_ | refine faultsOf_ok ?_ ?_ | apply Keeps.ite | apply reserveOn_keeps | apply wr_keeps | apply setHv_keeps

theorem execHandoverDone_keeps {fm : Nat} {r0 : State}  {p : Nat} {ckpt : Nat} {s : State} (hfm : Mask.le 0x10000000000200000000000000000000000000000000000000014000000000000000000000000000000000200004200000000000000000000020000040845820 fm = true) (h0 : Keeps fm r0 s)  : ∃ t1, (execHandoverDone p ckpt s) = .next t1 ∧ Keeps fm r0 t1 := by
  refine ⟨_, rfl, ?_⟩
  try lift_lets -underBinder
  with_reducible repeat' first | assumption | exact fpart (by decide +kernel) hfm | exact fle (by decide +kernel) hfm | exact fok (by decide +kernel) hfm | exact fall (by decide +kernel) hfm | exact fokIx (by decide +kernel) hfm | exact fokAll (by decide +kernel) hfm | refine Mask.ok_ite ?_ ?_ | refine faultsOf_ok ?_ ?_ | refine fun _ _ (_ : Keeps fm r0 _) => ?_ | (intro a; refine (fun ha : Keeps fm r0 a => ?_) ?_; clear_value a; rotate_left; dsimp only [a]; rotate_right) | lift_lets -underBinder | apply Keeps.ite | apply endHv_keeps | apply issueTo_keeps | apply haltPool_keeps | apply notePair_keeps | apply wr_keeps | apply Keeps.forEach

/-! ## Drives -/

theorem bringUp_keeps {fm : Nat} {r0 : State}  {s : State} {port : Nat} (hfm : Mask.le 0x2004000 fm = true) (h0 : Keeps fm r0 s)  : Keeps fm r0 (bringUp s port) := by
  unfold bringUp
  with_reducible repeat' first | assumption | exact fpart (by decide +kernel) hfm | exact fle (by decide +kernel) hfm | exact fok (by decide +kernel) hfm | exact fall (by decide +kernel) hfm | exact fokIx (by decide +kernel) hfm | exact fokAll (by decide +kernel) hfm | refine Mask.ok_ite ?_ ?_ | refine faultsOf_ok ?_ ?_ | apply wr_keeps | apply modDPort_keeps

theorem portAwaits_keeps {fm : Nat} {r0 : State}  {s : State} {port : Nat} (hfm : Mask.le 0x2004000 fm = true) (h0 : Keeps fm r0 s)  : Keeps fm r0 (portAwaits s port) := by
  unfold portAwaits
  with_reducible repeat' first | assumption | exact fpart (by decide +kernel) hfm | exact fle (by decide +kernel) hfm | exact fok (by decide +kernel) hfm | exact fall (by decide +kernel) hfm | exact fokIx (by decide +kernel) hfm | exact fokAll (by decide +kernel) hfm | refine Mask.ok_ite ?_ ?_ | refine faultsOf_ok ?_ ?_ | apply Keeps.ite | apply bringUp_keeps | apply wr_keeps | apply modDPort_keeps

theorem forgetDrive_keeps {fm : Nat} {r0 : State}  {s : State} {port : Nat} (hfm : Mask.le 0x1bffc000004000 fm = true) (h0 : Keeps fm r0 s)  : Keeps fm r0 (forgetDrive s port) := by
  unfold forgetDrive
  try lift_lets -underBinder
  with_reducible repeat' first | assumption | exact fpart (by decide +kernel) hfm | exact fle (by decide +kernel) hfm | exact fok (by decide +kernel) hfm | exact fall (by decide +kernel) hfm | exact fokIx (by decide +kernel) hfm | exact fokAll (by decide +kernel) hfm | refine Mask.ok_ite ?_ ?_ | refine faultsOf_ok ?_ ?_ | refine fun _ _ (_ : Keeps fm r0 _) => ?_ | (intro a; refine (fun ha : Keeps fm r0 a => ?_) ?_; clear_value a; rotate_left; dsimp only [a]; rotate_right) | apply modDPort_keeps | apply clrAll_keeps | apply clrBytesAll_keeps | apply Keeps.foldl

theorem linkGone_keeps {fm : Nat} {r0 : State}  {s : State} {port : Nat} (hfm : Mask.le 0x3000004000 fm = true) (h0 : Keeps fm r0 s)  : Keeps fm r0 (linkGone s port) := by
  unfold linkGone
  with_reducible repeat' first | assumption | exact fpart (by decide +kernel) hfm | exact fle (by decide +kernel) hfm | exact fok (by decide +kernel) hfm | exact fall (by decide +kernel) hfm | exact fokIx (by decide +kernel) hfm | exact fokAll (by decide +kernel) hfm | refine Mask.ok_ite ?_ ?_ | refine faultsOf_ok ?_ ?_ | apply wr_keeps | apply modDPort_keeps

theorem endPort_keeps {fm : Nat} {r0 : State}  {s : State} {port : Nat} (hfm : Mask.le 0x380801c002000000001f160000000070100000010000000000000000003100000000001400860084017c19000000000000000000000000008040000000000000000062002004087fde0 fm = true) (h0 : Keeps fm r0 s)  : Keeps fm r0 (endPort s port) := by
  unfold endPort
  with_reducible repeat' first | assumption | exact fpart (by decide +kernel) hfm | exact fle (by decide +kernel) hfm | exact fok (by decide +kernel) hfm | exact fall (by decide +kernel) hfm | exact fokIx (by decide +kernel) hfm | exact fokAll (by decide +kernel) hfm | refine Mask.ok_ite ?_ ?_ | refine faultsOf_ok ?_ ?_ | apply rerouteAll_keeps

theorem driveGone_keeps {fm : Nat} {r0 : State}  {s : State} {port : Nat} (hfm : Mask.le 0x380801c022000000001f160000000070100000010000000000000004003100000000001400860085017c19000000000000000000000000009c40000000000000040063bffc04287fde0 fm = true) (h0 : Keeps fm r0 s)  : Keeps fm r0 (driveGone s port) := by
  unfold driveGone
  try lift_lets -underBinder
  with_reducible repeat' first | assumption | exact fpart (by decide +kernel) hfm | exact fle (by decide +kernel) hfm | exact fok (by decide +kernel) hfm | exact fall (by decide +kernel) hfm | exact fokIx (by decide +kernel) hfm | exact fokAll (by decide +kernel) hfm | refine Mask.ok_ite ?_ ?_ | refine faultsOf_ok ?_ ?_ | (intro a; refine (fun ha : Keeps fm r0 a => ?_) ?_; clear_value a; rotate_left; dsimp only [a]; rotate_right) | lift_lets -underBinder | apply Keeps.ite | apply failMember_keeps | apply portAwaits_keeps | apply forgetDrive_keeps | apply endPort_keeps | split

theorem lost_keeps {fm : Nat} {r0 : State}  {s : State} {port : Nat} (hfm : Mask.le 0x380801c022000000001f160000000070100000010000000000000004003100000000001400860085017c19000000000000000000000000009c40000000000000040063bfff06287fde0 fm = true) (h0 : Keeps fm r0 s)  : Keeps fm r0 (lost s port) := by
  unfold lost
  try lift_lets -underBinder
  with_reducible repeat' first | assumption | exact fpart (by decide +kernel) hfm | exact fle (by decide +kernel) hfm | exact fok (by decide +kernel) hfm | exact fall (by decide +kernel) hfm | exact fokIx (by decide +kernel) hfm | exact fokAll (by decide +kernel) hfm | refine Mask.ok_ite ?_ ?_ | refine faultsOf_ok ?_ ?_ | (intro a; refine (fun ha : Keeps fm r0 a => ?_) ?_; clear_value a; rotate_left; dsimp only [a]; rotate_right) | lift_lets -underBinder | apply Keeps.ite | apply linkGone_keeps | apply freezePort_keeps | apply driveGone_keeps

theorem execDataLinkDown_keeps {fm : Nat} {r0 : State}  {port : Nat} {s : State} (hfm : Mask.le 0x380801c022000000001f160000000070100000010000000000000004003100000000001400860085017c19000000000000000000000000009c40000000000000040063bfff06287fde0 fm = true) (h0 : Keeps fm r0 s)  : ∃ t1, (execDataLinkDown port s) = .next t1 ∧ Keeps fm r0 t1 := by
  refine ⟨_, rfl, ?_⟩
  with_reducible repeat' first | assumption | exact fpart (by decide +kernel) hfm | exact fle (by decide +kernel) hfm | exact fok (by decide +kernel) hfm | exact fall (by decide +kernel) hfm | exact fokIx (by decide +kernel) hfm | exact fokAll (by decide +kernel) hfm | refine Mask.ok_ite ?_ ?_ | refine faultsOf_ok ?_ ?_ | apply Keeps.ite | apply lost_keeps

theorem presenceLost_keeps {fm : Nat} {r0 : State}  {s : State} {port : Nat} (hfm : Mask.le 0x380801c022000000001f160000000070100000010000000000000004003100000000001400860085017c19000000000000000000000000009c40000000000000040063bfff06287fde0 fm = true) (h0 : Keeps fm r0 s)  : Keeps fm r0 (presenceLost s port) := by
  unfold presenceLost
  try lift_lets -underBinder
  with_reducible repeat' first | assumption | exact fpart (by decide +kernel) hfm | exact fle (by decide +kernel) hfm | exact fok (by decide +kernel) hfm | exact fall (by decide +kernel) hfm | exact fokIx (by decide +kernel) hfm | exact fokAll (by decide +kernel) hfm | refine Mask.ok_ite ?_ ?_ | refine faultsOf_ok ?_ ?_ | (intro a; refine (fun ha : Keeps fm r0 a => ?_) ?_; clear_value a; rotate_left; dsimp only [a]; rotate_right) | (intro a; clear_value a) | lift_lets -underBinder | apply Keeps.ite | apply modDPort_keeps | apply lost_keeps | apply portAwaits_keeps

theorem execPresenceLost_keeps {fm : Nat} {r0 : State}  {port : Nat} {s : State} (hfm : Mask.le 0x380801c022000000001f160000000070100000010000000000000004003100000000001400860085017c19000000000000000000000000009c40000000000000040063bfff06287fde0 fm = true) (h0 : Keeps fm r0 s)  : ∃ t1, (execPresenceLost port s) = .next t1 ∧ Keeps fm r0 t1 := by
  refine ⟨_, rfl, ?_⟩
  with_reducible repeat' first | assumption | exact fpart (by decide +kernel) hfm | exact fle (by decide +kernel) hfm | exact fok (by decide +kernel) hfm | exact fall (by decide +kernel) hfm | exact fokIx (by decide +kernel) hfm | exact fokAll (by decide +kernel) hfm | refine Mask.ok_ite ?_ ?_ | refine faultsOf_ok ?_ ?_ | apply Keeps.ite | apply presenceLost_keeps

theorem execPresenceDebounced_keeps {fm : Nat} {r0 : State}  {port : Nat} {s : State} (hfm : Mask.le 0x2004000 fm = true) (h0 : Keeps fm r0 s)  : ∃ t1, (execPresenceDebounced port s) = .next t1 ∧ Keeps fm r0 t1 := by
  refine ⟨_, rfl, ?_⟩
  try lift_lets -underBinder
  with_reducible repeat' first | assumption | exact fpart (by decide +kernel) hfm | exact fle (by decide +kernel) hfm | exact fok (by decide +kernel) hfm | exact fall (by decide +kernel) hfm | exact fokIx (by decide +kernel) hfm | exact fokAll (by decide +kernel) hfm | refine Mask.ok_ite ?_ ?_ | refine faultsOf_ok ?_ ?_ | (intro a; refine (fun ha : Keeps fm r0 a => ?_) ?_; clear_value a; rotate_left; dsimp only [a]; rotate_right) | lift_lets -underBinder | apply Keeps.ite | apply modDPort_keeps | apply bringUp_keeps

theorem enableGroup_keeps {fm : Nat} {r0 : State}  {s : State} {g : Nat} (hfm : Mask.le 0x80000000000000000000000000000000000000000000000000000000000000000000000000000000000000000000000000000000000000000000000000000000000002c04000 fm = true) (h0 : Keeps fm r0 s)  : Keeps fm r0 (enableGroup s g) := by
  unfold enableGroup
  try lift_lets -underBinder
  with_reducible repeat' first | assumption | exact fpart (by decide +kernel) hfm | exact fle (by decide +kernel) hfm | exact fok (by decide +kernel) hfm | exact fall (by decide +kernel) hfm | exact fokIx (by decide +kernel) hfm | exact fokAll (by decide +kernel) hfm | refine Mask.ok_ite ?_ ?_ | refine faultsOf_ok ?_ ?_ | refine fun _ _ (_ : Keeps fm r0 _) => ?_ | (intro a; refine (fun ha : Keeps fm r0 a => ?_) ?_; clear_value a; rotate_left; dsimp only [a]; rotate_right) | lift_lets -underBinder | apply Keeps.ite | apply wr_keeps | apply drive_keeps | apply modDPort_keeps | apply portAwaits_keeps | apply Keeps.forEach

theorem holdGroup_keeps {fm : Nat} {r0 : State}  {s : State} {g : Nat} (hfm : Mask.le 0x380801c822000000001f160000000070100000010000000000000004003100000000001400860085017c19000000000000000000000000009c40000000000000040063bfff062c7fde0 fm = true) (h0 : Keeps fm r0 s)  : Keeps fm r0 (holdGroup s g) := by
  unfold holdGroup
  try lift_lets -underBinder
  with_reducible repeat' first | assumption | exact fpart (by decide +kernel) hfm | exact fle (by decide +kernel) hfm | exact fok (by decide +kernel) hfm | exact fall (by decide +kernel) hfm | exact fokIx (by decide +kernel) hfm | exact fokAll (by decide +kernel) hfm | refine Mask.ok_ite ?_ ?_ | refine faultsOf_ok ?_ ?_ | refine fun _ _ (_ : Keeps fm r0 _) => ?_ | (intro a; refine (fun ha : Keeps fm r0 a => ?_) ?_; clear_value a; rotate_left; dsimp only [a]; rotate_right) | lift_lets -underBinder | apply Keeps.ite | apply modDPort_keeps | apply lost_keeps | apply wr_keeps | apply drive_keeps | apply Keeps.forEach

theorem execDriveGroupEnable_keeps {fm : Nat} {r0 : State}  {g : Nat} {on : Bool} {s : State} (hfm : Mask.le 0x380801c922000000001f160000000070100000010000000000000004003100000000001400860085017c19000000000000000000000000009c40000000000000040063bfff062c7fde0 fm = true) (h0 : Keeps fm r0 s)  : ∃ t1, (execDriveGroupEnable g on s) = .next t1 ∧ Keeps fm r0 t1 := by
  refine ⟨_, rfl, ?_⟩
  try lift_lets -underBinder
  with_reducible repeat' first | assumption | exact fpart (by decide +kernel) hfm | exact fle (by decide +kernel) hfm | exact fok (by decide +kernel) hfm | exact fall (by decide +kernel) hfm | exact fokIx (by decide +kernel) hfm | exact fokAll (by decide +kernel) hfm | refine Mask.ok_ite ?_ ?_ | refine faultsOf_ok ?_ ?_ | (intro a; refine (fun ha : Keeps fm r0 a => ?_) ?_; clear_value a; rotate_left; dsimp only [a]; rotate_right) | lift_lets -underBinder | apply Keeps.ite | apply wrB_keeps | apply enableGroup_keeps | apply holdGroup_keeps

theorem refuseDrive_keeps {fm : Nat} {r0 : State}  {s : State} {port : Nat} {reason : Nat} (hfm : Mask.le 0x14000000000000000000000000000000000000000000000000000000000000020004042804020 fm = true) (h0 : Keeps fm r0 s)  : Keeps fm r0 (refuseDrive s port reason) := by
  unfold refuseDrive
  try lift_lets -underBinder
  with_reducible repeat' first | assumption | exact fpart (by decide +kernel) hfm | exact fle (by decide +kernel) hfm | exact fok (by decide +kernel) hfm | exact fall (by decide +kernel) hfm | exact fokIx (by decide +kernel) hfm | exact fokAll (by decide +kernel) hfm | refine Mask.ok_ite ?_ ?_ | refine faultsOf_ok ?_ ?_ | refine fun _ _ (_ : Keeps fm r0 _) => ?_ | (intro a; refine (fun ha : Keeps fm r0 a => ?_) ?_; clear_value a; rotate_left; dsimp only [a]; rotate_right) | lift_lets -underBinder | apply endCmd_keeps | apply wr_keeps | apply modDPort_keeps | apply Keeps.forEach

theorem offerSpare_keeps {fm : Nat} {r0 : State}  {s : State} (hfm : Mask.le 0x3100000000001400000004000000000000000000000000000000000c000000000000000000620020040804120 fm = true) (h0 : Keeps fm r0 s)  : Keeps fm r0 (offerSpare s) := by
  unfold offerSpare
  with_reducible repeat' first | assumption | exact fpart (by decide +kernel) hfm | exact fle (by decide +kernel) hfm | exact fok (by decide +kernel) hfm | exact fall (by decide +kernel) hfm | exact fokIx (by decide +kernel) hfm | exact fokAll (by decide +kernel) hfm | refine Mask.ok_ite ?_ ?_ | refine faultsOf_ok ?_ ?_ | apply afterFailure_keeps | split

theorem admitDrive_keeps {fm : Nat} {r0 : State}  {s : State} {port : Nat} (hfm : Mask.le 0x30080000000000000000000000000000000000000000000000000000003100000000001400000004017c00000000000000000000000000000c000000000000000000620024042804120 fm = true) (h0 : Keeps fm r0 s)  : Keeps fm r0 (admitDrive s port) := by
  unfold admitDrive
  try lift_lets -underBinder
  with_reducible repeat' first | assumption | exact fpart (by decide +kernel) hfm | exact fle (by decide +kernel) hfm | exact fok (by decide +kernel) hfm | exact fall (by decide +kernel) hfm | exact fokIx (by decide +kernel) hfm | exact fokAll (by decide +kernel) hfm | refine Mask.ok_ite ?_ ?_ | refine faultsOf_ok ?_ ?_ | (intro a; refine (fun ha : Keeps fm r0 a => ?_) ?_; clear_value a; rotate_left; dsimp only [a]; rotate_right) | (intro a; clear_value a) | lift_lets -underBinder | apply Keeps.ite | apply refuseDrive_keeps | apply wr_keeps | apply modDPort_keeps | apply offerSpare_keeps | apply raiseOpen_keeps | split

theorem admStep_keeps {fm : Nat} {r0 : State}  {s : State} {port : Nat} {n : Nat} {ops : List MOp} (hfm : Mask.le 0x14000000000000000000000000000000000000000000000000000000000000020000040804020 fm = true) (h0 : Keeps fm r0 s)  : Keeps fm r0 (admStep s port n ops) := by
  unfold admStep
  with_reducible repeat' first | assumption | exact fpart (by decide +kernel) hfm | exact fle (by decide +kernel) hfm | exact fok (by decide +kernel) hfm | exact fall (by decide +kernel) hfm | exact fokIx (by decide +kernel) hfm | exact fokAll (by decide +kernel) hfm | refine Mask.ok_ite ?_ ?_ | refine faultsOf_ok ?_ ?_ | refine fun _ _ (_ : Keeps fm r0 _) => ?_ | apply issue_keeps | apply modDPort_keeps | apply Keeps.forEach

theorem startAdmission_keeps {fm : Nat} {r0 : State}  {s : State} {port : Nat} (hfm : Mask.le 0x4002004000 fm = true) (h0 : Keeps fm r0 s)  : Keeps fm r0 (startAdmission s port) := by
  unfold startAdmission
  with_reducible repeat' first | assumption | exact fpart (by decide +kernel) hfm | exact fle (by decide +kernel) hfm | exact fok (by decide +kernel) hfm | exact fall (by decide +kernel) hfm | exact fokIx (by decide +kernel) hfm | exact fokAll (by decide +kernel) hfm | refine Mask.ok_ite ?_ ?_ | refine faultsOf_ok ?_ ?_ | apply wr_keeps | apply modDPort_keeps | apply clr_keeps

theorem execDriveLinkUp_keeps {fm : Nat} {r0 : State}  {port : Nat} {speed : Nat} {width : Nat} {s : State} (hfm : Mask.le 0x7002004000 fm = true) (h0 : Keeps fm r0 s)  : ∃ t1, (execDriveLinkUp port speed width s) = .next t1 ∧ Keeps fm r0 t1 := by
  refine ⟨_, rfl, ?_⟩
  try lift_lets -underBinder
  with_reducible repeat' first | assumption | exact fpart (by decide +kernel) hfm | exact fle (by decide +kernel) hfm | exact fok (by decide +kernel) hfm | exact fall (by decide +kernel) hfm | exact fokIx (by decide +kernel) hfm | exact fokAll (by decide +kernel) hfm | refine Mask.ok_ite ?_ ?_ | refine faultsOf_ok ?_ ?_ | (intro a; refine (fun ha : Keeps fm r0 a => ?_) ?_; clear_value a; rotate_left; dsimp only [a]; rotate_right) | lift_lets -underBinder | apply Keeps.ite | apply wr_keeps | apply modDPort_keeps | apply startAdmission_keeps

theorem execDriveControllerReady_keeps {fm : Nat} {r0 : State}  {port : Nat} {s : State} (hfm : Mask.le 0x14000000000000000000000000000000000000000000000000000000000000020000040804020 fm = true) (h0 : Keeps fm r0 s)  : ∃ t1, (execDriveControllerReady port s) = .next t1 ∧ Keeps fm r0 t1 := by
  refine ⟨_, rfl, ?_⟩
  with_reducible repeat' first | assumption | exact fpart (by decide +kernel) hfm | exact fle (by decide +kernel) hfm | exact fok (by decide +kernel) hfm | exact fall (by decide +kernel) hfm | exact fokIx (by decide +kernel) hfm | exact fokAll (by decide +kernel) hfm | refine Mask.ok_ite ?_ ?_ | refine faultsOf_ok ?_ ?_ | apply Keeps.ite | apply admStep_keeps | apply modDPort_keeps

theorem noteController_keeps {fm : Nat} {r0 : State}  {s : State} {port : Nat} {c : CtrlInfo} (hfm : Mask.le 0x21c0000004000 fm = true) (h0 : Keeps fm r0 s)  : Keeps fm r0 (noteController s port c) := by
  unfold noteController
  try lift_lets -underBinder
  with_reducible repeat' first | assumption | exact fpart (by decide +kernel) hfm | exact fle (by decide +kernel) hfm | exact fok (by decide +kernel) hfm | exact fall (by decide +kernel) hfm | exact fokIx (by decide +kernel) hfm | exact fokAll (by decide +kernel) hfm | refine Mask.ok_ite ?_ ?_ | refine faultsOf_ok ?_ ?_ | (intro a; refine (fun ha : Keeps fm r0 a => ?_) ?_; clear_value a; rotate_left; dsimp only [a]; rotate_right) | lift_lets -underBinder | apply modDPort_keeps | apply wrB_keeps | apply wrBytes_keeps

theorem noteNs_keeps {fm : Nat} {r0 : State}  {s : State} {port : Nat} {l : List NsInfo} {n : NsInfo} (hfm : Mask.le 0x1e18000004000 fm = true) (h0 : Keeps fm r0 s)  : Keeps fm r0 (noteNs s port l n) := by
  unfold noteNs
  try lift_lets -underBinder
  with_reducible repeat' first | assumption | exact fpart (by decide +kernel) hfm | exact fle (by decide +kernel) hfm | exact fok (by decide +kernel) hfm | exact fall (by decide +kernel) hfm | exact fokIx (by decide +kernel) hfm | exact fokAll (by decide +kernel) hfm | refine Mask.ok_ite ?_ ?_ | refine faultsOf_ok ?_ ?_ | (intro a; refine (fun ha : Keeps fm r0 a => ?_) ?_; clear_value a; rotate_left; dsimp only [a]; rotate_right) | lift_lets -underBinder | apply modDPort_keeps | apply wr_keeps | apply wrBytes_keeps

theorem admNext_keeps {fm : Nat} {r0 : State}  {s : State} {port : Nat} {d : AdmData} (hfm : Mask.le 0x30080000000000000000000000000000000000000000000000000000003100000000001400000004017c00000000000000000000000000000c000000000000000000623ffc042804120 fm = true) (h0 : Keeps fm r0 s)  : Keeps fm r0 (admNext s port d) := by
  unfold admNext
  with_reducible repeat' first | assumption | exact fpart (by decide +kernel) hfm | exact fle (by decide +kernel) hfm | exact fok (by decide +kernel) hfm | exact fall (by decide +kernel) hfm | exact fokIx (by decide +kernel) hfm | exact fokAll (by decide +kernel) hfm | refine Mask.ok_ite ?_ ?_ | refine faultsOf_ok ?_ ?_ | apply Keeps.ite | apply refuseDrive_keeps | apply noteController_keeps | apply admStep_keeps | apply noteNs_keeps | apply admitDrive_keeps | apply modDPort_keeps | split

theorem execAdmissionCommandComplete_keeps {fm : Nat} {r0 : State}  {id : Nat} {d : AdmData} {s : State} (hfm : Mask.le 0x30080000000000000000000000000000000000000000000000000000003100000000001400000004017c00000000000000000000000000000c000000000000000000623ffc042804120 fm = true) (h0 : Keeps fm r0 s)  : ∃ t1, (execAdmissionCommandComplete id d s) = .next t1 ∧ Keeps fm r0 t1 := by
  refine ⟨_, rfl, ?_⟩
  with_reducible repeat' first | assumption | exact fpart (by decide +kernel) hfm | exact fle (by decide +kernel) hfm | exact fok (by decide +kernel) hfm | exact fall (by decide +kernel) hfm | exact fokIx (by decide +kernel) hfm | exact fokAll (by decide +kernel) hfm | refine Mask.ok_ite ?_ ?_ | refine faultsOf_ok ?_ ?_ | apply Keeps.ite | apply admNext_keeps | apply endCmd_keeps | split

theorem execAdmissionTimeout_keeps {fm : Nat} {r0 : State}  {port : Nat} {s : State} (hfm : Mask.le 0x14000000000000000000000000000000000000000000000000000000000000020004042804020 fm = true) (h0 : Keeps fm r0 s)  : ∃ t1, (execAdmissionTimeout port s) = .next t1 ∧ Keeps fm r0 t1 := by
  refine ⟨_, rfl, ?_⟩
  with_reducible repeat' first | assumption | exact fpart (by decide +kernel) hfm | exact fle (by decide +kernel) hfm | exact fok (by decide +kernel) hfm | exact fall (by decide +kernel) hfm | exact fokIx (by decide +kernel) hfm | exact fokAll (by decide +kernel) hfm | refine Mask.ok_ite ?_ ?_ | refine faultsOf_ok ?_ ?_ | apply Keeps.ite | apply refuseDrive_keeps

theorem suspend_keeps {fm : Nat} {r0 : State}  {s : State} {id : Nat} {c : MCmd} {st : MState} (hfm : Mask.le 0x14000000000000000000000000000000000000000000000000000000000000020000040804020 fm = true) (h0 : Keeps fm r0 s)  : Keeps fm r0 (suspend s id c st) := by
  unfold suspend
  try lift_lets -underBinder
  with_reducible repeat' first | assumption | exact fpart (by decide +kernel) hfm | exact fle (by decide +kernel) hfm | exact fok (by decide +kernel) hfm | exact fall (by decide +kernel) hfm | exact fokIx (by decide +kernel) hfm | exact fokAll (by decide +kernel) hfm | refine Mask.ok_ite ?_ ?_ | refine faultsOf_ok ?_ ?_ | (intro a; refine (fun ha : Keeps fm r0 a => ?_) ?_; clear_value a; rotate_left; dsimp only [a]; rotate_right) | lift_lets -underBinder | apply Keeps.ite | apply setMCmd_keeps | apply pump_keeps | apply drop_keeps

theorem readFails_keeps {fm : Nat} {r0 : State}  {s : State} {id : Nat} {c : MCmd} {x : DrvStatus} (hfm : Mask.le 0x380801c022000000001f160000000070160000010000000000000004003100000000001400860087017c19000000000000000000000000009c40000000000000040062002006287fde0 fm = true) (h0 : Keeps fm r0 s)  : Keeps fm r0 (readFails s id c x) := by
  unfold readFails
  try lift_lets -underBinder
  with_reducible repeat' first | assumption | exact fpart (by decide +kernel) hfm | exact fle (by decide +kernel) hfm | exact fok (by decide +kernel) hfm | exact fall (by decide +kernel) hfm | exact fokIx (by decide +kernel) hfm | exact fokAll (by decide +kernel) hfm | refine Mask.ok_ite ?_ ?_ | refine faultsOf_ok ?_ ?_ | (intro a; refine (fun ha : Keeps fm r0 a => ?_) ?_; clear_value a; rotate_left; dsimp only [a]; rotate_right) | (intro a; clear_value a) | lift_lets -underBinder | apply Keeps.ite | apply endCmd_keeps | apply poisoned_keeps | apply countFail_keeps | apply mediaFault_keeps | apply fetchPageCopy_keeps | apply servedByDecode_keeps | apply decodeInstead_keeps | apply endJob_keeps | apply reroute_keeps | split

theorem writeFails_keeps {fm : Nat} {r0 : State}  {s : State} {id : Nat} {c : MCmd} {x : DrvStatus} {p : Nat} {m : Nat} (hfm : Mask.le 0x800000000000380801d022000000027f1600000000701000000320000000000000840031000000000014008e1cf5017c1900000000178000000000000012fc4003f0000000023f1fe2002006387ffe0 fm = true) (h0 : Keeps fm r0 s)  : Keeps fm r0 (writeFails s id c x p m) := by
  unfold writeFails
  with_reducible repeat' first | assumption | exact fpart (by decide +kernel) hfm | exact fle (by decide +kernel) hfm | exact fok (by decide +kernel) hfm | exact fall (by decide +kernel) hfm | exact fokIx (by decide +kernel) hfm | exact fokAll (by decide +kernel) hfm | refine Mask.ok_ite ?_ ?_ | refine faultsOf_ok ?_ ?_ | apply Keeps.ite | apply cmdFault_keeps | apply memberFault_keeps | apply abandonStripe_keeps | apply modStripe_keeps | apply endCmd_keeps | apply place_keeps | apply suspend_keeps | split

theorem commandFails_keeps {fm : Nat} {r0 : State}  {s : State} {id : Nat} {c : MCmd} {x : DrvStatus} {data : Bytes} (hfm : Mask.le 0x800000000000380801d022000000027f1600000000701600000320000000000000840031000000000014008e1cf7017c1900000000178000040402000012fc4003f0000000023f1fe2002406387ffe0 fm = true) (h0 : Keeps fm r0 s)  : Keeps fm r0 (commandFails s id c x data) := by
  unfold commandFails
  try lift_lets -underBinder
  with_reducible repeat' first | assumption | exact fpart (by decide +kernel) hfm | exact fle (by decide +kernel) hfm | exact fok (by decide +kernel) hfm | exact fall (by decide +kernel) hfm | exact fokIx (by decide +kernel) hfm | exact fokAll (by decide +kernel) hfm | refine Mask.ok_ite ?_ ?_ | refine faultsOf_ok ?_ ?_ | (intro a; refine (fun ha : Keeps fm r0 a => ?_) ?_; clear_value a; rotate_left; dsimp only [a]; rotate_right) | (intro a; clear_value a) | lift_lets -underBinder | apply Keeps.ite | apply readFails_keeps | apply writeFails_keeps | apply sealOn_keeps | apply pointerKnown_keeps | apply endCmd_keeps | apply freedRecord_keeps | apply memberFault_keeps | apply modSeg_keeps | apply actionNext_keeps | apply actionEnded_keeps | apply addStep_keeps | apply reservationEnded_keeps | apply refuseDrive_keeps | split

theorem noteIdentity_keeps {fm : Nat} {r0 : State}  {s : State} {port : Nat} {data : Bytes} (hfm : Mask.le 0xc0000000000 fm = true) (h0 : Keeps fm r0 s)  : Keeps fm r0 (noteIdentity s port data) := by
  unfold noteIdentity
  with_reducible repeat' first
    | assumption
    | exact fpart (by decide +kernel) hfm
    | exact fle (by decide +kernel) hfm
    | exact fok (by decide +kernel) hfm
    | exact fall (by decide +kernel) hfm
    | exact fokIx (by decide +kernel) hfm
    | exact fokAll (by decide +kernel) hfm
    | refine Mask.ok_ite ?_ ?_
    | refine faultsOf_ok ?_ ?_
    | refine fun _ (_ : Keeps fm r0 _) => ?_
    | refine fun _ _ (_ : Keeps fm r0 _) => ?_
    | refine fun _ _ _ (_ : Keeps fm r0 _) => ?_
    | exact KeepsO.get rfl (by assumption)
    | exact KeepsP.get rfl (by assumption)
    | apply Keeps.ite
    | apply wrBytes_keeps
    | apply Keeps.forEach
    | apply Keeps.forRange
    | apply Keeps.foldl
    | apply Keeps.foldl_fst
    | apply Keeps.foldl_snd
    | exact KeepsO.none
    | exact KeepsP.none
    | apply KeepsO.some
    | apply KeepsP.some
    | apply KeepsO.ite
    | apply KeepsP.ite
    | refine KeepsO.foldl _ _ ?_ (fun _ _ _ => ?_)
    | exact KeepsF.lost
    | apply KeepsF.started
    | apply KeepsF.ite
    | fail_if_no_progress (apply Keeps.upd <;> try first | exact Or.inr (fpart (by decide +kernel) hfm) | exact Or.inl rfl)
    | fail_if_no_progress (apply Keeps.updDict <;> try first | exact Or.inr (fpart (by decide +kernel) hfm) | exact Or.inl rfl)
    | refine Keeps.updRegs (rg := Tbl.filterK _ _) ?_ (Tbl.wf_filterK _) (Tbl.wf_filterK _)
    | refine Keeps.updRegs (rg := Tbl.filterK _ _) ?_ (Tbl.wf_filterK _) id
    | split
    | refine Keeps.of_snd (by assumption) ?_
    | refine Keeps.of_fst (by assumption) ?_
    | refine KeepsO.get (by assumption) ?_
    | refine KeepsP.get (by assumption) ?_
    | refine KeepsF.get (by assumption) ?_

theorem noteHealth_keeps {fm : Nat} {r0 : State}  {s : State} {port : Nat} {x : DrvStatus} (hfm : Mask.le 0x30080000000000000000000000000000000000000000000000000000000000000000000000000000017c000000000000000000000000000000000000000000000000018000000800120 fm = true) (h0 : Keeps fm r0 s)  : Keeps fm r0 (noteHealth s port x) := by
  unfold noteHealth
  try lift_lets -underBinder
  with_reducible repeat' first | assumption | exact fpart (by decide +kernel) hfm | exact fle (by decide +kernel) hfm | exact fok (by decide +kernel) hfm | exact fall (by decide +kernel) hfm | exact fokIx (by decide +kernel) hfm | exact fokAll (by decide +kernel) hfm | refine Mask.ok_ite ?_ ?_ | refine faultsOf_ok ?_ ?_ | (intro a; refine (fun ha : Keeps fm r0 a => ?_) ?_; clear_value a; rotate_left; dsimp only [a]; rotate_right) | lift_lets -underBinder | apply Keeps.ite | apply wr_keeps | apply raiseOpen_keeps

theorem recovered_keeps {fm : Nat} {r0 : State}  {s : State} {id : Nat} {c : MCmd} {begun : Bool} (hfm : Mask.le 0x800000000000380801d022000000027f1600000000701000000320000000000000840031000000000014008e1cf5017c1900000000178000000000000012fc4003f0000000023f1fe2002006387ffe0 fm = true) (h0 : Keeps fm r0 s)  : Keeps fm r0 (recovered s id c begun) := by
  unfold recovered
  try lift_lets -underBinder
  with_reducible repeat' first | assumption | exact fpart (by decide +kernel) hfm | exact fle (by decide +kernel) hfm | exact fok (by decide +kernel) hfm | exact fall (by decide +kernel) hfm | exact fokIx (by decide +kernel) hfm | exact fokAll (by decide +kernel) hfm | refine Mask.ok_ite ?_ ?_ | refine faultsOf_ok ?_ ?_ | refine fun _ (_ : Keeps fm r0 _) => ?_ | (intro a; refine (fun ha : Keeps fm r0 a => ?_) ?_; clear_value a; rotate_left; dsimp only [a]; rotate_right) | (intro a; refine (fun hga : ∀ t, Keeps fm r0 t → Keeps fm r0 (a t) => ?_) ?_; clear_value a; rotate_left; dsimp only [a]; rotate_right) | apply hga | lift_lets -underBinder | apply Keeps.ite | apply place_keeps | apply suspend_keeps | apply cmdFault_keeps | apply endCmd_keeps | split

theorem resetDrive_keeps {fm : Nat} {r0 : State}  {s : State} {port : Nat} (hfm : Mask.le 0x4000 fm = true) (h0 : Keeps fm r0 s)  : Keeps fm r0 (resetDrive s port) := by
  unfold resetDrive
  with_reducible repeat' first | assumption | exact fpart (by decide +kernel) hfm | exact fle (by decide +kernel) hfm | exact fok (by decide +kernel) hfm | exact fall (by decide +kernel) hfm | exact fokIx (by decide +kernel) hfm | exact fokAll (by decide +kernel) hfm | refine Mask.ok_ite ?_ ?_ | refine faultsOf_ok ?_ ?_ | apply modDPort_keeps

theorem commandDone_keeps {fm : Nat} {r0 : State}  {s : State} {id : Nat} {c : MCmd} {x : DrvStatus} {data : Bytes} (hfm : Mask.le 0x800000000000380801d022000000027f1600000000701000000320000000000000840031000000000014008e1cf5017c1900000000178000040402000012fc4003f0000000023f1fe380e006387ffe0 fm = true) (h0 : Keeps fm r0 s)  : Keeps fm r0 (commandDone s id c x data) := by
  unfold commandDone
  with_reducible repeat' first | assumption | exact fpart (by decide +kernel) hfm | exact fle (by decide +kernel) hfm | exact fok (by decide +kernel) hfm | exact fall (by decide +kernel) hfm | exact fokIx (by decide +kernel) hfm | exact fokAll (by decide +kernel) hfm | refine Mask.ok_ite ?_ ?_ | refine faultsOf_ok ?_ ?_ | apply Keeps.ite | apply columnDone_keeps | apply sealOn_keeps | apply pointerKnown_keeps | apply endCmd_keeps | apply zoneResetDone_keeps | apply issue_keeps | apply superDone_keeps | apply actionNext_keeps | apply actionEnded_keeps | apply addStep_keeps | apply reservationEnded_keeps | apply noteHealth_keeps | apply noteIdentity_keeps | apply recovered_keeps | split

theorem countMoved_keeps {fm : Nat} {r0 : State}  {s : State} {c : MCmd} (hfm : Mask.le 0x20 fm = true) (h0 : Keeps fm r0 s)  : Keeps fm r0 (countMoved s c) := by
  unfold countMoved
  with_reducible repeat' first | assumption | exact fpart (by decide +kernel) hfm | exact fle (by decide +kernel) hfm | exact fok (by decide +kernel) hfm | exact fall (by decide +kernel) hfm | exact fokIx (by decide +kernel) hfm | exact fokAll (by decide +kernel) hfm | refine Mask.ok_ite ?_ ?_ | refine faultsOf_ok ?_ ?_ | apply countDev_keeps | split

theorem execDriveCommandComplete_keeps {fm : Nat} {r0 : State}  {id : Nat} {x : DrvStatus} {data : Bytes} {s : State} (hfm : Mask.le 0x800000000000380801d022000000027f1600000000701600000320000000000000840031000000000014008e1cf7017c1900000000178000040402000012fc4003f0000000023f1feb80e406387ffe0 fm = true) (h0 : Keeps fm r0 s)  : ∃ t1, (execDriveCommandComplete id x data s) = .next t1 ∧ Keeps fm r0 t1 := by
  refine ⟨_, rfl, ?_⟩
  with_reducible repeat' first | assumption | exact fpart (by decide +kernel) hfm | exact fle (by decide +kernel) hfm | exact fok (by decide +kernel) hfm | exact fall (by decide +kernel) hfm | exact fokIx (by decide +kernel) hfm | exact fokAll (by decide +kernel) hfm | refine Mask.ok_ite ?_ ?_ | refine faultsOf_ok ?_ ?_ | apply Keeps.ite | apply cmdFault_keeps | apply commandDone_keeps | apply countMoved_keeps | apply resetDrive_keeps | apply endCmd_keeps | apply startContest_keeps | apply suspend_keeps | apply bump_keeps | apply commandFails_keeps | split

theorem execCommandRetryDelay_keeps {fm : Nat} {r0 : State}  {id : Nat} {s : State} (hfm : Mask.le 0x14000000000000000000000000000000000000000000000000000000000000020000040804020 fm = true) (h0 : Keeps fm r0 s)  : ∃ t1, (execCommandRetryDelay id s) = .next t1 ∧ Keeps fm r0 t1 := by
  refine ⟨_, rfl, ?_⟩
  try lift_lets -underBinder
  with_reducible repeat' first | assumption | exact fpart (by decide +kernel) hfm | exact fle (by decide +kernel) hfm | exact fok (by decide +kernel) hfm | exact fall (by decide +kernel) hfm | exact fokIx (by decide +kernel) hfm | exact fokAll (by decide +kernel) hfm | refine Mask.ok_ite ?_ ?_ | refine faultsOf_ok ?_ ?_ | (intro a; clear_value a) | lift_lets -underBinder | apply Keeps.ite | apply place_keeps | split

theorem decodeTimedOut_keeps {fm : Nat} {r0 : State}  {s : State} {id : Nat} {c : MCmd} (hfm : Mask.le 0x14000000000000000000000000000000000000000000000000000000000000020000040804020 fm = true) (h0 : Keeps fm r0 s)  : Keeps fm r0 (decodeTimedOut s id c) := by
  unfold decodeTimedOut
  try lift_lets -underBinder
  with_reducible repeat' first | assumption | exact fpart (by decide +kernel) hfm | exact fle (by decide +kernel) hfm | exact fok (by decide +kernel) hfm | exact fall (by decide +kernel) hfm | exact fokIx (by decide +kernel) hfm | exact fokAll (by decide +kernel) hfm | refine Mask.ok_ite ?_ ?_ | refine faultsOf_ok ?_ ?_ | refine fun _ (_ : Keeps fm r0 _) => ?_ | (intro a; refine (fun hga : ∀ t, Keeps fm r0 t → Keeps fm r0 (a t) => ?_) ?_; clear_value a; rotate_left; dsimp only [a]; rotate_right) | (intro a; clear_value a) | apply hga | lift_lets -underBinder | apply setMCmd_keeps | apply startJob_keeps | apply endJob_keeps | apply readLeaf_keeps | refine KeepsO.get (by assumption) ?_ | split

theorem execDriveCommandTimeout_keeps {fm : Nat} {r0 : State}  {id : Nat} {begun : Bool} {s : State} (hfm : Mask.le 0x800000000000380801d022000000027f1600000000701000000320000000000000840031000000000014008e1cf5017c1900000000178000000000000012fc4003f0000000023f1fe6002406387ffe0 fm = true) (h0 : Keeps fm r0 s)  : ∃ t1, (execDriveCommandTimeout id begun s) = .next t1 ∧ Keeps fm r0 t1 := by
  refine ⟨_, rfl, ?_⟩
  try lift_lets -underBinder
  with_reducible repeat' first | assumption | exact fpart (by decide +kernel) hfm | exact fle (by decide +kernel) hfm | exact fok (by decide +kernel) hfm | exact fall (by decide +kernel) hfm | exact fokIx (by decide +kernel) hfm | exact fokAll (by decide +kernel) hfm | refine Mask.ok_ite ?_ ?_ | refine faultsOf_ok ?_ ?_ | (intro a; refine (fun ha : Keeps fm r0 a => ?_) ?_; clear_value a; rotate_left; dsimp only [a]; rotate_right) | (intro a; clear_value a) | lift_lets -underBinder | apply Keeps.ite | apply refuseDrive_keeps | apply freezePort_keeps | apply cmdFault_keeps | apply bump_keeps | apply setMCmd_keeps | apply issue_keeps | apply decodeTimedOut_keeps | split

theorem execAbortTimeLimit_keeps {fm : Nat} {r0 : State}  {id : Nat} {s : State} (hfm : Mask.le 0x4000 fm = true) (h0 : Keeps fm r0 s)  : ∃ t1, (execAbortTimeLimit id s) = .next t1 ∧ Keeps fm r0 t1 := by
  refine ⟨_, rfl, ?_⟩
  with_reducible repeat' first | assumption | exact fpart (by decide +kernel) hfm | exact fle (by decide +kernel) hfm | exact fok (by decide +kernel) hfm | exact fall (by decide +kernel) hfm | exact fokIx (by decide +kernel) hfm | exact fokAll (by decide +kernel) hfm | refine Mask.ok_ite ?_ ?_ | refine faultsOf_ok ?_ ?_ | apply Keeps.ite | apply resetDrive_keeps | split

theorem execRecoveryTimeLimit_keeps {fm : Nat} {r0 : State}  {id : Nat} {s : State} (hfm : Mask.le 0x800000000000380801d022000000027f1600000000701000000320000000000000840031000000000014008e1cf5017c1900000000178000000000000012fc4003f0000000023f1fe2002006387ffe0 fm = true) (h0 : Keeps fm r0 s)  : ∃ t1, (execRecoveryTimeLimit id s) = .next t1 ∧ Keeps fm r0 t1 := by
  refine ⟨_, rfl, ?_⟩
  with_reducible repeat' first | assumption | exact fpart (by decide +kernel) hfm | exact fle (by decide +kernel) hfm | exact fok (by decide +kernel) hfm | exact fall (by decide +kernel) hfm | exact fokIx (by decide +kernel) hfm | exact fokAll (by decide +kernel) hfm | refine Mask.ok_ite ?_ ?_ | refine faultsOf_ok ?_ ?_ | apply Keeps.ite | apply cmdFault_keeps | split

theorem noteWhole_keeps {fm : Nat} {r0 : State}  {s : State} {p : Nat} (hfm : Mask.le 0x600000000800100 fm = true) (h0 : Keeps fm r0 s)  : Keeps fm r0 (noteWhole s p) := by
  unfold noteWhole
  with_reducible repeat' first | assumption | exact fpart (by decide +kernel) hfm | exact fle (by decide +kernel) hfm | exact fok (by decide +kernel) hfm | exact fall (by decide +kernel) hfm | exact fokIx (by decide +kernel) hfm | exact fokAll (by decide +kernel) hfm | refine Mask.ok_ite ?_ ?_ | refine faultsOf_ok ?_ ?_ | apply Keeps.ite | apply setCond_keeps

theorem unfreeze_keeps {fm : Nat} {r0 : State}  {s : State} {port : Nat} (hfm : Mask.le 0x2004000 fm = true) (h0 : Keeps fm r0 s)  : Keeps fm r0 (unfreeze s port) := by
  unfold unfreeze
  try lift_lets -underBinder
  with_reducible repeat' first | assumption | exact fpart (by decide +kernel) hfm | exact fle (by decide +kernel) hfm | exact fok (by decide +kernel) hfm | exact fall (by decide +kernel) hfm | exact fokIx (by decide +kernel) hfm | exact fokAll (by decide +kernel) hfm | refine Mask.ok_ite ?_ ?_ | refine faultsOf_ok ?_ ?_ | (intro a; refine (fun ha : Keeps fm r0 a => ?_) ?_; clear_value a; rotate_left; dsimp only [a]; rotate_right) | lift_lets -underBinder | apply Keeps.ite | apply modDPort_keeps | apply wr_keeps | apply portAwaits_keeps

theorem reissueHeld_keeps {fm : Nat} {r0 : State}  {s : State} {port : Nat} (hfm : Mask.le 0x14000000000000000000000000000000000000000000000000000000000000020000040804020 fm = true) (h0 : Keeps fm r0 s)  : Keeps fm r0 (reissueHeld s port) := by
  unfold reissueHeld
  try lift_lets -underBinder
  with_reducible repeat' first | assumption | exact fpart (by decide +kernel) hfm | exact fle (by decide +kernel) hfm | exact fok (by decide +kernel) hfm | exact fall (by decide +kernel) hfm | exact fokIx (by decide +kernel) hfm | exact fokAll (by decide +kernel) hfm | refine Mask.ok_ite ?_ ?_ | refine faultsOf_ok ?_ ?_ | refine fun _ _ (_ : Keeps fm r0 _) => ?_ | (intro a; refine (fun ha : Keeps fm r0 a => ?_) ?_; clear_value a; rotate_left; dsimp only [a]; rotate_right) | (intro a; clear_value a) | lift_lets -underBinder | apply Keeps.ite | apply drop_keeps | apply place_keeps | apply Keeps.forEach | fail_if_no_progress (apply Keeps.upd <;> try first | exact Or.inr (fpart (by decide +kernel) hfm) | exact Or.inl rfl)

theorem retryDone_keeps {fm : Nat} {r0 : State}  {s : State} {port : Nat} (hfm : Mask.le 0x100000000000000000000000000000014000000000000000000000000000000000000000010000000000000000000620000052806120 fm = true) (h0 : Keeps fm r0 s)  : Keeps fm r0 (retryDone s port) := by
  unfold retryDone
  try lift_lets -underBinder
  with_reducible repeat' first | assumption | exact fpart (by decide +kernel) hfm | exact fle (by decide +kernel) hfm | exact fok (by decide +kernel) hfm | exact fall (by decide +kernel) hfm | exact fokIx (by decide +kernel) hfm | exact fokAll (by decide +kernel) hfm | refine Mask.ok_ite ?_ ?_ | refine faultsOf_ok ?_ ?_ | (intro a; refine (fun ha : Keeps fm r0 a => ?_) ?_; clear_value a; rotate_left; dsimp only [a]; rotate_right) | lift_lets -underBinder | apply Keeps.ite | apply unfreeze_keeps | apply wr_keeps | apply noteWhole_keeps | apply logRec_keeps | apply reissueHeld_keeps | split

theorem retryRefused_keeps {fm : Nat} {r0 : State}  {s : State} {port : Nat} {result : Nat} (hfm : Mask.le 0x10004000 fm = true) (h0 : Keeps fm r0 s)  : Keeps fm r0 (retryRefused s port result) := by
  unfold retryRefused
  with_reducible repeat' first | assumption | exact fpart (by decide +kernel) hfm | exact fle (by decide +kernel) hfm | exact fok (by decide +kernel) hfm | exact fall (by decide +kernel) hfm | exact fokIx (by decide +kernel) hfm | exact fokAll (by decide +kernel) hfm | refine Mask.ok_ite ?_ ?_ | refine faultsOf_ok ?_ ?_ | apply modDPort_keeps | apply wr_keeps

theorem execPortReleaseRetry_keeps {fm : Nat} {r0 : State}  {port : Nat} {s : State} (hfm : Mask.le 0x10004000 fm = true) (h0 : Keeps fm r0 s)  : ∃ t1, (execPortReleaseRetry port s) = .next t1 ∧ Keeps fm r0 t1 := by
  refine ⟨_, rfl, ?_⟩
  with_reducible repeat' first | assumption | exact fpart (by decide +kernel) hfm | exact fle (by decide +kernel) hfm | exact fok (by decide +kernel) hfm | exact fall (by decide +kernel) hfm | exact fokIx (by decide +kernel) hfm | exact fokAll (by decide +kernel) hfm | refine Mask.ok_ite ?_ ?_ | refine faultsOf_ok ?_ ?_ | apply Keeps.ite | apply wr_keeps | apply modDPort_keeps

theorem execPortReleaseLinkTimeout_keeps {fm : Nat} {r0 : State}  {port : Nat} {s : State} (hfm : Mask.le 0x10004000 fm = true) (h0 : Keeps fm r0 s)  : ∃ t1, (execPortReleaseLinkTimeout port s) = .next t1 ∧ Keeps fm r0 t1 := by
  refine ⟨_, rfl, ?_⟩
  with_reducible repeat' first | assumption | exact fpart (by decide +kernel) hfm | exact fle (by decide +kernel) hfm | exact fok (by decide +kernel) hfm | exact fall (by decide +kernel) hfm | exact fokIx (by decide +kernel) hfm | exact fokAll (by decide +kernel) hfm | refine Mask.ok_ite ?_ ?_ | refine faultsOf_ok ?_ ?_ | apply Keeps.ite | apply retryRefused_keeps

theorem releaseFail_keeps {fm : Nat} {r0 : State}  {s : State} {port : Nat} {cause : Nat} (hfm : Mask.le 0x380801c022000000001f160000000070100000010000000000000004003100000000001400860085017c19000000000000000000000000009c40000000000000040063bffc04287fde0 fm = true) (h0 : Keeps fm r0 s)  : Keeps fm r0 (releaseFail s port cause) := by
  unfold releaseFail
  try lift_lets -underBinder
  with_reducible repeat' first | assumption | exact fpart (by decide +kernel) hfm | exact fle (by decide +kernel) hfm | exact fok (by decide +kernel) hfm | exact fall (by decide +kernel) hfm | exact fokIx (by decide +kernel) hfm | exact fokAll (by decide +kernel) hfm | refine Mask.ok_ite ?_ ?_ | refine faultsOf_ok ?_ ?_ | (intro a; refine (fun ha : Keeps fm r0 a => ?_) ?_; clear_value a; rotate_left; dsimp only [a]; rotate_right) | lift_lets -underBinder | apply Keeps.ite | apply failMember_keeps | apply unfreeze_keeps | apply endPort_keeps | apply forgetDrive_keeps | apply startAdmission_keeps | split

theorem execPortReleaseFail_keeps {fm : Nat} {r0 : State}  {port : Nat} {s : State} (hfm : Mask.le 0x380801c022000000001f160000000070100000010000000000000004003100000000001400860085017c19000000000000000000000000009c40000000000000040063bffc05287fde0 fm = true) (h0 : Keeps fm r0 s)  : ∃ t1, (execPortReleaseFail port s) = .next t1 ∧ Keeps fm r0 t1 := by
  refine ⟨_, rfl, ?_⟩
  with_reducible repeat' first | assumption | exact fpart (by decide +kernel) hfm | exact fle (by decide +kernel) hfm | exact fok (by decide +kernel) hfm | exact fall (by decide +kernel) hfm | exact fokIx (by decide +kernel) hfm | exact fokAll (by decide +kernel) hfm | refine Mask.ok_ite ?_ ?_ | refine faultsOf_ok ?_ ?_ | apply Keeps.ite | apply wr_keeps | apply releaseFail_keeps

theorem execMemberActionFail_keeps {fm : Nat} {r0 : State}  {p : Nat} {m : Nat} {s : State} (hfm : Mask.le 0x380801c022000000001f160000000070100000010000000000000004003100000000001400860085017c19000000000000000000000000009c40000000000000040063bffc04287fde0 fm = true) (h0 : Keeps fm r0 s)  : ∃ t1, (execMemberActionFail p m s) = .next t1 ∧ Keeps fm r0 t1 := by
  refine ⟨_, rfl, ?_⟩
  try lift_lets -underBinder
  with_reducible repeat' first | assumption | exact fpart (by decide +kernel) hfm | exact fle (by decide +kernel) hfm | exact fok (by decide +kernel) hfm | exact fall (by decide +kernel) hfm | exact fokIx (by decide +kernel) hfm | exact fokAll (by decide +kernel) hfm | refine Mask.ok_ite ?_ ?_ | refine faultsOf_ok ?_ ?_ | refine fun _ _ (_ : Keeps fm r0 _) => ?_ | (intro a; refine (fun hga : ∀ t x, Keeps fm r0 t → Keeps fm r0 (a t x) => ?_) ?_; clear_value a; rotate_left; dsimp only [a]; rotate_right) | apply hga | lift_lets -underBinder | apply Keeps.ite | apply wr_keeps | apply failMember_keeps | apply releaseFail_keeps

theorem execControllerResetDone_keeps {fm : Nat} {r0 : State}  {port : Nat} {ok : Bool} {begun : List Nat} {l : List NsInfo} {s : State} (hfm : Mask.le 0x800000000000380801d022000000027f1600000000701000000320000000000000840031000000000014008e1cf5017c1900000000178000000000000012fc4003f0000000023f1fe2002407387ffe0 fm = true) (h0 : Keeps fm r0 s)  : ∃ t1, (execControllerResetDone port ok begun l s) = .next t1 ∧ Keeps fm r0 t1 := by
  refine ⟨_, rfl, ?_⟩
  try lift_lets -underBinder
  with_reducible repeat' first | assumption | exact fpart (by decide +kernel) hfm | exact fle (by decide +kernel) hfm | exact fok (by decide +kernel) hfm | exact fall (by decide +kernel) hfm | exact fokIx (by decide +kernel) hfm | exact fokAll (by decide +kernel) hfm | refine Mask.ok_ite ?_ ?_ | refine faultsOf_ok ?_ ?_ | refine fun _ _ (_ : Keeps fm r0 _) => ?_ | (intro a; refine (fun ha : Keeps fm r0 a => ?_) ?_; clear_value a; rotate_left; dsimp only [a]; rotate_right) | lift_lets -underBinder | apply Keeps.ite | apply retryRefused_keeps | apply retryDone_keeps | apply modDPort_keeps | apply pump_keeps | apply recovered_keeps | apply memberFault_keeps | apply refuseDrive_keeps | apply endPort_keeps | apply Keeps.forEach | split

theorem execDriveAerUncorrectable_keeps {fm : Nat} {r0 : State}  {port : Nat} {s : State} (hfm : Mask.le 0x380801c002000000001f160000000070100000010000000000000000003100000000001400860084017c19000000000000000000000000009040000000000000000062002006287fde0 fm = true) (h0 : Keeps fm r0 s)  : ∃ t1, (execDriveAerUncorrectable port s) = .next t1 ∧ Keeps fm r0 t1 := by
  refine ⟨_, rfl, ?_⟩
  with_reducible repeat' first | assumption | exact fpart (by decide +kernel) hfm | exact fle (by decide +kernel) hfm | exact fok (by decide +kernel) hfm | exact fall (by decide +kernel) hfm | exact fokIx (by decide +kernel) hfm | exact fokAll (by decide +kernel) hfm | refine Mask.ok_ite ?_ ?_ | refine faultsOf_ok ?_ ?_ | apply Keeps.ite | apply freezePort_keeps

theorem execDriveHealthPoll_keeps {fm : Nat} {r0 : State}  {s : State} (hfm : Mask.le 0x14000000000000000000000000000000000000000000000000000000000000020000040804020 fm = true) (h0 : Keeps fm r0 s)  : ∃ t1, (execDriveHealthPoll s) = .next t1 ∧ Keeps fm r0 t1 := by
  refine ⟨_, rfl, ?_⟩
  try lift_lets -underBinder
  with_reducible repeat' first | assumption | exact fpart (by decide +kernel) hfm | exact fle (by decide +kernel) hfm | exact fok (by decide +kernel) hfm | exact fall (by decide +kernel) hfm | exact fokIx (by decide +kernel) hfm | exact fokAll (by decide +kernel) hfm | refine Mask.ok_ite ?_ ?_ | refine faultsOf_ok ?_ ?_ | refine fun _ _ (_ : Keeps fm r0 _) => ?_ | (intro a; clear_value a) | lift_lets -underBinder | apply Keeps.ite | apply issue_keeps | apply Keeps.forRange

theorem bayPin_keeps {fm : Nat} {r0 : State}  {s : State} {p : Pin} {level : Bool} (hfm : Mask.le 0xc00000 fm = true) (h0 : Keeps fm r0 s)  : Keeps fm r0 (bayPin s p level) := by
  unfold bayPin
  with_reducible repeat' first | assumption | exact fpart (by decide +kernel) hfm | exact fle (by decide +kernel) hfm | exact fok (by decide +kernel) hfm | exact fall (by decide +kernel) hfm | exact fokIx (by decide +kernel) hfm | exact fokAll (by decide +kernel) hfm | refine Mask.ok_ite ?_ ?_ | refine faultsOf_ok ?_ ?_ | apply Keeps.ite | apply drive_keeps

theorem execSidebandFrame_keeps {fm : Nat} {r0 : State}  {inputs : Nat} {s : State} (hfm : Mask.le 0x380801c022000000001f160000000070100000010000000000000004003100000000001400860085017c19000000000000000000000000009c40000000000000040063bfff062c7fde0 fm = true) (h0 : Keeps fm r0 s)  : ∃ t1, (execSidebandFrame inputs s) = .next t1 ∧ Keeps fm r0 t1 := by
  refine ⟨_, rfl, ?_⟩
  try lift_lets -underBinder
  with_reducible repeat' first | assumption | exact fpart (by decide +kernel) hfm | exact fle (by decide +kernel) hfm | exact fok (by decide +kernel) hfm | exact fall (by decide +kernel) hfm | exact fokIx (by decide +kernel) hfm | exact fokAll (by decide +kernel) hfm | refine Mask.ok_ite ?_ ?_ | refine faultsOf_ok ?_ ?_ | refine fun _ _ (_ : Keeps fm r0 _) => ?_ | (intro a; refine (fun ha : Keeps fm r0 a => ?_) ?_; clear_value a; rotate_left; dsimp only [a]; rotate_right) | (intro a; clear_value a) | lift_lets -underBinder | apply Keeps.ite | apply bayPin_keeps | apply presenceLost_keeps | apply modDPort_keeps | apply Keeps.forRange | fail_if_no_progress (apply Keeps.upd <;> try first | exact Or.inr (fpart (by decide +kernel) hfm) | exact Or.inl rfl)

theorem execDriveGateClose_keeps {fm : Nat} {r0 : State}  {s : State} (hfm : Mask.le 0x5000000000070000000000000000000000000000000000000007c000000000000190000000000000000050200001200000000000000000000020000040c67ae0 fm = true) (h0 : Keeps fm r0 s)  : ∃ t1, (execDriveGateClose s) = .next t1 ∧ Keeps fm r0 t1 := by
  refine ⟨_, rfl, ?_⟩
  try lift_lets -underBinder
  with_reducible repeat' first | assumption | exact fpart (by decide +kernel) hfm | exact fle (by decide +kernel) hfm | exact fok (by decide +kernel) hfm | exact fall (by decide +kernel) hfm | exact fokIx (by decide +kernel) hfm | exact fokAll (by decide +kernel) hfm | refine Mask.ok_ite ?_ ?_ | refine faultsOf_ok ?_ ?_ | refine fun _ _ (_ : Keeps fm r0 _) => ?_ | (intro a; refine (fun ha : Keeps fm r0 a => ?_) ?_; clear_value a; rotate_left; dsimp only [a]; rotate_right) | (intro a; clear_value a) | lift_lets -underBinder | apply Keeps.ite | apply setFence_keeps | apply bump_keeps | apply wr_keeps | apply drive_keeps | apply abandonTakeover_keeps | apply releaseReq_keeps | apply yieldPool_keeps | apply Keeps.forRange

theorem ungate_keeps {fm : Nat} {r0 : State}  {s : State} {id : Nat} {c : MCmd} (hfm : Mask.le 0x3008000000000000001f000000000020000000010000000000000000000000000000001400860000017c190000000000000000000000000080000000000000000000020000040867920 fm = true) (h0 : Keeps fm r0 s)  : Keeps fm r0 (ungate s id c) := by
  unfold ungate
  try lift_lets -underBinder
  with_reducible repeat' first | assumption | exact fpart (by decide +kernel) hfm | exact fle (by decide +kernel) hfm | exact fok (by decide +kernel) hfm | exact fall (by decide +kernel) hfm | exact fokIx (by decide +kernel) hfm | exact fokAll (by decide +kernel) hfm | refine Mask.ok_ite ?_ ?_ | refine faultsOf_ok ?_ ?_ | (intro a; refine (fun ha : Keeps fm r0 a => ?_) ?_; clear_value a; rotate_left; dsimp only [a]; rotate_right) | (intro a; clear_value a) | lift_lets -underBinder | apply Keeps.ite | apply drop_keeps | apply place_keeps | apply abandonStripe_keeps | fail_if_no_progress (apply Keeps.upd <;> try first | exact Or.inr (fpart (by decide +kernel) hfm) | exact Or.inl rfl) | split

theorem rejoinFenced_keeps {fm : Nat} {r0 : State}  {s : State} (hfm : Mask.le 0x14000000000000000000000000000000000200000200000000000000000000020000040804020 fm = true) (h0 : Keeps fm r0 s)  : Keeps fm r0 (rejoinFenced s) := by
  unfold rejoinFenced
  with_reducible repeat' first | assumption | exact fpart (by decide +kernel) hfm | exact fle (by decide +kernel) hfm | exact fok (by decide +kernel) hfm | exact fall (by decide +kernel) hfm | exact fokIx (by decide +kernel) hfm | exact fokAll (by decide +kernel) hfm | refine Mask.ok_ite ?_ ?_ | refine faultsOf_ok ?_ ?_ | refine fun _ _ (_ : Keeps fm r0 _) => ?_ | apply Keeps.ite | apply notePair_keeps | apply issueTo_keeps | apply wr_keeps | apply Keeps.forEach

theorem execDriveGateOpen_keeps {fm : Nat} {r0 : State}  {s : State} (hfm : Mask.le 0x3008000000000000001f000000000020000000010000000000000000000000000000001c00860000017c190000000000000000010200000280000000000000000000020000040c67920 fm = true) (h0 : Keeps fm r0 s)  : ∃ t1, (execDriveGateOpen s) = .next t1 ∧ Keeps fm r0 t1 := by
  refine ⟨_, rfl, ?_⟩
  try lift_lets -underBinder
  with_reducible repeat' first | assumption | exact fpart (by decide +kernel) hfm | exact fle (by decide +kernel) hfm | exact fok (by decide +kernel) hfm | exact fall (by decide +kernel) hfm | exact fokIx (by decide +kernel) hfm | exact fokAll (by decide +kernel) hfm | refine Mask.ok_ite ?_ ?_ | refine faultsOf_ok ?_ ?_ | refine fun _ _ (_ : Keeps fm r0 _) => ?_ | (intro a; refine (fun ha : Keeps fm r0 a => ?_) ?_; clear_value a; rotate_left; dsimp only [a]; rotate_right) | lift_lets -underBinder | apply Keeps.ite | apply setFence_keeps | apply drive_keeps | apply wr_keeps | apply ungate_keeps | apply rejoinFenced_keeps | apply Keeps.forEach | split

/-! ## Culvert -/

theorem sendAck_keeps {fm : Nat} {r0 : State}  {s : State} (hfm : Mask.le 0x800000 fm = true) (h0 : Keeps fm r0 s)  : Keeps fm r0 (sendAck s) := by
  unfold sendAck
  with_reducible repeat' first | assumption | exact fpart (by decide +kernel) hfm | exact fle (by decide +kernel) hfm | exact fok (by decide +kernel) hfm | exact fall (by decide +kernel) hfm | exact fokIx (by decide +kernel) hfm | exact fokAll (by decide +kernel) hfm | refine Mask.ok_ite ?_ ?_ | refine faultsOf_ok ?_ ?_ | apply emit_keeps

theorem sendNak_keeps {fm : Nat} {r0 : State}  {s : State} (hfm : Mask.le 0x840000 fm = true) (h0 : Keeps fm r0 s)  : Keeps fm r0 (sendNak s) := by
  unfold sendNak
  with_reducible repeat' first | assumption | exact fpart (by decide +kernel) hfm | exact fle (by decide +kernel) hfm | exact fok (by decide +kernel) hfm | exact fall (by decide +kernel) hfm | exact fokIx (by decide +kernel) hfm | exact fokAll (by decide +kernel) hfm | refine Mask.ok_ite ?_ ?_ | refine faultsOf_ok ?_ ?_ | apply Keeps.ite | apply emit_keeps | apply modLink_keeps

theorem resend_keeps {fm : Nat} {r0 : State}  {s : State} (hfm : Mask.le 0x40000000000000000000000000000000000000000000000000000000800000 fm = true) (h0 : Keeps fm r0 s)  : Keeps fm r0 (resend s) := by
  unfold resend
  with_reducible repeat' first | assumption | exact fpart (by decide +kernel) hfm | exact fle (by decide +kernel) hfm | exact fok (by decide +kernel) hfm | exact fall (by decide +kernel) hfm | exact fokIx (by decide +kernel) hfm | exact fokAll (by decide +kernel) hfm | refine Mask.ok_ite ?_ ?_ | refine faultsOf_ok ?_ ?_ | refine fun _ _ (_ : Keeps fm r0 _) => ?_ | apply emit_keeps | apply bump_keeps | apply Keeps.forEach

theorem takeAck_keeps {fm : Nat} {r0 : State}  {s : State} {seq : Nat} (hfm : Mask.le 0x1ffffffffffffffffffffffffffffffffffffffffffffffffffffffffffffffffffffffffffffffffffffffffffffffffffffffffffffffffffffffffffffffffffffffffffffffffffffffffffffffffffffffffffe857932 fm = true) (h0 : Keeps fm r0 s)  : Keeps fm r0 (takeAck s seq) := by
  unfold takeAck
  try lift_lets -underBinder
  with_reducible repeat' first | assumption | exact fpart (by decide +kernel) hfm | exact fle (by decide +kernel) hfm | exact fok (by decide +kernel) hfm | exact fall (by decide +kernel) hfm | exact fokIx (by decide +kernel) hfm | exact fokAll (by decide +kernel) hfm | refine Mask.ok_ite ?_ ?_ | refine faultsOf_ok ?_ ?_ | (intro a; refine (fun ha : Keeps fm r0 a => ?_) ?_; clear_value a; rotate_left; dsimp only [a]; rotate_right) | (intro a; clear_value a) | lift_lets -underBinder | apply Keeps.ite | apply modLink_keeps | apply drainQueue_keeps | apply tryComplete_keeps | apply modEp_keeps | split

theorem takeCredits_keeps {fm : Nat} {r0 : State}  {s : State} {l : List Nat} (hfm : Mask.le 0x110000000000000000000000000000000000000000000000000000000840020 fm = true) (h0 : Keeps fm r0 s)  : Keeps fm r0 (takeCredits s l) := by
  unfold takeCredits
  with_reducible repeat' first | assumption | exact fpart (by decide +kernel) hfm | exact fle (by decide +kernel) hfm | exact fok (by decide +kernel) hfm | exact fall (by decide +kernel) hfm | exact fokIx (by decide +kernel) hfm | exact fokAll (by decide +kernel) hfm | refine Mask.ok_ite ?_ ?_ | refine faultsOf_ok ?_ ?_ | apply drainQueue_keeps | apply modLink_keeps

theorem acceptFlit_keeps {fm : Nat} {r0 : State}  {s : State} {h : FlitHdr} {b : Bytes} (hfm : Mask.le 0x840000 fm = true) (h0 : Keeps fm r0 s)  : Keeps fm r0 (acceptFlit s h b) := by
  unfold acceptFlit
  try lift_lets -underBinder
  with_reducible repeat' first | assumption | exact fpart (by decide +kernel) hfm | exact fle (by decide +kernel) hfm | exact fok (by decide +kernel) hfm | exact fall (by decide +kernel) hfm | exact fokIx (by decide +kernel) hfm | exact fokAll (by decide +kernel) hfm | refine Mask.ok_ite ?_ ?_ | refine faultsOf_ok ?_ ?_ | (intro a; refine (fun ha : Keeps fm r0 a => ?_) ?_; clear_value a; rotate_left; dsimp only [a]; rotate_right) | lift_lets -underBinder | apply Keeps.ite | apply modLink_keeps | apply emit_keeps | apply sendAck_keeps

theorem execCulvertFlitReceived_keeps {fm : Nat} {r0 : State}  {b : Bytes} {s : State} (hfm : Mask.le 0x1ffffffffffffffffffffffffffffffffffffffffffffffffffffffffffffffffffffffffffffffffffffffffffffffffffffffffffffffffffffffffffffffffffffffffffffffffffffffffffffffffffffffffffe857932 fm = true) (h0 : Keeps fm r0 s)  : ∃ t1, (execCulvertFlitReceived b s) = .next t1 ∧ Keeps fm r0 t1 := by
  refine ⟨_, rfl, ?_⟩
  try lift_lets -underBinder
  with_reducible repeat' first | assumption | exact fpart (by decide +kernel) hfm | exact fle (by decide +kernel) hfm | exact fok (by decide +kernel) hfm | exact fall (by decide +kernel) hfm | exact fokIx (by decide +kernel) hfm | exact fokAll (by decide +kernel) hfm | refine Mask.ok_ite ?_ ?_ | refine faultsOf_ok ?_ ?_ | (intro a; refine (fun ha : Keeps fm r0 a => ?_) ?_; clear_value a; rotate_left; dsimp only [a]; rotate_right) | (intro a; clear_value a) | lift_lets -underBinder | apply Keeps.ite | apply sendNak_keeps | apply bump_keeps | apply modLink_keeps | apply takeAck_keeps | apply takeCredits_keeps | apply resend_keeps | apply acceptFlit_keeps | apply sendAck_keeps

theorem execCulvertReplayTimeout_keeps {fm : Nat} {r0 : State}  {s : State} (hfm : Mask.le 0x40000000000000000000000000000000000000000000000000000000840000 fm = true) (h0 : Keeps fm r0 s)  : ∃ t1, (execCulvertReplayTimeout s) = .next t1 ∧ Keeps fm r0 t1 := by
  refine ⟨_, rfl, ?_⟩
  with_reducible repeat' first | assumption | exact fpart (by decide +kernel) hfm | exact fle (by decide +kernel) hfm | exact fok (by decide +kernel) hfm | exact fall (by decide +kernel) hfm | exact fokIx (by decide +kernel) hfm | exact fokAll (by decide +kernel) hfm | refine Mask.ok_ite ?_ ?_ | refine faultsOf_ok ?_ ?_ | apply resend_keeps | apply modLink_keeps

theorem goUnmirrored_keeps {fm : Nat} {r0 : State}  {s : State} {p : Nat} (hfm : Mask.le 0x14000000000000190000000000000000000000001000000000000000000400020000040845020 fm = true) (h0 : Keeps fm r0 s)  : Keeps fm r0 (goUnmirrored s p) := by
  unfold goUnmirrored
  with_reducible repeat' first | assumption | exact fpart (by decide +kernel) hfm | exact fle (by decide +kernel) hfm | exact fok (by decide +kernel) hfm | exact fall (by decide +kernel) hfm | exact fokIx (by decide +kernel) hfm | exact fokAll (by decide +kernel) hfm | refine Mask.ok_ite ?_ ?_ | refine faultsOf_ok ?_ ?_ | apply Keeps.ite | apply writeSuper_keeps | apply wrB_keeps

theorem mirrorStops_keeps {fm : Nat} {r0 : State}  {s : State} (hfm : Mask.le 0x14000000000000190000000000000000000200001000000000000000000400020000040845820 fm = true) (h0 : Keeps fm r0 s)  : Keeps fm r0 (mirrorStops s) := by
  unfold mirrorStops
  try lift_lets -underBinder
  with_reducible repeat' first | assumption | exact fpart (by decide +kernel) hfm | exact fle (by decide +kernel) hfm | exact fok (by decide +kernel) hfm | exact fall (by decide +kernel) hfm | exact fokIx (by decide +kernel) hfm | exact fokAll (by decide +kernel) hfm | refine Mask.ok_ite ?_ ?_ | refine faultsOf_ok ?_ ?_ | refine fun _ _ (_ : Keeps fm r0 _) => ?_ | (intro a; refine (fun ha : Keeps fm r0 a => ?_) ?_; clear_value a; rotate_left; dsimp only [a]; rotate_right) | lift_lets -underBinder | apply Keeps.ite | apply leavePair_keeps | apply notePair_keeps | apply goUnmirrored_keeps | apply Keeps.forRange

theorem partnerGone_keeps {fm : Nat} {r0 : State}  {s : State} {cause : Nat} (hfm : Mask.le 0x140000000000000000000000000000000d0200000200000000000000000000020000040c45820 fm = true) (h0 : Keeps fm r0 s)  : Keeps fm r0 (partnerGone s cause) := by
  unfold partnerGone
  try lift_lets -underBinder
  with_reducible repeat' first | assumption | exact fpart (by decide +kernel) hfm | exact fle (by decide +kernel) hfm | exact fok (by decide +kernel) hfm | exact fall (by decide +kernel) hfm | exact fokIx (by decide +kernel) hfm | exact fokAll (by decide +kernel) hfm | refine Mask.ok_ite ?_ ?_ | refine faultsOf_ok ?_ ?_ | refine fun _ _ (_ : Keeps fm r0 _) => ?_ | (intro a; refine (fun ha : Keeps fm r0 a => ?_) ?_; clear_value a; rotate_left; dsimp only [a]; rotate_right) | lift_lets -underBinder | apply leavePair_keeps | apply startTakeover_keeps | apply wr_keeps | apply Keeps.forEach

theorem classify_keeps {fm : Nat} {r0 : State}  {s : State} (hfm : Mask.le 0x30080000000000000000000000000000000000000000000000000000000000000000001400000000017c1900000000000000000d0200001200000000000000000400020000040c45920 fm = true) (h0 : Keeps fm r0 s)  : Keeps fm r0 (classify s) := by
  unfold classify
  try lift_lets -underBinder
  with_reducible repeat' first | assumption | exact fpart (by decide +kernel) hfm | exact fle (by decide +kernel) hfm | exact fok (by decide +kernel) hfm | exact fall (by decide +kernel) hfm | exact fokIx (by decide +kernel) hfm | exact fokAll (by decide +kernel) hfm | refine Mask.ok_ite ?_ ?_ | refine faultsOf_ok ?_ ?_ | (intro a; clear_value a) | lift_lets -underBinder | apply Keeps.ite | apply notePair_keeps | apply raiseOpen_keeps | apply mirrorStops_keeps | apply partnerGone_keeps | split

theorem execPairAliveTimeout_keeps {fm : Nat} {r0 : State}  {s : State} (hfm : Mask.le 0x30080000000000000000000000000000000000000000000000000000000000000000001400000000017c1900000000000000000d1200001200000000000000000400020000040c45920 fm = true) (h0 : Keeps fm r0 s)  : ∃ t1, (execPairAliveTimeout s) = .next t1 ∧ Keeps fm r0 t1 := by
  refine ⟨_, rfl, ?_⟩
  with_reducible repeat' first | assumption | exact fpart (by decide +kernel) hfm | exact fle (by decide +kernel) hfm | exact fok (by decide +kernel) hfm | exact fall (by decide +kernel) hfm | exact fokIx (by decide +kernel) hfm | exact fokAll (by decide +kernel) hfm | refine Mask.ok_ite ?_ ?_ | refine faultsOf_ok ?_ ?_ | apply Keeps.ite | apply classify_keeps | apply wrB_keeps

theorem execPairAliveReturn_keeps {fm : Nat} {r0 : State}  {s : State} (hfm : Mask.le 0x1200000000000000000000000000000000000040000 fm = true) (h0 : Keeps fm r0 s)  : ∃ t1, (execPairAliveReturn s) = .next t1 ∧ Keeps fm r0 t1 := by
  refine ⟨_, rfl, ?_⟩
  try lift_lets -underBinder
  with_reducible repeat' first | assumption | exact fpart (by decide +kernel) hfm | exact fle (by decide +kernel) hfm | exact fok (by decide +kernel) hfm | exact fall (by decide +kernel) hfm | exact fokIx (by decide +kernel) hfm | exact fokAll (by decide +kernel) hfm | refine Mask.ok_ite ?_ ?_ | refine faultsOf_ok ?_ ?_ | (intro a; refine (fun ha : Keeps fm r0 a => ?_) ?_; clear_value a; rotate_left; dsimp only [a]; rotate_right) | lift_lets -underBinder | apply Keeps.ite | apply modPair_keeps | apply wrB_keeps | apply notePair_keeps

theorem execPairHeartbeatTimeout_keeps {fm : Nat} {r0 : State}  {s : State} (hfm : Mask.le 0x30080000000000000000000000000000000000000000000000000000000000000000001400000000017c1900000000000000000d0200001200000000000000000400020000040c45920 fm = true) (h0 : Keeps fm r0 s)  : ∃ t1, (execPairHeartbeatTimeout s) = .next t1 ∧ Keeps fm r0 t1 := by
  refine ⟨_, rfl, ?_⟩
  with_reducible repeat' first | assumption | exact fpart (by decide +kernel) hfm | exact fle (by decide +kernel) hfm | exact fok (by decide +kernel) hfm | exact fall (by decide +kernel) hfm | exact fokIx (by decide +kernel) hfm | exact fokAll (by decide +kernel) hfm | refine Mask.ok_ite ?_ ?_ | refine faultsOf_ok ?_ ?_ | apply Keeps.ite | apply classify_keeps | apply modPair_keeps

theorem setBundle_keeps {fm : Nat} {r0 : State}  {s : State} {b : Nat} {st : Nat} (hfm : Mask.le 0x8000000000000000000000000000000000000000000000000000000000000000000000000000000004000000000000000000000000000000000000000000000000000000000000 fm = true) (h0 : Keeps fm r0 s)  : Keeps fm r0 (setBundle s b st) := by
  unfold setBundle
  with_reducible repeat' first | assumption | exact fpart (by decide +kernel) hfm | exact fle (by decide +kernel) hfm | exact fok (by decide +kernel) hfm | exact fall (by decide +kernel) hfm | exact fokIx (by decide +kernel) hfm | exact fokAll (by decide +kernel) hfm | refine Mask.ok_ite ?_ ?_ | refine faultsOf_ok ?_ ?_ | apply wr_keeps

theorem execBundleTrained_keeps {fm : Nat} {r0 : State}  {b : Nat} {s : State} (hfm : Mask.le 0x8000000000000000000000000000000000000000000000000000000000000000000000000000000006000000000000000000200000000000000000000000000000000000040000 fm = true) (h0 : Keeps fm r0 s)  : ∃ t1, (execBundleTrained b s) = .next t1 ∧ Keeps fm r0 t1 := by
  refine ⟨_, rfl, ?_⟩
  try lift_lets -underBinder
  with_reducible repeat' first | assumption | exact fpart (by decide +kernel) hfm | exact fle (by decide +kernel) hfm | exact fok (by decide +kernel) hfm | exact fall (by decide +kernel) hfm | exact fokIx (by decide +kernel) hfm | exact fokAll (by decide +kernel) hfm | refine Mask.ok_ite ?_ ?_ | refine faultsOf_ok ?_ ?_ | (intro a; refine (fun ha : Keeps fm r0 a => ?_) ?_; clear_value a; rotate_left; dsimp only [a]; rotate_right) | lift_lets -underBinder | apply Keeps.ite | apply setBundle_keeps | apply modPair_keeps | apply notePair_keeps | apply wr_keeps

theorem execBundleFailed_keeps {fm : Nat} {r0 : State}  {b : Nat} {s : State} (hfm : Mask.le 0x18000000000000000000000000000000000000000000000000000000000000000000000000000000006000000000000000000000000000000000000000000000000000000000000 fm = true) (h0 : Keeps fm r0 s)  : ∃ t1, (execBundleFailed b s) = .next t1 ∧ Keeps fm r0 t1 := by
  refine ⟨_, rfl, ?_⟩
  try lift_lets -underBinder
  with_reducible repeat' first | assumption | exact fpart (by decide +kernel) hfm | exact fle (by decide +kernel) hfm | exact fok (by decide +kernel) hfm | exact fall (by decide +kernel) hfm | exact fokIx (by decide +kernel) hfm | exact fokAll (by decide +kernel) hfm | refine Mask.ok_ite ?_ ?_ | refine faultsOf_ok ?_ ?_ | (intro a; refine (fun ha : Keeps fm r0 a => ?_) ?_; clear_value a; rotate_left; dsimp only [a]; rotate_right) | lift_lets -underBinder | apply Keeps.ite | apply bump_keeps | apply setBundle_keeps | apply wr_keeps

theorem dropLink_keeps {fm : Nat} {r0 : State}  {s : State} (hfm : Mask.le 0x18000000000000000000000000000000000000000000000000000000000000000000000000000000206000000000000000000000000000000000000000000000000000000040000 fm = true) (h0 : Keeps fm r0 s)  : Keeps fm r0 (dropLink s) := by
  unfold dropLink
  try lift_lets -underBinder
  with_reducible repeat' first | assumption | exact fpart (by decide +kernel) hfm | exact fle (by decide +kernel) hfm | exact fok (by decide +kernel) hfm | exact fall (by decide +kernel) hfm | exact fokIx (by decide +kernel) hfm | exact fokAll (by decide +kernel) hfm | refine Mask.ok_ite ?_ ?_ | refine faultsOf_ok ?_ ?_ | refine fun _ _ (_ : Keeps fm r0 _) => ?_ | (intro a; refine (fun ha : Keeps fm r0 a => ?_) ?_; clear_value a; rotate_left; dsimp only [a]; rotate_right) | lift_lets -underBinder | apply Keeps.ite | apply bump_keeps | apply setBundle_keeps | apply modPair_keeps | apply wr_keeps | apply Keeps.forRange

theorem execCulvertDown_keeps {fm : Nat} {r0 : State}  {s : State} (hfm : Mask.le 0x30081800000000000000000000000000000000000000000000000000000000000000001400000000017c3960000000000000000d0200001200000000000000000400020000040c45920 fm = true) (h0 : Keeps fm r0 s)  : ∃ t1, (execCulvertDown s) = .next t1 ∧ Keeps fm r0 t1 := by
  refine ⟨_, rfl, ?_⟩
  with_reducible repeat' first | assumption | exact fpart (by decide +kernel) hfm | exact fle (by decide +kernel) hfm | exact fok (by decide +kernel) hfm | exact fall (by decide +kernel) hfm | exact fokIx (by decide +kernel) hfm | exact fokAll (by decide +kernel) hfm | refine Mask.ok_ite ?_ ?_ | refine faultsOf_ok ?_ ?_ | apply Keeps.ite | apply classify_keeps | apply dropLink_keeps

/-! ## Pair -/

theorem keepMirror_keeps {fm : Nat} {r0 : State}  {s : State} {n : Nat} {x : Slot} (hfm : Mask.le 0x700000000000000000000000000000000000000000000000000000000000000000000000000000000000000000000000000000000000000020800 fm = true) (h0 : Keeps fm r0 s)  : Keeps fm r0 (keepMirror s n x) := by
  unfold keepMirror
  with_reducible repeat' first | assumption | exact fpart (by decide +kernel) hfm | exact fle (by decide +kernel) hfm | exact fok (by decide +kernel) hfm | exact fall (by decide +kernel) hfm | exact fokIx (by decide +kernel) hfm | exact fokAll (by decide +kernel) hfm | refine Mask.ok_ite ?_ ?_ | refine faultsOf_ok ?_ ?_ | apply noteSlots_keeps | apply touchDesc_keeps | fail_if_no_progress (apply Keeps.upd <;> try first | exact Or.inr (fpart (by decide +kernel) hfm) | exact Or.inl rfl)

theorem freeMirror_keeps {fm : Nat} {r0 : State}  {s : State} {f : Nat → Slot → Bool} (hfm : Mask.le 0x700000000000000000000000000000000000000000000000000000000000000000000000000000000000000000000000000000000000000000800 fm = true) (h0 : Keeps fm r0 s)  : Keeps fm r0 (freeMirror s f) := by
  unfold freeMirror
  with_reducible repeat' first | assumption | exact fpart (by decide +kernel) hfm | exact fle (by decide +kernel) hfm | exact fok (by decide +kernel) hfm | exact fall (by decide +kernel) hfm | exact fokIx (by decide +kernel) hfm | exact fokAll (by decide +kernel) hfm | refine Mask.ok_ite ?_ ?_ | refine faultsOf_ok ?_ ?_ | apply noteSlots_keeps | fail_if_no_progress (apply Keeps.upd <;> try first | exact Or.inr (fpart (by decide +kernel) hfm) | exact Or.inl rfl)

theorem applyOffered_keeps {fm : Nat} {r0 : State}  {s : State} {p : Nat} {l : List Nat} (hfm : Mask.le 0x300801c002000000021f000000000070000000010000000000000000000000000000001400860080017c190000000000000000000000000080000000000000000000020000040877d20 fm = true) (h0 : Keeps fm r0 s)  : Keeps fm r0 (applyOffered s p l) := by
  unfold applyOffered
  with_reducible repeat' first | assumption | exact fpart (by decide +kernel) hfm | exact fle (by decide +kernel) hfm | exact fok (by decide +kernel) hfm | exact fall (by decide +kernel) hfm | exact fokIx (by decide +kernel) hfm | exact fokAll (by decide +kernel) hfm | refine Mask.ok_ite ?_ ?_ | refine faultsOf_ok ?_ ?_ | refine fun _ _ (_ : Keeps fm r0 _) => ?_ | apply settleSlots_keeps | apply noteSlots_keeps | apply adoptSlot_keeps | apply Keeps.forEach

theorem offerSlot_keeps {fm : Nat} {r0 : State}  {s : State} {p : Nat} {n : Nat} {x : Slot} (hfm : Mask.le 0x300801c002000000021f000000000070000000010000000000000000000000000000001400860080017c190000000000000000000000000080000000000000000000020000040877d20 fm = true) (h0 : Keeps fm r0 s)  : Keeps fm r0 (offerSlot s p n x) := by
  unfold offerSlot
  with_reducible repeat' first | assumption | exact fpart (by decide +kernel) hfm | exact fle (by decide +kernel) hfm | exact fok (by decide +kernel) hfm | exact fall (by decide +kernel) hfm | exact fokIx (by decide +kernel) hfm | exact fokAll (by decide +kernel) hfm | refine Mask.ok_ite ?_ ?_ | refine faultsOf_ok ?_ ?_ | apply Keeps.ite | apply keepMirror_keeps | apply applyOffered_keeps

theorem offerMarked_keeps {fm : Nat} {r0 : State}  {s : State} {p : Nat} {first : Nat} (hfm : Mask.le 0x300801c002000000021f000000000070000000010000000000000000000000000000001400860080017c190000000000000000000000000080000000000000000000020000040877d20 fm = true) (h0 : Keeps fm r0 s)  : Keeps fm r0 (offerMarked s p first) := by
  unfold offerMarked
  try lift_lets -underBinder
  with_reducible repeat' first | assumption | exact fpart (by decide +kernel) hfm | exact fle (by decide +kernel) hfm | exact fok (by decide +kernel) hfm | exact fall (by decide +kernel) hfm | exact fokIx (by decide +kernel) hfm | exact fokAll (by decide +kernel) hfm | refine Mask.ok_ite ?_ ?_ | refine faultsOf_ok ?_ ?_ | (intro a; clear_value a) | lift_lets -underBinder | apply Keeps.ite | apply freeMirror_keeps | apply applyOffered_keeps

theorem keepReturned_keeps {fm : Nat} {r0 : State}  {s : State} {p : Nat} {n : Nat} {md : Bytes} {data : Bytes} (hfm : Mask.le 0x40000 fm = true) (h0 : Keeps fm r0 s)  : Keeps fm r0 (keepReturned s p n md data) := by
  unfold keepReturned
  with_reducible repeat' first | assumption | exact fpart (by decide +kernel) hfm | exact fle (by decide +kernel) hfm | exact fok (by decide +kernel) hfm | exact fall (by decide +kernel) hfm | exact fokIx (by decide +kernel) hfm | exact fokAll (by decide +kernel) hfm | refine Mask.ok_ite ?_ ?_ | refine faultsOf_ok ?_ ?_ | apply modPair_keeps

theorem healSlot_keeps {fm : Nat} {r0 : State}  {s : State} {p : Nat} {n : Nat} {m : Meta} {data : Bytes} (hfm : Mask.le 0x8000000000000000000000000000000000000000000000000000000000000000000000000000000000000000000000000000000000800 fm = true) (h0 : Keeps fm r0 s)  : Keeps fm r0 (healSlot s p n m data) := by
  unfold healSlot
  with_reducible repeat' first | assumption | exact fpart (by decide +kernel) hfm | exact fle (by decide +kernel) hfm | exact fok (by decide +kernel) hfm | exact fall (by decide +kernel) hfm | exact fokIx (by decide +kernel) hfm | exact fokAll (by decide +kernel) hfm | refine Mask.ok_ite ?_ ?_ | refine faultsOf_ok ?_ ?_ | apply Keeps.ite | apply bump_keeps | apply modSlot_keeps | split

theorem execMirrorData_keeps {fm : Nat} {r0 : State}  {id : Nat} {p : Nat} {n : Nat} {flags : Nat} {ref : Nat} {md : Bytes} {data : Bytes} {s : State} (hfm : Mask.le 0x300801c002000000021f000000000070000000810000000000000000000000000000001400860080017c190000000000000000000000000080000000000000000000020000040877d20 fm = true) (h0 : Keeps fm r0 s)  : ∃ t1, (execMirrorData id p n flags ref md data s) = .next t1 ∧ Keeps fm r0 t1 := by
  refine ⟨_, rfl, ?_⟩
  try lift_lets -underBinder
  with_reducible repeat' first | assumption | exact fpart (by decide +kernel) hfm | exact fle (by decide +kernel) hfm | exact fok (by decide +kernel) hfm | exact fall (by decide +kernel) hfm | exact fokIx (by decide +kernel) hfm | exact fokAll (by decide +kernel) hfm | refine Mask.ok_ite ?_ ?_ | refine faultsOf_ok ?_ ?_ | (intro a; refine (fun ha : Keeps fm r0 a => ?_) ?_; clear_value a; rotate_left; dsimp only [a]; rotate_right) | (intro a; clear_value a) | lift_lets -underBinder | apply Keeps.ite | apply sendMsg_keeps | apply healSlot_keeps | apply keepReturned_keeps | apply offerSlot_keeps | apply keepMirror_keeps

theorem releaseReturned_keeps {fm : Nat} {r0 : State}  {s : State} {p : Nat} (hfm : Mask.le 0x700000000000000000000000000000000000000000000000000000000000000000000000000000000000000000000000000000000000000000800 fm = true) (h0 : Keeps fm r0 s)  : Keeps fm r0 (releaseReturned s p) := by
  unfold releaseReturned
  try lift_lets -underBinder
  with_reducible repeat' first | assumption | exact fpart (by decide +kernel) hfm | exact fle (by decide +kernel) hfm | exact fok (by decide +kernel) hfm | exact fall (by decide +kernel) hfm | exact fokIx (by decide +kernel) hfm | exact fokAll (by decide +kernel) hfm | refine Mask.ok_ite ?_ ?_ | refine faultsOf_ok ?_ ?_ | (intro a; clear_value a) | lift_lets -underBinder | apply Keeps.ite | apply noteSlots_keeps | fail_if_no_progress (apply Keeps.upd <;> try first | exact Or.inr (fpart (by decide +kernel) hfm) | exact Or.inl rfl)

theorem ackMirror_keeps {fm : Nat} {r0 : State}  {s : State} {id : Nat} (hfm : Mask.le 0x40800 fm = true) (h0 : Keeps fm r0 s)  : Keeps fm r0 (ackMirror s id) := by
  unfold ackMirror
  with_reducible repeat' first | assumption | exact fpart (by decide +kernel) hfm | exact fle (by decide +kernel) hfm | exact fok (by decide +kernel) hfm | exact fall (by decide +kernel) hfm | exact fokIx (by decide +kernel) hfm | exact fokAll (by decide +kernel) hfm | refine Mask.ok_ite ?_ ?_ | refine faultsOf_ok ?_ ?_ | apply modSlot_keeps | apply modPair_keeps | split

theorem resendMirror_keeps {fm : Nat} {r0 : State}  {s : State} {id : Nat} (hfm : Mask.le 0x590000000000000000000000000000000000000000000000000000000840020 fm = true) (h0 : Keeps fm r0 s)  : Keeps fm r0 (resendMirror s id) := by
  unfold resendMirror
  try lift_lets -underBinder
  with_reducible repeat' first | assumption | exact fpart (by decide +kernel) hfm | exact fle (by decide +kernel) hfm | exact fok (by decide +kernel) hfm | exact fall (by decide +kernel) hfm | exact fokIx (by decide +kernel) hfm | exact fokAll (by decide +kernel) hfm | refine Mask.ok_ite ?_ ?_ | refine faultsOf_ok ?_ ?_ | (intro a; refine (fun ha : Keeps fm r0 a => ?_) ?_; clear_value a; rotate_left; dsimp only [a]; rotate_right) | lift_lets -underBinder | apply bump_keeps | apply modPair_keeps | apply sendMirror_keeps | split

theorem execMirrorAck_keeps {fm : Nat} {r0 : State}  {acc : List Nat} {rej : List Nat} {s : State} (hfm : Mask.le 0x700000000000000000000000000000000000000000000000000000590000000000000000000000001200000000000000000000000000000841820 fm = true) (h0 : Keeps fm r0 s)  : ∃ t1, (execMirrorAck acc rej s) = .next t1 ∧ Keeps fm r0 t1 := by
  refine ⟨_, rfl, ?_⟩
  try lift_lets -underBinder
  with_reducible repeat' first | assumption | exact fpart (by decide +kernel) hfm | exact fle (by decide +kernel) hfm | exact fok (by decide +kernel) hfm | exact fall (by decide +kernel) hfm | exact fokIx (by decide +kernel) hfm | exact fokAll (by decide +kernel) hfm | refine Mask.ok_ite ?_ ?_ | refine faultsOf_ok ?_ ?_ | refine fun _ _ (_ : Keeps fm r0 _) => ?_ | (intro a; refine (fun ha : Keeps fm r0 a => ?_) ?_; clear_value a; rotate_left; dsimp only [a]; rotate_right) | lift_lets -underBinder | apply resendMirror_keeps | apply ackMirror_keeps | apply releaseReturned_keeps | apply endCatchUp_keeps | apply Keeps.forEach | apply Keeps.forRange

theorem execMirrorRelease_keeps {fm : Nat} {r0 : State}  {l : List Nat} {s : State} (hfm : Mask.le 0x700000000000000000000000000000000000000000000000000000000000000000000000000000000000000000000000000000000000000000800 fm = true) (h0 : Keeps fm r0 s)  : ∃ t1, (execMirrorRelease l s) = .next t1 ∧ Keeps fm r0 t1 := by
  refine ⟨_, rfl, ?_⟩
  with_reducible repeat' first | assumption | exact fpart (by decide +kernel) hfm | exact fle (by decide +kernel) hfm | exact fok (by decide +kernel) hfm | exact fall (by decide +kernel) hfm | exact fokIx (by decide +kernel) hfm | exact fokAll (by decide +kernel) hfm | refine Mask.ok_ite ?_ ?_ | refine faultsOf_ok ?_ ?_ | apply freeMirror_keeps

theorem execAtomicMark_keeps {fm : Nat} {r0 : State}  {p : Nat} {vol : Nat} {first : Nat} {n : Nat} {s : State} (hfm : Mask.le 0x300801c002000000021f000000000070000000010000000000000000000000000000001400860080017c190000000000000000000000000080000000000000000000020000040877d20 fm = true) (h0 : Keeps fm r0 s)  : ∃ t1, (execAtomicMark p vol first n s) = .next t1 ∧ Keeps fm r0 t1 := by
  refine ⟨_, rfl, ?_⟩
  with_reducible repeat' first | assumption | exact fpart (by decide +kernel) hfm | exact fle (by decide +kernel) hfm | exact fok (by decide +kernel) hfm | exact fall (by decide +kernel) hfm | exact fokIx (by decide +kernel) hfm | exact fokAll (by decide +kernel) hfm | refine Mask.ok_ite ?_ ?_ | refine faultsOf_ok ?_ ?_ | apply Keeps.ite | apply offerMarked_keeps | apply modPair_keeps

theorem keepRecord_keeps {fm : Nat} {r0 : State}  {s : State} {p : Nat} {r : RecItem} (hfm : Mask.le 0x40000 fm = true) (h0 : Keeps fm r0 s)  : Keeps fm r0 (keepRecord s p r) := by
  unfold keepRecord
  try lift_lets -underBinder
  with_reducible repeat' first | assumption | exact fpart (by decide +kernel) hfm | exact fle (by decide +kernel) hfm | exact fok (by decide +kernel) hfm | exact fall (by decide +kernel) hfm | exact fokIx (by decide +kernel) hfm | exact fokAll (by decide +kernel) hfm | refine Mask.ok_ite ?_ ?_ | refine faultsOf_ok ?_ ?_ | (intro a; clear_value a) | apply modPair_keeps

theorem execRecord_keeps {fm : Nat} {r0 : State}  {id : Nat} {p : Nat} {l : List RecItem} {s : State} (hfm : Mask.le 0x190000000000000000000000000000000000000000000000000000000840020 fm = true) (h0 : Keeps fm r0 s)  : ∃ t1, (execRecord id p l s) = .next t1 ∧ Keeps fm r0 t1 := by
  refine ⟨_, rfl, ?_⟩
  with_reducible repeat' first | assumption | exact fpart (by decide +kernel) hfm | exact fle (by decide +kernel) hfm | exact fok (by decide +kernel) hfm | exact fall (by decide +kernel) hfm | exact fokIx (by decide +kernel) hfm | exact fokAll (by decide +kernel) hfm | refine Mask.ok_ite ?_ ?_ | refine faultsOf_ok ?_ ?_ | refine fun _ _ (_ : Keeps fm r0 _) => ?_ | apply Keeps.ite | apply sendMsg_keeps | apply keepRecord_keeps | apply Keeps.forEach

theorem passRecords_keeps {fm : Nat} {r0 : State}  {s : State} {p : Nat} (hfm : Mask.le 0x190000000000000000000000000000000000000000000000000000000840020 fm = true) (h0 : Keeps fm r0 s)  : Keeps fm r0 (passRecords s p) := by
  unfold passRecords
  with_reducible repeat' first
    | assumption
    | exact fpart (by decide +kernel) hfm
    | exact fle (by decide +kernel) hfm
    | exact fok (by decide +kernel) hfm
    | exact fall (by decide +kernel) hfm
    | exact fokIx (by decide +kernel) hfm
    | exact fokAll (by decide +kernel) hfm
    | refine Mask.ok_ite ?_ ?_
    | refine faultsOf_ok ?_ ?_
    | refine fun _ (_ : Keeps fm r0 _) => ?_
    | refine fun _ _ (_ : Keeps fm r0 _) => ?_
    | refine fun _ _ _ (_ : Keeps fm r0 _) => ?_
    | exact KeepsO.get rfl (by assumption)
    | exact KeepsP.get rfl (by assumption)
    | apply Keeps.ite
    | apply sendMsg_keeps
    | apply Keeps.forEach
    | apply Keeps.forRange
    | apply Keeps.foldl
    | apply Keeps.foldl_fst
    | apply Keeps.foldl_snd
    | exact KeepsO.none
    | exact KeepsP.none
    | apply KeepsO.some
    | apply KeepsP.some
    | apply KeepsO.ite
    | apply KeepsP.ite
    | refine KeepsO.foldl _ _ ?_ (fun _ _ _ => ?_)
    | exact KeepsF.lost
    | apply KeepsF.started
    | apply KeepsF.ite
    | fail_if_no_progress (apply Keeps.upd <;> try first | exact Or.inr (fpart (by decide +kernel) hfm) | exact Or.inl rfl)
    | fail_if_no_progress (apply Keeps.updDict <;> try first | exact Or.inr (fpart (by decide +kernel) hfm) | exact Or.inl rfl)
    | refine Keeps.updRegs (rg := Tbl.filterK _ _) ?_ (Tbl.wf_filterK _) (Tbl.wf_filterK _)
    | refine Keeps.updRegs (rg := Tbl.filterK _ _) ?_ (Tbl.wf_filterK _) id
    | split
    | refine Keeps.of_snd (by assumption) ?_
    | refine Keeps.of_fst (by assumption) ?_
    | refine KeepsO.get (by assumption) ?_
    | refine KeepsP.get (by assumption) ?_
    | refine KeepsF.get (by assumption) ?_

theorem recordAcked_keeps {fm : Nat} {r0 : State}  {s : State} {r : LogRec} (hfm : Mask.le 0x800 fm = true) (h0 : Keeps fm r0 s)  : Keeps fm r0 (recordAcked s r) := by
  unfold recordAcked
  with_reducible repeat' first | assumption | exact fpart (by decide +kernel) hfm | exact fle (by decide +kernel) hfm | exact fok (by decide +kernel) hfm | exact fall (by decide +kernel) hfm | exact fokIx (by decide +kernel) hfm | exact fokAll (by decide +kernel) hfm | refine Mask.ok_ite ?_ ?_ | refine faultsOf_ok ?_ ?_ | split | fail_if_no_progress (apply Keeps.upd <;> try first | exact Or.inr (fpart (by decide +kernel) hfm) | exact Or.inl rfl)

theorem execRecordAck_keeps {fm : Nat} {r0 : State}  {id : Nat} {s : State} (hfm : Mask.le 0x1200000000000000000000000000000041800 fm = true) (h0 : Keeps fm r0 s)  : ∃ t1, (execRecordAck id s) = .next t1 ∧ Keeps fm r0 t1 := by
  refine ⟨_, rfl, ?_⟩
  try lift_lets -underBinder
  with_reducible repeat' first | assumption | exact fpart (by decide +kernel) hfm | exact fle (by decide +kernel) hfm | exact fok (by decide +kernel) hfm | exact fall (by decide +kernel) hfm | exact fokIx (by decide +kernel) hfm | exact fokAll (by decide +kernel) hfm | refine Mask.ok_ite ?_ ?_ | refine faultsOf_ok ?_ ?_ | refine fun _ _ (_ : Keeps fm r0 _) => ?_ | (intro a; refine (fun ha : Keeps fm r0 a => ?_) ?_; clear_value a; rotate_left; dsimp only [a]; rotate_right) | (intro a; clear_value a) | lift_lets -underBinder | apply recordAcked_keeps | apply modPair_keeps | apply endCatchUp_keeps | apply Keeps.forEach | apply Keeps.forRange

theorem execSync_keeps {fm : Nat} {r0 : State}  {p : Nat} {start : Bool} {s : State} (hfm : Mask.le 0x700000000000000000000000000000000000000000000000000000000000000000000000000000000000000000000000000000000000000040800 fm = true) (h0 : Keeps fm r0 s)  : ∃ t1, (execSync p start s) = .next t1 ∧ Keeps fm r0 t1 := by
  refine ⟨_, rfl, ?_⟩
  with_reducible repeat' first | assumption | exact fpart (by decide +kernel) hfm | exact fle (by decide +kernel) hfm | exact fok (by decide +kernel) hfm | exact fall (by decide +kernel) hfm | exact fokIx (by decide +kernel) hfm | exact fokAll (by decide +kernel) hfm | refine Mask.ok_ite ?_ ?_ | refine faultsOf_ok ?_ ?_ | apply Keeps.ite | apply modPair_keeps | apply freeMirror_keeps

theorem offerSlots_keeps {fm : Nat} {r0 : State}  {s : State} {p : Nat} (hfm : Mask.le 0x190000000000000000000000000000000000000000000000000000000840020 fm = true) (h0 : Keeps fm r0 s)  : Keeps fm r0 (offerSlots s p) := by
  unfold offerSlots
  try lift_lets -underBinder
  with_reducible repeat' first | assumption | exact fpart (by decide +kernel) hfm | exact fle (by decide +kernel) hfm | exact fok (by decide +kernel) hfm | exact fall (by decide +kernel) hfm | exact fokIx (by decide +kernel) hfm | exact fokAll (by decide +kernel) hfm | refine Mask.ok_ite ?_ ?_ | refine faultsOf_ok ?_ ?_ | refine fun _ _ (_ : Keeps fm r0 _) => ?_ | (intro a; refine (fun ha : Keeps fm r0 a => ?_) ?_; clear_value a; rotate_left; dsimp only [a]; rotate_right) | (intro a; clear_value a) | apply sendMirror_keeps | apply sendMsg_keeps | apply Keeps.forEach | split

theorem execSettled_keeps {fm : Nat} {r0 : State}  {p : Nat} {s : State} (hfm : Mask.le 0x700000000000000000000000000000000000000000000000000000190000000000000000000000000000000000000000000000000000000840820 fm = true) (h0 : Keeps fm r0 s)  : ∃ t1, (execSettled p s) = .next t1 ∧ Keeps fm r0 t1 := by
  refine ⟨_, rfl, ?_⟩
  with_reducible repeat' first | assumption | exact fpart (by decide +kernel) hfm | exact fle (by decide +kernel) hfm | exact fok (by decide +kernel) hfm | exact fall (by decide +kernel) hfm | exact fokIx (by decide +kernel) hfm | exact fokAll (by decide +kernel) hfm | refine Mask.ok_ite ?_ ?_ | refine faultsOf_ok ?_ ?_ | apply Keeps.ite | apply releaseReturned_keeps | apply offerSlots_keeps | apply modPair_keeps

theorem takeConfig_keeps {fm : Nat} {r0 : State}  {s : State} {p : Nat} {st : Nat} {b : Bytes} (hfm : Mask.le 0x30080000000000000000000000000000000000000000000000000000000000000000000000000001017c00000000000780000000000000027c0003f0000000023e1fa000200008013a0 fm = true) (h0 : Keeps fm r0 s)  : Keeps fm r0 (takeConfig s p st b) := by
  unfold takeConfig
  try lift_lets -underBinder
  with_reducible repeat' first | assumption | exact fpart (by decide +kernel) hfm | exact fle (by decide +kernel) hfm | exact fok (by decide +kernel) hfm | exact fall (by decide +kernel) hfm | exact fokIx (by decide +kernel) hfm | exact fokAll (by decide +kernel) hfm | refine Mask.ok_ite ?_ ?_ | refine faultsOf_ok ?_ ?_ | (intro a; refine (fun ha : Keeps fm r0 a => ?_) ?_; clear_value a; rotate_left; dsimp only [a]; rotate_right) | lift_lets -underBinder | apply Keeps.ite | apply wr_keeps | apply adoptSuper_keeps

theorem execConfig_keeps {fm : Nat} {r0 : State}  {p : Nat} {gen : Nat} {off : Nat} {data : Bytes} {st : Nat} {s : State} (hfm : Mask.le 0x30080000000000000000000000000000000000000000000000000000000000000000000000000001017c00000000000780000000000000027c0003f0000000023e1fa000200008413a0 fm = true) (h0 : Keeps fm r0 s)  : ∃ t1, (execConfig p gen off data st s) = .next t1 ∧ Keeps fm r0 t1 := by
  refine ⟨_, rfl, ?_⟩
  try lift_lets -underBinder
  with_reducible repeat' first | assumption | exact fpart (by decide +kernel) hfm | exact fle (by decide +kernel) hfm | exact fok (by decide +kernel) hfm | exact fall (by decide +kernel) hfm | exact fokIx (by decide +kernel) hfm | exact fokAll (by decide +kernel) hfm | refine Mask.ok_ite ?_ ?_ | refine faultsOf_ok ?_ ?_ | (intro a; refine (fun ha : Keeps fm r0 a => ?_) ?_; clear_value a; rotate_left; dsimp only [a]; rotate_right) | (intro a; clear_value a) | lift_lets -underBinder | apply Keeps.ite | apply modPair_keeps | apply takeConfig_keeps

theorem execHeartbeatInterval_keeps {fm : Nat} {r0 : State}  {s : State} (hfm : Mask.le 0x190000000000000000000000000000000000000000000000000000000840020 fm = true) (h0 : Keeps fm r0 s)  : ∃ t1, (execHeartbeatInterval s) = .next t1 ∧ Keeps fm r0 t1 := by
  refine ⟨_, rfl, ?_⟩
  with_reducible repeat' first | assumption | exact fpart (by decide +kernel) hfm | exact fle (by decide +kernel) hfm | exact fok (by decide +kernel) hfm | exact fall (by decide +kernel) hfm | exact fokIx (by decide +kernel) hfm | exact fokAll (by decide +kernel) hfm | refine Mask.ok_ite ?_ ?_ | refine faultsOf_ok ?_ ?_ | apply Keeps.ite | apply sendMsg_keeps

theorem weirFell_keeps {fm : Nat} {r0 : State}  {s : State} (hfm : Mask.le 0x3008000000000000001f000000000000000000000000000000000000000000000000001400000000017c190000000000000000000000000000000000000000000000020000040845920 fm = true) (h0 : Keeps fm r0 s)  : Keeps fm r0 (weirFell s) := by
  unfold weirFell
  with_reducible repeat' first | assumption | exact fpart (by decide +kernel) hfm | exact fle (by decide +kernel) hfm | exact fok (by decide +kernel) hfm | exact fall (by decide +kernel) hfm | exact fokIx (by decide +kernel) hfm | exact fokAll (by decide +kernel) hfm | refine Mask.ok_ite ?_ ?_ | refine faultsOf_ok ?_ ?_ | refine fun _ _ (_ : Keeps fm r0 _) => ?_ | apply raiseOpen_keeps | apply forceWhere_keeps | apply Keeps.forRange

theorem takeFaults_keeps {fm : Nat} {r0 : State}  {s : State} {fa : Nat} {fb : Nat} (hfm : Mask.le 0x1800000000000000000000000000000000000000040000 fm = true) (h0 : Keeps fm r0 s)  : Keeps fm r0 (takeFaults s fa fb) := by
  unfold takeFaults
  try lift_lets -underBinder
  with_reducible repeat' first
    | assumption
    | exact fpart (by decide +kernel) hfm
    | exact fle (by decide +kernel) hfm
    | exact fok (by decide +kernel) hfm
    | exact fall (by decide +kernel) hfm
    | exact fokIx (by decide +kernel) hfm
    | exact fokAll (by decide +kernel) hfm
    | refine Mask.ok_ite ?_ ?_
    | refine faultsOf_ok ?_ ?_
    | refine fun _ (_ : Keeps fm r0 _) => ?_
    | refine fun _ _ (_ : Keeps fm r0 _) => ?_
    | refine fun _ _ _ (_ : Keeps fm r0 _) => ?_
    | exact KeepsO.get rfl (by assumption)
    | exact KeepsP.get rfl (by assumption)
    | (intro a; refine (fun ha : Keeps fm r0 a => ?_) ?_; clear_value a; rotate_left; dsimp only [a]; rotate_right)
    | (intro a; refine (fun ha : Keeps fm r0 a.2 => ?_) ?_; clear_value a; rotate_left; dsimp only [a]; rotate_right)
    | (intro a; refine (fun ha : Keeps fm r0 a.1 => ?_) ?_; clear_value a; rotate_left; dsimp only [a]; rotate_right)
    | (intro a; refine (fun ha : KeepsO fm r0 a => ?_) ?_; clear_value a; rotate_left; dsimp only [a]; rotate_right)
    | (have _ := @hgb; intro a; refine (fun hgc : ∀ t, Keeps fm r0 t → Keeps fm r0 (a t) => ?_) ?_; clear_value a; rotate_left; dsimp only [a]; rotate_right)
    | (have _ := @hga; intro a; refine (fun hgb : ∀ t, Keeps fm r0 t → Keeps fm r0 (a t) => ?_) ?_; clear_value a; rotate_left; dsimp only [a]; rotate_right)
    | (intro a; refine (fun hga : ∀ t, Keeps fm r0 t → Keeps fm r0 (a t) => ?_) ?_; clear_value a; rotate_left; dsimp only [a]; rotate_right)
    | (have _ := @hgb; intro a; refine (fun hgc : ∀ x t, Keeps fm r0 t → Keeps fm r0 (a x t) => ?_) ?_; clear_value a; rotate_left; dsimp only [a]; rotate_right)
    | (have _ := @hga; intro a; refine (fun hgb : ∀ x t, Keeps fm r0 t → Keeps fm r0 (a x t) => ?_) ?_; clear_value a; rotate_left; dsimp only [a]; rotate_right)
    | (intro a; refine (fun hga : ∀ x t, Keeps fm r0 t → Keeps fm r0 (a x t) => ?_) ?_; clear_value a; rotate_left; dsimp only [a]; rotate_right)
    | (have _ := @hgb; intro a; refine (fun hgc : ∀ x y t, Keeps fm r0 t → Keeps fm r0 (a x y t) => ?_) ?_; clear_value a; rotate_left; dsimp only [a]; rotate_right)
    | (have _ := @hga; intro a; refine (fun hgb : ∀ x y t, Keeps fm r0 t → Keeps fm r0 (a x y t) => ?_) ?_; clear_value a; rotate_left; dsimp only [a]; rotate_right)
    | (intro a; refine (fun hga : ∀ x y t, Keeps fm r0 t → Keeps fm r0 (a x y t) => ?_) ?_; clear_value a; rotate_left; dsimp only [a]; rotate_right)
    | (have _ := @hgb; intro a; refine (fun hgc : ∀ t x, Keeps fm r0 t → Keeps fm r0 (a t x) => ?_) ?_; clear_value a; rotate_left; dsimp only [a]; rotate_right)
    | (have _ := @hga; intro a; refine (fun hgb : ∀ t x, Keeps fm r0 t → Keeps fm r0 (a t x) => ?_) ?_; clear_value a; rotate_left; dsimp only [a]; rotate_right)
    | (intro a; refine (fun hga : ∀ t x, Keeps fm r0 t → Keeps fm r0 (a t x) => ?_) ?_; clear_value a; rotate_left; dsimp only [a]; rotate_right)
    | (intro a; refine (fun (_ : a = (a : Dict)) => ?_) rfl; dsimp only [a])
    | (intro a; clear_value a)
    | apply hga
    | apply hgb
    | apply hgc
    | lift_lets -underBinder
    | apply Keeps.ite
    | apply modPair_keeps
    | apply wr_keeps
    | apply Keeps.forEach
    | apply Keeps.forRange
    | apply Keeps.foldl
    | apply Keeps.foldl_fst
    | apply Keeps.foldl_snd
    | exact KeepsO.none
    | exact KeepsP.none
    | apply KeepsO.some
    | apply KeepsP.some
    | apply KeepsO.ite
    | apply KeepsP.ite
    | refine KeepsO.foldl _ _ ?_ (fun _ _ _ => ?_)
    | exact KeepsF.lost
    | apply KeepsF.started
    | apply KeepsF.ite
    | refine Keeps.of_snd (by assumption) ?_
    | refine Keeps.of_fst (by assumption) ?_
    | refine KeepsO.get (by assumption) ?_
    | refine KeepsP.get (by assumption) ?_
    | refine KeepsF.get (by assumption) ?_
    | split
    | fail_if_no_progress (apply Keeps.upd <;> try first | exact Or.inr (fpart (by decide +kernel) hfm) | exact Or.inl rfl)
    | fail_if_no_progress (apply Keeps.updDict <;> try first | exact Or.inr (fpart (by decide +kernel) hfm) | exact Or.inl rfl)
    | refine Keeps.updRegs (rg := Tbl.filterK _ _) ?_ (Tbl.wf_filterK _) (Tbl.wf_filterK _)
    | refine Keeps.updRegs (rg := Tbl.filterK _ _) ?_ (Tbl.wf_filterK _) id

theorem checkFaults_keeps {fm : Nat} {r0 : State}  {s : State} (hfm : Mask.le 0x140000000000000000000000000000000d0200000000000000000000000000020000040c45820 fm = true) (h0 : Keeps fm r0 s)  : Keeps fm r0 (checkFaults s) := by
  unfold checkFaults
  with_reducible repeat' first | assumption | exact fpart (by decide +kernel) hfm | exact fle (by decide +kernel) hfm | exact fok (by decide +kernel) hfm | exact fall (by decide +kernel) hfm | exact fokIx (by decide +kernel) hfm | exact fokAll (by decide +kernel) hfm | refine Mask.ok_ite ?_ ?_ | refine faultsOf_ok ?_ ?_ | apply Keeps.ite | apply startTakeover_keeps

theorem noteFault_keeps {fm : Nat} {r0 : State}  {s : State} {side : Nat} (hfm : Mask.le 0x140000000000000000000000000000018d0200000000000000000000000000020000040c45820 fm = true) (h0 : Keeps fm r0 s)  : Keeps fm r0 (noteFault s side) := by
  unfold noteFault
  try lift_lets -underBinder
  with_reducible repeat' first | assumption | exact fpart (by decide +kernel) hfm | exact fle (by decide +kernel) hfm | exact fok (by decide +kernel) hfm | exact fall (by decide +kernel) hfm | exact fokIx (by decide +kernel) hfm | exact fokAll (by decide +kernel) hfm | refine Mask.ok_ite ?_ ?_ | refine faultsOf_ok ?_ ?_ | (intro a; refine (fun ha : Keeps fm r0 a => ?_) ?_; clear_value a; rotate_left; dsimp only [a]; rotate_right) | (intro a; clear_value a) | lift_lets -underBinder | apply modPair_keeps | apply checkFaults_keeps | apply wr_keeps

theorem sendReconcile_keeps {fm : Nat} {r0 : State}  {s : State} (hfm : Mask.le 0x190000000000000000000000000000000000000000000000000000000840020 fm = true) (h0 : Keeps fm r0 s)  : Keeps fm r0 (sendReconcile s) := by
  unfold sendReconcile
  try lift_lets -underBinder
  with_reducible repeat' first | assumption | exact fpart (by decide +kernel) hfm | exact fle (by decide +kernel) hfm | exact fok (by decide +kernel) hfm | exact fall (by decide +kernel) hfm | exact fokIx (by decide +kernel) hfm | exact fokAll (by decide +kernel) hfm | refine Mask.ok_ite ?_ ?_ | refine faultsOf_ok ?_ ?_ | (intro a; clear_value a) | lift_lets -underBinder | apply Keeps.ite | apply sendMsg_keeps | apply modPair_keeps

theorem compareEpochs_keeps {fm : Nat} {r0 : State}  {s : State} (hfm : Mask.le 0x200000000000000000000000000000000000041810 fm = true) (h0 : Keeps fm r0 s)  : Keeps fm r0 (compareEpochs s) := by
  unfold compareEpochs
  with_reducible repeat' first | assumption | exact fpart (by decide +kernel) hfm | exact fle (by decide +kernel) hfm | exact fok (by decide +kernel) hfm | exact fall (by decide +kernel) hfm | exact fokIx (by decide +kernel) hfm | exact fokAll (by decide +kernel) hfm | refine Mask.ok_ite ?_ ?_ | refine faultsOf_ok ?_ ?_ | apply Keeps.ite | apply modPair_keeps | apply modEp_keeps | apply leavePair_keeps | split

theorem reserveFell_keeps {fm : Nat} {r0 : State}  {s : State} {old : Nat} (hfm : Mask.le 0x3008000000000000001f000000000000000000000000000000000000000000000000001400000000017c190000000000000000000000000000000000000000000000020000040845920 fm = true) (h0 : Keeps fm r0 s)  : Keeps fm r0 (reserveFell s old) := by
  unfold reserveFell
  try lift_lets -underBinder
  with_reducible repeat' first
    | assumption
    | exact fpart (by decide +kernel) hfm
    | exact fle (by decide +kernel) hfm
    | exact fok (by decide +kernel) hfm
    | exact fall (by decide +kernel) hfm
    | exact fokIx (by decide +kernel) hfm
    | exact fokAll (by decide +kernel) hfm
    | refine Mask.ok_ite ?_ ?_
    | refine faultsOf_ok ?_ ?_
    | refine fun _ (_ : Keeps fm r0 _) => ?_
    | refine fun _ _ (_ : Keeps fm r0 _) => ?_
    | refine fun _ _ _ (_ : Keeps fm r0 _) => ?_
    | exact KeepsO.get rfl (by assumption)
    | exact KeepsP.get rfl (by assumption)
    | (intro a; refine (fun ha : Keeps fm r0 a => ?_) ?_; clear_value a; rotate_left; dsimp only [a]; rotate_right)
    | (intro a; refine (fun ha : Keeps fm r0 a.2 => ?_) ?_; clear_value a; rotate_left; dsimp only [a]; rotate_right)
    | (intro a; refine (fun ha : Keeps fm r0 a.1 => ?_) ?_; clear_value a; rotate_left; dsimp only [a]; rotate_right)
    | (intro a; refine (fun ha : KeepsO fm r0 a => ?_) ?_; clear_value a; rotate_left; dsimp only [a]; rotate_right)
    | (have _ := @hgb; intro a; refine (fun hgc : ∀ t, Keeps fm r0 t → Keeps fm r0 (a t) => ?_) ?_; clear_value a; rotate_left; dsimp only [a]; rotate_right)
    | (have _ := @hga; intro a; refine (fun hgb : ∀ t, Keeps fm r0 t → Keeps fm r0 (a t) => ?_) ?_; clear_value a; rotate_left; dsimp only [a]; rotate_right)
    | (intro a; refine (fun hga : ∀ t, Keeps fm r0 t → Keeps fm r0 (a t) => ?_) ?_; clear_value a; rotate_left; dsimp only [a]; rotate_right)
    | (have _ := @hgb; intro a; refine (fun hgc : ∀ x t, Keeps fm r0 t → Keeps fm r0 (a x t) => ?_) ?_; clear_value a; rotate_left; dsimp only [a]; rotate_right)
    | (have _ := @hga; intro a; refine (fun hgb : ∀ x t, Keeps fm r0 t → Keeps fm r0 (a x t) => ?_) ?_; clear_value a; rotate_left; dsimp only [a]; rotate_right)
    | (intro a; refine (fun hga : ∀ x t, Keeps fm r0 t → Keeps fm r0 (a x t) => ?_) ?_; clear_value a; rotate_left; dsimp only [a]; rotate_right)
    | (have _ := @hgb; intro a; refine (fun hgc : ∀ x y t, Keeps fm r0 t → Keeps fm r0 (a x y t) => ?_) ?_; clear_value a; rotate_left; dsimp only [a]; rotate_right)
    | (have _ := @hga; intro a; refine (fun hgb : ∀ x y t, Keeps fm r0 t → Keeps fm r0 (a x y t) => ?_) ?_; clear_value a; rotate_left; dsimp only [a]; rotate_right)
    | (intro a; refine (fun hga : ∀ x y t, Keeps fm r0 t → Keeps fm r0 (a x y t) => ?_) ?_; clear_value a; rotate_left; dsimp only [a]; rotate_right)
    | (have _ := @hgb; intro a; refine (fun hgc : ∀ t x, Keeps fm r0 t → Keeps fm r0 (a t x) => ?_) ?_; clear_value a; rotate_left; dsimp only [a]; rotate_right)
    | (have _ := @hga; intro a; refine (fun hgb : ∀ t x, Keeps fm r0 t → Keeps fm r0 (a t x) => ?_) ?_; clear_value a; rotate_left; dsimp only [a]; rotate_right)
    | (intro a; refine (fun hga : ∀ t x, Keeps fm r0 t → Keeps fm r0 (a t x) => ?_) ?_; clear_value a; rotate_left; dsimp only [a]; rotate_right)
    | (intro a; refine (fun (_ : a = (a : Dict)) => ?_) rfl; dsimp only [a])
    | (intro a; clear_value a)
    | apply hga
    | apply hgb
    | apply hgc
    | lift_lets -underBinder
    | apply Keeps.ite
    | apply weirFell_keeps
    | apply Keeps.forEach
    | apply Keeps.forRange
    | apply Keeps.foldl
    | apply Keeps.foldl_fst
    | apply Keeps.foldl_snd
    | exact KeepsO.none
    | exact KeepsP.none
    | apply KeepsO.some
    | apply KeepsP.some
    | apply KeepsO.ite
    | apply KeepsP.ite
    | refine KeepsO.foldl _ _ ?_ (fun _ _ _ => ?_)
    | exact KeepsF.lost
    | apply KeepsF.started
    | apply KeepsF.ite
    | fail_if_no_progress (apply Keeps.upd <;> try first | exact Or.inr (fpart (by decide +kernel) hfm) | exact Or.inl rfl)
    | fail_if_no_progress (apply Keeps.updDict <;> try first | exact Or.inr (fpart (by decide +kernel) hfm) | exact Or.inl rfl)
    | refine Keeps.updRegs (rg := Tbl.filterK _ _) ?_ (Tbl.wf_filterK _) (Tbl.wf_filterK _)
    | refine Keeps.updRegs (rg := Tbl.filterK _ _) ?_ (Tbl.wf_filterK _) id
    | split
    | refine Keeps.of_snd (by assumption) ?_
    | refine Keeps.of_fst (by assumption) ?_
    | refine KeepsO.get (by assumption) ?_
    | refine KeepsP.get (by assumption) ?_
    | refine KeepsF.get (by assumption) ?_

theorem execHeartbeat_keeps {fm : Nat} {r0 : State}  {serial : Bytes} {side : Nat} {level : Nat} {epoch : Nat} {evSeq : Nat} {reserve : Nat} {fa : Nat} {fb : Nat} {s : State} (hfm : Mask.le 0x3008000000000000001f000000000200000000000000000000000004000000000000001400000000017c1900000000000000018d0e00000000000000000000000000020000040c45930 fm = true) (h0 : Keeps fm r0 s)  : ∃ t1, (execHeartbeat serial side level epoch evSeq reserve fa fb s) = .next t1 ∧ Keeps fm r0 t1 := by
  refine ⟨_, rfl, ?_⟩
  try lift_lets -underBinder
  with_reducible repeat' first | assumption | exact fpart (by decide +kernel) hfm | exact fle (by decide +kernel) hfm | exact fok (by decide +kernel) hfm | exact fall (by decide +kernel) hfm | exact fokIx (by decide +kernel) hfm | exact fokAll (by decide +kernel) hfm | refine Mask.ok_ite ?_ ?_ | refine faultsOf_ok ?_ ?_ | (intro a; refine (fun ha : Keeps fm r0 a => ?_) ?_; clear_value a; rotate_left; dsimp only [a]; rotate_right) | lift_lets -underBinder | apply Keeps.ite | apply modPair_keeps | apply wr_keeps | apply wrBytes_keeps | apply takeFaults_keeps | apply raiseOpen_keeps | apply abandonTakeover_keeps | apply notePair_keeps | apply checkFaults_keeps | apply sendReconcile_keeps | apply compareEpochs_keeps | apply reserveFell_keeps | split

theorem execPairJoin_keeps {fm : Nat} {r0 : State}  {s : State} (hfm : Mask.le 0x14000000000000190000000000000000010200001200000000000000000000020000040c45020 fm = true) (h0 : Keeps fm r0 s)  : ∃ t1, (execPairJoin s) = .next t1 ∧ Keeps fm r0 t1 := by
  refine ⟨_, rfl, ?_⟩
  try lift_lets -underBinder
  with_reducible repeat' first | assumption | exact fpart (by decide +kernel) hfm | exact fle (by decide +kernel) hfm | exact fok (by decide +kernel) hfm | exact fall (by decide +kernel) hfm | exact fokIx (by decide +kernel) hfm | exact fokAll (by decide +kernel) hfm | refine Mask.ok_ite ?_ ?_ | refine faultsOf_ok ?_ ?_ | refine fun _ _ (_ : Keeps fm r0 _) => ?_ | (intro a; refine (fun ha : Keeps fm r0 a => ?_) ?_; clear_value a; rotate_left; dsimp only [a]; rotate_right) | lift_lets -underBinder | apply Keeps.ite | apply modPair_keeps | apply rejoinFenced_keeps | apply releaseReq_keeps | apply sendMsg_keeps | apply passRecords_keeps | apply startCatchUp_keeps | apply wr_keeps | apply notePair_keeps | apply Keeps.forEach | apply Keeps.forRange

theorem execDumping_keeps {fm : Nat} {r0 : State}  {s : State} (hfm : Mask.le 0x140000000000000000000000000000000d0200000200000000000000000000020000040c45820 fm = true) (h0 : Keeps fm r0 s)  : ∃ t1, (execDumping s) = .next t1 ∧ Keeps fm r0 t1 := by
  refine ⟨_, rfl, ?_⟩
  with_reducible repeat' first | assumption | exact fpart (by decide +kernel) hfm | exact fle (by decide +kernel) hfm | exact fok (by decide +kernel) hfm | exact fall (by decide +kernel) hfm | exact fokIx (by decide +kernel) hfm | exact fokAll (by decide +kernel) hfm | refine Mask.ok_ite ?_ ?_ | refine faultsOf_ok ?_ ?_ | apply Keeps.ite | apply partnerGone_keeps | apply modPair_keeps

theorem execPairFaultClear_keeps {fm : Nat} {r0 : State}  {s : State} (hfm : Mask.le 0x1800200000000000000000000000000000000000040000 fm = true) (h0 : Keeps fm r0 s)  : ∃ t1, (execPairFaultClear s) = .next t1 ∧ Keeps fm r0 t1 := by
  refine ⟨_, rfl, ?_⟩
  with_reducible repeat' first | assumption | exact fpart (by decide +kernel) hfm | exact fle (by decide +kernel) hfm | exact fok (by decide +kernel) hfm | exact fall (by decide +kernel) hfm | exact fokIx (by decide +kernel) hfm | exact fokAll (by decide +kernel) hfm | refine Mask.ok_ite ?_ ?_ | refine faultsOf_ok ?_ ?_ | apply notePair_keeps | apply wr_keeps | apply modPair_keeps

theorem execDigest_keeps {fm : Nat} {r0 : State}  {p : Nat} {id : Nat} {first : Nat} {height : Nat} {slots : List Nat} {v : Nat} {s : State} (hfm : Mask.le 0x190000000000000000000000000000000000000000000000000000000840020 fm = true) (h0 : Keeps fm r0 s)  : ∃ t1, (execDigest p id first height slots v s) = .next t1 ∧ Keeps fm r0 t1 := by
  refine ⟨_, rfl, ?_⟩
  try lift_lets -underBinder
  with_reducible repeat' first | assumption | exact fpart (by decide +kernel) hfm | exact fle (by decide +kernel) hfm | exact fok (by decide +kernel) hfm | exact fall (by decide +kernel) hfm | exact fokIx (by decide +kernel) hfm | exact fokAll (by decide +kernel) hfm | refine Mask.ok_ite ?_ ?_ | refine faultsOf_ok ?_ ?_ | refine fun _ _ (_ : Keeps fm r0 _) => ?_ | (intro a; clear_value a) | lift_lets -underBinder | apply Keeps.ite | apply sendMsg_keeps | apply modPair_keeps | apply Keeps.forEach | split

theorem modDigest_keeps {fm : Nat} {r0 : State}  {s : State} {k : Nat} {f : DigestRec → DigestRec} (hfm : Mask.le 0x40000 fm = true) (h0 : Keeps fm r0 s)  : Keeps fm r0 (modDigest s k f) := by
  unfold modDigest
  with_reducible repeat' first | assumption | exact fpart (by decide +kernel) hfm | exact fle (by decide +kernel) hfm | exact fok (by decide +kernel) hfm | exact fall (by decide +kernel) hfm | exact fokIx (by decide +kernel) hfm | exact fokAll (by decide +kernel) hfm | refine Mask.ok_ite ?_ ?_ | refine faultsOf_ok ?_ ?_ | apply modPair_keeps

theorem execDigestReply_keeps {fm : Nat} {r0 : State}  {p : Nat} {id : Nat} {v : Option Nat} {s : State} (hfm : Mask.le 0x30000000000000000000000000000000040000 fm = true) (h0 : Keeps fm r0 s)  : ∃ t1, (execDigestReply p id v s) = .next t1 ∧ Keeps fm r0 t1 := by
  refine ⟨_, rfl, ?_⟩
  try lift_lets -underBinder
  with_reducible repeat' first | assumption | exact fpart (by decide +kernel) hfm | exact fle (by decide +kernel) hfm | exact fok (by decide +kernel) hfm | exact fall (by decide +kernel) hfm | exact fokIx (by decide +kernel) hfm | exact fokAll (by decide +kernel) hfm | refine Mask.ok_ite ?_ ?_ | refine faultsOf_ok ?_ ?_ | (intro a; refine (fun ha : Keeps fm r0 a => ?_) ?_; clear_value a; rotate_left; dsimp only [a]; rotate_right) | lift_lets -underBinder | apply Keeps.ite | apply modDigest_keeps | apply bump_keeps | split

theorem readBack_keeps {fm : Nat} {r0 : State}  {s : State} {p : Nat} {id : Nat} {d : DigestRec} {seg : Nat} {first : Nat} (hfm : Mask.le 0x14000000000000000000000000000000000000000000000000000000000000020000040804020 fm = true) (h0 : Keeps fm r0 s)  : Keeps fm r0 (readBack s p id d seg first) := by
  unfold readBack
  with_reducible repeat' first | assumption | exact fpart (by decide +kernel) hfm | exact fle (by decide +kernel) hfm | exact fok (by decide +kernel) hfm | exact fall (by decide +kernel) hfm | exact fokIx (by decide +kernel) hfm | exact fokAll (by decide +kernel) hfm | refine Mask.ok_ite ?_ ?_ | refine faultsOf_ok ?_ ?_ | refine fun _ _ (_ : Keeps fm r0 _) => ?_ | apply Keeps.ite | apply fetchAt_keeps | apply Keeps.forEach | split | refine KeepsF.get (by assumption) ?_

theorem rewriteCopy_keeps {fm : Nat} {r0 : State}  {s : State} {p : Nat} {x : Slot} {b : Bytes} (hfm : Mask.le 0x380801c002000000001f160000000000000000010000000000000000000000000000001400860080017c19000000000000000000000000008040000000000000000002000004087fd20 fm = true) (h0 : Keeps fm r0 s)  : Keeps fm r0 (rewriteCopy s p x b) := by
  unfold rewriteCopy
  with_reducible repeat' first | assumption | exact fpart (by decide +kernel) hfm | exact fle (by decide +kernel) hfm | exact fok (by decide +kernel) hfm | exact fall (by decide +kernel) hfm | exact fokIx (by decide +kernel) hfm | exact fokAll (by decide +kernel) hfm | refine Mask.ok_ite ?_ ?_ | refine faultsOf_ok ?_ ?_ | apply startCopy_keeps

theorem resolveDigest_keeps {fm : Nat} {r0 : State}  {s : State} {p : Nat} {id : Nat} {d : DigestRec} {seg : Nat} {first : Nat} (hfm : Mask.le 0x380801c002000000001f160000000000000000010000000000000000000000000000001400860080017c1900000000000000018d0200000080400000000000000000020000040c7fd20 fm = true) (h0 : Keeps fm r0 s)  : Keeps fm r0 (resolveDigest s p id d seg first) := by
  unfold resolveDigest
  try lift_lets -underBinder
  with_reducible repeat' first | assumption | exact fpart (by decide +kernel) hfm | exact fle (by decide +kernel) hfm | exact fok (by decide +kernel) hfm | exact fall (by decide +kernel) hfm | exact fokIx (by decide +kernel) hfm | exact fokAll (by decide +kernel) hfm | refine Mask.ok_ite ?_ ?_ | refine faultsOf_ok ?_ ?_ | refine fun _ (_ : Keeps fm r0 _) => ?_ | refine fun _ _ (_ : Keeps fm r0 _) => ?_ | (intro a; refine (fun ha : Keeps fm r0 a => ?_) ?_; clear_value a; rotate_left; dsimp only [a]; rotate_right) | (intro a; refine (fun hga : ∀ t, Keeps fm r0 t → Keeps fm r0 (a t) => ?_) ?_; clear_value a; rotate_left; dsimp only [a]; rotate_right) | (intro a; clear_value a) | apply hga | lift_lets -underBinder | apply Keeps.ite | apply modDigest_keeps | apply sendMirror_keeps | apply noteFault_keeps | apply sendMsg_keeps | apply rewriteCopy_keeps | apply raiseOpen_keeps | apply loseSector_keeps | apply Keeps.forEach | split

theorem digestWork_keeps {fm : Nat} {r0 : State}  {s : State} (hfm : Mask.le 0x380801c002000000001f160000000000000000010000000000000000000000000000001400860080017c1900000000000000018d0200000080400000000000000000020000040c7fd20 fm = true) (h0 : Keeps fm r0 s)  : Keeps fm r0 (digestWork s) := by
  unfold digestWork
  try lift_lets -underBinder
  with_reducible repeat' first | assumption | exact fpart (by decide +kernel) hfm | exact fle (by decide +kernel) hfm | exact fok (by decide +kernel) hfm | exact fall (by decide +kernel) hfm | exact fokIx (by decide +kernel) hfm | exact fokAll (by decide +kernel) hfm | refine Mask.ok_ite ?_ ?_ | refine faultsOf_ok ?_ ?_ | refine fun _ _ (_ : Keeps fm r0 _) => ?_ | (intro a; clear_value a) | lift_lets -underBinder | apply Keeps.ite | apply resolveDigest_keeps | apply readBack_keeps | apply Keeps.forEach | split

/-! ## Keys -/

theorem clearStaging_keeps {fm : Nat} {r0 : State}  {s : State} {pf : Nat} (hfm : Mask.le 0x8000 fm = true) (h0 : Keeps fm r0 s)  : Keeps fm r0 (clearStaging s pf) := by
  unfold clearStaging
  with_reducible repeat' first | assumption | exact fpart (by decide +kernel) hfm | exact fle (by decide +kernel) hfm | exact fok (by decide +kernel) hfm | exact fall (by decide +kernel) hfm | exact fokIx (by decide +kernel) hfm | exact fokAll (by decide +kernel) hfm | refine Mask.ok_ite ?_ ?_ | refine faultsOf_ok ?_ ?_ | fail_if_no_progress (apply Keeps.upd <;> try first | exact Or.inr (fpart (by decide +kernel) hfm) | exact Or.inl rfl)

theorem syncWrapped_keeps {fm : Nat} {r0 : State}  {s : State} (hfm : Mask.le 0x8000 fm = true) (h0 : Keeps fm r0 s)  : Keeps fm r0 (syncWrapped s) := by
  unfold syncWrapped
  with_reducible repeat' first | assumption | exact fpart (by decide +kernel) hfm | exact fle (by decide +kernel) hfm | exact fok (by decide +kernel) hfm | exact fall (by decide +kernel) hfm | exact fokIx (by decide +kernel) hfm | exact fokAll (by decide +kernel) hfm | refine Mask.ok_ite ?_ ?_ | refine faultsOf_ok ?_ ?_ | apply Keeps.ite | fail_if_no_progress (apply Keeps.upd <;> try first | exact Or.inr (fpart (by decide +kernel) hfm) | exact Or.inl rfl)

theorem setKeyState_keeps {fm : Nat} {r0 : State}  {s : State} {k : Nat} {st : Nat} (hfm : Mask.le 0x40000000000000000000000000000000000000000000000000000000000000000000000000000000000000000000000000000000000000000004000000000000000000000000000000 fm = true) (h0 : Keeps fm r0 s)  : Keeps fm r0 (setKeyState s k st) := by
  unfold setKeyState
  try lift_lets -underBinder
  with_reducible repeat' first | assumption | exact fpart (by decide +kernel) hfm | exact fle (by decide +kernel) hfm | exact fok (by decide +kernel) hfm | exact fall (by decide +kernel) hfm | exact fokIx (by decide +kernel) hfm | exact fokAll (by decide +kernel) hfm | refine Mask.ok_ite ?_ ?_ | refine faultsOf_ok ?_ ?_ | (intro a; refine (fun ha : Keeps fm r0 a => ?_) ?_; clear_value a; rotate_left; dsimp only [a]; rotate_right) | lift_lets -underBinder | apply Keeps.ite | apply wr_keeps | apply bump_keeps | apply drop_keeps

theorem putKeys_keeps {fm : Nat} {r0 : State}  {s : State} {k : Nat} {which : Nat} {gen : Nat} {b : Bytes} (hfm : Mask.le 0x3f8000000000000000000000000008000 fm = true) (h0 : Keeps fm r0 s)  : Keeps fm r0 (putKeys s k which gen b) := by
  unfold putKeys
  try lift_lets -underBinder
  with_reducible repeat' first | assumption | exact fpart (by decide +kernel) hfm | exact fle (by decide +kernel) hfm | exact fok (by decide +kernel) hfm | exact fall (by decide +kernel) hfm | exact fokIx (by decide +kernel) hfm | exact fokAll (by decide +kernel) hfm | refine Mask.ok_ite ?_ ?_ | refine faultsOf_ok ?_ ?_ | (intro a; refine (fun ha : Keeps fm r0 a => ?_) ?_; clear_value a; rotate_left; dsimp only [a]; rotate_right) | (intro a; clear_value a) | lift_lets -underBinder | apply Keeps.ite | apply wr_keeps | fail_if_no_progress (apply Keeps.upd <;> try first | exact Or.inr (fpart (by decide +kernel) hfm) | exact Or.inl rfl)

theorem dropPrevious_keeps {fm : Nat} {r0 : State}  {s : State} {k : Nat} (hfm : Mask.le 0x390000000000000000000000000008000 fm = true) (h0 : Keeps fm r0 s)  : Keeps fm r0 (dropPrevious s k) := by
  unfold dropPrevious
  try lift_lets -underBinder
  with_reducible repeat' first | assumption | exact fpart (by decide +kernel) hfm | exact fle (by decide +kernel) hfm | exact fok (by decide +kernel) hfm | exact fall (by decide +kernel) hfm | exact fokIx (by decide +kernel) hfm | exact fokAll (by decide +kernel) hfm | refine Mask.ok_ite ?_ ?_ | refine faultsOf_ok ?_ ?_ | refine fun _ _ (_ : Keeps fm r0 _) => ?_ | (intro a; refine (fun ha : Keeps fm r0 a => ?_) ?_; clear_value a; rotate_left; dsimp only [a]; rotate_right) | (intro a; clear_value a) | apply clrAll_keeps | apply wr_keeps | apply Keeps.foldl | fail_if_no_progress (apply Keeps.upd <;> try first | exact Or.inr (fpart (by decide +kernel) hfm) | exact Or.inl rfl)

theorem settleSlot_keeps {fm : Nat} {r0 : State}  {s : State} {k : Nat} (hfm : Mask.le 0x40000000000000000000000000000000000000000000000000000000000000000000000000000000000000000000000000000000000000000004000000000000000000000000000000 fm = true) (h0 : Keeps fm r0 s)  : Keeps fm r0 (settleSlot s k) := by
  unfold settleSlot
  try lift_lets -underBinder
  with_reducible repeat' first | assumption | exact fpart (by decide +kernel) hfm | exact fle (by decide +kernel) hfm | exact fok (by decide +kernel) hfm | exact fall (by decide +kernel) hfm | exact fokIx (by decide +kernel) hfm | exact fokAll (by decide +kernel) hfm | refine Mask.ok_ite ?_ ?_ | refine faultsOf_ok ?_ ?_ | (intro a; clear_value a) | lift_lets -underBinder | apply Keeps.ite | apply setKeyState_keeps

theorem noteKeys_keeps {fm : Nat} {r0 : State}  {s : State} (hfm : Mask.le 0x800000000000000000000000000000000000000000000000000000000000000000000000000000000000000000008000000000000000000000000000000000000010000000000000600000000808100 fm = true) (h0 : Keeps fm r0 s)  : Keeps fm r0 (noteKeys s) := by
  unfold noteKeys
  try lift_lets -underBinder
  with_reducible repeat' first | assumption | exact fpart (by decide +kernel) hfm | exact fle (by decide +kernel) hfm | exact fok (by decide +kernel) hfm | exact fall (by decide +kernel) hfm | exact fokIx (by decide +kernel) hfm | exact fokAll (by decide +kernel) hfm | refine Mask.ok_ite ?_ ?_ | refine faultsOf_ok ?_ ?_ | refine fun _ _ (_ : Keeps fm r0 _) => ?_ | (intro a; refine (fun ha : Keeps fm r0 a => ?_) ?_; clear_value a; rotate_left; dsimp only [a]; rotate_right) | lift_lets -underBinder | apply Keeps.ite | apply setCond_keeps | apply wrB_keeps | apply noteLocks_keeps | apply syncWrapped_keeps | apply Keeps.forRange

theorem dropWindow_keeps {fm : Nat} {r0 : State}  {s : State} {pf : Nat} (hfm : Mask.le 0x20000000000000000000000000000000000000000000000000000000000000000000000000000000000000000000000000000000000000000000000000000000000 fm = true) (h0 : Keeps fm r0 s)  : Keeps fm r0 (dropWindow s pf) := by
  unfold dropWindow
  with_reducible repeat' first | assumption | exact fpart (by decide +kernel) hfm | exact fle (by decide +kernel) hfm | exact fok (by decide +kernel) hfm | exact fall (by decide +kernel) hfm | exact fokIx (by decide +kernel) hfm | exact fokAll (by decide +kernel) hfm | refine Mask.ok_ite ?_ ?_ | refine faultsOf_ok ?_ ?_ | apply bump_keeps

theorem keyAction_keeps {fm : Nat} {r0 : State}  {s : State} {pf : Nat} {k : Nat} {f : State → Nat × State} (hfm : Mask.le 0x3c000000000000000000000000000000000000000000000000000000000000000000000000000000000000000000000000000000000000000000000000000008000 fm = true) (h0 : Keeps fm r0 s) (h_f : ∀ t, Keeps fm r0 t → Keeps fm r0 (f t).2) : Keeps fm r0 (keyAction s pf k f) := by
  unfold keyAction
  try lift_lets -underBinder
  with_reducible repeat' first | assumption | exact fpart (by decide +kernel) hfm | exact fle (by decide +kernel) hfm | exact fok (by decide +kernel) hfm | exact fall (by decide +kernel) hfm | exact fokIx (by decide +kernel) hfm | exact fokAll (by decide +kernel) hfm | refine Mask.ok_ite ?_ ?_ | refine faultsOf_ok ?_ ?_ | apply h_f | (intro a; refine (fun ha : Keeps fm r0 a.2 => ?_) ?_; clear_value a; rotate_left; dsimp only [a]; rotate_right) | lift_lets -underBinder | apply Keeps.ite | apply dropWindow_keeps | apply clearStaging_keeps | apply wr_keeps | apply bump_keeps

theorem withKeys_keeps {fm : Nat} {r0 : State}  {s : State} {pf : Nat} {confirm : Nat} {f : Bytes → Nat × State} (h0 : Keeps fm r0 s) (h_f : ∀ x0, Keeps fm r0 (f x0).2) : Keeps fm r0 (withKeys s pf confirm f).2 := by
  unfold withKeys
  with_reducible repeat' first | assumption | apply h_f | apply Keeps.ite_snd | split

theorem loadKey_keeps {fm : Nat} {r0 : State}  {s : State} {k : Nat} {gen : Nat} {b : Bytes} (hfm : Mask.le 0x8000000000000400000000000000000000000000000000000000000000000000000000000000000000000000000080000000000000000000000000000000007fc010000000000000600000000808100 fm = true) (h0 : Keeps fm r0 s)  : Keeps fm r0 (loadKey s k gen b).2 := by
  unfold loadKey
  try lift_lets -underBinder
  with_reducible repeat' first | assumption | exact fpart (by decide +kernel) hfm | exact fle (by decide +kernel) hfm | exact fok (by decide +kernel) hfm | exact fall (by decide +kernel) hfm | exact fokIx (by decide +kernel) hfm | exact fokAll (by decide +kernel) hfm | refine Mask.ok_ite ?_ ?_ | refine faultsOf_ok ?_ ?_ | refine fun _ (_ : Keeps fm r0 _) => ?_ | (intro a; refine (fun ha : Keeps fm r0 a => ?_) ?_; clear_value a; rotate_left; dsimp only [a]; rotate_right) | (intro a; refine (fun hga : ∀ t, Keeps fm r0 t → Keeps fm r0 (a t) => ?_) ?_; clear_value a; rotate_left; dsimp only [a]; rotate_right) | (intro a; clear_value a) | apply hga | lift_lets -underBinder | apply Keeps.ite_snd | apply wr_keeps | apply noteKeys_keeps | apply setKeyState_keeps | apply putKeys_keeps | fail_if_no_progress (apply Keeps.upd <;> try first | exact Or.inr (fpart (by decide +kernel) hfm) | exact Or.inl rfl)

theorem execLoad_keeps {fm : Nat} {r0 : State}  {pf : Nat} {confirm : Nat} {gen : Nat} {k : Nat} {s : State} (hfm : Mask.le 0x80000000000004000000000000003c0000000000000000000000000000000000000000000000000000000000000080000000000000000000000000000000007fc010000000000000600000000808100 fm = true) (h0 : Keeps fm r0 s)  : ∃ t1, (execLoad pf confirm gen k s) = .next t1 ∧ Keeps fm r0 t1 := by
  refine ⟨_, rfl, ?_⟩
  with_reducible repeat' first | assumption | exact fpart (by decide +kernel) hfm | exact fle (by decide +kernel) hfm | exact fok (by decide +kernel) hfm | exact fall (by decide +kernel) hfm | exact fokIx (by decide +kernel) hfm | exact fokAll (by decide +kernel) hfm | refine Mask.ok_ite ?_ ?_ | refine faultsOf_ok ?_ ?_ | refine fun (_ : Bytes) => ?_ | refine fun _ (_ : Keeps fm r0 _) => ?_ | apply Keeps.ite | apply keyAction_keeps | apply withKeys_keeps | apply loadKey_keeps

theorem installCurrent_keeps {fm : Nat} {r0 : State}  {s : State} {k : Nat} {gen : Nat} {b : Bytes} (hfm : Mask.le 0x8000000000000400000000000000000000000000000000000000000000000000000000000000000000000000000080000000000000000000000000000000007fc010000000000000600000000808100 fm = true) (h0 : Keeps fm r0 s)  : Keeps fm r0 (installCurrent s k gen b).2 := by
  unfold installCurrent
  try lift_lets -underBinder
  with_reducible repeat' first | assumption | exact fpart (by decide +kernel) hfm | exact fle (by decide +kernel) hfm | exact fok (by decide +kernel) hfm | exact fall (by decide +kernel) hfm | exact fokIx (by decide +kernel) hfm | exact fokAll (by decide +kernel) hfm | refine Mask.ok_ite ?_ ?_ | refine faultsOf_ok ?_ ?_ | (intro a; clear_value a) | lift_lets -underBinder | apply Keeps.ite_snd | apply noteKeys_keeps | apply setKeyState_keeps | apply wr_keeps | apply putKeys_keeps | apply settleSlot_keeps

theorem execInstallCurrent_keeps {fm : Nat} {r0 : State}  {pf : Nat} {confirm : Nat} {gen : Nat} {k : Nat} {s : State} (hfm : Mask.le 0x80000000000004000000000000003c0000000000000000000000000000000000000000000000000000000000000080000000000000000000000000000000007fc010000000000000600000000808100 fm = true) (h0 : Keeps fm r0 s)  : ∃ t1, (execInstallCurrent pf confirm gen k s) = .next t1 ∧ Keeps fm r0 t1 := by
  refine ⟨_, rfl, ?_⟩
  with_reducible repeat' first | assumption | exact fpart (by decide +kernel) hfm | exact fle (by decide +kernel) hfm | exact fok (by decide +kernel) hfm | exact fall (by decide +kernel) hfm | exact fokIx (by decide +kernel) hfm | exact fokAll (by decide +kernel) hfm | refine Mask.ok_ite ?_ ?_ | refine faultsOf_ok ?_ ?_ | refine fun (_ : Bytes) => ?_ | refine fun _ (_ : Keeps fm r0 _) => ?_ | apply Keeps.ite | apply keyAction_keeps | apply withKeys_keeps | apply installCurrent_keeps

theorem installPrevious_keeps {fm : Nat} {r0 : State}  {s : State} {k : Nat} {gen : Nat} {b : Bytes} (hfm : Mask.le 0x8000000000000400000000000000000000000000000000000000000000000000000000000000000000000000000080000000000000000000000000000000003fc010000000000000600000000808100 fm = true) (h0 : Keeps fm r0 s)  : Keeps fm r0 (installPrevious s k gen b).2 := by
  unfold installPrevious
  try lift_lets -underBinder
  with_reducible repeat' first | assumption | exact fpart (by decide +kernel) hfm | exact fle (by decide +kernel) hfm | exact fok (by decide +kernel) hfm | exact fall (by decide +kernel) hfm | exact fokIx (by decide +kernel) hfm | exact fokAll (by decide +kernel) hfm | refine Mask.ok_ite ?_ ?_ | refine faultsOf_ok ?_ ?_ | (intro a; clear_value a) | lift_lets -underBinder | apply Keeps.ite_snd | apply noteKeys_keeps | apply setKeyState_keeps | apply putKeys_keeps | apply settleSlot_keeps

theorem execInstallPrevious_keeps {fm : Nat} {r0 : State}  {pf : Nat} {confirm : Nat} {gen : Nat} {k : Nat} {s : State} (hfm : Mask.le 0x80000000000004000000000000003c0000000000000000000000000000000000000000000000000000000000000080000000000000000000000000000000003fc010000000000000600000000808100 fm = true) (h0 : Keeps fm r0 s)  : ∃ t1, (execInstallPrevious pf confirm gen k s) = .next t1 ∧ Keeps fm r0 t1 := by
  refine ⟨_, rfl, ?_⟩
  with_reducible repeat' first | assumption | exact fpart (by decide +kernel) hfm | exact fle (by decide +kernel) hfm | exact fok (by decide +kernel) hfm | exact fall (by decide +kernel) hfm | exact fokIx (by decide +kernel) hfm | exact fokAll (by decide +kernel) hfm | refine Mask.ok_ite ?_ ?_ | refine faultsOf_ok ?_ ?_ | refine fun (_ : Bytes) => ?_ | refine fun _ (_ : Keeps fm r0 _) => ?_ | apply Keeps.ite | apply keyAction_keeps | apply withKeys_keeps | apply installPrevious_keeps

theorem retireKey_keeps {fm : Nat} {r0 : State}  {s : State} {confirm : Nat} {gen : Nat} {k : Nat} (hfm : Mask.le 0x800000000000040000000000000000000000000000000000000000000000000000000000000000000000000000008000000000000000000000000000000000394010000000000000600000000808100 fm = true) (h0 : Keeps fm r0 s)  : Keeps fm r0 (retireKey s confirm gen k).2 := by
  unfold retireKey
  with_reducible repeat' first | assumption | exact fpart (by decide +kernel) hfm | exact fle (by decide +kernel) hfm | exact fok (by decide +kernel) hfm | exact fall (by decide +kernel) hfm | exact fokIx (by decide +kernel) hfm | exact fokAll (by decide +kernel) hfm | refine Mask.ok_ite ?_ ?_ | refine faultsOf_ok ?_ ?_ | apply Keeps.ite_snd | apply noteKeys_keeps | apply setKeyState_keeps | apply dropPrevious_keeps

theorem execRetire_keeps {fm : Nat} {r0 : State}  {pf : Nat} {confirm : Nat} {gen : Nat} {k : Nat} {s : State} (hfm : Mask.le 0x80000000000004000000000000003c000000000000000000000000000000000000000000000000000000000000008000000000000000000000000000000000394010000000000000600000000808100 fm = true) (h0 : Keeps fm r0 s)  : ∃ t1, (execRetire pf confirm gen k s) = .next t1 ∧ Keeps fm r0 t1 := by
  refine ⟨_, rfl, ?_⟩
  with_reducible repeat' first | assumption | exact fpart (by decide +kernel) hfm | exact fle (by decide +kernel) hfm | exact fok (by decide +kernel) hfm | exact fall (by decide +kernel) hfm | exact fokIx (by decide +kernel) hfm | exact fokAll (by decide +kernel) hfm | refine Mask.ok_ite ?_ ?_ | refine faultsOf_ok ?_ ?_ | refine fun _ (_ : Keeps fm r0 _) => ?_ | apply Keeps.ite | apply keyAction_keeps | apply retireKey_keeps

theorem purgeSlot_keeps {fm : Nat} {r0 : State}  {s : State} {k : Nat} (hfm : Mask.le 0x1000200000000000000000000060000000000000000000000000000000000000000000000000000000000000000000000000000000000000000000000000000000000000018000 fm = true) (h0 : Keeps fm r0 s)  : Keeps fm r0 (purgeSlot s k) := by
  unfold purgeSlot
  with_reducible repeat' first | assumption | exact fpart (by decide +kernel) hfm | exact fle (by decide +kernel) hfm | exact fok (by decide +kernel) hfm | exact fall (by decide +kernel) hfm | exact fokIx (by decide +kernel) hfm | exact fokAll (by decide +kernel) hfm | refine Mask.ok_ite ?_ ?_ | refine faultsOf_ok ?_ ?_ | refine fun _ _ (_ : Keeps fm r0 _) => ?_ | apply disownVolume_keeps | apply endRanges_keeps | apply discardFrames_keeps | apply Keeps.forEach

theorem destroyKey_keeps {fm : Nat} {r0 : State}  {s : State} {confirm : Nat} {gen : Nat} {k : Nat} (hfm : Mask.le 0x8000000000000400010002000000000000000000000600000000000000000000000000000000000000000000000080000000000000000000000000000000007fc010000000000000600000000818100 fm = true) (h0 : Keeps fm r0 s)  : Keeps fm r0 (destroyKey s confirm gen k).2 := by
  unfold destroyKey
  try lift_lets -underBinder
  with_reducible repeat' first | assumption | exact fpart (by decide +kernel) hfm | exact fle (by decide +kernel) hfm | exact fok (by decide +kernel) hfm | exact fall (by decide +kernel) hfm | exact fokIx (by decide +kernel) hfm | exact fokAll (by decide +kernel) hfm | refine Mask.ok_ite ?_ ?_ | refine faultsOf_ok ?_ ?_ | refine fun _ _ (_ : Keeps fm r0 _) => ?_ | (intro a; refine (fun ha : Keeps fm r0 a => ?_) ?_; clear_value a; rotate_left; dsimp only [a]; rotate_right) | (intro a; clear_value a) | lift_lets -underBinder | apply Keeps.ite_snd | apply dropPrevious_keeps | apply clrAll_keeps | apply purgeSlot_keeps | apply noteKeys_keeps | apply setKeyState_keeps | apply Keeps.foldl | fail_if_no_progress (apply Keeps.upd <;> try first | exact Or.inr (fpart (by decide +kernel) hfm) | exact Or.inl rfl)

theorem execDestroy_keeps {fm : Nat} {r0 : State}  {pf : Nat} {confirm : Nat} {gen : Nat} {k : Nat} {s : State} (hfm : Mask.le 0x80000000000004000100020000003c0000000000000600000000000000000000000000000000000000000000000080000000000000000000000000000000007fc010000000000000600000000818100 fm = true) (h0 : Keeps fm r0 s)  : ∃ t1, (execDestroy pf confirm gen k s) = .next t1 ∧ Keeps fm r0 t1 := by
  refine ⟨_, rfl, ?_⟩
  with_reducible repeat' first | assumption | exact fpart (by decide +kernel) hfm | exact fle (by decide +kernel) hfm | exact fok (by decide +kernel) hfm | exact fall (by decide +kernel) hfm | exact fokIx (by decide +kernel) hfm | exact fokAll (by decide +kernel) hfm | refine Mask.ok_ite ?_ ?_ | refine faultsOf_ok ?_ ?_ | refine fun _ (_ : Keeps fm r0 _) => ?_ | apply Keeps.ite | apply keyAction_keeps | apply destroyKey_keeps

theorem execClearStaging_keeps {fm : Nat} {r0 : State}  {pf : Nat} {confirm : Nat} {s : State} (hfm : Mask.le 0x3c000000000000000000000000000000000000000000000000000000000000000000000000000000000000000000000000000000000000000000000000000008000 fm = true) (h0 : Keeps fm r0 s)  : ∃ t1, (execClearStaging pf confirm s) = .next t1 ∧ Keeps fm r0 t1 := by
  refine ⟨_, rfl, ?_⟩
  with_reducible repeat' first | assumption | exact fpart (by decide +kernel) hfm | exact fle (by decide +kernel) hfm | exact fok (by decide +kernel) hfm | exact fall (by decide +kernel) hfm | exact fokIx (by decide +kernel) hfm | exact fokAll (by decide +kernel) hfm | refine Mask.ok_ite ?_ ?_ | refine faultsOf_ok ?_ ?_ | refine fun _ (_ : Keeps fm r0 _) => ?_ | apply Keeps.ite | apply keyAction_keeps

theorem stageKey_keeps {fm : Nat} {r0 : State}  {s : State} {pf : Nat} {off : Nat} {b : Bytes} (hfm : Mask.le 0x20000000000000000000000000000000000000000000000000000000000000000000000000000000000000000000000000000000000000000000000000000008000 fm = true) (h0 : Keeps fm r0 s)  : Keeps fm r0 (stageKey s pf off b) := by
  unfold stageKey
  with_reducible repeat' first | assumption | exact fpart (by decide +kernel) hfm | exact fle (by decide +kernel) hfm | exact fok (by decide +kernel) hfm | exact fall (by decide +kernel) hfm | exact fokIx (by decide +kernel) hfm | exact fokAll (by decide +kernel) hfm | refine Mask.ok_ite ?_ ?_ | refine faultsOf_ok ?_ ?_ | apply Keeps.ite | apply dropWindow_keeps | fail_if_no_progress (apply Keeps.upd <;> try first | exact Or.inr (fpart (by decide +kernel) hfm) | exact Or.inl rfl)

theorem execKeyStagingWrite_keeps {fm : Nat} {r0 : State}  {pf : Nat} {off : Nat} {b : Bytes} {s : State} (hfm : Mask.le 0x20000000000000000000000000000000000000000000000000000000000000000000000000000000000000000000000000000000000000000000000000000008000 fm = true) (h0 : Keeps fm r0 s)  : ∃ t1, (execKeyStagingWrite pf off b s) = .next t1 ∧ Keeps fm r0 t1 := by
  refine ⟨_, rfl, ?_⟩
  with_reducible repeat' first | assumption | exact fpart (by decide +kernel) hfm | exact fle (by decide +kernel) hfm | exact fok (by decide +kernel) hfm | exact fall (by decide +kernel) hfm | exact fokIx (by decide +kernel) hfm | exact fokAll (by decide +kernel) hfm | refine Mask.ok_ite ?_ ?_ | refine faultsOf_ok ?_ ?_ | apply Keeps.ite | apply stageKey_keeps

theorem setPersist_keeps {fm : Nat} {r0 : State}  {s : State} {mode : Nat} (hfm : Mask.le 0x10000000000000000000000000000000000000000000000000000000000000000000000000000000000000000000000000000000000000000000000000000000000000000000008000 fm = true) (h0 : Keeps fm r0 s)  : Keeps fm r0 (setPersist s mode) := by
  unfold setPersist
  try lift_lets -underBinder
  with_reducible repeat' first | assumption | exact fpart (by decide +kernel) hfm | exact fle (by decide +kernel) hfm | exact fok (by decide +kernel) hfm | exact fall (by decide +kernel) hfm | exact fokIx (by decide +kernel) hfm | exact fokAll (by decide +kernel) hfm | refine Mask.ok_ite ?_ ?_ | refine faultsOf_ok ?_ ?_ | (intro a; refine (fun ha : Keeps fm r0 a => ?_) ?_; clear_value a; rotate_left; dsimp only [a]; rotate_right) | (intro a; clear_value a) | lift_lets -underBinder | apply Keeps.ite | apply wr_keeps | fail_if_no_progress (apply Keeps.upd <;> try first | exact Or.inr (fpart (by decide +kernel) hfm) | exact Or.inl rfl)

theorem execKeyPersistWrite_keeps {fm : Nat} {r0 : State}  {mode : Nat} {s : State} (hfm : Mask.le 0x10000000000000000000000000000000000000000000000000000000000000000000000000000000000000000000000000000000000000000000000000000000000000000000008000 fm = true) (h0 : Keeps fm r0 s)  : ∃ t1, (execKeyPersistWrite mode s) = .next t1 ∧ Keeps fm r0 t1 := by
  refine ⟨_, rfl, ?_⟩
  with_reducible repeat' first | assumption | exact fpart (by decide +kernel) hfm | exact fle (by decide +kernel) hfm | exact fok (by decide +kernel) hfm | exact fall (by decide +kernel) hfm | exact fokIx (by decide +kernel) hfm | exact fokAll (by decide +kernel) hfm | refine Mask.ok_ite ?_ ?_ | refine faultsOf_ok ?_ ?_ | apply Keeps.ite | apply setPersist_keeps

theorem zeroizeAll_keeps {fm : Nat} {r0 : State}  {s : State} (hfm : Mask.le 0x40000000000000000000000000000000000000000000000000000000000000000000000000000000000000000000000000000000000000000204000000000000000000000000008000 fm = true) (h0 : Keeps fm r0 s)  : Keeps fm r0 (zeroizeAll s) := by
  unfold zeroizeAll
  try lift_lets -underBinder
  with_reducible repeat' first | assumption | exact fpart (by decide +kernel) hfm | exact fle (by decide +kernel) hfm | exact fok (by decide +kernel) hfm | exact fall (by decide +kernel) hfm | exact fokIx (by decide +kernel) hfm | exact fokAll (by decide +kernel) hfm | refine Mask.ok_ite ?_ ?_ | refine faultsOf_ok ?_ ?_ | refine fun _ _ (_ : Keeps fm r0 _) => ?_ | (intro a; refine (fun ha : Keeps fm r0 a => ?_) ?_; clear_value a; rotate_left; dsimp only [a]; rotate_right) | (intro a; clear_value a) | lift_lets -underBinder | apply Keeps.ite | apply wr_keeps | apply setKeyState_keeps | apply Keeps.forRange | fail_if_no_progress (apply Keeps.upd <;> try first | exact Or.inr (fpart (by decide +kernel) hfm) | exact Or.inl rfl)

theorem lockPools_keeps {fm : Nat} {r0 : State}  {s : State} (hfm : Mask.le 0x800000000000000000000000000000000000000000000000000000000000000000000000000000000000000000000000000000000000000000000000000000000010000000000000600000000800100 fm = true) (h0 : Keeps fm r0 s)  : Keeps fm r0 (lockPools s) := by
  unfold lockPools
  with_reducible repeat' first | assumption | exact fpart (by decide +kernel) hfm | exact fle (by decide +kernel) hfm | exact fok (by decide +kernel) hfm | exact fall (by decide +kernel) hfm | exact fokIx (by decide +kernel) hfm | exact fokAll (by decide +kernel) hfm | refine Mask.ok_ite ?_ ?_ | refine faultsOf_ok ?_ ?_ | refine fun _ _ (_ : Keeps fm r0 _) => ?_ | apply Keeps.ite | apply noteLocks_keeps | apply setCond_keeps | apply Keeps.forRange

theorem tamper_keeps {fm : Nat} {r0 : State}  {s : State} {b : Nat} (hfm : Mask.le 0x8000000000003408000000000000040000000000000000000000000000000000000000000000000000005b000000817c000000000000000000000000000000204010000000000000600000000c08120 fm = true) (h0 : Keeps fm r0 s)  : Keeps fm r0 (tamper s b) := by
  unfold tamper
  try lift_lets -underBinder
  with_reducible repeat' first | assumption | exact fpart (by decide +kernel) hfm | exact fle (by decide +kernel) hfm | exact fok (by decide +kernel) hfm | exact fall (by decide +kernel) hfm | exact fokIx (by decide +kernel) hfm | exact fokAll (by decide +kernel) hfm | refine Mask.ok_ite ?_ ?_ | refine faultsOf_ok ?_ ?_ | refine fun _ _ (_ : Keeps fm r0 _) => ?_ | (intro a; refine (fun ha : Keeps fm r0 a => ?_) ?_; clear_value a; rotate_left; dsimp only [a]; rotate_right) | (intro a; clear_value a) | lift_lets -underBinder | apply Keeps.ite | apply wr_keeps | apply bump_keeps | apply wrB_keeps | apply zeroizeAll_keeps | apply lockPools_keeps | apply drive_keeps | apply raiseOpen_keeps | apply Keeps.forRange

theorem execTamperEnclosureAssert_keeps {fm : Nat} {r0 : State}  {s : State} (hfm : Mask.le 0x8000000000003408000000000000040000000000000000000000000000000000000000000000000000005b000000817c000000000000000000000000000000204010000000000000600000000c08120 fm = true) (h0 : Keeps fm r0 s)  : ∃ t1, (execTamperEnclosureAssert s) = .next t1 ∧ Keeps fm r0 t1 := by
  refine ⟨_, rfl, ?_⟩
  try lift_lets -underBinder
  with_reducible repeat' first | assumption | exact fpart (by decide +kernel) hfm | exact fle (by decide +kernel) hfm | exact fok (by decide +kernel) hfm | exact fall (by decide +kernel) hfm | exact fokIx (by decide +kernel) hfm | exact fokAll (by decide +kernel) hfm | refine Mask.ok_ite ?_ ?_ | refine faultsOf_ok ?_ ?_ | (intro a; refine (fun ha : Keeps fm r0 a => ?_) ?_; clear_value a; rotate_left; dsimp only [a]; rotate_right) | (intro a; clear_value a) | lift_lets -underBinder | apply Keeps.ite | apply tamper_keeps | apply wr_keeps | fail_if_no_progress (apply Keeps.upd <;> try first | exact Or.inr (fpart (by decide +kernel) hfm) | exact Or.inl rfl)

theorem execTamperMeshBreak_keeps {fm : Nat} {r0 : State}  {s : State} (hfm : Mask.le 0x8000000000003408000000000000040000000000000000000000000000000000000000000000000000005b000000817c000000000000000000000000000000204010000000000000600000000c08120 fm = true) (h0 : Keeps fm r0 s)  : ∃ t1, (execTamperMeshBreak s) = .next t1 ∧ Keeps fm r0 t1 := by
  refine ⟨_, rfl, ?_⟩
  with_reducible repeat' first | assumption | exact fpart (by decide +kernel) hfm | exact fle (by decide +kernel) hfm | exact fok (by decide +kernel) hfm | exact fall (by decide +kernel) hfm | exact fokIx (by decide +kernel) hfm | exact fokAll (by decide +kernel) hfm | refine Mask.ok_ite ?_ ?_ | refine faultsOf_ok ?_ ?_ | apply tamper_keeps | fail_if_no_progress (apply Keeps.upd <;> try first | exact Or.inr (fpart (by decide +kernel) hfm) | exact Or.inl rfl)

theorem tamperClear_keeps {fm : Nat} {r0 : State}  {s : State} {value : Nat} {quiet : Bool} (hfm : Mask.le 0x30000000000000000000000000000000000000000000000000000000000000000000008000 fm = true) (h0 : Keeps fm r0 s)  : Keeps fm r0 (tamperClear s value quiet).2 := by
  unfold tamperClear
  try lift_lets -underBinder
  with_reducible repeat' first | assumption | exact fpart (by decide +kernel) hfm | exact fle (by decide +kernel) hfm | exact fok (by decide +kernel) hfm | exact fall (by decide +kernel) hfm | exact fokIx (by decide +kernel) hfm | exact fokAll (by decide +kernel) hfm | refine Mask.ok_ite ?_ ?_ | refine faultsOf_ok ?_ ?_ | (intro a; refine (fun ha : Keeps fm r0 a => ?_) ?_; clear_value a; rotate_left; dsimp only [a]; rotate_right) | (intro a; clear_value a) | lift_lets -underBinder | apply Keeps.ite_snd | apply wr_keeps | fail_if_no_progress (apply Keeps.upd <;> try first | exact Or.inr (fpart (by decide +kernel) hfm) | exact Or.inl rfl)

theorem execTamperClear_keeps {fm : Nat} {r0 : State}  {value : Nat} {quiet : Bool} {s : State} (hfm : Mask.le 0x30000000000000000000000000000000000000000000000000000000000000000000008000 fm = true) (h0 : Keeps fm r0 s)  : ∃ t1, (execTamperClear value quiet s) = .next t1 ∧ Keeps fm r0 t1 := by
  refine ⟨_, rfl, ?_⟩
  with_reducible repeat' first | assumption | exact fpart (by decide +kernel) hfm | exact fle (by decide +kernel) hfm | exact fok (by decide +kernel) hfm | exact fall (by decide +kernel) hfm | exact fokIx (by decide +kernel) hfm | exact fokAll (by decide +kernel) hfm | refine Mask.ok_ite ?_ ?_ | refine faultsOf_ok ?_ ?_ | apply tamperClear_keeps

theorem execPipeClear_keeps {fm : Nat} {r0 : State}  {q : Nat} {pass : Bool} {s : State} (hfm : Mask.le 0x800000000000000000000000000000000000016000000000000000000000000000000000000000000000000000000000000000000000000000000000000000000010000000000000000000000000000 fm = true) (h0 : Keeps fm r0 s)  : ∃ t1, (execPipeClear q pass s) = .next t1 ∧ Keeps fm r0 t1 := by
  refine ⟨_, rfl, ?_⟩
  with_reducible repeat' first | assumption | exact fpart (by decide +kernel) hfm | exact fle (by decide +kernel) hfm | exact fok (by decide +kernel) hfm | exact fall (by decide +kernel) hfm | exact fokIx (by decide +kernel) hfm | exact fokAll (by decide +kernel) hfm | refine Mask.ok_ite ?_ ?_ | refine faultsOf_ok ?_ ?_ | apply Keeps.ite | apply noteLocks_keeps | apply notePipes_keeps | apply wr_keeps

/-! ## Weir -/

theorem recomputeWeir_keeps {fm : Nat} {r0 : State}  {s : State} (hfm : Mask.le 0x3008000000000000001f0000000a3900000000000000000000000000000000000000001400000000017c190000000000000000000000000000000000000000000000020000040845920 fm = true) (h0 : Keeps fm r0 s)  : Keeps fm r0 (recomputeWeir s) := by
  unfold recomputeWeir
  try lift_lets -underBinder
  with_reducible repeat' first | assumption | exact fpart (by decide +kernel) hfm | exact fle (by decide +kernel) hfm | exact fok (by decide +kernel) hfm | exact fall (by decide +kernel) hfm | exact fokIx (by decide +kernel) hfm | exact fokAll (by decide +kernel) hfm | refine Mask.ok_ite ?_ ?_ | refine faultsOf_ok ?_ ?_ | (intro a; refine (fun ha : Keeps fm r0 a => ?_) ?_; clear_value a; rotate_left; dsimp only [a]; rotate_right) | (intro a; clear_value a) | lift_lets -underBinder | apply Keeps.ite | apply wr_keeps | apply wrB_keeps | apply weirFell_keeps

theorem execWeirWaitWarn_keeps {fm : Nat} {r0 : State}  {q : Nat} {tag : Nat} {s : State} (hfm : Mask.le 0x30080000000000000000000000100000000000000000000000000000000000000000000000000000017c000000000000000000000000000000000000000000000000000000000800160 fm = true) (h0 : Keeps fm r0 s)  : ∃ t1, (execWeirWaitWarn q tag s) = .next t1 ∧ Keeps fm r0 t1 := by
  refine ⟨_, rfl, ?_⟩
  with_reducible repeat' first | assumption | exact fpart (by decide +kernel) hfm | exact fle (by decide +kernel) hfm | exact fok (by decide +kernel) hfm | exact fall (by decide +kernel) hfm | exact fokIx (by decide +kernel) hfm | exact fokAll (by decide +kernel) hfm | refine Mask.ok_ite ?_ ?_ | refine faultsOf_ok ?_ ?_ | apply Keeps.ite | apply raise_keeps | apply bump_keeps | apply modQueued_keeps | split

theorem noteCistern_keeps {fm : Nat} {r0 : State}  {s : State} (hfm : Mask.le 0x3008000000000000001f0000000a3900000000000000000000000000000000000000001400000000017c190000000000000008000000000000000000000000000000020000040845920 fm = true) (h0 : Keeps fm r0 s)  : Keeps fm r0 (noteCistern s) := by
  unfold noteCistern
  try lift_lets -underBinder
  with_reducible repeat' first | assumption | exact fpart (by decide +kernel) hfm | exact fle (by decide +kernel) hfm | exact fok (by decide +kernel) hfm | exact fall (by decide +kernel) hfm | exact fokIx (by decide +kernel) hfm | exact fokAll (by decide +kernel) hfm | refine Mask.ok_ite ?_ ?_ | refine faultsOf_ok ?_ ?_ | (intro a; clear_value a) | lift_lets -underBinder | apply Keeps.ite | apply recomputeWeir_keeps | apply raiseOpen_keeps | apply wr_keeps

theorem execWeirRecompute_keeps {fm : Nat} {r0 : State}  {s : State} (hfm : Mask.le 0x3008000000000000001f0000000a3900000000000000000000000000000000000000001400000000017c190000000000000008000000000000000000000000000000020000040845920 fm = true) (h0 : Keeps fm r0 s)  : ∃ t1, (execWeirRecompute s) = .next t1 ∧ Keeps fm r0 t1 := by
  refine ⟨_, rfl, ?_⟩
  with_reducible repeat' first | assumption | exact fpart (by decide +kernel) hfm | exact fle (by decide +kernel) hfm | exact fok (by decide +kernel) hfm | exact fall (by decide +kernel) hfm | exact fokIx (by decide +kernel) hfm | exact fokAll (by decide +kernel) hfm | refine Mask.ok_ite ?_ ?_ | refine faultsOf_ok ?_ ?_ | apply recomputeWeir_keeps | apply noteCistern_keeps

theorem setDies_keeps {fm : Nat} {r0 : State}  {s : State} {n : Nat} (hfm : Mask.le 0x3008000000000000001f0000000a3900000000000000000000000000000000000000001400000000017c190000000000000038000000000000000000000000000000020000040845920 fm = true) (h0 : Keeps fm r0 s)  : Keeps fm r0 (setDies s n) := by
  unfold setDies
  with_reducible repeat' first | assumption | exact fpart (by decide +kernel) hfm | exact fle (by decide +kernel) hfm | exact fok (by decide +kernel) hfm | exact fall (by decide +kernel) hfm | exact fokIx (by decide +kernel) hfm | exact fokAll (by decide +kernel) hfm | refine Mask.ok_ite ?_ ?_ | refine faultsOf_ok ?_ ?_ | apply noteCistern_keeps | apply wr_keeps

theorem execCisternSelftestTimer_keeps {fm : Nat} {r0 : State}  {dies : Nat} {s : State} (hfm : Mask.le 0x3008000000000000001f0000000a3900000000000000000000000000000000000000001400000000017c190000000000000038000000000000000000000000000000020000040845920 fm = true) (h0 : Keeps fm r0 s)  : ∃ t1, (execCisternSelftestTimer dies s) = .next t1 ∧ Keeps fm r0 t1 := by
  refine ⟨_, rfl, ?_⟩
  with_reducible repeat' first | assumption | exact fpart (by decide +kernel) hfm | exact fle (by decide +kernel) hfm | exact fok (by decide +kernel) hfm | exact fall (by decide +kernel) hfm | exact fokIx (by decide +kernel) hfm | exact fokAll (by decide +kernel) hfm | refine Mask.ok_ite ?_ ?_ | refine faultsOf_ok ?_ ?_ | apply Keeps.ite | apply setDies_keeps

theorem eraseNext_keeps {fm : Nat} {r0 : State}  {s : State} (hfm : Mask.le 0x100000 fm = true) (h0 : Keeps fm r0 s)  : Keeps fm r0 (eraseNext s) := by
  unfold eraseNext
  with_reducible repeat' first
    | assumption
    | exact fpart (by decide +kernel) hfm
    | exact fle (by decide +kernel) hfm
    | exact fok (by decide +kernel) hfm
    | exact fall (by decide +kernel) hfm
    | exact fokIx (by decide +kernel) hfm
    | exact fokAll (by decide +kernel) hfm
    | refine Mask.ok_ite ?_ ?_
    | refine faultsOf_ok ?_ ?_
    | refine fun _ (_ : Keeps fm r0 _) => ?_
    | refine fun _ _ (_ : Keeps fm r0 _) => ?_
    | refine fun _ _ _ (_ : Keeps fm r0 _) => ?_
    | exact KeepsO.get rfl (by assumption)
    | exact KeepsP.get rfl (by assumption)
    | apply Keeps.ite
    | apply Keeps.forEach
    | apply Keeps.forRange
    | apply Keeps.foldl
    | apply Keeps.foldl_fst
    | apply Keeps.foldl_snd
    | exact KeepsO.none
    | exact KeepsP.none
    | apply KeepsO.some
    | apply KeepsP.some
    | apply KeepsO.ite
    | apply KeepsP.ite
    | refine KeepsO.foldl _ _ ?_ (fun _ _ _ => ?_)
    | exact KeepsF.lost
    | apply KeepsF.started
    | apply KeepsF.ite
    | fail_if_no_progress (apply Keeps.upd <;> try first | exact Or.inr (fpart (by decide +kernel) hfm) | exact Or.inl rfl)
    | fail_if_no_progress (apply Keeps.updDict <;> try first | exact Or.inr (fpart (by decide +kernel) hfm) | exact Or.inl rfl)
    | refine Keeps.updRegs (rg := Tbl.filterK _ _) ?_ (Tbl.wf_filterK _) (Tbl.wf_filterK _)
    | refine Keeps.updRegs (rg := Tbl.filterK _ _) ?_ (Tbl.wf_filterK _) id
    | split
    | refine Keeps.of_snd (by assumption) ?_
    | refine Keeps.of_fst (by assumption) ?_
    | refine KeepsO.get (by assumption) ?_
    | refine KeepsP.get (by assumption) ?_
    | refine KeepsF.get (by assumption) ?_

theorem execCisternEraseDone_keeps {fm : Nat} {r0 : State}  {bytes : Nat} {s : State} (hfm : Mask.le 0x3008000000000000001f0000000a3900000000000000000000000000000000000000001400000000017c190000000000000048000000000000000000000000000000020000040945920 fm = true) (h0 : Keeps fm r0 s)  : ∃ t1, (execCisternEraseDone bytes s) = .next t1 ∧ Keeps fm r0 t1 := by
  refine ⟨_, rfl, ?_⟩
  with_reducible repeat' first | assumption | exact fpart (by decide +kernel) hfm | exact fle (by decide +kernel) hfm | exact fok (by decide +kernel) hfm | exact fall (by decide +kernel) hfm | exact fokIx (by decide +kernel) hfm | exact fokAll (by decide +kernel) hfm | refine Mask.ok_ite ?_ ?_ | refine faultsOf_ok ?_ ?_ | apply Keeps.ite | apply noteCistern_keeps | apply wr_keeps | apply eraseNext_keeps

theorem execCisternImageRelease_keeps {fm : Nat} {r0 : State}  {s : State} (hfm : Mask.le 0x80000000000000000000000000000000000000000100000 fm = true) (h0 : Keeps fm r0 s)  : ∃ t1, (execCisternImageRelease s) = .next t1 ∧ Keeps fm r0 t1 := by
  refine ⟨_, rfl, ?_⟩
  with_reducible repeat' first | assumption | exact fpart (by decide +kernel) hfm | exact fle (by decide +kernel) hfm | exact fok (by decide +kernel) hfm | exact fall (by decide +kernel) hfm | exact fokIx (by decide +kernel) hfm | exact fokAll (by decide +kernel) hfm | refine Mask.ok_ite ?_ ?_ | refine faultsOf_ok ?_ ?_ | apply Keeps.ite | apply wrB_keeps | fail_if_no_progress (apply Keeps.upd <;> try first | exact Or.inr (fpart (by decide +kernel) hfm) | exact Or.inl rfl)

/-! ## Pack -/

theorem modPack_keeps {fm : Nat} {r0 : State}  {s : State} {f : PackSt → PackSt} (hfm : Mask.le 0x80000 fm = true) (h0 : Keeps fm r0 s)  : Keeps fm r0 (modPack s f) := by
  unfold modPack
  with_reducible repeat' first | assumption | exact fpart (by decide +kernel) hfm | exact fle (by decide +kernel) hfm | exact fok (by decide +kernel) hfm | exact fall (by decide +kernel) hfm | exact fokIx (by decide +kernel) hfm | exact fokAll (by decide +kernel) hfm | refine Mask.ok_ite ?_ ?_ | refine faultsOf_ok ?_ ?_ | fail_if_no_progress (apply Keeps.upd <;> try first | exact Or.inr (fpart (by decide +kernel) hfm) | exact Or.inl rfl)

theorem noteCharge_keeps {fm : Nat} {r0 : State}  {s : State} (hfm : Mask.le 0x40000000000000000000000000000000000c00000 fm = true) (h0 : Keeps fm r0 s)  : Keeps fm r0 (noteCharge s) := by
  unfold noteCharge
  with_reducible repeat' first | assumption | exact fpart (by decide +kernel) hfm | exact fle (by decide +kernel) hfm | exact fok (by decide +kernel) hfm | exact fall (by decide +kernel) hfm | exact fokIx (by decide +kernel) hfm | exact fokAll (by decide +kernel) hfm | refine Mask.ok_ite ?_ ?_ | refine faultsOf_ok ?_ ?_ | apply Keeps.ite | apply wrB_keeps | apply drive_keeps

theorem estimate_keeps {fm : Nat} {r0 : State}  {s : State} (hfm : Mask.le 0x3008000000000000001f0000000a3900000000000000000000000000000000000000001400000000017c19000000000000000000003c800000000000000000000000020000040845920 fm = true) (h0 : Keeps fm r0 s)  : Keeps fm r0 (estimate s) := by
  unfold estimate
  try lift_lets -underBinder
  with_reducible repeat' first | assumption | exact fpart (by decide +kernel) hfm | exact fle (by decide +kernel) hfm | exact fok (by decide +kernel) hfm | exact fall (by decide +kernel) hfm | exact fokIx (by decide +kernel) hfm | exact fokAll (by decide +kernel) hfm | refine Mask.ok_ite ?_ ?_ | refine faultsOf_ok ?_ ?_ | (intro a; refine (fun ha : Keeps fm r0 a => ?_) ?_; clear_value a; rotate_left; dsimp only [a]; rotate_right) | (intro a; clear_value a) | lift_lets -underBinder | apply wr_keeps | apply recomputeWeir_keeps

theorem learn_keeps {fm : Nat} {r0 : State}  {s : State} {learned : ObjDesc} {nominal : ObjDesc} {x : Nat} (hfm : Mask.le 0x80000000000000000000000000000000000000000 fm = true) (hm_learned : Mask.ok fm learned = true) (h0 : Keeps fm r0 s)  : Keeps fm r0 (learn s learned nominal x) := by
  unfold learn
  try lift_lets -underBinder
  with_reducible repeat' first | assumption | exact fpart (by decide +kernel) hfm | exact fle (by decide +kernel) hfm | exact fok (by decide +kernel) hfm | exact fall (by decide +kernel) hfm | exact fokIx (by decide +kernel) hfm | exact fokAll (by decide +kernel) hfm | refine Mask.ok_ite ?_ ?_ | refine faultsOf_ok ?_ ?_ | (intro a; clear_value a) | lift_lets -underBinder | apply Keeps.ite | apply bump_keeps | apply wr_keeps

theorem followCurve_keeps {fm : Nat} {r0 : State}  {s : State} (hfm : Mask.le 0x81000000000000000000000000000000000080000 fm = true) (h0 : Keeps fm r0 s)  : Keeps fm r0 (followCurve s) := by
  unfold followCurve
  try lift_lets -underBinder
  with_reducible repeat' first | assumption | exact fpart (by decide +kernel) hfm | exact fle (by decide +kernel) hfm | exact fok (by decide +kernel) hfm | exact fall (by decide +kernel) hfm | exact fokIx (by decide +kernel) hfm | exact fokAll (by decide +kernel) hfm | refine Mask.ok_ite ?_ ?_ | refine faultsOf_ok ?_ ?_ | (intro a; clear_value a) | lift_lets -underBinder | apply Keeps.ite | apply modPack_keeps | apply learn_keeps | split

theorem setPackState_keeps {fm : Nat} {r0 : State}  {s : State} {st : Nat} (hfm : Mask.le 0x3008000000000000001f0000000a3900000000000000000000000000000000000000001400000000017c190000000000000000000040040000000000000000000000020000040c45920 fm = true) (h0 : Keeps fm r0 s)  : Keeps fm r0 (setPackState s st) := by
  unfold setPackState
  with_reducible repeat' first | assumption | exact fpart (by decide +kernel) hfm | exact fle (by decide +kernel) hfm | exact fok (by decide +kernel) hfm | exact fall (by decide +kernel) hfm | exact fokIx (by decide +kernel) hfm | exact fokAll (by decide +kernel) hfm | refine Mask.ok_ite ?_ ?_ | refine faultsOf_ok ?_ ?_ | apply recomputeWeir_keeps | apply noteCharge_keeps | apply wr_keeps

theorem endMeasure_keeps {fm : Nat} {r0 : State}  {s : State} (hfm : Mask.le 0xc80000 fm = true) (h0 : Keeps fm r0 s)  : Keeps fm r0 (endMeasure s) := by
  unfold endMeasure
  try lift_lets -underBinder
  with_reducible repeat' first | assumption | exact fpart (by decide +kernel) hfm | exact fle (by decide +kernel) hfm | exact fok (by decide +kernel) hfm | exact fall (by decide +kernel) hfm | exact fokIx (by decide +kernel) hfm | exact fokAll (by decide +kernel) hfm | refine Mask.ok_ite ?_ ?_ | refine faultsOf_ok ?_ ?_ | (intro a; refine (fun ha : Keeps fm r0 a => ?_) ?_; clear_value a; rotate_left; dsimp only [a]; rotate_right) | lift_lets -underBinder | apply Keeps.ite | apply drive_keeps | apply modPack_keeps

theorem measureDue_keeps {fm : Nat} {r0 : State}  {s : State} (hfm : Mask.le 0x400000000000000000000000000000000000000000000040000000000000000000000000000000000c80000 fm = true) (h0 : Keeps fm r0 s)  : Keeps fm r0 (measureDue s) := by
  unfold measureDue
  with_reducible repeat' first | assumption | exact fpart (by decide +kernel) hfm | exact fle (by decide +kernel) hfm | exact fok (by decide +kernel) hfm | exact fall (by decide +kernel) hfm | exact fokIx (by decide +kernel) hfm | exact fokAll (by decide +kernel) hfm | refine Mask.ok_ite ?_ ?_ | refine faultsOf_ok ?_ ?_ | apply Keeps.ite | apply bump_keeps | apply modPack_keeps | apply noteCharge_keeps

theorem enterLearning_keeps {fm : Nat} {r0 : State}  {s : State} (hfm : Mask.le 0x3008000000000000001f0000000a3900000000000000000000000000000040000000001400000000017c1900000000000000000000400c0000000000000000000000020000040cc5920 fm = true) (h0 : Keeps fm r0 s)  : Keeps fm r0 (enterLearning s) := by
  unfold enterLearning
  with_reducible repeat' first | assumption | exact fpart (by decide +kernel) hfm | exact fle (by decide +kernel) hfm | exact fok (by decide +kernel) hfm | exact fall (by decide +kernel) hfm | exact fokIx (by decide +kernel) hfm | exact fokAll (by decide +kernel) hfm | refine Mask.ok_ite ?_ ?_ | refine faultsOf_ok ?_ ?_ | apply measureDue_keeps | apply setPackState_keeps | apply wr_keeps | apply modPack_keeps

theorem packFault_keeps {fm : Nat} {r0 : State}  {s : State} {cause : Nat} (hfm : Mask.le 0x3008000000000000001f0000000a3900000000000000000000000000000000000000001400000000017c1900000000000000000000400c0000000000000000000000020000040cc5920 fm = true) (h0 : Keeps fm r0 s)  : Keeps fm r0 (packFault s cause) := by
  unfold packFault
  with_reducible repeat' first | assumption | exact fpart (by decide +kernel) hfm | exact fle (by decide +kernel) hfm | exact fok (by decide +kernel) hfm | exact fall (by decide +kernel) hfm | exact fokIx (by decide +kernel) hfm | exact fokAll (by decide +kernel) hfm | refine Mask.ok_ite ?_ ?_ | refine faultsOf_ok ?_ ?_ | apply Keeps.ite | apply raiseOpen_keeps | apply setPackState_keeps | apply wr_keeps | apply modPack_keeps | apply endMeasure_keeps

theorem endLearning_keeps {fm : Nat} {r0 : State}  {s : State} (hfm : Mask.le 0x3008000000000000001f0000000a3900000000000000000000000000000000000000001400000000017c190000000000000000000040040000000000000000000000020000040c45920 fm = true) (h0 : Keeps fm r0 s)  : Keeps fm r0 (endLearning s) := by
  unfold endLearning
  with_reducible repeat' first | assumption | exact fpart (by decide +kernel) hfm | exact fle (by decide +kernel) hfm | exact fok (by decide +kernel) hfm | exact fall (by decide +kernel) hfm | exact fokIx (by decide +kernel) hfm | exact fokAll (by decide +kernel) hfm | refine Mask.ok_ite ?_ ?_ | refine faultsOf_ok ?_ ?_ | apply Keeps.ite | apply setPackState_keeps

theorem startPack_keeps {fm : Nat} {r0 : State}  {s : State} (hfm : Mask.le 0x3008000000000000001f0000000a3900000000000000000000000000000040000000001400000000017c1900000000000000000000400c0000000000000000000000020000040cc5920 fm = true) (h0 : Keeps fm r0 s)  : Keeps fm r0 (startPack s) := by
  unfold startPack
  with_reducible repeat' first | assumption | exact fpart (by decide +kernel) hfm | exact fle (by decide +kernel) hfm | exact fok (by decide +kernel) hfm | exact fall (by decide +kernel) hfm | exact fokIx (by decide +kernel) hfm | exact fokAll (by decide +kernel) hfm | refine Mask.ok_ite ?_ ?_ | refine faultsOf_ok ?_ ?_ | apply Keeps.ite | apply enterLearning_keeps | apply setPackState_keeps

theorem stopPack_keeps {fm : Nat} {r0 : State}  {s : State} (hfm : Mask.le 0x3008000000000000001f0000000a3900000000000000000000000000000000000000001400000000017c1900000000000000000000400c0000000000000000000000020000040cc5920 fm = true) (h0 : Keeps fm r0 s)  : Keeps fm r0 (stopPack s) := by
  unfold stopPack
  with_reducible repeat' first | assumption | exact fpart (by decide +kernel) hfm | exact fle (by decide +kernel) hfm | exact fok (by decide +kernel) hfm | exact fall (by decide +kernel) hfm | exact fokIx (by decide +kernel) hfm | exact fokAll (by decide +kernel) hfm | refine Mask.ok_ite ?_ ?_ | refine faultsOf_ok ?_ ?_ | apply setPackState_keeps | apply wr_keeps | apply modPack_keeps | apply endMeasure_keeps

theorem packEnable_keeps {fm : Nat} {r0 : State}  {s : State} {on : Bool} (hfm : Mask.le 0x200003008000000000000001f0000000a3900000000000000000000000000000041000000001400000000017c1900000000000000000000400c0000000000000000000000020000040cc5920 fm = true) (h0 : Keeps fm r0 s)  : Keeps fm r0 (packEnable s on).2 := by
  unfold packEnable
  with_reducible repeat' first | assumption | exact fpart (by decide +kernel) hfm | exact fle (by decide +kernel) hfm | exact fok (by decide +kernel) hfm | exact fall (by decide +kernel) hfm | exact fokIx (by decide +kernel) hfm | exact fokAll (by decide +kernel) hfm | refine Mask.ok_ite ?_ ?_ | refine faultsOf_ok ?_ ?_ | apply Keeps.ite_snd | apply startPack_keeps | apply wr_keeps | apply wrB_keeps | apply stopPack_keeps

theorem execPackEnable_keeps {fm : Nat} {r0 : State}  {on : Bool} {s : State} (hfm : Mask.le 0x200003008000000000000001f0000000a3900000000000000000000000000000041000000001400000000017c1900000000000000000000400c0000000000000000000000020000040cc5920 fm = true) (h0 : Keeps fm r0 s)  : ∃ t1, (execPackEnable on s) = .next t1 ∧ Keeps fm r0 t1 := by
  refine ⟨_, rfl, ?_⟩
  with_reducible repeat' first | assumption | exact fpart (by decide +kernel) hfm | exact fle (by decide +kernel) hfm | exact fok (by decide +kernel) hfm | exact fall (by decide +kernel) hfm | exact fokIx (by decide +kernel) hfm | exact fokAll (by decide +kernel) hfm | refine Mask.ok_ite ?_ ?_ | refine faultsOf_ok ?_ ?_ | apply packEnable_keeps

theorem resetLearning_keeps {fm : Nat} {r0 : State}  {s : State} (hfm : Mask.le 0x3008000000000000001f0000000a3900000000000000000000000000000041000000001400000000017c1900000000000000000000430c0000000000000000000000020000040cc5920 fm = true) (h0 : Keeps fm r0 s)  : Keeps fm r0 (resetLearning s) := by
  unfold resetLearning
  try lift_lets -underBinder
  with_reducible repeat' first | assumption | exact fpart (by decide +kernel) hfm | exact fle (by decide +kernel) hfm | exact fok (by decide +kernel) hfm | exact fall (by decide +kernel) hfm | exact fokIx (by decide +kernel) hfm | exact fokAll (by decide +kernel) hfm | refine Mask.ok_ite ?_ ?_ | refine faultsOf_ok ?_ ?_ | (intro a; refine (fun ha : Keeps fm r0 a => ?_) ?_; clear_value a; rotate_left; dsimp only [a]; rotate_right) | lift_lets -underBinder | apply Keeps.ite | apply wr_keeps | apply modPack_keeps | apply endMeasure_keeps | apply enterLearning_keeps

theorem execPackResetLearning_keeps {fm : Nat} {r0 : State}  {s : State} (hfm : Mask.le 0x3008000000000000001f0000000a3900000000000000000000000000000041000000001400000000017c1900000000000000000000430c0000000000000000000000020000040cc5920 fm = true) (h0 : Keeps fm r0 s)  : ∃ t1, (execPackResetLearning s) = .next t1 ∧ Keeps fm r0 t1 := by
  refine ⟨_, rfl, ?_⟩
  with_reducible repeat' first | assumption | exact fpart (by decide +kernel) hfm | exact fle (by decide +kernel) hfm | exact fok (by decide +kernel) hfm | exact fall (by decide +kernel) hfm | exact fokIx (by decide +kernel) hfm | exact fokAll (by decide +kernel) hfm | refine Mask.ok_ite ?_ ?_ | refine faultsOf_ok ?_ ?_ | apply resetLearning_keeps

theorem measureNow_keeps {fm : Nat} {r0 : State}  {s : State} (hfm : Mask.le 0x400000000000000000000000000000000000000000000040000000000000000000000000000000000c80000 fm = true) (h0 : Keeps fm r0 s)  : Keeps fm r0 (measureNow s).2 := by
  unfold measureNow
  with_reducible repeat' first | assumption | exact fpart (by decide +kernel) hfm | exact fle (by decide +kernel) hfm | exact fok (by decide +kernel) hfm | exact fall (by decide +kernel) hfm | exact fokIx (by decide +kernel) hfm | exact fokAll (by decide +kernel) hfm | refine Mask.ok_ite ?_ ?_ | refine faultsOf_ok ?_ ?_ | apply Keeps.ite | apply Keeps.ite_snd | apply measureDue_keeps

theorem execPackEsrMeasureNow_keeps {fm : Nat} {r0 : State}  {s : State} (hfm : Mask.le 0x400000000000000000000000000000000000000000000040000000000000000000000000000000000c80000 fm = true) (h0 : Keeps fm r0 s)  : ∃ t1, (execPackEsrMeasureNow s) = .next t1 ∧ Keeps fm r0 t1 := by
  refine ⟨_, rfl, ?_⟩
  with_reducible repeat' first | assumption | exact fpart (by decide +kernel) hfm | exact fle (by decide +kernel) hfm | exact fok (by decide +kernel) hfm | exact fall (by decide +kernel) hfm | exact fokIx (by decide +kernel) hfm | exact fokAll (by decide +kernel) hfm | refine Mask.ok_ite ?_ ?_ | refine faultsOf_ok ?_ ?_ | apply measureNow_keeps

theorem execPackEsrInterval_keeps {fm : Nat} {r0 : State}  {s : State} (hfm : Mask.le 0x400000000000000000000000000000000000000000000040000000000000000000000000000000000c80000 fm = true) (h0 : Keeps fm r0 s)  : ∃ t1, (execPackEsrInterval s) = .next t1 ∧ Keeps fm r0 t1 := by
  refine ⟨_, rfl, ?_⟩
  with_reducible repeat' first | assumption | exact fpart (by decide +kernel) hfm | exact fle (by decide +kernel) hfm | exact fok (by decide +kernel) hfm | exact fall (by decide +kernel) hfm | exact fokIx (by decide +kernel) hfm | exact fokAll (by decide +kernel) hfm | refine Mask.ok_ite ?_ ?_ | refine faultsOf_ok ?_ ?_ | apply Keeps.ite | apply measureDue_keeps

theorem execImpedanceDeferredRun_keeps {fm : Nat} {r0 : State}  {s : State} (hfm : Mask.le 0x400000000000000000000000000000000000000000000040000000000000000000000000000000000c80000 fm = true) (h0 : Keeps fm r0 s)  : ∃ t1, (execImpedanceDeferredRun s) = .next t1 ∧ Keeps fm r0 t1 := by
  refine ⟨_, rfl, ?_⟩
  with_reducible repeat' first | assumption | exact fpart (by decide +kernel) hfm | exact fle (by decide +kernel) hfm | exact fok (by decide +kernel) hfm | exact fall (by decide +kernel) hfm | exact fokIx (by decide +kernel) hfm | exact fokAll (by decide +kernel) hfm | refine Mask.ok_ite ?_ ?_ | refine faultsOf_ok ?_ ?_ | apply Keeps.ite | apply measureDue_keeps

theorem execImpedanceSettleDone_keeps {fm : Nat} {r0 : State}  {v : Int} {i : Int} {s : State} (hfm : Mask.le 0xc80000 fm = true) (h0 : Keeps fm r0 s)  : ∃ t1, (execImpedanceSettleDone v i s) = .next t1 ∧ Keeps fm r0 t1 := by
  refine ⟨_, rfl, ?_⟩
  with_reducible repeat' first | assumption | exact fpart (by decide +kernel) hfm | exact fle (by decide +kernel) hfm | exact fok (by decide +kernel) hfm | exact fall (by decide +kernel) hfm | exact fokIx (by decide +kernel) hfm | exact fokAll (by decide +kernel) hfm | refine Mask.ok_ite ?_ ?_ | refine faultsOf_ok ?_ ?_ | apply Keeps.ite | apply drive_keeps | apply modPack_keeps

theorem checkAgeing_keeps {fm : Nat} {r0 : State}  {s : State} (hfm : Mask.le 0x3008000000000000001f0000000a3900000000000000000000000000000000000000001400000000017c1900000000000000000000400c0000000000000000000000020000040cc5920 fm = true) (h0 : Keeps fm r0 s)  : Keeps fm r0 (checkAgeing s) := by
  unfold checkAgeing
  try lift_lets -underBinder
  with_reducible repeat' first | assumption | exact fpart (by decide +kernel) hfm | exact fle (by decide +kernel) hfm | exact fok (by decide +kernel) hfm | exact fall (by decide +kernel) hfm | exact fokIx (by decide +kernel) hfm | exact fokAll (by decide +kernel) hfm | refine Mask.ok_ite ?_ ?_ | refine faultsOf_ok ?_ ?_ | (intro a; clear_value a) | lift_lets -underBinder | apply Keeps.ite | apply raiseOpen_keeps | apply modPack_keeps | apply packFault_keeps

theorem measured_keeps {fm : Nat} {r0 : State}  {s : State} {v1 : Int} {i1 : Int} (hfm : Mask.le 0x3008000000000000001f0000000a39000000000000000000000000000000a3800000001400000000017c1900000000000000000000400c0000000000000000000000020000040cc5920 fm = true) (h0 : Keeps fm r0 s)  : Keeps fm r0 (measured s v1 i1) := by
  unfold measured
  try lift_lets -underBinder
  with_reducible repeat' first | assumption | exact fpart (by decide +kernel) hfm | exact fle (by decide +kernel) hfm | exact fok (by decide +kernel) hfm | exact fall (by decide +kernel) hfm | exact fokIx (by decide +kernel) hfm | exact fokAll (by decide +kernel) hfm | refine Mask.ok_ite ?_ ?_ | refine faultsOf_ok ?_ ?_ | (intro a; refine (fun ha : Keeps fm r0 a => ?_) ?_; clear_value a; rotate_left; dsimp only [a]; rotate_right) | (intro a; clear_value a) | lift_lets -underBinder | apply Keeps.ite | apply bump_keeps | apply wr_keeps | apply modPack_keeps | apply endMeasure_keeps | apply checkAgeing_keeps | apply setPackState_keeps | apply endLearning_keeps | apply noteCharge_keeps

theorem execImpedanceLoadOff_keeps {fm : Nat} {r0 : State}  {v : Int} {i : Int} {s : State} (hfm : Mask.le 0x3008000000000000001f0000000a39000000000000000000000000000000a3800000001400000000017c1900000000000000000000400c0000000000000000000000020000040cc5920 fm = true) (h0 : Keeps fm r0 s)  : ∃ t1, (execImpedanceLoadOff v i s) = .next t1 ∧ Keeps fm r0 t1 := by
  refine ⟨_, rfl, ?_⟩
  with_reducible repeat' first | assumption | exact fpart (by decide +kernel) hfm | exact fle (by decide +kernel) hfm | exact fok (by decide +kernel) hfm | exact fall (by decide +kernel) hfm | exact fokIx (by decide +kernel) hfm | exact fokAll (by decide +kernel) hfm | refine Mask.ok_ite ?_ ?_ | refine faultsOf_ok ?_ ?_ | apply Keeps.ite | apply measured_keeps

theorem packSag_keeps {fm : Nat} {r0 : State}  {s : State} (hfm : Mask.le 0x400000000000000000000000000000000000000000000040000000000000000000000000000000000c80000 fm = true) (h0 : Keeps fm r0 s)  : Keeps fm r0 (packSag s) := by
  unfold packSag
  with_reducible repeat' first | assumption | exact fpart (by decide +kernel) hfm | exact fle (by decide +kernel) hfm | exact fok (by decide +kernel) hfm | exact fall (by decide +kernel) hfm | exact fokIx (by decide +kernel) hfm | exact fokAll (by decide +kernel) hfm | refine Mask.ok_ite ?_ ?_ | refine faultsOf_ok ?_ ?_ | apply Keeps.ite | apply noteCharge_keeps | apply bump_keeps | apply modPack_keeps | apply endMeasure_keeps

theorem checkTemp_keeps {fm : Nat} {r0 : State}  {s : State} (hfm : Mask.le 0x3008000000000000001f0000000a3900000000000000000000000000000040000000001400000000017c1900000000000000000000400c0000000000000000000000020000040cc5920 fm = true) (h0 : Keeps fm r0 s)  : Keeps fm r0 (checkTemp s) := by
  unfold checkTemp
  try lift_lets -underBinder
  with_reducible repeat' first | assumption | exact fpart (by decide +kernel) hfm | exact fle (by decide +kernel) hfm | exact fok (by decide +kernel) hfm | exact fall (by decide +kernel) hfm | exact fokIx (by decide +kernel) hfm | exact fokAll (by decide +kernel) hfm | refine Mask.ok_ite ?_ ?_ | refine faultsOf_ok ?_ ?_ | (intro a; clear_value a) | lift_lets -underBinder | apply Keeps.ite | apply packFault_keeps | apply enterLearning_keeps

theorem execPackSample_keeps {fm : Nat} {r0 : State}  {v : Nat} {i : Int} {temp : Int} {ntc : Nat} {s : State} (hfm : Mask.le 0x3008000000000000001f0000000a3900000000000000000000000000000040000000001400000000017c1900000000000000000000407c0000000000000000000000020000040cc5920 fm = true) (h0 : Keeps fm r0 s)  : ∃ t1, (execPackSample v i temp ntc s) = .next t1 ∧ Keeps fm r0 t1 := by
  refine ⟨_, rfl, ?_⟩
  try lift_lets -underBinder
  with_reducible repeat' first | assumption | exact fpart (by decide +kernel) hfm | exact fle (by decide +kernel) hfm | exact fok (by decide +kernel) hfm | exact fall (by decide +kernel) hfm | exact fokIx (by decide +kernel) hfm | exact fokAll (by decide +kernel) hfm | refine Mask.ok_ite ?_ ?_ | refine faultsOf_ok ?_ ?_ | (intro a; refine (fun ha : Keeps fm r0 a => ?_) ?_; clear_value a; rotate_left; dsimp only [a]; rotate_right) | lift_lets -underBinder | apply Keeps.ite | apply wr_keeps | apply modPack_keeps | apply checkTemp_keeps | apply noteCharge_keeps | apply setPackState_keeps

theorem execEstimatorUpdate_keeps {fm : Nat} {r0 : State}  {s : State} (hfm : Mask.le 0x3008000000000000001f0000000a3900000000000000000000000000000080000000001400000000017c1900000000000000000000bd8000000000000000000000000200000408c5920 fm = true) (h0 : Keeps fm r0 s)  : ∃ t1, (execEstimatorUpdate s) = .next t1 ∧ Keeps fm r0 t1 := by
  refine ⟨_, rfl, ?_⟩
  with_reducible repeat' first | assumption | exact fpart (by decide +kernel) hfm | exact fle (by decide +kernel) hfm | exact fok (by decide +kernel) hfm | exact fall (by decide +kernel) hfm | exact fokIx (by decide +kernel) hfm | exact fokAll (by decide +kernel) hfm | refine Mask.ok_ite ?_ ?_ | refine faultsOf_ok ?_ ?_ | apply Keeps.ite | apply estimate_keeps | apply wr_keeps | apply followCurve_keeps

theorem execPackOvervoltage_keeps {fm : Nat} {r0 : State}  {s : State} (hfm : Mask.le 0x3008000000000000001f0000000a3900000000000000000000000000000000000000001400000000017c1900000000000000000000400c0000000000000000000000020000040cc5920 fm = true) (h0 : Keeps fm r0 s)  : ∃ t1, (execPackOvervoltage s) = .next t1 ∧ Keeps fm r0 t1 := by
  refine ⟨_, rfl, ?_⟩
  with_reducible repeat' first | assumption | exact fpart (by decide +kernel) hfm | exact fle (by decide +kernel) hfm | exact fok (by decide +kernel) hfm | exact fall (by decide +kernel) hfm | exact fokIx (by decide +kernel) hfm | exact fokAll (by decide +kernel) hfm | refine Mask.ok_ite ?_ ?_ | refine faultsOf_ok ?_ ?_ | apply packFault_keeps

theorem execPackChargerFault_keeps {fm : Nat} {r0 : State}  {s : State} (hfm : Mask.le 0x3008000000000000001f0000000a3900000000000000000000000000000000000000001400000000017c1900000000000000000000400c0000000000000000000000020000040cc5920 fm = true) (h0 : Keeps fm r0 s)  : ∃ t1, (execPackChargerFault s) = .next t1 ∧ Keeps fm r0 t1 := by
  refine ⟨_, rfl, ?_⟩
  with_reducible repeat' first | assumption | exact fpart (by decide +kernel) hfm | exact fle (by decide +kernel) hfm | exact fok (by decide +kernel) hfm | exact fall (by decide +kernel) hfm | exact fokIx (by decide +kernel) hfm | exact fokAll (by decide +kernel) hfm | refine Mask.ok_ite ?_ ?_ | refine faultsOf_ok ?_ ?_ | apply Keeps.ite | apply packFault_keeps

theorem execPackAbsent_keeps {fm : Nat} {r0 : State}  {s : State} (hfm : Mask.le 0x3008000000000000001f0000000a3900000000000000000000000000000000000000001400000000017c190000000000000000000040040000000000000000000000020000040cc5920 fm = true) (h0 : Keeps fm r0 s)  : ∃ t1, (execPackAbsent s) = .next t1 ∧ Keeps fm r0 t1 := by
  refine ⟨_, rfl, ?_⟩
  with_reducible repeat' first | assumption | exact fpart (by decide +kernel) hfm | exact fle (by decide +kernel) hfm | exact fok (by decide +kernel) hfm | exact fall (by decide +kernel) hfm | exact fokIx (by decide +kernel) hfm | exact fokAll (by decide +kernel) hfm | refine Mask.ok_ite ?_ ?_ | refine faultsOf_ok ?_ ?_ | apply Keeps.ite | apply raiseOpen_keeps | apply setPackState_keeps | apply modPack_keeps | apply endMeasure_keeps

theorem execPackPresent_keeps {fm : Nat} {r0 : State}  {s : State} (hfm : Mask.le 0x3008000000000000001f0000000a3900000000000000000000000000000040000000001400000000017c1900000000000000000000400c0000000000000000000000020000040cc5920 fm = true) (h0 : Keeps fm r0 s)  : ∃ t1, (execPackPresent s) = .next t1 ∧ Keeps fm r0 t1 := by
  refine ⟨_, rfl, ?_⟩
  with_reducible repeat' first | assumption | exact fpart (by decide +kernel) hfm | exact fle (by decide +kernel) hfm | exact fok (by decide +kernel) hfm | exact fall (by decide +kernel) hfm | exact fokIx (by decide +kernel) hfm | exact fokAll (by decide +kernel) hfm | refine Mask.ok_ite ?_ ?_ | refine faultsOf_ok ?_ ?_ | apply Keeps.ite | apply enterLearning_keeps

theorem rested_keeps {fm : Nat} {r0 : State}  {s : State} (hfm : Mask.le 0x82000000000000000000000000000000000080000 fm = true) (h0 : Keeps fm r0 s)  : Keeps fm r0 (rested s) := by
  unfold rested
  try lift_lets -underBinder
  with_reducible repeat' first | assumption | exact fpart (by decide +kernel) hfm | exact fle (by decide +kernel) hfm | exact fok (by decide +kernel) hfm | exact fall (by decide +kernel) hfm | exact fokIx (by decide +kernel) hfm | exact fokAll (by decide +kernel) hfm | refine Mask.ok_ite ?_ ?_ | refine faultsOf_ok ?_ ?_ | (intro a; refine (fun ha : Keeps fm r0 a => ?_) ?_; clear_value a; rotate_left; dsimp only [a]; rotate_right) | (intro a; clear_value a) | lift_lets -underBinder | apply Keeps.ite | apply modPack_keeps | apply learn_keeps | split

theorem execPackRested_keeps {fm : Nat} {r0 : State}  {s : State} (hfm : Mask.le 0x3008000000000000001f0000000a3900000000000000000000000000000000000000001400000000017c1900000000000000000000c2040000000000000000000000020000040cc5920 fm = true) (h0 : Keeps fm r0 s)  : ∃ t1, (execPackRested s) = .next t1 ∧ Keeps fm r0 t1 := by
  refine ⟨_, rfl, ?_⟩
  with_reducible repeat' first | assumption | exact fpart (by decide +kernel) hfm | exact fle (by decide +kernel) hfm | exact fok (by decide +kernel) hfm | exact fall (by decide +kernel) hfm | exact fokIx (by decide +kernel) hfm | exact fokAll (by decide +kernel) hfm | refine Mask.ok_ite ?_ ?_ | refine faultsOf_ok ?_ ?_ | apply Keeps.ite | apply endLearning_keeps | apply rested_keeps

theorem execPackStale_keeps {fm : Nat} {r0 : State}  {s : State} (hfm : Mask.le 0x3008000000000000001f0000000a3900000000000000000000000000000000000000001400000000017c190000000000000000000040040000000000000000000000020000040c45920 fm = true) (h0 : Keeps fm r0 s)  : ∃ t1, (execPackStale s) = .next t1 ∧ Keeps fm r0 t1 := by
  refine ⟨_, rfl, ?_⟩
  with_reducible repeat' first | assumption | exact fpart (by decide +kernel) hfm | exact fle (by decide +kernel) hfm | exact fok (by decide +kernel) hfm | exact fall (by decide +kernel) hfm | exact fokIx (by decide +kernel) hfm | exact fokAll (by decide +kernel) hfm | refine Mask.ok_ite ?_ ?_ | refine faultsOf_ok ?_ ?_ | apply Keeps.ite | apply raiseOpen_keeps | apply setPackState_keeps

/-! ## Reset -/

theorem resetPoolSt_keeps {fm : Nat} {r0 s : State} {p : Nat} (hfm : Mask.le 0x1000 fm = true) (h0 : Keeps fm r0 s) : Keeps fm r0 (resetPoolSt s p) := by
  unfold resetPoolSt
  exact modPool_keeps (fle (by decide +kernel) hfm) h0

theorem resetDict_regs (s : State) (h : Tbl.wf s.dict.regs = true) : Tbl.wf (resetDict s).regs = true := by
  unfold resetDict keepRegs
  dsimp only
  exact Tbl.wf_filterK _ h

theorem resetDict_blobs (s : State) (h : Tbl.wf s.dict.blobs = true) : Tbl.wf (resetDict s).blobs = true := by
  unfold resetDict keepRegs
  dsimp only
  exact Tbl.wf_filterK _ h

theorem mainReset_keeps {fm : Nat} {r0 s : State} (hfm : Mask.le 0x1ffffffffffffffffffffffffffffffffffffffffffffffffffffffffffffffffffffffffffffffffffffffffffffffffffffffffffffffffffffffffffffffffffffffffffffffffffffffffffffffffffffffffffe7ffffe fm = true) (h0 : Keeps fm r0 s) : Keeps fm r0 (mainReset s) := by
  have hall : Nat.testBit fm 1 = true := Mask.le_testBit hfm (by decide +kernel)
  have ha : Keeps fm r0 (forRange 8 (fun p t => resetPoolSt t p) s) := Keeps.forRange _ _ h0 (fun _ _ h => resetPoolSt_keeps (fle (by decide +kernel) hfm) h)
  have hw : ∀ o, Mask.ok fm o = true := fun o => Mask.ok_all hall
  unfold mainReset
  refine noteSlots_keeps (fle (by decide +kernel) hfm) (wr_keeps (hw _) (wr_keeps (hw _) (wrB_keeps (hw _) (wrB_keeps (hw _) (Keeps.forRange _ _ (Keeps.forRange _ _ (Keeps.forRange _ _ (Keeps.forRange _ _ ?_ ?_) ?_) ?_) ?_)))))
  · generalize forRange 8 (fun p t => resetPoolSt t p) s = a at ha
    refine ⟨ha.pending, ha.now, ha.out, fun c => ⟨resetDict_regs a (ha.canon c).1, resetDict_blobs a (ha.canon c).2⟩, fun p hp => ?_, fun k hk => (Mask.keeps_all hall hk).elim, fun k hk => (Mask.keeps_all hall hk).elim⟩
    have hc : Nat.testBit 0x1ffffffffffffffffffffffffffffffffffffffffffffffffffffffffffffffffffffffffffffffffffffffffffffffffffffffffffffffffffffffffffffffffffffffffffffffffffffffffffffffffffffffffffe7ffffe p.bit = true → False := fun h => by
      have e := Mask.le_testBit hfm h
      rw [hp] at e
      cases e
    cases p <;> first | exact (hc (by decide +kernel)).elim | exact ha.parts _ hp
  · exact fun _ _ h => Keeps.ite h (wr_keeps (hw _) h)
  · exact fun _ _ h => wr_keeps (hw _) h
  · exact fun _ _ h => wr_keeps (hw _) h
  · exact fun _ _ h => Keeps.ite (wr_keeps (hw _) h) h

theorem modPower_keeps {fm : Nat} {r0 : State}  {s : State} {f : PowerSt → PowerSt} (hfm : Mask.le 0x100000 fm = true) (h0 : Keeps fm r0 s)  : Keeps fm r0 (modPower s f) := by
  unfold modPower
  with_reducible repeat' first | assumption | exact fpart (by decide +kernel) hfm | exact fle (by decide +kernel) hfm | exact fok (by decide +kernel) hfm | exact fall (by decide +kernel) hfm | exact fokIx (by decide +kernel) hfm | exact fokAll (by decide +kernel) hfm | refine Mask.ok_ite ?_ ?_ | refine faultsOf_ok ?_ ?_ | fail_if_no_progress (apply Keeps.upd <;> try first | exact Or.inr (fpart (by decide +kernel) hfm) | exact Or.inl rfl)

theorem setArea_keeps {fm : Nat} {r0 : State}  {s : State} {x : Option Image} (hfm : Mask.le 0x100000 fm = true) (h0 : Keeps fm r0 s)  : Keeps fm r0 (setArea s x) := by
  unfold setArea
  with_reducible repeat' first | assumption | exact fpart (by decide +kernel) hfm | exact fle (by decide +kernel) hfm | exact fok (by decide +kernel) hfm | exact fall (by decide +kernel) hfm | exact fokIx (by decide +kernel) hfm | exact fokAll (by decide +kernel) hfm | refine Mask.ok_ite ?_ ?_ | refine faultsOf_ok ?_ ?_ | apply modPower_keeps

theorem lostSlot_keeps {fm : Nat} {r0 : State}  {n : Nat} {x : Slot} {s : State} (hfm : Mask.le 0x1c00200000000001200000000000000000100000000000000000000000000000000000000800000000000000000002000000000000000000000000000000000000000000033420 fm = true) (h0 : Keeps fm r0 s)  : Keeps fm r0 (lostSlot n x s) := by
  unfold lostSlot
  with_reducible repeat' first | assumption | exact fpart (by decide +kernel) hfm | exact fle (by decide +kernel) hfm | exact fok (by decide +kernel) hfm | exact fall (by decide +kernel) hfm | exact fokIx (by decide +kernel) hfm | exact fokAll (by decide +kernel) hfm | refine Mask.ok_ite ?_ ?_ | refine faultsOf_ok ?_ ?_ | apply Keeps.ite | apply bump_keeps | apply addLost_keeps | apply loseGrain_keeps

theorem restoreSlot_keeps {fm : Nat} {r0 : State}  {img : Image} {old : Option Image} {bad : List Nat} {badOld : List Nat} {n : Nat} {x : Slot} {s : State} (hfm : Mask.le 0x1c00200000000001200000000000000000100000000000000000000000000000000000000800000000000000000002000000000000000000000000000000000000000000033c20 fm = true) (h0 : Keeps fm r0 s)  : Keeps fm r0 (restoreSlot img old bad badOld n x s) := by
  unfold restoreSlot
  with_reducible repeat' first | assumption | exact fpart (by decide +kernel) hfm | exact fle (by decide +kernel) hfm | exact fok (by decide +kernel) hfm | exact fall (by decide +kernel) hfm | exact fokIx (by decide +kernel) hfm | exact fokAll (by decide +kernel) hfm | refine Mask.ok_ite ?_ ?_ | refine faultsOf_ok ?_ ?_ | apply Keeps.ite | apply lostSlot_keeps | fail_if_no_progress (apply Keeps.upd <;> try first | exact Or.inr (fpart (by decide +kernel) hfm) | exact Or.inl rfl) | split

theorem restoreImage_keeps {fm : Nat} {r0 : State}  {s : State} {img : Image} {bad : List Nat} {badOld : List Nat} (hfm : Mask.le 0x1c00200000002001200000000700000000100000000000000000000000000000000000000800000000000000000002000000000000000000000000000000000000000000073c20 fm = true) (h0 : Keeps fm r0 s)  : Keeps fm r0 (restoreImage s img bad badOld) := by
  unfold restoreImage
  try lift_lets -underBinder
  with_reducible repeat' first | assumption | exact fpart (by decide +kernel) hfm | exact fle (by decide +kernel) hfm | exact fok (by decide +kernel) hfm | exact fall (by decide +kernel) hfm | exact fokIx (by decide +kernel) hfm | exact fokAll (by decide +kernel) hfm | refine Mask.ok_ite ?_ ?_ | refine faultsOf_ok ?_ ?_ | refine fun _ _ (_ : Keeps fm r0 _) => ?_ | (intro a; refine (fun ha : Keeps fm r0 a => ?_) ?_; clear_value a; rotate_left; dsimp only [a]; rotate_right) | (intro a; clear_value a) | lift_lets -underBinder | apply restoreSlot_keeps | apply noteSlots_keeps | apply noteRestored_keeps | apply Keeps.forEach | apply Keeps.forRange | fail_if_no_progress (apply Keeps.upd <;> try first | exact Or.inr (fpart (by decide +kernel) hfm) | exact Or.inl rfl)

/-! ## Power -/

theorem setPs_keeps {fm : Nat} {r0 : State}  {s : State} {m : PsMode} (hfm : Mask.le 0x1000000000000000000000000000000000000000000000000000000000000000000000000000000000000000000000000100000 fm = true) (h0 : Keeps fm r0 s)  : Keeps fm r0 (setPs s m) := by
  unfold setPs
  with_reducible repeat' first | assumption | exact fpart (by decide +kernel) hfm | exact fle (by decide +kernel) hfm | exact fok (by decide +kernel) hfm | exact fall (by decide +kernel) hfm | exact fokIx (by decide +kernel) hfm | exact fokAll (by decide +kernel) hfm | refine Mask.ok_ite ?_ ?_ | refine faultsOf_ok ?_ ?_ | apply wr_keeps | apply modPower_keeps

theorem setLevel_keeps {fm : Nat} {r0 : State}  {s : State} {bit : Nat} {high : Bool} (hfm : Mask.le 0x10000000000000000000000000000000000000000000000000000000000000000000000000000000000000000000000000000000000000000000000000000000000000000000000000000000 fm = true) (h0 : Keeps fm r0 s)  : Keeps fm r0 (setLevel s bit high) := by
  unfold setLevel
  with_reducible repeat' first | assumption | exact fpart (by decide +kernel) hfm | exact fle (by decide +kernel) hfm | exact fok (by decide +kernel) hfm | exact fall (by decide +kernel) hfm | exact fokIx (by decide +kernel) hfm | exact fokAll (by decide +kernel) hfm | refine Mask.ok_ite ?_ ?_ | refine faultsOf_ok ?_ ?_ | apply wr_keeps

theorem tryStart_keeps {fm : Nat} {r0 : State}  {s : State} (hfm : Mask.le 0x4000000000000000000000000000000000000000000000000000000000000100000 fm = true) (h0 : Keeps fm r0 s)  : Keeps fm r0 (tryStart s) := by
  unfold tryStart
  with_reducible repeat' first | assumption | exact fpart (by decide +kernel) hfm | exact fle (by decide +kernel) hfm | exact fok (by decide +kernel) hfm | exact fall (by decide +kernel) hfm | exact fokIx (by decide +kernel) hfm | exact fokAll (by decide +kernel) hfm | refine Mask.ok_ite ?_ ?_ | refine faultsOf_ok ?_ ?_ | apply Keeps.ite | apply wr_keeps | apply modPower_keeps

theorem loseKeys_keeps {fm : Nat} {r0 : State}  {s : State} (hfm : Mask.le 0x204000000000000000000000000008000 fm = true) (h0 : Keeps fm r0 s)  : Keeps fm r0 (loseKeys s) := by
  unfold loseKeys
  with_reducible repeat' first | assumption | exact fpart (by decide +kernel) hfm | exact fle (by decide +kernel) hfm | exact fok (by decide +kernel) hfm | exact fall (by decide +kernel) hfm | exact fokIx (by decide +kernel) hfm | exact fokAll (by decide +kernel) hfm | refine Mask.ok_ite ?_ ?_ | refine faultsOf_ok ?_ ?_ | refine fun _ _ (_ : Keeps fm r0 _) => ?_ | apply Keeps.ite | apply wr_keeps | apply Keeps.forRange | fail_if_no_progress (apply Keeps.upd <;> try first | exact Or.inr (fpart (by decide +kernel) hfm) | exact Or.inl rfl)

theorem auxDict_keeps {fm : Nat} {r0 s : State} (hfm : Mask.le 0x1ffffffffffffffffffffffffffffffffffffffffffffffffffffffffffffffffffffffffffffffffffffffffffffffffffffffffffffffffffffffffffffffffffffffffffffffffffffffffffffffffffffffffffe00000a fm = true) (h0 : Keeps fm r0 s) : Keeps fm r0 (auxDict s) := by
  have hall : Nat.testBit fm 1 = true := Mask.le_testBit hfm (by decide +kernel)
  have hk : ∀ k, Mask.keeps fm k = true → False := fun k h => Mask.keeps_all hall h
  exact Keeps.updRegs (rg := Tbl.filterK _ _) (bl := Tbl.filterK _ _) h0 (Tbl.wf_filterK _) (Tbl.wf_filterK _) (fun k h => (hk k h).elim) (fun k h => (hk k h).elim) (Or.inl ⟨rfl, rfl, rfl, rfl⟩)

theorem auxOff_keeps {fm : Nat} {r0 : State}  {s : State} (hfm : Mask.le 0x1ffffffffffffffffffffffffffffffffffffffffffffffffffffffffffffffffffffffffffffffffffffffffffffffffffffffffffffffffffffffffffffffffffffffffffffffffffffffffffffffffffffffffffe10800a fm = true) (h0 : Keeps fm r0 s)  : Keeps fm r0 (auxOff s) := by
  unfold auxOff
  with_reducible repeat' first | assumption | exact fpart (by decide +kernel) hfm | exact fle (by decide +kernel) hfm | exact fok (by decide +kernel) hfm | exact fall (by decide +kernel) hfm | exact fokIx (by decide +kernel) hfm | exact fokAll (by decide +kernel) hfm | refine Mask.ok_ite ?_ ?_ | refine faultsOf_ok ?_ ?_ | apply setPs_keeps | apply modPower_keeps | apply auxDict_keeps | apply loseKeys_keeps

theorem railsOff_keeps {fm : Nat} {r0 : State}  {s : State} {kind : Nat} {m : PsMode} (hfm : Mask.le 0x1ffffffffffffffffffffffffffffffffffffffffffffffffffffffffffffffffffffffffffffffffffffffffffffffffffffffffffffffffffffffffffffffffffffffffffffffffffffffffffffffffffffffffffefffffe fm = true) (h0 : Keeps fm r0 s)  : Keeps fm r0 (railsOff s kind m) := by
  unfold railsOff
  try lift_lets -underBinder
  with_reducible repeat' first | assumption | exact fpart (by decide +kernel) hfm | exact fle (by decide +kernel) hfm | exact fok (by decide +kernel) hfm | exact fall (by decide +kernel) hfm | exact fokIx (by decide +kernel) hfm | exact fokAll (by decide +kernel) hfm | refine Mask.ok_ite ?_ ?_ | refine faultsOf_ok ?_ ?_ | (intro a; refine (fun ha : Keeps fm r0 a => ?_) ?_; clear_value a; rotate_left; dsimp only [a]; rotate_right) | lift_lets -underBinder | apply Keeps.ite | apply modPower_keeps | apply mainReset_keeps | apply drive_keeps | apply setPs_keeps | apply auxOff_keeps

theorem thermAlert_keeps {fm : Nat} {r0 : State}  {s : State} {on : Bool} (hfm : Mask.le 0x1000000000000000000000000000000000000000000000000000000000000000000000000000000000000000000000000000000000000000000000000000000000c00000 fm = true) (h0 : Keeps fm r0 s)  : Keeps fm r0 (thermAlert s on) := by
  unfold thermAlert
  with_reducible repeat' first | assumption | exact fpart (by decide +kernel) hfm | exact fle (by decide +kernel) hfm | exact fok (by decide +kernel) hfm | exact fall (by decide +kernel) hfm | exact fokIx (by decide +kernel) hfm | exact fokAll (by decide +kernel) hfm | refine Mask.ok_ite ?_ ?_ | refine faultsOf_ok ?_ ?_ | apply wrB_keeps | apply drive_keeps

theorem dumpEpoch_keeps {fm : Nat} {r0 : State}  {s : State} (hfm : Mask.le 0x1ffffffffffffffffffffffffffffffffffffffffffffffffffffffffffffffffffffffffffffffffffffffffffffffffffffffffffffffffffffffffffffffffffffffffffffffffffffffffffffffffffffffffffe857932 fm = true) (h0 : Keeps fm r0 s)  : Keeps fm r0 (dumpEpoch s) := by
  unfold dumpEpoch
  with_reducible repeat' first | assumption | exact fpart (by decide +kernel) hfm | exact fle (by decide +kernel) hfm | exact fok (by decide +kernel) hfm | exact fall (by decide +kernel) hfm | exact fokIx (by decide +kernel) hfm | exact fokAll (by decide +kernel) hfm | refine Mask.ok_ite ?_ ?_ | refine faultsOf_ok ?_ ?_ | apply Keeps.ite | apply completeEpoch_keeps | apply toIdle_keeps

theorem quiesce_keeps {fm : Nat} {r0 : State}  {s : State} (hfm : Mask.le 0x1ffffffffffffffffffffffffffffffffffffffffffffffffffffffffffffffffffffffffffffffffffffffffffffffffffffffffffffffffffffffffffffffffffffffffffffffffffffffffffffffffffffffffffecf7972 fm = true) (h0 : Keeps fm r0 s)  : Keeps fm r0 (quiesce s) := by
  unfold quiesce
  try lift_lets -underBinder
  with_reducible repeat' first | assumption | exact fpart (by decide +kernel) hfm | exact fle (by decide +kernel) hfm | exact fok (by decide +kernel) hfm | exact fall (by decide +kernel) hfm | exact fokIx (by decide +kernel) hfm | exact fokAll (by decide +kernel) hfm | refine Mask.ok_ite ?_ ?_ | refine faultsOf_ok ?_ ?_ | refine fun _ _ (_ : Keeps fm r0 _) => ?_ | (intro a; refine (fun ha : Keeps fm r0 a => ?_) ?_; clear_value a; rotate_left; dsimp only [a]; rotate_right) | (intro a; clear_value a) | lift_lets -underBinder | apply Keeps.ite | apply dumpEpoch_keeps | apply sendMsg_keeps | apply drive_keeps | apply cleanLines_keeps | apply wr_keeps | apply packSag_keeps | apply Keeps.forRange | fail_if_no_progress (apply Keeps.upd <;> try first | exact Or.inr (fpart (by decide +kernel) hfm) | exact Or.inl rfl)

theorem dumpOver_keeps {fm : Nat} {r0 : State}  {s : State} (hfm : Mask.le 0x1ffffffffffffffffffffffffffffffffffffffffffffffffffffffffffffffffffffffffffffffffffffffffffffffffffffffffffffffffffffffffffffffffffffffffffffffffffffffffffffffffffffffffffefffffe fm = true) (h0 : Keeps fm r0 s)  : Keeps fm r0 (dumpOver s) := by
  unfold dumpOver
  try lift_lets -underBinder
  with_reducible repeat' first | assumption | exact fpart (by decide +kernel) hfm | exact fle (by decide +kernel) hfm | exact fok (by decide +kernel) hfm | exact fall (by decide +kernel) hfm | exact fokIx (by decide +kernel) hfm | exact fokAll (by decide +kernel) hfm | refine Mask.ok_ite ?_ ?_ | refine faultsOf_ok ?_ ?_ | (intro a; clear_value a) | lift_lets -underBinder | apply Keeps.ite | apply thermAlert_keeps | apply railsOff_keeps

theorem startDump_keeps {fm : Nat} {r0 : State}  {s : State} {cause : Nat} {kind : Nat} (hfm : Mask.le 0x1ffffffffffffffffffffffffffffffffffffffffffffffffffffffffffffffffffffffffffffffffffffffffffffffffffffffffffffffffffffffffffffffffffffffffffffffffffffffffffffffffffffffffffefffffe fm = true) (h0 : Keeps fm r0 s)  : Keeps fm r0 (startDump s cause kind) := by
  unfold startDump
  try lift_lets -underBinder
  with_reducible repeat' first | assumption | exact fpart (by decide +kernel) hfm | exact fle (by decide +kernel) hfm | exact fok (by decide +kernel) hfm | exact fall (by decide +kernel) hfm | exact fokIx (by decide +kernel) hfm | exact fokAll (by decide +kernel) hfm | refine Mask.ok_ite ?_ ?_ | refine faultsOf_ok ?_ ?_ | (intro a; refine (fun ha : Keeps fm r0 a => ?_) ?_; clear_value a; rotate_left; dsimp only [a]; rotate_right) | (intro a; clear_value a) | lift_lets -underBinder | apply Keeps.ite | apply modPower_keeps | apply wr_keeps | apply railsOff_keeps | apply dumpOver_keeps | apply quiesce_keeps | apply setPs_keeps | apply bump_keeps | apply setArea_keeps

theorem leaveImage_keeps {fm : Nat} {r0 : State}  {s : State} {frames : Nat} (hfm : Mask.le 0x100000 fm = true) (h0 : Keeps fm r0 s)  : Keeps fm r0 (leaveImage s frames) := by
  unfold leaveImage
  try lift_lets -underBinder
  with_reducible repeat' first | assumption | exact fpart (by decide +kernel) hfm | exact fle (by decide +kernel) hfm | exact fok (by decide +kernel) hfm | exact fall (by decide +kernel) hfm | exact fokIx (by decide +kernel) hfm | exact fokAll (by decide +kernel) hfm | refine Mask.ok_ite ?_ ?_ | refine faultsOf_ok ?_ ?_ | (intro a; clear_value a) | lift_lets -underBinder | apply modPower_keeps | apply setArea_keeps | split

theorem execDumpEnd_keeps {fm : Nat} {r0 : State}  {s : State} (hfm : Mask.le 0x1ffffffffffffffffffffffffffffffffffffffffffffffffffffffffffffffffffffffffffffffffffffffffffffffffffffffffffffffffffffffffffffffffffffffffffffffffffffffffffffffffffffffffffefffffe fm = true) (h0 : Keeps fm r0 s)  : ∃ t1, (execDumpEnd s) = .next t1 ∧ Keeps fm r0 t1 := by
  refine ⟨_, rfl, ?_⟩
  try lift_lets -underBinder
  with_reducible repeat' first | assumption | exact fpart (by decide +kernel) hfm | exact fle (by decide +kernel) hfm | exact fok (by decide +kernel) hfm | exact fall (by decide +kernel) hfm | exact fokIx (by decide +kernel) hfm | exact fokAll (by decide +kernel) hfm | refine Mask.ok_ite ?_ ?_ | refine faultsOf_ok ?_ ?_ | (intro a; refine (fun ha : Keeps fm r0 a => ?_) ?_; clear_value a; rotate_left; dsimp only [a]; rotate_right) | lift_lets -underBinder | apply Keeps.ite | apply wr_keeps | apply dumpOver_keeps | apply modPower_keeps | apply leaveImage_keeps | split

theorem noteRide_keeps {fm : Nat} {r0 : State}  {s : State} (hfm : Mask.le 0x40000000000000000000000000000000000000000000000000000000000000000000000000000000000000000000000000000000 fm = true) (h0 : Keeps fm r0 s)  : Keeps fm r0 (noteRide s) := by
  unfold noteRide
  with_reducible repeat' first | assumption | exact fpart (by decide +kernel) hfm | exact fle (by decide +kernel) hfm | exact fok (by decide +kernel) hfm | exact fall (by decide +kernel) hfm | exact fokIx (by decide +kernel) hfm | exact fokAll (by decide +kernel) hfm | refine Mask.ok_ite ?_ ?_ | refine faultsOf_ok ?_ ?_ | apply wr_keeps

theorem execP12vSag_keeps {fm : Nat} {r0 : State}  {s : State} (hfm : Mask.le 0x5000000000000000400000000000000000000000000000000000000000000040000000000000000000000000000000000d80000 fm = true) (h0 : Keeps fm r0 s)  : ∃ t1, (execP12vSag s) = .next t1 ∧ Keeps fm r0 t1 := by
  refine ⟨_, rfl, ?_⟩
  try lift_lets -underBinder
  with_reducible repeat' first | assumption | exact fpart (by decide +kernel) hfm | exact fle (by decide +kernel) hfm | exact fok (by decide +kernel) hfm | exact fall (by decide +kernel) hfm | exact fokIx (by decide +kernel) hfm | exact fokAll (by decide +kernel) hfm | refine Mask.ok_ite ?_ ?_ | refine faultsOf_ok ?_ ?_ | (intro a; refine (fun ha : Keeps fm r0 a => ?_) ?_; clear_value a; rotate_left; dsimp only [a]; rotate_right) | lift_lets -underBinder | apply Keeps.ite | apply modPower_keeps | apply packSag_keeps | apply bump_keeps | apply setPs_keeps

theorem execP12vReturned_keeps {fm : Nat} {r0 : State}  {s : State} (hfm : Mask.le 0x41000000000000000000000000000000000000000000000000000000000000040000000000000000000000000000000000d00000 fm = true) (h0 : Keeps fm r0 s)  : ∃ t1, (execP12vReturned s) = .next t1 ∧ Keeps fm r0 t1 := by
  refine ⟨_, rfl, ?_⟩
  with_reducible repeat' first | assumption | exact fpart (by decide +kernel) hfm | exact fle (by decide +kernel) hfm | exact fok (by decide +kernel) hfm | exact fall (by decide +kernel) hfm | exact fokIx (by decide +kernel) hfm | exact fokAll (by decide +kernel) hfm | refine Mask.ok_ite ?_ ?_ | refine faultsOf_ok ?_ ?_ | apply Keeps.ite | apply noteCharge_keeps | apply setPs_keeps | apply modPower_keeps | apply noteRide_keeps

theorem execP12vTransient_keeps {fm : Nat} {r0 : State}  {s : State} (hfm : Mask.le 0x8000000000000000000000000000000000000000000000000000000000000000000000000000000000000000000000000000000 fm = true) (h0 : Keeps fm r0 s)  : ∃ t1, (execP12vTransient s) = .next t1 ∧ Keeps fm r0 t1 := by
  refine ⟨_, rfl, ?_⟩
  with_reducible repeat' first | assumption | exact fpart (by decide +kernel) hfm | exact fle (by decide +kernel) hfm | exact fok (by decide +kernel) hfm | exact fall (by decide +kernel) hfm | exact fokIx (by decide +kernel) hfm | exact fokAll (by decide +kernel) hfm | refine Mask.ok_ite ?_ ?_ | refine faultsOf_ok ?_ ?_ | apply bump_keeps

theorem execRideThroughClear_keeps {fm : Nat} {r0 : State}  {s : State} (hfm : Mask.le 0x100000 fm = true) (h0 : Keeps fm r0 s)  : ∃ t1, (execRideThroughClear s) = .next t1 ∧ Keeps fm r0 t1 := by
  refine ⟨_, rfl, ?_⟩
  with_reducible repeat' first | assumption | exact fpart (by decide +kernel) hfm | exact fle (by decide +kernel) hfm | exact fok (by decide +kernel) hfm | exact fall (by decide +kernel) hfm | exact fokIx (by decide +kernel) hfm | exact fokAll (by decide +kernel) hfm | refine Mask.ok_ite ?_ ?_ | refine faultsOf_ok ?_ ?_ | apply Keeps.ite | apply modPower_keeps

theorem execRideThroughExpiry_keeps {fm : Nat} {r0 : State}  {s : State} (hfm : Mask.le 0x1ffffffffffffffffffffffffffffffffffffffffffffffffffffffffffffffffffffffffffffffffffffffffffffffffffffffffffffffffffffffffffffffffffffffffffffffffffffffffffffffffffffffffffefffffe fm = true) (h0 : Keeps fm r0 s)  : ∃ t1, (execRideThroughExpiry s) = .next t1 ∧ Keeps fm r0 t1 := by
  refine ⟨_, rfl, ?_⟩
  with_reducible repeat' first | assumption | exact fpart (by decide +kernel) hfm | exact fle (by decide +kernel) hfm | exact fok (by decide +kernel) hfm | exact fall (by decide +kernel) hfm | exact fokIx (by decide +kernel) hfm | exact fokAll (by decide +kernel) hfm | refine Mask.ok_ite ?_ ?_ | refine faultsOf_ok ?_ ?_ | apply Keeps.ite | apply startDump_keeps | apply noteRide_keeps

theorem execAcfailExpiry_keeps {fm : Nat} {r0 : State}  {s : State} (hfm : Mask.le 0x1ffffffffffffffffffffffffffffffffffffffffffffffffffffffffffffffffffffffffffffffffffffffffffffffffffffffffffffffffffffffffffffffffffffffffffffffffffffffffffffffffffffffffffefffffe fm = true) (h0 : Keeps fm r0 s)  : ∃ t1, (execAcfailExpiry s) = .next t1 ∧ Keeps fm r0 t1 := by
  refine ⟨_, rfl, ?_⟩
  with_reducible repeat' first | assumption | exact fpart (by decide +kernel) hfm | exact fle (by decide +kernel) hfm | exact fok (by decide +kernel) hfm | exact fall (by decide +kernel) hfm | exact fokIx (by decide +kernel) hfm | exact fokAll (by decide +kernel) hfm | refine Mask.ok_ite ?_ ?_ | refine faultsOf_ok ?_ ?_ | apply startDump_keeps | apply setLevel_keeps

theorem execAcfailRelease_keeps {fm : Nat} {r0 : State}  {s : State} (hfm : Mask.le 0x10000000000000000000000000000000000000000000000010000000000000000000000000000000000000000000000000000000000000000000000000000000000000000000000000000000 fm = true) (h0 : Keeps fm r0 s)  : ∃ t1, (execAcfailRelease s) = .next t1 ∧ Keeps fm r0 t1 := by
  refine ⟨_, rfl, ?_⟩
  try lift_lets -underBinder
  with_reducible repeat' first | assumption | exact fpart (by decide +kernel) hfm | exact fle (by decide +kernel) hfm | exact fok (by decide +kernel) hfm | exact fall (by decide +kernel) hfm | exact fokIx (by decide +kernel) hfm | exact fokAll (by decide +kernel) hfm | refine Mask.ok_ite ?_ ?_ | refine faultsOf_ok ?_ ?_ | (intro a; refine (fun ha : Keeps fm r0 a => ?_) ?_; clear_value a; rotate_left; dsimp only [a]; rotate_right) | lift_lets -underBinder | apply Keeps.ite | apply setLevel_keeps | apply bump_keeps

theorem execInputCollapse_keeps {fm : Nat} {r0 : State}  {written : Nat} {s : State} (hfm : Mask.le 0x1ffffffffffffffffffffffffffffffffffffffffffffffffffffffffffffffffffffffffffffffffffffffffffffffffffffffffffffffffffffffffffffffffffffffffffffffffffffffffffffffffffffffffffefffffe fm = true) (h0 : Keeps fm r0 s)  : ∃ t1, (execInputCollapse written s) = .next t1 ∧ Keeps fm r0 t1 := by
  refine ⟨_, rfl, ?_⟩
  try lift_lets -underBinder
  with_reducible repeat' first | assumption | exact fpart (by decide +kernel) hfm | exact fle (by decide +kernel) hfm | exact fok (by decide +kernel) hfm | exact fall (by decide +kernel) hfm | exact fokIx (by decide +kernel) hfm | exact fokAll (by decide +kernel) hfm | refine Mask.ok_ite ?_ ?_ | refine faultsOf_ok ?_ ?_ | (intro a; refine (fun ha : Keeps fm r0 a => ?_) ?_; clear_value a; rotate_left; dsimp only [a]; rotate_right) | lift_lets -underBinder | apply Keeps.ite | apply modPower_keeps | apply dumpOver_keeps | apply leaveImage_keeps | apply startDump_keeps

theorem execP12vInRange_keeps {fm : Nat} {r0 : State}  {s : State} (hfm : Mask.le 0x4000000000000000000000000000000000000000000000000000000000000100000 fm = true) (h0 : Keeps fm r0 s)  : ∃ t1, (execP12vInRange s) = .next t1 ∧ Keeps fm r0 t1 := by
  refine ⟨_, rfl, ?_⟩
  with_reducible repeat' first | assumption | exact fpart (by decide +kernel) hfm | exact fle (by decide +kernel) hfm | exact fok (by decide +kernel) hfm | exact fall (by decide +kernel) hfm | exact fokIx (by decide +kernel) hfm | exact fokAll (by decide +kernel) hfm | refine Mask.ok_ite ?_ ?_ | refine faultsOf_ok ?_ ?_ | apply tryStart_keeps | apply modPower_keeps

theorem execRailsOffTimeout_keeps {fm : Nat} {r0 : State}  {s : State} (hfm : Mask.le 0x4000000000000000000000000000000000000000000000000000000000000100000 fm = true) (h0 : Keeps fm r0 s)  : ∃ t1, (execRailsOffTimeout s) = .next t1 ∧ Keeps fm r0 t1 := by
  refine ⟨_, rfl, ?_⟩
  with_reducible repeat' first | assumption | exact fpart (by decide +kernel) hfm | exact fle (by decide +kernel) hfm | exact fok (by decide +kernel) hfm | exact fall (by decide +kernel) hfm | exact fokIx (by decide +kernel) hfm | exact fokAll (by decide +kernel) hfm | refine Mask.ok_ite ?_ ?_ | refine faultsOf_ok ?_ ?_ | apply tryStart_keeps

theorem execP3v3AuxRise_keeps {fm : Nat} {r0 : State}  {side : Nat} {s : State} (hfm : Mask.le 0x10000000000000000002000000000000000000000000000001000000000000000000000000000110000004000000000000000000000000000000000000000000000000000000000000580004 fm = true) (h0 : Keeps fm r0 s)  : ∃ t1, (execP3v3AuxRise side s) = .next t1 ∧ Keeps fm r0 t1 := by
  refine ⟨_, rfl, ?_⟩
  try lift_lets -underBinder
  with_reducible repeat' first | assumption | exact fpart (by decide +kernel) hfm | exact fle (by decide +kernel) hfm | exact fok (by decide +kernel) hfm | exact fall (by decide +kernel) hfm | exact fokIx (by decide +kernel) hfm | exact fokAll (by decide +kernel) hfm | refine Mask.ok_ite ?_ ?_ | refine faultsOf_ok ?_ ?_ | (intro a; refine (fun ha : Keeps fm r0 a => ?_) ?_; clear_value a; rotate_left; dsimp only [a]; rotate_right) | (intro a; clear_value a) | lift_lets -underBinder | apply Keeps.ite | apply setPs_keeps | apply modPower_keeps | apply wr_keeps | apply setLevel_keeps | apply modPack_keeps | fail_if_no_progress (apply Keeps.upd <;> try first | exact Or.inr (fpart (by decide +kernel) hfm) | exact Or.inl rfl)

theorem execP3v3AuxLoss_keeps {fm : Nat} {r0 : State}  {s : State} (hfm : Mask.le 0x1ffffffffffffffffffffffffffffffffffffffffffffffffffffffffffffffffffffffffffffffffffffffffffffffffffffffffffffffffffffffffffffffffffffffffffffffffffffffffffffffffffffffffffefffffe fm = true) (h0 : Keeps fm r0 s)  : ∃ t1, (execP3v3AuxLoss s) = .next t1 ∧ Keeps fm r0 t1 := by
  refine ⟨_, rfl, ?_⟩
  try lift_lets -underBinder
  with_reducible repeat' first | assumption | exact fpart (by decide +kernel) hfm | exact fle (by decide +kernel) hfm | exact fok (by decide +kernel) hfm | exact fall (by decide +kernel) hfm | exact fokIx (by decide +kernel) hfm | exact fokAll (by decide +kernel) hfm | refine Mask.ok_ite ?_ ?_ | refine faultsOf_ok ?_ ?_ | (intro a; refine (fun ha : Keeps fm r0 a => ?_) ?_; clear_value a; rotate_left; dsimp only [a]; rotate_right) | lift_lets -underBinder | apply Keeps.ite | apply modPower_keeps | apply startDump_keeps | apply auxOff_keeps | apply mainReset_keeps

theorem tripStop_keeps {fm : Nat} {r0 : State}  {s : State} {cause : Nat} {written : Nat} (hfm : Mask.le 0x1ffffffffffffffffffffffffffffffffffffffffffffffffffffffffffffffffffffffffffffffffffffffffffffffffffffffffffffffffffffffffffffffffffffffffffffffffffffffffffffffffffffffffffefffffe fm = true) (h0 : Keeps fm r0 s)  : Keeps fm r0 (tripStop s cause written) := by
  unfold tripStop
  try lift_lets -underBinder
  with_reducible repeat' first | assumption | exact fpart (by decide +kernel) hfm | exact fle (by decide +kernel) hfm | exact fok (by decide +kernel) hfm | exact fall (by decide +kernel) hfm | exact fokIx (by decide +kernel) hfm | exact fokAll (by decide +kernel) hfm | refine Mask.ok_ite ?_ ?_ | refine faultsOf_ok ?_ ?_ | (intro a; refine (fun ha : Keeps fm r0 a => ?_) ?_; clear_value a; rotate_left; dsimp only [a]; rotate_right) | (intro a; clear_value a) | lift_lets -underBinder | apply Keeps.ite | apply leaveImage_keeps | apply modPower_keeps | apply wr_keeps | apply railsOff_keeps | apply raiseOpen_keeps

theorem execRailFault_keeps {fm : Nat} {r0 : State}  {written : Nat} {s : State} (hfm : Mask.le 0x1ffffffffffffffffffffffffffffffffffffffffffffffffffffffffffffffffffffffffffffffffffffffffffffffffffffffffffffffffffffffffffffffffffffffffffffffffffffffffffffffffffffffffffefffffe fm = true) (h0 : Keeps fm r0 s)  : ∃ t1, (execRailFault written s) = .next t1 ∧ Keeps fm r0 t1 := by
  refine ⟨_, rfl, ?_⟩
  with_reducible repeat' first | assumption | exact fpart (by decide +kernel) hfm | exact fle (by decide +kernel) hfm | exact fok (by decide +kernel) hfm | exact fall (by decide +kernel) hfm | exact fokIx (by decide +kernel) hfm | exact fokAll (by decide +kernel) hfm | refine Mask.ok_ite ?_ ?_ | refine faultsOf_ok ?_ ?_ | apply Keeps.ite | apply tripStop_keeps

theorem noteJunction_keeps {fm : Nat} {r0 : State}  {s : State} {temp : Int} (hfm : Mask.le 0xc00000000000000000000000000000000000000000000000000000000000000000000000000000000000000000000000000000000000000000000000000000000000000 fm = true) (h0 : Keeps fm r0 s)  : Keeps fm r0 (noteJunction s temp) := by
  unfold noteJunction
  with_reducible repeat' first | assumption | exact fpart (by decide +kernel) hfm | exact fle (by decide +kernel) hfm | exact fok (by decide +kernel) hfm | exact fall (by decide +kernel) hfm | exact fokIx (by decide +kernel) hfm | exact fokAll (by decide +kernel) hfm | refine Mask.ok_ite ?_ ?_ | refine faultsOf_ok ?_ ?_ | apply wr_keeps

theorem execThermalTrip_keeps {fm : Nat} {r0 : State}  {temp : Int} {written : Nat} {s : State} (hfm : Mask.le 0x1ffffffffffffffffffffffffffffffffffffffffffffffffffffffffffffffffffffffffffffffffffffffffffffffffffffffffffffffffffffffffffffffffffffffffffffffffffffffffffffffffffffffffffefffffe fm = true) (h0 : Keeps fm r0 s)  : ∃ t1, (execThermalTrip temp written s) = .next t1 ∧ Keeps fm r0 t1 := by
  refine ⟨_, rfl, ?_⟩
  try lift_lets -underBinder
  with_reducible repeat' first | assumption | exact fpart (by decide +kernel) hfm | exact fle (by decide +kernel) hfm | exact fok (by decide +kernel) hfm | exact fall (by decide +kernel) hfm | exact fokIx (by decide +kernel) hfm | exact fokAll (by decide +kernel) hfm | refine Mask.ok_ite ?_ ?_ | refine faultsOf_ok ?_ ?_ | (intro a; refine (fun ha : Keeps fm r0 a => ?_) ?_; clear_value a; rotate_left; dsimp only [a]; rotate_right) | lift_lets -underBinder | apply Keeps.ite | apply noteJunction_keeps | apply thermAlert_keeps | apply tripStop_keeps | apply bump_keeps

theorem execThermalDump_keeps {fm : Nat} {r0 : State}  {temp : Int} {s : State} (hfm : Mask.le 0x1ffffffffffffffffffffffffffffffffffffffffffffffffffffffffffffffffffffffffffffffffffffffffffffffffffffffffffffffffffffffffffffffffffffffffffffffffffffffffffffffffffffffffffefffffe fm = true) (h0 : Keeps fm r0 s)  : ∃ t1, (execThermalDump temp s) = .next t1 ∧ Keeps fm r0 t1 := by
  refine ⟨_, rfl, ?_⟩
  with_reducible repeat' first | assumption | exact fpart (by decide +kernel) hfm | exact fle (by decide +kernel) hfm | exact fok (by decide +kernel) hfm | exact fall (by decide +kernel) hfm | exact fokIx (by decide +kernel) hfm | exact fokAll (by decide +kernel) hfm | refine Mask.ok_ite ?_ ?_ | refine faultsOf_ok ?_ ?_ | apply startDump_keeps | apply noteJunction_keeps

theorem execThermAlert_keeps {fm : Nat} {r0 : State}  {temp : Int} {s : State} (hfm : Mask.le 0x300800000001c0000000000000000000000000000000000000000000000000000000000000000000017c000000000000000000000000000000000000000000000000000000000c00120 fm = true) (h0 : Keeps fm r0 s)  : ∃ t1, (execThermAlert temp s) = .next t1 ∧ Keeps fm r0 t1 := by
  refine ⟨_, rfl, ?_⟩
  try lift_lets -underBinder
  with_reducible repeat' first | assumption | exact fpart (by decide +kernel) hfm | exact fle (by decide +kernel) hfm | exact fok (by decide +kernel) hfm | exact fall (by decide +kernel) hfm | exact fokIx (by decide +kernel) hfm | exact fokAll (by decide +kernel) hfm | refine Mask.ok_ite ?_ ?_ | refine faultsOf_ok ?_ ?_ | (intro a; refine (fun ha : Keeps fm r0 a => ?_) ?_; clear_value a; rotate_left; dsimp only [a]; rotate_right) | lift_lets -underBinder | apply Keeps.ite | apply noteJunction_keeps | apply raiseOpen_keeps | apply thermAlert_keeps

theorem execThermAlertRelease_keeps {fm : Nat} {r0 : State}  {temp : Int} {s : State} (hfm : Mask.le 0x1c00000000000000000000000000000000000000000000000000000000000000000000000000000000000000000000000000000000000000000000000000000000c00000 fm = true) (h0 : Keeps fm r0 s)  : ∃ t1, (execThermAlertRelease temp s) = .next t1 ∧ Keeps fm r0 t1 := by
  refine ⟨_, rfl, ?_⟩
  try lift_lets -underBinder
  with_reducible repeat' first | assumption | exact fpart (by decide +kernel) hfm | exact fle (by decide +kernel) hfm | exact fok (by decide +kernel) hfm | exact fall (by decide +kernel) hfm | exact fokIx (by decide +kernel) hfm | exact fokAll (by decide +kernel) hfm | refine Mask.ok_ite ?_ ?_ | refine faultsOf_ok ?_ ?_ | (intro a; refine (fun ha : Keeps fm r0 a => ?_) ?_; clear_value a; rotate_left; dsimp only [a]; rotate_right) | lift_lets -underBinder | apply Keeps.ite | apply noteJunction_keeps | apply thermAlert_keeps

theorem tryThermal_keeps {fm : Nat} {r0 : State}  {s : State} (hfm : Mask.le 0x1f0000000000000000000000000000000000080000000000000014000000000000190000002400000000000000000000000000000000000000020000040955830 fm = true) (h0 : Keeps fm r0 s)  : Keeps fm r0 (tryThermal s) := by
  unfold tryThermal
  try lift_lets -underBinder
  with_reducible repeat' first | assumption | exact fpart (by decide +kernel) hfm | exact fle (by decide +kernel) hfm | exact fok (by decide +kernel) hfm | exact fall (by decide +kernel) hfm | exact fokIx (by decide +kernel) hfm | exact fokAll (by decide +kernel) hfm | refine Mask.ok_ite ?_ ?_ | refine faultsOf_ok ?_ ?_ | (intro a; refine (fun ha : Keeps fm r0 a => ?_) ?_; clear_value a; rotate_left; dsimp only [a]; rotate_right) | lift_lets -underBinder | apply Keeps.ite | apply startEpoch_keeps | apply modPower_keeps | apply modEp_keeps | split

theorem execQuadrantStepDown_keeps {fm : Nat} {r0 : State}  {q : Nat} {temp : Int} {s : State} (hfm : Mask.le 0x1f0000000000000000000000000000000000080000000900000014000000000000190000002400000000000000000000000000000000000000020000040955830 fm = true) (h0 : Keeps fm r0 s)  : ∃ t1, (execQuadrantStepDown q temp s) = .next t1 ∧ Keeps fm r0 t1 := by
  refine ⟨_, rfl, ?_⟩
  try lift_lets -underBinder
  with_reducible repeat' first | assumption | exact fpart (by decide +kernel) hfm | exact fle (by decide +kernel) hfm | exact fok (by decide +kernel) hfm | exact fall (by decide +kernel) hfm | exact fokIx (by decide +kernel) hfm | exact fokAll (by decide +kernel) hfm | refine Mask.ok_ite ?_ ?_ | refine faultsOf_ok ?_ ?_ | (intro a; refine (fun ha : Keeps fm r0 a => ?_) ?_; clear_value a; rotate_left; dsimp only [a]; rotate_right) | (intro a; clear_value a) | lift_lets -underBinder | apply Keeps.ite | apply wr_keeps | apply wrB_keeps | apply tryThermal_keeps | apply modPower_keeps

theorem execThermalEpochRetry_keeps {fm : Nat} {r0 : State}  {s : State} (hfm : Mask.le 0x1f0000000000000000000000000000000000080000000000000014000000000000190000002400000000000000000000000000000000000000020000040955830 fm = true) (h0 : Keeps fm r0 s)  : ∃ t1, (execThermalEpochRetry s) = .next t1 ∧ Keeps fm r0 t1 := by
  refine ⟨_, rfl, ?_⟩
  with_reducible repeat' first | assumption | exact fpart (by decide +kernel) hfm | exact fle (by decide +kernel) hfm | exact fok (by decide +kernel) hfm | exact fall (by decide +kernel) hfm | exact fokIx (by decide +kernel) hfm | exact fokAll (by decide +kernel) hfm | refine Mask.ok_ite ?_ ?_ | refine faultsOf_ok ?_ ?_ | apply tryThermal_keeps | apply modPower_keeps

theorem execQuadrantReturn_keeps {fm : Nat} {r0 : State}  {q : Nat} {temp : Int} {s : State} (hfm : Mask.le 0x1f0000000000000000000000000000000000080000000900000014000000000000190000002400000000000000000000000000000000000000020000040955830 fm = true) (h0 : Keeps fm r0 s)  : ∃ t1, (execQuadrantReturn q temp s) = .next t1 ∧ Keeps fm r0 t1 := by
  refine ⟨_, rfl, ?_⟩
  try lift_lets -underBinder
  with_reducible repeat' first | assumption | exact fpart (by decide +kernel) hfm | exact fle (by decide +kernel) hfm | exact fok (by decide +kernel) hfm | exact fall (by decide +kernel) hfm | exact fokIx (by decide +kernel) hfm | exact fokAll (by decide +kernel) hfm | refine Mask.ok_ite ?_ ?_ | refine faultsOf_ok ?_ ?_ | (intro a; refine (fun ha : Keeps fm r0 a => ?_) ?_; clear_value a; rotate_left; dsimp only [a]; rotate_right) | (intro a; clear_value a) | lift_lets -underBinder | apply Keeps.ite | apply wr_keeps | apply wrB_keeps | apply tryThermal_keeps | apply modPower_keeps

theorem execPllLockLoss_keeps {fm : Nat} {r0 : State}  {s : State} (hfm : Mask.le 0x60000000000000000000000000000000000000000000000000000000000000000000000000000000000000000000000000000000000100000 fm = true) (h0 : Keeps fm r0 s)  : ∃ t1, (execPllLockLoss s) = .next t1 ∧ Keeps fm r0 t1 := by
  refine ⟨_, rfl, ?_⟩
  with_reducible repeat' first | assumption | exact fpart (by decide +kernel) hfm | exact fle (by decide +kernel) hfm | exact fok (by decide +kernel) hfm | exact fall (by decide +kernel) hfm | exact fokIx (by decide +kernel) hfm | exact fokAll (by decide +kernel) hfm | refine Mask.ok_ite ?_ ?_ | refine faultsOf_ok ?_ ?_ | apply Keeps.ite | apply bump_keeps | apply wrB_keeps | apply modPower_keeps

theorem execPllRelock_keeps {fm : Nat} {r0 : State}  {s : State} (hfm : Mask.le 0x20000000000000000000000000000000000000000000000000000000000000000000000000000000000000000000000000000000000100000 fm = true) (h0 : Keeps fm r0 s)  : ∃ t1, (execPllRelock s) = .next t1 ∧ Keeps fm r0 t1 := by
  refine ⟨_, rfl, ?_⟩
  with_reducible repeat' first | assumption | exact fpart (by decide +kernel) hfm | exact fle (by decide +kernel) hfm | exact fok (by decide +kernel) hfm | exact fall (by decide +kernel) hfm | exact fokIx (by decide +kernel) hfm | exact fokAll (by decide +kernel) hfm | refine Mask.ok_ite ?_ ?_ | refine faultsOf_ok ?_ ?_ | apply Keeps.ite | apply wrB_keeps | apply modPower_keeps

theorem execPllFallback_keeps {fm : Nat} {r0 : State}  {s : State} (hfm : Mask.le 0x1ffffffffffffffffffffffffffffffffffffffffffffffffffffffffffffffffffffffffffffffffffffffffffffffffffffffffffffffffffffffffffffffffffffffffffffffffffffffffffffffffffffffffffefffffe fm = true) (h0 : Keeps fm r0 s)  : ∃ t1, (execPllFallback s) = .next t1 ∧ Keeps fm r0 t1 := by
  refine ⟨_, rfl, ?_⟩
  with_reducible repeat' first | assumption | exact fpart (by decide +kernel) hfm | exact fle (by decide +kernel) hfm | exact fok (by decide +kernel) hfm | exact fall (by decide +kernel) hfm | exact fokIx (by decide +kernel) hfm | exact fokAll (by decide +kernel) hfm | refine Mask.ok_ite ?_ ?_ | refine faultsOf_ok ?_ ?_ | apply Keeps.ite | apply startDump_keeps | apply wrB_keeps | apply modPower_keeps

theorem moduleReset_keeps {fm : Nat} {r0 : State}  {s : State} {kind : Nat} (hfm : Mask.le 0x1ffffffffffffffffffffffffffffffffffffffffffffffffffffffffffffffffffffffffffffffffffffffffffffffffffffffffffffffffffffffffffffffffffffffffffffffffffffffffffffffffffffffffffefffffe fm = true) (h0 : Keeps fm r0 s)  : Keeps fm r0 (moduleReset s kind) := by
  unfold moduleReset
  with_reducible repeat' first | assumption | exact fpart (by decide +kernel) hfm | exact fle (by decide +kernel) hfm | exact fok (by decide +kernel) hfm | exact fall (by decide +kernel) hfm | exact fokIx (by decide +kernel) hfm | exact fokAll (by decide +kernel) hfm | refine Mask.ok_ite ?_ ?_ | refine faultsOf_ok ?_ ?_ | apply Keeps.ite | apply startDump_keeps | apply railsOff_keeps

theorem clearTrip_keeps {fm : Nat} {r0 : State}  {s : State} {cool : Bool} (hfm : Mask.le 0x1000000000000000000000000000000001000000000000000000000000000000000000000000000000000000000000000000000000000000000000000000000000d00000 fm = true) (h0 : Keeps fm r0 s)  : Keeps fm r0 (clearTrip s cool) := by
  unfold clearTrip
  with_reducible repeat' first | assumption | exact fpart (by decide +kernel) hfm | exact fle (by decide +kernel) hfm | exact fok (by decide +kernel) hfm | exact fall (by decide +kernel) hfm | exact fokIx (by decide +kernel) hfm | exact fokAll (by decide +kernel) hfm | refine Mask.ok_ite ?_ ?_ | refine faultsOf_ok ?_ ?_ | apply Keeps.ite | apply thermAlert_keeps | apply setPs_keeps | apply modPower_keeps

theorem execResetNAssert_keeps {fm : Nat} {r0 : State}  {cool : Bool} {s : State} (hfm : Mask.le 0x1ffffffffffffffffffffffffffffffffffffffffffffffffffffffffffffffffffffffffffffffffffffffffffffffffffffffffffffffffffffffffffffffffffffffffffffffffffffffffffffffffffffffffffefffffe fm = true) (h0 : Keeps fm r0 s)  : ∃ t1, (execResetNAssert cool s) = .next t1 ∧ Keeps fm r0 t1 := by
  refine ⟨_, rfl, ?_⟩
  try lift_lets -underBinder
  with_reducible repeat' first | assumption | exact fpart (by decide +kernel) hfm | exact fle (by decide +kernel) hfm | exact fok (by decide +kernel) hfm | exact fall (by decide +kernel) hfm | exact fokIx (by decide +kernel) hfm | exact fokAll (by decide +kernel) hfm | refine Mask.ok_ite ?_ ?_ | refine faultsOf_ok ?_ ?_ | (intro a; refine (fun ha : Keeps fm r0 a => ?_) ?_; clear_value a; rotate_left; dsimp only [a]; rotate_right) | lift_lets -underBinder | apply Keeps.ite | apply setLevel_keeps | apply modPower_keeps | apply clearTrip_keeps | apply moduleReset_keeps

theorem execResetNRelease_keeps {fm : Nat} {r0 : State}  {cool : Bool} {s : State} (hfm : Mask.le 0x10000000000000001000000000000000000000000000000001000000000000000000000000000000000004000000000000000000000000000000000000000000000000000000000000d00000 fm = true) (h0 : Keeps fm r0 s)  : ∃ t1, (execResetNRelease cool s) = .next t1 ∧ Keeps fm r0 t1 := by
  refine ⟨_, rfl, ?_⟩
  with_reducible repeat' first | assumption | exact fpart (by decide +kernel) hfm | exact fle (by decide +kernel) hfm | exact fok (by decide +kernel) hfm | exact fall (by decide +kernel) hfm | exact fokIx (by decide +kernel) hfm | exact fokAll (by decide +kernel) hfm | refine Mask.ok_ite ?_ ?_ | refine faultsOf_ok ?_ ?_ | apply Keeps.ite | apply tryStart_keeps | apply setLevel_keeps | apply modPower_keeps | apply clearTrip_keeps

theorem execWatchdogExpiry_keeps {fm : Nat} {r0 : State}  {s : State} (hfm : Mask.le 0x1ffffffffffffffffffffffffffffffffffffffffffffffffffffffffffffffffffffffffffffffffffffffffffffffffffffffffffffffffffffffffffffffffffffffffffffffffffffffffffffffffffffffffffefffffe fm = true) (h0 : Keeps fm r0 s)  : ∃ t1, (execWatchdogExpiry s) = .next t1 ∧ Keeps fm r0 t1 := by
  refine ⟨_, rfl, ?_⟩
  try lift_lets -underBinder
  with_reducible repeat' first | assumption | exact fpart (by decide +kernel) hfm | exact fle (by decide +kernel) hfm | exact fok (by decide +kernel) hfm | exact fall (by decide +kernel) hfm | exact fokIx (by decide +kernel) hfm | exact fokAll (by decide +kernel) hfm | refine Mask.ok_ite ?_ ?_ | refine faultsOf_ok ?_ ?_ | (intro a; clear_value a) | lift_lets -underBinder | apply Keeps.ite | apply moduleReset_keeps | apply modPower_keeps

theorem deviceReset_keeps {fm : Nat} {r0 : State}  {s : State} {v : Nat} (hfm : Mask.le 0x1ffffffffffffffffffffffffffffffffffffffffffffffffffffffffffffffffffffffffffffffffffffffffffffffffffffffffffffffffffffffffffffffffffffffffffffffffffffffffffffffffffffffffffefffffe fm = true) (h0 : Keeps fm r0 s)  : Keeps fm r0 (deviceReset s v).2 := by
  unfold deviceReset
  with_reducible repeat' first | assumption | exact fpart (by decide +kernel) hfm | exact fle (by decide +kernel) hfm | exact fok (by decide +kernel) hfm | exact fall (by decide +kernel) hfm | exact fokIx (by decide +kernel) hfm | exact fokAll (by decide +kernel) hfm | refine Mask.ok_ite ?_ ?_ | refine faultsOf_ok ?_ ?_ | apply Keeps.ite_snd | apply moduleReset_keeps

theorem execDeviceReset_keeps {fm : Nat} {r0 : State}  {v : Nat} {s : State} (hfm : Mask.le 0x1ffffffffffffffffffffffffffffffffffffffffffffffffffffffffffffffffffffffffffffffffffffffffffffffffffffffffffffffffffffffffffffffffffffffffffffffffffffffffffffffffffffffffffefffffe fm = true) (h0 : Keeps fm r0 s)  : ∃ t1, (execDeviceReset v s) = .next t1 ∧ Keeps fm r0 t1 := by
  refine ⟨_, rfl, ?_⟩
  with_reducible repeat' first | assumption | exact fpart (by decide +kernel) hfm | exact fle (by decide +kernel) hfm | exact fok (by decide +kernel) hfm | exact fall (by decide +kernel) hfm | exact fokIx (by decide +kernel) hfm | exact fokAll (by decide +kernel) hfm | refine Mask.ok_ite ?_ ?_ | refine faultsOf_ok ?_ ?_ | apply deviceReset_keeps

/-! ## Maint -/

theorem modMaint_keeps {fm : Nat} {r0 : State}  {s : State} {f : Maint → Maint} (hfm : Mask.le 0x10000 fm = true) (h0 : Keeps fm r0 s)  : Keeps fm r0 (modMaint s f) := by
  unfold modMaint
  with_reducible repeat' first | assumption | exact fpart (by decide +kernel) hfm | exact fle (by decide +kernel) hfm | exact fok (by decide +kernel) hfm | exact fall (by decide +kernel) hfm | exact fokIx (by decide +kernel) hfm | exact fokAll (by decide +kernel) hfm | refine Mask.ok_ite ?_ ?_ | refine faultsOf_ok ?_ ?_ | fail_if_no_progress (apply Keeps.upd <;> try first | exact Or.inr (fpart (by decide +kernel) hfm) | exact Or.inl rfl)

theorem startMaint_keeps {fm : Nat} {r0 : State}  {s : State} {m : Maint} (hfm : Mask.le 0x2c000000000000000000000000000000000000000000000000000000000000000000000000000000000000010000 fm = true) (h0 : Keeps fm r0 s)  : Keeps fm r0 (startMaint s m) := by
  unfold startMaint
  with_reducible repeat' first | assumption | exact fpart (by decide +kernel) hfm | exact fle (by decide +kernel) hfm | exact fok (by decide +kernel) hfm | exact fall (by decide +kernel) hfm | exact fokIx (by decide +kernel) hfm | exact fokAll (by decide +kernel) hfm | refine Mask.ok_ite ?_ ?_ | refine faultsOf_ok ?_ ?_ | apply wr_keeps | apply wrB_keeps | fail_if_no_progress (apply Keeps.upd <;> try first | exact Or.inr (fpart (by decide +kernel) hfm) | exact Or.inl rfl)

theorem startPreload_keeps {fm : Nat} {r0 : State}  {s : State} {r : Nat} (hfm : Mask.le 0xa000000000000000000000002c000000000000000000000000000000000000000000000000000000000000000000000000000000000000010000 fm = true) (h0 : Keeps fm r0 s)  : Keeps fm r0 (startPreload s r) := by
  unfold startPreload
  try lift_lets -underBinder
  with_reducible repeat' first | assumption | exact fpart (by decide +kernel) hfm | exact fle (by decide +kernel) hfm | exact fok (by decide +kernel) hfm | exact fall (by decide +kernel) hfm | exact fokIx (by decide +kernel) hfm | exact fokAll (by decide +kernel) hfm | refine Mask.ok_ite ?_ ?_ | refine faultsOf_ok ?_ ?_ | (intro a; refine (fun ha : Keeps fm r0 a => ?_) ?_; clear_value a; rotate_left; dsimp only [a]; rotate_right) | (intro a; clear_value a) | lift_lets -underBinder | apply wr_keeps | apply startMaint_keeps | fail_if_no_progress (apply Keeps.upd <;> try first | exact Or.inr (fpart (by decide +kernel) hfm) | exact Or.inl rfl)

theorem startReload_keeps {fm : Nat} {r0 : State}  {s : State} (hfm : Mask.le 0xa000000000000000000000002c000000000000000000000000000000000000000000000000000000000000000000000000000000000000010000 fm = true) (h0 : Keeps fm r0 s)  : Keeps fm r0 (startReload s) := by
  unfold startReload
  with_reducible repeat' first | assumption | exact fpart (by decide +kernel) hfm | exact fle (by decide +kernel) hfm | exact fok (by decide +kernel) hfm | exact fall (by decide +kernel) hfm | exact fokIx (by decide +kernel) hfm | exact fokAll (by decide +kernel) hfm | refine Mask.ok_ite ?_ ?_ | refine faultsOf_ok ?_ ?_ | apply startPreload_keeps | split

theorem endMaint_keeps {fm : Nat} {r0 : State}  {s : State} {result : Nat} (hfm : Mask.le 0xa000000000000000000000003c000000000000000000000000000000000000000000000000000000000000000000000000000000000000010000 fm = true) (h0 : Keeps fm r0 s)  : Keeps fm r0 (endMaint s result) := by
  unfold endMaint
  with_reducible repeat' first | assumption | exact fpart (by decide +kernel) hfm | exact fle (by decide +kernel) hfm | exact fok (by decide +kernel) hfm | exact fall (by decide +kernel) hfm | exact fokIx (by decide +kernel) hfm | exact fokAll (by decide +kernel) hfm | refine Mask.ok_ite ?_ ?_ | refine faultsOf_ok ?_ ?_ | apply startReload_keeps | apply wr_keeps | apply wrB_keeps | fail_if_no_progress (apply Keeps.upd <;> try first | exact Or.inr (fpart (by decide +kernel) hfm) | exact Or.inl rfl)

theorem maintOp_keeps {fm : Nat} {r0 : State}  {s : State} {op : Nat} (hfm : Mask.le 0x3c000000000000000000000000000000000000000000000000000000000000000000000000000000000000010000 fm = true) (h0 : Keeps fm r0 s)  : Keeps fm r0 (maintOp s op).2 := by
  unfold maintOp
  try lift_lets -underBinder
  with_reducible repeat' first | assumption | exact fpart (by decide +kernel) hfm | exact fle (by decide +kernel) hfm | exact fok (by decide +kernel) hfm | exact fall (by decide +kernel) hfm | exact fokIx (by decide +kernel) hfm | exact fokAll (by decide +kernel) hfm | refine Mask.ok_ite ?_ ?_ | refine faultsOf_ok ?_ ?_ | (intro a; clear_value a) | lift_lets -underBinder | apply Keeps.ite_snd | apply wr_keeps | apply startMaint_keeps

theorem execInvalidateRange_keeps {fm : Nat} {r0 : State}  {s : State} (hfm : Mask.le 0x3c000000000000000000000000000000000000000000000000000000000000000000000000000000000000010000 fm = true) (h0 : Keeps fm r0 s)  : ∃ t1, (execInvalidateRange s) = .next t1 ∧ Keeps fm r0 t1 := by
  refine ⟨_, rfl, ?_⟩
  with_reducible repeat' first | assumption | exact fpart (by decide +kernel) hfm | exact fle (by decide +kernel) hfm | exact fok (by decide +kernel) hfm | exact fall (by decide +kernel) hfm | exact fokIx (by decide +kernel) hfm | exact fokAll (by decide +kernel) hfm | refine Mask.ok_ite ?_ ?_ | refine faultsOf_ok ?_ ?_ | apply maintOp_keeps

theorem execInvalidateVolume_keeps {fm : Nat} {r0 : State}  {s : State} (hfm : Mask.le 0x3c000000000000000000000000000000000000000000000000000000000000000000000000000000000000010000 fm = true) (h0 : Keeps fm r0 s)  : ∃ t1, (execInvalidateVolume s) = .next t1 ∧ Keeps fm r0 t1 := by
  refine ⟨_, rfl, ?_⟩
  with_reducible repeat' first | assumption | exact fpart (by decide +kernel) hfm | exact fle (by decide +kernel) hfm | exact fok (by decide +kernel) hfm | exact fall (by decide +kernel) hfm | exact fokIx (by decide +kernel) hfm | exact fokAll (by decide +kernel) hfm | refine Mask.ok_ite ?_ ?_ | refine faultsOf_ok ?_ ?_ | apply maintOp_keeps

theorem execInvalidateAll_keeps {fm : Nat} {r0 : State}  {s : State} (hfm : Mask.le 0x3c000000000000000000000000000000000000000000000000000000000000000000000000000000000000010000 fm = true) (h0 : Keeps fm r0 s)  : ∃ t1, (execInvalidateAll s) = .next t1 ∧ Keeps fm r0 t1 := by
  refine ⟨_, rfl, ?_⟩
  with_reducible repeat' first | assumption | exact fpart (by decide +kernel) hfm | exact fle (by decide +kernel) hfm | exact fok (by decide +kernel) hfm | exact fall (by decide +kernel) hfm | exact fokIx (by decide +kernel) hfm | exact fokAll (by decide +kernel) hfm | refine Mask.ok_ite ?_ ?_ | refine faultsOf_ok ?_ ?_ | apply maintOp_keeps

theorem execCleanLines_keeps {fm : Nat} {r0 : State}  {s : State} (hfm : Mask.le 0x3c000000000000000000000000000000000000000000000000000000000000000000000000000000000000010000 fm = true) (h0 : Keeps fm r0 s)  : ∃ t1, (execCleanLines s) = .next t1 ∧ Keeps fm r0 t1 := by
  refine ⟨_, rfl, ?_⟩
  with_reducible repeat' first | assumption | exact fpart (by decide +kernel) hfm | exact fle (by decide +kernel) hfm | exact fok (by decide +kernel) hfm | exact fall (by decide +kernel) hfm | exact fokIx (by decide +kernel) hfm | exact fokAll (by decide +kernel) hfm | refine Mask.ok_ite ?_ ?_ | refine faultsOf_ok ?_ ?_ | apply maintOp_keeps

theorem invalidateSet_keeps {fm : Nat} {r0 : State}  {s : State} {m : Maint} {i : Nat} (hfm : Mask.le 0x1000200000000000000000000000000000000000000000000000000000000000000000000000000000000000000000000000000000000000000000000000000000000000010000 fm = true) (h0 : Keeps fm r0 s)  : Keeps fm r0 (invalidateSet s m i) := by
  unfold invalidateSet
  with_reducible repeat' first | assumption | exact fpart (by decide +kernel) hfm | exact fle (by decide +kernel) hfm | exact fok (by decide +kernel) hfm | exact fall (by decide +kernel) hfm | exact fokIx (by decide +kernel) hfm | exact fokAll (by decide +kernel) hfm | refine Mask.ok_ite ?_ ?_ | refine faultsOf_ok ?_ ?_ | apply noteFrames_keeps | fail_if_no_progress (apply Keeps.upd <;> try first | exact Or.inr (fpart (by decide +kernel) hfm) | exact Or.inl rfl)

theorem skipSector_keeps {fm : Nat} {r0 : State}  {s : State} {r : Nat} (hfm : Mask.le 0x80000000000000000000000000000000000000000000000000000000000000000000000000000000000000000000000000000000000000010000 fm = true) (h0 : Keeps fm r0 s)  : Keeps fm r0 (skipSector s r) := by
  unfold skipSector
  with_reducible repeat' first | assumption | exact fpart (by decide +kernel) hfm | exact fle (by decide +kernel) hfm | exact fok (by decide +kernel) hfm | exact fall (by decide +kernel) hfm | exact fokIx (by decide +kernel) hfm | exact fokAll (by decide +kernel) hfm | refine Mask.ok_ite ?_ ?_ | refine faultsOf_ok ?_ ?_ | apply bump_keeps | apply modMaint_keeps

theorem preloadSector_keeps {fm : Nat} {r0 : State}  {s : State} {m : Maint} (hfm : Mask.le 0x10002000000000000000000000c0000000000000000000000000000000000000014000000000000000000000000000000000000000000000000000000000000020000040814020 fm = true) (h0 : Keeps fm r0 s)  : Keeps fm r0 (preloadSector s m) := by
  unfold preloadSector
  try lift_lets -underBinder
  with_reducible repeat' first | assumption | exact fpart (by decide +kernel) hfm | exact fle (by decide +kernel) hfm | exact fok (by decide +kernel) hfm | exact fall (by decide +kernel) hfm | exact fokIx (by decide +kernel) hfm | exact fokAll (by decide +kernel) hfm | refine Mask.ok_ite ?_ ?_ | refine faultsOf_ok ?_ ?_ | refine fun _ (_ : Keeps fm r0 _) => ?_ | (intro a; refine (fun hga : ∀ t, Keeps fm r0 t → Keeps fm r0 (a t) => ?_) ?_; clear_value a; rotate_left; dsimp only [a]; rotate_right) | (intro a; clear_value a) | apply hga | lift_lets -underBinder | apply Keeps.ite | apply modMaint_keeps | apply noteRange_keeps | apply setFrame_keeps | apply skipSector_keeps | apply noteFrames_keeps | apply fillVictim_keeps | apply fetchAt_keeps | split | refine KeepsP.get (by assumption) ?_ | refine KeepsF.get (by assumption) ?_

theorem endPreload_keeps {fm : Nat} {r0 : State}  {s : State} {r : Nat} (hfm : Mask.le 0xe000000000000000000000003c000000000000000000000000000000000000000000000000000000000000000000000000000000000000010000 fm = true) (h0 : Keeps fm r0 s)  : Keeps fm r0 (endPreload s r) := by
  unfold endPreload
  with_reducible repeat' first | assumption | exact fpart (by decide +kernel) hfm | exact fle (by decide +kernel) hfm | exact fok (by decide +kernel) hfm | exact fall (by decide +kernel) hfm | exact fokIx (by decide +kernel) hfm | exact fokAll (by decide +kernel) hfm | refine Mask.ok_ite ?_ ?_ | refine faultsOf_ok ?_ ?_ | apply endMaint_keeps | apply noteRange_keeps | apply wr_keeps

theorem lockPreload_keeps {fm : Nat} {r0 : State}  {s : State} {r : Nat} (hfm : Mask.le 0xa000000000000000000000003c000000000000000000000000000000000000000000000000000000000000000000000000000000000000010000 fm = true) (h0 : Keeps fm r0 s)  : Keeps fm r0 (lockPreload s r).2 := by
  unfold lockPreload
  with_reducible repeat' first | assumption | exact fpart (by decide +kernel) hfm | exact fle (by decide +kernel) hfm | exact fok (by decide +kernel) hfm | exact fall (by decide +kernel) hfm | exact fokIx (by decide +kernel) hfm | exact fokAll (by decide +kernel) hfm | refine Mask.ok_ite ?_ ?_ | refine faultsOf_ok ?_ ?_ | apply Keeps.ite_snd | apply wr_keeps | apply startPreload_keeps

theorem execPreload_keeps {fm : Nat} {r0 : State}  {range : Nat} {s : State} (hfm : Mask.le 0xa000000000000000000000003c000000000000000000000000000000000000000000000000000000000000000000000000000000000000010000 fm = true) (h0 : Keeps fm r0 s)  : ∃ t1, (execPreload range s) = .next t1 ∧ Keeps fm r0 t1 := by
  refine ⟨_, rfl, ?_⟩
  with_reducible repeat' first | assumption | exact fpart (by decide +kernel) hfm | exact fle (by decide +kernel) hfm | exact fok (by decide +kernel) hfm | exact fall (by decide +kernel) hfm | exact fokIx (by decide +kernel) hfm | exact fokAll (by decide +kernel) hfm | refine Mask.ok_ite ?_ ?_ | refine faultsOf_ok ?_ ?_ | apply Keeps.ite | apply lockPreload_keeps

theorem lockUnlock_keeps {fm : Nat} {r0 : State}  {s : State} {r : Nat} (hfm : Mask.le 0x2c000000000000000000000000000000000000000000000000000000000000000000000000000000000000010000 fm = true) (h0 : Keeps fm r0 s)  : Keeps fm r0 (lockUnlock s r).2 := by
  unfold lockUnlock
  with_reducible repeat' first | assumption | exact fpart (by decide +kernel) hfm | exact fle (by decide +kernel) hfm | exact fok (by decide +kernel) hfm | exact fall (by decide +kernel) hfm | exact fokIx (by decide +kernel) hfm | exact fokAll (by decide +kernel) hfm | refine Mask.ok_ite ?_ ?_ | refine faultsOf_ok ?_ ?_ | apply Keeps.ite_snd | apply startMaint_keeps

theorem execUnlock_keeps {fm : Nat} {r0 : State}  {range : Nat} {s : State} (hfm : Mask.le 0x2c000000000000000000000000000000000000000000000000000000000000000000000000000000000000010000 fm = true) (h0 : Keeps fm r0 s)  : ∃ t1, (execUnlock range s) = .next t1 ∧ Keeps fm r0 t1 := by
  refine ⟨_, rfl, ?_⟩
  with_reducible repeat' first | assumption | exact fpart (by decide +kernel) hfm | exact fle (by decide +kernel) hfm | exact fok (by decide +kernel) hfm | exact fall (by decide +kernel) hfm | exact fokIx (by decide +kernel) hfm | exact fokAll (by decide +kernel) hfm | refine Mask.ok_ite ?_ ?_ | refine faultsOf_ok ?_ ?_ | apply Keeps.ite | apply lockUnlock_keeps

theorem noteWays_keeps {fm : Nat} {r0 : State}  {s : State} {sl : Nat} (hfm : Mask.le 0x30080000000000000000000000000000000000000000000000000000000000000000160000000000017c000000000000000000000000000000000000000000000000000000000800120 fm = true) (h0 : Keeps fm r0 s)  : Keeps fm r0 (noteWays s sl) := by
  unfold noteWays
  try lift_lets -underBinder
  with_reducible repeat' first | assumption | exact fpart (by decide +kernel) hfm | exact fle (by decide +kernel) hfm | exact fok (by decide +kernel) hfm | exact fall (by decide +kernel) hfm | exact fokIx (by decide +kernel) hfm | exact fokAll (by decide +kernel) hfm | refine Mask.ok_ite ?_ ?_ | refine faultsOf_ok ?_ ?_ | (intro a; refine (fun ha : Keeps fm r0 a => ?_) ?_; clear_value a; rotate_left; dsimp only [a]; rotate_right) | (intro a; clear_value a) | lift_lets -underBinder | apply Keeps.ite | apply wr_keeps | apply raiseOpen_keeps

theorem emptyWay_keeps {fm : Nat} {r0 : State}  {s : State} {sl : Nat} {w : Nat} (hfm : Mask.le 0x10000 fm = true) (h0 : Keeps fm r0 s)  : Keeps fm r0 (emptyWay s sl w) := by
  unfold emptyWay
  try lift_lets -underBinder
  with_reducible repeat' first | assumption | exact fpart (by decide +kernel) hfm | exact fle (by decide +kernel) hfm | exact fok (by decide +kernel) hfm | exact fall (by decide +kernel) hfm | exact fokIx (by decide +kernel) hfm | exact fokAll (by decide +kernel) hfm | refine Mask.ok_ite ?_ ?_ | refine faultsOf_ok ?_ ?_ | (intro a; clear_value a) | fail_if_no_progress (apply Keeps.upd <;> try first | exact Or.inr (fpart (by decide +kernel) hfm) | exact Or.inl rfl)

theorem changeWays_keeps {fm : Nat} {r0 : State}  {s : State} {f : State → State} (hfm : Mask.le 0x30080100030000000000000000000000000000000000000000000000000000000000160000000000017c000000000000000000000000000000000000000000000000000000000830120 fm = true) (h0 : Keeps fm r0 s) (h_f : ∀ t, Keeps fm r0 t → Keeps fm r0 (f t)) : Keeps fm r0 (changeWays s f).2 := by
  unfold changeWays
  try lift_lets -underBinder
  with_reducible repeat' first | assumption | exact fpart (by decide +kernel) hfm | exact fle (by decide +kernel) hfm | exact fok (by decide +kernel) hfm | exact fall (by decide +kernel) hfm | exact fokIx (by decide +kernel) hfm | exact fokAll (by decide +kernel) hfm | refine Mask.ok_ite ?_ ?_ | refine faultsOf_ok ?_ ?_ | refine fun _ _ (_ : Keeps fm r0 _) => ?_ | apply h_f | (intro a; refine (fun ha : Keeps fm r0 a => ?_) ?_; clear_value a; rotate_left; dsimp only [a]; rotate_right) | (intro a; clear_value a) | lift_lets -underBinder | apply noteWays_keeps | apply settleLines_keeps | apply emptyWay_keeps | apply noteFrames_keeps | apply wr_keeps | apply Keeps.forEach | apply Keeps.forRange

theorem wayChange_keeps {fm : Nat} {r0 : State}  {s : State} {tests : List Nat} {f : State → State} (hfm : Mask.le 0x30080100030000000000000000000000000000000000000000000002c00000000000160000000000017c000000000000000000000000000000000000000000000000000000000830120 fm = true) (h0 : Keeps fm r0 s) (h_f : ∀ t, Keeps fm r0 t → Keeps fm r0 (f t)) : Keeps fm r0 (wayChange s tests f) := by
  unfold wayChange
  try lift_lets -underBinder
  with_reducible repeat' first | assumption | exact fpart (by decide +kernel) hfm | exact fle (by decide +kernel) hfm | exact fok (by decide +kernel) hfm | exact fall (by decide +kernel) hfm | exact fokIx (by decide +kernel) hfm | exact fokAll (by decide +kernel) hfm | refine Mask.ok_ite ?_ ?_ | refine faultsOf_ok ?_ ?_ | (intro a; refine (fun ha : Keeps fm r0 a => ?_) ?_; clear_value a; rotate_left; dsimp only [a]; rotate_right) | (intro a; refine (fun ha : Keeps fm r0 a.2 => ?_) ?_; clear_value a; rotate_left; dsimp only [a]; rotate_right) | (intro a; clear_value a) | apply startMaint_keeps | apply changeWays_keeps | apply modMaint_keeps

theorem setWaysEnabled_keeps {fm : Nat} {r0 : State}  {s : State} {n : Nat} (hfm : Mask.le 0x30080100030400000000000000000000000000000000000000000002c00000000000160000000000017c000000000000000000000000000000000000000000000000000000000830120 fm = true) (h0 : Keeps fm r0 s)  : Keeps fm r0 (setWaysEnabled s n).2 := by
  unfold setWaysEnabled
  try lift_lets -underBinder
  with_reducible repeat' first | assumption | exact fpart (by decide +kernel) hfm | exact fle (by decide +kernel) hfm | exact fok (by decide +kernel) hfm | exact fall (by decide +kernel) hfm | exact fokIx (by decide +kernel) hfm | exact fokAll (by decide +kernel) hfm | refine Mask.ok_ite ?_ ?_ | refine faultsOf_ok ?_ ?_ | refine fun _ (_ : Keeps fm r0 _) => ?_ | (intro a; clear_value a) | lift_lets -underBinder | apply Keeps.ite_snd | apply wayChange_keeps | apply wr_keeps

theorem execCacheWaysEnabled_keeps {fm : Nat} {r0 : State}  {n : Nat} {s : State} (hfm : Mask.le 0x30080100030400000000000000000000000000000000000000000002c00000000000160000000000017c000000000000000000000000000000000000000000000000000000000830120 fm = true) (h0 : Keeps fm r0 s)  : ∃ t1, (execCacheWaysEnabled n s) = .next t1 ∧ Keeps fm r0 t1 := by
  refine ⟨_, rfl, ?_⟩
  with_reducible repeat' first | assumption | exact fpart (by decide +kernel) hfm | exact fle (by decide +kernel) hfm | exact fok (by decide +kernel) hfm | exact fall (by decide +kernel) hfm | exact fokIx (by decide +kernel) hfm | exact fokAll (by decide +kernel) hfm | refine Mask.ok_ite ?_ ?_ | refine faultsOf_ok ?_ ?_ | apply Keeps.ite | apply setWaysEnabled_keeps

theorem setFrameWays_keeps {fm : Nat} {r0 : State}  {s : State} {n : Nat} (hfm : Mask.le 0x30080100030800000000000000000000000000000000000000000002c00000000000160000000000017c000000000000000000000000000000000000000000000000000000000830120 fm = true) (h0 : Keeps fm r0 s)  : Keeps fm r0 (setFrameWays s n).2 := by
  unfold setFrameWays
  with_reducible repeat' first | assumption | exact fpart (by decide +kernel) hfm | exact fle (by decide +kernel) hfm | exact fok (by decide +kernel) hfm | exact fall (by decide +kernel) hfm | exact fokIx (by decide +kernel) hfm | exact fokAll (by decide +kernel) hfm | refine Mask.ok_ite ?_ ?_ | refine faultsOf_ok ?_ ?_ | refine fun _ (_ : Keeps fm r0 _) => ?_ | apply Keeps.ite_snd | apply wayChange_keeps | apply wr_keeps

theorem execCacheFrameWays_keeps {fm : Nat} {r0 : State}  {n : Nat} {s : State} (hfm : Mask.le 0x30080100030800000000000000000000000000000000000000000002c00000000000160000000000017c000000000000000000000000000000000000000000000000000000000830120 fm = true) (h0 : Keeps fm r0 s)  : ∃ t1, (execCacheFrameWays n s) = .next t1 ∧ Keeps fm r0 t1 := by
  refine ⟨_, rfl, ?_⟩
  with_reducible repeat' first | assumption | exact fpart (by decide +kernel) hfm | exact fle (by decide +kernel) hfm | exact fok (by decide +kernel) hfm | exact fall (by decide +kernel) hfm | exact fokIx (by decide +kernel) hfm | exact fokAll (by decide +kernel) hfm | refine Mask.ok_ite ?_ ?_ | refine faultsOf_ok ?_ ?_ | apply Keeps.ite | apply setFrameWays_keeps

theorem reenableWays_keeps {fm : Nat} {r0 : State}  {s : State} {sl : Nat} {mask : Nat} (hfm : Mask.le 0x30080100030000000000000000000000000000000000000000000002c00000000000160000000000017c000000000000000000000000000000000000000000000000000000000830120 fm = true) (h0 : Keeps fm r0 s)  : Keeps fm r0 (reenableWays s sl mask).2 := by
  unfold reenableWays
  with_reducible repeat' first | assumption | exact fpart (by decide +kernel) hfm | exact fle (by decide +kernel) hfm | exact fok (by decide +kernel) hfm | exact fall (by decide +kernel) hfm | exact fokIx (by decide +kernel) hfm | exact fokAll (by decide +kernel) hfm | refine Mask.ok_ite ?_ ?_ | refine faultsOf_ok ?_ ?_ | refine fun _ (_ : Keeps fm r0 _) => ?_ | apply Keeps.ite_snd | apply wayChange_keeps

theorem execSliceWayReenable_keeps {fm : Nat} {r0 : State}  {slice : Nat} {mask : Nat} {s : State} (hfm : Mask.le 0x30080100030000000000000000000000000000000000000000000002c00000000000160000000000017c000000000000000000000000000000000000000000000000000000000830120 fm = true) (h0 : Keeps fm r0 s)  : ∃ t1, (execSliceWayReenable slice mask s) = .next t1 ∧ Keeps fm r0 t1 := by
  refine ⟨_, rfl, ?_⟩
  with_reducible repeat' first | assumption | exact fpart (by decide +kernel) hfm | exact fle (by decide +kernel) hfm | exact fok (by decide +kernel) hfm | exact fall (by decide +kernel) hfm | exact fokIx (by decide +kernel) hfm | exact fokAll (by decide +kernel) hfm | refine Mask.ok_ite ?_ ?_ | refine faultsOf_ok ?_ ?_ | apply Keeps.ite | apply reenableWays_keeps

theorem disableWay_keeps {fm : Nat} {r0 : State}  {s : State} {x : Nat} (hfm : Mask.le 0x300801000300000000000000000000000000000000000000000000000000000000001e0000000000017c000000000000000000000000000000000000000000000000000000000830120 fm = true) (h0 : Keeps fm r0 s)  : Keeps fm r0 (disableWay s x) := by
  unfold disableWay
  try lift_lets -underBinder
  with_reducible repeat' first | assumption | exact fpart (by decide +kernel) hfm | exact fle (by decide +kernel) hfm | exact fok (by decide +kernel) hfm | exact fall (by decide +kernel) hfm | exact fokIx (by decide +kernel) hfm | exact fokAll (by decide +kernel) hfm | refine Mask.ok_ite ?_ ?_ | refine faultsOf_ok ?_ ?_ | refine fun _ (_ : Keeps fm r0 _) => ?_ | (intro a; clear_value a) | lift_lets -underBinder | apply Keeps.ite | apply raise_keeps | apply changeWays_keeps | apply wr_keeps

theorem takeFailing_keeps {fm : Nat} {r0 : State}  {s : State} (hfm : Mask.le 0x300801000300000000000000000000000000000000000000000000000000000000001e0000000000017c000000000000000000000000000000000000000000000000000000000830120 fm = true) (h0 : Keeps fm r0 s)  : Keeps fm r0 (takeFailing s) := by
  unfold takeFailing
  with_reducible repeat' first | assumption | exact fpart (by decide +kernel) hfm | exact fle (by decide +kernel) hfm | exact fok (by decide +kernel) hfm | exact fall (by decide +kernel) hfm | exact fokIx (by decide +kernel) hfm | exact fokAll (by decide +kernel) hfm | refine Mask.ok_ite ?_ ?_ | refine faultsOf_ok ?_ ?_ | refine fun _ _ (_ : Keeps fm r0 _) => ?_ | apply disableWay_keeps | apply Keeps.forEach | fail_if_no_progress (apply Keeps.upd <;> try first | exact Or.inr (fpart (by decide +kernel) hfm) | exact Or.inl rfl)

theorem endWayChange_keeps {fm : Nat} {r0 : State}  {s : State} {m : Maint} (hfm : Mask.le 0xa000000000000000000000003c000000000000000000000000000000000000000000000000000000000000000000000000000000000000010000 fm = true) (h0 : Keeps fm r0 s)  : Keeps fm r0 (endWayChange s m) := by
  unfold endWayChange
  with_reducible repeat' first | assumption | exact fpart (by decide +kernel) hfm | exact fle (by decide +kernel) hfm | exact fok (by decide +kernel) hfm | exact fall (by decide +kernel) hfm | exact fokIx (by decide +kernel) hfm | exact fokAll (by decide +kernel) hfm | refine Mask.ok_ite ?_ ?_ | refine faultsOf_ok ?_ ?_ | apply Keeps.ite | apply endMaint_keeps

theorem execWayMarchTestDone_keeps {fm : Nat} {r0 : State}  {slice : Nat} {way : Nat} {pass : Bool} {s : State} (hfm : Mask.le 0x3008010003000000000000000000000a000000000000000000000003c000000000001e0000000000017c000000000000000000000000000000000000000000000000000000000830120 fm = true) (h0 : Keeps fm r0 s)  : ∃ t1, (execWayMarchTestDone slice way pass s) = .next t1 ∧ Keeps fm r0 t1 := by
  refine ⟨_, rfl, ?_⟩
  try lift_lets -underBinder
  with_reducible repeat' first | assumption | exact fpart (by decide +kernel) hfm | exact fle (by decide +kernel) hfm | exact fok (by decide +kernel) hfm | exact fall (by decide +kernel) hfm | exact fokIx (by decide +kernel) hfm | exact fokAll (by decide +kernel) hfm | refine Mask.ok_ite ?_ ?_ | refine faultsOf_ok ?_ ?_ | refine fun _ (_ : Keeps fm r0 _) => ?_ | (intro a; refine (fun ha : Keeps fm r0 a => ?_) ?_; clear_value a; rotate_left; dsimp only [a]; rotate_right) | (intro a; refine (fun hga : ∀ t, Keeps fm r0 t → Keeps fm r0 (a t) => ?_) ?_; clear_value a; rotate_left; dsimp only [a]; rotate_right) | (intro a; clear_value a) | apply hga | lift_lets -underBinder | apply Keeps.ite | apply modMaint_keeps | apply changeWays_keeps | apply wr_keeps | apply disableWay_keeps | apply endWayChange_keeps | split

theorem execWayDisable_keeps {fm : Nat} {r0 : State}  {slice : Nat} {way : Nat} {s : State} (hfm : Mask.le 0x3008010003000000000000000000000a000000000000000000000002c000000000001e0000000000017c000000000000000000000000000000000000000000000000000000000830120 fm = true) (h0 : Keeps fm r0 s)  : ∃ t1, (execWayDisable slice way s) = .next t1 ∧ Keeps fm r0 t1 := by
  refine ⟨_, rfl, ?_⟩
  with_reducible repeat' first | assumption | exact fpart (by decide +kernel) hfm | exact fle (by decide +kernel) hfm | exact fok (by decide +kernel) hfm | exact fall (by decide +kernel) hfm | exact fokIx (by decide +kernel) hfm | exact fokAll (by decide +kernel) hfm | refine Mask.ok_ite ?_ ?_ | refine faultsOf_ok ?_ ?_ | apply Keeps.ite | apply startReload_keeps | apply disableWay_keeps | fail_if_no_progress (apply Keeps.upd <;> try first | exact Or.inr (fpart (by decide +kernel) hfm) | exact Or.inl rfl)

theorem maintStep_keeps {fm : Nat} {r0 : State}  {s : State} {m : Maint} (hfm : Mask.le 0x10002000000000000000000000e000000000000000000000003c000000000000014000000000000000000000000000000000000000000000000000000000000020000040834020 fm = true) (h0 : Keeps fm r0 s)  : Keeps fm r0 (maintStep s m) := by
  unfold maintStep
  try lift_lets -underBinder
  with_reducible repeat' first | assumption | exact fpart (by decide +kernel) hfm | exact fle (by decide +kernel) hfm | exact fok (by decide +kernel) hfm | exact fall (by decide +kernel) hfm | exact fokIx (by decide +kernel) hfm | exact fokAll (by decide +kernel) hfm | refine Mask.ok_ite ?_ ?_ | refine faultsOf_ok ?_ ?_ | refine fun _ (_ : Keeps fm r0 _) => ?_ | (intro a; refine (fun ha : Keeps fm r0 a => ?_) ?_; clear_value a; rotate_left; dsimp only [a]; rotate_right) | (intro a; refine (fun hga : ∀ t, Keeps fm r0 t → Keeps fm r0 (a t) => ?_) ?_; clear_value a; rotate_left; dsimp only [a]; rotate_right) | apply hga | lift_lets -underBinder | apply Keeps.ite | apply wr_keeps | apply endPreload_keeps | apply preloadSector_keeps | apply endMaint_keeps | apply endRange_keeps | apply endWayChange_keeps | apply cleanLines_keeps | apply invalidateSet_keeps | apply modMaint_keeps | split

theorem execCacheMaintStep_keeps {fm : Nat} {r0 : State}  {s : State} (hfm : Mask.le 0x3008010003000000000000000000000e000000000000000000000003c000000000001e1400000000017c000000000000000000000000000000000000000000000000020000040834120 fm = true) (h0 : Keeps fm r0 s)  : ∃ t1, (execCacheMaintStep s) = .next t1 ∧ Keeps fm r0 t1 := by
  refine ⟨_, rfl, ?_⟩
  try lift_lets -underBinder
  with_reducible repeat' first | assumption | exact fpart (by decide +kernel) hfm | exact fle (by decide +kernel) hfm | exact fok (by decide +kernel) hfm | exact fall (by decide +kernel) hfm | exact fokIx (by decide +kernel) hfm | exact fokAll (by decide +kernel) hfm | refine Mask.ok_ite ?_ ?_ | refine faultsOf_ok ?_ ?_ | (intro a; refine (fun ha : Keeps fm r0 a => ?_) ?_; clear_value a; rotate_left; dsimp only [a]; rotate_right) | lift_lets -underBinder | apply Keeps.ite | apply takeFailing_keeps | apply maintStep_keeps | apply startReload_keeps | split

theorem execHbmStackFailed_keeps {fm : Nat} {r0 : State}  {stack : Nat} {s : State} (hfm : Mask.le 0x300800c0000000000000000000000000000001000008000000000000000000000000001400000180017c000000000000000000000000000000000000000000000000620000040935d20 fm = true) (h0 : Keeps fm r0 s)  : ∃ t1, (execHbmStackFailed stack s) = .next t1 ∧ Keeps fm r0 t1 := by
  refine ⟨_, rfl, ?_⟩
  try lift_lets -underBinder
  with_reducible repeat' first | assumption | exact fpart (by decide +kernel) hfm | exact fle (by decide +kernel) hfm | exact fok (by decide +kernel) hfm | exact fall (by decide +kernel) hfm | exact fokIx (by decide +kernel) hfm | exact fokAll (by decide +kernel) hfm | refine Mask.ok_ite ?_ ?_ | refine faultsOf_ok ?_ ?_ | refine fun _ _ (_ : Keeps fm r0 _) => ?_ | (intro a; refine (fun ha : Keeps fm r0 a => ?_) ?_; clear_value a; rotate_left; dsimp only [a]; rotate_right) | (intro a; clear_value a) | lift_lets -underBinder | apply Keeps.ite | apply raiseOpen_keeps | apply wr_keeps | apply modPower_keeps | apply poisonSlot_keeps | apply modSlot_keeps | apply poisonDescriptor_keeps | apply poisonLeaf_keeps | apply noteLeaves_keeps | apply dropLines_keeps | apply Keeps.forEach | fail_if_no_progress (apply Keeps.upd <;> try first | exact Or.inr (fpart (by decide +kernel) hfm) | exact Or.inl rfl)

theorem execHbmRefreshThreshold_keeps {fm : Nat} {r0 : State}  {stack : Nat} {temp : Int} {s : State} (hfm : Mask.le 0x600000000000000000000000000000000000000000000000000000000000000000000000000000000000000000000000000100000 fm = true) (h0 : Keeps fm r0 s)  : ∃ t1, (execHbmRefreshThreshold stack temp s) = .next t1 ∧ Keeps fm r0 t1 := by
  refine ⟨_, rfl, ?_⟩
  try lift_lets -underBinder
  with_reducible repeat' first | assumption | exact fpart (by decide +kernel) hfm | exact fle (by decide +kernel) hfm | exact fok (by decide +kernel) hfm | exact fall (by decide +kernel) hfm | exact fokIx (by decide +kernel) hfm | exact fokAll (by decide +kernel) hfm | refine Mask.ok_ite ?_ ?_ | refine faultsOf_ok ?_ ?_ | (intro a; clear_value a) | lift_lets -underBinder | apply Keeps.ite | apply wr_keeps | apply modPower_keeps

/-! ## Startup -/

theorem failStep_keeps {fm : Nat} {r0 : State}  {s : State} {n : Nat} (hfm : Mask.le 0x30080000000000000000000000000000000010000000000000000000000000000000000000000000017c000000000000000000000000000000000000000000000000000000000900120 fm = true) (h0 : Keeps fm r0 s)  : Keeps fm r0 (failStep s n) := by
  unfold failStep
  try lift_lets -underBinder
  with_reducible repeat' first | assumption | exact fpart (by decide +kernel) hfm | exact fle (by decide +kernel) hfm | exact fok (by decide +kernel) hfm | exact fall (by decide +kernel) hfm | exact fokIx (by decide +kernel) hfm | exact fokAll (by decide +kernel) hfm | refine Mask.ok_ite ?_ ?_ | refine faultsOf_ok ?_ ?_ | (intro a; refine (fun ha : Keeps fm r0 a => ?_) ?_; clear_value a; rotate_left; dsimp only [a]; rotate_right) | lift_lets -underBinder | apply Keeps.ite | apply raiseOpen_keeps | apply wr_keeps | apply modPower_keeps

theorem setBist_keeps {fm : Nat} {r0 : State}  {s : State} {b : Nat} {on : Bool} (hfm : Mask.le 0x4000000000000000000000000000000000000000000000000000000000000000000000000000000000000000000000000000000000000000000000000000000000000000000000000 fm = true) (h0 : Keeps fm r0 s)  : Keeps fm r0 (setBist s b on) := by
  unfold setBist
  with_reducible repeat' first | assumption | exact fpart (by decide +kernel) hfm | exact fle (by decide +kernel) hfm | exact fok (by decide +kernel) hfm | exact fall (by decide +kernel) hfm | exact fokIx (by decide +kernel) hfm | exact fokAll (by decide +kernel) hfm | refine Mask.ok_ite ?_ ?_ | refine faultsOf_ok ?_ ?_ | apply Keeps.ite | apply wr_keeps

theorem noteTime_keeps {fm : Nat} {r0 : State}  {s : State} {n : Nat} (hfm : Mask.le 0x200000000000000000000000000000000000000000000000000000000000000000000000000000000000000000000000000000000000000 fm = true) (h0 : Keeps fm r0 s)  : Keeps fm r0 (noteTime s n) := by
  unfold noteTime
  try lift_lets -underBinder
  with_reducible repeat' first | assumption | exact fpart (by decide +kernel) hfm | exact fle (by decide +kernel) hfm | exact fok (by decide +kernel) hfm | exact fall (by decide +kernel) hfm | exact fokIx (by decide +kernel) hfm | exact fokAll (by decide +kernel) hfm | refine Mask.ok_ite ?_ ?_ | refine faultsOf_ok ?_ ?_ | (intro a; clear_value a) | apply wrBytes_keeps

theorem slotHeader_keeps {fm : Nat} {r0 : State}  {s : State} {slot : Nat} {x : FwImage} (hfm : Mask.le 0x3c00000000000000000000000000000000000000000000000000000000000000000000000000000000 fm = true) (h0 : Keeps fm r0 s)  : Keeps fm r0 (slotHeader s slot x) := by
  unfold slotHeader
  with_reducible repeat' first
    | assumption
    | exact fpart (by decide +kernel) hfm
    | exact fle (by decide +kernel) hfm
    | exact fok (by decide +kernel) hfm
    | exact fall (by decide +kernel) hfm
    | exact fokIx (by decide +kernel) hfm
    | exact fokAll (by decide +kernel) hfm
    | refine Mask.ok_ite ?_ ?_
    | refine faultsOf_ok ?_ ?_
    | refine fun _ (_ : Keeps fm r0 _) => ?_
    | refine fun _ _ (_ : Keeps fm r0 _) => ?_
    | refine fun _ _ _ (_ : Keeps fm r0 _) => ?_
    | exact KeepsO.get rfl (by assumption)
    | exact KeepsP.get rfl (by assumption)
    | apply Keeps.ite
    | apply wr_keeps
    | apply wrBytes_keeps
    | apply Keeps.forEach
    | apply Keeps.forRange
    | apply Keeps.foldl
    | apply Keeps.foldl_fst
    | apply Keeps.foldl_snd
    | exact KeepsO.none
    | exact KeepsP.none
    | apply KeepsO.some
    | apply KeepsP.some
    | apply KeepsO.ite
    | apply KeepsP.ite
    | refine KeepsO.foldl _ _ ?_ (fun _ _ _ => ?_)
    | exact KeepsF.lost
    | apply KeepsF.started
    | apply KeepsF.ite
    | fail_if_no_progress (apply Keeps.upd <;> try first | exact Or.inr (fpart (by decide +kernel) hfm) | exact Or.inl rfl)
    | fail_if_no_progress (apply Keeps.updDict <;> try first | exact Or.inr (fpart (by decide +kernel) hfm) | exact Or.inl rfl)
    | refine Keeps.updRegs (rg := Tbl.filterK _ _) ?_ (Tbl.wf_filterK _) (Tbl.wf_filterK _)
    | refine Keeps.updRegs (rg := Tbl.filterK _ _) ?_ (Tbl.wf_filterK _) id
    | split
    | refine Keeps.of_snd (by assumption) ?_
    | refine Keeps.of_fst (by assumption) ?_
    | refine KeepsO.get (by assumption) ?_
    | refine KeepsP.get (by assumption) ?_
    | refine KeepsF.get (by assumption) ?_

theorem bootFrom_keeps {fm : Nat} {r0 : State}  {s : State} {slot : Nat} {x : FwImage} (hfm : Mask.le 0x300800000000001800000006000000000000000000000000000000000000000003c0000000000000017c000000000000000000000000000000000000000000000000000000000900120 fm = true) (h0 : Keeps fm r0 s)  : Keeps fm r0 (bootFrom s slot x) := by
  unfold bootFrom
  try lift_lets -underBinder
  with_reducible repeat' first | assumption | exact fpart (by decide +kernel) hfm | exact fle (by decide +kernel) hfm | exact fok (by decide +kernel) hfm | exact fall (by decide +kernel) hfm | exact fokIx (by decide +kernel) hfm | exact fokAll (by decide +kernel) hfm | refine Mask.ok_ite ?_ ?_ | refine faultsOf_ok ?_ ?_ | (intro a; refine (fun ha : Keeps fm r0 a => ?_) ?_; clear_value a; rotate_left; dsimp only [a]; rotate_right) | lift_lets -underBinder | apply Keeps.ite | apply wr_keeps | apply modPower_keeps | apply slotHeader_keeps | apply wrBytes_keeps | apply wrB_keeps | apply raiseOpen_keeps

theorem replayConfig_keeps {fm : Nat} {r0 s : State} {config : Nat} (hfm : Mask.le 0x1ffffffffffffffffffffffffffffffffffffffffffffffffffffffffffffffffffffffffffffffffffffffffffffffffffffffffffffffffffffffffffffffffffffffffffffffffffffffffffffffffffffffffffe00000a fm = true) (h0 : Keeps fm r0 s) : Keeps fm r0 (replayConfig s config) := by
  have hall : Nat.testBit fm 1 = true := Mask.le_testBit hfm (by decide +kernel)
  have hs : Nat.testBit fm 3 = true := Mask.le_testBit hfm (by decide +kernel)
  have hk : ∀ k, Mask.keeps fm k = true → False := fun k h => Mask.keeps_all hall h
  unfold replayConfig
  dsimp only
  refine wr_keeps (Mask.ok_all hall) (Keeps.setDict (d := Dict.mk _ _ _ _ _ _) ?_ id id (fun _ _ => rfl) (fun _ _ => rfl) (Or.inr hs))
  refine Keeps.ite ?_ h0
  exact Keeps.updRegs (rg := Tbl.filterK _ _) (bl := Tbl.filterK _ _) h0 (Tbl.wf_filterK _) (Tbl.wf_filterK _) (fun k h => (hk k h).elim) (fun k h => (hk k h).elim) (Or.inr hs)

theorem deliverHeld_keeps {fm : Nat} {r0 : State}  {s : State} (hfm : Mask.le 0x80000000000000000000000000000000000000000000000000000000000000000000000000000017c000000000000000000000000000000000000000000000000000000000800120 fm = true) (h0 : Keeps fm r0 s)  : Keeps fm r0 (deliverHeld s) := by
  unfold deliverHeld
  try lift_lets -underBinder
  with_reducible repeat' first | assumption | exact fpart (by decide +kernel) hfm | exact fle (by decide +kernel) hfm | exact fok (by decide +kernel) hfm | exact fall (by decide +kernel) hfm | exact fokIx (by decide +kernel) hfm | exact fokAll (by decide +kernel) hfm | refine Mask.ok_ite ?_ ?_ | refine faultsOf_ok ?_ ?_ | refine fun _ _ (_ : Keeps fm r0 _) => ?_ | (intro a; refine (fun ha : Keeps fm r0 a => ?_) ?_; clear_value a; rotate_left; dsimp only [a]; rotate_right) | (intro a; clear_value a) | lift_lets -underBinder | apply Keeps.ite | apply offer_keeps | apply bump_keeps | apply pathConsume_keeps | apply Keeps.forEach | apply Keeps.forRange | fail_if_no_progress (apply Keeps.upd <;> try first | exact Or.inr (fpart (by decide +kernel) hfm) | exact Or.inl rfl)

theorem endStep6_keeps {fm : Nat} {r0 : State}  {s : State} (hfm : Mask.le 0xffffffff000000000000000003f300fe00000000000001f0000fc0a3970001e000000000001fe7f8000000040000000001400000000417f1913a20000000000000002400c000000000ffffffffc0000020000040ce7be8 fm = true) (h0 : Keeps fm r0 s)  : Keeps fm r0 (endStep6 s) := by
  unfold endStep6
  try lift_lets -underBinder
  with_reducible repeat' first | assumption | exact fpart (by decide +kernel) hfm | exact fle (by decide +kernel) hfm | exact fok (by decide +kernel) hfm | exact fall (by decide +kernel) hfm | exact fokIx (by decide +kernel) hfm | exact fokAll (by decide +kernel) hfm | refine Mask.ok_ite ?_ ?_ | refine faultsOf_ok ?_ ?_ | refine fun _ _ (_ : Keeps fm r0 _) => ?_ | (intro a; refine (fun ha : Keeps fm r0 a => ?_) ?_; clear_value a; rotate_left; dsimp only [a]; rotate_right) | lift_lets -underBinder | apply Keeps.ite | apply wr_keeps | apply readyPort_keeps | apply startPack_keeps | apply deliverHeld_keeps | apply notePair_keeps | apply Keeps.forRange

theorem bistEngines_keeps {fm : Nat} {r0 : State}  {s : State} {l : List Nat} (hfm : Mask.le 0x40030780000000000000000000000000000000000000000000000000000000000000000000000000000017c000000000000000000000000000000000000000000000000000000000800120 fm = true) (h0 : Keeps fm r0 s)  : Keeps fm r0 (bistEngines s l) := by
  unfold bistEngines
  try lift_lets -underBinder
  with_reducible repeat' first | assumption | exact fpart (by decide +kernel) hfm | exact fle (by decide +kernel) hfm | exact fok (by decide +kernel) hfm | exact fall (by decide +kernel) hfm | exact fokIx (by decide +kernel) hfm | exact fokAll (by decide +kernel) hfm | refine Mask.ok_ite ?_ ?_ | refine faultsOf_ok ?_ ?_ | refine fun _ _ (_ : Keeps fm r0 _) => ?_ | (intro a; refine (fun ha : Keeps fm r0 a => ?_) ?_; clear_value a; rotate_left; dsimp only [a]; rotate_right) | (intro a; clear_value a) | lift_lets -underBinder | apply wrBytes_keeps | apply wr_keeps | apply raise_keeps | apply setBist_keeps | apply Keeps.forEach

theorem lockedBoot_keeps {fm : Nat} {r0 : State}  {s : State} (hfm : Mask.le 0x40000000000000000000000000000000000000000000000000000000000000000000000400000008000000000000000000000000000000000204000000000000000000000000008000 fm = true) (h0 : Keeps fm r0 s)  : Keeps fm r0 (lockedBoot s) := by
  unfold lockedBoot
  try lift_lets -underBinder
  with_reducible repeat' first | assumption | exact fpart (by decide +kernel) hfm | exact fle (by decide +kernel) hfm | exact fok (by decide +kernel) hfm | exact fall (by decide +kernel) hfm | exact fokIx (by decide +kernel) hfm | exact fokAll (by decide +kernel) hfm | refine Mask.ok_ite ?_ ?_ | refine faultsOf_ok ?_ ?_ | (intro a; refine (fun ha : Keeps fm r0 a => ?_) ?_; clear_value a; rotate_left; dsimp only [a]; rotate_right) | lift_lets -underBinder | apply zeroizeAll_keeps | apply wrB_keeps

theorem unwrapKeys_keeps {fm : Nat} {r0 : State}  {s : State} {ok : Bool} (hfm : Mask.le 0x800000000000040000000000000000000000000000000000000000000000000000000000000000000000400000008000000000000000000000000000000000204010000000000000600000000808100 fm = true) (h0 : Keeps fm r0 s)  : Keeps fm r0 (unwrapKeys s ok) := by
  unfold unwrapKeys
  try lift_lets -underBinder
  with_reducible repeat' first | assumption | exact fpart (by decide +kernel) hfm | exact fle (by decide +kernel) hfm | exact fok (by decide +kernel) hfm | exact fall (by decide +kernel) hfm | exact fokIx (by decide +kernel) hfm | exact fokAll (by decide +kernel) hfm | refine Mask.ok_ite ?_ ?_ | refine faultsOf_ok ?_ ?_ | refine fun _ _ (_ : Keeps fm r0 _) => ?_ | (intro a; refine (fun ha : Keeps fm r0 a => ?_) ?_; clear_value a; rotate_left; dsimp only [a]; rotate_right) | (intro a; clear_value a) | lift_lets -underBinder | apply Keeps.ite | apply lockedBoot_keeps | apply noteKeys_keeps | apply settleSlot_keeps | apply wr_keeps | apply Keeps.forRange | fail_if_no_progress (apply Keeps.upd <;> try first | exact Or.inr (fpart (by decide +kernel) hfm) | exact Or.inl rfl)

theorem endStep7_keeps {fm : Nat} {r0 : State}  {s : State} {x : StartItem} (hfm : Mask.le 0xa00000000400347801000300000000000000012000000000000000080000000000000000000000001e0040000000817c000000000000000000000000000000204010000000000000600000000938120 fm = true) (h0 : Keeps fm r0 s)  : Keeps fm r0 (endStep7 s x) := by
  unfold endStep7
  try lift_lets -underBinder
  with_reducible repeat' first | assumption | exact fpart (by decide +kernel) hfm | exact fle (by decide +kernel) hfm | exact fok (by decide +kernel) hfm | exact fall (by decide +kernel) hfm | exact fokIx (by decide +kernel) hfm | exact fokAll (by decide +kernel) hfm | refine Mask.ok_ite ?_ ?_ | refine faultsOf_ok ?_ ?_ | refine fun _ _ (_ : Keeps fm r0 _) => ?_ | (intro a; refine (fun ha : Keeps fm r0 a => ?_) ?_; clear_value a; rotate_left; dsimp only [a]; rotate_right) | lift_lets -underBinder | apply Keeps.ite | apply modPower_keeps | apply bistEngines_keeps | apply disableWay_keeps | apply setBist_keeps | apply quarantine_keeps | apply wr_keeps | apply unwrapKeys_keeps | apply Keeps.forEach | apply Keeps.forRange

theorem lossOf_keeps {fm : Nat} {r0 : State}  {s : State} {stop : Nat} (hfm : Mask.le 0x30080000000000000000000000000000000008000000000000000000000000000000000000000000017c000000000000001000000000000000000000000000000000000000000900120 fm = true) (h0 : Keeps fm r0 s)  : Keeps fm r0 (lossOf s stop) := by
  unfold lossOf
  with_reducible repeat' first | assumption | exact fpart (by decide +kernel) hfm | exact fle (by decide +kernel) hfm | exact fok (by decide +kernel) hfm | exact fall (by decide +kernel) hfm | exact fokIx (by decide +kernel) hfm | exact fokAll (by decide +kernel) hfm | refine Mask.ok_ite ?_ ?_ | refine faultsOf_ok ?_ ?_ | apply raiseOpen_keeps | apply wr_keeps | apply modPower_keeps

theorem holdImage_keeps {fm : Nat} {r0 : State}  {s : State} {img : Image} (hfm : Mask.le 0x3008000000000000001f0000000a3900000000000000000000000000000000000000001400000000017c1900000000000000c8000000000000000000000000000000020000040945920 fm = true) (h0 : Keeps fm r0 s)  : Keeps fm r0 (holdImage s img) := by
  unfold holdImage
  try lift_lets -underBinder
  with_reducible repeat' first
    | assumption
    | exact fpart (by decide +kernel) hfm
    | exact fle (by decide +kernel) hfm
    | exact fok (by decide +kernel) hfm
    | exact fall (by decide +kernel) hfm
    | exact fokIx (by decide +kernel) hfm
    | exact fokAll (by decide +kernel) hfm
    | refine Mask.ok_ite ?_ ?_
    | refine faultsOf_ok ?_ ?_
    | refine fun _ (_ : Keeps fm r0 _) => ?_
    | refine fun _ _ (_ : Keeps fm r0 _) => ?_
    | refine fun _ _ _ (_ : Keeps fm r0 _) => ?_
    | exact KeepsO.get rfl (by assumption)
    | exact KeepsP.get rfl (by assumption)
    | (intro a; refine (fun ha : Keeps fm r0 a => ?_) ?_; clear_value a; rotate_left; dsimp only [a]; rotate_right)
    | (intro a; refine (fun ha : Keeps fm r0 a.2 => ?_) ?_; clear_value a; rotate_left; dsimp only [a]; rotate_right)
    | (intro a; refine (fun ha : Keeps fm r0 a.1 => ?_) ?_; clear_value a; rotate_left; dsimp only [a]; rotate_right)
    | (intro a; refine (fun ha : KeepsO fm r0 a => ?_) ?_; clear_value a; rotate_left; dsimp only [a]; rotate_right)
    | (have _ := @hgb; intro a; refine (fun hgc : ∀ t, Keeps fm r0 t → Keeps fm r0 (a t) => ?_) ?_; clear_value a; rotate_left; dsimp only [a]; rotate_right)
    | (have _ := @hga; intro a; refine (fun hgb : ∀ t, Keeps fm r0 t → Keeps fm r0 (a t) => ?_) ?_; clear_value a; rotate_left; dsimp only [a]; rotate_right)
    | (intro a; refine (fun hga : ∀ t, Keeps fm r0 t → Keeps fm r0 (a t) => ?_) ?_; clear_value a; rotate_left; dsimp only [a]; rotate_right)
    | (have _ := @hgb; intro a; refine (fun hgc : ∀ x t, Keeps fm r0 t → Keeps fm r0 (a x t) => ?_) ?_; clear_value a; rotate_left; dsimp only [a]; rotate_right)
    | (have _ := @hga; intro a; refine (fun hgb : ∀ x t, Keeps fm r0 t → Keeps fm r0 (a x t) => ?_) ?_; clear_value a; rotate_left; dsimp only [a]; rotate_right)
    | (intro a; refine (fun hga : ∀ x t, Keeps fm r0 t → Keeps fm r0 (a x t) => ?_) ?_; clear_value a; rotate_left; dsimp only [a]; rotate_right)
    | (have _ := @hgb; intro a; refine (fun hgc : ∀ x y t, Keeps fm r0 t → Keeps fm r0 (a x y t) => ?_) ?_; clear_value a; rotate_left; dsimp only [a]; rotate_right)
    | (have _ := @hga; intro a; refine (fun hgb : ∀ x y t, Keeps fm r0 t → Keeps fm r0 (a x y t) => ?_) ?_; clear_value a; rotate_left; dsimp only [a]; rotate_right)
    | (intro a; refine (fun hga : ∀ x y t, Keeps fm r0 t → Keeps fm r0 (a x y t) => ?_) ?_; clear_value a; rotate_left; dsimp only [a]; rotate_right)
    | (have _ := @hgb; intro a; refine (fun hgc : ∀ t x, Keeps fm r0 t → Keeps fm r0 (a t x) => ?_) ?_; clear_value a; rotate_left; dsimp only [a]; rotate_right)
    | (have _ := @hga; intro a; refine (fun hgb : ∀ t x, Keeps fm r0 t → Keeps fm r0 (a t x) => ?_) ?_; clear_value a; rotate_left; dsimp only [a]; rotate_right)
    | (intro a; refine (fun hga : ∀ t x, Keeps fm r0 t → Keeps fm r0 (a t x) => ?_) ?_; clear_value a; rotate_left; dsimp only [a]; rotate_right)
    | (intro a; refine (fun (_ : a = (a : Dict)) => ?_) rfl; dsimp only [a])
    | (intro a; clear_value a)
    | apply hga
    | apply hgb
    | apply hgc
    | lift_lets -underBinder
    | apply Keeps.ite
    | apply noteCistern_keeps
    | apply wr_keeps
    | apply wrB_keeps
    | apply modPower_keeps
    | apply Keeps.forEach
    | apply Keeps.forRange
    | apply Keeps.foldl
    | apply Keeps.foldl_fst
    | apply Keeps.foldl_snd
    | exact KeepsO.none
    | exact KeepsP.none
    | apply KeepsO.some
    | apply KeepsP.some
    | apply KeepsO.ite
    | apply KeepsP.ite
    | refine KeepsO.foldl _ _ ?_ (fun _ _ _ => ?_)
    | exact KeepsF.lost
    | apply KeepsF.started
    | apply KeepsF.ite
    | fail_if_no_progress (apply Keeps.upd <;> try first | exact Or.inr (fpart (by decide +kernel) hfm) | exact Or.inl rfl)
    | fail_if_no_progress (apply Keeps.updDict <;> try first | exact Or.inr (fpart (by decide +kernel) hfm) | exact Or.inl rfl)
    | refine Keeps.updRegs (rg := Tbl.filterK _ _) ?_ (Tbl.wf_filterK _) (Tbl.wf_filterK _)
    | refine Keeps.updRegs (rg := Tbl.filterK _ _) ?_ (Tbl.wf_filterK _) id
    | split
    | refine Keeps.of_snd (by assumption) ?_
    | refine Keeps.of_fst (by assumption) ?_
    | refine KeepsO.get (by assumption) ?_
    | refine KeepsP.get (by assumption) ?_
    | refine KeepsF.get (by assumption) ?_

theorem restore_keeps {fm : Nat} {r0 : State}  {s : State} {x : StartItem} (hfm : Mask.le 0x300801c002000000021f1200000a3970000008010000000000000000000000000000001400000080017c1900000000000030c8000000000000000000000000000000020000040977d20 fm = true) (h0 : Keeps fm r0 s)  : Keeps fm r0 (restore s x) := by
  unfold restore
  try lift_lets -underBinder
  with_reducible repeat' first | assumption | exact fpart (by decide +kernel) hfm | exact fle (by decide +kernel) hfm | exact fok (by decide +kernel) hfm | exact fall (by decide +kernel) hfm | exact fokIx (by decide +kernel) hfm | exact fokAll (by decide +kernel) hfm | refine Mask.ok_ite ?_ ?_ | refine faultsOf_ok ?_ ?_ | refine fun _ (_ : Keeps fm r0 _) => ?_ | (intro a; refine (fun ha : Keeps fm r0 a => ?_) ?_; clear_value a; rotate_left; dsimp only [a]; rotate_right) | (intro a; refine (fun hga : ∀ t, Keeps fm r0 t → Keeps fm r0 (a t) => ?_) ?_; clear_value a; rotate_left; dsimp only [a]; rotate_right) | apply hga | lift_lets -underBinder | apply Keeps.ite | apply lossOf_keeps | apply holdImage_keeps | apply restoreImage_keeps | apply wr_keeps | apply modPower_keeps | split

theorem beginStep9_keeps {fm : Nat} {r0 : State}  {s : State} (hfm : Mask.le 0x80000000000000000000000000000000000000000000000000000000000000000000000004000000000000000000000000000000000000000000000000000000000002c04000 fm = true) (h0 : Keeps fm r0 s)  : Keeps fm r0 (beginStep9 s) := by
  unfold beginStep9
  with_reducible repeat' first | assumption | exact fpart (by decide +kernel) hfm | exact fle (by decide +kernel) hfm | exact fok (by decide +kernel) hfm | exact fall (by decide +kernel) hfm | exact fokIx (by decide +kernel) hfm | exact fokAll (by decide +kernel) hfm | refine Mask.ok_ite ?_ ?_ | refine faultsOf_ok ?_ ?_ | refine fun _ _ (_ : Keeps fm r0 _) => ?_ | apply Keeps.ite | apply enableGroup_keeps | apply wr_keeps | apply Keeps.forRange

theorem autoOnline_keeps {fm : Nat} {r0 : State}  {s : State} (hfm : Mask.le 0x14000000000000000000000000000000000000000000000000000000000100020000040805020 fm = true) (h0 : Keeps fm r0 s)  : Keeps fm r0 (autoOnline s) := by
  unfold autoOnline
  with_reducible repeat' first | assumption | exact fpart (by decide +kernel) hfm | exact fle (by decide +kernel) hfm | exact fok (by decide +kernel) hfm | exact fall (by decide +kernel) hfm | exact fokIx (by decide +kernel) hfm | exact fokAll (by decide +kernel) hfm | refine Mask.ok_ite ?_ ?_ | refine faultsOf_ok ?_ ?_ | refine fun _ _ (_ : Keeps fm r0 _) => ?_ | apply Keeps.ite | apply startOnline_keeps | apply Keeps.forRange

theorem beginStep10_keeps {fm : Nat} {r0 : State}  {s : State} (hfm : Mask.le 0x14000000004000000000000000000000000000000000000000000000000100020000040805020 fm = true) (h0 : Keeps fm r0 s)  : Keeps fm r0 (beginStep10 s) := by
  unfold beginStep10
  with_reducible repeat' first | assumption | exact fpart (by decide +kernel) hfm | exact fle (by decide +kernel) hfm | exact fok (by decide +kernel) hfm | exact fall (by decide +kernel) hfm | exact fokIx (by decide +kernel) hfm | exact fokAll (by decide +kernel) hfm | refine Mask.ok_ite ?_ ?_ | refine faultsOf_ok ?_ ?_ | apply autoOnline_keeps | apply wr_keeps

theorem endStep10_keeps {fm : Nat} {r0 : State}  {s : State} (hfm : Mask.le 0xa000000000000000000000002c000000000000014000000004000000000000000000000000000000000000000000000000100020000040915020 fm = true) (h0 : Keeps fm r0 s)  : Keeps fm r0 (endStep10 s) := by
  unfold endStep10
  try lift_lets -underBinder
  with_reducible repeat' first | assumption | exact fpart (by decide +kernel) hfm | exact fle (by decide +kernel) hfm | exact fok (by decide +kernel) hfm | exact fall (by decide +kernel) hfm | exact fokIx (by decide +kernel) hfm | exact fokAll (by decide +kernel) hfm | refine Mask.ok_ite ?_ ?_ | refine faultsOf_ok ?_ ?_ | refine fun _ _ (_ : Keeps fm r0 _) => ?_ | (intro a; refine (fun ha : Keeps fm r0 a => ?_) ?_; clear_value a; rotate_left; dsimp only [a]; rotate_right) | lift_lets -underBinder | apply Keeps.ite | apply modPower_keeps | apply wr_keeps | apply startReload_keeps | apply startOnline_keeps | apply Keeps.forEach

theorem lossAck_keeps {fm : Nat} {r0 : State}  {s : State} (hfm : Mask.le 0x14000000000000000000000000000000000000000000000000000000000100020000040905020 fm = true) (h0 : Keeps fm r0 s)  : Keeps fm r0 (lossAck s) := by
  unfold lossAck
  try lift_lets -underBinder
  with_reducible repeat' first | assumption | exact fpart (by decide +kernel) hfm | exact fle (by decide +kernel) hfm | exact fok (by decide +kernel) hfm | exact fall (by decide +kernel) hfm | exact fokIx (by decide +kernel) hfm | exact fokAll (by decide +kernel) hfm | refine Mask.ok_ite ?_ ?_ | refine faultsOf_ok ?_ ?_ | (intro a; refine (fun ha : Keeps fm r0 a => ?_) ?_; clear_value a; rotate_left; dsimp only [a]; rotate_right) | lift_lets -underBinder | apply Keeps.ite | apply modPower_keeps | apply autoOnline_keeps

theorem execCisternRestoreLossAck_keeps {fm : Nat} {r0 : State}  {s : State} (hfm : Mask.le 0x14000000000000000000000000000000000000000000000000000000000100020000040905020 fm = true) (h0 : Keeps fm r0 s)  : ∃ t1, (execCisternRestoreLossAck s) = .next t1 ∧ Keeps fm r0 t1 := by
  refine ⟨_, rfl, ?_⟩
  with_reducible repeat' first | assumption | exact fpart (by decide +kernel) hfm | exact fle (by decide +kernel) hfm | exact fok (by decide +kernel) hfm | exact fall (by decide +kernel) hfm | exact fokIx (by decide +kernel) hfm | exact fokAll (by decide +kernel) hfm | refine Mask.ok_ite ?_ ?_ | refine faultsOf_ok ?_ ?_ | apply lossAck_keeps

theorem reachStep6_keeps {fm : Nat} {r0 : State}  {s : State} (hfm : Mask.le 0x20000000000000000000000000000000000000000004000000000000000000000000000000000000000000000000000000000000000000 fm = true) (h0 : Keeps fm r0 s)  : Keeps fm r0 (reachStep6 s) := by
  unfold reachStep6
  with_reducible repeat' first
    | assumption
    | exact fpart (by decide +kernel) hfm
    | exact fle (by decide +kernel) hfm
    | exact fok (by decide +kernel) hfm
    | exact fall (by decide +kernel) hfm
    | exact fokIx (by decide +kernel) hfm
    | exact fokAll (by decide +kernel) hfm
    | refine Mask.ok_ite ?_ ?_
    | refine faultsOf_ok ?_ ?_
    | refine fun _ (_ : Keeps fm r0 _) => ?_
    | refine fun _ _ (_ : Keeps fm r0 _) => ?_
    | refine fun _ _ _ (_ : Keeps fm r0 _) => ?_
    | exact KeepsO.get rfl (by assumption)
    | exact KeepsP.get rfl (by assumption)
    | apply Keeps.ite
    | apply wr_keeps
    | apply Keeps.forEach
    | apply Keeps.forRange
    | apply Keeps.foldl
    | apply Keeps.foldl_fst
    | apply Keeps.foldl_snd
    | exact KeepsO.none
    | exact KeepsP.none
    | apply KeepsO.some
    | apply KeepsP.some
    | apply KeepsO.ite
    | apply KeepsP.ite
    | refine KeepsO.foldl _ _ ?_ (fun _ _ _ => ?_)
    | exact KeepsF.lost
    | apply KeepsF.started
    | apply KeepsF.ite
    | fail_if_no_progress (apply Keeps.upd <;> try first | exact Or.inr (fpart (by decide +kernel) hfm) | exact Or.inl rfl)
    | fail_if_no_progress (apply Keeps.updDict <;> try first | exact Or.inr (fpart (by decide +kernel) hfm) | exact Or.inl rfl)
    | refine Keeps.updRegs (rg := Tbl.filterK _ _) ?_ (Tbl.wf_filterK _) (Tbl.wf_filterK _)
    | refine Keeps.updRegs (rg := Tbl.filterK _ _) ?_ (Tbl.wf_filterK _) id
    | split
    | refine Keeps.of_snd (by assumption) ?_
    | refine Keeps.of_fst (by assumption) ?_
    | refine KeepsO.get (by assumption) ?_
    | refine KeepsP.get (by assumption) ?_
    | refine KeepsF.get (by assumption) ?_

theorem readIlog_keeps {fm : Nat} {r0 : State}  {s : State} {x : StartItem} (hfm : Mask.le 0x4000000000000000000000000000000000000010000000000000000000000000000000000000000000000000000000000000000000000000000000000000000000000000000002000 fm = true) (h0 : Keeps fm r0 s)  : Keeps fm r0 (readIlog s x) := by
  unfold readIlog
  try lift_lets -underBinder
  with_reducible repeat' first
    | assumption
    | exact fpart (by decide +kernel) hfm
    | exact fle (by decide +kernel) hfm
    | exact fok (by decide +kernel) hfm
    | exact fall (by decide +kernel) hfm
    | exact fokIx (by decide +kernel) hfm
    | exact fokAll (by decide +kernel) hfm
    | refine Mask.ok_ite ?_ ?_
    | refine faultsOf_ok ?_ ?_
    | refine fun _ (_ : Keeps fm r0 _) => ?_
    | refine fun _ _ (_ : Keeps fm r0 _) => ?_
    | refine fun _ _ _ (_ : Keeps fm r0 _) => ?_
    | exact KeepsO.get rfl (by assumption)
    | exact KeepsP.get rfl (by assumption)
    | (intro a; refine (fun ha : Keeps fm r0 a => ?_) ?_; clear_value a; rotate_left; dsimp only [a]; rotate_right)
    | (intro a; refine (fun ha : Keeps fm r0 a.2 => ?_) ?_; clear_value a; rotate_left; dsimp only [a]; rotate_right)
    | (intro a; refine (fun ha : Keeps fm r0 a.1 => ?_) ?_; clear_value a; rotate_left; dsimp only [a]; rotate_right)
    | (intro a; refine (fun ha : KeepsO fm r0 a => ?_) ?_; clear_value a; rotate_left; dsimp only [a]; rotate_right)
    | (have _ := @hgb; intro a; refine (fun hgc : ∀ t, Keeps fm r0 t → Keeps fm r0 (a t) => ?_) ?_; clear_value a; rotate_left; dsimp only [a]; rotate_right)
    | (have _ := @hga; intro a; refine (fun hgb : ∀ t, Keeps fm r0 t → Keeps fm r0 (a t) => ?_) ?_; clear_value a; rotate_left; dsimp only [a]; rotate_right)
    | (intro a; refine (fun hga : ∀ t, Keeps fm r0 t → Keeps fm r0 (a t) => ?_) ?_; clear_value a; rotate_left; dsimp only [a]; rotate_right)
    | (have _ := @hgb; intro a; refine (fun hgc : ∀ x t, Keeps fm r0 t → Keeps fm r0 (a x t) => ?_) ?_; clear_value a; rotate_left; dsimp only [a]; rotate_right)
    | (have _ := @hga; intro a; refine (fun hgb : ∀ x t, Keeps fm r0 t → Keeps fm r0 (a x t) => ?_) ?_; clear_value a; rotate_left; dsimp only [a]; rotate_right)
    | (intro a; refine (fun hga : ∀ x t, Keeps fm r0 t → Keeps fm r0 (a x t) => ?_) ?_; clear_value a; rotate_left; dsimp only [a]; rotate_right)
    | (have _ := @hgb; intro a; refine (fun hgc : ∀ x y t, Keeps fm r0 t → Keeps fm r0 (a x y t) => ?_) ?_; clear_value a; rotate_left; dsimp only [a]; rotate_right)
    | (have _ := @hga; intro a; refine (fun hgb : ∀ x y t, Keeps fm r0 t → Keeps fm r0 (a x y t) => ?_) ?_; clear_value a; rotate_left; dsimp only [a]; rotate_right)
    | (intro a; refine (fun hga : ∀ x y t, Keeps fm r0 t → Keeps fm r0 (a x y t) => ?_) ?_; clear_value a; rotate_left; dsimp only [a]; rotate_right)
    | (have _ := @hgb; intro a; refine (fun hgc : ∀ t x, Keeps fm r0 t → Keeps fm r0 (a t x) => ?_) ?_; clear_value a; rotate_left; dsimp only [a]; rotate_right)
    | (have _ := @hga; intro a; refine (fun hgb : ∀ t x, Keeps fm r0 t → Keeps fm r0 (a t x) => ?_) ?_; clear_value a; rotate_left; dsimp only [a]; rotate_right)
    | (intro a; refine (fun hga : ∀ t x, Keeps fm r0 t → Keeps fm r0 (a t x) => ?_) ?_; clear_value a; rotate_left; dsimp only [a]; rotate_right)
    | (intro a; refine (fun (_ : a = (a : Dict)) => ?_) rfl; dsimp only [a])
    | (intro a; clear_value a)
    | apply hga
    | apply hgb
    | apply hgc
    | lift_lets -underBinder
    | apply Keeps.ite
    | apply noteIlog_keeps
    | apply setBist_keeps
    | apply Keeps.forEach
    | apply Keeps.forRange
    | apply Keeps.foldl
    | apply Keeps.foldl_fst
    | apply Keeps.foldl_snd
    | exact KeepsO.none
    | exact KeepsP.none
    | apply KeepsO.some
    | apply KeepsP.some
    | apply KeepsO.ite
    | apply KeepsP.ite
    | refine KeepsO.foldl _ _ ?_ (fun _ _ _ => ?_)
    | exact KeepsF.lost
    | apply KeepsF.started
    | apply KeepsF.ite
    | fail_if_no_progress (apply Keeps.upd <;> try first | exact Or.inr (fpart (by decide +kernel) hfm) | exact Or.inl rfl)
    | fail_if_no_progress (apply Keeps.updDict <;> try first | exact Or.inr (fpart (by decide +kernel) hfm) | exact Or.inl rfl)
    | refine Keeps.updRegs (rg := Tbl.filterK _ _) ?_ (Tbl.wf_filterK _) (Tbl.wf_filterK _)
    | refine Keeps.updRegs (rg := Tbl.filterK _ _) ?_ (Tbl.wf_filterK _) id
    | split
    | refine Keeps.of_snd (by assumption) ?_
    | refine Keeps.of_fst (by assumption) ?_
    | refine KeepsO.get (by assumption) ?_
    | refine KeepsP.get (by assumption) ?_
    | refine KeepsF.get (by assumption) ?_

theorem nextStep_keeps {fm : Nat} {r0 : State}  {s : State} {n : Nat} {x : StartItem} (hfm : Mask.le 0x1ffffffffffffffffffffffffffffffffffffffffffffffffffffffffffffffffffffffffffffffffffffffffffffffffffffffffffffffffffffffffffffffffffffffffffffffffffffffffffffffffffffffffffedfffea fm = true) (h0 : Keeps fm r0 s)  : Keeps fm r0 (nextStep s n x) := by
  unfold nextStep
  try lift_lets -underBinder
  with_reducible repeat' first | assumption | exact fpart (by decide +kernel) hfm | exact fle (by decide +kernel) hfm | exact fok (by decide +kernel) hfm | exact fall (by decide +kernel) hfm | exact fokIx (by decide +kernel) hfm | exact fokAll (by decide +kernel) hfm | refine Mask.ok_ite ?_ ?_ | refine faultsOf_ok ?_ ?_ | (intro a; refine (fun ha : Keeps fm r0 a => ?_) ?_; clear_value a; rotate_left; dsimp only [a]; rotate_right) | lift_lets -underBinder | apply Keeps.ite | apply wr_keeps | apply tryStart_keeps | apply modPower_keeps | apply readIlog_keeps | apply setPs_keeps | apply drive_keeps | apply wrB_keeps | apply reachStep6_keeps | apply bootFrom_keeps | apply replayConfig_keeps | apply failStep_keeps | apply endStep6_keeps | apply endStep7_keeps | apply beginStep9_keeps | apply restore_keeps | apply setBist_keeps | apply setDies_keeps | apply beginStep10_keeps | apply endStep10_keeps | split | fail_if_no_progress (apply Keeps.upd <;> try first | exact Or.inr (fpart (by decide +kernel) hfm) | exact Or.inl rfl)

theorem execStartupStepDone_keeps {fm : Nat} {r0 : State}  {ok : Bool} {x : StartItem} {s : State} (hfm : Mask.le 0x1ffffffffffffffffffffffffffffffffffffffffffffffffffffffffffffffffffffffffffffffffffffffffffffffffffffffffffffffffffffffffffffffffffffffffffffffffffffffffffffffffffffffffffedfffea fm = true) (h0 : Keeps fm r0 s)  : ∃ t1, (execStartupStepDone ok x s) = .next t1 ∧ Keeps fm r0 t1 := by
  refine ⟨_, rfl, ?_⟩
  try lift_lets -underBinder
  with_reducible repeat' first | assumption | exact fpart (by decide +kernel) hfm | exact fle (by decide +kernel) hfm | exact fok (by decide +kernel) hfm | exact fall (by decide +kernel) hfm | exact fokIx (by decide +kernel) hfm | exact fokAll (by decide +kernel) hfm | refine Mask.ok_ite ?_ ?_ | refine faultsOf_ok ?_ ?_ | (intro a; clear_value a) | lift_lets -underBinder | apply Keeps.ite | apply failStep_keeps | apply setBist_keeps | apply nextStep_keeps | apply noteTime_keeps

theorem execStartMemberWaitExpiry_keeps {fm : Nat} {r0 : State}  {s : State} (hfm : Mask.le 0x200000000000000000000000000000000014000000004000000000000000000000000000000000000000000000000100020000040805020 fm = true) (h0 : Keeps fm r0 s)  : ∃ t1, (execStartMemberWaitExpiry s) = .next t1 ∧ Keeps fm r0 t1 := by
  refine ⟨_, rfl, ?_⟩
  with_reducible repeat' first | assumption | exact fpart (by decide +kernel) hfm | exact fle (by decide +kernel) hfm | exact fok (by decide +kernel) hfm | exact fall (by decide +kernel) hfm | exact fokIx (by decide +kernel) hfm | exact fokAll (by decide +kernel) hfm | refine Mask.ok_ite ?_ ?_ | refine faultsOf_ok ?_ ?_ | apply Keeps.ite | apply beginStep10_keeps | apply noteTime_keeps

theorem fwUpdateSlot_keeps {fm : Nat} {r0 : State}  {s : State} {v : Nat} (hfm : Mask.le 0x20000000000000000000000000000000000000000000000000000000000000000000000000000000000000000000000000000000000000000000000000000 fm = true) (h0 : Keeps fm r0 s)  : Keeps fm r0 (fwUpdateSlot s v).2 := by
  unfold fwUpdateSlot
  with_reducible repeat' first | assumption | exact fpart (by decide +kernel) hfm | exact fle (by decide +kernel) hfm | exact fok (by decide +kernel) hfm | exact fall (by decide +kernel) hfm | exact fokIx (by decide +kernel) hfm | exact fokAll (by decide +kernel) hfm | refine Mask.ok_ite ?_ ?_ | refine faultsOf_ok ?_ ?_ | apply Keeps.ite_snd | apply wr_keeps

theorem execFwUpdateSlot_keeps {fm : Nat} {r0 : State}  {v : Nat} {s : State} (hfm : Mask.le 0x20000000000000000000000000000000000000000000000000000000000000000000000000000000000000000000000000000000000000000000000000000 fm = true) (h0 : Keeps fm r0 s)  : ∃ t1, (execFwUpdateSlot v s) = .next t1 ∧ Keeps fm r0 t1 := by
  refine ⟨_, rfl, ?_⟩
  with_reducible repeat' first | assumption | exact fpart (by decide +kernel) hfm | exact fle (by decide +kernel) hfm | exact fok (by decide +kernel) hfm | exact fall (by decide +kernel) hfm | exact fokIx (by decide +kernel) hfm | exact fokAll (by decide +kernel) hfm | refine Mask.ok_ite ?_ ?_ | refine faultsOf_ok ?_ ?_ | apply fwUpdateSlot_keeps

theorem fwErase_keeps {fm : Nat} {r0 : State}  {s : State} {slot : Nat} (hfm : Mask.le 0x3c00000000000000000000000000000000000000000000000000000000000000000000000000100000 fm = true) (h0 : Keeps fm r0 s)  : Keeps fm r0 (fwErase s slot).2 := by
  unfold fwErase
  try lift_lets -underBinder
  with_reducible repeat' first | assumption | exact fpart (by decide +kernel) hfm | exact fle (by decide +kernel) hfm | exact fok (by decide +kernel) hfm | exact fall (by decide +kernel) hfm | exact fokIx (by decide +kernel) hfm | exact fokAll (by decide +kernel) hfm | refine Mask.ok_ite ?_ ?_ | refine faultsOf_ok ?_ ?_ | (intro a; refine (fun ha : Keeps fm r0 a => ?_) ?_; clear_value a; rotate_left; dsimp only [a]; rotate_right) | lift_lets -underBinder | apply Keeps.ite_snd | apply modPower_keeps | apply wr_keeps | apply wrBytes_keeps

theorem execFwSlotErase_keeps {fm : Nat} {r0 : State}  {slot : Nat} {s : State} (hfm : Mask.le 0x3c00000000000000000000000000000000000000000000000000000000000000000000000000100000 fm = true) (h0 : Keeps fm r0 s)  : ∃ t1, (execFwSlotErase slot s) = .next t1 ∧ Keeps fm r0 t1 := by
  refine ⟨_, rfl, ?_⟩
  with_reducible repeat' first | assumption | exact fpart (by decide +kernel) hfm | exact fle (by decide +kernel) hfm | exact fok (by decide +kernel) hfm | exact fall (by decide +kernel) hfm | exact fokIx (by decide +kernel) hfm | exact fokAll (by decide +kernel) hfm | refine Mask.ok_ite ?_ ?_ | refine faultsOf_ok ?_ ?_ | apply Keeps.ite | apply fwErase_keeps

theorem fwData_keeps {fm : Nat} {r0 : State}  {s : State} {i : Nat} {data : Bytes} (hfm : Mask.le 0x400000000000000000000000000000000000000000000000000000000000000000000000000100000 fm = true) (h0 : Keeps fm r0 s)  : Keeps fm r0 (fwData s i data).2 := by
  unfold fwData
  try lift_lets -underBinder
  with_reducible repeat' first | assumption | exact fpart (by decide +kernel) hfm | exact fle (by decide +kernel) hfm | exact fok (by decide +kernel) hfm | exact fall (by decide +kernel) hfm | exact fokIx (by decide +kernel) hfm | exact fokAll (by decide +kernel) hfm | refine Mask.ok_ite ?_ ?_ | refine faultsOf_ok ?_ ?_ | (intro a; clear_value a) | lift_lets -underBinder | apply Keeps.ite_snd | apply wr_keeps | apply modPower_keeps

theorem execFwSlotData_keeps {fm : Nat} {r0 : State}  {i : Nat} {data : Bytes} {s : State} (hfm : Mask.le 0x400000000000000000000000000000000000000000000000000000000000000000000000000100000 fm = true) (h0 : Keeps fm r0 s)  : ∃ t1, (execFwSlotData i data s) = .next t1 ∧ Keeps fm r0 t1 := by
  refine ⟨_, rfl, ?_⟩
  with_reducible repeat' first | assumption | exact fpart (by decide +kernel) hfm | exact fle (by decide +kernel) hfm | exact fok (by decide +kernel) hfm | exact fall (by decide +kernel) hfm | exact fokIx (by decide +kernel) hfm | exact fokAll (by decide +kernel) hfm | refine Mask.ok_ite ?_ ?_ | refine faultsOf_ok ?_ ?_ | apply Keeps.ite | apply fwData_keeps

theorem fwVerify_keeps {fm : Nat} {r0 : State}  {s : State} {slot : Nat} {x : FwImage} (hfm : Mask.le 0x1000000000000100000000000000000000000000013c00000000000000000000000000000000000000000000000000000000000000000000000000000000 fm = true) (h0 : Keeps fm r0 s)  : Keeps fm r0 (fwVerify s slot x).2 := by
  unfold fwVerify
  try lift_lets -underBinder
  with_reducible repeat' first | assumption | exact fpart (by decide +kernel) hfm | exact fle (by decide +kernel) hfm | exact fok (by decide +kernel) hfm | exact fall (by decide +kernel) hfm | exact fokIx (by decide +kernel) hfm | exact fokAll (by decide +kernel) hfm | refine Mask.ok_ite ?_ ?_ | refine faultsOf_ok ?_ ?_ | (intro a; refine (fun ha : Keeps fm r0 a => ?_) ?_; clear_value a; rotate_left; dsimp only [a]; rotate_right) | (intro a; clear_value a) | lift_lets -underBinder | apply Keeps.ite | apply Keeps.ite_snd | apply wr_keeps | apply slotHeader_keeps

theorem execFwSlotVerify_keeps {fm : Nat} {r0 : State}  {slot : Nat} {auth : FwAuth} {version : Bytes} {compat : Nat} {svn : Nat} {s : State} (hfm : Mask.le 0x1000000000000100000000000000000000000000013c00000000000000000000000000000000000000000000000000000000000000000000000000000000 fm = true) (h0 : Keeps fm r0 s)  : ∃ t1, (execFwSlotVerify slot auth version compat svn s) = .next t1 ∧ Keeps fm r0 t1 := by
  refine ⟨_, rfl, ?_⟩
  with_reducible repeat' first | assumption | exact fpart (by decide +kernel) hfm | exact fle (by decide +kernel) hfm | exact fok (by decide +kernel) hfm | exact fall (by decide +kernel) hfm | exact fokIx (by decide +kernel) hfm | exact fokAll (by decide +kernel) hfm | refine Mask.ok_ite ?_ ?_ | refine faultsOf_ok ?_ ?_ | apply Keeps.ite | apply fwVerify_keeps

theorem preferSlot_keeps {fm : Nat} {r0 : State}  {s : State} {v : Nat} (hfm : Mask.le 0x1000000000000000000000000000000000000000000000000000000000000000000000000000000000000000000000000000000000000000000000000000 fm = true) (h0 : Keeps fm r0 s)  : Keeps fm r0 (preferSlot s v).2 := by
  unfold preferSlot
  with_reducible repeat' first | assumption | exact fpart (by decide +kernel) hfm | exact fle (by decide +kernel) hfm | exact fok (by decide +kernel) hfm | exact fall (by decide +kernel) hfm | exact fokIx (by decide +kernel) hfm | exact fokAll (by decide +kernel) hfm | refine Mask.ok_ite ?_ ?_ | refine faultsOf_ok ?_ ?_ | apply Keeps.ite_snd | apply wr_keeps

theorem execBootSlotPreferred_keeps {fm : Nat} {r0 : State}  {v : Nat} {s : State} (hfm : Mask.le 0x1000000000000000000000000000000000000000000000000000000000000000000000000000000000000000000000000000000000000000000000000000 fm = true) (h0 : Keeps fm r0 s)  : ∃ t1, (execBootSlotPreferred v s) = .next t1 ∧ Keeps fm r0 t1 := by
  refine ⟨_, rfl, ?_⟩
  with_reducible repeat' first | assumption | exact fpart (by decide +kernel) hfm | exact fle (by decide +kernel) hfm | exact fok (by decide +kernel) hfm | exact fall (by decide +kernel) hfm | exact fokIx (by decide +kernel) hfm | exact fokAll (by decide +kernel) hfm | refine Mask.ok_ite ?_ ?_ | refine faultsOf_ok ?_ ?_ | apply preferSlot_keeps

theorem svnCommit_keeps {fm : Nat} {r0 : State}  {s : State} {v : Nat} (hfm : Mask.le 0x8000000000000000000000000000000000000000000000000000000000000000000000000000000000000000000000000000000000000000000000000000 fm = true) (h0 : Keeps fm r0 s)  : Keeps fm r0 (svnCommit s v).2 := by
  unfold svnCommit
  with_reducible repeat' first | assumption | exact fpart (by decide +kernel) hfm | exact fle (by decide +kernel) hfm | exact fok (by decide +kernel) hfm | exact fall (by decide +kernel) hfm | exact fokIx (by decide +kernel) hfm | exact fokAll (by decide +kernel) hfm | refine Mask.ok_ite ?_ ?_ | refine faultsOf_ok ?_ ?_ | apply Keeps.ite_snd | apply wr_keeps

theorem execFwSvnCommit_keeps {fm : Nat} {r0 : State}  {v : Nat} {s : State} (hfm : Mask.le 0x8000000000000000000000000000000000000000000000000000000000000000000000000000000000000000000000000000000000000000000000000000 fm = true) (h0 : Keeps fm r0 s)  : ∃ t1, (execFwSvnCommit v s) = .next t1 ∧ Keeps fm r0 t1 := by
  refine ⟨_, rfl, ?_⟩
  with_reducible repeat' first | assumption | exact fpart (by decide +kernel) hfm | exact fle (by decide +kernel) hfm | exact fok (by decide +kernel) hfm | exact fall (by decide +kernel) hfm | exact fokIx (by decide +kernel) hfm | exact fokAll (by decide +kernel) hfm | refine Mask.ok_ite ?_ ?_ | refine faultsOf_ok ?_ ?_ | apply svnCommit_keeps

/-! ## TestOps -/

theorem testOp_keeps {fm : Nat} {r0 : State}  {s : State} {op : Nat} (hfm : Mask.le 0x780000000000000000000000000000000000000000000000000000000000000000000000000000000000000000000000110000 fm = true) (h0 : Keeps fm r0 s)  : Keeps fm r0 (testOp s op).2 := by
  unfold testOp
  try lift_lets -underBinder
  with_reducible repeat' first | assumption | exact fpart (by decide +kernel) hfm | exact fle (by decide +kernel) hfm | exact fok (by decide +kernel) hfm | exact fall (by decide +kernel) hfm | exact fokIx (by decide +kernel) hfm | exact fokAll (by decide +kernel) hfm | refine Mask.ok_ite ?_ ?_ | refine faultsOf_ok ?_ ?_ | (intro a; refine (fun ha : Keeps fm r0 a => ?_) ?_; clear_value a; rotate_left; dsimp only [a]; rotate_right) | (intro a; clear_value a) | lift_lets -underBinder | apply Keeps.ite | apply Keeps.ite_snd | apply wr_keeps | apply wrBytes_keeps | apply modPower_keeps | fail_if_no_progress (apply Keeps.upd <;> try first | exact Or.inr (fpart (by decide +kernel) hfm) | exact Or.inl rfl)

theorem execHostPrbs_keeps {fm : Nat} {r0 : State}  {s : State} (hfm : Mask.le 0x780000000000000000000000000000000000000000000000000000000000000000000000000000000000000000000000110000 fm = true) (h0 : Keeps fm r0 s)  : ∃ t1, (execHostPrbs s) = .next t1 ∧ Keeps fm r0 t1 := by
  refine ⟨_, rfl, ?_⟩
  with_reducible repeat' first | assumption | exact fpart (by decide +kernel) hfm | exact fle (by decide +kernel) hfm | exact fok (by decide +kernel) hfm | exact fall (by decide +kernel) hfm | exact fokIx (by decide +kernel) hfm | exact fokAll (by decide +kernel) hfm | refine Mask.ok_ite ?_ ?_ | refine faultsOf_ok ?_ ?_ | apply testOp_keeps

theorem execDrivePrbs_keeps {fm : Nat} {r0 : State}  {s : State} (hfm : Mask.le 0x780000000000000000000000000000000000000000000000000000000000000000000000000000000000000000000000110000 fm = true) (h0 : Keeps fm r0 s)  : ∃ t1, (execDrivePrbs s) = .next t1 ∧ Keeps fm r0 t1 := by
  refine ⟨_, rfl, ?_⟩
  with_reducible repeat' first | assumption | exact fpart (by decide +kernel) hfm | exact fle (by decide +kernel) hfm | exact fok (by decide +kernel) hfm | exact fall (by decide +kernel) hfm | exact fokIx (by decide +kernel) hfm | exact fokAll (by decide +kernel) hfm | refine Mask.ok_ite ?_ ?_ | refine faultsOf_ok ?_ ?_ | apply testOp_keeps

theorem execCulvertPrbs_keeps {fm : Nat} {r0 : State}  {s : State} (hfm : Mask.le 0x780000000000000000000000000000000000000000000000000000000000000000000000000000000000000000000000110000 fm = true) (h0 : Keeps fm r0 s)  : ∃ t1, (execCulvertPrbs s) = .next t1 ∧ Keeps fm r0 t1 := by
  refine ⟨_, rfl, ?_⟩
  with_reducible repeat' first | assumption | exact fpart (by decide +kernel) hfm | exact fle (by decide +kernel) hfm | exact fok (by decide +kernel) hfm | exact fall (by decide +kernel) hfm | exact fokIx (by decide +kernel) hfm | exact fokAll (by decide +kernel) hfm | refine Mask.ok_ite ?_ ?_ | refine faultsOf_ok ?_ ?_ | apply testOp_keeps

theorem execCulvertLoopback_keeps {fm : Nat} {r0 : State}  {s : State} (hfm : Mask.le 0x780000000000000000000000000000000000000000000000000000000000000000000000000000000000000000000000110000 fm = true) (h0 : Keeps fm r0 s)  : ∃ t1, (execCulvertLoopback s) = .next t1 ∧ Keeps fm r0 t1 := by
  refine ⟨_, rfl, ?_⟩
  with_reducible repeat' first | assumption | exact fpart (by decide +kernel) hfm | exact fle (by decide +kernel) hfm | exact fok (by decide +kernel) hfm | exact fall (by decide +kernel) hfm | exact fokIx (by decide +kernel) hfm | exact fokAll (by decide +kernel) hfm | refine Mask.ok_ite ?_ ?_ | refine faultsOf_ok ?_ ?_ | apply testOp_keeps

theorem execHbmPattern_keeps {fm : Nat} {r0 : State}  {s : State} (hfm : Mask.le 0x780000000000000000000000000000000000000000000000000000000000000000000000000000000000000000000000110000 fm = true) (h0 : Keeps fm r0 s)  : ∃ t1, (execHbmPattern s) = .next t1 ∧ Keeps fm r0 t1 := by
  refine ⟨_, rfl, ?_⟩
  with_reducible repeat' first | assumption | exact fpart (by decide +kernel) hfm | exact fle (by decide +kernel) hfm | exact fok (by decide +kernel) hfm | exact fall (by decide +kernel) hfm | exact fokIx (by decide +kernel) hfm | exact fokAll (by decide +kernel) hfm | refine Mask.ok_ite ?_ ?_ | refine faultsOf_ok ?_ ?_ | apply testOp_keeps

theorem execCisternSelftest_keeps {fm : Nat} {r0 : State}  {s : State} (hfm : Mask.le 0x780000000000000000000000000000000000000000000000000000000000000000000000000000000000000000000000110000 fm = true) (h0 : Keeps fm r0 s)  : ∃ t1, (execCisternSelftest s) = .next t1 ∧ Keeps fm r0 t1 := by
  refine ⟨_, rfl, ?_⟩
  with_reducible repeat' first | assumption | exact fpart (by decide +kernel) hfm | exact fle (by decide +kernel) hfm | exact fok (by decide +kernel) hfm | exact fall (by decide +kernel) hfm | exact fokIx (by decide +kernel) hfm | exact fokAll (by decide +kernel) hfm | refine Mask.ok_ite ?_ ?_ | refine faultsOf_ok ?_ ?_ | apply testOp_keeps

theorem endTest_keeps {fm : Nat} {r0 : State}  {s : State} {st : Nat} {x : TestItem} (hfm : Mask.le 0x3008000000000000001f0000000a3900000000000000078000000000000000000000001400000000017c190000000000000038000000000000000000000000000000020000040945920 fm = true) (h0 : Keeps fm r0 s)  : Keeps fm r0 (endTest s st x) := by
  unfold endTest
  try lift_lets -underBinder
  with_reducible repeat' first | assumption | exact fpart (by decide +kernel) hfm | exact fle (by decide +kernel) hfm | exact fok (by decide +kernel) hfm | exact fall (by decide +kernel) hfm | exact fokIx (by decide +kernel) hfm | exact fokAll (by decide +kernel) hfm | refine Mask.ok_ite ?_ ?_ | refine faultsOf_ok ?_ ?_ | (intro a; refine (fun ha : Keeps fm r0 a => ?_) ?_; clear_value a; rotate_left; dsimp only [a]; rotate_right) | lift_lets -underBinder | apply Keeps.ite | apply wrBytes_keeps | apply wr_keeps | apply modPower_keeps | apply setDies_keeps | split

theorem execTestStop_keeps {fm : Nat} {r0 : State}  {x : TestItem} {s : State} (hfm : Mask.le 0x3008000000000000001f0000000a3900000000000000078000000000000000000000001400000000017c190000000000000038000000000000000000000000000000020000040945920 fm = true) (h0 : Keeps fm r0 s)  : ∃ t1, (execTestStop x s) = .next t1 ∧ Keeps fm r0 t1 := by
  refine ⟨_, rfl, ?_⟩
  with_reducible repeat' first | assumption | exact fpart (by decide +kernel) hfm | exact fle (by decide +kernel) hfm | exact fok (by decide +kernel) hfm | exact fall (by decide +kernel) hfm | exact fokIx (by decide +kernel) hfm | exact fokAll (by decide +kernel) hfm | refine Mask.ok_ite ?_ ?_ | refine faultsOf_ok ?_ ?_ | apply endTest_keeps

theorem execTestDurationExpiry_keeps {fm : Nat} {r0 : State}  {x : TestItem} {s : State} (hfm : Mask.le 0x3008000000000000001f0000000a3900000000000000078000000000000000000000001400000000017c190000000000000038000000000000000000000000000000020000040945920 fm = true) (h0 : Keeps fm r0 s)  : ∃ t1, (execTestDurationExpiry x s) = .next t1 ∧ Keeps fm r0 t1 := by
  refine ⟨_, rfl, ?_⟩
  with_reducible repeat' first | assumption | exact fpart (by decide +kernel) hfm | exact fle (by decide +kernel) hfm | exact fok (by decide +kernel) hfm | exact fall (by decide +kernel) hfm | exact fokIx (by decide +kernel) hfm | exact fokAll (by decide +kernel) hfm | refine Mask.ok_ite ?_ ?_ | refine faultsOf_ok ?_ ?_ | apply endTest_keeps

theorem execTestConditionLost_keeps {fm : Nat} {r0 : State}  {x : TestItem} {s : State} (hfm : Mask.le 0x3008000000000000001f0000000a3900000000000000078000000000000000000000001400000000017c190000000000000038000000000000000000000000000000020000040945920 fm = true) (h0 : Keeps fm r0 s)  : ∃ t1, (execTestConditionLost x s) = .next t1 ∧ Keeps fm r0 t1 := by
  refine ⟨_, rfl, ?_⟩
  with_reducible repeat' first | assumption | exact fpart (by decide +kernel) hfm | exact fle (by decide +kernel) hfm | exact fok (by decide +kernel) hfm | exact fall (by decide +kernel) hfm | exact fokIx (by decide +kernel) hfm | exact fokAll (by decide +kernel) hfm | refine Mask.ok_ite ?_ ?_ | refine faultsOf_ok ?_ ?_ | apply endTest_keeps

theorem execJtagInstruction_keeps {fm : Nat} {r0 : State}  {op : JtagOp} {s : State} (hfm : Mask.le 0x100000 fm = true) (h0 : Keeps fm r0 s)  : ∃ t1, (execJtagInstruction op s) = .next t1 ∧ Keeps fm r0 t1 := by
  refine ⟨_, rfl, ?_⟩
  with_reducible repeat' first | assumption | exact fpart (by decide +kernel) hfm | exact fle (by decide +kernel) hfm | exact fok (by decide +kernel) hfm | exact fall (by decide +kernel) hfm | exact fokIx (by decide +kernel) hfm | exact fokAll (by decide +kernel) hfm | refine Mask.ok_ite ?_ ?_ | refine faultsOf_ok ?_ ?_ | apply modPower_keeps

/-! ## Format -/

theorem startOp_keeps {fm : Nat} {r0 : State}  {s : State} {v : Nat} {p : Nat} {kind : Nat} {q : Nat} {tag : Nat} (hfm : Mask.le 0x200 fm = true) (h0 : Keeps fm r0 s)  : Keeps fm r0 (startOp s v p kind q tag) := by
  unfold startOp
  with_reducible repeat' first | assumption | exact fpart (by decide +kernel) hfm | exact fle (by decide +kernel) hfm | exact fok (by decide +kernel) hfm | exact fall (by decide +kernel) hfm | exact fokIx (by decide +kernel) hfm | exact fokAll (by decide +kernel) hfm | refine Mask.ok_ite ?_ ?_ | refine faultsOf_ok ?_ ?_ | apply modVol_keeps

theorem volCommand_keeps {fm : Nat} {r0 : State}  {s : State} {q : Nat} {c : Cmd} {kind : Nat} (hfm : Mask.le 0x2c0 fm = true) (h0 : Keeps fm r0 s)  : Keeps fm r0 (volCommand s q c kind) := by
  unfold volCommand
  with_reducible repeat' first | assumption | exact fpart (by decide +kernel) hfm | exact fle (by decide +kernel) hfm | exact fok (by decide +kernel) hfm | exact fall (by decide +kernel) hfm | exact fokIx (by decide +kernel) hfm | exact fokAll (by decide +kernel) hfm | refine Mask.ok_ite ?_ ?_ | refine faultsOf_ok ?_ ?_ | apply Keeps.ite | apply finish_keeps | apply startOp_keeps | apply modCmd_keeps | apply modOp_keeps | split

theorem execSanitize_keeps {fm : Nat} {r0 : State}  {q : Nat} {tag : Nat} {s : State} (hfm : Mask.le 0x2c0 fm = true) (h0 : Keeps fm r0 s)  : ∃ t1, (execSanitize q tag s) = .next t1 ∧ Keeps fm r0 t1 := by
  refine ⟨_, rfl, ?_⟩
  with_reducible repeat' first | assumption | exact fpart (by decide +kernel) hfm | exact fle (by decide +kernel) hfm | exact fok (by decide +kernel) hfm | exact fall (by decide +kernel) hfm | exact fokIx (by decide +kernel) hfm | exact fokAll (by decide +kernel) hfm | refine Mask.ok_ite ?_ ?_ | refine faultsOf_ok ?_ ?_ | apply volCommand_keeps | split

theorem execFormat_keeps {fm : Nat} {r0 : State}  {q : Nat} {tag : Nat} {s : State} (hfm : Mask.le 0x2c0 fm = true) (h0 : Keeps fm r0 s)  : ∃ t1, (execFormat q tag s) = .next t1 ∧ Keeps fm r0 t1 := by
  refine ⟨_, rfl, ?_⟩
  with_reducible repeat' first | assumption | exact fpart (by decide +kernel) hfm | exact fle (by decide +kernel) hfm | exact fok (by decide +kernel) hfm | exact fall (by decide +kernel) hfm | exact fokIx (by decide +kernel) hfm | exact fokAll (by decide +kernel) hfm | refine Mask.ok_ite ?_ ?_ | refine faultsOf_ok ?_ ?_ | apply volCommand_keeps | split

theorem emptyStart_keeps {fm : Nat} {r0 : State}  {s : State} {v : Nat} {x : VolOp} (hfm : Mask.le 0x100000000000000000000000000000000000000000000000000000000000000000000000000000000000000000000000000000002220 fm = true) (h0 : Keeps fm r0 s)  : Keeps fm r0 (emptyStart s v x) := by
  unfold emptyStart
  with_reducible repeat' first
    | assumption
    | exact fpart (by decide +kernel) hfm
    | exact fle (by decide +kernel) hfm
    | exact fok (by decide +kernel) hfm
    | exact fall (by decide +kernel) hfm
    | exact fokIx (by decide +kernel) hfm
    | exact fokAll (by decide +kernel) hfm
    | refine Mask.ok_ite ?_ ?_
    | refine faultsOf_ok ?_ ?_
    | refine fun _ (_ : Keeps fm r0 _) => ?_
    | refine fun _ _ (_ : Keeps fm r0 _) => ?_
    | refine fun _ _ _ (_ : Keeps fm r0 _) => ?_
    | exact KeepsO.get rfl (by assumption)
    | exact KeepsP.get rfl (by assumption)
    | apply Keeps.ite
    | apply logRec_keeps
    | apply modOp_keeps
    | apply step_keeps
    | apply Keeps.forEach
    | apply Keeps.forRange
    | apply Keeps.foldl
    | apply Keeps.foldl_fst
    | apply Keeps.foldl_snd
    | exact KeepsO.none
    | exact KeepsP.none
    | apply KeepsO.some
    | apply KeepsP.some
    | apply KeepsO.ite
    | apply KeepsP.ite
    | refine KeepsO.foldl _ _ ?_ (fun _ _ _ => ?_)
    | exact KeepsF.lost
    | apply KeepsF.started
    | apply KeepsF.ite
    | fail_if_no_progress (apply Keeps.upd <;> try first | exact Or.inr (fpart (by decide +kernel) hfm) | exact Or.inl rfl)
    | fail_if_no_progress (apply Keeps.updDict <;> try first | exact Or.inr (fpart (by decide +kernel) hfm) | exact Or.inl rfl)
    | refine Keeps.updRegs (rg := Tbl.filterK _ _) ?_ (Tbl.wf_filterK _) (Tbl.wf_filterK _)
    | refine Keeps.updRegs (rg := Tbl.filterK _ _) ?_ (Tbl.wf_filterK _) id
    | split
    | refine Keeps.of_snd (by assumption) ?_
    | refine Keeps.of_fst (by assumption) ?_
    | refine KeepsO.get (by assumption) ?_
    | refine KeepsP.get (by assumption) ?_
    | refine KeepsF.get (by assumption) ?_

theorem emptyEnd_keeps {fm : Nat} {r0 : State}  {s : State} {v : Nat} {x : VolOp} (hfm : Mask.le 0x1c0020000000000020000000006000000010000000000000000000000000000000000000080000000000000000000000000000000000000000000000000000000000000003b620 fm = true) (h0 : Keeps fm r0 s)  : Keeps fm r0 (emptyEnd s v x) := by
  unfold emptyEnd
  try lift_lets -underBinder
  with_reducible repeat' first
    | assumption
    | exact fpart (by decide +kernel) hfm
    | exact fle (by decide +kernel) hfm
    | exact fok (by decide +kernel) hfm
    | exact fall (by decide +kernel) hfm
    | exact fokIx (by decide +kernel) hfm
    | exact fokAll (by decide +kernel) hfm
    | refine Mask.ok_ite ?_ ?_
    | refine faultsOf_ok ?_ ?_
    | refine fun _ (_ : Keeps fm r0 _) => ?_
    | refine fun _ _ (_ : Keeps fm r0 _) => ?_
    | refine fun _ _ _ (_ : Keeps fm r0 _) => ?_
    | exact KeepsO.get rfl (by assumption)
    | exact KeepsP.get rfl (by assumption)
    | (intro a; refine (fun ha : Keeps fm r0 a => ?_) ?_; clear_value a; rotate_left; dsimp only [a]; rotate_right)
    | (intro a; refine (fun ha : Keeps fm r0 a.2 => ?_) ?_; clear_value a; rotate_left; dsimp only [a]; rotate_right)
    | (intro a; refine (fun ha : Keeps fm r0 a.1 => ?_) ?_; clear_value a; rotate_left; dsimp only [a]; rotate_right)
    | (intro a; refine (fun ha : KeepsO fm r0 a => ?_) ?_; clear_value a; rotate_left; dsimp only [a]; rotate_right)
    | (have _ := @hgb; intro a; refine (fun hgc : ∀ t, Keeps fm r0 t → Keeps fm r0 (a t) => ?_) ?_; clear_value a; rotate_left; dsimp only [a]; rotate_right)
    | (have _ := @hga; intro a; refine (fun hgb : ∀ t, Keeps fm r0 t → Keeps fm r0 (a t) => ?_) ?_; clear_value a; rotate_left; dsimp only [a]; rotate_right)
    | (intro a; refine (fun hga : ∀ t, Keeps fm r0 t → Keeps fm r0 (a t) => ?_) ?_; clear_value a; rotate_left; dsimp only [a]; rotate_right)
    | (have _ := @hgb; intro a; refine (fun hgc : ∀ x t, Keeps fm r0 t → Keeps fm r0 (a x t) => ?_) ?_; clear_value a; rotate_left; dsimp only [a]; rotate_right)
    | (have _ := @hga; intro a; refine (fun hgb : ∀ x t, Keeps fm r0 t → Keeps fm r0 (a x t) => ?_) ?_; clear_value a; rotate_left; dsimp only [a]; rotate_right)
    | (intro a; refine (fun hga : ∀ x t, Keeps fm r0 t → Keeps fm r0 (a x t) => ?_) ?_; clear_value a; rotate_left; dsimp only [a]; rotate_right)
    | (have _ := @hgb; intro a; refine (fun hgc : ∀ x y t, Keeps fm r0 t → Keeps fm r0 (a x y t) => ?_) ?_; clear_value a; rotate_left; dsimp only [a]; rotate_right)
    | (have _ := @hga; intro a; refine (fun hgb : ∀ x y t, Keeps fm r0 t → Keeps fm r0 (a x y t) => ?_) ?_; clear_value a; rotate_left; dsimp only [a]; rotate_right)
    | (intro a; refine (fun hga : ∀ x y t, Keeps fm r0 t → Keeps fm r0 (a x y t) => ?_) ?_; clear_value a; rotate_left; dsimp only [a]; rotate_right)
    | (have _ := @hgb; intro a; refine (fun hgc : ∀ t x, Keeps fm r0 t → Keeps fm r0 (a t x) => ?_) ?_; clear_value a; rotate_left; dsimp only [a]; rotate_right)
    | (have _ := @hga; intro a; refine (fun hgb : ∀ t x, Keeps fm r0 t → Keeps fm r0 (a t x) => ?_) ?_; clear_value a; rotate_left; dsimp only [a]; rotate_right)
    | (intro a; refine (fun hga : ∀ t x, Keeps fm r0 t → Keeps fm r0 (a t x) => ?_) ?_; clear_value a; rotate_left; dsimp only [a]; rotate_right)
    | (intro a; refine (fun (_ : a = (a : Dict)) => ?_) rfl; dsimp only [a])
    | (intro a; clear_value a)
    | apply hga
    | apply hgb
    | apply hgc
    | lift_lets -underBinder
    | apply Keeps.ite
    | apply applyDealloc_keeps
    | apply dropCopies_keeps
    | apply disownVolume_keeps
    | apply endRanges_keeps
    | apply discardFrames_keeps
    | apply dropLost_keeps
    | apply logRec_keeps
    | apply modOp_keeps
    | apply step_keeps
    | apply Keeps.forEach
    | apply Keeps.forRange
    | apply Keeps.foldl
    | apply Keeps.foldl_fst
    | apply Keeps.foldl_snd
    | exact KeepsO.none
    | exact KeepsP.none
    | apply KeepsO.some
    | apply KeepsP.some
    | apply KeepsO.ite
    | apply KeepsP.ite
    | refine KeepsO.foldl _ _ ?_ (fun _ _ _ => ?_)
    | exact KeepsF.lost
    | apply KeepsF.started
    | apply KeepsF.ite
    | fail_if_no_progress (apply Keeps.upd <;> try first | exact Or.inr (fpart (by decide +kernel) hfm) | exact Or.inl rfl)
    | fail_if_no_progress (apply Keeps.updDict <;> try first | exact Or.inr (fpart (by decide +kernel) hfm) | exact Or.inl rfl)
    | refine Keeps.updRegs (rg := Tbl.filterK _ _) ?_ (Tbl.wf_filterK _) (Tbl.wf_filterK _)
    | refine Keeps.updRegs (rg := Tbl.filterK _ _) ?_ (Tbl.wf_filterK _) id
    | split
    | refine Keeps.of_snd (by assumption) ?_
    | refine Keeps.of_fst (by assumption) ?_
    | refine KeepsO.get (by assumption) ?_
    | refine KeepsP.get (by assumption) ?_
    | refine KeepsF.get (by assumption) ?_

theorem beginSweep_keeps {fm : Nat} {r0 : State}  {s : State} {v : Nat} {p : Nat} (hfm : Mask.le 0x1f0000000000000000000100000000000000000000000000000014000000000000190000000000000000000000000000000000000000000000020000040847a20 fm = true) (h0 : Keeps fm r0 s)  : Keeps fm r0 (beginSweep s v p) := by
  unfold beginSweep
  try lift_lets -underBinder
  with_reducible repeat' first | assumption | exact fpart (by decide +kernel) hfm | exact fle (by decide +kernel) hfm | exact fok (by decide +kernel) hfm | exact fall (by decide +kernel) hfm | exact fokIx (by decide +kernel) hfm | exact fokAll (by decide +kernel) hfm | refine Mask.ok_ite ?_ ?_ | refine faultsOf_ok ?_ ?_ | (intro a; refine (fun ha : Keeps fm r0 a => ?_) ?_; clear_value a; rotate_left; dsimp only [a]; rotate_right) | (intro a; clear_value a) | lift_lets -underBinder | apply sealLanes_keeps | apply logRec_keeps | apply modOp_keeps | apply step_keeps

theorem opDurable_keeps {fm : Nat} {r0 : State}  {s : State} {r : LogRec} (hfm : Mask.le 0x1c002000000001f020000000006000000010000000000000000000000000000001400000080000019000000000000000000000000000000000000000000000002000004087fee0 fm = true) (h0 : Keeps fm r0 s)  : Keeps fm r0 (opDurable s r) := by
  unfold opDurable
  with_reducible repeat' first | assumption | exact fpart (by decide +kernel) hfm | exact fle (by decide +kernel) hfm | exact fok (by decide +kernel) hfm | exact fall (by decide +kernel) hfm | exact fokIx (by decide +kernel) hfm | exact fokAll (by decide +kernel) hfm | refine Mask.ok_ite ?_ ?_ | refine faultsOf_ok ?_ ?_ | apply Keeps.ite | apply emptyStart_keeps | apply finishOp_keeps | apply beginSweep_keeps | apply requestCkpt_keeps | apply modOp_keeps | apply emptyEnd_keeps | split

theorem execIlogRecordDurable_keeps {fm : Nat} {r0 : State}  {seq : Nat} {back : ReadBack} {s : State} (hfm : Mask.le 0x300801c002000000021f12000000007600000007b000000000000000008100000000001400be04c0017c19000000000000000000000000009000000000000000040062002004087ffe0 fm = true) (h0 : Keeps fm r0 s)  : ∃ t1, (execIlogRecordDurable seq back s) = .next t1 ∧ Keeps fm r0 t1 := by
  refine ⟨_, rfl, ?_⟩
  try lift_lets -underBinder
  with_reducible repeat' first | assumption | exact fpart (by decide +kernel) hfm | exact fle (by decide +kernel) hfm | exact fok (by decide +kernel) hfm | exact fall (by decide +kernel) hfm | exact fokIx (by decide +kernel) hfm | exact fokAll (by decide +kernel) hfm | refine Mask.ok_ite ?_ ?_ | refine faultsOf_ok ?_ ?_ | (intro a; refine (fun ha : Keeps fm r0 a => ?_) ?_; clear_value a; rotate_left; dsimp only [a]; rotate_right) | (intro a; clear_value a) | lift_lets -underBinder | apply Keeps.ite | apply recordKept_keeps | apply noteHolds_keeps | apply opDurable_keeps | apply onDurable_keeps | fail_if_no_progress (apply Keeps.upd <;> try first | exact Or.inr (fpart (by decide +kernel) hfm) | exact Or.inl rfl) | split

theorem execFormatPhase1Drained_keeps {fm : Nat} {r0 : State}  {v : Nat} {s : State} (hfm : Mask.le 0x1000000000000000000000000000000000000000000000000000000000000000000000000000000000000000000000000000000022a0 fm = true) (h0 : Keeps fm r0 s)  : ∃ t1, (execFormatPhase1Drained v s) = .next t1 ∧ Keeps fm r0 t1 := by
  refine ⟨_, rfl, ?_⟩
  with_reducible repeat' first | assumption | exact fpart (by decide +kernel) hfm | exact fle (by decide +kernel) hfm | exact fok (by decide +kernel) hfm | exact fall (by decide +kernel) hfm | exact fokIx (by decide +kernel) hfm | exact fokAll (by decide +kernel) hfm | refine Mask.ok_ite ?_ ?_ | refine faultsOf_ok ?_ ?_ | apply Keeps.ite | apply logRec_keeps | apply modOp_keeps | apply takeWseq_keeps | split

theorem execSanitizeCisternWaitEnd_keeps {fm : Nat} {r0 : State}  {v : Nat} {s : State} (hfm : Mask.le 0x100000000000000000000000000000000000000000000000000000000000000000000000000000000000000000000000000000102220 fm = true) (h0 : Keeps fm r0 s)  : ∃ t1, (execSanitizeCisternWaitEnd v s) = .next t1 ∧ Keeps fm r0 t1 := by
  refine ⟨_, rfl, ?_⟩
  try lift_lets -underBinder
  with_reducible repeat' first | assumption | exact fpart (by decide +kernel) hfm | exact fle (by decide +kernel) hfm | exact fok (by decide +kernel) hfm | exact fall (by decide +kernel) hfm | exact fokIx (by decide +kernel) hfm | exact fokAll (by decide +kernel) hfm | refine Mask.ok_ite ?_ ?_ | refine faultsOf_ok ?_ ?_ | (intro a; refine (fun ha : Keeps fm r0 a => ?_) ?_; clear_value a; rotate_left; dsimp only [a]; rotate_right) | (intro a; clear_value a) | lift_lets -underBinder | apply Keeps.ite | apply logRec_keeps | apply modOp_keeps | split | fail_if_no_progress (apply Keeps.upd <;> try first | exact Or.inr (fpart (by decide +kernel) hfm) | exact Or.inl rfl)

/-! ## Sluice -/

theorem chargeBucket_keeps {fm : Nat} {r0 : State}  {kind : Nat} {i : Nat} {cost : Nat} {s : State} (hfm : Mask.le 0x80 fm = true) (h0 : Keeps fm r0 s)  : Keeps fm r0 (chargeBucket kind i cost s) := by
  unfold chargeBucket
  try lift_lets -underBinder
  with_reducible repeat' first | assumption | exact fpart (by decide +kernel) hfm | exact fle (by decide +kernel) hfm | exact fok (by decide +kernel) hfm | exact fall (by decide +kernel) hfm | exact fokIx (by decide +kernel) hfm | exact fokAll (by decide +kernel) hfm | refine Mask.ok_ite ?_ ?_ | refine faultsOf_ok ?_ ?_ | (intro a; clear_value a) | fail_if_no_progress (apply Keeps.upd <;> try first | exact Or.inr (fpart (by decide +kernel) hfm) | exact Or.inl rfl)

theorem chargeAll_keeps {fm : Nat} {r0 : State}  {s : State} {f : Nat} {c : Cmd} (hfm : Mask.le 0x80 fm = true) (h0 : Keeps fm r0 s)  : Keeps fm r0 (chargeAll s f c) := by
  unfold chargeAll
  try lift_lets -underBinder
  with_reducible repeat' first | assumption | exact fpart (by decide +kernel) hfm | exact fle (by decide +kernel) hfm | exact fok (by decide +kernel) hfm | exact fall (by decide +kernel) hfm | exact fokIx (by decide +kernel) hfm | exact fokAll (by decide +kernel) hfm | refine Mask.ok_ite ?_ ?_ | refine faultsOf_ok ?_ ?_ | (intro a; refine (fun ha : Keeps fm r0 a => ?_) ?_; clear_value a; rotate_left; dsimp only [a]; rotate_right) | (intro a; clear_value a) | lift_lets -underBinder | apply Keeps.ite | apply chargeBucket_keeps

theorem endWait_keeps {fm : Nat} {r0 : State}  {s : State} {c : Cmd} (hfm : Mask.le 0x20 fm = true) (h0 : Keeps fm r0 s)  : Keeps fm r0 (endWait s c) := by
  unfold endWait
  with_reducible repeat' first | assumption | exact fpart (by decide +kernel) hfm | exact fle (by decide +kernel) hfm | exact fok (by decide +kernel) hfm | exact fall (by decide +kernel) hfm | exact fokIx (by decide +kernel) hfm | exact fokAll (by decide +kernel) hfm | refine Mask.ok_ite ?_ ?_ | refine faultsOf_ok ?_ ?_ | apply Keeps.ite | apply countDev_keeps | split

theorem beginWait_keeps {fm : Nat} {r0 : State}  {s : State} {q : Nat} {c : Cmd} {k : Nat} (hfm : Mask.le 0x42000000000000000000000000000000000000000000000000000000000000000000000000000000000000000000000000000000000000000000000000000000000000000000000000000000000060 fm = true) (h0 : Keeps fm r0 s)  : Keeps fm r0 (beginWait s q c k) := by
  unfold beginWait
  try lift_lets -underBinder
  with_reducible repeat' first | assumption | exact fpart (by decide +kernel) hfm | exact fle (by decide +kernel) hfm | exact fok (by decide +kernel) hfm | exact fall (by decide +kernel) hfm | exact fokIx (by decide +kernel) hfm | exact fokAll (by decide +kernel) hfm | refine Mask.ok_ite ?_ ?_ | refine faultsOf_ok ?_ ?_ | (intro a; refine (fun ha : Keeps fm r0 a => ?_) ?_; clear_value a; rotate_left; dsimp only [a]; rotate_right) | (intro a; clear_value a) | lift_lets -underBinder | apply Keeps.ite | apply modQueued_keeps | apply endWait_keeps | apply countDev_keeps | apply bump_keeps

theorem noteWait_keeps {fm : Nat} {r0 : State}  {s : State} {q : Nat} (hfm : Mask.le 0x42000000000000000000000000000000000000000000000000000000000000000000000000000000000000000000000000000000000000000000000000000000000000000000000000000000000060 fm = true) (h0 : Keeps fm r0 s)  : Keeps fm r0 (noteWait s q) := by
  unfold noteWait
  with_reducible repeat' first | assumption | exact fpart (by decide +kernel) hfm | exact fle (by decide +kernel) hfm | exact fok (by decide +kernel) hfm | exact fall (by decide +kernel) hfm | exact fokIx (by decide +kernel) hfm | exact fokAll (by decide +kernel) hfm | refine Mask.ok_ite ?_ ?_ | refine faultsOf_ok ?_ ?_ | apply Keeps.ite | apply beginWait_keeps | split

theorem floorWrite_keeps {fm : Nat} {r0 : State}  {s : State} {p : Nat} {a : Nat} {n : Nat} (hfm : Mask.le 0x14000000000000190000000000000000000000000000000000000000000400020000040845020 fm = true) (h0 : Keeps fm r0 s)  : Keeps fm r0 (floorWrite s p a n) := by
  unfold floorWrite
  with_reducible repeat' first | assumption | exact fpart (by decide +kernel) hfm | exact fle (by decide +kernel) hfm | exact fok (by decide +kernel) hfm | exact fall (by decide +kernel) hfm | exact fokIx (by decide +kernel) hfm | exact fokAll (by decide +kernel) hfm | refine Mask.ok_ite ?_ ?_ | refine faultsOf_ok ?_ ?_ | apply Keeps.ite | apply writeSuper_keeps

theorem admitCmd_keeps {fm : Nat} {r0 : State}  {s : State} {q : Nat} {c : Cmd} (hfm : Mask.le 0x300800000000000000000000c0000000000000010000000000000000000000000000001400000000017c19000000000000000000000000000040000000000000040002000004084f1e0 fm = true) (h0 : Keeps fm r0 s)  : Keeps fm r0 (admitCmd s q c) := by
  unfold admitCmd
  try lift_lets -underBinder
  with_reducible repeat' first | assumption | exact fpart (by decide +kernel) hfm | exact fle (by decide +kernel) hfm | exact fok (by decide +kernel) hfm | exact fall (by decide +kernel) hfm | exact fokIx (by decide +kernel) hfm | exact fokAll (by decide +kernel) hfm | refine Mask.ok_ite ?_ ?_ | refine faultsOf_ok ?_ ?_ | (intro a; refine (fun ha : Keeps fm r0 a => ?_) ?_; clear_value a; rotate_left; dsimp only [a]; rotate_right) | (intro a; clear_value a) | lift_lets -underBinder | apply Keeps.ite | apply modQp_keeps | apply endWait_keeps | apply count_keeps | apply chargeAll_keeps | apply floorWrite_keeps | apply takeWseq_keeps | apply chargeKey_keeps | fail_if_no_progress (apply Keeps.upd <;> try first | exact Or.inr (fpart (by decide +kernel) hfm) | exact Or.inl rfl)

theorem serveQp_keeps {fm : Nat} {r0 : State}  {s : State} {q : Nat} (hfm : Mask.le 0x300800000000000000000000c0000000000000010000000000000000000000000000001400000000017c19000000000000000000000000000040000000000000040002000004084f1e0 fm = true) (h0 : Keeps fm r0 s)  : Keeps fm r0 (serveQp s q) := by
  unfold serveQp
  with_reducible repeat' first | assumption | exact fpart (by decide +kernel) hfm | exact fle (by decide +kernel) hfm | exact fok (by decide +kernel) hfm | exact fall (by decide +kernel) hfm | exact fokIx (by decide +kernel) hfm | exact fokAll (by decide +kernel) hfm | refine Mask.ok_ite ?_ ?_ | refine faultsOf_ok ?_ ?_ | apply finish_keeps | apply endWait_keeps | apply admitCmd_keeps | split

theorem sluiceTurn_keeps {fm : Nat} {r0 : State}  {s : State} (hfm : Mask.le 0x300800000000000000000000c0000000000000010000000000000000000000000000001400000000017c19000000000000000000000000000040000000000000040002000004084f1e0 fm = true) (h0 : Keeps fm r0 s)  : Keeps fm r0 (sluiceTurn s) := by
  unfold sluiceTurn
  with_reducible repeat' first | assumption | exact fpart (by decide +kernel) hfm | exact fle (by decide +kernel) hfm | exact fok (by decide +kernel) hfm | exact fall (by decide +kernel) hfm | exact fokIx (by decide +kernel) hfm | exact fokAll (by decide +kernel) hfm | refine Mask.ok_ite ?_ ?_ | refine faultsOf_ok ?_ ?_ | apply Keeps.ite | apply serveQp_keeps | fail_if_no_progress (apply Keeps.upd <;> try first | exact Or.inr (fpart (by decide +kernel) hfm) | exact Or.inl rfl) | split

theorem execAdmitCommand_keeps {fm : Nat} {r0 : State}  {s : State} (hfm : Mask.le 0x42000000000300800000000000000000000c0000000000000010000000000000000000000000000001400000000017c19000000000000000000000000000040000000000000040002000004084f1e0 fm = true) (h0 : Keeps fm r0 s)  : ∃ t1, (execAdmitCommand s) = .next t1 ∧ Keeps fm r0 t1 := by
  refine ⟨_, rfl, ?_⟩
  with_reducible repeat' first | assumption | exact fpart (by decide +kernel) hfm | exact fle (by decide +kernel) hfm | exact fok (by decide +kernel) hfm | exact fall (by decide +kernel) hfm | exact fokIx (by decide +kernel) hfm | exact fokAll (by decide +kernel) hfm | refine Mask.ok_ite ?_ ?_ | refine faultsOf_ok ?_ ?_ | refine fun _ _ (_ : Keeps fm r0 _) => ?_ | apply Keeps.ite | apply sluiceTurn_keeps | apply noteWait_keeps | apply Keeps.forEach

/-! ## Hooks -/

theorem took_keeps {fm : Nat} {r0 s : State} {x : Host.Outcome State Fault Refusal} (e : ∃ t, x = .next t ∧ Keeps fm r0 t) : Keeps fm r0 (took s x) := by
  obtain ⟨t, rfl, k⟩ := e
  exact k

theorem poolAction_keeps {fm : Nat} {r0 : State}  {s : State} {p : Nat} {n : Nat} (hfm : Mask.le 0x14000000000000000000000000000000000000000000000000000000000100020000040905020 fm = true) (h0 : Keeps fm r0 s)  : Keeps fm r0 (poolAction s p n) := by
  unfold poolAction
  with_reducible repeat' first | assumption | exact fpart (by decide +kernel) hfm | exact fle (by decide +kernel) hfm | exact fok (by decide +kernel) hfm | exact fall (by decide +kernel) hfm | exact fokIx (by decide +kernel) hfm | exact fokAll (by decide +kernel) hfm | refine Mask.ok_ite ?_ ?_ | refine faultsOf_ok ?_ ?_ | apply took_keeps | apply execPoolActionCreate_keeps | apply execPoolActionOnline_keeps | apply execPoolActionOffline_keeps | apply execPoolActionDestroy_keeps | split

theorem memberAction_keeps {fm : Nat} {r0 : State}  {s : State} {i : Nat} {n : Nat} (hfm : Mask.le 0x380801c022000000001f160000000070100000010000000000000004003100000000001400860085017c19000000001600000000000000009c400000000000003c01e3bffc04287fde0 fm = true) (h0 : Keeps fm r0 s)  : Keeps fm r0 (memberAction s i n) := by
  unfold memberAction
  with_reducible repeat' first | assumption | exact fpart (by decide +kernel) hfm | exact fle (by decide +kernel) hfm | exact fok (by decide +kernel) hfm | exact fall (by decide +kernel) hfm | exact fokIx (by decide +kernel) hfm | exact fokAll (by decide +kernel) hfm | refine Mask.ok_ite ?_ ?_ | refine faultsOf_ok ?_ ?_ | apply took_keeps | apply execMemberAdd_keeps | apply execMemberRemove_keeps | apply execMemberActionFail_keeps | split

theorem markFactory_keeps {fm : Nat} {r0 : State}  {s : State} (hfm : Mask.le 0x8 fm = true) (h0 : Keeps fm r0 s)  : Keeps fm r0 (markFactory s) := by
  unfold markFactory
  with_reducible repeat' first | assumption | exact fpart (by decide +kernel) hfm | exact fle (by decide +kernel) hfm | exact fok (by decide +kernel) hfm | exact fall (by decide +kernel) hfm | exact fokIx (by decide +kernel) hfm | exact fokAll (by decide +kernel) hfm | refine Mask.ok_ite ?_ ?_ | refine faultsOf_ok ?_ ?_ | fail_if_no_progress (apply Keeps.updDict <;> try first | exact Or.inr (fpart (by decide +kernel) hfm) | exact Or.inl rfl)

theorem verifySlot_keeps {fm : Nat} {r0 : State}  {s : State} {slot : Nat} (hfm : Mask.le 0x1000000000000100000000000000000000000000013c00000000000000000000000000000000000000000000000000000000000000000000000001000000 fm = true) (h0 : Keeps fm r0 s)  : Keeps fm r0 (verifySlot s slot) := by
  unfold verifySlot
  with_reducible repeat' first | assumption | exact fpart (by decide +kernel) hfm | exact fle (by decide +kernel) hfm | exact fok (by decide +kernel) hfm | exact fall (by decide +kernel) hfm | exact fokIx (by decide +kernel) hfm | exact fokAll (by decide +kernel) hfm | refine Mask.ok_ite ?_ ?_ | refine faultsOf_ok ?_ ?_ | apply fwVerify_keeps | apply takeFree_keeps

theorem stopTest_keeps {fm : Nat} {r0 : State}  {s : State} (hfm : Mask.le 0x3008000000000000001f0000000a3900000000000000078000000000000000000000001400000000017c190000000000000038000000000000000000000000000000020000041945920 fm = true) (h0 : Keeps fm r0 s)  : Keeps fm r0 (stopTest s) := by
  unfold stopTest
  try lift_lets -underBinder
  with_reducible repeat' first | assumption | exact fpart (by decide +kernel) hfm | exact fle (by decide +kernel) hfm | exact fok (by decide +kernel) hfm | exact fall (by decide +kernel) hfm | exact fokIx (by decide +kernel) hfm | exact fokAll (by decide +kernel) hfm | refine Mask.ok_ite ?_ ?_ | refine faultsOf_ok ?_ ?_ | (intro a; clear_value a) | lift_lets -underBinder | apply endTest_keeps | apply takeFree_keeps

theorem poolWrite_keeps {fm : Nat} {r0 : State}  {s : State} {o : ObjDesc} {i : Nat} {n : Nat} (hfm : Mask.le 0x800000000000380801d022000000001f160000000070100000010000000000000104003100000000001400860085017c1900000000163e000000000000009c400810000000003d01e3bffc04297ffe0 fm = true) (h0 : Keeps fm r0 s)  : Keeps fm r0 (poolWrite s o i n) := by
  unfold poolWrite
  with_reducible repeat' first | assumption | exact fpart (by decide +kernel) hfm | exact fle (by decide +kernel) hfm | exact fok (by decide +kernel) hfm | exact fall (by decide +kernel) hfm | exact fokIx (by decide +kernel) hfm | exact fokAll (by decide +kernel) hfm | refine Mask.ok_ite ?_ ?_ | refine faultsOf_ok ?_ ?_ | apply Keeps.ite | apply poolAction_keeps | apply memberAction_keeps | apply took_keeps | apply execVolumeCreate_keeps | apply execVolumeDelete_keeps | apply startCheck_keeps | apply execMapCheckpointNow_keeps | apply execRebuildStart_keeps | apply execPatrolRestart_keeps | apply lossAck_keeps | split

theorem linkWrite_keeps {fm : Nat} {r0 : State}  {s : State} {o : ObjDesc} {i : Nat} {n : Nat} (hfm : Mask.le 0x2000000000000380801c022000000001f1600fc0000701000000100000007ffff800c003100000000001400860085017c1900000024000000018d020000409c40000000080004040063bffc052c7fdf8 fm = true) (h0 : Keeps fm r0 s)  : Keeps fm r0 (linkWrite s o i n) := by
  unfold linkWrite
  with_reducible repeat' first | assumption | exact fpart (by decide +kernel) hfm | exact fle (by decide +kernel) hfm | exact fok (by decide +kernel) hfm | exact fall (by decide +kernel) hfm | exact fokIx (by decide +kernel) hfm | exact fokAll (by decide +kernel) hfm | refine Mask.ok_ite ?_ ?_ | refine faultsOf_ok ?_ ?_ | apply Keeps.ite | apply commitEpoch_keeps | apply discardStaged_keeps | apply took_keeps | apply execQpHalt_keeps | apply execPortReleaseRetry_keeps | apply execPortReleaseFail_keeps | apply execPairTakeover_keeps | apply execPairFaultClear_keeps | apply execPairPoolHandover_keeps | apply clearCounters_keeps | apply markFactory_keeps | split

theorem unitWrite_keeps {fm : Nat} {r0 : State}  {s : State} {o : ObjDesc} {i : Nat} {n : Nat} (hfm : Mask.le 0x1ffffffffffffffffffffffffffffffffffffffffffffffffffffffffffffffffffffffffffffffffffffffffffffffffffffffffffffffffffffffffffffffffffffffffffffffffffffffffffffffffffffffffffffffffe fm = true) (h0 : Keeps fm r0 s)  : Keeps fm r0 (unitWrite s o i n) := by
  unfold unitWrite
  with_reducible repeat' first | assumption | exact fpart (by decide +kernel) hfm | exact fle (by decide +kernel) hfm | exact fok (by decide +kernel) hfm | exact fall (by decide +kernel) hfm | exact fokIx (by decide +kernel) hfm | exact fokAll (by decide +kernel) hfm | refine Mask.ok_ite ?_ ?_ | refine faultsOf_ok ?_ ?_ | apply Keeps.ite | apply took_keeps | apply execPipeClear_keeps | apply takeFree_keeps | apply tamperClear_keeps | apply reenableWays_keeps | apply maintOp_keeps | apply lockPreload_keeps | apply lockUnlock_keeps | apply resetLearning_keeps | apply measureNow_keeps | apply deviceReset_keeps | apply svnCommit_keeps | apply fwErase_keeps | apply verifySlot_keeps | apply testOp_keeps | apply stopTest_keeps | split

theorem actionWrite_keeps {fm : Nat} {r0 : State}  {s : State} {o : ObjDesc} {i : Nat} {n : Nat} (hfm : Mask.le 0x1ffffffffffffffffffffffffffffffffffffffffffffffffffffffffffffffffffffffffffffffffffffffffffffffffffffffffffffffffffffffffffffffffffffffffffffffffffffffffffffffffffffffffffffffffe fm = true) (h0 : Keeps fm r0 s)  : Keeps fm r0 (actionWrite s o i n) := by
  unfold actionWrite
  with_reducible repeat' first | assumption | exact fpart (by decide +kernel) hfm | exact fle (by decide +kernel) hfm | exact fok (by decide +kernel) hfm | exact fall (by decide +kernel) hfm | exact fokIx (by decide +kernel) hfm | exact fokAll (by decide +kernel) hfm | refine Mask.ok_ite ?_ ?_ | refine faultsOf_ok ?_ ?_ | apply unitWrite_keeps | apply linkWrite_keeps | apply poolWrite_keeps

theorem afterSetting_keeps {fm : Nat} {r0 : State}  {s : State} {o : ObjDesc} {i : Nat} (hfm : Mask.le 0x3008000000000000001f0000000a3900000000000000000000000000003100000000001400820004017c19000000000000000800005000000c000000000000000400620020040c45920 fm = true) (h0 : Keeps fm r0 s)  : Keeps fm r0 (afterSetting s o i) := by
  unfold afterSetting
  with_reducible repeat' first | assumption | exact fpart (by decide +kernel) hfm | exact fle (by decide +kernel) hfm | exact fok (by decide +kernel) hfm | exact fall (by decide +kernel) hfm | exact fokIx (by decide +kernel) hfm | exact fokAll (by decide +kernel) hfm | refine Mask.ok_ite ?_ ?_ | refine faultsOf_ok ?_ ?_ | apply Keeps.ite | apply recomputeWeir_keeps | apply wr_keeps | apply noteCistern_keeps | apply offerSpare_keeps | apply sealSurplus_keeps | apply noteDredger_keeps | apply modPool_keeps | apply writeSuper_keeps | apply noteCharge_keeps

theorem settingWrite_keeps {fm : Nat} {r0 : State}  {s : State} {o : ObjDesc} {i : Nat} {v : Int} (hfm : Mask.le 0x20000390881d9230c0000001f1621000a3970100000010000000000000006c03141000000161400860085017c9900000000000000080000500c009c40004000000804040063bfff062cffde0 fm = true) (hm_o : Mask.ok fm o = true) (h0 : Keeps fm r0 s)  : Keeps fm r0 (settingWrite s o i v) := by
  unfold settingWrite
  try lift_lets -underBinder
  with_reducible repeat' first | assumption | exact fpart (by decide +kernel) hfm | exact fle (by decide +kernel) hfm | exact fok (by decide +kernel) hfm | exact fall (by decide +kernel) hfm | exact fokIx (by decide +kernel) hfm | exact fokAll (by decide +kernel) hfm | refine Mask.ok_ite ?_ ?_ | refine faultsOf_ok ?_ ?_ | (intro a; clear_value a) | lift_lets -underBinder | apply Keeps.ite | apply growVol_keeps | apply setMode_keeps | apply took_keeps | apply execDriveGroupEnable_keeps | apply setPersist_keeps | apply setWaysEnabled_keeps | apply setFrameWays_keeps | apply packEnable_keeps | apply fwUpdateSlot_keeps | apply preferSlot_keeps | apply enableRing_keeps | apply subscribe_keeps | apply afterSetting_keeps | apply wr_keeps

theorem bytesWrite_keeps {fm : Nat} {r0 : State}  {s : State} {o : ObjDesc} {i : Nat} {b : Bytes} (hfm : Mask.le 0x4000000000000000000000000000003e8000000000000000000000000000000000000000000100000 fm = true) (hm_o : Mask.ok fm o = true) (h0 : Keeps fm r0 s)  : Keeps fm r0 (bytesWrite s o i b) := by
  unfold bytesWrite
  with_reducible repeat' first | assumption | exact fpart (by decide +kernel) hfm | exact fle (by decide +kernel) hfm | exact fok (by decide +kernel) hfm | exact fall (by decide +kernel) hfm | exact fokIx (by decide +kernel) hfm | exact fokAll (by decide +kernel) hfm | refine Mask.ok_ite ?_ ?_ | refine faultsOf_ok ?_ ?_ | apply Keeps.ite | apply loadTable_keeps | apply fwData_keeps | apply wrBytes_keeps

theorem applyWrite_keeps {fm : Nat} {r0 : State}  {s : State} {o : ObjDesc} {i : Nat} {v : Val} (hfm : Mask.le 0x1ffffffffffffffffffffffffffffffffffffffffffffffffffffffffffffffffffffffffffffffffffffffffffffffffffffffffffffffffffffffffffffffffffffffffffffffffffffffffffffffffffffffffffffffffe fm = true) (hm_o : Mask.ok fm o = true) (h0 : Keeps fm r0 s)  : Keeps fm r0 (applyWrite s o i v) := by
  unfold applyWrite
  try lift_lets -underBinder
  with_reducible repeat' first | assumption | exact fpart (by decide +kernel) hfm | exact fle (by decide +kernel) hfm | exact fok (by decide +kernel) hfm | exact fall (by decide +kernel) hfm | exact fokIx (by decide +kernel) hfm | exact fokAll (by decide +kernel) hfm | refine Mask.ok_ite ?_ ?_ | refine faultsOf_ok ?_ ?_ | (intro a; refine (fun ha : Keeps fm r0 a => ?_) ?_; clear_value a; rotate_left; dsimp only [a]; rotate_right) | lift_lets -underBinder | apply Keeps.ite | apply leaveIdle_keeps | apply stageWrite_keeps | apply actionWrite_keeps | apply settingWrite_keeps | apply bytesWrite_keeps | split

theorem writeObj_keeps {fm : Nat} {r0 : State}  {s : State} {o : ObjDesc} {i : Nat} {v : Val} (hfm : Mask.le 0x1ffffffffffffffffffffffffffffffffffffffffffffffffffffffffffffffffffffffffffffffffffffffffffffffffffffffffffffffffffffffffffffffffffffffffffffffffffffffffffffffffffffffffffffffffe fm = true) (hm_o : Mask.ok fm o = true) (h0 : Keeps fm r0 s)  : Keeps fm r0 (writeObj s o i v) := by
  unfold writeObj
  with_reducible repeat' first | assumption | exact fpart (by decide +kernel) hfm | exact fle (by decide +kernel) hfm | exact fok (by decide +kernel) hfm | exact fall (by decide +kernel) hfm | exact fokIx (by decide +kernel) hfm | exact fokAll (by decide +kernel) hfm | refine Mask.ok_ite ?_ ?_ | refine faultsOf_ok ?_ ?_ | apply Keeps.ite | apply applyWrite_keeps

/-! ## Dictionary -/

theorem modSess_keeps {fm : Nat} {r0 : State}  {s : State} {n : Nat} {f : Session → Session} (hfm : Mask.le 0x8 fm = true) (h0 : Keeps fm r0 s)  : Keeps fm r0 (modSess s n f) := by
  unfold modSess
  with_reducible repeat' first | assumption | exact fpart (by decide +kernel) hfm | exact fle (by decide +kernel) hfm | exact fok (by decide +kernel) hfm | exact fall (by decide +kernel) hfm | exact fokIx (by decide +kernel) hfm | exact fokAll (by decide +kernel) hfm | refine Mask.ok_ite ?_ ?_ | refine faultsOf_ok ?_ ?_ | fail_if_no_progress (apply Keeps.updDict <;> try first | exact Or.inr (fpart (by decide +kernel) hfm) | exact Or.inl rfl)

theorem dropPart_keeps {fm : Nat} {r0 : State}  {s : State} {sess : Option Nat} {key : Nat} (hfm : Mask.le 0x8 fm = true) (h0 : Keeps fm r0 s)  : Keeps fm r0 (dropPart s sess key) := by
  unfold dropPart
  with_reducible repeat' first | assumption | exact fpart (by decide +kernel) hfm | exact fle (by decide +kernel) hfm | exact fok (by decide +kernel) hfm | exact fall (by decide +kernel) hfm | exact fokIx (by decide +kernel) hfm | exact fokAll (by decide +kernel) hfm | refine Mask.ok_ite ?_ ?_ | refine faultsOf_ok ?_ ?_ | apply modSess_keeps | split

theorem keepPart_keeps {fm : Nat} {r0 : State}  {s : State} {sess : Option Nat} {key : Nat} {e : ReqEntry} (hfm : Mask.le 0x8 fm = true) (h0 : Keeps fm r0 s)  : Keeps fm r0 (keepPart s sess key e) := by
  unfold keepPart
  try lift_lets -underBinder
  with_reducible repeat' first | assumption | exact fpart (by decide +kernel) hfm | exact fle (by decide +kernel) hfm | exact fok (by decide +kernel) hfm | exact fall (by decide +kernel) hfm | exact fokIx (by decide +kernel) hfm | exact fokAll (by decide +kernel) hfm | refine Mask.ok_ite ?_ ?_ | refine faultsOf_ok ?_ ?_ | (intro a; clear_value a) | apply modSess_keeps | split

theorem accept_keeps {fm : Nat} {r0 : State}  {s : State} {sess : Option Nat} {o : ObjDesc} {e : ReqEntry} (hfm : Mask.le 0x400000000000000000000000000000000000000000000000000018 fm = true) (h0 : Keeps fm r0 s)  : Keeps fm r0 (accept s sess o e) := by
  unfold accept
  try lift_lets -underBinder
  with_reducible repeat' first | assumption | exact fpart (by decide +kernel) hfm | exact fle (by decide +kernel) hfm | exact fok (by decide +kernel) hfm | exact fall (by decide +kernel) hfm | exact fokIx (by decide +kernel) hfm | exact fokAll (by decide +kernel) hfm | refine Mask.ok_ite ?_ ?_ | refine faultsOf_ok ?_ ?_ | (intro a; refine (fun ha : Keeps fm r0 a => ?_) ?_; clear_value a; rotate_left; dsimp only [a]; rotate_right) | lift_lets -underBinder | apply Keeps.ite | apply keepPart_keeps | apply dropPart_keeps | apply stageWrite_keeps | apply wr_keeps | apply discardStaged_keeps

theorem checkEntry_keeps {fm : Nat} {r0 : State}  {s : State} {sess : Option Nat} {write : Bool} {e : ReqEntry} (hfm : Mask.le 0x21000000000000000000000000000000000000400000400000000000000000000000000400000000000040000000000000000000000000000000000d80018 fm = true) (h0 : Keeps fm r0 s)  : Keeps fm r0 (checkEntry s sess write e).2 := by
  unfold checkEntry
  try lift_lets -underBinder
  with_reducible repeat' first | assumption | exact fpart (by decide +kernel) hfm | exact fle (by decide +kernel) hfm | exact fok (by decide +kernel) hfm | exact fall (by decide +kernel) hfm | exact fokIx (by decide +kernel) hfm | exact fokAll (by decide +kernel) hfm | refine Mask.ok_ite ?_ ?_ | refine faultsOf_ok ?_ ?_ | (intro a; clear_value a) | lift_lets -underBinder | apply Keeps.ite | apply Keeps.ite_snd | apply accept_keeps | split

theorem applyEntryW_keeps {fm : Nat} {r0 : State}  {s : State} {sess : Option Nat} {o : ObjDesc} {e : ReqEntry} (hfm : Mask.le 0x1ffffffffffffffffffffffffffffffffffffffffffffffffffffffffffffffffffffffffffffffffffffffffffffffffffffffffffffffffffffffffffffffffffffffffffffffffffffffffffffffffffffffffffffffffe fm = true) (hm_o : Mask.ok fm o = true) (h0 : Keeps fm r0 s)  : Keeps fm r0 (applyEntryW s sess o e) := by
  unfold applyEntryW
  try lift_lets -underBinder
  with_reducible repeat' first | assumption | exact fpart (by decide +kernel) hfm | exact fle (by decide +kernel) hfm | exact fok (by decide +kernel) hfm | exact fall (by decide +kernel) hfm | exact fokIx (by decide +kernel) hfm | exact fokAll (by decide +kernel) hfm | refine Mask.ok_ite ?_ ?_ | refine faultsOf_ok ?_ ?_ | (intro a; clear_value a) | lift_lets -underBinder | apply Keeps.ite | apply keepPart_keeps | apply applyWrite_keeps | apply dropPart_keeps

theorem applyAll_keeps {fm : Nat} {r0 : State}  {s : State} {sess : Option Nat} {l : List ReqEntry} (hfm : Mask.le 0x1ffffffffffffffffffffffffffffffffffffffffffffffffffffffffffffffffffffffffffffffffffffffffffffffffffffffffffffffffffffffffffffffffffffffffffffffffffffffffffffffffffffffffffffffffe fm = true) (h0 : Keeps fm r0 s)  : Keeps fm r0 (applyAll s sess l) := by
  unfold applyAll
  try lift_lets -underBinder
  with_reducible repeat' first | assumption | exact fpart (by decide +kernel) hfm | exact fle (by decide +kernel) hfm | exact fok (by decide +kernel) hfm | exact fall (by decide +kernel) hfm | exact fokIx (by decide +kernel) hfm | exact fokAll (by decide +kernel) hfm | refine Mask.ok_ite ?_ ?_ | refine faultsOf_ok ?_ ?_ | refine fun _ _ (_ : Keeps fm r0 _) => ?_ | (intro a; refine (fun hga : ∀ x t, Keeps fm r0 t → Keeps fm r0 (a x t) => ?_) ?_; clear_value a; rotate_left; dsimp only [a]; rotate_right) | (intro a; clear_value a) | lift_lets -underBinder | apply applyEntryW_keeps | apply Keeps.forEach

theorem readEntry_keeps {fm : Nat} {r0 : State}  {s : State} {sess : Option Nat} {e : ReqEntry} (hfm : Mask.le 0x14000000000000000000000000000000000000000000000000000000000000000000000000000000000000000000000000000000000000000000000000000000000000000000000000020 fm = true) (h0 : Keeps fm r0 s)  : Keeps fm r0 (readEntry s sess e).2 := by
  unfold readEntry
  try lift_lets -underBinder
  with_reducible repeat' first | assumption | exact fpart (by decide +kernel) hfm | exact fle (by decide +kernel) hfm | exact fok (by decide +kernel) hfm | exact fall (by decide +kernel) hfm | exact fokIx (by decide +kernel) hfm | exact fokAll (by decide +kernel) hfm | refine Mask.ok_ite ?_ ?_ | refine faultsOf_ok ?_ ?_ | (intro a; refine (fun ha : Keeps fm r0 a.2 => ?_) ?_; clear_value a; rotate_left; dsimp only [a]; rotate_right) | lift_lets -underBinder | apply Keeps.ite_snd | apply subFetch_keeps | apply eventStoreRead_keeps | apply alarmStoreRead_keeps | split

theorem readAll_keeps {fm : Nat} {r0 s : State} {sess : Option Nat} {l : List ReqEntry} (hfm : Mask.le 0x14000000000000000000000000000000000000000000000000000000000000000000000000000000000000000000000000000000000000000000000000000000000000000000001000020 fm = true) (h0 : Keeps fm r0 s) : Keeps fm r0 (readAll sess l s).2 := by
  induction l generalizing s with
  | nil => exact h0
  | cons e l ih => exact ih (takeFree_keeps (fle (by decide +kernel) hfm) (readEntry_keeps (fle (by decide +kernel) hfm) h0))

theorem privilegeEvent_keeps {fm : Nat} {r0 : State}  {s : State} {n : Nat} {result : Nat} {e : ReqEntry} (hfm : Mask.le 0x30080000000000000000000000000000000000000000000000000000000000000000000000000000017c000000000000000000000000000000000000000000000000000000000800120 fm = true) (h0 : Keeps fm r0 s)  : Keeps fm r0 (privilegeEvent s n result e) := by
  unfold privilegeEvent
  with_reducible repeat' first | assumption | exact fpart (by decide +kernel) hfm | exact fle (by decide +kernel) hfm | exact fok (by decide +kernel) hfm | exact fall (by decide +kernel) hfm | exact fokIx (by decide +kernel) hfm | exact fokAll (by decide +kernel) hfm | refine Mask.ok_ite ?_ ?_ | refine faultsOf_ok ?_ ?_ | apply raise_keeps

theorem refuse_keeps {fm : Nat} {r0 : State}  {s : State} {sess : Option Nat} {b : Bytes} {result : Nat} {failing : Nat} (hfm : Mask.le 0x30080000000000000000000000000000000000000000000000000000000000000000000000000000017c000000000000000000000000000000000000000000000000000000000800128 fm = true) (h0 : Keeps fm r0 s)  : Keeps fm r0 (refuse s sess b result failing) := by
  unfold refuse
  try lift_lets -underBinder
  with_reducible repeat' first | assumption | exact fpart (by decide +kernel) hfm | exact fle (by decide +kernel) hfm | exact fok (by decide +kernel) hfm | exact fall (by decide +kernel) hfm | exact fokIx (by decide +kernel) hfm | exact fokAll (by decide +kernel) hfm | refine Mask.ok_ite ?_ ?_ | refine faultsOf_ok ?_ ?_ | (intro a; refine (fun ha : Keeps fm r0 a => ?_) ?_; clear_value a; rotate_left; dsimp only [a]; rotate_right) | lift_lets -underBinder | apply Keeps.ite | apply privilegeEvent_keeps | apply dropPart_keeps | split

theorem respond_keeps {fm : Nat} {r0 : State}  {s : State} {sess : Option Nat} {op : Nat} {seq : Nat} {result : Nat} {failing : Nat} {data : Bytes} {cache : Bool} (hfm : Mask.le 0x10000000000000000000000000000000000000000000000000000000000000000000000000000000000000000000000000000000001000008 fm = true) (h0 : Keeps fm r0 s)  : Keeps fm r0 (respond s sess op seq result failing data cache).2 := by
  unfold respond
  try lift_lets -underBinder
  with_reducible repeat' first | assumption | exact fpart (by decide +kernel) hfm | exact fle (by decide +kernel) hfm | exact fok (by decide +kernel) hfm | exact fall (by decide +kernel) hfm | exact fokIx (by decide +kernel) hfm | exact fokAll (by decide +kernel) hfm | refine Mask.ok_ite ?_ ?_ | refine faultsOf_ok ?_ ?_ | (intro a; refine (fun ha : Keeps fm r0 a => ?_) ?_; clear_value a; rotate_left; dsimp only [a]; rotate_right) | (intro a; clear_value a) | lift_lets -underBinder | apply Keeps.ite | apply takeFree_keeps | apply modSess_keeps | apply wr_keeps | split

theorem execReq_keeps {fm : Nat} {r0 : State}  {s : State} {sess : Option Nat} {allowed : Nat → Bool} {room : Nat} {b : Bytes} (hfm : Mask.le 0x1ffffffffffffffffffffffffffffffffffffffffffffffffffffffffffffffffffffffffffffffffffffffffffffffffffffffffffffffffffffffffffffffffffffffffffffffffffffffffffffffffffffffffffffffffe fm = true) (h0 : Keeps fm r0 s)  : Keeps fm r0 (execReq s sess allowed room b).2 := by
  unfold execReq
  try lift_lets -underBinder
  with_reducible repeat' first | assumption | exact fpart (by decide +kernel) hfm | exact fle (by decide +kernel) hfm | exact fok (by decide +kernel) hfm | exact fall (by decide +kernel) hfm | exact fokIx (by decide +kernel) hfm | exact fokAll (by decide +kernel) hfm | refine Mask.ok_ite ?_ ?_ | refine faultsOf_ok ?_ ?_ | (intro a; refine (fun ha : Keeps fm r0 a => ?_) ?_; clear_value a; rotate_left; dsimp only [a]; rotate_right) | (intro a; refine (fun ha : Keeps fm r0 a.2 => ?_) ?_; clear_value a; rotate_left; dsimp only [a]; rotate_right) | (intro a; clear_value a) | lift_lets -underBinder | apply Keeps.ite | apply Keeps.ite_snd | apply modSess_keeps | apply wr_keeps | apply respond_keeps | apply refuse_keeps | apply readAll_keeps | apply applyAll_keeps | apply bump_keeps | split

theorem handleReq_keeps {fm : Nat} {r0 : State}  {s : State} {sess : Option Nat} {allowed : Nat → Bool} {room : Nat} {b : Bytes} (hfm : Mask.le 0x1ffffffffffffffffffffffffffffffffffffffffffffffffffffffffffffffffffffffffffffffffffffffffffffffffffffffffffffffffffffffffffffffffffffffffffffffffffffffffffffffffffffffffffffffffe fm = true) (h0 : Keeps fm r0 s)  : Keeps fm r0 (handleReq s sess allowed room b).2 := by
  unfold handleReq
  try lift_lets -underBinder
  with_reducible repeat' first | assumption | exact fpart (by decide +kernel) hfm | exact fle (by decide +kernel) hfm | exact fok (by decide +kernel) hfm | exact fall (by decide +kernel) hfm | exact fokIx (by decide +kernel) hfm | exact fokAll (by decide +kernel) hfm | refine Mask.ok_ite ?_ ?_ | refine faultsOf_ok ?_ ?_ | (intro a; clear_value a) | lift_lets -underBinder | apply Keeps.ite_snd | apply execReq_keeps | apply respond_keeps | split

theorem sendMctpFrom_keeps {fm : Nat} {r0 s : State} {eid seq : Nat} {first : Bool} {b : Bytes} {n : Nat} (hfm : Mask.le 0x800000 fm = true) (h0 : Keeps fm r0 s) : Keeps fm r0 (sendMctpFrom eid seq first b n s) := by
  induction n generalizing s seq first b with
  | zero => exact h0
  | succ n ih => exact Keeps.ite (emit_keeps (fpart (by decide +kernel) hfm) h0) (ih (emit_keeps (fpart (by decide +kernel) hfm) h0))

theorem sendMctp_keeps {fm : Nat} {r0 : State}  {s : State} {eid : Nat} {ty : Nat} {b : Bytes} (hfm : Mask.le 0x800000 fm = true) (h0 : Keeps fm r0 s)  : Keeps fm r0 (sendMctp s eid ty b) := by
  unfold sendMctp
  with_reducible repeat' first | assumption | exact fpart (by decide +kernel) hfm | exact fle (by decide +kernel) hfm | exact fok (by decide +kernel) hfm | exact fall (by decide +kernel) hfm | exact fokIx (by decide +kernel) hfm | exact fokAll (by decide +kernel) hfm | refine Mask.ok_ite ?_ ?_ | refine faultsOf_ok ?_ ?_ | apply sendMctpFrom_keeps

theorem deliverRsp_keeps {fm : Nat} {r0 : State}  {s : State} {src : ReqSrc} {b : Bytes} (hfm : Mask.le 0x8000c0 fm = true) (h0 : Keeps fm r0 s)  : Keeps fm r0 (deliverRsp s src b) := by
  unfold deliverRsp
  try lift_lets -underBinder
  with_reducible repeat' first | assumption | exact fpart (by decide +kernel) hfm | exact fle (by decide +kernel) hfm | exact fok (by decide +kernel) hfm | exact fall (by decide +kernel) hfm | exact fokIx (by decide +kernel) hfm | exact fokAll (by decide +kernel) hfm | refine Mask.ok_ite ?_ ?_ | refine faultsOf_ok ?_ ?_ | (intro a; refine (fun ha : Keeps fm r0 a => ?_) ?_; clear_value a; rotate_left; dsimp only [a]; rotate_right) | lift_lets -underBinder | apply Keeps.ite | apply emit_keeps | apply hostScatter_keeps | apply finish_keeps | apply sendMctp_keeps | split

theorem runReq_keeps {fm : Nat} {r0 : State}  {s : State} {x : Paced} (hfm : Mask.le 0x1ffffffffffffffffffffffffffffffffffffffffffffffffffffffffffffffffffffffffffffffffffffffffffffffffffffffffffffffffffffffffffffffffffffffffffffffffffffffffffffffffffffffffffffffffe fm = true) (h0 : Keeps fm r0 s)  : Keeps fm r0 (runReq s x) := by
  unfold runReq
  try lift_lets -underBinder
  with_reducible repeat' first | assumption | exact fpart (by decide +kernel) hfm | exact fle (by decide +kernel) hfm | exact fok (by decide +kernel) hfm | exact fall (by decide +kernel) hfm | exact fokIx (by decide +kernel) hfm | exact fokAll (by decide +kernel) hfm | refine Mask.ok_ite ?_ ?_ | refine faultsOf_ok ?_ ?_ | (intro a; refine (fun ha : Keeps fm r0 a.2 => ?_) ?_; clear_value a; rotate_left; dsimp only [a]; rotate_right) | lift_lets -underBinder | apply Keeps.ite | apply handleReq_keeps | apply deliverRsp_keeps

theorem runCharged_keeps {fm : Nat} {r0 : State}  {s : State} {x : Paced} (hfm : Mask.le 0x1ffffffffffffffffffffffffffffffffffffffffffffffffffffffffffffffffffffffffffffffffffffffffffffffffffffffffffffffffffffffffffffffffffffffffffffffffffffffffffffffffffffffffffffffffe fm = true) (h0 : Keeps fm r0 s)  : Keeps fm r0 (runCharged s x) := by
  unfold runCharged
  with_reducible repeat' first | assumption | exact fpart (by decide +kernel) hfm | exact fle (by decide +kernel) hfm | exact fok (by decide +kernel) hfm | exact fall (by decide +kernel) hfm | exact fokIx (by decide +kernel) hfm | exact fokAll (by decide +kernel) hfm | refine Mask.ok_ite ?_ ?_ | refine faultsOf_ok ?_ ?_ | apply Keeps.ite | apply runReq_keeps | fail_if_no_progress (apply Keeps.updDict <;> try first | exact Or.inr (fpart (by decide +kernel) hfm) | exact Or.inl rfl)

theorem submitReq_keeps {fm : Nat} {r0 : State}  {s : State} {src : ReqSrc} {req : Bytes} (hfm : Mask.le 0x1ffffffffffffffffffffffffffffffffffffffffffffffffffffffffffffffffffffffffffffffffffffffffffffffffffffffffffffffffffffffffffffffffffffffffffffffffffffffffffffffffffffffffffffffffe fm = true) (h0 : Keeps fm r0 s)  : Keeps fm r0 (submitReq s src req) := by
  unfold submitReq
  try lift_lets -underBinder
  with_reducible repeat' first | assumption | exact fpart (by decide +kernel) hfm | exact fle (by decide +kernel) hfm | exact fok (by decide +kernel) hfm | exact fall (by decide +kernel) hfm | exact fokIx (by decide +kernel) hfm | exact fokAll (by decide +kernel) hfm | refine Mask.ok_ite ?_ ?_ | refine faultsOf_ok ?_ ?_ | (intro a; refine (fun ha : Keeps fm r0 a => ?_) ?_; clear_value a; rotate_left; dsimp only [a]; rotate_right) | (intro a; refine (fun (_ : a = (a : Dict)) => ?_) rfl; dsimp only [a]) | (intro a; clear_value a) | lift_lets -underBinder | apply Keeps.ite | apply modSess_keeps | apply runCharged_keeps | fail_if_no_progress (apply Keeps.updDict <;> try first | exact Or.inr (fpart (by decide +kernel) hfm) | exact Or.inl rfl) | split

theorem drainPaced_keeps {fm : Nat} {r0 s : State} {n : Nat} (hfm : Mask.le 0x1ffffffffffffffffffffffffffffffffffffffffffffffffffffffffffffffffffffffffffffffffffffffffffffffffffffffffffffffffffffffffffffffffffffffffffffffffffffffffffffffffffffffffffffffffe fm = true) (h0 : Keeps fm r0 s) : Keeps fm r0 (drainPaced n s) := by
  induction n generalizing s with
  | zero => exact h0
  | succ n ih =>
    unfold drainPaced
    split
    · exact h0
    · exact Keeps.ite h0 (ih (runCharged_keeps (fle (by decide +kernel) hfm)
        (Keeps.setDict (d := Dict.mk _ _ _ _ _ _) h0 id id (fun _ _ => rfl) (fun _ _ => rfl) (Or.inr (fpart (by decide +kernel) hfm)))))

theorem execPersistentWritePaced_keeps {fm : Nat} {r0 : State}  {s : State} (hfm : Mask.le 0x1ffffffffffffffffffffffffffffffffffffffffffffffffffffffffffffffffffffffffffffffffffffffffffffffffffffffffffffffffffffffffffffffffffffffffffffffffffffffffffffffffffffffffffffffffe fm = true) (h0 : Keeps fm r0 s)  : ∃ t1, (execPersistentWritePaced s) = .next t1 ∧ Keeps fm r0 t1 := by
  refine ⟨_, rfl, ?_⟩
  try lift_lets -underBinder
  with_reducible repeat' first | assumption | exact fpart (by decide +kernel) hfm | exact fle (by decide +kernel) hfm | exact fok (by decide +kernel) hfm | exact fall (by decide +kernel) hfm | exact fokIx (by decide +kernel) hfm | exact fokAll (by decide +kernel) hfm | refine Mask.ok_ite ?_ ?_ | refine faultsOf_ok ?_ ?_ | (intro a; refine (fun (_ : a = (a : Dict)) => ?_) rfl; dsimp only [a]) | lift_lets -underBinder | apply runReq_keeps | apply drainPaced_keeps | fail_if_no_progress (apply Keeps.updDict <;> try first | exact Or.inr (fpart (by decide +kernel) hfm) | exact Or.inl rfl) | split

theorem execMultipartTimeout_keeps {fm : Nat} {r0 : State}  {session : Nat} {key : Nat} {s : State} (hfm : Mask.le 0x8 fm = true) (h0 : Keeps fm r0 s)  : ∃ t1, (execMultipartTimeout session key s) = .next t1 ∧ Keeps fm r0 t1 := by
  refine ⟨_, rfl, ?_⟩
  with_reducible repeat' first | assumption | exact fpart (by decide +kernel) hfm | exact fle (by decide +kernel) hfm | exact fok (by decide +kernel) hfm | exact fall (by decide +kernel) hfm | exact fokIx (by decide +kernel) hfm | exact fokAll (by decide +kernel) hfm | refine Mask.ok_ite ?_ ?_ | refine faultsOf_ok ?_ ?_ | apply dropPart_keeps

theorem engineReq_keeps {fm : Nat} {r0 : State}  {s : State} {sess : Option Nat} {op : Nat} {req : Bytes} (hfm : Mask.le 0x1ffffffffffffffffffffffffffffffffffffffffffffffffffffffffffffffffffffffffffffffffffffffffffffffffffffffffffffffffffffffffffffffffffffffffffffffffffffffffffffffffffffffffffffffffe fm = true) (h0 : Keeps fm r0 s)  : Keeps fm r0 (engineReq s sess op req) := by
  unfold engineReq
  with_reducible repeat' first | assumption | exact fpart (by decide +kernel) hfm | exact fle (by decide +kernel) hfm | exact fok (by decide +kernel) hfm | exact fall (by decide +kernel) hfm | exact fokIx (by decide +kernel) hfm | exact fokAll (by decide +kernel) hfm | refine Mask.ok_ite ?_ ?_ | refine faultsOf_ok ?_ ?_ | apply Keeps.ite | apply submitReq_keeps

theorem execDictionaryRead_keeps {fm : Nat} {r0 : State}  {sess : Option Nat} {req : Bytes} {s : State} (hfm : Mask.le 0x1ffffffffffffffffffffffffffffffffffffffffffffffffffffffffffffffffffffffffffffffffffffffffffffffffffffffffffffffffffffffffffffffffffffffffffffffffffffffffffffffffffffffffffffffffe fm = true) (h0 : Keeps fm r0 s)  : ∃ t1, (execDictionaryRead sess req s) = .next t1 ∧ Keeps fm r0 t1 := by
  refine ⟨_, rfl, ?_⟩
  with_reducible repeat' first | assumption | exact fpart (by decide +kernel) hfm | exact fle (by decide +kernel) hfm | exact fok (by decide +kernel) hfm | exact fall (by decide +kernel) hfm | exact fokIx (by decide +kernel) hfm | exact fokAll (by decide +kernel) hfm | refine Mask.ok_ite ?_ ?_ | refine faultsOf_ok ?_ ?_ | apply engineReq_keeps

theorem execDictionaryWrite_keeps {fm : Nat} {r0 : State}  {sess : Option Nat} {req : Bytes} {s : State} (hfm : Mask.le 0x1ffffffffffffffffffffffffffffffffffffffffffffffffffffffffffffffffffffffffffffffffffffffffffffffffffffffffffffffffffffffffffffffffffffffffffffffffffffffffffffffffffffffffffffffffe fm = true) (h0 : Keeps fm r0 s)  : ∃ t1, (execDictionaryWrite sess req s) = .next t1 ∧ Keeps fm r0 t1 := by
  refine ⟨_, rfl, ?_⟩
  with_reducible repeat' first | assumption | exact fpart (by decide +kernel) hfm | exact fle (by decide +kernel) hfm | exact fok (by decide +kernel) hfm | exact fall (by decide +kernel) hfm | exact fokIx (by decide +kernel) hfm | exact fokAll (by decide +kernel) hfm | refine Mask.ok_ite ?_ ?_ | refine faultsOf_ok ?_ ?_ | apply engineReq_keeps

theorem execDictionaryNop_keeps {fm : Nat} {r0 : State}  {sess : Option Nat} {req : Bytes} {s : State} (hfm : Mask.le 0x1ffffffffffffffffffffffffffffffffffffffffffffffffffffffffffffffffffffffffffffffffffffffffffffffffffffffffffffffffffffffffffffffffffffffffffffffffffffffffffffffffffffffffffffffffe fm = true) (h0 : Keeps fm r0 s)  : ∃ t1, (execDictionaryNop sess req s) = .next t1 ∧ Keeps fm r0 t1 := by
  refine ⟨_, rfl, ?_⟩
  with_reducible repeat' first | assumption | exact fpart (by decide +kernel) hfm | exact fle (by decide +kernel) hfm | exact fok (by decide +kernel) hfm | exact fall (by decide +kernel) hfm | exact fokIx (by decide +kernel) hfm | exact fokAll (by decide +kernel) hfm | refine Mask.ok_ite ?_ ?_ | refine faultsOf_ok ?_ ?_ | apply engineReq_keeps

theorem dictCommand_keeps {fm : Nat} {r0 : State}  {s : State} {q : Nat} {tag : Nat} {op : Nat} {req : Bytes} (hfm : Mask.le 0x1ffffffffffffffffffffffffffffffffffffffffffffffffffffffffffffffffffffffffffffffffffffffffffffffffffffffffffffffffffffffffffffffffffffffffffffffffffffffffffffffffffffffffffffffffe fm = true) (h0 : Keeps fm r0 s)  : Keeps fm r0 (dictCommand s q tag op req) := by
  unfold dictCommand
  try lift_lets -underBinder
  with_reducible repeat' first | assumption | exact fpart (by decide +kernel) hfm | exact fle (by decide +kernel) hfm | exact fok (by decide +kernel) hfm | exact fall (by decide +kernel) hfm | exact fokIx (by decide +kernel) hfm | exact fokAll (by decide +kernel) hfm | refine Mask.ok_ite ?_ ?_ | refine faultsOf_ok ?_ ?_ | (intro a; refine (fun ha : Keeps fm r0 a => ?_) ?_; clear_value a; rotate_left; dsimp only [a]; rotate_right) | lift_lets -underBinder | apply emit_keeps | apply submitReq_keeps | apply modCmd_keeps | split

theorem execDictRead_keeps {fm : Nat} {r0 : State}  {q : Nat} {tag : Nat} {req : Bytes} {s : State} (hfm : Mask.le 0x1ffffffffffffffffffffffffffffffffffffffffffffffffffffffffffffffffffffffffffffffffffffffffffffffffffffffffffffffffffffffffffffffffffffffffffffffffffffffffffffffffffffffffffffffffe fm = true) (h0 : Keeps fm r0 s)  : ∃ t1, (execDictRead q tag req s) = .next t1 ∧ Keeps fm r0 t1 := by
  refine ⟨_, rfl, ?_⟩
  with_reducible repeat' first | assumption | exact fpart (by decide +kernel) hfm | exact fle (by decide +kernel) hfm | exact fok (by decide +kernel) hfm | exact fall (by decide +kernel) hfm | exact fokIx (by decide +kernel) hfm | exact fokAll (by decide +kernel) hfm | refine Mask.ok_ite ?_ ?_ | refine faultsOf_ok ?_ ?_ | apply dictCommand_keeps

theorem execDictWrite_keeps {fm : Nat} {r0 : State}  {q : Nat} {tag : Nat} {req : Bytes} {s : State} (hfm : Mask.le 0x1ffffffffffffffffffffffffffffffffffffffffffffffffffffffffffffffffffffffffffffffffffffffffffffffffffffffffffffffffffffffffffffffffffffffffffffffffffffffffffffffffffffffffffffffffe fm = true) (h0 : Keeps fm r0 s)  : ∃ t1, (execDictWrite q tag req s) = .next t1 ∧ Keeps fm r0 t1 := by
  refine ⟨_, rfl, ?_⟩
  with_reducible repeat' first | assumption | exact fpart (by decide +kernel) hfm | exact fle (by decide +kernel) hfm | exact fok (by decide +kernel) hfm | exact fall (by decide +kernel) hfm | exact fokIx (by decide +kernel) hfm | exact fokAll (by decide +kernel) hfm | refine Mask.ok_ite ?_ ?_ | refine faultsOf_ok ?_ ?_ | apply dictCommand_keeps

theorem execFactoryDefaults_keeps {fm : Nat} {r0 : State}  {value : Nat} {s : State} (hfm : Mask.le 0x1ffffffffffffffffffffffffffffffffffffffffffffffffffffffffffffffffffffffffffffffffffffffffffffffffffffffffffffffffffffffffffffffffffffffffffffffffffffffffffffffffffffffffffffffffe fm = true) (h0 : Keeps fm r0 s)  : ∃ t1, (execFactoryDefaults value s) = .next t1 ∧ Keeps fm r0 t1 := by
  refine ⟨_, rfl, ?_⟩
  with_reducible repeat' first | assumption | exact fpart (by decide +kernel) hfm | exact fle (by decide +kernel) hfm | exact fok (by decide +kernel) hfm | exact fall (by decide +kernel) hfm | exact fokIx (by decide +kernel) hfm | exact fokAll (by decide +kernel) hfm | refine Mask.ok_ite ?_ ?_ | refine faultsOf_ok ?_ ?_ | apply writeObj_keeps

theorem execMgmtOobEnChange_keeps {fm : Nat} {r0 : State}  {level : Bool} {s : State} (hfm : Mask.le 0x4000000000000000000000000000000000000000000000000000000000000000000000000000000000000000000000000000000000000000000000000000000000000 fm = true) (h0 : Keeps fm r0 s)  : ∃ t1, (execMgmtOobEnChange level s) = .next t1 ∧ Keeps fm r0 t1 := by
  refine ⟨_, rfl, ?_⟩
  with_reducible repeat' first | assumption | exact fpart (by decide +kernel) hfm | exact fle (by decide +kernel) hfm | exact fok (by decide +kernel) hfm | exact fall (by decide +kernel) hfm | exact fokIx (by decide +kernel) hfm | exact fokAll (by decide +kernel) hfm | refine Mask.ok_ite ?_ ?_ | refine faultsOf_ok ?_ ?_ | apply wrB_keeps

/-! ## Mmio -/

theorem noteStraddle_keeps {fm : Nat} {r0 : State}  {s : State} {f : Nat} {bar : Nat} {off : Nat} (hfm : Mask.le 0x30080000000000000000000000000000000000000000000000000000000000000000000000000000017c000010000000000000000000000000000000000000000000000000000800120 fm = true) (h0 : Keeps fm r0 s)  : Keeps fm r0 (noteStraddle s f bar off) := by
  unfold noteStraddle
  with_reducible repeat' first | assumption | exact fpart (by decide +kernel) hfm | exact fle (by decide +kernel) hfm | exact fok (by decide +kernel) hfm | exact fall (by decide +kernel) hfm | exact fokIx (by decide +kernel) hfm | exact fokAll (by decide +kernel) hfm | refine Mask.ok_ite ?_ ?_ | refine faultsOf_ok ?_ ?_ | apply raise_keeps | apply bump_keeps

theorem adminCtrl_keeps {fm : Nat} {r0 : State}  {s : State} {f : Nat} {v : Nat} (hfm : Mask.le 0x1f000000000070001e00000000000001ff8000000000000000001400000000000019000000000000000000000000000000000020ab88040000020000040867ae8 fm = true) (h0 : Keeps fm r0 s)  : Keeps fm r0 (adminCtrl s f v) := by
  unfold adminCtrl
  try lift_lets -underBinder
  with_reducible repeat' first | assumption | exact fpart (by decide +kernel) hfm | exact fle (by decide +kernel) hfm | exact fok (by decide +kernel) hfm | exact fall (by decide +kernel) hfm | exact fokIx (by decide +kernel) hfm | exact fokAll (by decide +kernel) hfm | refine Mask.ok_ite ?_ ?_ | refine faultsOf_ok ?_ ?_ | (intro a; clear_value a) | lift_lets -underBinder | apply Keeps.ite | apply took_keeps | apply execAdminCtrlReset_keeps | apply execAdminCtrlMode_keeps | apply execAdminCtrlEnable_keeps | apply wr_keeps

theorem adminWrite_keeps {fm : Nat} {r0 : State}  {s : State} {f : Nat} {off : Nat} {b : Bytes} (hfm : Mask.le 0x1f000000000070001e00000000000001ff80000000000000000014000000000000190000000000000000000000000000000000e0ab8fe40000020000040867ae8 fm = true) (h0 : Keeps fm r0 s)  : Keeps fm r0 (adminWrite s f off b) := by
  unfold adminWrite
  try lift_lets -underBinder
  with_reducible repeat' first | assumption | exact fpart (by decide +kernel) hfm | exact fle (by decide +kernel) hfm | exact fok (by decide +kernel) hfm | exact fall (by decide +kernel) hfm | exact fokIx (by decide +kernel) hfm | exact fokAll (by decide +kernel) hfm | refine Mask.ok_ite ?_ ?_ | refine faultsOf_ok ?_ ?_ | (intro a; clear_value a) | lift_lets -underBinder | apply Keeps.ite | apply adminCtrl_keeps | apply wr_keeps | apply wrB_keeps

theorem doorbellWrite_keeps {fm : Nat} {r0 : State}  {s : State} {f : Nat} {off : Nat} {b : Bytes} (hfm : Mask.le 0x1f000000000070001e00000000000001ff80000000000000000014000000000000190000000000000000000000000000000000ffab8fe40000020000040867ae8 fm = true) (h0 : Keeps fm r0 s)  : Keeps fm r0 (doorbellWrite s f off b) := by
  unfold doorbellWrite
  try lift_lets -underBinder
  with_reducible repeat' first | assumption | exact fpart (by decide +kernel) hfm | exact fle (by decide +kernel) hfm | exact fok (by decide +kernel) hfm | exact fall (by decide +kernel) hfm | exact fokIx (by decide +kernel) hfm | exact fokAll (by decide +kernel) hfm | refine Mask.ok_ite ?_ ?_ | refine faultsOf_ok ?_ ?_ | (intro a; clear_value a) | lift_lets -underBinder | apply Keeps.ite | apply adminWrite_keeps | apply took_keeps | apply execPushSlotWrite_keeps | apply execSrNotify_keeps | apply execCrRelease_keeps | split

theorem msixWrite_keeps {fm : Nat} {r0 : State}  {s : State} {f : Nat} {v : Nat} {dw : Nat} {val : Nat} (hfm : Mask.le 0x800100 fm = true) (h0 : Keeps fm r0 s)  : Keeps fm r0 (msixWrite s f v dw val) := by
  unfold msixWrite
  with_reducible repeat' first | assumption | exact fpart (by decide +kernel) hfm | exact fle (by decide +kernel) hfm | exact fok (by decide +kernel) hfm | exact fall (by decide +kernel) hfm | exact fokIx (by decide +kernel) hfm | exact fokAll (by decide +kernel) hfm | refine Mask.ok_ite ?_ ?_ | refine faultsOf_ok ?_ ?_ | apply Keeps.ite | apply modFn_keeps | apply flushMsix_keeps

theorem bar0Write_keeps {fm : Nat} {r0 : State}  {s : State} {f : Nat} {off : Nat} {b : Bytes} (hfm : Mask.le 0x800100 fm = true) (h0 : Keeps fm r0 s)  : Keeps fm r0 (bar0Write s f off b) := by
  unfold bar0Write
  try lift_lets -underBinder
  with_reducible repeat' first | assumption | exact fpart (by decide +kernel) hfm | exact fle (by decide +kernel) hfm | exact fok (by decide +kernel) hfm | exact fall (by decide +kernel) hfm | exact fokIx (by decide +kernel) hfm | exact fokAll (by decide +kernel) hfm | refine Mask.ok_ite ?_ ?_ | refine faultsOf_ok ?_ ?_ | refine fun _ _ (_ : Keeps fm r0 _) => ?_ | (intro a; clear_value a) | lift_lets -underBinder | apply Keeps.ite | apply msixWrite_keeps | apply Keeps.forRange

theorem keyControl_keeps {fm : Nat} {r0 : State}  {s : State} {pf : Nat} {v : Nat} (hfm : Mask.le 0x80000000000004000100020000003c0000000000000600000000000000000000000000000000000000000000000080000000000000000000000000000000007fc010000000000000600000000818100 fm = true) (h0 : Keeps fm r0 s)  : Keeps fm r0 (keyControl s pf v) := by
  unfold keyControl
  try lift_lets -underBinder
  with_reducible repeat' first | assumption | exact fpart (by decide +kernel) hfm | exact fle (by decide +kernel) hfm | exact fok (by decide +kernel) hfm | exact fall (by decide +kernel) hfm | exact fokIx (by decide +kernel) hfm | exact fokAll (by decide +kernel) hfm | refine Mask.ok_ite ?_ ?_ | refine faultsOf_ok ?_ ?_ | (intro a; clear_value a) | lift_lets -underBinder | apply Keeps.ite | apply dropWindow_keeps | apply took_keeps | apply execLoad_keeps | apply execInstallCurrent_keeps | apply execInstallPrevious_keeps | apply execRetire_keeps | apply execDestroy_keeps | apply execClearStaging_keeps

theorem bar4Write_keeps {fm : Nat} {r0 : State}  {s : State} {f : Nat} {off : Nat} {b : Bytes} (hfm : Mask.le 0x80000000000004000100020000003c0000000000000600000000000000000000000000000000000000000000000080000000000000000000000000000000007fc010000000000000600000000818100 fm = true) (h0 : Keeps fm r0 s)  : Keeps fm r0 (bar4Write s f off b) := by
  unfold bar4Write
  with_reducible repeat' first | assumption | exact fpart (by decide +kernel) hfm | exact fle (by decide +kernel) hfm | exact fok (by decide +kernel) hfm | exact fall (by decide +kernel) hfm | exact fokIx (by decide +kernel) hfm | exact fokAll (by decide +kernel) hfm | refine Mask.ok_ite ?_ ?_ | refine faultsOf_ok ?_ ?_ | apply Keeps.ite | apply keyControl_keeps | apply took_keeps | apply execKeyStagingWrite_keeps

theorem barWrite_keeps {fm : Nat} {r0 : State}  {s : State} {f : Nat} {bar : Nat} {off : Nat} {b : Bytes} (hfm : Mask.le 0x80000000000004000100020000003c1f000000000076001e00000000000001ff800000000000000000140000000080001900000000000000000000000000007fc010ffab8fe4000062000004087fbe8 fm = true) (h0 : Keeps fm r0 s)  : Keeps fm r0 (barWrite s f bar off b) := by
  unfold barWrite
  with_reducible repeat' first | assumption | exact fpart (by decide +kernel) hfm | exact fle (by decide +kernel) hfm | exact fok (by decide +kernel) hfm | exact fall (by decide +kernel) hfm | exact fokIx (by decide +kernel) hfm | exact fokAll (by decide +kernel) hfm | refine Mask.ok_ite ?_ ?_ | refine faultsOf_ok ?_ ?_ | apply Keeps.ite | apply bar0Write_keeps | apply doorbellWrite_keeps | apply bar4Write_keeps

theorem mmioWrite_keeps {fm : Nat} {r0 : State}  {s : State} {f : Nat} {bar : Nat} {off : Nat} {b : Bytes} (hfm : Mask.le 0x80000000000034080100020000003c1f000000000076001e00000000000001ff8000000000000000001400000000817c1900100000000000000000000000007fc010ffab8fe4000062000004087fbe8 fm = true) (h0 : Keeps fm r0 s)  : Keeps fm r0 (mmioWrite s f bar off b) := by
  unfold mmioWrite
  try lift_lets -underBinder
  with_reducible repeat' first | assumption | exact fpart (by decide +kernel) hfm | exact fle (by decide +kernel) hfm | exact fok (by decide +kernel) hfm | exact fall (by decide +kernel) hfm | exact fokIx (by decide +kernel) hfm | exact fokAll (by decide +kernel) hfm | refine Mask.ok_ite ?_ ?_ | refine faultsOf_ok ?_ ?_ | (intro a; clear_value a) | lift_lets -underBinder | apply Keeps.ite | apply emit_keeps | apply noteStraddle_keeps | apply barWrite_keeps

theorem mmioRead_keeps {fm : Nat} {r0 : State}  {s : State} {f : Nat} {bar : Nat} {off : Nat} {len : Nat} (hfm : Mask.le 0x30080000000000000000000000000000000000000000000000000000000000000000000000000000017c000010000000000000000000000000000000000000000000000000000800120 fm = true) (h0 : Keeps fm r0 s)  : Keeps fm r0 (mmioRead s f bar off len) := by
  unfold mmioRead
  with_reducible repeat' first | assumption | exact fpart (by decide +kernel) hfm | exact fle (by decide +kernel) hfm | exact fok (by decide +kernel) hfm | exact fall (by decide +kernel) hfm | exact fokIx (by decide +kernel) hfm | exact fokAll (by decide +kernel) hfm | refine Mask.ok_ite ?_ ?_ | refine faultsOf_ok ?_ ?_ | apply Keeps.ite | apply emit_keeps | apply noteStraddle_keeps

theorem cfgWrite_keeps {fm : Nat} {r0 : State}  {s : State} {f : Nat} {bit : CfgBit} {v : Bool} (hfm : Mask.le 0x800100 fm = true) (h0 : Keeps fm r0 s)  : Keeps fm r0 (cfgWrite s f bit v) := by
  unfold cfgWrite
  with_reducible repeat' first | assumption | exact fpart (by decide +kernel) hfm | exact fle (by decide +kernel) hfm | exact fok (by decide +kernel) hfm | exact fall (by decide +kernel) hfm | exact fokIx (by decide +kernel) hfm | exact fokAll (by decide +kernel) hfm | refine Mask.ok_ite ?_ ?_ | refine faultsOf_ok ?_ ?_ | apply Keeps.ite | apply modFn_keeps | apply flushMsix_keeps | split

theorem objectWrite_keeps {fm : Nat} {r0 : State}  {s : State} {index : Nat} {inst : Nat} {sub : Nat} {v : Val} (hfm : Mask.le 0x1ffffffffffffffffffffffffffffffffffffffffffffffffffffffffffffffffffffffffffffffffffffffffffffffffffffffffffffffffffffffffffffffffffffffffffffffffffffffffffffffffffffffffffffffffe fm = true) (h0 : Keeps fm r0 s)  : Keeps fm r0 (objectWrite s index inst sub v) := by
  unfold objectWrite
  try lift_lets -underBinder
  with_reducible repeat' first | assumption | exact fpart (by decide +kernel) hfm | exact fle (by decide +kernel) hfm | exact fok (by decide +kernel) hfm | exact fall (by decide +kernel) hfm | exact fokIx (by decide +kernel) hfm | exact fokAll (by decide +kernel) hfm | refine Mask.ok_ite ?_ ?_ | refine faultsOf_ok ?_ ?_ | (intro a; refine (fun ha : Keeps fm r0 a => ?_) ?_; clear_value a; rotate_left; dsimp only [a]; rotate_right) | (intro a; clear_value a) | lift_lets -underBinder | apply Keeps.ite | apply applyWrite_keeps | apply bump_keeps | split

theorem execRegisterWrite_keeps {fm : Nat} {r0 : State}  {t : RegTarget} {s : State} (hfm : Mask.le 0x1ffffffffffffffffffffffffffffffffffffffffffffffffffffffffffffffffffffffffffffffffffffffffffffffffffffffffffffffffffffffffffffffffffffffffffffffffffffffffffffffffffffffffffffffffe fm = true) (h0 : Keeps fm r0 s)  : ∃ t1, (execRegisterWrite t s) = .next t1 ∧ Keeps fm r0 t1 := by
  refine ⟨_, rfl, ?_⟩
  with_reducible repeat' first | assumption | exact fpart (by decide +kernel) hfm | exact fle (by decide +kernel) hfm | exact fok (by decide +kernel) hfm | exact fall (by decide +kernel) hfm | exact fokIx (by decide +kernel) hfm | exact fokAll (by decide +kernel) hfm | refine Mask.ok_ite ?_ ?_ | refine faultsOf_ok ?_ ?_ | apply objectWrite_keeps | apply mmioWrite_keeps | apply mmioRead_keeps | apply cfgWrite_keeps | split

/-! ## Mgmt -/

theorem modMgmt_keeps {fm : Nat} {r0 : State}  {s : State} {f : MgmtSt → MgmtSt} (hfm : Mask.le 0x200000 fm = true) (h0 : Keeps fm r0 s)  : Keeps fm r0 (modMgmt s f) := by
  unfold modMgmt
  with_reducible repeat' first | assumption | exact fpart (by decide +kernel) hfm | exact fle (by decide +kernel) hfm | exact fok (by decide +kernel) hfm | exact fall (by decide +kernel) hfm | exact fokIx (by decide +kernel) hfm | exact fokAll (by decide +kernel) hfm | refine Mask.ok_ite ?_ ?_ | refine faultsOf_ok ?_ ?_ | fail_if_no_progress (apply Keeps.upd <;> try first | exact Or.inr (fpart (by decide +kernel) hfm) | exact Or.inl rfl)

theorem controlRsp_keeps {fm : Nat} {r0 : State}  {s : State} {src : Nat} {inst : Nat} {cmd : Nat} {code : Nat} {b : Bytes} (hfm : Mask.le 0x800000 fm = true) (h0 : Keeps fm r0 s)  : Keeps fm r0 (controlRsp s src inst cmd code b) := by
  unfold controlRsp
  with_reducible repeat' first | assumption | exact fpart (by decide +kernel) hfm | exact fle (by decide +kernel) hfm | exact fok (by decide +kernel) hfm | exact fall (by decide +kernel) hfm | exact fokIx (by decide +kernel) hfm | exact fokAll (by decide +kernel) hfm | refine Mask.ok_ite ?_ ?_ | refine faultsOf_ok ?_ ?_ | apply Keeps.ite | apply sendMctp_keeps

theorem setEid_keeps {fm : Nat} {r0 : State}  {s : State} {src : Nat} {inst : Nat} {op : Nat} {eid : Nat} (hfm : Mask.le 0xa00000 fm = true) (h0 : Keeps fm r0 s)  : Keeps fm r0 (setEid s src inst op eid) := by
  unfold setEid
  with_reducible repeat' first | assumption | exact fpart (by decide +kernel) hfm | exact fle (by decide +kernel) hfm | exact fok (by decide +kernel) hfm | exact fall (by decide +kernel) hfm | exact fokIx (by decide +kernel) hfm | exact fokAll (by decide +kernel) hfm | refine Mask.ok_ite ?_ ?_ | refine faultsOf_ok ?_ ?_ | apply Keeps.ite | apply controlRsp_keeps | apply modMgmt_keeps

theorem execSetEndpointId_keeps {fm : Nat} {r0 : State}  {src : Nat} {inst : Nat} {op : Nat} {eid : Nat} {s : State} (hfm : Mask.le 0xa00000 fm = true) (h0 : Keeps fm r0 s)  : ∃ t1, (execSetEndpointId src inst op eid s) = .next t1 ∧ Keeps fm r0 t1 := by
  refine ⟨_, rfl, ?_⟩
  with_reducible repeat' first | assumption | exact fpart (by decide +kernel) hfm | exact fle (by decide +kernel) hfm | exact fok (by decide +kernel) hfm | exact fall (by decide +kernel) hfm | exact fokIx (by decide +kernel) hfm | exact fokAll (by decide +kernel) hfm | refine Mask.ok_ite ?_ ?_ | refine faultsOf_ok ?_ ?_ | apply setEid_keeps

theorem getEid_keeps {fm : Nat} {r0 : State}  {s : State} {src : Nat} {inst : Nat} (hfm : Mask.le 0x800000 fm = true) (h0 : Keeps fm r0 s)  : Keeps fm r0 (getEid s src inst) := by
  unfold getEid
  with_reducible repeat' first | assumption | exact fpart (by decide +kernel) hfm | exact fle (by decide +kernel) hfm | exact fok (by decide +kernel) hfm | exact fall (by decide +kernel) hfm | exact fokIx (by decide +kernel) hfm | exact fokAll (by decide +kernel) hfm | refine Mask.ok_ite ?_ ?_ | refine faultsOf_ok ?_ ?_ | apply controlRsp_keeps

theorem execGetEndpointId_keeps {fm : Nat} {r0 : State}  {src : Nat} {inst : Nat} {s : State} (hfm : Mask.le 0x800000 fm = true) (h0 : Keeps fm r0 s)  : ∃ t1, (execGetEndpointId src inst s) = .next t1 ∧ Keeps fm r0 t1 := by
  refine ⟨_, rfl, ?_⟩
  with_reducible repeat' first | assumption | exact fpart (by decide +kernel) hfm | exact fle (by decide +kernel) hfm | exact fok (by decide +kernel) hfm | exact fall (by decide +kernel) hfm | exact fokIx (by decide +kernel) hfm | exact fokAll (by decide +kernel) hfm | refine Mask.ok_ite ?_ ?_ | refine faultsOf_ok ?_ ?_ | apply getEid_keeps

theorem getVersion_keeps {fm : Nat} {r0 : State}  {s : State} {src : Nat} {inst : Nat} {ty : Nat} (hfm : Mask.le 0x800000 fm = true) (h0 : Keeps fm r0 s)  : Keeps fm r0 (getVersion s src inst ty) := by
  unfold getVersion
  with_reducible repeat' first | assumption | exact fpart (by decide +kernel) hfm | exact fle (by decide +kernel) hfm | exact fok (by decide +kernel) hfm | exact fall (by decide +kernel) hfm | exact fokIx (by decide +kernel) hfm | exact fokAll (by decide +kernel) hfm | refine Mask.ok_ite ?_ ?_ | refine faultsOf_ok ?_ ?_ | apply Keeps.ite | apply controlRsp_keeps

theorem execGetMctpVersionSupport_keeps {fm : Nat} {r0 : State}  {src : Nat} {inst : Nat} {ty : Nat} {s : State} (hfm : Mask.le 0x800000 fm = true) (h0 : Keeps fm r0 s)  : ∃ t1, (execGetMctpVersionSupport src inst ty s) = .next t1 ∧ Keeps fm r0 t1 := by
  refine ⟨_, rfl, ?_⟩
  with_reducible repeat' first | assumption | exact fpart (by decide +kernel) hfm | exact fle (by decide +kernel) hfm | exact fok (by decide +kernel) hfm | exact fall (by decide +kernel) hfm | exact fokIx (by decide +kernel) hfm | exact fokAll (by decide +kernel) hfm | refine Mask.ok_ite ?_ ?_ | refine faultsOf_ok ?_ ?_ | apply getVersion_keeps

theorem getTypes_keeps {fm : Nat} {r0 : State}  {s : State} {src : Nat} {inst : Nat} (hfm : Mask.le 0x800000 fm = true) (h0 : Keeps fm r0 s)  : Keeps fm r0 (getTypes s src inst) := by
  unfold getTypes
  with_reducible repeat' first | assumption | exact fpart (by decide +kernel) hfm | exact fle (by decide +kernel) hfm | exact fok (by decide +kernel) hfm | exact fall (by decide +kernel) hfm | exact fokIx (by decide +kernel) hfm | exact fokAll (by decide +kernel) hfm | refine Mask.ok_ite ?_ ?_ | refine faultsOf_ok ?_ ?_ | apply controlRsp_keeps

theorem execGetMessageTypeSupport_keeps {fm : Nat} {r0 : State}  {src : Nat} {inst : Nat} {s : State} (hfm : Mask.le 0x800000 fm = true) (h0 : Keeps fm r0 s)  : ∃ t1, (execGetMessageTypeSupport src inst s) = .next t1 ∧ Keeps fm r0 t1 := by
  refine ⟨_, rfl, ?_⟩
  with_reducible repeat' first | assumption | exact fpart (by decide +kernel) hfm | exact fle (by decide +kernel) hfm | exact fok (by decide +kernel) hfm | exact fall (by decide +kernel) hfm | exact fokIx (by decide +kernel) hfm | exact fokAll (by decide +kernel) hfm | refine Mask.ok_ite ?_ ?_ | refine faultsOf_ok ?_ ?_ | apply getTypes_keeps

theorem getVendor_keeps {fm : Nat} {r0 : State}  {s : State} {src : Nat} {inst : Nat} {sel : Nat} (hfm : Mask.le 0x800000 fm = true) (h0 : Keeps fm r0 s)  : Keeps fm r0 (getVendor s src inst sel) := by
  unfold getVendor
  with_reducible repeat' first | assumption | exact fpart (by decide +kernel) hfm | exact fle (by decide +kernel) hfm | exact fok (by decide +kernel) hfm | exact fall (by decide +kernel) hfm | exact fokIx (by decide +kernel) hfm | exact fokAll (by decide +kernel) hfm | refine Mask.ok_ite ?_ ?_ | refine faultsOf_ok ?_ ?_ | apply Keeps.ite | apply controlRsp_keeps

theorem execGetVendorDefinedMessageSupport_keeps {fm : Nat} {r0 : State}  {src : Nat} {inst : Nat} {sel : Nat} {s : State} (hfm : Mask.le 0x800000 fm = true) (h0 : Keeps fm r0 s)  : ∃ t1, (execGetVendorDefinedMessageSupport src inst sel s) = .next t1 ∧ Keeps fm r0 t1 := by
  refine ⟨_, rfl, ?_⟩
  with_reducible repeat' first | assumption | exact fpart (by decide +kernel) hfm | exact fle (by decide +kernel) hfm | exact fok (by decide +kernel) hfm | exact fall (by decide +kernel) hfm | exact fokIx (by decide +kernel) hfm | exact fokAll (by decide +kernel) hfm | refine Mask.ok_ite ?_ ?_ | refine faultsOf_ok ?_ ?_ | apply getVendor_keeps

theorem controlMsg_keeps {fm : Nat} {r0 : State}  {s : State} {src : Nat} {b : Bytes} (hfm : Mask.le 0xa00000 fm = true) (h0 : Keeps fm r0 s)  : Keeps fm r0 (controlMsg s src b) := by
  unfold controlMsg
  try lift_lets -underBinder
  with_reducible repeat' first | assumption | exact fpart (by decide +kernel) hfm | exact fle (by decide +kernel) hfm | exact fok (by decide +kernel) hfm | exact fall (by decide +kernel) hfm | exact fokIx (by decide +kernel) hfm | exact fokAll (by decide +kernel) hfm | refine Mask.ok_ite ?_ ?_ | refine faultsOf_ok ?_ ?_ | (intro a; clear_value a) | lift_lets -underBinder | apply Keeps.ite | apply setEid_keeps | apply getEid_keeps | apply getVersion_keeps | apply getTypes_keeps | apply getVendor_keeps | apply controlRsp_keeps

theorem sendSpdm_keeps {fm : Nat} {r0 : State}  {s : State} {udp : Bool} {peer : Nat} {sess : Option Nat} {code : Nat} {p1 : Nat} {b : Bytes} (hfm : Mask.le 0x800000 fm = true) (h0 : Keeps fm r0 s)  : Keeps fm r0 (sendSpdm s udp peer sess code p1 b) := by
  unfold sendSpdm
  try lift_lets -underBinder
  with_reducible repeat' first | assumption | exact fpart (by decide +kernel) hfm | exact fle (by decide +kernel) hfm | exact fok (by decide +kernel) hfm | exact fall (by decide +kernel) hfm | exact fokIx (by decide +kernel) hfm | exact fokAll (by decide +kernel) hfm | refine Mask.ok_ite ?_ ?_ | refine faultsOf_ok ?_ ?_ | (intro a; clear_value a) | lift_lets -underBinder | apply Keeps.ite | apply emit_keeps | apply sendMctp_keeps

theorem spdmError_keeps {fm : Nat} {r0 : State}  {s : State} {udp : Bool} {peer : Nat} {sess : Option Nat} {e : Nat} (hfm : Mask.le 0x800000 fm = true) (h0 : Keeps fm r0 s)  : Keeps fm r0 (spdmError s udp peer sess e) := by
  unfold spdmError
  with_reducible repeat' first | assumption | exact fpart (by decide +kernel) hfm | exact fle (by decide +kernel) hfm | exact fok (by decide +kernel) hfm | exact fall (by decide +kernel) hfm | exact fokIx (by decide +kernel) hfm | exact fokAll (by decide +kernel) hfm | refine Mask.ok_ite ?_ ?_ | refine faultsOf_ok ?_ ?_ | apply sendSpdm_keeps

theorem spdmFree_keeps {fm : Nat} {r0 : State}  {s : State} {udp : Bool} {peer : Nat} {sess : Option Nat} {code : Nat} {p1 : Nat} (hfm : Mask.le 0x1800000 fm = true) (h0 : Keeps fm r0 s)  : Keeps fm r0 (spdmFree s udp peer sess code p1) := by
  unfold spdmFree
  with_reducible repeat' first | assumption | exact fpart (by decide +kernel) hfm | exact fle (by decide +kernel) hfm | exact fok (by decide +kernel) hfm | exact fall (by decide +kernel) hfm | exact fokIx (by decide +kernel) hfm | exact fokAll (by decide +kernel) hfm | refine Mask.ok_ite ?_ ?_ | refine faultsOf_ok ?_ ?_ | apply sendSpdm_keeps | apply takeFree_keeps

theorem execKeyExchange_keeps {fm : Nat} {r0 : State}  {udp : Bool} {peer : Nat} {ok : Bool} {s : State} (hfm : Mask.le 0x1a00000 fm = true) (h0 : Keeps fm r0 s)  : ∃ t1, (execKeyExchange udp peer ok s) = .next t1 ∧ Keeps fm r0 t1 := by
  refine ⟨_, rfl, ?_⟩
  with_reducible repeat' first | assumption | exact fpart (by decide +kernel) hfm | exact fle (by decide +kernel) hfm | exact fok (by decide +kernel) hfm | exact fall (by decide +kernel) hfm | exact fokIx (by decide +kernel) hfm | exact fokAll (by decide +kernel) hfm | refine Mask.ok_ite ?_ ?_ | refine faultsOf_ok ?_ ?_ | apply Keeps.ite | apply spdmError_keeps | apply spdmFree_keeps | apply modMgmt_keeps | split

theorem forgetShake_keeps {fm : Nat} {r0 : State}  {s : State} {n : Nat} (hfm : Mask.le 0x200000 fm = true) (h0 : Keeps fm r0 s)  : Keeps fm r0 (forgetShake s n) := by
  unfold forgetShake
  with_reducible repeat' first | assumption | exact fpart (by decide +kernel) hfm | exact fle (by decide +kernel) hfm | exact fok (by decide +kernel) hfm | exact fall (by decide +kernel) hfm | exact fokIx (by decide +kernel) hfm | exact fokAll (by decide +kernel) hfm | refine Mask.ok_ite ?_ ?_ | refine faultsOf_ok ?_ ?_ | apply modMgmt_keeps

theorem execFinish_keeps {fm : Nat} {r0 : State}  {session : Nat} {ok : Bool} {s : State} (hfm : Mask.le 0x1e000000000000000000000000000000000000000000000000000000000000000000000000000000000000000000000000000000001a00008 fm = true) (h0 : Keeps fm r0 s)  : ∃ t1, (execFinish session ok s) = .next t1 ∧ Keeps fm r0 t1 := by
  refine ⟨_, rfl, ?_⟩
  try lift_lets -underBinder
  with_reducible repeat' first | assumption | exact fpart (by decide +kernel) hfm | exact fle (by decide +kernel) hfm | exact fok (by decide +kernel) hfm | exact fall (by decide +kernel) hfm | exact fokIx (by decide +kernel) hfm | exact fokAll (by decide +kernel) hfm | refine Mask.ok_ite ?_ ?_ | refine faultsOf_ok ?_ ?_ | (intro a; refine (fun ha : Keeps fm r0 a => ?_) ?_; clear_value a; rotate_left; dsimp only [a]; rotate_right) | (intro a; clear_value a) | lift_lets -underBinder | apply Keeps.ite | apply spdmError_keeps | apply forgetShake_keeps | apply openSession_keeps | apply modMgmt_keeps | apply spdmFree_keeps

theorem closeSpdm_keeps {fm : Nat} {r0 : State}  {s : State} {n : Nat} (hfm : Mask.le 0x3f00000000000000000000000000000000001e000000000000000000000000000000000000000000000007000000000000000000000000000000000000000000000000000000000200028 fm = true) (h0 : Keeps fm r0 s)  : Keeps fm r0 (closeSpdm s n) := by
  unfold closeSpdm
  with_reducible repeat' first | assumption | exact fpart (by decide +kernel) hfm | exact fle (by decide +kernel) hfm | exact fok (by decide +kernel) hfm | exact fall (by decide +kernel) hfm | exact fokIx (by decide +kernel) hfm | exact fokAll (by decide +kernel) hfm | refine Mask.ok_ite ?_ ?_ | refine faultsOf_ok ?_ ?_ | apply forgetShake_keeps | apply endSession_keeps

theorem execEndSession_keeps {fm : Nat} {r0 : State}  {session : Nat} {s : State} (hfm : Mask.le 0x3f00000000000000000000000000000000001e000000000000000000000000000000000000000000000007000000000000000000000000000000000000000000000000000000000a00028 fm = true) (h0 : Keeps fm r0 s)  : ∃ t1, (execEndSession session s) = .next t1 ∧ Keeps fm r0 t1 := by
  refine ⟨_, rfl, ?_⟩
  try lift_lets -underBinder
  with_reducible repeat' first | assumption | exact fpart (by decide +kernel) hfm | exact fle (by decide +kernel) hfm | exact fok (by decide +kernel) hfm | exact fall (by decide +kernel) hfm | exact fokIx (by decide +kernel) hfm | exact fokAll (by decide +kernel) hfm | refine Mask.ok_ite ?_ ?_ | refine faultsOf_ok ?_ ?_ | (intro a; clear_value a) | lift_lets -underBinder | apply Keeps.ite | apply closeSpdm_keeps | apply sendSpdm_keeps

theorem execSessionHeartbeatTimeout_keeps {fm : Nat} {r0 : State}  {session : Nat} {s : State} (hfm : Mask.le 0x3f00000000000000000000000000000000001e000000000000000000000000000000000000000000000007000000000000000000000000000000000000000000000000000000000200028 fm = true) (h0 : Keeps fm r0 s)  : ∃ t1, (execSessionHeartbeatTimeout session s) = .next t1 ∧ Keeps fm r0 t1 := by
  refine ⟨_, rfl, ?_⟩
  with_reducible repeat' first | assumption | exact fpart (by decide +kernel) hfm | exact fle (by decide +kernel) hfm | exact fok (by decide +kernel) hfm | exact fall (by decide +kernel) hfm | exact fokIx (by decide +kernel) hfm | exact fokAll (by decide +kernel) hfm | refine Mask.ok_ite ?_ ?_ | refine faultsOf_ok ?_ ?_ | apply Keeps.ite | apply closeSpdm_keeps

theorem measurements_keeps {fm : Nat} {r0 : State}  {s : State} {udp : Bool} {peer : Nat} {index : Nat} (hfm : Mask.le 0x1800000 fm = true) (h0 : Keeps fm r0 s)  : Keeps fm r0 (measurements s udp peer index) := by
  unfold measurements
  try lift_lets -underBinder
  with_reducible repeat' first | assumption | exact fpart (by decide +kernel) hfm | exact fle (by decide +kernel) hfm | exact fok (by decide +kernel) hfm | exact fall (by decide +kernel) hfm | exact fokIx (by decide +kernel) hfm | exact fokAll (by decide +kernel) hfm | refine Mask.ok_ite ?_ ?_ | refine faultsOf_ok ?_ ?_ | (intro a; clear_value a) | lift_lets -underBinder | apply Keeps.ite | apply sendSpdm_keeps | apply takeFree_keeps | apply spdmError_keeps

theorem execGetMeasurements_keeps {fm : Nat} {r0 : State}  {udp : Bool} {peer : Nat} {index : Nat} {s : State} (hfm : Mask.le 0x1800000 fm = true) (h0 : Keeps fm r0 s)  : ∃ t1, (execGetMeasurements udp peer index s) = .next t1 ∧ Keeps fm r0 t1 := by
  refine ⟨_, rfl, ?_⟩
  with_reducible repeat' first | assumption | exact fpart (by decide +kernel) hfm | exact fle (by decide +kernel) hfm | exact fok (by decide +kernel) hfm | exact fall (by decide +kernel) hfm | exact fokIx (by decide +kernel) hfm | exact fokAll (by decide +kernel) hfm | refine Mask.ok_ite ?_ ?_ | refine faultsOf_ok ?_ ?_ | apply measurements_keeps

theorem spdmOther_keeps {fm : Nat} {r0 : State}  {s : State} {udp : Bool} {peer : Nat} {code : Nat} {sess : Option Nat} (hfm : Mask.le 0x1800008 fm = true) (h0 : Keeps fm r0 s)  : Keeps fm r0 (spdmOther s udp peer code sess) := by
  unfold spdmOther
  try lift_lets -underBinder
  with_reducible repeat' first | assumption | exact fpart (by decide +kernel) hfm | exact fle (by decide +kernel) hfm | exact fok (by decide +kernel) hfm | exact fall (by decide +kernel) hfm | exact fokIx (by decide +kernel) hfm | exact fokAll (by decide +kernel) hfm | refine Mask.ok_ite ?_ ?_ | refine faultsOf_ok ?_ ?_ | (intro a; refine (fun ha : Keeps fm r0 a => ?_) ?_; clear_value a; rotate_left; dsimp only [a]; rotate_right) | (intro a; clear_value a) | lift_lets -underBinder | apply Keeps.ite | apply modSess_keeps | apply sendSpdm_keeps | apply takeFree_keeps | apply spdmFree_keeps | apply spdmError_keeps | split

theorem execSpdmMessage_keeps {fm : Nat} {r0 : State}  {udp : Bool} {peer : Nat} {code : Nat} {sess : Option Nat} {s : State} (hfm : Mask.le 0x1800008 fm = true) (h0 : Keeps fm r0 s)  : ∃ t1, (execSpdmMessage udp peer code sess s) = .next t1 ∧ Keeps fm r0 t1 := by
  refine ⟨_, rfl, ?_⟩
  with_reducible repeat' first | assumption | exact fpart (by decide +kernel) hfm | exact fle (by decide +kernel) hfm | exact fok (by decide +kernel) hfm | exact fall (by decide +kernel) hfm | exact fokIx (by decide +kernel) hfm | exact fokAll (by decide +kernel) hfm | refine Mask.ok_ite ?_ ?_ | refine faultsOf_ok ?_ ?_ | apply spdmOther_keeps

theorem spdmClear_keeps {fm : Nat} {r0 : State}  {s : State} {udp : Bool} {peer : Nat} {b : Bytes} (hfm : Mask.le 0x1800008 fm = true) (h0 : Keeps fm r0 s)  : Keeps fm r0 (spdmClear s udp peer b) := by
  unfold spdmClear
  try lift_lets -underBinder
  with_reducible repeat' first | assumption | exact fpart (by decide +kernel) hfm | exact fle (by decide +kernel) hfm | exact fok (by decide +kernel) hfm | exact fall (by decide +kernel) hfm | exact fokIx (by decide +kernel) hfm | exact fokAll (by decide +kernel) hfm | refine Mask.ok_ite ?_ ?_ | refine faultsOf_ok ?_ ?_ | (intro a; clear_value a) | lift_lets -underBinder | apply Keeps.ite | apply measurements_keeps | apply spdmOther_keeps

theorem dispatchMsg_keeps {fm : Nat} {r0 : State}  {s : State} {src : Nat} {ty : Nat} {b : Bytes} {clear : Option Bytes} (hfm : Mask.le 0x1ffffffffffffffffffffffffffffffffffffffffffffffffffffffffffffffffffffffffffffffffffffffffffffffffffffffffffffffffffffffffffffffffffffffffffffffffffffffffffffffffffffffffffffffffe fm = true) (h0 : Keeps fm r0 s)  : Keeps fm r0 (dispatchMsg s src ty b clear) := by
  unfold dispatchMsg
  with_reducible repeat' first | assumption | exact fpart (by decide +kernel) hfm | exact fle (by decide +kernel) hfm | exact fok (by decide +kernel) hfm | exact fall (by decide +kernel) hfm | exact fokIx (by decide +kernel) hfm | exact fokAll (by decide +kernel) hfm | refine Mask.ok_ite ?_ ?_ | refine faultsOf_ok ?_ ?_ | apply Keeps.ite | apply controlMsg_keeps | apply spdmClear_keeps | apply submitReq_keeps | split

theorem mctpPacket_keeps {fm : Nat} {r0 : State}  {s : State} {p : McPacket} {clear : Option Bytes} (hfm : Mask.le 0x1ffffffffffffffffffffffffffffffffffffffffffffffffffffffffffffffffffffffffffffffffffffffffffffffffffffffffffffffffffffffffffffffffffffffffffffffffffffffffffffffffffffffffffffffffe fm = true) (h0 : Keeps fm r0 s)  : Keeps fm r0 (mctpPacket s p clear) := by
  unfold mctpPacket
  try lift_lets -underBinder
  with_reducible repeat' first | assumption | exact fpart (by decide +kernel) hfm | exact fle (by decide +kernel) hfm | exact fok (by decide +kernel) hfm | exact fall (by decide +kernel) hfm | exact fokIx (by decide +kernel) hfm | exact fokAll (by decide +kernel) hfm | refine Mask.ok_ite ?_ ?_ | refine faultsOf_ok ?_ ?_ | (intro a; refine (fun hgx : ∀ x : McAsm, Keeps fm r0 (a x) => ?_) ?_; clear_value a; rotate_left; dsimp only [a]; rotate_right) | apply hgx | refine fun (_ : McAsm) => ?_ | (intro a; clear_value a) | lift_lets -underBinder | apply Keeps.ite | apply dispatchMsg_keeps | apply modMgmt_keeps | split

theorem execMctpMessage_keeps {fm : Nat} {r0 : State}  {pkt : McPacket} {clear : Option Bytes} {s : State} (hfm : Mask.le 0x1ffffffffffffffffffffffffffffffffffffffffffffffffffffffffffffffffffffffffffffffffffffffffffffffffffffffffffffffffffffffffffffffffffffffffffffffffffffffffffffffffffffffffffffffffe fm = true) (h0 : Keeps fm r0 s)  : ∃ t1, (execMctpMessage pkt clear s) = .next t1 ∧ Keeps fm r0 t1 := by
  refine ⟨_, rfl, ?_⟩
  with_reducible repeat' first | assumption | exact fpart (by decide +kernel) hfm | exact fle (by decide +kernel) hfm | exact fok (by decide +kernel) hfm | exact fall (by decide +kernel) hfm | exact fokIx (by decide +kernel) hfm | exact fokAll (by decide +kernel) hfm | refine Mask.ok_ite ?_ ?_ | refine faultsOf_ok ?_ ?_ | apply mctpPacket_keeps

theorem udpDatagram_keeps {fm : Nat} {r0 : State}  {s : State} {peer : Nat} {port : Nat} {b : Bytes} {clear : Option (Nat × Bytes)} (hfm : Mask.le 0x1ffffffffffffffffffffffffffffffffffffffffffffffffffffffffffffffffffffffffffffffffffffffffffffffffffffffffffffffffffffffffffffffffffffffffffffffffffffffffffffffffffffffffffffffffe fm = true) (h0 : Keeps fm r0 s)  : Keeps fm r0 (udpDatagram s peer port b clear) := by
  unfold udpDatagram
  try lift_lets -underBinder
  with_reducible repeat' first | assumption | exact fpart (by decide +kernel) hfm | exact fle (by decide +kernel) hfm | exact fok (by decide +kernel) hfm | exact fall (by decide +kernel) hfm | exact fokIx (by decide +kernel) hfm | exact fokAll (by decide +kernel) hfm | refine Mask.ok_ite ?_ ?_ | refine faultsOf_ok ?_ ?_ | (intro a; clear_value a) | lift_lets -underBinder | apply Keeps.ite | apply spdmClear_keeps | apply submitReq_keeps | split

theorem execUdpDatagram_keeps {fm : Nat} {r0 : State}  {peer : Nat} {port : Nat} {payload : Bytes} {clear : Option (Nat × Bytes)} {s : State} (hfm : Mask.le 0x1ffffffffffffffffffffffffffffffffffffffffffffffffffffffffffffffffffffffffffffffffffffffffffffffffffffffffffffffffffffffffffffffffffffffffffffffffffffffffffffffffffffffffffffffffe fm = true) (h0 : Keeps fm r0 s)  : ∃ t1, (execUdpDatagram peer port payload clear s) = .next t1 ∧ Keeps fm r0 t1 := by
  refine ⟨_, rfl, ?_⟩
  with_reducible repeat' first | assumption | exact fpart (by decide +kernel) hfm | exact fle (by decide +kernel) hfm | exact fok (by decide +kernel) hfm | exact fall (by decide +kernel) hfm | exact fokIx (by decide +kernel) hfm | exact fokAll (by decide +kernel) hfm | refine Mask.ok_ite ?_ ?_ | refine faultsOf_ok ?_ ?_ | apply udpDatagram_keeps

theorem ethFrame_keeps {fm : Nat} {r0 : State}  {s : State} {x : EthFrame} (hfm : Mask.le 0xa00000 fm = true) (h0 : Keeps fm r0 s)  : Keeps fm r0 (ethFrame s x) := by
  unfold ethFrame
  with_reducible repeat' first | assumption | exact fpart (by decide +kernel) hfm | exact fle (by decide +kernel) hfm | exact fok (by decide +kernel) hfm | exact fall (by decide +kernel) hfm | exact fokIx (by decide +kernel) hfm | exact fokAll (by decide +kernel) hfm | refine Mask.ok_ite ?_ ?_ | refine faultsOf_ok ?_ ?_ | apply Keeps.ite | apply emit_keeps | apply modMgmt_keeps | split

theorem execEthernetFrame_keeps {fm : Nat} {r0 : State}  {frame : EthFrame} {s : State} (hfm : Mask.le 0xa00000 fm = true) (h0 : Keeps fm r0 s)  : ∃ t1, (execEthernetFrame frame s) = .next t1 ∧ Keeps fm r0 t1 := by
  refine ⟨_, rfl, ?_⟩
  with_reducible repeat' first | assumption | exact fpart (by decide +kernel) hfm | exact fle (by decide +kernel) hfm | exact fok (by decide +kernel) hfm | exact fall (by decide +kernel) hfm | exact fokIx (by decide +kernel) hfm | exact fokAll (by decide +kernel) hfm | refine Mask.ok_ite ?_ ?_ | refine faultsOf_ok ?_ ?_ | apply Keeps.ite | apply ethFrame_keeps

theorem execI3cDynamicAddress_keeps {fm : Nat} {r0 : State}  {setdasa : Bool} {static : Nat} {addr : Nat} {s : State} (hfm : Mask.le 0x200000 fm = true) (h0 : Keeps fm r0 s)  : ∃ t1, (execI3cDynamicAddress setdasa static addr s) = .next t1 ∧ Keeps fm r0 t1 := by
  refine ⟨_, rfl, ?_⟩
  with_reducible repeat' first | assumption | exact fpart (by decide +kernel) hfm | exact fle (by decide +kernel) hfm | exact fok (by decide +kernel) hfm | exact fall (by decide +kernel) hfm | exact fokIx (by decide +kernel) hfm | exact fokAll (by decide +kernel) hfm | refine Mask.ok_ite ?_ ?_ | refine faultsOf_ok ?_ ?_ | apply Keeps.ite | apply modMgmt_keeps

/-! ## Idle -/

theorem background_keeps {fm : Nat} {r0 : State}  {s : State} (hfm : Mask.le 0x380801c002000000001f16000000007a00000001000000000000000ac00000000000001400860080017c1900000024000000018d0200000080400000000000000000020000040d7fff0 fm = true) (h0 : Keeps fm r0 s)  : Keeps fm r0 (background s) := by
  unfold background
  with_reducible repeat' first | assumption | exact fpart (by decide +kernel) hfm | exact fle (by decide +kernel) hfm | exact fok (by decide +kernel) hfm | exact fall (by decide +kernel) hfm | exact fokIx (by decide +kernel) hfm | exact fokAll (by decide +kernel) hfm | refine Mask.ok_ite ?_ ?_ | refine faultsOf_ok ?_ ?_ | refine fun _ _ (_ : Keeps fm r0 _) => ?_ | apply Keeps.ite | apply startReload_keeps | apply tryThermal_keeps | apply digestWork_keeps | apply offlineCmds_keeps | apply Keeps.forRange

theorem idle_keeps {fm : Nat} (hfm : Mask.le 0x380801c002000000001f16000000007a00000001000000000000000ac00000000000001400860080017c1900000024000000018d0200000080400000000000000000020000040d7fff0 fm = true) (s : State) : Keeps fm (tick s) (idle s) := by
  unfold idle
  exact background_keeps (fle (by decide +kernel) hfm) (Keeps.refl _)

/-! ## Step -/

end Sys2Proof.Machine
end

