-- ==== Sys2Proof/Laws/Frames.lean ====
section
/-! SUPPORT. From masks to footprints: an operation that keeps everything outside a footprint's mask keeps everything outside the footprint. -/

namespace Sys2Proof.Machine

open Sys2Proof

/-- The mask of a list of bits. -/
def Mask.ofBits (l : List Nat) : Nat :=
  l.foldr (fun n m => Nat.lor (Nat.shiftLeft 1 n) m) 0

/-- The mask of a footprint. -/
def Foot.mask (f : Foot) : Nat :=
  match f.objs with
  | some l => Mask.ofBits (f.parts.map Part.bit ++ l.map (fun o => Mask.rank o.code))
  | none => Nat.lor (Mask.ofBits (f.parts.map Part.bit)) (Nat.shiftLeft 1 709 - Nat.shiftLeft 1 25 + 2)

theorem Mask.testBit_ofBits {l : List Nat} {n : Nat} : Nat.testBit (Mask.ofBits l) n = true ↔ n ∈ l := by
  induction l with
  | nil => simp [Mask.ofBits]
  | cons a l ih =>
    have e : Mask.ofBits (a :: l) = (1 <<< a) ||| Mask.ofBits l := rfl
    rw [e, Nat.testBit_or, Bool.or_eq_true, ih, List.mem_cons, Nat.testBit_shiftLeft]
    constructor
    · rintro (h | h)
      · simp only [Bool.and_eq_true, decide_eq_true_eq] at h
        have := Nat.testBit_one_eq_true_iff_self_eq_zero.mp h.2
        omega
      · exact Or.inr h
    · rintro (rfl | h)
      · simp
      · exact Or.inr h

theorem Mask.rankIn_ge {l : List (Nat × Nat)} {b c : Nat} (h : Mask.rankIn l b c ≠ 0) : b ≤ Mask.rankIn l b c := by
  induction l generalizing b with
  | nil => exact absurd rfl h
  | cons x l ih =>
    obtain ⟨lo, n⟩ := x
    unfold Mask.rankIn at h ⊢
    cases hc : (Nat.ble lo c && Nat.blt c (lo + n))
    · rw [hc] at h
      exact Nat.le_trans (Nat.le_add_right b n) (ih h)
    · exact Nat.le_add_right _ _

theorem Mask.rankIn_inj {l : List (Nat × Nat)} {b c d : Nat} (h : Mask.rankIn l b c ≠ 0) (e : Mask.rankIn l b c = Mask.rankIn l b d) : c = d := by
  induction l generalizing b with
  | nil => exact absurd rfl h
  | cons x l ih =>
    obtain ⟨lo, n⟩ := x
    have hd : Mask.rankIn ((lo, n) :: l) b d ≠ 0 := e ▸ h
    unfold Mask.rankIn at h e hd
    cases hc : (Nat.ble lo c && Nat.blt c (lo + n)) <;> cases hx : (Nat.ble lo d && Nat.blt d (lo + n)) <;> rw [hc] at h e <;> rw [hx] at e hd
    · exact ih h e
    · have := Mask.rankIn_ge h
      simp only [Bool.and_eq_true, Nat.ble_eq, Nat.blt_eq] at hx
      simp only [cond_false, cond_true] at e this
      omega
    · have := Mask.rankIn_ge hd
      simp only [Bool.and_eq_true, Nat.ble_eq, Nat.blt_eq] at hc
      simp only [cond_false, cond_true] at e this
      omega
    · simp only [Bool.and_eq_true, Nat.ble_eq, Nat.blt_eq] at hc hx
      simp only [cond_true] at e
      omega

theorem Mask.objTable_rank : objTable.all (fun o => Nat.ble 25 (Mask.rank o.code) && Nat.blt o.index 65536 && Nat.blt o.sub 256) = true := by
  decide +kernel

theorem Part.bit_lt (p : Part) : 2 ≤ p.bit ∧ p.bit < 25 := by
  cases p <;> decide

theorem Part.bit_inj {p q : Part} (h : p.bit = q.bit) : p = q := by
  cases p <;> cases q <;> first | rfl | exact absurd h (by decide)

theorem Mask.rank_ge (c : Nat) : Mask.rank c = 0 ∨ 25 ≤ Mask.rank c := by
  by_cases h : Mask.rank c = 0
  · exact Or.inl h
  · exact Or.inr (Mask.rankIn_ge h)

theorem Foot.mask_part {f : Foot} {p : Part} (h : p ∉ f.parts) : Nat.testBit f.mask p.bit = false := by
  obtain ⟨h2, h24⟩ := p.bit_lt
  have hp : p.bit ∉ f.parts.map Part.bit := by
    simp only [List.mem_map, not_exists, not_and]
    exact fun q hq e => h (Part.bit_inj e ▸ hq)
  unfold Foot.mask
  cases f.objs with
  | some l =>
    refine Bool.eq_false_iff.mpr (fun hb => ?_)
    rw [Mask.testBit_ofBits, List.mem_append] at hb
    rcases hb with hb | hb
    · exact hp hb
    · obtain ⟨o, -, e⟩ := List.mem_map.mp hb
      rcases Mask.rank_ge o.code with r | r <;> omega
  | none =>
    have e : Nat.testBit (Nat.shiftLeft 1 709 - Nat.shiftLeft 1 25 + 2) p.bit = false := by
      cases p <;> first | decide +kernel
    change Nat.testBit (Mask.ofBits _ ||| _) _ = false
    rw [Nat.testBit_or, e, Bool.or_false]
    exact Bool.eq_false_iff.mpr (fun hb => hp (Mask.testBit_ofBits.mp hb))

theorem Foot.mask_obj {f : Foot} {l : List ObjDesc} (hf : f.objs = some l) {o : ObjDesc} (ho : o ∈ objTable) (h : ∀ x ∈ l, ¬(x.index = o.index ∧ x.sub = o.sub))
    (hl : ∀ x ∈ l, x.index < 65536 ∧ x.sub < 256) (i : Nat) : Mask.keeps f.mask (o.key i) = true := by
  have hall := List.all_eq_true.mp Mask.objTable_rank
  have ok := hall o ho
  simp only [Bool.and_eq_true, Nat.ble_eq, Nat.blt_eq] at ok
  have e : o.key i % 16777216 = o.code := by
    unfold ObjDesc.key objKey ObjDesc.code
    omega
  unfold Mask.keeps
  rw [e]
  have hb : ∀ n, Nat.testBit f.mask n = true → n ∈ f.parts.map Part.bit ++ l.map (fun x => Mask.rank x.code) := by
    intro n hn
    unfold Foot.mask at hn
    rw [hf] at hn
    exact Mask.testBit_ofBits.mp hn
  have h1 : Nat.testBit f.mask 1 = false := by
    refine Bool.eq_false_iff.mpr (fun hn => ?_)
    rcases List.mem_append.mp (hb 1 hn) with m | m <;> obtain ⟨x, -, ex⟩ := List.mem_map.mp m
    · have := x.bit_lt
      omega
    · rcases Mask.rank_ge x.code with r | r <;> omega
  have h2 : Nat.testBit f.mask (Mask.rank o.code) = false := by
    refine Bool.eq_false_iff.mpr (fun hn => ?_)
    rcases List.mem_append.mp (hb _ hn) with m | m <;> obtain ⟨x, hx, ex⟩ := List.mem_map.mp m
    · have := x.bit_lt
      omega
    · have hc : x.code = o.code := Mask.rankIn_inj (by change Mask.rank x.code ≠ 0; omega) ex
      have kx := hl x hx
      refine h x hx ?_
      unfold ObjDesc.code at hc
      omega
  have h3 : Nat.beq (Mask.rank o.code) 0 = false := by
    refine Bool.eq_false_iff.mpr (fun hn => ?_)
    have := Nat.eq_of_beq_eq_true hn
    omega
  rw [h1, h2, h3]
  rfl

/-- The mask leaves an object alone at every instance. -/
def Mask.free (m : Nat) (o : ObjDesc) : Bool :=
  !(Nat.testBit m 1 || (Nat.testBit m (Mask.rank o.code) || Nat.beq (Mask.rank o.code) 0))

theorem Mask.free_keeps {m : Nat} {o : ObjDesc} (h : Mask.free m o = true) (i : Nat) : Mask.keeps m (o.key i) = true := by
  have e : o.key i % 16777216 = o.code := by
    unfold ObjDesc.key objKey ObjDesc.code
    omega
  unfold Mask.keeps
  rw [e]
  exact h

theorem Keeps.rd {fm : Nat} {s t : State} (h : Keeps fm s t) {o : ObjDesc} (hf : Mask.free fm o = true) (i : Nat) : Machine.rd t o i = Machine.rd s o i := by
  simp only [Machine.rd, h.regs _ (Mask.free_keeps hf i)]

theorem Keeps.rdN {fm : Nat} {s t : State} (h : Keeps fm s t) {o : ObjDesc} (hf : Mask.free fm o = true) (i : Nat) : Machine.rdN t o i = Machine.rdN s o i := by
  simp only [Machine.rdN, h.rd hf i]

theorem Keeps.rdB {fm : Nat} {s t : State} (h : Keeps fm s t) {o : ObjDesc} (hf : Mask.free fm o = true) (i : Nat) : Machine.rdB t o i = Machine.rdB s o i := by
  simp only [Machine.rdB, h.rd hf i]

theorem Keeps.rdBytes {fm : Nat} {s t : State} (h : Keeps fm s t) {o : ObjDesc} (hf : Mask.free fm o = true) (i : Nat) : Machine.rdBytes t o i = Machine.rdBytes s o i := by
  simp only [Machine.rdBytes, h.blobs _ (Mask.free_keeps hf i)]

/-- Every object of a footprint has an index and a sub-index in range. -/
def Foot.ok (f : Foot) : Bool :=
  match f.objs with
  | some l => l.all (fun x => Nat.blt x.index 65536 && Nat.blt x.sub 256)
  | none => true

/-- An operation that keeps everything outside a footprint's mask keeps everything outside the footprint. -/
theorem Keeps.kept {f : Foot} {fm : Nat} {s t : State} (h : Keeps fm s t) (hm : Mask.le fm f.mask = true) (hl : f.ok = true) : f.Kept s t := by
  have le : ∀ n, Nat.testBit f.mask n = false → Nat.testBit fm n = false := by
    intro n hn
    refine Bool.eq_false_iff.mpr (fun hb => ?_)
    rw [Mask.le_testBit hm hb] at hn
    cases hn
  refine ⟨fun p hp => h.parts p (le _ (Foot.mask_part hp)), fun l hf o ho hx i => ?_⟩
  have hl' : ∀ x ∈ l, x.index < 65536 ∧ x.sub < 256 := by
    unfold Foot.ok at hl
    rw [hf] at hl
    intro x hx
    simpa using List.all_eq_true.mp hl x hx
  have hk := Foot.mask_obj hf ho hx hl' i
  have hk' : Mask.keeps fm (o.key i) = true := by
    unfold Mask.keeps at hk ⊢
    simp only [Bool.not_eq_true', Bool.or_eq_false_iff] at hk ⊢
    exact ⟨le _ hk.1, le _ hk.2.1, hk.2.2⟩
  exact ⟨by simp only [Machine.rd, h.regs _ hk'], by simp only [Machine.rdBytes, h.blobs _ hk']⟩

end Sys2Proof.Machine
end

