-- ==== Sys2Proof/Laws/Lookups.lean ====
section
/-! SUPPORT. What one lookup gives after one update: the registers, the tables of queue pairs, functions, pools, volumes, drive ports and host ports, the output pins, and the completion a command leaves. -/

namespace Sys2Proof.Machine

open Sys2Proof

/-! ## Tables under register writes and outputs -/

@[simp] theorem qpOf_wr (s : State) (o : ObjDesc) (i : Nat) (v : Int) (q1 : Nat) : qpOf (wr s o i v) q1 = qpOf s q1 := rfl
@[simp] theorem qpOf_wrB (s : State) (o : ObjDesc) (i : Nat) (b : Bool) (q1 : Nat) : qpOf (wrB s o i b) q1 = qpOf s q1 := rfl
@[simp] theorem qpOf_bump (s : State) (o : ObjDesc) (i k : Nat) (q1 : Nat) : qpOf (bump s o i k) q1 = qpOf s q1 := rfl
@[simp] theorem qpOf_drop (s : State) (o : ObjDesc) (i k : Nat) (q1 : Nat) : qpOf (drop s o i k) q1 = qpOf s q1 := rfl
@[simp] theorem qpOf_clr (s : State) (o : ObjDesc) (i : Nat) (q1 : Nat) : qpOf (clr s o i) q1 = qpOf s q1 := rfl
@[simp] theorem qpOf_wrBytes (s : State) (o : ObjDesc) (i : Nat) (b : Bytes) (q1 : Nat) : qpOf (wrBytes s o i b) q1 = qpOf s q1 := rfl
@[simp] theorem qpOf_emit (s : State) (x : Out) (q1 : Nat) : qpOf (emit s x) q1 = qpOf s q1 := rfl
@[simp] theorem qpOf_drive (s : State) (x : Pin) (b : Bool) (q1 : Nat) : qpOf (drive s x b) q1 = qpOf s q1 := rfl
@[simp] theorem qpOf_takeFree (s : State) (q1 : Nat) : qpOf (takeFree s ) q1 = qpOf s q1 := rfl
@[simp] theorem qpOf_countDev (s : State) (i k : Nat) (q1 : Nat) : qpOf (countDev s i k) q1 = qpOf s q1 := rfl
@[simp] theorem fnOf_wr (s : State) (o : ObjDesc) (i : Nat) (v : Int) (n1 : Nat) : fnOf (wr s o i v) n1 = fnOf s n1 := rfl
@[simp] theorem fnOf_wrB (s : State) (o : ObjDesc) (i : Nat) (b : Bool) (n1 : Nat) : fnOf (wrB s o i b) n1 = fnOf s n1 := rfl
@[simp] theorem fnOf_bump (s : State) (o : ObjDesc) (i k : Nat) (n1 : Nat) : fnOf (bump s o i k) n1 = fnOf s n1 := rfl
@[simp] theorem fnOf_drop (s : State) (o : ObjDesc) (i k : Nat) (n1 : Nat) : fnOf (drop s o i k) n1 = fnOf s n1 := rfl
@[simp] theorem fnOf_clr (s : State) (o : ObjDesc) (i : Nat) (n1 : Nat) : fnOf (clr s o i) n1 = fnOf s n1 := rfl
@[simp] theorem fnOf_wrBytes (s : State) (o : ObjDesc) (i : Nat) (b : Bytes) (n1 : Nat) : fnOf (wrBytes s o i b) n1 = fnOf s n1 := rfl
@[simp] theorem fnOf_emit (s : State) (x : Out) (n1 : Nat) : fnOf (emit s x) n1 = fnOf s n1 := rfl
@[simp] theorem fnOf_drive (s : State) (x : Pin) (b : Bool) (n1 : Nat) : fnOf (drive s x b) n1 = fnOf s n1 := rfl
@[simp] theorem fnOf_takeFree (s : State) (n1 : Nat) : fnOf (takeFree s ) n1 = fnOf s n1 := rfl
@[simp] theorem fnOf_countDev (s : State) (i k : Nat) (n1 : Nat) : fnOf (countDev s i k) n1 = fnOf s n1 := rfl
@[simp] theorem poolOf_wr (s : State) (o : ObjDesc) (i : Nat) (v : Int) (p1 : Nat) : poolOf (wr s o i v) p1 = poolOf s p1 := rfl
@[simp] theorem poolOf_wrB (s : State) (o : ObjDesc) (i : Nat) (b : Bool) (p1 : Nat) : poolOf (wrB s o i b) p1 = poolOf s p1 := rfl
@[simp] theorem poolOf_bump (s : State) (o : ObjDesc) (i k : Nat) (p1 : Nat) : poolOf (bump s o i k) p1 = poolOf s p1 := rfl
@[simp] theorem poolOf_drop (s : State) (o : ObjDesc) (i k : Nat) (p1 : Nat) : poolOf (drop s o i k) p1 = poolOf s p1 := rfl
@[simp] theorem poolOf_clr (s : State) (o : ObjDesc) (i : Nat) (p1 : Nat) : poolOf (clr s o i) p1 = poolOf s p1 := rfl
@[simp] theorem poolOf_wrBytes (s : State) (o : ObjDesc) (i : Nat) (b : Bytes) (p1 : Nat) : poolOf (wrBytes s o i b) p1 = poolOf s p1 := rfl
@[simp] theorem poolOf_emit (s : State) (x : Out) (p1 : Nat) : poolOf (emit s x) p1 = poolOf s p1 := rfl
@[simp] theorem poolOf_drive (s : State) (x : Pin) (b : Bool) (p1 : Nat) : poolOf (drive s x b) p1 = poolOf s p1 := rfl
@[simp] theorem poolOf_takeFree (s : State) (p1 : Nat) : poolOf (takeFree s ) p1 = poolOf s p1 := rfl
@[simp] theorem poolOf_countDev (s : State) (i k : Nat) (p1 : Nat) : poolOf (countDev s i k) p1 = poolOf s p1 := rfl
@[simp] theorem volOf_wr (s : State) (o : ObjDesc) (i : Nat) (v : Int) (v1 : Nat) : volOf (wr s o i v) v1 = volOf s v1 := rfl
@[simp] theorem volOf_wrB (s : State) (o : ObjDesc) (i : Nat) (b : Bool) (v1 : Nat) : volOf (wrB s o i b) v1 = volOf s v1 := rfl
@[simp] theorem volOf_bump (s : State) (o : ObjDesc) (i k : Nat) (v1 : Nat) : volOf (bump s o i k) v1 = volOf s v1 := rfl
@[simp] theorem volOf_drop (s : State) (o : ObjDesc) (i k : Nat) (v1 : Nat) : volOf (drop s o i k) v1 = volOf s v1 := rfl
@[simp] theorem volOf_clr (s : State) (o : ObjDesc) (i : Nat) (v1 : Nat) : volOf (clr s o i) v1 = volOf s v1 := rfl
@[simp] theorem volOf_wrBytes (s : State) (o : ObjDesc) (i : Nat) (b : Bytes) (v1 : Nat) : volOf (wrBytes s o i b) v1 = volOf s v1 := rfl
@[simp] theorem volOf_emit (s : State) (x : Out) (v1 : Nat) : volOf (emit s x) v1 = volOf s v1 := rfl
@[simp] theorem volOf_drive (s : State) (x : Pin) (b : Bool) (v1 : Nat) : volOf (drive s x b) v1 = volOf s v1 := rfl
@[simp] theorem volOf_takeFree (s : State) (v1 : Nat) : volOf (takeFree s ) v1 = volOf s v1 := rfl
@[simp] theorem volOf_countDev (s : State) (i k : Nat) (v1 : Nat) : volOf (countDev s i k) v1 = volOf s v1 := rfl
@[simp] theorem dportOf_wr (s : State) (o : ObjDesc) (i : Nat) (v : Int) (n1 : Nat) : dportOf (wr s o i v) n1 = dportOf s n1 := rfl
@[simp] theorem dportOf_wrB (s : State) (o : ObjDesc) (i : Nat) (b : Bool) (n1 : Nat) : dportOf (wrB s o i b) n1 = dportOf s n1 := rfl
@[simp] theorem dportOf_bump (s : State) (o : ObjDesc) (i k : Nat) (n1 : Nat) : dportOf (bump s o i k) n1 = dportOf s n1 := rfl
@[simp] theorem dportOf_drop (s : State) (o : ObjDesc) (i k : Nat) (n1 : Nat) : dportOf (drop s o i k) n1 = dportOf s n1 := rfl
@[simp] theorem dportOf_clr (s : State) (o : ObjDesc) (i : Nat) (n1 : Nat) : dportOf (clr s o i) n1 = dportOf s n1 := rfl
@[simp] theorem dportOf_wrBytes (s : State) (o : ObjDesc) (i : Nat) (b : Bytes) (n1 : Nat) : dportOf (wrBytes s o i b) n1 = dportOf s n1 := rfl
@[simp] theorem dportOf_emit (s : State) (x : Out) (n1 : Nat) : dportOf (emit s x) n1 = dportOf s n1 := rfl
@[simp] theorem dportOf_drive (s : State) (x : Pin) (b : Bool) (n1 : Nat) : dportOf (drive s x b) n1 = dportOf s n1 := rfl
@[simp] theorem dportOf_takeFree (s : State) (n1 : Nat) : dportOf (takeFree s ) n1 = dportOf s n1 := rfl
@[simp] theorem dportOf_countDev (s : State) (i k : Nat) (n1 : Nat) : dportOf (countDev s i k) n1 = dportOf s n1 := rfl
@[simp] theorem hostPort_wr (s : State) (o : ObjDesc) (i : Nat) (v : Int) (n1 : Nat) : hostPort (wr s o i v) n1 = hostPort s n1 := rfl
@[simp] theorem hostPort_wrB (s : State) (o : ObjDesc) (i : Nat) (b : Bool) (n1 : Nat) : hostPort (wrB s o i b) n1 = hostPort s n1 := rfl
@[simp] theorem hostPort_bump (s : State) (o : ObjDesc) (i k : Nat) (n1 : Nat) : hostPort (bump s o i k) n1 = hostPort s n1 := rfl
@[simp] theorem hostPort_drop (s : State) (o : ObjDesc) (i k : Nat) (n1 : Nat) : hostPort (drop s o i k) n1 = hostPort s n1 := rfl
@[simp] theorem hostPort_clr (s : State) (o : ObjDesc) (i : Nat) (n1 : Nat) : hostPort (clr s o i) n1 = hostPort s n1 := rfl
@[simp] theorem hostPort_wrBytes (s : State) (o : ObjDesc) (i : Nat) (b : Bytes) (n1 : Nat) : hostPort (wrBytes s o i b) n1 = hostPort s n1 := rfl
@[simp] theorem hostPort_emit (s : State) (x : Out) (n1 : Nat) : hostPort (emit s x) n1 = hostPort s n1 := rfl
@[simp] theorem hostPort_drive (s : State) (x : Pin) (b : Bool) (n1 : Nat) : hostPort (drive s x b) n1 = hostPort s n1 := rfl
@[simp] theorem hostPort_takeFree (s : State) (n1 : Nat) : hostPort (takeFree s ) n1 = hostPort s n1 := rfl
@[simp] theorem hostPort_countDev (s : State) (i k : Nat) (n1 : Nat) : hostPort (countDev s i k) n1 = hostPort s n1 := rfl
@[simp] theorem slotOf_wr (s : State) (o : ObjDesc) (i : Nat) (v : Int) (n1 : Nat) : slotOf (wr s o i v) n1 = slotOf s n1 := rfl
@[simp] theorem slotOf_wrB (s : State) (o : ObjDesc) (i : Nat) (b : Bool) (n1 : Nat) : slotOf (wrB s o i b) n1 = slotOf s n1 := rfl
@[simp] theorem slotOf_bump (s : State) (o : ObjDesc) (i k : Nat) (n1 : Nat) : slotOf (bump s o i k) n1 = slotOf s n1 := rfl
@[simp] theorem slotOf_drop (s : State) (o : ObjDesc) (i k : Nat) (n1 : Nat) : slotOf (drop s o i k) n1 = slotOf s n1 := rfl
@[simp] theorem slotOf_clr (s : State) (o : ObjDesc) (i : Nat) (n1 : Nat) : slotOf (clr s o i) n1 = slotOf s n1 := rfl
@[simp] theorem slotOf_wrBytes (s : State) (o : ObjDesc) (i : Nat) (b : Bytes) (n1 : Nat) : slotOf (wrBytes s o i b) n1 = slotOf s n1 := rfl
@[simp] theorem slotOf_emit (s : State) (x : Out) (n1 : Nat) : slotOf (emit s x) n1 = slotOf s n1 := rfl
@[simp] theorem slotOf_drive (s : State) (x : Pin) (b : Bool) (n1 : Nat) : slotOf (drive s x b) n1 = slotOf s n1 := rfl
@[simp] theorem slotOf_takeFree (s : State) (n1 : Nat) : slotOf (takeFree s ) n1 = slotOf s n1 := rfl
@[simp] theorem slotOf_countDev (s : State) (i k : Nat) (n1 : Nat) : slotOf (countDev s i k) n1 = slotOf s n1 := rfl
@[simp] theorem sessOf_wr (s : State) (o : ObjDesc) (i : Nat) (v : Int) (n1 : Nat) : sessOf (wr s o i v) n1 = sessOf s n1 := rfl
@[simp] theorem sessOf_wrB (s : State) (o : ObjDesc) (i : Nat) (b : Bool) (n1 : Nat) : sessOf (wrB s o i b) n1 = sessOf s n1 := rfl
@[simp] theorem sessOf_bump (s : State) (o : ObjDesc) (i k : Nat) (n1 : Nat) : sessOf (bump s o i k) n1 = sessOf s n1 := rfl
@[simp] theorem sessOf_drop (s : State) (o : ObjDesc) (i k : Nat) (n1 : Nat) : sessOf (drop s o i k) n1 = sessOf s n1 := rfl
@[simp] theorem sessOf_clr (s : State) (o : ObjDesc) (i : Nat) (n1 : Nat) : sessOf (clr s o i) n1 = sessOf s n1 := rfl
@[simp] theorem sessOf_wrBytes (s : State) (o : ObjDesc) (i : Nat) (b : Bytes) (n1 : Nat) : sessOf (wrBytes s o i b) n1 = sessOf s n1 := rfl
@[simp] theorem sessOf_emit (s : State) (x : Out) (n1 : Nat) : sessOf (emit s x) n1 = sessOf s n1 := rfl
@[simp] theorem sessOf_drive (s : State) (x : Pin) (b : Bool) (n1 : Nat) : sessOf (drive s x b) n1 = sessOf s n1 := rfl
@[simp] theorem sessOf_takeFree (s : State) (n1 : Nat) : sessOf (takeFree s ) n1 = sessOf s n1 := rfl
@[simp] theorem sessOf_countDev (s : State) (i k : Nat) (n1 : Nat) : sessOf (countDev s i k) n1 = sessOf s n1 := rfl
@[simp] theorem laneOf_wr (s : State) (o : ObjDesc) (i : Nat) (v : Int) (p1 c1 n1 : Nat) : laneOf (wr s o i v) p1 c1 n1 = laneOf s p1 c1 n1 := rfl
@[simp] theorem laneOf_wrB (s : State) (o : ObjDesc) (i : Nat) (b : Bool) (p1 c1 n1 : Nat) : laneOf (wrB s o i b) p1 c1 n1 = laneOf s p1 c1 n1 := rfl
@[simp] theorem laneOf_bump (s : State) (o : ObjDesc) (i k : Nat) (p1 c1 n1 : Nat) : laneOf (bump s o i k) p1 c1 n1 = laneOf s p1 c1 n1 := rfl
@[simp] theorem laneOf_drop (s : State) (o : ObjDesc) (i k : Nat) (p1 c1 n1 : Nat) : laneOf (drop s o i k) p1 c1 n1 = laneOf s p1 c1 n1 := rfl
@[simp] theorem laneOf_clr (s : State) (o : ObjDesc) (i : Nat) (p1 c1 n1 : Nat) : laneOf (clr s o i) p1 c1 n1 = laneOf s p1 c1 n1 := rfl
@[simp] theorem laneOf_wrBytes (s : State) (o : ObjDesc) (i : Nat) (b : Bytes) (p1 c1 n1 : Nat) : laneOf (wrBytes s o i b) p1 c1 n1 = laneOf s p1 c1 n1 := rfl
@[simp] theorem laneOf_emit (s : State) (x : Out) (p1 c1 n1 : Nat) : laneOf (emit s x) p1 c1 n1 = laneOf s p1 c1 n1 := rfl
@[simp] theorem laneOf_drive (s : State) (x : Pin) (b : Bool) (p1 c1 n1 : Nat) : laneOf (drive s x b) p1 c1 n1 = laneOf s p1 c1 n1 := rfl
@[simp] theorem laneOf_takeFree (s : State) (p1 c1 n1 : Nat) : laneOf (takeFree s ) p1 c1 n1 = laneOf s p1 c1 n1 := rfl
@[simp] theorem laneOf_countDev (s : State) (i k : Nat) (p1 c1 n1 : Nat) : laneOf (countDev s i k) p1 c1 n1 = laneOf s p1 c1 n1 := rfl
@[simp] theorem stripeOf_wr (s : State) (o : ObjDesc) (i : Nat) (v : Int) (p1 n1 : Nat) : stripeOf (wr s o i v) p1 n1 = stripeOf s p1 n1 := rfl
@[simp] theorem stripeOf_wrB (s : State) (o : ObjDesc) (i : Nat) (b : Bool) (p1 n1 : Nat) : stripeOf (wrB s o i b) p1 n1 = stripeOf s p1 n1 := rfl
@[simp] theorem stripeOf_bump (s : State) (o : ObjDesc) (i k : Nat) (p1 n1 : Nat) : stripeOf (bump s o i k) p1 n1 = stripeOf s p1 n1 := rfl
@[simp] theorem stripeOf_drop (s : State) (o : ObjDesc) (i k : Nat) (p1 n1 : Nat) : stripeOf (drop s o i k) p1 n1 = stripeOf s p1 n1 := rfl
@[simp] theorem stripeOf_clr (s : State) (o : ObjDesc) (i : Nat) (p1 n1 : Nat) : stripeOf (clr s o i) p1 n1 = stripeOf s p1 n1 := rfl
@[simp] theorem stripeOf_wrBytes (s : State) (o : ObjDesc) (i : Nat) (b : Bytes) (p1 n1 : Nat) : stripeOf (wrBytes s o i b) p1 n1 = stripeOf s p1 n1 := rfl
@[simp] theorem stripeOf_emit (s : State) (x : Out) (p1 n1 : Nat) : stripeOf (emit s x) p1 n1 = stripeOf s p1 n1 := rfl
@[simp] theorem stripeOf_drive (s : State) (x : Pin) (b : Bool) (p1 n1 : Nat) : stripeOf (drive s x b) p1 n1 = stripeOf s p1 n1 := rfl
@[simp] theorem stripeOf_takeFree (s : State) (p1 n1 : Nat) : stripeOf (takeFree s ) p1 n1 = stripeOf s p1 n1 := rfl
@[simp] theorem stripeOf_countDev (s : State) (i k : Nat) (p1 n1 : Nat) : stripeOf (countDev s i k) p1 n1 = stripeOf s p1 n1 := rfl
@[simp] theorem verOf_wr (s : State) (o : ObjDesc) (i : Nat) (v : Int) (v1 l1 : Nat) : verOf (wr s o i v) v1 l1 = verOf s v1 l1 := rfl
@[simp] theorem verOf_wrB (s : State) (o : ObjDesc) (i : Nat) (b : Bool) (v1 l1 : Nat) : verOf (wrB s o i b) v1 l1 = verOf s v1 l1 := rfl
@[simp] theorem verOf_bump (s : State) (o : ObjDesc) (i k : Nat) (v1 l1 : Nat) : verOf (bump s o i k) v1 l1 = verOf s v1 l1 := rfl
@[simp] theorem verOf_drop (s : State) (o : ObjDesc) (i k : Nat) (v1 l1 : Nat) : verOf (drop s o i k) v1 l1 = verOf s v1 l1 := rfl
@[simp] theorem verOf_clr (s : State) (o : ObjDesc) (i : Nat) (v1 l1 : Nat) : verOf (clr s o i) v1 l1 = verOf s v1 l1 := rfl
@[simp] theorem verOf_wrBytes (s : State) (o : ObjDesc) (i : Nat) (b : Bytes) (v1 l1 : Nat) : verOf (wrBytes s o i b) v1 l1 = verOf s v1 l1 := rfl
@[simp] theorem verOf_emit (s : State) (x : Out) (v1 l1 : Nat) : verOf (emit s x) v1 l1 = verOf s v1 l1 := rfl
@[simp] theorem verOf_drive (s : State) (x : Pin) (b : Bool) (v1 l1 : Nat) : verOf (drive s x b) v1 l1 = verOf s v1 l1 := rfl
@[simp] theorem verOf_takeFree (s : State) (v1 l1 : Nat) : verOf (takeFree s ) v1 l1 = verOf s v1 l1 := rfl
@[simp] theorem verOf_countDev (s : State) (i k : Nat) (v1 l1 : Nat) : verOf (countDev s i k) v1 l1 = verOf s v1 l1 := rfl

/-! ## An entry after it is changed -/

@[simp] theorem qpOf_setQp (s : State) (n : Nat) (x : Qp) : qpOf (setQp s n x) n = x := by simp [qpOf, setQp]
@[simp] theorem qpOf_modQp (s : State) (n : Nat) (f : Qp → Qp) : qpOf (modQp s n f) n = f (qpOf s n) := by simp [modQp]
theorem qpOf_modQp_other (s : State) (f : Qp → Qp) (n m : Nat) (h : m ≠ n) : qpOf (modQp s n f) m = qpOf s m := by simp [qpOf, modQp, setQp, Tbl.getD_set_other _ _ _ h]
@[simp] theorem poolOf_setPool (s : State) (n : Nat) (x : Pool) : poolOf (setPool s n x) n = x := by simp [poolOf, setPool]
@[simp] theorem poolOf_modPool (s : State) (n : Nat) (f : Pool → Pool) : poolOf (modPool s n f) n = f (poolOf s n) := by simp [modPool]
theorem poolOf_modPool_other (s : State) (f : Pool → Pool) (n m : Nat) (h : m ≠ n) : poolOf (modPool s n f) m = poolOf s m := by simp [poolOf, modPool, setPool, Tbl.getD_set_other _ _ _ h]
@[simp] theorem volOf_modVol (s : State) (n : Nat) (f : Vol → Vol) : volOf (modVol s n f) n = f (volOf s n) := by simp [volOf, modVol]
theorem volOf_modVol_other (s : State) (f : Vol → Vol) (n m : Nat) (h : m ≠ n) : volOf (modVol s n f) m = volOf s m := by simp [volOf, modVol, Tbl.getD_set_other _ _ _ h]
@[simp] theorem dportOf_modDPort (s : State) (n : Nat) (f : DPort → DPort) : dportOf (modDPort s n f) n = f (dportOf s n) := by simp [dportOf, modDPort]
theorem dportOf_modDPort_other (s : State) (f : DPort → DPort) (n m : Nat) (h : m ≠ n) : dportOf (modDPort s n f) m = dportOf s m := by simp [dportOf, modDPort, Tbl.getD_set_other _ _ _ h]
@[simp] theorem hostPort_modHostPort (s : State) (n : Nat) (f : HostPort → HostPort) : hostPort (modHostPort s n f) n = f (hostPort s n) := by simp [hostPort, modHostPort]
theorem hostPort_modHostPort_other (s : State) (f : HostPort → HostPort) (n m : Nat) (h : m ≠ n) : hostPort (modHostPort s n f) m = hostPort s m := by simp [hostPort, modHostPort, Tbl.getD_set_other _ _ _ h]
@[simp] theorem fnOf_modFn (s : State) (n : Nat) (f : Fn → Fn) : fnOf (modFn s n f) n = f (fnOf s n) := by simp [fnOf, modFn]
theorem fnOf_modFn_other (s : State) (f : Fn → Fn) (n m : Nat) (h : m ≠ n) : fnOf (modFn s n f) m = fnOf s m := by simp [fnOf, modFn, Tbl.getD_set_other _ _ _ h]
theorem Tbl.get_modify_same {α : Type} {t : Tbl α} {k : Nat} {v : α} (f : α → α) (h : Tbl.get t k = some v) : Tbl.get (Tbl.modify t k f) k = some (f v) := by
  simp [Tbl.modify, h]
theorem Tbl.get_modify {α : Type} (t : Tbl α) (k : Nat) (f : α → α) : Tbl.get (Tbl.modify t k f) k = (Tbl.get t k).map f := by
  unfold Tbl.modify
  split
  · rename_i h; simp [h]
  · rename_i h; simp [h]
theorem Tbl.get_map {α β : Type} (t : Tbl α) (f : Nat → α → β) (k : Nat) : Tbl.get (t.map (fun e => (e.1, f e.1 e.2))) k = (Tbl.get t k).map (f k) := by
  induction t with
  | nil => rfl
  | cons e r ih =>
    obtain ⟨j, w⟩ := e
    simp only [List.map_cons, Tbl.get]
    split
    · rename_i h; subst h; rfl
    · exact ih

@[simp] theorem qpOf_modPool (s : State) (n : Nat) (f : Pool → Pool) (k : Nat) : qpOf (modPool s n f) k = qpOf s k := rfl
@[simp] theorem qpOf_modVol (s : State) (n : Nat) (f : Vol → Vol) (k : Nat) : qpOf (modVol s n f) k = qpOf s k := rfl
@[simp] theorem qpOf_modDPort (s : State) (n : Nat) (f : DPort → DPort) (k : Nat) : qpOf (modDPort s n f) k = qpOf s k := rfl
@[simp] theorem qpOf_modHostPort (s : State) (n : Nat) (f : HostPort → HostPort) (k : Nat) : qpOf (modHostPort s n f) k = qpOf s k := rfl
@[simp] theorem qpOf_modFn (s : State) (n : Nat) (f : Fn → Fn) (k : Nat) : qpOf (modFn s n f) k = qpOf s k := rfl
@[simp] theorem poolOf_modQp (s : State) (n : Nat) (f : Qp → Qp) (k : Nat) : poolOf (modQp s n f) k = poolOf s k := rfl
@[simp] theorem poolOf_modVol (s : State) (n : Nat) (f : Vol → Vol) (k : Nat) : poolOf (modVol s n f) k = poolOf s k := rfl
@[simp] theorem poolOf_modDPort (s : State) (n : Nat) (f : DPort → DPort) (k : Nat) : poolOf (modDPort s n f) k = poolOf s k := rfl
@[simp] theorem poolOf_modHostPort (s : State) (n : Nat) (f : HostPort → HostPort) (k : Nat) : poolOf (modHostPort s n f) k = poolOf s k := rfl
@[simp] theorem poolOf_modFn (s : State) (n : Nat) (f : Fn → Fn) (k : Nat) : poolOf (modFn s n f) k = poolOf s k := rfl
@[simp] theorem volOf_modQp (s : State) (n : Nat) (f : Qp → Qp) (k : Nat) : volOf (modQp s n f) k = volOf s k := rfl
@[simp] theorem volOf_modPool (s : State) (n : Nat) (f : Pool → Pool) (k : Nat) : volOf (modPool s n f) k = volOf s k := rfl
@[simp] theorem volOf_modDPort (s : State) (n : Nat) (f : DPort → DPort) (k : Nat) : volOf (modDPort s n f) k = volOf s k := rfl
@[simp] theorem volOf_modHostPort (s : State) (n : Nat) (f : HostPort → HostPort) (k : Nat) : volOf (modHostPort s n f) k = volOf s k := rfl
@[simp] theorem volOf_modFn (s : State) (n : Nat) (f : Fn → Fn) (k : Nat) : volOf (modFn s n f) k = volOf s k := rfl
@[simp] theorem dportOf_modQp (s : State) (n : Nat) (f : Qp → Qp) (k : Nat) : dportOf (modQp s n f) k = dportOf s k := rfl
@[simp] theorem dportOf_modPool (s : State) (n : Nat) (f : Pool → Pool) (k : Nat) : dportOf (modPool s n f) k = dportOf s k := rfl
@[simp] theorem dportOf_modVol (s : State) (n : Nat) (f : Vol → Vol) (k : Nat) : dportOf (modVol s n f) k = dportOf s k := rfl
@[simp] theorem dportOf_modHostPort (s : State) (n : Nat) (f : HostPort → HostPort) (k : Nat) : dportOf (modHostPort s n f) k = dportOf s k := rfl
@[simp] theorem dportOf_modFn (s : State) (n : Nat) (f : Fn → Fn) (k : Nat) : dportOf (modFn s n f) k = dportOf s k := rfl
@[simp] theorem hostPort_modQp (s : State) (n : Nat) (f : Qp → Qp) (k : Nat) : hostPort (modQp s n f) k = hostPort s k := rfl
@[simp] theorem hostPort_modPool (s : State) (n : Nat) (f : Pool → Pool) (k : Nat) : hostPort (modPool s n f) k = hostPort s k := rfl
@[simp] theorem hostPort_modVol (s : State) (n : Nat) (f : Vol → Vol) (k : Nat) : hostPort (modVol s n f) k = hostPort s k := rfl
@[simp] theorem hostPort_modDPort (s : State) (n : Nat) (f : DPort → DPort) (k : Nat) : hostPort (modDPort s n f) k = hostPort s k := rfl
@[simp] theorem hostPort_modFn (s : State) (n : Nat) (f : Fn → Fn) (k : Nat) : hostPort (modFn s n f) k = hostPort s k := rfl
@[simp] theorem fnOf_modQp (s : State) (n : Nat) (f : Qp → Qp) (k : Nat) : fnOf (modQp s n f) k = fnOf s k := rfl
@[simp] theorem fnOf_modPool (s : State) (n : Nat) (f : Pool → Pool) (k : Nat) : fnOf (modPool s n f) k = fnOf s k := rfl
@[simp] theorem fnOf_modVol (s : State) (n : Nat) (f : Vol → Vol) (k : Nat) : fnOf (modVol s n f) k = fnOf s k := rfl
@[simp] theorem fnOf_modDPort (s : State) (n : Nat) (f : DPort → DPort) (k : Nat) : fnOf (modDPort s n f) k = fnOf s k := rfl
@[simp] theorem fnOf_modHostPort (s : State) (n : Nat) (f : HostPort → HostPort) (k : Nat) : fnOf (modHostPort s n f) k = fnOf s k := rfl
@[simp] theorem rd_modPool (s : State) (n : Nat) (f : Pool → Pool) (d : ObjDesc) (j : Nat) : rd (modPool s n f) d j = rd s d j := rfl
@[simp] theorem rdN_modPool (s : State) (n : Nat) (f : Pool → Pool) (d : ObjDesc) (j : Nat) : rdN (modPool s n f) d j = rdN s d j := rfl
@[simp] theorem rdB_modPool (s : State) (n : Nat) (f : Pool → Pool) (d : ObjDesc) (j : Nat) : rdB (modPool s n f) d j = rdB s d j := rfl
@[simp] theorem rdBytes_modPool (s : State) (n : Nat) (f : Pool → Pool) (d : ObjDesc) (j : Nat) : rdBytes (modPool s n f) d j = rdBytes s d j := rfl

/-! ## Registers -/

theorem rdN_wr_self (s : State) (o : ObjDesc) (i : Nat) (v : Int) : rdN (wr s o i v) o i = v.toNat := by simp [rdN]

theorem rd_wrB_sub {s : State} {o p : ObjDesc} {i j : Nat} {b : Bool} (ho : o.sub < 256) (hp : p.sub < 256) (h : p.sub ≠ o.sub) : rd (wrB s o i b) p j = rd s p j :=
  rd_wr_other s _ (ObjDesc.key_ne_of_sub hp ho h j i)
theorem rd_wrB_index {s : State} {o p : ObjDesc} {i j : Nat} {b : Bool} (ho : o.sub < 256) (hp : p.sub < 256) (h : p.index ≠ o.index) (hi : o.index < 65536) (hj : p.index < 65536) :
    rd (wrB s o i b) p j = rd s p j :=
  rd_wr_other s _ (ObjDesc.key_ne_of_index hp ho h hj hi)
theorem rd_wrB_inst {s : State} {o : ObjDesc} {i j : Nat} {b : Bool} (h : j ≠ i) : rd (wrB s o i b) o j = rd s o j :=
  rd_wr_other s _ (ObjDesc.key_ne_of_inst o h)
theorem rd_bump_sub {s : State} {o p : ObjDesc} {i j : Nat} {n : Nat} (ho : o.sub < 256) (hp : p.sub < 256) (h : p.sub ≠ o.sub) : rd (bump s o i n) p j = rd s p j :=
  rd_wr_other s _ (ObjDesc.key_ne_of_sub hp ho h j i)
theorem rd_bump_index {s : State} {o p : ObjDesc} {i j : Nat} {n : Nat} (ho : o.sub < 256) (hp : p.sub < 256) (h : p.index ≠ o.index) (hi : o.index < 65536) (hj : p.index < 65536) :
    rd (bump s o i n) p j = rd s p j :=
  rd_wr_other s _ (ObjDesc.key_ne_of_index hp ho h hj hi)
theorem rd_bump_inst {s : State} {o : ObjDesc} {i j : Nat} {n : Nat} (h : j ≠ i) : rd (bump s o i n) o j = rd s o j :=
  rd_wr_other s _ (ObjDesc.key_ne_of_inst o h)
theorem rd_clr_sub {s : State} {o p : ObjDesc} {i j : Nat}  (ho : o.sub < 256) (hp : p.sub < 256) (h : p.sub ≠ o.sub) : rd (clr s o i) p j = rd s p j :=
  rd_wr_other s _ (ObjDesc.key_ne_of_sub hp ho h j i)
theorem rd_clr_index {s : State} {o p : ObjDesc} {i j : Nat}  (ho : o.sub < 256) (hp : p.sub < 256) (h : p.index ≠ o.index) (hi : o.index < 65536) (hj : p.index < 65536) :
    rd (clr s o i) p j = rd s p j :=
  rd_wr_other s _ (ObjDesc.key_ne_of_index hp ho h hj hi)
theorem rd_clr_inst {s : State} {o : ObjDesc} {i j : Nat}  (h : j ≠ i) : rd (clr s o i) o j = rd s o j :=
  rd_wr_other s _ (ObjDesc.key_ne_of_inst o h)
theorem rdN_wr_sub {s : State} {o p : ObjDesc} {i j : Nat} {v : Int} (ho : o.sub < 256) (hp : p.sub < 256) (h : p.sub ≠ o.sub) : rdN (wr s o i v) p j = rdN s p j :=
  rdN_wr_other s _ (ObjDesc.key_ne_of_sub hp ho h j i)
theorem rdN_wr_index {s : State} {o p : ObjDesc} {i j : Nat} {v : Int} (ho : o.sub < 256) (hp : p.sub < 256) (h : p.index ≠ o.index) (hi : o.index < 65536) (hj : p.index < 65536) :
    rdN (wr s o i v) p j = rdN s p j :=
  rdN_wr_other s _ (ObjDesc.key_ne_of_index hp ho h hj hi)
theorem rdN_wr_inst {s : State} {o : ObjDesc} {i j : Nat} {v : Int} (h : j ≠ i) : rdN (wr s o i v) o j = rdN s o j :=
  rdN_wr_other s _ (ObjDesc.key_ne_of_inst o h)
theorem rdN_wrB_sub {s : State} {o p : ObjDesc} {i j : Nat} {b : Bool} (ho : o.sub < 256) (hp : p.sub < 256) (h : p.sub ≠ o.sub) : rdN (wrB s o i b) p j = rdN s p j :=
  rdN_wr_other s _ (ObjDesc.key_ne_of_sub hp ho h j i)
theorem rdN_wrB_index {s : State} {o p : ObjDesc} {i j : Nat} {b : Bool} (ho : o.sub < 256) (hp : p.sub < 256) (h : p.index ≠ o.index) (hi : o.index < 65536) (hj : p.index < 65536) :
    rdN (wrB s o i b) p j = rdN s p j :=
  rdN_wr_other s _ (ObjDesc.key_ne_of_index hp ho h hj hi)
theorem rdN_wrB_inst {s : State} {o : ObjDesc} {i j : Nat} {b : Bool} (h : j ≠ i) : rdN (wrB s o i b) o j = rdN s o j :=
  rdN_wr_other s _ (ObjDesc.key_ne_of_inst o h)
theorem rdN_bump_sub {s : State} {o p : ObjDesc} {i j : Nat} {n : Nat} (ho : o.sub < 256) (hp : p.sub < 256) (h : p.sub ≠ o.sub) : rdN (bump s o i n) p j = rdN s p j :=
  rdN_wr_other s _ (ObjDesc.key_ne_of_sub hp ho h j i)
theorem rdN_bump_index {s : State} {o p : ObjDesc} {i j : Nat} {n : Nat} (ho : o.sub < 256) (hp : p.sub < 256) (h : p.index ≠ o.index) (hi : o.index < 65536) (hj : p.index < 65536) :
    rdN (bump s o i n) p j = rdN s p j :=
  rdN_wr_other s _ (ObjDesc.key_ne_of_index hp ho h hj hi)
theorem rdN_bump_inst {s : State} {o : ObjDesc} {i j : Nat} {n : Nat} (h : j ≠ i) : rdN (bump s o i n) o j = rdN s o j :=
  rdN_wr_other s _ (ObjDesc.key_ne_of_inst o h)
theorem rdN_clr_sub {s : State} {o p : ObjDesc} {i j : Nat}  (ho : o.sub < 256) (hp : p.sub < 256) (h : p.sub ≠ o.sub) : rdN (clr s o i) p j = rdN s p j :=
  rdN_wr_other s _ (ObjDesc.key_ne_of_sub hp ho h j i)
theorem rdN_clr_index {s : State} {o p : ObjDesc} {i j : Nat}  (ho : o.sub < 256) (hp : p.sub < 256) (h : p.index ≠ o.index) (hi : o.index < 65536) (hj : p.index < 65536) :
    rdN (clr s o i) p j = rdN s p j :=
  rdN_wr_other s _ (ObjDesc.key_ne_of_index hp ho h hj hi)
theorem rdN_clr_inst {s : State} {o : ObjDesc} {i j : Nat}  (h : j ≠ i) : rdN (clr s o i) o j = rdN s o j :=
  rdN_wr_other s _ (ObjDesc.key_ne_of_inst o h)
theorem rdB_wr_sub {s : State} {o p : ObjDesc} {i j : Nat} {v : Int} (ho : o.sub < 256) (hp : p.sub < 256) (h : p.sub ≠ o.sub) : rdB (wr s o i v) p j = rdB s p j :=
  rdB_wr_other s _ (ObjDesc.key_ne_of_sub hp ho h j i)
theorem rdB_wr_index {s : State} {o p : ObjDesc} {i j : Nat} {v : Int} (ho : o.sub < 256) (hp : p.sub < 256) (h : p.index ≠ o.index) (hi : o.index < 65536) (hj : p.index < 65536) :
    rdB (wr s o i v) p j = rdB s p j :=
  rdB_wr_other s _ (ObjDesc.key_ne_of_index hp ho h hj hi)
theorem rdB_wr_inst {s : State} {o : ObjDesc} {i j : Nat} {v : Int} (h : j ≠ i) : rdB (wr s o i v) o j = rdB s o j :=
  rdB_wr_other s _ (ObjDesc.key_ne_of_inst o h)
theorem rdB_wrB_sub {s : State} {o p : ObjDesc} {i j : Nat} {b : Bool} (ho : o.sub < 256) (hp : p.sub < 256) (h : p.sub ≠ o.sub) : rdB (wrB s o i b) p j = rdB s p j :=
  rdB_wr_other s _ (ObjDesc.key_ne_of_sub hp ho h j i)
theorem rdB_wrB_index {s : State} {o p : ObjDesc} {i j : Nat} {b : Bool} (ho : o.sub < 256) (hp : p.sub < 256) (h : p.index ≠ o.index) (hi : o.index < 65536) (hj : p.index < 65536) :
    rdB (wrB s o i b) p j = rdB s p j :=
  rdB_wr_other s _ (ObjDesc.key_ne_of_index hp ho h hj hi)
theorem rdB_wrB_inst {s : State} {o : ObjDesc} {i j : Nat} {b : Bool} (h : j ≠ i) : rdB (wrB s o i b) o j = rdB s o j :=
  rdB_wr_other s _ (ObjDesc.key_ne_of_inst o h)
theorem rdB_bump_sub {s : State} {o p : ObjDesc} {i j : Nat} {n : Nat} (ho : o.sub < 256) (hp : p.sub < 256) (h : p.sub ≠ o.sub) : rdB (bump s o i n) p j = rdB s p j :=
  rdB_wr_other s _ (ObjDesc.key_ne_of_sub hp ho h j i)
theorem rdB_bump_index {s : State} {o p : ObjDesc} {i j : Nat} {n : Nat} (ho : o.sub < 256) (hp : p.sub < 256) (h : p.index ≠ o.index) (hi : o.index < 65536) (hj : p.index < 65536) :
    rdB (bump s o i n) p j = rdB s p j :=
  rdB_wr_other s _ (ObjDesc.key_ne_of_index hp ho h hj hi)
theorem rdB_bump_inst {s : State} {o : ObjDesc} {i j : Nat} {n : Nat} (h : j ≠ i) : rdB (bump s o i n) o j = rdB s o j :=
  rdB_wr_other s _ (ObjDesc.key_ne_of_inst o h)
theorem rdB_clr_sub {s : State} {o p : ObjDesc} {i j : Nat}  (ho : o.sub < 256) (hp : p.sub < 256) (h : p.sub ≠ o.sub) : rdB (clr s o i) p j = rdB s p j :=
  rdB_wr_other s _ (ObjDesc.key_ne_of_sub hp ho h j i)
theorem rdB_clr_index {s : State} {o p : ObjDesc} {i j : Nat}  (ho : o.sub < 256) (hp : p.sub < 256) (h : p.index ≠ o.index) (hi : o.index < 65536) (hj : p.index < 65536) :
    rdB (clr s o i) p j = rdB s p j :=
  rdB_wr_other s _ (ObjDesc.key_ne_of_index hp ho h hj hi)
theorem rdB_clr_inst {s : State} {o : ObjDesc} {i j : Nat}  (h : j ≠ i) : rdB (clr s o i) o j = rdB s o j :=
  rdB_wr_other s _ (ObjDesc.key_ne_of_inst o h)
theorem rdN_raise {s : State} {id sev k n d} {o : ObjDesc} {j : Nat} (hs : o.sub < 256) (h : o.index ≠ 0x4000 ∧ o.index ≠ 0x4010 ∧ o.index ≠ 0x4020) (hj : o.index < 65536) :
    rdN (raise s id sev k n d) o j = rdN s o j :=
  (raise_only s id sev k n d).rdN (ObjDesc.not_event hs hj h)
theorem rdN_raiseOpen {s : State} {id sev k n} {o : ObjDesc} {j : Nat} (hs : o.sub < 256) (h : o.index ≠ 0x4000 ∧ o.index ≠ 0x4010 ∧ o.index ≠ 0x4020) (hj : o.index < 65536) :
    rdN (raiseOpen s id sev k n) o j = rdN s o j :=
  (raiseOpen_only s id sev k n).rdN (ObjDesc.not_event hs hj h)
theorem rdB_raise {s : State} {id sev k n d} {o : ObjDesc} {j : Nat} (hs : o.sub < 256) (h : o.index ≠ 0x4000 ∧ o.index ≠ 0x4010 ∧ o.index ≠ 0x4020) (hj : o.index < 65536) :
    rdB (raise s id sev k n d) o j = rdB s o j :=
  (raise_only s id sev k n d).rdB (ObjDesc.not_event hs hj h)
theorem rdB_raiseOpen {s : State} {id sev k n} {o : ObjDesc} {j : Nat} (hs : o.sub < 256) (h : o.index ≠ 0x4000 ∧ o.index ≠ 0x4010 ∧ o.index ≠ 0x4020) (hj : o.index < 65536) :
    rdB (raiseOpen s id sev k n) o j = rdB s o j :=
  (raiseOpen_only s id sev k n).rdB (ObjDesc.not_event hs hj h)
theorem rd_clrInst {s : State} {ix n : Nat} {o : ObjDesc} {j : Nat} (ho : o.sub < 256) (hi : o.index ≠ ix) (hx : o.index < 65536) (hn : ix < 65536) : rd (clrInst s ix n) o j = rd s o j := by
  simp only [rd, clrInst]
  rw [Tbl.get_filterK]
  unfold ObjDesc.key objKey
  simp only [bne_iff_ne, ne_eq]
  omega
theorem rdN_clrInst {s : State} {ix n : Nat} {o : ObjDesc} {j : Nat} (ho : o.sub < 256) (hi : o.index ≠ ix) (hx : o.index < 65536) (hn : ix < 65536) : rdN (clrInst s ix n) o j = rdN s o j := by
  simp only [rdN, rd_clrInst ho hi hx hn]

/-! ## Pins -/

@[simp] theorem pins_drive (s : State) (p : Pin) (b : Bool) (d : Nat) : Tbl.getD (drive s p b).pins p.num d = b2n b := by
  cases b <;> simp [drive, emit, b2n]
theorem pins_drive_other (s : State) (p r : Pin) (b : Bool) (d : Nat) (h : r.num ≠ p.num) : Tbl.getD (drive s p b).pins r.num d = Tbl.getD s.pins r.num d := by
  simp [drive, emit, Tbl.getD_set_other _ _ _ h]

/-! ## Completions -/

theorem buildCpl_cpl (s : State) (q : Nat) (e : Cpl) :
    (qpOf (buildCpl s q e) q).cpl = (qpOf s q).cpl ++ [{ e with order := s.sluice.builds, nextSr := rdN s Obj.NEXT_SR_SEQ q }] := by
  have : qpOf (buildCpl s q e) q = qpOf (modQp s q (fun y => { y with cpl := y.cpl ++ [{ e with order := s.sluice.builds, nextSr := rdN s Obj.NEXT_SR_SEQ q }] })) q := rfl
  rw [this, qpOf_modQp]
theorem finishWith_cpl (s : State) (q : Nat) (c : Cmd) (e : Cpl) :
    ∃ x ∈ (qpOf (finishWith s q c e) q).cpl, x.tag = e.tag ∧ x.status = e.status ∧ x.result = e.result ∧ x.committed = e.committed ∧ x.degraded = e.degraded := by
  refine ⟨{ e with order := (dropCmd s q c.tag).sluice.builds, nextSr := rdN (dropCmd s q c.tag) Obj.NEXT_SR_SEQ q }, ?_, rfl, rfl, rfl, rfl, rfl⟩
  unfold finishWith
  rw [buildCpl_cpl]; simp
theorem finish_cpl (s : State) (q : Nat) (c : Cmd) (st r : Nat) : ∃ x ∈ (qpOf (finish s q c st r) q).cpl, x.tag = c.tag ∧ x.status = st ∧ x.result = r := by
  obtain ⟨x, h, a, b, d, _⟩ := finishWith_cpl s q c (cmdCpl s c st r)
  exact ⟨x, h, a, b, d⟩
@[simp] theorem rdN_finish (s : State) (q : Nat) (c : Cmd) (st r : Nat) (o : ObjDesc) (j : Nat) : rdN (finish s q c st r) o j = rdN s o j := rfl
theorem startable_facts {s : State} {q tag op : Nat} {c : Cmd} (h : startable s q tag op = some c) : c.tag = tag ∧ c.opcode = op ∧ c.phase = .admitted := by
  have := List.find?_some h
  simpa [and_assoc] using this
theorem cmds_modCmd (s : State) (q : Nat) (tag : Nat) (f : Cmd → Cmd) : (qpOf (modCmd s q tag f) q).cmds = (qpOf s q).cmds.map (fun c => if c.tag = tag then f c else c) := by
  simp [modCmd]

/-! ## The frame of a command from the frame of its meaning -/

theorem Mask.le_self (a : Nat) : Mask.le a a = true := by simp [Mask.le]
theorem frame_of {c : Instr} {s t : State} {ps : List Part} {os : Option (List ObjDesc)} (hf : footOf c = ⟨ps, os⟩)
    (k : ∃ u, exec c s = .next u ∧ Keeps (Foot.mask ⟨ps, os⟩) s u) (ho : Foot.ok ⟨ps, os⟩ = true) (h : exec c s = .next t) : (footOf c).Kept s t := by
  obtain ⟨u, e, k⟩ := k
  rw [hf]
  rw [e] at h
  cases h
  exact k.kept (Mask.le_self _) ho

end Sys2Proof.Machine
end

