-- ==== Sys2Proof/WellFormed.lean ====
section
/-! DEFINITION. When a command is well formed: every number it carries names something the device has (queue pairs, tags, pools, volumes, ports, functions, slots), and byte strings have the length of what they carry. A meaning answers for ill-formed commands too: what names nothing changes nothing. -/

namespace Sys2Proof

/-- The command is well formed. -/
def Instr.wellFormed (i : Instr) : Bool :=
  match i with
  | .pushSlotWrite qp off data => decide (qp < 8192 ∧ off + data.length ≤ 256)
  | .pushSlotTimeout qp slot => decide (qp < 8192 ∧ slot < 4)
  | .srNotify qp _ => decide (qp < 8192)
  | .crRelease qp _ => decide (qp < 8192)
  | .ringFetchComplete qp _ _ => decide (qp < 8192)
  | .qpPoll qp _ _ _ => decide (qp < 8192)
  | .crSlotPoll qp _ _ => decide (qp < 8192)
  | .admitCommand => true
  | .completionWrite qp => decide (qp < 8192)
  | .msixCoalesceTimeout qp => decide (qp < 8192)
  | .adminCtrlEnable pf _ => decide (pf < 2)
  | .adminCtrlReset pf => decide (pf < 2)
  | .adminCtrlMode pf _ => decide (pf < 2)
  | .qpModeWrite qp _ => decide (qp < 8192)
  | .qpHalt qp => decide (qp < 8192)
  | .queueResetTimeout qp => decide (qp < 8192)
  | .read qp tag _ => decide (qp < 8192 ∧ tag < 65536)
  | .write qp tag => decide (qp < 8192 ∧ tag < 65536)
  | .flush qp tag => decide (qp < 8192 ∧ tag < 65536)
  | .flushCompletion qp tag => decide (qp < 8192 ∧ tag < 65536)
  | .deallocate qp tag => decide (qp < 8192 ∧ tag < 65536)
  | .deallocateCompletion qp tag => decide (qp < 8192 ∧ tag < 65536)
  | .verify qp tag => decide (qp < 8192 ∧ tag < 65536)
  | .dictRead qp tag _ => decide (qp < 8192 ∧ tag < 65536)
  | .dictWrite qp tag _ => decide (qp < 8192 ∧ tag < 65536)
  | .queueCreate qp tag => decide (qp < 8192 ∧ tag < 65536)
  | .queueReset qp tag => decide (qp < 8192 ∧ tag < 65536)
  | .sanitize qp tag => decide (qp < 8192 ∧ tag < 65536)
  | .format qp tag => decide (qp < 8192 ∧ tag < 65536)
  | .formatPhase1Drained vol => decide (vol < 4096)
  | .sanitizeCisternWaitEnd vol => decide (vol < 4096)
  | .writeDmaLanded qp tag _ data _ => decide (qp < 8192 ∧ tag < 65536 ∧ data.length = 4096)
  | .writeCompletion qp tag => decide (qp < 8192 ∧ tag < 65536)
  | .readOverlapResolve qp tag => decide (qp < 8192 ∧ tag < 65536)
  | .writeStep7Release qp tag => decide (qp < 8192 ∧ tag < 65536)
  | .stripeAgeTimer pool _ => decide (pool < 8)
  | .laneWaitEnd pool _ _ => decide (pool < 8)
  | .columnWriteComplete _ => true
  | .ilogRecordDurable _ _ => true
  | .slotRelease _ => true
  | .ilogWearRotate => true
  | .checkpointStart pool => decide (pool < 8)
  | .checkpointStepDone pool => decide (pool < 8)
  | .mapCheckpointNow pool => decide (pool < 8)
  | .mapLeafReadComplete _ _ _ => true
  | .dredgeSelect pool => decide (pool < 8)
  | .segmentResetStart pool _ => decide (pool < 8)
  | .zoneResetComplete _ _ => true
  | .poolActionCreate pool => decide (pool < 8)
  | .poolActionOnline pool => decide (pool < 8)
  | .poolActionOffline pool => decide (pool < 8)
  | .poolActionDestroy pool => decide (pool < 8)
  | .poolActionStepDone pool _ _ _ _ _ => decide (pool < 8)
  | .codeTableDataWrite slot _ => decide (slot < 16)
  | .codeCheckStart slot => decide (slot < 16)
  | .codeCheckDone slot => decide (slot < 16)
  | .volumeCreate vol => decide (vol < 4096)
  | .volumeDelete vol => decide (vol < 4096)
  | .volumeDeleteDrained vol => decide (vol < 4096)
  | .volumeCapacityWrite vol _ => decide (vol < 4096)
  | .memberAdd pool slot => decide (pool < 8 ∧ slot < 64)
  | .memberRemove pool slot => decide (pool < 8 ∧ slot < 64)
  | .memberActionFail pool slot => decide (pool < 8 ∧ slot < 64)
  | .rebuildStart pool => decide (pool < 8)
  | .rebuildAutoStart pool => decide (pool < 8)
  | .rebuildNextSegment pool => decide (pool < 8)
  | .memberReadComplete _ _ _ => true
  | .degradedDecodeDone _ => true
  | .patrolStripe pool _ => decide (pool < 8)
  | .patrolRestart pool => decide (pool < 8)
  | .resyncStripeCheck pool _ => decide (pool < 8)
  | .reshapeCursorAdvance pool => decide (pool < 8)
  | .driveGroupEnable group _ => decide (group < 16)
  | .driveLinkUp port _ _ => decide (port < 64)
  | .admissionCommandComplete _ _ => true
  | .driveCommandComplete _ _ _ => true
  | .commandRetryDelay _ => true
  | .driveCommandTimeout _ _ => true
  | .abortTimeLimit _ => true
  | .controllerResetDone port _ _ _ => decide (port < 64)
  | .recoveryTimeLimit _ => true
  | .presenceDebounced port => decide (port < 64)
  | .presenceLost port => decide (port < 64)
  | .dataLinkDown port => decide (port < 64)
  | .portReleaseRetry port => decide (port < 64)
  | .portReleaseFail port => decide (port < 64)
  | .portReleaseLinkTimeout port => decide (port < 64)
  | .sidebandFrame inputs => decide (inputs < 2 ^ 64)
  | .driveHealthPoll => true
  | .driveGateClose => true
  | .driveGateOpen => true
  | .culvertFlitReceived flit => decide (flit.length = 256)
  | .culvertReplayTimeout => true
  | .culvertDown => true
  | .bundleTrained _ => true
  | .bundleFailed _ => true
  | .mirrorData _ pool _ _ _ md data => decide (pool < 8 ∧ md.length = 64 ∧ data.length = 4096)
  | .mirrorAck _ _ => true
  | .mirrorRelease _ => true
  | .atomicMark pool vol _ _ => decide (pool < 8 ∧ vol < 4096)
  | .record _ pool _ => decide (pool < 8)
  | .recordAck _ => true
  | .heartbeat _ side _ _ _ _ _ _ => decide (side < 2)
  | .epochPrepare _ _ => true
  | .epochPrepared _ => true
  | .epochCommitMessage _ => true
  | .epochAbort _ => true
  | .digest pool _ _ _ _ _ => decide (pool < 8)
  | .digestReply pool _ _ => decide (pool < 8)
  | .sync pool _ => decide (pool < 8)
  | .dumping => true
  | .handoverRequest pool _ => decide (pool < 8)
  | .handoverDone pool _ => decide (pool < 8)
  | .config pool _ _ _ _ => decide (pool < 8)
  | .settled pool => decide (pool < 8)
  | .pairJoin => true
  | .pairAliveTimeout => true
  | .pairHeartbeatTimeout => true
  | .pairTakeover => true
  | .fenceAckReceived => true
  | .fenceWaitTimeout => true
  | .reservationRetry => true
  | .takeoverStepDone _ _ _ _ _ => true
  | .pairPoolHandover pool => decide (pool < 8)
  | .pairFaultClear => true
  | .epochCommit _ => true
  | .epochCommitPair _ => true
  | .epochDiscard => true
  | .unitAcknowledge unit => decide (unit < 71)
  | .epochTimeout => true
  | .epochRecordWritten => true
  | .epochRevertDone => true
  | .epochCommitAckTimeout => true
  | .mctpMessage pkt _ => decide (pkt.src < 256 ∧ pkt.seq < 4 ∧ pkt.tag < 16 ∧ pkt.data.length ≤ 64)
  | .setEndpointId src inst op eid => decide (src < 256 ∧ inst < 32 ∧ op < 4 ∧ eid < 256)
  | .getEndpointId src inst => decide (src < 256 ∧ inst < 32)
  | .getMctpVersionSupport src inst ty => decide (src < 256 ∧ inst < 32 ∧ ty < 256)
  | .getMessageTypeSupport src inst => decide (src < 256 ∧ inst < 32)
  | .getVendorDefinedMessageSupport src inst sel => decide (src < 256 ∧ inst < 32 ∧ sel < 256)
  | .udpDatagram _ port _ _ => decide (port < 65536)
  | .keyExchange _ _ _ => true
  | .finish session _ => decide (session < 14)
  | .endSession session => decide (session < 14)
  | .getMeasurements _ _ index => decide (index < 256)
  | .spdmMessage _ _ code session => decide (code < 256 ∧ (∀ n ∈ session, n < 14))
  | .sessionHeartbeatTimeout session => decide (session < 14)
  | .dictionaryRead session _ => decide ((∀ n ∈ session, n < 14))
  | .dictionaryWrite session _ => decide ((∀ n ∈ session, n < 14))
  | .dictionaryNop session _ => decide ((∀ n ∈ session, n < 14))
  | .registerWrite _ => true
  | .persistentWritePaced => true
  | .multipartTimeout session _ => decide (session < 1040)
  | .mgmtOobEnChange _ => true
  | .factoryDefaults _ => true
  | .weirRecompute => true
  | .weirWaitWarn qp tag => decide (qp < 8192 ∧ tag < 65536)
  | .dumpEnd => true
  | .cisternSelftestTimer _ => true
  | .cisternEraseDone _ => true
  | .cisternImageRelease => true
  | .cisternRestoreLossAck => true
  | .load pf _ _ slot => decide (pf < 2 ∧ slot < 4096)
  | .installCurrent pf _ _ slot => decide (pf < 2 ∧ slot < 4096)
  | .installPrevious pf _ _ slot => decide (pf < 2 ∧ slot < 4096)
  | .retire pf _ _ slot => decide (pf < 2 ∧ slot < 4096)
  | .destroy pf _ _ slot => decide (pf < 2 ∧ slot < 4096)
  | .clearStaging pf _ => decide (pf < 2)
  | .keyStagingWrite pf _ _ => decide (pf < 2)
  | .keyPersistWrite mode => decide (mode < 256)
  | .tamperEnclosureAssert => true
  | .tamperMeshBreak => true
  | .tamperClear _ _ => true
  | .pipeClear quadrant _ => decide (quadrant < 4)
  | .invalidateRange => true
  | .invalidateVolume => true
  | .invalidateAll => true
  | .cleanLines => true
  | .preload range => decide (range < 64)
  | .unlock range => decide (range < 64)
  | .cacheMaintStep => true
  | .cacheWaysEnabled _ => true
  | .cacheFrameWays _ => true
  | .sliceWayReenable slice _ => decide (slice < 4)
  | .wayMarchTestDone slice way _ => decide (slice < 4 ∧ way < 16)
  | .wayDisable slice way => decide (slice < 4 ∧ way < 16)
  | .frameFillComplete _ => true
  | .hbmStackFailed stack => decide (stack < 4)
  | .packEnable _ => true
  | .packResetLearning => true
  | .packEsrMeasureNow => true
  | .packEsrInterval => true
  | .impedanceDeferredRun => true
  | .impedanceSettleDone _ _ => true
  | .impedanceLoadOff _ _ => true
  | .estimatorUpdate => true
  | .packOvervoltage => true
  | .packChargerFault => true
  | .packAbsent => true
  | .packPresent => true
  | .packRested => true
  | .packStale => true
  | .p3v3AuxRise side => decide (side < 2)
  | .p3v3AuxLoss => true
  | .p12vInRange => true
  | .p12vSag => true
  | .p12vReturned => true
  | .rideThroughClear => true
  | .rideThroughExpiry => true
  | .acfailExpiry => true
  | .acfailRelease => true
  | .inputCollapse _ => true
  | .railFault _ => true
  | .thermalTrip _ _ => true
  | .thermalDump _ => true
  | .thermAlert _ => true
  | .thermAlertRelease _ => true
  | .quadrantStepDown q _ => decide (q < 4)
  | .thermalEpochRetry => true
  | .quadrantReturn q _ => decide (q < 4)
  | .pllLockLoss => true
  | .pllRelock => true
  | .pllFallback => true
  | .railsOffTimeout => true
  | .resetNAssert _ => true
  | .resetNRelease _ => true
  | .startupStepDone _ _ => true
  | .startMemberWaitExpiry => true
  | .watchdogExpiry => true
  | .deviceReset _ => true
  | .fwUpdateSlot _ => true
  | .fwSlotErase slot => decide (slot < 2)
  | .fwSlotData _ data => decide (data.length ≤ 65536)
  | .fwSlotVerify slot _ _ _ _ => decide (slot < 2)
  | .bootSlotPreferred _ => true
  | .fwSvnCommit _ => true
  | .hostPrbs => true
  | .drivePrbs => true
  | .culvertPrbs => true
  | .culvertLoopback => true
  | .hbmPattern => true
  | .cisternSelftest => true
  | .testStop _ => true
  | .testDurationExpiry _ => true
  | .testConditionLost _ => true
  | .jtagInstruction _ => true
  | .busMasterDisable fn => decide (fn < 1026)
  | .busMasterEnable fn => decide (fn < 1026)
  | .hostReadErrorCompletion qp tag => decide (qp < 8192 ∧ tag < 65536)
  | .flr fn => decide (fn < 1026)
  | .flrComplete fn => decide (fn < 1026)
  | .d3hotEntry fn => decide (fn < 1026)
  | .d0Return fn => decide (fn < 1026)
  | .vfEnable port _ numVfs => decide (port < 2 ∧ numVfs ≤ 512)
  | .msixVectorUnmask fn _ => decide (fn < 1026)
  | .perstAssert port => decide (port < 2)
  | .perstRelease port speed width => decide (port < 2 ∧ speed < 8 ∧ width ≤ 16)
  | .hotReset port => decide (port < 2)
  | .hostLinkDown port => decide (port < 2)
  | .moduleIdleEntry => true
  | .moduleIdleExit => true
  | .coalesceWindowClose _ => true
  | .stormQuiet path => decide (path < 18)
  | .eventRingEnable pf _ => decide (pf < 2)
  | .eventRingCoalesceTimeout pf => decide (pf < 2)
  | .subscribe session severity => decide (session < 14 ∧ severity < 256)
  | .eventSubFetch session _ => decide (session < 14)
  | .eventStoreRead session _ => decide (session < 14)
  | .alarmStoreRead session _ => decide (session < 14)
  | .counterClear _ => true
  | .admissionTimeout port => decide (port < 64)
  | .driveControllerReady port => decide (port < 64)
  | .driveAerUncorrectable port => decide (port < 64)
  | .hbmRefreshThreshold stack _ => decide (stack < 4)
  | .p12vTransient => true
  | .ethernetFrame _ => true
  | .i3cDynamicAddress _ static addr => decide (static < 128 ∧ addr < 128)
  | .heartbeatInterval => true
  | .pairAliveReturn => true
  | .listPageReadComplete qp tag page err => decide (qp < 8192 ∧ tag < 65536 ∧ (err = true ∨ page.length = 4096))
  | .pmeStatusClear pf => decide (pf < 2)
  | .packSample _ _ _ _ => true
  | .zeroingComplete kind => decide (kind < 3)

end Sys2Proof
end

