-- ==== Sys2Proof/Tests/Slice0.lean ====
section
/-! SUPPORT. Tests: for every statement with hypotheses, a concrete state and operands that meet the hypotheses of each of its clauses; ill-formed commands that WellFormed refuses; and values that worked examples of the spec give. -/

set_option maxRecDepth 20000
set_option Elab.async false

namespace Sys2Proof.Tests

open Sys2Proof Sys2Proof.Machine

/-! ## Values for the witnesses -/

def cmd0 : Cmd := { tag := 0, srSeq := 0, opcode := 0, flags := 0, volume := 0, slba := 0, nlb := 1, target := 0, descs := [], page := none, phase := .admitted, takenAt := 0, admitNo := 0, wseq := 0, commitWait := false, rd := [], wr := [], wFirst := 0, wTotal := 0, lane := 0, cut := false, stream := false, repaired := 0, lost := 0, warned := false, wait := none }
def mcmd0 : MCmd := { port := 63, op := .flush, purp := .health, st := .placed, issued := 0, retries := 0, recFrom := none, begun := false }
def cpl0 : Cpl := { order := 0, tag := 0, opcode := 1, srSeq := 0, status := 0, result := 0, degraded := false, committed := false, nextSr := 0, served := 0, time := 0, holdsTag := true, holdsPool := false, volume := 0, bytes := 0, slots := [] }
def drv0 : DrvStatus := { status := 0, retry := false, poisoned := false, fatal := false, wp := 0, warning := 0, used := 0, holder := none }
def start0 : StartItem := { block := true, words := [], images := [], config := 0, engines := [], ways := [], pipes := [], wrapOk := true, dies := 16, bad := [], badOld := [] }
def test0 : TestItem := { bits := 0, errors := 0, lanes := [], dies := 16 }
def slot0 : Slot := { st := .dirty, md := Meta.zero, data := [], pool := 0, stripe := 0, row := 0, col := 0, prev := .unmapped, prevVer := none, acked := false, atomicRef := 0, restored := false, mirrored := true, recAcked := true, qp := 0, tag := 0, sector := 0, mappedAt := none, poison := [] }
def take0 : Takeover := { pools := [], step := 2, cause := 5, started := 0, won := [], lost := [], open_ := [], silent := true, alarmed := false }
def maint0 : Maint := { op := 1, vol := 0, slba := 0, nlb := 0, range := 0, next := 0, total := 512, ways := [], tests := [], paused := false }
def sess0 : Session := { fresh := false, cached := none, rsp := 0, parts := [], last := 0 }
def fill0 : Fill := { vol := 0, lba := 0, kind := 0, frame := 0, md := Meta.zero, data := [] }
def op0 : VolOp := { kind := 1, pool := 0, state := Op.phase1, boundary := 0, total := 0, waiters := [], started := 0, wseq := 0, ckpt := 0, step := 1 }
def run0 : TestRun := { op := 1, target := 0, started := 0 }
def img0 : Image := { num := 0, cause := 0, slots := [], serial := [], epochs := (0, 0), head := 0, planned := [], stripes := [], recs := [], leaves := [], written := 0 }
def ckpt0 : Ckpt := { number := 1, step := 1, cutRec := 0, cutStripe := 0, seqHigh := 0, leaves := [], roots := [], cursor := 0 }
def seg0 : Seg := { st := 3, seq := 1, cls := 0, table := 2, k := 1, m := 1, l := 0, f := 1, height := 1, sectors := 0, cols := [], next := 0, hdrs := [], sealing := false, chosen := false, copies := 0, passBy := 0, resets := [], hint := 0, aligned := false }
def pos0 : Pos := { fill := false, landed := true, slot := none, md := Meta.zero, data := [], src := none, page := none }
def stripe0 : Stripe := { id := 0, cls := 0, lane := 0, seg := 0, first := 0, cap := 1, fullCap := false, pos := [pos0], closing := none, issued := false, height := 1, colsLeft := [], logged := false, reissue := false, atomic := false, openedAt := 0, ageLimit := 0, engine := 0, cluster := 0, row := 0, acc := [], par := [], gone := false }
def rec0 : LogRec := { seq := 0, pool := 7, body := .reshape 0, durable := false, copy := false }
def dig0 : DigestRec := { owner := 0, slots := [], partner := none, done := false, first := 0, height := 0, copies := [], asked := false, back := [] }
def job0 : Job := { want := .rebuild, pool := 0, vol := 0, lba := 0, slot := 0, zs := 0, col := 0, erased := [], sources := [], got := [], first := [], used := [], tried := [], bad := [], repair := false, waits := false }
def resh0 : Reshape := { kind := 1, leaving := 0, moving := none, oldTable := none }
def desc0 : Desc := { addr := 0, len := 4096, kind := 0, resv := 0 }
def pkt0 : McPacket := { src := 0, som := true, eom := true, seq := 0, tag := 0, pec := none, data := [] }
def key0 : EvKey := { id := { chapter := 1, rule := 18, nth := 0 }, kind := 0, inst := 0 }
def win0 : EvWindow := { key := key0, sev := .warn, closes := 0, folded := 0, detail := 0, ts := 0 }
def ring0 : EvRing := { deliveries := 1, unsignalled := 1, firstAt := 0 }
def sq0 : SqEntry := { w0 := 0, w1 := 0, w2 := 0, w3 := 0, w4 := 0, w5 := 0, w6 := 0, w7 := 0 }
def walk0 : WalkAt := { slot := 0, idx := 0, started := 0 }
def paced0 : Paced := { src := .engine none, req := [] }
def pool7 (n : Nat) : State := (List.range n).foldl (fun s m => wr (wr s Obj.MEMBER_STATE (mInst 7 m) 1) Obj.MEMBER_PORT (mInst 7 m) m)
  (modPool (wr (wr (wr (wr State.reset Obj.POOL_CODE_TABLE 7 4) Obj.POOL_K 7 1) Obj.POOL_REBUILD_RESERVE 7 0) Obj.POOL_STATE 7 1) 7 (fun x => { x with zm := 1000, sectors := 65536 }))
def floors0 (s : State) : State := { s with ilog := { s.ilog with floors := [(0, 1048576), (15, 1048576), (16, 1048576)] } }
def withCmd (s : State) (q : Nat) (c : Cmd) : State := modQp s q (fun x => { x with cmds := [c] })
def withCache (s : State) (f : CacheSt → CacheSt) : State := { s with cache := f s.cache }
def hdr0 : StripeHdr := { id := 1, first := 1, height := 1, reason := 0, flags := 0, fws := 0, lws := 0, count := 1 }
def push0 (s : State) (q : Nat) : State := modFn (wrB (wrB (wr s Obj.QP_STATE q 2) Obj.FUNC_PRESENT (qpFn s q) true) Obj.FUNC_BUS_MASTER (qpFn s q) true) (qpFn s q) (fun x => { x with mse := true })
def flitOf (seq index count : Nat) : Bytes :=
  let b := leBytes 8 (seq * 2 ^ 52 + 1 * 2 ^ 32) ++ leBytes 8 (1 * 2 ^ 56 + index * 2 ^ 48 + count * 2 ^ 40) ++ zeros 232
  b ++ leBytes 8 (crc64 b)
def nopReq (seq : Nat) : Bytes := leBytes 1 1 ++ leBytes 1 3 ++ leBytes 2 seq ++ zeros 12
def fw0 : FwImage := { keyHash := signingHash, signed := true, digest := true, formed := true, version := [], compat := 0, svn := 0 }
def keys0 (pf : Nat) (s : State) : State := { s with key := { s.key with staging := (List.range 96).map (fun i => (128 * pf + i, BitVec.ofNat 8 (i + 1))) } }
def key96 : Bytes := (List.range 96).map (fun i => BitVec.ofNat 8 (i + 1))
def req0 : ReqEntry := { index := 0, inst := 0, sub := 0, part := 0, staged := false, off := 0, len := 0, resvZero := true, data := [] }
def entryOf (index sub len : Nat) : Bytes := leBytes 2 index ++ leBytes 2 0 ++ leBytes 1 sub ++ zeros 3 ++ leBytes 4 0 ++ leBytes 4 len
def writeReq (index sub : Nat) (d : Bytes) : Bytes := leBytes 1 1 ++ leBytes 1 2 ++ leBytes 2 0 ++ leBytes 1 1 ++ zeros 3 ++ leBytes 4 d.length ++ zeros 4 ++ entryOf index sub d.length ++ d
def readReq (index sub len : Nat) : Bytes := leBytes 1 1 ++ leBytes 1 1 ++ leBytes 2 0 ++ leBytes 1 1 ++ zeros 3 ++ leBytes 4 0 ++ zeros 4 ++ entryOf index sub len
def headQ (c : Cmd) (q : Nat) : State := modQp (modPower State.reset (fun x => { x with mode := .running })) q (fun x => { x with queue := [c] })
theorem headQ_other (c : Cmd) (q : Nat) : ∀ p, p ≠ q → headOf (headQ c q) p = none := by
  intro p hp
  have h : qpOf (headQ c q) p = Qp.empty := qpOf_modQp_other _ _ _ _ hp
  simp [headOf, h, Qp.empty]
def setRegs (s : State) (l : List (Nat × Int)) : State := { s with dict := { s.dict with regs := l } }
theorem crc64_zeros (n : Nat) : crc64 (zeros n) = 0 := by
  have h : ∀ m, (zeros m).foldl (fun (c : BitVec 64) (x : Byte) => crcBits (c ^^^ ((x.setWidth 64 : BitVec 64) <<< (56 : Nat))) 8) 0#64 = 0#64 := by
    intro m
    induction m with
    | zero => rfl
    | succ m ih =>
      have e : zeros (m + 1) = 0 :: zeros m := by simp [zeros, List.replicate_succ]
      rw [e, List.foldl_cons]
      exact ih
  simp [crc64, h]
def fwSlot1 : State := wr State.reset Obj.FW_UPDATE_SLOT 0 1
theorem fwChunk_writable (b : Bytes) (h : b.length = 65536) : checkWrite fwSlot1 Obj.FW_SLOT_DATA 0 (.bytes b) = Rs.ok := by
  have h1 : accessRefuses fwSlot1 Obj.FW_SLOT_DATA 0 (.bytes b) = false := by
    show stateRefuses fwSlot1 Obj.FW_SLOT_DATA 0 (.bytes b) = false
    unfold stateRefuses
    dsimp only [Val.number]
    repeat rw [if_neg (by decide)]
    unfold fwRefused
    repeat rw [if_neg (by decide)]
    rw [if_pos (by decide)]
    decide +kernel
  have h2 : valueInRange fwSlot1 Obj.FW_SLOT_DATA 0 (.bytes b) = true := by
    have e : (Obj.FW_SLOT_DATA.rng.holdsBytes b) = true := by simp [Obj.FW_SLOT_DATA, Rng.holdsBytes, h]
    have f : stateRange fwSlot1 Obj.FW_SLOT_DATA 0 (.bytes b) = true := by
      unfold stateRange
      dsimp only [Val.number]
      repeat rw [if_neg (by decide)]
    simp [valueInRange, e, f]
  have h3 : busyCode fwSlot1 Obj.FW_SLOT_DATA 0 (.bytes b) = Rs.ok := by
    unfold busyCode
    dsimp only [Val.number]
    repeat rw [if_neg (by decide)]
  unfold checkWrite
  rw [h1, h2, h3]
  rfl
theorem zeros_length (n : Nat) : (zeros n).length = n := List.length_replicate
theorem some_getD {α : Type} {o : Option α} {d : α} (h : o.isSome = true) : o = some (o.getD d) := by
  cases o <;> simp_all
def leafMd : Bytes := zeros 24 ++ leBytes 8 (leafAddr 0) ++ zeros 15 ++ leBytes 1 Kind.mapPage ++ zeros 16
def leaf0 : Bytes := zeros 4096 ++ leafMd
theorem fieldAt_zeros (n o k : Nat) : fieldAt (zeros n) o k = 0 := by
  have h : ∀ m, leNat (zeros m) = 0 := by
    intro m
    induction m with
    | zero => rfl
    | succ m ih => simpa [zeros, List.replicate_succ, leNat] using ih
  have e : slice (zeros n) o k = zeros (min k (n - o)) := by simp [slice, zeros]
  rw [fieldAt, e, h]
theorem leaf0_payload : payloadOf leaf0 = zeros 4096 := List.take_left' (zeros_length 4096)
theorem leaf0_meta : slice leaf0 4096 64 = leafMd := by
    have e : leaf0.drop 4096 = leafMd := List.drop_left' (zeros_length 4096)
    unfold slice
    rw [e]
    decide +kernel
theorem leaf0_unmapped : ∀ f : Entry → Bool, f .unmapped = true → (parseLeaf (zeros 4096)).all f = true := by
  have hl : ∀ x ∈ parseLeaf (zeros 4096), x = .unmapped := by
    intro x hx
    simp only [parseLeaf, List.mem_map, fieldAt_zeros] at hx
    obtain ⟨_, _, rfl⟩ := hx
    rfl
  exact 
    fun f hf => List.all_eq_true.mpr (fun x hx => by rw [hl x hx, hf])
theorem leaf0_page : pageCheck (leafAddr 0) leaf0 = .pass := by
    unfold pageCheck metaOf
    rw [leaf0_payload, leaf0_meta, crc64_zeros]
    decide +kernel
theorem leafOk_of {key : Nat} {b p : Bytes} (hc : pageCheck (leafAddr key) b = .pass) (hp : payloadOf b = p)
    (h : ∀ f : Entry → Bool, f .unmapped = true → (parseLeaf p).all f = true) : leafOk key b = true := by
  subst hp
  unfold leafOk leafCheck
  rw [hc]
  dsimp only
  rw [if_pos (h _ rfl)]
  rfl
theorem leaf0_ok : leafOk 0 leaf0 = true := leafOk_of leaf0_page leaf0_payload leaf0_unmapped
theorem full_area (x : RecItem) : recordRoom State.reset (List.replicate 2097153 x).length = false := by
  rw [List.length_replicate]
  decide +kernel
def boot5 : State := wr (modPower (setRegs State.reset [(Obj.FW_SVN_FLOOR.key 0, 0)]) (fun x => { x with mode := .running })) Obj.STARTUP_STEP 0 5
theorem boot5_choice : bootChoice (noteTime boot5 5) [{ fw0 with formed := false }, fw0] = some (1, fw0) := by
  have h1 : firstSlot (noteTime boot5 5) = 0 := by decide +kernel
  have h2 : rdN (noteTime boot5 5) Obj.FW_SVN_FLOOR 0 = 0 := by decide +kernel
  simp [bootChoice, h1, verifyResult, fw0, h2]

/-! ## The hypotheses of the statements can be met -/

theorem test_hypotheses_EmptyQueueIdles :
    ∃ (s : State), s.pending = [] := by
  exact ⟨State.reset, by decide +kernel⟩

theorem test_hypotheses_EveryStepKeepsTables :
    ∃ (s : State) (t : State), Canon s ∧ step s = .next t := by
  exact ⟨State.reset, idle State.reset, ⟨rfl, rfl⟩, rfl⟩

theorem test_hypotheses_CommandFrames :
    ∃ (c : Instr) (s : State) (t : State), exec c s = .next t := by
  exact ⟨.pairTakeover, State.reset, State.reset, rfl⟩

theorem test_hypotheses_PackFaults :
    (∃ (s : State), packLive s = true ∧ Tbl.getD s.pins Pin.packCharge.num 0 = b2n (rdB s Obj.PACK_CHARGING 0)) ∧
    (∃ (s : State), packLive s = true ∧ rdB s Obj.PACK_CHARGING 0 = true) := by
  refine ⟨?_, ?_⟩
  · exact ⟨wr (State.reset) Obj.PACK_STATE 0 2, by decide +kernel⟩
  · exact ⟨wrB (wr (State.reset) Obj.PACK_STATE 0 2) Obj.PACK_CHARGING 0 true, by decide +kernel⟩

theorem test_hypotheses_DictionaryCompletions :
    ∃ (s : State) (q : Nat) (tag : Nat) (c : Cmd), findCmd s q tag = some c := by
  exact ⟨modQp (State.reset) 0 (fun x => { x with cmds := [cmd0] }), 0, 0, cmd0, by decide +kernel⟩

theorem test_hypotheses_StagedSetIsLost :
    (∃ (s : State), epochState s = Es.idle) ∧
    (∃ (s : State), epochState s ≠ Es.idle) := by
  refine ⟨?_, ?_⟩
  · exact ⟨wr (State.reset) Obj.EPOCH_STATE 0 ((Es.idle : Nat) : Int), by decide +kernel⟩
  · exact ⟨wr (State.reset) Obj.EPOCH_STATE 0 1, by decide +kernel⟩

theorem test_hypotheses_WeirComputation :
    ∃ (r : State) (s : State), noteCistern r = s := by
  exact ⟨State.reset, State.reset, by decide +kernel⟩

theorem test_hypotheses_CompletionHistograms :
    ∃ (s : State) (q : Nat) (b : Nat) (c : Cpl) (rest : List Cpl), (qpOf s q).cpl = c :: rest ∧ crUsable s q = true ∧ canMaster s (qpFn s q) = true ∧ crFree (qpOf s q) (rdN s Obj.CR_SIZE q) (seqNext (rdN s Obj.LAST_CR_SEQ q)) = true ∧ ((b = 0 ∧ min 0xFFFFFFFF c.time < 2) ∨ (1 ≤ b ∧ b ≤ 30 ∧ 2 ^ b ≤ min 0xFFFFFFFF c.time ∧ min 0xFFFFFFFF c.time < 2 ^ (b + 1)) ∨ (b = 31 ∧ 2 ^ 31 ≤ min 0xFFFFFFFF c.time)) := by
  exact ⟨modQp (push0 State.reset 1) 1 (fun x => { x with cpl := [{ cpl0 with time := 2 ^ 31 }] }), 1, 31, { cpl0 with time := 2 ^ 31 }, [], by decide +kernel⟩

theorem test_hypotheses_PushWindowWrites :
    (∃ (s : State) (q : Nat) (off : Nat) (data : Bytes), memOpen s (qpFn s q) = true ∧ data ≠ [] ∧ off + data.length ≤ 256 ∧ qpState s q = Qs.push ∧ canMaster s (qpFn s q) = true ∧ ((∀ j < 4, slotFull { qpOf s q with push := layPush (qpOf s q).push off data } j = false))) ∧
    (∃ (s : State) (q : Nat) (j : Nat), (qpOf s q).push.any (fun p => p.1 / 64 == j) = true) ∧
    (∃ (s : State) (q : Nat) (v : BitVec 32), memOpen s (qpFn s q) = true ∧ v.toNat < 65536 ∧ qpServing s q = true ∧ canMaster s (qpFn s q) = true ∧ behind v.toNat (rdN s Obj.NEXT_SR_SEQ q) = false) ∧
    (∃ (s : State) (q : Nat) (v : BitVec 32), memOpen s (qpFn s q) = true ∧ v.toNat < 65536 ∧ ahead v.toNat (rdN s Obj.LAST_CR_SEQ q) = false ∧ behind v.toNat (rdN s Obj.CR_RELEASED_SEQ q) = false) := by
  refine ⟨?_, ?_, ?_, ?_⟩
  · exact ⟨push0 State.reset 1, 1, 255, [7], by decide +kernel⟩
  · exact ⟨modQp State.reset 1 (fun x => { x with push := [(192, 7)] }), 1, 3, by decide +kernel⟩
  · exact ⟨wrB (wr (modFn (wrB (State.reset) Obj.FUNC_PRESENT (qpFn State.reset 0) true) (qpFn State.reset 0) (fun x => { x with mse := true })) Obj.QP_STATE 0 ((Qs.poll : Nat) : Int)) Obj.FUNC_BUS_MASTER (qpFn State.reset 0) true, 0, 0, by decide +kernel⟩
  · exact ⟨modFn (wrB (State.reset) Obj.FUNC_PRESENT (qpFn State.reset 0) true) (qpFn State.reset 0) (fun x => { x with mse := true }), 0, 0, by decide +kernel⟩

theorem test_hypotheses_RingReads :
    (∃ (s : State) (q : Nat) (e : SqEntry), (qpOf s q).fetch.isSome = true ∧ intakeOpen s q = true ∧ e.own = true ∧ e.srSeq = rdN s Obj.NEXT_SR_SEQ q ∧ behind e.srSeq e.srSeq = false ∧ (qpOf s q).chain = [] ∧ startsChain e = true ∧ e.last = false) ∧
    (∃ (s : State) (q : Nat), q < 65536 ∧ (qpOf s q).fetch.isSome = true ∧ intakeOpen s q = true) ∧
    (∃ (s : State) (q : Nat) (es : List SqEntry), q < 65536 ∧ qpState s q = Qs.poll ∧ canMaster s (qpFn s q) = true ∧ rdN s Obj.QP_POLL_BATCH q = es.length ∧ ((∀ e ∈ es, e.own = false))) ∧
    (∃ (s : State) (q : Nat), crUsable s q = true ∧ canMaster s (qpFn s q) = true ∧ crFull s q = true) ∧
    (∃ (s : State) (q : Nat), rdB s Obj.CR_INT_ENABLE q = true ∧ rdN s Obj.CR_COALESCE_TIME q ≠ 0 ∧ (qpOf s q).coal ≠ 0) := by
  refine ⟨?_, ?_, ?_, ?_, ?_⟩
  · exact ⟨modQp (push0 State.reset 1) 1 (fun x => { x with fetch := some 8 }), 1, { sq0 with w0 := BitVec.ofNat 64 (2 ^ 63 + 2 ^ 62 + 2 ^ 28) }, by decide +kernel⟩
  · exact ⟨modQp (push0 State.reset 1) 1 (fun x => { x with fetch := some 8 }), 1, by decide +kernel⟩
  · exact ⟨wr (wr (push0 State.reset 1) Obj.QP_STATE 1 1) Obj.QP_POLL_BATCH 1 1, 1, [sq0], by decide +kernel⟩
  · exact ⟨modQp (push0 State.reset 1) 1 (fun x => { x with crBusy := List.range 256 }), 1, by decide +kernel⟩
  · exact ⟨modQp (wr (wrB State.reset Obj.CR_INT_ENABLE 8191 true) Obj.CR_COALESCE_TIME 8191 1) 8191 (fun x => { x with coal := 1 }), 8191, by decide +kernel⟩

theorem test_hypotheses_QueuePairStates :
    (∃ (s : State) (pf : Nat) (push : Bool), pf < 2 ∧ memOpen s pf = true ∧ qpState s pf = Qs.disabled ∧ createResult (wr s Obj.QP_MODE pf (if push then 2 else 1)) pf = 1) ∧
    (∃ (s : State) (pf : Nat), pf < 2 ∧ qpServing s pf = true) ∧
    (∃ (s : State) (q : Nat) (mode : Nat), (mode = 1 ∨ mode = 2) ∧ qpServing s q = true) ∧
    (∃ (s : State) (q : Nat) (mode : Nat), (mode = 1 ∨ mode = 2) ∧ qpState s q = Qs.disabled) ∧
    (∃ (s : State) (pf : Nat), pf < 2 ∧ memOpen s pf = true ∧ (qpServing s pf = true ∨ qpState s pf = Qs.halted) ∧ (qpOf s pf).queue = [] ∧ (qpOf s pf).cmds = [] ∧ (qpOf s pf).cpl = []) ∧
    (∃ (s : State) (q : Nat), qpServing s q = true) := by
  refine ⟨?_, ?_, ?_, ?_, ?_, ?_⟩
  · exact ⟨wr (wr (wr (push0 State.reset 1) Obj.QP_STATE 1 0) Obj.SR_BASE 1 4096) Obj.CR_BASE 1 8192, 1, true, by decide +kernel⟩
  · exact ⟨wr (State.reset) Obj.QP_STATE 1 ((Qs.poll : Nat) : Int), 1, by decide +kernel⟩
  · exact ⟨wr (State.reset) Obj.QP_STATE 0 ((Qs.poll : Nat) : Int), 0, 1, by decide +kernel⟩
  · exact ⟨wr (State.reset) Obj.QP_STATE 0 ((Qs.disabled : Nat) : Int), 0, 1, by decide +kernel⟩
  · exact ⟨modQp (modQp (modQp (wr (modFn (wrB (State.reset) Obj.FUNC_PRESENT 1 true) 1 (fun x => { x with mse := true })) Obj.QP_STATE 1 ((Qs.poll : Nat) : Int)) 1 (fun x => { x with queue := [] })) 1 (fun x => { x with cmds := [] })) 1 (fun x => { x with cpl := [] }), 1, by decide +kernel⟩
  · exact ⟨wr (State.reset) Obj.QP_STATE 0 ((Qs.poll : Nat) : Int), 0, by decide +kernel⟩

theorem test_hypotheses_CompletionEntries :
    (∃ (s : State) (q : Nat) (c : Cpl) (rest : List Cpl), (qpOf s q).cpl = c :: rest ∧ crUsable s q = true ∧ canMaster s (qpFn s q) = true ∧ crFree (qpOf s q) (rdN s Obj.CR_SIZE q) (seqNext (rdN s Obj.LAST_CR_SEQ q)) = true ∧ qpState s q ≠ Qs.resetting ∧ q < 65536 ∧ qpFn s q < 65536 ∧ c.volume < 65536) ∧
    (∃ (s : State) (q : Nat) (c : Cpl), (qpOf s q).byFlr = false ∧ qpState s q = Qs.resetting ∧ (qpOf s q).queue = [] ∧ (qpOf s q).cmds = [] ∧ (qpOf s q).cpl = [c] ∧ (qpOf s q).resetBy = none ∧ crUsable s q = true ∧ canMaster s (qpFn s q) = false ∧ q < 65536) := by
  refine ⟨?_, ?_⟩
  · exact ⟨modQp (push0 State.reset 1) 1 (fun x => { x with cpl := [{ cpl0 with volume := 65535 }] }), 1, { cpl0 with volume := 65535 }, [], by decide +kernel⟩
  · exact ⟨modQp (modQp (modQp (modQp (wr (modQp (State.reset) 65535 (fun x => { x with byFlr := false })) Obj.QP_STATE 65535 ((Qs.resetting : Nat) : Int)) 65535 (fun x => { x with queue := [] })) 65535 (fun x => { x with cmds := [] })) 65535 (fun x => { x with cpl := [cpl0] })) 65535 (fun x => { x with resetBy := none }), 65535, cpl0, by decide +kernel⟩

theorem test_hypotheses_CommandAdmission :
    (∃ (s : State) (q : Nat) (c : Cmd), q < 2 ∧ running s = true ∧ q ∈ s.qps.map Prod.fst ∧ headOf s q = some c ∧ ((∀ p, p ≠ q → headOf s p = none)) ∧ lateCheck s c = none ∧ waitCause s q c = none) ∧
    (∃ (s : State) (q : Nat) (c : Cmd) (st : Nat), q < 2 ∧ running s = true ∧ q ∈ s.qps.map Prod.fst ∧ headOf s q = some c ∧ ((∀ p, p ≠ q → headOf s p = none)) ∧ lateCheck s c = some st) ∧
    (∃ (s : State) (q : Nat) (tag : Nat) (page : Bytes) (c : Cmd) (p : Desc) (l : List Desc), decoding s q tag = some c ∧ c.page = some p ∧ canMaster s (qpFn s q) = true ∧ walkEnd s q (c.nlb * 4096) (walk s q (pageDescs p.len page) { data := c.descs, broken := false, outside := c.descs.any (fun d => !inWindows s q d.addr d.len), page := none }) = .done l) ∧
    (∃ (s : State) (q : Nat) (tag : Nat) (c : Cmd) (p : Desc), decoding s q tag = some c ∧ c.page = some p ∧ canMaster s (qpFn s q) = true) ∧
    (∃ (s : State) (q : Nat) (tag : Nat) (c : Cmd), startable s q tag 0x80 = some c ∧ qpState s c.target = Qs.disabled ∧ createResult s c.target = 1 ∧ 2 ≤ c.target ∧ c.target < 65536 ∧ qpFn s c.target < 1026) ∧
    (∃ (s : State) (q : Nat) (tag : Nat) (c : Cmd), startable s q tag 0x80 = some c ∧ qpState s c.target = Qs.disabled ∧ createResult s c.target ≠ 1) ∧
    (∃ (s : State) (q : Nat) (tag : Nat) (c : Cmd), startable s q tag 0x81 = some c ∧ c.target ≠ q ∧ (qpServing s c.target = true ∨ qpState s c.target = Qs.halted) ∧ (qpOf s c.target).queue = [] ∧ (qpOf s c.target).cmds = [] ∧ (qpOf s c.target).cpl = []) := by
  refine ⟨?_, ?_, ?_, ?_, ?_, ?_, ?_⟩
  · exact ⟨headQ { cmd0 with opcode := 0x80, phase := .waiting } 1, 1, { cmd0 with opcode := 0x80, phase := .waiting }, by decide +kernel, by decide +kernel, by decide +kernel, by decide +kernel, headQ_other _ 1, by decide +kernel, by decide +kernel⟩
  · exact ⟨headQ { cmd0 with opcode := 1, phase := .waiting } 1, 1, { cmd0 with opcode := 1, phase := .waiting }, St.poolOffline, by decide +kernel, by decide +kernel, by decide +kernel, by decide +kernel, headQ_other _ 1, by decide +kernel⟩
  · exact ⟨wrB (modQp State.reset 0 (fun x => { x with queue := [{ cmd0 with phase := .decode, descs := [desc0], page := some { desc0 with len := 1 } }] })) Obj.FUNC_BUS_MASTER 0 true, 0, 0, zeros 16, { cmd0 with phase := .decode, descs := [desc0], page := some { desc0 with len := 1 } }, { desc0 with len := 1 }, [desc0], by decide +kernel⟩
  · exact ⟨wrB (modQp State.reset 0 (fun x => { x with queue := [{ cmd0 with phase := .decode, descs := [desc0], page := some { desc0 with len := 1 } }] })) Obj.FUNC_BUS_MASTER 0 true, 0, 0, { cmd0 with phase := .decode, descs := [desc0], page := some { desc0 with len := 1 } }, { desc0 with len := 1 }, by decide +kernel⟩
  · exact ⟨withCmd (wr (wr (wr (wr (wrB State.reset Obj.FUNC_PRESENT 0 true) Obj.QP_FUNCTION 8191 0) Obj.SR_BASE 8191 4096) Obj.CR_BASE 8191 8192) Obj.QP_LOCAL_INDEX 8191 1) 0 { cmd0 with opcode := 0x80, target := 8191 }, 0, 0, { cmd0 with opcode := 0x80, target := 8191 }, by decide +kernel⟩
  · exact ⟨wr (modQp (State.reset) 0 (fun x => { x with cmds := [{ cmd0 with opcode := 0x80 }] })) Obj.QP_STATE { cmd0 with opcode := 0x80 }.target ((Qs.disabled : Nat) : Int), 0, 0, { cmd0 with opcode := 0x80 }, by decide +kernel⟩
  · exact ⟨withCmd (wr State.reset Obj.QP_STATE 2 1) 0 { cmd0 with opcode := 0x81, target := 2 }, 0, 0, { cmd0 with opcode := 0x81, target := 2 }, by decide +kernel⟩

theorem test_hypotheses_WriteCommands :
    (∃ (s : State) (u : State) (q : Nat) (tag : Nat) (lane : Nat) (c : Cmd) (d : Cmd) (e : Cmd), startable s q tag 2 = some c ∧ canMaster s (qpFn s q) = true ∧ rdN s Obj.EPOCH_STATE 0 = 0 ∧ hostLane s (cmdPool s c) = some lane ∧ findCmd (modCmd s q tag (fun x => { x with phase := .running, wr := [], wFirst := (placedRange s c.volume c.slba c.nlb).1, wTotal := (placedRange s c.volume c.slba c.nlb).2, lane := lane })) q tag = some d ∧ placeRest (modCmd s q tag (fun x => { x with phase := .running, wr := [], wFirst := (placedRange s c.volume c.slba c.nlb).1, wTotal := (placedRange s c.volume c.slba c.nlb).2, lane := lane })) (cmdPool s d) q d = u ∧ findCmd u q tag = some e ∧ placedWhole e = true ∧ e.wr ≠ []) ∧
    (∃ (s : State) (r : State) (q : Nat) (tag : Nat) (i : Nat) (n : Nat) (c : Cmd) (data : Bytes) (parts : List PartWrite) (mems : List Poison), forEach mems meetPoison (forEach parts (fun x t => countPart t x) r) = s ∧ findCmd s q tag = some c ∧ c.opcode = 2 ∧ c.wr[i]? = some (.filling n) ∧ inRange c (c.wFirst + i) = true ∧ data.length = 4096 ∧ poisonedWords parts = []) ∧
    (∃ (s : State) (r : State) (q : Nat) (tag : Nat) (i : Nat) (n : Nat) (c : Cmd) (data : Bytes) (parts : List PartWrite) (mems : List Poison), forEach mems meetPoison (forEach parts (fun x t => countPart t x) r) = s ∧ findCmd s q tag = some c ∧ c.opcode = 2 ∧ c.wr[i]? = some (.filling n) ∧ inRange c (c.wFirst + i) = true ∧ data.length = 4096 ∧ poisonedWords parts ≠ []) ∧
    (∃ (s : State) (r : State) (q : Nat) (tag : Nat) (i : Nat) (n : Nat) (c : Cmd) (data : Bytes) (parts : List PartWrite) (mems : List Poison), forEach mems meetPoison (forEach parts (fun x t => countPart t x) r) = s ∧ findCmd s q tag = some c ∧ c.opcode = 2 ∧ c.wr[i]? = some (.filling n) ∧ inRange c (c.wFirst + i) = true ∧ data.length = 4096 ∧ encrypted s c.volume = true) ∧
    (∃ (s : State) (q : Nat) (tag : Nat) (c : Cmd), findCmd s q tag = some c ∧ c.opcode = 2 ∧ c.phase = .running ∧ needsCommit s c = false ∧ allMapped c = true ∧ mirrorMet s c = true) ∧
    (∃ (s : State) (q : Nat) (tag : Nat) (c : Cmd), findCmd s q tag = some c ∧ c.opcode = 2) := by
  refine ⟨?_, ?_, ?_, ?_, ?_, ?_⟩
  · exact ⟨floors0 (withCmd (wrB (wr (modPool (pool7 2) 7 (fun x => { x with lanes := [{ cls := 0, idx := 0, seg := some 0, stripe := some 0, waiting := false, freedAt := 0 }], segs := [(0, { seg0 with st := 1, cols := [(0, 0), (1, 0)], sectors := 65536 })], stripes := [(0, { stripe0 with cap := 4, pos := [] })] })) Obj.VOLUME_POOL 0 7) Obj.FUNC_BUS_MASTER 0 true) 0 { cmd0 with opcode := 2 }), placeRest (modCmd (floors0 (withCmd (wrB (wr (modPool (pool7 2) 7 (fun x => { x with lanes := [{ cls := 0, idx := 0, seg := some 0, stripe := some 0, waiting := false, freedAt := 0 }], segs := [(0, { seg0 with st := 1, cols := [(0, 0), (1, 0)], sectors := 65536 })], stripes := [(0, { stripe0 with cap := 4, pos := [] })] })) Obj.VOLUME_POOL 0 7) Obj.FUNC_BUS_MASTER 0 true) 0 { cmd0 with opcode := 2 })) 0 0 (fun x => { x with phase := .running, wr := [], wFirst := (placedRange (floors0 (withCmd (wrB (wr (modPool (pool7 2) 7 (fun x => { x with lanes := [{ cls := 0, idx := 0, seg := some 0, stripe := some 0, waiting := false, freedAt := 0 }], segs := [(0, { seg0 with st := 1, cols := [(0, 0), (1, 0)], sectors := 65536 })], stripes := [(0, { stripe0 with cap := 4, pos := [] })] })) Obj.VOLUME_POOL 0 7) Obj.FUNC_BUS_MASTER 0 true) 0 { cmd0 with opcode := 2 })) 0 0 1).1, wTotal := (placedRange (floors0 (withCmd (wrB (wr (modPool (pool7 2) 7 (fun x => { x with lanes := [{ cls := 0, idx := 0, seg := some 0, stripe := some 0, waiting := false, freedAt := 0 }], segs := [(0, { seg0 with st := 1, cols := [(0, 0), (1, 0)], sectors := 65536 })], stripes := [(0, { stripe0 with cap := 4, pos := [] })] })) Obj.VOLUME_POOL 0 7) Obj.FUNC_BUS_MASTER 0 true) 0 { cmd0 with opcode := 2 })) 0 0 1).2, lane := 0 })) 7 0 { cmd0 with opcode := 2, phase := .running, wTotal := 1 }, 0, 0, 0, { cmd0 with opcode := 2 }, { cmd0 with opcode := 2, phase := .running, wTotal := 1 }, (findCmd (placeRest (modCmd (floors0 (withCmd (wrB (wr (modPool (pool7 2) 7 (fun x => { x with lanes := [{ cls := 0, idx := 0, seg := some 0, stripe := some 0, waiting := false, freedAt := 0 }], segs := [(0, { seg0 with st := 1, cols := [(0, 0), (1, 0)], sectors := 65536 })], stripes := [(0, { stripe0 with cap := 4, pos := [] })] })) Obj.VOLUME_POOL 0 7) Obj.FUNC_BUS_MASTER 0 true) 0 { cmd0 with opcode := 2 })) 0 0 (fun x => { x with phase := .running, wr := [], wFirst := (placedRange (floors0 (withCmd (wrB (wr (modPool (pool7 2) 7 (fun x => { x with lanes := [{ cls := 0, idx := 0, seg := some 0, stripe := some 0, waiting := false, freedAt := 0 }], segs := [(0, { seg0 with st := 1, cols := [(0, 0), (1, 0)], sectors := 65536 })], stripes := [(0, { stripe0 with cap := 4, pos := [] })] })) Obj.VOLUME_POOL 0 7) Obj.FUNC_BUS_MASTER 0 true) 0 { cmd0 with opcode := 2 })) 0 0 1).1, wTotal := (placedRange (floors0 (withCmd (wrB (wr (modPool (pool7 2) 7 (fun x => { x with lanes := [{ cls := 0, idx := 0, seg := some 0, stripe := some 0, waiting := false, freedAt := 0 }], segs := [(0, { seg0 with st := 1, cols := [(0, 0), (1, 0)], sectors := 65536 })], stripes := [(0, { stripe0 with cap := 4, pos := [] })] })) Obj.VOLUME_POOL 0 7) Obj.FUNC_BUS_MASTER 0 true) 0 { cmd0 with opcode := 2 })) 0 0 1).2, lane := 0 })) 7 0 { cmd0 with opcode := 2, phase := .running, wTotal := 1 }) 0 0).getD cmd0, by decide +kernel, by decide +kernel, by decide +kernel, by decide +kernel, by decide +kernel, rfl, some_getD (by decide +kernel), by decide +kernel, by decide +kernel⟩
  · exact ⟨withCmd State.reset 0 { cmd0 with opcode := 2, wr := [.filling 5] }, withCmd State.reset 0 { cmd0 with opcode := 2, wr := [.filling 5] }, 0, 0, 0, 5, { cmd0 with opcode := 2, wr := [.filling 5] }, zeros 4096, [], [], by decide +kernel⟩
  · exact ⟨forEach [{ sram := false, unit := 0, word := 3, uncorrectable := true, rewritten := false }] (fun x t => countPart t x) (withCmd State.reset 0 { cmd0 with opcode := 2, wr := [.filling 5] }), withCmd State.reset 0 { cmd0 with opcode := 2, wr := [.filling 5] }, 0, 0, 0, 5, { cmd0 with opcode := 2, wr := [.filling 5] }, zeros 4096, [{ sram := false, unit := 0, word := 3, uncorrectable := true, rewritten := false }], [], by decide +kernel⟩
  · exact ⟨withCmd (wr State.reset Obj.VOLUME_KEY_SLOT 0 0) 0 { cmd0 with opcode := 2, wr := [.filling 5] }, withCmd (wr State.reset Obj.VOLUME_KEY_SLOT 0 0) 0 { cmd0 with opcode := 2, wr := [.filling 5] }, 0, 0, 0, 5, { cmd0 with opcode := 2, wr := [.filling 5] }, zeros 4096, [], [], by decide +kernel⟩
  · exact ⟨wr (withCmd State.reset 0 { cmd0 with opcode := 2, phase := .running, wr := [.mapped 5] }) Obj.WEIR_CURRENT 0 4096, 0, 0, { cmd0 with opcode := 2, phase := .running, wr := [.mapped 5] }, by decide +kernel⟩
  · exact ⟨modQp (State.reset) 0 (fun x => { x with cmds := [{ cmd0 with opcode := 2 }] }), 0, 0, { cmd0 with opcode := 2 }, by decide +kernel⟩

theorem test_hypotheses_FlushAndDeallocate :
    (∃ (s : State) (q : Nat) (tag : Nat) (c : Cmd), startable s q tag 3 = some c ∧ ((∀ p < 8, (poolOf s p).stripes = []))) ∧
    (∃ (s : State) (q : Nat) (tag : Nat) (c : Cmd), findCmd s q tag = some c ∧ c.opcode = 3 ∧ c.phase = .running ∧ (flushVolumes s q c).any (fun v => poolState s (rdN s Obj.VOLUME_POOL v) == Ps.failed) = false ∧ flushWaits s (flushVolumes s q c) c = false) ∧
    (∃ (s : State) (q : Nat) (tag : Nat) (c : Cmd), findCmd s q tag = some c ∧ c.opcode = 3 ∧ c.phase = .running ∧ (flushVolumes s q c).any (fun v => poolState s (rdN s Obj.VOLUME_POOL v) == Ps.failed) = true) ∧
    (∃ (s : State) (q : Nat) (tag : Nat) (c : Cmd) (d : Cmd), startable s q tag 4 = some c ∧ findCmd (modCmd s q tag (fun x => { x with phase := .running })) q tag = some d ∧ d.opcode = 4 ∧ d.phase = .running ∧ deallocRec s q tag = none ∧ deallocWaits (modCmd s q tag (fun x => { x with phase := .running })) d = false) ∧
    (∃ (s : State) (q : Nat) (tag : Nat) (c : Cmd) (r : LogRec), findCmd s q tag = some c ∧ c.opcode = 4 ∧ c.phase = .running ∧ deallocRec s q tag = some r ∧ r.durable = true) := by
  refine ⟨?_, ?_, ?_, ?_, ?_⟩
  · exact ⟨modQp (State.reset) 0 (fun x => { x with cmds := [{ cmd0 with opcode := 3 }] }), 0, 0, { cmd0 with opcode := 3 }, by decide +kernel⟩
  · exact ⟨modQp (State.reset) 0 (fun x => { x with cmds := [{ cmd0 with opcode := 3, phase := .running }] }), 0, 0, { cmd0 with opcode := 3, phase := .running }, by decide +kernel⟩
  · exact ⟨wr (wr (modQp (State.reset) 0 (fun x => { x with cmds := [{ cmd0 with opcode := 3, phase := .running }] })) Obj.VOLUME_POOL 0 7) Obj.POOL_STATE 7 6, 0, 0, { cmd0 with opcode := 3, phase := .running }, by decide +kernel⟩
  · exact ⟨modQp (State.reset) 0 (fun x => { x with cmds := [{ cmd0 with opcode := 4 }] }), 0, 0, { cmd0 with opcode := 4 }, { cmd0 with opcode := 4, phase := .running }, by decide +kernel⟩
  · exact ⟨(fun s : State => { s with ilog := { s.ilog with recs := [{ rec0 with body := .dealloc 0 0 1 0 1 0, durable := true }] } }) (withCmd State.reset 0 { cmd0 with opcode := 4, phase := .running }), 0, 0, { cmd0 with opcode := 4, phase := .running }, { rec0 with body := .dealloc 0 0 1 0 1 0, durable := true }, by decide +kernel⟩

theorem test_hypotheses_ReadOfOneSector :
    (∃ (s : State) (r : State) (mems : List Poison) (q : Nat) (tag : Nat) (c : Cmd), forEach mems meetPoison r = s ∧ rdN s Obj.EPOCH_STATE 0 = 0 ∧ startable s q tag 1 = some c ∧ (qpOf s q).cmds = [c] ∧ c.nlb = 1 ∧ c.volume < 65536 ∧ rdN s Obj.CACHE_PREFETCH 0 = 0 ∧ flumeLookup s c.volume c.slba = none ∧ leafResident s (grainKey s c.volume c.slba) = true ∧ entryOfGrain s (grainKey s c.volume c.slba) = .lost) ∧
    (∃ (s : State) (r : State) (mems : List Poison) (q : Nat) (tag : Nat) (c : Cmd), forEach mems meetPoison r = s ∧ rdN s Obj.EPOCH_STATE 0 = 0 ∧ startable s q tag 1 = some c ∧ (qpOf s q).cmds = [c] ∧ c.nlb = 1 ∧ c.volume < 65536 ∧ rdN s Obj.CACHE_PREFETCH 0 = 0 ∧ flumeLookup s c.volume c.slba = none ∧ leafResident s (grainKey s c.volume c.slba) = true ∧ entryOfGrain s (grainKey s c.volume c.slba) = .unmapped ∧ canMaster s (qpFn s q) = true ∧ qpFn s q < 65536) ∧
    (∃ (s : State) (q : Nat) (tag : Nat) (c : Cmd), rdN s Obj.EPOCH_STATE 0 = 0 ∧ startable s q tag 5 = some c ∧ (qpOf s q).cmds = [c] ∧ c.nlb = 1 ∧ c.lost = 0 ∧ c.repaired = 0 ∧ entryOfGrain s (grainKey s c.volume c.slba) = .unmapped) := by
  refine ⟨?_, ?_, ?_⟩
  · exact ⟨(fun s : State => { s with map := { s.map with entries := [(0, .lost)] } }) (wr (withCmd State.reset 0 { cmd0 with opcode := 1 }) Obj.CACHE_PREFETCH 0 0), (fun s : State => { s with map := { s.map with entries := [(0, .lost)] } }) (wr (withCmd State.reset 0 { cmd0 with opcode := 1 }) Obj.CACHE_PREFETCH 0 0), [], 0, 0, { cmd0 with opcode := 1 }, by decide +kernel⟩
  · exact ⟨wrB (wr (modQp (modQp (wr (State.reset) Obj.EPOCH_STATE 0 ((0 : Nat) : Int)) 0 (fun x => { x with cmds := [{ cmd0 with opcode := 1, nlb := 1 }] })) 0 (fun x => { x with cmds := [{ cmd0 with opcode := 1, nlb := 1 }] })) Obj.CACHE_PREFETCH 0 ((0 : Nat) : Int)) Obj.FUNC_BUS_MASTER (qpFn State.reset 0) true, wrB (wr (modQp (modQp (wr (State.reset) Obj.EPOCH_STATE 0 ((0 : Nat) : Int)) 0 (fun x => { x with cmds := [{ cmd0 with opcode := 1, nlb := 1 }] })) 0 (fun x => { x with cmds := [{ cmd0 with opcode := 1, nlb := 1 }] })) Obj.CACHE_PREFETCH 0 ((0 : Nat) : Int)) Obj.FUNC_BUS_MASTER (qpFn State.reset 0) true, [], 0, 0, { cmd0 with opcode := 1, nlb := 1 }, by decide +kernel⟩
  · exact ⟨modQp (modQp (wr (State.reset) Obj.EPOCH_STATE 0 ((0 : Nat) : Int)) 0 (fun x => { x with cmds := [{ cmd0 with opcode := 5, nlb := 1, lost := 0, repaired := 0 }] })) 0 (fun x => { x with cmds := [{ cmd0 with opcode := 5, nlb := 1, lost := 0, repaired := 0 }] }), 0, 0, { cmd0 with opcode := 5, nlb := 1, lost := 0, repaired := 0 }, by decide +kernel⟩

theorem test_hypotheses_TransferErrorsAndMemberReads :
    (∃ (s : State) (q : Nat) (tag : Nat) (c : Cmd), findCmd s q tag = none ∧ decoding s q tag = some c) ∧
    (∃ (s : State) (q : Nat) (tag : Nat) (c : Cmd), findCmd s q tag = some c ∧ c.opcode = 2 ∧ c.phase = .running ∧ fetchingHost c = true) ∧
    (∃ (s : State) (id : Nat) (p : Nat) (v : Nat) (lba : Nat) (slot : Nat) (zs : Nat) (col : Nat) (m : MCmd) (w : Want), outstanding s id = some m ∧ m.purp = .sector w p v lba slot zs col) ∧
    (∃ (s : State) (id : Nat) (job : Nat) (col : Nat) (m : MCmd), outstanding s id = some m ∧ m.purp = .source job col) ∧
    (∃ (s : State) (job : Nat) (x : Job) (g : Seg) (d : Bytes) (m : Meta), Tbl.get s.drv.jobs job = some x ∧ x.sources.all (fun i => (Tbl.get x.got i).isSome) = true ∧ Tbl.get (poolOf s x.pool).segs x.slot = some g ∧ ((∀ a b, x.want ≠ .page a b)) ∧ decodeJob s x g = some (d, m) ∧ checkDecoded s x.vol x.lba x.zs g m = true) ∧
    (∃ (s : State) (id : Nat) (p : Nat) (key : Nat) (mc : Nat) (m : MCmd) (data : Bytes), outstanding s id = some m ∧ m.purp = .leaf p key mc ∧ leafOk key data = true) := by
  refine ⟨?_, ?_, ?_, ?_, ?_, ?_⟩
  · exact ⟨modQp State.reset 0 (fun x => { x with queue := [{ cmd0 with phase := .decode }] }), 0, 0, { cmd0 with phase := .decode }, by decide +kernel⟩
  · exact ⟨modQp (State.reset) 0 (fun x => { x with cmds := [{ cmd0 with opcode := 2, phase := .running, wr := [.filling 5] }] }), 0, 0, { cmd0 with opcode := 2, phase := .running, wr := [.filling 5] }, by decide +kernel⟩
  · exact ⟨setMCmd (State.reset) 0 { mcmd0 with purp := .sector .rebuild 0 0 0 0 0 0 }, 0, 0, 0, 0, 0, 0, 0, { mcmd0 with purp := .sector .rebuild 0 0 0 0 0 0 }, .rebuild, by decide +kernel⟩
  · exact ⟨setMCmd (State.reset) 0 { mcmd0 with purp := .source 0 0 }, 0, 0, 0, { mcmd0 with purp := .source 0 0 }, by decide +kernel⟩
  · exact ⟨(fun s : State => { s with drv := { s.drv with jobs := [(0, { job0 with sources := [0], got := [(0, [])] })] } }) (modPool State.reset 0 (fun x => { x with segs := [(0, seg0)] })), 0, { job0 with sources := [0], got := [(0, [])] }, seg0, [], ((decodeJob ((fun s : State => { s with drv := { s.drv with jobs := [(0, { job0 with sources := [0], got := [(0, [])] })] } }) (modPool State.reset 0 (fun x => { x with segs := [(0, seg0)] }))) ({ job0 with sources := [0], got := [(0, [])] }) seg0).getD ([], Meta.zero)).2, by decide +kernel, by decide +kernel, by decide +kernel, nofun, by decide +kernel, by decide +kernel⟩
  · exact ⟨setMCmd (State.reset) 0 { mcmd0 with purp := .leaf 0 0 0 }, 0, 0, 0, 0, { mcmd0 with purp := .leaf 0 0 0 }, leaf0, by decide +kernel, by decide +kernel, leaf0_ok⟩

theorem test_hypotheses_StripesAndIntentRecords :
    (∃ (s : State) (r : State) (p : Nat) (id : Nat) (x : Stripe) (mems : List Poison), forEach mems meetPoison r = s ∧ stripeOf s p id = some x ∧ x.pos.any (fun e => e.landed && !e.fill) = true) ∧
    (∃ (s : State) (p : Nat) (cls : Nat) (lane : Nat), (laneOf s p cls lane).waiting = true ∧ (laneOf s p cls lane).seg = none ∧ canOpenSeg s p (laneOf s p cls lane) = true ∧ rdN s Obj.EPOCH_STATE 0 = 0) ∧
    (∃ (s : State) (id : Nat) (p : Nat) (st : Nat) (j : Nat) (c : MCmd) (x : Stripe), outstanding s id = some c ∧ c.purp = .column p st j ∧ stripeOf (modStripe (endCmd s id) p st (fun y => { y with colsLeft := y.colsLeft.filter (fun i => i != j) })) p st = some x ∧ x.gone = false ∧ x.issued = true ∧ x.colsLeft = [] ∧ x.logged = false) ∧
    (∃ (s : State) (seq : Nat) (fails : Nat) (r : LogRec), s.ilog.recs.find? (fun x => x.seq == seq && !x.durable) = some r ∧ ((2 ≤ fails → sparesOut s = false))) ∧
    (∃ (s : State) (fails : Nat), 2 ≤ fails ∧ sparesOut s = true) ∧
    (∃ (s : State) (n : Nat) (x : Slot), slotOf s n = some x ∧ n < ownSlots ∧ x.st = .committed ∧ slotNamed s n x = false ∧ slotReaders s n = false ∧ x.recAcked = true ∧ digestSettled s x = true ∧ x.atomicRef = 0 ∧ mirrors s x.pool = false) ∧
    (∃ (s : State), 64 ≤ s.ilog.ahead) := by
  refine ⟨?_, ?_, ?_, ?_, ?_, ?_, ?_⟩
  · exact ⟨modPool State.reset 7 (fun x => { x with stripes := [(0, stripe0)] }), modPool State.reset 7 (fun x => { x with stripes := [(0, stripe0)] }), 7, 0, stripe0, [], by decide +kernel⟩
  · exact ⟨floors0 (modPool (pool7 2) 7 (fun x => { x with lanes := [{ cls := 0, idx := 0, seg := none, stripe := none, waiting := true, freedAt := 0 }] })), 7, 0, 0, by decide +kernel⟩
  · exact ⟨modPool (setMCmd State.reset 0 { mcmd0 with purp := .column 7 0 0 }) 7 (fun x => { x with stripes := [(0, { stripe0 with issued := true, colsLeft := [0] })] }), 0, 7, 0, 0, { mcmd0 with purp := .column 7 0 0 }, { stripe0 with issued := true }, by decide +kernel⟩
  · exact ⟨(fun s : State => { s with ilog := { s.ilog with recs := [rec0] } }) State.reset, 0, 1, rec0, by decide +kernel⟩
  · exact ⟨wr State.reset Obj.ILOG_RETIRED_WORDS 0 2048, 2, by decide +kernel⟩
  · exact ⟨(fun s : State => { s with prot := [(5, { slot0 with st := .committed })] }) State.reset, 5, { slot0 with st := .committed }, by decide +kernel⟩
  · exact ⟨(fun s : State => { s with ilog := { s.ilog with ahead := 64 } }) State.reset, by decide +kernel⟩

theorem test_hypotheses_CheckpointsAndSegments :
    (∃ (s : State) (p : Nat), p < 8 ∧ poolServes s p = true ∧ (poolOf s p).ckptAgain = true ∧ (poolOf s p).ckpt = none) ∧
    (∃ (s : State) (p : Nat) (k : Ckpt), (poolOf s p).ckpt = some k ∧ k.step ≠ 6 ∧ metaBusy s p = false ∧ wseqReady s (if k.step = 2 then min 524288 (stepPages s p) else 1) = true ∧ ¬(k.step = 2 ∧ k.leaves ≠ []) ∧ ¬(k.step = 4 ∧ k.roots ≠ [])) ∧
    (∃ (s : State) (p : Nat) (k : Ckpt), (poolOf s p).ckpt = some k ∧ k.step = 6 ∧ ((∃ r ∈ s.ilog.recs, r.pool = p ∧ r.durable = true ∧ ∃ g, r.body = .checkpoint k.number g)) ∧ ((∀ e ∈ s.pair.recWait, ckptRecord p k.number e.2 = false))) ∧
    (∃ (s : State) (p : Nat), p < 8 ∧ poolServes s p = true) ∧
    (∃ (s : State) (p : Nat), p < 8 ∧ poolServes s p = true ∧ rdB s Obj.MODULE_IDLE 0 = false ∧ rdN s Obj.EPOCH_STATE 0 = 0 ∧ (dredgeChoice s p).2 = none) ∧
    (∃ (s : State) (p : Nat) (slot : Nat), p < 8 ∧ poolServes s p = true ∧ rdB s Obj.MODULE_IDLE 0 = false ∧ rdN s Obj.EPOCH_STATE 0 = 0 ∧ (dredgeChoice s p).2 = some slot ∧ reshapeNext s p ≠ some slot) ∧
    (∃ (s : State) (p : Nat) (slot : Nat) (g : Seg), Tbl.get (poolOf s p).segs slot = some g ∧ g.st = 3 ∧ g.passBy ≤ rdN s Obj.MAP_CHECKPOINT_NUMBER p ∧ segmentReaders s p slot = false ∧ liveCount s p slot = 0 ∧ (poolOf s p).reshape = none) ∧
    (∃ (s : State) (id : Nat) (p : Nat) (slot : Nat) (j : Nat) (c : MCmd), outstanding s id = some c ∧ c.purp = .zone p slot j) ∧
    (∃ (s : State) (p : Nat) (slot : Nat) (r : Reshape) (g : Seg), p < 8 ∧ (poolOf s p).reshape = some r ∧ r.moving = some slot ∧ Tbl.get (poolOf s p).segs slot = some g ∧ g.st = 3 ∧ g.passBy ≤ rdN s Obj.MAP_CHECKPOINT_NUMBER p ∧ toMigrate (modPool (wr (logRec s p (.reshape (cursorAfter s p r g))) Obj.RESHAPE_CURSOR p (cursorAfter s p r g : Nat)) p (fun x => { x with reshape := some { r with moving := none } })) p { r with moving := none } ≠ []) := by
  refine ⟨?_, ?_, ?_, ?_, ?_, ?_, ?_, ?_, ?_⟩
  · exact ⟨modPool (modPool (wr (State.reset) Obj.POOL_STATE 7 1) 7 (fun x => { x with ckptAgain := true })) 7 (fun x => { x with ckpt := none }), 7, by decide +kernel⟩
  · exact ⟨floors0 (modPool (State.reset) 0 (fun x => { x with ckpt := some ckpt0 })), 0, ckpt0, by decide +kernel⟩
  · exact ⟨(fun s : State => { s with ilog := { s.ilog with recs := [{ rec0 with body := .checkpoint 1 [], durable := true }] } }) (modPool State.reset 7 (fun x => { x with ckpt := some { ckpt0 with step := 6 } })), 7, { ckpt0 with step := 6 }, by decide +kernel, by decide +kernel, ⟨{ rec0 with body := .checkpoint 1 [], durable := true }, by decide +kernel, by decide +kernel, by decide +kernel, [], rfl⟩, by simp [State.reset, modPool]⟩
  · exact ⟨wr (State.reset) Obj.POOL_STATE 7 1, 7, by decide +kernel⟩
  · exact ⟨wr (wrB (wr (State.reset) Obj.POOL_STATE 7 1) Obj.MODULE_IDLE 0 false) Obj.EPOCH_STATE 0 ((0 : Nat) : Int), 7, by decide +kernel⟩
  · exact ⟨wr (modPool (pool7 2) 7 (fun x => { x with segs := [(0, { seg0 with st := 2, sectors := 4, cols := [(0, 0), (1, 0)] })] })) Obj.FREE_ZONE_PERCENT 7 1, 7, 0, by decide +kernel⟩
  · exact ⟨modPool State.reset 7 (fun x => { x with segs := [(0, seg0)] }), 7, 0, seg0, by decide +kernel⟩
  · exact ⟨setMCmd (State.reset) 0 { mcmd0 with purp := .zone 0 0 0 }, 0, 0, 0, 0, { mcmd0 with purp := .zone 0 0 0 }, by decide +kernel⟩
  · exact ⟨modPool State.reset 7 (fun x => { x with reshape := some { resh0 with kind := 2, leaving := 5, moving := some 0 }, segs := [(0, { seg0 with st := 3, seq := 4 }), (1, { seg0 with st := 2, cols := [(5, 0)] })] }), 7, 0, { resh0 with kind := 2, leaving := 5, moving := some 0 }, { seg0 with st := 3, seq := 4 }, by decide +kernel⟩

theorem test_hypotheses_PatrolResyncAndRebuild :
    (∃ (s : State) (p : Nat), p < 8 ∧ mayPatrol s p = true ∧ rdB s Obj.MODULE_IDLE 0 = false ∧ rdN s Obj.EPOCH_STATE 0 = 0 ∧ ((walkOrder s p).filter (fun e => decide ((poolOf s p).patrol.slot < e.1 ∨ ((poolOf s p).patrol.slot = e.1 ∧ (poolOf s p).patrol.idx ≤ e.2.1))) = [])) ∧
    (∃ (s : State) (p : Nat) (e : Nat × Nat × Nat × StripeHdr) (r : List (Nat × Nat × Nat × StripeHdr)), p < 8 ∧ mayPatrol s p = true ∧ rdB s Obj.MODULE_IDLE 0 = false ∧ rdN s Obj.EPOCH_STATE 0 = 0 ∧ ((walkOrder s p).filter (fun e => decide ((poolOf s p).patrol.slot < e.1 ∨ ((poolOf s p).patrol.slot = e.1 ∧ (poolOf s p).patrol.idx ≤ e.2.1))) = e :: r)) ∧
    (∃ (p : Nat), p < 8) ∧
    (∃ (s : State) (p : Nat) (w : WalkAt), p < 8 ∧ (poolOf s p).resync = some w ∧ poolCond s p Pc.resync = true ∧ rdN s Obj.EPOCH_STATE 0 = 0 ∧ resyncLeft s p w = []) ∧
    (∃ (s : State) (p : Nat), p < 8 ∧ rdN s Obj.REBUILD_STATE p = 1 ∧ rebuildCan s p = true) ∧
    (∃ (s : State) (p : Nat) (slot : Nat) (g : Seg), p < 8 ∧ rdN s Obj.REBUILD_STATE p = 2 ∧ rdB s Obj.MODULE_IDLE 0 = false ∧ rdN s Obj.EPOCH_STATE 0 = 0 ∧ leastBy (fun (e : Nat × Seg) => rebuildRank s p e.2) ((poolOf s p).segs.filter (fun e => !(rebuildWork s p e.1 e.2).1.isEmpty || !(rebuildWork s p e.1 e.2).2.isEmpty)) = some (slot, g)) ∧
    (∃ (s : State) (p : Nat), p < 8 ∧ anyFailed s p = true ∧ rdN s Obj.REBUILD_STATE p ≠ 2 ∧ rebuildCan (wr (wr (setCond s p Pc.degraded true) Obj.REBUILD_SECTORS_TOTAL p (lostLive (setCond s p Pc.degraded true) p : Nat)) Obj.REBUILD_SECTORS_DONE p 0) p = true) ∧
    (∃ (s : State) (p : Nat), p < 8 ∧ anyFailed s p = true ∧ rdN s Obj.REBUILD_STATE p = 2) ∧
    (∃ (s : State) (p : Nat), p < 8 ∧ anyFailed s p = true ∧ rdN s Obj.REBUILD_STATE p ≠ 2 ∧ rebuildCan (wr (wr (setCond s p Pc.degraded true) Obj.REBUILD_SECTORS_TOTAL p (lostLive (setCond s p Pc.degraded true) p : Nat)) Obj.REBUILD_SECTORS_DONE p 0) p = false) := by
  refine ⟨?_, ?_, ?_, ?_, ?_, ?_, ?_, ?_, ?_⟩
  · exact ⟨wr (wrB (wrB (wr (State.reset) Obj.POOL_STATE 7 1) Obj.PATROL_ENABLE 7 true) Obj.MODULE_IDLE 0 false) Obj.EPOCH_STATE 0 ((0 : Nat) : Int), 7, by decide +kernel⟩
  · exact ⟨modPool (wrB (wr State.reset Obj.POOL_STATE 7 1) Obj.PATROL_ENABLE 7 true) 7 (fun x => { x with segs := [(0, { seg0 with st := 2, hdrs := [hdr0] })] }), 7, (0, 0, 0, hdr0), [], by decide +kernel⟩
  · exact ⟨7, by decide +kernel⟩
  · exact ⟨setCond (wr (modPool (State.reset) 7 (fun x => { x with resync := some walk0 })) Obj.EPOCH_STATE 0 ((0 : Nat) : Int)) 7 Pc.resync true, 7, walk0, by decide +kernel⟩
  · exact ⟨wr (pool7 3) Obj.REBUILD_STATE 7 1, 7, by decide +kernel⟩
  · exact ⟨(fun s : State => wr (wr s Obj.MEMBER_STATE (mInst 7 2) 2) Obj.REBUILD_STATE 7 2) (modPool (pool7 3) 7 (fun x => { x with segs := [(0, { seg0 with st := 2, cls := 3, cols := [(2, 0)] })], pages := [(0, (0, 1))] })), 7, 0, { seg0 with st := 2, cls := 3, cols := [(2, 0)] }, by decide +kernel⟩
  · exact ⟨wr (pool7 3) Obj.MEMBER_STATE (mInst 7 2) 2, 7, by decide +kernel⟩
  · exact ⟨wr (wr State.reset Obj.REBUILD_STATE 7 2) Obj.MEMBER_STATE (mInst 7 63) ((Ms.failed : Nat) : Int), 7, by decide +kernel⟩
  · exact ⟨wr (pool7 1) Obj.MEMBER_STATE (mInst 7 1) 2, 7, by decide +kernel⟩

theorem test_hypotheses_VolumeActions :
    (∃ (s : State) (v : Nat), v < 4096 ∧ volCreateResult s v = Vr.done) ∧
    (∃ (s : State) (v : Nat), v < 4096 ∧ volCreateResult s v ≠ Vr.done) ∧
    (∃ (s : State) (v : Nat), v < 4096 ∧ (rdN s Obj.VOLUME_STATE v = 1 ∨ rdN s Obj.VOLUME_STATE v = 2) ∧ (volOf s v).deleting = false) ∧
    (∃ (s : State) (v : Nat), v < 4096 ∧ (rdN s Obj.VOLUME_STATE v = 0 ∨ rdN s Obj.VOLUME_STATE v = 3)) ∧
    (∃ (s : State) (v : Nat), (volOf s v).deleting = true ∧ volBusy s v = false ∧ (rdN s Obj.VOLUME_STATE v = 1 ∨ rdN s Obj.VOLUME_STATE v = 2)) ∧
    (∃ (s : State) (v : Nat) (cap : Nat), v < 4096 ∧ rdN s Obj.VOLUME_STATE v = 0 ∧ 0 < cap ∧ cap ≤ 2 ^ 40) ∧
    (∃ (s : State) (v : Nat) (cap : Nat), v < 4096 ∧ rdN s Obj.VOLUME_STATE v ≠ 0 ∧ cap < rdN s Obj.VOLUME_CAPACITY v) := by
  refine ⟨?_, ?_, ?_, ?_, ?_, ?_, ?_⟩
  · exact ⟨wr (wr (wr (pool7 2) Obj.VOLUME_POOL 4095 7) Obj.VOLUME_CAPACITY 4095 4) Obj.POOL_CAPACITY 7 1000, 4095, by decide +kernel⟩
  · exact ⟨State.reset, 4095, by decide +kernel⟩
  · exact ⟨modVol (wr (State.reset) Obj.VOLUME_STATE 4095 ((1 : Nat) : Int)) 4095 (fun x => { x with deleting := false }), 4095, by decide +kernel⟩
  · exact ⟨wr (State.reset) Obj.VOLUME_STATE 4095 ((0 : Nat) : Int), 4095, by decide +kernel⟩
  · exact ⟨wr (modVol (State.reset) 0 (fun x => { x with deleting := true })) Obj.VOLUME_STATE 0 ((1 : Nat) : Int), 0, by decide +kernel⟩
  · exact ⟨wr (State.reset) Obj.VOLUME_STATE 4095 ((0 : Nat) : Int), 4095, 2 ^ 40, by decide +kernel⟩
  · exact ⟨wr (wr (State.reset) Obj.VOLUME_STATE 4095 1) Obj.VOLUME_CAPACITY 4095 8, 4095, 7, by decide +kernel⟩

theorem test_hypotheses_CustomCodeTables :
    (∃ (s : State) (i : Nat) (b : Bytes), i < 16 ∧ b.length = 768 ∧ tableReservedZero b = true ∧ rdN s Obj.CODE_CHECK_STATE i ≠ Ct.checking ∧ tableUsers s i = 0) ∧
    (∃ (s : State) (i : Nat), i < 16 ∧ rdN s Obj.CODE_CHECK_STATE i = Ct.loaded ∧ tableReason (rdBytes s Obj.CODE_TABLE_DATA i) = 0) ∧
    (∃ (s : State) (i : Nat), i < 16 ∧ rdN s Obj.CODE_CHECK_STATE i = Ct.loaded ∧ tableReason (rdBytes s Obj.CODE_TABLE_DATA i) ≠ 0) ∧
    (∃ (s : State) (i : Nat), i < 16 ∧ rdN s Obj.CODE_CHECK_STATE i = Ct.checking ∧ firstUndecodable (parseTable (rdBytes s Obj.CODE_TABLE_DATA i)) (parseTable (rdBytes s Obj.CODE_TABLE_DATA i)).f = none) ∧
    (∃ (s : State) (i : Nat) (e : List Nat), i < 16 ∧ rdN s Obj.CODE_CHECK_STATE i = Ct.checking ∧ firstUndecodable (parseTable (rdBytes s Obj.CODE_TABLE_DATA i)) (parseTable (rdBytes s Obj.CODE_TABLE_DATA i)).f = some e) := by
  refine ⟨?_, ?_, ?_, ?_, ?_⟩
  · exact ⟨State.reset, 15, zeros 768, by decide +kernel⟩
  · exact ⟨wrBytes (wr (State.reset) Obj.CODE_CHECK_STATE 15 ((Ct.loaded : Nat) : Int)) Obj.CODE_TABLE_DATA 15 (leBytes 1 1 ++ leBytes 1 1 ++ leBytes 1 0 ++ leBytes 1 1 ++ zeros 12 ++ leBytes 1 1 ++ zeros 751), 15, by decide +kernel⟩
  · exact ⟨wr (State.reset) Obj.CODE_CHECK_STATE 15 ((Ct.loaded : Nat) : Int), 15, by decide +kernel⟩
  · exact ⟨wrBytes (wr (State.reset) Obj.CODE_CHECK_STATE 15 ((Ct.checking : Nat) : Int)) Obj.CODE_TABLE_DATA 15 (leBytes 1 1 ++ leBytes 1 1 ++ leBytes 1 0 ++ leBytes 1 1 ++ zeros 12 ++ leBytes 1 1 ++ zeros 751), 15, by decide +kernel⟩
  · exact ⟨wrBytes (wr (State.reset) Obj.CODE_CHECK_STATE 15 ((Ct.checking : Nat) : Int)) Obj.CODE_TABLE_DATA 15 (leBytes 1 1 ++ leBytes 1 1 ++ leBytes 1 0 ++ leBytes 1 1 ++ zeros 12 ++ leBytes 1 0 ++ zeros 751), 15, [0], by decide +kernel⟩

theorem test_hypotheses_PoolActions :
    (∃ (s : State) (p : Nat), p < 8 ∧ (poolOf s p).action = none ∧ poolState s p = Ps.notConfigured ∧ createCheck s p = Pr.inProgress) ∧
    (∃ (s : State) (p : Nat), p < 8 ∧ (poolOf s p).action = none ∧ poolState s p ≠ Ps.notConfigured) ∧
    (∃ (s : State) (p : Nat), p < 8 ∧ (poolOf s p).action = none ∧ poolState s p = Ps.offline ∧ lossUnknown s = false ∧ rdN s Obj.STARTUP_STEP 0 < 11) ∧
    (∃ (s : State) (p : Nat), p < 8 ∧ (poolOf s p).action = none ∧ poolState s p = Ps.offline ∧ lossUnknown s = false ∧ 11 ≤ rdN s Obj.STARTUP_STEP 0) ∧
    (∃ (s : State) (p : Nat), p < 8 ∧ (poolOf s p).action = none ∧ poolState s p ≠ Ps.offline ∧ poolState s p ≠ Ps.notConfigured) ∧
    (∃ (s : State) (p : Nat), p < 8 ∧ (poolOf s p).action = none ∧ poolState s p = Ps.offline ∧ hasLive s p = false ∧ slotsIn s p Ms.active ≠ []) ∧
    (∃ (s : State) (p : Nat), p < 8 ∧ (poolOf s p).action = none ∧ poolState s p = Ps.offline ∧ hasLive s p = false ∧ slotsIn s p Ms.active = []) ∧
    (∃ (s : State) (p : Nat), p < 8 ∧ (poolOf s p).action = none ∧ poolState s p = Ps.offline ∧ hasLive s p = true) ∧
    (∃ (s : State) (p : Nat) (id : Nat) (m : Nat) (c : MCmd), outstanding s id = some c ∧ c.purp = .action p m) := by
  refine ⟨?_, ?_, ?_, ?_, ?_, ?_, ?_, ?_, ?_⟩
  · exact ⟨wr (wr ((List.range 2).foldl (fun s m => wr (wr (wr (wr (wr s Obj.MEMBER_PORT (mInst 7 m) m) Obj.DPORT_STATE m 4) Obj.DRIVE_CAPACITY m 100000000) Obj.MEMBER_NSID (mInst 7 m) 1) Obj.DRIVE_NSID m 1) (wr (wr (wr State.reset Obj.POOL_CODE_TABLE 7 4) Obj.POOL_K 7 1) Obj.POOL_REBUILD_RESERVE 7 0)) Obj.DRIVE_ADMISSION 0 0) Obj.DRIVE_ADMISSION 1 0, 7, by decide +kernel⟩
  · exact ⟨wr (modPool (State.reset) 7 (fun x => { x with action := none })) Obj.POOL_STATE 7 1, 7, by decide +kernel⟩
  · exact ⟨wr (modPool (State.reset) 7 (fun x => { x with action := none })) Obj.POOL_STATE 7 ((Ps.offline : Nat) : Int), 7, by decide +kernel⟩
  · exact ⟨wr (wr (modPool (State.reset) 7 (fun x => { x with action := none })) Obj.POOL_STATE 7 ((Ps.offline : Nat) : Int)) Obj.STARTUP_STEP 0 11, 7, by decide +kernel⟩
  · exact ⟨wr (modPool (State.reset) 7 (fun x => { x with action := none })) Obj.POOL_STATE 7 1, 7, by decide +kernel⟩
  · exact ⟨wr (wr State.reset Obj.POOL_STATE 7 ((Ps.offline : Nat) : Int)) Obj.MEMBER_STATE (mInst 7 63) ((Ms.active : Nat) : Int), 7, by decide +kernel⟩
  · exact ⟨wr State.reset Obj.POOL_STATE 7 ((Ps.offline : Nat) : Int), 7, by decide +kernel⟩
  · exact ⟨wr (wr (modVol (wr (modPool (State.reset) 7 (fun x => { x with action := none })) Obj.POOL_STATE 7 ((Ps.offline : Nat) : Int)) 4095 (fun x => x)) Obj.VOLUME_POOL 4095 7) Obj.VOLUME_STATE 4095 1, 7, by decide +kernel⟩
  · exact ⟨setMCmd (State.reset) 0 { mcmd0 with purp := .action 0 0 }, 0, 0, 0, { mcmd0 with purp := .action 0 0 }, by decide +kernel⟩

theorem test_hypotheses_MemberActions :
    (∃ (s : State) (p : Nat) (m : Nat), p < 8 ∧ m < 64 ∧ addResult s p m = Mr.inProgress) ∧
    (∃ (s : State) (p : Nat) (m : Nat), p < 8 ∧ m < 64 ∧ addResult s p m ≠ Mr.inProgress ∧ rdN s Obj.MEMBER_ACTION_RESULT (mInst p m) ≠ Mr.inProgress) ∧
    (∃ (s : State) (p : Nat) (m : Nat), p < 8 ∧ m < 64 ∧ removeResult s p m = Mr.inProgress) ∧
    (∃ (s : State) (p : Nat) (m : Nat), p < 8 ∧ m < 64 ∧ removeResult s p m ≠ Mr.inProgress) := by
  refine ⟨?_, ?_, ?_, ?_⟩
  · exact ⟨wr (wr (wr (wr (wr (wr (pool7 2) Obj.MEMBER_PORT (mInst 7 63) 63) Obj.DPORT_STATE 63 4) Obj.DRIVE_CAPACITY 63 100000000) Obj.MEMBER_NSID (mInst 7 63) 1) Obj.DRIVE_NSID 63 1) Obj.DRIVE_ADMISSION 63 0, 7, 63, by decide +kernel⟩
  · exact ⟨State.reset, 7, 63, by decide +kernel⟩
  · exact ⟨pool7 4, 7, 3, by decide +kernel⟩
  · exact ⟨State.reset, 7, 63, by decide +kernel⟩

theorem test_hypotheses_LocalEpochs :
    (∃ (s : State) (v : Nat), commitResult s v false = Rs.ok) ∧
    (∃ (s : State) (v : Nat), commitResult s v false ≠ Rs.ok) ∧
    (∃ (s : State), epochState s = Es.idle) ∧
    (∃ (s : State), epochState s ≠ Es.idle) ∧
    (∃ (s : State) (u : Nat), epochState s = Es.draining ∧ 64 ≤ u ∧ u < 70 ∧ s.ep.acked.contains u = false ∧ unitFinished s u = true ∧ allAcked (wr (setAck s u) Obj.UNIT_APPLIED_EPOCH u ((rdN s Obj.EPOCH_CURRENT 0 + 1 : Nat) : Int)) = false) ∧
    (∃ (s : State), epochState s = Es.draining ∧ s.ep.isPair = false) ∧
    (∃ (s : State), epochState s = Es.committing ∧ s.ep.commitSent = false ∧ s.ep.reconciling = false) ∧
    (∃ (s : State), epochState s = Es.reverting ∧ s.ep.thermal = none) := by
  refine ⟨?_, ?_, ?_, ?_, ?_, ?_, ?_, ?_⟩
  · exact ⟨wr State.reset Obj.STARTUP_STEP 0 11, 0, by decide +kernel⟩
  · exact ⟨State.reset, 0, by decide +kernel⟩
  · exact ⟨wr (State.reset) Obj.EPOCH_STATE 0 ((Es.idle : Nat) : Int), by decide +kernel⟩
  · exact ⟨wr (State.reset) Obj.EPOCH_STATE 0 1, by decide +kernel⟩
  · exact ⟨wr (State.reset) Obj.EPOCH_STATE 0 ((Es.draining : Nat) : Int), 69, by decide +kernel⟩
  · exact ⟨modEp (wr (State.reset) Obj.EPOCH_STATE 0 ((Es.draining : Nat) : Int)) (fun x => { x with isPair := false }), by decide +kernel⟩
  · exact ⟨modEp (modEp (wr (State.reset) Obj.EPOCH_STATE 0 ((Es.committing : Nat) : Int)) (fun x => { x with commitSent := false })) (fun x => { x with reconciling := false }), by decide +kernel⟩
  · exact ⟨modEp (wr (State.reset) Obj.EPOCH_STATE 0 ((Es.reverting : Nat) : Int)) (fun x => { x with thermal := none }), by decide +kernel⟩

theorem test_hypotheses_PairEpochs :
    (∃ (s : State) (v : Nat), commitResult s v true = Rs.ok) ∧
    (∃ (s : State) (v : Nat), commitResult s v true ≠ Rs.ok) ∧
    (∃ (s : State), epochState s = Es.committing ∧ s.ep.initiator = true ∧ s.ep.commitSent = true) ∧
    (∃ (s : State) (p : Nat), epochState s = Es.idle ∧ p = rdN s Obj.EPOCH_PAIR_CURRENT 0 ∧ s.pair.joined = true) ∧
    (∃ (s : State) (p : Nat), epochState s = Es.draining ∧ s.ep.isPair = true ∧ s.ep.initiator = true ∧ p = rdN s Obj.EPOCH_PAIR_CURRENT 0 ∧ allAcked (setAck s 70) = false) ∧
    (∃ (s : State) (p : Nat), epochState s = Es.prepared ∧ s.ep.initiator = false ∧ p = rdN s Obj.EPOCH_PAIR_CURRENT 0) ∧
    (∃ (s : State) (p : Nat), (epochState s = Es.prepared ∨ epochState s = Es.draining) ∧ s.ep.isPair = true ∧ p = rdN s Obj.EPOCH_PAIR_CURRENT 0) := by
  refine ⟨?_, ?_, ?_, ?_, ?_, ?_, ?_⟩
  · exact ⟨modPair (wr State.reset Obj.STARTUP_STEP 0 11) (fun x => { x with joined := true }), 0, by decide +kernel⟩
  · exact ⟨State.reset, 0, by decide +kernel⟩
  · exact ⟨modEp (modEp (wr (State.reset) Obj.EPOCH_STATE 0 ((Es.committing : Nat) : Int)) (fun x => { x with initiator := true })) (fun x => { x with commitSent := true }), by decide +kernel⟩
  · exact ⟨modPair (wr (State.reset) Obj.EPOCH_STATE 0 ((Es.idle : Nat) : Int)) (fun x => { x with joined := true }), 0, by decide +kernel⟩
  · exact ⟨modEp (modEp (wr (State.reset) Obj.EPOCH_STATE 0 ((Es.draining : Nat) : Int)) (fun x => { x with isPair := true })) (fun x => { x with initiator := true }), 0, by decide +kernel⟩
  · exact ⟨modEp (wr (State.reset) Obj.EPOCH_STATE 0 ((Es.prepared : Nat) : Int)) (fun x => { x with initiator := false }), 0, by decide +kernel⟩
  · exact ⟨modEp (wr (State.reset) Obj.EPOCH_STATE 0 ((Es.prepared : Nat) : Int)) (fun x => { x with isPair := true }), 0, by decide +kernel⟩

theorem test_hypotheses_DriveGroupsAndPresence :
    (∃ (s : State) (g : Nat), g < 16 ∧ rdN s Obj.DRIVE_GROUP_STATE g = 0) ∧
    (∃ (s : State) (g : Nat), g < 16 ∧ rdN s Obj.DRIVE_GROUP_STATE g = 1) ∧
    (∃ (s : State) (port : Nat), port < 64 ∧ rdN s Obj.DPORT_STATE port = Dp.empty) ∧
    (∃ (s : State) (port : Nat), port < 64 ∧ rdN s Obj.DPORT_STATE port ≠ Dp.empty) ∧
    (∃ (s : State) (port : Nat), port < 64 ∧ rdN s Obj.DPORT_STATE port = Dp.training) ∧
    (∃ (s : State) (port : Nat), port < 64 ∧ rdN s Obj.DPORT_STATE port = Dp.ready ∧ rdN s Obj.DPORT_MODE port = 1) ∧
    (∃ (s : State) (port : Nat), port < 64 ∧ rdN s Obj.DPORT_STATE port = Dp.ready ∧ rdN s Obj.DPORT_MODE port = 0) ∧
    (∃ (s : State) (port : Nat), port < 64 ∧ (dportOf s port).released = true ∧ rdN s Obj.DPORT_STATE port = Dp.training) ∧
    (∃ (s : State) (port : Nat), port < 64 ∧ rdN s Obj.DPORT_STATE port = Dp.admitting ∧ (dportOf s port).admStep = 1 ∧ rdN s Obj.DRIVE_QUEUE_DEPTH port > inflight s port ∧ (dportOf s port).resetting = false) ∧
    (∃ (s : State) (id : Nat) (c : MCmd) (d : AdmData), outstanding s id = some c ∧ c.purp = .admission ∧ rdN s Obj.DPORT_STATE c.port = Dp.admitting ∧ admFits (dportOf s c.port).admStep d = true) ∧
    (∃ (s : State) (port : Nat), port < 64 ∧ rdN s Obj.DPORT_STATE port = Dp.admitting) := by
  refine ⟨?_, ?_, ?_, ?_, ?_, ?_, ?_, ?_, ?_, ?_, ?_⟩
  · exact ⟨wr (State.reset) Obj.DRIVE_GROUP_STATE 15 ((0 : Nat) : Int), 15, by decide +kernel⟩
  · exact ⟨wr (State.reset) Obj.DRIVE_GROUP_STATE 15 ((1 : Nat) : Int), 15, by decide +kernel⟩
  · exact ⟨wr (State.reset) Obj.DPORT_STATE 63 ((Dp.empty : Nat) : Int), 63, by decide +kernel⟩
  · exact ⟨State.reset, 63, by decide +kernel⟩
  · exact ⟨wr (State.reset) Obj.DPORT_STATE 63 ((Dp.training : Nat) : Int), 63, by decide +kernel⟩
  · exact ⟨wr (wr (State.reset) Obj.DPORT_STATE 63 ((Dp.ready : Nat) : Int)) Obj.DPORT_MODE 63 ((1 : Nat) : Int), 63, by decide +kernel⟩
  · exact ⟨wr (wr (State.reset) Obj.DPORT_STATE 63 ((Dp.ready : Nat) : Int)) Obj.DPORT_MODE 63 ((0 : Nat) : Int), 63, by decide +kernel⟩
  · exact ⟨wr (modDPort (State.reset) 63 (fun x => { x with released := true })) Obj.DPORT_STATE 63 ((Dp.training : Nat) : Int), 63, by decide +kernel⟩
  · exact ⟨modDPort (modDPort (wr (State.reset) Obj.DPORT_STATE 63 ((Dp.admitting : Nat) : Int)) 63 (fun x => { x with admStep := 1 })) 63 (fun x => { x with resetting := false }), 63, by decide +kernel⟩
  · exact ⟨wr (setMCmd (State.reset) 0 { mcmd0 with purp := .admission }) Obj.DPORT_STATE 63 ((Dp.admitting : Nat) : Int), 0, { mcmd0 with purp := .admission }, .failed, by decide +kernel⟩
  · exact ⟨wr (State.reset) Obj.DPORT_STATE 63 ((Dp.admitting : Nat) : Int), 63, by decide +kernel⟩

theorem test_hypotheses_MemberCommandEndings :
    (∃ (s : State) (id : Nat) (c : MCmd) (x : DrvStatus), outstanding s id = some c ∧ x.fatal = false ∧ x.status = 0 ∧ x.poisoned = false) ∧
    (∃ (s : State) (id : Nat) (c : MCmd) (x : DrvStatus), outstanding s id = some c ∧ x.fatal = false ∧ x.status ≠ 0 ∧ x.poisoned = false ∧ ((∀ n, c.op ≠ .abort n)) ∧ conflictPool s c x = none ∧ x.retry = true ∧ c.retries < rdN s Obj.DRIVE_RETRY_LIMIT c.port) ∧
    (∃ (s : State) (id : Nat) (c : MCmd) (x : DrvStatus), outstanding s id = some c ∧ x.fatal = false ∧ x.status ≠ 0 ∧ x.poisoned = false ∧ ((∀ n, c.op ≠ .abort n)) ∧ conflictPool s c x = none ∧ x.retry = false) ∧
    (∃ (s : State) (id : Nat) (c : MCmd), Tbl.get s.drv.cmds id = some c ∧ c.st = .delayed ∧ purpPool c.purp = none) ∧
    (∃ (s : State) (id : Nat) (c : MCmd), outstanding s id = some c ∧ c.purp ≠ .admission ∧ rdN s Obj.DPORT_MODE c.port = 1) ∧
    (∃ (s : State) (id : Nat) (c : MCmd), outstanding s id = some c ∧ c.purp ≠ .admission ∧ rdN s Obj.DPORT_MODE c.port ≠ 1 ∧ c.st = .placed ∧ c.recFrom = none) ∧
    (∃ (s : State) (id : Nat) (c : MCmd), outstanding s id = some c ∧ c.st = .aborting) ∧
    (∃ (s : State) (id : Nat) (c : MCmd) (p : Nat) (m : Nat), outstanding s id = some c ∧ c.recFrom ≠ none ∧ creating s c = none ∧ ((∀ q n, c.purp ≠ .action q n ∧ c.purp ≠ .add q n)) ∧ memberOf s c.port = some (p, m) ∧ mState s p m = Ms.active) ∧
    (∃ (s : State) (id : Nat) (c : MCmd) (p : Nat) (m : Nat) (x : DrvStatus), outstanding s id = some c ∧ x.fatal = true ∧ creating s c = none ∧ ((∀ q n, c.purp ≠ .action q n ∧ c.purp ≠ .add q n)) ∧ memberOf s c.port = some (p, m) ∧ mState s p m = Ms.active) ∧
    (∃ (s : State) (port : Nat), port < 64 ∧ rdN s Obj.DPORT_MODE port = 1 ∧ rdN s Obj.DPORT_STATE port = Dp.ready) ∧
    (∃ (s : State), ((∀ p, p < 64 → rdN s Obj.DPORT_STATE p ≠ Dp.ready ∧ rdN s Obj.DPORT_STATE p ≠ Dp.refused))) ∧
    (∃ (s : State) (n : Nat), n < 64 ∧ rdN s Obj.DPORT_STATE n = Dp.ready ∧ ((∀ p, p < 64 → p ≠ n → rdN s Obj.DPORT_STATE p ≠ Dp.ready ∧ rdN s Obj.DPORT_STATE p ≠ Dp.refused))) := by
  refine ⟨?_, ?_, ?_, ?_, ?_, ?_, ?_, ?_, ?_, ?_, ?_, ?_⟩
  · exact ⟨setMCmd (State.reset) 0 mcmd0, 0, mcmd0, { drv0 with fatal := false, status := 0, poisoned := false }, by decide +kernel⟩
  · exact ⟨setMCmd (State.reset) 0 mcmd0, 0, mcmd0, { drv0 with fatal := false, status := 1, poisoned := false, retry := true }, by decide +kernel, by decide +kernel, by decide +kernel, by decide +kernel, fun n => by simp [mcmd0], by decide +kernel, by decide +kernel, by decide +kernel⟩
  · exact ⟨setMCmd (State.reset) 0 mcmd0, 0, mcmd0, { drv0 with fatal := false, status := 1, poisoned := false, retry := false }, by decide +kernel, by decide +kernel, by decide +kernel, by decide +kernel, fun n => by simp [mcmd0], by decide +kernel, by decide +kernel⟩
  · exact ⟨setMCmd (State.reset) 0 { mcmd0 with st := .delayed }, 0, { mcmd0 with st := .delayed }, by decide +kernel⟩
  · exact ⟨wr (setMCmd (State.reset) 0 mcmd0) Obj.DPORT_MODE 63 1, 0, mcmd0, by decide +kernel⟩
  · exact ⟨setMCmd (State.reset) 0 { mcmd0 with st := .placed, recFrom := none }, 0, { mcmd0 with st := .placed, recFrom := none }, by decide +kernel⟩
  · exact ⟨setMCmd (State.reset) 0 { mcmd0 with st := .aborting }, 0, { mcmd0 with st := .aborting }, by decide +kernel⟩
  · exact ⟨(setMCmd (wr (wr State.reset Obj.DRIVE_MEMBER_OF 63 511) Obj.MEMBER_STATE (mInst 7 63) ((Ms.active : Nat) : Int)) 0 { mcmd0 with recFrom := some 0 }), 0, { mcmd0 with recFrom := some 0 }, 7, 63, by decide +kernel, by decide +kernel, by decide +kernel, fun q n => by simp [mcmd0], by decide +kernel, by decide +kernel⟩
  · exact ⟨(setMCmd (wr (wr State.reset Obj.DRIVE_MEMBER_OF 63 511) Obj.MEMBER_STATE (mInst 7 63) ((Ms.active : Nat) : Int)) 0 mcmd0), 0, mcmd0, 7, 63, { drv0 with fatal := true }, by decide +kernel, by decide +kernel, by decide +kernel, fun q n => by simp [mcmd0], by decide +kernel, by decide +kernel⟩
  · exact ⟨wr (wr (State.reset) Obj.DPORT_MODE 63 ((1 : Nat) : Int)) Obj.DPORT_STATE 63 ((Dp.ready : Nat) : Int), 63, by decide +kernel⟩
  · exact ⟨State.reset, by decide +kernel⟩
  · exact ⟨wr (State.reset) Obj.DPORT_STATE 63 ((Dp.ready : Nat) : Int), 63, by decide +kernel⟩

theorem test_hypotheses_ContainedPortRelease :
    (∃ (s : State) (port : Nat), port < 64 ∧ rdN s Obj.DPORT_STATE port = Dp.contained ∧ (dportOf s port).retrying = false ∧ (dportOf s port).seated = true) ∧
    (∃ (s : State) (port : Nat), port < 64 ∧ rdN s Obj.DPORT_STATE port = Dp.contained ∧ (dportOf s port).retrying = false ∧ (dportOf s port).seated = false) ∧
    (∃ (s : State) (port : Nat), port < 64 ∧ (dportOf s port).retrying = true ∧ (dportOf s port).linkUp = false) ∧
    (∃ (s : State) (port : Nat) (l : List NsInfo), port < 64 ∧ (dportOf s port).resetting = true ∧ (dportOf s port).retrying = true ∧ sameDrive s port l = false) ∧
    (∃ (s : State) (port : Nat) (l : List NsInfo), port < 64 ∧ (dportOf s port).resetting = true ∧ (dportOf s port).retrying = true ∧ sameDrive s port l = true) ∧
    (∃ (s : State) (port : Nat) (p : Nat) (m : Nat), port < 64 ∧ (dportOf s port).resetting = true ∧ (dportOf s port).retrying = false ∧ memberOf s port = some (p, m)) ∧
    (∃ (s : State) (port : Nat), port < 64 ∧ rdN s Obj.DPORT_STATE port = Dp.contained) ∧
    (∃ (s : State) (p : Nat) (m : Nat), p < 8 ∧ m < 64 ∧ mState s p m = Ms.active) ∧
    (∃ (s : State) (p : Nat) (m : Nat), p < 8 ∧ m < 64 ∧ mState s p m ≠ Ms.active ∧ mState s p m ≠ Ms.contained) := by
  refine ⟨?_, ?_, ?_, ?_, ?_, ?_, ?_, ?_, ?_⟩
  · exact ⟨modDPort (modDPort (wr (State.reset) Obj.DPORT_STATE 63 ((Dp.contained : Nat) : Int)) 63 (fun x => { x with retrying := false })) 63 (fun x => { x with seated := true }), 63, by decide +kernel⟩
  · exact ⟨modDPort (modDPort (wr (State.reset) Obj.DPORT_STATE 63 ((Dp.contained : Nat) : Int)) 63 (fun x => { x with retrying := false })) 63 (fun x => { x with seated := false }), 63, by decide +kernel⟩
  · exact ⟨modDPort (modDPort (State.reset) 63 (fun x => { x with retrying := true })) 63 (fun x => { x with linkUp := false }), 63, by decide +kernel⟩
  · exact ⟨modDPort (modDPort (State.reset) 63 (fun x => { x with resetting := true })) 63 (fun x => { x with retrying := true }), 63, [], by decide +kernel⟩
  · exact ⟨wr (modDPort (modDPort (State.reset) 63 (fun x => { x with resetting := true })) 63 (fun x => { x with retrying := true })) Obj.DRIVE_NSID 63 1, 63, [{ nsid := 1, set := 0, offered := true, inForce := true, nguid := [], eui := 0, sectors := 0, reservations := true, deallocate := true, writeZeroes := true, zonesEqual := true, zoneCap := 0, zones := 0, maxActive := 0, shared := false }], by decide +kernel⟩
  · exact ⟨wr (modDPort (modDPort (State.reset) 63 (fun x => { x with resetting := true })) 63 (fun x => { x with retrying := false })) Obj.DRIVE_MEMBER_OF 63 511, 63, 7, 63, by decide +kernel⟩
  · exact ⟨wr (State.reset) Obj.DPORT_STATE 63 ((Dp.contained : Nat) : Int), 63, by decide +kernel⟩
  · exact ⟨wr (State.reset) Obj.MEMBER_STATE (mInst 7 63) ((Ms.active : Nat) : Int), 7, 63, by decide +kernel⟩
  · exact ⟨State.reset, 7, 63, by decide +kernel⟩

theorem test_hypotheses_SidebandAndWriteGate :
    (∃ (s : State), rdN s Obj.DRIVE_GATE_STATE 0 = 0 ∧ fenceBit s 0 = false ∧ s.pair.takeover = none ∧ ((∀ p, p < 8 → roleOf s p = Role.none ∨ roleOf s p = Role.fenced))) ∧
    (∃ (s : State), rdN s Obj.PAIR_SIDE 0 = 0 ∧ fenceBit s 0 = true) ∧
    (∃ (s : State), rdN s Obj.DRIVE_GATE_STATE 0 = 2 ∧ s.drv.cmds = [] ∧ s.pair.joined = false) := by
  refine ⟨?_, ?_, ?_⟩
  · exact ⟨modPair (wr (State.reset) Obj.DRIVE_GATE_STATE 0 ((0 : Nat) : Int)) (fun x => { x with takeover := none }), by decide +kernel⟩
  · exact ⟨wr (setRegs State.reset [(Obj.PAIR_SIDE.key 0, 0)]) Obj.PAIR_FENCE_STATE 0 1, by decide +kernel⟩
  · exact ⟨modPair ((fun s : State => { s with drv := { s.drv with cmds := [] } }) (wr (State.reset) Obj.DRIVE_GATE_STATE 0 ((2 : Nat) : Int))) (fun x => { x with joined := false }), by decide +kernel⟩

theorem test_hypotheses_HostFunctions :
    (∃ (s : State) (f : Nat), fnLives s f = true ∧ rdB s Obj.FUNC_BUS_MASTER f = true ∧ rdN s Obj.FUNC_DSTATE f ≠ 0) ∧
    (∃ (s : State) (f : Nat), fnLives s f = true ∧ rdB s Obj.FUNC_BUS_MASTER f = true ∧ rdN s Obj.FUNC_DSTATE f = 0) ∧
    (∃ (s : State) (f : Nat), fnLives s f = true ∧ rdB s Obj.FUNC_BUS_MASTER f = false) ∧
    (∃ (s : State) (f : Nat), fnLives s f = true ∧ rdN s Obj.FUNC_DSTATE f = 0) ∧
    (∃ (s : State) (f : Nat), fnLives s f = true ∧ rdN s Obj.FUNC_DSTATE f = 3) ∧
    (∃ (s : State) (f : Nat), 2 ≤ f ∧ fnLives s f = true) ∧
    (∃ (s : State) (f : Nat), 2 ≤ f ∧ f < 1026 ∧ rdB s Obj.FUNC_IN_RESET f = true ∧ (hostPort s (fnPort f)).ready = true) ∧
    (∃ (s : State) (f : Nat), f < 1026 ∧ rdB s Obj.FUNC_IN_RESET f = false) ∧
    (∃ (s : State) (port : Nat) (n : Nat), port < 2 ∧ fnLives s port = true ∧ (hostPort s port).vfEnable = false ∧ n ≤ 512) ∧
    (∃ (s : State) (port : Nat), port < 2 ∧ fnLives s port = true ∧ (hostPort s port).vfEnable = true) ∧
    (∃ (s : State) (f : Nat), fnLives s f = true) ∧
    (∃ (s : State) (f : Nat), fnLives s f = true) ∧
    (∃ (s : State) (f : Nat), fnLives s f = true) ∧
    (∃ (s : State) (f : Nat), f < 2 ∧ (fnOf s f).pmeStatus = true) := by
  refine ⟨?_, ?_, ?_, ?_, ?_, ?_, ?_, ?_, ?_, ?_, ?_, ?_, ?_, ?_⟩
  · exact ⟨wr (wrB (wrB (State.reset) Obj.FUNC_PRESENT 0 true) Obj.FUNC_BUS_MASTER 0 true) Obj.FUNC_DSTATE 0 1, 0, by decide +kernel⟩
  · exact ⟨wr (wrB (wrB (State.reset) Obj.FUNC_PRESENT 0 true) Obj.FUNC_BUS_MASTER 0 true) Obj.FUNC_DSTATE 0 ((0 : Nat) : Int), 0, by decide +kernel⟩
  · exact ⟨wrB (wrB (State.reset) Obj.FUNC_PRESENT 0 true) Obj.FUNC_BUS_MASTER 0 false, 0, by decide +kernel⟩
  · exact ⟨wr (wrB (State.reset) Obj.FUNC_PRESENT 0 true) Obj.FUNC_DSTATE 0 ((0 : Nat) : Int), 0, by decide +kernel⟩
  · exact ⟨wr (wrB (State.reset) Obj.FUNC_PRESENT 0 true) Obj.FUNC_DSTATE 0 ((3 : Nat) : Int), 0, by decide +kernel⟩
  · exact ⟨wrB (State.reset) Obj.FUNC_PRESENT 2 true, 2, by decide +kernel⟩
  · exact ⟨modHostPort (wrB (State.reset) Obj.FUNC_IN_RESET 1025 true) (fnPort 1025) (fun x => { x with ready := true }), 1025, by decide +kernel⟩
  · exact ⟨wrB (State.reset) Obj.FUNC_IN_RESET 1025 false, 1025, by decide +kernel⟩
  · exact ⟨modHostPort (wrB (State.reset) Obj.FUNC_PRESENT 1 true) 1 (fun x => { x with vfEnable := false }), 1, 512, by decide +kernel⟩
  · exact ⟨modHostPort (wrB (State.reset) Obj.FUNC_PRESENT 1 true) 1 (fun x => { x with vfEnable := true }), 1, by decide +kernel⟩
  · exact ⟨wrB (State.reset) Obj.FUNC_PRESENT 0 true, 0, by decide +kernel⟩
  · exact ⟨wrB (State.reset) Obj.FUNC_PRESENT 0 true, 0, by decide +kernel⟩
  · exact ⟨wrB (State.reset) Obj.FUNC_PRESENT 0 true, 0, by decide +kernel⟩
  · exact ⟨modFn State.reset 1 (fun x => { x with pmeStatus := true }), 1, by decide +kernel⟩

theorem test_hypotheses_HostPortsAndModuleIdle :
    (∃ (s : State) (port : Nat), port < 2 ∧ (hostPort s port).perst = false) ∧
    (∃ (s : State) (port : Nat), port < 2 ∧ rdB s Obj.PORT_LINK_UP port = true) ∧
    (∃ (s : State) (port : Nat), port < 2 ∧ rdB s Obj.PORT_LINK_UP port = true) ∧
    (∃ (s : State) (port : Nat) (speed : Nat), port < 2 ∧ 1 ≤ speed ∧ speed ≤ 6 ∧ (hostPort s port).perst = true ∧ portsAnswer s = false) ∧
    (∃ (s : State) (port : Nat) (speed : Nat), port < 2 ∧ 1 ≤ speed ∧ speed ≤ 6 ∧ (hostPort s port).perst = true ∧ portsAnswer s = true) ∧
    (∃ (s : State), rdB s Obj.MODULE_IDLE 0 = false ∧ idleConditions s = true ∧ ((∀ p, p < 8 → poolServes s p = false))) ∧
    (∃ (s : State), rdB s Obj.MODULE_IDLE 0 = false ∧ idleConditions s = false) ∧
    (∃ (s : State), rdB s Obj.MODULE_IDLE 0 = true) ∧
    (∃ (s : State), rdB s Obj.MODULE_IDLE 0 = false) := by
  refine ⟨?_, ?_, ?_, ?_, ?_, ?_, ?_, ?_, ?_⟩
  · exact ⟨modHostPort (State.reset) 1 (fun x => { x with perst := false }), 1, by decide +kernel⟩
  · exact ⟨wrB (State.reset) Obj.PORT_LINK_UP 1 true, 1, by decide +kernel⟩
  · exact ⟨wrB (State.reset) Obj.PORT_LINK_UP 1 true, 1, by decide +kernel⟩
  · exact ⟨modHostPort (State.reset) 1 (fun x => { x with perst := true }), 1, 6, by decide +kernel⟩
  · exact ⟨wr (modHostPort (State.reset) 1 (fun x => { x with perst := true })) Obj.STARTUP_STEP 0 7, 1, 6, by decide +kernel⟩
  · exact ⟨wrB (State.reset) Obj.MODULE_IDLE 0 false, by decide +kernel⟩
  · exact ⟨wr (wrB (State.reset) Obj.MODULE_IDLE 0 false) Obj.EPOCH_STATE 0 1, by decide +kernel⟩
  · exact ⟨wrB (State.reset) Obj.MODULE_IDLE 0 true, by decide +kernel⟩
  · exact ⟨wrB (State.reset) Obj.MODULE_IDLE 0 false, by decide +kernel⟩

theorem test_hypotheses_MirrorMessages :
    (∃ (s : State) (p : Nat) (n : Nat) (md : Bytes) (data : Bytes), p < 8 ∧ n < ownSlots ∧ servesPool s p = false ∧ fieldAt md 16 8 = crc64 data ∧ data.length = 4096 ∧ mirrorRoom s n = true) ∧
    (∃ (s : State) (p : Nat) (n : Nat) (md : Bytes) (data : Bytes), p < 8 ∧ n < ownSlots ∧ servesPool s p = false ∧ (fieldAt md 16 8 ≠ crc64 data ∨ mirrorRoom s n = false)) ∧
    (∃ (n : Nat), n < ownSlots) ∧
    (∃ (s : State) (id : Nat) (n : Nat) (x : Slot), Tbl.get s.pair.mirWait id = some n ∧ slotOf s n = some x ∧ ((∀ p, p < 8 → (poolOf s p).catchUp = false ∧ s.pair.settled.contains p = false))) ∧
    (∃ (s : State) (p : Nat), p < 8 ∧ servesPool s p = false) ∧
    (∃ (p : Nat), p < 8) ∧
    (∃ (s : State) (p : Nat) (l : List RecItem), p < 8 ∧ recordRoom s l.length = true) ∧
    (∃ (s : State) (l : List RecItem), recordRoom s l.length = false) ∧
    (∃ (s : State) (id : Nat) (st : Nat) (slot : Nat) (first : Nat) (height : Nat) (cls : Nat) (flags : Nat) (a : Nat) (b : Nat) (n : Nat) (r : LogRec) (x : Slot), s.pair.recWait = [(id, r)] ∧ r.body = .stripe st slot first height cls flags a b ∧ id < 2 ^ 32 ∧ slotOf s n = some x ∧ n < ownSlots ∧ x.pool = r.pool ∧ x.stripe = st ∧ ((∀ q, q < 8 → (poolOf s q).catchUp = false))) ∧
    (∃ (s : State) (p : Nat), p < 8 ∧ servesPool s p = false) ∧
    (∃ (s : State) (p : Nat), p < 8 ∧ Tbl.get s.pair.config p = none) ∧
    (∃ (s : State) (p : Nat) (gen : Nat) (off : Nat) (data : Bytes) (parts : Tbl Bytes), p < 8 ∧ Tbl.get s.pair.config p = some (gen, parts) ∧ (Tbl.set parts off data).length = 16) := by
  refine ⟨?_, ?_, ?_, ?_, ?_, ?_, ?_, ?_, ?_, ?_, ?_, ?_⟩
  · exact ⟨wr State.reset Obj.MIRROR_RESERVE_IN_EFFECT 0 4096, 7, 5, zeros 64, zeros 4096, by decide +kernel, by decide +kernel, by decide +kernel, (crc64_zeros 4096).symm, List.length_replicate, by decide +kernel⟩
  · exact ⟨State.reset, 7, 5, [], [], by decide +kernel⟩
  · exact ⟨5, by decide +kernel⟩
  · exact ⟨(fun s : State => { s with prot := [(5, slot0)] }) ((fun s : State => { s with pair := { s.pair with mirWait := Tbl.set s.pair.mirWait 0 5 } }) (State.reset)), 0, 5, slot0, by decide +kernel⟩
  · exact ⟨State.reset, 7, by decide +kernel⟩
  · exact ⟨7, by decide +kernel⟩
  · exact ⟨State.reset, 7, [], by decide +kernel⟩
  · exact ⟨State.reset, List.replicate 2097153 { seq := 0, body := .reshape 0, cut := 0 }, full_area _⟩
  · exact ⟨(fun s : State => { s with prot := [(5, slot0)] }) (modPair State.reset (fun x => { x with recWait := [(0, { rec0 with pool := 0, body := .stripe 0 0 0 0 0 0 0 0 })] })), 0, 0, 0, 0, 0, 0, 0, 0, 0, 5, { rec0 with pool := 0, body := .stripe 0 0 0 0 0 0 0 0 }, { slot0 with pool := 0 }, by decide +kernel⟩
  · exact ⟨State.reset, 7, by decide +kernel⟩
  · exact ⟨State.reset, 7, by decide +kernel⟩
  · exact ⟨(fun s : State => { s with pair := { s.pair with config := Tbl.set s.pair.config 7 (0, (List.range 15).map (fun i => (i, []))) } }) (State.reset), 7, 0, 15, [], (List.range 15).map (fun i => (i, [])), by decide +kernel⟩

theorem test_hypotheses_HeartbeatAndJoining :
    (∃ (s : State), s.pair.enabled = true) ∧
    (∃ (s : State), s.pair.enabled = false) ∧
    (∃ (s : State) (epoch : Nat), s.pair.enabled = true ∧ culvertUp s = true ∧ s.pair.takeover = none ∧ s.pair.joined = false ∧ rdN s Obj.EPOCH_PAIR_CURRENT 0 ≤ epoch) ∧
    (∃ (s : State), mayJoin s = true ∧ s.pair.joined = false ∧ s.pair.takeover = none ∧ ((∀ p, p < 8 → roleOf s p = Role.none)) ∧ fenceBit s 0 = false ∧ s.pair.toSettle = []) ∧
    (∃ (s : State), mayJoin s = false) ∧
    (∃ (s : State), s.pair.enabled = true) ∧
    (∃ (s : State), rdB s Obj.PAIR_ALIVE_PRESENT 0 = true) ∧
    (∃ (s : State), s.pair.heard = true) ∧
    (∃ (s : State), rdB s Obj.PAIR_ALIVE_PRESENT 0 = false) := by
  refine ⟨?_, ?_, ?_, ?_, ?_, ?_, ?_, ?_, ?_⟩
  · exact ⟨modPair (State.reset) (fun x => { x with enabled := true }), by decide +kernel⟩
  · exact ⟨modPair (State.reset) (fun x => { x with enabled := false }), by decide +kernel⟩
  · exact ⟨modPair (modPair (wr (modPair (State.reset) (fun x => { x with enabled := true })) Obj.CULVERT_STATE 0 2) (fun x => { x with takeover := none })) (fun x => { x with joined := false }), 0, by decide +kernel⟩
  · exact ⟨modPair (wr (wr (setRegs State.reset [(Obj.FW_COMPAT_LEVEL.key 0, 1), (Obj.PAIR_SIDE.key 0, 0)]) Obj.CULVERT_STATE 0 2) Obj.PAIR_PEER_COMPAT_LEVEL 0 1) (fun x => { x with enabled := true, heard := true, peerSide := 1 }), by decide +kernel⟩
  · exact ⟨State.reset, by decide +kernel⟩
  · exact ⟨modPair (State.reset) (fun x => { x with enabled := true }), by decide +kernel⟩
  · exact ⟨wrB (State.reset) Obj.PAIR_ALIVE_PRESENT 0 true, by decide +kernel⟩
  · exact ⟨modPair (State.reset) (fun x => { x with heard := true }), by decide +kernel⟩
  · exact ⟨wrB (State.reset) Obj.PAIR_ALIVE_PRESENT 0 false, by decide +kernel⟩

theorem test_hypotheses_TakeoverAndHandover :
    (∃ (s : State), s.pair.takeover = none ∧ s.pair.enabled = true ∧ poolsIn s Role.partner ≠ [] ∧ fenceBit s 3 = false) ∧
    (∃ (s : State), s.pair.takeover ≠ none) ∧
    (∃ (s : State) (k : Takeover), s.pair.takeover = some k ∧ k.step = 2) ∧
    (∃ (s : State), s.pair.takeover = none) ∧
    (∃ (s : State) (k : Takeover), s.pair.takeover = some k ∧ k.step = 2 ∧ k.silent = true) ∧
    (∃ (s : State) (k : Takeover), s.pair.takeover = some k ∧ k.step = 2 ∧ k.silent = false ∧ k.alarmed = false) ∧
    (∃ (s : State) (k : Takeover), s.pair.takeover = some k ∧ k.step = 3 ∧ 60000000 ≤ s.now - k.started) ∧
    (∃ (s : State) (k : Takeover), s.pair.takeover = some k ∧ k.step = 3 ∧ s.now - k.started < 60000000 ∧ k.open_ = []) ∧
    (∃ (s : State) (id : Nat) (p : Nat) (m : Nat) (c : MCmd), outstanding s id = some c ∧ c.purp = .takeover p m) ∧
    (∃ (s : State) (id : Nat) (k : Takeover), outstanding s id = none ∧ s.pair.takeover = some k ∧ k.step = 6 ∧ ((∀ p ∈ k.pools, takeoverBusy s p = false))) ∧
    (∃ (s : State) (id : Nat) (k : Takeover), outstanding s id = none ∧ s.pair.takeover = some k ∧ k.step = 9 ∧ ((∀ p ∈ k.pools, takeoverBusy s p = false))) ∧
    (∃ (s : State) (p : Nat), p < 8 ∧ roleOf s p = Role.owner ∧ s.pair.joined = true ∧ poolState s p = 1 ∧ hvStep s p = 0) ∧
    (∃ (s : State) (p : Nat), p < 8 ∧ roleOf s p ≠ Role.owner) ∧
    (∃ (s : State) (p : Nat), p < 8 ∧ roleOf s p = Role.partner ∧ s.pair.joined = true ∧ hvStep s p = 0 ∧ s.pair.takeover = none) ∧
    (∃ (s : State) (p : Nat) (ckpt : Nat), p < 8 ∧ hvStep s p = 5 ∧ ckpt ≠ 0) := by
  refine ⟨?_, ?_, ?_, ?_, ?_, ?_, ?_, ?_, ?_, ?_, ?_, ?_, ?_, ?_, ?_⟩
  · exact ⟨wr (modPair (modPair (State.reset) (fun x => { x with takeover := none })) (fun x => { x with enabled := true })) Obj.PAIR_POOL_ROLE 7 3, by decide +kernel⟩
  · exact ⟨modPair State.reset (fun x => { x with takeover := some take0 }), by decide +kernel⟩
  · exact ⟨modPair (State.reset) (fun x => { x with takeover := some { take0 with step := 2 } }), { take0 with step := 2 }, by decide +kernel⟩
  · exact ⟨modPair (State.reset) (fun x => { x with takeover := none }), by decide +kernel⟩
  · exact ⟨modPair (State.reset) (fun x => { x with takeover := some { take0 with step := 2, silent := true } }), { take0 with step := 2, silent := true }, by decide +kernel⟩
  · exact ⟨modPair (State.reset) (fun x => { x with takeover := some { take0 with step := 2, silent := false, alarmed := false } }), { take0 with step := 2, silent := false, alarmed := false }, by decide +kernel⟩
  · exact ⟨(fun s : State => { s with now := 60000000 }) (modPair (State.reset) (fun x => { x with takeover := some { take0 with step := 3 } })), { take0 with step := 3 }, by decide +kernel⟩
  · exact ⟨modPair (State.reset) (fun x => { x with takeover := some { take0 with step := 3, open_ := [] } }), { take0 with step := 3, open_ := [] }, by decide +kernel⟩
  · exact ⟨setMCmd (State.reset) 0 { mcmd0 with purp := .takeover 0 0 }, 0, 0, 0, { mcmd0 with purp := .takeover 0 0 }, by decide +kernel⟩
  · exact ⟨modPair (State.reset) (fun x => { x with takeover := some { take0 with step := 6 } }), 0, { take0 with step := 6 }, by decide +kernel⟩
  · exact ⟨modPair (State.reset) (fun x => { x with takeover := some { take0 with step := 9 } }), 0, { take0 with step := 9 }, by decide +kernel⟩
  · exact ⟨wr (modPair (wr (State.reset) Obj.PAIR_POOL_ROLE 7 ((Role.owner : Nat) : Int)) (fun x => { x with joined := true })) Obj.POOL_STATE 7 ((1 : Nat) : Int), 7, by decide +kernel⟩
  · exact ⟨State.reset, 7, by decide +kernel⟩
  · exact ⟨modPair (modPair (wr (State.reset) Obj.PAIR_POOL_ROLE 7 ((Role.partner : Nat) : Int)) (fun x => { x with joined := true })) (fun x => { x with takeover := none }), 7, by decide +kernel⟩
  · exact ⟨setHv (State.reset) 7 5, 7, 1, by decide +kernel⟩

theorem test_hypotheses_ComparedDestage :
    (∃ (s : State) (p : Nat) (n : Nat), p < 8 ∧ slotOf s (mirrorSlot n) = none) ∧
    (∃ (s : State) (p : Nat) (id : Nat) (n : Nat) (x : Slot), p < 8 ∧ slotOf s (mirrorSlot n) = some x ∧ Tbl.get s.pair.digests (digestKey p id) = none) ∧
    (∃ (s : State) (p : Nat) (id : Nat) (w : Nat) (d : DigestRec), p < 8 ∧ Tbl.get s.pair.digests (digestKey p id) = some d ∧ d.done = false ∧ d.partner = none ∧ servesPool s p = true ∧ w = d.owner) ∧
    (∃ (s : State) (p : Nat) (id : Nat) (w : Nat) (d : DigestRec), p < 8 ∧ Tbl.get s.pair.digests (digestKey p id) = some d ∧ d.done = false ∧ d.partner = none ∧ servesPool s p = true ∧ w ≠ d.owner) ∧
    (∃ (s : State) (p : Nat) (id : Nat) (d : DigestRec), p < 8 ∧ Tbl.get s.pair.digests (digestKey p id) = some d ∧ d.done = false ∧ d.partner = none ∧ servesPool s p = true) := by
  refine ⟨?_, ?_, ?_, ?_, ?_⟩
  · exact ⟨State.reset, 7, 0, by decide +kernel⟩
  · exact ⟨(fun s : State => { s with prot := [(mirrorSlot 0, { slot0 with st := .mirror })] }) State.reset, 7, 0, 0, { slot0 with st := .mirror }, by decide +kernel⟩
  · exact ⟨wr ((fun s : State => { s with pair := { s.pair with digests := Tbl.set s.pair.digests (digestKey 7 0) { dig0 with done := false, partner := none } } }) (State.reset)) Obj.PAIR_POOL_ROLE 7 2, 7, 0, 0, { dig0 with done := false, partner := none }, by decide +kernel⟩
  · exact ⟨wr ((fun s : State => { s with pair := { s.pair with digests := Tbl.set s.pair.digests (digestKey 7 0) { dig0 with done := false, partner := none } } }) (State.reset)) Obj.PAIR_POOL_ROLE 7 2, 7, 0, 1, { dig0 with done := false, partner := none }, by decide +kernel⟩
  · exact ⟨wr ((fun s : State => { s with pair := { s.pair with digests := Tbl.set s.pair.digests (digestKey 7 0) { dig0 with done := false, partner := none } } }) (State.reset)) Obj.PAIR_POOL_ROLE 7 2, 7, 0, { dig0 with done := false, partner := none }, by decide +kernel⟩

theorem test_hypotheses_CulvertLink :
    (∃ (s : State) (b : Bytes), flitOk b = false ∧ s.pair.link.naked ≠ some s.pair.link.expect) ∧
    (∃ (s : State) (b : Bytes), flitOk b = true ∧ (flitHdr b).kind = 1 ∧ (flitHdr b).ackValid = false ∧ (flitHdr b).nak = false ∧ s.pair.link.queue = [] ∧ (flitHdr b).seq = s.pair.link.expect ∧ (flitHdr b).index + 1 ≠ (flitHdr b).count) ∧
    (∃ (s : State) (b : Bytes), flitOk b = true ∧ (flitHdr b).kind = 1 ∧ (flitHdr b).ackValid = false ∧ (flitHdr b).nak = false ∧ s.pair.link.queue = [] ∧ (flitHdr b).seq ≠ s.pair.link.expect) ∧
    (∃ (s : State), culvertUp s = true) ∧
    (∃ (s : State) (b : Nat), b < 3 ∧ rdN s Obj.CULVERT_STATE 0 = 0) ∧
    (∃ (s : State) (b : Nat), b < 3 ∧ rdN s Obj.CULVERT_STATE 0 ≠ 0) ∧
    (∃ (s : State) (b : Nat), b < 3 ∧ rdN s Obj.BUNDLE_STATE b = 2) := by
  refine ⟨?_, ?_, ?_, ?_, ?_, ?_, ?_⟩
  · exact ⟨State.reset, [], by decide +kernel⟩
  · exact ⟨State.reset, flitOf 0 0 1, by decide +kernel⟩
  · exact ⟨State.reset, flitOf 4095 0 1, by decide +kernel⟩
  · exact ⟨wr (State.reset) Obj.CULVERT_STATE 0 2, by decide +kernel⟩
  · exact ⟨wr (State.reset) Obj.CULVERT_STATE 0 ((0 : Nat) : Int), 2, by decide +kernel⟩
  · exact ⟨wr (State.reset) Obj.CULVERT_STATE 0 1, 2, by decide +kernel⟩
  · exact ⟨wr (State.reset) Obj.BUNDLE_STATE 2 ((2 : Nat) : Int), 2, by decide +kernel⟩

theorem test_hypotheses_DictionaryRequests :
    (∃ (s : State) (n : Nat) (x : Session) (req : Bytes), n < 1040 ∧ sessOf s n = some x ∧ x.fresh = false ∧ s.dict.paced = [] ∧ (reqHead req).op = Dq.nop ∧ headCode req 65536 = Rs.ok ∧ (reqHead req).seq = rdN s Obj.NEXT_REQ_SEQ n) ∧
    (∃ (s : State) (n : Nat) (x : Session) (req : Bytes) (r : Bytes), n < 1040 ∧ sessOf s n = some x ∧ x.fresh = false ∧ s.dict.paced = [] ∧ (reqHead req).op = Dq.nop ∧ (reqHead req).seq ≠ rdN s Obj.NEXT_REQ_SEQ n ∧ (reqHead req).seq = (rdN s Obj.NEXT_REQ_SEQ n + 65535) % 65536 ∧ x.cached = some r) ∧
    (∃ (s : State) (n : Nat) (x : Session) (req : Bytes), n < 1040 ∧ sessOf s n = some x ∧ x.fresh = false ∧ s.dict.paced = [] ∧ (reqHead req).op = Dq.nop ∧ (reqHead req).seq ≠ rdN s Obj.NEXT_REQ_SEQ n ∧ (reqHead req).seq ≠ (rdN s Obj.NEXT_REQ_SEQ n + 65535) % 65536) ∧
    (∃ (s : State) (n : Nat) (x : Session) (req : Bytes), 2 ≤ n ∧ n < 14 ∧ sessOf s n = some x ∧ x.fresh = false ∧ s.dict.paced = [] ∧ (reqHead req).op = Dq.write ∧ headCode req 1024 = Rs.ok ∧ (reqHead req).seq = rdN s Obj.NEXT_REQ_SEQ n ∧ rdB s Obj.OOB_WRITE_ENABLED 0 = false) ∧
    (∃ (s : State) (req : Bytes), s.dict.paced = [] ∧ (reqHead req).op = Dq.write ∧ headCode req 1024 = Rs.ok) ∧
    (∃ (s : State) (req : Bytes) (e : ReqEntry) (o : ObjDesc), s.dict.paced = [] ∧ (reqHead req).op = Dq.read ∧ headCode req 1024 = Rs.ok ∧ entriesOf req = [e] ∧ targetOf e = some (.obj o) ∧ o.health = true ∧ o.acc ≠ .wo ∧ e.staged = false ∧ isFetch o = false ∧ readCode s none e (.obj o) = Rs.ok ∧ e.len ≤ 1000) ∧
    (∃ (s : State) (n : Nat) (x : Session) (req : Bytes) (e : ReqEntry) (o : ObjDesc), n < 2 ∧ sessOf s n = some x ∧ x.fresh = false ∧ s.dict.paced = [] ∧ (reqHead req).op = Dq.write ∧ headCode req 65536 = Rs.ok ∧ (reqHead req).seq = rdN s Obj.NEXT_REQ_SEQ n ∧ entriesOf req = [e] ∧ targetOf e = some (.obj o) ∧ o.acc = .ro) ∧
    (∃ (s : State) (n : Nat) (x : Session) (req : Bytes), n < 2 ∧ sessOf s n = some x ∧ x.fresh = false ∧ s.dict.paced = [] ∧ (reqHead req).op = Dq.write ∧ (reqHead req).seq = rdN s Obj.NEXT_REQ_SEQ n ∧ changesPersistent req = false ∧ (checkReq (modSess (wr (modSess s n (fun y => { y with last := s.now })) Obj.NEXT_REQ_SEQ n (((reqHead req).seq + 1) % 65536 : Nat)) n (fun y => { y with fresh := false })) (some n) (fun _ => true) req).1 = Rs.ok) ∧
    (∃ (s : State), s.dict.paced = []) ∧
    (∃ (s : State) (x : Paced) (l : List Paced), s.dict.paced = x :: l) ∧
    (∃ (s : State) (n : Nat) (x : Session), sessOf s n = some x) := by
  refine ⟨?_, ?_, ?_, ?_, ?_, ?_, ?_, ?_, ?_, ?_, ?_⟩
  · exact ⟨(fun s : State => { s with dict := { s.dict with sessions := [(1039, sess0)] } }) State.reset, 1039, { sess0 with fresh := false }, nopReq 0, by decide +kernel⟩
  · exact ⟨(fun s : State => { s with dict := { s.dict with sessions := [(1039, { sess0 with cached := some [1] })] } }) State.reset, 1039, { sess0 with cached := some [1] }, nopReq 65535, [1], by decide +kernel⟩
  · exact ⟨(fun s : State => { s with dict := { s.dict with sessions := [(1039, sess0)] } }) State.reset, 1039, { sess0 with fresh := false }, nopReq 5, by decide +kernel⟩
  · exact ⟨wrB ((fun s : State => { s with dict := { s.dict with sessions := [(13, sess0)] } }) State.reset) Obj.OOB_WRITE_ENABLED 0 false, 13, { sess0 with fresh := false }, writeReq 0x1001 6 [1], by decide +kernel⟩
  · exact ⟨(fun s : State => { s with dict := { s.dict with paced := [] } }) (State.reset), writeReq 0x1001 6 [1], by decide +kernel⟩
  · exact ⟨(fun s : State => { s with dict := { s.dict with paced := [] } }) (State.reset), readReq 0x1001 6 1, ((entriesOf (readReq 0x1001 6 1)).headD req0), Obj.STARTUP_STEP, by decide +kernel⟩
  · exact ⟨(fun s : State => { s with dict := { s.dict with sessions := [(1, sess0)] } }) State.reset, 1, { sess0 with fresh := false }, writeReq 0x1001 6 [1], ((entriesOf (writeReq 0x1001 6 [1])).headD req0), Obj.STARTUP_STEP, by decide +kernel⟩
  · exact ⟨(fun s : State => { s with dict := { s.dict with sessions := [(1, sess0)] } }) State.reset, 1, { sess0 with fresh := false }, writeReq 0x5030 2 [1], by decide +kernel⟩
  · exact ⟨(fun s : State => { s with dict := { s.dict with paced := [] } }) (State.reset), by decide +kernel⟩
  · exact ⟨(fun s : State => { s with dict := { s.dict with paced := paced0 :: [] } }) (State.reset), paced0, [], by decide +kernel⟩
  · exact ⟨(fun s : State => { s with dict := { s.dict with sessions := [(0, sess0)] } }) (State.reset), 0, sess0, by decide +kernel⟩

theorem test_hypotheses_DictionaryCommandsAndRegisterWrites :
    (∃ (s : State) (q : Nat) (tag : Nat) (c : Cmd) (d : Desc), startable s q tag 0x40 = some c ∧ c.descs[0]? = some d) ∧
    (∃ (s : State) (q : Nat) (tag : Nat) (c : Cmd) (d : Desc), startable s q tag 0x41 = some c ∧ c.descs[0]? = some d) ∧
    (∃ (s : State), ((∀ p, p < 8 → poolState s p = Ps.notConfigured ∨ poolState s p = Ps.offline))) ∧
    (∃ (s : State) (p : Nat), p < 8 ∧ poolState s p ≠ Ps.notConfigured ∧ poolState s p ≠ Ps.offline) ∧
    (∃ (s : State) (index : Nat) (inst : Nat) (sub : Nat) (o : ObjDesc) (v : Int), findObj index sub = some o ∧ o.instanceOk inst = true ∧ o.ty.width ≠ 0 ∧ fitsType o.ty v = true ∧ checkWrite s o inst (.num v) = Rs.ok ∧ o.persistent = false) ∧
    (∃ (s : State) (index : Nat) (inst : Nat) (sub : Nat) (o : ObjDesc) (v : Int), findObj index sub = some o ∧ checkWrite s o inst (.num v) ≠ Rs.ok) ∧
    (∃ (s : State) (index : Nat) (inst : Nat) (sub : Nat) (o : ObjDesc) (b : Bytes), findObj index sub = some o ∧ o.instanceOk inst = true ∧ o.ty.width = 0 ∧ b.length ≤ o.ty.most ∧ b.length % o.rng.rowWidth = 0 ∧ checkWrite s o inst (.bytes b) = Rs.ok ∧ o.persistent = false) ∧
    (∃ (s : State) (f : Nat) (data : Bytes), f ≤ 1025 ∧ data ≠ [] ∧ memOpen s f = false) ∧
    (∃ (s : State) (f : Nat) (bar : Nat) (off : Nat) (data : Bytes), f ≤ 1025 ∧ data ≠ [] ∧ memOpen s f = true ∧ straddles f bar off data.length = true) ∧
    (∃ (s : State) (f : Nat) (off : Nat) (data : Bytes), f ≤ 1025 ∧ memOpen s f = true ∧ straddles f 2 off data.length = false ∧ data ≠ [] ∧ off % 256 + data.length ≤ 256) ∧
    (∃ (s : State) (f : Nat) (bar : Nat) (off : Nat) (len : Nat), f ≤ 1025 ∧ 0 < len ∧ memOpen s f = true ∧ straddles f bar off len = false) ∧
    (∃ (s : State) (f : Nat), rdB s Obj.FUNC_PRESENT f = true ∧ rdB s Obj.FUNC_IN_RESET f = false) ∧
    (∃ (s : State) (f : Nat), rdB s Obj.FUNC_IN_RESET f = true) := by
  refine ⟨?_, ?_, ?_, ?_, ?_, ?_, ?_, ?_, ?_, ?_, ?_, ?_, ?_⟩
  · exact ⟨withCmd State.reset 0 { cmd0 with opcode := 0x40, descs := [desc0] }, 0, 0, { cmd0 with opcode := 0x40, descs := [desc0] }, desc0, by decide +kernel⟩
  · exact ⟨withCmd State.reset 0 { cmd0 with opcode := 0x41, descs := [desc0] }, 0, 0, { cmd0 with opcode := 0x41, descs := [desc0] }, desc0, by decide +kernel⟩
  · exact ⟨State.reset, by decide +kernel⟩
  · exact ⟨wr State.reset Obj.POOL_STATE 7 1, 7, by decide +kernel⟩
  · exact ⟨State.reset, Obj.CACHE_MAINT_SLBA.index, 0, Obj.CACHE_MAINT_SLBA.sub, Obj.CACHE_MAINT_SLBA, 8, by decide +kernel⟩
  · exact ⟨State.reset, 0x1001, 0, 6, Obj.STARTUP_STEP, 8, by decide +kernel⟩
  · exact ⟨fwSlot1, 0x5012, 0, 1, Obj.FW_SLOT_DATA, zeros 65536, by decide +kernel, by decide +kernel, by decide +kernel, (zeros_length _).le, by rw [zeros_length]; decide +kernel, fwChunk_writable _ (zeros_length _), by decide +kernel⟩
  · exact ⟨State.reset, 1025, [1], by decide +kernel⟩
  · exact ⟨modFn (wrB State.reset Obj.FUNC_PRESENT 0 true) 0 (fun x => { x with mse := true }), 0, 2, 511, [1, 2], by decide +kernel⟩
  · exact ⟨modFn (wrB State.reset Obj.FUNC_PRESENT 1025 true) 1025 (fun x => { x with mse := true }), 1025, 255, [1], by decide +kernel⟩
  · exact ⟨modFn (wrB State.reset Obj.FUNC_PRESENT 1025 true) 1025 (fun x => { x with mse := true }), 1025, 2, 0, 4, by decide +kernel⟩
  · exact ⟨wrB (wrB (State.reset) Obj.FUNC_PRESENT 0 true) Obj.FUNC_IN_RESET 0 false, 0, by decide +kernel⟩
  · exact ⟨wrB (State.reset) Obj.FUNC_IN_RESET 0 true, 0, by decide +kernel⟩

theorem test_hypotheses_ManagementTransports :
    (∃ (s : State) (op : Nat) (eid : Nat), mctpUp s = true ∧ op < 2 ∧ 8 ≤ eid ∧ eid < 255) ∧
    (∃ (s : State) (op : Nat) (eid : Nat), mctpUp s = true ∧ (op % 4 ≥ 2 ∨ eid < 8 ∨ 255 ≤ eid)) ∧
    (∃ (s : State), mctpUp s = true) ∧
    (∃ (s : State), mctpUp s = true) ∧
    (∃ (s : State), mctpUp s = true) ∧
    (∃ (s : State), mctpUp s = true) ∧
    (∃ (s : State) (pkt : McPacket) (body : Bytes), mctpUp s = true ∧ pkt.som = true ∧ pkt.eom = true ∧ pkt.pec ≠ some false ∧ pkt.data = leBytes 1 0x7E ++ vendorHead ++ body ∧ pkt.data.length ≤ 64) ∧
    (∃ (s : State) (pkt : McPacket), (pkt.pec = some false ∨ 64 < pkt.data.length ∨ mctpUp s = false)) ∧
    (∃ (s : State) (pkt : McPacket) (x : McAsm), mctpUp s = true ∧ pkt.som = false ∧ pkt.pec ≠ some false ∧ pkt.data.length ≤ 64 ∧ Tbl.get s.mgmt.asm (16 * pkt.src + pkt.tag % 16) = some x ∧ pkt.seq % 4 ≠ x.seq) ∧
    (∃ (s : State) (b : Bytes), ethUp s = true ∧ b.length ≤ 1468) ∧
    (∃ (s : State) (port : Nat) (b : Bytes), (ethUp s = false ∨ port ≠ rdN s Obj.UDP_PORT 0 ∨ 1472 < b.length)) ∧
    (∃ (s : State), ethUp s = true ∧ ipv4 s ≠ 0) ∧
    (∃ (s : State), ethUp s = true ∧ ipv4 s ≠ 0) ∧
    (∃ (s : State), ethUp s = true ∧ rdB s Obj.ETH_DHCP 0 = true) ∧
    (∃ (s : State), ethUp s = false) ∧
    (∃ (s : State) (addr : Nat), mctpUp s = true ∧ 8 ≤ addr ∧ addr ≤ 0x77) := by
  refine ⟨?_, ?_, ?_, ?_, ?_, ?_, ?_, ?_, ?_, ?_, ?_, ?_, ?_, ?_, ?_, ?_⟩
  · exact ⟨wrB (wrB (wr (State.reset) Obj.STARTUP_STEP 0 11) Obj.I3C_ENABLE 0 true) Obj.ETH_ENABLE 0 true, 1, 254, by decide +kernel⟩
  · exact ⟨wrB (wrB (wr (State.reset) Obj.STARTUP_STEP 0 11) Obj.I3C_ENABLE 0 true) Obj.ETH_ENABLE 0 true, 0, 0, by decide +kernel⟩
  · exact ⟨wrB (wrB (wr (State.reset) Obj.STARTUP_STEP 0 11) Obj.I3C_ENABLE 0 true) Obj.ETH_ENABLE 0 true, by decide +kernel⟩
  · exact ⟨wrB (wrB (wr (State.reset) Obj.STARTUP_STEP 0 11) Obj.I3C_ENABLE 0 true) Obj.ETH_ENABLE 0 true, by decide +kernel⟩
  · exact ⟨wrB (wrB (wr (State.reset) Obj.STARTUP_STEP 0 11) Obj.I3C_ENABLE 0 true) Obj.ETH_ENABLE 0 true, by decide +kernel⟩
  · exact ⟨wrB (wrB (wr (State.reset) Obj.STARTUP_STEP 0 11) Obj.I3C_ENABLE 0 true) Obj.ETH_ENABLE 0 true, by decide +kernel⟩
  · exact ⟨wrB (wrB (wr (State.reset) Obj.STARTUP_STEP 0 11) Obj.I3C_ENABLE 0 true) Obj.ETH_ENABLE 0 true, { pkt0 with data := leBytes 1 0x7E ++ vendorHead ++ [] }, [], by decide +kernel, rfl, rfl, by decide, rfl, by decide +kernel⟩
  · exact ⟨State.reset, { pkt0 with pec := some false }, by decide +kernel⟩
  · exact ⟨(fun s : State => { s with mgmt := { s.mgmt with asm := [(0, { ty := 0, seq := 1, data := [] })] } }) (wrB (wr State.reset Obj.STARTUP_STEP 0 11) Obj.I3C_ENABLE 0 true), { pkt0 with som := false }, { ty := 0, seq := 1, data := [] }, by decide +kernel⟩
  · exact ⟨wrB (wrB (wr (State.reset) Obj.STARTUP_STEP 0 11) Obj.I3C_ENABLE 0 true) Obj.ETH_ENABLE 0 true, [], by decide +kernel⟩
  · exact ⟨State.reset, 0, [], by decide +kernel⟩
  · exact ⟨wr (wrB (wrB (wrB (wr (State.reset) Obj.STARTUP_STEP 0 11) Obj.I3C_ENABLE 0 true) Obj.ETH_ENABLE 0 true) Obj.ETH_DHCP 0 false) Obj.ETH_IPV4_ADDR 0 1, by decide +kernel⟩
  · exact ⟨wr (wrB (wrB (wrB (wr (State.reset) Obj.STARTUP_STEP 0 11) Obj.I3C_ENABLE 0 true) Obj.ETH_ENABLE 0 true) Obj.ETH_DHCP 0 false) Obj.ETH_IPV4_ADDR 0 1, by decide +kernel⟩
  · exact ⟨wrB (wrB (wrB (wr (State.reset) Obj.STARTUP_STEP 0 11) Obj.I3C_ENABLE 0 true) Obj.ETH_ENABLE 0 true) Obj.ETH_DHCP 0 true, by decide +kernel⟩
  · exact ⟨State.reset, by decide +kernel⟩
  · exact ⟨wrB (wrB (wr (State.reset) Obj.STARTUP_STEP 0 11) Obj.I3C_ENABLE 0 true) Obj.ETH_ENABLE 0 true, 8, by decide +kernel⟩

theorem test_hypotheses_SpdmSessions :
    (∃ (s : State) (udp : Bool) (peer : Nat) (n : Nat), transportUp s udp = true ∧ rdBytes s Obj.SPDM_REQUESTER_ANCHOR 0 ≠ [] ∧ newSession s udp peer = some n) ∧
    (∃ (s : State) (udp : Bool) (ok : Bool), transportUp s udp = true ∧ (rdBytes s Obj.SPDM_REQUESTER_ANCHOR 0 = [] ∨ ok = false)) ∧
    (∃ (s : State) (udp : Bool) (peer : Nat), transportUp s udp = true ∧ rdBytes s Obj.SPDM_REQUESTER_ANCHOR 0 ≠ [] ∧ newSession s udp peer = none) ∧
    (∃ (s : State) (n : Nat), n < 14 ∧ s.mgmt.shaking.contains n = true ∧ transportUp s (decide (n ≥ 6)) = true) ∧
    (∃ (s : State) (n : Nat), s.mgmt.shaking.contains n = true ∧ transportUp s (decide (n ≥ 6)) = true) ∧
    (∃ (s : State) (n : Nat), 2 ≤ n ∧ n < 14 ∧ sessionOpen s n = true ∧ transportUp s (decide (n ≥ 6)) = true) ∧
    (∃ (s : State) (n : Nat), 2 ≤ n ∧ n < 14 ∧ sessionTaken s n = true) ∧
    (∃ (s : State) (udp : Bool) (i : Nat), transportUp s udp = true ∧ 1 ≤ i ∧ i ≤ 4) ∧
    (∃ (s : State) (udp : Bool) (i : Nat), transportUp s udp = true ∧ 5 ≤ i ∧ i < 255) ∧
    (∃ (s : State) (udp : Bool) (code : Nat), transportUp s udp = true ∧ spdmCodes.contains code = true ∧ code ≠ 0xE1 ∧ code ≠ 0xE3) ∧
    (∃ (s : State) (udp : Bool), transportUp s udp = true) ∧
    (∃ (s : State) (udp : Bool) (code : Nat), transportUp s udp = true ∧ spdmCodes.contains code = false ∧ spdmOwn.contains code = false) := by
  refine ⟨?_, ?_, ?_, ?_, ?_, ?_, ?_, ?_, ?_, ?_, ?_, ?_⟩
  · exact ⟨wrBytes (wrB (wrB (wr State.reset Obj.STARTUP_STEP 0 11) Obj.I3C_ENABLE 0 true) Obj.ETH_ENABLE 0 true) Obj.SPDM_REQUESTER_ANCHOR 0 [1], true, 3, 6, by decide +kernel⟩
  · exact ⟨wrB (wrB (wr (State.reset) Obj.STARTUP_STEP 0 11) Obj.I3C_ENABLE 0 true) Obj.ETH_ENABLE 0 true, false, false, by decide +kernel⟩
  · exact ⟨modMgmt (wrBytes (wrB (wrB (wr State.reset Obj.STARTUP_STEP 0 11) Obj.I3C_ENABLE 0 true) Obj.ETH_ENABLE 0 true) Obj.SPDM_REQUESTER_ANCHOR 0 [1]) (fun x => { x with shaking := List.range 16 }), true, 0, by decide +kernel⟩
  · exact ⟨modMgmt (wrB (wrB (wr State.reset Obj.STARTUP_STEP 0 11) Obj.I3C_ENABLE 0 true) Obj.ETH_ENABLE 0 true) (fun x => { x with shaking := [13] }), 13, by decide +kernel⟩
  · exact ⟨modMgmt (wrB (wrB (wr State.reset Obj.STARTUP_STEP 0 11) Obj.I3C_ENABLE 0 true) Obj.ETH_ENABLE 0 true) (fun x => { x with shaking := [13] }), 13, by decide +kernel⟩
  · exact ⟨(fun s : State => { s with dict := { s.dict with sessions := [(13, sess0)] } }) (wrB (wrB (wr State.reset Obj.STARTUP_STEP 0 11) Obj.I3C_ENABLE 0 true) Obj.ETH_ENABLE 0 true), 13, by decide +kernel⟩
  · exact ⟨modMgmt State.reset (fun x => { x with shaking := [13] }), 13, by decide +kernel⟩
  · exact ⟨wrB (wrB (wr (State.reset) Obj.STARTUP_STEP 0 11) Obj.I3C_ENABLE 0 true) Obj.ETH_ENABLE 0 true, false, 4, by decide +kernel⟩
  · exact ⟨wrB (wrB (wr (State.reset) Obj.STARTUP_STEP 0 11) Obj.I3C_ENABLE 0 true) Obj.ETH_ENABLE 0 true, false, 254, by decide +kernel⟩
  · exact ⟨wrB (wrB (wr State.reset Obj.STARTUP_STEP 0 11) Obj.I3C_ENABLE 0 true) Obj.ETH_ENABLE 0 true, true, 0xEB, by decide +kernel⟩
  · exact ⟨wrB (wrB (wr (State.reset) Obj.STARTUP_STEP 0 11) Obj.I3C_ENABLE 0 true) Obj.ETH_ENABLE 0 true, false, by decide +kernel⟩
  · exact ⟨wrB (wrB (wr (State.reset) Obj.STARTUP_STEP 0 11) Obj.I3C_ENABLE 0 true) Obj.ETH_ENABLE 0 true, false, 0, by decide +kernel⟩

theorem test_hypotheses_EventsAndCounters :
    (∃ (s : State) (k : EvKey) (w : EvWindow), windowOf s k = some w) ∧
    (∃ (s : State) (k : EvKey), windowOf s k = none) ∧
    (∃ (s : State) (p : Nat), p < 18 ∧ rdB s Obj.PATH_SHEDDING p = true) ∧
    (∃ (s : State) (p : Nat), rdB s Obj.PATH_SHEDDING p = false) ∧
    (∃ (s : State) (f : Nat), f < 2 ∧ ringChecks s f = true) ∧
    (∃ (s : State) (f : Nat), f < 2 ∧ ringChecks s f = false) ∧
    (∃ (f : Nat), f < 2) ∧
    (∃ (s : State) (f : Nat) (g : EvRing), Tbl.get s.ev.rings f = some g ∧ g.unsignalled ≠ 0 ∧ ringLive s f = true) ∧
    (∃ (n : Nat) (v : Nat), n < 14 ∧ v ≤ 4) ∧
    (∃ (n : Nat), n < 14) ∧
    (∃ (s : State) (n : Nat) (q : List EvRec), Tbl.get s.ev.subs n = some q) ∧
    (∃ (n : Nat), n < 14) ∧
    (∃ (n : Nat), n < 14) ∧
    (∃ (s : State) (m : Nat), m < 8 ∧ rdN s Obj.COUNTER_CLEARS 0 < 2 ^ 64 - 1) ∧
    (∃ (m : Nat), 8 ≤ m) := by
  refine ⟨?_, ?_, ?_, ?_, ?_, ?_, ?_, ?_, ?_, ?_, ?_, ?_, ?_, ?_, ?_⟩
  · exact ⟨(fun s : State => { s with ev := { s.ev with windows := [win0] } }) State.reset, key0, win0, by decide +kernel⟩
  · exact ⟨State.reset, key0, by decide +kernel⟩
  · exact ⟨wrB (State.reset) Obj.PATH_SHEDDING 17 true, 17, by decide +kernel⟩
  · exact ⟨wrB (State.reset) Obj.PATH_SHEDDING 0 false, 0, by decide +kernel⟩
  · exact ⟨wr (wr State.reset Obj.EVENT_RING_BASE 1 4096) Obj.EVENT_RING_SIZE 1 64, 1, by decide +kernel⟩
  · exact ⟨State.reset, 1, by decide +kernel⟩
  · exact ⟨1, by decide +kernel⟩
  · exact ⟨(fun s : State => { s with ev := { s.ev with rings := [(1, ring0)] } }) (wrB (wrB State.reset Obj.EVENT_RING_ENABLE 1 true) Obj.FUNC_BUS_MASTER 1 true), 1, { ring0 with unsignalled := 1 }, by decide +kernel⟩
  · exact ⟨13, 4, by decide +kernel⟩
  · exact ⟨13, by decide +kernel⟩
  · exact ⟨(fun s : State => { s with ev := { s.ev with subs := Tbl.set s.ev.subs 13 [] } }) (State.reset), 13, [], by decide +kernel⟩
  · exact ⟨13, by decide +kernel⟩
  · exact ⟨13, by decide +kernel⟩
  · exact ⟨State.reset, 7, by decide +kernel⟩
  · exact ⟨8, by decide +kernel⟩

theorem test_hypotheses_SanitizeAndFormat :
    (∃ (s : State) (q : Nat) (tag : Nat) (c : Cmd), startable s q tag 0x82 = some c) ∧
    (∃ (s : State) (q : Nat) (tag : Nat) (c : Cmd), startable s q tag 0x83 = some c) ∧
    (∃ (s : State) (q : Nat) (tag : Nat) (c : Cmd), startable s q tag 0x82 = some c ∧ bitAt c.flags 0 = false ∧ epochState s = Es.idle ∧ opRuns s c.volume = none) ∧
    (∃ (s : State) (q : Nat) (tag : Nat) (c : Cmd), startable s q tag 0x83 = some c ∧ bitAt c.flags 0 = false ∧ epochState s = Es.idle ∧ opRuns s c.volume = none) ∧
    (∃ (s : State) (q : Nat) (tag : Nat) (c : Cmd), startable s q tag 0x82 = some c ∧ bitAt c.flags 0 = true) ∧
    (∃ (s : State) (q : Nat) (tag : Nat) (c : Cmd) (o : VolOp), startable s q tag 0x83 = some c ∧ bitAt c.flags 0 = false ∧ epochState s = Es.idle ∧ opRuns s c.volume = some o ∧ o.kind ≠ 1) ∧
    (∃ (s : State) (v : Nat) (o : VolOp), opRuns s v = some o ∧ o.state = Op.phase1 ∧ o.step = 1 ∧ volBusy s v = false ∧ poolUp s o.pool = true ∧ epochState s = Es.idle ∧ wseqReady s 1 = true) ∧
    (∃ (s : State) (v : Nat) (o : VolOp) (r : LogRec), opRuns s v = some o ∧ r.copy = false ∧ r.body = .progress o.kind v 2 0 ∧ o.step = 2) ∧
    (∃ (s : State) (v : Nat) (o : VolOp) (r : LogRec) (l : Nat) (n : Nat) (q : Nat) (tag : Nat), opRuns s v = some o ∧ r.copy = false ∧ r.body = .dealloc v l n o.wseq q tag ∧ o.step = 3) ∧
    (∃ (s : State) (v : Nat) (o : VolOp) (r : LogRec), opRuns s v = some o ∧ r.copy = false ∧ r.body = .progress o.kind v 4 0 ∧ o.step = 4) ∧
    (∃ (s : State) (v : Nat) (o : VolOp) (r : LogRec), opRuns s v = some o ∧ r.copy = false ∧ r.body = .progress o.kind v 9 0 ∧ o.step = 9) ∧
    (∃ (s : State) (v : Nat) (o : VolOp), opRuns s v = some o ∧ o.state = Op.phase1 ∧ volBusy s v = true) ∧
    (∃ (s : State) (v : Nat) (o : VolOp), opRuns s v = some o ∧ o.state = Op.waitCistern ∧ o.step ≠ 9 ∧ s.power.imgA = none ∧ s.power.imgB = none) ∧
    (∃ (s : State) (v : Nat) (o : VolOp) (i : Image), opRuns s v = some o ∧ o.state = Op.waitCistern ∧ o.step ≠ 9 ∧ s.power.imgA = some i ∧ s.power.imgB = none ∧ i.num ≤ o.started ∧ rdB s Obj.CISTERN_IMAGE_HELD 0 = true) := by
  refine ⟨?_, ?_, ?_, ?_, ?_, ?_, ?_, ?_, ?_, ?_, ?_, ?_, ?_, ?_⟩
  · exact ⟨modQp (State.reset) 0 (fun x => { x with cmds := [{ cmd0 with opcode := 0x82 }] }), 0, 0, { cmd0 with opcode := 0x82 }, by decide +kernel⟩
  · exact ⟨modQp (State.reset) 0 (fun x => { x with cmds := [{ cmd0 with opcode := 0x83 }] }), 0, 0, { cmd0 with opcode := 0x83 }, by decide +kernel⟩
  · exact ⟨wr (modQp (State.reset) 0 (fun x => { x with cmds := [{ cmd0 with opcode := 0x82 }] })) Obj.EPOCH_STATE 0 ((Es.idle : Nat) : Int), 0, 0, { cmd0 with opcode := 0x82 }, by decide +kernel⟩
  · exact ⟨wr (modQp (State.reset) 0 (fun x => { x with cmds := [{ cmd0 with opcode := 0x83 }] })) Obj.EPOCH_STATE 0 ((Es.idle : Nat) : Int), 0, 0, { cmd0 with opcode := 0x83 }, by decide +kernel⟩
  · exact ⟨withCmd State.reset 0 { cmd0 with opcode := 0x82, flags := 1 }, 0, 0, { cmd0 with opcode := 0x82, flags := 1 }, by decide +kernel⟩
  · exact ⟨(fun s : State => { s with vols := [(4095, { Vol.empty with op := some { op0 with kind := 2 } })] }) (withCmd State.reset 0 { cmd0 with opcode := 0x83, volume := 4095 }), 0, 0, { cmd0 with opcode := 0x83, volume := 4095 }, { op0 with kind := 2 }, by decide +kernel⟩
  · exact ⟨(fun s : State => { s with vols := [(4095, { Vol.empty with op := some { op0 with kind := 1, pool := 7 } })] }) (floors0 (wr State.reset Obj.POOL_STATE 7 1)), 4095, { op0 with kind := 1, pool := 7 }, by decide +kernel⟩
  · exact ⟨(fun s : State => { s with vols := [(4095, { Vol.empty with op := some { op0 with step := 2 } })] }) (State.reset), 4095, { op0 with step := 2 }, { rec0 with body := .progress 1 4095 2 0 }, by decide +kernel⟩
  · exact ⟨(fun s : State => { s with vols := [(4095, { Vol.empty with op := some { op0 with step := 3 } })] }) (State.reset), 4095, { op0 with step := 3 }, { rec0 with body := .dealloc 4095 0 1 0 0 0 }, 0, 1, 0, 0, by decide +kernel⟩
  · exact ⟨(fun s : State => { s with vols := [(4095, { Vol.empty with op := some { op0 with step := 4 } })] }) (State.reset), 4095, { op0 with step := 4 }, { rec0 with body := .progress 1 4095 4 0 }, by decide +kernel⟩
  · exact ⟨(fun s : State => { s with vols := [(4095, { Vol.empty with op := some { op0 with step := 9 } })] }) (State.reset), 4095, { op0 with step := 9 }, { rec0 with body := .progress 1 4095 9 0 }, by decide +kernel⟩
  · exact ⟨(fun s : State => { s with vols := [(4095, { Vol.empty with op := some op0 })] }) (withCmd State.reset 0 { cmd0 with opcode := 1, volume := 4095 }), 4095, op0, by decide +kernel⟩
  · exact ⟨(fun s : State => { s with vols := [(4095, { Vol.empty with op := some { op0 with state := Op.waitCistern } })] }) (State.reset), 4095, { op0 with state := Op.waitCistern }, by decide +kernel⟩
  · exact ⟨wrB (modPower ((fun s : State => { s with vols := [(4095, { Vol.empty with op := some { op0 with state := Op.waitCistern } })] }) (State.reset)) (fun x => { x with imgA := some img0 })) Obj.CISTERN_IMAGE_HELD 0 true, 4095, { op0 with state := Op.waitCistern }, img0, by decide +kernel⟩

theorem test_hypotheses_KeyWindowActions :
    (∃ (s : State) (pf : Nat) (k : Nat), pf < 2 ∧ k < 4096 ∧ rdN s Obj.TAMPER_LATCH 0 = 0) ∧
    (∃ (s : State) (pf : Nat) (k : Nat), pf < 2 ∧ k < 4096 ∧ rdN s Obj.TAMPER_LATCH 0 = 0) ∧
    (∃ (s : State) (pf : Nat) (k : Nat), pf < 2 ∧ k < 4096 ∧ rdN s Obj.TAMPER_LATCH 0 = 0) ∧
    (∃ (s : State) (pf : Nat) (k : Nat), pf < 2 ∧ k < 4096 ∧ rdN s Obj.TAMPER_LATCH 0 ≠ 0) ∧
    (∃ (s : State) (pf : Nat) (k : Nat) (b : Bytes), pf < 2 ∧ k < 4096 ∧ rdN s Obj.TAMPER_LATCH 0 = 0 ∧ staged s pf = some b ∧ weakKey b = false ∧ keyState s k = Ks.empty) ∧
    (∃ (s : State) (pf : Nat) (g : Nat) (k : Nat) (b : Bytes), pf < 2 ∧ k < 4096 ∧ rdN s Obj.TAMPER_LATCH 0 = 0 ∧ staged s pf = some b ∧ weakKey b = false ∧ keyState s k = Ks.empty ∧ 1 ≤ g ∧ g ≤ 255) ∧
    (∃ (s : State) (pf : Nat) (k : Nat) (b : Bytes), pf < 2 ∧ k < 4096 ∧ rdN s Obj.TAMPER_LATCH 0 = 0 ∧ staged s pf = some b ∧ weakKey b = false ∧ keyState s k = Ks.current) ∧
    (∃ (s : State) (pf : Nat) (k : Nat) (b : Bytes), pf < 2 ∧ k < 4096 ∧ rdN s Obj.TAMPER_LATCH 0 = 0 ∧ staged s pf = some b ∧ weakKey b = false ∧ keyState s k = Ks.both) ∧
    (∃ (s : State) (pf : Nat) (k : Nat), pf < 2 ∧ k < 4096 ∧ rdN s Obj.TAMPER_LATCH 0 = 0 ∧ keyState s k = Ks.both ∧ prevSectors s k = 0) ∧
    (∃ (s : State) (pf : Nat) (k : Nat), pf < 2 ∧ k < 4096 ∧ rdN s Obj.TAMPER_LATCH 0 = 0 ∧ keyState s k = Ks.both ∧ prevSectors s k ≠ 0) ∧
    (∃ (s : State) (pf : Nat) (k : Nat), pf < 2 ∧ k < 4096 ∧ rdN s Obj.TAMPER_LATCH 0 = 0 ∧ keyState s k ≠ Ks.empty) ∧
    (∃ (s : State) (pf : Nat), pf < 2 ∧ rdN s Obj.TAMPER_LATCH 0 = 0) ∧
    (∃ (s : State) (pf : Nat) (off : Nat) (b : Bytes), pf < 2 ∧ rdN s Obj.TAMPER_LATCH 0 = 0 ∧ off % 4 = 0 ∧ b.length % 4 = 0 ∧ b ≠ [] ∧ off + b.length ≤ 96) ∧
    (∃ (s : State) (pf : Nat) (off : Nat) (b : Bytes), pf < 2 ∧ (rdN s Obj.TAMPER_LATCH 0 ≠ 0 ∨ off % 4 ≠ 0 ∨ b.length % 4 ≠ 0 ∨ 96 < off + b.length)) := by
  refine ⟨?_, ?_, ?_, ?_, ?_, ?_, ?_, ?_, ?_, ?_, ?_, ?_, ?_, ?_⟩
  · exact ⟨wr (State.reset) Obj.TAMPER_LATCH 0 ((0 : Nat) : Int), 1, 4095, by decide +kernel⟩
  · exact ⟨wr (State.reset) Obj.TAMPER_LATCH 0 ((0 : Nat) : Int), 1, 4095, by decide +kernel⟩
  · exact ⟨wr (State.reset) Obj.TAMPER_LATCH 0 ((0 : Nat) : Int), 1, 4095, by decide +kernel⟩
  · exact ⟨wr (State.reset) Obj.TAMPER_LATCH 0 1, 1, 4095, by decide +kernel⟩
  · exact ⟨keys0 1 (wr State.reset Obj.KEY_STATE 4095 ((Ks.empty : Nat) : Int)), 1, 4095, key96, by decide +kernel⟩
  · exact ⟨keys0 1 (wr State.reset Obj.KEY_STATE 4095 ((Ks.empty : Nat) : Int)), 1, 255, 4095, key96, by decide +kernel⟩
  · exact ⟨keys0 1 (wr State.reset Obj.KEY_STATE 4095 ((Ks.current : Nat) : Int)), 1, 4095, key96, by decide +kernel⟩
  · exact ⟨keys0 1 (wr State.reset Obj.KEY_STATE 4095 ((Ks.both : Nat) : Int)), 1, 4095, key96, by decide +kernel⟩
  · exact ⟨wr (wr (State.reset) Obj.TAMPER_LATCH 0 ((0 : Nat) : Int)) Obj.KEY_STATE 4095 ((Ks.both : Nat) : Int), 1, 4095, by decide +kernel⟩
  · exact ⟨(fun s : State => { s with prot := [(0, { slot0 with md := { Meta.zero with encrypted := true, keySlot := 4095, keyGen := 1 } })] }) (wr (wr State.reset Obj.KEY_STATE 4095 ((Ks.both : Nat) : Int)) Obj.KEY_GEN_PREVIOUS 4095 1), 1, 4095, by decide +kernel⟩
  · exact ⟨wr (wr (State.reset) Obj.TAMPER_LATCH 0 ((0 : Nat) : Int)) Obj.KEY_STATE 4095 ((Ks.current : Nat) : Int), 1, 4095, by decide +kernel⟩
  · exact ⟨wr (State.reset) Obj.TAMPER_LATCH 0 ((0 : Nat) : Int), 1, by decide +kernel⟩
  · exact ⟨wr (State.reset) Obj.TAMPER_LATCH 0 ((0 : Nat) : Int), 1, 92, [1, 2, 3, 4], by decide +kernel⟩
  · exact ⟨wr (State.reset) Obj.TAMPER_LATCH 0 1, 1, 0, [], by decide +kernel⟩

theorem test_hypotheses_TamperAndPipelines :
    (∃ (s : State), rdN s Obj.KEY_PERSIST 0 = 0) ∧
    (∃ (s : State), rdB s Obj.TAMPER_ENCLOSURE_ENABLE 0 = false) ∧
    (∃ (s : State), rdB s Obj.TAMPER_ENCLOSURE_ENABLE 0 = true) ∧
    (∃ (v : Nat) (q : Bool), (v ≠ 0x9640C1EA ∨ q = false)) ∧
    (∃ (s : State) (q : Nat), q < 4 ∧ rdN s Obj.PIPE_STATE q = 1) := by
  refine ⟨?_, ?_, ?_, ?_, ?_⟩
  · exact ⟨wr (State.reset) Obj.KEY_PERSIST 0 ((0 : Nat) : Int), by decide +kernel⟩
  · exact ⟨wrB (State.reset) Obj.TAMPER_ENCLOSURE_ENABLE 0 false, by decide +kernel⟩
  · exact ⟨wrB (State.reset) Obj.TAMPER_ENCLOSURE_ENABLE 0 true, by decide +kernel⟩
  · exact ⟨0, false, by decide +kernel⟩
  · exact ⟨wr (State.reset) Obj.PIPE_STATE 3 ((1 : Nat) : Int), 3, by decide +kernel⟩

theorem test_hypotheses_CacheMaintenanceStarts :
    (∃ (s : State), s.cache.maint = none ∧ volumeThere s (rdN s Obj.CACHE_MAINT_VOLUME 0) = true) ∧
    (∃ (s : State), s.cache.maint = none ∧ volumeThere s (rdN s Obj.CACHE_MAINT_VOLUME 0) = true) ∧
    (∃ (s : State), s.cache.maint = none ∧ volumeThere s (rdN s Obj.CACHE_MAINT_VOLUME 0) = false) ∧
    (∃ (s : State), s.cache.maint = none) ∧
    (∃ (s : State), s.cache.maint = none) ∧
    (∃ (s : State) (r : Nat), r < 64 ∧ s.cache.maint = none ∧ volumeThere s (rdN s Obj.LOCK_VOLUME r) = true) ∧
    (∃ (s : State) (r : Nat), r < 64 ∧ s.cache.maint = none ∧ volumeThere s (rdN s Obj.LOCK_VOLUME r) = false) ∧
    (∃ (s : State) (r : Nat), r < 64 ∧ s.cache.maint = none) ∧
    (∃ (s : State) (n : Nat), n ≤ 16 ∧ s.cache.maint = none ∧ n ≠ rdN s Obj.CACHE_WAYS_ENABLED 0) ∧
    (∃ (s : State) (n : Nat), n ≤ 16 ∧ s.cache.maint = none ∧ n ≠ rdN s Obj.CACHE_FRAME_WAYS 0) ∧
    (∃ (s : State) (sl : Nat) (mask : Nat), sl < 4 ∧ mask < 65536 ∧ s.cache.maint = none) ∧
    (∃ (s : State) (r : Nat) (n : Nat) (sl : Nat) (mask : Nat), r < 64 ∧ n ≤ 16 ∧ sl < 4 ∧ mask < 65536 ∧ s.cache.maint ≠ none) := by
  refine ⟨?_, ?_, ?_, ?_, ?_, ?_, ?_, ?_, ?_, ?_, ?_, ?_⟩
  · exact ⟨wr (wr (modVol State.reset 4095 (fun x => x)) Obj.VOLUME_STATE 4095 1) Obj.CACHE_MAINT_VOLUME 0 4095, by decide +kernel⟩
  · exact ⟨wr (wr (modVol State.reset 4095 (fun x => x)) Obj.VOLUME_STATE 4095 1) Obj.CACHE_MAINT_VOLUME 0 4095, by decide +kernel⟩
  · exact ⟨(fun s : State => { s with cache := { s.cache with maint := none } }) (State.reset), by decide +kernel⟩
  · exact ⟨(fun s : State => { s with cache := { s.cache with maint := none } }) (State.reset), by decide +kernel⟩
  · exact ⟨(fun s : State => { s with cache := { s.cache with maint := none } }) (State.reset), by decide +kernel⟩
  · exact ⟨wr (wr (modVol State.reset 4095 (fun x => x)) Obj.VOLUME_STATE 4095 1) Obj.LOCK_VOLUME 63 4095, 63, by decide +kernel⟩
  · exact ⟨(fun s : State => { s with cache := { s.cache with maint := none } }) (State.reset), 63, by decide +kernel⟩
  · exact ⟨(fun s : State => { s with cache := { s.cache with maint := none } }) (State.reset), 63, by decide +kernel⟩
  · exact ⟨(fun s : State => { s with cache := { s.cache with maint := none } }) (State.reset), 0, by decide +kernel⟩
  · exact ⟨(fun s : State => { s with cache := { s.cache with maint := none } }) (State.reset), 16, by decide +kernel⟩
  · exact ⟨(fun s : State => { s with cache := { s.cache with maint := none } }) (State.reset), 3, 65535, by decide +kernel⟩
  · exact ⟨withCache State.reset (fun x => { x with maint := some maint0 }), 63, 16, 3, 65535, by decide +kernel⟩

theorem test_hypotheses_CacheMaintenanceSteps :
    (∃ (s : State) (m : Maint), s.cache.maint = some m ∧ m.paused = false ∧ s.cache.failing = [] ∧ (m.op = 1 ∨ m.op = 2 ∨ m.op = 3) ∧ m.next + 1 < m.total) ∧
    (∃ (s : State) (m : Maint), s.cache.maint = some m ∧ m.paused = false ∧ s.cache.failing = [] ∧ s.cache.reload = [] ∧ (m.op = 1 ∨ m.op = 2 ∨ m.op = 3) ∧ m.total ≤ m.next + 1) ∧
    (∃ (s : State) (m : Maint), s.cache.maint = some m ∧ m.paused = false ∧ s.cache.failing = [] ∧ s.cache.reload = [] ∧ m.op = 4 ∧ m.total ≤ m.next + 1) ∧
    (∃ (s : State) (m : Maint), s.cache.maint = some m ∧ m.paused = false ∧ s.cache.failing = [] ∧ m.op = 4) ∧
    (∃ (s : State) (m : Maint), s.cache.maint = some m ∧ m.paused = true ∧ s.cache.failing = []) ∧
    (∃ (s : State) (m : Maint), s.cache.maint = some m ∧ m.paused = false ∧ s.cache.failing = [] ∧ m.op = 5 ∧ m.total ≤ m.next) ∧
    (∃ (s : State) (m : Maint), s.cache.maint = some m ∧ m.paused = false ∧ s.cache.failing = [] ∧ m.op = 6) ∧
    (∃ (s : State) (m : Maint) (sl : Nat) (w : Nat), sl < 4 ∧ w < 16 ∧ s.cache.maint = some m ∧ m.op = 7 ∧ m.tests.contains (16 * sl + w) = true) ∧
    (∃ (s : State) (m : Maint) (sl : Nat) (w : Nat), sl < 4 ∧ w < 16 ∧ s.cache.maint = some m ∧ m.op = 7 ∧ m.tests.contains (16 * sl + w) = true) ∧
    (∃ (s : State) (sl : Nat) (w : Nat), sl < 4 ∧ w < 16 ∧ s.cache.maint = none) ∧
    (∃ (s : State) (sl : Nat) (w : Nat), sl < 4 ∧ w < 16 ∧ s.cache.maint ≠ none) ∧
    (∃ (s : State) (x : Fill), s.cache.fills.find? (fun y => y.frame == x.frame) = some x ∧ s.cache.maint = none ∧ sameVersion s x.vol x.lba x.md = true) ∧
    (∃ (s : State) (x : Fill), s.cache.fills.find? (fun y => y.frame == x.frame) = some x ∧ sameVersion s x.vol x.lba x.md = false ∧ (frameAt s x.frame).locked = false) := by
  refine ⟨?_, ?_, ?_, ?_, ?_, ?_, ?_, ?_, ?_, ?_, ?_, ?_, ?_⟩
  · exact ⟨(fun s : State => { s with cache := { s.cache with failing := [] } }) ((fun s : State => { s with cache := { s.cache with maint := some { maint0 with next := 510 } } }) (State.reset)), { maint0 with next := 510 }, by decide +kernel⟩
  · exact ⟨(fun s : State => { s with cache := { s.cache with reload := [] } }) ((fun s : State => { s with cache := { s.cache with failing := [] } }) ((fun s : State => { s with cache := { s.cache with maint := some { maint0 with next := 511 } } }) (State.reset))), { maint0 with next := 511 }, by decide +kernel⟩
  · exact ⟨(fun s : State => { s with cache := { s.cache with reload := [] } }) ((fun s : State => { s with cache := { s.cache with failing := [] } }) ((fun s : State => { s with cache := { s.cache with maint := some { maint0 with op := 4, next := 511 } } }) (State.reset))), { maint0 with op := 4, next := 511 }, by decide +kernel⟩
  · exact ⟨(fun s : State => { s with cache := { s.cache with failing := [] } }) ((fun s : State => { s with cache := { s.cache with maint := some { maint0 with paused := false, op := 4 } } }) (State.reset)), { maint0 with paused := false, op := 4 }, by decide +kernel⟩
  · exact ⟨(fun s : State => { s with cache := { s.cache with failing := [] } }) ((fun s : State => { s with cache := { s.cache with maint := some { maint0 with paused := true } } }) (State.reset)), { maint0 with paused := true }, by decide +kernel⟩
  · exact ⟨(fun s : State => { s with cache := { s.cache with failing := [] } }) ((fun s : State => { s with cache := { s.cache with maint := some { maint0 with op := 5, next := 512 } } }) (State.reset)), { maint0 with op := 5, next := 512 }, by decide +kernel⟩
  · exact ⟨(fun s : State => { s with cache := { s.cache with failing := [] } }) ((fun s : State => { s with cache := { s.cache with maint := some { maint0 with paused := false, op := 6 } } }) (State.reset)), { maint0 with paused := false, op := 6 }, by decide +kernel⟩
  · exact ⟨(fun s : State => { s with cache := { s.cache with maint := some { maint0 with op := 7, tests := [63] } } }) (State.reset), { maint0 with op := 7, tests := [63] }, 3, 15, by decide +kernel⟩
  · exact ⟨(fun s : State => { s with cache := { s.cache with maint := some { maint0 with op := 7, tests := [63] } } }) (State.reset), { maint0 with op := 7, tests := [63] }, 3, 15, by decide +kernel⟩
  · exact ⟨(fun s : State => { s with cache := { s.cache with maint := none } }) (State.reset), 3, 15, by decide +kernel⟩
  · exact ⟨withCache State.reset (fun x => { x with maint := some maint0 }), 3, 15, by decide +kernel⟩
  · exact ⟨(fun s : State => { s with map := { s.map with entries := [(0, .array 0 0 0)] } }) (withCache State.reset (fun x => { x with fills := [fill0] })), fill0, by decide +kernel⟩
  · exact ⟨withCache State.reset (fun x => { x with fills := [fill0] }), fill0, by decide +kernel⟩

theorem test_hypotheses_HbmAndZeroing :
    (∃ (s : State) (k : Nat), k < 4 ∧ rdN s Obj.HBM_STACK_STATE k ≠ 3 ∧ s.prot = [] ∧ ((∀ e ∈ s.map.leaves, e.2.dirty = false))) ∧
    (∃ (s : State) (k : Nat), rdN s Obj.HBM_STACK_STATE k = 3) ∧
    (∃ (k : Nat) (temp : Int), k < 4 ∧ 85 < temp) ∧
    (∃ (k : Nat) (temp : Int), k < 4 ∧ temp ≤ 85) ∧
    (∃ (s : State) (k : Nat), k < 3 ∧ Tbl.getD s.key.taken k 0 ≠ 0) ∧
    (∃ (s : State) (k : Nat), Tbl.getD s.key.taken k 0 = 0) := by
  refine ⟨?_, ?_, ?_, ?_, ?_, ?_⟩
  · exact ⟨State.reset, 3, by decide +kernel⟩
  · exact ⟨wr (State.reset) Obj.HBM_STACK_STATE 0 ((3 : Nat) : Int), 0, by decide +kernel⟩
  · exact ⟨3, 86, by decide +kernel⟩
  · exact ⟨3, 0, by decide +kernel⟩
  · exact ⟨(fun s : State => { s with key := { s.key with taken := [(2, 1)] } }) State.reset, 2, by decide +kernel⟩
  · exact ⟨State.reset, 0, by decide +kernel⟩

theorem test_hypotheses_WeirAndCistern :
    (∃ (r : State) (s : State), noteCistern r = s ∧ (rdN s Obj.OWN_DIRTY_BYTES 0 = 0 ∨ rdN s Obj.WEIR_CURRENT 0 < rdN s Obj.OWN_DIRTY_BYTES 0)) ∧
    (∃ (s : State), packCurrent s = false ∧ 0 < rdN s Obj.OWN_DIRTY_BYTES 0 ∧ rdN s Obj.OWN_DIRTY_BYTES 0 ≤ rdN s Obj.WEIR_CURRENT 0) ∧
    (∃ (s : State) (q : Nat) (tag : Nat) (c : Cmd), (qpOf s q).queue.find? (fun x => x.tag == tag) = some c ∧ c.opcode = 2 ∧ c.phase = .waiting ∧ c.warned = false) ∧
    (∃ (s : State) (q : Nat) (tag : Nat) (c : Cmd), (qpOf s q).queue.find? (fun x => x.tag == tag) = some c ∧ c.warned = true) ∧
    (∃ (s : State), rdN s Obj.CISTERN_STATE 0 ≠ Cs.dumping) ∧
    (∃ (s : State) (b : Nat), rdN s Obj.CISTERN_STATE 0 = Cs.armed ∧ rdN s Obj.CISTERN_DIES_USABLE 0 ≥ 8 ∧ rdN s Obj.OWN_DIRTY_BYTES 0 = 0 ∧ b < cisternNeed s) ∧
    (∃ (s : State) (b : Nat), rdN s Obj.CISTERN_STATE 0 = Cs.notReady ∧ rdN s Obj.CISTERN_DIES_USABLE 0 ≥ 8 ∧ rdN s Obj.OWN_DIRTY_BYTES 0 = 0 ∧ cisternNeed s ≤ b) ∧
    (∃ (s : State), rdB s Obj.CISTERN_IMAGE_HELD 0 = true ∧ ((∀ e ∈ s.prot, e.2.restored = false))) ∧
    (∃ (s : State) (e : Nat × Slot), e ∈ s.prot ∧ e.2.restored = true) ∧
    (∃ (s : State), lossUnknown s = true ∧ rdN s Obj.STARTUP_STEP 0 < 11) ∧
    (∃ (s : State), lossUnknown s = false) ∧
    (∃ (s : State), s.power.mode ≠ .dumping) ∧
    (∃ (s : State) (x : Image), s.power.mode = .dumping ∧ nextArea s = some x) := by
  refine ⟨?_, ?_, ?_, ?_, ?_, ?_, ?_, ?_, ?_, ?_, ?_, ?_, ?_⟩
  · exact ⟨wr (State.reset) Obj.OWN_DIRTY_BYTES 0 ((0 : Nat) : Int), wr (State.reset) Obj.OWN_DIRTY_BYTES 0 ((0 : Nat) : Int), by decide +kernel⟩
  · exact ⟨wr (wr State.reset Obj.OWN_DIRTY_BYTES 0 4096) Obj.WEIR_CURRENT 0 4096, by decide +kernel⟩
  · exact ⟨modQp State.reset 0 (fun x => { x with queue := [{ cmd0 with opcode := 2, phase := .waiting, warned := false }] }), 0, 0, { cmd0 with opcode := 2, phase := .waiting, warned := false }, by decide +kernel⟩
  · exact ⟨modQp State.reset 0 (fun x => { x with queue := [{ cmd0 with opcode := 2, phase := .waiting, warned := true }] }), 0, 0, { cmd0 with opcode := 2, phase := .waiting, warned := true }, by decide +kernel⟩
  · exact ⟨State.reset, by decide +kernel⟩
  · exact ⟨wr (wr (wr (State.reset) Obj.CISTERN_STATE 0 ((Cs.armed : Nat) : Int)) Obj.CISTERN_DIES_USABLE 0 8) Obj.OWN_DIRTY_BYTES 0 ((0 : Nat) : Int), 0, by decide +kernel⟩
  · exact ⟨wr (wr (wr (State.reset) Obj.CISTERN_STATE 0 ((Cs.notReady : Nat) : Int)) Obj.CISTERN_DIES_USABLE 0 8) Obj.OWN_DIRTY_BYTES 0 ((0 : Nat) : Int), 2 ^ 40, by decide +kernel⟩
  · exact ⟨wrB (State.reset) Obj.CISTERN_IMAGE_HELD 0 true, by decide +kernel⟩
  · exact ⟨(fun s : State => { s with prot := [(0, { slot0 with restored := true })] }) State.reset, (0, { slot0 with restored := true }), by decide +kernel⟩
  · exact ⟨modPower (wr State.reset Obj.STARTUP_STEP 0 10) (fun x => { x with lossHeld := true }), by decide +kernel⟩
  · exact ⟨State.reset, by decide +kernel⟩
  · exact ⟨State.reset, by decide +kernel⟩
  · exact ⟨modPower State.reset (fun x => { x with mode := .dumping, imgA := some img0 }), img0, by decide +kernel⟩

theorem test_hypotheses_PackStates :
    (∃ (s : State), packValid s = false) ∧
    (∃ (s : State), packValid s = true ∧ rdB s Obj.PACK_ENABLE 0 = false ∧ packState s = Pk.disabled ∧ packSeen s = false ∧ rdN s Obj.OWN_DIRTY_BYTES 0 = 0) ∧
    (∃ (s : State), packValid s = true ∧ rdB s Obj.PACK_ENABLE 0 = false ∧ packState s = Pk.disabled ∧ packSeen s = true ∧ rdN s Obj.OWN_DIRTY_BYTES 0 = 0) ∧
    (∃ (s : State), rdN s Obj.OWN_DIRTY_BYTES 0 = 0) ∧
    (∃ (s : State), packLive s = true ∧ rdN s Obj.OWN_DIRTY_BYTES 0 = 0) ∧
    (∃ (s : State), packLive s = true ∧ rdN s Obj.OWN_DIRTY_BYTES 0 = 0) ∧
    (∃ (s : State), packLive s = false) ∧
    (∃ (s : State), packLive s = true ∧ rdB s Obj.PACK_CHARGING 0 = true ∧ rdN s Obj.OWN_DIRTY_BYTES 0 = 0) ∧
    (∃ (s : State), packLive s = true ∧ rdN s Obj.OWN_DIRTY_BYTES 0 = 0) ∧
    (∃ (s : State), packState s = Pk.absent ∧ rdN s Obj.OWN_DIRTY_BYTES 0 = 0) ∧
    (∃ (s : State), packState s ≠ Pk.absent) ∧
    (∃ (s : State), packState s = Pk.current ∧ rdN s Obj.OWN_DIRTY_BYTES 0 = 0) ∧
    (∃ (s : State), packState s ≠ Pk.current) ∧
    (∃ (s : State), rdN s Obj.PACK_CHEMISTRY 0 = 2 ∧ packState s = Pk.current) := by
  refine ⟨?_, ?_, ?_, ?_, ?_, ?_, ?_, ?_, ?_, ?_, ?_, ?_, ?_, ?_⟩
  · exact ⟨State.reset, by decide +kernel⟩
  · exact ⟨wr (wr (wr State.reset Obj.PACK_CHEMISTRY 0 1) Obj.PACK_NOMINAL_CAPACITANCE 0 1) Obj.PACK_VOLTAGE 0 999, by decide +kernel⟩
  · exact ⟨wr (wr (wr State.reset Obj.PACK_CHEMISTRY 0 1) Obj.PACK_NOMINAL_CAPACITANCE 0 1) Obj.PACK_VOLTAGE 0 1000, by decide +kernel⟩
  · exact ⟨wr (State.reset) Obj.OWN_DIRTY_BYTES 0 ((0 : Nat) : Int), by decide +kernel⟩
  · exact ⟨wr (wr (State.reset) Obj.PACK_STATE 0 2) Obj.OWN_DIRTY_BYTES 0 ((0 : Nat) : Int), by decide +kernel⟩
  · exact ⟨wr (wr (State.reset) Obj.PACK_STATE 0 2) Obj.OWN_DIRTY_BYTES 0 ((0 : Nat) : Int), by decide +kernel⟩
  · exact ⟨State.reset, by decide +kernel⟩
  · exact ⟨wr (wrB (wr (State.reset) Obj.PACK_STATE 0 2) Obj.PACK_CHARGING 0 true) Obj.OWN_DIRTY_BYTES 0 ((0 : Nat) : Int), by decide +kernel⟩
  · exact ⟨wr (wr (State.reset) Obj.PACK_STATE 0 2) Obj.OWN_DIRTY_BYTES 0 ((0 : Nat) : Int), by decide +kernel⟩
  · exact ⟨wr (wr (State.reset) Obj.PACK_STATE 0 ((Pk.absent : Nat) : Int)) Obj.OWN_DIRTY_BYTES 0 ((0 : Nat) : Int), by decide +kernel⟩
  · exact ⟨wr (State.reset) Obj.PACK_STATE 0 2, by decide +kernel⟩
  · exact ⟨wr (wr (State.reset) Obj.PACK_STATE 0 ((Pk.current : Nat) : Int)) Obj.OWN_DIRTY_BYTES 0 ((0 : Nat) : Int), by decide +kernel⟩
  · exact ⟨wr (State.reset) Obj.PACK_STATE 0 2, by decide +kernel⟩
  · exact ⟨wr (wr (State.reset) Obj.PACK_CHEMISTRY 0 ((2 : Nat) : Int)) Obj.PACK_STATE 0 ((Pk.current : Nat) : Int), by decide +kernel⟩

theorem test_hypotheses_PackMeasurements :
    (∃ (s : State) (ntc : Nat), packState s = Pk.disabled ∧ ntc = 0) ∧
    (∃ (s : State), packLive s = true ∧ rdN s Obj.OWN_DIRTY_BYTES 0 = 0) ∧
    (∃ (s : State), packState s = Pk.disabled) ∧
    (∃ (s : State), packState s ≠ Pk.disabled) ∧
    (∃ (s : State), rdN s Obj.OWN_DIRTY_BYTES 0 = 0) ∧
    (∃ (s : State), s.pack.step = 0 ∧ packLive s = true ∧ deferring s = false) ∧
    (∃ (s : State), s.pack.step ≠ 0) ∧
    (∃ (s : State), s.pack.step = 0 ∧ packLive s = true ∧ deferring s = true) ∧
    (∃ (s : State), s.pack.step = 0 ∧ packLive s = true ∧ deferring s = false) ∧
    (∃ (s : State), s.pack.step = 0 ∧ s.pack.due = true ∧ packLive s = true ∧ deferring s = false) ∧
    (∃ (s : State), (s.pack.due = false ∨ deferring s = true)) ∧
    (∃ (s : State), s.pack.step = 1) ∧
    (∃ (s : State), s.pack.step ≠ 1) ∧
    (∃ (s : State), s.pack.step = 2 ∧ rdN s Obj.OWN_DIRTY_BYTES 0 = 0) ∧
    (∃ (s : State), s.pack.step ≠ 2) := by
  refine ⟨?_, ?_, ?_, ?_, ?_, ?_, ?_, ?_, ?_, ?_, ?_, ?_, ?_, ?_, ?_⟩
  · exact ⟨wr (State.reset) Obj.PACK_STATE 0 ((Pk.disabled : Nat) : Int), 0, by decide +kernel⟩
  · exact ⟨wr (wr (State.reset) Obj.PACK_STATE 0 2) Obj.OWN_DIRTY_BYTES 0 ((0 : Nat) : Int), by decide +kernel⟩
  · exact ⟨wr (State.reset) Obj.PACK_STATE 0 ((Pk.disabled : Nat) : Int), by decide +kernel⟩
  · exact ⟨wr (State.reset) Obj.PACK_STATE 0 2, by decide +kernel⟩
  · exact ⟨wr (State.reset) Obj.OWN_DIRTY_BYTES 0 ((0 : Nat) : Int), by decide +kernel⟩
  · exact ⟨modPower (wr (wr State.reset Obj.PACK_STATE 0 2) Obj.PACK_VOLTAGE 0 60000) (fun x => { x with mode := .running, p12v := true }), by decide +kernel⟩
  · exact ⟨(fun s : State => { s with pack := { s.pack with step := 1 } }) State.reset, by decide +kernel⟩
  · exact ⟨wr ((fun s : State => { s with pack := { s.pack with step := 0 } }) (State.reset)) Obj.PACK_STATE 0 2, by decide +kernel⟩
  · exact ⟨modPower (wr (wr State.reset Obj.PACK_STATE 0 2) Obj.PACK_VOLTAGE 0 60000) (fun x => { x with mode := .running, p12v := true }), by decide +kernel⟩
  · exact ⟨(fun s : State => { s with pack := { s.pack with due := true } }) (modPower (wr (wr State.reset Obj.PACK_STATE 0 2) Obj.PACK_VOLTAGE 0 60000) (fun x => { x with mode := .running, p12v := true })), by decide +kernel⟩
  · exact ⟨(fun s : State => { s with pack := { s.pack with due := false } }) (State.reset), by decide +kernel⟩
  · exact ⟨(fun s : State => { s with pack := { s.pack with step := 1 } }) (State.reset), by decide +kernel⟩
  · exact ⟨State.reset, by decide +kernel⟩
  · exact ⟨wr ((fun s : State => { s with pack := { s.pack with step := 2 } }) (State.reset)) Obj.OWN_DIRTY_BYTES 0 ((0 : Nat) : Int), by decide +kernel⟩
  · exact ⟨State.reset, by decide +kernel⟩

theorem test_hypotheses_PowerInput :
    (∃ (s : State), s.power.mode = .running) ∧
    (∃ (s : State), s.power.mode = .dumping) ∧
    (∃ (s : State), s.power.mode = .rideThrough) ∧
    (∃ (s : State), s.power.mode ≠ .rideThrough) ∧
    (∃ (s : State), s.power.mode = .running) ∧
    (∃ (s : State), s.power.mode ≠ .running) ∧
    (∃ (s : State), s.power.mode = .rideThrough) ∧
    (∃ (s : State), s.power.mode ≠ .rideThrough) ∧
    (∃ (s : State), running s = true) ∧
    (∃ (s : State), running s = false) ∧
    (∃ (s : State), s.power.mode ≠ .dumping) ∧
    (∃ (s : State), s.power.mode ≠ .dumping) ∧
    (∃ (s : State), s.power.mode = .dumping) ∧
    (∃ (s : State), s.power.mode = .standby ∧ s.power.aux = true ∧ s.power.resetN = false ∧ s.power.tripped = false ∧ s.power.stepDone = true ∧ rdN s Obj.STARTUP_STEP 0 = 2) ∧
    (∃ (s : State), s.power.mode = .standby ∧ s.power.p12v = true ∧ s.power.aux = true ∧ s.power.resetN = false ∧ s.power.tripped = false ∧ s.power.stepDone = true ∧ rdN s Obj.STARTUP_STEP 0 = 2) ∧
    (∃ (s : State), s.power.mode = .off) ∧
    (∃ (s : State), s.power.mode ≠ .off) ∧
    (∃ (s : State), running s = true) ∧
    (∃ (s : State), s.power.mode = .standby ∧ rdN s Obj.STARTUP_STEP 0 < 3) := by
  refine ⟨?_, ?_, ?_, ?_, ?_, ?_, ?_, ?_, ?_, ?_, ?_, ?_, ?_, ?_, ?_, ?_, ?_, ?_, ?_⟩
  · exact ⟨modPower (State.reset) (fun x => { x with mode := .running }), by decide +kernel⟩
  · exact ⟨modPower (State.reset) (fun x => { x with mode := .dumping }), by decide +kernel⟩
  · exact ⟨modPower (State.reset) (fun x => { x with mode := .rideThrough }), by decide +kernel⟩
  · exact ⟨State.reset, by decide +kernel⟩
  · exact ⟨modPower (State.reset) (fun x => { x with mode := .running }), by decide +kernel⟩
  · exact ⟨State.reset, by decide +kernel⟩
  · exact ⟨modPower (State.reset) (fun x => { x with mode := .rideThrough }), by decide +kernel⟩
  · exact ⟨State.reset, by decide +kernel⟩
  · exact ⟨modPower (State.reset) (fun x => { x with mode := .running }), by decide +kernel⟩
  · exact ⟨State.reset, by decide +kernel⟩
  · exact ⟨State.reset, by decide +kernel⟩
  · exact ⟨State.reset, by decide +kernel⟩
  · exact ⟨modPower (State.reset) (fun x => { x with mode := .dumping }), by decide +kernel⟩
  · exact ⟨wr (modPower (modPower (modPower (modPower (modPower (State.reset) (fun x => { x with mode := .standby })) (fun x => { x with aux := true })) (fun x => { x with resetN := false })) (fun x => { x with tripped := false })) (fun x => { x with stepDone := true })) Obj.STARTUP_STEP 0 ((2 : Nat) : Int), by decide +kernel⟩
  · exact ⟨wr (modPower (modPower (modPower (modPower (modPower (modPower (State.reset) (fun x => { x with mode := .standby })) (fun x => { x with p12v := true })) (fun x => { x with aux := true })) (fun x => { x with resetN := false })) (fun x => { x with tripped := false })) (fun x => { x with stepDone := true })) Obj.STARTUP_STEP 0 ((2 : Nat) : Int), by decide +kernel⟩
  · exact ⟨modPower (State.reset) (fun x => { x with mode := .off }), by decide +kernel⟩
  · exact ⟨State.reset, by decide +kernel⟩
  · exact ⟨modPower (State.reset) (fun x => { x with mode := .running }), by decide +kernel⟩
  · exact ⟨modPower (State.reset) (fun x => { x with mode := .standby }), by decide +kernel⟩

theorem test_hypotheses_DumpsAndStops :
    (∃ (s : State), running s = false) ∧
    (∃ (s : State), running s = true ∧ rdN s Obj.STARTUP_STEP 0 ≤ 8) ∧
    (∃ (s : State), running s = true ∧ 8 < rdN s Obj.STARTUP_STEP 0 ∧ ackedDirty s = true ∧ rdN s Obj.CISTERN_STATE 0 = Cs.armed ∧ epochState s = Es.idle ∧ s.pair.enabled = false) ∧
    (∃ (s : State), railsUp s = true) ∧
    (∃ (s : State), railsUp s = false) ∧
    (∃ (s : State), railsUp s = true) ∧
    (∃ (s : State), running s = true) ∧
    (∃ (s : State), running s = true ∧ rdB s Obj.THERM_ALERT_ACTIVE 0 = false) ∧
    (∃ (s : State), s.power.mode ≠ .halted ∧ rdB s Obj.THERM_ALERT_ACTIVE 0 = true) ∧
    (∃ (s : State), s.power.mode = .halted ∧ rdB s Obj.THERM_ALERT_ACTIVE 0 = true) ∧
    (∃ (s : State) (q : Nat), q < 4 ∧ running s = true ∧ stepPending s q = false ∧ Tbl.get s.power.stepped q = none ∧ 4 ≤ rdN s Obj.QUADRANT_DIVIDER_IN_EFFECT q) ∧
    (∃ (s : State) (q : Nat), q < 4 ∧ running s = true ∧ stepPending s q = false ∧ Tbl.get s.power.stepped q = none ∧ rdN s Obj.QUADRANT_DIVIDER_IN_EFFECT q < 4 ∧ epochState s ≠ Es.idle) ∧
    (∃ (s : State) (q : Nat), q < 4 ∧ running s = true ∧ stepPending s q = false ∧ rdB s Obj.QUADRANT_GATED q = true) ∧
    (∃ (s : State) (q : Nat), q < 4 ∧ running s = true ∧ stepPending s q = false ∧ rdB s Obj.QUADRANT_GATED q = false ∧ rdN s Obj.QUADRANT_DIVIDER q < rdN s Obj.QUADRANT_DIVIDER_IN_EFFECT q ∧ epochState s ≠ Es.idle) ∧
    (∃ (s : State), epochState s ≠ Es.idle) ∧
    (∃ (s : State) (q : Nat) (d : Nat) (l : List (Nat × Nat)), s.power.thermal = [] ∧ s.power.retry = (q, d) :: l ∧ epochState s = Es.idle ∧ 11 ≤ rdN s Obj.STARTUP_STEP 0 ∧ running s = true) ∧
    (∃ (s : State), rdB s Obj.PLL_MAIN_LOCKED 0 = true) ∧
    (∃ (s : State), rdB s Obj.PLL_MAIN_LOCKED 0 = false) ∧
    (∃ (s : State), rdB s Obj.PLL_MAIN_LOCKED 0 = false) ∧
    (∃ (s : State), rdB s Obj.PLL_MAIN_LOCKED 0 = true) ∧
    (∃ (s : State), running s = true) ∧
    (∃ (s : State), s.power.mode = .halted) ∧
    (∃ (s : State), s.power.mode = .halted) ∧
    (∃ (s : State), s.power.mode = .standby ∧ s.power.p12v = true ∧ s.power.aux = true ∧ s.power.tripped = false ∧ s.power.stepDone = true ∧ rdN s Obj.STARTUP_STEP 0 = 2) ∧
    (∃ (s : State), running s = true ∧ 8 ≤ rdN s Obj.STARTUP_STEP 0) ∧
    (∃ (s : State), running s = true) ∧
    (∃ (v : Nat), v ≠ 0x9640B007) := by
  refine ⟨?_, ?_, ?_, ?_, ?_, ?_, ?_, ?_, ?_, ?_, ?_, ?_, ?_, ?_, ?_, ?_, ?_, ?_, ?_, ?_, ?_, ?_, ?_, ?_, ?_, ?_, ?_⟩
  · exact ⟨State.reset, by decide +kernel⟩
  · exact ⟨modPower (State.reset) (fun x => { x with mode := .running }), by decide +kernel⟩
  · exact ⟨(fun s : State => { s with prot := [(0, { slot0 with acked := true })] }) (wr (wr (modPower State.reset (fun x => { x with mode := .running })) Obj.STARTUP_STEP 0 9) Obj.CISTERN_STATE 0 1), by decide +kernel⟩
  · exact ⟨modPower (State.reset) (fun x => { x with mode := .running }), by decide +kernel⟩
  · exact ⟨State.reset, by decide +kernel⟩
  · exact ⟨modPower (State.reset) (fun x => { x with mode := .running }), by decide +kernel⟩
  · exact ⟨modPower (State.reset) (fun x => { x with mode := .running }), by decide +kernel⟩
  · exact ⟨wrB (modPower (State.reset) (fun x => { x with mode := .running })) Obj.THERM_ALERT_ACTIVE 0 false, by decide +kernel⟩
  · exact ⟨wrB (State.reset) Obj.THERM_ALERT_ACTIVE 0 true, by decide +kernel⟩
  · exact ⟨wrB (modPower (State.reset) (fun x => { x with mode := .halted })) Obj.THERM_ALERT_ACTIVE 0 true, by decide +kernel⟩
  · exact ⟨wr (modPower (State.reset) (fun x => { x with mode := .running })) Obj.QUADRANT_DIVIDER_IN_EFFECT 3 4, 3, by decide +kernel⟩
  · exact ⟨wr (modPower (State.reset) (fun x => { x with mode := .running })) Obj.EPOCH_STATE 0 1, 3, by decide +kernel⟩
  · exact ⟨wrB (modPower (State.reset) (fun x => { x with mode := .running })) Obj.QUADRANT_GATED 3 true, 3, by decide +kernel⟩
  · exact ⟨wr (wr (modPower (wr (wrB (modPower (State.reset) (fun x => { x with mode := .running })) Obj.QUADRANT_GATED 3 false) Obj.EPOCH_STATE 0 1) (fun x => { x with mode := .running })) Obj.QUADRANT_DIVIDER 3 1) Obj.QUADRANT_DIVIDER_IN_EFFECT 3 2, 3, by decide +kernel⟩
  · exact ⟨wr (State.reset) Obj.EPOCH_STATE 0 1, by decide +kernel⟩
  · exact ⟨modPower (wr (wr (modPower (modPower (State.reset) (fun x => { x with thermal := [] })) (fun x => { x with retry := (3, 2) :: [] })) Obj.EPOCH_STATE 0 ((Es.idle : Nat) : Int)) Obj.STARTUP_STEP 0 11) (fun x => { x with mode := .running }), 3, 2, [], by decide +kernel⟩
  · exact ⟨wrB (State.reset) Obj.PLL_MAIN_LOCKED 0 true, by decide +kernel⟩
  · exact ⟨wrB (State.reset) Obj.PLL_MAIN_LOCKED 0 false, by decide +kernel⟩
  · exact ⟨wrB (State.reset) Obj.PLL_MAIN_LOCKED 0 false, by decide +kernel⟩
  · exact ⟨wrB (State.reset) Obj.PLL_MAIN_LOCKED 0 true, by decide +kernel⟩
  · exact ⟨modPower (State.reset) (fun x => { x with mode := .running }), by decide +kernel⟩
  · exact ⟨modPower (State.reset) (fun x => { x with mode := .halted }), by decide +kernel⟩
  · exact ⟨modPower (State.reset) (fun x => { x with mode := .halted }), by decide +kernel⟩
  · exact ⟨wr (modPower (modPower (modPower (modPower (modPower (State.reset) (fun x => { x with mode := .standby })) (fun x => { x with p12v := true })) (fun x => { x with aux := true })) (fun x => { x with tripped := false })) (fun x => { x with stepDone := true })) Obj.STARTUP_STEP 0 ((2 : Nat) : Int), by decide +kernel⟩
  · exact ⟨wr (modPower (State.reset) (fun x => { x with mode := .running })) Obj.STARTUP_STEP 0 8, by decide +kernel⟩
  · exact ⟨modPower (State.reset) (fun x => { x with mode := .running }), by decide +kernel⟩
  · exact ⟨0, by decide +kernel⟩

theorem test_hypotheses_StartUp :
    (∃ (s : State), inStep s 1 = true ∧ rdN s Obj.STARTUP_STEP 0 = 1) ∧
    (∃ (s : State), inStep s 3 = true ∧ rdN s Obj.STARTUP_STEP 0 = 3) ∧
    (∃ (s : State), inStep s 4 = true ∧ rdN s Obj.STARTUP_STEP 0 = 4) ∧
    (∃ (s : State) (x : StartItem) (slot : Nat) (img : FwImage), inStep s 5 = true ∧ rdN s Obj.STARTUP_STEP 0 = 5 ∧ bootChoice (noteTime s 5) x.images = some (slot, img)) ∧
    (∃ (s : State) (x : StartItem), inStep s 5 = true ∧ rdN s Obj.STARTUP_STEP 0 = 5 ∧ bootChoice (noteTime s 5) x.images = none) ∧
    (∃ (s : State) (n : Nat), (n = 1 ∨ n = 2 ∨ n = 3 ∨ n = 4 ∨ n = 8 ∨ n = 9) ∧ inStep s n = true ∧ rdN s Obj.STARTUP_STEP 0 = n) ∧
    (∃ (s : State), rdN s Obj.STARTUP_FAULT 0 ≠ 0) ∧
    (∃ (s : State), inStep s 9 = true ∧ rdN s Obj.STARTUP_STEP 0 = 9) ∧
    (∃ (s : State), inStep s 9 = true ∧ rdN s Obj.STARTUP_STEP 0 = 9) ∧
    (∃ (s : State), rdN s Obj.STARTUP_STEP 0 ≠ 9) := by
  refine ⟨?_, ?_, ?_, ?_, ?_, ?_, ?_, ?_, ?_, ?_⟩
  · exact ⟨wr (State.reset) Obj.STARTUP_STEP 0 ((1 : Nat) : Int), by decide +kernel⟩
  · exact ⟨wr (State.reset) Obj.STARTUP_STEP 0 ((3 : Nat) : Int), by decide +kernel⟩
  · exact ⟨wr (modPower (State.reset) (fun x => { x with mode := .running })) Obj.STARTUP_STEP 0 ((4 : Nat) : Int), by decide +kernel⟩
  · exact ⟨boot5, { start0 with images := [{ fw0 with formed := false }, fw0] }, 1, fw0, by decide +kernel, by decide +kernel, boot5_choice⟩
  · exact ⟨wr (modPower (State.reset) (fun x => { x with mode := .running })) Obj.STARTUP_STEP 0 ((5 : Nat) : Int), start0, by decide +kernel⟩
  · exact ⟨wr (State.reset) Obj.STARTUP_STEP 0 ((1 : Nat) : Int), 1, by decide +kernel⟩
  · exact ⟨wr (State.reset) Obj.STARTUP_FAULT 0 1, by decide +kernel⟩
  · exact ⟨wr (modPower (State.reset) (fun x => { x with mode := .running })) Obj.STARTUP_STEP 0 ((9 : Nat) : Int), by decide +kernel⟩
  · exact ⟨wr (modPower (State.reset) (fun x => { x with mode := .running })) Obj.STARTUP_STEP 0 ((9 : Nat) : Int), by decide +kernel⟩
  · exact ⟨State.reset, by decide +kernel⟩

theorem test_hypotheses_FirmwareStore :
    (∃ (s : State) (v : Nat), (v ≤ 1 ∨ v = 0xFF) ∧ runningSlot s ≠ some v) ∧
    (∃ (s : State) (v : Nat), (runningSlot s = some v ∨ (1 < v ∧ v ≠ 0xFF))) ∧
    (∃ (s : State) (k : Nat), k < 2 ∧ runningSlot s ≠ some k) ∧
    (∃ (s : State) (k : Nat), runningSlot s = some k) ∧
    (∃ (s : State) (i : Nat) (b : Bytes), i < 512 ∧ b.length = 65536 ∧ rdN s Obj.FW_UPDATE_SLOT 0 ≤ 1 ∧ runningSlot s ≠ some (rdN s Obj.FW_UPDATE_SLOT 0)) ∧
    (∃ (s : State) (b : Bytes), (1 < rdN s Obj.FW_UPDATE_SLOT 0 ∨ b.length ≠ 65536)) ∧
    (∃ (s : State) (k : Nat) (x : FwImage), k < 2 ∧ runningSlot s ≠ some k ∧ x.formed = true ∧ x.keyHash = signingHash ∧ x.signed = true ∧ x.digest = true ∧ rdN s Obj.FW_SVN_FLOOR 0 ≤ x.svn ∧ rdN s Obj.STARTUP_FAULT 0 ≠ Sf.bootImage) ∧
    (∃ (s : State) (k : Nat) (x : FwImage), k < 2 ∧ runningSlot s ≠ some k ∧ x.formed = true ∧ x.keyHash = signingHash ∧ x.signed = true ∧ x.digest = true ∧ rdN s Obj.FW_SVN_FLOOR 0 ≤ x.svn ∧ rdN s Obj.STARTUP_FAULT 0 = Sf.bootImage) ∧
    (∃ (s : State) (k : Nat) (r : Nat) (x : FwImage), k < 2 ∧ runningSlot s ≠ some k ∧ ((x.formed = false ∧ r = 6) ∨ (x.formed = true ∧ x.keyHash ≠ signingHash ∧ r = 2) ∨ (x.formed = true ∧ x.keyHash = signingHash ∧ x.signed = false ∧ r = 3) ∨ (x.formed = true ∧ x.keyHash = signingHash ∧ x.signed = true ∧ x.digest = false ∧ r = 4) ∨ (x.formed = true ∧ x.keyHash = signingHash ∧ x.signed = true ∧ x.digest = true ∧ x.svn < rdN s Obj.FW_SVN_FLOOR 0 ∧ r = 5))) ∧
    (∃ (s : State) (v : Nat), v ≤ 1 ∧ rdN s Obj.FW_SLOT_STATE v = 2) ∧
    (∃ (s : State) (v : Nat), rdN s Obj.FW_SLOT_STATE v ≠ 2) ∧
    (∃ (v : Nat), v ≠ 0x9640F0F0) := by
  refine ⟨?_, ?_, ?_, ?_, ?_, ?_, ?_, ?_, ?_, ?_, ?_, ?_⟩
  · exact ⟨State.reset, 0, by decide +kernel⟩
  · exact ⟨State.reset, 2, by decide +kernel⟩
  · exact ⟨State.reset, 1, by decide +kernel⟩
  · exact ⟨wr (wr State.reset Obj.STARTUP_STEP 0 11) Obj.BOOT_SLOT_RUNNING 0 1, 1, by decide +kernel⟩
  · exact ⟨wr State.reset Obj.FW_UPDATE_SLOT 0 1, 511, zeros 65536, by decide +kernel, List.length_replicate, by decide +kernel, by decide +kernel⟩
  · exact ⟨State.reset, [], by decide +kernel⟩
  · exact ⟨setRegs State.reset [(Obj.FW_SVN_FLOOR.key 0, 1)], 1, { fw0 with svn := 1 }, by decide +kernel, by decide +kernel, rfl, rfl, rfl, rfl, by decide +kernel, by decide +kernel⟩
  · exact ⟨wr (setRegs State.reset [(Obj.FW_SVN_FLOOR.key 0, 1)]) Obj.STARTUP_FAULT 0 ((Sf.bootImage : Nat) : Int), 1, { fw0 with svn := 1 }, by decide +kernel, by decide +kernel, rfl, rfl, rfl, rfl, by decide +kernel, by decide +kernel⟩
  · exact ⟨State.reset, 1, 4, { fw0 with digest := false }, by decide +kernel, by decide +kernel, .inr (.inr (.inr (.inl ⟨rfl, rfl, rfl, rfl, rfl⟩)))⟩
  · exact ⟨wr (State.reset) Obj.FW_SLOT_STATE 1 ((2 : Nat) : Int), 1, by decide +kernel⟩
  · exact ⟨State.reset, 0, by decide +kernel⟩
  · exact ⟨0, by decide +kernel⟩

theorem test_hypotheses_TestsAndJtag :
    (∃ (s : State), s.power.test = none ∧ conditionOk s 1 (rdN s Obj.TEST_TARGET 0) = true ∧ patternOk s 1 (rdN s Obj.TEST_TARGET 0) = true) ∧
    (∃ (s : State), s.power.test = none ∧ conditionOk s 2 (rdN s Obj.TEST_TARGET 0) = true ∧ patternOk s 2 (rdN s Obj.TEST_TARGET 0) = true) ∧
    (∃ (s : State), s.power.test = none ∧ conditionOk s 3 (rdN s Obj.TEST_TARGET 0) = true ∧ patternOk s 3 (rdN s Obj.TEST_TARGET 0) = true) ∧
    (∃ (s : State), s.power.test = none ∧ conditionOk s 4 (rdN s Obj.TEST_TARGET 0) = true ∧ patternOk s 4 (rdN s Obj.TEST_TARGET 0) = true) ∧
    (∃ (s : State), s.power.test = none ∧ conditionOk s 5 (rdN s Obj.TEST_TARGET 0) = true ∧ patternOk s 5 (rdN s Obj.TEST_TARGET 0) = true) ∧
    (∃ (s : State), s.power.test = none ∧ conditionOk s 6 (rdN s Obj.TEST_TARGET 0) = true) ∧
    (∃ (s : State), s.power.test = none ∧ rdN s Obj.TEST_TARGET 0 = 1 ∧ (hostPort s 1).perst = false) ∧
    (∃ (s : State), s.power.test ≠ none) ∧
    (∃ (s : State) (r : TestRun), s.power.test = some r ∧ r.op ≠ 6) ∧
    (∃ (s : State) (r : TestRun), s.power.test = some r ∧ r.op ≠ 6) ∧
    (∃ (s : State) (r : TestRun), s.power.test = some r) ∧
    (∃ (s : State), s.power.test = none) ∧
    (∃ (s : State), s.power.resetN = true) ∧
    (∃ (s : State) (op : JtagOp), s.power.resetN = false ∧ (op = .extest ∨ op = .clamp ∨ op = .highz)) ∧
    (∃ (s : State) (op : JtagOp), s.power.resetN = false ∧ op ≠ .extest ∧ op ≠ .clamp ∧ op ≠ .highz) := by
  refine ⟨?_, ?_, ?_, ?_, ?_, ?_, ?_, ?_, ?_, ?_, ?_, ?_, ?_, ?_, ?_⟩
  · exact ⟨modHostPort (wr (wr (wr State.reset Obj.TEST_TARGET 0 1) Obj.TEST_PATTERN 0 3) Obj.PORT_MAX_SPEED 1 5) 1 (fun x => { x with perst := true }), by decide +kernel⟩
  · exact ⟨modPower (State.reset) (fun x => { x with test := none }), by decide +kernel⟩
  · exact ⟨wr (wr State.reset Obj.TEST_TARGET 0 2) Obj.TEST_PATTERN 0 4, by decide +kernel⟩
  · exact ⟨wr (wr State.reset Obj.TEST_TARGET 0 2) Obj.TEST_PATTERN 0 5, by decide +kernel⟩
  · exact ⟨modPower (State.reset) (fun x => { x with test := none }), by decide +kernel⟩
  · exact ⟨modPower (State.reset) (fun x => { x with test := none }), by decide +kernel⟩
  · exact ⟨modHostPort (wr (modPower (State.reset) (fun x => { x with test := none })) Obj.TEST_TARGET 0 ((1 : Nat) : Int)) 1 (fun x => { x with perst := false }), by decide +kernel⟩
  · exact ⟨modPower State.reset (fun x => { x with test := some run0 }), by decide +kernel⟩
  · exact ⟨modPower (State.reset) (fun x => { x with test := some run0 }), run0, by decide +kernel⟩
  · exact ⟨modPower (State.reset) (fun x => { x with test := some run0 }), run0, by decide +kernel⟩
  · exact ⟨modPower (State.reset) (fun x => { x with test := some run0 }), run0, by decide +kernel⟩
  · exact ⟨modPower (State.reset) (fun x => { x with test := none }), by decide +kernel⟩
  · exact ⟨modPower (State.reset) (fun x => { x with resetN := true }), by decide +kernel⟩
  · exact ⟨modPower (State.reset) (fun x => { x with resetN := false }), .highz, by decide +kernel⟩
  · exact ⟨modPower (State.reset) (fun x => { x with resetN := false }), .idcode, by decide +kernel⟩

/-! ## Ill-formed commands -/

theorem test_illformed_1 :
    [.pushSlotWrite 8192 0 [],
      .pushSlotWrite 0 256 [0],
      .pushSlotTimeout 8192 0,
      .pushSlotTimeout 0 4,
      .srNotify 8192 0,
      .crRelease 8192 0,
      .ringFetchComplete 8192 [] false,
      .qpPoll 8192 [] [] false,
      .crSlotPoll 8192 false false,
      .completionWrite 8192,
      .msixCoalesceTimeout 8192,
      .adminCtrlEnable 2 false,
      .adminCtrlReset 2,
      .adminCtrlMode 2 false,
      .qpModeWrite 8192 0,
      .qpHalt 8192,
      .queueResetTimeout 8192,
      .read 8192 0 ⟨[], []⟩,
      .read 0 65536 ⟨[], []⟩,
      .write 8192 0,
      .write 0 65536,
      .flush 8192 0,
      .flush 0 65536,
      .flushCompletion 8192 0,
      .flushCompletion 0 65536,
      .deallocate 8192 0].all (fun i : Instr => !i.wellFormed) = true := by decide +kernel

theorem test_illformed_2 :
    [.deallocate 0 65536,
      .deallocateCompletion 8192 0,
      .deallocateCompletion 0 65536,
      .verify 8192 0,
      .verify 0 65536,
      .dictRead 8192 0 [],
      .dictRead 0 65536 [],
      .dictWrite 8192 0 [],
      .dictWrite 0 65536 [],
      .queueCreate 8192 0,
      .queueCreate 0 65536,
      .queueReset 8192 0,
      .queueReset 0 65536,
      .sanitize 8192 0,
      .sanitize 0 65536,
      .format 8192 0,
      .format 0 65536,
      .formatPhase1Drained 4096,
      .sanitizeCisternWaitEnd 4096,
      .writeDmaLanded 8192 0 0 (zeros 4096) ⟨.none, [], []⟩,
      .writeDmaLanded 0 65536 0 (zeros 4096) ⟨.none, [], []⟩,
      .writeDmaLanded 0 0 0 [] ⟨.none, [], []⟩,
      .writeCompletion 8192 0,
      .writeCompletion 0 65536,
      .readOverlapResolve 8192 0,
      .readOverlapResolve 0 65536].all (fun i : Instr => !i.wellFormed) = true := by decide +kernel

theorem test_illformed_3 :
    [.writeStep7Release 8192 0,
      .writeStep7Release 0 65536,
      .stripeAgeTimer 8 ⟨0, []⟩,
      .laneWaitEnd 8 0 0,
      .checkpointStart 8,
      .checkpointStepDone 8,
      .mapCheckpointNow 8,
      .dredgeSelect 8,
      .segmentResetStart 8 0,
      .poolActionCreate 8,
      .poolActionOnline 8,
      .poolActionOffline 8,
      .poolActionDestroy 8,
      .poolActionStepDone 8 0 0 [] [] [],
      .codeTableDataWrite 16 [],
      .codeCheckStart 16,
      .codeCheckDone 16,
      .volumeCreate 4096,
      .volumeDelete 4096,
      .volumeDeleteDrained 4096,
      .volumeCapacityWrite 4096 0,
      .memberAdd 8 0,
      .memberAdd 0 64,
      .memberRemove 8 0,
      .memberRemove 0 64,
      .memberActionFail 8 0].all (fun i : Instr => !i.wellFormed) = true := by decide +kernel

theorem test_illformed_4 :
    [.memberActionFail 0 64,
      .rebuildStart 8,
      .rebuildAutoStart 8,
      .rebuildNextSegment 8,
      .patrolStripe 8 [],
      .patrolRestart 8,
      .resyncStripeCheck 8 [],
      .reshapeCursorAdvance 8,
      .driveGroupEnable 16 false,
      .driveLinkUp 64 0 0,
      .controllerResetDone 64 false [] [],
      .presenceDebounced 64,
      .presenceLost 64,
      .dataLinkDown 64,
      .portReleaseRetry 64,
      .portReleaseFail 64,
      .portReleaseLinkTimeout 64,
      .sidebandFrame (2 ^ 64),
      .culvertFlitReceived [],
      .mirrorData 0 8 0 0 0 (zeros 64) (zeros 4096),
      .mirrorData 0 0 0 0 0 [] (zeros 4096),
      .mirrorData 0 0 0 0 0 (zeros 64) [],
      .atomicMark 8 0 0 0,
      .atomicMark 0 4096 0 0,
      .record 0 8 [],
      .heartbeat [] 2 0 0 0 0 0 0].all (fun i : Instr => !i.wellFormed) = true := by decide +kernel

theorem test_illformed_5 :
    [.digest 8 0 0 0 [] 0,
      .digestReply 8 0 none,
      .sync 8 false,
      .handoverRequest 8 0,
      .handoverDone 8 0,
      .config 8 0 0 [] 0,
      .settled 8,
      .pairPoolHandover 8,
      .unitAcknowledge 71,
      .mctpMessage { pkt0 with src := 256 } none,
      .mctpMessage { pkt0 with seq := 4 } none,
      .mctpMessage { pkt0 with tag := 16 } none,
      .mctpMessage { pkt0 with data := zeros 65 } none,
      .setEndpointId 256 0 0 0,
      .setEndpointId 0 32 0 0,
      .setEndpointId 0 0 4 0,
      .setEndpointId 0 0 0 256,
      .getEndpointId 256 0,
      .getEndpointId 0 32,
      .getMctpVersionSupport 256 0 0,
      .getMctpVersionSupport 0 32 0,
      .getMctpVersionSupport 0 0 256,
      .getMessageTypeSupport 256 0,
      .getMessageTypeSupport 0 32,
      .getVendorDefinedMessageSupport 256 0 0,
      .getVendorDefinedMessageSupport 0 32 0].all (fun i : Instr => !i.wellFormed) = true := by decide +kernel

theorem test_illformed_6 :
    [.getVendorDefinedMessageSupport 0 0 256,
      .udpDatagram 0 65536 [] none,
      .finish 14 false,
      .endSession 14,
      .getMeasurements false 0 256,
      .spdmMessage false 0 256 none,
      .spdmMessage false 0 0 (some 14),
      .sessionHeartbeatTimeout 14,
      .dictionaryRead (some 14) [],
      .dictionaryWrite (some 14) [],
      .dictionaryNop (some 14) [],
      .multipartTimeout 1040 0,
      .weirWaitWarn 8192 0,
      .weirWaitWarn 0 65536,
      .load 2 0 0 0,
      .load 0 0 0 4096,
      .installCurrent 2 0 0 0,
      .installCurrent 0 0 0 4096,
      .installPrevious 2 0 0 0,
      .installPrevious 0 0 0 4096,
      .retire 2 0 0 0,
      .retire 0 0 0 4096,
      .destroy 2 0 0 0,
      .destroy 0 0 0 4096,
      .clearStaging 2 0,
      .keyStagingWrite 2 0 []].all (fun i : Instr => !i.wellFormed) = true := by decide +kernel

theorem test_illformed_7 :
    [.keyPersistWrite 256,
      .pipeClear 4 false,
      .preload 64,
      .unlock 64,
      .sliceWayReenable 4 0,
      .wayMarchTestDone 4 0 false,
      .wayMarchTestDone 0 16 false,
      .wayDisable 4 0,
      .wayDisable 0 16,
      .hbmStackFailed 4,
      .p3v3AuxRise 2,
      .quadrantStepDown 4 0,
      .quadrantReturn 4 0,
      .fwSlotErase 2,
      .fwSlotVerify 2 ⟨[], true, true, true⟩ [] 0 0,
      .busMasterDisable 1026,
      .busMasterEnable 1026,
      .hostReadErrorCompletion 8192 0,
      .hostReadErrorCompletion 0 65536,
      .flr 1026,
      .flrComplete 1026,
      .d3hotEntry 1026,
      .d0Return 1026,
      .vfEnable 2 false 0,
      .vfEnable 0 false 513,
      .msixVectorUnmask 1026 .function].all (fun i : Instr => !i.wellFormed) = true := by decide +kernel

theorem test_illformed_8 :
    [.perstAssert 2,
      .perstRelease 2 0 0,
      .perstRelease 0 8 0,
      .perstRelease 0 0 17,
      .hotReset 2,
      .hostLinkDown 2,
      .stormQuiet 18,
      .eventRingEnable 2 false,
      .eventRingCoalesceTimeout 2,
      .subscribe 14 0,
      .subscribe 0 256,
      .eventSubFetch 14 0,
      .eventStoreRead 14 0,
      .alarmStoreRead 14 0,
      .admissionTimeout 64,
      .driveControllerReady 64,
      .driveAerUncorrectable 64,
      .hbmRefreshThreshold 4 0,
      .i3cDynamicAddress false 128 0,
      .i3cDynamicAddress false 0 128,
      .listPageReadComplete 8192 0 (zeros 4096) false,
      .listPageReadComplete 0 65536 (zeros 4096) false,
      .listPageReadComplete 0 0 [] false,
      .pmeStatusClear 2,
      .zeroingComplete 3].all (fun i : Instr => !i.wellFormed) = true := by decide +kernel

theorem test_illformed_fwSlotData : Instr.wellFormed (.fwSlotData 0 (zeros 65537)) = false := by
  simp [Instr.wellFormed, zeros_length]

theorem test_wellformed_atBound :
    [Instr.qpHalt 8191, .memberAdd 7 63, .driveLinkUp 63 0 0, .fwSlotErase 1, .mapCheckpointNow 7, .unitAcknowledge 70].all (fun i => i.wellFormed) = true := by decide +kernel

/-! ## Values that the spec's worked examples give -/

/-- spec/03: each value can be checked by multiplication, 0x07 ⊗ 0xBA = 0x01. -/
theorem test_field_product : gfMul 0x07 0xBA = 0x01 := by decide +kernel

/-- spec/03, first and second attempt: the rows inv(1 ⊕ (2 + j)) and inv(0 ⊕ (2 + j)). -/
theorem test_cauchy_rows : cauchyRow 1 2 6 = [0xF4, 0x8E, 0xA7, 0x47, 0xBA, 0x7A] ∧ cauchyRow 0 2 6 = [0x8E, 0xF4, 0x47, 0xA7, 0x7A, 0xBA] := by decide +kernel

/-- spec/03: CODE_CHECK_TOTAL reads 10 + 45 + 120 = 175. -/
theorem test_check_total : checkTotal 10 3 = 175 := by decide +kernel

/-- spec/03, columns of one segment: q = 37, w = 12, slots 4 and 13 out. -/
theorem test_columns : columnsFor [0, 1, 2, 3, 5, 6, 7, 8, 9, 10, 11, 12, 14, 15] 37 12 = [10, 0, 6, 11, 1, 7, 12, 2, 8, 14, 3, 9] := by decide +kernel

/-- spec/04, resolving an entry. -/
theorem test_entry : parseEntry 0x4000000E84048D07 = .array 929 4660 7 := by decide +kernel

/-- A joined pair whose pack holds `mj` millijoules, as in spec/05, setting and losing the Weir. -/
def weirState (mj rate : Int) : State :=
  let a := wr (wr (wrB (modPair State.reset (fun x => { x with joined := true })) Obj.PACK_ENABLE 0 true) Obj.PACK_STATE 0 3) Obj.PACK_USABLE_ENERGY 0 mj
  wr (wr (wr (wr (wr (wr (wr a Obj.CISTERN_STATE 0 1) Obj.CISTERN_DUMP_RATE 0 rate) Obj.MIRROR_RESERVE 0 8589934592) Obj.WEIR_LIMIT 0 8589934592) Obj.WEIR_MARGIN 0 150) Obj.DUMP_POWER 0 100) Obj.DUMP_T_FIXED 0 350

/-- spec/05: at 420 J the Weir is 8 GiB and CEILING binds; at 300 J it is 4,610,064,384 bytes and ENERGY binds; with a die lost it is 3,785,064,448 bytes. -/
theorem test_weir :
    (let t := recomputeWeir (weirState 420000 8000); rdN t Obj.WEIR_CURRENT 0 = 8589934592 ∧ rdN t Obj.WEIR_BINDING 0 = 1 ∧ rdN t Obj.WEIR_ENERGY_BYTES 0 = 11010065408) ∧
    (let t := recomputeWeir (weirState 300000 8000); rdN t Obj.WEIR_CURRENT 0 = 4610064384 ∧ rdN t Obj.WEIR_BINDING 0 = 2) ∧
    (let t := recomputeWeir (weirState 300000 7500); rdN t Obj.WEIR_CURRENT 0 = 3785064448) := by decide +kernel

end Sys2Proof.Tests
end

section
/-! PROOFS. How a dictionary response reaches a command's queue pair (R62), and where the staged set of an epoch is cleared (R78). -/

namespace Sys2Proof.Machine

open Sys2Proof

/-! ## Bytes written to the host leave the queue pairs -/

@[simp] theorem hostScatter_qps (s : State) (f : Nat) (descs : List Desc) (o : Nat) (b : Bytes) : (hostScatter s f descs o b).qps = s.qps :=
  (hostScatter_keeps (Mask.le_self _) (Keeps.refl s)).parts .qps (by decide)

@[simp] theorem qpOf_hostScatter (s : State) (f : Nat) (descs : List Desc) (o : Nat) (b : Bytes) (q : Nat) : qpOf (hostScatter s f descs o b) q = qpOf s q := by
  simp only [qpOf, hostScatter_qps]

/-! ## Ending a command appends its completion and drives nothing -/

@[simp] theorem dropCmd_cpl (s : State) (q tag : Nat) : (qpOf (dropCmd s q tag) q).cpl = (qpOf s q).cpl := by
  simp only [dropCmd, qpOf_modQp]

theorem finishWith_appends (s : State) (q : Nat) (c : Cmd) (e : Cpl) :
    ∃ x, (qpOf (finishWith s q c e) q).cpl = (qpOf s q).cpl ++ [x] ∧ x.tag = e.tag ∧ x.status = e.status := by
  rw [finishWith, buildCpl_cpl, dropCmd_cpl]
  exact ⟨_, rfl, rfl, rfl⟩

theorem finish_appends (s : State) (q : Nat) (c : Cmd) (status result : Nat) :
    ∃ x, (qpOf (finish s q c status result) q).cpl = (qpOf s q).cpl ++ [x] ∧ x.tag = c.tag ∧ x.status = status :=
  finishWith_appends s q c (cmdCpl s c status result)

@[simp] theorem finish_out (s : State) (q : Nat) (c : Cmd) (status result : Nat) : (finish s q c status result).out = s.out := rfl

/-! ## Delivering a response to a command -/

/-- The status a dictionary command completes with when `b` is its response (R62). -/
def rspStatus (b : Bytes) : Nat :=
  if fieldAt b 6 1 = Rs.ok then St.success else St.invalidField

theorem deliverRsp_cmd_of_buffer {s : State} {q tag : Nat} {c : Cmd} {d : Desc} (b : Bytes) (hc : findCmd s q tag = some c) (hd : c.descs[1]? = some d) :
    deliverRsp s (.cmd q tag) b = finish (hostScatter s (qpFn s q) [d] 0 b) q c (rspStatus b) b.length := by
  simp only [deliverRsp, hc, hd, rspStatus]

theorem deliverRsp_cmd_of_no_buffer {s : State} {q tag : Nat} {c : Cmd} (b : Bytes) (hc : findCmd s q tag = some c) (hd : c.descs[1]? = none) :
    deliverRsp s (.cmd q tag) b = finish s q c (rspStatus b) b.length := by
  simp only [deliverRsp, hc, hd, rspStatus]

theorem deliverRsp_cmd_appends {s : State} {q tag : Nat} {c : Cmd} (b : Bytes) (hc : findCmd s q tag = some c) :
    ∃ x, (qpOf (deliverRsp s (.cmd q tag) b) q).cpl = (qpOf s q).cpl ++ [x] ∧ x.tag = c.tag ∧ x.status = rspStatus b := by
  cases hd : c.descs[1]? with
  | none =>
    rw [deliverRsp_cmd_of_no_buffer b hc hd]
    exact finish_appends s q c _ _
  | some d =>
    rw [deliverRsp_cmd_of_buffer b hc hd, ← qpOf_hostScatter s (qpFn s q) [d] 0 b q]
    exact finish_appends _ q c _ _

/-- Settles O9: the response is written to the second descriptor's buffer, if there is one, and `finish` then appends the one completion. -/
theorem dictionaryCompletions : Obligations.DictionaryCompletions := by
  intro s q tag c b hc
  refine ⟨deliverRsp_cmd_appends b hc, fun d hd => ?_⟩
  rw [deliverRsp_cmd_of_buffer b hc hd, finish_out]

/-! ## The staged set -/

/-- A loop whose every step leaves the epoch part leaves it. -/
theorem forRange_ep {f : Nat → State → State} (hf : ∀ i t, (f i t).ep = t.ep) (n : Nat) (s : State) : (forRange n f s).ep = s.ep := by
  unfold forRange
  induction List.range n generalizing s with
  | nil => rfl
  | cons i l ih => rw [List.foldl_cons, ih, hf]

theorem forRange_wr_ep (o : ObjDesc) (v : Nat → State → Int) (n : Nat) (s : State) : (forRange n (fun i t => wr t o i (v i t)) s).ep = s.ep :=
  forRange_ep (f := fun i t => wr t o i (v i t)) (fun _ _ => rfl) n s

theorem forRange_resetPoolSt_ep (n : Nat) (s : State) : (forRange n (fun p t => resetPoolSt t p) s).ep = s.ep :=
  forRange_ep (f := fun p t => resetPoolSt t p) (fun _ _ => rfl) n s

@[simp] theorem noteSlots_ep (s : State) : (noteSlots s).ep = s.ep := rfl

/-- A reset of the main logic resets the epoch part; its loops only reset pools and write registers, some of them under a condition. -/
theorem mainReset_ep (s : State) : (mainReset s).ep = resetEpoch s.ep := by
  simp only [mainReset, noteSlots_ep, wr_ep, wrB_ep, forRange_wr_ep, forRange_resetPoolSt_ep, forRange_ep, apply_ite State.ep, ite_self, implies_true]

theorem mainReset_staged (s : State) : (mainReset s).ep.staged = [] := by
  rw [mainReset_ep, resetEpoch]

theorem exec_epochDiscard_idle {s : State} (h : epochState s = Es.idle) : exec .epochDiscard s = .next (discardStaged s) :=
  congrArg Host.Outcome.next (if_pos h)

theorem exec_epochDiscard_busy {s : State} (h : epochState s ≠ Es.idle) : exec .epochDiscard s = .next s :=
  congrArg Host.Outcome.next (if_neg h)

@[simp] theorem discardStaged_staged (s : State) : (discardStaged s).ep.staged = [] := rfl

@[simp] theorem discardStaged_dict (s : State) : (discardStaged s).dict = s.dict := rfl

/-- Settles O10: a main reset resets the epoch part, and EPOCH_DISCARD acts in IDLE only. -/
theorem stagedSetIsLost : Obligations.StagedSetIsLost :=
  ⟨mainReset_staged,
    fun s h => ⟨discardStaged s, exec_epochDiscard_idle h, discardStaged_staged s, discardStaged_dict s⟩,
    fun _ h => exec_epochDiscard_busy h⟩

end Sys2Proof.Machine
end

section
/-! PROOFS. What WEIR_RECOMPUTE writes into the registers of the Weir (R182, R184, R609). -/

namespace Sys2Proof.Machine

open Sys2Proof

/-! ## The energy input is the pack's estimate (R184) -/

/-- The state once the recomputation has taken the pack's estimate, or nothing, as its energy input. -/
def takeEnergyInput (s : State) : State :=
  wr s Obj.WEIR_ENERGY_INPUT 0 (if packCurrent s then (rdN s Obj.PACK_USABLE_ENERGY 0 : Int) else 0)

theorem rdN_takeEnergyInput (s : State) {o : ObjDesc} (h : o.key 0 ≠ Obj.WEIR_ENERGY_INPUT.key 0) : rdN (takeEnergyInput s) o 0 = rdN s o 0 :=
  rdN_wr_other s _ h

theorem rdB_takeEnergyInput (s : State) {o : ObjDesc} (h : o.key 0 ≠ Obj.WEIR_ENERGY_INPUT.key 0) : rdB (takeEnergyInput s) o 0 = rdB s o 0 :=
  rdB_wr_other s _ h

theorem energyInput_of_current {s : State} (h : packCurrent s = true) : rdN (takeEnergyInput s) Obj.WEIR_ENERGY_INPUT 0 = rdN s Obj.PACK_USABLE_ENERGY 0 := by
  rw [takeEnergyInput, if_pos h, rdN_wr_same]

@[simp] theorem packCurrent_takeEnergyInput (s : State) : packCurrent (takeEnergyInput s) = packCurrent s := by
  simp (disch := decide) only [packCurrent, rdN_takeEnergyInput, rdB_takeEnergyInput]

@[simp] theorem energyFails_takeEnergyInput (s : State) : energyFails (takeEnergyInput s) = energyFails s := by
  simp (disch := decide) only [energyFails, packCurrent_takeEnergyInput, rdN_takeEnergyInput]

@[simp] theorem weirOf_takeEnergyInput (s : State) (we : Nat) : weirOf (takeEnergyInput s) we = weirOf s we := by
  simp (disch := decide) only [weirOf, rdN_takeEnergyInput, rdB_takeEnergyInput]

@[simp] theorem weirBinding_takeEnergyInput (s : State) (we : Nat) : weirBinding (takeEnergyInput s) we = weirBinding s we := by
  simp (disch := decide) only [weirBinding, packCurrent_takeEnergyInput, rdN_takeEnergyInput, rdB_takeEnergyInput]

/-! ## The conditions and terms, as the rules state them -/

theorem packCurrent_iff (s : State) : packCurrent s = true ↔ rdB s Obj.PACK_ENABLE 0 = true ∧ rdN s Obj.PACK_STATE 0 = 3 := by
  rw [packCurrent, Bool.and_eq_true, beq_iff_eq]

theorem energyFails_eq_false_iff (s : State) :
    energyFails s = false ↔ packCurrent s = true ∧ rdN s Obj.CISTERN_STATE 0 = Cs.armed ∧ rdN s Obj.ILOG_STATE 0 ≠ 3 := by
  simp only [energyFails, Bool.or_eq_false_iff, Bool.not_eq_false', bne_eq_false_iff_eq, beq_eq_false_iff_ne, and_assoc, ne_eq]

/-- energy_bytes of R184: where the inputs hold the pack is current, so that the energy input is the pack's usable energy. -/
theorem energyBytes_takeEnergyInput (s : State) :
    energyBytes (takeEnergyInput s) =
      if energyFails s = false then
        (100 * rdN s Obj.PACK_USABLE_ENERGY 0 - rdN s Obj.DUMP_T_FIXED 0 * (rdN s Obj.DUMP_POWER 0 * rdN s Obj.WEIR_MARGIN 0)) * rdN s Obj.CISTERN_DUMP_RATE 0 * 1000 /
          (rdN s Obj.DUMP_POWER 0 * rdN s Obj.WEIR_MARGIN 0)
      else 0 := by
  rw [energyBytes, energyFails_takeEnergyInput]
  cases h : energyFails s with
  | true => rfl
  | false =>
    have hcurrent : packCurrent s = true := ((energyFails_eq_false_iff s).mp h).1
    simp (disch := decide) only [energyInput_of_current hcurrent, rdN_takeEnergyInput, Bool.false_eq_true, if_false, if_true]

/-- WEIR_BINDING of R609, its conditions said as the energy inputs' own. -/
theorem weirBinding_eq (s : State) (we : Nat) :
    weirBinding s we =
      if rdB s Obj.WEIR_FORCE_WRITE_THROUGH 0 = true then 3
      else if ¬(rdB s Obj.PACK_ENABLE 0 = true ∧ rdN s Obj.PACK_STATE 0 = 3) then 4
      else if rdN s Obj.CISTERN_STATE 0 ≠ Cs.armed then 5
      else if ¬rdN s Obj.ILOG_STATE 0 ≠ 3 then 6
      else if min (rdN s Obj.WEIR_LIMIT 0) (min gib8 we) = gib8 then 1
      else if min (rdN s Obj.WEIR_LIMIT 0) (min gib8 we) = rdN s Obj.WEIR_LIMIT 0 then 0 else 2 := by
  simp only [weirBinding, ← packCurrent_iff, Bool.not_eq_true', Bool.not_eq_true, not_not]

/-! ## What the recomputation writes -/

/-- weir_energy of R184. -/
def weirEnergy (s : State) : Nat :=
  energyBytes (takeEnergyInput s) - reserveInEffect (takeEnergyInput s)

/-- The state with the recomputed Weir in its registers, before a fall of the Weir is acted on. -/
def writeWeir (s : State) : State :=
  wrB (wr (wr (wr (wr (takeEnergyInput s) Obj.MIRROR_RESERVE_IN_EFFECT 0 (reserveInEffect (takeEnergyInput s))) Obj.WEIR_ENERGY_BYTES 0 (weirEnergy s))
    Obj.WEIR_BINDING 0 (weirBinding (takeEnergyInput s) (weirEnergy s))) Obj.WEIR_CURRENT 0 (weirOf (takeEnergyInput s) (weirEnergy s)))
    Obj.WRITE_THROUGH 0 (weirOf (takeEnergyInput s) (weirEnergy s) == 0)

theorem recomputeWeir_eq (s : State) :
    recomputeWeir s =
      if weirOf (takeEnergyInput s) (weirEnergy s) < rdN s Obj.OWN_DIRTY_BYTES 0 ∧ rdN s Obj.OWN_DIRTY_BYTES 0 ≤ rdN s Obj.WEIR_CURRENT 0 then weirFell (writeWeir s)
      else writeWeir s :=
  rfl

theorem rdN_writeWeir_reserve (s : State) : rdN (writeWeir s) Obj.MIRROR_RESERVE_IN_EFFECT 0 = reserveInEffect (takeEnergyInput s) := by
  simp (disch := decide) only [writeWeir, wrB, rdN_wr_other, rdN_wr_same]

theorem rdN_writeWeir_energy (s : State) : rdN (writeWeir s) Obj.WEIR_ENERGY_BYTES 0 = weirEnergy s := by
  simp (disch := decide) only [writeWeir, wrB, rdN_wr_other, rdN_wr_same]

theorem rdN_writeWeir_binding (s : State) : rdN (writeWeir s) Obj.WEIR_BINDING 0 = weirBinding s (weirEnergy s) := by
  simp (disch := decide) only [writeWeir, wrB, rdN_wr_other, rdN_wr_same, weirBinding_takeEnergyInput]

theorem rdN_writeWeir_current (s : State) : rdN (writeWeir s) Obj.WEIR_CURRENT 0 = weirOf s (weirEnergy s) := by
  simp (disch := decide) only [writeWeir, wrB, rdN_wr_other, rdN_wr_same, weirOf_takeEnergyInput]

/-! ## A fall of the Weir leaves the registers of the Weir (R189) -/

/-- What closing the host-class stripes and raising the WARN event may write. -/
def weirFellFoot : Foot :=
  ⟨[.ev, .host, .prot, .pools, .drv, .pair, .out], some (evObjs ++ stripeObjs ++ cmdObjs ++ linkObjs)⟩

theorem weirFell_keepsFoot (s : State) : Keeps weirFellFoot.mask s (weirFell s) :=
  weirFell_keeps (by decide +kernel) (Keeps.refl s)

theorem rdN_recomputeWeir (s : State) {o : ObjDesc} (h : Mask.free weirFellFoot.mask o = true) (i : Nat) : rdN (recomputeWeir s) o i = rdN (writeWeir s) o i := by
  rw [recomputeWeir_eq]
  split
  · exact (weirFell_keepsFoot _).rdN h i
  · rfl

theorem recomputeWeir_reserve (s : State) : rdN (recomputeWeir s) Obj.MIRROR_RESERVE_IN_EFFECT 0 = reserveInEffect (takeEnergyInput s) := by
  rw [rdN_recomputeWeir s (by decide +kernel), rdN_writeWeir_reserve]

theorem recomputeWeir_energy (s : State) : rdN (recomputeWeir s) Obj.WEIR_ENERGY_BYTES 0 = weirEnergy s := by
  rw [rdN_recomputeWeir s (by decide +kernel), rdN_writeWeir_energy]

theorem recomputeWeir_binding (s : State) : rdN (recomputeWeir s) Obj.WEIR_BINDING 0 = weirBinding s (weirEnergy s) := by
  rw [rdN_recomputeWeir s (by decide +kernel), rdN_writeWeir_binding]

theorem recomputeWeir_current (s : State) : rdN (recomputeWeir s) Obj.WEIR_CURRENT 0 = weirOf s (weirEnergy s) := by
  rw [rdN_recomputeWeir s (by decide +kernel), rdN_writeWeir_current]

/-! ## WEIR_RECOMPUTE -/

theorem exec_weirRecompute (s : State) : exec .weirRecompute s = .next (recomputeWeir (noteCistern s)) :=
  rfl

/-- Settles O11: the registers read what `recomputeWeir` wrote, which acting on a fall of the Weir leaves alone; and the terms are those of the inputs, which
taking the energy input leaves alone. -/
theorem weirComputation : Obligations.WeirComputation := by
  rintro r s rfl
  refine ⟨_, exec_weirRecompute r, ?_⟩
  generalize noteCistern r = s
  intro current armed readable load energy we limit least
  have hholds : energyFails s = false ↔ current ∧ armed ∧ readable := by
    rw [energyFails_eq_false_iff, packCurrent_iff]
    rfl
  have hwe : weirEnergy s = we := by
    rw [weirEnergy, energyBytes_takeEnergyInput, if_congr hholds rfl rfl, ← recomputeWeir_reserve]
  refine ⟨(recomputeWeir_energy s).trans hwe, ?_, ?_⟩
  · rw [recomputeWeir_current, hwe]
    rfl
  · rw [recomputeWeir_binding, hwe, weirBinding_eq]
    rfl

end Sys2Proof.Machine
end

section
/-! PROOFS. What a fault of the backup pack leaves behind: PACK_STATE, PACK_FAULT_CAUSE and charging (R506, R507, Table 14-5). -/

namespace Sys2Proof.Machine

open Sys2Proof

/-! ## PACK_CHG_EN follows the conditions of R506 -/

/-- The level that PACK_CHG_EN was last driven to. -/
def chargePin (s : State) : Nat :=
  Tbl.getD s.pins Pin.packCharge.num 0

theorem chargePin_drive_charge (s : State) (on : Bool) : chargePin (drive s .packCharge on) = b2n on :=
  Tbl.getD_set_same _ _ _ _

theorem chargePin_drive_test (s : State) (on : Bool) : chargePin (drive s .packTest on) = chargePin s :=
  Tbl.getD_set_other _ _ _ (by decide)

theorem mayCharge_of_not_live {s : State} (h : packLive s = false) : mayCharge s = false := by
  simp only [mayCharge, h, Bool.and_false, Bool.false_and]

theorem noteCharge_charging (s : State) : rdB (noteCharge s) Obj.PACK_CHARGING 0 = mayCharge s := by
  unfold noteCharge
  split
  case isTrue settled => exact settled.symm
  case isFalse => exact rdB_wrB_same ..

theorem noteCharge_chargePin {s : State} (h : chargePin s = b2n (rdB s Obj.PACK_CHARGING 0)) : chargePin (noteCharge s) = b2n (mayCharge s) := by
  unfold noteCharge
  split
  case isTrue settled => rw [h, settled]
  case isFalse => exact chargePin_drive_charge s (mayCharge s)

theorem rdN_noteCharge (s : State) {o : ObjDesc} (h : o.key 0 ≠ Obj.PACK_CHARGING.key 0) : rdN (noteCharge s) o 0 = rdN s o 0 := by
  unfold noteCharge
  split
  · rfl
  · rw [wrB, rdN_wr_other _ _ h, rdN_drive]

/-! ## Ending a measurement leaves charging alone -/

@[simp] theorem endMeasure_dict (s : State) : (endMeasure s).dict = s.dict := by
  unfold endMeasure
  split <;> rfl

@[simp] theorem rdB_endMeasure (s : State) (o : ObjDesc) (i : Nat) : rdB (endMeasure s) o i = rdB s o i := by
  simp only [rdB, rd, endMeasure_dict]

@[simp] theorem chargePin_endMeasure (s : State) : chargePin (endMeasure s) = chargePin s := by
  unfold endMeasure
  split
  · exact chargePin_drive_test s false
  · rfl

/-! ## The fault, before charging, the Weir and the event follow -/

/-- The state with PACK_STATE FAULT and its cause written, and no measurement running or due. -/
def markFault (s : State) (cause : Nat) : State :=
  wr (wr (modPack (endMeasure s) (fun x => { x with due := false })) Obj.PACK_FAULT_CAUSE 0 cause) Obj.PACK_STATE 0 (Pk.fault : Nat)

@[simp] theorem markFault_packState (s : State) (cause : Nat) : packState (markFault s cause) = Pk.fault :=
  rdN_wr_same ..

@[simp] theorem markFault_cause (s : State) (cause : Nat) : rdN (markFault s cause) Obj.PACK_FAULT_CAUSE 0 = cause := by
  rw [markFault, rdN_wr_other _ _ (by decide), rdN_wr_same]

@[simp] theorem markFault_charging (s : State) (cause : Nat) : rdB (markFault s cause) Obj.PACK_CHARGING 0 = rdB s Obj.PACK_CHARGING 0 := by
  simp (disch := decide) only [markFault, rdB_wr_other, rdB_modPack, rdB_endMeasure]

@[simp] theorem markFault_chargePin (s : State) (cause : Nat) : chargePin (markFault s cause) = chargePin s :=
  chargePin_endMeasure s

theorem markFault_mayCharge (s : State) (cause : Nat) : mayCharge (markFault s cause) = false :=
  mayCharge_of_not_live (by rw [packLive, markFault_packState]; decide)

/-! ## The Weir and the event leave the pack alone -/

/-- What recomputing the Weir and raising the pack's event may write. -/
def weirFoot : Foot :=
  ⟨[.ev, .host, .prot, .pools, .drv, .pair, .out], some weirObjs⟩

/-- After the charger has followed the fault, only the Weir is recomputed and the ERROR event raised (Table 14-5). -/
theorem packFault_keepsFoot {s : State} (hlive : packLive s = true) (cause : Nat) :
    Keeps weirFoot.mask (noteCharge (markFault s cause)) (packFault s cause) := by
  rw [packFault, if_pos hlive]
  exact raiseOpen_keeps (by decide +kernel) (recomputeWeir_keeps (by decide +kernel) (Keeps.refl _))

section
variable {s : State} (hlive : packLive s = true) (cause : Nat)
include hlive

theorem packFault_packState : packState (packFault s cause) = Pk.fault :=
  calc packState (packFault s cause)
    _ = packState (noteCharge (markFault s cause)) := (packFault_keepsFoot hlive cause).rdN (by decide +kernel) 0
    _ = packState (markFault s cause) := rdN_noteCharge _ (by decide)
    _ = Pk.fault := markFault_packState s cause

theorem packFault_cause : rdN (packFault s cause) Obj.PACK_FAULT_CAUSE 0 = cause :=
  calc rdN (packFault s cause) Obj.PACK_FAULT_CAUSE 0
    _ = rdN (noteCharge (markFault s cause)) Obj.PACK_FAULT_CAUSE 0 := (packFault_keepsFoot hlive cause).rdN (by decide +kernel) 0
    _ = rdN (markFault s cause) Obj.PACK_FAULT_CAUSE 0 := rdN_noteCharge _ (by decide)
    _ = cause := markFault_cause s cause

theorem packFault_charging : rdB (packFault s cause) Obj.PACK_CHARGING 0 = false :=
  calc rdB (packFault s cause) Obj.PACK_CHARGING 0
    _ = rdB (noteCharge (markFault s cause)) Obj.PACK_CHARGING 0 := (packFault_keepsFoot hlive cause).rdB (by decide +kernel) 0
    _ = mayCharge (markFault s cause) := noteCharge_charging _
    _ = false := markFault_mayCharge s cause

theorem packFault_chargePin (hpin : chargePin s = b2n (rdB s Obj.PACK_CHARGING 0)) : chargePin (packFault s cause) = 0 := by
  have hpins : (packFault s cause).pins = (noteCharge (markFault s cause)).pins := (packFault_keepsFoot hlive cause).parts .pins (by decide +kernel)
  have hmark : chargePin (markFault s cause) = b2n (rdB (markFault s cause) Obj.PACK_CHARGING 0) := by
    rw [markFault_chargePin, markFault_charging, hpin]
  rw [chargePin, hpins, ← chargePin, noteCharge_chargePin hmark, markFault_mayCharge]
  rfl

end

/-! ## PACK_OVERVOLTAGE and PACK_CHARGER_FAULT (R507) -/

theorem exec_packOvervoltage (s : State) : exec .packOvervoltage s = .next (packFault s Pf.overvoltage) :=
  rfl

theorem exec_packChargerFault_charging {s : State} (h : rdB s Obj.PACK_CHARGING 0 = true) : exec .packChargerFault s = .next (packFault s Pf.charger) :=
  congrArg Host.Outcome.next (if_pos h)

/-- Settles O8: both commands fault a live pack with their cause; a pack in FAULT may not charge, so that PACK_CHG_EN goes low where it was high. -/
theorem packFaults : Obligations.PackFaults :=
  ⟨fun s hlive hpin =>
      ⟨packFault s Pf.overvoltage, exec_packOvervoltage s, packFault_chargePin hlive _ hpin, packFault_charging hlive _, packFault_packState hlive _, packFault_cause hlive _⟩,
    fun s hlive hcharging =>
      ⟨packFault s Pf.charger, exec_packChargerFault_charging hcharging, packFault_packState hlive _, packFault_cause hlive _⟩⟩

end Sys2Proof.Machine
end

section
/-! PROOFS. In which histogram bins a completion is counted (R597). -/

namespace Sys2Proof.Machine

open Sys2Proof

/-! ## The bin of a service time -/

/-- Bin `b` is meant for `t`: 2^b up to below 2^(b+1), with the first bin and the last one open to the outside (R597). -/
def InBin (t b : Nat) : Prop :=
  (b = 0 ∧ t < 2) ∨ (1 ≤ b ∧ b ≤ 30 ∧ 2 ^ b ≤ t ∧ t < 2 ^ (b + 1)) ∨ (b = 31 ∧ 2 ^ 31 ≤ t)

theorem InBin.histBin_eq {t b : Nat} (h : InBin t b) : histBin t = b := by
  obtain ⟨rfl, ht⟩ | ⟨hb, hb', hlo, hhi⟩ | ⟨rfl, ht⟩ := h
  · rw [histBin, if_pos ht]
  · have h2 : 2 ^ 1 ≤ 2 ^ b := Nat.pow_le_pow_right (by decide) hb
    have h31 : 2 ^ (b + 1) ≤ 2 ^ 31 := Nat.pow_le_pow_right (by decide) (by omega)
    rw [histBin, if_neg (by omega), if_neg (by omega)]
    exact (Nat.log2_eq_iff (by omega)).mpr ⟨hlo, hhi⟩
  · rw [histBin, if_neg (by omega), if_pos ht]

theorem sat_eq_min (m v : Nat) : sat m v = min m v := by
  unfold sat
  split <;> omega

/-! ## Counting in a bin -/

/-- The bins with one more in bin `b` of the histogram with object key `k`. -/
def addToBin (h : Tbl Nat) (k b : Nat) : Tbl Nat :=
  Tbl.put h 0 (k * 32 + b) (ctrAdd (Tbl.getD h (k * 32 + b) 0) 1)

@[simp] theorem countHist_hist (s : State) (k b : Nat) : (countHist s k b).ev.hist = addToBin s.ev.hist k b := rfl

@[simp] theorem getD_addToBin_same (h : Tbl Nat) (k b : Nat) : Tbl.getD (addToBin h k b) (k * 32 + b) 0 = ctrAdd (Tbl.getD h (k * 32 + b) 0) 1 :=
  Tbl.get_put_same ..

theorem getD_addToBin_other (h : Tbl Nat) {k j : Nat} (b : Nat) (hne : j ≠ k) : Tbl.getD (addToBin h k b) (j * 32 + b) 0 = Tbl.getD h (j * 32 + b) 0 :=
  congrArg (Option.getD · 0) (Tbl.get_put_other _ _ _ (by omega))

/-- Counting in the same bin of two histograms adds one to each. -/
theorem getD_addToBin_pair (h : Tbl Nat) {k j : Nat} (b : Nat) (hne : k ≠ j) :
    Tbl.getD (addToBin (addToBin h k b) j b) (k * 32 + b) 0 = ctrAdd (Tbl.getD h (k * 32 + b) 0) 1 ∧
    Tbl.getD (addToBin (addToBin h k b) j b) (j * 32 + b) 0 = ctrAdd (Tbl.getD h (j * 32 + b) 0) 1 := by
  rw [getD_addToBin_other _ b hne, getD_addToBin_same, getD_addToBin_same, getD_addToBin_other _ b hne.symm]
  exact ⟨rfl, rfl⟩

/-- The histograms of a queue pair and of a volume have different keys, whatever their instances. -/
theorem qpHistogram_ne_volHistogram (q v : Nat) :
    Obj.QP_READ_HISTOGRAM.key q ≠ Obj.VOL_READ_HISTOGRAM.key v ∧ Obj.QP_WRITE_HISTOGRAM.key q ≠ Obj.VOL_WRITE_HISTOGRAM.key v := by
  constructor <;> exact ObjDesc.key_ne_of_index (by decide) (by decide) (by decide) (by decide) (by decide)

/-! ## The bins after a completion is counted -/

section
variable (s : State) (q : Nat) {c : Cpl}

theorem countCpl_hist_read (h : c.opcode = 1) : (countCpl s q c).ev.hist =
    addToBin (addToBin s.ev.hist (Obj.QP_READ_HISTOGRAM.key q) (histBin (sat 0xFFFFFFFF c.time))) (Obj.VOL_READ_HISTOGRAM.key c.volume) (histBin (sat 0xFFFFFFFF c.time)) := by
  simp [countCpl, h, apply_ite State.ev]

theorem countCpl_hist_write (h : c.opcode = 2) : (countCpl s q c).ev.hist =
    addToBin (addToBin s.ev.hist (Obj.QP_WRITE_HISTOGRAM.key q) (histBin (sat 0xFFFFFFFF c.time))) (Obj.VOL_WRITE_HISTOGRAM.key c.volume) (histBin (sat 0xFFFFFFFF c.time)) := by
  simp [countCpl, h, apply_ite State.ev]

theorem countCpl_hist_other (hr : c.opcode ≠ 1) (hw : c.opcode ≠ 2) : (countCpl s q c).ev.hist = s.ev.hist := by
  simp [countCpl, hr, hw, apply_ite State.ev]

end

/-! ## The rest of writing an entry leaves the event engine's part -/

@[simp] theorem cplWrites_ev (s : State) (q seq : Nat) (c : Cpl) : (cplWrites s q seq c).ev = s.ev :=
  (cplWrites_keeps (Mask.le_self _) (Keeps.refl s)).parts .ev (by decide)

@[simp] theorem ackSlots_ev (s : State) (l : List Nat) : (ackSlots s l).ev = s.ev :=
  (ackSlots_keeps (Mask.le_self _) (Keeps.refl s)).parts .ev (by decide)

@[simp] theorem signalCr_ev (s : State) (q : Nat) : (signalCr s q).ev = s.ev :=
  (signalCr_keeps (Mask.le_self _) (Keeps.refl s)).parts .ev (by decide)

@[simp] theorem settleReset_ev (s : State) (q : Nat) : (settleReset s q).ev = s.ev :=
  (settleReset_keeps (Mask.le_self _) (Keeps.refl s)).parts .ev (by decide)

/-- Of what writing the oldest entry does, only counting it reaches the counters and histograms. -/
theorem writeHead_ev {s : State} {q : Nat} {c : Cpl} {rest : List Cpl} (hcpl : (qpOf s q).cpl = c :: rest) (husable : crUsable s q = true)
    (hmaster : canMaster s (qpFn s q) = true) (hfree : crFree (qpOf s q) (rdN s Obj.CR_SIZE q) (seqNext (rdN s Obj.LAST_CR_SEQ q)) = true) :
    (writeHead s q).ev = (countCpl (cplWrites s q (seqNext (rdN s Obj.LAST_CR_SEQ q)) c) q c).ev := by
  simp only [writeHead, hcpl, husable, hmaster, hfree, Bool.and_self, if_true, settleReset_ev, apply_ite State.ev, signalCr_ev, ite_self, modQp_ev, ackSlots_ev, wr_ev]

/-! ## COMPLETION_WRITE -/

/-- Settles O12: writing the entry touches the histograms only where it is counted, in the bin of its SERVICE_TIME; and the queue pair's histogram and the volume's
have different keys, so that neither count disturbs the other. -/
theorem completionHistograms : Obligations.CompletionHistograms := by
  intro s q b c rest hcpl husable hmaster hfree hbin
  have hb : histBin (sat 0xFFFFFFFF c.time) = b := sat_eq_min _ _ ▸ InBin.histBin_eq hbin
  have hev := congrArg Events.hist (writeHead_ev hcpl husable hmaster hfree)
  obtain ⟨hread, hwrite⟩ := qpHistogram_ne_volHistogram q c.volume
  refine ⟨writeHead s q, rfl, fun hop => ?_, fun hop => ?_, fun hr hw => ?_⟩
  · rw [hev, countCpl_hist_read _ q hop, hb, cplWrites_ev]
    exact getD_addToBin_pair _ b hread
  · rw [hev, countCpl_hist_write _ q hop, hb, cplWrites_ev]
    exact getD_addToBin_pair _ b hwrite
  · rw [hev, countCpl_hist_other _ q hr hw, cplWrites_ev]

end Sys2Proof.Machine
end

section
/-! PROOFS. Every command completes and keeps what lies outside its footprint (log entry 1); what an idle step keeps; the reset state. -/

namespace Sys2Proof.Machine

open Sys2Proof

-- The kernel evaluates closed facts below (masks of frames, concrete states): one declaration after another keeps the memory this takes small.
set_option Elab.async false

/-! ## One frame for each command -/

/-- A frame of a command's meaning for the mask of its footprint, written out. -/
theorem exec_keeps_of {c : Instr} {s : State} {ps : List Part} {os : Option (List ObjDesc)} (hf : footOf c = ⟨ps, os⟩)
    (k : ∃ u, exec c s = .next u ∧ Keeps (Foot.mask ⟨ps, os⟩) s u) : ∃ u, exec c s = .next u ∧ Keeps (footOf c).mask s u := by
  rwa [hf]

theorem Foot.ok_of {c : Instr} {ps : List Part} {os : Option (List ObjDesc)} (hf : footOf c = ⟨ps, os⟩) (ok : Foot.ok ⟨ps, os⟩ = true) : (footOf c).ok = true := by
  rwa [hf]

/-- Every footprint names objects whose index and sub-index are in range. -/
theorem footOf_ok (c : Instr) : (footOf c).ok = true := by
  cases c <;> exact Foot.ok_of rfl (by decide +kernel)

/-- Every command answers a next state and keeps what its footprint does not name: the frame of its meaning, whose mask lies in the footprint's. -/
theorem exec_keeps (c : Instr) (s : State) : ∃ t, exec c s = .next t ∧ Keeps (footOf c).mask s t := by
  cases c with
  | pushSlotWrite => exact exec_keeps_of rfl (execPushSlotWrite_keeps (by decide +kernel) (Keeps.refl _))
  | pushSlotTimeout => exact exec_keeps_of rfl (execPushSlotTimeout_keeps (by decide +kernel) (Keeps.refl _))
  | srNotify => exact exec_keeps_of rfl (execSrNotify_keeps (by decide +kernel) (Keeps.refl _))
  | crRelease => exact exec_keeps_of rfl (execCrRelease_keeps (by decide +kernel) (Keeps.refl _))
  | ringFetchComplete => exact exec_keeps_of rfl (execRingFetchComplete_keeps (by decide +kernel) (Keeps.refl _))
  | qpPoll => exact exec_keeps_of rfl (execQpPoll_keeps (by decide +kernel) (Keeps.refl _))
  | crSlotPoll => exact exec_keeps_of rfl (execCrSlotPoll_keeps (by decide +kernel) (Keeps.refl _))
  | admitCommand => exact exec_keeps_of rfl (execAdmitCommand_keeps (by decide +kernel) (Keeps.refl _))
  | completionWrite => exact exec_keeps_of rfl (execCompletionWrite_keeps (by decide +kernel) (Keeps.refl _))
  | msixCoalesceTimeout => exact exec_keeps_of rfl (execMsixCoalesceTimeout_keeps (by decide +kernel) (Keeps.refl _))
  | adminCtrlEnable => exact exec_keeps_of rfl (execAdminCtrlEnable_keeps (by decide +kernel) (Keeps.refl _))
  | adminCtrlReset => exact exec_keeps_of rfl (execAdminCtrlReset_keeps (by decide +kernel) (Keeps.refl _))
  | adminCtrlMode => exact exec_keeps_of rfl (execAdminCtrlMode_keeps (by decide +kernel) (Keeps.refl _))
  | qpModeWrite => exact exec_keeps_of rfl (execQpModeWrite_keeps (by decide +kernel) (Keeps.refl _))
  | qpHalt => exact exec_keeps_of rfl (execQpHalt_keeps (by decide +kernel) (Keeps.refl _))
  | queueResetTimeout => exact exec_keeps_of rfl (execQueueResetTimeout_keeps (by decide +kernel) (Keeps.refl _))
  | read => exact exec_keeps_of rfl (execRead_keeps (by decide +kernel) (Keeps.refl _))
  | write => exact exec_keeps_of rfl (execWrite_keeps (by decide +kernel) (Keeps.refl _))
  | flush => exact exec_keeps_of rfl (execFlush_keeps (by decide +kernel) (Keeps.refl _))
  | flushCompletion => exact exec_keeps_of rfl (execFlushCompletion_keeps (by decide +kernel) (Keeps.refl _))
  | deallocate => exact exec_keeps_of rfl (execDeallocate_keeps (by decide +kernel) (Keeps.refl _))
  | deallocateCompletion => exact exec_keeps_of rfl (execDeallocateCompletion_keeps (by decide +kernel) (Keeps.refl _))
  | verify => exact exec_keeps_of rfl (execVerify_keeps (by decide +kernel) (Keeps.refl _))
  | dictRead => exact exec_keeps_of rfl (execDictRead_keeps (by decide +kernel) (Keeps.refl _))
  | dictWrite => exact exec_keeps_of rfl (execDictWrite_keeps (by decide +kernel) (Keeps.refl _))
  | queueCreate => exact exec_keeps_of rfl (execQueueCreate_keeps (by decide +kernel) (Keeps.refl _))
  | queueReset => exact exec_keeps_of rfl (execQueueReset_keeps (by decide +kernel) (Keeps.refl _))
  | sanitize => exact exec_keeps_of rfl (execSanitize_keeps (by decide +kernel) (Keeps.refl _))
  | format => exact exec_keeps_of rfl (execFormat_keeps (by decide +kernel) (Keeps.refl _))
  | formatPhase1Drained => exact exec_keeps_of rfl (execFormatPhase1Drained_keeps (by decide +kernel) (Keeps.refl _))
  | sanitizeCisternWaitEnd => exact exec_keeps_of rfl (execSanitizeCisternWaitEnd_keeps (by decide +kernel) (Keeps.refl _))
  | writeDmaLanded => exact exec_keeps_of rfl (execWriteDmaLanded_keeps (by decide +kernel) (Keeps.refl _))
  | writeCompletion => exact exec_keeps_of rfl (execWriteCompletion_keeps (by decide +kernel) (Keeps.refl _))
  | readOverlapResolve => exact exec_keeps_of rfl (execReadOverlapResolve_keeps (by decide +kernel) (Keeps.refl _))
  | writeStep7Release => exact exec_keeps_of rfl (execWriteStep7Release_keeps (by decide +kernel) (Keeps.refl _))
  | stripeAgeTimer => exact exec_keeps_of rfl (execStripeAgeTimer_keeps (by decide +kernel) (Keeps.refl _))
  | laneWaitEnd => exact exec_keeps_of rfl (execLaneWaitEnd_keeps (by decide +kernel) (Keeps.refl _))
  | columnWriteComplete => exact exec_keeps_of rfl (execColumnWriteComplete_keeps (by decide +kernel) (Keeps.refl _))
  | ilogRecordDurable => exact exec_keeps_of rfl (execIlogRecordDurable_keeps (by decide +kernel) (Keeps.refl _))
  | slotRelease => exact exec_keeps_of rfl (execSlotRelease_keeps (by decide +kernel) (Keeps.refl _))
  | ilogWearRotate => exact exec_keeps_of rfl (execIlogWearRotate_keeps (by decide +kernel) (Keeps.refl _))
  | checkpointStart => exact exec_keeps_of rfl (execCheckpointStart_keeps (by decide +kernel) (Keeps.refl _))
  | checkpointStepDone => exact exec_keeps_of rfl (execCheckpointStepDone_keeps (by decide +kernel) (Keeps.refl _))
  | mapCheckpointNow => exact exec_keeps_of rfl (execMapCheckpointNow_keeps (by decide +kernel) (Keeps.refl _))
  | mapLeafReadComplete => exact exec_keeps_of rfl (execMapLeafReadComplete_keeps (by decide +kernel) (Keeps.refl _))
  | dredgeSelect => exact exec_keeps_of rfl (execDredgeSelect_keeps (by decide +kernel) (Keeps.refl _))
  | segmentResetStart => exact exec_keeps_of rfl (execSegmentResetStart_keeps (by decide +kernel) (Keeps.refl _))
  | zoneResetComplete => exact exec_keeps_of rfl (execZoneResetComplete_keeps (by decide +kernel) (Keeps.refl _))
  | poolActionCreate => exact exec_keeps_of rfl (execPoolActionCreate_keeps (by decide +kernel) (Keeps.refl _))
  | poolActionOnline => exact exec_keeps_of rfl (execPoolActionOnline_keeps (by decide +kernel) (Keeps.refl _))
  | poolActionOffline => exact exec_keeps_of rfl (execPoolActionOffline_keeps (by decide +kernel) (Keeps.refl _))
  | poolActionDestroy => exact exec_keeps_of rfl (execPoolActionDestroy_keeps (by decide +kernel) (Keeps.refl _))
  | poolActionStepDone => exact exec_keeps_of rfl (execPoolActionStepDone_keeps (by decide +kernel) (Keeps.refl _))
  | codeTableDataWrite => exact exec_keeps_of rfl (execCodeTableDataWrite_keeps (by decide +kernel) (Keeps.refl _))
  | codeCheckStart => exact exec_keeps_of rfl (execCodeCheckStart_keeps (by decide +kernel) (Keeps.refl _))
  | codeCheckDone => exact exec_keeps_of rfl (execCodeCheckDone_keeps (by decide +kernel) (Keeps.refl _))
  | volumeCreate => exact exec_keeps_of rfl (execVolumeCreate_keeps (by decide +kernel) (Keeps.refl _))
  | volumeDelete => exact exec_keeps_of rfl (execVolumeDelete_keeps (by decide +kernel) (Keeps.refl _))
  | volumeDeleteDrained => exact exec_keeps_of rfl (execVolumeDeleteDrained_keeps (by decide +kernel) (Keeps.refl _))
  | volumeCapacityWrite => exact exec_keeps_of rfl (execVolumeCapacityWrite_keeps (by decide +kernel) (Keeps.refl _))
  | memberAdd => exact exec_keeps_of rfl (execMemberAdd_keeps (by decide +kernel) (Keeps.refl _))
  | memberRemove => exact exec_keeps_of rfl (execMemberRemove_keeps (by decide +kernel) (Keeps.refl _))
  | memberActionFail => exact exec_keeps_of rfl (execMemberActionFail_keeps (by decide +kernel) (Keeps.refl _))
  | rebuildStart => exact exec_keeps_of rfl (execRebuildStart_keeps (by decide +kernel) (Keeps.refl _))
  | rebuildAutoStart => exact exec_keeps_of rfl (execRebuildAutoStart_keeps (by decide +kernel) (Keeps.refl _))
  | rebuildNextSegment => exact exec_keeps_of rfl (execRebuildNextSegment_keeps (by decide +kernel) (Keeps.refl _))
  | memberReadComplete => exact exec_keeps_of rfl (execMemberReadComplete_keeps (by decide +kernel) (Keeps.refl _))
  | degradedDecodeDone => exact exec_keeps_of rfl (execDegradedDecodeDone_keeps (by decide +kernel) (Keeps.refl _))
  | patrolStripe => exact exec_keeps_of rfl (execPatrolStripe_keeps (by decide +kernel) (Keeps.refl _))
  | patrolRestart => exact exec_keeps_of rfl (execPatrolRestart_keeps (by decide +kernel) (Keeps.refl _))
  | resyncStripeCheck => exact exec_keeps_of rfl (execResyncStripeCheck_keeps (by decide +kernel) (Keeps.refl _))
  | reshapeCursorAdvance => exact exec_keeps_of rfl (execReshapeCursorAdvance_keeps (by decide +kernel) (Keeps.refl _))
  | driveGroupEnable => exact exec_keeps_of rfl (execDriveGroupEnable_keeps (by decide +kernel) (Keeps.refl _))
  | driveLinkUp => exact exec_keeps_of rfl (execDriveLinkUp_keeps (by decide +kernel) (Keeps.refl _))
  | admissionCommandComplete => exact exec_keeps_of rfl (execAdmissionCommandComplete_keeps (by decide +kernel) (Keeps.refl _))
  | driveCommandComplete => exact exec_keeps_of rfl (execDriveCommandComplete_keeps (by decide +kernel) (Keeps.refl _))
  | commandRetryDelay => exact exec_keeps_of rfl (execCommandRetryDelay_keeps (by decide +kernel) (Keeps.refl _))
  | driveCommandTimeout => exact exec_keeps_of rfl (execDriveCommandTimeout_keeps (by decide +kernel) (Keeps.refl _))
  | abortTimeLimit => exact exec_keeps_of rfl (execAbortTimeLimit_keeps (by decide +kernel) (Keeps.refl _))
  | controllerResetDone => exact exec_keeps_of rfl (execControllerResetDone_keeps (by decide +kernel) (Keeps.refl _))
  | recoveryTimeLimit => exact exec_keeps_of rfl (execRecoveryTimeLimit_keeps (by decide +kernel) (Keeps.refl _))
  | presenceDebounced => exact exec_keeps_of rfl (execPresenceDebounced_keeps (by decide +kernel) (Keeps.refl _))
  | presenceLost => exact exec_keeps_of rfl (execPresenceLost_keeps (by decide +kernel) (Keeps.refl _))
  | dataLinkDown => exact exec_keeps_of rfl (execDataLinkDown_keeps (by decide +kernel) (Keeps.refl _))
  | portReleaseRetry => exact exec_keeps_of rfl (execPortReleaseRetry_keeps (by decide +kernel) (Keeps.refl _))
  | portReleaseFail => exact exec_keeps_of rfl (execPortReleaseFail_keeps (by decide +kernel) (Keeps.refl _))
  | portReleaseLinkTimeout => exact exec_keeps_of rfl (execPortReleaseLinkTimeout_keeps (by decide +kernel) (Keeps.refl _))
  | sidebandFrame => exact exec_keeps_of rfl (execSidebandFrame_keeps (by decide +kernel) (Keeps.refl _))
  | driveHealthPoll => exact exec_keeps_of rfl (execDriveHealthPoll_keeps (by decide +kernel) (Keeps.refl _))
  | driveGateClose => exact exec_keeps_of rfl (execDriveGateClose_keeps (by decide +kernel) (Keeps.refl _))
  | driveGateOpen => exact exec_keeps_of rfl (execDriveGateOpen_keeps (by decide +kernel) (Keeps.refl _))
  | culvertFlitReceived => exact exec_keeps_of rfl (execCulvertFlitReceived_keeps (by decide +kernel) (Keeps.refl _))
  | culvertReplayTimeout => exact exec_keeps_of rfl (execCulvertReplayTimeout_keeps (by decide +kernel) (Keeps.refl _))
  | culvertDown => exact exec_keeps_of rfl (execCulvertDown_keeps (by decide +kernel) (Keeps.refl _))
  | bundleTrained => exact exec_keeps_of rfl (execBundleTrained_keeps (by decide +kernel) (Keeps.refl _))
  | bundleFailed => exact exec_keeps_of rfl (execBundleFailed_keeps (by decide +kernel) (Keeps.refl _))
  | mirrorData => exact exec_keeps_of rfl (execMirrorData_keeps (by decide +kernel) (Keeps.refl _))
  | mirrorAck => exact exec_keeps_of rfl (execMirrorAck_keeps (by decide +kernel) (Keeps.refl _))
  | mirrorRelease => exact exec_keeps_of rfl (execMirrorRelease_keeps (by decide +kernel) (Keeps.refl _))
  | atomicMark => exact exec_keeps_of rfl (execAtomicMark_keeps (by decide +kernel) (Keeps.refl _))
  | record => exact exec_keeps_of rfl (execRecord_keeps (by decide +kernel) (Keeps.refl _))
  | recordAck => exact exec_keeps_of rfl (execRecordAck_keeps (by decide +kernel) (Keeps.refl _))
  | heartbeat => exact exec_keeps_of rfl (execHeartbeat_keeps (by decide +kernel) (Keeps.refl _))
  | epochPrepare => exact exec_keeps_of rfl (execEpochPrepare_keeps (by decide +kernel) (Keeps.refl _))
  | epochPrepared => exact exec_keeps_of rfl (execEpochPrepared_keeps (by decide +kernel) (Keeps.refl _))
  | epochCommitMessage => exact exec_keeps_of rfl (execEpochCommitMessage_keeps (by decide +kernel) (Keeps.refl _))
  | epochAbort => exact exec_keeps_of rfl (execEpochAbort_keeps (by decide +kernel) (Keeps.refl _))
  | digest => exact exec_keeps_of rfl (execDigest_keeps (by decide +kernel) (Keeps.refl _))
  | digestReply => exact exec_keeps_of rfl (execDigestReply_keeps (by decide +kernel) (Keeps.refl _))
  | sync => exact exec_keeps_of rfl (execSync_keeps (by decide +kernel) (Keeps.refl _))
  | dumping => exact exec_keeps_of rfl (execDumping_keeps (by decide +kernel) (Keeps.refl _))
  | handoverRequest => exact exec_keeps_of rfl (execHandoverRequest_keeps (by decide +kernel) (Keeps.refl _))
  | handoverDone => exact exec_keeps_of rfl (execHandoverDone_keeps (by decide +kernel) (Keeps.refl _))
  | config => exact exec_keeps_of rfl (execConfig_keeps (by decide +kernel) (Keeps.refl _))
  | settled => exact exec_keeps_of rfl (execSettled_keeps (by decide +kernel) (Keeps.refl _))
  | pairJoin => exact exec_keeps_of rfl (execPairJoin_keeps (by decide +kernel) (Keeps.refl _))
  | pairAliveTimeout => exact exec_keeps_of rfl (execPairAliveTimeout_keeps (by decide +kernel) (Keeps.refl _))
  | pairHeartbeatTimeout => exact exec_keeps_of rfl (execPairHeartbeatTimeout_keeps (by decide +kernel) (Keeps.refl _))
  | pairTakeover => exact exec_keeps_of rfl (execPairTakeover_keeps (by decide +kernel) (Keeps.refl _))
  | fenceAckReceived => exact exec_keeps_of rfl (execFenceAckReceived_keeps (by decide +kernel) (Keeps.refl _))
  | fenceWaitTimeout => exact exec_keeps_of rfl (execFenceWaitTimeout_keeps (by decide +kernel) (Keeps.refl _))
  | reservationRetry => exact exec_keeps_of rfl (execReservationRetry_keeps (by decide +kernel) (Keeps.refl _))
  | takeoverStepDone => exact exec_keeps_of rfl (execTakeoverStepDone_keeps (by decide +kernel) (Keeps.refl _))
  | pairPoolHandover => exact exec_keeps_of rfl (execPairPoolHandover_keeps (by decide +kernel) (Keeps.refl _))
  | pairFaultClear => exact exec_keeps_of rfl (execPairFaultClear_keeps (by decide +kernel) (Keeps.refl _))
  | epochCommit => exact exec_keeps_of rfl (execEpochCommit_keeps (by decide +kernel) (Keeps.refl _))
  | epochCommitPair => exact exec_keeps_of rfl (execEpochCommitPair_keeps (by decide +kernel) (Keeps.refl _))
  | epochDiscard => exact exec_keeps_of rfl (execEpochDiscard_keeps (by decide +kernel) (Keeps.refl _))
  | unitAcknowledge => exact exec_keeps_of rfl (execUnitAcknowledge_keeps (by decide +kernel) (Keeps.refl _))
  | epochTimeout => exact exec_keeps_of rfl (execEpochTimeout_keeps (by decide +kernel) (Keeps.refl _))
  | epochRecordWritten => exact exec_keeps_of rfl (execEpochRecordWritten_keeps (by decide +kernel) (Keeps.refl _))
  | epochRevertDone => exact exec_keeps_of rfl (execEpochRevertDone_keeps (by decide +kernel) (Keeps.refl _))
  | epochCommitAckTimeout => exact exec_keeps_of rfl (execEpochCommitAckTimeout_keeps (by decide +kernel) (Keeps.refl _))
  | mctpMessage => exact exec_keeps_of rfl (execMctpMessage_keeps (by decide +kernel) (Keeps.refl _))
  | setEndpointId => exact exec_keeps_of rfl (execSetEndpointId_keeps (by decide +kernel) (Keeps.refl _))
  | getEndpointId => exact exec_keeps_of rfl (execGetEndpointId_keeps (by decide +kernel) (Keeps.refl _))
  | getMctpVersionSupport => exact exec_keeps_of rfl (execGetMctpVersionSupport_keeps (by decide +kernel) (Keeps.refl _))
  | getMessageTypeSupport => exact exec_keeps_of rfl (execGetMessageTypeSupport_keeps (by decide +kernel) (Keeps.refl _))
  | getVendorDefinedMessageSupport => exact exec_keeps_of rfl (execGetVendorDefinedMessageSupport_keeps (by decide +kernel) (Keeps.refl _))
  | udpDatagram => exact exec_keeps_of rfl (execUdpDatagram_keeps (by decide +kernel) (Keeps.refl _))
  | keyExchange => exact exec_keeps_of rfl (execKeyExchange_keeps (by decide +kernel) (Keeps.refl _))
  | finish => exact exec_keeps_of rfl (execFinish_keeps (by decide +kernel) (Keeps.refl _))
  | endSession => exact exec_keeps_of rfl (execEndSession_keeps (by decide +kernel) (Keeps.refl _))
  | getMeasurements => exact exec_keeps_of rfl (execGetMeasurements_keeps (by decide +kernel) (Keeps.refl _))
  | spdmMessage => exact exec_keeps_of rfl (execSpdmMessage_keeps (by decide +kernel) (Keeps.refl _))
  | sessionHeartbeatTimeout => exact exec_keeps_of rfl (execSessionHeartbeatTimeout_keeps (by decide +kernel) (Keeps.refl _))
  | dictionaryRead => exact exec_keeps_of rfl (execDictionaryRead_keeps (by decide +kernel) (Keeps.refl _))
  | dictionaryWrite => exact exec_keeps_of rfl (execDictionaryWrite_keeps (by decide +kernel) (Keeps.refl _))
  | dictionaryNop => exact exec_keeps_of rfl (execDictionaryNop_keeps (by decide +kernel) (Keeps.refl _))
  | registerWrite => exact exec_keeps_of rfl (execRegisterWrite_keeps (by decide +kernel) (Keeps.refl _))
  | persistentWritePaced => exact exec_keeps_of rfl (execPersistentWritePaced_keeps (by decide +kernel) (Keeps.refl _))
  | multipartTimeout => exact exec_keeps_of rfl (execMultipartTimeout_keeps (by decide +kernel) (Keeps.refl _))
  | mgmtOobEnChange => exact exec_keeps_of rfl (execMgmtOobEnChange_keeps (by decide +kernel) (Keeps.refl _))
  | factoryDefaults => exact exec_keeps_of rfl (execFactoryDefaults_keeps (by decide +kernel) (Keeps.refl _))
  | weirRecompute => exact exec_keeps_of rfl (execWeirRecompute_keeps (by decide +kernel) (Keeps.refl _))
  | weirWaitWarn => exact exec_keeps_of rfl (execWeirWaitWarn_keeps (by decide +kernel) (Keeps.refl _))
  | dumpEnd => exact exec_keeps_of rfl (execDumpEnd_keeps (by decide +kernel) (Keeps.refl _))
  | cisternSelftestTimer => exact exec_keeps_of rfl (execCisternSelftestTimer_keeps (by decide +kernel) (Keeps.refl _))
  | cisternEraseDone => exact exec_keeps_of rfl (execCisternEraseDone_keeps (by decide +kernel) (Keeps.refl _))
  | cisternImageRelease => exact exec_keeps_of rfl (execCisternImageRelease_keeps (by decide +kernel) (Keeps.refl _))
  | cisternRestoreLossAck => exact exec_keeps_of rfl (execCisternRestoreLossAck_keeps (by decide +kernel) (Keeps.refl _))
  | load => exact exec_keeps_of rfl (execLoad_keeps (by decide +kernel) (Keeps.refl _))
  | installCurrent => exact exec_keeps_of rfl (execInstallCurrent_keeps (by decide +kernel) (Keeps.refl _))
  | installPrevious => exact exec_keeps_of rfl (execInstallPrevious_keeps (by decide +kernel) (Keeps.refl _))
  | retire => exact exec_keeps_of rfl (execRetire_keeps (by decide +kernel) (Keeps.refl _))
  | destroy => exact exec_keeps_of rfl (execDestroy_keeps (by decide +kernel) (Keeps.refl _))
  | clearStaging => exact exec_keeps_of rfl (execClearStaging_keeps (by decide +kernel) (Keeps.refl _))
  | keyStagingWrite => exact exec_keeps_of rfl (execKeyStagingWrite_keeps (by decide +kernel) (Keeps.refl _))
  | keyPersistWrite => exact exec_keeps_of rfl (execKeyPersistWrite_keeps (by decide +kernel) (Keeps.refl _))
  | tamperEnclosureAssert => exact exec_keeps_of rfl (execTamperEnclosureAssert_keeps (by decide +kernel) (Keeps.refl _))
  | tamperMeshBreak => exact exec_keeps_of rfl (execTamperMeshBreak_keeps (by decide +kernel) (Keeps.refl _))
  | tamperClear => exact exec_keeps_of rfl (execTamperClear_keeps (by decide +kernel) (Keeps.refl _))
  | pipeClear => exact exec_keeps_of rfl (execPipeClear_keeps (by decide +kernel) (Keeps.refl _))
  | invalidateRange => exact exec_keeps_of rfl (execInvalidateRange_keeps (by decide +kernel) (Keeps.refl _))
  | invalidateVolume => exact exec_keeps_of rfl (execInvalidateVolume_keeps (by decide +kernel) (Keeps.refl _))
  | invalidateAll => exact exec_keeps_of rfl (execInvalidateAll_keeps (by decide +kernel) (Keeps.refl _))
  | cleanLines => exact exec_keeps_of rfl (execCleanLines_keeps (by decide +kernel) (Keeps.refl _))
  | preload => exact exec_keeps_of rfl (execPreload_keeps (by decide +kernel) (Keeps.refl _))
  | unlock => exact exec_keeps_of rfl (execUnlock_keeps (by decide +kernel) (Keeps.refl _))
  | cacheMaintStep => exact exec_keeps_of rfl (execCacheMaintStep_keeps (by decide +kernel) (Keeps.refl _))
  | cacheWaysEnabled => exact exec_keeps_of rfl (execCacheWaysEnabled_keeps (by decide +kernel) (Keeps.refl _))
  | cacheFrameWays => exact exec_keeps_of rfl (execCacheFrameWays_keeps (by decide +kernel) (Keeps.refl _))
  | sliceWayReenable => exact exec_keeps_of rfl (execSliceWayReenable_keeps (by decide +kernel) (Keeps.refl _))
  | wayMarchTestDone => exact exec_keeps_of rfl (execWayMarchTestDone_keeps (by decide +kernel) (Keeps.refl _))
  | wayDisable => exact exec_keeps_of rfl (execWayDisable_keeps (by decide +kernel) (Keeps.refl _))
  | frameFillComplete => exact exec_keeps_of rfl (execFrameFillComplete_keeps (by decide +kernel) (Keeps.refl _))
  | hbmStackFailed => exact exec_keeps_of rfl (execHbmStackFailed_keeps (by decide +kernel) (Keeps.refl _))
  | packEnable => exact exec_keeps_of rfl (execPackEnable_keeps (by decide +kernel) (Keeps.refl _))
  | packResetLearning => exact exec_keeps_of rfl (execPackResetLearning_keeps (by decide +kernel) (Keeps.refl _))
  | packEsrMeasureNow => exact exec_keeps_of rfl (execPackEsrMeasureNow_keeps (by decide +kernel) (Keeps.refl _))
  | packEsrInterval => exact exec_keeps_of rfl (execPackEsrInterval_keeps (by decide +kernel) (Keeps.refl _))
  | impedanceDeferredRun => exact exec_keeps_of rfl (execImpedanceDeferredRun_keeps (by decide +kernel) (Keeps.refl _))
  | impedanceSettleDone => exact exec_keeps_of rfl (execImpedanceSettleDone_keeps (by decide +kernel) (Keeps.refl _))
  | impedanceLoadOff => exact exec_keeps_of rfl (execImpedanceLoadOff_keeps (by decide +kernel) (Keeps.refl _))
  | estimatorUpdate => exact exec_keeps_of rfl (execEstimatorUpdate_keeps (by decide +kernel) (Keeps.refl _))
  | packOvervoltage => exact exec_keeps_of rfl (execPackOvervoltage_keeps (by decide +kernel) (Keeps.refl _))
  | packChargerFault => exact exec_keeps_of rfl (execPackChargerFault_keeps (by decide +kernel) (Keeps.refl _))
  | packAbsent => exact exec_keeps_of rfl (execPackAbsent_keeps (by decide +kernel) (Keeps.refl _))
  | packPresent => exact exec_keeps_of rfl (execPackPresent_keeps (by decide +kernel) (Keeps.refl _))
  | packRested => exact exec_keeps_of rfl (execPackRested_keeps (by decide +kernel) (Keeps.refl _))
  | packStale => exact exec_keeps_of rfl (execPackStale_keeps (by decide +kernel) (Keeps.refl _))
  | p3v3AuxRise => exact exec_keeps_of rfl (execP3v3AuxRise_keeps (by decide +kernel) (Keeps.refl _))
  | p3v3AuxLoss => exact exec_keeps_of rfl (execP3v3AuxLoss_keeps (by decide +kernel) (Keeps.refl _))
  | p12vInRange => exact exec_keeps_of rfl (execP12vInRange_keeps (by decide +kernel) (Keeps.refl _))
  | p12vSag => exact exec_keeps_of rfl (execP12vSag_keeps (by decide +kernel) (Keeps.refl _))
  | p12vReturned => exact exec_keeps_of rfl (execP12vReturned_keeps (by decide +kernel) (Keeps.refl _))
  | rideThroughClear => exact exec_keeps_of rfl (execRideThroughClear_keeps (by decide +kernel) (Keeps.refl _))
  | rideThroughExpiry => exact exec_keeps_of rfl (execRideThroughExpiry_keeps (by decide +kernel) (Keeps.refl _))
  | acfailExpiry => exact exec_keeps_of rfl (execAcfailExpiry_keeps (by decide +kernel) (Keeps.refl _))
  | acfailRelease => exact exec_keeps_of rfl (execAcfailRelease_keeps (by decide +kernel) (Keeps.refl _))
  | inputCollapse => exact exec_keeps_of rfl (execInputCollapse_keeps (by decide +kernel) (Keeps.refl _))
  | railFault => exact exec_keeps_of rfl (execRailFault_keeps (by decide +kernel) (Keeps.refl _))
  | thermalTrip => exact exec_keeps_of rfl (execThermalTrip_keeps (by decide +kernel) (Keeps.refl _))
  | thermalDump => exact exec_keeps_of rfl (execThermalDump_keeps (by decide +kernel) (Keeps.refl _))
  | thermAlert => exact exec_keeps_of rfl (execThermAlert_keeps (by decide +kernel) (Keeps.refl _))
  | thermAlertRelease => exact exec_keeps_of rfl (execThermAlertRelease_keeps (by decide +kernel) (Keeps.refl _))
  | quadrantStepDown => exact exec_keeps_of rfl (execQuadrantStepDown_keeps (by decide +kernel) (Keeps.refl _))
  | thermalEpochRetry => exact exec_keeps_of rfl (execThermalEpochRetry_keeps (by decide +kernel) (Keeps.refl _))
  | quadrantReturn => exact exec_keeps_of rfl (execQuadrantReturn_keeps (by decide +kernel) (Keeps.refl _))
  | pllLockLoss => exact exec_keeps_of rfl (execPllLockLoss_keeps (by decide +kernel) (Keeps.refl _))
  | pllRelock => exact exec_keeps_of rfl (execPllRelock_keeps (by decide +kernel) (Keeps.refl _))
  | pllFallback => exact exec_keeps_of rfl (execPllFallback_keeps (by decide +kernel) (Keeps.refl _))
  | railsOffTimeout => exact exec_keeps_of rfl (execRailsOffTimeout_keeps (by decide +kernel) (Keeps.refl _))
  | resetNAssert => exact exec_keeps_of rfl (execResetNAssert_keeps (by decide +kernel) (Keeps.refl _))
  | resetNRelease => exact exec_keeps_of rfl (execResetNRelease_keeps (by decide +kernel) (Keeps.refl _))
  | startupStepDone => exact exec_keeps_of rfl (execStartupStepDone_keeps (by decide +kernel) (Keeps.refl _))
  | startMemberWaitExpiry => exact exec_keeps_of rfl (execStartMemberWaitExpiry_keeps (by decide +kernel) (Keeps.refl _))
  | watchdogExpiry => exact exec_keeps_of rfl (execWatchdogExpiry_keeps (by decide +kernel) (Keeps.refl _))
  | deviceReset => exact exec_keeps_of rfl (execDeviceReset_keeps (by decide +kernel) (Keeps.refl _))
  | fwUpdateSlot => exact exec_keeps_of rfl (execFwUpdateSlot_keeps (by decide +kernel) (Keeps.refl _))
  | fwSlotErase => exact exec_keeps_of rfl (execFwSlotErase_keeps (by decide +kernel) (Keeps.refl _))
  | fwSlotData => exact exec_keeps_of rfl (execFwSlotData_keeps (by decide +kernel) (Keeps.refl _))
  | fwSlotVerify => exact exec_keeps_of rfl (execFwSlotVerify_keeps (by decide +kernel) (Keeps.refl _))
  | bootSlotPreferred => exact exec_keeps_of rfl (execBootSlotPreferred_keeps (by decide +kernel) (Keeps.refl _))
  | fwSvnCommit => exact exec_keeps_of rfl (execFwSvnCommit_keeps (by decide +kernel) (Keeps.refl _))
  | hostPrbs => exact exec_keeps_of rfl (execHostPrbs_keeps (by decide +kernel) (Keeps.refl _))
  | drivePrbs => exact exec_keeps_of rfl (execDrivePrbs_keeps (by decide +kernel) (Keeps.refl _))
  | culvertPrbs => exact exec_keeps_of rfl (execCulvertPrbs_keeps (by decide +kernel) (Keeps.refl _))
  | culvertLoopback => exact exec_keeps_of rfl (execCulvertLoopback_keeps (by decide +kernel) (Keeps.refl _))
  | hbmPattern => exact exec_keeps_of rfl (execHbmPattern_keeps (by decide +kernel) (Keeps.refl _))
  | cisternSelftest => exact exec_keeps_of rfl (execCisternSelftest_keeps (by decide +kernel) (Keeps.refl _))
  | testStop => exact exec_keeps_of rfl (execTestStop_keeps (by decide +kernel) (Keeps.refl _))
  | testDurationExpiry => exact exec_keeps_of rfl (execTestDurationExpiry_keeps (by decide +kernel) (Keeps.refl _))
  | testConditionLost => exact exec_keeps_of rfl (execTestConditionLost_keeps (by decide +kernel) (Keeps.refl _))
  | jtagInstruction => exact exec_keeps_of rfl (execJtagInstruction_keeps (by decide +kernel) (Keeps.refl _))
  | busMasterDisable => exact exec_keeps_of rfl (execBusMasterDisable_keeps (by decide +kernel) (Keeps.refl _))
  | busMasterEnable => exact exec_keeps_of rfl (execBusMasterEnable_keeps (by decide +kernel) (Keeps.refl _))
  | hostReadErrorCompletion => exact exec_keeps_of rfl (execHostReadErrorCompletion_keeps (by decide +kernel) (Keeps.refl _))
  | flr => exact exec_keeps_of rfl (execFlr_keeps (by decide +kernel) (Keeps.refl _))
  | flrComplete => exact exec_keeps_of rfl (execFlrComplete_keeps (by decide +kernel) (Keeps.refl _))
  | d3hotEntry => exact exec_keeps_of rfl (execD3hotEntry_keeps (by decide +kernel) (Keeps.refl _))
  | d0Return => exact exec_keeps_of rfl (execD0Return_keeps (by decide +kernel) (Keeps.refl _))
  | vfEnable => exact exec_keeps_of rfl (execVfEnable_keeps (by decide +kernel) (Keeps.refl _))
  | msixVectorUnmask => exact exec_keeps_of rfl (execMsixVectorUnmask_keeps (by decide +kernel) (Keeps.refl _))
  | perstAssert => exact exec_keeps_of rfl (execPerstAssert_keeps (by decide +kernel) (Keeps.refl _))
  | perstRelease => exact exec_keeps_of rfl (execPerstRelease_keeps (by decide +kernel) (Keeps.refl _))
  | hotReset => exact exec_keeps_of rfl (execHotReset_keeps (by decide +kernel) (Keeps.refl _))
  | hostLinkDown => exact exec_keeps_of rfl (execHostLinkDown_keeps (by decide +kernel) (Keeps.refl _))
  | moduleIdleEntry => exact exec_keeps_of rfl (execModuleIdleEntry_keeps (by decide +kernel) (Keeps.refl _))
  | moduleIdleExit => exact exec_keeps_of rfl (execModuleIdleExit_keeps (by decide +kernel) (Keeps.refl _))
  | coalesceWindowClose => exact exec_keeps_of rfl (execCoalesceWindowClose_keeps (by decide +kernel) (Keeps.refl _))
  | stormQuiet => exact exec_keeps_of rfl (execStormQuiet_keeps (by decide +kernel) (Keeps.refl _))
  | eventRingEnable => exact exec_keeps_of rfl (execEventRingEnable_keeps (by decide +kernel) (Keeps.refl _))
  | eventRingCoalesceTimeout => exact exec_keeps_of rfl (execEventRingCoalesceTimeout_keeps (by decide +kernel) (Keeps.refl _))
  | subscribe => exact exec_keeps_of rfl (execSubscribe_keeps (by decide +kernel) (Keeps.refl _))
  | eventSubFetch => exact exec_keeps_of rfl (execEventSubFetch_keeps (by decide +kernel) (Keeps.refl _))
  | eventStoreRead => exact exec_keeps_of rfl (execEventStoreRead_keeps (by decide +kernel) (Keeps.refl _))
  | alarmStoreRead => exact exec_keeps_of rfl (execAlarmStoreRead_keeps (by decide +kernel) (Keeps.refl _))
  | counterClear => exact exec_keeps_of rfl (execCounterClear_keeps (by decide +kernel) (Keeps.refl _))
  | admissionTimeout => exact exec_keeps_of rfl (execAdmissionTimeout_keeps (by decide +kernel) (Keeps.refl _))
  | driveControllerReady => exact exec_keeps_of rfl (execDriveControllerReady_keeps (by decide +kernel) (Keeps.refl _))
  | driveAerUncorrectable => exact exec_keeps_of rfl (execDriveAerUncorrectable_keeps (by decide +kernel) (Keeps.refl _))
  | hbmRefreshThreshold => exact exec_keeps_of rfl (execHbmRefreshThreshold_keeps (by decide +kernel) (Keeps.refl _))
  | p12vTransient => exact exec_keeps_of rfl (execP12vTransient_keeps (by decide +kernel) (Keeps.refl _))
  | ethernetFrame => exact exec_keeps_of rfl (execEthernetFrame_keeps (by decide +kernel) (Keeps.refl _))
  | i3cDynamicAddress => exact exec_keeps_of rfl (execI3cDynamicAddress_keeps (by decide +kernel) (Keeps.refl _))
  | heartbeatInterval => exact exec_keeps_of rfl (execHeartbeatInterval_keeps (by decide +kernel) (Keeps.refl _))
  | pairAliveReturn => exact exec_keeps_of rfl (execPairAliveReturn_keeps (by decide +kernel) (Keeps.refl _))
  | listPageReadComplete => exact exec_keeps_of rfl (execListPageReadComplete_keeps (by decide +kernel) (Keeps.refl _))
  | pmeStatusClear => exact exec_keeps_of rfl (execPmeStatusClear_keeps (by decide +kernel) (Keeps.refl _))
  | packSample => exact exec_keeps_of rfl (execPackSample_keeps (by decide +kernel) (Keeps.refl _))
  | zeroingComplete => exact exec_keeps_of rfl (execZeroingComplete_keeps (by decide +kernel) (Keeps.refl _))

/-! ## What every command keeps -/

/-- Settles O7: each command's meaning keeps what lies outside its footprint's mask, and the mask names every object that the footprint leaves out. -/
theorem commandFrames : Obligations.CommandFrames := by
  intro c s t h
  obtain ⟨u, hu, k⟩ := exec_keeps c s
  obtain rfl : u = t := Host.Outcome.next.inj (hu.symm.trans h)
  exact k.kept (Mask.le_self _) (footOf_ok c)

/-- Settles O5: completion, queue, time and outputs are part of what every command keeps. -/
theorem everyCommandCompletes : Obligations.EveryCommandCompletes := by
  intro c s
  obtain ⟨t, ht, k⟩ := exec_keeps c s
  exact ⟨t, ht, k.pending, k.now, k.out⟩

/-! ## Steps -/

/-- Settles O1: by the definition of a step. -/
theorem stepRunsFrontCommand : Obligations.StepRunsFrontCommand := by
  intro s c l
  rfl

theorem step_of_nil {s : State} (h : s.pending = []) : step s = .next (idle s) := by
  simp [step, h]

theorem step_of_cons {s : State} {c : Instr} {l : List Instr} (h : s.pending = c :: l) : step s = exec c { s with pending := l } := by
  simp [step, h]

/-- Settles O2: the work of an idle microsecond keeps queue, time and outputs, and the microsecond itself is the tick before it. -/
theorem emptyQueueIdles : Obligations.EmptyQueueIdles := by
  intro s h
  have k := idle_keeps (Mask.le_self _) s
  exact ⟨idle s, step_of_nil h, k.pending.trans h, k.now, k.out⟩

/-- Settles O3: a command and an idle microsecond both keep a canonical dictionary canonical. -/
theorem everyStepKeepsTables : Obligations.EveryStepKeepsTables := by
  intro s t hc h
  cases hp : s.pending with
  | nil =>
    rw [step_of_nil hp] at h
    obtain rfl := Host.Outcome.next.inj h
    exact (idle_keeps (Mask.le_self _) s).canon hc
  | cons c l =>
    rw [step_of_cons hp] at h
    obtain ⟨u, hu, k⟩ := exec_keeps c { s with pending := l }
    obtain rfl : u = t := Host.Outcome.next.inj (hu.symm.trans h)
    exact k.canon hc

/-! ## Reset -/

/-- Settles O4: the reset state's dictionary lists nothing. -/
theorem resetIsCanonical : Obligations.ResetIsCanonical :=
  ⟨rfl, rfl⟩

/-- Right after reset every register reads its default. -/
theorem rdN_reset (o : ObjDesc) (i : Nat) : rdN State.reset o i = (dfltAt o i).toNat := rfl

/-- Settles O6: each register reads its default, and no default named here depends on the index. -/
theorem resetValues : Obligations.ResetValues :=
  ⟨rfl, rfl, rfl, rdN_reset _ _, fun _ => ⟨rdN_reset _ _, rdN_reset _ _, rdN_reset _ _⟩, fun _ => ⟨rdN_reset _ _, rdN_reset _ _⟩, fun _ => rdN_reset _ _, fun _ => rdN_reset _ _,
    rdN_reset _ _, rdN_reset _ _, rdN_reset _ _, rdN_reset _ _, rdN_reset _ _, rdN_reset _ _⟩

end Sys2Proof.Machine
end

section
/-! PROOFS. Reading a register of one object after a write to another, told apart by the objects' codes; what a queue pair's commands are after one of them is changed. -/

namespace Sys2Proof.Machine

open Sys2Proof

/-! ## Objects told apart by their codes -/

theorem ObjDesc.key_ne_of_code {o p : ObjDesc} (h : p.code ≠ o.code) (i j : Nat) : p.key j ≠ o.key i := by
  unfold ObjDesc.key objKey
  unfold ObjDesc.code at h
  omega

section
variable {s : State} {o p : ObjDesc} {i j : Nat} (h : p.code ≠ o.code)
include h

theorem rd_wr_code (v : Int) : rd (wr s o i v) p j = rd s p j := rd_wr_other s v (ObjDesc.key_ne_of_code h i j)
theorem rdN_wr_code (v : Int) : rdN (wr s o i v) p j = rdN s p j := rdN_wr_other s v (ObjDesc.key_ne_of_code h i j)
theorem rdB_wr_code (v : Int) : rdB (wr s o i v) p j = rdB s p j := rdB_wr_other s v (ObjDesc.key_ne_of_code h i j)
theorem rd_wrB_code (b : Bool) : rd (wrB s o i b) p j = rd s p j := rd_wr_code h _
theorem rdN_wrB_code (b : Bool) : rdN (wrB s o i b) p j = rdN s p j := rdN_wr_code h _
theorem rdB_wrB_code (b : Bool) : rdB (wrB s o i b) p j = rdB s p j := rdB_wr_code h _
theorem rd_bump_code (n : Nat) : rd (bump s o i n) p j = rd s p j := rd_wr_code h _
theorem rdN_bump_code (n : Nat) : rdN (bump s o i n) p j = rdN s p j := rdN_wr_code h _
theorem rdB_bump_code (n : Nat) : rdB (bump s o i n) p j = rdB s p j := rdB_wr_code h _
theorem rd_drop_code (n : Nat) : rd (drop s o i n) p j = rd s p j := rd_wr_code h _
theorem rdN_drop_code (n : Nat) : rdN (drop s o i n) p j = rdN s p j := rdN_wr_code h _
theorem rdB_drop_code (n : Nat) : rdB (drop s o i n) p j = rdB s p j := rdB_wr_code h _
theorem rd_clr_code : rd (clr s o i) p j = rd s p j := rd_wr_code h _
theorem rdN_clr_code : rdN (clr s o i) p j = rdN s p j := rdN_wr_code h _
theorem rdB_clr_code : rdB (clr s o i) p j = rdB s p j := rdB_wr_code h _
theorem rdN_count_code (n : Nat) : rdN (count s o i n) p j = rdN s p j := rdN_wr_code h _
theorem rdBytes_wrBytes_code (b : Bytes) : rdBytes (wrBytes s o i b) p j = rdBytes s p j := rdBytes_wrBytes_other s b (ObjDesc.key_ne_of_code h i j)

end

/-! ## Repetition -/

@[simp] theorem forEach_nil {α : Type} (f : α → State → State) (s : State) : forEach [] f s = s := rfl

@[simp] theorem forEach_cons {α : Type} (x : α) (l : List α) (f : α → State → State) (s : State) : forEach (x :: l) f s = forEach l f (f x s) := rfl

/-- What leaves a state as it is leaves it so when it is repeated. -/
theorem forEach_eq_self {α : Type} {l : List α} {f : α → State → State} {s : State} (h : ∀ x ∈ l, f x s = s) : forEach l f s = s := by
  induction l with
  | nil => rfl
  | cons x l ih => rw [forEach_cons, h x (by simp), ih (fun y hy => h y (by simp [hy]))]

theorem forRange_eq_self {n : Nat} {f : Nat → State → State} {s : State} (h : ∀ i < n, f i s = s) : forRange n f s = s :=
  forEach_eq_self (fun i hi => h i (List.mem_range.mp hi))

theorem mem_addOnce {l : List Nat} {x y : Nat} : y ∈ addOnce l x ↔ y ∈ l ∨ y = x := by
  unfold addOnce
  split
  · rename_i h
    constructor
    · exact .inl
    · rintro (hy | rfl)
      · exact hy
      · simpa using h
  · simp

/-! ## Commands of a queue pair -/

/-- A queue pair is the same where the table of queue pairs is. -/
theorem qpOf_of_qps {s t : State} (h : t.qps = s.qps) (q : Nat) : qpOf t q = qpOf s q := by
  simp only [qpOf, h]

/-- The one command of a queue pair after it is changed. -/
theorem cmds_modCmd_one {s : State} {q tag : Nat} {c : Cmd} (f : Cmd → Cmd) (h : (qpOf s q).cmds = [c]) (ht : c.tag = tag) : (qpOf (modCmd s q tag f) q).cmds = [f c] := by
  simp [cmds_modCmd, h, ht]

theorem findCmd_one {s : State} {q tag : Nat} {c : Cmd} (h : (qpOf s q).cmds = [c]) (ht : c.tag = tag) : findCmd s q tag = some c := by
  simp [findCmd, h, ht]

theorem findCmd_tag {s : State} {q tag : Nat} {c : Cmd} (h : findCmd s q tag = some c) : c.tag = tag := by
  simpa using List.find?_some h

/-- A command changed in place is found changed. -/
theorem findCmd_modCmd {s : State} {q tag : Nat} {f : Cmd → Cmd} (hf : ∀ c, (f c).tag = c.tag) : findCmd (modCmd s q tag f) q tag = (findCmd s q tag).map f := by
  have hp : ((fun c : Cmd => c.tag == tag) ∘ fun c => if c.tag = tag then f c else c) = fun c => c.tag == tag := by
    funext c
    by_cases hc : c.tag = tag <;> simp [hc, hf]
  rw [findCmd, cmds_modCmd, List.find?_map, hp]
  cases h : findCmd s q tag with
  | none => rw [findCmd] at h; rw [h]; rfl
  | some c =>
    have ht := findCmd_tag h
    rw [findCmd] at h
    simp [h, ht]

/-- A command that may start is under way. -/
theorem findCmd_of_startable {s : State} {q tag op : Nat} {c : Cmd} (h : startable s q tag op = some c) : ∃ d, findCmd s q tag = some d := by
  have hm := List.mem_of_find?_eq_some h
  obtain ⟨ht, -⟩ := startable_facts h
  exact Option.isSome_iff_exists.mp (List.find?_isSome.mpr ⟨c, hm, by simp [ht]⟩)

theorem qpOf_setQp_other (s : State) (x : Qp) {n m : Nat} (h : m ≠ n) : qpOf (setQp s n x) m = qpOf s m := by
  simp [qpOf, setQp, Tbl.getD_set_other _ _ _ h]

/-! ## What a frame says of the accessors -/

section
variable {fm : Nat} {s t : State} (k : Keeps fm s t)
include k

theorem Keeps.qps (h : Nat.testBit fm 6 = false) : t.qps = s.qps := k.parts .qps h

theorem Keeps.qpOf (h : Nat.testBit fm 6 = false) (q : Nat) : qpOf t q = qpOf s q := qpOf_of_qps (k.qps h) q

theorem Keeps.canMaster (h : [Obj.FUNC_BUS_MASTER, Obj.FUNC_DSTATE, Obj.FUNC_IN_RESET].all (Mask.free fm) = true) (f : Nat) : canMaster t f = canMaster s f := by
  simp only [List.all_cons, List.all_nil, Bool.and_true, Bool.and_eq_true] at h
  obtain ⟨hbus, hstate, hreset⟩ := h
  simp only [Machine.canMaster, k.rdB hbus, k.rdN hstate, k.rdB hreset]

theorem Keeps.qpFn (h : Mask.free fm Obj.QP_FUNCTION = true) (q : Nat) : qpFn t q = qpFn s q := by
  simp only [Machine.qpFn, k.rdN h]

end

end Sys2Proof.Machine
end

section
/-! PROOFS. READ and VERIFY of one sector that no level holds (R230, R252, R315, R316). -/

namespace Sys2Proof.Machine

open Sys2Proof

-- The kernel evaluates closed facts below (masks of frames, concrete states): one declaration after another keeps the memory this takes small.
set_option Elab.async false

/-! ## The end of a read -/

/-- A READ whose sectors have all ended completes with the first status of R315 that applies. -/
theorem tryFinishRead_read {s : State} {q tag : Nat} {c : Cmd} (hc : findCmd s q tag = some c) (hd : readDone c = true) (ho : c.opcode = 1) :
    ∃ e ∈ (qpOf (tryFinishRead s q tag) q).cpl, e.tag = c.tag ∧ e.status = (leastBy readRank (failures c)).getD St.success ∧
      e.result = readResult (firstBad c) (decodedCount c) ∧ e.degraded = decide (decodedCount c > 0) := by
  obtain ⟨e, he, htag, hst, hres, -, hdeg⟩ := finishWith_cpl s q c
    { cmdCpl s c ((leastBy readRank (failures c)).getD St.success) (readResult (firstBad c) (decodedCount c)) with degraded := decide (decodedCount c > 0), served := servedFrom c }
  refine ⟨e, ?_, htag, hst, hres, hdeg⟩
  simpa [tryFinishRead, hc, hd, ho] using he

/-- A VERIFY that has found nothing lost and repaired nothing completes with SUCCESS and RESULT 0. -/
theorem tryFinishRead_verify {s : State} {q tag : Nat} {c : Cmd} (hc : findCmd s q tag = some c) (hd : readDone c = true) (ho : c.opcode ≠ 1)
    (hl : c.lost = 0) (hr : c.repaired = 0) :
    ∃ e ∈ (qpOf (tryFinishRead s q tag) q).cpl, e.tag = c.tag ∧ e.status = St.success ∧ e.result = 0 := by
  obtain ⟨e, he, htag, hst, hres, -, -⟩ := finishWith_cpl s q c { cmdCpl s c St.success 0 with degraded := decide (decodedCount c > 0) }
  refine ⟨e, ?_, htag, hst, hres⟩
  simpa [tryFinishRead, hc, hd, ho, hl, hr] using he

/-! ## Sectors that no level holds -/

/-- The only command of a queue pair waits for no other. -/
theorem writeHolds_one {s : State} {q : Nat} {c d : Cmd} (h : (qpOf s q).cmds = [d]) (hn : d.admitNo = c.admitNo) (lba : Nat) : writeHolds s q c lba = false := by
  simp [writeHolds, h, hn]

theorem grainKey_bump {s : State} {o : ObjDesc} {i n : Nat} (h : Obj.VOLUME_GRAIN.code ≠ o.code) (v lba : Nat) : grainKey (bump s o i n) v lba = grainKey s v lba := by
  simp only [grainKey, rdN_bump_code h]

/-- A sector that misses the Flume is looked for below it. -/
theorem resolveSector_of_miss {s : State} {q i : Nat} {c : Cmd} (flt : SecFault) (hw : writeHolds s q c (c.slba + i) = false) (hf : flumeLookup s c.volume (c.slba + i) = none) :
    resolveSector s q c i flt = resolveBelow (bump (countDev (bump s Obj.FLUME_LOOKUPS 0 1) (Dc.frameMisses + sliceOf c.volume (c.slba + i)) 1) Obj.SLICE_MISSES (sliceOf c.volume (c.slba + i)) 1) q c i flt := by
  have hf' : flumeLookup (bump s Obj.FLUME_LOOKUPS 0 1) c.volume (c.slba + i) = none := hf
  simp [resolveSector, hw, hf']

section
variable {s : State} {q i : Nat} {c : Cmd} (flt : SecFault) (hr : leafResident s (grainKey s c.volume (c.slba + i)) = true)
include hr

theorem resolveBelow_lost (he : entryOfGrain s (grainKey s c.volume (c.slba + i)) = .lost) :
    ∃ n key, resolveBelow s q c i flt = failSector (touchLeaf (countDev s n 1) key) q c.tag i St.mediaLost := by
  refine ⟨Dc.resolutions + sliceOf c.volume (c.slba + i), grainKey s c.volume (c.slba + i), ?_⟩
  set s1 := countDev s (Dc.resolutions + sliceOf c.volume (c.slba + i)) 1 with hs1
  have hk : grainKey s1 c.volume (c.slba + i) = grainKey s c.volume (c.slba + i) := rfl
  have he1 : entryOfGrain s1 (grainKey s c.volume (c.slba + i)) = .lost := he
  have hr1 : leafResident s1 (grainKey s c.volume (c.slba + i)) = true := hr
  simp [resolveBelow, ← hs1, hk, he1, hr1, seenEntry]

theorem resolveBelow_unmapped (he : entryOfGrain s (grainKey s c.volume (c.slba + i)) = .unmapped) :
    ∃ n key, resolveBelow s q c i flt = sendSector (touchLeaf (countDev s n 1) key) q c i Source.none (zeros 4096) := by
  refine ⟨Dc.resolutions + sliceOf c.volume (c.slba + i), grainKey s c.volume (c.slba + i), ?_⟩
  set s1 := countDev s (Dc.resolutions + sliceOf c.volume (c.slba + i)) 1 with hs1
  have hk : grainKey s1 c.volume (c.slba + i) = grainKey s c.volume (c.slba + i) := rfl
  have he1 : entryOfGrain s1 (grainKey s c.volume (c.slba + i)) = .unmapped := he
  have hr1 : leafResident s1 (grainKey s c.volume (c.slba + i)) = true := hr
  simp [resolveBelow, ← hs1, hk, he1, hr1, seenEntry]

end

/-! ## The start of a READ of one sector -/

/-- The command as a READ begins it. -/
def readCmd (s : State) (q : Nat) (c : Cmd) : Cmd :=
  { c with phase := .running, stream := (noteRun s q c).2, rd := List.replicate c.nlb .waiting }

/-- The state in which its sectors are resolved. -/
def readStart (s : State) (q tag : Nat) (c : Cmd) : State :=
  modCmd (noteRun s q c).1 q tag (fun _ => readCmd s q c)

theorem prefetch_of_off {s : State} (c : Cmd) (h : rdN s Obj.CACHE_PREFETCH 0 = 0) : prefetch s c = s := by
  simp [prefetch, h]

/-- With prefetching off, READ of one sector resolves it and ends if it can. -/
theorem exec_read_one {s r u : State} {mems : List Poison} {q tag : Nat} {c : Cmd} (hs : forEach mems meetPoison r = s) (he : rdN s Obj.EPOCH_STATE 0 = 0)
    (hc : startable s q tag 1 = some c) (hn : c.nlb = 1) (hu : resolveSector (readStart s q tag c) q (readCmd s q c) 0 .none = u) (hp : rdN u Obj.CACHE_PREFETCH 0 = 0) :
    exec (.read q tag ⟨[], mems⟩) r = .next (tryFinishRead u q tag) := by
  have ho : c.opcode = 1 := (startable_facts hc).2.1
  have hb : mayBegin s = true := by simp [mayBegin, he]
  have hr : forRange c.nlb (fun i x => resolveOne x q (readCmd s q c) i (([] : List SecFault).getD i .none)) (readStart s q tag c) = u := by
    simpa [hn, forRange, resolveOne, readCmd, ho] using hu
  have hx : exec (.read q tag ⟨[], mems⟩) r = .next (tryFinishRead
      (if (flumeLookup s c.volume (c.slba + c.nlb - 1)).isNone then prefetch (forRange c.nlb (fun i x => resolveOne x q (readCmd s q c) i (([] : List SecFault).getD i .none)) (readStart s q tag c)) (readCmd s q c)
        else forRange c.nlb (fun i x => resolveOne x q (readCmd s q c) i (([] : List SecFault).getD i .none)) (readStart s q tag c)) q tag) := by
    simp only [exec, execRead, hs, hc, hb, Bool.not_true, Bool.false_and, Bool.false_eq_true, if_false]
    rfl
  rw [hx, hr, prefetch_of_off _ hp, ite_self]

theorem cmds_readStart {s : State} {q tag : Nat} {c : Cmd} (h : (qpOf s q).cmds = [c]) (ht : c.tag = tag) : (qpOf (readStart s q tag c) q).cmds = [readCmd s q c] :=
  cmds_modCmd_one _ h ht

/-- The state in which a sector that missed the Flume is resolved below it. -/
def readMissed (s : State) (q tag : Nat) (c : Cmd) : State :=
  bump (countDev (bump (readStart s q tag c) Obj.FLUME_LOOKUPS 0 1) (Dc.frameMisses + sliceOf c.volume c.slba) 1) Obj.SLICE_MISSES (sliceOf c.volume c.slba) 1

/-- The sector of such a READ misses the Flume where it does at the start. -/
theorem resolveSector_readStart {s : State} {q tag : Nat} {c : Cmd} (h : (qpOf s q).cmds = [c]) (ht : c.tag = tag) (hf : flumeLookup s c.volume c.slba = none) :
    resolveSector (readStart s q tag c) q (readCmd s q c) 0 .none =
      resolveBelow (readMissed s q tag c) q (readCmd s q c) 0 .none :=
  resolveSector_of_miss .none (writeHolds_one (cmds_readStart h ht) rfl _) hf

/-- READ of one sector that misses the Flume and is found, below it, to end as `x` by `w`: it completes as that ending says. -/
theorem read_one_ends {s r : State} {mems : List Poison} {q tag : Nat} {c : Cmd} {x : RdSec} {u : State} (hs : forEach mems meetPoison r = s) (he : rdN s Obj.EPOCH_STATE 0 = 0)
    (hc : startable s q tag 1 = some c) (hcm : (qpOf s q).cmds = [c]) (hn : c.nlb = 1) (hf : flumeLookup s c.volume c.slba = none)
    (hb : resolveBelow (readMissed s q tag c) q (readCmd s q c) 0 .none = setRd u q c.tag 0 x)
    (hp : rdN u Obj.CACHE_PREFETCH 0 = 0) (hq : u.qps = (readStart s q tag c).qps) (hd : readDone { readCmd s q c with rd := [x] } = true) :
    ∃ t, exec (.read q tag ⟨[], mems⟩) r = .next t ∧ ∃ e ∈ (qpOf t q).cpl, e.tag = tag ∧ e.status = (leastBy readRank (failures { c with rd := [x] })).getD St.success ∧
      e.result = readResult (firstBad { c with rd := [x] }) (decodedCount { c with rd := [x] }) ∧ e.degraded = decide (decodedCount { c with rd := [x] } > 0) := by
  obtain ⟨ht, ho, -⟩ := startable_facts hc
  have hcmd : (qpOf (setRd u q c.tag 0 x) q).cmds = [{ readCmd s q c with rd := [x] }] := by
    rw [setRd, cmds_modCmd_one _ ((congrArg Qp.cmds (qpOf_of_qps hq q)).trans (cmds_readStart hcm ht)) (show (readCmd s q c).tag = c.tag from rfl)]
    simp [readCmd, hn]
  refine ⟨_, exec_read_one hs he hc hn ((resolveSector_readStart hcm ht hf).trans hb) hp, ?_⟩
  obtain ⟨e, hm, htag, hrest⟩ := tryFinishRead_read (findCmd_one hcmd ht) hd ho
  exact ⟨e, hm, htag.trans ht, hrest⟩

/-! ## READ and VERIFY of one sector -/

theorem grainKey_readMissed (s : State) (q tag : Nat) (c : Cmd) (v lba : Nat) : grainKey (readMissed s q tag c) v lba = grainKey s v lba :=
  (grainKey_bump (by decide) v lba).trans (grainKey_bump (s := readStart s q tag c) (by decide) v lba)

/-- What touching the sector's leaf leaves of the state before the READ. -/
theorem readMissed_keeps (s : State) (q tag : Nat) (c : Cmd) (n key : Nat) :
    Keeps (Foot.mask ⟨[.ev, .qps, .map, .cache, .lines], some [Obj.FLUME_LOOKUPS, Obj.SLICE_MISSES]⟩) s (touchLeaf (countDev (readMissed s q tag c) n 1) key) :=
  touchLeaf_keeps (by decide +kernel) (countDev_keeps (by decide +kernel) (bump_keeps (by decide +kernel) (countDev_keeps (by decide +kernel) (bump_keeps (by decide +kernel)
    (modCmd_keeps (by decide +kernel) (noteRun_keeps (by decide +kernel) (Keeps.refl s)))))))

theorem qps_readMissed (s : State) (q tag : Nat) (c : Cmd) (n key : Nat) : (touchLeaf (countDev (readMissed s q tag c) n 1) key).qps = (readStart s q tag c).qps :=
  (touchLeaf_keeps (Mask.le_self _) (Keeps.refl _)).qps (by decide)

@[simp] theorem qps_toHost (s : State) (q : Nat) (c : Cmd) (i : Nat) (b : Bytes) : (toHost s q c i b).qps = s.qps :=
  (toHost_keeps (Mask.le_self _) (Keeps.refl s)).qps (by decide)

/-- The one unmapped sector of a VERIFY is not read. -/
theorem resolveVerify_unmapped {s : State} {q i : Nat} {c d : Cmd} (h : (qpOf s q).cmds = [d]) (hn : d.admitNo = c.admitNo)
    (he : entryOfGrain s (grainKey s c.volume (c.slba + i)) = .unmapped) : resolveVerify s q c i = setRd s q c.tag i (.delivered 3 false none none) := by
  simp [resolveVerify, writeHolds_one h hn, he]

/-- VERIFY of one unmapped sector, the only command of its queue pair. -/
theorem verify_one_unmapped {s : State} {q tag : Nat} {c : Cmd} (he : rdN s Obj.EPOCH_STATE 0 = 0) (hc : startable s q tag 5 = some c) (hcm : (qpOf s q).cmds = [c]) (hn : c.nlb = 1)
    (hlost : c.lost = 0) (hrep : c.repaired = 0) (hl : entryOfGrain s (grainKey s c.volume c.slba) = .unmapped) :
    ∃ t, exec (.verify q tag) s = .next t ∧ ∃ e ∈ (qpOf t q).cpl, e.tag = tag ∧ e.status = St.success ∧ e.result = 0 := by
  obtain ⟨ht, ho, -⟩ := startable_facts hc
  have hb : mayBegin s = true := by simp [mayBegin, he]
  obtain ⟨d, hd⟩ : ∃ d, d = { c with phase := .running, rd := List.replicate c.nlb .waiting } := ⟨_, rfl⟩
  have hcmd : (qpOf (modCmd s q tag fun _ => d) q).cmds = [d] := cmds_modCmd_one _ hcm ht
  have hv : resolveVerify (modCmd s q tag fun _ => d) q d 0 = setRd (modCmd s q tag fun _ => d) q d.tag 0 (.delivered 3 false none none) :=
    resolveVerify_unmapped hcmd rfl (by subst hd; exact hl)
  have hx : exec (.verify q tag) s = .next (tryFinishRead (setRd (modCmd s q tag fun _ => d) q d.tag 0 (.delivered 3 false none none)) q tag) := by
    have h1 : d.opcode ≠ 1 := by simp [hd, ho]
    have hone : forRange 1 (fun i x => resolveOne x q d i .none) (modCmd s q tag fun _ => d) = resolveVerify (modCmd s q tag fun _ => d) q d 0 := by
      simp [forRange, resolveOne, h1]
    rw [← hv, ← hone, ← hn, hd]
    simp only [exec, execVerify, hc, hb, Bool.not_true, Bool.false_eq_true, if_false]
  have hend : (qpOf (setRd (modCmd s q tag fun _ => d) q d.tag 0 (.delivered 3 false none none)) q).cmds = [{ d with rd := [.delivered 3 false none none] }] := by
    rw [setRd, cmds_modCmd_one _ hcmd rfl]
    simp [hd, hn]
  have hdt : d.tag = tag := by simp [hd, ht]
  obtain ⟨e, hm, htag, hrest⟩ := tryFinishRead_verify (findCmd_one hend hdt) rfl (by simp [hd, ho]) (by simp [hd, hlost]) (by simp [hd, hrep])
  exact ⟨_, hx, e, hm, htag.trans hdt, hrest⟩

/-- Settles O20: the one command of its queue pair waits for nothing, misses the Flume, and its entry alone says how the sector ends. -/
theorem readOfOneSector : Obligations.ReadOfOneSector := by
  refine ⟨fun s r mems q tag c hs he hc hcm hn _ hp hf hr hl => ?_, fun s r mems q tag c hs he hc hcm hn _ hp hf hr hl hm _ => ?_,
    fun s q tag c he hc hcm hn hlost hrep hl => verify_one_unmapped he hc hcm hn hlost hrep hl⟩
  · obtain ⟨n, key, hb⟩ := resolveBelow_lost (s := readMissed s q tag c) (q := q) (i := 0) (c := readCmd s q c) .none ((congrArg _ (grainKey_readMissed s q tag c _ _)).trans hr)
      ((congrArg _ (grainKey_readMissed s q tag c _ _)).trans hl)
    have k := readMissed_keeps s q tag c n key
    obtain ⟨t, ht, e, he, htag, hst, hres, -⟩ := read_one_ends (x := .failed St.mediaLost) hs he hc hcm hn hf hb ((k.rdN (by decide +kernel) 0).trans hp) (qps_readMissed s q tag c n key) rfl
    exact ⟨t, ht, e, he, htag, hst, by simpa [readResult, firstBad, failures, decodedCount] using hres⟩
  · obtain ⟨n, key, hb⟩ := resolveBelow_unmapped (s := readMissed s q tag c) (q := q) (i := 0) (c := readCmd s q c) .none ((congrArg _ (grainKey_readMissed s q tag c _ _)).trans hr)
      ((congrArg _ (grainKey_readMissed s q tag c _ _)).trans hl)
    have k := readMissed_keeps s q tag c n key
    rw [sendSector, if_pos (((k.canMaster (by decide +kernel) _).trans (congrArg _ (k.qpFn (by decide +kernel) q))).trans hm)] at hb
    obtain ⟨t, ht, e, he, htag, hst, hres, hdeg⟩ := read_one_ends (x := .delivered 3 false none none) hs he hc hcm hn hf hb (((toHost_keeps (Mask.le_self _) (Keeps.refl _)).rdN (by decide +kernel) 0).trans ((k.rdN (by decide +kernel) 0).trans hp)) ((qps_toHost _ _ _ _ _).trans (qps_readMissed s q tag c n key)) rfl
    exact ⟨t, ht, e, he, htag, hst, by simpa [readResult, firstBad, failures, decodedCount] using hres, hdeg⟩

end Sys2Proof.Machine
end

section
/-! PROOFS. The doorbell page, ring fetches, polling and coalescing (R281, R286 to R291, R298), and the states of a queue pair (Table 07-13, R284, R300, R301). -/

namespace Sys2Proof.Machine

open Sys2Proof

/-! ## A ring fetch leaves the queue pair but for what it is reading -/

theorem qpOf_readSlots (s : State) (q a n : Nat) : ∃ l, qpOf (readSlots s q a n) q = { qpOf s q with spec := l } := by
  refine ⟨(qpOf s q).spec.filter (fun v => !((qpOf s q).spec.filter (fun v => decide ((v + 65536 - a) % 65536 < n))).contains v), ?_⟩
  have hq (t : State) (ht : t.qps = s.qps) : qpOf t q = qpOf s q := qpOf_of_qps ht q
  simp only [readSlots, qpOf_bump, qpOf_modQp]
  split <;> rfl

/-- After a fetch was asked for, one runs where the intake is open, and nothing but the fetch and what it has read has changed in the queue pair. -/
theorem qpOf_startFetch (s : State) (q : Nat) : ∃ f l, qpOf (startFetch s q) q = { qpOf s q with fetch := f, spec := l } ∧ (intakeOpen s q = true → f.isSome = true) := by
  unfold startFetch
  split
  · rename_i h
    refine ⟨(qpOf s q).fetch, (qpOf s q).spec, rfl, fun ho => ?_⟩
    simpa [ho] using h
  · obtain ⟨l, hl⟩ := qpOf_readSlots (modQp s q (fun x => { x with fetch := some ((rdN s Obj.NEXT_SR_SEQ q + fetchCount s q) % 65536) })) q (rdN s Obj.NEXT_SR_SEQ q) (fetchCount s q)
    exact ⟨some ((rdN s Obj.NEXT_SR_SEQ q + fetchCount s q) % 65536), l, by simpa using hl, fun _ => rfl⟩

theorem rdN_startFetch (s : State) (q : Nat) {o : ObjDesc} (h : Mask.free 0x100000000000000000000800040 o = true) (i : Nat) : rdN (startFetch s q) o i = rdN s o i :=
  (startFetch_keeps (Mask.le_self _) (Keeps.refl s)).rdN h i

/-! ## The doorbell page -/

/-- With no slot full, there is nothing to evaluate. -/
theorem evalFull_of_none {s : State} {q : Nat} (h : ∀ j < 4, slotFull (qpOf s q) j = false) : evalFull s q = s := by
  have hf : (List.range 4).filter (slotFull (qpOf s q)) = [] := by
    simpa [List.filter_eq_nil_iff] using h
  simp [evalFull, hf, sortBy, forEach]

/-- Settles O13: no slot is full, so nothing is evaluated; the half-written slot's bytes are filtered out; a fetch leaves NEXT_SR_SEQ; a release frees what is not ahead of it. -/
theorem pushWindowWrites : Obligations.PushWindowWrites := by
  refine ⟨fun s q off data hmem hne hlen hst hm hslot => ?_, fun s q j hany => ?_, fun s q v hmem hv hserve hm hb => ?_, fun s q v hmem hv ha hb => ?_⟩
  · have hx : exec (.pushSlotWrite q off data) s = .next (evalFull (modQp s q (fun x => { x with push := layPush x.push off data })) q) := by
      simp [exec, execPushSlotWrite, hmem, hne, Nat.not_lt.mpr hlen, hst, hm]
    rw [evalFull_of_none (by simpa using hslot)] at hx
    exact ⟨_, hx, by simp, rfl⟩
  · obtain ⟨f, l, hqp, -⟩ := qpOf_startFetch (bump (forgetSlot s q j) Obj.PUSH_DROPPED q 1) q
    refine ⟨startFetch (bump (forgetSlot s q j) Obj.PUSH_DROPPED q 1) q, by simp [exec, execPushSlotTimeout, hany], fun p hp => ?_, ?_⟩
    · have hpush : (qpOf (startFetch (bump (forgetSlot s q j) Obj.PUSH_DROPPED q 1) q) q).push = (qpOf s q).push.filter (fun e => e.1 / 64 != j) := by
        rw [hqp]
        simp [forgetSlot, Tbl.filterK]
      rw [hpush] at hp
      simpa using (List.mem_filter.mp hp).2
    · rw [rdN_startFetch _ _ (by decide), rdN_bump_same]
      rfl
  · obtain ⟨f, l, hqp, hf⟩ := qpOf_startFetch (noteOwned s q v.toNat) q
    refine ⟨startFetch (noteOwned s q v.toNat) q, by simp [exec, execSrNotify, hmem, Nat.mod_eq_of_lt hv, Nat.not_le.mpr hv, hserve, hm, hb], ?_, rdN_startFetch _ _ (by decide) _⟩
    rw [hqp]
    exact hf (by simp only [intakeOpen]; exact Bool.and_eq_true_iff.mpr ⟨hserve, hm⟩)
  · refine ⟨_, by simp only [exec, execCrRelease, hmem, Nat.mod_eq_of_lt hv, Nat.not_le.mpr hv, ha, hb]; rfl, ?_, fun b => ?_⟩
    · simp
    · simp [List.mem_filter]

/-! ## Ring fetches and polling -/

/-- An entry that the host has not given is passed over. -/
theorem evalFetched_of_not_own (s : State) (q : Nat) {e : SqEntry} (h : e.own = false) : evalFetched s q e = s := by
  simp [evalFetched, h]

/-- The expected entry, where it starts a chain of several, stands as the open chain. -/
theorem evalFetched_opens {s : State} {q : Nat} {e : SqEntry} (hopen : intakeOpen s q = true) (hown : e.own = true) (hseq : e.srSeq = rdN s Obj.NEXT_SR_SEQ q)
    (hb : behind e.srSeq e.srSeq = false) (hc : (qpOf s q).chain = []) (hs : startsChain e = true) (hl : e.last = false) :
    (qpOf (evalFetched s q e) q).chain = [e] ∧ rdN (evalFetched s q e) Obj.NEXT_SR_SEQ q = seqNext e.srSeq := by
  have hx : evalFetched s q e = startCommand (clearOwn (wr (noteOwned s q e.srSeq) Obj.NEXT_SR_SEQ q (seqNext e.srSeq : Nat)) q e) q e := by
    have hchain : (qpOf (clearOwn (wr (noteOwned s q e.srSeq) Obj.NEXT_SR_SEQ q (seqNext e.srSeq : Nat)) q e) q).chain = [] := by
      simpa [clearOwn, noteOwned] using hc
    simp [evalFetched, hopen, hown, ← hseq, hb, takeEntry, chainStep, hchain]
  rw [hx]
  constructor
  · simp [startCommand, hs, hl]
  · simp [startCommand, hs, hl, clearOwn]

/-- Whether a fetch goes on after its entries or not, the chain and NEXT_SR_SEQ are what the entries made them. -/
theorem fetchDone_chain (s : State) (q : Nat) (es : List SqEntry) :
    ∃ t, t = forEach es (fun e u => evalFetched u q e) (noteSpec (modQp s q (fun x => { x with fetch := none })) q (rdN s Obj.NEXT_SR_SEQ q) es) ∧
      (qpOf (fetchDone s q es) q).chain = (qpOf t q).chain ∧ rdN (fetchDone s q es) Obj.NEXT_SR_SEQ q = rdN t Obj.NEXT_SR_SEQ q := by
  refine ⟨_, rfl, ?_⟩
  generalize ht : forEach es (fun e u => evalFetched u q e) (noteSpec (modQp s q (fun x => { x with fetch := none })) q (rdN s Obj.NEXT_SR_SEQ q) es) = t
  have hx : fetchDone s q es = t ∨ fetchDone s q es = startFetch t q := by
    simp only [fetchDone, ht]
    split
    · split
      · exact .inr rfl
      · exact .inl rfl
    · exact .inl rfl
  rcases hx with hx | hx
  · exact ⟨by rw [hx], by rw [hx]⟩
  · obtain ⟨f, l, hqp, -⟩ := qpOf_startFetch t q
    exact ⟨by rw [hx, hqp], by rw [hx, rdN_startFetch _ _ (by decide)]⟩

/-- Signalling leaves the count of entries at zero. -/
theorem signalCr_sends {s : State} {q : Nat} :
    (qpOf (signalCr s q) q).coal = 0 ∧
      (vectorOpen s (qpFn s q) (rdN s Obj.CR_MSIX_VECTOR q) = true → ∃ a d, (signalCr s q).out = s.out ++ [.msix (qpFn s q) (rdN s Obj.CR_MSIX_VECTOR q) a d]) ∧
      (vectorOpen s (qpFn s q) (rdN s Obj.CR_MSIX_VECTOR q) = false → rdN s Obj.CR_MSIX_VECTOR q ∈ (fnOf (signalCr s q) (qpFn s q)).pend) := by
  have hv : vectorOpen (modQp s q (fun x => { x with coal := 0, coalAt := 0, coalErr := false })) (qpFn s q) (rdN s Obj.CR_MSIX_VECTOR q) = vectorOpen s (qpFn s q) (rdN s Obj.CR_MSIX_VECTOR q) := rfl
  cases h : vectorOpen s (qpFn s q) (rdN s Obj.CR_MSIX_VECTOR q)
  · simp [signalCr, sendMsix, hv, h, mem_addOnce]
  · simp [signalCr, sendMsix, hv, h, emitMsix]

/-- Settles O14: by what a fetched entry, a failed read, a poll and a signal do. -/
theorem ringReads : Obligations.RingReads := by
  refine ⟨fun s q e hf hopen hown hseq hb hc hs hl => ?_, fun s q es _ hf hopen => ?_, fun s q es owns _ hst hm hn hown => ?_, fun s q hu hm hfull => ?_, fun s q hen htime hcoal => ?_⟩
  · obtain ⟨t, ht, hchain, hnext⟩ := fetchDone_chain s q [e]
    have ho : intakeOpen (noteSpec (modQp s q (fun x => { x with fetch := none })) q (rdN s Obj.NEXT_SR_SEQ q) [e]) q = true := hopen
    have hc' : (qpOf (noteSpec (modQp s q (fun x => { x with fetch := none })) q (rdN s Obj.NEXT_SR_SEQ q) [e]) q).chain = [] := by simpa [noteSpec] using hc
    obtain ⟨h1, h2⟩ := evalFetched_opens ho hown hseq hb hc' hs hl
    rw [← forEach_nil (fun e u => evalFetched u q e) (evalFetched _ q e), ← forEach_cons, ← ht] at h1 h2
    exact ⟨_, by simp [exec, execRingFetchComplete, hf, hopen], hchain.trans h1, hnext.trans h2⟩
  · refine ⟨haltQp s q 1, by simp [exec, execRingFetchComplete, hf, hopen], ?_, ?_, ?_⟩
    · simp (disch := decide) [haltQp, rdN_raiseOpen, rdN_wr_code]
    · simp (disch := decide) [haltQp, rdN_raiseOpen, rdN_wr_self]
    · simp [haltQp, qpOf_of_qps (raiseOpen_qps _ _ _ _ _)]
  · obtain ⟨l, hl⟩ := qpOf_readSlots s q (rdN s Obj.NEXT_SR_SEQ q) es.length
    refine ⟨freeOwned (noteSpec (readSlots s q (rdN s Obj.NEXT_SR_SEQ q) es.length) q (rdN s Obj.NEXT_SR_SEQ q) es) q owns, ?_, ?_, fun b => ?_⟩
    · have hid (t : State) : forEach es (fun e u => evalFetched u q e) t = t := forEach_eq_self (fun e he => evalFetched_of_not_own t q (hown e he))
      simp [exec, execQpPoll, hst, hm, hn, hid]
    · exact (readSlots_keeps (Mask.le_self _) (Keeps.refl s)).rdN (by decide) q
    · simp only [freeOwned, noteSpec, qpOf_modQp, hl, List.mem_filter, Bool.not_eq_true', List.any_eq_false, Bool.and_eq_true, beq_iff_eq, not_and, Bool.not_eq_true, Prod.forall]
      refine and_congr_right fun _ => ⟨fun h hb => absurd (h b true hb rfl) (by decide), fun h a o ha e => ?_⟩
      subst e
      exact Bool.eq_false_iff.mpr fun ho => h (ho ▸ ha)
  · refine ⟨freeNextSlot s q, by simp [exec, execCrSlotPoll, hu, hm, hfull], fun b => ?_⟩
    simp [freeNextSlot]
  · obtain ⟨h1, h2, h3⟩ := signalCr_sends (s := s) (q := q)
    exact ⟨signalCr s q, by simp [exec, execMsixCoalesceTimeout, hen, htime, hcoal], h1, h2, h3⟩

end Sys2Proof.Machine
end

section
/-! PROOFS. The states of a queue pair under ADMIN_CTRL, QP_MODE, QP_HALT and reset (Table 07-13, R284, R299 to R301), and writing completion entries (R279, R300, R304). -/

namespace Sys2Proof.Machine

open Sys2Proof

-- The kernel evaluates closed facts below (masks of frames, concrete states): one declaration after another keeps the memory this takes small.
set_option Elab.async false

/-! ## The end of a reset -/

theorem settleReset_of_not {s : State} {q : Nat} (h : qpState s q ≠ Qs.resetting) : settleReset s q = s := by
  simp [settleReset, h]

/-- A pair in RESETTING with no tag outstanding becomes DISABLED, whoever asked for the reset. -/
theorem settleReset_disables {s : State} {q : Nat} (h : qpState s q = Qs.resetting) (ht : tagsOf (qpOf s q) = []) : rdN (settleReset s q) Obj.QP_STATE q = Qs.disabled := by
  simp only [settleReset, h, ht, List.isEmpty_nil, and_self, if_true]
  split
  · split
    · simp
    · simp
  · simp

/-- Where no command asked for the reset, the pair keeps its outcome table and nothing else. -/
theorem settleReset_outcomes {s : State} {q : Nat} (h : qpState s q = Qs.resetting) (ht : tagsOf (qpOf s q) = []) (hby : (qpOf s q).resetBy = none) :
    settleReset s q = wr (setQp s q { Qp.empty with outcomes := (qpOf s q).outcomes }) Obj.QP_STATE q (Qs.disabled : Nat) := by
  simp [settleReset, h, ht, hby]

/-- A reset of a pair with nothing outstanding makes it DISABLED at once. -/
theorem startReset_of_idle {s : State} {q : Nat} (by_ : Option (Nat × Nat)) (hq : (qpOf s q).queue = []) (hc : (qpOf s q).cmds = []) (hcpl : (qpOf s q).cpl = []) :
    rdN (startReset s q by_ false) Obj.QP_STATE q = Qs.disabled := by
  simp only [startReset, hq, hc, List.append_nil, forEach_nil, Bool.false_eq_true, if_false]
  apply settleReset_disables
  · simp [qpState]
  · simp [tagsOf, hq, hc, hcpl]

/-! ## Modes and creation -/

/-- Creating a pair puts it in the state that QP_MODE names. -/
theorem createQp_state (s : State) (q : Nat) : rdN (createQp s q) Obj.QP_STATE q = rdN s Obj.QP_MODE q ∧ rdN (createQp s q) Obj.QP_CREATE_RESULT q = 1 := by
  have hopen (e : State) (n p : Nat) {o : ObjDesc} (h : Mask.free 0x1e000000000000000000000000000000000000000000000000000000000000000000000000000000000000000000000000000000000000008 o = true) :
      rdN (openSession n p e) o q = rdN e o q := (openSession_keeps (Mask.le_self _) (Keeps.refl e)).rdN h q
  have hclear (e : State) {o : ObjDesc} (h : Mask.free 0x1ff80000000000000000000000000000000000000000000000000000000000000000000000000000000000000000000020 o = true) :
      rdN (clearQpCounters e q) o q = rdN e o q := (clearQpCounters_keeps (Mask.le_self _) (Keeps.refl e)).rdN h q
  unfold createQp
  dsimp only
  constructor
  · split <;> simp (disch := decide +kernel) only [hopen, hclear, rdN_setQp, rdN_clr_code, rdN_wr_code, rdN_wr_same]
  · split <;> simp (disch := decide +kernel) only [hopen, hclear, rdN_setQp, rdN_clr_code, rdN_wr_code, rdN_wr_self] <;> rfl

/-- A serving pair takes another mode at once. -/
theorem setMode_serving {s : State} {q mode : Nat} (h : qpServing s q = true) : rdN (setMode q mode s) Obj.QP_STATE q = mode ∧ rdN (setMode q mode s) Obj.QP_MODE q = mode := by
  simp (disch := decide) [setMode, h, rdN_wr_code]

theorem qpServing_iff {s : State} {q : Nat} : qpServing s q = true ↔ qpState s q = Qs.push ∨ qpState s q = Qs.poll := by
  simp [qpServing]

/-- Settles O15: each command's case of Table 07-13. -/
theorem queuePairStates : Obligations.QueuePairStates := by
  refine ⟨fun s pf push hpf hmem hst hres => ?_, fun s pf push hpf hserve => ?_, fun s q mode hmode hserve => ?_, fun s q mode hmode hst => ?_, fun s pf hpf hmem hst hq hc hcpl => ?_,
    fun s q hserve => ?_⟩
  · obtain ⟨h1, h2⟩ := createQp_state (wr s Obj.QP_MODE pf (if push then 2 else 1)) pf
    refine ⟨createQp (wr s Obj.QP_MODE pf (if push then 2 else 1)) pf, by simp [exec, execAdminCtrlEnable, hpf, hmem, hst, tryCreate, hres], h1.trans ?_, h2⟩
    cases push <;> simp [rdN_wr_self, Qs.push, Qs.poll]
  · obtain ⟨h1, h2⟩ := setMode_serving (mode := if push then Qs.push else Qs.poll) hserve
    refine ⟨_, by simp only [exec, execAdminCtrlMode, hpf, hserve, and_self, if_true], h1, h2.trans ?_⟩
    cases push <;> rfl
  · have hne : qpState s q ≠ Qs.resetting ∧ qpState s q ≠ Qs.halted := by
      rcases qpServing_iff.mp hserve with h | h <;> rw [h] <;> decide
    obtain ⟨h1, h2⟩ := setMode_serving (mode := mode) hserve
    exact ⟨_, by simp only [exec, execQpModeWrite, hmode, hne, ne_eq, not_false_eq_true, and_self, if_true], h1, h2⟩
  · have hserve : qpServing s q = false := by simp [qpServing, hst, Qs.push, Qs.poll, Qs.disabled]
    refine ⟨wr s Obj.QP_MODE q mode, ?_, by simp, ?_⟩
    · simp [exec, execQpModeWrite, hmode, hst, setMode, hserve, Qs.resetting, Qs.halted, Qs.disabled]
    · rw [rdN_wr_code (by decide)]
      exact hst
  · exact ⟨_, by simp only [exec, execAdminCtrlReset, hpf, hmem, hst, and_self, if_true], startReset_of_idle none hq hc hcpl⟩
  · refine ⟨haltQp s q 3, by simp [exec, execQpHalt, hserve], ?_, ?_⟩
    · simp (disch := decide) [haltQp, rdN_wr_code]
    · simp [haltQp, rdN_wr_self]

/-! ## Completion entries -/

/-- Signalling a vector leaves the queue pair's entries and slots. -/
theorem qpOf_signalCr (s : State) (q : Nat) : qpOf (signalCr s q) q = { qpOf s q with coal := 0, coalAt := 0, coalErr := false } := by
  rw [signalCr, (sendMsix_keeps (Mask.le_self _) (Keeps.refl _)).qpOf (by decide), qpOf_modQp]

/-- The state in which the oldest entry has been written, before its vector is signalled. -/
def headWritten (s : State) (q : Nat) (c : Cpl) (rest : List Cpl) : State :=
  modQp (ackSlots (wr (countCpl (cplWrites s q (seqNext (rdN s Obj.LAST_CR_SEQ q)) c) q c) Obj.LAST_CR_SEQ q (seqNext (rdN s Obj.LAST_CR_SEQ q) : Nat)) c.slots) q
    (fun x => { x with cpl := rest, crBusy := x.crBusy ++ [seqNext (rdN s Obj.LAST_CR_SEQ q)], coal := x.coal + 1,
                       coalAt := if x.coal = 0 then s.now else x.coalAt, coalErr := x.coalErr || c.status != 0 })

theorem qpState_headWritten (s : State) (q : Nat) (c : Cpl) (rest : List Cpl) : qpState (headWritten s q c rest) q = qpState s q := by
  rw [qpState, headWritten, rdN_modQp, (ackSlots_keeps (Mask.le_self _) (Keeps.refl _)).rdN (by decide +kernel), rdN_wr_code (by decide),
    (countCpl_keeps (Mask.le_self _) (Keeps.refl _)).rdN (by decide +kernel), (cplWrites_keeps (Mask.le_self _) (Keeps.refl _)).rdN (by decide +kernel), qpState]

theorem rdN_headWritten_lastSeq (s : State) (q : Nat) (c : Cpl) (rest : List Cpl) : rdN (headWritten s q c rest) Obj.LAST_CR_SEQ q = seqNext (rdN s Obj.LAST_CR_SEQ q) := by
  rw [headWritten, rdN_modQp, (ackSlots_keeps (Mask.le_self _) (Keeps.refl _)).rdN (by decide +kernel), rdN_wr_same]

theorem writeHead_of_free {s : State} {q : Nat} {c : Cpl} {rest : List Cpl} (hcpl : (qpOf s q).cpl = c :: rest) (hu : crUsable s q = true) (hm : canMaster s (qpFn s q) = true)
    (hfree : crFree (qpOf s q) (rdN s Obj.CR_SIZE q) (seqNext (rdN s Obj.LAST_CR_SEQ q)) = true) :
    writeHead s q = settleReset (if crSignals (headWritten s q c rest) q then signalCr (headWritten s q c rest) q else headWritten s q c rest) q := by
  simp only [writeHead, hcpl, hu, hm, hfree, Bool.and_self, if_true]
  rfl

/-- Writing the oldest entry of a pair that is not resetting. -/
theorem writeHead_writes {s : State} {q : Nat} {c : Cpl} {rest : List Cpl} (hcpl : (qpOf s q).cpl = c :: rest) (hu : crUsable s q = true) (hm : canMaster s (qpFn s q) = true)
    (hfree : crFree (qpOf s q) (rdN s Obj.CR_SIZE q) (seqNext (rdN s Obj.LAST_CR_SEQ q)) = true) (hst : qpState s q ≠ Qs.resetting) :
    rdN (writeHead s q) Obj.LAST_CR_SEQ q = seqNext (rdN s Obj.LAST_CR_SEQ q) ∧ (qpOf (writeHead s q) q).cpl = rest ∧ seqNext (rdN s Obj.LAST_CR_SEQ q) ∈ (qpOf (writeHead s q) q).crBusy := by
  rw [writeHead_of_free hcpl hu hm hfree]
  have hst' := (qpState_headWritten s q c rest).symm ▸ hst
  have hlast := rdN_headWritten_lastSeq s q c rest
  have hq : (qpOf (headWritten s q c rest) q).cpl = rest ∧ seqNext (rdN s Obj.LAST_CR_SEQ q) ∈ (qpOf (headWritten s q c rest) q).crBusy := by
    simp [headWritten]
  generalize headWritten s q c rest = u at hst' hlast hq ⊢
  split
  · have k : Keeps 0x800140 u (signalCr u q) := signalCr_keeps (Mask.le_self _) (Keeps.refl u)
    rw [settleReset_of_not (by rw [qpState, k.rdN (by decide +kernel)]; exact hst'), k.rdN (by decide +kernel), qpOf_signalCr]
    exact ⟨hlast, hq⟩
  · rw [settleReset_of_not hst']
    exact ⟨hlast, hq⟩

/-! ## A reset that times out -/

theorem writeHead_of_not_master {s : State} {q : Nat} (hu : crUsable s q = true) (hm : canMaster s (qpFn s q) = false) : writeHead s q = s := by
  cases h : (qpOf s q).cpl with
  | nil => simp [writeHead, h]
  | cons c rest => simp [writeHead, h, hu, hm]

theorem qpOf_recordOutcome (s : State) (q : Nat) (c : Cpl) :
    qpOf (recordOutcome s q c) q = { qpOf s q with outcomes := Tbl.set (qpOf s q).outcomes (c.tag % 32) (c.srSeq, c.status), recorded := (qpOf s q).recorded + 1 } := by
  rw [recordOutcome, qpOf_bump, qpOf_modQp]

/-- One entry that cannot be written is recorded and the pair becomes DISABLED. -/
theorem limitReset_records {s : State} {q : Nat} {c : Cpl} (hst : qpState s q = Qs.resetting) (hq : (qpOf s q).queue = []) (hc : (qpOf s q).cmds = []) (hcpl : (qpOf s q).cpl = [c])
    (hby : (qpOf s q).resetBy = none) (hu : crUsable s q = true) (hm : canMaster s (qpFn s q) = false) :
    rdN (limitReset s q) Obj.QP_STATE q = Qs.disabled ∧ rdN (limitReset s q) Obj.LOST_COMPLETIONS q = (rdN s Obj.LOST_COMPLETIONS q + 1) % 2 ^ 64 ∧
      Tbl.get (qpOf (limitReset s q) q).outcomes (c.tag % 32) = some (c.srSeq, c.status) := by
  have hx : limitReset s q = settleReset (recordOutcome (modQp s q (fun x => { x with cpl := [] })) q c) q := by
    simp [limitReset, hst, hq, hc, hcpl, forRange, writeHead_of_not_master hu hm, recordAll]
  have hst' : qpState (recordOutcome (modQp s q (fun x => { x with cpl := [] })) q c) q = Qs.resetting := by
    rw [qpState, recordOutcome, rdN_bump_code (by decide)]
    exact hst
  rw [hx, settleReset_outcomes hst' (by simp [qpOf_recordOutcome, tagsOf, hq, hc]) (by simp [qpOf_recordOutcome, hby])]
  refine ⟨rdN_wr_same _ _ _ _, ?_, by rw [qpOf_wr, qpOf_setQp, qpOf_recordOutcome]; exact Tbl.get_set_same _ _ _⟩
  rw [rdN_wr_code (by decide), rdN_setQp, recordOutcome, rdN_bump_same, rdN_modQp, rdN_modQp]

/-- Settles O16: writing the oldest entry, and a reset that times out with an entry that cannot be written. -/
theorem completionEntries : Obligations.CompletionEntries := by
  refine ⟨fun s q c rest hcpl hu hm hfree hst _ _ _ => ⟨writeHead s q, rfl, writeHead_writes hcpl hu hm hfree hst⟩,
    fun s q c hflr hst hq hc hcpl hby hu hm _ => ⟨limitReset s q, ?_, limitReset_records hst hq hc hcpl hby hu hm⟩⟩
  simp [exec, execQueueResetTimeout, hflr]

end Sys2Proof.Machine
end

section
/-! PROOFS. Admission of commands, their list pages, and QUEUE_CREATE and QUEUE_RESET (R275, R284, R297, R302, R306 to R313, R329, R330). -/

namespace Sys2Proof.Machine

open Sys2Proof

/-! ## The turn of an administrative queue pair -/

/-- Where one administrative queue pair alone has a command at its head, and that command waits for nothing, the turn is that pair's. -/
theorem exec_admitCommand_admin {s : State} {q : Nat} {c : Cmd} (hq : q < 2) (hrun : running s = true) (hhead : headOf s q = some c) (hothers : ∀ p, p ≠ q → headOf s p = none)
    (hserve : (lateCheck s c).isSome = true ∨ waitCause s q c = none) : exec .admitCommand s = .next (serveQp s q) := by
  have hnote (p : Nat) : noteWait s p = s := by
    by_cases hp : p = q
    · subst hp
      rcases hserve with h | h <;> simp [noteWait, hhead, h]
    · simp [noteWait, hothers p hp]
  have hself : servable s q = true := by
    rcases hserve with h | h <;> simp [servable, hhead, h]
  have hturn : sluiceTurn s = serveQp s q := by
    obtain rfl | rfl : q = 0 ∨ q = 1 := by omega
    · simp [sluiceTurn, hself]
    · have h0 : servable s 0 = false := by simp [servable, hothers 0 (by decide)]
      simp [sluiceTurn, h0, hself]
  have hall : forEach (s.qps.map Prod.fst) (fun p t => noteWait t p) s = s := forEach_eq_self (fun p _ => hnote p)
  simp [exec, execAdmitCommand, hrun, hall, hturn]

/-! ## QUEUE_RESET -/

/-- A started reset of another, idle pair completes the QUEUE_RESET that asked for it. -/
theorem startReset_completes {s : State} {q p tag : Nat} {d : Cmd} (hne : p ≠ q) (hq : (qpOf s p).queue = []) (hc : (qpOf s p).cmds = []) (hcpl : (qpOf s p).cpl = [])
    (hd : findCmd s q tag = some d) : ∃ e ∈ (qpOf (startReset s p (some (q, tag)) false) q).cpl, e.tag = d.tag ∧ e.status = St.success ∧ e.result = 0 := by
  generalize ht : modQp (wr s Obj.QP_STATE p (Qs.resetting : Nat)) p (fun y =>
    { y with fetch := none, chain := [], push := [], spec := [], resetBy := some (q, tag), ended := 0, recorded := 0, byFlr := false }) = t
  have hx : startReset s p (some (q, tag)) false = settleReset t p := by
    simp only [startReset, hq, hc, List.append_nil, forEach_nil, Bool.false_eq_true, if_false, List.length_nil, ht]
  have hst : qpState t p = Qs.resetting := by
    rw [← ht, qpState, rdN_modQp, rdN_wr_same]
  have htp : tagsOf (qpOf t p) = [] ∧ (qpOf t p).resetBy = some (q, tag) ∧ (qpOf t p).recorded = 0 ∧ (qpOf t p).ended = 0 := by
    simp [← ht, tagsOf, hq, hc, hcpl]
  obtain ⟨htags, hby, hrec, hend⟩ := htp
  have hfind : findCmd (wr (setQp t p { Qp.empty with outcomes := (qpOf t p).outcomes }) Obj.QP_STATE p (Qs.disabled : Nat)) q tag = some d := by
    rw [← hd, ← ht]
    simp only [findCmd, qpOf_wr, qpOf_setQp_other _ _ hne.symm, qpOf_modQp_other _ _ _ _ hne.symm]
  rw [hx]
  simp only [settleReset, hst, htags, hby, hrec, hend, hfind, List.isEmpty_nil, and_self, if_true]
  exact finish_cpl _ _ _ _ _

/-- Settles O17: the turn of the Sluice, the end of a list page, and what creating and resetting a pair complete with. -/
theorem commandAdmission : Obligations.CommandAdmission := by
  refine ⟨fun s q c hq hrun _ hhead hothers hlate hwait => ?_, fun s q c st hq hrun _ hhead hothers hlate => ?_, fun s q tag page c p l hdec hp hm hw => ?_, fun s q tag page c p hdec hp hm => ?_,
    fun s q tag c hc hst hres _ _ _ => ?_, fun s q tag c hc hst hres => ?_, fun s q tag c hc hne hst hq hcm hcpl => ?_⟩
  · rw [exec_admitCommand_admin hq hrun hhead hothers (.inr hwait)]
    simp [serveQp, hhead, hlate]
  · refine ⟨_, exec_admitCommand_admin hq hrun hhead hothers (.inl (by simp [hlate])), ?_⟩
    simp only [serveQp, hhead, hlate]
    obtain ⟨e, he, htag, hstat, -⟩ := finish_cpl (endWait s c) q c st 0
    exact ⟨e, he, htag, hstat⟩
  · refine ⟨modQueued s q tag (fun x => { x with descs := l, page := none, phase := .waiting }), by simp [exec, execListPageReadComplete, hdec, hp, hm, hw], fun x hx htag => ?_⟩
    simp only [modQueued, qpOf_modQp, List.mem_map] at hx
    obtain ⟨y, -, rfl⟩ := hx
    by_cases hy : y.tag = tag
    · simp [hy]
    · simp [hy] at htag
  · obtain ⟨e, he, htag, hstat, -⟩ := finish_cpl s q c St.dmaHalted 0
    exact ⟨_, by simp only [exec, execListPageReadComplete, hdec, hp, hm]; rfl, e, he, htag, hstat⟩
  · obtain ⟨e, he, htag, hstat, -⟩ := finish_cpl (createQp s c.target) q c St.success 0
    obtain ⟨h1, h2⟩ := createQp_state s c.target
    exact ⟨finish (createQp s c.target) q c St.success 0, by simp [exec, execQueueCreate, hc, hst, tryCreate, hres], ⟨e, he, htag, hstat⟩, h2, h1⟩
  · obtain ⟨e, he, htag, hstat, -⟩ := finish_cpl (wr s Obj.QP_CREATE_RESULT c.target (createResult s c.target : Nat)) q c St.invalidField 0
    exact ⟨finish (wr s Obj.QP_CREATE_RESULT c.target (createResult s c.target : Nat)) q c St.invalidField 0, by simp [exec, execQueueCreate, hc, hst, tryCreate, hres], ⟨e, he, htag, hstat⟩,
      (rdN_finish _ _ _ _ _ _ _).trans (rdN_wr_same _ _ _ _)⟩
  · generalize hs' : modCmd s q tag (fun x => { x with phase := .running }) = s'
    have hp : qpOf s' c.target = qpOf s c.target := by
      rw [← hs', modCmd, qpOf_modQp_other _ _ _ _ hne]
    obtain ⟨d0, hd0⟩ := findCmd_of_startable hc
    obtain ⟨d, hd⟩ : ∃ d, findCmd s' q tag = some d := by
      rw [← hs', findCmd_modCmd (f := fun x => { x with phase := .running }) (fun _ => rfl), hd0]
      exact ⟨_, rfl⟩
    have hdt : d.tag = tag := by simpa using List.find?_some hd
    obtain ⟨e, he, htag, hstat, hres⟩ := startReset_completes hne ((congrArg Qp.queue hp).trans hq) ((congrArg Qp.cmds hp).trans hcm) ((congrArg Qp.cpl hp).trans hcpl) hd
    refine ⟨_, by simp only [exec, execQueueReset, hc, hst, if_true, hs'], ⟨e, he, htag.trans hdt, hstat, hres⟩, ?_⟩
    exact startReset_of_idle _ ((congrArg Qp.queue hp).trans hq) ((congrArg Qp.cmds hp).trans hcm) ((congrArg Qp.cpl hp).trans hcpl)

end Sys2Proof.Machine
end

section
/-! PROOFS. WRITE, FLUSH and DEALLOCATE from their start to their completion (R39, R43, R140, R142, R157, R219, R317, R322, R323). -/

namespace Sys2Proof.Machine

open Sys2Proof

-- The kernel evaluates closed facts below (masks of frames, concrete states): one declaration after another keeps the memory this takes small.
set_option Elab.async false

/-! ## WRITE -/

/-- A write that places all that is left of it goes on to its transfers. -/
theorem continueWrite_of_placed {s u : State} {q tag : Nat} {d e : Cmd} (hd : findCmd s q tag = some d) (hu : placeRest s (cmdPool s d) q d = u) (he : findCmd u q tag = some e)
    (hp : placedWhole e = true) (hw : e.wr ≠ []) : continueWrite s q tag = startTransfers (noteSlots u) q e d.wr.length := by
  simp [continueWrite, hd, hu, he, hp, hw]

/-- A sector that is awaited and has its length lands as what it met says. -/
theorem exec_writeDmaLanded_of_filling {s r : State} {q tag i n : Nat} {c : Cmd} {data : Bytes} {flt : SecFault} {parts : List PartWrite} {mems : List Poison}
    (hs : forEach mems meetPoison (forEach parts (fun x t => countPart t x) r) = s) (hc : findCmd s q tag = some c) (ho : c.opcode = 2) (hi : c.wr[i]? = some (.filling n))
    (hr : inRange c (c.wFirst + i) = true) (hl : data.length = 4096) :
    exec (.writeDmaLanded q tag i data ⟨flt, parts, mems⟩) r = .next (
      if flt = .cipher then
        (if encrypted (countDev s (Dc.fromHost + fnPort (qpFn s q)) 4096) c.volume then failWrite (pipeFault (countDev s (Dc.fromHost + fnPort (qpFn s q)) 4096) (n % 4)) q tag St.cipherFault
        else countDev s (Dc.fromHost + fnPort (qpFn s q)) 4096)
      else if flt.isPoison ∨ !(poisonedWords parts).isEmpty then
        raise (landBad (bump (countDev s (Dc.fromHost + fnPort (qpFn s q)) 4096) Obj.DIRTY_POISON_BAD_DATA 0 1) q c i n) (ev 0x04 221) .error Src.volume c.volume (detailLba c.volume (c.wFirst + i))
      else landPlain (countDev s (Dc.fromHost + fnPort (qpFn s q)) 4096) q c i n data) := by
  simp only [exec, execWriteDmaLanded, hs, hc, hi]
  rw [if_neg (by simp [ho, hr, hl])]

/-- Completing a write builds its entry, whether or not the partner was told of its atomicity first. -/
theorem completeWrite_cpl (s : State) (q : Nat) (c : Cmd) :
    ∃ e ∈ (qpOf (completeWrite s q c) q).cpl, e.tag = c.tag ∧ e.status = St.success ∧ e.result = 0 ∧ e.committed = allCommitted c := by
  obtain ⟨e, he, htag, hst, hres, hcom, -⟩ := finishWith_cpl (if bitAt c.flags 1 ∧ mirrors s (cmdPool s c) then sendMsg s (.atomicMark (cmdPool s c) c.volume c.wseq c.nlb) else s) q c
    { cmdCpl (if bitAt c.flags 1 ∧ mirrors s (cmdPool s c) then sendMsg s (.atomicMark (cmdPool s c) c.volume c.wseq c.nlb) else s) c St.success 0 with
        committed := allCommitted c, slots := mappedSlots c }
  exact ⟨e, he, htag, hst, hres, hcom⟩

/-- Settles O18: the branch of each command that the hypotheses name. -/
theorem writeCommands : Obligations.WriteCommands := by
  refine ⟨fun s u q tag lane c d e hc hm hep hlane hd hu he hp hw => ?_, fun s r q tag i n c data parts mems hs hc ho hi hr hl hpw => ?_, fun s r q tag i n c data parts mems hs hc ho hi hr hl hpw => ?_,
    fun s r q tag i n c data parts mems hs hc ho hi hr hl henc => ?_, fun s q tag c hc ho hph hn ha hmir => ?_, fun s q tag c hc ho => ?_⟩
  · rw [← continueWrite_of_placed hd hu he hp hw]
    simp [exec, execWrite, hc, hm, hep, hlane]
  · rw [exec_writeDmaLanded_of_filling hs hc ho hi hr hl]
    simp [hpw, SecFault.isPoison]
  · rw [exec_writeDmaLanded_of_filling hs hc ho hi hr hl]
    simp [hpw]
  · rw [exec_writeDmaLanded_of_filling hs hc ho hi hr hl, if_pos rfl, if_pos]
    simpa only [encrypted, rdN_countDev] using henc
  · exact ⟨completeWrite s q c, by simp [exec, execWriteCompletion, hc, ho, hph, hn, ha, hmir], completeWrite_cpl s q c⟩
  · simp [exec, execWriteStep7Release, hc, ho]

/-! ## FLUSH and DEALLOCATE -/

/-- Settles O19: no stripe is there to be closed; and the completions of FLUSH and DEALLOCATE. -/
theorem flushAndDeallocate : Obligations.FlushAndDeallocate := by
  refine ⟨fun s q tag c hc hst => ?_, fun s q tag c hc ho hph hfail hwait => ?_, fun s q tag c hc ho hph hfail => ?_, fun s q tag c d hc hd ho hph hrec hwait => ?_, fun s q tag c r hc ho hph hrec hdur => ?_⟩
  · refine ⟨modCmd s q tag (fun x => { x with phase := .running }), ?_, fun x hx htag => ?_⟩
    · simp only [exec, execFlush, hc]
      rw [forRange_eq_self]
      intro p hp
      have hnone : (poolOf (modCmd s q tag fun x => { x with phase := .running }) p).stripes = [] := hst p hp
      simp [forceWhere, hnone]
    · rw [cmds_modCmd, List.mem_map] at hx
      obtain ⟨y, -, rfl⟩ := hx
      by_cases hy : y.tag = tag
      · simp [hy]
      · simp [hy] at htag
  · obtain ⟨e, he, htag, hstat, -⟩ := finish_cpl s q c St.success 0
    exact ⟨_, by simp only [exec, execFlushCompletion, hc, ho, hph, hfail, hwait]; rfl, e, he, htag, hstat⟩
  · obtain ⟨e, he, htag, hstat, -⟩ := finish_cpl s q c St.poolOffline 0
    exact ⟨_, by simp only [exec, execFlushCompletion, hc, ho, hph, hfail]; rfl, e, he, htag, hstat⟩
  · refine ⟨logRec (modCmd s q tag (fun x => { x with phase := .running })) (cmdPool s d) (.dealloc d.volume d.slba d.nlb d.wseq (q + 1) tag), ?_, rfl⟩
    have hrec' : deallocRec (modCmd s q tag (fun x => { x with phase := .running })) q tag = none := hrec
    have hp : cmdPool (modCmd s q tag (fun x => { x with phase := .running })) d = cmdPool s d := rfl
    simp [exec, execDeallocate, hc, tryDealloc, hd, ho, hph, hrec', hwait, hp]
  · simp only [exec, execDeallocateCompletion, hc, hrec, ho, hph, hdur, and_self, if_true]
    refine ⟨_, rfl, ?_⟩
    rw [(noteHolds_keeps (Mask.le_self _) (Keeps.refl _)).qpOf (by decide +kernel)]
    obtain ⟨e, he, htag, hstat, -⟩ := finish_cpl _ q c St.success 0
    exact ⟨e, he, htag, hstat⟩

end Sys2Proof.Machine
end

section
/-! PROOFS. Reads that end, stripes, lanes, intent records and slots (R94, R130, R141, R191, R197, R206, R242, R247). -/

namespace Sys2Proof.Machine

open Sys2Proof

/-! ## Transfer errors and member reads -/

/-- A command found decoding is in that phase. -/
theorem phase_of_decoding {s : State} {q tag : Nat} {c : Cmd} (h : decoding s q tag = some c) : c.phase = .decode := by
  have := List.find?_some h
  simp only [Bool.and_eq_true, beq_iff_eq] at this
  exact this.2

/-- Settles O21: the branch of each ending that the hypotheses name. -/
theorem transferErrorsAndMemberReads : Obligations.TransferErrorsAndMemberReads := by
  refine ⟨fun s q tag => rfl, fun s q tag c hn hd => ?_, fun s q tag c hc ho hp hf => ?_, fun s id p v lba slot zs col m w data flt hm hp => ?_, fun s id job col m data flt hm hp => ?_,
    fun s job x g d m hx hall hg hw hd hchk => ?_, fun s id p key mc m data hm hp hl => ?_⟩
  · refine ⟨finish s q c St.dmaHalted 0, by simp [exec, execHostReadErrorCompletion, hn, hd, phase_of_decoding hd], ?_⟩
    obtain ⟨e, he, htag, hst, -⟩ := finish_cpl s q c St.dmaHalted 0
    exact ⟨e, he, htag, hst⟩
  · simp [exec, execHostReadErrorCompletion, hc, ho, hp, hf, endWith]
  · simp [exec, execMemberReadComplete, hm, hp]
  · simp [exec, execMemberReadComplete, hm, hp]
  · simp only [exec, execDegradedDecodeDone, hx, hall, hg, hd, hchk, Bool.not_true, Bool.false_eq_true, if_false, if_true]
  · simp [exec, execMapLeafReadComplete, hm, hp, hl]

/-! ## Stripes, lanes and intent records -/

/-- What a log record written leaves at the end of the intent log. -/
theorem logRec_recs (s : State) (p : Nat) (b : RecBody) :
    (logRec s p b).ilog.recs = s.ilog.recs ++ [{ seq := s.ilog.nextSeq, pool := p, body := b, durable := false, copy := false }] := rfl

/-- A record that is kept is marked durable and nothing else of the records changes. -/
theorem recordKept_recs (s : State) (r : LogRec) (fails : Nat) (corrected : Bool) :
    (recordKept s r fails corrected).ilog.recs = s.ilog.recs.map (fun x => if x.seq = r.seq then { x with durable := true } else x) := by
  have hcorr : (if corrected then bump s Obj.ILOG_ECC_CORRECTED 0 1 else s).ilog = s.ilog := by split <;> rfl
  have hretire (t : State) : (retireWord t).ilog = t.ilog := rfl
  have hsend (t : State) (x : LogRec) : (sendRecord t x).ilog = t.ilog := (sendRecord_keeps (Mask.le_self _) (Keeps.refl t)).parts .ilog (by decide)
  simp only [recordKept]
  split <;> split <;> simp only [hsend, hretire, hcorr]

/-- Mapping the values of a table, keys as they are, adds no key. -/
theorem Tbl.get_map_none {α : Type} {t : Tbl α} {g : Nat × α → Nat × α} (hg : ∀ e, (g e).1 = e.1) {k : Nat} (h : Tbl.get t k = none) : Tbl.get (List.map g t) k = none := by
  induction t with
  | nil => rfl
  | cons e r ih =>
    obtain ⟨j, v⟩ := e
    by_cases hj : j = k
    · simp [Tbl.get, hj] at h
    · simp only [Tbl.get, hj, if_false] at h
      have hkey : (g (j, v)).1 ≠ k := by rw [hg]; exact hj
      simp only [List.map_cons, Tbl.get, hkey, if_false, ih h]

/-- A slot that is released is empty. -/
theorem slotOf_releaseSlot_same (s : State) (n : Nat) : slotOf (releaseSlot s n) n = none := by
  simp only [releaseSlot]
  split
  case h_1 h => exact h
  case h_2 x h =>
    simp only [noteSlots, slotOf_wr]
    simp only [slotOf]
    apply Tbl.get_map_none
    · intro e
      rfl
    · exact Tbl.get_erase_same s.prot n

/-- Settles O22: the branch of each command that the hypotheses name, and what it does to the intent log. -/
theorem stripesAndIntentRecords : Obligations.StripesAndIntentRecords := by
  refine ⟨fun s r p id x mems hs hx ha => ?_, fun s p cls lane hw hseg hopen hep => ?_, fun s id p st j c x hc hp hx hg hi hl hlog => ?_, fun s seq fails corrected r hr hsp => ?_,
    fun s seq fails corrected hf hsp => ?_, fun s n x hx hn hst hnm hrd hack hdig hat hmir => ?_, fun s hah => ?_⟩
  · simp [exec, execStripeAgeTimer, hs, hx, ha]
  · simp [exec, execLaneWaitEnd, hw, hseg, hopen, hep, laneCan]
  · refine ⟨columnDone s id, rfl, ?_⟩
    simp only [columnDone, hc, hp, hx, hg, hi, hl, hlog]
    simp [logRec_recs]
  · have hseq : r.seq = seq := by
      have := List.find?_some hr
      simp only [Bool.and_eq_true, beq_iff_eq] at this
      exact this.1
    refine ⟨?_, by rw [recordKept_recs, hseq]⟩
    simp only [exec, execIlogRecordDurable, hr]
    rw [if_neg (by simpa using hsp)]
  · simp only [exec, execIlogRecordDurable, hf, hsp]
    split <;> simp
  · refine ⟨releaseSlot s n, by simp [exec, execSlotRelease, hx, hn, hst, hnm, hrd, hack, hdig, hat, hmir], slotOf_releaseSlot_same s n⟩
  · simp only [exec, execIlogWearRotate, if_neg (Nat.not_lt.mpr hah)]
    exact ⟨_, rfl, by simp [apply_ite State.ilog, noteIlog]⟩

end Sys2Proof.Machine

end

section
/-! PROOFS. Checkpoints, the Dredger's choice, segments set back and the reshape cursor (R154, R160, R163, R171, R172, R283). -/

namespace Sys2Proof.Machine

open Sys2Proof

/-- Writing a log record leaves the pools as they are. -/
@[simp] theorem poolOf_logRec (s : State) (p : Nat) (b : RecBody) (n : Nat) : poolOf (logRec s p b) n = poolOf s n := rfl

/-- What the Dredger notes is the state its choice gives. -/
theorem rdN_noteDredger (s : State) (p : Nat) : rdN (noteDredger s p) Obj.DREDGE_STATE p = (dredgeChoice (noteUrgent s p) p).1 := by
  simp only [noteDredger]
  exact rdN_wr_same _ _ _ _

/-- A record of a checkpoint is one that `ckptRecord` finds. -/
theorem ckptRecord_of_body {p n : Nat} {g : Bytes} {r : LogRec} (hp : r.pool = p) (hb : r.body = .checkpoint n g) : ckptRecord p n r = true := by
  simp [ckptRecord, hp, hb]

/-- Settles O23: the branch of each step that the hypotheses name, with what it leaves in the pool and the intent log. -/
theorem checkpointsAndSegments : Obligations.CheckpointsAndSegments := by
  refine ⟨fun s p hp hs ha hk => ?_, fun s p k hk h6 hb hw h2 h4 => ?_, fun s p k hk h6 hrec hwait => ?_, fun s p hp hs => ?_, fun s p hp hs hidle hep hd => ?_, fun s p slot hp hs hidle hep hd hr => ?_,
    fun s p slot g hg hst hpass hread hlive hresh => ?_, fun s id p slot j c hc hp => ?_, fun s p slot r g hp hr hmov hg hst hpass hmig => ?_⟩
  · obtain ⟨k, hck, hnum, hstep⟩ : ∃ k, (poolOf (startCkpt s p) p).ckpt = some k ∧ k.number = rdN s Obj.MAP_CHECKPOINT_NUMBER p + 1 ∧ k.step = 1 := by
      simp only [startCkpt, poolOf_modPool]
      exact ⟨_, rfl, rfl, rfl⟩
    exact ⟨startCkpt s p, k, by simp [exec, execCheckpointStart, hp, hs, ha, hk], hck, hnum, hstep, by simp only [startCkpt, poolOf_modPool], rfl⟩
  · have hexec : exec (.checkpointStepDone p) s = .next (if k.step = 2 ∧ k.leaves ≠ [] then writeLeaves s p k else if k.step = 4 ∧ k.roots ≠ [] then writeRoot s p k else beginStep s p k (k.step + 1)) := by
      simp [exec, execCheckpointStepDone, hk, h6, hb, hw]
    rw [hexec, if_neg h2, if_neg h4]
  · obtain ⟨r, hr, hpool, hdur, g, hbody⟩ := hrec
    have hany : s.ilog.recs.any (fun r => r.durable && ckptRecord p k.number r) = true := List.any_eq_true.mpr ⟨r, hr, by rw [hdur, ckptRecord_of_body hpool hbody]; rfl⟩
    have hnone : s.pair.recWait.any (fun e => ckptRecord p k.number e.2) = false := List.any_eq_false.mpr fun e he => by simp [hwait e he]
    simp [exec, execCheckpointStepDone, hk, h6, hany, hnone]
  · exact ⟨requestCkpt s p, by simp [exec, execMapCheckpointNow, hp, hs], by simp only [requestCkpt, poolOf_modPool], rfl⟩
  · exact ⟨noteDredger s p, by simp [exec, execDredgeSelect, hp, hs, hidle, hep, hd], rdN_noteDredger s p⟩
  · simp [exec, execDredgeSelect, hp, hs, hidle, hep, hd, hr]
  · refine ⟨logRec (modSeg s p slot (fun x => { x with st := 4, resets := List.range x.cols.length })) p (.segReset slot g.seq), ?_, ?_, ?_⟩
    · simp [exec, execSegmentResetStart, hg, hst, hpass, hread, hlive, hresh]
    · simp [logRec_recs]
    · simp only [poolOf_logRec, modSeg, poolOf_modPool]
      exact ⟨_, Tbl.get_modify_same _ hg, rfl, rfl⟩
  · simp [exec, execZoneResetComplete, zoneResetDone, hc, hp]
  · simp [exec, execReshapeCursorAdvance, hr, hmov, hg, hst, hpass, hmig]

end Sys2Proof.Machine

end

section
/-! PROOFS. The patrol's walk, the resync, rebuilds and volumes (R209, R216, R263, R268, R271, R134). -/

namespace Sys2Proof.Machine

open Sys2Proof

-- The kernel evaluates closed facts below (masks of frames, concrete states): one declaration after another keeps the memory this takes small.
set_option Elab.async false

/-! ## What a frame says of pools, volumes, ports and functions -/

section
variable {fm : Nat} {s t : State} (k : Keeps fm s t)
include k

theorem Keeps.poolOf (h : Nat.testBit fm 12 = false) (p : Nat) : poolOf t p = poolOf s p := by
  have := k.parts .pools h
  simp only [Machine.poolOf]
  rw [this]

theorem Keeps.volOf (h : Nat.testBit fm 9 = false) (v : Nat) : volOf t v = volOf s v := by
  have := k.parts .vols h
  simp only [Machine.volOf]
  rw [this]

theorem Keeps.dportOf (h : Nat.testBit fm 14 = false) (n : Nat) : dportOf t n = dportOf s n := by
  have := k.parts .drv h
  simp only [Machine.dportOf]
  rw [this]

theorem Keeps.hostPort (h : Nat.testBit fm 8 = false) (n : Nat) : hostPort t n = hostPort s n := by
  have := k.parts .host h
  simp only [Machine.hostPort]
  rw [this]

theorem Keeps.fnOf (h : Nat.testBit fm 8 = false) (n : Nat) : fnOf t n = fnOf s n := by
  have := k.parts .host h
  simp only [Machine.fnOf]
  rw [this]

end

/-! ## A pool's conditions -/

/-- The registers that a change of a pool's conditions leaves alone. -/
theorem rdN_setCond {o : ObjDesc} (h : Mask.free 0x600000000800100 o = true) (s : State) (p b : Nat) (on : Bool) (i : Nat) : rdN (setCond s p b on) o i = rdN s o i :=
  (setCond_keeps (Mask.le_self _) (Keeps.refl s)).rdN h i

@[simp] theorem poolOf_setCond (s : State) (p b : Nat) (on : Bool) (n : Nat) : poolOf (setCond s p b on) n = poolOf s n :=
  (setCond_keeps (Mask.le_self _) (Keeps.refl s)).poolOf (by decide) n

/-! ## Rebuild -/

/-- A running rebuild that is considered again counts its sectors afresh. -/
theorem considerRebuild_running {s : State} {p : Nat} (hf : anyFailed s p = true) (h2 : rdN s Obj.REBUILD_STATE p = 2) :
    considerRebuild s p = setCond (wr (wr (setCond s p Pc.degraded true) Obj.REBUILD_SECTORS_TOTAL p (lostLive (setCond s p Pc.degraded true) p : Nat)) Obj.REBUILD_SECTORS_DONE p 0) p Pc.rebuilding true := by
  have hst : rdN (setCond s p Pc.degraded true) Obj.REBUILD_STATE p = 2 := by rw [rdN_setCond (by decide +kernel), h2]
  simp [considerRebuild, recountRebuild, hf, hst]

/-- A rebuild that does not run yet does so, or waits, as its drives and zones allow. -/
theorem considerRebuild_waiting {s : State} {p : Nat} {can : Bool} (hf : anyFailed s p = true) (h2 : rdN s Obj.REBUILD_STATE p ≠ 2)
    (hc : rebuildCan (wr (wr (setCond s p Pc.degraded true) Obj.REBUILD_SECTORS_TOTAL p (lostLive (setCond s p Pc.degraded true) p : Nat)) Obj.REBUILD_SECTORS_DONE p 0) p = can) :
    considerRebuild s p = setCond (wr (wr (wr (setCond s p Pc.degraded true) Obj.REBUILD_SECTORS_TOTAL p (lostLive (setCond s p Pc.degraded true) p : Nat)) Obj.REBUILD_SECTORS_DONE p 0) Obj.REBUILD_STATE p (if can then 2 else 1)) p Pc.rebuilding can := by
  have hst : rdN (setCond s p Pc.degraded true) Obj.REBUILD_STATE p ≠ 2 := by rwa [rdN_setCond (by decide +kernel)]
  cases can <;> simp [considerRebuild, hf, hst, hc]

/-- Settles O24: the branch of each command that the hypotheses name, read back register by register. -/
theorem patrolResyncAndRebuild : Obligations.PatrolResyncAndRebuild := by
  refine ⟨fun s p cols hp hm hidle hep hnil => ?_, fun s p cols e r hp hm hidle hep hcons => ?_, fun s p hp => ?_, fun s p cols w hp hr hc hep hl => ?_, fun s p hp h1 hc => ?_,
    fun s p slot g hp h2 hidle hep hl => ?_, fun s p hp hf h2 hc => ?_, fun s p hp hf h2 => ?_, fun s p hp hf h2 hc => ?_⟩
  · refine ⟨_, by simp only [exec, execPatrolStripe, hp, hm, hidle, hep, hnil, Bool.not_false, and_self, if_true]; rfl, ?_, ?_, ?_⟩
    · rw [rdN_wr_code (by decide), rdN_modPool, rdN_wr_code (by decide), rdN_bump_same]
    · rw [rdN_wr_self, Int.toNat_zero]
    · rw [poolOf_wr, poolOf_modPool]
  · refine ⟨_, by simp only [exec, execPatrolStripe, hp, hm, hidle, hep, hcons, Bool.not_false, and_self, if_true]; rfl, ?_, ?_, ?_, ?_⟩
    · rw [rdN_wr_self, Int.toNat_one]
    · rw [rdN_wr_code (by decide), rdN_wr_same, List.length_cons]
    · rw [poolOf_wr, poolOf_wr, poolOf_bump, poolOf_modPool]
    · rw [poolOf_wr, poolOf_wr, poolOf_bump, poolOf_modPool]
  · refine ⟨_, by simp only [exec, execPatrolRestart, hp, if_true]; rfl, ?_, ?_⟩
    · rw [rdN_wr_self, Int.toNat_zero]
    · rw [poolOf_wr, poolOf_modPool]
  · refine ⟨_, by simp only [exec, execResyncStripeCheck, hr, hc, hep, hl]; rfl, ?_, ?_⟩
    · simp
    · simp only [Bool.not_true, Bool.false_eq_true, ne_eq, not_true_eq_false, or_self, if_false]
      rw [rdN_setCond (by decide +kernel), rdN_modPool, rdN_wr_self]
      rfl
  · have hexec : resumeRebuild s p = considerRebuild s p := by simp [resumeRebuild, h1, hc]
    simp [exec, execRebuildStart, execRebuildAutoStart, hp, hexec]
  · simp only [exec, execRebuildNextSegment, hp, h2, hidle, hep, hl, Bool.not_false, and_self, if_true]
  · rw [considerRebuild_waiting hf h2 hc]
    simp (disch := decide +kernel) [rdN_setCond, rdN_wr_code, rdN_wr_self]
  · rw [considerRebuild_running hf h2]
    simp (disch := decide +kernel) [rdN_setCond, rdN_wr_code, rdN_wr_self, h2]
  · rw [considerRebuild_waiting hf h2 hc]
    simp (disch := decide +kernel) [rdN_setCond, rdN_wr_self]

/-! ## Volumes -/

/-- Settles O25: the branch of each action that the hypotheses name. -/
theorem volumeActions : Obligations.VolumeActions := by
  refine ⟨fun s v hv hr => ?_, fun s v hv hr => ?_, fun s v hv hst hd => ?_, fun s v hv hst => ?_, fun s v hd hb hst => ?_, fun s v cap hv hst h0 hcap => ?_, fun s v cap hv hst hcap => ?_⟩
  · simp [exec, execVolumeCreate, hv, hr, Vr.done]
  · refine ⟨wr s Obj.VOLUME_ACTION_RESULT v (volCreateResult s v : Nat), by simp [exec, execVolumeCreate, hv, hr], rdN_wr_same _ _ _ _, rdN_wr_code (by decide) _, rfl⟩
  · refine ⟨wr (modVol s v (fun x => { x with deleting := true })) Obj.VOLUME_ACTION_RESULT v (Vr.inProgress : Nat), by simp [exec, execVolumeDelete, hv, hst, hd], ?_, rdN_wr_same _ _ _ _, ?_⟩
    · simp only [volOf_wr, volOf_modVol]
    · rw [rdN_wr_code (by decide)]
      rfl
  · refine ⟨wr s Obj.VOLUME_ACTION_RESULT v (Vr.state : Nat), ?_, rdN_wr_same _ _ _ _, rfl⟩
    have hno : ¬(rdN s Obj.VOLUME_STATE v = 1 ∨ rdN s Obj.VOLUME_STATE v = 2) := by omega
    simp only [exec, execVolumeDelete, hv, hno, false_and, if_true, if_false]
  · simp only [exec, execVolumeDeleteDrained, hd, hb, hst, Bool.not_false, and_self, if_true]
  · have hok : capacityResult s v cap = Rs.ok := by
      simp [capacityResult, hst]
      omega
    exact ⟨wr s Obj.VOLUME_CAPACITY v cap, by simp [exec, execVolumeCapacityWrite, hv, hok, growVol, hst], rdN_wr_same _ _ _ _, rfl⟩
  · have hbad : capacityResult s v cap ≠ Rs.ok := by
      simp only [capacityResult, hst, hcap, true_or, if_true, if_false]
      split_ifs <;> decide
    simp [exec, execVolumeCapacityWrite, hbad]

end Sys2Proof.Machine

end

section
/-! PROOFS. Code tables, actions of pools and members, and epochs (R98, R99, R102, R103, R127, R129, R305, R78 to R90). -/

namespace Sys2Proof.Machine

open Sys2Proof

-- The kernel evaluates closed facts below (masks of frames, concrete states): one declaration after another keeps the memory this takes small.
set_option Elab.async false

/-! ## Code tables -/

/-- A check that is started runs, or says at once what is wrong with the table. -/
theorem startCheck_of_wellFormed {s : State} {i : Nat} (h : tableReason (rdBytes s Obj.CODE_TABLE_DATA i) = 0) :
    rdN (startCheck s i) Obj.CODE_CHECK_STATE i = Ct.checking ∧ rdN (startCheck s i) Obj.CODE_CHECK_DONE i = 0 := by
  simp only [startCheck, h, ne_eq, not_true_eq_false, if_false]
  simp (disch := decide) [rdN_wr_code, rdN_wr_self]

theorem startCheck_of_malformed {s : State} {i : Nat} (h : tableReason (rdBytes s Obj.CODE_TABLE_DATA i) ≠ 0) :
    rdN (startCheck s i) Obj.CODE_CHECK_STATE i = Ct.refused ∧ rdN (startCheck s i) Obj.CODE_CHECK_REASON i = tableReason (rdBytes s Obj.CODE_TABLE_DATA i) := by
  simp only [startCheck, h, ne_eq, not_false_eq_true, if_true]
  simp (disch := decide) [rdN_wr_code]

/-- Settles O26: what the slot's registers read after each command. -/
theorem customCodeTables : Obligations.CustomCodeTables := by
  refine ⟨fun s i b hi hl hz hc hu => ?_, fun s i hi hs hr => ?_, fun s i hi hs hr => ?_, fun s i hi hs hf => ?_, fun s i e hi hs hf => ?_⟩
  · refine ⟨loadTable s i b, by simp [exec, execCodeTableDataWrite, tableWriteResult, hi, hl, hz, hc, hu], ?_, ?_, ?_⟩
    · simp [loadTable]
    · simp (disch := decide) [loadTable, rdN_wr_code]
    · simp (disch := decide) [loadTable, rdN_wr_code, rdN_wr_self]
  · exact ⟨startCheck s i, by simp [exec, execCodeCheckStart, hi, hs], startCheck_of_wellFormed hr⟩
  · exact ⟨startCheck s i, by simp [exec, execCodeCheckStart, hi, hs], startCheck_of_malformed hr⟩
  · refine ⟨_, by simp only [exec, execCodeCheckDone, hi, hs, hf, and_self, if_true]; rfl, ?_, ?_⟩
    · simp (disch := decide) [rdN_wr_code]
    · rw [rdN_wr_self]
      rfl
  · refine ⟨_, by simp only [exec, execCodeCheckDone, hi, hs, hf, and_self, if_true]; rfl, ?_, ?_, ?_⟩ <;>
      simp (disch := decide) [rdN_wr_code, rdN_wr_self]

/-! ## Pools and members -/

/-- Settles O27: the branch of each action that the hypotheses name. -/
theorem poolActions : Obligations.PoolActions := by
  refine ⟨fun s p hp ha hst hc => ?_, fun s p hp ha hst => ?_, fun s p hp ha hst hl h11 => ?_, fun s p hp ha hst hl h11 => ?_, fun s p hp ha hst hst' => ?_, fun s p hp ha hst hl hm => ?_,
    fun s p hp ha hst hl hm => ?_, fun s p hp ha hst hl => ?_, fun s p id m status c data heads media hc hpurp => ?_⟩
  · simp [exec, execPoolActionCreate, Nat.not_le.mpr hp, ha, hst, hc]
  · exact ⟨wr s Obj.POOL_ACTION_RESULT p (Pr.state : Nat), by simp [exec, execPoolActionCreate, Nat.not_le.mpr hp, ha, hst], rdN_wr_same _ _ _ _, rfl⟩
  · exact ⟨{ s with power := { s.power with online := addOnce s.power.online p } }, by simp [exec, execPoolActionOnline, Nat.not_le.mpr hp, ha, hst, hl, h11], mem_addOnce.mpr (.inr rfl), rfl⟩
  · simp [exec, execPoolActionOnline, Nat.not_le.mpr hp, ha, hst, hl, Nat.not_lt.mpr h11]
  · have hact : (poolOf (startAct s p Pa.offline 1) p).action = some { code := Pa.offline, step := 1, left := 0, held := [], result := 0 } := by
      simp only [startAct, poolOf_wr, poolOf_modPool]
    exact ⟨startAct s p Pa.offline 1, _, by simp [exec, execPoolActionOffline, Nat.not_le.mpr hp, ha, hst, hst'], rdN_wr_same _ _ _ _, hact, rfl, by simp only [goingOffline, hact]; rfl⟩
  · simp [exec, execPoolActionDestroy, Nat.not_le.mpr hp, ha, hst, hl, hm]
  · simp [exec, execPoolActionDestroy, Nat.not_le.mpr hp, ha, hst, hl, hm]
  · exact ⟨wr s Obj.POOL_ACTION_RESULT p (Pr.volumes : Nat), by simp [exec, execPoolActionDestroy, Nat.not_le.mpr hp, ha, hst, hl], rdN_wr_same _ _ _ _, rfl⟩
  · simp [exec, execPoolActionStepDone, hc, hpurp]

/-- Settles O28: an action that may go on does, and one that may not only reports why. -/
theorem memberActions : Obligations.MemberActions := by
  refine ⟨fun s p m hp hm hr => ?_, fun s p m hp hm hr hrun => ?_, fun s p m hp hm hr => ?_, fun s p m hp hm hr => ?_⟩
  · simp [exec, execMemberAdd, hp, hm, hr]
  · exact ⟨wr s Obj.MEMBER_ACTION_RESULT (mInst p m) (addResult s p m : Nat), by simp [exec, execMemberAdd, hp, hm, hr, hrun], rdN_wr_same _ _ _ _, rfl, rfl⟩
  · simp [exec, execMemberRemove, hp, hm, hr]
  · exact ⟨wr s Obj.MEMBER_ACTION_RESULT (mInst p m) (removeResult s p m : Nat), by simp [exec, execMemberRemove, hp, hm, hr], rdN_wr_same _ _ _ _, rfl, rfl⟩

/-! ## Epochs -/

theorem epochState_orderRevert (s : State) (r : Nat) : epochState (orderRevert s r) = Es.reverting := by
  simp only [epochState, orderRevert, rdN_modEp, rdN_wr_same]

/-- An acknowledgement is shown and the epoch state stays. -/
theorem setAck_facts (s : State) (u : Nat) : rdB (setAck s u) Obj.UNIT_ACK u = true ∧ u ∈ (setAck s u).ep.acked ∧ epochState (setAck s u) = epochState s := by
  refine ⟨by simp [setAck], ?_, ?_⟩
  · simp only [setAck, wrB_ep]
    exact mem_addOnce.mpr (.inr rfl)
  · simp only [epochState, setAck, rdN_wrB_code (show Obj.EPOCH_STATE.code ≠ Obj.UNIT_ACK.code by decide), rdN_modEp]

/-- While not every unit has acknowledged, an acknowledgement starts nothing. -/
theorem afterAck_of_not_all {s : State} (h : allAcked s = false) : afterAck s = s := by
  simp [afterAck, h]

/-- An epoch that ends leaves the epoch state idle, with its result and nothing acknowledged. -/
theorem toIdle_facts (s : State) (r : Nat) : epochState (toIdle s r) = Es.idle ∧ rdN (toIdle s r) Obj.EPOCH_RESULT 0 = r ∧ (toIdle s r).ep.acked = [] ∧ (toIdle s r).ep.staged = s.ep.staged := by
  have hclr : Keeps (Foot.mask ⟨[], some [Obj.UNIT_ACK]⟩) s (forRange 71 (fun u t => clr t Obj.UNIT_ACK u) s) := (Keeps.refl s).forRange 71 _ fun u t h => clr_keeps (by decide +kernel) h
  have hep : (forRange 71 (fun u t => clr t Obj.UNIT_ACK u) s).ep = s.ep := hclr.parts .ep (by decide +kernel)
  simp only [toIdle]
  generalize forRange 71 (fun u t => clr t Obj.UNIT_ACK u) s = t at hep ⊢
  refine ⟨?_, ?_, rfl, (congrArg Epoch.staged hep : t.ep.staged = s.ep.staged)⟩
  · show rdN (wr (wr (wr t Obj.EPOCH_STATE 0 (Es.idle : Nat)) Obj.EPOCH_RESULT 0 r) Obj.EPOCH_LAST_DURATION 0 ((s.now - s.ep.started : Nat) : Int)) Obj.EPOCH_STATE 0 = Es.idle
    simp (disch := decide) only [rdN_wr_code, rdN_wr_same]
  · show rdN (wr (wr (wr t Obj.EPOCH_STATE 0 (Es.idle : Nat)) Obj.EPOCH_RESULT 0 r) Obj.EPOCH_LAST_DURATION 0 ((s.now - s.ep.started : Nat) : Int)) Obj.EPOCH_RESULT 0 = r
    simp (disch := decide) only [rdN_wr_code, rdN_wr_same]

/-- An epoch that completes goes to idle with the result that says so. -/
theorem completeEpoch_facts {s : State} (h : s.ep.reconciling = false) : epochState (completeEpoch s) = Es.idle ∧ rdN (completeEpoch s) Obj.EPOCH_RESULT 0 = Er.completed ∧ (completeEpoch s).ep.acked = [] := by
  obtain ⟨u, hu⟩ : ∃ u, completeEpoch s = toIdle u (if s.ep.reconciling then Er.reconciled else Er.completed) := by
    unfold completeEpoch
    exact ⟨_, rfl⟩
  obtain ⟨hst, hres, hack, -⟩ := toIdle_facts u Er.completed
  simp only [hu, h, Bool.false_eq_true, if_false]
  exact ⟨hst, hres, hack⟩

/-- Settles O29: the branch of each command that the hypotheses name, and what the epoch reads after it. -/
theorem localEpochs : Obligations.LocalEpochs := by
  refine ⟨fun s v h => ?_, fun s v h => ?_, fun s h => ?_, fun s h => ?_, fun s u h hu hu' hack hfin hall => ?_, fun s h hpair => ?_, fun s h hsent hrec => ?_, fun s h hth => ?_⟩
  · simp [exec, execEpochCommit, commitEpoch, h]
  · simp [exec, execEpochCommit, commitEpoch, h]
  · exact ⟨discardStaged s, by simp [exec, execEpochDiscard, h], rfl, rfl⟩
  · simp [exec, execEpochDiscard, h]
  · obtain ⟨hset, hmem, hst⟩ := setAck_facts s u
    refine ⟨wr (setAck s u) Obj.UNIT_APPLIED_EPOCH u ((rdN s Obj.EPOCH_CURRENT 0 + 1 : Nat) : Int), ?_, ?_, rdN_wr_same _ _ _ _, hmem, ?_⟩
    · have hacked : u ∉ s.ep.acked := by simpa using hack
      have hkeep := afterAck_of_not_all hall
      push_cast at hkeep
      simp [exec, execUnitAcknowledge, h, hu', hacked, Nat.not_lt.mpr hu, hfin, hkeep]
    · rw [rdB_wr_code (by decide), hset]
    · simp only [epochState, rdN_wr_code (show Obj.EPOCH_STATE.code ≠ Obj.UNIT_APPLIED_EPOCH.code by decide)] at hst h ⊢
      rw [hst, h]
  · refine ⟨orderRevert (wrBytes s Obj.EPOCH_LAGGARDS 0 (laggardBytes s)) Er.aborted, by simp [exec, execEpochTimeout, h, hpair], epochState_orderRevert _ _, ?_, rfl, rfl⟩
    simp only [orderRevert, rdBytes_modEp, rdBytes_wr, rdBytes_wrBytes_same]
  · refine ⟨completeEpoch (modEp s (fun x => { x with recorded := true })), ?_, completeEpoch_facts hrec⟩
    have hst : epochState (modEp s (fun x => { x with recorded := true })) = Es.committing := h
    have hsent' : (modEp s (fun x => { x with recorded := true })).ep.commitSent = false := hsent
    simp only [exec, execEpochRecordWritten, h, if_true, tryComplete, hst, hsent']
    simp [modEp]
  · have hun : Keeps (Foot.mask ⟨[], some [Obj.UNIT_APPLIED_EPOCH]⟩) s (forRange 70 (fun u t => if clusterOff s u then t else wr t Obj.UNIT_APPLIED_EPOCH u (rdN s Obj.EPOCH_CURRENT 0 : Nat)) s) :=
      (Keeps.refl s).forRange 70 _ fun u t h => h.ite (wr_keeps (by decide +kernel) h)
    have hep : (forRange 70 (fun u t => if clusterOff s u then t else wr t Obj.UNIT_APPLIED_EPOCH u (rdN s Obj.EPOCH_CURRENT 0 : Nat)) s).ep = s.ep := hun.parts .ep (by decide +kernel)
    simp only [exec, execEpochRevertDone, h, if_true, hth]
    generalize forRange 70 (fun u t => if clusterOff s u then t else wr t Obj.UNIT_APPLIED_EPOCH u (rdN s Obj.EPOCH_CURRENT 0 : Nat)) s = t at hep ⊢
    obtain ⟨hst, hres, -, hstaged⟩ := toIdle_facts t s.ep.revertAs
    exact ⟨_, rfl, hst, hres, by rw [hstaged, hep]⟩

/-- Settles O30: the branch of each message that the hypotheses name. -/
theorem pairEpochs : Obligations.PairEpochs := by
  refine ⟨fun s v h => ?_, fun s v h => ?_, fun s h hi hs => ?_, fun s p l h hp hj => ?_, fun s p h hpair hi hp hall => ?_, fun s p h hi hp => ?_, fun s p h hpair hp => ?_⟩
  · simp [exec, execEpochCommitPair, commitEpoch, h]
  · simp [exec, execEpochCommitPair, commitEpoch, h]
  · exact ⟨modEp (orderRevert s Er.aborted) (fun x => { x with reconcile := true }), by simp [exec, execEpochCommitAckTimeout, h, hi, hs], epochState_orderRevert s Er.aborted, rfl, rfl⟩
  · simp [exec, execEpochPrepare, h, hp, hj]
  · obtain ⟨hset, hmem, hst⟩ := setAck_facts s 70
    exact ⟨setAck s 70, by simp [exec, execEpochPrepared, h, hpair, hi, hp, afterAck_of_not_all hall], hset, hmem, hst.trans h⟩
  · refine ⟨modEp (wr s Obj.EPOCH_STATE 0 (Es.committing : Nat)) (fun x => { x with recorded := false }), by simp [exec, execEpochCommitMessage, h, hp, toCommitting, hi], ?_, rfl⟩
    simp only [epochState, rdN_modEp, rdN_wr_same]
  · exact ⟨orderRevert s Er.aborted, by simp only [exec, execEpochAbort, h, hpair, ← hp, and_self, if_true], epochState_orderRevert s _, rfl, rfl⟩

end Sys2Proof.Machine

end

section
/-! PROOFS. Admission of a drive (R358, R382): what DRIVE_ADMISSION reads while it runs. -/

namespace Sys2Proof.Machine

open Sys2Proof

/-- An admission that begins gives DRIVE_ADMISSION its default, which is 0xFF. -/
theorem rdN_startAdmission_admission (s : State) (port : Nat) : rdN (startAdmission s port) Obj.DRIVE_ADMISSION port = 255 := by
  have hdflt : dfltAt Obj.DRIVE_ADMISSION port = 255 := by simp [dfltAt, Obj.DRIVE_ADMISSION]
  simp only [startAdmission]
  rw [rdN_wr_code (by decide), rdN_modDPort, clr, rdN_wr_self, hdflt]
  rfl

/-- A link that comes up at a released port in training begins an admission. -/
theorem exec_driveLinkUp_of_training {s : State} {port speed width : Nat} (hp : port < 64) (hr : (dportOf s port).released = true) (hs : rdN s Obj.DPORT_STATE port = Dp.training) :
    exec (.driveLinkUp port speed width) s =
      .next (startAdmission (wr (wr (modDPort s port (fun d => { d with linkUp := true })) Obj.DPORT_LINK_SPEED port (min speed (rdN s Obj.DPORT_MAX_SPEED port) : Nat)) Obj.DPORT_LINK_WIDTH port width) port) := by
  simp [exec, execDriveLinkUp, Nat.not_le.mpr hp, hr, hs]

/-- Drive port 0 out of reset and in training, all else as after reset. -/
def portInTraining : State :=
  modDPort (wr State.reset Obj.DPORT_STATE 0 (Dp.training : Nat)) 0 (fun d => { d with released := true })

/-- Refutes O31: when the link of port 0 comes up in TRAINING, DRIVE_ADMISSION reads 0xFF, its default, and not 0. -/
theorem not_driveGroupsAndPresence : ¬ Obligations.DriveGroupsAndPresence := by
  unfold Obligations.DriveGroupsAndPresence
  rintro ⟨-, -, -, -, -, -, -, hlinkUp, -⟩
  have hreleased : (dportOf portInTraining 0).released = true := by rw [portInTraining, dportOf_modDPort]
  have htraining : rdN portInTraining Obj.DPORT_STATE 0 = Dp.training := by rw [portInTraining, rdN_modDPort, rdN_wr_same]
  obtain ⟨t, hexec, -, hadm, -⟩ := hlinkUp portInTraining 0 4 4 (by decide) hreleased htraining
  rw [exec_driveLinkUp_of_training (by decide) hreleased htraining] at hexec
  obtain rfl := Host.Outcome.next.inj hexec
  rw [rdN_startAdmission_admission] at hadm
  exact absurd hadm (by decide)

end Sys2Proof.Machine

end

section
/-! PROOFS. A command to a drive that succeeds (R384): its bytes are counted before it has its effect. -/

namespace Sys2Proof.Machine

open Sys2Proof

/-- A device counter that was counted up. -/
theorem getD_device_countDev (s : State) (i n : Nat) : Tbl.getD (countDev s i n).ev.device i 0 = ctrAdd (Tbl.getD s.ev.device i 0) n :=
  Tbl.get_put_same s.ev.device 0 i _

/-- A command that succeeds counts what it moved and then has its effect. -/
theorem exec_driveCommandComplete_of_success {s : State} {id : Nat} {c : MCmd} {x : DrvStatus} {data : Bytes} (hc : outstanding s id = some c) (hf : x.fatal = false) (hs : x.status = 0) (hp : x.poisoned = false) :
    exec (.driveCommandComplete id x data) s = .next (commandDone (countMoved s c) id c x data) := by
  simp [exec, execDriveCommandComplete, hc, hf, hs, hp]

/-- A read of one sector of a map leaf, placed at drive port 0. -/
def leafRead : MCmd :=
  { port := 0, op := .read 0 0 1, purp := .leaf 0 0 0, st := .placed, issued := 0, retries := 0, recFrom := none, begun := false }

/-- The state after reset with that read in flight. -/
def withLeafRead : State :=
  setMCmd State.reset 0 leafRead

def cleanStatus : DrvStatus :=
  { status := 0, retry := false, poisoned := false, fatal := false, wp := 0, warning := 0, used := 0, holder := none }

/-- Refutes O32: a read of one sector that succeeds counts its 4,096 bytes at its port before it has its effect, which the statement leaves out. -/
theorem not_memberCommandEndings : ¬ Obligations.MemberCommandEndings := by
  unfold Obligations.MemberCommandEndings
  rintro ⟨hsuccess, -⟩
  have hc : outstanding withLeafRead 0 = some leafRead := rfl
  have hexec := hsuccess withLeafRead 0 leafRead cleanStatus [] hc rfl rfl rfl
  rw [exec_driveCommandComplete_of_success hc rfl rfl rfl] at hexec
  have hsame : countDev withLeafRead Dc.portRead 4096 = withLeafRead := Host.Outcome.next.inj hexec
  have hcount := getD_device_countDev withLeafRead Dc.portRead 4096
  rw [hsame] at hcount
  exact absurd hcount (by decide)

end Sys2Proof.Machine

end

section
/-! PROOFS. Bits of a word, loops over ports, the release of a contained port, the sideband frame and the write gate (R387 to R398, R345, R346). -/

namespace Sys2Proof.Machine

open Sys2Proof

/-! ## Bits -/

theorem div_two_pow_succ_add {v i : Nat} (h : bitAt v i = false) : (v + 2 ^ i) / 2 ^ (i + 1) = v / 2 ^ (i + 1) := by
  have hpos : 0 < 2 ^ i := by positivity
  have heven : v / 2 ^ i % 2 ≠ 1 := by simpa [bitAt] using h
  rw [pow_succ, ← Nat.div_div_eq_div_mul, ← Nat.div_div_eq_div_mul, Nat.add_div_right _ hpos]
  omega

/-- Adding the power of a bit that is clear sets that bit and no other. -/
theorem bitAt_add_same {v i : Nat} (h : bitAt v i = false) : bitAt (v + 2 ^ i) i = true := by
  have hpos : 0 < 2 ^ i := by positivity
  simp only [bitAt, Nat.add_div_right _ hpos, beq_iff_eq, beq_eq_false_iff_ne] at h ⊢
  omega

theorem bitAt_add_other {v i j : Nat} (h : bitAt v i = false) (hj : j ≠ i) : bitAt (v + 2 ^ i) j = bitAt v j := by
  simp only [bitAt]
  rcases Nat.lt_or_gt_of_ne hj with hlt | hgt
  · obtain ⟨k, rfl⟩ : ∃ k, i = j + 1 + k := ⟨i - (j + 1), by omega⟩
    have hpos : 0 < 2 ^ j := by positivity
    rw [pow_add, pow_succ, mul_assoc, Nat.add_mul_div_left _ _ hpos, Nat.add_mul_mod_self_left]
  · obtain ⟨k, rfl⟩ : ∃ k, j = i + 1 + k := ⟨j - (i + 1), by omega⟩
    rw [pow_add, ← Nat.div_div_eq_div_mul, div_two_pow_succ_add h, Nat.div_div_eq_div_mul]

/-- A word with a bit set is that word with the bit clear and the bit's power. -/
theorem clear_of_bitAt {v i : Nat} (h : bitAt v i = true) : bitAt (v - 2 ^ i) i = false ∧ v - 2 ^ i + 2 ^ i = v := by
  have hpos : 0 < 2 ^ i := by positivity
  have hodd : v / 2 ^ i % 2 = 1 := by simpa [bitAt] using h
  have hle : 2 ^ i ≤ v := by
    by_contra hlt
    rw [Nat.div_eq_of_lt (not_le.mp hlt)] at hodd
    omega
  obtain ⟨u, rfl⟩ : ∃ u, v = u + 2 ^ i := ⟨v - 2 ^ i, by omega⟩
  rw [Nat.add_div_right _ hpos] at hodd
  simp only [bitAt, Nat.add_sub_cancel, beq_eq_false_iff_ne, and_true]
  omega

/-- A bit that is written reads so. -/
@[simp] theorem bitAt_withBit_same (v i : Nat) (on : Bool) : bitAt (withBit v i on) i = on := by
  unfold withBit
  split
  case isTrue h => exact h
  case isFalse h =>
    cases on with
    | true => exact bitAt_add_same (by simpa using h)
    | false => exact (clear_of_bitAt (by simpa using h)).1

/-- A bit that is written leaves the others. -/
theorem bitAt_withBit_other (v : Nat) {i j : Nat} (on : Bool) (hj : j ≠ i) : bitAt (withBit v i on) j = bitAt v j := by
  unfold withBit
  split
  case isTrue h => rfl
  case isFalse h =>
    cases on with
    | true => exact bitAt_add_other (by simpa using h) hj
    | false =>
      obtain ⟨hclear, hback⟩ := clear_of_bitAt (show bitAt v i = true by simpa using h)
      have := bitAt_add_other hclear hj
      rw [hback] at this
      exact this.symm

/-! ## What a loop establishes -/

/-- A loop keeps what each of its turns keeps. -/
theorem forRange_invariant {P : State → Prop} {f : Nat → State → State} {n : Nat} (hf : ∀ i t, i < n → P t → P (f i t)) {s : State} (hs : P s) : P (forRange n f s) := by
  have hl (l : List Nat) : (∀ i ∈ l, i < n) → ∀ t, P t → P (forEach l f t) := by
    induction l with
    | nil => exact fun _ t h => h
    | cons i l ih =>
      intro hi t ht
      rw [forEach_cons]
      exact ih (fun j hj => hi j (by simp [hj])) _ (hf i t (hi i (by simp)) ht)
  exact hl (List.range n) (fun i hi => List.mem_range.mp hi) s hs

theorem forRange_succ (n : Nat) (f : Nat → State → State) (s : State) : forRange (n + 1) f s = f n (forRange n f s) := by
  simp [forRange, List.range_succ]

/-- What each turn establishes of its own index, and no later turn undoes, holds of every index at the end. -/
theorem forRange_establishes {P : Nat → State → Prop} {f : Nat → State → State} {n : Nat} (hset : ∀ i t, i < n → P i (f i t)) (hkeep : ∀ i j t, i < n → j < i → P j t → P j (f i t)) (s : State) :
    ∀ i < n, P i (forRange n f s) := by
  induction n with
  | zero => simp
  | succ n ih =>
    intro i hi
    rw [forRange_succ]
    rcases Nat.lt_succ_iff_lt_or_eq.mp hi with hlt | rfl
    · exact hkeep n i _ (Nat.lt_succ_self n) hlt (ih (fun i t h => hset i t (by omega)) (fun i j t h hj => hkeep i j t (by omega) hj) i hlt)
    · exact hset i _ (Nat.lt_succ_self i)

/-! ## Contained ports -/

/-- A port that belongs to a member does so whatever its own state says. -/
@[simp] theorem memberOf_modDPort (s : State) (n : Nat) (f : DPort → DPort) (port : Nat) : memberOf (modDPort s n f) port = memberOf s port := rfl

/-- A refused RETRY reports its result and leaves the port's state and commands. -/
theorem retryRefused_facts (s : State) (port result : Nat) :
    rdN (retryRefused s port result) Obj.PORT_RELEASE_RESULT port = result ∧ rdN (retryRefused s port result) Obj.DPORT_STATE port = rdN s Obj.DPORT_STATE port ∧
    (dportOf (retryRefused s port result) port).resetting = false ∧ (dportOf (retryRefused s port result) port).retrying = false ∧ (retryRefused s port result).drv.cmds = s.drv.cmds := by
  refine ⟨?_, ?_, ?_, ?_, rfl⟩ <;> simp only [retryRefused]
  · rw [rdN_modDPort, rdN_wr_same]
  · rw [rdN_modDPort, rdN_wr_code (by decide)]
  · rw [dportOf_modDPort]
  · rw [dportOf_modDPort]

/-- Settles O33: the branch of each request that the hypotheses name. -/
theorem containedPortRelease : Obligations.ContainedPortRelease := by
  refine ⟨fun s port hp hs hr hseat => ?_, fun s port hp hs hr hseat => ?_, fun s port hp hr hl => ?_, fun s port b l hp hreset hr hsame => ?_, fun s port b l hp hreset hr hsame => ?_,
    fun s port p m b l hp hreset hr hm => ?_, fun s port hp hs => ?_, fun s p m hp hm hst => ?_, fun s p m hp hm hst hst' => ?_⟩
  · refine ⟨modDPort (wr s Obj.PORT_RELEASE_RESULT port 1) port (fun d => { d with retrying := true, released := true, resetting := d.linkUp }),
      by simp [exec, execPortReleaseRetry, Nat.not_le.mpr hp, hs, hr, hseat], ?_, ?_, ?_, ?_, rfl⟩
    · rw [rdN_modDPort, rdN_wr_self, Int.toNat_one]
    · rw [rdN_modDPort, rdN_wr_code (by decide), hs]
    · rw [dportOf_modDPort]
    · rw [dportOf_modDPort, dportOf_wr]
  · exact ⟨wr s Obj.PORT_RELEASE_RESULT port 3, by simp [exec, execPortReleaseRetry, Nat.not_le.mpr hp, hs, hr, hseat], rdN_wr_self _ _ _ 3, rfl⟩
  · obtain ⟨hres, hst, -, hretry, hcmds⟩ := retryRefused_facts s port 3
    exact ⟨retryRefused s port 3, by simp [exec, execPortReleaseLinkTimeout, hp, hr, hl], hres, hst, hretry, hcmds⟩
  · obtain ⟨hres, hst, hreset', hretry, hcmds⟩ := retryRefused_facts s port 4
    exact ⟨retryRefused s port 4, by simp [exec, execControllerResetDone, Nat.not_le.mpr hp, hreset, hr, hsame], hres, hst, hreset', hretry, hcmds⟩
  · simp [exec, execControllerResetDone, Nat.not_le.mpr hp, hreset, hr, hsame]
  · simp [exec, execControllerResetDone, Nat.not_le.mpr hp, hreset, hr, hm]
  · exact ⟨_, by simp only [exec, execPortReleaseFail, hp, hs, and_self, if_true]; rfl, rdN_wr_self _ _ _ 2⟩
  · simp [exec, execMemberActionFail, Nat.not_le.mpr hp, Nat.not_le.mpr hm, hst]
  · refine ⟨wr s Obj.MEMBER_ACTION_RESULT (mInst p m) (Mr.refusedState : Nat), by simp [exec, execMemberActionFail, Nat.not_le.mpr hp, Nat.not_le.mpr hm, hst, hst'], rdN_wr_same _ _ _ _, ?_, rfl⟩
    simp only [mState]
    exact rdN_wr_code (by decide) _

/-! ## The sideband frame -/

/-- A bay's pin stands as it was asked to. -/
theorem pins_bayPin_same (s : State) (p : Pin) (level : Bool) : Tbl.getD (bayPin s p level).pins p.num 0 = b2n level := by
  unfold bayPin
  split
  case isTrue h => exact h
  case isFalse => exact pins_drive s p level 0

theorem pins_bayPin_other (s : State) {p r : Pin} (level : Bool) (h : r.num ≠ p.num) : Tbl.getD (bayPin s p level).pins r.num 0 = Tbl.getD s.pins r.num 0 := by
  unfold bayPin
  split
  · rfl
  · exact pins_drive_other s p r level 0 h

@[simp] theorem bayPin_dict (s : State) (p : Pin) (level : Bool) : (bayPin s p level).dict = s.dict := by
  unfold bayPin
  split <;> rfl

@[simp] theorem bayPin_drv (s : State) (p : Pin) (level : Bool) : (bayPin s p level).drv = s.drv := by
  unfold bayPin
  split <;> rfl

/-- The three pins of a bay as the bits of the frame say. -/
def bayLatch (v p : Nat) (t : State) : State :=
  bayPin (bayPin (bayPin t (.drivePerst p) (bitAt v (3 * p))) (.faultLed p) (bitAt v (3 * p + 1))) (.locateLed p) (bitAt v (3 * p + 2))

/-- That a bay's pins stand so. -/
def BayStands (v p : Nat) (t : State) : Prop :=
  Tbl.getD t.pins (Pin.drivePerst p).num 0 = b2n (bitAt v (3 * p)) ∧ Tbl.getD t.pins (Pin.faultLed p).num 0 = b2n (bitAt v (3 * p + 1)) ∧
    Tbl.getD t.pins (Pin.locateLed p).num 0 = b2n (bitAt v (3 * p + 2))

theorem bayStands_bayLatch (p v : Nat) (t : State) : BayStands v p (bayLatch v p t) := by
  refine ⟨?_, ?_, ?_⟩ <;> simp only [bayLatch]
  · rw [pins_bayPin_other _ _ (by simp only [Pin.num]; omega), pins_bayPin_other _ _ (by simp only [Pin.num]; omega), pins_bayPin_same]
  · rw [pins_bayPin_other _ _ (by simp only [Pin.num]; omega), pins_bayPin_same]
  · rw [pins_bayPin_same]

/-- The pins of one bay are none of another's. -/
theorem pins_bayLatch_other {p : Nat} {r : Pin} (hper : r.num ≠ 100 + p) (hfault : r.num ≠ 300 + p) (hloc : r.num ≠ 400 + p) (v : Nat) (t : State) :
    Tbl.getD (bayLatch v p t).pins r.num 0 = Tbl.getD t.pins r.num 0 := by
  simp only [bayLatch]
  rw [pins_bayPin_other _ _ hloc, pins_bayPin_other _ _ hfault, pins_bayPin_other _ _ hper]

theorem bayStands_bayLatch_other {v p q : Nat} {t : State} (hq : q < 64) (hp : p < q) (h : BayStands v p t) : BayStands v p (bayLatch v q t) := by
  obtain ⟨hperst, hfault, hlocate⟩ := h
  refine ⟨?_, ?_, ?_⟩ <;> (rw [pins_bayLatch_other (by simp only [Pin.num]; omega) (by simp only [Pin.num]; omega) (by simp only [Pin.num]; omega)]; assumption)

/-- The ports' seats as a frame with every input low leaves them. -/
def seatLow (inputs p : Nat) (t : State) : State :=
  if bitAt inputs p then (if (dportOf t p).seated then presenceLost t p else t)
  else if (dportOf t p).seated then t else modDPort t p (fun d => { d with seated := true })

theorem seatLow_zero (p : Nat) (t : State) : (dportOf (seatLow 0 p t) p).seated = true ∧ (seatLow 0 p t).dict = t.dict ∧ (seatLow 0 p t).pins = t.pins := by
  have hbit : bitAt 0 p = false := by simp [bitAt]
  simp only [seatLow, hbit, Bool.false_eq_true, if_false]
  split
  case isTrue h => exact ⟨h, rfl, rfl⟩
  case isFalse h => exact ⟨by rw [dportOf_modDPort], rfl, rfl⟩

theorem seatLow_zero_other {p q : Nat} {t : State} (hpq : q ≠ p) (h : (dportOf t q).seated = true) : (dportOf (seatLow 0 p t) q).seated = true := by
  have hbit : bitAt 0 p = false := by simp [bitAt]
  simp only [seatLow, hbit, Bool.false_eq_true, if_false]
  split
  case isTrue => exact h
  case isFalse => rw [dportOf_modDPort_other _ _ _ _ hpq]; exact h

/-- A frame latches the bits shifted before it, takes the ports' seats and shifts the present bits. -/
theorem exec_sidebandFrame (inputs : Nat) (s : State) :
    ∃ t, exec (.sidebandFrame inputs) s = .next t ∧ t.drv = { (forRange 64 (seatLow inputs) (forRange 64 (bayLatch s.drv.shift) s)).drv with shift := frameBits s } ∧
      t.dict = (forRange 64 (seatLow inputs) (forRange 64 (bayLatch s.drv.shift) s)).dict ∧ t.pins = (forRange 64 (seatLow inputs) (forRange 64 (bayLatch s.drv.shift) s)).pins :=
  ⟨_, rfl, rfl, rfl, rfl⟩

/-- Every drive is seated after a frame with every input low, and its pins are as latched. -/
theorem sidebandFrame_low (s : State) :
    ∃ t, exec (.sidebandFrame 0) s = .next t ∧ t.dict = s.dict ∧ ∀ p < 64, (dportOf t p).seated = true ∧ BayStands s.drv.shift p t := by
  obtain ⟨t, hexec, hdrv, hdict, hpins⟩ := exec_sidebandFrame 0 s
  have hseats (u : State) : (forRange 64 (seatLow 0) u).dict = u.dict ∧ (forRange 64 (seatLow 0) u).pins = u.pins := by
    refine forRange_invariant (P := fun v => v.dict = u.dict ∧ v.pins = u.pins) (fun i v hi hv => ?_) ⟨rfl, rfl⟩
    obtain ⟨-, hd, hp⟩ := seatLow_zero i v
    exact ⟨hd.trans hv.1, hp.trans hv.2⟩
  have hlatch : (forRange 64 (bayLatch s.drv.shift) s).dict = s.dict :=
    forRange_invariant (P := fun v => v.dict = s.dict) (fun i v hi hv => by simpa only [bayLatch, bayPin_dict] using hv) rfl
  obtain ⟨hseatDict, hseatPins⟩ := hseats (forRange 64 (bayLatch s.drv.shift) s)
  refine ⟨t, hexec, by rw [hdict, hseatDict, hlatch], fun p hp => ⟨?_, ?_⟩⟩
  · have hseated := forRange_establishes (P := fun q v => (dportOf v q).seated = true) (f := seatLow 0) (n := 64) (fun i v hi => (seatLow_zero i v).1) (fun i j v hi hj hv => seatLow_zero_other (by omega) hv)
      (forRange 64 (bayLatch s.drv.shift) s) p hp
    simp only [dportOf, hdrv] at hseated ⊢
    exact hseated
  · have hstands := forRange_establishes (P := BayStands s.drv.shift) (fun i v _ => bayStands_bayLatch i _ v) (fun i j v hi hj hv => bayStands_bayLatch_other hi hj hv) s p hp
    simp only [BayStands, hpins, hseatPins] at hstands ⊢
    exact hstands

/-! ## The write gate -/

/-- What a fence bit reads after one was set. -/
theorem fenceBit_setFence_same (s : State) (b : Nat) (on : Bool) : fenceBit (setFence s b on) b = on := by
  simp only [fenceBit, setFence, rdN_wr_same, bitAt_withBit_same]

theorem fenceBit_setFence_other (s : State) {b c : Nat} (on : Bool) (h : c ≠ b) : fenceBit (setFence s b on) c = fenceBit s c := by
  simp only [fenceBit, setFence, rdN_wr_same, bitAt_withBit_other _ _ h]

/-- The fence bits read the same where no write touched them. -/
theorem fenceBit_of_rdN {s t : State} (h : rdN t Obj.PAIR_FENCE_STATE 0 = rdN s Obj.PAIR_FENCE_STATE 0) (b : Nat) : fenceBit t b = fenceBit s b := by
  simp only [fenceBit, h]

/-- The gate shut, before a takeover or the pools of the module are looked at. -/
def gateShutAt (s : State) : State :=
  drive (setFence (bump (wr (wr (setFence s 1 true) Obj.DRIVE_GATE_STATE 0 2) Obj.DRIVE_GATE_INFLIGHT_AT_CLOSE 0 (s.drv.cmds.filter (fun e => gatedOp e.2.op && occupies e.2)).length)
    Obj.DRIVE_GATE_CLOSES 0 1) 2 true) .fenceAck false

/-- The fence bits are written through the registers between them. -/
theorem fenceBit_gateShutAt (s : State) : fenceBit (gateShutAt s) 0 = fenceBit s 0 ∧ fenceBit (gateShutAt s) 1 = true ∧ fenceBit (gateShutAt s) 2 = true := by
  have hdrive (t : State) (b : Nat) : fenceBit (drive t .fenceAck false) b = fenceBit t b := fenceBit_of_rdN (rdN_drive ..) b
  have hregs (t : State) (n : Int) (b : Nat) : fenceBit (bump (wr (wr t Obj.DRIVE_GATE_STATE 0 2) Obj.DRIVE_GATE_INFLIGHT_AT_CLOSE 0 n) Obj.DRIVE_GATE_CLOSES 0 1) b = fenceBit t b :=
    fenceBit_of_rdN (by rw [rdN_bump_code (by decide), rdN_wr_code (by decide), rdN_wr_code (by decide)]) b
  refine ⟨?_, ?_, ?_⟩ <;> simp only [gateShutAt]
  · rw [hdrive, fenceBit_setFence_other _ _ (by decide), hregs, fenceBit_setFence_other _ _ (by decide)]
  · rw [hdrive, fenceBit_setFence_other _ _ (by decide), hregs, fenceBit_setFence_same]
  · rw [hdrive, fenceBit_setFence_same]

/-- The registers of the gate once it is shut. -/
theorem gateShutAt_facts (s : State) : rdN (gateShutAt s) Obj.DRIVE_GATE_STATE 0 = 2 ∧
    rdN (gateShutAt s) Obj.DRIVE_GATE_INFLIGHT_AT_CLOSE 0 = (s.drv.cmds.filter (fun e => gatedOp e.2.op && occupies e.2)).length ∧ (∀ p, roleOf (gateShutAt s) p = roleOf s p) ∧
    Tbl.get (gateShutAt s).pins Pin.fenceAck.num = some 0 ∧ (gateShutAt s).pair = s.pair := by
  refine ⟨?_, ?_, fun p => ?_, Tbl.get_set_same _ _ _, rfl⟩
  · simp only [gateShutAt, setFence]
    rw [rdN_drive, rdN_wr_code (by decide), rdN_bump_code (by decide), rdN_wr_code (by decide), rdN_wr_self]
    rfl
  · simp only [gateShutAt, setFence]
    rw [rdN_drive, rdN_wr_code (by decide), rdN_bump_code (by decide), rdN_wr_same]
  · simp only [roleOf, gateShutAt, setFence]
    rw [rdN_drive, rdN_wr_code (by decide), rdN_bump_code (by decide), rdN_wr_code (by decide), rdN_wr_code (by decide), rdN_wr_code (by decide)]

/-- With no takeover under way and no pool to give up, closing the gate shuts it and no more. -/
theorem exec_driveGateClose_of_open {s : State} (hg : rdN s Obj.DRIVE_GATE_STATE 0 = 0) (hb : fenceBit s 0 = false) (ht : s.pair.takeover = none)
    (hr : ∀ p, p < 8 → roleOf s p = Role.none ∨ roleOf s p = Role.fenced) : exec .driveGateClose s = .next (gateShutAt s) := by
  obtain ⟨-, -, hrole, -, hpair⟩ := gateShutAt_facts s
  obtain ⟨hreq, -, -⟩ := fenceBit_gateShutAt s
  have htake : (gateShutAt s).pair.takeover = none := by rw [hpair, ht]
  have hexec : exec .driveGateClose s = .next (forRange 8 (fun p u => if roleOf u p = Role.none ∨ roleOf u p = Role.fenced then u else yieldPool u p)
      (if (gateShutAt s).pair.takeover.isSome then abandonTakeover (gateShutAt s) else if fenceBit (gateShutAt s) 0 then releaseReq (gateShutAt s) else gateShutAt s)) := by
    simp only [exec, execDriveGateClose, hb, hg, Bool.false_eq_true, and_false, if_false, gateShutAt]
    rfl
  rw [hexec, htake, hreq, hb, if_neg (by simp), if_neg (by simp)]
  refine congrArg _ (forRange_eq_self fun p hp => if_pos ?_)
  rw [hrole]
  exact hr p hp

/-- The gate opened, before commands held at it go on. -/
def gateOpenAt (s : State) : State :=
  drive (setFence (wr (setFence s 1 false) Obj.DRIVE_GATE_STATE 0 0) 2 false) .fenceAck true

theorem gateOpenAt_facts (s : State) : rdN (gateOpenAt s) Obj.DRIVE_GATE_STATE 0 = 0 ∧ fenceBit (gateOpenAt s) 1 = false ∧ fenceBit (gateOpenAt s) 2 = false ∧
    Tbl.get (gateOpenAt s).pins Pin.fenceAck.num = some 1 ∧ (gateOpenAt s).pair = s.pair ∧ (gateOpenAt s).drv = s.drv := by
  have hdrive (t : State) (b : Nat) : fenceBit (drive t .fenceAck true) b = fenceBit t b := fenceBit_of_rdN (rdN_drive ..) b
  refine ⟨?_, ?_, ?_, Tbl.get_set_same _ _ _, rfl, rfl⟩
  · simp only [gateOpenAt, setFence]
    rw [rdN_drive, rdN_wr_code (by decide), rdN_wr_self]
    rfl
  · rw [gateOpenAt, hdrive, fenceBit_setFence_other _ _ (by decide), fenceBit_of_rdN (rdN_wr_code (by decide) _) 1, fenceBit_setFence_same]
  · rw [gateOpenAt, hdrive, fenceBit_setFence_same]

/-- With no command held at it and no pair joined, opening the gate opens it and no more. -/
theorem exec_driveGateOpen_of_shut {s : State} (hg : rdN s Obj.DRIVE_GATE_STATE 0 = 2) (hc : s.drv.cmds = []) (hj : s.pair.joined = false) : exec .driveGateOpen s = .next (gateOpenAt s) := by
  obtain ⟨-, -, -, -, hpair, hdrv⟩ := gateOpenAt_facts s
  have hexec : exec .driveGateOpen s = .next (rejoinFenced (forEach ((gateOpenAt s).drv.cmds.filter (fun e => e.2.st == .gated)) (fun e u => match Tbl.get u.drv.cmds e.1 with
      | some c => if c.st = .gated then ungate u e.1 c else u
      | none => u) (gateOpenAt s))) := by
    simp only [exec, execDriveGateOpen, hg, gateOpenAt]
    rfl
  rw [hexec, hdrv, hc]
  simp [rejoinFenced, hpair, hj]

/-- Settles O34: the frame's pins and seats, and the gate's registers, fence bits and pin. -/
theorem sidebandAndWriteGate : Obligations.SidebandAndWriteGate := by
  refine ⟨fun s inputs => ?_, sidebandFrame_low, fun s hg hb ht hr => ?_, fun s hside hb => ?_, fun s hg hc hj => ?_⟩
  · obtain ⟨t, hexec, hdrv, -, -⟩ := exec_sidebandFrame inputs s
    exact ⟨t, hexec, by rw [hdrv]⟩
  · obtain ⟨hstate, hcount, -, hpin, -⟩ := gateShutAt_facts s
    obtain ⟨-, hown, hgate⟩ := fenceBit_gateShutAt s
    exact ⟨gateShutAt s, exec_driveGateClose_of_open hg hb ht hr, hstate, hown, hgate, hcount, by simp [gateShut, hstate], hpin⟩
  · refine ⟨setFence s 1 true, by simp [exec, execDriveGateClose, hside, hb], fenceBit_setFence_same s 1 true, ?_, rfl, rfl⟩
    simp only [setFence]
    exact rdN_wr_code (by decide) _
  · obtain ⟨hstate, hown, hgate, hpin, -, -⟩ := gateOpenAt_facts s
    exact ⟨gateOpenAt s, exec_driveGateOpen_of_shut hg hc hj, hstate, hown, hgate, by simp [gateShut, hstate], hpin⟩

end Sys2Proof.Machine

end

section
/-! PROOFS. Host functions, host ports and module idle (R329 to R344, R350, R352). -/

namespace Sys2Proof.Machine

open Sys2Proof

-- The kernel evaluates closed facts below (masks of frames, concrete states): one declaration after another keeps the memory this takes small.
set_option Elab.async false

/-! ## Functions -/

/-- A function that leaves reset does not master, is in D0 and has its MSI-X state as new. -/
theorem endFlr_facts {s : State} {f : Nat} (hf : 2 ≤ f) (hr : rdB s Obj.FUNC_IN_RESET f = true) :
    rdB (endFlr s f) Obj.FUNC_IN_RESET f = false ∧ rdB (endFlr s f) Obj.FUNC_BUS_MASTER f = false ∧ rdN (endFlr s f) Obj.FUNC_DSTATE f = 0 ∧ Tbl.get (endFlr s f).host.fns f = none := by
  have hpf : isPf f = false := by simp [isPf]; omega
  obtain ⟨d, hd, hfns⟩ : ∃ d, endFlr s f = wrB (wr (wrB d Obj.FUNC_BUS_MASTER f false) Obj.FUNC_DSTATE f 0) Obj.FUNC_IN_RESET f false ∧ Tbl.get d.host.fns f = none := by
    simp only [endFlr, hr, hpf, Bool.not_true, Bool.false_eq_true, if_false]
    exact ⟨_, rfl, Tbl.get_erase_same _ _⟩
  rw [hd]
  refine ⟨rdB_wrB_same _ _ _ _, ?_, ?_, hfns⟩
  · rw [rdB_wrB_code (by decide), rdB_wr_code (by decide), rdB_wrB_same]
  · rw [rdN_wrB_code (by decide), rdN_wr_self]
    rfl

/-- The virtual functions of a port have places of their own. -/
theorem vfIndex_ne {port i j : Nat} (hi : i < 512) (hj : j < i) : vfIndex port (j + 1) ≠ vfIndex port (i + 1) := by
  unfold vfIndex
  split <;> omega

/-- Enabling n virtual functions makes them present. -/
theorem present_of_vfEnable {port n : Nat} (hn : n ≤ 512) (s : State) :
    ∀ i < n, rdB (forRange n (fun i t => wrB t Obj.FUNC_PRESENT (vfIndex port (i + 1)) true) s) Obj.FUNC_PRESENT (vfIndex port (i + 1)) = true := by
  refine forRange_establishes (P := fun i t => rdB t Obj.FUNC_PRESENT (vfIndex port (i + 1)) = true) (fun i t _ => rdB_wrB_same _ _ _ _) (fun i j t hi hj h => ?_) s
  exact (rdB_wr_inst (vfIndex_ne (by omega) hj)).trans h

/-- Settles O35: the branch of each request that the hypotheses name. -/
theorem hostFunctions : Obligations.HostFunctions := by
  refine ⟨fun s f hl hm hd => ?_, fun s f hl hm hd => ?_, fun s f hl hm => ?_, fun s f hl hd => ?_, fun s f hl hd => ?_, fun s f hf hl => ?_, fun s f hf hf' hr hready => ?_, fun s f hf hr => ?_,
    fun s port n hp hl hv hn => ?_, fun s port n hp hl hv => ?_, fun s f v hl => ?_, fun s f hl => ?_, fun s f hl => ?_, fun s f hf hp => ?_⟩
  · exact ⟨wrB s Obj.FUNC_BUS_MASTER f false, by simp [exec, execBusMasterDisable, hl, hm, hd], rdB_wrB_same _ _ _ _, rfl, rfl⟩
  · simp [exec, execBusMasterDisable, hl, hm, hd]
  · simp [exec, execBusMasterEnable, hl, hm]
  · simp [exec, execD3hotEntry, hl, hd]
  · simp [exec, execD0Return, hl, hd]
  · simp [exec, execFlr, hl, isPf, Nat.not_lt.mpr hf]
  · have hpf : isPf f = false := by simp [isPf]; omega
    exact ⟨endFlr s f, by simp [exec, execFlrComplete, hf', hr, hready, completeFlr, hpf], endFlr_facts hf hr⟩
  · simp [exec, execFlrComplete, hr]
  · have hk : Keeps (Foot.mask ⟨[], some [Obj.FUNC_PRESENT]⟩) (modHostPort (wr s Obj.PORT_NUM_VFS port (n : Nat)) port (fun x => { x with vfEnable := true }))
        (forRange n (fun i t => wrB t Obj.FUNC_PRESENT (vfIndex port (i + 1)) true) (modHostPort (wr s Obj.PORT_NUM_VFS port (n : Nat)) port (fun x => { x with vfEnable := true }))) :=
      (Keeps.refl _).forRange n _ fun i t h => wrB_keeps (by decide +kernel) h
    refine ⟨_, by simp only [exec, execVfEnable, Nat.not_le.mpr hp, hl, hv, Nat.not_lt.mpr hn, Bool.not_true, Bool.false_eq_true, or_self, if_false, if_true]; rfl, ?_, ?_,
      present_of_vfEnable hn _⟩
    · rw [hk.rdN (by decide +kernel), rdN_modHostPort, rdN_wr_same]
    · rw [hk.hostPort (by decide +kernel), hostPort_modHostPort]
  · refine ⟨_, by simp only [exec, execVfEnable, Nat.not_le.mpr hp, hl, hv, Bool.not_true, Bool.false_eq_true, or_self, if_false, if_true]; rfl, ?_, ?_⟩ <;> simp only [dropVfs]
    · rw [rdN_modHostPort, rdN_wr_self]
      rfl
    · rw [hostPort_modHostPort]
  · simp [exec, execMsixVectorUnmask, hl]
  · simp [exec, execMsixVectorUnmask, hl]
  · simp [exec, execMsixVectorUnmask, hl]
  · refine ⟨drive (modFn s f (fun x => { x with pmeStatus := false })) .wake true, by simp [exec, execPmeStatusClear, hf, hp], ?_, Tbl.get_set_same _ _ _, rfl⟩
    rw [fnOf_drive, fnOf_modFn]

/-! ## Ports -/

/-- A link that is down has no speed, width or flit mode. -/
theorem linkDown_facts (s : State) (port : Nat) : rdB (linkDown s port) Obj.PORT_LINK_UP port = false ∧ rdN (linkDown s port) Obj.PORT_LINK_SPEED port = 0 ∧
    rdN (linkDown s port) Obj.PORT_LINK_WIDTH port = 0 ∧ rdB (linkDown s port) Obj.PORT_FLIT_MODE port = false ∧ hostPort (linkDown s port) port = hostPort s port := by
  refine ⟨?_, ?_, ?_, ?_, rfl⟩ <;> simp only [linkDown]
  · rw [rdB_wrB_code (by decide), rdB_wr_code (by decide), rdB_wr_code (by decide), rdB_wrB_same]
  · rw [rdN_wrB_code (by decide), rdN_wr_code (by decide), rdN_wr_self]
    rfl
  · rw [rdN_wrB_code (by decide), rdN_wr_self]
    rfl
  · rw [rdB_wrB_same]

theorem hostPort_resetPort (s : State) (port : Nat) : (hostPort (resetPort s port) port).ready = false := by
  simp only [resetPort]
  rw [hostPort_modHostPort]

/-- An event leaves the host ports. -/
@[simp] theorem hostPort_raiseOpen (s : State) (id : EvId) (sev : Sev) (kind inst n : Nat) : hostPort (raiseOpen s id sev kind inst) n = hostPort s n := by
  simp only [hostPort]
  rw [(raiseOpen_only s id sev kind inst).rest]

/-- A link that trains is up at the lesser of the speeds, whether or not that is an event. -/
theorem trainLink_facts (s : State) (port speed width : Nat) : rdB (trainLink s port speed width) Obj.PORT_LINK_UP port = true ∧
    rdN (trainLink s port speed width) Obj.PORT_LINK_SPEED port = min speed (rdN s Obj.PORT_MAX_SPEED port) ∧ rdN (trainLink s port speed width) Obj.PORT_LINK_WIDTH port = width ∧
    hostPort (trainLink s port speed width) port = hostPort s port := by
  have hup (u : State) (c : Prop) [Decidable c] : rdB (if c then raiseOpen u (ev 0x08 341) .warn Src.hostPort port else u) Obj.PORT_LINK_UP port = rdB u Obj.PORT_LINK_UP port := by
    split
    · exact rdB_raiseOpen (by decide) (by decide) (by decide)
    · rfl
  have hregs (u : State) (c : Prop) [Decidable c] {o : ObjDesc} (hs : o.sub < 256) (h : o.index ≠ 0x4000 ∧ o.index ≠ 0x4010 ∧ o.index ≠ 0x4020) (hj : o.index < 65536) :
      rdN (if c then raiseOpen u (ev 0x08 341) .warn Src.hostPort port else u) o port = rdN u o port := by
    split
    · exact rdN_raiseOpen hs h hj
    · rfl
  simp only [trainLink]
  refine ⟨?_, ?_, ?_, ?_⟩
  · rw [hup, rdB_wrB_code (by decide), rdB_wr_code (by decide), rdB_wr_code (by decide), rdB_wrB_same]
  · rw [hregs _ _ (by decide) (by decide) (by decide), rdN_wrB_code (by decide), rdN_wr_code (by decide), rdN_wr_same]
  · rw [hregs _ _ (by decide) (by decide) (by decide), rdN_wrB_code (by decide), rdN_wr_same]
  · split
    · rw [hostPort_raiseOpen, hostPort_wrB, hostPort_wr, hostPort_wr, hostPort_wrB]
    · rw [hostPort_wrB, hostPort_wr, hostPort_wr, hostPort_wrB]

/-- Whether the ports answer is not changed by a link that trains. -/
theorem portsAnswer_trainLink (s : State) (port speed width : Nat) :
    portsAnswer (trainLink (modHostPort (leaveIdle s) port (fun x => { x with perst := false })) port speed width) = portsAnswer s := by
  have hk : rdN (trainLink (modHostPort (leaveIdle s) port (fun x => { x with perst := false })) port speed width) Obj.STARTUP_STEP 0 = rdN s Obj.STARTUP_STEP 0 := by
    rw [(trainLink_keeps (Mask.le_self _) (Keeps.refl _)).rdN (by decide +kernel), rdN_modHostPort, (leaveIdle_keeps (Mask.le_self _) (Keeps.refl s)).rdN (by decide +kernel)]
  simp only [portsAnswer, hk]

/-! ## Module idle -/

/-- A module that leaves idle is out of it. -/
theorem rdB_leaveIdle (s : State) : rdB (leaveIdle s) Obj.MODULE_IDLE 0 = false := by
  have hk (t : State) : Keeps (Foot.mask ⟨[], some [Obj.UNIT_APPLIED_EPOCH]⟩) t (forRange 64 (fun u t => if bitAt (rdN t Obj.BIST_CLUSTERS_DISABLED 0) u then t else wr t Obj.UNIT_APPLIED_EPOCH u (rd t Obj.EPOCH_CURRENT 0)) t) :=
    (Keeps.refl t).forRange 64 _ fun u t h => h.ite (wr_keeps (by decide +kernel) h)
  unfold leaveIdle
  split
  case isTrue => rw [(hk _).rdB (by decide +kernel), rdB_wrB_same]
  case isFalse h => simpa using h

/-- With no pool that serves, module idle is entered and counted. -/
theorem exec_moduleIdleEntry_of_no_pool {s : State} (hidle : rdB s Obj.MODULE_IDLE 0 = false) (hc : idleConditions s = true) (hp : ∀ p, p < 8 → poolServes s p = false) :
    exec .moduleIdleEntry s = .next (bump (wrB (cleanLines s (fun _ => true)) Obj.MODULE_IDLE 0 true) Obj.MODULE_IDLE_ENTRIES 0 1) := by
  simp only [exec, execModuleIdleEntry, hidle, hc, Bool.not_true, Bool.false_eq_true, or_self, if_false]
  refine congrArg (fun t => Host.Outcome.next (bump (wrB (cleanLines t (fun _ => true)) Obj.MODULE_IDLE 0 true) Obj.MODULE_IDLE_ENTRIES 0 1)) (forRange_eq_self fun p h => if_neg ?_)
  simp [hp p h]

/-- Settles O36: the branch of each event that the hypotheses name, and what the port's registers read after it. -/
theorem hostPortsAndModuleIdle : Obligations.HostPortsAndModuleIdle := by
  refine ⟨fun s port hp hper => ?_, fun s port hp hup => ?_, fun s port hp hup => ?_, fun s port speed width hp h1 h6 hper ha => ?_, fun s port speed width hp h1 h6 hper ha => ?_,
    fun s hidle hc hp => ?_, fun s hidle hc => ?_, fun s hidle => ?_, fun s hidle => ?_⟩
  · obtain ⟨hup, hspeed, hwidth, hflit, hport⟩ := linkDown_facts (resetPort s port) port
    have hready : (hostPort (linkDown (resetPort s port) port) port).ready = false := by rw [hport]; exact hostPort_resetPort s port
    generalize hdown : linkDown (resetPort s port) port = d at hup hspeed hwidth hflit hready
    refine ⟨latchPerst d port, by simp [exec, execPerstAssert, hp, hper, hdown], hup, hspeed, hwidth, hflit, ?_, ?_⟩ <;> rw [latchPerst, hostPort_modHostPort]
    exact hready
  · obtain ⟨hdown, hspeed, hwidth, hflit, hport⟩ := linkDown_facts (resetPort s port) port
    exact ⟨linkDown (resetPort s port) port, by simp [exec, execHotReset, hp, hup], hdown, hspeed, hwidth, hflit, by rw [hport]; exact hostPort_resetPort s port⟩
  · simp [exec, execHostLinkDown, hp, hup]
  · obtain ⟨hup, hspeed, hwidth, hport⟩ := trainLink_facts (modHostPort (leaveIdle s) port (fun x => { x with perst := false })) port speed width
    rw [rdN_modHostPort, (leaveIdle_keeps (Mask.le_self _) (Keeps.refl s)).rdN (by decide +kernel)] at hspeed
    exact ⟨trainLink (modHostPort (leaveIdle s) port (fun x => { x with perst := false })) port speed width, by simp [exec, execPerstRelease, hp, h1, h6, hper, portsAnswer_trainLink, ha], hup, hspeed, hwidth,
      by rw [hport, hostPort_modHostPort]⟩
  · simp [exec, execPerstRelease, hp, h1, h6, hper, portsAnswer_trainLink, ha]
  · refine ⟨_, exec_moduleIdleEntry_of_no_pool hidle hc hp, ?_, ?_, rfl⟩
    · rw [rdB_bump_code (by decide), rdB_wrB_same]
    · rw [rdN_bump_same, rdN_wrB_code (by decide)]
      rfl
  · simp [exec, execModuleIdleEntry, hidle, hc]
  · exact ⟨leaveIdle s, rfl, rdB_leaveIdle s⟩
  · simp [exec, execModuleIdleExit, leaveIdle, hidle]

end Sys2Proof.Machine

end

section
/-! PROOFS. Messages between the pair: mirror data, records, configuration and compared destage (R406 to R424, R440). -/

namespace Sys2Proof.Machine

open Sys2Proof

/-! ## Mirroring -/

@[simp] theorem noteSlots_prot (s : State) : (noteSlots s).prot = s.prot := rfl

@[simp] theorem noteSlots_pair (s : State) : (noteSlots s).pair = s.pair := rfl

theorem slotOf_keepMirror (s : State) (n : Nat) (x : Slot) : slotOf (keepMirror s n x) (mirrorSlot n) = some x := by
  simp only [slotOf, keepMirror, noteSlots_prot, touchDesc_prot, Tbl.get_set_same]

/-- A pool that does not catch up has no end of it. -/
theorem endCatchUp_of_not {s : State} {p : Nat} (h : (poolOf s p).catchUp = false) : endCatchUp s p = s := by
  simp [endCatchUp, h]

/-- A pool that is not settled has nothing to release. -/
theorem releaseReturned_of_not {s : State} {p : Nat} (h : s.pair.settled.contains p = false) : releaseReturned s p = s := by
  have hp : p ∉ s.pair.settled := by simpa using h
  simp [releaseReturned, hp]

/-- An acknowledgement of mirror data marks the slot and ends the wait. -/
theorem ackMirror_facts {s : State} {id n : Nat} {x : Slot} (hw : Tbl.get s.pair.mirWait id = some n) (hx : slotOf s n = some x) :
    slotOf (ackMirror s id) n = some { x with mirrored := true } ∧ Tbl.get (ackMirror s id).pair.mirWait id = none ∧ (ackMirror s id).pair.settled = s.pair.settled ∧ (ackMirror s id).pools = s.pools := by
  simp only [ackMirror, hw]
  refine ⟨?_, Tbl.get_erase_same _ _, rfl, rfl⟩
  simp only [slotOf, modSlot]
  rw [Tbl.get_modify]
  exact congrArg _ hx

/-- An acknowledged stripe record marks every slot of its stripe. -/
theorem slotOf_recordAcked {s : State} {r : LogRec} {st slot first height cls flags a b n : Nat} {x : Slot} (hr : r.body = .stripe st slot first height cls flags a b) (hx : slotOf s n = some x) (hn : n < ownSlots)
    (hp : x.pool = r.pool) (hs : x.stripe = st) : slotOf (recordAcked s r) n = some { x with recAcked := true } := by
  simp only [recordAcked, hr, slotOf, Tbl.mapV]
  rw [Tbl.get_map s.prot (fun n x => if n < ownSlots ∧ x.pool = r.pool ∧ x.stripe = st then { x with recAcked := true } else x)]
  rw [show Tbl.get s.prot n = some x from hx]
  simp [hn, hp, hs]

/-- Settles O37: the branch of each message that the hypotheses name. -/
theorem mirrorMessages : Obligations.MirrorMessages := by
  refine ⟨fun s id p n flags ref md data hp hn hs hcrc hlen hroom => ?_, fun s id p n flags ref md data hp hn hs hbad => ?_, fun s n x _ => slotOf_keepMirror s n x, fun s id n x hw hx hq => ?_, fun s l => ⟨_, rfl, rfl⟩,
    fun s p vol first n hp hs => ?_, fun s p hp => ?_, fun s p => ?_, fun s id p l hp hroom => ?_, fun s id p l hroom => ?_, fun s id st slot first height cls flags a b n r x hw hr hid hx hn hp hst hq => ?_,
    fun s p hp hs => ?_, fun s p gen off st data hp hc => ?_, fun s p gen off st data parts hp hc hl => ?_⟩
  · simp [exec, execMirrorData, Nat.not_le.mpr hp, Nat.not_le.mpr hn, hs, hcrc, hlen, hroom]
  · rcases hbad with hcrc | hroom
    · simp [exec, execMirrorData, Nat.not_le.mpr hp, Nat.not_le.mpr hn, hs, hcrc]
    · simp [exec, execMirrorData, Nat.not_le.mpr hp, Nat.not_le.mpr hn, hs, hroom]
  · obtain ⟨hslot, hwait, hsettled, hpools⟩ := ackMirror_facts hw hx
    refine ⟨ackMirror s id, ?_, hslot, hwait⟩
    simp only [exec, execMirrorAck, forEach_cons, forEach_nil]
    refine congrArg _ (forRange_eq_self fun p hp => ?_)
    obtain ⟨hcatch, hset⟩ := hq p hp
    rw [endCatchUp_of_not (by simp only [poolOf, hpools]; exact hcatch), releaseReturned_of_not (by rw [hsettled]; exact hset)]
  · exact ⟨modPair s (fun q => { q with marks := q.marks ++ [{ pool := p, vol := vol, first := first, count := n }] }), by simp [exec, execAtomicMark, Nat.not_le.mpr hp, hs], rfl, rfl, rfl⟩
  · refine ⟨_, by simp only [exec, execSync, hp, and_self, if_true]; rfl, rfl, rfl, rfl⟩
  · simp [exec, execSync]
  · simp [exec, execRecord, hp, hroom]
  · simp [exec, execRecord, hroom]
  · have hwin : s.pair.recWait.filter (fun e => decide ((id + 2 ^ 32 - e.1) % 2 ^ 32 < 2 ^ 31)) = [(id, r)] := by simp [hw]
    have hslot := slotOf_recordAcked (s := modPair s (fun q => { q with recWait := q.recWait.filter (fun e => !([(id, r)].any (fun x => x.1 == e.1))) })) hr hx hn hp hst
    refine ⟨recordAcked (modPair s (fun q => { q with recWait := q.recWait.filter (fun e => !([(id, r)].any (fun x => x.1 == e.1))) })) r, ?_, hslot, ?_⟩
    · simp only [exec, execRecordAck, hwin, forEach_cons, forEach_nil]
      refine congrArg _ (forRange_eq_self fun p hp => endCatchUp_of_not ?_)
      rw [(recordAcked_keeps (Mask.le_self _) (Keeps.refl _)).poolOf (by decide)]
      exact hq p hp
    · rw [(recordAcked_keeps (Mask.le_self _) (Keeps.refl _)).parts .pair (by decide)]
      simp [modPair, hw]
  · simp [exec, execSettled, Nat.not_le.mpr hp, hs]
  · refine ⟨modPair s (fun q => { q with config := Tbl.set q.config p (gen, Tbl.set [] off data) }), ?_, ?_, rfl⟩
    · simp [exec, execConfig, Nat.not_le.mpr hp, Tbl.getD, hc, Tbl.set]
    · simp [modPair, Tbl.set]
  · simp [exec, execConfig, Nat.not_le.mpr hp, Tbl.getD, hc, hl]

/-! ## Compared destage -/

/-- A comparison that is changed reads so. -/
theorem get_modDigest {s : State} {k : Nat} {d : DigestRec} (h : Tbl.get s.pair.digests k = some d) (f : DigestRec → DigestRec) : Tbl.get (modDigest s k f).pair.digests k = some (f d) := by
  simp only [modDigest, modPair]
  exact Tbl.get_modify_same f h

/-- Settles O40: the branch of each message that the hypotheses name. -/
theorem comparedDestage : Obligations.ComparedDestage := by
  refine ⟨fun s p id first height n v hp hx => ?_, fun s p id first height n v x hp hx hd => ?_, fun s p id w d hp hd hdone hpart hs hw => ?_, fun s p id w d hp hd hdone hpart hs hw => ?_, fun s p id d hp hd hdone hpart hs => ?_⟩
  · simp [exec, execDigest, Nat.not_le.mpr hp, hx]
  · refine ⟨modPair s (fun q => { q with digests := Tbl.set q.digests (digestKey p id) { owner := v, slots := [n], partner := some (digestOf id first height [(x.data, x.md.bytes)]), done := digestOf id first height [(x.data, x.md.bytes)] == v, first := first, height := height, copies := [], asked := false, back := [] } }), ?_, rfl, rfl⟩
    simp [exec, execDigest, Nat.not_le.mpr hp, hx, hd]
  · refine ⟨modDigest (bump s Obj.PAIR_DIGESTS_COMPARED p 1) (digestKey p id) (fun x => { x with partner := some w, done := true }), _, by simp [exec, execDigestReply, Nat.not_le.mpr hp, hd, hdone, hpart, hs, hw], ?_, ?_, get_modDigest hd _, rfl⟩
    · rw [modDigest, rdN_modPair, rdN_bump_same]
    · rw [modDigest, rdN_modPair, rdN_bump_code (by decide)]
  · refine ⟨modDigest (bump (bump s Obj.PAIR_DIGESTS_COMPARED p 1) Obj.PAIR_DIGEST_MISMATCHES p 1) (digestKey p id) (fun x => { x with partner := some w }), _, by simp [exec, execDigestReply, Nat.not_le.mpr hp, hd, hdone, hpart, hs, hw], ?_, ?_, get_modDigest hd _, hdone, rfl⟩
    · rw [modDigest, rdN_modPair, rdN_bump_code (by decide), rdN_bump_same]
    · rw [modDigest, rdN_modPair, rdN_bump_same, rdN_bump_code (by decide)]
  · exact ⟨modDigest s (digestKey p id) (fun x => { x with done := true }), _, by simp [exec, execDigestReply, Nat.not_le.mpr hp, hd, hdone, hpart, hs], rfl, get_modDigest hd _, rfl⟩

end Sys2Proof.Machine

end

section
/-! PROOFS. The Culvert: flits, replay, link down and bundles (R446 to R462). -/

namespace Sys2Proof.Machine

open Sys2Proof

/-- Asking for a flit again, once for each sequence number awaited. -/
theorem sendNak_of_first {s : State} (h : s.pair.link.naked ≠ some s.pair.link.expect) :
    sendNak s = emit (modLink s (fun x => { x with naked := some x.expect })) (.ack ((s.pair.link.expect + 4095) % 4096) true) := if_neg h

theorem sendNak_link (s : State) : (sendNak s).pair.link.expect = s.pair.link.expect ∧ (sendNak s).pair.link.partials = s.pair.link.partials := by
  unfold sendNak
  split <;> exact ⟨rfl, rfl⟩

/-- Credits taken while nothing waits only count. -/
theorem takeCredits_of_idle {s : State} (h : s.pair.link.queue = []) (l : List Nat) : takeCredits s l = modLink s (fun x => { x with used := Tbl.mapV x.used (fun c u => u - l.getD c 0) }) := by
  have hq : (modLink s (fun x => { x with used := Tbl.mapV x.used (fun c u => u - l.getD c 0) })).pair.link.queue = [] := h
  simp only [takeCredits, drainQueue, hq, forEach_nil]

/-- A flit that carries no acknowledgement, at a link where nothing waits, is in sequence, behind or lost. -/
theorem exec_culvertFlitReceived_of_payload {s : State} {b : Bytes} (hok : flitOk b = true) (hk : (flitHdr b).kind = 1) (ha : (flitHdr b).ackValid = false) (hn : (flitHdr b).nak = false) (hq : s.pair.link.queue = []) :
    ∃ d, d.pair.link = { s.pair.link with heard := s.now, used := Tbl.mapV s.pair.link.used (fun c u => u - (flitHdr b).credits.getD c 0) } ∧ d.dict = s.dict ∧
      exec (.culvertFlitReceived b) s = .next (if (flitHdr b).seq = s.pair.link.expect then acceptFlit d (flitHdr b) b else if (s.pair.link.expect + 4096 - (flitHdr b).seq) % 4096 ≤ 2048 then sendAck d else sendNak d) := by
  have hcredits := takeCredits_of_idle (s := modLink s (fun x => { x with heard := s.now })) hq (flitHdr b).credits
  refine ⟨takeCredits (modLink s (fun x => { x with heard := s.now })) (flitHdr b).credits, by rw [hcredits]; rfl, by rw [hcredits]; rfl, ?_⟩
  have hexpect : (takeCredits (modLink s (fun x => { x with heard := s.now })) (flitHdr b).credits).pair.link.expect = s.pair.link.expect := by rw [hcredits]; rfl
  simp [exec, execCulvertFlitReceived, hok, hk, ha, hn, hexpect]

/-- A flit in the middle of its message adds its payload to what is there. -/
theorem acceptFlit_facts {s : State} {h : FlitHdr} {b : Bytes} (hi : h.index + 1 ≠ h.count) :
    (acceptFlit s h b).pair.link.expect = (s.pair.link.expect + 1) % 4096 ∧ (acceptFlit s h b).pair.link.naked = none ∧ (acceptFlit s h b).pair.link.heard = s.pair.link.heard ∧ (acceptFlit s h b).dict = s.dict ∧
    Tbl.get (acceptFlit s h b).pair.link.partials h.chan = some (Tbl.getD s.pair.link.partials h.chan [] ++ slice b 16 h.bytes) := by
  simp only [acceptFlit, hi, if_false]
  exact ⟨rfl, rfl, rfl, rfl, Tbl.get_set_same _ _ _⟩

/-- All held flits go out again. -/
theorem resend_facts (s : State) : (resend s).out = s.out ++ s.pair.link.held.map (fun f => Out.flit f) ∧ (resend s).pair = s.pair := by
  have hl (l : List Flit) (t : State) : (forEach l (fun f t => emit (bump t Obj.CULVERT_REPLAYS 0 1) (.flit f)) t).out = t.out ++ l.map (fun f => Out.flit f) ∧
      (forEach l (fun f t => emit (bump t Obj.CULVERT_REPLAYS 0 1) (.flit f)) t).pair = t.pair := by
    induction l generalizing t with
    | nil => simp
    | cons f l ih =>
      obtain ⟨hout, hpair⟩ := ih (emit (bump t Obj.CULVERT_REPLAYS 0 1) (.flit f))
      rw [forEach_cons, hout, hpair, emit_out_eq, bump_out]
      exact ⟨by simp, rfl⟩
  exact hl _ s

theorem dropLink_facts (s : State) : rdN (dropLink s) Obj.CULVERT_STATE 0 = 0 ∧ (dropLink s).pair.link = Link.fresh s.now ∧ (dropLink s).pair.heard = false := by
  simp only [dropLink]
  refine ⟨?_, rfl, rfl⟩
  rw [rdN_modPair, rdN_bump_code (by decide), rdN_wr_self, Int.toNat_zero]

/-- What a bundle whose state is set leaves of the registers. -/
theorem rdN_setBundle_same (s : State) (b st : Nat) : rdN (setBundle s b st) Obj.BUNDLE_STATE b = st := by
  simp only [setBundle]
  rw [rdN_wr_code (by decide), rdN_wr_same]

/-- A bundle that trains brings the link up and shows its state. -/
theorem bundleTrained_facts (s u : State) {b : Nat} (hu : u.dict = (setBundle s b 2).dict) :
    rdN (notePair (wr u Obj.CULVERT_STATE 0 2)) Obj.BUNDLE_STATE b = 2 ∧ rdN (notePair (wr u Obj.CULVERT_STATE 0 2)) Obj.CULVERT_STATE 0 = 2 ∧ (notePair (wr u Obj.CULVERT_STATE 0 2)).pair = u.pair := by
  have hb : rdN u Obj.BUNDLE_STATE b = 2 := by
    rw [← rdN_setBundle_same s b 2]
    simp only [rdN, rd, hu]
  simp only [notePair]
  refine ⟨?_, ?_, rfl⟩
  · rw [rdN_wr_code (by decide), rdN_wr_code (by decide), hb]
  · rw [rdN_wr_code (by decide), rdN_wr_self]
    rfl

/-- A bundle that fails trains again and is counted. -/
theorem bundleFailed_facts (s : State) (b : Nat) : rdN (bump (setBundle s b 1) Obj.BUNDLE_RETRAINS b 1) Obj.BUNDLE_STATE b = 1 ∧
    rdN (bump (setBundle s b 1) Obj.BUNDLE_RETRAINS b 1) Obj.BUNDLE_RETRAINS b = (rdN s Obj.BUNDLE_RETRAINS b + 1) % 2 ^ 64 ∧ (bump (setBundle s b 1) Obj.BUNDLE_RETRAINS b 1).pair = s.pair := by
  refine ⟨?_, ?_, rfl⟩
  · rw [rdN_bump_code (by decide), rdN_setBundle_same]
  · rw [rdN_bump_same, setBundle, rdN_wr_code (by decide), rdN_wr_code (by decide)]

/-- Settles O41: the branch of each event that the hypotheses name, and what the link holds after it. -/
theorem culvertLink : Obligations.CulvertLink := by
  refine ⟨fun s b hbad hnak => ?_, fun s b hok hk ha hn hq hseq hi => ?_, fun s b hok hk ha hn hq hseq => ?_, fun s => ?_, fun s hup => ?_, dropLink_facts, fun s b hb hst => ?_, fun s b hb hst => ?_, fun s b hb hst => ?_⟩
  · refine ⟨sendNak (bump s Obj.CULVERT_CRC_ERRORS 0 1), by simp [exec, execCulvertFlitReceived, hbad], ?_⟩
    rw [sendNak_of_first (s := bump s Obj.CULVERT_CRC_ERRORS 0 1) hnak]
    refine ⟨?_, rfl, rfl, rfl⟩
    rw [rdN_emit, rdN_modLink, rdN_bump_same]
  · obtain ⟨d, hlink, hdict, hexec⟩ := exec_culvertFlitReceived_of_payload hok hk ha hn hq
    obtain ⟨hexpect, hnaked, hheard, hkeep, hpart⟩ := acceptFlit_facts (s := d) (b := b) hi
    rw [hlink] at hexpect hheard hpart
    exact ⟨acceptFlit d (flitHdr b) b, by rw [hexec, if_pos hseq], hexpect, hnaked, hheard, hkeep.trans hdict, hpart⟩
  · obtain ⟨d, hlink, hdict, hexec⟩ := exec_culvertFlitReceived_of_payload hok hk ha hn hq
    rw [if_neg hseq] at hexec
    have hd : d.pair.link.expect = s.pair.link.expect ∧ d.pair.link.partials = s.pair.link.partials := by simp only [hlink, and_self]
    refine ⟨_, hexec, ?_⟩
    split
    · exact hd
    · obtain ⟨hexpect, hpart⟩ := sendNak_link d
      exact ⟨hexpect.trans hd.1, hpart.trans hd.2⟩
  · obtain ⟨hout, hpair⟩ := resend_facts (modLink s (fun x => { x with acked := s.now }))
    exact ⟨_, rfl, hout, by rw [hpair]; rfl, by rw [hpair]; rfl⟩
  · simp [exec, execCulvertDown, hup]
  · obtain ⟨hbundle, hstate, hpair⟩ := bundleTrained_facts s (modPair (setBundle s b 2) (fun x => { x with link := Link.fresh s.now, heard := false })) (b := b) rfl
    exact ⟨_, by simp only [exec, execBundleTrained, Nat.not_le.mpr hb, hst, if_true, if_false], hbundle, hstate, by rw [hpair]; rfl⟩
  · obtain ⟨hbundle, hstate, hpair⟩ := bundleTrained_facts s (setBundle s b 2) (b := b) rfl
    exact ⟨_, by simp only [exec, execBundleTrained, Nat.not_le.mpr hb, hst, if_false], hbundle, hstate, by rw [hpair]; rfl⟩
  · refine ⟨_, by simp only [exec, execBundleFailed, Nat.not_le.mpr hb, hst, ne_eq, not_true_eq_false, or_self, if_false]; rfl, ?_⟩
    obtain ⟨hstate, hretrain, hpair⟩ := bundleFailed_facts s b
    split
    · exact ⟨by rw [rdN_wr_code (by decide), hstate], by rw [rdN_wr_code (by decide), hretrain], by rw [wr_pair, hpair]⟩
    · exact ⟨hstate, hretrain, hpair⟩

end Sys2Proof.Machine

end

section
/-! PROOFS. The dictionary message (R52 to R76): the response's fields, when a request runs at once, and what it answers. -/

namespace Sys2Proof.Machine

open Sys2Proof

/-! ## Fields of a response -/

theorem leNat_lt (b : Bytes) : leNat b < 256 ^ b.length := by
  induction b with
  | nil => simp [leNat]
  | cons x r ih =>
    have hx : x.toNat < 256 := x.isLt
    simp only [leNat, List.length_cons, pow_succ]
    omega

theorem fieldAt_lt (b : Bytes) (o n : Nat) : fieldAt b o n < 256 ^ n := by
  calc fieldAt b o n < 256 ^ (slice b o n).length := leNat_lt _
    _ ≤ 256 ^ n := Nat.pow_le_pow_right (by decide) (by simp [slice])

/-- The 24 bytes before the data of a response. -/
def rspHead (op seq rspSeq result failing evSeq next len : Nat) : Bytes :=
  leBytes 1 1 ++ leBytes 1 (op % 128 + 128) ++ leBytes 2 seq ++ leBytes 2 rspSeq ++ leBytes 1 result ++ leBytes 1 failing ++ leBytes 6 evSeq ++ leBytes 2 next ++ leBytes 4 len ++ zeros 4

theorem response_eq (op seq rspSeq result failing evSeq next : Nat) (data : Bytes) :
    response op seq rspSeq result failing evSeq next data = rspHead op seq rspSeq result failing evSeq next data.length ++ data := rfl

theorem rspHead_length (op seq rspSeq result failing evSeq next len : Nat) : (rspHead op seq rspSeq result failing evSeq next len).length = 24 := rfl

section
variable (op seq rspSeq result failing evSeq next : Nat) (data : Bytes)

theorem fieldAt_response_op : fieldAt (response op seq rspSeq result failing evSeq next data) 1 1 = op % 128 + 128 := by
  show (BitVec.ofNat 8 ((op % 128 + 128) / 256 ^ 0)).toNat + 256 * 0 = _
  simp
  omega

theorem fieldAt_response_seq : fieldAt (response op seq rspSeq result failing evSeq next data) 2 2 = seq % 65536 := by
  show (BitVec.ofNat 8 (seq / 256 ^ 0)).toNat + 256 * ((BitVec.ofNat 8 (seq / 256 ^ 1)).toNat + 256 * 0) = _
  simp
  omega

theorem fieldAt_response_result : fieldAt (response op seq rspSeq result failing evSeq next data) 6 1 = result % 256 := by
  show (BitVec.ofNat 8 (result / 256 ^ 0)).toNat + 256 * 0 = _
  simp

theorem fieldAt_response_failing : fieldAt (response op seq rspSeq result failing evSeq next data) 7 1 = failing % 256 := by
  show (BitVec.ofNat 8 (failing / 256 ^ 0)).toNat + 256 * 0 = _
  simp

theorem drop_response (n : Nat) : (response op seq rspSeq result failing evSeq next data).drop (24 + n) = data.drop n := by
  rw [response_eq, ← rspHead_length op seq rspSeq result failing evSeq next data.length, List.drop_append]
  simp

end

/-! ## Running a request -/

/-- A session as a request that comes in leaves it. -/
def seenBy (s : State) : Option Nat → State
  | some n => modSess s n (fun y => { y with last := s.now })
  | none => s

/-- A request of the engine that nothing holds back is handled at once and answered. -/
theorem engineReq_runs {s : State} {sess : Option Nat} {op : Nat} {req : Bytes} (hop : (reqHead req).op = op) (hlive : carrierLive s (.engine sess) = true) (hlive' : carrierLive (seenBy s sess) (.engine sess) = true)
    (hp : s.dict.paced = []) (hw : willPersist (seenBy s sess) { src := .engine sess, req := req } = false) :
    engineReq s sess op req = emit (handleReq (seenBy s sess) sess (fun _ => true) 1048576 req).2 (.dict sess (handleReq (seenBy s sess) sess (fun _ => true) 1048576 req).1) := by
  have hpaced : (seenBy s sess).dict.paced = [] := by cases sess <;> exact hp
  have hmust : mustPace (seenBy s sess) { src := .engine sess, req := req } = false := by simp [mustPace, hw]
  have hsubmit : engineReq s sess op req = submitReq s (.engine sess) req := by simp [engineReq, hop, hlive]
  have hrun : submitReq s (.engine sess) req = runCharged (seenBy s sess) { src := .engine sess, req := req } := by
    cases sess <;> simp only [submitReq, srcSession] <;> exact if_neg (by simp_all [seenBy])
  rw [hsubmit, hrun, runCharged, if_neg (by simp [hw]), runReq, if_pos hlive']
  rfl

/-- A request that changes nothing persistent, or that is refused, waits for no token. -/
theorem willPersist_of_not_changes {s : State} {src : ReqSrc} {req : Bytes} (h : changesPersistent req = false) : willPersist s { src := src, req := req } = false := by simp [willPersist, h]

theorem willPersist_of_refused {s : State} {sess : Option Nat} {req : Bytes} (h : (checkReq s sess (fun _ => true) req).1 ≠ Rs.ok) : willPersist s { src := .engine sess, req := req } = false := by
  have hc : (checkReq s sess (carrierTakes s (.engine sess)) req).1 ≠ Rs.ok := h
  simp [willPersist, srcSession, hc]

theorem changesPersistent_of_not_write {req : Bytes} (h : (reqHead req).op ≠ Dq.write) : changesPersistent req = false := by simp [changesPersistent, h]

/-! ## Checks of a request -/

theorem dataLimit_cases (sess : Option Nat) : dataLimit sess = 1024 ∨ dataLimit sess = 65536 := by
  unfold dataLimit
  split <;> simp

/-- The length limit says nothing of a NOP. -/
theorem checkReq_nop {s : State} {n : Nat} {req : Bytes} (hop : (reqHead req).op = Dq.nop) (hh : headCode req 65536 = Rs.ok) : checkReq s (some n) (fun _ => true) req = (Rs.ok, 0xFF) := by
  have hlimit (l : Nat) : headCode req l = headCode req 65536 := by simp only [headCode, hop, if_true]
  have hoob : oobCode s (some n) Dq.nop (entriesOf req) = (Rs.ok, 0xFF) := by simp [oobCode, Dq.nop, Dq.read, Dq.write]
  simp [checkReq, hlimit, hh, hop, hoob, Rs.ok, Rs.malformed]

/-- Out of band, a write while writing is not enabled. -/
theorem checkReq_oobDisabled {s : State} {n : Nat} {req : Bytes} (h2 : 2 ≤ n) (h14 : n < 14) (hop : (reqHead req).op = Dq.write) (hh : headCode req 1024 = Rs.ok) (he : rdB s Obj.OOB_WRITE_ENABLED 0 = false) :
    checkReq s (some n) (fun _ => true) req = (Rs.oobDisabled, 0xFF) := by
  have hband : outOfBand (some n) = true := by simp [outOfBand, h2, h14]
  simp [checkReq, dataLimit, hband, hh, hop, oobCode, he, Rs.ok, Rs.malformed, Rs.oobDisabled]

/-- A write with no session. -/
theorem checkReq_noSession {s : State} {req : Bytes} (hop : (reqHead req).op = Dq.write) (hh : headCode req 1024 = Rs.ok) : checkReq s none (fun _ => true) req = (Rs.noSession, 0xFF) := by
  have hband : outOfBand none = true := rfl
  simp [checkReq, dataLimit, hband, hh, hop, oobCode, Rs.ok, Rs.malformed, Rs.noSession]

/-- A write of one read-only object by a host. -/
theorem checkReq_access {s : State} {n : Nat} {req : Bytes} {e : ReqEntry} {o : ObjDesc} (hn : n < 2) (hop : (reqHead req).op = Dq.write) (hh : headCode req 65536 = Rs.ok) (hl : entriesOf req = [e])
    (ht : targetOf e = some (.obj o)) (ha : o.acc = .ro) : checkReq s (some n) (fun _ => true) req = (Rs.access, 0) := by
  have hband : outOfBand (some n) = false := by simp [outOfBand]; omega
  have hpriv : privileged s (some n) e (.obj o) true = true := by
    have : ¬16 ≤ n := by omega
    simp [privileged, tenantOf, this]
  have hcode : writeCode s (some n) o e = Rs.access := by simp [writeCode, accessRefuses, ha]
  simp [checkReq, dataLimit, hband, hh, hop, oobCode, hl, checkEntries, checkEntry, ht, hpriv, hcode, Dq.write, Dq.nop, Rs.ok, Rs.malformed, Rs.access]

/-- A read of one health object with no session. -/
theorem checkReq_health {s : State} {req : Bytes} {e : ReqEntry} {o : ObjDesc} (hop : (reqHead req).op = Dq.read) (hh : headCode req 1024 = Rs.ok) (hl : entriesOf req = [e]) (ht : targetOf e = some (.obj o))
    (hhealth : o.health = true) (hr : readCode s none e (.obj o) = Rs.ok) : checkReq s none (fun _ => true) req = (Rs.ok, 0xFF) := by
  have hband : outOfBand none = true := rfl
  have htarget : Target.health (.obj o) = true := hhealth
  have hpriv : privileged s none e (.obj o) false = true := rfl
  simp [checkReq, dataLimit, hband, hh, hop, oobCode, hl, checkEntries, checkEntry, ht, htarget, hpriv, hr, Dq.read, Dq.write, Dq.nop, Rs.ok, Rs.malformed]

/-! ## Answers -/

/-- The answer within a session: the response that takes the session's next sequence, noted in LAST_RSP_SEQ. -/
theorem respond_session (s : State) (n op seq result failing : Nat) (data : Bytes) :
    ∃ k f, respond s (some n) op seq result failing data true = (response op seq k result failing s.ev.seq (rdN s Obj.NEXT_REQ_SEQ n) data, wr (modSess s n f) Obj.LAST_RSP_SEQ n (k : Nat)) ∧
      ∀ x, sessOf s n = some x → k = x.rsp := by
  simp only [respond, if_true]
  refine ⟨_, _, rfl, fun x hx => ?_⟩
  rw [hx]

/-- The answer that is not kept for a repeat. -/
theorem respond_uncached (s : State) (n op seq result failing : Nat) (data : Bytes) :
    ∃ k f, respond s (some n) op seq result failing data false = (response op seq k result failing s.ev.seq (rdN s Obj.NEXT_REQ_SEQ n) data, modSess s n f) :=
  ⟨_, _, rfl⟩

/-- A refused request changes sessions only, unless it lacked privilege. -/
theorem refuse_facts (s : State) (sess : Option Nat) (b : Bytes) {result failing : Nat} (h : result ≠ Rs.privilege) :
    (refuse s sess b result failing).out = s.out ∧ (refuse s sess b result failing).ep = s.ep ∧ (refuse s sess b result failing).dict.regs = s.dict.regs ∧ (refuse s sess b result failing).dict.blobs = s.dict.blobs := by
  unfold refuse
  split
  · exact ⟨rfl, rfl, rfl, rfl⟩
  · cases sess with
    | none =>
      simp only [dropPart, ite_self, and_self]
    | some n =>
      simp only [h, if_false, dropPart]
      split <;> exact ⟨rfl, rfl, rfl, rfl⟩

/-- With no session nothing is dropped. -/
theorem refuse_none (s : State) (b : Bytes) (result failing : Nat) : refuse s none b result failing = s := by
  unfold refuse
  split
  · rfl
  · simp only [dropPart, ite_self]

/-! ## Handling a request -/

/-- What a request that is in sequence does first. -/
def begun (s : State) (n seq : Nat) : State :=
  modSess (wr s Obj.NEXT_REQ_SEQ n ((seq + 1) % 65536 : Nat)) n (fun x => { x with fresh := false })

theorem sessOf_seenBy {s : State} {n : Nat} {x : Session} (hx : sessOf s n = some x) : sessOf (seenBy s (some n)) n = some { x with last := s.now } :=
  Tbl.get_modify_same _ hx

theorem carrierLive_seenBy {s : State} {n : Nat} {x : Session} (hx : sessOf s n = some x) : carrierLive s (.engine (some n)) = true ∧ carrierLive (seenBy s (some n)) (.engine (some n)) = true := by
  have hseen := sessOf_seenBy hx
  simp [carrierLive, srcSession, hx, hseen]

theorem sessOf_begun {s : State} {n seq : Nat} {x : Session} (hx : sessOf s n = some x) : sessOf (begun s n seq) n = some { x with fresh := false } :=
  Tbl.get_modify_same _ hx

theorem rdN_begun (s : State) (n seq : Nat) : rdN (begun s n seq) Obj.NEXT_REQ_SEQ n = (seq + 1) % 65536 :=
  rdN_wr_same _ _ _ _

/-- A request in sequence is executed. -/
theorem handleReq_inSeq {s : State} {n : Nat} {x : Session} {req : Bytes} (hx : sessOf s n = some x) (hf : x.fresh = false) (hs : (reqHead req).seq = rdN s Obj.NEXT_REQ_SEQ n) :
    handleReq (seenBy s (some n)) (some n) (fun _ => true) 1048576 req = execReq (seenBy s (some n)) (some n) (fun _ => true) 1048576 req := by
  have hexp : rdN (seenBy s (some n)) Obj.NEXT_REQ_SEQ n = rdN s Obj.NEXT_REQ_SEQ n := rfl
  simp [handleReq, sessOf_seenBy hx, hf, hexp, hs]

/-- A request that is refused is answered with why. -/
theorem execReq_refused {s : State} {n : Nat} {req : Bytes} {c i : Nat} (hc : checkReq (begun s n (reqHead req).seq) (some n) (fun _ => true) req = (c, i)) (hr : c ≠ Rs.ok) :
    execReq s (some n) (fun _ => true) 1048576 req = respond (refuse (begun s n (reqHead req).seq) (some n) req c i) (some n) (reqHead req).op (reqHead req).seq c i [] true := by
  simp only [begun] at hc
  simp only [execReq, hc, hr, ne_eq, not_false_eq_true, if_true, begun]

/-- A NOP that passes is answered. -/
theorem execReq_nop {s : State} {n : Nat} {req : Bytes} (hop : (reqHead req).op = Dq.nop) (hc : checkReq (begun s n (reqHead req).seq) (some n) (fun _ => true) req = (Rs.ok, 0xFF)) :
    execReq s (some n) (fun _ => true) 1048576 req = respond (begun s n (reqHead req).seq) (some n) Dq.nop (reqHead req).seq Rs.ok 0xFF [] true := by
  simp only [begun] at hc
  simp only [execReq, hc, hop, begun]
  simp [Dq.nop, Dq.read, Dq.write]

/-- A write that passes and changes nothing persistent is applied and answered. -/
theorem execReq_write {s : State} {n : Nat} {req : Bytes} (hop : (reqHead req).op = Dq.write) (hc : (checkReq (begun s n (reqHead req).seq) (some n) (fun _ => true) req).1 = Rs.ok)
    (hp : changesPersistent req = false) :
    execReq s (some n) (fun _ => true) 1048576 req = respond (applyAll (begun s n (reqHead req).seq) (some n) (entriesOf req)) (some n) Dq.write (reqHead req).seq Rs.ok 0xFF [] true := by
  simp only [begun] at hc
  simp only [execReq, hc, hop, hp, begun]
  simp [Dq.read, Dq.write]

/-- What goes out when a response is given. -/
theorem out_of_answer {s u : State} (h : u.out = s.out) (sess : Option Nat) (b : Bytes) : (emit u (.dict sess b)).out = s.out ++ [.dict sess b] := by
  rw [emit_out_eq, h]

/-- A write that is refused within a session: the answer, and what stays. -/
theorem write_refused {s : State} {n : Nat} {x : Session} {req : Bytes} {c i : Nat} (hx : sessOf s n = some x) (hf : x.fresh = false) (hp : s.dict.paced = []) (hop : (reqHead req).op = Dq.write)
    (hs : (reqHead req).seq = rdN s Obj.NEXT_REQ_SEQ n) (hseen : (checkReq (seenBy s (some n)) (some n) (fun _ => true) req).1 ≠ Rs.ok)
    (hc : checkReq (begun (seenBy s (some n)) n (reqHead req).seq) (some n) (fun _ => true) req = (c, i)) (hr : c ≠ Rs.ok) (hpriv : c ≠ Rs.privilege) :
    ∃ t b, exec (.dictionaryWrite (some n) req) s = .next t ∧ t.out = s.out ++ [.dict (some n) b] ∧ fieldAt b 6 1 = c % 256 ∧ fieldAt b 7 1 = i % 256 ∧
      rdN t Obj.NEXT_REQ_SEQ n = ((reqHead req).seq + 1) % 65536 ∧ t.dict.blobs = s.dict.blobs ∧ t.ep = s.ep := by
  obtain ⟨hlive, hlive'⟩ := carrierLive_seenBy hx
  obtain ⟨hout, hep, hregs, hblobs⟩ := refuse_facts (begun (seenBy s (some n)) n (reqHead req).seq) (some n) req (failing := i) hpriv
  have hrun := engineReq_runs hop hlive hlive' hp (willPersist_of_refused hseen)
  rw [handleReq_inSeq hx hf hs, execReq_refused hc hr] at hrun
  have hnext : rdN (refuse (begun (seenBy s (some n)) n (reqHead req).seq) (some n) req c i) Obj.NEXT_REQ_SEQ n = ((reqHead req).seq + 1) % 65536 := by
    rw [← rdN_begun (seenBy s (some n)) n]
    simp only [rdN, rd, hregs]
  generalize refuse (begun (seenBy s (some n)) n (reqHead req).seq) (some n) req c i = u at hrun hout hep hblobs hnext
  obtain ⟨k, f, hresp, -⟩ := respond_session u n (reqHead req).op (reqHead req).seq c i []
  rw [hresp] at hrun
  refine ⟨_, _, (congrArg Host.Outcome.next hrun : exec (.dictionaryWrite (some n) req) s = _), out_of_answer hout _ _, fieldAt_response_result .., fieldAt_response_failing .., ?_, hblobs, hep⟩
  · rw [rdN_emit, rdN_wr_code (by decide)]
    exact hnext

/-- A health object that is read with no session: its bytes behind a head of eight. -/
theorem execReq_healthRead {s : State} {req : Bytes} {e : ReqEntry} {o : ObjDesc} (hop : (reqHead req).op = Dq.read) (hc : checkReq s none (fun _ => true) req = (Rs.ok, 0xFF)) (hl : entriesOf req = [e])
    (ht : targetOf e = some (.obj o)) (hw : o.acc ≠ .wo) (hst : e.staged = false) (hf : isFetch o = false) (hlen : e.len ≤ 1000) :
    ∃ u, u.dict = s.dict ∧ u.out = s.out ∧
      execReq s none (fun _ => true) 1048576 req = respond u none Dq.read (reqHead req).seq Rs.ok 0xFF
        (leBytes 4 (((readObj s o e.inst false).drop e.off).take e.len).length ++ zeros 4 ++ ((readObj s o e.inst false).drop e.off).take e.len) true := by
  simp only [isFetch, Bool.or_eq_false_iff] at hf
  obtain ⟨⟨hsub, hstore⟩, halarm⟩ := hf
  have hbytes : targetBytes s none e (.obj o) = readObj s o e.inst false := by simp [targetBytes, hst, tenantOf]
  have hentry : readEntry s none e = (((readObj s o e.inst false).drop e.off).take e.len, s) := by simp [readEntry, ht, hw, hsub, hstore, halarm, hbytes]
  have hall : readAll none [e] s = (leBytes 4 (((readObj s o e.inst false).drop e.off).take e.len).length ++ zeros 4 ++ ((readObj s o e.inst false).drop e.off).take e.len, takeFree s) := by
    simp only [readAll, hentry, List.isEmpty_nil, if_true]
  have hroom : ¬(leBytes 4 (((readObj s o e.inst false).drop e.off).take e.len).length ++ zeros 4 ++ ((readObj s o e.inst false).drop e.off).take e.len).length > min 1048576 (dataLimit none) := by
    have hlimit : dataLimit none = 1024 := rfl
    simp only [List.length_append, List.length_take, List.length_drop, leBytes, zeros, List.length_map, List.length_range, List.length_replicate, hlimit]
    omega
  refine ⟨takeFree s, rfl, rfl, ?_⟩
  simp only [execReq, hc, hop, hl, hall, ne_eq, not_true_eq_false, if_false, if_true]
  rw [if_neg hroom]

/-- Settles O42: a request is handled at once, checked, and answered with what the checks say. -/
theorem dictionaryRequests : Obligations.DictionaryRequests := by
  refine ⟨fun s n x req hn hx hf hp hop hh hs => ?_, fun s n x req r hn hx hf hp hop hs hs' hr => ?_, fun s n x req hn hx hf hp hop hs hs' => ?_, fun s n x req h2 h14 hx hf hp hop hh hs he => ?_,
    fun s req hp hop hh => ?_, fun s req e o hp hop hh hl ht hhealth hw hst hfetch hread hlen => ?_, fun s n x req e o hn hx hf hp hop hh hs hl ht ha => ?_, fun s n x req hn hx hf hp hop hs hc => ?_,
    fun s hp => ?_, fun s x l hp => ?_, fun s n key x hx => ?_, fun s b => ⟨wrB s Obj.OOB_WRITE_ENABLED 0 b, rfl, rdB_wrB_same _ _ _ _, rfl⟩⟩
  · obtain ⟨hlive, hlive'⟩ := carrierLive_seenBy hx
    have hrun := engineReq_runs hop hlive hlive' hp (willPersist_of_not_changes (changesPersistent_of_not_write (by rw [hop]; decide)))
    obtain ⟨k, f, hresp, hk⟩ := respond_session (begun (seenBy s (some n)) n (reqHead req).seq) n Dq.nop (reqHead req).seq Rs.ok 0xFF []
    rw [handleReq_inSeq hx hf hs, execReq_nop hop (checkReq_nop hop hh), hresp] at hrun
    refine ⟨_, _, (congrArg Host.Outcome.next hrun : exec (.dictionaryNop (some n) req) s = _), out_of_answer rfl _ _, fieldAt_response_op .., ?_, fieldAt_response_result .., ?_, ?_⟩
    · have hlt : (reqHead req).seq < 65536 := fieldAt_lt req 2 2
      rw [fieldAt_response_seq, Nat.mod_eq_of_lt hlt]
    · rw [rdN_emit, rdN_wr_code (by decide)]
      exact rdN_begun _ _ _
    · rw [rdN_emit, rdN_wr_same, hk _ (sessOf_begun (sessOf_seenBy hx))]
  · obtain ⟨hlive, hlive'⟩ := carrierLive_seenBy hx
    have hrun := engineReq_runs hop hlive hlive' hp (willPersist_of_not_changes (changesPersistent_of_not_write (by rw [hop]; decide)))
    have hexp : rdN (seenBy s (some n)) Obj.NEXT_REQ_SEQ n = rdN s Obj.NEXT_REQ_SEQ n := rfl
    have hhandle : handleReq (seenBy s (some n)) (some n) (fun _ => true) 1048576 req = (r, seenBy s (some n)) := by
      simp only [handleReq, sessOf_seenBy hx, Option.getD_some, hf, hexp, Bool.false_eq_true, hs, or_self, if_false, if_pos hs', hr]
    rw [hhandle] at hrun
    exact ⟨_, (congrArg Host.Outcome.next hrun : exec (.dictionaryNop (some n) req) s = _), out_of_answer rfl _ _, rfl, rfl⟩
  · obtain ⟨hlive, hlive'⟩ := carrierLive_seenBy hx
    have hrun := engineReq_runs hop hlive hlive' hp (willPersist_of_not_changes (changesPersistent_of_not_write (by rw [hop]; decide)))
    have hexp : rdN (seenBy s (some n)) Obj.NEXT_REQ_SEQ n = rdN s Obj.NEXT_REQ_SEQ n := rfl
    have hhandle : handleReq (seenBy s (some n)) (some n) (fun _ => true) 1048576 req = respond (seenBy s (some n)) (some n) Dq.nop (reqHead req).seq Rs.sequence 0xFF [] false := by
      simp only [handleReq, sessOf_seenBy hx, Option.getD_some, hf, hexp, Bool.false_eq_true, hs, or_self, if_false, if_neg hs', hop]
    obtain ⟨k, f, hresp⟩ := respond_uncached (seenBy s (some n)) n Dq.nop (reqHead req).seq Rs.sequence 0xFF []
    rw [hhandle, hresp] at hrun
    exact ⟨_, _, (congrArg Host.Outcome.next hrun : exec (.dictionaryNop (some n) req) s = _), out_of_answer rfl _ _, fieldAt_response_result .., rfl⟩
  · obtain ⟨t, b, hexec, hout, hres, -, hnext, hblobs, hep⟩ := write_refused hx hf hp hop hs (by rw [checkReq_oobDisabled h2 h14 hop hh (by exact he)]; decide)
      (checkReq_oobDisabled h2 h14 hop hh (by exact (rdB_wr_code (by decide) _).trans he)) (by decide) (by decide)
    exact ⟨t, b, hexec, hout, hres, hnext, hblobs, hep⟩
  · have hcheck := checkReq_noSession (s := s) hop hh
    have hrun := engineReq_runs (sess := none) hop rfl rfl hp (willPersist_of_refused (by rw [show seenBy s none = s from rfl, hcheck]; decide))
    have hhandle : handleReq (seenBy s none) none (fun _ => true) 1048576 req = respond s none (reqHead req).op (reqHead req).seq Rs.noSession 0xFF [] true := by
      show execReq s none (fun _ => true) 1048576 req = _
      simp only [execReq, hcheck, refuse_none]
      rw [if_pos (by decide)]
    rw [hhandle] at hrun
    exact ⟨_, _, (congrArg Host.Outcome.next hrun : exec (.dictionaryWrite none req) s = _), out_of_answer rfl _ _, fieldAt_response_result .., rfl⟩
  · have hcheck := checkReq_health (s := s) hop hh hl ht hhealth hread
    have hrun := engineReq_runs (sess := none) hop rfl rfl hp (willPersist_of_not_changes (changesPersistent_of_not_write (by rw [hop]; decide)))
    obtain ⟨u, hdict, hout, hexec⟩ := execReq_healthRead hop hcheck hl ht hw hst hfetch hlen
    rw [show handleReq (seenBy s none) none (fun _ => true) 1048576 req = _ from hexec] at hrun
    refine ⟨_, _, (congrArg Host.Outcome.next hrun : exec (.dictionaryRead none req) s = _), out_of_answer hout _ _, fieldAt_response_result .., ?_, hdict⟩
    · exact (drop_response _ _ _ _ _ _ _ _ 8).trans rfl
  · obtain ⟨t, b, hexec, hout, hres, hfail, -, hblobs, hep⟩ := write_refused hx hf hp hop hs (by rw [checkReq_access hn hop hh hl ht ha]; decide) (checkReq_access hn hop hh hl ht ha) (by decide) (by decide)
    exact ⟨t, b, hexec, hout, hres, hfail, hblobs, hep⟩
  · intro a hcheck r
    obtain ⟨hlive, hlive'⟩ := carrierLive_seenBy hx
    have hrun := engineReq_runs hop hlive hlive' hp (willPersist_of_not_changes hc)
    rw [handleReq_inSeq hx hf hs, execReq_write (s := seenBy s (some n)) hop hcheck hc] at hrun
    exact congrArg Host.Outcome.next hrun
  · simp [exec, execPersistentWritePaced, hp]
  · simp [exec, execPersistentWritePaced, hp]
  · exact ⟨modSess s n (fun x => { x with parts := x.parts.filter (fun y => y.key != key) }), rfl, Tbl.get_modify_same _ hx, rfl, rfl⟩

end Sys2Proof.Machine

end

section
/-! PROOFS. Dictionary commands, FACTORY_DEFAULTS and register writes (R67, R75, R77, R321, R331 to R335). -/

namespace Sys2Proof.Machine

open Sys2Proof

/-! ## Dictionary commands -/

/-- A dictionary command that may start reads its request from the host and submits it. -/
theorem dictCommand_of_startable {s : State} {q tag op : Nat} {req : Bytes} {c : Cmd} {d : Desc} (hc : startable s q tag op = some c) (hd : c.descs[0]? = some d) :
    dictCommand s q tag op req = submitReq (modCmd (emit s (.hostRead (qpFn s q) d.addr d.len)) q tag (fun x => { x with phase := .running })) (.cmd q tag) req := by
  simp only [dictCommand, hc, hd]

/-! ## Factory defaults -/

/-- Writing FACTORY_DEFAULTS does nothing but mark the defaults to be taken. -/
theorem actionWrite_factory (s : State) (n : Nat) : actionWrite s Obj.FACTORY_DEFAULTS 0 n = markFactory s := rfl

/-- FACTORY_DEFAULTS is refused only for its value and for a pool that is configured and not OFFLINE. -/
theorem checkWrite_factory_of_ready {s : State} (h : ∀ p, p < 8 → poolState s p = Ps.notConfigured ∨ poolState s p = Ps.offline) : checkWrite s Obj.FACTORY_DEFAULTS 0 (.num ((0x9640DEF0 : Nat) : Int)) = Rs.ok := by
  have hready : stateRefuses s Obj.FACTORY_DEFAULTS 0 (.num ((0x9640DEF0 : Nat) : Int)) = false := by
    show (List.range 8).any (fun p => poolState s p != Ps.notConfigured && poolState s p != Ps.offline) = false
    refine List.any_eq_false.mpr fun p hp => ?_
    rcases h p (List.mem_range.mp hp) with hst | hst <;> simp [hst]
  have haccess : accessRefuses s Obj.FACTORY_DEFAULTS 0 (.num ((0x9640DEF0 : Nat) : Int)) = false := hready
  have hrange : valueInRange s Obj.FACTORY_DEFAULTS 0 (.num ((0x9640DEF0 : Nat) : Int)) = true := rfl
  have hbusy : busyCode s Obj.FACTORY_DEFAULTS 0 (.num ((0x9640DEF0 : Nat) : Int)) = Rs.ok := rfl
  simp only [checkWrite, haccess, hrange, hbusy]
  rfl

theorem checkWrite_factory_of_pool {s : State} {p : Nat} (v : Int) (hp : p < 8) (hn : poolState s p ≠ Ps.notConfigured) (ho : poolState s p ≠ Ps.offline) :
    checkWrite s Obj.FACTORY_DEFAULTS 0 (.num v) = Rs.access := by
  have hrefused : stateRefuses s Obj.FACTORY_DEFAULTS 0 (.num v) = true := by
    show (List.range 8).any (fun p => poolState s p != Ps.notConfigured && poolState s p != Ps.offline) = true
    exact List.any_eq_true.mpr ⟨p, List.mem_range.mpr hp, by simp [hn, ho]⟩
  have haccess : accessRefuses s Obj.FACTORY_DEFAULTS 0 (.num v) = true := hrefused
  simp only [checkWrite, haccess, if_true]

/-! ## Windows -/

/-- A write that does not straddle and stays within a page's 256 bytes acts in one piece. -/
theorem mmioWrite_doorbell {s : State} {f off : Nat} {data : Bytes} (hf : f ≤ 1025) (hopen : memOpen s f = true) (hs : straddles f 2 off data.length = false) (hd : data ≠ []) (hoff : off % 256 + data.length ≤ 256) :
    mmioWrite s f 2 off data = doorbellWrite s f off data := by
  have hwrite (b : Bytes) (hb : b ≠ []) (t : State) (o : Nat) : barWrite t f 2 o b = doorbellWrite t f o b := by simp [barWrite, hb]
  have hnone (t : State) (o : Nat) : barWrite t f 2 o [] = t := rfl
  have htake : data.take (256 - off % 256) = data := List.take_of_length_le (by omega)
  have hdrop : data.drop (256 - off % 256) = [] := List.drop_eq_nil_of_le (by omega)
  simp [mmioWrite, Nat.not_lt.mpr hf, hd, hopen, hs, htake, hdrop, hwrite data hd, hnone]

/-- Settles O43: the branch of each access that the hypotheses name. -/
theorem dictionaryCommandsAndRegisterWrites : Obligations.DictionaryCommandsAndRegisterWrites := by
  refine ⟨fun s q tag req c d hc hd => ?_, fun s q tag req c d hc hd => ?_, fun s h => ?_, fun s v p hp hn ho => ?_, fun s index inst sub o v ho hi hw hfit hc hp => ?_, fun s index inst sub o v ho hc => ?_,
    fun s index inst sub o b ho hi hw hlen hrow hc hp => ?_, fun s f bar off data hf hd hopen => ?_, fun s f bar off data hf hd hopen hs => ?_, fun s f off data hf hopen hs hd hoff => ?_,
    fun s f bar off len hf hlen hopen hs => ?_, fun s f v hp hr => ?_, fun s f b v hr => ?_⟩
  · exact congrArg Host.Outcome.next (dictCommand_of_startable hc hd)
  · exact congrArg Host.Outcome.next (dictCommand_of_startable hc hd)
  · refine ⟨markFactory (leaveIdle s), ?_, rfl⟩
    simp only [exec, execFactoryDefaults, writeObj]
    rw [if_pos (checkWrite_factory_of_ready h)]
    exact congrArg Host.Outcome.next (actionWrite_factory (leaveIdle s) _)
  · simp only [exec, execFactoryDefaults, writeObj]
    rw [if_neg]
    rw [checkWrite_factory_of_pool _ hp hn ho]
    decide
  · simp [exec, execRegisterWrite, objectWrite, ho, hi, hw, hfit, hc, hp]
  · simp [exec, execRegisterWrite, objectWrite, ho, hc]
  · simp [exec, execRegisterWrite, objectWrite, ho, hi, hw, hlen, hrow, hc, hp]
  · simp [exec, execRegisterWrite, mmioWrite, Nat.not_lt.mpr hf, hd, hopen]
  · refine ⟨noteStraddle s f bar off, by simp [exec, execRegisterWrite, mmioWrite, Nat.not_lt.mpr hf, hd, hopen, hs], ?_, ?_, ?_⟩ <;> simp only [noteStraddle]
    · rw [rdN_raise (by decide) (by decide) (by decide), rdN_bump_same]
    · rw [raise_qps, bump_qps]
    · rw [raise_key, bump_key]
  · simp only [exec, execRegisterWrite, mmioWrite_doorbell hf hopen hs hd hoff]
  · refine ⟨emit s (.mmioData f ((List.range len).map (fun k => barByte s f bar (off + k)))), _, by simp [exec, execRegisterWrite, mmioRead, Nat.not_lt.mpr hf, Nat.pos_iff_ne_zero.mp hlen, hopen, hs], emit_out_eq _ _, by simp, fun k hk => ?_,
      rfl, rfl⟩
    simp [hk]
  · exact ⟨modFn s f (fun x => { x with mse := v }), by simp [exec, execRegisterWrite, cfgWrite, hp, hr], by rw [fnOf_modFn], rfl⟩
  · simp [exec, execRegisterWrite, cfgWrite, hr]

end Sys2Proof.Machine

end

section
/-! PROOFS. SPDM requests and their sessions (R53, R54, R57). -/

namespace Sys2Proof.Machine

open Sys2Proof

/-! ## Registers that were cleared -/

theorem Tbl.get_filterK_none {α : Type} (t : Tbl α) (p : Nat → Bool) {k : Nat} (h : p k = false) : Tbl.get (Tbl.filterK t p) k = none := by
  induction t with
  | nil => rfl
  | cons e r ih =>
    obtain ⟨j, v⟩ := e
    unfold Tbl.filterK at ih ⊢
    by_cases hj : j = k
    · subst hj
      simp only [List.filter_cons, h, Bool.false_eq_true, if_false, ih]
    · by_cases hp : p j = true
      · simp only [List.filter_cons, hp, if_true, Tbl.get, hj, if_false, ih]
      · simp only [List.filter_cons, hp, Bool.false_eq_true, if_false, ih]

/-- A cleared register reads its default. -/
theorem rd_clrInst_same (s : State) (o : ObjDesc) (n : Nat) (ho : o.sub < 256) : rd (clrInst s o.index n) o n = dfltAt o n := by
  have hkey : o.key n / 256 = objKey o.index n 0 / 256 := by
    simp only [ObjDesc.key, objKey]
    omega
  have hnone : Tbl.get (clrInst s o.index n).dict.regs (o.key n) = none := by
    simp only [clrInst]
    exact Tbl.get_filterK_none _ _ (by simp [hkey])
  simp only [rd, hnone, Option.getD_none]

/-! ## Sessions -/

/-- A message that goes out changes no register and no session. -/
theorem sendMctpFrom_dict (eid seq : Nat) (first : Bool) (b : Bytes) (n : Nat) (s : State) : (sendMctpFrom eid seq first b n s).dict = s.dict := by
  induction n generalizing seq first b s with
  | zero => rfl
  | succ n ih =>
    simp only [sendMctpFrom]
    split
    · rfl
    · rw [ih]
      rfl

@[simp] theorem sendSpdm_dict (s : State) (udp : Bool) (peer : Nat) (sess : Option Nat) (code p1 : Nat) (b : Bytes) : (sendSpdm s udp peer sess code p1 b).dict = s.dict := by
  simp only [sendSpdm]
  split
  · rfl
  · exact sendMctpFrom_dict ..

@[simp] theorem sendSpdm_mgmt (s : State) (udp : Bool) (peer : Nat) (sess : Option Nat) (code p1 : Nat) (b : Bytes) : (sendSpdm s udp peer sess code p1 b).mgmt = s.mgmt :=
  (sendSpdm_keeps (Mask.le_self _) (Keeps.refl s)).parts .mgmt (by decide)

@[simp] theorem spdmFree_dict (s : State) (udp : Bool) (peer : Nat) (sess : Option Nat) (code p1 : Nat) : (spdmFree s udp peer sess code p1).dict = s.dict := by
  simp only [spdmFree, sendSpdm_dict]
  rfl

@[simp] theorem spdmFree_mgmt (s : State) (udp : Bool) (peer : Nat) (sess : Option Nat) (code p1 : Nat) : (spdmFree s udp peer sess code p1).mgmt = s.mgmt := by
  simp only [spdmFree, sendSpdm_mgmt]
  rfl

/-- A session that opens is open, shows it and begins at sequence 0. -/
theorem openSession_facts (n priv : Nat) (s : State) : sessionOpen (openSession n priv s) n = true ∧ rdB (openSession n priv s) Obj.SESSION_OPEN n = true ∧ rdN (openSession n priv s) Obj.NEXT_REQ_SEQ n = 0 := by
  have hregs (o : ObjDesc) : rd (openSession n priv s) o n = rd (wr (wr (wr (wrB s Obj.SESSION_OPEN n true) Obj.SESSION_PRIVILEGE n priv) Obj.NEXT_REQ_SEQ n 0) Obj.LAST_RSP_SEQ n 0) o n := rfl
  refine ⟨?_, ?_, ?_⟩
  · simp only [sessionOpen, sessOf, openSession, Tbl.get_set_same, Option.isSome_some]
  · rw [rdB, hregs, rd_wr_code (by decide), rd_wr_code (by decide), rd_wr_code (by decide), ← rdB, rdB_wrB_same]
  · rw [rdN, hregs, rd_wr_code (by decide), rd_wr_same, Int.toNat_zero]

/-- A session that ends is not open and does not show it. -/
theorem endSession_facts {s : State} {n : Nat} : sessionOpen (endSession s n) n = false ∧ rdB (endSession s n) Obj.SESSION_OPEN n = false := by
  have hdflt : dfltAt Obj.SESSION_OPEN n = 0 := by simp [dfltAt, Obj.SESSION_OPEN]
  have hopen (t : State) : rd (clrInst t 0x1110 n) Obj.SESSION_OPEN n = 0 := (rd_clrInst_same t Obj.SESSION_OPEN n (by decide)).trans hdflt
  have hout (t : State) : rd (clrInst t 0x4030 n) Obj.SESSION_OPEN n = rd t Obj.SESSION_OPEN n := rd_clrInst (by decide) (by decide) (by decide) (by decide)
  refine ⟨?_, ?_⟩
  · have hsess : (endSession s n).dict.sessions = Tbl.erase s.dict.sessions n := by
      unfold endSession
      split <;> rfl
    simp only [sessionOpen, sessOf, hsess, Tbl.get_erase_same, Option.isSome_none]
  · unfold endSession rdB
    split
    · rw [hopen]
      rfl
    · rw [rd_wrB_code (by decide), rd_clr_code (by decide), rd_clr_code (by decide), hout]
      exact congrArg (· != 0) (hopen _)

/-- A session that is closed is neither open nor in a handshake, and its peer is forgotten. -/
theorem closeSpdm_facts (s : State) (n : Nat) : sessionOpen (closeSpdm s n) n = false ∧ (closeSpdm s n).mgmt.shaking.contains n = false ∧ rdB (closeSpdm s n) Obj.SESSION_OPEN n = false ∧ Tbl.get (closeSpdm s n).mgmt.peer n = none := by
  obtain ⟨hopen, hreg⟩ := endSession_facts (s := s) (n := n)
  refine ⟨hopen, ?_, hreg, Tbl.get_erase_same _ _⟩
  simp [closeSpdm, forgetShake, modMgmt]

/-- Settles O45: the branch of each request that the hypotheses name. -/
theorem spdmSessions : Obligations.SpdmSessions := by
  refine ⟨fun s udp peer n hup ha hn => ?_, fun s udp ok peer hup hbad => ?_, fun s udp peer hup ha hn => ?_, fun s n hn hsh hup => ?_, fun s n hsh hup => ?_, fun s n h2 h14 ho hup => ?_,
    fun s n h2 h14 ht => ?_, fun s udp peer i hup h1 h4 => ?_, fun s udp peer i hup h5 h255 => ?_, fun s udp peer code hup hc h1 h3 => ?_, fun s udp peer hup => ?_, fun s udp peer code hup hc ho => ?_⟩
  · refine ⟨spdmFree (modMgmt s (fun x => { x with shaking := addOnce x.shaking n, peer := Tbl.set x.peer n peer })) udp peer none 0x64 (rdN s Obj.SPDM_HEARTBEAT 0), by simp [exec, execKeyExchange, hup, ha, hn], ?_, ?_, ?_⟩
    · rw [spdmFree_mgmt]
      simp [modMgmt, mem_addOnce]
    · rw [spdmFree_mgmt]
      exact Tbl.get_set_same _ _ _
    · rw [spdmFree_dict]
      rfl
  · rcases hbad with ha | hok
    · simp [exec, execKeyExchange, hup, ha]
    · simp [exec, execKeyExchange, hup, hok]
  · simp [exec, execKeyExchange, hup, ha, hn]
  · obtain ⟨hopen, hreg, hseq⟩ := openSession_facts n 2 (modMgmt s (fun x => { x with shaking := x.shaking.filter (fun y => y != n) }))
    generalize ht : openSession n 2 (modMgmt s (fun x => { x with shaking := x.shaking.filter (fun y => y != n) })) = t at hopen hreg hseq
    have hshaking : t.mgmt.shaking = s.mgmt.shaking.filter (fun y => y != n) := by rw [← ht]; rfl
    have hdict := spdmFree_dict t (decide (n ≥ 6)) (Tbl.getD s.mgmt.peer n 0) (some n) 0x65 0
    refine ⟨spdmFree t (decide (n ≥ 6)) (Tbl.getD s.mgmt.peer n 0) (some n) 0x65 0, ?_, ?_, ?_, ?_, ?_⟩
    · have hin : n ∈ s.mgmt.shaking := by simpa using hsh
      simp only [exec, execFinish, hsh, hup, ht, Bool.not_true, Bool.false_eq_true, or_self, if_false]
    · rw [spdmFree_mgmt, hshaking]
      simp
    · simpa only [sessionOpen, sessOf, hdict] using hopen
    · simpa only [rdB, rd, hdict] using hreg
    · simpa only [rdN, rd, hdict] using hseq
  · simp only [exec, execFinish, hsh, hup, Bool.not_true, Bool.not_false, Bool.false_eq_true, or_self, if_false, if_true]
  · obtain ⟨hopen, -, hreg, hpeer⟩ := closeSpdm_facts (sendSpdm s (decide (n ≥ 6)) (Tbl.getD s.mgmt.peer n 0) (some n) 0x6C 0 []) n
    exact ⟨_, by simp only [exec, execEndSession, h2, h14, ho, hup, and_self, if_true], hopen, hreg, hpeer⟩
  · obtain ⟨hopen, hshaking, hreg, hpeer⟩ := closeSpdm_facts s n
    exact ⟨closeSpdm s n, by simp [exec, execSessionHeartbeatTimeout, h2, h14, ht], by simp only [sessionTaken, hopen, hshaking, Bool.or_false], hreg, hpeer⟩
  · have h0 : i ≠ 0 := by omega
    have h255 : i ≠ 255 := by omega
    have h5 : ¬5 ≤ i := by omega
    simp [exec, execGetMeasurements, measurements, hup, h0, h255, h5]
  · have h0 : i ≠ 0 := by omega
    have hne : i ≠ 255 := by omega
    simp [exec, execGetMeasurements, measurements, hup, h0, hne, h5]
  · have hown : spdmOwn.contains code = false := by
      simp only [spdmCodes, spdmOwn, List.contains_eq_mem, decide_eq_true_eq, decide_eq_false_iff_not, List.mem_cons, List.not_mem_nil, or_false] at hc ⊢
      omega
    simp only [exec, execSpdmMessage, spdmOther, hup, hown, h1, h3, hc, Bool.not_true, Bool.false_eq_true, or_self, if_false, Bool.true_or, if_true]
  · simp [exec, execSpdmMessage, spdmOther, hup, spdmOwn]
  · have hnot : code ≠ 0xE1 ∧ code ≠ 0xE3 := by
      simp only [spdmCodes, List.contains_eq_mem, decide_eq_false_iff_not, List.mem_cons, List.not_mem_nil, or_false] at hc
      omega
    obtain ⟨h1, h3⟩ := hnot
    simp only [exec, execSpdmMessage, spdmOther, hup, ho, h1, h3, hc, Bool.not_true, Bool.false_eq_true, or_self, if_false, Option.isSome_none, Bool.and_false, Bool.or_self]

end Sys2Proof.Machine

end

section
/-! PROOFS. SANITIZE and FORMAT (R325 to R328). -/

namespace Sys2Proof.Machine

open Sys2Proof

/-! ## The operation of a volume -/

/-- The operation that a command starts is in its first step and waited for by that command. -/
theorem opOf_startOp (s : State) (v p kind q tag : Nat) :
    opOf (startOp s v p kind q tag) v = some { kind := kind, pool := p, state := Op.phase1, boundary := 0, total := 0, waiters := [(q, tag)], started := s.power.dumps, wseq := 0, ckpt := noCkpt, step := 1 } := by
  simp only [opOf, startOp, modVol, Tbl.get_set_same]

/-- A command with no query, on a volume where nothing runs, starts an operation of its kind. -/
theorem volCommand_starts {s : State} {q kind : Nat} {c : Cmd} (hb : bitAt c.flags 0 = false) (he : epochState s = Es.idle) (ho : opRuns s c.volume = none) :
    ∃ o, opOf (volCommand s q c kind) c.volume = some o ∧ o.kind = kind ∧ o.state = Op.phase1 ∧ o.waiters = [(q, c.tag)] := by
  have hstart : volCommand s q c kind = startOp (modCmd s q c.tag (fun x => { x with phase := .running })) c.volume (cmdPool s c) kind q c.tag := by
    simp only [volCommand, hb, he, ho, Bool.false_eq_true, if_false, ne_eq, not_true_eq_false]
  rw [hstart]
  exact ⟨_, opOf_startOp .., rfl, rfl, rfl⟩

/-- A query completes with the operation's word. -/
theorem volCommand_query {s : State} {q kind : Nat} {c : Cmd} (hb : bitAt c.flags 0 = true) : volCommand s q c kind = finish s q c St.success (opWord s c.volume) := by
  simp [volCommand, hb]

theorem finish_vols (s : State) (q : Nat) (c : Cmd) (st r : Nat) : (finish s q c st r).vols = s.vols :=
  (finish_keeps (Mask.le_self _) (Keeps.refl s)).parts .vols (by decide)

/-- Settles O47: the branch of each step that the hypotheses name. -/
theorem sanitizeAndFormat : Obligations.SanitizeAndFormat := by
  refine ⟨fun s q tag c hc => ?_, fun s q tag c hc => ?_, fun s q tag c hc hb he ho => ?_, fun s q tag c hc hb he ho => ?_, fun s q tag c hc hb => ?_, fun s q tag c o hc hb he ho hk => ?_,
    fun s v o ho hst h1 hb hp he hw => ?_, fun s v o r ho hcp hr h2 => ?_, fun s v o r l n q tag ho hcp hr h3 => ?_, fun s v o r ho hcp hr h4 => ?_, fun s v o r ho hcp hr h9 => ?_, fun s v o ho hst hb => ?_,
    fun s v o ho hst h9 ha hb => ?_, fun s v o i ho hst h9 ha hb hi hh => ?_⟩
  · simp [exec, execSanitize, hc]
  · simp [exec, execFormat, hc]
  · obtain ⟨o, hop, hkind, hstate, hwait⟩ := volCommand_starts (q := q) (kind := 2) hb he ho
    exact ⟨volCommand s q c 2, o, by simp [exec, execSanitize, hc], hop, hkind, hstate, hwait⟩
  · obtain ⟨o, hop, hkind, hstate, hwait⟩ := volCommand_starts (q := q) (kind := 1) hb he ho
    exact ⟨volCommand s q c 1, o, by simp [exec, execFormat, hc], hop, hkind, hstate, hwait⟩
  · obtain ⟨e, he, htag, hst, hres⟩ := finish_cpl s q c St.success (opWord s c.volume)
    exact ⟨finish s q c St.success (opWord s c.volume), e, by simp [exec, execSanitize, hc, volCommand_query hb], he, htag, hst, hres, finish_vols ..⟩
  · obtain ⟨e, hmem, htag, hst, -⟩ := finish_cpl s q c St.volumeBusy 0
    exact ⟨finish s q c St.volumeBusy 0, e, by simp [exec, execFormat, hc, volCommand, hb, he, ho, hk], hmem, htag, hst, finish_vols ..⟩
  · simp [exec, execFormatPhase1Drained, ho, hst, h1, hb, hp, he, hw]
  · simp [opDurable, hcp, hr, ho, h2]
  · simp [opDurable, hcp, hr, ho, h3]
  · simp [opDurable, hcp, hr, ho, h4]
  · simp [opDurable, hcp, hr, ho, h9]
  · simp [exec, execFormatPhase1Drained, ho, hb]
  · have hexec : exec (.sanitizeCisternWaitEnd v) s = .next (logRec (modOp { s with power := { s.power with imgA := none, imgB := none } } v (fun y => { y with step := 9 })) o.pool (.progress o.kind v 9 0)) := by
      simp [exec, execSanitizeCisternWaitEnd, ho, hst, h9, ha, hb, erasedArea, oldArea]
    exact ⟨_, _, hexec, by rw [logRec_recs]; exact List.mem_append_right _ (List.mem_singleton.mpr rfl), rfl, rfl, rfl⟩
  · refine ⟨{ s with power := { s.power with imgA := some i, imgB := none } }, ?_, rfl, rfl⟩
    simp [exec, execSanitizeCisternWaitEnd, ho, hst, h9, ha, hb, erasedArea, oldArea, hh, hi]

end Sys2Proof.Machine

end

section
/-! PROOFS. The key window: staging, and the actions on a key slot (R464 to R471). -/

namespace Sys2Proof.Machine

open Sys2Proof

-- The kernel evaluates closed facts below (masks of frames, concrete states): one declaration after another keeps the memory this takes small.
set_option Elab.async false

/-! ## What each step of an action leaves -/

/-- Staged keys that were cleared are none. -/
theorem staged_clearStaging (s : State) (pf : Nat) : staged (clearStaging s pf) pf = none := by
  have hfirst : Tbl.get (clearStaging s pf).key.staging (128 * pf + 0) = none := by
    simp only [clearStaging]
    exact Tbl.get_filterK_none _ _ (by simp)
  have hmem : 0 ∈ List.range 96 := by decide
  unfold staged
  refine if_neg fun hall => ?_
  have := List.all_eq_true.mp hall _ (List.mem_map_of_mem (f := fun i => Tbl.get (clearStaging s pf).key.staging (128 * pf + i)) hmem)
  rw [hfirst] at this
  exact absurd this (by decide)

/-- An action reports its result and its slot and clears the staging; all else is as the action left it. -/
theorem keyAction_facts {s : State} {pf k : Nat} {f : State → Nat × State} (hl : rdN s Obj.TAMPER_LATCH 0 = 0) :
    rdN (keyAction s pf k f) Obj.KEY_LOAD_RESULT pf = (f s).1 ∧ rdN (keyAction s pf k f) Obj.KEY_LOAD_SLOT pf = k ∧ staged (keyAction s pf k f) pf = none ∧ (keyAction s pf k f).key.keys = (f s).2.key.keys := by
  have hdict : (keyAction s pf k f).dict = (wr (bump (wr (f s).2 Obj.KEY_LOAD_RESULT pf (f s).1) Obj.KEY_LOAD_COUNT pf 1) Obj.KEY_LOAD_SLOT pf k).dict := by simp [keyAction, hl, clearStaging]
  have hreg (o : ObjDesc) (i : Nat) : rdN (keyAction s pf k f) o i = rdN (wr (bump (wr (f s).2 Obj.KEY_LOAD_RESULT pf (f s).1) Obj.KEY_LOAD_COUNT pf 1) Obj.KEY_LOAD_SLOT pf k) o i := by
    simp only [rdN, rd, hdict]
  refine ⟨?_, ?_, ?_, ?_⟩
  · rw [hreg, rdN_wr_code (by decide), rdN_bump_code (by decide), rdN_wr_same]
  · rw [hreg, rdN_wr_same]
  · simp only [keyAction, hl, ne_eq, not_true_eq_false, if_false]
    exact staged_clearStaging _ _
  · simp only [keyAction, hl, ne_eq, not_true_eq_false, if_false]
    rfl

/-- The registers of a slot are as the action left them. -/
theorem rdN_keyAction {s : State} {pf k : Nat} {f : State → Nat × State} {o : ObjDesc} (hl : rdN s Obj.TAMPER_LATCH 0 = 0) (hr : o.code ≠ Obj.KEY_LOAD_RESULT.code) (hc : o.code ≠ Obj.KEY_LOAD_COUNT.code)
    (hs : o.code ≠ Obj.KEY_LOAD_SLOT.code) (i : Nat) : rdN (keyAction s pf k f) o i = rdN (f s).2 o i := by
  have hdict : (keyAction s pf k f).dict = (wr (bump (wr (f s).2 Obj.KEY_LOAD_RESULT pf (f s).1) Obj.KEY_LOAD_COUNT pf 1) Obj.KEY_LOAD_SLOT pf k).dict := by simp [keyAction, hl, clearStaging]
  have hreg : rdN (keyAction s pf k f) o i = rdN (wr (bump (wr (f s).2 Obj.KEY_LOAD_RESULT pf (f s).1) Obj.KEY_LOAD_COUNT pf 1) Obj.KEY_LOAD_SLOT pf k) o i := by
    simp only [rdN, rd, hdict]
  rw [hreg, rdN_wr_code hs, rdN_bump_code hc, rdN_wr_code hr]

theorem setKeyState_facts (s : State) (k st : Nat) : keyState (setKeyState s k st) k = st ∧ (setKeyState s k st).key = s.key := by
  have hstate : rdN (wr s Obj.KEY_STATE k st) Obj.KEY_STATE k = st := rdN_wr_same _ _ _ _
  unfold setKeyState
  split_ifs
  · exact ⟨(rdN_bump_code (by decide) 1).trans hstate, rfl⟩
  · exact ⟨(rdN_drop_code (by decide) 1).trans hstate, rfl⟩
  · exact ⟨hstate, rfl⟩

/-- Noting what the keys now allow leaves the keys themselves. -/
@[simp] theorem noteKeys_keys (s : State) : (noteKeys s).key.keys = s.key.keys := by
  have hpools (t : State) : (forRange 8 (fun p u => if poolCond u p Pc.locked ∧ !poolWithheld u p then setCond u p Pc.locked false else u) t).key = t.key := by
    refine forRange_invariant (P := fun u => u.key = t.key) (fun p u _ hu => ?_) rfl
    split
    · have hk : (setCond u p Pc.locked false).key = u.key := (setCond_keeps (Mask.le_self _) (Keeps.refl u)).parts .key (by decide)
      exact hk.trans hu
    · exact hu
  have hlocks (t : State) : (noteLocks t).key = t.key := (noteLocks_keeps (Mask.le_self _) (Keeps.refl t)).parts .key (by decide)
  have hsync (t : State) : (syncWrapped t).key.keys = t.key.keys := by
    unfold syncWrapped
    split <;> rfl
  simp only [noteKeys, hlocks, hsync]
  split
  · rw [wrB_key, hpools]
  · rw [hpools]

/-- What stays of a slot's registers when the keys are noted. -/
theorem keyState_noteKeys (s : State) (k : Nat) : keyState (noteKeys s) k = keyState s k :=
  (noteKeys_keeps (Mask.le_self _) (Keeps.refl s)).rdN (by decide +kernel) k

/-- Keys put into a slot are there, under their generation. -/
theorem putKeys_facts (s : State) (k which gen : Nat) (b : Bytes) : Tbl.get (putKeys s k which gen b).key.keys (2 * k + which) = some b ∧ keyState (putKeys s k which gen b) k = keyState s k := by
  refine ⟨?_, (putKeys_keeps (Mask.le_self _) (Keeps.refl s)).rdN (by decide +kernel) k⟩
  unfold putKeys
  split <;> exact Tbl.get_set_same _ _ _

theorem rdN_putKeys_current (s : State) (k gen : Nat) (b : Bytes) : rdN (putKeys s k 0 gen b) Obj.KEY_GEN_CURRENT k = gen := by
  simp only [putKeys, if_true]
  rw [rdN_wr_code (by decide), rdN_wr_code (by decide), rdN_wr_same]

theorem rdN_putKeys_previous (s : State) (k gen : Nat) (b : Bytes) : rdN (putKeys s k 1 gen b) Obj.KEY_GEN_PREVIOUS k = gen := by
  simp only [putKeys, Nat.one_ne_zero, if_false]
  rw [rdN_wr_code (by decide), rdN_wr_code (by decide), rdN_wr_same]

/-- A slot whose state is set and noted shows that state, with the keys and the generations it had. -/
theorem noteKeys_setKeyState (s : State) (k st : Nat) : keyState (noteKeys (setKeyState s k st)) k = st ∧ (noteKeys (setKeyState s k st)).key.keys = s.key.keys ∧
    (∀ i, rdN (noteKeys (setKeyState s k st)) Obj.KEY_GEN_CURRENT i = rdN s Obj.KEY_GEN_CURRENT i) ∧ (∀ i, rdN (noteKeys (setKeyState s k st)) Obj.KEY_GEN_PREVIOUS i = rdN s Obj.KEY_GEN_PREVIOUS i) ∧
    (∀ i, rdN (noteKeys (setKeyState s k st)) Obj.KEY_PRESENT i = rdN s Obj.KEY_PRESENT i) := by
  obtain ⟨hst, hkey⟩ := setKeyState_facts s k st
  have hset := setKeyState_keeps (k := k) (st := st) (Mask.le_self _) (Keeps.refl s)
  have hnote := noteKeys_keeps (Mask.le_self _) (Keeps.refl (setKeyState s k st))
  refine ⟨by rw [keyState_noteKeys, hst], by rw [noteKeys_keys, hkey], fun i => ?_, fun i => ?_, fun i => ?_⟩ <;> rw [hnote.rdN (by decide +kernel), hset.rdN (by decide +kernel)]

/-- The slots and the generations an action leaves are those of what it did. -/
theorem keyAction_slots {s : State} {pf k : Nat} {f : State → Nat × State} (hl : rdN s Obj.TAMPER_LATCH 0 = 0) (i : Nat) :
    keyState (keyAction s pf k f) i = keyState (f s).2 i ∧ rdN (keyAction s pf k f) Obj.KEY_GEN_CURRENT i = rdN (f s).2 Obj.KEY_GEN_CURRENT i ∧ rdN (keyAction s pf k f) Obj.KEY_GEN_PREVIOUS i = rdN (f s).2 Obj.KEY_GEN_PREVIOUS i :=
  ⟨rdN_keyAction hl (by decide) (by decide) (by decide) i, rdN_keyAction hl (by decide) (by decide) (by decide) i, rdN_keyAction hl (by decide) (by decide) (by decide) i⟩

/-! ## What each action does -/

/-- A confirmed action on whole and strong keys is carried out. -/
theorem withKeys_of_staged {s : State} {pf : Nat} {b : Bytes} {f : Bytes → Nat × State} (hs : staged s pf = some b) (hw : weakKey b = false) : withKeys s pf 0x9640 f = f b := by
  simp [withKeys, hs, hw]

/-- A slot whose current key has encrypted nothing and warned of nothing. -/
def freshUsage (t : State) (k : Nat) : State :=
  { wr t Obj.KEY_USAGE_CURRENT k 0 with key := { t.key with warned := t.key.warned.filter (fun x => x != k) } }

theorem freshUsage_keys (t : State) (k : Nat) : (freshUsage t k).key.keys = t.key.keys := rfl

theorem rdN_freshUsage {o : ObjDesc} (t : State) (k i : Nat) (h : o.code ≠ Obj.KEY_USAGE_CURRENT.code) : rdN (freshUsage t k) o i = rdN t o i :=
  rdN_wr_code h 0

/-- Loading a new key into an empty slot. -/
theorem loadKey_of_empty {s : State} {k : Nat} (b : Bytes) (h : keyState s k = Ks.empty) :
    (loadKey s k 1 b).1 = Kr.done ∧ keyState (loadKey s k 1 b).2 k = Ks.current ∧ rdN (loadKey s k 1 b).2 Obj.KEY_GEN_CURRENT k = 1 ∧ Tbl.get (loadKey s k 1 b).2.key.keys (2 * k) = some b := by
  obtain ⟨hkeys, -⟩ := putKeys_facts s k 0 1 b
  have hdo : loadKey s k 1 b = (Kr.done, noteKeys (setKeyState (freshUsage (putKeys s k 0 1 b) k) k Ks.current)) := by
    simp only [loadKey, h]
    rfl
  obtain ⟨hst, hkk, hg, -, -⟩ := noteKeys_setKeyState (freshUsage (putKeys s k 0 1 b) k) k Ks.current
  rw [hdo]
  exact ⟨rfl, hst, by rw [hg, rdN_freshUsage _ _ _ (by decide), rdN_putKeys_current], by rw [hkk, freshUsage_keys]; exact hkeys⟩

/-- Installing a current key into an empty slot. -/
theorem installCurrent_of_empty {s : State} {k g : Nat} (b : Bytes) (h : keyState s k = Ks.empty) (h1 : 1 ≤ g) (h255 : g ≤ 255) :
    (installCurrent s k g b).1 = Kr.done ∧ keyState (installCurrent s k g b).2 k = Ks.current ∧ rdN (installCurrent s k g b).2 Obj.KEY_GEN_CURRENT k = g ∧ Tbl.get (installCurrent s k g b).2.key.keys (2 * k) = some b := by
  obtain ⟨hkeys, -⟩ := putKeys_facts s k 0 g b
  have hdo : installCurrent s k g b = (Kr.done, noteKeys (setKeyState (wr (putKeys s k 0 g b) Obj.KEY_USAGE_CURRENT k 0) k Ks.current)) := by simp [installCurrent, h, h1, h255]
  obtain ⟨hst, hkk, hg, -, -⟩ := noteKeys_setKeyState (wr (putKeys s k 0 g b) Obj.KEY_USAGE_CURRENT k 0) k Ks.current
  rw [hdo]
  exact ⟨rfl, hst, by rw [hg, rdN_wr_code (by decide), rdN_putKeys_current], by rw [hkk, wr_key]; exact hkeys⟩

/-- Installing the previous key beside a current one. -/
theorem installPrevious_of_current {s : State} {k : Nat} (b : Bytes) (h : keyState s k = Ks.current) :
    (installPrevious s k (genPrev (rdN s Obj.KEY_GEN_CURRENT k)) b).1 = Kr.done ∧ keyState (installPrevious s k (genPrev (rdN s Obj.KEY_GEN_CURRENT k)) b).2 k = Ks.both ∧
    rdN (installPrevious s k (genPrev (rdN s Obj.KEY_GEN_CURRENT k)) b).2 Obj.KEY_GEN_PREVIOUS k = genPrev (rdN s Obj.KEY_GEN_CURRENT k) ∧
    Tbl.get (installPrevious s k (genPrev (rdN s Obj.KEY_GEN_CURRENT k)) b).2.key.keys (2 * k + 1) = some b := by
  generalize hgen : genPrev (rdN s Obj.KEY_GEN_CURRENT k) = g
  obtain ⟨hkeys, -⟩ := putKeys_facts s k 1 g b
  have hdo : installPrevious s k g b = (Kr.done, noteKeys (setKeyState (putKeys s k 1 g b) k Ks.both)) := by simp [installPrevious, h, hgen, Ks.current, Ks.both, Ks.empty]
  obtain ⟨hst, hkk, -, hg, -⟩ := noteKeys_setKeyState (putKeys s k 1 g b) k Ks.both
  rw [hdo]
  exact ⟨rfl, hst, by rw [hg, rdN_putKeys_previous], by rw [hkk]; exact hkeys⟩

/-- A slot without its previous key. -/
theorem dropPrevious_facts (s : State) (k : Nat) : rdN (dropPrevious s k) Obj.KEY_GEN_PREVIOUS k = 0 ∧ (dropPrevious s k).key.keys = Tbl.erase s.key.keys (2 * k + 1) := by
  have hdflt : dfltAt Obj.KEY_GEN_PREVIOUS k = 0 := by simp [dfltAt, Obj.KEY_GEN_PREVIOUS]
  refine ⟨?_, rfl⟩
  simp only [dropPrevious, clrAll, List.foldl_cons, List.foldl_nil]
  rw [rdN_wr_code (by decide), rdN_clr_code (by decide), rdN_clr_code (by decide), clr, rdN_wr_self, hdflt, Int.toNat_zero]

/-- Retiring a previous key that no sector uses. -/
theorem retireKey_of_unused {s : State} {k : Nat} (h : keyState s k = Ks.both) (hu : prevSectors s k = 0) :
    (retireKey s 0x9640 (rdN s Obj.KEY_GEN_PREVIOUS k) k).1 = Kr.done ∧ keyState (retireKey s 0x9640 (rdN s Obj.KEY_GEN_PREVIOUS k) k).2 k = Ks.current ∧
    rdN (retireKey s 0x9640 (rdN s Obj.KEY_GEN_PREVIOUS k) k).2 Obj.KEY_GEN_PREVIOUS k = 0 ∧ Tbl.get (retireKey s 0x9640 (rdN s Obj.KEY_GEN_PREVIOUS k) k).2.key.keys (2 * k + 1) = none := by
  obtain ⟨hgen, hkeys⟩ := dropPrevious_facts s k
  have hdo : retireKey s 0x9640 (rdN s Obj.KEY_GEN_PREVIOUS k) k = (Kr.done, noteKeys (setKeyState (dropPrevious s k) k Ks.current)) := by simp [retireKey, h, hu]
  obtain ⟨hst, hkk, -, hg, -⟩ := noteKeys_setKeyState (dropPrevious s k) k Ks.current
  rw [hdo]
  exact ⟨rfl, hst, by rw [hg, hgen], by rw [hkk, hkeys]; exact Tbl.get_erase_same _ _⟩

/-- A slot without its keys and what was known of them. -/
def emptiedSlot (s : State) (k : Nat) : State :=
  clrAll { dropPrevious s k with key := { (dropPrevious s k).key with keys := Tbl.erase (dropPrevious s k).key.keys (2 * k), warned := (dropPrevious s k).key.warned.filter (fun x => x != k) } }
    [Obj.KEY_GEN_CURRENT, Obj.KEY_KCV_XTS_CURRENT, Obj.KEY_KCV_GMAC_CURRENT, Obj.KEY_PRESENT, Obj.KEY_USAGE_CURRENT] k

theorem emptiedSlot_facts (s : State) (k : Nat) :
    rdN (emptiedSlot s k) Obj.KEY_GEN_CURRENT k = 0 ∧ rdN (emptiedSlot s k) Obj.KEY_PRESENT k = 0 ∧ Tbl.get (emptiedSlot s k).key.keys (2 * k) = none ∧ Tbl.get (emptiedSlot s k).key.keys (2 * k + 1) = none := by
  have hgen : dfltAt Obj.KEY_GEN_CURRENT k = 0 := by simp [dfltAt, Obj.KEY_GEN_CURRENT]
  have hpresent : dfltAt Obj.KEY_PRESENT k = 0 := by simp [dfltAt, Obj.KEY_PRESENT]
  have hkeys : (emptiedSlot s k).key.keys = Tbl.erase (Tbl.erase s.key.keys (2 * k + 1)) (2 * k) := rfl
  refine ⟨?_, ?_, by rw [hkeys, Tbl.get_erase_same], by rw [hkeys, Tbl.get_erase_other _ (by omega), Tbl.get_erase_same]⟩
  · simp only [emptiedSlot, clrAll, List.foldl_cons, List.foldl_nil]
    rw [rdN_clr_code (by decide), rdN_clr_code (by decide), rdN_clr_code (by decide), rdN_clr_code (by decide), clr, rdN_wr_self, hgen, Int.toNat_zero]
  · simp only [emptiedSlot, clrAll, List.foldl_cons, List.foldl_nil]
    rw [rdN_clr_code (by decide), clr, rdN_wr_self, hpresent, Int.toNat_zero]

/-- Destroying empties the slot and purges what it encrypted. -/
theorem destroyKey_of_held {s : State} {k : Nat} (h : keyState s k ≠ Ks.empty) :
    destroyKey s 0x9640 (rdN s Obj.KEY_GEN_CURRENT k) k = (Kr.done, purgeSlot (noteKeys (setKeyState (emptiedSlot s k) k Ks.empty)) k) := by
  simp only [destroyKey, h, ne_eq, not_true_eq_false, if_false]
  rfl

/-! ## Staging -/

/-- Values laid down one after another stand each at its place. -/
theorem Tbl.get_foldl_set {α : Type} (t : Tbl α) (base n : Nat) (f : Nat → α) {i : Nat} (h : i < n) :
    Tbl.get ((List.range n).foldl (fun u j => Tbl.set u (base + j) (f j)) t) (base + i) = some (f i) := by
  induction n with
  | zero => omega
  | succ n ih =>
    rw [List.range_succ, List.foldl_append, List.foldl_cons, List.foldl_nil]
    by_cases hin : i = n
    · rw [hin, Tbl.get_set_same]
    · rw [Tbl.get_set_other _ _ (by omega), ih (by omega)]

/-- Settles O48: an action reports its result through the window and clears the staging, and what it does to its slot
is what the lemma of that action says; with the tamper latch set the window drops it. -/
theorem keyWindowActions : Obligations.KeyWindowActions := by
  unfold Obligations.KeyWindowActions
  refine ⟨fun s pf c g k hp hk hl => ?_, fun s pf c g k hp hk hl => ?_, fun s pf c g k hp hk hl => ?_, fun s pf c g k hp hk hl => ?_, fun s pf k b hp hk hl hs hw he => ?_, fun s pf g k b hp hk hl hs hw he h1 h255 => ?_,
    fun s pf k b hp hk hl hs hw hc => ?_, fun s pf k b hp hk hl hs hw hb g => ?_, fun s pf k hp hk hl hb hu => ?_, fun s pf k hp hk hl hb hu => ?_, fun s pf k hp hk hl he => ?_, fun s pf hp hl => ?_,
    fun s pf off b hp hl ho hb4 hb h96 => ?_, fun s pf off b hp hbad => ?_⟩
  case refine_1 | refine_2 | refine_3 =>
    obtain ⟨hres, hslot, hst, -⟩ := keyAction_facts (k := k) (pf := pf) hl
    exact ⟨_, congrArg Host.Outcome.next (if_pos ⟨hp, hk⟩), hres, hslot, hst⟩
  case refine_4 =>
    simp [exec, execLoad, execInstallCurrent, execInstallPrevious, execRetire, execDestroy, execClearStaging, hp, hk, keyAction, hl]
  case refine_5 =>
    obtain ⟨hres, -, -, hkeys⟩ := keyAction_facts (k := k) (pf := pf) (f := fun t => withKeys t pf 0x9640 (fun b => loadKey t k 1 b)) hl
    obtain ⟨hstate, hgen, -⟩ := keyAction_slots (k := k) (pf := pf) (f := fun t => withKeys t pf 0x9640 (fun b => loadKey t k 1 b)) hl k
    obtain ⟨hd, hst, hg, hkey⟩ := loadKey_of_empty b he
    rw [withKeys_of_staged hs hw] at hres hkeys hstate hgen
    exact ⟨_, congrArg Host.Outcome.next (if_pos ⟨hp, hk⟩), hres.trans hd, hstate.trans hst, hgen.trans hg, by rw [hkeys, hkey]⟩
  case refine_6 =>
    obtain ⟨hres, -, -, hkeys⟩ := keyAction_facts (k := k) (pf := pf) (f := fun t => withKeys t pf 0x9640 (fun b => installCurrent t k g b)) hl
    obtain ⟨hstate, hgen, -⟩ := keyAction_slots (k := k) (pf := pf) (f := fun t => withKeys t pf 0x9640 (fun b => installCurrent t k g b)) hl k
    obtain ⟨hd, hst, hg, hkey⟩ := installCurrent_of_empty b he h1 h255
    rw [withKeys_of_staged hs hw] at hres hkeys hstate hgen
    exact ⟨_, congrArg Host.Outcome.next (if_pos ⟨hp, hk⟩), hres.trans hd, hstate.trans hst, hgen.trans hg, by rw [hkeys, hkey]⟩
  case refine_7 =>
    obtain ⟨hres, -, -, hkeys⟩ := keyAction_facts (k := k) (pf := pf) (f := fun t => withKeys t pf 0x9640 (fun b => installPrevious t k (genPrev (rdN s Obj.KEY_GEN_CURRENT k)) b)) hl
    obtain ⟨hstate, -, hgen⟩ := keyAction_slots (k := k) (pf := pf) (f := fun t => withKeys t pf 0x9640 (fun b => installPrevious t k (genPrev (rdN s Obj.KEY_GEN_CURRENT k)) b)) hl k
    obtain ⟨hd, hst, hg, hkey⟩ := installPrevious_of_current b hc
    rw [withKeys_of_staged hs hw] at hres hkeys hstate hgen
    exact ⟨_, congrArg Host.Outcome.next (if_pos ⟨hp, hk⟩), hres.trans hd, hstate.trans hst, hgen.trans hg, by rw [hkeys, hkey]⟩
  case refine_8 =>
    obtain ⟨hres, -, -, hkeys⟩ := keyAction_facts (k := k) (pf := pf) (f := fun t => withKeys t pf 0x9640 (fun b => loadKey t k g b)) hl
    obtain ⟨hstate, -, -⟩ := keyAction_slots (k := k) (pf := pf) (f := fun t => withKeys t pf 0x9640 (fun b => loadKey t k g b)) hl k
    have hheld : loadKey s k g b = (Kr.previousHeld, s) := by simp [loadKey, hb]
    rw [withKeys_of_staged hs hw, hheld] at hres hkeys hstate
    exact ⟨_, congrArg Host.Outcome.next (if_pos ⟨hp, hk⟩), hres, hstate.trans hb, hkeys⟩
  case refine_9 =>
    obtain ⟨hres, -, -, hkeys⟩ := keyAction_facts (k := k) (pf := pf) (f := fun t => retireKey t 0x9640 (rdN s Obj.KEY_GEN_PREVIOUS k) k) hl
    obtain ⟨hstate, -, hgen⟩ := keyAction_slots (k := k) (pf := pf) (f := fun t => retireKey t 0x9640 (rdN s Obj.KEY_GEN_PREVIOUS k) k) hl k
    obtain ⟨hd, hst, hg, hkey⟩ := retireKey_of_unused hb hu
    exact ⟨_, congrArg Host.Outcome.next (if_pos ⟨hp, hk⟩), hres.trans hd, hstate.trans hst, hgen.trans hg, by rw [hkeys, hkey]⟩
  case refine_10 =>
    obtain ⟨hres, -, -, hkeys⟩ := keyAction_facts (k := k) (pf := pf) (f := fun t => retireKey t 0x9640 (rdN s Obj.KEY_GEN_PREVIOUS k) k) hl
    obtain ⟨hstate, -, -⟩ := keyAction_slots (k := k) (pf := pf) (f := fun t => retireKey t 0x9640 (rdN s Obj.KEY_GEN_PREVIOUS k) k) hl k
    have hused : retireKey s 0x9640 (rdN s Obj.KEY_GEN_PREVIOUS k) k = (Kr.previousInUse, s) := by simp [retireKey, hb, hu]
    simp only [hused] at hres hkeys hstate
    exact ⟨_, congrArg Host.Outcome.next (if_pos ⟨hp, hk⟩), hres, hstate.trans hb, hkeys⟩
  case refine_11 =>
    obtain ⟨hst, hkk, hg, -, hpr⟩ := noteKeys_setKeyState (emptiedSlot s k) k Ks.empty
    obtain ⟨hgen, hpresent, hcur, hprev⟩ := emptiedSlot_facts s k
    refine ⟨noteKeys (setKeyState (emptiedSlot s k) k Ks.empty), congrArg Host.Outcome.next ((if_pos ⟨hp, hk⟩).trans ?_), hst, by rw [hg, hgen], by rw [hpr, hpresent], by rw [hkk, hcur], by rw [hkk, hprev]⟩
    simp only [keyAction, destroyKey_of_held he]
  case refine_12 =>
    obtain ⟨hres, -, hst, hkeys⟩ := keyAction_facts (k := 0) (pf := pf) (f := fun t => (if 0x9640 = 0x9640 then Kr.done else Kr.badConfirm, t)) hl
    exact ⟨_, congrArg Host.Outcome.next (if_pos hp), hres, hst, hkeys⟩
  case refine_13 =>
    refine ⟨_, congrArg Host.Outcome.next ((if_pos hp).trans (if_neg ?_)), fun i hi => Tbl.get_foldl_set _ _ _ _ hi, rfl, rfl⟩
    simp [hl, ho, hb4, hb, h96]
  case refine_14 =>
    refine ⟨_, congrArg Host.Outcome.next ((if_pos hp).trans (if_pos ?_)), bump_key _ _ _ _, rdN_bump_same _ _ _ _⟩
    tauto

end Sys2Proof.Machine

end

section
/-! PROOFS. Persistence of the keys, the tamper latch, and the cipher pipelines (R472 to R480). -/

namespace Sys2Proof.Machine

open Sys2Proof

-- The kernel evaluates closed facts below (masks of frames, concrete states): one declaration after another keeps the memory this takes small.
set_option Elab.async false

/-! ## Tamper -/

theorem zeroizeAll_key (s : State) : (zeroizeAll s).key.keys = [] ∧ (zeroizeAll s).key.staging = [] ∧ (zeroizeAll s).key.salt = false := by
  have hkey : (zeroizeAll s).key = { s.key with keys := [], staging := [], salt := false } := by
    refine forRange_invariant (P := fun u => u.key = _) (fun k u _ hu => ?_) rfl
    split_ifs
    · rw [wr_key, (setKeyState_facts u k _).2, hu]
    · rw [wr_key, hu]
    · exact hu
  simp [hkey]

/-- What a tamper does once the keys are gone: it locks the pools and says so. -/
def tamperLocks (ph : Nat) (e : State) : State :=
  let f := if ph = Tp.startUp then wrB e Obj.LOCKED_BOOT 0 true else e
  let g := lockPools f
  raiseOpen (if ph = Tp.auxOnly then drive g .wake false else g) (ev 0x0B 461) .alarm Src.device 0

theorem tamperLocks_facts (ph : Nat) (e : State) :
    rdN (tamperLocks ph e) Obj.TAMPER_LATCH 0 = rdN e Obj.TAMPER_LATCH 0 ∧ rdB (tamperLocks ph e) Obj.DEVICE_LOCKED 0 = rdB e Obj.DEVICE_LOCKED 0 ∧ (tamperLocks ph e).key = e.key := by
  have hlock (f : State) : Keeps _ f (lockPools f) := lockPools_keeps (Mask.le_self _) (Keeps.refl f)
  have hkey (f : State) : (lockPools f).key = f.key := (hlock f).parts .key (by decide)
  have hpin (g : State) (o : ObjDesc) (i : Nat) : rdN (if ph = Tp.auxOnly then drive g .wake false else g) o i = rdN g o i := by split <;> rfl
  have hpinB (g : State) (o : ObjDesc) (i : Nat) : rdB (if ph = Tp.auxOnly then drive g .wake false else g) o i = rdB g o i := by split <;> rfl
  unfold tamperLocks
  refine ⟨?_, ?_, ?_⟩
  · rw [rdN_raiseOpen (by decide) (by decide) (by decide), hpin, (hlock _).rdN (by decide +kernel)]
    split
    · exact rdN_wrB_code (by decide) _
    · rfl
  · rw [rdB_raiseOpen (by decide) (by decide) (by decide), hpinB, (hlock _).rdB (by decide +kernel)]
    split
    · exact rdB_wrB_code (by decide) _
    · rfl
  · split_ifs <;> simp [hkey]

/-- A tamper latches its bit, locks the device and zeroizes the keys. -/
theorem tamper_facts (s : State) (b : Nat) :
    bitAt (rdN (tamper s b) Obj.TAMPER_LATCH 0) b = true ∧ rdB (tamper s b) Obj.DEVICE_LOCKED 0 = true ∧ (tamper s b).key.keys = [] ∧ (tamper s b).key.staging = [] ∧ (tamper s b).key.salt = false := by
  obtain ⟨d, hd, hlatch⟩ : ∃ d, tamper s b = tamperLocks (tamperPhase s) (wrB (zeroizeAll d) Obj.DEVICE_LOCKED 0 true) ∧ bitAt (rdN d Obj.TAMPER_LATCH 0) b = true := by
    refine ⟨_, rfl, ?_⟩
    refine forRange_invariant (P := fun u => bitAt (rdN u Obj.TAMPER_LATCH 0) b = true) (fun pf u _ hu => ?_) ?_
    · split
      · rw [rdN_wr_code (by decide)]
        exact hu
      · exact hu
    · rw [rdN_wr_code (by decide), rdN_bump_code (by decide), rdN_wr_code (by decide), rdN_wr_same]
      exact bitAt_withBit_same _ _ _
  obtain ⟨hlt, hdl, hkey⟩ := tamperLocks_facts (tamperPhase s) (wrB (zeroizeAll d) Obj.DEVICE_LOCKED 0 true)
  obtain ⟨hk, hst, hsalt⟩ := zeroizeAll_key d
  rw [hd, hlt, hdl, hkey, wrB_key, rdN_wrB_code (by decide), (zeroizeAll_keeps (Mask.le_self _) (Keeps.refl d)).rdN (by decide +kernel)]
  exact ⟨hlatch, rdB_wrB_same _ _ _ _, hk, hst, hsalt⟩

/-! ## Pipelines -/

/-- A pipeline that is not quarantined serves itself. -/
theorem servedBy_of_pipeOk {s : State} {q : Nat} (h : pipeOk s q = true) : servedBy s q = q := by
  simp [servedBy, h]

theorem rdN_notePipes (s : State) {q : Nat} (hq : q < 4) : rdN (notePipes s) Obj.PIPE_SERVED_BY q = servedBy s q := by
  refine forRange_establishes (P := fun i t => rdN t Obj.PIPE_SERVED_BY i = servedBy s i) (fun i t _ => rdN_wr_same _ _ _ _) (fun i j t hi hj ht => ?_) s q hq
  rwa [rdN_wr_inst (by omega)]

/-- Settles O49: KEY_PERSIST sets or drops what is wrapped, each tamper is `tamper`, and a cleared pipeline serves itself again. -/
theorem tamperAndPipelines : Obligations.TamperAndPipelines := by
  unfold Obligations.TamperAndPipelines
  refine ⟨fun s => ?_, fun s hp => ?_, fun s he => ?_, fun s he => ?_, fun s => ?_, fun s => ?_, fun s v q h => ?_, fun s q hq hst => ?_, fun s q => ?_⟩
  case refine_1 => exact ⟨_, rfl, rdN_wr_self _ _ _ _, rfl, rfl, rfl⟩
  case refine_2 =>
    have hset : setPersist s 1 = { wr s Obj.KEY_PERSIST 0 1 with key := { s.key with salt := true, wrapped := s.key.keys } } := by simp [setPersist, hp]
    exact ⟨_, congrArg Host.Outcome.next hset, rdN_wr_self _ _ _ _, rfl, rfl⟩
  case refine_3 =>
    refine ⟨_, congrArg Host.Outcome.next (if_neg (by simp [he])), ?_, rdN_wr_code (by decide) _, rfl⟩
    rw [rdN_wr_same]
    exact bitAt_withBit_same _ _ _
  case refine_4 => exact ⟨_, congrArg Host.Outcome.next (if_pos he), tamper_facts _ 0⟩
  case refine_5 => exact ⟨_, rfl, tamper_facts _ 1⟩
  case refine_6 =>
    refine ⟨_, rfl, ?_, ?_, rfl⟩
    · exact (rdN_wr_code (by decide) _).trans (rdN_wr_self _ _ _ _)
    · exact rdN_wr_self _ _ _ _
  case refine_7 =>
    simp only [exec, execTamperClear, tamperClear]
    split_ifs with h1 h2
    · rfl
    · rfl
    · simp_all
  case refine_8 =>
    have hok : pipeOk (wr (wr s Obj.PIPE_STATE q 0) Obj.PIPE_FAULTS q 0) q = true := by
      rw [pipeOk, rdN_wr_code (by decide), rdN_wr_self]
      rfl
    generalize hw : wr (wr s Obj.PIPE_STATE q 0) Obj.PIPE_FAULTS q 0 = w at hok
    have hlocks := noteLocks_keeps (Mask.le_self _) (Keeps.refl (notePipes w))
    have hpipes := notePipes_keeps (Mask.le_self _) (Keeps.refl w)
    refine ⟨noteLocks (notePipes w), by simp [exec, execPipeClear, hq, hst, hw], ?_, ?_, ?_⟩
    · rw [hlocks.rdN (by decide +kernel), hpipes.rdN (by decide +kernel), ← hw, rdN_wr_code (by decide), rdN_wr_self, Int.toNat_zero]
    · rw [hlocks.rdN (by decide +kernel), hpipes.rdN (by decide +kernel), ← hw, rdN_wr_self, Int.toNat_zero]
    · rw [hlocks.rdN (by decide +kernel), rdN_notePipes _ hq, servedBy_of_pipeOk hok]
  case refine_9 => simp [exec, execPipeClear]

end Sys2Proof.Machine

end

section
/-! PROOFS. Starting each operation of the cache maintenance engine (R483 to R493). -/

namespace Sys2Proof.Machine

open Sys2Proof

-- The kernel evaluates closed facts below (masks of frames, concrete states): one declaration after another keeps the memory this takes small.
set_option Elab.async false

/-! ## The engine's start -/

/-- An operation that starts is noted, and shown as running with no progress. -/
theorem startMaint_facts (s : State) (m : Maint) :
    (startMaint s m).cache.maint = some { m with paused := epochState s != Es.idle } ∧ rdB (startMaint s m) Obj.CACHE_MAINT_BUSY 0 = true ∧ rdN (startMaint s m) Obj.CACHE_MAINT_RUNNING 0 = m.op ∧
    rdN (startMaint s m) Obj.CACHE_MAINT_PROGRESS 0 = 0 ∧ (startMaint s m).cache.frames = s.cache.frames := by
  refine ⟨rfl, ?_, ?_, ?_, rfl⟩ <;> unfold startMaint
  · rw [rdB_wr_code (by decide), rdB_wr_code (by decide), rdB_wrB_same]
  · rw [rdN_wr_code (by decide), rdN_wr_same]
  · rw [rdN_wr_self, Int.toNat_zero]

/-- The operation that the engine's own register asks for, as it starts. -/
theorem maintOp_starts {s : State} {op : Nat} (hm : s.cache.maint = none) (hv : (op = Mo.invalidateRange ∨ op = Mo.invalidateVolume) → volumeThere s (rdN s Obj.CACHE_MAINT_VOLUME 0) = true) :
    (maintOp s op).2 = startMaint s { Maint.ofOp op (if op = Mo.cleanLines then 16384 else 512) with vol := rdN s Obj.CACHE_MAINT_VOLUME 0, slba := rdN s Obj.CACHE_MAINT_SLBA 0, nlb := rdN s Obj.CACHE_MAINT_NLB 0 } := by
  have hgo : ¬ ((op = Mo.invalidateRange ∨ op = Mo.invalidateVolume) ∧ (!volumeThere s (rdN s Obj.CACHE_MAINT_VOLUME 0)) = true) := fun ⟨ho, hno⟩ => by simp [hv ho] at hno
  simp only [maintOp, hm, Option.isSome_none, Bool.false_eq_true, if_false, hgo]

/-! ## Changing ways -/

theorem rdN_modMaint (s : State) (f : Maint → Maint) (o : ObjDesc) (i : Nat) : rdN (modMaint s f) o i = rdN s o i := rfl

theorem rdB_modMaint (s : State) (f : Maint → Maint) (o : ObjDesc) (i : Nat) : rdB (modMaint s f) o i = rdB s o i := rfl

/-- The parts that a change of ways may touch once its own registers are written. -/
def waysMask : Nat := 0x30080100030000000000000000000000000000000000000000000000000000000000160000000000017c000000000000000000000000000000000000000000000000000000000830120

theorem changeWays_keepsAfter (s : State) (f : State → State) : Keeps waysMask (f s) (changeWays s f).2 := by
  unfold changeWays
  refine noteFrames_keeps (by decide +kernel) (wr_keeps (by decide +kernel) (settleLines_keeps (by decide +kernel) (Keeps.forEach _ _ ?_ fun x v h => emptyWay_keeps (by decide +kernel) h)))
  exact (Keeps.refl _).forRange 4 _ fun sl u h => noteWays_keeps (by decide +kernel) h

/-- The operation that changes the ways goes on while they change. -/
theorem changeWays_maint (s : State) (f : State → State) : (changeWays s f).2.cache.maint = (f s).cache.maint := by
  have hways : (forRange 4 (fun sl u => noteWays u sl) (f s)).cache = (f s).cache := ((Keeps.refl (f s)).forRange 4 _ fun sl u h => noteWays_keeps (Mask.le_self _) h).parts .cache (by decide)
  have hempty (l : List Nat) (t : State) : (forEach l (fun x v => emptyWay v (x / 16) (x % 16)) t).cache.maint = t.cache.maint := by
    induction l generalizing t with
    | nil => rfl
    | cons x l ih => rw [forEach_cons, ih]; rfl
  have hend (t : State) (v : Int) : (noteFrames (wr (settleLines t) Obj.CACHE_FRAMES_TOTAL 0 v)).cache = t.cache := rfl
  simp only [changeWays]
  rw [hend, hempty, hways]

/-- A change of ways is an operation of the engine with its tests, after which the registers it set stand. -/
theorem wayChange_facts (s : State) (tests : List Nat) (f : State → State) (hf : ∀ t, (f t).cache = t.cache) :
    (∃ m, (wayChange s tests f).cache.maint = some m ∧ m.op = Mo.wayChange ∧ m.tests = tests) ∧
    (∀ (o : ObjDesc) (i : Nat), Mask.free waysMask o = true → rdN (wayChange s tests f) o i = rdN (f (startMaint s { Maint.ofOp Mo.wayChange 1 with tests := tests })) o i) ∧
    (∀ (o : ObjDesc) (i : Nat), Mask.free waysMask o = true → rdB (wayChange s tests f) o i = rdB (f (startMaint s { Maint.ofOp Mo.wayChange 1 with tests := tests })) o i) := by
  have hkeep := changeWays_keepsAfter (startMaint s { Maint.ofOp Mo.wayChange 1 with tests := tests }) f
  have hmaint (u : State) (g : Maint → Maint) (m : Maint) (h : u.cache.maint = some m) : (modMaint u g).cache.maint = some (g m) := by simp [modMaint, h]
  have hstart : (f (startMaint s { Maint.ofOp Mo.wayChange 1 with tests := tests })).cache.maint = some { Maint.ofOp Mo.wayChange 1 with tests := tests, paused := epochState s != Es.idle } := by
    rw [hf]
    exact (startMaint_facts _ _).1
  have hchange := (changeWays_maint (startMaint s { Maint.ofOp Mo.wayChange 1 with tests := tests }) f).trans hstart
  refine ⟨⟨_, hmaint _ _ _ hchange, rfl, rfl⟩, fun o i ho => ?_, fun o i ho => ?_⟩
  · rw [wayChange, rdN_modMaint]
    exact hkeep.rdN ho i
  · rw [wayChange, rdB_modMaint]
    exact hkeep.rdB ho i

/-- Settles O50: a free engine starts what it is asked for, with the scope the registers give; a busy one drops the request. -/
theorem cacheMaintenanceStarts : Obligations.CacheMaintenanceStarts := by
  unfold Obligations.CacheMaintenanceStarts
  refine ⟨fun s hm hv => ?_, fun s hm hv => ?_, fun s hm hv => ?_, fun s hm => ?_, fun s hm => ?_, fun s r hr hm hv => ?_, fun s r hr hm hv => ?_, fun s r hr hm => ?_, fun s n hn hm hne => ?_, fun s n hn hm hne => ?_,
    fun s sl mask hs hk hm => ?_, fun s r n sl mask hr hn hs hk hm => ?_⟩
  case refine_1 =>
    obtain ⟨hmaint, hbusy, hrun, hprog, hframes⟩ := startMaint_facts s { Maint.ofOp Mo.invalidateRange 512 with vol := rdN s Obj.CACHE_MAINT_VOLUME 0, slba := rdN s Obj.CACHE_MAINT_SLBA 0, nlb := rdN s Obj.CACHE_MAINT_NLB 0 }
    exact ⟨_, _, congrArg Host.Outcome.next (maintOp_starts hm fun _ => hv), hmaint, rfl, rfl, rfl, rfl, rfl, hbusy, hrun, hprog, hframes⟩
  case refine_2 =>
    obtain ⟨hmaint, hbusy, hrun, -, -⟩ := startMaint_facts s { Maint.ofOp Mo.invalidateVolume 512 with vol := rdN s Obj.CACHE_MAINT_VOLUME 0, slba := rdN s Obj.CACHE_MAINT_SLBA 0, nlb := rdN s Obj.CACHE_MAINT_NLB 0 }
    exact ⟨_, _, congrArg Host.Outcome.next (maintOp_starts hm fun _ => hv), hmaint, rfl, rfl, rfl, hbusy, hrun⟩
  case refine_3 => simp [exec, execInvalidateRange, execInvalidateVolume, maintOp, hm, hv, Mo.invalidateRange, Mo.invalidateVolume]
  case refine_4 =>
    obtain ⟨hmaint, hbusy, hrun, -, -⟩ := startMaint_facts s { Maint.ofOp Mo.invalidateAll 512 with vol := rdN s Obj.CACHE_MAINT_VOLUME 0, slba := rdN s Obj.CACHE_MAINT_SLBA 0, nlb := rdN s Obj.CACHE_MAINT_NLB 0 }
    exact ⟨_, _, congrArg Host.Outcome.next (maintOp_starts hm fun h => absurd h (by decide)), hmaint, rfl, rfl, rfl, hbusy, hrun⟩
  case refine_5 =>
    obtain ⟨hmaint, hbusy, hrun, -, -⟩ := startMaint_facts s { Maint.ofOp Mo.cleanLines 16384 with vol := rdN s Obj.CACHE_MAINT_VOLUME 0, slba := rdN s Obj.CACHE_MAINT_SLBA 0, nlb := rdN s Obj.CACHE_MAINT_NLB 0 }
    exact ⟨_, _, congrArg Host.Outcome.next (maintOp_starts hm fun h => absurd h (by decide)), hmaint, rfl, rfl, hbusy, hrun⟩
  case refine_6 =>
    have hgo : (lockPreload s r).2 = startPreload s r := by simp [lockPreload, hm, hv]
    have hkeep (t : State) (m : Maint) := startMaint_keeps (m := m) (Mask.le_self _) (Keeps.refl t)
    refine ⟨startPreload s r, _, congrArg Host.Outcome.next ((if_pos hr).trans hgo), (startMaint_facts _ _).1, rfl, rfl, rfl, rfl, rfl, rfl, ?_, ?_, (startMaint_facts _ _).2.1⟩
    · exact ((hkeep _ _).rdN (by decide +kernel) r).trans ((rdN_wr_code (by decide) 0).trans (rdN_wr_self _ _ _ _))
    · exact ((hkeep _ _).rdN (by decide +kernel) r).trans (rdN_wr_self _ _ _ _)
  case refine_7 => simp [exec, execPreload, lockPreload, hr, hm, hv]
  case refine_8 =>
    have hgo : (lockUnlock s r).2 = startMaint s { Maint.ofOp Mo.unlock 1 with range := r } := by simp [lockUnlock, hm]
    obtain ⟨hmaint, hbusy, hrun, -, -⟩ := startMaint_facts s { Maint.ofOp Mo.unlock 1 with range := r }
    exact ⟨_, _, congrArg Host.Outcome.next ((if_pos hr).trans hgo), hmaint, rfl, rfl, hbusy, hrun⟩
  case refine_9 =>
    obtain ⟨tests, hgo⟩ : ∃ tests, (setWaysEnabled s n).2 = wayChange s tests (fun t => wr t Obj.CACHE_WAYS_ENABLED 0 n) := ⟨_, by simp [setWaysEnabled, hm, hne]; rfl⟩
    obtain ⟨⟨m, hmaint, hop, -⟩, hN, hB⟩ := wayChange_facts s tests (fun t => wr t Obj.CACHE_WAYS_ENABLED 0 n) fun _ => rfl
    obtain ⟨-, hbusy, hrun, -, -⟩ := startMaint_facts s { Maint.ofOp Mo.wayChange 1 with tests := tests }
    refine ⟨_, m, congrArg Host.Outcome.next ((if_pos hn).trans hgo), hmaint, hop, ?_, ?_, ?_⟩
    · rw [hN _ _ (by decide +kernel), rdN_wr_same]
    · rw [hB _ _ (by decide +kernel), rdB_wr_code (by decide), hbusy]
    · rw [hN _ _ (by decide +kernel), rdN_wr_code (by decide), hrun]
      rfl
  case refine_10 =>
    have hgo : (setFrameWays s n).2 = wayChange s [] (fun t => wr t Obj.CACHE_FRAME_WAYS 0 n) := by simp [setFrameWays, hm, hne]
    obtain ⟨⟨m, hmaint, hop, -⟩, hN, hB⟩ := wayChange_facts s [] (fun t => wr t Obj.CACHE_FRAME_WAYS 0 n) fun _ => rfl
    obtain ⟨-, hbusy, -, -, -⟩ := startMaint_facts s { Maint.ofOp Mo.wayChange 1 with tests := [] }
    refine ⟨_, m, congrArg Host.Outcome.next ((if_pos hn).trans hgo), hmaint, hop, ?_, ?_⟩
    · rw [hN _ _ (by decide +kernel), rdN_wr_same]
    · rw [hB _ _ (by decide +kernel), rdB_wr_code (by decide), hbusy]
  case refine_11 =>
    generalize htests : ((List.range 16).filter (fun w => bitAt mask w && bitAt (rdN s Obj.SLICE_WAYS_DISABLED sl) w)).map (fun w => 16 * sl + w) = tests
    have hgo : (reenableWays s sl mask).2 = wayChange s tests (fun t => t) := by simp only [reenableWays, hm, Option.isSome_none, Bool.false_eq_true, if_false, htests]
    obtain ⟨⟨m, hmaint, hop, hts⟩, hN, -⟩ := wayChange_facts s tests (fun t => t) fun _ => rfl
    refine ⟨_, m, congrArg Host.Outcome.next ((if_pos ⟨hs, hk⟩).trans hgo), hmaint, hop, hts, ?_⟩
    rw [hN _ _ (by decide +kernel), (startMaint_keeps (Mask.le_self _) (Keeps.refl s)).rdN (by decide +kernel)]
  case refine_12 =>
    have hb : s.cache.maint.isSome = true := Option.isSome_iff_ne_none.mpr hm
    simp [exec, execInvalidateRange, execInvalidateVolume, execInvalidateAll, execCleanLines, execPreload, execUnlock, execCacheWaysEnabled, execCacheFrameWays, execSliceWayReenable, maintOp, lockPreload, lockUnlock, setWaysEnabled, setFrameWays, reenableWays, hb]

end Sys2Proof.Machine

end

section
/-! PROOFS. Steps and ends of cache maintenance, tests and losses of ways, and frame fills (R480, R486 to R493). -/

namespace Sys2Proof.Machine

open Sys2Proof

-- The kernel evaluates closed facts below (masks of frames, concrete states): one declaration after another keeps the memory this takes small.
set_option Elab.async false

/-! ## The engine's steps -/

theorem takeFailing_of_none {s : State} (h : s.cache.failing = []) : takeFailing s = s := by
  unfold takeFailing
  rw [h, forEach_nil, ← h]

theorem startReload_of_none {s : State} (h : s.cache.reload = []) : startReload s = s := by
  unfold startReload
  rw [h]
  split
  · contradiction
  · rfl

/-- A running operation with no way that waits to be taken makes its step. -/
theorem exec_cacheMaintStep_of_running {s : State} {m : Maint} (hm : s.cache.maint = some m) (hp : m.paused = false) (hf : s.cache.failing = []) : exec .cacheMaintStep s = .next (maintStep s m) := by
  simp [exec, execCacheMaintStep, takeFailing_of_none hf, hm, hp]

/-- An operation that ends with no range to load again leaves the engine free, with its result. -/
theorem endMaint_facts {s : State} {result : Nat} (h : s.cache.reload = []) :
    (endMaint s result).cache = { s.cache with maint := none } ∧ rdB (endMaint s result) Obj.CACHE_MAINT_BUSY 0 = false ∧ rdN (endMaint s result) Obj.CACHE_MAINT_RUNNING 0 = 0 ∧
    rdN (endMaint s result) Obj.CACHE_MAINT_RESULT 0 = result ∧ rdN (endMaint s result) Obj.CACHE_MAINT_PROGRESS 0 = 100 := by
  unfold endMaint
  rw [startReload_of_none (by exact h)]
  refine ⟨rfl, ?_, ?_, ?_, ?_⟩
  · rw [rdB_wr_code (by decide), rdB_wr_code (by decide), rdB_wr_code (by decide), rdB_wrB_same]
  · rw [rdN_wr_code (by decide), rdN_wr_code (by decide), rdN_wr_self, Int.toNat_zero]
  · rw [rdN_wr_code (by decide), rdN_wr_same]
  · rw [rdN_wr_self]
    rfl

/-- The frames of a set that a step has taken are stale. -/
theorem invalidateSet_stale {s : State} {m : Maint} {i k : Nat} {f : Frame} (hmem : (k, f) ∈ (invalidateSet s m i).cache.frames) (hk : k / 16 % 512 = i) (hl : f.locked = false) (hst : f.st ≠ 1) (hsc : inScope m f = true) :
    f.st = 3 := by
  simp only [invalidateSet, noteFrames, wr_cache, List.mem_filterMap] at hmem
  obtain ⟨e, -, he⟩ := hmem
  split_ifs at he with hin hr
  · obtain ⟨-, rfl⟩ := Prod.mk.inj (Option.some.inj he)
    rfl
  · obtain rfl := Option.some.inj he
    exact absurd ⟨hk, by simp [hl], hst, hsc⟩ hin

/-- The step that leaves more to do counts it; the one that does not ends the operation. -/
theorem maintStep_of_set {s : State} {m : Maint} (h5 : m.op ≠ 5) (h6 : m.op ≠ 6) (h7 : m.op ≠ 7) {a : State} (ha : a = if m.op = Mo.cleanLines then cleanLines s (fun k => k / 16 % 16384 == m.next) else invalidateSet s m m.next) (hm : a.cache.maint = some m) :
    maintStep s m = if m.next + 1 < m.total then wr (modMaint a (fun x => { x with next := x.next + 1 })) Obj.CACHE_MAINT_PROGRESS 0 (min 100 (100 * (m.next + 1) / m.total) : Nat)
      else endMaint (modMaint a (fun x => { x with next := x.next + 1 })) 1 := by
  subst ha
  simp only [maintStep, Mo.preload, Mo.unlock, Mo.wayChange, h5, h6, h7, if_false]
  split
  case isFalse => rfl
  case isTrue hlt =>
    have hne : m.total ≠ 0 := by omega
    simp only [modMaint, hm, Option.map_some, hne, if_false]

/-- The last step of a sweep ends it. -/
theorem maintStep_of_last {s a : State} {m : Maint} (h5 : m.op ≠ 5) (h6 : m.op ≠ 6) (h7 : m.op ≠ 7) (ha : a = if m.op = Mo.cleanLines then cleanLines s (fun k => k / 16 % 16384 == m.next) else invalidateSet s m m.next)
    (hm : a.cache.maint = some m) (hlast : m.total ≤ m.next + 1) : maintStep s m = endMaint (modMaint a (fun x => { x with next := x.next + 1 })) 1 := by
  rw [maintStep_of_set h5 h6 h7 ha hm, if_neg (Nat.not_lt.mpr hlast)]

/-! ## Ways -/

/-- A way that is disabled stays out, whether it was so before or not. -/
theorem disableWay_bit (s : State) (sl w : Nat) (hw : w < 16) : bitAt (rdN (disableWay s (16 * sl + w)) Obj.SLICE_WAYS_DISABLED sl) w = true := by
  have hdiv : (16 * sl + w) / 16 = sl := by omega
  have hmod : (16 * sl + w) % 16 = w := by omega
  simp only [disableWay, hdiv, hmod]
  split
  case isTrue h => exact h
  case isFalse h =>
    rw [rdN_raise (by decide) (by decide) (by decide), (changeWays_keepsAfter _ _).rdN (by decide +kernel), rdN_wr_same]
    exact bitAt_withBit_same _ _ _

theorem rdN_endWayChange (s : State) (m : Maint) (i : Nat) : rdN (endWayChange s m) Obj.SLICE_WAYS_DISABLED i = rdN s Obj.SLICE_WAYS_DISABLED i :=
  (endWayChange_keeps (Mask.le_self _) (Keeps.refl s)).rdN (by decide +kernel) i

/-! ## Fills -/

theorem frameAt_setFrame (s : State) (k : Nat) (f : Frame) : frameAt (noteFrames (setFrame s k f)) k = f := Tbl.get_put_same _ _ _ _

/-- The version of a sector does not turn on the fills under way. -/
theorem sameVersion_fills (s : State) (l : List Fill) (v lba : Nat) (md : Meta) : sameVersion { s with cache := { s.cache with fills := l } } v lba md = sameVersion s v lba md := rfl

/-- A fill of a sector that is as it was, with no operation under way, makes its frame valid. -/
theorem finishFill_of_same {s : State} {x : Fill} (hm : s.cache.maint = none) (hv : sameVersion s x.vol x.lba x.md = true) :
    frameAt (finishFill s x) x.frame = { frameAt s x.frame with st := 2, data := x.data } ∧ (finishFill s x).cache.fills = s.cache.fills.filter (fun y => y.frame != x.frame) := by
  have hdo : finishFill s x = noteFrames (setFrame { s with cache := { s.cache with fills := s.cache.fills.filter (fun y => y.frame != x.frame) } } x.frame { frameAt s x.frame with st := 2, data := x.data }) := by
    refine congrArg noteFrames (if_pos ?_)
    rw [sameVersion_fills, hv, hm]
    rfl
  rw [hdo]
  exact ⟨frameAt_setFrame _ _ _, rfl⟩

/-- A fill of a sector that changed leaves its frame invalid, where it is not locked. -/
theorem frameAt_finishFill_of_changed {s : State} {x : Fill} (hv : sameVersion s x.vol x.lba x.md = false) (hl : (frameAt s x.frame).locked = false) : frameAt (finishFill s x) x.frame = Frame.invalid := by
  have hframe : frameAt { s with cache := { s.cache with fills := s.cache.fills.filter (fun y => y.frame != x.frame) } } x.frame = frameAt s x.frame := rfl
  simp only [finishFill, sameVersion_fills, hv, hframe, hl, Bool.false_and, Bool.false_eq_true, if_false]
  exact frameAt_setFrame _ _ _

/-- Settles O51: each operation's step is the branch of `maintStep` that its number names, and a fill that ends keeps or drops its frame. -/
theorem cacheMaintenanceSteps : Obligations.CacheMaintenanceSteps := by
  unfold Obligations.CacheMaintenanceSteps
  refine ⟨fun s m hm hp hf hop hlt => ?_, fun s m hm hp hf hr hop hlast => ?_, fun s m hm hp hf hr hop hlast => ?_, fun s m hm hp hf hop => ?_, fun s m hm hp hf => ?_, fun s m hm hp hf hop hend => ?_, fun s m hm hp hf hop => ?_,
    fun s m sl w hs hw hm hop ht => ?_, fun s m sl w hs hw hm hop ht => ?_, fun s sl w hs hw hm => ?_, fun s sl w hs hw hm => ?_, fun s x hx hm hv => ?_, fun s x hx hv hl => ?_⟩
  case refine_1 =>
    have h4 : m.op ≠ Mo.cleanLines := by rcases hop with h | h | h <;> simp [h, Mo.cleanLines]
    have hstep := maintStep_of_set (s := s) (m := m) (by omega) (by omega) (by omega) rfl (by rw [if_neg h4]; exact hm)
    rw [if_pos hlt, if_neg h4] at hstep
    have hmaint : (invalidateSet s m m.next).cache.maint = some m := hm
    refine ⟨maintStep s m, { m with next := m.next + 1 }, exec_cacheMaintStep_of_running hm hp hf, ?_, rfl, ?_, fun k f hmem hk hlk hst hsc => ?_⟩
    · simp only [hstep, wr_cache, modMaint, hmaint, Option.map_some]
    · rw [hstep, rdN_wr_same]
    · rw [hstep] at hmem
      exact invalidateSet_stale hmem hk hlk hst hsc
  case refine_2 =>
    have h4 : m.op ≠ Mo.cleanLines := by rcases hop with h | h | h <;> simp [h, Mo.cleanLines]
    have hstep := maintStep_of_last (s := s) (m := m) (by omega) (by omega) (by omega) rfl (by rw [if_neg h4]; exact hm) hlast
    rw [if_neg h4] at hstep
    obtain ⟨hcache, hbusy, hrun, hres, hprog⟩ := endMaint_facts (s := modMaint (invalidateSet s m m.next) (fun x => { x with next := x.next + 1 })) (result := 1) hr
    exact ⟨_, (exec_cacheMaintStep_of_running hm hp hf).trans (congrArg _ hstep), by rw [hcache], hbusy, hrun, hres, hprog⟩
  case refine_3 =>
    have hstep := maintStep_of_last (s := s) (m := m) (by omega) (by omega) (by omega) (if_pos hop).symm hm hlast
    obtain ⟨hcache, -, -, hres, -⟩ := endMaint_facts (s := modMaint (cleanLines s (fun k => k / 16 % 16384 == m.next)) (fun x => { x with next := x.next + 1 })) (result := 1) hr
    refine ⟨_, (exec_cacheMaintStep_of_running hm hp hf).trans (congrArg _ hstep), by rw [hcache], hres, ?_⟩
    rw [hcache]
    rfl
  case refine_4 =>
    have hstep := maintStep_of_set (s := s) (m := m) (by omega) (by omega) (by omega) (if_pos hop).symm hm
    have hclean : (cleanLines s (fun k => k / 16 % 16384 == m.next)).lines = Tbl.mapV s.lines (fun k l => if k / 16 % 16384 = m.next then { l with dirty := false } else l) := by simp [cleanLines]
    have hend (t : State) : (endMaint t 1).lines = t.lines := (endMaint_keeps (Mask.le_self _) (Keeps.refl t)).parts .lines (by decide)
    refine ⟨_, exec_cacheMaintStep_of_running hm hp hf, ?_⟩
    rw [hstep]
    split
    · exact hclean
    · rw [hend]
      exact hclean
  case refine_5 => simp [exec, execCacheMaintStep, takeFailing_of_none hf, hm, hp]
  case refine_6 =>
    refine (exec_cacheMaintStep_of_running hm hp hf).trans ?_
    simp [maintStep, hop, Mo.preload, hend]
  case refine_7 =>
    refine (exec_cacheMaintStep_of_running hm hp hf).trans ?_
    simp [maintStep, hop, Mo.preload, Mo.unlock]
  case refine_8 =>
    simp only [exec, execWayMarchTestDone, hm, hop, hw, ht, Mo.wayChange, and_self, if_true]
    refine ⟨_, rfl, ?_⟩
    have hbit : bitAt (rdN (changeWays s (fun u => modMaint (wr u Obj.SLICE_WAYS_DISABLED sl (withBit (rdN u Obj.SLICE_WAYS_DISABLED sl) w false : Nat)) (fun y => { y with tests := y.tests.filter (fun z => z != 16 * sl + w), next := y.next + 1 }))).2
        Obj.SLICE_WAYS_DISABLED sl) w = false := by
      rw [(changeWays_keepsAfter _ _).rdN (by decide +kernel), rdN_modMaint, rdN_wr_same]
      exact bitAt_withBit_same _ _ _
    split
    · rw [rdN_endWayChange]
      exact hbit
    · exact hbit
  case refine_9 =>
    simp only [exec, execWayMarchTestDone, hm, hop, hw, ht, Mo.wayChange, and_self, if_true, Bool.false_eq_true, if_false]
    refine ⟨_, rfl, ?_⟩
    split
    · rw [rdN_endWayChange]
      exact disableWay_bit _ sl w hw
    · exact disableWay_bit _ sl w hw
  case refine_10 =>
    refine ⟨_, congrArg Host.Outcome.next ((if_neg (by omega)).trans (if_neg (by simp [hm]))), ?_⟩
    rw [(startReload_keeps (Mask.le_self _) (Keeps.refl _)).rdN (by decide +kernel)]
    exact disableWay_bit s sl w hw
  case refine_11 =>
    refine ⟨_, congrArg Host.Outcome.next ((if_neg (by omega)).trans (if_pos (Option.isSome_iff_ne_none.mpr hm))), ?_, rfl⟩
    rw [List.contains_iff_mem]
    exact mem_addOnce.mpr (Or.inr rfl)
  case refine_12 =>
    obtain ⟨hat, hfills⟩ := finishFill_of_same hm hv
    exact ⟨finishFill s x, by simp only [exec, execFrameFillComplete, hx], by rw [hat], by rw [hat], hfills⟩
  case refine_13 => exact ⟨finishFill s x, by simp only [exec, execFrameFillComplete, hx], frameAt_finishFill_of_changed hv hl⟩

end Sys2Proof.Machine

end

section
/-! PROOFS. A lost HBM stack, refresh by temperature, and zeroing (R494 to R500, R481). -/

namespace Sys2Proof.Machine

open Sys2Proof

-- The kernel evaluates closed facts below (masks of frames, concrete states): one declaration after another keeps the memory this takes small.
set_option Elab.async false

/-- A stack that failed, as it is reported. -/
def stackReported (s : State) (k : Nat) : State :=
  raiseOpen (wr (modPower s (fun x => { x with hbmDead := addOnce x.hbmDead k })) Obj.HBM_STACK_STATE k 3) (ev 0x0C 499) .alarm Src.hbm k

/-- What is left once a stack is gone: no line of its slice, no read cache, and only dirty leaves resident. -/
def stackDropped (d : State) (k : Nat) : State :=
  noteLeaves { dropLines d (fun x => lineSlice x == k) with cache := { d.cache with rc := [] }, map := { d.map with leaves := Tbl.mapV d.map.leaves (fun _ l => { l with resident := l.resident && l.dirty }) } }

/-- What a failing stack takes with it: the slots, the descriptors and the dirty leaves that lay in it. -/
def stackPoisoned (a : State) (k : Nat) : State :=
  let b := forEach (a.prot.filter (fun e => e.1 % 4 == k)) (fun e t => poisonSlot (modSlot t e.1 (fun x => { x with poison := List.range 128 })) e.1 0) a
  let c := forEach b.prot (fun e t => if [0, 1].any (fun i => descStack e.1 i == k) then poisonDescriptor t e.1 [] else t) b
  forEach (c.map.leaves.filter (fun e => e.2.dirty && e.1 % 4 == k)) (fun e t => poisonLeaf t (e.1 / 2 ^ 31) (e.1 % 2 ^ 31)) c

/-- With no slot held and no dirty leaf, nothing has to be poisoned. -/
theorem stackPoisoned_of_clean {a : State} {k : Nat} (hp : a.prot = []) (hd : ∀ e ∈ a.map.leaves, e.2.dirty = false) : stackPoisoned a k = a := by
  have hleaves : a.map.leaves.filter (fun e => e.2.dirty && e.1 % 4 == k) = [] := List.filter_eq_nil_iff.mpr fun e he => by simp [hd e he]
  simp only [stackPoisoned, hp, List.filter_nil, forEach_nil, hleaves]

theorem execHbmStackFailed_of_running {s : State} {k : Nat} (hk : k < 4) (hst : rdN s Obj.HBM_STACK_STATE k ≠ 3) : execHbmStackFailed k s = .next (stackDropped (stackPoisoned (stackReported s k) k) k) :=
  congrArg Host.Outcome.next (if_neg (by omega))

/-- Nothing of a dropped stack stays in the read cache or in the lines, and a leaf that is resident is dirty. -/
theorem stackDropped_facts (d : State) (k : Nat) :
    (stackDropped d k).cache.rc = [] ∧ (stackDropped d k).power = d.power ∧ (∀ e ∈ (stackDropped d k).lines, lineSlice e.1 ≠ k) ∧ (stackDropped d k).map.leaves = Tbl.mapV d.map.leaves (fun _ l => { l with resident := l.resident && l.dirty }) := by
  have hkeep (t : State) := noteLeaves_keeps (Mask.le_self _) (Keeps.refl t)
  have hcache (t : State) : (noteLeaves t).cache = t.cache := (hkeep t).parts .cache (by decide)
  have hpower (t : State) : (noteLeaves t).power = t.power := (hkeep t).parts .power (by decide)
  have hlines (t : State) : (noteLeaves t).lines = t.lines := (hkeep t).parts .lines (by decide)
  have hmap (t : State) : (noteLeaves t).map = t.map := (hkeep t).parts .map (by decide)
  unfold stackDropped
  rw [hcache, hpower, hlines, hmap]
  refine ⟨rfl, rfl, fun e he => ?_, rfl⟩
  simpa using (List.mem_filter.mp he).2

/-- Settles O52: a stack that fails with nothing to poison only drops what it held; refresh follows the temperature; a zeroing is counted. -/
theorem hbmAndZeroing : Obligations.HbmAndZeroing := by
  unfold Obligations.HbmAndZeroing
  refine ⟨fun s k hk hst hp hd => ?_, fun s k hst => ?_, fun s k temp hk ht => ?_, fun s k temp hk ht => ?_, fun s k hk ht => ?_, fun s k ht => ?_⟩
  case refine_1 =>
    have hprot : (stackReported s k).prot = [] := (raiseOpen_prot _ _ _ _ _).trans hp
    have hmap : (stackReported s k).map = s.map := raiseOpen_map _ _ _ _ _
    have hpower : (stackReported s k).power = { s.power with hbmDead := addOnce s.power.hbmDead k } := raiseOpen_power _ _ _ _ _
    have hclean := stackPoisoned_of_clean (a := stackReported s k) (k := k) hprot (by rwa [hmap])
    obtain ⟨hrc, hpow, hlines, hleaves⟩ := stackDropped_facts (stackReported s k) k
    have hstate : rdN (stackDropped (stackReported s k) k) Obj.HBM_STACK_STATE k = 3 := by
      refine ((noteLeaves_keeps (Mask.le_self _) (Keeps.refl _)).rdN (by decide +kernel) k).trans ?_
      refine (rdN_raiseOpen (by decide) (by decide) (by decide)).trans (rdN_wr_self _ _ _ _)
    refine ⟨_, (execHbmStackFailed_of_running hk hst).trans (by rw [hclean]), hstate, hrc, ?_, ?_, hlines⟩
    · rw [hpow, hpower]
      exact mem_addOnce.mpr (Or.inr rfl)
    · rw [hleaves, hmap]
      intro e he
      obtain ⟨l, hl, rfl⟩ := List.mem_map.mp he
      simp [hd l hl]
  case refine_2 => simp [exec, execHbmStackFailed, hst]
  case refine_3 =>
    have hhot : decide (temp > 85) = true := by simpa using ht
    refine ⟨_, congrArg Host.Outcome.next (if_neg (by omega)), ?_, ?_, ?_⟩
    · simp only [hhot, if_true, rdN_wr_self]
      rfl
    · rw [rd_wr_code (by decide), rd_wr_same]
    · simp only [hhot, if_true]
      exact mem_addOnce.mpr (Or.inr rfl)
  case refine_4 =>
    have hcool : decide (temp > 85) = false := by simpa using ht
    refine ⟨_, congrArg Host.Outcome.next (if_neg (by omega)), ?_, ?_, ?_⟩
    · simp only [hcool, Bool.false_eq_true, if_false, rdN_wr_self]
      rfl
    · rw [rd_wr_code (by decide), rd_wr_same]
    · simp [hcool, modPower]
  case refine_5 =>
    have hkeep := fun t => noteReserve_keeps (Mask.le_self _) (Keeps.refl t)
    have hkey (t : State) : (noteReserve t).key = t.key := (hkeep t).parts .key (by decide)
    refine ⟨_, congrArg Host.Outcome.next (if_pos ⟨hk, ht⟩), ?_, ?_, by rw [hkey, bump_key]⟩
    · rw [hkey, bump_key]
      exact Tbl.getD_set_same _ _ _ _
    · rw [(hkeep _).rdN (by decide +kernel), rdN_bump_same]
      rfl
  case refine_6 => simp [exec, execZeroingComplete, ht]

end Sys2Proof.Machine

end

section
/-! PROOFS. The Weir and the Cistern (R182 to R212). -/

namespace Sys2Proof.Machine

open Sys2Proof

-- The kernel evaluates closed facts below (masks of frames, concrete states): one declaration after another keeps the memory this takes small.
set_option Elab.async false

/-! ## The Weir -/

theorem weirOf_le (s : State) (we : Nat) : weirOf s we % 4096 = 0 ∧ weirOf s we ≤ gib8 ∧ weirOf s we ≤ rdN s Obj.WEIR_LIMIT 0 ∧ weirOf s we ≤ we := by
  have hround (n : Nat) : n / 4096 * 4096 % 4096 = 0 ∧ n / 4096 * 4096 ≤ n := by omega
  unfold weirOf
  split
  · simp
  · have := hround (min (rdN s Obj.WEIR_LIMIT 0) (min gib8 we))
    omega

theorem energyFails_of_not_current {s : State} (h : packCurrent s = false) : energyFails s = true := by simp [energyFails, h]

/-- A pack that is not current gives no energy, and nothing of it is in reserve for the partner. -/
theorem weirEnergy_of_not_current {s : State} (h : packCurrent s = false) : weirEnergy s = 0 ∧ reserveInEffect (takeEnergyInput s) = 0 := by
  have hfails : energyFails (takeEnergyInput s) = true := by rw [energyFails_takeEnergyInput, energyFails_of_not_current h]
  simp [weirEnergy, energyBytes, reserveInEffect, hfails]

theorem rdN_recomputeWeir_input (s : State) : rdN (recomputeWeir s) Obj.WEIR_ENERGY_INPUT 0 = if packCurrent s then rdN s Obj.PACK_USABLE_ENERGY 0 else 0 := by
  rw [rdN_recomputeWeir s (by decide +kernel)]
  simp (disch := decide) only [writeWeir, wrB, rdN_wr_other]
  unfold takeEnergyInput
  split
  · exact rdN_wr_same _ _ _ _
  · exact rdN_wr_self _ _ _ _

/-- Write-through is said exactly at a Weir of 0. -/
theorem rdB_writeWeir_through (s : State) : rdB (writeWeir s) Obj.WRITE_THROUGH 0 = (weirOf s (weirEnergy s) == 0) := by
  rw [writeWeir, rdB_wrB_same, weirOf_takeEnergyInput]

theorem rdB_recomputeWeir_through (s : State) : rdB (recomputeWeir s) Obj.WRITE_THROUGH 0 = (weirOf s (weirEnergy s) == 0) := by
  rw [recomputeWeir_eq]
  split
  · exact ((weirFell_keepsFoot _).rdB (by decide +kernel) 0).trans (rdB_writeWeir_through s)
  · exact rdB_writeWeir_through s

/-! ## The Cistern -/

/-- The Cistern's need does not turn on what is erased. -/
theorem cisternNeed_erased (s : State) (b : Nat) : cisternNeed (wr (eraseNext s) Obj.CISTERN_ERASED_BYTES 0 b) = cisternNeed s := by
  simp only [cisternNeed]
  rw [rdN_wr_code (by decide), rdN_wr_code (by decide)]
  rfl

/-- An erase recorded while the Cistern serves arms it where it is enough. -/
theorem eraseDone_facts {s : State} (b : Nat) (hst : rdN s Obj.CISTERN_STATE 0 = Cs.armed ∨ rdN s Obj.CISTERN_STATE 0 = Cs.notReady) (hd : rdN s Obj.CISTERN_DIES_USABLE 0 ≥ 8) :
    ∃ t, exec (.cisternEraseDone b) s = .next t ∧ rdN t Obj.CISTERN_ERASED_BYTES 0 = b ∧ rdN t Obj.CISTERN_STATE 0 = if cisternNeed s ≤ b then Cs.armed else Cs.notReady := by
  generalize hu : wr (eraseNext s) Obj.CISTERN_ERASED_BYTES 0 b = u
  have hstu : rdN u Obj.CISTERN_STATE 0 = rdN s Obj.CISTERN_STATE 0 := by rw [← hu, rdN_wr_code (by decide)]; rfl
  have hdu : rdN u Obj.CISTERN_DIES_USABLE 0 = rdN s Obj.CISTERN_DIES_USABLE 0 := by rw [← hu, rdN_wr_code (by decide)]; rfl
  have hbu : rdN u Obj.CISTERN_ERASED_BYTES 0 = b := by rw [← hu, rdN_wr_same]
  have hneed : cisternNeed u = cisternNeed s := hu ▸ cisternNeed_erased s b
  have hserves : ¬ (rdN s Obj.CISTERN_STATE 0 = Cs.dumping ∨ rdN s Obj.CISTERN_STATE 0 = Cs.restoring) := by rcases hst with h | h <;> rw [h] <;> decide
  have hnote : noteCistern u = recomputeWeir (wr u Obj.CISTERN_STATE 0 (if rdN u Obj.CISTERN_ERASED_BYTES 0 ≥ cisternNeed u then (Cs.armed : Nat) else Cs.notReady)) := by
    simp only [noteCistern, hstu, hserves, hdu, Nat.not_lt.mpr hd, if_false]
  have hweir (v : State) := recomputeWeir_keeps (Mask.le_self _) (Keeps.refl v)
  refine ⟨noteCistern u, congrArg Host.Outcome.next ((if_neg fun h => hserves (Or.inl h)).trans (by rw [hu])), ?_, ?_⟩
  · rw [hnote, (hweir _).rdN (by decide +kernel), rdN_wr_code (by decide), hbu]
  · rw [hnote, (hweir _).rdN (by decide +kernel), hbu, hneed]
    split
    · exact rdN_wr_same _ _ _ _
    · exact rdN_wr_same _ _ _ _

/-- Settles O53: the Weir's registers are what `recomputeWeir` wrote, and each event of the Cistern is the branch that its conditions name. -/
theorem weirAndCistern : Obligations.WeirAndCistern := by
  unfold Obligations.WeirAndCistern
  refine ⟨fun r s hr _ => ?_, fun s hc h0 hle => ?_, fun s q tag c hq ho hp hw => ?_, fun s q tag c hq hw => ?_, fun s n hst => ?_, fun s hst hd _ b hb => ?_, fun s hst hd _ b hb => ?_, fun s hh hp => ?_, fun s e he hr => ?_, fun s hl hs => ?_, fun s hl => ?_,
    fun s hm => ?_, fun s x hm hx => ?_⟩
  case refine_1 =>
    obtain ⟨hround, hmax, hlimit, hwe⟩ := weirOf_le s (weirEnergy s)
    refine ⟨recomputeWeir s, by rw [exec_weirRecompute, hr], ?_, ?_, ?_, ?_, ?_, fun hc => ?_, fun hf => ?_⟩
    · rwa [recomputeWeir_current]
    · rwa [recomputeWeir_current]
    · rwa [recomputeWeir_current]
    · rwa [recomputeWeir_current, recomputeWeir_energy]
    · rw [rdB_recomputeWeir_through, recomputeWeir_current, beq_iff_eq]
    · obtain ⟨he, hres⟩ := weirEnergy_of_not_current hc
      rw [rdN_recomputeWeir_input, recomputeWeir_energy, recomputeWeir_reserve, he, hres, hc]
      exact ⟨rfl, rfl, rfl⟩
    · rw [recomputeWeir_current, recomputeWeir_binding, weirOf, weirBinding, if_pos hf, if_pos hf]
      exact ⟨rfl, rfl⟩
  case refine_2 =>
    obtain ⟨he, -⟩ := weirEnergy_of_not_current hc
    have hweir : weirOf s (weirEnergy s) = 0 := by
      have := (weirOf_le s (weirEnergy s)).2.2.2
      omega
    have hfell : recomputeWeir s = weirFell (writeWeir s) := by rw [recomputeWeir_eq, weirOf_takeEnergyInput, hweir, if_pos ⟨h0, hle⟩]
    refine ⟨writeWeir s, hfell, by rw [rdN_writeWeir_current, hweir], by rw [rdB_writeWeir_through, hweir]; rfl, fun r hr => by rw [exec_weirRecompute, hr, hfell]⟩
  case refine_3 =>
    refine ⟨raise (bump (modQueued s q tag (fun x => { x with warned := true })) Obj.WEIR_WAITS 0 1) (ev 0x04 186) .warn Src.qp q (detailLba c.volume 0), by simp [exec, execWeirWaitWarn, hq, ho, hp, hw], ?_, fun x hx htag => ?_⟩
    · rw [rdN_raise (by decide) (by decide) (by decide), rdN_bump_same]
      rfl
    · rw [qpOf, raise_qps, bump_qps, ← qpOf, modQueued, qpOf_modQp] at hx
      obtain ⟨y, -, rfl⟩ := List.mem_map.mp hx
      split_ifs at htag ⊢ with hy
      · rfl
      · exact absurd htag hy
  case refine_4 => simp [exec, execWeirWaitWarn, hq, hw]
  case refine_5 => exact congrArg Host.Outcome.next (if_neg hst)
  case refine_6 =>
    obtain ⟨t, ht, hbytes, hstate⟩ := eraseDone_facts b (Or.inl hst) hd
    exact ⟨t, ht, hbytes, by rw [hstate, if_neg (by omega)]⟩
  case refine_7 =>
    obtain ⟨t, ht, hbytes, hstate⟩ := eraseDone_facts b (Or.inr hst) hd
    exact ⟨t, ht, hbytes, by rw [hstate, if_pos hb]⟩
  case refine_8 =>
    have hno : s.prot.any (fun e => e.2.restored) = false := by simpa [List.any_eq_false] using hp
    exact ⟨_, congrArg Host.Outcome.next (if_pos ⟨hh, by simp [hno]⟩), rdB_wrB_same _ _ _ _, rfl, rfl⟩
  case refine_9 =>
    have hany : s.prot.any (fun x => x.2.restored) = true := List.any_eq_true.mpr ⟨e, he, hr⟩
    simp [exec, execCisternImageRelease, hany]
  case refine_10 =>
    have hack : lossAck s = modPower s (fun x => { x with lossHeld := false }) := by simp [lossAck, hl, Nat.not_le.mpr hs]
    exact ⟨_, congrArg Host.Outcome.next hack, rfl, rfl⟩
  case refine_11 => simp [exec, execCisternRestoreLossAck, lossAck, hl]
  case refine_12 => exact congrArg Host.Outcome.next (if_neg hm)
  case refine_13 => simp only [exec, execDumpEnd, hm, if_true, hx]

end Sys2Proof.Machine

end

section
/-! PROOFS. The states of the backup pack (Table 14-5, R505 to R519). -/

namespace Sys2Proof.Machine

open Sys2Proof

-- The kernel evaluates closed facts below (masks of frames, concrete states): one declaration after another keeps the memory this takes small.
set_option Elab.async false

/-! ## A change of the pack's state -/

theorem noteCharge_keepsFoot (s : State) : Keeps 0x40000000000000000000000000000000000c00000 s (noteCharge s) :=
  noteCharge_keeps (Mask.le_self _) (Keeps.refl s)

@[simp] theorem noteCharge_pack (s : State) : (noteCharge s).pack = s.pack := (noteCharge_keepsFoot s).parts .pack (by decide)

/-- The state is as written, and the pack's own part is left alone. -/
theorem setPackState_facts (s : State) (st : Nat) : packState (setPackState s st) = st ∧ (setPackState s st).pack = s.pack := by
  have hweir := recomputeWeir_keeps (Mask.le_self _) (Keeps.refl (noteCharge (wr s Obj.PACK_STATE 0 st)))
  have hpack : (setPackState s st).pack = (noteCharge (wr s Obj.PACK_STATE 0 st)).pack := hweir.parts .pack (by decide)
  refine ⟨?_, by rw [hpack, noteCharge_pack, wr_pack]⟩
  calc packState (setPackState s st) = packState (noteCharge (wr s Obj.PACK_STATE 0 st)) := hweir.rdN (by decide +kernel) 0
    _ = packState (wr s Obj.PACK_STATE 0 st) := rdN_noteCharge _ (by decide)
    _ = st := rdN_wr_same _ _ _ _

/-- What else a change of the pack's state leaves, but for its own register. -/
theorem setPackState_keepsFoot (s : State) (st : Nat) :
    Keeps 0x3008000000000000001f0000000a3900000000000000000000000000000000000000001400000000017c190000000000000000000040040000000000000000000000020000040c45920 s (setPackState s st) :=
  setPackState_keeps (Mask.le_self _) (Keeps.refl s)

@[simp] theorem endMeasure_step (s : State) : (endMeasure s).pack.step = 0 := rfl

theorem rdN_endMeasure (s : State) (o : ObjDesc) (i : Nat) : rdN (endMeasure s) o i = rdN s o i := by
  simp only [rdN, rd, endMeasure_dict]

/-! ## Measurements that fall due -/

/-- A measurement that falls due leaves the pack's state. -/
theorem measureDue_keepsFoot (s : State) : Keeps 0x400000000000000000000000000000000000000000000040000000000000000000000000000000000c80000 s (measureDue s) :=
  measureDue_keeps (Mask.le_self _) (Keeps.refl s)

/-- Where nothing defers it, it starts. -/
theorem measureDue_of_ready {s : State} (h0 : s.pack.step = 0) (hd : deferring s = false) : (measureDue s).pack.step = 1 ∧ (measureDue s).pack.due = false := by
  have hdo : measureDue s = noteCharge (modPack s (fun x => { x with due := false, step := 1 })) := by simp [measureDue, h0, hd]
  rw [hdo, noteCharge_pack]
  exact ⟨rfl, rfl⟩

/-- Where something defers it, it stays due and is counted. -/
theorem measureDue_of_deferred {s : State} (h0 : s.pack.step = 0) (hd : deferring s = true) :
    (measureDue s).pack.step = 0 ∧ (measureDue s).pack.due = true ∧ rdN (measureDue s) Obj.PACK_ESR_DEFERRED 0 = (rdN s Obj.PACK_ESR_DEFERRED 0 + 1) % 2 ^ 64 := by
  have hdo : measureDue s = bump (modPack s (fun x => { x with due := true })) Obj.PACK_ESR_DEFERRED 0 1 := by simp [measureDue, h0, hd]
  rw [hdo]
  exact ⟨h0, rfl, rdN_bump_same _ _ _ _⟩

/-- Entering LEARNING clears the cause of a fault. -/
theorem enterLearning_facts (s : State) : packState (enterLearning s) = Pk.learning ∧ rdN (enterLearning s) Obj.PACK_FAULT_CAUSE 0 = 0 := by
  generalize hu : wr (modPack s (fun x => { x with measured := false })) Obj.PACK_FAULT_CAUSE 0 0 = u
  have hdo : enterLearning s = measureDue (setPackState u Pk.learning) := by rw [← hu]; rfl
  rw [hdo]
  refine ⟨((measureDue_keepsFoot _).rdN (by decide +kernel) 0).trans (setPackState_facts u _).1, ?_⟩
  rw [(measureDue_keepsFoot _).rdN (by decide +kernel), (setPackState_keepsFoot _ _).rdN (by decide +kernel), ← hu, rdN_wr_self, Int.toNat_zero]

/-- What else it leaves. -/
theorem enterLearning_keepsFoot (s : State) :
    Keeps 0x3008000000000000001f0000000a3900000000000000000000000000000040000000001400000000017c1900000000000000000000400c0000000000000000000000020000040cc5920 s (enterLearning s) :=
  enterLearning_keeps (Mask.le_self _) (Keeps.refl s)

/-! ## The estimator's start, end and reset -/

theorem startPack_facts {s : State} (h : packState s = Pk.disabled) : packState (startPack s) = (if packSeen s then Pk.learning else Pk.absent) ∧ rdB (startPack s) Obj.PACK_ENABLE 0 = rdB s Obj.PACK_ENABLE 0 := by
  simp only [startPack, h, ne_eq, not_true_eq_false, if_false]
  split
  · exact ⟨(enterLearning_facts s).1, (enterLearning_keepsFoot s).rdB (by decide +kernel) 0⟩
  · exact ⟨(setPackState_facts s _).1, (setPackState_keepsFoot s _).rdB (by decide +kernel) 0⟩

/-- The state in which RESET_LEARNING has forgotten what was learned. -/
def forgotten (s : State) : State :=
  modPack (endMeasure (wr (wr (wr s Obj.PACK_CAPACITANCE_LEARNED 0 0) Obj.PACK_CAPACITY_LEARNED 0 0) Obj.PACK_ESR_BASELINE 0 0))
    (fun x => { x with charge := 0, curve := none, soc := 0, socAt := 0, rest := none, needRest := true, due := false, agedEsr := false, agedCap := false })

theorem rdN_forgotten (s : State) (o : ObjDesc) (i : Nat) : rdN (forgotten s) o i = rdN (wr (wr (wr s Obj.PACK_CAPACITANCE_LEARNED 0 0) Obj.PACK_CAPACITY_LEARNED 0 0) Obj.PACK_ESR_BASELINE 0 0) o i :=
  rdN_endMeasure _ o i

/-- A live pack whose learned values are reset learns again. -/
theorem resetLearning_of_live {s : State} (h : packLive s = true) : resetLearning s = enterLearning (forgotten s) := by
  have hstate : packState (forgotten s) = packState s := by rw [packState, rdN_forgotten, rdN_wr_code (by decide), rdN_wr_code (by decide), rdN_wr_code (by decide), ← packState]
  have hlive : packLive (forgotten s) = true := by rwa [packLive, hstate]
  exact if_pos (Or.inl hlive)

/-! ## A rested pack -/

theorem learn_pack (s : State) (o n : ObjDesc) (x : Nat) : (learn s o n x).pack = s.pack := by
  simp only [learn]
  split_ifs <;> rfl

/-- A rested pack takes its charge from its voltage. -/
theorem rested_facts (s : State) : (rested s).pack.soc = restSoc s ∧ (rested s).pack.socAt = s.pack.charge ∧ (rested s).pack.needRest = false := by
  simp only [rested]
  split
  · exact ⟨rfl, rfl, rfl⟩
  · split
    · exact ⟨rfl, rfl, rfl⟩
    · simp [modPack, learn_pack]

theorem endLearning_pack (s : State) : (endLearning s).pack = s.pack := by
  unfold endLearning
  split
  · exact (setPackState_facts s _).2
  · rfl

/-- Settles O54: each event of the pack is one change of its state, with what Table 14-5 asks beside it. -/
theorem packStates : Obligations.PackStates := by
  unfold Obligations.PackStates
  refine ⟨fun s hv => ?_, fun s hv he hst hs _ => ?_, fun s hv he hst hs _ => ?_, fun s _ => ?_, fun s hl _ => ?_, fun s hl _ => ?_, fun s hl => ?_, fun s hl hc _ => ?_, fun s hl _ => ?_, fun s hst _ => ?_, fun s hst => ?_, fun s hst _ => ?_, fun s hst => ?_,
    fun s hc hst => ?_⟩
  case refine_1 => simp [exec, execPackEnable, packEnable, hv]
  case refine_2 | refine_3 =>
    have hgo : (packEnable s true).2 = startPack (wr (wrB s Obj.PACK_ENABLE 0 true) Obj.PACK_ESR_BASELINE 0 0) := by simp [packEnable, hv, he]
    generalize hu : wr (wrB s Obj.PACK_ENABLE 0 true) Obj.PACK_ESR_BASELINE 0 0 = u at hgo
    have hstu : packState u = Pk.disabled := by rw [← hu, packState, rdN_wr_code (by decide), rdN_wrB_code (by decide)]; exact hst
    have hseen : packSeen u = packSeen s := by
      rw [← hu, packSeen, rdN_wr_code (by decide), rdN_wrB_code (by decide)]
      rfl
    have hen : rdB u Obj.PACK_ENABLE 0 = true := by rw [← hu, rdB_wr_code (by decide), rdB_wrB_same]
    obtain ⟨hpack, henable⟩ := startPack_facts hstu
    rw [hseen, hs] at hpack
    exact ⟨_, congrArg Host.Outcome.next hgo, henable.trans hen, hpack⟩
  case refine_4 =>
    generalize hu : wr (modPack (endMeasure (wrB s Obj.PACK_ENABLE 0 false)) (fun x => { x with due := false })) Obj.PACK_FAULT_CAUSE 0 0 = u
    have hgo : (packEnable s false).2 = setPackState u Pk.disabled := by rw [← hu]; rfl
    obtain ⟨hst, hpack⟩ := setPackState_facts u Pk.disabled
    refine ⟨_, congrArg Host.Outcome.next hgo, ?_, hst, ?_⟩
    · rw [(setPackState_keepsFoot u _).rdB (by decide +kernel), ← hu, rdB_wr_code (by decide), rdB_modPack, rdB_endMeasure, rdB_wrB_same]
    · rw [hpack, ← hu]
      rfl
  case refine_5 =>
    obtain ⟨hst, -⟩ := enterLearning_facts (forgotten s)
    have hkeep := enterLearning_keepsFoot (forgotten s)
    refine ⟨_, congrArg Host.Outcome.next (resetLearning_of_live hl), ?_, ?_, ?_, hst⟩
    · rw [hkeep.rdN (by decide +kernel), rdN_forgotten, rdN_wr_code (by decide), rdN_wr_code (by decide), rdN_wr_self, Int.toNat_zero]
    · rw [hkeep.rdN (by decide +kernel), rdN_forgotten, rdN_wr_code (by decide), rdN_wr_self, Int.toNat_zero]
    · rw [hkeep.rdN (by decide +kernel), rdN_forgotten, rdN_wr_self, Int.toNat_zero]
  case refine_6 => exact ⟨_, exec_packOvervoltage s, packFault_packState hl _, packFault_cause hl _⟩
  case refine_7 => simp [exec, execPackOvervoltage, execPackAbsent, packFault, hl]
  case refine_8 => exact ⟨_, exec_packChargerFault_charging hc, packFault_packState hl _, packFault_cause hl _⟩
  case refine_9 => exact ⟨_, congrArg Host.Outcome.next (if_pos hl), (rdN_raiseOpen (by decide) (by decide) (by decide)).trans (setPackState_facts _ _).1⟩
  case refine_10 => exact ⟨_, congrArg Host.Outcome.next (if_pos hst), enterLearning_facts s⟩
  case refine_11 => exact congrArg Host.Outcome.next (if_neg hst)
  case refine_12 => exact ⟨_, congrArg Host.Outcome.next (if_pos hst), (rdN_raiseOpen (by decide) (by decide) (by decide)).trans (setPackState_facts _ _).1⟩
  case refine_13 => exact congrArg Host.Outcome.next (if_neg hst)
  case refine_14 =>
    have hlive : packLive s = true := by simp [packLive, hst]
    refine ⟨_, congrArg Host.Outcome.next (if_pos ⟨hc, hlive⟩), ?_⟩
    rw [endLearning_pack]
    exact rested_facts s

end Sys2Proof.Machine

end

section
/-! PROOFS. Samples of the pack, the estimate of usable energy, and the measurement of impedance (R505, R512 to R516). -/

namespace Sys2Proof.Machine

open Sys2Proof

-- The kernel evaluates closed facts below (masks of frames, concrete states): one declaration after another keeps the memory this takes small.
set_option Elab.async false

/-! ## Samples -/

/-- The state once a sample is taken, before it is checked. -/
def sampled (s : State) (v : Nat) (i temp : Int) (ntc : Nat) : State :=
  let a := wr (wr s Obj.PACK_VOLTAGE 0 v) Obj.PACK_CURRENT 0 i
  let b := if ntc = 0 then wr a Obj.PACK_TEMPERATURE 0 temp else a
  modPack b (fun x => { x with charge := x.charge + i, sampleAt := if ntc = 0 then s.now else x.sampleAt, ntc := ntc, curve := if i > -100 then none else x.curve })

theorem packState_sampled (s : State) (v : Nat) (i temp : Int) (ntc : Nat) : packState (sampled s v i temp ntc) = packState s := by
  simp only [sampled, packState, rdN_modPack]
  split
  · rw [rdN_wr_code (by decide), rdN_wr_code (by decide), rdN_wr_code (by decide)]
  · rw [rdN_wr_code (by decide), rdN_wr_code (by decide)]

/-- A checked sample that leaves the pack not STALE lets the charger follow. -/
theorem exec_packSample_of_not_stale {s : State} {v ntc : Nat} {i temp : Int} (h : packState (checkTemp (sampled s v i temp ntc)) ≠ Pk.stale) :
    exec (.packSample v i temp ntc) s = .next (noteCharge (checkTemp (sampled s v i temp ntc))) :=
  congrArg Host.Outcome.next (congrArg noteCharge (if_neg fun hs => h hs.1))

theorem packFault_of_not_live {s : State} (h : packLive s = false) (cause : Nat) : packFault s cause = s := by simp [packFault, h]

/-- A disabled pack is not faulted by its temperature. -/
theorem checkTemp_of_disabled {s : State} (h : packState s = Pk.disabled) : checkTemp s = s := by
  have hlive : packLive s = false := by simp [packLive, h, Pk.disabled, Pk.learning, Pk.current, Pk.stale]
  simp [checkTemp, packFault_of_not_live hlive, h, Pk.disabled, Pk.fault]

/-! ## The estimate -/

/-- The state with the estimate in its registers, before the Weir follows. -/
def estimated (s : State) : State :=
  wr (wr (wr (wr (wr s Obj.PACK_SOC 0 (whole (socNow s / 1000) : Nat)) Obj.PACK_ENERGY_RAW 0 (whole (energyRaw s) : Nat)) Obj.PACK_DERATE_FACTOR 0 (whole (factorNow s) : Nat)) Obj.PACK_RIDE_RESERVE 0
    (340 * rdN s Obj.PS_RIDE_THROUGH_WINDOW 0 : Nat)) Obj.PACK_USABLE_ENERGY 0 (whole (energyRaw s * factorNow s / 1000 - ((340 * rdN s Obj.PS_RIDE_THROUGH_WINDOW 0 : Nat) : Rat)) : Nat)

theorem estimate_eq (s : State) : estimate s = recomputeWeir (estimated s) := rfl

theorem recomputeWeir_keepsFoot (s : State) : Keeps weirFoot.mask s (recomputeWeir s) :=
  recomputeWeir_keeps (by decide +kernel) (Keeps.refl s)

/-! ## Impedance -/

theorem packFault_step {s : State} (h : s.pack.step = 0) (cause : Nat) : (packFault s cause).pack.step = 0 := by
  unfold packFault
  split
  · rw [raiseOpen_pack, (setPackState_facts _ _).2]
    rfl
  · exact h

theorem checkAgeing_step {s : State} (h : s.pack.step = 0) : (checkAgeing s).pack.step = 0 := by
  have hraise (c : Prop) [Decidable c] (t : State) (i : EvId) : (if c then raiseOpen t i .warn Src.pack 0 else t).pack = t.pack := by
    split
    · exact raiseOpen_pack _ _ _ _ _
    · rfl
  simp only [checkAgeing]
  split
  · refine packFault_step ?_ _
    simp only [modPack, hraise, h]
  · simp only [modPack, hraise, h]

/-- What follows once a measurement has been checked: the state it leads to, and the charger. -/
def settleMeasured (c : State) : State :=
  noteCharge (if packState c = Pk.stale ∧ samplesValid c then setPackState c Pk.current else endLearning c)

theorem settleMeasured_facts (c : State) :
    (settleMeasured c).pack = c.pack ∧ rdN (settleMeasured c) Obj.PACK_ESR 0 = rdN c Obj.PACK_ESR 0 ∧ rdN (settleMeasured c) Obj.PACK_ESR_MEASUREMENTS 0 = rdN c Obj.PACK_ESR_MEASUREMENTS 0 := by
  have hend := endLearning_keeps (Mask.le_self _) (Keeps.refl c)
  have hset := setPackState_keepsFoot c Pk.current
  unfold settleMeasured
  rw [noteCharge_pack, (noteCharge_keepsFoot _).rdN (by decide +kernel), (noteCharge_keepsFoot _).rdN (by decide +kernel)]
  split
  · exact ⟨(setPackState_facts c _).2, hset.rdN (by decide +kernel) 0, hset.rdN (by decide +kernel) 0⟩
  · exact ⟨endLearning_pack c, hend.rdN (by decide +kernel) 0, hend.rdN (by decide +kernel) 0⟩

/-- The state in which the result of a measurement is recorded. -/
def esrRecorded (s : State) (esr : Nat) : State :=
  bump (wr (modPack (endMeasure s) (fun x => { x with esrAt := s.now, measured := true })) Obj.PACK_ESR 0 (esr : Nat)) Obj.PACK_ESR_MEASUREMENTS 0 1

theorem esrRecorded_facts (s : State) (esr : Nat) :
    (esrRecorded s esr).pack.step = 0 ∧ rdN (esrRecorded s esr) Obj.PACK_ESR 0 = esr ∧ rdN (esrRecorded s esr) Obj.PACK_ESR_MEASUREMENTS 0 = (rdN s Obj.PACK_ESR_MEASUREMENTS 0 + 1) % 2 ^ 64 := by
  refine ⟨rfl, ?_, ?_⟩
  · rw [esrRecorded, rdN_bump_code (by decide), rdN_wr_same]
  · rw [esrRecorded, rdN_bump_same, rdN_wr_code (by decide), rdN_modPack, rdN_endMeasure]

/-- The state in which the baseline, the age and the ratio of a measurement are noted too. -/
def ratioNoted (a : State) (esr n : Nat) : State :=
  let b := wr (if rdN a Obj.PACK_ESR_BASELINE 0 = 0 then wr a Obj.PACK_ESR_BASELINE 0 (esr : Nat) else a) Obj.PACK_ESR_LAST_AGE 0 0
  let base := rdN b Obj.PACK_ESR_BASELINE 0
  wr b Obj.PACK_ESR_RATIO 0 ((if base = 0 ∨ 100 * esr / base ≥ 65536 then (Config.packRatio n).toNat else 100 * esr / base : Nat) : Int)

theorem ratioNoted_pack (a : State) (esr n : Nat) : (ratioNoted a esr n).pack = a.pack := by
  simp only [ratioNoted, wr_pack]
  split <;> rfl

theorem rdN_ratioNoted {o : ObjDesc} (a : State) (esr n : Nat) (hb : o.code ≠ Obj.PACK_ESR_BASELINE.code) (hl : o.code ≠ Obj.PACK_ESR_LAST_AGE.code) (hr : o.code ≠ Obj.PACK_ESR_RATIO.code) : rdN (ratioNoted a esr n) o 0 = rdN a o 0 := by
  simp only [ratioNoted]
  rw [rdN_wr_code hr, rdN_wr_code hl]
  split
  · rw [rdN_wr_code hb]
  · rfl

theorem measured_eq (s : State) (v i : Int) :
    measured s v i = settleMeasured (checkAgeing (ratioNoted (esrRecorded s ((esrOf s v i).getD (Config.packEsr (rdN s Obj.PACK_ESR_MEASUREMENTS 0)).toNat)) ((esrOf s v i).getD (Config.packEsr (rdN s Obj.PACK_ESR_MEASUREMENTS 0)).toNat)
      (rdN s Obj.PACK_ESR_MEASUREMENTS 0))) := rfl

/-- Settles O55: a sample is recorded and checked, the estimate is what its five registers were given, and a measurement goes from its due time over its two points to its result. -/
theorem packMeasurements : Obligations.PackMeasurements := by
  unfold Obligations.PackMeasurements
  refine ⟨fun s v ntc i temp hst hn => ?_, fun s v i temp hl _ => ?_, fun s hst => ?_, fun s hst => ?_, fun s _ => ?_, fun s h0 hl hd => ?_, fun s h0 => ?_, fun s h0 hl hd => ?_, fun s h0 hl hd => ?_, fun s h0 hdue hl hd => ?_, fun s h => ?_, fun s v i h1 => ?_, fun s v i h1 => ?_,
    fun s v i h2 _ => ?_, fun s v i h2 => ?_⟩
  case refine_1 =>
    subst hn
    have hstate := (packState_sampled s v i temp 0).trans hst
    have hcheck := checkTemp_of_disabled hstate
    have hgo := exec_packSample_of_not_stale (s := s) (v := v) (ntc := 0) (i := i) (temp := temp) (by rw [hcheck, hstate]; decide)
    rw [hcheck] at hgo
    have hkeep := noteCharge_keepsFoot (sampled s v i temp 0)
    refine ⟨_, hgo, ?_, ?_, ?_, ?_, (hkeep.rdN (by decide +kernel) 0).trans hstate⟩
    · rw [hkeep.rdN (by decide +kernel), sampled, rdN_modPack, if_pos rfl, rdN_wr_code (by decide), rdN_wr_code (by decide), rdN_wr_same]
    · rw [hkeep.rd (by decide +kernel), sampled, rd_modPack, if_pos rfl, rd_wr_code (by decide), rd_wr_same]
    · rw [hkeep.rd (by decide +kernel), sampled, rd_modPack, if_pos rfl, rd_wr_same]
    · rw [noteCharge_pack]
      rfl
  case refine_2 =>
    have hlive : packLive (sampled s v i temp 2) = true := by rwa [packLive, packState_sampled]
    have hcheck : checkTemp (sampled s v i temp 2) = packFault (sampled s v i temp 2) Pf.ntcShort := by
      simp only [checkTemp, show (sampled s v i temp 2).pack.ntc = 2 from rfl, if_true]
    have hstate := packFault_packState hlive Pf.ntcShort
    have hgo := exec_packSample_of_not_stale (s := s) (v := v) (ntc := 2) (i := i) (temp := temp) (by rw [hcheck, hstate]; decide)
    rw [hcheck] at hgo
    have hkeep := noteCharge_keepsFoot (packFault (sampled s v i temp 2) Pf.ntcShort)
    have hfault := packFault_keeps (cause := Pf.ntcShort) (Mask.le_self _) (Keeps.refl (sampled s v i temp 2))
    refine ⟨_, hgo, (hkeep.rdN (by decide +kernel) 0).trans hstate, ?_, ?_⟩
    · rw [hkeep.rdN (by decide +kernel), packFault_cause hlive]
    · rw [hkeep.rd (by decide +kernel), hfault.rd (by decide +kernel), sampled, rd_modPack, if_neg (by decide), rd_wr_code (by decide), rd_wr_code (by decide)]
  case refine_3 => exact congrArg Host.Outcome.next (if_pos hst)
  case refine_4 => exact congrArg Host.Outcome.next (if_neg hst)
  case refine_5 =>
    have hweir := recomputeWeir_keepsFoot (estimated s)
    rw [estimate_eq, hweir.rdN (by decide +kernel), hweir.rdN (by decide +kernel), hweir.rdN (by decide +kernel), hweir.rdN (by decide +kernel)]
    simp (disch := decide) only [estimated, rdN_wr_code, rdN_wr_same, and_self]
  case refine_6 =>
    have hgo : (measureNow s).2 = measureDue s := by simp [measureNow, h0, hl]
    exact ⟨_, congrArg Host.Outcome.next hgo, measureDue_of_ready h0 hd⟩
  case refine_7 => simp [exec, execPackEsrMeasureNow, measureNow, h0]
  case refine_8 => exact ⟨_, congrArg Host.Outcome.next (if_pos hl), measureDue_of_deferred h0 hd⟩
  case refine_9 => exact ⟨_, congrArg Host.Outcome.next (if_pos hl), (measureDue_of_ready h0 hd).1⟩
  case refine_10 => exact ⟨_, congrArg Host.Outcome.next (if_pos ⟨hdue, hl, by simp [hd]⟩), measureDue_of_ready h0 hd⟩
  case refine_11 =>
    refine congrArg Host.Outcome.next (if_neg fun ⟨hdue, _, hd⟩ => ?_)
    rcases h with h | h
    · simp [h] at hdue
    · simp [h] at hd
  case refine_12 => exact ⟨_, congrArg Host.Outcome.next (if_pos h1), rfl, rfl, rfl, Tbl.get_set_same _ _ _, rfl⟩
  case refine_13 => exact congrArg Host.Outcome.next (if_neg h1)
  case refine_14 =>
    generalize hesr : (esrOf s v i).getD (Config.packEsr (rdN s Obj.PACK_ESR_MEASUREMENTS 0)).toNat = esr
    have hdo := measured_eq s v i
    rw [hesr] at hdo
    obtain ⟨hstep, hres, hcount⟩ := esrRecorded_facts s esr
    generalize esrRecorded s esr = a at hdo hstep hres hcount
    obtain ⟨hpack, hsesr, hscount⟩ := settleMeasured_facts (checkAgeing (ratioNoted a esr (rdN s Obj.PACK_ESR_MEASUREMENTS 0)))
    have hage := checkAgeing_keeps (Mask.le_self _) (Keeps.refl (ratioNoted a esr (rdN s Obj.PACK_ESR_MEASUREMENTS 0)))
    refine ⟨_, congrArg Host.Outcome.next ((if_pos h2).trans hdo), ?_, ?_, ?_⟩
    · rw [hsesr, hage.rdN (by decide +kernel), rdN_ratioNoted _ _ _ (by decide) (by decide) (by decide), hres]
    · rw [hscount, hage.rdN (by decide +kernel), rdN_ratioNoted _ _ _ (by decide) (by decide) (by decide), hcount]
    · rw [hpack]
      exact checkAgeing_step (by rw [ratioNoted_pack, hstep])
  case refine_15 => exact congrArg Host.Outcome.next (if_neg h2)

end Sys2Proof.Machine

end

section
/-! PROOFS. The input of power: ACFAIL_N released after it was counted (R529). -/

namespace Sys2Proof.Machine

open Sys2Proof

-- The kernel evaluates closed facts below (masks of frames, concrete states): one declaration after another keeps the memory this takes small.
set_option Elab.async false

/-- A release of ACFAIL_N that the expiry has already acted on lifts the level and counts nothing. -/
theorem execAcfailRelease_of_low {s : State} (h : bitAt (rdN s Obj.INPUT_LEVELS 0) 1 = false) : execAcfailRelease s = .next (setLevel s 1 true) := by
  simp [execAcfailRelease, h]

/-- A module in STANDBY whose ACFAIL_N input reads low: an expiry has set the level and no dump was possible. -/
def acfailHeld : State :=
  wr State.reset Obj.INPUT_LEVELS 0 0

theorem acfailHeld_facts : acfailHeld.power.mode ≠ .dumping ∧ rdN acfailHeld Obj.INPUT_LEVELS 0 = 0 ∧ rdN acfailHeld Obj.PS_ACFAIL_EVENTS 0 = 0 := by decide +kernel

/-- Refutes O56: the statement counts every release of ACFAIL_N outside a dump, and the model only one that comes while the
input still reads high; in `acfailHeld` it reads low, and the count stays 0. -/
theorem not_powerInput : ¬ Obligations.PowerInput := by
  unfold Obligations.PowerInput
  rintro ⟨-, -, -, -, -, -, -, -, -, -, -, hrelease, -⟩
  obtain ⟨hmode, hlevel, hcount⟩ := acfailHeld_facts
  obtain ⟨t, ht, hevents, -⟩ := hrelease acfailHeld hmode
  have hstep : exec .acfailRelease acfailHeld = .next (setLevel acfailHeld 1 true) := execAcfailRelease_of_low (by rw [hlevel]; rfl)
  obtain rfl : setLevel acfailHeld 1 true = t := Host.Outcome.next.inj (hstep.symm.trans ht)
  rw [setLevel, rdN_wr_code (by decide), hcount] at hevents
  exact absurd hevents (by decide)

end Sys2Proof.Machine

end

section
/-! PROOFS. A stop during start-up: what becomes of the stop mark (R211, R212). -/

namespace Sys2Proof.Machine

open Sys2Proof

-- The kernel evaluates closed facts below (masks of frames, concrete states): one declaration after another keeps the memory this takes small.
set_option Elab.async false

theorem forRange_power {n : Nat} {f : Nat → State → State} (hf : ∀ i t, (f i t).power = t.power) (s : State) : (forRange n f s).power = s.power :=
  forRange_invariant (P := fun u => u.power = s.power) (fun i t _ h => (hf i t).trans h) rfl

/-- A main reset leaves the stop mark. -/
theorem mainReset_mark (s : State) : (mainReset s).power.mark = s.power.mark := by
  have hslots (t : State) : (noteSlots t).power = t.power := (noteSlots_keeps (Mask.le_self _) (Keeps.refl t)).parts .power (by decide)
  have hpools : (forRange 8 (fun p t => resetPoolSt t p) s).power = s.power := forRange_power (f := fun p t => resetPoolSt t p) (fun p t => rfl) s
  simp only [mainReset, hslots, wr_power, wrB_power]
  rw [forRange_power, forRange_power, forRange_power, forRange_power, hpools]
  case hf => exact fun p t => by split <;> rfl
  case hf => exact fun q t => rfl
  case hf => exact fun u t => rfl
  case hf => exact fun i t => by split <;> rfl

theorem auxOff_mark (s : State) : (auxOff s).power.mark = s.power.mark := by
  have hkeys : (loseKeys s).power = s.power := (loseKeys_keeps (Mask.le_self _) (Keeps.refl s)).parts .power (by decide)
  have hoff (u : State) : (setPs (modPower (auxDict u) (fun x => { x with aux := false, tripped := false, stepDone := false })) .off).power.mark = u.power.mark := rfl
  rw [auxOff, hoff, hkeys]

/-- Taking the rails down leaves the stop mark. -/
theorem railsOff_mark (s : State) (kind : Nat) (m : PsMode) : (railsOff s kind m).power.mark = s.power.mark := by
  have hreset := mainReset_mark (drive s .powerGood false)
  rw [drive_power] at hreset
  have hset (u : State) (m : PsMode) : (setPs u m).power.mark = u.power.mark := rfl
  have hkind (u : State) : (modPower u (fun x => { x with kind := kind })).power.mark = u.power.mark := rfl
  simp only [railsOff]
  split
  · rw [hset, hkind, hreset]
  · rw [auxOff_mark, hkind, hreset]

/-- A module in start-up step 3 whose last stop has left its mark. -/
def markedInStartUp : State :=
  { wr State.reset Obj.STARTUP_STEP 0 3 with power := { State.reset.power with mode := .running, mark := some (0, true) } }

theorem markedInStartUp_facts : running markedInStartUp = true ∧ rdN markedInStartUp Obj.STARTUP_STEP 0 = 3 ∧ markedInStartUp.power.mark = some (0, true) := by decide +kernel

/-- The state from which a stop before step 9 takes the rails down: the mark of the last stop is kept. -/
theorem startDump_of_startUp {s : State} {cause kind : Nat} (hr : running s = true) (hs : rdN s Obj.STARTUP_STEP 0 ≤ 8) :
    startDump s cause kind = railsOff (modPower (wr s Obj.PS_LAST_STOP_CAUSE 0 cause) (fun x => { x with kind := kind, dumpAt := s.now })) kind .standby := by
  have hstep : rdN (modPower (wr s Obj.PS_LAST_STOP_CAUSE 0 cause) (fun x => { x with kind := kind, dumpAt := s.now })) Obj.STARTUP_STEP 0 ≤ 8 := by
    rw [rdN_modPower, rdN_wr_code (by decide)]
    exact hs
  simp only [startDump, hr, hs, Bool.not_true, Bool.false_eq_true, if_false, if_true]
  exact if_pos hstep

/-- Refutes O57: the statement drops the stop mark of a stop before step 9, and the model keeps the mark that the last stop
left; in `markedInStartUp` it is (0, true) before the stop and after it. -/
theorem not_dumpsAndStops : ¬ Obligations.DumpsAndStops := by
  unfold Obligations.DumpsAndStops
  rintro ⟨-, hstop, -⟩
  obtain ⟨hrun, hstep, hmark⟩ := markedInStartUp_facts
  have hsame := congrArg (fun t => t.power.mark) (hstop markedInStartUp 0 0 hrun (by omega))
  rw [startDump_of_startUp hrun (by omega)] at hsame
  simp only [railsOff_mark, modPower, wr_power, hmark] at hsame
  contradiction

end Sys2Proof.Machine

end

section
/-! PROOFS. The start-up sequence: which slot step 5 may start (R554). -/

namespace Sys2Proof.Machine

open Sys2Proof

-- The kernel evaluates closed facts below (masks of frames, concrete states): one declaration after another keeps the memory this takes small.
set_option Elab.async false

/-- An image that passes every check of R554 at the security floor `svn`. -/
def goodImage (svn : Nat) : FwImage :=
  { formed := true, keyHash := signingHash, signed := true, digest := true, svn := svn, version := [], compat := 0 }

theorem verifyResult_goodImage (s : State) : verifyResult s (goodImage (rdN s Obj.FW_SVN_FLOOR 0)) = 1 := by
  simp [verifyResult, goodImage]

/-- Step 5 starts the image in the first slot that it looks at, where that image is good. -/
theorem bootChoice_of_first {s : State} {images : List FwImage} {img : FwImage} (himg : images[firstSlot s]? = some img) (hv : verifyResult s img = 1) : bootChoice s images = some (firstSlot s, img) := by
  simp [bootChoice, himg, hv]

/-- A module in start-up step 5 whose preferred slot reads 2. -/
def preferringSlot2 : State :=
  { wr (wr State.reset Obj.STARTUP_STEP 0 5) Obj.BOOT_SLOT_PREFERRED 0 2 with power := { State.reset.power with mode := .running } }

theorem preferringSlot2_facts : inStep preferringSlot2 5 = true ∧ rdN preferringSlot2 Obj.STARTUP_STEP 0 = 5 ∧ firstSlot (noteTime preferringSlot2 5) = 2 := by
  decide +kernel

/-- The results of step 5 with the same image found three times. -/
def threeImages (img : FwImage) : StartItem :=
  { block := false, words := [], images := [img, img, img], config := 0, engines := [], ways := [], pipes := [], wrapOk := false, dies := 0, bad := [], badOld := [] }

/-- Refutes O58: the statement has step 5 start slot 0 or 1 in every state, and the model takes the slot from
BOOT_SLOT_PREFERRED as it reads; with 2 there and three images given, slot 2 is chosen. -/
theorem not_startUp : ¬ Obligations.StartUp := by
  unfold Obligations.StartUp
  rintro ⟨-, -, -, hboot, -⟩
  obtain ⟨hin, hstep, hfirst⟩ := preferringSlot2_facts
  have hgood := verifyResult_goodImage (noteTime preferringSlot2 5)
  generalize goodImage (rdN (noteTime preferringSlot2 5) Obj.FW_SVN_FLOOR 0) = img at hgood
  have hchoice := bootChoice_of_first (images := (threeImages img).images) (by rw [hfirst]; rfl) hgood
  rw [hfirst] at hchoice
  have hlt : 2 < 2 := (hboot preferringSlot2 (threeImages img) 2 img hin hstep hchoice).1
  exact absurd hlt (by decide)

end Sys2Proof.Machine

end

section
/-! PROOFS. The firmware store: select, erase, write, verify, prefer and commit (R554 to R557). -/

namespace Sys2Proof.Machine

open Sys2Proof

/-! ## Verification -/

/-- What the header of a verified image leaves in its slot's objects. -/
theorem slotHeader_facts (s : State) (k : Nat) (x : FwImage) :
    rdN (slotHeader s k x) Obj.FW_SLOT_STATE k = 2 ∧ rdN (slotHeader s k x) Obj.FW_SLOT_COMPAT_LEVEL k = x.compat ∧ rdN (slotHeader s k x) Obj.FW_SLOT_SVN k = x.svn ∧ rdBytes (slotHeader s k x) Obj.FW_SLOT_VERSION k = x.version := by
  unfold slotHeader
  refine ⟨?_, ?_, ?_, ?_⟩
  · rw [rdN_wr_code (by decide), rdN_wr_code (by decide), rdN_wrBytes, rdN_wr_self]
    rfl
  · rw [rdN_wr_code (by decide), rdN_wr_same]
  · rw [rdN_wr_same]
  · rw [rdBytes_wr, rdBytes_wr, rdBytes_wrBytes_same]

theorem rdN_slotHeader {o : ObjDesc} (s : State) (k : Nat) (x : FwImage) (i : Nat) (hst : o.code ≠ Obj.FW_SLOT_STATE.code) (hc : o.code ≠ Obj.FW_SLOT_COMPAT_LEVEL.code) (hv : o.code ≠ Obj.FW_SLOT_SVN.code) :
    rdN (slotHeader s k x) o i = rdN s o i := by
  rw [slotHeader, rdN_wr_code hv, rdN_wr_code hc, rdN_wrBytes, rdN_wr_code hst]

/-- An image that passes every check verifies. -/
theorem verifyResult_of_good {s : State} {x : FwImage} (hf : x.formed = true) (hk : x.keyHash = signingHash) (hs : x.signed = true) (hd : x.digest = true) (hv : rdN s Obj.FW_SVN_FLOOR 0 ≤ x.svn) : verifyResult s x = 1 := by
  simp [verifyResult, hf, hk, hs, hd, Nat.not_lt.mpr hv]

/-- The slot's objects once its image has verified, before start-up may go on. -/
def slotVerified (s : State) (k : Nat) (x : FwImage) : State :=
  slotHeader (wr s Obj.FW_SLOT_RESULT k 1) k x

theorem fwVerify_of_good {s : State} {k : Nat} {x : FwImage} (hr : runningSlot s ≠ some k) (hv : verifyResult s x = 1) :
    (fwVerify s k x).2 = if rdN s Obj.STARTUP_FAULT 0 = Sf.bootImage then wr (wr (slotVerified s k x) Obj.STARTUP_FAULT 0 0) Obj.BOOT_SLOT_PREFERRED 0 k else slotVerified s k x := by
  have hfault : rdN (slotVerified s k x) Obj.STARTUP_FAULT 0 = rdN s Obj.STARTUP_FAULT 0 := by rw [slotVerified, rdN_slotHeader _ _ _ _ (by decide) (by decide) (by decide), rdN_wr_code (by decide)]
  simp only [fwVerify, hr, hv, if_false, ne_eq, not_true_eq_false]
  rw [← hfault]
  rfl

/-- A slot whose image fails a check is REJECTED with the result of that check. -/
theorem fwVerify_of_bad {s : State} {k r : Nat} {x : FwImage} (hr : runningSlot s ≠ some k) (hv : verifyResult s x = r) (h1 : r ≠ 1) : (fwVerify s k x).2 = wr (wr s Obj.FW_SLOT_RESULT k r) Obj.FW_SLOT_STATE k 3 := by
  simp [fwVerify, hr, hv, h1]

/-- Settles O59: each write of the firmware store is the branch that its conditions name. -/
theorem firmwareStore : Obligations.FirmwareStore := by
  unfold Obligations.FirmwareStore
  refine ⟨fun s v hv hr => ?_, fun s v h => ?_, fun s k hk hr => ?_, fun s k hr => ?_, fun s i b hi hb hu hr => ?_, fun s i b h => ?_, fun s k x hk hr hf hkey hs hd hv hfault => ?_, fun s k x hk hr hf hkey hs hd hv hfault => ?_, fun s k r x hk hr h => ?_, fun s v hv hst => ?_,
    fun s v hst => ?_, fun s => ?_, fun s v hv => ?_⟩
  case refine_1 =>
    have hgo : (fwUpdateSlot s v).2 = wr s Obj.FW_UPDATE_SLOT 0 v := by
      rw [fwUpdateSlot, if_neg (by omega), if_neg hr]
    exact ⟨_, congrArg Host.Outcome.next hgo, rdN_wr_same _ _ _ _⟩
  case refine_2 =>
    refine congrArg Host.Outcome.next ?_
    unfold fwUpdateSlot
    split_ifs with hrange hrun
    · rfl
    · rfl
    · exact (h.elim hrun hrange).elim
  case refine_3 =>
    refine ⟨_, congrArg Host.Outcome.next ((if_pos hk).trans (congrArg Prod.snd (if_neg hr))), ?_, ?_, ?_, fun i hi => ?_, fun i hi => ?_⟩
    · rw [rdN_wr_code (by decide), rdN_wr_code (by decide), rdN_wrBytes, rdN_wr_self, Int.toNat_zero]
    · rw [rdN_wr_self, Int.toNat_zero]
    · rw [rdN_wr_code (by decide), rdN_wr_self, Int.toNat_zero]
    · have hslot : (512 * k + i) / 512 = k := by omega
      exact Tbl.get_filterK_none _ (fun x => x / 512 != k) (by simp [hslot])
    · have hslot : (512 * (1 - k) + i) / 512 = 1 - k := by omega
      have hne : 1 - k ≠ k := by omega
      exact Tbl.get_filterK _ (fun x => x / 512 != k) (by simp [hslot, hne])
  case refine_4 => simp [exec, execFwSlotErase, fwErase, hr]
  case refine_5 =>
    have hgo : (fwData s i b).2 = wr (modPower s (fun x => { x with nor := Tbl.set x.nor (512 * rdN s Obj.FW_UPDATE_SLOT 0 + i) b })) Obj.FW_SLOT_STATE (rdN s Obj.FW_UPDATE_SLOT 0) 1 := by
      simp [fwData, Nat.not_lt.mpr hu, hr, hb]
    exact ⟨_, congrArg Host.Outcome.next ((if_pos hi).trans hgo), Tbl.get_set_same _ _ _, rdN_wr_self _ _ _ _⟩
  case refine_6 =>
    have hgo : (fwData s i b).2 = s := by
      simp only [fwData]
      split_ifs with hslot hlen
      · rfl
      · rfl
      · omega
    simp [exec, execFwSlotData, hgo]
  case refine_7 =>
    have hgo := fwVerify_of_good hr (verifyResult_of_good hf hkey hs hd hv)
    rw [if_neg hfault] at hgo
    obtain ⟨hst, hc, hsvn, hver⟩ := slotHeader_facts (wr s Obj.FW_SLOT_RESULT k 1) k x
    refine ⟨_, congrArg Host.Outcome.next ((if_pos hk).trans hgo), ?_, hst, hc, hsvn, hver, ?_⟩
    · rw [slotVerified, rdN_slotHeader _ _ _ _ (by decide) (by decide) (by decide), rdN_wr_self]
      rfl
    · rw [slotVerified, rdN_slotHeader _ _ _ _ (by decide) (by decide) (by decide), rdN_wr_code (by decide)]
  case refine_8 =>
    have hgo := fwVerify_of_good hr (verifyResult_of_good hf hkey hs hd hv)
    rw [if_pos hfault] at hgo
    refine ⟨_, congrArg Host.Outcome.next ((if_pos hk).trans hgo), ?_, rdN_wr_same _ _ _ _⟩
    rw [rdN_wr_code (by decide), rdN_wr_self, Int.toNat_zero]
  case refine_9 =>
    obtain ⟨hv, h1⟩ : verifyResult s x = r ∧ r ≠ 1 := by
      rcases h with ⟨hf, rfl⟩ | ⟨hf, hkey, rfl⟩ | ⟨hf, hkey, hs, rfl⟩ | ⟨hf, hkey, hs, hd, rfl⟩ | ⟨hf, hkey, hs, hd, hsvn, rfl⟩ <;> simp [verifyResult, *]
    refine ⟨_, congrArg Host.Outcome.next ((if_pos hk).trans (fwVerify_of_bad hr hv h1)), ?_, rdN_wr_self _ _ _ _⟩
    rw [rdN_wr_code (by decide), rdN_wr_same]
  case refine_10 =>
    have hgo : (preferSlot s v).2 = wr s Obj.BOOT_SLOT_PREFERRED 0 v := by simp [preferSlot, Nat.not_lt.mpr hv, hst]
    exact ⟨_, congrArg Host.Outcome.next hgo, rdN_wr_same _ _ _ _⟩
  case refine_11 =>
    refine congrArg Host.Outcome.next ?_
    unfold preferSlot
    split_ifs
    · rfl
    · rfl
  case refine_12 => exact ⟨_, congrArg Host.Outcome.next (congrArg Prod.snd (if_neg (by simp))), rd_wr_same _ _ _ _⟩
  case refine_13 => simp [exec, execFwSvnCommit, svnCommit, hv]

end Sys2Proof.Machine

end

section
/-! PROOFS. On-demand tests: what an HBM pattern test empties (R569). -/

namespace Sys2Proof.Machine

open Sys2Proof

-- The kernel evaluates closed facts below (masks of frames, concrete states): one declaration after another keeps the memory this takes small.
set_option Elab.async false

/-- A pattern test of an HBM stack drops the read-cache lines of that stack alone. -/
theorem testOp_hbmPattern_rc {s : State} (ht : s.power.test = none) (hc : conditionOk s 5 (rdN s Obj.TEST_TARGET 0) = true) (hp : patternOk s 5 (rdN s Obj.TEST_TARGET 0) = true) :
    (testOp s 5).2.cache.rc = s.cache.rc.filter (fun e => sliceOf (e.1 / 2 ^ 40) (e.1 % 2 ^ 40) != rdN s Obj.TEST_TARGET 0) := by
  simp only [testOp, ht, hc, hp, Option.isSome_none, Bool.not_true, Bool.false_eq_true, or_self, if_false, if_true]
  rfl

/-- A module whose test objects name stack 1 and the pattern 6, with sector 0 of volume 0 in the read cache. -/
def cachedSector : State :=
  { wr (wr State.reset Obj.TEST_PATTERN 0 6) Obj.TEST_TARGET 0 1 with cache := { State.reset.cache with rc := [(0, { md := Meta.zero, data := [], ref := false })] } }

theorem cachedSector_facts :
    rdN cachedSector Obj.TEST_TARGET 0 = 1 ∧ rdN cachedSector Obj.TEST_PATTERN 0 = 6 ∧ cachedSector.power.test = none ∧ cachedSector.cache.rc = [(0, { md := Meta.zero, data := [], ref := false })] := by
  decide +kernel

/-- Refutes O60: the statement has HBM_PATTERN empty the whole read cache, and the model drops the lines of the tested stack
alone; sector 0 of volume 0 lies in stack 0 and stays cached while stack 1 is tested. -/
theorem not_testsAndJtag : ¬ Obligations.TestsAndJtag := by
  unfold Obligations.TestsAndJtag
  rintro ⟨-, -, -, -, hpattern, -⟩
  obtain ⟨htarget, hpat, htest, hrc⟩ := cachedSector_facts
  have hslice : sliceOf 0 0 = 0 := by decide +kernel
  have hc : conditionOk cachedSector 5 (rdN cachedSector Obj.TEST_TARGET 0) = true := by simp [conditionOk, htarget]
  have hp : patternOk cachedSector 5 (rdN cachedSector Obj.TEST_TARGET 0) = true := by simp [patternOk, hpat]
  obtain ⟨t, ht, -, -, hempty⟩ := hpattern cachedSector htest hc hp
  obtain rfl : (testOp cachedSector 5).2 = t := Host.Outcome.next.inj ht
  rw [testOp_hbmPattern_rc htest hc hp, hrc, htarget] at hempty
  simp [hslice] at hempty

end Sys2Proof.Machine

end
